-- ==== Sys2Proof/Word.lean ====
section
/-! DEFINITION. The plain word types of the LM4128 model: bytes, sparse numbered maps, and the little and big
endian byte orders of R10. Everything a test could show wrong (rounding, narrowing, number formats) stands in
Machine/Operands.lean. -/

namespace Sys2Proof

/-- One byte. -/
abbrev Byte := BitVec 8

/-- A byte string: the value of a DOMAIN or STRING entry, an image, a payload. -/
abbrev Bytes := List Byte

/-- Sparse data by number: keys strictly rising, no entry equal to the default (`Map.wf`). -/
abbrev Map (α : Type) := List (Nat × α)

/-- The byte of value `n mod 256`. -/
abbrev byte (n : Nat) : Byte := BitVec.ofNat 8 n

end Sys2Proof
end

