-- ==== Sys2Proof/Operand.lean ====
section
/-! DEFINITION. The operand records that the commands of Syntax.lean carry. -/

namespace Sys2Proof

/-- Who makes an access (R440, R453): its path (0 PCIe, 1 UDP, 2 TurriLink, 3 work cores, 4 the module itself) and
its number on that path (function, peer, node, hart). -/
structure Requester where
  path : Nat
  id   : Nat
deriving DecidableEq, Repr

/-- The parameters of a motion command as `AX[n].4.02` to `06` hold them (R99, R131). -/
structure MoveParams where
  target : Int
  vel    : Int
  acc    : Int
  jerk   : Int
  seq    : Nat
deriving DecidableEq, Repr

/-- What the balls carry at a sample instant (R20): the digital inputs as bits, the analogue inputs as 18-bit codes
and the encoder counts. -/
structure SampleIn where
  di  : Nat
  ai  : List Int
  enc : List Int
deriving DecidableEq, Repr

/-- A frame as it arrives: its port as R554 numbers ports, the raw count of its start-of-frame delimiter at the balls, whether
its FCS is good, its bytes from the destination address up to the FCS. -/
structure FrameIn where
  port  : Nat
  raw   : Nat
  fcs   : Bool
  bytes : Bytes
deriving DecidableEq, Repr

/-- The machine's registers of a hart that a trap and an access check read (R250): mstatus, medeleg, mideleg, mtvec, stvec and the 16 PMP
entries, as the RISC-V privileged specification defines them. (PRESUMED, log 87, unsafe.) -/
structure HartCsr where
  mstatus : Nat := 0
  medeleg : Nat := 0
  mideleg : Nat := 0
  mtvec   : Nat := 0
  stvec   : Nat := 0
  pmpcfg  : List Nat := []
  pmpaddr : List Nat := []
deriving DecidableEq, Repr

/-- The registers of a hart as a park frame holds them (R279): x1 to x31, f0 to f31, fcsr, the pc, the privilege (0 U, 1 S, 3 M),
sstatus, satp, the faulting address and scause. (DESIGN CHOICE, log 84, safe.) -/
structure HartRegs where
  x       : List Nat := []
  f       : List Nat := []
  fcsr    : Nat := 0
  pc      : Nat := 0
  priv    : Nat := 3
  sstatus : Nat := 0
  satp    : Nat := 0
  va      : Nat := 0
  cause   : Nat := 0
deriving DecidableEq, Repr

/-- The context of a hart: the registers of a park frame, and outside the frame the machine's. -/
structure HartContext extends HartRegs where
  csr : HartCsr := {}
deriving DecidableEq, Repr

/-- The context of a hart whose machine's registers are `m`. -/
def HartRegs.under (r : HartRegs) (m : HartCsr) : HartContext := { toHartRegs := r, csr := m }

/-- Where a register write goes: an entry of the object dictionary (R435), a register of BAR0 at a byte offset (R448, R449,
R452), or a register of the ring pair of a hart (R455). -/
inductive RegPlace
  | entry (index sub : Nat)
  | bar0 (offset : Nat)
  | hartRing (h offset : Nat)
deriving DecidableEq, Repr

end Sys2Proof
end

