-- ==== Sys2Proof/Syntax.lean ====
section
/-! DEFINITION. The commands of the block: one constructor a row of spec/opcode_table.json, with the operands a
command carries from outside. An event of the spec that the block itself detects (an overrun, a timeout, an edge) is
a command too: the table lists it, and the world outside says when it comes. (DESIGN CHOICE, log 6 and log 20, safe.) -/

namespace Sys2Proof

/-- The commands of the block, one constructor a row of spec/opcode_table.json, in its order. -/
inductive Instr
  /-- SAMPLE_INSTANT (R20). -/
  | sampleInstant (si : SampleIn)
  /-- COMMAND_LATCH (R21). -/
  | commandLatch (reach : Nat)
  /-- PROFILE_OVERRUN (R31). -/
  | profileOverrun
  /-- CONTROL_ENGINE_RUN (R52). -/
  | controlEngineRun
  /-- CONTROL_OVERRUN (R31). -/
  | controlOverrun
  /-- FEEDBACK_LOST (R70). -/
  | feedbackLost (n : Nat)
  /-- FEEDBACK_FROZEN (R73). -/
  | feedbackFrozen (n : Nat)
  /-- SAT_WARN (R69). -/
  | satWarn (n : Nat) (level : Nat)
  /-- SAT_FAULT (R69). -/
  | satFault (n : Nat) (level : Nat)
  /-- LANE_FAULT (R82). -/
  | laneFault (lane : Nat)
  /-- LANE_SPARED (R81). -/
  | laneSpared (lane : Nat)
  /-- KINEMATICS_RUN (R142). -/
  | kinematicsRun
  /-- KINEMATICS_OVERRUN (R31). -/
  | kinematicsOverrun
  /-- TRACK_COPY (R168). -/
  | trackCopy
  /-- TRACK_TIMEOUT (R170). -/
  | trackTimeout (src : Nat)
  /-- DISTANCE_TESTING (R150). -/
  | distanceTesting (reach : Nat)
  /-- DISTANCE_OVERRUN (R31). -/
  | distanceOverrun
  /-- DISTANCE_UNIT_FAULT (R515). -/
  | distanceUnitFault (unit : Nat)
  /-- SEPARATION_EVALUATION (R176). -/
  | separationEvaluation
  /-- SEPARATION_OVERRUN (R31). -/
  | separationOverrun
  /-- CHANNEL_B_CROSS_CHECK (R187). -/
  | channelBCrossCheck
  /-- SSM_B_LATE (R188). -/
  | ssmBLate
  /-- SPEED_OVERRIDE_SWITCH (R25). -/
  | speedOverrideSwitch
  /-- AUTO_RESUME (R177). -/
  | autoResume (c : Nat)
  /-- STOP_MEASURED (R184). -/
  | stopMeasured (c : Nat)
  /-- COMMIT_REQUEST (R35). -/
  | commitRequest (req : Requester) (index : Nat) (sub : Nat) (cycle : Nat)
  /-- COMMIT_CUTOFF (R35). -/
  | commitCutoff
  /-- BANK_SWITCH (R35). -/
  | bankSwitch (index : Nat) (sub : Nat)
  /-- HELD_COMMIT_JUDGED (R39). -/
  | heldCommitJudged
  /-- CPI_FIRE (R40). -/
  | cpiFire (e : Nat)
  /-- COPY_ACTIVE (R88). -/
  | copyActive (n : Nat) (mask : Nat)
  /-- MOVE_ABS (R104). -/
  | moveAbs (n : Nat) (p : MoveParams)
  /-- MOVE_REL (R99). -/
  | moveRel (n : Nat) (p : MoveParams)
  /-- VELOCITY (R102). -/
  | velocity (n : Nat) (p : MoveParams)
  /-- HOLD (R99). -/
  | hold (n : Nat)
  /-- STOP (R102). -/
  | stop (n : Nat) (p : MoveParams)
  /-- QUICK_STOP (R106). -/
  | quickStop (n : Nat)
  /-- HOME (R119). -/
  | home (n : Nat)
  /-- GEAR (R115). -/
  | gear (n : Nat)
  /-- FOLLOW (R116). -/
  | follow (n : Nat)
  /-- SWITCH_ON (R96). -/
  | switchOn (n : Nat) (b : Bool)
  /-- ENABLE (R96). -/
  | enable (n : Nat) (b : Bool)
  /-- FAULT_ACK (R97). -/
  | faultAck (n : Nat)
  /-- TEST_REQ (R96). -/
  | testReq (n : Nat) (b : Bool)
  /-- PLAN_END (R95). -/
  | planEnd (n : Nat)
  /-- STANDSTILL (R96). -/
  | standstill (n : Nat)
  /-- LIMITS_WRITE (R101). -/
  | limitsWrite (n : Nat) (obj : Nat) (sub : Nat) (value : Int)
  /-- SOURCE_LOST (R118). -/
  | sourceLost (n : Nat)
  /-- APPEND (R108). -/
  | append (c : Nat) (record : Bytes)
  /-- SEGMENT_COMPLETE (R108). -/
  | segmentComplete (c : Nat)
  /-- RUN (R113). -/
  | run (c : Nat)
  /-- PAUSE (R113). -/
  | pause (c : Nat)
  /-- FLUSH (R113). -/
  | flush (c : Nat)
  /-- ABORT (R113). -/
  | abort (c : Nat)
  /-- ABORT_COMPLETE (R113). -/
  | abortComplete (c : Nat)
  /-- RAW_TRANSITION (R122). -/
  | rawTransition (input : Nat) (level : Bool) (raw : Nat)
  /-- QUALIFIED_EDGE (R122). -/
  | qualifiedEdge (n : Nat) (role : Nat) (level : Bool) (raw : Nat)
  /-- INDEX_PULSE (R119). -/
  | indexPulse (n : Nat) (raw : Nat)
  /-- HARD_STOP_DETECTED (R119). -/
  | hardStopDetected (n : Nat)
  /-- STUCK_ACTIVE (R125). -/
  | stuckActive (n : Nat) (role : Nat)
  /-- LATCH_ARM (R134). -/
  | latchArm (n : Nat) (edge : Nat)
  /-- LATCH_RESULT (R123). -/
  | latchResult (n : Nat)
  /-- REQUEST (R156). -/
  | request (c : Nat) (z : Nat)
  /-- RELEASE (R156). -/
  | release (c : Nat) (z : Nat)
  /-- FORCE_RELEASE (R160). -/
  | forceRelease (req : Requester) (z : Nat)
  /-- INJECTION_START (R197). -/
  | injectionStart (g : Nat)
  /-- INJECTION_STOP (R198). -/
  | injectionStop (g : Nat)
  /-- INJECTION_DONE (R198). -/
  | injectionDone (g : Nat)
  /-- CAPTURE_ARM (R203). -/
  | captureArm (g : Nat)
  /-- CAPTURE_ROW (R201). -/
  | captureRow (g : Nat)
  /-- CAPTURE_COMPLETE (R203). -/
  | captureComplete (g : Nat)
  /-- CAPTURE_STOP (R203). -/
  | captureStop (g : Nat)
  /-- LENGTH_WRITE (R204). -/
  | lengthWrite (g : Nat) (len : Nat)
  /-- JOB_RUN (R206). -/
  | jobRun (j : Nat)
  /-- JOB_START (R206). -/
  | jobStart (j : Nat) (e : Nat)
  /-- JOB_COMPLETE (R210). -/
  | jobComplete (j : Nat)
  /-- TRACKER_ENABLE (R211). -/
  | trackerEnable (t : Nat) (en : Bool)
  /-- TRACKER_STEP (R212). -/
  | trackerStep (t : Nat)
  /-- TRACKER_UPDATE (R214). -/
  | trackerUpdate (t : Nat)
  /-- ENGINE_MODE (R222). -/
  | engineMode (e : Nat) (mode : Nat)
  /-- LIBRARY_RELOAD (R222). -/
  | libraryReload (e : Nat)
  /-- ENGINE_START (R244). -/
  | engineStart (e : Nat)
  /-- ENGINE_STOP (R244). -/
  | engineStop (e : Nat)
  /-- ENGINE_RESET (R244). -/
  | engineReset (e : Nat)
  /-- AE_WATCHDOG (R243). -/
  | aeWatchdog (e : Nat)
  /-- WAIT_WAKE (R241). -/
  | waitWake (e : Nat)
  /-- DOORBELL (R245). -/
  | doorbell (e : Nat) (bits : Nat)
  /-- SIGNAL_CLEAR (R245). -/
  | signalClear (e : Nat) (bits : Nat)
  /-- NOP (R238). -/
  | aeNop (e : Nat)
  /-- LD (R238). -/
  | aeLd (e : Nat)
  /-- ST (R238). -/
  | aeSt (e : Nat)
  /-- LDXY (R238). -/
  | aeLdxy (e : Nat)
  /-- FTAP (R236). -/
  | aeFtap (e : Nat)
  /-- LDI (R238). -/
  | aeLdi (e : Nat)
  /-- MOV (R238). -/
  | aeMov (e : Nat)
  /-- MVA (R231). -/
  | aeMva (e : Nat)
  /-- MVDA (R231). -/
  | aeMvda (e : Nat)
  /-- AREG (R238). -/
  | aeAreg (e : Nat)
  /-- MVTA (R238). -/
  | aeMvta (e : Nat)
  /-- MVFA (R238). -/
  | aeMvfa (e : Nat)
  /-- CONJ (R238). -/
  | aeConj (e : Nat)
  /-- XCH (R238). -/
  | aeXch (e : Nat)
  /-- ADD (R238). -/
  | aeAdd (e : Nat)
  /-- SUB (R238). -/
  | aeSub (e : Nat)
  /-- NEG (R238). -/
  | aeNeg (e : Nat)
  /-- ABS (R238). -/
  | aeAbs (e : Nat)
  /-- MAX (R238). -/
  | aeMax (e : Nat)
  /-- MIN (R238). -/
  | aeMin (e : Nat)
  /-- AND (R238). -/
  | aeAnd (e : Nat)
  /-- OR (R238). -/
  | aeOr (e : Nat)
  /-- XOR (R238). -/
  | aeXor (e : Nat)
  /-- SHL (R238). -/
  | aeShl (e : Nat)
  /-- SHR (R238). -/
  | aeShr (e : Nat)
  /-- SRA (R230). -/
  | aeSra (e : Nat)
  /-- CMP (R237). -/
  | aeCmp (e : Nat)
  /-- BEXP (R233). -/
  | aeBexp (e : Nat)
  /-- ADDSUB (R238). -/
  | aeAddsub (e : Nat)
  /-- PLOG (R237). -/
  | aePlog (e : Nat)
  /-- MPY (R238). -/
  | aeMpy (e : Nat)
  /-- MAC (R238). -/
  | aeMac (e : Nat)
  /-- MSU (R238). -/
  | aeMsu (e : Nat)
  /-- CMPY32 (R238). -/
  | aeCmpy32 (e : Nat)
  /-- CMAC32 (R238). -/
  | aeCmac32 (e : Nat)
  /-- CMPY16 (R238). -/
  | aeCmpy16 (e : Nat)
  /-- CMAC16 (R238). -/
  | aeCmac16 (e : Nat)
  /-- CMUL32 (R232). -/
  | aeCmul32 (e : Nat)
  /-- CMUL16 (R232). -/
  | aeCmul16 (e : Nat)
  /-- ACLR (R238). -/
  | aeAclr (e : Nat)
  /-- ASH (R238). -/
  | aeAsh (e : Nat)
  /-- BR (R238). -/
  | aeBr (e : Nat)
  /-- CALL (R238). -/
  | aeCall (e : Nat)
  /-- RET (R238). -/
  | aeRet (e : Nat)
  /-- LOOP (R240). -/
  | aeLoop (e : Nat)
  /-- HALT (R238). -/
  | aeHalt (e : Nat)
  /-- SIG (R238). -/
  | aeSig (e : Nat)
  /-- WAIT (R241). -/
  | aeWait (e : Nat)
  /-- ASK (R260). -/
  | ask (h : Nat) (after : Nat)
  /-- ITEM_DISPATCH (R265). -/
  | itemDispatch (h : Nat)
  /-- ASK_TIMEOUT (R260). -/
  | askTimeout (h : Nat) (irq : Bool)
  /-- COMPLETE (R262). -/
  | complete (h : Nat) (value : Nat)
  /-- RESUME (R280). -/
  | resume (h : Nat) (value : Nat)
  /-- SUBMIT (R263). -/
  | submit (h : Nat) (desc : Bytes)
  /-- MAP_DONE (R280). -/
  | mapDone (value : Nat)
  /-- MAP_FAIL (R280). -/
  | mapFail (value : Nat)
  /-- DEADLINE_MISS (R271). -/
  | deadlineMiss (entry : Nat) (c : HartContext)
  /-- PAGE_FAULT (R279). -/
  | pageFault (h : Nat) (r : HartRegs) (m : HartCsr)
  /-- PREFETCH_PUSH (R273). -/
  | prefetchPush (h : Nat)
  /-- JOURNAL_RECORD_WRITTEN (R274). -/
  | journalRecordWritten (slot : Nat)
  /-- CORE_LOSS (R275). -/
  | coreLoss (what : Nat) (k : Nat) (c : HartContext)
  /-- RETIRE_GRACE_EXPIRY (R275). -/
  | retireGraceExpiry (k : Nat)
  /-- SFENCE_VMA (R278). -/
  | sfenceVma (h : Nat)
  /-- FENCE_I (R252). -/
  | fenceI (h : Nat)
  /-- DMA_START (R282). -/
  | dmaStart (ch : Nat)
  /-- DMA_RESUME (R285). -/
  | dmaResume (ch : Nat)
  /-- DMA_STOP (R297). -/
  | dmaStop (ch : Nat) (off : Nat)
  /-- DMA_ABANDON (R297). -/
  | dmaAbandon (ch : Nat)
  /-- DMA_DESCRIPTOR_COMPLETE (R286). -/
  | dmaDescriptorComplete (ch : Nat)
  /-- DMA_FAULT (R285). -/
  | dmaFault (ch : Nat) (off : Nat) (cause : Nat) (write : Bool)
  /-- IOTLB_INVAL (R283). -/
  | iotlbInval (value : Nat)
  /-- SYNC_FRAME (R323). -/
  | syncFrame (f : FrameIn)
  /-- COLDSTART_FRAME (R319). -/
  | coldstartFrame (f : FrameIn)
  /-- CYCLIC_FRAME (R306). -/
  | cyclicFrame (f : FrameIn)
  /-- GATHER_FRAME (R307). -/
  | gatherFrame (f : FrameIn)
  /-- ACYCLIC_FRAME (R331). -/
  | acyclicFrame (f : FrameIn)
  /-- SAFETY_FRAME (R330). -/
  | safetyFrame (f : FrameIn)
  /-- LINK_DELAY_REQUEST (R324). -/
  | linkDelayRequest (f : FrameIn) (depart : Nat)
  /-- LINK_DELAY_RESPONSE (R324). -/
  | linkDelayResponse (f : FrameIn) (skipped : Nat) (latency : Nat)
  /-- FRAME_TRANSMIT (R314). -/
  | frameTransmit (e : Nat) (agree : Bool)
  /-- SLOT_OCCURRENCE (R306). -/
  | slotOccurrence (e : Nat)
  /-- SYNC_CORRECTION (R323). -/
  | syncCorrection
  /-- LISTEN_TIMEOUT (R318). -/
  | listenTimeout
  /-- COLDSTART_LEAD (R319). -/
  | coldstartLead
  /-- INTEGRATION_COMPLETE (R319). -/
  | integrationComplete
  /-- INTEGRATION_TIMEOUT (R319). -/
  | integrationTimeout
  /-- LINK_WINDOW (R324). -/
  | linkWindow (off : Nat)
  /-- NET_CONTROL (R339). -/
  | netControl (value : Nat)
  /-- LINK_DOWN (R300). -/
  | linkDown (p : Nat)
  /-- LINK_UP (R334). -/
  | linkUp (p : Nat)
  /-- SAFE_CONN_TIMEOUT (R330). -/
  | safeConnTimeout (k : Nat)
  /-- ACYC_TIMEOUT (R332). -/
  | acycTimeout (txn : Nat)
  /-- WALL_RATE (R349). -/
  | wallRate (rate : Nat)
  /-- WALL_STEP_NS (R349). -/
  | wallStepNs (ns : Int)
  /-- WALL_SET (R349). -/
  | wallSet (time : Int)
  /-- TIME_SNAPSHOT (R352). -/
  | timeSnapshot
  /-- PTP_MODE (R364). -/
  | ptpMode (mode : Nat)
  /-- PTP_SYNC (R353). -/
  | ptpSync (p : Nat) (raw : Nat) (m : Bytes)
  /-- PTP_FOLLOW_UP (R353). -/
  | ptpFollowUp (p : Nat) (m : Bytes)
  /-- PTP_PDELAY_REQ (R355). -/
  | ptpPdelayReq (p : Nat) (raw : Nat) (m : Bytes) (txRaw : Nat)
  /-- PTP_PDELAY_RESP (R353). -/
  | ptpPdelayResp (p : Nat) (raw : Nat) (m : Bytes)
  /-- PTP_PDELAY_RESP_FOLLOW_UP (R353). -/
  | ptpPdelayRespFollowUp (p : Nat) (m : Bytes)
  /-- PTP_ANNOUNCE (R353). -/
  | ptpAnnounce (p : Nat) (m : Bytes)
  /-- PTP_DELAY_REQ (R353). -/
  | ptpDelayReq (p : Nat)
  /-- PTP_SYNC_TRANSMIT (R355). -/
  | ptpSyncTransmit (p : Nat) (raw : Nat)
  /-- ARM (R357). -/
  | arm (e : Nat)
  /-- DISARM (R359). -/
  | disarm (e : Nat)
  /-- ACTION_TAKEN (R359). -/
  | actionTaken (e : Nat)
  /-- SET_DO (R359). -/
  | setDo (e : Nat)
  /-- CLEAR_DO (R359). -/
  | clearDo (e : Nat)
  /-- ARM_LATCH (R359). -/
  | armLatch (e : Nat)
  /-- RAISE_IRQ (R359). -/
  | raiseIrq (e : Nat)
  /-- WRITE_OD (R359). -/
  | writeOd (e : Nat)
  /-- COMMIT_ACTION (R359). -/
  | commitAction (e : Nat)
  /-- SAFE_INPUT_QUALIFIED (R370). -/
  | safeInputQualified (i : Nat) (level : Bool) (raw : Nat)
  /-- SI_DISCREPANCY (R371). -/
  | siDiscrepancy (k : Nat)
  /-- DEMAND_EXCHANGE (R366). -/
  | demandExchange (axes : List (Nat × Nat)) (outs : List Nat)
  /-- CHANNEL_LOST (R367). -/
  | channelLost (ch : Nat)
  /-- TEST_SLOT (R376). -/
  | testSlot (k : Nat)
  /-- PULSE_END (R378). -/
  | pulseEnd (k : Nat) (low : Bool)
  /-- SO_READBACK_FAULT (R377). -/
  | soReadbackFault (k : Nat)
  /-- ACK (R378). -/
  | ack (k : Nat) (high : Bool)
  /-- AXIS_MONITORING (R381). -/
  | axisMonitoring
  /-- SS_T_MAX_EXPIRY (R383). -/
  | ssTMaxExpiry (n : Nat)
  /-- SS2_TIMEOUT (R385). -/
  | ss2Timeout (n : Nat)
  /-- SLS_ACTIVE (R387). -/
  | slsActive (chain : Bool) (n : Nat)
  /-- SESSION_OPEN (R398). -/
  | sessionOpen (req : Requester) (data : Bytes)
  /-- SESSION_CLOSE (R398). -/
  | sessionClose (req : Requester)
  /-- SESSION_TIMEOUT (R398). -/
  | sessionTimeout
  /-- PASSWORD_SET (R397). -/
  | passwordSet (req : Requester) (data : Bytes)
  /-- PARTNER_LISTEN_END (R411). -/
  | partnerListenEnd
  /-- DUPLEX_SECONDARY_TIMEOUT (R411). -/
  | duplexSecondaryTimeout
  /-- SHADOW_CHECK (R418). -/
  | shadowCheck (agree : Bool)
  /-- HOARD_WRITE_CAPTURE (R420). -/
  | hoardWriteCapture (addr : Nat) (data : Bytes)
  /-- GENERATION_CLOSE (R420). -/
  | generationClose
  /-- CKPT_LAG (R422). -/
  | ckptLag
  /-- CKPT_ACK_TIMEOUT (R421). -/
  | ckptAckTimeout
  /-- PAGE_RECORD (R421). -/
  | pageRecord (f : FrameIn)
  /-- CTRL_RECORD (R421). -/
  | ctrlRecord (f : FrameIn)
  /-- JOURNAL_RECORD (R421). -/
  | journalRecord (f : FrameIn)
  /-- CONFIG_RECORD (R421). -/
  | configRecord (f : FrameIn)
  /-- CLOSE_RECORD (R421). -/
  | closeRecord (f : FrameIn)
  /-- SWEEP_RECORD (R428). -/
  | sweepRecord (f : FrameIn)
  /-- HEARTBEAT (R419). -/
  | heartbeat (f : FrameIn)
  /-- FAIL_RECORD (R423). -/
  | failRecord (f : FrameIn)
  /-- SILENCE_EVALUATION (R423). -/
  | silenceEvaluation
  /-- OWL_DECISION (R424). -/
  | owlDecision
  /-- OWL_LOST (R424). -/
  | owlLost
  /-- TAKEOVER_RELEASE (R425). -/
  | takeoverRelease
  /-- FEED_LOSS (R430). -/
  | feedLoss (i : Nat)
  /-- FEED_RESTORED (R430). -/
  | feedRestored (i : Nat)
  /-- READ (R442). -/
  | read (req : Requester) (index : Nat) (sub : Nat)
  /-- WRITE (R440). -/
  | write (req : Requester) (index : Nat) (sub : Nat) (data : Bytes)
  /-- DREAD (R444). -/
  | dread (req : Requester) (index : Nat) (sub : Nat) (off : Nat) (len : Nat)
  /-- DWRITE (R444). -/
  | dwrite (req : Requester) (index : Nat) (sub : Nat) (off : Nat) (total : Nat) (last : Bool) (data : Bytes)
  /-- DABORT (R444). -/
  | dabort (req : Requester) (index : Nat) (sub : Nat)
  /-- COMMIT (R445). -/
  | commit (req : Requester) (cycle : Nat) (policy : Nat) (targets : List (Nat × Nat))
  /-- DIGEST (R442). -/
  | digest (req : Requester) (index : Nat) (sub : Nat)
  /-- ENUMERATE (R443). -/
  | enumerate (req : Requester) (index : Nat) (sub : Nat) (count : Nat)
  /-- OD_TRANSFER_TIMEOUT (R444). -/
  | odTransferTimeout (index : Nat) (sub : Nat)
  /-- REQ_TAIL (R448). -/
  | reqTail (ring : Nat) (value : Nat)
  /-- SIZE (R449). -/
  | size (ring : Nat) (value : Nat)
  /-- RSP_HEAD (R449). -/
  | rspHead (ring : Nat) (value : Nat)
  /-- RING_REQUEST_FETCH (R449). -/
  | ringRequestFetch (ring : Nat) (entry : Bytes) (pdu : Bytes) (ok : Bool)
  /-- HOST_DMA_START (R452). -/
  | hostDmaStart (ch : Nat)
  /-- HOST_DMA_STOP (R452). -/
  | hostDmaStop (ch : Nat)
  /-- HOST_DMA_COMPLETE (R452). -/
  | hostDmaComplete (ch : Nat) (data : Bytes)
  /-- WINDOW_READ (R454). -/
  | windowRead (req : Requester) (offset : Nat) (size : Nat)
  /-- WINDOW_WRITE (R453). -/
  | windowWrite (req : Requester) (offset : Nat) (data : Bytes)
  /-- UDP_DATAGRAM (R456). -/
  | udpDatagram (p : Nat) (peer : Nat) (dst : Nat) (data : Bytes)
  /-- DEV_CONTROL_RUN (R458). -/
  | devControlRun
  /-- DEV_CONTROL_SAFE (R458). -/
  | devControlSafe
  /-- DEV_CONTROL_CONFIG (R458). -/
  | devControlConfig
  /-- VALIDATE (R458). -/
  | validate
  /-- DEV_CONTROL_RESET (R458). -/
  | devControlReset
  /-- STORE_GENERATION (R460). -/
  | storeGeneration (ok : Bool)
  /-- STORE_FLUSH (R460). -/
  | storeFlush (ok : Bool)
  /-- REGISTER_WRITE (R437). -/
  | registerWrite (req : Requester) (place : RegPlace) (data : Bytes)
  /-- RESET_RELEASE (R531). -/
  | resetRelease (feeds : Nat) (secs : Nat) (mv : List Nat)
  /-- BOOT_START (R475). -/
  | bootStart (fail : Nat) (unit : Nat)
  /-- BOOT_STEP_TIMEOUT (R474). -/
  | bootStepTimeout (step : Nat)
  /-- OPEN (R479). -/
  | updateOpen (req : Requester) (data : Bytes)
  /-- BIND (R481). -/
  | bind (req : Requester) (token : Nat)
  /-- IMAGE_STAGED (R481). -/
  | imageStaged
  /-- ABANDON (R482). -/
  | updateAbandon (req : Requester)
  /-- UPDATE_SESSION_TIMEOUT (R482). -/
  | updateSessionTimeout
  /-- ACTIVATE (R483). -/
  | activate (req : Requester) (value : Nat)
  /-- CONFIRM (R485). -/
  | confirm (req : Requester)
  /-- LPDDR_RETRY (R497). -/
  | lpddrRetry
  /-- APP_KEY_ENROLL (R490). -/
  | appKeyEnroll (req : Requester) (data : Bytes)
  /-- CHALLENGE (R491). -/
  | challenge
  /-- UNLOCK (R492). -/
  | unlock (token : Bytes)
  /-- IDCODE (R492). -/
  | idcode
  /-- BYPASS (R492). -/
  | bypass
  /-- SAMPLE_PRELOAD (R492). -/
  | samplePreload
  /-- ATTEST_REQUEST (R495). -/
  | attestRequest (nonce : Bytes)
  /-- REPORT_READY (R495). -/
  | reportReady
  /-- HART_COUNTER_OVERFLOW (R503). -/
  | hartCounterOverflow (h : Nat) (i : Nat) (r : HartRegs) (m : HartCsr)
  /-- COUNTER_OVERFLOW (R504). -/
  | counterOverflow (b : Nat) (i : Nat)
  /-- COUNTER_SNAPSHOT (R505). -/
  | counterSnapshot
  /-- SNAPSHOT_LATCH (R505). -/
  | snapshotLatch
  /-- FREEZE (R506). -/
  | freeze (on : Bool)
  /-- FREEZE_APPLY (R506). -/
  | freezeApply
  /-- WINDOW_NS (R507). -/
  | windowNs (ns : Nat)
  /-- BANDWIDTH_WINDOW_END (R507). -/
  | bandwidthWindowEnd (bytes : List (Nat × Nat))
  /-- CORRECTED_ERROR (R509). -/
  | correctedError (kind : Nat) (n : Nat) (addr : Nat) (sym : Nat) (pat : Nat)
  /-- UNCORRECTABLE_ERROR (R509). -/
  | uncorrectableError (kind : Nat) (n : Nat) (addr : Nat) (who : Nat) (e : Nat) (c : HartContext)
  /-- SCRUB_READ (R510). -/
  | scrubRead (kind : Nat) (n : Nat) (addr : Nat) (err : Nat) (pat : Nat) (raced : Bool)
  /-- SENSOR_READING (R511). -/
  | sensorReading (sensor : Nat) (n : Nat) (v : Int)
  /-- SPARE_POLICY_EVALUATION (R513). -/
  | sparePolicyEvaluation
  /-- RETIRE (R513). -/
  | retire (value : Nat)
  /-- PAGE_RETIRED (R514). -/
  | pageRetired (kind : Nat) (n : Nat)
  /-- UNIT_RETIRED (R515). -/
  | unitRetired (kind : Nat) (n : Nat)
  /-- RESET_N (R532). -/
  | resetN (step : Nat)
  /-- PERST_N (R532). -/
  | perstN (high : Bool)
  /-- POWER_LOSS_STOP (R533). -/
  | powerLossStop (step : Nat)
  /-- REFCLK_FAULT (R530). -/
  | refclkFault
  /-- BANK_POWER_LOSS (R537). -/
  | bankPowerLoss (b : Nat) (mv : Nat)
  /-- BANK_POWER_RESTORED (R537). -/
  | bankPowerRestored (b : Nat) (mv : Nat)
  /-- LID_TEMP_READING (R546). -/
  | lidTempReading (code : Nat)
  /-- TEMP_CRITICAL (R546). -/
  | tempCritical
  /-- VBAT_LOSS (R528). -/
  | vbatLoss
  /-- LOCKSTEP_MISMATCH (R417). -/
  | lockstepMismatch
  /-- RX_DROP_OTHER (R299). -/
  | rxDropOther (f : FrameIn)
  /-- VBAT_APPLIED (R528). -/
  | vbatApplied
  /-- SESSION_LOCKOUT_END (R398). -/
  | sessionLockoutEnd
  /-- ON_CHECK_TIMEOUT (R378). -/
  | onCheckTimeout (k : Nat)
  /-- PLIC_CLAIM (R46). -/
  | plicClaim (src : Nat)
  /-- ACCESS_FAULT (R253). -/
  | accessFault (h : Nat) (kind : Nat) (addr : Nat) (size : Nat) (r : HartRegs) (m : HartCsr)
  /-- ILLEGAL_INSTRUCTION (R250). -/
  | illegalInstruction (h : Nat) (r : HartRegs) (tval : Nat) (m : HartCsr)
  /-- PTP_PDELAY_REQ_TRANSMIT (R353). -/
  | ptpPdelayReqTransmit (p : Nat) (raw : Nat)
  /-- PTP_ANNOUNCE_TRANSMIT (R353). -/
  | ptpAnnounceTransmit (p : Nat)
  /-- ANNOUNCE_RECEIPT_TIMEOUT (R350). -/
  | announceReceiptTimeout (p : Nat)
deriving DecidableEq, Repr

end Sys2Proof
end

