-- ==== Sys2Proof/Decode.lean ====
section
/-! DEFINITION. The words of the commands: none of the rows of spec/opcode_table.json gives its command bits, so no word spells a
command. -/

namespace Sys2Proof

/-- The command that a word of `nbits` bits spells: none, the table giving bits to no row. (DESIGN CHOICE, log 7, safe.) -/
def decodeTableWord (_nbits _w : Nat) : Option Instr := none

end Sys2Proof
end

