-- ==== Sys2Proof/Machine/Entry.lean ====
section
/-! DEFINITION. What an entry of the object dictionary is (R435 to R438): its type, its access, its range, its
default, and how a value is narrowed to its type. -/

namespace Sys2Proof.Machine

/-- The types of R436, in the order of their codes. -/
inductive OdType
  | bool | u8 | u16 | u32 | u64 | i8 | i16 | i32 | i64 | frac | coef | fix | f32 | time | digest | str | dom
deriving DecidableEq, Repr

/-- The access codes of R437, in the order of R443. -/
inductive Access
  | ro | wo | rw | w1c | rwc | sl
deriving DecidableEq, Repr

/-- The range an entry's Meaning gives (R436). -/
inductive Rng
  | any
  | span (lo hi : Int)
  | orSpan (v lo hi : Int)
  | oneOf (vals : List Int)
deriving DecidableEq, Repr

/-- One entry: `dflt + mul * instance` is its default; the flags say whether it is STORED (R438), FACTORY,
banked (staged in place, R435), a count cleared by any write (R437), and outside the configuration digest (R461);
`size` is the largest length of a DOMAIN or STRING. -/
structure Entry where
  sub     : Nat
  ty      : OdType
  acc     : Access
  dflt    : Int
  mul     : Int
  rng     : Rng
  stored  : Bool
  factory : Bool
  banked  : Bool
  count   : Bool
  outside : Bool
  size    : Nat
deriving DecidableEq, Repr

/-- One row of the catalogue; the flag bits from bit 0: stored, factory, banked, count, outside the digest. -/
def row (sub : Nat) (ty : OdType) (acc : Access) (dflt mul : Int) (rng : Rng) (flags size : Nat) : Entry :=
  { sub, ty, acc, dflt, mul, rng, size,
    stored := flags.testBit 0, factory := flags.testBit 1, banked := flags.testBit 2,
    count := flags.testBit 3, outside := flags.testBit 4 }

/-- Indices `base + stride * i` for `i < count`, each with the entries `rows`. -/
structure Block where
  base   : Nat
  stride : Nat
  count  : Nat
  rows   : List Entry
deriving DecidableEq, Repr

/-- The instance of a block that an index names. -/
def Block.inst (b : Block) (index : Nat) : Option Nat :=
  if index < b.base then none
  else if (index - b.base) % b.stride = 0 ∧ (index - b.base) / b.stride < b.count then some ((index - b.base) / b.stride)
  else none

/-- The code of a type (R436). -/
def OdType.code : OdType → Nat
  | .bool => 1 | .u8 => 2 | .u16 => 3 | .u32 => 4 | .u64 => 5 | .i8 => 6 | .i16 => 7 | .i32 => 8 | .i64 => 9
  | .frac => 10 | .coef => 11 | .fix => 12 | .f32 => 13 | .time => 14 | .digest => 15 | .str => 16 | .dom => 17

/-- The size of a scalar type in bytes (R436); 0 for STRING and DOMAIN. -/
def OdType.size : OdType → Nat
  | .bool => 1 | .u8 => 1 | .u16 => 2 | .u32 => 4 | .u64 => 8 | .i8 => 1 | .i16 => 2 | .i32 => 4 | .i64 => 8
  | .frac => 4 | .coef => 4 | .fix => 8 | .f32 => 4 | .time => 14 | .digest => 16 | .str => 0 | .dom => 0

/-- Whether a type's values are two's complement numbers. -/
def OdType.signed : OdType → Bool
  | .i8 | .i16 | .i32 | .i64 | .frac | .coef | .fix => true
  | _ => false

/-- The code of an access (R443). -/
def Access.code : Access → Nat
  | .ro => 1 | .wo => 2 | .rw => 3 | .w1c => 4 | .rwc => 5 | .sl => 6

/-- `n` read as a number of `8 * size` bits, signed or not. -/
def OdType.wrap (t : OdType) (n : Int) : Int :=
  if t.signed then n.bmod (2 ^ (8 * t.size)) else n % (2 ^ (8 * t.size) : Int)

/-- Whether `v` lies in a range. -/
def Rng.has (r : Rng) (v : Int) : Bool :=
  match r with
  | .any => true
  | .span lo hi => decide (lo ≤ v ∧ v ≤ hi)
  | .orSpan u lo hi => decide (v = u ∨ (lo ≤ v ∧ v ≤ hi))
  | .oneOf vals => vals.contains v

end Sys2Proof.Machine
end

