-- ==== Sys2Proof/Machine/Catalog.lean ====
section
/-! DEFINITION. The object dictionary's entries as the object tables of spec/01 to spec/16 list them: one list a
block of indices (`blkXXXX`; `blkAXk` is `AX[n].k`, `blkCHk` is `CH[c].k`, R11), one row an entry: sub-index, type,
access, default, range, flags and, for DOMAIN and STRING, the largest length. Then the numbers of the entries by
name (`Reg`). A default the tables do not give is 0 or empty (DESIGN CHOICE, log 2, unsafe). -/

namespace Sys2Proof.Machine

/-- R43 of spec/01_tick_and_cycle.md. -/
def blk1100 : List Entry := [
  row 0x01 .u32 .ro 0 0 .any 0 0,
  row 0x02 .u8 .ro 0 0 .any 0 0,
  row 0x03 .u64 .ro 0 0 .any 0 0,
  row 0x04 .time .ro 0 0 .any 0 0,
  row 0x05 .u64 .ro 0 0 .any 0 0]

/-- R44 of spec/01_tick_and_cycle.md. -/
def blk1101 : List Entry := [
  row 0x01 .u16 .w1c 0 0 .any 0 0,
  row 0x02 .u32 .w1c 0 0 .any 8 0,
  row 0x03 .u32 .w1c 0 0 .any 8 0,
  row 0x04 .u32 .w1c 0 0 .any 8 0,
  row 0x05 .u32 .w1c 0 0 .any 8 0,
  row 0x06 .u32 .w1c 0 0 .any 8 0,
  row 0x07 .u32 .ro 0 0 .any 0 0,
  row 0x08 .u8 .ro 0 0 .any 0 0]

/-- R45 of spec/01_tick_and_cycle.md. -/
def blk1102 : List Entry := [
  row 0x01 .u16 .ro 0 0 .any 0 0,
  row 0x02 .u16 .ro 0 0 .any 0 0,
  row 0x03 .u16 .ro 0 0 .any 0 0,
  row 0x04 .u16 .ro 0 0 .any 0 0,
  row 0x05 .u16 .ro 0 0 .any 0 0,
  row 0x06 .u16 .ro 0 0 .any 0 0,
  row 0x07 .u16 .ro 0 0 .any 0 0,
  row 0x08 .u16 .ro 0 0 .any 0 0,
  row 0x09 .u32 .ro 0 0 .any 0 0,
  row 0x0A .u32 .ro 0 0 .any 0 0,
  row 0x0B .u32 .ro 0 0 .any 0 0,
  row 0x0C .u32 .ro 0 0 .any 0 0,
  row 0x0D .u32 .ro 0 0 .any 0 0,
  row 0x0E .u32 .ro 0 0 .any 0 0,
  row 0x0F .u32 .ro 0 0 .any 0 0,
  row 0x10 .u32 .ro 0 0 .any 0 0,
  row 0x11 .u32 .ro 0 0 .any 0 0,
  row 0x12 .u32 .ro 0 0 .any 0 0,
  row 0x13 .u32 .ro 0 0 .any 0 0]

/-- R46 of spec/01_tick_and_cycle.md. -/
def blk1110 : List Entry := [
  row 0x01 .u8 .rw 0 0 (.span 0 2) 1 0,
  row 0x02 .u32 .rw 0 0 .any 1 0,
  row 0x03 .u8 .rw 0 0 (.span 0 47) 1 0,
  row 0x04 .u16 .ro 32 1 .any 0 0,
  row 0x05 .u32 .w1c 0 0 .any 8 0]

/-- R86 of spec/02_control_engine.md. -/
def blkAX7 : List Entry := [
  row 0x01 .u8 .rw 0 0 (.span 0 1) 1 0,
  row 0x02 .bool .rw 0 0 .any 1 0,
  row 0x03 .u8 .rw 1 0 (.oneOf [1, 2, 4]) 1 0,
  row 0x04 .u8 .rw 1 0 (.oneOf [1, 2, 4, 8]) 1 0,
  row 0x05 .u8 .rw 8 0 .any 1 0,
  row 0x06 .u8 .rw 8 0 .any 1 0,
  row 0x07 .u8 .rw 0 0 .any 1 0,
  row 0x08 .u8 .rw 0 0 .any 1 0,
  row 0x09 .u8 .rw 0 0 .any 1 0,
  row 0x0A .u8 .rw 0 0 .any 1 0,
  row 0x0B .u8 .rw 0 0 (.span 0 7) 1 0,
  row 0x0C .i8 .rw 5 0 .any 1 0,
  row 0x0D .i8 .rw 5 0 .any 1 0,
  row 0x0E .i8 .rw (-4) 0 .any 1 0,
  row 0x0F .i8 .rw 12 0 .any 1 0,
  row 0x10 .i8 .rw 4 0 .any 1 0,
  row 0x11 .u8 .rw 0 0 .any 1 0,
  row 0x12 .u8 .rw 0 0 .any 1 0,
  row 0x13 .u32 .rw 600000 0 .any 1 0,
  row 0x14 .u8 .rw 50 0 (.span 25 100) 1 0,
  row 0x15 .u16 .rw 128 0 .any 1 0,
  row 0x16 .u16 .rw 3200 0 .any 1 0,
  row 0x17 .u8 .ro 0 0 .any 0 0,
  row 0x18 .u8 .rw 0 0 (.span 0 1) 1 0]

/-- R87 of spec/02_control_engine.md. -/
def blkAX8 : List Entry := [
  row 0x01 .u8 .ro 0 0 .any 0 0,
  row 0x02 .u16 .w1c 0 0 .any 0 0,
  row 0x03 .u16 .ro 0 0 .any 0 0,
  row 0x04 .u16 .ro 0 0 .any 0 0,
  row 0x05 .u16 .ro 0 0 .any 0 0,
  row 0x06 .u16 .ro 0 0 .any 0 0,
  row 0x07 .u16 .ro 0 0 .any 0 0,
  row 0x08 .u16 .ro 0 0 .any 0 0,
  row 0x09 .u16 .ro 0 0 .any 0 0,
  row 0x0A .u16 .ro 0 0 .any 0 0,
  row 0x0B .frac .ro 0 0 .any 0 0,
  row 0x0C .frac .ro 0 0 .any 0 0,
  row 0x0D .frac .ro 0 0 .any 0 0,
  row 0x0E .frac .ro 0 0 .any 0 0,
  row 0x0F .frac .ro 0 0 .any 0 0,
  row 0x10 .u8 .ro 0 0 .any 0 0,
  row 0x11 .u16 .ro 0 0 .any 0 0]

/-- R88 of spec/02_control_engine.md. COMMIT_MASK and BUMPLESS_MASK take the four level bits. (DESIGN CHOICE, log 151, safe.) -/
def blkAX9 : List Entry := [
  row 0x01 .dom .rw 0 0 .any 0 352,
  row 0x02 .dom .rw 0 0 .any 0 352,
  row 0x03 .dom .rw 0 0 .any 0 352,
  row 0x04 .dom .rw 0 0 .any 0 352,
  row 0x05 .dom .ro 0 0 .any 0 352,
  row 0x06 .dom .ro 0 0 .any 0 352,
  row 0x07 .dom .ro 0 0 .any 0 352,
  row 0x08 .dom .ro 0 0 .any 0 352,
  row 0x09 .u8 .ro 0 0 .any 0 0,
  row 0x0A .u8 .rw 0 0 (.span 0 15) 0 0,
  row 0x0B .u8 .rw 0 0 (.span 0 15) 0 0,
  row 0x0C .u8 .rw 0 0 (.span 0 1) 1 0,
  row 0x0D .u32 .rw 0 0 .any 0 0,
  row 0x0E .u16 .ro 0 0 .any 0 0,
  row 0x0F .u32 .ro 0 0 .any 0 0,
  row 0x10 .u8 .wo 0 0 .any 0 0]

/-- R89 of spec/02_control_engine.md. -/
def blkAX10 : List Entry := [
  row 0x01 .u8 .rw 0 0 (.span 1 14) 1 0,
  row 0x02 .u16 .rw 64 0 (.orSpan 0 8 4095) 1 0,
  row 0x03 .frac .rw 107374182 0 .any 1 0,
  row 0x04 .u8 .rw 0 0 (.span 0 1) 1 0,
  row 0x05 .u32 .ro 0 0 .any 0 0,
  row 0x06 .u32 .ro 0 0 .any 0 0,
  row 0x07 .u32 .w1c 0 0 .any 8 0,
  row 0x08 .u16 .ro 0 0 .any 0 0,
  row 0x0B .u8 .ro 0 0 .any 0 0]

/-- R90 of spec/02_control_engine.md. -/
def blkAX14 : List Entry := [
  row 0x01 .u8 .rw 4 0 (.span 0 5) 1 0,
  row 0x02 .u8 .rw 3 0 (.span 0 5) 1 0,
  row 0x03 .u8 .rw 5 0 (.oneOf [4, 5]) 1 0,
  row 0x04 .u8 .rw 4 0 (.span 3 5) 1 0,
  row 0x05 .u8 .rw 3 0 (.span 1 5) 1 0,
  row 0x06 .u8 .rw 3 0 (.span 3 5) 1 0,
  row 0x07 .u8 .rw 1 0 (.span 1 5) 1 0]

/-- R91 of spec/02_control_engine.md. -/
def blk2800 : List Entry := [
  row 0x01 .u8 .ro 4 0 .any 0 0,
  row 0x02 .u8 .ro 15 0 .any 0 0,
  row 0x03 .u8 .ro 0 0 .any 0 0,
  row 0x04 .u32 .w1c 0 0 .any 8 0,
  row 0x05 .u16 .ro 20000 0 .any 0 0,
  row 0x06 .u8 .ro 0 0 .any 0 0,
  row 0x07 .u16 .ro 0 0 .any 0 0,
  row 0x08 .u16 .ro 0 0 .any 0 0,
  row 0x09 .u16 .ro 0 0 .any 0 0,
  row 0x0A .u16 .ro 0 0 .any 0 0,
  row 0x0B .u16 .ro 0 0 .any 0 0]

/-- R128 of spec/03_profiles_and_setpoints.md. -/
def blkAX1 : List Entry := [
  row 0x01 .u8 .ro 0 0 .any 0 0,
  row 0x02 .u16 .rw 0 0 (.span 0 15) 0 0,
  row 0x03 .u16 .ro 0 0 .any 0 0,
  row 0x04 .u8 .ro 0 0 .any 0 0]

/-- R129 of spec/03_profiles_and_setpoints.md. -/
def blkAX2 : List Entry := [
  row 0x01 .bool .rw 0 0 .any 1 0,
  row 0x02 .fix .rw 0 0 .any 1 0,
  row 0x03 .fix .rw 0 0 .any 1 0,
  row 0x04 .fix .rw 4294967296 0 (.span 1 9223372036854775807) 1 0,
  row 0x05 .fix .rw 42949672960 0 (.span 1 9223372036854775807) 1 0,
  row 0x06 .fix .rw 429496729600 0 (.span 0 9223372036854775807) 1 0,
  row 0x07 .fix .rw 429496730 0 (.span 0 9223372036854775807) 1 0,
  row 0x08 .fix .rw 429496729600 0 .any 1 0]

/-- R130 of spec/03_profiles_and_setpoints.md. -/
def blkAX3 : List Entry := [
  row 0x01 .fix .rw 128849018880 0 .any 1 0,
  row 0x02 .fix .rw 1288490188800 0 .any 1 0]

/-- R131 of spec/03_profiles_and_setpoints.md. -/
def blkAX4 : List Entry := [
  row 0x01 .u8 .wo 0 0 .any 0 0,
  row 0x02 .fix .rw 0 0 .any 0 0,
  row 0x03 .fix .rw 0 0 .any 0 0,
  row 0x04 .fix .rw 0 0 .any 0 0,
  row 0x05 .fix .rw 0 0 .any 0 0,
  row 0x06 .u16 .rw 0 0 .any 0 0]

/-- R132 of spec/03_profiles_and_setpoints.md. -/
def blkAX5 : List Entry := [
  row 0x01 .fix .ro 0 0 .any 0 0,
  row 0x02 .fix .ro 0 0 .any 0 0,
  row 0x03 .fix .ro 0 0 .any 0 0,
  row 0x04 .u8 .ro 0 0 .any 0 0,
  row 0x05 .u16 .ro 0 0 .any 0 0,
  row 0x06 .u16 .ro 0 0 .any 0 0,
  row 0x07 .u16 .ro 0 0 .any 0 0,
  row 0x08 .fix .ro 0 0 .any 0 0,
  row 0x09 .u32 .ro 0 0 .any 0 0,
  row 0x0A .fix .ro 0 0 .any 0 0]

/-- R133 of spec/03_profiles_and_setpoints.md. -/
def blkAX6 : List Entry := [
  row 0x01 .u8 .rw 0 0 .any 1 0,
  row 0x02 .u16 .rw 0 0 .any 1 0,
  row 0x03 .fix .rw 4294967296 0 .any 1 0,
  row 0x04 .fix .rw 0 0 .any 1 0,
  row 0x05 .i32 .rw 1 0 .any 1 0,
  row 0x06 .u32 .rw 1 0 .any 1 0,
  row 0x07 .fix .rw 0 0 .any 1 0,
  row 0x08 .fix .rw 0 0 .any 1 0,
  row 0x09 .bool .ro 0 0 .any 0 0]

/-- R134 of spec/03_profiles_and_setpoints.md. -/
def blkAX11 : List Entry := [
  row 0x01 .u8 .rw 0 0 .any 1 0,
  row 0x02 .i8 .rw 1 0 (.oneOf [1, -1]) 1 0,
  row 0x03 .fix .rw 429496730 0 .any 1 0,
  row 0x04 .fix .rw 42949673 0 .any 1 0,
  row 0x05 .fix .rw 42949672960 0 .any 1 0,
  row 0x06 .fix .rw 0 0 .any 1 0,
  row 0x07 .frac .rw 536870912 0 .any 1 0,
  row 0x08 .u16 .rw 64 0 .any 1 0,
  row 0x09 .fix .rw 42949673 0 .any 1 0,
  row 0x0A .u8 .ro 0 0 .any 0 0,
  row 0x0B .bool .ro 0 0 .any 0 0,
  row 0x0C .time .ro 0 0 .any 0 0,
  row 0x0D .fix .ro 0 0 .any 0 0,
  row 0x0E .time .ro 0 0 .any 0 0,
  row 0x0F .fix .ro 0 0 .any 0 0,
  row 0x10 .time .ro 0 0 .any 0 0,
  row 0x11 .u8 .rw 0 0 (.span 0 2) 0 0,
  row 0x12 .u8 .rw 0 0 .any 1 0,
  row 0x13 .fix .ro 0 0 .any 0 0,
  row 0x14 .bool .ro 0 0 .any 0 0,
  row 0x15 .i16 .rw 0 0 (.span (-10000) 10000) 1 0]

/-- R135 of spec/03_profiles_and_setpoints.md. -/
def blkAX12 : List Entry := [
  row 0x01 .u8 .rw 255 0 .any 1 0,
  row 0x02 .u8 .rw 255 0 .any 1 0,
  row 0x03 .u8 .rw 255 0 .any 1 0,
  row 0x04 .u8 .rw 0 0 (.span 0 7) 1 0,
  row 0x05 .u16 .rw 0 0 (.span 0 1000) 1 0,
  row 0x06 .u8 .rw 8 0 .any 1 0,
  row 0x07 .u16 .rw 10 0 (.span 1 1000) 1 0,
  row 0x08 .u32 .rw 0 0 .any 1 0,
  row 0x09 .u8 .rw 0 0 .any 1 0,
  row 0x0A .u16 .w1c 0 0 .any 0 0,
  row 0x0B .u8 .w1c 0 0 .any 8 0]

/-- R136 of spec/03_profiles_and_setpoints.md. -/
def blkCH5 : List Entry := [
  row 0x01 .dom .wo 0 0 .any 0 144,
  row 0x02 .u8 .rw 2 0 .any 0 0,
  row 0x03 .u16 .ro 0 0 .any 0 0,
  row 0x04 .u16 .ro 0 0 .any 0 0,
  row 0x05 .u16 .ro 0 0 .any 0 0]

/-- R136 of spec/03_profiles_and_setpoints.md; R195 of spec/05_separation_monitoring.md. -/
def blkCH6 : List Entry := [
  row 0x02 .frac .ro 0 0 .any 0 0,
  row 0x03 .frac .rw 2147483647 0 (.span 0 2147483647) 0 0,
  row 0x04 .fix .rw 8589934592 0 .any 1 0,
  row 0x05 .fix .rw 171798691840 0 .any 1 0,
  row 0x06 .frac .ro 2147483647 0 .any 0 0]

/-- R164 of spec/04_geometry_and_zones.md. -/
def blkCH0 : List Entry := [
  row 0x01 .bool .sl 0 0 .any 5 0,
  row 0x02 .u8 .ro 0 0 .any 0 0,
  row 0x03 .dom .ro 0 0 .any 0 12,
  row 0x04 .str .rw 0 0 .any 1 32]

/-- R164 of spec/04_geometry_and_zones.md. -/
def blkCH1 : List Entry := [
  row 0x01 .u8 .ro 0 0 .any 0 0,
  row 0x02 .u8 .rw 0 0 (.span 0 3) 1 0,
  row 0x03 .u8 .ro 0 0 .any 0 0,
  row 0x04 .u8 .ro 0 0 .any 0 0,
  row 0x05 .u64 .ro 0 0 .any 0 0,
  row 0x06 .f32 .ro 0 0 .any 0 0]

/-- R164 of spec/04_geometry_and_zones.md. -/
def blkCH2 : List Entry := [
  row 0x01 .dom .sl 0 0 .any 5 28]

/-- R164 of spec/04_geometry_and_zones.md. -/
def blkCH3 : List Entry := [
  row 0x01 .dom .sl 0 0 .any 5 616]

/-- R164 of spec/04_geometry_and_zones.md. -/
def blkCH4 : List Entry := [
  row 0x01 .dom .sl 0 0 .any 5 1024]

/-- R164 of spec/04_geometry_and_zones.md. -/
def blkCH8 : List Entry := [
  row 0x01 .u8 .wo 0 0 .any 0 0,
  row 0x02 .u8 .wo 0 0 .any 0 0,
  row 0x03 .u64 .ro 0 0 .any 0 0,
  row 0x04 .u64 .ro 0 0 .any 0 0,
  row 0x05 .u16 .ro 0 0 .any 0 0]

/-- R165 of spec/04_geometry_and_zones.md. -/
def blk3100 : List Entry := [
  row 0x01 .u32 .sl 0 0 .any 0 0,
  row 0x02 .u8 .sl 0 0 (.span 0 1) 1 0,
  row 0x03 .u16 .ro 0 0 .any 0 0,
  row 0x04 .u32 .ro 0 0 .any 0 0,
  row 0x05 .digest .ro 0 0 .any 0 0]

/-- R165 of spec/04_geometry_and_zones.md. -/
def blk3101 : List Entry := [
  row 0x01 .u8 .ro 16 0 .any 0 0,
  row 0x02 .u32 .ro 65535 0 .any 0 0,
  row 0x05 .u32 .ro 0 0 .any 0 0,
  row 0x06 .u32 .ro 0 0 .any 0 0,
  row 0x07 .u32 .ro 0 0 .any 0 0]

/-- R165 of spec/04_geometry_and_zones.md. -/
def blk3102 : List Entry := [
  row 0x01 .dom .sl 0 0 .any 5 32,
  row 0x02 .u16 .sl 0 0 .any 5 0,
  row 0x03 .u16 .sl 0 0 .any 5 0,
  row 0x04 .u8 .sl 0 0 (.span 0 64) 5 0,
  row 0x05 .f32 .sl 1148846080 0 .any 5 0,
  row 0x06 .f32 .sl 0 0 .any 5 0,
  row 0x07 .f32 .sl 0 0 .any 5 0,
  row 0x08 .u8 .sl 3 0 (.span 1 5) 5 0]

/-- R165 of spec/04_geometry_and_zones.md. -/
def blk3103 : List Entry := [
  row 0x01 .dom .sl 0 0 .any 5 12288]

/-- R165 of spec/04_geometry_and_zones.md. -/
def blk3104 : List Entry := [
  row 0x01 .dom .sl 0 0 .any 5 4096]

/-- R165 of spec/04_geometry_and_zones.md. -/
def blk3105 : List Entry := [
  row 0x01 .dom .sl 0 0 .any 5 2048]

/-- R165 of spec/04_geometry_and_zones.md. -/
def blk3106 : List Entry := [
  row 0x01 .dom .ro 0 0 .any 0 2816]

/-- R166 of spec/04_geometry_and_zones.md. -/
def blk3110 : List Entry := [
  row 0x01 .u32 .ro 0 0 .any 0 0,
  row 0x02 .f32 .ro 2139095040 0 .any 0 0,
  row 0x03 .u32 .ro 4294967295 0 .any 0 0,
  row 0x04 .f32 .ro 2139095040 0 .any 0 0,
  row 0x05 .u32 .ro 4294967295 0 .any 0 0,
  row 0x06 .f32 .ro 2139095040 0 .any 0 0,
  row 0x07 .u32 .ro 4294967295 0 .any 0 0,
  row 0x08 .u32 .ro 0 0 .any 0 0,
  row 0x09 .u8 .ro 0 0 .any 0 0]

/-- R166 of spec/04_geometry_and_zones.md. -/
def blk3140 : List Entry := [
  row 0x01 .u8 .ro 255 0 .any 0 0,
  row 0x02 .bool .ro 0 0 .any 0 0,
  row 0x03 .dom .ro 0 0 .any 0 16,
  row 0x04 .u16 .ro 0 0 .any 0 0,
  row 0x05 .u16 .ro 0 0 .any 0 0,
  row 0x06 .u16 .ro 0 0 .any 0 0,
  row 0x10 .u8 .sl 0 0 .any 0 0]

/-- R191 of spec/05_separation_monitoring.md. -/
def blk3200 : List Entry := [
  row 0x01 .u32 .sl 0 0 .any 0 0,
  row 0x02 .u8 .sl 0 0 (.span 0 1) 1 0,
  row 0x03 .u16 .ro 0 0 .any 0 0,
  row 0x04 .u32 .ro 0 0 .any 0 0,
  row 0x05 .f32 .sl 1153957888 0 .any 5 0,
  row 0x06 .f32 .sl 1157234688 0 .any 5 0,
  row 0x07 .f32 .sl 0 0 .any 5 0,
  row 0x08 .f32 .sl 0 0 .any 5 0,
  row 0x09 .f32 .sl 1073741824 0 .any 5 0,
  row 0x0A .f32 .sl 1065353216 0 .any 5 0,
  row 0x0B .f32 .sl 1112014848 0 .any 5 0,
  row 0x0C .u32 .sl 0 0 (.span 0 0) 5 0,
  row 0x0D .digest .ro 0 0 .any 0 0]

/-- R192 of spec/05_separation_monitoring.md. -/
def blk3210 : List Entry := [
  row 0x01 .bool .sl 0 0 .any 5 0,
  row 0x02 .f32 .sl 0 0 .any 5 0,
  row 0x03 .f32 .sl 1120403456 0 .any 5 0,
  row 0x04 .f32 .sl 1092616192 0 .any 5 0,
  row 0x05 .frac .sl 107374182 0 (.span 21474836 2147483647) 5 0,
  row 0x06 .u8 .sl 0 0 (.span 0 1) 5 0,
  row 0x07 .bool .sl 0 0 .any 5 0,
  row 0x08 .u16 .sl 40 0 (.span 1 65535) 5 0]

/-- R193 of spec/05_separation_monitoring.md. -/
def blk3220 : List Entry := [
  row 0x01 .u16 .sl 65535 0 .any 5 0,
  row 0x02 .u8 .sl 0 0 .any 5 0,
  row 0x03 .u8 .sl 1 0 (.span 1 33) 5 0,
  row 0x04 .u32 .sl 100000 0 .any 5 0,
  row 0x05 .u32 .sl 1000 0 (.span 250 1000000) 5 0,
  row 0x06 .u8 .sl 0 0 (.span 0 1) 5 0,
  row 0x07 .f32 .sl 1153957888 0 .any 5 0,
  row 0x08 .u8 .sl 255 0 .any 5 0,
  row 0x10 .u8 .ro 0 0 .any 0 0,
  row 0x11 .u32 .ro 0 0 .any 0 0,
  row 0x12 .u32 .w1c 0 0 .any 8 0,
  row 0x13 .u32 .w1c 0 0 .any 8 0]

/-- R194 of spec/05_separation_monitoring.md. -/
def blk3202 : List Entry := [
  row 0x01 .u8 .ro 0 0 .any 0 0,
  row 0x02 .u32 .w1c 0 0 .any 8 0,
  row 0x03 .u32 .w1c 0 0 .any 8 0,
  row 0x04 .u32 .ro 4294967295 0 .any 0 0,
  row 0x05 .f32 .ro 0 0 .any 0 0,
  row 0x06 .f32 .ro 0 0 .any 0 0,
  row 0x07 .u32 .ro 0 0 .any 0 0]

/-- R195 of spec/05_separation_monitoring.md. -/
def blkCH7 : List Entry := [
  row 0x01 .dom .sl 0 0 .any 5 768,
  row 0x02 .dom .ro 0 0 .any 17 768,
  row 0x03 .dom .ro 0 0 .any 0 768,
  row 0x04 .u8 .sl 10 0 (.span 0 100) 5 0,
  row 0x05 .f32 .sl 1084227584 0 .any 5 0,
  row 0x06 .dom .ro 0 0 .any 0 20,
  row 0x07 .u32 .ro 0 0 .any 0 0,
  row 0x08 .u32 .ro 0 0 .any 0 0,
  row 0x09 .digest .ro 0 0 .any 0 0]

/-- R195 of spec/05_separation_monitoring.md. -/
def blkCH9 : List Entry := [
  row 0x01 .u8 .ro 0 0 .any 0 0,
  row 0x02 .u8 .ro 255 0 .any 0 0,
  row 0x03 .u32 .ro 4294967295 0 .any 0 0,
  row 0x04 .f32 .ro 2139095040 0 .any 0 0,
  row 0x05 .f32 .ro 0 0 .any 0 0,
  row 0x06 .f32 .ro 2139095040 0 .any 0 0,
  row 0x07 .f32 .ro 0 0 .any 0 0,
  row 0x08 .f32 .ro 0 0 .any 0 0,
  row 0x09 .u16 .ro 0 0 .any 0 0,
  row 0x0A .u32 .ro 0 0 .any 0 0]

/-- R216 of spec/06_identification_and_tuning.md. -/
def blkAX13 : List Entry := [
  row 0x01 .frac .sl 107374182 0 .any 5 0,
  row 0x02 .frac .sl 107374182 0 .any 5 0,
  row 0x03 .frac .sl 107374182 0 .any 5 0,
  row 0x04 .frac .sl 107374182 0 .any 5 0,
  row 0x05 .u8 .ro 255 0 .any 0 0,
  row 0x06 .u16 .ro 0 0 .any 0 0,
  row 0x07 .u32 .ro 0 0 .any 0 0]

/-- R217 of spec/06_identification_and_tuning.md. -/
def blk3430 : List Entry := [
  row 0x01 .u8 .rw 0 0 (.span 0 127) 1 0,
  row 0x02 .u8 .rw 1 0 (.span 0 3) 1 0,
  row 0x03 .u8 .rw 2 0 (.span 0 3) 1 0,
  row 0x04 .u8 .rw 1 0 .any 1 0,
  row 0x05 .frac .rw 0 0 .any 1 0,
  row 0x06 .u8 .rw 12 0 (.span 7 20) 1 0,
  row 0x07 .u8 .rw 1 0 (.span 1 64) 1 0,
  row 0x08 .f32 .rw 1092616192 0 .any 1 0,
  row 0x09 .f32 .rw 1148846080 0 .any 1 0,
  row 0x0A .u32 .rw 16000 0 .any 1 0,
  row 0x0B .u16 .rw 1 0 .any 1 0,
  row 0x0C .dom .rw 0 0 .any 1 768,
  row 0x0D .u32 .rw 1024 0 .any 1 0,
  row 0x0E .bool .rw 0 0 .any 1 0,
  row 0x0F .u16 .rw 1 0 (.span 1 65535) 1 0,
  row 0x10 .bool .rw 0 0 .any 1 0,
  row 0x11 .u8 .rw 0 0 (.span 0 1) 1 0,
  row 0x12 .u32 .rw 0 0 .any 0 0,
  row 0x13 .u8 .wo 0 0 .any 0 0,
  row 0x14 .u8 .ro 0 0 .any 0 0,
  row 0x15 .u16 .ro 0 0 .any 0 0,
  row 0x16 .u32 .ro 0 0 .any 0 0,
  row 0x17 .bool .w1c 0 0 .any 0 0]

/-- R204 of spec/06_identification_and_tuning.md. -/
def blk3400 : List Entry := [
  row 0x01 .u32 .ro 0 0 .any 0 0,
  row 0x02 .u32 .ro 0 0 .any 0 0]

/-- R218 of spec/06_identification_and_tuning.md. -/
def blk3410 : List Entry := [
  row 0x01 .u8 .rwc 1 0 (.oneOf [1, 2, 4, 8]) 5 0,
  row 0x02 .u8 .rwc 0 0 .any 5 0,
  row 0x03 .u8 .rwc 1 0 (.span 1 8) 5 0,
  row 0x04 .dom .rwc 0 0 .any 5 32,
  row 0x05 .u8 .rwc 0 0 (.span 0 1) 5 0,
  row 0x06 .u8 .rwc 0 0 (.span 0 3) 5 0,
  row 0x07 .u8 .rwc 0 0 .any 5 0,
  row 0x08 .i32 .rwc 0 0 .any 5 0,
  row 0x09 .u32 .rwc 0 0 .any 5 0,
  row 0x0A .u8 .rw 0 0 (.span 0 1) 1 0,
  row 0x0B .u32 .rw 0 0 .any 0 0,
  row 0x0C .u8 .wo 0 0 .any 0 0,
  row 0x0D .u32 .rw 16 0 .any 1 0,
  row 0x0E .u8 .ro 0 0 .any 0 0,
  row 0x0F .u64 .ro 0 0 .any 0 0,
  row 0x10 .u32 .ro 0 0 .any 0 0,
  row 0x11 .u32 .ro 0 0 .any 0 0,
  row 0x12 .u32 .ro 4294967295 0 .any 0 0,
  row 0x13 .u8 .ro 0 0 .any 0 0,
  row 0x14 .dom .ro 0 0 .any 0 4194304]

/-- R219 of spec/06_identification_and_tuning.md. -/
def blk3420 : List Entry := [
  row 0x01 .u8 .rw 1 0 (.span 1 3) 1 0,
  row 0x02 .u8 .rw 0 0 (.span 0 15) 1 0,
  row 0x03 .u8 .rw 255 0 .any 1 0,
  row 0x04 .u8 .rw 0 0 .any 1 0,
  row 0x05 .u8 .rw 1 0 .any 1 0,
  row 0x06 .u32 .rw 4096 0 .any 1 0,
  row 0x07 .u8 .rw 1 0 (.span 0 1) 1 0,
  row 0x08 .u8 .rw 1 0 (.span 0 1) 1 0,
  row 0x09 .f32 .rw 1092616192 0 .any 1 0,
  row 0x0A .f32 .rw 1157234688 0 .any 1 0,
  row 0x0B .f32 .rw 1086324736 0 .any 1 0,
  row 0x0C .f32 .rw 1061997773 0 .any 1 0,
  row 0x0D .f32 .rw 1112014848 0 .any 1 0,
  row 0x0E .f32 .rw 0 0 .any 1 0,
  row 0x0F .u8 .rw 0 0 (.span 0 127) 1 0,
  row 0x10 .u8 .rw 1 0 (.span 0 3) 1 0,
  row 0x11 .u8 .rw 0 0 (.span 0 3) 1 0,
  row 0x12 .u8 .wo 0 0 .any 0 0,
  row 0x13 .u8 .ro 0 0 .any 0 0,
  row 0x14 .u8 .ro 0 0 .any 0 0,
  row 0x15 .dom .ro 0 0 .any 0 393244,
  row 0x16 .f32 .ro 0 0 .any 0 0,
  row 0x17 .dom .ro 0 0 .any 0 20,
  row 0x18 .bool .ro 0 0 .any 0 0]

/-- R220 of spec/06_identification_and_tuning.md. -/
def blk3440 : List Entry := [
  row 0x01 .bool .rw 0 0 .any 0 0,
  row 0x02 .u8 .rw 0 0 (.span 0 127) 1 0,
  row 0x03 .u8 .rw 1 0 (.span 0 3) 1 0,
  row 0x04 .u8 .rw 0 0 .any 1 0,
  row 0x05 .f32 .rw 0 0 .any 1 0,
  row 0x06 .u8 .rw 20 0 (.span 1 20) 1 0,
  row 0x07 .f32 .rw 1112014848 0 .any 1 0,
  row 0x08 .f32 .rw 0 0 .any 1 0,
  row 0x09 .f32 .rw 1065353216 0 .any 1 0,
  row 0x0A .frac .rw 1374390 0 .any 1 0,
  row 0x0B .f32 .ro 0 0 .any 0 0,
  row 0x0C .f32 .ro 0 0 .any 0 0,
  row 0x0D .u8 .ro 0 0 .any 0 0,
  row 0x0E .u32 .w1c 0 0 .any 8 0,
  row 0x0F .u32 .ro 0 0 .any 0 0]

/-- R246 of spec/07_analysis_engine.md. -/
def blk3500 : List Entry := [
  row 0x01 .u8 .ro 2 0 .any 0 0,
  row 0x02 .u32 .ro 0 0 .any 0 0,
  row 0x03 .digest .ro 0 0 .any 0 0]

/-- R247 of spec/07_analysis_engine.md. -/
def blk3510 : List Entry := [
  row 0x01 .u8 .rw 0 0 .any 1 0,
  row 0x02 .u8 .ro 0 0 .any 0 0,
  row 0x03 .u8 .wo 0 0 (.span 1 3) 0 0,
  row 0x04 .u16 .rw 8192 0 (.span 0 16383) 1 0,
  row 0x05 .dom .rw 0 0 .any 0 65536,
  row 0x06 .dom .rw 0 0 .any 0 262144,
  row 0x07 .dom .rw 0 0 .any 0 262144,
  row 0x08 .dom .ro 0 0 .any 0 65536,
  row 0x09 .u16 .ro 0 0 .any 0 0,
  row 0x0A .u16 .ro 0 0 .any 0 0,
  row 0x0B .u16 .ro 0 0 .any 0 0,
  row 0x0C .u8 .w1c 0 0 .any 0 0,
  row 0x0D .u16 .rw 0 0 .any 0 0,
  row 0x0E .u16 .w1c 0 0 .any 0 0,
  row 0x0F .u16 .rw 32768 0 .any 1 0,
  row 0x10 .u32 .rw 0 0 (.orSpan 0 1 10000000) 1 0,
  row 0x11 .u64 .ro 0 0 .any 0 0,
  row 0x12 .digest .ro 0 0 .any 0 0,
  row 0x13 .u16 .ro 80 1 .any 0 0,
  row 0x14 .u32 .w1c 0 0 .any 8 0]

/-- R290 of spec/08_work_cores_and_sett.md. -/
def blk3800 : List Entry := [
  row 0x01 .u8 .ro 1 0 .any 0 0,
  row 0x02 .bool .rw 0 0 .any 1 0,
  row 0x03 .u16 .ro 0 0 .any 0 0,
  row 0x04 .u16 .ro 0 0 .any 0 0,
  row 0x05 .u8 .ro 0 0 .any 0 0,
  row 0x06 .u16 .ro 0 0 .any 0 0,
  row 0x07 .u32 .rw 0 0 .any 1 0,
  row 0x08 .u16 .rw 10 0 (.span 1 60000) 1 0,
  row 0x09 .u32 .w1c 0 0 .any 8 0,
  row 0x0A .u16 .ro 0 0 .any 0 0]

/-- R291 of spec/08_work_cores_and_sett.md. -/
def blk3801 : List Entry := [
  row 0x01 .bool .rw 1 0 .any 1 0,
  row 0x02 .u16 .rw 256 0 (.span 1 1024) 1 0,
  row 0x03 .u16 .rw 0 0 .any 1 0,
  row 0x04 .u16 .rw 0 0 .any 1 0,
  row 0x05 .u8 .rw 15 0 (.span 0 15) 1 0,
  row 0x06 .u8 .rw 8 0 (.span 1 255) 1 0,
  row 0x07 .u64 .ro 0 0 .any 0 0,
  row 0x08 .u32 .w1c 0 0 .any 8 0,
  row 0x09 .u32 .w1c 0 0 .any 8 0]

/-- R292 of spec/08_work_cores_and_sett.md. -/
def blk3802 : List Entry := [
  row 0x01 .u64 .rw 0 0 .any 1 0,
  row 0x02 .u32 .rw 16384 0 (.oneOf [1024, 2048, 4096, 8192, 16384, 32768, 65536]) 1 0,
  row 0x03 .u32 .ro 0 0 .any 0 0,
  row 0x04 .u64 .ro 0 0 .any 0 0,
  row 0x05 .u8 .rw 3 0 (.span 1 255) 1 0,
  row 0x06 .u32 .w1c 0 0 .any 8 0,
  row 0x07 .u32 .w1c 0 0 .any 8 0]

/-- R293 of spec/08_work_cores_and_sett.md. -/
def blk3803 : List Entry := [
  row 0x01 .u32 .w1c 0 0 .any 8 0,
  row 0x02 .u32 .ro 0 0 .any 0 0,
  row 0x03 .u8 .ro 0 0 .any 0 0,
  row 0x04 .u8 .ro 0 0 .any 0 0,
  row 0x05 .u16 .ro 0 0 .any 0 0,
  row 0x06 .u8 .ro 255 0 .any 0 0]

/-- R294 of spec/08_work_cores_and_sett.md. -/
def blk3804 : List Entry := [
  row 0x01 .dom .rw 0 0 .any 0 65536,
  row 0x02 .dom .ro 0 0 .any 0 65536,
  row 0x03 .u8 .rw 0 0 (.span 0 1) 1 0,
  row 0x04 .u32 .rw 0 0 .any 0 0,
  row 0x05 .u16 .ro 0 0 .any 0 0,
  row 0x06 .u32 .ro 0 0 .any 0 0]

/-- R295 of spec/08_work_cores_and_sett.md. -/
def blk3840 : List Entry := [
  row 0x01 .u8 .ro 0 1 .any 0 0,
  row 0x02 .u8 .ro 0 1 .any 0 0,
  row 0x03 .u64 .ro 0 0 .any 0 0,
  row 0x04 .u64 .ro 0 0 .any 0 0,
  row 0x05 .u8 .ro 0 0 .any 0 0,
  row 0x06 .u64 .ro 0 0 .any 0 0,
  row 0x07 .u16 .ro 0 0 .any 0 0,
  row 0x08 .u16 .ro 0 0 .any 0 0,
  row 0x09 .u64 .ro 0 0 .any 0 0]

/-- R296 of spec/08_work_cores_and_sett.md. -/
def blk3880 : List Entry := [
  row 0x01 .dom .ro 0 0 .any 0 65536,
  row 0x02 .u16 .ro 0 0 .any 0 0,
  row 0x03 .u16 .ro 0 0 .any 0 0,
  row 0x04 .dom .ro 0 0 .any 0 65536,
  row 0x05 .dom .ro 0 0 .any 0 65536,
  row 0x06 .dom .ro 0 0 .any 0 65536,
  row 0x07 .u16 .rw 4000 0 (.span 1 65535) 1 0,
  row 0x08 .u32 .w1c 0 0 .any 8 0,
  row 0x09 .u32 .w1c 0 0 .any 8 0]

/-- R297 of spec/08_work_cores_and_sett.md. -/
def blk3900 : List Entry := [
  row 0x01 .u64 .wo 0 0 .any 0 0,
  row 0x02 .u16 .ro 1024 0 .any 0 0,
  row 0x03 .u32 .w1c 0 0 .any 8 0]

/-- R297 of spec/08_work_cores_and_sett.md. -/
def blk3920 : List Entry := [
  row 0x01 .u64 .rw 0 0 .any 0 0,
  row 0x02 .u64 .rw 0 0 .any 0 0,
  row 0x03 .u8 .wo 0 0 (.span 1 4) 0 0,
  row 0x04 .u8 .ro 0 0 .any 0 0,
  row 0x05 .u64 .ro 0 0 .any 0 0,
  row 0x06 .u32 .ro 0 0 .any 0 0,
  row 0x07 .u64 .ro 0 0 .any 0 0,
  row 0x08 .u8 .ro 0 0 .any 0 0,
  row 0x09 .bool .rw 0 0 .any 0 0,
  row 0x0A .dom .rw 0 0 .any 0 32,
  row 0x0B .u64 .ro 0 0 .any 0 0]

/-- R339 of spec/09_turrilink.md. -/
def blk1400 : List Entry := [
  row 0x01 .u16 .rw 0 0 (.span 0 4095) 17 0,
  row 0x02 .u16 .rw 0 0 .any 1 0,
  row 0x03 .u16 .rw 34997 0 .any 1 0,
  row 0x04 .u8 .rw 0 0 (.span 0 2) 1 0,
  row 0x05 .u8 .rw 0 0 (.span 0 15) 1 0,
  row 0x06 .bool .rw 0 0 .any 1 0,
  row 0x07 .u32 .rw 1000 0 (.span 500 100000) 1 0,
  row 0x08 .u8 .rw 8 0 (.span 1 64) 1 0,
  row 0x09 .u8 .rw 4 0 (.span 1 64) 1 0,
  row 0x0A .u16 .rw 40 0 (.span 20 1000) 1 0,
  row 0x0B .u16 .rw 100 0 (.span 20 10000) 1 0,
  row 0x0C .u8 .ro 0 0 .any 0 0,
  row 0x0D .u8 .wo 0 0 (.span 1 1) 0 0,
  row 0x0E .u16 .ro 0 0 .any 0 0,
  row 0x0F .u64 .rw 3298534883328 0 .any 1 0]

/-- R340 of spec/09_turrilink.md. -/
def blk1410 : List Entry := [
  row 0x01 .u8 .rw 25 0 (.oneOf [25, 10]) 17 0,
  row 0x02 .bool .rw 0 0 .any 17 0,
  row 0x03 .i32 .rw 0 0 (.span (-100000000) 100000000) 17 0,
  row 0x04 .u8 .ro 0 0 .any 16 0,
  row 0x05 .u32 .ro 0 0 .any 16 0,
  row 0x06 .u16 .ro 0 0 .any 16 0,
  row 0x07 .u8 .ro 0 0 .any 16 0,
  row 0x08 .u64 .ro 0 0 .any 16 0,
  row 0x09 .u32 .w1c 0 0 .any 24 0,
  row 0x0A .u32 .w1c 0 0 .any 24 0,
  row 0x0B .u32 .w1c 0 0 .any 24 0,
  row 0x0C .u64 .ro 0 0 .any 16 0,
  row 0x0D .u32 .w1c 0 0 .any 24 0,
  row 0x0E .u32 .w1c 0 0 .any 24 0]

/-- R341 of spec/09_turrilink.md. -/
def blk1420 : List Entry := [
  row 0x01 .dom .rw 0 0 .any 0 65536,
  row 0x02 .dom .ro 0 0 .any 0 65536,
  row 0x03 .u8 .rw 0 0 (.span 0 1) 1 0,
  row 0x04 .u32 .rw 0 0 .any 0 0,
  row 0x05 .u16 .ro 0 0 .any 0 0,
  row 0x06 .u32 .ro 0 0 .any 0 0,
  row 0x07 .u32 .ro 0 0 .any 0 0]

/-- R341 of spec/09_turrilink.md. -/
def blk1600 : List Entry := [
  row 0x01 .dom .rw 0 0 .any 0 65536,
  row 0x02 .dom .ro 0 0 .any 0 65536]

/-- R341 of spec/09_turrilink.md. -/
def blk1610 : List Entry := [
  row 0x01 .dom .rw 0 0 .any 0 65536]

/-- R342 of spec/09_turrilink.md. -/
def blk1430 : List Entry := [
  row 0x01 .u8 .ro 0 0 .any 0 0,
  row 0x02 .i32 .ro 0 0 .any 0 0,
  row 0x03 .i32 .w1c 0 0 .any 8 0,
  row 0x04 .i32 .ro 0 0 .any 0 0,
  row 0x05 .u32 .w1c 0 0 .any 8 0,
  row 0x06 .dom .ro 0 0 .any 0 65536,
  row 0x07 .time .ro 0 0 .any 0 0]

/-- R342 of spec/09_turrilink.md. -/
def blk1440 : List Entry := [
  row 0x01 .dom .ro 0 0 .any 0 65536,
  row 0x02 .dom .ro 0 0 .any 0 65536]

/-- R342 of spec/09_turrilink.md. -/
def blk1450 : List Entry := [
  row 0x01 .u16 .rw 100 0 (.span 1 60000) 1 0,
  row 0x02 .u8 .ro 0 0 .any 0 0,
  row 0x03 .u32 .w1c 0 0 .any 8 0,
  row 0x04 .u32 .w1c 0 0 .any 8 0]

/-- R343 of spec/09_turrilink.md. -/
def blk1500 : List Entry := [
  row 0x01 .u16 .sl 65535 0 .any 5 0,
  row 0x02 .u8 .sl 0 0 (.span 0 1) 5 0,
  row 0x03 .u32 .sl 0 0 .any 5 0,
  row 0x04 .u16 .sl 1 0 (.span 1 1466) 5 0,
  row 0x05 .u32 .sl 1000 0 (.span 250 1000000) 5 0,
  row 0x10 .u8 .ro 0 0 .any 0 0,
  row 0x11 .u16 .ro 0 0 .any 0 0,
  row 0x12 .u32 .w1c 0 0 .any 8 0,
  row 0x13 .u32 .w1c 0 0 .any 8 0,
  row 0x14 .u32 .w1c 0 0 .any 8 0,
  row 0x15 .dom .ro 0 0 .any 0 65536]

/-- R361 of spec/10_time_base.md. -/
def blk1160 : List Entry := [
  row 0x01 .u8 .rw 0 0 .any 0 0,
  row 0x02 .u16 .rw 0 0 .any 0 0,
  row 0x03 .u8 .rw 0 0 .any 0 0,
  row 0x04 .u64 .rw 0 0 .any 0 0,
  row 0x05 .time .rw 0 0 .any 0 0,
  row 0x06 .u32 .rw 0 0 (.orSpan 0 10000 1000000000) 0 0,
  row 0x07 .u8 .rw 0 0 (.span 0 1) 0 0,
  row 0x08 .u8 .wo 0 0 (.span 1 2) 0 0,
  row 0x09 .u8 .ro 0 0 .any 0 0,
  row 0x0A .u16 .ro 0 0 .any 0 0,
  row 0x0B .time .ro 0 0 .any 0 0,
  row 0x0C .u32 .ro 0 0 .any 0 0,
  row 0x0D .u32 .w1c 0 0 .any 8 0]

/-- R363 of spec/10_time_base.md. -/
def blk1140 : List Entry := [
  row 0x01 .u64 .ro 0 0 .any 0 0,
  row 0x02 .time .ro 0 0 .any 0 0,
  row 0x03 .bool .ro 0 0 .any 0 0,
  row 0x04 .u64 .ro 1099511627776 0 .any 0 0,
  row 0x05 .u64 .ro 1099511627776 0 .any 0 0,
  row 0x06 .time .ro 0 0 .any 0 0,
  row 0x07 .u8 .ro 0 0 .any 0 0,
  row 0x08 .u64 .rw 1099511627776 0 .any 0 0,
  row 0x09 .i64 .wo 0 0 .any 0 0,
  row 0x0A .time .wo 0 0 .any 0 0,
  row 0x0B .u8 .wo 0 0 .any 0 0,
  row 0x0C .u64 .ro 0 0 .any 0 0,
  row 0x0D .time .ro 0 0 .any 0 0,
  row 0x0E .time .ro 0 0 .any 0 0,
  row 0x0F .u32 .w1c 0 0 .any 8 0]

/-- R363 of spec/10_time_base.md. -/
def blk1150 : List Entry := [
  row 0x01 .u16 .ro 0 0 .any 0 0,
  row 0x02 .u32 .w1c 0 0 .any 8 0,
  row 0x03 .u32 .w1c 0 0 .any 8 0,
  row 0x04 .u16 .ro 0 0 .any 0 0]

/-- R364 of spec/10_time_base.md. -/
def blk1180 : List Entry := [
  row 0x01 .u8 .rw 0 0 (.span 0 2) 1 0,
  row 0x02 .u8 .rw 0 0 (.span 0 127) 1 0,
  row 0x03 .u8 .rw 128 0 .any 1 0,
  row 0x04 .u8 .rw 128 0 .any 1 0,
  row 0x05 .u8 .rw 248 0 .any 1 0,
  row 0x06 .bool .rw 1 0 .any 1 0,
  row 0x07 .u8 .rw 0 0 (.span 0 1) 1 0,
  row 0x08 .i8 .rw (-3) 0 .any 1 0,
  row 0x09 .u32 .rw 100000 0 .any 1 0,
  row 0x0A .u64 .ro 0 0 .any 0 0,
  row 0x0B .i64 .ro 0 0 .any 0 0]

/-- R364 of spec/10_time_base.md. -/
def blk1190 : List Entry := [
  row 0x01 .bool .rw 1 0 .any 1 0,
  row 0x02 .u32 .rw 0 0 .any 1 0,
  row 0x03 .u32 .rw 0 0 .any 1 0,
  row 0x04 .i32 .rw 0 0 .any 1 0,
  row 0x05 .u8 .ro 0 0 .any 0 0,
  row 0x06 .u32 .ro 0 0 .any 0 0,
  row 0x07 .u32 .w1c 0 0 .any 8 0]

/-- R402 of spec/11_safety_functions.md. -/
def blk5000 : List Entry := [
  row 0x01 .dom .wo 0 0 .any 0 33,
  row 0x02 .u8 .wo 0 0 .any 0 0,
  row 0x03 .u8 .ro 0 0 .any 0 0,
  row 0x04 .u8 .ro 0 0 .any 0 0,
  row 0x05 .u16 .sl 600 0 (.span 30 3600) 1 0,
  row 0x06 .u32 .sl 0 0 .any 0 0,
  row 0x07 .u8 .sl 0 0 (.span 0 1) 1 0,
  row 0x08 .digest .sl 0 0 .any 0 0,
  row 0x09 .u16 .ro 0 0 .any 0 0,
  row 0x0A .u32 .ro 0 0 .any 0 0,
  row 0x0B .digest .ro 0 0 .any 0 0,
  row 0x0C .digest .ro 0 0 .any 0 0,
  row 0x0D .digest .ro 0 0 .any 0 0,
  row 0x0E .u16 .ro 0 0 .any 0 0,
  row 0x0F .u32 .ro 0 0 .any 0 0]

/-- R403 of spec/11_safety_functions.md. -/
def blk5001 : List Entry := [
  row 0x01 .dom .ro 0 0 .any 16 32,
  row 0x02 .dom .ro 0 0 .any 16 32,
  row 0x03 .dom .ro 0 0 .any 16 32,
  row 0x04 .dom .ro 0 0 .any 16 32,
  row 0x05 .dom .ro 0 0 .any 16 32,
  row 0x06 .dom .ro 0 0 .any 16 32,
  row 0x07 .dom .ro 0 0 .any 16 32,
  row 0x08 .dom .ro 0 0 .any 16 32,
  row 0x09 .dom .wo 0 0 .any 16 33]

/-- R403 of spec/11_safety_functions.md. -/
def blk5004 : List Entry := [
  row 0x01 .dom .ro 0 0 .any 0 16384,
  row 0x02 .u32 .ro 0 0 .any 0 0,
  row 0x03 .bool .ro 0 0 .any 0 0]

/-- R404 of spec/11_safety_functions.md. -/
def blk5010 : List Entry := [
  row 0x01 .u8 .sl 0 0 .any 5 0,
  row 0x02 .u8 .sl 0 0 (.span 0 1) 5 0,
  row 0x03 .u16 .sl 200 0 (.span 50 460) 5 0,
  row 0x04 .u16 .sl 100 0 (.span 1 1000) 5 0,
  row 0x05 .u8 .sl 5 0 .any 5 0,
  row 0x06 .u16 .sl 0 0 .any 5 0,
  row 0x07 .dom .sl 0 0 .any 5 16,
  row 0x08 .bool .sl 1 0 .any 5 0,
  row 0x09 .u8 .sl 1 0 .any 5 0,
  row 0x10 .u8 .ro 0 0 .any 0 0,
  row 0x11 .u8 .ro 0 0 .any 0 0]

/-- R405 of spec/11_safety_functions.md. -/
def blk5020 : List Entry := [
  row 0x01 .u8 .sl 0 0 .any 5 0,
  row 0x02 .u16 .sl 0 0 .any 5 0,
  row 0x03 .dom .sl 0 0 .any 5 16,
  row 0x04 .u16 .sl 200 0 (.span 50 1000) 5 0,
  row 0x10 .u8 .ro 0 0 .any 0 0,
  row 0x11 .u32 .ro 0 0 .any 0 0,
  row 0x12 .u16 .ro 0 0 .any 0 0,
  row 0x13 .u8 .wo 0 0 .any 0 0]

/-- R406 of spec/11_safety_functions.md. -/
def blk5040 : List Entry := [
  row 0x01 .u8 .sl 0 0 .any 5 0,
  row 0x02 .u16 .sl 0 0 .any 5 0,
  row 0x03 .u16 .sl 0 0 (.span 0 5000) 5 0,
  row 0x04 .f32 .sl 1132068864 0 .any 5 0,
  row 0x05 .u16 .sl 0 0 .any 5 0,
  row 0x06 .u8 .sl 4 0 (.span 4 6) 5 0,
  row 0x07 .u16 .sl 150 0 .any 5 0,
  row 0x10 .bool .ro 0 0 .any 0 0,
  row 0x11 .f32 .ro 0 0 .any 0 0]

/-- R407 of spec/11_safety_functions.md. -/
def blk5080 : List Entry := [
  row 0x01 .u8 .sl 255 0 (.orSpan 255 0 127) 5 0,
  row 0x02 .u16 .sl 0 0 .any 5 0,
  row 0x03 .u8 .sl 0 0 .any 5 0,
  row 0x04 .u16 .sl 0 0 .any 5 0,
  row 0x05 .u16 .sl 0 0 (.span 0 5000) 5 0,
  row 0x06 .fix .sl 429496730 0 .any 5 0,
  row 0x07 .u8 .sl 4 0 (.span 4 6) 5 0,
  row 0x08 .fix .sl 85899345920 0 .any 5 0,
  row 0x09 .u32 .sl 10000 0 (.span 0 1000000) 5 0,
  row 0x0A .fix .sl 42949673 0 .any 5 0,
  row 0x0B .u32 .sl 1000 0 (.span 1 60000) 5 0,
  row 0x0C .fix .sl 4294967 0 .any 5 0,
  row 0x0D .fix .sl 4294967 0 .any 5 0,
  row 0x10 .u8 .ro 0 0 .any 0 0,
  row 0x11 .u16 .ro 0 0 .any 0 0,
  row 0x12 .bool .ro 0 0 .any 0 0,
  row 0x13 .bool .ro 0 0 .any 0 0]

/-- R432 of spec/12_redundancy.md. -/
def blk5800 : List Entry := [
  row 0x01 .u8 .rw 0 0 .any 17 0,
  row 0x02 .bool .rw 0 0 .any 17 0,
  row 0x03 .u16 .rw 0 0 .any 17 0,
  row 0x04 .u16 .rw 0 0 .any 17 0,
  row 0x06 .dom .rw 0 0 .any 17 512,
  row 0x07 .u8 .rw 3 0 (.span 2 4) 17 0,
  row 0x08 .u64 .rw 34359738368 0 .any 17 0,
  row 0x09 .u32 .rw 512 0 (.span 2 512) 17 0,
  row 0x0A .u32 .rw 16384 0 (.span 1024 32768) 17 0,
  row 0x0B .u32 .rw 4096 0 (.span 256 16384) 17 0,
  row 0x0C .u32 .rw 250000 0 (.span 12500 1250000) 17 0,
  row 0x0D .u16 .rw 40 0 (.span 2 65535) 17 0]

/-- R433 of spec/12_redundancy.md. -/
def blk5801 : List Entry := [
  row 0x01 .u8 .ro 0 0 .any 16 0,
  row 0x02 .u32 .ro 0 0 .any 16 0,
  row 0x03 .u16 .ro 0 0 .any 16 0,
  row 0x04 .u32 .ro 0 0 .any 16 0,
  row 0x05 .u32 .ro 0 0 .any 16 0,
  row 0x06 .u32 .ro 0 0 .any 16 0,
  row 0x07 .u16 .ro 0 0 .any 16 0,
  row 0x08 .u32 .ro 0 0 .any 16 0,
  row 0x09 .u32 .ro 0 0 .any 16 0,
  row 0x0A .u32 .ro 0 0 .any 16 0,
  row 0x0B .u32 .ro 0 0 .any 16 0,
  row 0x0C .u32 .ro 0 0 .any 16 0,
  row 0x0D .u16 .ro 0 0 .any 16 0,
  row 0x0E .u8 .ro 3 0 .any 16 0,
  row 0x0F .u8 .ro 0 0 .any 16 0,
  row 0x10 .u32 .w1c 0 0 .any 24 0]

/-- R434 of spec/12_redundancy.md. -/
def blk5802 : List Entry := [
  row 0x01 .u32 .ro 0 0 .any 16 0,
  row 0x02 .u32 .ro 0 0 .any 16 0,
  row 0x03 .u8 .ro 0 0 .any 16 0,
  row 0x04 .u32 .w1c 0 0 .any 24 0]

/-- R465 of spec/13_object_dictionary.md. -/
def blk1000 : List Entry := [
  row 0x01 .u16 .ro 0 0 .any 2 0,
  row 0x02 .u16 .ro 0 0 .any 2 0,
  row 0x03 .str .ro 0 0 .any 2 65536,
  row 0x04 .u16 .ro 0 0 .any 2 0,
  row 0x05 .str .ro 0 0 .any 2 65536]

/-- R465 of spec/13_object_dictionary.md. -/
def blk1001 : List Entry := [
  row 0x01 .u8 .ro 2 0 .any 0 0,
  row 0x02 .u8 .wo 0 0 (.span 1 5) 0 0,
  row 0x03 .bool .rw 0 0 .any 1 0,
  row 0x04 .u16 .ro 0 0 .any 0 0,
  row 0x05 .u16 .ro 0 0 .any 0 0,
  row 0x06 .u32 .ro 0 0 .any 0 0,
  row 0x07 .u8 .rw 15 0 .any 1 0]

/-- R465 of spec/13_object_dictionary.md. -/
def blk1003 : List Entry := [
  row 0x01 .dom .ro 0 0 .any 0 8192,
  row 0x02 .u32 .ro 0 0 .any 0 0,
  row 0x03 .bool .w1c 0 0 .any 0 0]

/-- R465 of spec/13_object_dictionary.md. -/
def blk1004 : List Entry := [
  row 0x01 .u8 .ro 0 0 .any 0 0,
  row 0x02 .u32 .ro 0 0 .any 0 0,
  row 0x03 .u8 .wo 0 0 .any 0 0]

/-- R466 of spec/13_object_dictionary.md. -/
def blk1200 : List Entry := [
  row 0x01 .bool .ro 0 0 .any 0 0,
  row 0x02 .u8 .ro 0 0 .any 0 0,
  row 0x03 .u8 .ro 0 0 .any 0 0]

/-- R466 of spec/13_object_dictionary.md. -/
def blk1201 : List Entry := [
  row 0x01 .u16 .w1c 0 0 .any 0 0,
  row 0x02 .u32 .rw 1000 0 (.span 10 600000) 1 0,
  row 0x03 .dom .rw 0 0 .any 1 128,
  row 0x04 .u16 .ro 0 0 .any 0 0]

/-- R466 of spec/13_object_dictionary.md. -/
def blk1210 : List Entry := [
  row 0x01 .u16 .rw 30450 0 .any 1 0,
  row 0x02 .u32 .rw 0 0 .any 1 0,
  row 0x03 .u32 .rw 0 0 .any 1 0,
  row 0x04 .u32 .rw 4294967040 0 .any 1 0,
  row 0x05 .u32 .w1c 0 0 .any 8 0]

/-- R467 of spec/13_object_dictionary.md. -/
def blk1220 : List Entry := [
  row 0x01 .dom .rw 0 0 .any 16 81908,
  row 0x02 .dom .ro 0 0 .any 16 81908,
  row 0x03 .u8 .rw 0 0 (.span 0 1) 17 0,
  row 0x04 .u32 .rw 0 0 .any 16 0,
  row 0x05 .u16 .ro 0 0 .any 16 0,
  row 0x06 .u32 .ro 0 0 .any 16 0,
  row 0x07 .u32 .ro 0 0 .any 16 0,
  row 0x08 .digest .ro 0 0 .any 16 0,
  row 0x09 .dom .ro 0 0 .any 16 8190,
  row 0x0A .u32 .w1c 0 0 .any 24 0,
  row 0x0B .u8 .rw 0 0 (.span 0 2) 17 0]

/-- R497 of spec/14_boot_update_security.md. -/
def blk6000 : List Entry := [
  row 0x01 .u32 .ro 0 0 .any 0 0,
  row 0x02 .u8 .ro 0 0 .any 0 0,
  row 0x03 .u8 .ro 255 0 .any 0 0,
  row 0x04 .u16 .ro 8533 0 .any 0 0,
  row 0x05 .dom .ro 0 0 .any 0 65536,
  row 0x06 .dom .ro 0 0 .any 0 65536,
  row 0x07 .u8 .wo 0 0 .any 0 0]

/-- R497 of spec/14_boot_update_security.md. -/
def blk6010 : List Entry := [
  row 0x01 .u8 .ro 0 0 .any 0 0,
  row 0x02 .u32 .ro 0 0 .any 0 0,
  row 0x03 .u8 .ro 0 0 .any 0 0,
  row 0x04 .u16 .ro 0 0 .any 0 0,
  row 0x05 .u16 .ro 0 0 .any 0 0,
  row 0x06 .digest .ro 0 0 .any 0 0,
  row 0x07 .u8 .ro 0 0 .any 0 0,
  row 0x08 .u32 .ro 0 0 .any 0 0]

/-- R498 of spec/14_boot_update_security.md. -/
def blk6020 : List Entry := [
  row 0x01 .dom .wo 0 0 .any 0 65536,
  row 0x02 .u64 .ro 0 0 .any 0 0,
  row 0x03 .u64 .wo 0 0 .any 0 0,
  row 0x04 .dom .wo 0 0 .any 0 268435456,
  row 0x05 .u8 .wo 0 0 .any 0 0,
  row 0x06 .u8 .ro 0 0 .any 0 0,
  row 0x07 .u8 .ro 0 0 .any 0 0,
  row 0x08 .u32 .ro 0 0 .any 0 0,
  row 0x09 .u8 .wo 0 0 .any 0 0,
  row 0x0A .u8 .wo 0 0 .any 0 0,
  row 0x0B .u32 .ro 0 0 .any 0 0,
  row 0x0C .u16 .rw 600 0 (.span 10 86400) 1 0,
  row 0x0D .u8 .rw 3 0 (.span 1 16) 1 0,
  row 0x0E .u16 .ro 0 0 .any 0 0]

/-- R499 of spec/14_boot_update_security.md. -/
def blk6030 : List Entry := [
  row 0x01 .u8 .ro 0 0 .any 0 0,
  row 0x02 .u16 .ro 0 0 .any 0 0,
  row 0x03 .u8 .ro 0 0 .any 0 0,
  row 0x04 .u16 .ro 0 0 .any 0 0,
  row 0x05 .u8 .ro 0 0 .any 0 0]

/-- R499 of spec/14_boot_update_security.md. -/
def blk6040 : List Entry := [
  row 0x01 .u8 .ro 0 0 .any 0 0,
  row 0x02 .u8 .ro 0 0 .any 0 0,
  row 0x03 .dom .ro 0 0 .any 0 65536,
  row 0x04 .dom .ro 0 0 .any 0 65536,
  row 0x05 .dom .sl 0 0 .any 1 65536,
  row 0x06 .u8 .ro 4 0 .any 0 0]

/-- R500 of spec/14_boot_update_security.md. -/
def blk6050 : List Entry := [
  row 0x01 .dom .ro 0 0 .any 0 65536,
  row 0x02 .dom .wo 0 0 .any 0 65536,
  row 0x03 .u8 .ro 0 0 .any 0 0]

/-- R500 of spec/14_boot_update_security.md. -/
def blk6060 : List Entry := [
  row 0x01 .dom .ro 0 0 .any 0 65536,
  row 0x02 .dom .ro 0 0 .any 0 65536,
  row 0x03 .dom .wo 0 0 .any 0 65536,
  row 0x04 .dom .ro 0 0 .any 0 65536,
  row 0x05 .u8 .ro 0 0 .any 0 0,
  row 0x06 .u64 .ro 0 0 .any 0 0,
  row 0x07 .u64 .ro 0 0 .any 0 0]

/-- R519 of spec/15_health_and_counters.md. -/
def blk7000 : List Entry := [
  row 0x01 .bool .rw 1 0 .any 1 0,
  row 0x02 .u32 .rw 20000 0 .any 1 0,
  row 0x03 .u32 .rw 40000 0 .any 1 0,
  row 0x04 .u16 .rw 60 0 .any 1 0,
  row 0x05 .u16 .rw 30 0 .any 1 0,
  row 0x06 .u8 .rw 40 0 .any 1 0,
  row 0x07 .u8 .rw 25 0 .any 1 0,
  row 0x08 .u16 .rw 24 0 (.span 1 720) 1 0,
  row 0x09 .u16 .rw 4 0 .any 1 0,
  row 0x0A .u16 .rw 16 0 .any 1 0,
  row 0x0B .u16 .rw 24 0 (.span 1 168) 1 0,
  row 0x0C .u16 .rw 1 0 (.span 1 168) 1 0,
  row 0x0D .u32 .wo 0 0 .any 0 0]

/-- R519 of spec/15_health_and_counters.md. -/
def blk7001 : List Entry := [
  row 0x01 .u16 .ro 2 0 .any 0 0,
  row 0x02 .u16 .ro 1 0 .any 0 0,
  row 0x03 .u16 .ro 1 0 .any 0 0,
  row 0x04 .u16 .ro 1 0 .any 0 0,
  row 0x05 .u16 .ro 4 0 .any 0 0,
  row 0x06 .u16 .ro 4096 0 .any 0 0,
  row 0x07 .u8 .ro 15 0 .any 0 0,
  row 0x08 .dom .ro 0 0 .any 0 65536,
  row 0x0B .u16 .ro 4096 0 .any 0 0]

/-- R519 of spec/15_health_and_counters.md. -/
def blk7020 : List Entry := [
  row 0x01 .dom .ro 0 0 .any 0 65536,
  row 0x02 .u32 .ro 0 0 .any 0 0,
  row 0x03 .bool .w1c 0 0 .any 0 0]

/-- R519 of spec/15_health_and_counters.md. -/
def blk7030 : List Entry := [
  row 0x01 .dom .ro 0 0 .any 0 65536,
  row 0x02 .dom .ro 0 0 .any 0 65536,
  row 0x03 .u32 .w1c 0 0 .any 8 0]

/-- R519 of spec/15_health_and_counters.md. -/
def blk7080 : List Entry := [
  row 0x01 .i32 .ro 0 0 .any 0 0,
  row 0x02 .i32 .ro 0 0 .any 0 0,
  row 0x03 .i32 .ro 0 0 .any 0 0,
  row 0x04 .i32 .ro 0 0 .any 0 0,
  row 0x05 .i32 .ro 0 0 .any 0 0,
  row 0x06 .i32 .ro 0 0 .any 0 0,
  row 0x07 .u8 .ro 0 0 .any 0 0,
  row 0x08 .u8 .ro 0 0 .any 0 0]

/-- R520 of spec/15_health_and_counters.md. -/
def blk7800 : List Entry := [
  row 0x01 .u8 .wo 0 0 .any 0 0,
  row 0x02 .bool .rw 0 0 .any 0 0,
  row 0x03 .u32 .ro 0 0 .any 0 0,
  row 0x04 .u64 .ro 0 0 .any 0 0,
  row 0x05 .u32 .rw 1000000 0 .any 1 0]

/-- R520 of spec/15_health_and_counters.md. -/
def blk7810 : List Entry := [
  row 0x01 .u16 .rw 0 0 .any 1 0,
  row 0x02 .u16 .rw 0 0 .any 1 0,
  row 0x03 .u16 .rw 0 0 .any 1 0,
  row 0x04 .u16 .rw 0 0 .any 1 0,
  row 0x05 .u16 .rw 0 0 .any 1 0,
  row 0x06 .u16 .rw 0 0 .any 1 0,
  row 0x07 .u16 .rw 0 0 .any 1 0,
  row 0x08 .u16 .rw 0 0 .any 1 0,
  row 0x09 .u64 .ro 0 0 .any 0 0,
  row 0x0A .u64 .ro 0 0 .any 0 0,
  row 0x0B .u64 .ro 0 0 .any 0 0,
  row 0x0C .u64 .ro 0 0 .any 0 0,
  row 0x0D .u64 .ro 0 0 .any 0 0,
  row 0x0E .u64 .ro 0 0 .any 0 0,
  row 0x0F .u64 .ro 0 0 .any 0 0,
  row 0x10 .u64 .ro 0 0 .any 0 0,
  row 0x11 .u8 .w1c 0 0 .any 0 0,
  row 0x12 .u8 .rw 0 0 .any 1 0,
  row 0x13 .u64 .ro 0 0 .any 0 0,
  row 0x14 .u64 .ro 0 0 .any 0 0,
  row 0x15 .u64 .ro 0 0 .any 0 0,
  row 0x16 .u64 .ro 0 0 .any 0 0,
  row 0x17 .u64 .ro 0 0 .any 0 0,
  row 0x18 .u64 .ro 0 0 .any 0 0] ++ [
  row 0x19 .u64 .ro 0 0 .any 0 0,
  row 0x1A .u64 .ro 0 0 .any 0 0,
  row 0x1B .u8 .ro 0 0 .any 0 0]

/-- R520 of spec/15_health_and_counters.md. -/
def blk7880 : List Entry := [
  row 0x01 .u64 .ro 0 0 .any 0 0,
  row 0x02 .u64 .ro 0 0 .any 0 0,
  row 0x03 .u64 .w1c 0 0 .any 8 0,
  row 0x04 .u64 .w1c 0 0 .any 8 0,
  row 0x05 .u64 .ro 0 0 .any 0 0,
  row 0x06 .u64 .ro 0 0 .any 0 0]

/-- R548 of spec/16_pins_power_electrical.md. -/
def blk4000 : List Entry := [
  row 0x01 .u8 .ro 0 0 .any 0 0,
  row 0x02 .u8 .ro 0 0 .any 0 0,
  row 0x03 .u8 .ro 0 0 .any 0 0,
  row 0x04 .u8 .ro 0 0 .any 0 0,
  row 0x05 .u16 .ro 0 0 .any 0 0,
  row 0x06 .u16 .ro 0 0 .any 0 0,
  row 0x07 .u16 .ro 0 0 .any 0 0,
  row 0x08 .u16 .ro 0 0 .any 0 0,
  row 0x09 .u16 .ro 0 0 .any 0 0,
  row 0x0A .u16 .ro 0 0 .any 0 0,
  row 0x0B .u16 .ro 0 0 .any 0 0,
  row 0x0C .u16 .ro 0 0 .any 0 0,
  row 0x0D .u32 .w1c 0 0 .any 8 0]

/-- R549 of spec/16_pins_power_electrical.md. -/
def blk4001 : List Entry := [
  row 0x01 .u32 .ro 0 0 .any 0 0,
  row 0x02 .u16 .rw 0 0 .any 0 0,
  row 0x03 .dom .ro 0 0 .any 0 65536,
  row 0x04 .dom .rw 0 0 .any 0 65536,
  row 0x05 .dom .ro 0 0 .any 0 65536,
  row 0x06 .u8 .rw 0 0 .any 1 0]

/-- R550 of spec/16_pins_power_electrical.md. -/
def blk7060 : List Entry := [
  row 0x01 .f32 .ro 0 0 .any 0 0,
  row 0x02 .f32 .w1c 0 0 .any 8 0,
  row 0x03 .f32 .ro 0 0 .any 0 0,
  row 0x04 .f32 .ro 0 0 .any 0 0,
  row 0x05 .f32 .ro 1111490560 0 .any 0 0,
  row 0x06 .i32 .ro 0 0 .any 0 0]

/-- The blocks: first index, stride, count of instances, entries (R11, R439). -/
def blocks : List Block := [
  ⟨0x1100, 1, 1, blk1100⟩,
  ⟨0x1101, 1, 1, blk1101⟩,
  ⟨0x1102, 1, 1, blk1102⟩,
  ⟨0x1110, 1, 16, blk1110⟩,
  ⟨0x2007, 16, 128, blkAX7⟩,
  ⟨0x2008, 16, 128, blkAX8⟩,
  ⟨0x2009, 16, 128, blkAX9⟩,
  ⟨0x200A, 16, 128, blkAX10⟩,
  ⟨0x200E, 16, 128, blkAX14⟩,
  ⟨0x2800, 1, 1, blk2800⟩,
  ⟨0x2001, 16, 128, blkAX1⟩,
  ⟨0x2002, 16, 128, blkAX2⟩,
  ⟨0x2003, 16, 128, blkAX3⟩,
  ⟨0x2004, 16, 128, blkAX4⟩,
  ⟨0x2005, 16, 128, blkAX5⟩,
  ⟨0x2006, 16, 128, blkAX6⟩,
  ⟨0x200B, 16, 128, blkAX11⟩,
  ⟨0x200C, 16, 128, blkAX12⟩,
  ⟨0x3005, 16, 16, blkCH5⟩,
  ⟨0x3006, 16, 16, blkCH6⟩,
  ⟨0x3000, 16, 16, blkCH0⟩,
  ⟨0x3001, 16, 16, blkCH1⟩,
  ⟨0x3002, 16, 16, blkCH2⟩,
  ⟨0x3003, 16, 16, blkCH3⟩,
  ⟨0x3004, 16, 16, blkCH4⟩,
  ⟨0x3008, 16, 16, blkCH8⟩,
  ⟨0x3100, 1, 1, blk3100⟩,
  ⟨0x3101, 1, 1, blk3101⟩,
  ⟨0x3102, 1, 1, blk3102⟩,
  ⟨0x3103, 1, 1, blk3103⟩,
  ⟨0x3104, 1, 1, blk3104⟩,
  ⟨0x3105, 1, 1, blk3105⟩,
  ⟨0x3106, 1, 1, blk3106⟩,
  ⟨0x3110, 1, 1, blk3110⟩,
  ⟨0x3120, 1, 16, blk3110⟩,
  ⟨0x3140, 1, 64, blk3140⟩] ++ [
  ⟨0x3200, 1, 1, blk3200⟩,
  ⟨0x3210, 1, 16, blk3210⟩,
  ⟨0x3220, 1, 8, blk3220⟩,
  ⟨0x3202, 1, 1, blk3202⟩,
  ⟨0x3007, 16, 16, blkCH7⟩,
  ⟨0x3009, 16, 16, blkCH9⟩,
  ⟨0x200D, 16, 128, blkAX13⟩,
  ⟨0x3430, 1, 16, blk3430⟩,
  ⟨0x3400, 1, 1, blk3400⟩,
  ⟨0x3410, 1, 16, blk3410⟩,
  ⟨0x3420, 1, 8, blk3420⟩,
  ⟨0x3440, 1, 32, blk3440⟩,
  ⟨0x3500, 1, 1, blk3500⟩,
  ⟨0x3510, 1, 2, blk3510⟩,
  ⟨0x3800, 1, 1, blk3800⟩,
  ⟨0x3801, 1, 1, blk3801⟩,
  ⟨0x3802, 1, 1, blk3802⟩,
  ⟨0x3803, 1, 1, blk3803⟩,
  ⟨0x3804, 1, 1, blk3804⟩,
  ⟨0x3840, 1, 24, blk3840⟩,
  ⟨0x3880, 1, 1, blk3880⟩,
  ⟨0x3900, 1, 1, blk3900⟩,
  ⟨0x3920, 1, 32, blk3920⟩,
  ⟨0x1400, 1, 1, blk1400⟩,
  ⟨0x1410, 1, 4, blk1410⟩,
  ⟨0x1420, 1, 1, blk1420⟩,
  ⟨0x1600, 1, 1, blk1600⟩,
  ⟨0x1610, 1, 1, blk1610⟩,
  ⟨0x1430, 1, 1, blk1430⟩,
  ⟨0x1440, 1, 1, blk1440⟩,
  ⟨0x1450, 1, 1, blk1450⟩,
  ⟨0x1500, 1, 128, blk1500⟩,
  ⟨0x1140, 1, 1, blk1140⟩,
  ⟨0x1150, 1, 1, blk1150⟩,
  ⟨0x1180, 1, 1, blk1180⟩,
  ⟨0x1190, 1, 2, blk1190⟩] ++ [
  ⟨0x5000, 1, 1, blk5000⟩,
  ⟨0x5001, 1, 1, blk5001⟩,
  ⟨0x5004, 1, 1, blk5004⟩,
  ⟨0x5010, 1, 8, blk5010⟩,
  ⟨0x5020, 1, 8, blk5020⟩,
  ⟨0x5040, 1, 16, blk5040⟩,
  ⟨0x5080, 1, 128, blk5080⟩,
  ⟨0x5800, 1, 1, blk5800⟩,
  ⟨0x5801, 1, 1, blk5801⟩,
  ⟨0x5802, 1, 1, blk5802⟩,
  ⟨0x1000, 1, 1, blk1000⟩,
  ⟨0x1001, 1, 1, blk1001⟩,
  ⟨0x1003, 1, 1, blk1003⟩,
  ⟨0x1004, 1, 1, blk1004⟩,
  ⟨0x1200, 1, 1, blk1200⟩,
  ⟨0x1201, 1, 1, blk1201⟩,
  ⟨0x1210, 1, 1, blk1210⟩,
  ⟨0x1220, 1, 1, blk1220⟩,
  ⟨0x6000, 1, 1, blk6000⟩,
  ⟨0x6010, 1, 4, blk6010⟩,
  ⟨0x6020, 1, 1, blk6020⟩,
  ⟨0x6030, 1, 1, blk6030⟩,
  ⟨0x6040, 1, 1, blk6040⟩,
  ⟨0x6050, 1, 1, blk6050⟩,
  ⟨0x6060, 1, 1, blk6060⟩,
  ⟨0x7000, 1, 1, blk7000⟩,
  ⟨0x7001, 1, 1, blk7001⟩,
  ⟨0x7020, 1, 1, blk7020⟩,
  ⟨0x7030, 1, 1, blk7030⟩,
  ⟨0x7080, 1, 64, blk7080⟩,
  ⟨0x7800, 1, 1, blk7800⟩,
  ⟨0x7810, 1, 75, blk7810⟩,
  ⟨0x7880, 1, 11, blk7880⟩,
  ⟨0x4000, 1, 1, blk4000⟩,
  ⟨0x4001, 1, 1, blk4001⟩,
  ⟨0x7060, 1, 1, blk7060⟩]

end Sys2Proof.Machine

namespace Sys2Proof.Machine.Reg

/-- The key of an entry: index times 256 plus sub-index (R435). -/
abbrev key (index sub : Nat) : Nat := index * 256 + sub

abbrev R1100_CYCLE : Nat := key 0x1100 0x01
abbrev R1100_TICK : Nat := key 0x1100 0x02
abbrev R1100_CYCLE64 : Nat := key 0x1100 0x03
abbrev R1100_CYCLE_START : Nat := key 0x1100 0x04
abbrev R1100_TICK_ABS : Nat := key 0x1100 0x05
abbrev R1101_OVERRUN_FLAGS : Nat := key 0x1101 0x01
abbrev R1101_CONTROL_COUNT : Nat := key 0x1101 0x02
abbrev R1101_PROFILE_COUNT : Nat := key 0x1101 0x03
abbrev R1101_KINEMATICS_COUNT : Nat := key 0x1101 0x04
abbrev R1101_DISTANCE_COUNT : Nat := key 0x1101 0x05
abbrev R1101_SEPARATION_COUNT : Nat := key 0x1101 0x06
abbrev R1101_LAST_CYCLE : Nat := key 0x1101 0x07
abbrev R1101_LAST_TICK : Nat := key 0x1101 0x08
abbrev R1102_SECTIONS_T0 : Nat := key 0x1102 0x01
abbrev R1102_SECTIONS_T1 : Nat := key 0x1102 0x02
abbrev R1102_SECTIONS_T2 : Nat := key 0x1102 0x03
abbrev R1102_SECTIONS_T3 : Nat := key 0x1102 0x04
abbrev R1102_SECTIONS_T4 : Nat := key 0x1102 0x05
abbrev R1102_SECTIONS_T5 : Nat := key 0x1102 0x06
abbrev R1102_SECTIONS_T6 : Nat := key 0x1102 0x07
abbrev R1102_SECTIONS_T7 : Nat := key 0x1102 0x08
abbrev R1102_DISTANCE_CYCLES : Nat := key 0x1102 0x09
abbrev R1102_TICKLOAD_T0 : Nat := key 0x1102 0x0A
abbrev R1102_TICKLOAD_T1 : Nat := key 0x1102 0x0B
abbrev R1102_TICKLOAD_T2 : Nat := key 0x1102 0x0C
abbrev R1102_TICKLOAD_T3 : Nat := key 0x1102 0x0D
abbrev R1102_TICKLOAD_T4 : Nat := key 0x1102 0x0E
abbrev R1102_TICKLOAD_T5 : Nat := key 0x1102 0x0F
abbrev R1102_TICKLOAD_T6 : Nat := key 0x1102 0x10
abbrev R1102_TICKLOAD_T7 : Nat := key 0x1102 0x11
abbrev R1102_FEEDBACK_LAST_NS : Nat := key 0x1102 0x12
abbrev R1102_OUTPUT_LAST_NS : Nat := key 0x1102 0x13
abbrev R1110_MODE (i : Nat) : Nat := key (0x1110 + i) 0x01
abbrev R1110_OFFSET_NS (i : Nat) : Nat := key (0x1110 + i) 0x02
abbrev R1110_TARGET_HART (i : Nat) : Nat := key (0x1110 + i) 0x03
abbrev R1110_PLIC_SOURCE (i : Nat) : Nat := key (0x1110 + i) 0x04
abbrev R1110_MISSED (i : Nat) : Nat := key (0x1110 + i) 0x05
abbrev AX7_MODE (i : Nat) : Nat := key (0x2007 + 16 * i) 0x01
abbrev AX7_AUX_EN (i : Nat) : Nat := key (0x2007 + 16 * i) 0x02
abbrev AX7_DIV_CUR (i : Nat) : Nat := key (0x2007 + 16 * i) 0x03
abbrev AX7_DIV_VEL (i : Nat) : Nat := key (0x2007 + 16 * i) 0x04
abbrev AX7_DIV_POS (i : Nat) : Nat := key (0x2007 + 16 * i) 0x05
abbrev AX7_DIV_AUX (i : Nat) : Nat := key (0x2007 + 16 * i) 0x06
abbrev AX7_PHASE_CUR (i : Nat) : Nat := key (0x2007 + 16 * i) 0x07
abbrev AX7_PHASE_VEL (i : Nat) : Nat := key (0x2007 + 16 * i) 0x08
abbrev AX7_PHASE_POS (i : Nat) : Nat := key (0x2007 + 16 * i) 0x09
abbrev AX7_PHASE_AUX (i : Nat) : Nat := key (0x2007 + 16 * i) 0x0A
abbrev AX7_INTERP (i : Nat) : Nat := key (0x2007 + 16 * i) 0x0B
abbrev AX7_FSX_CUR (i : Nat) : Nat := key (0x2007 + 16 * i) 0x0C
abbrev AX7_FSX_VEL (i : Nat) : Nat := key (0x2007 + 16 * i) 0x0D
abbrev AX7_FSX_POS (i : Nat) : Nat := key (0x2007 + 16 * i) 0x0E
abbrev AX7_FSX_ACC (i : Nat) : Nat := key (0x2007 + 16 * i) 0x0F
abbrev AX7_FSX_TRQ (i : Nat) : Nat := key (0x2007 + 16 * i) 0x10
abbrev AX7_FF_CUR (i : Nat) : Nat := key (0x2007 + 16 * i) 0x11
abbrev AX7_FF_VEL (i : Nat) : Nat := key (0x2007 + 16 * i) 0x12
abbrev AX7_V_NOM_MV (i : Nat) : Nat := key (0x2007 + 16 * i) 0x13
abbrev AX7_V_MIN_PCT (i : Nat) : Nat := key (0x2007 + 16 * i) 0x14
abbrev AX7_SAT_WARN_TICKS (i : Nat) : Nat := key (0x2007 + 16 * i) 0x15
abbrev AX7_SAT_FAULT_TICKS (i : Nat) : Nat := key (0x2007 + 16 * i) 0x16
abbrev AX7_SECTIONS (i : Nat) : Nat := key (0x2007 + 16 * i) 0x17
abbrev AX7_UNIT_KIND (i : Nat) : Nat := key (0x2007 + 16 * i) 0x18
abbrev AX8_LANE (i : Nat) : Nat := key (0x2008 + 16 * i) 0x01
abbrev AX8_SAT_STICKY (i : Nat) : Nat := key (0x2008 + 16 * i) 0x02
abbrev AX8_SAT_RUN_CUR (i : Nat) : Nat := key (0x2008 + 16 * i) 0x03
abbrev AX8_SAT_RUN_VEL (i : Nat) : Nat := key (0x2008 + 16 * i) 0x04
abbrev AX8_SAT_RUN_POS (i : Nat) : Nat := key (0x2008 + 16 * i) 0x05
abbrev AX8_SAT_RUN_AUX (i : Nat) : Nat := key (0x2008 + 16 * i) 0x06
abbrev AX8_SAT_WIN_CUR (i : Nat) : Nat := key (0x2008 + 16 * i) 0x07
abbrev AX8_SAT_WIN_VEL (i : Nat) : Nat := key (0x2008 + 16 * i) 0x08
abbrev AX8_SAT_WIN_POS (i : Nat) : Nat := key (0x2008 + 16 * i) 0x09
abbrev AX8_SAT_WIN_AUX (i : Nat) : Nat := key (0x2008 + 16 * i) 0x0A
abbrev AX8_OUT_CUR (i : Nat) : Nat := key (0x2008 + 16 * i) 0x0B
abbrev AX8_OUT_VEL (i : Nat) : Nat := key (0x2008 + 16 * i) 0x0C
abbrev AX8_OUT_POS (i : Nat) : Nat := key (0x2008 + 16 * i) 0x0D
abbrev AX8_OUT_AUX (i : Nat) : Nat := key (0x2008 + 16 * i) 0x0E
abbrev AX8_OUT_CUR_D (i : Nat) : Nat := key (0x2008 + 16 * i) 0x0F
abbrev AX8_FB_STATE (i : Nat) : Nat := key (0x2008 + 16 * i) 0x10
abbrev AX8_LAST_CODE (i : Nat) : Nat := key (0x2008 + 16 * i) 0x11
abbrev AX9_INACTIVE_CUR (i : Nat) : Nat := key (0x2009 + 16 * i) 0x01
abbrev AX9_INACTIVE_VEL (i : Nat) : Nat := key (0x2009 + 16 * i) 0x02
abbrev AX9_INACTIVE_POS (i : Nat) : Nat := key (0x2009 + 16 * i) 0x03
abbrev AX9_INACTIVE_AUX (i : Nat) : Nat := key (0x2009 + 16 * i) 0x04
abbrev AX9_ACTIVE_CUR (i : Nat) : Nat := key (0x2009 + 16 * i) 0x05
abbrev AX9_ACTIVE_VEL (i : Nat) : Nat := key (0x2009 + 16 * i) 0x06
abbrev AX9_ACTIVE_POS (i : Nat) : Nat := key (0x2009 + 16 * i) 0x07
abbrev AX9_ACTIVE_AUX (i : Nat) : Nat := key (0x2009 + 16 * i) 0x08
abbrev AX9_ACTIVE_BANK (i : Nat) : Nat := key (0x2009 + 16 * i) 0x09
abbrev AX9_COMMIT_MASK (i : Nat) : Nat := key (0x2009 + 16 * i) 0x0A
abbrev AX9_BUMPLESS_MASK (i : Nat) : Nat := key (0x2009 + 16 * i) 0x0B
abbrev AX9_LATE_POLICY (i : Nat) : Nat := key (0x2009 + 16 * i) 0x0C
abbrev AX9_COMMIT_CYCLE (i : Nat) : Nat := key (0x2009 + 16 * i) 0x0D
abbrev AX9_COMMIT_STATUS (i : Nat) : Nat := key (0x2009 + 16 * i) 0x0E
abbrev AX9_DONE_CYCLE (i : Nat) : Nat := key (0x2009 + 16 * i) 0x0F
abbrev AX9_COPY_ACTIVE (i : Nat) : Nat := key (0x2009 + 16 * i) 0x10
abbrev AX10_AGE_LIMIT (i : Nat) : Nat := key (0x200A + 16 * i) 0x01
abbrev AX10_FROZEN_N (i : Nat) : Nat := key (0x200A + 16 * i) 0x02
abbrev AX10_FROZEN_THRESH (i : Nat) : Nat := key (0x200A + 16 * i) 0x03
abbrev AX10_VEL_SRC (i : Nat) : Nat := key (0x200A + 16 * i) 0x04
abbrev AX10_AGES (i : Nat) : Nat := key (0x200A + 16 * i) 0x05
abbrev AX10_VDC_MV (i : Nat) : Nat := key (0x200A + 16 * i) 0x06
abbrev AX10_AGED_COUNT (i : Nat) : Nat := key (0x200A + 16 * i) 0x07
abbrev AX10_FROZEN_RUN (i : Nat) : Nat := key (0x200A + 16 * i) 0x08
abbrev AX10_LOST_CHANNEL (i : Nat) : Nat := key (0x200A + 16 * i) 0x0B
abbrev AX14_CONTROL_OVERRUN (i : Nat) : Nat := key (0x200E + 16 * i) 0x01
abbrev AX14_PROFILE_OVERRUN (i : Nat) : Nat := key (0x200E + 16 * i) 0x02
abbrev AX14_FEEDBACK_LOST (i : Nat) : Nat := key (0x200E + 16 * i) 0x03
abbrev AX14_FEEDBACK_FROZEN (i : Nat) : Nat := key (0x200E + 16 * i) 0x04
abbrev AX14_SAT_FAULT (i : Nat) : Nat := key (0x200E + 16 * i) 0x05
abbrev AX14_FOLLOW_ERROR (i : Nat) : Nat := key (0x200E + 16 * i) 0x06
abbrev AX14_DC_LINK_LOW (i : Nat) : Nat := key (0x200E + 16 * i) 0x07
abbrev R2800_LANES_WORKING : Nat := key 0x2800 0x01
abbrev R2800_LANE_MAP : Nat := key 0x2800 0x02
abbrev R2800_SPARE_STATE : Nat := key 0x2800 0x03
abbrev R2800_LANE_FAULTS : Nat := key 0x2800 0x04
abbrev R2800_CAPACITY : Nat := key 0x2800 0x05
abbrev R2800_DIRECT_AXES : Nat := key 0x2800 0x06
abbrev R2800_LANE_PEAK_0 : Nat := key 0x2800 0x07
abbrev R2800_LANE_PEAK_1 : Nat := key 0x2800 0x08
abbrev R2800_LANE_PEAK_2 : Nat := key 0x2800 0x09
abbrev R2800_LANE_PEAK_3 : Nat := key 0x2800 0x0A
abbrev R2800_LANE_PEAK_4 : Nat := key 0x2800 0x0B
abbrev AX1_STATE (i : Nat) : Nat := key (0x2001 + 16 * i) 0x01
abbrev AX1_CONTROL (i : Nat) : Nat := key (0x2001 + 16 * i) 0x02
abbrev AX1_FAULT_CODE (i : Nat) : Nat := key (0x2001 + 16 * i) 0x03
abbrev AX1_REACTION (i : Nat) : Nat := key (0x2001 + 16 * i) 0x04
abbrev AX2_SOFT_EN (i : Nat) : Nat := key (0x2002 + 16 * i) 0x01
abbrev AX2_SOFT_MIN (i : Nat) : Nat := key (0x2002 + 16 * i) 0x02
abbrev AX2_SOFT_MAX (i : Nat) : Nat := key (0x2002 + 16 * i) 0x03
abbrev AX2_V_MAX (i : Nat) : Nat := key (0x2002 + 16 * i) 0x04
abbrev AX2_A_MAX (i : Nat) : Nat := key (0x2002 + 16 * i) 0x05
abbrev AX2_J_MAX (i : Nat) : Nat := key (0x2002 + 16 * i) 0x06
abbrev AX2_FOLLOW_WINDOW (i : Nat) : Nat := key (0x2002 + 16 * i) 0x07
abbrev AX2_FOLLOW_KP (i : Nat) : Nat := key (0x2002 + 16 * i) 0x08
abbrev AX3_EM_DEC (i : Nat) : Nat := key (0x2003 + 16 * i) 0x01
abbrev AX3_EM_JERK (i : Nat) : Nat := key (0x2003 + 16 * i) 0x02
abbrev AX4_CMD (i : Nat) : Nat := key (0x2004 + 16 * i) 0x01
abbrev AX4_TARGET (i : Nat) : Nat := key (0x2004 + 16 * i) 0x02
abbrev AX4_VEL (i : Nat) : Nat := key (0x2004 + 16 * i) 0x03
abbrev AX4_ACC (i : Nat) : Nat := key (0x2004 + 16 * i) 0x04
abbrev AX4_JERK (i : Nat) : Nat := key (0x2004 + 16 * i) 0x05
abbrev AX4_SEQ (i : Nat) : Nat := key (0x2004 + 16 * i) 0x06
abbrev AX5_SETPOINT (i : Nat) : Nat := key (0x2005 + 16 * i) 0x01
abbrev AX5_SET_VEL (i : Nat) : Nat := key (0x2005 + 16 * i) 0x02
abbrev AX5_SET_ACC (i : Nat) : Nat := key (0x2005 + 16 * i) 0x03
abbrev AX5_ACTIVE_CMD (i : Nat) : Nat := key (0x2005 + 16 * i) 0x04
abbrev AX5_TAKEN_SEQ (i : Nat) : Nat := key (0x2005 + 16 * i) 0x05
abbrev AX5_CMD_STATUS (i : Nat) : Nat := key (0x2005 + 16 * i) 0x06
abbrev AX5_FLAGS (i : Nat) : Nat := key (0x2005 + 16 * i) 0x07
abbrev AX5_OVERSHOOT (i : Nat) : Nat := key (0x2005 + 16 * i) 0x08
abbrev AX5_REMAIN_US (i : Nat) : Nat := key (0x2005 + 16 * i) 0x09
abbrev AX5_LAG (i : Nat) : Nat := key (0x2005 + 16 * i) 0x0A
abbrev AX6_SRC_KIND (i : Nat) : Nat := key (0x2006 + 16 * i) 0x01
abbrev AX6_SRC_INDEX (i : Nat) : Nat := key (0x2006 + 16 * i) 0x02
abbrev AX6_SRC_SCALE (i : Nat) : Nat := key (0x2006 + 16 * i) 0x03
abbrev AX6_SRC_OFFSET (i : Nat) : Nat := key (0x2006 + 16 * i) 0x04
abbrev AX6_GEAR_NUM (i : Nat) : Nat := key (0x2006 + 16 * i) 0x05
abbrev AX6_GEAR_DEN (i : Nat) : Nat := key (0x2006 + 16 * i) 0x06
abbrev AX6_ENGAGE_DIST (i : Nat) : Nat := key (0x2006 + 16 * i) 0x07
abbrev AX6_PHASE_OFFSET (i : Nat) : Nat := key (0x2006 + 16 * i) 0x08
abbrev AX6_ENGAGED (i : Nat) : Nat := key (0x2006 + 16 * i) 0x09
abbrev AX11_METHOD (i : Nat) : Nat := key (0x200B + 16 * i) 0x01
abbrev AX11_HOME_DIR (i : Nat) : Nat := key (0x200B + 16 * i) 0x02
abbrev AX11_V_SEARCH (i : Nat) : Nat := key (0x200B + 16 * i) 0x03
abbrev AX11_V_CREEP (i : Nat) : Nat := key (0x200B + 16 * i) 0x04
abbrev AX11_MAX_DIST (i : Nat) : Nat := key (0x200B + 16 * i) 0x05
abbrev AX11_HOME_POS (i : Nat) : Nat := key (0x200B + 16 * i) 0x06
abbrev AX11_HS_TORQUE (i : Nat) : Nat := key (0x200B + 16 * i) 0x07
abbrev AX11_HS_TICKS (i : Nat) : Nat := key (0x200B + 16 * i) 0x08
abbrev AX11_BACKOFF (i : Nat) : Nat := key (0x200B + 16 * i) 0x09
abbrev AX11_HOME_STATE (i : Nat) : Nat := key (0x200B + 16 * i) 0x0A
abbrev AX11_HOMED (i : Nat) : Nat := key (0x200B + 16 * i) 0x0B
abbrev AX11_FIRST_RAW_TIME (i : Nat) : Nat := key (0x200B + 16 * i) 0x0C
abbrev AX11_FIRST_RAW_POS (i : Nat) : Nat := key (0x200B + 16 * i) 0x0D
abbrev AX11_REF_TIME (i : Nat) : Nat := key (0x200B + 16 * i) 0x0E
abbrev AX11_REF_POS (i : Nat) : Nat := key (0x200B + 16 * i) 0x0F
abbrev AX11_QUAL_TIME (i : Nat) : Nat := key (0x200B + 16 * i) 0x10
abbrev AX11_LATCH_ARM (i : Nat) : Nat := key (0x200B + 16 * i) 0x11
abbrev AX11_LATCH_INPUT (i : Nat) : Nat := key (0x200B + 16 * i) 0x12
abbrev AX11_LATCH_POS (i : Nat) : Nat := key (0x200B + 16 * i) 0x13
abbrev AX11_LATCH_VALID (i : Nat) : Nat := key (0x200B + 16 * i) 0x14
abbrev AX11_LATCH_COMP_NS (i : Nat) : Nat := key (0x200B + 16 * i) 0x15
abbrev AX12_LIM_POS_IN (i : Nat) : Nat := key (0x200C + 16 * i) 0x01
abbrev AX12_LIM_NEG_IN (i : Nat) : Nat := key (0x200C + 16 * i) 0x02
abbrev AX12_HOME_IN (i : Nat) : Nat := key (0x200C + 16 * i) 0x03
abbrev AX12_POLARITY (i : Nat) : Nat := key (0x200C + 16 * i) 0x04
abbrev AX12_DEBOUNCE_US (i : Nat) : Nat := key (0x200C + 16 * i) 0x05
abbrev AX12_CHATTER_N (i : Nat) : Nat := key (0x200C + 16 * i) 0x06
abbrev AX12_CHATTER_WIN_MS (i : Nat) : Nat := key (0x200C + 16 * i) 0x07
abbrev AX12_MAX_ACTIVE_MS (i : Nat) : Nat := key (0x200C + 16 * i) 0x08
abbrev AX12_HOME_SWITCH (i : Nat) : Nat := key (0x200C + 16 * i) 0x09
abbrev AX12_INPUT_STATUS (i : Nat) : Nat := key (0x200C + 16 * i) 0x0A
abbrev AX12_EDGE_COUNT (i : Nat) : Nat := key (0x200C + 16 * i) 0x0B
abbrev CH5_APPEND (i : Nat) : Nat := key (0x3005 + 16 * i) 0x01
abbrev CH5_CONTROL (i : Nat) : Nat := key (0x3005 + 16 * i) 0x02
abbrev CH5_FILL (i : Nat) : Nat := key (0x3005 + 16 * i) 0x03
abbrev CH5_ACTIVE_SEQ (i : Nat) : Nat := key (0x3005 + 16 * i) 0x04
abbrev CH5_DONE_SEQ (i : Nat) : Nat := key (0x3005 + 16 * i) 0x05
abbrev CH6_LAMBDA (i : Nat) : Nat := key (0x3006 + 16 * i) 0x02
abbrev CH6_USER_OVR (i : Nat) : Nat := key (0x3006 + 16 * i) 0x03
abbrev CH6_LAMBDA_RISE (i : Nat) : Nat := key (0x3006 + 16 * i) 0x04
abbrev CH6_LAMBDA_FALL (i : Nat) : Nat := key (0x3006 + 16 * i) 0x05
abbrev CH6_SEP_OVR (i : Nat) : Nat := key (0x3006 + 16 * i) 0x06
abbrev CH0_CHAIN_EN (i : Nat) : Nat := key (0x3000 + 16 * i) 0x01
abbrev CH0_N_MEMBERS (i : Nat) : Nat := key (0x3000 + 16 * i) 0x02
abbrev CH0_MEMBERS (i : Nat) : Nat := key (0x3000 + 16 * i) 0x03
abbrev CH0_NAME (i : Nat) : Nat := key (0x3000 + 16 * i) 0x04
abbrev CH1_STATE (i : Nat) : Nat := key (0x3001 + 16 * i) 0x01
abbrev CH1_PAYLOAD (i : Nat) : Nat := key (0x3001 + 16 * i) 0x02
abbrev CH1_ACTIVE_PAYLOAD (i : Nat) : Nat := key (0x3001 + 16 * i) 0x03
abbrev CH1_FRAME_AGE (i : Nat) : Nat := key (0x3001 + 16 * i) 0x04
abbrev CH1_HOLD_ZONES (i : Nat) : Nat := key (0x3001 + 16 * i) 0x05
abbrev CH1_E_K (i : Nat) : Nat := key (0x3001 + 16 * i) 0x06
abbrev CH2_BASE (i : Nat) : Nat := key (0x3002 + 16 * i) 0x01
abbrev CH3_LINKS (i : Nat) : Nat := key (0x3003 + 16 * i) 0x01
abbrev CH4_CAPSULES (i : Nat) : Nat := key (0x3004 + 16 * i) 0x01
abbrev CH8_REQUEST (i : Nat) : Nat := key (0x3008 + 16 * i) 0x01
abbrev CH8_RELEASE (i : Nat) : Nat := key (0x3008 + 16 * i) 0x02
abbrev CH8_HELD (i : Nat) : Nat := key (0x3008 + 16 * i) 0x03
abbrev CH8_WAITING (i : Nat) : Nat := key (0x3008 + 16 * i) 0x04
abbrev CH8_LAST_STATUS (i : Nat) : Nat := key (0x3008 + 16 * i) 0x05
abbrev R3100_COMMIT_CYCLE : Nat := key 0x3100 0x01
abbrev R3100_LATE_POLICY : Nat := key 0x3100 0x02
abbrev R3100_COMMIT_STATUS : Nat := key 0x3100 0x03
abbrev R3100_DONE_CYCLE : Nat := key 0x3100 0x04
abbrev R3100_GEOM_DIGEST : Nat := key 0x3100 0x05
abbrev R3101_UNITS_WORKING : Nat := key 0x3101 0x01
abbrev R3101_UNIT_MAP : Nat := key 0x3101 0x02
abbrev R3101_TESTS_LAST : Nat := key 0x3101 0x05
abbrev R3101_SCREENED_LAST : Nat := key 0x3101 0x06
abbrev R3101_BUDGET_U : Nat := key 0x3101 0x07
abbrev R3102_CROSS : Nat := key 0x3102 0x01
abbrev R3102_SELF : Nat := key 0x3102 0x02
abbrev R3102_PREDICT : Nat := key 0x3102 0x03
abbrev R3102_N_INTR : Nat := key 0x3102 0x04
abbrev R3102_BROAD_MARGIN : Nat := key 0x3102 0x05
abbrev R3102_CONTACT_LL_MM : Nat := key 0x3102 0x06
abbrev R3102_CONTACT_LB_MM : Nat := key 0x3102 0x07
abbrev R3102_CONTACT_REACTION : Nat := key 0x3102 0x08
abbrev R3103_BOXES : Nat := key 0x3103 0x01
abbrev R3104_ZONES : Nat := key 0x3104 0x01
abbrev R3105_EXCLUDE : Nat := key 0x3105 0x01
abbrev R3106_INTRUDERS : Nat := key 0x3106 0x01
abbrev R3110_RESULT_CYCLE : Nat := key 0x3110 0x01
abbrev R3110_MIN_LL : Nat := key 0x3110 0x02
abbrev R3110_PAIR_LL : Nat := key 0x3110 0x03
abbrev R3110_MIN_LI : Nat := key 0x3110 0x04
abbrev R3110_PAIR_LI : Nat := key 0x3110 0x05
abbrev R3110_MIN_LB : Nat := key 0x3110 0x06
abbrev R3110_PAIR_LB : Nat := key 0x3110 0x07
abbrev R3110_CONTACT : Nat := key 0x3110 0x08
abbrev R3110_SCREENED : Nat := key 0x3110 0x09
abbrev R3140_HOLDER (i : Nat) : Nat := key (0x3140 + i) 0x01
abbrev R3140_RELEASING (i : Nat) : Nat := key (0x3140 + i) 0x02
abbrev R3140_QUEUE (i : Nat) : Nat := key (0x3140 + i) 0x03
abbrev R3140_OCCUPANTS (i : Nat) : Nat := key (0x3140 + i) 0x04
abbrev R3140_BREACH (i : Nat) : Nat := key (0x3140 + i) 0x05
abbrev R3140_EXITING (i : Nat) : Nat := key (0x3140 + i) 0x06
abbrev R3140_FORCE_RELEASE (i : Nat) : Nat := key (0x3140 + i) 0x10
abbrev R3200_COMMIT_CYCLE : Nat := key 0x3200 0x01
abbrev R3200_LATE_POLICY : Nat := key 0x3200 0x02
abbrev R3200_COMMIT_STATUS : Nat := key 0x3200 0x03
abbrev R3200_DONE_CYCLE : Nat := key 0x3200 0x04
abbrev R3200_V_H_DEFAULT : Nat := key 0x3200 0x05
abbrev R3200_V_H_MAX : Nat := key 0x3200 0x06
abbrev R3200_C_MM : Nat := key 0x3200 0x07
abbrev R3200_Z_D_MM : Nat := key 0x3200 0x08
abbrev R3200_TOL_MM : Nat := key 0x3200 0x09
abbrev R3200_TOL_PCT : Nat := key 0x3200 0x0A
abbrev R3200_V_REF_TOL : Nat := key 0x3200 0x0B
abbrev R3200_RESERVED : Nat := key 0x3200 0x0C
abbrev R3200_SEP_DIGEST : Nat := key 0x3200 0x0D
abbrev R3210_SSM_EN (i : Nat) : Nat := key (0x3210 + i) 0x01
abbrev R3210_V_REF (i : Nat) : Nat := key (0x3210 + i) 0x02
abbrev R3210_DIR_SLACK (i : Nat) : Nat := key (0x3210 + i) 0x03
abbrev R3210_Z_R_MM (i : Nat) : Nat := key (0x3210 + i) 0x04
abbrev R3210_O_MIN (i : Nat) : Nat := key (0x3210 + i) 0x05
abbrev R3210_STOP_KIND (i : Nat) : Nat := key (0x3210 + i) 0x06
abbrev R3210_AUTO_RESUME (i : Nat) : Nat := key (0x3210 + i) 0x07
abbrev R3210_RESUME_CYCLES (i : Nat) : Nat := key (0x3210 + i) 0x08
abbrev R3220_CONN (i : Nat) : Nat := key (0x3220 + i) 0x01
abbrev R3220_SLOT_BASE (i : Nat) : Nat := key (0x3220 + i) 0x02
abbrev R3220_SLOT_COUNT (i : Nat) : Nat := key (0x3220 + i) 0x03
abbrev R3220_T_SENSOR_US (i : Nat) : Nat := key (0x3220 + i) 0x04
abbrev R3220_TIMEOUT_US (i : Nat) : Nat := key (0x3220 + i) 0x05
abbrev R3220_SPEED_MODE (i : Nat) : Nat := key (0x3220 + i) 0x06
abbrev R3220_V_H_MIN (i : Nat) : Nat := key (0x3220 + i) 0x07
abbrev R3220_OPENING_BOX (i : Nat) : Nat := key (0x3220 + i) 0x08
abbrev R3220_STATE (i : Nat) : Nat := key (0x3220 + i) 0x10
abbrev R3220_LAST_RX_CYCLE (i : Nat) : Nat := key (0x3220 + i) 0x11
abbrev R3220_TIMEOUTS (i : Nat) : Nat := key (0x3220 + i) 0x12
abbrev R3220_REJECTED (i : Nat) : Nat := key (0x3220 + i) 0x13
abbrev R3202_PAIRS_CHECKED : Nat := key 0x3202 0x01
abbrev R3202_DISAGREE_COUNT : Nat := key 0x3202 0x02
abbrev R3202_LATE_COUNT : Nat := key 0x3202 0x03
abbrev R3202_LAST_PAIR : Nat := key 0x3202 0x04
abbrev R3202_LAST_D_A : Nat := key 0x3202 0x05
abbrev R3202_LAST_D_B : Nat := key 0x3202 0x06
abbrev R3202_LAST_CYCLE : Nat := key 0x3202 0x07
abbrev CH7_ENVELOPE (i : Nat) : Nat := key (0x3007 + 16 * i) 0x01
abbrev CH7_LEARNED (i : Nat) : Nat := key (0x3007 + 16 * i) 0x02
abbrev CH7_EFFECTIVE (i : Nat) : Nat := key (0x3007 + 16 * i) 0x03
abbrev CH7_LEARN_MARGIN_PCT (i : Nat) : Nat := key (0x3007 + 16 * i) 0x04
abbrev CH7_STANDSTILL_MM_S (i : Nat) : Nat := key (0x3007 + 16 * i) 0x05
abbrev CH7_LAST_STOP (i : Nat) : Nat := key (0x3007 + 16 * i) 0x06
abbrev CH7_RAISES (i : Nat) : Nat := key (0x3007 + 16 * i) 0x07
abbrev CH7_DISCARDS (i : Nat) : Nat := key (0x3007 + 16 * i) 0x08
abbrev CH7_LEARNED_DIGEST (i : Nat) : Nat := key (0x3007 + 16 * i) 0x09
abbrev CH9_STOP_STATE (i : Nat) : Nat := key (0x3009 + 16 * i) 0x01
abbrev CH9_SLOT (i : Nat) : Nat := key (0x3009 + 16 * i) 0x02
abbrev CH9_PAIR (i : Nat) : Nat := key (0x3009 + 16 * i) 0x03
abbrev CH9_D_MM (i : Nat) : Nat := key (0x3009 + 16 * i) 0x04
abbrev CH9_SP_MM (i : Nat) : Nat := key (0x3009 + 16 * i) 0x05
abbrev CH9_MARGIN_MM (i : Nat) : Nat := key (0x3009 + 16 * i) 0x06
abbrev CH9_V_H (i : Nat) : Nat := key (0x3009 + 16 * i) 0x07
abbrev CH9_U_DIR (i : Nat) : Nat := key (0x3009 + 16 * i) 0x08
abbrev CH9_OK_CYCLES (i : Nat) : Nat := key (0x3009 + 16 * i) 0x09
abbrev CH9_RESULT_CYCLE (i : Nat) : Nat := key (0x3009 + 16 * i) 0x0A
abbrev AX13_INJ_LIMIT_CUR (i : Nat) : Nat := key (0x200D + 16 * i) 0x01
abbrev AX13_INJ_LIMIT_VEL (i : Nat) : Nat := key (0x200D + 16 * i) 0x02
abbrev AX13_INJ_LIMIT_POS (i : Nat) : Nat := key (0x200D + 16 * i) 0x03
abbrev AX13_INJ_LIMIT_AUX (i : Nat) : Nat := key (0x200D + 16 * i) 0x04
abbrev AX13_INJ_GEN (i : Nat) : Nat := key (0x200D + 16 * i) 0x05
abbrev AX13_CAPTURE_SETS (i : Nat) : Nat := key (0x200D + 16 * i) 0x06
abbrev AX13_TRACKERS (i : Nat) : Nat := key (0x200D + 16 * i) 0x07
abbrev R3430_AXIS (i : Nat) : Nat := key (0x3430 + i) 0x01
abbrev R3430_LEVEL (i : Nat) : Nat := key (0x3430 + i) 0x02
abbrev R3430_POINT (i : Nat) : Nat := key (0x3430 + i) 0x03
abbrev R3430_SIGNAL (i : Nat) : Nat := key (0x3430 + i) 0x04
abbrev R3430_AMPLITUDE (i : Nat) : Nat := key (0x3430 + i) 0x05
abbrev R3430_PRBS_ORDER (i : Nat) : Nat := key (0x3430 + i) 0x06
abbrev R3430_PRBS_HOLD (i : Nat) : Nat := key (0x3430 + i) 0x07
abbrev R3430_F0 (i : Nat) : Nat := key (0x3430 + i) 0x08
abbrev R3430_F1 (i : Nat) : Nat := key (0x3430 + i) 0x09
abbrev R3430_DURATION (i : Nat) : Nat := key (0x3430 + i) 0x0A
abbrev R3430_REPEAT (i : Nat) : Nat := key (0x3430 + i) 0x0B
abbrev R3430_LINES (i : Nat) : Nat := key (0x3430 + i) 0x0C
abbrev R3430_MS_PERIOD (i : Nat) : Nat := key (0x3430 + i) 0x0D
abbrev R3430_MS_SCHROEDER (i : Nat) : Nat := key (0x3430 + i) 0x0E
abbrev R3430_FADE (i : Nat) : Nat := key (0x3430 + i) 0x0F
abbrev R3430_D_CHANNEL (i : Nat) : Nat := key (0x3430 + i) 0x10
abbrev R3430_LATE_POLICY (i : Nat) : Nat := key (0x3430 + i) 0x11
abbrev R3430_START_CYCLE (i : Nat) : Nat := key (0x3430 + i) 0x12
abbrev R3430_STOP (i : Nat) : Nat := key (0x3430 + i) 0x13
abbrev R3430_STATE (i : Nat) : Nat := key (0x3430 + i) 0x14
abbrev R3430_STATUS (i : Nat) : Nat := key (0x3430 + i) 0x15
abbrev R3430_EVALS (i : Nat) : Nat := key (0x3430 + i) 0x16
abbrev R3430_CLIPPED (i : Nat) : Nat := key (0x3430 + i) 0x17
abbrev R3400_FREE : Nat := key 0x3400 0x01
abbrev R3400_PENDING : Nat := key 0x3400 0x02
abbrev R3410_DIV (i : Nat) : Nat := key (0x3410 + i) 0x01
abbrev R3410_PHASE (i : Nat) : Nat := key (0x3410 + i) 0x02
abbrev R3410_N_CH (i : Nat) : Nat := key (0x3410 + i) 0x03
abbrev R3410_SOURCES (i : Nat) : Nat := key (0x3410 + i) 0x04
abbrev R3410_MODE (i : Nat) : Nat := key (0x3410 + i) 0x05
abbrev R3410_TRIG (i : Nat) : Nat := key (0x3410 + i) 0x06
abbrev R3410_TRIG_INDEX (i : Nat) : Nat := key (0x3410 + i) 0x07
abbrev R3410_TRIG_LEVEL (i : Nat) : Nat := key (0x3410 + i) 0x08
abbrev R3410_POST_ROWS (i : Nat) : Nat := key (0x3410 + i) 0x09
abbrev R3410_LATE_POLICY (i : Nat) : Nat := key (0x3410 + i) 0x0A
abbrev R3410_ARM_CYCLE (i : Nat) : Nat := key (0x3410 + i) 0x0B
abbrev R3410_STOP (i : Nat) : Nat := key (0x3410 + i) 0x0C
abbrev R3410_LENGTH (i : Nat) : Nat := key (0x3410 + i) 0x0D
abbrev R3410_LEN_STATE (i : Nat) : Nat := key (0x3410 + i) 0x0E
abbrev R3410_BUF_ADDR (i : Nat) : Nat := key (0x3410 + i) 0x0F
abbrev R3410_WR_PTR (i : Nat) : Nat := key (0x3410 + i) 0x10
abbrev R3410_WRAPS (i : Nat) : Nat := key (0x3410 + i) 0x11
abbrev R3410_TRIG_ROW (i : Nat) : Nat := key (0x3410 + i) 0x12
abbrev R3410_RUN_STATE (i : Nat) : Nat := key (0x3410 + i) 0x13
abbrev R3410_DATA (i : Nat) : Nat := key (0x3410 + i) 0x14
abbrev R3420_KIND (i : Nat) : Nat := key (0x3420 + i) 0x01
abbrev R3420_CAPTURE_SET (i : Nat) : Nat := key (0x3420 + i) 0x02
abbrev R3420_REF_CH (i : Nat) : Nat := key (0x3420 + i) 0x03
abbrev R3420_U_CH (i : Nat) : Nat := key (0x3420 + i) 0x04
abbrev R3420_Y_CH (i : Nat) : Nat := key (0x3420 + i) 0x05
abbrev R3420_N_FFT (i : Nat) : Nat := key (0x3420 + i) 0x06
abbrev R3420_WINDOW (i : Nat) : Nat := key (0x3420 + i) 0x07
abbrev R3420_OVERLAP (i : Nat) : Nat := key (0x3420 + i) 0x08
abbrev R3420_F_LO (i : Nat) : Nat := key (0x3420 + i) 0x09
abbrev R3420_F_HI (i : Nat) : Nat := key (0x3420 + i) 0x0A
abbrev R3420_PEAK_DB (i : Nat) : Nat := key (0x3420 + i) 0x0B
abbrev R3420_COH_MIN (i : Nat) : Nat := key (0x3420 + i) 0x0C
abbrev R3420_WIDTH_HZ (i : Nat) : Nat := key (0x3420 + i) 0x0D
abbrev R3420_DEPTH (i : Nat) : Nat := key (0x3420 + i) 0x0E
abbrev R3420_TGT_AXIS (i : Nat) : Nat := key (0x3420 + i) 0x0F
abbrev R3420_TGT_LEVEL (i : Nat) : Nat := key (0x3420 + i) 0x10
abbrev R3420_TGT_SLOT (i : Nat) : Nat := key (0x3420 + i) 0x11
abbrev R3420_RUN (i : Nat) : Nat := key (0x3420 + i) 0x12
abbrev R3420_JOB_STATE (i : Nat) : Nat := key (0x3420 + i) 0x13
abbrev R3420_JOB_REASON (i : Nat) : Nat := key (0x3420 + i) 0x14
abbrev R3420_RESULT (i : Nat) : Nat := key (0x3420 + i) 0x15
abbrev R3420_PROP_F (i : Nat) : Nat := key (0x3420 + i) 0x16
abbrev R3420_PROP_COEF (i : Nat) : Nat := key (0x3420 + i) 0x17
abbrev R3420_PROP_PLACED (i : Nat) : Nat := key (0x3420 + i) 0x18
abbrev R3440_EN (i : Nat) : Nat := key (0x3440 + i) 0x01
abbrev R3440_AXIS (i : Nat) : Nat := key (0x3440 + i) 0x02
abbrev R3440_LEVEL (i : Nat) : Nat := key (0x3440 + i) 0x03
abbrev R3440_SEC (i : Nat) : Nat := key (0x3440 + i) 0x04
abbrev R3440_F0 (i : Nat) : Nat := key (0x3440 + i) 0x05
abbrev R3440_BAND_PCT (i : Nat) : Nat := key (0x3440 + i) 0x06
abbrev R3440_WIDTH_HZ (i : Nat) : Nat := key (0x3440 + i) 0x07
abbrev R3440_DEPTH (i : Nat) : Nat := key (0x3440 + i) 0x08
abbrev R3440_HYST_PCT (i : Nat) : Nat := key (0x3440 + i) 0x09
abbrev R3440_MIN_RMS (i : Nat) : Nat := key (0x3440 + i) 0x0A
abbrev R3440_F_EST (i : Nat) : Nat := key (0x3440 + i) 0x0B
abbrev R3440_F_APPLIED (i : Nat) : Nat := key (0x3440 + i) 0x0C
abbrev R3440_TRACK_STATE (i : Nat) : Nat := key (0x3440 + i) 0x0D
abbrev R3440_UPDATES (i : Nat) : Nat := key (0x3440 + i) 0x0E
abbrev R3440_LAST_CYCLE (i : Nat) : Nat := key (0x3440 + i) 0x0F
abbrev R3500_ENGINES : Nat := key 0x3500 0x01
abbrev R3500_LIB_VERSION : Nat := key 0x3500 0x02
abbrev R3500_LIB_DIGEST : Nat := key 0x3500 0x03
abbrev R3510_MODE (i : Nat) : Nat := key (0x3510 + i) 0x01
abbrev R3510_STATE (i : Nat) : Nat := key (0x3510 + i) 0x02
abbrev R3510_CONTROL (i : Nat) : Nat := key (0x3510 + i) 0x03
abbrev R3510_START_PC (i : Nat) : Nat := key (0x3510 + i) 0x04
abbrev R3510_PROGRAM (i : Nat) : Nat := key (0x3510 + i) 0x05
abbrev R3510_XMEM (i : Nat) : Nat := key (0x3510 + i) 0x06
abbrev R3510_YMEM (i : Nat) : Nat := key (0x3510 + i) 0x07
abbrev R3510_REGS (i : Nat) : Nat := key (0x3510 + i) 0x08
abbrev R3510_HALT_CODE (i : Nat) : Nat := key (0x3510 + i) 0x09
abbrev R3510_STOP_PC (i : Nat) : Nat := key (0x3510 + i) 0x0A
abbrev R3510_FAULT (i : Nat) : Nat := key (0x3510 + i) 0x0B
abbrev R3510_SR (i : Nat) : Nat := key (0x3510 + i) 0x0C
abbrev R3510_DOORBELL (i : Nat) : Nat := key (0x3510 + i) 0x0D
abbrev R3510_SIGNAL (i : Nat) : Nat := key (0x3510 + i) 0x0E
abbrev R3510_SIG_MASK (i : Nat) : Nat := key (0x3510 + i) 0x0F
abbrev R3510_WD_US (i : Nat) : Nat := key (0x3510 + i) 0x10
abbrev R3510_CYCLES (i : Nat) : Nat := key (0x3510 + i) 0x11
abbrev R3510_PROG_DIGEST (i : Nat) : Nat := key (0x3510 + i) 0x12
abbrev R3510_PLIC_SOURCE (i : Nat) : Nat := key (0x3510 + i) 0x13
abbrev R3510_BANK_WAITS (i : Nat) : Nat := key (0x3510 + i) 0x14
abbrev R3800_DISPATCH_MODE : Nat := key 0x3800 0x01
abbrev R3800_PUSH_FORCE : Nat := key 0x3800 0x02
abbrev R3800_SLOTS_USED : Nat := key 0x3800 0x03
abbrev R3800_SLOTS_RESERVED : Nat := key 0x3800 0x04
abbrev R3800_IN_SERVICE : Nat := key 0x3800 0x05
abbrev R3800_PARKED : Nat := key 0x3800 0x06
abbrev R3800_ASK_TIMEOUT_US : Nat := key 0x3800 0x07
abbrev R3800_RETIRE_GRACE_MS : Nat := key 0x3800 0x08
abbrev R3800_STALE_PORT : Nat := key 0x3800 0x09
abbrev R3800_LAST_CODE : Nat := key 0x3800 0x0A
abbrev R3801_PARK_EN : Nat := key 0x3801 0x01
abbrev R3801_PARK_FRAMES : Nat := key 0x3801 0x02
abbrev R3801_MAP_FUNC : Nat := key 0x3801 0x03
abbrev R3801_MAP_FLOW : Nat := key 0x3801 0x04
abbrev R3801_MAP_PRIO : Nat := key 0x3801 0x05
abbrev R3801_PARK_MAX : Nat := key 0x3801 0x06
abbrev R3801_PARK_BASE : Nat := key 0x3801 0x07
abbrev R3801_PARKS : Nat := key 0x3801 0x08
abbrev R3801_PARK_FULL_COUNT : Nat := key 0x3801 0x09
abbrev R3802_JOURNAL_BASE : Nat := key 0x3802 0x01
abbrev R3802_JOURNAL_ENTRIES : Nat := key 0x3802 0x02
abbrev R3802_JOURNAL_USED : Nat := key 0x3802 0x03
abbrev R3802_NEXT_SEQ : Nat := key 0x3802 0x04
abbrev R3802_REPLAY_MAX : Nat := key 0x3802 0x05
abbrev R3802_REPLAYED : Nat := key 0x3802 0x06
abbrev R3802_LOST : Nat := key 0x3802 0x07
abbrev R3803_MISSES : Nat := key 0x3803 0x01
abbrev R3803_LAST_CYCLE : Nat := key 0x3803 0x02
abbrev R3803_LAST_TICK : Nat := key 0x3803 0x03
abbrev R3803_LAST_REASON : Nat := key 0x3803 0x04
abbrev R3803_LAST_ENTRY : Nat := key 0x3803 0x05
abbrev R3803_LAST_HART : Nat := key 0x3803 0x06
abbrev R3804_INACTIVE : Nat := key 0x3804 0x01
abbrev R3804_ACTIVE : Nat := key 0x3804 0x02
abbrev R3804_LATE_POLICY : Nat := key 0x3804 0x03
abbrev R3804_COMMIT_CYCLE : Nat := key 0x3804 0x04
abbrev R3804_COMMIT_STATUS : Nat := key 0x3804 0x05
abbrev R3804_DONE_CYCLE : Nat := key 0x3804 0x06
abbrev R3840_PHYS_CORE (i : Nat) : Nat := key (0x3840 + i) 0x01
abbrev R3840_CLUSTER (i : Nat) : Nat := key (0x3840 + i) 0x02
abbrev R3840_TICK_TOKEN (i : Nat) : Nat := key (0x3840 + i) 0x03
abbrev R3840_BG_TOKEN (i : Nat) : Nat := key (0x3840 + i) 0x04
abbrev R3840_BG_STATE (i : Nat) : Nat := key (0x3840 + i) 0x05
abbrev R3840_PREFETCH (i : Nat) : Nat := key (0x3840 + i) 0x06
abbrev R3840_TICK_LOAD (i : Nat) : Nat := key (0x3840 + i) 0x07
abbrev R3840_BG_LOAD (i : Nat) : Nat := key (0x3840 + i) 0x08
abbrev R3840_ITEMS (i : Nat) : Nat := key (0x3840 + i) 0x09
abbrev R3880_DEPTH : Nat := key 0x3880 0x01
abbrev R3880_HELD_FLOW : Nat := key 0x3880 0x02
abbrev R3880_HELD_FENCE : Nat := key 0x3880 0x03
abbrev R3880_FENCES : Nat := key 0x3880 0x04
abbrev R3880_WAIT_MAX_NS : Nat := key 0x3880 0x05
abbrev R3880_WAIT_MEAN_NS : Nat := key 0x3880 0x06
abbrev R3880_WAIT_WINDOW : Nat := key 0x3880 0x07
abbrev R3880_LATE_COMPLETIONS : Nat := key 0x3880 0x08
abbrev R3880_SUBMIT_REFUSED : Nat := key 0x3880 0x09
abbrev R3900_IOTLB_INVAL : Nat := key 0x3900 0x01
abbrev R3900_IOTLB_ENTRIES : Nat := key 0x3900 0x02
abbrev R3900_FAULTS : Nat := key 0x3900 0x03
abbrev R3920_IO_SATP (i : Nat) : Nat := key (0x3920 + i) 0x01
abbrev R3920_DESC_PTR (i : Nat) : Nat := key (0x3920 + i) 0x02
abbrev R3920_CONTROL (i : Nat) : Nat := key (0x3920 + i) 0x03
abbrev R3920_STATE (i : Nat) : Nat := key (0x3920 + i) 0x04
abbrev R3920_CUR_DESC (i : Nat) : Nat := key (0x3920 + i) 0x05
abbrev R3920_FAULT_OFFSET (i : Nat) : Nat := key (0x3920 + i) 0x06
abbrev R3920_FAULT_VA (i : Nat) : Nat := key (0x3920 + i) 0x07
abbrev R3920_FAULT_CAUSE (i : Nat) : Nat := key (0x3920 + i) 0x08
abbrev R3920_RESUME_ON_MAP (i : Nat) : Nat := key (0x3920 + i) 0x09
abbrev R3920_DONE_ITEM (i : Nat) : Nat := key (0x3920 + i) 0x0A
abbrev R3920_BYTES (i : Nat) : Nat := key (0x3920 + i) 0x0B
abbrev R1400_NODE_ID : Nat := key 0x1400 0x01
abbrev R1400_CLUSTER_ID : Nat := key 0x1400 0x02
abbrev R1400_ETHERTYPE : Nat := key 0x1400 0x03
abbrev R1400_ROLE : Nat := key 0x1400 0x04
abbrev R1400_RANK : Nat := key 0x1400 0x05
abbrev R1400_SYNC_NODE : Nat := key 0x1400 0x06
abbrev R1400_LISTEN_BASE_US : Nat := key 0x1400 0x07
abbrev R1400_COLDSTART_CYCLES : Nat := key 0x1400 0x08
abbrev R1400_INTEG_CYCLES : Nat := key 0x1400 0x09
abbrev R1400_PRECISION_NS : Nat := key 0x1400 0x0A
abbrev R1400_CORR_LIMIT_NS : Nat := key 0x1400 0x0B
abbrev R1400_NET_STATE : Nat := key 0x1400 0x0C
abbrev R1400_NET_CONTROL : Nat := key 0x1400 0x0D
abbrev R1400_LEADER_ID : Nat := key 0x1400 0x0E
abbrev R1400_DEST_MAC : Nat := key 0x1400 0x0F
abbrev R1410_SPEED (i : Nat) : Nat := key (0x1410 + i) 0x01
abbrev R1410_RS_FEC (i : Nat) : Nat := key (0x1410 + i) 0x02
abbrev R1410_ASYM_PS (i : Nat) : Nat := key (0x1410 + i) 0x03
abbrev R1410_LINK_STATE (i : Nat) : Nat := key (0x1410 + i) 0x04
abbrev R1410_LINK_DELAY_PS (i : Nat) : Nat := key (0x1410 + i) 0x05
abbrev R1410_PEER_ID (i : Nat) : Nat := key (0x1410 + i) 0x06
abbrev R1410_BYPASSED (i : Nat) : Nat := key (0x1410 + i) 0x07
abbrev R1410_RX_FRAMES (i : Nat) : Nat := key (0x1410 + i) 0x08
abbrev R1410_RX_EDGE (i : Nat) : Nat := key (0x1410 + i) 0x09
abbrev R1410_RX_DROP_WINDOW (i : Nat) : Nat := key (0x1410 + i) 0x0A
abbrev R1410_RX_DROP_OTHER (i : Nat) : Nat := key (0x1410 + i) 0x0B
abbrev R1410_TX_FRAMES (i : Nat) : Nat := key (0x1410 + i) 0x0C
abbrev R1410_TX_STALE (i : Nat) : Nat := key (0x1410 + i) 0x0D
abbrev R1410_BABBLE_CYCLES (i : Nat) : Nat := key (0x1410 + i) 0x0E
abbrev R1420_INACTIVE : Nat := key 0x1420 0x01
abbrev R1420_ACTIVE : Nat := key 0x1420 0x02
abbrev R1420_LATE_POLICY : Nat := key 0x1420 0x03
abbrev R1420_COMMIT_CYCLE : Nat := key 0x1420 0x04
abbrev R1420_COMMIT_STATUS : Nat := key 0x1420 0x05
abbrev R1420_DONE_CYCLE : Nat := key 0x1420 0x06
abbrev R1420_SCHED_ID : Nat := key 0x1420 0x07
abbrev R1600_MAP_INACTIVE : Nat := key 0x1600 0x01
abbrev R1600_MAP_ACTIVE : Nat := key 0x1600 0x02
abbrev R1610_VALUES : Nat := key 0x1610 0x01
abbrev R1430_SYNC_RX : Nat := key 0x1430 0x01
abbrev R1430_LAST_CORR_PS : Nat := key 0x1430 0x02
abbrev R1430_MAX_CORR_PS : Nat := key 0x1430 0x03
abbrev R1430_RATE_PPB : Nat := key 0x1430 0x04
abbrev R1430_SYNC_LOSSES : Nat := key 0x1430 0x05
abbrev R1430_DEVIATIONS : Nat := key 0x1430 0x06
abbrev R1430_NT0 : Nat := key 0x1430 0x07
abbrev R1440_OWN_STATUS : Nat := key 0x1440 0x01
abbrev R1440_RECEIVED : Nat := key 0x1440 0x02
abbrev R1450_TIMEOUT_MS : Nat := key 0x1450 0x01
abbrev R1450_OUTSTANDING : Nat := key 0x1450 0x02
abbrev R1450_TIMEOUTS : Nat := key 0x1450 0x03
abbrev R1450_DUPLICATES : Nat := key 0x1450 0x04
abbrev R1500_CONN (i : Nat) : Nat := key (0x1500 + i) 0x01
abbrev R1500_DIR (i : Nat) : Nat := key (0x1500 + i) 0x02
abbrev R1500_KEY (i : Nat) : Nat := key (0x1500 + i) 0x03
abbrev R1500_LEN (i : Nat) : Nat := key (0x1500 + i) 0x04
abbrev R1500_WD_US (i : Nat) : Nat := key (0x1500 + i) 0x05
abbrev R1500_STATE (i : Nat) : Nat := key (0x1500 + i) 0x10
abbrev R1500_LAST_SEQ (i : Nat) : Nat := key (0x1500 + i) 0x11
abbrev R1500_CRC_ERRORS (i : Nat) : Nat := key (0x1500 + i) 0x12
abbrev R1500_SEQ_ERRORS (i : Nat) : Nat := key (0x1500 + i) 0x13
abbrev R1500_TIMEOUTS (i : Nat) : Nat := key (0x1500 + i) 0x14
abbrev R1500_DATA (i : Nat) : Nat := key (0x1500 + i) 0x15
abbrev R1140_RAW : Nat := key 0x1140 0x01
abbrev R1140_NT : Nat := key 0x1140 0x02
abbrev R1140_NT_VALID : Nat := key 0x1140 0x03
abbrev R1140_NT_RATE : Nat := key 0x1140 0x04
abbrev R1140_NT_BASE_RATE : Nat := key 0x1140 0x05
abbrev R1140_WT : Nat := key 0x1140 0x06
abbrev R1140_WALL_STATE : Nat := key 0x1140 0x07
abbrev R1140_WALL_RATE : Nat := key 0x1140 0x08
abbrev R1140_WALL_STEP_NS : Nat := key 0x1140 0x09
abbrev R1140_WALL_SET : Nat := key 0x1140 0x0A
abbrev R1140_SNAPSHOT : Nat := key 0x1140 0x0B
abbrev R1140_SNAP_RAW : Nat := key 0x1140 0x0C
abbrev R1140_SNAP_NT : Nat := key 0x1140 0x0D
abbrev R1140_SNAP_WT : Nat := key 0x1140 0x0E
abbrev R1140_STEPS : Nat := key 0x1140 0x0F
abbrev R1150_ARMED : Nat := key 0x1150 0x01
abbrev R1150_LATE_COUNT : Nat := key 0x1150 0x02
abbrev R1150_LATE_EXEC_COUNT : Nat := key 0x1150 0x03
abbrev R1150_LAST_CODE : Nat := key 0x1150 0x04
abbrev R1180_PTP_MODE : Nat := key 0x1180 0x01
abbrev R1180_DOMAIN_NUMBER : Nat := key 0x1180 0x02
abbrev R1180_PRIORITY1 : Nat := key 0x1180 0x03
abbrev R1180_PRIORITY2 : Nat := key 0x1180 0x04
abbrev R1180_CLOCK_CLASS : Nat := key 0x1180 0x05
abbrev R1180_SLAVE_ONLY : Nat := key 0x1180 0x06
abbrev R1180_TRANSPORT : Nat := key 0x1180 0x07
abbrev R1180_LOG_SYNC : Nat := key 0x1180 0x08
abbrev R1180_STEP_LIMIT_NS : Nat := key 0x1180 0x09
abbrev R1180_GM_IDENTITY : Nat := key 0x1180 0x0A
abbrev R1180_OFFSET_NS : Nat := key 0x1180 0x0B
abbrev R1190_PORT_EN (i : Nat) : Nat := key (0x1190 + i) 0x01
abbrev R1190_INGRESS_LAT_PS (i : Nat) : Nat := key (0x1190 + i) 0x02
abbrev R1190_EGRESS_LAT_PS (i : Nat) : Nat := key (0x1190 + i) 0x03
abbrev R1190_DELAY_ASYM_PS (i : Nat) : Nat := key (0x1190 + i) 0x04
abbrev R1190_PORT_STATE (i : Nat) : Nat := key (0x1190 + i) 0x05
abbrev R1190_MEAN_LINK_DELAY_PS (i : Nat) : Nat := key (0x1190 + i) 0x06
abbrev R1190_DROPPED (i : Nat) : Nat := key (0x1190 + i) 0x07
abbrev R5000_SESSION_OPEN : Nat := key 0x5000 0x01
abbrev R5000_SESSION_CLOSE : Nat := key 0x5000 0x02
abbrev R5000_SESSION_STATE : Nat := key 0x5000 0x03
abbrev R5000_SESSION_PATH : Nat := key 0x5000 0x04
abbrev R5000_SESSION_TIMEOUT_S : Nat := key 0x5000 0x05
abbrev R5000_COMMIT_CYCLE : Nat := key 0x5000 0x06
abbrev R5000_LATE_POLICY : Nat := key 0x5000 0x07
abbrev R5000_EXPECTED_DIGEST : Nat := key 0x5000 0x08
abbrev R5000_COMMIT_STATUS : Nat := key 0x5000 0x09
abbrev R5000_DONE_CYCLE : Nat := key 0x5000 0x0A
abbrev R5000_BANK_DIGEST : Nat := key 0x5000 0x0B
abbrev R5000_STAGED_DIGEST : Nat := key 0x5000 0x0C
abbrev R5000_SAFETY_DIGEST : Nat := key 0x5000 0x0D
abbrev R5000_FAILED_OPENS : Nat := key 0x5000 0x0E
abbrev R5000_LOCKOUT_S : Nat := key 0x5000 0x0F
abbrev R5001_USER_1 : Nat := key 0x5001 0x01
abbrev R5001_USER_2 : Nat := key 0x5001 0x02
abbrev R5001_USER_3 : Nat := key 0x5001 0x03
abbrev R5001_USER_4 : Nat := key 0x5001 0x04
abbrev R5001_USER_5 : Nat := key 0x5001 0x05
abbrev R5001_USER_6 : Nat := key 0x5001 0x06
abbrev R5001_USER_7 : Nat := key 0x5001 0x07
abbrev R5001_USER_8 : Nat := key 0x5001 0x08
abbrev R5001_PASSWORD_SET : Nat := key 0x5001 0x09
abbrev R5004_LOG : Nat := key 0x5004 0x01
abbrev R5004_NEXT_SEQ : Nat := key 0x5004 0x02
abbrev R5004_LOG_WRAPPED : Nat := key 0x5004 0x03
abbrev R5010_KIND (i : Nat) : Nat := key (0x5010 + i) 0x01
abbrev R5010_MODE (i : Nat) : Nat := key (0x5010 + i) 0x02
abbrev R5010_FILTER_US (i : Nat) : Nat := key (0x5010 + i) 0x03
abbrev R5010_DISCREPANCY_MS (i : Nat) : Nat := key (0x5010 + i) 0x04
abbrev R5010_REACTION (i : Nat) : Nat := key (0x5010 + i) 0x05
abbrev R5010_CHAIN_MASK (i : Nat) : Nat := key (0x5010 + i) 0x06
abbrev R5010_AXIS_MASK (i : Nat) : Nat := key (0x5010 + i) 0x07
abbrev R5010_STARTUP_TEST (i : Nat) : Nat := key (0x5010 + i) 0x08
abbrev R5010_RESET_MODE (i : Nat) : Nat := key (0x5010 + i) 0x09
abbrev R5010_STATE (i : Nat) : Nat := key (0x5010 + i) 0x10
abbrev R5010_LEVELS (i : Nat) : Nat := key (0x5010 + i) 0x11
abbrev R5020_KIND (i : Nat) : Nat := key (0x5020 + i) 0x01
abbrev R5020_CHAIN_MASK (i : Nat) : Nat := key (0x5020 + i) 0x02
abbrev R5020_AXIS_MASK (i : Nat) : Nat := key (0x5020 + i) 0x03
abbrev R5020_ON_CHECK_US (i : Nat) : Nat := key (0x5020 + i) 0x04
abbrev R5020_STATE (i : Nat) : Nat := key (0x5020 + i) 0x10
abbrev R5020_TESTS (i : Nat) : Nat := key (0x5020 + i) 0x11
abbrev R5020_LAST_FAULT (i : Nat) : Nat := key (0x5020 + i) 0x12
abbrev R5020_ACK (i : Nat) : Nat := key (0x5020 + i) 0x13
abbrev R5040_SLS_SRC (i : Nat) : Nat := key (0x5040 + i) 0x01
abbrev R5040_SLS_INDEX (i : Nat) : Nat := key (0x5040 + i) 0x02
abbrev R5040_SLS_DELAY_MS (i : Nat) : Nat := key (0x5040 + i) 0x03
abbrev R5040_SLS_CART (i : Nat) : Nat := key (0x5040 + i) 0x04
abbrev R5040_MON_FRAMES (i : Nat) : Nat := key (0x5040 + i) 0x05
abbrev R5040_SLS_REACTION (i : Nat) : Nat := key (0x5040 + i) 0x06
abbrev R5040_ENV_TOL_PCT (i : Nat) : Nat := key (0x5040 + i) 0x07
abbrev R5040_SLS_ACTIVE (i : Nat) : Nat := key (0x5040 + i) 0x10
abbrev R5040_MAX_POINT_SPEED (i : Nat) : Nat := key (0x5040 + i) 0x11
abbrev R5080_STO_CONN (i : Nat) : Nat := key (0x5080 + i) 0x01
abbrev R5080_STO_BIT (i : Nat) : Nat := key (0x5080 + i) 0x02
abbrev R5080_SLS_SRC (i : Nat) : Nat := key (0x5080 + i) 0x03
abbrev R5080_SLS_INDEX (i : Nat) : Nat := key (0x5080 + i) 0x04
abbrev R5080_SLS_DELAY_MS (i : Nat) : Nat := key (0x5080 + i) 0x05
abbrev R5080_SLS_LIMIT (i : Nat) : Nat := key (0x5080 + i) 0x06
abbrev R5080_SLS_REACTION (i : Nat) : Nat := key (0x5080 + i) 0x07
abbrev R5080_SS1_A_MON (i : Nat) : Nat := key (0x5080 + i) 0x08
abbrev R5080_SS1_DELAY_US (i : Nat) : Nat := key (0x5080 + i) 0x09
abbrev R5080_SS_V_TOL (i : Nat) : Nat := key (0x5080 + i) 0x0A
abbrev R5080_SS_T_MAX_MS (i : Nat) : Nat := key (0x5080 + i) 0x0B
abbrev R5080_SOS_V (i : Nat) : Nat := key (0x5080 + i) 0x0C
abbrev R5080_SOS_WINDOW (i : Nat) : Nat := key (0x5080 + i) 0x0D
abbrev R5080_SAFE_STATE (i : Nat) : Nat := key (0x5080 + i) 0x10
abbrev R5080_LATCH_CODE (i : Nat) : Nat := key (0x5080 + i) 0x11
abbrev R5080_SLS_ACTIVE (i : Nat) : Nat := key (0x5080 + i) 0x12
abbrev R5080_PERMIT (i : Nat) : Nat := key (0x5080 + i) 0x13
abbrev R5800_PAIR_MODE : Nat := key 0x5800 0x01
abbrev R5800_PRIMARY : Nat := key 0x5800 0x02
abbrev R5800_PARTNER_ID : Nat := key 0x5800 0x03
abbrev R5800_OWL_ID : Nat := key 0x5800 0x04
abbrev R5800_CONSUMERS : Nat := key 0x5800 0x06
abbrev R5800_TAKEOVER_REACTION : Nat := key 0x5800 0x07
abbrev R5800_HOARD_BASE : Nat := key 0x5800 0x08
abbrev R5800_HOARD_SIZE : Nat := key 0x5800 0x09
abbrev R5800_STAGE_PAGES : Nat := key 0x5800 0x0A
abbrev R5800_CAPTURE_PAGES : Nat := key 0x5800 0x0B
abbrev R5800_RESYNC_BYTES : Nat := key 0x5800 0x0C
abbrev R5800_LAG_WARN_CYCLES : Nat := key 0x5800 0x0D
abbrev R5801_ROLE : Nat := key 0x5801 0x01
abbrev R5801_STORED_EPOCH : Nat := key 0x5801 0x02
abbrev R5801_HOLDER : Nat := key 0x5801 0x03
abbrev R5801_LAST_GEN : Nat := key 0x5801 0x04
abbrev R5801_LAST_GEN_CYCLE : Nat := key 0x5801 0x05
abbrev R5801_OPEN_GEN : Nat := key 0x5801 0x06
abbrev R5801_GEN_LAG : Nat := key 0x5801 0x07
abbrev R5801_PENDING_PAGES : Nat := key 0x5801 0x08
abbrev R5801_STREAM_BYTES : Nat := key 0x5801 0x09
abbrev R5801_SWEEP_PAGES : Nat := key 0x5801 0x0A
abbrev R5801_TAKEOVERS : Nat := key 0x5801 0x0B
abbrev R5801_LAST_TAKEOVER_CYCLE : Nat := key 0x5801 0x0C
abbrev R5801_LAST_CAUSE : Nat := key 0x5801 0x0D
abbrev R5801_XLINK_LANES : Nat := key 0x5801 0x0E
abbrev R5801_PARTNER_STATE : Nat := key 0x5801 0x0F
abbrev R5801_ABANDONED : Nat := key 0x5801 0x10
abbrev R5802_VFEED_A_MV : Nat := key 0x5802 0x01
abbrev R5802_VFEED_B_MV : Nat := key 0x5802 0x02
abbrev R5802_FEED_STATE : Nat := key 0x5802 0x03
abbrev R5802_FEED_LOSSES : Nat := key 0x5802 0x04
abbrev R1000_VENDOR_ID : Nat := key 0x1000 0x01
abbrev R1000_DEVICE_ID : Nat := key 0x1000 0x02
abbrev R1000_ORDER_CODE : Nat := key 0x1000 0x03
abbrev R1000_HW_REVISION : Nat := key 0x1000 0x04
abbrev R1000_SERIAL : Nat := key 0x1000 0x05
abbrev R1001_DEV_STATE : Nat := key 0x1001 0x01
abbrev R1001_DEV_CONTROL : Nat := key 0x1001 0x02
abbrev R1001_AUTO_RUN : Nat := key 0x1001 0x03
abbrev R1001_CONTROL_STATUS : Nat := key 0x1001 0x04
abbrev R1001_SAFE_CAUSE : Nat := key 0x1001 0x05
abbrev R1001_STATE_CYCLE : Nat := key 0x1001 0x06
abbrev R1001_PATH_WRITE : Nat := key 0x1001 0x07
abbrev R1003_LOG : Nat := key 0x1003 0x01
abbrev R1003_NEXT_SEQ : Nat := key 0x1003 0x02
abbrev R1003_LOG_WRAPPED : Nat := key 0x1003 0x03
abbrev R1004_STORE_STATE : Nat := key 0x1004 0x01
abbrev R1004_STORE_GEN : Nat := key 0x1004 0x02
abbrev R1004_FLUSH : Nat := key 0x1004 0x03
abbrev R1200_LINK_UP : Nat := key 0x1200 0x01
abbrev R1200_LINK_WIDTH : Nat := key 0x1200 0x02
abbrev R1200_LINK_GTS : Nat := key 0x1200 0x03
abbrev R1201_WIN_STATUS : Nat := key 0x1201 0x01
abbrev R1201_TRANSFER_TIMEOUT_MS : Nat := key 0x1201 0x02
abbrev R1201_HOST_DMA_RANGES : Nat := key 0x1201 0x03
abbrev R1201_OPEN_TRANSFERS : Nat := key 0x1201 0x04
abbrev R1210_UDP_PORT : Nat := key 0x1210 0x01
abbrev R1210_IPV4_H0 : Nat := key 0x1210 0x02
abbrev R1210_IPV4_H1 : Nat := key 0x1210 0x03
abbrev R1210_NETMASK : Nat := key 0x1210 0x04
abbrev R1210_DUPLICATES : Nat := key 0x1210 0x05
abbrev R1220_INACTIVE : Nat := key 0x1220 0x01
abbrev R1220_ACTIVE : Nat := key 0x1220 0x02
abbrev R1220_LATE_POLICY : Nat := key 0x1220 0x03
abbrev R1220_COMMIT_CYCLE : Nat := key 0x1220 0x04
abbrev R1220_COMMIT_STATUS : Nat := key 0x1220 0x05
abbrev R1220_DONE_CYCLE : Nat := key 0x1220 0x06
abbrev R1220_CONFIG_EPOCH : Nat := key 0x1220 0x07
abbrev R1220_OWN_DIGEST : Nat := key 0x1220 0x08
abbrev R1220_SKEW_NODES : Nat := key 0x1220 0x09
abbrev R1220_SKEW_COUNT : Nat := key 0x1220 0x0A
abbrev R1220_SKEW_REACTION : Nat := key 0x1220 0x0B
abbrev R6000_BOOT_COUNT : Nat := key 0x6000 0x01
abbrev R6000_FW_SLOT : Nat := key 0x6000 0x02
abbrev R6000_APP_SLOT : Nat := key 0x6000 0x03
abbrev R6000_LPDDR_MTS : Nat := key 0x6000 0x04
abbrev R6000_REPORT : Nat := key 0x6000 0x05
abbrev R6000_JOURNAL : Nat := key 0x6000 0x06
abbrev R6000_LPDDR_RETRY : Nat := key 0x6000 0x07
abbrev R6010_SLOT_STATE (i : Nat) : Nat := key (0x6010 + i) 0x01
abbrev R6010_IMAGE_VERSION (i : Nat) : Nat := key (0x6010 + i) 0x02
abbrev R6010_SEC_VERSION (i : Nat) : Nat := key (0x6010 + i) 0x03
abbrev R6010_SETTINGS_FORMAT (i : Nat) : Nat := key (0x6010 + i) 0x04
abbrev R6010_CKPT_FORMAT (i : Nat) : Nat := key (0x6010 + i) 0x05
abbrev R6010_IMAGE_DIGEST (i : Nat) : Nat := key (0x6010 + i) 0x06
abbrev R6010_TRIALS (i : Nat) : Nat := key (0x6010 + i) 0x07
abbrev R6010_LENGTH (i : Nat) : Nat := key (0x6010 + i) 0x08
abbrev R6020_OPEN : Nat := key 0x6020 0x01
abbrev R6020_TOKEN : Nat := key 0x6020 0x02
abbrev R6020_BIND : Nat := key 0x6020 0x03
abbrev R6020_IMAGE : Nat := key 0x6020 0x04
abbrev R6020_ABANDON : Nat := key 0x6020 0x05
abbrev R6020_SESSION_STATE : Nat := key 0x6020 0x06
abbrev R6020_SESSION_PATH : Nat := key 0x6020 0x07
abbrev R6020_RECEIVED : Nat := key 0x6020 0x08
abbrev R6020_ACTIVATE : Nat := key 0x6020 0x09
abbrev R6020_CONFIRM : Nat := key 0x6020 0x0A
abbrev R6020_CONFIRM_CYCLES : Nat := key 0x6020 0x0B
abbrev R6020_TIMEOUT_S : Nat := key 0x6020 0x0C
abbrev R6020_TRIAL_MAX : Nat := key 0x6020 0x0D
abbrev R6020_LAST_STATUS : Nat := key 0x6020 0x0E
abbrev R6030_ACTIVE_SLOT : Nat := key 0x6030 0x01
abbrev R6030_SET0_FORMAT : Nat := key 0x6030 0x02
abbrev R6030_SET0_STATE : Nat := key 0x6030 0x03
abbrev R6030_SET1_FORMAT : Nat := key 0x6030 0x04
abbrev R6030_SET1_STATE : Nat := key 0x6030 0x05
abbrev R6040_FW_MIN_SEC : Nat := key 0x6040 0x01
abbrev R6040_APP_MIN_SEC : Nat := key 0x6040 0x02
abbrev R6040_VENDOR_KEYS : Nat := key 0x6040 0x03
abbrev R6040_APP_KEYS : Nat := key 0x6040 0x04
abbrev R6040_APP_KEY_ENROLL : Nat := key 0x6040 0x05
abbrev R6040_APP_KEYS_FREE : Nat := key 0x6040 0x06
abbrev R6050_CHALLENGE : Nat := key 0x6050 0x01
abbrev R6050_UNLOCK : Nat := key 0x6050 0x02
abbrev R6050_DEBUG_SCOPE : Nat := key 0x6050 0x03
abbrev R6060_ATT_PUBKEY : Nat := key 0x6060 0x01
abbrev R6060_ATT_CERT : Nat := key 0x6060 0x02
abbrev R6060_REQUEST : Nat := key 0x6060 0x03
abbrev R6060_REPORT : Nat := key 0x6060 0x04
abbrev R6060_ATT_STATE : Nat := key 0x6060 0x05
abbrev R6060_NEXT_INDEX : Nat := key 0x6060 0x06
abbrev R6060_RES_END : Nat := key 0x6060 0x07
abbrev R7000_POLICY_EN : Nat := key 0x7000 0x01
abbrev R7000_AGE_WARN_PPM : Nat := key 0x7000 0x02
abbrev R7000_AGE_RETIRE_PPM : Nat := key 0x7000 0x03
abbrev R7000_MARGIN_WARN_PS : Nat := key 0x7000 0x04
abbrev R7000_MARGIN_RETIRE_PS : Nat := key 0x7000 0x05
abbrev R7000_EYE_WARN_PCT : Nat := key 0x7000 0x06
abbrev R7000_EYE_RETIRE_PCT : Nat := key 0x7000 0x07
abbrev R7000_CE_WINDOW_H : Nat := key 0x7000 0x08
abbrev R7000_PAGE_CE_LIMIT : Nat := key 0x7000 0x09
abbrev R7000_BANK_CE_LIMIT : Nat := key 0x7000 0x0A
abbrev R7000_SCRUB_H_DDR : Nat := key 0x7000 0x0B
abbrev R7000_SCRUB_H_SRAM : Nat := key 0x7000 0x0C
abbrev R7000_RETIRE : Nat := key 0x7000 0x0D
abbrev R7001_CORES_SPARE : Nat := key 0x7001 0x01
abbrev R7001_LANES_SPARE : Nat := key 0x7001 0x02
abbrev R7001_UNITS_SPARE : Nat := key 0x7001 0x03
abbrev R7001_XLINK_SPARE : Nat := key 0x7001 0x04
abbrev R7001_BANKS_SPARE : Nat := key 0x7001 0x05
abbrev R7001_PAGES_SPARE : Nat := key 0x7001 0x06
abbrev R7001_SRAM_GROUPS : Nat := key 0x7001 0x07
abbrev R7001_RETIRED : Nat := key 0x7001 0x08
abbrev R7001_RESERVE_PAGES : Nat := key 0x7001 0x0B
abbrev R7020_LOG : Nat := key 0x7020 0x01
abbrev R7020_NEXT_SEQ : Nat := key 0x7020 0x02
abbrev R7020_LOG_WRAPPED : Nat := key 0x7020 0x03
abbrev R7030_CE_BANKS : Nat := key 0x7030 0x01
abbrev R7030_CE_PAGES : Nat := key 0x7030 0x02
abbrev R7030_CE_PAGES_DROPPED : Nat := key 0x7030 0x03
abbrev R7080_AGE_LAST (i : Nat) : Nat := key (0x7080 + i) 0x01
abbrev R7080_AGE_WORST (i : Nat) : Nat := key (0x7080 + i) 0x02
abbrev R7080_MARGIN_LAST (i : Nat) : Nat := key (0x7080 + i) 0x03
abbrev R7080_MARGIN_WORST (i : Nat) : Nat := key (0x7080 + i) 0x04
abbrev R7080_EYE_LAST (i : Nat) : Nat := key (0x7080 + i) 0x05
abbrev R7080_EYE_WORST (i : Nat) : Nat := key (0x7080 + i) 0x06
abbrev R7080_STATE (i : Nat) : Nat := key (0x7080 + i) 0x07
abbrev R7080_UKIND (i : Nat) : Nat := key (0x7080 + i) 0x08
abbrev R7800_SNAPSHOT : Nat := key 0x7800 0x01
abbrev R7800_FREEZE : Nat := key 0x7800 0x02
abbrev R7800_SNAP_SEQ : Nat := key 0x7800 0x03
abbrev R7800_SNAP_TICK : Nat := key 0x7800 0x04
abbrev R7800_WINDOW_NS : Nat := key 0x7800 0x05
abbrev R7810_EVSEL_0 (i : Nat) : Nat := key (0x7810 + i) 0x01
abbrev R7810_EVSEL_1 (i : Nat) : Nat := key (0x7810 + i) 0x02
abbrev R7810_EVSEL_2 (i : Nat) : Nat := key (0x7810 + i) 0x03
abbrev R7810_EVSEL_3 (i : Nat) : Nat := key (0x7810 + i) 0x04
abbrev R7810_EVSEL_4 (i : Nat) : Nat := key (0x7810 + i) 0x05
abbrev R7810_EVSEL_5 (i : Nat) : Nat := key (0x7810 + i) 0x06
abbrev R7810_EVSEL_6 (i : Nat) : Nat := key (0x7810 + i) 0x07
abbrev R7810_EVSEL_7 (i : Nat) : Nat := key (0x7810 + i) 0x08
abbrev R7810_COUNT_0 (i : Nat) : Nat := key (0x7810 + i) 0x09
abbrev R7810_COUNT_1 (i : Nat) : Nat := key (0x7810 + i) 0x0A
abbrev R7810_COUNT_2 (i : Nat) : Nat := key (0x7810 + i) 0x0B
abbrev R7810_COUNT_3 (i : Nat) : Nat := key (0x7810 + i) 0x0C
abbrev R7810_COUNT_4 (i : Nat) : Nat := key (0x7810 + i) 0x0D
abbrev R7810_COUNT_5 (i : Nat) : Nat := key (0x7810 + i) 0x0E
abbrev R7810_COUNT_6 (i : Nat) : Nat := key (0x7810 + i) 0x0F
abbrev R7810_COUNT_7 (i : Nat) : Nat := key (0x7810 + i) 0x10
abbrev R7810_OVF (i : Nat) : Nat := key (0x7810 + i) 0x11
abbrev R7810_OVF_IRQ (i : Nat) : Nat := key (0x7810 + i) 0x12
abbrev R7810_SNAP_0 (i : Nat) : Nat := key (0x7810 + i) 0x13
abbrev R7810_SNAP_1 (i : Nat) : Nat := key (0x7810 + i) 0x14
abbrev R7810_SNAP_2 (i : Nat) : Nat := key (0x7810 + i) 0x15
abbrev R7810_SNAP_3 (i : Nat) : Nat := key (0x7810 + i) 0x16
abbrev R7810_SNAP_4 (i : Nat) : Nat := key (0x7810 + i) 0x17
abbrev R7810_SNAP_5 (i : Nat) : Nat := key (0x7810 + i) 0x18
abbrev R7810_SNAP_6 (i : Nat) : Nat := key (0x7810 + i) 0x19
abbrev R7810_SNAP_7 (i : Nat) : Nat := key (0x7810 + i) 0x1A
abbrev R7810_SNAP_OVF (i : Nat) : Nat := key (0x7810 + i) 0x1B
abbrev R7880_BYTES_0 (i : Nat) : Nat := key (0x7880 + i) 0x01
abbrev R7880_BYTES_1 (i : Nat) : Nat := key (0x7880 + i) 0x02
abbrev R7880_PEAK_0 (i : Nat) : Nat := key (0x7880 + i) 0x03
abbrev R7880_PEAK_1 (i : Nat) : Nat := key (0x7880 + i) 0x04
abbrev R7880_SNAP_0 (i : Nat) : Nat := key (0x7880 + i) 0x05
abbrev R7880_SNAP_1 (i : Nat) : Nat := key (0x7880 + i) 0x06
abbrev R4000_STATE_1 : Nat := key 0x4000 0x01
abbrev R4000_STATE_2 : Nat := key 0x4000 0x02
abbrev R4000_STATE_3 : Nat := key 0x4000 0x03
abbrev R4000_STATE_SAFE : Nat := key 0x4000 0x04
abbrev R4000_NOMINAL_MV_1 : Nat := key 0x4000 0x05
abbrev R4000_NOMINAL_MV_2 : Nat := key 0x4000 0x06
abbrev R4000_NOMINAL_MV_3 : Nat := key 0x4000 0x07
abbrev R4000_NOMINAL_MV_SAFE : Nat := key 0x4000 0x08
abbrev R4000_MV_1 : Nat := key 0x4000 0x09
abbrev R4000_MV_2 : Nat := key 0x4000 0x0A
abbrev R4000_MV_3 : Nat := key 0x4000 0x0B
abbrev R4000_MV_SAFE : Nat := key 0x4000 0x0C
abbrev R4000_LOSSES : Nat := key 0x4000 0x0D
abbrev R4001_DI : Nat := key 0x4001 0x01
abbrev R4001_DO : Nat := key 0x4001 0x02
abbrev R4001_AI : Nat := key 0x4001 0x03
abbrev R4001_AO : Nat := key 0x4001 0x04
abbrev R4001_ENC : Nat := key 0x4001 0x05
abbrev R4001_ENC_MODE : Nat := key 0x4001 0x06
abbrev R7060_LID_TEMP : Nat := key 0x7060 0x01
abbrev R7060_LID_MAX : Nat := key 0x7060 0x02
abbrev R7060_POWER_W : Nat := key 0x7060 0x03
abbrev R7060_POWER_EST : Nat := key 0x7060 0x04
abbrev R7060_POWER_LIMIT : Nat := key 0x7060 0x05
abbrev R7060_REFCLK_PPM : Nat := key 0x7060 0x06
abbrev R3120_RESULT_CYCLE (i : Nat) : Nat := key (0x3120 + i) 0x01
abbrev R3120_MIN_LL (i : Nat) : Nat := key (0x3120 + i) 0x02
abbrev R3120_PAIR_LL (i : Nat) : Nat := key (0x3120 + i) 0x03
abbrev R3120_MIN_LI (i : Nat) : Nat := key (0x3120 + i) 0x04
abbrev R3120_PAIR_LI (i : Nat) : Nat := key (0x3120 + i) 0x05
abbrev R3120_MIN_LB (i : Nat) : Nat := key (0x3120 + i) 0x06
abbrev R3120_PAIR_LB (i : Nat) : Nat := key (0x3120 + i) 0x07
abbrev R3120_CONTACT (i : Nat) : Nat := key (0x3120 + i) 0x08
abbrev R3120_SCREENED (i : Nat) : Nat := key (0x3120 + i) 0x09

end Sys2Proof.Machine.Reg
end

