-- ==== Sys2Proof/Machine/Codes.lean ====
section
/-! DEFINITION. The status codes by name (R12), as the chapters' code tables give them. -/

namespace Sys2Proof.Machine.Code

/-- R12: no fault. -/
abbrev STATUS_OK : Nat := 0x0000

/-! Codes of spec/01_tick_and_cycle.md. -/
abbrev CONTROL_OVERRUN : Nat := 0x1001
abbrev PROFILE_OVERRUN : Nat := 0x1002
abbrev KINEMATICS_OVERRUN : Nat := 0x1003
abbrev DISTANCE_OVERRUN : Nat := 0x1004
abbrev SEPARATION_OVERRUN : Nat := 0x1005
abbrev CPI_MISSED : Nat := 0x1006
abbrev COMMIT_SUPERSEDED : Nat := 0x1007
abbrev BANK_LOCKED : Nat := 0x1008
abbrev BUDGET_EXCEEDED : Nat := 0x1009
abbrev CMD_REPLACED : Nat := 0x210E

/-! Codes of spec/02_control_engine.md. -/
abbrev SAT_WARN : Nat := 0x2001
abbrev SAT_FAULT : Nat := 0x2002
abbrev FEEDBACK_AGED : Nat := 0x2003
abbrev FEEDBACK_LOST : Nat := 0x2004
abbrev FEEDBACK_FROZEN : Nat := 0x2005
abbrev DC_LINK_LOW : Nat := 0x2006
abbrev LANE_FAULT : Nat := 0x2007
abbrev LANE_SPARED : Nat := 0x2008
abbrev BANK_INVALID : Nat := 0x2009
abbrev COMMIT_PENDING : Nat := 0x200A
abbrev STRUCTURE_INVALID : Nat := 0x200B

/-! Codes of spec/03_profiles_and_setpoints.md. -/
abbrev OVERSHOOT_PLANNED : Nat := 0x2101
abbrev SOFT_LIMIT_RAMP : Nat := 0x2102
abbrev SOFT_LIMIT_EXCEEDED : Nat := 0x2103
abbrev SOFT_LIMIT_STOP : Nat := 0x2104
abbrev TARGET_BEYOND_LIMIT : Nat := 0x2105
abbrev COMMAND_REFUSED : Nat := 0x2106
abbrev FOLLOW_LIMITED : Nat := 0x2107
abbrev FOLLOW_ERROR : Nat := 0x2108
abbrev HOMING_LIMIT : Nat := 0x2109
abbrev HOMING_FAILED : Nat := 0x210A
abbrev HOMING_DONE : Nat := 0x210B
abbrev LIMIT_SWITCH : Nat := 0x210C
abbrev SOURCE_LOST : Nat := 0x210D
abbrev QUEUE_FULL : Nat := 0x3001
abbrev SEGMENT_INVALID : Nat := 0x3003
abbrev CART_UNREACHABLE : Nat := 0x3004
abbrev PATH_LIMITED : Nat := 0x3005
abbrev INPUT_CHATTER : Nat := 0x4001
abbrev STUCK_ACTIVE : Nat := 0x4002
abbrev INPUT_OVERRUN : Nat := 0x4003

/-! Codes of spec/04_geometry_and_zones.md. -/
abbrev GEOMETRY_INVALID : Nat := 0x3010
abbrev DISTANCE_BUDGET : Nat := 0x3011
abbrev EXTENT_EXCEEDED : Nat := 0x3012
abbrev LINK_CONTACT : Nat := 0x3013
abbrev BOX_CONTACT : Nat := 0x3014
abbrev ZONE_BREACH : Nat := 0x3015
abbrev ZONE_APPROACH_HOLD : Nat := 0x3016
abbrev ZONE_GRANTED : Nat := 0x3017
abbrev ZONE_RELEASED : Nat := 0x3018
abbrev ZONE_QUEUE_FULL : Nat := 0x3019
abbrev ZONE_NOT_PERMITTED : Nat := 0x301A
abbrev ZONE_FORCED : Nat := 0x301B
abbrev ZONE_FORCE_REFUSED : Nat := 0x301C
abbrev DISTANCE_UNIT_FAULT : Nat := 0x301D

/-! Codes of spec/05_separation_monitoring.md. -/
abbrev SSM_LIMITING : Nat := 0x3020
abbrev SSM_STOP : Nat := 0x3021
abbrev SSM_DISAGREE : Nat := 0x3022
abbrev SSM_B_LATE : Nat := 0x3023
abbrev TRACK_TIMEOUT : Nat := 0x3024
abbrev TRACK_REPLACED : Nat := 0x3025
abbrev ENVELOPE_RAISED : Nat := 0x3026
abbrev ENVELOPE_EXTRAPOLATED : Nat := 0x3027
abbrev STOP_DISCARDED : Nat := 0x3028
abbrev SSM_REF_EXCEEDED : Nat := 0x3029
abbrev SSM_FRAME_LOST : Nat := 0x302A
abbrev SEPARATION_INVALID : Nat := 0x302B

/-! Codes of spec/06_identification_and_tuning.md. -/
abbrev INJECTION_REFUSED : Nat := 0x2201
abbrev INJECTION_ABORTED : Nat := 0x2202
abbrev INJ_CLIPPED : Nat := 0x2203
abbrev CAPTURE_NO_SPACE : Nat := 0x2204
abbrev CAPTURE_INVALID : Nat := 0x2205
abbrev JOB_FAILED : Nat := 0x2206
abbrev PROPOSAL_READY : Nat := 0x2207
abbrev PROPOSAL_NOT_PLACED : Nat := 0x2208
abbrev NOTCH_BOUND : Nat := 0x2209
abbrev TRACK_OWNS_BANK : Nat := 0x220A
abbrev TRACK_UPDATED : Nat := 0x220B
abbrev LOW_COHERENCE : Nat := 0x220C

/-! Codes of spec/07_analysis_engine.md. -/
abbrev AE_ILLEGAL : Nat := 0x2301
abbrev AE_ADDR_MODE : Nat := 0x2302
abbrev AE_STACK : Nat := 0x2303
abbrev AE_MEM_ERROR : Nat := 0x2304
abbrev AE_WATCHDOG : Nat := 0x2305
abbrev AE_RUNNING : Nat := 0x2306
abbrev AE_OWNED : Nat := 0x2307
abbrev AE_MODE_BUSY : Nat := 0x2308

/-! Codes of spec/08_work_cores_and_sett.md. -/
abbrev DEADLINE_MISS : Nat := 0x9001
abbrev RETRY_AFTER_MAP : Nat := 0x9002
abbrev PARK_FULL : Nat := 0x9003
abbrev SETT_FULL : Nat := 0x9004
abbrev JOURNAL_FULL : Nat := 0x9005
abbrev DESC_INVALID : Nat := 0x9006
abbrev ITEM_LOST : Nat := 0x9007
abbrev ITEM_REPLAYED : Nat := 0x9008
abbrev REPLAY_EXHAUSTED : Nat := 0x9009
abbrev PAGE_UNMAPPABLE : Nat := 0x900A
abbrev DMA_FAULT : Nat := 0x900B
abbrev DMA_DESC_INVALID : Nat := 0x900C
abbrev RELEASE_INVALID : Nat := 0x900D

/-! Codes of spec/09_turrilink.md. -/
abbrev LINK_DOWN : Nat := 0x8001
abbrev RX_EDGE : Nat := 0x8002
abbrev RX_WINDOW_DROP : Nat := 0x8003
abbrev BABBLE : Nat := 0x8004
abbrev WINDOW_DRIFT : Nat := 0x8005
abbrev SYNC_LOST : Nat := 0x8006
abbrev DUAL_MASTER : Nat := 0x8007
abbrev MASTER_YIELDED : Nat := 0x8008
abbrev COLDSTART_LEAD : Nat := 0x8009
abbrev SCHEDULE_INVALID : Nat := 0x800A
abbrev SAFE_CRC_ERROR : Nat := 0x800B
abbrev SAFE_SEQ_ERROR : Nat := 0x800C
abbrev SAFE_CONN_TIMEOUT : Nat := 0x800D
abbrev SAFE_TX_DISAGREE : Nat := 0x800E
abbrev ACYC_TIMEOUT : Nat := 0x800F
abbrev UPSTREAM_BYPASSED : Nat := 0x8010
abbrev BYPASS_EXCEEDED : Nat := 0x8011

/-! Codes of spec/10_time_base.md. -/
abbrev LATE : Nat := 0x8020
abbrev LATE_EXECUTED : Nat := 0x8021
abbrev ACTION_INVALID : Nat := 0x8022
abbrev ACTION_FAILED : Nat := 0x8023
abbrev WALL_STEPPED : Nat := 0x8024
abbrev WALL_OWNED : Nat := 0x8025

/-! Codes of spec/11_safety_functions.md. -/
abbrev TEST_PENDING : Nat := 0x5001
abbrev SI_DISCREPANCY : Nat := 0x5002
abbrev SAFE_INPUT_DEMAND : Nat := 0x5003
abbrev SLS_VIOLATION : Nat := 0x5004
abbrev SOS_VIOLATION : Nat := 0x5005
abbrev SS1_RAMP_VIOLATION : Nat := 0x5006
abbrev SS1_BLIND : Nat := 0x5007
abbrev SS2_TIMEOUT : Nat := 0x5008
abbrev SO_TEST_FAIL : Nat := 0x5009
abbrev SO_READBACK_FAULT : Nat := 0x500A
abbrev SO_GROUP_STO : Nat := 0x500B
abbrev CHANNEL_DISAGREE : Nat := 0x500C
abbrev CHANNEL_LOST : Nat := 0x500D
abbrev ZONE_DISAGREE : Nat := 0x500E
abbrev SESSION_DENIED : Nat := 0x500F
abbrev SESSION_LOCKOUT : Nat := 0x5010
abbrev SAFETY_INVALID : Nat := 0x5011
abbrev SAFETY_DIGEST_MISMATCH : Nat := 0x5012

/-! Codes of spec/12_redundancy.md. -/
abbrev PARTNER_LOST : Nat := 0xA001
abbrev TAKEOVER : Nat := 0xA002
abbrev FAIL_SENT : Nat := 0xA003
abbrev AUTHORITY_LOST : Nat := 0xA004
abbrev SHADOW_MISMATCH : Nat := 0xA005
abbrev CKPT_DIGEST_BAD : Nat := 0xA006
abbrev CKPT_ABANDONED : Nat := 0xA007
abbrev CKPT_OVERFLOW : Nat := 0xA008
abbrev CKPT_LAG : Nat := 0xA009
abbrev OWL_LOST : Nat := 0xA00A
abbrev PARTNER_READY : Nat := 0xA00B
abbrev PAIR_INVALID : Nat := 0xA00C
abbrev FEED_LOSS : Nat := 0xA00D
abbrev FEED_RESTORED : Nat := 0xA00E

/-! Codes of spec/13_object_dictionary.md. -/
abbrev OD_NO_ENTRY : Nat := 0xB001
abbrev OD_READ_ONLY : Nat := 0xB002
abbrev OD_WRITE_ONLY : Nat := 0xB003
abbrev OD_TYPE : Nat := 0xB004
abbrev OD_RANGE : Nat := 0xB005
abbrev OD_STATE : Nat := 0xB006
abbrev OD_PATH_DENIED : Nat := 0xB007
abbrev OD_TRANSFER_INVALID : Nat := 0xB008
abbrev OD_TRANSFER_BUSY : Nat := 0xB009
abbrev OD_TRANSFER_TIMEOUT : Nat := 0xB00A
abbrev OD_PDU_INVALID : Nat := 0xB00B
abbrev COMMIT_GROUP_FAILED : Nat := 0xB00C
abbrev CONFIG_SKEW : Nat := 0xB00D
abbrev DEV_CONTROL_REFUSED : Nat := 0xB00E
abbrev RING_ERROR : Nat := 0xB00F
abbrev STORE_FAILED : Nat := 0xB010

/-! Codes of spec/14_boot_update_security.md. -/
abbrev BOOT_STEP_FAILED : Nat := 0x6001
abbrev BOOT_ALTERNATIVE : Nat := 0x6002
abbrev BOOT_STEP_SKIPPED : Nat := 0x6003
abbrev IMAGE_INVALID : Nat := 0x6004
abbrev IMAGE_ROLLBACK : Nat := 0x6005
abbrev UPDATE_BUSY : Nat := 0x6006
abbrev UPDATE_IN_PROGRESS : Nat := 0x6007
abbrev UPDATE_NO_SLOT : Nat := 0x6008
abbrev UPDATE_DIGEST_BAD : Nat := 0x6009
abbrev UPDATE_ABANDONED : Nat := 0x600A
abbrev UPDATE_NOT_PROVEN : Nat := 0x600B
abbrev UPDATE_CONFIRMED : Nat := 0x600C
abbrev TRIAL_FALLBACK : Nat := 0x600D
abbrev SETTINGS_MIGRATED : Nat := 0x600E
abbrev SETTINGS_UNREADABLE : Nat := 0x600F
abbrev SETTINGS_DEFAULTED : Nat := 0x6010
abbrev APP_ABSENT : Nat := 0x6011
abbrev CKPT_FORMAT_MISMATCH : Nat := 0x6012
abbrev DEBUG_UNLOCKED : Nat := 0x6013
abbrev DEBUG_TOKEN_BAD : Nat := 0x6014
abbrev ATTEST_BUSY : Nat := 0x6015
abbrev ATTEST_EXHAUSTED : Nat := 0x6016
abbrev KEY_SLOTS_FULL : Nat := 0x6017

/-! Codes of spec/15_health_and_counters.md. -/
abbrev CE_RATE_HIGH : Nat := 0x7001
abbrev UNCORRECTABLE_ERROR : Nat := 0x7002
abbrev HARD_FAULT : Nat := 0x7003
abbrev AGEING_HIGH : Nat := 0x7004
abbrev MARGIN_LOW : Nat := 0x7005
abbrev EYE_MARGIN_LOW : Nat := 0x7006
abbrev UNIT_RETIRED : Nat := 0x7007
abbrev PAGE_RETIRED : Nat := 0x7008
abbrev SPARE_EXHAUSTED : Nat := 0x7009
abbrev WEAR_RESERVE_LOW : Nat := 0x700A
abbrev COUNTER_OVERFLOW : Nat := 0x700B

/-! Codes of spec/16_pins_power_electrical.md. -/
abbrev REFCLK_FAULT : Nat := 0x1010
abbrev BANK_POWER_LOSS : Nat := 0x4010
abbrev BANK_POWER_RESTORED : Nat := 0x4011
abbrev TEMP_HIGH : Nat := 0x700C
abbrev TEMP_CRITICAL : Nat := 0x700D

end Sys2Proof.Machine.Code
end

