-- ==== Sys2Proof/Machine/Operands.lean ====
section
/-! DEFINITION. The number formats the commands' operands and the registers carry: two's complement fields, the
engine's fixed-point formats with their rounding (R47, R51), the signed 32.32 numbers of the profile engine (R92),
binary32 entries (R436) and the binary64 arithmetic of the profile engine (R95), and byte strings (R10). -/

namespace Sys2Proof.Machine

/-! ## Integers and fixed point -/

/-- `x` held inside `[lo, hi]`. -/
def clamp (lo hi x : Int) : Int := if x < lo then lo else if hi < x then hi else x

/-- Saturation to a two's complement number of `w` bits. -/
def satBits (w : Nat) (x : Int) : Int := clamp (-(2 ^ (w - 1))) (2 ^ (w - 1) - 1) x

/-- Wrapping to a two's complement number of `w` bits. -/
def wrapBits (w : Nat) (x : Int) : Int := x.bmod (2 ^ w)

/-- `a / b` rounded to the nearest integer, ties to even: convergent rounding (R51). `b` is positive. -/
def divConv (a : Int) (b : Nat) : Int :=
  let q := a.fdiv b
  let r := a - q * b
  if 2 * r < b then q else if (b : Int) < 2 * r then q + 1 else if q % 2 = 0 then q else q + 1

/-- `x / 2^n` rounded convergently (R51). -/
def shrConv (x : Int) (n : Nat) : Int := divConv x (2 ^ n)

/-- A rational rounded convergently to an integer. -/
def ratConv (q : Rat) : Int := divConv q.num q.den

/-- A rational rounded toward minus infinity. -/
def ratFloor (q : Rat) : Int := q.num.fdiv q.den

/-- A rational rounded toward plus infinity. -/
def ratCeil (q : Rat) : Int := -((-q.num).fdiv q.den)

/-- The absolute value of a rational. -/
def ratAbs (q : Rat) : Rat := if q < 0 then -q else q

/-- The smaller and the larger of two rationals. -/
def ratMin (a b : Rat) : Rat := if b < a then b else a
def ratMax (a b : Rat) : Rat := if a < b then b else a

/-- `-1`, `0` or `1`. -/
def sgn (x : Int) : Int := if x < 0 then -1 else if 0 < x then 1 else 0

/-- `2^e` as a rational. -/
def pow2 (e : Int) : Rat := if 0 ≤ e then (2 ^ e.toNat : Nat) else 1 / ((2 ^ (-e).toNat : Nat) : Rat)

/-- The real a Q1.31 code stands for. -/
def q31 (x : Int) : Rat := (x : Rat) / 2147483648

/-- The nearest Q1.31 code of a real, saturated. -/
def toQ31 (q : Rat) : Int := satBits 32 (ratConv (q * 2147483648))

/-- A Q1.31 code in the entries of R112, where 0x7FFF_FFFF stands for exactly 1. -/
def q31One (x : Int) : Rat := if x = 0x7FFFFFFF then 1 else q31 x

/-- The real a 32.32 code stands for (R92). -/
def fix (x : Int) : Rat := (x : Rat) / 4294967296

/-- The nearest 32.32 code of a real, saturated (R92). -/
def toFix (q : Rat) : Int := satBits 64 (ratConv (q * 4294967296))

/-! ## binary64 and binary32 -/

/-- The exponent `e` with `2^e ≤ |q| < 2^(e+1)`, for `q` other than 0. -/
def ratLog2 (q : Rat) : Int :=
  let n := q.num.natAbs
  let e : Int := (n.log2 : Int) - (q.den.log2 : Int)
  if pow2 e ≤ ratAbs q then (if ratAbs q < pow2 (e + 1) then e else e + 1) else e - 1

/-- `q` rounded to nearest even with `p` significant bits and a least exponent `emin`. -/
def roundBits (p : Nat) (emin : Int) (q : Rat) : Rat :=
  if q = 0 then 0
  else
    let e := max (ratLog2 q - (p - 1 : Int)) emin
    (ratConv (q / pow2 e) : Rat) * pow2 e

/-- The binary64 number nearest to `q` (R95). (DESIGN CHOICE, log 41, safe.) -/
def b64 (q : Rat) : Rat := roundBits 53 (-1074) q

/-- The binary64 number nearest to the square root of `q`; 0 where `q` is not positive. -/
def b64Sqrt (q : Rat) : Rat :=
  if q ≤ 0 then 0
  else
    let n := q.num.natAbs; let d := q.den
    -- scale so that the integer square root keeps 64 bits and a sticky bit
    let k := 140 + d.log2 - min n.log2 (d.log2)
    let x := n * d * 4 ^ k
    let r := x.sqrt
    let sticky : Rat := if r * r = x then 0 else 1 / 2
    b64 (((r : Rat) + sticky) / ((d : Rat) * ((2 ^ k : Nat) : Rat)))

/-- The integer cube root, by bits from bit `k` down. -/
def icbrt (k x acc : Nat) : Nat :=
  match k with
  | 0 => acc
  | k + 1 =>
    let a := acc + 2 ^ k
    icbrt k x (if a * a * a ≤ x then a else acc)

/-- The binary64 number nearest to the cube root of `q`; 0 where `q` is not positive. -/
def b64Cbrt (q : Rat) : Rat :=
  if q ≤ 0 then 0
  else
    let n := q.num.natAbs; let d := q.den
    let k := 100 + d.log2 - min n.log2 d.log2
    let x := n * d * d * 8 ^ k
    let r := icbrt (x.log2 / 3 + 2) x 0
    let sticky : Rat := if r * r * r = x then 0 else 1 / 2
    b64 (((r : Rat) + sticky) / ((d : Rat) * ((2 ^ k : Nat) : Rat)))

/-- The real a binary32 code stands for; none for infinities and NaN. -/
def f32Val (code : Nat) : Option Rat :=
  let s := code / 2147483648 % 2
  let e := code / 8388608 % 256
  let m := code % 8388608
  if e = 255 then none
  else
    let v : Rat := if e = 0 then (m : Rat) * pow2 (-149) else ((m + 8388608 : Nat) : Rat) * pow2 ((e : Int) - 150)
    some (if s = 1 then -v else v)

/-- The real of a binary32 code; 0 for infinities and NaN. -/
def f32 (code : Int) : Rat := (f32Val code.toNat).getD 0

/-- Whether a binary32 code is a NaN (refused by R436). -/
def f32IsNaN (code : Nat) : Bool := code / 8388608 % 256 == 255 && code % 8388608 != 0

/-- Whether a binary32 code is finite. -/
def f32Finite (code : Int) : Bool := (f32Val code.toNat).isSome

/-- The code of plus infinity. -/
abbrev f32Inf : Nat := 0x7F800000

/-- The binary32 code of a value that a rounding to 24 bits gave. -/
def f32Pack (v : Rat) : Nat :=
  if v = 0 then 0
  else
    let s := if v < 0 then 2147483648 else 0
    let a := ratAbs v
    let e := ratLog2 a
    if 128 ≤ e then s + f32Inf
    else if e < -126 then s + (ratConv (a * pow2 149)).toNat
    else s + (e + 127).toNat * 8388608 + ((ratConv (a * pow2 (23 - e))).toNat - 8388608)

/-- The binary32 code nearest to `q`. -/
def f32Of (q : Rat) : Nat := f32Pack (roundBits 24 (-149) q)

/-- The largest binary32 code not above `q`: a distance rounded toward closer. -/
def f32Down (q : Rat) : Nat :=
  if q = 0 then 0
  else
    let e := max (ratLog2 q - 23) (-149)
    f32Pack ((ratFloor (q / pow2 e) : Rat) * pow2 e)

/-! ## Byte strings, least significant byte first in memory (R10) -/

/-- The `n` bytes of `v`, least significant first. -/
def leBytes (n : Nat) (v : Nat) : Bytes := (List.range n).map fun i => byte (v / 256 ^ i)

/-- The `n` bytes of `v`, most significant first. -/
def beBytes (n : Nat) (v : Nat) : Bytes := (leBytes n v).reverse

/-- The number whose bytes are `bs`, least significant first. -/
def leNat (bs : Bytes) : Nat := bs.foldr (fun b acc => b.toNat + 256 * acc) 0

/-- The number whose bytes are `bs`, most significant first. -/
def beNat (bs : Bytes) : Nat := leNat bs.reverse

/-- The `n` bytes of `bs` from `off`, bytes beyond the end reading 0. -/
def slice (bs : Bytes) (off n : Nat) : Bytes :=
  let r := (bs.drop off).take n
  r ++ List.replicate (n - r.length) 0

/-- The unsigned field of `n` bytes at `off`, least significant byte first. (DEDUCED, log 93, unsafe.) -/
def fieldLE (bs : Bytes) (off n : Nat) : Nat := leNat ((bs.drop off).take n)

/-- The unsigned field of `n` bytes at `off`, most significant byte first. (DEDUCED, log 93, unsafe.) -/
def fieldBE (bs : Bytes) (off n : Nat) : Nat := beNat (slice bs off n)

/-- The signed field of `n` bytes at `off`, least significant byte first. -/
def sfieldLE (bs : Bytes) (off n : Nat) : Int := wrapBits (8 * n) (fieldLE bs off n)

/-- `bs` with `new` written at `off`; shorter strings are filled up with zeros. -/
def patch (bs : Bytes) (off : Nat) (new : Bytes) : Bytes :=
  slice bs 0 off ++ new ++ bs.drop (off + new.length)

/-- A two's complement number as an unsigned one of `w` bits. -/
def toU (w : Nat) (x : Int) : Nat := (x % (2 ^ w : Int)).toNat

/-- The bits `hi` down to `lo` of `v`. -/
def bits (v hi lo : Nat) : Nat := v / 2 ^ lo % 2 ^ (hi + 1 - lo)

/-- `v` with bit `i` set to `b`. -/
def withBit (v i : Nat) (b : Bool) : Nat :=
  if v.testBit i = b then v else if b then v + 2 ^ i else v - 2 ^ i

end Sys2Proof.Machine
end

