-- ==== Sys2Proof/Machine/Dev.lean ====
section
/-! DEFINITION. The device's state: plain data, one record a block of the spec. The entries of the object dictionary
stand in `Dev.od` and `Dev.dom` under their keys (`Reg`), an unlisted key holding the default its object table gives;
what the spec gives the machine beyond its dictionary stands in the records below. Numbered instances (axes, chains,
zones, …) are sparse maps whose default is the record's own. Every default of a record below that its rule does not give is
DESIGN CHOICE (log 3, unsafe): nothing in progress, nothing counted. -/

namespace Sys2Proof.Machine

/-! ## The tick, the cycle and the clocks (spec/01, spec/10) -/

/-- The counters and the network clock at the SI of the present tick: the extended cycle count (R18), the tick index,
the raw count (R344), the network time of the SI and the clock's offset, both in units of 2^-40 ns, and its two rates
(R345, R348). -/
structure Clock where
  cycle64 : Nat := 0
  tick    : Nat := 0
  raw     : Nat := 0
  si      : Int := 0
  ntOff   : Int := 0
  ntRate  : Nat := 0x10000000000
  ntBase  : Nat := 0x10000000000
deriving DecidableEq, Repr

/-- Where in the tick the block stands: nanoseconds after the SI, and whether the commit cut-off of this cycle has
passed (R35). -/
structure Phase where
  off    : Nat := 0
  cutoff : Bool := false
deriving DecidableEq, Repr

/-- Wall time (R345, R349): offset in units of 2^-40 ns and rate. -/
structure Wall where
  off  : Int := 0
  rate : Nat := 0x10000000000
deriving DecidableEq, Repr

/-- One record of the fault log (R459). -/
structure LogRec where
  seq      : Nat
  code     : Nat
  kind     : Nat
  subject  : Nat
  cycle    : Nat
  tick     : Nat
  reaction : Nat
  nt       : Nat
  detail   : Nat
deriving DecidableEq, Repr

/-- A pending commit of a banked table (R35 to R39): the cycle it waits for as an extended count, the policy that
governs it, whether it passed under LATE_POLICY 1, whether it is held (R39), whether its images passed at the
cut-off, its group (R445; 0 for a commit of its own), the level masks that a loop commit named (R76), and the
tracker that asked for it (R214), and its place in the order in which requests became pending. -/
structure Pending where
  seq    : Nat := 0
  cycle  : Nat
  policy : Nat
  late   : Bool := false
  held   : Bool := false
  ready  : Bool := false
  group  : Nat := 0
  mask   : Nat := 0
  bump   : Nat := 0
  tracker : Option Nat := none
deriving DecidableEq, Repr

/-- A cycle-point interrupt entry as it stands in force (R46), the tick it fired in last; `told` is set once CPI_MISSED is raised
(R42). -/
structure Cpi where
  mode   : Nat := 0
  offset : Nat := 0
  hart   : Nat := 0
  fired  : Option Nat := none
  told   : Bool := false
deriving DecidableEq, Repr

/-- What waits for the command latch (R21). -/
inductive Wait
  /-- A write of `AX[n].4.01`. -/
  | cmd (n code : Nat)
  /-- A FAULT_ACK bit written 1. -/
  | ack (n : Nat)
  /-- A write of `CH[c].5.02`. -/
  | ctl (c code : Nat)
deriving DecidableEq, Repr

/-- A scheduled action's own state (R358 to R360): taken for execution, held, and the tick a late one waits for. -/
structure ActionRun where
  taken : Bool := false
  held  : Bool := false
  late  : Option Nat := none
deriving DecidableEq, Repr

/-- Local inputs and outputs (R20, R23, R24, R538): the levels sampled at the last SI and the process-data values as they stood
there, the values waiting for the next LI
and those after it, and the levels at the balls. -/
structure LocalIo where
  di      : Nat := 0
  ai      : List Int := []
  enc     : List Int := []
  remote  : Bytes := []
  doNext  : Option Nat := none
  doAfter : Option Nat := none
  aoNext  : Option Bytes := none
  aoAfter : Option Bytes := none
  doPins  : Nat := 0
  aoPins  : Bytes := []
deriving DecidableEq, Repr

/-! ## Axes: feedback, loops, generator, homing, inputs (spec/02, spec/03) -/

/-- One feedback value: the last fresh one and its age in rounds (R70) at the tick it is given for. -/
structure FbVal where
  val  : Int := 0
  age  : Nat := 0
  tick : Nat := 0
deriving DecidableEq, Repr

/-- The feedback of an axis that arrives with one round: position, velocity, current q and d, DC link in mV, second
encoder, drive status word, drive ready. Positions are as the drive reports them, before the position offset. -/
structure Feedback where
  pos    : FbVal := {}
  vel    : FbVal := {}
  curQ   : FbVal := {}
  curD   : Int := 0
  vdc    : FbVal := {}
  aux    : FbVal := {}
  status : Nat := 0
  ready  : Bool := false
deriving DecidableEq, Repr

/-- The four state words of a section (R52). -/
structure SecState where
  x1 : Int := 0
  x2 : Int := 0
  y1 : Int := 0
  y2 : Int := 0
deriving DecidableEq, Repr

/-- One loop level of an axis: the section states of its channel (and of the d channel of CUR), the controller
output of the last evaluation (R78), the last limited outputs, the interpolation of its set-point (R64: previous and
new set-point, evaluations since), saturation supervision (R68: the run, the ticks among the
last 4,096, and whether the run was reported), the frozen check (R73: the run, whether it was reported) and whether a bumpless
switch waits. -/
structure Level where
  secs   : List SecState := []
  secsD  : List SecState := []
  ctl    : Int := 0
  ctlD   : Int := 0
  out    : Int := 0
  outD   : Int := 0
  spPrev : Int := 0
  spNew  : Int := 0
  step   : Nat := 0
  run    : Nat := 0
  sat    : List (Nat × Nat) := []
  warned : Bool := false
  failed : Bool := false
  frozen : Nat := 0
  frozenTold : Bool := false
  lastFb : Option Int := none
  bump   : Bool := false
deriving DecidableEq, Repr

/-- A part of a plan with constant jerk: its length in seconds, the acceleration it starts with and its jerk. -/
structure Piece where
  dur : Rat
  acc : Rat
  jrk : Rat
deriving DecidableEq, Repr

/-- A plan (R95): the set-point code it starts from, the velocity it starts with, its parts, the code emitted at and
after its end (none for a plan that goes on at `tail` velocity), and whether it is a stop. -/
structure Plan where
  p0     : Int
  v0     : Rat
  parts  : List Piece
  final  : Option Int
  tail   : Rat := 0
deriving DecidableEq, Repr

/-- Why an axis is STOPPING (R96). -/
inductive StopWhy
  | none | command | quick | disable | reaction (code : Nat)
deriving DecidableEq, Repr

/-- What moves an axis: nothing, a plan of its own, the emergency ramp, its chain, gearing or following, or a source
whose set-point is held after a soft limit (R105). -/
inductive Motion
  | rest | plan | ramp | gear | follow | heldSource
deriving DecidableEq, Repr

/-- A command waiting for a run (R94) with the values of `AX[n].4.02` to `06` read at its latch (R131). -/
structure Held where
  code   : Nat
  target : Int
  vel    : Int
  acc    : Int
  jerk   : Int
  seq    : Nat
deriving DecidableEq, Repr

/-- Gearing and following (R115 to R117): the set-point when GEAR was taken, the travel so far, the geared travel, the
remainder, the last source value, whether there is one, and the episode of FOLLOW_LIMITED. -/
structure Gear where
  y0      : Int := 0
  travel  : Int := 0
  geared  : Int := 0
  rem     : Int := 0
  full    : Bool := false
  prev    : Option Int := none
  limited : Option Nat := none
deriving DecidableEq, Repr

/-- A fresh position sample (R123): its absolute tick number, the network time of its SI in 2^-40 ns, the position as
the drive reports it. -/
structure Sample where
  tick : Nat
  time : Int
  pos  : Int
deriving DecidableEq, Repr

/-- One input of an axis (R122 to R126), by role 0 to 3 (positive limit, negative limit, home, general latch): the
first and the last raw transition since the last qualified edge (of the general latch: the first of the last sampler period), the
last transition of all, the raw counts of recent transitions, the raw count since which the qualified level is active, the last
transition that left more than CHATTER_N in the window, and the episodes of STUCK and OVERRUN. -/
structure AxIn where
  first   : Option Nat := none
  last    : Option Nat := none
  prev    : Option Nat := none
  raws    : List Nat := []
  since   : Option Nat := none
  chatter : Option Nat := none
  stuck   : Bool := false
  overAt  : Option Nat := none
deriving DecidableEq, Repr

/-- What an interpolated position is for (R122, R123): the general latch, a homing reference (edge or index), the first raw
transition of a qualified edge, its reference transition. -/
inductive LatchFor
  | general | homing | first | ref
deriving DecidableEq, Repr

/-- The feedback of an axis before any of it has arrived: a round without a fresh value makes each one round old (R24, R67). -/
def Feedback.unfed : Feedback :=
  { pos := { age := 1 }, vel := { age := 1 }, curQ := { age := 1 }, vdc := { age := 1 }, aux := { age := 1 } }

/-- An axis: its feedback as it arrives and as the image shows it (R22), the position offset (R120), its recent fresh
positions, newest first (R71, R123), the voltage scale and its episode (R67), the values aged and lost as masks (R70),
the loop levels and the count of stale outputs as they stood before this tick's evaluation, where it was evaluated (R82), the
values that settings written in a tick had before it (R86, R89: key, tick, value), the generator,
homing, the general latch and the fault reactions (R15, R16). -/
structure Axis where
  fbIn      : Feedback := Feedback.unfed
  fb        : Feedback := {}
  fbTick    : Nat := 0
  offset    : Int := 0
  hist      : List Sample := []
  vel71     : Int := 0
  scale     : Int := 0x20000000
  dcLow     : Option Nat := none
  aged      : Nat := 0
  lost      : Nat := 0
  cur       : Level := {}
  velL      : Level := {}
  posL      : Level := {}
  auxL      : Level := {}
  before    : List Level := []
  stale     : Nat := 0
  staleWas  : Nat := 0
  settings  : List (Nat × Nat × Int) := []
  plan      : Option Plan := none
  planT     : Rat := 0
  adv       : Rat := 0
  rampAt    : Nat := 0
  rampRaw   : Nat := 0
  rampBy    : Nat := 0
  motion    : Motion := .rest
  command   : Option Held := none
  held      : Option Held := none
  baseTgt   : Option Int := none
  gear      : Gear := {}
  stopWhy   : StopWhy := .none
  softStop  : Bool := false
  replan    : Bool := false
  reactNow  : Nat := 0
  reactTick : Nat := 0
  reactNext : Option (Nat × Nat) := none
  homeFrom  : Int := 0
  hsRun     : Nat := 0
  ins       : Map AxIn := []
  latches   : List (LatchFor × Nat) := []
  limKeep   : List (Nat × Int) := []
  loopsOff  : Bool := false
  closedAt  : Option Nat := none
  cause     : Nat := 0
deriving DecidableEq, Repr

/-- The control engine's lanes (R80 to R83): the tick it ran in last, the lanes that failed in a tick, the failed lane
the spare will replace with the cycle of its fault, and a planned retirement with its cycle; and the profile order fixed at the last
validation (R32). -/
structure Engine where
  order  : Option (List Nat) := none
  ranAt  : Option Nat := none
  down   : List (Nat × Nat) := []
  failed : Option (Nat × Nat) := none
  retire : Option (Nat × Nat) := none
deriving DecidableEq, Repr

/-! ## Chains and paths (spec/03, spec/04) -/

/-- A segment in progress: its record, the member set-points it starts from, the pose a LINEAR starts from (position, then
quaternion), the plan of its path parameter and its path time (R109 to R112), the absolute tick in which its blend may begin, and
whether it ends at rest because its successor was not queued then (R108). -/
structure Seg where
  image   : Bytes
  start   : List Int
  pose    : List Int := []
  parts   : List Piece
  time    : Rat := 0
  blendOn : Option Nat := none
  alone   : Bool := false
deriving DecidableEq, Repr

/-- A frame in fixed point with 40 fractional bits: translation in mm and rotation matrix by rows (R137). -/
structure Frame where
  t : List Int
  r : List Int
deriving DecidableEq, Repr

/-- The endpoints of a capsule in the cell frame (fixed point, mm) and their velocities (mm/s). -/
structure CapPose where
  id : Nat
  a  : List Int
  b  : List Int
  va : List Int
  vb : List Int
deriving DecidableEq, Repr

/-- A stop being measured (R184): the absolute tick and the raw count it began at, the fastest endpoint speeds at the last
T0 at or before its start and at the first after it, the payload class, the displacement of every endpoint so far (by twice
the capsule's identifier, plus 1 for endpoint B), whether it is to be discarded, and the raw count of its end. -/
structure StopMeas where
  tick   : Nat
  raw    : Nat
  before : Int
  after  : Option Int := none
  cls    : Nat
  dist   : Map Int := []
  bad    : Bool := false
  ended  : Option Nat := none
deriving DecidableEq, Repr

/-- A chain: its queue, the segment in progress and the one it blends into, λ as a Q1.31 code, the separation
override in force and the next one (R25), the holds in force and the next ones (R158), the last kinematics
(R142), the once-per-segment report of R112, λ at the SI of the last T0 (R172), the episodes of
R159, R176 and R183, whether the condition failed at O_MIN in the last evaluation (R177), the fastest endpoint speed of
the last T0, and the stop being measured (R184). (DEDUCED, log 51, safe.) -/
structure Chain where
  queue    : List Bytes := []
  cur      : Option Seg := none
  next     : Option Seg := none
  aborting : Bool := false
  lambda   : Nat := 0
  lamPrev  : Nat := 0
  limited  : Bool := false
  ovr      : Nat := 0x7FFFFFFF
  ovrNext  : Nat := 0x7FFFFFFF
  hold     : Nat := 0
  holdNext : Nat := 0
  frames   : List Frame := []
  framesC  : List Frame := []
  caps     : List CapPose := []
  capsC    : List CapPose := []
  memberV  : List Int := []
  ik       : Option (List Int) := none
  stopBad  : Bool := false
  lamT0    : Nat := 0
  breachEp : Bool := false
  limEp    : Bool := false
  extraEp  : Bool := false
  minFail  : Bool := false
  fastT0   : Int := 0
  meas     : Option StopMeas := none
deriving DecidableEq, Repr

/-! ## Zones and distances (spec/04) -/

/-- A request (`true`) or release (`false`) of a chain waiting for the next evaluation of its zone (R156). -/
structure ZoneAsk where
  chain : Nat
  ask   : Bool
deriving DecidableEq, Repr

/-- A shared workspace: its token, queue and pending list (R156), the chains a
commit released that have not been told (R149), the chains EXITING, held and in breach, and what
the zone checker found in this cycle (R155): chains occupying it in the measured and the commanded frames and chains
in its band in the commanded frames, each as a mask. -/
structure Zone where
  holder    : Option Nat := none
  releasing : Bool := false
  queue     : List Nat := []
  asks      : List ZoneAsk := []
  freed     : List Nat := []
  forced    : Bool := false
  exiting   : Nat := 0
  held      : Nat := 0
  breach    : Nat := 0
  occM      : Nat := 0
  occC      : Nat := 0
  bandM     : Nat := 0
  bandC     : Nat := 0
deriving DecidableEq, Repr

/-- The classes of R150. -/
inductive PairClass
  | ll | li | lb
deriving DecidableEq, Repr

/-- The result of one pair (R150, R162): its two primitives, whether it was screened, tested on commanded frames, left
untested, and its distance as a binary32 code. -/
structure PairRes where
  cls      : PairClass
  a        : Nat
  b        : Nat
  dist     : Nat
  cmd      : Bool
  screened : Bool
  tested   : Bool
deriving DecidableEq, Repr

/-- The geometry engine (R148 to R162): whether the frames of this cycle are complete, the pairs
last tested and their cycle, the results in force, the
contact episodes, the reactions waiting for T4 (axis, code, reaction) and the protective stops of chains waiting for it
(chain, code), the chains whose override is 0 after an overrun (R33), and whether the kinematics or the distance testing
of this cycle overran. -/
structure Geom where
  kinDone   : Bool := false
  kinOver   : Bool := false
  distOver  : Bool := false
  cycle     : Option Nat := none
  pairs     : List PairRes := []
  results   : List PairRes := []
  llEpisode : List (Nat × Nat) := []
  lbEpisode : List (Nat × Nat) := []
  atT4      : List (Nat × Nat × Nat) := []
  stopsT4   : List (Nat × Nat) := []
  zeroOvr   : List Nat := []
deriving DecidableEq, Repr

/-! ## Tracks and separation (spec/05) -/

/-- A sensor source (R167 to R170): its newest accepted payload, the raw count of its arrival, whether it waits to be
copied, and the raw count at which the source was declared timed out. -/
structure TrackSrc where
  payload : Option Bytes := none
  rx      : Nat := 0
  fresh   : Bool := false
  since   : Option Nat := none
deriving DecidableEq, Repr

/-- An intruder slot (R146, R170, R171): its last valid record in the layout of the image, and the raw count from which a
replacement grows. -/
structure Slot where
  last  : Option Bytes := none
  since : Option Nat := none
deriving DecidableEq, Repr

/-- The separation monitor: sources, slots, the cycle of channel A's last evaluation and of channel B's last check. -/
structure Sep where
  srcs  : Map TrackSrc := []
  slots : Map Slot := []
  evalA : Option Nat := none
  evalB : Option Nat := none
deriving DecidableEq, Repr

/-! ## Identification (spec/06) -/

/-- An injection generator's run (R196 to R200): whether it runs, the evaluations so far, the PRBS register, the value
of the last evaluation, and whether its clipping was raised. -/
structure InjGen where
  running : Bool := false
  evals   : Nat := 0
  prbs    : Nat := 0
  last    : Int := 0
  bit     : Bool := false
  told    : Bool := false
deriving DecidableEq, Repr

/-- A capture set's buffer (R201 to R205): the rows written since the start, the pending length,
the trigger channel's last value, the rows still to come after the trigger, and the number of the reserved buffer. -/
structure CapSet where
  written : Nat := 0
  newLen  : Option Nat := none
  lastVal : Option Int := none
  left    : Option Nat := none
  buffer  : Nat := 0
deriving DecidableEq, Repr

/-- A notch tracker (R211 to R214): the cycle it was last served in, cycles its estimate was out of band, the extended cycle of its last switch, and
whether a commit of its own is pending. -/
structure Tracker where
  served  : Option Nat := none
  outside : Nat := 0
  lastAt  : Option Nat := none
  waiting : Bool := false
  target  : Nat := 0
deriving DecidableEq, Repr

/-- The last signals of a level that capture can record (R202): r, y, e, u_raw, u and the injected value. -/
structure Signals where
  r : Int := 0
  y : Int := 0
  e : Int := 0
  uRaw : Int := 0
  u : Int := 0
  inj : Int := 0
deriving DecidableEq, Repr

/-- Identification: generators, capture sets, the job queue with the engine each running job occupies, trackers. -/
structure Ident where
  gens     : Map InjGen := []
  sets     : Map CapSet := []
  jobs     : List Nat := []
  jobOn    : List (Nat × Nat) := []
  trackers : Map Tracker := []
  /-- Signals by 8 * axis + level, the CUR d channel at level 4. -/
  sigs     : Map Signals := []
deriving DecidableEq, Repr

/-! ## Analysis engines (spec/07) -/

/-- An active loop of an engine (R240): its first and last word and the count remaining. -/
structure AeLoop where
  first : Nat
  last  : Nat
  count : Nat
deriving DecidableEq, Repr

/-- An analysis engine (R224 to R227, R240 to R244): its memories (program words default to HALT, data words to 0), the
data registers and accumulators by number, the pointer groups, EXP, SR, CR, WOKE, the cycle count, the program counter,
the two stacks, the mask of the WAIT it stands in, the accumulators the last instruction wrote, when START was,
whether a mode 0 engine takes work (R222), and the offsets in its 8 MB (R225) of the protected words of its memories that are
poisoned (R509). (DESIGN CHOICE, log 4, unsafe.) -/
structure Ae where
  prog   : Map Nat := []
  x      : Map Nat := []
  y      : Map Nat := []
  d      : Map Nat := []
  a      : Map Int := []
  p      : Map Nat := []
  m      : Map Int := []
  l      : Map Nat := []
  b      : Map Nat := []
  exp    : Nat := 63
  sr     : Nat := 0
  cr     : Nat := 1
  woke   : Nat := 0
  cycles : Nat := 0
  pc     : Nat := 0
  calls  : List Nat := []
  loops  : List AeLoop := []
  mask   : Nat := 0
  wrote  : Nat := 0
  start  : Nat := 0
  ready  : Bool := false
  bad    : List Nat := []
deriving DecidableEq, Repr

/-! ## Safety functions and safe I/O (spec/11) -/

/-- A safe input function (R370 to R373): its qualified levels, whether it is in demand, in discrepancy hold, in
TEST_PENDING, whether it has been in demand since the test became pending, and the raw counts at which one input changed
alone and at which its demand began. -/
structure SafeFn where
  levels   : Nat := 0
  demand   : Bool := false
  disc     : Bool := false
  test     : Bool := false
  opened   : Bool := false
  soleAt   : Option Nat := none
  demandAt : Option Nat := none
deriving DecidableEq, Repr

/-- A safe output (R374 to R378): its two control signals, the raw count at which a running pulse ends, whether the pulse
tests switch B, and the raw count by which the readback must read high. -/
structure SafeOut where
  swA      : Bool := false
  swB      : Bool := false
  pulseEnd : Option Nat := none
  testsB   : Bool := false
  highBy   : Option Nat := none
deriving DecidableEq, Repr

/-- A latched stop (R391): the code that set it, the safe input function that demanded it (8 for none, 9 for the SLS of a chain) and its
reaction. -/
structure StopLatch where
  code  : Nat
  fn    : Nat
  react : Nat
deriving DecidableEq, Repr

/-- An axis under the safety functions: its latched stops (R391), the stop under monitoring (R381 to R386: its reaction,
the speed its ramp began with, whether it belongs to a chain stop, samples at standstill, standstill reached, the position
held under SOS, whether it is blind and the last fresh velocity), since when SLS is selected (R387), the exchanges in which
the channels' demands differed (R366), and whether a TEST_PENDING refusal was raised. -/
structure AxSafe where
  latches  : List StopLatch := []
  stopKind : Nat := 0
  v0       : Option Int := none
  chainStp : Bool := false
  still    : Nat := 0
  atRest   : Bool := false
  pRef     : Option Int := none
  blind    : Bool := false
  vFresh   : Int := 0
  slsSince : Option Nat := none
  disagree : Nat := 0
  testTold : Bool := false
deriving DecidableEq, Repr

/-- The password session (R397, R398): its owner, its user, whether it only takes PASSWORD_SET, and the raw count of its
last SL write. -/
structure Session where
  owner : Requester
  user  : Nat
  only  : Bool
  last  : Nat
deriving DecidableEq, Repr

/-- The safety channels: functions, outputs, axes, since when SLS of a chain is selected, the exchanges in which the
channels' demands for an output differed, the session, the raw count at which a lockout ends, the user of a pending
commit by bank (1 safety, 2 geometry, 3 separation), the change log, whether a channel was lost since boot, and which
channel's heartbeat is present. -/
structure SafeDom where
  fns       : Map SafeFn := []
  outs      : Map SafeOut := []
  axes      : Map AxSafe := []
  chainSls  : Map (Option Nat) := []
  outDiffer : Map Nat := []
  session   : Option Session := none
  lockEnd   : Option Nat := none
  bankUser  : Map Nat := []
  log       : List Bytes := []
  lost      : Bool := false
  hbA       : Bool := true
  hbB       : Bool := true
  /-- Chains whose stop is under R382: the raw count it began at and the longest time it may take, in ns. -/
  chainStop : Map (Option (Nat × Nat)) := []
deriving DecidableEq, Repr

/-! ## Work cores, Sett and DMA (spec/08) -/

/-- Where an item stands (R264). -/
inductive Place
  | queued | prefetch | service | parked
deriving DecidableEq, Repr

/-- An item of Sett (R257, R264): its slot and the slot's generation, its descriptor, where it stands and on which hart, its
place in the order of submission, its place at the head of its priority (0 for none, the largest first), the release-table
entry of a tick-class item, the sequence number of its journal record and whether the record is written (R274), whether a
replay waits for its dispatch, its count of replays, whether a takeover restored it (R275), its count of parks, the token's REPLAYED and RESUMED, the raw count it waits
since (R288), and, parked, its frame with the faulting page and ASID (R279). -/
structure Item where
  slot     : Nat
  gen      : Nat
  desc     : Bytes
  place    : Place := .queued
  hart     : Nat := 0
  seq      : Nat
  front    : Nat := 0
  entry    : Option Nat := none
  record   : Option Nat := none
  written  : Bool := true
  cycle    : Nat := 0
  due      : Bool := false
  replays  : Nat := 0
  restored : Bool := false
  parks    : Nat := 0
  replayed : Bool := false
  resumed  : Bool := false
  since    : Nat
  frame    : Option Nat := none
  vpn      : Nat := 0
  asid     : Nat := 0
deriving DecidableEq, Repr

/-- A hart (R254, R259): its context as a command last gave it, the code and slot of its last submission and its
descriptor ports, the raw count since which it is blocked in an ASK, where it goes on after its last ASK and what that ASK read,
ABORT_REASON, the cause, pc and value of its last trap in M and in S mode, the raw counts of its last sfence.vma and fence.i,
the raw counts it issued instructions for in this cycle with the count up to which that is reckoned, and in the cycles before
(R288). (DESIGN CHOICE, log 84, safe.) -/
structure Hart where
  ctx      : HartContext := {}
  submit   : Bytes := []
  status   : Nat := 0
  asked    : Option Nat := none
  after    : Nat := 0
  answer   : Nat := 0
  abort    : Nat := 0
  mcause   : Nat := 0
  mepc     : Nat := 0
  mtval    : Nat := 0
  scause   : Nat := 0
  sepc     : Nat := 0
  stval    : Nat := 0
  sfenceAt : Option Nat := none
  fenceIAt : Option Nat := none
  busy     : Nat := 0
  mark     : Nat := 0
  loads    : List Nat := []
deriving DecidableEq, Repr

/-- Sett: the items, the next place in the order of submission and at a head, the harts, the next generation of each slot, the
episode of PARK_FULL, the journal's records that are not free, oldest first, with whether they are
done, the waiting times by priority with the extended cycle of each, the raw counts at which retiring cores stopped taking
items, and whether an application was started on the harts (R475). -/
structure Sett where
  items   : List Item := []
  nextSeq : Nat := 1
  head    : Nat := 0
  harts   : Map Hart := []
  gens    : Map Nat := []
  fullEp  : Bool := false
  journal : List (Nat × Bool) := []
  waits   : Map (List (Nat × Nat)) := []
  leaving : Map (Option Nat) := []
  started : Bool := false
deriving DecidableEq, Repr

/-- The DMA channels and the IOMMU (R282 to R286): the bytes of its descriptor each channel has copied, and the translations
cached, oldest first: ASID, page number, leaf entry of the page table with its level. -/
structure Dma where
  offs  : Map Nat := []
  iotlb : List (Nat × Nat × Nat × Nat) := []
deriving DecidableEq, Repr

/-! ## TurriLink (spec/09) -/

/-- A frame that left the module in this step: its port as R554 numbers ports, whether its FCS is good, its bytes from the
destination address up to the FCS. -/
structure Sent where
  port  : Nat
  fcs   : Bool
  bytes : Bytes
deriving DecidableEq, Repr

/-- A port (R313 to R316, R324, R336): the extended cycles of its last EDGE frame, window drop and babble, the window drops of
the cycle and that cycle, whether the last scheduled reception was dropped, the COLDSTART frames forwarded by source with
their raw counts, the sequence number and departure of its last link-delay request, twice the delay of the last 16 exchanges
in ns, and the delay it gives frames past bypassed nodes. -/
structure LinkPort where
  edgeAt   : Option Nat := none
  dropAt   : Option Nat := none
  babbleAt : Option Nat := none
  drops    : Nat := 0
  dropCyc  : Nat := 0
  dropRun  : Bool := false
  csSeen   : List (Nat × Nat) := []
  reqSeq   : Nat := 0
  reqT1    : Option (Nat × Int) := none
  delays   : List Int := []
  bypNs    : Nat := 0
deriving DecidableEq, Repr

/-- A safety connection (R330): the SEQ of the last rejected frame, the raw count of the last accepted one. -/
structure ConnRun where
  rejected : Option Nat := none
  at_      : Nat := 0
deriving DecidableEq, Repr

/-- A message being put together from fragments (R332). -/
structure Reasm where
  source : Nat
  txn    : Nat
  resp   : Bool
  next   : Nat
  bytes  : Bytes
deriving DecidableEq, Repr

/-- What the configuration class held at the SI of T0 of a cycle (R463). -/
structure Past where
  cycle : Nat
  od    : Map Int
  dom   : Map Bytes
deriving DecidableEq, Repr

/-- A node under the comparison of R463: the cycle judged last, consecutive cycles in skew, consecutive cycles without. -/
structure SkewRun where
  cycle : Nat := 0
  bad   : Nat := 0
  good  : Nat := 0
deriving DecidableEq, Repr

/-- The network: whether the bypass joins P0 and P1 (R334) and the unit is silent (R416); the ports; the raw count LISTEN was
entered at, COLDSTART frames sent, consecutive frames of the adopted leader within precision and whether one was a SYNC, the
raw count of the last adoptable frame, the extended cycle from which own frames leave and the one IN_SYNC began in, whether it
leads; the deviations of this cycle, the cycles without one, the correction that begins at T1 and what the base rate moves
by; the last payload of each entry, the status windows received with the extended cycle of each; the authority epoch followed
with its source and tick, the pair units seen (R415); the configuration of the last cycles and the skew of nodes (R463); the
acyclic service: messages in parts, stored responses by source and transaction, frames waiting for a slot, requests without
a response; the safety connections. -/
structure Link where
  bypass   : Bool := true
  silent   : Bool := false
  ports    : Map LinkPort := []
  listenAt : Nat := 0
  csSent   : Nat := 0
  integ    : Nat := 0
  sawSync  : Bool := false
  adoptAt  : Nat := 0
  sendFrom : Option Nat := none
  syncFrom : Nat := 0
  devs     : List Rat := []
  noSync   : Nat := 0
  corr     : Option Rat := none
  baseAdd  : Rat := 0
  payloads : Map Bytes := []
  windows  : Map (Option (Nat × Bytes)) := []
  accEpoch : Nat := 0
  accSrc   : Nat := 0
  accTick  : Option Nat := none
  pairSeen : List Nat := []
  past     : List Past := []
  skew     : Map SkewRun := []
  reasm    : List Reasm := []
  stored   : List (Nat × Nat × Bytes) := []
  outbox   : List Bytes := []
  asked    : List (Nat × Nat) := []
  conns    : Map ConnRun := []
deriving DecidableEq, Repr

/-! ## Redundant pairs (spec/12) -/

/-- A checkpoint generation the active has open (R420): its number, the extended cycle of its consistency point, its dirty set by
page of the Hoard, the pages captured before a write, the oldest journal number not done and the next one at that point, the
journal records changed since the generation before, the control state and the mirrored configuration of that point, whether CKPT_LAG was raised. -/
structure Gen where
  num     : Nat
  cycle   : Nat
  pages   : List Nat
  kept    : Map Bytes := []
  jLo     : Nat := 0
  jHi     : Nat := 0
  records : List (Nat × Bytes) := []
  ctrl    : Bytes := []
  config  : Bytes := []
  lagTold : Bool := false
deriving DecidableEq, Repr

/-- A unit of a pair, or an Owl (R408 to R430): pages written since the last consistency point, the open generation, the
generations not acknowledged with their pages and the extended cycles of their consistency point and of their CLOSE, the last generation's number; at the
standby the records staged by FSEQ with their generation, the applied control state, mirrored configuration, oldest and next
journal number, the generation a NAK names, the pages the sweep has brought; at the active the next page of its sweep; the
ticks of the last heartbeat, of the last that reported ROLE 1, of the last TurriLink frame of the partner and of the last with
an epoch; since when it listens and, a duplex secondary, since when it waits; whether a FAIL came since the last pair window;
the status windows of consumers by node with tick and AUTH_EPOCH; the pair windows by sender with the extended cycle; the
episodes of PARTNER_LOST, OWL_LOST and CKPT_FORMAT_MISMATCH; the
configuration block sent last, the wire bytes of this cycle, the decision tick of a takeover. -/
structure Pair where
  dirty     : List Nat := []
  gen       : Option Gen := none
  unacked   : List (Nat × List Nat × Nat × Nat) := []
  lastNum   : Nat := 0
  jSent     : Map Bytes := []
  stageGen  : Nat := 0
  stage     : Map Bytes := []
  ctrl      : Bytes := []
  config    : Bytes := []
  jLo       : Nat := 0
  jHi       : Nat := 0
  nak       : Nat := 0
  sweepDone : Bool := false
  sweepAt   : Option Nat := none
  hbTick    : Option Nat := none
  hbActive  : Option Nat := none
  netTick   : Option Nat := none
  netActive : Option Nat := none
  listenAt  : Option Nat := none
  secondAt  : Option Nat := none
  failRx    : Bool := false
  status    : Map (Option (Nat × Nat)) := []
  windows   : Map (Option (Nat × Bytes)) := []
  lostTold  : Bool := false
  owlTold   : Bool := false
  fmtTold   : Bool := false
  cfgSent   : Bytes := []
  wire      : Nat := 0
  owlFrom   : Option Nat := none
  takeover  : Option Nat := none
deriving DecidableEq, Repr

/-! ## PTP on the host ports (spec/10) -/

/-- A host Ethernet port's PTP state (R353): sequence numbers of Pdelay_Req, Sync and Announce; the outstanding Pdelay_Req's
number and departure; a two-step response waiting for its Follow_Up (number, arrival of the response less departure of the
request, T2, corrections); a two-step Sync waiting for its Follow_Up (number, arrival, correction); the peer delay; the
sender of the last Announce that is not qualified yet; the best qualified Announce. Times in 2^-40 ns. -/
structure PtpPort where
  pdSeq   : Nat := 0
  syncSeq : Nat := 0
  annSeq  : Nat := 0
  pdAsk   : Option (Nat × Int) := none
  pdWait  : Option (Nat × Int × Int × Int) := none
  syncs   : Option (Nat × Int × Int) := none
  delay   : Int := 0
  heard   : Option Nat := none
  best    : Option Bytes := none
deriving DecidableEq, Repr

/-! ## The OD server and the host interface (spec/13) -/

/-- An open write transfer (R444): its owner, the entry's key, TOTAL, the bytes so far, the parts written (from, to) and the raw
count of its last block. -/
structure Transfer where
  owner : Requester
  key   : Nat
  total : Nat
  bytes : Bytes
  parts : List (Nat × Nat)
  last  : Nat
deriving DecidableEq, Repr

/-- A ring pair (R449, R455). -/
structure Ring where
  reqBase : Nat := 0
  rspBase : Nat := 0
  size    : Nat := 0
  state   : Nat := 0
  tail    : Nat := 0
  head    : Nat := 0
  rspTail : Nat := 0
  rspHead : Nat := 0
  vector  : Nat := 0xFFFF
  error   : Nat := 0
deriving DecidableEq, Repr

/-- A host DMA channel (R452). -/
structure HostDma where
  hostAddr : Nat := 0
  devAddr  : Nat := 0
  length   : Nat := 0
  dir      : Nat := 0
  state    : Nat := 0
  vector   : Nat := 0
  error    : Nat := 0
deriving DecidableEq, Repr

/-- A peer of the UDP service (R456): address and port in one number (address times 65,536 and port), its stored responses,
newest first, and the raw count it was last heard at. -/
structure Peer where
  who    : Nat
  stored : List (Nat × Bytes)
  heard  : Nat
deriving DecidableEq, Repr

/-- What a requester of the memory window holds (R453, R454): the entry whose upper part is latched with that part, the entry
whose lower part waits for its upper one with those bytes, and WIN_STATUS. -/
structure WinLatch where
  who    : Requester
  read   : Option (Nat × Bytes) := none
  write  : Option (Nat × Bytes) := none
  status : Nat := 0
deriving DecidableEq, Repr

/-- The OD server: open transfers, ring pairs (0 to 15 of the host, 64 + h of hart h), host DMA channels, UDP peers, window
latches by requester, EVENT_VECTOR of BAR0, the doublewords of the MSI-X table and its pending bits. -/
structure OdServe where
  transfers : List Transfer := []
  rings     : Map Ring := []
  hostDma   : Map HostDma := []
  peers     : List Peer := []
  windows   : List WinLatch := []
  eventVec  : Nat := 0xFFFF
  msix      : Map Nat := []
  msixPend  : List Nat := []
deriving DecidableEq, Repr

/-- What a step gave its requester besides the code `Dev.done`: the bytes answered, TOTAL and GEN of the response (R441), where
ENUMERATE goes on, the bytes written to host memory with their bus address, the MSI-X vectors raised, the UDP datagrams sent
(host port, peer, bytes). -/
structure Resp where
  data    : Bytes := []
  total   : Nat := 0
  gen     : Nat := 0
  next    : Nat := 0
  host    : List (Nat × Bytes) := []
  vectors : List Nat := []
  udp     : List (Nat × Nat × Bytes) := []
deriving DecidableEq, Repr


/-! ## Boot, update and security (spec/14) -/

/-- A record of the boot journal (R473). -/
structure BootRec where
  boot    : Nat
  step    : Nat
  outcome : Nat
  alt     : Nat := 0
  code    : Nat := 0
  detail  : Nat := 0
  seconds : Nat := 0
deriving DecidableEq, Repr

/-- An image slot (R468, R477): its state as `OD 6010.01` codes it, the image, its backup copy and the starts as TRIAL. -/
structure FwSlot where
  state  : Nat := 0
  image  : Bytes := []
  backup : Bytes := []
  trials : Nat := 0
deriving DecidableEq, Repr

/-- A store generation (R460): its number and the STORED values that differ from their defaults. -/
structure SetGen where
  gen : Nat
  od  : Map Int
  dom : Map Bytes
deriving DecidableEq, Repr

/-- A settings slot (R486): FORMAT, SSTATE, WRITER and its two newest generations, newest first. -/
structure SetSlot where
  format : Nat := 0
  sstate : Nat := 0
  writer : Nat := 0
  gens   : List SetGen := []
deriving DecidableEq, Repr

/-- The always-on domain (R351, R474, R528): the seconds counter, the last 64 boot records, whether it recorded the loss of both
feeds, whether its contents are lost. (DEDUCED, log 106, safe.) -/
structure AlwaysOn where
  seconds  : Nat := 0
  journal  : List BootRec := []
  feedLoss : Bool := false
  lost     : Bool := false
deriving DecidableEq, Repr

/-- Flash and one-time memory (R468, R469, R473, R485, R494, R516): slots, settings slots and the one in use, the flash journal,
the activated slot by kind, the confirmation records (slot, SEC_VERSION), the attestation indices, units retired or marked
FAILED as UKIND, number and whether FAILED, spares in service as UKIND, number and spare; the application key digests and the
revoked key slots (vendor 0 to 3, application 4 to 7), the two thermometers; the boot number, the steps with the alternatives
that failed since the last start that reached CONFIG, the alternatives in force by step, the slots started last. -/
structure Flash where
  slots     : Map FwSlot := []
  sets      : Map SetSlot := []
  setUse    : Nat := 0
  journal   : List BootRec := []
  activated : Map Nat := []
  confirms  : List (Nat × Nat) := []
  attNext   : Nat := 0
  attEnd    : Nat := 0
  retired   : List (Nat × Nat × Bool) := []
  spared    : List (Nat × Nat × Nat) := []
  apps      : List Bytes := []
  revoked   : List Nat := []
  fwMin     : Nat := 0
  appMin    : Nat := 0
  boot      : Nat := 0
  failed    : List (Nat × Nat) := []
  inForce   : Map Nat := []
  lastFw    : Option Nat := none
  lastApp   : Option Nat := none
deriving DecidableEq, Repr

/-- An update session (R479 to R483): its kind, the digest and length announced, its slot, the token, the bound requesters, the
bytes so far and the parts written, the raw count of the last block, and whether its digest has matched. -/
structure Update where
  kind   : Nat
  digest : Bytes
  total  : Nat
  slot   : Nat
  token  : Nat
  bound  : List Requester
  bytes  : Bytes := []
  parts  : List (Nat × Nat) := []
  last   : Nat
  whole  : Bool := false
deriving DecidableEq, Repr

/-- What a start brings about, and what it loses again (R458, R476, R479, R491, R494, R531, R533): whether the module is held in
reset, whether a temperature stopped it, recovery, the update session, the debug challenge with the raw count it was drawn at,
the nonce of the attestation report in work, whether the present SAFE was entered by DEV_CONTROL, whether the loss of a feed was
told, what the last reset was by. (DESIGN CHOICE, log 3, unsafe.) -/
structure Boot where
  held      : Bool := false
  hot       : Bool := false
  recovery  : Bool := false
  update    : Option Update := none
  challenge : Option (Bytes × Nat) := none
  nonce     : Option Bytes := none
  safeByCmd : Bool := false
  feedTold  : Bool := false
  resetBy   : Nat := 0
deriving DecidableEq, Repr


/-! ## Counters, wear and spares (spec/15), supplies (spec/16) -/

/-- A unit being retired (R513 to R515): UKIND, number, spare, the extended cycle from whose T0 the spare stands in. -/
structure Retiring where
  kind  : Nat
  unit  : Nat
  spare : Nat
  cycle : Nat
deriving DecidableEq, Repr

/-- A warning episode (R511, R546): whether it runs, and the consecutive readings back across the warning, whether the sensor
was read since boot. -/
structure WarnEp where
  seen : Bool := false
  on   : Bool := false
  back : Nat := 0
deriving DecidableEq, Repr

/-- A word corrected within CE_WINDOW_H (R509): its address, the UKIND and number of its region, the raw count and the cycle. -/
structure CeWord where
  addr  : Nat
  kind  : Nat
  unit  : Nat
  raw   : Nat
  cycle : Nat
deriving DecidableEq, Repr

/-- Health: the snapshot and the freeze asked for at the next SI, the Sett values of R288 as latched, the raw count the bandwidth window ends at; the error log; the
words corrected, those the scrubber wrote back with the symbol corrected, those left poisoned; the warning episodes by
256 * unit and sensor, those of pages and banks by UKIND and number; units with a retirement reading with the reading's excess,
units that RETIRE named; retirements in work; the units whose SPARE_EXHAUSTED was raised; the lid's episode and the raw count
since which it is at 105 degrees. -/
structure Health where
  snapAsk  : Bool := false
  freezeTo : Option Bool := none
  settSnap : Map Int := []
  settDom  : Map Bytes := []
  windowAt : Option Nat := none
  log      : List Bytes := []
  words    : List CeWord := []
  written  : List (Nat × Nat) := []
  poisoned : List Nat := []
  warn     : Map WarnEp := []
  ceWarn   : List (Nat × Nat × WarnEp) := []
  due      : List (Nat × Nat × Int) := []
  asked    : List (Nat × Nat) := []
  work     : List Retiring := []
  told     : List (Nat × Nat) := []
  lidEp    : WarnEp := {}
  lidHot   : Option Nat := none
deriving DecidableEq, Repr

/-- The order code (R3: whether it is LM4128-AE), the supplies and the balls of the module as a whole (R526, R528, R530 to R537): which feeds are above their bound as bits (feed A
bit 0), VBAT present, RESET_N high, PERST_N high, the JTAG instruction in force.
(DESIGN CHOICE, log 1, unsafe; DESIGN CHOICE, log 159, unsafe.) -/
structure Power where
  ae     : Bool := false
  feeds  : Nat := 3
  vbat   : Bool := true
  resetN : Bool := true
  perstN : Bool := true
  jtag   : Nat := 0
deriving DecidableEq, Repr

/-! ## The whole device -/

/-- The device: everything but the queue of waiting commands. -/
structure Dev where
  clk    : Clock := {}
  ph     : Phase := {}
  wall   : Wall := {}
  /-- The scalar entries of the object dictionary that differ from their defaults. -/
  od     : Map Int := []
  /-- The DOMAIN and STRING entries that differ from their defaults, and their change counts (R444). -/
  dom    : Map Bytes := []
  gen    : Map Nat := []
  /-- The fault log, oldest first (R459). -/
  log    : List LogRec := []
  /-- The model's own count of free values taken so far; no value of it means anything. (DESIGN CHOICE, log 13, safe.) -/
  fresh  : Nat := 0
  /-- PLIC sources pending (R40, R251). (DESIGN CHOICE, log 142, safe.) -/
  plic   : List Nat := []
  /-- Pending commits by the key of their COMMIT_CYCLE entry. -/
  pend   : Map (Option Pending) := []
  cpi    : Map Cpi := []
  waits  : List Wait := []
  acts   : Map ActionRun := []
  io     : LocalIo := {}
  axes   : Map Axis := []
  eng    : Engine := {}
  chains : Map Chain := []
  zones  : Map Zone := []
  geom   : Geom := {}
  sep    : Sep := {}
  /-- What the profile engine and the control engine left unevaluated in this tick (R31, R32). -/
  lateP  : List Nat := []
  lateC  : List Nat := []
  ident  : Ident := {}
  aes    : Map Ae := []
  safe   : SafeDom := {}
  link   : Link := {}
  /-- The frames this step sent: the model's own field. (DESIGN CHOICE, log 11, safe.) -/
  out    : List Sent := []
  ptp    : Map PtpPort := []
  pair   : Pair := {}
  sett   : Sett := {}
  dma    : Dma := {}
  /-- The memory of the work cores' 40-bit addresses, an unlisted byte reading 0. (DESIGN CHOICE, log 10, unsafe.) -/
  mem    : Map Byte := []
  /-- The code with which the last access or request completed: the model's own field. (DESIGN CHOICE, log 11, safe.) -/
  done   : Nat := 0
  /-- EVENT of BAR0 (R448). -/
  event  : Nat := 0
  /-- The OD server's transfers, rings and windows; what this step answered, the model's own field.
  (DESIGN CHOICE, log 11, safe.) -/
  serve  : OdServe := {}
  resp   : Resp := {}
  /-- What survives a start: the always-on domain, flash and one-time memory; the start in force. -/
  aon    : AlwaysOn := {}
  flash  : Flash := {}
  boot   : Boot := {}
  health : Health := {}
  power  : Power := {}
deriving DecidableEq, Repr

end Sys2Proof.Machine
end

