-- ==== Sys2Proof/Machine/Sparse.lean ====
section
/-! DEFINITION. Sparse numbered data in one canonical form: keys strictly rising, no entry equal to the default. The
object dictionary's values, the per-instance records and memory are held so. -/

namespace Sys2Proof.Machine

/-- The value at `k`, the default `d` where none is listed. -/
def mget {α : Type} (d : α) (m : Map α) (k : Nat) : α :=
  match m with
  | [] => d
  | (j, v) :: r => if j = k then v else mget d r k

/-- `m` without `k`. -/
def merase {α : Type} (m : Map α) (k : Nat) : Map α := m.filter fun x => x.1 != k

/-- `m` with `v` at `k`; the default is never listed. -/
def mset {α : Type} [DecidableEq α] (d : α) (m : Map α) (k : Nat) (v : α) : Map α :=
  match m with
  | [] => if v = d then [] else [(k, v)]
  | (j, w) :: r =>
    if k < j then (if v = d then (j, w) :: merase r k else (k, v) :: (j, w) :: r)
    else if j = k then (if v = d then merase r k else (k, v) :: r)
    else (j, w) :: mset d r k v

/-- Every key of `m` lies above `b`, keys rise strictly, and `df` gives no entry's value as its default. -/
def Map.above {α : Type} [DecidableEq α] (df : Nat → α) (b : Option Nat) (m : Map α) : Bool :=
  match m with
  | [] => true
  | (j, v) :: r => (match b with | none => true | some b => decide (b < j)) && decide (v ≠ df j) && Map.above df (some j) r

/-- The canonical form. -/
def Map.wf {α : Type} [DecidableEq α] (df : Nat → α) (m : Map α) : Bool := Map.above df none m

/-- Every listed value changed by `f`; a value that becomes the default is left out. -/
def mmap {α : Type} [DecidableEq α] (d : α) (m : Map α) (f : Nat → α → α) : Map α :=
  (m.map Prod.fst).foldl (fun r k => mset d r k (f k (mget d m k))) m

/-- `f` applied `n` times, to 0, 1, … in turn. -/
def iterate {σ : Type} (n : Nat) (f : Nat → σ → σ) (s : σ) : σ := (List.range n).foldl (fun s i => f i s) s

/-- `f` applied for each element in turn. -/
def each {σ α : Type} (l : List α) (f : α → σ → σ) (s : σ) : σ := l.foldl (fun s x => f x s) s

end Sys2Proof.Machine
end

