-- ==== Sys2Proof/Machine/Ops.lean ====
section
/-! DEFINITION. The named operations over the device's registers, times and logs that every family uses: finding an
entry of the object dictionary, reading and writing it, the clocks, raising a status code (R459).
-/

namespace Sys2Proof.Machine

/-! ## The catalogue -/

/-- The entry of a scheduled action (R356): sub 16 * (e mod 8) + j of index 0x1160 + (e div 8). -/
def actionEntry (index sub : Nat) : Option (Entry × Nat) :=
  (blk1160.find? fun e => e.sub = sub % 16).bind fun e =>
    if sub < 128 then some ({ e with sub }, (index - 0x1160) * 8 + sub / 16) else none

/-- The entry at an index and sub-index, with the instance of its block. -/
def entryAt (index sub : Nat) : Option (Entry × Nat) :=
  if 0x1160 ≤ index ∧ index < 0x1180 then actionEntry index sub
  else
    blocks.findSome? fun b => (b.inst index).bind fun i => (b.rows.find? fun e => e.sub = sub).map fun e => (e, i)

/-- The entry whose value a key holds; the key of an active value (R435) holds the type and default of its entry. -/
def entryOf (k : Nat) : Option (Entry × Nat) :=
  match entryAt (k / 256) (k % 256) with
  | some e => some e
  | none => if 128 ≤ k % 256 then entryAt (k / 256) (k % 256 - 128) else none

/-- The default of a scalar entry. (DESIGN CHOICE, log 2, unsafe; DESIGN CHOICE, log 12, unsafe.) -/
def odDefault (k : Nat) : Int :=
  match entryOf k with
  | some (e, i) => e.dflt + e.mul * i
  | none => 0

/-- The type of a scalar entry. -/
def odType (k : Nat) : OdType :=
  match entryOf k with
  | some (e, _) => e.ty
  | none => .u64

/-- The reset image of a coefficient bank (R75). -/
def resetImage : Bytes :=
  [1, 0, 1, 0, 0, 0, 0, 0] ++ leBytes 4 0x80000000 ++ leBytes 4 0x7FFFFFFF ++ List.replicate 36 0

/-- The identity transform of `CH[c].2.01`: T = 0, Q = (1, 0, 0, 0). -/
def identityBase : Bytes := List.replicate 12 0 ++ leBytes 4 0x3F800000 ++ List.replicate 12 0

/-- The default of a DOMAIN or STRING entry, as its object table names it. (DESIGN CHOICE, log 2, unsafe.) -/
def domDefault (k : Nat) : Bytes :=
  let ix := k / 256
  let sub := k % 256 % 128
  if 0x2000 ≤ ix ∧ ix < 0x2800 ∧ ix % 16 = 9 ∧ 1 ≤ sub ∧ sub ≤ 8 then resetImage
  else if 0x3000 ≤ ix ∧ ix < 0x3100 ∧ ix % 16 = 2 ∧ sub = 1 then identityBase
  else if 0x3000 ≤ ix ∧ ix < 0x3100 ∧ ix % 16 = 7 ∧ 1 ≤ sub ∧ sub ≤ 3 then List.replicate 768 0
  else if ix = 0x3102 ∧ sub = 1 then List.replicate 32 0
  else if ix = 0x3103 ∧ sub = 1 then List.replicate 12288 0
  else if ix = 0x3104 ∧ sub = 1 then List.replicate 4096 0
  else if ix = 0x3106 ∧ sub = 1 then List.replicate 2816 0
  else if 0x3410 ≤ ix ∧ ix < 0x3420 ∧ sub = 4 then List.replicate 32 0
  else if (0x5010 ≤ ix ∧ ix < 0x5018 ∧ sub = 7) ∨ (0x5020 ≤ ix ∧ ix < 0x5028 ∧ sub = 3) then List.replicate 16 0
  else if 0x3920 ≤ ix ∧ ix < 0x3940 ∧ sub = 0x0A then List.replicate 32 0
  else if (ix = 0x3880 ∧ (sub = 1 ∨ sub = 4)) ∨ (ix = 0x1430 ∧ sub = 6) ∨ (ix = 0x4001 ∧ sub = 3) then List.replicate 32 0
  else if (ix = 0x3880 ∧ (sub = 5 ∨ sub = 6)) ∨ (ix = 0x4001 ∧ sub = 5) then List.replicate 64 0
  else if ix = 0x4001 ∧ sub = 4 then List.replicate 8 0
  else []

/-! ## Reading and writing registers -/

/-- The value a scalar entry holds. -/
def Dev.reg (d : Dev) (k : Nat) : Int := mget (odDefault k) d.od k

/-- The same as a natural number. -/
def Dev.nat (d : Dev) (k : Nat) : Nat := (d.reg k).toNat

/-- The same as a truth value. -/
def Dev.flag (d : Dev) (k : Nat) : Bool := d.reg k != 0

/-- The device with `v`, narrowed to the entry's type, in a scalar entry. -/
def Dev.set (d : Dev) (k : Nat) (v : Int) : Dev :=
  { d with od := mset (odDefault k) d.od k ((odType k).wrap v) }

/-- The device with a scalar entry counted up by `n`, saturating at `2^32 - 1` (R44). -/
def Dev.count (d : Dev) (k : Nat) (n : Nat := 1) : Dev := d.set k (min (d.nat k + n) 0xFFFFFFFF)

/-- The device with bits of a scalar entry set. -/
def Dev.orBits (d : Dev) (k bits : Nat) : Dev := d.set k ((d.nat k ||| bits : Nat) : Int)

/-- The device with bits of a scalar entry cleared. -/
def Dev.clearBits (d : Dev) (k bits : Nat) : Dev := d.set k ((d.nat k - (d.nat k &&& bits) : Nat) : Int)

/-- Bit `i` of a scalar entry. -/
def Dev.bit (d : Dev) (k i : Nat) : Bool := (d.nat k).testBit i

/-- The value a DOMAIN or STRING entry holds. -/
def Dev.bytes (d : Dev) (k : Nat) : Bytes := mget (domDefault k) d.dom k

/-- The device with a DOMAIN or STRING entry changed; GEN counts each change of its value (R444). -/
def Dev.setBytes (d : Dev) (k : Nat) (v : Bytes) : Dev :=
  if d.bytes k = v then d
  else { d with dom := mset (domDefault k) d.dom k v, gen := mset 0 d.gen k ((mget 0 d.gen k + 1) % 0x100000000) }

/-- The key of the active value of an entry staged in place (R435). (DEDUCED, log 15, safe.) -/
abbrev act (k : Nat) : Nat := k + 0x80

/-! ## Instances -/

def Dev.axis (d : Dev) (n : Nat) : Axis := mget {} d.axes n
def Dev.setAxis (d : Dev) (n : Nat) (a : Axis) : Dev := { d with axes := mset {} d.axes n a }
def Dev.modAxis (d : Dev) (n : Nat) (f : Axis → Axis) : Dev := d.setAxis n (f (d.axis n))

def Dev.chain (d : Dev) (c : Nat) : Chain := mget {} d.chains c
def Dev.setChain (d : Dev) (c : Nat) (x : Chain) : Dev := { d with chains := mset {} d.chains c x }
def Dev.modChain (d : Dev) (c : Nat) (f : Chain → Chain) : Dev := d.setChain c (f (d.chain c))

def Dev.zone (d : Dev) (z : Nat) : Zone := mget {} d.zones z
def Dev.setZone (d : Dev) (z : Nat) (x : Zone) : Dev := { d with zones := mset {} d.zones z x }

def Dev.injGen (d : Dev) (g : Nat) : InjGen := mget {} d.ident.gens g
def Dev.setGen (d : Dev) (g : Nat) (x : InjGen) : Dev :=
  { d with ident := { d.ident with gens := mset {} d.ident.gens g x } }
def Dev.capSet (d : Dev) (s : Nat) : CapSet := mget {} d.ident.sets s
def Dev.setCap (d : Dev) (s : Nat) (x : CapSet) : Dev :=
  { d with ident := { d.ident with sets := mset {} d.ident.sets s x } }
def Dev.tracker (d : Dev) (t : Nat) : Tracker := mget {} d.ident.trackers t
def Dev.setTracker (d : Dev) (t : Nat) (x : Tracker) : Dev :=
  { d with ident := { d.ident with trackers := mset {} d.ident.trackers t x } }

def Dev.safeFn (d : Dev) (k : Nat) : SafeFn := mget {} d.safe.fns k
def Dev.setSafeFn (d : Dev) (k : Nat) (x : SafeFn) : Dev :=
  { d with safe := { d.safe with fns := mset {} d.safe.fns k x } }
def Dev.safeOut (d : Dev) (k : Nat) : SafeOut := mget {} d.safe.outs k
def Dev.setSafeOut (d : Dev) (k : Nat) (x : SafeOut) : Dev :=
  { d with safe := { d.safe with outs := mset {} d.safe.outs k x } }
def Dev.axSafe (d : Dev) (n : Nat) : AxSafe := mget {} d.safe.axes n
def Dev.setAxSafe (d : Dev) (n : Nat) (x : AxSafe) : Dev :=
  { d with safe := { d.safe with axes := mset {} d.safe.axes n x } }

/-- `f` where `c` holds, else nothing. -/
def Dev.when (d : Dev) (c : Bool) (f : Dev → Dev) : Dev := if c then f d else d

/-! ## Time -/

/-- The cycle counter: the low 32 bits of the extended count (R18). -/
def Dev.cycle (d : Dev) : Nat := d.clk.cycle64 % 0x100000000

/-- The absolute tick number (R18). -/
def Dev.tickAbs (d : Dev) : Nat := 8 * d.clk.cycle64 + d.clk.tick

/-- A feedback value as it stands in tick `now`: one round older for every tick since. -/
def FbVal.asOf (v : FbVal) (now : Nat) : FbVal := { v with age := min 15 (v.age + (now - v.tick)), tick := max now v.tick }
def Feedback.asOf (f : Feedback) (now : Nat) : Feedback :=
  { f with pos := f.pos.asOf now, vel := f.vel.asOf now, curQ := f.curQ.asOf now, vdc := f.vdc.asOf now, aux := f.aux.asOf now }

/-- The raw count now (R344). -/
def Dev.rawNow (d : Dev) : Nat := d.clk.raw + d.ph.off

/-- Network time at a raw count, in units of 2^-40 ns (R345). -/
def Dev.ntAt (d : Dev) (raw : Nat) : Int := d.clk.ntOff + raw * d.clk.ntRate

/-- Network time now, in units of 2^-40 ns. -/
def Dev.nt40 (d : Dev) : Int := d.ntAt d.rawNow

/-- A time in units of 2^-40 ns as whole nanoseconds (R347), never below 0. -/
def ns40 (t : Int) : Nat := (t.fdiv (2 ^ 40)).toNat

/-- A time in units of 2^-40 ns in the TIME format, read as one little-endian number (R347): seconds, nanoseconds and
the fraction in units of 2^-16 ns. -/
def time40 (t : Int) : Int :=
  let f := (t.fdiv (2 ^ 24)).toNat
  let ns := f / 65536
  (ns / 1000000000 + 2 ^ 64 * (ns % 1000000000) + 2 ^ 96 * (f % 65536) : Nat)

/-- The nanoseconds of a TIME value (R347). -/
def timeNs (t : Int) : Nat := t.toNat % 2 ^ 64 * 1000000000 + t.toNat / 2 ^ 64 % 2 ^ 32

/-- Wall time at a raw count, in units of 2^-40 ns (R345). -/
def Dev.wtAt (d : Dev) (raw : Nat) : Int := d.wall.off + raw * d.wall.rate

/-- The device at `off` nanoseconds after the SI of the present tick; time does not run backward in a tick. -/
def Dev.at (d : Dev) (off : Nat) : Dev := { d with ph := { d.ph with off := max d.ph.off off } }

/-! ## The device state and the fault log -/

/-- The states of R13 in table order. -/
abbrev DevState.off : Nat := 0
abbrev DevState.alwaysOn : Nat := 1
abbrev DevState.boot : Nat := 2
abbrev DevState.config : Nat := 3
abbrev DevState.syncing : Nat := 4
abbrev DevState.run : Nat := 5
abbrev DevState.hibernate : Nat := 6
abbrev DevState.standbyReady : Nat := 7
abbrev DevState.safe : Nat := 8
abbrev DevState.failed : Nat := 9

/-- The device state (R13, `OD 1001.01`). -/
def Dev.state (d : Dev) : Nat := d.nat Reg.R1001_DEV_STATE

/-- Whether the device is in RUN or SAFE, the states in which it acts on time (R42, R360). -/
def Dev.acting (d : Dev) : Bool := d.state == DevState.run || d.state == DevState.safe

/-- The kinds of subjects of R554. -/
abbrev Kind.device : Nat := 0
abbrev Kind.axis : Nat := 1
abbrev Kind.chain : Nat := 2
abbrev Kind.port : Nat := 3
abbrev Kind.zone : Nat := 4
abbrev Kind.conn : Nat := 5
abbrev Kind.other : Nat := 6
abbrev Kind.sensor : Nat := 7
abbrev Kind.safeIn : Nat := 8
abbrev Kind.safeOut : Nat := 9
abbrev Kind.unit : Nat := 10
abbrev Kind.table : Nat := 11
abbrev Kind.action : Nat := 12

/-- Whether a code is a critical fault, at which CONFIRM_CYCLES returns to 0 (R484). -/
def Dev.criticalFault (d : Dev) (code : Nat) : Bool :=
  code == Code.CHANNEL_DISAGREE || code == Code.LANE_FAULT || code == Code.SHADOW_MISMATCH ||
    (code == Code.DEADLINE_MISS && d.flash.slots.any fun (k, x) => decide (2 ≤ k) && x.state == 3)

/-- A status code raised at `off` nanoseconds after the SI: its record enters the fault log, the oldest giving way
when it is full (R459), and NEXT_SEQ and EVENT follow (R448). -/
def Dev.raiseAt (d : Dev) (off code kind subject reaction detail : Nat) : Dev :=
  let rec_ : LogRec :=
    { seq := d.nat Reg.R1003_NEXT_SEQ, code, kind, subject, cycle := d.cycle, tick := d.clk.tick, reaction,
      nt := ns40 (d.ntAt (d.clk.raw + off)), detail }
  let full := decide (256 ≤ d.log.length)
  let d := { d with log := (if full then d.log.drop 1 else d.log) ++ [rec_], event := d.event ||| 2 }
  let d := d.when full fun d => d.set Reg.R1003_LOG_WRAPPED 1
  let d := d.when (d.criticalFault code) fun d => d.set Reg.R6020_CONFIRM_CYCLES 0
  d.set Reg.R1003_NEXT_SEQ (d.reg Reg.R1003_NEXT_SEQ + 1)

/-- A status code raised now. (DEDUCED, log 124, safe.) -/
def Dev.raise (d : Dev) (code kind subject : Nat) (reaction : Nat := 0) (detail : Nat := 0) : Dev :=
  d.raiseAt d.ph.off code kind subject reaction detail

/-- A code that concerns an axis, without a reaction. -/
def Dev.raiseAxis (d : Dev) (code n : Nat) : Dev := d.raise code Kind.axis n

/-- A PLIC source raised. (DESIGN CHOICE, log 26, safe; DEDUCED, log 88, safe.) -/
def Dev.raisePlic (d : Dev) (src : Nat) : Dev :=
  if d.plic.contains src then d else { d with plic := d.plic ++ [src] }

/-- An MSI-X vector raised (R447, R448): a masked one (bit 0 of its vector control) waits in the pending-bit array; a number
beyond the table names none. (PRESUMED, log 121, unsafe; DESIGN CHOICE, log 142, safe.) -/
def Dev.msi (d : Dev) (v : Nat) : Dev :=
  if 32 ≤ v then d
  else if (mget 0 d.serve.msix (4 * v + 3)).testBit 0 then
    { d with serve := { d.serve with msixPend := if d.serve.msixPend.contains v then d.serve.msixPend else d.serve.msixPend ++ [v] } }
  else { d with resp := { d.resp with vectors := d.resp.vectors ++ [v] } }

/-- The device that has completed an access or a request with a code. (DEDUCED, log 124, safe.) -/
def Dev.finish (d : Dev) (code : Nat) : Dev := { d with done := code }

/-- An access that needs the password session of its path, refused (R397, R398). (DEDUCED, log 124, safe.) -/
def Dev.denied (d : Dev) : Dev := (d.raise Code.SESSION_DENIED Kind.device 0).finish Code.SESSION_DENIED

/-- A write to the locked inactive bank of the table whose request entry has the key `k`, refused (R38, R554). -/
def Dev.bankLocked (d : Dev) (k : Nat) : Dev :=
  (d.raise Code.BANK_LOCKED Kind.table 0 0 (k * 256)).finish Code.BANK_LOCKED

/-- The number of the next free value, and the device that has used it. (DESIGN CHOICE, log 13, safe.) -/
def Dev.takeFresh (d : Dev) : Nat × Dev := (d.fresh, { d with fresh := d.fresh + 1 })

/-! ## Axis and chain membership -/

/-- The chain's link table in force has N_LINKS members (R138). -/
def Dev.nLinks (d : Dev) (c : Nat) : Nat := fieldLE (d.bytes (act (Reg.CH3_LINKS c))) 0 1

/-- The member axes of a chain in link order (R139). -/
def Dev.members (d : Dev) (c : Nat) : List Nat :=
  let t := d.bytes (act (Reg.CH3_LINKS c))
  if t.isEmpty then [] else (List.range (d.nLinks c)).map fun i => fieldLE t (8 + 40 * i + 1) 1

/-- Whether a chain is enabled in the active geometry bank (R164). -/
def Dev.chainEn (d : Dev) (c : Nat) : Bool := d.flag (act (Reg.CH0_CHAIN_EN c))

/-- The chain an axis is a member of, among the enabled chains. -/
def Dev.chainOf (d : Dev) (n : Nat) : Option Nat :=
  (List.range 16).find? fun c => d.chainEn c && (d.members c).contains n

/-! ## The network states (R339) -/

abbrev NetState.listen : Nat := 0
abbrev NetState.coldstart : Nat := 1
abbrev NetState.integrating : Nat := 2
abbrev NetState.inSync : Nat := 3
abbrev NetState.passive : Nat := 4

def Dev.net (d : Dev) : Nat := d.nat Reg.R1400_NET_STATE
def Dev.inSync (d : Dev) : Bool := d.net == NetState.inSync

end Sys2Proof.Machine
end

