-- ==== Sys2Proof/Machine/State.lean ====
section
/-! DEFINITION. The state of the machine: the device (Dev.lean) and the queue of the commands that wait; why a step
can stop; the state after reset. -/

namespace Sys2Proof.Machine

/-- Why a step can stop. No command of this block ends the machine: every stop the spec describes is a state.
(DEDUCED, log 8, safe.) -/
inductive Fault
  /-- Raised by no meaning of this model: the spec gives every command an effect. Safe. -/
  | none
deriving DecidableEq, Repr

/-- Why a command has no meaning. -/
inductive Refusal
  /-- A row of the opcode table that has no meaning yet; raised by the dispatch alone. Safe. -/
  | notModelled (mnemonic : String)
deriving DecidableEq, Repr

/-- The machine: the device and the commands that wait for it, first in, first out. -/
structure State where
  dev     : Dev
  pending : List Instr
deriving DecidableEq, Repr

/-- The machine right after reset: every register at the value its object table gives (an unlisted key reads it), the
device in BOOT (R13), no command waiting. (DESIGN CHOICE, log 1, unsafe; DESIGN CHOICE, log 12, unsafe.) -/
def State.reset : State := { dev := {}, pending := [] }

end Sys2Proof.Machine
end

