-- ==== Sys2Proof/Machine/Answer.lean ====
section
/-! DEFINITION. How a meaning answers: a change of the device, the queue untouched. -/

namespace Sys2Proof.Machine

/-- EVENT_VECTOR of BAR0 is raised when a bit of EVENT becomes 1 (R448). (PRESUMED, log 121, unsafe.) -/
def Dev.tellEvent (d : Dev) (before : Nat) : Dev :=
  if d.event - (d.event &&& before) = 0 then d else d.msi d.serve.eventVec

/-- The device a command finds: nothing sent and nothing answered in this step yet. (DESIGN CHOICE, log 11, safe.) -/
def State.found (s : State) : Dev := { s.dev with out := [], resp := {} }

/-- A command that changes the device (the frames it sends are those that `out` lists after it, and what it answers its
requester is `resp`) and leaves the counters and the network clock alone. (DESIGN CHOICE, log 11, safe.) -/
def State.answer (s : State) (f : Dev → Dev) : Host.Outcome State Fault Refusal :=
  .next { s with dev := { (f s.found).tellEvent s.dev.event with clk := s.dev.clk } }

/-- The same, of a command that stores nothing to the memory of the work cores. -/
def State.answerDry (s : State) (f : Dev → Dev) : Host.Outcome State Fault Refusal :=
  .next { s with dev := { (f s.found).tellEvent s.dev.event with clk := s.dev.clk, mem := s.dev.mem } }

/-- The same, of a command that concerns the control of the cell alone: beside memory it leaves wall time, the interrupts of
the cycle, local inputs and outputs, scheduled actions, the network, PTP, the pair, Sett, DMA, boot and flash, health and the supplies
alone. -/
def State.answerCell (s : State) (f : Dev → Dev) : Host.Outcome State Fault Refusal :=
  .next { s with dev :=
    { (f s.found).tellEvent s.dev.event with
      clk := s.dev.clk, mem := s.dev.mem, wall := s.dev.wall, cpi := s.dev.cpi, io := s.dev.io, acts := s.dev.acts,
      link := s.dev.link, ptp := s.dev.ptp, pair := s.dev.pair, sett := s.dev.sett, dma := s.dev.dma, aon := s.dev.aon,
      flash := s.dev.flash, boot := s.dev.boot, health := s.dev.health, power := s.dev.power } }

/-- A command that may also advance or set the counters and the network clock; the tick index has three bits, the extended
cycle count 64 (R18). -/
def State.answerClk (s : State) (f : Dev → Dev) : Host.Outcome State Fault Refusal :=
  let d := (f s.found).tellEvent s.dev.event
  .next { s with dev := { d with clk := { d.clk with tick := d.clk.tick % 8, cycle64 := d.clk.cycle64 % 2 ^ 64 } } }

end Sys2Proof.Machine
end

