-- ==== Sys2Proof/Machine/Digest.lean ====
section
/-! DEFINITION. The two checks over byte strings that the spec names: SHAKE256, whose first 128 bits are the digests of
the device (R10, R244, R395, R461), and CRC-32C, as their standards define them (PRESUMED, log 129, safe). -/

namespace Sys2Proof.Machine

/-! ## Keccak-f[1600] and SHAKE256 -/

/-- A lane turned left by `n` of its 64 bits. -/
def rotl64 (x n : Nat) : Nat :=
  let n := n % 64
  (x * 2 ^ n) % 18446744073709551616 + x / 2 ^ (64 - n)

/-- The rotation of each lane, at x + 5 y. -/
def keccakRot : List Nat :=
  [0, 1, 62, 28, 27, 36, 44, 6, 55, 20, 3, 10, 43, 25, 39, 41, 45, 15, 21, 8, 18, 2, 61, 56, 14]

/-- The constants of the 24 rounds. -/
def keccakRc : List Nat :=
  [0x0000000000000001, 0x0000000000008082, 0x800000000000808A, 0x8000000080008000, 0x000000000000808B, 0x0000000080000001,
   0x8000000080008081, 0x8000000000008009, 0x000000000000008A, 0x0000000000000088, 0x0000000080008009, 0x000000008000000A,
   0x000000008000808B, 0x800000000000008B, 0x8000000000008089, 0x8000000000008003, 0x8000000000008002, 0x8000000000000080,
   0x000000000000800A, 0x800000008000000A, 0x8000000080008081, 0x8000000000008080, 0x0000000080000001, 0x8000000080008008]

/-- One round on the 25 lanes. -/
def keccakRound (a : List Nat) (rc : Nat) : List Nat :=
  let g := fun i => a.getD i 0
  let c := (List.range 5).map fun x => g x ^^^ g (x + 5) ^^^ g (x + 10) ^^^ g (x + 15) ^^^ g (x + 20)
  let dl := (List.range 5).map fun x => c.getD ((x + 4) % 5) 0 ^^^ rotl64 (c.getD ((x + 1) % 5) 0) 1
  -- lane (X, Y) of the permuted state comes from lane (x, y) with X = y, Y = 2x + 3y
  let b := (List.range 25).map fun i =>
    let X := i % 5; let Y := i / 5
    let y := X; let x := (X + 3 * Y) % 5
    rotl64 (g (x + 5 * y) ^^^ dl.getD x 0) (keccakRot.getD (x + 5 * y) 0)
  let bg := fun x y => b.getD (x % 5 + 5 * y) 0
  let n := (List.range 25).map fun i =>
    let x := i % 5; let y := i / 5
    bg x y ^^^ ((18446744073709551615 - bg (x + 1) y) &&& bg (x + 2) y)
  match n with
  | h :: t => (h ^^^ rc) :: t
  | [] => []

/-- The permutation. -/
def keccakF (a : List Nat) : List Nat := keccakRc.foldl keccakRound a

/-- Blocks of 136 bytes absorbed. -/
def absorb (fuel : Nat) (st : List Nat) (bs : Bytes) : List Nat :=
  match fuel with
  | 0 => st
  | fuel + 1 =>
    if bs.isEmpty then st
    else
      let blk := bs.take 136
      let st := (List.range 25).map fun i => st.getD i 0 ^^^ (if i < 17 then fieldLE blk (8 * i) 8 else 0)
      absorb fuel (keccakF st) (bs.drop 136)

/-- SHAKE256 padding: 0x1F, zeros, and 0x80 in the last byte of the block. -/
def shakePad (bs : Bytes) : Bytes :=
  let k := 136 - bs.length % 136
  if k = 1 then bs ++ [0x9F] else bs ++ [0x1F] ++ List.replicate (k - 2) 0 ++ [0x80]

/-- The first `n` bytes (at most 136) of SHAKE256 of a byte string. -/
def shake256 (n : Nat) (bs : Bytes) : Bytes :=
  let m := shakePad bs
  ((absorb (m.length / 136) (List.replicate 25 0) m).flatMap (leBytes 8)).take n

/-- A DIGEST128 as the number whose bytes it is, least significant first (R436). -/
def digest128 (bs : Bytes) : Nat := leNat (shake256 16 bs)

/-! ## Components of an image (R470) -/

/-- The component records of an image, the bytes of one, and whether they have the digest it states. -/
def imgComps (b : Bytes) : List Bytes := (List.range (fieldLE b 6 2)).map fun i => slice b (112 + 56 * i) 56
def compKind (c : Bytes) : Nat := fieldLE c 0 1
def compBytes (b c : Bytes) : Bytes := slice b (fieldLE c 4 4) (fieldLE c 8 4)
def compOk (b c : Bytes) : Bool := shake256 32 (compBytes b c) == slice c 24 32

/-! ## CRC-32C -/

/-- One bit of the reflected polynomial 0x82F6_3B78. -/
def crcBit (c : Nat) : Nat := if c % 2 = 1 then (c / 2) ^^^ 0x82F63B78 else c / 2

/-- CRC-32C: initial value and final XOR 0xFFFF_FFFF. -/
def crc32c (bs : Bytes) : Nat :=
  (bs.foldl (fun c b => crcBit (crcBit (crcBit (crcBit (crcBit (crcBit (crcBit (crcBit (c ^^^ b.toNat))))))))) 0xFFFFFFFF) ^^^
    0xFFFFFFFF

end Sys2Proof.Machine
end

