-- ==== Sys2Proof/Config.lean ====
section
/-! DEFINITION. What the spec leaves open: constants without a body, so that nothing can be proved of their values. Each
stands in a row of notes/assumptions. A number argument is the device's count of free values, so that two uses do not
have to agree; the other arguments are the data the value may depend on. -/

namespace Sys2Proof.Config

/-- How far a reported distance of channel A lies below the exact distance of the modelled geometry: a natural number read
modulo 1,001 in thousandths of the bound E_K(c1) + E_K(c2) + 0.032 mm (R154, R552). (DESIGN CHOICE, log 61, safe.) -/
opaque distanceSlackA : Nat → Nat

/-- The same for channel B's recomputation (R187, R552). (PRESUMED, log 62, unsafe.) -/
opaque distanceSlackB : Nat → Nat

/-- The same for the zone checker's tests (R154, R155). (DESIGN CHOICE, log 61, safe.) -/
opaque zoneSlack : Nat → Nat

/-- A coordinate (binary32 code) of the replacement of a source that has no opening: the count of free values, and the
coordinate's number (R170). (DEDUCED, log 66, unsafe.) -/
opaque noOpening : Nat → Nat → Nat

/-- A component of the unit vector between two closest points that coincide, in units of 2^-40: the count of free values,
and the component's number (R172). (DESIGN CHOICE, log 67, safe.) -/
opaque contactNormal : Nat → Nat → Int

/-- The member positions the damped least squares of R110 ends with: link image, pose, seed positions.
(DESIGN CHOICE, log 49, safe.) -/
opaque ikSolution : Bytes → List Int → List Int → List Int

/-- Which of the numbers within 1 LSB of the exact value an injection signal takes (R199).
(DESIGN CHOICE, log 74, safe.) -/
opaque sinusoidLsb : Nat → Nat

/-- What a comparison of an analysis engine with the condition codes 6 and 7 gives: 1 for true (R237).
(DESIGN CHOICE, log 79, safe.) -/
opaque aeCompare : Nat → Nat

/-- The cycles a WAIT stalls (R241). (DESIGN CHOICE, log 79, safe.) -/
opaque aeStall : Nat → Nat

/-- The version a library's image carries (R246). (DESIGN CHOICE, log 131, safe.) -/
opaque libraryVersion : Bytes → Nat

/-- The page at which the SRAM begins, and at which the boot ROM does, with its pages (R253): the spec gives the address map no place
for them. (DESIGN CHOICE, log 170, safe.) -/
opaque sramPage : Nat
opaque romPage : Nat
opaque romPages : Nat

/-- The fabric accesses to a data memory that met one of a running engine in the same cycle: 1 if this one did (R226).
(DESIGN CHOICE, log 164, safe.) -/
opaque bankWait : Nat → Nat

/-- How a number of a frequency response is rounded, and what it is where its divisor is 0: the job's free value, the number's
place; R207 states neither. (DESIGN CHOICE, log 76, safe.) -/
opaque frfRound : Nat → Nat → Nat

/-- Which of the two middle ones of an even count is the median (R208). (DESIGN CHOICE, log 76, safe.) -/
opaque medianPick : Nat → Nat → Nat

/-- The bin offset of a peak whose parabola has no vertex, in millionths (R208). (DESIGN CHOICE, log 76, safe.) -/
opaque vertexFree : Nat → Nat

/-- The damping ratio of an extremum without a half-power width in the bins, as a binary32 code: the job's free value, and 0 for the
resonance or 1 for the antiresonance (R209). (DEDUCED, log 166, safe.) -/
opaque damping : Nat → Nat → Nat

/-- A tracker's frequency estimate of a cycle as a binary32 code (R212).
(DESIGN CHOICE, log 77, safe.) -/
opaque trackEstimate : Nat → Nat
/-- A tracker's in-band RMS of a cycle as a Q1.31 code (R212). (DESIGN CHOICE, log 77, safe.) -/
opaque trackRms : Nat → Nat

/-- Where in the SRAM a capture buffer lies, by the number of the buffer and its set (R204). (DESIGN CHOICE, log 171, safe.) -/
opaque captureBuffer : Nat → Nat

/-- What the module's random generator draws (R397, R480, R491). (DESIGN CHOICE, log 131, safe.) -/
opaque random : Nat → Nat

/-- Which of the free slots an item takes (R263). (DESIGN CHOICE, log 83, safe.) -/
opaque slotPick : Nat → Nat

/-- Which cached translation gives way when the IOMMU's 1,024 are full (R283). (DESIGN CHOICE, log 90, safe.) -/
opaque iotlbVictim : Nat → Nat

/-- Whether a drive status word reports the drive ready: 1 if so (R96). (DESIGN CHOICE, log 173, safe.) -/
opaque driveReady : Nat → Nat

/-- How far into its round a SYNC frame of a slot that the schedule does not hold left, in ns (R320).
(DEDUCED, log 97, unsafe.) -/
opaque adoptPhase : Nat → Nat

/-- The module's own source address (R299). (DESIGN CHOICE, log 101, safe.) -/
opaque ownMac : Nat → Nat

/-- The rate the PTP servo sets, as a deviation in units of 2^-40 (R350): the count of free values, the offset from the master.
(DESIGN CHOICE, log 103, safe.) -/
opaque servoRate : Nat → Int → Int

/-- The module's own clock identity, clock accuracy and variance (R353). (DESIGN CHOICE, log 131, safe.) -/
opaque clockIdentity : Nat → Nat
opaque clockAccuracy : Nat → Nat
opaque clockVariance : Nat → Nat

/-- CONFIG_EPOCH of an expected table: its image has no field for it (R462). (DEDUCED, log 99, safe.) -/
opaque tableEpoch : Bytes → Nat

/-- The cause code of a lockstep mismatch: the spec lists no code for it (R417). (DEDUCED, log 116, safe.) -/
opaque lockstepCause : Nat → Nat

/-- The vendor key digests written at manufacture (R469). (DESIGN CHOICE, log 131, safe.) -/
opaque vendorKey : Nat → Bytes

/-- Whether an XMSS-SHAKE256_20_256 signature is valid: 1 if so; public key, message, signature (R471, R492).
(PRESUMED, log 129, safe.) -/
opaque xmssValid : Bytes → Bytes → Bytes → Nat

/-- The module's XMSS^MT signature with a one-time index (R493, R495). (PRESUMED, log 129, safe.) -/
opaque attestSign : Nat → Bytes → Bytes

/-- The bytes of the retirement table, whose record layout is not stated: UKIND, unit and whether FAILED; UKIND, unit and spare
(R516). (DESIGN CHOICE, log 135, safe.) -/
opaque retirementTable : List (Nat × Nat × Bool) → List (Nat × Nat × Nat) → Bytes

/-- What a counter has counted of an event of its block that this model does not follow (R501). (PRESUMED, log 29, safe.) -/
opaque eventCount : Nat → Nat

/-- The code in ERROR of a host DMA channel that met an error response (R452). (DESIGN CHOICE, log 167, safe.) -/
opaque hostDmaError : Nat → Nat

/-- The address of the region that holds the park frames (`OD 3801.07`), in 64 bytes of the SRAM. (DESIGN CHOICE, log 171, safe.) -/
opaque parkBase : Nat

/-- Whether a safe output's read-back input is high at an acknowledgement (R406): 1 for high; the argument is the count of
free values. (DESIGN CHOICE, log 20, safe.) -/
opaque readbackLevel : Nat → Nat

/-- The numbers the spec gives no value for and a module carries from its manufacture or its boot image: identities of
`OD 1000`, the library of `OD 3500`; the argument is the entry's key (R246, R465). (DESIGN CHOICE, log 131, safe.) -/
opaque factoryNumber : Nat → Nat

/-- The strings and keys a module carries from its manufacture (`OD 1000`, `OD 6060`): the argument is the entry's key.
(DESIGN CHOICE, log 131, safe.) -/
opaque factoryBytes : Nat → Bytes

/-- What an entry shows that reports a measurement no command brings (`OD 1200`, `OD 5802`, `OD 7060`): the entry's key, the
number of the tick. (DESIGN CHOICE, log 136, safe.) -/
opaque measured : Nat → Nat → Nat

end Sys2Proof.Config
end

