-- ==== Sys2Proof/Machine/Plan.lean ====
section
/-! DEFINITION. The jerk-limited plans of the profile engine: velocity changes (R102), rest-to-rest moves (R103),
moves to a target from any present state (R104), and a plan's value at a time. Each named quantity of the formulas is
rounded to binary64 once (R95). A jerk of `none` is unlimited, and the formulas take their J → ∞ form (R100). -/

namespace Sys2Proof.Machine

/-- Velocity and distance reached at the end of one part that starts at velocity `v`. -/
def Piece.endVel (x : Piece) (v : Rat) : Rat := b64 (v + x.acc * x.dur + x.jrk * x.dur * x.dur / 2)
def Piece.dist (x : Piece) (v : Rat) : Rat :=
  b64 (v * x.dur + x.acc * x.dur * x.dur / 2 + x.jrk * x.dur * x.dur * x.dur / 6)

/-- The distance a list of parts covers from velocity `v`, and the velocity it ends with. -/
def partsRun (ps : List Piece) (v : Rat) : Rat × Rat :=
  ps.foldl (fun (s, v) x => (b64 (s + x.dist v), x.endVel v)) (0, v)

/-- The time a list of parts takes. -/
def partsTime (ps : List Piece) : Rat := ps.foldl (fun t x => b64 (t + x.dur)) 0

/-- Whether a plan's time has reached its end: times are compared as binary64 values (R95). (DESIGN CHOICE, log 41, safe.) -/
def ended (length t : Rat) : Bool := decide (length ≤ b64 t)

/-- The parts with every sign inverted. -/
def mirror (ps : List Piece) : List Piece := ps.map fun x => { x with acc := -x.acc, jrk := -x.jrk }

/-- The parts of positive length. -/
def keepParts (ps : List Piece) : List Piece := ps.filter fun x => decide (0 < x.dur)

/-- The velocity change of R102 on the excess `u` of at least 0, with a present acceleration `acc` and a jerk limit;
`fuel` bounds the two continuations the rule names. -/
def excessChange (fuel : Nat) (u acc A J : Rat) : List Piece :=
  match fuel with
  | 0 => []
  | fuel + 1 =>
    if u < 0 then mirror (excessChange fuel (-u) (-acc) A J)
    else
      let half := b64 (acc * acc / (2 * J))
      if acc < 0 ∧ u < half then
        { dur := b64 (-acc / J), acc, jrk := J } :: excessChange fuel (b64 (u - half)) 0 A J
      else
        let am := -(ratMin A (b64Sqrt (J * u + acc * acc / 2)))
        if acc < am then
          let t := b64 ((am - acc) / J)
          { dur := t, acc, jrk := J } ::
            excessChange fuel (b64 (u + (acc * t + J * t * t / 2))) am A J
        else if am = 0 then []
        else
          let t1 := b64 ((acc - am) / J)
          let t2 := ratMax 0 (if am = -A then b64 ((u + (acc * acc - 2 * am * am) / (2 * J)) / (-am)) else 0)
          let t3 := b64 (-am / J)
          keepParts [{ dur := t1, acc, jrk := -J }, { dur := t2, acc := am, jrk := 0 }, { dur := t3, acc := am, jrk := J }]

/-- R102: the parts of a velocity change from the present `(v, acc)` to `vt` within `A` and `J`.
(DESIGN CHOICE, log 41, safe.) -/
def velChange (v acc vt A : Rat) (J : Option Rat) : List Piece :=
  match J with
  | some J => excessChange 4 (b64 (v - vt)) acc A J
  | none =>
    let u := b64 (v - vt)
    keepParts [{ dur := b64 (ratAbs u / A), acc := if 0 ≤ u then -A else A, jrk := 0 }]

/-- R103: the time needed to reach velocity `v` from rest. -/
def rampTime (v A : Rat) (J : Option Rat) : Rat :=
  match J with
  | none => b64 (v / A)
  | some J => if A * A / J ≤ v then b64 (v / A + A / J) else b64 (2 * b64Sqrt (v / J))

/-- R103: the peak velocity of a rest-to-rest move of length `L` that does not cruise. -/
def peakVel (L A : Rat) (J : Option Rat) : Rat :=
  match J with
  | none => b64Sqrt (A * L)
  | some J =>
    if 2 * A * A * A / (J * J) ≤ L then
      b64 ((b64 (-(A * A / J)) + b64Sqrt (A * A * A * A / (J * J) + 4 * A * L)) / 2)
    else b64Cbrt (J * L * L / 4)

/-- R103: the parts of a rest-to-rest move of length `L`. (DESIGN CHOICE, log 41, safe.) -/
def restToRest (L V A : Rat) (J : Option Rat) : List Piece :=
  if L ≤ 0 then []
  else if V * rampTime V A J ≤ L then
    velChange 0 0 V A J ++ keepParts [{ dur := b64 ((L - V * rampTime V A J) / V), acc := 0, jrk := 0 }] ++
      velChange V 0 0 A J
  else
    let vp := peakVel L A J
    velChange 0 0 vp A J ++ velChange vp 0 0 A J

/-- The distance of R104's first and last parts for a peak velocity `vp`. -/
def peakTravel (v acc vp A : Rat) (J : Option Rat) : Rat :=
  (partsRun (velChange v acc vp A J) v).1 + (partsRun (velChange vp 0 0 A J) vp).1

/-- R104: the largest peak velocity in `[lo, hi]` whose first and last parts fit the distance, by bisection to 2^-32
base units per second. -/
def bisectPeak (fuel : Nat) (dist v acc A : Rat) (J : Option Rat) (lo hi : Rat) : Rat :=
  match fuel with
  | 0 => lo
  | fuel + 1 =>
    if hi - lo ≤ pow2 (-32) then lo
    else
      let mid := b64 ((lo + hi) / 2)
      if peakTravel v acc mid A J ≤ dist then bisectPeak fuel dist v acc A J mid hi
      else bisectPeak fuel dist v acc A J lo mid

/-- R104: the parts of a move over `dist` from the present `(v, acc)`, the target ahead in the positive direction. -/
def aheadParts (dist v acc V A : Rat) (J : Option Rat) : List Piece :=
  let vp := if peakTravel v acc V A J ≤ dist then V else bisectPeak 100 dist v acc A J 0 V
  let rest := dist - peakTravel v acc vp A J
  velChange v acc vp A J ++
    (if 0 < vp ∧ 0 < rest then [{ dur := b64 (rest / vp), acc := 0, jrk := 0 }] else []) ++
    velChange vp 0 0 A J

/-- What a plan to a target is (R104): its parts and the amount by which its stop overshoots (0 for none). -/
structure MovePlan where
  parts : List Piece
  past  : Rat
deriving DecidableEq, Repr

/-- R104 for a displacement `dist` from the present `(v, acc)`. -/
def movePlan (dist v acc V A : Rat) (J : Option Rat) : MovePlan :=
  let stop := velChange v acc 0 A J
  let sp := (partsRun stop v).1
  let dir : Int := if v = 0 ∧ acc = 0 then (if dist < 0 then -1 else 1)
    else if v = 0 then (if acc < 0 then -1 else 1) else if v < 0 then -1 else 1
  if v = 0 ∧ acc = 0 then
    { parts := if dist < 0 then mirror (restToRest (-dist) V A J) else restToRest dist V A J, past := 0 }
  else if 0 ≤ dir * (dist - sp) then
    { parts := if dir < 0 then mirror (aheadParts (-dist) (-v) (-acc) V A J) else aheadParts dist v acc V A J, past := 0 }
  else
    let back := restToRest (ratAbs (sp - dist)) V A J
    { parts := stop ++ (if dist < sp then mirror back else back), past := ratAbs (sp - dist) }

/-- Displacement, velocity and acceleration after `t` seconds of a list of parts, and the time left over. -/
def partsAt (ps : List Piece) (v t s : Rat) : Rat × Rat × Rat × Rat :=
  match ps with
  | [] => (s, v, 0, t)
  | x :: r =>
    if t < x.dur then
      let y := { x with dur := t }
      (b64 (s + y.dist v), y.endVel v, b64 (x.acc + x.jrk * t), 0)
    else partsAt r (x.endVel v) (t - x.dur) (b64 (s + x.dist v))

/-- How long a plan takes. -/
def Plan.time (p : Plan) : Rat := partsTime p.parts

/-- The set-point, velocity and acceleration codes a plan emits at time `t` (R95): from its end on, the target with
velocity and acceleration 0, or the tail velocity where it has no end. (DESIGN CHOICE, log 41, safe.) -/
def Plan.emit (p : Plan) (t : Rat) : Int × Int × Int :=
  match p.final with
  | some f =>
    if ended p.time t then (f, 0, 0)
    else
      let (s, v, acc, _) := partsAt p.parts p.v0 t 0
      (p.p0 + toFix s, toFix v, toFix acc)
  | none =>
    let (s, v, acc, left) := partsAt p.parts p.v0 t 0
    if ended p.time t then (p.p0 + toFix (b64 (s + p.tail * left)), toFix p.tail, 0)
    else (p.p0 + toFix s, toFix v, toFix acc)

/-- The parts of a stop from a present state (R102), and the displacement to its stop point. -/
def stopParts (v acc A : Rat) (J : Option Rat) : List Piece × Rat :=
  let ps := velChange v acc 0 A J
  (ps, (partsRun ps v).1)

/-- A stop as a plan from the set-point code `p`. -/
def stopPlan (p : Int) (v acc A : Rat) (J : Option Rat) : Plan :=
  let (parts, s) := stopParts v acc A J
  { p0 := p, v0 := v, parts, final := some (p + toFix s) }

end Sys2Proof.Machine
end

