-- ==== Sys2Proof/Machine/React.lean ====
section
/-! DEFINITION. Axis states and the fault reactions (R14 to R16, R96, R551): the limits in force, starting a plan or a
stop, removing torque, the stop of a chain when a member leaves its path, and carrying out a demanded reaction. -/

namespace Sys2Proof.Machine

/-! ## Codes of axis states and reactions -/

abbrev AxState.disabled : Nat := 0
abbrev AxState.ready : Nat := 1
abbrev AxState.enabled : Nat := 2
abbrev AxState.moving : Nat := 3
abbrev AxState.stopping : Nat := 4
abbrev AxState.test : Nat := 5
abbrev AxState.fault : Nat := 6

/-- The reactions as `AX[n].14` codes them (R90). -/
abbrev Reaction.none : Nat := 0
abbrev Reaction.warn : Nat := 1
abbrev Reaction.hold : Nat := 2
abbrev Reaction.qstop : Nat := 3
abbrev Reaction.ss1 : Nat := 4
abbrev Reaction.sto : Nat := 5
abbrev Reaction.ss2 : Nat := 6

/-- The rank of a reaction from least to most severe (R15; SS2 ranks between QSTOP and SS1, R90). (DEDUCED, log 57, safe.) -/
def severity (r : Nat) : Nat := if r = 6 then 4 else if 4 ≤ r then r + 1 else r

/-- The state of an axis (R128). -/
def Dev.axState (d : Dev) (n : Nat) : Nat := d.nat (Reg.AX1_STATE n)
def Dev.setAxState (d : Dev) (n st : Nat) : Dev := d.set (Reg.AX1_STATE n) st

/-- Whether the loops of an axis are closed: ENABLED, MOVING, STOPPING, TEST, and FAULT after a stop that kept them
closed (R96). (DEDUCED, log 38, unsafe.) -/
def Dev.closed (d : Dev) (n : Nat) : Bool :=
  let st := d.axState n
  (2 ≤ st && st ≤ 5) || (st == 6 && !(d.axis n).loopsOff)

/-- A limit of `AX[n].2` or `AX[n].3` as it is in force: a write takes effect at the next command latch (R101). -/
def Dev.limit (d : Dev) (n k : Nat) : Int := ((d.axis n).limKeep.lookup k).getD (d.reg k)

/-- A setting of `AX[n].7` or `AX[n].10` that applies without validation: a write takes effect from the next tick (R86, R89). -/
def Dev.setting (d : Dev) (n k : Nat) : Int :=
  match (d.axis n).settings.find? fun (j, t, _) => j == k && t == d.tickAbs with
  | some (_, _, v) => v
  | none => d.reg k

/-- Such a setting written. -/
def Dev.settingWrite (d : Dev) (n k : Nat) (v : Int) : Dev :=
  let now := d.tickAbs
  let old := d.reg k
  let d := d.modAxis n fun a =>
    let l := a.settings.filter fun (_, t, _) => t == now
    { a with settings := if l.any fun (j, _, _) => j == k then l else (k, now, old) :: l }
  (d.set k v).finish Code.STATUS_OK

def Dev.vMax (d : Dev) (n : Nat) : Rat := fix (d.limit n (Reg.AX2_V_MAX n))
def Dev.aMax (d : Dev) (n : Nat) : Rat := fix (d.limit n (Reg.AX2_A_MAX n))

/-- A jerk limit: 0 is unlimited (R100, R129, R130). -/
def jerkOf (code : Int) : Option Rat := if code = 0 then none else some (fix code)
def Dev.jMax (d : Dev) (n : Nat) : Option Rat := jerkOf (d.limit n (Reg.AX2_J_MAX n))
def Dev.emDec (d : Dev) (n : Nat) : Rat := fix (d.limit n (Reg.AX3_EM_DEC n))
def Dev.emJerk (d : Dev) (n : Nat) : Option Rat := jerkOf (d.limit n (Reg.AX3_EM_JERK n))

/-- The present state of a generator (R93): what it emitted at its last run. (DEDUCED, log 43, safe.) -/
def Dev.setpoint (d : Dev) (n : Nat) : Int := d.reg (Reg.AX5_SETPOINT n)
def Dev.setVel (d : Dev) (n : Nat) : Rat := fix (d.reg (Reg.AX5_SET_VEL n))
def Dev.setAcc (d : Dev) (n : Nat) : Rat := fix (d.reg (Reg.AX5_SET_ACC n))

/-- A generator's emitted state changed. -/
def Dev.emit (d : Dev) (n : Nat) (p v a : Int) : Dev :=
  ((d.set (Reg.AX5_SETPOINT n) p).set (Reg.AX5_SET_VEL n) v).set (Reg.AX5_SET_ACC n) a

/-- The measured position of an axis as the feedback image shows it, with the position offset (R22, R120). -/
def Dev.measured (d : Dev) (n : Nat) : Int := (d.axis n).fb.pos.val + (d.axis n).offset

/-- Whether a generator stands still. -/
def Dev.atRest (d : Dev) (n : Nat) : Bool := d.reg (Reg.AX5_SET_VEL n) == 0 && d.reg (Reg.AX5_SET_ACC n) == 0

/-- Whether the plan of an axis has reached its end (R95). -/
def Dev.planDone (d : Dev) (n : Nat) : Bool :=
  match (d.axis n).plan with
  | some p => p.final.isSome && ended p.time (d.axis n).planT
  | none => true

/-! ## Plans and stops -/

/-- The tick in which a ramp demanded now begins, and the raw count of its SI: this tick up to the command latch, else the
next (R21, R393). (DEDUCED, log 73, safe.) -/
def Dev.rampTick (d : Dev) : Nat := if d.ph.off ≤ 2000 then d.tickAbs else d.tickAbs + 1
def Dev.rampSi (d : Dev) : Nat := if d.ph.off ≤ 2000 then d.clk.raw else d.clk.raw + 31250

/-- A plan started on an axis from plan time 0. -/
def Dev.startPlan (d : Dev) (n : Nat) (m : Motion) (p : Plan) : Dev :=
  d.modAxis n fun a => { a with plan := some p, planT := 0, motion := m, replan := false,
                                rampAt := if m = .ramp then d.rampTick else a.rampAt,
                                rampRaw := if m = .ramp then d.rampSi else a.rampRaw, rampBy := 0 }

/-- A stop by R102 with limits of its own; once begun, the emergency ramp ends only at standstill or STO (R106). -/
def Dev.startStop (d : Dev) (n : Nat) (A : Rat) (J : Option Rat) : Dev :=
  if (d.axis n).motion = .ramp then d
  else d.startPlan n .plan (stopPlan (d.setpoint n) (d.setVel n) (d.setAcc n) A J)

/-- The stop with A_MAX and J_MAX. -/
def Dev.normalStop (d : Dev) (n : Nat) : Dev := d.startStop n (d.aMax n) (d.jMax n)

/-- A ramp that begins where no member of the chain has begun one in this tick begins a stop to be measured: torque removed
before it does not count against it (R184). -/
def Dev.freshStop (d : Dev) (n : Nat) : Dev :=
  match d.chainOf n with
  | some c =>
    d.when ((d.members c).all fun k => (d.axis k).rampAt != d.rampTick) fun d => d.modChain c fun x => { x with stopBad := false }
  | none => d

/-- The emergency ramp (R106). -/
def Dev.emergencyRamp (d : Dev) (n : Nat) : Dev :=
  if (d.axis n).motion = .ramp then d
  else
    let d := d.freshStop n
    (d.startPlan n .ramp (stopPlan (d.setpoint n) (d.setVel n) (d.setAcc n) (d.emDec n) (d.emJerk n))).setAxSafe n
      { d.axSafe n with v0 := none }

/-- The set-point laid on the measured position with the generator at rest (R96). -/
def Dev.holdMeasured (d : Dev) (n : Nat) : Dev :=
  ((d.emit n (d.measured n) 0 0).set (Reg.AX5_ACTIVE_CMD n) 0).modAxis n fun a =>
    { a with plan := none, planT := 0, adv := 0, motion := .rest, baseTgt := none, stopWhy := .none, softStop := false,
             replan := false, reactNow := 0, reactNext := none }

/-- An injection running on an axis ends in ABORTED in the same tick (R198). (DEDUCED, log 78, safe.) -/
def Dev.abortInjection (d : Dev) (n : Nat) : Dev :=
  iterate 16 (fun g d =>
    if (d.injGen g).running && d.nat (Reg.R3430_AXIS g) == n then
      let d := d.setGen g { d.injGen g with running := false, last := 0 }
      let d := (d.set (Reg.R3430_STATE g) 4).set (Reg.R3430_STATUS g) Code.INJECTION_ABORTED
      (d.set (Reg.AX13_INJ_GEN n) 0xFF).raise Code.INJECTION_ABORTED Kind.other 0 0 g
    else d) d

/-- Homing abandoned (R119). -/
def Dev.abandonHoming (d : Dev) (n : Nat) : Dev := d.set (Reg.AX11_HOME_STATE n) 0

/-! ## Chains whose members leave the path -/

/-- Whether a chain executes a segment (R108). -/
def Dev.executing (d : Dev) (c : Nat) : Bool := (d.chain c).cur.isSome

/-- A chain's queue discarded as under ABORT with λ at 0 at once; CONTROL reads 2 from then on (R113). -/
def Dev.discardQueue (d : Dev) (c : Nat) : Dev :=
  (d.modChain c fun x => { x with queue := [], cur := none, next := none, aborting := false, lambda := 0 }).set
    (Reg.CH5_CONTROL c) 2

/-- QUICK_STOP as a command (R99) on one axis with closed loops. -/
def Dev.quickStopAxis (d : Dev) (n : Nat) : Dev :=
  let d := (d.abortInjection n).abandonHoming n
  let d := d.emergencyRamp n
  (d.setAxState n AxState.stopping).modAxis n fun a => { a with stopWhy := .quick, softStop := false }

/-- R551: a member leaves the path of an executing chain. (DEDUCED, log 56, safe.) -/
def Dev.chainStop (d : Dev) (n : Nat) : Dev :=
  match d.chainOf n with
  | none => d
  | some c =>
    if d.executing c then
      let d := d.discardQueue c
      each ((d.members c).filter (· ≠ n)) (fun m d =>
        if d.axState m = AxState.moving ∨ d.axState m = AxState.test then d.quickStopAxis m else d) d
    else d

/-! ## Reactions -/

/-- Torque removed from an axis at once (R15, R96): output 0, loops open, FAULT. (DEDUCED, log 38, unsafe.) -/
def Dev.cutTorque (d : Dev) (n code : Nat) : Dev :=
  let d := d.abortInjection n
  let d := (d.abandonHoming n).setAxState n AxState.fault
  let d := (d.set (Reg.AX1_FAULT_CODE n) code).set (Reg.R5080_SAFE_STATE n) 4
  let d := d.modAxis n fun a =>
    { a with loopsOff := true, plan := none, motion := .rest, softStop := false, stopWhy := .none, reactNow := 0,
             reactNext := none, baseTgt := none,
             cur := { a.cur with out := 0, outD := 0 }, velL := { a.velL with out := 0 },
             posL := { a.posL with out := 0 }, auxL := { a.auxL with out := 0 } }
  let d := ((d.set (Reg.AX5_SET_VEL n) 0).set (Reg.AX5_SET_ACC n) 0).set (Reg.AX5_ACTIVE_CMD n) 0
  let d := d.setAxSafe n { d.axSafe n with stopKind := 0, pRef := none, blind := false, atRest := false }
  match d.chainOf n with
  | some c => d.modChain c fun x => { x with stopBad := true, meas := x.meas.map fun m => { m with bad := m.bad || m.ended.isNone } }
  | none => d

/-- The measured velocity of an axis in 32.32 as its loops use it (R71). -/
def Dev.measuredVel (d : Dev) (n : Nat) : Int :=
  if d.setting n (Reg.AX10_VEL_SRC n) = 1 then (d.axis n).vel71 else (d.axis n).fb.vel.val

/-- A reaction of rank HOLD or above carried out on an axis with closed loops (R15, R96). -/
def Dev.carryOut (d : Dev) (n code r : Nat) : Dev :=
  let d := (d.set (Reg.AX1_REACTION n) r).modAxis n fun a =>
    { a with reactNow := r, reactTick := d.tickAbs, cause := code }
  if r = Reaction.sto then (d.cutTorque n code).chainStop n
  else
    let d := (d.abortInjection n).abandonHoming n
    let began := decide ((d.axis n).motion ≠ .ramp ∨ (d.axis n).rampAt = d.rampTick)
    let d := if r = Reaction.hold then d.normalStop n else d.emergencyRamp n
    let d := d.when (began && r != Reaction.hold) fun d => d.modAxis n fun a => { a with rampBy := r }
    let d := (d.setAxState n AxState.stopping).modAxis n fun a =>
      { a with stopWhy := .reaction r, softStop := false, command := none }
    let d := d.when (r == Reaction.ss1 || r == Reaction.ss2) fun d =>
      (d.setAxSafe n { d.axSafe n with stopKind := r, chainStp := false, still := 0, atRest := false, blind := false }).set
        (Reg.R5080_SAFE_STATE n) (if r = Reaction.ss1 then 1 else 2)
    d.chainStop n

/-- A demanded reaction on an axis (R16, R96): in DISABLED it is only logged, in FAULT only STO still opens closed
loops, in READY it is carried out as STO; over a reaction in progress a more severe one of the same tick replaces it,
one of a later tick takes over from the next tick, any other is only logged. (DEDUCED, log 57, safe.) -/
def Dev.react (d : Dev) (n code r : Nat) : Dev :=
  let st := d.axState n
  let a := d.axis n
  if severity r ≤ severity Reaction.warn then d
  else if st = AxState.disabled then d
  else if st = AxState.fault then
    if r = Reaction.sto ∧ a.loopsOff = false then (d.set (Reg.AX1_REACTION n) r).cutTorque n code else d
  else if st = AxState.ready then
    ((d.set (Reg.AX1_REACTION n) r).modAxis n fun a => { a with reactTick := d.tickAbs, cause := code }).cutTorque n code
  else if a.reactNow = 0 then d.carryOut n code r
  else if severity r ≤ severity a.reactNow then d
  else if a.reactTick = d.tickAbs then d.carryOut n code r
  else
    d.modAxis n fun a =>
      match a.reactNext with
      | some (_, r') => if severity r ≤ severity r' then a else { a with reactNext := some (code, r) }
      | none => { a with reactNext := some (code, r) }

/-- The reactions that take over from this tick on (R16). (DEDUCED, log 57, safe.) -/
def Dev.reactionsDue (d : Dev) : Dev :=
  each (d.axes.map Prod.fst) (fun n d =>
    match (d.axis n).reactNext with
    | some (code, r) => (d.modAxis n fun a => { a with reactNext := none }).carryOut n code r
    | none => d) d

/-- A code raised for an axis with the reaction it demands: the record names the reaction, then it is carried out. -/
def Dev.fault (d : Dev) (n code r : Nat) (detail : Nat := 0) : Dev :=
  (d.raise code Kind.axis n r detail).react n code r

/-- A reaction on every member of a chain. -/
def Dev.reactChain (d : Dev) (c code r : Nat) : Dev := each (d.members c) (fun n d => d.react n code r) d

end Sys2Proof.Machine
end

