-- ==== Sys2Proof/Machine/GeomMath.lean ====
section
/-! DEFINITION. The arithmetic of the cell model: vectors, rotations and frames in fixed point with 40 fractional bits
(the order of operations inside the units is not specified, R552; this model computes the modelled geometry itself and
bounds what is reported, R153, R154), and the frames of a chain (R137). -/

namespace Sys2Proof.Machine

/-! ## Fixed point with 40 fractional bits -/

/-- One. -/
abbrev fx1 : Int := 1099511627776

/-- The product of two fixed-point numbers. -/
def fxMul (a b : Int) : Int := (a * b).fdiv fx1

/-- The fixed-point number nearest to a rational. -/
def fxOf (q : Rat) : Int := ratConv (q * fx1)

/-- A fixed-point number as a rational. -/
def fxRat (a : Int) : Rat := (a : Rat) / fx1

/-- The fixed-point number of a binary32 code; 0 for codes that are not finite. -/
def fxF32 (code : Nat) : Int := fxOf ((f32Val code).getD 0)

/-- The square root of a non-negative fixed-point number. -/
def fxSqrt (a : Int) : Int := ((a.toNat * 1099511627776).sqrt : Nat)

/-- sine and cosine of a small angle in radians by their series, up to the fifteenth power. -/
def fxSeries (x : Int) : Int × Int :=
  let x2 := fxMul x x
  let step := fun (acc : Int) (n : Int) => fx1 - (fxMul x2 acc).fdiv (n * (n + 1))
  let s := fxMul x (step (step (step (step (step (step (step fx1 14) 12) 10) 8) 6) 4) 2)
  let c := step (step (step (step (step (step (step fx1 13) 11) 9) 7) 5) 3) 1
  (s, c)

/-- sine and cosine of an angle given in turns. -/
def fxSinCos (turns : Int) : Int × Int :=
  let q := (4 * turns + fx1 / 2).fdiv fx1
  let r := turns - (q * fx1).fdiv 4
  let (s, c) := fxSeries (fxMul 6908435304715 r)
  match (q % 4).toNat with
  | 0 => (s, c) | 1 => (c, -s) | 2 => (-s, -c) | _ => (-c, s)

/-- The angle in turns, within [0, 1/4], whose cosine is `w` (0 to 1), by bisection. -/
def fxAcos (fuel : Nat) (w lo hi : Int) : Int :=
  match fuel with
  | 0 => lo
  | fuel + 1 =>
    let mid := (lo + hi).fdiv 2
    if w ≤ (fxSinCos mid).2 then fxAcos fuel w mid hi else fxAcos fuel w lo mid

/-! ## Vectors and rotations -/

abbrev Vec3 := List Int

def vget (v : Vec3) (i : Nat) : Int := v.getD i 0
def vadd (a b : Vec3) : Vec3 := (List.range 3).map fun i => vget a i + vget b i
def vsub (a b : Vec3) : Vec3 := (List.range 3).map fun i => vget a i - vget b i
def vscale (k : Int) (a : Vec3) : Vec3 := (List.range 3).map fun i => fxMul k (vget a i)
def vdot (a b : Vec3) : Int := (vget a 0 * vget b 0 + vget a 1 * vget b 1 + vget a 2 * vget b 2).fdiv fx1
def vcross (a b : Vec3) : Vec3 :=
  [fxMul (vget a 1) (vget b 2) - fxMul (vget a 2) (vget b 1), fxMul (vget a 2) (vget b 0) - fxMul (vget a 0) (vget b 2),
   fxMul (vget a 0) (vget b 1) - fxMul (vget a 1) (vget b 0)]

/-- The length of a vector. -/
def vnorm (a : Vec3) : Int :=
  ((vget a 0 * vget a 0 + vget a 1 * vget a 1 + vget a 2 * vget a 2).toNat.sqrt : Nat)

/-- A rotation matrix (nine numbers by rows) times a vector. -/
def mvec (m : List Int) (v : Vec3) : Vec3 :=
  (List.range 3).map fun i =>
    (m.getD (3 * i) 0 * vget v 0 + m.getD (3 * i + 1) 0 * vget v 1 + m.getD (3 * i + 2) 0 * vget v 2).fdiv fx1

/-- The transposed rotation times a vector. -/
def mtvec (m : List Int) (v : Vec3) : Vec3 :=
  (List.range 3).map fun i =>
    (m.getD i 0 * vget v 0 + m.getD (3 + i) 0 * vget v 1 + m.getD (6 + i) 0 * vget v 2).fdiv fx1

/-- The product of two rotations. -/
def mmul (a b : List Int) : List Int :=
  (List.range 9).map fun k =>
    let i := k / 3; let j := k % 3
    (a.getD (3 * i) 0 * b.getD j 0 + a.getD (3 * i + 1) 0 * b.getD (3 + j) 0 + a.getD (3 * i + 2) 0 * b.getD (6 + j) 0).fdiv
      fx1

/-- The rotation of a quaternion (w, x, y, z) of any length other than 0 (accepted quaternions are renormalised,
R147). -/
def quatMat (q : List Int) : List Int :=
  let n2 := (q.foldl (fun s x => s + x * x) 0)
  let m := fun (a b : Int) => if n2 = 0 then 0 else (2 * a * b * fx1).fdiv n2
  let w := q.getD 0 0; let x := q.getD 1 0; let y := q.getD 2 0; let z := q.getD 3 0
  [fx1 - m y y - m z z, m x y - m w z, m x z + m w y,
   m x y + m w z, fx1 - m x x - m z z, m y z - m w x,
   m x z - m w y, m y z + m w x, fx1 - m x x - m y y]

/-- A rotation about local z by an angle in turns. -/
def rotZ (turns : Int) : List Int :=
  let (s, c) := fxSinCos turns
  [c, -s, 0, s, c, 0, 0, 0, fx1]

/-- The identity frame. -/
def Frame.id : Frame := { t := [0, 0, 0], r := [fx1, 0, 0, 0, fx1, 0, 0, 0, fx1] }

/-- One frame after another. -/
def Frame.mul (a b : Frame) : Frame := { t := vadd a.t (mvec a.r b.t), r := mmul a.r b.r }

/-- A point of a frame in the cell frame. -/
def Frame.point (f : Frame) (p : Vec3) : Vec3 := vadd f.t (mvec f.r p)

/-- Three binary32 numbers of an image. -/
def vecAt (b : Bytes) (off : Nat) : Vec3 := (List.range 3).map fun i => fxF32 (fieldLE b (off + 4 * i) 4)
/-- Four binary32 numbers of an image. -/
def quatAt (b : Bytes) (off : Nat) : List Int := (List.range 4).map fun i => fxF32 (fieldLE b (off + 4 * i) 4)

/-! ## The frames of a chain (R137, R138) -/

/-- The offset of link record `i` in a link table, and of the tool record of a payload class. -/
def linkOff (i : Nat) : Nat := 8 + 40 * i
def toolOff (n payload : Nat) : Nat := 8 + 40 * n + 32 * payload

/-- A joint's motion J_i (R137) for a position code `q`. -/
def jointFrame (tab : Bytes) (i : Nat) (q : Int) : Frame :=
  let o := linkOff i
  let x := sfieldLE tab (o + 2) 1 * (q + sfieldLE tab (o + 32) 8) * 256
  if fieldLE tab o 1 = 1 then { t := [0, 0, 0], r := rotZ x } else { t := [0, 0, x], r := Frame.id.r }

/-- F_i from F_(i-1) (R137). -/
def linkFrame (tab : Bytes) (i : Nat) (q : Int) (prev : Frame) : Frame :=
  let o := linkOff i
  (prev.mul { t := vecAt tab (o + 4), r := quatMat (quatAt tab (o + 16)) }).mul (jointFrame tab i q)

/-- All n + 2 frames from a base, a link table, member positions and a payload class (R137). -/
def chainFrames (base tab : Bytes) (qs : List Int) (payload : Nat) : List Frame :=
  let n := fieldLE tab 0 1
  let f0 : Frame := { t := vecAt base 0, r := quatMat (quatAt base 12) }
  let fs := (List.range n).foldl (fun fs i => fs ++ [linkFrame tab i (qs.getD i 0) (fs.getLastD Frame.id)]) [f0]
  let o := toolOff n payload
  fs ++ [(fs.getLastD Frame.id).mul { t := vecAt tab o, r := quatMat (quatAt tab (o + 12)) }]

/-- The frames of chain `c` at member positions, in the active geometry bank. -/
def Dev.framesAt (d : Dev) (c : Nat) (qs : List Int) (payload : Nat) : List Frame :=
  chainFrames (d.bytes (act (Reg.CH2_BASE c))) (d.bytes (act (Reg.CH3_LINKS c))) qs payload

/-- The payload class in force: that of the segment in progress, otherwise `CH[c].1.02` (R140). -/
def Dev.payload (d : Dev) (c : Nat) : Nat :=
  match (d.chain c).cur with
  | some s => fieldLE s.image 4 1
  | none => d.nat (Reg.CH1_PAYLOAD c)

/-! ## Quaternions of LINEAR segments (R110) -/

def quatMul (a b : List Int) : List Int :=
  let g := fun (l : List Int) i => l.getD i 0
  [fxMul (g a 0) (g b 0) - fxMul (g a 1) (g b 1) - fxMul (g a 2) (g b 2) - fxMul (g a 3) (g b 3),
   fxMul (g a 0) (g b 1) + fxMul (g a 1) (g b 0) + fxMul (g a 2) (g b 3) - fxMul (g a 3) (g b 2),
   fxMul (g a 0) (g b 2) - fxMul (g a 1) (g b 3) + fxMul (g a 2) (g b 0) + fxMul (g a 3) (g b 1),
   fxMul (g a 0) (g b 3) + fxMul (g a 1) (g b 2) - fxMul (g a 2) (g b 1) + fxMul (g a 3) (g b 0)]

def quatConj (a : List Int) : List Int := [a.getD 0 0, -(a.getD 1 0), -(a.getD 2 0), -(a.getD 3 0)]

/-- A quaternion made to have length 1. -/
def quatNorm (q : List Int) : List Int :=
  let n : Int := ((q.foldl (fun s x => s + x * x) 0).toNat.sqrt : Nat)
  if n = 0 then [fx1, 0, 0, 0] else q.map fun x => (x * fx1).fdiv n

/-- The relative rotation from `a` to `b` on the shorter way, and half its angle in turns. -/
def quatRel (a b : List Int) : List Int × Int :=
  let r := quatNorm (quatMul (quatConj (quatNorm a)) (quatNorm b))
  let r := if r.getD 0 0 < 0 then r.map (- ·) else r
  (r, fxAcos 40 (r.getD 0 0) 0 (fx1 / 4))

/-- The rotation by the fraction `f` of a relative rotation with half angle `h` (spherical interpolation). -/
def quatPart (r : List Int) (h f : Int) : List Int :=
  let v : Vec3 := [r.getD 1 0, r.getD 2 0, r.getD 3 0]
  let n := vnorm v
  let (s, c) := fxSinCos (fxMul h f)
  if n = 0 then [fx1, 0, 0, 0] else c :: v.map fun x => (x * s).fdiv n

/-- The quaternion of a rotation matrix (largest of the four ways for a good division). -/
def matQuat (m : List Int) : List Int :=
  let g := fun i => m.getD i 0
  let tr := g 0 + g 4 + g 8
  if 0 < tr then
    let s := 2 * fxSqrt (tr + fx1)
    [s.fdiv 4, ((g 7 - g 5) * fx1).fdiv s, ((g 2 - g 6) * fx1).fdiv s, ((g 3 - g 1) * fx1).fdiv s]
  else if g 4 < g 0 ∧ g 8 < g 0 then
    let s := 2 * fxSqrt (fx1 + g 0 - g 4 - g 8)
    [((g 7 - g 5) * fx1).fdiv s, s.fdiv 4, ((g 1 + g 3) * fx1).fdiv s, ((g 2 + g 6) * fx1).fdiv s]
  else if g 8 < g 4 then
    let s := 2 * fxSqrt (fx1 + g 4 - g 0 - g 8)
    [((g 2 - g 6) * fx1).fdiv s, ((g 1 + g 3) * fx1).fdiv s, s.fdiv 4, ((g 5 + g 7) * fx1).fdiv s]
  else
    let s := 2 * fxSqrt (fx1 + g 8 - g 0 - g 4)
    [((g 3 - g 1) * fx1).fdiv s, ((g 2 + g 6) * fx1).fdiv s, ((g 5 + g 7) * fx1).fdiv s, s.fdiv 4]

end Sys2Proof.Machine
end

