-- ==== Sys2Proof/Machine/Profile.lean ====
section
/-! DEFINITION. The axis generators (spec/03): the control word (R96, R97), acceptance and taking of commands (R98 to
R104), the tracking limiter (R114 to R118), soft limits (R105), a generator's run (R93 to R95), and the ends of plans
and stops. Homing's own transitions stand in Homing.lean. -/

namespace Sys2Proof.Machine

/-! ## The loop structure as the profile engine needs it -/

/-- The POS divisor and phase of an axis (R61, R62); a divisor of 0 counts as 1. -/
def Dev.posDiv (d : Dev) (n : Nat) : Nat := max 1 (d.nat (act (Reg.AX7_DIV_POS n)))

/-- Whether the POS level of an axis runs in the present tick (R62). -/
def Dev.posRuns (d : Dev) (n : Nat) : Bool :=
  (d.clk.tick + 8 * d.posDiv n - d.nat (act (Reg.AX7_PHASE_POS n))) % d.posDiv n == 0

/-- The position-loop period Tp in seconds (R93). -/
def Dev.posPeriod (d : Dev) (n : Nat) : Rat := (d.posDiv n : Rat) / 32000

/-! ## Parameters (R100) -/

/-- The effective jerk: the smaller of JERK and J_MAX, 0 in either meaning unlimited. (DEDUCED, log 58, safe.) -/
def Dev.effJerk (d : Dev) (n : Nat) (jerk : Int) : Option Rat :=
  match jerkOf jerk, d.jMax n with
  | some a, some b => some (ratMin a b)
  | some a, none => some a
  | none, j => j

/-- A magnitude clipped to its limit, 0 meaning the limit; whether it was clipped. -/
def clipMag (code : Int) (limit : Rat) : Rat × Bool :=
  let m := ratAbs (fix code)
  if m = 0 then (limit, false) else if limit < m then (limit, true) else (m, false)

/-- The signed velocity of VELOCITY clipped to ±V_MAX. -/
def clipVel (code : Int) (limit : Rat) : Rat × Bool :=
  let v := fix code
  if limit < ratAbs v then (if v < 0 then -limit else limit, true) else (v, false)

/-! ## Flags of `AX[n].5.07` (R132) -/

abbrev Flag.inTarget : Nat := 1
abbrev Flag.overshoot : Nat := 2
abbrev Flag.softRamp : Nat := 4
abbrev Flag.softStop : Nat := 8
abbrev Flag.followLimited : Nat := 16
abbrev Flag.clipped : Nat := 32
abbrev Flag.locked : Nat := 64
/-- The flags that describe the command being executed. -/
abbrev Flag.ofCommand : Nat := 0x2F

def Dev.addFlags (d : Dev) (n f : Nat) : Dev := d.orBits (Reg.AX5_FLAGS n) f
def Dev.dropFlags (d : Dev) (n f : Nat) : Dev := d.clearBits (Reg.AX5_FLAGS n) f

/-! ## Soft limits (R101, R105) -/

/-- Soft limits apply while SOFT_EN is set and the axis is referenced, and not while homing runs (R101). -/
def Dev.softOn (d : Dev) (n : Nat) : Bool :=
  d.limit n (Reg.AX2_SOFT_EN n) != 0 && d.flag (Reg.AX11_HOMED n) && d.nat (Reg.AX11_HOME_STATE n) == 0

/-- Whether a position lies inside the soft limits, which are inclusive (R101). -/
def Dev.insideSoft (d : Dev) (n : Nat) (p : Int) : Bool :=
  decide (d.limit n (Reg.AX2_SOFT_MIN n) ≤ p ∧ p ≤ d.limit n (Reg.AX2_SOFT_MAX n))

/-- Whether a position lies beyond the soft limit in a direction of motion. -/
def Dev.beyondSoft (d : Dev) (n : Nat) (dir p : Int) : Bool :=
  if 0 < dir then decide (d.limit n (Reg.AX2_SOFT_MAX n) < p) else decide (p < d.limit n (Reg.AX2_SOFT_MIN n))

/-- The stop point of a state with given limits, as a position code (R102). (DEDUCED, log 47, safe.) -/
def stopPoint (p : Int) (v a A : Rat) (J : Option Rat) : Int := p + toFix (stopParts v a A J).2

/-- The direction of motion: the sign of v, or of a when v is 0 (R104). -/
def motionDir (v a : Int) : Int := if v = 0 then sgn a else sgn v

/-- The check of R105 on the present state and on the state one more run would give: the emergency ramp where the
normal-limit stop lies beyond the limit (QSTOP where that ramp ends beyond it too), a normal stop where one more run
would move it beyond; at rest the direction is that of the next run. `own` is the end of the plan in progress; a plan on its way to an
end inside is never stopped short. (DEDUCED, log 47, safe.) -/
def Dev.softCheck (d : Dev) (n : Nat) (own : Option Int) (nextState : Int × Int × Int) : Dev :=
  let v := d.reg (Reg.AX5_SET_VEL n)
  let acc := d.reg (Reg.AX5_SET_ACC n)
  let (p', v', a') := nextState
  let dir := if v = 0 ∧ acc = 0 then motionDir v' a' else motionDir v acc
  let endsInside := match own with
    | some f => !d.beyondSoft n dir f && decide (0 ≤ dir * (f - d.setpoint n))
    | none => false
  if d.softOn n = false ∨ dir = 0 ∨ (d.axis n).motion = .ramp ∨ endsInside = true then d
  else
    let here := stopPoint (d.setpoint n) (fix v) (fix acc) (d.aMax n) (d.jMax n)
    if d.beyondSoft n dir here then
      let em := stopPoint (d.setpoint n) (fix v) (fix acc) (d.emDec n) (d.emJerk n)
      if d.beyondSoft n dir em then
        d.fault n Code.SOFT_LIMIT_EXCEEDED Reaction.qstop
      else
        let d := (d.emergencyRamp n).modAxis n fun a => { a with softStop := true }
        (d.addFlags n Flag.softRamp).raiseAxis Code.SOFT_LIMIT_RAMP n
    else
      let there := stopPoint p' (fix v') (fix a') (d.aMax n) (d.jMax n)
      if d.beyondSoft n dir there ∧ (d.axis n).softStop = false then
        let d := (d.normalStop n).modAxis n fun a => { a with softStop := true }
        (d.addFlags n Flag.softStop).raiseAxis Code.SOFT_LIMIT_STOP n
      else d

/-! ## Inputs and refusals (R98) -/

/-- Which input an axis names for a role: positive limit, negative limit, home (R135), general latch (R134). -/
def Dev.inputOf (d : Dev) (n role : Nat) : Nat :=
  d.nat (match role with
    | 0 => Reg.AX12_LIM_POS_IN n | 1 => Reg.AX12_LIM_NEG_IN n | 2 => Reg.AX12_HOME_IN n | _ => Reg.AX11_LATCH_INPUT n)

/-- Whether the switch of a role (0 to 2) is active: its qualified level in INPUT_STATUS against its POLARITY (R135). -/
def Dev.switchActive (d : Dev) (n role : Nat) : Bool :=
  d.inputOf n role != 0xFF && (d.bit (Reg.AX12_INPUT_STATUS n) role != d.bit (Reg.AX12_POLARITY n) role)

/-- Whether a limit switch of the axis is active on the side `dir`. -/
def Dev.limitActive (d : Dev) (n : Nat) (dir : Int) : Bool :=
  if 0 < dir then d.switchActive n 0 else if dir < 0 then d.switchActive n 1 else false

/-- Whether a fault reaction of the axis falls in the present tick (R98). -/
def Dev.reactedNow (d : Dev) (n : Nat) : Bool :=
  let a := d.axis n
  a.reactTick == d.tickAbs && (a.reactNow != 0 || d.axState n == AxState.fault) && d.nat (Reg.AX1_REACTION n) != 0

/-- The source axes of SSM chains cannot be followed sets: a member of a monitored chain refuses GEAR and FOLLOW
(R178). -/
def Dev.ssmMember (d : Dev) (n : Nat) : Bool :=
  match d.chainOf n with
  | some c => d.flag (act (Reg.R3210_SSM_EN c))
  | none => false

/-- A command completed: TAKEN_SEQ and CMD_STATUS (R132). (DEDUCED, log 46, safe.) -/
def Dev.commandDone (d : Dev) (n seq code : Nat) : Dev :=
  ((d.set (Reg.AX5_TAKEN_SEQ n) seq).set (Reg.AX5_CMD_STATUS n) code).finish code

/-- A command refused: the code is raised, nothing else changes (R98). -/
def Dev.commandRefused (d : Dev) (n : Nat) (h : Held) (code : Nat) : Dev :=
  (d.raiseAxis code n).commandDone n h.seq code

/-! ## Sources of followed set-points (R114) -/

/-- A source's value now: in source units as a rational, its age, and its velocity where the source states one. -/
structure SourceVal where
  val : Rat
  age : Nat
  vel : Option Rat
deriving DecidableEq, Repr

/-- R24, R114: the value of the source of an axis in the present tick; measured and remote values are those of the SI of the tick
before. -/
def Dev.sourceVal (d : Dev) (n : Nat) : SourceVal :=
  let i := d.nat (Reg.AX6_SRC_INDEX n)
  match d.nat (Reg.AX6_SRC_KIND n) with
  | 1 => { val := ((d.io.ai.getD i 0 : Int) : Rat) / 131072, age := 0, vel := none }
  | 2 => { val := (d.io.enc.getD i 0 : Int), age := 0, vel := none }
  | 3 => { val := fix (d.setpoint i), age := 0, vel := some (d.setVel i) }
  | 4 => { val := fix (d.measured i), age := ((d.axis i).fb.pos.asOf (d.tickAbs - 1)).age, vel := none }
  | 5 =>
    let v := d.io.remote
    { val := sfieldLE v (16 * i) 8, age := fieldLE v (16 * i + 8) 1, vel := none }
  | _ => { val := 0, age := 0, vel := none }

/-- x_s: the source value times SRC_SCALE plus SRC_OFFSET, rounded convergently to 32.32 (R114). (DEDUCED, log 55, safe.) -/
def Dev.sourceX (d : Dev) (n : Nat) (s : SourceVal) : Int :=
  ratConv (s.val * d.reg (Reg.AX6_SRC_SCALE n)) + d.reg (Reg.AX6_SRC_OFFSET n)

/-- AGE_LIMIT of an axis in ticks: two periods of the innermost level where none has been written (R71).
(DEDUCED, log 33, unsafe.) -/
def Dev.ageLimit (d : Dev) (n : Nat) : Nat :=
  let w := (d.setting n (Reg.AX10_AGE_LIMIT n)).toNat
  if w ≠ 0 then w
  else 2 * max 1 (d.nat (if d.reg (act (Reg.AX7_MODE n)) = 1 then act (Reg.AX7_DIV_CUR n) else act (Reg.AX7_DIV_VEL n)))

/-! ## The tracking limiter (R115, R116) -/

/-- The geared travel of one run (R115): target position code, source velocity used below, and the gear's new state.
(DEDUCED, log 55, safe.) -/
def Dev.gearStep (d : Dev) (n : Nat) (g : Gear) (ds : Int) (vs : Rat) : Int × Rat × Gear :=
  let num := d.reg (Reg.AX6_GEAR_NUM n)
  let den := max 1 (d.nat (Reg.AX6_GEAR_DEN n))
  let dist := d.reg (Reg.AX6_ENGAGE_DIST n)
  let travel := g.travel + |ds|
  let full := g.full || decide (dist ≤ 0 ∨ dist ≤ travel)
  let f : Rat := if full then 1 else b64 ((travel : Rat) / dist)
  let g' : Gear :=
    if full then
      let x := ds * num + (if g.full then g.rem else 0)
      { g with travel, full := true, geared := g.geared + x.fdiv den, rem := x.fmod den }
    else { g with travel, geared := g.geared + ratConv (b64 (f * ds * num / den)) }
  (g.y0 + g'.geared + d.reg (Reg.AX6_PHASE_OFFSET n), b64 (f * vs * num / den), g')

/-- The value of the source in this run (R114, R118): a measured or remote value with age 1 to AGE_LIMIT is held with
velocity 0. -/
def Dev.sourceStep (d : Dev) (n : Nat) (g : Gear) : Int × Int × Rat :=
  let s := d.sourceVal n
  let x := d.sourceX n s
  let prev := g.prev.getD x
  if s.age ≠ 0 then (prev, 0, 0)
  else match s.vel with
    | some v => (x, x - prev, b64 (v * fix (d.reg (Reg.AX6_SRC_SCALE n))))
    | none => (x, x - prev, b64 (fix (x - prev) / d.posPeriod n))

/-- The tracking limiter of R116 on a target `x` with source velocity `vt`: the new state and whether the run was
limited (R117). (DEDUCED, log 55, safe.) -/
def Dev.trackStep (d : Dev) (n : Nat) (x : Int) (vt : Rat) : (Int × Int × Int) × Bool :=
  let T := d.posPeriod n
  let vmax := d.vMax n
  let amax := d.aMax n
  let kf := fix (d.limit n (Reg.AX2_FOLLOW_KP n))
  let v := d.setVel n
  let acc := d.setAcc n
  let e := fix (x - d.setpoint n)
  let lim := fun (q : Rat) => ratMax (-vmax) (ratMin vmax q)
  let pull := ratMin (ratMin vmax (b64Sqrt (2 * amax * ratAbs e))) (kf * ratAbs e)
  let vd := lim (b64 (vt + (if e < 0 then -pull else pull)))
  let ev := b64 (vd - v)
  let am := match d.jMax n with
    | some j => ratMin amax (b64Sqrt (2 * j * ratAbs ev))
    | none => amax
  let ad := if ev < 0 then -am else if ev = 0 then 0 else am
  let ac := match d.jMax n with
    | some j => ratMax (acc - j * T) (ratMin (acc + j * T) ad)
    | none => ad
  let v' := lim (b64 (v + ac * T))
  let limited := decide (vmax < ratAbs (vt + kf * e) ∨ amax < ratAbs ev / T) || decide (ac ≠ ad)
  ((d.setpoint n + toFix (b64 (v' * T)), toFix v', toFix ac), limited)

/-! ## Which commands are accepted (R98) -/

/-- The direction in which GEAR or FOLLOW would move an axis in its first run (R115, R116). -/
def Dev.trackDir (d : Dev) (n : Nat) (gearing : Bool) : Int :=
  let g : Gear := { y0 := d.setpoint n }
  let (xs, ds, vs) := d.sourceStep n g
  let (x, vt) := if gearing then let (x, v, _) := d.gearStep n g ds vs; (x, v) else (xs, vs)
  let ((_, v, a), _) := d.trackStep n x vt
  motionDir v a

/-- The direction in which the plan of a motion command starts. -/
def Dev.startDir (d : Dev) (n : Nat) (h : Held) : Int :=
  let m := motionDir (d.reg (Reg.AX5_SET_VEL n)) (d.reg (Reg.AX5_SET_ACC n))
  if m ≠ 0 then m
  else match h.code with
    | 1 => sgn (h.target - d.setpoint n)
    | 2 => sgn ((((d.axis n).baseTgt.getD (d.setpoint n))) + h.target - d.setpoint n)
    | 3 => sgn h.vel
    | 8 => d.trackDir n true
    | 9 => d.trackDir n false
    | _ => 0

/-- Whether a command is accepted in the present state of its axis (R98): while a chain executes a segment its members take neither
motion commands nor STOP and HOLD (R551), and an emergency ramp is not replaced by a motion (R106).
(DEDUCED, log 44, safe; DEDUCED, log 154, safe; DEDUCED, log 155, safe.) -/
def Dev.accepts (d : Dev) (n : Nat) (h : Held) : Bool :=
  let st := d.axState n
  let byCmd := st == AxState.stopping && (d.axis n).stopWhy == .command
  let member := match d.chainOf n with | some c => d.executing c | none => false
  !d.reactedNow n &&
  (match h.code with
   | 1 | 2 | 3 | 8 | 9 =>
     (st == AxState.enabled || st == AxState.moving || st == AxState.test || byCmd) && !member && (d.axis n).motion != .ramp &&
       !d.limitActive n (d.startDir n h) && !((h.code == 8 || h.code == 9) && d.ssmMember n)
   | 7 => st == AxState.enabled && !member
   | 4 | 5 => (st == AxState.enabled || st == AxState.moving || st == AxState.test || byCmd) && !member
   | 6 => true
   | _ => false)

/-! ## Taking a command (R99 to R104) -/

/-- The motion of a plan begins: from ENABLED, and from a stop it replans, the axis is MOVING; in TEST it stays TEST
(R96). -/
def Dev.beginMotion (d : Dev) (n : Nat) : Dev :=
  let d := d.modAxis n fun a => { a with stopWhy := .none, softStop := false }
  if d.axState n = AxState.test then d else d.setAxState n AxState.moving

/-- The flags of the command being executed start cleared (R132). (DEDUCED, log 44, safe.) -/
def Dev.newCommand (d : Dev) (n : Nat) (h : Held) : Dev :=
  ((d.dropFlags n Flag.ofCommand).set (Reg.AX5_ACTIVE_CMD n) h.code).modAxis n fun a =>
    { a with command := some h, baseTgt := none, gear := {} }

/-- The plan of MOVE_ABS and MOVE_REL to a target (R104), with OVERSHOOT_PLANNED where the target lies behind. -/
def Dev.planMove (d : Dev) (n : Nat) (h : Held) (target : Int) : Dev :=
  let (V, c1) := clipMag h.vel (d.vMax n)
  let (A, c2) := clipMag h.acc (d.aMax n)
  let m := movePlan (fix (target - d.setpoint n)) (d.setVel n) (d.setAcc n) V A (d.effJerk n h.jerk)
  let d := d.startPlan n .plan
    { p0 := d.setpoint n, v0 := d.setVel n, parts := m.parts, final := some target }
  let d := d.modAxis n fun a => { a with baseTgt := some target }
  let d := d.when (c1 || c2) fun d => d.addFlags n Flag.clipped
  if m.past = 0 then d
  else ((d.addFlags n Flag.overshoot).set (Reg.AX5_OVERSHOOT n) (toFix m.past)).raise Code.OVERSHOOT_PLANNED Kind.axis n 0
    (toU 64 (toFix m.past))

/-- A move to a target: refused beyond the soft limits (R101), complete at once where the axis rests on it (R104).
(DEDUCED, log 44, safe.) -/
def Dev.takeMove (d : Dev) (n : Nat) (h : Held) (target : Int) : Dev :=
  if d.softOn n && !d.insideSoft n target then d.commandRefused n h Code.TARGET_BEYOND_LIMIT
  else
    let d := d.newCommand n h
    if d.atRest n ∧ target = d.setpoint n then
      let d := d.modAxis n fun a => { a with plan := none, motion := .rest, stopWhy := .none, softStop := false }
      let d := (d.set (Reg.AX5_ACTIVE_CMD n) 0).addFlags n Flag.inTarget
      let d := d.when (d.axState n != AxState.test) fun d => d.setAxState n AxState.enabled
      d.commandDone n h.seq Code.STATUS_OK
    else ((d.planMove n h target).beginMotion n).commandDone n h.seq Code.STATUS_OK

/-- The plan of VELOCITY (R99, R102). (DEDUCED, log 45, safe.) -/
def Dev.planVelocity (d : Dev) (n : Nat) (h : Held) : Dev :=
  let (v, c1) := clipVel h.vel (d.vMax n)
  let (A, c2) := clipMag h.acc (d.aMax n)
  let d := d.startPlan n .plan
    { p0 := d.setpoint n, v0 := d.setVel n, parts := velChange (d.setVel n) (d.setAcc n) v A (d.effJerk n h.jerk),
      final := none, tail := v }
  d.when (c1 || c2) fun d => d.addFlags n Flag.clipped

/-- The stop of STOP (its own ACC and JERK) and of HOLD (the axis limits), R99. -/
def Dev.planStop (d : Dev) (n : Nat) (h : Held) : Dev :=
  if h.code = 4 then d.normalStop n
  else
    let (A, c) := clipMag h.acc (d.aMax n)
    (d.startStop n A (d.effJerk n h.jerk)).when c fun d => d.addFlags n Flag.clipped

/-- Whether an axis is under GEAR or FOLLOW (R133): tracking, held at a soft limit or stopping for one. -/
def Dev.underTrack (d : Dev) (n : Nat) : Bool :=
  (match (d.axis n).command with | some h => h.code == 8 || h.code == 9 | none => false) && (d.axis n).motion != .rest

/-- GEAR and FOLLOW begin: the axis tracks its source from its present set-point (R115, R116). -/
def Dev.takeTrack (d : Dev) (n : Nat) (h : Held) : Dev :=
  let d := (d.newCommand n h).set (Reg.AX6_ENGAGED n) 0
  let d := d.modAxis n fun a =>
    { a with plan := none, motion := (if h.code = 8 then .gear else .follow), gear := { y0 := d.setpoint n } }
  (d.beginMotion n).commandDone n h.seq Code.STATUS_OK

/-- STOP and HOLD: at once complete in ENABLED; otherwise the stop runs, in TEST without leaving it (R96, R98). -/
def Dev.takeStop (d : Dev) (n : Nat) (h : Held) : Dev :=
  if d.axState n = AxState.enabled then (d.dropFlags n Flag.ofCommand).commandDone n h.seq Code.STATUS_OK
  else
    let d := ((d.newCommand n h).abandonHoming n).planStop n h
    let d := d.when (d.axState n != AxState.test) fun d =>
      (d.setAxState n AxState.stopping).modAxis n fun a => { a with stopWhy := .command, softStop := false }
    d.commandDone n h.seq Code.STATUS_OK

/-- QUICK_STOP: the emergency ramp in every state with closed loops but FAULT, where the axis already stands or stops;
elsewhere it completes at once (R98). A stop under a reaction keeps its reason. -/
def Dev.takeQuickStop (d : Dev) (n : Nat) (h : Held) : Dev :=
  if !d.closed n || d.axState n == AxState.fault then (d.dropFlags n Flag.ofCommand).commandDone n h.seq Code.STATUS_OK
  else
    let keep := match (d.axis n).stopWhy with | .reaction _ | .disable => d.axState n == AxState.stopping | _ => false
    let d := d.newCommand n h
    let d := if keep then d.emergencyRamp n else (d.chainStop n).quickStopAxis n
    d.commandDone n h.seq Code.STATUS_OK

end Sys2Proof.Machine
end

