-- ==== Sys2Proof/Machine/Homing.lean ====
section
/-! DEFINITION. Homing, latches and the axis inputs (R119 to R126): the homing sequence with its references, position
interpolation at an edge, raw transitions and qualified edges, and the general latch. -/

namespace Sys2Proof.Machine

/-! ## Homing states (`AX[n].11.0A`) -/

abbrev HomeState.idle : Nat := 0
abbrev HomeState.search : Nat := 1
abbrev HomeState.reverse : Nat := 2
abbrev HomeState.index : Nat := 3
abbrev HomeState.push : Nat := 4
abbrev HomeState.backoff : Nat := 5
abbrev HomeState.done : Nat := 6

def Dev.homeState (d : Dev) (n : Nat) : Nat := d.nat (Reg.AX11_HOME_STATE n)
def Dev.setHomeState (d : Dev) (n s : Nat) : Dev := d.set (Reg.AX11_HOME_STATE n) s

/-- The role of the reference switch: home input, positive or negative limit switch (HOME_SWITCH, R119). -/
def Dev.homeRole (d : Dev) (n : Nat) : Nat :=
  match d.nat (Reg.AX12_HOME_SWITCH n) with | 1 => 0 | 2 => 1 | _ => 2

/-- A homing move: a stop where the axis moves, then a velocity change to `v` within A_MAX and J_MAX. -/
def Dev.homeMove (d : Dev) (n : Nat) (v : Rat) : Dev :=
  let v0 := d.setVel n
  let stop := velChange v0 (d.setAcc n) 0 (d.aMax n) (d.jMax n)
  let parts := if v0 * v < 0 then stop ++ velChange 0 0 v (d.aMax n) (d.jMax n)
    else velChange v0 (d.setAcc n) v (d.aMax n) (d.jMax n)
  d.startPlan n .plan { p0 := d.setpoint n, v0, parts, final := none, tail := v }

/-- A homing plan in progress taken up anew from the present state (R101): a search goes on to its speed, a back-off to its end, a stop
stops. -/
def Dev.homeReplan (d : Dev) (n : Nat) : Dev :=
  match (d.axis n).plan with
  | some p =>
    match p.final with
    | none => d.homeMove n p.tail
    | some f =>
      if d.homeState n = HomeState.backoff then
        let m := movePlan (fix (f - d.setpoint n)) (d.setVel n) (d.setAcc n) (fix (d.reg (Reg.AX11_V_CREEP n))) (d.aMax n) (d.jMax n)
        d.startPlan n .plan { p0 := d.setpoint n, v0 := d.setVel n, parts := m.parts, final := some f }
      else d.normalStop n
  | none => d

/-- HOME_DIR as a sign. -/
def Dev.homeDir (d : Dev) (n : Nat) : Rat := d.reg (Reg.AX11_HOME_DIR n)

/-- R120: the position offset changed by `x`; set-point, present state, plan and every held value shift with it. -/
def Dev.shiftPosition (d : Dev) (n : Nat) (x : Int) : Dev :=
  let d := d.set (Reg.AX5_SETPOINT n) (d.setpoint n + x)
  let d := d.modAxis n fun a =>
    { a with offset := a.offset + x, homeFrom := a.homeFrom + x, baseTgt := a.baseTgt.map (· + x),
             plan := a.plan.map fun p => { p with p0 := p.p0 + x, final := p.final.map (· + x) } }
  d.setAxSafe n { d.axSafe n with pRef := (d.axSafe n).pRef.map (· + x) }

/-- Homing over: referenced, HOMING_DONE, the axis ENABLED (R119, from DONE). -/
def Dev.homingDone (d : Dev) (n : Nat) : Dev :=
  ((((d.setHomeState n HomeState.idle).set (Reg.AX5_ACTIVE_CMD n) 0).set (Reg.AX11_HOMED n) 1).raiseAxis Code.HOMING_DONE n).setAxState n
    AxState.enabled

/-- Homing failed: the stop, the axis unreferenced (R119). -/
def Dev.homingFailed (d : Dev) (n : Nat) : Dev :=
  ((d.normalStop n).setHomeState n HomeState.idle).raiseAxis Code.HOMING_FAILED n

/-- Homing has found its reference at `pRef`: the offset is set and the axis stops (R119, R120). -/
def Dev.reference (d : Dev) (n : Nat) (pRef : Int) : Dev :=
  ((d.shiftPosition n (d.reg (Reg.AX11_HOME_POS n) - pRef)).setHomeState n HomeState.done).normalStop n

/-- HOME (R119): from IDLE by method. -/
def Dev.startHoming (d : Dev) (n : Nat) (h : Held) : Dev :=
  let d := d.newCommand n h
  let method := d.nat (Reg.AX11_METHOD n)
  let d :=
    if method = 3 then
      (d.shiftPosition n (d.reg (Reg.AX11_HOME_POS n) - (d.axis n).offset)).homingDone n
    else
      let d := (d.set (Reg.AX11_HOMED n) 0).modAxis n fun a => { a with homeFrom := d.setpoint n, hsRun := 0 }
      let creep := fix (d.reg (Reg.AX11_V_CREEP n))
      let d := d.beginMotion n
      if method = 2 then (d.homeMove n (d.homeDir n * creep)).setHomeState n HomeState.push
      else if d.switchActive n (d.homeRole n) then (d.homeMove n (-(d.homeDir n * creep))).setHomeState n HomeState.reverse
      else (d.homeMove n (d.homeDir n * fix (d.reg (Reg.AX11_V_SEARCH n)))).setHomeState n HomeState.search
  d.commandDone n h.seq Code.STATUS_OK

/-- The travel limit of homing, checked in each run (R119). (DEDUCED, log 54, unsafe.) -/
def Dev.homingTravel (d : Dev) (n : Nat) : Dev :=
  let st := d.homeState n
  if 1 ≤ st ∧ st ≤ 4 ∧ d.reg (Reg.AX11_MAX_DIST n) < |d.setpoint n - (d.axis n).homeFrom| then d.homingFailed n else d

/-- The second of two neighbouring samples either side of a time, and the first (R123). -/
def around (hist : List Sample) (t : Int) : Option (Sample × Sample) :=
  match hist with
  | b :: a :: r => if a.time ≤ t ∧ t ≤ b.time then some (a, b) else around (a :: r) t
  | _ => none

/-- R123: the position at a raw count, less LATCH_COMP_NS: none until the later sample is there; with whether it is
valid. (DEDUCED, log 54, unsafe.) -/
def Dev.positionAt (d : Dev) (n raw : Nat) : Option (Int × Bool) :=
  let t := d.ntAt raw - d.reg (Reg.AX11_LATCH_COMP_NS n) * 2 ^ 40
  (around (d.axis n).hist t).map fun (a, b) =>
    let p := a.pos + (if b.time = a.time then 0
      else ratConv (((b.pos - a.pos) * (t - a.time) : Int) / ((b.time - a.time : Int) : Rat)))
    (p + (d.axis n).offset, decide (b.tick - a.tick ≤ d.ageLimit n + 1))

/-- The position of a waiting latch (R122, R123): the general latch and the two transitions of a qualified edge report it; a homing edge or index sets the reference, or
fails homing where it cannot be interpolated. -/
def Dev.latchDone (d : Dev) (n : Nat) (what : LatchFor) (p : Int) (valid : Bool) : Dev :=
  match what with
  | .general => ((d.set (Reg.AX11_LATCH_POS n) p).set (Reg.AX11_LATCH_VALID n) (if valid then 1 else 0))
  | .first => d.set (Reg.AX11_FIRST_RAW_POS n) p
  | .ref => d.set (Reg.AX11_REF_POS n) p
  | .homing =>
    if d.homeState n = HomeState.reverse ∨ d.homeState n = HomeState.index then
      if valid then d.reference n p else d.homingFailed n
    else d

/-- A position asked for at a raw count: at once where its later sample is there, else it waits for LATCH_RESULT.
(DEDUCED, log 54, unsafe.) -/
def Dev.askPosition (d : Dev) (n : Nat) (what : LatchFor) (raw : Nat) : Dev :=
  match d.positionAt n raw with
  | some (p, valid) => d.latchDone n what p valid
  | none => d.modAxis n fun a => { a with latches := a.latches ++ [(what, raw)] }

/-- The waiting latches of an axis whose later sample has come (R123). (DEDUCED, log 52, safe.) -/
def Dev.latchResult (d : Dev) (n : Nat) : Dev :=
  let l := (d.axis n).latches
  let d := d.modAxis n fun a => { a with latches := [] }
  each l (fun (what, raw) d => d.askPosition n what raw) d

/-- LATCH_ARM written (R134). -/
def Dev.latchArm (d : Dev) (n edge : Nat) : Dev :=
  if edge ≤ 2 then (d.set (Reg.AX11_LATCH_ARM n) edge).finish Code.STATUS_OK else d.finish Code.OD_RANGE

/-! ## Inputs -/

/-- The number by which commands name an input: a local digital input 0 to 31, or 0x1000 + 16 * axis + bit for a drive
status bit (R122). -/
def inputKey (n code : Nat) : Option Nat :=
  if code < 32 then some code else if 0x40 ≤ code ∧ code < 0x50 then some (0x1000 + 16 * n + (code - 0x40)) else none

def Dev.axIn (d : Dev) (n role : Nat) : AxIn := mget {} (d.axis n).ins role
def Dev.setAxIn (d : Dev) (n role : Nat) (x : AxIn) : Dev := d.modAxis n fun a => { a with ins := mset {} a.ins role x }

/-- The axes and roles that name an input. -/
def Dev.namedBy (d : Dev) (input : Nat) : List (Nat × Nat) :=
  (List.range 128).flatMap fun n =>
    ((List.range 4).filter fun r => inputKey n (d.inputOf n r) == some input).map fun r => (n, r)

/-- R124: transitions within the window; more than CHATTER_N start an episode, which ends when a whole window has passed since the
window last held more. (DEDUCED, log 156, safe.) -/
def Dev.chatter (d : Dev) (n role raw : Nat) : Dev :=
  let x := d.axIn n role
  let win := d.nat (Reg.AX12_CHATTER_WIN_MS n) * 1000000
  let raws := x.raws.filter fun r => raw < r + win
  let runs := match x.chatter with | some o => decide (raw < o + win) | none => false
  if d.nat (Reg.AX12_CHATTER_N n) < raws.length then
    let d := d.setAxIn n role { x with raws, chatter := some raw }
    if runs then d else (d.orBits (Reg.AX12_INPUT_STATUS n) 16).raiseAxis Code.INPUT_CHATTER n
  else d.setAxIn n role { x with raws, chatter := if runs then x.chatter else none }

/-- Whether a transition follows the one before it on its input by 2 ns, as the edge counter asks (R126). -/
def AxIn.counts (x : AxIn) (raw : Nat) : Bool := match x.prev with | some l => decide (l + 2 ≤ raw) | none => true

/-- R126: a second counted transition in one period of the 1 MHz sampler; an episode ends after 1,000 periods without. -/
def Dev.inputOverrun (d : Dev) (n role raw : Nat) : Dev :=
  let x := d.axIn n role
  let twice := match x.prev with | some l => decide (l / 1000 = raw / 1000 ∧ l + 2 ≤ raw) | none => false
  if twice then
    let fresh := match x.overAt with | some o => decide (o + 1000000 < raw) | none => true
    let d := d.setAxIn n role { x with overAt := some raw }
    if fresh then (d.orBits (Reg.AX12_INPUT_STATUS n) 64).raiseAxis Code.INPUT_OVERRUN n else d
  else d

/-- The general latch fires at a raw transition in its direction (R134, R352), stamped with the first transition of its sampler period
(R126). (DEDUCED, log 54, unsafe.) -/
def Dev.latchFires (d : Dev) (n raw : Nat) (level : Bool) : Dev :=
  let x := d.axIn n 3
  let raw := match x.first with | some f => if f / 1000 = raw / 1000 then f else raw | none => raw
  let d := d.setAxIn n 3 { x with first := some raw }
  let arm := d.nat (Reg.AX11_LATCH_ARM n)
  if (arm = 1 ∧ level = true) ∨ (arm = 2 ∧ level = false) then
    (d.set (Reg.AX11_LATCH_ARM n) 0).askPosition n .general raw
  else d

/-- A raw transition of an input as one axis and role see it (R122, R124, R126); `counts` where the axis's edge counter counts it: a
local input's, once for the axis (R126, R135). -/
def Dev.rawFor (d : Dev) (n role raw : Nat) (level counts : Bool) : Dev :=
  if role = 3 then d.latchFires n raw level
  else
    let d := d.when (counts && (d.axIn n role).counts raw) fun d =>
      (d.set (Reg.AX12_EDGE_COUNT n) (min 255 (d.nat (Reg.AX12_EDGE_COUNT n) + 1))).inputOverrun n role raw
    let x := d.axIn n role
    let d := d.setAxIn n role
      { x with first := some (x.first.getD raw), last := some raw, prev := some raw, raws := x.raws ++ [raw] }
    d.chatter n role raw

/-- The time a raw transition is given (R122): to 1 ns on DI 0 to 15, to 1 µs on DI 16 to 31, and for a drive status bit the SI of its
sample. -/
def Dev.stampOf (d : Dev) (input raw : Nat) : Nat :=
  if input < 16 then raw else if input < 32 then raw - raw % 1000 else d.clk.raw

/-- A raw transition on an input (R122): every axis that names it records it. -/
def Dev.rawTransition (d : Dev) (input : Nat) (level : Bool) (raw : Nat) : Dev :=
  let by_ := d.namedBy input
  each by_ (fun (n, r) d =>
    d.rawFor n r (d.stampOf input raw) level (decide (input < 32) && !(by_.any fun (m, q) => m == n && decide (q < r)))) d

/-- What homing does with a qualified edge of a switch (R119): `active` says to which side. -/
def Dev.homingEdge (d : Dev) (n role ref : Nat) (active : Bool) : Dev :=
  let st := d.homeState n
  if role ≠ d.homeRole n then
    if active ∧ role ≤ 1 ∧ st ≠ HomeState.idle then
      -- a limit switch that is not the reference switch: emergency ramp, the axis ends in FAULT
      (d.setHomeState n HomeState.idle).fault n Code.HOMING_LIMIT Reaction.qstop
    else d
  else if st = HomeState.search ∧ active = true then
    (d.homeMove n (-(d.homeDir n * fix (d.reg (Reg.AX11_V_CREEP n))))).setHomeState n HomeState.reverse
  else if st = HomeState.reverse ∧ active = false then
    if d.reg (Reg.AX11_METHOD n) = 1 then d.setHomeState n HomeState.index
    else d.askPosition n .homing ref
  else d

/-- A qualified edge of an axis input (R122): it must differ from the qualified level, and the level must have stood for
DEBOUNCE_US, on a drive status bit in whole ticks; its times are reported, its positions as soon as they are known, then homing or the limit-switch reaction follow (R119, R121).
(DEDUCED, log 59, safe.) -/
def Dev.qualifiedEdge (d : Dev) (n role : Nat) (level : Bool) (raw : Nat) : Dev :=
  let x := d.axIn n role
  let ref := x.last.getD raw
  let first := x.first.getD ref
  let us := d.nat (Reg.AX12_DEBOUNCE_US n) * 1000
  let deb := if d.inputOf n role < 32 then us else (us + 31249) / 31250 * 31250
  if 3 ≤ role ∨ d.inputOf n role = 0xFF ∨ d.bit (Reg.AX12_INPUT_STATUS n) role = level ∨ raw < ref + deb then d
  else
    let d := (d.set (Reg.AX11_FIRST_RAW_TIME n) (time40 (d.ntAt first))).askPosition n .first first
    let d := (d.set (Reg.AX11_REF_TIME n) (time40 (d.ntAt ref))).askPosition n .ref ref
    let d := d.set (Reg.AX11_QUAL_TIME n) (time40 (d.ntAt raw))
    let d := d.set (Reg.AX12_INPUT_STATUS n) (withBit (d.nat (Reg.AX12_INPUT_STATUS n)) role level)
    let active := d.switchActive n role
    let d := d.setAxIn n role
      { d.axIn n role with first := none, last := none, since := (if active then some raw else none), stuck := false }
    if d.homeState n ≠ HomeState.idle then d.homingEdge n role ref active
    else if active ∧ role ≤ 1 ∧ 2 ≤ d.axState n ∧ d.axState n ≤ 5 then
      d.fault n Code.LIMIT_SWITCH Reaction.qstop
    else d

/-- An index pulse at a raw count: in homing state INDEX it is the reference (R119). -/
def Dev.indexPulse (d : Dev) (n raw : Nat) : Dev :=
  if d.homeState n = HomeState.index then d.askPosition n .homing raw else d

/-- HARD_STOP (R119): the push has stood for HS_TICKS; the reference is the measured position, then the back-off. -/
def Dev.hardStop (d : Dev) (n : Nat) : Dev :=
  if d.homeState n = HomeState.push ∧ d.nat (Reg.AX11_HS_TICKS n) ≤ (d.axis n).hsRun then
    let d := d.shiftPosition n (d.reg (Reg.AX11_HOME_POS n) - d.measured n)
    let d := d.emit n (d.measured n) 0 0
    let dist := d.homeDir n * fix (d.reg (Reg.AX11_BACKOFF n))
    let m := movePlan (-dist) 0 0 (fix (d.reg (Reg.AX11_V_CREEP n))) (d.aMax n) (d.jMax n)
    (d.startPlan n .plan
      { p0 := d.setpoint n, v0 := 0, parts := m.parts, final := some (d.setpoint n - toFix dist) }).setHomeState n
      HomeState.backoff
  else d

/-- R125: a qualified level active for longer than MAX_ACTIVE_MS, once per activation; on the reference switch it ends
homing (R119). A level active without an edge or a write that made it so has been active since the counters began.
(DEDUCED, log 156, safe.) -/
def Dev.stuckActive (d : Dev) (n role : Nat) : Dev :=
  let x := d.axIn n role
  let limit := d.nat (Reg.AX12_MAX_ACTIVE_MS n) * 1000000
  if role ≤ 2 ∧ limit ≠ 0 ∧ d.switchActive n role = true ∧ x.since.getD 0 + limit < d.rawNow ∧ x.stuck = false then
    let d := d.setAxIn n role { x with stuck := true }
    let d := (d.orBits (Reg.AX12_INPUT_STATUS n) 32).raiseAxis Code.STUCK_ACTIVE n
    if d.homeState n ≠ HomeState.idle ∧ role = d.homeRole n then d.homingFailed n else d
  else d

/-- A write of an input or of POLARITY of an axis (R135): a level that it makes active is active from now on, one that it makes inactive
is no longer (R125). -/
def Dev.inputWrite (d : Dev) (n sub : Nat) (v : Int) : Dev :=
  let was := (List.range 3).map (d.switchActive n)
  let d := d.set (Reg.key (0x200C + 16 * n) sub) v
  (iterate 3 (fun r d =>
    let on := d.switchActive n r
    if on = was.getD r false then d
    else d.setAxIn n r { d.axIn n r with since := if on then some d.rawNow else none, stuck := false }) d).finish Code.STATUS_OK

end Sys2Proof.Machine
end

