-- ==== Sys2Proof/Machine/Chain.lean ====
section
/-! DEFINITION. Chain paths (R107 to R113, R551): the segment records, the queue, starting and ending segments, the
time scale λ, the interpolator's tick, the chain control codes, and the state of a chain (R141). -/

namespace Sys2Proof.Machine

/-! ## Segment records (R107) -/

abbrev segJoint : Nat := 1
abbrev segLinear : Nat := 2
abbrev segDwell : Nat := 3

def segKind (r : Bytes) : Nat := fieldLE r 0 1
def segBlendFlag (r : Bytes) : Bool := fieldLE r 1 1 == 1
def segSeq (r : Bytes) : Nat := fieldLE r 2 2
def segPayload (r : Bytes) : Nat := fieldLE r 4 1
def segSpeed (r : Bytes) : Int := sfieldLE r 8 8
def segAccel (r : Bytes) : Int := sfieldLE r 16 8
def segJerk (r : Bytes) : Int := sfieldLE r 24 8
def segBlend (r : Bytes) : Int := sfieldLE r 32 8
/-- Field `i` of TARGET. -/
def segTarget (r : Bytes) (i : Nat) : Int := sfieldLE r (48 + 8 * i) 8

/-- Whether bytes `lo` to `hi - 1` are 0. -/
def zeros (r : Bytes) (lo hi : Nat) : Bool := (slice r lo (hi - lo)).all (· == 0)

/-- 1.0 in 32.32. -/
abbrev fixOne : Int := 4294967296

/-- Whether a record keeps the rules of R107 for its KIND; `n` is the chain's member count. A quaternion need not be of unit norm; it is
used as its normalised value, a zero one as the identity rotation. (DESIGN CHOICE, log 158, safe.) -/
def segRules (r : Bytes) (n : Nat) : Bool :=
  r.length == 144 && segPayload r ≤ 3 && zeros r 5 8 && zeros r 40 48 && fieldLE r 1 1 ≤ 1 &&
  (match segKind r with
   | 1 => decide (0 < segSpeed r ∧ segSpeed r ≤ fixOne ∧ 0 < segAccel r ∧ segAccel r ≤ fixOne ∧ 0 ≤ segJerk r ∧
            segJerk r ≤ fixOne ∧ 0 ≤ segBlend r ∧ 2 * segBlend r ≤ fixOne) && zeros r (48 + 8 * n) 144
   | 2 => decide (0 < segSpeed r ∧ 0 < segAccel r ∧ 0 ≤ segJerk r ∧ 0 ≤ segBlend r) && zeros r 88 144 &&
            (List.range 4).all fun i => f32Finite (fieldLE r (72 + 4 * i) 4)
   | 3 => fieldLE r 1 1 == 0 && zeros r 8 32 && decide (0 ≤ segBlend r) && zeros r 48 144
   | _ => false)

/-- Whether a record may be queued on a chain (R107). -/
def Dev.segValid (d : Dev) (c : Nat) (r : Bytes) : Bool :=
  d.chainEn c && !(d.members c).isEmpty && segRules r (d.members c).length

/-- APPEND (R108): one record at the end of the queue of 256; refused when full or when it breaks R107. -/
def Dev.append (d : Dev) (c : Nat) (r : Bytes) : Dev :=
  if !d.segValid c r then (d.raise Code.SEGMENT_INVALID Kind.chain c).finish Code.SEGMENT_INVALID
  else if 256 ≤ (d.chain c).queue.length then
    (d.raise Code.QUEUE_FULL Kind.chain c).finish Code.QUEUE_FULL
  else (d.modChain c fun x => { x with queue := x.queue ++ [r] }).finish Code.STATUS_OK

/-! ## Starting a segment (R109 to R111) -/

/-- The smallest of some bounds. -/
def leastOf (l : List Rat) : Option Rat := l.foldl (fun m x => match m with | none => some x | some y => some (ratMin x y)) none

/-- R109: the path-parameter plan of a JOINT segment from the member positions `q0`. -/
def Dev.jointParts (d : Dev) (c : Nat) (r : Bytes) (q0 : List Int) : List Piece :=
  let mem := d.members c
  let moving := (List.range mem.length).filter fun i => segTarget r i ≠ q0.getD i 0
  let dq := fun i => ratAbs (fix (segTarget r i - q0.getD i 0))
  let frac := fun (code : Int) => if code = 0 then 1 else fix code
  let V := leastOf (moving.map fun i => b64 (fix (segSpeed r) * d.vMax (mem.getD i 0) / dq i))
  let A := leastOf (moving.map fun i => b64 (fix (segAccel r) * d.aMax (mem.getD i 0) / dq i))
  let J := leastOf (moving.filterMap fun i => (d.jMax (mem.getD i 0)).map fun j => b64 (frac (segJerk r) * j / dq i))
  match V, A with
  | some V, some A => restToRest 1 V A J
  | _, _ => []

/-- The pose (position in fixed point, quaternion) of the tool frame at member positions. -/
def Dev.toolPose (d : Dev) (c : Nat) (qs : List Int) (payload : Nat) : Vec3 × List Int :=
  let f := (d.framesAt c qs payload).getLastD Frame.id
  (f.t, matQuat f.r)

/-- A pose held as seven numbers, position then quaternion. -/
def poseOf (l : List Int) : Vec3 × List Int := (l.take 3, l.drop 3)

/-- The target pose of a LINEAR record. -/
def segPose (r : Bytes) : Vec3 × List Int :=
  ((List.range 3).map fun i => segTarget r i * 256, (List.range 4).map fun i => fxF32 (fieldLE r (72 + 4 * i) 4))

/-- R110: the path length of a LINEAR segment: the larger of the translation and the rotation angle in rad × 100 mm. -/
def linearLength (p0 p1 : Vec3) (q0 q1 : List Int) : Rat :=
  let rot := fxRat (2 * fxMul 6908435304715 (quatRel q0 q1).2) * 100
  ratMax (fxRat (vnorm (vsub p1 p0))) rot

/-- The plan of a segment's path parameter from member positions, a LINEAR's from a pose; a DWELL's is its time (R107). -/
def Dev.segParts (d : Dev) (c : Nat) (r : Bytes) (start pose : List Int) : List Piece :=
  match segKind r with
  | 1 => d.jointParts c r start
  | 2 =>
    let (p0, q0) := poseOf pose
    let (p1, q1) := segPose r
    restToRest (b64 (linearLength p0 p1 q0 q1)) (fix (segSpeed r)) (fix (segAccel r)) (jerkOf (segJerk r))
  | _ => if 0 < segBlend r then [{ dur := fix (segBlend r), acc := 0, jrk := 0 }] else []

/-- Where the members stand when a new segment starts from rest. -/
def Dev.memberSet (d : Dev) (c : Nat) : List Int := (d.members c).map fun m => d.setpoint m

/-- A segment started from member positions `start`, a LINEAR from a pose (R108): its SEQ and payload class are in force. -/
def Dev.newSeg (d : Dev) (c : Nat) (r : Bytes) (start pose : List Int) : Seg :=
  { image := r, start, pose, parts := d.segParts c r start pose }

/-- The pose a record that starts from rest starts at. -/
def Dev.restPose (d : Dev) (c : Nat) (r : Bytes) : List Int :=
  if segKind r = segLinear then let (p, q) := d.toolPose c (d.memberSet c) (segPayload r); p ++ q else []

/-- The pose a LINEAR segment ends at. -/
def Seg.endPose (s : Seg) : List Int :=
  if segKind s.image = segLinear then let (p, q) := segPose s.image; p ++ q else []

/-- The member positions a segment ends at: a LINEAR's are those of its last inverse kinematics. -/
def Dev.segEnd (d : Dev) (c : Nat) (s : Seg) : List Int :=
  match segKind s.image with
  | 1 => (List.range s.start.length).map fun i => segTarget s.image i
  | 2 => ((d.chain c).ik).getD s.start
  | _ => s.start

/-- Every member with closed loops takes part: MOVING, or TEST when it is in TEST (R96). -/
def Dev.membersMove (d : Dev) (c : Nat) : Dev :=
  each (d.members c) (fun m d =>
    let d := d.modAxis m fun a => { a with motion := if a.motion = .ramp then .ramp else .rest, plan := if a.motion = .ramp then a.plan else none }
    let d := d.set (Reg.AX5_ACTIVE_CMD m) 0
    if d.axState m = AxState.enabled then (d.dropFlags m 0x2F).setAxState m AxState.moving else d) d

/-- Whether a chain may start a segment: RUN, no stop in progress, every member enabled. -/
def Dev.mayStart (d : Dev) (c : Nat) : Bool :=
  d.nat (Reg.CH5_CONTROL c) == 1 && !(d.members c).isEmpty &&
  (d.members c).all fun m => d.axState m == AxState.enabled || d.axState m == AxState.moving || d.axState m == AxState.test

/-- The head of the queue starts from rest where nothing is in progress (R108). -/
def Dev.startNext (d : Dev) (c : Nat) : Dev :=
  match (d.chain c).queue with
  | r :: rest =>
    if (d.chain c).cur.isNone && d.mayStart c then
      let s := d.newSeg c r (d.memberSet c) (d.restPose c r)
      let d := d.modChain c fun x => { x with queue := rest, cur := some s, limited := false, ik := none }
      (d.set (Reg.CH5_ACTIVE_SEQ c) (segSeq r)).membersMove c
    else d
  | [] => d

/-! ## Following the path -/

/-- Path parameter, its velocity and its acceleration of a segment at a path time, and whether it has ended. -/
def Seg.at (s : Seg) (t : Rat) : Rat × Rat × Rat :=
  let (x, v, a, left) := partsAt s.parts 0 t 0
  if ended (partsTime s.parts) t then (if segKind s.image = segDwell then 0 else (partsRun s.parts 0).1, 0, 0)
  else (x, v, if left = 0 then a else 0)

/-- How long a segment takes in path time. -/
def Seg.length (s : Seg) : Rat := partsTime s.parts

/-- The remaining path of the segment at which its blend into `next` begins (R111): BLEND limited to half of the path of each. -/
def Seg.blendAt (s next : Seg) : Rat :=
  ratMin (fix (segBlend s.image)) (ratMin ((partsRun s.parts 0).1 / 2) ((partsRun next.parts 0).1 / 2))

/-- The path of a segment still ahead. -/
def Seg.ahead (s : Seg) : Rat := (partsRun s.parts 0).1 - (s.at s.time).1

/-- Whether the blend of the segment may begin with the next record (R111). -/
def mayBlend (s : Seg) (r : Bytes) : Bool :=
  segBlendFlag s.image && segKind s.image == segKind r && segKind r != segDwell && segPayload s.image == segPayload r

/-- The displacement of member `i` by a JOINT segment at path time `t`: position in 32.32, velocity, acceleration.
(DEDUCED, log 50, unsafe.) -/
def Seg.jointAt (s : Seg) (i : Nat) (t : Rat) : Int × Rat × Rat :=
  let dq := segTarget s.image i - s.start.getD i 0
  let (x, v, a) := s.at t
  if ended s.length t then (dq, 0, 0) else (toFix (b64 (fix dq * x)), b64 (fix dq * v), b64 (fix dq * a))

/-- The pose of a LINEAR segment as a fraction of its way: position moves along the line, the rotation by spherical
interpolation (R110); given as displacement and relative rotation. -/
def Seg.linearAt (s : Seg) (t : Rat) : Vec3 × List Int :=
  let (p0, q0) := poseOf s.pose
  let (p1, q1) := segPose s.image
  let whole := linearLength p0 p1 q0 q1
  let f := if ended s.length t = true ∨ whole = 0 then fx1 else fxOf ((s.at t).1 / whole)
  let (rel, half) := quatRel q0 q1
  (vscale f (vsub p1 p0), quatPart rel half f)

/-- Whether two poses agree to 0.01 mm and 0.001 rad (R110). (DESIGN CHOICE, log 49, safe.) -/
def poseClose (f : Frame) (p : Vec3) (q : List Int) : Bool :=
  let r := quatMat q
  let diff := (List.range 9).foldl (fun s i => s + (f.r.getD i 0 - r.getD i 0) * (f.r.getD i 0 - r.getD i 0)) 0
  decide (vnorm (vsub f.t p) ≤ 10995116278 ∧ diff.fdiv fx1 ≤ 2199023)

/-- The inverse kinematics of a LINEAR path in one run (R110): the damped least squares' member positions (its last
iterate is not defined bit by bit, so it is free), checked by the chain model and the soft limits.
(DESIGN CHOICE, log 49, safe; DEDUCED, log 50, unsafe.) -/
def Dev.linearRun (d : Dev) (c : Nat) : Dev :=
  let x := d.chain c
  match x.cur with
  | some s =>
    if segKind s.image = segLinear then
      let (p0, q0) := poseOf s.pose
      let (dp, dr) := s.linearAt s.time
      let (dp, dr) := match x.next with
        | some n => let (dp', dr') := n.linearAt n.time; (vadd dp dp', quatMul dr dr')
        | none => (dp, dr)
      let p := vadd p0 dp
      let q := quatMul (quatNorm q0) dr
      let seed := x.ik.getD s.start
      let sol := (Config.ikSolution (d.bytes (act (Reg.CH3_LINKS c))) (p ++ q) seed).map (satBits 64)
      let f := (d.framesAt c sol (segPayload s.image)).getLastD Frame.id
      let mem := d.members c
      let soft := (List.range mem.length).all fun i =>
        !d.softOn (mem.getD i 0) || d.insideSoft (mem.getD i 0) (sol.getD i 0)
      if sol.length = mem.length ∧ poseClose f p q ∧ soft = true then d.modChain c fun x => { x with ik := some sol }
      else
        let d := d.raise Code.CART_UNREACHABLE Kind.chain c Reaction.qstop
        d.reactChain c Code.CART_UNREACHABLE Reaction.qstop
    else d
  | none => d

/-- λ as a rational (R112). -/
def Chain.lam (x : Chain) : Rat := q31One x.lambda

/-- The set-point, velocity and acceleration of member `n` on its chain's path; none where the chain does not drive it
(R109 to R112). The velocity is that of the path times λ. -/
def Dev.pathPoint (d : Dev) (n : Nat) : Option (Int × Rat × Rat) :=
  (d.chainOf n).bind fun c =>
    let x := d.chain c
    x.cur.bind fun s =>
      ((d.members c).findIdx? (· = n)).map fun i =>
        if segKind s.image = segLinear then
          let p := (x.ik.getD s.start).getD i 0
          let v := b64 (fix (p - d.setpoint n) / d.posPeriod n)
          (p, v, b64 ((v - d.setVel n) / d.posPeriod n))
        else if segKind s.image = segDwell then (s.start.getD i 0, 0, 0)
        else
          let lam := x.lam
          let dl := (q31One x.lambda - q31One x.lamPrev) * 32000
          let (p, v, a) := s.jointAt i s.time
          let (p2, v2, a2) := match x.next with
            | some m => m.jointAt i m.time
            | none => (0, 0, 0)
          (s.start.getD i 0 + p + p2, b64 ((v + v2) * lam), b64 ((a + a2) * lam * lam + (v + v2) * dl))

/-! ## The time scale (R112) -/

/-- The pose a LINEAR path has after `ahead` seconds more of path time, and the free inverse kinematics there. -/
def Dev.linearAhead (d : Dev) (c : Nat) (s : Seg) (ahead : Rat) : List Int :=
  let x := d.chain c
  let (p0, q0) := poseOf s.pose
  let (dp, dr) := s.linearAt (s.time + ahead)
  let (dp, dr) := match x.next with
    | some n => let (dp', dr') := n.linearAt (n.time + ahead); (vadd dp dp', quatMul dr dr')
    | none => (dp, dr)
  (Config.ikSolution (d.bytes (act (Reg.CH3_LINKS c))) (vadd p0 dp ++ quatMul (quatNorm q0) dr)
    (x.ik.getD s.start)).map (satBits 64)

/-- The ticks from this one up to the one of an axis' next run, both counted. -/
def Dev.ticksToRun (d : Dev) (n : Nat) : Nat :=
  let D := d.posDiv n
  1 + (d.nat (act (Reg.AX7_PHASE_POS n)) % D + D - d.tickAbs % D) % D

/-- The speed of member `i`, axis `n`, per second of path time at the path point it reaches at its next run.
(DEDUCED, log 50, unsafe.) -/
def Dev.pathSpeed (d : Dev) (c : Nat) (s : Seg) (i n : Nat) : Rat :=
  let x := d.chain c
  let ahead := (if x.lambda = 0 then 1 else x.lam) * d.ticksToRun n / 32000
  match segKind s.image with
  | 1 =>
    let (_, v, _) := s.jointAt i (s.time + ahead)
    let (_, v2, _) := match x.next with | some y => y.jointAt i (y.time + ahead) | none => (0, 0, 0)
    ratAbs (v + v2)
  | 2 => ratAbs (fix ((d.linearAhead c s ahead).getD i 0 - (x.ik.getD s.start).getD i 0) / ahead)
  | _ => 0

/-- The largest λ that keeps every member within its V_MAX at the path point it reaches at its next run. -/
def Dev.lambdaV (d : Dev) (c : Nat) : Rat :=
  match (d.chain c).cur with
  | some s =>
    let mem := d.members c
    (List.range mem.length).foldl (fun m i =>
      let n := mem.getD i 0
      let sp := d.pathSpeed c s i n
      if d.vMax n < sp then ratMin m (b64 (d.vMax n / sp)) else m) 1
  | none => 1

/-- The target of λ (R112, R158) and whether λ_v is it. (DEDUCED, log 48, safe.) -/
def Dev.lambdaTarget (d : Dev) (c : Nat) : Rat × Bool :=
  let x := d.chain c
  let others := ratMin (q31One (d.reg (Reg.CH6_USER_OVR c))) (q31One x.ovr)
  let others := if d.nat (Reg.CH5_CONTROL c) ≠ 1 ∨ x.aborting = true ∨ x.hold ≠ 0 then 0 else others
  let lv := d.lambdaV c
  if lv < others then (lv, true) else (others, false)

/-- λ moved toward its target by at most its rise or fall of one tick; the code 0x7FFF_FFFF stands for 1.
(DEDUCED, log 48, safe.) -/
def Dev.stepLambda (d : Dev) (c : Nat) : Dev :=
  let x := d.chain c
  let (target, byV) := d.lambdaTarget c
  let rise := fix (d.reg (Reg.CH6_LAMBDA_RISE c)) / 32000
  let fall := fix (d.reg (Reg.CH6_LAMBDA_FALL c)) / 32000
  let new := if x.lam < target then ratFloor (ratMin target (x.lam + rise) * 2147483648)
    else ratCeil (ratMax target (x.lam - fall) * 2147483648)
  let code := (clamp 0 0x7FFFFFFF new).toNat
  let d := d.modChain c fun x => { x with lamPrev := x.lambda, lambda := code }
  if byV ∧ x.limited = false ∧ x.cur.isSome then
    (d.modChain c fun x => { x with limited := true }).raise Code.PATH_LIMITED Kind.chain c
  else d

/-- The segment that the next record of the queue would be, started at the end of `s` (R111). -/
def Dev.blendSeg (d : Dev) (c : Nat) (s : Seg) (r : Bytes) : Seg := d.newSeg c r (d.segEnd c s) s.endPose

/-- The evaluation in which the remaining path reaches the blend point (R108, R111): the blend may begin in this tick where the
successor is queued and the chain runs; else the segment ends at rest. -/
def Dev.blendPoint (d : Dev) (c : Nat) : Dev :=
  let x := d.chain c
  match x.cur with
  | none => d
  | some s =>
    if x.next.isSome ∨ s.alone = true ∨ s.blendOn.isSome ∨ segBlendFlag s.image = false then
      -- a blend that was not begun in the tick of its point is forgone
      d.when (x.next.isNone && s.blendOn.isSome) fun d => d.modChain c fun x => { x with cur := some { s with alone := true } }
    else
      match x.queue with
      | r :: _ =>
        if mayBlend s r then
          d.when (decide (s.ahead ≤ s.blendAt (d.blendSeg c s r))) fun d => d.modChain c fun x =>
            { x with cur := some { s with blendOn := some d.tickAbs, alone := !d.mayStart c } }
        else d
      | [] =>
        d.when (decide (s.ahead ≤ s.blendAt s)) fun d => d.modChain c fun x => { x with cur := some { s with alone := true } }

/-- One evaluation of a chain's interpolator (R112): λ, the path time, the plan time of its members, and, where nothing
is in progress, the next record. -/
def Dev.interpolate (d : Dev) (c : Nat) : Dev :=
  let d := d.stepLambda c
  let adv := (d.chain c).lam / 32000
  let d := d.modChain c fun x =>
    { x with cur := x.cur.map fun s => { s with time := s.time + adv },
             next := x.next.map fun s => { s with time := s.time + adv } }
  let d := each (d.members c) (fun m d => d.modAxis m fun a => { a with adv := a.adv + adv }) d
  let d := (d.startNext c).blendPoint c
  d.linearRun c

/-! ## Segment ends (R108, R111) -/

/-- A segment that has reached its end, or in this tick its blend start with the next record queued: the next record starts
(R108, R111). (DEDUCED, log 52, safe.) -/
def Dev.segmentComplete (d : Dev) (c : Nat) : Dev :=
  let x := d.chain c
  match x.cur with
  | none => d
  | some s =>
    if ended s.length s.time then
      -- the segment ends; one that blends into the next hands its end over
      let ends := d.segEnd c s
      let d := d.set (Reg.CH5_DONE_SEQ c) (segSeq s.image)
      match x.next with
      | some m =>
        let d := d.modChain c fun x => { x with cur := some { m with start := ends }, next := none, limited := false }
        d
      | none =>
        let d := d.modChain c fun x => { x with cur := none, limited := false }
        if (d.chain c).queue.isEmpty || !d.mayStart c then
          -- nothing follows: every member on the path rests on its end
          each ((d.members c).zip ends) (fun (m, p) d =>
            if d.axState m = AxState.moving then
              ((d.emit m p 0 0).addFlags m Flag.inTarget).setAxState m AxState.enabled
            else if d.axState m = AxState.test then d.emit m p 0 0 else d) d
        else (each ((d.members c).zip ends) (fun (m, p) d => d.emit m p 0 0) d).startNext c
    else
      match x.next, x.queue with
      | none, r :: rest =>
        if mayBlend s r ∧ s.blendOn = some d.tickAbs ∧ s.alone = false ∧ d.mayStart c = true then
          let m := d.blendSeg c s r
          (d.modChain c fun x => { x with queue := rest, next := some m }).set (Reg.CH5_ACTIVE_SEQ c) (segSeq r)
        else d
      | _, _ => d

/-! ## Chain control (R113) -/

/-- CONTROL 1 RUN, 2 PAUSE, 3 FLUSH, 4 ABORT as the latch takes them. (DEDUCED, log 51, safe.) -/
def Dev.chainRun (d : Dev) (c : Nat) : Dev := d.when (!(d.chain c).aborting) fun d => d.set (Reg.CH5_CONTROL c) 1
def Dev.chainPause (d : Dev) (c : Nat) : Dev := d.when (!(d.chain c).aborting) fun d => d.set (Reg.CH5_CONTROL c) 2
def Dev.chainFlush (d : Dev) (c : Nat) : Dev := d.modChain c fun x => { x with queue := [] }
def Dev.chainAbort (d : Dev) (c : Nat) : Dev :=
  (d.modChain c fun x => { x with aborting := true }).set (Reg.CH5_CONTROL c) 4

/-- λ has reached 0 under ABORT: every record is discarded, the chain is paused with an empty queue, and its members
rest where the path stopped (R113). (DEDUCED, log 52, safe.) -/
def Dev.abortComplete (d : Dev) (c : Nat) : Dev :=
  if (d.chain c).aborting = true ∧ (d.chain c).lambda = 0 then
    let mem := if d.executing c then d.members c else []
    let pts := mem.map fun m => (m, d.pathPoint m)
    let d := d.discardQueue c
    each pts (fun (m, p) d =>
      let d := match p with | some (p, _, _) => d.emit m p 0 0 | none => d
      if d.axState m = AxState.moving then (d.addFlags m Flag.inTarget).setAxState m AxState.enabled else d) d
  else d

/-- The codes of `CH[c].5.02`. -/
def Dev.chainControl (d : Dev) (c code : Nat) : Dev :=
  match code with
  | 1 => d.chainRun c | 2 => d.chainPause c | 3 => d.chainFlush c | 4 => d.chainAbort c | _ => d

/-! ## The state of a chain (R141) -/

/-- The state of a chain from its members, the first matching row of R141; 7 is HELD_BY_ZONE. -/
def Dev.derivedState (d : Dev) (c : Nat) : Nat :=
  let st := (d.members c).map d.axState
  if st.isEmpty then AxState.disabled
  else if st.contains AxState.fault then AxState.fault
  else if st.contains AxState.stopping then AxState.stopping
  else if (d.chain c).hold ≠ 0 ∧ (d.chain c).lambda = 0 then 7
  else if st.contains AxState.moving then AxState.moving
  else if st.contains AxState.test then AxState.test
  else if st.all (· = AxState.enabled) then AxState.enabled
  else if st.all (fun x => x = AxState.ready ∨ x = AxState.enabled) then AxState.ready
  else AxState.disabled

/-- The chain states derived again at an SI, and a chain's state as derived last (R141). (DEDUCED, log 64, safe.) -/
def Dev.deriveStates (d : Dev) : Dev := iterate 16 (fun c d => d.set (Reg.CH1_STATE c) (d.derivedState c)) d
/-- The state last derived. (DEDUCED, log 64, safe.) -/
def Dev.chainState (d : Dev) (c : Nat) : Nat := d.nat (Reg.CH1_STATE c)

end Sys2Proof.Machine
end

