-- ==== Sys2Proof/Machine/Generator.lean ====
section
/-! DEFINITION. The run of an axis generator (R93 to R95, R114 to R118), taking a waiting command at a run, the control
word at a command latch (R21, R96, R97), the ends of plans and stops, and writes of the limits (R101). -/

namespace Sys2Proof.Machine

/-! ## Taking a command at a run (R94, R98, R99) -/

/-- A command taken in a run: refused outside the cases of R98, else its plan starts. (DEDUCED, log 42, unsafe.) -/
def Dev.takeAt (d : Dev) (n : Nat) (h : Held) : Dev :=
  if !d.accepts n h then d.commandRefused n h Code.COMMAND_REFUSED
  else match h.code with
    | 1 => d.takeMove n h h.target
    | 2 => d.takeMove n h (wrapBits 64 ((d.axis n).baseTgt.getD (d.setpoint n) + h.target))
    | 3 => ((((d.newCommand n h).abandonHoming n).planVelocity n h).beginMotion n).commandDone n h.seq Code.STATUS_OK
    | 6 => d.takeQuickStop n h
    | 7 => d.startHoming n h
    | 8 | 9 => d.takeTrack n h
    | _ => d.takeStop n h

/-- A command the latch takes (R94): held until POS runs, a later one replacing it. -/
def Dev.hold (d : Dev) (n : Nat) (h : Held) : Dev :=
  let d := match (d.axis n).held with
    | some _ => d.raiseAxis Code.CMD_REPLACED n
    | none => d
  d.modAxis n fun a => { a with held := some h }

/-- The command that waits for this run. -/
def Dev.takeHeld (d : Dev) (n : Nat) : Dev :=
  match (d.axis n).held with
  | some h => (d.modAxis n fun a => { a with held := none }).takeAt n h
  | none => d

/-- The parameters of a command as `AX[n].4.02` to `06` stand (R131). -/
def Dev.params (d : Dev) (n code : Nat) : Held :=
  { code, target := d.reg (Reg.AX4_TARGET n), vel := d.reg (Reg.AX4_VEL n), acc := d.reg (Reg.AX4_ACC n),
    jerk := d.reg (Reg.AX4_JERK n), seq := d.nat (Reg.AX4_SEQ n) }

/-! ## Gearing and following (R114 to R118) -/

/-- FOLLOW_LIMITED (R117): the flag of this run, raised at the first limited run of an episode, which ends after 32
consecutive runs that are not limited. -/
def Dev.followLimited (d : Dev) (n : Nat) (limited : Bool) : Dev :=
  let g := (d.axis n).gear
  let setRun := fun (d : Dev) (r : Option Nat) => d.modAxis n fun a => { a with gear := { a.gear with limited := r } }
  if limited then
    let d := setRun (d.addFlags n Flag.followLimited) (some 0)
    if g.limited.isNone then d.raiseAxis Code.FOLLOW_LIMITED n else d
  else
    let d := d.dropFlags n Flag.followLimited
    match g.limited with
    | some k => setRun d (if 31 ≤ k then none else some (k + 1))
    | none => d

/-- The lag against its window (R117). -/
def Dev.checkLag (d : Dev) (n : Nat) (x : Int) : Dev :=
  let lag := |x - d.setpoint n|
  let d := d.set (Reg.AX5_LAG n) lag
  if d.limit n (Reg.AX2_FOLLOW_WINDOW n) < lag then d.fault n Code.FOLLOW_ERROR (d.nat (Reg.AX14_FOLLOW_ERROR n)) else d

/-- The plan's advance in one run: Tp on the emergency ramp and for axes of no chain, else what λ gave (R93). -/
def Dev.advance (d : Dev) (n : Nat) : Rat :=
  if (d.axis n).motion = .ramp ∨ (d.chainOf n).isNone then d.posPeriod n else (d.axis n).adv

/-- The plan of an axis advanced by one run and emitted. -/
def Dev.advancePlan (d : Dev) (n : Nat) (adv : Rat) : Dev :=
  match (d.axis n).plan with
  | none => d
  | some p =>
    let t := (d.axis n).planT + adv
    let (x, v, a) := p.emit t
    (d.modAxis n fun y => { y with planT := t }).emit n x v a

/-- One run under GEAR or FOLLOW; the stop at a soft limit begins in the run that finds it, and after it the set-point is held and the
lag still checked (R105). -/
def Dev.runTrack (d : Dev) (n : Nat) : Dev :=
  let a := d.axis n
  let (xs, ds, vs) := d.sourceStep n a.gear
  let gearing : Bool := match a.command with | some h => h.code == 8 | none => false
  let (x, vt, g) := if gearing then d.gearStep n a.gear ds vs else (xs, vs, a.gear)
  let d := d.modAxis n fun a => { a with gear := { g with prev := some xs } }
  let d := d.when (gearing && g.full) fun d => d.set (Reg.AX6_ENGAGED n) 1
  if a.motion = .heldSource then (d.emit n (d.setpoint n) 0 0).checkLag n x
  else
    let ((p, v, ac), limited) := d.trackStep n x vt
    let d := d.softCheck n none (p, v, ac)
    if (d.axis n).motion = .gear ∨ (d.axis n).motion = .follow then
      ((d.emit n p v ac).followLimited n limited).checkLag n x
    else (d.dropFlags n Flag.followLimited).advancePlan n (d.advance n)

/-! ## The run (R93, R95, R105) -/

/-- The plan time left in µs (R132): 0xFFFF_FFFF under VELOCITY, GEAR and FOLLOW, their stop at a soft limit included. -/
def Dev.remain (d : Dev) (n : Nat) : Nat :=
  let a := d.axis n
  let endless := match a.command with | some h => h.code == 3 || h.code == 8 || h.code == 9 | none => false
  if a.motion ≠ .rest ∧ endless = true then 0xFFFFFFFF else
  match a.motion, a.plan with
  | .rest, _ => 0
  | .gear, _ | .follow, _ | .heldSource, _ => 0xFFFFFFFF
  | _, some p =>
    if p.final.isNone then 0xFFFFFFFF else (min (ratCeil (b64 (b64 (p.time - b64 a.planT) * 1000000))) 0xFFFFFFFF).toNat
  | _, none => 0

/-- One run of a plan or of the emergency ramp: the soft limits are checked, then the plan advances and is emitted. -/
def Dev.runPlan (d : Dev) (n : Nat) : Dev :=
  match (d.axis n).plan with
  | none => d
  | some p =>
    let d := d.softCheck n p.final (p.emit ((d.axis n).planT + d.advance n))
    d.advancePlan n (d.advance n)

/-- A plan in progress taken up anew from the present state after a write of the limits (R101). (DEDUCED, log 43, safe.) -/
def Dev.replanNow (d : Dev) (n : Nat) : Dev :=
  let a := d.axis n
  if a.replan = false then d
  else
    let d := d.modAxis n fun a => { a with replan := false }
    if a.motion ≠ .plan then d
    else if d.homeState n ≠ HomeState.idle then d.homeReplan n
    else if a.softStop then d.normalStop n
    else match a.stopWhy, a.command, a.baseTgt with
      | .none, some h, some t => d.planMove n h t
      | .none, some h, none =>
        if h.code = 3 then d.planVelocity n h else if h.code = 4 ∨ h.code = 5 then d.planStop n h else d.normalStop n
      | .command, some h, _ => d.planStop n h
      | .none, none, _ => d
      | _, _, _ => d.normalStop n

/-- One run of the generator of an axis (R93): the waiting command first, then the path of its chain, its plan or its
source; the status of R132 follows. (DEDUCED, log 42, unsafe.) -/
def Dev.runAxis (d : Dev) (n : Nat) : Dev :=
  let d := (d.takeHeld n).replanNow n
  let tracks := (d.axis n).motion == .gear || (d.axis n).motion == .follow
  let d := d.when (!tracks) fun d => d.dropFlags n Flag.followLimited
  let d :=
    if !d.closed n then d
    else
      let st := d.axState n
      let onPath := (st == AxState.moving || st == AxState.test) && (d.axis n).motion == .rest
      match (if onPath then d.pathPoint n else none) with
      | some (p, v, a) => d.emit n p (toFix v) (toFix a)
      | none =>
        match (d.axis n).motion with
        | .rest => d.emit n (d.setpoint n) 0 0
        | .gear | .follow | .heldSource => d.runTrack n
        | _ => d.runPlan n
  let d := d.homingTravel n
  let d := d.set (Reg.AX5_REMAIN_US n) (d.remain n)
  let locked : Bool := match d.chainOf n with | some c => d.executing c | none => false
  let d := if locked then d.addFlags n Flag.locked else d.dropFlags n Flag.locked
  d.modAxis n fun a => { a with adv := 0 }

/-! ## Ends (R95, R96, R105) -/

/-- PLAN_END: a plan that has reached its end at rest; the axis returns to ENABLED (TEST stays TEST), IN_TARGET set; a
back-off or a referenced homing ends; a source followed up to a soft limit stays MOVING with its set-point held.
(DEDUCED, log 52, safe.) -/
def Dev.planEnd (d : Dev) (n : Nat) : Dev :=
  let a := d.axis n
  let st := d.axState n
  if (st ≠ AxState.moving ∧ st ≠ AxState.test) ∨ a.plan.isNone = true ∨ d.planDone n = false then d
  else
    let target := (a.plan.bind fun p => p.final).getD (d.setpoint n)
    let tracked : Bool := match a.command with | some h => (h.code == 8 || h.code == 9) | none => false
    let d := d.emit n target 0 0
    if a.softStop && tracked then d.modAxis n fun a => { a with plan := none, motion := .heldSource }
    else
      let d := d.modAxis n fun a => { a with plan := none, motion := .rest, baseTgt := none, softStop := false }
      let d := (d.set (Reg.AX5_ACTIVE_CMD n) 0).addFlags n Flag.inTarget
      if d.homeState n = HomeState.done ∨ d.homeState n = HomeState.backoff then d.homingDone n
      else if st = AxState.moving then d.setAxState n AxState.enabled else d

/-- STANDSTILL: a stop that has reached standstill: to ENABLED after a command, to READY with the loops opened after
ENABLE was cleared, to FAULT with the loops closed after HOLD, QSTOP or SS2, where a more severe demand of this tick still takes over
from the next (R16); an SS1 waits for its torque removal (R96, R383). (DEDUCED, log 52, safe.) -/
def Dev.standstill (d : Dev) (n : Nat) : Dev :=
  let a := d.axis n
  if d.axState n ≠ AxState.stopping ∨ d.planDone n = false then d
  else
    let target := (a.plan.bind fun p => p.final).getD (d.setpoint n)
    let d := (d.emit n target 0 0).set (Reg.AX5_ACTIVE_CMD n) 0
    let rest := fun (d : Dev) => d.modAxis n fun a =>
      { a with plan := none, motion := .rest, baseTgt := none, softStop := false, stopWhy := .none }
    match a.stopWhy with
    | .none | .command | .quick => (rest d).setAxState n AxState.enabled
    | .disable => (((rest d).setAxState n AxState.ready).modAxis n fun a => { a with closedAt := none })
    | .reaction r =>
      if r = Reaction.ss1 then d
      else
        let d := ((rest d).setAxState n AxState.fault).set (Reg.AX1_FAULT_CODE n) a.cause
        d.modAxis n fun a => { a with loopsOff := false, reactNow := 0 }

/-- SOURCE_LOST (R118): a measured or remote source aged beyond AGE_LIMIT carries out the FOLLOW_ERROR reaction. -/
def Dev.sourceLost (d : Dev) (n : Nat) : Dev :=
  let m := (d.axis n).motion
  let k := d.nat (Reg.AX6_SRC_KIND n)
  if (m = .gear ∨ m = .follow ∨ m = .heldSource) ∧ (k = 4 ∨ k = 5) ∧ d.ageLimit n < (d.sourceVal n).age then
    d.fault n Code.SOURCE_LOST (d.nat (Reg.AX14_FOLLOW_ERROR n))
  else d

/-- LIMITS_WRITE (R101, R129): a write of `AX[n].2` or `AX[n].3`, refused where it would break the rules of R129; it
takes effect at the next command latch, from which a plan in progress is replanned. (DEDUCED, log 53, safe.) -/
def Dev.limitsWrite (d : Dev) (n obj sub : Nat) (v : Int) : Dev :=
  let k := Reg.key (0x2000 + 16 * n + obj) sub
  match entryOf k with
  | some (e, _) =>
    let v := e.ty.wrap v
    let now := fun x => if x = k then v else d.reg x
    let soft := decide (now (Reg.AX2_SOFT_EN n) ≠ 0 ∧ now (Reg.AX2_SOFT_MAX n) ≤ now (Reg.AX2_SOFT_MIN n))
    if (obj ≠ 2 ∧ obj ≠ 3) ∨ 128 ≤ n then d.finish Code.OD_NO_ENTRY
    else if !e.rng.has v || (obj == 2 && soft) then d.finish Code.OD_RANGE
    else
      let old := d.reg k
      let d := d.modAxis n fun a =>
        { a with limKeep := if (a.limKeep.lookup k).isSome then a.limKeep else (k, old) :: a.limKeep, replan := true }
      (d.set k v).finish Code.STATUS_OK
  | none => d.finish Code.OD_NO_ENTRY

end Sys2Proof.Machine
end

