-- ==== Sys2Proof/Machine/SafeQuery.lean ====
section
/-! DEFINITION. What other blocks ask of the safety domain (spec/11): scopes, demands and latches on an axis, the
STO_GROUP outputs, startup tests, and safely-limited speed in force. -/

namespace Sys2Proof.Machine

/-- Bit `n` of a 16-byte axis mask. -/
def maskHas (mask : Bytes) (n : Nat) : Bool := (leNat mask).testBit n

/-- Whether an axis lies in the SCOPE of a chain mask and an axis mask (R372). -/
def Dev.inScope (d : Dev) (chains : Nat) (axes : Bytes) (n : Nat) : Bool :=
  maskHas axes n || match d.chainOf n with | some c => chains.testBit c | none => false

/-- SCOPE of safe input function `k`, of safe output `k`. -/
def Dev.fnScope (d : Dev) (k n : Nat) : Bool :=
  d.inScope (d.nat (act (Reg.R5010_CHAIN_MASK k))) (d.bytes (act (Reg.R5010_AXIS_MASK k))) n
def Dev.outScope (d : Dev) (k n : Nat) : Bool :=
  d.inScope (d.nat (act (Reg.R5020_CHAIN_MASK k))) (d.bytes (act (Reg.R5020_AXIS_MASK k))) n

abbrev FnKind.estop : Nat := 1
abbrev FnKind.guard : Nat := 2
abbrev FnKind.slsSelect : Nat := 3
abbrev FnKind.reset : Nat := 4

def Dev.fnKind (d : Dev) (k : Nat) : Nat := d.nat (act (Reg.R5010_KIND k))

/-- Whether a function is in demand, its discrepancy hold counting as demand (R371). -/
def Dev.fnDemand (d : Dev) (k : Nat) : Bool := (d.safeFn k).demand || (d.safeFn k).disc

/-- Whether STO is demanded or latched for an axis (R375, R380, R391). -/
def Dev.stoHeld (d : Dev) (n : Nat) : Bool := d.nat (Reg.R5080_SAFE_STATE n) == 4

/-- A stop latched for an axis (R391). -/
def Dev.latched (d : Dev) (n : Nat) : Bool := !(d.axSafe n).latches.isEmpty

/-- The functions that demand a stop of an axis now (R372). -/
def Dev.stopDemanded (d : Dev) (n : Nat) : Bool :=
  (List.range 8).any fun k =>
    (d.fnKind k == FnKind.estop || d.fnKind k == FnKind.guard) && d.fnDemand k && d.fnScope k n

/-- Whether a STO_GROUP output whose SCOPE holds the axis is off or in FAULT, which demands STO (R375). -/
def Dev.groupOff (d : Dev) (n : Nat) : Bool :=
  (List.range 8).any fun k =>
    d.nat (act (Reg.R5020_KIND k)) == 1 && d.outScope k n &&
      (d.nat (Reg.R5020_STATE k) == 0 || d.nat (Reg.R5020_STATE k) == 3)

/-- Whether a STO_GROUP output in FAULT holds STO on the axis (R378), which blocks acknowledgement (R391, R97).
(DEDUCED, log 108, safe.) -/
def Dev.groupFault (d : Dev) (n : Nat) : Bool :=
  (List.range 8).any fun k =>
    d.nat (act (Reg.R5020_KIND k)) == 1 && d.outScope k n && d.nat (Reg.R5020_STATE k) == 3

/-- Whether a GUARD that has not passed its startup test covers the axis (R373). -/
def Dev.testPending (d : Dev) (n : Nat) : Bool :=
  (List.range 8).any fun k => d.fnKind k == FnKind.guard && (d.safeFn k).test && d.fnScope k n

/-- Whether axis SLS is in force (R387). -/
def Dev.slsActive (d : Dev) (n : Nat) : Bool := d.flag (Reg.R5080_SLS_ACTIVE n)

/-- Whether the configuration skew blocks enabling (R463, SKEW_REACTION 1). -/
def Dev.skewBlocks (d : Dev) : Bool :=
  d.nat Reg.R1220_SKEW_REACTION == 1 && !(d.bytes Reg.R1220_SKEW_NODES).isEmpty

/-! ## Feedback in use (R70, R74) -/

/-- The ages of an axis's feedback by channel: position, velocity, current, DC link, AUX (`AX[n].10.05`). -/
def Feedback.ages (f : Feedback) : List Nat := [f.pos.age, f.vel.age, f.curQ.age, f.vdc.age, f.aux.age]

/-- Whether the active levels or FF_MODE of an axis use a feedback channel (R55, R66, R70, R74). -/
def Dev.usesChannel (d : Dev) (n ch : Nat) : Bool :=
  let direct := d.reg (act (Reg.AX7_MODE n)) == 1
  match ch with
  | 0 => true
  | 1 => d.setting n (Reg.AX10_VEL_SRC n) != 1
  | 2 => direct
  | 3 => direct && (d.nat (act (Reg.AX7_FF_CUR n)) == 1 || d.nat (act (Reg.AX7_FF_CUR n)) == 3)
  | 4 => d.flag (act (Reg.AX7_AUX_EN n))
  | _ => false

/-- The first used channel whose age exceeds AGE_LIMIT. -/
def Dev.lostChannel (d : Dev) (n : Nat) : Option Nat :=
  (List.range 5).find? fun ch => d.usesChannel n ch && decide (d.ageLimit n < (d.axis n).fb.ages.getD ch 0)

/-- Whether a used channel shows no value of this round. -/
def Dev.oldChannel (d : Dev) (n : Nat) : Bool :=
  (List.range 5).any fun ch => d.usesChannel n ch && decide (1 ≤ (d.axis n).fb.ages.getD ch 0)

/-- Whether a used channel is aged but not lost (R70). -/
def Dev.agedChannel (d : Dev) (n : Nat) : Bool :=
  (List.range 5).any fun ch =>
    let age := (d.axis n).fb.ages.getD ch 0
    d.usesChannel n ch && decide (1 ≤ age ∧ age ≤ d.ageLimit n)

/-- Whether bank `b` (0 to 2: banks 1 to 3, 3 the safe bank) is lost, or was measured and found in no range (R536, R537).
(DEDUCED, log 139, safe.) -/
def Dev.bankDead (d : Dev) (b : Nat) : Bool :=
  d.nat (Reg.R4000_STATE_1 + b) == 2 || (d.nat (Reg.R4000_STATE_1 + b) == 0 && d.nat (Reg.R4000_MV_1 + b) != 0)

/-- Whether a bank loss stops the axis (R537): bank 1 with a local input as limit or home switch, bank 2 with an encoder source.
(DEDUCED, log 139, safe.) -/
def Dev.bankBlocks (d : Dev) (n : Nat) : Bool :=
  (d.nat Reg.R4000_STATE_1 == 2 && (List.range 3).any fun r => decide (d.inputOf n r < 32)) ||
    (d.nat Reg.R4000_STATE_2 == 2 && d.nat (Reg.AX6_SRC_KIND n) == 2)

/-- Whether a fault condition that the LM4128 checks every tick is present for the axis (R97, R391), or the
separation condition of its chain fails at O_MIN (R177). -/
def Dev.faultPresent (d : Dev) (n : Nat) : Bool :=
  (d.lostChannel n).isSome || d.latched n || d.stopDemanded n || d.groupFault n || d.bankBlocks n ||
    match d.chainOf n with | some c => d.flag (act (Reg.R3210_SSM_EN c)) && (d.chain c).minFail | none => false

end Sys2Proof.Machine
end

