-- ==== Sys2Proof/Machine/Latch.lean ====
section
/-! DEFINITION. The command latch (R21) and the profile engine's tick: the control word by levels (R96), FAULT_ACK
(R97), the profile order (R32) and its overrun (R31). -/

namespace Sys2Proof.Machine

/-! ## The control word (R96, R97) -/

/-- Loops closed from READY: every state word and level output cleared (R60), the set-point on the measured position. A bumpless
replacement that waits (R78) and the saturation runs end with them. (DESIGN CHOICE, log 153, safe.) -/
def Dev.closeLoops (d : Dev) (n : Nat) : Dev :=
  let d := (d.setAxState n AxState.enabled).holdMeasured n
  let d := (d.set (Reg.AX1_REACTION n) 0).modAxis n fun a =>
    { a with cur := {}, velL := {}, posL := {}, auxL := {}, loopsOff := false, closedAt := some d.tickAbs }
  d.setAxSafe n { d.axSafe n with testTold := false }

/-- The ENABLE level over READY: closes the loops while the device is in RUN, no fault is pending and STO is not
demanded; refused by a startup test (R373) or a configuration skew (R463). -/
def Dev.tryEnable (d : Dev) (n : Nat) : Dev :=
  if d.state ≠ DevState.run ∨ d.faultPresent n = true ∨ d.stoHeld n = true ∨ d.groupOff n = true then d
  else if d.testPending n then
    let x := d.axSafe n
    let d := d.when (!x.testTold) fun d => d.raiseAxis Code.TEST_PENDING n
    d.setAxSafe n { x with testTold := true }
  else if d.skewBlocks then d.raiseAxis Code.CONFIG_SKEW n
  else d.closeLoops n

/-- FAULT_ACK (R96, R97): refused while a fault condition is present; else to ENABLED on the measured position with
closed loops, to READY with torque off. -/
def Dev.faultAck (d : Dev) (n : Nat) : Dev :=
  if d.axState n ≠ AxState.fault ∨ d.faultPresent n = true then d
  else
    let off := (d.axis n).loopsOff
    let d := (d.set (Reg.AX1_REACTION n) 0).set (Reg.R5080_SAFE_STATE n) 0
    let d := d.setAxSafe n
      { d.axSafe n with stopKind := 0, chainStp := false, pRef := none, still := 0, atRest := false, blind := false }
    if off then (d.setAxState n AxState.ready).modAxis n fun a => { a with reactNow := 0, loopsOff := false }
    else (d.setAxState n AxState.enabled).holdMeasured n

/-- SWITCH_ON at a latch (R96): READY with a ready drive, DISABLED when cleared or the drive is not ready. -/
def Dev.switchLevel (d : Dev) (n : Nat) : Dev :=
  let on := d.bit (Reg.AX1_CONTROL n) 0 && (d.axis n).fb.ready
  if d.axState n = AxState.disabled ∧ on = true then d.setAxState n AxState.ready
  else if d.axState n = AxState.ready ∧ on = false then d.setAxState n AxState.disabled
  else d

/-- ENABLE at a latch (R96): from READY the loops close; cleared, the axis stops with A_MAX and J_MAX and leaves its
chain's path (R551). -/
def Dev.enableLevel (d : Dev) (n : Nat) : Dev :=
  let st := d.axState n
  if d.bit (Reg.AX1_CONTROL n) 1 then
    if st = AxState.ready then d.tryEnable n else d
  else if st = AxState.enabled ∨ st = AxState.moving ∨ st = AxState.test then
    let d := (((d.chainStop n).abortInjection n).abandonHoming n).normalStop n
    (d.setAxState n AxState.stopping).modAxis n fun a =>
      { a with stopWhy := .disable, softStop := false, command := none }
  else d.setAxSafe n { d.axSafe n with testTold := false }

/-- TEST_REQ at a latch (R96): TEST while axis SLS is in force; left when cleared or SLS ends, to MOVING while a plan
runs. -/
def Dev.testLevel (d : Dev) (n : Nat) : Dev :=
  let st := d.axState n
  let on := d.bit (Reg.AX1_CONTROL n) 3 && d.slsActive n
  if st = AxState.enabled ∧ on = true then d.setAxState n AxState.test
  else if st = AxState.test ∧ on = false then
    let d := d.abortInjection n
    let moving := (d.axis n).motion != .rest || (match d.chainOf n with | some c => d.executing c | none => false)
    d.setAxState n (if moving then AxState.moving else AxState.enabled)
  else d

/-- The control word of an axis at a latch; a FAULT_ACK taken acts first and once, and SWITCH_ON and ENABLE then act
from the next latch. -/
def Dev.controlWord (d : Dev) (n : Nat) (ack : Bool) : Dev :=
  let d := d.clearBits (Reg.AX1_CONTROL n) 4
  if ack = true ∧ d.axState n = AxState.fault then d.faultAck n
  else if d.axState n = AxState.disabled ∨ (d.axState n = AxState.ready ∧
      !(d.bit (Reg.AX1_CONTROL n) 0 && (d.axis n).fb.ready)) then d.switchLevel n
  else ((d.enableLevel n).testLevel n)

/-- A control-word bit written (R128). -/
def Dev.setControlBit (d : Dev) (n i : Nat) (b : Bool) : Dev :=
  d.set (Reg.AX1_CONTROL n) (withBit (d.nat (Reg.AX1_CONTROL n)) i b)

/-! ## The profile order (R32) -/

/-- Axes in the control engine's order: direct mode first, then the others, each in axis order. -/
def Dev.controlOrder (d : Dev) : List Nat :=
  ((List.range 128).filter fun n => d.reg (act (Reg.AX7_MODE n)) == 1) ++
    (List.range 128).filter fun n => d.reg (act (Reg.AX7_MODE n)) != 1

/-- The number that stands for the interpolator of chain `c` in the profile order. -/
abbrev interp (c : Nat) : Nat := 1000 + c

/-- An axis with everything that comes ahead of it: its chain's interpolator and its commanded-position source. -/
def Dev.placeAxis (d : Dev) (fuel n : Nat) (l : List Nat) : List Nat :=
  match fuel with
  | 0 => l
  | fuel + 1 =>
    if l.contains n then l
    else
      let l := match d.chainOf n with
        | some c =>
          if l.contains (interp c) then l else l ++ [interp c]
        | none => l
      let src := d.nat (Reg.AX6_SRC_INDEX n)
      let l := if d.nat (Reg.AX6_SRC_KIND n) = 3 ∧ src < 128 ∧ src ≠ n then d.placeAxis fuel src l else l
      if l.contains n then l else l ++ [n]

/-- The profile order (R32). -/
def Dev.profileOrder (d : Dev) : List Nat := d.controlOrder.foldl (fun l n => d.placeAxis 128 n l) []

/-- The order in force: fixed at the last validation (R32); before one, that of the present settings. -/
def Dev.orderInForce (d : Dev) : List Nat := d.eng.order.getD d.profileOrder

/-- The entries of the order that evaluate in this tick. -/
def Dev.profileWork (d : Dev) : List Nat :=
  d.orderInForce.filter fun x => 1000 ≤ x || d.posRuns x

/-- The evaluation of the profile engine up to `reach` entries; what is left repeats its set-point (R31, R32). -/
def Dev.runProfiles (d : Dev) (reach : Nat) : Dev :=
  let work := d.profileWork
  let left := work.drop reach
  let lateMembers := (left.filter (1000 ≤ ·)).flatMap fun x => if d.executing (x - 1000) then (d.members (x - 1000)).filter d.posRuns else []
  let late := ((List.range 128).filter fun n => left.contains n || lateMembers.contains n)
  let d := each (work.take reach) (fun x d =>
    if 1000 ≤ x then d.interpolate (x - 1000) else if lateMembers.contains x then d else d.runAxis x) d
  { d with lateP := late }

/-! ## The command latch (R21) -/

/-- The commands written before the latch: of two to one axis the later is taken, the earlier never executed.
(DEDUCED, log 60, safe.) -/
def Dev.takeCommands (d : Dev) (ws : List Wait) : Dev :=
  iterate 128 (fun n d =>
    let cs := ws.filterMap fun w => match w with | .cmd m code => if m = n then some code else none | _ => none
    match cs.getLast? with
    | some code =>
      let d := iterate (cs.length - 1) (fun _ d => d.raiseAxis Code.CMD_REPLACED n) d
      d.hold n (d.params n code)
    | none => d) d

/-- COMMAND_LATCH (R20, R21): at +2.0 µs the limits, commands, control words and chain controls written before it are
taken, and the profile engine evaluates the first `reach` entries of its order. -/
def Dev.commandLatch (d : Dev) (reach : Nat) : Dev :=
  let d := d.at 2000
  let ws := d.waits
  let d := { d with axes := mmap {} d.axes fun _ a => { a with limKeep := [] } }
  let d := iterate 128 (fun n d =>
    let ack := d.bit (Reg.AX1_CONTROL n) 2 || ws.contains (.ack n)
    if d.nat (Reg.AX1_CONTROL n) ≠ 0 ∨ d.axState n ≠ AxState.disabled then d.controlWord n ack else d) d
  let d := d.takeCommands ws
  let d := each ws (fun w d => match w with | .ctl c code => d.chainControl c code | _ => d) d
  { d.runProfiles reach with waits := [] }

/-! ## Overruns (R31, R44) -/

/-- An overrun counted: its flag, its counter, and when it was. -/
def Dev.overrun (d : Dev) (code counter : Nat) : Dev :=
  let d := (d.orBits Reg.R1101_OVERRUN_FLAGS (2 ^ (code - 0x1001))).count counter
  (d.set Reg.R1101_LAST_CYCLE d.cycle).set Reg.R1101_LAST_TICK d.clk.tick

/-- PROFILE_OVERRUN at +11.0 µs: every axis left unevaluated takes its reaction (R31); logged for each of them, counted once.
(DESIGN CHOICE, log 147, safe.) -/
def Dev.profileOverrun (d : Dev) : Dev :=
  let d := d.at 11000
  if d.lateP.isEmpty then d
  else
    let d := each d.lateP (fun n d =>
      let r := d.nat (Reg.AX14_PROFILE_OVERRUN n)
      (d.raiseAt 11000 Code.PROFILE_OVERRUN Kind.axis n r 0).react n Code.PROFILE_OVERRUN r) d
    { d with lateP := [] }.overrun Code.PROFILE_OVERRUN Reg.R1101_PROFILE_COUNT

end Sys2Proof.Machine
end

