-- ==== Sys2Proof/Machine/Signal.lean ====
section
/-! DEFINITION. Injection signals (R196 to R200): the value a generator adds in an evaluation of its level. The
sinusoids are computed here to well below one last bit; the rule lets the result lie within 1 LSB of the exact value,
so the last bit is free (Config). -/

namespace Sys2Proof.Machine

/-! ## Logarithm and exponential in fixed point with 96 fractional bits (R199, LOG_CHIRP) -/

abbrev hp1 : Int := 79228162514264337593543950336
def hpMul (a b : Int) : Int := (a * b).fdiv hp1
def hpOf (q : Rat) : Int := ratConv (q * hp1)
/-- ln 2. -/
abbrev hpLn2 : Int := 54916777467707473351141471128

/-- 2 artanh z by its series. -/
def hpAtanh2 (fuel : Nat) (z z2 pw : Int) (k : Int) (s : Int) : Int :=
  match fuel with
  | 0 => 2 * s
  | fuel + 1 => hpAtanh2 fuel z z2 (hpMul pw z2) (k + 2) (s + pw.fdiv k)

/-- The natural logarithm of a positive rational. -/
def hpLn (q : Rat) : Int :=
  let e := ratLog2 q
  let m := q / pow2 e
  let z := hpOf ((m - 1) / (m + 1))
  e * hpLn2 + hpAtanh2 40 z (hpMul z z) z 1 0

/-- The exponential by its series after taking out powers of 2. -/
def hpExp (x : Int) : Rat :=
  let k := x.fdiv hpLn2
  let r := x - k * hpLn2
  let s := ((List.range 40).foldl (fun (acc : Int × Int) i => (acc.1 + acc.2, (hpMul acc.2 r).fdiv (i + 1))) (0, hp1)).1
  (s : Rat) / hp1 * pow2 k

/-! ## PRBS (R200) -/

/-- The tap bits of the shift register of `m` bits. -/
def prbsTaps (m : Nat) : List Nat :=
  match m with
  | 7 => [7, 6] | 8 => [8, 6, 5, 4] | 9 => [9, 5] | 10 => [10, 7] | 11 => [11, 9] | 12 => [12, 6, 4, 1]
  | 13 => [13, 4, 3, 1] | 14 => [14, 5, 3, 1] | 15 => [15, 14] | 16 => [16, 15, 13, 4] | 17 => [17, 14]
  | 18 => [18, 11] | 19 => [19, 6, 2, 1] | 20 => [20, 17] | _ => []

/-- One bit period: the output bit `m`, then the shift with the XOR of the taps in bit 1 (bit `k` is bit `k - 1` of the
number). -/
def prbsStep (m reg : Nat) : Bool × Nat :=
  let f := (prbsTaps m).foldl (fun x k => xor x (reg.testBit (k - 1))) false
  (reg.testBit (m - 1), (reg * 2 + (if f then 1 else 0)) % 2 ^ m)

/-! ## The value of an evaluation (R199) -/

/-- The evaluations of one repeat (R199). -/
def Dev.genPeriod (d : Dev) (g : Nat) : Nat :=
  match d.nat (Reg.R3430_SIGNAL g) with
  | 1 => (2 ^ d.nat (Reg.R3430_PRBS_ORDER g) - 1) * d.nat (Reg.R3430_PRBS_HOLD g)
  | 4 => d.nat (Reg.R3430_MS_PERIOD g)
  | 5 => 2 * d.nat (Reg.R3430_DURATION g)
  | _ => d.nat (Reg.R3430_DURATION g)

/-- The lines of a multisine: k, a, θ in turns as Q1.31 codes (R217). -/
def Dev.genLines (d : Dev) (g : Nat) : List (Nat × Int × Int) :=
  let b := d.bytes (Reg.R3430_LINES g)
  (List.range (b.length / 12)).map fun i => (fieldLE b (12 * i) 2, sfieldLE b (12 * i + 4) 4, sfieldLE b (12 * i + 8) 4)

/-- A fraction of a turn as a fixed-point number, whole turns left out. -/
def turnsOf (q : Rat) : Int := fxOf (q - ratFloor q)

/-- The phase of a chirp in turns after `τ` seconds of its sweep (R199). -/
def Dev.chirpPhase (d : Dev) (g : Nat) (tau Tc : Rat) : Rat :=
  let f0 := f32 (d.reg (Reg.R3430_F0 g))
  let f1 := f32 (d.reg (Reg.R3430_F1 g))
  if d.nat (Reg.R3430_SIGNAL g) = 2 then f0 * tau + (f1 - f0) * tau * tau / (2 * Tc)
  else
    let ln := hpLn (f1 / f0)
    f0 * Tc * (hpExp (hpMul ln (hpOf (tau / Tc))) - 1) / ((ln : Rat) / hp1)

/-- The value before fade as a fraction of A, and whether a multisine sum was saturated; the PRBS register moves. -/
def Dev.genShape (d : Dev) (g D : Nat) : Rat × Bool × Nat :=
  let x := d.injGen g
  let j := x.evals
  match d.nat (Reg.R3430_SIGNAL g) with
  | 1 =>
    let hold := max 1 (d.nat (Reg.R3430_PRBS_HOLD g))
    let (b, r) := if j % hold = 0 then prbsStep (d.nat (Reg.R3430_PRBS_ORDER g)) x.prbs else (x.bit, x.prbs)
    (if b then 1 else -1, false, r)
  | 4 =>
    let N := max 1 (d.nat (Reg.R3430_MS_PERIOD g))
    let ls := d.genLines g
    let L := ls.length
    let sum := (List.range L).foldl (fun (s : Rat) i =>
      let (k, a, th) := ls.getD i (0, 0, 0)
      let th : Rat := if d.flag (Reg.R3430_MS_SCHROEDER g) then -(((i + 1) * i : Nat) : Rat) / (2 * L : Nat) else q31 th
      s + q31 a * fxRat (fxSinCos (turnsOf (((k * (j % N) : Nat) : Rat) / N + th))).2) 0
    if 1 < sum then (1, true, x.prbs) else if sum < -1 then (-1, true, x.prbs) else (sum, false, x.prbs)
  | 5 => (if j % max 1 (d.genPeriod g) < d.nat (Reg.R3430_DURATION g) then 1 else 0, false, x.prbs)
  | _ =>
    let dur := max 1 (d.nat (Reg.R3430_DURATION g))
    let Te : Rat := (D : Rat) / 32000
    let ph := d.chirpPhase g ((j % dur : Nat) * Te) (dur * Te)
    (fxRat (fxSinCos (turnsOf ph)).1, false, x.prbs)

/-- Whether a generator has run its last repeat (R198). (DESIGN CHOICE, log 74, safe.) -/
def Dev.genOver (d : Dev) (g : Nat) : Bool :=
  let r := d.nat (Reg.R3430_REPEAT g)
  r != 0 && decide (r * d.genPeriod g ≤ (d.injGen g).evals)

/-- One of the numbers within 1 LSB of an exact value (R199). (DESIGN CHOICE, log 74, safe.) -/
def withinLsb (q : Rat) (pick : Nat) : Int :=
  let lo := ratCeil (q - 1)
  lo + (pick : Int) % (ratFloor (q + 1) - lo + 1)

/-- One evaluation of a running generator for a level with divisor `D`: its value x_j, and the generator moved on
(R196, R199); INJ_CLIPPED once per run. -/
def Dev.genStep (d : Dev) (g D : Nat) : Int × Dev :=
  let x := d.injGen g
  if x.running = false ∨ d.genOver g = true then (0, d.setGen g { x with last := 0 })
  else
    let (shape, clip, prbs) := d.genShape g D
    let fade := ratMin 1 (((x.evals + 1 : Nat) : Rat) / (max 1 (d.nat (Reg.R3430_FADE g)) : Nat))
    let exact := shape * d.reg (Reg.R3430_AMPLITUDE g) * fade
    let (k, d) := d.takeFresh
    let sinus := d.nat (Reg.R3430_SIGNAL g) == 2 || d.nat (Reg.R3430_SIGNAL g) == 3 || d.nat (Reg.R3430_SIGNAL g) == 4
    let v := satBits 32 (if sinus then withinLsb exact (Config.sinusoidLsb k) else ratConv exact)
    let d := d.setGen g { x with evals := x.evals + 1, prbs, last := v, bit := decide (0 < shape), told := x.told || clip }
    let d := d.when (clip && !x.told) fun d =>
      ((d.set (Reg.R3430_CLIPPED g) 1).set (Reg.R3430_STATUS g) Code.INJ_CLIPPED).raise Code.INJ_CLIPPED Kind.other 0 0 g
    (v, d)

/-- The generator that runs on a level of an axis. -/
def Dev.genOn (d : Dev) (n level : Nat) : Option Nat :=
  (List.range 16).find? fun g =>
    (d.injGen g).running && d.nat (Reg.R3430_AXIS g) == n && d.nat (Reg.R3430_LEVEL g) == level

end Sys2Proof.Machine
end

