-- ==== Sys2Proof/Machine/Control.lean ====
section
/-! DEFINITION. The control engine (spec/02): the section, the loop level, the cascade of an axis, feedback freshness,
saturation supervision, lanes. Signals are Q1.31 codes, coefficients Q3.29 codes, products exact integers in units of
2^-60 (R47, R49). -/

namespace Sys2Proof.Machine

/-! ## Numbers (R48, R50) -/

/-- `narrow` of R50: an accumulator in units of 2^-60 rounded convergently to Q1.31 and saturated; whether the
saturation changed the value. -/
def narrow (acc : Int) : Int × Bool :=
  let r := shrConv acc 29
  (satBits 32 r, r != satBits 32 r)

/-- A sum of Q1.31 codes saturated. (DEDUCED, log 31, safe.) -/
def satSum (x : Int) : Int × Bool := (satBits 32 x, x != satBits 32 x)

/-- R48: a 32.32 number as Q1.31 of the full scale 2^FSX; whether it was saturated. -/
def fullScale (e fsx : Int) : Int × Bool :=
  let s := 1 + fsx
  let v := if 0 < s then shrConv e s.toNat else e * 2 ^ (-s).toNat
  (satBits 32 v, v != satBits 32 v)

/-! ## Bank images (R75) -/

/-- A bank image read. -/
structure Bank where
  nPre  : Nat
  nCtl  : Nat
  nPost : Nat
  integ : Nat
  lLo   : Int
  lHi   : Int
  kAw   : Int
  kFfv  : Int
  kFfa  : Int
  secs  : List (List Int)
deriving DecidableEq, Repr

/-- The fields of an image. -/
def Bank.parse (b : Bytes) : Bank :=
  let nPre := fieldLE b 1 1; let nCtl := fieldLE b 2 1; let nPost := fieldLE b 3 1
  { nPre, nCtl, nPost, integ := fieldLE b 4 1, lLo := sfieldLE b 8 4, lHi := sfieldLE b 12 4, kAw := sfieldLE b 16 4,
    kFfv := sfieldLE b 20 4, kFfa := sfieldLE b 24 4,
    secs := (List.range (nPre + nCtl + nPost)).map fun i => (List.range 5).map fun j => sfieldLE b (32 + 20 * i + 4 * j) 4 }

/-- Whether the bytes are an image that R75 allows for a level (0 CUR, 1 VEL, 2 POS, 3 AUX) under a MODE. -/
def imageValid (level : Nat) (direct : Bool) (b : Bytes) : Bool :=
  let k := Bank.parse b
  fieldLE b 0 1 == 1 && decide (k.nPre ≤ 4 ∧ 1 ≤ k.nCtl ∧ k.nCtl ≤ 8 ∧ k.nPost ≤ 4 ∧ k.integ ≤ k.nCtl) &&
    fieldLE b 5 3 == 0 && fieldLE b 28 4 == 0 && decide (k.lLo < k.lHi) &&
    b.length == 32 + 20 * (k.nPre + k.nCtl + k.nPost) &&
    (k.kFfv == 0 || level == 1) && (k.kFfa == 0 || level == (if direct then 0 else 1))

/-- The image of a level in force, and the sections it holds. -/
def Dev.image (d : Dev) (n level : Nat) : Bytes := d.bytes (Reg.AX9_ACTIVE_CUR n + level)
def imageSections (b : Bytes) : Nat := fieldLE b 1 1 + fieldLE b 2 1 + fieldLE b 3 1

/-! ## The section (R52) -/

/-- One evaluation of a section: its new state words, `y1` being its output, and whether its store saturated.
(DESIGN CHOICE, log 30, safe.) -/
def section_ (k : List Int) (w : SecState) (x : Int) : SecState × Bool :=
  let c := fun i => k.getD i 0
  let (y, s) := narrow (c 0 * x + c 1 * w.x1 + c 2 * w.x2 - c 3 * w.y1 - c 4 * w.y2)
  ({ x1 := x, x2 := w.x1, y1 := y, y2 := w.y1 }, s)

/-- Sections in series from number `i` on; at number `last` the output is the controller's, which a bumpless switch
replaces by `bump` (R78). The result: states, output, controller output, whether a store saturated. -/
def runSections (secs : List (List Int)) (ws : List SecState) (i last : Nat) (bump : Option Int) (x ctl : Int) :
    List SecState × Int × Int × Bool :=
  match secs with
  | [] => ([], x, ctl, false)
  | k :: r =>
    let w := ws.headD {}
    let (w', s) := section_ k w x
    let (w', s) := match (if i = last then bump else none) with
      | some y => ({ w' with y1 := y }, false)
      | none => (w', s)
    let (rs, out, c, s') := runSections r ws.tail (i + 1) last bump w'.y1 (if i = last then w'.y1 else ctl)
    (w' :: rs, out, c, s || s')

/-- What one channel of a level gives: states, controller output, `u_raw`, `u`, and the saturations of stores and of the
back-calculation. -/
structure ChannelOut where
  secs : List SecState
  ctl  : Int
  uRaw : Int
  u    : Int
  sat  : Bool
  aw   : Bool
deriving DecidableEq, Repr

/-- Steps 2 to 8 of R56 for one channel: the sections, what is added before the limiter (feed-forward and injection),
the voltage scale where it applies (R67), the limiter and its back-calculation (R57). (DESIGN CHOICE, log 30, safe.) -/
def channel (b : Bank) (ws : List SecState) (bump : Option Int) (e : Int) (adds : List Int) (scale : Option Int) :
    ChannelOut :=
  let (ws, y, ctl, s1) := runSections b.secs ws 0 (b.nPre + b.nCtl - 1) bump e 0
  let y := adds.foldl (fun y a => (satSum (y + a)).1) y
  let (uRaw, s2) := match scale with
    | some s => narrow (y * s)
    | none => (y, false)
  let u := clamp b.lLo b.lHi uRaw
  if b.integ = 0 then { secs := ws, ctl, uRaw, u, sat := s1 || s2, aw := false }
  else
    let i := b.nPre + b.integ - 1
    let w := ws.getD i {}
    let (y1, s3) := narrow (w.y1 * 2 ^ 29 + b.kAw * satBits 32 (u - uRaw))
    { secs := ws.set i { w with y1 }, ctl, uRaw, u, sat := s1 || s2, aw := s3 }

/-! ## Rates, phases and structure (R55, R61, R62, R66) -/

/-- The divisor, the phase and the presence of a level in the structure in force. -/
def Dev.levelDiv (d : Dev) (n level : Nat) : Nat := max 1 (d.nat (act (Reg.AX7_DIV_CUR n + level)))
def Dev.levelPhase (d : Dev) (n level : Nat) : Nat := d.nat (act (Reg.AX7_PHASE_CUR n + level))
def Dev.direct (d : Dev) (n : Nat) : Bool := d.reg (act (Reg.AX7_MODE n)) == 1
def Dev.levelOn (d : Dev) (n level : Nat) : Bool :=
  match level with
  | 0 => d.direct n
  | 3 => d.flag (act (Reg.AX7_AUX_EN n))
  | _ => true

/-- Whether a level runs in tick `t` (R62). -/
def Dev.levelRuns (d : Dev) (n level t : Nat) : Bool :=
  d.levelOn n level && (t + 8 * d.levelDiv n level - d.levelPhase n level) % d.levelDiv n level == 0

/-- The innermost level of an axis (R61). -/
def Dev.innermost (d : Dev) (n : Nat) : Nat := if d.direct n then 0 else 1

/-- What the sections of a level count in tick `t` with an image: a CUR section counts twice (R58). -/
def Dev.levelLoad (d : Dev) (n level t : Nat) (img : Bytes) : Nat :=
  if d.levelRuns n level t then (if level = 0 then 2 else 1) * imageSections img else 0

/-- The sections of an axis that run in tick `t` under images by level. -/
def Dev.axisLoad (d : Dev) (n t : Nat) (img : Nat → Bytes) : Nat :=
  ((List.range 4).map fun l => d.levelLoad n l t (img l)).sum

/-- The sections an axis holds across its levels (R55). -/
def Dev.axisSections (d : Dev) (n : Nat) (img : Nat → Bytes) : Nat :=
  ((List.range 4).map fun l => if d.levelOn n l then imageSections (img l) else 0).sum

/-- The structure of `AX[n].7` as written, valid by R55, R61, R62, R66 and R69 (STRUCTURE_INVALID otherwise).
(DESIGN CHOICE, log 27, safe.) -/
def Dev.structureValid (d : Dev) (n : Nat) : Bool :=
  let direct := d.reg (Reg.AX7_MODE n) == 1
  let aux := d.flag (Reg.AX7_AUX_EN n)
  let div := fun l => d.nat (Reg.AX7_DIV_CUR n + l)
  let ph := fun l => d.nat (Reg.AX7_PHASE_CUR n + l)
  let step := fun outer inner =>
    [1, 2, 4, 8].any (fun k => div outer == div inner * k) && decide (div outer ≤ 8) && decide (ph outer < div outer) &&
      ph outer % max 1 (div inner) == ph inner
  let inner := if direct then 0 else 1
  [1, 2, 4].contains (div inner) && decide (ph inner < div inner) && (!direct || step 1 0) && step 2 1 &&
    (!aux || step 3 2) &&
    ([0, 2].contains (d.nat (Reg.AX7_FF_VEL n))) && decide (d.nat (Reg.AX7_FF_CUR n) ≤ 3) &&
    (direct || [0, 2].contains (d.nat (Reg.AX7_FF_CUR n))) &&
    (d.reg (Reg.AX7_SAT_FAULT_TICKS n) == 0 || decide (d.reg (Reg.AX7_SAT_WARN_TICKS n) < d.reg (Reg.AX7_SAT_FAULT_TICKS n))) &&
    [Reg.AX7_FSX_CUR n, Reg.AX7_FSX_VEL n, Reg.AX7_FSX_POS n, Reg.AX7_FSX_ACC n, Reg.AX7_FSX_TRQ n].all fun k =>
      decide (-31 ≤ d.reg k ∧ d.reg k ≤ 30)

/-! ## Levels of an axis -/

def Axis.lev (a : Axis) (level : Nat) : Level :=
  match level with | 0 => a.cur | 1 => a.velL | 2 => a.posL | _ => a.auxL
def Axis.putLev (a : Axis) (level : Nat) (x : Level) : Axis :=
  match level with
  | 0 => { a with cur := x } | 1 => { a with velL := x } | 2 => { a with posL := x } | _ => { a with auxL := x }
def Dev.modLevel (d : Dev) (n level : Nat) (f : Level → Level) : Dev :=
  d.modAxis n fun a => a.putLev level (f (a.lev level))

/-- Bits of SAT_STICKY set (R87). -/
def Dev.stick (d : Dev) (n : Nat) (b : Bool) (bit : Nat) : Dev :=
  d.when b fun d => d.orBits (Reg.AX8_SAT_STICKY n) (2 ^ bit)

/-- A code of the control engine for an axis, which `AX[n].8.11` shows (R87). -/
def Dev.loopCode (d : Dev) (n code : Nat) : Dev := d.set (Reg.AX8_LAST_CODE n) code

/-- A code with its configured reaction. -/
def Dev.loopFault (d : Dev) (n code key : Nat) (detail : Nat := 0) : Dev :=
  (d.loopCode n code).fault n code (d.nat key) detail

/-- The set-point a level sees from its outer level (R64): held, or one step further from the previous set-point to the
new one, with whether its narrowing saturated (R50); a change of INTERP goes on from what it saw last (R86).
(DEDUCED, log 148, safe.) -/
def Dev.fromOuter (d : Dev) (n level : Nat) : Int × Bool × Dev :=
  let x := (d.axis n).lev level
  let m := d.levelDiv n (level + 1) / d.levelDiv n level
  let on := (d.setting n (Reg.AX7_INTERP n)).toNat.testBit level
  let (v, s) := if on ∧ 1 < m then
      let (w, s) := satSum (divConv ((x.spNew - x.spPrev) * (min (x.step + 1) m : Nat)) m)
      (x.spPrev + w, s)
    else (x.spNew, false)
  let prev := if on then x.spPrev else x.spNew
  (v, s, d.modLevel n level fun x => { x with spPrev := prev, step := x.step + 1 })

/-- The output of a level handed to its inner neighbour (R63, R64). -/
def Dev.toInner (d : Dev) (n level : Nat) (u : Int) : Dev :=
  if level = 0 then d
  else d.modLevel n (level - 1) fun x => { x with spPrev := x.spNew, spNew := u, step := 0 }

/-- The injected value of a level in this evaluation with its point and channel (R59, R196): only CUR has a d channel. -/
def Dev.injection (d : Dev) (n level : Nat) : Option (Nat × Bool × Int) × Dev :=
  match d.genOn n level with
  | some g =>
    let (v, d) := d.genStep g (d.levelDiv n level)
    (some (d.nat (Reg.R3430_POINT g), level == 0 && d.flag (Reg.R3430_D_CHANNEL g), v), d)
  | none => (none, d)

/-- The value injected at a point of a channel; 0 where there is none. (DEDUCED, log 34, safe.) -/
def injAt (i : Option (Nat × Bool × Int)) (point : Nat) (dch : Bool) : Int :=
  match i with
  | some (p, c, v) => if p = point ∧ c = dch then v else 0
  | none => 0

/-- Saturation supervision of an evaluation (R68): the run, and the saturated evaluations of the last 4,096 ticks.
(DEDUCED, log 35, safe.) -/
def Level.supervise (x : Level) (D now : Nat) (sat : Bool) : Level :=
  let keep := x.sat.filter fun (t, k) => decide (now < t + k + 4095)
  if sat then { x with run := x.run + D, sat := keep ++ [(now, D)] }
  else { x with run := 0, sat := keep, warned := false, failed := false }

/-- A level's evaluation recorded: its outputs, supervision, sticky bits, and what capture can record (R202). -/
def Dev.closeLevel (d : Dev) (n level : Nat) (q : ChannelOut) (dc : Option ChannelOut) (junction ff : Bool)
    (sigs : Signals) (sigsD : Signals) : Dev :=
  let sat := q.u != q.uRaw || match dc with | some c => c.u != c.uRaw | none => false
  let stores := junction || ff || q.sat || match dc with | some c => c.sat | none => false
  let aw := q.aw || match dc with | some c => c.aw | none => false
  let D := d.levelDiv n level
  let now := d.tickAbs
  let d := d.modLevel n level fun x =>
    { (x.supervise D now sat) with
      secs := q.secs, ctl := q.ctl, out := q.u, bump := false,
      secsD := match dc with | some c => c.secs | none => x.secsD
      ctlD := match dc with | some c => c.ctl | none => x.ctlD
      outD := match dc with | some c => c.u | none => x.outD }
  let d := ((d.stick n sat level).stick n stores (4 + level)).stick n aw 8
  let d := { d with ident := { d.ident with sigs := mset {} d.ident.sigs (5 * n + level) { sigs with uRaw := q.uRaw, u := q.u } } }
  let d := match dc with
    | some c => { d with ident := { d.ident with sigs := mset {} d.ident.sigs (5 * n + 4) { sigsD with uRaw := c.uRaw, u := c.u } } }
    | none => d
  d.toInner n level q.u

/-- The bumpless output of a level (R78): its last controller output. -/
def bumpOf (x : Level) (ctl : Int) : Option Int := if x.bump then some ctl else none

/-- AUX and POS (R56): the difference in 32.32 converted with FSX_POS; POS adds the AUX output to its error. The position offset
shifts both feedback values (R120).
(DEDUCED, log 34, safe.) -/
def Dev.outerLevel (d : Dev) (n level : Nat) : Dev :=
  let b := Bank.parse (d.image n level)
  let fsx := d.reg (act (Reg.AX7_FSX_POS n))
  let r := d.setpoint n
  let y := if level = 3 then (d.axis n).fb.aux.val + (d.axis n).offset else d.measured n
  let (inj, d) := d.injection n level
  let (e, s1) := fullScale (r - y) fsx
  let (aux, s0, d) := if level = 2 ∧ d.levelOn n 3 = true then d.fromOuter n 2 else (0, false, d)
  let (e, s2) := satSum (e + aux)
  let (e, s3) := satSum (e + injAt inj 0 false - injAt inj 3 false)
  let (e, s4) := satSum (e + injAt inj 1 false)
  let x := (d.axis n).lev level
  let q := channel b x.secs (bumpOf x x.ctl) e [injAt inj 2 false] none
  d.closeLevel n level q none (s0 || s1 || s2 || s3 || s4) false
    { r := (fullScale r fsx).1, y := (fullScale y fsx).1, e, inj := match inj with | some (_, _, v) => v | none => 0 } {}

/-- The torque feed-forward term of a level's image (R66). (DEDUCED, log 31, safe.) -/
def Dev.torqueFF (d : Dev) (n : Nat) (b : Bank) : Int × Bool :=
  narrow (b.kFfa * (fullScale (d.reg (Reg.AX5_SET_ACC n)) (d.reg (act (Reg.AX7_FSX_ACC n)))).1)

/-- VEL (R55, R56, R66): the POS output plus velocity feed-forward against the velocity feedback. -/
def Dev.velLevel (d : Dev) (n : Nat) : Dev :=
  let b := Bank.parse (d.image n 1)
  let fsx := d.reg (act (Reg.AX7_FSX_VEL n))
  let accel := d.nat (act (Reg.AX7_FF_VEL n)) == 2
  let (inj, d) := d.injection n 1
  let (r0, si, d) := d.fromOuter n 1
  let (ff, s0) := if accel then narrow (b.kFfv * (fullScale (d.reg (Reg.AX5_SET_VEL n)) fsx).1) else (0, false)
  let r := (satSum ((satSum (r0 + ff)).1 + injAt inj 0 false)).1
  let y := (satSum ((fullScale (d.measuredVel n) fsx).1 + injAt inj 3 false)).1
  let (e, s1) := satSum (r - y)
  let (e, s2) := satSum (e + injAt inj 1 false)
  let (tff, s3) := if accel && !d.direct n then d.torqueFF n b else (0, false)
  let x := (d.axis n).velL
  let q := channel b x.secs (bumpOf x x.ctl) e [tff, injAt inj 2 false] none
  d.closeLevel n 1 q none (s1 || s2) (si || s0 || s3)
    { r, y, e, inj := match inj with | some (_, _, v) => v | none => 0 } {}

/-- CUR (R58, R66, R67): two channels with the same image and separate states.
(DEDUCED, log 32, safe; DEDUCED, log 34, safe.) -/
def Dev.curLevel (d : Dev) (n : Nat) : Dev :=
  let b := Bank.parse (d.image n 0)
  let mode := d.nat (act (Reg.AX7_FF_CUR n))
  let (inj, d) := d.injection n 0
  let (r0, si, d) := d.fromOuter n 0
  let (tff, s0) := if mode = 2 ∨ mode = 3 then d.torqueFF n b else (0, false)
  let fb := (d.axis n).fb
  let rq := (satSum ((satSum (r0 + tff)).1 + injAt inj 0 false)).1
  let yq := (satSum (fb.curQ.val + injAt inj 3 false)).1
  let (eq, s1) := satSum (rq - yq)
  let (eq, s2) := satSum (eq + injAt inj 1 false)
  let rd := injAt inj 0 true
  let yd := (satSum (fb.curD + injAt inj 3 true)).1
  let (ed, s3) := satSum (rd - yd)
  let (ed, s4) := satSum (ed + injAt inj 1 true)
  let scale := if mode = 1 ∨ mode = 3 then some (d.axis n).scale else none
  let x := (d.axis n).cur
  let q := channel b x.secs (bumpOf x x.ctl) eq [injAt inj 2 false] scale
  let c := channel b x.secsD (bumpOf x x.ctlD) ed [injAt inj 2 true] scale
  let iv := fun ch => match inj with | some (_, c, v) => if c = ch then v else 0 | none => 0
  d.closeLevel n 0 q (some c) (s1 || s2 || s3 || s4) (si || s0) { r := rq, y := yq, e := eq, inj := iv false }
    { r := rd, y := yd, e := ed, inj := iv true }

/-- One axis's cascade in the present tick (R63): the levels that run, from the outside in. (DESIGN CHOICE, log 30, safe.) -/
def Dev.cascade (d : Dev) (n : Nat) : Dev :=
  let t := d.clk.tick
  let d := d.modAxis n fun a => { a with before := [a.cur, a.velL, a.posL, a.auxL], staleWas := a.stale, stale := 0 }
  let d := d.when (d.levelRuns n 3 t) fun d => d.outerLevel n 3
  let d := d.when (d.levelRuns n 2 t) fun d => d.outerLevel n 2
  let d := d.when (d.levelRuns n 1 t) fun d => d.velLevel n
  d.when (d.levelRuns n 0 t) fun d => d.curLevel n

/-! ## Feedback (R22, R67, R70, R71, R73) -/

/-- The velocity from two fresh positions `k` ticks apart (R71). -/
def derivedVel (p q : Int) (k : Nat) : Int := if k ≤ 1 then (p - q) * 32000 else divConv ((p - q) * 32000) k

/-- The voltage scale for a fresh V_dc in mV (R67), with the episode of DC_LINK_LOW. (DEDUCED, log 32, safe.) -/
def Dev.voltageScale (d : Dev) (n : Nat) (vdc : Int) : Dev :=
  let nom := d.reg (act (Reg.AX7_V_NOM_MV n))
  let pct := d.nat (act (Reg.AX7_V_MIN_PCT n))
  let low := decide (vdc * 100 < nom * pct ∨ vdc ≤ 0)
  let s := if low then divConv (100 * 2 ^ 29) pct else divConv (nom * 2 ^ 29) vdc.toNat
  let a := d.axis n
  let ep : Option Nat := if low then some 0 else match a.dcLow with
    | some k => if 31 ≤ k then none else some (k + 1)
    | none => none
  let d := d.setAxis n { a with scale := min s 0x7FFFFFFF, dcLow := ep }
  if low && a.dcLow.isNone then
    (d.stick n true 9).loopFault n Code.DC_LINK_LOW (Reg.AX14_DC_LINK_LOW n) vdc.toNat
  else d

/-- FEEDBACK_IMAGE_SWITCH for one axis (R22): the samples that arrived stand in the image; a value is one round older for every
round without a fresh one (R24). A fresh V_dc forms the scale on every axis (R67). (DEDUCED, log 32, safe.) -/
def Dev.switchFeedback (d : Dev) (n : Nat) : Dev :=
  let a := d.axis n
  let now := d.tickAbs
  let f := a.fbIn.asOf now
  let a := if f.pos.age = 0 then
      let a := match a.hist with
        | s :: _ => { a with vel71 := derivedVel f.pos.val s.pos (now - s.tick) }
        | [] => a
      { a with hist := ({ tick := now, time := d.clk.si, pos := f.pos.val } :: a.hist).take 64 }
    else a
  let d := d.setAxis n { a with fb := f, fbTick := now, fbIn := f }
  d.when (f.vdc.age == 0) fun d => d.voltageScale n f.vdc.val

/-- The states in which ages are checked (R70). -/
def Dev.supervised (d : Dev) (n : Nat) : Bool := let st := d.axState n; 2 ≤ st && st ≤ 5

/-- FEEDBACK_AGED on entry of a used value into aged (R70); `AX[n].10.07` counts the ticks. -/
def Dev.checkAged (d : Dev) (n : Nat) : Dev :=
  let ages := (d.axis n).fb.ages
  let fresh := (List.range 5).foldl (fun m ch => if ages.getD ch 0 = 0 then withBit m ch false else m)
  let d := d.modAxis n fun a => { a with aged := fresh a.aged, lost := fresh a.lost }
  if !d.supervised n then d
  else
    let d := d.when (d.agedChannel n) fun d => d.count (Reg.AX10_AGED_COUNT n)
    iterate 5 (fun ch d =>
      let age := ages.getD ch 0
      if d.usesChannel n ch ∧ 1 ≤ age ∧ age ≤ d.ageLimit n ∧ (d.axis n).aged.testBit ch = false then
        ((d.modAxis n fun a => { a with aged := withBit a.aged ch true }).loopCode n Code.FEEDBACK_AGED).raise
          Code.FEEDBACK_AGED Kind.axis n 0 ch
      else d) d

/-- The feedback sample of a level, both channels of CUR as one number, and its age (R73). -/
def Dev.levelSample (d : Dev) (n level : Nat) : Int × Nat :=
  let f := (d.axis n).fb
  match level with
  | 0 => (f.curQ.val * 2 ^ 33 + f.curD, f.curQ.age)
  | 1 => if d.setting n (Reg.AX10_VEL_SRC n) = 1 then ((d.axis n).vel71, f.pos.age) else (f.vel.val, f.vel.age)
  | 2 => (f.pos.val, f.pos.age)
  | _ => (f.aux.val, f.aux.age)

/-- The frozen run of a level after this tick (R73): where its axis evaluates no cascade the level's output is 0 (R60), and a fresh
sample ends the run. -/
def Dev.frozenStep (d : Dev) (n level : Nat) (on : Bool) : Dev :=
  let (v, age) := d.levelSample n level
  if !d.levelOn n level || age != 0 then d
  else
    let x := (d.axis n).lev level
    let mag : Int := if level = 0 then max |x.out| |x.outD| else |x.out|
    if on && x.lastFb == some v && decide (d.setting n (Reg.AX10_FROZEN_THRESH n) < mag) then
      d.modLevel n level fun x => { x with frozen := x.frozen + 1 }
    else d.modLevel n level fun x => { x with lastFb := some v, frozen := 0, frozenTold := false }

/-- The same of every level. -/
def Dev.frozenSteps (d : Dev) (n : Nat) (on : Bool) : Dev := iterate 4 (fun l d => d.frozenStep n l on) d

/-- Whether a level's frozen run has reached FROZEN_N (R73). -/
def Dev.frozenLevel (d : Dev) (n level : Nat) : Bool :=
  let N := (d.setting n (Reg.AX10_FROZEN_N n)).toNat
  N != 0 && d.levelOn n level && decide (N ≤ ((d.axis n).lev level).frozen)

/-! ## The run (R52, R60, R83) -/

/-- Whether an axis evaluates its cascade (R60): closed loops, from the tick after they closed (R96). -/
def Dev.evaluates (d : Dev) (n : Nat) : Bool := d.closed n && (d.axis n).closedAt != some d.tickAbs

/-- The lane that evaluates an axis failed in this tick (R82). (DEDUCED, log 36, safe.) -/
def Dev.laneDown (d : Dev) (n : Nat) : Bool := d.eng.down.contains (d.nat (Reg.AX8_LANE n), d.tickAbs)

/-- The output of an axis repeated as stale (R31, R82). (DEDUCED, log 36, safe.) -/
def Dev.repeatOutput (d : Dev) (n : Nat) : Dev := d.modAxis n fun a => { a with stale := min 15 (a.stale + 1), before := [] }

/-- The cascades of the evaluating axes in the order of R32 within the capacity (R83); `load` is what the axes ahead
used, and once one does not fit none after it is evaluated. Every axis of a lane that failed in this tick repeats its output
(R82); with no lane working none is evaluated. -/
def Dev.runAxes (d : Dev) (ns : List Nat) (load : Nat) (full : Bool) : Dev :=
  match ns with
  | [] => d
  | n :: r =>
    let evals := d.evaluates n
    if d.laneDown n then ((d.repeatOutput n).frozenSteps n evals).runAxes r load full
    else if !evals then ((d.modAxis n fun a => { a with stale := 0, before := [] }).frozenSteps n false).runAxes r load full
    else
      let need := d.axisLoad n d.clk.tick (d.image n)
      let lanes := d.nat Reg.R2800_LANES_WORKING
      if lanes = 0 ∨ (need ≠ 0 ∧ (full = true ∨ 5000 * lanes < load + need)) then
        (({ d.repeatOutput n with lateC := d.lateC ++ [n] } : Dev).frozenSteps n true).runAxes r load true
      else ((d.cascade n).frozenSteps n true).runAxes r (load + need) full

/-- The ticks in a row for which a homing push has had its VEL output at HS_TORQUE or above (R119). -/
def Dev.pushRun (d : Dev) (n : Nat) : Dev :=
  d.when (d.homeState n == HomeState.push) fun d =>
    let hard := decide (d.reg (Reg.AX11_HS_TORQUE n) ≤ |(d.axis n).velL.out|)
    d.modAxis n fun a => { a with hsRun := if hard then a.hsRun + 1 else 0 }

/-- Whether the engine may still run in this tick (R5, R20): once, from +12.0 µs until its window ends at +24.0 µs. -/
def Dev.mayRun (d : Dev) : Bool := d.eng.ranAt != some d.tickAbs && decide (d.ph.off < 24000)

/-- CONTROL_ENGINE_RUN (R5, R20, R22, R52): at +12.0 µs the feedback image switches, ages are checked, and the cascades are
evaluated with the feedback of this SI. -/
def Dev.controlRun (d : Dev) : Dev :=
  if !d.mayRun then d
  else
    let now := d.tickAbs
    let d := d.at 12000
    let d := iterate 128 (fun n d => (d.switchFeedback n).checkAged n) d
    let d := { d with lateC := [] }.runAxes d.controlOrder 0 false
    let d := iterate 128 (fun n d => d.pushRun n) d
    { d with eng := { d.eng with ranAt := some now } }

/-- A tick whose window ends without a run (R31): every evaluating axis with a level due stays unevaluated. -/
def Dev.notRun (d : Dev) : Dev :=
  if d.eng.ranAt = some d.tickAbs then d
  else
    let late := d.controlOrder.filter fun n => d.evaluates n && d.axisLoad n d.clk.tick (d.image n) != 0
    { each late (fun n d => d.repeatOutput n) d with lateC := late, eng := { d.eng with ranAt := some d.tickAbs } }

/-- CONTROL_OVERRUN at +24.0 µs (R31): logged for each axis it strikes, counted once. (DEDUCED, log 117, safe;
DESIGN CHOICE, log 147, safe.) -/
def Dev.controlOverrun (d : Dev) : Dev :=
  let d := (d.at 24000).notRun
  if d.lateC.isEmpty then d
  else
    let d := each d.lateC (fun n d =>
      let r := d.nat (Reg.AX14_CONTROL_OVERRUN n)
      (d.raiseAt 24000 Code.CONTROL_OVERRUN Kind.axis n r 0).react n Code.CONTROL_OVERRUN r) d
    { d with lateC := [] }.overrun Code.CONTROL_OVERRUN Reg.R1101_CONTROL_COUNT

/-- The output that leaves for the drive at +24.0 µs (R5, R31, R60, R65): q and d of the innermost level, or 0 where no cascade
runs; whether it is STALE, and its age: after a window without a run that of an axis with a level due is one tick older. -/
def Dev.outputOf (d : Dev) (n : Nat) : Int × Int × Bool × Nat :=
  let a := d.axis n
  let missed := decide (24000 ≤ d.ph.off) && d.eng.ranAt != some d.tickAbs && d.evaluates n &&
    d.axisLoad n d.clk.tick (d.image n) != 0
  let age := if missed then min 15 (a.stale + 1) else a.stale
  if !d.closed n then (0, 0, age != 0, age)
  else
    let x := a.lev (d.innermost n)
    (x.out, if d.direct n then x.outD else 0, age != 0, age)

/-! ## Faults of the feedback and of saturation (R69, R70, R73) -/

/-- FEEDBACK_LOST (R70): a used value older than AGE_LIMIT in a supervised state. (DESIGN CHOICE, log 37, safe.) -/
def Dev.feedbackLost (d : Dev) (n : Nat) : Dev :=
  iterate 5 (fun ch d =>
    if d.supervised n ∧ d.usesChannel n ch ∧ d.ageLimit n < (d.axis n).fb.ages.getD ch 0 ∧
        (d.axis n).lost.testBit ch = false then
      let d := d.loopFault n Code.FEEDBACK_LOST (Reg.AX14_FEEDBACK_LOST n) ch
      (d.modAxis n fun a => { a with lost := withBit a.lost ch true }).set (Reg.AX10_LOST_CHANNEL n) ch
    else d) d

/-- FEEDBACK_FROZEN (R73): once for each run of a level that has reached FROZEN_N. (DESIGN CHOICE, log 37, safe.) -/
def Dev.feedbackFrozen (d : Dev) (n : Nat) : Dev :=
  iterate 4 (fun l d =>
    if d.frozenLevel n l = true ∧ ((d.axis n).lev l).frozenTold = false then
      (d.loopFault n Code.FEEDBACK_FROZEN (Reg.AX14_FEEDBACK_FROZEN n) l).modLevel n l fun x => { x with frozenTold := true }
    else d) d

/-- SAT_WARN (R69): once a run, when it reaches SAT_WARN_TICKS. (DESIGN CHOICE, log 37, safe.) -/
def Dev.satWarn (d : Dev) (n level : Nat) : Dev :=
  let x := (d.axis n).lev level
  if level < 4 ∧ x.warned = false ∧ x.run ≠ 0 ∧ d.setting n (Reg.AX7_SAT_WARN_TICKS n) ≤ x.run then
    ((d.modLevel n level fun x => { x with warned := true }).loopCode n Code.SAT_WARN).raise Code.SAT_WARN Kind.axis n
      Reaction.warn level
  else d

/-- SAT_FAULT (R69): when a run reaches SAT_FAULT_TICKS, 0 disabling the fault. (DESIGN CHOICE, log 37, safe.) -/
def Dev.satFault (d : Dev) (n level : Nat) : Dev :=
  let x := (d.axis n).lev level
  let T := (d.setting n (Reg.AX7_SAT_FAULT_TICKS n)).toNat
  if level < 4 ∧ x.failed = false ∧ T ≠ 0 ∧ T ≤ x.run then
    (d.loopFault n Code.SAT_FAULT (Reg.AX14_SAT_FAULT n) level).modLevel n level fun x => { x with failed := true }
  else d

/-- The state of the feedback of an axis (R87): fresh, aged, lost or frozen; of several the first in the order frozen, lost, aged.
(DESIGN CHOICE, log 149, safe.) -/
def Dev.fbState (d : Dev) (n : Nat) : Nat :=
  if (List.range 4).any (d.frozenLevel n) then 3 else if (d.lostChannel n).isSome then 2 else if d.agedChannel n then 1 else 0

/-- The saturated ticks among the last 4,096 (R68): of an evaluation that counts for `k` ticks, those that have begun.
(DEDUCED, log 35, safe.) -/
def Dev.satWindow (d : Dev) (n level : Nat) : Nat :=
  let now := d.tickAbs
  (((d.axis n).lev level).sat.map fun (t, k) => min (t + k) (now + 1) - max t (now - 4095)).sum

/-! ## Lanes (R80 to R84) -/

/-- Lanes in service. -/
def Dev.lanes (d : Dev) : List Nat := (List.range 5).filter fun i => d.bit Reg.R2800_LANE_MAP i

/-- LANES_WORKING, CAPACITY and the peak of every lane as they stand (R84, R91). A failed lane keeps the axes assigned to it, and
with them its peak, until the spare takes its place or an assignment is made again. (DESIGN CHOICE, log 150, safe.) -/
def Dev.laneFigures (d : Dev) : Dev :=
  let k := d.lanes.length
  let d := (d.set Reg.R2800_LANES_WORKING k).set Reg.R2800_CAPACITY (5000 * k)
  iterate 5 (fun lane d =>
    let on := (List.range 128).filter fun n => d.nat (Reg.AX8_LANE n) == lane
    let peak := ((List.range 8).map fun t => (on.map fun n => d.axisLoad n t (d.image n)).sum).foldl max 0
    d.set (Reg.R2800_LANE_PEAK_0 + lane) peak) d

/-- The loads of a lane over T0 to T7 with an axis added. -/
def addLoads (a b : List Nat) : List Nat := List.zipWith (· + ·) a b

/-- R80: each axis in the control-engine order goes to the in-service lane whose largest load with it is smallest, the
lowest-numbered on a tie. -/
def Dev.assignLanes (d : Dev) : Dev :=
  let loads : List (Nat × List Nat) := d.lanes.map fun l => (l, List.replicate 8 0)
  (d.controlOrder.foldl (fun (acc : Dev × List (Nat × List Nat)) n =>
    let mine := (List.range 8).map fun t => acc.1.axisLoad n t (acc.1.image n)
    let best := acc.2.foldl (fun (b : Option (Nat × Nat)) (l, w) =>
      let p := (addLoads w mine).foldl max 0
      match b with
      | some (_, q) => if p < q then some (l, p) else b
      | none => some (l, p)) none
    match best with
    | some (l, _) =>
      (acc.1.set (Reg.AX8_LANE n) l, acc.2.map fun (m, w) => if m = l then (m, addLoads w mine) else (m, w))
    | none => acc) (d, loads)).1

/-- A lane taken over by the spare (R81, R82): its axes move with it. -/
def Dev.bringSpare (d : Dev) (lane : Nat) : Dev :=
  let d := iterate 128 (fun n d => d.when (d.nat (Reg.AX8_LANE n) == lane) fun d => d.set (Reg.AX8_LANE n) 4) d
  let d := d.set Reg.R2800_LANE_MAP (withBit (withBit (d.nat Reg.R2800_LANE_MAP) lane false) 4 true : Nat)
  let d := (d.set Reg.R2800_SPARE_STATE 3).laneFigures
  d.raise Code.LANE_SPARED Kind.unit (26 + 4) 0 lane

/-- LANE_FAULT (R82): in this tick the lane's axes send their previous outputs as stale and keep their states (an axis that
already repeats its output in this tick does so once); from the next tick the surviving lanes evaluate them, and an available
spare takes over two cycles later. (DEDUCED, log 36, safe; DESIGN CHOICE, log 150, safe.) -/
def Dev.laneFault (d : Dev) (lane : Nat) : Dev :=
  if 5 ≤ lane then d
  else if d.bit Reg.R2800_LANE_MAP lane then
    let mine := (List.range 128).filter fun n => d.nat (Reg.AX8_LANE n) == lane
    let ran := d.eng.ranAt == some d.tickAbs
    let d := each mine (fun n d =>
      let d := d.loopCode n Code.LANE_FAULT
      match ran, (d.axis n).before with
      | true, [c, v, p, x] =>
        (d.modAxis n fun a => { a with cur := c, velL := v, posL := p, auxL := x, stale := a.staleWas }).repeatOutput n
      | true, _ => if (d.axis n).stale = 0 then d.repeatOutput n else d
      | false, _ => d) d
    let spare := d.nat Reg.R2800_SPARE_STATE
    let d := { d with eng := { d.eng with
      down := (lane, d.tickAbs) :: (d.eng.down.filter fun (_, t) => t == d.tickAbs)
      failed := if spare == 0 && lane != 4 then some (lane, d.clk.cycle64) else d.eng.failed } }
    let d := (d.set Reg.R2800_LANE_MAP (withBit (d.nat Reg.R2800_LANE_MAP) lane false : Nat)).count Reg.R2800_LANE_FAULTS
    let d := d.when (lane == 4) fun d => d.set Reg.R2800_SPARE_STATE 4
    (d.laneFigures).raise Code.LANE_FAULT Kind.unit (26 + lane) Reaction.warn
  else if lane = 4 ∧ d.nat Reg.R2800_SPARE_STATE < 3 then
    let d := { d with eng := { d.eng with failed := none, retire := none } }
    ((d.set Reg.R2800_SPARE_STATE 4).count Reg.R2800_LANE_FAULTS).raise Code.LANE_FAULT Kind.unit 30 Reaction.warn
  else d

/-- LANE_SPARED (R81, R82): the spare takes a lane's place at the SI of T0, of the second cycle after its fault or of the
cycle of its planned retirement. -/
def Dev.laneSpared (d : Dev) (lane : Nat) : Dev :=
  let due := (match d.eng.failed with | some (l, c) => l == lane && decide (c + 2 ≤ d.clk.cycle64) | none => false) ||
    (match d.eng.retire with | some (l, c) => l == lane && decide (c ≤ d.clk.cycle64) | none => false)
  if due = true ∧ d.clk.tick = 0 ∧ d.nat Reg.R2800_SPARE_STATE < 3 then
    { (d.bringSpare lane) with eng := { d.eng with failed := none, retire := none } }
  else d

/-- Whether the masked levels' inactive images hold other section counts than their active ones (R80). -/
def Dev.countsChange (d : Dev) (n mask : Nat) : Bool :=
  (List.range 4).any fun l => mask.testBit l && imageSections (d.bytes (Reg.AX9_INACTIVE_CUR n + l)) != imageSections (d.image n l)

/-- SECTIONS of an axis as its structure and active banks stand (R86). -/
def Dev.countSections (d : Dev) (n : Nat) : Dev := d.set (Reg.AX7_SECTIONS n) (d.axisSections n (d.image n))

/-- The spare's progress at the SI of a T0 (R81, R82, R91): copying in the cycle before it takes over, shadowing a lane
that retires. -/
def Dev.spareState (d : Dev) : Dev :=
  match d.eng.failed, d.eng.retire with
  | some (_, c), _ => d.when (c + 1 == d.clk.cycle64 && d.nat Reg.R2800_SPARE_STATE < 3) fun d => d.set Reg.R2800_SPARE_STATE 1
  | none, some (_, c) => d.when (d.clk.cycle64 + 1 == c && d.nat Reg.R2800_SPARE_STATE < 3) fun d => d.set Reg.R2800_SPARE_STATE 2
  | none, none => d

/-! ## Banks (R38, R75, R77, R78, R88) -/

/-- Whether the inactive bank of a table is locked (R38): its pending commit has passed its cut-off. -/
def Dev.locked (d : Dev) (key : Nat) : Bool :=
  match mget none d.pend key with
  | some p => p.ready
  | none => false

/-- COPY_ACTIVE (R88): the active images of the masked levels become the inactive ones; refused while locked. Bits above bit 3 name
no level. (DESIGN CHOICE, log 151, safe.) -/
def Dev.copyActive (d : Dev) (n mask : Nat) : Dev :=
  if d.locked (Reg.AX9_COMMIT_CYCLE n) then d.bankLocked (Reg.AX9_COMMIT_CYCLE n)
  else
    (iterate 4 (fun l d =>
      d.when (mask.testBit l) fun d => d.setBytes (Reg.AX9_INACTIVE_CUR n + l) (d.image n l)) d).finish Code.STATUS_OK

/-- Whether the images of the masked levels pass (R76, R78): their fields, and bumpless only with INTEG =
N_CTL; MODE is that of the structure in force. The budget is judged with the other commits (R27). (DESIGN CHOICE, log 152, safe.) -/
def Dev.banksValid (d : Dev) (n mask bump : Nat) : Bool :=
  let img := fun l => if mask.testBit l then d.bytes (Reg.AX9_INACTIVE_CUR n + l) else d.image n l
  (List.range 4).all fun l => !mask.testBit l ||
    (d.levelOn n l && imageValid l (d.direct n) (img l) &&
      (!bump.testBit l || fieldLE (img l) 4 1 == fieldLE (img l) 2 1))

/-- The switch of the masked levels of an axis (R76 to R78): active and inactive images change places, state words of
sections in both stay, and levels named bumpless wait for their bumpless evaluation. -/
def Dev.switchBanks (d : Dev) (n mask bump : Nat) : Dev :=
  iterate 4 (fun l d =>
    d.when (mask.testBit l) fun d =>
      let new := d.bytes (Reg.AX9_INACTIVE_CUR n + l)
      let old := d.image n l
      let k := imageSections new
      let fit := fun (ws : List SecState) => (List.range k).map fun i => ws.getD i {}
      let d := (d.setBytes (Reg.AX9_INACTIVE_CUR n + l) old).setBytes (Reg.AX9_ACTIVE_CUR n + l) new
      let b := d.nat (Reg.AX9_ACTIVE_BANK n)
      let d := d.set (Reg.AX9_ACTIVE_BANK n) (withBit b l (!b.testBit l) : Nat)
      d.modLevel n l fun x => { x with secs := fit x.secs, secsD := fit x.secsD, bump := x.bump || bump.testBit l }) d

end Sys2Proof.Machine
end

