-- ==== Sys2Proof/Machine/Geometry.lean ====
section
/-! DEFINITION. The geometry engine (spec/04): capsules in the cell (R142, R143), exact distances between primitives
and what is reported of them (R152 to R154), pair selection and its budget (R150, R151), the zone checker (R155), the
zone tokens (R156 to R160) and contacts (R161, R162). -/

namespace Sys2Proof.Machine

/-! ## Capsules in the cell -/

/-- Record `i` of a capsule table (R143), and how many there are. -/
abbrev capOff (i : Nat) : Nat := 32 * i
def capCount (tab : Bytes) : Nat := tab.length / 32

/-- The reported frame error bound of a chain (R153), as a rational number of mm. -/
def Dev.ek (d : Dev) (c : Nat) : Rat := f32 (d.reg (Reg.CH1_E_K c))

/-- The velocity of a point of frame `link` of a chain from the measured joint velocities (R142). -/
def Dev.pointVel (d : Dev) (c : Nat) (fs : List Frame) (link : Nat) (p : Vec3) : Vec3 :=
  let tab := d.bytes (act (Reg.CH3_LINKS c))
  let mem := d.members c
  (List.range (min link mem.length)).foldl (fun v i =>
    let f := fs.getD (i + 1) Frame.id
    let z : Vec3 := [f.r.getD 2 0, f.r.getD 5 0, f.r.getD 8 0]
    let rate := sfieldLE tab (linkOff i + 2) 1 * d.measuredVel (mem.getD i 0) * 256
    if fieldLE tab (linkOff i) 1 = 1 then vadd v (vscale (fxMul 6908435304715 rate) (vcross z (vsub p f.t)))
    else vadd v (vscale rate z)) [0, 0, 0]

/-- The capsules of a chain that are present under a payload class, in the frames given (R142, R143). -/
def Dev.capPoses (d : Dev) (c : Nat) (fs : List Frame) (payload : Nat) : List CapPose :=
  let tab := d.bytes (act (Reg.CH4_CAPSULES c))
  (List.range (capCount tab)).filterMap fun i =>
    let o := capOff i
    if (fieldLE tab (o + 1) 1).testBit payload then
      let l := fieldLE tab o 1
      let f := fs.getD l Frame.id
      let a := f.point (vecAt tab (o + 4)); let b := f.point (vecAt tab (o + 16))
      some { id := 32 * c + i, a, b, va := d.pointVel c fs l a, vb := d.pointVel c fs l b }
    else none

/-- A capsule's flags and radius by its identifier. -/
def Dev.capFlag (d : Dev) (id bit : Nat) : Bool :=
  (fieldLE (d.bytes (act (Reg.CH4_CAPSULES (id / 32)))) (capOff (id % 32) + 2) 1).testBit bit

def Dev.capRadius (d : Dev) (id : Nat) : Int :=
  fxF32 (fieldLE (d.bytes (act (Reg.CH4_CAPSULES (id / 32)))) (capOff (id % 32) + 28) 4)

/-! ## Exact distances -/

/-- A point on a segment. -/
def lerp (a b : Vec3) (t : Int) : Vec3 := vadd a (vscale t (vsub b a))

/-- A quotient held in [0, 1]. -/
def unitDiv (a b : Int) : Int := if b ≤ 0 then 0 else clamp 0 fx1 ((a * fx1).fdiv b)

/-- The closest points of two segments, as parameters in [0, 1]. -/
def segSeg (p1 q1 p2 q2 : Vec3) : Int × Int :=
  let d1 := vsub q1 p1; let d2 := vsub q2 p2; let r := vsub p1 p2
  let a := vdot d1 d1; let e := vdot d2 d2; let f := vdot d2 r
  let c := vdot d1 r; let b := vdot d1 d2
  if a = 0 ∧ e = 0 then (0, 0)
  else if a = 0 then (0, unitDiv f e)
  else if e = 0 then (unitDiv (-c) a, 0)
  else
    let den := fxMul a e - fxMul b b
    let s := if den = 0 then 0 else unitDiv (fxMul b f - fxMul c e) den
    let tn := fxMul b s + f
    if tn < 0 then (unitDiv (-c) a, 0)
    else if e < tn then (unitDiv (b - c) a, fx1)
    else (s, unitDiv tn e)

/-- An oriented box: centre, rotation and half extents. -/
structure Box where
  c : Vec3
  r : List Int
  h : Vec3
deriving DecidableEq, Repr

/-- The box of a 48-byte record (R144). -/
def boxAt (b : Bytes) (off : Nat) : Box := { c := vecAt b (off + 4), r := quatMat (quatAt b (off + 16)), h := vecAt b (off + 32) }

/-- A point's offset beyond a box, in the box's own frame. -/
def boxExcess (h p : Vec3) : Vec3 := (List.range 3).map fun k => vget p k - clamp (-(vget h k)) (vget h k) (vget p k)

/-- The parameter at which a segment, in the box's frame, is nearest the box: the squared distance is convex, so its
slope is bisected. -/
def segBox (fuel : Nat) (h a b : Vec3) (lo hi : Int) : Int :=
  match fuel with
  | 0 => lo
  | fuel + 1 =>
    let mid := (lo + hi).fdiv 2
    if 0 < vdot (boxExcess h (lerp a b mid)) (vsub b a) then segBox fuel h a b lo mid else segBox fuel h a b mid hi

/-- The distance from a segment to a box, and where on the segment it is taken. -/
def distBox (x : Box) (a b : Vec3) : Int × Int :=
  let la := mtvec x.r (vsub a x.c); let lb := mtvec x.r (vsub b x.c)
  let at_ := fun t => vnorm (boxExcess x.h (lerp la lb t))
  let t := segBox 42 x.h la lb 0 fx1
  let best := [0, t, t + 1, fx1].foldl (fun m u => if at_ u < at_ m then u else m) t
  (at_ best, best)

/-- A primitive as the distance units test it: its segment (equal ends for a sphere) or its box, its radius, and its
frame error bound. -/
structure Prim where
  a   : Vec3
  b   : Vec3
  r   : Int
  ek  : Rat
  box : Option Box := none
deriving DecidableEq, Repr

def Dev.capPrim (d : Dev) (p : CapPose) : Prim := { a := p.a, b := p.b, r := d.capRadius p.id, ek := d.ek (p.id / 32) }

/-- The intruder in a slot of the image (R146), where it is valid. -/
def Dev.intruder (d : Dev) (j : Nat) : Option Prim :=
  let b := d.bytes Reg.R3106_INTRUDERS
  let o := 44 * j
  if fieldLE b (o + 2) 1 = 0 then none
  else some { a := vecAt b (o + 4), b := vecAt b (o + 16), r := fxF32 (fieldLE b (o + 28) 4), ek := 0 }

/-- Box `k` of the active box table. -/
def Dev.boxPrim (d : Dev) (k : Nat) : Prim :=
  let x := boxAt (d.bytes (act Reg.R3103_BOXES)) (48 * k)
  { a := x.c, b := x.c, r := 0, ek := 0, box := some x }

/-- The exact distance of two primitives without radii, and the parameters of the closest points. -/
def exactDist (p q : Prim) : Int × Int × Int :=
  match q.box with
  | some x => let (dd, s) := distBox x p.a p.b; (dd, s, 0)
  | none =>
    let (s, t) := segSeg p.a p.b q.a q.b
    (vnorm (vsub (lerp q.a q.b t) (lerp p.a p.b s)), s, t)

/-- The bounding sphere of a primitive (R152). -/
def Prim.sphere (p : Prim) : Vec3 × Int :=
  match p.box with
  | some x => (x.c, vnorm x.h)
  | none => (vscale (fx1 / 2) (vadd p.a p.b), (vnorm (vsub p.b p.a)).fdiv 2 + p.r + fxOf p.ek)

/-- What this model's fixed-point arithmetic may be off by, in mm: taken off every distance, toward closer (R154). -/
def closer : Rat := 1 / 1048576

/-- How far below the exact distance of two primitives a reported one may lie (R153, R154). -/
def Prim.bound (p q : Prim) : Rat := p.ek + q.ek + 32 / 1000

/-- A reported distance (R153, R154): the modelled distance, less a free part of the bound, never below 0, as a binary32 code
that is no greater than the modelled distance and not below it by more than the bound. (DESIGN CHOICE, log 61, safe.) -/
def reported (p q : Prim) (slack : Nat) : Nat :=
  let (e, _, _) := exactDist p q
  let m := fxRat (e - p.r - q.r) - closer
  let lo := m - (p.bound q - 2 * closer)
  let x := f32Down (ratMax 0 (m - (p.bound q - 2 * closer) * ((slack % 1001 : Nat) : Rat) / 1000))
  if f32 (x : Int) < lo then x + 1 else x

/-- The gap between the bounding spheres. -/
def sphereGap (p q : Prim) : Int :=
  let (c1, r1) := p.sphere; let (c2, r2) := q.sphere
  vnorm (vsub c1 c2) - r1 - r2

/-! ## Pair selection (R150, R151) -/

/-- A pair to test: its class, its two identifiers, and whether it is tested on commanded frames as well. -/
structure PairSel where
  cls     : PairClass
  a       : Nat
  b       : Nat
  predict : Bool
deriving DecidableEq, Repr

/-- The exclusion list as pairs of identifiers, lower first. -/
def exclusions (b : Bytes) : List (Nat × Nat) :=
  (List.range (b.length / 4)).map fun i =>
    let p := fieldLE b (4 * i) 2; let q := fieldLE b (4 * i + 2) 2
    (min p q, max p q)

/-- What the pair selection reads of a geometry bank, active or staged. -/
structure PairBank where
  cross   : Bytes
  self    : Nat
  predict : Nat
  nIntr   : Nat
  boxes   : Bytes
  excl    : List (Nat × Nat)
  cap     : Nat → Bytes

def Dev.pairBank (d : Dev) (off : Nat) : PairBank :=
  { cross := d.bytes (Reg.R3102_CROSS + off), self := d.nat (Reg.R3102_SELF + off), predict := d.nat (Reg.R3102_PREDICT + off),
    nIntr := d.nat (Reg.R3102_N_INTR + off), boxes := d.bytes (Reg.R3103_BOXES + off),
    excl := exclusions (d.bytes (Reg.R3105_EXCLUDE + off)), cap := fun c => d.bytes (Reg.CH4_CAPSULES c + off) }

def PairBank.flag (k : PairBank) (id bit : Nat) : Bool := (fieldLE (k.cap (id / 32)) (capOff (id % 32) + 2) 1).testBit bit
def PairBank.link (k : PairBank) (id : Nat) : Nat := fieldLE (k.cap (id / 32)) (capOff (id % 32)) 1

/-- Whether an LL pair (lower identifier first) is selected. -/
def PairBank.pairLL (k : PairBank) (p q : Nat) : Bool :=
  let c1 := p / 32; let c2 := q / 32
  k.flag p 0 && k.flag q 0 && !k.excl.contains (p, q) &&
    (if c1 = c2 then k.self.testBit c1 && decide (2 ≤ max (k.link p) (k.link q) - min (k.link p) (k.link q))
     else (fieldLE k.cross (2 * c1) 2).testBit c2)

/-- The pairs selected among capsules, in the order of R152: LI by chain, LB by chain, LL by lower identifier. -/
def PairBank.pairs (k : PairBank) (caps : List Nat) (slots : List Nat) : List PairSel :=
  let li := (caps.filter (k.flag · 1)).flatMap fun p =>
    slots.map fun j => { cls := .li, a := p, b := j, predict := k.predict.testBit (p / 32) }
  let boxes := (List.range 256).filter fun b => fieldLE k.boxes (48 * b) 1 != 0
  let lb := (caps.filter (k.flag · 2)).flatMap fun p =>
    (boxes.filter fun b => (fieldLE k.boxes (48 * b + 2) 2).testBit (p / 32)).map fun b =>
      { cls := .lb, a := p, b, predict := k.predict.testBit (p / 32) }
  let ll := caps.flatMap fun p => (caps.filter fun q => decide (p < q) && k.pairLL p q).map fun q =>
    { cls := .ll, a := p, b := q, predict := false }
  li ++ lb ++ ll

/-- U of R151, every capsule of every chain present and every intruder slot in use. -/
def Dev.pairLoad (d : Dev) (off : Nat) : Nat :=
  let k := d.pairBank off
  let caps := (List.range 16).flatMap fun c =>
    (List.range (capCount (k.cap c))).map (32 * c + ·)
  (k.pairs caps (List.range k.nIntr)).foldl (fun u p =>
    u + (if p.cls = .lb then 12 else 8) * (if p.predict then 2 else 1)) 0

/-! ## The kinematics unit and the zone checker (R142, R155) -/

/-- Zone record `z` of the active table. -/
def Dev.zoneRec (d : Dev) (z : Nat) : Bytes := slice (d.bytes (act Reg.R3104_ZONES)) (64 * z) 64
def Dev.zoneOn (d : Dev) (z : Nat) : Bool := fieldLE (d.zoneRec z) 48 1 == 1

/-- Whether a capsule overlaps a box grown by a width on every side, rounded toward overlap within the bound. -/
def Dev.capOverlaps (d : Dev) (p : CapPose) (x : Box) (grow : Int) (slack : Nat) : Bool :=
  let x := { x with h := x.h.map (· + grow) }
  let (e, _) := distBox x p.a p.b
  decide (fxRat (e - d.capRadius p.id) - closer ≤ (d.ek (p.id / 32) + 32 / 1000) * ((slack % 1001 : Nat) : Rat) / 1000)

/-- The chains with a capsule overlapping a zone's grown box, as a mask. -/
def Dev.zoneMask (d : Dev) (caps : List CapPose) (x : Box) (grow : Int) (slack : Nat) : Nat :=
  caps.foldl (fun m p => if m.testBit (p.id / 32) then m
    else if d.capOverlaps p x grow slack then m + 2 ^ (p.id / 32) else m) 0

/-- The zone checker's tests of one zone. -/
def Dev.checkZone (d : Dev) (z : Nat) : Dev :=
  if !d.zoneOn z then
    let x := d.zone z
    d.setZone z { x with occM := 0, occC := 0, bandM := 0, bandC := 0 }
  else
    let r := d.zoneRec z
    let x := boxAt r 0
    let grow := fxF32 (fieldLE r 52 4)
    let m := (List.range 16).flatMap fun c => (d.chain c).caps
    let k := (List.range 16).flatMap fun c => (d.chain c).capsC
    let (f, d) := d.takeFresh
    let s := Config.zoneSlack f
    d.setZone z { d.zone z with occM := d.zoneMask m x 0 s, occC := d.zoneMask k x 0 s, bandM := d.zoneMask m x grow s,
                                bandC := d.zoneMask k x grow s }

/-- The largest position age of a chain's members (R142). -/
def Dev.frameAge (d : Dev) (c : Nat) : Nat := ((d.members c).map fun n => (d.axis n).fb.pos.age).foldl max 0

/-- The frames, capsules and velocities of one chain (R142). (DEDUCED, log 117, safe.) -/
def Dev.chainKinematics (d : Dev) (c : Nat) : Dev :=
  if !d.chainEn c then d.modChain c fun x => { x with frames := [], framesC := [], caps := [], capsC := [], memberV := [] }
  else
    let p := d.payload c
    let mem := d.members c
    let fm := d.framesAt c (mem.map d.measured) p
    let fc := d.framesAt c (mem.map d.setpoint) p
    let d := d.modChain c fun x =>
      { x with frames := fm, framesC := fc, caps := d.capPoses c fm p, capsC := d.capPoses c fc p,
               memberV := mem.map d.measuredVel }
    (d.set (Reg.CH1_ACTIVE_PAYLOAD c) p).set (Reg.CH1_FRAME_AGE c) (d.frameAge c)

/-! ## Distance testing (R150, R152) -/

/-- A capsule's pose by its identifier, measured or commanded. -/
def Dev.poseOf (d : Dev) (id : Nat) (cmd : Bool) : Option CapPose :=
  let x := d.chain (id / 32)
  (if cmd then x.capsC else x.caps).find? fun p => p.id == id

/-- The two primitives of a pair. -/
def Dev.pairPrims (d : Dev) (p : PairSel) (cmd : Bool) : Option (Prim × Prim) :=
  match d.poseOf p.a cmd with
  | none => none
  | some a =>
    let q := match p.cls with
      | .ll => (d.poseOf p.b cmd).map d.capPrim
      | .li => d.intruder p.b
      | .lb => some (d.boxPrim p.b)
    q.map fun q => (d.capPrim a, q)

/-- One test: the screen first, decided on the gap as it would be reported (R552), then the distance (R152). -/
def Dev.testOne (d : Dev) (p : PairSel) (cmd : Bool) (slack : Nat) : Option (Nat × Bool) :=
  (d.pairPrims p cmd).map fun (a, b) =>
    let gap := f32Down (ratMax 0 (fxRat (sphereGap a b) - closer))
    if f32 (d.reg (act Reg.R3102_BROAD_MARGIN)) < f32 (gap : Int) then (gap, true) else (reported a b slack, false)

/-- A pair tested, twice where it is predicted, the smaller distance reported. -/
def Dev.testPair (d : Dev) (p : PairSel) (slack : Nat) : PairRes :=
  match d.testOne p false slack, (if p.predict then d.testOne p true slack else none) with
  | some (x, s), some (y, t) =>
    if f32 y < f32 x then { cls := p.cls, a := p.a, b := p.b, dist := y, cmd := true, screened := t, tested := true }
    else { cls := p.cls, a := p.a, b := p.b, dist := x, cmd := false, screened := s, tested := true }
  | some (x, s), none => { cls := p.cls, a := p.a, b := p.b, dist := x, cmd := false, screened := s, tested := true }
  | none, some (y, t) => { cls := p.cls, a := p.a, b := p.b, dist := y, cmd := true, screened := t, tested := true }
  | none, none => { cls := p.cls, a := p.a, b := p.b, dist := f32Inf, cmd := false, screened := true, tested := true }

/-- The pairs of this cycle in test order. -/
def Dev.cyclePairs (d : Dev) : List PairSel :=
  let caps := (List.range 16).flatMap fun c => (d.chain c).caps.map CapPose.id
  let slots := (List.range (d.nat (act Reg.R3102_N_INTR))).filter fun j => (d.intruder j).isSome
  (d.pairBank 0x80).pairs caps slots

/-- A pair that has not been tested. -/
def PairSel.untested (p : PairSel) : PairRes :=
  { cls := p.cls, a := p.a, b := p.b, dist := f32Inf, cmd := false, screened := false, tested := false }

/-- Whether the frames of this cycle are complete (R31). -/
def Dev.framesReady (d : Dev) : Bool := d.geom.kinDone && !d.geom.kinOver

/-- The results of this cycle: none without frames, every pair untested where no test was run, never those of an earlier cycle
(R7, R31). -/
def Dev.cycleResults (d : Dev) : List PairRes :=
  if !d.framesReady then []
  else if d.geom.cycle = some d.clk.cycle64 then d.geom.pairs else d.cyclePairs.map PairSel.untested

/-- DISTANCE_TESTING (R25, R150): in T1 and T2, from the SI of T1 to that of T3, the first `reach` pairs are tested. -/
def Dev.distanceTesting (d : Dev) (reach : Nat) : Dev :=
  if !d.framesReady ∨ d.clk.tick = 0 ∨ 2 < d.clk.tick then d
  else
    let (f, d) := d.takeFresh
    let ps := d.cyclePairs
    let done := ((ps.take reach).zipIdx).map fun (p, i) => d.testPair p (Config.distanceSlackA (f + i))
    let left := (ps.drop reach).map PairSel.untested
    let d := { d with geom := { d.geom with pairs := done ++ left, cycle := some d.clk.cycle64 }, fresh := d.fresh + ps.length }
    let scr := (done.filter (·.screened)).length
    (d.set Reg.R3101_TESTS_LAST (done.length - scr : Nat)).set Reg.R3101_SCREENED_LAST scr

/-! ## Results and contacts (R161, R162) -/

/-- The code of a pair (R162). -/
def PairRes.code (p : PairRes) : Nat := p.a * 65536 + p.b + if p.cmd then 32768 else 0

/-- The closest tested pair of a class among pairs. -/
def closest (ps : List PairRes) (c : PairClass) : Option PairRes :=
  (ps.filter fun p => p.tested && p.cls == c).foldl (fun m p =>
    match m with
    | some q => if f32Lt p.dist q.dist then some p else some q
    | none => some p) none
where
  /-- The order of two non-negative binary32 codes. -/
  f32Lt (a b : Nat) : Bool := decide (a < b)

/-- The results of a list of pairs put into the entries from `base` on (the first key of `OD 3110` or `3120`). -/
def Dev.putResults (d : Dev) (base : Nat) (ps : List PairRes) (contact : Nat) : Dev :=
  let put := fun (d : Dev) (i : Nat) (c : PairClass) =>
    match closest ps c with
    | some p => (d.set (base + 1 + 2 * i) p.dist).set (base + 2 + 2 * i) p.code
    | none => (d.set (base + 1 + 2 * i) f32Inf).set (base + 2 + 2 * i) 0xFFFFFFFF
  let d := put (put (put (d.set base d.cycle) 0 .ll) 1 .li) 2 .lb
  let bit := fun (i : Nat) (c : PairClass) => match closest ps c with | some p => if p.screened then 2 ^ i else 0 | none => 0
  (d.set (base + 7) contact).set (base + 8) (bit 0 .ll + bit 1 .li + bit 2 .lb : Nat)

/-- A reaction on every member of a chain that takes effect from the SI of T4. -/
def Dev.laterChain (d : Dev) (c code r : Nat) : Dev :=
  { d with geom := { d.geom with atT4 := d.geom.atT4 ++ (d.members c).map fun n => (n, code, r) } }

/-- Contacts of the cycle (R161): each raised once an episode, with CONTACT_REACTION on its chains from T4. A pair of this cycle
that was not tested keeps its episode: nothing has found it above its margin. (DEDUCED, log 162, safe.) -/
def Dev.contacts (d : Dev) : Dev :=
  let r := d.nat (act Reg.R3102_CONTACT_REACTION)
  let all := d.cycleResults
  let under := fun (c : PairClass) (key : Nat) =>
    (all.filter fun p => p.cls == c && p.tested && !p.screened && decide (f32 (p.dist : Int) ≤ f32 (d.reg (act key))))
  let ll := under .ll Reg.R3102_CONTACT_LL_MM
  let lb := under .lb Reg.R3102_CONTACT_LB_MM
  let d := each ll (fun p d =>
    if d.geom.llEpisode.contains (p.a, p.b) then d
    else
      let d := (d.raise Code.LINK_CONTACT Kind.chain (p.a / 32) r p.code).laterChain (p.a / 32) Code.LINK_CONTACT r
      if p.a / 32 = p.b / 32 then d else d.laterChain (p.b / 32) Code.LINK_CONTACT r) d
  let d := each lb (fun p d =>
    if d.geom.lbEpisode.contains (p.a, p.b) then d
    else (d.raise Code.BOX_CONTACT Kind.chain (p.a / 32) r p.code).laterChain (p.a / 32) Code.BOX_CONTACT r) d
  let now := fun (c : PairClass) (u : List PairRes) (old : List (Nat × Nat)) =>
    u.map (fun p => (p.a, p.b)) ++
      ((all.filter fun p => p.cls == c && !p.tested).map fun p => (p.a, p.b)).filter old.contains
  { d with geom := { d.geom with llEpisode := now .ll ll d.geom.llEpisode, lbEpisode := now .lb lb d.geom.lbEpisode } }

/-- A mask of chains. -/
def maskOf (cs : List Nat) : Nat := cs.foldl (fun m c => withBit m c true) 0

/-- CONTACT of R166 over the contacts that `keep` selects: the chains in LINK_CONTACT, those in BOX_CONTACT. -/
def Geom.contactMask (g : Geom) (ll lb : Nat × Nat → Bool) : Nat :=
  maskOf ((g.llEpisode.filter ll).flatMap fun (a, b) => [a / 32, b / 32]) +
    65536 * maskOf ((g.lbEpisode.filter lb).map fun (a, _) => a / 32)

/-- The results of the cycle switched (R162), those of a chain restricted to the pairs that involve it (R166). -/
def Dev.switchResults (d : Dev) : Dev :=
  let ps := d.cycleResults
  let d := { d with geom := { d.geom with results := ps } }
  let g := d.geom
  let d := d.putResults Reg.R3110_RESULT_CYCLE ps (g.contactMask (fun _ => true) fun _ => true)
  iterate 16 (fun c d =>
    let mine := ps.filter fun p => p.a / 32 == c || (p.cls == .ll && p.b / 32 == c)
    d.putResults (Reg.R3120_RESULT_CYCLE c) mine
      (g.contactMask (fun (a, b) => a / 32 == c || b / 32 == c) fun (a, _) => a / 32 == c)) d

/-! ## Zone tokens (R156 to R160) -/

/-- The result of a REQUEST or RELEASE shown to its chain. -/
def Dev.zoneStatus (d : Dev) (c code : Nat) : Dev := d.set (Reg.CH8_LAST_STATUS c) code

/-- REQUEST and RELEASE enter the zone's pending list (R156). -/
def Dev.zoneAsk (d : Dev) (c z : Nat) (ask : Bool) : Dev :=
  if 16 ≤ c then d.finish Code.OD_NO_ENTRY
  else if 64 ≤ z then d.finish Code.OD_RANGE
  else
    let x := d.zone z
    (d.setZone z { x with asks := x.asks ++ [{ chain := c, ask }] }).finish Code.STATUS_OK

/-- A release completed or forced: the token is free. -/
def Dev.freeToken (d : Dev) (z : Nat) (exiting : Bool) : Dev :=
  let x := d.zone z
  match x.holder with
  | none => d
  | some h =>
    d.setZone z { x with holder := none, releasing := false, forced := false,
                         exiting := if exiting then withBit x.exiting h true else x.exiting }

/-- Step 1 of R157: a forced release, or a pending one whose holder occupies the zone in neither frame set. -/
def Dev.zoneReleases (d : Dev) (z : Nat) : Dev :=
  let x := d.zone z
  match x.holder with
  | none => d
  | some h =>
    if x.forced then d.freeToken z false
    else if x.releasing ∧ x.occM.testBit h = false ∧ x.occC.testBit h = false then
      ((d.freeToken z true).zoneStatus h Code.ZONE_RELEASED).raise Code.ZONE_RELEASED Kind.zone z 0 h
    else d

/-- One entry of the pending list (R156). -/
def Dev.applyAsk (d : Dev) (z : Nat) (a : ZoneAsk) : Dev :=
  let x := d.zone z
  let c := a.chain
  if a.ask then
    if !d.zoneOn z || !(fieldLE (d.zoneRec z) 50 2).testBit c then
      (d.zoneStatus c Code.ZONE_NOT_PERMITTED).raise Code.ZONE_NOT_PERMITTED Kind.zone z 0 c
    else if x.holder = some c then (d.setZone z { x with releasing := false }).zoneStatus c Code.STATUS_OK
    else if x.queue.contains c then d.zoneStatus c Code.STATUS_OK
    else if 16 ≤ x.queue.length then (d.zoneStatus c Code.ZONE_QUEUE_FULL).raise Code.ZONE_QUEUE_FULL Kind.zone z 0 c
    else (d.setZone z { x with queue := x.queue ++ [c] }).zoneStatus c Code.STATUS_OK
  else if !d.zoneOn z then d.zoneStatus c Code.STATUS_OK
  else if x.holder = some c then (d.setZone z { x with releasing := true }).zoneStatus c Code.STATUS_OK
  else (d.setZone z { x with queue := x.queue.filter (· != c) }).zoneStatus c Code.STATUS_OK

/-- Step 2 of R157. (DEDUCED, log 63, safe.) -/
def Dev.zoneAsks (d : Dev) (z : Nat) : Dev :=
  let asks := (d.zone z).asks
  each asks (fun a d => d.applyAsk z a) (d.setZone z { d.zone z with asks := [] })

/-- Step 3 of R157: the head of the queue is granted a free token. -/
def Dev.zoneGrant (d : Dev) (z : Nat) : Dev :=
  let x := d.zone z
  match x.holder, x.queue with
  | none, c :: r =>
    ((d.setZone z { x with holder := some c, queue := r }).zoneStatus c Code.ZONE_GRANTED).raise Code.ZONE_GRANTED Kind.zone z 0 c
  | _, _ => d

/-- Step 4 of R157: chains under an approach hold, each raised on the first cycle of its hold. (DEDUCED, log 63, safe.) -/
def Dev.zoneHolds (d : Dev) (z : Nat) : Dev :=
  let x := d.zone z
  let exiting := x.exiting &&& (x.bandM ||| x.bandC)
  let held := maskOf ((List.range 16).filter fun c =>
    d.chainEn c && x.holder != some c && !exiting.testBit c && x.bandC.testBit c)
  let new := (List.range 16).filter fun c => held.testBit c && !x.held.testBit c
  let d := each new (fun c d => d.raise Code.ZONE_APPROACH_HOLD Kind.chain c 0 z) d
  d.setZone z { x with exiting, held }

/-- Step 5 of R157 with R159: chains in breach; `gone` is the holder whose release completed in this evaluation.
(DEDUCED, log 63, safe.) -/
def Dev.zoneBreaches (d : Dev) (z : Nat) (gone : Option Nat) : Dev :=
  let x := d.zone z
  let r := d.zoneRec z
  let react := fieldLE r 49 1
  let breach := maskOf ((List.range 16).filter fun c =>
    d.chainEn c && x.holder != some c && gone != some c && x.occM.testBit c)
  let d := d.setZone z { x with breach }
  each ((List.range 16).filter breach.testBit) (fun c d =>
    if (d.chain c).breachEp then d
    else
      let d := (d.modChain c fun y => { y with breachEp := true }).raise Code.ZONE_BREACH Kind.chain c react z
      let d := d.laterChain c Code.ZONE_BREACH react
      match x.holder with
      | some h => if (fieldLE r 56 1).testBit 0 then d.laterChain h Code.ZONE_BREACH react else d
      | none => d) d

/-- The chains whose token or request a commit ended see ZONE_RELEASED in this evaluation (R149, R156). -/
def Dev.zoneFreed (d : Dev) (z : Nat) : Dev :=
  let x := d.zone z
  each x.freed (fun c d => d.zoneStatus c Code.ZONE_RELEASED) (d.setZone z { x with freed := [] })

/-- One zone's evaluation (R157); a disabled zone only answers its pending list. -/
def Dev.zoneEval (d : Dev) (z : Nat) : Dev :=
  if !d.zoneOn z then d.zoneAsks z
  else
    let before := (d.zone z).holder
    let forced := (d.zone z).forced
    let d := d.zoneReleases z
    let gone := if (d.zone z).holder.isNone && !forced then before else none
    ((((d.zoneAsks z).zoneGrant z).zoneHolds z).zoneBreaches z gone)

/-- The evaluation of all zones in T3: what a commit released shown first (R156), holds for T4, and breach episodes that end
(R157 to R159). -/
def Dev.zoneEvaluation (d : Dev) : Dev :=
  let d := iterate 64 (fun z d => (d.zoneFreed z).zoneEval z) d
  iterate 16 (fun c d =>
    let holds := (List.range 64).foldl (fun m z => if (d.zone z).held.testBit c then m + 2 ^ z else m) 0
    let inBreach := (List.range 64).any fun z => (d.zone z).breach.testBit c
    d.modChain c fun x => { x with holdNext := holds, breachEp := x.breachEp && inBreach }) d

/-- FORCE_RELEASE (R160): taken only within a session; `session` says whether the requester holds it. -/
def Dev.forceRelease (d : Dev) (z : Nat) (session : Bool) : Dev :=
  if 64 ≤ z then d.finish Code.OD_NO_ENTRY
  else if !session then d.denied
  else
    let x := d.zone z
    match x.holder with
    | none => d.finish Code.STATUS_OK
    | some h =>
      if d.chainState h = AxState.disabled ∨ d.chainState h = AxState.fault then
        ((d.setZone z { x with forced := true }).raise Code.ZONE_FORCED Kind.zone z 0 h).finish Code.STATUS_OK
      else (d.raise Code.ZONE_FORCE_REFUSED Kind.zone z 0 h).finish Code.ZONE_FORCE_REFUSED

/-- A commit that disables a zone releases its token and empties its queue at the switch (R149); LAST_STATUS of these chains
follows in the next evaluation (R156). -/
def Dev.zonesAfterCommit (d : Dev) : Dev :=
  iterate 64 (fun z d =>
    if d.zoneOn z then d
    else
      let x := d.zone z
      let cs := (match x.holder with | some h => [h] | none => []) ++ x.queue
      let d := each cs (fun c d => d.raise Code.ZONE_RELEASED Kind.zone z 0 c) d
      d.setZone z { x with freed := x.freed ++ cs, holder := none, releasing := false, forced := false, queue := [], exiting := 0, held := 0,
                           breach := 0 }) d

/-! ## The geometry bank (R138, R139, R143 to R147, R150 to R153) -/

/-- Whether four binary32 numbers are a quaternion of norm 1 within 2^-16 (R147). -/
def quatUnit (b : Bytes) (off : Nat) : Bool :=
  let n := (List.range 4).foldl (fun (s : Rat) i => let x := f32 (fieldLE b (off + 4 * i) 4 : Nat); s + x * x) 0
  let lo : Rat := 1 - 1 / 65536; let hi : Rat := 1 + 1 / 65536
  decide (lo * lo ≤ n ∧ n ≤ hi * hi)

/-- Whether `n` binary32 numbers are finite. -/
def allFinite (b : Bytes) (off n : Nat) : Bool := (List.range n).all fun i => f32Finite (fieldLE b (off + 4 * i) 4 : Nat)

/-- The link table's own rules (R138); an empty table belongs to a chain that is not enabled. -/
def linksValid (t : Bytes) (unit : Nat → Nat) : Bool :=
  let n := fieldLE t 0 1
  decide (1 ≤ n ∧ n ≤ 12) && fieldLE t 1 1 == 1 && fieldLE t 2 6 == 0 && t.length == 8 + 40 * n + 128 &&
    ((List.range n).all fun i =>
      let o := linkOff i
      let kind := fieldLE t o 1; let ax := fieldLE t (o + 1) 1; let sg := sfieldLE t (o + 2) 1
      (kind == 1 || kind == 2) && decide (ax < 128) && (sg == 1 || sg == -1) && fieldLE t (o + 3) 1 == 0 &&
        unit ax == (if kind = 1 then 0 else 1) && allFinite t (o + 4) 7) &&
    ((List.range 4).all fun p => let o := toolOff n p; fieldLE t (o + 28) 4 == 0 && allFinite t o 7)

/-- The quaternions of a link table (R147). -/
def linkQuats (t : Bytes) : Bool :=
  let n := fieldLE t 0 1
  ((List.range n).all fun i => quatUnit t (linkOff i + 16)) && (List.range 4).all fun p => quatUnit t (toolOff n p + 12)

/-- The capsule table's rules for a chain of `n` members (R143). -/
def capsValid (t : Bytes) (n : Nat) : Bool :=
  t.length % 32 == 0 && decide (t.length ≤ 1024) &&
    (List.range (capCount t)).all fun i =>
      let o := capOff i
      let r := f32 (fieldLE t (o + 28) 4 : Nat)
      decide (fieldLE t o 1 ≤ n + 1 ∧ fieldLE t (o + 1) 1 < 16 ∧ fieldLE t (o + 2) 1 < 8) && fieldLE t (o + 3) 1 == 0 &&
        allFinite t (o + 4) 7 && decide (0 ≤ r ∧ r ≤ 2000)

/-- The box rules of R144 beyond KIND. -/
def boxRules (t : Bytes) (o : Nat) : Bool :=
  fieldLE t (o + 1) 1 == 0 && fieldLE t (o + 44) 4 == 0 && allFinite t (o + 4) 10 &&
    (List.range 3).all fun k => let h := f32 (fieldLE t (o + 32 + 4 * k) 4 : Nat); decide (1 / 2 ≤ h ∧ h ≤ 16384)

/-- The box table's rules (R144). -/
def boxesValid (t : Bytes) : Bool :=
  t.length == 12288 && (List.range 256).all fun b =>
    fieldLE t (48 * b) 1 == 0 || (decide (fieldLE t (48 * b) 1 ≤ 3) && boxRules t (48 * b))

/-- The zone table's rules (R145). -/
def zonesValid (t : Bytes) : Bool :=
  t.length == 4096 && (List.range 64).all fun z =>
    let o := 64 * z
    let en := fieldLE t (o + 48) 1
    let r := fieldLE t (o + 49) 1
    let ap := f32 (fieldLE t (o + 52) 4 : Nat)
    en == 0 || (en == 1 && fieldLE t (o + 1) 1 == 0 && fieldLE t (o + 44) 4 == 0 && boxRules (patch t (o + 1) [0]) o &&
      decide (1 ≤ r ∧ r ≤ 5) && f32Finite (fieldLE t (o + 52) 4 : Nat) && decide (0 ≤ ap ∧ ap ≤ 5000) &&
      decide (fieldLE t (o + 56) 1 < 2) && fieldLE t (o + 57) 7 == 0)

/-- Whether a box lies within the cell extent with a unit quaternion (R147). -/
def boxExtent (t : Bytes) (o : Nat) : Bool :=
  let h := vnorm (vecAt t (o + 32))
  quatUnit t (o + 16) && (vecAt t (o + 4)).all fun c => decide ((if c < 0 then -c else c) + h ≤ 16384 * fx1)

/-- The reach R_c of a chain in a bank (R153), in mm. -/
def Dev.reach (d : Dev) (c off : Nat) : Rat :=
  let t := d.bytes (Reg.CH3_LINKS c + off)
  let n := fieldLE t 0 1
  let links := (List.range n).foldl (fun s i => s + vnorm (vecAt t (linkOff i + 4))) 0
  let track := (List.range n).foldl (fun s i =>
    if fieldLE t (linkOff i) 1 = 2 then
      let ax := fieldLE t (linkOff i + 1) 1
      max s (max (|d.reg (Reg.AX2_SOFT_MIN ax)|) (|d.reg (Reg.AX2_SOFT_MAX ax)|) * 256)
    else s) 0
  let tool := ((List.range 4).map fun p => vnorm (vecAt t (toolOff n p))).foldl max 0
  let cap := d.bytes (Reg.CH4_CAPSULES c + off)
  let ends := ((List.range (capCount cap)).map fun i =>
    max (vnorm (vecAt cap (capOff i + 4))) (vnorm (vecAt cap (capOff i + 16)))).foldl max 0
  fxRat (vnorm (vecAt (d.bytes (Reg.CH2_BASE c + off)) 0) + links + track + tool + ends)

/-- E_K of a chain (R153). -/
def Dev.ekOf (d : Dev) (c off : Nat) : Rat :=
  ((fieldLE (d.bytes (Reg.CH3_LINKS c + off)) 0 1 + 2 : Nat) : Rat) * d.reach c off / 2097152

/-- The axes that the link tables of a bank list, those of chains that are not enabled too; each may stand in one (R139). -/
def Dev.bankMembers (d : Dev) (off : Nat) : List Nat :=
  (List.range 16).flatMap fun c =>
    let t := d.bytes (Reg.CH3_LINKS c + off)
    (List.range (fieldLE t 0 1)).map fun i => fieldLE t (linkOff i + 1) 1

/-- The code with which the staged bank (or, with `off` 0x80, the active one) fails, or STATUS_OK (R148). -/
def Dev.geometryCheck (d : Dev) (off : Nat) : Nat :=
  let ens := (List.range 16).filter fun c => d.flag (Reg.CH0_CHAIN_EN c + off)
  let unit := fun ax => d.nat (Reg.AX7_UNIT_KIND ax)
  let links := fun c => d.bytes (Reg.CH3_LINKS c + off)
  let caps := fun c => d.bytes (Reg.CH4_CAPSULES c + off)
  let cross := d.bytes (Reg.R3102_CROSS + off)
  let boxes := d.bytes (Reg.R3103_BOXES + off); let zones := d.bytes (Reg.R3104_ZONES + off)
  let used := (List.range 16).filter fun c => !(links c).isEmpty
  let margin := f32 (d.reg (Reg.R3102_BROAD_MARGIN + off))
  if !(ens.all (used.contains ·)) || !(used.all fun c => linksValid (links c) unit) ||
      !((List.range 16).all fun c => (caps c).isEmpty || capsValid (caps c) (fieldLE (links c) 0 1)) ||
      !decide (d.bankMembers off).Nodup || !boxesValid boxes || !zonesValid zones ||
      !((List.range 16).all fun c => (d.bytes (Reg.CH2_BASE c + off)).length == 28 && allFinite (d.bytes (Reg.CH2_BASE c + off)) 0 7) ||
      !((List.range 16).all fun a => (List.range 16).all fun b =>
        (fieldLE cross (2 * a) 2).testBit b == (fieldLE cross (2 * b) 2).testBit a) ||
      (d.bytes (Reg.R3105_EXCLUDE + off)).length % 4 != 0 ||
      !decide (f32 (d.reg (Reg.R3102_CONTACT_LL_MM + off)) < margin ∧ f32 (d.reg (Reg.R3102_CONTACT_LB_MM + off)) < margin) then
    Code.GEOMETRY_INVALID
  else if !((List.range 16).all fun c => decide (d.reach c off ≤ 16384)) || !(used.all fun c => linkQuats (links c)) ||
      !((List.range 16).all fun c => quatUnit (d.bytes (Reg.CH2_BASE c + off)) 12) ||
      !((List.range 256).all fun b => fieldLE boxes (48 * b) 1 == 0 || boxExtent boxes (48 * b)) ||
      !((List.range 64).all fun z => fieldLE zones (64 * z + 48) 1 == 0 || boxExtent zones (64 * z)) then
    Code.EXTENT_EXCEEDED
  else if 3200000 < d.pairLoad off then Code.DISTANCE_BUDGET
  else Code.STATUS_OK

/-- What a geometry switch computes: E_K, the members reported, U and the zones it disables (R139, R149, R151, R153).
(DEDUCED, log 56, safe.) -/
def Dev.geometrySwitched (d : Dev) : Dev :=
  let d := iterate 16 (fun c d =>
    let mem := d.members c
    let d := (d.set (Reg.CH1_E_K c) (f32Of (if mem.isEmpty then 0 else d.ekOf c 0x80))).set (Reg.CH0_N_MEMBERS c) mem.length
    d.setBytes (Reg.CH0_MEMBERS c) ((mem ++ List.replicate (12 - mem.length) 0xFF).map byte)) d
  let u := d.pairLoad 0x80
  ((d.set Reg.R3101_BUDGET_U u).set Reg.R1102_DISTANCE_CYCLES u).zonesAfterCommit

end Sys2Proof.Machine
end

