-- ==== Sys2Proof/Machine/SafeCore.lean ====
section
/-! DEFINITION. Latched stops (R391), the tests of startup (R373), the entry of the device into SAFE (R458) and the
channels' reactions on chains that other blocks demand (spec/11). -/

namespace Sys2Proof.Machine

/-! ## Latches (R391) -/

/-- LATCH_CODE and, on an axis without closed loops and outside FAULT, SAFE_STATE follow the latches. -/
def Dev.showLatch (d : Dev) (n : Nat) : Dev :=
  let ls := (d.axSafe n).latches
  let d := d.set (Reg.R5080_LATCH_CODE n) (match ls.head? with | some l => l.code | none => 0 : Nat)
  if d.axState n = AxState.disabled ∨ d.axState n = AxState.ready then
    d.set (Reg.R5080_SAFE_STATE n)
      (if ls.isEmpty then 0 else if ls.any (·.react = Reaction.sto) then 4
       else if ls.any (·.react = Reaction.ss1) then 1 else 2 : Nat)
  else d

/-- A stop demanded under spec/11: latched, then carried out. -/
def Dev.latchStop (d : Dev) (n code fn r : Nat) : Dev :=
  let x := d.axSafe n
  let l : StopLatch := { code, fn, react := r }
  let d := d.setAxSafe n { x with latches := if x.latches.contains l then x.latches else x.latches ++ [l] }
  (d.react n code r).showLatch n

/-- The latches that meet a condition released. (DEDUCED, log 110, safe.) -/
def Dev.unlatch (d : Dev) (n : Nat) (p : StopLatch → Bool) : Dev :=
  let x := d.axSafe n
  if x.latches.any p then (d.setAxSafe n { x with latches := x.latches.filter fun l => !p l }).showLatch n else d

/-- A latched stop on every member of a chain. -/
def Dev.latchChain (d : Dev) (c code r : Nat) : Dev := each (d.members c) (fun n d => d.latchStop n code 8 r) d

/-- The latches of a code released on every member of a chain. -/
def Dev.unlatchChain (d : Dev) (c code : Nat) : Dev :=
  each (d.members c) (fun n d => d.unlatch n fun l => l.code == code && l.fn == 8) d

/-- A code that channel A or B raises for an axis with STO at once (R381, R385, R386). -/
def Dev.violation (d : Dev) (n code : Nat) : Dev :=
  (d.raise code Kind.axis n Reaction.sto).latchStop n code 8 Reaction.sto

/-! ## Reactions of chain functions at the SI of T4 (R393) -/

/-- The codes whose stop is latched as a monitoring violation (R391). -/
def latchedCodes : List Nat :=
  [Code.SLS_VIOLATION, Code.SS1_RAMP_VIOLATION, Code.ZONE_DISAGREE, Code.SSM_DISAGREE, Code.SSM_B_LATE,
   Code.SSM_FRAME_LOST, Code.CHANNEL_DISAGREE]

/-- A reaction due at T4 carried out on one axis. -/
def Dev.chainReaction (d : Dev) (n code r : Nat) : Dev :=
  if latchedCodes.contains code then d.latchStop n code (if code = Code.SLS_VIOLATION then 9 else 8) r else d.react n code r

/-! ## Startup tests (R373) -/

/-- STATE of a function (R404). -/
def Dev.showFn (d : Dev) (k : Nat) : Dev :=
  let x := d.safeFn k
  (d.set (Reg.R5010_STATE k) (if x.disc then 2 else if x.demand then 1 else if x.test then 3 else 0 : Nat)).set
    (Reg.R5010_LEVELS k) x.levels

/-- Every GUARD with STARTUP_TEST set waits for its test. (DEDUCED, log 107, unsafe.) -/
def Dev.startTests (d : Dev) : Dev :=
  iterate 8 (fun k d =>
    let x := d.safeFn k
    let on := d.fnKind k == FnKind.guard && d.flag (act (Reg.R5010_STARTUP_TEST k))
    (d.setSafeFn k { x with test := on, opened := on && (x.demand || x.disc) }).showFn k) d

/-! ## SAFE (R13, R380, R458) -/

/-- Whether the unit belongs to a pair, and is the active one. -/
def Dev.paired (d : Dev) : Bool := d.nat (act Reg.R5800_PAIR_MODE) == 1 || d.nat (act Reg.R5800_PAIR_MODE) == 2
def Dev.active (d : Dev) : Bool := d.paired && d.nat Reg.R5801_ROLE == 1

/-- STO on every axis. -/
def Dev.stoAll (d : Dev) (code : Nat) : Dev := iterate 128 (fun n d => d.react n code Reaction.sto) d

/-- Every safe output off: both control signals, and a running pulse becomes the switch-off. -/
def Dev.outputsOff (d : Dev) : Dev :=
  iterate 8 (fun k d =>
    let x := d.safeOut k
    let d := d.setSafeOut k { x with swA := false, swB := false }
    d.when (d.nat (Reg.R5020_STATE k) != 3) fun d => d.set (Reg.R5020_STATE k) 0) d

/-- Every TORQUE_PERMIT 0. -/
def Dev.permitsOff (d : Dev) : Dev := iterate 128 (fun n d => d.set (Reg.R5080_PERMIT n) 0) d

/-- Whether a hart issues instructions: not while blocked in an ASK, and the background context only while the tick context is
(R255). -/
def Dev.issuing (d : Dev) (h : Nat) : Bool :=
  let hart (h : Nat) : Hart := mget {} d.sett.harts h
  d.sett.started && (hart h).asked.isNone && (h % 2 == 0 || (hart (h - 1)).asked.isSome)

/-- The time both harts of a core issued instructions reckoned up to now (R288). -/
def Dev.reckon (d : Dev) (k : Nat) : Dev :=
  let one (h : Nat) (m : Map Hart) : Map Hart :=
    let x := mget {} m h
    mset {} m h { x with mark := d.rawNow, busy := x.busy + (if d.issuing h then d.rawNow - x.mark else 0) }
  { d with sett := { d.sett with harts := one (2 * k + 1) (one (2 * k) d.sett.harts) } }

/-- A hart changed after its core's time is reckoned. -/
def Dev.modHart (d : Dev) (h : Nat) (f : Hart → Hart) : Dev :=
  let d := d.reckon (h / 2)
  { d with sett := { d.sett with harts := mset {} d.sett.harts h (f (mget {} d.sett.harts h)) } }

/-- Every blocked ASK returns 0 (R260). -/
def Dev.endAsks (d : Dev) : Dev :=
  each ((d.sett.harts.filter fun h => h.2.asked.isSome).map Prod.fst)
    (fun h d => d.modHart h fun x => { x with asked := none, answer := 0 }) d

/-- A change of the device state: STATE_CYCLE and bit 0 of EVENT follow (R448, R465). -/
def Dev.goTo (d : Dev) (st : Nat) : Dev :=
  if d.state = st then d
  else
    let d := d.when (d.state == DevState.run) Dev.endAsks
    let d := (d.set Reg.R1001_DEV_STATE st).set Reg.R1001_STATE_CYCLE d.cycle
    let d := d.when (st == DevState.failed) fun d => d.set Reg.R6020_CONFIRM_CYCLES 0
    { d with event := d.event ||| 1 }

/-- Entry into SAFE: SAFE_CAUSE, every permit 0 and STO on every axis in the same tick, safe outputs off; CONFIRM_CYCLES
returns to 0 (R484), but where DEV_CONTROL was the cause (`Dev.devSafe`). -/
def Dev.enterSafe (d : Dev) (cause : Nat) : Dev :=
  let d := { (d.set Reg.R6020_CONFIRM_CYCLES 0) with boot := { d.boot with safeByCmd := false } }
  (((d.goTo DevState.safe).set Reg.R1001_SAFE_CAUSE cause).stoAll cause).outputsOff.permitsOff

end Sys2Proof.Machine
end

