-- ==== Sys2Proof/Machine/Separation.lean ====
section
/-! DEFINITION. The kinematics run (R142, R155, R181, R184), the tracks of the sensor sources (R167 to R171), the
separation evaluation of channel A (R172 to R181), the switch of the overrides (R25), braking envelopes and the stops
measured (R182 to R186). -/

namespace Sys2Proof.Machine

/-! ## Chains under separation monitoring -/

def Dev.ssm (d : Dev) (c : Nat) : Bool := d.chainEn c && d.flag (act (Reg.R3210_SSM_EN c))
def Dev.ssmChains (d : Dev) : List Nat := (List.range 16).filter d.ssm
def Dev.enabledChains (d : Dev) : List Nat := (List.range 16).filter d.chainEn

/-- The reaction of a chain's configured protective stop (R33, R177). -/
def Dev.stopReaction (d : Dev) (c : Nat) : Nat :=
  if d.nat (act (Reg.R3210_STOP_KIND c)) = 1 then Reaction.ss1 else Reaction.ss2

/-- A configured protective stop that takes effect from the SI of T4 with override 0 (R31, R33). (DEDUCED, log 72, safe.) -/
def Dev.protectiveStop (d : Dev) (c code : Nat) : Dev :=
  { d with geom := { d.geom with stopsT4 := d.geom.stopsT4 ++ [(c, code)], zeroOvr := d.geom.zeroOvr ++ [c] } }

/-! ## Braking envelopes (R182, R183) -/

/-- Where point `i` of class `p` lies in an envelope. -/
abbrev envOff (p i : Nat) : Nat := 192 * p + 12 * i

/-- The three fields of a point: speed, time, distance. -/
def envField (b : Bytes) (p i k : Nat) : Rat := f32 (fieldLE b (envOff p i + 4 * k) 4 : Nat)

/-- The effective point `i` of a class: V, T, D. -/
def Dev.envPoint (d : Dev) (c p i : Nat) : Rat × Rat × Rat :=
  let cfg := d.bytes (act (Reg.CH7_ENVELOPE c)); let lrn := d.bytes (Reg.CH7_LEARNED c)
  (envField cfg p i 0, ratMax (envField cfg p i 1) (envField lrn p i 1), ratMax (envField cfg p i 2) (envField lrn p i 2))

/-- The envelope lookup for a speed (R183): T, D, and whether it was extrapolated. -/
def Dev.envLookup (d : Dev) (c p : Nat) (v : Rat) : Rat × Rat × Bool :=
  match (List.range 16).find? fun i => decide (v ≤ (d.envPoint c p i).1) with
  | some i => let (_, t, x) := d.envPoint c p i; (t, x, false)
  | none =>
    let (w, t, x) := d.envPoint c p 15
    (t * v / w, x * (v / w) * (v / w), true)

/-- The effective envelope as `CH[c].7.03` shows it. -/
def Dev.effectiveEnv (d : Dev) (c : Nat) : Bytes :=
  (List.range 64).flatMap fun k =>
    let (v, t, x) := d.envPoint c (k / 16) (k % 16)
    leBytes 4 (f32Of v) ++ leBytes 4 (f32Of t) ++ leBytes 4 (f32Of x)

/-- The learned points changed (R186): LEARNED_DIGEST follows. -/
def Dev.setLearned (d : Dev) (c : Nat) (b : Bytes) : Dev :=
  (d.setBytes (Reg.CH7_LEARNED c) b).set (Reg.CH7_LEARNED_DIGEST c) (digest128 b)

/-! ## The kinematics run -/

/-- The faster endpoint of a capsule. -/
def CapPose.speed (p : CapPose) : Int := max (vnorm p.va) (vnorm p.vb)

/-- The fastest endpoint of the present capsules of a chain. -/
def Dev.fastest (d : Dev) (c : Nat) : Int := ((d.chain c).caps.map CapPose.speed).foldl max 0

/-- The present capsules with flag I. -/
def Dev.capsI (d : Dev) (c : Nat) : List CapPose := (d.chain c).caps.filter fun p => d.capFlag p.id 1
/-- The speed of the fastest of them (R184). (DEDUCED, log 70, unsafe.) -/
def Dev.fastestI (d : Dev) (c : Nat) : Int := ((d.capsI c).map CapPose.speed).foldl max 0

/-- Displacements of the endpoints from `old` to `new`, added up. -/
def addDisp (dist : Map Int) (old new : List CapPose) : Map Int :=
  new.foldl (fun m p =>
    match old.find? fun q => q.id == p.id with
    | some q =>
      let m := mset 0 m (2 * p.id) (mget 0 m (2 * p.id) + vnorm (vsub p.a q.a))
      mset 0 m (2 * p.id + 1) (mget 0 m (2 * p.id + 1) + vnorm (vsub p.b q.b))
    | none => m) dist

/-- The tick in which every member of the chain began an emergency ramp under QSTOP, SS1 or SS2, if it is one (R184).
(DEDUCED, log 73, safe.) -/
def Dev.chainRamp (d : Dev) (c : Nat) : Option (Nat × Nat) :=
  match d.members c with
  | [] => none
  | m :: ms =>
    let a := d.axis m
    if a.rampBy ≠ 0 ∧ ms.all (fun k => (d.axis k).rampBy != 0 && (d.axis k).rampAt == a.rampAt) = true then
      some (a.rampAt, a.rampRaw)
    else none

/-- The measurement of a chain's stop at a T0 (R184): `old` are its flag I capsules, `fast` their fastest endpoint and `cls` the
payload class at the T0 before. (DEDUCED, log 70, unsafe.) -/
def Dev.measureStop (d : Dev) (c : Nat) (old : List CapPose) (fast : Int) (cls : Nat) : Dev :=
  let x := d.chain c
  let now := d.tickAbs
  let new := d.capsI c
  let v := d.fastestI c
  let d := d.modChain c fun x => { x with fastT0 := v }
  match x.meas with
  | some m =>
    if m.ended.isSome then d
    else
      let bad := m.bad || x.stopBad || decide (0 < d.frameAge c) || d.nat (Reg.CH1_ACTIVE_PAYLOAD c) != m.cls
      let m := if m.tick = now then m else
        { m with dist := addDisp m.dist old new, after := some (m.after.getD v) }
      let stood := decide (m.tick < now) && decide (fxRat v ≤ f32 (d.reg (act (Reg.CH7_STANDSTILL_MM_S c))))
      d.modChain c fun x => { x with meas := some { m with bad, ended := if stood then some d.clk.raw else none } }
  | none =>
    match d.chainRamp c with
    | some (t, raw) =>
      if now < t + 8 ∧ t ≤ now then
        let was := if t = now then d.nat (Reg.CH1_ACTIVE_PAYLOAD c) else cls
        let m : StopMeas := { tick := t, raw, before := if t = now then v else fast, cls := was }
        let m := if t = now then m else { m with dist := addDisp [] old new, after := some v }
        let m := { m with bad := x.stopBad || decide (0 < d.frameAge c) || d.nat (Reg.CH1_ACTIVE_PAYLOAD c) != m.cls,
                          ended := if t < now ∧ fxRat v ≤ f32 (d.reg (act (Reg.CH7_STANDSTILL_MM_S c))) then some d.clk.raw
                                   else none }
        d.modChain c fun x => { x with meas := some m }
      else d
    | none => d

/-- SSM_FRAME_LOST (R181): a position of a monitored chain aged beyond the AGE_LIMIT of a member. (DEDUCED, log 68, safe.) -/
def Dev.frameLost (d : Dev) (c : Nat) : Dev :=
  if !d.ssm c then d
  else
    let lost := (d.members c).any fun n => decide (d.ageLimit n < (d.axis n).fb.pos.age)
    let told := (d.members c).any fun n => (d.axSafe n).latches.any fun l => l.code == Code.SSM_FRAME_LOST
    if lost then
      if told then d
      else (d.raise Code.SSM_FRAME_LOST Kind.chain c Reaction.ss1).latchChain c Code.SSM_FRAME_LOST Reaction.ss1
    else d.unlatchChain c Code.SSM_FRAME_LOST

/-- The speed of the origin of a monitored frame (R389). -/
def Dev.frameSpeed (d : Dev) (c i : Nat) : Int :=
  let fs := (d.chain c).frames
  vnorm (d.pointVel c fs i ((fs.getD i Frame.id).t))

/-- The frames of MON_FRAMES that a chain has (R389, R390). -/
def Dev.monFrames (d : Dev) (c : Nat) : List Nat :=
  (List.range (d.chain c).frames.length).filter fun i => d.bit (act (Reg.R5040_MON_FRAMES c)) i

/-- MAX_POINT_SPEED at the last T0 (R406). -/
def Dev.pointSpeeds (d : Dev) (c : Nat) : Dev :=
  d.set (Reg.R5040_MAX_POINT_SPEED c) (f32Of (fxRat (((d.monFrames c).map (d.frameSpeed c)).foldl max 0)))

/-- KINEMATICS_RUN (R142, R155): in T0, from +12.0 µs. -/
def Dev.kinematicsRun (d : Dev) : Dev :=
  if d.clk.tick ≠ 0 then d
  else
    let d := d.at 12000
    let d := iterate 16 (fun c d =>
      let old := d.capsI c
      let fast := (d.chain c).fastT0
      let cls := d.nat (Reg.CH1_ACTIVE_PAYLOAD c)
      let d := d.chainKinematics c
      if d.chainEn c then ((d.measureStop c old fast cls).pointSpeeds c).frameLost c else d) d
    let d := iterate 64 (fun z d => d.checkZone z) d
    { d with geom := { d.geom with kinDone := true } }

/-- KINEMATICS_OVERRUN at the SI of T1 (R31, R33, R553): every chain goes to its protective stop. (DEDUCED, log 65, safe.) -/
def Dev.kinematicsOverrun (d : Dev) : Dev :=
  if d.clk.tick ≠ 1 ∨ d.geom.kinDone = true ∨ d.geom.kinOver = true then d
  else
    let d := d.overrun Code.KINEMATICS_OVERRUN Reg.R1101_KINEMATICS_COUNT
    let d := d.raiseAt 0 Code.KINEMATICS_OVERRUN Kind.device 0 0 0
    let d := each d.enabledChains (fun c d =>
      let x := d.chain c
      let d := d.when x.meas.isSome fun d => d.modChain c fun x => { x with meas := x.meas.map fun m => { m with bad := true } }
      d.protectiveStop c Code.KINEMATICS_OVERRUN) d
    { d with geom := { d.geom with kinOver := true } }

/-- The chains of a pair. -/
def PairRes.chains (p : PairRes) : List Nat := if p.cls = .ll then [p.a / 32, p.b / 32] else [p.a / 32]

/-- The chains with a pair that is untested in this cycle (R31). -/
def Dev.untestedChains (d : Dev) : List Nat := (d.cycleResults.filter fun p => !p.tested).flatMap PairRes.chains

/-- DISTANCE_OVERRUN at the SI of T3 (R31): the chains with an untested pair. -/
def Dev.distanceOverrun (d : Dev) : Dev :=
  let cs := d.untestedChains
  if d.clk.tick ≠ 3 ∨ cs.isEmpty = true ∨ d.geom.distOver = true then d
  else
    let d := d.overrun Code.DISTANCE_OVERRUN Reg.R1101_DISTANCE_COUNT
    let d := d.raiseAt 0 Code.DISTANCE_OVERRUN Kind.device 0 0 0
    let d := each ((List.range 16).filter cs.contains) (fun c d => d.protectiveStop c Code.DISTANCE_OVERRUN) d
    { d with geom := { d.geom with distOver := true } }

/-- SEPARATION_OVERRUN at +24.0 µs of T3 (R31): the overrides of this cycle were not written; the results of the cycle and its
contacts stand all the same (R161, R162). (DEDUCED, log 65, safe.) -/
def Dev.separationOverrun (d : Dev) : Dev :=
  if d.clk.tick ≠ 3 ∨ d.sep.evalA = some d.clk.cycle64 then d
  else
    let now := d.clk.cycle64
    let d := (d.at 24000).overrun Code.SEPARATION_OVERRUN Reg.R1101_SEPARATION_COUNT
    let d := d.raiseAt 24000 Code.SEPARATION_OVERRUN Kind.device 0 0 0
    let d := (d.when d.framesReady Dev.contacts).switchResults
    let d := each d.enabledChains (fun c d => d.protectiveStop c Code.SEPARATION_OVERRUN) d
    { d with sep := { d.sep with evalA := some now } }

/-! ## Tracks (R167 to R171) -/

def Dev.src (d : Dev) (s : Nat) : TrackSrc := mget {} d.sep.srcs s
def Dev.setSrc (d : Dev) (s : Nat) (x : TrackSrc) : Dev := { d with sep := { d.sep with srcs := mset {} d.sep.srcs s x } }
def Dev.slot (d : Dev) (j : Nat) : Slot := mget {} d.sep.slots j
def Dev.setSlot (d : Dev) (j : Nat) (x : Slot) : Dev := { d with sep := { d.sep with slots := mset {} d.sep.slots j x } }

def Dev.srcOn (d : Dev) (s : Nat) : Bool := d.nat (act (Reg.R3220_CONN s)) != 0xFFFF
def Dev.srcSlots (d : Dev) (s : Nat) : List Nat :=
  (List.range (d.nat (act (Reg.R3220_SLOT_COUNT s)))).map (d.nat (act (Reg.R3220_SLOT_BASE s)) + ·)

/-- The source of a slot. -/
def Dev.slotSrc (d : Dev) (j : Nat) : Option Nat := (List.range 8).find? fun s => d.srcOn s && (d.srcSlots s).contains j

/-- A track record of a payload in the byte order of the image (R168). -/
def trackImage (b : Bytes) : Bytes :=
  (slice b 0 2).reverse ++ slice b 2 2 ++ (List.range 10).flatMap fun i => (slice b (4 + 4 * i) 4).reverse

/-- Whether a payload is accepted by R168. -/
def payloadOk (b : Bytes) (slots : Nat) : Bool :=
  let n := fieldBE b 0 1
  decide (n ≤ slots) && (slice b 1 3).all (· == 0) && (b.drop (4 + 44 * n)).all (· == 0) &&
    (List.range n).all fun i => fieldBE b (4 + 44 * i + 3) 1 == 0 && decide (fieldBE b (4 + 44 * i + 2) 1 ≤ 2)

/-- A payload that arrives on a source's connection (R168). -/
def Dev.trackPayload (d : Dev) (s : Nat) (b : Bytes) : Dev :=
  if payloadOk b (d.nat (act (Reg.R3220_SLOT_COUNT s))) then
    (d.setSrc s { d.src s with payload := some b, rx := d.rawNow, fresh := true }).set (Reg.R3220_LAST_RX_CYCLE s) d.cycle
  else d.count (Reg.R3220_REJECTED s)

/-- Whether the source is timed out at this SI of T1 (R170). -/
def Dev.srcTimedOut (d : Dev) (s : Nat) : Bool :=
  let x := d.src s
  x.payload.isNone || decide (d.nat (act (Reg.R3220_TIMEOUT_US s)) * 1000 < d.clk.raw - x.rx)

/-- The boxes of KIND 3 (R144). -/
def Dev.openings (d : Dev) : List Nat :=
  (List.range 256).filter fun k => fieldLE (d.bytes (act Reg.R3103_BOXES)) (48 * k) 1 == 3

/-- The centre of a box as binary32 codes, and the length of its half extents. -/
def Dev.boxCentre (d : Dev) (k : Nat) : Bytes := slice (d.bytes (act Reg.R3103_BOXES)) (48 * k + 4) 12
def Dev.boxHalf (d : Dev) (k : Nat) : Rat := fxRat (vnorm (vecAt (d.bytes (act Reg.R3103_BOXES)) (48 * k + 32)))

/-- The opening nearest a point, by centre distance. -/
def Dev.nearestOpening (d : Dev) (a : Vec3) : Option Nat :=
  d.openings.foldl (fun m k =>
    match m with
    | some j => if vnorm (vsub (vecAt (d.boxCentre k) 0) a) < vnorm (vsub (vecAt (d.boxCentre j) 0) a) then some k else some j
    | none => some k) none

/-- The endpoints and the radius at t_since 0 of a replacement (R170): from the slot's last valid record, or from the
source's opening. The coordinates of a source without an opening are free. -/
def Dev.worst (d : Dev) (s : Nat) (last : Option Bytes) : Bytes × Rat :=
  match last with
  | some r =>
    let mid := (List.range 3).map fun i => (f32 (fieldLE r (4 + 4 * i) 4 : Nat) + f32 (fieldLE r (16 + 4 * i) 4 : Nat)) / 2
    let a := mid.flatMap fun q => leBytes 4 (f32Of q)
    let r0 := f32 (fieldLE r 28 4 : Nat)
    match d.nearestOpening (mid.map fxOf) with
    | some k => (a ++ d.boxCentre k, r0 + if d.boxCentre k = a then 0 else d.boxHalf k)
    | none => (a ++ a, r0)
  | none =>
    let o := d.nat (act (Reg.R3220_OPENING_BOX s))
    match (if o = 0xFF then d.openings.head? else some o) with
    | some k => (d.boxCentre k ++ d.boxCentre k, 0)
    | none =>
      let p := (List.range 3).flatMap fun i => leBytes 4 (Config.noOpening s i % 4294967296)
      (p ++ p, 0)

/-- A slot's image written. -/
def Dev.putSlot (d : Dev) (j : Nat) (r : Bytes) : Dev :=
  d.setBytes Reg.R3106_INTRUDERS (patch (d.bytes Reg.R3106_INTRUDERS) (44 * j) r)

/-- The slot as a worst-case intruder of VALID 3, grown since `t` (R170). (DEDUCED, log 66, unsafe.) -/
def Dev.replaceSlot (d : Dev) (s j : Nat) (last : Option Bytes) (t : Nat) (track : Bytes) : Dev :=
  let (ab, r0) := d.worst s last
  let since : Rat := ((d.clk.raw - t : Nat) : Rat) / 1000000000
  let r := ratMin 32768 (r0 + f32 (d.reg (act Reg.R3200_V_H_MAX)) * since)
  d.putSlot j (track ++ [3, 0] ++ ab ++ leBytes 4 (f32Of r) ++ List.replicate 12 0)

/-- Whether a record is replaced by R171. -/
def recordBad (r : Bytes) : Bool :=
  !allFinite r 4 10 || decide (f32 (fieldLE r 28 4 : Nat) < 0) ||
    !(List.range 6).all fun i => decide (ratAbs (f32 (fieldLE r (4 + 4 * i) 4 : Nat)) ≤ 16384)

/-- One slot of a source at a copy; `ends` says whether the copy ends a timeout of the source, whose replacements it overwrites
(R170): a record replaced in it begins a replacement of its own (R171). (DEDUCED, log 66, unsafe.) -/
def Dev.copySlot (d : Dev) (s j : Nat) (r : Option Bytes) (ends : Bool) : Dev :=
  match r with
  | none => (d.putSlot j (List.replicate 44 0)).setSlot j {}
  | some r =>
    if fieldLE r 2 1 = 0 then (d.putSlot j (List.replicate 44 0)).setSlot j {}
    else if recordBad r then
      let x := d.slot j
      let since := if ends then none else x.since
      let d := d.when since.isNone fun d => d.raise Code.TRACK_REPLACED Kind.sensor s 0 j
      let t := since.getD d.clk.raw
      (d.replaceSlot s j x.last t (slice r 0 2)).setSlot j { x with since := some t }
    else (d.putSlot j r).setSlot j { last := some r, since := none }

/-- TRACK_COPY at the SI of T1 (R168, R170): a source within its timeout is copied; the replacements of one that is timed
out grow. -/
def Dev.trackCopy (d : Dev) : Dev :=
  if d.clk.tick ≠ 1 then d
  else
    iterate 8 (fun s d =>
      let x := d.src s
      if !d.srcOn s then d.set (Reg.R3220_STATE s) 0
      else match d.srcTimedOut s, x.payload with
        | false, some b =>
          let n := fieldBE b 0 1
          let d := each (d.srcSlots s).zipIdx (fun (j, i) d =>
            d.copySlot s j (if i < n then some (trackImage (slice b (4 + 44 * i) 44)) else none) x.since.isSome) d
          (d.setSrc s { x with fresh := false, since := none }).set (Reg.R3220_STATE s) 1
        | _, _ =>
          match x.since with
          | some _ => each (d.srcSlots s) (fun j d =>
              match (d.slot j).since with
              | some t => d.replaceSlot s j (d.slot j).last t (slice (d.bytes Reg.R3106_INTRUDERS) (44 * j) 2)
              | none => d) d
          | none => d) d

/-- TRACK_TIMEOUT at the SI of T1 (R170), once an episode. -/
def Dev.trackTimeout (d : Dev) (s : Nat) : Dev :=
  let x := d.src s
  if 8 ≤ s ∨ !d.srcOn s ∨ d.clk.tick ≠ 1 ∨ !d.srcTimedOut s ∨ x.since.isSome then d
  else
    let now := d.clk.raw
    let d := (d.raise Code.TRACK_TIMEOUT Kind.sensor s).count (Reg.R3220_TIMEOUTS s)
    let d := (d.setSrc s { x with since := some now }).set (Reg.R3220_STATE s) 2
    let held := (d.srcSlots s).filter fun j => fieldLE (d.bytes Reg.R3106_INTRUDERS) (44 * j + 2) 1 != 0
    if held.isEmpty then
      each ((d.srcSlots s).take 1) (fun j d => (d.replaceSlot s j none now [0, 0]).setSlot j { since := some now }) d
    else each held (fun j d =>
      (d.replaceSlot s j (d.slot j).last now (slice (d.bytes Reg.R3106_INTRUDERS) (44 * j) 2)).setSlot j
        { d.slot j with since := some now }) d

/-! ## The protective separation distance (R172 to R176) -/

/-- A pair as the monitor evaluates it (R172). -/
structure SsmPair where
  slot : Nat
  code : Nat
  d    : Rat
  vh   : Rat
  u    : Rat
  tr   : Rat
deriving DecidableEq, Repr

/-- What the condition of R175 uses of a chain. -/
structure SsmChain where
  c    : Nat
  cls  : Nat
  vref : Rat
  hi   : Rat
  fall : Rat
  czz  : Rat
deriving DecidableEq, Repr

def Dev.ssmChain (d : Dev) (c : Nat) : SsmChain :=
  let vref := f32 (d.reg (act (Reg.R3210_V_REF c)))
  let lam := q31One (d.chain c).lamT0
  { c, cls := d.nat (Reg.CH1_ACTIVE_PAYLOAD c), vref,
    hi := ratMin 1 (lam + fix (d.reg (Reg.CH6_LAMBDA_RISE c)) / 4000),
    fall := fix (d.reg (Reg.CH6_LAMBDA_FALL c)),
    czz := f32 (d.reg (act Reg.R3200_C_MM)) + f32 (d.reg (act Reg.R3200_Z_D_MM)) + f32 (d.reg (act (Reg.R3210_Z_R_MM c))) +
      (d.nat (Reg.CH1_FRAME_AGE c) : Rat) / 32000 * vref }

/-- S_p at a candidate override (R173). (DEDUCED, log 72, safe.) -/
def Dev.spOf (d : Dev) (k : SsmChain) (p : SsmPair) (o : Rat) : Rat :=
  let lo := ratMin o k.hi
  let (ts, ds, _) := d.envLookup k.c k.cls (lo * k.vref)
  p.vh * (p.tr + ts) + lo * p.u * p.tr + ds + k.czz

/-- v_h × H + X at a candidate override (R175). -/
def closure (k : SsmChain) (p : SsmPair) (o : Rat) : Rat :=
  let lo := ratMin o k.hi
  let t4 : Rat := 1 / 8000
  let tf := t4 + (if o < k.hi then (k.hi - o) / k.fall else 0)
  let h := ratMax (1 / 4000) tf
  p.vh * h + k.vref * (k.hi * t4 + (k.hi + lo) / 2 * (tf - t4) + lo * (h - tf))

/-- The left side of R175. -/
def Dev.leftSide (d : Dev) (k : SsmChain) (p : SsmPair) (o : Rat) : Rat := d.spOf k p o + closure k p o

/-- The candidates of R176 as Q1.31 codes, rising. -/
def Dev.candidates (d : Dev) (c : Nat) : List Nat :=
  let m := d.nat (act (Reg.R3210_O_MIN c))
  m :: ((List.range 32).map fun i => if i = 31 then 0x7FFFFFFF else (i + 1) * 67108864).filter fun k => decide (m < k)

/-- D_c: the largest POS divisor among the members (R173). -/
def Dev.chainDiv (d : Dev) (c : Nat) : Nat := ((d.members c).map d.posDiv).foldl max 0

/-- The unit vector from a capsule's closest point to the intruder's; free where they coincide.
(DESIGN CHOICE, log 67, safe.) -/
def unitTo (a b : Vec3) (free : Nat) : Vec3 :=
  let v := vsub b a
  let n := vnorm v
  if n = 0 then (List.range 3).map fun i => Config.contactNormal free i else v.map fun x => (x * fx1).fdiv n

/-- A pair of chain `c` with the quantities of R172. -/
def Dev.ssmPair (d : Dev) (k : SsmChain) (p : PairRes) (free : Nat) : SsmPair :=
  let j := p.b
  let s := (d.slotSrc j).getD 0
  let img := d.bytes Reg.R3106_INTRUDERS
  let valid := fieldLE img (44 * j + 2) 1
  let w := vecAt img (44 * j + 32)
  let a := (d.poseOf p.a p.cmd).getD { id := p.a, a := [], b := [], va := [], vb := [] }
  let (n, vdir) := match d.intruder j with
    | some q =>
      let (_, t, u) := exactDist (d.capPrim a) q
      let n := unitTo (lerp a.a a.b t) (lerp q.a q.b u) free
      (n, max 0 (vdot (lerp a.va a.vb t) n))
    | none => ([], 0)
  let lam := q31One (d.chain k.c).lamT0
  let u := if p.screened ∨ lam < 5 / 100 ∨ d.nat (Reg.CH1_FRAME_AGE k.c) ≠ 0 then k.vref
    else ratMin k.vref (fxRat vdir / lam + f32 (d.reg (act (Reg.R3210_DIR_SLACK k.c))))
  let wn := fxRat (if p.screened then vnorm w else -(vdot w n))
  let vh := if valid = 3 then f32 (d.reg (act Reg.R3200_V_H_MAX))
    else if valid = 2 ∨ d.nat (act (Reg.R3220_SPEED_MODE s)) = 0 then f32 (d.reg (act Reg.R3200_V_H_DEFAULT))
    else ratMax (f32 (d.reg (act (Reg.R3220_V_H_MIN s)))) wn
  { slot := j, code := p.code, d := f32 (p.dist : Int), vh, u,
    tr := (d.nat (act (Reg.R3220_T_SENSOR_US s)) : Rat) / 1000000 + 375 / 1000000 + (d.chainDiv k.c : Rat) / 32000 }

/-- The pairs of a chain: per slot with VALID other than 0, its LI result with the smallest distance (R172). -/
def Dev.ssmPairs (d : Dev) (k : SsmChain) (free : Nat) : List SsmPair :=
  (List.range 64).filterMap fun j =>
    let ps := d.geom.results.filter fun p => p.cls == .li && p.tested && p.a / 32 == k.c && p.b == j
    (closest ps .li).map fun p => d.ssmPair k p (free + j)

/-- Whether an override satisfies every pair of the chain. (DEDUCED, log 72, safe.) -/
def Dev.satisfied (d : Dev) (k : SsmChain) (ps : List SsmPair) (o : Rat) : Bool :=
  ps.all fun p => decide (d.leftSide k p o ≤ p.d)

/-- The chain's override as a code: the largest candidate that satisfies every pair; 0 where none does (R176).
(DEDUCED, log 69, safe.) -/
def Dev.bestOverride (d : Dev) (k : SsmChain) (ps : List SsmPair) : Nat :=
  if ps.isEmpty then 0x7FFFFFFF
  else (d.candidates k.c).foldl (fun (m o : Nat) => if d.satisfied k ps (q31One o) then max m o else m) 0

/-- `CH[c].9`: the pair with the smallest margin at the override shown (R195). (DEDUCED, log 69, safe.) -/
def Dev.showPair (d : Dev) (k : SsmChain) (ps : List SsmPair) (o : Rat) : Dev :=
  let lim := ps.foldl (fun (m : Option SsmPair) p =>
    match m with
    | some q => if p.d - d.leftSide k p o < q.d - d.leftSide k q o then some p else some q
    | none => some p) none
  let c := k.c
  let d := d.set (Reg.CH9_RESULT_CYCLE c) d.cycle
  match lim with
  | some p =>
    (((((((d.set (Reg.CH9_SLOT c) p.slot).set (Reg.CH9_PAIR c) p.code).set (Reg.CH9_D_MM c) (f32Of p.d)).set
      (Reg.CH9_SP_MM c) (f32Of (d.spOf k p o))).set (Reg.CH9_MARGIN_MM c) (f32Of (p.d - d.leftSide k p o))).set
      (Reg.CH9_V_H c) (f32Of p.vh)).set (Reg.CH9_U_DIR c) (f32Of p.u))
  | none =>
    (((((((d.set (Reg.CH9_SLOT c) 0xFF).set (Reg.CH9_PAIR c) 0xFFFFFFFF).set (Reg.CH9_D_MM c) f32Inf).set
      (Reg.CH9_SP_MM c) 0).set (Reg.CH9_MARGIN_MM c) f32Inf).set (Reg.CH9_V_H c) 0).set (Reg.CH9_U_DIR c) 0)

/-- Whether a chain is neither STOPPING nor FAULT. -/
def Dev.chainRunsOn (d : Dev) (c : Nat) : Bool :=
  d.chainState c != AxState.stopping && d.chainState c != AxState.fault

/-- Whether a member of a chain has its loops closed and neither stops nor has stopped. -/
def Dev.memberRunsOn (d : Dev) (c : Nat) : Bool :=
  (d.members c).any fun n => [AxState.enabled, AxState.moving, AxState.test].contains (d.axState n)

/-- SSM_REF_EXCEEDED (R179). (DEDUCED, log 68, safe.) -/
def Dev.refCheck (d : Dev) (k : SsmChain) : Dev :=
  if d.chainRunsOn k.c = true ∧ k.hi * k.vref + f32 (d.reg (act Reg.R3200_V_REF_TOL)) < fxRat (d.fastest k.c) then
    (d.raise Code.SSM_REF_EXCEEDED Kind.chain k.c Reaction.ss1).reactChain k.c Code.SSM_REF_EXCEEDED Reaction.ss1
  else d

/-- Channel A's evaluation of one monitored chain (R172 to R179, R183). -/
def Dev.ssmEvaluate (d : Dev) (c : Nat) : Dev :=
  let k := d.ssmChain c
  let (f, d) := d.takeFresh
  let d := { d with fresh := d.fresh + 63 }
  let ps := d.ssmPairs k f
  let best := d.bestOverride k ps
  let omin := q31One (d.reg (act (Reg.R3210_O_MIN c)))
  let ok := d.satisfied k ps omin
  let extra := !ps.isEmpty && (d.candidates c).any fun o => (d.envLookup c k.cls (ratMin (q31One o) k.hi * k.vref)).2.2
  let x := d.chain c
  let d := d.when (extra && !x.extraEp) fun d => d.raise Code.ENVELOPE_EXTRAPOLATED Kind.chain c
  let below := best != 0x7FFFFFFF
  let d := d.when (below && !x.limEp) fun d => d.raise Code.SSM_LIMITING Kind.chain c
  let d := d.modChain c fun x => { x with extraEp := extra, limEp := below, minFail := !ok, ovrNext := best }
  let d := (d.set (Reg.CH6_SEP_OVR c) best).set (Reg.CH9_OK_CYCLES c)
    (if ok then min 65535 (d.nat (Reg.CH9_OK_CYCLES c) + 1) else 0 : Nat)
  let d := d.when (d.chainRunsOn c && best != 0) fun d => d.set (Reg.CH9_STOP_STATE c) 0
  let d := d.when (best == 0 && (d.nat (Reg.CH9_STOP_STATE c) == 0 || d.chainRunsOn c || d.memberRunsOn c)) fun d =>
    let r := d.stopReaction c
    let d := (d.raise Code.SSM_STOP Kind.chain c r).set (Reg.CH9_STOP_STATE c) (if r = Reaction.ss1 then 2 else 1 : Nat)
    { d with geom := { d.geom with stopsT4 := d.geom.stopsT4 ++ [(c, Code.SSM_STOP)] } }
  (d.showPair k ps (if best = 0 then omin else q31One best)).refCheck k

/-- Chain SLS (R389): a monitored point faster than SLS_CART. -/
def Dev.chainSlsCheck (d : Dev) (c : Nat) : Dev :=
  if d.flag (Reg.R5040_SLS_ACTIVE c) && (d.monFrames c).any fun i =>
      decide (f32 (d.reg (act (Reg.R5040_SLS_CART c))) < fxRat (d.frameSpeed c i)) then
    let r := d.nat (act (Reg.R5040_SLS_REACTION c))
    (d.raise Code.SLS_VIOLATION Kind.chain c r).laterChain c Code.SLS_VIOLATION r
  else each (d.members c) (fun n d =>
    d.unlatch n fun l => l.code == Code.SLS_VIOLATION && l.fn == 9) d

/-- The bound of R382 on a chain's stop. -/
def Dev.chainStopCheck (d : Dev) (c : Nat) : Dev :=
  match mget none d.safe.chainStop c with
  | some (t, len) =>
    let active := (d.members c).any fun n => (d.axSafe n).stopKind != 0 && (d.axSafe n).chainStp
    let still := (d.members c).all fun n => (d.axSafe n).stopKind == 0 || (d.axSafe n).atRest || (d.axSafe n).pRef.isSome
    let drop := fun (d : Dev) => { d with safe := { d.safe with chainStop := mset none d.safe.chainStop c none } }
    if !active || still then drop d
    else if t + len ≤ d.clk.raw then
      (drop (d.raise Code.SS1_RAMP_VIOLATION Kind.chain c Reaction.sto)).laterChain c Code.SS1_RAMP_VIOLATION Reaction.sto
    else d
  | none => d

/-- An override of a chain written (R176). -/
def Dev.putOverride (d : Dev) (c o : Nat) : Dev := (d.modChain c fun x => { x with ovrNext := o }).set (Reg.CH6_SEP_OVR c) o

/-- SEPARATION_EVALUATION (R162, R157, R161, R176): in T3, from the SI to +24.0 µs. Without frames, or with pairs untested, the
override of the chains concerned is 0 (R33). (DEDUCED, log 65, safe.) -/
def Dev.separationEvaluation (d : Dev) : Dev :=
  if d.clk.tick ≠ 3 ∨ d.sep.evalA = some d.clk.cycle64 then d
  else
    let now := d.clk.cycle64
    let ready := d.framesReady
    let d := (d.when ready Dev.contacts).switchResults
    let d := d.when ready Dev.zoneEvaluation
    let d := iterate 16 (fun c d =>
      if d.ssm c then d.when ready fun d => d.ssmEvaluate c
      else (d.modChain c fun x => { x with minFail := false, limEp := false, extraEp := false }).putOverride c 0x7FFFFFFF) d
    let d := each (d.enabledChains.filter fun c => !ready || d.untestedChains.contains c) (fun c d => d.putOverride c 0) d
    let d := d.when ready fun d => each d.enabledChains (fun c d => d.chainSlsCheck c) d
    let d := each d.enabledChains (fun c d => d.chainStopCheck c) d
    { d with sep := { d.sep with evalA := some now } }

/-! ## The SI of T4 (R25, R177) -/

/-- The stop of a chain by R177 or R33: its queue is discarded, λ is 0 at once, its members stop. (DEDUCED, log 68, safe.) -/
def Dev.ssmStop (d : Dev) (c code : Nat) : Dev :=
  let r := d.stopReaction c
  let d := (d.discardQueue c).set (Reg.CH9_STOP_STATE c) (if r = Reaction.ss1 then 2 else 1 : Nat)
  d.reactChain c code r

/-- (DEDUCED, log 65, safe.) The chains whose override is 0 from the SI of T4 (R33): those an overrun names, and every enabled one where no override was
written in this cycle, since none is carried into a further one (R7). -/
def Dev.zeroChains (d : Dev) : List Nat :=
  d.geom.zeroOvr ++ if d.sep.evalA = some d.clk.cycle64 then [] else d.enabledChains

/-- SPEED_OVERRIDE_SWITCH at the SI of T4: overrides and holds in force, reactions of chain functions, stops. -/
def Dev.speedOverrideSwitch (d : Dev) : Dev :=
  if d.clk.tick ≠ 4 then d
  else
    let g := d.geom
    let zero := d.zeroChains
    let d := { d with geom := { g with atT4 := [], stopsT4 := [], zeroOvr := [] } }
    let d := iterate 16 (fun c d =>
      d.modChain c fun x => { x with ovr := if zero.contains c then 0 else x.ovrNext, hold := x.holdNext }) d
    let d := each ((List.range 16).filter zero.contains) (fun c d =>
      (d.set (Reg.CH6_SEP_OVR c) 0).set (Reg.CH9_OK_CYCLES c) 0) d
    let d := each g.stopsT4 (fun (c, code) d => d.ssmStop c code) d
    each g.atT4 (fun (n, code, r) d => d.chainReaction n code r) d

/-- AUTO_RESUME (R177): after SS2, once the condition has held for RESUME_CYCLES, the device acknowledges every member that is in
FAULT at the SI of T4. λ rises again: the chain, whose queue the stop has emptied, is no longer paused.
(DEDUCED, log 161, unsafe.) -/
def Dev.autoResume (d : Dev) (c : Nat) : Dev :=
  if d.clk.tick = 4 ∧ d.ssm c = true ∧ d.flag (act (Reg.R3210_AUTO_RESUME c)) = true ∧ d.nat (Reg.CH9_STOP_STATE c) = 1 ∧
      d.nat (act (Reg.R3210_STOP_KIND c)) = 0 ∧ d.nat (act (Reg.R3210_RESUME_CYCLES c)) ≤ d.nat (Reg.CH9_OK_CYCLES c) ∧
      ((d.members c).any fun n => d.axState n == AxState.fault) = true ∧
      ((d.members c).all fun n => d.axState n != AxState.stopping) = true then
    let d := each ((d.members c).filter fun n => d.axState n == AxState.fault) (fun n d => d.faultAck n) d
    d.when ((d.members c).all fun n => d.axState n != AxState.fault) fun d =>
      (d.set (Reg.CH9_STOP_STATE c) 0).set (Reg.CH5_CONTROL c) 1
  else d

/-! ## Stops measured (R184 to R186) -/

/-- LAST_STOP (R195). -/
def Dev.lastStop (d : Dev) (c cls result point : Nat) (v0 tm dm : Rat) : Dev :=
  d.setBytes (Reg.CH7_LAST_STOP c)
    (leBytes 4 d.cycle ++ [byte cls, byte result, byte point, 0] ++ leBytes 4 (f32Of v0) ++ leBytes 4 (f32Of tm) ++
      leBytes 4 (f32Of dm))

/-- Learned point `k` and every higher one raised (R185). -/
def raisePoints (lrn cfg : Bytes) (p k : Nat) (t x : Rat) : Bytes :=
  (List.range 16).foldl (fun b i =>
    if i < k then b
    else
      patch b (envOff p i) (slice cfg (envOff p i) 4 ++ leBytes 4 (f32Of (ratMax (envField b p i 1) t)) ++
        leBytes 4 (f32Of (ratMax (envField b p i 2) x)))) lrn

/-- One record of the safety change log (R399). -/
def Dev.changeLog (d : Dev) (user kind old new : Nat) : Dev :=
  let wt := d.wtAt d.rawNow
  let t := (leBytes 14 (time40 wt).toNat)
  let r := leBytes 4 (d.nat Reg.R5004_NEXT_SEQ) ++ leBytes 4 d.cycle ++ t ++ [0, 0] ++
    [byte user, byte kind, byte (d.nat Reg.R1140_WALL_STATE), 0] ++ leBytes 16 old ++ leBytes 16 new ++ [0, 0, 0, 0]
  let full := decide (256 ≤ d.safe.log.length)
  let d := { d with safe := { d.safe with log := (if full then d.safe.log.drop 1 else d.safe.log) ++ [r] } }
  let d := d.when full fun d => d.set Reg.R5004_LOG_WRAPPED 1
  d.set Reg.R5004_NEXT_SEQ (d.nat Reg.R5004_NEXT_SEQ + 1 : Nat)

/-- STOP_MEASURED (R184, R185): a stop that has ended is judged against its point; one that is to be discarded is. -/
def Dev.stopMeasured (d : Dev) (c : Nat) : Dev :=
  match (d.chain c).meas with
  | none => d
  | some m =>
    let drop := fun (d : Dev) => d.modChain c fun x => { x with meas := none }
    if m.bad then
      ((drop (d.raise Code.STOP_DISCARDED Kind.chain c)).count (Reg.CH7_DISCARDS c)).lastStop c m.cls 2 0 0 0 0
    else match m.ended with
      | none => d
      | some e =>
        let v0 := fxRat (min m.before (m.after.getD m.before))
        let tm : Rat := ((e - m.raw : Nat) : Rat) / 1000000000
        let dm := fxRat ((m.dist.map (·.2)).foldl max 0)
        let k := ((List.range 16).find? fun i => decide (v0 ≤ (d.envPoint c m.cls i).1)).getD 15
        let (vk, tk, dk) := d.envPoint c m.cls k
        let s := if vk < v0 then vk / v0 else 1
        let g : Rat := 1 + (d.nat (act (Reg.CH7_LEARN_MARGIN_PCT c)) : Rat) / 100
        let tr := tm * s * g; let dr := dm * s * s * g
        let d := drop d
        if tk < tr ∨ dk < dr then
          let old := d.nat (Reg.CH7_LEARNED_DIGEST c)
          let d := d.setLearned c (raisePoints (d.bytes (Reg.CH7_LEARNED c)) (d.bytes (act (Reg.CH7_ENVELOPE c))) m.cls k
            (ratMax tk tr) (ratMax dk dr))
          let d := (d.raise Code.ENVELOPE_RAISED Kind.chain c).count (Reg.CH7_RAISES c)
          (d.changeLog 0 4 old (d.nat (Reg.CH7_LEARNED_DIGEST c))).lastStop c m.cls 1 k v0 tm dm
        else d.lastStop c m.cls 0 k v0 tm dm

/-! ## The channel B cross-check (R187, R188, R390) -/

/-- Channel B's distance of a pair: the exact one less a free part of the bound, as channel A's (R552).
(PRESUMED, log 62, unsafe.) -/
def Dev.distB (d : Dev) (p : PairRes) (free : Nat) : Rat :=
  let sel : PairSel := { cls := p.cls, a := p.a, b := p.b, predict := false }
  match d.pairPrims sel p.cmd with
  | some (a, b) =>
    if p.screened then fxRat (sphereGap a b) - (a.ek + b.ek + 32 / 1000) * ((Config.distanceSlackB free % 1001 : Nat) : Rat) / 1000
    else f32 (reported a b (Config.distanceSlackB free) : Int)
  | none => f32 (p.dist : Int)

/-- The evaluated pairs of all chains with channel A's result, closest first, at most 32. -/
def Dev.checkedPairs (d : Dev) : List PairRes :=
  let ps := d.geom.results.filter fun p => p.cls == .li && p.tested && d.ssm (p.a / 32)
  let best := (List.range 16).flatMap fun c => (List.range 64).filterMap fun j =>
    closest (ps.filter fun p => p.a / 32 == c && p.b == j) .li
  (best.foldl (fun l p => insertPair p l) []).take 32
where
  /-- Insertion by distance. -/
  insertPair (p : PairRes) : List PairRes → List PairRes
    | [] => [p]
    | q :: r => if p.dist < q.dist then p :: q :: r else q :: insertPair p r

/-- One pair judged (R188). -/
def Dev.disagrees (d : Dev) (p : PairRes) (free : Nat) : Bool × Rat :=
  let c := p.a / 32
  let k := d.ssmChain c
  let q := d.ssmPair k p free
  let dB := d.distB p free
  let tol := ratMax (f32 (d.reg (act Reg.R3200_TOL_MM))) (f32 (d.reg (act Reg.R3200_TOL_PCT)) / 100 * dB)
  let o := (d.chain c).ovrNext
  let far := decide (tol < ratAbs (q.d - dB))
  let left := o != 0 && decide (dB + tol < d.leftSide k q (q31One o))
  let none_ := o != 0 && (d.candidates c).all fun o => decide (dB + tol < d.leftSide k q (q31One o))
  (far || left || none_, dB)

/-- Channel B's test of the monitored points against the zones (R390). (DEDUCED, log 71, safe.) -/
def Dev.zonePoints (d : Dev) (c : Nat) : Bool :=
  (d.monFrames c).any fun i =>
    let p := ((d.chain c).frames.getD i Frame.id).t
    (List.range 64).any fun z =>
      d.zoneOn z && (d.zone z).holder != some c && !(d.zone z).exiting.testBit c && !(d.zone z).breach.testBit c &&
        (let x := boxAt (d.zoneRec z) 0
         let l := mtvec x.r (vsub p x.c)
         (List.range 3).all fun k => decide (-(vget x.h k) ≤ vget l k ∧ vget l k ≤ vget x.h k))

/-- CHANNEL_B_CROSS_CHECK in T3 (R187, R188, R390). (DEDUCED, log 71, safe.) -/
def Dev.channelBCheck (d : Dev) : Dev :=
  if d.clk.tick ≠ 3 ∨ d.sep.evalB = some d.clk.cycle64 then d
  else
    let now := d.clk.cycle64
    let d := d.at 28000
    let ps := d.checkedPairs
    let (f, d) := d.takeFresh
    let d := { d with fresh := d.fresh + 31 }
    let d := d.set Reg.R3202_PAIRS_CHECKED ps.length
    let judged := ps.zipIdx.map fun (p, i) => (p, d.disagrees p (f + i))
    let bad := judged.filter fun (_, b, _) => b
    let d := each bad (fun (p, _, dB) d =>
      let d := (d.raise Code.SSM_DISAGREE Kind.chain (p.a / 32) Reaction.ss1 p.code).count Reg.R3202_DISAGREE_COUNT
      (((d.set Reg.R3202_LAST_PAIR p.code).set Reg.R3202_LAST_D_A p.dist).set Reg.R3202_LAST_D_B (f32Of dB)).set
        Reg.R3202_LAST_CYCLE d.cycle) d
    let badC := bad.map fun (p, _) => p.a / 32
    let d := iterate 16 (fun c d =>
      if badC.contains c then d.laterChain c Code.SSM_DISAGREE Reaction.ss1
      else (d.unlatchChain c Code.SSM_DISAGREE).unlatchChain c Code.SSM_B_LATE) d
    let d := if d.geom.kinOver then d
      else each d.enabledChains (fun c d =>
        if d.zonePoints c then (d.raise Code.ZONE_DISAGREE Kind.chain c Reaction.ss1).laterChain c Code.ZONE_DISAGREE Reaction.ss1
        else d.unlatchChain c Code.ZONE_DISAGREE) d
    { d with sep := { d.sep with evalB := some now } }

/-- SSM_B_LATE at +28.0 µs of T3 (R188): channel B's result is not ready. (DEDUCED, log 71, safe.) -/
def Dev.ssmBLate (d : Dev) : Dev :=
  if d.clk.tick ≠ 3 ∨ d.sep.evalB = some d.clk.cycle64 ∨ d.ssmChains.isEmpty = true then d
  else
    let now := d.clk.cycle64
    let d := (d.at 28000).raise Code.SSM_B_LATE Kind.device 0 Reaction.ss1
    let d := (d.count Reg.R3202_LATE_COUNT)
    let d := each d.ssmChains (fun c d => d.latchChain c Code.SSM_B_LATE Reaction.ss1) d
    { d with sep := { d.sep with evalB := some now } }

/-! ## The separation bank (R180, R182, R186) -/

/-- The rules of R182 for one class of an envelope. -/
def envValid (b : Bytes) (p : Nat) : Bool :=
  allFinite b (192 * p) 48 && decide (0 < envField b p 0 0) && (List.range 16).all fun i =>
    decide (0 ≤ envField b p i 1 ∧ 0 ≤ envField b p i 2) &&
      (i == 0 || decide (envField b p (i - 1) 0 < envField b p i 0 ∧ envField b p (i - 1) 1 ≤ envField b p i 1 ∧
        envField b p (i - 1) 2 ≤ envField b p i 2))

/-- R180 for one chain of a bank (`off` 0x80 is the active one); a capsule is present where PAY_MASK names a class.
(DEDUCED, log 160, unsafe.) -/
def Dev.ssmChainValid (d : Dev) (c off : Nat) : Bool :=
  let caps := d.bytes (act (Reg.CH4_CAPSULES c))
  !d.flag (Reg.R3210_SSM_EN c + off) ||
    (decide (0 < f32 (d.reg (Reg.R3210_V_REF c + off))) &&
      ((List.range (capCount caps)).any fun i =>
        fieldLE caps (capOff i + 1) 1 % 16 != 0 && (fieldLE caps (capOff i + 2) 1).testBit 1) &&
      ((d.members c).all fun n => !d.underTrack n) &&
      (d.bytes (Reg.CH7_ENVELOPE c + off)).length == 768 && (List.range 4).all (envValid (d.bytes (Reg.CH7_ENVELOPE c + off))))

/-- The row of `OD 1500` that holds a connection number (R328, R343). -/
def Dev.connRow (d : Dev) (conn : Nat) : Option Nat := (List.range 128).find? fun k => d.nat (act (Reg.R1500_CONN k)) == conn

/-- Whether a connection receives with a given LEN. -/
def Dev.connReceives (d : Dev) (conn len : Nat) : Bool :=
  match d.connRow conn with
  | some k => d.nat (act (Reg.R1500_DIR k)) == 0 && d.nat (act (Reg.R1500_LEN k)) == len
  | none => false

/-- R180 for the sources of a bank. -/
def Dev.sourcesValid (d : Dev) (off : Nat) : Bool :=
  let used := (List.range 8).filter fun s => d.nat (Reg.R3220_CONN s + off) != 0xFFFF
  let lo := fun s => d.nat (Reg.R3220_SLOT_BASE s + off)
  let n := fun s => d.nat (Reg.R3220_SLOT_COUNT s + off)
  let conn := fun s => d.nat (Reg.R3220_CONN s + off)
  used.all fun s =>
    decide (lo s + n s ≤ d.nat (act Reg.R3102_N_INTR)) && d.connReceives (conn s) (4 + 44 * n s) &&
      (d.nat (Reg.R3220_OPENING_BOX s + off) == 0xFF || d.openings.contains (d.nat (Reg.R3220_OPENING_BOX s + off))) &&
      used.all fun t => t == s || (decide (lo s + n s ≤ lo t ∨ lo t + n t ≤ lo s) && conn s != conn t)

/-- The code with which a separation bank fails (R180). -/
def Dev.separationCheck (d : Dev) (off : Nat) : Nat :=
  if (List.range 16).all (fun c => d.ssmChainValid c off) && d.sourcesValid off then Code.STATUS_OK
  else Code.SEPARATION_INVALID

/-- Learned points of the classes whose configured points a switch changes are cleared (R186); sources that change start
anew (R170). `old` is the device before the switch. -/
def Dev.separationSwitched (d old : Dev) : Dev :=
  let d := iterate 16 (fun c d =>
    let changed := (List.range 4).filter fun p =>
      slice (old.bytes (act (Reg.CH7_ENVELOPE c))) (192 * p) 192 != slice (d.bytes (act (Reg.CH7_ENVELOPE c))) (192 * p) 192
    if changed.isEmpty then d
    else
      let lrn := changed.foldl (fun b p => patch b (192 * p) (List.replicate 192 0)) (d.bytes (Reg.CH7_LEARNED c))
      if lrn = d.bytes (Reg.CH7_LEARNED c) then d else d.setLearned c lrn) d
  iterate 8 (fun s d =>
    if old.reg (act (Reg.R3220_CONN s)) = d.reg (act (Reg.R3220_CONN s)) ∧
        old.srcSlots s = d.srcSlots s then d
    else
      let d := each (if old.srcOn s then old.srcSlots s else []) (fun j d => (d.putSlot j (List.replicate 44 0)).setSlot j {}) d
      (d.setSrc s {}).set (Reg.R3220_STATE s) 0) d

end Sys2Proof.Machine
end

