-- ==== Sys2Proof/Machine/SafeMon.lean ====
section
/-! DEFINITION. The monitoring of axes by the safety channels (spec/11): safely-limited speed (R387, R388), monitored stops
(R381 to R385) and safe operating stop (R386). -/

namespace Sys2Proof.Machine

/-! ## Safely-limited speed (R387) -/

/-- Bit [8:0] of the DATA of connection [15:9] (R387). -/
def Dev.connBit (d : Dev) (ix : Nat) : Bool := (leNat (d.bytes (Reg.R1500_DATA (bits ix 15 9)))).testBit (bits ix 8 0)

/-- Whether SLS is selected by its source. -/
def Dev.slsSelected (d : Dev) (src ix : Nat) : Bool :=
  match src with
  | 1 => true
  | 2 => decide (ix < 8) && d.fnKind ix == FnKind.slsSelect && d.fnDemand ix
  | 3 => !d.connBit ix
  | _ => false

/-- SLS of an axis selected or deselected; deselection ends the monitoring at once, a selection without delay begins it. -/
def Dev.slsAxis (d : Dev) (n : Nat) : Dev :=
  let x := d.axSafe n
  if d.slsSelected (d.nat (act (Reg.R5080_SLS_SRC n))) (d.nat (act (Reg.R5080_SLS_INDEX n))) then
    if x.slsSince.isSome then d
    else
      let d := d.setAxSafe n { x with slsSince := some d.rawNow }
      d.when (d.reg (act (Reg.R5080_SLS_DELAY_MS n)) == 0) fun d => d.set (Reg.R5080_SLS_ACTIVE n) 1
  else (d.setAxSafe n { x with slsSince := none }).set (Reg.R5080_SLS_ACTIVE n) 0

/-- SLS of a chain. -/
def Dev.slsChain (d : Dev) (c : Nat) : Dev :=
  let put := fun (d : Dev) (t : Option Nat) => { d with safe := { d.safe with chainSls := mset none d.safe.chainSls c t } }
  if d.slsSelected (d.nat (act (Reg.R5040_SLS_SRC c))) (d.nat (act (Reg.R5040_SLS_INDEX c))) then
    if (mget none d.safe.chainSls c).isSome then d
    else (put d (some d.rawNow)).when (d.reg (act (Reg.R5040_SLS_DELAY_MS c)) == 0) fun d => d.set (Reg.R5040_SLS_ACTIVE c) 1
  else (put d none).set (Reg.R5040_SLS_ACTIVE c) 0

/-- Every selection judged anew. (DEDUCED, log 110, safe.) -/
def Dev.slsSelect (d : Dev) : Dev :=
  iterate 16 (fun c d => d.slsChain c) (iterate 128 (fun n d => d.slsAxis n) d)

/-- SLS_ACTIVE (R387): the delay after the selection has run. -/
def Dev.slsInForce (d : Dev) (chain : Bool) (n : Nat) : Dev :=
  let due := fun (t : Option Nat) (delay : Nat) =>
    match t with | some t => decide (t + delay * 1000000 ≤ d.rawNow) | none => false
  if chain then
    d.when (decide (n < 16) && due (mget none d.safe.chainSls n) (d.nat (act (Reg.R5040_SLS_DELAY_MS n)))) fun d =>
      d.set (Reg.R5040_SLS_ACTIVE n) 1
  else
    d.when (decide (n < 128) && due (d.axSafe n).slsSince (d.nat (act (Reg.R5080_SLS_DELAY_MS n)))) fun d =>
      d.set (Reg.R5080_SLS_ACTIVE n) 1

/-- A speed above SLS_LIMIT. -/
def Dev.slsBreach (d : Dev) (n : Nat) : Bool :=
  d.slsActive n && decide (d.reg (act (Reg.R5080_SLS_LIMIT n)) < |d.measuredVel n|)

/-- SLS of one axis in a tick (R388). -/
def Dev.slsCheck (d : Dev) (n : Nat) : Dev :=
  if d.slsBreach n then
    if (d.axSafe n).latches.any fun l => l.code == Code.SLS_VIOLATION && l.fn == 8 then d
    else
      let r := d.nat (act (Reg.R5080_SLS_REACTION n))
      (d.raise Code.SLS_VIOLATION Kind.axis n r).latchStop n Code.SLS_VIOLATION 8 r
  else d.unlatch n fun l => l.code == Code.SLS_VIOLATION && l.fn == 8

/-! ## Monitored stops (R381 to R385) -/

/-- Whether the position of an axis is lost (R72). -/
def Dev.posLost (d : Dev) (n : Nat) : Bool := decide (d.ageLimit n < (d.axis n).fb.pos.age)

/-- SS1 ends in STO, then FAULT (R383). -/
def Dev.endSs1 (d : Dev) (n : Nat) : Dev := d.cutTorque n (d.axis n).cause

/-- Nanoseconds since the ramp of an axis began. -/
def Dev.rampNs (d : Dev) (n now : Nat) : Nat := now - (d.axis n).rampRaw

/-- The bound of R381 in 32.32: a speed that a fresh sample may show `t` ns after the ramp began. -/
def Dev.rampBound (d : Dev) (n : Nat) (v0 : Int) (t : Nat) : Rat :=
  let late : Rat := ((t - d.nat (act (Reg.R5080_SS1_DELAY_US n)) * 1000 : Nat) : Rat) / 1000000000
  ratMax 0 (ratAbs (fix v0) - fix (d.reg (act (Reg.R5080_SS1_A_MON n))) * late) + fix (d.reg (act (Reg.R5080_SS_V_TOL n)))

/-- When a blind axis takes STO, in ns after its ramp began (R384). -/
def Dev.blindNs (d : Dev) (n : Nat) : Nat :=
  let stop := partsTime (stopParts (fix (d.axSafe n).vFresh) 0 (d.emDec n) (d.emJerk n)).1
  min (d.nat (act (Reg.R5080_SS1_DELAY_US n)) * 1000 + (ratCeil (stop * 1000000000)).toNat)
    (d.nat (act (Reg.R5080_SS_T_MAX_MS n)) * 1000000)

/-- A lost position under SS1 (R384). (DEDUCED, log 144, unsafe.) -/
def Dev.blindStep (d : Dev) (n : Nat) : Dev :=
  let x := d.axSafe n
  if x.stopKind ≠ Reaction.ss1 then d
  else
    let d := if x.blind then d else (d.raiseAxis Code.SS1_BLIND n).setAxSafe n { x with blind := true }
    if d.blindNs n ≤ d.rampNs n d.clk.raw then d.endSs1 n else d

/-- A fresh sample under SS1 or SS2 (R381, R383, R385). -/
def Dev.rampStep (d : Dev) (n : Nat) : Dev :=
  let v := d.measuredVel n
  let x := d.axSafe n
  if d.rampBound n (x.v0.getD v) (d.rampNs n d.clk.raw) < ratAbs (fix v) then d.violation n Code.SS1_RAMP_VIOLATION
  else
    let still := if |v| ≤ d.reg (act (Reg.R5080_SOS_V n)) then x.still + 1 else 0
    let x := { x with blind := false, vFresh := v, still := min still 4, atRest := decide (4 ≤ still) }
    if 4 ≤ still ∧ x.stopKind = Reaction.ss2 then
      (d.setAxSafe n { x with pRef := some (d.measured n) }).set (Reg.R5080_SAFE_STATE n) 3
    else if 4 ≤ still ∧ x.chainStp = false then (d.setAxSafe n x).endSs1 n
    else d.setAxSafe n x

/-- Safe operating stop in a tick (R386). -/
def Dev.sosStep (d : Dev) (n : Nat) (p : Int) : Dev :=
  if d.posLost n = true ∨ d.reg (act (Reg.R5080_SOS_WINDOW n)) < |d.measured n - p| then d.violation n Code.SOS_VIOLATION
  else d

/-- The monitoring of one axis in a tick. (DEDUCED, log 110, safe.) -/
def Dev.monitorAxis (d : Dev) (n : Nat) : Dev :=
  let d := d.slsCheck n
  let x := d.axSafe n
  if x.stopKind = 0 then
    d.unlatch n fun l => l.fn == 8 && (l.code == Code.SS1_RAMP_VIOLATION || l.code == Code.SS2_TIMEOUT ||
      (l.code == Code.SOS_VIOLATION && !d.posLost n))
  else match x.pRef with
    | some p => d.sosStep n p
    | none =>
      if d.tickAbs < (d.axis n).rampAt then d
      else
        let d := d.when x.v0.isNone fun d =>
          d.setAxSafe n { x with v0 := some (d.measuredVel n), vFresh := d.measuredVel n }
        if d.posLost n then d.blindStep n
        else if (d.axis n).fb.pos.age = 0 then d.rampStep n
        else d

/-- A chain whose members all began a monitored ramp in the same tick (R382): a chain stop, with its longest time; a
speed beyond the envelope is told once an episode (R183). -/
def Dev.findChainStop (d : Dev) (c : Nat) : Dev :=
  let mem := d.members c
  match mem with
  | [] => d
  | m :: _ =>
    let at_ := (d.axis m).rampAt
    if mem.all (fun n => (d.axSafe n).stopKind != 0 && (d.axis n).rampAt == at_ && !(d.axSafe n).chainStp) then
      let d := each mem (fun n d => d.setAxSafe n { d.axSafe n with chainStp := true }) d
      let p := d.nat (Reg.CH1_ACTIVE_PAYLOAD c)
      if 0 < (d.envPoint c p 0).1 then
        let (t, _, beyond) := d.envLookup c p (fxRat (d.fastest c))
        let d := d.when (beyond && !(d.chain c).extraEp) fun d =>
          Dev.raise (d.modChain c fun x => { x with extraEp := true }) Code.ENVELOPE_EXTRAPOLATED Kind.chain c
        let len := (ratFloor (t * d.nat (act (Reg.R5040_ENV_TOL_PCT c)) * 10000000)).toNat
        { d with safe := { d.safe with chainStop := mset none d.safe.chainStop c (some ((d.axis m).rampRaw, len)) } }
      else d
    else d

/-- Members of a chain stop under SS1. (DEDUCED, log 110, safe; DEDUCED, log 144, unsafe.) -/
def Dev.chainSs1 (d : Dev) (c : Nat) : List Nat :=
  (d.members c).filter fun n => (d.axSafe n).chainStp && (d.axSafe n).stopKind == Reaction.ss1

/-- STO for all members of a chain stop together, once every one that is not blind stands still (R383, R384). -/
def Dev.endChainSs1 (d : Dev) (c : Nat) : Dev :=
  let ms := (d.chainSs1 c).filter fun n => !(d.axSafe n).blind
  if !ms.isEmpty && ms.all (fun n => (d.axSafe n).atRest) then each ms (fun n d => d.endSs1 n) d else d

/-- AXIS_MONITORING (R381 to R388), once a tick on the feedback of its SI. -/
def Dev.axisMonitoring (d : Dev) : Dev :=
  let d := each d.enabledChains (fun c d => d.findChainStop c) d
  let d := iterate 128 (fun n d => d.monitorAxis n) d
  each d.enabledChains (fun c d => d.endChainSs1 c) d

/-- SS_T_MAX_EXPIRY (R383): an SS1 at its longest time ends in STO, a chain stop for all members together. -/
def Dev.ssTMaxExpiry (d : Dev) (n : Nat) : Dev :=
  let x := d.axSafe n
  if x.stopKind = Reaction.ss1 ∧ d.nat (act (Reg.R5080_SS_T_MAX_MS n)) * 1000000 ≤ d.rampNs n d.rawNow then
    if x.chainStp then
      match d.chainOf n with
      | some c => each (d.chainSs1 c) (fun m d => d.endSs1 m) d
      | none => d.endSs1 n
    else d.endSs1 n
  else d

/-- SS2_TIMEOUT (R385). -/
def Dev.ss2Timeout (d : Dev) (n : Nat) : Dev :=
  let x := d.axSafe n
  if x.stopKind = Reaction.ss2 ∧ x.pRef = none ∧ d.nat (act (Reg.R5080_SS_T_MAX_MS n)) * 1000000 ≤ d.rampNs n d.rawNow then
    d.violation n Code.SS2_TIMEOUT
  else d

end Sys2Proof.Machine
end

