-- ==== Sys2Proof/Machine/SafeIo.lean ====
section
/-! DEFINITION. Safe inputs (R370 to R373, R391, R392), safe outputs with their test pulses (R374 to R378), TORQUE_PERMIT
(R380) and the exchange of demands (R366). -/

namespace Sys2Proof.Machine

/-! ## Safe inputs -/

/-- Whether input `i` (0 or 1) of a pair shows demand at its qualified level (R370). -/
def Dev.showsDemand (d : Dev) (k i : Nat) : Bool :=
  let l := (d.safeFn k).levels.testBit i
  if d.nat (act (Reg.R5010_MODE k)) = 1 ∧ i = 1 then l else !l

/-- The axes of a function's SCOPE. -/
def Dev.scopeAxes (d : Dev) (k : Nat) : List Nat := (List.range 128).filter (d.fnScope k)

/-- A function enters demand (R372): SAFE_INPUT_DEMAND, and the reaction of an ESTOP or GUARD on its SCOPE, latched.
(DEDUCED, log 107, unsafe.) -/
def Dev.enterDemand (d : Dev) (k raw : Nat) : Dev :=
  let stops := d.fnKind k == FnKind.estop || d.fnKind k == FnKind.guard
  let r := if stops then d.nat (act (Reg.R5010_REACTION k)) else 0
  let d := d.setSafeFn k { d.safeFn k with opened := true, demandAt := some raw }
  let d := d.raise Code.SAFE_INPUT_DEMAND Kind.safeIn k r
  if stops then each (d.scopeAxes k) (fun n d => d.latchStop n Code.SAFE_INPUT_DEMAND k r) d else d

/-- The latches that a reset of `k` releases on an axis: of functions with RESET_MODE 1 that have left demand (R391). -/
def Dev.resets (d : Dev) (l : StopLatch) : Bool :=
  decide (l.fn < 8) && d.nat (act (Reg.R5010_RESET_MODE l.fn)) == 1 && !d.fnDemand l.fn

/-- A function leaves demand (R373, R391, R392). -/
def Dev.leaveDemand (d : Dev) (k raw : Nat) : Dev :=
  let x := d.safeFn k
  let len := raw - x.demandAt.getD raw
  let d := d.setSafeFn k { x with demandAt := none, test := x.test && !x.opened }
  if d.fnKind k = FnKind.reset then
    if 50000000 ≤ len ∧ len ≤ 3000000000 then each (d.scopeAxes k) (fun n d => d.unlatch n d.resets) d else d
  else if d.nat (act (Reg.R5010_RESET_MODE k)) = 0 then iterate 128 (fun n d => d.unlatch n fun l => l.fn == k) d
  else d

/-- A function judged on its qualified levels (R370, R371): a discrepancy hold ends once both inputs show demand. A commit that
makes a function unused ends its demand and, with RESET_MODE 0, its latches (R391). -/
def Dev.fnEval (d : Dev) (k raw : Nat) : Dev :=
  let x := d.safeFn k
  if d.fnKind k = 0 then
    let d := (d.setSafeFn k { levels := x.levels }).showFn k
    d.when (d.nat (act (Reg.R5010_RESET_MODE k)) == 0) fun d => iterate 128 (fun n d => d.unlatch n fun l => l.fn == k) d
  else
    let a := d.showsDemand k 0; let b := d.showsDemand k 1
    let was := x.demand || x.disc
    let x := { x with demand := a || b, disc := x.disc && !(a && b), soleAt := if a = b then none else x.soleAt }
    let d := d.setSafeFn k x
    let d := if (x.demand || x.disc) ∧ !was then d.enterDemand k raw
      else if !(x.demand || x.disc) ∧ was then d.leaveDemand k raw else d
    (d.showFn k).slsSelect

/-- SAFE_INPUT_QUALIFIED (R370): input `i` has been stable at a level for FILTER_US. -/
def Dev.safeInput (d : Dev) (i : Nat) (level : Bool) (raw : Nat) : Dev :=
  if 16 ≤ i then d
  else
    let k := i / 2
    let x := d.safeFn k
    let changed := x.levels.testBit (i % 2) != level
    let d := d.setSafeFn k { x with levels := withBit x.levels (i % 2) level,
                                    soleAt := if changed then some raw else x.soleAt }
    d.fnEval k raw

/-- SI_DISCREPANCY (R371): one input of a pair changed and the other has not followed within DISCREPANCY_MS. -/
def Dev.discrepancy (d : Dev) (k : Nat) : Dev :=
  let x := d.safeFn k
  match x.soleAt with
  | some t =>
    if k < 8 ∧ d.fnKind k ≠ 0 ∧ d.showsDemand k 0 ≠ d.showsDemand k 1 ∧
        t + d.nat (act (Reg.R5010_DISCREPANCY_MS k)) * 1000000 ≤ d.rawNow then
      ((d.raise Code.SI_DISCREPANCY Kind.safeIn k).setSafeFn k { x with disc := true, soleAt := none }).showFn k
    else d
  | none => d

/-! ## Safe outputs -/

abbrev OutState.off : Nat := 0
abbrev OutState.on : Nat := 1
abbrev OutState.pulse : Nat := 2
abbrev OutState.fault : Nat := 3

def Dev.outState (d : Dev) (k : Nat) : Nat := d.nat (Reg.R5020_STATE k)
def Dev.outKind (d : Dev) (k : Nat) : Nat := d.nat (act (Reg.R5020_KIND k))
def Dev.outAxes (d : Dev) (k : Nat) : List Nat := (List.range 128).filter (d.outScope k)

/-- Whether a function's SCOPE meets that of an output. -/
def Dev.scopesMeet (d : Dev) (k f : Nat) : Bool := (d.outAxes k).any (d.fnScope f)

/-- Whether an output is demanded ON (R375). (DEDUCED, log 108, safe.) -/
def Dev.outDemand (d : Dev) (k : Nat) : Bool :=
  d.state == DevState.run && match d.outKind k with
    | 1 => (d.outAxes k).all fun n => !d.stoHeld n
    | 2 => (List.range 8).all (fun f => d.fnKind f == 0 || d.fnKind f == FnKind.reset || !d.fnDemand f || !d.scopesMeet k f) &&
        (d.outAxes k).all fun n => !d.latched n
    | _ => false

/-- A STO_GROUP output that goes off demands STO on its SCOPE; SO_GROUP_STO where this strikes an axis without a STO demand
of its own (R375). -/
def Dev.groupSto (d : Dev) (k : Nat) : Dev :=
  if d.outKind k ≠ 1 then d
  else
    let hit := (d.outAxes k).filter fun n => !d.stoHeld n && d.axState n != AxState.disabled
    let d := d.when (!hit.isEmpty) fun d => d.raise Code.SO_GROUP_STO Kind.safeOut k Reaction.sto
    each hit (fun n d => d.react n Code.SO_GROUP_STO Reaction.sto) d

/-- An OFF demand (R378): both switches off; a running pulse becomes the switch-off. -/
def Dev.outOff (d : Dev) (k : Nat) : Dev :=
  if d.outState k = OutState.on ∨ d.outState k = OutState.pulse then
    ((d.setSafeOut k { d.safeOut k with swA := false, swB := false, highBy := none }).set (Reg.R5020_STATE k) 0).groupSto k
  else d

/-- An ON demand (R378): a pulse still running holds the switch-on until its end. -/
def Dev.outOn (d : Dev) (k : Nat) : Dev :=
  let x := d.safeOut k
  if d.outState k = OutState.off ∧ x.pulseEnd = none then
    (d.setSafeOut k { x with swA := true, swB := true,
                             highBy := some (d.rawNow + d.nat (act (Reg.R5020_ON_CHECK_US k)) * 1000) }).set
      (Reg.R5020_STATE k) 1
  else d

/-- An output put in FAULT (R377, R378): both switches off. -/
def Dev.outFault (d : Dev) (k code : Nat) : Dev :=
  let on := d.outState k = OutState.on ∨ d.outState k = OutState.pulse
  let d := d.setSafeOut k { d.safeOut k with swA := false, swB := false, pulseEnd := none, highBy := none }
  let d := ((d.set (Reg.R5020_STATE k) 3).set (Reg.R5020_LAST_FAULT k) code).raise code Kind.safeOut k
  if on then d.groupSto k else d

/-- TEST_SLOT (R376): at the SI of T0 of the output's own cycle, an output that is ON has one switch turned off for
300 µs. -/
def Dev.testSlot (d : Dev) (k : Nat) : Dev :=
  if k < 8 ∧ d.clk.tick = 0 ∧ d.clk.cycle64 % 80 = 10 * k ∧ d.outState k = OutState.on then
    let b := d.clk.cycle64 / 80 % 2 == 1
    (d.setSafeOut k { swA := b, swB := !b, pulseEnd := some (d.clk.raw + 300000), testsB := b }).set (Reg.R5020_STATE k) 2
  else d

/-- Whether a running pulse ends before the next tick; with the readback not low, whether its +250 µs lie there (R376, R378). -/
def Dev.pulseDue (d : Dev) (k : Nat) (low : Bool) : Bool :=
  match (d.safeOut k).pulseEnd with
  | some t => decide (t < d.clk.raw + 31250 + if low then 0 else 50000)
  | none => false

/-- PULSE_END (R378): `low` says whether the readback read low by +250 µs into the pulse. (DEDUCED, log 108, safe.) -/
def Dev.pulseOver (d : Dev) (k : Nat) (low : Bool) : Dev :=
  let x := d.safeOut k
  if d.pulseDue k low = false then d
  else if !low then d.outFault k Code.SO_TEST_FAIL
  else if d.outState k = OutState.pulse then
    let d := d.setSafeOut k { swA := true, swB := true, pulseEnd := none, testsB := x.testsB,
                              highBy := some (d.rawNow + d.nat (act (Reg.R5020_ON_CHECK_US k)) * 1000) }
    (d.set (Reg.R5020_STATE k) 1).set (Reg.R5020_TESTS k) (min 0xFFFFFFFF (d.nat (Reg.R5020_TESTS k) + 1) : Nat)
  else
    let d := d.setSafeOut k { x with pulseEnd := none }
    let d := d.set (Reg.R5020_TESTS k) (min 0xFFFFFFFF (d.nat (Reg.R5020_TESTS k) + 1) : Nat)
    d.when (d.outDemand k) fun d => d.outOn k

/-- ON_CHECK_TIMEOUT (R377, R378): ON_CHECK_US after a switch-on or a pulse the readback has not read high. -/
def Dev.onCheckTimeout (d : Dev) (k : Nat) : Dev :=
  match (d.safeOut k).highBy with
  | some t => if d.outState k = OutState.on ∧ t ≤ d.rawNow then d.outFault k Code.SO_TEST_FAIL else d
  | none => d

/-- SO_READBACK_FAULT (R377): a readback wrong for 3 samples while the output is ON or OFF, outside pulses. A unit of a pair that
is not active checks none (R429). -/
def Dev.readbackFault (d : Dev) (k : Nat) : Dev :=
  if k < 8 ∧ (!d.paired || d.active) ∧ d.outKind k ≠ 0 ∧ (d.outState k = OutState.on ∨ (d.outState k = OutState.off ∧ (d.safeOut k).pulseEnd = none)) then
    d.outFault k Code.SO_READBACK_FAULT
  else d

/-- ACK (R378): a faulted output goes OFF while its readback reads low. (DEDUCED, log 108, safe.) -/
def Dev.outAck (d : Dev) (k : Nat) (high : Bool) : Dev :=
  if 8 ≤ k then d.finish Code.OD_NO_ENTRY
  else if d.outState k ≠ OutState.fault then d.finish Code.STATUS_OK
  else if high then d.finish Code.OD_STATE
  else (d.set (Reg.R5020_STATE k) 0).finish Code.STATUS_OK

/-! ## The exchange of demands (R366) -/

/-- TORQUE_PERMIT of an axis (R380). -/
def Dev.permit (d : Dev) (n : Nat) : Bool :=
  d.state == DevState.run && d.axState n != AxState.disabled && !d.stoHeld n && !d.groupOff n && d.safe.hbA && d.safe.hbB

/-- The demand of an axis as a channel forms it: 0 none, 1 SS1, 2 SS2, 3 SOS, 4 STO (R366). -/
def Dev.axDemand (d : Dev) (n : Nat) : Nat := d.nat (Reg.R5080_SAFE_STATE n)

/-- The reaction that carries out a demand. -/
def demandReaction (x : Nat) : Nat :=
  match x with | 1 => Reaction.ss1 | 2 | 3 => Reaction.ss2 | 4 => Reaction.sto | _ => 0

/-- One axis whose demands differ: the partner's is carried out where it is more severe; in the second exchange in a row
CHANNEL_DISAGREE and STO. (DEDUCED, log 109, unsafe.) -/
def Dev.axDiffer (d : Dev) (n other : Nat) : Dev :=
  let k := (d.axSafe n).disagree + 1
  let d := d.setAxSafe n { d.axSafe n with disagree := k }
  let r := demandReaction other
  let d := d.when (decide (severity (demandReaction (d.axDemand n)) < severity r)) fun d => d.react n Code.CHANNEL_DISAGREE r
  if k = 2 then d.violation n Code.CHANNEL_DISAGREE else d

/-- The outputs follow their demands; `off` are those for which channel B alone demands OFF or ON.
(DEDUCED, log 109, unsafe.) -/
def Dev.outDiffer (d : Dev) (k : Nat) (differs : Bool) : Dev :=
  let n := if differs then mget 0 d.safe.outDiffer k + 1 else 0
  let d := { d with safe := { d.safe with outDiffer := mset 0 d.safe.outDiffer k n } }
  if n = 2 then
    let d := d.raise Code.CHANNEL_DISAGREE Kind.safeOut k Reaction.sto
    each (d.outAxes k) (fun n d => d.latchStop n Code.CHANNEL_DISAGREE 8 Reaction.sto) d
  else d

/-- DEMAND_EXCHANGE (R366, R374, R375, R380): the outputs follow the more severe demand, the permits are formed. `axes` are
the axes whose own demand of channel B differs from channel A's, with that demand; `outs` the outputs whose demands
differ. (DEDUCED, log 109, unsafe.) -/
def Dev.demandExchange (d : Dev) (axes : List (Nat × Nat)) (outs : List Nat) : Dev :=
  let diff := axes.filter fun (n, x) => decide (n < 128) && d.axDemand n != x
  let d := iterate 128 (fun n d =>
    match diff.lookup n with
    | some x => d.axDiffer n x
    | none =>
      (d.when ((d.axSafe n).disagree != 0) fun d => d.setAxSafe n { d.axSafe n with disagree := 0 }).unlatch n fun l =>
        l.code == Code.CHANNEL_DISAGREE) d
  let d := iterate 8 (fun k d =>
    let d := d.outDiffer k (outs.contains k)
    if d.outDemand k && !outs.contains k then d.outOn k else d.outOff k) d
  iterate 128 (fun n d => d.set (Reg.R5080_PERMIT n) (if d.permit n then 1 else 0)) d

end Sys2Proof.Machine
end

