-- ==== Sys2Proof/Machine/Banks.lean ====
section
/-! DEFINITION. The banks staged in place (R148, R189, R394): which entries each holds, their digests (R395), discarding a
staged bank, switching one; the password session (R397, R398). -/

namespace Sys2Proof.Machine

/-! ## The entries of an index -/

/-- The entries at an index, rising by sub-index. -/
def rowsAt (index : Nat) : List Entry :=
  if 0x1160 ≤ index ∧ index < 0x1180 then
    (List.range 8).flatMap fun i => blk1160.map fun e => { e with sub := 16 * i + e.sub }
  else (blocks.findSome? fun b => (b.inst index).map fun _ => b.rows).getD []

/-- The bytes of an entry's value. -/
def Dev.valueBytes (d : Dev) (e : Entry) (k : Nat) : Bytes :=
  match e.ty with
  | .str | .dom => d.bytes k
  | t => leBytes t.size (toU (8 * t.size) (d.reg k))

/-! ## The three safety-related banks -/

abbrev Bank.safety : Nat := 1
abbrev Bank.geometry : Nat := 2
abbrev Bank.separation : Nat := 3

/-- The bank that an entry is staged in: 1 safety (R394), 2 geometry (R148), 3 separation (R189), 0 none. -/
def bankOf (index sub : Nat) : Nat :=
  if 0x1500 ≤ index ∧ index < 0x1580 ∧ 1 ≤ sub ∧ sub ≤ 5 then 1
  else if 0x2000 ≤ index ∧ index < 0x2800 ∧ index % 16 = 13 ∧ 1 ≤ sub ∧ sub ≤ 4 then 1
  else if 0x5010 ≤ index ∧ index < 0x5100 ∧ sub < 0x10 then 1
  else if 0x3000 ≤ index ∧ index < 0x3100 then
    let o := index % 16
    if o = 0 ∧ sub = 1 then 2 else if 2 ≤ o ∧ o ≤ 4 then 2
    else if o = 7 ∧ (sub = 1 ∨ sub = 4 ∨ sub = 5) then 3 else 0
  else if 0x3102 ≤ index ∧ index ≤ 0x3105 then 2
  else if index = 0x3200 ∧ 5 ≤ sub ∧ sub ≤ 0x0C then 3
  else if 0x3210 ≤ index ∧ index < 0x3220 then 3
  else if 0x3220 ≤ index ∧ index < 0x3228 ∧ sub ≤ 8 then 3
  else 0

/-- The indices that may hold entries of a bank, rising. -/
def bankIndices (b : Nat) : List Nat :=
  let from_ := fun (lo n : Nat) => (List.range n).map (lo + ·)
  match b with
  | 1 => from_ 0x1500 128 ++ (List.range 128).map (fun n => 0x2000 + 16 * n + 13) ++ from_ 0x5010 0xF0
  | 2 => from_ 0x3000 256 ++ from_ 0x3102 4
  | _ => from_ 0x3000 256 ++ [0x3200] ++ from_ 0x3210 24

/-- The entries of a bank in ascending order of index and sub-index, with their keys. -/
def bankEntries (b : Nat) : List (Entry × Nat) :=
  (bankIndices b).flatMap fun ix =>
    ((rowsAt ix).filter fun e => e.banked && bankOf ix e.sub == b).map fun e => (e, Reg.key ix e.sub)

/-- The bank digest (R395): over index, sub-index, length and value of every entry; `off` 0x80 is the active bank.
(DEDUCED, log 112, safe.) -/
def Dev.bankDigest (d : Dev) (b off : Nat) : Nat :=
  digest128 ((bankEntries b).flatMap fun (e, k) =>
    let v := d.valueBytes e (k + off)
    leBytes 2 (k / 256) ++ leBytes 1 (k % 256) ++ leBytes 2 v.length ++ v)

/-- The staged keys of a bank that differ from their defaults, staged or active. -/
def listedKeys {α : Type} (m : Map α) (b : Nat) : List Nat :=
  ((m.map Prod.fst).filterMap fun k =>
    let s := k % 256
    let k := if 128 ≤ s then k - 128 else k
    if bankOf (k / 256) (k % 256) = b then some k else none).eraseDups

/-- The active bank as the staged one stands. (DEDUCED, log 15, safe.) -/
def Dev.activate (d : Dev) (b : Nat) : Dev :=
  let sc := listedKeys d.od b; let dm := listedKeys d.dom b
  each dm (fun k d => d.setBytes (act k) (d.bytes k)) (each sc (fun k d => d.set (act k) (d.reg k)) d)

/-- The staged bank as the active one stands (R149, R396). -/
def Dev.discardStaged (d : Dev) (b : Nat) : Dev :=
  let sc := listedKeys d.od b; let dm := listedKeys d.dom b
  each dm (fun k d => d.setBytes k (d.bytes (act k))) (each sc (fun k d => d.set k (d.reg (act k))) d)

/-- The COMMIT_CYCLE entry of a bank. -/
def bankCommit (b : Nat) : Nat :=
  match b with | 1 => Reg.R5000_COMMIT_CYCLE | 2 => Reg.R3100_COMMIT_CYCLE | _ => Reg.R3200_COMMIT_CYCLE
/-- The entry that shows a bank's digest. -/
def bankDigestKey (b : Nat) : Nat :=
  match b with | 1 => Reg.R5000_BANK_DIGEST | 2 => Reg.R3100_GEOM_DIGEST | _ => Reg.R3200_SEP_DIGEST

/-- The safety digest (R395). -/
def Dev.safetyDigest (d : Dev) : Nat :=
  digest128 ([1, 2, 3].flatMap fun b => leBytes 16 (d.nat (bankDigestKey b)))

/-- The digest of a bank and the safety digest brought up to date. -/
def Dev.freshDigest (d : Dev) (b : Nat) : Dev :=
  let d := d.set (bankDigestKey b) (d.bankDigest b 0x80)
  d.set Reg.R5000_SAFETY_DIGEST d.safetyDigest

/-- What a switch of a bank brings about besides its values: the functions judged anew (R372), E_K and zones (R149),
the queue of a chain that is disabled or whose members change (R107; members on its path stop as R551 stops them),
learned points and sources (R186), and the startup tests (R373). `old` is the device before the switch. -/
def Dev.bankEffects (d old : Dev) (b : Nat) : Dev :=
  let d := match b with
    | 1 => (iterate 8 (fun k (d : Dev) => d.fnEval k d.rawNow) d).slsSelect
    | 2 =>
      let d := d.geometrySwitched
      iterate 16 (fun c d =>
        if old.chainEn c = true ∧ (d.chainEn c = false ∨ old.members c ≠ d.members c) then
          each (if old.executing c then old.members c else []) (fun m d =>
            if d.axState m = AxState.moving ∨ d.axState m = AxState.test then d.quickStopAxis m else d) (d.discardQueue c)
        else d) d
    | _ => d.separationSwitched old
  d.startTests

/-- The switch of a bank at the SI of T0: values, effects, digests and the change log (R149, R189, R395, R399). -/
def Dev.switchBank (d : Dev) (b : Nat) : Dev :=
  let old := d.nat (bankDigestKey b)
  let d := ((d.activate b).bankEffects d b).freshDigest b
  let user := mget 0 d.safe.bankUser b
  (d.changeLog user b old (d.nat (bankDigestKey b)))

/-! ## The password session (R397, R398) -/

/-- SESSION_PATH of a requester (R402): 1 PCIe, 2 UDP, 3 TurriLink; 0 where it cannot own a session. -/
def requesterSession (r : Requester) : Nat := if r.path ≤ 2 then r.path + 1 else 0

/-- Whether two requesters are the same path for a session: PCIe as a whole, one UDP peer, one node. -/
def samePath (a b : Requester) : Bool := a.path == b.path && (a.path == 0 || a.id == b.id)

/-- Whether a requester may write an SL entry. -/
def Dev.slAllowed (d : Dev) (r : Requester) : Bool :=
  match d.safe.session with
  | some s => samePath s.owner r && !s.only
  | none => false

/-- The stored password record of a user: none where it is unset; user 1 without a record has the empty password. -/
def Dev.passwordOk (d : Dev) (user : Nat) (pw : Bytes) : Bool :=
  let r := d.bytes (Reg.R5001_USER_1 + (user - 1))
  if user < 1 ∨ 8 < user then false
  else if r.isEmpty then user == 1 && pw.isEmpty
  else shake256 16 (r.take 16 ++ pw) == r.drop 16

/-- The lockout time in seconds after `n` failed opens in a row (R398). (DEDUCED, log 111, unsafe.) -/
def lockoutS (n : Nat) : Nat := if n < 5 then 0 else min 3600 (60 * 2 ^ min (n - 5) 10)

/-- A failed open counted. (DEDUCED, log 111, unsafe.) -/
def Dev.failedOpen (d : Dev) : Dev :=
  let n := min 65535 (d.nat Reg.R5000_FAILED_OPENS + 1)
  let d := d.set Reg.R5000_FAILED_OPENS n
  if 5 ≤ n then
    let d := { d with safe := { d.safe with lockEnd := some (d.rawNow + lockoutS n * 1000000000) } }
    d.set Reg.R5000_SESSION_STATE 3
  else d

/-- SESSION_OPEN (R397, R398): the user's number, then the password. (DEDUCED, log 111, unsafe.) -/
def Dev.sessionOpen (d : Dev) (r : Requester) (data : Bytes) : Dev :=
  let user := fieldLE data 0 1
  if d.safe.lockEnd.isSome then (d.raise Code.SESSION_LOCKOUT Kind.device 0).finish Code.SESSION_LOCKOUT
  else if requesterSession r = 0 ∨ d.safe.session.isSome ∨
      ¬(d.state = DevState.run ∨ d.state = DevState.safe ∨ d.state = DevState.config) then d.denied
  else if d.passwordOk user (data.drop 1) then
    let only := user == 1 && (d.bytes Reg.R5001_USER_1).isEmpty
    let d := { d with safe := { d.safe with session := some { owner := r, user, only, last := d.rawNow } } }
    let d := (d.set Reg.R5000_SESSION_STATE (if only then 2 else 1)).set Reg.R5000_SESSION_PATH (requesterSession r)
    (d.set Reg.R5000_FAILED_OPENS 0).finish Code.STATUS_OK
  else d.failedOpen.denied

/-- A session ends; staged banks without a request are discarded (R149, R396, R398). -/
def Dev.endSession (d : Dev) : Dev :=
  if d.safe.session.isNone then d
  else
    let d := { d with safe := { d.safe with session := none } }
    let d := (d.set Reg.R5000_SESSION_STATE (if d.safe.lockEnd.isSome then 3 else 0)).set Reg.R5000_SESSION_PATH 0
    each [1, 2, 3] (fun b d => if (mget none d.pend (bankCommit b)).isSome then d else d.discardStaged b) d

/-- SESSION_CLOSE by the session's own path. -/
def Dev.sessionClose (d : Dev) (r : Requester) : Dev :=
  match d.safe.session with
  | some s => if samePath s.owner r then d.endSession.finish Code.STATUS_OK else d.denied
  | none => d.denied

/-- SESSION_TIMEOUT (R398): no SL write for SESSION_TIMEOUT_S. -/
def Dev.sessionTimeout (d : Dev) : Dev :=
  match d.safe.session with
  | some s => if s.last + d.nat Reg.R5000_SESSION_TIMEOUT_S * 1000000000 ≤ d.rawNow then d.endSession else d
  | none => d

/-- SESSION_LOCKOUT_END (R398). -/
def Dev.lockoutEnd (d : Dev) : Dev :=
  match d.safe.lockEnd with
  | some t =>
    if t ≤ d.rawNow then
      ({ d with safe := { d.safe with lockEnd := none } }).set Reg.R5000_SESSION_STATE (if d.safe.session.isSome then 1 else 0)
    else d
  | none => d

/-- The user table as the change log digests it. (DEDUCED, log 111, unsafe.) -/
def Dev.userTable (d : Dev) : Nat := digest128 ((List.range 8).flatMap fun i => d.bytes (Reg.R5001_USER_1 + i))

/-- PASSWORD_SET (R397): user 1 sets any user's password, any other user its own; the salt is drawn from the random
generator. (DEDUCED, log 111, unsafe.) -/
def Dev.passwordSet (d : Dev) (r : Requester) (data : Bytes) : Dev :=
  match d.safe.session with
  | none => d.denied
  | some s =>
    let user := fieldLE data 0 1
    let pw := data.drop 1
    if !samePath s.owner r then d.denied
    else if user < 1 ∨ 8 < user ∨ pw.length < 8 ∨ 32 < pw.length then d.finish Code.OD_RANGE
    else if (s.user ≠ 1 ∧ user ≠ s.user) ∨ (s.only ∧ user ≠ 1) then d.denied
    else
      let (f, d) := d.takeFresh
      let salt := leBytes 16 (Config.random f % 2 ^ 128)
      let old := d.userTable
      let d := d.setBytes (Reg.R5001_USER_1 + (user - 1)) (salt ++ shake256 16 (salt ++ pw))
      let d := { d with safe := { d.safe with session := some { s with last := d.rawNow } } }
      (d.changeLog s.user 5 old d.userTable).finish Code.STATUS_OK

/-- FORCE_RELEASE (R160) by a requester. (DEDUCED, log 111, unsafe.) -/
def Dev.forceReleaseBy (d : Dev) (r : Requester) (z : Nat) : Dev :=
  let ok := d.slAllowed r
  let d := d.when ok fun d =>
    { d with safe := { d.safe with session := d.safe.session.map fun s => { s with last := d.rawNow } } }
  d.forceRelease z ok

end Sys2Proof.Machine
end

