-- ==== Sys2Proof/Machine/Frames.lean ====
section
/-! DEFINITION. Frames on the wire (R299 to R303), what the module sends, and what a failure of the unit does (R416, R417,
R419). -/

namespace Sys2Proof.Machine

/-! ## The link and its ports -/

def Dev.setLink (d : Dev) (f : Link → Link) : Dev := { d with link := f d.link }
def Dev.port (d : Dev) (p : Nat) : LinkPort := mget {} d.link.ports p
def Dev.modPort (d : Dev) (p : Nat) (f : LinkPort → LinkPort) : Dev :=
  d.setLink fun l => { l with ports := mset {} l.ports p (f (mget {} l.ports p)) }
def Dev.setPair (d : Dev) (f : Pair → Pair) : Dev := { d with pair := f d.pair }

/-- A node setting as it took effect at the last entry into LISTEN (R339). -/
abbrev Dev.node (d : Dev) (k : Nat) : Nat := d.nat (act k)

/-- The network state changed; NT_VALID is 1 while IN_SYNC (R348). -/
def Dev.setNet (d : Dev) (st : Nat) : Dev :=
  (d.set Reg.R1400_NET_STATE st).set Reg.R1140_NT_VALID (if st = NetState.inSync then 1 else 0)

/-! ## Headers (R301) -/

structure Header where
  kind   : Nat
  epoch  : Nat
  source : Nat
  round  : Nat
  slot   : Nat
  cycle  : Nat
  depart : Nat
  corr   : Int
deriving DecidableEq, Repr

abbrev FrameKind.sync : Nat := 1
abbrev FrameKind.coldstart : Nat := 2
abbrev FrameKind.cyclic : Nat := 3
abbrev FrameKind.gather : Nat := 4
abbrev FrameKind.acyclic : Nat := 5
abbrev FrameKind.safety : Nat := 6
abbrev FrameKind.checkpoint : Nat := 7

/-- The payload after the 14 bytes of the Ethernet header and the 24 bytes of R301. -/
def payloadOf (b : Bytes) : Bytes := b.drop 38

/-- The header of a frame; none for another EtherType or a header that breaks R302. -/
def Dev.headerOf (d : Dev) (b : Bytes) : Option Header :=
  let f (i n : Nat) := fieldBE b (14 + i) n
  let kind := f 0 1 % 16
  if fieldBE b 12 2 ≠ d.node Reg.R1400_ETHERTYPE ∨ b.length < 60 ∨ 1514 < b.length ∨ f 0 1 / 16 ≠ 1 ∨ kind = 0 ∨ 7 < kind ∨
      f 2 2 ≠ d.node Reg.R1400_CLUSTER_ID ∨ f 4 2 = 0 ∨ 4096 ≤ f 4 2 ∨ f 6 2 / 256 % 32 ≠ 0 then none
  else
    some { kind, epoch := f 1 1, source := f 4 2, round := f 6 2 / 8192, slot := f 6 2 % 256, cycle := f 8 4, depart := f 12 8,
           corr := wrapBits 32 (f 20 4) }

/-- A frame of this node: its header, then the payload, padded to `len` bytes with the FCS. (DEDUCED, log 94, safe.) -/
def Dev.mkFrame (d : Dev) (kind epoch round slot cycle : Nat) (nt : Int) (payload : Bytes) (len : Nat) : Bytes :=
  let mac := d.node Reg.R1400_DEST_MAC / 65536 * 65536 + d.node Reg.R1400_CLUSTER_ID
  let b := beBytes 6 mac ++ leBytes 6 (Config.ownMac 0) ++ beBytes 2 (d.node Reg.R1400_ETHERTYPE) ++
    [byte (16 + kind), byte epoch] ++ beBytes 2 (d.node Reg.R1400_CLUSTER_ID) ++ beBytes 2 (d.node Reg.R1400_NODE_ID) ++
    beBytes 2 (round * 8192 + slot) ++ beBytes 4 cycle ++ beBytes 8 (ns40 nt) ++ beBytes 4 0 ++ payload
  if b.length + 4 < len then slice b 0 (len - 4) else b

/-- Whether the module is fail-silent on TurriLink: no frame leaves its ports P0 to P3 (R13, R416). (DEDUCED, log 168, safe.) -/
def Dev.mute (d : Dev) (port : Nat) : Bool := decide (port < 4) && (d.link.silent || d.state == DevState.failed)

/-- A frame leaves on a port. -/
def Dev.send (d : Dev) (port : Nat) (b : Bytes) (fcs : Bool := true) : Dev :=
  if d.mute port then d else
  let d := { d with out := d.out ++ [({ port, fcs, bytes := b } : Sent)] }
  d.when (decide (port < 4)) fun d => d.set (Reg.R1410_TX_FRAMES port) (d.reg (Reg.R1410_TX_FRAMES port) + 1)

/-- The ingress link delay in ps (R324). -/
def Dev.ingressPs (d : Dev) (p : Nat) : Int := d.reg (Reg.R1410_LINK_DELAY_PS p) + d.reg (Reg.R1410_ASYM_PS p)

/-- A frame forwarded from port `p` (R300, R303): CORRECTION grows by the residence time (300 ns and `wait`) and the ingress
link delay. -/
def Dev.forward (d : Dev) (f : FrameIn) (h : Header) (wait : Nat) (b : Bytes) (ports : List Nat) : Dev :=
  let corr := satBits 32 (h.corr + divConv ((((300 + wait) * 1000 : Nat) + d.ingressPs f.port) * 16) 1000)
  let b := patch b 34 (beBytes 4 (toU 32 corr))
  each ports (fun p d => d.send p b f.fcs) d

/-- Whether the node takes frames at all: the bypass released, a node identifier, the link of the port up (R334, R339). -/
def Dev.hears (d : Dev) (p : Nat) : Bool :=
  !d.link.bypass && d.node Reg.R1400_NODE_ID != 0 && d.nat (Reg.R1410_LINK_STATE p) == 1

/-! ## The cross-link (R419) and failing (R416, R417) -/

/-- The lanes in service. -/
def Dev.lanes2 (d : Dev) : List Nat := (List.range 3).filter fun i => d.bit Reg.R5801_XLINK_LANES i

/-- The record of a CHECKPOINT frame: header and data. -/
def record (rtype frag gen fseq addr : Nat) (data : Bytes) : Bytes :=
  [byte rtype, byte frag] ++ leBytes 2 data.length ++ leBytes 4 gen ++ leBytes 4 fseq ++ leBytes 4 addr ++ data

/-- A record sent on a lane. -/
def Dev.sendRecord (d : Dev) (lane : Nat) (epoch : Nat) (r : Bytes) : Dev :=
  d.send (4 + lane) (d.mkFrame FrameKind.checkpoint epoch d.clk.tick 0 d.cycle d.nt40 r 64)

/-- Silence (R416): no frame more, every safe output off. -/
def Dev.fallSilent (d : Dev) : Dev := (d.setLink fun l => { l with silent := true }).outputsOff

/-- The unit leaves its role for FAILED; the axes get no torque. -/
def Dev.toFailed (d : Dev) (cause : Nat) : Dev :=
  (((d.fallSilent.goTo DevState.failed).set Reg.R5801_ROLE 4).stoAll cause).permitsOff.endSession

/-- R417: an active unit falls silent, sends FAIL on both lanes and enters FAILED; a single unit enters SAFE. -/
def Dev.unitFails (d : Dev) (cause : Nat) : Dev :=
  if d.active then
    let epoch := d.nat Reg.R5801_STORED_EPOCH % 256
    let r := record 9 0 0 0 0 (leBytes 2 cause ++ leBytes 8 d.tickAbs)
    let d := each d.lanes2 (fun l d => d.sendRecord l epoch r) d
    let d := (d.set Reg.R5801_LAST_CAUSE cause).raise Code.FAIL_SENT Kind.device 0
    d.toFailed cause
  else if d.state = DevState.run then d.enterSafe cause
  else d

/-- R416. -/
def Dev.authorityLost (d : Dev) : Dev :=
  if d.active ∧ ¬d.link.silent then (d.raise Code.AUTHORITY_LOST Kind.device 0).toFailed Code.AUTHORITY_LOST else d

/-! ## The device state and the network (R321, R458) -/

/-- The node is IN_SYNC: a SYNCING device goes to RUN or SAFE by AUTO_RUN; a unit of a pair listens for its partner
instead (R411). -/
def Dev.nowInSync (d : Dev) : Dev :=
  let d := (d.setNet NetState.inSync).setLink fun l =>
    { l with noSync := 0, devs := [], integ := 0, syncFrom := d.clk.cycle64 }
  if d.state = DevState.syncing then
    if d.paired then d.setPair fun p => { p with listenAt := some d.tickAbs }
    else if d.flag Reg.R1001_AUTO_RUN then d.goTo DevState.run
    else d.enterSafe 0
  else d

/-- The node leaves synchronisation for another network state (R321): in RUN the device enters SAFE in the same tick; an
active unit of a pair fails. -/
def Dev.leaveSync (d : Dev) (st cause : Nat) : Dev :=
  let d := (d.setNet st).setLink fun l =>
    { l with integ := 0, sawSync := false, adoptAt := d.rawNow, sendFrom := none, corr := none, baseAdd := 0 }
  if d.active then d.unitFails cause
  else if d.state = DevState.run then d.enterSafe cause
  else d

end Sys2Proof.Machine
end

