-- ==== Sys2Proof/Machine/Link.lean ====
section
/-! DEFINITION. TurriLink (R304 to R336): the schedule, windows and their values, arrivals and their windows, cluster start,
clock synchronisation, safety frames. -/

namespace Sys2Proof.Machine

/-! ## The schedule (R309, R312) -/

structure SchedEntry where
  mask : Nat
  slot : Nat
  owner : Nat
  kind : Nat
  role : Nat
  inPort : Nat
  outPorts : Nat
  offset : Nat
  wire : Nat
  winOff : Nat
  winLen : Nat
  mapFirst : Nat
  conn : Nat
  delayNode : Nat
  bypassable : Nat
deriving DecidableEq, Repr

/-- The number of entries of a schedule image, and entry `e`. -/
def schedCount (t : Bytes) : Nat := fieldLE t 0 2
def schedEntry (t : Bytes) (e : Nat) : SchedEntry :=
  let x := (t.drop (16 + 32 * e)).take 32
  let f := fieldLE x
  { mask := f 0 1, slot := f 1 1, owner := f 2 2, kind := f 4 1, role := f 5 1, inPort := f 6 1, outPorts := f 7 1,
    offset := f 8 4, wire := f 12 2, winOff := f 14 2, winLen := f 16 2, mapFirst := f 18 2, conn := f 20 2,
    delayNode := f 22 2, bypassable := f 24 1 }

def Dev.sched (d : Dev) : Bytes := d.bytes Reg.R1420_ACTIVE
def Dev.entry (d : Dev) (e : Nat) : SchedEntry := schedEntry d.sched e
def Dev.entries (d : Dev) : List (Nat × SchedEntry) :=
  (List.range (schedCount d.sched)).map fun e => (e, d.entry e)

abbrev Role.tx : Nat := 0
abbrev Role.rx : Nat := 1
abbrev Role.fwd : Nat := 2
abbrev Role.extract : Nat := 3
abbrev Role.insert : Nat := 4
abbrev Role.endTurn : Nat := 5
def SchedEntry.has (e : SchedEntry) (r : Nat) : Bool := e.role.testBit r
def SchedEntry.ports (e : SchedEntry) : List Nat := (List.range 4).filter fun p => e.outPorts.testBit p

/-- A record of the process-data map. -/
structure MapRec where
  sent   : Bool
  ty     : Nat
  target : Nat
  qty    : Nat
  axis   : Nat
  shift  : Int
  entry  : Nat
  off    : Nat
deriving DecidableEq, Repr

def mapRec (m : Bytes) (i : Nat) : MapRec :=
  let x := (m.drop (16 * i)).take 16
  { sent := fieldLE x 0 1 == 1, ty := fieldLE x 1 1, target := fieldLE x 2 1, qty := fieldLE x 3 1, axis := fieldLE x 4 1,
    shift := sfieldLE x 5 1, entry := fieldLE x 6 2, off := fieldLE x 8 2 }

def Dev.pdMap (d : Dev) : Bytes := d.bytes Reg.R1600_MAP_ACTIVE
/-- The records of a window: those that name its schedule entry. -/
def Dev.windowMap (d : Dev) (e : Nat) : List (Nat × MapRec) :=
  ((List.range (d.pdMap.length / 16)).map fun i => (i, mapRec d.pdMap i)).filter fun r => r.2.entry = e

/-- The size of a type of R312 in bytes, and whether it is a signed number. -/
def pdSize (ty : Nat) : Nat := match ty with | 1 => 4 | 2 => 8 | 3 => 4 | 4 => 2 | 5 => 4 | 6 => 4 | 7 => 1 | _ => 0
def pdSigned (ty : Nat) : Bool := ty = 1 || ty = 2 || ty = 3

/-! ## Values and ages (R304 to R306) -/

/-- An integer times 2^shift, rounded convergently. -/
def shifted (x : Int) (s : Int) : Int := if 0 ≤ s then x * 2 ^ s.toNat else shrConv x (-s).toNat

/-- A received number as 32.32 of the axis base unit (R312). -/
def pdFix (ty : Nat) (shift raw : Int) : Int :=
  match ty with
  | 2 => raw
  | 3 => raw * 2
  | 6 => toFix (f32 (toU 32 raw))
  | _ => satBits 64 (shifted raw (shift + 32))

/-- A received number as Q1.31 (R312). -/
def pdFrac (ty : Nat) (shift raw : Int) : Int :=
  match ty with
  | 2 => toQ31 (fix raw)
  | 3 => raw
  | 6 => toQ31 (f32 (toU 32 raw))
  | _ => satBits 32 (shifted raw shift)

/-- A process-data value in VALUES: value, age, flags and cycle (R341). (DEDUCED, log 96, unsafe.) -/
def Dev.setValue (d : Dev) (i : Nat) (raw : Int) (age flags : Nat) : Dev :=
  d.setBytes Reg.R1610_VALUES (patch (d.bytes Reg.R1610_VALUES) (16 * i)
    (leBytes 8 (toU 64 raw) ++ [byte age, byte flags, 0, 0] ++ leBytes 4 d.cycle))

/-- A value not received at its occurrence: one age older (R306). -/
def Dev.ageValue (d : Dev) (i : Nat) (notInserted : Bool) : Dev :=
  let v := slice (d.bytes Reg.R1610_VALUES) (16 * i) 16
  d.setBytes Reg.R1610_VALUES (patch (patch (d.bytes Reg.R1610_VALUES) (16 * i) (v.take 8)) (16 * i + 8)
    [byte (min 15 (fieldLE v 8 1 + 1)), byte (fieldLE v 9 1 % 2 + (if notInserted then 2 else 0))])

/-- A received value of an axis takes its place in the feedback of this round, with its age (R306, R312). -/
def Dev.feedValue (d : Dev) (r : MapRec) (raw : Int) (age : Nat) : Dev :=
  let x := pdFix r.ty r.shift raw
  let q := pdFrac r.ty r.shift raw
  let tick := d.tickAbs
  d.modAxis r.axis fun a =>
    let f := a.fbIn
    let f := if r.target = 3 then { f with status := toU 16 raw, ready := Config.driveReady (toU 16 raw) = 1 }
      else
        match r.qty with
        | 0 => { f with pos := { val := x, age, tick } }
        | 1 => { f with vel := { val := x, age, tick } }
        | 2 => { f with curQ := { val := q, age, tick } }
        | 3 => { f with curD := q }
        | 4 => { f with vdc := { val := raw, age, tick } }
        | _ => { f with aux := { val := x, age, tick } }
    { a with fbIn := f }

/-- A window of an entry as it was received: its status byte and its data. (DEDUCED, log 93, unsafe.) -/
def Dev.takeWindow (d : Dev) (e : Nat) (w : Bytes) : Dev :=
  let status := fieldLE w 0 1
  each (d.windowMap e) (fun (i, r) d =>
    if r.sent then d
    else if status = 0xFF then d.ageValue i true
    else
      let raw := if pdSigned r.ty then sfieldLE w (1 + r.off) (pdSize r.ty) else (fieldLE w (1 + r.off) (pdSize r.ty) : Int)
      let age := if status.testBit 7 then status / 8 % 16 else 0
      let d := d.setValue i raw age (if status.testBit 7 then 1 else 0)
      d.when (decide (r.target = 1 ∨ r.target = 3) && decide (r.axis < 128)) fun d => d.feedValue r raw age) d

/-- The raw number an output record sends (R312). -/
def Dev.outputValue (d : Dev) (r : MapRec) : Int :=
  let n := r.axis
  let a := d.axis n
  let on := d.closed n
  match r.qty with
  | 0 => d.setpoint n - a.offset
  | 1 => if on then a.posL.out else 0
  | 2 => if on then a.velL.out else 0
  | 3 => if on then a.cur.out else 0
  | 4 => if on then a.cur.outD else 0
  | 5 => if on then (narrow ((Bank.parse (d.image n 1)).kFfv *
      (fullScale (d.reg (Reg.AX5_SET_VEL n)) (d.reg (act (Reg.AX7_FSX_VEL n)))).1)).1 else 0
  | 6 => if on then (d.torqueFF n (Bank.parse (d.image n (d.innermost n)))).1 else 0
  | _ => d.reg (Reg.AX1_CONTROL n)

/-- A number in the type of a sent record: 32.32 for positions and Q1.31 for the rest, the shift taken back.
(DEDUCED, log 93, unsafe; DEDUCED, log 96, unsafe.) -/
def pdEncode (r : MapRec) (v : Int) : Nat :=
  let bits := 8 * pdSize r.ty
  if r.target ≠ 2 ∨ r.qty = 7 then toU bits v
  else
    match r.qty, r.ty with
    | 0, 2 => toU bits v
    | 0, 3 => toU bits (satBits 32 (shrConv v 1))
    | 0, 6 => f32Of (fix v)
    | 0, _ => toU bits (clamp (-(2 ^ (bits - 1))) (2 ^ (bits - 1) - 1) (shifted v (-32 - r.shift)))
    | _, 2 => toU bits (v * 2)
    | _, 3 => toU bits v
    | _, 6 => f32Of (q31 v)
    | _, _ => toU bits (clamp (-(2 ^ (bits - 1))) (2 ^ (bits - 1) - 1) (shifted v (-r.shift)))

/-! ## The status window (R333) and the pair window (R413) -/

/-- The configuration as it stood 8 cycles before cycle `c`, or the oldest kept. -/
def Dev.pastAt (d : Dev) (c : Nat) : Dev :=
  match d.link.past.find? fun p => p.cycle + 8 = c with
  | some p => { d with od := p.od, dom := p.dom }
  | none =>
    match d.link.past with
    | p :: _ => { d with od := p.od, dom := p.dom }
    | [] => d

/-- Whether an entry of the dictionary is in the configuration class, and the key its value stands under (R461). -/
def classKey (e : Entry) (ix : Nat) : Option Nat :=
  let k := Reg.key ix e.sub
  if e.outside then none
  else if e.banked then some (act k)
  else if e.stored && e.acc != .ro then some k
  else none

/-- The active images of the tables that show them apart (R435). -/
def activeImage (ix sub : Nat) : Bool :=
  (0x2000 ≤ ix && ix < 0x2800 && ix % 16 == 9 && 5 ≤ sub && sub ≤ 8) || (ix == 0x1420 && sub == 2) ||
    (ix == 0x1600 && sub == 2) || (ix == 0x3804 && sub == 2)

/-- The configuration digest (R461). -/
def Dev.configDigest (d : Dev) : Nat :=
  digest128 ((blocks.flatMap fun b => (List.range b.count).flatMap fun i =>
    let ix := b.base + b.stride * i
    (rowsAt ix).filterMap fun e =>
      (if activeImage ix e.sub then some (Reg.key ix e.sub) else classKey e ix).map fun k =>
        let v := d.valueBytes e k
        (ix * 256 + e.sub, leBytes 2 ix ++ [byte e.sub] ++ leBytes 2 v.length ++ v)).mergeSort
      (fun a b => decide (a.1 ≤ b.1)) |>.flatMap Prod.snd)

/-- AUTH_EPOCH (R415): the epoch followed, if a frame of it was accepted within the last 8 ticks. -/
def Dev.authEpoch (d : Dev) : Nat :=
  match d.link.accTick with
  | some t => if d.tickAbs ≤ t + 8 then d.link.accEpoch else 0
  | none => 0

/-- The 48 bytes of this node's status window in the present cycle. (DESIGN CHOICE, log 143, safe.) -/
def Dev.ownStatus (d : Dev) : Bytes :=
  let p := d.pastAt d.clk.cycle64
  [byte d.state, byte d.net, byte d.authEpoch, byte (if (d.bytes Reg.R1220_SKEW_NODES).isEmpty then 0 else 1)] ++
    leBytes 4 (p.nat Reg.R1220_CONFIG_EPOCH) ++ leBytes 16 p.configDigest ++ leBytes 16 (d.nat Reg.R5000_SAFETY_DIGEST) ++
    leBytes 4 (d.nat Reg.R1420_SCHED_ID) ++ leBytes 4 0

/-- The 16 bytes of this unit's pair window. (DESIGN CHOICE, log 143, safe.) -/
def Dev.ownPair (d : Dev) : Bytes :=
  let xl := match d.pair.hbTick with | some t => decide (d.tickAbs ≤ t + 24) | none => false
  [byte (if d.nat (act Reg.R5800_PAIR_MODE) = 3 then 3 else d.nat Reg.R5801_ROLE), byte d.state,
    byte ((if d.pair.failRx then 1 else 0) + (if xl then 2 else 0)), 0] ++
    leBytes 4 (d.nat Reg.R5801_STORED_EPOCH) ++ leBytes 2 (d.nat Reg.R5801_HOLDER) ++ leBytes 4 (d.nat Reg.R5801_LAST_GEN) ++
    leBytes 2 0

/-- What a window of this node holds: the status window or the pair window where no record of the map fills it and its
length is theirs, else the values mapped. -/
inductive WinKind
  | data | status | pair
deriving DecidableEq, Repr

/-- What an entry of the schedule carries. (DEDUCED, log 95, unsafe.) -/
def Dev.winKind (d : Dev) (e : Nat) : WinKind :=
  let x := d.entry e
  if !(d.windowMap e).isEmpty then .data else if x.winLen = 49 then .status else if x.winLen = 17 then .pair else .data

/-- The data bytes of this node's window of an entry. -/
def Dev.windowData (d : Dev) (e : Nat) : Bytes :=
  let x := d.entry e
  match d.winKind e with
  | .status => d.ownStatus
  | .pair => d.ownPair
  | .data =>
    (d.windowMap e).foldl (fun w (i, r) =>
      if r.sent then
        let v := if r.target = 2 then d.outputValue r else sfieldLE (d.bytes Reg.R1610_VALUES) (16 * i) 8
        slice (patch w r.off (leBytes (pdSize r.ty) (pdEncode r v))) 0 (x.winLen - 1)
      else w) (List.replicate (x.winLen - 1) 0)

/-- Whether a window holds results of the control engine, and whether an axis of it repeats its output (R31, R305). -/
def Dev.windowAxes (d : Dev) (e : Nat) : List Nat :=
  (d.windowMap e).filterMap fun (_, r) => if r.sent && r.target = 2 && r.qty < 7 then some r.axis else none

/-- The window of an entry at its ready point, and the device that keeps it: fresh, stale because an axis repeats its output,
or the previous payload because the results of its tick are not complete yet (R305). (DEDUCED, log 96, unsafe.) -/
def Dev.ownWindow (d : Dev) (e : Nat) : Bytes × Dev :=
  let x := d.entry e
  let axes := d.windowAxes e
  if axes.isEmpty || decide (24000 ≤ x.offset) then
    let stale := axes.foldl (fun m n => max m (d.axis n).stale) 0
    let w := byte (if stale = 0 then 0 else 128 + 8 * min 15 stale) :: d.windowData e
    let d := d.when (stale != 0) fun d => each x.ports (fun p d => d.count (Reg.R1410_TX_STALE p)) d
    (w, d.setLink fun l => { l with payloads := mset [] l.payloads e w })
  else
    let old := mget [] d.link.payloads e
    let age := if fieldLE old 0 1 = 0 then 1 else min 15 (fieldLE old 0 1 / 8 % 16 + 1)
    let w := byte (128 + 8 * age) :: slice old 1 (x.winLen - 1)
    let d := each x.ports (fun p d => d.count (Reg.R1410_TX_STALE p)) d
    (w, d.setLink fun l => { l with payloads := mset [] l.payloads e w })

/-! ## Receive windows (R313, R315, R316) -/

/-- Whether an episode that was last seen in cycle `at_` still runs: less than 4,000 cycles ago. (DEDUCED, log 94, safe.) -/
def episodeRuns (now : Nat) (at_ : Option Nat) : Bool := match at_ with | some c => decide (now < c + 4000) | none => false

/-- A window drop on a port. `scheduled` says that an entry of the slot stands on the port. (DEDUCED, log 94, safe.) -/
def Dev.windowDrop (d : Dev) (p : Nat) (scheduled : Bool) : Dev :=
  let now := d.clk.cycle64
  let d := d.count (Reg.R1410_RX_DROP_WINDOW p)
  let told := episodeRuns now (d.port p).dropAt
  let d := d.when (!told) fun d => d.raise Code.RX_WINDOW_DROP Kind.port p
  let x := d.port p
  let n := if x.dropCyc = now then x.drops + 1 else 1
  let d := d.modPort p fun x => { x with dropAt := some now, drops := n, dropCyc := now }
  let d := d.when (n == 17) fun d =>
    let d := d.count (Reg.R1410_BABBLE_CYCLES p)
    let d := d.when (!episodeRuns now (d.port p).babbleAt) fun d => d.raise Code.BABBLE Kind.port p
    d.modPort p fun x => { x with babbleAt := some now }
  if !scheduled then d
  else if (d.port p).dropRun then
    let d := d.modPort p fun x => { x with dropRun := false }
    (d.raise Code.WINDOW_DRIFT Kind.port p).leaveSync NetState.integrating Code.WINDOW_DRIFT
  else d.modPort p fun x => { x with dropRun := true }

/-- The network time at which the slot's frame is expected, in 2^-40 ns. -/
def Dev.expectedAt (d : Dev) (h : Header) (offset : Nat) : Int :=
  let ticks := 8 * wrapBits 32 ((h.cycle : Int) - d.cycle) + h.round - d.clk.tick
  d.clk.si + (ticks * 31250 + offset) * 2 ^ 40

/-- How far the waiting of R336 delays a frame for an entry. -/
def Dev.bypassWait (d : Dev) (p : Nat) (x : SchedEntry) : Nat :=
  let k := d.nat (Reg.R1410_BYPASSED p)
  if k ≠ 0 ∧ k ≤ x.bypassable then (d.port p).bypNs else 0

/-- The frames that a node that is not IN_SYNC passes between P0 and P1 (R317), unless it is PASSIVE. -/
def Dev.transparent (d : Dev) (f : FrameIn) (h : Header) : Dev :=
  if d.net = NetState.passive ∨ 2 ≤ f.port then d else d.forward f h 0 f.bytes [1 - f.port]

/-- A frame at a port: what R299 and R302 leave of it. -/
def Dev.ingress (d : Dev) (f : FrameIn) : Option Header × Dev :=
  if !d.hears f.port then (none, d)
  else
    match d.headerOf f.bytes with
    | none => (none, d.count (Reg.R1410_RX_DROP_OTHER f.port))
    | some h => (some h, d.when (!f.fcs) fun d => d.count (Reg.R1410_RX_DROP_OTHER f.port))

/-- The entries of an IN_SYNC node for a frame on a port. -/
def Dev.entriesFor (d : Dev) (p : Nat) (h : Header) : List (Nat × SchedEntry) :=
  d.entries.filter fun (_, x) =>
    x.slot = h.slot && x.mask.testBit h.round && x.inPort = p && x.kind = h.kind &&
      (x.has Role.rx || x.has Role.fwd || x.has Role.extract || x.has Role.insert || x.has Role.endTurn)

/-- A frame of an IN_SYNC node against its window: the entries it is accepted for. (DEDUCED, log 94, safe.) -/
def Dev.windowCheck (d : Dev) (f : FrameIn) (h : Header) : List (Nat × SchedEntry) × Dev :=
  match d.entriesFor f.port h with
  | [] => ([], d.windowDrop f.port false)
  | (e, x) :: r =>
    let a := d.ntAt f.raw + (d.bypassWait f.port x : Int) * 2 ^ 40
    let dev := (a - d.expectedAt h x.offset).natAbs
    let P := d.node Reg.R1400_PRECISION_NS * 2 ^ 40
    if P + 100 * 2 ^ 40 < dev then ([], d.windowDrop f.port true)
    else
      let d := d.modPort f.port fun q => { q with dropRun := false }
      let d := d.set (Reg.R1410_RX_FRAMES f.port) (d.reg (Reg.R1410_RX_FRAMES f.port) + 1)
      let d := d.when (decide (P < dev)) fun d =>
        let d := d.count (Reg.R1410_RX_EDGE f.port)
        let d := d.when (!episodeRuns d.clk.cycle64 (d.port f.port).edgeAt) fun d => d.raise Code.RX_EDGE Kind.port f.port
        d.modPort f.port fun q => { q with edgeAt := some d.clk.cycle64 }
      ((e, x) :: r, d)

/-- The rule of R415 for a frame of a pair unit: whether it is used. -/
def Dev.followEpoch (d : Dev) (h : Header) : Bool × Dev :=
  if h.epoch = 0 then (!d.link.pairSeen.contains h.source, d)
  else
    let d := d.setLink fun l => { l with pairSeen := if l.pairSeen.contains h.source then l.pairSeen else l.pairSeen ++ [h.source] }
    let l := d.link
    let k := (h.epoch + 256 - l.accEpoch) % 256
    let use := (h.source = l.accSrc && h.epoch = l.accEpoch) || decide (1 ≤ k ∧ k ≤ 127)
    (use, d.when use fun d =>
      d.setLink fun l => { l with accEpoch := h.epoch, accSrc := h.source, accTick := some d.tickAbs })

/-- What a frame of the partner says of it (R412, R423). -/
def Dev.hearPartner (d : Dev) (h : Header) : Dev :=
  d.when (h.source == d.nat (act Reg.R5800_PARTNER_ID) && d.paired) fun d =>
    d.setPair fun p =>
      { p with netTick := some d.tickAbs, netActive := if h.epoch = 0 then p.netActive else some d.tickAbs }

/-- A frame of process data or of the services at a port: forwarded as the schedule or R317 says, and the entries it is used
for. -/
def Dev.arrive (d : Dev) (f : FrameIn) : Option Header × List (Nat × SchedEntry) × Dev :=
  match d.ingress f with
  | (none, d) => (none, [], d)
  | (some h, d) =>
    if !d.inSync then (none, [], d.transparent f h)
    else
      match d.windowCheck f h with
      | ([], d) => (none, [], d)
      | (es, d) =>
        let d := d.hearPartner h
        let d := each es (fun (_, x) d =>
          if x.kind = FrameKind.gather ∨ ¬x.has Role.fwd then d
          else d.forward f h (d.bypassWait f.port x) f.bytes x.ports) d
        if f.fcs then (some h, es, d) else (none, [], d)

/-! ## Windows that arrive (R306, R307, R333) -/

/-- A node's comparison with the expected table (R463): its epoch and digest against the receiver's of the same instant.
(DEDUCED, log 99, safe.) -/
def Dev.skewJudge (d : Dev) (node epoch : Nat) (digest : Nat) : Dev :=
  let p := d.pastAt d.clk.cycle64
  let t := p.bytes Reg.R1220_ACTIVE
  let row := (List.range (fieldLE t 0 2)).find? fun i => fieldLE t (8 + 20 * i) 2 = node
  let want := match row with | some i => fieldLE t (8 + 20 * i + 4) 16 | none => 0
  let bad := decide (epoch ≠ p.nat Reg.R1220_CONFIG_EPOCH) || (want != 0 && want != digest)
  let x := mget {} d.link.skew node
  let c := d.clk.cycle64
  if x.cycle = c then d
  else
    let next := decide (x.cycle + 1 = c)
    let y : SkewRun := { cycle := c, bad := if bad then (if next then x.bad + 1 else 1) else 0,
                         good := if bad then 0 else if next then x.good + 1 else 1 }
    let d := d.setLink fun l => { l with skew := mset {} l.skew node y }
    let nodes := (List.range ((d.bytes Reg.R1220_SKEW_NODES).length / 2)).map fun i =>
      fieldLE (d.bytes Reg.R1220_SKEW_NODES) (2 * i) 2
    if y.bad = 2 ∧ ¬nodes.contains node then
      let l := (nodes ++ [node]).mergeSort (fun a b => decide (a ≤ b))
      let d := (d.setBytes Reg.R1220_SKEW_NODES (l.flatMap (leBytes 2))).count Reg.R1220_SKEW_COUNT
      let d := d.raise Code.CONFIG_SKEW Kind.other 0 0 node
      d.when (d.nat Reg.R1220_SKEW_REACTION == 2 && d.state == DevState.run) fun d => d.enterSafe Code.CONFIG_SKEW
    else if y.good = 2 then
      d.setBytes Reg.R1220_SKEW_NODES ((nodes.filter (· != node)).flatMap (leBytes 2))
    else d

/-- A status window received from a node (R333, R416, R463). (DEDUCED, log 95, unsafe.) -/
def Dev.takeStatus (d : Dev) (e node : Nat) (w : Bytes) : Dev :=
  let b := w.drop 1
  let auth := fieldLE b 2 1
  let d := d.setLink fun l => { l with windows := mset none l.windows e (some (d.clk.cycle64, b)) }
  let d := d.setPair fun p => { p with status := mset none p.status node (some (d.tickAbs, auth)) }
  let k := (auth + 256 - d.nat Reg.R5801_STORED_EPOCH % 256) % 256
  let d := d.when (d.active && auth != 0 && decide (1 ≤ k ∧ k ≤ 127)) Dev.authorityLost
  d.skewJudge node (fieldLE b 4 4) (fieldLE b 8 16)

/-- A unit that the Owl's window grants the other (R416), and the epochs a pair window makes known (R414).
(DEDUCED, log 95, unsafe.) -/
def Dev.takePair (d : Dev) (node : Nat) (w : Bytes) : Dev :=
  let b := w.drop 1
  let epoch := fieldLE b 4 4
  let holder := fieldLE b 8 2
  let d := d.setPair fun p => { p with windows := mset none p.windows node (some (d.clk.cycle64, b)) }
  let owl := fieldLE b 0 1 == 3
  let d := d.when (owl && d.active && holder == d.nat (act Reg.R5800_PARTNER_ID) &&
    decide (d.nat Reg.R5801_STORED_EPOCH < epoch)) Dev.authorityLost
  let d := d.when (owl && !d.active && holder == d.node Reg.R1400_NODE_ID && decide (d.nat Reg.R5801_STORED_EPOCH < epoch))
    fun d => d.setPair fun p => { p with owlFrom := some d.tickAbs }
  d.when (d.paired && decide (d.nat Reg.R5801_STORED_EPOCH < epoch) && !d.active) fun d =>
    (d.set Reg.R5801_STORED_EPOCH epoch).set Reg.R5801_HOLDER holder

/-- The window of an entry in a payload. -/
def windowOf (x : SchedEntry) (payload : Bytes) : Bytes := slice payload x.winOff x.winLen

/-- A window used (R306, R307). -/
def Dev.useWindow (d : Dev) (e : Nat) (x : SchedEntry) (source : Nat) (w : Bytes) : Dev :=
  if x.winLen = 0 then d
  else
    match d.winKind e with
    | .data => d.takeWindow e w
    | .status => if fieldLE w 0 1 = 0xFF then d else d.takeStatus e source w
    | .pair => if fieldLE w 0 1 = 0xFF then d else d.takePair source w

/-- Whether a window of a frame is used: process data of the unit that is followed, status and pair windows of either unit (R415).
(DEDUCED, log 95, unsafe.) -/
def Dev.mayUse (d : Dev) (use : Bool) (e : Nat) : Bool := use || d.winKind e != .data

/-- CYCLIC_FRAME. -/
def Dev.cyclicFrame (d : Dev) (f : FrameIn) : Dev :=
  match d.arrive f with
  | (some h, es, d) =>
    let (use, d) := d.followEpoch h
    each es (fun (e, x) d =>
      if d.mayUse use e ∧ (x.has Role.rx ∨ x.has Role.extract) then
        d.useWindow e x h.source (windowOf x (payloadOf f.bytes))
      else d) d
  | (none, _, d) => d

/-- GATHER_FRAME (R307, R308): windows extracted and inserted as the frame passes. The owner of a window is its entry's
OWNER. -/
def Dev.gatherFrame (d : Dev) (f : FrameIn) : Dev :=
  match d.ingress f with
  | (none, d) => d
  | (some h, d) =>
    if !d.inSync then d.transparent f h
    else
      match d.windowCheck f h with
      | ([], d) => d
      | (es, d) =>
        let d := d.hearPartner h
        let (use, d) := if f.fcs then d.followEpoch h else (false, d)
        let d := each es (fun (e, x) d =>
          if f.fcs ∧ d.mayUse use e ∧ (x.has Role.rx ∨ x.has Role.extract) then
            d.useWindow e x x.owner (windowOf x (payloadOf f.bytes))
          else d) d
        let (b, d) := es.foldl (fun (b, d) (e, x) =>
          if x.has Role.insert then
            let (w, d) := Dev.ownWindow d e
            (patch b (38 + x.winOff) w, d)
          else (b, d)) (f.bytes, d)
        each es (fun (_, x) d =>
          let wait := d.bypassWait f.port x
          if x.has Role.endTurn then d.forward f h wait b [f.port]
          else if x.has Role.fwd then d.forward f h wait b x.ports
          else d) d

/-- SLOT_OCCURRENCE (R306, R415): the occurrence of an entry's slot without a valid window; the slots of the unit of a pair
that is not followed age nothing. -/
def Dev.slotOccurrence (d : Dev) (e : Nat) : Dev :=
  let x := d.entry e
  if d.link.pairSeen.contains x.owner ∧ x.owner ≠ d.link.accSrc then d
  else each (d.windowMap e) (fun (i, r) d => if r.sent then d else d.ageValue i false) d

/-! ## Sending (R305, R307, R314) -/

/-- The LM4128's own payload bytes for a GATHER it owns: its windows, and NOT_INSERTED for every other window of the
slot. -/
def Dev.gatherPayload (d : Dev) (x : SchedEntry) (round : Nat) : Bytes × Dev :=
  d.entries.foldl (fun (b, d) (e, y) =>
    if y.slot ≠ x.slot ∨ y.mask.testBit round = false ∨ y.kind ≠ x.kind ∨ y.winLen = 0 then (b, d)
    else if y.has Role.tx ∨ (y.has Role.insert ∧ y.inPort = 0xFF) then
      let (w, d) := Dev.ownWindow d e
      (patch b y.winOff w, d)
    else (patch b y.winOff (byte 0xFF :: List.replicate (y.winLen - 1) 0), d)) (List.replicate (x.wire - 42) 0, d)

/-- The sending rows of a connection number. -/
def Dev.sendRow (d : Dev) (conn : Nat) : Option Nat :=
  (List.range 128).find? fun k => d.nat (act (Reg.R1500_CONN k)) = conn && d.nat (act (Reg.R1500_DIR k)) = 1

/-- The safety data a sending connection carries: the permits of the axes that name it (R379). -/
def Dev.safeData (d : Dev) (k : Nat) : Bytes :=
  let len := d.nat (act (Reg.R1500_LEN k))
  let bits := (List.range 128).foldl (fun v n =>
    if d.nat (act (Reg.R5080_STO_CONN n)) = k ∧ d.flag (Reg.R5080_PERMIT n) then withBit v (d.nat (act (Reg.R5080_STO_BIT n))) true
    else v) 0
  leBytes len bits

/-- The payload of a SAFETY frame (R328). -/
def safePayload (key conn seq : Nat) (data : Bytes) : Bytes :=
  let head := leBytes 2 conn ++ leBytes 2 seq ++ leBytes 2 data.length ++ data
  head ++ leBytes 4 (crc32c (beBytes 4 key ++ head))

/-- A SAFETY frame's payload of this node, or none where the channels' CRCs differ (R329). (DEDUCED, log 98, safe.) -/
def Dev.safeSend (d : Dev) (conn : Nat) (agree : Bool) : Option Bytes × Dev :=
  match d.sendRow conn with
  | none => (none, d)
  | some k =>
    if !agree then
      (none, (d.raise Code.SAFE_TX_DISAGREE Kind.conn k).count (Reg.R1500_CRC_ERRORS k))
    else
      let seq := (d.nat (Reg.R1500_LAST_SEQ k) + 1) % 65536
      let data := d.safeData k
      let d := (d.set (Reg.R1500_LAST_SEQ k) seq).setBytes (Reg.R1500_DATA k) data
      (some (safePayload (d.nat (act (Reg.R1500_KEY k))) conn seq data), d)

/-- FRAME_TRANSMIT (R314): an entry's own frame at its OFFSET_NS; `agree` says that both channels formed one CRC for a
SAFETY frame. -/
def Dev.frameTransmit (d : Dev) (e : Nat) (agree : Bool) : Dev :=
  let x := d.entry e
  let abs := d.tickAbs - x.offset / 31250
  let round := abs % 8
  let cyc := abs / 8
  let from_ : Bool := match d.link.sendFrom with | some c => decide (c ≤ cyc) | none => false
  let window := d.winKind e
  let may := !d.paired || (d.active && d.pair.takeover.isNone) || x.kind = FrameKind.sync || window != .data
  if schedCount d.sched ≤ e ∨ ¬x.has Role.tx ∨ ¬d.inSync ∨ ¬from_ ∨ d.link.silent ∨ ¬x.mask.testBit round ∨ ¬may then d
  else
    let d := d.at (x.offset % 31250)
    let nt := d.ntAt (d.clk.raw + x.offset % 31250)
    let epoch := if d.active then d.nat Reg.R5801_STORED_EPOCH % 256 else 0
    let go (d : Dev) (payload : Bytes) : Dev :=
      let b := d.mkFrame x.kind epoch round x.slot (cyc % 2 ^ 32) nt payload x.wire
      each x.ports (fun p d => d.send p b) d
    if x.kind = FrameKind.sync then
      let flags := (if d.node Reg.R1400_ROLE = 2 then 1 else 0) +
        (if d.nat Reg.R1400_LEADER_ID = d.node Reg.R1400_NODE_ID then 2 else 0)
      go d ([0, byte flags, byte (d.node Reg.R1400_RANK), 0] ++ List.replicate 10 0)
    else if x.kind = FrameKind.gather then
      let (b, d) := d.gatherPayload x round
      go d b
    else if x.kind = FrameKind.safety then
      match d.safeSend x.conn agree with
      | (some b, d) => go d b
      | (none, d) => d
    else if x.kind = FrameKind.acyclic then
      match d.link.outbox with
      | b :: r => go (d.setLink fun l => { l with outbox := r }) b
      | [] => d
    else
      let (w, d) := Dev.ownWindow d e
      let d := d.when (window == .pair) fun d => d.setPair fun p => { p with failRx := false }
      go d (patch (List.replicate (x.wire - 42) 0) x.winOff w)

/-! ## Adopting time and clock synchronisation (R319, R320, R323 to R325) -/

/-- The time a frame gives at its start-of-frame delimiter, in 2^-40 ns (R320). -/
def Dev.frameTime (d : Dev) (f : FrameIn) (h : Header) : Int :=
  (h.depart : Int) * 2 ^ 40 + h.corr * 2 ^ 36 + divConv (d.ingressPs f.port * 2 ^ 40) 1000

/-- A frame's deviation from this node's clock, in ns (R323). -/
def Dev.deviation (d : Dev) (f : FrameIn) (h : Header) : Rat :=
  ((d.ntAt f.raw : Int) : Rat) / 2 ^ 40 -
    ((h.depart : Rat) + (h.corr : Rat) / 16 + (d.ingressPs f.port : Rat) / 1000)

/-- A rate entry of the clock with its register. -/
def Dev.showRates (d : Dev) : Dev :=
  ((d.set Reg.R1140_NT_RATE d.clk.ntRate).set Reg.R1140_NT_BASE_RATE d.clk.ntBase).set Reg.R1430_RATE_PPB
    (divConv (((d.clk.ntBase : Int) - 2 ^ 40) * 1000000000) (2 ^ 40))

/-- Time adopted from a frame (R320, R348): the offset is stepped, CYCLE and ROUND give the counters; only the low 32 bits of
the cycle count are set (R18). A COLDSTART leaves at the SI of T0; a SYNC leaves `OFFSET_NS` after the SI of its round as its
slot's entry has it here. (DEDUCED, log 97, unsafe.) -/
def Dev.adopt (d : Dev) (f : FrameIn) (h : Header) : Dev :=
  let t := d.frameTime f h
  let off := t - f.raw * d.clk.ntRate
  let (siRound, d) :=
    if h.kind = FrameKind.coldstart then ((h.depart : Int) * 2 ^ 40, d)
    else
      match (d.entriesFor f.port h).head? with
      | some (_, x) => (t - (x.offset : Int) * 2 ^ 40, d)
      | none =>
        let (n, d) := d.takeFresh
        (t - (Config.adoptPhase n % 31250 : Nat) * 2 ^ 40, d)
  let raw := (max 0 ((siRound - off).fdiv d.clk.ntRate)).toNat
  let now := d.rawNow
  let cyc := d.clk.cycle64 / 2 ^ 32 * 2 ^ 32 + h.cycle
  let clk := { d.clk with cycle64 := cyc, tick := h.round, si := siRound, ntOff := off, raw }
  let nt0 := siRound - (8 * h.cycle + h.round : Nat) * 31250 * 2 ^ 40
  let d := { d with clk, ph := { d.ph with off := now - raw } }
  let d := (d.set Reg.R1430_NT0 (time40 nt0)).set Reg.R1400_LEADER_ID h.source
  (d.count Reg.R1140_STEPS).setLink fun l => { l with adoptAt := f.raw }

/-- The node begins to integrate on a frame's sender. -/
def Dev.beginIntegrating (d : Dev) (f : FrameIn) (h : Header) : Dev :=
  (((d.setNet NetState.integrating).adopt f h).setLink fun l => { l with integ := 0, sawSync := false })

/-- Entry into LISTEN: the node settings take effect (R339); a fixed master is IN_SYNC as leader at once (R319). -/
def Dev.enterListen (d : Dev) : Dev :=
  let d := each [Reg.R1400_NODE_ID, Reg.R1400_CLUSTER_ID, Reg.R1400_ETHERTYPE, Reg.R1400_ROLE, Reg.R1400_RANK,
      Reg.R1400_SYNC_NODE, Reg.R1400_LISTEN_BASE_US, Reg.R1400_COLDSTART_CYCLES, Reg.R1400_INTEG_CYCLES,
      Reg.R1400_PRECISION_NS, Reg.R1400_CORR_LIMIT_NS] (fun k d => d.set (act k) (d.reg k)) d
  let d := d.set (act Reg.R1400_DEST_MAC) (d.reg Reg.R1400_DEST_MAC)
  let d := d.setLink fun l => { l with listenAt := d.rawNow, csSent := 0, integ := 0, sawSync := false }
  if d.node Reg.R1400_ROLE = 2 ∧ d.node Reg.R1400_NODE_ID ≠ 0 ∧ d.link.bypass = false then
    let clk := { d.clk with cycle64 := d.clk.cycle64 / 2 ^ 32 * 2 ^ 32, tick := 0, raw := d.rawNow, si := d.nt40 }
    let d := { d with clk, ph := {} }
    let d := (d.set Reg.R1430_NT0 (time40 d.clk.si)).set Reg.R1400_LEADER_ID (d.node Reg.R1400_NODE_ID)
    (d.nowInSync).setLink fun l => { l with sendFrom := some d.clk.cycle64 }
  else d.setNet NetState.listen

/-- A COLDSTART frame of this node, out of every port (R318). -/
def Dev.sendColdstart (d : Dev) : Dev :=
  let b := d.mkFrame FrameKind.coldstart 0 0 0 d.cycle d.clk.si [byte (d.node Reg.R1400_RANK), 0, 0, 0] 64
  let d := iterate 4 (fun p d => d.when (d.nat (Reg.R1410_LINK_STATE p) == 1) fun d => d.send p b) d
  d.setLink fun l => { l with csSent := l.csSent + 1 }

/-- The cold-start node's own time begins: the SI of T0 of cycle 0 is now, at wall time where that is set, else 0 (R319,
R320). -/
def Dev.startCold (d : Dev) : Dev :=
  let raw := d.rawNow
  let origin := if d.nat Reg.R1140_WALL_STATE = 0 then 0 else d.wtAt raw
  let clk := { d.clk with cycle64 := d.clk.cycle64 / 2 ^ 32 * 2 ^ 32, tick := 0, raw, si := origin,
                          ntOff := origin - raw * d.clk.ntRate }
  let d := { d with clk, ph := {} }
  let d := ((d.setNet NetState.coldstart).set Reg.R1430_NT0 (time40 origin)).set Reg.R1400_LEADER_ID
    (d.node Reg.R1400_NODE_ID)
  (d.setLink fun l => { l with csSent := 0 }).sendColdstart

/-- LISTEN_TIMEOUT (R318). -/
def Dev.listenTimeout (d : Dev) : Dev :=
  let L := d.node Reg.R1400_LISTEN_BASE_US * 1000 + d.node Reg.R1400_RANK * 4000 + d.node Reg.R1400_NODE_ID * 20
  if d.net = NetState.listen ∧ d.node Reg.R1400_ROLE = 1 ∧ d.node Reg.R1400_NODE_ID ≠ 0 ∧ d.link.bypass = false ∧
      d.link.listenAt + L ≤ d.rawNow then d.startCold
  else d

/-- COLDSTART_LEAD (R319): every COLDSTART frame is sent and the next cycle has come. -/
def Dev.coldstartLead (d : Dev) : Dev :=
  if d.net = NetState.coldstart ∧ d.node Reg.R1400_COLDSTART_CYCLES ≤ d.link.csSent ∧
      d.node Reg.R1400_COLDSTART_CYCLES ≤ d.cycle then
    (((d.raise Code.COLDSTART_LEAD Kind.device 0).nowInSync)).setLink fun l => { l with sendFrom := some d.clk.cycle64 }
  else d

/-- An adoptable frame of an integrating node: it counts where it comes from the adopted leader within precision. -/
def Dev.integrateOn (d : Dev) (f : FrameIn) (h : Header) : Dev :=
  if h.source ≠ d.nat Reg.R1400_LEADER_ID then d
  else
    let δ := ratAbs (d.deviation f h)
    let P := d.node Reg.R1400_PRECISION_NS
    if (P + 100 : Nat) < δ then d.enterListen
    else
      d.setLink fun l =>
        { l with integ := if δ ≤ P then l.integ + 1 else 0, adoptAt := f.raw,
                 sawSync := if δ ≤ P then l.sawSync || h.kind == FrameKind.sync else false }

/-- INTEGRATION_COMPLETE (R319): own transmissions begin at the next SI of T0. -/
def Dev.integrationComplete (d : Dev) : Dev :=
  if d.net = NetState.integrating ∧ d.node Reg.R1400_INTEG_CYCLES ≤ d.link.integ ∧ d.link.sawSync = true then
    (d.nowInSync).setLink fun l => { l with sendFrom := some (d.clk.cycle64 + 1) }
  else d

/-- INTEGRATION_TIMEOUT (R319). -/
def Dev.integrationTimeout (d : Dev) : Dev :=
  if d.net = NetState.integrating ∧ d.link.adoptAt + 1000000 ≤ d.rawNow then d.enterListen else d

/-- COLDSTART_FRAME (R315, R318, R319). -/
def Dev.coldstartFrame (d : Dev) (f : FrameIn) : Dev :=
  match d.ingress f with
  | (none, d) => d
  | (some h, d) =>
    if !f.fcs || d.inSync || d.net == NetState.passive then d
    else
      let seen := (d.port f.port).csSeen
      let recent := seen.any fun (s, t) => s = h.source && decide (f.raw < t + 200000)
      let d := if recent then d
        else (d.transparent f h).modPort f.port fun x =>
          { x with csSeen := (seen.filter fun q => q.1 ≠ h.source) ++ [(h.source, f.raw)] }
      let rank := fieldLE (payloadOf f.bytes) 0 1
      let own := d.node Reg.R1400_RANK
      let higher := decide (rank < own ∨ (rank = own ∧ h.source < d.node Reg.R1400_NODE_ID))
      let follower := d.node Reg.R1400_ROLE == 0
      if d.net = NetState.listen then
        if higher || follower then d.beginIntegrating f h
        else if d.node Reg.R1400_ROLE = 1 then d.startCold
        else d
      else if d.net = NetState.coldstart then
        if higher then d.beginIntegrating f h else d
      else d.integrateOn f h

/-- SYNC_FRAME of subtype 0 (R319, R323). -/
def Dev.syncFrame (d : Dev) (f : FrameIn) : Dev :=
  match d.ingress f with
  | (none, d) => d
  | (some h, d) =>
    let p := payloadOf f.bytes
    let flags := fieldLE p 1 1
    if fieldLE p 0 1 ≠ 0 then d
    else if !d.inSync then
      let d := d.transparent f h
      if !f.fcs then d
      else if d.net = NetState.listen then d.beginIntegrating f h
      else if d.net = NetState.coldstart then
        if flags.testBit 0 then d.beginIntegrating f h else d
      else if d.net = NetState.integrating then d.integrateOn f h
      else d
    else if d.node Reg.R1400_ROLE = 2 ∧ f.fcs ∧ flags.testBit 0 then
      (d.raise Code.DUAL_MASTER Kind.device 0).leaveSync NetState.passive Code.DUAL_MASTER
    else if d.node Reg.R1400_ROLE = 2 ∧ f.fcs ∧ flags.testBit 1 ∧ d.clk.cycle64 < d.link.syncFrom + 4 then
      ((d.raise Code.MASTER_YIELDED Kind.device 0).leaveSync NetState.integrating Code.MASTER_YIELDED).beginIntegrating f h
    else
      match d.windowCheck f h with
      | ([], d) => d
      | (es, d) =>
        let d := d.hearPartner h
        let d := each es (fun (_, x) d =>
          if x.has Role.fwd then d.forward f h (d.bypassWait f.port x) f.bytes x.ports else d) d
        d.when (f.fcs && h.round == 0) fun d =>
          d.setLink fun l => { l with devs := l.devs ++ [d.deviation f h] }

/-- SYNC_CORRECTION (R323, R325): at +28.0 µs of T0 the correction is formed; it acts from the SI of T1.
(DEDUCED, log 97, unsafe.) -/
def Dev.syncCorrection (d : Dev) : Dev :=
  let d := d.at 28000
  if !d.inSync then d
  else
    let own : List Rat := if d.node Reg.R1400_SYNC_NODE = 1 then [0] else []
    let ds := (d.link.devs ++ own).mergeSort (fun a b => decide (a ≤ b))
    let k := ds.length
    let cut := (k - 1) / 3
    let rest := (ds.drop cut).take (k - 2 * cut)
    let c : Rat := if k = 0 then 0 else -(rest.sum / rest.length)
    let heard := !d.link.devs.isEmpty
    let ps := ratConv (c * 1000)
    let d := (d.set Reg.R1430_SYNC_RX k).set Reg.R1430_LAST_CORR_PS ps
    let d := d.set Reg.R1430_MAX_CORR_PS (max (d.reg Reg.R1430_MAX_CORR_PS) ps.natAbs)
    let d := d.setBytes Reg.R1430_DEVIATIONS ((List.range 8).flatMap fun i =>
      leBytes 4 (toU 32 (satBits 32 (ratConv ((d.link.devs.getD i 0) * 1000)))))
    let d := d.setLink fun l =>
      { l with devs := [], noSync := if heard then 0 else l.noSync + 1, corr := some c, baseAdd := c }
    if (d.node Reg.R1400_CORR_LIMIT_NS : Rat) < ratAbs c ∨ 4 ≤ d.link.noSync then
      let d := ((d.raise Code.SYNC_LOST Kind.device 0).count Reg.R1430_SYNC_LOSSES)
      d.leaveSync NetState.integrating Code.SYNC_LOST
    else d

/-- The network clock's rate changed at the SI of the present tick (R346). -/
def Dev.setNtRate (d : Dev) (rate : Nat) : Dev :=
  { d with clk := { d.clk with ntOff := d.clk.ntOff + d.clk.raw * ((d.clk.ntRate : Int) - rate), ntRate := rate } }

/-- What the correction does at the SI of T1 and at the SI of the next T0 (R323, R348). -/
def Dev.stepRates (d : Dev) : Dev :=
  if d.clk.tick = 1 then
    match d.link.corr with
    | some c =>
      let rate := ratConv ((d.clk.ntBase : Rat) * (1 + c / 218750))
      ((d.setNtRate rate.toNat).setLink fun l => { l with corr := none }).showRates
    | none => d
  else if d.clk.tick = 0 ∧ (d.link.baseAdd ≠ 0 ∨ d.clk.ntRate ≠ d.clk.ntBase) then
    let base := (d.clk.ntBase : Int) + ratConv (d.link.baseAdd / 8 / 250000 * 2 ^ 40)
    let d := { d with clk := { d.clk with ntBase := base.toNat } }
    ((d.setNtRate d.clk.ntBase).setLink fun l => { l with baseAdd := 0 }).showRates
  else d

/-- NET_CONTROL 1 (R319, R339): a restart; other values are refused. -/
def Dev.netControl (d : Dev) (value : Nat) : Dev :=
  if value ≠ 1 then d.finish Code.OD_RANGE
  else
    let d := if d.inSync then d.leaveSync NetState.listen 0 else d
    d.enterListen.finish Code.STATUS_OK

/-! ## Link delay and bypassed neighbours (R324, R336) -/

/-- A link-delay frame of this node: subtype, T2 and sequence number; link-local. -/
def Dev.sendDelay (d : Dev) (p raw subtype t2 seq : Nat) : Dev :=
  let payload := [byte subtype, 0, 0, 0] ++ leBytes 8 t2 ++ leBytes 2 seq
  d.send p (d.mkFrame FrameKind.sync 0 d.clk.tick 0 d.cycle (d.ntAt raw) payload 64)

/-- LINK_WINDOW (R324): every port sends one request, `off` ns after the SI. -/
def Dev.linkWindow (d : Dev) (off : Nat) : Dev :=
  let d := d.at off
  iterate 4 (fun p d =>
    if !d.hears p then d
    else
      let seq := ((d.port p).reqSeq + 1) % 65536
      let raw := d.clk.raw + off
      let d := d.modPort p fun x => { x with reqSeq := seq, reqT1 := some (seq, (d.ntAt raw).fdiv (2 ^ 40)) }
      d.sendDelay p raw 1 0 seq) d

/-- LINK_DELAY_REQUEST: answered with its receipt time; the response leaves at raw count `depart`. -/
def Dev.delayRequest (d : Dev) (f : FrameIn) (depart : Nat) : Dev :=
  match d.ingress f with
  | (some _, d) =>
    let p := payloadOf f.bytes
    if !f.fcs || fieldLE p 0 1 != 1 then d
    else d.sendDelay f.port depart 2 (ns40 (d.ntAt f.raw)) (fieldLE p 12 2)
  | (none, d) => d

/-- LINK_DELAY_RESPONSE: the mean of the last 16 exchanges; the neighbour that answers, against the one the schedule expects.
`skipped` and `latency` are the nodes the schedule has between and the sum of their forwarding latencies. -/
def Dev.delayResponse (d : Dev) (f : FrameIn) (skipped latency : Nat) : Dev :=
  match d.ingress f with
  | (none, d) => d
  | (some h, d) =>
    let b := payloadOf f.bytes
    let p := f.port
    if !f.fcs || fieldLE b 0 1 != 2 then d
    else
      let d := match (d.port p).reqT1 with
        | some (seq, t1) =>
          if seq = fieldLE b 12 2 then
            let t4 := (d.ntAt f.raw).fdiv (2 ^ 40)
            let x := (t4 - t1) - ((h.depart : Int) - fieldLE b 4 8)
            let l := (x :: (d.port p).delays).take 16
            let d := d.modPort p fun q => { q with delays := l, reqT1 := none }
            d.set (Reg.R1410_LINK_DELAY_PS p) (max 0 (divConv (l.sum * 500) l.length))
          else d
        | none => d
      let d := d.set (Reg.R1410_PEER_ID p) h.source
      let here := d.entries.filter fun (_, x) => x.inPort = p
      let expected := here.isEmpty || here.any fun (_, x) => x.delayNode = h.source
      let k := if expected then 0 else min 3 skipped
      let tolerated := here.foldl (fun m (_, x) => max m x.bypassable) 0
      let old := d.nat (Reg.R1410_BYPASSED p)
      let d := (d.set (Reg.R1410_BYPASSED p) k).modPort p fun q => { q with bypNs := if k = 0 then 0 else latency }
      if k = 0 ∨ k = old then d
      else if k ≤ tolerated then d.raise Code.UPSTREAM_BYPASSED Kind.port p
      else d.raise Code.BYPASS_EXCEEDED Kind.port p

/-- LINK_DOWN (R300, R335). (DEDUCED, log 145, safe.) -/
def Dev.linkDown (d : Dev) (p : Nat) : Dev :=
  if d.nat (Reg.R1410_LINK_STATE p) = 0 then d else (d.set (Reg.R1410_LINK_STATE p) 0).raise Code.LINK_DOWN Kind.port p

/-- LINK_UP (R334): a port whose link has trained. -/
def Dev.linkUp (d : Dev) (p : Nat) : Dev := d.set (Reg.R1410_LINK_STATE p) 1

/-- RX_DROP_OTHER (R299). -/
def Dev.rxDropOther (d : Dev) (f : FrameIn) : Dev :=
  if d.hears f.port ∧ (f.fcs = false ∨ (d.headerOf f.bytes).isNone) then d.count (Reg.R1410_RX_DROP_OTHER f.port) else d

/-! ## Safety frames (R328, R330) -/

def Dev.conn (d : Dev) (k : Nat) : ConnRun := mget {} d.link.conns k
def Dev.setConn (d : Dev) (k : Nat) (x : ConnRun) : Dev := d.setLink fun l => { l with conns := mset {} l.conns k x }

/-- A receiving connection presents data: the functions that read it and the sensor sources that come with it follow. -/
def Dev.presentData (d : Dev) (k : Nat) (data : Bytes) : Dev := (d.setBytes (Reg.R1500_DATA k) data).slsSelect

/-- A SAFETY payload at a receiving connection. (DEDUCED, log 98, safe.) -/
def Dev.safeReceive (d : Dev) (b : Bytes) : Dev :=
  let num := fieldLE b 0 2
  match (List.range 128).find? fun k =>
      d.nat (act (Reg.R1500_CONN k)) = num && d.nat (act (Reg.R1500_CONN k)) != 0xFFFF && d.nat (act (Reg.R1500_DIR k)) = 0 with
  | none => d
  | some k =>
    let seq := fieldLE b 2 2
    let len := fieldLE b 4 2
    let x := d.conn k
    if len ≠ d.nat (act (Reg.R1500_LEN k)) then d
    else if crc32c (beBytes 4 (d.nat (act (Reg.R1500_KEY k))) ++ b.take (6 + len)) ≠ fieldLE b (6 + len) 4 then
      (d.raise Code.SAFE_CRC_ERROR Kind.conn k).count (Reg.R1500_CRC_ERRORS k)
    else
      let gap := (seq + 65536 - d.nat (Reg.R1500_LAST_SEQ k)) % 65536
      let anchored : Bool := match x.rejected with | some r => seq == (r + 1) % 65536 | none => false
      if (1 ≤ gap ∧ gap ≤ 4) ∨ anchored then
        let data := (b.drop 6).take len
        let d := (d.setConn k { rejected := none, at_ := d.rawNow }).presentData k data
        let d := (d.set (Reg.R1500_STATE k) 1).set (Reg.R1500_LAST_SEQ k) seq
        match (List.range 8).find? fun s => d.nat (act (Reg.R3220_CONN s)) = num with
        | some s => d.trackPayload s data
        | none => d
      else if gap = 0 then d.count (Reg.R1500_SEQ_ERRORS k)
      else
        let d := d.setConn k { x with rejected := some seq }
        let d := d.when (d.nat (Reg.R1500_STATE k) != 2) fun d => d.set (Reg.R1500_STATE k) 3
        (d.raise Code.SAFE_SEQ_ERROR Kind.conn k).count (Reg.R1500_SEQ_ERRORS k)

/-- SAFETY_FRAME. (DEDUCED, log 98, safe.) -/
def Dev.safetyFrame (d : Dev) (f : FrameIn) : Dev :=
  match d.arrive f with
  | (some h, es, d) =>
    let (use, d) := d.followEpoch h
    if use ∧ es.any (fun (_, x) => x.has Role.rx) then d.safeReceive (payloadOf f.bytes) else d
  | (none, _, d) => d

/-- SAFE_CONN_TIMEOUT (R330): no accepted frame for WD_US. -/
def Dev.safeTimeout (d : Dev) (k : Nat) : Dev :=
  if d.nat (act (Reg.R1500_CONN k)) ≠ 0xFFFF ∧ d.nat (act (Reg.R1500_DIR k)) = 0 ∧ d.nat (Reg.R1500_STATE k) ≠ 2 ∧
      (d.conn k).at_ + d.nat (act (Reg.R1500_WD_US k)) * 1000 ≤ d.rawNow then
    let d := ((d.set (Reg.R1500_STATE k) 2).raise Code.SAFE_CONN_TIMEOUT Kind.conn k).count (Reg.R1500_TIMEOUTS k)
    d.presentData k (List.replicate (d.nat (act (Reg.R1500_LEN k))) 0)
  else d

end Sys2Proof.Machine
end

