-- ==== Sys2Proof/Machine/Time.lean ====
section
/-! DEFINITION. Wall time and its corrections (R345 to R351), snapshots (R352), PTP on the host ports (R353 to R355). -/

namespace Sys2Proof.Machine

/-- A code of R362: LAST_CODE of `OD 1150`. -/
def Dev.timeCode (d : Dev) (code kind subject : Nat) : Dev :=
  (d.raise code kind subject).set Reg.R1150_LAST_CODE code

/-- The time in 2^-40 ns that a TIME value names. -/
def time40Of (v : Int) : Int := (timeNs v : Int) * 2 ^ 40 + (v.toNat / 2 ^ 96 % 65536 : Nat) * 2 ^ 24

/-- Whether a TIME value keeps its encoding: less than 10^9 nanoseconds (R347). -/
def timeOk (v : Int) : Bool := decide (v.toNat / 2 ^ 64 % 2 ^ 32 < 1000000000)

/-! ## Corrections of wall time (R349, R350) -/

/-- PTP holds a host port in SLAVE or UNCALIBRATED and owns wall time (R350). -/
def Dev.wallOwned (d : Dev) : Bool :=
  (List.range 2).any fun p => let s := d.nat (Reg.R1190_PORT_STATE p); s = 8 || s = 9

/-- A rate in force from the next raw count (R346). (DESIGN CHOICE, log 103, safe.) -/
def Dev.setWallRate (d : Dev) (rate : Nat) : Dev :=
  let r := d.rawNow + 1
  ({ d with wall := { off := d.wall.off + r * ((d.wall.rate : Int) - rate), rate } }).set Reg.R1140_WALL_RATE rate

/-- A step of wall time. -/
def Dev.stepWall (d : Dev) (by_ : Int) : Dev :=
  let d := { d with wall := { d.wall with off := d.wall.off + by_ } }
  ((d.timeCode Code.WALL_STEPPED Kind.device 0).count Reg.R1140_STEPS).set Reg.R1140_WALL_STATE 2

/-- A write refused because PTP owns wall time. (DEDUCED, log 104, safe.) -/
def Dev.wallRefused (d : Dev) : Dev := (d.timeCode Code.WALL_OWNED Kind.device 0).finish Code.WALL_OWNED

def Dev.wallRate (d : Dev) (rate : Nat) : Dev :=
  if d.wallOwned then d.wallRefused
  else if rate < 0x00FFBE76C8B4 ∨ 0x01004189374C < rate then d.finish Code.OD_RANGE
  else (d.setWallRate rate).finish Code.STATUS_OK

def Dev.wallStepNs (d : Dev) (ns : Int) : Dev :=
  if d.wallOwned then d.wallRefused else (d.stepWall (ns * 2 ^ 40)).finish Code.STATUS_OK

def Dev.wallSet (d : Dev) (time : Int) : Dev :=
  if d.wallOwned then d.wallRefused
  else if !timeOk time then d.finish Code.OD_TYPE
  else (d.stepWall (time40Of time - d.wtAt (d.rawNow + 1))).finish Code.STATUS_OK

/-- TIME_SNAPSHOT (R352): raw count, network time and wall time of one raw count. -/
def Dev.timeSnapshot (d : Dev) : Dev :=
  (((d.set Reg.R1140_SNAP_RAW d.rawNow).set Reg.R1140_SNAP_NT (time40 d.nt40)).set Reg.R1140_SNAP_WT
    (time40 (d.wtAt d.rawNow))).finish Code.STATUS_OK

/-! ## PTP (R353 to R355, R364) -/

def Dev.ptpPort (d : Dev) (p : Nat) : PtpPort := mget {} d.ptp p
def Dev.modPtp (d : Dev) (p : Nat) (f : PtpPort → PtpPort) : Dev := { d with ptp := mset {} d.ptp p (f (d.ptpPort p)) }

/-- The codes of a port's states. (PRESUMED from IEEE 1588, log 102, unsafe.) -/
abbrev PortState.listening : Nat := 4
abbrev PortState.master : Nat := 6
abbrev PortState.passive : Nat := 7
abbrev PortState.uncalibrated : Nat := 8
abbrev PortState.slave : Nat := 9

def Dev.portState (d : Dev) (p : Nat) : Nat := d.nat (Reg.R1190_PORT_STATE p)

/-- Whether the service runs on a port: an ordinary clock uses H0 only. -/
def Dev.ptpOn (d : Dev) (p : Nat) : Bool :=
  let m := d.nat (act Reg.R1180_PTP_MODE)
  d.flag (act (Reg.R1190_PORT_EN p)) && ((m == 1 && p == 0) || (m == 2 && decide (p < 2)))

/-- PTP_MODE (R364): the settings of the instance and of the ports take effect. -/
def Dev.ptpMode (d : Dev) (mode : Nat) : Dev :=
  if 2 < mode then d.finish Code.OD_RANGE
  else
    let d := d.set Reg.R1180_PTP_MODE mode
    let d := each ([Reg.R1180_PTP_MODE, Reg.R1180_DOMAIN_NUMBER, Reg.R1180_PRIORITY1, Reg.R1180_PRIORITY2,
      Reg.R1180_CLOCK_CLASS, Reg.R1180_SLAVE_ONLY, Reg.R1180_TRANSPORT, Reg.R1180_LOG_SYNC, Reg.R1180_STEP_LIMIT_NS] ++
      (List.range 2).flatMap fun p => [Reg.R1190_PORT_EN p, Reg.R1190_INGRESS_LAT_PS p, Reg.R1190_EGRESS_LAT_PS p,
        Reg.R1190_DELAY_ASYM_PS p]) (fun k d => d.set (act k) (d.reg k)) d
    let d := iterate 2 (fun p d =>
      (d.modPtp p fun x => { x with best := none, heard := none, syncs := none, pdAsk := none, pdWait := none }).set
        (Reg.R1190_PORT_STATE p) (if d.ptpOn p then PortState.listening else 0)) d
    d.finish Code.STATUS_OK

/-- Fields of the messages' common header, and whether a message belongs to this clock's domain. -/
def ptpType (m : Bytes) : Nat := fieldBE m 0 1 % 16
def ptpCorr (m : Bytes) : Int := wrapBits 64 (fieldBE m 8 8) * 2 ^ 24
def ptpSource (m : Bytes) : Nat := fieldBE m 20 10
def ptpSeq (m : Bytes) : Nat := fieldBE m 30 2
def ptpStamp (m : Bytes) (off : Nat) : Int := ((fieldBE m off 6 * 1000000000 + fieldBE m (off + 6) 4 : Nat) : Int) * 2 ^ 40
def Dev.ptpTakes (d : Dev) (p : Nat) (m : Bytes) : Bool :=
  d.ptpOn p && fieldBE m 4 1 == d.nat (act Reg.R1180_DOMAIN_NUMBER) && fieldBE m 1 1 % 16 == 2

/-- t_rx and t_tx (R354). -/
def Dev.ptpRx (d : Dev) (p raw : Nat) : Int := d.wtAt raw - divConv (d.reg (act (Reg.R1190_INGRESS_LAT_PS p)) * 2 ^ 40) 1000
def Dev.ptpTx (d : Dev) (p raw : Nat) : Int := d.wtAt raw + divConv (d.reg (act (Reg.R1190_EGRESS_LAT_PS p)) * 2 ^ 40) 1000
def Dev.ptpAsym (d : Dev) (p : Nat) : Int := divConv (d.reg (act (Reg.R1190_DELAY_ASYM_PS p)) * 2 ^ 40) 1000

/-- A message of this clock: type, length, correction in 2^-40 ns, sequence number, log interval and body. -/
def Dev.ptpMessage (d : Dev) (p type len : Nat) (corr : Int) (seq : Nat) (logI : Int) (body : Bytes) : Bytes :=
  [byte type, byte 0x12] ++ beBytes 2 len ++ [byte (d.nat (act Reg.R1180_DOMAIN_NUMBER)), 0, 0, 0] ++
    beBytes 8 (toU 64 (corr.fdiv (2 ^ 24))) ++ [0, 0, 0, 0] ++ beBytes 8 (Config.clockIdentity 0) ++ beBytes 2 (p + 1) ++
    beBytes 2 seq ++ [0, byte (toU 8 logI)] ++ slice body 0 (len - 34)

/-- A timestamp of a message: seconds and truncated nanoseconds. -/
def ptpTime (t : Int) : Bytes := let ns := ns40 t; beBytes 6 (ns / 1000000000) ++ beBytes 4 (ns % 1000000000)

/-- A PTP message as a frame of its transport (R353, R355): Annex E over Ethernet, or Annex C over UDP with the checksum 0.
(PRESUMED, log 102, unsafe.) -/
def Dev.ptpFrame (d : Dev) (p : Nat) (m : Bytes) : Bytes :=
  let peer := ptpType m = 2 ∨ ptpType m = 3
  let own := leBytes 6 (Config.ownMac (1 + p))
  if d.nat (act Reg.R1180_TRANSPORT) = 0 then
    beBytes 6 (if peer then 0x0180C200000E else 0x011B19000000) ++ own ++ beBytes 2 0x88F7 ++ m
  else
    let port := if ptpType m < 8 then 319 else 320
    let ip (sum : Nat) : Bytes := [0x45, 0] ++ beBytes 2 (28 + m.length) ++ beBytes 4 0 ++ [1, 17] ++ beBytes 2 sum ++
      beBytes 4 (d.nat (Reg.R1210_IPV4_H0 + p)) ++ beBytes 4 (if peer then 0xE000006B else 0xE0000181)
    let s := ((List.range 10).map fun i => fieldBE (ip 0) (2 * i) 2).sum
    let s := s % 65536 + s / 65536
    let s := s % 65536 + s / 65536
    beBytes 6 (if peer then 0x01005E00006B else 0x01005E000181) ++ own ++ beBytes 2 0x0800 ++ ip (65535 - s) ++
      beBytes 2 port ++ beBytes 2 port ++ beBytes 2 (8 + m.length) ++ beBytes 2 0 ++ m

/-- A PTP message leaves on a host port. -/
def Dev.ptpSend (d : Dev) (p : Nat) (m : Bytes) : Dev := d.send (7 + p) (d.ptpFrame p m)

/-- A new offset from the master: the servo slews, or a step beyond STEP_LIMIT_NS (R350). (DESIGN CHOICE, log 103, safe.) -/
def Dev.ptpServo (d : Dev) (p : Nat) (offset : Int) : Dev :=
  let ns := offset.fdiv (2 ^ 40)
  let d := d.set Reg.R1180_OFFSET_NS ns
  let d := if (d.nat (act Reg.R1180_STEP_LIMIT_NS) : Int) < ns.natAbs then d.stepWall (-offset)
    else
      let (n, d) := d.takeFresh
      let lim : Int := 549755813
      d.setWallRate (2 ^ 40 + clamp (-lim) lim (Config.servoRate n offset)).toNat
  (d.set Reg.R1140_WALL_STATE 2).set (Reg.R1190_PORT_STATE p) PortState.slave

/-- Whether a port follows the sender of a message: the source of its best Announce. -/
def Dev.ptpFollows (d : Dev) (p : Nat) (m : Bytes) : Bool :=
  (d.portState p == PortState.slave || d.portState p == PortState.uncalibrated) &&
    match (d.ptpPort p).best with | some a => ptpSource a == ptpSource m | none => false

/-- PTP_SYNC at raw count `raw`: a one-step Sync feeds the servo, a two-step one waits for its Follow_Up. -/
def Dev.ptpSync (d : Dev) (p raw : Nat) (m : Bytes) : Dev :=
  if ¬d.ptpTakes p m ∨ ptpType m ≠ 0 ∨ ¬d.ptpFollows p m then d
  else
    let t2 := d.ptpRx p raw
    let corr := ptpCorr m + d.ptpAsym p
    if (fieldBE m 6 1).testBit 1 then d.modPtp p fun x => { x with syncs := some (ptpSeq m, t2, corr) }
    else d.ptpServo p (t2 - ptpStamp m 34 - corr - (d.ptpPort p).delay)

/-- PTP_FOLLOW_UP. -/
def Dev.ptpFollowUp (d : Dev) (p : Nat) (m : Bytes) : Dev :=
  if ¬d.ptpTakes p m ∨ ptpType m ≠ 8 ∨ ¬d.ptpFollows p m then d
  else
    match (d.ptpPort p).syncs with
    | some (seq, t2, corr) =>
      if seq = ptpSeq m then
        (d.modPtp p fun x => { x with syncs := none }).ptpServo p (t2 - ptpStamp m 34 - corr - ptpCorr m - (d.ptpPort p).delay)
      else d
    | none => d

/-- PTP_PDELAY_REQ received at `raw`, answered by a one-step Pdelay_Resp that leaves at `txRaw` (R355). -/
def Dev.ptpPdelayReq (d : Dev) (p raw : Nat) (m : Bytes) (txRaw : Nat) : Dev :=
  if ¬d.ptpTakes p m ∨ ptpType m ≠ 2 then d
  else
    let turn := d.ptpTx p txRaw - d.ptpRx p raw
    d.ptpSend p (d.ptpMessage p 3 54 (ptpCorr m + turn) (ptpSeq m) 0x7F (List.replicate 10 0 ++ beBytes 10 (ptpSource m)))

/-- The peer delay from the time between request and response without the turnaround. -/
def Dev.ptpDelay (d : Dev) (p : Nat) (x : Int) : Dev :=
  let delay := divConv x 2
  (d.modPtp p fun q => { q with delay, pdWait := none, pdAsk := none }).set (Reg.R1190_MEAN_LINK_DELAY_PS p)
    (max 0 (divConv (delay * 1000) (2 ^ 40)))

/-- PTP_PDELAY_RESP at `raw`. -/
def Dev.ptpPdelayResp (d : Dev) (p raw : Nat) (m : Bytes) : Dev :=
  if ¬d.ptpTakes p m ∨ ptpType m ≠ 3 then d
  else
    match (d.ptpPort p).pdAsk with
    | some (seq, t1) =>
      let x := d.ptpRx p raw - t1
      let corr := ptpCorr m + d.ptpAsym p
      if seq ≠ ptpSeq m then d
      else if (fieldBE m 6 1).testBit 1 then d.modPtp p fun q => { q with pdWait := some (seq, x, ptpStamp m 34, corr) }
      else d.ptpDelay p (x - corr)
    | none => d

/-- PTP_PDELAY_RESP_FOLLOW_UP. -/
def Dev.ptpPdelayRespFollowUp (d : Dev) (p : Nat) (m : Bytes) : Dev :=
  if ¬d.ptpTakes p m ∨ ptpType m ≠ 10 then d
  else
    match (d.ptpPort p).pdWait with
    | some (seq, x, t2, corr) =>
      if seq = ptpSeq m then d.ptpDelay p (x - (ptpStamp m 34 - t2) - corr - ptpCorr m) else d
    | none => d

/-! ### The best master clock algorithm -/

/-- A data set in the order of comparison: priority1, class, accuracy, variance, priority2, identity, steps, sender. -/
def announceSet (a : Bytes) : List Nat :=
  [fieldBE a 47 1, fieldBE a 48 1, fieldBE a 49 1, fieldBE a 50 2, fieldBE a 52 1, fieldBE a 53 8, fieldBE a 61 2, ptpSource a]

def Dev.ownSet (d : Dev) : List Nat :=
  [d.nat (act Reg.R1180_PRIORITY1), d.nat (act Reg.R1180_CLOCK_CLASS), Config.clockAccuracy 0, Config.clockVariance 0,
    d.nat (act Reg.R1180_PRIORITY2), Config.clockIdentity 0, 0, 0]

/-- Whether the first list comes before the second. -/
def lexLess : List Nat → List Nat → Bool
  | a :: as, b :: bs => if a < b then true else if b < a then false else lexLess as bs
  | _, _ => false

/-- The best announced data set over the ports, with its port. -/
def Dev.bestMaster (d : Dev) : Option (Nat × List Nat) :=
  (List.range 2).foldl (fun b p =>
    match (d.ptpPort p).best with
    | some a =>
      match b with
      | some (_, s) => if d.ptpOn p && lexLess (announceSet a) s then some (p, announceSet a) else b
      | none => if d.ptpOn p then some (p, announceSet a) else none
    | none => b) none

/-- The state of a port by the default algorithm. (PRESUMED, log 102, unsafe.) -/
def Dev.portDecision (d : Dev) (p : Nat) : Nat :=
  let own := d.ownSet
  let only := d.flag (act Reg.R1180_SLAVE_ONLY)
  match d.bestMaster with
  | none => if only then PortState.listening else PortState.master
  | some (q, s) =>
    let mine := match (d.ptpPort p).best with | some a => announceSet a | none => []
    if only then (if q = p then PortState.uncalibrated else PortState.listening)
    else if 1 ≤ own.getD 1 0 ∧ own.getD 1 0 ≤ 127 then
      (if mine.isEmpty || lexLess own mine then PortState.master else PortState.passive)
    else if lexLess own s then PortState.master
    else if q = p then PortState.uncalibrated
    else if mine.getD 5 0 = s.getD 5 0 ∧ !mine.isEmpty then PortState.passive
    else PortState.master

/-- The states of the ports decided; a slave stays a slave while it follows the same master. -/
def Dev.decidePorts (d : Dev) (changed : Nat → Bool) : Dev :=
  let d := iterate 2 (fun p d =>
    if !d.ptpOn p then d
    else
      let st := d.portDecision p
      let st := if st = PortState.uncalibrated ∧ d.portState p = PortState.slave ∧ changed p = false then PortState.slave
        else if st = PortState.master ∧ d.portState p = PortState.listening ∧ (d.ptpPort p).heard.isNone ∧ changed p = false
        then PortState.listening else st
      d.set (Reg.R1190_PORT_STATE p) st) d
  d.set Reg.R1180_GM_IDENTITY (match d.bestMaster with
    | some (q, s) => if d.portState q = PortState.slave ∨ d.portState q = PortState.uncalibrated then s.getD 5 0 else 0
    | none => 0)

/-- PTP_ANNOUNCE: a sender heard twice qualifies; the better data set stands. (PRESUMED, log 102, unsafe.) -/
def Dev.ptpAnnounce (d : Dev) (p : Nat) (m : Bytes) : Dev :=
  if ¬d.ptpTakes p m ∨ ptpType m ≠ 11 ∨ ptpSource m / 65536 = Config.clockIdentity 0 then d
  else
    let x := d.ptpPort p
    let same := match x.best with | some a => ptpSource a == ptpSource m | none => false
    if same || x.heard == some (ptpSource m) then
      let better := match x.best with
        | some a => same || lexLess (announceSet m) (announceSet a)
        | none => true
      if better then
        let d := d.modPtp p fun x => { x with best := some m, heard := some (ptpSource m) }
        d.decidePorts fun q => q == p && !same
      else d
    else d.modPtp p fun x => { x with heard := some (ptpSource m) }

/-- ANNOUNCE_RECEIPT_TIMEOUT (R350): the master is no longer heard. -/
def Dev.announceTimeout (d : Dev) (p : Nat) : Dev :=
  if !d.ptpOn p then d
  else (d.modPtp p fun x => { x with best := none, heard := none, syncs := none }).decidePorts fun q => q == p

/-- PTP_DELAY_REQ: Delay_Req and management messages are dropped and counted. -/
def Dev.ptpDelayReq (d : Dev) (p : Nat) : Dev := d.when (d.ptpOn p) fun d => d.count (Reg.R1190_DROPPED p)

/-- PTP_SYNC_TRANSMIT as master at `raw` (R355). -/
def Dev.ptpSyncTransmit (d : Dev) (p raw : Nat) : Dev :=
  if ¬d.ptpOn p ∨ d.portState p ≠ PortState.master then d
  else
    let t := d.ptpTx p raw
    let seq := (d.ptpPort p).syncSeq
    let d := d.modPtp p fun x => { x with syncSeq := (seq + 1) % 65536 }
    d.ptpSend p (d.ptpMessage p 0 44 (t - t.fdiv (2 ^ 40) * 2 ^ 40) seq (d.reg (act Reg.R1180_LOG_SYNC)) (ptpTime t))

/-- PTP_PDELAY_REQ_TRANSMIT at `raw`. -/
def Dev.ptpPdelayReqTransmit (d : Dev) (p raw : Nat) : Dev :=
  if !d.ptpOn p then d
  else
    let seq := (d.ptpPort p).pdSeq
    let d := d.modPtp p fun x => { x with pdSeq := (seq + 1) % 65536, pdAsk := some (seq, d.ptpTx p raw), pdWait := none }
    d.ptpSend p (d.ptpMessage p 2 54 (-(d.ptpAsym p)) seq 0 (List.replicate 20 0))

/-- PTP_ANNOUNCE_TRANSMIT. -/
def Dev.ptpAnnounceTransmit (d : Dev) (p : Nat) : Dev :=
  if ¬d.ptpOn p ∨ d.portState p ≠ PortState.master then d
  else
    let seq := (d.ptpPort p).annSeq
    let d := d.modPtp p fun x => { x with annSeq := (seq + 1) % 65536 }
    let s := match d.bestMaster with
      | some (q, s) => if q ≠ p ∧ lexLess s d.ownSet then s.set 6 (s.getD 6 0 + 1) else d.ownSet
      | none => d.ownSet
    let g := fun i => s.getD i 0
    d.ptpSend p (d.ptpMessage p 11 64 0 seq 0 (List.replicate 12 0 ++ [0, byte (g 0), byte (g 1), byte (g 2)] ++
      beBytes 2 (g 3) ++ [byte (g 4)] ++ beBytes 8 (g 5) ++ beBytes 2 (g 6) ++ [0]))

end Sys2Proof.Machine
end

