-- ==== Sys2Proof/Machine/Arm.lean ====
section
/-! DEFINITION. Arming and disarming scheduled actions (R357 to R359). -/

namespace Sys2Proof.Machine

/-- The key of field `j` of entry `e` (R361). -/
abbrev actKey (e j : Nat) : Nat := Reg.key (0x1160 + e / 8) (16 * (e % 8) + j)

namespace ActField
abbrev kind : Nat := 1
abbrev target : Nat := 2
abbrev sub : Nat := 3
abbrev value : Nat := 4
abbrev instant : Nat := 5
abbrev period : Nat := 6
abbrev policy : Nat := 7
abbrev state : Nat := 9
abbrev status : Nat := 10
abbrev firedAt : Nat := 11
abbrev count : Nat := 12
abbrev missed : Nat := 13
end ActField

namespace ActState
abbrev armed : Nat := 1
abbrev ended : Nat := 2
abbrev lateRejected : Nat := 3
abbrev disarmed : Nat := 4
end ActState

def Dev.actNat (d : Dev) (e j : Nat) : Nat := d.nat (actKey e j)
def Dev.actRun (d : Dev) (e : Nat) : ActionRun := mget {} d.acts e
def Dev.setActRun (d : Dev) (e : Nat) (x : ActionRun) : Dev := { d with acts := mset {} d.acts e x }

/-- Whether a COMMIT may name an entry: COMMIT_CYCLE and ARM_CYCLE objects that are not SL (R357). -/
def commitTarget (index sub : Nat) : Bool :=
  (decide (0x2000 ≤ index ∧ index < 0x2800 ∧ index % 16 = 9) && sub == 0x0D) ||
  (decide (0x3410 ≤ index ∧ index < 0x3420) && sub == 0x0B) ||
  (index == 0x3804 && sub == 4) || (index == 0x1420 && sub == 4) || (index == 0x1220 && sub == 4)

/-- Whether a WRITE_OD may name an entry (R357). -/
def writeTarget (index sub : Nat) : Bool :=
  match entryAt index sub with
  | some (e, _) => e.acc != .sl && e.acc != .ro && e.ty != .dom && e.ty != .str && decide (e.ty.size ≤ 8)
  | none => false

/-- The checks of an arm (R357). -/
def Dev.armValid (d : Dev) (e : Nat) : Bool :=
  let target := d.actNat e ActField.target
  let sub := d.actNat e ActField.sub
  let period := d.actNat e ActField.period
  (period == 0 || decide (10000 ≤ period ∧ period ≤ 1000000000)) &&
    match d.actNat e ActField.kind with
    | 1 | 2 => decide (target < 16)
    | 3 => decide (target < 128)
    | 4 => decide (target < 16)
    | 5 => writeTarget target sub
    | 6 => commitTarget target sub
    | _ => false

/-- An entry's instant in units of 2^-40 ns. -/
def Dev.actInstant (d : Dev) (e : Nat) : Int := time40Of (d.reg (actKey e ActField.instant))

/-- Whether an instant is in time for an arm accepted now (R358). -/
def Dev.inTime (d : Dev) (t : Int) : Bool := decide (d.nt40 + 1000 * 2 ^ 40 ≤ t)

/-- The absolute tick of the first SI at least 1,000 ns after now (R358). -/
def Dev.lateTick (d : Dev) : Nat := d.tickAbs + (if d.ph.off ≤ 30250 then 1 else 2)

/-- An armed entry judged (R358): in time, rejected as late, or executing at the first SI that may take it. Answers its code.
(DEDUCED, log 105, unsafe.) -/
def Dev.judgeArm (d : Dev) (e : Nat) : Nat × Dev :=
  let d := d.set (actKey e ActField.state) ActState.armed
  if d.inTime (d.actInstant e) then (Code.STATUS_OK, (d.setActRun e {}).set (actKey e ActField.status) Code.STATUS_OK)
  else if d.actNat e ActField.policy = 1 then
    (Code.STATUS_OK, (d.setActRun e { late := some d.lateTick }).set (actKey e ActField.status) Code.STATUS_OK)
  else
    let d := ((d.setActRun e {}).set (actKey e ActField.state) ActState.lateRejected).set (actKey e ActField.status) Code.LATE
    (Code.LATE, (d.timeCode Code.LATE Kind.action e).count Reg.R1150_LATE_COUNT)

/-- A refusal of a write to an entry's ARM: the entry stays as it was. (DEDUCED, log 104, safe.) -/
def Dev.armRefused (d : Dev) (e : Nat) : Dev := (d.timeCode Code.ACTION_INVALID Kind.action e).finish Code.ACTION_INVALID

/-- ARM = 1 (R357, R358). -/
def Dev.armEntry (d : Dev) (e : Nat) : Dev :=
  if 256 ≤ e then d.finish Code.OD_NO_ENTRY
  else if !d.armValid e then d.armRefused e
  else
    let (code, d) := (d.set (actKey e ActField.count) 0).judgeArm e
    d.finish code

/-- ARM = 2 (R359). (DEDUCED, log 105, unsafe.) -/
def Dev.disarmEntry (d : Dev) (e : Nat) : Dev :=
  if 256 ≤ e then d.finish Code.OD_NO_ENTRY
  else if d.actNat e ActField.state ≠ ActState.armed then d.finish Code.STATUS_OK
  else if (d.actRun e).taken then d.armRefused e
  else ((d.setActRun e {}).set (actKey e ActField.state) ActState.disarmed).finish Code.STATUS_OK

end Sys2Proof.Machine
end

