-- ==== Sys2Proof/Machine/AeCore.lean ====
section
/-! DEFINITION. An analysis engine (spec/07): its registers, data formats and addressing (R227 to R236), how its next
instruction is fetched and ended, its stacks, faults and states (R240 to R245). -/

namespace Sys2Proof.Machine

/-! ## Fields of an instruction word (R237) -/

/-- What every instruction can read of its word. -/
abbrev Op.code (w : Nat) : Nat := bits w 31 26

/-- The opcodes of R238. (DESIGN CHOICE, log 18, safe.) -/
def aeLegal : List Nat := [0, 1, 2, 3, 4, 5] ++ (List.range 56).filter (fun o => (8 ≤ o && o ≤ 0x2A) || (0x30 ≤ o && o ≤ 0x36))

/-! ## Lanes (R228) -/

/-- Lanes of a type and their width in bits. -/
def laneCount (ty : Nat) : Nat := match ty with | 0 => 1 | 1 => 2 | _ => 4
def laneWidth (ty : Nat) : Nat := match ty with | 0 => 64 | 1 => 32 | _ => 16

/-- The lanes of a word as signed numbers, lane 0 first. -/
def getLanes (ty v : Nat) : List Int :=
  (List.range (laneCount ty)).map fun k => wrapBits (laneWidth ty) ((v / 2 ^ (laneWidth ty * k) : Nat) : Int)

/-- A word made of lanes. -/
def putLanes (ty : Nat) (ls : List Int) : Nat :=
  ls.reverse.foldl (fun acc x => acc * 2 ^ laneWidth ty + toU (laneWidth ty) x) 0

/-- A lane's result stored: I64 wraps, the others saturate (R228, R230); whether it was changed by saturation. -/
def laneStore (ty : Nat) (x : Int) : Int × Bool :=
  if ty = 0 then (wrapBits 64 x, false) else (satBits (laneWidth ty) x, x != satBits (laneWidth ty) x)

/-- A narrowing by `s` bits to `w` bits (R230, R231): convergent, or a left shift where `s` is negative, then saturated. -/
def narrowBy (w : Nat) (s v : Int) : Int × Bool :=
  let r := if s < 0 then v * 2 ^ (-s).toNat else shrConv v s.toNat
  (satBits w r, r != satBits w r)

/-! ## The engine's registers -/

def Ae.D (e : Ae) (i : Nat) : Nat := mget 0 e.d i
def Ae.setD (e : Ae) (i v : Nat) : Ae := { e with d := mset 0 e.d i (v % 18446744073709551616) }
def Ae.A (e : Ae) (i : Nat) : Int := mget 0 e.a i
def Ae.sticky (e : Ae) (bit : Nat) (b : Bool) : Ae := if b then { e with sr := withBit e.sr bit true } else e

/-- An accumulator written: it saturates at 80 bits and sets AOVF (R229). -/
def Ae.setA (e : Ae) (i : Nat) (v : Int) : Ae :=
  { (e.sticky 1 (v != satBits 80 v)) with a := mset 0 e.a i (satBits 80 v), wrote := withBit e.wrote i true }

/-- The halves of an accumulator for complex-16 work: real, imaginary (R229). -/
def accHalves (v : Int) : Int × Int :=
  let u := toU 80 v
  (wrapBits 40 (u / 2 ^ 40 : Nat), wrapBits 40 (u % 2 ^ 40 : Nat))

/-- Two halves put into an accumulator, each saturating at 40 bits with AOVF. -/
def Ae.setHalves (e : Ae) (i : Nat) (re im : Int) : Ae :=
  let o := re != satBits 40 re || im != satBits 40 im
  (e.sticky 1 o).setA i (wrapBits 80 ((toU 40 (satBits 40 re) * 2 ^ 40 + toU 40 (satBits 40 im) : Nat) : Int))

/-- A complex Q1.31 value: real part high, imaginary part low (R228). -/
def cplx32 (v : Nat) : Int × Int := (wrapBits 32 (v / 2 ^ 32 : Nat), wrapBits 32 (v % 2 ^ 32 : Nat))
def pack32 (re im : Int) : Nat := toU 32 re * 2 ^ 32 + toU 32 im

/-- Complex Q1.15 element `k` of a 64-bit word. -/
def cplx16 (v k : Nat) : Int × Int :=
  let h := v / 2 ^ (32 * k) % 2 ^ 32
  (wrapBits 16 (h / 65536 : Nat), wrapBits 16 (h % 65536 : Nat))
def pack16 (re im : Int) : Nat := toU 16 re * 65536 + toU 16 im

/-- The exact product of two complex numbers, the second conjugated or not. -/
def cmulExact (a b : Int × Int) (cj : Bool) : Int × Int :=
  let b := if cj then (b.1, -b.2) else b
  (a.1 * b.1 - a.2 * b.2, a.1 * b.2 + a.2 * b.1)

/-! ## Addressing (R234, R235) -/

/-- The low `k` bits of `x` in reversed order. -/
def revBits (k x : Nat) : Nat :=
  (List.range k).foldl (fun acc i => if x.testBit i then acc + 2 ^ (k - 1 - i) else acc) 0

/-- Whether address mode 2 may be used: L a power of two from 2 to 32,768. -/
def Ae.revOk (e : Ae) (p : Nat) : Bool :=
  let l := mget 0 e.l p
  (List.range 15).any fun i => l == 2 ^ (i + 1)

/-- The pointer brought into its modulo range at the time of use. -/
def Ae.usePtr (e : Ae) (p : Nat) : Ae :=
  let l := mget 0 e.l p; let v := mget 0 e.p p
  if l ≠ 0 ∧ l ≤ v then { (e.sticky 2 true) with p := mset 0 e.p p (v % l) } else e

/-- The word address of a memory operand. -/
def Ae.addr (e : Ae) (p : Nat) : Nat := (mget 0 e.b p + mget 0 e.p p) % 32768

/-- The pointer after the access. -/
def Ae.step (e : Ae) (p am : Nat) : Ae :=
  let l := mget 0 e.l p; let v := mget 0 e.p p; let m : Int := mget 0 e.m p
  let modulo := fun (x : Int) => (x % (if l = 0 then 32768 else l : Nat)).toNat
  let v' := match am with
    | 1 => modulo (v + m)
    | 2 => let k := l.log2; revBits k ((revBits k v + revBits k (m % (2 ^ k : Nat)).toNat) % 2 ^ k) % 2 ^ k
    | 3 => modulo (v + 1)
    | _ => v
  { e with p := mset 0 e.p p v' }

/-- Where a program word lies in the engine's 8 MB, and a word of X or Y (R225). -/
def progOff (w : Nat) : Nat := 4 * w
def dataOff (bk a : Nat) : Nat := 0x100000 * (bk + 1) + 8 * a

/-- Whether the protected word at an offset is poisoned: it holds eight bytes (R508, R509). -/
def Ae.poisoned (e : Ae) (off : Nat) : Bool := e.bad.contains (off / 8 * 8)

/-- Data memory words; a word written whole is no longer poisoned (R509). (DESIGN CHOICE, log 10, unsafe.) -/
def Ae.mem (e : Ae) (bk a : Nat) : Nat := if bk = 0 then mget 0 e.x a else mget 0 e.y a
def Ae.setMem (e : Ae) (bk a v : Nat) : Ae :=
  let e := { e with bad := e.bad.filter (· != dataOff bk a) }
  if bk = 0 then { e with x := mset 0 e.x a v } else { e with y := mset 0 e.y a v }

/-- A load of a data word: an uncorrectable one stops the engine (R224). -/
def Ae.load (e : Ae) (bk a : Nat) : Except Nat Nat :=
  if e.poisoned (dataOff bk a) then .error Code.AE_MEM_ERROR else .ok (e.mem bk a)

/-! ## Special registers (R227) -/

/-- Whether an SPR number may be written with a value: the read-only and the absent ones are illegal, and a pointer,
length or base out of range. -/
def sprWritable (n v : Nat) : Bool :=
  if n < 8 then decide (v % 65536 ≤ 32767) else if n < 16 then true
  else if n < 24 then decide (v % 65536 ≤ 32768) else if n < 32 then decide (v % 65536 ≤ 32767)
  else n == 32 || n == 33 || n == 34 || n == 36

/-- An SPR written with the low bits of its width. -/
def Ae.setSpr (e : Ae) (n v : Nat) : Ae :=
  if n < 8 then { e with p := mset 0 e.p n (v % 65536) }
  else if n < 16 then { e with m := mset 0 e.m (n - 8) (wrapBits 16 (v : Int)) }
  else if n < 24 then { e with l := mset 0 e.l (n - 16) (v % 65536) }
  else if n < 32 then { e with b := mset 0 e.b (n - 24) (v % 65536) }
  else if n = 32 then { e with exp := v % 256 }
  else if n = 33 then { e with sr := v % 8 }
  else if n = 34 then { e with cr := v % 16 ||| 1 }
  else if n = 36 then { e with woke := v % 65536 }
  else e

/-- The count remaining in the innermost loop. -/
def Ae.lc (e : Ae) : Nat := match e.loops with | l :: _ => l.count | [] => 0

/-- An SPR read, M sign-extended to 64 bits. (DEDUCED, log 40, unsafe.) -/
def Ae.spr (e : Ae) (n : Nat) : Nat :=
  if n < 8 then mget 0 e.p n
  else if n < 16 then toU 64 (mget 0 e.m (n - 8))
  else if n < 24 then mget 0 e.l (n - 16)
  else if n < 32 then mget 0 e.b (n - 24)
  else match n with
    | 32 => e.exp | 33 => e.sr | 34 => e.cr | 35 => e.lc | 36 => e.woke | 37 => e.cycles % 4294967296 | _ => 0

/-! ## The device's engines -/

def Dev.ae (d : Dev) (e : Nat) : Ae := mget {} d.aes e
def Dev.setAe (d : Dev) (e : Nat) (x : Ae) : Dev := { d with aes := mset {} d.aes e x }

abbrev AeState.stopped : Nat := 0
abbrev AeState.running : Nat := 1
abbrev AeState.waiting : Nat := 2
abbrev AeState.halted : Nat := 3
abbrev AeState.faulted : Nat := 4

def Dev.aeState (d : Dev) (e : Nat) : Nat := d.nat (Reg.R3510_STATE e)

/-- A word of program memory; HALT where nothing else was written. -/
def Dev.aeWord (d : Dev) (e pc : Nat) : Nat := mget 0xD0000000 (d.ae e).prog pc

/-- Bits of SIGNAL set: the engine's PLIC source rises when a masked bit becomes 1 (R245). -/
def Dev.aeSignal (d : Dev) (e bits : Nat) : Dev :=
  let old := d.nat (Reg.R3510_SIGNAL e)
  let d := d.orBits (Reg.R3510_SIGNAL e) bits
  d.when ((bits &&& d.nat (Reg.R3510_SIG_MASK e)) != (bits &&& d.nat (Reg.R3510_SIG_MASK e) &&& old)) fun d =>
    d.raisePlic (80 + e)

/-- The trackers that have yet to be served in this cycle: those that are on and not in BOUND, lowest first (R206, R212). -/
def Dev.trackersWait (d : Dev) : List Nat :=
  (List.range 32).filter fun t =>
    d.flag (Reg.R3440_EN t) && d.nat (Reg.R3440_TRACK_STATE t) != 3 && (mget {} d.ident.trackers t).served != some d.clk.cycle64

/-- The tracker step that an engine without a job was on when it faulted is lost: its tracker holds for this cycle (R223).
(DEDUCED, log 163, safe.) -/
def Dev.aeStepLost (d : Dev) : Dev :=
  match d.trackersWait with
  | t :: _ =>
    let x := mget {} d.ident.trackers t
    { d with ident := { d.ident with
        trackers := mset {} d.ident.trackers t { x with served := some d.clk.cycle64, outside := 0 } } }.set (Reg.R3440_TRACK_STATE t) 2
  | [] => d

/-- What ran on an engine which faulted (R223): a job fails with reason 4, a tracker step is lost; the engine returns to service
after the library is reloaded. -/
def Dev.aeJobLost (d : Dev) (e : Nat) : Dev :=
  match d.ident.jobOn.find? fun (_, x) => x == e with
  | some (j, _) =>
    let d := { d with ident := { d.ident with jobOn := d.ident.jobOn.filter fun (_, x) => x != e } }
    ((d.set (Reg.R3420_JOB_STATE j) 4).set (Reg.R3420_JOB_REASON j) 4).raise Code.JOB_FAILED Kind.other 0 0 j
  | none => d.aeStepLost

/-- An engine stops in FAULTED (R243); in mode 0 the management processor resets it, reloads the library and returns it
to service (R223). -/
def Dev.aeFault (d : Dev) (e code : Nat) : Dev :=
  let x := d.ae e
  let d := ((d.set (Reg.R3510_STOP_PC e) x.pc).set (Reg.R3510_FAULT e) code).set (Reg.R3510_SR e) x.sr
  let d := (d.set (Reg.R3510_STATE e) AeState.faulted).raise code Kind.unit (48 + e)
  let d := (d.aeSignal e 0x8000).set (Reg.R3510_CYCLES e) x.cycles
  if d.reg (Reg.R3510_MODE e) = 0 then
    ((d.aeJobLost e).setAe e { x with ready := false }).set (Reg.R3510_STATE e) AeState.stopped
  else d

/-- After an instruction at `pc` the innermost loop that ends there goes round or is left (R240); loops that end at one
word are left one after the other. -/
def aeLoopEnd (pc : Nat) (loops : List AeLoop) : Nat × List AeLoop :=
  match loops with
  | [] => (pc + 1, [])
  | l :: r =>
    if l.last ≠ pc then (pc + 1, l :: r)
    else if 1 < l.count then (l.first, { l with count := l.count - 1 } :: r)
    else aeLoopEnd pc r

/-- The engine after an instruction that goes on to the next word. -/
def Ae.next (e : Ae) : Ae :=
  let (pc, loops) := aeLoopEnd e.pc e.loops
  { e with pc, loops }

/-- An instruction's outcome: the engine it leaves, or the code of its fault. -/
abbrev AeStep := Except Nat Ae

/-- The next instruction of engine `e` executed: fetched at its PC, skipped where its predicate fails (one cycle), else
given to `f` where its opcode is `op`. A PC beyond program memory, an opcode that is not in the table, and what `f` finds
illegal stop the engine, as does a fetch of a poisoned word (R224). The command has no effect where the engine is not RUNNING a program of its own or its next
instruction is another one. `reads` gives the accumulators a MVA or ASH reads: written just before, they cost a cycle
(R239). (DESIGN CHOICE, log 18, safe; DEDUCED, log 81, safe.) -/
def Dev.aeRun (d : Dev) (e op : Nat) (reads : Nat → Nat) (cyc : Nat) (f : Nat → Ae → AeStep) : Dev :=
  if 2 ≤ e ∨ d.aeState e ≠ AeState.running ∨ d.reg (Reg.R3510_MODE e) ≠ 1 then d
  else
    let x := d.ae e
    let w := d.aeWord e x.pc
    if 0x3FFF < x.pc then d.aeFault e Code.AE_ILLEGAL
    else if x.poisoned (progOff x.pc) then d.aeFault e Code.AE_MEM_ERROR
    else if aeLegal.contains (Op.code w) = false then d.aeFault e Code.AE_ILLEGAL
    else if Op.code w ≠ op then d
    else if x.cr.testBit (bits w 24 23) = w.testBit 25 then
      -- not executed: a LOOP acts as with count 0, with an end that has to be legal too
      if op = 0x33 then
        if bits w 13 0 ≤ x.pc then d.aeFault e Code.AE_ILLEGAL
        else d.setAe e { x with pc := bits w 13 0 + 1, cycles := x.cycles + 1, wrote := 0 }
      else d.setAe e { x.next with cycles := x.cycles + 1, wrote := 0 }
    else
      let stall := if reads w &&& x.wrote = 0 then 0 else 1
      match f w { x with wrote := 0, cycles := x.cycles + cyc + stall } with
      | .ok x' => d.setAe e x'
      | .error code => d.aeFault e code

/-- An instruction that changes the engine's registers and goes on. -/
def Dev.aeData (d : Dev) (e op : Nat) (f : Nat → Ae → AeStep) : Dev :=
  d.aeRun e op (fun _ => 0) 1 fun w x => (f w x).map Ae.next

end Sys2Proof.Machine
end

