-- ==== Sys2Proof/Machine/Memory.lean ====
section
/-! DEFINITION. The address map (R225, R253, R512): where an address lies, the memory of the work cores, and the fabric's accesses
to the memories of the analysis engines (R221, R224, R226). -/

namespace Sys2Proof.Machine

/-! ## Regions (R253) -/

/-- The SRAM's first address, which the spec does not give, and its size of 32 MB. (DESIGN CHOICE, log 170, safe.) -/
def sramBase : Nat := 4096 * (Config.sramPage % 2 ^ 27)
abbrev sramSize : Nat := 33554432

/-- What an address belongs to. -/
inductive Region
  | memory | reserve | rom | window | ports | rings | engine | none
deriving DecidableEq, Repr

/-- The region of an address: LPDDR5X of 16 GB with its reserve pages (R512), the OD window (R453), the port pages (R259), the ring
registers (R455), the engines (R225), SRAM and boot ROM. (DESIGN CHOICE, log 170, safe.) -/
def regionOf (a : Nat) : Region :=
  if 0x0800000000 ≤ a ∧ a < 0x0BFF000000 then .memory
  else if 0x0BFF000000 ≤ a ∧ a < 0x0C00000000 then .reserve
  else if 0x0040000000 ≤ a ∧ a < 0x0050000000 then .window
  else if 0x0050000000 ≤ a ∧ a < 0x0050018000 then .ports
  else if 0x0050100000 ≤ a ∧ a < 0x0050101800 then .rings
  else if 0x0060000000 ≤ a ∧ a < 0x0061000000 then .engine
  else if sramBase ≤ a ∧ a < sramBase + sramSize then .memory
  else if 4096 * Config.romPage ≤ a ∧ a < 4096 * (Config.romPage + Config.romPages) ∧ a < 2 ^ 40 then .rom
  else .none

/-- Whether `n` bytes lie in SRAM or LPDDR5X: their two ends do, and they are no more than the smaller of the two.
(DESIGN CHOICE, log 170, safe.) -/
def inMemory (a n : Nat) : Bool :=
  (decide (0x0800000000 ≤ a ∧ a + n ≤ 0x0BFF000000)) ||
    (regionOf a == .memory && regionOf (a + n - 1) == .memory && decide (n ≤ sramSize))

/-! ## The memory of the work cores -/

/-- A byte of memory; one that nothing has written reads 0. (DESIGN CHOICE, log 10, unsafe.) -/
def Dev.memAt (d : Dev) (a : Nat) : Byte := mget 0 d.mem a
def Dev.memSet (d : Dev) (a : Nat) (b : Byte) : Dev := { d with mem := mset 0 d.mem a b }
def Dev.memRead (d : Dev) (a n : Nat) : Bytes := (List.range n).map fun i => d.memAt (a + i)
def Dev.memWrite (d : Dev) (a : Nat) (bs : Bytes) : Dev :=
  each (bs.zip (List.range bs.length)) (fun p d => d.memSet (a + p.2) p.1) d

/-! ## The park frames (R279, R291) -/

/-- PARK_BASE: where in the SRAM the park frames lie is free. (DESIGN CHOICE, log 171, safe.) -/
def parkBase : Nat := sramBase + 64 * (Config.parkBase % ((sramSize - 576 * 1024) / 64))
def frameAt (f : Nat) : Nat := parkBase + 576 * f

/-! ## The engines' memories on the fabric (R225, R226) -/

/-- What of an engine an address of its 8 MB shows: the engine, its program (5), X (6) or Y (7) memory by the sub-index of R247, and
the byte of it; none elsewhere in the 8 MB. -/
def aeCell (a : Nat) : Option (Nat × Nat × Nat) :=
  let e := (a - 0x0060000000) / 0x800000
  let o := a % 0x800000
  if a < 0x0060000000 ∨ 2 ≤ e then none
  else if o < 0x10000 then some (e, 5, o)
  else if 0x100000 ≤ o ∧ o < 0x140000 then some (e, 6, o - 0x100000)
  else if 0x200000 ≤ o ∧ o < 0x240000 then some (e, 7, o - 0x200000)
  else none

/-- A byte of an engine's memory, least significant first (R225); a program word that nothing has written is HALT. -/
def Ae.byteAt (x : Ae) (sub o : Nat) : Byte :=
  match sub with
  | 5 => byte (mget 0xD0000000 x.prog (o / 4) / 256 ^ (o % 4))
  | 6 => byte (mget 0 x.x (o / 8) / 256 ^ (o % 8))
  | _ => byte (mget 0 x.y (o / 8) / 256 ^ (o % 8))

/-- A byte put into a word of `n` bytes. -/
def putByte (n w i : Nat) (b : Byte) : Nat := leNat (patch (leBytes n w) i [b])

def Ae.putAt (x : Ae) (sub o : Nat) (b : Byte) : Ae :=
  match sub with
  | 5 => { x with prog := mset 0xD0000000 x.prog (o / 4) (putByte 4 (mget 0xD0000000 x.prog (o / 4)) (o % 4) b) }
  | 6 => { x with x := mset 0 x.x (o / 8) (putByte 8 (mget 0 x.x (o / 8)) (o % 8) b) }
  | _ => { x with y := mset 0 x.y (o / 8) (putByte 8 (mget 0 x.y (o / 8)) (o % 8) b) }

/-- The refusal of a fabric write to a memory of engine `e` (R221, R226), or STATUS_OK. -/
def Dev.aeWriteRefusal (d : Dev) (e sub : Nat) : Nat :=
  if d.reg (Reg.R3510_MODE e) ≠ 1 then Code.AE_OWNED
  else if sub = 5 ∧ (d.aeState e = AeState.running ∨ d.aeState e = AeState.waiting) then Code.AE_RUNNING
  else Code.STATUS_OK

/-- A fabric access to X or Y while the engine runs may have to wait a cycle for it, which BANK_WAITS counts (R226).
(DESIGN CHOICE, log 164, safe.) -/
def Dev.bankMeets (d : Dev) (e sub : Nat) : Dev :=
  if sub = 5 ∨ d.aeState e ≠ AeState.running then d
  else
    let (k, d) := d.takeFresh
    d.when (Config.bankWait k % 2 == 1) fun d => d.count (Reg.R3510_BANK_WAITS e)

/-- A byte read over the fabric: none is an error response (R224, R225, R253). -/
def Dev.fabricRead (d : Dev) (a : Nat) : Option Byte × Dev :=
  match aeCell a with
  | some (e, sub, o) =>
    if (d.ae e).poisoned (a % 0x800000) then (none, d) else (some ((d.ae e).byteAt sub o), d.bankMeets e sub)
  | none => (if regionOf a = .memory then some (d.memAt a) else none, d)

/-- The effect on an engine of a byte written over the fabric, and whether the writer receives an error response; a refusal is
raised (R221, R226). -/
def Dev.aePut (d : Dev) (e sub o : Nat) (b : Byte) : Bool × Dev :=
  let code := d.aeWriteRefusal e sub
  if code = Code.STATUS_OK then (true, (d.bankMeets e sub).setAe e ((d.ae e).putAt sub o b))
  else (false, d.raise code Kind.unit (48 + e))

end Sys2Proof.Machine
end

