-- ==== Sys2Proof/Machine/Sett.lean ====
section
/-! DEFINITION. Sett (R257 to R281, R287, R288): the order of dispatch, submissions, completions, fences, the journal and its
replay, tick-class items, parking, and the traps a hart takes. -/

namespace Sys2Proof.Machine

/-! ## Items and descriptors -/

def descFunc (x : Bytes) : Nat := fieldLE x 0 2
def descFlow (x : Bytes) : Nat := fieldLE x 2 2
def descPrio (x : Bytes) : Nat := fieldLE x 4 1 % 16
def descFlag (x : Bytes) (i : Nat) : Bool := (fieldLE x 5 1).testBit i
def descDomain (x : Bytes) : Nat := fieldLE x 6 1 % 16
def descDeadline (x : Bytes) : Nat := fieldLE x 16 4

/-- The items that may be submitted (R258). -/
def descOk (x : Bytes) : Bool :=
  x.length == 32 && decide (fieldLE x 4 1 < 16 ∧ fieldLE x 5 1 < 8 ∧ fieldLE x 6 1 < 16 ∧ fieldLE x 7 1 = 0) &&
    !descFlag x 0 && (descFunc x != 0 || descFlag x 2) && (!descFlag x 2 || descFlow x == 0)

/-- A descriptor from its fields. -/
def mkDesc (func flow prio flags domain deadline : Nat) (inl : Bytes) : Bytes :=
  leBytes 2 func ++ leBytes 2 flow ++ [byte prio, byte flags, byte domain, 0] ++ leBytes 8 0 ++ leBytes 4 deadline ++
    slice inl 0 12

def Item.tick (i : Item) : Bool := i.entry.isSome
def Item.fence (i : Item) : Bool := descFlag i.desc 2
def Item.func (i : Item) : Nat := descFunc i.desc
def Item.flow (i : Item) : Nat := descFlow i.desc
def Item.prio (i : Item) : Nat := descPrio i.desc
def Item.domain (i : Item) : Nat := descDomain i.desc

/-- R261. -/
def Item.token (i : Item) : Nat :=
  i.slot + i.gen * 2 ^ 12 + (if i.tick then 2 ^ 28 else 0) + (if i.replayed then 2 ^ 29 else 0) +
    (if i.resumed then 2 ^ 30 else 0) + 2 ^ 31 + i.func * 2 ^ 32 + i.flow * 2 ^ 48

def Dev.setSett (d : Dev) (f : Sett → Sett) : Dev := { d with sett := f d.sett }
def Dev.hart (d : Dev) (h : Nat) : Hart := mget {} d.sett.harts h
def Dev.item (d : Dev) (slot : Nat) : Option Item := d.sett.items.find? fun i => i.slot = slot
def Dev.modItem (d : Dev) (slot : Nat) (f : Item → Item) : Dev :=
  d.setSett fun s => { s with items := s.items.map fun i => if i.slot = slot then f i else i }

/-- The item in service on a hart. -/
def Dev.serving (d : Dev) (h : Nat) : Option Item :=
  d.sett.items.find? fun i => i.place = .service && i.hart = h

/-- A code of R289: LAST_CODE, and source 64 of the PLIC with every code of Sett's own (R256). -/
def Dev.settCode (d : Dev) (code detail : Nat) : Dev :=
  ((d.raise code Kind.other 0 0 detail).set Reg.R3800_LAST_CODE code).raisePlic 64

/-! ## The Hoard's pages (R420) -/

/-- `x` put into a rising list. -/
def insNat (x : Nat) : List Nat → List Nat
  | [] => [x]
  | y :: r => if x < y then x :: y :: r else if x = y then y :: r else y :: insNat x r

/-- The page of the Hoard an address lies in. -/
def Dev.hoardPage (d : Dev) (a : Nat) : Option Nat :=
  let base := d.nat (act Reg.R5800_HOARD_BASE)
  if base ≤ a ∧ a < base + d.nat (act Reg.R5800_HOARD_SIZE) * 2 ^ 20 then some ((a - base) / 4096) else none

/-- The bytes of a page of the Hoard. -/
def Dev.hoardBytes (d : Dev) (page : Nat) : Bytes := d.memRead (d.nat (act Reg.R5800_HOARD_BASE) + 4096 * page) 4096

/-- The open generation ends: its set goes back to the pages of the next one. -/
def Dev.endGen_ (d : Dev) : Dev :=
  match d.pair.gen with
  | none => d
  | some g =>
    let d := { d with pair := { d.pair with gen := none, dirty := each g.pages insNat d.pair.dirty } }
    ((d.set Reg.R5801_OPEN_GEN 0).set Reg.R5801_PENDING_PAGES 0).set Reg.R5801_GEN_LAG 0

/-- The open generation abandoned for want of room in the capture pool. -/
def Dev.abandonGen (d : Dev) : Dev :=
  if d.pair.gen.isNone then d
  else (d.endGen_.count Reg.R5801_ABANDONED).raise Code.CKPT_ABANDONED Kind.device 0

/-- A core or a DMA channel is about to write a page of the Hoard: a page the open generation has yet to send is captured first,
and the page belongs to the next set. -/
def Dev.notePage (d : Dev) (page : Nat) : Dev :=
  if d.active then
    let d := match d.pair.gen with
      | some g =>
        if g.pages.contains page ∧ ¬(g.kept.any fun x => x.1 = page) then
          if d.nat (act Reg.R5800_CAPTURE_PAGES) ≤ g.kept.length then d.abandonGen
          else { d with pair := { d.pair with gen := some { g with kept := mset [] g.kept page (d.hoardBytes page) } } }
        else d
      | none => d
    { d with pair := { d.pair with dirty := insNat page d.pair.dirty } }
  else d

/-- A poisoned word written whole reads again (R509); a word carries 8 data bytes (R508). -/
def Dev.unpoison (d : Dev) (a n : Nat) : Dev :=
  { d with health := { d.health with poisoned := d.health.poisoned.filter fun w => !(decide (a ≤ w ∧ w + 8 ≤ a + n)) } }

/-- A write of a core or of a DMA channel. -/
def Dev.coreWrite (d : Dev) (a : Nat) (bs : Bytes) : Dev :=
  let pages := if bs.isEmpty then [] else (List.range ((a % 4096 + bs.length - 1) / 4096 + 1)).filterMap fun i => d.hoardPage (a / 4096 * 4096 + 4096 * i)
  ((each pages (fun p d => d.notePage p) d).unpoison a bs.length).memWrite a bs

/-! ## The journal (R274) -/

/-- Where the record of a sequence number stands. -/
def Dev.recordAt (d : Dev) (seq : Nat) : Nat :=
  d.nat Reg.R3802_JOURNAL_BASE + 64 * (seq % max 1 (d.nat Reg.R3802_JOURNAL_ENTRIES))

/-- The STATE of a record: 1 queued, 2 in service (parked among it), or 3 done. -/
def placeState : Place → Nat
  | .queued => 1 | .prefetch => 1 | .service => 2 | .parked => 2

/-- The record of an item as it stands. -/
def Item.journalRecord (i : Item) (seq : Nat) : Bytes :=
  leBytes 8 seq ++ slice i.desc 0 32 ++ [byte (placeState i.place), byte i.replays] ++ leBytes 2 0 ++ leBytes 4 i.cycle ++
    List.replicate 16 0

/-- The record of an item brought up to date, once it has been written. -/
def Dev.syncRecord (d : Dev) (slot : Nat) : Dev :=
  match d.item slot with
  | some i =>
    match i.record with
    | some q =>
      d.when i.written fun d => d.memWrite (d.recordAt q + 40) [byte (placeState i.place), byte i.replays]
    | none => d
  | none => d

/-- Records are freed in order once they are done. -/
def Dev.freeRecords (d : Dev) : Dev :=
  let go := d.sett.journal.takeWhile fun r => r.2
  let d := each go (fun r d => d.memSet (d.recordAt r.1 + 40) 0) d
  let d := d.setSett fun s => { s with journal := s.journal.dropWhile fun r => r.2 }
  d.set Reg.R3802_JOURNAL_USED d.sett.journal.length

/-- A record marked done, with the result of the completion. -/
def Dev.recordDone (d : Dev) (seq result : Nat) : Dev :=
  let d := (d.memWrite (d.recordAt seq + 40) [3]).memWrite (d.recordAt seq + 42) (leBytes 2 result)
  let d := d.memWrite (d.recordAt seq + 48) (leBytes 4 d.cycle)
  (d.setSett fun s => { s with journal := s.journal.map fun r => if r.1 = seq then (seq, true) else r }).freeRecords

/-! ## Completion and fences (R262, R267) -/

/-- Whether an item of the same domain was submitted before `i` and has not completed. -/
def Dev.earlier (d : Dev) (i : Item) : Bool :=
  d.sett.items.any fun j => !j.tick && j.domain = i.domain && decide (j.seq < i.seq)

/-- Whether a fence of its domain submitted before `i` stands. -/
def Dev.behindFence (d : Dev) (i : Item) : Bool :=
  d.sett.items.any fun j => !j.tick && j.fence && j.domain = i.domain && decide (j.seq < i.seq)

/-- The order of deadlines: (DEADLINE - now) mod 2^32, signed, none last. -/
def Dev.deadlineKey (d : Dev) (i : Item) : Int :=
  let x := descDeadline i.desc
  if x = 0xFFFFFFFF then 2 ^ 31 else wrapBits 32 ((x : Int) - d.tickAbs)

/-- Whether the DEADLINE of a background item has passed (R265). -/
def Dev.pastDeadline (d : Dev) (i : Item) : Bool := !i.tick && decide (d.deadlineKey i < 0)

/-- An item completed: it is counted where that is late, its record marked done, its flow and its fences released with its slot. -/
def Dev.endItem (d : Dev) (slot result : Nat) : Dev :=
  match d.item slot with
  | none => d
  | some i =>
    let d := d.when (d.pastDeadline i) fun d => d.count Reg.R3880_LATE_COMPLETIONS
    let d := match i.record with
      | some q => d.recordDone q result
      | none => d
    d.setSett fun s =>
      { s with items := s.items.filter (fun j => j.slot != slot), fullEp := if i.frame.isSome then false else s.fullEp }

/-- A fence with FUNC 0 that has stopped being pending. -/
def Dev.fenceDone (d : Dev) : Option Item :=
  d.sett.items.find? fun i => !i.tick && i.fence && i.func = 0 && i.written && i.place = .queued && !d.earlier i

/-- Every fence with FUNC 0 that has stopped being pending completes. -/
def Dev.settleFences (d : Dev) : Dev :=
  iterate d.sett.items.length (fun _ d =>
    match d.fenceDone with
    | some i => d.endItem i.slot 0
    | none => d) d

/-- An item completed, and the fences after it. -/
def Dev.completeItem (d : Dev) (slot result : Nat) : Dev := (d.endItem slot result).settleFences

/-- An item completed by Sett with a code. -/
def Dev.completeCode (d : Dev) (slot code : Nat) : Dev := (d.settCode code slot).completeItem slot code

/-! ## The order of dispatch (R265, R273, R276) -/

/-- R265. -/
def Dev.eligible (d : Dev) (i : Item) : Bool :=
  !i.tick && i.place = .queued && i.written && !(i.fence && i.func = 0) &&
    (i.flow = 0 ||
      !(d.sett.items.any fun j => !j.tick && j.slot != i.slot && j.flow = i.flow &&
        (j.place != .queued || decide (j.seq < i.seq)))) &&
    !d.behindFence i && !(i.fence && d.earlier i)

/-- Whether `i` goes before `j`: what a takeover restored goes first, in SEQ order (R275); then the order of R265, with the heads of
a priority before its other items. -/
def Dev.goesBefore (d : Dev) (i j : Item) : Bool :=
  if i.restored ≠ j.restored then i.restored
  else if i.restored then decide (i.seq < j.seq)
  else if i.prio ≠ j.prio then decide (j.prio < i.prio)
  else if i.front ≠ j.front then decide (j.front < i.front)
  else if i.front = 0 ∧ d.deadlineKey i ≠ d.deadlineKey j then decide (d.deadlineKey i < d.deadlineKey j)
  else decide (i.seq < j.seq)

/-- The eligible item that goes first. -/
def Dev.bestItem (d : Dev) : Option Item :=
  d.sett.items.foldl (fun b i =>
    if d.eligible i then
      match b with
      | some j => if d.goesBefore i j then some i else b
      | none => some i
    else b) none

/-- The eligible item that goes first, the items a replay too many would meet completed instead (R276). -/
def Dev.readyItem (fuel : Nat) (d : Dev) : Option Item × Dev :=
  match fuel with
  | 0 => (none, d)
  | fuel + 1 =>
    match d.bestItem with
    | none => (none, d)
    | some i =>
      if i.due ∧ d.nat Reg.R3802_REPLAY_MAX < i.replays + 1 then
        Dev.readyItem fuel (d.completeCode i.slot Code.REPLAY_EXHAUSTED)
      else (some i, d)

/-- Push mode (R273): a replayed item waits from its replay to its dispatch. (DEDUCED, log 91, safe.) -/
def Dev.pushMode (d : Dev) : Bool :=
  !d.acting || d.flag Reg.R3800_PUSH_FORCE ||
    d.sett.items.any fun i => (i.due || (i.replayed && !i.resumed)) && (i.place = .queued || i.place = .prefetch)

/-- The wait of an item that is handed over (R288). -/
def Dev.noteWait (d : Dev) (i : Item) : Dev :=
  d.when (!i.tick) fun d => d.setSett fun s =>
    { s with waits := mset [] s.waits i.prio (mget [] s.waits i.prio ++ [(d.clk.cycle64, d.rawNow - i.since)]) }

/-- An item placed on a hart: a replay is counted when it leaves the queue (R275). -/
def Dev.place (d : Dev) (slot h : Nat) (p : Place) : Dev :=
  (d.modItem slot fun i =>
    let i := if i.due then { i with due := false, replays := min 255 (i.replays + 1), replayed := true } else i
    { i with place := p, hart := h, front := 0, restored := false }).syncRecord slot

/-- An item handed to a hart: it is in service from this moment and the hart's ASK returns its token (R260). -/
def Dev.handOver (d : Dev) (slot h : Nat) : Dev :=
  let d := d.place slot h .service
  match d.item slot with
  | none => d
  | some i => (d.noteWait i).modHart h fun x => { x with asked := none, answer := i.token }

/-- The released tick-class item that is next in table order. -/
def Dev.nextTick (d : Dev) : Option Item := d.sett.items.find? fun i => i.tick && i.place = .queued

/-- The item in the prefetch slot of a background context. -/
def Dev.prefetched (d : Dev) (h : Nat) : Option Item :=
  d.sett.items.find? fun i => i.place = .prefetch && i.hart = h

/-- Whether a core takes items: not while it retires (R275). -/
def Dev.taking (d : Dev) (h : Nat) : Bool := (mget none d.sett.leaving (h / 2)).isNone

/-- The item that is ready for a hart, if any: a tick context takes tick-class items only, a background context its prefetched
item or the eligible item that goes first. (DEDUCED, log 92, safe.) -/
def Dev.readyFor (d : Dev) (h : Nat) : Option Item × Dev :=
  if !d.taking h then (none, d)
  else if h % 2 = 0 then (d.nextTick, d)
  else
    match d.prefetched h with
    | some i => (some i, d)
    | none => d.readyItem (d.sett.items.length + 1)

/-- A load from ASK (R260); `after` is where the hart goes on. (DESIGN CHOICE, log 84, safe.) -/
def Dev.ask (d : Dev) (h after : Nat) : Dev :=
  if (d.serving h).isSome then
    (d.modHart h fun x => { x with answer := 0 }).count Reg.R3800_STALE_PORT
  else
    let d := d.modHart h fun x => { x with after }
    match d.readyFor h with
    | (some i, d) => d.handOver i.slot h
    | (none, d) => d.modHart h fun x => { x with asked := some (x.asked.getD d.rawNow) }

/-- ITEM_DISPATCH: a blocked ASK takes the item that has become ready. (DEDUCED, log 85, unsafe.) -/
def Dev.itemDispatch (d : Dev) (h : Nat) : Dev :=
  if (d.hart h).asked.isNone then d
  else
    match d.readyFor h with
    | (some i, d) => d.handOver i.slot h
    | (none, d) => d

/-- A blocked ASK returns 0: an interrupt that is pending and enabled, or the timeout (R260). -/
def Dev.askTimeout (d : Dev) (h : Nat) (irq : Bool) : Dev :=
  match (d.hart h).asked with
  | none => d
  | some t =>
    let us := d.nat Reg.R3800_ASK_TIMEOUT_US
    if irq || (us != 0 && decide (t + 1000 * us ≤ d.rawNow)) then d.modHart h fun x => { x with asked := none, answer := 0 }
    else d

/-- PREFETCH_PUSH: in push mode an eligible item goes to the empty prefetch slot of a background context (R273). -/
def Dev.prefetchPush (d : Dev) (h : Nat) : Dev :=
  if d.pushMode && h % 2 == 1 && d.taking h && (d.prefetched h).isNone then
    match d.readyItem (d.sett.items.length + 1) with
    | (some i, d) => d.place i.slot h .prefetch
    | (none, d) => d
  else d

/-! ## Submission (R263, R264) -/

/-- The slots that hold no item. -/
def Dev.freeSlots (d : Dev) : List Nat :=
  (List.range 4096).filter fun k => !d.sett.items.any fun i => i.slot = k

/-- An item in a free slot. Which free slot is a free value; GEN counts each reuse. Where a larger release table leaves no slot free,
no item comes about. (DESIGN CHOICE, log 83, safe.) -/
def Dev.newItem (d : Dev) (desc : Bytes) (entry record : Option Nat) : Nat × Dev :=
  let free := d.freeSlots
  if free.isEmpty then (0, d) else
  let (n, d) := d.takeFresh
  let slot := free.getD (Config.slotPick n % max 1 free.length) 0
  let gen := mget 0 d.sett.gens slot
  let i : Item :=
    { slot, gen, desc, entry, record, written := record.isNone, seq := d.sett.nextSeq, cycle := d.cycle, since := d.rawNow }
  (slot, d.setSett fun s =>
    { s with items := s.items ++ [i], nextSeq := s.nextSeq + 1, gens := mset 0 s.gens slot ((gen + 1) % 65536) })

/-- The entries of the active release table: N_ENTRIES (R269). -/
def Dev.nEntries (d : Dev) : Nat := fieldLE (d.bytes Reg.R3804_ACTIVE) 0 2

/-- A submission from any source: its code and its slot. -/
def Dev.submitDesc (d : Dev) (desc : Bytes) : (Nat × Nat) × Dev :=
  let refuse (code : Nat) : (Nat × Nat) × Dev := ((code, 0), (d.settCode code 0).count Reg.R3880_SUBMIT_REFUSED)
  let background := (d.sett.items.filter fun i => !i.tick).length
  if !descOk desc then refuse Code.DESC_INVALID
  else if 4096 ≤ background + d.nEntries ∨ d.freeSlots.isEmpty = true then refuse Code.SETT_FULL
  else if descFlag desc 1 ∧ d.nat Reg.R3802_JOURNAL_ENTRIES ≤ d.sett.journal.length then refuse Code.JOURNAL_FULL
  else if descFlag desc 1 then
    let q := d.nat Reg.R3802_NEXT_SEQ
    let d := (d.set Reg.R3802_NEXT_SEQ (q + 1)).setSett fun s => { s with journal := s.journal ++ [(q, false)] }
    let d := d.set Reg.R3802_JOURNAL_USED d.sett.journal.length
    let (slot, d) := d.newItem desc none (some q)
    ((Code.STATUS_OK, slot), d.settleFences)
  else
    let (slot, d) := d.newItem desc none none
    ((Code.STATUS_OK, slot), d.settleFences)

/-- A store to SUBMIT_3: SUBMIT_STATUS holds the code and the slot. -/
def Dev.submit (d : Dev) (h : Nat) (desc : Bytes) : Dev :=
  let ((code, slot), d) := (d.modHart h fun x => { x with submit := desc }).submitDesc desc
  (d.modHart h fun x => { x with status := code + slot * 65536 }).finish code

/-- JOURNAL_RECORD_WRITTEN: the record of a journaled item has reached LPDDR5X (R274). -/
def Dev.recordWritten (d : Dev) (slot : Nat) : Dev :=
  match d.item slot with
  | none => d
  | some i =>
    match i.record with
    | some q =>
      if i.written then d
      else ((d.memWrite (d.recordAt q) (i.journalRecord q)).modItem slot fun i => { i with written := true }).settleFences
    | none => d

/-- A store to COMPLETE (R262). -/
def Dev.complete (d : Dev) (h value : Nat) : Dev :=
  match d.serving h with
  | some i =>
    if value % 4096 = i.slot ∧ value / 4096 % 65536 = i.gen then
      let d := d.set (Reg.R3840_ITEMS (h / 2)) (d.reg (Reg.R3840_ITEMS (h / 2)) + 1)
      d.completeItem i.slot (value / 2 ^ 32 % 65536)
    else d.count Reg.R3800_STALE_PORT
  | none => d.count Reg.R3800_STALE_PORT

/-! ## Traps -/

/-- Where a trap goes: the base of its vector, and for an interrupt in vectored mode its place behind it. -/
def vectorOf (tvec cause : Nat) : Nat :=
  tvec / 4 * 4 + (if tvec % 4 = 1 ∧ 2 ^ 63 ≤ cause then 4 * (cause % 2 ^ 63) else 0)

/-- The entry into M mode: mepc, mcause and mtval written, MPIE takes MIE and MPP the mode, the pc goes to mtvec.
(PRESUMED, log 87, unsafe.) -/
def Dev.trapM (d : Dev) (h cause tval : Nat) (c : HartContext) : Dev :=
  let st : Nat := withBit (withBit (withBit (withBit c.csr.mstatus 7 (c.csr.mstatus.testBit 3)) 3 false) 11 (c.priv.testBit 0)) 12
    (c.priv.testBit 1)
  d.modHart h fun x =>
    { x with mcause := cause, mepc := c.pc, mtval := tval,
             ctx := { c with pc := vectorOf c.csr.mtvec cause, priv := 3, csr := { c.csr with mstatus := st } } }

/-- The entry into S mode, which a trap from S or U that medeleg names takes: the same with the supervisor's registers.
(PRESUMED, log 87, unsafe.) -/
def Dev.trapS (d : Dev) (h cause tval : Nat) (c : HartContext) : Dev :=
  let enter (st : Nat) : Nat := withBit (withBit (withBit st 5 (st.testBit 1)) 1 false) 8 (c.priv == 1)
  d.modHart h fun x =>
    { x with scause := cause, sepc := c.pc, stval := tval,
             ctx := { c with pc := vectorOf c.csr.stvec cause, priv := 1, sstatus := enter c.sstatus,
                             csr := { c.csr with mstatus := enter c.csr.mstatus } } }

/-- An exception of a hart, or an interrupt it takes, with the context `c` at the instruction. -/
def Dev.trap (d : Dev) (h cause tval : Nat) (c : HartContext) : Dev :=
  let deleg : Bool := if cause < 2 ^ 63 then c.csr.medeleg.testBit cause else c.csr.mideleg.testBit (cause % 2 ^ 63)
  if c.priv ≤ 1 ∧ deleg = true then d.trapS h cause tval c else d.trapM h cause tval c

/-- The ITEM_ABORT trap (R271): always in M mode, with cause interrupt 24. -/
def Dev.abortTrap (d : Dev) (h token : Nat) (c : HartContext) : Dev := d.trapM h (2 ^ 63 + 24) token c

/-- A tick-class item aborted (R271), with a trap on its hart where its context is given. -/
def Dev.abortTick (d : Dev) (i : Item) (reason : Nat) (pc : Option HartContext) : Dev :=
  let held := i.place = .service && reason != 2
  let d := (d.settCode Code.DEADLINE_MISS i.slot).count Reg.R3803_MISSES
  let d := ((d.set Reg.R3803_LAST_CYCLE d.cycle).set Reg.R3803_LAST_TICK d.clk.tick).set Reg.R3803_LAST_REASON reason
  let d := (d.set Reg.R3803_LAST_ENTRY (i.entry.getD 0)).set Reg.R3803_LAST_HART
    (if held && reason != 5 then i.hart else 0xFF)
  let d := match pc with
    | some c => if held then (d.abortTrap i.hart i.token c).modHart i.hart fun x => { x with abort := reason } else d
    | none => d
  d.endItem i.slot Code.DEADLINE_MISS

/-- DEADLINE_MISS: at +28.0 µs a tick-class item that is still in service or was never dispatched (R271).
(DEDUCED, log 91, safe.) -/
def Dev.deadlineMiss (d : Dev) (entry : Nat) (c : HartContext) : Dev :=
  let d := d.at 28000
  match d.sett.items.find? fun i => i.entry = some entry with
  | some i => if i.place = .service then d.abortTick i 1 (some c) else d.abortTick i 2 none
  | none => d

/-- The releases of a tick (R270): one item an entry whose TICK_MASK names the tick, in table order, with the absolute tick
number in DEADLINE; then blocked tick contexts take items in ascending hart order. -/
def Dev.tickRelease (d : Dev) : Dev :=
  if !d.acting then d
  else
    let t := d.bytes Reg.R3804_ACTIVE
    let d := iterate d.nEntries (fun e d =>
      let x := (t.drop (8 + 40 * e)).take 40
      if (fieldLE x 32 1).testBit d.clk.tick then
        (d.newItem (patch (slice x 0 32) 16 (leBytes 4 d.tickAbs)) (some e) none).2
      else d) d
    iterate 24 (fun k d => d.itemDispatch (2 * k)) d

/-- Whether an image is a release table (R269). -/
def releaseForm (t : Bytes) : Bool :=
  let n := fieldLE t 0 2
  t.isEmpty ||
    (t.length == 8 + 40 * n && decide (n ≤ 512) && fieldLE t 2 1 == 1 && fieldLE t 3 5 == 0 &&
      (List.range n).all fun e =>
        let x := (t.drop (8 + 40 * e)).take 40
        decide (fieldLE x 4 1 < 16 ∧ fieldLE x 6 1 < 16) && fieldLE x 5 1 == 1 && fieldLE x 7 1 == 0 && descFlow x == 0 &&
          descFunc x != 0 && descDeadline x == 0 && fieldLE x 33 3 == 0 && decide (1 ≤ fieldLE x 36 4 ∧ fieldLE x 36 4 ≤ 27000))

/-- W_t and C_t of a release table in nanoseconds (R28). -/
def releaseWork (t : Bytes) (tick : Nat) : Nat × Nat :=
  (List.range (fieldLE t 0 2)).foldl (fun (w, c) e =>
    let x := (t.drop (8 + 40 * e)).take 40
    if (fieldLE x 32 1).testBit tick then (w + fieldLE x 36 4, max c (fieldLE x 36 4)) else (w, c)) (0, 0)

/-- The ticks in which a table breaks the tick-class rule of R27. -/
def releaseOver (t : Bytes) : List Nat :=
  (List.range 8).filter fun k => let (w, c) := releaseWork t k; decide (27000 * 24 < w + 24 * c)

/-! ## Parking (R279 to R281) -/

/-- A park frame: 70 doublewords and zeros up to 576 bytes. (DEDUCED, log 85, unsafe.) -/
def parkFrame (c : HartContext) : Bytes :=
  slice (((List.range 31).flatMap fun i => leBytes 8 (c.x.getD i 0)) ++
    ((List.range 32).flatMap fun i => leBytes 8 (c.f.getD i 0)) ++
    ([c.fcsr, c.pc, c.priv, c.sstatus, c.satp, c.va, c.cause].flatMap fun v => leBytes 8 v)) 0 576

/-- The context a park frame holds. -/
def contextOf (b : Bytes) : HartContext :=
  let w (i : Nat) := fieldLE b (8 * i) 8
  { x := (List.range 31).map w, f := (List.range 32).map fun i => w (31 + i), fcsr := w 63, pc := w 64, priv := w 65,
    sstatus := w 66, satp := w 67, va := w 68, cause := w 69 }

/-- A park frame that holds nothing. -/
def Dev.freeFrame (d : Dev) : Option Nat :=
  (List.range (d.nat Reg.R3801_PARK_FRAMES)).find? fun f => !d.sett.items.any fun i => i.frame = some f

/-- An item parked, its context back after its ASK, and the map request submitted. (DEDUCED, log 85, unsafe.) -/
def Dev.park (d : Dev) (i : Item) (c : HartContext) (f : Nat) : Dev :=
  let asid := c.satp / 2 ^ 44 % 65536
  let d := (d.unpoison (frameAt f) 576).memWrite (frameAt f) (parkFrame c)
  let d := d.modItem i.slot fun i =>
    { i with place := .parked, parks := i.parks + 1, frame := some f, vpn := c.va / 4096 % 2 ^ 27, asid, resumed := false }
  let d := (d.syncRecord i.slot).count Reg.R3801_PARKS
  let d := d.modHart i.hart fun x => { x with ctx := { c with pc := x.after }, answer := 0 }
  let d := d.settCode Code.RETRY_AFTER_MAP i.slot
  let func := d.nat Reg.R3801_MAP_FUNC
  d.when (func != 0) fun d =>
    (d.submitDesc (mkDesc func (d.nat Reg.R3801_MAP_FLOW) (d.nat Reg.R3801_MAP_PRIO) 0 0 0xFFFFFFFF
      (leBytes 8 c.va ++ leBytes 2 asid))).2

/-- PAGE_FAULT (R271, R279, R281, R287): a fault on a hart with the context `c` at the faulting instruction. -/
def Dev.pageFault (d : Dev) (h : Nat) (c : HartContext) : Dev :=
  let trap (d : Dev) : Dev := d.trap h c.cause c.va c
  match d.serving h with
  | none => trap d
  | some i =>
    if i.tick then d.abortTick i 3 (some c)
    else if !d.flag Reg.R3801_PARK_EN || c.priv == 3 || (i.func : Nat) == d.nat Reg.R3801_MAP_FUNC then trap d
    else if d.nat Reg.R3801_PARK_MAX ≤ i.parks then trap (d.completeCode i.slot Code.PAGE_UNMAPPABLE)
    else
      match d.freeFrame with
      | some f => d.park i c f
      | none =>
        let d := d.when (!d.sett.fullEp) fun d => (d.settCode Code.PARK_FULL i.slot).count Reg.R3801_PARK_FULL_COUNT
        trap (d.setSett fun s => { s with fullEp := true })

/-- The items parked on a page of an address space. -/
def Dev.parkedOn (d : Dev) (vpn asid : Nat) : List Item :=
  d.sett.items.filter fun i => i.place = .parked && i.vpn = vpn && i.asid = asid

/-- An item requeued at the head of its priority. -/
def Dev.toHead (d : Dev) (slot : Nat) (f : Item → Item) : Dev :=
  let n := d.sett.head + 1
  ((d.setSett fun s => { s with head := n }).modItem slot fun i => f { i with place := .queued, front := n }).syncRecord slot

/-- The items of a MAP_DONE requeued, each delivered with RESUMED set from now on; the one submitted first goes first.
(DEDUCED, log 85, unsafe.) -/
def Dev.requeueMapped (d : Dev) (vpn asid : Nat) : Dev :=
  each (d.parkedOn vpn asid).reverse (fun i d =>
    d.toHead i.slot fun i => { i with resumed := true, since := d.rawNow }) d

/-- The items of a MAP_FAIL completed (R280). -/
def Dev.failMapped (d : Dev) (vpn asid : Nat) : Dev :=
  each (d.parkedOn vpn asid) (fun i d => d.completeCode i.slot Code.PAGE_UNMAPPABLE) d

/-- A store of a token with RESUMED set to RESUME (R280): the frame is loaded and free again. (DEDUCED, log 85, unsafe.) -/
def Dev.resume (d : Dev) (h value : Nat) : Dev :=
  match d.serving h with
  | some i =>
    match i.frame with
    | some f =>
      if h % 2 = 1 ∧ i.resumed = true ∧ value = i.token then
        let d := d.modHart h fun x => { x with ctx := { contextOf (d.memRead (frameAt f) 576) with csr := x.ctx.csr } }
        let d := d.modItem i.slot fun i => { i with frame := none }
        d.setSett fun s => { s with fullEp := false }
      else d
    | none => d
  | none => d

/-! ## Replay (R275) -/

/-- An unfinished item that lost its context: a journaled item is requeued at the head of its priority, any other completes
with ITEM_LOST. (DEDUCED, log 85, unsafe.) -/
def Dev.replayItem (d : Dev) (i : Item) : Dev :=
  if i.record.isSome then
    let d := (d.settCode Code.ITEM_REPLAYED i.slot).count Reg.R3802_REPLAYED
    let d := d.setSett fun s => { s with fullEp := if i.frame.isSome then false else s.fullEp }
    d.toHead i.slot fun i => { i with due := true, resumed := false, frame := none }
  else (d.count Reg.R3802_LOST).completeCode i.slot Code.ITEM_LOST

/-- A core out of service (R271, R273, R275): its tick-class item ends with reason 5, its item in service is replayed or lost,
its prefetched item goes back to the head of its priority; its harts ask no more. -/
def Dev.coreOut (d : Dev) (k : Nat) : Dev :=
  let d := match d.serving (2 * k) with
    | some i => d.abortTick i 5 none
    | none => d
  let d := match d.serving (2 * k + 1) with
    | some i => d.replayItem i
    | none => d
  let d := match d.prefetched (2 * k + 1) with
    | some i => d.toHead i.slot id
    | none => d
  each [2 * k, 2 * k + 1] (fun h d => d.modHart h fun x => { x with asked := none }) d

/-- What an uncorrectable error struck. -/
abbrev CoreError.core : Nat := 0
abbrev CoreError.tick : Nat := 1
abbrev CoreError.background : Nat := 2
abbrev CoreError.frame : Nat := 3

/-- CORE_LOSS (R275): an uncorrectable error of core `k` (what 0), which takes no item from then on, of its tick context (1) or
background context (2), or of park frame `k` (3); `c` is the interrupted context. -/
def Dev.coreLoss (d : Dev) (what k : Nat) (c : HartContext) : Dev :=
  if what = CoreError.core then
    (d.coreOut k).setSett fun s => { s with leaving := mset none s.leaving k (some d.rawNow) }
  else if what = CoreError.tick then
    match d.serving (2 * k) with
    | some i => d.abortTick i 4 (some c)
    | none => d
  else if what = CoreError.background then
    match d.serving (2 * k + 1) with
    | some i =>
      ((d.abortTrap (2 * k + 1) i.token c).modHart (2 * k + 1) fun x => { x with abort := 4 }).replayItem i
    | none => d
  else
    match d.sett.items.find? fun i => i.frame = some k with
    | some i =>
      let d := d.when (i.place = .service) fun d =>
        (d.abortTrap i.hart i.token c).modHart i.hart fun x => { x with abort := 4 }
      d.replayItem i
    | none => d

/-- RETIRE_GRACE_EXPIRY (R275): RETIRE_GRACE_MS after a retiring core stopped taking items. (DEDUCED, log 92, safe.) -/
def Dev.retireGrace (d : Dev) (k : Nat) : Dev :=
  match mget none d.sett.leaving k with
  | none => d
  | some t =>
    if d.rawNow < t + 1000000 * d.nat Reg.R3800_RETIRE_GRACE_MS then d
    else
      match d.serving (2 * k + 1) with
      | some i => d.replayItem i
      | none => d

/-! ## The cores' own exceptions and barriers -/

/-- sfence.vma (R278): the translations of its own hart that it had before are gone. -/
def Dev.sfence (d : Dev) (h : Nat) : Dev := d.modHart h fun x => { x with sfenceAt := some d.rawNow }

/-- fence.i (R252): instructions written before it are seen by the hart. -/
def Dev.fenceI (d : Dev) (h : Nat) : Dev := d.modHart h fun x => { x with fenceIAt := some d.rawNow }

/-- What an access may break (R253, R259): none, misalignment, or an access fault. -/
inductive Breach
  | none | misaligned | access
deriving DecidableEq, Repr

/-- The kinds of an access: a fetch, a load, a store, an AMO or LR/SC. -/
abbrev Access.fetch : Nat := 0
abbrev Access.load : Nat := 1
abbrev Access.store : Nat := 2
abbrev Access.amo : Nat := 3

/-- The range of PMP entry `i` with its granularity of 4 KB, where the entry is on. (PRESUMED, log 87, unsafe.) -/
def pmpRange (m : HartCsr) (i : Nat) : Option (Nat × Nat) :=
  let a := m.pmpaddr.getD i 0
  match m.pmpcfg.getD i 0 / 8 % 4 with
  | 1 => some (if i = 0 then 0 else m.pmpaddr.getD (i - 1) 0 / 1024 * 4096, a / 1024 * 4096)
  | 3 =>
    let t := ((List.range 54).find? fun k => !(a ||| 0x1FF).testBit k).getD 54
    let n := 2 ^ (t + 3)
    some (4 * a / n * n, 4 * a / n * n + n)
  | _ => none

/-- Whether the PMP entries allow an access: the first entry that meets it decides, and has to cover it; without one, M mode is
allowed (R250). (PRESUMED, log 87, unsafe.) -/
def pmpAllows (m : HartCsr) (priv kind addr size : Nat) : Bool :=
  let meets (i : Nat) : Bool := match pmpRange m i with
    | some (lo, hi) => decide (addr < hi ∧ lo < addr + size)
    | none => false
  match (List.range 16).find? meets with
  | none => priv == 3
  | some i =>
    let cfg := m.pmpcfg.getD i 0
    let whole : Bool := match pmpRange m i with
      | some (lo, hi) => decide (lo ≤ addr ∧ addr + size ≤ hi)
      | none => false
    let right : Bool := if kind = Access.fetch then cfg.testBit 2 else if kind = Access.load then cfg.testBit 0
      else if kind = Access.store then cfg.testBit 1 else cfg.testBit 0 && cfg.testBit 1
    whole && (right || (priv == 3 && !cfg.testBit 7))

/-- What an access of a hart to a physical address breaks of the region attributes (R253, R259, R512). (DEDUCED, log 86, safe.) -/
def accessBreach (h priv kind addr size : Nat) : Breach :=
  let aligned := decide (addr % max 1 size = 0)
  if 2 ^ 40 ≤ addr then .access
  else
    match regionOf addr with
    | .memory => if aligned then .none else if kind = Access.amo ∨ addr % 64 + size > 64 then .misaligned else .none
    | .rom =>
      if priv ≠ 3 ∨ kind = Access.store ∨ kind = Access.amo then .access
      else if aligned ∨ addr % 64 + size ≤ 64 then .none else .misaligned
    | .window | .rings => if kind = Access.amo ∨ !aligned then .access else .none
    | .engine => if kind = Access.amo ∨ !aligned ∨ (aeCell addr).isNone then .access else .none
    | .ports =>
      if kind = Access.fetch ∨ kind = Access.amo ∨ addr % 8 ≠ 0 ∨ size ≠ 8 ∨ (addr - 0x0050000000) / 4096 ≠ h / 2 then .access
      else .none
    | .reserve | .none => .access

/-- The cause of an access fault or a misaligned access by its kind (instruction, load, store or AMO). -/
def breachCause (b : Breach) (kind : Nat) : Nat :=
  (if b = .misaligned then 0 else 1) + (if kind = 0 then 0 else if kind = 1 then 4 else 6)

/-- ACCESS_FAULT: an access that the region attributes or the PMP entries do not allow, a load of a poisoned word of an engine, or a
store that an engine refuses and raises (R221, R226). -/
def Dev.accessFault (d : Dev) (h kind addr size : Nat) (c : HartContext) : Dev :=
  let b := if pmpAllows c.csr c.priv kind addr size then accessBreach h c.priv kind addr size else .access
  if b ≠ .none then d.trap h (breachCause b kind) c.va c
  else
    match aeCell addr with
    | none => d
    | some (e, sub, _) =>
      let code := d.aeWriteRefusal e sub
      if kind = Access.store then
        if code = Code.STATUS_OK then d
        else (d.raise code Kind.unit (48 + e)).trap h (breachCause .access kind) c.va c
      else if (d.ae e).poisoned (addr % 0x800000) then d.trap h (breachCause .access kind) c.va c
      else d

/-- ILLEGAL_INSTRUCTION (R250): cause 2. (PRESUMED, log 87, unsafe.) -/
def Dev.illegalInstruction (d : Dev) (h : Nat) (c : HartContext) (tval : Nat) : Dev := d.trap h 2 tval c

/-- PLIC_CLAIM (R46); an analysis engine's source stays pending while a masked SIGNAL bit is set (R245).
(DEDUCED, log 88, safe.) -/
def Dev.plicClaim (d : Dev) (src : Nat) : Dev :=
  let e := src - 80
  if 80 ≤ src ∧ e < 2 ∧ d.nat (Reg.R3510_SIGNAL e) &&& d.nat (Reg.R3510_SIG_MASK e) ≠ 0 then d
  else { d with plic := d.plic.filter (· != src) }

/-! ## What is sampled at the SI of T0 (R288) -/

/-- Sixteen numbers of `w` bytes. -/
def sixteen (w : Nat) (f : Nat → Nat) : Bytes := (List.range 16).flatMap fun i => leBytes w (min (f i) (256 ^ w - 1))

/-- Whether an item waits for its flow. (DEDUCED, log 91, safe.) -/
def Dev.heldByFlow (d : Dev) (i : Item) : Bool :=
  i.flow != 0 && d.sett.items.any fun j => !j.tick && j.slot != i.slot && j.flow = i.flow &&
    (j.place != .queued || decide (j.seq < i.seq))

/-- What the dispatcher samples once a cycle (R288). (DEDUCED, log 91, safe.) -/
def Dev.sampleSett (d : Dev) : Dev :=
  let queued := d.sett.items.filter fun i => !i.tick && i.place = .queued
  let window := d.nat Reg.R3880_WAIT_WINDOW
  let d := d.setSett fun s =>
    { s with waits := mmap [] s.waits fun _ l => l.filter fun w => decide (d.clk.cycle64 < w.1 + window + 1) }
  let waits (p : Nat) : List Nat := (mget [] d.sett.waits p).map Prod.snd
  let d := d.setBytes Reg.R3880_DEPTH (sixteen 2 fun p => (queued.filter fun i => i.prio = p).length)
  let d := d.set Reg.R3880_HELD_FLOW (queued.filter d.heldByFlow).length
  let d := d.set Reg.R3880_HELD_FENCE (queued.filter fun i => d.behindFence i).length
  let d := d.setBytes Reg.R3880_FENCES (sixteen 2 fun m =>
    (d.sett.items.filter fun i => !i.tick && i.fence && i.domain = m && d.earlier i).length)
  let d := d.setBytes Reg.R3880_WAIT_MAX_NS (sixteen 4 fun p => (waits p).foldl max 0)
  let d := d.setBytes Reg.R3880_WAIT_MEAN_NS (sixteen 4 fun p => (waits p).sum / max 1 (waits p).length)
  iterate 24 (fun k d =>
    let d := d.reckon k
    let close (h : Nat) (d : Dev) : Dev :=
      d.setSett fun s => { s with harts := mset {} s.harts h (let x := mget {} s.harts h
        { x with busy := 0, loads := (x.loads ++ [x.busy]).drop (x.loads.length + 1 - 4000) }) }
    let d := close (2 * k + 1) (close (2 * k) d)
    let load (h : Nat) : Nat := min 65535 ((d.hart h).loads.sum * 65536 / (4000 * 250000))
    (d.set (Reg.R3840_TICK_LOAD k) (load (2 * k))).set (Reg.R3840_BG_LOAD k) (load (2 * k + 1))) d

end Sys2Proof.Machine
end

