-- ==== Sys2Proof/Machine/Dma.lean ====
section
/-! DEFINITION. The DMA channels and the IOMMU (R278, R282 to R286, R297). -/

namespace Sys2Proof.Machine

/-! ## Translation (R278, R282, R283) -/

/-- Why a translation fails: a page fault or an access fault. -/
inductive WalkFault
  | page | access
deriving DecidableEq, Repr

/-- The leaf entry of a page number with its level: Sv39, from the table at `ppn`, `level` down to 0.
(DEDUCED, log 89, unsafe.) -/
def Dev.walk (d : Dev) (level ppn vpn : Nat) : Except WalkFault (Nat × Nat) :=
  let pa := ppn * 4096 + vpn / 512 ^ level % 512 * 8
  if 2 ^ 40 ≤ pa ∨ inMemory pa 8 = false ∨ d.health.poisoned.contains pa = true then .error .access
  else
    let pte := leNat (d.memRead pa 8)
    let v := pte.testBit 0
    let r := pte.testBit 1
    let w := pte.testBit 2
    let x := pte.testBit 3
    if !v || (!r && w) || decide (2 ^ 54 ≤ pte) then .error .page
    else if r || x then
      let ppn' := pte / 2 ^ 10 % 2 ^ 44
      if ppn' % 512 ^ level ≠ 0 then .error .page
      else if 2 ^ 28 ≤ ppn' then .error .access
      else .ok (pte, level)
    else
      match level with
      | 0 => .error .page
      | l + 1 => if pte / 16 % 16 &&& 13 ≠ 0 then .error .page else d.walk l (pte / 2 ^ 10 % 2 ^ 44) vpn

/-- The physical address of a virtual one under IO_SATP for a read or a write, from the cached translations or by a walk,
which is cached then. U and X play no part. (DESIGN CHOICE, log 90, safe.) -/
def Dev.ioTranslate (d : Dev) (satp va : Nat) (write : Bool) : Except WalkFault Nat × Dev :=
  let vpn := va / 4096 % 2 ^ 27
  let asid := satp / 2 ^ 44 % 2 ^ 16
  let sign := if va.testBit 38 then 2 ^ 25 - 1 else 0
  let use (pte level : Nat) : Except WalkFault Nat :=
    if (if write then pte.testBit 2 && pte.testBit 7 else pte.testBit 1) && pte.testBit 6 then
      .ok ((pte / 2 ^ 10 % 2 ^ 44 + vpn % 512 ^ level) * 4096 + va % 4096)
    else .error .page
  if va / 2 ^ 39 ≠ sign then (.error .page, d)
  else
    match d.dma.iotlb.find? fun e => e.1 = asid && e.2.1 = vpn with
    | some e => (use e.2.2.1 e.2.2.2, d)
    | none =>
      match d.walk 2 (satp % 2 ^ 44) vpn with
      | .error f => (.error f, d)
      | .ok (pte, level) =>
        let (n, d) := if d.dma.iotlb.length < 1024 then (0, d) else d.takeFresh
        let l := if d.dma.iotlb.length < 1024 then d.dma.iotlb else d.dma.iotlb.eraseIdx (Config.iotlbVictim n % 1024)
        (use pte level, { d with dma := { d.dma with iotlb := l ++ [(asid, vpn, pte, level)] } })

/-- A write of IOTLB_INVAL (R283). -/
def Dev.iotlbInval (d : Dev) (value : Nat) : Dev :=
  let vpn := value / 4096 % 2 ^ 27
  let asid := value / 2 ^ 44 % 2 ^ 16
  let keep (e : Nat × Nat × Nat × Nat) : Bool :=
    !(value.testBit 1 || (e.1 == asid && (value.testBit 0 || e.2.1 == vpn)))
  { d with dma := { d.dma with iotlb := d.dma.iotlb.filter keep } }

/-! ## Channels (R284, R285) -/

/-- The states of a channel (R297). -/
abbrev DmaState.idle : Nat := 0
abbrev DmaState.running : Nat := 1
abbrev DmaState.faulted : Nat := 2
abbrev DmaState.stopped : Nat := 3
abbrev DmaState.done : Nat := 4

/-- Bytes of its descriptor a channel has copied. -/
def Dev.dmaOff (d : Dev) (ch : Nat) : Nat := mget 0 d.dma.offs ch
def Dev.setDmaOff (d : Dev) (ch off : Nat) : Dev := { d with dma := { d.dma with offs := mset 0 d.dma.offs ch off } }

/-- A channel stops in FAULTED (R285). -/
def Dev.dmaFaulted (d : Dev) (ch va cause : Nat) : Dev :=
  let d := (d.set (Reg.R3920_STATE ch) DmaState.faulted).set (Reg.R3920_FAULT_OFFSET ch) (d.dmaOff ch)
  let d := (d.set (Reg.R3920_FAULT_VA ch) va).set (Reg.R3920_FAULT_CAUSE ch) cause
  let d := d.settCode (if cause = 6 then Code.DMA_DESC_INVALID else Code.DMA_FAULT) ch
  (d.count Reg.R3900_FAULTS).raisePlic (96 + ch)

/-- FAULT_CAUSE of a failed translation that is not an access fault's. -/
def walkCause (f : WalkFault) (cause : Nat) : Nat := if f = .access then 4 else cause

/-- A descriptor that may be carried out (R284). -/
def dmaDescOk (x : Bytes) : Bool :=
  fieldLE x 16 4 != 0 && decide (fieldLE x 20 4 < 8) && ((fieldLE x 20 4).testBit 0 || fieldLE x 24 8 % 32 == 0)

/-- The descriptor a channel is on, or the channel stopped for want of it. -/
def Dev.dmaDesc (d : Dev) (ch : Nat) : Option Bytes × Dev :=
  let va := d.nat (Reg.R3920_CUR_DESC ch)
  match d.ioTranslate (d.nat (Reg.R3920_IO_SATP ch)) va false with
  | (.error f, d) => (none, d.dmaFaulted ch va (walkCause f 3))
  | (.ok pa, d) =>
    let x := d.memRead pa 32
    if !inMemory pa 32 then (none, d.dmaFaulted ch va 4)
    else if (List.range 4).any fun i => d.health.poisoned.contains (pa / 8 * 8 + 8 * i) then (none, d.dmaFaulted ch va 5)
    else if dmaDescOk x then (some x, d) else (none, d.dmaFaulted ch va 6)

/-- A channel set running on a descriptor, which is fetched at once. -/
def Dev.dmaBegin (d : Dev) (ch desc off : Nat) : Dev :=
  let d := ((d.set (Reg.R3920_STATE ch) DmaState.running).set (Reg.R3920_CUR_DESC ch) desc).setDmaOff ch off
  (d.dmaDesc ch).2

/-- A byte read for a channel, or the cause of its fault: an access fault or uncorrectable data. -/
def Dev.dmaByte (d : Dev) (pa : Nat) : Except Nat Byte × Dev :=
  if d.health.poisoned.contains (pa / 8 * 8) then (.error 5, d)
  else
    match d.fabricRead pa with
    | (some b, d) => (.ok b, d)
    | (none, d) => (.error (if (aeCell pa).isSome then 5 else 4), d)

/-- A byte written for a channel, and whether it was taken; `whole` says that the bytes before it in its word were written too, so
that its last one ends a poisoned word (R509). -/
def Dev.dmaPut (d : Dev) (pb : Nat) (b : Byte) (whole : Bool) : Bool × Dev :=
  match aeCell pb with
  | some (e, sub, o) =>
    let (ok, d) := d.aePut e sub o b
    let word := pb % 0x800000 / 8 * 8
    (ok, d.when (ok && whole && pb % 8 == 7) fun d => d.setAe e { d.ae e with bad := (d.ae e).bad.filter (· != word) })
  | none =>
    if regionOf pb = .memory then
      (true, (d.when (whole && pb % 8 == 7) fun d => d.unpoison (pb - 7) 8).coreWrite pb [b])
    else (false, d)

/-- Bytes copied in ascending order from the channel's offset on, `n` of them at most; stops in FAULTED at the first byte
that cannot be read or written. -/
def Dev.dmaCopy (d : Dev) (ch : Nat) (x : Bytes) (n : Nat) : Dev :=
  match n with
  | 0 => d
  | n + 1 =>
    let satp := d.nat (Reg.R3920_IO_SATP ch)
    let off := d.dmaOff ch
    let src := (fieldLE x 0 8 + off) % 2 ^ 64
    let dst := (fieldLE x 8 8 + off) % 2 ^ 64
    match d.ioTranslate satp src false with
    | (.error f, d) => d.dmaFaulted ch src (walkCause f 1)
    | (.ok pa, d) =>
      match d.ioTranslate satp dst true with
      | (.error f, d) => d.dmaFaulted ch dst (walkCause f 2)
      | (.ok pb, d) =>
        match d.dmaByte pa with
        | (.error cause, d) => d.dmaFaulted ch src cause
        | (.ok b, d) =>
          match d.dmaPut pb b (decide (7 ≤ off)) with
          | (false, d) => d.dmaFaulted ch dst 4
          | (true, d) =>
            let d := d.setDmaOff ch (off + 1)
            Dev.dmaCopy (d.set (Reg.R3920_BYTES ch) (d.reg (Reg.R3920_BYTES ch) + 1)) ch x n

/-- A running channel copies up to byte `stop` of its descriptor (none: all of it). -/
def Dev.dmaRun (d : Dev) (ch : Nat) (stop : Option Nat) : Option Bytes × Dev :=
  if d.nat (Reg.R3920_STATE ch) ≠ DmaState.running then (none, d)
  else
    match d.dmaDesc ch with
    | (none, d) => (none, d)
    | (some x, d) =>
      let len := fieldLE x 16 4
      let d := d.dmaCopy ch x (min (stop.getD len) len - d.dmaOff ch)
      if d.nat (Reg.R3920_STATE ch) = DmaState.running then (some x, d) else (none, d)

/-! ## Commands -/

/-- CONTROL 1 START: the chain from DESC_PTR. A running channel refuses it. (DEDUCED, log 89, unsafe.) -/
def Dev.dmaStart (d : Dev) (ch : Nat) : Dev :=
  if d.nat (Reg.R3920_STATE ch) = DmaState.running then d.finish Code.OD_STATE
  else ((d.set (Reg.R3920_BYTES ch) 0).dmaBegin ch (d.nat (Reg.R3920_DESC_PTR ch)) 0).finish Code.STATUS_OK

/-- The same descriptor from FAULT_OFFSET, with fresh translations (R285). (DEDUCED, log 89, unsafe.) -/
def Dev.dmaGoOn (d : Dev) (ch : Nat) : Dev :=
  let asid := d.nat (Reg.R3920_IO_SATP ch) / 2 ^ 44 % 2 ^ 16
  let d := { d with dma := { d.dma with iotlb := d.dma.iotlb.filter fun e => e.1 != asid } }
  d.dmaBegin ch (d.nat (Reg.R3920_CUR_DESC ch)) (d.nat (Reg.R3920_FAULT_OFFSET ch))

/-- CONTROL 2 RESUME: a faulted or stopped channel. -/
def Dev.dmaResume (d : Dev) (ch : Nat) : Dev :=
  let st := d.nat (Reg.R3920_STATE ch)
  if st = DmaState.faulted ∨ st = DmaState.stopped then (d.dmaGoOn ch).finish Code.STATUS_OK else d.finish Code.OD_STATE

/-- CONTROL 3 STOP: after byte `stop` of the descriptor. -/
def Dev.dmaStop (d : Dev) (ch stop : Nat) : Dev :=
  match d.dmaRun ch (some stop) with
  | (some _, d) =>
    ((d.set (Reg.R3920_STATE ch) DmaState.stopped).set (Reg.R3920_FAULT_OFFSET ch) (d.dmaOff ch)).finish Code.STATUS_OK
  | (none, d) => d.finish Code.STATUS_OK

/-- CONTROL 4 ABANDON. -/
def Dev.dmaAbandon (d : Dev) (ch : Nat) : Dev :=
  ((d.set (Reg.R3920_STATE ch) DmaState.idle).setDmaOff ch 0).finish Code.STATUS_OK

/-- DMA_DESCRIPTOR_COMPLETE: the channel carries its descriptor through and goes on (R284, R286). -/
def Dev.dmaComplete (d : Dev) (ch : Nat) : Dev :=
  match d.dmaRun ch none with
  | (none, d) => d
  | (some x, d) =>
    let ctrl := fieldLE x 20 4
    let d := d.when (ctrl.testBit 1) fun d => d.raisePlic (96 + ch)
    let d := d.when (ctrl.testBit 2) fun d =>
      let desc := patch (d.bytes (Reg.R3920_DONE_ITEM ch)) 20 (leBytes 8 (d.nat (Reg.R3920_CUR_DESC ch)) ++ leBytes 4 ch)
      let ((code, _), d) := d.submitDesc desc
      d.when (code != Code.STATUS_OK && code != Code.SETT_FULL) fun d => d.settCode Code.SETT_FULL 0
    if ctrl.testBit 0 then d.set (Reg.R3920_STATE ch) DmaState.done else d.dmaBegin ch (fieldLE x 24 8) 0

/-- DMA_FAULT: byte `off` of the descriptor cannot be read or written, for a cause the memory shows (an access fault or
uncorrectable data); a translation that fails before it stops the channel there. (DEDUCED, log 89, unsafe.) -/
def Dev.dmaFault (d : Dev) (ch off cause : Nat) (write : Bool) : Dev :=
  match d.dmaRun ch (some off) with
  | (none, d) => d
  | (some x, d) => d.dmaFaulted ch ((fieldLE x (if write then 8 else 0) 8 + d.dmaOff ch) % 2 ^ 64) cause

/-! ## The mapper's reports (R280, R285, R287) -/

/-- MAP_DONE: the items parked on the page are requeued and the channels waiting for it go on. -/
def Dev.mapDone (d : Dev) (value : Nat) : Dev :=
  let vpn := value / 4096 % 2 ^ 27
  let asid := value / 2 ^ 44 % 2 ^ 16
  iterate 32 (fun ch d =>
    d.when (d.nat (Reg.R3920_STATE ch) == DmaState.faulted && d.flag (Reg.R3920_RESUME_ON_MAP ch) &&
        d.nat (Reg.R3920_FAULT_VA ch) / 4096 % 2 ^ 27 == vpn &&
        d.nat (Reg.R3920_IO_SATP ch) / 2 ^ 44 % 2 ^ 16 == asid) fun d => d.dmaGoOn ch) (d.requeueMapped vpn asid)

/-- MAP_FAIL: the items parked on the page complete with PAGE_UNMAPPABLE; channels stay FAULTED. -/
def Dev.mapFail (d : Dev) (value : Nat) : Dev := d.failMapped (value / 4096 % 2 ^ 27) (value / 2 ^ 44 % 2 ^ 16)

end Sys2Proof.Machine
end

