-- ==== Sys2Proof/Machine/AeIsa.lean ====
section
/-! DEFINITION. The 48 instructions of the analysis engines (R228 to R242), one definition each: what the engine's next
instruction does when it is that one. -/

namespace Sys2Proof.Machine

/-! ## Operand fields -/

abbrev fd (w : Nat) : Nat := bits w 22 19
abbrev fs (w : Nat) : Nat := bits w 18 15
abbrev ft (w : Nat) : Nat := bits w 14 11
abbrev fty (w : Nat) : Nat := bits w 10 9

/-- Every lane of one register through `f`, saturation setting SAT; TY 3 is illegal. -/
def lanes1 (f : Int → Int) (w : Nat) (x : Ae) : AeStep :=
  let ty := fty w
  if ty = 3 then .error Code.AE_ILLEGAL
  else
    let rs := (getLanes ty (x.D (fs w))).map fun a => laneStore ty (f a)
    .ok ((x.setD (fd w) (putLanes ty (rs.map (·.1)))).sticky 0 (rs.any (·.2)))

/-- Every lane of two registers through `f`. -/
def bothLanes (f : Int → Int → Int) (w : Nat) (x : Ae) : AeStep :=
  let ty := fty w
  if ty = 3 then .error Code.AE_ILLEGAL
  else
    let rs := List.zipWith (fun a b => laneStore ty (f a b)) (getLanes ty (x.D (fs w))) (getLanes ty (x.D (ft w)))
    .ok ((x.setD (fd w) (putLanes ty (rs.map (·.1)))).sticky 0 (rs.any (·.2)))

/-- The amount of a shift: IMM6, the low bits of Dt, or EXP; SRC 3 is illegal (R237). -/
def shiftBy (w : Nat) (x : Ae) : Option Nat :=
  match bits w 2 1 with
  | 0 => some (bits w 8 3)
  | 1 => some (x.D (ft w) % 64)
  | 2 => some x.exp
  | _ => none

/-- A shift of every lane; TY 3 and SRC 3 are illegal. -/
def shiftLanes (f : Nat → Nat → Int → Int × Bool) (w : Nat) (x : Ae) : AeStep :=
  let ty := fty w
  match shiftBy w x with
  | none => .error Code.AE_ILLEGAL
  | some n =>
    if ty = 3 then .error Code.AE_ILLEGAL
    else
      let rs := (getLanes ty (x.D (fs w))).map (f ty n)
      .ok ((x.setD (fd w) (putLanes ty (rs.map (·.1)))).sticky 0 (rs.any (·.2)))

/-- A memory operand used: AM 2 asks for a power of two (R235). -/
def Ae.operand (x : Ae) (p am : Nat) : AeStep :=
  if am = 2 ∧ x.revOk p = false then .error Code.AE_ADDR_MODE else .ok (x.usePtr p)

/-! ## Moves and memory -/

def Dev.aeNop (d : Dev) (e : Nat) : Dev := d.aeData e 0x00 fun _ x => .ok x

def Dev.aeLd (d : Dev) (e : Nat) : Dev :=
  d.aeData e 0x01 fun w x => do
    let p := bits w 18 16; let am := bits w 14 13
    let x ← x.operand p am
    let v ← x.load (bits w 15 15) (x.addr p)
    .ok ((x.setD (fd w) v).step p am)

def Dev.aeSt (d : Dev) (e : Nat) : Dev :=
  d.aeData e 0x02 fun w x => do
    let p := bits w 18 16; let am := bits w 14 13
    let x ← x.operand p am
    .ok ((x.setMem (bits w 15 15) (x.addr p) (x.D (fd w))).step p am)

/-- LDXY; one pointer for both memories is updated twice. (DEDUCED, log 80, unsafe.) -/
def Dev.aeLdxy (d : Dev) (e : Nat) : Dev :=
  d.aeData e 0x03 fun w x => do
    let px := bits w 18 16; let ax := bits w 15 14; let py := bits w 9 7; let ay := bits w 6 5
    let x ← x.operand px ax
    let x ← x.operand py ay
    let vx ← x.load 0 (x.addr px)
    let vy ← x.load 1 (x.addr py)
    .ok ((((x.setD (fd w) vx).setD (bits w 13 10) vy).step px ax).step py ay)

/-- R236. -/
def Dev.aeFtap (d : Dev) (e : Nat) : Dev :=
  d.aeData e 0x04 fun w x => do
    let n := bits w 22 21; let px := bits w 20 18; let ax := bits w 17 16; let py := bits w 15 13; let ay := bits w 12 11
    let x ← x.operand px ax
    let x ← x.operand py ay
    let vx ← x.load 0 (x.addr px)
    let vy ← x.load 1 (x.addr py)
    let prod := (cplx32 vx).2 * (cplx32 vy).2
    let x := x.setA n (if w.testBit 10 then x.A n - prod else x.A n + prod)
    let l := mget 0 x.l px
    let nxt := (mget 0 x.b px + (mget 0 x.p px + 1) % (if l = 0 then 32768 else l)) % 32768
    .ok (((x.setMem 0 nxt vx).step px ax).step py ay)

def Dev.aeLdi (d : Dev) (e : Nat) : Dev :=
  d.aeData e 0x05 fun w x =>
    let k := bits w 18 17; let imm := bits w 15 0
    let v : Int := if w.testBit 16 then wrapBits 16 (imm : Int) else imm
    .ok (x.setD (fd w) (toU 64 (v * 2 ^ (16 * k))))

/-- MOV of a register; its TY is a lane type all the same, and 3 is illegal (R228, R237). -/
def Dev.aeMov (d : Dev) (e : Nat) : Dev :=
  d.aeData e 0x08 fun w x => if fty w = 3 then .error Code.AE_ILLEGAL else .ok (x.setD (fd w) (x.D (fs w)))

/-- The 6-bit signed field SH. -/
def shField (w : Nat) : Int := wrapBits 6 (bits w 13 8 : Nat)

/-- The accumulators an MVA reads. -/
def mvaReads (w : Nat) : Nat :=
  let n := bits w 18 17
  if bits w 16 15 = 1 ∨ bits w 16 15 = 2 then 2 ^ n + 2 ^ (n + 1) else 2 ^ n

/-- R231, A to D. -/
def Dev.aeMva (d : Dev) (e : Nat) : Dev :=
  d.aeRun e 0x09 mvaReads 1 fun w x =>
    let n := bits w 18 17; let sh := shField w; let i := fd w
    match bits w 16 15 with
    | 0 =>
      let (v, s) := narrowBy 32 (31 + sh) (x.A n)
      let (re, im) := cplx32 (x.D i)
      .ok ((x.setD i (if w.testBit 14 then pack32 v im else pack32 re v)).sticky 0 s).next
    | 1 =>
      if n % 2 = 1 then .error Code.AE_ILLEGAL
      else
        let h0 := accHalves (x.A n); let h1 := accHalves (x.A (n + 1))
        let q := [h0.1, h0.2, h1.1, h1.2].map (narrowBy 16 (15 + sh))
        let g := fun k => (q.getD k (0, false)).1
        .ok ((x.setD i (pack16 (g 2) (g 3) * 2 ^ 32 + pack16 (g 0) (g 1))).sticky 0 (q.any (·.2))).next
    | 2 =>
      if n % 2 = 1 then .error Code.AE_ILLEGAL
      else
        let (re, s) := narrowBy 32 (31 + sh) (x.A n)
        let (im, t) := narrowBy 32 (31 + sh) (x.A (n + 1))
        .ok ((x.setD i (pack32 re im)).sticky 0 (s || t)).next
    | _ =>
      let (v, s) := narrowBy 64 sh (x.A n)
      .ok ((x.setD i (toU 64 v)).sticky 0 s).next

/-- R231, D to A. The field d names the data register that is read. -/
def Dev.aeMvda (d : Dev) (e : Nat) : Dev :=
  d.aeData e 0x0A fun w x =>
    let n := bits w 18 17; let v := x.D (fd w)
    match bits w 16 15 with
    | 0 => .ok (x.setA n ((if w.testBit 14 then (cplx32 v).1 else (cplx32 v).2) * 2 ^ 31))
    | 1 =>
      let (re, im) := cplx16 v (bits w 14 14)
      .ok (x.setHalves n (re * 2 ^ 15) (im * 2 ^ 15))
    | 2 =>
      if n % 2 = 1 then .error Code.AE_ILLEGAL
      else .ok ((x.setA n ((cplx32 v).1 * 2 ^ 31)).setA (n + 1) ((cplx32 v).2 * 2 ^ 31))
    | _ => .ok (x.setA n (wrapBits 64 (v : Int)))

def Dev.aeAreg (d : Dev) (e : Nat) : Dev :=
  d.aeData e 0x0B fun w x =>
    let spr := 8 * bits w 22 21 + bits w 20 18
    if sprWritable spr (bits w 15 0) then .ok (x.setSpr spr (bits w 15 0)) else .error Code.AE_ILLEGAL

def Dev.aeMvta (d : Dev) (e : Nat) : Dev :=
  d.aeData e 0x0C fun w x =>
    let spr := bits w 18 13; let v := x.D (fd w)
    if sprWritable spr v then .ok (x.setSpr spr v) else .error Code.AE_ILLEGAL

/-- MVFA; a read of CYCLE has this instruction's own cycle in it. (DEDUCED, log 40, unsafe.) -/
def Dev.aeMvfa (d : Dev) (e : Nat) : Dev :=
  d.aeData e 0x0D fun w x =>
    let spr := bits w 18 13
    if spr ≤ 37 then .ok (x.setD (fd w) (x.spr spr)) else .error Code.AE_ILLEGAL

/-- The complex lanes of a word changed by `f` on (re, im); only TY 1 and 2 are complex. -/
def cplxLanes (f : Int × Int → Int × Int) (w : Nat) (x : Ae) : AeStep :=
  let ty := fty w
  if ty = 0 ∨ ty = 3 then .error Code.AE_ILLEGAL
  else
    let ls := getLanes ty (x.D (fs w))
    let rs := (List.range (laneCount ty)).map fun k =>
      let r := f (ls.getD (2 * (k / 2) + 1) 0, ls.getD (2 * (k / 2)) 0)
      laneStore ty (if k % 2 = 1 then r.1 else r.2)
    .ok ((x.setD (fd w) (putLanes ty (rs.map (·.1)))).sticky 0 (rs.any (·.2)))

def Dev.aeConj (d : Dev) (e : Nat) : Dev := d.aeData e 0x0E (cplxLanes fun (re, im) => (re, -im))
def Dev.aeXch (d : Dev) (e : Nat) : Dev := d.aeData e 0x0F (cplxLanes fun (re, im) => (im, -re))

/-! ## The arithmetic group -/

def Dev.aeAdd (d : Dev) (e : Nat) : Dev := d.aeData e 0x10 (bothLanes fun a b => a + b)
def Dev.aeSub (d : Dev) (e : Nat) : Dev := d.aeData e 0x11 (bothLanes fun a b => a - b)
def Dev.aeNeg (d : Dev) (e : Nat) : Dev := d.aeData e 0x12 (lanes1 fun a => -a)
def Dev.aeAbs (d : Dev) (e : Nat) : Dev := d.aeData e 0x13 (lanes1 fun a => if a < 0 then -a else a)
def Dev.aeMax (d : Dev) (e : Nat) : Dev := d.aeData e 0x14 (bothLanes fun a b => if a < b then b else a)
def Dev.aeMin (d : Dev) (e : Nat) : Dev := d.aeData e 0x15 (bothLanes fun a b => if b < a then b else a)
def Dev.aeAnd (d : Dev) (e : Nat) : Dev := d.aeData e 0x16 fun w x => .ok (x.setD (fd w) (x.D (fs w) &&& x.D (ft w)))
def Dev.aeOr (d : Dev) (e : Nat) : Dev := d.aeData e 0x17 fun w x => .ok (x.setD (fd w) (x.D (fs w) ||| x.D (ft w)))
def Dev.aeXor (d : Dev) (e : Nat) : Dev := d.aeData e 0x18 fun w x => .ok (x.setD (fd w) (x.D (fs w) ^^^ x.D (ft w)))

def Dev.aeShl (d : Dev) (e : Nat) : Dev := d.aeData e 0x19 (shiftLanes fun ty n a => laneStore ty (a * 2 ^ n))
def Dev.aeShr (d : Dev) (e : Nat) : Dev :=
  d.aeData e 0x1A (shiftLanes fun ty n a => (((toU (laneWidth ty) a / 2 ^ n : Nat) : Int), false))
def Dev.aeSra (d : Dev) (e : Nat) : Dev :=
  d.aeData e 0x1B fun w x =>
    shiftLanes (fun _ n a => (if w.testBit 0 then shrConv a n else a.fdiv (2 ^ n), false)) w x

/-- A comparison by its code; codes 6 and 7 are given no meaning, their result is free. -/
def cmpCode (cc k : Nat) (a b : Int) : Bool :=
  match cc with
  | 0 => a == b | 1 => a != b | 2 => decide (a < b) | 3 => decide (a ≤ b) | 4 => decide (b < a) | 5 => decide (b ≤ a)
  | _ => Config.aeCompare k == 1

/-- A predicate written; C0 stays 1 (R227). -/
def Ae.setPred (x : Ae) (i : Nat) (b : Bool) : Ae := if i = 0 then x else { x with cr := withBit x.cr i b }

def Dev.aeCmp (d : Dev) (e : Nat) : Dev :=
  let (k, d) := d.takeFresh
  d.aeData e 0x1C fun w x =>
    if fty w = 3 then .error Code.AE_ILLEGAL
    else
      let rs := List.zipWith (cmpCode (bits w 8 6) k) (getLanes (fty w) (x.D (fs w))) (getLanes (fty w) (x.D (ft w)))
      .ok (x.setPred (bits w 22 21) (if w.testBit 5 then rs.all id else rs.any id))

/-- The redundant sign bits of a lane (R233). -/
def signBits (w : Nat) (a : Int) : Nat :=
  let m := if a < 0 then (-a - 1).toNat else a.toNat
  if m = 0 then w - 1 else w - 2 - m.log2

def Dev.aeBexp (d : Dev) (e : Nat) : Dev :=
  d.aeData e 0x1D fun w x =>
    if fty w = 3 then .error Code.AE_ILLEGAL
    else if w.testBit 8 then .ok { x with exp := 63 }
    else .ok { x with exp := ((getLanes (fty w) (x.D (fs w))).map (signBits (laneWidth (fty w)))).foldl min x.exp }

def Dev.aeAddsub (d : Dev) (e : Nat) : Dev :=
  d.aeData e 0x1E fun w x =>
    let ty := fty w; let i := fd w
    if ty = 3 ∨ i % 2 = 1 then .error Code.AE_ILLEGAL
    else
      let fin := fun v => if w.testBit 8 then narrowBy (laneWidth ty) 1 v else laneStore ty v
      let a := getLanes ty (x.D (fs w)); let b := getLanes ty (x.D (ft w))
      let p := List.zipWith (fun a b => fin (a + b)) a b
      let m := List.zipWith (fun a b => fin (a - b)) a b
      .ok (((x.setD i (putLanes ty (p.map (·.1)))).setD (i + 1) (putLanes ty (m.map (·.1)))).sticky 0
        (p.any (·.2) || m.any (·.2)))

def Dev.aePlog (d : Dev) (e : Nat) : Dev :=
  d.aeData e 0x1F fun w x =>
    let a := x.cr.testBit (bits w 20 19) != w.testBit 14
    let b := x.cr.testBit (bits w 18 17)
    let r := match bits w 16 15 with | 0 => a && b | 1 => a || b | 2 => a != b | _ => a && !b
    .ok (x.setPred (bits w 22 21) r)

/-! ## Products (R229, R232) -/

abbrev an (w : Nat) : Nat := bits w 22 21
abbrev as_ (w : Nat) : Nat := bits w 20 17
abbrev at_ (w : Nat) : Nat := bits w 16 13

/-- The product of the lanes LS and LT. -/
def laneProduct (w : Nat) (x : Ae) : Int :=
  let a := cplx32 (x.D (as_ w)); let b := cplx32 (x.D (at_ w))
  (if w.testBit 12 then a.1 else a.2) * (if w.testBit 11 then b.1 else b.2)

def Dev.aeMpy (d : Dev) (e : Nat) : Dev := d.aeData e 0x20 fun w x => .ok (x.setA (an w) (laneProduct w x))
def Dev.aeMac (d : Dev) (e : Nat) : Dev :=
  d.aeData e 0x21 fun w x => .ok (x.setA (an w) (x.A (an w) + laneProduct w x))
def Dev.aeMsu (d : Dev) (e : Nat) : Dev :=
  d.aeData e 0x22 fun w x => .ok (x.setA (an w) (x.A (an w) - laneProduct w x))

/-- The complex-32 product into an accumulator pair, accumulating or not. -/
def cplxAcc32 (acc : Bool) (w : Nat) (x : Ae) : AeStep :=
  let n := an w
  if n % 2 = 1 then .error Code.AE_ILLEGAL
  else
    let (re, im) := cmulExact (cplx32 (x.D (as_ w))) (cplx32 (x.D (at_ w))) (w.testBit 10)
    let r0 := if acc then x.A n else 0; let i0 := if acc then x.A (n + 1) else 0
    .ok ((x.setA n (r0 + re)).setA (n + 1) (i0 + im))

def Dev.aeCmpy32 (d : Dev) (e : Nat) : Dev := d.aeData e 0x23 (cplxAcc32 false)
def Dev.aeCmac32 (d : Dev) (e : Nat) : Dev := d.aeData e 0x24 (cplxAcc32 true)

/-- Element `k` of a register pair of complex Q1.15. -/
def Ae.elem16 (x : Ae) (i k : Nat) : Int × Int := cplx16 (x.D (i + k / 2)) (k % 2)

/-- The four complex-16 products into the halves of the accumulators. -/
def cplxAcc16 (acc : Bool) (w : Nat) (x : Ae) : AeStep :=
  if as_ w % 2 = 1 ∨ at_ w % 2 = 1 then .error Code.AE_ILLEGAL
  else
    .ok (iterate 4 (fun k y =>
      let (re, im) := cmulExact (x.elem16 (as_ w) k) (x.elem16 (at_ w) k) (w.testBit 10)
      let (r0, i0) := if acc then accHalves (y.A k) else (0, 0)
      y.setHalves k (r0 + re) (i0 + im)) x)

/-- CMPY16 and CMAC16; CJ conjugates as for the 32-bit forms. (DEDUCED, log 80, unsafe.) -/
def Dev.aeCmpy16 (d : Dev) (e : Nat) : Dev := d.aeData e 0x25 (cplxAcc16 false)
def Dev.aeCmac16 (d : Dev) (e : Nat) : Dev := d.aeData e 0x26 (cplxAcc16 true)

def Dev.aeCmul32 (d : Dev) (e : Nat) : Dev :=
  d.aeData e 0x27 fun w x =>
    let (re, im) := cmulExact (cplx32 (x.D (fs w))) (cplx32 (x.D (ft w))) (w.testBit 8)
    let (re, s) := narrowBy 32 31 re; let (im, t) := narrowBy 32 31 im
    .ok ((x.setD (fd w) (pack32 re im)).sticky 0 (s || t))

def Dev.aeCmul16 (d : Dev) (e : Nat) : Dev :=
  d.aeData e 0x28 fun w x =>
    if fd w % 2 = 1 ∨ fs w % 2 = 1 ∨ ft w % 2 = 1 then .error Code.AE_ILLEGAL
    else
      let q := (List.range 4).map fun k =>
        let (re, im) := cmulExact (x.elem16 (fs w) k) (x.elem16 (ft w) k) (w.testBit 8)
        (narrowBy 16 15 re, narrowBy 16 15 im)
      let el := fun k => match q[k]? with | some ((re, _), (im, _)) => pack16 re im | none => 0
      .ok (((x.setD (fd w) (el 1 * 2 ^ 32 + el 0)).setD (fd w + 1) (el 3 * 2 ^ 32 + el 2)).sticky 0
        (q.any fun r => r.1.2 || r.2.2))

def Dev.aeAclr (d : Dev) (e : Nat) : Dev :=
  d.aeData e 0x29 fun w x => .ok (iterate 4 (fun k y => if w.testBit k then y.setA k 0 else y) x)

def Dev.aeAsh (d : Dev) (e : Nat) : Dev :=
  d.aeRun e 0x2A (fun w => 2 ^ an w) 1 fun w x =>
    let s := wrapBits 6 (bits w 20 15 : Nat); let n := an w
    .ok (x.setA n (if 0 ≤ s then x.A n * 2 ^ s.toNat else shrConv (x.A n) (-s).toNat)).next

/-! ## Control (R238, R240 to R242) -/

/-- A taken BR leaves every loop whose range does not hold its target, with all loops inside it. (DEDUCED, log 80, unsafe.) -/
def leaveLoops (target : Nat) (loops : List AeLoop) : List AeLoop :=
  let keep := (loops.reverse.takeWhile fun l => decide (l.first ≤ target ∧ target ≤ l.last))
  keep.reverse

def Dev.aeBr (d : Dev) (e : Nat) : Dev :=
  d.aeRun e 0x30 (fun _ => 0) 2 fun w x => .ok { x with pc := bits w 13 0, loops := leaveLoops (bits w 13 0) x.loops }

def Dev.aeCall (d : Dev) (e : Nat) : Dev :=
  d.aeRun e 0x31 (fun _ => 0) 2 fun w x =>
    if 8 ≤ x.calls.length then .error Code.AE_STACK
    else .ok { x with calls := (x.pc + 1) :: x.calls, pc := bits w 13 0 }

def Dev.aeRet (d : Dev) (e : Nat) : Dev :=
  d.aeRun e 0x32 (fun _ => 0) 2 fun _ x =>
    match x.calls with
    | [] => .error Code.AE_STACK
    | pc :: r => .ok { x with pc, calls := r }

def Dev.aeLoop (d : Dev) (e : Nat) : Dev :=
  d.aeRun e 0x33 (fun _ => 0) 1 fun w x =>
    let last := bits w 13 0
    let count := if w.testBit 22 then bits w 21 14 else x.D (bits w 21 18) % 65536
    if last ≤ x.pc then .error Code.AE_ILLEGAL
    else if count = 0 then .ok { x with pc := last + 1 }
    else if 4 ≤ x.loops.length then .error Code.AE_STACK
    else .ok { x with pc := x.pc + 1, loops := { first := x.pc + 1, last, count } :: x.loops }

/-- Whether the engine's next instruction has opcode `op` and its predicate holds. -/
def Dev.aeDoes (d : Dev) (e op : Nat) : Bool :=
  let x := d.ae e
  let w := d.aeWord e x.pc
  decide (e < 2) && d.aeState e == AeState.running && d.reg (Reg.R3510_MODE e) == 1 && decide (x.pc ≤ 0x3FFF) &&
    !x.poisoned (progOff x.pc) && Op.code w == op && x.cr.testBit (bits w 24 23) != w.testBit 25

/-- HALT: STOP_PC is its own address (R244). -/
def Dev.aeHalt (d : Dev) (e : Nat) : Dev :=
  let pc := (d.ae e).pc
  let on := d.aeDoes e 0x34
  let w := d.aeWord e pc
  let d := d.aeRun e 0x34 (fun _ => 0) 1 fun _ x => .ok x
  if on then
    let d := (d.set (Reg.R3510_STATE e) AeState.halted).set (Reg.R3510_HALT_CODE e) (bits w 15 0)
    let d := (d.set (Reg.R3510_STOP_PC e) pc).set (Reg.R3510_SR e) (d.ae e).sr
    (d.set (Reg.R3510_CYCLES e) (d.ae e).cycles).aeSignal e 0x8000
  else d

/-- SIG sets SIGNAL bits. -/
def Dev.aeSig (d : Dev) (e : Nat) : Dev :=
  let w := d.aeWord e (d.ae e).pc
  let on := d.aeDoes e 0x35
  let d := d.aeRun e 0x35 (fun _ => 0) 1 fun _ x => .ok x.next
  if on then d.aeSignal e (bits w 15 0) else d

/-- A WAIT over: the bits it takes from DOORBELL stand in WOKE, and the engine goes on to the next instruction (R241). -/
def Dev.aeTake (d : Dev) (e mask : Nat) : Dev :=
  let got := d.nat (Reg.R3510_DOORBELL e) &&& mask
  (d.clearBits (Reg.R3510_DOORBELL e) got).setAe e { (d.ae e).next with woke := got, mask := 0 }

/-- WAIT: goes on where a masked doorbell bit is set, else the engine is WAITING, its PC at the WAIT (R241, R243). -/
def Dev.aeWait (d : Dev) (e : Nat) : Dev :=
  let w := d.aeWord e (d.ae e).pc
  let on := d.aeDoes e 0x36
  let d := d.aeRun e 0x36 (fun _ => 0) 1 fun _ x => .ok x
  if on then
    let mask := bits w 15 0
    if d.nat (Reg.R3510_DOORBELL e) &&& mask ≠ 0 then d.aeTake e mask
    else (d.set (Reg.R3510_STATE e) AeState.waiting).setAe e { d.ae e with mask }
  else d

/-- WAIT_WAKE: the doorbell condition of a WAITING engine is met (R241, R244); how long it stalled is free. -/
def Dev.waitWake (d : Dev) (e : Nat) : Dev :=
  let x := d.ae e
  if e < 2 ∧ d.aeState e = AeState.waiting ∧ d.nat (Reg.R3510_DOORBELL e) &&& x.mask ≠ 0 then
    let (k, d) := d.takeFresh
    let d := d.setAe e { x with cycles := x.cycles + Config.aeStall k }
    (d.aeTake e x.mask).set (Reg.R3510_STATE e) AeState.running
  else d

/-! ## Commands to the engines (R222, R241, R243 to R245) -/

/-- Registers and stacks cleared to the values of R227. (DESIGN CHOICE, log 4, unsafe.) -/
def Ae.clear (x : Ae) (pc start : Nat) : Ae :=
  { prog := x.prog, x := x.x, y := x.y, bad := x.bad, ready := x.ready, pc, start }

/-- Program memory as bytes. -/
def Dev.aeProgram (d : Dev) (e : Nat) : Bytes := (List.range 16384).flatMap fun i => leBytes 4 (d.aeWord e i)

/-- A CONTROL write to an engine in mode 0 (R221, R249). -/
def Dev.aeOwned (d : Dev) (e : Nat) : Dev := (d.raise Code.AE_OWNED Kind.unit (48 + e)).finish Code.AE_OWNED

/-- ENGINE_START (R244). -/
def Dev.engineStart (d : Dev) (e : Nat) : Dev :=
  if 2 ≤ e then d.finish Code.OD_NO_ENTRY
  else if d.reg (Reg.R3510_MODE e) ≠ 1 then d.aeOwned e
  else if d.aeState e = AeState.running ∨ d.aeState e = AeState.waiting then
    (d.raise Code.AE_RUNNING Kind.unit (48 + e)).finish Code.AE_RUNNING
  else
    let d := d.setAe e ((d.ae e).clear (d.nat (Reg.R3510_START_PC e)) d.rawNow)
    let d := (d.set (Reg.R3510_STATE e) AeState.running).set (Reg.R3510_PROG_DIGEST e) (digest128 (d.aeProgram e))
    (d.set (Reg.R3510_CYCLES e) 0).finish Code.STATUS_OK

/-- ENGINE_STOP (R244): the current instruction has completed, STOP_PC is the next one's address. (DEDUCED, log 81, safe.) -/
def Dev.engineStop (d : Dev) (e : Nat) : Dev :=
  if 2 ≤ e then d.finish Code.OD_NO_ENTRY
  else if d.reg (Reg.R3510_MODE e) ≠ 1 then d.aeOwned e
  else if d.aeState e = AeState.running ∨ d.aeState e = AeState.waiting then
    -- a WAIT the engine stands in completes
    let x := if d.aeState e = AeState.waiting then { (d.ae e).next with mask := 0 } else d.ae e
    let d := ((d.setAe e x).set (Reg.R3510_STATE e) AeState.stopped).set (Reg.R3510_STOP_PC e) x.pc
    ((d.set (Reg.R3510_SR e) x.sr).set (Reg.R3510_CYCLES e) x.cycles).finish Code.STATUS_OK
  else d.finish Code.STATUS_OK

/-- ENGINE_RESET (R244). -/
def Dev.engineReset (d : Dev) (e : Nat) : Dev :=
  if 2 ≤ e then d.finish Code.OD_NO_ENTRY
  else if d.reg (Reg.R3510_MODE e) ≠ 1 then d.aeOwned e
  else ((d.setAe e ((d.ae e).clear 0 0)).set (Reg.R3510_STATE e) AeState.stopped).finish Code.STATUS_OK

/-- AE_WATCHDOG (R243): the run time since START exceeds WD_US within this tick. (DEDUCED, log 81, safe.) -/
def Dev.aeWatchdog (d : Dev) (e : Nat) : Dev :=
  let wd := d.nat (Reg.R3510_WD_US e)
  let st := d.aeState e
  if 2 ≤ e ∨ wd = 0 ∨ (st ≠ AeState.running ∧ st ≠ AeState.waiting) then d
  else if (d.ae e).start + 1000 * wd < d.clk.raw + 31250 then d.aeFault e Code.AE_WATCHDOG
  else d

/-- ENGINE_MODE (R222). -/
def Dev.engineMode (d : Dev) (e mode : Nat) : Dev :=
  if 2 ≤ e then d.finish Code.OD_NO_ENTRY
  else if 1 < mode then d.finish Code.OD_RANGE
  else if (d.ident.jobOn.any fun (_, x) => x == e) ∨ d.aeState e = AeState.running ∨ d.aeState e = AeState.waiting then
    (d.raise Code.AE_MODE_BUSY Kind.unit (48 + e)).finish Code.AE_MODE_BUSY
  else if d.nat (Reg.R3510_MODE e) = mode then d.finish Code.STATUS_OK
  else
    let x : Ae := { d.ae e with prog := [], x := [], y := [], bad := [], ready := false }
    (((d.setAe e x).set (Reg.R3510_MODE e) mode).set (Reg.R3510_STATE e) AeState.stopped).finish Code.STATUS_OK

/-- The library of a boot image put at program word 0 of an engine (R222, R248); it fits the 8,192 words it is given. -/
def Ae.loadLibrary (x : Ae) (lib : Bytes) : Ae :=
  let words := (List.range (min 8192 ((lib.length + 3) / 4))).map fun i => (i, leNat (slice lib (4 * i) 4))
  { x.clear 0 0 with prog := words.foldl (fun m (i, w) => mset 0xD0000000 m i w) [], x := [], y := [], bad := [] }

/-- The vendor library of the boot image that is running: of its slot, or of the backup copy where step 11 of the start took that
(R246, R475); none where its digest does not hold. -/
def Dev.libraryOf (d : Dev) (backup : Bool) : Option Bytes :=
  match d.flash.lastFw with
  | none => none
  | some s =>
    let x := mget {} d.flash.slots s
    let img := if backup then x.backup else x.image
    match (imgComps img).find? fun c => compKind c = 7 with
    | some c => if compOk img c then some (compBytes img c) else none
    | none => none
def Dev.library (d : Dev) : Option Bytes := d.libraryOf (mget 0 d.flash.inForce 11 == 1)

/-- The library put into an engine, which takes work then; without it the engine stays out of service. -/
def Dev.putLibrary (d : Dev) (e : Nat) (lib : Option Bytes) : Dev :=
  d.setAe e (match lib with
    | some lib => { (d.ae e).loadLibrary lib with ready := true }
    | none => { (d.ae e).clear 0 0 with ready := false })

/-- LIBRARY_RELOAD (R222, R223): the library of the boot image, checked against its digest; the engine is reset with it.
(DEDUCED, log 82, safe.) -/
def Dev.libraryReload (d : Dev) (e : Nat) : Dev :=
  if 2 ≤ e ∨ d.reg (Reg.R3510_MODE e) ≠ 0 ∨ (d.ae e).ready = true then d
  else (d.putLibrary e d.library).set (Reg.R3510_STATE e) AeState.stopped

/-- At a start an engine in mode 1 comes up with its memories filled (R222). -/
def Dev.enginesStart (d : Dev) : Dev :=
  iterate 2 (fun e d => d.when (d.reg (Reg.R3510_MODE e) == 1) fun d =>
    d.setAe e { (d.ae e).clear 0 0 with prog := [], x := [], y := [], bad := [], ready := false }) d

/-- DOORBELL (R245). -/
def Dev.doorbell (d : Dev) (e bits : Nat) : Dev :=
  if 2 ≤ e then d.finish Code.OD_NO_ENTRY else (d.orBits (Reg.R3510_DOORBELL e) (bits % 65536)).finish Code.STATUS_OK

/-- SIGNAL_CLEAR (R245): the pending source is released where no masked bit is left. -/
def Dev.signalClear (d : Dev) (e bits : Nat) : Dev :=
  if 2 ≤ e then d.finish Code.OD_NO_ENTRY
  else
    let d := d.clearBits (Reg.R3510_SIGNAL e) bits
    let d := if d.nat (Reg.R3510_SIGNAL e) &&& d.nat (Reg.R3510_SIG_MASK e) = 0 then
        { d with plic := d.plic.filter (· != 80 + e) }
      else d
    d.finish Code.STATUS_OK

/-- The register file as REGS lays it out (R247). -/
def Dev.aeRegs (d : Dev) (e : Nat) : Bytes :=
  let x := d.ae e
  (List.range 16).flatMap (fun i => leBytes 8 (x.D i)) ++
    (List.range 4).flatMap (fun i => leBytes 10 (toU 80 (x.A i)) ++ List.replicate 6 0) ++
    (List.range 38).flatMap fun i => leBytes 4 (x.spr i % 4294967296)

end Sys2Proof.Machine
end

