-- ==== Sys2Proof/Machine/Ident.lean ====
section
/-! DEFINITION. Injection, capture and notch tracking (spec/06). Jobs stand in Jobs.lean. -/

namespace Sys2Proof.Machine

/-! ## Injection (R196 to R199) -/

/-- Whether the parameters of a generator pass the checks of R199 for a level rate of 32,000 / D Hz. -/
def Dev.genValid (d : Dev) (g D : Nat) : Bool :=
  let f0 := f32 (d.reg (Reg.R3430_F0 g)); let f1 := f32 (d.reg (Reg.R3430_F1 g))
  let top : Rat := 45 * 320 / D
  let chirp := decide (0 < f0 ∧ f0 ≤ top ∧ 0 < f1 ∧ f1 ≤ top ∧ 16 ≤ d.nat (Reg.R3430_DURATION g))
  match d.nat (Reg.R3430_SIGNAL g) with
  | 1 =>
    let m := d.nat (Reg.R3430_PRBS_ORDER g); let h := d.nat (Reg.R3430_PRBS_HOLD g)
    decide (7 ≤ m ∧ m ≤ 20 ∧ 1 ≤ h ∧ h ≤ 64)
  | 2 => chirp
  | 3 => chirp && decide (f0 ≠ f1)
  | 4 =>
    let N := d.nat (Reg.R3430_MS_PERIOD g)
    let ks := (d.genLines g).map (·.1)
    let b := d.bytes (Reg.R3430_LINES g)
    b.length % 12 == 0 && decide (1 ≤ ks.length ∧ ks.length ≤ 64 ∧ 16 ≤ N) && ks.all (fun k => decide (1 ≤ k ∧ 2 * k < N)) &&
      decide ks.Nodup
  | 5 => decide (1 ≤ d.nat (Reg.R3430_DURATION g))
  | _ => false

/-- Whether a generator runs on an axis, and whether one other than `g` does. -/
def Dev.injectedAxis (d : Dev) (n : Nat) : Bool :=
  (List.range 16).any fun g => (d.injGen g).running && d.nat (Reg.R3430_AXIS g) == n
def Dev.otherInjects (d : Dev) (g n : Nat) : Bool :=
  (List.range 16).any fun k => k != g && (d.injGen k).running && d.nat (Reg.R3430_AXIS k) == n

/-- The conditions of R197 at the SI of the named T0. -/
def Dev.injectionAllowed (d : Dev) (g : Nat) : Bool :=
  let n := d.nat (Reg.R3430_AXIS g); let l := d.nat (Reg.R3430_LEVEL g)
  d.axState n == AxState.test && decide (d.reg (Reg.R3430_AMPLITUDE g) ≤ d.reg (act (Reg.AX13_INJ_LIMIT_CUR n + l))) &&
    !d.otherInjects g n && d.genValid g (d.levelDiv n l)

/-- The pending request of an entry that falls due at this SI of T0. -/
def Dev.dueAt (d : Dev) (key : Nat) : Option Pending :=
  match mget none d.pend key with
  | some p => if p.ready = true ∧ p.held = false ∧ p.cycle = d.clk.cycle64 ∧ d.clk.tick = 0 then some p else none
  | none => none

/-- Where a request waits that was accepted after the cut-off of the pending one of its table (R37). -/
abbrev behind (key : Nat) : Nat := key + 0x80

/-- A pending request taken off; the one accepted after its cut-off takes its place. -/
def Dev.dropPending (d : Dev) (key : Nat) : Dev :=
  { d with pend := mset none (mset none d.pend key (mget none d.pend (behind key))) (behind key) none }

/-- A commit that falls due while the node is not IN_SYNC is held (R39). -/
def Dev.holdCommit (d : Dev) (key : Nat) : Dev :=
  { d with pend := mset none d.pend key ((mget none d.pend key).map fun p => { p with held := true, ready := false }) }

/-- A start or an arm that is due: held out of sync (R39), LATE_EXECUTED raised for one that has passed (R36), taken off. -/
def Dev.dueNow (d : Dev) (key : Nat) : Option (Pending × Dev) × Dev :=
  match d.dueAt key with
  | none => (none, d)
  | some p =>
    if !d.inSync then (none, d.holdCommit key)
    else (some (p, (d.when p.late fun d => d.raise Code.LATE_EXECUTED Kind.table 0 0 (key * 256)).dropPending key), d)

/-- INJECTION_START (R197): a start that is due. -/
def Dev.injectionStart (d : Dev) (g : Nat) : Dev :=
  match d.dueNow (Reg.R3430_START_CYCLE g) with
  | (none, d) => d
  | (some (p, d), _) =>
    if d.injectionAllowed g then
      let m := d.nat (Reg.R3430_PRBS_ORDER g)
      let d := d.setGen g { running := true, evals := 0, prbs := 2 ^ m - 1, last := 0, told := false }
      let d := (d.set (Reg.R3430_STATE g) 2).set (Reg.R3430_STATUS g) (if p.late then Code.LATE_EXECUTED else Code.STATUS_OK)
      d.set (Reg.AX13_INJ_GEN (d.nat (Reg.R3430_AXIS g))) g
    else
      ((d.set (Reg.R3430_STATE g) 0).set (Reg.R3430_STATUS g) Code.INJECTION_REFUSED).raise Code.INJECTION_REFUSED
        Kind.other 0 0 g

/-- A running generator ended in a state. (DEDUCED, log 78, safe.) -/
def Dev.endGen (d : Dev) (g st : Nat) : Dev :=
  let d := d.setGen g { d.injGen g with running := false, last := 0 }
  (d.set (Reg.R3430_STATE g) st).set (Reg.AX13_INJ_GEN (d.nat (Reg.R3430_AXIS g))) 0xFF

/-- INJECTION_STOP: a write of STOP (R198). -/
def Dev.injectionStop (d : Dev) (g : Nat) : Dev :=
  if 16 ≤ g then d.finish Code.OD_NO_ENTRY
  else (d.when (d.injGen g).running fun d => d.endGen g 4).finish Code.STATUS_OK

/-- INJECTION_DONE: the last repeat is over (R198). -/
def Dev.injectionDone (d : Dev) (g : Nat) : Dev :=
  if (d.injGen g).running = true ∧ d.genOver g = true then d.endGen g 3 else d

/-! ## Capture (R201 to R205) -/

/-- The channel sources in force, and their fields (R202). -/
def capSources (b : Bytes) (n : Nat) : List Nat := (List.range n).map fun i => fieldLE b (4 * i) 4
abbrev srcKind (s : Nat) : Nat := bits s 31 24
abbrev srcIndex (s : Nat) : Nat := bits s 23 16
abbrev srcSel (s : Nat) : Nat := bits s 15 0

/-- Whether a source can be captured (R202). -/
def Dev.sourceValid (d : Dev) (s : Nat) : Bool :=
  let i := srcIndex s
  match srcKind s with
  | 0 => true
  | 1 =>
    let level := srcSel s / 256; let sig := srcSel s % 256
    decide (i < 128 ∧ level < 4) && d.levelOn i level &&
      (decide (sig ≤ 5) || (decide (8 ≤ sig ∧ sig ≤ 13) && level == 0))
  | 2 | 3 => decide (i < 8)
  | 4 => decide (i < 16)
  | _ => false

/-- The bytes of a row with `n` channels. -/
abbrev rowSize (n : Nat) : Nat := 4 + 4 * n

/-- The bytes that a set reserves: its buffer, and the new one while a length is pending (R204). -/
def Dev.capReserved (d : Dev) (s : Nat) : Nat :=
  let r := rowSize (d.nat (act (Reg.R3410_N_CH s)))
  r * d.nat (Reg.R3410_LENGTH s) + match (d.capSet s).newLen with | some l => r * l | none => 0

/-- The bytes reserved by all sets but one. -/
def Dev.capOthers (d : Dev) (s : Nat) : Nat :=
  (((List.range 16).filter (· != s)).map d.capReserved).sum

/-- The code with which the staged settings of a set cannot be armed, or STATUS_OK: sources, phase, and the space its rows then
need, of the length in force and of one that is pending (R202, R204). (DEDUCED, log 25, safe; DEDUCED, log 165, safe.) -/
def Dev.captureCheck (d : Dev) (s : Nat) : Nat :=
  let l := match (d.capSet s).newLen with | some l => l | none => d.nat (Reg.R3410_LENGTH s)
  if !((capSources (d.bytes (Reg.R3410_SOURCES s)) (d.nat (Reg.R3410_N_CH s))).all d.sourceValid &&
      decide (d.nat (Reg.R3410_PHASE s) < d.nat (Reg.R3410_DIV s)) && decide (d.nat (Reg.R3410_MODE s) ≤ 1) &&
      decide (d.nat (Reg.R3410_TRIG s) ≤ 3)) then Code.CAPTURE_INVALID
  else if 4194304 < d.capOthers s + rowSize (d.nat (Reg.R3410_N_CH s)) * l then Code.CAPTURE_NO_SPACE
  else Code.STATUS_OK

/-- BUF_ADDR (R204, R205): where in the SRAM the buffer of a set lies is free, and changes with the buffer.
(DESIGN CHOICE, log 171, safe.) -/
def Dev.bufAddr (d : Dev) (s : Nat) : Nat :=
  sramBase + 4 * (Config.captureBuffer (16 * (d.capSet s).buffer + s) % ((sramSize - 4194304) / 4))

/-- A pending length takes effect: a new buffer from row 0, the old rows released (R204). -/
def Dev.lengthChange (d : Dev) (s : Nat) : Dev :=
  let x := d.capSet s
  match x.newLen with
  | none => d
  | some l =>
    let d := d.setCap s { x with written := 0, newLen := none, buffer := x.buffer + 1 }
    let d := (d.set (Reg.R3410_LENGTH s) l).set (Reg.R3410_LEN_STATE s) 0
    (d.set (Reg.R3410_WRAPS s) 0).set (Reg.R3410_WR_PTR s) 0

/-- LENGTH_WRITE (R204). -/
def Dev.lengthWrite (d : Dev) (s len : Nat) : Dev :=
  if 16 ≤ s then d.finish Code.OD_NO_ENTRY
  else if len < 16 ∨ 1048576 < len then d.finish Code.OD_RANGE
  else
    let x := d.capSet s
    let r := rowSize (d.nat (act (Reg.R3410_N_CH s)))
    if len = d.nat (Reg.R3410_LENGTH s) then
      ((d.setCap s { x with newLen := none }).set (Reg.R3410_LEN_STATE s) 0).finish Code.STATUS_OK
    else if 4194304 < d.capOthers s + r * d.nat (Reg.R3410_LENGTH s) + r * len then
      (d.raise Code.CAPTURE_NO_SPACE Kind.other 0 0 s).finish Code.CAPTURE_NO_SPACE
    else
      let d := (d.setCap s { x with newLen := some len }).set (Reg.R3410_LEN_STATE s) 1
      (d.when (d.nat (Reg.R3410_RUN_STATE s) == 0) fun d => d.lengthChange s).finish Code.STATUS_OK

/-- The set stopped: a pending length takes effect at once. -/
def Dev.stopCapture (d : Dev) (s : Nat) : Dev := (d.set (Reg.R3410_RUN_STATE s) 0).lengthChange s

/-- CAPTURE_STOP: a write of STOP (R203). (DEDUCED, log 75, unsafe.) -/
def Dev.captureStop (d : Dev) (s : Nat) : Dev :=
  if 16 ≤ s then d.finish Code.OD_NO_ENTRY
  else (d.when (d.nat (Reg.R3410_RUN_STATE s) == 2) fun d => d.stopCapture s).finish Code.STATUS_OK

/-- CAPTURE_ARM (R203): at the SI of the named T0 the staged settings come into force and the set records from row 0.
(DEDUCED, log 75, unsafe.) -/
def Dev.captureArm (d : Dev) (s : Nat) : Dev :=
  match d.dueNow (Reg.R3410_ARM_CYCLE s) with
  | (none, d) => d
  | (some (_, d), _) =>
    let d := d.lengthChange s
    let d := each [Reg.R3410_DIV s, Reg.R3410_PHASE s, Reg.R3410_N_CH s, Reg.R3410_MODE s, Reg.R3410_TRIG s,
        Reg.R3410_TRIG_INDEX s, Reg.R3410_TRIG_LEVEL s, Reg.R3410_POST_ROWS s]
      (fun k d => d.set (act k) (d.reg k)) d
    let d := d.setBytes (act (Reg.R3410_SOURCES s)) (d.bytes (Reg.R3410_SOURCES s))
    let d := d.setCap s { d.capSet s with written := 0, lastVal := none, left := none }
    let d := ((d.set (Reg.R3410_WR_PTR s) 0).set (Reg.R3410_WRAPS s) 0).set (Reg.R3410_TRIG_ROW s) 0xFFFFFFFF
    d.set (Reg.R3410_RUN_STATE s) 2

/-- The signal of a level that a selector names (R202). -/
def Signals.get (x : Signals) (sig : Nat) : Int :=
  match sig with | 0 => x.r | 1 => x.y | 2 => x.e | 3 => x.uRaw | 4 => x.u | _ => x.inj

/-- The word a channel stores (R201, R202). -/
def Dev.channelWord (d : Dev) (s : Nat) : Nat :=
  let i := srcIndex s
  match srcKind s with
  | 1 =>
    if !d.evaluates i then 0
    else
      let level := srcSel s / 256; let sig := srcSel s % 256
      let x := mget {} d.ident.sigs (5 * i + if 8 ≤ sig then 4 else level)
      toU 32 (x.get (sig % 8))
  | 2 => toU 32 (d.io.ai.getD i 0 * 16384)
  | 3 => toU 32 (d.io.enc.getD i 0)
  | 4 => toU 32 (d.injGen i).last
  | _ => 0

/-- The stamp of a row (R201). -/
def Dev.rowStamp (d : Dev) (srcs : List Nat) : Nat :=
  let loops := srcs.filter fun s => srcKind s == 1
  let old := loops.any fun s => d.oldChannel (srcIndex s) || (d.axis (srcIndex s)).stale != 0
  let inj := srcs.any fun s =>
    if srcKind s = 1 then d.injectedAxis (srcIndex s) else srcKind s == 4 && (d.injGen (srcIndex s)).running
  (if old then 2 ^ 31 else 0) + (if inj then 2 ^ 30 else 0) + d.tickAbs % 2 ^ 30

/-- Whether the trigger condition of a set is met by a row (R203). -/
def Dev.triggered (d : Dev) (s : Nat) (vals : List Nat) : Bool :=
  let i := d.nat (act (Reg.R3410_TRIG_INDEX s))
  let v := wrapBits 32 (vals.getD i 0 : Nat)
  let lev := d.reg (act (Reg.R3410_TRIG_LEVEL s))
  match d.nat (act (Reg.R3410_TRIG s)), (d.capSet s).lastVal with
  | 0, _ => true
  | 1, _ => (d.injGen i).running
  | 2, some p => decide (p < lev ∧ lev ≤ v)
  | 3, some p => decide (lev < p ∧ v ≤ lev)
  | _, _ => false

/-- CAPTURE_ROW (R201, R203 to R205): at +24.0 µs a recording set whose tick it is writes one row to its buffer in the SRAM.
(DEDUCED, log 75, unsafe.) -/
def Dev.captureRow (d : Dev) (s : Nat) : Dev :=
  let d := d.at 24000
  let D := max 1 (d.nat (act (Reg.R3410_DIV s)))
  let mine := (d.clk.tick + 8 * D - d.nat (act (Reg.R3410_PHASE s))) % D == 0
  let x := d.capSet s
  if 16 ≤ s ∨ d.nat (Reg.R3410_RUN_STATE s) ≠ 2 ∨ mine = false ∨ x.left = some 0 then d
  else
    let srcs := capSources (d.bytes (act (Reg.R3410_SOURCES s))) (d.nat (act (Reg.R3410_N_CH s)))
    let vals := srcs.map d.channelWord
    let row := leBytes 4 (d.rowStamp srcs) ++ vals.flatMap (leBytes 4)
    let w := d.nat (Reg.R3410_WR_PTR s)
    let L := max 1 (d.nat (Reg.R3410_LENGTH s))
    let single := d.nat (act (Reg.R3410_MODE s)) == 1
    let trig := single && x.left.isNone && d.triggered s vals
    let left := if trig then some (d.nat (act (Reg.R3410_POST_ROWS s))) else x.left.map (· - 1)
    let ti := d.nat (act (Reg.R3410_TRIG_INDEX s))
    let d := (d.memWrite (d.bufAddr s + w * rowSize srcs.length) row).setCap s
      { x with written := x.written + 1, lastVal := some (wrapBits 32 (vals.getD ti 0 : Nat)), left }
    let d := d.when trig fun d => d.set (Reg.R3410_TRIG_ROW s) w
    let d := d.set (Reg.R3410_WR_PTR s) ((w + 1) % L : Nat)
    if w + 1 = L then (d.count (Reg.R3410_WRAPS s)).lengthChange s else d

/-- CAPTURE_COMPLETE (R203): POST_ROWS rows have followed the trigger. -/
def Dev.captureComplete (d : Dev) (s : Nat) : Dev :=
  if d.nat (Reg.R3410_RUN_STATE s) = 2 ∧ (d.capSet s).left = some 0 then d.stopCapture s else d

/-- Row `w` of the buffer of a set, as the SRAM holds it (R204). -/
def Dev.capRow (d : Dev) (s w : Nat) : Bytes :=
  let n := rowSize (d.nat (act (Reg.R3410_N_CH s)))
  d.memRead (d.bufAddr s + w * n) n

/-- The rows a set holds, oldest first (R206). -/
def Dev.capRows (d : Dev) (s : Nat) : List Bytes :=
  let w := d.nat (Reg.R3410_WR_PTR s)
  let L := d.nat (Reg.R3410_LENGTH s)
  let order := if d.nat (Reg.R3410_WRAPS s) = 0 then List.range w else (List.range L).map fun i => (w + i) % max 1 L
  order.map (d.capRow s)

/-- The buffer of a set as DATA reads it. -/
def Dev.capData (d : Dev) (s : Nat) : Bytes :=
  (List.range (d.nat (Reg.R3410_LENGTH s))).flatMap (d.capRow s)

/-! ## The notch section (R208) -/

/-- π in fixed point. -/
abbrev fxPi : Rat := 6908435304715 / 2199023255552

/-- A coefficient rounded to Q3.29. -/
def toCoef (q : Rat) : Int := satBits 32 (ratConv (q * 536870912))

/-- The notch design of R208 for a centre, width and depth at a level rate: b0, b1, b2, a1, a2. -/
def notchDesign (fc width depth fs : Rat) : List Int :=
  let c := fxRat (fxSinCos (fxOf (fc / fs))).2
  let rp := 1 - fxPi * width / fs
  let rz := 1 - depth * (1 - rp)
  let a1 := -2 * rp * c
  let a2 := rp * rp
  let den := 1 - 2 * rz * c + rz * rz
  let K := if den = 0 then 0 else (1 + a1 + a2) / den
  [K, -2 * K * rz * c, K * rz * rz, a1, a2].map toCoef

/-- The bytes of a section's coefficients. -/
def coefBytes (cs : List Int) : Bytes := (List.range 5).flatMap fun i => leBytes 4 (toU 32 (cs.getD i 0))

/-- The rate of a level in Hz. -/
def Dev.levelRate (d : Dev) (n level : Nat) : Rat := 32000 / (d.levelDiv n level : Rat)

/-! ## Notch trackers (R211 to R214) -/

/-- Whether a tracker owns the inactive image of a level (R213). -/
def Dev.trackOwns (d : Dev) (n level : Nat) : Bool :=
  (List.range 32).any fun t =>
    d.flag (Reg.R3440_EN t) && d.nat (Reg.R3440_AXIS t) == n && d.nat (Reg.R3440_LEVEL t) == level

/-- The centre of the active notch: F0 until the first switch (R220). -/
def Dev.trackApplied (d : Dev) (t : Nat) : Int :=
  if (d.tracker t).lastAt.isNone then d.reg (Reg.R3440_F0 t) else d.reg (Reg.R3440_F_APPLIED t)

/-- TRACKER_ENABLE: a write of EN (R211). -/
def Dev.trackerEnable (d : Dev) (t : Nat) (en : Bool) : Dev :=
  if 32 ≤ t then d.finish Code.OD_NO_ENTRY
  else if !en then
    (((d.set (Reg.R3440_EN t) 0).set (Reg.R3440_TRACK_STATE t) 0).setTracker t { d.tracker t with outside := 0 }).finish
      Code.STATUS_OK
  else if d.flag (Reg.R3440_EN t) then d.finish Code.STATUS_OK
  else
    let n := d.nat (Reg.R3440_AXIS t); let l := d.nat (Reg.R3440_LEVEL t); let s := d.nat (Reg.R3440_SEC t)
    let band := d.nat (Reg.R3440_BAND_PCT t)
    let f0 := f32 (d.reg (Reg.R3440_F0 t))
    let same := (List.range 32).any fun u =>
      u != t && d.flag (Reg.R3440_EN u) && d.nat (Reg.R3440_AXIS u) == n && d.nat (Reg.R3440_LEVEL u) == l &&
        d.nat (Reg.R3440_SEC u) == s
    if s < (Bank.parse (d.image n l)).nPost ∧ d.levelOn n l = true ∧ 1 ≤ band ∧ band ≤ 20 ∧
        f0 * (1 + (band : Rat) / 100) ≤ 45 / 100 * d.levelRate n l ∧ same = false then
      let d := (d.set (Reg.R3440_EN t) 1).set (Reg.R3440_TRACK_STATE t) 1
      (d.setTracker t { d.tracker t with outside := 0 }).finish Code.STATUS_OK
    else (d.raise Code.CAPTURE_INVALID Kind.axis n 0 t).finish Code.CAPTURE_INVALID

/-- Whether an engine serves jobs and trackers (R221 to R223). -/
def Dev.vendorEngine (d : Dev) (e : Nat) : Bool := decide (e < 2) && d.reg (Reg.R3510_MODE e) == 0 && (d.ae e).ready

/-- TRACKER_STEP (R212, R223): one cycle of a tracker, once in it; its estimate is the adaptive notch's, and free here. A cycle in
which it holds ends the run of cycles out of band. (DESIGN CHOICE, log 77, safe.) -/
def Dev.trackerStep (d : Dev) (t : Nat) : Dev :=
  if !d.trackersWait.contains t then d
  else
    let d := d.setTracker t { d.tracker t with served := some d.clk.cycle64 }
    let n := d.nat (Reg.R3440_AXIS t)
    let st := d.axState n
    let (k, d) := d.takeFresh
    let rms : Int := wrapBits 32 (Config.trackRms k : Nat)
    if !(d.vendorEngine 0 || d.vendorEngine 1) || !(st == AxState.enabled || st == AxState.moving || st == AxState.stopping) ||
        d.oldChannel n || decide (rms < d.reg (Reg.R3440_MIN_RMS t)) then
      (d.set (Reg.R3440_TRACK_STATE t) 2).setTracker t { d.tracker t with outside := 0 }
    else
      let code := Config.trackEstimate k % 4294967296
      let f := f32 (code : Int)
      let f0 := f32 (d.reg (Reg.R3440_F0 t))
      let w := f0 * (d.nat (Reg.R3440_BAND_PCT t) : Rat) / 100
      let x := d.tracker t
      if f0 - w ≤ f ∧ f ≤ f0 + w then
        ((d.set (Reg.R3440_F_EST t) code).set (Reg.R3440_TRACK_STATE t) 1).setTracker t { x with outside := 0 }
      else if 3 ≤ x.outside then
        ((d.set (Reg.R3440_TRACK_STATE t) 3).setTracker t { x with outside := 0 }).raise Code.NOTCH_BOUND Kind.axis n 0 t
      else (d.set (Reg.R3440_TRACK_STATE t) 1).setTracker t { x with outside := x.outside + 1 }

/-- TRACKER_UPDATE (R214): at +24.0 µs of T6 the notch is designed anew and its commit requested for cycle C + 2. -/
def Dev.trackerUpdate (d : Dev) (t : Nat) : Dev :=
  let d := d.at 24000
  let n := d.nat (Reg.R3440_AXIS t); let l := d.nat (Reg.R3440_LEVEL t)
  let x := d.tracker t
  let f := f32 (d.reg (Reg.R3440_F_EST t))
  let f0 := f32 (d.reg (Reg.R3440_F0 t))
  let w := f0 * (d.nat (Reg.R3440_BAND_PCT t) : Rat) / 100
  let far := decide (f32 (d.reg (Reg.R3440_HYST_PCT t)) / 100 * f0 < ratAbs (f - f32 (d.trackApplied t)))
  let rested := match x.lastAt with | some c => decide (c + 16 ≤ d.clk.cycle64) | none => true
  let key := Reg.AX9_COMMIT_CYCLE n
  if d.flag (Reg.R3440_EN t) = true ∧ d.nat (Reg.R3440_TRACK_STATE t) = 1 ∧ d.clk.tick = 6 ∧ f0 - w ≤ f ∧ f ≤ f0 + w ∧
      far = true ∧ rested = true ∧ mget none d.pend key = none then
    let b := Bank.parse (d.image n l)
    let off := 32 + 20 * (b.nPre + b.nCtl + d.nat (Reg.R3440_SEC t))
    let cs := notchDesign f (f32 (d.reg (Reg.R3440_WIDTH_HZ t))) (f32 (d.reg (Reg.R3440_DEPTH t))) (d.levelRate n l)
    let d := d.setBytes (Reg.AX9_INACTIVE_CUR n + l) (patch (d.image n l) off (coefBytes cs))
    let d := d.setTracker t { x with waiting := true, target := d.nat (Reg.R3440_F_EST t) }
    let p : Pending := { cycle := d.clk.cycle64 + 2, policy := 0, mask := 2 ^ l, tracker := some t }
    { d with pend := mset none d.pend key (some p) }.set (Reg.AX9_COMMIT_STATUS n) Code.COMMIT_PENDING
  else d

/-- What a tracker records at the switch of its commit (R214). -/
def Dev.trackSwitched (d : Dev) (t : Nat) : Dev :=
  let x := d.tracker t
  let d := (d.set (Reg.R3440_F_APPLIED t) x.target).set (Reg.R3440_LAST_CYCLE t) d.cycle
  let d := (d.count (Reg.R3440_UPDATES t)).setTracker t { x with waiting := false, lastAt := some d.clk.cycle64 }
  d.raise Code.TRACK_UPDATED Kind.axis (d.nat (Reg.R3440_AXIS t)) 0 t

end Sys2Proof.Machine
end

