-- ==== Sys2Proof/Machine/Jobs.lean ====
section
/-! DEFINITION. Analysis jobs and proposals (R206 to R210): the segments, the spectra and the frequency response by
their definitions, the search for a peak, the two section designs, and the placement of a proposal. -/

namespace Sys2Proof.Machine

/-! ## The frequency response (R207) -/

/-- The samples of a channel in rows. -/
def channelOf (rows : List Bytes) (ch : Nat) : List Int := rows.map fun r => sfieldLE r (4 + 4 * ch) 4

/-- The segments of `n` rows, `step` apart, without those that hold an aged or stale row. -/
def segments (fuel n step : Nat) (rows : List Bytes) : List (List Bytes) :=
  match fuel with
  | 0 => []
  | fuel + 1 =>
    if rows.length < n then []
    else
      let seg := rows.take n
      let rest := segments fuel n step (rows.drop step)
      if seg.any fun r => (fieldLE r 0 4).testBit 31 then rest else seg :: rest

/-- The window's value at row `k` of `n` (R207), in fixed point. -/
def windowAt (hann : Bool) (n k : Nat) : Int :=
  if hann then (fx1 - (fxSinCos (fxOf ((k : Rat) / n))).2).fdiv 2 else fx1

/-- One bin of the transform of a windowed segment: real and imaginary parts, in units of the samples times 2^-80. -/
def dftBin (hann : Bool) (xs : List Int) (b : Nat) : Int × Int :=
  let n := xs.length
  ((xs.zipIdx).foldl (fun (acc : Int × Int) (x, k) =>
    let (s, c) := fxSinCos (fxOf (((b * k % n : Nat) : Rat) / n))
    let v := x * windowAt hann n k
    (acc.1 + v * c, acc.2 - v * s)) (0, 0))

/-- The product of one number with the conjugate of another. -/
def conjMul (a b : Int × Int) : Int × Int := (a.1 * b.1 + a.2 * b.2, a.2 * b.1 - a.1 * b.2)

/-- A response bin before rounding: H and the coherence as rationals, none where a divisor is 0. -/
structure FrfBin where
  re : Option Rat
  im : Option Rat
  co : Option Rat
deriving DecidableEq, Repr

/-- H and γ² of a bin over all segments: the indirect estimate where a reference is given. -/
def frfBin (hann : Bool) (r u y : List (List Int)) (useRef : Bool) (b : Nat) : FrfBin :=
  let R := r.map (dftBin hann · b); let U := u.map (dftBin hann · b); let Y := y.map (dftBin hann · b)
  let cross := fun (p q : List (Int × Int)) =>
    (List.zipWith (fun a b => conjMul b a) p q).foldl (fun (s : Int × Int) t => (s.1 + t.1, s.2 + t.2)) (0, 0)
  let X := if useRef then R else U
  let num := cross X Y
  let den := cross X U
  let auto := (cross X X).1; let yy := (cross Y Y).1
  let m : Int := den.1 * den.1 + den.2 * den.2
  let q := conjMul num den
  let div := fun (a b : Int) => if b = 0 then none else some ((a : Rat) / b)
  { re := div q.1 m, im := div q.2 m, co := div (num.1 * num.1 + num.2 * num.2) (auto * yy) }

/-- A job's settings as it reads them. -/
def Dev.jobRows (d : Dev) (j : Nat) : List (List Bytes) :=
  let n := max 2 (d.nat (Reg.R3420_N_FFT j))
  let rows := d.capRows (d.nat (Reg.R3420_CAPTURE_SET j))
  segments (rows.length + 1) n (if d.nat (Reg.R3420_OVERLAP j) = 1 then n / 2 else n) rows

/-- The row rate in Hz (R207). -/
def Dev.jobRate (d : Dev) (j : Nat) : Rat :=
  32000 / (max 1 (d.nat (act (Reg.R3410_DIV (d.nat (Reg.R3420_CAPTURE_SET j))))) : Nat)

/-- A number stored as binary32: the nearest code or one beside it, since the order of the operations behind it is not stated; free
where a divisor was 0. (DESIGN CHOICE, log 76, safe.) -/
def frfCode (q : Option Rat) (free : Nat) : Nat :=
  match q with
  | none => free % 4294967296
  | some q =>
    let c := f32Of q
    if c % 2147483648 = 0 then c else c + free % 3 - 1

/-- The stored numbers of every bin (binary32 codes of Re H, Im H, γ²). (DESIGN CHOICE, log 76, safe.) -/
def Dev.frfCodes (d : Dev) (j k : Nat) (segs : List (List Bytes)) : List (Nat × Nat × Nat) :=
  let ch := fun key => segs.map fun s => channelOf s (d.nat key)
  let ref := d.nat (Reg.R3420_REF_CH j)
  let r := if ref = 0xFF then [] else ch (Reg.R3420_REF_CH j)
  let u := ch (Reg.R3420_U_CH j); let y := ch (Reg.R3420_Y_CH j)
  let code := fun (q : Option Rat) (i : Nat) => frfCode q (Config.frfRound k i)
  (List.range (d.nat (Reg.R3420_N_FFT j) / 2 + 1)).map fun b =>
    let f := frfBin (d.nat (Reg.R3420_WINDOW j) == 1) r u y (ref != 0xFF) b
    (code f.re (3 * b), code f.im (3 * b + 1), code f.co (3 * b + 2))

/-- The result domain (R207). -/
def Dev.frfBytes (d : Dev) (j : Nat) (df : Rat) (segs : Nat) (codes : List (Nat × Nat × Nat)) : Bytes :=
  leBytes 4 (d.nat (Reg.R3420_N_FFT j)) ++ leBytes 4 codes.length ++ leBytes 4 (f32Of df) ++ leBytes 2 segs ++
    leBytes 2 0 ++ codes.flatMap fun (a, b, c) => leBytes 4 a ++ leBytes 4 b ++ leBytes 4 c

/-! ## The search (R208, R209) -/

/-- |H|² of a stored bin, and its coherence. -/
def binMag (c : Nat × Nat × Nat) : Rat := f32 (c.1 : Int) * f32 (c.1 : Int) + f32 (c.2.1 : Int) * f32 (c.2.1 : Int)
def binCo (c : Nat × Nat × Nat) : Rat := f32 (c.2.2 : Int)

/-- `x` put in its place in a rising list, and a list sorted. -/
def insertRat (x : Rat) : List Rat → List Rat
  | [] => [x]
  | y :: r => if x ≤ y then x :: y :: r else y :: insertRat x r
def sortRat (l : List Rat) : List Rat := l.foldl (fun acc x => insertRat x acc) []

/-- The median of |H|² over the bins within one octave either side; of an even count one of the middle two. -/
def octaveMedian (k : Nat) (mags : List Rat) (b : Nat) : Rat :=
  let l := sortRat ((mags.zipIdx).filterMap fun (m, i) => if b ≤ 2 * i ∧ i ≤ 2 * b then some m else none)
  let n := l.length
  if n % 2 = 1 then l.getD (n / 2) 0 else l.getD (n / 2 - 1 + Config.medianPick k b % 2) 0

/-- 10^(PEAK_DB / 10), the prominence on |H|². -/
def prominence (db : Rat) : Rat := hpExp (hpMul (hpLn 10) (hpOf (db / 10)))

/-- The extremum of a search: its bin, where one qualifies; and whether one failed on coherence alone. -/
structure Found where
  bin : Option Nat
  low : Bool
deriving DecidableEq, Repr

/-- The bin of largest |H| (smallest, for `dip`) of a band that stands out by PEAK_DB with enough coherence. -/
def search (k : Nat) (codes : List (Nat × Nat × Nat)) (df lo hi db coMin : Rat) (dip : Bool) : Found :=
  let mags := codes.map binMag
  let p := prominence db
  let first := (List.range codes.length).filter fun (b : Nat) =>
    let f := (b : Rat) * df
    let m := mags.getD b 0
    let med := octaveMedian k mags b
    decide (lo ≤ f ∧ f ≤ hi) && (if dip then decide (m * p ≤ med) else decide (med * p ≤ m))
  let ok := first.filter fun b => decide (coMin ≤ binCo (codes.getD b (0, 0, 0)))
  let better := fun (a b : Rat) => if dip then decide (a < b) else decide (b < a)
  let best := ok.foldl (fun (acc : Option Nat) b =>
    match acc with
    | some c => if better (mags.getD b 0) (mags.getD c 0) then some b else acc
    | none => some b) none
  { bin := best, low := best.isNone && !first.isEmpty }

/-- The vertex of the parabola through ln |H| of a bin and its neighbours, as a frequency (R208). -/
def vertex (k : Nat) (codes : List (Nat × Nat × Nat)) (df : Rat) (b : Nat) : Rat :=
  let m := fun i => binMag (codes.getD i (0, 0, 0))
  let l0 := hpLn (m (b - 1)); let l1 := hpLn (m b); let l2 := hpLn (m (b + 1))
  let den := 2 * (l0 - 2 * l1 + l2)
  if b = 0 ∨ codes.length ≤ b + 1 ∨ den = 0 ∨ m (b - 1) = 0 ∨ m b = 0 ∨ m (b + 1) = 0 then
    ((b : Rat) + (Config.vertexFree k : Rat) / 1000000) * df
  else ((b : Rat) + ((l0 - l2 : Int) : Rat) / den) * df

/-- How far from bin `b`, in bins, |H|² crosses a level in the bins `ms` that follow it on one side: by a straight line between the
two bins about the crossing. -/
def crossing (dip : Bool) (lev : Rat) (m : Rat) (done : Nat) : List Rat → Option Rat
  | [] => none
  | y :: r =>
    if (if dip then decide (lev ≤ y) else decide (y ≤ lev)) then
      some ((done : Rat) + if y = m then 0 else (lev - m) / (y - m))
    else crossing dip lev y (done + 1) r

/-- The damping ratio of an extremum from its half-power width (R209): the width between the points where |H|² is half its value at
a peak, twice at a dip, over twice its frequency; free where the bins do not reach such a point.
(DEDUCED, log 166, safe.) -/
def dampingOf (codes : List (Nat × Nat × Nat)) (df f : Rat) (b : Nat) (dip : Bool) (free : Nat) : Rat :=
  let ms := codes.map binMag
  let m := ms.getD b 0
  let lev := if dip then 2 * m else m / 2
  match crossing dip lev m 0 (ms.take b).reverse, crossing dip lev m 0 (ms.drop (b + 1)) with
  | some l, some r => if f = 0 then f32 (free % 4294967296 : Nat) else (l + r) * df / (2 * f)
  | _, _ => f32 (free % 4294967296 : Nat)

/-- A conjugate pair by pole-zero matching (R209): twice the real part and the square of its radius. -/
def matchedPair (f zeta Te : Rat) : Rat × Rat :=
  let w := 2 * fxPi * f
  let r := hpExp (hpOf (-(zeta * w * Te)))
  let turns := f * Te * b64Sqrt (1 - zeta * zeta)
  (2 * r * fxRat (fxSinCos (fxOf turns)).2, r * r)

/-- The section of R209: zeros at the resonance, poles at the antiresonance, unit DC gain. -/
def biquadDesign (fr zr fa za Te : Rat) : List Int :=
  let (n1, n2) := matchedPair fr zr Te
  let (d1, d2) := matchedPair fa za Te
  let num := 1 - n1 + n2
  let K := if num = 0 then 0 else (1 - d1 + d2) / num
  [K, -K * n1, K * n2, -d1, d2].map toCoef

/-! ## The job's life (R206, R210, R223) -/

/-- A job that fails with a reason leaves its engine. -/
def Dev.jobFail (d : Dev) (j reason : Nat) : Dev :=
  let d := { d with ident := { d.ident with jobs := d.ident.jobs.filter (· != j),
                                            jobOn := d.ident.jobOn.filter fun (i, _) => i != j } }
  ((d.set (Reg.R3420_JOB_STATE j) 4).set (Reg.R3420_JOB_REASON j) reason).raise Code.JOB_FAILED Kind.other 0 0 j

/-- JOB_RUN (R206): a job that is neither queued nor running joins the queue. -/
def Dev.jobRun (d : Dev) (j : Nat) : Dev :=
  if 8 ≤ j then d.finish Code.OD_NO_ENTRY
  else if d.nat (Reg.R3420_JOB_STATE j) = 1 ∨ d.nat (Reg.R3420_JOB_STATE j) = 2 then d.finish Code.OD_STATE
  else
    let d := { d with ident := { d.ident with jobs := d.ident.jobs ++ [j] } }
    ((d.set (Reg.R3420_JOB_STATE j) 1).set (Reg.R3420_JOB_REASON j) 0).finish Code.STATUS_OK

/-- JOB_START (R206, R223): the head of the queue on an idle engine in mode 0, once the trackers are served; it fails where its set is
not stopped. -/
def Dev.jobStart (d : Dev) (j e : Nat) : Dev :=
  if !d.trackersWait.isEmpty ∨ d.ident.jobs.head? ≠ some j ∨ d.vendorEngine e = false ∨ (d.ident.jobOn.any fun (_, x) => x == e) = true then d
  else if d.nat (Reg.R3410_RUN_STATE (d.nat (Reg.R3420_CAPTURE_SET j))) ≠ 0 then d.jobFail j 1
  else
    let d := { d with ident := { d.ident with jobs := d.ident.jobs.tail, jobOn := d.ident.jobOn ++ [(j, e)] } }
    d.set (Reg.R3420_JOB_STATE j) 2

/-- A proposal placed in the inactive image of its level (R210), unless the bank is locked or a tracker owns it. -/
def Dev.propose (d : Dev) (j : Nat) (f : Rat) (cs : List Int) : Dev :=
  let n := d.nat (Reg.R3420_TGT_AXIS j); let l := d.nat (Reg.R3420_TGT_LEVEL j); let s := d.nat (Reg.R3420_TGT_SLOT j)
  let d := (d.set (Reg.R3420_PROP_F j) (f32Of f)).setBytes (Reg.R3420_PROP_COEF j) (coefBytes cs)
  if d.locked (Reg.AX9_COMMIT_CYCLE n) ∨ d.trackOwns n l then
    (d.set (Reg.R3420_PROP_PLACED j) 0).raise Code.PROPOSAL_NOT_PLACED Kind.axis n 0 j
  else
    let img := d.bytes (Reg.AX9_INACTIVE_CUR n + l)
    let b := Bank.parse img
    let base := 32 + 20 * (b.nPre + b.nCtl)
    let pass := coefBytes [536870912, 0, 0, 0, 0]
    let grown := slice img 0 base ++ (img.drop base).take (20 * b.nPost) ++
      (List.range (s + 1 - b.nPost)).flatMap fun _ => pass
    let img := patch (patch grown 3 [byte (max b.nPost (s + 1))]) (base + 20 * s) (coefBytes cs)
    ((d.setBytes (Reg.AX9_INACTIVE_CUR n + l) img).set (Reg.R3420_PROP_PLACED j) 1).raise Code.PROPOSAL_READY Kind.axis n 0 j

/-- JOB_COMPLETE (R207 to R210): the response, the search and the design of a running job. -/
def Dev.jobComplete (d : Dev) (j : Nat) : Dev :=
  if d.nat (Reg.R3420_JOB_STATE j) ≠ 2 then d
  else
    let (k, d) := d.takeFresh
    let segs := d.jobRows j
    if segs.length < 2 then d.jobFail j 2
    else
      let codes := d.frfCodes j k segs
      let df := d.jobRate j / (d.nat (Reg.R3420_N_FFT j) : Rat)
      let kind := d.nat (Reg.R3420_KIND j)
      let n := d.nat (Reg.R3420_TGT_AXIS j); let l := d.nat (Reg.R3420_TGT_LEVEL j)
      let fs := d.levelRate n l
      let lo := f32 (d.reg (Reg.R3420_F_LO j)); let hi := f32 (d.reg (Reg.R3420_F_HI j))
      let db := f32 (d.reg (Reg.R3420_PEAK_DB j)); let co := f32 (d.reg (Reg.R3420_COH_MIN j))
      let peak := search k codes df lo hi db co false
      let done := fun (d : Dev) =>
        let d := { d with ident := { d.ident with jobOn := d.ident.jobOn.filter fun (i, _) => i != j } }
        d.set (Reg.R3420_JOB_STATE j) 3
      let d := d.setBytes (Reg.R3420_RESULT j) (d.frfBytes j df segs.length codes)
      if kind = 1 then done d
      else
        let d := d.when (kind == 2 && peak.low) fun d => d.raise Code.LOW_COHERENCE Kind.other 0 0 j
        match peak.bin with
        | none => d.jobFail j 3
        | some b =>
          let fc := vertex k codes df b
          if kind = 2 then
            done (d.propose j fc (notchDesign fc (f32 (d.reg (Reg.R3420_WIDTH_HZ j))) (f32 (d.reg (Reg.R3420_DEPTH j))) fs))
          else
            match (search k codes df lo (min hi fc) db co true).bin with
            | none => d.jobFail j 3
            | some a =>
              let fa := vertex k codes df a
              let zr := dampingOf codes df fc b false (Config.damping k 0)
              let za := dampingOf codes df fa a true (Config.damping k 1)
              done (d.propose j fc (biquadDesign fc zr fa za (1 / fs)))

end Sys2Proof.Machine
end

