-- ==== Sys2Proof/Machine/Valid.lean ====
section
/-! DEFINITION. Validation (R27, R311, R379, R396, R409, R410, R458, R462): the rules a schedule, a safety bank, a release
table, an expected table and the whole configuration must keep, the budgets and what `OD 1102` reports of them. -/

namespace Sys2Proof.Machine

/-! ## The schedule (R309, R311, R312) -/

/-- Whether the bytes are a schedule image (R309); an empty image has no entry. -/
def schedForm (t : Bytes) : Bool :=
  let n := schedCount t
  t.isEmpty ||
    (decide (n ≤ 2048) && t.length == 16 + 32 * n && fieldLE t 2 1 == 1 && fieldLE t 3 1 == 0 &&
      decide (fieldLE t 12 4 ≤ 29250) &&
      (List.range n).all fun e =>
        let x := schedEntry t e
        decide (x.owner < 4096) && [1, 3, 4, 5, 6].contains x.kind && decide (x.role < 64) &&
          (decide (x.inPort < 4) || (x.inPort == 0xFF && x.has Role.tx)) && decide (x.outPorts < 16) &&
          decide (x.offset < 250000) && decide (64 ≤ x.wire ∧ x.wire ≤ 1518) && (x.kind == 6 || x.conn == 0xFFFF) &&
          decide (x.delayNode < 4096) && decide (x.bypassable ≤ 2) && fieldLE t (16 + 32 * e + 25) 7 == 0)

/-- Whether the bytes are a process-data map for a schedule of `n` entries (R312). -/
def mapForm (m : Bytes) (n : Nat) : Bool :=
  m.length % 16 == 0 && decide (m.length ≤ 65536) &&
    (List.range (m.length / 16)).all fun i =>
      let r := mapRec m i
      decide (fieldLE m (16 * i) 1 ≤ 1 ∧ 1 ≤ r.ty ∧ r.ty ≤ 7 ∧ r.target ≤ 3) &&
        (match r.target with | 1 => decide (r.qty ≤ 5) | 2 => decide (r.qty ≤ 7) | _ => true) &&
        (r.target == 0 || decide (r.axis < 128)) && decide (r.entry < n) && fieldLE m (16 * i + 10) 6 == 0

/-- A port's speed in Gbit/s. -/
def Dev.gbit (d : Dev) (p : Nat) : Nat := if d.nat (Reg.R1410_SPEED p) = 10 then 10 else 25

/-- The frame time of an entry's frame with its preamble, in ps (R326). -/
def Dev.framePs (d : Dev) (p wire : Nat) : Nat := 8000 * (wire + 8) / d.gbit p

/-- The span a TX or FWD entry of a port takes in round `t`, in ps after the SI of T0 of the cycle: its frame with 8 bytes of
preamble and 12 of gap, and PRECISION_NS on either side; a forwarded frame leaves 300 ns after its arrival (R300, R311). -/
def Dev.span (d : Dev) (p : Nat) (x : SchedEntry) (t : Nat) : Int × Int :=
  let P := d.nat Reg.R1400_PRECISION_NS * 1000
  let lo := (t * 31250 + x.offset + if x.has Role.tx then 0 else 300) * 1000
  ((lo : Int) - P, ((lo + 8000 * (x.wire + 20) / d.gbit p + P : Nat) : Int))

/-- Whether two spans overlap, the cycle repeating every 250 µs. -/
def spansMeet (a b : Int × Int) : Bool :=
  [-250000000, 0, 250000000].any fun k => decide (a.1 < b.2 + k ∧ b.1 + k < a.2)

/-- Whether the frames that leave on each port keep apart (R311). -/
def Dev.noOverlap (d : Dev) (t : Bytes) : Bool :=
  (List.range 4).all fun p =>
    let spans := (List.range (schedCount t)).flatMap fun e =>
      let x := schedEntry t e
      if (x.has Role.tx || x.has Role.fwd) && x.outPorts.testBit p then
        ((List.range 8).filter fun r => x.mask.testBit r).map fun r => (x.slot, r, d.span p x r)
      else []
    decide (spans.Pairwise fun a b => ¬(((a.1, a.2.1) ≠ (b.1, b.2.1)) ∧ spansMeet a.2.2 b.2.2 = true))

/-- The feedback quantities of R312 an axis's loops use. -/
def Dev.usedQuantities (d : Dev) (n : Nat) : List Nat :=
  ((List.range 5).filter (d.usesChannel n)).map (fun ch => [0, 1, 2, 4, 5].getD ch 0) ++ (if d.direct n then [3] else [])

/-- The records of a map. -/
def mapRecs (m : Bytes) : List MapRec := (List.range (m.length / 16)).map (mapRec m)

/-- The latest arrival of a feedback window with its frame time, in ns rounded up (R311, R327). -/
def Dev.feedbackLast (d : Dev) (t m : Bytes) : Nat :=
  (mapRecs m).foldl (fun last r =>
    if r.sent ∨ (r.target ≠ 1) then last
    else
      let x := schedEntry t r.entry
      max last (x.offset + (d.framePs x.inPort x.wire + 999) / 1000)) 0

/-- OUTPUT_LAST_NS of an image. -/
def outputLast (t : Bytes) : Nat := fieldLE t 8 4

/-- Whether a schedule keeps the budgets of R27. -/
def Dev.schedBudget (d : Dev) (t m : Bytes) : Bool := decide (d.feedbackLast t m ≤ 12000 ∧ outputLast t ≤ 31250)

/-- Whether an entry carries an unmapped window of `len` bytes. -/
def bareWindow (m : Bytes) (e len : Nat) (x : SchedEntry) : Bool :=
  x.winLen == len && (mapRecs m).all fun r => r.entry != e

/-- R409 for a unit of a pair, as far as its own schedule shows it. -/
def Dev.pairSchedule (d : Dev) (t m : Bytes) : Bool :=
  let es := (List.range (schedCount t)).map fun e => (e, schedEntry t e)
  let partner := d.nat (act Reg.R5800_PARTNER_ID); let owl := d.nat (act Reg.R5800_OWL_ID)
  let cover := fun (l : List (Nat × SchedEntry)) => l.foldl (fun k (_, x) => k ||| x.mask) 0 == 0xFF
  let into := fun (x : SchedEntry) => x.has Role.rx || x.has Role.extract
  let out := fun (x : SchedEntry) => x.has Role.tx || x.has Role.insert
  let early := fun (x : SchedEntry) => x.mask.testBit 0 && decide (x.offset * 1000 + d.framePs x.inPort x.wire < 12000000)
  let cons := d.bytes (act Reg.R5800_CONSUMERS)
  !d.paired ||
    (cover (es.filter fun (_, x) => x.has Role.tx) && cover (es.filter fun (_, x) => into x && x.owner == partner) &&
      (es.any fun (e, x) => out x && bareWindow m e 17 x && early x) &&
      (es.any fun (e, x) => into x && x.owner == partner && bareWindow m e 17 x && early x) &&
      (d.nat (act Reg.R5800_PAIR_MODE) != 2 ||
        es.any fun (e, x) => into x && x.owner == owl && bareWindow m e 17 x && early x) &&
      (List.range (cons.length / 2)).all fun i =>
        es.any fun (e, x) => into x && x.owner == fieldLE cons (2 * i) 2 && bareWindow m e 49 x)

/-- Whether a schedule with its map passes R311, R322 and R409. -/
def Dev.schedOk (d : Dev) (t m : Bytes) : Bool :=
  let recs := mapRecs m
  schedForm t && mapForm m (schedCount t) && d.noOverlap t &&
    (recs.all fun r => r.sent || r.target != 1 || (schedEntry t r.entry).mask == 0xFF) &&
    ((List.range 128).all fun n =>
      (recs.all fun r => !((r.target == 1 || r.target == 2) && r.axis == n)) ||
        (d.usedQuantities n).all fun q => recs.any fun r => !r.sent && r.target == 1 && r.axis == n && r.qty == q) &&
    decide ((((List.range (schedCount t)).filterMap fun e =>
      let x := schedEntry t e
      if x.kind = FrameKind.sync then some x.owner else none).eraseDups).length ≤ 8) &&
    d.pairSchedule t m && d.schedBudget t m

/-! ## The safety bank (R372, R379, R396) -/

/-- The axes with an output entry in the map in force. -/
def Dev.outputAxes (d : Dev) : List Nat :=
  ((mapRecs d.pdMap).filterMap fun r => if r.sent && r.target == 2 then some r.axis else none).eraseDups

/-- Whether an axis has both paths of R379 in a safety bank. -/
def Dev.stoPaths (d : Dev) (n off : Nat) : Bool :=
  let k := d.nat (Reg.R5080_STO_CONN n + off)
  let conn := decide (k < 128) && d.nat (Reg.R1500_CONN k + off) != 0xFFFF && d.nat (Reg.R1500_DIR k + off) == 1 &&
    decide (d.nat (Reg.R5080_STO_BIT n + off) < 8 * d.nat (Reg.R1500_LEN k + off))
  let out := (List.range 8).any fun j =>
    d.nat (Reg.R5020_KIND j + off) == 1 &&
      d.inScope (d.nat (Reg.R5020_CHAIN_MASK j + off)) (d.bytes (Reg.R5020_AXIS_MASK j + off)) n
  conn && out

/-- Whether a STO_CONN that is given names a sending connection with the bit in it (R379). -/
def Dev.stoConn (d : Dev) (n off : Nat) : Bool :=
  let k := d.nat (Reg.R5080_STO_CONN n + off)
  k == 0xFF || (decide (k < 128) && d.nat (Reg.R1500_CONN k + off) != 0xFFFF && d.nat (Reg.R1500_DIR k + off) == 1 &&
    decide (d.nat (Reg.R5080_STO_BIT n + off) < 8 * d.nat (Reg.R1500_LEN k + off)))

/-- Whether a function's REACTION is one its KIND allows (R372). -/
def fnReaction (kind react : Nat) : Bool :=
  match kind with
  | 1 => react == 4 || react == 5
  | 2 => react == 4 || react == 5 || react == 6
  | _ => decide (kind ≤ 4)

/-- The code with which a safety bank (`off` 0x80: the active one) fails (R396). (DEDUCED, log 112, safe.) -/
def Dev.safetyCheck (d : Dev) (off : Nat) : Nat :=
  let ranges := (bankEntries 1).all fun (e, k) =>
    e.ty == .dom || e.ty == .str || e.rng.has (d.reg (k + off))
  let masks := (List.range 8).all fun k =>
    (d.bytes (Reg.R5010_AXIS_MASK k + off)).length == 16 && (d.bytes (Reg.R5020_AXIS_MASK k + off)).length == 16
  if ranges && masks &&
      (List.range 8).all (fun k => fnReaction (d.nat (Reg.R5010_KIND k + off)) (d.nat (Reg.R5010_REACTION k + off)) &&
        decide (d.nat (Reg.R5020_KIND k + off) ≤ 2)) &&
      (List.range 128).all (fun n => d.stoConn n off) && d.outputAxes.all (fun n => d.stoPaths n off) then Code.STATUS_OK
  else Code.SAFETY_INVALID

/-! ## The expected table (R462) -/

/-- Whether the bytes are an expected table; an empty one names no node. -/
def expectedForm (t : Bytes) : Bool :=
  let n := fieldLE t 0 2
  let node := fun i => fieldLE t (8 + 20 * i) 2
  t.isEmpty ||
    (decide (n ≤ 4095) && t.length == 8 + 20 * n && fieldLE t 2 1 == 1 && fieldLE t 3 5 == 0 &&
      (List.range n).all fun i => fieldLE t (8 + 20 * i + 2) 2 == 0 && (i == 0 || decide (node (i - 1) < node i)))

/-! ## Budgets (R27) -/

/-- DETAIL of BUDGET_EXCEEDED: the row of R27 and the tick, 0xFF for a budget per cycle. (DESIGN CHOICE, log 24, safe.) -/
def budgetDetail (row tick : Nat) : Nat := 256 * row + tick

/-- The sections that run in tick `t`. -/
def Dev.sectionLoad (d : Dev) (t : Nat) : Nat := ((List.range 128).map fun n => d.axisLoad n t (d.image n)).sum

/-- The first tick whose sections exceed 20,000, or 0xFF where an axis holds more than 32. -/
def Dev.sectionsOver (d : Dev) : Option Nat :=
  match (List.range 8).find? fun t => decide (20000 < d.sectionLoad t) with
  | some t => some t
  | none => if (List.range 128).all fun n => decide (d.axisSections n (d.image n) ≤ 32) then none else some 0xFF

/-- The power limit of the order code in W (R3, R4). -/
def Dev.powerLimit (d : Dev) : Rat := if d.power.ae then 40 else 48

/-- The worst-case power estimate in W (R527). -/
def Dev.powerEst (d : Dev) : Rat :=
  let peak := ((List.range 8).map d.sectionLoad).foldl max 0
  let es := d.entries
  let port := fun p => es.any fun (_, x) => x.inPort == p || x.outPorts.testBit p
  let ports : Rat := ((List.range 4).map fun p =>
    if !port p then (0 : Rat) else if d.gbit p = 10 then 1 / 2 else 9 / 10).sum
  let cross : Rat := if d.nat (act Reg.R5800_PAIR_MODE) = 0 then 0 else 6 / 10 * d.lanes2.length + 3 / 10
  let host : Rat := ([Reg.R1210_IPV4_H0, Reg.R1210_IPV4_H1].map fun k => if d.nat k = 0 then (0 : Rat) else 4 / 10).sum
  198 / 10 + 12 + 2 / 10 * (peak : Rat) / 1000 + 1 + 25 / 10 * (d.nat Reg.R3101_BUDGET_U : Rat) / 3200000 + 2 + ports +
    cross + host + 8 / 10

/-- What `OD 1102` and `OD 7060.04` report (R45, R311, R527). (DESIGN CHOICE, log 24, safe.) -/
def Dev.budgetFigures (d : Dev) : Dev :=
  let d := iterate 8 (fun t d =>
    let (w, c) := releaseWork (d.bytes Reg.R3804_ACTIVE) t
    (d.set (Reg.R1102_SECTIONS_T0 + t) (d.sectionLoad t)).set (Reg.R1102_TICKLOAD_T0 + t) (w / 24 + c)) d
  let d := (d.set Reg.R1102_DISTANCE_CYCLES (d.pairLoad 0x80)).set Reg.R3101_BUDGET_U (d.pairLoad 0x80)
  let d := d.set Reg.R1102_FEEDBACK_LAST_NS (d.feedbackLast d.sched d.pdMap)
  (d.set Reg.R1102_OUTPUT_LAST_NS (outputLast d.sched)).set Reg.R7060_POWER_EST (f32Of d.powerEst)

/-! ## The whole configuration (R458) -/

/-- The loop structures and the pair's settings come into force at validation and at boot. (DESIGN CHOICE, log 39, safe.) -/
def Dev.takeStructures (d : Dev) : Dev :=
  iterate 128 (fun n d =>
    each (blkAX7.map fun e => Reg.key (0x2007 + 16 * n) e.sub) (fun k d => d.set (act k) (d.reg k)) d) d

/-- The field rules an axis must keep at validation (R71, R106, R129, R133). (DEDUCED, log 28, safe; DEDUCED, log 58, safe.) -/
def Dev.axisFields (d : Dev) (n : Nat) : Bool :=
  let r := d.reg
  decide (r (Reg.AX10_AGE_LIMIT n) ≤ 14) && decide (r (Reg.AX2_A_MAX n) ≤ r (Reg.AX3_EM_DEC n)) &&
    (r (Reg.AX3_EM_JERK n) == 0 || decide (r (Reg.AX2_J_MAX n) ≤ r (Reg.AX3_EM_JERK n))) &&
    (!d.flag (Reg.AX2_SOFT_EN n) || decide (r (Reg.AX2_SOFT_MIN n) < r (Reg.AX2_SOFT_MAX n))) &&
    decide (0 < r (Reg.AX2_V_MAX n) ∧ 0 < r (Reg.AX2_A_MAX n)) && r (Reg.AX6_GEAR_DEN n) != 0

/-- The least WD_US of a pair's safety connections: the gap bound of R426 and 2 ticks, in ns (R410). -/
def gapNs (mode : Nat) : Nat := if mode = 2 then 49 * 31250 else 42 * 31250

/-- R410 for a unit of a pair; the journal of a unit of none lies in the Hoard too, where it was placed (R274).
(DEDUCED, log 115, unsafe.) -/
def Dev.pairOk (d : Dev) : Bool :=
  let base := d.nat (act Reg.R5800_HOARD_BASE); let size := d.nat (act Reg.R5800_HOARD_SIZE) * 1048576
  let j := d.nat Reg.R3802_JOURNAL_BASE
  let placed := decide (base ≤ j ∧ j + 64 * d.nat Reg.R3802_JOURNAL_ENTRIES ≤ base + size)
  if !d.paired then j == 0 || placed
  else
    (base % 2097152 == 0 && decide (0x800000000 ≤ base ∧ base + size ≤ 0xC00000000 ∧ size ≤ 536870912) &&
      placed &&
      (List.range 128).all fun k => d.nat (act (Reg.R1500_CONN k)) == 0xFFFF ||
        decide (gapNs (d.nat (act Reg.R5800_PAIR_MODE)) ≤ 1000 * d.nat (act (Reg.R1500_WD_US k))))

/-- The axis whose commanded position an axis follows (R24, R114). -/
def Dev.srcAxis (d : Dev) (n : Nat) : Option Nat :=
  let i := d.nat (Reg.AX6_SRC_INDEX n)
  if d.nat (Reg.AX6_SRC_KIND n) = 3 ∧ i < 128 then some i else none

/-- The axes met from `n` on along the sources, up to the return to `n`; none where the way does not lead back. -/
def Dev.srcLoop (d : Dev) (fuel n at_ : Nat) : Option (List Nat) :=
  match fuel, d.srcAxis at_ with
  | fuel + 1, some i => if i = n then some [at_] else (d.srcLoop fuel n i).map (at_ :: ·)
  | _, _ => none

/-- Whether an axis is the first of a source loop (R24). -/
def Dev.firstOfLoop (d : Dev) (n : Nat) : Bool :=
  match d.srcLoop 128 n n with
  | some l => l.all fun i => decide (n ≤ i)
  | none => false

/-- Every rule the configuration breaks: code, kind, subject, DETAIL, in the order of the table of R458.
(DESIGN CHOICE, log 24, safe; DESIGN CHOICE, log 27, safe.) -/
def Dev.findings (d : Dev) : List (Nat × Nat × Nat × Nat) :=
  let dev := fun (bad : Bool) (code detail : Nat) => if bad then [(code, Kind.device, 0, detail)] else []
  let excess := fun (t : Option Nat) (row : Nat) =>
    match t with | some t => [(Code.BUDGET_EXCEEDED, Kind.device, 0, budgetDetail row t)] | none => []
  let direct := (List.range 128).filter fun n => d.reg (Reg.AX7_MODE n) == 1
  let bad := fun n => !d.structureValid n || (direct.drop 32).contains n
  let t := d.takeStructures
  let geo := d.geometryCheck 0x80; let sep := d.separationCheck 0x80
  excess t.sectionsOver 1 ++ dev (decide (3200000 < d.pairLoad 0x80)) Code.BUDGET_EXCEEDED (budgetDetail 4 0xFF) ++
    excess (releaseOver (d.bytes Reg.R3804_ACTIVE)).head? 6 ++
    dev (!d.schedBudget d.sched d.pdMap) Code.BUDGET_EXCEEDED (budgetDetail 7 0xFF) ++
    dev (decide (d.powerLimit < t.powerEst)) Code.BUDGET_EXCEEDED (budgetDetail 0 0xFF) ++
    ((List.range 128).filter bad).map (fun n => (Code.STRUCTURE_INVALID, Kind.axis, n, 0)) ++
    ((List.range 128).filter fun n => !d.axisFields n).map (fun n => (Code.OD_RANGE, Kind.axis, n, 0)) ++
    ((List.range 128).filter d.firstOfLoop).map (fun n => (Code.OD_RANGE, Kind.axis, n, 0)) ++
    dev (!t.schedOk d.sched d.pdMap) Code.SCHEDULE_INVALID 0 ++ dev (d.safetyCheck 0x80 != Code.STATUS_OK) Code.SAFETY_INVALID 0 ++
    dev (geo != Code.STATUS_OK) geo 0 ++ dev (sep != Code.STATUS_OK) sep 0 ++ dev (!d.pairOk) Code.PAIR_INVALID 0

/-- The configuration validated: every failing rule enters the fault log, the first one's code is answered, and a
configuration that passes comes into force with its lanes assigned (R80) and its figures reported (R45). -/
def Dev.validate (d : Dev) : Nat × Dev :=
  match d.findings with
  | [] =>
    let d := iterate 128 (fun n d => d.countSections n) d.takeStructures.assignLanes.laneFigures.budgetFigures
    (Code.STATUS_OK, { d with eng := { d.eng with order := some d.profileOrder } })
  | (code, k, s, x) :: r =>
    (code, each ((code, k, s, x) :: r) (fun (code, k, s, x) d =>
      (d.when (code == Code.STRUCTURE_INVALID) fun d => d.loopCode s code).raise code k s 0 x) d)

end Sys2Proof.Machine
end

