-- ==== Sys2Proof/Machine/Commit.lean ====
section
/-! DEFINITION. Commits of the banked tables (R35 to R39, R76, R149, R189, R213, R269, R311, R396, R445, R462): requests and
their lateness, the cut-off, the switch, held commits. -/

namespace Sys2Proof.Machine

/-! ## The banked tables -/

/-- The banked tables, each known by its COMMIT_CYCLE, ARM_CYCLE or START_CYCLE entry. -/
inductive Table
  | axis (n : Nat) | bank (b : Nat) | start (g : Nat) | arm (s : Nat) | release | sched | expected
deriving DecidableEq, Repr

/-- The table an entry requests commits of. -/
def tableOf (index sub : Nat) : Option Table :=
  if 0x2000 ≤ index ∧ index < 0x2800 ∧ index % 16 = 9 ∧ sub = 0x0D then some (.axis ((index - 0x2000) / 16))
  else if index = 0x5000 ∧ sub = 6 then some (.bank 1)
  else if index = 0x3100 ∧ sub = 1 then some (.bank 2)
  else if index = 0x3200 ∧ sub = 1 then some (.bank 3)
  else if 0x3430 ≤ index ∧ index < 0x3440 ∧ sub = 0x12 then some (.start (index - 0x3430))
  else if 0x3410 ≤ index ∧ index < 0x3420 ∧ sub = 0x0B then some (.arm (index - 0x3410))
  else if index = 0x3804 ∧ sub = 4 then some .release
  else if index = 0x1420 ∧ sub = 4 then some .sched
  else if index = 0x1220 ∧ sub = 4 then some .expected
  else none

def keyTable (key : Nat) : Option Table := tableOf (key / 256) (key % 256)

/-- The entry with which a table is requested, its LATE_POLICY, its status and its DONE_CYCLE. -/
def Table.key : Table → Nat
  | .axis n => Reg.AX9_COMMIT_CYCLE n
  | .bank b => bankCommit b
  | .start g => Reg.R3430_START_CYCLE g
  | .arm s => Reg.R3410_ARM_CYCLE s
  | .release => Reg.R3804_COMMIT_CYCLE
  | .sched => Reg.R1420_COMMIT_CYCLE
  | .expected => Reg.R1220_COMMIT_CYCLE

def Table.policy : Table → Nat
  | .axis n => Reg.AX9_LATE_POLICY n
  | .bank b => bankCommit b + 1
  | .start g => Reg.R3430_LATE_POLICY g
  | .arm s => Reg.R3410_LATE_POLICY s
  | .release => Reg.R3804_LATE_POLICY
  | .sched => Reg.R1420_LATE_POLICY
  | .expected => Reg.R1220_LATE_POLICY

def Table.status : Table → Option Nat
  | .axis n => some (Reg.AX9_COMMIT_STATUS n)
  | .bank 1 => some Reg.R5000_COMMIT_STATUS
  | .bank 2 => some Reg.R3100_COMMIT_STATUS
  | .bank _ => some Reg.R3200_COMMIT_STATUS
  | .start g => some (Reg.R3430_STATUS g)
  | .arm _ => none
  | .release => some Reg.R3804_COMMIT_STATUS
  | .sched => some Reg.R1420_COMMIT_STATUS
  | .expected => some Reg.R1220_COMMIT_STATUS

def Table.done : Table → Option Nat
  | .axis n => some (Reg.AX9_DONE_CYCLE n)
  | .bank 1 => some Reg.R5000_DONE_CYCLE
  | .bank 2 => some Reg.R3100_DONE_CYCLE
  | .bank _ => some Reg.R3200_DONE_CYCLE
  | .start _ | .arm _ => none
  | .release => some Reg.R3804_DONE_CYCLE
  | .sched => some Reg.R1420_DONE_CYCLE
  | .expected => some Reg.R1220_DONE_CYCLE

/-! ## Outcomes -/

/-- A table's status shown. -/
def Dev.showStatus (d : Dev) (t : Table) (code : Nat) : Dev :=
  match t.status with
  | some k => d.set k code
  | none => d

/-- A request that is over with a code: shown, and logged unless it is STATUS_OK (R459, R554); Sett's code is one of source 64 too
(R256, R289). A request of the table that
still waits is shown again. (DEDUCED, log 22, safe.) -/
def Dev.commitOutcome (d : Dev) (t : Table) (code : Nat) : Dev :=
  let d := d.showStatus t code
  let d := match t with
    | .axis n => d.when (code == Code.BANK_INVALID) fun d => d.loopCode n code
    | _ => d
  let d := d.when (code != Code.STATUS_OK) fun d => d.raise code Kind.table 0 0 (t.key * 256)
  let d := d.when (code == Code.RELEASE_INVALID) fun d => (d.set Reg.R3800_LAST_CODE code).raisePlic 64
  d.when (code != Code.LATE && (mget none d.pend t.key).isSome) fun d => d.showStatus t Code.COMMIT_PENDING

/-- A request that ends without its switch: what waited for it is idle again (R197, R203). -/
def Dev.notSwitched (d : Dev) (t : Table) : Dev :=
  match t with
  | .start g => d.when (d.nat (Reg.R3430_STATE g) == 1) fun d => d.set (Reg.R3430_STATE g) 0
  | .arm s => d.when (d.nat (Reg.R3410_RUN_STATE s) == 1) fun d => d.set (Reg.R3410_RUN_STATE s) 0
  | _ => d

/-- A pending request ended with a code and without its switch. -/
def Dev.endRequest (d : Dev) (key code : Nat) : Dev :=
  let tr := (mget none d.pend key).bind Pending.tracker
  let d := d.dropPending key
  let d := match tr with
    | some t => d.setTracker t { d.tracker t with waiting := false }
    | none => d
  match keyTable key with
  | some t => (d.notSwitched t).commitOutcome t code
  | none => d

/-! ## Requests (R35 to R37, R445) -/

/-- Whether the commit cut-off of this cycle has passed. (DEDUCED, log 21, unsafe.) -/
def Dev.pastCutoff (d : Dev) : Bool := d.ph.cutoff || (d.clk.tick == 7 && decide (28000 < d.ph.off))

/-- The extended cycle a request for cycle `N` switches at and whether it passed; none where it is rejected with LATE.
(DEDUCED, log 21, unsafe.) -/
def Dev.judgeCommit (d : Dev) (N policy : Nat) : Option (Nat × Bool) :=
  let k := (N % 0x100000000 + 0x100000000 - d.cycle) % 0x100000000
  if 1 ≤ k ∧ k < 0x80000000 ∧ ¬(k = 1 ∧ d.pastCutoff = true) then some (d.clk.cycle64 + k, false)
  else if policy = 1 then some (d.clk.cycle64 + (if d.pastCutoff then 2 else 1), true)
  else none

/-- The next place in the order in which requests became pending, and the next group. (DEDUCED, log 21, unsafe.) -/
def Dev.nextRequest (d : Dev) : Nat := d.pend.foldl (fun m (_, p) => match p with | some p => max m (p.seq + 1) | none => m) 1
def Dev.nextGroup (d : Dev) : Nat := d.pend.foldl (fun m (_, p) => match p with | some p => max m (p.group + 1) | none => m) 1

/-- A pending request replaced: it, and every member of its group, completes with COMMIT_SUPERSEDED (R37, R445). -/
def Dev.supersede (d : Dev) (key : Nat) : Dev :=
  match mget none d.pend key with
  | none => d
  | some q =>
    let keys := if q.group = 0 then [key]
      else d.pend.filterMap fun (k, p) => match p with | some p => if p.group = q.group then some k else none | none => none
    each keys (fun k d =>
      let tr := (mget none d.pend k).bind Pending.tracker
      let d := { d with pend := mset none d.pend k none }
      let d := match tr with
        | some t => d.setTracker t { d.tracker t with waiting := false }
        | none => d
      match keyTable (if k % 256 < 128 then k else k - 0x80) with
      | some t => (d.notSwitched t).commitOutcome t Code.COMMIT_SUPERSEDED
      | none => d) d

/-- An accepted request becomes the table's pending commit: it replaces one before its cut-off, and waits behind one after
it (R37). (DEDUCED, log 23, safe.) -/
def Dev.placeRequest (d : Dev) (t : Table) (p : Pending) : Dev :=
  let at_ : Nat := match mget none d.pend t.key with
    | some q => if q.ready then behind t.key else t.key
    | none => t.key
  let d := d.supersede at_
  let d := { d with pend := mset none d.pend at_ (some p) }
  let d := d.showStatus t Code.COMMIT_PENDING
  match t with
  | .start g => d.when (d.nat (Reg.R3430_STATE g) != 2) fun d => d.set (Reg.R3430_STATE g) 1
  | .arm s => d.when (d.nat (Reg.R3410_RUN_STATE s) == 0) fun d => d.set (Reg.R3410_RUN_STATE s) 1
  | _ => d

/-- The code with which a table refuses a request as such (R202, R213), or STATUS_OK. (DEDUCED, log 112, safe.) -/
def Dev.requestRefusal (d : Dev) (t : Table) : Nat :=
  match t with
  | .axis n =>
    if (List.range 4).any fun l => d.bit (Reg.AX9_COMMIT_MASK n) l && d.trackOwns n l then Code.TRACK_OWNS_BANK
    else Code.STATUS_OK
  | .arm s => d.captureCheck s
  | _ => Code.STATUS_OK

/-- A request judged and, where accepted, held pending; `policy`, `seq` and `group` as its group or its table has them. -/
def Dev.request (d : Dev) (t : Table) (N policy seq group : Nat) : Dev :=
  let d := d.set t.key N
  match d.judgeCommit N policy with
  | none => d.commitOutcome t Code.LATE
  | some (cycle, late) =>
    let (mask, bump) := match t with
      | .axis n => (d.nat (Reg.AX9_COMMIT_MASK n), d.nat (Reg.AX9_BUMPLESS_MASK n))
      | _ => (0, 0)
    let d := match t, d.safe.session with
      | .bank b, some s => { d with safe := { d.safe with bankUser := mset 0 d.safe.bankUser b s.user } }
      | _, _ => d
    d.placeRequest t { seq, cycle, policy, late, group, mask, bump }

/-- A write of a table's COMMIT_CYCLE, ARM_CYCLE or START_CYCLE by a path that may write it. -/
def Dev.commitRequest (d : Dev) (t : Table) (N : Nat) : Dev :=
  let code := d.requestRefusal t
  if code ≠ Code.STATUS_OK then (d.commitOutcome t code).finish code
  else (d.request t N (d.nat t.policy) d.nextRequest 0).finish Code.STATUS_OK

/-! ## The cut-off (R27, R35, R38, R445) -/

/-- The two images of a table changed over. -/
def Dev.swapImages (d : Dev) (inactive active : Nat) : Dev :=
  let new := d.bytes inactive
  let old := d.bytes active
  (d.setBytes inactive old).setBytes active new

/-- The values of a table switched, without what else its switch brings about. -/
def Dev.applyTable (d : Dev) (t : Table) (p : Pending) : Dev :=
  match t with
  | .axis n => d.switchBanks n p.mask p.bump
  | .bank b => d.activate b
  | .release => d.swapImages Reg.R3804_INACTIVE Reg.R3804_ACTIVE
  | .sched =>
    let d := (d.swapImages Reg.R1420_INACTIVE Reg.R1420_ACTIVE).swapImages Reg.R1600_MAP_INACTIVE Reg.R1600_MAP_ACTIVE
    d.set Reg.R1420_SCHED_ID (fieldLE d.sched 4 4)
  | .expected =>
    let d := d.swapImages Reg.R1220_INACTIVE Reg.R1220_ACTIVE
    d.set Reg.R1220_CONFIG_EPOCH (Config.tableEpoch (d.bytes Reg.R1220_ACTIVE) : Nat)
  | .start _ | .arm _ => d

/-- The staged images of a table judged beside the configuration `d`: the code, and DETAIL of BUDGET_EXCEEDED where a budget
is broken. (DEDUCED, log 23, safe; DEDUCED, log 25, safe.) -/
def Dev.tableCheck (d : Dev) (t : Table) (p : Pending) : Nat × Option Nat :=
  match t with
  | .axis n =>
    if !d.banksValid n p.mask p.bump then (Code.BANK_INVALID, none)
    else
      match (d.switchBanks n p.mask p.bump).sectionsOver with
      | some k => (Code.BANK_INVALID, some (budgetDetail 1 k))
      | none => (Code.STATUS_OK, none)
  | .bank 1 =>
    if d.safetyCheck 0 ≠ Code.STATUS_OK then (d.safetyCheck 0, none)
    else if d.bankDigest 1 0 ≠ d.nat Reg.R5000_EXPECTED_DIGEST then (Code.SAFETY_DIGEST_MISMATCH, none)
    else (Code.STATUS_OK, none)
  | .bank 2 =>
    let c := d.geometryCheck 0
    (c, if c = Code.DISTANCE_BUDGET then some (budgetDetail 4 0xFF) else none)
  | .bank _ => (d.separationCheck 0, none)
  | .start _ => (Code.STATUS_OK, none)
  | .arm s => (d.captureCheck s, none)
  | .release =>
    let img := d.bytes Reg.R3804_INACTIVE
    if !releaseForm img then (Code.RELEASE_INVALID, none)
    else
      match (releaseOver img).head? with
      | some k => (Code.RELEASE_INVALID, some (budgetDetail 6 k))
      | none => (Code.STATUS_OK, none)
  | .sched =>
    let s := d.bytes Reg.R1420_INACTIVE; let m := d.bytes Reg.R1600_MAP_INACTIVE
    if d.schedOk s m then (Code.STATUS_OK, none)
    else (Code.SCHEDULE_INVALID, if schedForm s && mapForm m (schedCount s) && !d.schedBudget s m
      then some (budgetDetail 7 0xFF) else none)
  | .expected => (if expectedForm (d.bytes Reg.R1220_INACTIVE) then Code.STATUS_OK else Code.BANK_INVALID, none)

/-- One member taken in or not: its key, its code, the budget it breaks; the configuration with it. -/
def Dev.takeIn (v : Dev) (key : Nat) (p : Pending) : (Nat × Nat × Option Nat) × Dev :=
  match keyTable key with
  | none => ((key, Code.STATUS_OK, none), v)
  | some t =>
    let (code, budget) := v.tableCheck t p
    ((key, code, budget), if code = Code.STATUS_OK then v.applyTable t p else v)

/-- The members of a group taken in together (R445): every member's outcome, and the configuration with them if all pass. -/
def Dev.takeInGroup (v : Dev) (ms : List (Nat × Pending)) : List (Nat × Nat × Option Nat) × Dev :=
  let (outs, w) := ms.foldl (fun (outs, w) (k, p) => let (o, w) := Dev.takeIn w k p; (outs ++ [o], w)) ([], v)
  if outs.all fun o => o.2.1 == Code.STATUS_OK then (outs, w)
  else (outs.map fun (k, c, b) => (k, if c = Code.STATUS_OK then Code.COMMIT_GROUP_FAILED else c, b), v)

/-- The commits that switch at the next SI of T0, in the order in which they became pending. -/
def Dev.dueNext (d : Dev) : List (Nat × Pending) :=
  (d.pend.filterMap fun (k, p) =>
    match p with
    | some p => if p.cycle = d.clk.cycle64 + 1 ∧ p.held = false ∧ p.ready = false ∧ k % 256 < 128 then some (k, p) else none
    | none => none).mergeSort fun a b => decide (a.2.seq ≤ b.2.seq)

/-- The due commits judged one at a time, a group together. -/
def Dev.judgeAll (fuel : Nat) (v : Dev) (l : List (Nat × Pending)) : List (Nat × Nat × Option Nat) :=
  match fuel, l with
  | 0, _ => []
  | _, [] => []
  | fuel + 1, (k, p) :: r =>
    let mine := if p.group = 0 then [(k, p)] else (k, p) :: r.filter fun q => q.2.group = p.group
    let rest := if p.group = 0 then r else r.filter fun q => q.2.group ≠ p.group
    let (outs, v) := v.takeInGroup mine
    outs ++ Dev.judgeAll fuel v rest

/-- COMMIT_CUTOFF: at +28.0 µs of T7 the staged images of the commits due next are validated; those that pass are locked. -/
def Dev.commitCutoff (d : Dev) : Dev :=
  if d.clk.tick ≠ 7 ∨ d.ph.cutoff = true then d
  else
    let d := d.at 28000
    let outs := Dev.judgeAll d.pend.length d d.dueNext
    let d := each outs (fun (k, code, budget) d =>
      if code = Code.STATUS_OK then
        { d with pend := mset none d.pend k ((mget none d.pend k).map fun p => { p with ready := true }) }
      else
        let d := match budget with
          | some x => d.raise Code.BUDGET_EXCEEDED Kind.device 0 0 x
          | none => d
        d.endRequest k code) d
    { d with ph := { d.ph with cutoff := true } }

/-! ## The switch (R35, R39, R76 to R80) -/

/-- The switch of a table with all it brings about. -/
def Dev.switchTable (d : Dev) (t : Table) (p : Pending) : Dev :=
  let now := d.cycle
  let pend := (d.dropPending t.key).pend
  let d := match t with
    | .axis n =>
      let changes := d.countsChange n p.mask
      (((d.applyTable (.axis n) p).when changes Dev.assignLanes).laneFigures.countSections n).budgetFigures
    | .bank b => d.switchBank b
    | .release => (d.applyTable .release p).budgetFigures
    | .sched => (d.applyTable .sched p).budgetFigures
    | t => d.applyTable t p
  let d := match t.done with
    | some k => d.set k now
    | none => d
  let d := { d with pend }
  let d := d.commitOutcome t (if p.late then Code.LATE_EXECUTED else Code.STATUS_OK)
  match p.tracker with
  | some k => d.trackSwitched k
  | none => d

/-- BANK_SWITCH of the table whose request entry is named; starts and arms have rows of their own. -/
def Dev.bankSwitch (d : Dev) (index sub : Nat) : Dev :=
  match tableOf index sub with
  | none => d
  | some t =>
    match d.dueAt t.key with
    | none => d
    | some p =>
      match t with
      | .start g => d.injectionStart g
      | .arm s => d.captureArm s
      | t => if !d.inSync then d.holdCommit t.key else d.switchTable t p

/-- HELD_COMMIT_JUDGED (R39): at the first SI of T0 after the node is IN_SYNC again every held commit has passed. -/
def Dev.heldJudged (d : Dev) : Dev :=
  if d.clk.tick ≠ 0 ∨ d.inSync = false then d
  else
    each (d.pend.filterMap fun (k, p) =>
        match p with | some p => if p.held then some (k, p) else none | none => none)
      (fun (k, p) d =>
        if p.policy = 1 then
          { d with pend := mset none d.pend k (some { p with held := false, late := true, cycle := d.clk.cycle64 + 1 }) }
        else d.endRequest k Code.LATE) d

end Sys2Proof.Machine
end

