-- ==== Sys2Proof/Machine/Reset.lean ====
section
/-! DEFINITION. The module reset (R438, R458, R482, R531 to R534): what it keeps, and the end of an update session. -/

namespace Sys2Proof.Machine

/-- The entries that no reset changes: what the redundancy partner's flash holds of authority (R414), the numbers that are never
reused (R399, R459). (DEDUCED, log 16, unsafe.) -/
def keptKeys : List Nat :=
  [Reg.R5801_STORED_EPOCH, Reg.R5801_HOLDER, Reg.R1003_NEXT_SEQ, Reg.R5004_NEXT_SEQ, Reg.R5004_LOG_WRAPPED]

/-- The slot at a number (0 and 1 firmware A and B, 2 and 3 application A and B). -/
def Dev.fwSlot (d : Dev) (k : Nat) : FwSlot := mget {} d.flash.slots k
def Dev.setFlash (d : Dev) (f : Flash → Flash) : Dev := { d with flash := f d.flash }
def Dev.setSlotImage (d : Dev) (k : Nat) (x : FwSlot) : Dev :=
  d.setFlash fun fl => { fl with slots := mset {} fl.slots k x }
def Dev.setBoot (d : Dev) (f : Boot → Boot) : Dev := { d with boot := f d.boot }

/-- The states of a slot (`OD 6010.01`). -/
abbrev SlotState.empty : Nat := 0
abbrev SlotState.receiving : Nat := 1
abbrev SlotState.staged : Nat := 2
abbrev SlotState.trial : Nat := 3
abbrev SlotState.confirmed : Nat := 4
abbrev SlotState.previous : Nat := 5
abbrev SlotState.failed : Nat := 6

/-- The device after a reset: everything at its default but what flash, one-time memory, the always-on domain and the supplies
hold. An update session whose slot is not STAGED has ended (R482). `by_` says how it came about: 1 DEV_CONTROL 5, 2 another
reset, 3 the loss of both feeds. (DEDUCED, log 16, unsafe.) -/
def Dev.afterReset (d : Dev) (by_ : Nat) : Dev :=
  let n : Dev :=
    { od := d.od.filter (fun (k, _) => keptKeys.contains k), fresh := d.fresh, aon := d.aon, flash := d.flash, power := d.power,
      safe := { log := d.safe.log }, boot := { resetBy := by_ } }
  match d.boot.update with
  | none => n
  | some u =>
    if (n.fwSlot u.slot).state = SlotState.staged then n.setBoot fun b => { b with update := some u }
    else (n.setSlotImage u.slot {}).raise Code.UPDATE_ABANDONED Kind.other 0 0 u.slot

/-- DEV_CONTROL 5 (R458): a module reset; the device comes back in BOOT, the bypass engaged.
(DESIGN CHOICE, log 10, unsafe; DEDUCED, log 16, unsafe; DEDUCED, log 125, safe; DEDUCED, log 128, safe; DEDUCED, log 130, safe.) -/
def Dev.moduleReset (d : Dev) : Dev := d.afterReset 1

end Sys2Proof.Machine
end

