-- ==== Sys2Proof/Machine/DevCtl.lean ====
section
/-! DEFINITION. DEV_CONTROL (R458), the cycle-point interrupts (R40 to R42, R46), and the failures of channels and processors
(R83, R367, R417). -/

namespace Sys2Proof.Machine

/-! ## DEV_CONTROL -/

/-- A command done: its code in CONTROL_STATUS. -/
def Dev.ctlDone (d : Dev) (code : Nat) : Dev := (d.set Reg.R1001_CONTROL_STATUS code).finish code

/-- A command refused in the present state. -/
def Dev.ctlRefused (d : Dev) : Dev := (d.raise Code.DEV_CONTROL_REFUSED Kind.device 0).ctlDone Code.DEV_CONTROL_REFUSED

/-- The configuration validated: the device stays in CONFIG, or, where it passes and the node has a number, goes to SYNCING with
the bypass released and the network in LISTEN. The password session ends with that. (DESIGN CHOICE, log 39, safe.) -/
def Dev.validateNow (d : Dev) : Dev :=
  match d.validate with
  | (code, d) =>
    let d := d.ctlDone code
    if code = Code.STATUS_OK ∧ d.nat Reg.R1400_NODE_ID ≠ 0 then
      let d := d.endSession.goTo DevState.syncing
      let d := d.setLink fun l => { l with bypass := false }
      ((d.set (Reg.R1410_LINK_STATE 0) 2).set (Reg.R1410_LINK_STATE 1) 2).enterListen
    else d

/-- 4 VALIDATE. -/
def Dev.devValidate (d : Dev) : Dev := if d.state = DevState.config then d.validateNow else d.ctlRefused

/-- 1 RUN: from SAFE, IN_SYNC, with both channel heartbeats, none lost since boot, and no debug access open (R492).
(DEDUCED, log 126, unsafe.) -/
def Dev.devRun (d : Dev) : Dev :=
  if d.state = DevState.safe ∧ d.inSync ∧ d.safe.hbA ∧ d.safe.hbB ∧ ¬d.safe.lost ∧ d.nat Reg.R6050_DEBUG_SCOPE = 0 then
    (d.goTo DevState.run).ctlDone Code.STATUS_OK
  else d.ctlRefused

/-- 2 SAFE: from RUN. CONFIRM_CYCLES goes on (R484). (DEDUCED, log 126, unsafe.) -/
def Dev.devSafe (d : Dev) : Dev :=
  if d.state = DevState.run then
    let n := d.nat Reg.R6020_CONFIRM_CYCLES
    let d := ((d.enterSafe 0).set Reg.R6020_CONFIRM_CYCLES n).setBoot fun b => { b with safeByCmd := true }
    d.ctlDone Code.STATUS_OK
  else d.ctlRefused

/-- 3 CONFIG: torque and safe outputs off, out of the network, the bypass engaged. (DEDUCED, log 126, unsafe.) -/
def Dev.devConfig (d : Dev) : Dev :=
  if d.state = DevState.run ∨ d.state = DevState.safe ∨ d.state = DevState.syncing then
    let d := (((d.goTo DevState.config).stoAll 0).outputsOff).permitsOff
    let d := d.when (d.net != NetState.listen) fun d => d.leaveSync NetState.listen 0
    let d := d.setLink fun l => { l with bypass := true }
    let d := (d.set (Reg.R1410_LINK_STATE 0) 0).set (Reg.R1410_LINK_STATE 1) 0
    d.ctlDone Code.STATUS_OK
  else d.ctlRefused

/-- 5 RESET, in any state. -/
def Dev.devReset (d : Dev) : Dev := d.moduleReset.finish Code.STATUS_OK

/-- A write of DEV_CONTROL. -/
def Dev.devControl (d : Dev) (code : Nat) : Dev :=
  match code with
  | 1 => d.devRun
  | 2 => d.devSafe
  | 3 => d.devConfig
  | 4 => d.devValidate
  | 5 => d.devReset
  | _ => d.finish Code.OD_RANGE

/-! ## Cycle-point interrupts -/

def Dev.cpiOf (d : Dev) (e : Nat) : Cpi := mget {} d.cpi e
def Dev.setCpi (d : Dev) (e : Nat) (x : Cpi) : Dev := { d with cpi := mset {} d.cpi e x }

/-- The settings of R46 as they stand from the SI of a T0. -/
def Dev.takeCpi (d : Dev) : Dev :=
  iterate 16 (fun e d => d.setCpi e
    { d.cpiOf e with mode := d.nat (Reg.R1110_MODE e), offset := d.nat (Reg.R1110_OFFSET_NS e),
                     hart := d.nat (Reg.R1110_TARGET_HART e) }) d

/-- Whether the instant of an entry lies in the present tick and has neither passed nor been fired at (R40): in mode 1 the tick of the
cycle its offset falls into, in mode 2 every tick. (DESIGN CHOICE, log 157, safe.) -/
def Dev.cpiDue (d : Dev) (x : Cpi) : Bool :=
  (x.mode == 2 || (x.mode == 1 && x.offset / 31250 == d.clk.tick)) && x.fired != some d.tickAbs && decide (d.ph.off ≤ x.offset % 31250)

/-- CPI_FIRE: network time reaches the instant of entry `e`; before the PLIC source of an earlier firing was claimed, it is
missed. (DESIGN CHOICE, log 26, safe.) -/
def Dev.cpiFire (d : Dev) (e : Nat) : Dev :=
  let x := d.cpiOf e
  if 16 ≤ e ∨ d.cpiDue x = false ∨ ¬d.flag Reg.R1140_NT_VALID ∨ ¬d.acting then d
  else
    let x := { x with fired := some d.tickAbs }
    let d := (d.setCpi e x).at (x.offset % 31250)
    if d.plic.contains (32 + e) then
      let d := (d.count (Reg.R1110_MISSED e)).setCpi e { x with told := true }
      d.when (!x.told) fun d => d.raise Code.CPI_MISSED Kind.other 0 0 e
    else d.raisePlic (32 + e)

/-- MISSED cleared: the next missed firing is raised again. -/
def Dev.cpiCleared (d : Dev) (e : Nat) : Dev := d.setCpi e { d.cpiOf e with told := false }

/-! ## Failures -/

/-- LOCKSTEP_MISMATCH: the spec gives it no status code. (DEDUCED, log 116, safe.) -/
def Dev.lockstepMismatch (d : Dev) : Dev :=
  match d.takeFresh with
  | (k, d) => d.unitFails (Config.lockstepCause k % 65536)

/-- CHANNEL_LOST: channel `ch` (0 A, 1 B) has had no heartbeat of the other for 2 ticks. It turns off its switches and permits,
and the device goes to SAFE or, active in a pair, fails. -/
def Dev.channelLost (d : Dev) (ch : Nat) : Dev :=
  let d := { d with safe := { d.safe with lost := true, hbA := d.safe.hbA && ch != 1, hbB := d.safe.hbB && ch != 0 } }
  let d := (d.raise Code.CHANNEL_LOST Kind.device 0 0 ch).outputsOff.permitsOff
  d.unitFails Code.CHANNEL_LOST

/-- LANE_FAULT, and with the last lane gone the failure of the unit (R83, R417). (DEDUCED, log 116, safe.) -/
def Dev.laneFaultUnit (d : Dev) (lane : Nat) : Dev :=
  let had := d.nat Reg.R2800_LANE_MAP != 0
  let d := d.laneFault lane
  d.when (had && d.nat Reg.R2800_LANE_MAP == 0) fun d => d.unitFails Code.LANE_FAULT

end Sys2Proof.Machine
end

