-- ==== Sys2Proof/Machine/Store.lean ====
section
/-! DEFINITION. The settings store (R438, R460, R486 to R488): what a generation holds, how it is written and loaded. -/

namespace Sys2Proof.Machine

/-- Whether the value under a key is kept in the settings store: of a STORED entry its value, of one staged in place its active
value. -/
def storedKey (k : Nat) : Bool :=
  match entryOf k with
  | some (e, _) => e.stored && (!e.banked || decide (128 ≤ k % 256 ∧ entryAt (k / 256) (k % 256) = none))
  | none => false

/-- The STORED values that differ from their defaults. -/
def Dev.storedOd (d : Dev) : Map Int := d.od.filter fun x => storedKey x.1
def Dev.storedDom (d : Dev) : Map Bytes := d.dom.filter fun x => storedKey x.1

def Dev.setSlotOf (d : Dev) (i : Nat) : SetSlot := mget {} d.flash.sets i
def Dev.putSetSlot (d : Dev) (i : Nat) (x : SetSlot) : Dev := d.setFlash fun fl => { fl with sets := mset {} fl.sets i x }

/-- The newest generation of the slot in use. -/
def Dev.storeNow (d : Dev) : SetGen := (d.setSlotOf d.flash.setUse).gens.headD { gen := 0, od := [], dom := [] }

/-- Whether STORED values changed since the newest generation. -/
def Dev.storeWaits (d : Dev) : Bool := d.storedOd != d.storeNow.od || d.storedDom != d.storeNow.dom

/-- A generation written to the slot in use, which keeps the two newest; `ok` says that the flash took it.
(DEDUCED, log 125, safe.) -/
def Dev.storeGeneration (d : Dev) (ok : Bool) : Dev :=
  if !d.storeWaits then d
  else if ok then
    let x := d.setSlotOf d.flash.setUse
    let g := d.storeNow.gen + 1
    let d := d.putSetSlot d.flash.setUse { x with gens := ({ gen := g, od := d.storedOd, dom := d.storedDom } :: x.gens).take 2 }
    (d.set Reg.R1004_STORE_GEN g).set Reg.R1004_STORE_STATE 0
  else (d.set Reg.R1004_STORE_STATE 3).raise Code.STORE_FAILED Kind.device 0

/-- A write of FLUSH starts a generation at once. -/
def Dev.storeFlush (d : Dev) (ok : Bool) : Dev := (d.storeGeneration ok).finish Code.STATUS_OK

/-- STORE_STATE: 3 after a generation that failed, 1 while changes wait. -/
def Dev.storeState (d : Dev) : Nat :=
  if d.nat Reg.R1004_STORE_STATE = 3 then 3 else if d.storeWaits then 1 else 0

/-- LEARNED_DIGEST of the learned points that were loaded (R186). -/
def Dev.learnedLoaded (d : Dev) : Dev :=
  iterate 16 (fun c d =>
    let b := d.bytes (Reg.CH7_LEARNED c)
    if b = domDefault (Reg.CH7_LEARNED c) then d else d.set (Reg.CH7_LEARNED_DIGEST c) (digest128 b)) d

/-- The values of a generation loaded; a value staged in place is staged and active alike. -/
def Dev.loadGen (d : Dev) (g : SetGen) : Dev :=
  let twin (k : Nat) : List Nat := if 128 ≤ k % 256 ∧ entryAt (k / 256) (k % 256) = none then [k, k - 128] else [k]
  let d := each g.od (fun (k, v) d => each (twin k) (fun k d => d.set k v) d) d
  (each g.dom (fun (k, v) d => each (twin k) (fun k d => { d with dom := mset (domDefault k) d.dom k v }) d) d).learnedLoaded

/-- The value a key has in the newest generation of the slot in use, before it is loaded. -/
def Dev.storedNat (d : Dev) (k : Nat) : Nat := (mget (odDefault k) d.storeNow.od k).toNat

end Sys2Proof.Machine
end

