-- ==== Sys2Proof/Machine/Boot.lean ====
section
/-! DEFINITION. The start (R470 to R478, R484, R487, R488): images and their verification, the boot journals, the steps with their
alternatives, the entry into CONFIG. -/

namespace Sys2Proof.Machine

/-! ## Images (R470, R471) -/

/-- The fields of a component record and of the header. -/
def compLoad (c : Bytes) : Nat := fieldLE c 16 8
def compLen (c : Bytes) : Nat := fieldLE c 8 4

def imgVersion (b : Bytes) : Nat := fieldLE b 8 4
def imgSec (b : Bytes) : Nat := fieldLE b 12 1
def imgFormat (b : Bytes) : Nat := fieldLE b 14 2
def imgMinFormat (b : Bytes) : Nat := fieldLE b 16 2
def imgCkpt (b : Bytes) : Nat := fieldLE b 18 2
def imgEntry (b : Bytes) : Nat := fieldLE b 24 8
def imgKey (b : Bytes) : Bytes := slice b 32 68

/-- Whether two load ranges meet. -/
def loadsMeet (c x : Bytes) : Bool := decide (compLoad c < compLoad x + compLen x ∧ compLoad x < compLoad c + compLen c)

/-- Whether no two of the load ranges overlap. -/
def loadsApart : List Bytes → Bool
  | [] => true
  | c :: r => !(r.any (loadsMeet c)) && loadsApart r

/-- The rules of the header and of the component table, for a firmware image (kind 1) or an application image (2). -/
def headerOk (b : Bytes) (kind : Nat) : Bool :=
  let cs := imgComps b
  let n := cs.length
  let common := fieldLE b 0 4 == 0x57464D4C && fieldLE b 4 1 == 1 && fieldLE b 5 1 == kind && decide (1 ≤ n ∧ n ≤ 16) &&
    decide (imgSec b ≤ 128) && fieldLE b 13 1 == 0 && fieldLE b 20 4 == b.length && decide (112 + 56 * n + 2820 ≤ b.length) &&
    fieldLE b 104 8 == 0 && cs.all fun c => fieldLE c 1 3 == 0 && fieldLE c 12 4 == 0
  if kind = 1 then
    common && decide (b.length ≤ 64000000) && decide (imgMinFormat b ≤ imgFormat b) && imgEntry b == 0 && fieldLE b 100 4 == 0 &&
      n == 7 && (List.range 7).all (fun k => cs.any fun c => compKind c == k + 1) && cs.all fun c => compLoad c == 0
  else
    common && decide (b.length ≤ 256000000) && imgFormat b == 0 && imgMinFormat b == 0 && imgCkpt b == 0 &&
      cs.all (fun c => compKind c == 8) && loadsApart cs

/-- The kind of the images of a slot. -/
def slotKind (s : Nat) : Nat := if s < 2 then 1 else 2

/-- Whether a public key is a key of its kind that is not revoked: a vendor key (kind 1) or an application key (2). -/
def Dev.keyOk (d : Dev) (kind : Nat) (pk : Bytes) : Bool :=
  let g := shake256 32 pk
  if kind = 1 then (List.range 4).any fun i => !d.flash.revoked.contains i && Config.vendorKey i == g
  else (List.range d.flash.apps.length).any fun i => !d.flash.revoked.contains (4 + i) && d.flash.apps.getD i [] == g

/-- The firmware slot started, and its image. -/
def Dev.fwNow (d : Dev) : Option Nat := d.flash.lastFw
def Dev.fwImage (d : Dev) : Bytes := match d.fwNow with | some s => (d.fwSlot s).image | none => []

/-- The verification of the image in a slot: STATUS_OK, IMAGE_INVALID or IMAGE_ROLLBACK. -/
def Dev.verify (d : Dev) (s : Nat) : Nat :=
  let b := (d.fwSlot s).image
  let kind := slotKind s
  let n := b.length - 2820
  if headerOk b kind = false ∨ d.keyOk kind (imgKey b) = false ∨ Config.xmssValid (imgKey b) (b.take n) (b.drop n) ≠ 1 then
    Code.IMAGE_INVALID
  else if imgSec b < (if kind = 1 then d.flash.fwMin else d.flash.appMin) then Code.IMAGE_ROLLBACK
  else if kind = 2 ∧ imgVersion d.fwImage < fieldLE b 100 4 then Code.IMAGE_INVALID
  else Code.STATUS_OK

/-! ## The journals (R473) -/

/-- A record in both journals, of the last 64 and the last 4,096. -/
def Dev.bootNote (d : Dev) (step outcome alt code detail : Nat) : Dev :=
  let r : BootRec := { boot := d.flash.boot, step, outcome, alt, code, detail, seconds := d.aon.seconds % 2 ^ 32 }
  let keep (n : Nat) (l : List BootRec) : List BootRec := (l ++ [r]).drop (l.length + 1 - n)
  let d := d.setFlash fun fl => { fl with journal := keep 4096 fl.journal }
  { d with aon := { d.aon with journal := keep 64 d.aon.journal } }

/-- The bytes of a record. -/
def BootRec.bytes (r : BootRec) : Bytes :=
  leBytes 4 r.boot ++ [byte r.step, byte r.outcome, byte r.alt, 0] ++ leBytes 2 r.code ++ leBytes 2 r.detail ++ leBytes 4 r.seconds

/-- The last record of the journal that judges the previous start (R474). -/
def Dev.lastRec (d : Dev) : Option BootRec := if d.aon.lost then d.flash.journal.getLast? else d.aon.journal.getLast?

/-- A step failed with an alternative: recorded, and remembered until a start reaches CONFIG; the start ends in a reset, and the
log that the reset empties begins with the failure. -/
def Dev.stepFails (d : Dev) (step a alt code detail : Nat) : Dev :=
  let d := d.bootNote step 2 alt code detail
  let d := d.setFlash fun fl => { fl with failed := (step, a) :: fl.failed }
  (d.afterReset 2).raise Code.BOOT_STEP_FAILED Kind.other 0 0 step

/-! ## Step 1: the previous start judged (R351, R474, R484, R485, R494, R516) -/

/-- Retired units of a kind replaced by their spares before the units are loaded. -/
def Dev.applyRetired (d : Dev) : Dev :=
  let d := each d.flash.spared (fun (kind, unit, spare) d =>
    if kind = 0 then
      iterate 24 (fun k d => d.when (d.nat (Reg.R3840_PHYS_CORE k) == unit) fun d => d.set (Reg.R3840_PHYS_CORE k) spare) d
    else if kind = 1 then
      (d.set Reg.R2800_LANE_MAP (withBit (withBit (d.nat Reg.R2800_LANE_MAP) unit false) spare true : Nat)).set
        Reg.R2800_SPARE_STATE 3
    else if kind = 2 then
      d.set Reg.R3101_UNIT_MAP (withBit (withBit (d.nat Reg.R3101_UNIT_MAP) unit false) spare true : Nat)
    else if kind = 3 then
      d.set Reg.R5801_XLINK_LANES (withBit (withBit (d.nat Reg.R5801_XLINK_LANES) unit false) spare true : Nat)
    else d) d
  d.when (d.flash.retired.any fun (k, u, _) => k == 1 && u == 4) fun d => d.set Reg.R2800_SPARE_STATE 4

/-- Whether the previous start was a failed attempt of its image: a reset other than DEV_CONTROL 5, a step that failed, a step
left open without the loss of both feeds. -/
def Dev.attemptFailed (d : Dev) : Bool :=
  d.boot.resetBy == 2 ||
    match d.lastRec with
    | some r => r.outcome == 2 || (r.outcome == 0 && (d.aon.lost || !d.aon.feedLoss))
    | none => false

/-- A slot that ran as TRIAL and failed becomes FAILED. -/
def Dev.fallBack (d : Dev) (s : Nat) : Dev :=
  let d := d.setSlotImage s { d.fwSlot s with state := SlotState.failed }
  let d := d.setFlash fun fl => { fl with activated := fl.activated.filter fun x => x.2 != s + 1 }
  d.raise Code.TRIAL_FALLBACK Kind.other 0 0 s

/-- What the previous start left: an open step is interrupted or failed; a TRIAL image whose attempt failed or that was started
TRIAL_MAX times falls back. -/
def Dev.judgePrevious (d : Dev) : Dev :=
  let failed := d.attemptFailed
  let d := match d.lastRec with
    | some r =>
      if r.outcome = 0 then
        if d.aon.feedLoss = true ∧ d.aon.lost = false then d.bootNote r.step 5 r.alt 0 r.detail
        else
          let a := if r.step = 4 ∨ r.step = 13 then r.detail else mget 0 d.flash.inForce r.step
          let d := d.bootNote r.step 2 r.alt Code.BOOT_STEP_FAILED r.detail
          (d.setFlash fun fl => { fl with failed := (r.step, a) :: fl.failed }).raise Code.BOOT_STEP_FAILED Kind.other 0 0 r.step
      else d
    | none => d
  let spent (s : Nat) : Bool :=
    (d.fwSlot s).state == SlotState.trial && (failed || decide (d.storedNat Reg.R6020_TRIAL_MAX ≤ (d.fwSlot s).trials))
  let d := each ((d.flash.lastFw.toList ++ d.flash.lastApp.toList).filter spent) (fun s d => d.fallBack s) d
  { d with aon := { d.aon with feedLoss := false } }

/-- Wall time from the always-on counter; the thermometers of confirmed images completed; the rest of an attestation reservation
abandoned; the retirement table applied. -/
def Dev.romCheck (d : Dev) : Dev :=
  let d :=
    if d.aon.lost then { d with wall := {}, aon := { d.aon with lost := false } }
    else ({ d with wall := { d.wall with off := (d.aon.seconds * 1000000000 * 2 ^ 40 : Nat) - d.rawNow * d.wall.rate } }).set
      Reg.R1140_WALL_STATE 1
  let d := each d.flash.confirms (fun (s, sec) d => d.setFlash fun fl =>
    if s < 2 then { fl with fwMin := max fl.fwMin sec } else { fl with appMin := max fl.appMin sec }) d
  (d.setFlash fun fl => { fl with attNext := fl.attEnd }).applyRetired

/-! ## Steps and alternatives (R475) -/

/-- The names of the steps by number, as R475 lists them. -/
abbrev Step.romCheck : Nat := 1
abbrev Step.powerClocks : Nat := 2
abbrev Step.lpddrTrain : Nat := 3
abbrev Step.fwSelect : Nat := 4
abbrev Step.loadControl : Nat := 8
abbrev Step.loadGeometry : Nat := 9
abbrev Step.loadAnalysis : Nat := 11
abbrev Step.settings : Nat := 12
abbrev Step.appSelect : Nat := 13
abbrev Step.loadApp : Nat := 14

/-- How many alternatives a step has besides the way it is done first. -/
def altCount (step : Nat) : Nat :=
  match step with
  | 3 => 3 | 5 => 1 | 6 => 1 | 7 => 1 | 8 => 2 | 9 => 2 | 10 => 1 | 11 => 1 | 12 => 1 | 14 => 1 | _ => 0

/-- The ALT of a record for alternative `a` of a step (R473). -/
def altCode (step a : Nat) : Nat :=
  if a = 0 then 0
  else if step = 3 then 3
  else if step = 12 then 5
  else if step = 14 ∨ a = 2 then 4
  else 2

/-- The way a step is done: the one in force unless it failed, else the first alternative of its row that has not.
(DEDUCED, log 128, safe.) -/
def Dev.altFor (d : Dev) (step : Nat) : Option Nat :=
  let bad (a : Nat) : Bool := d.flash.failed.contains (step, a)
  let now := mget 0 d.flash.inForce step
  if bad now then ((List.range (altCount step)).map (· + 1)).find? fun a => !bad a else some now

/-- The speed bin of LPDDR5X by alternative, in MT/s. -/
def lpddrBin (a : Nat) : Nat := match a with | 1 => 7500 | 2 => 6400 | 3 => 5500 | _ => 8533

/-- The component kind that a step loads. -/
def stepComp (step : Nat) : Nat := match step with | 5 => 1 | 6 => 3 | 7 => 2 | 8 => 4 | 9 => 5 | 10 => 6 | _ => 7

/-- The unit a failed load named, for the spare that takes its place. -/
def Dev.failedUnit (d : Dev) (step : Nat) : Nat :=
  match d.flash.journal.reverse.find? fun r => r.step = step ∧ r.outcome = 2 with
  | some r => r.detail
  | none => 0

/-- A spare unit in place of a failing one, as a boot alternative: recorded in the retirement table (R516). -/
def Dev.bootSpare (d : Dev) (kind unit spare : Nat) : Dev :=
  if d.flash.spared.contains (kind, unit, spare) then d
  else (d.setFlash fun fl => { fl with retired := fl.retired ++ [(kind, unit, false)],
                                       spared := fl.spared ++ [(kind, unit, spare)] }).applyRetired

/-- The components of an application loaded at their addresses, and every hart started at ENTRY in M mode. -/
def Dev.loadApp (d : Dev) : Nat × Dev :=
  match d.flash.lastApp with
  | none => (0, d)
  | some s =>
    let b := (d.fwSlot s).image
    let cs := imgComps b
    if cs.all (compOk b) then
      let d := each cs (fun c d => d.memWrite (compLoad c) (compBytes b c)) d
      let d := iterate 48 (fun h d => d.modHart h fun x => { x with ctx := { pc := imgEntry b } }) d
      (0, d.setSett fun st => { st with started := true })
    else (Code.IMAGE_INVALID, d)

/-- What steps 1 to 11 and 14 do with alternative `a`: the code of a failure, or 0. -/
def Dev.stepWork (d : Dev) (step a : Nat) : Nat × Dev :=
  if step = Step.romCheck ∨ step = Step.powerClocks then (0, d)
  else if step = Step.lpddrTrain then (0, d.set Reg.R6000_LPDDR_MTS (lpddrBin a))
  else if step = Step.loadApp then
    d.loadApp.1 |> fun c => (c, if a = 1 then d.loadApp.2.bootSpare 0 (d.failedUnit 14) 24 else d.loadApp.2)
  else
    let x := match d.flash.lastFw with | some s => d.fwSlot s | none => {}
    let img := if a = 1 then x.backup else x.image
    let d := d.when (a == 2) fun d =>
      if step = Step.loadControl then d.bootSpare 1 (d.failedUnit step) 4 else d.bootSpare 2 (d.failedUnit step) 16
    match (imgComps img).find? fun c => compKind c = stepComp step with
    | some c =>
      if !compOk img c then (Code.IMAGE_INVALID, d)
      else (0, d.when (step == Step.loadAnalysis) fun d => iterate 2 (fun e d => d.putLibrary e (d.libraryOf (a == 1))) d)
    | none => (Code.IMAGE_INVALID, d)

/-- A start that finds no alternative left in a required step (R476). -/
def Dev.deadEnd (d : Dev) (step : Nat) : Dev :=
  if step ≤ 2 then d
  else if step ≤ 4 then d.setBoot fun b => { b with recovery := true }
  else d.goTo DevState.failed

/-- The code and outcome of a step done: differently with an alternative. -/
def Dev.stepDone (d : Dev) (step a detail : Nat) : Dev :=
  let d := d.setFlash fun fl => { fl with inForce := mset 0 fl.inForce step a }
  if a = 0 then d.bootNote step 1 0 0 detail
  else (d.bootNote step 4 (altCode step a) Code.BOOT_ALTERNATIVE detail).raise Code.BOOT_ALTERNATIVE Kind.other 0 0 step

/-- An optional step skipped: without the analysis library both engines are out of service (R223). (DEDUCED, log 128, safe.) -/
def Dev.stepSkipped (d : Dev) (step : Nat) : Dev :=
  let d := (d.bootNote step 3 0 Code.BOOT_STEP_SKIPPED 0).raise Code.BOOT_STEP_SKIPPED Kind.other 0 0 step
  if step = Step.loadAnalysis then iterate 2 (fun e d => { d with aes := mset {} d.aes e { mget {} d.aes e with ready := false } }) d
  else (d.setFlash fun fl => { fl with lastApp := none }).raise Code.APP_ABSENT Kind.device 0

/-- What the world outside does to a start: the step that fails for a reason of the hardware, the unit it names, and the step that
stays open (none: 0). -/
structure Mishap where
  fail : Nat
  unit : Nat
  opened : Nat
deriving DecidableEq, Repr

/-- A step other than the choices of slots and the settings; whether the start goes on. -/
def Dev.plainStep (d : Dev) (step : Nat) (m : Mishap) : Dev × Bool :=
  match d.altFor step with
  | none => if step = Step.loadAnalysis then (d.stepSkipped step, true) else (d.deadEnd step, false)
  | some a =>
    let detail := if step = Step.lpddrTrain then lpddrBin a else 0
    let d := d.bootNote step 0 (altCode step a) 0 detail
    if m.opened = step then (d, false)
    else
      match (if m.fail = step then (Code.BOOT_STEP_FAILED, d) else d.stepWork step a) with
      | (0, d) => (d.stepDone step a detail, true)
      | (code, d) => (d.stepFails step a (altCode step a) code (if m.fail = step then m.unit else detail), false)

/-! ## The choice of slots (R478) -/

/-- The slots of a kind in the order of R478, without those that failed in this chain of starts. -/
def Dev.slotOrder (d : Dev) (kind step : Nat) : List Nat :=
  let all := if kind = 1 then [0, 1] else [2, 3]
  let st (s : Nat) : Nat := (d.fwSlot s).state
  let act := all.filter fun s => mget 0 d.flash.activated kind == s + 1 &&
    (st s == SlotState.staged || (st s == SlotState.trial && decide ((d.fwSlot s).trials < d.storedNat Reg.R6020_TRIAL_MAX)))
  let conf := all.filter fun s => st s == SlotState.confirmed
  let prev := all.filter fun s => st s == SlotState.previous
  let others := all.filter fun s => st s != SlotState.empty && st s != SlotState.receiving && d.verify s == Code.STATUS_OK
  (act ++ conf ++ prev ++ others).eraseDups.filter fun s => !d.flash.failed.contains (step, s)

/-- A slot started: the activated one as TRIAL, which ends its update session. -/
def Dev.startSlot (d : Dev) (kind s : Nat) : Dev :=
  let x := d.fwSlot s
  let d :=
    if mget 0 d.flash.activated kind = s + 1 then d.setSlotImage s { x with state := SlotState.trial, trials := x.trials + 1 } else d
  let d := match d.boot.update with
    | some u => if u.slot = s ∧ mget 0 d.flash.activated kind = s + 1 then d.setBoot fun b => { b with update := none } else d
    | none => d
  if kind = 1 then (d.setFlash fun fl => { fl with lastFw := some s }).set Reg.R6000_FW_SLOT s
  else (d.setFlash fun fl => { fl with lastApp := some s }).set Reg.R6000_APP_SLOT s

/-- FW_SELECT and APP_SELECT: the first slot of the order, verified. -/
def Dev.selectStep (d : Dev) (step : Nat) (m : Mishap) : Dev × Bool :=
  let kind := if step = Step.fwSelect then 1 else 2
  match d.slotOrder kind step with
  | [] => if kind = 1 then (d.deadEnd step, false) else (d.stepSkipped step, true)
  | s :: _ =>
    let other := d.flash.failed.any fun f => f.1 == step
    let d := d.bootNote step 0 (if other then 1 else 0) 0 s
    if m.opened = step then (d, false)
    else
      let code := if m.fail = step then Code.BOOT_STEP_FAILED else d.verify s
      if code = Code.STATUS_OK then
        let d := d.startSlot kind s
        if other then ((d.bootNote step 4 1 Code.BOOT_ALTERNATIVE s).raise Code.BOOT_ALTERNATIVE Kind.other 0 0 step, true)
        else (d.bootNote step 1 0 0 s, true)
      else
        let d := d.stepFails step s (if other then 1 else 0) code s
        (d.when (code != Code.BOOT_STEP_FAILED) fun d => d.raise code Kind.other 0 0 s, false)

/-! ## SETTINGS (R487, R488) -/

/-- Whether a settings slot is valid, and its newest generation. -/
def SetSlot.valid (x : SetSlot) : Bool := x.sstate != 0 && x.sstate != 3 && !x.gens.isEmpty
def SetSlot.newest (x : SetSlot) : Nat := match x.gens with | g :: _ => g.gen | [] => 0

/-- The newest valid slot whose FORMAT lies in a range. -/
def Dev.newestSet (d : Dev) (lo hi : Nat) : Option Nat :=
  let ok (i : Nat) : Bool := (d.setSlotOf i).valid && decide (lo ≤ (d.setSlotOf i).format ∧ (d.setSlotOf i).format ≤ hi)
  if ok 0 ∧ ok 1 then some (if (d.setSlotOf 0).newest < (d.setSlotOf 1).newest then 1 else 0)
  else if ok 0 then some 0 else if ok 1 then some 1 else none

def Dev.useSettings (d : Dev) (i : Nat) : Dev :=
  let d := d.setFlash fun fl => { fl with setUse := i }
  (d.loadGen d.storeNow).set Reg.R1004_STORE_GEN d.storeNow.gen

/-- The device takes its defaults and writes its first generation into the slot that does not hold the newest valid settings. -/
def Dev.defaultSettings (d : Dev) : Dev :=
  let newest := d.newestSet 0 0xFFFF
  let i := match newest with | some j => 1 - j | none => 0
  let g := (match newest with | some j => (d.setSlotOf j).newest | none => 0) + 1
  let d := d.putSetSlot i { format := imgFormat d.fwImage, sstate := 1, writer := imgVersion d.fwImage,
                            gens := [{ gen := g, od := [], dom := [] }] }
  (d.useSettings i).raise Code.SETTINGS_DEFAULTED Kind.device 0

/-- The settings step of a start (R487, R488): which slot is taken, migrated or defaulted. (DEDUCED, log 127, unsafe.) -/
def Dev.settingsStep (d : Dev) (m : Mishap) : Dev × Bool :=
  let F := imgFormat d.fwImage
  let trial := match d.flash.lastFw with | some s => (d.fwSlot s).state == SlotState.trial | none => false
  match d.altFor Step.settings with
  | none => (d.deadEnd Step.settings, false)
  | some a =>
    let d := d.bootNote Step.settings 0 (altCode Step.settings a) 0 F
    if m.opened = Step.settings then (d, false)
    else if m.fail = Step.settings then
      (d.stepFails Step.settings a (altCode Step.settings a) Code.BOOT_STEP_FAILED F, false)
    else if a = 1 then (d.defaultSettings.stepDone Step.settings 1 F, true)
    else
      match d.newestSet F F with
      | some i => ((d.useSettings i).stepDone Step.settings 0 F, true)
      | none =>
        match d.newestSet (imgMinFormat d.fwImage) F with
        | some i =>
          let x := d.setSlotOf i
          let d := d.putSetSlot (1 - i) { format := F, sstate := 2, writer := imgVersion d.fwImage, gens := x.gens.take 1 }
          (((d.useSettings (1 - i)).raise Code.SETTINGS_MIGRATED Kind.device 0).stepDone Step.settings 0 F, true)
        | none =>
          if trial then
            ((d.stepFails Step.settings 0 0 Code.SETTINGS_UNREADABLE F).raise Code.SETTINGS_UNREADABLE Kind.device 0, false)
          else
            let d := d.defaultSettings
            ((d.bootNote Step.settings 4 5 Code.BOOT_ALTERNATIVE F).raise Code.BOOT_ALTERNATIVE Kind.other 0 0 Step.settings, true)

/-! ## The start -/

/-- The steps in turn, while the start goes on. -/
def Dev.bootSteps (m : Mishap) : List Nat → Dev → Dev × Bool
  | [], d => (d, true)
  | k :: r, d =>
    match (if k = Step.fwSelect ∨ k = Step.appSelect then d.selectStep k m
      else if k = Step.settings then d.settingsStep m
      else d.plainStep k m) with
    | (d, true) => Dev.bootSteps m r d
    | (d, false) => (d, false)

/-- The entry into CONFIG: the failure history ends, the pair settings take effect, the banks stand as loaded, an absent
feed is reported, the stored configuration is validated (R408, R432, R458, R474, R526). -/
def Dev.enterConfig (d : Dev) : Dev :=
  let d := (d.setFlash fun fl => { fl with failed := [] }).enginesStart
  let d := each ((List.range 14).drop 1) (fun s d => d.set (act (Reg.key 0x5800 s)) (d.reg (Reg.key 0x5800 s))) d
  let d := d.setBytes (act Reg.R5800_CONSUMERS) (d.bytes Reg.R5800_CONSUMERS)
  let d := d.when (d.nat Reg.R5800_PAIR_MODE == 3) fun d => d.set Reg.R5801_ROLE 3
  let d := each [1, 2, 3] (fun b (d : Dev) => (d.bankEffects d b).freshDigest b) d
  let d := iterate 2 (fun i d => d.when (!d.power.feeds.testBit i && !d.boot.feedTold) fun d =>
    (d.count Reg.R5802_FEED_LOSSES).raise Code.FEED_LOSS Kind.other 0 0 i) d
  let d := d.setBoot fun b => { b with feedTold := true }
  (d.goTo DevState.config).validateNow

/-- A start with its mishap; an open step leaves the device as it stands. -/
def Dev.bootRun (d : Dev) (m : Mishap) : Dev :=
  let d := d.judgePrevious
  let d := (d.setFlash fun fl => { fl with boot := fl.boot + 1 }).set Reg.R6000_BOOT_COUNT (d.flash.boot + 1 : Nat)
  let d := d.romCheck.setBoot fun b => { b with resetBy := 0 }
  match Dev.bootSteps m ((List.range 15).drop 1) d with
  | (d, true) => d.enterConfig
  | (d, false) => d

/-- Whether a start may begin: in BOOT, out of reset, not in recovery. -/
def Dev.mayBoot (d : Dev) : Bool := d.state == DevState.boot && !d.boot.held && !d.boot.recovery

/-- BOOT_START: `fail` names a step that the hardware fails (0: none), `unit` the lane, distance unit or core at fault. -/
def Dev.bootStart (d : Dev) (fail unit : Nat) : Dev :=
  if d.mayBoot then d.bootRun { fail, unit, opened := 0 } else d

/-- A start interrupted in a step, which stays open. (DEDUCED, log 128, safe.) -/
def Dev.bootUntil (d : Dev) (step : Nat) : Dev :=
  if d.mayBoot ∧ 1 ≤ step ∧ step ≤ 14 then d.bootRun { fail := 0, unit := 0, opened := step } else d

/-- BOOT_STEP_TIMEOUT: the watchdog resets the module and leaves the step open. -/
def Dev.bootStepTimeout (d : Dev) (step : Nat) : Dev :=
  if d.mayBoot ∧ 1 ≤ step ∧ step ≤ 14 then (d.bootUntil step).afterReset 2 else d

end Sys2Proof.Machine
end

