-- ==== Sys2Proof/Machine/Update.lean ====
section
/-! DEFINITION. Update sessions (R479 to R485), application keys (R490), debug access (R491, R492) and attestation (R494, R495). -/

namespace Sys2Proof.Machine

/-! ## The update session -/

/-- A write of the update objects done: its code is the last one of the session. -/
def Dev.updDone (d : Dev) (code : Nat) : Dev := (d.set Reg.R6020_LAST_STATUS code).finish code

/-- The same with a refusal, which is logged. -/
def Dev.updRefused (d : Dev) (code : Nat) : Dev := (d.raise code Kind.device 0).updDone code

/-- The slot a new image of a kind goes to: the one the device did not boot from. (DEDUCED, log 127, unsafe.) -/
def Dev.targetSlot (d : Dev) (kind : Nat) : Nat :=
  if kind = 1 then (match d.flash.lastFw with | some 0 => 1 | _ => 0)
  else (match d.flash.lastApp with | some 2 => 3 | _ => 2)

/-- Whether the running image of a kind is TRIAL. -/
def Dev.runsTrial (d : Dev) (kind : Nat) : Bool :=
  match if kind = 1 then d.flash.lastFw else d.flash.lastApp with
  | some s => (d.fwSlot s).state == SlotState.trial
  | none => false

/-- OPEN: KIND, three zero bytes, TOTAL, IMAGE_DIGEST; recovery takes firmware images only (R476). (DEDUCED, log 127, unsafe.) -/
def Dev.updateOpen (d : Dev) (r : Requester) (data : Bytes) : Dev :=
  let kind := fieldLE data 0 1
  let total := fieldLE data 4 4
  let digest := slice data 8 32
  if data.length ≠ 40 ∨ fieldLE data 1 3 ≠ 0 ∨ (kind ≠ 1 ∧ kind ≠ 2) then d.updDone Code.OD_RANGE
  else if d.boot.recovery = true ∧ kind ≠ 1 then d.updDone Code.OD_STATE
  else
    match d.boot.update with
    | some u => d.updRefused (if u.kind = kind ∧ u.digest = digest then Code.UPDATE_IN_PROGRESS else Code.UPDATE_BUSY)
    | none =>
      if d.runsTrial kind then d.updRefused Code.UPDATE_NO_SLOT
      else if (if kind = 1 then 64000000 else 256000000) < total then d.updDone Code.OD_RANGE
      else
        let s := d.targetSlot kind
        match d.takeFresh with
        | (k, d) =>
          let d := d.setSlotImage s { state := SlotState.receiving }
          let d := d.setFlash fun fl => { fl with activated := fl.activated.filter fun x => x.2 != s + 1 }
          let u : Update :=
            { kind, digest, total, slot := s, token := Config.random k % 2 ^ 64, bound := [r], last := d.rawNow }
          (d.setBoot fun b => { b with update := some u }).updDone Code.STATUS_OK

/-- BIND: the token binds another requester. -/
def Dev.updateBind (d : Dev) (r : Requester) (token : Nat) : Dev :=
  match d.boot.update with
  | some u =>
    if u.token = token then
      (d.setBoot fun b => { b with update := some { u with bound := if u.bound.contains r then u.bound else r :: u.bound } }).updDone
        Code.STATUS_OK
    else d.updRefused Code.UPDATE_BUSY
  | none => d.updRefused Code.UPDATE_BUSY

/-- The session ended without its slot being booted: the slot is EMPTY unless it is STAGED. -/
def Dev.endUpdate (d : Dev) : Dev :=
  match d.boot.update with
  | none => d
  | some u =>
    let d := d.when ((d.fwSlot u.slot).state != SlotState.staged) fun d => d.setSlotImage u.slot {}
    (((d.setBoot fun b => { b with update := none }).raise Code.UPDATE_ABANDONED Kind.other 0 0 u.slot)).set
      Reg.R6020_LAST_STATUS Code.UPDATE_ABANDONED

/-- How many bytes of `n` the parts cover. -/
def covered (n : Nat) (parts : List (Nat × Nat)) : Nat :=
  (parts.mergeSort fun a b => decide (a.1 ≤ b.1)).foldl
    (fun (got, upto) p => (got + (min n p.2 - max upto p.1), max upto (min n p.2))) (0, 0) |>.1

/-- A DWRITE block of IMAGE from a requester: the code it is answered with. (DEDUCED, log 127, unsafe.) -/
def Dev.updateBlock (d : Dev) (r : Requester) (off total : Nat) (last : Bool) (data : Bytes) : Dev :=
  match d.boot.update with
  | none => d.updRefused Code.OD_STATE
  | some u =>
    if ¬u.bound.contains r then d.updRefused Code.UPDATE_BUSY
    else if (d.fwSlot u.slot).state ≠ SlotState.receiving ∨ u.whole then d.updDone Code.OD_STATE
    else
      let put (u : Update) : Dev := d.setBoot fun b => { b with update := some u }
      let none_ : Update := { u with bytes := [], parts := [], last := d.rawNow }
      if total ≠ u.total ∨ u.total < off + data.length then (put none_).updDone Code.OD_TRANSFER_INVALID
      else
        let u := { u with bytes := patch u.bytes off data, parts := (off, off + data.length) :: u.parts, last := d.rawNow }
        if !last then (put u).updDone Code.STATUS_OK
        else if covered u.total u.parts ≠ u.total then (put none_).updDone Code.OD_TRANSFER_INVALID
        else if shake256 32 u.bytes = u.digest then (put { u with whole := true }).updDone Code.STATUS_OK
        else
          let d := (d.setSlotImage u.slot {}).setBoot fun b => { b with update := none }
          (d.raise Code.UPDATE_DIGEST_BAD Kind.other 0 0 u.slot).updDone Code.UPDATE_DIGEST_BAD

/-- IMAGE_STAGED: an image whose digest matched stands in its slot, a firmware image with its backup copy.
(DEDUCED, log 127, unsafe.) -/
def Dev.imageStaged (d : Dev) : Dev :=
  match d.boot.update with
  | some u =>
    if u.whole ∧ (d.fwSlot u.slot).state = SlotState.receiving then
      d.setSlotImage u.slot { state := SlotState.staged, image := u.bytes, backup := if u.kind = 1 then u.bytes else [] }
    else d
  | none => d

/-- ABANDON, by a bound requester. (DEDUCED, log 130, safe.) -/
def Dev.updateAbandon (d : Dev) (r : Requester) : Dev :=
  match d.boot.update with
  | some u => if u.bound.contains r then d.endUpdate.finish Code.STATUS_OK else d.updRefused Code.UPDATE_BUSY
  | none => d.updDone Code.OD_STATE

/-- UPDATE_SESSION_TIMEOUT: TIMEOUT_S without a block while the slot is RECEIVING. -/
def Dev.updateTimeout (d : Dev) : Dev :=
  match d.boot.update with
  | some u =>
    if (d.fwSlot u.slot).state = SlotState.receiving ∧ u.last + d.nat Reg.R6020_TIMEOUT_S * 1000000000 ≤ d.rawNow then d.endUpdate
    else d
  | none => d

/-- ACTIVATE: 1 activates the STAGED slot for the next start, 0 withdraws it; in recovery the module resets (R476). -/
def Dev.updateActivate (d : Dev) (r : Requester) (value : Nat) : Dev :=
  match d.boot.update with
  | none => d.updDone Code.OD_STATE
  | some u =>
    if ¬u.bound.contains r then d.updRefused Code.UPDATE_BUSY
    else if (d.fwSlot u.slot).state ≠ SlotState.staged then d.updDone Code.OD_STATE
    else if value = 0 then
      (d.setFlash fun fl => { fl with activated := mset 0 fl.activated u.kind 0 }).updDone Code.STATUS_OK
    else if value = 1 then
      let d := (d.setFlash fun fl => { fl with activated := mset 0 fl.activated u.kind (u.slot + 1),
                                               inForce := fl.inForce.filter fun x => x.1 == Step.lpddrTrain }).updDone Code.STATUS_OK
      d.when d.boot.recovery fun d => (d.afterReset 1).finish Code.STATUS_OK
    else d.updDone Code.OD_RANGE

/-- A TRIAL image confirmed: its record, the states of its kind's slots, the thermometer. -/
def Dev.confirmSlot (d : Dev) (s : Nat) : Dev :=
  let x := d.fwSlot s
  let sec := imgSec x.image
  let d := d.setFlash fun fl => { fl with confirms := fl.confirms ++ [(s, sec)],
                                          activated := mset 0 fl.activated (slotKind s) 0 }
  let d := each ((if s < 2 then [0, 1] else [2, 3]).filter fun k => (d.fwSlot k).state == SlotState.confirmed) (fun k d =>
    d.setSlotImage k { d.fwSlot k with state := SlotState.previous }) d
  let d := d.setSlotImage s { x with state := SlotState.confirmed }
  let d := d.setFlash fun fl =>
    if s < 2 then { fl with fwMin := max fl.fwMin sec } else { fl with appMin := max fl.appMin sec }
  d.raise Code.UPDATE_CONFIRMED Kind.other 0 0 s

/-- CONFIRM. (DEDUCED, log 130, safe.) -/
def Dev.updateConfirm (d : Dev) : Dev :=
  let trials := [0, 1, 2, 3].filter fun s => (d.fwSlot s).state == SlotState.trial
  if d.nat Reg.R6020_CONFIRM_CYCLES < 4000 then d.updRefused Code.UPDATE_NOT_PROVEN
  else if trials.isEmpty then d.updDone Code.STATUS_OK
  else
    let d := each trials (fun s d => d.confirmSlot s) d
    let i := d.flash.setUse
    let d := d.when ((d.setSlotOf i).sstate == 2) fun d =>
      (d.putSetSlot i { d.setSlotOf i with sstate := 1 }).putSetSlot (1 - i) { d.setSlotOf (1 - i) with sstate := 3 }
    d.updDone Code.STATUS_OK

/-- LPDDR_RETRY: the next start trains at 8,533 MT/s. -/
def Dev.lpddrRetry (d : Dev) : Dev :=
  (d.setFlash fun fl => { fl with inForce := mset 0 fl.inForce Step.lpddrTrain 0,
                                  failed := fl.failed.filter fun f => f.1 != Step.lpddrTrain }).finish Code.STATUS_OK

/-! ## Keys, debug access, attestation -/

/-- APP_KEY_ENROLL, in a password session: the digest of the key in the next free slot, the slot before it revoked.
(DEDUCED, log 130, safe.) -/
def Dev.appKeyEnroll (d : Dev) (r : Requester) (data : Bytes) : Dev :=
  if !d.slAllowed r then d.denied
  else if data.length ≠ 68 then d.finish Code.OD_RANGE
  else
    let n := d.flash.apps.length
    if 4 ≤ n then (d.raise Code.KEY_SLOTS_FULL Kind.device 0).finish Code.KEY_SLOTS_FULL
    else
      (d.setFlash fun fl => { fl with apps := fl.apps ++ [shake256 32 data],
                                      revoked := if n = 0 then fl.revoked else fl.revoked ++ [4 + n - 1] }).finish Code.STATUS_OK

/-- Random bytes. -/
def Dev.randomBytes (d : Dev) (n : Nat) : Bytes × Dev :=
  match d.takeFresh with
  | (k, d) => (leBytes n (Config.random k), d)

/-- A read of CHALLENGE: a new random value in place of the one before. -/
def Dev.debugChallenge (d : Dev) : Dev :=
  match d.randomBytes 32 with
  | (b, d) =>
    let d := d.setBoot fun x => { x with challenge := some (b, d.rawNow) }
    ({ d with resp := { d.resp with data := b, total := 32 } }).finish Code.STATUS_OK

/-- The serial number padded with zeros. -/
def serial16 : Bytes := slice (Config.factoryBytes Reg.R1000_SERIAL) 0 16

/-- Whether an unlock token is accepted. -/
def Dev.tokenOk (d : Dev) (t : Bytes) : Bool :=
  let scope := fieldLE t 4 1
  let signer := fieldLE t 5 1
  let pk := slice t 56 68
  t.length == 2948 && fieldLE t 0 4 == 0x47444D4C && decide (scope < 8) && decide (signer < 2) && fieldLE t 6 2 == 0 &&
    fieldLE t 124 4 == 0 && (d.state == DevState.config || d.state == DevState.safe) && slice t 8 16 == serial16 &&
    (match d.boot.challenge with
      | some (c, at_) => c == slice t 24 32 && decide (d.rawNow ≤ at_ + 600000000000)
      | none => false) &&
    d.keyOk (signer + 1) pk && !(signer == 1 && scope.testBit 2) && Config.xmssValid pk (t.take 128) (t.drop 128) == 1

/-- UNLOCK. A challenge is used once. (DEDUCED, log 130, safe.) -/
def Dev.debugUnlock (d : Dev) (t : Bytes) : Dev :=
  let ok := d.tokenOk t
  let used := match d.boot.challenge with | some (c, _) => c == slice t 24 32 | none => false
  let d := d.when used fun d => d.setBoot fun b => { b with challenge := none }
  if ok then ((d.set Reg.R6050_DEBUG_SCOPE (fieldLE t 4 1)).raise Code.DEBUG_UNLOCKED Kind.device 0).finish Code.STATUS_OK
  else (d.raise Code.DEBUG_TOKEN_BAD Kind.device 0).finish Code.DEBUG_TOKEN_BAD

/-- The instructions of the TAP: 1 IDCODE, 2 BYPASS, 3 SAMPLE/PRELOAD. (DEDUCED, log 17, safe.) -/
def Dev.jtag (d : Dev) (i : Nat) : Dev := { d with power := { d.power with jtag := i } }

/-- ATTEST_REQUEST: a 32-byte nonce starts a report with the next one-time index, reserved in flash before. -/
def Dev.attestRequest (d : Dev) (nonce : Bytes) : Dev :=
  let refuse (c : Nat) : Dev := (d.raise c Kind.device 0).finish c
  if nonce.length ≠ 32 then d.finish Code.OD_RANGE
  else if d.nat Reg.R6060_ATT_STATE = 1 then refuse Code.ATTEST_BUSY
  else if 2 ^ 40 ≤ d.flash.attNext then refuse Code.ATTEST_EXHAUSTED
  else
    let d := d.setFlash fun fl => if fl.attNext = fl.attEnd then { fl with attEnd := fl.attNext + 1024 } else fl
    ((d.setBoot fun b => { b with nonce := some nonce }).set Reg.R6060_ATT_STATE 1).finish Code.STATUS_OK

/-- The digest of the image of a slot, or zeros. -/
def Dev.imageDigest (d : Dev) (s : Option Nat) : Bytes :=
  match s with | some s => shake256 32 (d.fwSlot s).image | none => List.replicate 32 0

/-- REPORT_READY: the signed report. -/
def Dev.reportReady (d : Dev) : Dev :=
  match d.boot.nonce with
  | none => d
  | some nonce =>
    let body := leBytes 4 0x54414D4C ++ [1, 0, 0, 0] ++ nonce ++ serial16 ++ leBytes 4 d.flash.boot ++ leBytes 4 d.cycle ++
      leBytes 14 (time40 (d.wtAt d.rawNow)).toNat ++ [0, 0] ++ d.imageDigest d.flash.lastFw ++ d.imageDigest d.flash.lastApp ++
      leBytes 16 d.configDigest ++ leBytes 16 (d.nat Reg.R5000_SAFETY_DIGEST) ++
      [byte d.flash.fwMin, byte d.flash.appMin, byte (d.nat Reg.R6050_DEBUG_SCOPE)] ++ List.replicate 5 0
    let k := d.flash.attNext
    let d := (d.setFlash fun fl => { fl with attNext := k + 1 }).setBoot fun b => { b with nonce := none }
    (d.setBytes Reg.R6060_REPORT (body ++ slice (Config.attestSign k body) 0 9893)).set Reg.R6060_ATT_STATE 2

end Sys2Proof.Machine
end

