-- ==== Sys2Proof/Machine/Health.lean ====
section
/-! DEFINITION. Counters, snapshots and bandwidth (R501 to R507), memory errors and scrubbing (R509, R510), sensors and spares (R511 to
R516), the error log (R517). -/

namespace Sys2Proof.Machine

def Dev.setHealth (d : Dev) (f : Health → Health) : Dev := { d with health := f d.health }

/-! ## Counters -/

/-- The event of counter `i` of block `b`. -/
def Dev.evsel (d : Dev) (b i : Nat) : Nat := d.nat (Reg.R7810_EVSEL_0 b + i)

/-- The events listed for each block: how many, from 0x0010 (R501). -/
def eventsOf (b : Nat) : Nat :=
  if b < 0x30 then 10
  else if 0x37 ≤ b ∧ b ≤ 0x3A then 8
  else if 0x43 ≤ b ∧ b ≤ 0x49 then 4
  else [7, 6, 3, 2, 4, 4, 4, 0, 0, 0, 0, 4, 4, 4, 5, 7, 4, 4, 4, 0, 0, 0, 0, 0, 0, 0, 2].getD (b - 0x30) 0

def eventListed (b ev : Nat) : Bool := decide (ev ≤ 3 ∨ (0x10 ≤ ev ∧ ev < 0x10 + eventsOf b))

/-- A counter of a block that is no hart's has wrapped (R501, R504). -/
def Dev.counterOverflow (d : Dev) (b i : Nat) : Dev :=
  if b < 0x30 ∨ 0x4A < b ∨ 8 ≤ i then d
  else
    let d := d.orBits (Reg.R7810_OVF b) (2 ^ i)
    if d.bit (Reg.R7810_OVF_IRQ b) i then (d.raise Code.COUNTER_OVERFLOW Kind.other 0 0 b).raisePlic 176 else d

/-- A hart's counter has wrapped with OF clear: OF set, the local counter-overflow interrupt taken (R503).
(PRESUMED, log 87, unsafe.) -/
def Dev.hartOverflow (d : Dev) (h i : Nat) (c : HartContext) : Dev :=
  if 48 ≤ h ∨ 8 ≤ i ∨ d.bit (Reg.R7810_OVF h) i then d
  else (d.orBits (Reg.R7810_OVF h) (2 ^ i)).trap h (2 ^ 63 + 13) 0 c

/-- OVF bits cleared: source 176 stays pending while one with its bit in OVF_IRQ is set (R504). -/
def Dev.overflowCleared (d : Dev) : Dev :=
  if (List.range 0x4B).any fun b => decide (0x30 ≤ b) && (d.nat (Reg.R7810_OVF b) &&& d.nat (Reg.R7810_OVF_IRQ b)) != 0 then d
  else { d with plic := d.plic.filter (· != 176) }

/-- Ticks (event 2) and cell cycles (event 3) counted at an SI while FREEZE is 0. -/
def Dev.countTick (d : Dev) (t0 : Bool) : Dev :=
  if d.flag Reg.R7800_FREEZE ∨ d.health.freezeTo = some true then d
  else
    let evs := d.od.filterMap fun (k, v) =>
      if 0x7810 ≤ k / 256 ∧ k / 256 ≤ 0x785A ∧ 1 ≤ k % 256 ∧ k % 256 ≤ 8 ∧ (v = 2 ∨ (v = 3 ∧ t0 = true)) then
        some (k / 256 - 0x7810, k % 256 - 1) else none
    each evs (fun (b, i) d =>
      let k := Reg.R7810_COUNT_0 b + i
      let n : Nat := (d.nat k + 1) % 2 ^ 48
      let d := d.set k n
      d.when (n == 0) fun d => d.counterOverflow b i) d

/-- What a counter shows: ticks and cycles as counted, of a stopped counter what it stands at, of another event a value that is
free. (PRESUMED, log 29, safe.) -/
def Dev.counterNow (d : Dev) (b i : Nat) : Nat × Dev :=
  let ev := d.evsel b i
  if ev = 0 ∨ ev = 2 ∨ ev = 3 then (d.nat (Reg.R7810_COUNT_0 b + i), d)
  else match d.takeFresh with | (k, d) => (Config.eventCount k % 2 ^ 48, d)

/-- A write of SNAPSHOT asks for a latch at the next SI. -/
def Dev.counterSnapshot (d : Dev) : Dev := (d.setHealth fun h => { h with snapAsk := true }).finish Code.STATUS_OK

/-- SNAPSHOT_LATCH: counters with their OVF bits, the Sett values, the bandwidths. -/
def Dev.snapshotLatch (d : Dev) : Dev :=
  if !d.health.snapAsk then d
  else
    let d := iterate 0x4B (fun b d =>
      let d := iterate 8 (fun i d => match d.counterNow b i with | (n, d) => d.set (Reg.R7810_SNAP_0 b + i) n) d
      d.set (Reg.R7810_SNAP_OVF b) (d.reg (Reg.R7810_OVF b))) d
    let d := iterate 11 (fun p d =>
      (d.set (Reg.R7880_SNAP_0 p) (d.reg (Reg.R7880_BYTES_0 p))).set (Reg.R7880_SNAP_1 p) (d.reg (Reg.R7880_BYTES_1 p))) d
    let sett (k : Nat) : Bool := k / 256 == 0x3880 || (0x3840 ≤ k / 256 && k / 256 < 0x3858)
    let d := d.setHealth fun h =>
      { h with snapAsk := false, settSnap := d.od.filter (fun x => sett x.1), settDom := d.dom.filter (fun x => sett x.1) }
    (d.set Reg.R7800_SNAP_SEQ (d.reg Reg.R7800_SNAP_SEQ + 1)).set Reg.R7800_SNAP_TICK d.tickAbs

/-- A write of FREEZE takes effect at the SI after it. -/
def Dev.freezeWrite (d : Dev) (on : Bool) : Dev := (d.setHealth fun h => { h with freezeTo := some on }).finish Code.STATUS_OK

/-- FREEZE_APPLY. -/
def Dev.freezeApply (d : Dev) : Dev :=
  match d.health.freezeTo with
  | some on => (d.setHealth fun h => { h with freezeTo := none }).set Reg.R7800_FREEZE (if on then 1 else 0)
  | none => d

/-! ## Bandwidth (R507) -/

/-- A write of WINDOW_NS: the window in progress is discarded. -/
def Dev.windowWrite (d : Dev) (ns : Nat) : Dev :=
  if ns < 1000 ∨ 1000000000 < ns then d.finish Code.OD_RANGE
  else ((d.set Reg.R7800_WINDOW_NS ns).setHealth fun h => { h with windowAt := none }).finish Code.STATUS_OK

/-- The next window begins at the SI of T0. -/
def Dev.windowBegin (d : Dev) : Dev :=
  d.when d.health.windowAt.isNone fun d =>
    d.setHealth fun h => { h with windowAt := some (d.clk.raw + d.nat Reg.R7800_WINDOW_NS) }

/-- BANDWIDTH_WINDOW_END: the bytes of a window that ends before the next tick, by port and direction. -/
def Dev.windowEnd (d : Dev) (bytes : List (Nat × Nat)) : Dev :=
  match d.health.windowAt with
  | none => d
  | some t =>
    if d.clk.raw + 31250 ≤ t then d
    else
      let d := each (bytes.zip (List.range 11)) (fun ((a, b), p) d =>
        let d := (d.set (Reg.R7880_BYTES_0 p) a).set (Reg.R7880_BYTES_1 p) b
        (d.set (Reg.R7880_PEAK_0 p) (max (d.nat (Reg.R7880_PEAK_0 p)) a : Nat)).set (Reg.R7880_PEAK_1 p)
          (max (d.nat (Reg.R7880_PEAK_1 p)) b : Nat)) d
      d.setHealth fun h => { h with windowAt := some (t + d.nat Reg.R7800_WINDOW_NS) }

/-! ## The error log (R517) -/

abbrev ErrClass.corrected : Nat := 0
abbrev ErrClass.uncorrectable : Nat := 1
abbrev ErrClass.hard : Nat := 2
abbrev ErrClass.warning : Nat := 3
abbrev ErrClass.decision : Nat := 4

abbrev UKind.core : Nat := 0
abbrev UKind.lane : Nat := 1
abbrev UKind.distance : Nat := 2
abbrev UKind.xlink : Nat := 3
abbrev UKind.bank : Nat := 4
abbrev UKind.page : Nat := 5
abbrev UKind.aeMem : Nat := 6
abbrev UKind.ctlMem : Nat := 7
abbrev UKind.serdes : Nat := 8
abbrev UKind.other : Nat := 9

/-- A record of the error log, the oldest of 1,024 giving way. -/
def Dev.errLog (d : Dev) (code kind cls unit syn addr : Nat) (value : Int) : Dev :=
  let r := leBytes 4 (d.nat Reg.R7020_NEXT_SEQ) ++ leBytes 2 code ++ [byte kind, byte cls] ++ leBytes 4 d.cycle ++
    leBytes 2 (if kind = UKind.page then 0 else unit) ++ leBytes 2 syn ++ leBytes 8 addr ++ leBytes 4 (toU 32 value) ++ leBytes 4 0
  let full := decide (1024 ≤ d.health.log.length)
  let d := d.setHealth fun h => { h with log := (if full then h.log.drop 1 else h.log) ++ [r] }
  let d := d.when full fun d => d.set Reg.R7020_LOG_WRAPPED 1
  d.set Reg.R7020_NEXT_SEQ (d.reg Reg.R7020_NEXT_SEQ + 1)

/-- The number of a unit of R511 by UKIND and physical number, and back. -/
def unitOf (kind n : Nat) : Nat := if kind = 0 then n else if kind = 1 then 26 + n else if kind = 2 then 31 + n else 55 + n
def unitKind (u : Nat) : Nat × Nat :=
  if u < 26 then (UKind.core, u)
  else if u < 31 then (UKind.lane, u - 26)
  else if u < 48 then (UKind.distance, u - 31)
  else if u < 50 then (UKind.aeMem, u - 48)
  else if u = 50 then (UKind.other, u)
  else if 55 ≤ u ∧ u < 58 then (UKind.xlink, u - 55)
  else (UKind.serdes, if u < 55 then u - 51 else u - 51)

/-- A code raised for a unit: one with a health record names it, a page or a bank stands in DETAIL. -/
def Dev.unitRaise (d : Dev) (code kind n : Nat) : Dev :=
  if kind ≤ 3 then d.raise code Kind.unit (unitOf kind n) else d.raise code Kind.other 0 0 n

/-! ## Memory errors (R509, R510) -/

/-- CE_WINDOW_H in raw counts. -/
def Dev.ceWindow (d : Dev) : Nat := d.nat Reg.R7000_CE_WINDOW_H * 3600000000000

/-- The words corrected within CE_WINDOW_H, and those of a region. -/
def Dev.ceWords (d : Dev) : List CeWord := d.health.words.filter fun w => decide (d.rawNow < w.raw + d.ceWindow)
def Dev.ceOf (d : Dev) (kind n : Nat) : List CeWord := d.ceWords.filter fun w => w.kind == kind && w.unit == n

/-- The pages with corrected words, in ascending order. -/
def cePages (ws : List CeWord) : List Nat := ws.foldl (fun l w => if w.kind = UKind.page then insNat w.unit l else l) []

/-- Room made in CE_PAGES for a new page: of the pages with count 1 the one with the oldest last error gives way; without one the
new page is left out. -/
def Dev.roomForPage (d : Dev) (ws : List CeWord) : Option (List CeWord) × Dev :=
  if (cePages ws).length < 4096 then (some ws, d)
  else
    let d := d.count Reg.R7030_CE_PAGES_DROPPED
    let ones := ws.filter fun w => w.kind == UKind.page && (ws.filter fun x => x.kind == UKind.page && x.unit == w.unit).length == 1
    match ones.foldl (fun m w => match m with | some x => if w.raw < x.raw then some w else m | none => some w) (none : Option CeWord) with
    | some x => (some (ws.filter fun w => !(w.kind == UKind.page && w.unit == x.unit)), d)
    | none => (none, d)

/-- A hard fault: the unit is counted for retirement. -/
def Dev.hardFault (d : Dev) (kind n addr sym pat : Nat) : Dev :=
  let d := (d.errLog Code.HARD_FAULT kind ErrClass.hard n (sym + 256 * pat) addr 0).raise Code.HARD_FAULT Kind.other 0 0 addr
  d.setHealth fun h => { h with written := h.written.filter (fun x => x.1 != addr), due := h.due ++ [(kind, n, 2 ^ 31)] }

/-- CORRECTED_ERROR: a word of region (`kind`, `n`) at `addr` with the symbol and pattern corrected.
(DEDUCED, log 134, unsafe.) -/
def Dev.correctedError (d : Dev) (kind n addr sym pat : Nat) : Dev :=
  let ws := d.ceWords
  let first := !(ws.any fun w => w.addr == addr)
  let d := d.when first fun d => d.errLog 0 kind ErrClass.corrected n (sym + 256 * pat) addr 0
  let rest := ws.filter fun w => w.addr != addr
  let w : CeWord := { addr, kind, unit := n, raw := d.rawNow, cycle := d.cycle }
  let (room, d) := if kind = UKind.page ∧ ¬(cePages rest).contains n then d.roomForPage rest else (some rest, d)
  let d := d.setHealth fun h => { h with words := match room with | some l => l ++ [w] | none => rest }
  if d.health.written.contains (addr, sym) then d.hardFault kind n addr sym pat
  else d.setHealth fun h => { h with written := h.written.filter fun x => x.1 != addr }

/-- SCRUB_READ: `err` is 0 for a good word, else one more than the symbol corrected; `raced` says that another write reached the
word since the read. (DEDUCED, log 134, unsafe.) -/
def Dev.scrubRead (d : Dev) (kind n addr err pat : Nat) (raced : Bool) : Dev :=
  if err = 0 then d.setHealth fun h => { h with written := h.written.filter fun x => x.1 != addr }
  else
    let hard := d.health.written.contains (addr, err - 1)
    let d := d.correctedError kind n addr (err - 1) pat
    d.when (!raced && !hard) fun d => d.setHealth fun h => { h with written := h.written ++ [(addr, err - 1)] }

/-- A spare marked FAILED by an error in it during the copy; the attempt ends. (DEDUCED, log 134, unsafe.) -/
def Dev.spareFails (d : Dev) (kind n : Nat) : Dev :=
  if d.health.work.any fun w => w.kind == kind && w.spare == n then
    let d := (d.setFlash fun fl => { fl with retired := fl.retired ++ [(kind, n, true)] }).setHealth fun h =>
      { h with work := h.work.filter fun w => !(w.kind == kind && w.spare == n) }
    d.errLog Code.UNCORRECTABLE_ERROR kind ErrClass.decision n 0xFFFF 0 0
  else d

/-- The word at an address left poisoned: a word of an engine's memory with the engine, any other with memory (R224, R509). -/
def Dev.poison (d : Dev) (w : Nat) : Dev :=
  match aeCell w with
  | some (e, _, _) =>
    let x := d.ae e
    d.setAe e { x with bad := if x.bad.contains (w % 0x800000) then x.bad else x.bad ++ [w % 0x800000] }
  | none => d.setHealth fun h => { h with poisoned := if h.poisoned.contains w then h.poisoned else h.poisoned ++ [w] }

/-- UNCORRECTABLE_ERROR: the word stays poisoned; its consumer acts: nobody (0), the tick context (1) or the background context (2)
of core `e`, analysis engine `e` (3), control lane `e` (4), the control engine's state memory (5), the Hoard beyond one background
item (6), DMA channel `e` (7). (DEDUCED, log 134, unsafe.) -/
def Dev.uncorrectable (d : Dev) (kind n addr who e : Nat) (c : HartContext) : Dev :=
  let d := (d.errLog Code.UNCORRECTABLE_ERROR kind ErrClass.uncorrectable n 0xFFFF addr 0).raise Code.UNCORRECTABLE_ERROR Kind.other 0 0
    addr
  let d := (d.poison (addr / 8 * 8)).spareFails kind n
  match who with
  | 1 => d.coreLoss CoreError.tick e c
  | 2 => d.coreLoss CoreError.background e c
  | 3 => d.aeFault e Code.AE_MEM_ERROR
  | 4 => d.laneFaultUnit e
  | 5 => d.unitFails Code.UNCORRECTABLE_ERROR
  | 6 => d.unitFails Code.UNCORRECTABLE_ERROR
  | 7 => d.dmaFault e (d.dmaOff e) 5 false
  | _ => d

/-! ## Sensors (R511) -/

abbrev Sensor.ageing : Nat := 0
abbrev Sensor.margin : Nat := 1
abbrev Sensor.eye : Nat := 2

/-- The registers of a sensor (last value, worst value), its two thresholds, its code, whether a larger reading is worse. -/
def sensorKeys (u sensor : Nat) : Nat × Nat × Nat × Nat × Nat × Bool :=
  if sensor = 0 then
    (Reg.R7080_AGE_LAST u, Reg.R7080_AGE_WORST u, Reg.R7000_AGE_WARN_PPM, Reg.R7000_AGE_RETIRE_PPM, Code.AGEING_HIGH, true)
  else if sensor = 1 then
    (Reg.R7080_MARGIN_LAST u, Reg.R7080_MARGIN_WORST u, Reg.R7000_MARGIN_WARN_PS, Reg.R7000_MARGIN_RETIRE_PS, Code.MARGIN_LOW, false)
  else (Reg.R7080_EYE_LAST u, Reg.R7080_EYE_WORST u, Reg.R7000_EYE_WARN_PCT, Reg.R7000_EYE_RETIRE_PCT, Code.EYE_MARGIN_LOW, false)

/-- A reading in an episode: whether it begins one, and the episode after it; it ends after 60 consecutive readings back. -/
def WarnEp.step (x : WarnEp) (beyond : Bool) : Bool × WarnEp :=
  if x.on then
    if beyond then (false, { x with seen := true, back := 0 })
    else if 60 ≤ x.back + 1 then (false, { seen := true, on := false, back := 0 })
    else (false, { x with seen := true, back := x.back + 1 })
  else (beyond, { seen := true, on := beyond, back := 0 })

/-- How far a reading lies beyond a threshold, where it does. (DEDUCED, log 132, safe.) -/
def excessOf (high : Bool) (v limit : Int) : Option Int :=
  if high then (if limit ≤ v then some (v - limit) else none) else if v ≤ limit then some (limit - v) else none

/-- A retirement reading kept with its excess, the largest so far. -/
def Dev.noteDue (d : Dev) (kind n : Nat) (x : Int) : Dev :=
  let old := ((d.health.due.filter fun p => p.1 == kind && p.2.1 == n).map fun p => p.2.2).foldl max x
  d.setHealth fun h => { h with due := (h.due.filter fun p => !(p.1 == kind && p.2.1 == n)) ++ [(kind, n, old)] }

/-- STATE of a unit of R511. -/
def Dev.showUnit (d : Dev) (u : Nat) : Dev :=
  match unitKind u with
  | (kind, n) =>
    let on (s : Nat) : Bool := (mget ({} : WarnEp) d.health.warn (256 * u + s)).on
    let st := if d.flash.retired.any fun x => x.1 == kind && x.2.1 == n then 3
      else if d.health.due.any fun x => x.1 == kind && x.2.1 == n then 2
      else if on 0 || on 1 || on 2 then 1 else 0
    d.set (Reg.R7080_STATE u) (st : Nat)

/-- A reading of a wear or margin sensor of unit `u`. -/
def Dev.unitReading (d : Dev) (u sensor : Nat) (v : Int) : Dev :=
  match sensorKeys u sensor, unitKind u with
  | (kLast, kWorst, kWarn, kRet, code, high), (kind, n) =>
    let key := 256 * u + sensor
    let ep := mget ({} : WarnEp) d.health.warn key
    let worst := if ep.seen then (if high then max (d.reg kWorst) v else min (d.reg kWorst) v) else v
    let d := (d.set kLast v).set kWorst worst
    let (begins, ep) := ep.step (excessOf high v (d.reg kWarn)).isSome
    let d := d.setHealth fun h => { h with warn := mset {} h.warn key ep }
    let d := d.when begins fun d =>
      (d.errLog code kind ErrClass.warning n 0xFFFF 0 v).raise code Kind.unit u 0 (toU 64 v)
    let d := match excessOf high v (d.reg kRet) with
      | some x =>
        if kind ≤ 3 then d.noteDue kind n x
        else
          let rk := key + 8
          let (begins, re) := (mget ({} : WarnEp) d.health.warn rk).step true
          let d := d.setHealth fun h => { h with warn := mset {} h.warn rk re }
          d.when begins fun d => (d.errLog code kind ErrClass.warning n 0xFFFF 0 v).raise code Kind.unit u 0 (toU 64 v)
      | none =>
        if kind ≤ 3 then d
        else d.setHealth fun h => { h with warn := mset {} h.warn (key + 8) ((mget ({} : WarnEp) h.warn (key + 8)).step false).2 }
    d.showUnit u

/-- The count of corrected words of a page or bank read. -/
def Dev.ceReading (d : Dev) (kind n : Nat) : Dev :=
  let c := (d.ceOf kind n).length
  let ep := match d.health.ceWarn.find? fun x => x.1 == kind && x.2.1 == n with | some x => x.2.2 | none => {}
  let (begins, ep) := ep.step (decide (1 ≤ c))
  let d := d.setHealth fun h => { h with ceWarn := (h.ceWarn.filter fun x => !(x.1 == kind && x.2.1 == n)) ++ [(kind, n, ep)] }
  let d := d.when begins fun d =>
    (d.errLog Code.CE_RATE_HIGH kind ErrClass.warning n 0xFFFF (if kind = UKind.page then 4096 * n else 0) c).raise Code.CE_RATE_HIGH
      Kind.other 0 0 n
  let limit := d.nat (if kind = UKind.page then Reg.R7000_PAGE_CE_LIMIT else Reg.R7000_BANK_CE_LIMIT)
  d.when (decide (limit ≤ c)) fun d => d.noteDue kind n ((c : Int) - limit)

/-- Whether unit `u` has a sensor: ageing and margin of the units up to the management processor, the eye of the serial ports. -/
def hasSensor (u sensor : Nat) : Bool := if sensor = 2 then decide (51 ≤ u ∧ u < 64) else decide (u < 51)

/-- SENSOR_READING: sensor 0 ageing, 1 timing margin, 2 eye margin of unit `n`; 4 the corrected words of SRAM bank `n`, 5 of
LPDDR5X page `n`. -/
def Dev.sensorReading (d : Dev) (sensor n : Nat) (v : Int) : Dev :=
  if sensor ≤ 2 then (if hasSensor n sensor then d.unitReading n sensor v else d)
  else if sensor = UKind.bank ∨ sensor = UKind.page then d.ceReading sensor n
  else d

/-! ## Spares (R512 to R516) -/

/-- The spares of a unit by UKIND, in the order they are taken: the last physical units of the kind, of a bank the one of its
group, of a page the reserve pages. -/
def sparesFor (kind n : Nat) : List Nat :=
  match kind with
  | 0 => [24, 25]
  | 1 => [4]
  | 2 => [16]
  | 3 => [2]
  | 4 => [64 + n / 16]
  | 5 => (List.range 4096).map (0xBFF000 + ·)
  | _ => []

/-- Whether a spare can still be taken: not marked, not in service, not being filled. -/
def Dev.spareFree (d : Dev) (kind s : Nat) : Bool :=
  !(d.flash.retired.any fun x => x.1 == kind && x.2.1 == s) && !(d.flash.spared.any fun x => x.1 == kind && x.2.2 == s) &&
    !(d.health.work.any fun w => w.kind == kind && w.spare == s) && !(kind == UKind.lane && d.nat Reg.R2800_SPARE_STATE == 4)

/-- Whether a spare has a retirement reading itself. (DEDUCED, log 132, safe.) -/
def Dev.spareWorn (d : Dev) (kind s : Nat) : Bool := d.health.due.any fun x => x.1 == kind && x.2.1 == s

/-- The spare taken for a unit; the free ones before it that are worn are marked RETIRED; of a lane that is then
no spare, SPARE_STATE says so (R91, R516). -/
def Dev.takeSpare (d : Dev) (kind : Nat) : List Nat → Option Nat × Dev
  | [] => (none, d)
  | s :: r =>
    if ¬d.spareFree kind s then Dev.takeSpare d kind r
    else if d.spareWorn kind s then
      let d := (d.setFlash fun fl => { fl with retired := fl.retired ++ [(kind, s, false)] }).errLog Code.UNIT_RETIRED kind
        ErrClass.decision s 0xFFFF 0 0
      let d := d.when (kind == UKind.lane) fun d => d.set Reg.R2800_SPARE_STATE 4
      Dev.takeSpare d kind r
    else (some s, d)

/-- CORE_LOSS: the core that is lost gives way to a spare, which is in its place from the next SI of T0 at which UNIT_RETIRED comes.
(DESIGN CHOICE, log 172, safe.) -/
def Dev.coreLossUnit (d : Dev) (what k : Nat) (c : HartContext) : Dev :=
  let d := d.coreLoss what k c
  if what ≠ CoreError.core ∨ 24 ≤ k then d
  else
    match d.takeSpare UKind.core (sparesFor UKind.core k) with
    | (some s, d) => d.setHealth fun h =>
        { h with work := h.work ++ [{ kind := UKind.core, unit := d.nat (Reg.R3840_PHYS_CORE k), spare := s,
                                      cycle := d.clk.cycle64 + 1 }] }
    | (none, d) => d

/-- How many spares of a kind can still be taken. -/
def Dev.sparesLeft (d : Dev) (kind : Nat) : Nat :=
  ((if kind = UKind.bank then [64, 65, 66, 67] else sparesFor kind 0).filter fun s => d.spareFree kind s && !d.spareWorn kind s).length

/-- Whether a unit is in service: not retired, and not a spare that waits. -/
def Dev.inService (d : Dev) (kind n : Nat) : Bool :=
  !(d.flash.retired.any fun x => x.1 == kind && x.2.1 == n) &&
    ((d.flash.spared.any fun x => x.1 == kind && x.2.2 == n) ||
      decide (n < (match kind with | 0 => 24 | 1 => 4 | 2 => 16 | 3 => 2 | 4 => 64 | _ => 0xBFF000)))

/-- A unit's retirement into a spare begins: a core stops taking items, a lane is copied in the cycle before its switch (R81), a
distance unit's spare loads in the cycle before (R515). -/
def Dev.beginRetire (d : Dev) (kind n spare : Nat) : Dev :=
  let cycle := d.clk.cycle64 + (if kind = UKind.lane ∨ kind = UKind.distance then 2 else 1)
  let d := d.setHealth fun h => { h with work := h.work ++ [{ kind, unit := n, spare, cycle }] }
  if kind = UKind.core then
    match (List.range 24).find? fun k => d.nat (Reg.R3840_PHYS_CORE k) == n with
    | some k => d.setSett fun s => { s with leaving := mset none s.leaving k (some d.rawNow) }
    | none => d
  else if kind = UKind.lane then { d with eng := { d.eng with retire := some (n, cycle) } }
  else d

/-- At most one retirement of a kind: of its units due or named, the worst first. -/
def Dev.retireKind (d : Dev) (kind : Nat) : Dev :=
  let asked := d.health.asked.filterMap fun p => if p.1 = kind then some (p.2, (-1 : Int)) else none
  let due := d.health.due.filterMap fun p => if p.1 = kind then some (p.2.1, p.2.2) else none
  let cand := (due ++ asked).filter fun p => d.inService kind p.1 && !(d.health.work.any fun w => w.kind == kind && w.unit == p.1)
  match cand.foldl (fun m p => match m with | some q => if q.2 < p.2 then some p else m | none => some p) (none : Option (Nat × Int)) with
  | none => d
  | some (n, _) =>
    match d.takeSpare kind (sparesFor kind n) with
    | (some s, d) => d.beginRetire kind n s
    | (none, d) =>
      if d.health.told.contains (kind, n) then d
      else
        let d := d.setHealth fun h => { h with told := h.told ++ [(kind, n)] }
        (d.errLog Code.SPARE_EXHAUSTED kind ErrClass.decision n 0xFFFF 0 0).unitRaise Code.SPARE_EXHAUSTED kind n

/-- SPARE_POLICY_EVALUATION, once a second; the always-on seconds follow wall time while it is valid (R351).
(DEDUCED, log 106, safe; DEDUCED, log 132, safe.) -/
def Dev.sparePolicy (d : Dev) : Dev :=
  let s := if d.nat Reg.R1140_WALL_STATE = 2 then ns40 (d.wtAt d.rawNow) / 1000000000 else d.aon.seconds + 1
  let d := { d with aon := { d.aon with seconds := s } }
  d.when (d.flag Reg.R7000_POLICY_EN) fun d => iterate 6 (fun kind d => d.retireKind kind) d

/-- A write of RETIRE names a unit or a page. -/
def Dev.retireWrite (d : Dev) (value : Nat) : Dev :=
  let kind := value / 2 ^ 24 % 256
  let n := value % 2 ^ 24
  if 5 < kind ∨ (sparesFor kind n).isEmpty then d.finish Code.OD_RANGE
  else
    (d.setHealth fun h => { h with asked := if h.asked.contains (kind, n) then h.asked else h.asked ++ [(kind, n)] }).finish
      Code.STATUS_OK

/-- A spare in service in a unit's place: recorded before the switch, with WEAR_RESERVE_LOW where it was the last usable one. -/
def Dev.spareIn (d : Dev) (kind n s : Nat) : Dev :=
  let d := d.setFlash fun fl => { fl with retired := fl.retired ++ [(kind, n, false)], spared := fl.spared ++ [(kind, n, s)] }
  let d := d.setHealth fun h =>
    { h with work := h.work.filter (fun w => !(w.kind == kind && w.unit == n)),
             due := h.due.filter (fun x => !(x.1 == kind && x.2.1 == n)), asked := h.asked.filter (fun x => x != (kind, n)) }
  let d := d.errLog (if kind = UKind.page then Code.PAGE_RETIRED else Code.UNIT_RETIRED) kind ErrClass.decision n 0xFFFF
    (if kind = UKind.page then 4096 * n else 0) s
  let low := kind == UKind.bank || d.sparesLeft kind == 0
  let d := d.when low fun d => (d.errLog Code.WEAR_RESERVE_LOW kind ErrClass.decision n 0xFFFF 0 s).unitRaise Code.WEAR_RESERVE_LOW kind n
  if kind ≤ 3 then d.showUnit (unitOf kind n) else d

/-- A retirement whose switch has come: its spare, at the SI of T0 of its cycle or later. (DEDUCED, log 133, safe.) -/
def Dev.retireDue (d : Dev) (kind n : Nat) : Option Nat :=
  match d.health.work.find? fun w => w.kind == kind && w.unit == n with
  | some w => if w.cycle ≤ d.clk.cycle64 ∧ d.clk.tick = 0 then some w.spare else none
  | none => none

/-- The distance units in service, as `OD 3101` shows them. (DEDUCED, log 133, safe.) -/
def Dev.unitSwap (d : Dev) (n s : Nat) : Dev :=
  let m := withBit (withBit (d.nat Reg.R3101_UNIT_MAP) n false) s true
  (d.set Reg.R3101_UNIT_MAP m).set Reg.R3101_UNITS_WORKING ((List.range 17).filter fun i => m.testBit i).length

/-- UNIT_RETIRED: a core, distance unit, cross-link lane or SRAM bank gives way to its spare; a core once
its background item is gone (R275), its tick-class item ended with reason 5 (R271). -/
def Dev.unitRetired (d : Dev) (kind n : Nat) : Dev :=
  if kind = UKind.lane ∨ kind = UKind.page then d
  else
    match d.retireDue kind n with
    | none => d
    | some s =>
      if kind = UKind.core then
        match (List.range 24).find? fun k => d.nat (Reg.R3840_PHYS_CORE k) == n with
        | none => d
        | some k =>
          if (d.serving (2 * k + 1)).isSome then d
          else
            let d := ((d.coreOut k).set (Reg.R3840_PHYS_CORE k) s).setSett fun x => { x with leaving := mset none x.leaving k none }
            (d.spareIn kind n s).unitRaise Code.UNIT_RETIRED kind n
      else
        let d := if kind = UKind.distance then d.unitSwap n s
          else if kind = UKind.xlink then
            d.set Reg.R5801_XLINK_LANES (withBit (withBit (d.nat Reg.R5801_XLINK_LANES) n false) s true : Nat)
          else d
        (d.spareIn kind n s).unitRaise Code.UNIT_RETIRED kind n

/-- PAGE_RETIRED: an LPDDR5X page or an SRAM bank is redirected to its spare. (DEDUCED, log 133, safe.) -/
def Dev.pageRetired (d : Dev) (kind n : Nat) : Dev :=
  if kind = UKind.page then
    match d.retireDue kind n with
    | some s => (d.spareIn kind n s).raise Code.PAGE_RETIRED Kind.other 0 0 (4096 * n)
    | none => d
  else if kind = UKind.bank then d.unitRetired kind n
  else d

/-- LANE_SPARED (R81, R82), with its record. (DEDUCED, log 133, safe.) -/
def Dev.laneSparedUnit (d : Dev) (lane : Nat) : Dev :=
  let n := d.laneSpared lane
  if n.nat Reg.R2800_SPARE_STATE = 3 ∧ d.nat Reg.R2800_SPARE_STATE ≠ 3 then n.spareIn UKind.lane lane 4 else n

/-- DISTANCE_UNIT_FAULT (R515): the unit tests nothing more; its spare takes over at the SI of T0 of the second cycle after. -/
def Dev.distanceUnitFault (d : Dev) (unit : Nat) : Dev :=
  if 17 ≤ unit ∨ ¬d.bit Reg.R3101_UNIT_MAP unit then d
  else
    let m := withBit (d.nat Reg.R3101_UNIT_MAP) unit false
    let d := (d.set Reg.R3101_UNIT_MAP m).set Reg.R3101_UNITS_WORKING ((List.range 17).filter fun i => m.testBit i).length
    let d := d.raise Code.DISTANCE_UNIT_FAULT Kind.unit (31 + unit)
    match d.takeSpare UKind.distance (sparesFor UKind.distance unit) with
    | (some s, d) => d.setHealth fun h =>
        { h with work := h.work ++ [{ kind := UKind.distance, unit, spare := s, cycle := d.clk.cycle64 + 2 }] }
    | (none, d) => d

/-- LINK_DOWN of a port; a cross-link lane in service goes out, the open generation is merged, X2 takes over at the next T0
(R515). (DEDUCED, log 145, safe.) -/
def Dev.linkDownUnit (d : Dev) (p : Nat) : Dev :=
  if p < 4 then d.linkDown p
  else if p ≤ 6 ∧ d.bit Reg.R5801_XLINK_LANES (p - 4) then
    let d := d.raise Code.LINK_DOWN Kind.port p
    let d := (d.set Reg.R5801_XLINK_LANES (withBit (d.nat Reg.R5801_XLINK_LANES) (p - 4) false : Nat)).endGen_
    match d.takeSpare UKind.xlink (sparesFor UKind.xlink (p - 4)) with
    | (some s, d) => d.setHealth fun h =>
        { h with work := h.work ++ [{ kind := UKind.xlink, unit := p - 4, spare := s, cycle := d.clk.cycle64 + 1 }] }
    | (none, d) => d
  else d

end Sys2Proof.Machine
end

