-- ==== Sys2Proof/Machine/LocalIo.lean ====
section
/-! DEFINITION. Local inputs and outputs (R20, R23, R538, R549) and the I/O banks (R536, R537). -/

namespace Sys2Proof.Machine

/-! ## Outputs -/

/-- Whether the module drives its local outputs: from the entry into CONFIG on (R538). (DEDUCED, log 139, safe.) -/
def Dev.drives (d : Dev) : Bool := decide (DevState.config ≤ d.state)

/-- Whether the digital outputs are driven; bank 2 supplies them. The others are high-impedance. -/
def Dev.doDriven (d : Dev) : Bool := d.drives && d.nat Reg.R4000_STATE_2 == 1

/-- A write of `OD 4001.02`: applied at the LI of its tick, from the output cut-off at +28.0 µs on at the following LI. -/
def Dev.doWrite (d : Dev) (v : Nat) : Dev :=
  let io := if d.ph.off < 28000 then { d.io with doNext := some v } else { d.io with doAfter := some v }
  ({ d with io }.set Reg.R4001_DO v).finish Code.STATUS_OK

/-- A write of `OD 4001.04`: four 16-bit codes. -/
def Dev.aoWrite (d : Dev) (v : Bytes) : Dev :=
  if v.length ≠ 8 then d.finish Code.OD_RANGE
  else
    let io := if d.ph.off < 28000 then { d.io with aoNext := some v } else { d.io with aoAfter := some v }
    ({ d with io }.setBytes Reg.R4001_AO v).finish Code.STATUS_OK

/-- The outputs at an SI: the values of the tick that ends take effect (R20, R23). -/
def Dev.applyOutputs (d : Dev) : Dev :=
  let io := d.io
  { d with io := { io with doPins := io.doNext.getD io.doPins, aoPins := io.aoNext.getD io.aoPins,
                           doNext := io.doAfter, doAfter := none, aoNext := io.aoAfter, aoAfter := none } }

/-- An output switched at an instant (R359): it reads so in the register and stands until another value takes effect. -/
def Dev.switchOutput (d : Dev) (k : Nat) (on : Bool) : Dev :=
  let io := d.io
  let io := { io with doPins := withBit io.doPins k on, doNext := io.doNext.map fun v => withBit v k on,
                      doAfter := io.doAfter.map fun v => withBit v k on }
  { d with io }.set Reg.R4001_DO (withBit (d.nat Reg.R4001_DO) k on)

/-! ## Inputs -/

/-- Local inputs that an axis names as limit or home switch; their qualified levels follow QUALIFIED_EDGE (R122). -/
def Dev.namedInputs (d : Dev) : List Nat :=
  ((List.range 128).flatMap fun n => (List.range 3).map fun r => d.inputOf n r).filter (· < 32)

/-- The inputs sampled at an SI: the level of a digital input that no axis qualifies is the sampled one; a bank that is lost keeps
levels and counts. (DEDUCED, log 59, safe.) -/
def Dev.sampleInputs (d : Dev) (x : SampleIn) : Dev :=
  let di := if d.bankDead 0 then d.io.di else x.di % 2 ^ 32
  let enc := if d.bankDead 1 then d.io.enc else (List.range 8).map fun i => wrapBits 64 (x.enc.getD i 0)
  let ai := (List.range 8).map fun i => satBits 18 (x.ai.getD i 0)
  let d := { d with io := { d.io with di, ai, enc, remote := d.bytes Reg.R1610_VALUES } }
  let named := d.namedInputs
  let show_ := (List.range 32).foldl (fun v i => if named.contains i then v else withBit v i (di.testBit i)) (d.nat Reg.R4001_DI)
  let d := d.when (!d.bankDead 0) fun d => d.set Reg.R4001_DI show_
  (d.setBytes Reg.R4001_AI (ai.flatMap fun v => leBytes 4 (toU 32 (v * 16384)))).setBytes Reg.R4001_ENC
    (enc.flatMap fun v => leBytes 8 (toU 64 v))

/-- The bank of an input as commands name it (`inputKey`): local inputs belong to bank 1. -/
def Dev.inputDead (d : Dev) (input : Nat) : Bool := decide (input < 32) && d.bankDead 0

/-- RAW_TRANSITION: an input of a lost bank shows none. -/
def Dev.rawInput (d : Dev) (input : Nat) (level : Bool) (raw : Nat) : Dev :=
  if d.inputDead input then d else d.rawTransition input level raw

/-- QUALIFIED_EDGE: the edge of one axis' input; a local input's qualified level stands in `OD 4001.01`. -/
def Dev.qualifiedInput (d : Dev) (n role : Nat) (level : Bool) (raw : Nat) : Dev :=
  let i := d.inputOf n role
  if d.inputDead i then d
  else
    let d := d.qualifiedEdge n role level raw
    d.when (decide (i < 32 ∧ role < 3) && d.bit (Reg.AX12_INPUT_STATUS n) role == level) fun d =>
      d.set Reg.R4001_DI (withBit (d.nat Reg.R4001_DI) i level)

/-- SAFE_INPUT_QUALIFIED: with the safe bank lost both channels read every safe input low (R537). -/
def Dev.safeInputPin (d : Dev) (i : Nat) (level : Bool) (raw : Nat) : Dev :=
  if d.bankDead 3 ∧ level = true then d else d.safeInput i level raw

/-! ## Banks (R536, R537) -/

/-- The nominal voltage whose ±5 % range holds a reading, in mV. -/
def nominalOf (b mv : Nat) : Option Nat :=
  (if b = 3 then [3300] else [900, 1200, 1500, 1800]).find? fun n => decide (n * 95 ≤ mv * 100 ∧ mv * 100 ≤ n * 105)

/-- A bank reported lost. -/
def Dev.bankRaise (d : Dev) (b : Nat) : Dev :=
  (d.count Reg.R4000_LOSSES).raise Code.BANK_POWER_LOSS Kind.other 0 0 b

/-- A bank measured at a reset release. (DEDUCED, log 137, unsafe.) -/
def Dev.measureBank (d : Dev) (b mv : Nat) : Dev :=
  let d := d.set (Reg.R4000_MV_1 + b) mv
  match nominalOf b mv with
  | some n => (d.set (Reg.R4000_STATE_1 + b) 1).set (Reg.R4000_NOMINAL_MV_1 + b) n
  | none => ((d.set (Reg.R4000_STATE_1 + b) 0).set (Reg.R4000_NOMINAL_MV_1 + b) 0).bankRaise b

/-- The safe bank lost: every safe input reads low, every safe output that was ON is in FAULT. (DEDUCED, log 137, unsafe.) -/
def Dev.safeBankLost (d : Dev) : Dev :=
  let d := iterate 8 (fun k d => (d.setSafeFn k { d.safeFn k with levels := 0 }).fnEval k d.rawNow) d
  iterate 8 (fun k d =>
    d.when (d.outState k == OutState.on || d.outState k == OutState.pulse) fun d => d.outFault k Code.SO_READBACK_FAULT) d

/-- BANK_POWER_LOSS of bank `b` (0 to 2: banks 1 to 3, 3 the safe bank) with its reading. Bank 3's loss holds the module in
reset, which `Dev.bankLoss` of PowerPins.lean adds. (DEDUCED, log 137, unsafe.) -/
def Dev.bankLost (d : Dev) (b mv : Nat) : Dev :=
  let d := ((d.set (Reg.R4000_MV_1 + b) mv).set (Reg.R4000_STATE_1 + b) 2).bankRaise b
  if b = 3 then d.safeBankLost
  else
    each ((List.range 128).filter d.bankBlocks) (fun n d => d.react n Code.BANK_POWER_LOSS Reaction.qstop) d

/-- BANK_POWER_RESTORED: the bank is in use again; its inputs qualify from fresh samples. -/
def Dev.bankRestored (d : Dev) (b mv : Nat) : Dev :=
  if 4 ≤ b ∨ d.nat (Reg.R4000_STATE_1 + b) ≠ 2 ∨ nominalOf b mv ≠ some (d.nat (Reg.R4000_NOMINAL_MV_1 + b)) then d
  else
    let d := ((d.set (Reg.R4000_MV_1 + b) mv).set (Reg.R4000_STATE_1 + b) 1).raise Code.BANK_POWER_RESTORED Kind.other 0 0 b
    if b ≠ 0 then d
    else
      iterate 128 (fun n d => iterate 3 (fun r d =>
        d.when (decide (d.inputOf n r < 32)) fun d => d.setAxIn n r { d.axIn n r with first := none, last := none }) d) d

end Sys2Proof.Machine
end

