-- ==== Sys2Proof/Machine/Pair.lean ====
section
/-! DEFINITION. Redundant pairs (spec/12): roles and epochs, checkpoint generations, the standby, silence, the Owl and takeover. -/

namespace Sys2Proof.Machine

/-! ## Control state and mirrored configuration (R420) -/

/-- What a checkpoint carries of the control state. -/
structure Ctrl where
  axes   : Map Axis
  chains : Map Chain
  zones  : Map Zone
  safe   : SafeDom
  pend   : Map (Option Pending)
  sett   : Sett
  od     : Map Int
  dom    : Map Bytes
deriving DecidableEq, Repr

/-- The bytes of the control state after CKPT_FORMAT, and what they say: the spec gives their content, not their layout.
(DESIGN CHOICE, log 113, safe.) -/
opaque Config.ctrlBlock : Ctrl → Bytes
opaque Config.ctrlOf : Bytes → Option Ctrl

/-- The same of the mirrored configuration. (DESIGN CHOICE, log 113, safe.) -/
opaque Config.configBlock : Map Int → Map Bytes → Bytes
opaque Config.configOf : Bytes → Option (Map Int × Map Bytes)

/-- The objects of R408 that each unit has for itself, and `OD 5800` to `OD 58FF`. -/
def perUnit (k : Nat) : Bool :=
  let ix := k / 256
  k == Reg.R1400_NODE_ID || k == act Reg.R1400_NODE_ID || decide ((0x1410 ≤ ix ∧ ix < 0x1421) ∨ (0x5800 ≤ ix ∧ ix < 0x5900) ∨
    (0x6000 ≤ ix ∧ ix < 0x6100))

/-- Whether a key belongs to the mirrored configuration: a STORED entry or an active bank image. -/
def mirrored (k : Nat) : Bool :=
  !perUnit k && (storedKey k || activeImage (k / 256) (k % 256 % 128))

/-- Whether a key belongs to the control state: the volatile registers of axes, chains, zones, monitored axes and safety
connections. -/
def controlKey (k : Nat) : Bool :=
  let ix := k / 256
  !mirrored k && decide ((0x1500 ≤ ix ∧ ix < 0x1580) ∨ (0x2000 ≤ ix ∧ ix < 0x2800) ∨ (0x3000 ≤ ix ∧ ix < 0x3100) ∨
    (0x3140 ≤ ix ∧ ix < 0x3180) ∨ (0x5010 ≤ ix ∧ ix < 0x5018) ∨ (0x5080 ≤ ix ∧ ix < 0x5100))

/-- The control state as it stands. (DESIGN CHOICE, log 113, safe.) -/
def Dev.ctrl (d : Dev) : Ctrl :=
  { axes := d.axes, chains := d.chains, zones := d.zones, safe := d.safe, pend := d.pend, sett := d.sett,
    od := d.od.filter fun x => controlKey x.1, dom := d.dom.filter fun x => controlKey x.1 }

/-- The block of CTRL records: CKPT_FORMAT of the firmware (R489), then the state. -/
def Dev.ctrlBytes (d : Dev) : Bytes := leBytes 2 (imgCkpt d.fwImage) ++ Config.ctrlBlock d.ctrl

/-- The mirrored configuration as a block. -/
def Dev.configBytes (d : Dev) : Bytes :=
  Config.configBlock (d.od.filter fun x => mirrored x.1) (d.dom.filter fun x => mirrored x.1)

/-! ## Epochs and roles (R411, R412, R414, R427) -/

abbrev PairRole.none : Nat := 0
abbrev PairRole.active : Nat := 1
abbrev PairRole.standby : Nat := 2

def Dev.pairMode (d : Dev) : Nat := d.nat (act Reg.R5800_PAIR_MODE)
def Dev.partnerId (d : Dev) : Nat := d.nat (act Reg.R5800_PARTNER_ID)
def Dev.owlId (d : Dev) : Nat := d.nat (act Reg.R5800_OWL_ID)

/-- Whether the unit stands by: HIBERNATE or STANDBY_READY. -/
def Dev.standsBy (d : Dev) : Bool := d.state == DevState.hibernate || d.state == DevState.standbyReady

/-- Whether tick `t` lies within the last `n` ticks. -/
def Dev.within (d : Dev) (t : Option Nat) (n : Nat) : Bool :=
  match t with | some t => decide (d.tickAbs < t + n) | none => false

/-- The unit hears its partner as active (R412). -/
def Dev.hearsActive (d : Dev) : Bool := d.within d.pair.hbActive 32 || d.within d.pair.netActive 32

/-- The highest epoch the unit knows (R414). -/
def Dev.knownEpoch (d : Dev) : Nat :=
  d.pair.windows.foldl (fun e (_, w) => match w with | some (_, b) => max e (fieldLE b 4 4) | none => e)
    (d.nat Reg.R5801_STORED_EPOCH)

/-- The next epoch: its low 8 bits are never 0. -/
def nextEpoch (e : Nat) : Nat := if (e + 1) % 256 = 0 then e + 2 else e + 1

/-- An epoch made known to the unit: only a higher one changes what it stores. -/
def Dev.learnEpoch (d : Dev) (epoch holder : Nat) : Dev :=
  if d.nat Reg.R5801_STORED_EPOCH < epoch then (d.set Reg.R5801_STORED_EPOCH epoch).set Reg.R5801_HOLDER holder else d

/-- The unit takes an epoch as its own, written to the settings store before its first frame with it. -/
def Dev.takeEpoch (d : Dev) (epoch : Nat) : Dev :=
  (d.set Reg.R5801_STORED_EPOCH epoch).set Reg.R5801_HOLDER (d.node Reg.R1400_NODE_ID)

/-- The unit becomes active at start-up. -/
def Dev.becomeActive (d : Dev) (epoch : Nat) : Dev :=
  let d := d.setPair fun p => { p with listenAt := none, secondAt := none, owlFrom := none }
  ((d.takeEpoch epoch).set Reg.R5801_ROLE PairRole.active).goTo DevState.run

/-- The unit stands by: stream and sweep are requested by its heartbeats. -/
def Dev.hibernateNow (d : Dev) : Dev :=
  let d := d.setPair fun p =>
    { p with listenAt := none, secondAt := none, owlFrom := none, sweepDone := false, stageGen := 0, stage := [] }
  (d.set Reg.R5801_ROLE PairRole.standby).goTo DevState.hibernate

/-- A unit that listens no more but is neither active nor a standby: it hibernates once it hears its partner as active or the Owl
grants the partner, and becomes active on a grant of its own (R411). -/
def Dev.pairListen (d : Dev) : Dev :=
  let waits := d.paired && d.state == DevState.syncing && d.inSync && d.pair.listenAt.isNone
  if !waits then d
  else if d.hearsActive then d.hibernateNow
  else if d.pairMode = 2 then
    if d.pair.owlFrom.isSome then d.becomeActive (d.nat Reg.R5801_STORED_EPOCH)
    else match mget none d.pair.windows d.owlId with
      | some (_, b) => if fieldLE b 0 1 = 3 ∧ fieldLE b 8 2 = d.partnerId ∧ fieldLE b 4 4 ≠ 0 then d.hibernateNow else d
      | none => d
  else d

/-- PARTNER_LISTEN_END: 32 ticks of listening are over. -/
def Dev.partnerListenEnd (d : Dev) : Dev :=
  match d.pair.listenAt with
  | some t =>
    if d.paired ∧ d.inSync ∧ d.state = DevState.syncing ∧ t + 32 ≤ d.tickAbs then
      let d := d.setPair fun p => { p with listenAt := none }
      if d.hearsActive then d.hibernateNow
      else if d.pairMode = 1 ∧ d.flag (act Reg.R5800_PRIMARY) then d.becomeActive (nextEpoch d.knownEpoch)
      else (d.setPair fun p => { p with secondAt := if d.pairMode = 1 then some d.clk.cycle64 else none }).pairListen
    else d
  | none => d

/-- DUPLEX_SECONDARY_TIMEOUT: 4,000 more cycles without an active partner. -/
def Dev.duplexSecondary (d : Dev) : Dev :=
  match d.pair.secondAt with
  | some c =>
    if d.state = DevState.syncing ∧ d.inSync ∧ c + 4000 ≤ d.clk.cycle64 then
      if d.hearsActive then d.hibernateNow else d.becomeActive (nextEpoch d.knownEpoch)
    else d
  | none => d

/-! ## The active: generations (R419, R420, R422, R428) -/

/-- Whether the partner takes the stream: a standby whose heartbeats arrive, and not given up as lost. -/
def Dev.streams (d : Dev) : Bool :=
  d.active && d.pair.takeover.isNone && d.within d.pair.hbTick 24 && !d.pair.lostTold &&
    (d.nat Reg.R5801_PARTNER_STATE == DevState.hibernate || d.nat Reg.R5801_PARTNER_STATE == DevState.standbyReady)

/-- The pages of the Hoard. -/
def Dev.hoardPages (d : Dev) : Nat := d.nat (act Reg.R5800_HOARD_SIZE) * 256

/-- The journal records in the ring by their index, free ones left out. -/
def Dev.journalRecords (d : Dev) : List (Nat × Bytes) :=
  let base := d.nat Reg.R3802_JOURNAL_BASE
  d.sett.journal.map fun (seq, _) =>
    (seq % max 1 (d.nat Reg.R3802_JOURNAL_ENTRIES), d.memRead (base + 64 * (seq % max 1 (d.nat Reg.R3802_JOURNAL_ENTRIES))) 64)

/-- GENERATION_OPEN at the SI of T0; a dirty set beyond STAGE_PAGES sends the standby back and starts a sweep. -/
def Dev.openGeneration (d : Dev) : Dev :=
  match d.pair.gen with
  | some g => d.set Reg.R5801_GEN_LAG (d.clk.cycle64 - g.cycle)
  | none =>
    if !d.streams then d
    else
      let pages := d.pair.unacked.foldl (fun l u => each u.2.1 insNat l) d.pair.dirty
      if d.nat (act Reg.R5800_STAGE_PAGES) < pages.length then
        let d := d.setPair fun p => { p with dirty := [], unacked := [], jSent := [], cfgSent := [], sweepAt := some 0 }
        d.raise Code.CKPT_OVERFLOW Kind.device 0
      else
        let num := d.pair.lastNum + 1
        let todo := d.sett.journal.filter fun r => !r.2
        let hi := d.nat Reg.R3802_NEXT_SEQ
        let g : Gen :=
          { num, cycle := d.clk.cycle64, pages, jLo := match todo with | r :: _ => r.1 | [] => hi, jHi := hi,
            records := d.journalRecords.filter fun r => mget [] d.pair.jSent r.1 != r.2, ctrl := d.ctrlBytes,
            config := d.configBytes }
        let d := d.setPair fun p => { p with gen := some g, dirty := [], lastNum := num }
        ((d.set Reg.R5801_OPEN_GEN num).set Reg.R5801_PENDING_PAGES pages.length).set Reg.R5801_GEN_LAG 0

/-- A block cut into the records of a type, in pieces of 1,024 bytes with their offsets. -/
def pieces (rtype : Nat) (b : Bytes) : List (Nat × Nat × Nat × Bytes) :=
  (List.range ((b.length + 1023) / 1024)).map fun i => (rtype, 0, 1024 * i, (b.drop (1024 * i)).take 1024)

/-- Consecutive journal records, up to 16 to a record. -/
def journalRuns : Nat → List (Nat × Bytes) → List (Nat × Nat × Nat × Bytes)
  | 0, _ => []
  | _, [] => []
  | fuel + 1, (i, b) :: r =>
    let run := (((i, b) :: r).zip (List.range 16)).takeWhile fun x => x.1.1 = i + x.2
    (3, 0, i, run.flatMap fun x => x.1.2) :: journalRuns fuel (r.drop (run.length - 1))

/-- The records of a generation before its CLOSE: type, FRAG, ADDR, data. (DEDUCED, log 114, unsafe.) -/
def Dev.genRecords (d : Dev) (g : Gen) : List (Nat × Nat × Nat × Bytes) :=
  pieces 2 g.ctrl ++ (if g.config = d.pair.cfgSent then [] else pieces 5 g.config) ++
    journalRuns g.records.length g.records ++
    g.pages.flatMap fun pg =>
      let b := if g.kept.any fun x => x.1 = pg then mget [] g.kept pg else d.hoardBytes pg
      (List.range 4).map fun q => (1, q, 4096 * pg, slice b (1024 * q) 1024)

/-- The wire bytes of a record with `n` bytes of data: frame, preamble and gap (R422). -/
def recordWire (n : Nat) : Nat := 78 + n

/-- The wire bytes a cycle gives to checkpoint records. (DEDUCED, log 114, unsafe.) -/
def Dev.streamBudget (d : Dev) : Nat := 625000 * min 2 d.lanes2.length

/-- A record sent on the lanes in turn. -/
def Dev.stripe (d : Dev) (i : Nat) (r : Bytes) : Dev :=
  match d.lanes2 with
  | [] => d
  | l :: ls => d.sendRecord ((l :: ls).getD (i % (ls.length + 1)) l) (d.nat Reg.R5801_STORED_EPOCH % 256) r

/-- GENERATION_CLOSE: every record and the CLOSE record are sent, as soon as the cycles since the consistency point carry them. -/
def Dev.closeGeneration (d : Dev) : Dev :=
  match d.pair.gen with
  | none => d
  | some g =>
    let rs := d.genRecords g
    let wire := (rs.map fun r => recordWire r.2.2.2.length).sum + recordWire 72
    if ¬d.streams ∨ d.streamBudget * (d.clk.cycle64 - g.cycle + 1) < wire then d
    else
      let bytes := rs.zipIdx.map fun ((ty, frag, addr, data), i) => record ty frag g.num i addr data
      let close := leBytes 4 (g.cycle % 2 ^ 32) ++ leBytes 4 g.pages.length ++ leBytes 4 rs.length ++ leBytes 4 g.ctrl.length ++
        leBytes 8 g.jLo ++ leBytes 8 g.jHi ++ leBytes 4 (d.nat Reg.R5801_STORED_EPOCH) ++ leBytes 4 0 ++
        leBytes 16 (digest128 g.config) ++ leBytes 16 (digest128 bytes.flatten)
      let d := each (bytes ++ [record 4 0 g.num rs.length 0 close]).zipIdx (fun (r, i) d => d.stripe i r) d
      let d := d.setPair fun p =>
        { p with gen := none, unacked := p.unacked ++ [(g.num, g.pages, g.cycle, d.clk.cycle64)], cfgSent := g.config,
                 jSent := each g.records (fun (i, b) m => mset [] m i b) p.jSent, wire := p.wire + wire }
      ((d.set Reg.R5801_OPEN_GEN 0).set Reg.R5801_PENDING_PAGES 0).set Reg.R5801_GEN_LAG 0

/-- CKPT_LAG: a generation has stayed open for LAG_WARN_CYCLES. -/
def Dev.checkpointLag (d : Dev) : Dev :=
  match d.pair.gen with
  | some g =>
    if g.lagTold = false ∧ g.cycle + d.nat (act Reg.R5800_LAG_WARN_CYCLES) ≤ d.clk.cycle64 then
      (d.setPair fun p => { p with gen := some { g with lagTold := true } }).raise Code.CKPT_LAG Kind.device 0
    else d
  | none => d

/-- Generations not taken: their pages, and everything a generation sends only once, go into the next one. -/
def Dev.mergeUnacked (d : Dev) (f : Nat × List Nat × Nat × Nat → Bool) : Dev :=
  if d.pair.unacked.any f then
    d.setPair fun p => { p with dirty := (p.unacked.filter f).foldl (fun l u => each u.2.1 insNat l) p.dirty,
                                unacked := p.unacked.filter fun u => !f u, cfgSent := [], jSent := [] }
  else d

/-- CKPT_ACK_TIMEOUT: no ACK within 8 cycles of a CLOSE. (DEDUCED, log 114, unsafe.) -/
def Dev.ackTimeout (d : Dev) : Dev := d.mergeUnacked fun u => decide (u.2.2.2 + 8 ≤ d.clk.cycle64)

/-- The end of a cycle: STREAM_BYTES reports its wire bytes (R433), the sweep (R428) among them: pages in rising order, with the
wire bytes that the generation left.
(DEDUCED, log 114, unsafe.) -/
def Dev.sweep (d : Dev) : Dev :=
  let free := min (d.nat (act Reg.R5800_RESYNC_BYTES)) (d.streamBudget - d.pair.wire)
  let sent := d.pair.wire
  let d := (d.setPair fun p => { p with wire := 0 }).set Reg.R5801_STREAM_BYTES sent
  match d.pair.sweepAt with
  | none => d
  | some pg =>
    if !d.streams then d
    else
      let n := min (free / 4408) (d.hoardPages - pg)
      let d := iterate n (fun i d =>
        let b := d.hoardBytes (pg + i)
        iterate 4 (fun q d => d.stripe (4 * i + q) (record 6 q 0 (4 * (pg + i) + q) (4096 * (pg + i)) (slice b (1024 * q) 1024))) d) d
      let d := d.setPair fun p => { p with sweepAt := if d.hoardPages ≤ pg + n then none else some (pg + n) }
      (d.set Reg.R5801_SWEEP_PAGES (d.hoardPages - (pg + n))).set Reg.R5801_STREAM_BYTES (sent + 4408 * n)

/-- HOARD_WRITE_CAPTURE: a write to a page of the Hoard, which is captured first where the open generation has yet to send it. -/
def Dev.hoardWrite (d : Dev) (addr : Nat) (data : Bytes) : Dev :=
  if (d.hoardPage addr).isSome then d.coreWrite addr data else d

/-- The heartbeat each unit sends in every tick on every lane in service. -/
def Dev.sendHeartbeat (d : Dev) : Dev :=
  if !d.paired then d
  else
    let ack := if d.standsBy then d.nat Reg.R5801_LAST_GEN else 0
    let data := [byte d.state, byte (d.nat Reg.R5801_ROLE)] ++ leBytes 2 0 ++ leBytes 4 ack ++ leBytes 4 d.pair.nak ++
      leBytes 4 (d.nat Reg.R5801_STORED_EPOCH)
    each d.lanes2 (fun l d => d.sendRecord l (if d.active then d.nat Reg.R5801_STORED_EPOCH % 256 else 0) (record 8 0 0 0 0 data)) d

/-! ## Shadow check (R418) -/

/-- SHADOW_CHECK: the sampled axis is recomputed in T7; `agree` says that every output agreed. -/
def Dev.shadowCheck (d : Dev) (agree : Bool) : Dev :=
  let sampled := (List.range 128).any fun n => decide (d.cycle % 128 ≤ n) && d.evaluates n
  if agree ∨ d.clk.tick ≠ 7 ∨ !sampled then d
  else (d.raise Code.SHADOW_MISMATCH Kind.device 0).unitFails Code.SHADOW_MISMATCH

/-! ## Records received (R419, R421, R428) -/

/-- A record of a CHECKPOINT frame from the partner on a lane in service: FRAG, GEN, FSEQ, ADDR, data and the record whole. -/
structure RecordIn where
  frag : Nat
  gen  : Nat
  fseq : Nat
  addr : Nat
  data : Bytes
  all  : Bytes
deriving DecidableEq, Repr

def Dev.recordIn (d : Dev) (rtype : Nat) (f : FrameIn) : Option RecordIn :=
  match d.headerOf f.bytes with
  | none => none
  | some h =>
    let b := payloadOf f.bytes
    let n := fieldLE b 2 2
    if ¬d.paired ∨ ¬f.fcs ∨ f.port < 4 ∨ ¬d.lanes2.contains (f.port - 4) ∨ h.kind ≠ FrameKind.checkpoint ∨ h.source ≠ d.partnerId ∨
        fieldLE b 0 1 ≠ rtype ∨ 1024 < n ∨ b.length < 16 + n then none
    else some { frag := fieldLE b 1 1, gen := fieldLE b 4 4, fseq := fieldLE b 8 4, addr := fieldLE b 12 4, data := slice b 16 n,
                all := b.take (16 + n) }

/-- The generation being staged given up (R421). -/
def Dev.rejectStage (d : Dev) : Dev :=
  let d := d.setPair fun p => { p with nak := p.stageGen, stageGen := 0, stage := [] }
  d.raise Code.CKPT_DIGEST_BAD Kind.device 0

/-- A standby whose image no longer follows the active: back to HIBERNATE, with a new sweep. (DEDUCED, log 114, unsafe.) -/
def Dev.fallBackStandby (d : Dev) : Dev :=
  (d.setPair fun p => { p with sweepDone := false }).when (d.state == DevState.standbyReady) fun d => d.goTo DevState.hibernate

/-- The staged records of a type joined by their offsets. -/
def stagedBlock (rtype : Nat) (rs : List Bytes) : Bytes :=
  rs.foldl (fun b r => if fieldLE r 0 1 = rtype then patch b (fieldLE r 12 4) (r.drop 16) else b) []

/-- A complete generation applied in one step (R421, R427, R489); `c` is the data of its CLOSE. -/
def Dev.applyGeneration (d : Dev) (rs : List Bytes) (c : Bytes) : Dev :=
  let ctrl := (stagedBlock 2 rs).take (fieldLE c 12 4)
  if fieldLE ctrl 0 2 ≠ imgCkpt d.fwImage then
    let d := d.when (!d.pair.fmtTold) fun d => d.raise Code.CKPT_FORMAT_MISMATCH Kind.device 0
    (d.setPair fun p => { p with fmtTold := true, stageGen := 0, stage := [] }).fallBackStandby
  else
    let num := d.pair.stageGen
    let base := d.nat (act Reg.R5800_HOARD_BASE)
    let d := each rs (fun r d =>
      if fieldLE r 0 1 = 1 then d.memWrite (base + fieldLE r 12 4 + 1024 * fieldLE r 1 1) (r.drop 16)
      else if fieldLE r 0 1 = 3 then d.memWrite (d.nat Reg.R3802_JOURNAL_BASE + 64 * fieldLE r 12 4) (r.drop 16)
      else d) d
    let config := if rs.any fun r => fieldLE r 0 1 = 5 then stagedBlock 5 rs else d.pair.config
    let d := d.setPair fun p =>
      { p with ctrl := ctrl.drop 2, config, jLo := fieldLE c 16 8, jHi := fieldLE c 24 8, stageGen := 0, stage := [], fmtTold := false }
    let d := ((d.set Reg.R5801_LAST_GEN num).set Reg.R5801_LAST_GEN_CYCLE (fieldLE c 0 4)).learnEpoch (fieldLE c 32 4) d.partnerId
    if digest128 config ≠ fieldLE c 40 16 then d.fallBackStandby
    else if d.state = DevState.hibernate ∧ d.pair.sweepDone then
      (d.goTo DevState.standbyReady).raise Code.PARTNER_READY Kind.device 0
    else d

/-- The generation judged once its CLOSE and every record before it are there. (DEDUCED, log 114, unsafe.) -/
def Dev.judgeStage (d : Dev) : Dev :=
  match d.pair.stage.find? fun x => fieldLE x.2 0 1 = 4 with
  | none => d
  | some (_, close) =>
    let c := close.drop 16
    let n := fieldLE c 8 4
    let rs := (d.pair.stage.filter fun x => decide (x.1 < n)).map Prod.snd
    if rs.length ≠ n then d
    else if digest128 rs.flatten ≠ fieldLE c 56 16 then d.rejectStage
    else d.applyGeneration rs c

/-- A record of a generation received: staged by FSEQ; the next generation opening ends an incomplete one. -/
def Dev.stageRecord (d : Dev) (rtype : Nat) (f : FrameIn) : Dev :=
  match d.recordIn rtype f with
  | none => d
  | some r =>
    if !d.standsBy ∨ d.pair.takeover.isSome ∨ r.gen = 0 ∨ r.gen < d.pair.stageGen ∨
        (d.pair.stageGen = 0 ∧ (r.gen ≤ d.nat Reg.R5801_LAST_GEN ∨ r.gen ≤ d.pair.nak)) then d
    else
      let d := d.when (d.pair.stageGen != 0 && r.gen != d.pair.stageGen) Dev.rejectStage
      (d.setPair fun p => { p with stageGen := r.gen, stage := mset [] p.stage r.fseq r.all }).judgeStage

/-- SWEEP_RECORD: a quarter of a page of the sweep; a standby that was ready follows a new sweep from HIBERNATE. -/
def Dev.sweepRecord (d : Dev) (f : FrameIn) : Dev :=
  match d.recordIn 6 f with
  | none => d
  | some r =>
    if !d.standsBy then d
    else
      let d := d.when (d.state == DevState.standbyReady) Dev.fallBackStandby
      let d := d.memWrite (d.nat (act Reg.R5800_HOARD_BASE) + r.addr + 1024 * r.frag) r.data
      let left := d.hoardPages - (r.addr / 4096 + 1)
      (d.set Reg.R5801_SWEEP_PAGES left).setPair fun p => { p with sweepDone := left == 0 && r.frag == 3 }

/-- What a heartbeat says of the generations to the active: those acknowledged are forgotten, the one refused goes into the next. -/
def Dev.takeAcks (d : Dev) (ack nak : Nat) : Dev :=
  match d.pair.unacked.find? fun u => u.1 = ack with
  | some u =>
    let d := d.setPair fun p => { p with unacked := p.unacked.filter fun v => decide (ack < v.1) }
    ((d.set Reg.R5801_LAST_GEN ack).set Reg.R5801_LAST_GEN_CYCLE (u.2.2.1 % 2 ^ 32)).mergeUnacked fun v => v.1 == nak
  | none => d.mergeUnacked fun v => v.1 == nak

/-- HEARTBEAT: the partner's heartbeat. A partner that hibernates anew asks for a sweep and for everything; one that has become
ready is reported. -/
def Dev.heartbeat (d : Dev) (f : FrameIn) : Dev :=
  match d.recordIn 8 f with
  | none => d
  | some r =>
    let st := fieldLE r.data 0 1
    let was := d.nat Reg.R5801_PARTNER_STATE
    let d := d.setPair fun p =>
      { p with hbTick := some d.tickAbs, hbActive := if fieldLE r.data 1 1 = 1 then some d.tickAbs else p.hbActive, lostTold := false }
    let d := d.set Reg.R5801_PARTNER_STATE st
    if d.active then
      let d := d.when (st == DevState.hibernate && was != st) fun d =>
        d.setPair fun p => { p with sweepAt := some 0, cfgSent := [], jSent := [] }
      let d := d.when (st == DevState.standbyReady && was != st) fun d => d.raise Code.PARTNER_READY Kind.device 0
      d.takeAcks (fieldLE r.data 4 4) (fieldLE r.data 8 4)
    else (d.learnEpoch (fieldLE r.data 12 4) d.partnerId).pairListen

/-! ## Silence, the Owl, takeover (R423 to R425) -/

/-- From the decision tick on: the new epoch, incomplete generations and the stream given up, the password session ended.
(DEDUCED, log 115, unsafe; DEDUCED, log 117, safe.) -/
def Dev.takeOver (d : Dev) (epoch : Nat) : Dev :=
  let d := d.takeEpoch epoch
  let d := d.setPair fun p =>
    { p with stageGen := 0, stage := [], takeover := some d.tickAbs, owlFrom := none, dirty := [], gen := none, unacked := [],
             jSent := [], cfgSent := [], sweepAt := none }
  let d := ((d.set Reg.R5801_ROLE PairRole.active).goTo DevState.run).count Reg.R5801_TAKEOVERS
  (d.raise Code.TAKEOVER Kind.device 0).endSession

/-- PARTNER_LOST, once until heartbeats arrive again; the active stops streaming. (DEDUCED, log 115, unsafe.) -/
def Dev.partnerLost (d : Dev) : Dev :=
  if d.pair.lostTold then d
  else ((d.setPair fun p => { p with lostTold := true }).raise Code.PARTNER_LOST Kind.device 0).endGen_

/-- A row of R423 that takes over: only STANDBY_READY does. -/
def Dev.takeoverRow (d : Dev) : Dev :=
  if d.state = DevState.standbyReady then d.takeOver (nextEpoch d.knownEpoch) else d.partnerLost

/-- FAIL_RECORD: the active has failed. -/
def Dev.failRecord (d : Dev) (f : FrameIn) : Dev :=
  match d.recordIn 9 f with
  | none => d
  | some r =>
    if !d.standsBy then d
    else
      let d := (d.setPair fun p => { p with failRx := true }).set Reg.R5801_LAST_CAUSE (fieldLE r.data 0 2)
      if d.pairMode = 1 then d.takeoverRow else d

/-- Whether every consumer's status window came in the last 16 ticks, and whether one of them reports the current epoch. -/
def Dev.consumers (d : Dev) : Bool × Bool :=
  let b := d.bytes (act Reg.R5800_CONSUMERS)
  let ws := (List.range (b.length / 2)).map fun i => mget none d.pair.status (fieldLE b (2 * i) 2)
  (ws.all fun w => match w with | some (t, _) => decide (d.tickAbs < t + 16) | none => false,
   ws.any fun w => match w with | some (_, e) => e == d.nat Reg.R5801_STORED_EPOCH % 256 | none => false)

/-- SILENCE_EVALUATION (R423): at +28.0 µs of every tick in a duplex pair. (DEDUCED, log 115, unsafe.) -/
def Dev.silence (d : Dev) : Dev :=
  if d.pairMode ≠ 1 then d
  else
    let d := d.at 28000
    if d.standsBy then
      if d.within d.pair.hbActive 24 then d
      else if d.within d.pair.netTick 24 then d.partnerLost
      else match d.consumers with
        | (true, false) => d.takeoverRow
        | _ => d.partnerLost
    else if d.active ∧ !d.within d.pair.hbTick 24 ∧ d.within d.pair.netTick 24 then d.partnerLost
    else d

/-- OWL_DECISION (R424): at +28.0 µs of T7 the Owl grants a new epoch to a ready standby whose active failed or has sent no pair
window in this cycle and the 2 before it. (DEDUCED, log 115, unsafe.) -/
def Dev.owlDecision (d : Dev) : Dev :=
  if d.pairMode ≠ 3 ∨ d.clk.tick ≠ 7 then d
  else
    let d := d.at 28000
    let c := d.clk.cycle64
    let grant (s o : Nat) : Bool :=
      match mget none d.pair.windows s with
      | some (t, b) => t == c && fieldLE b 1 1 == DevState.standbyReady && d.nat Reg.R5801_HOLDER != s &&
          (fieldLE b 2 1 % 2 == 1 || (match mget none d.pair.windows o with | some (u, _) => decide (u + 2 < c) | none => true))
      | none => false
    let give (s : Nat) : Dev := (d.set Reg.R5801_STORED_EPOCH (nextEpoch d.knownEpoch)).set Reg.R5801_HOLDER s
    if grant d.partnerId d.owlId then give d.partnerId
    else if grant d.owlId d.partnerId then give d.owlId
    else d

/-- OWL_LOST: no Owl pair window for 3 cycles; raised once until one arrives. -/
def Dev.owlLost (d : Dev) : Dev :=
  if d.pairMode ≠ 2 then d
  else
    let recent := match mget none d.pair.windows d.owlId with | some (t, _) => decide (d.clk.cycle64 < t + 3) | none => false
    let d := d.when (!recent && !d.pair.owlTold) fun d => d.raise Code.OWL_LOST Kind.device 0
    d.setPair fun p => { p with owlTold := !recent }

/-- A grant that arrived (R424): a ready standby takes over with it, a unit that waits becomes active. -/
def Dev.grantDue (d : Dev) : Dev :=
  if d.pairMode = 2 ∧ d.pair.owlFrom.isSome then
    if d.state = DevState.standbyReady then d.takeOver (d.nat Reg.R5801_STORED_EPOCH) else d.pairListen
  else d

/-! ## The release at D + 16 (R425) -/

/-- The registers of a class replaced by those loaded. -/
def Dev.loadKeys (d : Dev) (p : Nat → Bool) (od : Map Int) (dom : Map Bytes) : Dev :=
  let d := { d with od := d.od.filter fun x => !p x.1, dom := d.dom.filter fun x => !p x.1 }
  let d := each (od.filter fun x => p x.1) (fun (k, v) d => d.set k v) d
  each (dom.filter fun x => p x.1) (fun (k, v) d => { d with dom := mset (domDefault k) d.dom k v }) d

/-- Of a loop's state words only the integrator's y1 is kept. -/
def Level.takeoverWords (x : Level) (b : Bank) : Level :=
  let keep (l : List SecState) : List SecState :=
    l.zipIdx.map fun (w, i) => if i = b.integ then { y1 := w.y1 } else {}
  { x with secs := keep x.secs, secsD := keep x.secsD }

/-- The control state loaded; feedback and its history stay this unit's own. -/
def Dev.loadCtrl (d : Dev) (c : Ctrl) : Dev :=
  let own := d
  let d := d.loadKeys controlKey c.od c.dom
  let d := { d with axes := c.axes, chains := c.chains, zones := c.zones, pend := c.pend,
                    safe := { c.safe with log := d.safe.log, session := none, lockEnd := d.safe.lockEnd } }
  let d := each c.axes (fun (n, _) d =>
    let o := own.axis n
    let d := d.modAxis n fun a => { a with fbIn := o.fbIn, fb := o.fb, fbTick := o.fbTick, hist := o.hist, vel71 := o.vel71 }
    each [0, 1, 2, 3] (fun l d => d.modLevel n l fun x => x.takeoverWords (Bank.parse (d.image n l))) d) d
  iterate 16 (fun c d => d.modChain c fun x => { x with ovr := 0, ovrNext := 0 }) d

/-- An axis at the release: one that moves takes TAKEOVER_REACTION from its measured state, one in ENABLED holds there. -/
def Dev.releaseAxis (d : Dev) (n : Nat) : Dev :=
  let st := d.axState n
  if st = AxState.enabled then d.holdMeasured n
  else if st = AxState.moving ∨ st = AxState.stopping ∨ st = AxState.test then
    let d := (d.emit n (d.measured n) (d.measuredVel n) 0).modAxis n fun a =>
      { a with plan := none, planT := 0, adv := 0, motion := .rest, reactNow := 0, reactNext := none }
    d.react n Code.TAKEOVER (d.nat (act Reg.R5800_TAKEOVER_REACTION))
  else d

/-- The scheduled departures of an entry from absolute tick `t0` up to the present one, which is left out. -/
def Dev.occurrences (d : Dev) (x : SchedEntry) (t0 : Nat) : Nat :=
  ((List.range (d.tickAbs - t0)).filter fun i => x.mask.testBit ((t0 + i - x.offset / 31250) % 8)).length

/-- The sending safety connections go on with their checkpointed SEQ and the occurrences since the consistency point. -/
def Dev.releaseSeqs (d : Dev) : Dev :=
  let c0 := d.clk.cycle64 - (d.cycle + 2 ^ 32 - d.nat Reg.R5801_LAST_GEN_CYCLE) % 2 ^ 32
  iterate 128 (fun k d =>
    if d.nat (act (Reg.R1500_CONN k)) = 0xFFFF ∨ d.nat (act (Reg.R1500_DIR k)) ≠ 1 then d
    else
      let n := (d.entries.map fun (_, x) =>
        if x.has Role.tx ∧ x.kind = FrameKind.safety ∧ x.conn = d.nat (act (Reg.R1500_CONN k)) then d.occurrences x (8 * c0) else 0).sum
      d.set (Reg.R1500_LAST_SEQ k) ((d.nat (Reg.R1500_LAST_SEQ k) + n) % 65536 : Nat)) d

/-- The journal records of the image that are to run again, oldest first. (DEDUCED, log 115, unsafe.) -/
def Dev.replayRecords (d : Dev) : List (Nat × Bytes) :=
  let n := d.nat Reg.R3802_JOURNAL_ENTRIES
  ((List.range (d.pair.jHi - d.pair.jLo)).map fun i => d.pair.jLo + i).filterMap fun seq =>
    let b := d.memRead (d.recordAt seq) 64
    if n ≠ 0 ∧ fieldLE b 0 8 = seq ∧ (fieldLE b 40 1 = 1 ∨ fieldLE b 40 1 = 2) then some (seq, b) else none

/-- Sett on the new active: the items of those records, in SEQ order, ahead of new work; the journal holds the records from the
oldest of them on, those done among them, and goes on at JSEQ_HI; fences with nothing before them complete. -/
def Dev.replayJournal (d : Dev) : Dev :=
  let rs := d.replayRecords
  let lo := (rs.map Prod.fst).head?.getD d.pair.jHi
  let ring := (List.range (d.pair.jHi - lo)).map fun i => (lo + i, !rs.any fun r => r.1 = lo + i)
  let d := d.setSett fun s => { s with items := [], journal := ring, fullEp := false }
  let d := each rs.zipIdx (fun ((seq, b), i) d =>
    let d := (d.settCode Code.ITEM_REPLAYED i).count Reg.R3802_REPLAYED
    let it : Item :=
      { slot := i, gen := mget 0 d.sett.gens i, restored := true, desc := slice b 8 32, seq := d.sett.nextSeq, record := some seq,
        cycle := fieldLE b 44 4, due := true, replays := fieldLE b 41 1, since := d.rawNow }
    (d.setSett fun s => { s with items := s.items ++ [it], nextSeq := s.nextSeq + 1,
                                 gens := mset 0 s.gens i ((it.gen + 1) % 65536) }).syncRecord i) d
  ((d.set Reg.R3802_NEXT_SEQ d.pair.jHi).set Reg.R3802_JOURNAL_USED ring.length).settleFences

/-- TAKEOVER_RELEASE: at the SI of tick D + 16 the new active begins to act, the releases of the tick among it; everything of
R425 that it brought up since D is there. (DEDUCED, log 115, unsafe.) -/
def Dev.takeoverRelease (d : Dev) : Dev :=
  match d.pair.takeover with
  | some t =>
    if d.tickAbs < t + 16 then d
    else
      let d := match Config.configOf d.pair.config with
        | some (od, dom) => d.loadKeys mirrored od dom
        | none => d
      let d := match Config.ctrlOf d.pair.ctrl with
        | some c => d.loadCtrl c
        | none => d
      let d := iterate 16 (fun c d => d.when (d.executing c || !(d.chain c).queue.isEmpty) fun d => d.discardQueue c) d
      let d := iterate 128 (fun n d => d.releaseAxis n) d
      let d := d.releaseSeqs.replayJournal
      let d := d.setPair fun p => { p with takeover := none }
      (d.set Reg.R5801_LAST_TAKEOVER_CYCLE d.cycle).tickRelease
  | none => d

end Sys2Proof.Machine
end

