-- ==== Sys2Proof/Machine/PowerPins.lean ====
section
/-! DEFINITION. The supplies, reset and the lid (R430, R526 to R537, R546): feeds, VBAT, RESET_N, PERST_N, REFCLK, the I/O
banks and the lid sensor.

A module that is held in reset has `boot.held`; its device state is OFF or ALWAYS_ON while its feeds are absent, else BOOT (R13
gives no state of its own to a module held in reset with its feeds present). -/

namespace Sys2Proof.Machine

def Dev.setPower (d : Dev) (f : Power → Power) : Dev := { d with power := f d.power }

/-- Whether the module is without supply. -/
def Dev.unpowered (d : Dev) : Bool := d.state == DevState.off || d.state == DevState.alwaysOn

/-- Whether the module neither runs nor answers: without supply or held in reset. (DEDUCED, log 9, safe.) -/
def Dev.dark (d : Dev) : Bool := d.unpowered || d.boot.held

/-- The module held in reset. (DEDUCED, log 137, unsafe.) -/
def Dev.holdReset (d : Dev) : Dev := d.setBoot fun b => { b with held := true }

/-! ## Stop and start -/

/-- The device without its feeds: ALWAYS_ON with VBAT, OFF without it, when the always-on domain loses its contents (R528).
(DEDUCED, log 140, safe.) -/
def Dev.dropSupply (d : Dev) : Dev :=
  let d := (d.setPower fun p => { p with feeds := 0 }).holdReset
  if d.power.vbat then d.set Reg.R1001_DEV_STATE DevState.alwaysOn
  else { d.set Reg.R1001_DEV_STATE DevState.off with aon := { lost := true } }

/-- The stop in order on hold-up energy (R533): safe outputs low, outputs high-impedance and transmitters idle, the loss recorded
with the open step, the bypass engaged. `step` names the boot step in progress (0: none). -/
def Dev.orderlyStop (d : Dev) (step : Nat) : Dev :=
  let d := (d.bootUntil step).afterReset 3
  { d with aon := { d.aon with feedLoss := true } }

/-- POWER_LOSS_STOP: both feeds have been below 10.0 V for 100 µs. In ALWAYS_ON nothing changes (R534). The number of the next
log record starts again, since nothing of the log is left. (DEDUCED, log 140, safe.) -/
def Dev.powerLoss (d : Dev) (step : Nat) : Dev :=
  if d.unpowered then d else ((d.orderlyStop step).dropSupply.set Reg.R1003_NEXT_SEQ 0)

/-- RESET_N: low for at least 1 µs, while boot step `step` was in progress (0: none); each start is a new boot. -/
def Dev.resetPin (d : Dev) (step : Nat) : Dev :=
  let d := d.setPower fun p => { p with resetN := false }
  if d.unpowered then d else ((d.bootUntil step).afterReset 2).holdReset

/-- RESET_RELEASE (R531, R536): RESET_N high, REFCLK good, and one of `feeds` (bits) above 10.5 V for 10 ms; `secs` have passed on
the 32.768 kHz clock, and the banks read `mv`. Bank 3 in no range, or a hot lid, holds the module in reset. -/
def Dev.resetRelease (d : Dev) (feeds secs : Nat) (mv : List Nat) : Dev :=
  if feeds % 4 = 0 ∨ d.boot.hot = true ∨ ¬(d.dark = true ∨ (d.state = DevState.boot ∧ d.nat Reg.R4000_MV_3 = 0)) then d
  else
    let cold := d.unpowered
    let d := d.setPower fun p => { p with feeds := feeds % 4, resetN := true }
    let d := { d with aon := { d.aon with seconds := d.aon.seconds + (if d.aon.lost then 0 else secs) } }
    let d := d.when cold fun d => d.setFlash fun fl => { fl with failed := fl.failed.filter fun f => decide (2 < f.1) }
    let d : Dev := iterate 4 (fun b (d : Dev) => d.measureBank b (mv.getD b 0)) d
    if d.nat Reg.R4000_STATE_3 = 1 then (d.set Reg.R1001_DEV_STATE DevState.boot).setBoot fun b => { b with held := false }
    else d.holdReset

/-- PERST_N at a level: low, the PCIe endpoint is reset, with its MSI-X table, EVENT_VECTOR and DMA channels, and every ring pair of
the host stops as if SIZE had been written 0. (DEDUCED, log 169, unsafe.) -/
def Dev.perstPin (d : Dev) (high : Bool) : Dev :=
  let d := d.setPower fun p => { p with perstN := high }
  if high then d
  else
    let d := { d with serve := { d.serve with hostDma := [], eventVec := 0xFFFF, msix := [], msixPend := [] } }
    iterate 16 (fun r d =>
      let x : Ring := mget {} d.serve.rings r
      let x := { x with size := 0, state := 0, tail := 0, head := 0, rspTail := 0, rspHead := 0 }
      { d with serve := { d.serve with rings := mset {} d.serve.rings r x } }) d

/-! ## Feeds, VBAT, REFCLK -/

/-- FEED_LOSS (R430): feed `i` (0 A, 1 B) has been below 10.0 V for 100 µs. -/
def Dev.feedLoss (d : Dev) (i : Nat) : Dev :=
  if 2 ≤ i ∨ d.power.feeds.testBit i = false then d
  else
    let d := d.setPower fun p => { p with feeds := withBit p.feeds i false }
    if d.unpowered then d else (d.count Reg.R5802_FEED_LOSSES).raise Code.FEED_LOSS Kind.other 0 0 i

/-- FEED_RESTORED: feed `i` has been above 10.5 V for 10 ms. -/
def Dev.feedRestored (d : Dev) (i : Nat) : Dev :=
  if 2 ≤ i ∨ d.power.feeds.testBit i = true then d
  else
    let d := d.setPower fun p => { p with feeds := withBit p.feeds i true }
    if d.dark then d else d.raise Code.FEED_RESTORED Kind.other 0 0 i

/-- VBAT_LOSS: below 1.6 V; with both feeds absent the always-on domain loses its contents. (DEDUCED, log 140, safe.) -/
def Dev.vbatLoss (d : Dev) : Dev :=
  let d := d.setPower fun p => { p with vbat := false }
  if d.unpowered then { d.set Reg.R1001_DEV_STATE DevState.off with aon := { lost := true } } else d

/-- VBAT_APPLIED: with both feeds absent the device passes from OFF to ALWAYS_ON; what was lost stays lost. -/
def Dev.vbatApplied (d : Dev) : Dev :=
  let d := d.setPower fun p => { p with vbat := true }
  if d.unpowered then d.set Reg.R1001_DEV_STATE DevState.alwaysOn else d

/-- REFCLK_FAULT (R530): off by more than 1 % for 1 ms; the node leaves IN_SYNC in the same tick. -/
def Dev.refclkFault (d : Dev) : Dev :=
  if d.dark then d
  else
    let d := d.raise Code.REFCLK_FAULT Kind.device 0
    if d.net = NetState.inSync then d.leaveSync NetState.listen Code.REFCLK_FAULT else d

/-! ## Banks -/

/-- BANK_POWER_LOSS: below 85 % of the nominal for 10 µs. Bank 3 holds the module in reset, whose log begins with the loss. -/
def Dev.bankLoss (d : Dev) (b mv : Nat) : Dev :=
  if 4 ≤ b ∨ d.dark = true ∨ d.nat (Reg.R4000_STATE_1 + b) ≠ 1 ∨ d.nat (Reg.R4000_NOMINAL_MV_1 + b) * 85 ≤ mv * 100 then d
  else if b = 2 then
    ((((d.afterReset 2).holdReset.set Reg.R4000_MV_3 mv).set Reg.R4000_STATE_3 2).bankRaise 2)
  else d.bankLost b mv

/-! ## The lid (R546) -/

/-- LID_TEMP_READING: the reading as a binary32 code. (DEDUCED, log 138, safe.) -/
def Dev.lidReading (d : Dev) (code : Nat) : Dev :=
  let t := f32 code
  if d.unpowered then d
  else
    let d := d.set Reg.R7060_LID_TEMP code
    let d := d.when (decide (f32 (d.reg Reg.R7060_LID_MAX) < t)) fun d => d.set Reg.R7060_LID_MAX code
    if d.boot.hot then (if t ≤ 95 then d.setBoot fun b => { b with hot := false } else d)
    else if d.boot.held then d
    else if 115 ≤ t then
      let d := (d.orderlyStop 0).holdReset
      (d.set Reg.R7060_LID_TEMP code).setBoot fun b => { b with hot := true }
    else
      let ep := d.health.lidEp
      let back := if t < 90 then ep.back + 1 else 0
      let on := decide (95 ≤ t) || (ep.on && decide (back < 60))
      let d := { d with health := { d.health with
        lidEp := { seen := true, on, back := if on then back else 0 },
        lidHot := if 105 ≤ t then some (d.health.lidHot.getD d.rawNow) else none } }
      d.when (decide (95 ≤ t) && !ep.on) fun d => d.raise Code.TEMP_HIGH Kind.device 0

/-- TEMP_CRITICAL: at or above 105 °C for 1 s. (DEDUCED, log 138, safe.) -/
def Dev.tempCritical (d : Dev) : Dev :=
  match d.health.lidHot with
  | some t =>
    if t + 1000000000 ≤ d.rawNow ∧ DevState.config ≤ d.state ∧ d.state ≠ DevState.failed then
      let d := { d with health := { d.health with lidHot := none } }
      (d.raise Code.TEMP_CRITICAL Kind.device 0).enterSafe Code.TEMP_CRITICAL
    else d
  | none => d

end Sys2Proof.Machine
end

