-- ==== Sys2Proof/Machine/Views.lean ====
section
/-! DEFINITION. What the entries of the dictionary read as (R435, R440): the value held, or, where an entry shows what a block
holds elsewhere in the state, that. -/

namespace Sys2Proof.Machine

/-! ## Records shown as byte strings -/

/-- A record of the fault log (R459). -/
def LogRec.bytes (r : LogRec) : Bytes :=
  leBytes 4 r.seq ++ leBytes 2 r.code ++ [byte r.kind, byte r.subject] ++ leBytes 4 r.cycle ++ [byte r.tick, byte r.reaction, 0, 0] ++
    leBytes 8 r.nt ++ leBytes 8 r.detail

/-- The keys of a kind with their revocation (R499): digests of 32 bytes. -/
def Dev.keysShown (d : Dev) (from_ : Nat) (ks : List Bytes) : Bytes :=
  ks.zipIdx.flatMap fun (k, i) => slice k 0 32 ++ [byte (if d.flash.revoked.contains (from_ + i) then 1 else 0)]

/-- STATE of a bank or page (`OD 7030`): 3 retired, 2 due, 1 warned. -/
def Dev.wordState (d : Dev) (kind n : Nat) : Nat :=
  if d.flash.retired.any fun x => x.1 == kind && x.2.1 == n then 3
  else if d.health.due.any fun x => x.1 == kind && x.2.1 == n then 2
  else if d.health.ceWarn.any fun x => x.1 == kind && x.2.1 == n && x.2.2.on then 1 else 0

/-- CE_BANKS (`OD 7030.01`). -/
def Dev.ceBanks (d : Dev) : Bytes :=
  (List.range 68).flatMap fun n =>
    leBytes 2 (min (d.ceOf UKind.bank n).length 65535) ++ [byte (d.wordState UKind.bank n), 0]

/-- CE_PAGES (`OD 7030.02`). -/
def Dev.cePageList (d : Dev) : Bytes :=
  let ws := d.ceWords
  (cePages ws).flatMap fun pg =>
    let l := ws.filter fun w => w.kind == UKind.page && w.unit == pg
    leBytes 8 (0x0800000000 + 4096 * pg) ++ leBytes 2 (min l.length 65535) ++ [byte (d.wordState UKind.page pg), 0] ++
      leBytes 4 (match l.getLast? with | some w => w.cycle | none => 0)

/-- Status windows received, in schedule order (R342). -/
def Dev.statusWindows (d : Dev) : Bytes :=
  d.entries.flatMap fun (e, _) => match mget none d.link.windows e with | some (_, b) => b.take 48 | none => []

/-! ## Axes and chains -/

/-- The ages of an axis' feedback as `AX[n].10.05` packs them. -/
def Dev.agesOf (d : Dev) (n : Nat) : Nat :=
  let f := (d.axis n).fb
  f.pos.age + 16 * f.vel.age + 256 * f.curQ.age + 4096 * f.vdc.age + 65536 * f.aux.age

/-- The capture sets with a channel on an axis, as bits. -/
def Dev.captureBits (d : Dev) (n : Nat) : Nat :=
  (List.range 16).foldl (fun v s =>
    let on := (capSources (d.bytes (act (Reg.R3410_SOURCES s))) (d.nat (act (Reg.R3410_N_CH s)))).any fun x =>
      srcKind x == 1 && srcIndex x == n
    if on then v + 2 ^ s else v) 0

/-- The trackers that follow a section of an axis, as bits. -/
def Dev.trackerBits (d : Dev) (n : Nat) : Nat :=
  (List.range 32).foldl (fun v t => if d.flag (Reg.R3440_EN t) ∧ d.nat (Reg.R3440_AXIS t) = n then v + 2 ^ t else v) 0

/-- A register of the axis blocks that shows an axis' own state; FROZEN_RUN stops at its largest value.
(DESIGN CHOICE, log 149, safe.) -/
def Dev.axisView (d : Dev) (n obj sub : Nat) : Option Int :=
  let a := d.axis n
  if obj = 8 ∧ 3 ≤ sub ∧ sub ≤ 6 then some (min (a.lev (sub - 3)).run 0xFFFF : Nat)
  else if obj = 8 ∧ 7 ≤ sub ∧ sub ≤ 10 then some (d.satWindow n (sub - 7) : Int)
  else if obj = 8 ∧ 11 ≤ sub ∧ sub ≤ 14 then some (a.lev (sub - 11)).out
  else if obj = 8 ∧ sub = 15 then some a.cur.outD
  else if obj = 8 ∧ sub = 16 then some (d.fbState n : Int)
  else if obj = 10 ∧ sub = 1 then some (d.ageLimit n : Int)
  else if obj = 10 ∧ sub = 5 then some (d.agesOf n : Int)
  else if obj = 10 ∧ sub = 6 then some a.fb.vdc.val
  else if obj = 10 ∧ sub = 8 then some (min 0xFFFF ([0, 1, 2, 3].foldl (fun m l => max m (a.lev l).frozen) 0) : Nat)
  else if obj = 13 ∧ sub = 6 then some (d.captureBits n : Int)
  else if obj = 13 ∧ sub = 7 then some (d.trackerBits n : Int)
  else none

/-- The zones of which `p` holds, as bits. -/
def Dev.zoneBits (d : Dev) (p : Zone → Bool) : Nat :=
  (List.range 64).foldl (fun v z => if p (d.zone z) then v + 2 ^ z else v) 0

/-- A register of the chain blocks that shows a chain's own state. -/
def Dev.chainView (d : Dev) (c obj sub : Nat) : Option Int :=
  let x := d.chain c
  match obj, sub with
  | 1, 5 => some (x.hold : Int)
  | 5, 3 => some (x.queue.length : Int)
  | 6, 2 => some (x.lambda : Int)
  | 8, 3 => some (d.zoneBits fun z => z.holder == some c : Nat)
  | 8, 4 => some (d.zoneBits fun z => z.queue.contains c || (z.releasing && z.holder == some c) : Nat)
  | _, _ => none

/-- A register of a zone. -/
def Dev.zoneView (d : Dev) (z sub : Nat) : Option Int :=
  let x := d.zone z
  match sub with
  | 1 => some (match x.holder with | some c => (c : Int) | none => 0xFF)
  | 2 => some (if x.releasing then 1 else 0)
  | 4 => some (x.occM : Int)
  | 5 => some (x.breach : Int)
  | 6 => some (x.exiting : Int)
  | _ => none

/-! ## Other blocks -/

/-- The tick and cycle counters and the clocks (R43, R362). -/
def Dev.timeView (d : Dev) (ix sub : Nat) : Option Int :=
  match ix, sub with
  | 0x1100, 1 => some (d.cycle : Int)
  | 0x1100, 2 => some (d.clk.tick : Int)
  | 0x1100, 3 => some (d.clk.cycle64 : Int)
  | 0x1100, 4 => some (time40 (d.clk.si - (d.clk.tick * 31250 * 2 ^ 40 : Nat)))
  | 0x1100, 5 => some (d.tickAbs : Int)
  | 0x1140, 1 => some (d.rawNow : Int)
  | 0x1140, 2 => some (time40 d.nt40)
  | 0x1140, 6 => some (time40 (d.wtAt d.rawNow))
  | 0x1150, 1 => some (((List.range 256).filter fun e =>
      d.reg (Reg.key (0x1160 + e / 8) (16 * (e % 8) + 9)) == 1).length : Int)
  | _, _ => none

/-- Sett and its harts (R290, R291, R295). -/
def Dev.settView (d : Dev) (ix sub : Nat) : Option Int :=
  let its := d.sett.items
  let tok (i : Option Item) : Option Int := some (match i with | some i => (i.token : Int) | none => 0)
  if ix = 0x3800 then
    match sub with
    | 1 => some (if d.pushMode then 1 else 0)
    | 3 => some (its.length : Int)
    | 4 => some (d.nEntries : Int)
    | 5 => some ((its.filter fun i => i.place == .service).length : Int)
    | 6 => some ((its.filter fun i => i.place == .parked).length : Int)
    | _ => none
  else if ix = 0x3801 ∧ sub = 7 then some (parkBase : Int)
  else if 0x3840 ≤ ix ∧ ix < 0x3858 then
    let k := ix - 0x3840
    match sub with
    | 2 => some (d.nat (Reg.R3840_PHYS_CORE k) / 4 : Nat)
    | 3 => tok (d.serving (2 * k))
    | 4 => tok (d.serving (2 * k + 1))
    | 5 => some (if (d.hart (2 * k + 1)).asked.isSome then 0 else if d.issuing (2 * k) then 2 else 1)
    | 6 => tok (d.prefetched (2 * k + 1))
    | _ => none
  else none

/-- Whether an update session shows its token to a requester: bound to it, or its own. -/
def Dev.tokenFor (d : Dev) (r : Requester) : Nat :=
  match d.boot.update with
  | some u => if u.bound.any fun b => samePath b r then u.token else 0
  | none => 0

/-- Boot, update and security (R498 to R500). -/
def Dev.bootView (d : Dev) (r : Requester) (ix sub : Nat) : Option Int :=
  let fl := d.flash
  if 0x6010 ≤ ix ∧ ix < 0x6014 then
    let x := d.fwSlot (ix - 0x6010)
    let b := x.image
    match sub with
    | 1 => some (x.state : Int)
    | 2 => some (imgVersion b : Int)
    | 3 => some (imgSec b : Int)
    | 4 => some (imgFormat b : Int)
    | 5 => some (imgCkpt b : Int)
    | 6 => some (if b.isEmpty then 0 else (leNat ((d.imageDigest (some (ix - 0x6010))).take 16) : Int))
    | 7 => some (x.trials : Int)
    | 8 => some (b.length : Int)
    | _ => none
  else
    match ix, sub with
    | 0x6020, 2 => some (d.tokenFor r : Int)
    | 0x6020, 6 => some (match d.boot.update with
        | none => 0
        | some u => if mget 0 fl.activated u.kind = u.slot + 1 then 3 else if (d.fwSlot u.slot).state = SlotState.staged then 2 else 1)
    | 0x6020, 7 => some (match d.boot.update with
        | some u => (match u.bound with | b :: _ => (requesterSession b : Int) | [] => 0)
        | none => 0)
    | 0x6020, 8 => some (match d.boot.update with | some u => (covered u.total u.parts : Int) | none => 0)
    | 0x6030, 1 => some (fl.setUse : Int)
    | 0x6030, 2 => some ((d.setSlotOf 0).format : Int)
    | 0x6030, 3 => some ((d.setSlotOf 0).sstate : Int)
    | 0x6030, 4 => some ((d.setSlotOf 1).format : Int)
    | 0x6030, 5 => some ((d.setSlotOf 1).sstate : Int)
    | 0x6040, 1 => some (fl.fwMin : Int)
    | 0x6040, 2 => some (fl.appMin : Int)
    | 0x6040, 6 => some ((4 - fl.apps.length : Nat) : Int)
    | 0x6060, 6 => some (fl.attNext : Int)
    | 0x6060, 7 => some (fl.attEnd : Int)
    | _, _ => none

/-- Spares (R517). -/
def Dev.spareView (d : Dev) (sub : Nat) : Option Int :=
  match sub with
  | 1 => some (d.sparesLeft UKind.core : Int)
  | 2 => some (d.sparesLeft UKind.lane : Int)
  | 3 => some (d.sparesLeft UKind.distance : Int)
  | 4 => some (d.sparesLeft UKind.xlink : Int)
  | 5 => some (d.sparesLeft UKind.bank : Int)
  | 6 | 0x0B => some (d.sparesLeft UKind.page : Int)
  | 7 => some (((List.range 4).foldl (fun v g => if d.spareFree UKind.bank (64 + g) then v + 2 ^ g else v) 0 : Nat) : Int)
  | _ => none

/-- The seconds a lockout still lasts. -/
def Dev.lockoutLeft (d : Dev) : Nat :=
  match d.safe.lockEnd with | some t => (t - d.rawNow + 999999999) / 1000000000 | none => 0

/-- The scalar entries of the remaining blocks that show what stands elsewhere. (DESIGN CHOICE, log 136, safe.) -/
def Dev.miscView (d : Dev) (r : Requester) (ix sub : Nat) : Option Int :=
  match ix, sub with
  | 0x3400, 1 => some ((4194304 - ((List.range 16).map d.capReserved).sum : Nat) : Int)
  | 0x3400, 2 => some ((((List.range 16).map fun s =>
      match (d.capSet s).newLen with | some l => rowSize (d.nat (act (Reg.R3410_N_CH s))) * l | none => 0).sum : Nat) : Int)
  | 0x1450, 2 => some (d.link.asked.length : Int)
  | 0x1004, 1 => some (d.storeState : Int)
  | 0x1220, 8 => some (d.configDigest : Int)
  | 0x1201, 1 => some (match d.serve.windows.find? fun w => w.who = r with | some w => (w.status : Int) | none => 0)
  | 0x1201, 4 => some (d.serve.transfers.length : Int)
  | 0x2800, 6 => some (((List.range 128).filter d.direct).length : Int)
  | 0x5000, 0x0C => some (d.bankDigest 1 0 : Int)
  | 0x5000, 0x0F => some (d.lockoutLeft : Int)
  | 0x5802, 3 => some (d.power.feeds : Int)
  | 0x5802, 1 | 0x5802, 2 | 0x7060, 3 | 0x7060, 6 => some (Config.measured (Reg.key ix sub) d.tickAbs : Int)
  | 0x1200, 1 => some (Config.measured (Reg.key ix sub) d.tickAbs % 2 : Nat)
  | 0x1200, 2 => some ([0, 1, 2, 4].getD (Config.measured (Reg.key ix sub) d.tickAbs % 4) 0 : Nat)
  | 0x1200, 3 => some ([0, 2, 5, 8, 16].getD (Config.measured (Reg.key ix sub) d.tickAbs % 5) 0 : Nat)
  | 0x3500, 2 => some (Config.libraryVersion (d.library.getD []) % 2 ^ 32 : Nat)
  | 0x3500, 3 => some (digest128 (d.library.getD []) : Nat)
  | 0x7060, 5 => some (f32Of d.powerLimit : Int)
  | 0x1000, 1 | 0x1000, 2 | 0x1000, 4 => some (Config.factoryNumber (Reg.key ix sub) : Int)
  | _, _ => none

/-- What a scalar entry shows, where that is not a value held under its own key. -/
def Dev.scalarView (d : Dev) (r : Requester) (ix sub : Nat) : Option Int :=
  if 0x2000 ≤ ix ∧ ix < 0x2800 then d.axisView ((ix - 0x2000) / 16) (ix % 16) sub
  else if 0x3000 ≤ ix ∧ ix < 0x3100 then d.chainView ((ix - 0x3000) / 16) (ix % 16) sub
  else if 0x3140 ≤ ix ∧ ix < 0x3180 then d.zoneView (ix - 0x3140) sub
  else if 0x3410 ≤ ix ∧ ix < 0x3420 ∧ sub = 0x0F then some (d.bufAddr (ix - 0x3410) : Nat)
  else if 0x3430 ≤ ix ∧ ix < 0x3440 ∧ sub = 0x16 then some ((d.injGen (ix - 0x3430)).evals : Int)
  else if 0x3440 ≤ ix ∧ ix < 0x3460 ∧ sub = 0x0C then some (d.trackApplied (ix - 0x3440))
  else if 0x3510 ≤ ix ∧ ix < 0x3512 ∧ sub = 0x11 then some ((d.ae (ix - 0x3510)).cycles : Int)
  else if ix = 0x1100 ∨ ix = 0x1140 ∨ ix = 0x1150 then d.timeView ix sub
  else if 0x3800 ≤ ix ∧ ix < 0x3858 then d.settView ix sub
  else if 0x6000 ≤ ix ∧ ix < 0x6100 then d.bootView r ix sub
  else if ix = 0x7001 then d.spareView sub
  else if 0x1500 ≤ ix ∧ ix < 0x1580 then
    if sub = 3 then some 0
    else if sub = 0x10 ∧ d.nat (act (Reg.R1500_CONN (ix - 0x1500))) = 0xFFFF then some 0
    else none
  else d.miscView r ix sub

/-- ORDER_CODE: "LM4128-AI" or "LM4128-AE" (R3). -/
def Dev.orderCode (d : Dev) : Bytes := [76, 77, 52, 49, 50, 56, 45, 65, if d.power.ae then 69 else 73]

/-- What a DOMAIN or STRING entry shows, where that is not a value held under its own key. -/
def Dev.domView (d : Dev) (ix sub : Nat) : Option Bytes :=
  if 0x3000 ≤ ix ∧ ix < 0x3100 ∧ ix % 16 = 7 ∧ sub = 3 then some (d.effectiveEnv ((ix - 0x3000) / 16))
  else if 0x3140 ≤ ix ∧ ix < 0x3180 ∧ sub = 3 then some ((d.zone (ix - 0x3140)).queue.map byte)
  else if 0x3410 ≤ ix ∧ ix < 0x3420 ∧ sub = 0x14 then some (d.capData (ix - 0x3410))
  else if 0x3510 ≤ ix ∧ ix < 0x3512 then
    let e := ix - 0x3510
    let mem (m : Map Nat) : Bytes := (List.range 32768).flatMap fun i => leBytes 8 (mget 0 m i)
    match sub with
    | 5 => some (d.aeProgram e)
    | 6 => some (mem (d.ae e).x)
    | 7 => some (mem (d.ae e).y)
    | 8 => some (d.aeRegs e)
    | _ => none
  else
    match ix, sub with
    | 0x1000, 3 => some d.orderCode
    | 0x1000, 5 | 0x6060, 1 | 0x6060, 2 => some (Config.factoryBytes (Reg.key ix sub))
    | 0x1003, 1 => some (d.log.flatMap LogRec.bytes)
    | 0x1440, 1 => some d.ownStatus
    | 0x1440, 2 => some d.statusWindows
    | 0x1610, 1 => some (slice (d.bytes Reg.R1610_VALUES) 0 d.pdMap.length)
    | 0x5004, 1 => some (d.safe.log.flatMap id)
    | 0x6000, 5 => some ((d.flash.journal.filter fun r => r.boot == d.flash.boot).flatMap BootRec.bytes)
    | 0x6000, 6 => some (d.flash.journal.flatMap BootRec.bytes)
    | 0x6040, 3 => some (d.keysShown 0 ((List.range 4).map Config.vendorKey))
    | 0x6040, 4 => some (d.keysShown 4 d.flash.apps)
    | 0x7001, 8 => some (Config.retirementTable d.flash.retired d.flash.spared)
    | 0x7020, 1 => some (d.health.log.flatMap id)
    | 0x7030, 1 => some d.ceBanks
    | 0x7030, 2 => some d.cePageList
    | _, _ => none

/-! ## Reading an entry -/

/-- Where an address of the dictionary leads: an entry under its key, the active value of one staged in place, the highest
sub-index of an index in use, or nowhere (R435). -/
inductive Place3
  | entry (e : Entry) (key : Nat)
  | active (e : Entry) (key : Nat)
  | top (n : Nat)
  | nowhere
deriving DecidableEq, Repr

def locate (ix sub : Nat) : Place3 :=
  if sub = 0 then
    match (rowsAt ix).map Entry.sub with
    | [] => .nowhere
    | l => .top (l.foldl max 0)
  else
    match entryAt ix sub with
    | some (e, _) => .entry e (Reg.key ix sub)
    | none =>
      if 128 ≤ sub ∧ sub < 256 then
        match entryAt ix (sub - 128) with
        | some (e, _) => if e.banked then .active e (Reg.key ix sub) else .nowhere
        | none => .nowhere
      else .nowhere

/-- The bytes of a scalar, least significant first. -/
def scalarBytes (t : OdType) (v : Int) : Bytes := leBytes t.size (toU (8 * t.size) v)

/-- The value of an entry as its bytes; reading a counter or a debug challenge can draw a free value. -/
def Dev.entryBytes (d : Dev) (r : Requester) (e : Entry) (ix sub : Nat) : Bytes × Dev :=
  let k := Reg.key ix sub
  if e.ty = .dom ∨ e.ty = .str then
    if ix = 0x6050 ∧ sub = 1 then
      let d := d.debugChallenge
      (d.resp.data, d)
    else ((d.domView ix sub).getD (d.bytes k), d)
  else if 0x7810 ≤ ix ∧ ix < 0x785B ∧ Reg.key ix sub - Reg.R7810_COUNT_0 (ix - 0x7810) < 8 ∧
      Reg.R7810_COUNT_0 (ix - 0x7810) ≤ Reg.key ix sub then
    let (n, d) := d.counterNow (ix - 0x7810) (Reg.key ix sub - Reg.R7810_COUNT_0 (ix - 0x7810))
    (scalarBytes e.ty n, d)
  else (scalarBytes e.ty ((d.scalarView r ix sub).getD (d.reg k)), d)

/-- A read: its code and its bytes, least significant first. -/
def Dev.odRead (d : Dev) (r : Requester) (ix sub : Nat) : Nat × Bytes × Dev :=
  match locate ix sub with
  | .nowhere => (Code.OD_NO_ENTRY, [], d)
  | .top n => (Code.STATUS_OK, [byte n], d)
  | .active e k => (Code.STATUS_OK, d.valueBytes e k, d)
  | .entry e _ =>
    if e.acc = .wo then (Code.OD_WRITE_ONLY, List.replicate e.ty.size 0, d)
    else
      let (b, d) := d.entryBytes r e ix sub
      (Code.STATUS_OK, b, d)

end Sys2Proof.Machine
end

