-- ==== Sys2Proof/Machine/Writes.lean ====
section
/-! DEFINITION. A write of one entry by a requester (R435 to R440): the checks of entry, access, path, session, type and range,
then what the owning block refuses in its present state, then the effect. Values come least significant byte first. -/

namespace Sys2Proof.Config

/-- Whether the flash takes a generation that a write of FLUSH starts (R460): 1 if so; the argument is the count of free
values. -/
opaque storeTakes : Nat → Nat

end Sys2Proof.Config

namespace Sys2Proof.Machine

/-! ## Type and range (R436) -/

/-- Whether bytes are UTF-8: `need` continuation bytes are still due, the next of them inside `lo` to `hi`. -/
def utf8From (need lo hi : Nat) : Bytes → Bool
  | [] => need == 0
  | b :: bs =>
    let n := b.toNat
    if 0 < need then decide (lo ≤ n ∧ n ≤ hi) && utf8From (need - 1) 0x80 0xBF bs
    else if n < 0x80 then utf8From 0 0x80 0xBF bs
    else if 0xC2 ≤ n ∧ n ≤ 0xDF then utf8From 1 0x80 0xBF bs
    else if n = 0xE0 then utf8From 2 0xA0 0xBF bs
    else if n = 0xED then utf8From 2 0x80 0x9F bs
    else if 0xE1 ≤ n ∧ n ≤ 0xEF then utf8From 2 0x80 0xBF bs
    else if n = 0xF0 then utf8From 3 0x90 0xBF bs
    else if n = 0xF4 then utf8From 3 0x80 0x8F bs
    else if 0xF1 ≤ n ∧ n ≤ 0xF3 then utf8From 3 0x80 0xBF bs
    else false

/-- Whether a value keeps its type's length and encoding. (DEDUCED, log 118, unsafe.) -/
def encodingOk (e : Entry) (data : Bytes) : Bool :=
  match e.ty with
  | .dom => decide (data.length ≤ e.size)
  | .str => decide (data.length ≤ e.size) && utf8From 0 0x80 0xBF data
  | t =>
    data.length == t.size &&
      match t with
      | .bool => decide (leNat data ≤ 1)
      | .f32 => !f32IsNaN (leNat data)
      | .time => timeOk (leNat data)
      | _ => true

/-- Codes that a rule named by an entry's Meaning lists (R99, R113, R114, R119, R122), and the record lengths of lists.
(DEDUCED, log 33, unsafe; DEDUCED, log 118, unsafe.) -/
def listedOk (ix sub : Nat) (v : Int) (len : Nat) : Bool :=
  if 0x2000 ≤ ix ∧ ix < 0x2800 then
    match ix % 16, sub with
    | 4, 1 => decide (1 ≤ v ∧ v ≤ 9)
    | 6, 1 => decide (v ≤ 5)
    | 11, 1 => decide (v ≤ 3)
    | 11, 0x12 | 12, 1 | 12, 2 | 12, 3 => decide (v ≤ 31 ∨ (0x40 ≤ v ∧ v ≤ 0x4F) ∨ v = 0xFF)
    | 12, 9 => decide (v ≤ 2)
    | _, _ => true
  else if 0x3000 ≤ ix ∧ ix < 0x3100 ∧ ix % 16 = 5 ∧ sub = 2 then decide (1 ≤ v ∧ v ≤ 4)
  else if 0x3430 ≤ ix ∧ ix < 0x3440 ∧ sub = 0x0C then len % 12 == 0
  else if 0x3420 ≤ ix ∧ ix < 0x3428 ∧ sub = 6 then (List.range 9).any fun i => v == 2 ^ (8 + i)
  else if 0x3420 ≤ ix ∧ ix < 0x3428 ∧ sub = 0x0E then decide (0 ≤ f32 v ∧ f32 v ≤ 9 / 10)
  else if ix = 0x1201 ∧ sub = 3 then len % 16 == 0
  else if ix = 0x5800 ∧ sub = 6 then len % 2 == 0
  else true

/-! ## The general checks -/

/-- Whether PATH_WRITE lets a path write (`OD 1001.07`); SESSION_OPEN and SESSION_CLOSE pass always. -/
def Dev.pathOpen (d : Dev) (r : Requester) (ix sub : Nat) : Bool :=
  decide (3 < r.path) || d.bit Reg.R1001_PATH_WRITE r.path || (ix == 0x5000 && (sub == 1 || sub == 2))

/-- Reads whose entry shows the network clock (R348). -/
def networkClock (ix sub : Nat) : Bool := ix == 0x1140 && decide (2 ≤ sub ∧ sub ≤ 5)

/-- The code with which a write is refused before its block sees it; STATUS_OK where none. (DEDUCED, log 118, unsafe.) -/
def Dev.writeCheck (d : Dev) (r : Requester) (e : Entry) (ix sub : Nat) (data : Bytes) : Nat :=
  let v := e.ty.wrap (leNat data)
  if networkClock ix sub then Code.WALL_OWNED
  else if e.acc = .ro ∨ (0x7810 ≤ ix ∧ ix < 0x7840 ∧ sub ≤ 8) then Code.OD_READ_ONLY
  else if !d.pathOpen r ix sub then Code.OD_PATH_DENIED
  else if e.acc = .sl ∧ d.slAllowed r = false then Code.SESSION_DENIED
  else if !encodingOk e data then Code.OD_TYPE
  else if !(e.rng.has v) || !listedOk ix sub v data.length then Code.OD_RANGE
  else Code.STATUS_OK

/-! ## What a block refuses in its present state -/

/-- `code` where `c` holds. -/
def refuseIf (c : Bool) (code : Nat) : Nat := if c then code else Code.STATUS_OK

/-- The request entry whose commit locks the inactive bank that an entry belongs to (R38, R148, R202).
(DEDUCED, log 112, safe.) -/
def lockOf (ix sub : Nat) : Option Nat :=
  let b := bankOf ix sub
  if 0x3410 ≤ ix ∧ ix < 0x3420 then (if sub ≤ 9 then some (Reg.R3410_ARM_CYCLE (ix - 0x3410)) else none)
  else if b ≠ 0 then some (bankCommit b)
  else if 0x2000 ≤ ix ∧ ix < 0x2800 ∧ ix % 16 = 9 ∧ 1 ≤ sub ∧ sub ≤ 4 then some (Reg.AX9_COMMIT_CYCLE ((ix - 0x2000) / 16))
  else
    match ix, sub with
    | 0x1420, 1 | 0x1600, 1 => some Reg.R1420_COMMIT_CYCLE
    | 0x1220, 1 => some Reg.R1220_COMMIT_CYCLE
    | 0x3804, 1 => some Reg.R3804_COMMIT_CYCLE
    | _, _ => none

/-- A staged bank's lock (R38). -/
def Dev.stagedLock (d : Dev) (ix sub : Nat) : Nat :=
  match lockOf ix sub with
  | some k => refuseIf (d.locked k) Code.BANK_LOCKED
  | none => Code.STATUS_OK

/-- Refusals of the axis blocks (R38, R86, R133, R134, R213). -/
def Dev.axisBlocks (d : Dev) (n obj sub : Nat) (v : Int) : Nat :=
  match obj with
  | 6 => refuseIf (decide (sub ≤ 7) && d.underTrack n) Code.OD_STATE
  | 7 =>
    if sub ≠ 0x0B ∧ sub ≠ 0x15 ∧ sub ≠ 0x16 then refuseIf (d.axState n != AxState.disabled) Code.OD_STATE
    else
      let warn := if sub = 0x15 then v else d.reg (Reg.AX7_SAT_WARN_TICKS n)
      let lim := if sub = 0x16 then v else d.reg (Reg.AX7_SAT_FAULT_TICKS n)
      refuseIf (sub != 0x0B && lim != 0 && decide (lim ≤ warn)) Code.OD_RANGE
  | 9 =>
    if 1 ≤ sub ∧ sub ≤ 4 then refuseIf (d.trackOwns n (sub - 1)) Code.TRACK_OWNS_BANK
    else if sub = 0x10 then
      refuseIf ((List.range 4).any fun l => v.toNat.testBit l && d.trackOwns n l) Code.TRACK_OWNS_BANK
    else Code.STATUS_OK
  | 11 => refuseIf (decide (sub ≤ 9) && d.nat (Reg.AX11_HOME_STATE n) != 0) Code.OD_STATE
  | _ => Code.STATUS_OK

/-- Refusals of the identification and engine blocks (R217, R218, R220, R221, R226). -/
def Dev.identBlocks (d : Dev) (ix sub : Nat) (v : Int) : Nat :=
  if 0x3410 ≤ ix ∧ ix < 0x3420 then refuseIf (sub == 2 && decide (d.reg (Reg.R3410_DIV (ix - 0x3410)) ≤ v)) Code.OD_RANGE
  else if 0x3430 ≤ ix ∧ ix < 0x3440 then refuseIf (decide (sub ≤ 0x11) && (d.injGen (ix - 0x3430)).running) Code.OD_STATE
  else if 0x3440 ≤ ix ∧ ix < 0x3460 then
    refuseIf (decide (2 ≤ sub ∧ sub ≤ 9) && d.flag (Reg.R3440_EN (ix - 0x3440))) Code.OD_STATE
  else if 0x3510 ≤ ix ∧ ix < 0x3512 ∧ 5 ≤ sub ∧ sub ≤ 7 then
    d.aeWriteRefusal (ix - 0x3510) sub
  else Code.STATUS_OK

/-- Refusals of Sett, the journal and the DMA channels (R282, R286, R291, R292, R297). -/
def Dev.settBlocks (d : Dev) (ix sub : Nat) (v : Int) (data : Bytes) : Nat :=
  if ix = 0x3801 then refuseIf (decide (sub ≤ 6) && d.sett.items.any fun i => i.place == .parked) Code.OD_STATE
  else if ix = 0x3802 then refuseIf (decide (sub ≤ 2) && d.state != DevState.config) Code.OD_STATE
  else if 0x3920 ≤ ix ∧ ix < 0x3940 then
    if (sub ≤ 2 ∨ sub = 9 ∨ sub = 0x0A) ∧ d.nat (Reg.R3920_STATE (ix - 0x3920)) = DmaState.running then Code.OD_STATE
    else if sub = 1 then refuseIf (v.toNat / 2 ^ 60 != 8) Code.OD_RANGE
    else if sub = 2 then refuseIf (v.toNat % 32 != 0) Code.OD_RANGE
    else if sub = 0x0A then refuseIf (!descOk data) Code.DESC_INVALID
    else Code.STATUS_OK
  else Code.STATUS_OK

/-- The code with which the block of an entry refuses a write that passed the general checks. A cycle-point offset is judged for the
mode the entry holds, 0 as 1; a later change of MODE keeps it (R41). (DESIGN CHOICE, log 157, safe.) -/
def Dev.writeBlocked (d : Dev) (ix sub : Nat) (v : Int) (data : Bytes) : Nat :=
  let lock := d.stagedLock ix sub
  if lock ≠ Code.STATUS_OK then lock
  else if 0x2000 ≤ ix ∧ ix < 0x2800 then d.axisBlocks ((ix - 0x2000) / 16) (ix % 16) sub v
  else if 0x3400 ≤ ix ∧ ix < 0x3600 then d.identBlocks ix sub v
  else if 0x3800 ≤ ix ∧ ix < 0x3A00 then d.settBlocks ix sub v data
  else if 0x1160 ≤ ix ∧ ix < 0x1180 then
    let e := 8 * (ix - 0x1160) + sub / 16
    refuseIf (decide (sub % 16 ≤ 7) && d.actNat e ActField.state == ActState.armed) Code.OD_STATE
  else if 0x1110 ≤ ix ∧ ix < 0x1120 then
    let top : Int := if d.nat (Reg.R1110_MODE (ix - 0x1110)) = 2 then 31249 else 249999
    refuseIf (sub == 2 && decide (top < v)) Code.OD_RANGE
  else if 0x1410 ≤ ix ∧ ix < 0x1414 then
    refuseIf (sub == 2 && v == 1 && d.nat (Reg.R1410_SPEED (ix - 0x1410)) == 10) Code.OD_RANGE
  else if 0x7840 ≤ ix ∧ ix < 0x785B then
    refuseIf (decide (sub ≤ 8) && !eventListed (ix - 0x7810) v.toNat) Code.OD_RANGE
  else Code.STATUS_OK

/-- A refused write: the codes of the banks, the session, the engines, the trackers, Sett and the clocks are raised as their blocks
raise them; the codes of the object dictionary are answers only. -/
def Dev.writeRefused (d : Dev) (ix sub code : Nat) : Dev :=
  if code = Code.WALL_OWNED then d.wallRefused
  else if code = Code.SESSION_DENIED then d.denied
  else if code = Code.BANK_LOCKED then (match lockOf ix sub with | some k => d.bankLocked k | none => d.finish code)
  else if code = Code.AE_OWNED ∨ code = Code.AE_RUNNING then (d.raise code Kind.unit (48 + (ix - 0x3510))).finish code
  else if code = Code.TRACK_OWNS_BANK then (d.raise code Kind.axis ((ix - 0x2000) / 16)).finish code
  else if code = Code.DESC_INVALID then (d.settCode code 0).finish code
  else d.finish code

/-! ## The plain effect of a write (R437) -/

/-- The bits a write to a W1C entry clears: INPUT_STATUS keeps its levels (R135). (DEDUCED, log 59, safe.) -/
def w1cMask (ix sub : Nat) : Nat :=
  if 0x2000 ≤ ix ∧ ix < 0x2800 ∧ ix % 16 = 12 ∧ sub = 0x0A then 0xFFF8 else 2 ^ 128 - 1

/-- A value stored, staged (its active value stays), counted back to 0 or cleared bit by bit. -/
def Dev.storeEntry (d : Dev) (e : Entry) (ix sub : Nat) (v : Int) (data : Bytes) : Dev :=
  let k := Reg.key ix sub
  let d := match e.ty, e.acc with
    | .dom, _ | .str, _ => d.setBytes k data
    | _, .w1c => if e.count then d.set k 0 else d.clearBits k (v.toNat &&& w1cMask ix sub)
    | _, _ => d.set k v
  d.finish Code.STATUS_OK

/-! ## Writes with an effect of their own -/

/-- The memories of an engine loaded from byte 0 on (R244, R247): words of four bytes of program, of eight of X and Y.
(DEDUCED, log 123, safe.) -/
def Dev.loadMemory (d : Dev) (e sub : Nat) (data : Bytes) : Dev :=
  let w := if sub = 5 then 4 else 8
  if data.length % 4 ≠ 0 then d.finish Code.OD_TYPE
  else
    let x := d.ae e
    let old := if sub = 5 then x.prog else if sub = 6 then x.x else x.y
    let dflt := if sub = 5 then 0xD0000000 else 0
    let words := (List.range ((data.length + w - 1) / w)).map fun i =>
      leNat (patch (leBytes w (mget dflt old i)) 0 ((data.drop (w * i)).take w))
    let new := words.zipIdx.foldl (fun m (v, i) => mset dflt m i v) old
    -- the protected words written whole read again (R509)
    let base := if sub = 5 then 0 else 0x100000 * (sub - 5)
    let x := { x with bad := x.bad.filter fun o => !(decide (base ≤ o ∧ o + 8 ≤ base + data.length)) }
    let x := if sub = 5 then { x with prog := new } else if sub = 6 then { x with x := new } else { x with y := new }
    (d.setAe e x).finish Code.STATUS_OK

/-- COPY_ACTIVE as a write (R88, R213). -/
def Dev.copyWrite (d : Dev) (n mask : Nat) : Dev :=
  if (List.range 4).any fun l => mask.testBit l && d.trackOwns n l then
    (d.raise Code.TRACK_OWNS_BANK Kind.axis n).finish Code.TRACK_OWNS_BANK
  else d.copyActive n mask

/-- A command word waits for the command latch (R21). -/
def Dev.waitFor (d : Dev) (w : Wait) : Dev := { d with waits := d.waits ++ [w] }.finish Code.STATUS_OK

/-- Axes: limits, control word, commands, banks, the general latch. -/
def Dev.axisWrite (d : Dev) (n obj sub : Nat) (v : Int) : Option Dev :=
  match obj, sub with
  | 1, 2 =>
    let d := d.set (Reg.AX1_CONTROL n) ((v.toNat &&& 11 : Nat) : Int)
    some (if v.toNat.testBit 2 then d.waitFor (.ack n) else d.finish Code.STATUS_OK)
  | 2, _ | 3, _ => some (d.limitsWrite n obj sub v)
  | 7, 0x0B | 7, 0x15 | 7, 0x16 | 10, 1 | 10, 2 | 10, 3 | 10, 4 =>
    some (d.settingWrite n (Reg.key (0x2000 + 16 * n + obj) sub) v)
  | 4, 1 => some (d.waitFor (.cmd n v.toNat))
  | 9, 0x10 => some (d.copyWrite n v.toNat)
  | 12, 1 | 12, 2 | 12, 3 | 12, 4 => some (d.inputWrite n sub v)
  | 11, 0x11 => some (d.latchArm n v.toNat)
  | _, _ => none

/-- Chains: records, control, zone tokens. -/
def Dev.chainWrite (d : Dev) (c obj sub : Nat) (v : Int) (data : Bytes) : Option Dev :=
  match obj, sub with
  | 5, 1 => some (d.append c data)
  | 5, 2 => some (d.waitFor (.ctl c v.toNat))
  | 8, 1 => some (d.zoneAsk c v.toNat true)
  | 8, 2 => some (d.zoneAsk c v.toNat false)
  | _, _ => none

/-- Identification, trackers and the analysis engines. -/
def Dev.identWrite (d : Dev) (ix sub : Nat) (v : Int) (data : Bytes) : Option Dev :=
  if 0x3410 ≤ ix ∧ ix < 0x3420 then
    match sub with
    | 0x0C => some (d.captureStop (ix - 0x3410))
    | 0x0D => some (d.lengthWrite (ix - 0x3410) v.toNat)
    | _ => none
  else if 0x3420 ≤ ix ∧ ix < 0x3428 ∧ sub = 0x12 then some (d.jobRun (ix - 0x3420))
  else if 0x3430 ≤ ix ∧ ix < 0x3440 ∧ sub = 0x13 then some (d.injectionStop (ix - 0x3430))
  else if 0x3440 ≤ ix ∧ ix < 0x3460 ∧ sub = 1 then some (d.trackerEnable (ix - 0x3440) (v == 1))
  else if 0x3510 ≤ ix ∧ ix < 0x3512 then
    let e := ix - 0x3510
    match sub with
    | 1 => some (d.engineMode e v.toNat)
    | 3 => some (if v = 1 then d.engineStart e else if v = 2 then d.engineStop e else d.engineReset e)
    | 5 | 6 | 7 => some (d.loadMemory e sub data)
    | 0x0D => some (d.doorbell e v.toNat)
    | 0x0E => some (d.signalClear e v.toNat)
    | _ => none
  else none

/-- The IOMMU and the DMA channels. (DEDUCED, log 123, safe.) -/
def Dev.dmaWrite (d : Dev) (ix sub : Nat) (v : Int) : Option Dev :=
  if ix = 0x3900 ∧ sub = 1 then some ((d.iotlbInval v.toNat).finish Code.STATUS_OK)
  else if 0x3920 ≤ ix ∧ ix < 0x3940 ∧ sub = 3 then
    let ch := ix - 0x3920
    match v with
    | 1 => some (d.dmaStart ch)
    | 2 => some (d.dmaResume ch)
    | 3 => some (d.dmaStop ch (d.dmaOff ch))
    | _ => some (d.dmaAbandon ch)
  else none

/-- VALUES: the values of the free send entries; the rest of the list stays (R312, `OD 1610.01`). (DEDUCED, log 123, safe.) -/
def Dev.valuesWrite (d : Dev) (data : Bytes) : Dev :=
  let recs := mapRecs d.pdMap
  let n := min recs.length (data.length / 16)
  let new := (recs.zipIdx.take n).foldl (fun b (r, i) =>
    if r.sent ∧ r.target = 0 then patch b (16 * i) (slice data (16 * i) 8) else b)
    (slice (d.bytes Reg.R1610_VALUES) 0 d.pdMap.length)
  (d.setBytes Reg.R1610_VALUES new).finish Code.STATUS_OK

/-- Clocks, cycle-point interrupts and scheduled actions. (DEDUCED, log 123, safe.) -/
def Dev.timeWrite (d : Dev) (ix sub : Nat) (v : Int) : Option Dev :=
  if 0x1110 ≤ ix ∧ ix < 0x1120 ∧ sub = 5 then
    some (((d.set (Reg.R1110_MISSED (ix - 0x1110)) 0).cpiCleared (ix - 0x1110)).finish Code.STATUS_OK)
  else if 0x1160 ≤ ix ∧ ix < 0x1180 ∧ sub % 16 = 8 then
    let e := 8 * (ix - 0x1160) + sub / 16
    some (if v = 1 then d.armEntry e else d.disarmEntry e)
  else
    match ix, sub with
    | 0x1140, 8 => some (d.wallRate v.toNat)
    | 0x1140, 9 => some (d.wallStepNs v)
    | 0x1140, 0x0A => some (d.wallSet v)
    | 0x1140, 0x0B => some d.timeSnapshot
    | 0x1180, 1 => some (d.ptpMode v.toNat)
    | _, _ => none

/-- Safety: the session, forced releases, acknowledged outputs. -/
def Dev.safetyWrite (d : Dev) (r : Requester) (ix sub : Nat) (data : Bytes) : Option Dev :=
  if 0x3140 ≤ ix ∧ ix < 0x3180 ∧ sub = 0x10 then some (d.forceReleaseBy r (ix - 0x3140))
  else if 0x5020 ≤ ix ∧ ix < 0x5028 ∧ sub = 0x13 then
    let (k, d) := d.takeFresh
    some (d.outAck (ix - 0x5020) (Config.readbackLevel k == 1))
  else
    match ix, sub with
    | 0x5000, 1 => some (d.sessionOpen r data)
    | 0x5000, 2 => some (d.sessionClose r)
    | 0x5001, 9 => some (d.passwordSet r data)
    | _, _ => none

/-- Boot, update, keys, debug and attestation. -/
def Dev.bootWrite (d : Dev) (r : Requester) (ix sub : Nat) (v : Int) (data : Bytes) : Option Dev :=
  match ix, sub with
  | 0x6000, 7 => some (d.lpddrRetry.finish Code.STATUS_OK)
  | 0x6020, 1 => some (d.updateOpen r data)
  | 0x6020, 3 => some (d.updateBind r v.toNat)
  | 0x6020, 4 => some (d.finish Code.OD_TYPE)
  | 0x6020, 5 => some (d.updateAbandon r)
  | 0x6020, 9 => some (d.updateActivate r v.toNat)
  | 0x6020, 0x0A => some d.updateConfirm
  | 0x6040, 5 => some (d.appKeyEnroll r data)
  | 0x6050, 2 => some (d.debugUnlock data)
  | 0x6060, 3 => some (d.attestRequest data)
  | _, _ => none

/-- The device, the store, the network, local outputs, health and counters. -/
def Dev.systemWrite (d : Dev) (r : Requester) (ix sub : Nat) (v : Int) (data : Bytes) : Option Dev :=
  match ix, sub with
  | 0x1001, 2 => some (d.devControl v.toNat)
  | 0x1004, 3 =>
    let (k, d) := d.takeFresh
    some (d.storeFlush (Config.storeTakes k == 1))
  | 0x1201, 1 =>
    let ws := d.serve.windows.map fun w => if w.who = r then { w with status := w.status - (w.status &&& v.toNat) } else w
    some ({ d with serve := { d.serve with windows := ws } }.finish Code.STATUS_OK)
  | 0x1400, 0x0D => some (d.netControl v.toNat)
  | 0x1610, 1 => some (d.valuesWrite data)
  | 0x4001, 2 => some (d.doWrite v.toNat)
  | 0x4001, 4 => some (d.aoWrite data)
  | 0x7000, 0x0D => some (d.retireWrite v.toNat)
  | 0x7800, 1 => some d.counterSnapshot
  | 0x7800, 2 => some (d.freezeWrite (v == 1))
  | 0x7800, 5 => some (d.windowWrite v.toNat)
  | _, _ =>
    if 0x7810 ≤ ix ∧ ix < 0x785B ∧ sub = 0x11 then
      some (((d.clearBits (Reg.R7810_OVF (ix - 0x7810)) v.toNat).overflowCleared).finish Code.STATUS_OK)
    else none

/-- The effect of an accepted write that is more than storing the value. (DEDUCED, log 123, safe.) -/
def Dev.writeSpecial (d : Dev) (r : Requester) (ix sub : Nat) (v : Int) (data : Bytes) : Option Dev :=
  match tableOf ix sub with
  | some t => some (d.commitRequest t v.toNat)
  | none =>
    if 0x2000 ≤ ix ∧ ix < 0x2800 then d.axisWrite ((ix - 0x2000) / 16) (ix % 16) sub v
    else if 0x3000 ≤ ix ∧ ix < 0x3100 then d.chainWrite ((ix - 0x3000) / 16) (ix % 16) sub v data
    else if 0x3400 ≤ ix ∧ ix < 0x3600 then d.identWrite ix sub v data
    else if 0x3900 ≤ ix ∧ ix < 0x3A00 then d.dmaWrite ix sub v
    else if 0x1110 ≤ ix ∧ ix < 0x1200 then d.timeWrite ix sub v
    else if (0x3140 ≤ ix ∧ ix < 0x3180) ∨ (0x5000 ≤ ix ∧ ix < 0x5100) then d.safetyWrite r ix sub data
    else if 0x6000 ≤ ix ∧ ix < 0x6100 then d.bootWrite r ix sub v data
    else d.systemWrite r ix sub v data

/-- An accepted SL write keeps the session alive (R398). -/
def Dev.touchSession (d : Dev) (e : Entry) : Dev :=
  if e.acc = .sl ∧ d.done = Code.STATUS_OK then
    { d with safe := { d.safe with session := d.safe.session.map fun s => { s with last := d.rawNow } } }
  else d

/-- A write of the value `data` to an entry by `r`; `done` is its code (R435 to R440). -/
def Dev.odWrite (d : Dev) (r : Requester) (ix sub : Nat) (data : Bytes) : Dev :=
  match locate ix sub with
  | .nowhere => d.finish Code.OD_NO_ENTRY
  | .top _ | .active _ _ => d.finish Code.OD_READ_ONLY
  | .entry e _ =>
    let code := d.writeCheck r e ix sub data
    if code ≠ Code.STATUS_OK then d.writeRefused ix sub code
    else
      let v := e.ty.wrap (leNat data)
      let code := d.writeBlocked ix sub v data
      if code ≠ Code.STATUS_OK then d.writeRefused ix sub code
      else ((d.writeSpecial r ix sub v data).getD (d.storeEntry e ix sub v data)).touchSession e

end Sys2Proof.Machine
end

