-- ==== Sys2Proof/Machine/Server.lean ====
section
/-! DEFINITION. The services of the OD server (R441 to R446) and the PDUs that carry them. -/

namespace Sys2Proof.Machine

/-! ## Who is served -/

/-- Whether a requester's accesses reach the server: the device is powered, out of reset and past its start, and PERST_N does not
cut the host off (R532); in recovery and in FAILED only the host is served (R13, R476). (DEDUCED, log 119, safe.) -/
def Dev.online (d : Dev) (r : Requester) : Bool :=
  !d.dark && !(r.path == 0 && !d.power.perstN) && !(d.state == DevState.failed && (r.path == 2 || r.path == 3)) &&
    (decide (DevState.config ≤ d.state) || (d.boot.recovery && r.path == 0))

/-- `f` for an access that reaches the server; in recovery only the entries of the update session do. (DEDUCED, log 9, safe.) -/
def Dev.reached (d : Dev) (r : Requester) (ix : Nat) (f : Dev → Dev) : Dev :=
  d.when (d.online r && (!d.boot.recovery || ix == 0x6020)) f

/-- `f` for a service that recovery does not offer. -/
def Dev.reachedFull (d : Dev) (r : Requester) (f : Dev → Dev) : Dev := d.when (d.online r && !d.boot.recovery) f

/-- What a request answers: its code, and the bytes. -/
def Dev.reply (d : Dev) (code : Nat) (data : Bytes := []) : Dev :=
  { d with done := code, resp := { d.resp with data } }

/-- TOTAL and GEN of a response that concerns an entry (R441). -/
def Dev.showEntry (d : Dev) (ix sub : Nat) (len : Nat) : Dev :=
  { d with resp := { d.resp with total := len, gen := mget 0 d.gen (Reg.key ix sub) } }

/-- Whether an address names a DOMAIN or STRING. -/
def isLong (ix sub : Nat) : Bool :=
  match locate ix sub with
  | .entry e _ | .active e _ => e.ty == .dom || e.ty == .str
  | _ => false

/-- The type an address reads as. -/
def typeAt (ix sub : Nat) : OdType :=
  match locate ix sub with
  | .entry e _ | .active e _ => e.ty
  | _ => .u8

/-! ## Reading and writing -/

/-- READ. -/
def Dev.svcRead (d : Dev) (r : Requester) (ix sub dmax : Nat) : Dev :=
  let (code, b, d) := d.odRead r ix sub
  let d := d.showEntry ix sub (if isLong ix sub then b.length else 0)
  if dmax < b.length then d.reply Code.OD_TYPE else d.reply code b

/-- WRITE. -/
def Dev.svcWrite (d : Dev) (r : Requester) (ix sub : Nat) (data : Bytes) : Dev :=
  let d := d.odWrite r ix sub data
  d.showEntry ix sub (if isLong ix sub then (d.odRead r ix sub).2.1.length else 0)

/-- DREAD (R444). -/
def Dev.svcDread (d : Dev) (r : Requester) (ix sub off len dmax : Nat) : Dev :=
  if dmax < len then d.reply Code.OD_PDU_INVALID
  else
    let (code, b, d) := d.odRead r ix sub
    let d := d.showEntry ix sub b.length
    if code = Code.OD_NO_ENTRY then d.reply code
    else if !isLong ix sub then d.reply Code.OD_TYPE
    else if b.length < off then d.reply Code.OD_TRANSFER_INVALID
    else d.reply code ((b.drop off).take len)

/-- The open transfer of an entry. -/
def Dev.transferOf (d : Dev) (k : Nat) : Option Transfer := d.serve.transfers.find? fun t => t.key = k

/-- The transfers with that of `k` replaced or ended. -/
def Dev.putTransfer (d : Dev) (k : Nat) (t : Option Transfer) : Dev :=
  { d with serve := { d.serve with transfers := d.serve.transfers.filter (fun t => t.key != k) ++ t.toList } }

/-- The staging pool that open transfers share: 16 MB (R444). (DEDUCED, log 118, unsafe.) -/
abbrev stagingPool : Nat := 16777216

/-- Whether a block of an engine's memory does not lie on words of four bytes (R244). (DEDUCED, log 123, safe.) -/
def engineSplit (ix sub off : Nat) (data : Bytes) : Bool :=
  0x3510 ≤ ix && ix < 0x3512 && 5 ≤ sub && sub ≤ 7 && (off % 4 != 0 || data.length % 4 != 0)

/-- One block of an open or newly opened transfer. (DEDUCED, log 118, unsafe.) -/
def Dev.transferBlock (d : Dev) (r : Requester) (ix sub : Nat) (t : Transfer) (off total : Nat) (last : Bool)
    (data : Bytes) : Dev :=
  let k := Reg.key ix sub
  if t.total ≠ total ∨ total < off + data.length ∨ engineSplit ix sub off data = true then (d.putTransfer k none).reply Code.OD_TRANSFER_INVALID
  else
    let t := { t with bytes := patch t.bytes off data, parts := (off, off + data.length) :: t.parts, last := d.rawNow }
    if !last then (d.putTransfer k (some t)).reply Code.STATUS_OK
    else if covered total t.parts ≠ total then (d.putTransfer k none).reply Code.OD_TRANSFER_INVALID
    else (d.putTransfer k none).svcWrite r ix sub (slice t.bytes 0 total)

/-- DWRITE (R444); blocks of IMAGE go to the update session (R481). -/
def Dev.svcDwrite (d : Dev) (r : Requester) (ix sub off total : Nat) (last : Bool) (data : Bytes) (dmax : Nat) : Dev :=
  let k := Reg.key ix sub
  if dmax < data.length then d.reply Code.OD_PDU_INVALID
  else
    match locate ix sub with
    | .nowhere => d.reply Code.OD_NO_ENTRY
    | .top _ | .active _ _ => d.reply Code.OD_READ_ONLY
    | .entry e _ =>
      if e.acc = .ro then d.reply Code.OD_READ_ONLY
      else if !d.pathOpen r ix sub then d.reply Code.OD_PATH_DENIED
      else if e.acc = .sl ∧ d.slAllowed r = false then d.denied.reply Code.SESSION_DENIED
      else if !isLong ix sub then d.reply Code.OD_TYPE
      else if ix = 0x6020 ∧ sub = 4 then d.updateBlock r off total last data
      else
        match d.transferOf k with
        | some t =>
          if t.owner ≠ r then d.reply Code.OD_TRANSFER_BUSY else d.transferBlock r ix sub t off total last data
        | none =>
          if e.size < total then d.reply Code.OD_TYPE
          else if stagingPool < total + (d.serve.transfers.map Transfer.total).sum then d.reply Code.OD_TRANSFER_BUSY
          else
            d.transferBlock r ix sub { owner := r, key := k, total, bytes := [], parts := [], last := d.rawNow } off total last data

/-- DABORT: the requester's transfer ends without a change. -/
def Dev.svcDabort (d : Dev) (r : Requester) (ix sub : Nat) : Dev :=
  match d.transferOf (Reg.key ix sub) with
  | some t =>
    if t.owner = r then (d.putTransfer t.key none).reply Code.STATUS_OK else d.reply Code.OD_TRANSFER_BUSY
  | none => d.reply Code.OD_TRANSFER_INVALID

/-- OD_TRANSFER_TIMEOUT: TRANSFER_TIMEOUT_MS without a block. -/
def Dev.transferTimeout (d : Dev) (ix sub : Nat) : Dev :=
  match d.transferOf (Reg.key ix sub) with
  | some t =>
    if t.last + d.nat Reg.R1201_TRANSFER_TIMEOUT_MS * 1000000 ≤ d.rawNow then
      (d.putTransfer t.key none).raise Code.OD_TRANSFER_TIMEOUT Kind.other 0 0 t.key
    else d
  | none => d

/-! ## COMMIT (R445) -/

/-- The code with which one target of a group would refuse a write of the cycle number. (DEDUCED, log 122, safe.) -/
def Dev.targetRefusal (d : Dev) (r : Requester) (ix sub cycle : Nat) : Nat :=
  match locate ix sub, tableOf ix sub with
  | .nowhere, _ => Code.OD_NO_ENTRY
  | .entry e _, some t =>
    let data := leBytes 4 cycle
    let code := d.writeCheck r e ix sub data
    if code ≠ Code.STATUS_OK then code else d.requestRefusal t
  | _, _ => Code.OD_RANGE

/-- COMMIT of up to 16 targets as one request: a code for each; a request that is not accepted is answered with LATE (R36).
(DEDUCED, log 22, safe; DEDUCED, log 122, safe.) -/
def Dev.svcCommit (d : Dev) (r : Requester) (cycle policy : Nat) (targets : List (Nat × Nat)) : Dev :=
  if targets.isEmpty ∨ 16 < targets.length ∨ 1 < policy then d.reply Code.OD_PDU_INVALID
  else
    let codes := targets.map fun (ix, sub) => d.targetRefusal r ix sub cycle
    let flat (l : List Nat) : Bytes := l.flatMap (leBytes 2)
    if codes.all (· = Code.STATUS_OK) = true ∧ (d.judgeCommit cycle policy).isNone = true then
      let d := each targets.eraseDups (fun (ix, sub) d =>
        match tableOf ix sub with | some t => d.request t cycle policy 0 0 | none => d) d
      d.reply Code.LATE (flat (codes.map fun _ => Code.LATE))
    else if codes.all (· = Code.STATUS_OK) then
      let seq := d.nextRequest
      let group := d.nextGroup
      let d := each targets.eraseDups (fun (ix, sub) d =>
        match locate ix sub, tableOf ix sub with
        | .entry e _, some t => ((d.request t cycle policy seq group).finish Code.STATUS_OK).touchSession e
        | _, _ => d) d
      d.reply Code.STATUS_OK (flat codes)
    else
      d.reply Code.COMMIT_GROUP_FAILED (flat (codes.map fun c => if c = Code.STATUS_OK then Code.COMMIT_GROUP_FAILED else c))

/-! ## DIGEST and ENUMERATE (R442, R443) -/

/-- DIGEST of a value's bytes, or of the configuration with its epoch in GEN. -/
def Dev.svcDigest (d : Dev) (r : Requester) (ix sub : Nat) : Dev :=
  if ix = 0 ∧ sub = 0 then
    { d.reply Code.STATUS_OK (leBytes 16 d.configDigest) with resp :=
        { d.resp with data := leBytes 16 d.configDigest, gen := d.nat Reg.R1220_CONFIG_EPOCH } }
  else
    let (code, b, d) := d.odRead r ix sub
    let d := d.showEntry ix sub (if isLong ix sub then b.length else 0)
    if code = Code.STATUS_OK then d.reply code (leBytes 16 (digest128 b)) else d.reply code

/-- Every index in use, rising. -/
def allIndices : List Nat :=
  ((blocks.flatMap fun (b : Block) => (List.range b.count).map fun i => b.base + b.stride * i) ++
    (List.range 32).map (0x1160 + ·)).mergeSort fun a b => decide (a ≤ b)

/-- The descriptor of an entry in use (R443), its scalars least significant byte first. -/
def descriptor (ix : Nat) (e : Entry) : Bytes :=
  let persist := if e.factory then 2 else if e.stored then 1 else 0
  let flags := (if e.count then 1 else 0) + (if e.banked then 2 else 0) + (if e.outside then 4 else 0)
  leBytes 2 ix ++ [byte e.sub, byte e.ty.code, byte e.acc.code, byte persist, byte flags, 0] ++
    leBytes 4 (if e.ty = .dom ∨ e.ty = .str then e.size else e.ty.size)

/-- Sub-index 0 of an index as an entry. -/
def topEntry : Entry := row 0 .u8 .ro 0 0 .any 0 0

/-- The entries in use from an address on, at most `fuel` of them. -/
def entriesFrom (ix sub fuel : Nat) : List (Nat × Entry) :=
  let go := (allIndices.filter (ix ≤ ·)).foldl (fun (acc : List (Nat × Entry)) i =>
    if fuel < acc.length then acc
    else acc ++ ((topEntry :: rowsAt i).filter fun e => decide (ix < i ∨ sub ≤ e.sub)).map fun e => (i, e)) []
  go.take fuel

/-- ENUMERATE: up to `count` descriptors; `next` is the address it goes on at. (DEDUCED, log 119, safe.) -/
def Dev.svcEnumerate (d : Dev) (ix sub count : Nat) : Dev :=
  if count < 1 ∨ 256 < count then d.reply Code.OD_PDU_INVALID
  else
    let l := entriesFrom ix sub (count + 1)
    let next : Nat := match l[count]? with | some (i, e) => Reg.key i e.sub | none => 0xFFFFFF
    let d := d.reply Code.STATUS_OK ((l.take count).flatMap fun (i, e) => descriptor i e)
    { d with resp := { d.resp with next } }

/-! ## PDUs (R441) -/

/-- A value's bytes in the order of a path (R446); the same map leads back. -/
def wireValue (big : Bool) (t : OdType) (b : Bytes) : Bytes :=
  if !big then b
  else
    match t with
    | .time => (b.take 8).reverse ++ ((b.drop 8).take 4).reverse ++ (b.drop 12).reverse
    | .digest | .str | .dom => b
    | _ => b.reverse

/-- A field of a header in the order of a path. -/
def wireNat (big : Bool) (b : Bytes) (off n : Nat) : Nat := if big then fieldBE b off n else fieldLE b off n
def wireBytes (big : Bool) (n v : Nat) : Bytes := if big then beBytes n v else leBytes n v

/-- Every 12-byte descriptor or 2-byte code of a response turned to the path's order. (DEDUCED, log 119, safe.) -/
def wireDescriptors (big : Bool) (b : Bytes) : Bytes :=
  (List.range (b.length / 12)).flatMap fun i =>
    wireBytes big 2 (fieldLE b (12 * i) 2) ++ slice b (12 * i + 2) 6 ++ wireBytes big 4 (fieldLE b (12 * i + 8) 4)
def wireCodes (big : Bool) (b : Bytes) : Bytes :=
  (List.range (b.length / 2)).flatMap fun i => wireBytes big 2 (fieldLE b (2 * i) 2)

/-- Whether a PDU keeps the form of R441 and the bounds of R442. (DEDUCED, log 119, safe.) -/
def pduOk (big : Bool) (p : Bytes) : Bool :=
  let op := fieldLE p 0 1
  let data := p.length - 24
  let len := wireNat big p 12 4
  let count := wireNat big p 6 2
  decide (24 ≤ p.length) && decide (1 ≤ op ∧ op ≤ 8) && decide (fieldLE p 1 1 ≤ 1) && (fieldLE p 1 1 == 0 || op == 4) &&
    (if op = 6 then decide (fieldLE p 5 1 ≤ 1) else fieldLE p 5 1 == 0) &&
    (if op = 3 then data == 0 else len == data) &&
    (if op = 6 then decide (1 ≤ count ∧ count ≤ 16) && data == 4 * count &&
        ((List.range count).all fun i => fieldLE p (24 + 4 * i + 3) 1 == 0)
     else if op = 8 then decide (1 ≤ count ∧ count ≤ 256) && 12 * count != 0
     else true)

/-- A request PDU executed for a requester; the response PDU. -/
def Dev.servePdu (d : Dev) (r : Requester) (big : Bool) (dmax : Nat) (p : Bytes) : Bytes × Dev :=
  let op := fieldLE p 0 1
  let ix := wireNat big p 2 2
  let sub := fieldLE p 4 1
  let off := wireNat big p 8 4
  let len := wireNat big p 12 4
  let total := wireNat big p 16 4
  let data := p.drop 24
  let d := { d with resp := { d.resp with data := [], total := 0, gen := 0, next := 0 } }
  let recovery := d.boot.recovery
  let d :=
    if !pduOk big p then d.reply Code.OD_PDU_INVALID
    else if recovery ∧ ¬(ix = 0x6020 ∧ (op = 1 ∨ op = 2 ∨ op = 4)) then d.reply Code.OD_STATE
    else
      match op with
      | 1 => d.svcRead r ix sub dmax
      | 2 => d.svcWrite r ix sub (wireValue big (typeAt ix sub) data)
      | 3 => d.svcDread r ix sub off len dmax
      | 4 => d.svcDwrite r ix sub off total (fieldLE p 1 1 == 1) data dmax
      | 5 => d.svcDabort r ix sub
      | 6 => d.svcCommit r (wireNat big p 20 4) (fieldLE p 5 1)
          ((List.range (data.length / 4)).map fun i => (wireNat big data (4 * i) 2, fieldLE data (4 * i + 2) 1))
      | 7 => d.svcDigest r ix sub
      | _ => d.svcEnumerate ix sub (wireNat big p 6 2)
  let body : Bytes := match op with
    | 1 => wireValue big (typeAt ix sub) d.resp.data
    | 6 => wireCodes big d.resp.data
    | 8 => wireDescriptors big d.resp.data
    | _ => d.resp.data
  let body := body.take dmax
  let ok := op == 8 && d.done == Code.STATUS_OK
  let head := [byte (op + 0x80), 0] ++ wireBytes big 2 (if ok then d.resp.next / 256 else ix) ++
    [byte (if ok then d.resp.next else sub), 0] ++ wireBytes big 2 d.done ++ wireBytes big 4 off ++ wireBytes big 4 body.length ++
    wireBytes big 4 d.resp.total ++ wireBytes big 4 d.resp.gen
  (head ++ body, d)

end Sys2Proof.Machine
end

