-- ==== Sys2Proof/Machine/Paths.lean ====
section
/-! DEFINITION. The paths to the OD server: ring pairs of the host and of the harts (R448 to R451, R455), host DMA (R452), the
memory window (R453, R454), the UDP service (R456), TurriLink (R331, R332, R457), and writes to registers. -/

namespace Sys2Proof.Config

/-- What a window read of the upper part of a wide entry returns when nothing is latched (R454): the count of free values. -/
opaque unlatched : Nat → Nat

end Sys2Proof.Config

namespace Sys2Proof.Machine

/-- Whether a request reset the module, which leaves nobody to answer it. -/
def Dev.wasReset (d old : Dev) : Bool := d.state == DevState.boot && old.state != DevState.boot

/-! ## Ring pairs -/

/-- The numbers of ring pairs: 0 to 15 of the host, 64 + h of hart h. -/
def ringHost (i : Nat) : Bool := decide (i < 16)
def ringHart (i : Nat) : Bool := decide (64 ≤ i ∧ i < 112)

def Dev.ring (d : Dev) (i : Nat) : Ring := mget {} d.serve.rings i
def Dev.setRing (d : Dev) (i : Nat) (x : Ring) : Dev := { d with serve := { d.serve with rings := mset {} d.serve.rings i x } }

/-- Whether a pair's registers answer: the host's while the device is up and PERST_N high, a hart's while the device is up. -/
def Dev.ringThere (d : Dev) (i : Nat) : Bool :=
  (ringHost i && !d.dark && d.power.perstN) || (ringHart i && d.online ⟨3, i - 64⟩)

/-- A size a pair takes: 0, or a power of two from 16 to 4,096. (DEDUCED, log 120, unsafe.) -/
def ringSizeOk (n : Nat) : Bool := n == 0 || (decide (16 ≤ n ∧ n ≤ 4096) && n &&& (n - 1) == 0)

/-- SIZE: the four indices return to 0, and the pair runs or stops. -/
def Dev.ringSize (d : Dev) (i size : Nat) : Dev :=
  if !d.ringThere i || !ringSizeOk size then d
  else
    let x := d.ring i
    d.setRing i { x with size, state := if size = 0 then 0 else 1, tail := 0, head := 0, rspTail := 0, rspHead := 0 }

/-- REQ_TAIL and RSP_HEAD count modulo SIZE. -/
def Dev.ringTail (d : Dev) (i v : Nat) : Dev :=
  let x := d.ring i
  if !d.ringThere i || x.size == 0 then d else d.setRing i { x with tail := v % x.size }
def Dev.ringRspHead (d : Dev) (i v : Nat) : Dev :=
  let x := d.ring i
  if !d.ringThere i || x.size == 0 then d else d.setRing i { x with rspHead := v % x.size }

/-- RING_ERROR (R451): the pair stops until SIZE is written again. -/
def Dev.ringError (d : Dev) (i : Nat) : Dev :=
  let d := d.setRing i { d.ring i with state := 2, error := Code.RING_ERROR }
  ({ d with event := d.event ||| 4 }).raise Code.RING_ERROR Kind.other 0 0 i

/-- Bytes written for a pair: to host memory, or to the memory of the work cores. -/
def Dev.ringPut (d : Dev) (i a : Nat) (b : Bytes) : Dev :=
  if ringHost i then { d with resp := { d.resp with host := d.resp.host ++ [(a, b)] } } else d.coreWrite a b

/-- The response entry of a request, and who is told of it. -/
def Dev.ringAnswer (d : Dev) (i : Nat) (entry : Bytes) : Dev :=
  let x := d.ring i
  let d := (d.ringPut i (x.rspBase + 16 * x.rspTail) entry).setRing i { x with rspTail := (x.rspTail + 1) % x.size }
  if ringHost i then d.msi x.vector else d.raisePlic (128 + (i - 64))

/-- A request of a service pair (R450): the PDU read, executed and answered. -/
def Dev.ringService (d : Dev) (i : Nat) (entry pdu : Bytes) : Dev :=
  let rspMax := fieldLE entry 12 4
  let rspAddr := fieldLE entry 16 8
  let r : Requester := if ringHost i then ⟨0, 0⟩ else ⟨3, i - 64⟩
  let (b, d') := d.servePdu r false 65536 (slice pdu 0 (fieldLE entry 8 4))
  if d'.wasReset d then d'
  else if !ringHost i && !inMemory rspAddr (min b.length rspMax) then d'.ringError i
  else
    let status := if rspMax < b.length then Code.OD_PDU_INVALID else d'.done
    let d := d'.ringPut i rspAddr (b.take rspMax)
    d.ringAnswer i (slice entry 24 4 ++ leBytes 2 status ++ [0, 0] ++ leBytes 4 (min b.length rspMax) ++ leBytes 4 0)

/-- A request of a submission pair (R450, R268). -/
def Dev.ringSubmit (d : Dev) (i index : Nat) (entry : Bytes) : Dev :=
  let ((code, slot), d) := d.submitDesc entry
  (d.finish code).ringAnswer i (leBytes 4 index ++ leBytes 2 code ++ leBytes 2 slot ++ leBytes 8 0)

/-- RING_REQUEST_FETCH (R449 to R451): the next request of a running pair, once a free response entry exists. `entry` and `pdu`
are what the host's memory holds there, `ok` that its accesses completed; a hart's pair reads the device's own memory. -/
def Dev.ringFetch (d : Dev) (i : Nat) (entry pdu : Bytes) (ok : Bool) : Dev :=
  let x := d.ring i
  let served : Bool := if ringHost i then d.online ⟨0, 0⟩ && (!d.boot.recovery || i == 0) else true
  if !d.ringThere i || !served || x.state != 1 || x.head == x.tail || (x.rspTail + 1) % x.size == x.rspHead then d
  else
    let at_ := x.reqBase + 32 * x.head
    let own := ringHart i
    let entry := if own then d.memRead at_ 32 else slice entry 0 32
    let sub := ringHost i && decide (8 ≤ i)
    let reads : Bool := if own then inMemory at_ 32 && inMemory (fieldLE entry 0 8) (fieldLE entry 8 4) &&
        inMemory (x.rspBase + 16 * x.rspTail) 16 else ok
    let d := d.setRing i { x with head := (x.head + 1) % x.size }
    if !reads then d.ringError i
    else if sub then d.ringSubmit i x.head entry
    else d.ringService i entry (if own then d.memRead (fieldLE entry 0 8) (fieldLE entry 8 4) else pdu)

/-! ## Host DMA (R452) -/

def Dev.hostDmaOf (d : Dev) (ch : Nat) : HostDma := mget {} d.serve.hostDma ch
def Dev.setHostDma (d : Dev) (ch : Nat) (x : HostDma) : Dev :=
  { d with serve := { d.serve with hostDma := mset {} d.serve.hostDma ch x } }

/-- Whether a device range lies wholly inside one range of HOST_DMA_RANGES. -/
def Dev.dmaAllowed (d : Dev) (a n : Nat) : Bool :=
  let l := d.bytes Reg.R1201_HOST_DMA_RANGES
  (List.range (l.length / 16)).any fun i =>
    decide (fieldLE l (16 * i) 8 ≤ a ∧ a + n ≤ fieldLE l (16 * i) 8 + fieldLE l (16 * i + 8) 8)

/-- Whether the host reaches BAR0. -/
def Dev.barThere (d : Dev) : Bool := !d.dark && d.power.perstN

/-- HOST_DMA_START. (DEDUCED, log 120, unsafe.) -/
def Dev.hostDmaStart (d : Dev) (ch : Nat) : Dev :=
  let x := d.hostDmaOf ch
  if 4 ≤ ch ∨ d.barThere = false ∨ x.state = 1 then d
  else if !d.dmaAllowed x.devAddr x.length then
    (d.setHostDma ch { x with state := 3, error := Code.OD_PATH_DENIED }).finish Code.OD_PATH_DENIED
  else (d.setHostDma ch { x with state := 1, error := 0 }).finish Code.STATUS_OK

/-- HOST_DMA_STOP. -/
def Dev.hostDmaStop (d : Dev) (ch : Nat) : Dev :=
  let x := d.hostDmaOf ch
  if x.state = 1 then (d.setHostDma ch { x with state := 0 }).finish Code.STATUS_OK else d

/-- Bytes read over the fabric from an engine's memories, in order; none at the first error response (R225). -/
def Dev.fabricBytes (d : Dev) (a : Nat) : Nat → Option Bytes × Dev
  | 0 => (some [], d)
  | n + 1 =>
    match d.fabricRead a with
    | (none, d) => (none, d)
    | (some b, d) =>
      match Dev.fabricBytes d (a + 1) n with
      | (none, d) => (none, d)
      | (some r, d) => (some (b :: r), d)

/-- Bytes written over the fabric to an engine's memories, up to the first error response (R226). -/
def Dev.fabricStore (d : Dev) (a : Nat) : Bytes → Bool × Dev
  | [] => (true, d)
  | b :: r =>
    match aeCell a with
    | none => (false, d)
    | some (e, sub, o) =>
      match d.aePut e sub o b with
      | (false, d) => (false, d)
      | (true, d) => Dev.fabricStore d (a + 1) r

/-- Whether uncorrectable data lie in a range of memory (R509). -/
def Dev.poisonedIn (d : Dev) (a n : Nat) : Bool := d.health.poisoned.any fun w => decide (w < a + n ∧ a < w + 8)

/-- A channel stopped by an error response: which code ERROR holds is free. (DESIGN CHOICE, log 167, safe.) -/
def Dev.hostDmaFails (d : Dev) (ch : Nat) : Dev :=
  let (k, d) := d.takeFresh
  let x := d.hostDmaOf ch
  (d.setHostDma ch { x with state := 3, error := Config.hostDmaError k % 65536 }).msi x.vector

/-- HOST_DMA_COMPLETE: the bytes copied, from the host's memory `data`; an error response of the fabric ends the copy. -/
def Dev.hostDmaComplete (d : Dev) (ch : Nat) (data : Bytes) : Dev :=
  let x := d.hostDmaOf ch
  if x.state ≠ 1 then d
  else if inMemory x.devAddr x.length then
    if x.dir = 0 ∧ d.poisonedIn x.devAddr x.length = true then d.hostDmaFails ch
    else
      let d := if x.dir = 0 then
          { d with resp := { d.resp with host := d.resp.host ++ [(x.hostAddr, d.memRead x.devAddr x.length)] } }
        else d.coreWrite x.devAddr (slice data 0 x.length)
      (d.setHostDma ch { x with state := 2 }).msi x.vector
  else if x.dir = 0 then
    match d.fabricBytes x.devAddr x.length with
    | (some b, d) =>
      ({ d.setHostDma ch { x with state := 2 } with resp := { d.resp with host := d.resp.host ++ [(x.hostAddr, b)] } }).msi x.vector
    | (none, d) => d.hostDmaFails ch
  else
    match d.fabricStore x.devAddr (slice data 0 x.length) with
    | (true, d) => (d.setHostDma ch { x with state := 2 }).msi x.vector
    | (false, d) => d.hostDmaFails ch

/-! ## The memory window (R453, R454) -/

/-- What the window holds for a requester. -/
def Dev.winOf (d : Dev) (r : Requester) : WinLatch := (d.serve.windows.find? fun w => w.who = r).getD { who := r }
def Dev.setWin (d : Dev) (x : WinLatch) : Dev :=
  { d with serve := { d.serve with windows := d.serve.windows.filter (fun w => w.who ≠ x.who) ++ [x] } }

/-- The result of a window access; a refusal shows in the requester's WIN_STATUS. -/
def Dev.winDone (d : Dev) (r : Requester) (code : Nat) (data : Bytes) : Dev :=
  let d := d.when (code != Code.STATUS_OK) fun d => d.setWin { d.winOf r with status := code }
  d.reply code data

/-- The bytes of a wide entry as its slot shows them: 16, those beyond its size 0. -/
def wideBytes (b : Bytes) : Bytes := slice b 0 16

/-- WINDOW_READ of `size` bytes at a byte offset of the window. (DEDUCED, log 120, unsafe.) -/
def Dev.windowRead (d : Dev) (r : Requester) (offset size : Nat) : Dev :=
  let ix := offset / 4096 % 65536
  let sub := offset / 16 % 256
  let o := offset % 16
  let none_ (code : Nat) : Dev := d.winDone r code (List.replicate size 0)
  match locate ix sub with
  | .nowhere => none_ Code.OD_NO_ENTRY
  | _ =>
    let t := typeAt ix sub
    if isLong ix sub then
      if size = 4 ∧ (o = 0 ∨ o = 4) then
        let (code, b, d) := d.odRead r ix sub
        let n : Nat := if o = 0 then b.length else mget 0 d.gen (Reg.key ix sub)
        d.winDone r code (leBytes 4 n)
      else none_ Code.OD_TYPE
    else if t = .time ∨ t = .digest then
      if o = 8 ∧ size = 8 then
        match (d.winOf r).read with
        | some (k, b) =>
          if k = Reg.key ix sub then d.winDone r Code.STATUS_OK b
          else let (f, d) := d.takeFresh; d.winDone r Code.STATUS_OK (leBytes 8 (Config.unlatched f))
        | none => let (f, d) := d.takeFresh; d.winDone r Code.STATUS_OK (leBytes 8 (Config.unlatched f))
      else if o = 0 ∧ (size = 8 ∨ size = 16) then
        let (code, b, d) := d.odRead r ix sub
        let b := wideBytes b
        let d := d.setWin { d.winOf r with read := some (Reg.key ix sub, b.drop 8) }
        d.winDone r code (b.take size)
      else none_ Code.OD_TYPE
    else if o = 0 ∧ size = t.size then
      let (code, b, d) := d.odRead r ix sub
      d.winDone r code b
    else none_ Code.OD_TYPE

/-- WINDOW_WRITE of bytes at a byte offset of the window. -/
def Dev.windowWriteAt (d : Dev) (r : Requester) (offset : Nat) (data : Bytes) : Dev :=
  let ix := offset / 4096 % 65536
  let sub := offset / 16 % 256
  let o := offset % 16
  let size := data.length
  let held := (d.winOf r).write
  let d := d.when held.isSome fun d => d.setWin { d.winOf r with write := none }
  let go (d : Dev) (b : Bytes) : Dev :=
    let d := d.odWrite r ix sub b
    d.winDone r d.done []
  match locate ix sub with
  | .nowhere => d.winDone r Code.OD_NO_ENTRY []
  | _ =>
    let t := typeAt ix sub
    if isLong ix sub then d.winDone r Code.OD_TYPE []
    else if t = .time ∨ t = .digest then
      if o = 0 ∧ size = 16 then go d (data.take t.size)
      else if o = 0 ∧ size = 8 then (d.setWin { d.winOf r with write := some (Reg.key ix sub, data) }).reply Code.STATUS_OK
      else if o = 8 ∧ size = 8 then
        match held with
        | some (k, low) => if k = Reg.key ix sub then go d ((low ++ data).take t.size) else d.winDone r Code.OD_TYPE []
        | none => d.winDone r Code.OD_TYPE []
      else d.winDone r Code.OD_TYPE []
    else if o = 0 ∧ size = t.size then go d data
    else d.winDone r Code.OD_TYPE []

/-! ## Registers outside the dictionary -/

/-- A write to a register of a ring pair (R449); the others are read-only. -/
def Dev.ringReg (d : Dev) (i off : Nat) (data : Bytes) : Dev :=
  let v := leNat data
  let x := d.ring i
  if !d.ringThere i then d
  else
    match off with
    | 0x00 => d.setRing i { x with reqBase := v % 2 ^ 64 }
    | 0x08 => d.setRing i { x with rspBase := v % 2 ^ 64 }
    | 0x10 => d.ringSize i (v % 2 ^ 32)
    | 0x18 => d.ringTail i (v % 2 ^ 32)
    | 0x24 => d.ringRspHead i (v % 2 ^ 32)
    | 0x28 => if ringHost i then d.setRing i { x with vector := v % 65536 } else d
    | _ => d

/-- A write to a register of a host DMA channel. -/
def Dev.hostDmaReg (d : Dev) (ch off : Nat) (data : Bytes) : Dev :=
  let v := leNat data
  let x := d.hostDmaOf ch
  match off with
  | 0x00 => d.setHostDma ch { x with hostAddr := v % 2 ^ 64 }
  | 0x08 => d.setHostDma ch { x with devAddr := v % 2 ^ 64 }
  | 0x10 => d.setHostDma ch { x with length := v % 2 ^ 32 }
  | 0x14 => d.setHostDma ch { x with dir := v % 2 }
  | 0x15 => if v % 256 = 1 then d.hostDmaStart ch else if v % 256 = 2 then d.hostDmaStop ch else d
  | 0x18 => d.setHostDma ch { x with vector := v % 65536 }
  | _ => d

/-- A doubleword of the MSI-X table written; a vector unmasked while it is pending is sent. (PRESUMED, log 121, unsafe.) -/
def Dev.msixWrite (d : Dev) (i v : Nat) : Dev :=
  let d := { d with serve := { d.serve with msix := mset 0 d.serve.msix i (v % 2 ^ 32) } }
  if i % 4 = 3 ∧ v % 2 = 0 ∧ d.serve.msixPend.contains (i / 4) then
    ({ d with serve := { d.serve with msixPend := d.serve.msixPend.filter (· ≠ i / 4) } }).msi (i / 4)
  else d

/-- A write to a register of BAR0 (R448). -/
def Dev.barWrite (d : Dev) (off : Nat) (data : Bytes) : Dev :=
  let v := leNat data
  if !d.barThere then d
  else if off = 4 then { d with event := d.event - (d.event &&& v) }
  else if off = 8 then { d with serve := { d.serve with eventVec := v % 65536 } }
  else if 0x1000 ≤ off ∧ off < 0x1800 then d.ringReg ((off - 0x1000) / 128) ((off - 0x1000) % 128) data
  else if 0x2000 ≤ off ∧ off < 0x2200 ∧ off % 4 = 0 then d.msixWrite ((off - 0x2000) / 4) v
  else if 0x4000 ≤ off ∧ off < 0x4040 ∧ off % 4 = 0 then d.ringTail ((off - 0x4000) / 4) (v % 2 ^ 32)
  else if 0x8000 ≤ off ∧ off < 0x8100 then d.hostDmaReg ((off - 0x8000) / 64) ((off - 0x8000) % 64) data
  else d

/-- REGISTER_WRITE: an entry of the dictionary, a register of BAR0, or one of a hart's ring pair. -/
def Dev.registerWrite (d : Dev) (r : Requester) (p : RegPlace) (data : Bytes) : Dev :=
  match p with
  | .entry ix sub => d.reached r ix fun d => d.odWrite r ix sub data
  | .bar0 off => d.barWrite off data
  | .hartRing h off => if h < 48 then d.ringReg (64 + h) off data else d

/-! ## The UDP service (R456) -/

/-- The answer of the UDP service as a datagram: header, then the PDU. -/
def udpAnswer (txn : Nat) (pdu : Bytes) : Bytes := [1, 1] ++ beBytes 2 txn ++ beBytes 2 pdu.length ++ [0, 0] ++ pdu

/-- A transaction of a peer remembered: the last 16 of each of the 16 peers heard last. -/
def Dev.rememberPeer (d : Dev) (peer txn : Nat) (b : Bytes) : Dev :=
  let ps := d.serve.peers
  let old := ((ps.find? fun p => p.who = peer).map Peer.stored).getD []
  let rest := ps.filter fun p => p.who ≠ peer
  let first : Nat := (rest.map Peer.heard).foldl min d.rawNow
  let rest := if rest.length < 16 then rest
    else match rest.find? fun p => p.heard = first with | some p => rest.erase p | none => rest.drop 1
  { d with serve := { d.serve with peers := rest ++ [{ who := peer, stored := ((txn, b) :: old).take 16, heard := d.rawNow }] } }

/-- UDP_DATAGRAM: a whole datagram on host port `p` (0 H0, 1 H1) from `peer` to `dst`, each an address times 65,536 and a port.
(DEDUCED, log 120, unsafe.) -/
def Dev.udpDatagram (d : Dev) (p peer dst : Nat) (b : Bytes) : Dev :=
  let ip := d.nat (Reg.R1210_IPV4_H0 + p)
  let r : Requester := ⟨1, peer⟩
  let txn := fieldBE b 2 2
  if 2 ≤ p ∨ d.online r = false ∨ ip = 0 ∨ dst ≠ ip * 65536 + d.nat Reg.R1210_UDP_PORT then d
  else if b.length < 8 ∨ 1472 < b.length ∨ fieldBE b 0 1 ≠ 1 ∨ fieldBE b 1 1 ≠ 0 ∨ fieldBE b 4 2 ≠ b.length - 8 ∨
      fieldBE b 6 2 ≠ 0 then d
  else
    let say (d : Dev) (a : Bytes) : Dev := { d with resp := { d.resp with udp := d.resp.udp ++ [(p, peer, a)] } }
    match (d.serve.peers.find? fun q => q.who = peer).bind fun q => q.stored.find? fun s => s.1 = txn with
    | some (_, a) =>
      let ps := d.serve.peers.map fun q => if q.who = peer then { q with heard := d.rawNow } else q
      say ({ d with serve := { d.serve with peers := ps } }.count Reg.R1210_DUPLICATES) a
    | none =>
      let (pdu, d') := d.servePdu r true 1440 (b.drop 8)
      if d'.wasReset d then d' else say (d'.rememberPeer peer txn (udpAnswer txn pdu)) (udpAnswer txn pdu)

/-! ## The acyclic service (R331, R332) -/

/-- The fragments of a response of at most 1,400 bytes each, with the header of R331. -/
def fragments (dest txn : Nat) (pdu : Bytes) : List Bytes :=
  let n := max 1 ((pdu.length + 1399) / 1400)
  (List.range n).map fun i =>
    let part := (pdu.drop (1400 * i)).take 1400
    beBytes 2 dest ++ beBytes 2 txn ++ [byte (if i + 1 < n then 3 else 1), byte i] ++ beBytes 2 part.length ++ part

def Dev.sendAcyclic (d : Dev) (dest txn : Nat) (pdu : Bytes) : Dev :=
  d.setLink fun l => { l with outbox := l.outbox ++ fragments dest txn pdu }

/-- A request message of a source that has arrived whole: answered from store, or executed and stored.
(DEDUCED, log 100, safe.) -/
def Dev.acyclicRequest (d : Dev) (source txn : Nat) (pdu : Bytes) : Dev :=
  match d.link.stored.find? fun s => s.1 = source && s.2.1 = txn with
  | some (_, _, a) => (d.count Reg.R1450_DUPLICATES).sendAcyclic source txn a
  | none =>
    let (a, d') := d.servePdu ⟨2, source⟩ true 65536 pdu
    if d'.wasReset d then d'
    else
      let own := ((source, txn, a) :: d'.link.stored.filter fun s => s.1 = source).take 16
      let d := d'.setLink fun l => { l with stored := own ++ l.stored.filter fun s => s.1 ≠ source }
      d.sendAcyclic source txn a

/-- A fragment for this node. (DEDUCED, log 100, safe.) -/
def Dev.acyclicFragment (d : Dev) (source : Nat) (b : Bytes) : Dev :=
  let txn := fieldBE b 2 2
  let flags := fieldBE b 4 1
  let frag := fieldBE b 5 1
  let len := fieldBE b 6 2
  let resp := flags.testBit 0
  let same (x : Reasm) : Bool := x.source == source && x.txn == txn && x.resp == resp
  let old := d.link.reasm.find? same
  let d := d.setLink fun l => { l with reasm := l.reasm.filter fun x => !same x }
  let got : Option Bytes := if frag = 0 then some [] else match old with | some x => if x.next = frag then some x.bytes else none | none => none
  match got with
  | none => d
  | some before =>
    let bytes := before ++ slice b 8 len
    if 1400 < len then d
    else if flags.testBit 1 then
      d.setLink fun l => { l with reasm := l.reasm ++ [{ source, txn, resp, next := frag + 1, bytes }] }
    else if resp then d.setLink fun l => { l with asked := l.asked.filter fun a => a.1 ≠ txn }
    else d.acyclicRequest source txn bytes

/-- ACYCLIC_FRAME. -/
def Dev.acyclicFrame (d : Dev) (f : FrameIn) : Dev :=
  match d.arrive f with
  | (some h, es, d) =>
    let (use, d) := d.followEpoch h
    let b := payloadOf f.bytes
    if use ∧ h.kind = FrameKind.acyclic ∧ ¬es.isEmpty ∧ fieldBE b 0 2 = d.node Reg.R1400_NODE_ID then d.acyclicFragment h.source b
    else d
  | (none, _, d) => d

/-- ACYC_TIMEOUT: an own request without a response after TIMEOUT_MS. -/
def Dev.acycTimeout (d : Dev) (txn : Nat) : Dev :=
  match d.link.asked.find? fun a => a.1 = txn with
  | some (_, at_) =>
    if at_ + d.nat Reg.R1450_TIMEOUT_MS * 1000000 ≤ d.rawNow then
      let d := d.setLink fun l => { l with asked := l.asked.filter fun a => a.1 ≠ txn }
      (d.raise Code.ACYC_TIMEOUT Kind.other 0 0 txn).count Reg.R1450_TIMEOUTS
    else d
  | none => d

end Sys2Proof.Machine
end

