-- ==== Sys2Proof/Machine/Actions.lean ====
section
/-! DEFINITION. Scheduled actions at their instants (R356, R359, R360): taken, executed, held, judged late. -/

namespace Sys2Proof.Machine

/-- How far an entry's instant lies after the SI of the present tick, in ns rounded up; a late entry executes at its SI. -/
def Dev.actOffset (d : Dev) (e : Nat) : Int :=
  match (d.actRun e).late with
  | some t => ((t : Int) - d.tickAbs) * 31250
  | none => -((d.ntAt d.clk.raw - d.actInstant e).fdiv d.clk.ntRate)

/-- Whether actions execute at all (R360). -/
def Dev.actsNow (d : Dev) : Bool := d.flag Reg.R1140_NT_VALID && d.acting

/-- The offset in the present tick at which an armed entry of a kind executes; an instant less than 1,000 ns before the SI is
executed at it. (DEDUCED, log 105, unsafe.) -/
def Dev.actDue (d : Dev) (e kind : Nat) : Option Nat :=
  let o := d.actOffset e
  if e < 256 ∧ d.actNat e ActField.state = ActState.armed ∧ d.actNat e ActField.kind = kind ∧ d.actsNow = true ∧ -1000 < o ∧
      o < 31250 then some o.toNat
  else none

/-- ACTION_TAKEN: 1,000 ns before the instant. -/
def Dev.actionTaken (d : Dev) (e : Nat) : Dev :=
  let o := d.actOffset e - 1000
  if e < 256 ∧ d.actNat e ActField.state = ActState.armed ∧ d.actsNow = true ∧ -1000 < o ∧ o < 31250 then
    (d.at o.toNat).setActRun e { d.actRun e with taken := true }
  else d

/-- The next instant of a periodic entry that is in time, and the instants skipped (R360). (DEDUCED, log 105, unsafe.) -/
def Dev.nextInstant (d : Dev) (t : Int) (period : Nat) : Int × Nat :=
  let p : Int := period * 2 ^ 40
  let k : Nat := max 1 (-((t - (d.nt40 + 1000 * 2 ^ 40)).fdiv p)).toNat
  (t + k * p, k - 1)

/-- What an execution leaves in its entry (R358, R360, R361). -/
def Dev.actBook (d : Dev) (e : Nat) : Dev :=
  let late := (d.actRun e).late.isSome
  let period := d.actNat e ActField.period
  let d := ((d.set (actKey e ActField.firedAt) (time40 d.nt40)).count (actKey e ActField.count)).set (actKey e ActField.status)
    (if late then Code.LATE_EXECUTED else Code.STATUS_OK)
  let d := d.when late fun d => (d.timeCode Code.LATE_EXECUTED Kind.action e).count Reg.R1150_LATE_EXEC_COUNT
  let d := d.setActRun e {}
  if period = 0 then d.set (actKey e ActField.state) ActState.ended
  else
    let (t, skipped) := d.nextInstant (d.actInstant e) period
    (d.set (actKey e ActField.instant) (time40 t)).count (actKey e ActField.missed) skipped

/-- An entry of a kind executed at its instant: its books, then its effect; a target that refuses makes it fail (R359). -/
def Dev.runAction (d : Dev) (e kind : Nat) (f : Dev → Dev) : Dev :=
  match d.actDue e kind with
  | none => d
  | some o =>
    let d := f (((d.at o).actBook e).finish Code.STATUS_OK)
    if d.done = Code.STATUS_OK then d
    else (d.set (actKey e ActField.status) d.done).timeCode Code.ACTION_FAILED Kind.action e

/-- SET_DO and CLEAR_DO. -/
def Dev.actDo (d : Dev) (e : Nat) (on : Bool) : Dev :=
  d.runAction e (if on then 1 else 2) fun d => d.switchOutput (d.actNat e ActField.target) on

/-- ARM_LATCH: `AX[n].11.12` written, then `AX[n].11.11`. -/
def Dev.actLatch (d : Dev) (e : Nat) : Dev :=
  d.runAction e 3 fun d =>
    let ix := 0x200B + 16 * d.actNat e ActField.target
    let d := d.odWrite ⟨4, e⟩ ix 0x12 (leBytes (typeAt ix 0x12).size (d.actNat e ActField.sub))
    if d.done = Code.STATUS_OK then d.odWrite ⟨4, e⟩ ix 0x11 (leBytes (typeAt ix 0x11).size (d.actNat e ActField.value)) else d

/-- RAISE_IRQ: a source still pending counts as missed. -/
def Dev.actIrq (d : Dev) (e : Nat) : Dev :=
  d.runAction e 4 fun d =>
    let src := 48 + d.actNat e ActField.target
    if d.plic.contains src then d.count (actKey e ActField.missed) else d.raisePlic src

/-- WRITE_OD: the low bytes of VALUE in the entry's size, as the module's own write. (DEDUCED, log 105, unsafe.) -/
def Dev.actWrite (d : Dev) (e : Nat) : Dev :=
  d.runAction e 5 fun d =>
    let ix := d.actNat e ActField.target
    let sub := d.actNat e ActField.sub
    d.odWrite ⟨4, e⟩ ix sub (leBytes (typeAt ix sub).size (d.actNat e ActField.value))

/-- COMMIT: a commit request of the target's table. -/
def Dev.actCommit (d : Dev) (e : Nat) : Dev :=
  d.runAction e 6 fun d =>
    match tableOf (d.actNat e ActField.target) (d.actNat e ActField.sub) with
    | some t => d.commitRequest t (d.actNat e ActField.value % 2 ^ 32)
    | none => d.finish Code.OD_RANGE

/-- The SI of a tick: outside the conditions of R360 passed entries are held; inside them held and skipped ones are judged as if
armed at this SI. -/
def Dev.heldActions (d : Dev) : Dev :=
  iterate 256 (fun e d =>
    if d.actNat e ActField.state ≠ ActState.armed then d
    else
      let x := d.actRun e
      let t := d.actInstant e
      let passed : Bool := match x.late with
        | some l => decide (l ≤ d.tickAbs)
        | none => decide (t ≤ d.nt40)
      if !d.actsNow then d.when passed fun d => d.setActRun e { x with held := true, late := none }
      else
        let skipped : Bool := match x.late with
          | some l => decide (l < d.tickAbs)
          | none => decide (t + 32250 * 2 ^ 40 < d.nt40)
        if (x.held && passed) || skipped then (d.judgeArm e).2 else d) d

end Sys2Proof.Machine
end

