-- ==== Sys2Proof/Machine/Tick.lean ====
section
/-! DEFINITION. The SI of a tick (R17 to R20): counters and clocks, outputs and inputs, releases, what begins with a cycle. -/

namespace Sys2Proof.Machine

/-- The counters and the network clock at the next SI: 31,250 ns of network time on (R17, R18). -/
def Clock.next (c : Clock) : Clock :=
  let si := c.si + 31250 * 2 ^ 40
  let raw := (-((c.ntOff - si).fdiv (max 1 c.ntRate : Nat))).toNat
  { c with si, raw, tick := (c.tick + 1) % 8, cycle64 := if c.tick % 8 = 7 then (c.cycle64 + 1) % 2 ^ 64 else c.cycle64 }

/-- The configuration as it stands at this SI of T0, kept for the windows of the next cycles (R463). -/
def Dev.keepPast (d : Dev) : Dev :=
  let now : Past := { cycle := d.clk.cycle64, od := d.od, dom := d.dom }
  d.setLink fun l => { l with past := (l.past ++ [now]).drop (l.past.length + 1 - 9) }

/-- The node's own comparison with its expected table (R463). (DEDUCED, log 99, safe.) -/
def Dev.ownSkew (d : Dev) : Dev :=
  let p := d.pastAt d.clk.cycle64
  if d.inSync ∧ 0 < fieldLE (p.bytes Reg.R1220_ACTIVE) 0 2 then
    d.skewJudge (d.node Reg.R1400_NODE_ID) (p.nat Reg.R1220_CONFIG_EPOCH) p.configDigest
  else d

/-- A cycle counted toward the confirmation of a TRIAL image (R484). -/
def Dev.confirmCycle (d : Dev) : Dev :=
  d.when (d.state == DevState.run || (d.state == DevState.safe && d.boot.safeByCmd) || d.state == DevState.standbyReady)
    fun d => d.count Reg.R6020_CONFIRM_CYCLES

/-- What begins with a cycle. (DEDUCED, log 14, unsafe.) -/
def Dev.cycleBegins (d : Dev) : Dev :=
  let d := iterate 2 (fun e d => d.orBits (Reg.R3510_DOORBELL e) 0x8000) d
  let d := { d with chains := mmap {} d.chains fun _ x => { x with lamT0 := x.lambda },
                    geom := { d.geom with kinDone := false, kinOver := false, distOver := false } }
  let d := d.spareState.sampleSett.keepPast.ownSkew
  let d := d.when (d.net == NetState.coldstart && decide (d.link.csSent < d.node Reg.R1400_COLDSTART_CYCLES)) Dev.sendColdstart
  let d := d.when d.active fun d => d.sweep.openGeneration
  d.takeCpi.windowBegin.confirmCycle

/-- SAMPLE_INSTANT (R20): nothing while the module is without power or held in reset.
(DEDUCED, log 14, unsafe; DEDUCED, log 68, safe.) -/
def Dev.sampleInstant (d : Dev) (x : SampleIn) : Dev :=
  if d.dark then d
  else
    let c := d.clk.next
    let d := { d with clk := c, ph := {} }
    let d := (d.stepRates.reactionsDue.applyOutputs).sampleInputs x
    let d := d.when (d.clk.tick == 0) Dev.cycleBegins
    let d := d.countTick (d.clk.tick == 0)
    let d := d.when d.pair.takeover.isNone Dev.tickRelease
    let d := d.heldActions.sendHeartbeat.pairListen.deriveStates
    -- nothing an SI brings about moves the counters again
    { d with clk := { d.clk with tick := c.tick, cycle64 := c.cycle64, raw := c.raw, si := c.si } }

end Sys2Proof.Machine
end

