-- ==== Sys2Proof/Machine/Acts.lean ====
section
/-! DEFINITION. What the commands' meanings share: a module without power or held in reset does nothing (R13, R531), a register is
written only past the start, and an item of which there is none is not acted on. -/

namespace Sys2Proof.Machine

/-- What a command does while the module has power and is out of reset. (DEDUCED, log 9, safe.) -/
def Dev.live (d : Dev) (f : Dev → Dev) : Dev := if d.dark then d else f d

/-- The same, of an item that exists or in a case that applies. -/
def Dev.liveIf (d : Dev) (c : Bool) (f : Dev → Dev) : Dev := if d.dark || !c then d else f d

/-- What a write to a register does: nothing before the start has ended (R475). (DEDUCED, log 9, safe.) -/
def Dev.up (d : Dev) (f : Dev → Dev) : Dev := if d.dark || !decide (DevState.config ≤ d.state) then d else f d

/-- The same, of an item that exists; another has no entry. -/
def Dev.upIf (d : Dev) (c : Bool) (f : Dev → Dev) : Dev := d.up fun d => if c then f d else d.finish Code.OD_NO_ENTRY

/-- A motion command with its parameters (R99, R131). (DESIGN CHOICE, log 19, safe.) -/
def commandOf (p : MoveParams) (code : Nat) : Held :=
  { code, target := p.target, vel := p.vel, acc := p.acc, jerk := p.jerk, seq := p.seq }

/-- A write of a table's COMMIT_CYCLE, ARM_CYCLE or START_CYCLE; of no other entry. -/
def Dev.commitWrite (d : Dev) (r : Requester) (ix sub cycle : Nat) : Dev :=
  match tableOf ix sub with
  | some _ => d.odWrite r ix sub (leBytes 4 cycle)
  | none => d.finish Code.OD_NO_ENTRY

/-- A write of FORCE_RELEASE of zone `z` (R160). -/
def Dev.zoneForce (d : Dev) (r : Requester) (z : Nat) : Dev :=
  if z < 64 then d.odWrite r (0x3140 + z) 0x10 [0] else d.finish Code.OD_NO_ENTRY

end Sys2Proof.Machine
end

