-- ==== Sys2Proof/Machine/ExecBoot.lean ====
section
/-! DEFINITION. Meanings of the commands: device control, the settings store, boot, update, debug and attestation. -/

namespace Sys2Proof.Machine

/-- DEV_CONTROL_RUN (R458): DEV_CONTROL 1 moves the device from SAFE to RUN when its conditions hold. -/
def execDevControlRun (s : State) : Host.Outcome State Fault Refusal :=
  s.answerClk fun d => d.up fun d => d.devControl 1

/-- DEV_CONTROL_SAFE (R458): DEV_CONTROL 2 enters SAFE with every permit 0 and STO on every axis. -/
def execDevControlSafe (s : State) : Host.Outcome State Fault Refusal :=
  s.answerClk fun d => d.up fun d => d.devControl 2

/-- DEV_CONTROL_CONFIG (R458): DEV_CONTROL 3 returns the device to CONFIG and engages the bypass. -/
def execDevControlConfig (s : State) : Host.Outcome State Fault Refusal :=
  s.answerClk fun d => d.up fun d => d.devControl 3

/-- VALIDATE (R458): DEV_CONTROL 4 validates the configuration and moves to SYNCING or stays in CONFIG. -/
def execValidate (s : State) : Host.Outcome State Fault Refusal :=
  s.answerClk fun d => d.up fun d => d.devControl 4

/-- DEV_CONTROL_RESET (R458): DEV_CONTROL 5 resets the module into BOOT. -/
def execDevControlReset (s : State) : Host.Outcome State Fault Refusal :=
  s.answerClk fun d => d.live fun d => d.devControl 5

/-- STORE_GENERATION (R460): Within 1 s of a change the STORED values are written as one settings generation. -/
def execStoreGeneration (ok : Bool) (s : State) : Host.Outcome State Fault Refusal :=
  s.answerDry fun d => d.live fun d => d.storeGeneration ok

/-- STORE_FLUSH (R460): A write of FLUSH starts a settings generation at once. -/
def execStoreFlush (ok : Bool) (s : State) : Host.Outcome State Fault Refusal :=
  s.answerDry fun d => d.up fun d => d.storeFlush ok

/-- RESET_RELEASE (R531): With a feed, RESET_N and REFCLK good, the module leaves reset and its rails come up. -/
def execResetRelease (feeds : Nat) (secs : Nat) (mv : List Nat) (s : State) : Host.Outcome State Fault Refusal :=
  s.answerClk fun d => d.resetRelease feeds secs mv

/-- BOOT_START (R475): The management processor runs the journaled boot steps and enters CONFIG. -/
def execBootStart (fail : Nat) (unit : Nat) (s : State) : Host.Outcome State Fault Refusal :=
  s.answerClk fun d => d.live fun d => d.bootStart fail unit

/-- BOOT_STEP_TIMEOUT (R474): A boot step beyond its limit is reset by the watchdog and left open. -/
def execBootStepTimeout (step : Nat) (s : State) : Host.Outcome State Fault Refusal :=
  s.answerClk fun d => d.live fun d => d.bootStepTimeout step

/-- OPEN (R479): Opens a firmware or application update session and erases the target slot. -/
def execUpdateOpen (req : Requester) (data : Bytes) (s : State) : Host.Outcome State Fault Refusal :=
  s.answer fun d => d.reached req 0x6020 fun d => d.odWrite req 0x6020 1 data

/-- BIND (R481): Writing the session token binds the writing requester. -/
def execBind (req : Requester) (token : Nat) (s : State) : Host.Outcome State Fault Refusal :=
  s.answer fun d => d.reached req 0x6020 fun d => d.odWrite req 0x6020 3 (leBytes 8 token)

/-- IMAGE_STAGED (R481): After the backup copy is written the slot becomes STAGED. -/
def execImageStaged (s : State) : Host.Outcome State Fault Refusal :=
  s.answerDry fun d => d.live fun d => d.imageStaged

/-- ABANDON (R482): Ends the update session. -/
def execUpdateAbandon (req : Requester) (s : State) : Host.Outcome State Fault Refusal :=
  s.answer fun d => d.reached req 0x6020 fun d => d.odWrite req 0x6020 5 [0]

/-- UPDATE_SESSION_TIMEOUT (R482): A receiving session without a block for TIMEOUT_S ends. -/
def execUpdateSessionTimeout (s : State) : Host.Outcome State Fault Refusal :=
  s.answerDry fun d => d.live fun d => d.updateTimeout

/-- ACTIVATE (R483): Activates or withdraws a STAGED slot for the next start. -/
def execActivate (req : Requester) (value : Nat) (s : State) : Host.Outcome State Fault Refusal :=
  s.answerClk fun d => d.reached req 0x6020 fun d => d.odWrite req 0x6020 9 [byte value]

/-- CONFIRM (R485): Confirms TRIAL images after 4,000 proven cycles and raises the thermometers. -/
def execConfirm (req : Requester) (s : State) : Host.Outcome State Fault Refusal :=
  s.answer fun d => d.reached req 0x6020 fun d => d.odWrite req 0x6020 0x0A [0]

/-- LPDDR_RETRY (R497): The next start trains LPDDR5X at 8,533 MT/s again. -/
def execLpddrRetry (s : State) : Host.Outcome State Fault Refusal :=
  s.answerDry fun d => d.up fun d => d.lpddrRetry.finish Code.STATUS_OK

/-- APP_KEY_ENROLL (R490): Enrols an application key digest in OTP and revokes the slot before it. -/
def execAppKeyEnroll (req : Requester) (data : Bytes) (s : State) : Host.Outcome State Fault Refusal :=
  s.answer fun d => d.reached req 0x6040 fun d => d.odWrite req 0x6040 5 data

/-- CHALLENGE (R491): A read returns a new single-use random debug challenge. -/
def execChallenge (s : State) : Host.Outcome State Fault Refusal :=
  s.answerDry fun d => d.up fun d => d.debugChallenge

/-- UNLOCK (R492): A valid signed token opens the debug port for its scope. -/
def execUnlock (token : Bytes) (s : State) : Host.Outcome State Fault Refusal :=
  s.answerDry fun d => d.up fun d => d.debugUnlock token

/-- IDCODE (R492): JTAG instruction that reads the device identity. -/
def execIdcode (s : State) : Host.Outcome State Fault Refusal :=
  s.answerDry fun d => d.when (!d.unpowered) fun d => d.jtag 1

/-- BYPASS (R492): JTAG instruction that selects the bypass register. -/
def execBypass (s : State) : Host.Outcome State Fault Refusal :=
  s.answerDry fun d => d.when (!d.unpowered) fun d => d.jtag 2

/-- SAMPLE_PRELOAD (R492): JTAG instruction that samples or preloads the boundary cells. -/
def execSamplePreload (s : State) : Host.Outcome State Fault Refusal :=
  s.answerDry fun d => d.when (!d.unpowered) fun d => d.jtag 3

/-- ATTEST_REQUEST (R495): A written nonce starts a signed attestation report. -/
def execAttestRequest (nonce : Bytes) (s : State) : Host.Outcome State Fault Refusal :=
  s.answerDry fun d => d.up fun d => d.attestRequest nonce

/-- REPORT_READY (R495): The signed report is ready and ATT_STATE reads 2. -/
def execReportReady (s : State) : Host.Outcome State Fault Refusal :=
  s.answerDry fun d => d.live fun d => d.reportReady

end Sys2Proof.Machine
end

