-- ==== Sys2Proof/Machine/ExecCommit.lean ====
section
/-! DEFINITION. Meanings of the commands: commits of banked tables, cycle-point interrupts, coefficient banks. -/

namespace Sys2Proof.Machine

/-- COMMIT_REQUEST (R35): A write of a table's COMMIT_CYCLE, ARM_CYCLE or START_CYCLE requests a bank switch judged for time and
lateness. -/
def execCommitRequest (req : Requester) (index : Nat) (sub : Nat) (cycle : Nat) (s : State) : Host.Outcome State Fault Refusal :=
  s.answer fun d => d.reached req index fun d => d.commitWrite req index sub cycle

/-- COMMIT_CUTOFF (R35): At +28.0 µs of T7 before the commit cycle the staged images are validated and the inactive bank is
locked. -/
def execCommitCutoff (s : State) : Host.Outcome State Fault Refusal :=
  s.answerCell fun d => d.live fun d => d.commitCutoff

/-- BANK_SWITCH (R35): At the SI of T0 of the commit cycle the pending table switches banks. -/
def execBankSwitch (index : Nat) (sub : Nat) (s : State) : Host.Outcome State Fault Refusal :=
  s.answerCell fun d => d.live fun d => d.bankSwitch index sub

/-- HELD_COMMIT_JUDGED (R39): A commit held while not IN_SYNC is judged as passed at the first SI of T0 after resynchronisation. -/
def execHeldCommitJudged (s : State) : Host.Outcome State Fault Refusal :=
  s.answerCell fun d => d.live fun d => d.heldJudged

/-- CPI_FIRE (R40): A cycle-point interrupt entry raises its PLIC source when network time reaches its instant. -/
def execCpiFire (e : Nat) (s : State) : Host.Outcome State Fault Refusal :=
  s.answerDry fun d => d.live fun d => d.cpiFire e

/-- COPY_ACTIVE (R88): A write of the mask copies the active coefficient images into the inactive ones. -/
def execCopyActive (n : Nat) (mask : Nat) (s : State) : Host.Outcome State Fault Refusal :=
  s.answerCell fun d => d.upIf (n < 128) fun d => d.copyWrite n mask

end Sys2Proof.Machine
end

