-- ==== Sys2Proof/Machine/ExecEngine.lean ====
section
/-! DEFINITION. Meanings of the commands: control of the analysis engines. -/

namespace Sys2Proof.Machine

/-- ENGINE_MODE (R222): A write of MODE switches an analysis engine between vendor and integrator mode. -/
def execEngineMode (e : Nat) (mode : Nat) (s : State) : Host.Outcome State Fault Refusal :=
  s.answerCell fun d => d.up fun d => d.engineMode e mode

/-- LIBRARY_RELOAD (R222): The reloaded vendor library is checked against LIB_DIGEST and the engine takes work. -/
def execLibraryReload (e : Nat) (s : State) : Host.Outcome State Fault Refusal :=
  s.answerCell fun d => d.live fun d => d.libraryReload e

/-- ENGINE_START (R244): CONTROL 1 clears the registers, computes PROG_DIGEST and starts the engine at START_PC. -/
def execEngineStart (e : Nat) (s : State) : Host.Outcome State Fault Refusal :=
  s.answerCell fun d => d.up fun d => d.engineStart e

/-- ENGINE_STOP (R244): CONTROL 2 stops a running or waiting engine after the current instruction. -/
def execEngineStop (e : Nat) (s : State) : Host.Outcome State Fault Refusal :=
  s.answerCell fun d => d.up fun d => d.engineStop e

/-- ENGINE_RESET (R244): CONTROL 3 clears registers and stacks and leaves the engine STOPPED. -/
def execEngineReset (e : Nat) (s : State) : Host.Outcome State Fault Refusal :=
  s.answerCell fun d => d.up fun d => d.engineReset e

/-- AE_WATCHDOG (R243): Run time since START beyond WD_US stops the engine in FAULTED. -/
def execAeWatchdog (e : Nat) (s : State) : Host.Outcome State Fault Refusal :=
  s.answerCell fun d => d.liveIf (e < 2) fun d => d.aeWatchdog e

/-- WAIT_WAKE (R241): A doorbell bit matching the WAIT mask resumes the engine and writes WOKE. -/
def execWaitWake (e : Nat) (s : State) : Host.Outcome State Fault Refusal :=
  s.answerCell fun d => d.liveIf (e < 2) fun d => d.waitWake e

/-- DOORBELL (R245): A write ORs bits into the engine's DOORBELL. -/
def execDoorbell (e : Nat) (bits : Nat) (s : State) : Host.Outcome State Fault Refusal :=
  s.answerCell fun d => d.up fun d => d.doorbell e bits

/-- SIGNAL_CLEAR (R245): Writing 1s to SIGNAL clears those bits and the pending PLIC source. -/
def execSignalClear (e : Nat) (bits : Nat) (s : State) : Host.Outcome State Fault Refusal :=
  s.answerCell fun d => d.up fun d => d.signalClear e bits

end Sys2Proof.Machine
end

