-- ==== Sys2Proof/Machine/ExecEngineIsa.lean ====
section
/-! DEFINITION. Meanings of the commands: the analysis engines' instructions. -/

namespace Sys2Proof.Machine

/-- NOP (R238): Analysis engine instruction that does nothing. -/
def execAeNop (e : Nat) (s : State) : Host.Outcome State Fault Refusal :=
  s.answerCell fun d => d.liveIf (e < 2) fun d => d.aeNop e

/-- LD (R238): Loads a data register from a memory operand. -/
def execAeLd (e : Nat) (s : State) : Host.Outcome State Fault Refusal :=
  s.answerCell fun d => d.liveIf (e < 2) fun d => d.aeLd e

/-- ST (R238): Stores a data register to a memory operand. -/
def execAeSt (e : Nat) (s : State) : Host.Outcome State Fault Refusal :=
  s.answerCell fun d => d.liveIf (e < 2) fun d => d.aeSt e

/-- LDXY (R238): Loads two registers from X and Y in one cycle. -/
def execAeLdxy (e : Nat) (s : State) : Host.Outcome State Fault Refusal :=
  s.answerCell fun d => d.liveIf (e < 2) fun d => d.aeLdxy e

/-- FTAP (R236): Accumulates one filter tap and shifts the delay line. -/
def execAeFtap (e : Nat) (s : State) : Host.Outcome State Fault Refusal :=
  s.answerCell fun d => d.liveIf (e < 2) fun d => d.aeFtap e

/-- LDI (R238): Loads an immediate into a data register. -/
def execAeLdi (e : Nat) (s : State) : Host.Outcome State Fault Refusal :=
  s.answerCell fun d => d.liveIf (e < 2) fun d => d.aeLdi e

/-- MOV (R238): Copies one data register to another. -/
def execAeMov (e : Nat) (s : State) : Host.Outcome State Fault Refusal :=
  s.answerCell fun d => d.liveIf (e < 2) fun d => d.aeMov e

/-- MVA (R231): Narrows an accumulator into a data register. -/
def execAeMva (e : Nat) (s : State) : Host.Outcome State Fault Refusal :=
  s.answerCell fun d => d.liveIf (e < 2) fun d => d.aeMva e

/-- MVDA (R231): Widens a data register into an accumulator. -/
def execAeMvda (e : Nat) (s : State) : Host.Outcome State Fault Refusal :=
  s.answerCell fun d => d.liveIf (e < 2) fun d => d.aeMvda e

/-- AREG (R238): Sets a pointer, modifier, length or base register from an immediate. -/
def execAeAreg (e : Nat) (s : State) : Host.Outcome State Fault Refusal :=
  s.answerCell fun d => d.liveIf (e < 2) fun d => d.aeAreg e

/-- MVTA (R238): Writes a special register from a data register. -/
def execAeMvta (e : Nat) (s : State) : Host.Outcome State Fault Refusal :=
  s.answerCell fun d => d.liveIf (e < 2) fun d => d.aeMvta e

/-- MVFA (R238): Reads a special register into a data register. -/
def execAeMvfa (e : Nat) (s : State) : Host.Outcome State Fault Refusal :=
  s.answerCell fun d => d.liveIf (e < 2) fun d => d.aeMvfa e

/-- CONJ (R238): Negates the imaginary parts of complex lanes. -/
def execAeConj (e : Nat) (s : State) : Host.Outcome State Fault Refusal :=
  s.answerCell fun d => d.liveIf (e < 2) fun d => d.aeConj e

/-- XCH (R238): Multiplies complex lanes by −j. -/
def execAeXch (e : Nat) (s : State) : Host.Outcome State Fault Refusal :=
  s.answerCell fun d => d.liveIf (e < 2) fun d => d.aeXch e

/-- ADD (R238): Adds two registers per lane. -/
def execAeAdd (e : Nat) (s : State) : Host.Outcome State Fault Refusal :=
  s.answerCell fun d => d.liveIf (e < 2) fun d => d.aeAdd e

/-- SUB (R238): Subtracts two registers per lane. -/
def execAeSub (e : Nat) (s : State) : Host.Outcome State Fault Refusal :=
  s.answerCell fun d => d.liveIf (e < 2) fun d => d.aeSub e

/-- NEG (R238): Negates a register per lane. -/
def execAeNeg (e : Nat) (s : State) : Host.Outcome State Fault Refusal :=
  s.answerCell fun d => d.liveIf (e < 2) fun d => d.aeNeg e

/-- ABS (R238): Takes the absolute value per lane. -/
def execAeAbs (e : Nat) (s : State) : Host.Outcome State Fault Refusal :=
  s.answerCell fun d => d.liveIf (e < 2) fun d => d.aeAbs e

/-- MAX (R238): Takes the signed maximum per lane. -/
def execAeMax (e : Nat) (s : State) : Host.Outcome State Fault Refusal :=
  s.answerCell fun d => d.liveIf (e < 2) fun d => d.aeMax e

/-- MIN (R238): Takes the signed minimum per lane. -/
def execAeMin (e : Nat) (s : State) : Host.Outcome State Fault Refusal :=
  s.answerCell fun d => d.liveIf (e < 2) fun d => d.aeMin e

/-- AND (R238): Bitwise AND of two registers. -/
def execAeAnd (e : Nat) (s : State) : Host.Outcome State Fault Refusal :=
  s.answerCell fun d => d.liveIf (e < 2) fun d => d.aeAnd e

/-- OR (R238): Bitwise OR of two registers. -/
def execAeOr (e : Nat) (s : State) : Host.Outcome State Fault Refusal :=
  s.answerCell fun d => d.liveIf (e < 2) fun d => d.aeOr e

/-- XOR (R238): Bitwise XOR of two registers. -/
def execAeXor (e : Nat) (s : State) : Host.Outcome State Fault Refusal :=
  s.answerCell fun d => d.liveIf (e < 2) fun d => d.aeXor e

/-- SHL (R238): Left shift per lane with saturation. -/
def execAeShl (e : Nat) (s : State) : Host.Outcome State Fault Refusal :=
  s.answerCell fun d => d.liveIf (e < 2) fun d => d.aeShl e

/-- SHR (R238): Logical right shift per lane. -/
def execAeShr (e : Nat) (s : State) : Host.Outcome State Fault Refusal :=
  s.answerCell fun d => d.liveIf (e < 2) fun d => d.aeShr e

/-- SRA (R230): Arithmetic right shift per lane, optionally rounded. -/
def execAeSra (e : Nat) (s : State) : Host.Outcome State Fault Refusal :=
  s.answerCell fun d => d.liveIf (e < 2) fun d => d.aeSra e

/-- CMP (R237): Sets a predicate from a lane comparison. -/
def execAeCmp (e : Nat) (s : State) : Host.Outcome State Fault Refusal :=
  s.answerCell fun d => d.liveIf (e < 2) fun d => d.aeCmp e

/-- BEXP (R233): Lowers EXP to the smallest count of redundant sign bits. -/
def execAeBexp (e : Nat) (s : State) : Host.Outcome State Fault Refusal :=
  s.answerCell fun d => d.liveIf (e < 2) fun d => d.aeBexp e

/-- ADDSUB (R238): Writes the sum and difference of two registers, optionally halved. -/
def execAeAddsub (e : Nat) (s : State) : Host.Outcome State Fault Refusal :=
  s.answerCell fun d => d.liveIf (e < 2) fun d => d.aeAddsub e

/-- PLOG (R237): Sets a predicate from logic of two predicates. -/
def execAePlog (e : Nat) (s : State) : Host.Outcome State Fault Refusal :=
  s.answerCell fun d => d.liveIf (e < 2) fun d => d.aePlog e

/-- MPY (R238): Writes a Q1.31 product into an accumulator. -/
def execAeMpy (e : Nat) (s : State) : Host.Outcome State Fault Refusal :=
  s.answerCell fun d => d.liveIf (e < 2) fun d => d.aeMpy e

/-- MAC (R238): Adds a Q1.31 product to an accumulator. -/
def execAeMac (e : Nat) (s : State) : Host.Outcome State Fault Refusal :=
  s.answerCell fun d => d.liveIf (e < 2) fun d => d.aeMac e

/-- MSU (R238): Subtracts a Q1.31 product from an accumulator. -/
def execAeMsu (e : Nat) (s : State) : Host.Outcome State Fault Refusal :=
  s.answerCell fun d => d.liveIf (e < 2) fun d => d.aeMsu e

/-- CMPY32 (R238): Writes a complex 32-bit product into an accumulator pair. -/
def execAeCmpy32 (e : Nat) (s : State) : Host.Outcome State Fault Refusal :=
  s.answerCell fun d => d.liveIf (e < 2) fun d => d.aeCmpy32 e

/-- CMAC32 (R238): Accumulates a complex 32-bit product. -/
def execAeCmac32 (e : Nat) (s : State) : Host.Outcome State Fault Refusal :=
  s.answerCell fun d => d.liveIf (e < 2) fun d => d.aeCmac32 e

/-- CMPY16 (R238): Writes four complex 16-bit products into accumulator halves. -/
def execAeCmpy16 (e : Nat) (s : State) : Host.Outcome State Fault Refusal :=
  s.answerCell fun d => d.liveIf (e < 2) fun d => d.aeCmpy16 e

/-- CMAC16 (R238): Accumulates four complex 16-bit products. -/
def execAeCmac16 (e : Nat) (s : State) : Host.Outcome State Fault Refusal :=
  s.answerCell fun d => d.liveIf (e < 2) fun d => d.aeCmac16 e

/-- CMUL32 (R232): Writes a narrowed complex 32-bit product to a data register. -/
def execAeCmul32 (e : Nat) (s : State) : Host.Outcome State Fault Refusal :=
  s.answerCell fun d => d.liveIf (e < 2) fun d => d.aeCmul32 e

/-- CMUL16 (R232): Writes four narrowed complex 16-bit products to a register pair. -/
def execAeCmul16 (e : Nat) (s : State) : Host.Outcome State Fault Refusal :=
  s.answerCell fun d => d.liveIf (e < 2) fun d => d.aeCmul16 e

/-- ACLR (R238): Clears the named accumulators. -/
def execAeAclr (e : Nat) (s : State) : Host.Outcome State Fault Refusal :=
  s.answerCell fun d => d.liveIf (e < 2) fun d => d.aeAclr e

/-- ASH (R238): Shifts an accumulator left with saturation or right with narrowing. -/
def execAeAsh (e : Nat) (s : State) : Host.Outcome State Fault Refusal :=
  s.answerCell fun d => d.liveIf (e < 2) fun d => d.aeAsh e

/-- BR (R238): Branches to a target, leaving loops it jumps out of. -/
def execAeBr (e : Nat) (s : State) : Host.Outcome State Fault Refusal :=
  s.answerCell fun d => d.liveIf (e < 2) fun d => d.aeBr e

/-- CALL (R238): Pushes the return address and branches. -/
def execAeCall (e : Nat) (s : State) : Host.Outcome State Fault Refusal :=
  s.answerCell fun d => d.liveIf (e < 2) fun d => d.aeCall e

/-- RET (R238): Returns to the popped address. -/
def execAeRet (e : Nat) (s : State) : Host.Outcome State Fault Refusal :=
  s.answerCell fun d => d.liveIf (e < 2) fun d => d.aeRet e

/-- LOOP (R240): Runs the following instructions up to the end address a counted number of times. -/
def execAeLoop (e : Nat) (s : State) : Host.Outcome State Fault Refusal :=
  s.answerCell fun d => d.liveIf (e < 2) fun d => d.aeLoop e

/-- HALT (R238): Stops the engine in HALTED with HALT_CODE and sets SIGNAL bit 15. -/
def execAeHalt (e : Nat) (s : State) : Host.Outcome State Fault Refusal :=
  s.answerCell fun d => d.liveIf (e < 2) fun d => d.aeHalt e

/-- SIG (R238): ORs an immediate into SIGNAL. -/
def execAeSig (e : Nat) (s : State) : Host.Outcome State Fault Refusal :=
  s.answerCell fun d => d.liveIf (e < 2) fun d => d.aeSig e

/-- WAIT (R241): Stalls the engine until a masked doorbell bit is set. -/
def execAeWait (e : Nat) (s : State) : Host.Outcome State Fault Refusal :=
  s.answerCell fun d => d.liveIf (e < 2) fun d => d.aeWait e

end Sys2Proof.Machine
end

