-- ==== Sys2Proof/Machine/ExecHealth.lean ====
section
/-! DEFINITION. Meanings of the commands: counters, errors, spares. -/

namespace Sys2Proof.Machine

/-- HART_COUNTER_OVERFLOW (R503): A wrapping hart counter sets OF and takes the overflow interrupt within 8 instructions. -/
def execHartCounterOverflow (h : Nat) (i : Nat) (r : HartRegs) (m : HartCsr) (s : State) : Host.Outcome State Fault Refusal :=
  s.answerDry fun d => d.liveIf (decide (h < 48) && d.issuing h) fun d => d.hartOverflow h i (r.under m)

/-- COUNTER_OVERFLOW (R504): A wrapping block counter sets OVF and makes PLIC source 176 pending. -/
def execCounterOverflow (b : Nat) (i : Nat) (s : State) : Host.Outcome State Fault Refusal :=
  s.answerCell fun d => d.live fun d => d.counterOverflow b i

/-- COUNTER_SNAPSHOT (R505): A write of SNAPSHOT requests a latch of all counters at the next SI. -/
def execCounterSnapshot (s : State) : Host.Outcome State Fault Refusal :=
  s.answerDry fun d => d.up fun d => d.counterSnapshot

/-- SNAPSHOT_LATCH (R505): At the SI after the request all counters, Sett values and bandwidths are latched together. -/
def execSnapshotLatch (s : State) : Host.Outcome State Fault Refusal :=
  s.answerDry fun d => d.live fun d => d.snapshotLatch

/-- FREEZE (R506): A write of FREEZE requests stopping or restarting the counters. -/
def execFreeze (on : Bool) (s : State) : Host.Outcome State Fault Refusal :=
  s.answerDry fun d => d.up fun d => d.freezeWrite on

/-- FREEZE_APPLY (R506): At the SI after the write the counters stop or restart. -/
def execFreezeApply (s : State) : Host.Outcome State Fault Refusal :=
  s.answerDry fun d => d.live fun d => d.freezeApply

/-- WINDOW_NS (R507): A write of WINDOW_NS discards the bandwidth window in progress. -/
def execWindowNs (ns : Nat) (s : State) : Host.Outcome State Fault Refusal :=
  s.answerDry fun d => d.up fun d => d.windowWrite ns

/-- BANDWIDTH_WINDOW_END (R507): At the end of each window the byte totals and peaks of every port are updated. -/
def execBandwidthWindowEnd (bytes : List (Nat × Nat)) (s : State) : Host.Outcome State Fault Refusal :=
  s.answerDry fun d => d.live fun d => d.windowEnd bytes

/-- CORRECTED_ERROR (R509): A corrected word delivers corrected data and is counted and logged. -/
def execCorrectedError (kind : Nat) (n : Nat) (addr : Nat) (sym : Nat) (pat : Nat)
    (s : State) : Host.Outcome State Fault Refusal :=
  s.answerDry fun d => d.live fun d => d.correctedError kind n addr sym pat

/-- UNCORRECTABLE_ERROR (R509): An uncorrectable word returns an error response and stays poisoned. -/
def execUncorrectableError (kind : Nat) (n : Nat) (addr : Nat) (who : Nat) (e : Nat) (c : HartContext)
    (s : State) : Host.Outcome State Fault Refusal :=
  s.answer fun d => d.live fun d => d.uncorrectable kind n addr who e c

/-- SCRUB_READ (R510): The patrol scrubber reads a word and writes back a correction if unchanged. -/
def execScrubRead (kind : Nat) (n : Nat) (addr : Nat) (err : Nat) (pat : Nat) (raced : Bool)
    (s : State) : Host.Outcome State Fault Refusal :=
  s.answerDry fun d => d.live fun d => d.scrubRead kind n addr err pat raced

/-- SENSOR_READING (R511): Once per second the management processor reads every wear and margin sensor. -/
def execSensorReading (sensor : Nat) (n : Nat) (v : Int) (s : State) : Host.Outcome State Fault Refusal :=
  s.answerDry fun d => d.live fun d => d.sensorReading sensor n v

/-- SPARE_POLICY_EVALUATION (R513): Once per second the policy retires units at retirement readings into usable spares. -/
def execSparePolicyEvaluation (s : State) : Host.Outcome State Fault Refusal :=
  s.answerDry fun d => d.live fun d => d.sparePolicy

/-- RETIRE (R513): A write names a unit or page for retirement at the next evaluation. -/
def execRetire (value : Nat) (s : State) : Host.Outcome State Fault Refusal :=
  s.answerDry fun d => d.up fun d => d.retireWrite value

/-- PAGE_RETIRED (R514): At the SI of T0 after the copy, a page or bank is redirected to its spare. -/
def execPageRetired (kind : Nat) (n : Nat) (s : State) : Host.Outcome State Fault Refusal :=
  s.answer fun d => d.live fun d => d.pageRetired kind n

/-- UNIT_RETIRED (R515): A spare unit or lane takes over at its switch and the retirement is recorded. -/
def execUnitRetired (kind : Nat) (n : Nat) (s : State) : Host.Outcome State Fault Refusal :=
  s.answer fun d => d.live fun d => d.unitRetired kind n

end Sys2Proof.Machine
end

