-- ==== Sys2Proof/Machine/ExecIdent.lean ====
section
/-! DEFINITION. Meanings of the commands: injection, capture, jobs and trackers. -/

namespace Sys2Proof.Machine

/-- INJECTION_START (R197): At the SI of T0 of the named cycle an injection generator starts if the axis is in TEST and its
parameters pass. -/
def execInjectionStart (g : Nat) (s : State) : Host.Outcome State Fault Refusal :=
  s.answerCell fun d => d.liveIf (g < 16) fun d => d.injectionStart g

/-- INJECTION_STOP (R198): A write of STOP ends the generator from the next evaluation, in ABORTED. -/
def execInjectionStop (g : Nat) (s : State) : Host.Outcome State Fault Refusal :=
  s.answerCell fun d => d.up fun d => d.injectionStop g

/-- INJECTION_DONE (R198): After its last repeat the generator ends in DONE. -/
def execInjectionDone (g : Nat) (s : State) : Host.Outcome State Fault Refusal :=
  s.answerCell fun d => d.liveIf (g < 16) fun d => d.injectionDone g

/-- CAPTURE_ARM (R203): At the SI of T0 of the armed cycle a capture set switches to staged settings and starts recording. -/
def execCaptureArm (g : Nat) (s : State) : Host.Outcome State Fault Refusal :=
  s.answerCell fun d => d.liveIf (g < 16) fun d => d.captureArm g

/-- CAPTURE_ROW (R201): At +24.0 µs of each selected tick a capture set writes one stamped row. -/
def execCaptureRow (g : Nat) (s : State) : Host.Outcome State Fault Refusal :=
  s.answer fun d => d.liveIf (g < 16) fun d => d.captureRow g

/-- CAPTURE_COMPLETE (R203): In SINGLE mode the set stops after POST_ROWS rows after the trigger. -/
def execCaptureComplete (g : Nat) (s : State) : Host.Outcome State Fault Refusal :=
  s.answerCell fun d => d.liveIf (g < 16) fun d => d.captureComplete g

/-- CAPTURE_STOP (R203): A write of STOP stops the capture set before the next row. -/
def execCaptureStop (g : Nat) (s : State) : Host.Outcome State Fault Refusal :=
  s.answerCell fun d => d.up fun d => d.captureStop g

/-- LENGTH_WRITE (R204): A write of LENGTH reserves a new buffer and holds the new length pending. -/
def execLengthWrite (g : Nat) (len : Nat) (s : State) : Host.Outcome State Fault Refusal :=
  s.answerCell fun d => d.up fun d => d.lengthWrite g len

/-- JOB_RUN (R206): Writing RUN queues an analysis job. -/
def execJobRun (j : Nat) (s : State) : Host.Outcome State Fault Refusal :=
  s.answerCell fun d => d.up fun d => d.jobRun j

/-- JOB_START (R206): A queued job starts on an idle vendor-mode engine when it reaches the head of the queue. -/
def execJobStart (j : Nat) (e : Nat) (s : State) : Host.Outcome State Fault Refusal :=
  s.answerCell fun d => d.liveIf (j < 8 ∧ e < 2) fun d => d.jobStart j e

/-- JOB_COMPLETE (R210): A finished job writes its result and places its proposal in the inactive image. -/
def execJobComplete (j : Nat) (s : State) : Host.Outcome State Fault Refusal :=
  s.answerCell fun d => d.liveIf (j < 8) fun d => d.jobComplete j

/-- TRACKER_ENABLE (R211): Writing EN starts or stops a notch tracker after its section and band are checked. -/
def execTrackerEnable (t : Nat) (en : Bool) (s : State) : Host.Outcome State Fault Refusal :=
  s.answerCell fun d => d.up fun d => d.trackerEnable t en

/-- TRACKER_STEP (R212): Each cycle the tracker estimates the in-band error frequency or holds. -/
def execTrackerStep (t : Nat) (s : State) : Host.Outcome State Fault Refusal :=
  s.answerCell fun d => d.liveIf (t < 32) fun d => d.trackerStep t

/-- TRACKER_UPDATE (R214): At +24.0 µs of T6 a tracker redesigns its notch and requests a commit for cycle C + 2. -/
def execTrackerUpdate (t : Nat) (s : State) : Host.Outcome State Fault Refusal :=
  s.answerCell fun d => d.liveIf (t < 32) fun d => d.trackerUpdate t

end Sys2Proof.Machine
end

