-- ==== Sys2Proof/Machine/ExecMotion.lean ====
section
/-! DEFINITION. Meanings of the commands: motion commands, the axis state machine, chains, inputs. -/

namespace Sys2Proof.Machine

/-- MOVE_ABS (R104): Plans a jerk-limited move from the present state to an absolute target. -/
def execMoveAbs (n : Nat) (p : MoveParams) (s : State) : Host.Outcome State Fault Refusal :=
  s.answerCell fun d => d.liveIf (n < 128) fun d => d.takeAt n (commandOf p 1)

/-- MOVE_REL (R99): Plans a move to the base target plus the given distance. -/
def execMoveRel (n : Nat) (p : MoveParams) (s : State) : Host.Outcome State Fault Refusal :=
  s.answerCell fun d => d.liveIf (n < 128) fun d => d.takeAt n (commandOf p 2)

/-- VELOCITY (R102): Changes the commanded velocity to a signed target and holds it. -/
def execVelocity (n : Nat) (p : MoveParams) (s : State) : Host.Outcome State Fault Refusal :=
  s.answerCell fun d => d.liveIf (n < 128) fun d => d.takeAt n (commandOf p 3)

/-- HOLD (R99): Stops the axis with A_MAX and J_MAX. -/
def execHold (n : Nat) (s : State) : Host.Outcome State Fault Refusal :=
  s.answerCell fun d => d.liveIf (n < 128) fun d => d.takeAt n (d.params n 4)

/-- STOP (R102): Stops the axis with the command's ACC and JERK. -/
def execStop (n : Nat) (p : MoveParams) (s : State) : Host.Outcome State Fault Refusal :=
  s.answerCell fun d => d.liveIf (n < 128) fun d => d.takeAt n (commandOf p 5)

/-- QUICK_STOP (R106): Stops the axis on the emergency ramp. -/
def execQuickStop (n : Nat) (s : State) : Host.Outcome State Fault Refusal :=
  s.answerCell fun d => d.liveIf (n < 128) fun d => d.takeAt n (d.params n 6)

/-- HOME (R119): Starts the homing sequence of the configured method. -/
def execHome (n : Nat) (s : State) : Host.Outcome State Fault Refusal :=
  s.answerCell fun d => d.liveIf (n < 128) fun d => d.takeAt n (d.params n 7)

/-- GEAR (R115): Starts electronic gearing of the axis to its source with ratio and engagement ramp. -/
def execGear (n : Nat) (s : State) : Host.Outcome State Fault Refusal :=
  s.answerCell fun d => d.liveIf (n < 128) fun d => d.takeAt n (d.params n 8)

/-- FOLLOW (R116): Starts tracking the source value through the tracking limiter. -/
def execFollow (n : Nat) (s : State) : Host.Outcome State Fault Refusal :=
  s.answerCell fun d => d.liveIf (n < 128) fun d => d.takeAt n (d.params n 9)

/-- SWITCH_ON (R96): The SWITCH_ON level moves an axis between DISABLED and READY. -/
def execSwitchOn (n : Nat) (b : Bool) (s : State) : Host.Outcome State Fault Refusal :=
  s.answerCell fun d => d.liveIf (n < 128) fun d => (d.setControlBit n 0 b).switchLevel n

/-- ENABLE (R96): The ENABLE level closes the loops from READY, or its clearing stops the axis to READY. -/
def execEnable (n : Nat) (b : Bool) (s : State) : Host.Outcome State Fault Refusal :=
  s.answerCell fun d => d.liveIf (n < 128) fun d => (d.setControlBit n 1 b).enableLevel n

/-- FAULT_ACK (R97): Acknowledges a FAULT axis to ENABLED or READY when no fault condition remains. -/
def execFaultAck (n : Nat) (s : State) : Host.Outcome State Fault Refusal :=
  s.answerCell fun d => d.liveIf (n < 128) fun d => d.faultAck n

/-- TEST_REQ (R96): Moves an ENABLED axis with safely-limited speed into TEST, or ends TEST when cleared. -/
def execTestReq (n : Nat) (b : Bool) (s : State) : Host.Outcome State Fault Refusal :=
  s.answerCell fun d => d.liveIf (n < 128) fun d => (d.setControlBit n 3 b).testLevel n

/-- PLAN_END (R95): At the first run at or after a plan's end the target is emitted with v = a = 0 and the axis returns to
ENABLED. -/
def execPlanEnd (n : Nat) (s : State) : Host.Outcome State Fault Refusal :=
  s.answerCell fun d => d.liveIf (n < 128) fun d => d.planEnd n

/-- STANDSTILL (R96): A stop reaching standstill moves the axis from STOPPING to ENABLED, READY or FAULT. -/
def execStandstill (n : Nat) (s : State) : Host.Outcome State Fault Refusal :=
  s.answerCell fun d => d.liveIf (n < 128) fun d => d.standstill n

/-- LIMITS_WRITE (R101): A write to the limits or emergency ramp takes effect at the next latch and replans the plan in progress. -/
def execLimitsWrite (n : Nat) (obj : Nat) (sub : Nat) (value : Int) (s : State) : Host.Outcome State Fault Refusal :=
  s.answerCell fun d => d.upIf (n < 128) fun d => d.limitsWrite n obj sub value

/-- SOURCE_LOST (R118): A measured or remote source aged beyond AGE_LIMIT carries out the FOLLOW_ERROR reaction. -/
def execSourceLost (n : Nat) (s : State) : Host.Outcome State Fault Refusal :=
  s.answerCell fun d => d.liveIf (n < 128) fun d => d.sourceLost n

/-- APPEND (R108): Appends one segment record to a chain's queue. -/
def execAppend (c : Nat) (record : Bytes) (s : State) : Host.Outcome State Fault Refusal :=
  s.answerCell fun d => d.upIf (c < 16) fun d => d.append c record

/-- SEGMENT_COMPLETE (R108): A segment reaches its end, or its blend start, and the next record starts. -/
def execSegmentComplete (c : Nat) (s : State) : Host.Outcome State Fault Refusal :=
  s.answerCell fun d => d.liveIf (c < 16) fun d => d.segmentComplete c

/-- RUN (R113): Chain control RUN executes the queue and lets λ rise. -/
def execRun (c : Nat) (s : State) : Host.Outcome State Fault Refusal :=
  s.answerCell fun d => d.liveIf (c < 16) fun d => d.chainRun c

/-- PAUSE (R113): Chain control PAUSE drives λ to 0 and keeps the queue. -/
def execPause (c : Nat) (s : State) : Host.Outcome State Fault Refusal :=
  s.answerCell fun d => d.liveIf (c < 16) fun d => d.chainPause c

/-- FLUSH (R113): Chain control FLUSH discards records not yet started and lets the current segment finish. -/
def execFlush (c : Nat) (s : State) : Host.Outcome State Fault Refusal :=
  s.answerCell fun d => d.liveIf (c < 16) fun d => d.chainFlush c

/-- ABORT (R113): Chain control ABORT drives λ to 0 and then discards every record. -/
def execAbort (c : Nat) (s : State) : Host.Outcome State Fault Refusal :=
  s.answerCell fun d => d.liveIf (c < 16) fun d => d.chainAbort c

/-- ABORT_COMPLETE (R113): Once λ reaches 0 under ABORT, the records are discarded and CONTROL reads PAUSE. -/
def execAbortComplete (c : Nat) (s : State) : Host.Outcome State Fault Refusal :=
  s.answerCell fun d => d.liveIf (c < 16) fun d => d.abortComplete c

/-- RAW_TRANSITION (R122): A raw transition on a local input is timestamped and counted. -/
def execRawTransition (input : Nat) (level : Bool) (raw : Nat) (s : State) : Host.Outcome State Fault Refusal :=
  s.answerCell fun d => d.live fun d => d.rawInput input level raw

/-- QUALIFIED_EDGE (R122): An edge qualifies after DEBOUNCE_US consecutive differing samples and reports its times and positions. -/
def execQualifiedEdge (n : Nat) (role : Nat) (level : Bool) (raw : Nat) (s : State) : Host.Outcome State Fault Refusal :=
  s.answerCell fun d => d.liveIf (n < 128 ∧ role < 3) fun d => d.qualifiedInput n role level raw

/-- INDEX_PULSE (R119): An index pulse in homing state INDEX latches the reference and completes homing. -/
def execIndexPulse (n : Nat) (raw : Nat) (s : State) : Host.Outcome State Fault Refusal :=
  s.answerCell fun d => d.liveIf (n < 128) fun d => d.indexPulse n raw

/-- HARD_STOP_DETECTED (R119): A VEL output at or above HS_TORQUE for HS_TICKS sets the reference and starts the back-off. -/
def execHardStopDetected (n : Nat) (s : State) : Host.Outcome State Fault Refusal :=
  s.answerCell fun d => d.liveIf (n < 128) fun d => d.hardStop n

/-- STUCK_ACTIVE (R125): A qualified level active longer than MAX_ACTIVE_MS raises STUCK_ACTIVE. -/
def execStuckActive (n : Nat) (role : Nat) (s : State) : Host.Outcome State Fault Refusal :=
  s.answerCell fun d => d.liveIf (n < 128 ∧ role < 3) fun d => d.stuckActive n role

/-- LATCH_ARM (R134): Arms the general latch for the next rising or falling edge of the named input. -/
def execLatchArm (n : Nat) (edge : Nat) (s : State) : Host.Outcome State Fault Refusal :=
  s.answerCell fun d => d.upIf (n < 128) fun d => d.latchArm n edge

/-- LATCH_RESULT (R123): The interpolated latch position becomes available at +12.0 µs of the tick that brings the later sample. -/
def execLatchResult (n : Nat) (s : State) : Host.Outcome State Fault Refusal :=
  s.answerCell fun d => d.liveIf (n < 128) fun d => d.latchResult n

end Sys2Proof.Machine
end

