-- ==== Sys2Proof/Machine/ExecNetwork.lean ====
section
/-! DEFINITION. Meanings of the commands: frames and network states of TurriLink. -/

namespace Sys2Proof.Machine

/-- SYNC_FRAME (R323): A received SYNC frame of subtype 0 yields a clock deviation or drives integration. -/
def execSyncFrame (f : FrameIn) (s : State) : Host.Outcome State Fault Refusal :=
  s.answerClk fun d => d.liveIf (f.port < 4) fun d => d.syncFrame f

/-- SYNC_CORRECTION (R323): At +28.0 µs of T0 the node forms its fault-tolerant offset correction and sets its rates. -/
def execSyncCorrection (s : State) : Host.Outcome State Fault Refusal :=
  s.answerDry fun d => d.live fun d => d.syncCorrection

/-- COLDSTART_FRAME (R319): A received COLDSTART frame is adopted, ignored or answered by precedence. -/
def execColdstartFrame (f : FrameIn) (s : State) : Host.Outcome State Fault Refusal :=
  s.answerClk fun d => d.liveIf (f.port < 4) fun d => d.coldstartFrame f

/-- LISTEN_TIMEOUT (R318): A cold-start node that heard nothing for its listen time enters COLDSTART. -/
def execListenTimeout (s : State) : Host.Outcome State Fault Refusal :=
  s.answerClk fun d => d.live fun d => d.listenTimeout

/-- COLDSTART_LEAD (R319): After COLDSTART_CYCLES frames the cold-start node becomes IN_SYNC as leader. -/
def execColdstartLead (s : State) : Host.Outcome State Fault Refusal :=
  s.answerClk fun d => d.live fun d => d.coldstartLead

/-- INTEGRATION_COMPLETE (R319): INTEG_CYCLES consecutive in-precision frames make the node IN_SYNC. -/
def execIntegrationComplete (s : State) : Host.Outcome State Fault Refusal :=
  s.answerClk fun d => d.live fun d => d.integrationComplete

/-- INTEGRATION_TIMEOUT (R319): No adoptable frame for 4 cycles returns an integrating node to LISTEN. -/
def execIntegrationTimeout (s : State) : Host.Outcome State Fault Refusal :=
  s.answerClk fun d => d.live fun d => d.integrationTimeout

/-- CYCLIC_FRAME (R306): A received CYCLIC frame is window-checked, forwarded and its window values mapped. -/
def execCyclicFrame (f : FrameIn) (s : State) : Host.Outcome State Fault Refusal :=
  s.answerDry fun d => d.liveIf (f.port < 4) fun d => (d.cyclicFrame f).grantDue

/-- GATHER_FRAME (R307): A passing GATHER frame has this node's window extracted and inserted on the fly. -/
def execGatherFrame (f : FrameIn) (s : State) : Host.Outcome State Fault Refusal :=
  s.answerDry fun d => d.liveIf (f.port < 4) fun d => (d.gatherFrame f).grantDue

/-- ACYCLIC_FRAME (R331): An ACYCLIC frame for this node is reassembled and its service PDU executed once. -/
def execAcyclicFrame (f : FrameIn) (s : State) : Host.Outcome State Fault Refusal :=
  s.answerClk fun d => d.liveIf (f.port < 4) fun d => d.acyclicFrame f

/-- SAFETY_FRAME (R330): A SAFETY frame is accepted by length, CRC and sequence or rejected. -/
def execSafetyFrame (f : FrameIn) (s : State) : Host.Outcome State Fault Refusal :=
  s.answerDry fun d => d.liveIf (f.port < 4) fun d => d.safetyFrame f

/-- LINK_DELAY_REQUEST (R324): A link-delay request is answered with its receipt time. -/
def execLinkDelayRequest (f : FrameIn) (depart : Nat) (s : State) : Host.Outcome State Fault Refusal :=
  s.answerCell fun d => d.liveIf (f.port < 4) fun d => d.delayRequest f depart

/-- LINK_DELAY_RESPONSE (R324): A link-delay response updates the mean link delay and the neighbour identity. -/
def execLinkDelayResponse (f : FrameIn) (skipped : Nat) (latency : Nat) (s : State) : Host.Outcome State Fault Refusal :=
  s.answerDry fun d => d.liveIf (f.port < 4) fun d => d.delayResponse f skipped latency

/-- FRAME_TRANSMIT (R314): At the OFFSET_NS of a TX entry the node sends its frame while IN_SYNC. -/
def execFrameTransmit (e : Nat) (agree : Bool) (s : State) : Host.Outcome State Fault Refusal :=
  s.answerDry fun d => d.live fun d => d.frameTransmit e agree

/-- SLOT_OCCURRENCE (R306): At each scheduled occurrence of a slot without a valid window, mapped values age by one. -/
def execSlotOccurrence (e : Nat) (s : State) : Host.Outcome State Fault Refusal :=
  s.answerCell fun d => d.live fun d => d.slotOccurrence e

/-- LINK_WINDOW (R324): In the round-7 link window every port sends a link-delay request. -/
def execLinkWindow (off : Nat) (s : State) : Host.Outcome State Fault Refusal :=
  s.answerDry fun d => d.live fun d => d.linkWindow off

/-- NET_CONTROL (R339): A restart returns the network state to LISTEN. -/
def execNetControl (value : Nat) (s : State) : Host.Outcome State Fault Refusal :=
  s.answerClk fun d => d.up fun d => d.netControl value

/-- LINK_DOWN (R300): A port losing its link raises LINK_DOWN. -/
def execLinkDown (p : Nat) (s : State) : Host.Outcome State Fault Refusal :=
  s.answerDry fun d => d.liveIf (p < 7) fun d => d.linkDownUnit p

/-- LINK_UP (R334): A port whose link has trained comes up. -/
def execLinkUp (p : Nat) (s : State) : Host.Outcome State Fault Refusal :=
  s.answerCell fun d => d.liveIf (p < 4) fun d => d.linkUp p

/-- RX_DROP_OTHER (R299): A frame arrives on a TurriLink port with another EtherType, a VLAN tag, PAUSE, a bad FCS or a header
failing R302, and is dropped and counted. -/
def execRxDropOther (f : FrameIn) (s : State) : Host.Outcome State Fault Refusal :=
  s.answerCell fun d => d.liveIf (f.port < 4) fun d => d.rxDropOther f

/-- SAFE_CONN_TIMEOUT (R330): No accepted frame for WD_US makes the connection present all-zero data. -/
def execSafeConnTimeout (k : Nat) (s : State) : Host.Outcome State Fault Refusal :=
  s.answerCell fun d => d.liveIf (k < 128) fun d => d.safeTimeout k

/-- ACYC_TIMEOUT (R332): An outstanding acyclic request without response after TIMEOUT_MS completes unretried. -/
def execAcycTimeout (txn : Nat) (s : State) : Host.Outcome State Fault Refusal :=
  s.answerDry fun d => d.live fun d => d.acycTimeout txn

end Sys2Proof.Machine
end

