-- ==== Sys2Proof/Machine/ExecPower.lean ====
section
/-! DEFINITION. Meanings of the commands: pins, supplies and temperature. -/

namespace Sys2Proof.Machine

/-- RESET_N (R532): A low RESET_N of at least 1 µs resets and holds the module. -/
def execResetN (step : Nat) (s : State) : Host.Outcome State Fault Refusal :=
  s.answerClk fun d => d.resetPin step

/-- PERST_N (R532): A low PERST_N resets the PCIe endpoint and stops every ring pair. -/
def execPerstN (high : Bool) (s : State) : Host.Outcome State Fault Refusal :=
  s.answerDry fun d => d.perstPin high

/-- POWER_LOSS_STOP (R533): Both feeds below 10.0 V for 100 µs stop the module in order on hold-up energy. -/
def execPowerLossStop (step : Nat) (s : State) : Host.Outcome State Fault Refusal :=
  s.answerClk fun d => d.powerLoss step

/-- REFCLK_FAULT (R530): REFCLK off by more than 1 % for 1 ms makes the node leave IN_SYNC. -/
def execRefclkFault (s : State) : Host.Outcome State Fault Refusal :=
  s.answerClk fun d => d.live fun d => d.refclkFault

/-- BANK_POWER_LOSS (R537): An I/O bank supply below 85 % for 10 µs disables the bank and stops its users. -/
def execBankPowerLoss (b : Nat) (mv : Nat) (s : State) : Host.Outcome State Fault Refusal :=
  s.answerClk fun d => d.liveIf (b < 4) fun d => d.bankLoss b mv

/-- BANK_POWER_RESTORED (R537): An I/O bank supply back in range for 10 ms returns the bank to use. -/
def execBankPowerRestored (b : Nat) (mv : Nat) (s : State) : Host.Outcome State Fault Refusal :=
  s.answerCell fun d => d.liveIf (b < 4) fun d => d.bankRestored b mv

/-- LID_TEMP_READING (R546): Once per second the lid sensor is read and high temperatures raise TEMP_HIGH or stop the module. -/
def execLidTempReading (code : Nat) (s : State) : Host.Outcome State Fault Refusal :=
  s.answerClk fun d => d.lidReading code

/-- TEMP_CRITICAL (R546): A lid at or above 105 °C for 1 s enters SAFE. -/
def execTempCritical (s : State) : Host.Outcome State Fault Refusal :=
  s.answerDry fun d => d.live fun d => d.tempCritical

/-- VBAT_LOSS (R528): VBAT below 1.6 V with both feeds absent loses the always-on contents. -/
def execVbatLoss (s : State) : Host.Outcome State Fault Refusal :=
  s.answerClk fun d => d.vbatLoss

/-- VBAT_APPLIED (R528): VBAT rises into range while both feeds are absent, so the always-on domain starts its 32.768 kHz clock
and the device passes from OFF to ALWAYS_ON. -/
def execVbatApplied (s : State) : Host.Outcome State Fault Refusal :=
  s.answerClk fun d => d.vbatApplied

end Sys2Proof.Machine
end

