-- ==== Sys2Proof/Machine/ExecRedundancy.lean ====
section
/-! DEFINITION. Meanings of the commands: pairs, checkpoints, takeover, feeds. -/

namespace Sys2Proof.Machine

/-- PARTNER_LISTEN_END (R411): After 32 ticks of listening a pair unit hibernates or becomes active. -/
def execPartnerListenEnd (s : State) : Host.Outcome State Fault Refusal :=
  s.answerDry fun d => d.live fun d => d.partnerListenEnd

/-- DUPLEX_SECONDARY_TIMEOUT (R411): A duplex secondary that hears no active partner for 4,000 cycles becomes active. -/
def execDuplexSecondaryTimeout (s : State) : Host.Outcome State Fault Refusal :=
  s.answerDry fun d => d.live fun d => d.duplexSecondary

/-- SHADOW_CHECK (R418): In T7 the checker recomputes one sampled axis and compares it with what was sent. -/
def execShadowCheck (agree : Bool) (s : State) : Host.Outcome State Fault Refusal :=
  s.answerDry fun d => d.live fun d => d.shadowCheck agree

/-- HOARD_WRITE_CAPTURE (R420): The first write to an unsent dirty page copies it into the capture pool before proceeding. -/
def execHoardWriteCapture (addr : Nat) (data : Bytes) (s : State) : Host.Outcome State Fault Refusal :=
  s.answer fun d => d.live fun d => d.hoardWrite addr data

/-- GENERATION_CLOSE (R420): When all records of a generation are sent, the active sends its CLOSE record. -/
def execGenerationClose (s : State) : Host.Outcome State Fault Refusal :=
  s.answerDry fun d => d.live fun d => d.closeGeneration

/-- CKPT_LAG (R422): A generation open for LAG_WARN_CYCLES raises CKPT_LAG. -/
def execCkptLag (s : State) : Host.Outcome State Fault Refusal :=
  s.answerDry fun d => d.live fun d => d.checkpointLag

/-- CKPT_ACK_TIMEOUT (R421): No ACK within 8 cycles of a CLOSE merges the generation's set into the next. -/
def execCkptAckTimeout (s : State) : Host.Outcome State Fault Refusal :=
  s.answerDry fun d => d.live fun d => d.ackTimeout

/-- PAGE_RECORD (R421): A received PAGE record is staged for its generation. -/
def execPageRecord (f : FrameIn) (s : State) : Host.Outcome State Fault Refusal :=
  s.answer fun d => d.live fun d => d.stageRecord 1 f

/-- CTRL_RECORD (R421): A received CTRL record stages control state for its generation. -/
def execCtrlRecord (f : FrameIn) (s : State) : Host.Outcome State Fault Refusal :=
  s.answer fun d => d.live fun d => d.stageRecord 2 f

/-- JOURNAL_RECORD (R421): A received JOURNAL record stages journal records for its generation. -/
def execJournalRecord (f : FrameIn) (s : State) : Host.Outcome State Fault Refusal :=
  s.answer fun d => d.live fun d => d.stageRecord 3 f

/-- CONFIG_RECORD (R421): A received CONFIG record stages configuration for its generation. -/
def execConfigRecord (f : FrameIn) (s : State) : Host.Outcome State Fault Refusal :=
  s.answer fun d => d.live fun d => d.stageRecord 5 f

/-- CLOSE_RECORD (R421): A received CLOSE record completes, applies and acknowledges the generation or rejects it. -/
def execCloseRecord (f : FrameIn) (s : State) : Host.Outcome State Fault Refusal :=
  s.answer fun d => d.live fun d => d.stageRecord 4 f

/-- SWEEP_RECORD (R428): A received SWEEP record writes one page of the resynchronisation sweep. -/
def execSweepRecord (f : FrameIn) (s : State) : Host.Outcome State Fault Refusal :=
  s.answer fun d => d.live fun d => d.sweepRecord f

/-- HEARTBEAT (R419): A received cross-link heartbeat carries the partner's state, acknowledgements and epoch. -/
def execHeartbeat (f : FrameIn) (s : State) : Host.Outcome State Fault Refusal :=
  s.answerDry fun d => d.live fun d => d.heartbeat f

/-- FAIL_RECORD (R423): A received FAIL record makes a ready standby take over at once. -/
def execFailRecord (f : FrameIn) (s : State) : Host.Outcome State Fault Refusal :=
  s.answerDry fun d => d.live fun d => d.failRecord f

/-- SILENCE_EVALUATION (R423): At +28.0 µs of every tick the duplex standby judges the active's silence. -/
def execSilenceEvaluation (s : State) : Host.Outcome State Fault Refusal :=
  s.answerDry fun d => d.live fun d => d.silence

/-- OWL_DECISION (R424): At +28.0 µs of T7 the Owl grants a new epoch to a ready standby when the active failed. -/
def execOwlDecision (s : State) : Host.Outcome State Fault Refusal :=
  s.answerCell fun d => d.live fun d => d.owlDecision

/-- OWL_LOST (R424): No Owl pair window for 3 cycles disables takeover. -/
def execOwlLost (s : State) : Host.Outcome State Fault Refusal :=
  s.answerDry fun d => d.live fun d => d.owlLost

/-- TAKEOVER_RELEASE (R425): At tick D+16 the new active releases items, runs the engines and sends with the new epoch. -/
def execTakeoverRelease (s : State) : Host.Outcome State Fault Refusal :=
  s.answer fun d => d.live fun d => d.takeoverRelease

/-- FEED_LOSS (R430): A feed below 10.0 V for 100 µs is lost and logged without interruption. -/
def execFeedLoss (i : Nat) (s : State) : Host.Outcome State Fault Refusal :=
  s.answerDry fun d => d.feedLoss i

/-- FEED_RESTORED (R430): A feed above 10.5 V for 10 ms is restored. -/
def execFeedRestored (i : Nat) (s : State) : Host.Outcome State Fault Refusal :=
  s.answerDry fun d => d.feedRestored i

/-- LOCKSTEP_MISMATCH (R417): A lockstep comparator of channel A or of the management processor detects a mismatch, so a pair's
active unit fails over and a single unit enters SAFE. -/
def execLockstepMismatch (s : State) : Host.Outcome State Fault Refusal :=
  s.answerDry fun d => d.live fun d => d.lockstepMismatch

end Sys2Proof.Machine
end

