-- ==== Sys2Proof/Machine/ExecSafety.lean ====
section
/-! DEFINITION. Meanings of the commands: safe inputs and outputs, monitoring, sessions. -/

namespace Sys2Proof.Machine

/-- SAFE_INPUT_QUALIFIED (R370): A safe input level stable for FILTER_US qualifies and may put its function in demand. -/
def execSafeInputQualified (i : Nat) (level : Bool) (raw : Nat) (s : State) : Host.Outcome State Fault Refusal :=
  s.answerCell fun d => d.liveIf (i < 16) fun d => d.safeInputPin i level raw

/-- SI_DISCREPANCY (R371): A pair that does not follow within DISCREPANCY_MS holds its function in demand. -/
def execSiDiscrepancy (k : Nat) (s : State) : Host.Outcome State Fault Refusal :=
  s.answerCell fun d => d.liveIf (k < 8) fun d => d.discrepancy k

/-- DEMAND_EXCHANGE (R366): The channels exchange demands and each carries out the more severe one. -/
def execDemandExchange (axes : List (Nat × Nat)) (outs : List Nat) (s : State) : Host.Outcome State Fault Refusal :=
  s.answerCell fun d => d.live fun d => d.demandExchange axes outs

/-- CHANNEL_LOST (R367): No partner heartbeat for 2 ticks switches off outputs and permits and enters SAFE. -/
def execChannelLost (ch : Nat) (s : State) : Host.Outcome State Fault Refusal :=
  s.answerDry fun d => d.liveIf (ch < 2) fun d => d.channelLost ch

/-- TEST_SLOT (R376): At its test slot an ON safe output turns one switch off for a 300 µs pulse. -/
def execTestSlot (k : Nat) (s : State) : Host.Outcome State Fault Refusal :=
  s.answerCell fun d => d.liveIf (k < 8) fun d => d.testSlot k

/-- PULSE_END (R378): At the end of a test pulse the switch turns on again and the readback result is judged. -/
def execPulseEnd (k : Nat) (low : Bool) (s : State) : Host.Outcome State Fault Refusal :=
  s.answerCell fun d => d.liveIf (k < 8) fun d => d.pulseOver k low

/-- ON_CHECK_TIMEOUT (R378): ON_CHECK_US after the end of a test pulse, or after a switch-on, the readback has not read high, so
the safe output enters FAULT with SO_TEST_FAIL. -/
def execOnCheckTimeout (k : Nat) (s : State) : Host.Outcome State Fault Refusal :=
  s.answerCell fun d => d.liveIf (k < 8) fun d => d.onCheckTimeout k

/-- SO_READBACK_FAULT (R377): A readback wrong for 3 consecutive samples puts the output in FAULT. -/
def execSoReadbackFault (k : Nat) (s : State) : Host.Outcome State Fault Refusal :=
  s.answerCell fun d => d.liveIf (k < 8) fun d => d.readbackFault k

/-- ACK (R378): Acknowledges a faulted safe output to OFF while its readback reads low. -/
def execAck (k : Nat) (high : Bool) (s : State) : Host.Outcome State Fault Refusal :=
  s.answerCell fun d => d.upIf (k < 8) fun d => d.outAck k high

/-- AXIS_MONITORING (R381): Each tick both channels check stop ramps, standstill, SOS windows and SLS limits. -/
def execAxisMonitoring (s : State) : Host.Outcome State Fault Refusal :=
  s.answerCell fun d => d.live fun d => d.axisMonitoring

/-- SS_T_MAX_EXPIRY (R383): An SS1 that has not reached standstill by SS_T_MAX_MS ends in STO. -/
def execSsTMaxExpiry (n : Nat) (s : State) : Host.Outcome State Fault Refusal :=
  s.answerCell fun d => d.liveIf (n < 128) fun d => d.ssTMaxExpiry n

/-- SS2_TIMEOUT (R385): An SS2 axis not at standstill by SS_T_MAX_MS goes to STO. -/
def execSs2Timeout (n : Nat) (s : State) : Host.Outcome State Fault Refusal :=
  s.answerCell fun d => d.liveIf (n < 128) fun d => d.ss2Timeout n

/-- SLS_ACTIVE (R387): SLS monitoring comes into force SLS_DELAY_MS after its selection. -/
def execSlsActive (chain : Bool) (n : Nat) (s : State) : Host.Outcome State Fault Refusal :=
  s.answerCell fun d => d.liveIf (n < 128) fun d => d.slsInForce chain n

/-- SESSION_OPEN (R398): Opens a password session owned by the requesting path. -/
def execSessionOpen (req : Requester) (data : Bytes) (s : State) : Host.Outcome State Fault Refusal :=
  s.answer fun d => d.reached req 0x5000 fun d => d.odWrite req 0x5000 1 data

/-- SESSION_CLOSE (R398): Ends the session and discards staged banks without a request. -/
def execSessionClose (req : Requester) (s : State) : Host.Outcome State Fault Refusal :=
  s.answer fun d => d.reached req 0x5000 fun d => d.odWrite req 0x5000 2 [0]

/-- SESSION_TIMEOUT (R398): A session without an SL write for SESSION_TIMEOUT_S ends. -/
def execSessionTimeout (s : State) : Host.Outcome State Fault Refusal :=
  s.answerCell fun d => d.live fun d => d.sessionTimeout

/-- SESSION_LOCKOUT_END (R398): The lockout time after failed session opens runs out, and SESSION_STATE leaves the locked-out
state. -/
def execSessionLockoutEnd (s : State) : Host.Outcome State Fault Refusal :=
  s.answerCell fun d => d.live fun d => d.lockoutEnd

/-- PASSWORD_SET (R397): Sets a user's password with a new salt and digest. -/
def execPasswordSet (req : Requester) (data : Bytes) (s : State) : Host.Outcome State Fault Refusal :=
  s.answer fun d => d.reached req 0x5001 fun d => d.odWrite req 0x5001 9 data

end Sys2Proof.Machine
end

