-- ==== Sys2Proof/Machine/ExecServices.lean ====
section
/-! DEFINITION. Meanings of the commands: the services of the object dictionary and the paths to them. -/

namespace Sys2Proof.Machine

/-- READ (R442): Service that returns the value of an entry. -/
def execRead (req : Requester) (index : Nat) (sub : Nat) (s : State) : Host.Outcome State Fault Refusal :=
  s.answerDry fun d => d.reached req index fun d => d.svcRead req index sub 65536

/-- WRITE (R440): Service that writes a value to an entry through the OD server. -/
def execWrite (req : Requester) (index : Nat) (sub : Nat) (data : Bytes) (s : State) : Host.Outcome State Fault Refusal :=
  s.answerClk fun d => d.reached req index fun d => d.svcWrite req index sub data

/-- DREAD (R444): Service that returns domain or string bytes from an offset. -/
def execDread (req : Requester) (index : Nat) (sub : Nat) (off : Nat) (len : Nat)
    (s : State) : Host.Outcome State Fault Refusal :=
  s.answerDry fun d => d.reachedFull req fun d => d.svcDread req index sub off len 65536

/-- DWRITE (R444): Service that writes one block of a domain transfer and applies the whole value at LAST. -/
def execDwrite (req : Requester) (index : Nat) (sub : Nat) (off : Nat) (total : Nat) (last : Bool) (data : Bytes)
    (s : State) : Host.Outcome State Fault Refusal :=
  s.answerClk fun d => d.reached req index fun d => d.svcDwrite req index sub off total last data 65536

/-- DABORT (R444): Service that ends the requester's open transfer without change. -/
def execDabort (req : Requester) (index : Nat) (sub : Nat) (s : State) : Host.Outcome State Fault Refusal :=
  s.answerCell fun d => d.reachedFull req fun d => d.svcDabort req index sub

/-- COMMIT (R445): Service that requests commits of up to 16 tables at one cycle as one group. -/
def execCommit (req : Requester) (cycle : Nat) (policy : Nat) (targets : List (Nat × Nat))
    (s : State) : Host.Outcome State Fault Refusal :=
  s.answerCell fun d => d.reachedFull req fun d => d.svcCommit req cycle policy targets

/-- DIGEST (R442): Service that returns the digest of an entry or of the configuration. -/
def execDigest (req : Requester) (index : Nat) (sub : Nat) (s : State) : Host.Outcome State Fault Refusal :=
  s.answerDry fun d => d.reachedFull req fun d => d.svcDigest req index sub

/-- ENUMERATE (R443): Service that returns descriptors of entries in use from a starting entry. -/
def execEnumerate (req : Requester) (index : Nat) (sub : Nat) (count : Nat) (s : State) : Host.Outcome State Fault Refusal :=
  s.answerCell fun d => d.reachedFull req fun d => d.svcEnumerate index sub count

/-- OD_TRANSFER_TIMEOUT (R444): A transfer without a block for TRANSFER_TIMEOUT_MS ends with no change. -/
def execOdTransferTimeout (index : Nat) (sub : Nat) (s : State) : Host.Outcome State Fault Refusal :=
  s.answerCell fun d => d.live fun d => d.transferTimeout index sub

/-- REQ_TAIL (R448): A doorbell write of REQ_TAIL offers new request entries to a ring pair. -/
def execReqTail (ring : Nat) (value : Nat) (s : State) : Host.Outcome State Fault Refusal :=
  s.answerCell fun d => d.ringTail ring value

/-- SIZE (R449): A write of SIZE resets the ring indices and starts or stops the pair. -/
def execSize (ring : Nat) (value : Nat) (s : State) : Host.Outcome State Fault Refusal :=
  s.answerCell fun d => d.ringSize ring value

/-- RSP_HEAD (R449): A write of RSP_HEAD frees response entries so further requests can be read. -/
def execRspHead (ring : Nat) (value : Nat) (s : State) : Host.Outcome State Fault Refusal :=
  s.answerCell fun d => d.ringRspHead ring value

/-- RING_REQUEST_FETCH (R449): The device reads a request entry once a free response entry exists and answers it in order. -/
def execRingRequestFetch (ring : Nat) (entry : Bytes) (pdu : Bytes) (ok : Bool) (s : State) : Host.Outcome State Fault Refusal :=
  s.answerClk fun d => d.ringFetch ring entry pdu ok

/-- HOST_DMA_START (R452): Starts a host DMA copy inside HOST_DMA_RANGES or refuses it. -/
def execHostDmaStart (ch : Nat) (s : State) : Host.Outcome State Fault Refusal :=
  s.answerCell fun d => d.live fun d => d.hostDmaStart ch

/-- HOST_DMA_STOP (R452): Stops a host DMA channel. -/
def execHostDmaStop (ch : Nat) (s : State) : Host.Outcome State Fault Refusal :=
  s.answerCell fun d => d.live fun d => d.hostDmaStop ch

/-- HOST_DMA_COMPLETE (R452): A host DMA copy finishes and its vector is raised. -/
def execHostDmaComplete (ch : Nat) (data : Bytes) (s : State) : Host.Outcome State Fault Refusal :=
  s.answer fun d => d.live fun d => d.hostDmaComplete ch data

/-- WINDOW_READ (R454): A window read of bytes 0–7 of a TIME or DIGEST128 entry latches the whole value. -/
def execWindowRead (req : Requester) (offset : Nat) (size : Nat) (s : State) : Host.Outcome State Fault Refusal :=
  s.answerDry fun d => d.reached req (offset / 4096 % 65536) fun d => d.windowRead req offset size

/-- WINDOW_WRITE (R453): A memory-window write of an entry slot, refusals reported in WIN_STATUS. -/
def execWindowWrite (req : Requester) (offset : Nat) (data : Bytes) (s : State) : Host.Outcome State Fault Refusal :=
  s.answerClk fun d => d.reached req (offset / 4096 % 65536) fun d => d.windowWriteAt req offset data

/-- UDP_DATAGRAM (R456): A UDP service datagram is executed once per transaction or answered from store. -/
def execUdpDatagram (p : Nat) (peer : Nat) (dst : Nat) (data : Bytes) (s : State) : Host.Outcome State Fault Refusal :=
  s.answerClk fun d => d.udpDatagram p peer dst data

/-- REGISTER_WRITE (R437): A write to any entry without a row of its own, checked for type, range, access, state and lock. -/
def execRegisterWrite (req : Requester) (place : RegPlace) (data : Bytes) (s : State) : Host.Outcome State Fault Refusal :=
  s.answerClk fun d => d.registerWrite req place data

end Sys2Proof.Machine
end

