-- ==== Sys2Proof/Machine/ExecSett.lean ====
section
/-! DEFINITION. Meanings of the commands: work-core items, parking, DMA, traps. -/

namespace Sys2Proof.Machine

/-- ASK (R260): A load from ASK takes a ready item and returns its token, or blocks. -/
def execAsk (h : Nat) (after : Nat) (s : State) : Host.Outcome State Fault Refusal :=
  s.answer fun d => d.liveIf (decide (h < 48) && d.issuing h) fun d => d.ask h after

/-- ITEM_DISPATCH (R265): An item becoming eligible is handed to a blocked asking context by priority, deadline and age. -/
def execItemDispatch (h : Nat) (s : State) : Host.Outcome State Fault Refusal :=
  s.answer fun d => d.liveIf (h < 48) fun d => d.itemDispatch h

/-- ASK_TIMEOUT (R260): A blocked ASK returns 0 after ASK_TIMEOUT_US, on a pending interrupt or when the device leaves RUN. -/
def execAskTimeout (h : Nat) (irq : Bool) (s : State) : Host.Outcome State Fault Refusal :=
  s.answerDry fun d => d.liveIf (h < 48) fun d => d.askTimeout h irq

/-- COMPLETE (R262): A matching completion store marks the journal done, releases the flow, counts fences and frees the slot. -/
def execComplete (h : Nat) (value : Nat) (s : State) : Host.Outcome State Fault Refusal :=
  s.answer fun d => d.liveIf (decide (h < 48) && d.issuing h) fun d => d.complete h value

/-- SUBMIT (R263): A store to SUBMIT_3 submits the descriptor formed from the four submit ports. -/
def execSubmit (h : Nat) (desc : Bytes) (s : State) : Host.Outcome State Fault Refusal :=
  s.answer fun d => d.liveIf (decide (h < 48) && d.issuing h) fun d => d.submit h desc

/-- RESUME (R280): Storing a resumed token loads the park frame and continues at the faulting instruction. -/
def execResume (h : Nat) (value : Nat) (s : State) : Host.Outcome State Fault Refusal :=
  s.answerDry fun d => d.liveIf (decide (h < 48) && d.issuing h) fun d => d.resume h value

/-- MAP_DONE (R280): Requeues every item parked on the page and resumes DMA channels waiting on it. -/
def execMapDone (value : Nat) (s : State) : Host.Outcome State Fault Refusal :=
  s.answer fun d => d.live fun d => d.mapDone value

/-- MAP_FAIL (R280): Completes every item parked on the page with PAGE_UNMAPPABLE. -/
def execMapFail (value : Nat) (s : State) : Host.Outcome State Fault Refusal :=
  s.answer fun d => d.live fun d => d.mapFail value

/-- DEADLINE_MISS (R271): A tick-class item still running or undispatched at +28.0 µs is aborted. -/
def execDeadlineMiss (entry : Nat) (c : HartContext) (s : State) : Host.Outcome State Fault Refusal :=
  s.answer fun d => d.live fun d => d.deadlineMiss entry c

/-- PAGE_FAULT (R279): A page fault parks a background item, aborts a tick item or traps normally. -/
def execPageFault (h : Nat) (r : HartRegs) (m : HartCsr) (s : State) : Host.Outcome State Fault Refusal :=
  s.answer fun d => d.liveIf (decide (h < 48) && d.issuing h) fun d => d.pageFault h (r.under m)

/-- PREFETCH_PUSH (R273): In push mode an eligible background item is placed in an empty prefetch slot. -/
def execPrefetchPush (h : Nat) (s : State) : Host.Outcome State Fault Refusal :=
  s.answer fun d => d.liveIf (h < 48) fun d => d.prefetchPush h

/-- JOURNAL_RECORD_WRITTEN (R274): A journaled item becomes eligible once its record has been written to LPDDR5X. -/
def execJournalRecordWritten (slot : Nat) (s : State) : Host.Outcome State Fault Refusal :=
  s.answer fun d => d.live fun d => d.recordWritten slot

/-- CORE_LOSS (R275): An uncorrectable core or context error replays the journaled item in service and loses others. -/
def execCoreLoss (what : Nat) (k : Nat) (c : HartContext) (s : State) : Host.Outcome State Fault Refusal :=
  s.answer fun d => d.live fun d => d.coreLossUnit what k c

/-- RETIRE_GRACE_EXPIRY (R275): A background item still in service RETIRE_GRACE_MS after a planned retirement is replayed. -/
def execRetireGraceExpiry (k : Nat) (s : State) : Host.Outcome State Fault Refusal :=
  s.answer fun d => d.live fun d => d.retireGrace k

/-- SFENCE_VMA (R278): Invalidates the translations of the executing hart only. -/
def execSfenceVma (h : Nat) (s : State) : Host.Outcome State Fault Refusal :=
  s.answerDry fun d => d.liveIf (decide (h < 48) && d.issuing h) fun d => d.sfence h

/-- FENCE_I (R252): Makes written instructions visible to the executing hart. -/
def execFenceI (h : Nat) (s : State) : Host.Outcome State Fault Refusal :=
  s.answerDry fun d => d.liveIf (decide (h < 48) && d.issuing h) fun d => d.fenceI h

/-- DMA_START (R282): CONTROL 1 starts a DMA channel on its descriptor chain from DESC_PTR. -/
def execDmaStart (ch : Nat) (s : State) : Host.Outcome State Fault Refusal :=
  s.answerDry fun d => d.upIf (ch < 32) fun d => d.dmaStart ch

/-- DMA_RESUME (R285): CONTROL 2 continues a faulted or stopped channel from FAULT_OFFSET. -/
def execDmaResume (ch : Nat) (s : State) : Host.Outcome State Fault Refusal :=
  s.answerDry fun d => d.upIf (ch < 32) fun d => d.dmaResume ch

/-- DMA_STOP (R297): CONTROL 3 halts the channel after the byte in progress and records the offset. -/
def execDmaStop (ch : Nat) (off : Nat) (s : State) : Host.Outcome State Fault Refusal :=
  s.answer fun d => d.upIf (ch < 32) fun d => d.dmaStop ch off

/-- DMA_ABANDON (R297): CONTROL 4 returns the channel to IDLE from any state. -/
def execDmaAbandon (ch : Nat) (s : State) : Host.Outcome State Fault Refusal :=
  s.answerDry fun d => d.upIf (ch < 32) fun d => d.dmaAbandon ch

/-- DMA_DESCRIPTOR_COMPLETE (R286): A finished descriptor raises its interrupt or submits its DONE_ITEM and the channel moves on. -/
def execDmaDescriptorComplete (ch : Nat) (s : State) : Host.Outcome State Fault Refusal :=
  s.answer fun d => d.liveIf (ch < 32) fun d => d.dmaComplete ch

/-- DMA_FAULT (R285): A byte that cannot be read or written stops the channel in FAULTED at that offset. -/
def execDmaFault (ch : Nat) (off : Nat) (cause : Nat) (write : Bool) (s : State) : Host.Outcome State Fault Refusal :=
  s.answer fun d => d.liveIf (ch < 32) fun d => d.dmaFault ch off cause write

/-- IOTLB_INVAL (R283): Removes the named IOMMU translations before the write completes. -/
def execIotlbInval (value : Nat) (s : State) : Host.Outcome State Fault Refusal :=
  s.answerDry fun d => d.up fun d => (d.iotlbInval value).finish Code.STATUS_OK

/-- PLIC_CLAIM (R46): A target hart claims a pending PLIC source, clearing it so that a later cycle-point interrupt or RAISE_IRQ
is no longer counted as missed. -/
def execPlicClaim (src : Nat) (s : State) : Host.Outcome State Fault Refusal :=
  s.answerCell fun d => d.live fun d => d.plicClaim src

/-- ACCESS_FAULT (R253): A work-core access that breaks the region attributes, addresses no region, misuses the port page or
reaches a PPN beyond 40 bits raises an access-fault exception. -/
def execAccessFault (h : Nat) (kind : Nat) (addr : Nat) (size : Nat) (r : HartRegs) (m : HartCsr)
    (s : State) : Host.Outcome State Fault Refusal :=
  s.answerDry fun d => d.liveIf (decide (h < 48) && d.issuing h) fun d => d.accessFault h kind addr size (r.under m)

/-- ILLEGAL_INSTRUCTION (R250): A work core that meets an instruction of an extension it does not implement raises an
illegal-instruction exception. -/
def execIllegalInstruction (h : Nat) (r : HartRegs) (tval : Nat) (m : HartCsr) (s : State) : Host.Outcome State Fault Refusal :=
  s.answerDry fun d => d.liveIf (decide (h < 48) && d.issuing h) fun d => d.illegalInstruction h (r.under m) tval

end Sys2Proof.Machine
end

