-- ==== Sys2Proof/Machine/ExecTick.lean ====
section
/-! DEFINITION. Meanings of the commands: the tick, overruns, kinematics and separation monitoring. -/

namespace Sys2Proof.Machine

/-- SAMPLE_INSTANT (R20): At the SI of every tick the node samples local inputs and feedback and applies the outputs computed in
the previous tick. -/
def execSampleInstant (si : SampleIn) (s : State) : Host.Outcome State Fault Refusal :=
  s.answerClk fun d => d.sampleInstant si

/-- COMMAND_LATCH (R21): At +2.0 µs the latch takes the commands, control words, segments and user overrides completed before it,
and profile evaluation starts. -/
def execCommandLatch (reach : Nat) (s : State) : Host.Outcome State Fault Refusal :=
  s.answerCell fun d => d.live fun d => d.commandLatch reach

/-- PROFILE_OVERRUN (R31): Generators or interpolators still unevaluated at +11.0 µs repeat their set-points and take the
PROFILE_OVERRUN reaction. -/
def execProfileOverrun (s : State) : Host.Outcome State Fault Refusal :=
  s.answerCell fun d => d.live fun d => d.profileOverrun

/-- CONTROL_ENGINE_RUN (R52): From +12.0 µs the control engine evaluates the cascades of the evaluating axes with the feedback of
this SI. -/
def execControlEngineRun (s : State) : Host.Outcome State Fault Refusal :=
  s.answerCell fun d => d.live fun d => d.controlRun

/-- CONTROL_OVERRUN (R31): Cascades still unevaluated at +24.0 µs send their previous output with STALE set and take the
CONTROL_OVERRUN reaction. -/
def execControlOverrun (s : State) : Host.Outcome State Fault Refusal :=
  s.answerCell fun d => d.live fun d => d.controlOverrun

/-- FEEDBACK_LOST (R70): A used feedback value whose age exceeds AGE_LIMIT raises FEEDBACK_LOST and carries out its reaction. -/
def execFeedbackLost (n : Nat) (s : State) : Host.Outcome State Fault Refusal :=
  s.answerCell fun d => d.liveIf (n < 128) fun d => d.feedbackLost n

/-- FEEDBACK_FROZEN (R73): A frozen-feedback run reaching FROZEN_N raises FEEDBACK_FROZEN and carries out its reaction. -/
def execFeedbackFrozen (n : Nat) (s : State) : Host.Outcome State Fault Refusal :=
  s.answerCell fun d => d.liveIf (n < 128) fun d => d.feedbackFrozen n

/-- SAT_WARN (R69): A level's saturation run reaching SAT_WARN_TICKS raises SAT_WARN once for that run. -/
def execSatWarn (n : Nat) (level : Nat) (s : State) : Host.Outcome State Fault Refusal :=
  s.answerCell fun d => d.liveIf (n < 128 ∧ level < 4) fun d => d.satWarn n level

/-- SAT_FAULT (R69): A saturation run reaching SAT_FAULT_TICKS raises SAT_FAULT and carries out its reaction. -/
def execSatFault (n : Nat) (level : Nat) (s : State) : Host.Outcome State Fault Refusal :=
  s.answerCell fun d => d.liveIf (n < 128 ∧ level < 4) fun d => d.satFault n level

/-- LANE_FAULT (R82): A residue or memory error in a lane stales its axes for the tick and moves them to the surviving lanes. -/
def execLaneFault (lane : Nat) (s : State) : Host.Outcome State Fault Refusal :=
  s.answerDry fun d => d.liveIf (lane < 8) fun d => d.laneFaultUnit lane

/-- LANE_SPARED (R81): The spare lane takes over a retiring or failed lane's axes at the SI of T0 after its copy. -/
def execLaneSpared (lane : Nat) (s : State) : Host.Outcome State Fault Refusal :=
  s.answerDry fun d => d.liveIf (lane < 8) fun d => d.laneSparedUnit lane

/-- KINEMATICS_RUN (R142): From +12.0 µs of T0 the kinematics unit computes measured and commanded frames, endpoint velocities
and zone tests. -/
def execKinematicsRun (s : State) : Host.Outcome State Fault Refusal :=
  s.answerCell fun d => d.liveIf (d.standsBy = false) fun d => d.kinematicsRun

/-- KINEMATICS_OVERRUN (R31): Frames incomplete at the SI of T1 skip distance testing and put every chain into its protective
stop. -/
def execKinematicsOverrun (s : State) : Host.Outcome State Fault Refusal :=
  s.answerCell fun d => d.liveIf (d.standsBy = false) fun d => d.kinematicsOverrun

/-- TRACK_COPY (R168): At the SI of T1 the newest accepted track payload of each source is copied into its intruder slots. -/
def execTrackCopy (s : State) : Host.Outcome State Fault Refusal :=
  s.answerCell fun d => d.live fun d => d.trackCopy

/-- TRACK_TIMEOUT (R170): A source without an accepted payload within TIMEOUT_US has its slots replaced by growing worst-case
intruders. -/
def execTrackTimeout (src : Nat) (s : State) : Host.Outcome State Fault Refusal :=
  s.answerCell fun d => d.liveIf (src < 8) fun d => d.trackTimeout src

/-- DISTANCE_TESTING (R150): From the SI of T1 the distance units test the selected LL, LI and LB pairs after the broad-phase
screen. -/
def execDistanceTesting (reach : Nat) (s : State) : Host.Outcome State Fault Refusal :=
  s.answerCell fun d => d.liveIf (d.standsBy = false) fun d => d.distanceTesting reach

/-- DISTANCE_OVERRUN (R31): Pairs untested at the SI of T3 put every chain with an untested pair into its protective stop. -/
def execDistanceOverrun (s : State) : Host.Outcome State Fault Refusal :=
  s.answerCell fun d => d.liveIf (d.standsBy = false) fun d => d.distanceOverrun

/-- DISTANCE_UNIT_FAULT (R515): A distance unit failing a residue check stops and its untested pairs go to the surviving units. -/
def execDistanceUnitFault (unit : Nat) (s : State) : Host.Outcome State Fault Refusal :=
  s.answerDry fun d => d.live fun d => d.distanceUnitFault unit

/-- SEPARATION_EVALUATION (R176): From the SI of T3 channel A switches the results and computes each chain's separation override. -/
def execSeparationEvaluation (s : State) : Host.Outcome State Fault Refusal :=
  s.answerCell fun d => d.liveIf (d.standsBy = false) fun d => d.separationEvaluation

/-- SEPARATION_OVERRUN (R31): Overrides not written by +24.0 µs of T3 put every chain into its protective stop. -/
def execSeparationOverrun (s : State) : Host.Outcome State Fault Refusal :=
  s.answerCell fun d => d.liveIf (d.standsBy = false) fun d => d.separationOverrun

/-- CHANNEL_B_CROSS_CHECK (R187): Channel B recomputes the 32 closest pairs, zone points and override condition and finishes by
+28.0 µs of T3. -/
def execChannelBCrossCheck (s : State) : Host.Outcome State Fault Refusal :=
  s.answerCell fun d => d.liveIf (d.standsBy = false) fun d => d.channelBCheck

/-- SSM_B_LATE (R188): Channel B not ready at +28.0 µs of T3 carries out SS1 on every SSM chain. -/
def execSsmBLate (s : State) : Host.Outcome State Fault Refusal :=
  s.answerCell fun d => d.liveIf (d.standsBy = false) fun d => d.ssmBLate

/-- SPEED_OVERRIDE_SWITCH (R25): At the SI of T4 the new overrides, grants, holds and breach and contact reactions take effect. -/
def execSpeedOverrideSwitch (s : State) : Host.Outcome State Fault Refusal :=
  s.answerCell fun d => d.liveIf (d.standsBy = false) fun d => d.speedOverrideSwitch

/-- AUTO_RESUME (R177): After RESUME_CYCLES cycles satisfied at O_MIN, an SS2 chain's members are acknowledged automatically. -/
def execAutoResume (c : Nat) (s : State) : Host.Outcome State Fault Refusal :=
  s.answerCell fun d => d.liveIf (c < 16) fun d => d.autoResume c

/-- STOP_MEASURED (R184): At the first T0 at standstill after a chain emergency stop, the measured stopping time and distance are
judged. -/
def execStopMeasured (c : Nat) (s : State) : Host.Outcome State Fault Refusal :=
  s.answerCell fun d => d.liveIf (c < 16) fun d => d.stopMeasured c

end Sys2Proof.Machine
end

