-- ==== Sys2Proof/Machine/ExecTime.lean ====
section
/-! DEFINITION. Meanings of the commands: wall time, PTP and scheduled actions. -/

namespace Sys2Proof.Machine

/-- WALL_RATE (R349): Sets the wall-clock rate from the next raw count. -/
def execWallRate (rate : Nat) (s : State) : Host.Outcome State Fault Refusal :=
  s.answerDry fun d => d.up fun d => d.wallRate rate

/-- WALL_STEP_NS (R349): Steps the wall-clock offset by a signed number of nanoseconds. -/
def execWallStepNs (ns : Int) (s : State) : Host.Outcome State Fault Refusal :=
  s.answerDry fun d => d.up fun d => d.wallStepNs ns

/-- WALL_SET (R349): Sets wall time to the written TIME at the next raw count. -/
def execWallSet (time : Int) (s : State) : Host.Outcome State Fault Refusal :=
  s.answerDry fun d => d.up fun d => d.wallSet time

/-- TIME_SNAPSHOT (R352): Latches raw count, network time and wall time at one raw count. -/
def execTimeSnapshot (s : State) : Host.Outcome State Fault Refusal :=
  s.answerCell fun d => d.up fun d => d.timeSnapshot

/-- PTP_MODE (R364): A write of PTP_MODE applies the PTP instance and port settings. -/
def execPtpMode (mode : Nat) (s : State) : Host.Outcome State Fault Refusal :=
  s.answerDry fun d => d.up fun d => d.ptpMode mode

/-- PTP_SYNC (R353): A received Sync message feeds the wall-time servo, slewing or stepping wall time. -/
def execPtpSync (p : Nat) (raw : Nat) (m : Bytes) (s : State) : Host.Outcome State Fault Refusal :=
  s.answerDry fun d => d.liveIf (p < 2) fun d => d.ptpSync p raw m

/-- PTP_FOLLOW_UP (R353): A received Follow_Up completes a two-step Sync. -/
def execPtpFollowUp (p : Nat) (m : Bytes) (s : State) : Host.Outcome State Fault Refusal :=
  s.answerDry fun d => d.liveIf (p < 2) fun d => d.ptpFollowUp p m

/-- PTP_PDELAY_REQ (R355): A received Pdelay_Req is answered with a one-step Pdelay_Resp. -/
def execPtpPdelayReq (p : Nat) (raw : Nat) (m : Bytes) (txRaw : Nat) (s : State) : Host.Outcome State Fault Refusal :=
  s.answerCell fun d => d.liveIf (p < 2) fun d => d.ptpPdelayReq p raw m txRaw

/-- PTP_PDELAY_RESP (R353): A received Pdelay_Resp updates the mean link delay. -/
def execPtpPdelayResp (p : Nat) (raw : Nat) (m : Bytes) (s : State) : Host.Outcome State Fault Refusal :=
  s.answerDry fun d => d.liveIf (p < 2) fun d => d.ptpPdelayResp p raw m

/-- PTP_PDELAY_RESP_FOLLOW_UP (R353): A received Pdelay_Resp_Follow_Up completes a two-step peer-delay exchange. -/
def execPtpPdelayRespFollowUp (p : Nat) (m : Bytes) (s : State) : Host.Outcome State Fault Refusal :=
  s.answerDry fun d => d.liveIf (p < 2) fun d => d.ptpPdelayRespFollowUp p m

/-- PTP_ANNOUNCE (R353): A received Announce enters the best master clock algorithm. -/
def execPtpAnnounce (p : Nat) (m : Bytes) (s : State) : Host.Outcome State Fault Refusal :=
  s.answerDry fun d => d.liveIf (p < 2) fun d => d.ptpAnnounce p m

/-- PTP_DELAY_REQ (R353): A received Delay_Req or management message is dropped and counted. -/
def execPtpDelayReq (p : Nat) (s : State) : Host.Outcome State Fault Refusal :=
  s.answerCell fun d => d.liveIf (p < 2) fun d => d.ptpDelayReq p

/-- PTP_SYNC_TRANSMIT (R355): A Sync sent as master carries its one-step originTimestamp inserted on the fly. -/
def execPtpSyncTransmit (p : Nat) (raw : Nat) (s : State) : Host.Outcome State Fault Refusal :=
  s.answerDry fun d => d.liveIf (p < 2) fun d => d.ptpSyncTransmit p raw

/-- PTP_PDELAY_REQ_TRANSMIT (R353): At each logMinPdelayReqInterval the PTP service sends a Pdelay_Req on each enabled host port. -/
def execPtpPdelayReqTransmit (p : Nat) (raw : Nat) (s : State) : Host.Outcome State Fault Refusal :=
  s.answerDry fun d => d.liveIf (p < 2) fun d => d.ptpPdelayReqTransmit p raw

/-- PTP_ANNOUNCE_TRANSMIT (R353): At each logAnnounceInterval a host port in MASTER state sends an Announce message. -/
def execPtpAnnounceTransmit (p : Nat) (s : State) : Host.Outcome State Fault Refusal :=
  s.answerDry fun d => d.liveIf (p < 2) fun d => d.ptpAnnounceTransmit p

/-- ANNOUNCE_RECEIPT_TIMEOUT (R350): No Announce from the master arrives within the receipt timeout, so the best master clock
algorithm moves the port out of SLAVE and releases ownership of wall time. -/
def execAnnounceReceiptTimeout (p : Nat) (s : State) : Host.Outcome State Fault Refusal :=
  s.answerDry fun d => d.liveIf (p < 2) fun d => d.announceTimeout p

/-- ARM (R357): Arms a scheduled-action entry after checks and judges its lateness. -/
def execArm (e : Nat) (s : State) : Host.Outcome State Fault Refusal :=
  s.answerDry fun d => d.up fun d => d.armEntry e

/-- DISARM (R359): Disarms an entry before it is taken for execution. -/
def execDisarm (e : Nat) (s : State) : Host.Outcome State Fault Refusal :=
  s.answerDry fun d => d.up fun d => d.disarmEntry e

/-- ACTION_TAKEN (R359): An entry is taken for execution 1,000 ns before its instant and can no longer be disarmed. -/
def execActionTaken (e : Nat) (s : State) : Host.Outcome State Fault Refusal :=
  s.answerDry fun d => d.live fun d => d.actionTaken e

/-- SET_DO (R359): At its instant the action sets a digital output. -/
def execSetDo (e : Nat) (s : State) : Host.Outcome State Fault Refusal :=
  s.answerDry fun d => d.live fun d => d.actDo e true

/-- CLEAR_DO (R359): At its instant the action clears a digital output. -/
def execClearDo (e : Nat) (s : State) : Host.Outcome State Fault Refusal :=
  s.answerDry fun d => d.live fun d => d.actDo e false

/-- ARM_LATCH (R359): At its instant the action arms an axis latch. -/
def execArmLatch (e : Nat) (s : State) : Host.Outcome State Fault Refusal :=
  s.answerDry fun d => d.live fun d => d.actLatch e

/-- RAISE_IRQ (R359): At its instant the action raises its PLIC source. -/
def execRaiseIrq (e : Nat) (s : State) : Host.Outcome State Fault Refusal :=
  s.answerDry fun d => d.live fun d => d.actIrq e

/-- WRITE_OD (R359): At its instant the action writes a value to an OD entry. -/
def execWriteOd (e : Nat) (s : State) : Host.Outcome State Fault Refusal :=
  s.answerClk fun d => d.live fun d => d.actWrite e

/-- COMMIT_ACTION (R359): At its instant the action writes a commit request for a cycle number. -/
def execCommitAction (e : Nat) (s : State) : Host.Outcome State Fault Refusal :=
  s.answerDry fun d => d.live fun d => d.actCommit e

end Sys2Proof.Machine
end

