-- ==== Sys2Proof/Machine/ExecZones.lean ====
section
/-! DEFINITION. Meanings of the commands: zone tokens. -/

namespace Sys2Proof.Machine

/-- REQUEST (R156): A chain requests a zone token and enters its pending list. -/
def execRequest (c : Nat) (z : Nat) (s : State) : Host.Outcome State Fault Refusal :=
  s.answerCell fun d => d.up fun d => d.zoneAsk c z true

/-- RELEASE (R156): A chain releases a zone token or withdraws its request. -/
def execRelease (c : Nat) (z : Nat) (s : State) : Host.Outcome State Fault Refusal :=
  s.answerCell fun d => d.up fun d => d.zoneAsk c z false

/-- FORCE_RELEASE (R160): A session write forces the release of a zone token held by a DISABLED or FAULT chain. -/
def execForceRelease (req : Requester) (z : Nat) (s : State) : Host.Outcome State Fault Refusal :=
  s.answer fun d => d.reached req (0x3140 + z) fun d => d.zoneForce req z

end Sys2Proof.Machine
end

