-- ==== Sys2Proof/Machine/Dispatch.lean ====
section
/-! DEFINITION. The dispatch: one arm a command, each a direct call of its meaning. -/

namespace Sys2Proof.Machine

def exec (i : Instr) (s : State) : Host.Outcome State Fault Refusal :=
  match i with
  | .sampleInstant si => Sys2Proof.Machine.execSampleInstant si s
  | .commandLatch reach => Sys2Proof.Machine.execCommandLatch reach s
  | .profileOverrun => Sys2Proof.Machine.execProfileOverrun s
  | .controlEngineRun => Sys2Proof.Machine.execControlEngineRun s
  | .controlOverrun => Sys2Proof.Machine.execControlOverrun s
  | .feedbackLost n => Sys2Proof.Machine.execFeedbackLost n s
  | .feedbackFrozen n => Sys2Proof.Machine.execFeedbackFrozen n s
  | .satWarn n level => Sys2Proof.Machine.execSatWarn n level s
  | .satFault n level => Sys2Proof.Machine.execSatFault n level s
  | .laneFault lane => Sys2Proof.Machine.execLaneFault lane s
  | .laneSpared lane => Sys2Proof.Machine.execLaneSpared lane s
  | .kinematicsRun => Sys2Proof.Machine.execKinematicsRun s
  | .kinematicsOverrun => Sys2Proof.Machine.execKinematicsOverrun s
  | .trackCopy => Sys2Proof.Machine.execTrackCopy s
  | .trackTimeout src => Sys2Proof.Machine.execTrackTimeout src s
  | .distanceTesting reach => Sys2Proof.Machine.execDistanceTesting reach s
  | .distanceOverrun => Sys2Proof.Machine.execDistanceOverrun s
  | .distanceUnitFault unit => Sys2Proof.Machine.execDistanceUnitFault unit s
  | .separationEvaluation => Sys2Proof.Machine.execSeparationEvaluation s
  | .separationOverrun => Sys2Proof.Machine.execSeparationOverrun s
  | .channelBCrossCheck => Sys2Proof.Machine.execChannelBCrossCheck s
  | .ssmBLate => Sys2Proof.Machine.execSsmBLate s
  | .speedOverrideSwitch => Sys2Proof.Machine.execSpeedOverrideSwitch s
  | .autoResume c => Sys2Proof.Machine.execAutoResume c s
  | .stopMeasured c => Sys2Proof.Machine.execStopMeasured c s
  | .commitRequest req index sub cycle => Sys2Proof.Machine.execCommitRequest req index sub cycle s
  | .commitCutoff => Sys2Proof.Machine.execCommitCutoff s
  | .bankSwitch index sub => Sys2Proof.Machine.execBankSwitch index sub s
  | .heldCommitJudged => Sys2Proof.Machine.execHeldCommitJudged s
  | .cpiFire e => Sys2Proof.Machine.execCpiFire e s
  | .copyActive n mask => Sys2Proof.Machine.execCopyActive n mask s
  | .moveAbs n p => Sys2Proof.Machine.execMoveAbs n p s
  | .moveRel n p => Sys2Proof.Machine.execMoveRel n p s
  | .velocity n p => Sys2Proof.Machine.execVelocity n p s
  | .hold n => Sys2Proof.Machine.execHold n s
  | .stop n p => Sys2Proof.Machine.execStop n p s
  | .quickStop n => Sys2Proof.Machine.execQuickStop n s
  | .home n => Sys2Proof.Machine.execHome n s
  | .gear n => Sys2Proof.Machine.execGear n s
  | .follow n => Sys2Proof.Machine.execFollow n s
  | .switchOn n b => Sys2Proof.Machine.execSwitchOn n b s
  | .enable n b => Sys2Proof.Machine.execEnable n b s
  | .faultAck n => Sys2Proof.Machine.execFaultAck n s
  | .testReq n b => Sys2Proof.Machine.execTestReq n b s
  | .planEnd n => Sys2Proof.Machine.execPlanEnd n s
  | .standstill n => Sys2Proof.Machine.execStandstill n s
  | .limitsWrite n obj sub value => Sys2Proof.Machine.execLimitsWrite n obj sub value s
  | .sourceLost n => Sys2Proof.Machine.execSourceLost n s
  | .append c record => Sys2Proof.Machine.execAppend c record s
  | .segmentComplete c => Sys2Proof.Machine.execSegmentComplete c s
  | .run c => Sys2Proof.Machine.execRun c s
  | .pause c => Sys2Proof.Machine.execPause c s
  | .flush c => Sys2Proof.Machine.execFlush c s
  | .abort c => Sys2Proof.Machine.execAbort c s
  | .abortComplete c => Sys2Proof.Machine.execAbortComplete c s
  | .rawTransition input level raw => Sys2Proof.Machine.execRawTransition input level raw s
  | .qualifiedEdge n role level raw => Sys2Proof.Machine.execQualifiedEdge n role level raw s
  | .indexPulse n raw => Sys2Proof.Machine.execIndexPulse n raw s
  | .hardStopDetected n => Sys2Proof.Machine.execHardStopDetected n s
  | .stuckActive n role => Sys2Proof.Machine.execStuckActive n role s
  | .latchArm n edge => Sys2Proof.Machine.execLatchArm n edge s
  | .latchResult n => Sys2Proof.Machine.execLatchResult n s
  | .request c z => Sys2Proof.Machine.execRequest c z s
  | .release c z => Sys2Proof.Machine.execRelease c z s
  | .forceRelease req z => Sys2Proof.Machine.execForceRelease req z s
  | .injectionStart g => Sys2Proof.Machine.execInjectionStart g s
  | .injectionStop g => Sys2Proof.Machine.execInjectionStop g s
  | .injectionDone g => Sys2Proof.Machine.execInjectionDone g s
  | .captureArm g => Sys2Proof.Machine.execCaptureArm g s
  | .captureRow g => Sys2Proof.Machine.execCaptureRow g s
  | .captureComplete g => Sys2Proof.Machine.execCaptureComplete g s
  | .captureStop g => Sys2Proof.Machine.execCaptureStop g s
  | .lengthWrite g len => Sys2Proof.Machine.execLengthWrite g len s
  | .jobRun j => Sys2Proof.Machine.execJobRun j s
  | .jobStart j e => Sys2Proof.Machine.execJobStart j e s
  | .jobComplete j => Sys2Proof.Machine.execJobComplete j s
  | .trackerEnable t en => Sys2Proof.Machine.execTrackerEnable t en s
  | .trackerStep t => Sys2Proof.Machine.execTrackerStep t s
  | .trackerUpdate t => Sys2Proof.Machine.execTrackerUpdate t s
  | .engineMode e mode => Sys2Proof.Machine.execEngineMode e mode s
  | .libraryReload e => Sys2Proof.Machine.execLibraryReload e s
  | .engineStart e => Sys2Proof.Machine.execEngineStart e s
  | .engineStop e => Sys2Proof.Machine.execEngineStop e s
  | .engineReset e => Sys2Proof.Machine.execEngineReset e s
  | .aeWatchdog e => Sys2Proof.Machine.execAeWatchdog e s
  | .waitWake e => Sys2Proof.Machine.execWaitWake e s
  | .doorbell e bits => Sys2Proof.Machine.execDoorbell e bits s
  | .signalClear e bits => Sys2Proof.Machine.execSignalClear e bits s
  | .aeNop e => Sys2Proof.Machine.execAeNop e s
  | .aeLd e => Sys2Proof.Machine.execAeLd e s
  | .aeSt e => Sys2Proof.Machine.execAeSt e s
  | .aeLdxy e => Sys2Proof.Machine.execAeLdxy e s
  | .aeFtap e => Sys2Proof.Machine.execAeFtap e s
  | .aeLdi e => Sys2Proof.Machine.execAeLdi e s
  | .aeMov e => Sys2Proof.Machine.execAeMov e s
  | .aeMva e => Sys2Proof.Machine.execAeMva e s
  | .aeMvda e => Sys2Proof.Machine.execAeMvda e s
  | .aeAreg e => Sys2Proof.Machine.execAeAreg e s
  | .aeMvta e => Sys2Proof.Machine.execAeMvta e s
  | .aeMvfa e => Sys2Proof.Machine.execAeMvfa e s
  | .aeConj e => Sys2Proof.Machine.execAeConj e s
  | .aeXch e => Sys2Proof.Machine.execAeXch e s
  | .aeAdd e => Sys2Proof.Machine.execAeAdd e s
  | .aeSub e => Sys2Proof.Machine.execAeSub e s
  | .aeNeg e => Sys2Proof.Machine.execAeNeg e s
  | .aeAbs e => Sys2Proof.Machine.execAeAbs e s
  | .aeMax e => Sys2Proof.Machine.execAeMax e s
  | .aeMin e => Sys2Proof.Machine.execAeMin e s
  | .aeAnd e => Sys2Proof.Machine.execAeAnd e s
  | .aeOr e => Sys2Proof.Machine.execAeOr e s
  | .aeXor e => Sys2Proof.Machine.execAeXor e s
  | .aeShl e => Sys2Proof.Machine.execAeShl e s
  | .aeShr e => Sys2Proof.Machine.execAeShr e s
  | .aeSra e => Sys2Proof.Machine.execAeSra e s
  | .aeCmp e => Sys2Proof.Machine.execAeCmp e s
  | .aeBexp e => Sys2Proof.Machine.execAeBexp e s
  | .aeAddsub e => Sys2Proof.Machine.execAeAddsub e s
  | .aePlog e => Sys2Proof.Machine.execAePlog e s
  | .aeMpy e => Sys2Proof.Machine.execAeMpy e s
  | .aeMac e => Sys2Proof.Machine.execAeMac e s
  | .aeMsu e => Sys2Proof.Machine.execAeMsu e s
  | .aeCmpy32 e => Sys2Proof.Machine.execAeCmpy32 e s
  | .aeCmac32 e => Sys2Proof.Machine.execAeCmac32 e s
  | .aeCmpy16 e => Sys2Proof.Machine.execAeCmpy16 e s
  | .aeCmac16 e => Sys2Proof.Machine.execAeCmac16 e s
  | .aeCmul32 e => Sys2Proof.Machine.execAeCmul32 e s
  | .aeCmul16 e => Sys2Proof.Machine.execAeCmul16 e s
  | .aeAclr e => Sys2Proof.Machine.execAeAclr e s
  | .aeAsh e => Sys2Proof.Machine.execAeAsh e s
  | .aeBr e => Sys2Proof.Machine.execAeBr e s
  | .aeCall e => Sys2Proof.Machine.execAeCall e s
  | .aeRet e => Sys2Proof.Machine.execAeRet e s
  | .aeLoop e => Sys2Proof.Machine.execAeLoop e s
  | .aeHalt e => Sys2Proof.Machine.execAeHalt e s
  | .aeSig e => Sys2Proof.Machine.execAeSig e s
  | .aeWait e => Sys2Proof.Machine.execAeWait e s
  | .ask h after => Sys2Proof.Machine.execAsk h after s
  | .itemDispatch h => Sys2Proof.Machine.execItemDispatch h s
  | .askTimeout h irq => Sys2Proof.Machine.execAskTimeout h irq s
  | .complete h value => Sys2Proof.Machine.execComplete h value s
  | .resume h value => Sys2Proof.Machine.execResume h value s
  | .submit h desc => Sys2Proof.Machine.execSubmit h desc s
  | .mapDone value => Sys2Proof.Machine.execMapDone value s
  | .mapFail value => Sys2Proof.Machine.execMapFail value s
  | .deadlineMiss entry c => Sys2Proof.Machine.execDeadlineMiss entry c s
  | .pageFault h r m => Sys2Proof.Machine.execPageFault h r m s
  | .prefetchPush h => Sys2Proof.Machine.execPrefetchPush h s
  | .journalRecordWritten slot => Sys2Proof.Machine.execJournalRecordWritten slot s
  | .coreLoss what k c => Sys2Proof.Machine.execCoreLoss what k c s
  | .retireGraceExpiry k => Sys2Proof.Machine.execRetireGraceExpiry k s
  | .sfenceVma h => Sys2Proof.Machine.execSfenceVma h s
  | .fenceI h => Sys2Proof.Machine.execFenceI h s
  | .dmaStart ch => Sys2Proof.Machine.execDmaStart ch s
  | .dmaResume ch => Sys2Proof.Machine.execDmaResume ch s
  | .dmaStop ch off => Sys2Proof.Machine.execDmaStop ch off s
  | .dmaAbandon ch => Sys2Proof.Machine.execDmaAbandon ch s
  | .dmaDescriptorComplete ch => Sys2Proof.Machine.execDmaDescriptorComplete ch s
  | .dmaFault ch off cause write => Sys2Proof.Machine.execDmaFault ch off cause write s
  | .iotlbInval value => Sys2Proof.Machine.execIotlbInval value s
  | .syncFrame f => Sys2Proof.Machine.execSyncFrame f s
  | .coldstartFrame f => Sys2Proof.Machine.execColdstartFrame f s
  | .cyclicFrame f => Sys2Proof.Machine.execCyclicFrame f s
  | .gatherFrame f => Sys2Proof.Machine.execGatherFrame f s
  | .acyclicFrame f => Sys2Proof.Machine.execAcyclicFrame f s
  | .safetyFrame f => Sys2Proof.Machine.execSafetyFrame f s
  | .linkDelayRequest f depart => Sys2Proof.Machine.execLinkDelayRequest f depart s
  | .linkDelayResponse f skipped latency => Sys2Proof.Machine.execLinkDelayResponse f skipped latency s
  | .frameTransmit e agree => Sys2Proof.Machine.execFrameTransmit e agree s
  | .slotOccurrence e => Sys2Proof.Machine.execSlotOccurrence e s
  | .syncCorrection => Sys2Proof.Machine.execSyncCorrection s
  | .listenTimeout => Sys2Proof.Machine.execListenTimeout s
  | .coldstartLead => Sys2Proof.Machine.execColdstartLead s
  | .integrationComplete => Sys2Proof.Machine.execIntegrationComplete s
  | .integrationTimeout => Sys2Proof.Machine.execIntegrationTimeout s
  | .linkWindow off => Sys2Proof.Machine.execLinkWindow off s
  | .netControl value => Sys2Proof.Machine.execNetControl value s
  | .linkDown p => Sys2Proof.Machine.execLinkDown p s
  | .linkUp p => Sys2Proof.Machine.execLinkUp p s
  | .safeConnTimeout k => Sys2Proof.Machine.execSafeConnTimeout k s
  | .acycTimeout txn => Sys2Proof.Machine.execAcycTimeout txn s
  | .wallRate rate => Sys2Proof.Machine.execWallRate rate s
  | .wallStepNs ns => Sys2Proof.Machine.execWallStepNs ns s
  | .wallSet time => Sys2Proof.Machine.execWallSet time s
  | .timeSnapshot => Sys2Proof.Machine.execTimeSnapshot s
  | .ptpMode mode => Sys2Proof.Machine.execPtpMode mode s
  | .ptpSync p raw m => Sys2Proof.Machine.execPtpSync p raw m s
  | .ptpFollowUp p m => Sys2Proof.Machine.execPtpFollowUp p m s
  | .ptpPdelayReq p raw m txRaw => Sys2Proof.Machine.execPtpPdelayReq p raw m txRaw s
  | .ptpPdelayResp p raw m => Sys2Proof.Machine.execPtpPdelayResp p raw m s
  | .ptpPdelayRespFollowUp p m => Sys2Proof.Machine.execPtpPdelayRespFollowUp p m s
  | .ptpAnnounce p m => Sys2Proof.Machine.execPtpAnnounce p m s
  | .ptpDelayReq p => Sys2Proof.Machine.execPtpDelayReq p s
  | .ptpSyncTransmit p raw => Sys2Proof.Machine.execPtpSyncTransmit p raw s
  | .arm e => Sys2Proof.Machine.execArm e s
  | .disarm e => Sys2Proof.Machine.execDisarm e s
  | .actionTaken e => Sys2Proof.Machine.execActionTaken e s
  | .setDo e => Sys2Proof.Machine.execSetDo e s
  | .clearDo e => Sys2Proof.Machine.execClearDo e s
  | .armLatch e => Sys2Proof.Machine.execArmLatch e s
  | .raiseIrq e => Sys2Proof.Machine.execRaiseIrq e s
  | .writeOd e => Sys2Proof.Machine.execWriteOd e s
  | .commitAction e => Sys2Proof.Machine.execCommitAction e s
  | .safeInputQualified inp level raw => Sys2Proof.Machine.execSafeInputQualified inp level raw s
  | .siDiscrepancy k => Sys2Proof.Machine.execSiDiscrepancy k s
  | .demandExchange axes outs => Sys2Proof.Machine.execDemandExchange axes outs s
  | .channelLost ch => Sys2Proof.Machine.execChannelLost ch s
  | .testSlot k => Sys2Proof.Machine.execTestSlot k s
  | .pulseEnd k low => Sys2Proof.Machine.execPulseEnd k low s
  | .soReadbackFault k => Sys2Proof.Machine.execSoReadbackFault k s
  | .ack k high => Sys2Proof.Machine.execAck k high s
  | .axisMonitoring => Sys2Proof.Machine.execAxisMonitoring s
  | .ssTMaxExpiry n => Sys2Proof.Machine.execSsTMaxExpiry n s
  | .ss2Timeout n => Sys2Proof.Machine.execSs2Timeout n s
  | .slsActive chain n => Sys2Proof.Machine.execSlsActive chain n s
  | .sessionOpen req data => Sys2Proof.Machine.execSessionOpen req data s
  | .sessionClose req => Sys2Proof.Machine.execSessionClose req s
  | .sessionTimeout => Sys2Proof.Machine.execSessionTimeout s
  | .passwordSet req data => Sys2Proof.Machine.execPasswordSet req data s
  | .partnerListenEnd => Sys2Proof.Machine.execPartnerListenEnd s
  | .duplexSecondaryTimeout => Sys2Proof.Machine.execDuplexSecondaryTimeout s
  | .shadowCheck agree => Sys2Proof.Machine.execShadowCheck agree s
  | .hoardWriteCapture addr data => Sys2Proof.Machine.execHoardWriteCapture addr data s
  | .generationClose => Sys2Proof.Machine.execGenerationClose s
  | .ckptLag => Sys2Proof.Machine.execCkptLag s
  | .ckptAckTimeout => Sys2Proof.Machine.execCkptAckTimeout s
  | .pageRecord f => Sys2Proof.Machine.execPageRecord f s
  | .ctrlRecord f => Sys2Proof.Machine.execCtrlRecord f s
  | .journalRecord f => Sys2Proof.Machine.execJournalRecord f s
  | .configRecord f => Sys2Proof.Machine.execConfigRecord f s
  | .closeRecord f => Sys2Proof.Machine.execCloseRecord f s
  | .sweepRecord f => Sys2Proof.Machine.execSweepRecord f s
  | .heartbeat f => Sys2Proof.Machine.execHeartbeat f s
  | .failRecord f => Sys2Proof.Machine.execFailRecord f s
  | .silenceEvaluation => Sys2Proof.Machine.execSilenceEvaluation s
  | .owlDecision => Sys2Proof.Machine.execOwlDecision s
  | .owlLost => Sys2Proof.Machine.execOwlLost s
  | .takeoverRelease => Sys2Proof.Machine.execTakeoverRelease s
  | .feedLoss inp => Sys2Proof.Machine.execFeedLoss inp s
  | .feedRestored inp => Sys2Proof.Machine.execFeedRestored inp s
  | .read req index sub => Sys2Proof.Machine.execRead req index sub s
  | .write req index sub data => Sys2Proof.Machine.execWrite req index sub data s
  | .dread req index sub off len => Sys2Proof.Machine.execDread req index sub off len s
  | .dwrite req index sub off total last data => Sys2Proof.Machine.execDwrite req index sub off total last data s
  | .dabort req index sub => Sys2Proof.Machine.execDabort req index sub s
  | .commit req cycle policy targets => Sys2Proof.Machine.execCommit req cycle policy targets s
  | .digest req index sub => Sys2Proof.Machine.execDigest req index sub s
  | .enumerate req index sub count => Sys2Proof.Machine.execEnumerate req index sub count s
  | .odTransferTimeout index sub => Sys2Proof.Machine.execOdTransferTimeout index sub s
  | .reqTail ring value => Sys2Proof.Machine.execReqTail ring value s
  | .size ring value => Sys2Proof.Machine.execSize ring value s
  | .rspHead ring value => Sys2Proof.Machine.execRspHead ring value s
  | .ringRequestFetch ring entry pdu ok => Sys2Proof.Machine.execRingRequestFetch ring entry pdu ok s
  | .hostDmaStart ch => Sys2Proof.Machine.execHostDmaStart ch s
  | .hostDmaStop ch => Sys2Proof.Machine.execHostDmaStop ch s
  | .hostDmaComplete ch data => Sys2Proof.Machine.execHostDmaComplete ch data s
  | .windowRead req offset size => Sys2Proof.Machine.execWindowRead req offset size s
  | .windowWrite req offset data => Sys2Proof.Machine.execWindowWrite req offset data s
  | .udpDatagram p peer dst data => Sys2Proof.Machine.execUdpDatagram p peer dst data s
  | .devControlRun => Sys2Proof.Machine.execDevControlRun s
  | .devControlSafe => Sys2Proof.Machine.execDevControlSafe s
  | .devControlConfig => Sys2Proof.Machine.execDevControlConfig s
  | .validate => Sys2Proof.Machine.execValidate s
  | .devControlReset => Sys2Proof.Machine.execDevControlReset s
  | .storeGeneration ok => Sys2Proof.Machine.execStoreGeneration ok s
  | .storeFlush ok => Sys2Proof.Machine.execStoreFlush ok s
  | .registerWrite req place data => Sys2Proof.Machine.execRegisterWrite req place data s
  | .resetRelease feeds secs mv => Sys2Proof.Machine.execResetRelease feeds secs mv s
  | .bootStart fail unit => Sys2Proof.Machine.execBootStart fail unit s
  | .bootStepTimeout step => Sys2Proof.Machine.execBootStepTimeout step s
  | .updateOpen req data => Sys2Proof.Machine.execUpdateOpen req data s
  | .bind req token => Sys2Proof.Machine.execBind req token s
  | .imageStaged => Sys2Proof.Machine.execImageStaged s
  | .updateAbandon req => Sys2Proof.Machine.execUpdateAbandon req s
  | .updateSessionTimeout => Sys2Proof.Machine.execUpdateSessionTimeout s
  | .activate req value => Sys2Proof.Machine.execActivate req value s
  | .confirm req => Sys2Proof.Machine.execConfirm req s
  | .lpddrRetry => Sys2Proof.Machine.execLpddrRetry s
  | .appKeyEnroll req data => Sys2Proof.Machine.execAppKeyEnroll req data s
  | .challenge => Sys2Proof.Machine.execChallenge s
  | .unlock token => Sys2Proof.Machine.execUnlock token s
  | .idcode => Sys2Proof.Machine.execIdcode s
  | .bypass => Sys2Proof.Machine.execBypass s
  | .samplePreload => Sys2Proof.Machine.execSamplePreload s
  | .attestRequest nonce => Sys2Proof.Machine.execAttestRequest nonce s
  | .reportReady => Sys2Proof.Machine.execReportReady s
  | .hartCounterOverflow h inp r m => Sys2Proof.Machine.execHartCounterOverflow h inp r m s
  | .counterOverflow b inp => Sys2Proof.Machine.execCounterOverflow b inp s
  | .counterSnapshot => Sys2Proof.Machine.execCounterSnapshot s
  | .snapshotLatch => Sys2Proof.Machine.execSnapshotLatch s
  | .freeze on => Sys2Proof.Machine.execFreeze on s
  | .freezeApply => Sys2Proof.Machine.execFreezeApply s
  | .windowNs ns => Sys2Proof.Machine.execWindowNs ns s
  | .bandwidthWindowEnd bytes => Sys2Proof.Machine.execBandwidthWindowEnd bytes s
  | .correctedError kind n addr sym pat => Sys2Proof.Machine.execCorrectedError kind n addr sym pat s
  | .uncorrectableError kind n addr who e c => Sys2Proof.Machine.execUncorrectableError kind n addr who e c s
  | .scrubRead kind n addr err pat raced => Sys2Proof.Machine.execScrubRead kind n addr err pat raced s
  | .sensorReading sensor n v => Sys2Proof.Machine.execSensorReading sensor n v s
  | .sparePolicyEvaluation => Sys2Proof.Machine.execSparePolicyEvaluation s
  | .retire value => Sys2Proof.Machine.execRetire value s
  | .pageRetired kind n => Sys2Proof.Machine.execPageRetired kind n s
  | .unitRetired kind n => Sys2Proof.Machine.execUnitRetired kind n s
  | .resetN step => Sys2Proof.Machine.execResetN step s
  | .perstN high => Sys2Proof.Machine.execPerstN high s
  | .powerLossStop step => Sys2Proof.Machine.execPowerLossStop step s
  | .refclkFault => Sys2Proof.Machine.execRefclkFault s
  | .bankPowerLoss b mv => Sys2Proof.Machine.execBankPowerLoss b mv s
  | .bankPowerRestored b mv => Sys2Proof.Machine.execBankPowerRestored b mv s
  | .lidTempReading code => Sys2Proof.Machine.execLidTempReading code s
  | .tempCritical => Sys2Proof.Machine.execTempCritical s
  | .vbatLoss => Sys2Proof.Machine.execVbatLoss s
  | .lockstepMismatch => Sys2Proof.Machine.execLockstepMismatch s
  | .rxDropOther f => Sys2Proof.Machine.execRxDropOther f s
  | .vbatApplied => Sys2Proof.Machine.execVbatApplied s
  | .sessionLockoutEnd => Sys2Proof.Machine.execSessionLockoutEnd s
  | .onCheckTimeout k => Sys2Proof.Machine.execOnCheckTimeout k s
  | .plicClaim src => Sys2Proof.Machine.execPlicClaim src s
  | .accessFault h kind addr size r m => Sys2Proof.Machine.execAccessFault h kind addr size r m s
  | .illegalInstruction h r tval m => Sys2Proof.Machine.execIllegalInstruction h r tval m s
  | .ptpPdelayReqTransmit p raw => Sys2Proof.Machine.execPtpPdelayReqTransmit p raw s
  | .ptpAnnounceTransmit p => Sys2Proof.Machine.execPtpAnnounceTransmit p s
  | .announceReceiptTimeout p => Sys2Proof.Machine.execAnnounceReceiptTimeout p s

end Sys2Proof.Machine
end

