-- ==== Sys2Proof/WellFormed.lean ====
section
/-! DEFINITION. Which commands are well formed: their operands name items the device has and fit their widths. A command that is
not is still answered by the machine (an access to no entry completes with its code, an event of no item changes nothing). -/

namespace Sys2Proof

/-! ## One check an item: the number lies below how many there are -/

/-- Below 128: axes (R1). -/
def okAxis (x : Nat) : Bool := decide (x < 128)
/-- Below 16: kinematic chains (R137). -/
def okChain (x : Nat) : Bool := decide (x < 16)
/-- Below 4: control levels (R47). -/
def okLevel (x : Nat) : Bool := decide (x < 4)
/-- Below 8: control lanes (R81). -/
def okLane (x : Nat) : Bool := decide (x < 8)
/-- Below 8: sensor sources (R167). -/
def okSource (x : Nat) : Bool := decide (x < 8)
/-- Below 64: shared zones (R145). -/
def okZone (x : Nat) : Bool := decide (x < 64)
/-- Below 16: injection generators and capture sets (R196, R202). -/
def okGroup (x : Nat) : Bool := decide (x < 16)
/-- Below 8: analysis jobs (R207). -/
def okJob (x : Nat) : Bool := decide (x < 8)
/-- Below 32: notch trackers (R214). -/
def okTracker (x : Nat) : Bool := decide (x < 32)
/-- Below 48: harts (R250). -/
def okHart (x : Nat) : Bool := decide (x < 48)
/-- Below 16: cycle-point interrupts (R40). -/
def okCyclePoint (x : Nat) : Bool := decide (x < 16)
/-- Below 256: scheduled actions (R356). -/
def okAction (x : Nat) : Bool := decide (x < 256)
/-- Below 4096: schedule entries (R301). -/
def okSlot (x : Nat) : Bool := decide (x < 4096)
/-- Below 2: analysis engines (R221). -/
def okEngine (x : Nat) : Bool := decide (x < 2)
/-- Below 2: safety channels (R365). -/
def okChannel (x : Nat) : Bool := decide (x < 2)
/-- Below 4: host DMA channels (R452). -/
def okHostDma (x : Nat) : Bool := decide (x < 4)
/-- Below 32: DMA channels (R284). -/
def okDma (x : Nat) : Bool := decide (x < 32)
/-- Below 2: host ports (R339). -/
def okHostPort (x : Nat) : Bool := decide (x < 2)
/-- Below 4: TurriLink ports (R298). -/
def okPort (x : Nat) : Bool := decide (x < 4)
/-- Below 7: TurriLink ports and cross-link lanes (R554). -/
def okLinkPort (x : Nat) : Bool := decide (x < 7)
/-- Below 16: safe input pins (R370). -/
def okSafePin (x : Nat) : Bool := decide (x < 16)
/-- Below 2: feeds (R430). -/
def okFeed (x : Nat) : Bool := decide (x < 2)
/-- Below 8: counters of a block (R501). -/
def okCounter (x : Nat) : Bool := decide (x < 8)
/-- Below 75: counter blocks (R501). -/
def okBlock (x : Nat) : Bool := decide (x < 75)
/-- Below 4: I/O banks (R538). -/
def okBank (x : Nat) : Bool := decide (x < 4)
/-- Below 128: safety connections (R326). -/
def okConn (x : Nat) : Bool := decide (x < 128)
/-- Below 24: cores (R250). -/
def okCore (x : Nat) : Bool := decide (x < 24)
/-- Below 8: safe functions and safe outputs (R371, R375). -/
def okSafeItem (x : Nat) : Bool := decide (x < 8)
/-- Below 3: inputs an axis names (R122). -/
def okRole (x : Nat) : Bool := decide (x < 3)
/-- Below 65536: indices (R435). -/
def okIndex (x : Nat) : Bool := decide (x < 65536)
/-- Below 256: sub-indices (R435). -/
def okSub (x : Nat) : Bool := decide (x < 256)
/-- Below 17: distance units (R515). -/
def okDistanceUnit (x : Nat) : Bool := decide (x < 17)
/-- Below 15: boot steps, 0 naming none (R468). -/
def okStep (x : Nat) : Bool := decide (x < 15)
/-- Below 112: ring pairs: 0 to 15 of the host (R449), 64 and on of the harts (R455). -/
def okRing (x : Nat) : Bool := decide (x < 112)
/-- Below 31250: nanoseconds of a tick (R17). -/
def okOffset (x : Nat) : Bool := decide (x < 31250)
/-- Below 2^40: physical addresses (R255). -/
def okPhysical (x : Nat) : Bool := decide (x < 2 ^ 40)
/-- Below 2^64: values of 64 bits. -/
def okU64 (x : Nat) : Bool := decide (x < 2 ^ 64)

/-! ## Byte strings and operand records -/

/-- A record of a fixed length. -/
def okRecord (n : Nat) (b : Bytes) : Bool := b.length == n
/-- The data of an access: at most 16 MiB (R442). -/
def okData (b : Bytes) : Bool := decide (b.length ≤ 0x1000000)
/-- A message or datagram that an Ethernet frame holds. -/
def okMessage (b : Bytes) : Bool := decide (b.length ≤ 1500)
/-- A path of R440, or the module itself. -/
def Requester.wf (r : Requester) : Bool := decide (r.path ≤ 4)
/-- A frame of a TurriLink port, of a length Ethernet allows. -/
def FrameIn.wf (f : FrameIn) : Bool := decide (f.port < 4 ∧ f.raw < 2 ^ 64 ∧ 14 ≤ f.bytes.length ∧ f.bytes.length ≤ 1518)
/-- 32 digital inputs, analogue codes of 18 bits, encoder counts of 32 bits. -/
def SampleIn.wf (s : SampleIn) : Bool :=
  decide (s.di < 2 ^ 32) && s.ai.all (fun v => decide (-(2 ^ 17) ≤ v ∧ v < 2 ^ 17)) &&
    s.enc.all (fun v => decide (-(2 ^ 31) ≤ v ∧ v < 2 ^ 31))
/-- FIX64 parameters and a sequence number of 16 bits. -/
def MoveParams.wf (p : MoveParams) : Bool :=
  [p.target, p.vel, p.acc, p.jerk].all (fun v => decide (-(2 ^ 63) ≤ v ∧ v < 2 ^ 63)) && decide (p.seq < 2 ^ 16)
/-- 31 integer and 32 floating-point registers of 64 bits, a privilege there is. -/
def HartContext.wf (c : HartContext) : Bool :=
  decide (c.x.length ≤ 31 ∧ c.f.length ≤ 32 ∧ c.csr.pmpcfg.length ≤ 16 ∧ c.csr.pmpaddr.length ≤ 16 ∧
    (c.priv = 0 ∨ c.priv = 1 ∨ c.priv = 3)) &&
    (c.x ++ c.f ++ [c.pc, c.sstatus, c.satp, c.va, c.cause, c.csr.mstatus, c.csr.medeleg, c.csr.mideleg, c.csr.mtvec, c.csr.stvec] ++
      c.csr.pmpcfg ++ c.csr.pmpaddr).all fun v => decide (v < 2 ^ 64)
/-- A place of the object dictionary, of BAR0 or of a hart's ring block. -/
def RegPlace.wf : RegPlace → Bool
  | .entry index sub => okIndex index && okSub sub
  | .bar0 offset => decide (offset < 0x10000)
  | .hartRing h offset => okHart h && decide (offset < 0x1000)

/-- The check of a command. (DESIGN CHOICE, log 19, safe.) -/
def Instr.wf : Instr → Bool
  | .sampleInstant si => si.wf
  | .commandLatch _ => true
  | .profileOverrun => true
  | .controlEngineRun => true
  | .controlOverrun => true
  | .feedbackLost n => okAxis n
  | .feedbackFrozen n => okAxis n
  | .satWarn n level => okAxis n && okLevel level
  | .satFault n level => okAxis n && okLevel level
  | .laneFault lane => okLane lane
  | .laneSpared lane => okLane lane
  | .kinematicsRun => true
  | .kinematicsOverrun => true
  | .trackCopy => true
  | .trackTimeout src => okSource src
  | .distanceTesting _ => true
  | .distanceOverrun => true
  | .distanceUnitFault unit => okDistanceUnit unit
  | .separationEvaluation => true
  | .separationOverrun => true
  | .channelBCrossCheck => true
  | .ssmBLate => true
  | .speedOverrideSwitch => true
  | .autoResume c => okChain c
  | .stopMeasured c => okChain c
  | .commitRequest req index sub cycle => req.wf && okIndex index && okSub sub && okU64 cycle
  | .commitCutoff => true
  | .bankSwitch index sub => okIndex index && okSub sub
  | .heldCommitJudged => true
  | .cpiFire e => okCyclePoint e
  | .copyActive n mask => okAxis n && okU64 mask
  | .moveAbs n p => okAxis n && p.wf
  | .moveRel n p => okAxis n && p.wf
  | .velocity n p => okAxis n && p.wf
  | .hold n => okAxis n
  | .stop n p => okAxis n && p.wf
  | .quickStop n => okAxis n
  | .home n => okAxis n
  | .gear n => okAxis n
  | .follow n => okAxis n
  | .switchOn n _ => okAxis n
  | .enable n _ => okAxis n
  | .faultAck n => okAxis n
  | .testReq n _ => okAxis n
  | .planEnd n => okAxis n
  | .standstill n => okAxis n
  | .limitsWrite n _ sub _ => okAxis n && okSub sub
  | .sourceLost n => okAxis n
  | .append c record => okChain c && okRecord 144 record
  | .segmentComplete c => okChain c
  | .run c => okChain c
  | .pause c => okChain c
  | .flush c => okChain c
  | .abort c => okChain c
  | .abortComplete c => okChain c
  | .rawTransition _ _ raw => okU64 raw
  | .qualifiedEdge n role _ raw => okAxis n && okRole role && okU64 raw
  | .indexPulse n raw => okAxis n && okU64 raw
  | .hardStopDetected n => okAxis n
  | .stuckActive n role => okAxis n && okRole role
  | .latchArm n _ => okAxis n
  | .latchResult n => okAxis n
  | .request c z => okChain c && okZone z
  | .release c z => okChain c && okZone z
  | .forceRelease req z => req.wf && okZone z
  | .injectionStart g => okGroup g
  | .injectionStop g => okGroup g
  | .injectionDone g => okGroup g
  | .captureArm g => okGroup g
  | .captureRow g => okGroup g
  | .captureComplete g => okGroup g
  | .captureStop g => okGroup g
  | .lengthWrite g _ => okGroup g
  | .jobRun j => okJob j
  | .jobStart j e => okJob j && okEngine e
  | .jobComplete j => okJob j
  | .trackerEnable t _ => okTracker t
  | .trackerStep t => okTracker t
  | .trackerUpdate t => okTracker t
  | .engineMode e _ => okEngine e
  | .libraryReload e => okEngine e
  | .engineStart e => okEngine e
  | .engineStop e => okEngine e
  | .engineReset e => okEngine e
  | .aeWatchdog e => okEngine e
  | .waitWake e => okEngine e
  | .doorbell e bits => okEngine e && okU64 bits
  | .signalClear e bits => okEngine e && okU64 bits
  | .aeNop e => okEngine e
  | .aeLd e => okEngine e
  | .aeSt e => okEngine e
  | .aeLdxy e => okEngine e
  | .aeFtap e => okEngine e
  | .aeLdi e => okEngine e
  | .aeMov e => okEngine e
  | .aeMva e => okEngine e
  | .aeMvda e => okEngine e
  | .aeAreg e => okEngine e
  | .aeMvta e => okEngine e
  | .aeMvfa e => okEngine e
  | .aeConj e => okEngine e
  | .aeXch e => okEngine e
  | .aeAdd e => okEngine e
  | .aeSub e => okEngine e
  | .aeNeg e => okEngine e
  | .aeAbs e => okEngine e
  | .aeMax e => okEngine e
  | .aeMin e => okEngine e
  | .aeAnd e => okEngine e
  | .aeOr e => okEngine e
  | .aeXor e => okEngine e
  | .aeShl e => okEngine e
  | .aeShr e => okEngine e
  | .aeSra e => okEngine e
  | .aeCmp e => okEngine e
  | .aeBexp e => okEngine e
  | .aeAddsub e => okEngine e
  | .aePlog e => okEngine e
  | .aeMpy e => okEngine e
  | .aeMac e => okEngine e
  | .aeMsu e => okEngine e
  | .aeCmpy32 e => okEngine e
  | .aeCmac32 e => okEngine e
  | .aeCmpy16 e => okEngine e
  | .aeCmac16 e => okEngine e
  | .aeCmul32 e => okEngine e
  | .aeCmul16 e => okEngine e
  | .aeAclr e => okEngine e
  | .aeAsh e => okEngine e
  | .aeBr e => okEngine e
  | .aeCall e => okEngine e
  | .aeRet e => okEngine e
  | .aeLoop e => okEngine e
  | .aeHalt e => okEngine e
  | .aeSig e => okEngine e
  | .aeWait e => okEngine e
  | .ask h _ => okHart h
  | .itemDispatch h => okHart h
  | .askTimeout h _ => okHart h
  | .complete h value => okHart h && okU64 value
  | .resume h value => okHart h && okU64 value
  | .submit h desc => okHart h && okRecord 32 desc
  | .mapDone _ => true
  | .mapFail _ => true
  | .deadlineMiss _ c => c.wf
  | .pageFault h r m => okHart h && (r.under m).wf
  | .prefetchPush h => okHart h
  | .journalRecordWritten _ => true
  | .coreLoss _ k c => okCore k && c.wf
  | .retireGraceExpiry k => okCore k
  | .sfenceVma h => okHart h
  | .fenceI h => okHart h
  | .dmaStart ch => okDma ch
  | .dmaResume ch => okDma ch
  | .dmaStop ch off => okDma ch && okOffset off
  | .dmaAbandon ch => okDma ch
  | .dmaDescriptorComplete ch => okDma ch
  | .dmaFault ch off _ _ => okDma ch && okOffset off
  | .iotlbInval _ => true
  | .syncFrame f => f.wf
  | .coldstartFrame f => f.wf
  | .cyclicFrame f => f.wf
  | .gatherFrame f => f.wf
  | .acyclicFrame f => f.wf
  | .safetyFrame f => f.wf
  | .linkDelayRequest f depart => f.wf && okU64 depart
  | .linkDelayResponse f _ _ => f.wf
  | .frameTransmit e _ => okSlot e
  | .slotOccurrence e => okSlot e
  | .syncCorrection => true
  | .listenTimeout => true
  | .coldstartLead => true
  | .integrationComplete => true
  | .integrationTimeout => true
  | .linkWindow off => okOffset off
  | .netControl value => okU64 value
  | .linkDown p => okLinkPort p
  | .linkUp p => okPort p
  | .safeConnTimeout k => okConn k
  | .acycTimeout _ => true
  | .wallRate _ => true
  | .wallStepNs _ => true
  | .wallSet _ => true
  | .timeSnapshot => true
  | .ptpMode _ => true
  | .ptpSync p raw m => okHostPort p && okU64 raw && okMessage m
  | .ptpFollowUp p m => okHostPort p && okMessage m
  | .ptpPdelayReq p raw m txRaw => okHostPort p && okU64 raw && okMessage m && okU64 txRaw
  | .ptpPdelayResp p raw m => okHostPort p && okU64 raw && okMessage m
  | .ptpPdelayRespFollowUp p m => okHostPort p && okMessage m
  | .ptpAnnounce p m => okHostPort p && okMessage m
  | .ptpDelayReq p => okHostPort p
  | .ptpSyncTransmit p raw => okHostPort p && okU64 raw
  | .arm e => okAction e
  | .disarm e => okAction e
  | .actionTaken e => okAction e
  | .setDo e => okAction e
  | .clearDo e => okAction e
  | .armLatch e => okAction e
  | .raiseIrq e => okAction e
  | .writeOd e => okAction e
  | .commitAction e => okAction e
  | .safeInputQualified i _ raw => okSafePin i && okU64 raw
  | .siDiscrepancy k => okSafeItem k
  | .demandExchange _ _ => true
  | .channelLost ch => okChannel ch
  | .testSlot k => okSafeItem k
  | .pulseEnd k _ => okSafeItem k
  | .soReadbackFault k => okSafeItem k
  | .ack k _ => okSafeItem k
  | .axisMonitoring => true
  | .ssTMaxExpiry n => okAxis n
  | .ss2Timeout n => okAxis n
  | .slsActive chain n => (if chain then okChain n else okAxis n)
  | .sessionOpen req data => req.wf && okData data
  | .sessionClose req => req.wf
  | .sessionTimeout => true
  | .passwordSet req data => req.wf && okData data
  | .partnerListenEnd => true
  | .duplexSecondaryTimeout => true
  | .shadowCheck _ => true
  | .hoardWriteCapture addr data => okPhysical addr && okData data
  | .generationClose => true
  | .ckptLag => true
  | .ckptAckTimeout => true
  | .pageRecord f => f.wf
  | .ctrlRecord f => f.wf
  | .journalRecord f => f.wf
  | .configRecord f => f.wf
  | .closeRecord f => f.wf
  | .sweepRecord f => f.wf
  | .heartbeat f => f.wf
  | .failRecord f => f.wf
  | .silenceEvaluation => true
  | .owlDecision => true
  | .owlLost => true
  | .takeoverRelease => true
  | .feedLoss i => okFeed i
  | .feedRestored i => okFeed i
  | .read req index sub => req.wf && okIndex index && okSub sub
  | .write req index sub data => req.wf && okIndex index && okSub sub && okData data
  | .dread req index sub _ _ => req.wf && okIndex index && okSub sub
  | .dwrite req index sub _ _ _ data => req.wf && okIndex index && okSub sub && okData data
  | .dabort req index sub => req.wf && okIndex index && okSub sub
  | .commit req cycle _ _ => req.wf && okU64 cycle
  | .digest req index sub => req.wf && okIndex index && okSub sub
  | .enumerate req index sub _ => req.wf && okIndex index && okSub sub
  | .odTransferTimeout index sub => okIndex index && okSub sub
  | .reqTail ring value => okRing ring && okU64 value
  | .size ring value => okRing ring && okU64 value
  | .rspHead ring value => okRing ring && okU64 value
  | .ringRequestFetch ring entry pdu _ => okRing ring && okData entry && okData pdu
  | .hostDmaStart ch => okHostDma ch
  | .hostDmaStop ch => okHostDma ch
  | .hostDmaComplete ch data => okHostDma ch && okData data
  | .windowRead req _ _ => req.wf
  | .windowWrite req _ data => req.wf && okData data
  | .udpDatagram p _ _ data => okHostPort p && okMessage data
  | .devControlRun => true
  | .devControlSafe => true
  | .devControlConfig => true
  | .validate => true
  | .devControlReset => true
  | .storeGeneration _ => true
  | .storeFlush _ => true
  | .registerWrite req place data => req.wf && place.wf && okData data
  | .resetRelease _ _ _ => true
  | .bootStart _ _ => true
  | .bootStepTimeout step => okStep step
  | .updateOpen req data => req.wf && okData data
  | .bind req token => req.wf && okU64 token
  | .imageStaged => true
  | .updateAbandon req => req.wf
  | .updateSessionTimeout => true
  | .activate req value => req.wf && okU64 value
  | .confirm req => req.wf
  | .lpddrRetry => true
  | .appKeyEnroll req data => req.wf && okData data
  | .challenge => true
  | .unlock token => okData token
  | .idcode => true
  | .bypass => true
  | .samplePreload => true
  | .attestRequest nonce => okData nonce
  | .reportReady => true
  | .hartCounterOverflow h i r m => okHart h && okCounter i && (r.under m).wf
  | .counterOverflow b i => okBlock b && okCounter i
  | .counterSnapshot => true
  | .snapshotLatch => true
  | .freeze _ => true
  | .freezeApply => true
  | .windowNs ns => okU64 ns
  | .bandwidthWindowEnd _ => true
  | .correctedError _ _ _ _ _ => true
  | .uncorrectableError _ _ _ _ _ c => c.wf
  | .scrubRead _ _ _ _ _ _ => true
  | .sensorReading _ _ _ => true
  | .sparePolicyEvaluation => true
  | .retire value => okU64 value
  | .pageRetired _ _ => true
  | .unitRetired _ _ => true
  | .resetN step => okStep step
  | .perstN _ => true
  | .powerLossStop step => okStep step
  | .refclkFault => true
  | .bankPowerLoss b _ => okBank b
  | .bankPowerRestored b _ => okBank b
  | .lidTempReading _ => true
  | .tempCritical => true
  | .vbatLoss => true
  | .lockstepMismatch => true
  | .rxDropOther f => f.wf
  | .vbatApplied => true
  | .sessionLockoutEnd => true
  | .onCheckTimeout k => okSafeItem k
  | .plicClaim _ => true
  | .accessFault h _ _ _ r m => okHart h && (r.under m).wf
  | .illegalInstruction h r tval m => okHart h && (r.under m).wf && okU64 tval
  | .ptpPdelayReqTransmit p raw => okHostPort p && okU64 raw
  | .ptpAnnounceTransmit p => okHostPort p
  | .announceReceiptTimeout p => okHostPort p

end Sys2Proof
end

