-- ==== Sys2Proof/Safety.lean ====
section
/-! DEFINITION. What the statements call a good state, a good run and an effect. -/

namespace Sys2Proof

/-! ## Kinds of commands -/

/-- The events of the supplies, the reset pins and the lid, which act on a module without power or held in reset too, and the
instructions of the test access port, which it serves while it is held in reset (R492). -/
def Instr.ofSupply : Instr → Bool
  | .feedLoss .. | .feedRestored .. | .resetRelease .. | .resetN .. | .perstN .. | .powerLossStop .. | .lidTempReading ..
  | .vbatLoss .. | .vbatApplied .. | .idcode .. | .bypass .. | .samplePreload .. => true
  | _ => false

/-- The writes of a register that have a row of their own and name no requester: before the start has ended they do nothing. -/
def Instr.registerRow : Instr → Bool
  | .copyActive .. | .limitsWrite .. | .append .. | .latchArm .. | .request .. | .release .. | .injectionStop ..
  | .captureStop .. | .lengthWrite .. | .jobRun .. | .trackerEnable .. | .engineMode .. | .engineStart ..
  | .engineStop .. | .engineReset .. | .doorbell .. | .signalClear .. | .dmaStart .. | .dmaResume .. | .dmaStop ..
  | .dmaAbandon .. | .iotlbInval .. | .netControl .. | .wallRate .. | .wallStepNs .. | .wallSet .. | .timeSnapshot ..
  | .ptpMode .. | .arm .. | .disarm .. | .ack .. | .devControlRun .. | .devControlSafe .. | .devControlConfig ..
  | .validate .. | .storeFlush .. | .lpddrRetry .. | .challenge .. | .unlock .. | .attestRequest .. | .counterSnapshot ..
  | .freeze .. | .windowNs .. | .retire .. => true
  | _ => false

/-- The commands that concern the control of the cell alone. -/
def Instr.ofCell : Instr → Bool
  | .commandLatch .. | .profileOverrun .. | .controlEngineRun .. | .controlOverrun .. | .feedbackLost ..
  | .feedbackFrozen .. | .satWarn .. | .satFault .. | .kinematicsRun .. | .kinematicsOverrun .. | .trackCopy ..
  | .trackTimeout .. | .distanceTesting .. | .distanceOverrun .. | .separationEvaluation .. | .separationOverrun ..
  | .channelBCrossCheck .. | .ssmBLate .. | .speedOverrideSwitch .. | .autoResume .. | .stopMeasured ..
  | .commitCutoff .. | .bankSwitch .. | .heldCommitJudged .. | .copyActive .. | .moveAbs .. | .moveRel .. | .velocity ..
  | .hold .. | .stop .. | .quickStop .. | .home .. | .gear .. | .follow .. | .switchOn .. | .enable .. | .faultAck ..
  | .testReq .. | .planEnd .. | .standstill .. | .limitsWrite .. | .sourceLost .. | .append .. | .segmentComplete ..
  | .run .. | .pause .. | .flush .. | .abort .. | .abortComplete .. | .rawTransition .. | .qualifiedEdge ..
  | .indexPulse .. | .hardStopDetected .. | .stuckActive .. | .latchArm .. | .latchResult .. | .request .. | .release ..
  | .injectionStart .. | .injectionStop .. | .injectionDone .. | .captureArm .. | .captureComplete ..
  | .captureStop .. | .lengthWrite .. | .jobRun .. | .jobStart .. | .jobComplete .. | .trackerEnable .. | .trackerStep ..
  | .trackerUpdate .. | .engineMode .. | .libraryReload .. | .engineStart .. | .engineStop .. | .engineReset ..
  | .aeWatchdog .. | .waitWake .. | .doorbell .. | .signalClear .. | .aeNop .. | .aeLd .. | .aeSt .. | .aeLdxy ..
  | .aeFtap .. | .aeLdi .. | .aeMov .. | .aeMva .. | .aeMvda .. | .aeAreg .. | .aeMvta .. | .aeMvfa .. | .aeConj ..
  | .aeXch .. | .aeAdd .. | .aeSub .. | .aeNeg .. | .aeAbs .. | .aeMax .. | .aeMin .. | .aeAnd .. | .aeOr .. | .aeXor ..
  | .aeShl .. | .aeShr .. | .aeSra .. | .aeCmp .. | .aeBexp .. | .aeAddsub .. | .aePlog .. | .aeMpy .. | .aeMac ..
  | .aeMsu .. | .aeCmpy32 .. | .aeCmac32 .. | .aeCmpy16 .. | .aeCmac16 .. | .aeCmul32 .. | .aeCmul16 .. | .aeAclr ..
  | .aeAsh .. | .aeBr .. | .aeCall .. | .aeRet .. | .aeLoop .. | .aeHalt .. | .aeSig .. | .aeWait ..
  | .linkDelayRequest .. | .slotOccurrence .. | .linkUp .. | .safeConnTimeout .. | .timeSnapshot .. | .ptpPdelayReq ..
  | .ptpDelayReq .. | .safeInputQualified .. | .siDiscrepancy .. | .demandExchange .. | .testSlot .. | .pulseEnd ..
  | .soReadbackFault .. | .ack .. | .axisMonitoring .. | .ssTMaxExpiry .. | .ss2Timeout .. | .slsActive ..
  | .sessionTimeout .. | .owlDecision .. | .dabort .. | .commit .. | .enumerate .. | .odTransferTimeout .. | .reqTail ..
  | .size .. | .rspHead .. | .hostDmaStart .. | .hostDmaStop .. | .counterOverflow .. | .bankPowerRestored ..
  | .rxDropOther .. | .sessionLockoutEnd .. | .onCheckTimeout .. | .plicClaim .. => true
  | _ => false

/-- The other commands that neither store to the memory of the work cores nor move the counters. -/
def Instr.storesNothing : Instr → Bool
  | .laneFault .. | .laneSpared .. | .distanceUnitFault .. | .cpiFire .. | .askTimeout .. | .resume .. | .sfenceVma ..
  | .fenceI .. | .dmaStart .. | .dmaResume .. | .dmaAbandon .. | .iotlbInval .. | .cyclicFrame .. | .gatherFrame ..
  | .safetyFrame .. | .linkDelayResponse .. | .frameTransmit .. | .syncCorrection .. | .linkWindow .. | .linkDown ..
  | .acycTimeout .. | .wallRate .. | .wallStepNs .. | .wallSet .. | .ptpMode .. | .ptpSync .. | .ptpFollowUp ..
  | .ptpPdelayResp .. | .ptpPdelayRespFollowUp .. | .ptpAnnounce .. | .ptpSyncTransmit .. | .arm .. | .disarm ..
  | .actionTaken .. | .setDo .. | .clearDo .. | .armLatch .. | .raiseIrq .. | .commitAction .. | .channelLost ..
  | .partnerListenEnd .. | .duplexSecondaryTimeout .. | .shadowCheck .. | .generationClose .. | .ckptLag ..
  | .ckptAckTimeout .. | .heartbeat .. | .failRecord .. | .silenceEvaluation .. | .owlLost .. | .feedLoss ..
  | .feedRestored .. | .read .. | .dread .. | .digest .. | .windowRead .. | .storeGeneration .. | .storeFlush ..
  | .imageStaged .. | .updateSessionTimeout .. | .lpddrRetry .. | .challenge .. | .unlock .. | .idcode .. | .bypass ..
  | .samplePreload .. | .attestRequest .. | .reportReady .. | .hartCounterOverflow .. | .counterSnapshot ..
  | .snapshotLatch .. | .freeze .. | .freezeApply .. | .windowNs .. | .bandwidthWindowEnd .. | .correctedError ..
  | .scrubRead .. | .sensorReading .. | .sparePolicyEvaluation .. | .retire .. | .perstN .. | .tempCritical ..
  | .lockstepMismatch .. | .accessFault .. | .illegalInstruction .. | .ptpPdelayReqTransmit .. | .ptpAnnounceTransmit ..
  | .announceReceiptTimeout .. => true
  | _ => false

end Sys2Proof

namespace Sys2Proof.Machine

/-! ## States -/

/-- The counters lie in their ranges: three bits of the tick index, 64 of the extended cycle count (R18). -/
def State.ClockOk (s : State) : Prop := s.dev.clk.tick < 8 ∧ s.dev.clk.cycle64 < 2 ^ 64

/-- The module has power and is out of reset (R13, R531). -/
def State.Live (s : State) : Prop := s.dev.dark = false

/-- The start has ended as well: registers may be written (R13, R475). -/
def State.Up (s : State) : Prop := s.dev.dark = false ∧ DevState.config ≤ s.dev.state

/-! ## Runs -/

/-- The commands of a list, one after another, on a machine whose queue they do not touch. -/
def execAll : List Instr → State → Host.Outcome State Fault Refusal
  | [], s => .next s
  | c :: cs, s =>
    match exec c s with
    | .next t => execAll cs t
    | .fault r => .fault r
    | .refused r => .refused r

/-- `n` steps, one after another. -/
def stepN : Nat → State → Host.Outcome State Fault Refusal
  | 0, s => .next s
  | n + 1, s =>
    match step s with
    | .next t => stepN n t
    | .fault r => .fault r
    | .refused r => .refused r

/-! ## Effects -/

/-- Command `i` answers a next state on `s`: the queue stays as it is, and `P` holds of the device the command finds and of the
one it leaves. -/
def Does (i : Instr) (s : State) (P : Dev → Dev → Prop) : Prop :=
  ∃ d, exec i s = .next { s with dev := d } ∧ P s.found d

/-- The parts of the device that outlast a command (the frames and the answer of a step do not). -/
inductive Part
  | clk | ph | wall | od | dom | gen | log | fresh | plic | pend | cpi | waits | acts | io | axes | eng | chains | zones | geom
  | sep | lateP | lateC | ident | aes | safe | link | ptp | pair | sett | dma | mem | done | event | serve | aon | flash | boot
  | health | power
deriving DecidableEq, Repr

/-- Part `p` is the same in two devices. -/
def Part.Same (p : Part) (d e : Dev) : Prop :=
  match p with
  | .clk => e.clk = d.clk
  | .ph => e.ph = d.ph
  | .wall => e.wall = d.wall
  | .od => e.od = d.od
  | .dom => e.dom = d.dom
  | .gen => e.gen = d.gen
  | .log => e.log = d.log
  | .fresh => e.fresh = d.fresh
  | .plic => e.plic = d.plic
  | .pend => e.pend = d.pend
  | .cpi => e.cpi = d.cpi
  | .waits => e.waits = d.waits
  | .acts => e.acts = d.acts
  | .io => e.io = d.io
  | .axes => e.axes = d.axes
  | .eng => e.eng = d.eng
  | .chains => e.chains = d.chains
  | .zones => e.zones = d.zones
  | .geom => e.geom = d.geom
  | .sep => e.sep = d.sep
  | .lateP => e.lateP = d.lateP
  | .lateC => e.lateC = d.lateC
  | .ident => e.ident = d.ident
  | .aes => e.aes = d.aes
  | .safe => e.safe = d.safe
  | .link => e.link = d.link
  | .ptp => e.ptp = d.ptp
  | .pair => e.pair = d.pair
  | .sett => e.sett = d.sett
  | .dma => e.dma = d.dma
  | .mem => e.mem = d.mem
  | .done => e.done = d.done
  | .event => e.event = d.event
  | .serve => e.serve = d.serve
  | .aon => e.aon = d.aon
  | .flash => e.flash = d.flash
  | .boot => e.boot = d.boot
  | .health => e.health = d.health
  | .power => e.power = d.power

/-- Every part of the device but those listed is the same. -/
def Dev.Keeps (d e : Dev) (but : List Part) : Prop := ∀ p, p ∉ but → p.Same d e

/-- Every scalar entry but those listed holds what it held. -/
def Dev.KeepsRegs (d e : Dev) (but : List Nat) : Prop := ∀ k, k ∉ but → e.reg k = d.reg k

/-- The entries a code raised may change: the log's (R459) and the confirmation count (R484). -/
abbrev logRegs : List Nat := [Reg.R1003_NEXT_SEQ, Reg.R1003_LOG_WRAPPED, Reg.R6020_CONFIRM_CYCLES]

/-- The parts a raised code changes beside the entries of the dictionary: the log, EVENT and what waits of its vector (R448). -/
abbrev logParts : List Part := [.od, .log, .event, .serve]

/-- The newest record of the fault log has this code and subject (R459). -/
def Dev.LastRaised (d : Dev) (code kind subject : Nat) : Prop :=
  ∃ r, d.log.getLast? = some r ∧ r.code = code ∧ r.kind = kind ∧ r.subject = subject

/-- An access of a requester to an index reaches the server (R475, R476, R532). -/
def Dev.Serves (d : Dev) (r : Requester) (ix : Nat) : Prop := d.online r = true ∧ (d.boot.recovery = false ∨ ix = 0x6020)

/-- A write of `data` to an entry passes the checks of the server and of the entry's block (R435 to R440). -/
def Dev.WriteOk (d : Dev) (r : Requester) (ix sub : Nat) (data : Bytes) : Prop :=
  ∃ e i, locate ix sub = .entry e i ∧ d.writeCheck r e ix sub data = Code.STATUS_OK ∧
    d.writeBlocked ix sub (e.ty.wrap (leNat data)) data = Code.STATUS_OK

/-! ## Instructions of the analysis engines -/

/-- The instruction word engine `e` executes next. -/
def Dev.aeNext (d : Dev) (e : Nat) : Nat := d.aeWord e (d.ae e).pc

/-- Command `i`, the instruction `op` of engine `e`, is the engine's next one and executes, and `H` holds of its word and the
engine: it completes, changes nothing of the device but that engine, and `P` holds of its word and the engine before and after. -/
def AeDoes (i : Instr) (e op : Nat) (s : State) (H : Nat → Ae → Prop) (P : Nat → Ae → Ae → Prop) : Prop :=
  s.Live → s.dev.aeDoes e op = true → H (s.dev.aeNext e) (s.dev.ae e) →
    Does i s fun b a => b.Keeps a [.aes] ∧ (∀ f, f ≠ e → a.ae f = b.ae f) ∧ P (b.aeNext e) (b.ae e) (a.ae e)

/-- Command `i`, the instruction `op` of engine `e`, is the engine's next one and executes, and `H` holds: the engine stops in
FAULTED with this code, at this address, its registers as they were; SIGNAL bit 15 is set and the code raised (R243, R244). -/
def AeStops (i : Instr) (e op : Nat) (s : State) (code : Nat) (H : Nat → Ae → Prop) : Prop :=
  s.Live → s.dev.aeDoes e op = true → H (s.dev.aeNext e) (s.dev.ae e) →
    Does i s fun b a =>
      a.aeState e = AeState.faulted ∧ a.nat (Reg.R3510_FAULT e) = code ∧
      a.reg (Reg.R3510_STOP_PC e) = (odType (Reg.R3510_STOP_PC e)).wrap (b.ae e).pc ∧ a.bit (Reg.R3510_SIGNAL e) 15 = true ∧
      a.aes = b.aes ∧ a.LastRaised code Kind.unit (48 + e)

/-- The engine goes on with the next word, or the start of the loop that ends here, after one cycle (R238, R240). -/
def Ae.Goes (x y : Ae) : Prop := (y.pc, y.loops) = aeLoopEnd x.pc x.loops ∧ y.cycles = x.cycles + 1

/-- What an instruction may change of an engine beside its program counter, loops and cycle count: data registers,
accumulators, pointers, the other address registers, EXP, SR, CR, WOKE, data memory with its poisoned words, the call stack. -/
inductive AePart
  | data | acc | ptr | addr | exp | sr | cr | woke | mem | calls
deriving DecidableEq, Repr

/-- Part `p` of an engine is the same. -/
def AePart.Same (p : AePart) (x y : Ae) : Prop :=
  match p with
  | .data => y.d = x.d
  | .acc => y.a = x.a
  | .ptr => y.p = x.p
  | .addr => y.m = x.m ∧ y.l = x.l ∧ y.b = x.b
  | .exp => y.exp = x.exp
  | .sr => y.sr = x.sr
  | .cr => y.cr = x.cr
  | .woke => y.woke = x.woke
  | .mem => y.x = x.x ∧ y.y = x.y ∧ y.bad = x.bad
  | .calls => y.calls = x.calls

/-- The program and every part but those listed stay. -/
def Ae.Keeps (x y : Ae) (but : List AePart) : Prop := y.prog = x.prog ∧ ∀ p, p ∉ but → p.Same x y

/-- Every data register but those listed holds what it held. -/
def Ae.KeepsData (x y : Ae) (but : List Nat) : Prop := ∀ i, i ∉ but → y.D i = x.D i

/-- Every accumulator but those listed holds what it held. -/
def Ae.KeepsAcc (x y : Ae) (but : List Nat) : Prop := ∀ i, i ∉ but → y.A i = x.A i

/-- Every sticky bit but `bit` is as it was, and `bit` is set where `b` holds (R227, R230). -/
def Ae.Sticks (x y : Ae) (bit : Nat) (b : Bool) : Prop :=
  y.sr.testBit bit = (x.sr.testBit bit || b) ∧ ∀ i, i ≠ bit → y.sr.testBit i = x.sr.testBit i

end Sys2Proof.Machine
end

