-- ==== Sys2Proof/Certificates/Slice0/Obligations.lean ====
section
/-! DEFINITION. The statements for the provers, family by family. Each is written whole in its own definition. -/

open Sys2Proof Sys2Proof.Machine

/-! ## The machine as a whole -/

/-- A step runs the command at the front of the queue, with the rest of the queue staying. With an empty queue a step changes
nothing (the model's choice, log entry 5). -/
def Obligations.StepRunsFrontCommand : Prop :=
  (∀ (d : Dev) (c : Instr) (rest : List Instr), step { dev := d, pending := c :: rest } = exec c { dev := d, pending := rest }) ∧
  (∀ d : Dev, step { dev := d, pending := [] } = .next { dev := d, pending := [] })

/-- Every command answers a next state and leaves the queue alone. -/
def Obligations.EveryCommandGoesOn : Prop :=
  ∀ (i : Instr) (s : State), Does i s fun _ _ => True

/-- The queue is first in, first out: as many steps as it holds commands leave the device those commands leave in order,
whatever waits behind them. -/
def Obligations.QueueDrainsInOrder : Prop :=
  ∀ (cs rest : List Instr) (d : Dev), ∃ e,
    stepN cs.length { dev := d, pending := cs ++ rest } = .next { dev := e, pending := rest } ∧
    execAll cs { dev := d, pending := [] } = .next { dev := e, pending := [] }

/-- The tick index stays within three bits and the extended cycle count within 64 (R18), through every step and every run. -/
def Obligations.ClockInvariant : Prop :=
  (∀ s t : State, s.ClockOk → step s = .next t → t.ClockOk) ∧
  ∀ (n : Nat) (s t : State), s.ClockOk → stepN n s = .next t → t.ClockOk

/-- The invariant of the counters holds after reset. -/
def Obligations.ResetMeetsClockInvariant : Prop := State.reset.ClockOk

/-- The values the spec gives for reset; DEV_STATE at BOOT is the model's choice (log entry 12). -/
def Obligations.ResetLeaves : Prop :=
  let d := State.reset.dev
  State.reset.pending = [] ∧ d.state = DevState.boot ∧ d.cycle = 0 ∧ d.clk.tick = 0 ∧ d.log = [] ∧
  (∀ n < 128, d.nat (Reg.AX1_STATE n) = AxState.disabled) ∧ (∀ c < 16, d.nat (Reg.CH5_CONTROL c) = 2) ∧
  (∀ e < 2, d.nat (Reg.R3510_STATE e) = AeState.stopped ∧ (d.ae e).exp = 63 ∧ (d.ae e).cr = 1 ∧ (d.ae e).sr = 0 ∧
    (∀ i, (d.ae e).D i = 0 ∧ (d.ae e).A i = 0) ∧ (d.ae e).calls = [] ∧ (d.ae e).loops = []) ∧
  (∀ r, (d.ring r).state = 0 ∧ (d.ring r).size = 0) ∧ (∀ c < 32, d.nat (Reg.R3920_STATE c) = DmaState.idle) ∧
  d.serve.eventVec = 0xFFFF ∧ d.event = 0

/-- Without power or held in reset nothing but the supplies, the reset pins, the lid and the test access port changes the device
(R13, R531). Before CONFIG the writes of registers that have a row of their own do nothing (R475: the services start with
CONFIG). -/
def Obligations.DarkOrStartingModuleStands : Prop :=
  (∀ (i : Instr) (s : State), s.dev.dark = true → s.ClockOk → i.ofSupply = false → exec i s = .next { s with dev := s.found }) ∧
  (∀ (i : Instr) (s : State), s.dev.state < DevState.config → s.ClockOk → i.registerRow = true →
     exec i s = .next { s with dev := s.found })

/-- What no command of the cell's control touches. What stores nothing leaves every byte of memory, and the counters. -/
def Obligations.CommandsFrame : Prop :=
  (∀ (i : Instr) (s : State), i.ofCell = true → Does i s fun b a =>
     ∀ p ∈ [Part.clk, .wall, .mem, .cpi, .io, .acts, .link, .ptp, .pair, .sett, .dma, .aon, .flash, .boot, .health, .power],
       p.Same b a) ∧
  (∀ (i : Instr) (s : State), i.ofCell = true ∨ i.storesNothing = true → Does i s fun b a =>
     (∀ x, mget 0 a.mem x = mget 0 b.mem x) ∧ a.clk = b.clk)

/-- Reading after writing, of the scalar entries of the dictionary. -/
def Obligations.RegisterReadAfterWrite : Prop :=
  ∀ (d : Dev) (k j : Nat) (v : Int),
    ((d.set k v).reg k = (odType k).wrap v) ∧ (j ≠ k → (d.set k v).reg j = d.reg j) ∧ d.Keeps (d.set k v) [.od]

/-- A raised code is the newest record of the log, numbered in turn; a full log loses its oldest record and says so (R459). -/
def Obligations.RaisedCodeIsLogged : Prop :=
  ∀ (d : Dev) (code kind subject reaction detail : Nat),
    let e := d.raise code kind subject reaction detail
    (∃ r, e.log = (if d.log.length < 256 then d.log else d.log.drop 1) ++ [r] ∧ r.seq = d.nat Reg.R1003_NEXT_SEQ ∧
      r.code = code ∧ r.kind = kind ∧ r.subject = subject ∧ r.reaction = reaction ∧ r.detail = detail ∧ r.cycle = d.cycle ∧
      r.tick = d.clk.tick) ∧
    e.reg Reg.R1003_NEXT_SEQ = (d.reg Reg.R1003_NEXT_SEQ + 1) % 2 ^ 32 ∧
    (256 ≤ d.log.length → e.reg Reg.R1003_LOG_WRAPPED = 1) ∧ e.event.testBit 1 = true ∧
    d.Keeps e [.od, .log, .event] ∧ d.KeepsRegs e logRegs

/-! ## The analysis engines: instructions -/

/-- NOP, LDI, MOV, AND, OR and XOR (R238): Dd, the cycle and the next word; nothing else. The lane arithmetic (R228, R230,
R238): every lane's result, SAT, and the frame. -/
def Obligations.AeMovesAndLanes : Prop :=
  (∀ (e : Nat) (s : State),
     AeDoes (.aeNop e) e 0x00 s (fun _ _ => True) (fun _ x y => x.Goes y ∧ x.Keeps y []) ∧
     AeDoes (.aeLdi e) e 0x05 s (fun _ _ => True) (fun w x y => x.Goes y ∧ x.Keeps y [.data] ∧ x.KeepsData y [bits w 22 19] ∧
       y.D (bits w 22 19) = (bits w 15 0 + (if w.testBit 16 ∧ (bits w 15 0).testBit 15 then 2 ^ 64 - 2 ^ 16 else 0)) *
         2 ^ (16 * bits w 18 17) % 2 ^ 64) ∧
     AeDoes (.aeMov e) e 0x08 s (fun w _ => fty w ≠ 3) (fun w x y => x.Goes y ∧ x.Keeps y [.data] ∧ x.KeepsData y [fd w] ∧
       y.D (fd w) = x.D (fs w) % 2 ^ 64) ∧
     AeDoes (.aeAnd e) e 0x16 s (fun _ _ => True) (fun w x y => x.Goes y ∧ x.Keeps y [.data] ∧ x.KeepsData y [fd w] ∧
       ∀ i < 64, (y.D (fd w)).testBit i = ((x.D (fs w)).testBit i && (x.D (ft w)).testBit i)) ∧
     AeDoes (.aeOr e) e 0x17 s (fun _ _ => True) (fun w x y => x.Goes y ∧ x.Keeps y [.data] ∧ x.KeepsData y [fd w] ∧
       ∀ i < 64, (y.D (fd w)).testBit i = ((x.D (fs w)).testBit i || (x.D (ft w)).testBit i)) ∧
     AeDoes (.aeXor e) e 0x18 s (fun _ _ => True) (fun w x y => x.Goes y ∧ x.Keeps y [.data] ∧ x.KeepsData y [fd w] ∧
       ∀ i < 64, (y.D (fd w)).testBit i = ((x.D (fs w)).testBit i != (x.D (ft w)).testBit i))) ∧
  (let two (i : Nat → Instr) (op : Nat) (f : Int → Int → Int) : Prop := ∀ (e : Nat) (s : State),
     AeDoes (i e) e op s (fun w _ => fty w ≠ 3) fun w x y =>
       let rs := List.zipWith (fun a b => laneStore (fty w) (f a b)) (getLanes (fty w) (x.D (fs w))) (getLanes (fty w) (x.D (ft w)))
       x.Goes y ∧ x.Keeps y [.data, .sr] ∧ x.KeepsData y [fd w] ∧ getLanes (fty w) (y.D (fd w)) = rs.map (·.1) ∧
       x.Sticks y 0 (rs.any (·.2))
   let one (i : Nat → Instr) (op : Nat) (f : Int → Int) : Prop := ∀ (e : Nat) (s : State),
     AeDoes (i e) e op s (fun w _ => fty w ≠ 3) fun w x y =>
       let rs := (getLanes (fty w) (x.D (fs w))).map fun a => laneStore (fty w) (f a)
       x.Goes y ∧ x.Keeps y [.data, .sr] ∧ x.KeepsData y [fd w] ∧ getLanes (fty w) (y.D (fd w)) = rs.map (·.1) ∧
       x.Sticks y 0 (rs.any (·.2))
   two .aeAdd 0x10 (fun a b => a + b) ∧ two .aeSub 0x11 (fun a b => a - b) ∧ one .aeNeg 0x12 (fun a => -a) ∧
   one .aeAbs 0x13 (fun a => |a|) ∧ two .aeMax 0x14 max ∧ two .aeMin 0x15 min)

/-- The shifts (R230, R237, R238), their amount taken from IMM6, Dt or EXP. The complex lanes, sums and differences, comparisons
and predicates (R228, R230, R233, R237, R238). What BEXP is for (R233): the block exponent brings every lane measured to full
scale without saturation. -/
def Obligations.AeShiftsAndComplex : Prop :=
  (∀ (e : Nat) (s : State),
     let H := fun (w : Nat) (_ : Ae) => fty w ≠ 3 ∧ bits w 2 1 ≠ 3
     let amount := fun (w : Nat) (x : Ae) => if bits w 2 1 = 0 then bits w 8 3 else if bits w 2 1 = 1 then x.D (ft w) % 64 else x.exp
     AeDoes (.aeShl e) e 0x19 s H (fun w x y =>
       let rs := (getLanes (fty w) (x.D (fs w))).map fun a => laneStore (fty w) (a * 2 ^ amount w x)
       x.Goes y ∧ x.Keeps y [.data, .sr] ∧ x.KeepsData y [fd w] ∧ getLanes (fty w) (y.D (fd w)) = rs.map (·.1) ∧
       x.Sticks y 0 (rs.any (·.2))) ∧
     AeDoes (.aeShr e) e 0x1A s H (fun w x y =>
       x.Goes y ∧ x.Keeps y [.data] ∧ x.KeepsData y [fd w] ∧
       (getLanes (fty w) (y.D (fd w))).map (toU (laneWidth (fty w))) =
         (getLanes (fty w) (x.D (fs w))).map fun a => toU (laneWidth (fty w)) a / 2 ^ amount w x) ∧
     AeDoes (.aeSra e) e 0x1B s H (fun w x y =>
       x.Goes y ∧ x.Keeps y [.data] ∧ x.KeepsData y [fd w] ∧
       getLanes (fty w) (y.D (fd w)) = (getLanes (fty w) (x.D (fs w))).map fun a =>
         if w.testBit 0 then shrConv a (amount w x) else a.fdiv (2 ^ amount w x))) ∧
  (∀ (e : Nat) (s : State),
     let cplx := fun (i : Instr) (op : Nat) (re im : Int → Int → Int) =>
       AeDoes i e op s (fun w _ => fty w = 1 ∨ fty w = 2) fun w x y =>
         x.Goes y ∧ x.Keeps y [.data, .sr] ∧ x.KeepsData y [fd w] ∧
         ∀ k < laneCount (fty w) / 2,
           let at_ (v j : Nat) : Int := (getLanes (fty w) v).getD j 0
           at_ (y.D (fd w)) (2 * k + 1) = satBits (laneWidth (fty w)) (re (at_ (x.D (fs w)) (2 * k + 1)) (at_ (x.D (fs w)) (2 * k))) ∧
           at_ (y.D (fd w)) (2 * k) = satBits (laneWidth (fty w)) (im (at_ (x.D (fs w)) (2 * k + 1)) (at_ (x.D (fs w)) (2 * k)))
     cplx (.aeConj e) 0x0E (fun re _ => re) (fun _ im => -im) ∧ cplx (.aeXch e) 0x0F (fun _ im => im) (fun re _ => -re) ∧
     AeDoes (.aeAddsub e) e 0x1E s (fun w _ => fty w ≠ 3 ∧ fd w % 2 = 0) (fun w x y =>
       let fin := fun (v : Int) => if w.testBit 8 then narrowBy (laneWidth (fty w)) 1 v else laneStore (fty w) v
       let p := List.zipWith (fun a b => fin (a + b)) (getLanes (fty w) (x.D (fs w))) (getLanes (fty w) (x.D (ft w)))
       let m := List.zipWith (fun a b => fin (a - b)) (getLanes (fty w) (x.D (fs w))) (getLanes (fty w) (x.D (ft w)))
       x.Goes y ∧ x.Keeps y [.data, .sr] ∧ x.KeepsData y [fd w, fd w + 1] ∧ getLanes (fty w) (y.D (fd w)) = p.map (·.1) ∧
       getLanes (fty w) (y.D (fd w + 1)) = m.map (·.1) ∧ x.Sticks y 0 (p.any (·.2) || m.any (·.2))) ∧
     (s.Live → s.dev.aeDoes e 0x1C = true → fty (s.dev.aeNext e) ≠ 3 → bits (s.dev.aeNext e) 8 6 ≤ 5 →
       Does (.aeCmp e) s fun b a =>
         let w := b.aeNext e; let x := b.ae e; let y := a.ae e
         let test := fun (u v : Int) => match bits w 8 6 with
           | 0 => decide (u = v) | 1 => decide (u ≠ v) | 2 => decide (u < v) | 3 => decide (u ≤ v) | 4 => decide (v < u)
           | _ => decide (v ≤ u)
         let rs := List.zipWith test (getLanes (fty w) (x.D (fs w))) (getLanes (fty w) (x.D (ft w)))
         b.Keeps a [.aes, .fresh] ∧ (∀ f, f ≠ e → a.ae f = b.ae f) ∧ x.Goes y ∧ x.Keeps y [.cr] ∧
         ∀ i < 4, y.cr.testBit i = if i = bits w 22 21 ∧ i ≠ 0 then (if w.testBit 5 then rs.all id else rs.any id)
           else x.cr.testBit i) ∧
     AeDoes (.aePlog e) e 0x1F s (fun _ _ => True) (fun w x y =>
       let p := x.cr.testBit (bits w 20 19) != w.testBit 14
       let q := x.cr.testBit (bits w 18 17)
       x.Goes y ∧ x.Keeps y [.cr] ∧
       ∀ i < 4, y.cr.testBit i = if i = bits w 22 21 ∧ i ≠ 0 then
         (match bits w 16 15 with | 0 => p && q | 1 => p || q | 2 => p != q | _ => p && !q) else x.cr.testBit i) ∧
     AeDoes (.aeBexp e) e 0x1D s (fun w _ => fty w ≠ 3) (fun w x y =>
       x.Goes y ∧ x.Keeps y [.exp] ∧
       if w.testBit 8 then y.exp = 63
       else y.exp ≤ x.exp ∧ (∀ v ∈ getLanes (fty w) (x.D (fs w)), y.exp ≤ signBits (laneWidth (fty w)) v) ∧
         (y.exp = x.exp ∨ ∃ v ∈ getLanes (fty w) (x.D (fs w)), y.exp = signBits (laneWidth (fty w)) v))) ∧
  (∀ (e : Nat) (s : State),
     AeDoes (.aeBexp e) e 0x1D s (fun w _ => fty w ≠ 3 ∧ w.testBit 8 = false) fun w x y =>
       ∀ v ∈ getLanes (fty w) (x.D (fs w)),
         -(2 ^ (laneWidth (fty w) - 1) : Int) ≤ v * 2 ^ y.exp ∧ v * 2 ^ y.exp < 2 ^ (laneWidth (fty w) - 1))

/-- R232. -/
def Obligations.AeComplexProducts : Prop :=
  ∀ (e : Nat) (s : State),
    AeDoes (.aeCmul32 e) e 0x27 s (fun _ _ => True) (fun w x y =>
      let u := cplx32 (x.D (fs w)); let v := cplx32 (x.D (ft w))
      let vi := if w.testBit 8 then -v.2 else v.2
      let re := narrowBy 32 31 (u.1 * v.1 - u.2 * vi); let im := narrowBy 32 31 (u.1 * vi + u.2 * v.1)
      x.Goes y ∧ x.Keeps y [.data, .sr] ∧ x.KeepsData y [fd w] ∧ cplx32 (y.D (fd w)) = (re.1, im.1) ∧
      x.Sticks y 0 (re.2 || im.2) ∧
      (u = (-2 ^ 31, 0) → v = (-2 ^ 31, 0) → cplx32 (y.D (fd w)) = (2 ^ 31 - 1, 0) ∧ y.sr.testBit 0 = true)) ∧
    AeDoes (.aeCmul16 e) e 0x28 s (fun w _ => fd w % 2 = 0 ∧ fs w % 2 = 0 ∧ ft w % 2 = 0) (fun w x y =>
      let part := fun (k : Nat) =>
        let u := x.elem16 (fs w) k; let v := x.elem16 (ft w) k
        let vi := if w.testBit 8 then -v.2 else v.2
        (narrowBy 16 15 (u.1 * v.1 - u.2 * vi), narrowBy 16 15 (u.1 * vi + u.2 * v.1))
      x.Goes y ∧ x.Keeps y [.data, .sr] ∧ x.KeepsData y [fd w, fd w + 1] ∧
      (∀ k < 4, y.elem16 (fd w) k = ((part k).1.1, (part k).2.1)) ∧
      x.Sticks y 0 ((List.range 4).any fun k => (part k).1.2 || (part k).2.2) ∧
      ∀ k < 4, x.elem16 (fs w) k = (-2 ^ 15, 0) → x.elem16 (ft w) k = (-2 ^ 15, 0) →
        y.elem16 (fd w) k = (2 ^ 15 - 1, 0) ∧ y.sr.testBit 0 = true)

/-- The multiply-accumulate group (R228, R229, R238). Moves between accumulators and data registers, clears and shifts (R230,
R231, R238, R239). -/
def Obligations.AeAccumulators : Prop :=
  (∀ (e : Nat) (s : State),
     let real := fun (i : Instr) (op : Nat) (f : Int → Int → Int) => AeDoes i e op s (fun _ _ => True) fun w x y =>
       let n := bits w 22 21
       let u := cplx32 (x.D (bits w 20 17)); let v := cplx32 (x.D (bits w 16 13))
       let p := (if w.testBit 12 then u.1 else u.2) * (if w.testBit 11 then v.1 else v.2)
       x.Goes y ∧ x.Keeps y [.acc, .sr] ∧ x.KeepsAcc y [n] ∧ y.A n = satBits 80 (f (x.A n) p) ∧
       x.Sticks y 1 (f (x.A n) p != satBits 80 (f (x.A n) p))
     let c32 := fun (i : Instr) (op : Nat) (acc : Bool) => AeDoes i e op s (fun w _ => bits w 22 21 % 2 = 0) fun w x y =>
       let n := bits w 22 21
       let u := cplx32 (x.D (bits w 20 17)); let v := cplx32 (x.D (bits w 16 13))
       let vi := if w.testBit 10 then -v.2 else v.2
       let re := (if acc then x.A n else 0) + (u.1 * v.1 - u.2 * vi)
       let im := (if acc then x.A (n + 1) else 0) + (u.1 * vi + u.2 * v.1)
       x.Goes y ∧ x.Keeps y [.acc, .sr] ∧ x.KeepsAcc y [n, n + 1] ∧ y.A n = satBits 80 re ∧ y.A (n + 1) = satBits 80 im ∧
       x.Sticks y 1 (re != satBits 80 re || im != satBits 80 im)
     let c16 := fun (i : Instr) (op : Nat) (acc : Bool) =>
       AeDoes i e op s (fun w _ => bits w 20 17 % 2 = 0 ∧ bits w 16 13 % 2 = 0) fun w x y =>
         x.Goes y ∧ x.Keeps y [.acc, .sr] ∧ x.KeepsAcc y [0, 1, 2, 3] ∧
         ∀ k < 4,
           let u := x.elem16 (bits w 20 17) k; let v := x.elem16 (bits w 16 13) k
           let vi := if w.testBit 10 then -v.2 else v.2
           let h := if acc then accHalves (x.A k) else (0, 0)
           accHalves (y.A k) = (satBits 40 (h.1 + (u.1 * v.1 - u.2 * vi)), satBits 40 (h.2 + (u.1 * vi + u.2 * v.1)))
     real (.aeMpy e) 0x20 (fun _ p => p) ∧ real (.aeMac e) 0x21 (fun a p => a + p) ∧ real (.aeMsu e) 0x22 (fun a p => a - p) ∧
     c32 (.aeCmpy32 e) 0x23 false ∧ c32 (.aeCmac32 e) 0x24 true ∧ c16 (.aeCmpy16 e) 0x25 false ∧ c16 (.aeCmac16 e) 0x26 true) ∧
  (∀ (e : Nat) (s : State),
     let moved := fun (x y : Ae) (reads : Nat) =>
       (y.pc, y.loops) = aeLoopEnd x.pc x.loops ∧ y.cycles = x.cycles + (if reads &&& x.wrote = 0 then 1 else 2)
     AeDoes (.aeMva e) e 0x09 s (fun w _ => bits w 16 15 = 1 ∨ bits w 16 15 = 2 → bits w 18 17 % 2 = 0) (fun w x y =>
       let n := bits w 18 17; let sh := wrapBits 6 (bits w 13 8 : Nat)
       let pair := bits w 16 15 = 1 ∨ bits w 16 15 = 2
       moved x y (if pair then 2 ^ n + 2 ^ (n + 1) else 2 ^ n) ∧ x.Keeps y [.data, .sr] ∧ x.KeepsData y [fd w] ∧
       match bits w 16 15 with
       | 0 =>
         let v := narrowBy 32 (31 + sh) (x.A n); let old := cplx32 (x.D (fd w))
         cplx32 (y.D (fd w)) = (if w.testBit 14 then (v.1, old.2) else (old.1, v.1)) ∧ x.Sticks y 0 v.2
       | 1 =>
         let q := fun (v : Int) => narrowBy 16 (15 + sh) v
         let g := accHalves (x.A n); let h := accHalves (x.A (n + 1))
         cplx16 (y.D (fd w)) 0 = ((q g.1).1, (q g.2).1) ∧ cplx16 (y.D (fd w)) 1 = ((q h.1).1, (q h.2).1) ∧
         x.Sticks y 0 ((q g.1).2 || (q g.2).2 || (q h.1).2 || (q h.2).2)
       | 2 =>
         let u := narrowBy 32 (31 + sh) (x.A n); let v := narrowBy 32 (31 + sh) (x.A (n + 1))
         cplx32 (y.D (fd w)) = (u.1, v.1) ∧ x.Sticks y 0 (u.2 || v.2)
       | _ => wrapBits 64 (y.D (fd w) : Nat) = (narrowBy 64 sh (x.A n)).1 ∧ x.Sticks y 0 (narrowBy 64 sh (x.A n)).2) ∧
     AeDoes (.aeMvda e) e 0x0A s (fun w _ => bits w 16 15 = 2 → bits w 18 17 % 2 = 0) (fun w x y =>
       let n := bits w 18 17; let v := x.D (fd w)
       x.Goes y ∧ x.Keeps y [.acc] ∧ x.KeepsAcc y (if bits w 16 15 = 2 then [n, n + 1] else [n]) ∧
       match bits w 16 15 with
       | 0 => y.A n = (if w.testBit 14 then (cplx32 v).1 else (cplx32 v).2) * 2 ^ 31
       | 1 => accHalves (y.A n) = ((cplx16 v (bits w 14 14)).1 * 2 ^ 15, (cplx16 v (bits w 14 14)).2 * 2 ^ 15)
       | 2 => y.A n = (cplx32 v).1 * 2 ^ 31 ∧ y.A (n + 1) = (cplx32 v).2 * 2 ^ 31
       | _ => y.A n = wrapBits 64 (v : Nat)) ∧
     AeDoes (.aeAclr e) e 0x29 s (fun _ _ => True) (fun w x y =>
       x.Goes y ∧ x.Keeps y [.acc] ∧ ∀ k, y.A k = if k < 4 ∧ w.testBit k then 0 else x.A k) ∧
     AeDoes (.aeAsh e) e 0x2A s (fun _ _ => True) (fun w x y =>
       let n := bits w 22 21; let sh := wrapBits 6 (bits w 20 15 : Nat)
       let v := if 0 ≤ sh then x.A n * 2 ^ sh.toNat else shrConv (x.A n) (-sh).toNat
       moved x y (2 ^ n) ∧ x.Keeps y [.acc, .sr] ∧ x.KeepsAcc y [n] ∧ y.A n = satBits 80 v ∧ x.Sticks y 1 (v != satBits 80 v)))

/-- The memory operands (R234 to R236): what is read, where it is stored, and that no other word of memory changes. Special
registers (R227, R238): what is written reads back, and what MVFA reads. -/
def Obligations.AeMemoryAndSpecial : Prop :=
  (∀ (e : Nat) (s : State),
     let ok := fun (x : Ae) (p am : Nat) => am = 2 → x.revOk p = true
     let whole := fun (x u : Ae) (bk p : Nat) => x.poisoned (dataOff bk (u.addr p)) = false
     AeDoes (.aeLd e) e 0x01 s (fun w x => ok x (bits w 18 16) (bits w 14 13) ∧
         whole x (x.usePtr (bits w 18 16)) (bits w 15 15) (bits w 18 16)) (fun w x y =>
       let p := bits w 18 16; let u := x.usePtr p
       x.Goes y ∧ x.Keeps y [.data, .ptr, .sr] ∧ x.KeepsData y [fd w] ∧ y.p = (u.step p (bits w 14 13)).p ∧ y.sr = u.sr ∧
       y.D (fd w) = x.mem (bits w 15 15) (u.addr p) % 2 ^ 64) ∧
     AeDoes (.aeSt e) e 0x02 s (fun w x => ok x (bits w 18 16) (bits w 14 13)) (fun w x y =>
       let p := bits w 18 16; let u := x.usePtr p
       x.Goes y ∧ x.Keeps y [.mem, .ptr, .sr] ∧ y.p = (u.step p (bits w 14 13)).p ∧ y.sr = u.sr ∧
       ∀ bk < 2, ∀ a, y.mem bk a = if bk = bits w 15 15 ∧ a = u.addr p then x.D (fd w) else x.mem bk a) ∧
     AeDoes (.aeLdxy e) e 0x03 s (fun w x => ok x (bits w 18 16) (bits w 15 14) ∧ ok x (bits w 9 7) (bits w 6 5) ∧
         whole x ((x.usePtr (bits w 18 16)).usePtr (bits w 9 7)) 0 (bits w 18 16) ∧
         whole x ((x.usePtr (bits w 18 16)).usePtr (bits w 9 7)) 1 (bits w 9 7)) (fun w x y =>
       let px := bits w 18 16; let py := bits w 9 7; let u := (x.usePtr px).usePtr py
       x.Goes y ∧ x.Keeps y [.data, .ptr, .sr] ∧ x.KeepsData y [fd w, bits w 13 10] ∧ y.sr = u.sr ∧
       y.p = ((u.step px (bits w 15 14)).step py (bits w 6 5)).p ∧
       (fd w ≠ bits w 13 10 → y.D (fd w) = x.mem 0 (u.addr px) % 2 ^ 64) ∧ y.D (bits w 13 10) = x.mem 1 (u.addr py) % 2 ^ 64) ∧
     AeDoes (.aeFtap e) e 0x04 s (fun w x => ok x (bits w 20 18) (bits w 17 16) ∧ ok x (bits w 15 13) (bits w 12 11) ∧
         whole x ((x.usePtr (bits w 20 18)).usePtr (bits w 15 13)) 0 (bits w 20 18) ∧
         whole x ((x.usePtr (bits w 20 18)).usePtr (bits w 15 13)) 1 (bits w 15 13)) (fun w x y =>
       let n := bits w 22 21; let px := bits w 20 18; let py := bits w 15 13; let u := (x.usePtr px).usePtr py
       let vx := x.mem 0 (u.addr px); let q := (cplx32 vx).2 * (cplx32 (x.mem 1 (u.addr py))).2
       let sum := if w.testBit 10 then x.A n - q else x.A n + q
       let l := mget 0 x.l px
       let next := (mget 0 x.b px + (mget 0 u.p px + 1) % (if l = 0 then 32768 else l)) % 32768
       x.Goes y ∧ x.Keeps y [.acc, .mem, .ptr, .sr] ∧ x.KeepsAcc y [n] ∧ y.A n = satBits 80 sum ∧
       u.Sticks y 1 (sum != satBits 80 sum) ∧ y.p = ((u.step px (bits w 17 16)).step py (bits w 12 11)).p ∧
       ∀ bk < 2, ∀ a, y.mem bk a = if bk = 0 ∧ a = next then vx else x.mem bk a)) ∧
  (∀ (e : Nat) (s : State),
     let kept := fun (x y : Ae) (n : Nat) => x.Goes y ∧ y.prog = x.prog ∧ AePart.data.Same x y ∧ AePart.acc.Same x y ∧
       AePart.mem.Same x y ∧ AePart.calls.Same x y ∧ ∀ k ≤ 36, k ≠ n → k ≠ 35 → y.spr k = x.spr k
     let reads := fun (n v : Nat) => if n < 8 then v % 65536 else if n < 16 then toU 64 (wrapBits 16 (v : Nat))
       else if n < 32 then v % 65536 else if n = 32 then v % 256 else if n = 33 then v % 8
       else if n = 34 then v % 16 ||| 1 else v % 65536
     AeDoes (.aeAreg e) e 0x0B s (fun w _ => sprWritable (8 * bits w 22 21 + bits w 20 18) (bits w 15 0) = true) (fun w x y =>
       let n := 8 * bits w 22 21 + bits w 20 18
       kept x y n ∧ y.spr n = reads n (bits w 15 0)) ∧
     AeDoes (.aeMvta e) e 0x0C s (fun w x => sprWritable (bits w 18 13) (x.D (fd w)) = true) (fun w x y =>
       kept x y (bits w 18 13) ∧ y.spr (bits w 18 13) = reads (bits w 18 13) (x.D (fd w))) ∧
     AeDoes (.aeMvfa e) e 0x0D s (fun w _ => bits w 18 13 ≤ 37) (fun w x y =>
       x.Goes y ∧ x.Keeps y [.data] ∧ x.KeepsData y [fd w] ∧
       y.D (fd w) = if bits w 18 13 = 37 then y.cycles % 2 ^ 32 else x.spr (bits w 18 13) % 2 ^ 64))

/-- Branches, calls and returns (R238, R240, R242). LOOP (R240): entering, skipping, going round and leaving. -/
def Obligations.AeBranchesAndLoops : Prop :=
  (∀ (e : Nat) (s : State),
     AeDoes (.aeBr e) e 0x30 s (fun _ _ => True) (fun w x y =>
       y.pc = bits w 13 0 ∧ y.cycles = x.cycles + 2 ∧ x.Keeps y [] ∧
       (∃ inner, x.loops = inner ++ y.loops ∧ (∀ l ∈ y.loops, l.first ≤ bits w 13 0 ∧ bits w 13 0 ≤ l.last) ∧
         (inner = [] ∨ ∃ front l, inner = front ++ [l] ∧ ¬(l.first ≤ bits w 13 0 ∧ bits w 13 0 ≤ l.last)))) ∧
     AeDoes (.aeCall e) e 0x31 s (fun _ x => x.calls.length < 8) (fun w x y =>
       y.pc = bits w 13 0 ∧ y.cycles = x.cycles + 2 ∧ x.Keeps y [.calls] ∧ y.calls = (x.pc + 1) :: x.calls ∧ y.loops = x.loops) ∧
     ∀ (pc : Nat) (r : List Nat),
       AeDoes (.aeRet e) e 0x32 s (fun _ x => x.calls = pc :: r) (fun _ x y =>
         y.pc = pc ∧ y.cycles = x.cycles + 2 ∧ x.Keeps y [.calls] ∧ y.calls = r ∧ y.loops = x.loops)) ∧
  (∀ (e : Nat) (s : State),
     let count := fun (w : Nat) (x : Ae) => if w.testBit 22 then bits w 21 14 else x.D (bits w 21 18) % 65536
     AeDoes (.aeLoop e) e 0x33 s (fun w x => x.pc < bits w 13 0 ∧ 0 < count w x ∧ x.loops.length < 4) (fun w x y =>
       y.pc = x.pc + 1 ∧ y.cycles = x.cycles + 1 ∧ x.Keeps y [] ∧
       y.loops = { first := x.pc + 1, last := bits w 13 0, count := count w x } :: x.loops) ∧
     AeDoes (.aeLoop e) e 0x33 s (fun w x => x.pc < bits w 13 0 ∧ count w x = 0) (fun w x y =>
       y.pc = bits w 13 0 + 1 ∧ y.cycles = x.cycles + 1 ∧ x.Keeps y [] ∧ y.loops = x.loops) ∧
     ∀ (l : AeLoop) (r : List AeLoop),
       AeDoes (.aeNop e) e 0x00 s (fun _ x => x.loops = l :: r ∧ l.last = x.pc ∧ 1 < l.count) (fun _ x y =>
         y.pc = l.first ∧ y.loops = { l with count := l.count - 1 } :: r ∧ y.cycles = x.cycles + 1) ∧
       AeDoes (.aeNop e) e 0x00 s (fun _ x => x.loops = l :: r ∧ l.last = x.pc ∧ l.count ≤ 1 ∧ ∀ m ∈ r, m.last ≠ x.pc) (fun _ x y =>
         y.pc = x.pc + 1 ∧ y.loops = r ∧ y.cycles = x.cycles + 1) ∧
       AeDoes (.aeNop e) e 0x00 s (fun _ x => x.loops = l :: r ∧ l.last ≠ x.pc) (fun _ x y =>
         y.pc = x.pc + 1 ∧ y.loops = x.loops ∧ y.cycles = x.cycles + 1))

/-- R242: the stacks' limits, and the fault beyond them. -/
def Obligations.AeStackLimits : Prop :=
  ∀ (e : Nat) (s : State),
    AeDoes (.aeCall e) e 0x31 s (fun _ x => x.calls.length = 7) (fun _ _ y => y.calls.length = 8) ∧
    AeStops (.aeCall e) e 0x31 s Code.AE_STACK (fun _ x => x.calls.length = 8) ∧
    AeStops (.aeRet e) e 0x32 s Code.AE_STACK (fun _ x => x.calls = []) ∧
    AeStops (.aeLoop e) e 0x33 s Code.AE_STACK (fun w x => x.pc < bits w 13 0 ∧
      0 < (if w.testBit 22 then bits w 21 14 else x.D (bits w 21 18) % 65536) ∧ x.loops.length = 4)

/-- HALT, SIG and WAIT (R241, R244, R245). The illegal forms and the poisoned operand (R224, R228, R231, R235, R237, R240, R243).
The predicate (R237): what is not executed takes a cycle and changes nothing. -/
def Obligations.AeStopsWaitsSkips : Prop :=
  (∀ (e : Nat) (s : State), s.Live →
     (s.dev.aeDoes e 0x34 = true → Does (.aeHalt e) s fun b a =>
       a.aeState e = AeState.halted ∧ a.nat (Reg.R3510_HALT_CODE e) = bits (b.aeNext e) 15 0 ∧
       a.nat (Reg.R3510_STOP_PC e) = (b.ae e).pc ∧ a.bit (Reg.R3510_SIGNAL e) 15 = true ∧ a.log = b.log) ∧
     (s.dev.aeDoes e 0x35 = true → Does (.aeSig e) s fun b a =>
       (∀ i < 16, a.bit (Reg.R3510_SIGNAL e) i = (b.bit (Reg.R3510_SIGNAL e) i || (bits (b.aeNext e) 15 0).testBit i)) ∧
       (b.ae e).Goes (a.ae e) ∧ (b.ae e).Keeps (a.ae e) [] ∧ b.Keeps a [.od, .aes, .plic] ∧
       b.KeepsRegs a [Reg.R3510_SIGNAL e]) ∧
     (s.dev.aeDoes e 0x36 = true → s.dev.nat (Reg.R3510_DOORBELL e) &&& bits (s.dev.aeNext e) 15 0 ≠ 0 →
       Does (.aeWait e) s fun b a =>
         (a.ae e).woke = b.nat (Reg.R3510_DOORBELL e) &&& bits (b.aeNext e) 15 0 ∧
         (∀ i < 16, a.bit (Reg.R3510_DOORBELL e) i = (b.bit (Reg.R3510_DOORBELL e) i && !(bits (b.aeNext e) 15 0).testBit i)) ∧
         (b.ae e).Goes (a.ae e) ∧ (b.ae e).Keeps (a.ae e) [.woke] ∧ b.Keeps a [.od, .aes] ∧
         b.KeepsRegs a [Reg.R3510_DOORBELL e]) ∧
     (s.dev.aeDoes e 0x36 = true → s.dev.nat (Reg.R3510_DOORBELL e) &&& bits (s.dev.aeNext e) 15 0 = 0 →
       Does (.aeWait e) s fun b a =>
         a.aeState e = AeState.waiting ∧ (a.ae e).mask = bits (b.aeNext e) 15 0 ∧ (a.ae e).pc = (b.ae e).pc ∧ (b.ae e).Keeps (a.ae e) [] ∧
         b.Keeps a [.od, .aes] ∧ b.KeepsRegs a [Reg.R3510_STATE e])) ∧
  (∀ (e : Nat) (s : State),
     (∀ (i : Instr) (op : Nat), (i, op) ∈ [(.aeAdd e, 0x10), (.aeSub e, 0x11), (.aeNeg e, 0x12), (.aeAbs e, 0x13), (.aeMax e, 0x14),
         (.aeMin e, 0x15), (.aeShl e, 0x19), (.aeShr e, 0x1A), (.aeSra e, 0x1B), (.aeBexp e, 0x1D), (.aeAddsub e, 0x1E),
         (.aeConj e, 0x0E), (.aeXch e, 0x0F), (.aeMov e, 0x08)] → AeStops i e op s Code.AE_ILLEGAL (fun w _ => fty w = 3)) ∧
     (∀ (i : Instr) (op : Nat), (i, op) ∈ [(.aeShl e, 0x19), (.aeShr e, 0x1A), (.aeSra e, 0x1B)] →
       AeStops i e op s Code.AE_ILLEGAL (fun w _ => bits w 2 1 = 3)) ∧
     AeStops (.aeAddsub e) e 0x1E s Code.AE_ILLEGAL (fun w _ => fd w % 2 = 1) ∧
     AeStops (.aeCmul16 e) e 0x28 s Code.AE_ILLEGAL (fun w _ => fd w % 2 = 1 ∨ fs w % 2 = 1 ∨ ft w % 2 = 1) ∧
     (∀ (i : Instr) (op : Nat), (i, op) ∈ [(.aeCmpy32 e, 0x23), (.aeCmac32 e, 0x24)] →
       AeStops i e op s Code.AE_ILLEGAL (fun w _ => bits w 22 21 % 2 = 1)) ∧
     (∀ (i : Instr) (op : Nat), (i, op) ∈ [(.aeCmpy16 e, 0x25), (.aeCmac16 e, 0x26)] →
       AeStops i e op s Code.AE_ILLEGAL (fun w _ => bits w 20 17 % 2 = 1 ∨ bits w 16 13 % 2 = 1)) ∧
     AeStops (.aeMva e) e 0x09 s Code.AE_ILLEGAL (fun w _ => (bits w 16 15 = 1 ∨ bits w 16 15 = 2) ∧ bits w 18 17 % 2 = 1) ∧
     AeStops (.aeMvda e) e 0x0A s Code.AE_ILLEGAL (fun w _ => bits w 16 15 = 2 ∧ bits w 18 17 % 2 = 1) ∧
     AeStops (.aeMvta e) e 0x0C s Code.AE_ILLEGAL (fun w x => sprWritable (bits w 18 13) (x.D (fd w)) = false) ∧
     AeStops (.aeMvfa e) e 0x0D s Code.AE_ILLEGAL (fun w _ => 37 < bits w 18 13) ∧
     AeStops (.aeLoop e) e 0x33 s Code.AE_ILLEGAL (fun w x => bits w 13 0 ≤ x.pc) ∧
     AeStops (.aeLd e) e 0x01 s Code.AE_ADDR_MODE (fun w x => bits w 14 13 = 2 ∧ x.revOk (bits w 18 16) = false) ∧
     AeStops (.aeSt e) e 0x02 s Code.AE_ADDR_MODE (fun w x => bits w 14 13 = 2 ∧ x.revOk (bits w 18 16) = false) ∧
     AeStops (.aeLd e) e 0x01 s Code.AE_MEM_ERROR (fun w x => bits w 14 13 ≠ 2 ∧
       x.poisoned (dataOff (bits w 15 15) ((x.usePtr (bits w 18 16)).addr (bits w 18 16))) = true)) ∧
  (∀ (e : Nat) (i : Instr) (op : Nat) (s : State),
     (i, op) ∈ [(.aeNop e, 0x00), (.aeLd e, 0x01), (.aeSt e, 0x02), (.aeLdxy e, 0x03), (.aeFtap e, 0x04), (.aeLdi e, 0x05),
       (.aeMov e, 0x08), (.aeMva e, 0x09), (.aeMvda e, 0x0A), (.aeAreg e, 0x0B), (.aeMvta e, 0x0C), (.aeMvfa e, 0x0D),
       (.aeConj e, 0x0E), (.aeXch e, 0x0F), (.aeAdd e, 0x10), (.aeSub e, 0x11), (.aeNeg e, 0x12), (.aeAbs e, 0x13),
       (.aeMax e, 0x14), (.aeMin e, 0x15), (.aeAnd e, 0x16), (.aeOr e, 0x17), (.aeXor e, 0x18), (.aeShl e, 0x19), (.aeShr e, 0x1A),
       (.aeSra e, 0x1B), (.aeCmp e, 0x1C), (.aeBexp e, 0x1D), (.aeAddsub e, 0x1E), (.aePlog e, 0x1F), (.aeMpy e, 0x20),
       (.aeMac e, 0x21), (.aeMsu e, 0x22), (.aeCmpy32 e, 0x23), (.aeCmac32 e, 0x24), (.aeCmpy16 e, 0x25), (.aeCmac16 e, 0x26),
       (.aeCmul32 e, 0x27), (.aeCmul16 e, 0x28), (.aeAclr e, 0x29), (.aeAsh e, 0x2A), (.aeBr e, 0x30), (.aeCall e, 0x31),
       (.aeRet e, 0x32), (.aeLoop e, 0x33), (.aeHalt e, 0x34), (.aeSig e, 0x35), (.aeWait e, 0x36)] →
     s.Live → e < 2 → s.dev.aeState e = AeState.running → s.dev.reg (Reg.R3510_MODE e) = 1 → (s.dev.ae e).pc ≤ 0x3FFF →
     (s.dev.ae e).poisoned (progOff (s.dev.ae e).pc) = false → Op.code (s.dev.aeNext e) = op →
     (op = 0x33 → (s.dev.ae e).pc < bits (s.dev.aeNext e) 13 0) →
     (s.dev.ae e).cr.testBit (bits (s.dev.aeNext e) 24 23) = (s.dev.aeNext e).testBit 25 →
     Does i s fun b a =>
       let x := b.ae e; let y := a.ae e
       b.Keeps a [.aes, .fresh] ∧ (∀ f, f ≠ e → a.ae f = b.ae f) ∧ x.Keeps y [] ∧ y.cycles = x.cycles + 1 ∧
       if op = 0x33 then y.pc = bits (b.aeNext e) 13 0 + 1 ∧ y.loops = x.loops else (y.pc, y.loops) = aeLoopEnd x.pc x.loops)

/-! ## The analysis engines: control, and identification -/

/-- ENGINE_MODE (R222): the memories cleared, the busy engine, and what is refused. The commands of CONTROL, and the reload of
the vendor library (R222, R227, R244). The doorbell, the signal, the end of a WAIT and the watchdog (R241, R243, R245). -/
def Obligations.EngineModesAndControl : Prop :=
  (∀ (e mode : Nat) (s : State), s.Up →
     let busy := s.found.aeState e = AeState.running ∨ s.found.aeState e = AeState.waiting ∨ ∃ j, (j, e) ∈ s.found.ident.jobOn
     (e < 2 → mode ≤ 1 → ¬busy → s.found.nat (Reg.R3510_MODE e) ≠ mode → Does (.engineMode e mode) s fun b a =>
       a.done = Code.STATUS_OK ∧ a.reg (Reg.R3510_MODE e) = mode ∧ a.aeState e = AeState.stopped ∧
       a.ae e = { b.ae e with prog := [], x := [], y := [], bad := [], ready := false } ∧ (∀ f, f ≠ e → a.ae f = b.ae f) ∧
       b.Keeps a [.od, .aes, .done] ∧ b.KeepsRegs a [Reg.R3510_MODE e, Reg.R3510_STATE e]) ∧
     (e < 2 → mode ≤ 1 → ¬busy → s.found.nat (Reg.R3510_MODE e) = mode → Does (.engineMode e mode) s fun b a =>
       a.done = Code.STATUS_OK ∧ b.Keeps a [.done]) ∧
     (e < 2 → mode ≤ 1 → busy → Does (.engineMode e mode) s fun b a =>
       a.done = Code.AE_MODE_BUSY ∧ a.LastRaised Code.AE_MODE_BUSY Kind.unit (48 + e) ∧ b.Keeps a (.done :: logParts) ∧
       b.KeepsRegs a logRegs) ∧
     (e < 2 → 1 < mode → Does (.engineMode e mode) s fun b a => a.done = Code.OD_RANGE ∧ b.Keeps a [.done]) ∧
     (2 ≤ e → Does (.engineMode e mode) s fun b a => a.done = Code.OD_NO_ENTRY ∧ b.Keeps a [.done])) ∧
  (∀ (e : Nat) (s : State), e < 2 →
     let going := s.found.aeState e = AeState.running ∨ s.found.aeState e = AeState.waiting
     let cleared := fun (x y : Ae) => y.prog = x.prog ∧ AePart.mem.Same x y ∧ y.exp = 63 ∧ y.sr = 0 ∧ y.cr = 1 ∧ y.cycles = 0 ∧
       (∀ i, y.D i = 0 ∧ y.A i = 0) ∧ y.p = [] ∧ y.m = [] ∧ y.l = [] ∧ y.b = [] ∧ y.calls = [] ∧ y.loops = []
     let own := s.found.reg (Reg.R3510_MODE e) = 1
     (s.Up → own → ¬going → Does (.engineStart e) s fun b a =>
       a.done = Code.STATUS_OK ∧ a.aeState e = AeState.running ∧ cleared (b.ae e) (a.ae e) ∧
       (a.ae e).pc = b.nat (Reg.R3510_START_PC e) ∧ (a.ae e).start = b.rawNow ∧
       a.reg (Reg.R3510_PROG_DIGEST e) = (odType (Reg.R3510_PROG_DIGEST e)).wrap (digest128 (b.aeProgram e)) ∧
       a.reg (Reg.R3510_CYCLES e) = 0 ∧ (∀ f, f ≠ e → a.ae f = b.ae f) ∧ b.Keeps a [.od, .aes, .done] ∧
       b.KeepsRegs a [Reg.R3510_STATE e, Reg.R3510_PROG_DIGEST e, Reg.R3510_CYCLES e]) ∧
     (s.Up → own → going → Does (.engineStart e) s fun b a =>
       a.done = Code.AE_RUNNING ∧ a.LastRaised Code.AE_RUNNING Kind.unit (48 + e) ∧ b.Keeps a (.done :: logParts) ∧
       b.KeepsRegs a logRegs) ∧
     (s.Up → own → going → Does (.engineStop e) s fun b a =>
       a.done = Code.STATUS_OK ∧ a.aeState e = AeState.stopped ∧
       (if b.aeState e = AeState.waiting then ((a.ae e).pc, (a.ae e).loops) = aeLoopEnd (b.ae e).pc (b.ae e).loops
         else a.ae e = b.ae e) ∧ (b.ae e).Keeps (a.ae e) [] ∧ (∀ f, f ≠ e → a.ae f = b.ae f) ∧
       a.reg (Reg.R3510_STOP_PC e) = (odType (Reg.R3510_STOP_PC e)).wrap (a.ae e).pc ∧
       a.reg (Reg.R3510_SR e) = (odType (Reg.R3510_SR e)).wrap (b.ae e).sr ∧
       a.reg (Reg.R3510_CYCLES e) = (odType (Reg.R3510_CYCLES e)).wrap (b.ae e).cycles ∧ b.Keeps a [.od, .aes, .done] ∧
       b.KeepsRegs a [Reg.R3510_STATE e, Reg.R3510_STOP_PC e, Reg.R3510_SR e, Reg.R3510_CYCLES e]) ∧
     (s.Up → own → ¬going → Does (.engineStop e) s fun b a => a.done = Code.STATUS_OK ∧ b.Keeps a [.done]) ∧
     (s.Up → own → Does (.engineReset e) s fun b a =>
       a.done = Code.STATUS_OK ∧ a.aeState e = AeState.stopped ∧ cleared (b.ae e) (a.ae e) ∧
       (∀ f, f ≠ e → a.ae f = b.ae f) ∧ b.Keeps a [.od, .aes, .done] ∧ b.KeepsRegs a [Reg.R3510_STATE e]) ∧
     (∀ i ∈ [Instr.engineStart e, .engineStop e, .engineReset e], s.Up → ¬own → Does i s fun b a =>
       a.done = Code.AE_OWNED ∧ a.LastRaised Code.AE_OWNED Kind.unit (48 + e) ∧ b.Keeps a (.done :: logParts) ∧
       b.KeepsRegs a logRegs) ∧
     (s.Live → s.found.reg (Reg.R3510_MODE e) = 0 → (s.found.ae e).ready = false → ∀ lib, s.found.library = some lib →
       Does (.libraryReload e) s fun b a =>
         (a.ae e).ready = true ∧ a.aeState e = AeState.stopped ∧
         (∀ i, a.aeWord e i = if i < 8192 ∧ 4 * i < lib.length then leNat (slice lib (4 * i) 4) else 0xD0000000) ∧
         (a.ae e).x = [] ∧ (a.ae e).y = [] ∧ (a.ae e).bad = [] ∧ (∀ i, (a.ae e).D i = 0 ∧ (a.ae e).A i = 0) ∧
         (∀ f, f ≠ e → a.ae f = b.ae f) ∧ b.Keeps a [.od, .aes] ∧ b.KeepsRegs a [Reg.R3510_STATE e]) ∧
     (s.Live → s.found.reg (Reg.R3510_MODE e) = 0 → (s.found.ae e).ready = false → s.found.library = none →
       Does (.libraryReload e) s fun b a => (a.ae e).ready = false ∧ a.aeState e = AeState.stopped ∧
         (∀ f, f ≠ e → a.ae f = b.ae f) ∧ b.Keeps a [.od, .aes] ∧ b.KeepsRegs a [Reg.R3510_STATE e])) ∧
  (∀ (e v : Nat) (s : State), e < 2 →
     (s.Up → Does (.doorbell e v) s fun b a =>
       a.done = Code.STATUS_OK ∧ (∀ i < 16, a.bit (Reg.R3510_DOORBELL e) i = (b.bit (Reg.R3510_DOORBELL e) i || v.testBit i)) ∧
       b.Keeps a [.od, .done] ∧ b.KeepsRegs a [Reg.R3510_DOORBELL e]) ∧
     (s.Up → Does (.signalClear e v) s fun b a =>
       a.done = Code.STATUS_OK ∧ (∀ i < 16, a.bit (Reg.R3510_SIGNAL e) i = (b.bit (Reg.R3510_SIGNAL e) i && !v.testBit i)) ∧
       (a.nat (Reg.R3510_SIGNAL e) &&& b.nat (Reg.R3510_SIG_MASK e) = 0 → 80 + e ∉ a.plic) ∧
       (∀ src, src ≠ 80 + e → (src ∈ a.plic ↔ src ∈ b.plic)) ∧
       b.Keeps a [.od, .plic, .done] ∧ b.KeepsRegs a [Reg.R3510_SIGNAL e]) ∧
     (s.Live → s.found.aeState e = AeState.waiting → s.found.nat (Reg.R3510_DOORBELL e) &&& (s.found.ae e).mask ≠ 0 →
       Does (.waitWake e) s fun b a =>
         a.aeState e = AeState.running ∧ (a.ae e).woke = b.nat (Reg.R3510_DOORBELL e) &&& (b.ae e).mask ∧
         (∀ i < 16, a.bit (Reg.R3510_DOORBELL e) i = (b.bit (Reg.R3510_DOORBELL e) i && !((b.ae e).mask).testBit i)) ∧
         ((a.ae e).pc, (a.ae e).loops) = aeLoopEnd (b.ae e).pc (b.ae e).loops ∧ (b.ae e).Keeps (a.ae e) [.woke] ∧
         (∀ f, f ≠ e → a.ae f = b.ae f) ∧
         b.Keeps a [.od, .aes, .fresh] ∧ b.KeepsRegs a [Reg.R3510_STATE e, Reg.R3510_DOORBELL e]) ∧
     (s.Live → s.found.reg (Reg.R3510_MODE e) = 1 → (s.found.aeState e = AeState.running ∨ s.found.aeState e = AeState.waiting) →
       0 < s.found.nat (Reg.R3510_WD_US e) →
       (s.found.ae e).start + 1000 * s.found.nat (Reg.R3510_WD_US e) < s.found.clk.raw + 31250 → Does (.aeWatchdog e) s fun b a =>
         a.aeState e = AeState.faulted ∧ a.nat (Reg.R3510_FAULT e) = Code.AE_WATCHDOG ∧
         a.reg (Reg.R3510_STOP_PC e) = (odType (Reg.R3510_STOP_PC e)).wrap (b.ae e).pc ∧
         a.bit (Reg.R3510_SIGNAL e) 15 = true ∧ a.aes = b.aes ∧ a.LastRaised Code.AE_WATCHDOG Kind.unit (48 + e)) ∧
     (s.Live → (s.found.nat (Reg.R3510_WD_US e) = 0 ∨
         s.found.clk.raw + 31250 ≤ (s.found.ae e).start + 1000 * s.found.nat (Reg.R3510_WD_US e)) →
       Does (.aeWatchdog e) s fun b a => b.Keeps a []))

/-- Injection starts and ends (R197, R198), with AXIS in its range of 0 to 127. Arming, rows and ends of capture (R201, R203,
R204). LENGTH_WRITE (R204). -/
def Obligations.InjectionAndCapture : Prop :=
  (∀ (g : Nat) (s : State), g < 16 → s.found.nat (Reg.R3430_AXIS g) < 128 →
     let key := Reg.R3430_START_CYCLE g
     let gen := fun (d : Dev) => d.reg (Reg.AX13_INJ_GEN (s.found.nat (Reg.R3430_AXIS g)))
     (s.Live → s.found.inSync = true → ∀ p, s.found.dueAt key = some p → s.found.injectionAllowed g = true →
       Does (.injectionStart g) s fun b a =>
       (a.injGen g).running = true ∧ (a.injGen g).evals = 0 ∧ a.reg (Reg.R3430_STATE g) = 2 ∧
       a.reg (Reg.R3430_STATUS g) = (if p.late then Code.LATE_EXECUTED else Code.STATUS_OK) ∧ gen a = g ∧
       (p.late = true → a.LastRaised Code.LATE_EXECUTED Kind.table 0) ∧ (p.late = false → a.log = b.log ∧ a.event = b.event) ∧
       mget none a.pend key = mget none b.pend (behind key) ∧
       (∀ h, h ≠ g → a.injGen h = b.injGen h) ∧ b.Keeps a (.pend :: .ident :: logParts)) ∧
     (s.Live → s.found.inSync = false → ∀ p, s.found.dueAt key = some p → Does (.injectionStart g) s fun b a =>
       mget none a.pend key = some { p with held := true, ready := false } ∧ b.Keeps a [.pend]) ∧
     (s.Live → s.found.inSync = true → ∀ p, s.found.dueAt key = some p → s.found.injectionAllowed g = false → Does (.injectionStart g) s fun b a =>
       a.reg (Reg.R3430_STATE g) = 0 ∧ a.reg (Reg.R3430_STATUS g) = Code.INJECTION_REFUSED ∧
       a.LastRaised Code.INJECTION_REFUSED Kind.other 0 ∧ a.ident = b.ident) ∧
     (s.Live → s.found.dueAt key = none → Does (.injectionStart g) s fun b a => b.Keeps a []) ∧
     (s.Up → (s.found.injGen g).running = true → Does (.injectionStop g) s fun b a =>
       a.done = Code.STATUS_OK ∧ (a.injGen g).running = false ∧ a.reg (Reg.R3430_STATE g) = 4 ∧ gen a = 0xFF ∧
       b.Keeps a [.od, .ident, .done] ∧
       b.KeepsRegs a [Reg.R3430_STATE g, Reg.AX13_INJ_GEN (b.nat (Reg.R3430_AXIS g))]) ∧
     (s.Up → (s.found.injGen g).running = false → Does (.injectionStop g) s fun b a =>
       a.done = Code.STATUS_OK ∧ b.Keeps a [.done]) ∧
     (s.Live → (s.found.injGen g).running = true → s.found.genOver g = true → Does (.injectionDone g) s fun b a =>
       (a.injGen g).running = false ∧ a.reg (Reg.R3430_STATE g) = 3 ∧ gen a = 0xFF ∧ b.Keeps a [.od, .ident]) ∧
     (s.Live → s.found.genOver g = false → Does (.injectionDone g) s fun b a => b.Keeps a [])) ∧
  (∀ (g : Nat) (s : State), g < 16 →
     let d := s.found
     let L := max 1 (d.nat (Reg.R3410_LENGTH g))
     let D := max 1 (d.nat (act (Reg.R3410_DIV g)))
     (s.Live → d.inSync = true → ∀ p, d.dueAt (Reg.R3410_ARM_CYCLE g) = some p → Does (.captureArm g) s fun b a =>
       a.reg (Reg.R3410_RUN_STATE g) = 2 ∧ a.reg (Reg.R3410_WR_PTR g) = 0 ∧ a.reg (Reg.R3410_WRAPS g) = 0 ∧
       a.reg (Reg.R3410_TRIG_ROW g) = 0xFFFFFFFF ∧ (a.capSet g).written = 0 ∧
       a.reg (Reg.R3410_LENGTH g) = (match (b.capSet g).newLen with
         | some l => (odType (Reg.R3410_LENGTH g)).wrap l | none => b.reg (Reg.R3410_LENGTH g)) ∧
       (p.late = true → a.LastRaised Code.LATE_EXECUTED Kind.table 0) ∧ (p.late = false → a.log = b.log) ∧
       (a.capSet g).newLen = none ∧ (a.capSet g).left = none ∧
       a.bytes (act (Reg.R3410_SOURCES g)) = b.bytes (Reg.R3410_SOURCES g) ∧ (∀ h, h ≠ g → a.capSet h = b.capSet h) ∧
       (∀ k ∈ [Reg.R3410_DIV g, Reg.R3410_PHASE g, Reg.R3410_N_CH g, Reg.R3410_MODE g, Reg.R3410_TRIG g, Reg.R3410_TRIG_INDEX g,
         Reg.R3410_TRIG_LEVEL g, Reg.R3410_POST_ROWS g], a.reg (act k) = (odType (act k)).wrap (b.reg k)) ∧
       b.Keeps a (.dom :: .gen :: .pend :: .ident :: logParts)) ∧
     (s.Live → d.inSync = false → ∀ p, d.dueAt (Reg.R3410_ARM_CYCLE g) = some p → Does (.captureArm g) s fun b a =>
       mget none a.pend (Reg.R3410_ARM_CYCLE g) = some { p with held := true, ready := false } ∧ b.Keeps a [.pend]) ∧
     (s.Live → d.nat (Reg.R3410_RUN_STATE g) = 2 →
       (d.clk.tick + 8 * D - d.nat (act (Reg.R3410_PHASE g))) % D = 0 → (d.capSet g).left ≠ some 0 →
       (d.capSet g).newLen = none → Does (.captureRow g) s fun b a =>
         let srcs := capSources (b.bytes (act (Reg.R3410_SOURCES g))) (b.nat (act (Reg.R3410_N_CH g)))
         let w := b.nat (Reg.R3410_WR_PTR g)
         let at_ := b.bufAddr g + w * rowSize srcs.length
         let row := leBytes 4 (b.rowStamp srcs) ++ (srcs.map b.channelWord).flatMap (leBytes 4)
         let trig := b.nat (act (Reg.R3410_MODE g)) = 1 ∧ (b.capSet g).left = none ∧
           b.triggered g (srcs.map b.channelWord) = true
         a.memRead at_ (rowSize srcs.length) = row ∧
         (∀ x, x < at_ ∨ at_ + rowSize srcs.length ≤ x → a.memAt x = b.memAt x) ∧
         a.reg (Reg.R3410_TRIG_ROW g) =
           (if trig then (odType (Reg.R3410_TRIG_ROW g)).wrap w else b.reg (Reg.R3410_TRIG_ROW g)) ∧
         (trig → (a.capSet g).left = some (b.nat (act (Reg.R3410_POST_ROWS g)))) ∧
         (w + 1 = L → a.reg (Reg.R3410_WRAPS g) = (odType (Reg.R3410_WRAPS g)).wrap
           (min (b.nat (Reg.R3410_WRAPS g) + 1) 0xFFFFFFFF)) ∧
         (w + 1 ≠ L → a.reg (Reg.R3410_WRAPS g) = b.reg (Reg.R3410_WRAPS g)) ∧
         (a.capSet g).written = (b.capSet g).written + 1 ∧ (∀ h, h ≠ g → a.capSet h = b.capSet h) ∧
         a.reg (Reg.R3410_WR_PTR g) = (odType (Reg.R3410_WR_PTR g)).wrap ((w + 1) % L : Nat) ∧
         b.Keeps a [.ph, .od, .ident, .mem] ∧ b.KeepsRegs a [Reg.R3410_WR_PTR g, Reg.R3410_WRAPS g, Reg.R3410_TRIG_ROW g]) ∧
     (s.Live → d.nat (Reg.R3410_RUN_STATE g) ≠ 2 → Does (.captureRow g) s fun b a => b.Keeps a [.ph]) ∧
     (s.Live → d.nat (Reg.R3410_RUN_STATE g) = 2 → (d.capSet g).left = some 0 → (d.capSet g).newLen = none →
       Does (.captureComplete g) s fun b a =>
         a.reg (Reg.R3410_RUN_STATE g) = 0 ∧ b.Keeps a [.od] ∧ b.KeepsRegs a [Reg.R3410_RUN_STATE g]) ∧
     (s.Live → (d.capSet g).left ≠ some 0 → Does (.captureComplete g) s fun b a => b.Keeps a []) ∧
     (s.Up → d.nat (Reg.R3410_RUN_STATE g) = 2 → (d.capSet g).newLen = none → Does (.captureStop g) s fun b a =>
       a.done = Code.STATUS_OK ∧ a.reg (Reg.R3410_RUN_STATE g) = 0 ∧ b.Keeps a [.od, .done] ∧
       b.KeepsRegs a [Reg.R3410_RUN_STATE g])) ∧
  (∀ (g len : Nat) (s : State), s.Up → g < 16 →
     let d := s.found
     let size := rowSize (d.nat (act (Reg.R3410_N_CH g)))
     let fits := d.capOthers g + size * d.nat (Reg.R3410_LENGTH g) + size * len ≤ 4194304
     let good := 16 ≤ len ∧ len ≤ 1048576
     (good → len ≠ d.nat (Reg.R3410_LENGTH g) → fits → d.nat (Reg.R3410_RUN_STATE g) ≠ 0 → Does (.lengthWrite g len) s fun b a =>
       a.done = Code.STATUS_OK ∧ a.capSet g = { b.capSet g with newLen := some len } ∧ a.reg (Reg.R3410_LEN_STATE g) = 1 ∧
       b.Keeps a [.od, .ident, .done] ∧ b.KeepsRegs a [Reg.R3410_LEN_STATE g]) ∧
     (good → len ≠ d.nat (Reg.R3410_LENGTH g) → fits → d.nat (Reg.R3410_RUN_STATE g) = 0 → Does (.lengthWrite g len) s fun b a =>
       a.done = Code.STATUS_OK ∧ a.reg (Reg.R3410_LENGTH g) = len ∧ a.reg (Reg.R3410_LEN_STATE g) = 0 ∧
       a.capSet g = { b.capSet g with written := 0, newLen := none, buffer := (b.capSet g).buffer + 1 } ∧
       a.reg (Reg.R3410_WR_PTR g) = 0 ∧ a.reg (Reg.R3410_WRAPS g) = 0 ∧ b.Keeps a [.od, .ident, .done] ∧
       b.KeepsRegs a [Reg.R3410_LENGTH g, Reg.R3410_LEN_STATE g, Reg.R3410_WR_PTR g, Reg.R3410_WRAPS g]) ∧
     (good → len = d.nat (Reg.R3410_LENGTH g) → Does (.lengthWrite g len) s fun b a =>
       a.done = Code.STATUS_OK ∧ a.capSet g = { b.capSet g with newLen := none } ∧ a.reg (Reg.R3410_LEN_STATE g) = 0 ∧
       b.KeepsRegs a [Reg.R3410_LEN_STATE g]) ∧
     (good → len ≠ d.nat (Reg.R3410_LENGTH g) → ¬fits → Does (.lengthWrite g len) s fun b a =>
       a.done = Code.CAPTURE_NO_SPACE ∧ a.LastRaised Code.CAPTURE_NO_SPACE Kind.other 0 ∧ a.ident = b.ident ∧
       b.KeepsRegs a logRegs) ∧
     (¬good → Does (.lengthWrite g len) s fun b a => a.done = Code.OD_RANGE ∧ b.Keeps a [.done]))

/-- Jobs (R206, R207, R221). Notch trackers (R211, R212, R214, R223). -/
def Obligations.JobsAndTrackers : Prop :=
  (∀ (j e : Nat) (s : State), j < 8 → e < 2 →
     let d := s.found
     (s.Up → d.nat (Reg.R3420_JOB_STATE j) ≠ 1 → d.nat (Reg.R3420_JOB_STATE j) ≠ 2 → Does (.jobRun j) s fun b a =>
       a.done = Code.STATUS_OK ∧ a.ident = { b.ident with jobs := b.ident.jobs ++ [j] } ∧ a.reg (Reg.R3420_JOB_STATE j) = 1 ∧
       a.reg (Reg.R3420_JOB_REASON j) = 0 ∧ b.Keeps a [.od, .ident, .done] ∧
       b.KeepsRegs a [Reg.R3420_JOB_STATE j, Reg.R3420_JOB_REASON j]) ∧
     (s.Up → (d.nat (Reg.R3420_JOB_STATE j) = 1 ∨ d.nat (Reg.R3420_JOB_STATE j) = 2) → Does (.jobRun j) s fun b a =>
       a.done = Code.OD_STATE ∧ b.Keeps a [.done]) ∧
     (s.Live → d.trackersWait = [] → d.ident.jobs.head? = some j → d.vendorEngine e = true → (∀ i, (i, e) ∉ d.ident.jobOn) →
       d.nat (Reg.R3410_RUN_STATE (d.nat (Reg.R3420_CAPTURE_SET j))) = 0 → Does (.jobStart j e) s fun b a =>
         a.reg (Reg.R3420_JOB_STATE j) = 2 ∧
         a.ident = { b.ident with jobs := b.ident.jobs.tail, jobOn := b.ident.jobOn ++ [(j, e)] } ∧ b.Keeps a [.od, .ident] ∧
         b.KeepsRegs a [Reg.R3420_JOB_STATE j]) ∧
     (s.Live → d.trackersWait = [] → d.ident.jobs.head? = some j → d.vendorEngine e = true → (∀ i, (i, e) ∉ d.ident.jobOn) →
       d.nat (Reg.R3410_RUN_STATE (d.nat (Reg.R3420_CAPTURE_SET j))) ≠ 0 → Does (.jobStart j e) s fun _ a =>
         a.reg (Reg.R3420_JOB_STATE j) = 4 ∧ a.reg (Reg.R3420_JOB_REASON j) = 1 ∧ j ∉ a.ident.jobs ∧
         a.LastRaised Code.JOB_FAILED Kind.other 0) ∧
     (s.Live → (d.ident.jobs.head? ≠ some j ∨ d.trackersWait ≠ []) → Does (.jobStart j e) s fun b a => b.Keeps a []) ∧
     (s.Live → d.nat (Reg.R3420_JOB_STATE j) = 2 → d.reg (Reg.R3420_KIND j) = 1 → 2 ≤ (d.jobRows j).length →
       Does (.jobComplete j) s fun b a =>
         a.reg (Reg.R3420_JOB_STATE j) = 3 ∧ (∀ f, (j, f) ∉ a.ident.jobOn) ∧
         a.bytes (Reg.R3420_RESULT j) = b.frfBytes j (b.jobRate j / (b.nat (Reg.R3420_N_FFT j) : Rat)) (b.jobRows j).length
           (b.frfCodes j b.fresh (b.jobRows j)) ∧
         b.Keeps a [.od, .dom, .gen, .ident, .fresh] ∧ b.KeepsRegs a [Reg.R3420_JOB_STATE j]) ∧
     (s.Live → d.nat (Reg.R3420_JOB_STATE j) = 2 → (d.jobRows j).length < 2 → Does (.jobComplete j) s fun _ a =>
       a.reg (Reg.R3420_JOB_STATE j) = 4 ∧ a.reg (Reg.R3420_JOB_REASON j) = 2 ∧ (∀ f, (j, f) ∉ a.ident.jobOn) ∧
       a.LastRaised Code.JOB_FAILED Kind.other 0)) ∧
  (∀ (t : Nat) (s : State), t < 32 →
     let d := s.found
     let n := d.nat (Reg.R3440_AXIS t)
     let l := d.nat (Reg.R3440_LEVEL t)
     let pct := d.nat (Reg.R3440_BAND_PCT t)
     let f0 := f32 (d.reg (Reg.R3440_F0 t))
     let f := f32 (d.reg (Reg.R3440_F_EST t))
     let alone := ∀ u < 32, u ≠ t → d.reg (Reg.R3440_EN u) ≠ 0 → d.nat (Reg.R3440_AXIS u) = n → d.nat (Reg.R3440_LEVEL u) = l →
       d.nat (Reg.R3440_SEC u) ≠ d.nat (Reg.R3440_SEC t)
     let good := d.nat (Reg.R3440_SEC t) < (Bank.parse (d.image n l)).nPost ∧ d.levelOn n l = true ∧ 1 ≤ pct ∧ pct ≤ 20 ∧
       f0 * (1 + (pct : Rat) / 100) ≤ 45 / 100 * d.levelRate n l ∧ alone
     (s.Up → d.reg (Reg.R3440_EN t) = 0 → good → Does (.trackerEnable t true) s fun b a =>
       a.done = Code.STATUS_OK ∧ a.reg (Reg.R3440_EN t) = 1 ∧ a.reg (Reg.R3440_TRACK_STATE t) = 1 ∧ b.Keeps a [.od, .ident, .done] ∧
       b.KeepsRegs a [Reg.R3440_EN t, Reg.R3440_TRACK_STATE t]) ∧
     (s.Up → d.reg (Reg.R3440_EN t) = 0 → ¬good → Does (.trackerEnable t true) s fun b a =>
       a.done = Code.CAPTURE_INVALID ∧ a.reg (Reg.R3440_EN t) = 0 ∧ a.LastRaised Code.CAPTURE_INVALID Kind.axis n ∧
       a.ident = b.ident) ∧
     (s.Up → Does (.trackerEnable t false) s fun b a =>
       a.done = Code.STATUS_OK ∧ a.reg (Reg.R3440_EN t) = 0 ∧ a.reg (Reg.R3440_TRACK_STATE t) = 0 ∧
       b.KeepsRegs a [Reg.R3440_EN t, Reg.R3440_TRACK_STATE t]) ∧
     (s.Live → d.reg (Reg.R3440_EN t) ≠ 0 → d.nat (Reg.R3440_TRACK_STATE t) ≠ 3 → (d.tracker t).served ≠ some d.clk.cycle64 →
       d.vendorEngine 0 = false → d.vendorEngine 1 = false → Does (.trackerStep t) s fun b a =>
         a.reg (Reg.R3440_TRACK_STATE t) = 2 ∧
         a.tracker t = { b.tracker t with served := some b.clk.cycle64, outside := 0 } ∧
         b.Keeps a [.od, .fresh, .ident] ∧ b.KeepsRegs a [Reg.R3440_TRACK_STATE t]) ∧
     (s.Live → d.reg (Reg.R3440_EN t) ≠ 0 → d.nat (Reg.R3440_TRACK_STATE t) ≠ 3 → (d.tracker t).served ≠ some d.clk.cycle64 →
       d.vendorEngine 0 = true → d.axState n = AxState.moving → d.oldChannel n = false → d.reg (Reg.R3440_MIN_RMS t) = -2 ^ 31 →
       Does (.trackerStep t) s fun b a =>
         let code : Nat := Config.trackEstimate b.fresh % 4294967296
         let inside := f0 - f0 * (pct : Rat) / 100 ≤ f32 (code : Int) ∧ f32 (code : Int) ≤ f0 + f0 * (pct : Rat) / 100
         (inside → a.reg (Reg.R3440_F_EST t) = (odType (Reg.R3440_F_EST t)).wrap code ∧ a.reg (Reg.R3440_TRACK_STATE t) = 1 ∧
           (a.tracker t).outside = 0) ∧
         (¬inside → (d.tracker t).outside < 3 → a.reg (Reg.R3440_TRACK_STATE t) = 1 ∧
           (a.tracker t).outside = (b.tracker t).outside + 1 ∧ a.reg (Reg.R3440_F_EST t) = b.reg (Reg.R3440_F_EST t)) ∧
         (¬inside → 3 ≤ (d.tracker t).outside → a.reg (Reg.R3440_TRACK_STATE t) = 3 ∧
           a.LastRaised Code.NOTCH_BOUND Kind.axis n)) ∧
     (s.Live → d.reg (Reg.R3440_EN t) ≠ 0 → (d.tracker t).served = some d.clk.cycle64 → Does (.trackerStep t) s fun b a =>
       b.Keeps a []) ∧
     (s.Live → d.reg (Reg.R3440_EN t) = 0 → Does (.trackerStep t) s fun b a => b.Keeps a []) ∧
     (s.Live → n < 128 → l < 4 → d.reg (Reg.R3440_EN t) ≠ 0 → d.nat (Reg.R3440_TRACK_STATE t) = 1 → d.clk.tick = 6 →
       f0 - f0 * (pct : Rat) / 100 ≤ f → f ≤ f0 + f0 * (pct : Rat) / 100 →
       f32 (d.reg (Reg.R3440_HYST_PCT t)) / 100 * f0 < ratAbs (f - f32 (d.trackApplied t)) →
       (∀ c, (d.tracker t).lastAt = some c → c + 16 ≤ d.clk.cycle64) →
       mget none d.pend (Reg.AX9_COMMIT_CYCLE n) = none → Does (.trackerUpdate t) s fun b a =>
         (∃ p, mget none a.pend (Reg.AX9_COMMIT_CYCLE n) = some p ∧ p.cycle = b.clk.cycle64 + 2 ∧ p.policy = 0 ∧
           p.mask = 2 ^ l ∧ p.bump = 0 ∧ p.tracker = some t) ∧
         a.reg (Reg.AX9_COMMIT_STATUS n) = Code.COMMIT_PENDING ∧
         a.bytes (Reg.AX9_INACTIVE_CUR n + l) =
           patch (b.image n l) (32 + 20 * ((Bank.parse (b.image n l)).nPre + (Bank.parse (b.image n l)).nCtl +
             b.nat (Reg.R3440_SEC t))) (coefBytes (notchDesign f (f32 (b.reg (Reg.R3440_WIDTH_HZ t)))
               (f32 (b.reg (Reg.R3440_DEPTH t))) (b.levelRate n l))) ∧
         b.Keeps a [.ph, .od, .dom, .gen, .pend, .ident] ∧ b.KeepsRegs a [Reg.AX9_COMMIT_STATUS n]) ∧
     (s.Live → d.clk.tick ≠ 6 → Does (.trackerUpdate t) s fun b a => b.Keeps a [.ph]))

/-! ## Motion of axes -/

/-- Moves and velocity changes at the run that takes them (R99, R101 to R104, R132). -/
def Obligations.MovesTaken : Prop :=
  ∀ (n : Nat) (p : MoveParams) (s : State), s.Live → n < 128 →
    let d := s.found
    let moving := fun (st : Nat) => if st = AxState.test then AxState.test else AxState.moving
    let told := fun (b a : Dev) (code : Nat) => a.done = Code.STATUS_OK ∧ a.nat (Reg.AX5_CMD_STATUS n) = Code.STATUS_OK ∧
      a.reg (Reg.AX5_TAKEN_SEQ n) = (odType (Reg.AX5_TAKEN_SEQ n)).wrap p.seq ∧ a.nat (Reg.AX5_ACTIVE_CMD n) = code ∧
      (∀ m, m ≠ n → a.axis m = b.axis m)
    let abs := fun (i : Instr) (code : Nat) (target : Int) =>
      d.accepts n (commandOf p code) = true →
      ((d.softOn n = false ∨ d.insideSoft n target = true) → ¬(d.atRest n = true ∧ target = d.setpoint n) → Does i s fun b a =>
        told b a code ∧ a.axState n = moving (b.axState n) ∧ (a.axis n).motion = .plan ∧ (a.axis n).planT = 0 ∧
        (a.axis n).baseTgt = some target ∧
        (a.axis n).plan = some
          { p0 := b.setpoint n, v0 := b.setVel n, final := some target,
            parts := (movePlan (fix (target - b.setpoint n)) (b.setVel n) (b.setAcc n) (clipMag p.vel (b.vMax n)).1
              (clipMag p.acc (b.aMax n)).1 (b.effJerk n p.jerk)).parts }) ∧
      ((d.softOn n = false ∨ d.insideSoft n target = true) → d.atRest n = true → target = d.setpoint n → Does i s fun b a =>
        told b a 0 ∧ a.bit (Reg.AX5_FLAGS n) 0 = true ∧ (a.axis n).motion = .rest ∧ (a.axis n).plan = none ∧
        a.axState n = (if b.axState n = AxState.test then AxState.test else AxState.enabled) ∧ b.Keeps a [.od, .axes, .done]) ∧
      (d.softOn n = true → d.insideSoft n target = false → Does i s fun b a =>
        a.done = Code.TARGET_BEYOND_LIMIT ∧ a.nat (Reg.AX5_CMD_STATUS n) = Code.TARGET_BEYOND_LIMIT ∧ a.axes = b.axes ∧
        a.LastRaised Code.TARGET_BEYOND_LIMIT Kind.axis n)
    abs (.moveAbs n p) 1 p.target ∧
    abs (.moveRel n p) 2 (wrapBits 64 ((d.axis n).baseTgt.getD (d.setpoint n) + p.target)) ∧
    (d.accepts n (commandOf p 3) = true → Does (.velocity n p) s fun b a =>
      told b a 3 ∧ a.axState n = moving (b.axState n) ∧ (a.axis n).motion = .plan ∧ (a.axis n).planT = 0 ∧
      a.nat (Reg.AX11_HOME_STATE n) = 0 ∧
      (a.axis n).plan = some
        { p0 := b.setpoint n, v0 := b.setVel n, final := none, tail := (clipVel p.vel (b.vMax n)).1,
          parts := velChange (b.setVel n) (b.setAcc n) (clipVel p.vel (b.vMax n)).1 (clipMag p.acc (b.aMax n)).1
            (b.effJerk n p.jerk) } ∧
      b.Keeps a [.od, .axes, .done])

/-- Stops, homing, gearing and following at the run that takes them, and the refusal of R98 (R98, R99, R102, R106, R115, R119). -/
def Obligations.StopsAndFollowingTaken : Prop :=
  ∀ (n : Nat) (p : MoveParams) (s : State), s.Live → n < 128 →
    let d := s.found
    let ok := fun (h : Held) => d.accepts n h = true
    let told := fun (a : Dev) => a.done = Code.STATUS_OK ∧ a.nat (Reg.AX5_CMD_STATUS n) = Code.STATUS_OK
    let flags := [Reg.AX5_TAKEN_SEQ n, Reg.AX5_CMD_STATUS n, Reg.AX5_FLAGS n]
    let movesOn := fun (b a : Dev) => a.axState n = if b.axState n = AxState.test then AxState.test else AxState.moving
    let stopping := fun (b a : Dev) (A : Rat) (J : Option Rat) =>
      told a ∧ a.axState n = AxState.stopping ∧ (a.axis n).stopWhy = .command ∧ (a.axis n).motion = .plan ∧
      (a.axis n).plan = some (stopPlan (b.setpoint n) (b.setVel n) (b.setAcc n) A J) ∧ a.nat (Reg.AX11_HOME_STATE n) = 0 ∧
      b.Keeps a [.od, .axes, .done]
    (ok (d.params n 4) → (d.axState n = AxState.moving ∨ d.axState n = AxState.stopping) → (d.axis n).motion ≠ .ramp →
      Does (.hold n) s fun b a => stopping b a (b.aMax n) (b.jMax n)) ∧
    (ok (commandOf p 5) → (d.axState n = AxState.moving ∨ d.axState n = AxState.stopping) → (d.axis n).motion ≠ .ramp →
      Does (.stop n p) s fun b a => stopping b a (clipMag p.acc (b.aMax n)).1 (b.effJerk n p.jerk)) ∧
    (∀ h i, (h, i) ∈ [(d.params n 4, Instr.hold n), (commandOf p 5, .stop n p)] → ok h → d.axState n = AxState.enabled →
      Does i s fun b a => told a ∧ a.nat (Reg.AX5_FLAGS n) &&& Flag.ofCommand = 0 ∧ b.Keeps a [.od, .done] ∧ b.KeepsRegs a flags) ∧
    (ok (d.params n 6) → d.closed n = true → d.axState n ≠ AxState.fault → Does (.quickStop n) s fun _ a =>
      told a ∧ a.axState n = AxState.stopping ∧ (a.axis n).motion = .ramp) ∧
    (ok (d.params n 6) → (d.closed n = false ∨ d.axState n = AxState.fault) → Does (.quickStop n) s fun b a =>
      told a ∧ b.Keeps a [.od, .done] ∧ b.KeepsRegs a flags) ∧
    (ok (d.params n 7) → d.reg (Reg.AX11_METHOD n) = 3 → Does (.home n) s fun b a =>
      told a ∧ a.reg (Reg.AX11_HOMED n) = 1 ∧ a.nat (Reg.AX11_HOME_STATE n) = HomeState.idle ∧ a.axState n = AxState.enabled ∧
      (a.axis n).offset = b.reg (Reg.AX11_HOME_POS n) ∧ a.LastRaised Code.HOMING_DONE Kind.axis n) ∧
    (ok (d.params n 7) → d.nat (Reg.AX11_METHOD n) ≤ 2 → Does (.home n) s fun b a =>
      told a ∧ a.reg (Reg.AX11_HOMED n) = 0 ∧ movesOn b a ∧ (a.axis n).motion = .plan ∧
      (a.axis n).homeFrom = b.setpoint n ∧
      a.nat (Reg.AX11_HOME_STATE n) =
        if b.nat (Reg.AX11_METHOD n) = 2 then HomeState.push
        else if b.switchActive n (b.homeRole n) = true then HomeState.reverse else HomeState.search) ∧
    (∀ h i m, (h, i, m) ∈ [(d.params n 8, Instr.gear n, Motion.gear), (d.params n 9, .follow n, .follow)] → ok h →
      Does i s fun b a =>
        told a ∧ movesOn b a ∧ (a.axis n).motion = m ∧ (a.axis n).plan = none ∧ (a.axis n).gear = { y0 := b.setpoint n } ∧
        a.reg (Reg.AX6_ENGAGED n) = 0 ∧ b.Keeps a [.od, .axes, .done]) ∧
    (∀ h i, (h, i) ∈ [(commandOf p 1, Instr.moveAbs n p), (commandOf p 2, .moveRel n p), (commandOf p 3, .velocity n p),
        (d.params n 4, .hold n), (commandOf p 5, .stop n p), (d.params n 6, .quickStop n), (d.params n 7, .home n),
        (d.params n 8, .gear n), (d.params n 9, .follow n)] → d.accepts n h = false → Does i s fun b a =>
      a.done = Code.COMMAND_REFUSED ∧ a.nat (Reg.AX5_CMD_STATUS n) = Code.COMMAND_REFUSED ∧
      a.LastRaised Code.COMMAND_REFUSED Kind.axis n ∧ b.Keeps a (.done :: logParts) ∧
      b.KeepsRegs a (Reg.AX5_TAKEN_SEQ n :: Reg.AX5_CMD_STATUS n :: logRegs))

/-- The control word (R96, R97). -/
def Obligations.ControlWord : Prop :=
  ∀ (n : Nat) (s : State), s.Live → n < 128 →
    let bitIs := fun (a : Dev) (i : Nat) (v : Bool) => a.bit (Reg.AX1_CONTROL n) i = v
    let regs := [Reg.AX1_STATE n, Reg.AX1_CONTROL n]
    let d := s.found
    let e := d.setControlBit n 1 true
    (d.axState n = AxState.disabled → (d.axis n).fb.ready = true → Does (.switchOn n true) s fun b a =>
      a.axState n = AxState.ready ∧ bitIs a 0 true ∧ b.Keeps a [.od] ∧ b.KeepsRegs a regs) ∧
    (d.axState n = AxState.ready → Does (.switchOn n false) s fun b a =>
      a.axState n = AxState.disabled ∧ bitIs a 0 false ∧ b.Keeps a [.od] ∧ b.KeepsRegs a regs) ∧
    (d.axState n = AxState.ready → d.state = DevState.run → e.faultPresent n = false → e.stoHeld n = false →
      e.groupOff n = false → e.testPending n = false → e.skewBlocks = false → Does (.enable n true) s fun b a =>
        a.axState n = AxState.enabled ∧ bitIs a 1 true ∧
        a.reg (Reg.AX5_SETPOINT n) = (odType (Reg.AX5_SETPOINT n)).wrap (b.measured n) ∧ a.reg (Reg.AX5_SET_VEL n) = 0 ∧
        a.reg (Reg.AX5_SET_ACC n) = 0 ∧ a.reg (Reg.AX1_REACTION n) = 0 ∧ (a.axis n).cur = {} ∧ (a.axis n).velL = {} ∧
        (a.axis n).posL = {} ∧ (a.axis n).auxL = {} ∧ (a.axis n).motion = .rest ∧ (a.axis n).plan = none ∧
        b.Keeps a [.od, .axes, .safe]) ∧
    (d.axState n = AxState.ready → (e.faultPresent n = true ∨ e.stoHeld n = true ∨ d.state ≠ DevState.run) →
      Does (.enable n true) s fun b a =>
        a.axState n = AxState.ready ∧ bitIs a 1 true ∧ b.Keeps a [.od] ∧ b.KeepsRegs a [Reg.AX1_CONTROL n]) ∧
    ((d.axState n = AxState.enabled ∨ d.axState n = AxState.moving ∨ d.axState n = AxState.test) →
      Does (.enable n false) s fun _ a =>
        a.axState n = AxState.stopping ∧ (a.axis n).stopWhy = .disable ∧ (a.axis n).command = none) ∧
    (d.axState n = AxState.fault → d.faultPresent n = false → (d.axis n).loopsOff = true → Does (.faultAck n) s fun b a =>
      a.axState n = AxState.ready ∧ (a.axis n).loopsOff = false ∧ a.reg (Reg.AX1_REACTION n) = 0 ∧
      a.reg (Reg.R5080_SAFE_STATE n) = 0 ∧ b.Keeps a [.od, .axes, .safe] ∧
      b.KeepsRegs a [Reg.AX1_STATE n, Reg.AX1_REACTION n, Reg.R5080_SAFE_STATE n]) ∧
    (d.axState n = AxState.fault → d.faultPresent n = false → (d.axis n).loopsOff = false → Does (.faultAck n) s fun b a =>
      a.axState n = AxState.enabled ∧ a.reg (Reg.AX5_SETPOINT n) = (odType (Reg.AX5_SETPOINT n)).wrap (b.measured n) ∧
      a.reg (Reg.AX5_SET_VEL n) = 0 ∧ a.reg (Reg.AX5_SET_ACC n) = 0 ∧ (a.axis n).motion = .rest ∧
      a.reg (Reg.R5080_SAFE_STATE n) = 0 ∧ b.Keeps a [.od, .axes, .safe]) ∧
    ((d.axState n ≠ AxState.fault ∨ d.faultPresent n = true) → Does (.faultAck n) s fun b a => b.Keeps a []) ∧
    (d.axState n = AxState.enabled → d.slsActive n = true → Does (.testReq n true) s fun b a =>
      a.axState n = AxState.test ∧ bitIs a 3 true ∧ b.Keeps a [.od] ∧ b.KeepsRegs a regs) ∧
    (d.axState n = AxState.enabled → d.slsActive n = false → Does (.testReq n true) s fun b a =>
      a.axState n = AxState.enabled ∧ bitIs a 3 true ∧ b.Keeps a [.od] ∧ b.KeepsRegs a [Reg.AX1_CONTROL n]) ∧
    (d.axState n = AxState.test → (d.axis n).motion ≠ .rest → Does (.testReq n false) s fun _ a =>
      a.axState n = AxState.moving) ∧
    (d.axState n = AxState.test → (d.axis n).motion = .rest → (∀ c, d.executing c = false) → Does (.testReq n false) s fun _ a =>
      a.axState n = AxState.enabled)

/-- The ends of plans and stops, the limits, the lost source (R95, R96, R101, R105, R118). -/
def Obligations.PlanEndsAndLimits : Prop :=
  ∀ (n : Nat) (s : State), n < 128 →
    let d := s.found
    let at0 := fun (a : Dev) (f : Int) => a.reg (Reg.AX5_SETPOINT n) = (odType (Reg.AX5_SETPOINT n)).wrap f ∧
      a.reg (Reg.AX5_SET_VEL n) = 0 ∧ a.reg (Reg.AX5_SET_ACC n) = 0
    (∀ p f, s.Live → (d.axState n = AxState.moving ∨ d.axState n = AxState.test) → (d.axis n).plan = some p → p.final = some f →
      ended p.time (d.axis n).planT = true → (d.axis n).softStop = false → d.nat (Reg.AX11_HOME_STATE n) = HomeState.idle →
      Does (.planEnd n) s fun b a =>
        at0 a f ∧ a.bit (Reg.AX5_FLAGS n) 0 = true ∧ (a.axis n).plan = none ∧ (a.axis n).motion = .rest ∧
        a.axState n = (if b.axState n = AxState.moving then AxState.enabled else AxState.test) ∧
        a.reg (Reg.AX5_ACTIVE_CMD n) = 0 ∧ b.Keeps a [.od, .axes] ∧
        b.KeepsRegs a [Reg.AX5_SETPOINT n, Reg.AX5_SET_VEL n, Reg.AX5_SET_ACC n, Reg.AX5_ACTIVE_CMD n, Reg.AX5_FLAGS n,
          Reg.AX1_STATE n]) ∧
    (s.Live → ((d.axis n).plan = none ∨ d.planDone n = false) → Does (.planEnd n) s fun b a => b.Keeps a []) ∧
    (∀ p f, s.Live → d.axState n = AxState.stopping → (d.axis n).plan = some p → p.final = some f →
      ended p.time (d.axis n).planT = true →
        (((d.axis n).stopWhy = .command ∨ (d.axis n).stopWhy = .quick) → Does (.standstill n) s fun b a =>
          at0 a f ∧ a.axState n = AxState.enabled ∧ (a.axis n).motion = .rest ∧ (a.axis n).plan = none ∧ b.Keeps a [.od, .axes]) ∧
        ((d.axis n).stopWhy = .disable → Does (.standstill n) s fun b a =>
          at0 a f ∧ a.axState n = AxState.ready ∧ (a.axis n).plan = none ∧ b.Keeps a [.od, .axes]) ∧
        ∀ r, r ≠ Reaction.ss1 → (d.axis n).stopWhy = .reaction r → Does (.standstill n) s fun b a =>
          at0 a f ∧ a.axState n = AxState.fault ∧ (a.axis n).loopsOff = false ∧
          a.reg (Reg.AX1_FAULT_CODE n) = (odType (Reg.AX1_FAULT_CODE n)).wrap (b.axis n).cause ∧ b.Keeps a [.od, .axes]) ∧
    (s.Live → (d.axState n ≠ AxState.stopping ∨ d.planDone n = false) → Does (.standstill n) s fun b a => b.Keeps a []) ∧
    (∀ (obj sub i : Nat) (v : Int) (e : Entry),
      let k := Reg.key (0x2000 + 16 * n + obj) sub
      let t := d.set k v
      s.Up → (obj = 2 ∨ obj = 3) → entryOf k = some (e, i) →
        (e.rng.has (e.ty.wrap v) = true → (obj = 3 ∨ t.reg (Reg.AX2_SOFT_EN n) = 0 ∨
            t.reg (Reg.AX2_SOFT_MIN n) < t.reg (Reg.AX2_SOFT_MAX n)) → Does (.limitsWrite n obj sub v) s fun b a =>
          a.done = Code.STATUS_OK ∧ a.reg k = e.ty.wrap v ∧ a.limit n k = b.limit n k ∧ (a.axis n).replan = true ∧
          (∀ m, m ≠ n → a.axis m = b.axis m) ∧ b.Keeps a [.od, .axes, .done] ∧ b.KeepsRegs a [k]) ∧
        (e.rng.has (e.ty.wrap v) = false ∨ (obj = 2 ∧ t.reg (Reg.AX2_SOFT_EN n) ≠ 0 ∧
            t.reg (Reg.AX2_SOFT_MAX n) ≤ t.reg (Reg.AX2_SOFT_MIN n)) → Does (.limitsWrite n obj sub v) s fun b a =>
          a.done = Code.OD_RANGE ∧ b.Keeps a [.done])) ∧
    (s.Live → ((d.axis n).motion = .gear ∨ (d.axis n).motion = .follow ∨ (d.axis n).motion = .heldSource) →
      (d.nat (Reg.AX6_SRC_KIND n) = 4 ∨ d.nat (Reg.AX6_SRC_KIND n) = 5) → d.ageLimit n < (d.sourceVal n).age →
      d.axState n = AxState.moving → (d.axis n).reactNow = 0 → d.chainOf n = none →
      (d.nat (Reg.AX14_FOLLOW_ERROR n) = Reaction.qstop ∨ d.nat (Reg.AX14_FOLLOW_ERROR n) = Reaction.ss1) →
      Does (.sourceLost n) s fun b a =>
        a.axState n = AxState.stopping ∧ (a.axis n).reactNow = b.nat (Reg.AX14_FOLLOW_ERROR n) ∧
        (a.axis n).cause = Code.SOURCE_LOST ∧ (a.axis n).motion = .ramp ∧
        a.reg (Reg.AX1_REACTION n) = b.reg (Reg.AX14_FOLLOW_ERROR n)) ∧
    (s.Live → (d.sourceVal n).age ≤ d.ageLimit n → Does (.sourceLost n) s fun b a => b.Keeps a [])

/-! ## Chains -/

/-- Queue and control of a chain (R107, R108, R113). The end of a segment (R108, R111). -/
def Obligations.ChainsRun : Prop :=
  (∀ (c : Nat) (s : State), c < 16 →
     let d := s.found
     let others := fun (b a : Dev) => ∀ k, k ≠ c → a.chain k = b.chain k
     (∀ r, s.Up → d.segValid c r = true → (d.chain c).queue.length < 256 → Does (.append c r) s fun b a =>
       a.done = Code.STATUS_OK ∧ a.chain c = { b.chain c with queue := (b.chain c).queue ++ [r] } ∧ others b a ∧
       b.Keeps a [.chains, .done]) ∧
     (∀ r, s.Up → d.segValid c r = false → Does (.append c r) s fun b a =>
       a.done = Code.SEGMENT_INVALID ∧ a.LastRaised Code.SEGMENT_INVALID Kind.chain c ∧ b.Keeps a (.done :: logParts) ∧
       b.KeepsRegs a logRegs) ∧
     (∀ r, s.Up → d.segValid c r = true → 256 ≤ (d.chain c).queue.length → Does (.append c r) s fun b a =>
       a.done = Code.QUEUE_FULL ∧ a.LastRaised Code.QUEUE_FULL Kind.chain c ∧ b.Keeps a (.done :: logParts) ∧
       b.KeepsRegs a logRegs) ∧
     (∀ i v, (i, v) ∈ [(Instr.run c, 1), (.pause c, 2)] → s.Live →
       ((d.chain c).aborting = false → Does i s fun b a =>
         a.reg (Reg.CH5_CONTROL c) = v ∧ b.Keeps a [.od] ∧ b.KeepsRegs a [Reg.CH5_CONTROL c]) ∧
       ((d.chain c).aborting = true → Does i s fun b a => b.Keeps a [])) ∧
     (s.Live → Does (.flush c) s fun b a => a.chain c = { b.chain c with queue := [] } ∧ others b a ∧ b.Keeps a [.chains]) ∧
     (s.Live → Does (.abort c) s fun b a =>
       a.chain c = { b.chain c with aborting := true } ∧ a.reg (Reg.CH5_CONTROL c) = 4 ∧ others b a ∧
       b.Keeps a [.od, .chains] ∧ b.KeepsRegs a [Reg.CH5_CONTROL c]) ∧
     (s.Live → (d.chain c).aborting = true → (d.chain c).lambda = 0 → Does (.abortComplete c) s fun b a =>
       a.chain c = { b.chain c with queue := [], cur := none, next := none, aborting := false } ∧
       a.nat (Reg.CH5_CONTROL c) = 2 ∧ others b a ∧ b.Keeps a [.od, .chains]) ∧
     (s.Live → ((d.chain c).aborting = false ∨ (d.chain c).lambda ≠ 0) → Does (.abortComplete c) s fun b a => b.Keeps a [])) ∧
  (∀ (c : Nat) (s : State) (g : Seg), s.Live → c < 16 → (s.found.chain c).cur = some g →
     let d := s.found
     let x := d.chain c
     let past := ended g.length g.time
     (past = true → x.next = none → x.queue = [] → (d.segEnd c g).length = (d.members c).length → Does (.segmentComplete c) s fun b a =>
       (a.chain c).cur = none ∧ (a.chain c).next = none ∧ a.nat (Reg.CH5_DONE_SEQ c) = segSeq g.image ∧
       (∀ m ∈ b.members c, b.axState m = AxState.moving → a.axState m = AxState.enabled) ∧ b.Keeps a [.od, .chains]) ∧
     (∀ r rest, past = true → x.next = none → x.queue = r :: rest → d.mayStart c = true → Does (.segmentComplete c) s fun _ a =>
       (∃ h, (a.chain c).cur = some h ∧ h.image = r) ∧ (a.chain c).queue = rest ∧
       a.nat (Reg.CH5_DONE_SEQ c) = segSeq g.image ∧ a.nat (Reg.CH5_ACTIVE_SEQ c) = segSeq r) ∧
     (∀ m, past = true → x.next = some m → Does (.segmentComplete c) s fun b a =>
       a.chain c = { b.chain c with cur := some { m with start := b.segEnd c g }, next := none, limited := false } ∧
       a.nat (Reg.CH5_DONE_SEQ c) = segSeq g.image ∧ b.Keeps a [.od, .chains] ∧ b.KeepsRegs a [Reg.CH5_DONE_SEQ c]) ∧
     (∀ r rest, past = false → x.next = none → x.queue = r :: rest → mayBlend g r = true → g.blendOn = some d.tickAbs →
       g.alone = false → d.mayStart c = true → Does (.segmentComplete c) s fun b a =>
         (a.chain c).next = some (b.newSeg c r (b.segEnd c g) g.endPose) ∧ (a.chain c).cur = some g ∧ (a.chain c).queue = rest ∧
         a.nat (Reg.CH5_ACTIVE_SEQ c) = segSeq r ∧ b.Keeps a [.od, .chains] ∧ b.KeepsRegs a [Reg.CH5_ACTIVE_SEQ c]) ∧
     (past = false → (x.queue = [] ∨ x.next ≠ none ∨ g.alone = true ∨ g.blendOn ≠ some d.tickAbs) →
       Does (.segmentComplete c) s fun b a => b.Keeps a []))

/-! ## Inputs, homing references and latches -/

/-- Raw transitions and qualified edges (R121, R122). The references of homing, R125, and the general latch (R119, R120, R123,
R125, R134). -/
def Obligations.InputsAndLatches : Prop :=
  (∀ (input n role : Nat) (level : Bool) (raw : Nat) (s : State), s.Live → n < 128 → role < 3 →
     let d := s.found
     let x := d.axIn n role
     let ref := x.last.getD raw
     let us := d.nat (Reg.AX12_DEBOUNCE_US n) * 1000
     let stood := ref + (if d.inputOf n role < 32 then us else (us + 31249) / 31250 * 31250) ≤ raw
     let at_ := d.stampOf input raw
     let counts := input < 32 ∧ (x.prev = none ∨ ∃ l, x.prev = some l ∧ l + 2 ≤ at_)
     let here := d.inputOf n role ≠ 0xFF ∧ d.inputDead (d.inputOf n role) = false ∧
       d.bit (Reg.AX12_INPUT_STATUS n) role ≠ level ∧ stood
     let active := level ≠ d.bit (Reg.AX12_POLARITY n) role
     (d.inputDead input = false → d.namedBy input = [(n, role)] → Does (.rawTransition input level raw) s fun b a =>
       (a.axIn n role).last = some at_ ∧ (a.axIn n role).first = some ((b.axIn n role).first.getD at_) ∧
       (counts → a.nat (Reg.AX12_EDGE_COUNT n) = min 255 (b.nat (Reg.AX12_EDGE_COUNT n) + 1)) ∧
       (¬counts → a.reg (Reg.AX12_EDGE_COUNT n) = b.reg (Reg.AX12_EDGE_COUNT n)) ∧ (∀ m, m ≠ n → a.axis m = b.axis m)) ∧
     ((d.inputDead input = true ∨ d.namedBy input = []) → Does (.rawTransition input level raw) s fun b a => b.Keeps a []) ∧
     (here → d.nat (Reg.AX11_HOME_STATE n) = HomeState.idle →
       (role = 2 ∨ ¬active ∨ d.axState n < 2 ∨ 5 < d.axState n) → Does (.qualifiedEdge n role level raw) s fun b a =>
         a.bit (Reg.AX12_INPUT_STATUS n) role = level ∧
         a.reg (Reg.AX11_FIRST_RAW_TIME n) = (odType (Reg.AX11_FIRST_RAW_TIME n)).wrap (time40 (b.ntAt (x.first.getD ref))) ∧
         a.reg (Reg.AX11_REF_TIME n) = (odType (Reg.AX11_REF_TIME n)).wrap (time40 (b.ntAt ref)) ∧
         a.reg (Reg.AX11_QUAL_TIME n) = (odType (Reg.AX11_QUAL_TIME n)).wrap (time40 (b.ntAt raw)) ∧
         (a.axIn n role).first = none ∧ (a.axIn n role).last = none ∧ (∀ m, m ≠ n → a.axis m = b.axis m) ∧
         b.Keeps a [.od, .axes] ∧
         b.KeepsRegs a [Reg.AX11_FIRST_RAW_TIME n, Reg.AX11_FIRST_RAW_POS n, Reg.AX11_REF_TIME n, Reg.AX11_REF_POS n,
           Reg.AX11_QUAL_TIME n, Reg.AX12_INPUT_STATUS n, Reg.R4001_DI]) ∧
     (here → d.nat (Reg.AX11_HOME_STATE n) = HomeState.idle → role ≤ 1 → active → d.axState n = AxState.moving →
       (d.axis n).reactNow = 0 → d.chainOf n = none → Does (.qualifiedEdge n role level raw) s fun _ a =>
         a.axState n = AxState.stopping ∧ (a.axis n).motion = .ramp ∧ (a.axis n).cause = Code.LIMIT_SWITCH) ∧
     ((d.bit (Reg.AX12_INPUT_STATUS n) role = level ∨ ¬stood) → Does (.qualifiedEdge n role level raw) s fun b a =>
       b.Keeps a [.od] ∧ b.KeepsRegs a [Reg.R4001_DI])) ∧
  (∀ (n : Nat) (s : State), n < 128 →
     let d := s.found
     (∀ raw p, s.Live → d.nat (Reg.AX11_HOME_STATE n) = HomeState.index → d.positionAt n raw = some (p, true) →
       Does (.indexPulse n raw) s fun b a =>
         (a.axis n).offset = (b.axis n).offset + (b.reg (Reg.AX11_HOME_POS n) - p) ∧
         a.nat (Reg.AX11_HOME_STATE n) = HomeState.done ∧ b.Keeps a [.od, .axes, .safe]) ∧
     (∀ raw, s.Live → d.nat (Reg.AX11_HOME_STATE n) = HomeState.index → d.positionAt n raw = none →
       Does (.indexPulse n raw) s fun b a =>
         a.axis n = { b.axis n with latches := (b.axis n).latches ++ [(.homing, raw)] } ∧ b.Keeps a [.axes]) ∧
     (∀ raw, s.Live → d.nat (Reg.AX11_HOME_STATE n) ≠ HomeState.index → Does (.indexPulse n raw) s fun b a => b.Keeps a []) ∧
     (s.Live → d.nat (Reg.AX11_HOME_STATE n) = HomeState.push → d.nat (Reg.AX11_HS_TICKS n) ≤ (d.axis n).hsRun →
       Does (.hardStopDetected n) s fun b a =>
         a.measured n = b.reg (Reg.AX11_HOME_POS n) ∧ a.nat (Reg.AX11_HOME_STATE n) = HomeState.backoff ∧
         (a.axis n).motion = .plan ∧ b.Keeps a [.od, .axes, .safe]) ∧
     (s.Live → (d.nat (Reg.AX11_HOME_STATE n) ≠ HomeState.push ∨ (d.axis n).hsRun < d.nat (Reg.AX11_HS_TICKS n)) →
       Does (.hardStopDetected n) s fun b a => b.Keeps a []) ∧
     (∀ role, s.Live → role < 3 → d.switchActive n role = true → (d.axIn n role).stuck = false →
       d.nat (Reg.AX12_MAX_ACTIVE_MS n) ≠ 0 →
       (d.axIn n role).since.getD 0 + d.nat (Reg.AX12_MAX_ACTIVE_MS n) * 1000000 < d.rawNow →
       d.nat (Reg.AX11_HOME_STATE n) = HomeState.idle → Does (.stuckActive n role) s fun b a =>
         a.LastRaised Code.STUCK_ACTIVE Kind.axis n ∧ (a.axIn n role).stuck = true ∧ a.bit (Reg.AX12_INPUT_STATUS n) 5 = true ∧
         b.Keeps a (.axes :: logParts) ∧ b.KeepsRegs a (Reg.AX12_INPUT_STATUS n :: logRegs)) ∧
     (∀ role, s.Live → role < 3 → ((d.axIn n role).stuck = true ∨ d.switchActive n role = false ∨
         d.nat (Reg.AX12_MAX_ACTIVE_MS n) = 0) → Does (.stuckActive n role) s fun b a => b.Keeps a []) ∧
     (∀ edge, s.Up → edge ≤ 2 → Does (.latchArm n edge) s fun b a =>
       a.done = Code.STATUS_OK ∧ a.nat (Reg.AX11_LATCH_ARM n) = edge ∧ b.Keeps a [.od, .done] ∧
       b.KeepsRegs a [Reg.AX11_LATCH_ARM n]) ∧
     (∀ edge, s.Up → 2 < edge → Does (.latchArm n edge) s fun b a => a.done = Code.OD_RANGE ∧ b.Keeps a [.done]) ∧
     (∀ raw p v, s.Live → (d.axis n).latches = [(.general, raw)] → d.positionAt n raw = some (p, v) →
       Does (.latchResult n) s fun b a =>
         a.reg (Reg.AX11_LATCH_POS n) = (odType (Reg.AX11_LATCH_POS n)).wrap p ∧
         a.reg (Reg.AX11_LATCH_VALID n) = (if v then 1 else 0) ∧ a.axis n = { b.axis n with latches := [] } ∧
         b.Keeps a [.od, .axes] ∧ b.KeepsRegs a [Reg.AX11_LATCH_POS n, Reg.AX11_LATCH_VALID n]) ∧
     (∀ raw, s.Live → (d.axis n).latches = [(.general, raw)] → d.positionAt n raw = none → Does (.latchResult n) s fun b a =>
       a.axis n = b.axis n ∧ (∀ m, m ≠ n → a.axis m = b.axis m) ∧ b.Keeps a [.axes]))

/-! ## The tick -/

/-- The SI and the command latch (R17, R18, R20, R21, R94, R131). -/
def Obligations.TickAndLatch : Prop :=
  ∀ (s : State),
    (∀ si, s.Live → s.ClockOk → Does (.sampleInstant si) s fun b a =>
      a.clk.tick = (b.clk.tick + 1) % 8 ∧ a.clk.si = b.clk.si + 31250 * 2 ^ 40 ∧
      a.clk.cycle64 = if b.clk.tick = 7 then (b.clk.cycle64 + 1) % 2 ^ 64 else b.clk.cycle64) ∧
    (∀ reach, s.Live → Does (.commandLatch reach) s fun _ a => a.waits = []) ∧
    ((∀ n < 128, s.found.axState n = AxState.disabled ∧ s.found.nat (Reg.AX1_CONTROL n) = 0) → s.Live →
      (s.found.waits = [] → Does (.commandLatch 0) s fun b a => b.Keeps a [.ph, .axes, .waits, .lateP]) ∧
      (∀ c code, c < 16 → s.found.waits = [.ctl c code] → code = 1 ∨ code = 2 ∨ code = 4 → (s.found.chain c).aborting = false →
        Does (.commandLatch 0) s fun b a =>
          a.nat (Reg.CH5_CONTROL c) = code ∧ b.KeepsRegs a [Reg.CH5_CONTROL c]) ∧
      ∀ n code, n < 128 → s.found.waits = [.cmd n code] → (s.found.axis n).held = none → Does (.commandLatch 0) s fun b a =>
        (a.axis n).held = some
          { code, target := b.reg (Reg.AX4_TARGET n), vel := b.reg (Reg.AX4_VEL n), acc := b.reg (Reg.AX4_ACC n),
            jerk := b.reg (Reg.AX4_JERK n), seq := b.nat (Reg.AX4_SEQ n) } ∧
        b.Keeps a [.ph, .axes, .waits, .lateP])

/-- Runs and overruns of the profile and control engines (R31, R44, R52). Supervision of the loops, and the lanes (R68 to R70,
R73, R80 to R82). -/
def Obligations.ControlRuns : Prop :=
  (∀ (s : State), s.Live →
     let d := s.found
     let now := d.tickAbs
     let one := fun (n r : Nat) => n < 128 ∧ d.axState n = AxState.moving ∧ (d.axis n).reactNow = 0 ∧ d.chainOf n = none ∧
       d.injectedAxis n = false ∧ (r = Reaction.qstop ∨ r = Reaction.ss1)
     let counted := fun (b a : Dev) (code counter : Nat) => a.bit Reg.R1101_OVERRUN_FLAGS (code - 0x1001) = true ∧
       a.nat counter = min (b.nat counter + 1) 0xFFFFFFFF ∧
       a.reg Reg.R1101_LAST_CYCLE = (odType Reg.R1101_LAST_CYCLE).wrap b.cycle ∧
       a.reg Reg.R1101_LAST_TICK = (odType Reg.R1101_LAST_TICK).wrap b.clk.tick
     let struck := fun (b a : Dev) (n code r : Nat) => a.axState n = AxState.stopping ∧ (a.axis n).cause = code ∧
       (a.axis n).motion = .ramp ∧ (a.axis n).reactNow = r ∧ a.reg (Reg.AX5_SETPOINT n) = b.reg (Reg.AX5_SETPOINT n) ∧
       a.LastRaised code Kind.axis n
     -- the run switches the feedback images, and runs once a tick, before its window ends
     (d.mayRun = true → Does .controlEngineRun s fun b a =>
       a.eng.ranAt = some now ∧ ∀ n < 128, (a.axis n).fb = (b.axis n).fbIn.asOf now) ∧
     (d.mayRun = false → Does .controlEngineRun s fun b a => b.Keeps a []) ∧
     -- an axis whose VEL level alone runs, without feed-forward, interpolation, injection or a switch of its bank
     (∀ n < 128, d.mayRun = true → d.evaluates n = true → (∀ m < 128, m ≠ n → d.evaluates m = false) → d.laneDown n = false →
       d.levelRuns n 1 d.clk.tick = true → d.levelRuns n 2 d.clk.tick = false → d.levelRuns n 3 d.clk.tick = false →
       d.direct n = false → d.nat Reg.R2800_LANES_WORKING ≠ 0 →
       d.axisLoad n d.clk.tick (d.image n) ≤ 5000 * d.nat Reg.R2800_LANES_WORKING → d.genOn n 1 = none →
       d.nat (act (Reg.AX7_FF_VEL n)) ≠ 2 → d.setting n (Reg.AX7_INTERP n) = 0 → d.setting n (Reg.AX10_VEL_SRC n) ≠ 1 →
       (d.axis n).velL.bump = false → (∀ m < 128, ((d.axis m).fbIn.asOf now).vdc.age ≠ 0) →
       Does .controlEngineRun s fun b a =>
         let y := (fullScale (b.axis n).fbIn.vel.val (b.reg (act (Reg.AX7_FSX_VEL n)))).1
         let e := satBits 32 (satBits 32 (b.axis n).velL.spNew - y)
         let q := channel (Bank.parse (b.image n 1)) (b.axis n).velL.secs none e [0, 0] none
         (a.axis n).velL.out = q.u ∧ (a.axis n).velL.secs = q.secs ∧ (a.axis n).stale = 0 ∧ a.lateC = []) ∧
     -- the profile engine's overrun
     (d.lateP = [] → Does .profileOverrun s fun b a => b.Keeps a [.ph]) ∧
     (d.lateP ≠ [] → Does .profileOverrun s fun b a =>
       a.lateP = [] ∧ counted b a Code.PROFILE_OVERRUN Reg.R1101_PROFILE_COUNT) ∧
     (∀ n, d.lateP = [n] → one n (d.nat (Reg.AX14_PROFILE_OVERRUN n)) → Does .profileOverrun s fun b a =>
       struck b a n Code.PROFILE_OVERRUN (b.nat (Reg.AX14_PROFILE_OVERRUN n))) ∧
     -- the control engine's, after a run and without one
     (d.eng.ranAt = some now → d.lateC = [] → Does .controlOverrun s fun b a => b.Keeps a [.ph]) ∧
     (d.eng.ranAt = some now → d.lateC ≠ [] → Does .controlOverrun s fun b a =>
       a.lateC = [] ∧ counted b a Code.CONTROL_OVERRUN Reg.R1101_CONTROL_COUNT) ∧
     (∀ n, d.eng.ranAt = some now → d.lateC = [n] → one n (d.nat (Reg.AX14_CONTROL_OVERRUN n)) →
       Does .controlOverrun s fun b a => struck b a n Code.CONTROL_OVERRUN (b.nat (Reg.AX14_CONTROL_OVERRUN n))) ∧
     (∀ n, d.eng.ranAt ≠ some now → one n (d.nat (Reg.AX14_CONTROL_OVERRUN n)) → d.evaluates n = true →
       d.axisLoad n d.clk.tick (d.image n) ≠ 0 → (∀ m < 128, m ≠ n → d.evaluates m = false) → Does .controlOverrun s fun b a =>
         struck b a n Code.CONTROL_OVERRUN (b.nat (Reg.AX14_CONTROL_OVERRUN n)) ∧
         (a.axis n).stale = min 15 ((b.axis n).stale + 1) ∧ counted b a Code.CONTROL_OVERRUN Reg.R1101_CONTROL_COUNT)) ∧
  (∀ (n level lane : Nat) (s : State), s.Live → n < 128 → level < 4 → lane < 5 →
     let d := s.found
     let x := (d.axis n).lev level
     let lost := fun (ch : Nat) => d.usesChannel n ch = true ∧ d.ageLimit n < (d.axis n).fb.ages.getD ch 0 ∧
       (d.axis n).lost.testBit ch = false
     let quiet := d.axState n = AxState.moving ∧ (d.axis n).reactNow = 0 ∧ d.chainOf n = none ∧ d.injectedAxis n = false
     let frozen := fun (l : Nat) => d.frozenLevel n l = true ∧ ((d.axis n).lev l).frozenTold = false
     let struck := fun (a : Dev) (code r : Nat) => (r = Reaction.ss1 ∨ r = Reaction.sto) →
       a.axState n = (if r = Reaction.sto then AxState.fault else AxState.stopping) ∧ a.reg (Reg.AX1_REACTION n) = r ∧
       (a.axis n).cause = code ∧ a.nat (Reg.AX8_LAST_CODE n) = code ∧ a.LastRaised code Kind.axis n
     (∀ ch < 5, lost ch → (∀ i, i ≠ ch → ¬lost i) → quiet → Does (.feedbackLost n) s fun b a =>
       (a.axis n).lost.testBit ch = true ∧ a.nat (Reg.AX10_LOST_CHANNEL n) = ch ∧
       struck a Code.FEEDBACK_LOST (b.nat (Reg.AX14_FEEDBACK_LOST n))) ∧
     ((d.supervised n = false ∨ ∀ ch, ¬lost ch) → Does (.feedbackLost n) s fun b a => b.Keeps a []) ∧
     (∀ l < 4, frozen l → Does (.feedbackFrozen n) s fun _ a =>
       ((a.axis n).lev l).frozenTold = true ∧ a.nat (Reg.AX8_LAST_CODE n) = Code.FEEDBACK_FROZEN) ∧
     (∀ l < 4, frozen l → (∀ k, k ≠ l → ¬frozen k) → quiet → Does (.feedbackFrozen n) s fun b a =>
       struck a Code.FEEDBACK_FROZEN (b.nat (Reg.AX14_FEEDBACK_FROZEN n))) ∧
     ((∀ l < 4, ¬frozen l) → Does (.feedbackFrozen n) s fun b a => b.Keeps a []) ∧
     (x.warned = false → x.run ≠ 0 → d.setting n (Reg.AX7_SAT_WARN_TICKS n) ≤ x.run → Does (.satWarn n level) s fun b a =>
       (a.axis n).lev level = { x with warned := true } ∧ a.nat (Reg.AX8_LAST_CODE n) = Code.SAT_WARN ∧
       a.LastRaised Code.SAT_WARN Kind.axis n ∧ b.Keeps a (.axes :: logParts) ∧
       b.KeepsRegs a (Reg.AX8_LAST_CODE n :: logRegs)) ∧
     ((x.warned = true ∨ x.run = 0 ∨ (x.run : Int) < d.setting n (Reg.AX7_SAT_WARN_TICKS n)) →
       Does (.satWarn n level) s fun b a => b.Keeps a []) ∧
     (x.failed = false → 0 < d.setting n (Reg.AX7_SAT_FAULT_TICKS n) → d.setting n (Reg.AX7_SAT_FAULT_TICKS n) ≤ x.run →
       Does (.satFault n level) s fun b a => ((a.axis n).lev level).failed = true ∧
         (quiet → struck a Code.SAT_FAULT (b.nat (Reg.AX14_SAT_FAULT n)))) ∧
     ((x.failed = true ∨ d.setting n (Reg.AX7_SAT_FAULT_TICKS n) ≤ 0 ∨ (x.run : Int) < d.setting n (Reg.AX7_SAT_FAULT_TICKS n)) →
       Does (.satFault n level) s fun b a => b.Keeps a []) ∧
     (d.bit Reg.R2800_LANE_MAP lane = true → (∃ l < 5, l ≠ lane ∧ d.bit Reg.R2800_LANE_MAP l = true) →
       Does (.laneFault lane) s fun b a =>
         (∀ l < 5, a.bit Reg.R2800_LANE_MAP l = (b.bit Reg.R2800_LANE_MAP l && l != lane)) ∧
         a.LastRaised Code.LANE_FAULT Kind.unit (26 + lane) ∧ a.nat Reg.R2800_LANE_FAULTS = min (b.nat Reg.R2800_LANE_FAULTS + 1) 0xFFFFFFFF) ∧
     (d.bit Reg.R2800_LANE_MAP lane = false → lane ≠ 4 → Does (.laneFault lane) s fun b a => b.Keeps a []) ∧
     (∀ c, d.eng.failed = some (lane, c) → c + 2 ≤ d.clk.cycle64 → d.clk.tick = 0 → d.nat Reg.R2800_SPARE_STATE < 3 →
       lane ≠ 4 → Does (.laneSpared lane) s fun _ a =>
         a.bit Reg.R2800_LANE_MAP lane = false ∧ a.bit Reg.R2800_LANE_MAP 4 = true ∧ a.nat Reg.R2800_SPARE_STATE = 3 ∧
         a.eng.failed = none ∧ a.eng.retire = none ∧ ∀ m < 128, a.nat (Reg.AX8_LANE m) ≠ lane) ∧
     (d.clk.tick ≠ 0 → Does (.laneSpared lane) s fun b a => b.Keeps a []))

/-! ## Geometry and separation -/

/-- Kinematics, distance testing, separation evaluation, and their overruns (R31, R33, R142, R150, R162, R176). Channel B, T4,
tracks, resumption and stop measurement (R25, R168, R170, R177, R184, R187, R188). -/
def Obligations.GeometryAndSeparation : Prop :=
  (∀ (s : State), s.Live → s.found.standsBy = false →
     let d := s.found
     let tick := d.clk.tick
     let counted := fun (b a : Dev) (code counter : Nat) => a.bit Reg.R1101_OVERRUN_FLAGS (code - 0x1001) = true ∧
       a.nat counter = min (b.nat counter + 1) 0xFFFFFFFF ∧ a.reg Reg.R1101_LAST_CYCLE = b.cycle ∧
       a.reg Reg.R1101_LAST_TICK = b.clk.tick
     let overran := fun (b a : Dev) (code counter : Nat) => counted b a code counter ∧ a.LastRaised code Kind.device 0
     let stops := fun (b a : Dev) (cs : List Nat) (code : Nat) => a.geom.stopsT4 = b.geom.stopsT4 ++ cs.map (·, code) ∧
       a.geom.zeroOvr = b.geom.zeroOvr ++ cs
     -- kinematics
     (tick = 0 → Does .kinematicsRun s fun _ a => a.geom.kinDone = true) ∧
     (tick = 0 → d.ssmChains = [] → Does .kinematicsRun s fun b a => a.geom.kinDone = true ∧
       (∀ c < 16, b.chainEn c = true →
         (a.chain c).frames = b.framesAt c ((b.members c).map b.measured) (b.payload c) ∧
         (a.chain c).framesC = b.framesAt c ((b.members c).map b.setpoint) (b.payload c) ∧
         (a.chain c).memberV = (b.members c).map b.measuredVel ∧
         a.reg (Reg.CH1_FRAME_AGE c) = (odType (Reg.CH1_FRAME_AGE c)).wrap (b.frameAge c)) ∧
       (∀ c < 16, b.chainEn c = false → (a.chain c).frames = [] ∧ (a.chain c).caps = []) ∧
       b.Keeps a [.ph, .od, .geom, .chains, .zones, .fresh]) ∧
     (tick ≠ 0 → Does .kinematicsRun s fun b a => b.Keeps a []) ∧
     (tick = 1 → d.geom.kinDone = false → d.geom.kinOver = false → Does .kinematicsOverrun s fun b a =>
       overran b a Code.KINEMATICS_OVERRUN Reg.R1101_KINEMATICS_COUNT ∧ stops b a b.enabledChains Code.KINEMATICS_OVERRUN ∧
       a.geom.kinOver = true ∧ b.Keeps a (.geom :: .chains :: logParts)) ∧
     (tick ≠ 1 ∨ d.geom.kinDone = true → Does .kinematicsOverrun s fun b a => b.Keeps a []) ∧
     -- distance testing
     (∀ reach, d.framesReady = true → tick = 1 ∨ tick = 2 → Does (.distanceTesting reach) s fun b a =>
       a.geom.pairs.length = b.cyclePairs.length ∧ a.geom.cycle = some b.clk.cycle64 ∧
       (∀ i p, i < reach → b.cyclePairs[i]? = some p →
         a.geom.pairs[i]? = some (b.testPair p (Config.distanceSlackA (b.fresh + i)))) ∧
       (∀ i p, reach ≤ i → b.cyclePairs[i]? = some p → a.geom.pairs[i]? = some p.untested) ∧ b.Keeps a [.od, .geom, .fresh] ∧
       b.KeepsRegs a [Reg.R3101_TESTS_LAST, Reg.R3101_SCREENED_LAST]) ∧
     (∀ reach, d.framesReady = false ∨ tick = 0 ∨ 2 < tick → Does (.distanceTesting reach) s fun b a => b.Keeps a []) ∧
     (tick = 3 → d.geom.distOver = false → d.untestedChains ≠ [] → Does .distanceOverrun s fun b a =>
       overran b a Code.DISTANCE_OVERRUN Reg.R1101_DISTANCE_COUNT ∧ a.geom.distOver = true ∧
       (∀ c < 16, (c ∈ a.geom.zeroOvr ↔ c ∈ b.geom.zeroOvr ∨ c ∈ b.untestedChains) ∧
         (c ∈ b.untestedChains → (c, Code.DISTANCE_OVERRUN) ∈ a.geom.stopsT4)) ∧ b.Keeps a (.geom :: logParts)) ∧
     (tick ≠ 3 ∨ d.untestedChains = [] → Does .distanceOverrun s fun b a => b.Keeps a []) ∧
     -- separation evaluation
     (tick = 3 → d.sep.evalA ≠ some d.clk.cycle64 → Does .separationEvaluation s fun b a =>
       a.sep.evalA = some b.clk.cycle64 ∧ a.geom.results = b.cycleResults ∧
       a.reg Reg.R3110_RESULT_CYCLE = (odType Reg.R3110_RESULT_CYCLE).wrap b.cycle ∧
       ∀ c < 16, b.chainEn c = true →
         (b.framesReady = false ∨ c ∈ b.untestedChains → (a.chain c).ovrNext = 0) ∧
         (b.framesReady = true → c ∉ b.untestedChains → b.ssm c = false → (a.chain c).ovrNext = 0x7FFFFFFF) ∧
         (b.framesReady = true → c ∉ b.untestedChains → b.ssm c = true →
           (a.chain c).ovrNext ∈ 0 :: 0x7FFFFFFF :: b.candidates c)) ∧
     (tick ≠ 3 ∨ d.sep.evalA = some d.clk.cycle64 → Does .separationEvaluation s fun b a => b.Keeps a []) ∧
     (tick = 3 → d.sep.evalA ≠ some d.clk.cycle64 → Does .separationOverrun s fun b a =>
       counted b a Code.SEPARATION_OVERRUN Reg.R1101_SEPARATION_COUNT ∧ stops b a b.enabledChains Code.SEPARATION_OVERRUN ∧
       (b.framesReady = false → a.LastRaised Code.SEPARATION_OVERRUN Kind.device 0) ∧ a.geom.results = b.cycleResults ∧
       a.sep.evalA = some b.clk.cycle64 ∧ b.Keeps a (.ph :: .geom :: .sep :: logParts)) ∧
     (tick ≠ 3 ∨ d.sep.evalA = some d.clk.cycle64 → Does .separationOverrun s fun b a => b.Keeps a [])) ∧
  (∀ (s : State), s.Live →
     let d := s.found
     let tick := d.clk.tick
     let works := d.standsBy = false
     (works → tick = 3 → d.sep.evalB ≠ some d.clk.cycle64 → Does .channelBCrossCheck s fun b a =>
       a.sep.evalB = some b.clk.cycle64 ∧ a.nat Reg.R3202_PAIRS_CHECKED = b.checkedPairs.length) ∧
     (works → tick ≠ 3 ∨ d.sep.evalB = some d.clk.cycle64 → Does .channelBCrossCheck s fun b a => b.Keeps a []) ∧
     (works → tick = 3 → d.ssmChains ≠ [] → d.sep.evalB ≠ some d.clk.cycle64 → Does .ssmBLate s fun b a =>
       a.sep.evalB = some b.clk.cycle64 ∧ a.nat Reg.R3202_LATE_COUNT = min (b.nat Reg.R3202_LATE_COUNT + 1) 0xFFFFFFFF ∧
       ∀ c ∈ b.ssmChains, ∀ n ∈ b.members c, ∃ l ∈ (a.axSafe n).latches, l.code = Code.SSM_B_LATE ∧ l.react = Reaction.ss1) ∧
     (works → tick ≠ 3 ∨ d.ssmChains = [] ∨ d.sep.evalB = some d.clk.cycle64 → Does .ssmBLate s fun b a => b.Keeps a []) ∧
     (works → tick = 4 → d.geom.stopsT4 = [] → d.geom.atT4 = [] → Does .speedOverrideSwitch s fun b a =>
       (∀ c < 16, (a.chain c).ovr = (if c ∈ b.zeroChains then 0 else (b.chain c).ovrNext) ∧
         (a.chain c).hold = (b.chain c).holdNext ∧ (c ∈ b.zeroChains → a.reg (Reg.CH6_SEP_OVR c) = 0)) ∧
       a.geom.zeroOvr = [] ∧ b.Keeps a [.od, .geom, .chains]) ∧
     (∀ c < 16, ∀ code, works → tick = 4 → d.geom.stopsT4 = [(c, code)] → d.geom.atT4 = [] →
       Does .speedOverrideSwitch s fun b a =>
         a.nat (Reg.CH9_STOP_STATE c) = (if b.stopReaction c = Reaction.ss1 then 2 else 1) ∧ (a.chain c).queue = [] ∧
         (a.chain c).cur = none ∧ (a.chain c).lambda = 0 ∧ a.geom.stopsT4 = []) ∧
     (works → tick ≠ 4 → Does .speedOverrideSwitch s fun b a => b.Keeps a []) ∧
     (tick = 1 → Does .trackCopy s fun b a => ∀ x < 8,
       (b.srcOn x = false → a.reg (Reg.R3220_STATE x) = 0) ∧
       ((b.src x).payload.isSome = true → b.srcTimedOut x = false → b.srcOn x = true →
         a.reg (Reg.R3220_STATE x) = 1 ∧ (a.src x).fresh = false ∧ (a.src x).since = none)) ∧
     (tick ≠ 1 → Does .trackCopy s fun b a => b.Keeps a []) ∧
     (∀ x < 8, tick = 1 → d.srcOn x = true → d.srcTimedOut x = true → (d.src x).since = none → Does (.trackTimeout x) s fun b a =>
       a.reg (Reg.R3220_STATE x) = 2 ∧ (a.src x).since = some b.clk.raw ∧ a.LastRaised Code.TRACK_TIMEOUT Kind.sensor x ∧
       a.nat (Reg.R3220_TIMEOUTS x) = min (b.nat (Reg.R3220_TIMEOUTS x) + 1) 0xFFFFFFFF) ∧
     (∀ x < 8, tick ≠ 1 ∨ d.srcOn x = false ∨ d.srcTimedOut x = false ∨ (d.src x).since ≠ none →
       Does (.trackTimeout x) s fun b a => b.Keeps a []) ∧
     (∀ u < 17, d.bit Reg.R3101_UNIT_MAP u = true → Does (.distanceUnitFault u) s fun b a =>
       ∀ v < 17, a.bit Reg.R3101_UNIT_MAP v = (b.bit Reg.R3101_UNIT_MAP v && v != u)) ∧
     (∀ u, d.bit Reg.R3101_UNIT_MAP u = false → Does (.distanceUnitFault u) s fun b a => b.Keeps a []) ∧
     (∀ c < 16, tick = 4 → d.ssm c = true → d.reg (act (Reg.R3210_AUTO_RESUME c)) ≠ 0 → d.nat (Reg.CH9_STOP_STATE c) = 1 →
       d.nat (act (Reg.R3210_STOP_KIND c)) = 0 → d.nat (act (Reg.R3210_RESUME_CYCLES c)) ≤ d.nat (Reg.CH9_OK_CYCLES c) →
       (∃ n ∈ d.members c, d.axState n = AxState.fault) → (∀ n ∈ d.members c, d.axState n ≠ AxState.stopping) →
       Does (.autoResume c) s fun b a =>
         ((∀ n ∈ b.members c, a.axState n ≠ AxState.fault) →
           a.reg (Reg.CH9_STOP_STATE c) = 0 ∧ a.reg (Reg.CH5_CONTROL c) = 1) ∧
         ∀ n, b.members c = [n] → b.faultPresent n = false →
           a.axState n = (if (b.axis n).loopsOff = true then AxState.ready else AxState.enabled) ∧
           a.reg (Reg.CH9_STOP_STATE c) = 0 ∧ a.reg (Reg.CH5_CONTROL c) = 1) ∧
     (∀ c < 16, tick ≠ 4 ∨ d.ssm c = false → Does (.autoResume c) s fun b a => b.Keeps a []) ∧
     (∀ c < 16, ∀ m, (d.chain c).meas = some m → m.bad = true → Does (.stopMeasured c) s fun b a =>
       (a.chain c).meas = none ∧ a.LastRaised Code.STOP_DISCARDED Kind.chain c ∧
       a.nat (Reg.CH7_DISCARDS c) = min (b.nat (Reg.CH7_DISCARDS c) + 1) 0xFFFFFFFF ∧
       b.Keeps a (.chains :: .dom :: .gen :: logParts) ∧ b.KeepsRegs a (Reg.CH7_DISCARDS c :: logRegs)) ∧
     (∀ c < 16, ∀ m e, (d.chain c).meas = some m → m.bad = false → m.ended = some e →
       let v0 := fxRat (min m.before (m.after.getD m.before))
       let tm : Rat := ((e - m.raw : Nat) : Rat) / 1000000000
       let dm := fxRat ((m.dist.map (·.2)).foldl max 0)
       let k := ((List.range 16).find? fun i => decide (v0 ≤ (d.envPoint c m.cls i).1)).getD 15
       let vk := (d.envPoint c m.cls k).1
       let sc := if vk < v0 then vk / v0 else 1
       let g : Rat := 1 + (d.nat (act (Reg.CH7_LEARN_MARGIN_PCT c)) : Rat) / 100
       let longer := (d.envPoint c m.cls k).2.1 < tm * sc * g ∨ (d.envPoint c m.cls k).2.2 < dm * sc * sc * g
       Does (.stopMeasured c) s fun b a =>
         (a.chain c).meas = none ∧
         a.bytes (Reg.CH7_LAST_STOP c) = leBytes 4 b.cycle ++ [byte m.cls, byte (if longer then 1 else 0), byte k, 0] ++
           leBytes 4 (f32Of v0) ++ leBytes 4 (f32Of tm) ++ leBytes 4 (f32Of dm) ∧
         (longer → a.LastRaised Code.ENVELOPE_RAISED Kind.chain c ∧
           a.nat (Reg.CH7_RAISES c) = min (b.nat (Reg.CH7_RAISES c) + 1) 0xFFFFFFFF) ∧
         (¬longer → b.Keeps a [.chains, .dom, .gen])) ∧
     (∀ c < 16, ((d.chain c).meas = none ∨ ∃ m, (d.chain c).meas = some m ∧ m.bad = false ∧ m.ended = none) →
       Does (.stopMeasured c) s fun b a => b.Keeps a []))

/-! ## Commits -/

/-- The request of a commit, an arm or a start (R35, R36). -/
def Obligations.CommitRequests : Prop :=
  ∀ (r : Requester) (index sub cycle : Nat) (t : Table) (s : State),
    let d := s.found
    let k := (cycle + 2 ^ 32 - d.cycle) % 2 ^ 32
    let ahead := 1 ≤ k ∧ k < 2 ^ 31 ∧ ¬(k = 1 ∧ d.pastCutoff = true)
    let shows := fun (a : Dev) (code : Nat) => ∀ st, t.status = some st → a.nat st = code
    let pends := fun (b a : Dev) (c : Nat) (late : Bool) =>
      (∃ p, mget none a.pend t.key = some p ∧ p.cycle = c ∧ p.late = late ∧ p.held = false ∧ p.ready = false ∧ p.group = 0) ∧
      (∀ j, j ≠ t.key → mget none a.pend j = mget none b.pend j) ∧ shows a Code.COMMIT_PENDING
    cycle < 2 ^ 32 → tableOf index sub = some t → d.Serves r index → d.WriteOk r index sub (leBytes 4 cycle) →
    mget none d.pend t.key = none →
      (d.requestRefusal t = Code.STATUS_OK → ahead → Does (.commitRequest r index sub cycle) s fun b a =>
        a.done = Code.STATUS_OK ∧ pends b a (b.clk.cycle64 + k) false) ∧
      (d.requestRefusal t = Code.STATUS_OK → ¬ahead → d.nat t.policy = 1 → Does (.commitRequest r index sub cycle) s fun b a =>
        a.done = Code.STATUS_OK ∧ pends b a (b.clk.cycle64 + if b.pastCutoff = true then 2 else 1) true) ∧
      (d.requestRefusal t = Code.STATUS_OK → ¬ahead → d.nat t.policy ≠ 1 → Does (.commitRequest r index sub cycle) s fun b a =>
        a.done = Code.STATUS_OK ∧ a.pend = b.pend ∧ shows a Code.LATE ∧ a.LastRaised Code.LATE Kind.table 0) ∧
      (∀ code, d.requestRefusal t = code → code ≠ Code.STATUS_OK → Does (.commitRequest r index sub cycle) s fun b a =>
        a.done = code ∧ a.pend = b.pend ∧ shows a code ∧ a.LastRaised code Kind.table 0)

/-- COMMIT_CUTOFF, BANK_SWITCH and HELD_COMMIT_JUDGED (R35, R38, R39, R76). -/
def Obligations.CommitsSwitch : Prop :=
  ∀ (s : State), s.Live →
    let d := s.found
    let shows := fun (a : Dev) (t : Table) (code : Nat) => ∀ st, t.status = some st → a.nat st = code
    (d.clk.tick = 7 → d.ph.cutoff = false → d.dueNext = [] → Does .commitCutoff s fun b a =>
      a.ph.cutoff = true ∧ b.Keeps a [.ph]) ∧
    ((d.clk.tick ≠ 7 ∨ d.ph.cutoff = true) → Does .commitCutoff s fun b a => b.Keeps a []) ∧
    (∀ t p, d.clk.tick = 7 → d.ph.cutoff = false → keyTable t.key = some t → d.dueNext = [(t.key, p)] →
      mget none d.pend t.key = some p → p.group = 0 →
        (∀ w, (d.at 28000).tableCheck t p = (Code.STATUS_OK, w) → Does .commitCutoff s fun b a =>
          mget none a.pend t.key = some { p with ready := true } ∧
          (∀ j, j ≠ t.key → mget none a.pend j = mget none b.pend j) ∧ b.Keeps a [.ph, .pend]) ∧
        ∀ code, (d.at 28000).tableCheck t p = (code, none) → code ≠ Code.STATUS_OK → code < 2 ^ 16 →
          mget none d.pend (behind t.key) = none → Does .commitCutoff s fun _ a =>
            mget none a.pend t.key = none ∧ shows a t code ∧ a.LastRaised code Kind.table 0) ∧
    (∀ index sub t p, tableOf index sub = some t → d.dueAt t.key = some p →
      (d.inSync = true → (∀ g, t ≠ .start g) → (∀ g, t ≠ .arm g) → p.tracker = none → mget none d.pend (behind t.key) = none →
        Does (.bankSwitch index sub) s fun b a =>
          mget none a.pend t.key = none ∧ shows a t (if p.late then Code.LATE_EXECUTED else Code.STATUS_OK) ∧
          (∀ k, t.done = some k → a.reg k = b.cycle) ∧
          (t = .release → a.bytes Reg.R3804_ACTIVE = b.bytes Reg.R3804_INACTIVE ∧
            a.bytes Reg.R3804_INACTIVE = b.bytes Reg.R3804_ACTIVE) ∧
          ∀ n < 128, t = .axis n → ∀ l < 4,
            let on := Reg.AX9_ACTIVE_CUR n + l
            let off := Reg.AX9_INACTIVE_CUR n + l
            if p.mask.testBit l then a.bytes on = b.bytes off ∧ a.bytes off = b.bytes on
            else a.bytes on = b.bytes on ∧ a.bytes off = b.bytes off) ∧
      (d.inSync = false → Does (.bankSwitch index sub) s fun b a =>
        mget none a.pend t.key = some { p with held := true, ready := false } ∧ b.Keeps a [.pend])) ∧
    (∀ index sub t, tableOf index sub = some t → d.dueAt t.key = none → Does (.bankSwitch index sub) s fun b a => b.Keeps a []) ∧
    (∀ t p, d.clk.tick = 0 → d.inSync = true → d.pend = [(t.key, some p)] → p.held = true →
      (p.policy = 1 → Does .heldCommitJudged s fun b a =>
        mget none a.pend t.key = some { p with held := false, late := true, cycle := b.clk.cycle64 + 1 } ∧ b.Keeps a [.pend]) ∧
      (p.policy ≠ 1 → keyTable t.key = some t → Does .heldCommitJudged s fun _ a =>
        mget none a.pend t.key = none ∧ shows a t Code.LATE ∧ a.LastRaised Code.LATE Kind.table 0)) ∧
    ((d.clk.tick ≠ 0 ∨ d.inSync = false) → Does .heldCommitJudged s fun b a => b.Keeps a [])

/-- What a switch of a safety-related bank does to its values (R149, R189, R394). CPI_FIRE and COPY_ACTIVE (R40, R42, R88,
R213). -/
def Obligations.BanksAndCopies : Prop :=
  (∀ (d : Dev) (bank : Nat) (e : Entry) (k : Nat), bank ∈ [1, 2, 3] → (e, k) ∈ bankEntries bank →
     (odType k).wrap (d.reg k) = d.reg k →
       (d.activate bank).reg (act k) = d.reg k ∧ (d.activate bank).reg k = d.reg k ∧
       (∀ other f j, other ∈ [1, 2, 3] → other ≠ bank → (f, j) ∈ bankEntries other →
         (d.activate bank).reg (act j) = d.reg (act j) ∧ (d.activate bank).reg j = d.reg j) ∧
       d.Keeps (d.activate bank) [.od, .dom, .gen]) ∧
  (∀ (s : State),
     let d := s.found
     (∀ e < 16, s.Live → d.cpiDue (d.cpiOf e) = true → d.reg Reg.R1140_NT_VALID ≠ 0 → d.acting = true →
       (32 + e ∉ d.plic → Does (.cpiFire e) s fun b a =>
         a.plic = b.plic ++ [32 + e] ∧ a.cpiDue (a.cpiOf e) = false ∧ b.Keeps a [.ph, .plic, .cpi]) ∧
       (32 + e ∈ d.plic → (d.cpiOf e).told = false → Does (.cpiFire e) s fun b a =>
         a.plic = b.plic ∧ (a.cpiOf e).told = true ∧ a.LastRaised Code.CPI_MISSED Kind.other 0 ∧
         a.nat (Reg.R1110_MISSED e) = min (b.nat (Reg.R1110_MISSED e) + 1) 0xFFFFFFFF) ∧
       (32 + e ∈ d.plic → (d.cpiOf e).told = true → Does (.cpiFire e) s fun b a =>
         a.log = b.log ∧ a.nat (Reg.R1110_MISSED e) = min (b.nat (Reg.R1110_MISSED e) + 1) 0xFFFFFFFF)) ∧
     (∀ e, s.Live → (d.cpiDue (d.cpiOf e) = false ∨ d.acting = false) → Does (.cpiFire e) s fun b a => b.Keeps a []) ∧
     (∀ x, d.cpiDue x = true ↔ (x.mode = 2 ∨ (x.mode = 1 ∧ x.offset / 31250 = d.clk.tick)) ∧ x.fired ≠ some d.tickAbs ∧
       d.ph.off ≤ x.offset % 31250) ∧
     (∀ n mask, s.Up → n < 128 → (∀ l < 4, mask.testBit l = true → d.trackOwns n l = false) →
       d.locked (Reg.AX9_COMMIT_CYCLE n) = false → Does (.copyActive n mask) s fun b a =>
         a.done = Code.STATUS_OK ∧
         (∀ l < 4, a.bytes (Reg.AX9_INACTIVE_CUR n + l) =
           if mask.testBit l then b.bytes (Reg.AX9_ACTIVE_CUR n + l) else b.bytes (Reg.AX9_INACTIVE_CUR n + l)) ∧
         (∀ l < 4, a.bytes (Reg.AX9_ACTIVE_CUR n + l) = b.bytes (Reg.AX9_ACTIVE_CUR n + l)) ∧ b.Keeps a [.dom, .gen, .done]) ∧
     (∀ n mask, s.Up → n < 128 → (∃ l < 4, mask.testBit l = true ∧ d.trackOwns n l = true) → Does (.copyActive n mask) s fun b a =>
       a.done = Code.TRACK_OWNS_BANK ∧ a.LastRaised Code.TRACK_OWNS_BANK Kind.axis n ∧ a.dom = b.dom) ∧
     (∀ n mask, s.Up → n < 128 → (∀ l < 4, mask.testBit l = true → d.trackOwns n l = false) →
       d.locked (Reg.AX9_COMMIT_CYCLE n) = true → Does (.copyActive n mask) s fun b a =>
         a.done = Code.BANK_LOCKED ∧ a.dom = b.dom))

/-! ## Zones -/

/-- The commands of the zone tokens (R156, R160). The evaluation of a zone keeps its queue in order and does not leave a free
token to a waiting chain (R156, R157). -/
def Obligations.Zones : Prop :=
  (∀ (s : State) (r : Requester) (c z : Nat),
     let d := s.found
     (∀ i ask, (i, ask) ∈ [(Instr.request c z, true), (.release c z, false)] → s.Up →
       (c < 16 → z < 64 → Does i s fun b a =>
         a.done = Code.STATUS_OK ∧ a.zone z = { b.zone z with asks := (b.zone z).asks ++ [{ chain := c, ask }] } ∧
         (∀ y, y ≠ z → a.zone y = b.zone y) ∧ b.Keeps a [.zones, .done]) ∧
       (16 ≤ c → Does i s fun b a => a.done = Code.OD_NO_ENTRY ∧ b.Keeps a [.done]) ∧
       (c < 16 → 64 ≤ z → Does i s fun b a => a.done = Code.OD_RANGE ∧ b.Keeps a [.done])) ∧
     (z < 64 → d.Serves r (0x3140 + z) → d.WriteOk r (0x3140 + z) 0x10 [0] → d.slAllowed r = true →
       (∀ h, (d.zone z).holder = some h → (d.chainState h = AxState.disabled ∨ d.chainState h = AxState.fault) →
         Does (.forceRelease r z) s fun b a =>
           a.done = Code.STATUS_OK ∧ a.zone z = { b.zone z with forced := true } ∧ a.LastRaised Code.ZONE_FORCED Kind.zone z) ∧
       (∀ h, (d.zone z).holder = some h → d.chainState h ≠ AxState.disabled → d.chainState h ≠ AxState.fault →
         Does (.forceRelease r z) s fun b a =>
           a.done = Code.ZONE_FORCE_REFUSED ∧ a.zones = b.zones ∧ a.LastRaised Code.ZONE_FORCE_REFUSED Kind.zone z) ∧
       ((d.zone z).holder = none → Does (.forceRelease r z) s fun b a =>
         a.done = Code.STATUS_OK ∧ a.zones = b.zones ∧ a.log = b.log)) ∧
     (z < 64 → d.Serves r (0x3140 + z) → d.pathOpen r (0x3140 + z) 0x10 = true → d.slAllowed r = false →
       Does (.forceRelease r z) s fun b a =>
         a.done = Code.SESSION_DENIED ∧ a.zones = b.zones ∧ a.LastRaised Code.SESSION_DENIED Kind.device 0)) ∧
  (let good := fun (x : Zone) => x.queue.Nodup ∧ x.queue.length ≤ 16 ∧ ∀ h, x.holder = some h → h ∉ x.queue
   ∀ (d : Dev) (z : Nat), (∀ y, good (d.zone y)) →
     (∀ y, good ((d.zoneEval z).zone y)) ∧
     (∀ y, y ≠ z → ((d.zoneEval z).zone y).holder = (d.zone y).holder ∧ ((d.zoneEval z).zone y).queue = (d.zone y).queue ∧
       ((d.zoneEval z).zone y).asks = (d.zone y).asks) ∧
     (d.zoneOn z = true → ((d.zoneEval z).zone z).asks = [] ∧
       (((d.zoneEval z).zone z).queue ≠ [] → ((d.zoneEval z).zone z).holder ≠ none)))

/-! ## Work cores, Sett and DMA -/

/-- The eligible item that goes first (R265, R267, R274). How items reach the harts (R260, R261, R273, R276). -/
def Obligations.DispatchAndHarts : Prop :=
  (∀ (d : Dev),
     (∀ i, d.bestItem = some i → i ∈ d.sett.items ∧ d.eligible i = true ∧
       ∀ j ∈ d.sett.items, d.eligible j = true → d.goesBefore j i = false ∧
         (i.restored = true → j.restored = true → i.seq ≤ j.seq) ∧
         (i.restored = false → j.restored = false ∧ j.prio ≤ i.prio ∧
           (j.prio = i.prio → j.front = 0 → i.front = 0 → d.deadlineKey i ≤ d.deadlineKey j))) ∧
     (d.bestItem = none ↔ ∀ j ∈ d.sett.items, d.eligible j = false) ∧
     (∀ i, d.eligible i = true → i.tick = false ∧ i.place = .queued ∧ i.written = true ∧
       (∀ j ∈ d.sett.items, j.tick = false → j.slot ≠ i.slot → i.flow ≠ 0 → j.flow = i.flow →
         j.place = .queued ∧ i.seq ≤ j.seq) ∧
       ∀ j ∈ d.sett.items, j.tick = false → j.fence = true → j.domain = i.domain → i.seq ≤ j.seq)) ∧
  (∀ (s : State) (h after : Nat), s.Live → h < 48 →
     let d := s.found
     let ready := if h % 2 = 0 then d.nextTick else (d.prefetched h).or d.bestItem
     let spent := fun (i : Item) => h % 2 = 1 ∧ d.prefetched h = none ∧ i.due = true ∧ d.nat Reg.R3802_REPLAY_MAX < i.replays + 1
     let takes := fun (b a : Dev) (i : Item) (p : Place) =>
       let x : Item := { i with due := false, replays := if i.due then min 255 (i.replays + 1) else i.replays,
                                replayed := i.replayed || i.due, place := p, hart := h, front := 0,
                                restored := false }
       a.item i.slot = some x ∧ (p = .service → (a.hart h).asked = none ∧ (a.hart h).answer = x.token) ∧
         (∀ k, k ≠ i.slot → a.item k = b.item k) ∧ b.Keeps a [.sett, .mem]
     (d.issuing h = false → Does (.ask h after) s fun b a => b.Keeps a []) ∧
     (d.issuing h = true → d.serving h ≠ none → Does (.ask h after) s fun b a =>
       (a.hart h).answer = 0 ∧ (a.hart h).after = (b.hart h).after ∧ a.sett.items = b.sett.items ∧
       a.nat Reg.R3800_STALE_PORT = min (b.nat Reg.R3800_STALE_PORT + 1) 0xFFFFFFFF ∧ b.Keeps a [.sett, .od]) ∧
     (∀ i, d.taking h = true → ready = some i → d.item i.slot = some i → ¬spent i →
       (d.issuing h = true → d.serving h = none → Does (.ask h after) s fun b a =>
         takes b a i .service ∧ (a.hart h).after = after) ∧
       ((d.hart h).asked ≠ none → Does (.itemDispatch h) s fun b a => takes b a i .service) ∧
       (h % 2 = 1 → d.prefetched h = none → d.pushMode = true → Does (.prefetchPush h) s fun b a => takes b a i .prefetch)) ∧
     (∀ i, d.taking h = true → ready = some i → d.item i.slot = some i → spent i → d.issuing h = true → d.serving h = none →
       Does (.ask h after) s fun _ a => a.item i.slot = none ∧ a.LastRaised Code.REPLAY_EXHAUSTED Kind.other 0) ∧
     ((d.taking h = false ∨ ready = none) → d.issuing h = true → d.serving h = none → Does (.ask h after) s fun b a =>
       (a.hart h).asked = some b.rawNow ∧ (a.hart h).after = after ∧ a.sett.items = b.sett.items ∧
       b.Keeps a [.sett]) ∧
     ((d.hart h).asked = none ∨ d.taking h = false ∨ ready = none → Does (.itemDispatch h) s fun b a => b.Keeps a []) ∧
     ((d.pushMode = false ∨ h % 2 = 0 ∨ d.taking h = false ∨ d.prefetched h ≠ none) →
       Does (.prefetchPush h) s fun b a => b.Keeps a []) ∧
     (∀ irq, (d.hart h).asked = none → Does (.askTimeout h irq) s fun b a => b.Keeps a []) ∧
     (∀ irq t, (d.hart h).asked = some t →
       let us := d.nat Reg.R3800_ASK_TIMEOUT_US
       (irq = true ∨ (us ≠ 0 ∧ t + 1000 * us ≤ d.rawNow) → Does (.askTimeout h irq) s fun b a =>
         (a.hart h).asked = none ∧ (a.hart h).answer = 0 ∧ a.sett.items = b.sett.items ∧ b.Keeps a [.sett]) ∧
       (irq = false → (us = 0 ∨ d.rawNow < t + 1000 * us) → Does (.askTimeout h irq) s fun b a => b.Keeps a [])))

/-- SUBMIT, JOURNAL_RECORD_WRITTEN, COMPLETE, DEADLINE_MISS (R258, R262, R263, R264, R267, R271, R274). -/
def Obligations.ItemsComeAndGo : Prop :=
  ∀ (s : State) (h : Nat), s.Live → h < 48 →
    let d := s.found
    let background := (d.sett.items.filter fun i => !i.tick).length
    let full := 4096 ≤ background + d.nEntries ∨ d.freeSlots = []
    let noRecord := fun (desc : Bytes) => descFlag desc 1 = true ∧ d.nat Reg.R3802_JOURNAL_ENTRIES ≤ d.sett.journal.length
    let refused := fun (desc : Bytes) (code : Nat) => d.issuing h = true → Does (.submit h desc) s fun b a =>
      a.done = code ∧ (a.hart h).status = code ∧ a.sett.items = b.sett.items ∧ a.LastRaised code Kind.other 0 ∧
      a.nat Reg.R3880_SUBMIT_REFUSED = min (b.nat Reg.R3880_SUBMIT_REFUSED + 1) 0xFFFFFFFF
    (∀ desc, descOk desc = false → refused desc Code.DESC_INVALID) ∧
    (∀ desc, descOk desc = true → full → refused desc Code.SETT_FULL) ∧
    (∀ desc, descOk desc = true → ¬full → noRecord desc → refused desc Code.JOURNAL_FULL) ∧
    (∀ desc, descOk desc = true → ¬full → ¬noRecord desc → descFlag desc 2 = false → d.issuing h = true →
      Does (.submit h desc) s fun b a =>
        ∃ slot i, b.item slot = none ∧ a.item slot = some i ∧ a.done = Code.STATUS_OK ∧ (a.hart h).status = slot * 65536 ∧
          i.desc = desc ∧ i.place = .queued ∧ i.entry = none ∧ i.seq = b.sett.nextSeq ∧ a.sett.nextSeq = b.sett.nextSeq + 1 ∧
          (descFlag desc 1 = false → i.record = none ∧ i.written = true) ∧
          (descFlag desc 1 = true → i.record = some (b.nat Reg.R3802_NEXT_SEQ) ∧ i.written = false) ∧
          b.Keeps a [.sett, .od, .fresh, .mem, .done]) ∧
    (∀ slot i q, d.item slot = some i → i.record = some q → i.written = false → i.fence = false → d.fenceDone = none →
      Does (.journalRecordWritten slot) s fun b a =>
        a.item slot = some { i with written := true } ∧ a.memRead (b.recordAt q) 64 = i.journalRecord q ∧
        (∀ x, (x < b.recordAt q ∨ b.recordAt q + 64 ≤ x) → a.memAt x = b.memAt x) ∧ b.Keeps a [.sett, .mem]) ∧
    (∀ slot, (∀ i, d.item slot = some i → i.record = none ∨ i.written = true) →
      Does (.journalRecordWritten slot) s fun b a => b.Keeps a []) ∧
    (∀ i value, d.issuing h = true → d.serving h = some i → value % 4096 = i.slot → value / 4096 % 65536 = i.gen →
      Does (.complete h value) s fun b a =>
        a.item i.slot = none ∧ a.fenceDone = none ∧ (∀ j ∈ a.sett.items, j ∈ b.sett.items) ∧
        (∀ k, k ≠ i.slot → (∀ j ∈ b.sett.items, j.slot = k → ¬(j.fence = true ∧ j.func = 0)) → a.item k = b.item k) ∧
        a.reg (Reg.R3840_ITEMS (h / 2)) = (odType (Reg.R3840_ITEMS (h / 2))).wrap (b.reg (Reg.R3840_ITEMS (h / 2)) + 1) ∧
        b.Keeps a [.sett, .od, .mem]) ∧
    (d.issuing h = false → (∀ value, Does (.complete h value) s fun b a => b.Keeps a []) ∧
      ∀ desc, Does (.submit h desc) s fun b a => b.Keeps a []) ∧
    (∀ value, d.issuing h = true → (∀ i, d.serving h = some i → ¬(value % 4096 = i.slot ∧ value / 4096 % 65536 = i.gen)) →
      Does (.complete h value) s fun b a =>
        a.nat Reg.R3800_STALE_PORT = min (b.nat Reg.R3800_STALE_PORT + 1) 0xFFFFFFFF ∧ b.Keeps a [.od]) ∧
    (∀ entry c i, d.sett.items.find? (fun i => i.entry = some entry) = some i →
      Does (.deadlineMiss entry c) s fun b a =>
        a.item i.slot = none ∧ a.LastRaised Code.DEADLINE_MISS Kind.other 0 ∧
        a.nat Reg.R3803_MISSES = min (b.nat Reg.R3803_MISSES + 1) 0xFFFFFFFF ∧ a.reg Reg.R3803_LAST_CYCLE = b.cycle ∧
        a.reg Reg.R3803_LAST_REASON = (if i.place = .service then 1 else 2) ∧
        a.reg Reg.R3803_LAST_ENTRY = (odType Reg.R3803_LAST_ENTRY).wrap entry ∧
        (i.place = .service → (a.hart i.hart).mcause = 2 ^ 63 + 24 ∧ (a.hart i.hart).mepc = c.pc ∧
          (a.hart i.hart).mtval = i.token ∧ (a.hart i.hart).abort = 1 ∧ (a.hart i.hart).ctx.priv = 3) ∧
        (i.place ≠ .service → a.sett.harts = b.sett.harts)) ∧
    (∀ entry c, d.sett.items.find? (fun i => i.entry = some entry) = none →
      Does (.deadlineMiss entry c) s fun b a => b.Keeps a [.ph])

/-- PAGE_FAULT, MAP_DONE, MAP_FAIL, RESUME, CORE_LOSS, RETIRE_GRACE_EXPIRY (R275, R279, R280, R281). -/
def Obligations.ParkingAndReplay : Prop :=
  ∀ (s : State) (h : Nat) (c : HartContext), s.Live → h < 48 → c.cause < 2 ^ 63 →
    let d := s.found
    let toS := c.priv ≤ 1 ∧ c.csr.medeleg.testBit c.cause = true
    let trapped := fun (x : Hart) =>
      (toS → x.scause = c.cause ∧ x.sepc = c.pc ∧ x.stval = c.va ∧ x.ctx.priv = 1 ∧ x.ctx.pc = vectorOf c.csr.stvec c.cause) ∧
      (¬toS → x.mcause = c.cause ∧ x.mepc = c.pc ∧ x.mtval = c.va ∧ x.ctx.priv = 3 ∧ x.ctx.pc = vectorOf c.csr.mtvec c.cause)
    let aborted := fun (x : Hart) (i : Item) (reason : Nat) =>
      x.mcause = 2 ^ 63 + 24 ∧ x.mepc = c.pc ∧ x.mtval = i.token ∧ x.abort = reason ∧ x.ctx.priv = 3 ∧
      x.ctx.pc = vectorOf c.csr.mtvec (2 ^ 63 + 24)
    let missed := fun (b a : Dev) (i : Item) (reason : Nat) =>
      a.item i.slot = none ∧ a.LastRaised Code.DEADLINE_MISS Kind.other 0 ∧ a.reg Reg.R3803_LAST_REASON = reason ∧
      a.nat Reg.R3803_MISSES = min (b.nat Reg.R3803_MISSES + 1) 0xFFFFFFFF
    let vpn := fun (v : Nat) => v / 4096 % 2 ^ 27
    let asid := fun (v : Nat) => v / 2 ^ 44 % 2 ^ 16
    let again := fun (b a : Dev) (i : Item) =>
      (i.record ≠ none → a.item i.slot = some { i with place := .queued, front := b.sett.head + 1, due := true, resumed := false, frame := none } ∧
        a.nat Reg.R3802_REPLAYED = min (b.nat Reg.R3802_REPLAYED + 1) 0xFFFFFFFF ∧ a.LastRaised Code.ITEM_REPLAYED Kind.other 0) ∧
      (i.record = none → a.item i.slot = none ∧
        a.nat Reg.R3802_LOST = min (b.nat Reg.R3802_LOST + 1) 0xFFFFFFFF ∧ a.LastRaised Code.ITEM_LOST Kind.other 0)
    (d.issuing h = false → Does (.pageFault h c.toHartRegs c.csr) s fun b a => b.Keeps a []) ∧
    (d.issuing h = true → d.serving h = none → Does (.pageFault h c.toHartRegs c.csr) s fun b a => trapped (a.hart h) ∧ b.Keeps a [.sett]) ∧
    (∀ i, d.issuing h = true → d.serving h = some i → i.tick = true → Does (.pageFault h c.toHartRegs c.csr) s fun b a =>
      missed b a i 3 ∧ aborted (a.hart h) i 3) ∧
    (∀ i, d.issuing h = true → d.serving h = some i → i.tick = false →
      (d.flag Reg.R3801_PARK_EN = false ∨ c.priv = 3 ∨ i.func = d.nat Reg.R3801_MAP_FUNC → Does (.pageFault h c.toHartRegs c.csr) s fun b a =>
        trapped (a.hart h) ∧ a.sett.items = b.sett.items ∧ b.Keeps a [.sett]) ∧
      (d.flag Reg.R3801_PARK_EN = true → c.priv ≠ 3 → i.func ≠ d.nat Reg.R3801_MAP_FUNC → d.nat Reg.R3801_PARK_MAX ≤ i.parks →
        Does (.pageFault h c.toHartRegs c.csr) s fun _ a =>
          trapped (a.hart h) ∧ a.item i.slot = none ∧ a.LastRaised Code.PAGE_UNMAPPABLE Kind.other 0) ∧
      (d.flag Reg.R3801_PARK_EN = true → c.priv ≠ 3 → i.func ≠ d.nat Reg.R3801_MAP_FUNC → i.parks < d.nat Reg.R3801_PARK_MAX →
        (d.freeFrame = none → Does (.pageFault h c.toHartRegs c.csr) s fun b a =>
          trapped (a.hart h) ∧ a.sett.items = b.sett.items ∧ a.sett.fullEp = true ∧
          (b.sett.fullEp = false → a.LastRaised Code.PARK_FULL Kind.other 0) ∧ (b.sett.fullEp = true → a.log = b.log)) ∧
        (∀ f, d.freeFrame = some f → d.item i.slot = some i → d.nat Reg.R3801_MAP_FUNC = 0 → i.record = none →
          Does (.pageFault h c.toHartRegs c.csr) s fun b a =>
            a.item i.slot = some { i with place := .parked, parks := i.parks + 1, frame := some f, vpn := vpn c.va,
                                          asid := asid c.satp, resumed := false } ∧
            a.memRead (frameAt f) 576 = parkFrame c ∧
            (∀ x, (x < frameAt f ∨ frameAt f + 576 ≤ x) → a.memAt x = b.memAt x) ∧
            (a.hart h).answer = 0 ∧ (a.hart h).ctx = { c with pc := (b.hart h).after } ∧
            a.nat Reg.R3801_PARKS = min (b.nat Reg.R3801_PARKS + 1) 0xFFFFFFFF ∧
            a.LastRaised Code.RETRY_AFTER_MAP Kind.other 0))) ∧
    (∀ v i, d.item i.slot = some i → i.place = .parked → i.vpn = vpn v → i.asid = asid v →
      (∀ ch < 32, d.flag (Reg.R3920_RESUME_ON_MAP ch) = false) → Does (.mapDone v) s fun _ a =>
        ∃ n, 0 < n ∧ a.item i.slot = some { i with place := .queued, front := n, resumed := true, since := a.rawNow }) ∧
    (∀ v, d.parkedOn (vpn v) (asid v) = [] →
      ((∀ ch < 32, d.flag (Reg.R3920_RESUME_ON_MAP ch) = false) → Does (.mapDone v) s fun b a => b.Keeps a []) ∧
      Does (.mapFail v) s fun b a => b.Keeps a []) ∧
    (∀ v, d.parkedOn (vpn v) (asid v) ≠ [] → Does (.mapFail v) s fun b a =>
      a.parkedOn (vpn v) (asid v) = [] ∧ (∀ j ∈ a.sett.items, j ∈ b.sett.items) ∧ a.LastRaised Code.PAGE_UNMAPPABLE Kind.other 0) ∧
    (∀ i f v, d.issuing h = true → d.serving h = some i → i.frame = some f → d.item i.slot = some i →
      (h % 2 = 1 → i.resumed = true → v = i.token → Does (.resume h v) s fun b a =>
        (a.hart h).ctx = { contextOf (b.memRead (frameAt f) 576) with csr := (b.hart h).ctx.csr } ∧
        a.item i.slot = some { i with frame := none } ∧ b.Keeps a [.sett]) ∧
      (h % 2 = 0 ∨ i.resumed = false ∨ v ≠ i.token → Does (.resume h v) s fun b a => b.Keeps a [])) ∧
    (∀ k i, d.serving (2 * k + 1) = some i → d.item i.slot = some i →
      Does (.coreLoss CoreError.background k c) s fun b a => again b a i ∧ aborted (a.hart (2 * k + 1)) i 4) ∧
    (∀ k i, d.serving (2 * k) = some i → Does (.coreLoss CoreError.tick k c) s fun b a =>
      missed b a i 4 ∧ aborted (a.hart (2 * k)) i 4) ∧
    (∀ f i, d.sett.items.find? (fun i => i.frame = some f) = some i → d.item i.slot = some i → i.place = .parked →
      Does (.coreLoss CoreError.frame f c) s fun b a => again b a i ∧ a.sett.harts = b.sett.harts) ∧
    (∀ k i, d.serving (2 * k + 1) = some i → d.item i.slot = some i → d.serving (2 * k) = none → d.prefetched (2 * k + 1) = none →
      Does (.coreLoss CoreError.core k c) s fun b a =>
        again b a i ∧ (a.hart (2 * k)).asked = none ∧ (a.hart (2 * k + 1)).asked = none ∧ a.taking (2 * k) = false) ∧
    (∀ k t, mget none d.sett.leaving k = some t →
      (d.rawNow < t + 1000000 * d.nat Reg.R3800_RETIRE_GRACE_MS → Does (.retireGraceExpiry k) s fun b a => b.Keeps a []) ∧
      (t + 1000000 * d.nat Reg.R3800_RETIRE_GRACE_MS ≤ d.rawNow → ∀ i, d.serving (2 * k + 1) = some i → d.item i.slot = some i →
        Does (.retireGraceExpiry k) s fun b a => again b a i))

/-- SFENCE_VMA, FENCE_I, PLIC_CLAIM, ILLEGAL_INSTRUCTION, ACCESS_FAULT (R46, R245, R250, R252, R253, R278). -/
def Obligations.HartExceptions : Prop :=
  ∀ (s : State) (h : Nat) (c : HartContext), s.Live → h < 48 →
    let d := s.found
    let trapped := fun (b a : Dev) (cause tval : Nat) =>
      let x := b.hart h
      let y := a.hart h
      (c.priv ≤ 1 ∧ c.csr.medeleg.testBit cause = true →
        y.scause = cause ∧ y.sepc = c.pc ∧ y.stval = tval ∧ y.ctx.priv = 1 ∧ y.ctx.pc = vectorOf c.csr.stvec cause ∧
        y.mcause = x.mcause ∧ y.mepc = x.mepc ∧ y.mtval = x.mtval) ∧
      (¬(c.priv ≤ 1 ∧ c.csr.medeleg.testBit cause = true) →
        y.mcause = cause ∧ y.mepc = c.pc ∧ y.mtval = tval ∧ y.ctx.priv = 3 ∧ y.ctx.pc = vectorOf c.csr.mtvec cause ∧
        y.scause = x.scause ∧ y.sepc = x.sepc ∧ y.stval = x.stval) ∧
      (∀ g, g / 2 ≠ h / 2 → a.hart g = b.hart g) ∧ a.sett.items = b.sett.items
    let kindCause := fun (kind : Nat) => if kind = 0 then 0 else if kind = 1 then 4 else 6
    (d.issuing h = false → Does (.sfenceVma h) s (fun b a => b.Keeps a []) ∧ Does (.fenceI h) s (fun b a => b.Keeps a []) ∧
      (∀ tval, Does (.illegalInstruction h c.toHartRegs tval c.csr) s fun b a => b.Keeps a []) ∧
      ∀ kind addr size, Does (.accessFault h kind addr size c.toHartRegs c.csr) s fun b a => b.Keeps a []) ∧
    (∀ src, let e := src - 80
      let waits := 80 ≤ src ∧ e < 2 ∧ d.nat (Reg.R3510_SIGNAL e) &&& d.nat (Reg.R3510_SIG_MASK e) ≠ 0
      (¬waits → Does (.plicClaim src) s fun b a => (∀ k, k ∈ a.plic ↔ k ∈ b.plic ∧ k ≠ src) ∧ b.Keeps a [.plic]) ∧
      (waits → Does (.plicClaim src) s fun b a => b.Keeps a [])) ∧
    (d.issuing h = true →
      Does (.sfenceVma h) s (fun b a => (a.hart h).sfenceAt = some b.rawNow ∧ (∀ g, g / 2 ≠ h / 2 → a.hart g = b.hart g) ∧
        b.Keeps a [.sett]) ∧
      Does (.fenceI h) s (fun b a => (a.hart h).fenceIAt = some b.rawNow ∧ (∀ g, g / 2 ≠ h / 2 → a.hart g = b.hart g) ∧
        b.Keeps a [.sett]) ∧
      (∀ tval, Does (.illegalInstruction h c.toHartRegs tval c.csr) s fun b a => trapped b a 2 tval ∧ b.Keeps a [.sett]) ∧
      (∀ kind addr size, kind < 4 → 0 < size → size ≤ 8 →
        let memory := 0x0800000000 ≤ addr ∧ addr < 0x0BFF000000
        let crosses := 64 < addr % 64 + size
        let allowed := pmpAllows c.csr c.priv kind addr size = true
        let breaks := Does (.accessFault h kind addr size c.toHartRegs c.csr) s fun b a => trapped b a (kindCause kind + 1) c.va ∧ b.Keeps a [.sett]
        (¬allowed → breaks) ∧ (2 ^ 40 ≤ addr → breaks) ∧
        (0x0BFF000000 ≤ addr → addr < 0x0C00000000 → breaks) ∧
        (0x0040000000 ≤ addr → addr < 0x0050000000 → (kind = 3 ∨ addr % size ≠ 0) → breaks) ∧
        (0x0050000000 ≤ addr → addr < 0x0050018000 →
          ((addr - 0x0050000000) / 4096 ≠ h / 2 ∨ addr % 8 ≠ 0 ∨ size ≠ 8 ∨ kind = 0 ∨ kind = 3) → breaks) ∧
        (0x0060000000 ≤ addr → addr < 0x0061000000 → (kind = 3 ∨ addr % size ≠ 0 ∨ aeCell addr = none) → breaks) ∧
        (memory → allowed → addr % size ≠ 0 → (kind = 3 ∨ crosses) →
          Does (.accessFault h kind addr size c.toHartRegs c.csr) s fun b a => trapped b a (kindCause kind) c.va ∧ b.Keeps a [.sett]) ∧
        (memory → allowed → (addr % size = 0 ∨ (kind ≠ 3 ∧ ¬crosses)) →
          Does (.accessFault h kind addr size c.toHartRegs c.csr) s fun b a => b.Keeps a []) ∧
        (∀ e sub o, aeCell addr = some (e, sub, o) → allowed → addr % size = 0 → kind = 2 →
          d.aeWriteRefusal e sub ≠ Code.STATUS_OK → Does (.accessFault h kind addr size c.toHartRegs c.csr) s fun b a =>
            trapped b a 7 c.va ∧ a.LastRaised (b.aeWriteRefusal e sub) Kind.unit (48 + e) ∧ a.aes = b.aes)))

/-- IOTLB_INVAL (R283). -/
def Obligations.IotlbInvalRemoves : Prop :=
  ∀ (s : State) (v : Nat), s.Up →
    let vpn := v / 4096 % 2 ^ 27
    let asid := v / 2 ^ 44 % 2 ^ 16
    Does (.iotlbInval v) s (fun b a =>
      a.done = Code.STATUS_OK ∧
      (∀ e, e ∈ a.dma.iotlb ↔ e ∈ b.dma.iotlb ∧ v.testBit 1 = false ∧
        (e.1 ≠ asid ∨ (v.testBit 0 = false ∧ e.2.1 ≠ vpn))) ∧ b.Keeps a [.dma, .done]) ∧
    (∀ h < 48, Does (.sfenceVma h) s fun b a => a.dma = b.dma) ∧
    ∀ (d : Dev) (satp va : Nat) (w : Bool), d.dma.iotlb.length ≤ 1024 → (d.ioTranslate satp va w).2.dma.iotlb.length ≤ 1024

/-- DMA_START, DMA_RESUME, DMA_STOP, DMA_ABANDON, DMA_DESCRIPTOR_COMPLETE, DMA_FAULT (R282, R284, R285, R286, R297). -/
def Obligations.DmaChannels : Prop :=
  ∀ (s : State) (ch : Nat), ch < 32 → s.Up →
    let d := s.found
    let st := d.nat (Reg.R3920_STATE ch)
    let satp := d.nat (Reg.R3920_IO_SATP ch)
    let reads := fun (va : Nat) (w : Bool) (pa : Nat) => d.ioTranslate satp va w = (.ok pa, d)
    let one := fun (x : Bytes) => dmaDescOk x = true ∧ fieldLE x 16 4 = 1 ∧ fieldLE x 20 4 &&& 5 = 1
    let clean := fun (pa : Nat) => ∀ i < 4, pa / 8 * 8 + 8 * i ∉ d.health.poisoned
    (st = DmaState.running → Does (.dmaStart ch) s fun b a => a.done = Code.OD_STATE ∧ b.Keeps a [.done]) ∧
    (st ≠ DmaState.faulted → st ≠ DmaState.stopped → Does (.dmaResume ch) s fun b a =>
      a.done = Code.OD_STATE ∧ b.Keeps a [.done]) ∧
    Does (.dmaAbandon ch) s (fun b a =>
      a.done = Code.STATUS_OK ∧ a.nat (Reg.R3920_STATE ch) = DmaState.idle ∧ a.dmaOff ch = 0 ∧
      b.KeepsRegs a [Reg.R3920_STATE ch] ∧ b.Keeps a [.od, .dma, .done]) ∧
    (∀ pa, st ≠ DmaState.running → reads (d.nat (Reg.R3920_DESC_PTR ch)) false pa → Does (.dmaStart ch) s fun b a =>
      let x := b.memRead pa 32
      a.done = Code.STATUS_OK ∧ a.reg (Reg.R3920_CUR_DESC ch) = (odType (Reg.R3920_CUR_DESC ch)).wrap (b.nat (Reg.R3920_DESC_PTR ch)) ∧ a.reg (Reg.R3920_BYTES ch) = 0 ∧
      a.dmaOff ch = 0 ∧
      (inMemory pa 32 = true → clean pa → dmaDescOk x = true → a.nat (Reg.R3920_STATE ch) = DmaState.running) ∧
      (inMemory pa 32 = true → clean pa → dmaDescOk x = false →
        a.nat (Reg.R3920_STATE ch) = DmaState.faulted ∧ a.nat (Reg.R3920_FAULT_CAUSE ch) = 6 ∧
        a.LastRaised Code.DMA_DESC_INVALID Kind.other 0) ∧
      (inMemory pa 32 = false ∨ ¬clean pa →
        a.nat (Reg.R3920_STATE ch) = DmaState.faulted ∧
        a.nat (Reg.R3920_FAULT_CAUSE ch) = (if inMemory pa 32 = true then 5 else 4) ∧
        a.LastRaised Code.DMA_FAULT Kind.other 0)) ∧
    (∀ pa, (st = DmaState.faulted ∨ st = DmaState.stopped) →
      (let e := { d with dma := { d.dma with iotlb := d.dma.iotlb.filter fun e => e.1 != satp / 2 ^ 44 % 2 ^ 16 } }
       ∃ l, e.ioTranslate satp (d.nat (Reg.R3920_CUR_DESC ch)) false = (.ok pa, { e with dma := l }) ∧ l.offs = d.dma.offs) →
      inMemory pa 32 = true → clean pa → dmaDescOk (d.memRead pa 32) = true →
      Does (.dmaResume ch) s fun b a =>
        a.done = Code.STATUS_OK ∧ a.nat (Reg.R3920_STATE ch) = DmaState.running ∧
        a.reg (Reg.R3920_CUR_DESC ch) = (odType (Reg.R3920_CUR_DESC ch)).wrap (b.nat (Reg.R3920_CUR_DESC ch)) ∧ a.dmaOff ch = b.nat (Reg.R3920_FAULT_OFFSET ch)) ∧
    (∀ cur x pa pb, st = DmaState.running → reads (d.nat (Reg.R3920_CUR_DESC ch)) false cur → d.memRead cur 32 = x → one x →
      inMemory cur 32 = true → clean cur → d.dmaOff ch = 0 → reads (fieldLE x 0 8) false pa → reads (fieldLE x 8 8) true pb →
      (regionOf pa = .memory → regionOf pb = .memory → pa / 8 * 8 ∉ d.health.poisoned →
        Does (.dmaDescriptorComplete ch) s fun b a =>
        a.memAt pb = b.memAt pa ∧ (∀ y, y ≠ pb → a.memAt y = b.memAt y) ∧ a.nat (Reg.R3920_STATE ch) = DmaState.done ∧
        a.reg (Reg.R3920_BYTES ch) = (odType (Reg.R3920_BYTES ch)).wrap (b.reg (Reg.R3920_BYTES ch) + 1) ∧
        ((fieldLE x 20 4).testBit 1 = true → 96 + ch ∈ a.plic)) ∧
      (∀ off, off = 0 → Does (.dmaStop ch off) s fun b a =>
        a.done = Code.STATUS_OK ∧ a.nat (Reg.R3920_STATE ch) = DmaState.stopped ∧ a.nat (Reg.R3920_FAULT_OFFSET ch) = 0 ∧
        b.Keeps a [.od, .done]) ∧
      (∀ cause write, cause = 4 ∨ cause = 5 → Does (.dmaFault ch 0 cause write) s fun b a =>
        a.nat (Reg.R3920_STATE ch) = DmaState.faulted ∧ a.nat (Reg.R3920_FAULT_OFFSET ch) = 0 ∧
        a.nat (Reg.R3920_FAULT_CAUSE ch) = cause ∧ a.nat (Reg.R3920_FAULT_VA ch) = fieldLE x (if write then 8 else 0) 8 ∧
        a.mem = b.mem ∧ 96 + ch ∈ a.plic ∧ a.LastRaised Code.DMA_FAULT Kind.other 0)) ∧
    (st ≠ DmaState.running →
      Does (.dmaDescriptorComplete ch) s (fun b a => b.Keeps a []) ∧
      (∀ off cause w, Does (.dmaFault ch off cause w) s fun b a => b.Keeps a []) ∧
      ∀ off, Does (.dmaStop ch off) s fun b a => a.done = Code.STATUS_OK ∧ b.Keeps a [.done])

/-! ## The network -/

/-- LINK_DOWN, LINK_UP, RX_DROP_OTHER, LINK_DELAY_REQUEST, LINK_DELAY_RESPONSE, LINK_WINDOW (R299, R300, R324, R334). -/
def Obligations.LinksAndDelays : Prop :=
  ∀ (s : State) (f : FrameIn) (p : Nat), s.Live → f.port < 4 → p < 4 →
    let d := s.found
    let q := f.port
    let seq := ((d.port p).reqSeq + 1) % 65536
    let loud := d.link.silent = false ∧ d.state ≠ DevState.failed
    (d.nat (Reg.R1410_LINK_STATE p) ≠ 0 → Does (.linkDown p) s fun b a =>
      a.nat (Reg.R1410_LINK_STATE p) = 0 ∧ b.KeepsRegs a (Reg.R1410_LINK_STATE p :: logRegs) ∧
      a.LastRaised Code.LINK_DOWN Kind.port p ∧ b.Keeps a logParts) ∧
    (d.nat (Reg.R1410_LINK_STATE p) = 0 → Does (.linkDown p) s fun b a => b.Keeps a []) ∧
    Does (.linkUp p) s (fun b a =>
      a.nat (Reg.R1410_LINK_STATE p) = 1 ∧ b.KeepsRegs a [Reg.R1410_LINK_STATE p] ∧ b.Keeps a [.od]) ∧
    (d.hears q = true → (f.fcs = false ∨ d.headerOf f.bytes = none) → Does (.rxDropOther f) s fun b a =>
      a.nat (Reg.R1410_RX_DROP_OTHER q) = min (b.nat (Reg.R1410_RX_DROP_OTHER q) + 1) 0xFFFFFFFF ∧
      b.KeepsRegs a [Reg.R1410_RX_DROP_OTHER q] ∧ b.Keeps a [.od] ∧ a.out = []) ∧
    (∀ h depart, d.hears q = true → d.headerOf f.bytes = some h → f.fcs = true → fieldLE (payloadOf f.bytes) 0 1 = 1 →
      (loud → Does (.linkDelayRequest f depart) s fun b a =>
        (∃ y, a.out = [y] ∧ y.port = q ∧ y.fcs = true ∧ fieldLE (payloadOf y.bytes) 0 1 = 2 ∧
          fieldLE (payloadOf y.bytes) 4 8 = ns40 (b.ntAt f.raw) % 2 ^ 64 ∧
          fieldLE (payloadOf y.bytes) 12 2 = fieldLE (payloadOf f.bytes) 12 2) ∧
        b.KeepsRegs a [Reg.R1410_TX_FRAMES q] ∧ b.Keeps a [.od]) ∧
      (¬loud → Does (.linkDelayRequest f depart) s fun b a => a.out = [] ∧ b.Keeps a [])) ∧
    (∀ h t1 skipped latency, d.hears q = true → d.headerOf f.bytes = some h → f.fcs = true →
      fieldLE (payloadOf f.bytes) 0 1 = 2 → (d.port q).reqT1 = some (fieldLE (payloadOf f.bytes) 12 2, t1) →
      (d.port q).delays = [] → Does (.linkDelayResponse f skipped latency) s fun b a =>
        let turn := (b.ntAt f.raw).fdiv (2 ^ 40) - t1 - ((h.depart : Int) - fieldLE (payloadOf f.bytes) 4 8)
        a.reg (Reg.R1410_LINK_DELAY_PS q) = (odType (Reg.R1410_LINK_DELAY_PS q)).wrap (max 0 (turn * 500)) ∧
        a.nat (Reg.R1410_PEER_ID q) = h.source ∧ (a.port q).reqT1 = none) ∧
    (∀ off, (d.hears p = true → Does (.linkWindow off) s fun b a =>
        (a.port p).reqSeq = seq ∧ (a.port p).reqT1 = some (seq, (b.ntAt (b.clk.raw + off)).fdiv (2 ^ 40)) ∧
        (loud → ∃ y ∈ a.out, y.port = p ∧ fieldLE (payloadOf y.bytes) 0 1 = 1 ∧ fieldLE (payloadOf y.bytes) 12 2 = seq) ∧
        (¬loud → a.out = [])) ∧
      ((∀ i < 4, d.hears i = false) → Does (.linkWindow off) s fun b a => a.out = [] ∧ b.Keeps a [.ph])) ∧
    (d.hears q = false → d.pairMode ≠ 2 →
      ∀ i, i ∈ [Instr.syncFrame f, .coldstartFrame f, .cyclicFrame f, .gatherFrame f, .acyclicFrame f, .safetyFrame f,
        .rxDropOther f, .linkDelayRequest f 0, .linkDelayResponse f 0 0] → s.ClockOk → Does i s fun b a => b.Keeps a [] ∧ a.out = [])

/-- CYCLIC_FRAME, SLOT_OCCURRENCE, GATHER_FRAME, FRAME_TRANSMIT, SAFETY_FRAME, SAFE_CONN_TIMEOUT, ACYC_TIMEOUT (R305 to R307, R313, R314, R330, R332). -/
def Obligations.ScheduledFrames : Prop :=
  ∀ (s : State) (f : FrameIn) (h : Header) (e : Nat) (x : SchedEntry), s.Live → f.port < 4 →
    let d := s.found
    let q := f.port
    let off := (d.ntAt f.raw + (d.bypassWait q x : Int) * 2 ^ 40 - d.expectedAt h x.offset).natAbs
    let P := d.node Reg.R1400_PRECISION_NS * 2 ^ 40
    let good := d.ingress f = (some h, d) ∧ f.fcs = true ∧ d.inSync = true ∧ d.entriesFor q h = [(e, x)] ∧
      d.paired = false ∧ d.pairMode = 0 ∧ h.epoch = 0 ∧ d.link.pairSeen.contains h.source = false
    let cell := fun (a : Dev) (i : Nat) => slice (a.bytes Reg.R1610_VALUES) (16 * i) 16
    let loud := d.link.silent = false ∧ d.state ≠ DevState.failed
    (good → P + 100 * 2 ^ 40 < off → (d.port q).dropRun = false →
      ∀ i, i ∈ [Instr.cyclicFrame f, .gatherFrame f, .safetyFrame f] → Does i s fun b a =>
        a.nat (Reg.R1410_RX_DROP_WINDOW q) = min (b.nat (Reg.R1410_RX_DROP_WINDOW q) + 1) 0xFFFFFFFF ∧ a.out = [] ∧
        a.bytes Reg.R1610_VALUES = b.bytes Reg.R1610_VALUES ∧ a.axes = b.axes ∧ a.safe = b.safe ∧
        (∀ k < 128, a.bytes (Reg.R1500_DATA k) = b.bytes (Reg.R1500_DATA k)) ∧ (a.port q).dropRun = true) ∧
    (∀ i r, good → off ≤ P → x.has Role.rx = true → x.has Role.fwd = false → x.winLen ≠ 0 → d.windowMap e = [(i, r)] →
      r.sent = false → r.target = 0 → 16 * (i + 1) ≤ (d.bytes Reg.R1610_VALUES).length →
      let w := windowOf x (payloadOf f.bytes)
      let raw := if pdSigned r.ty then sfieldLE w (1 + r.off) (pdSize r.ty) else (fieldLE w (1 + r.off) (pdSize r.ty) : Int)
      fieldLE w 0 1 = 0 → Does (.cyclicFrame f) s fun b a =>
        cell a i = leBytes 8 (toU 64 raw) ++ [0, 0, 0, 0] ++ leBytes 4 b.cycle ∧ (∀ j, j ≠ i → cell a j = cell b j) ∧
        a.reg (Reg.R1410_RX_FRAMES q) = (odType (Reg.R1410_RX_FRAMES q)).wrap (b.reg (Reg.R1410_RX_FRAMES q) + 1) ∧ a.out = []) ∧
    (∀ i r, d.windowMap e = [(i, r)] → r.sent = false → 16 * (i + 1) ≤ (d.bytes Reg.R1610_VALUES).length →
      (d.link.pairSeen.contains (d.entry e).owner = false ∨ (d.entry e).owner = d.link.accSrc) →
      Does (.slotOccurrence e) s fun b a =>
        (cell a i).take 8 = (cell b i).take 8 ∧ fieldLE (cell a i) 8 1 = min 15 (fieldLE (cell b i) 8 1 + 1) ∧
        (∀ j, j ≠ i → cell a j = cell b j) ∧ b.Keeps a [.dom, .gen]) ∧
    (d.windowMap e = [] → Does (.slotOccurrence e) s fun b a => b.Keeps a []) ∧
    (∀ port, good → loud → off ≤ P → x.has Role.insert = true → x.has Role.rx = false → x.has Role.extract = false →
      x.has Role.endTurn = false → x.has Role.fwd = true → x.ports = [port] → 38 + x.winOff + (d.ownWindow e).1.length ≤ f.bytes.length →
      Does (.gatherFrame f) s fun _ a =>
        ∃ y w, a.out = [y] ∧ y.port = port ∧ y.fcs = true ∧ y.bytes.length = f.bytes.length ∧ mget [] a.link.payloads e = w ∧
          slice y.bytes (38 + x.winOff) w.length = w ∧
          ∀ k, (k < 34 ∨ (38 ≤ k ∧ k < 38 + x.winOff) ∨ 38 + x.winOff + w.length ≤ k) →
            y.bytes.getD k 0 = f.bytes.getD k 0) ∧
    (∀ agree, (schedCount d.sched ≤ e ∨ (d.entry e).has Role.tx = false ∨ d.inSync = false ∨ d.link.silent = true) →
      Does (.frameTransmit e agree) s fun b a => a.out = [] ∧ b.Keeps a []) ∧
    (d.state = DevState.failed → ∀ agree, Does (.frameTransmit e agree) s fun _ a => a.out = []) ∧
    (∀ agree c, e < schedCount d.sched → (d.entry e).has Role.tx = true → d.inSync = true → loud →
      d.link.sendFrom = some c → (d.entry e).offset < 31250 → c ≤ d.tickAbs / 8 → (d.entry e).mask.testBit d.clk.tick = true →
      d.tickAbs % 8 = d.clk.tick → d.paired = false → (d.entry e).kind = FrameKind.cyclic ∨ (d.entry e).kind = FrameKind.sync →
      Does (.frameTransmit e agree) s fun _ a =>
        a.out.map (fun y => y.port) = (d.entry e).ports ∧
        ∀ y ∈ a.out, y.fcs = true ∧ fieldBE y.bytes 14 1 % 16 = (d.entry e).kind % 16 ∧
          fieldBE y.bytes 20 2 % 256 = (d.entry e).slot % 256) ∧
    (∀ es e1 e2 k num, d.arrive f = (some h, es, e1) → e1.followEpoch h = (true, e2) → es.any (fun z => z.2.has Role.rx) = true →
      num = fieldLE (payloadOf f.bytes) 0 2 → num ≠ 0xFFFF → k < 128 →
      (List.range 128).find? (fun k => e2.nat (act (Reg.R1500_CONN k)) = num && e2.nat (act (Reg.R1500_CONN k)) != 0xFFFF &&
        e2.nat (act (Reg.R1500_DIR k)) = 0) = some k →
      fieldLE (payloadOf f.bytes) 4 2 = e2.nat (act (Reg.R1500_LEN k)) →
      let len := e2.nat (act (Reg.R1500_LEN k))
      let seq := fieldLE (payloadOf f.bytes) 2 2
      let good := crc32c (beBytes 4 (e2.nat (act (Reg.R1500_KEY k))) ++ (payloadOf f.bytes).take (6 + len)) =
        fieldLE (payloadOf f.bytes) (6 + len) 4
      let gap := (seq + 65536 - e2.nat (Reg.R1500_LAST_SEQ k)) % 65536
      (good → 1 ≤ gap → gap ≤ 4 → Does (.safetyFrame f) s fun _ a =>
        a.nat (Reg.R1500_STATE k) = 1 ∧ a.nat (Reg.R1500_LAST_SEQ k) = seq ∧
        a.bytes (Reg.R1500_DATA k) = ((payloadOf f.bytes).drop 6).take len) ∧
      (¬good → Does (.safetyFrame f) s fun _ a =>
        a.nat (Reg.R1500_CRC_ERRORS k) = min (e2.nat (Reg.R1500_CRC_ERRORS k) + 1) 0xFFFFFFFF ∧
        a.bytes (Reg.R1500_DATA k) = e2.bytes (Reg.R1500_DATA k) ∧ a.LastRaised Code.SAFE_CRC_ERROR Kind.conn k) ∧
      (good → gap = 0 → (∀ r, (e2.conn k).rejected = some r → seq ≠ (r + 1) % 65536) → Does (.safetyFrame f) s fun _ a =>
        a.nat (Reg.R1500_SEQ_ERRORS k) = min (e2.nat (Reg.R1500_SEQ_ERRORS k) + 1) 0xFFFFFFFF ∧
        a.bytes (Reg.R1500_DATA k) = e2.bytes (Reg.R1500_DATA k)) ∧
      (good → 4 < gap → (∀ r, (e2.conn k).rejected = some r → seq ≠ (r + 1) % 65536) → Does (.safetyFrame f) s fun _ a =>
        a.nat (Reg.R1500_STATE k) = (if e2.nat (Reg.R1500_STATE k) = 2 then 2 else 3) ∧
        a.bytes (Reg.R1500_DATA k) = e2.bytes (Reg.R1500_DATA k) ∧
        a.LastRaised Code.SAFE_SEQ_ERROR Kind.conn k)) ∧
    (∀ k < 128,
      let past := d.nat (act (Reg.R1500_CONN k)) ≠ 0xFFFF ∧ d.nat (act (Reg.R1500_DIR k)) = 0 ∧ d.nat (Reg.R1500_STATE k) ≠ 2 ∧
        (d.conn k).at_ + d.nat (act (Reg.R1500_WD_US k)) * 1000 ≤ d.rawNow
      (past → Does (.safeConnTimeout k) s fun b a =>
        a.nat (Reg.R1500_STATE k) = 2 ∧ a.bytes (Reg.R1500_DATA k) = List.replicate (b.nat (act (Reg.R1500_LEN k))) 0 ∧
        a.nat (Reg.R1500_TIMEOUTS k) = min (b.nat (Reg.R1500_TIMEOUTS k) + 1) 0xFFFFFFFF) ∧
      (¬past → Does (.safeConnTimeout k) s fun b a => b.Keeps a [])) ∧
    (∀ txn t, d.link.asked.find? (fun a => a.1 = txn) = some (txn, t) →
      (t + d.nat Reg.R1450_TIMEOUT_MS * 1000000 ≤ d.rawNow → Does (.acycTimeout txn) s fun b a =>
        (∀ y ∈ a.link.asked, y.1 ≠ txn) ∧ a.LastRaised Code.ACYC_TIMEOUT Kind.other 0 ∧
        a.nat Reg.R1450_TIMEOUTS = min (b.nat Reg.R1450_TIMEOUTS + 1) 0xFFFFFFFF) ∧
      (d.rawNow < t + d.nat Reg.R1450_TIMEOUT_MS * 1000000 → Does (.acycTimeout txn) s fun b a => b.Keeps a []))

/-- LISTEN_TIMEOUT, COLDSTART_FRAME, COLDSTART_LEAD, INTEGRATION_COMPLETE, INTEGRATION_TIMEOUT, SYNC_FRAME, SYNC_CORRECTION, NET_CONTROL (R318 to R320, R323, R325, R339). -/
def Obligations.ClusterTime : Prop :=
  ∀ (s : State), s.Live → s.ClockOk →
    let d := s.found
    let L := d.node Reg.R1400_LISTEN_BASE_US * 1000 + d.node Reg.R1400_RANK * 4000 + d.node Reg.R1400_NODE_ID * 20
    let cold := d.net = NetState.listen ∧ d.node Reg.R1400_ROLE = 1 ∧ d.node Reg.R1400_NODE_ID ≠ 0 ∧ d.link.bypass = false ∧
      d.link.listenAt + L ≤ d.rawNow
    let leads := d.net = NetState.coldstart ∧ d.node Reg.R1400_COLDSTART_CYCLES ≤ d.link.csSent ∧
      d.node Reg.R1400_COLDSTART_CYCLES ≤ d.cycle
    let done := d.net = NetState.integrating ∧ d.node Reg.R1400_INTEG_CYCLES ≤ d.link.integ ∧ d.link.sawSync = true
    let lost := d.net = NetState.integrating ∧ d.link.adoptAt + 1000000 ≤ d.rawNow
    let listens := fun (a : Dev) => a.net = NetState.listen ∧ a.flag Reg.R1140_NT_VALID = false ∧ a.link.listenAt = a.rawNow ∧
      a.reg (act Reg.R1400_NODE_ID) = (odType (act Reg.R1400_NODE_ID)).wrap (d.reg Reg.R1400_NODE_ID)
    let free := d.reg Reg.R1400_ROLE = 0 ∨ d.reg Reg.R1400_ROLE = 1
    (cold → Does .listenTimeout s fun b a =>
      a.net = NetState.coldstart ∧ a.clk.tick = 0 ∧ a.clk.cycle64 % 2 ^ 32 = 0 ∧ a.clk.raw = b.rawNow ∧ a.link.csSent = 1 ∧
      (d.link.silent = false → d.state ≠ DevState.failed →
        a.out.map (fun y => y.port) = (List.range 4).filter fun p => b.nat (Reg.R1410_LINK_STATE p) == 1)) ∧
    (¬cold → Does .listenTimeout s fun b a => b.Keeps a []) ∧
    (leads → Does .coldstartLead s fun b a =>
      a.net = NetState.inSync ∧ a.flag Reg.R1140_NT_VALID = true ∧ a.link.sendFrom = some b.clk.cycle64) ∧
    (¬leads → Does .coldstartLead s fun b a => b.Keeps a []) ∧
    (done → Does .integrationComplete s fun b a =>
      a.net = NetState.inSync ∧ a.flag Reg.R1140_NT_VALID = true ∧ a.link.sendFrom = some (b.clk.cycle64 + 1)) ∧
    (¬done → Does .integrationComplete s fun b a => b.Keeps a []) ∧
    (lost → free → Does .integrationTimeout s fun _ a => listens a) ∧
    (¬lost → Does .integrationTimeout s fun b a => b.Keeps a []) ∧
    (∀ f h, d.ingress f = (some h, d) → f.port < 4 → f.fcs = true → d.net = NetState.listen → d.node Reg.R1400_ROLE = 0 →
      (h.kind = FrameKind.coldstart → Does (.coldstartFrame f) s fun _ a =>
        a.net = NetState.integrating ∧ a.clk.tick = h.round % 8 ∧ a.clk.cycle64 % 2 ^ 32 = h.cycle % 2 ^ 32 ∧
        a.nat Reg.R1400_LEADER_ID = h.source % 2 ^ 16 ∧ a.link.integ = 0) ∧
      (fieldLE (payloadOf f.bytes) 0 1 = 0 → Does (.syncFrame f) s fun _ a =>
        a.net = NetState.integrating ∧ a.clk.tick = h.round % 8 ∧ a.clk.cycle64 % 2 ^ 32 = h.cycle % 2 ^ 32 ∧
        a.nat Reg.R1400_LEADER_ID = h.source % 2 ^ 16 ∧ a.link.integ = 0)) ∧
    (∀ f h e x, d.ingress f = (some h, d) → f.port < 4 → f.fcs = true → d.inSync = true → d.node Reg.R1400_ROLE ≠ 2 →
      fieldLE (payloadOf f.bytes) 0 1 = 0 → d.entriesFor f.port h = [(e, x)] →
      (d.ntAt f.raw + (d.bypassWait f.port x : Int) * 2 ^ 40 - d.expectedAt h x.offset).natAbs ≤
        d.node Reg.R1400_PRECISION_NS * 2 ^ 40 →
      Does (.syncFrame f) s fun b a =>
        a.link.devs = if h.round = 0 then b.link.devs ++ [b.deviation f h] else b.link.devs) ∧
    (d.inSync = false → Does .syncCorrection s fun b a => b.Keeps a [.ph]) ∧
    (∀ δ, d.inSync = true → d.link.devs = [δ] → d.node Reg.R1400_SYNC_NODE = 0 → ratAbs δ ≤ d.node Reg.R1400_CORR_LIMIT_NS →
      Does .syncCorrection s fun b a =>
        a.link.corr = some (-δ) ∧ a.link.devs = [] ∧ a.link.noSync = 0 ∧ a.net = b.net ∧ a.nat Reg.R1430_SYNC_RX = 1 ∧
        a.log = b.log) ∧
    (∀ x y z, d.inSync = true → d.link.devs = [x, y, z] → x ≤ y → y ≤ z → d.node Reg.R1400_SYNC_NODE = 1 → 0 ≤ x →
      ratAbs ((x + y) / 2) ≤ d.node Reg.R1400_CORR_LIMIT_NS → Does .syncCorrection s fun _ a =>
        a.link.corr = some (-((x + y) / 2)) ∧ a.nat Reg.R1430_SYNC_RX = 4) ∧
    (∀ δ, d.inSync = true → d.active = false → d.state ≠ DevState.run → d.link.devs = [δ] → d.node Reg.R1400_SYNC_NODE = 0 →
      d.node Reg.R1400_CORR_LIMIT_NS < ratAbs δ → Does .syncCorrection s fun b a =>
        a.net = NetState.integrating ∧ a.flag Reg.R1140_NT_VALID = false ∧ a.LastRaised Code.SYNC_LOST Kind.device 0 ∧
        a.nat Reg.R1430_SYNC_LOSSES = min (b.nat Reg.R1430_SYNC_LOSSES + 1) 0xFFFFFFFF) ∧
    (DevState.config ≤ d.state →
      (free → d.inSync = false → Does (.netControl 1) s fun _ a => listens a ∧ a.done = Code.STATUS_OK) ∧
      ∀ v, v ≠ 1 → Does (.netControl v) s fun b a => a.done = Code.OD_RANGE ∧ b.Keeps a [.done])

/-! ## Wall time, PTP, scheduled actions -/

/-- WALL_RATE, WALL_STEP_NS, WALL_SET (R346, R349, R350). -/
def Obligations.WallClock : Prop :=
  ∀ (s : State) (rate : Nat) (ns time : Int), s.Up →
    let d := s.found
    let next := d.rawNow + 1
    let stepped := fun (b a : Dev) =>
      a.done = Code.STATUS_OK ∧ a.nat Reg.R1140_WALL_STATE = 2 ∧
      a.nat Reg.R1140_STEPS = min (b.nat Reg.R1140_STEPS + 1) 0xFFFFFFFF ∧ a.nat Reg.R1150_LAST_CODE = Code.WALL_STEPPED ∧
      a.LastRaised Code.WALL_STEPPED Kind.device 0 ∧
      b.KeepsRegs a ([Reg.R1140_WALL_STATE, Reg.R1140_STEPS, Reg.R1150_LAST_CODE] ++ logRegs) ∧
      b.Keeps a ([.wall, .done] ++ logParts)
    (d.wallOwned = false →
      (0x00FFBE76C8B4 ≤ rate → rate ≤ 0x01004189374C → Does (.wallRate rate) s fun b a =>
        a.done = Code.STATUS_OK ∧ a.wall.rate = rate ∧ a.wtAt next = b.wtAt next ∧
        (∀ k, a.wtAt (next + k) = b.wtAt next + k * rate) ∧ a.nat Reg.R1140_WALL_RATE = rate ∧
        b.KeepsRegs a [Reg.R1140_WALL_RATE] ∧ b.Keeps a [.wall, .od, .done]) ∧
      (rate < 0x00FFBE76C8B4 ∨ 0x01004189374C < rate → Does (.wallRate rate) s fun b a =>
        a.done = Code.OD_RANGE ∧ b.Keeps a [.done]) ∧
      Does (.wallStepNs ns) s (fun b a => stepped b a ∧ ∀ k, a.wtAt k = b.wtAt k + ns * 2 ^ 40) ∧
      (timeOk time = true → Does (.wallSet time) s fun b a =>
        stepped b a ∧ a.wtAt next = time40Of time ∧ a.wall.rate = b.wall.rate) ∧
      (timeOk time = false → Does (.wallSet time) s fun b a => a.done = Code.OD_TYPE ∧ b.Keeps a [.done])) ∧
    (d.wallOwned = true → ∀ i, i ∈ [Instr.wallRate rate, .wallStepNs ns, .wallSet time] → Does i s fun b a =>
      a.done = Code.WALL_OWNED ∧ a.LastRaised Code.WALL_OWNED Kind.device 0 ∧
      b.KeepsRegs a (Reg.R1150_LAST_CODE :: logRegs) ∧ b.Keeps a (.done :: logParts))

/-- TIME_SNAPSHOT, PTP_MODE and the PTP messages (R350, R352 to R355, R364). The states of ports and the qualification of a master are presumed from IEEE 1588. -/
def Obligations.PtpMessages : Prop :=
  ∀ (s : State) (p raw : Nat) (m : Bytes), s.Live → p < 2 →
    let d := s.found
    let port := d.ptpPort p
    let counts := fun (k : Nat) => (k + 1) % 65536
    let sent := fun (a : Dev) (type seq : Nat) (P : Bytes → Prop) =>
      ∃ y r, a.out = [y] ∧ y.port = 7 + p ∧ y.fcs = true ∧ y.bytes = d.ptpFrame p r ∧ ptpType r = type ∧ ptpSeq r = seq ∧ P r
    let mine := fun (type : Nat) => d.ptpTakes p m = true ∧ ptpType m = type
    (s.Up → Does .timeSnapshot s fun b a =>
      a.reg Reg.R1140_SNAP_RAW = (odType Reg.R1140_SNAP_RAW).wrap b.rawNow ∧
      a.reg Reg.R1140_SNAP_NT = (odType Reg.R1140_SNAP_NT).wrap (time40 (b.ntAt b.rawNow)) ∧
      a.reg Reg.R1140_SNAP_WT = (odType Reg.R1140_SNAP_WT).wrap (time40 (b.wtAt b.rawNow)) ∧
      b.KeepsRegs a [Reg.R1140_SNAP_RAW, Reg.R1140_SNAP_NT, Reg.R1140_SNAP_WT] ∧ b.Keeps a [.od, .done]) ∧
    (s.Up → ∀ mode, mode ≤ 2 → Does (.ptpMode mode) s fun b a =>
      a.done = Code.STATUS_OK ∧ a.nat Reg.R1180_PTP_MODE = mode ∧ a.nat (act Reg.R1180_PTP_MODE) = mode ∧
      a.reg (act Reg.R1180_DOMAIN_NUMBER) = (odType (act Reg.R1180_DOMAIN_NUMBER)).wrap (b.reg Reg.R1180_DOMAIN_NUMBER) ∧
      (∀ q < 2, a.portState q = if a.ptpOn q = true then PortState.listening else 0) ∧
      (∀ q < 2, (a.ptpPort q).best = none ∧ (a.ptpPort q).pdAsk = none)) ∧
    (s.Up → ∀ mode, 2 < mode → Does (.ptpMode mode) s fun b a => a.done = Code.OD_RANGE ∧ b.Keeps a [.done]) ∧
    (d.ptpOn p = false → ∀ i, i ∈ [Instr.ptpSync p raw m, .ptpFollowUp p m, .ptpPdelayReq p raw m raw, .ptpPdelayResp p raw m,
        .ptpPdelayRespFollowUp p m, .ptpAnnounce p m, .ptpDelayReq p, .ptpSyncTransmit p raw, .ptpPdelayReqTransmit p raw,
        .ptpAnnounceTransmit p, .announceReceiptTimeout p] → Does i s fun b a => b.Keeps a [] ∧ a.out = []) ∧
    (d.ptpOn p = true → Does (.ptpDelayReq p) s fun b a =>
      a.nat (Reg.R1190_DROPPED p) = min (b.nat (Reg.R1190_DROPPED p) + 1) 0xFFFFFFFF ∧
      b.KeepsRegs a [Reg.R1190_DROPPED p] ∧ b.Keeps a [.od]) ∧
    (∀ tx, mine 2 → Does (.ptpPdelayReq p raw m tx) s fun b a =>
      sent a 3 (ptpSeq m) (fun r => fieldBE r 44 10 = ptpSource m) ∧ b.Keeps a []) ∧
    (∀ t1, mine 3 → port.pdAsk = some (ptpSeq m, t1) →
      ((fieldBE m 6 1).testBit 1 = false → Does (.ptpPdelayResp p raw m) s fun b a =>
        (a.ptpPort p).delay = divConv (b.ptpRx p raw - t1 - ptpCorr m - b.ptpAsym p) 2 ∧ (a.ptpPort p).pdAsk = none) ∧
      ((fieldBE m 6 1).testBit 1 = true → Does (.ptpPdelayResp p raw m) s fun b a =>
        (a.ptpPort p).pdWait = some (ptpSeq m, b.ptpRx p raw - t1, ptpStamp m 34, ptpCorr m + b.ptpAsym p) ∧ b.Keeps a [.ptp])) ∧
    (∀ x t2 corr, mine 10 → port.pdWait = some (ptpSeq m, x, t2, corr) → Does (.ptpPdelayRespFollowUp p m) s fun _ a =>
      (a.ptpPort p).delay = divConv (x - (ptpStamp m 34 - t2) - corr - ptpCorr m) 2 ∧ (a.ptpPort p).pdWait = none) ∧
    (mine 0 → d.ptpFollows p m = true → (fieldBE m 6 1).testBit 1 = true → Does (.ptpSync p raw m) s fun b a =>
      (a.ptpPort p).syncs = some (ptpSeq m, b.ptpRx p raw, ptpCorr m + b.ptpAsym p) ∧ b.Keeps a [.ptp]) ∧
    (let offset := d.ptpRx p raw - ptpStamp m 34 - (ptpCorr m + d.ptpAsym p) - port.delay
     let far := (d.nat (act Reg.R1180_STEP_LIMIT_NS) : Int) < (offset.fdiv (2 ^ 40)).natAbs
     mine 0 → d.ptpFollows p m = true → (fieldBE m 6 1).testBit 1 = false → Does (.ptpSync p raw m) s fun b a =>
      a.portState p = PortState.slave ∧ a.nat Reg.R1140_WALL_STATE = 2 ∧
      (far → (∀ k, a.wtAt k = b.wtAt k - offset) ∧ a.nat Reg.R1140_STEPS = min (b.nat Reg.R1140_STEPS + 1) 0xFFFFFFFF) ∧
      (¬far → a.wtAt (b.rawNow + 1) = b.wtAt (b.rawNow + 1) ∧ a.nat Reg.R1140_STEPS = b.nat Reg.R1140_STEPS ∧
        2 ^ 40 - 549755814 ≤ a.wall.rate ∧ a.wall.rate ≤ 2 ^ 40 + 549755814)) ∧
    (∀ t2 corr, mine 8 → d.ptpFollows p m = true → port.syncs = some (ptpSeq m, t2, corr) → Does (.ptpFollowUp p m) s fun _ a =>
      a.portState p = PortState.slave ∧ a.nat Reg.R1140_WALL_STATE = 2 ∧ (a.ptpPort p).syncs = none) ∧
    (mine 11 → ptpSource m / 65536 ≠ Config.clockIdentity 0 → port.best = none → port.heard ≠ some (ptpSource m) →
      Does (.ptpAnnounce p m) s fun b a => (a.ptpPort p).heard = some (ptpSource m) ∧ (a.ptpPort p).best = none ∧ b.Keeps a [.ptp]) ∧
    (mine 11 → ptpSource m / 65536 ≠ Config.clockIdentity 0 → port.best = none → port.heard = some (ptpSource m) →
      (d.ptpPort (1 - p)).best = none → d.flag (act Reg.R1180_SLAVE_ONLY) = true → Does (.ptpAnnounce p m) s fun _ a =>
        (a.ptpPort p).best = some m ∧ a.portState p = PortState.uncalibrated ∧ a.wallOwned = true) ∧
    (d.ptpOn p = true → (d.ptpPort (1 - p)).best = none → d.flag (act Reg.R1180_SLAVE_ONLY) = true →
      Does (.announceReceiptTimeout p) s fun _ a => (a.ptpPort p).best = none ∧ a.portState p = PortState.listening) ∧
    (d.ptpOn p = true → d.portState p = PortState.master →
      Does (.ptpSyncTransmit p raw) s (fun b a => sent a 0 (port.syncSeq % 65536) (fun r => slice r 34 10 = ptpTime (b.ptpTx p raw)) ∧ (a.ptpPort p).syncSeq = counts port.syncSeq) ∧
      Does (.ptpAnnounceTransmit p) s (fun _ a => sent a 11 (port.annSeq % 65536) (fun _ => True) ∧ (a.ptpPort p).annSeq = counts port.annSeq)) ∧
    (d.ptpOn p = true → Does (.ptpPdelayReqTransmit p raw) s fun b a =>
      sent a 2 (port.pdSeq % 65536) (fun _ => True) ∧ (a.ptpPort p).pdSeq = counts port.pdSeq ∧ b.Keeps a [.ptp] ∧
      (a.ptpPort p).pdAsk = some (port.pdSeq, b.ptpTx p raw))

/-- ARM, DISARM, ACTION_TAKEN, SET_DO, CLEAR_DO, ARM_LATCH, RAISE_IRQ, WRITE_OD, COMMIT_ACTION (R357 to R360). -/
def Obligations.ScheduledActions : Prop :=
  ∀ (s : State) (e : Nat), s.Up → e < 256 →
    let d := s.found
    let st := fun (a : Dev) => a.actNat e ActField.state
    let passed := d.inTime (d.actInstant e) = false
    let due := fun (kind o : Nat) => d.actDue e kind = some o ∧ (d.actRun e).late = none ∧ d.actNat e ActField.period = 0
    let ended := fun (b a : Dev) => st a = ActState.ended ∧ a.nat (actKey e ActField.status) = Code.STATUS_OK ∧
      a.nat (actKey e ActField.count) = min (b.nat (actKey e ActField.count) + 1) 0xFFFFFFFF ∧ a.actRun e = {}
    (d.armValid e = false → Does (.arm e) s fun b a =>
      a.done = Code.ACTION_INVALID ∧ a.LastRaised Code.ACTION_INVALID Kind.action e ∧
      b.KeepsRegs a (Reg.R1150_LAST_CODE :: logRegs) ∧ a.acts = b.acts) ∧
    (d.armValid e = true →
      (¬passed → Does (.arm e) s fun b a =>
        a.done = Code.STATUS_OK ∧ st a = ActState.armed ∧ a.nat (actKey e ActField.status) = Code.STATUS_OK ∧
        a.nat (actKey e ActField.count) = 0 ∧ a.actRun e = {} ∧ (∀ f, f ≠ e → a.actRun f = b.actRun f) ∧
        b.KeepsRegs a [actKey e ActField.state, actKey e ActField.status, actKey e ActField.count] ∧
        b.Keeps a [.od, .acts, .done]) ∧
      (passed → d.actNat e ActField.policy = 1 → Does (.arm e) s fun b a =>
        a.done = Code.STATUS_OK ∧ st a = ActState.armed ∧ a.actRun e = { late := some b.lateTick } ∧ a.log = b.log) ∧
      (passed → d.actNat e ActField.policy ≠ 1 → Does (.arm e) s fun b a =>
        a.done = Code.LATE ∧ st a = ActState.lateRejected ∧ a.nat (actKey e ActField.status) = Code.LATE ∧
        a.LastRaised Code.LATE Kind.action e ∧
        a.nat Reg.R1150_LATE_COUNT = min (b.nat Reg.R1150_LATE_COUNT + 1) 0xFFFFFFFF)) ∧
    (st d = ActState.armed → (d.actRun e).taken = false → Does (.disarm e) s fun b a =>
      a.done = Code.STATUS_OK ∧ st a = ActState.disarmed ∧ b.KeepsRegs a [actKey e ActField.state] ∧ b.Keeps a [.od, .acts, .done]) ∧
    (st d = ActState.armed → (d.actRun e).taken = true → Does (.disarm e) s fun b a =>
      a.done = Code.ACTION_INVALID ∧ st a = ActState.armed ∧ a.acts = b.acts) ∧
    (st d ≠ ActState.armed → Does (.disarm e) s fun b a => a.done = Code.STATUS_OK ∧ b.Keeps a [.done]) ∧
    (let o := d.actOffset e - 1000
     (st d = ActState.armed → d.actsNow = true → -1000 < o → o < 31250 → Does (.actionTaken e) s fun b a =>
        a.actRun e = { b.actRun e with taken := true } ∧ (∀ f, f ≠ e → a.actRun f = b.actRun f) ∧ b.Keeps a [.ph, .acts]) ∧
     (st d ≠ ActState.armed ∨ d.actsNow = false → Does (.actionTaken e) s fun b a => b.Keeps a [])) ∧
    (∀ kind i, (kind, i) ∈ [(1, Instr.setDo e), (2, .clearDo e), (3, .armLatch e), (4, .raiseIrq e), (5, .writeOd e), (6, .commitAction e)] →
      d.actDue e kind = none → s.ClockOk → Does i s fun b a => b.Keeps a []) ∧
    (∀ kind i on o, (kind, i, on) ∈ [(1, Instr.setDo e, true), (2, .clearDo e, false)] → due kind o →
      d.actNat e ActField.target < 16 → Does i s fun b a =>
        ended b a ∧ a.io.doPins = withBit b.io.doPins (b.actNat e ActField.target) on ∧ a.log = b.log) ∧
    (∀ o, due 3 o → (d.actNat e ActField.value = 1 ∨ d.actNat e ActField.value = 2) → d.actNat e ActField.target < 128 →
      Does (.armLatch e) s fun b a =>
        let n := b.actNat e ActField.target
        ended b a ∧ a.nat (Reg.AX11_LATCH_ARM n) = b.actNat e ActField.value ∧
        a.reg (Reg.AX11_LATCH_INPUT n) = (odType (Reg.AX11_LATCH_INPUT n)).wrap (b.actNat e ActField.sub) ∧ a.log = b.log) ∧
    (∀ o, due 4 o →
      (48 + d.actNat e ActField.target ∉ d.plic → Does (.raiseIrq e) s fun b a =>
        ended b a ∧ a.plic = b.plic ++ [48 + b.actNat e ActField.target] ∧ a.log = b.log) ∧
      (48 + d.actNat e ActField.target ∈ d.plic → Does (.raiseIrq e) s fun b a =>
        ended b a ∧ a.plic = b.plic ∧
        a.nat (actKey e ActField.missed) = min (b.nat (actKey e ActField.missed) + 1) 0xFFFFFFFF)) ∧
    (∀ o, due 5 o → Does (.writeOd e) s fun b a =>
      let x := ((b.at o).actBook e).finish Code.STATUS_OK
      let ix := b.actNat e ActField.target
      let sub := b.actNat e ActField.sub
      let y := x.odWrite ⟨4, e⟩ ix sub (leBytes (typeAt ix sub).size (b.actNat e ActField.value))
      (y.done = Code.STATUS_OK → a.od = y.od ∧ a.dom = y.dom ∧ a.done = Code.STATUS_OK) ∧
      (y.done ≠ Code.STATUS_OK → a.reg (actKey e ActField.status) = (odType (actKey e ActField.status)).wrap y.done ∧
        a.LastRaised Code.ACTION_FAILED Kind.action e)) ∧
    (∀ o t, due 6 o → tableOf (d.actNat e ActField.target) (d.actNat e ActField.sub) = some t →
      Does (.commitAction e) s fun b a =>
        let x := ((b.at o).actBook e).finish Code.STATUS_OK
        a.pend = (x.commitRequest t (b.actNat e ActField.value % 2 ^ 32)).pend)

/-! ## Safety -/

/-- SAFE_INPUT_QUALIFIED, SI_DISCREPANCY, TEST_SLOT, PULSE_END, ON_CHECK_TIMEOUT, SO_READBACK_FAULT, ACK, DEMAND_EXCHANGE, CHANNEL_LOST (R366, R367, R370 to R378, R380, R391). -/
def Obligations.SafeInputsAndOutputs : Prop :=
  ∀ (s : State) (i k n raw ch : Nat), s.Live → i < 16 → k < 8 → n < 128 → ch < 2 →
    let d := s.found
    let f := i / 2
    let x := d.safeFn f
    let stops := d.fnKind f = FnKind.estop ∨ d.fnKind f = FnKind.guard
    let r := d.nat (act (Reg.R5010_REACTION f))
    let o := d.safeOut k
    let faulted := fun (a : Dev) (code : Nat) =>
      a.outState k = OutState.fault ∧ (a.safeOut k).swA = false ∧ (a.safeOut k).swB = false ∧
      a.nat (Reg.R5020_LAST_FAULT k) = code
    (d.bankDead 3 = true → Does (.safeInputQualified i true raw) s fun b a => b.Keeps a []) ∧
    (stops → d.nat (act (Reg.R5010_MODE f)) ≠ 1 → x.demand = false → x.disc = false →
      Does (.safeInputQualified i false raw) s fun _ a =>
        (a.safeFn f).demand = true ∧ (a.safeFn f).levels.testBit (i % 2) = false ∧
        ∀ m < 128, d.fnScope f m = true → (⟨Code.SAFE_INPUT_DEMAND, f, r⟩ : StopLatch) ∈ (a.axSafe m).latches) ∧
    (stops → d.bankDead 3 = false → d.nat (act (Reg.R5010_MODE f)) ≠ 1 → x.demand = true → x.disc = false →
      x.levels.testBit (1 - i % 2) = true → d.nat (act (Reg.R5010_RESET_MODE f)) = 0 →
      Does (.safeInputQualified i true raw) s fun _ a =>
        (a.safeFn f).demand = false ∧ ∀ m < 128, ∀ l ∈ (a.axSafe m).latches, l.fn ≠ f) ∧
    (let past := ∃ t, (d.safeFn k).soleAt = some t ∧ t + d.nat (act (Reg.R5010_DISCREPANCY_MS k)) * 1000000 ≤ d.rawNow ∧
       d.fnKind k ≠ 0 ∧ d.showsDemand k 0 ≠ d.showsDemand k 1
     (past → Does (.siDiscrepancy k) s fun b a =>
       a.fnDemand k = true ∧ a.nat (Reg.R5010_STATE k) = 2 ∧ a.LastRaised Code.SI_DISCREPANCY Kind.safeIn k ∧ a.axes = b.axes) ∧
     (¬past → Does (.siDiscrepancy k) s fun b a => b.Keeps a [])) ∧
    (let slot := d.clk.tick = 0 ∧ d.clk.cycle64 % 80 = 10 * k ∧ d.outState k = OutState.on
     (slot → Does (.testSlot k) s fun b a =>
       a.outState k = OutState.pulse ∧ (a.safeOut k).swA = !(a.safeOut k).swB ∧ (a.safeOut k).testsB = (a.safeOut k).swA ∧
       (a.safeOut k).pulseEnd = some (b.clk.raw + 300000) ∧ (∀ j, j ≠ k → a.safeOut j = b.safeOut j) ∧ b.Keeps a [.od, .safe]) ∧
     (¬slot → Does (.testSlot k) s fun b a => b.Keeps a [])) ∧
    (∀ low, (∀ t, o.pulseEnd = some t → d.clk.raw + (if low = true then 31250 else 81250) ≤ t) →
      Does (.pulseEnd k low) s fun b a => b.Keeps a []) ∧
    (∀ t, o.pulseEnd = some t → t < d.clk.raw + 81250 → Does (.pulseEnd k false) s fun _ a => faulted a Code.SO_TEST_FAIL) ∧
    (∀ t, o.pulseEnd = some t → t < d.clk.raw + 31250 → d.outState k ≠ OutState.pulse → Does (.pulseEnd k true) s fun b a =>
      (a.safeOut k).pulseEnd = none ∧ a.nat (Reg.R5020_TESTS k) = min (b.nat (Reg.R5020_TESTS k) + 1) 0xFFFFFFFF ∧
      a.log = b.log) ∧
    (∀ t, o.pulseEnd = some t → t < d.clk.raw + 31250 → d.outState k = OutState.pulse → Does (.pulseEnd k true) s fun b a =>
      a.outState k = OutState.on ∧ (a.safeOut k).swA = true ∧ (a.safeOut k).swB = true ∧ (a.safeOut k).pulseEnd = none ∧
      a.nat (Reg.R5020_TESTS k) = min (b.nat (Reg.R5020_TESTS k) + 1) 0xFFFFFFFF ∧ a.log = b.log) ∧
    (∀ t, o.highBy = some t → d.outState k = OutState.on → t ≤ d.rawNow →
      Does (.onCheckTimeout k) s fun _ a => faulted a Code.SO_TEST_FAIL) ∧
    ((∀ t, o.highBy = some t → d.rawNow < t) ∨ d.outState k ≠ OutState.on →
      Does (.onCheckTimeout k) s fun b a => b.Keeps a []) ∧
    (d.outKind k ≠ 0 → (d.paired = false ∨ d.active = true) → (d.outState k = OutState.on ∨ (d.outState k = OutState.off ∧ o.pulseEnd = none)) →
      Does (.soReadbackFault k) s fun _ a => faulted a Code.SO_READBACK_FAULT) ∧
    (d.outKind k = 0 ∨ (d.paired = true ∧ d.active = false) ∨ d.outState k = OutState.fault ∨ d.outState k = OutState.pulse →
      Does (.soReadbackFault k) s fun b a => b.Keeps a []) ∧
    (s.Up →
      (d.outState k = OutState.fault → Does (.ack k false) s fun b a =>
        a.done = Code.STATUS_OK ∧ a.outState k = OutState.off ∧ b.KeepsRegs a [Reg.R5020_STATE k] ∧ b.Keeps a [.od, .done]) ∧
      (d.outState k = OutState.fault → Does (.ack k true) s fun b a => a.done = Code.OD_STATE ∧ b.Keeps a [.done]) ∧
      ∀ high, d.outState k ≠ OutState.fault → Does (.ack k high) s fun b a => a.done = Code.STATUS_OK ∧ b.Keeps a [.done]) ∧
    (∀ axes outs, Does (.demandExchange axes outs) s fun _ a =>
      (∀ m < 128, a.flag (Reg.R5080_PERMIT m) = a.permit m) ∧
      (a.state ≠ DevState.run → ∀ j < 8, a.outState j ≠ OutState.on ∧ a.outState j ≠ OutState.pulse ∧ a.permit n = false)) ∧
    (∀ v, v ≠ d.nat (Reg.R5080_SAFE_STATE n) → (d.axSafe n).disagree = 1 → Does (.demandExchange [(n, v)] []) s fun _ a =>
      (⟨Code.CHANNEL_DISAGREE, 8, Reaction.sto⟩ : StopLatch) ∈ (a.axSafe n).latches) ∧
    (d.paired = false → Does (.channelLost ch) s fun b a =>
      a.safe.lost = true ∧ (∀ m < 128, a.flag (Reg.R5080_PERMIT m) = false) ∧
      (∀ j < 8, (a.safeOut j).swA = false ∧ (a.safeOut j).swB = false ∧ a.outState j ≠ OutState.on) ∧
      (b.state = DevState.run → a.state = DevState.safe ∧ a.nat Reg.R1001_SAFE_CAUSE = Code.CHANNEL_LOST) ∧
      (b.state ≠ DevState.run → a.state = b.state))

/-- AXIS_MONITORING, SS_T_MAX_EXPIRY, SS2_TIMEOUT, SLS_ACTIVE (R381 to R388, R391). -/
def Obligations.MonitoredStops : Prop :=
  ∀ (s : State) (n : Nat), s.Live → n < 128 →
    let d := s.found
    let x := d.axSafe n
    let quiet := fun (m : Nat) => (d.axSafe m).stopKind = 0 ∧ (d.axSafe m).latches = [] ∧ d.slsBreach m = false
    let past := d.nat (act (Reg.R5080_SS_T_MAX_MS n)) * 1000000 ≤ d.rampNs n d.rawNow
    let holds := fun (a : Dev) (code r : Nat) => (⟨code, 8, r⟩ : StopLatch) ∈ (a.axSafe n).latches
    (d.enabledChains = [] → (∀ m < 128, quiet m) → Does .axisMonitoring s fun b a => b.Keeps a []) ∧
    (d.enabledChains = [] → (∀ m < 128, m ≠ n → quiet m) → x.latches = [] →
      (d.slsBreach n = true → x.stopKind = 0 → Does .axisMonitoring s fun _ a =>
        holds a Code.SLS_VIOLATION (d.nat (act (Reg.R5080_SLS_REACTION n)))) ∧
      (∀ p, d.slsBreach n = false → x.stopKind ≠ 0 → x.pRef = some p →
        (d.posLost n = true ∨ d.reg (act (Reg.R5080_SOS_WINDOW n)) < |d.measured n - p| → Does .axisMonitoring s fun _ a =>
          holds a Code.SOS_VIOLATION Reaction.sto) ∧
        (d.posLost n = false → |d.measured n - p| ≤ d.reg (act (Reg.R5080_SOS_WINDOW n)) →
          Does .axisMonitoring s fun b a => b.Keeps a []))) ∧
    (x.stopKind = Reaction.ss1 → past → x.chainStp = false → Does (.ssTMaxExpiry n) s fun b a =>
      a.axState n = AxState.fault ∧ a.nat (Reg.R5080_SAFE_STATE n) = 4 ∧ (a.axis n).loopsOff = true ∧ (a.axSafe n).stopKind = 0 ∧
      a.reg (Reg.AX1_FAULT_CODE n) = (odType (Reg.AX1_FAULT_CODE n)).wrap (b.axis n).cause) ∧
    (x.stopKind ≠ Reaction.ss1 ∨ ¬past → Does (.ssTMaxExpiry n) s fun b a => b.Keeps a []) ∧
    (x.stopKind = Reaction.ss2 → x.pRef = none → past → Does (.ss2Timeout n) s fun _ a =>
      holds a Code.SS2_TIMEOUT Reaction.sto) ∧
    (x.stopKind ≠ Reaction.ss2 ∨ x.pRef ≠ none ∨ ¬past → Does (.ss2Timeout n) s fun b a => b.Keeps a []) ∧
    (let due := ∃ t, x.slsSince = some t ∧ t + d.nat (act (Reg.R5080_SLS_DELAY_MS n)) * 1000000 ≤ d.rawNow
     (due → Does (.slsActive false n) s fun b a =>
       a.slsActive n = true ∧ b.KeepsRegs a [Reg.R5080_SLS_ACTIVE n] ∧ b.Keeps a [.od]) ∧
     (¬due → Does (.slsActive false n) s fun b a => b.Keeps a [])) ∧
    (n < 16 →
      let due := ∃ t, mget none d.safe.chainSls n = some t ∧ t + d.nat (act (Reg.R5040_SLS_DELAY_MS n)) * 1000000 ≤ d.rawNow
      (due → Does (.slsActive true n) s fun b a =>
        a.flag (Reg.R5040_SLS_ACTIVE n) = true ∧ b.KeepsRegs a [Reg.R5040_SLS_ACTIVE n] ∧ b.Keeps a [.od]) ∧
      (¬due → Does (.slsActive true n) s fun b a => b.Keeps a []))

/-- SESSION_OPEN, SESSION_CLOSE, SESSION_TIMEOUT, SESSION_LOCKOUT_END, PASSWORD_SET (R397, R398). -/
def Obligations.PasswordSessions : Prop :=
  ∀ (s : State) (r : Requester) (data : Bytes), s.Live →
    let d := s.found
    let user := fieldLE data 0 1
    let may := requesterSession r ≠ 0 ∧ (d.state = DevState.run ∨ d.state = DevState.safe ∨ d.state = DevState.config)
    let opens := fun (P : Dev → Dev → Prop) => d.Serves r 0x5000 → d.WriteOk r 0x5000 1 data → Does (.sessionOpen r data) s P
    let closes := fun (P : Dev → Dev → Prop) => d.Serves r 0x5000 → d.WriteOk r 0x5000 2 [0] → Does (.sessionClose r) s P
    let sets := fun (P : Dev → Dev → Prop) => d.Serves r 0x5001 → d.WriteOk r 0x5001 9 data → Does (.passwordSet r data) s P
    let denied := fun (b a : Dev) => a.done = Code.SESSION_DENIED ∧ a.safe.session = b.safe.session ∧
      a.LastRaised Code.SESSION_DENIED Kind.device 0
    (d.safe.lockEnd ≠ none → opens fun b a =>
      a.done = Code.SESSION_LOCKOUT ∧ a.safe = b.safe ∧ a.LastRaised Code.SESSION_LOCKOUT Kind.device 0) ∧
    (d.safe.lockEnd = none → (¬may ∨ d.safe.session ≠ none) → opens fun b a => denied b a) ∧
    (d.safe.lockEnd = none → may → d.safe.session = none →
      (d.passwordOk user (data.drop 1) = true → opens fun b a =>
        a.done = Code.STATUS_OK ∧ a.nat Reg.R5000_FAILED_OPENS = 0 ∧ a.nat Reg.R5000_SESSION_PATH = requesterSession r ∧
        (∃ x, a.safe.session = some x ∧ x.owner = r ∧ x.user = user ∧ x.last = b.rawNow ∧
          a.nat Reg.R5000_SESSION_STATE = if x.only then 2 else 1) ∧ b.Keeps a [.od, .safe, .done]) ∧
      (d.passwordOk user (data.drop 1) = false → opens fun b a =>
        denied b a ∧ a.nat Reg.R5000_FAILED_OPENS = min 65535 (b.nat Reg.R5000_FAILED_OPENS + 1) ∧
        (4 ≤ b.nat Reg.R5000_FAILED_OPENS → a.safe.lockEnd ≠ none ∧ a.nat Reg.R5000_SESSION_STATE = 3) ∧
        (b.nat Reg.R5000_FAILED_OPENS < 4 → a.safe = b.safe))) ∧
    (∀ x, d.safe.session = some x →
      (samePath x.owner r = true → closes fun _ a =>
        a.done = Code.STATUS_OK ∧ a.safe.session = none ∧ a.nat Reg.R5000_SESSION_PATH = 0) ∧
      (samePath x.owner r = false → closes fun b a => denied b a) ∧
      (x.last + d.nat Reg.R5000_SESSION_TIMEOUT_S * 1000000000 ≤ d.rawNow → Does .sessionTimeout s fun _ a =>
        a.safe.session = none ∧ a.nat Reg.R5000_SESSION_PATH = 0) ∧
      (d.rawNow < x.last + d.nat Reg.R5000_SESSION_TIMEOUT_S * 1000000000 → Does .sessionTimeout s fun b a => b.Keeps a []) ∧
      (samePath x.owner r = true → x.user = user → 1 ≤ user → user ≤ 8 → 8 ≤ (data.drop 1).length → (data.drop 1).length ≤ 32 →
        (x.only = true → user = 1) → sets fun _ a =>
          a.done = Code.STATUS_OK ∧ a.passwordOk user (data.drop 1) = true ∧
          (∀ j < 8, j + 1 ≠ user → a.bytes (Reg.R5001_USER_1 + j) = d.bytes (Reg.R5001_USER_1 + j)))) ∧
    (d.safe.session = none →
      closes (fun b a => denied b a) ∧ (sets fun b a => denied b a ∧ a.dom = b.dom) ∧
      Does .sessionTimeout s fun b a => b.Keeps a []) ∧
    (∀ t, d.safe.lockEnd = some t →
      (t ≤ d.rawNow → Does .sessionLockoutEnd s fun b a =>
        a.safe.lockEnd = none ∧ a.nat Reg.R5000_SESSION_STATE = (if b.safe.session = none then 0 else 1) ∧
        b.KeepsRegs a [Reg.R5000_SESSION_STATE] ∧ b.Keeps a [.od, .safe]) ∧
      (d.rawNow < t → Does .sessionLockoutEnd s fun b a => b.Keeps a [])) ∧
    (d.safe.lockEnd = none → Does .sessionLockoutEnd s fun b a => b.Keeps a [])

/-! ## Redundant pairs -/

/-- PARTNER_LISTEN_END, DUPLEX_SECONDARY_TIMEOUT, SHADOW_CHECK, LOCKSTEP_MISMATCH, FAIL_RECORD, SILENCE_EVALUATION, OWL_DECISION, OWL_LOST, TAKEOVER_RELEASE (R411, R414, R417, R418, R423 to R425). -/
def Obligations.PairRoles : Prop :=
  ∀ (s : State), s.Live →
    let d := s.found
    let epoch := nextEpoch d.knownEpoch
    let holds := fun (a : Dev) => a.reg Reg.R5801_STORED_EPOCH = (odType Reg.R5801_STORED_EPOCH).wrap epoch ∧
      a.reg Reg.R5801_HOLDER = (odType Reg.R5801_HOLDER).wrap (d.node Reg.R1400_NODE_ID)
    let activeNow := fun (a : Dev) => a.nat Reg.R5801_ROLE = PairRole.active ∧ a.state = DevState.run ∧ holds a
    let sleeps := fun (a : Dev) => a.nat Reg.R5801_ROLE = PairRole.standby ∧ a.state = DevState.hibernate
    let failed := fun (a : Dev) => a.state = DevState.failed ∧ a.nat Reg.R5801_ROLE = 4 ∧ a.link.silent = true ∧
      (∀ n < 128, a.flag (Reg.R5080_PERMIT n) = false) ∧ ∀ k < 8, (a.safeOut k).swA = false ∧ (a.safeOut k).swB = false
    let takesOver := fun (b a : Dev) => activeNow a ∧ a.pair.takeover = some b.tickAbs ∧
      a.nat Reg.R5801_TAKEOVERS = min (b.nat Reg.R5801_TAKEOVERS + 1) 0xFFFFFFFF ∧ a.LastRaised Code.TAKEOVER Kind.device 0
    let reports := fun (b a : Dev) => a.state = b.state ∧ a.pair.lostTold = true ∧
      (b.pair.lostTold = false → a.LastRaised Code.PARTNER_LOST Kind.device 0) ∧ a.nat Reg.R5801_ROLE = b.nat Reg.R5801_ROLE
    let waits := d.paired = true ∧ d.inSync = true ∧ d.state = DevState.syncing
    (∀ t, d.pair.listenAt = some t →
      (waits → t + 32 ≤ d.tickAbs → d.hearsActive = true → Does .partnerListenEnd s fun _ a => sleeps a) ∧
      (waits → t + 32 ≤ d.tickAbs → d.hearsActive = false → d.pairMode = 1 →
        (d.flag (act Reg.R5800_PRIMARY) = true → Does .partnerListenEnd s fun _ a => activeNow a) ∧
        (d.flag (act Reg.R5800_PRIMARY) = false → Does .partnerListenEnd s fun b a =>
          a.state = b.state ∧ a.pair.secondAt = some b.clk.cycle64 ∧ a.pair.listenAt = none)) ∧
      (d.tickAbs < t + 32 → Does .partnerListenEnd s fun b a => b.Keeps a [])) ∧
    (∀ c, d.pair.secondAt = some c →
      (d.inSync = true → d.state = DevState.syncing → c + 4000 ≤ d.clk.cycle64 →
        (d.hearsActive = true → Does .duplexSecondaryTimeout s fun _ a => sleeps a) ∧
        (d.hearsActive = false → Does .duplexSecondaryTimeout s fun _ a => activeNow a)) ∧
      (d.clk.cycle64 < c + 4000 → Does .duplexSecondaryTimeout s fun b a => b.Keeps a [])) ∧
    Does (.shadowCheck true) s (fun b a => b.Keeps a []) ∧
    (d.clk.tick ≠ 7 → Does (.shadowCheck false) s fun b a => b.Keeps a []) ∧
    (∀ i, i = Instr.lockstepMismatch ∨ (i = .shadowCheck false ∧ d.clk.tick = 7 ∧
        ∃ n < 128, d.cycle % 128 ≤ n ∧ d.evaluates n = true) →
      (d.active = true → Does i s fun _ a => failed a) ∧
      (d.active = false → d.state = DevState.run → Does i s fun _ a => a.state = DevState.safe) ∧
      (d.active = false → d.state ≠ DevState.run → Does i s fun b a => a.state = b.state ∧ a.axes = b.axes)) ∧
    (∀ f r, d.recordIn 9 f = some r → d.pairMode = 1 →
      (d.state = DevState.standbyReady → Does (.failRecord f) s fun b a => takesOver b a) ∧
      (d.state = DevState.hibernate → Does (.failRecord f) s fun b a => reports b a) ∧
      (d.standsBy = false → Does (.failRecord f) s fun b a => b.Keeps a [])) ∧
    (∀ f, d.recordIn 9 f = none → Does (.failRecord f) s fun b a => b.Keeps a []) ∧
    (d.pairMode ≠ 1 → Does .silenceEvaluation s fun b a => b.Keeps a []) ∧
    (d.pairMode = 1 → d.standsBy = true →
      (d.within d.pair.hbActive 24 = true → Does .silenceEvaluation s fun b a => b.Keeps a [.ph]) ∧
      (d.within d.pair.hbActive 24 = false → d.within d.pair.netTick 24 = true → Does .silenceEvaluation s fun b a => reports b a) ∧
      (d.within d.pair.hbActive 24 = false → d.within d.pair.netTick 24 = false → d.consumers = (true, false) →
        (d.state = DevState.standbyReady → Does .silenceEvaluation s fun b a => takesOver b a) ∧
        (d.state = DevState.hibernate → Does .silenceEvaluation s fun b a => reports b a)) ∧
      (d.within d.pair.hbActive 24 = false → d.within d.pair.netTick 24 = false → d.consumers ≠ (true, false) →
        Does .silenceEvaluation s fun b a => reports b a)) ∧
    (d.pairMode ≠ 3 ∨ d.clk.tick ≠ 7 → Does .owlDecision s fun b a => b.Keeps a []) ∧
    (∀ w, d.pairMode = 3 → d.clk.tick = 7 → mget none d.pair.windows d.partnerId = some (d.clk.cycle64, w) →
      fieldLE w 1 1 = DevState.standbyReady → fieldLE w 2 1 % 2 = 1 → d.nat Reg.R5801_HOLDER ≠ d.partnerId →
      Does .owlDecision s fun b a =>
        a.reg Reg.R5801_STORED_EPOCH = (odType Reg.R5801_STORED_EPOCH).wrap epoch ∧
        a.reg Reg.R5801_HOLDER = (odType Reg.R5801_HOLDER).wrap b.partnerId ∧
        b.KeepsRegs a [Reg.R5801_STORED_EPOCH, Reg.R5801_HOLDER] ∧ b.Keeps a [.ph, .od]) ∧
    (d.pairMode ≠ 2 → Does .owlLost s fun b a => b.Keeps a []) ∧
    (d.pairMode = 2 → mget none d.pair.windows d.owlId = none →
      (d.pair.owlTold = false → Does .owlLost s fun _ a => a.pair.owlTold = true ∧ a.LastRaised Code.OWL_LOST Kind.device 0) ∧
      (d.pair.owlTold = true → Does .owlLost s fun b a => a.pair.owlTold = true ∧ a.log = b.log)) ∧
    (∀ t, d.pair.takeover = some t →
      (t + 16 ≤ d.tickAbs → Does .takeoverRelease s fun b a =>
        a.pair.takeover = none ∧ a.reg Reg.R5801_LAST_TAKEOVER_CYCLE = (odType Reg.R5801_LAST_TAKEOVER_CYCLE).wrap b.cycle) ∧
      (d.tickAbs < t + 16 → Does .takeoverRelease s fun b a => b.Keeps a [])) ∧
    (d.pair.takeover = none → Does .takeoverRelease s fun b a => b.Keeps a [])

/-- HOARD_WRITE_CAPTURE, GENERATION_CLOSE, CKPT_LAG, CKPT_ACK_TIMEOUT, PAGE_RECORD, CTRL_RECORD, JOURNAL_RECORD, CONFIG_RECORD, CLOSE_RECORD, SWEEP_RECORD, HEARTBEAT (R414, R419 to R422, R428). -/
def Obligations.CheckpointStream : Prop :=
  ∀ (s : State), s.Live →
    let d := s.found
    (∀ addr data, d.hoardPage addr = none → Does (.hoardWriteCapture addr data) s fun b a => b.Keeps a []) ∧
    (∀ addr x pg, d.nat (act Reg.R5800_HOARD_BASE) % 4096 = 0 → d.hoardPage addr = some pg → d.active = true →
      Does (.hoardWriteCapture addr [x]) s fun b a =>
      a.memAt addr = x ∧ (∀ y, y ≠ addr → a.memAt y = b.memAt y) ∧ pg ∈ a.pair.dirty ∧
      ∀ g, b.pair.gen = some g → g.pages.contains pg = true → (g.kept.any fun k => k.1 = pg) = false →
        if b.nat (act Reg.R5800_CAPTURE_PAGES) ≤ g.kept.length then
          a.pair.gen = none ∧ a.LastRaised Code.CKPT_ABANDONED Kind.device 0 ∧ ∀ p ∈ g.pages, p ∈ a.pair.dirty
        else a.pair.gen = some { g with kept := mset [] g.kept pg (b.hoardBytes pg) }) ∧
    (d.pair.gen = none → Does .generationClose s (fun b a => b.Keeps a []) ∧ Does .ckptLag s fun b a => b.Keeps a []) ∧
    (∀ g, d.pair.gen = some g →
      let wire := ((d.genRecords g).map fun r => recordWire r.2.2.2.length).sum + recordWire 72
      (d.streams = false ∨ d.streamBudget * (d.clk.cycle64 - g.cycle + 1) < wire → Does .generationClose s fun b a => b.Keeps a []) ∧
      (d.streams = true → wire ≤ d.streamBudget * (d.clk.cycle64 - g.cycle + 1) → Does .generationClose s fun b a =>
        a.pair.gen = none ∧ a.pair.unacked = b.pair.unacked ++ [(g.num, g.pages, g.cycle, b.clk.cycle64)] ∧
        a.nat Reg.R5801_OPEN_GEN = 0 ∧ (b.lanes2 ≠ [] → a.out.length = (b.genRecords g).length + 1)) ∧
      (g.lagTold = false → g.cycle + d.nat (act Reg.R5800_LAG_WARN_CYCLES) ≤ d.clk.cycle64 → Does .ckptLag s fun _ a =>
        a.pair.gen = some { g with lagTold := true } ∧ a.LastRaised Code.CKPT_LAG Kind.device 0) ∧
      (g.lagTold = true ∨ d.clk.cycle64 < g.cycle + d.nat (act Reg.R5800_LAG_WARN_CYCLES) →
        Does .ckptLag s fun b a => b.Keeps a [])) ∧
    (Does .ckptAckTimeout s fun b a =>
      (∀ u, u ∈ a.pair.unacked ↔ u ∈ b.pair.unacked ∧ b.clk.cycle64 < u.2.2.2 + 8) ∧
      (∀ u ∈ b.pair.unacked, u.2.2.2 + 8 ≤ b.clk.cycle64 → ∀ p ∈ u.2.1, p ∈ a.pair.dirty) ∧ b.Keeps a [.pair]) ∧
    (∀ f r rtype i, (rtype, i) ∈ [(1, Instr.pageRecord f), (2, .ctrlRecord f), (3, .journalRecord f), (5, .configRecord f)] →
      (d.recordIn rtype f = none ∨ d.standsBy = false → Does i s fun b a => b.Keeps a []) ∧
      (d.recordIn rtype f = some r → d.standsBy = true → d.pair.takeover = none → r.gen ≠ 0 →
        (d.pair.stageGen = r.gen ∨ (d.pair.stageGen = 0 ∧ d.nat Reg.R5801_LAST_GEN < r.gen ∧ d.pair.nak < r.gen)) →
        (∀ x ∈ d.pair.stage, fieldLE x.2 0 1 ≠ 4) → Does i s fun b a =>
          a.pair.stageGen = r.gen ∧ mget [] a.pair.stage r.fseq = r.all ∧ b.Keeps a [.pair])) ∧
    (∀ f r, d.recordIn 4 f = some r → d.standsBy = true → d.pair.takeover = none → r.gen ≠ 0 → d.pair.stageGen = r.gen →
      (∀ x ∈ d.pair.stage, fieldLE x.2 0 1 ≠ 4) →
      let stage := mset [] d.pair.stage r.fseq r.all
      let c := r.all.drop 16
      let n := fieldLE c 8 4
      let rs := (stage.filter fun x => decide (x.1 < n)).map Prod.snd
      (rs.length ≠ n → Does (.closeRecord f) s fun b a => a.pair.stageGen = r.gen ∧ b.Keeps a [.pair]) ∧
      (rs.length = n → digest128 rs.flatten ≠ fieldLE c 56 16 → Does (.closeRecord f) s fun b a =>
        a.pair.nak = r.gen ∧ a.pair.stage = [] ∧ a.mem = b.mem ∧ a.nat Reg.R5801_LAST_GEN = b.nat Reg.R5801_LAST_GEN ∧
        a.LastRaised Code.CKPT_DIGEST_BAD Kind.device 0) ∧
      (let ctrl := (stagedBlock 2 rs).take (fieldLE c 12 4)
       rs.length = n → digest128 rs.flatten = fieldLE c 56 16 → fieldLE ctrl 0 2 = imgCkpt d.fwImage →
       (∀ x ∈ rs, fieldLE x 0 1 ≠ 5) → digest128 d.pair.config = fieldLE c 40 16 → Does (.closeRecord f) s fun b a =>
        a.reg Reg.R5801_LAST_GEN = (odType Reg.R5801_LAST_GEN).wrap r.gen ∧ a.pair.stage = [] ∧ a.pair.ctrl = ctrl.drop 2 ∧
        (b.state = DevState.hibernate → b.pair.sweepDone = true →
          a.state = DevState.standbyReady ∧ a.LastRaised Code.PARTNER_READY Kind.device 0) ∧
        (b.pair.sweepDone = false → a.state = b.state ∧ a.log = b.log))) ∧
    (∀ f r, d.recordIn 6 f = some r → d.state = DevState.hibernate → Does (.sweepRecord f) s fun b a =>
      let at_ := b.nat (act Reg.R5800_HOARD_BASE) + r.addr + 1024 * r.frag
      a.memRead at_ r.data.length = r.data ∧ (∀ y, (y < at_ ∨ at_ + r.data.length ≤ y) → a.memAt y = b.memAt y) ∧
      a.state = DevState.hibernate) ∧
    (∀ f, d.recordIn 6 f = none ∨ d.standsBy = false → Does (.sweepRecord f) s fun b a => b.Keeps a []) ∧
    (∀ f r, d.recordIn 8 f = some r →
      let ack := fieldLE r.data 4 4
      (∀ u, d.active = true → d.pair.unacked.find? (fun u => u.1 = ack) = some u → fieldLE r.data 8 4 = 0 →
        (∀ v ∈ d.pair.unacked, v.1 ≠ 0) → Does (.heartbeat f) s fun b a =>
          (∀ v, v ∈ a.pair.unacked ↔ v ∈ b.pair.unacked ∧ ack < v.1) ∧ a.pair.hbTick = some b.tickAbs ∧
          a.reg Reg.R5801_LAST_GEN = (odType Reg.R5801_LAST_GEN).wrap ack ∧ a.pair.lostTold = false) ∧
      (d.active = false → d.standsBy = true → Does (.heartbeat f) s fun b a =>
        a.pair.hbTick = some b.tickAbs ∧
        a.reg Reg.R5801_PARTNER_STATE = (odType Reg.R5801_PARTNER_STATE).wrap (fieldLE r.data 0 1) ∧
        (b.nat Reg.R5801_STORED_EPOCH < fieldLE r.data 12 4 →
          a.reg Reg.R5801_STORED_EPOCH = (odType Reg.R5801_STORED_EPOCH).wrap (fieldLE r.data 12 4)) ∧
        (fieldLE r.data 12 4 ≤ b.nat Reg.R5801_STORED_EPOCH → a.nat Reg.R5801_STORED_EPOCH = b.nat Reg.R5801_STORED_EPOCH))) ∧
    (∀ f, d.recordIn 8 f = none → Does (.heartbeat f) s fun b a => b.Keeps a [])

/-! ## The object dictionary and its paths -/

/-- WRITE, REGISTER_WRITE, WINDOW_WRITE, READ, WINDOW_READ (R435 to R440, R453). -/
def Obligations.OdAccess : Prop :=
  ∀ (s : State) (r : Requester) (ix sub : Nat) (data : Bytes), ix < 65536 → sub < 256 →
    let d := s.found
    let k := Reg.key ix sub
    let window := Instr.windowWrite r (4096 * ix + 16 * sub) data
    let plain := [Instr.write r ix sub data, .registerWrite r (.entry ix sub) data]
    let refused := fun (code : Nat) => s.ClockOk → ∀ i ∈ plain, Does i s fun b a =>
      a.done = code ∧ b.KeepsRegs a (Reg.R1150_LAST_CODE :: logRegs) ∧ b.Keeps a (.done :: logParts)
    d.Serves r ix →
      (locate ix sub = .nowhere → refused Code.OD_NO_ENTRY) ∧
      ((∃ n, locate ix sub = .top n) ∨ (∃ e j, locate ix sub = .active e j) → refused Code.OD_READ_ONLY) ∧
      (∀ e j, locate ix sub = .entry e j → networkClock ix sub = false →
        (e.acc = .ro → refused Code.OD_READ_ONLY) ∧
        (e.acc ≠ .ro → (ix < 0x7810 ∨ 0x7840 ≤ ix ∨ 8 < sub) →
          (d.pathOpen r ix sub = false → refused Code.OD_PATH_DENIED) ∧
          (d.pathOpen r ix sub = true → e.acc = .sl → d.slAllowed r = false → refused Code.SESSION_DENIED) ∧
          (d.pathOpen r ix sub = true → (e.acc = .sl → d.slAllowed r = true) →
            (encodingOk e data = false → refused Code.OD_TYPE) ∧
            (encodingOk e data = true → e.rng.has (e.ty.wrap (leNat data)) = false → refused Code.OD_RANGE)))) ∧
      (∀ e j, locate ix sub = .entry e j → d.WriteOk r ix sub data → e.ty ≠ .dom → e.ty ≠ .str → s.ClockOk →
        (∀ v, d.writeSpecial r ix sub v data = none) → ∀ i ∈ plain, Does i s fun b a =>
          a.done = Code.STATUS_OK ∧ b.KeepsRegs a [k] ∧ b.Keeps a [.od, .safe, .done] ∧
          (e.acc ≠ .w1c → a.reg k = (odType k).wrap (e.ty.wrap (leNat data)) ∧ a.safe.log = b.safe.log) ∧
          (e.acc = .w1c → e.count = true → a.reg k = 0) ∧
          (e.acc = .w1c → e.count = false → ∀ n, (odType k).wrap (b.nat k) = b.nat k → n < 128 →
            (e.ty.wrap (leNat data)).toNat.testBit n = true → (w1cMask ix sub).testBit n = true → a.bit k n = false)) ∧
      (∀ e j, locate ix sub = .entry e j → e.ty.size = data.length → e.ty ∉ [.dom, .str, .time, .digest] → (d.winOf r).write = none →
        s.ClockOk →
        (d.WriteOk r ix sub data → (∀ v, d.writeSpecial r ix sub v data = none) → e.acc ≠ .w1c → Does window s fun b a =>
          a.done = Code.STATUS_OK ∧ a.reg k = (odType k).wrap (e.ty.wrap (leNat data)) ∧ b.KeepsRegs a [k]) ∧
        (networkClock ix sub = false → e.acc = .ro → Does window s fun b a =>
          a.done = Code.OD_READ_ONLY ∧ (a.winOf r).status = Code.OD_READ_ONLY ∧ b.KeepsRegs a [] ∧ b.Keeps a [.serve, .done])) ∧
      (locate ix sub = .nowhere → Does (.read r ix sub) s fun b a =>
        a.done = Code.OD_NO_ENTRY ∧ a.resp.data = [] ∧ b.Keeps a [.done]) ∧
      (∀ e j, locate ix sub = .entry e j → e.ty ≠ .dom → e.ty ≠ .str →
        (e.acc = .wo → Does (.read r ix sub) s fun b a =>
          a.done = Code.OD_WRITE_ONLY ∧ a.resp.data = List.replicate e.ty.size 0 ∧ b.Keeps a [.done]) ∧
        (e.acc ≠ .wo → d.scalarView r ix sub = none → (ix < 0x7810 ∨ 0x785B ≤ ix) → e.ty.size ≤ 16 →
          Does (.read r ix sub) s (fun b a =>
            a.done = Code.STATUS_OK ∧ a.resp.data = scalarBytes e.ty (b.reg k) ∧ b.Keeps a [.done]) ∧
          (e.ty ≠ .time → e.ty ≠ .digest → Does (.windowRead r (4096 * ix + 16 * sub) e.ty.size) s fun b a =>
            a.done = Code.STATUS_OK ∧ a.resp.data = scalarBytes e.ty (b.reg k) ∧ b.Keeps a [.done])))

/-- DWRITE, DREAD, DABORT, OD_TRANSFER_TIMEOUT, COMMIT, DIGEST, ENUMERATE (R442 to R445). -/
def Obligations.OdServices : Prop :=
  ∀ (s : State) (r : Requester) (ix sub off len total : Nat) (data : Bytes), s.Live → ix < 65536 → sub < 256 →
    let d := s.found
    let k := Reg.key ix sub
    let up := d.online r = true ∧ d.boot.recovery = false
    let takes := ∃ e j, locate ix sub = .entry e j ∧ (e.ty = .dom ∨ e.ty = .str) ∧ e.acc ≠ .ro ∧ d.pathOpen r ix sub = true ∧
      (e.acc = .sl → d.slAllowed r = true) ∧ total ≤ e.size ∧ ix ≠ 0x6020
    let fits := data.length ≤ 65536
    (up → s.ClockOk → takes → fits → d.transferOf k = none → total + (d.serve.transfers.map Transfer.total).sum ≤ stagingPool →
      (off + data.length ≤ total → Does (.dwrite r ix sub off total false data) s fun b a =>
        a.done = Code.STATUS_OK ∧ (∃ t, a.transferOf k = some t ∧ t.owner = r ∧ t.total = total ∧ t.parts = [(off, off + data.length)]) ∧
        (∀ j, j ≠ k → a.transferOf j = b.transferOf j) ∧ b.Keeps a [.serve, .done]) ∧
      (total < off + data.length ∨ covered total [(off, off + data.length)] ≠ total →
        Does (.dwrite r ix sub off total true data) s fun b a =>
          a.done = Code.OD_TRANSFER_INVALID ∧ a.transferOf k = none ∧ b.Keeps a [.serve, .done]) ∧
      (off = 0 → total = data.length → covered total [(0, total)] = total → Does (.dwrite r ix sub off total true data) s fun b a =>
        ∃ x, x.serve.transfers = b.serve.transfers.filter (fun t => t.key != k) ∧ b.Keeps x [.serve] ∧
          a.dom = (x.odWrite r ix sub data).dom ∧ a.od = (x.odWrite r ix sub data).od ∧
          a.done = (x.odWrite r ix sub data).done)) ∧
    (∀ t, up → s.ClockOk → d.transferOf k = some t →
      (takes → fits → t.owner ≠ r → ∀ last, Does (.dwrite r ix sub off total last data) s fun b a =>
        a.done = Code.OD_TRANSFER_BUSY ∧ b.Keeps a [.done]) ∧
      (takes → fits → t.owner = r → t.total = total → off + data.length ≤ total → Does (.dwrite r ix sub off total false data) s fun b a =>
        a.done = Code.STATUS_OK ∧ (∃ u, a.transferOf k = some u ∧ u.bytes = patch t.bytes off data ∧ u.last = b.rawNow) ∧
        b.Keeps a [.serve, .done]) ∧
      (t.owner = r → Does (.dabort r ix sub) s fun b a =>
        a.done = Code.STATUS_OK ∧ a.transferOf k = none ∧ b.Keeps a [.serve, .done]) ∧
      (t.owner ≠ r → Does (.dabort r ix sub) s fun b a => a.done = Code.OD_TRANSFER_BUSY ∧ b.Keeps a [.done])) ∧
    (up → d.transferOf k = none → Does (.dabort r ix sub) s fun b a => a.done = Code.OD_TRANSFER_INVALID ∧ b.Keeps a [.done]) ∧
    (∀ t, d.transferOf k = some t →
      (t.last + d.nat Reg.R1201_TRANSFER_TIMEOUT_MS * 1000000 ≤ d.rawNow → Does (.odTransferTimeout ix sub) s fun b a =>
        a.transferOf k = none ∧ a.LastRaised Code.OD_TRANSFER_TIMEOUT Kind.other 0 ∧ b.Keeps a logParts) ∧
      (d.rawNow < t.last + d.nat Reg.R1201_TRANSFER_TIMEOUT_MS * 1000000 → Does (.odTransferTimeout ix sub) s fun b a => b.Keeps a [])) ∧
    (∀ e j, up → len ≤ 65536 → locate ix sub = .entry e j → e.ty = .dom → e.acc ≠ .wo → d.domView ix sub = none → ix ≠ 0x6050 →
      (off ≤ (d.bytes k).length → Does (.dread r ix sub off len) s fun b a =>
        a.done = Code.STATUS_OK ∧ a.resp.data = ((b.bytes k).drop off).take len ∧ a.resp.total = (b.bytes k).length ∧ b.Keeps a [.done]) ∧
      ((d.bytes k).length < off → Does (.dread r ix sub off len) s fun b a =>
        a.done = Code.OD_TRANSFER_INVALID ∧ a.resp.data = [] ∧ b.Keeps a [.done]) ∧
      Does (.digest r ix sub) s fun b a =>
        a.done = Code.STATUS_OK ∧ a.resp.data = leBytes 16 (digest128 (b.bytes k)) ∧ b.Keeps a [.done]) ∧
    (∀ cycle policy targets, up → targets ≠ [] → targets.length ≤ 16 → policy ≤ 1 →
      let codes := targets.map fun x => d.targetRefusal r x.1 x.2 cycle
      ((∃ c ∈ codes, c ≠ Code.STATUS_OK) → Does (.commit r cycle policy targets) s fun b a =>
        a.done = Code.COMMIT_GROUP_FAILED ∧ a.resp.data.length = 2 * targets.length ∧ b.Keeps a [.done]) ∧
      (∀ t c late, targets = [(ix, sub)] → tableOf ix sub = some t → codes = [Code.STATUS_OK] →
        d.judgeCommit cycle policy = some (c, late) → mget none d.pend t.key = none → Does (.commit r cycle policy targets) s fun b a =>
          a.done = Code.STATUS_OK ∧ a.resp.data = leBytes 2 Code.STATUS_OK ∧
          (∃ p, mget none a.pend t.key = some p ∧ p.cycle = c ∧ p.late = late ∧ p.group = b.nextGroup) ∧
          ∀ j, j ≠ t.key → mget none a.pend j = mget none b.pend j)) ∧
    (∀ cycle policy targets, up → (targets = [] ∨ 16 < targets.length ∨ 1 < policy) → Does (.commit r cycle policy targets) s fun b a =>
      a.done = Code.OD_PDU_INVALID ∧ b.Keeps a [.done]) ∧
    (∀ count, up → 1 ≤ count → count ≤ 256 → Does (.enumerate r ix sub count) s fun b a =>
      a.done = Code.STATUS_OK ∧ a.resp.data = ((entriesFrom ix sub (count + 1)).take count).flatMap (fun e => descriptor e.1 e.2) ∧
      b.Keeps a [.done]) ∧
    (∀ count, up → (count = 0 ∨ 256 < count) → Does (.enumerate r ix sub count) s fun b a =>
      a.done = Code.OD_PDU_INVALID ∧ b.Keeps a [.done])

/-- SIZE, REQ_TAIL, RSP_HEAD, RING_REQUEST_FETCH, HOST_DMA_START, HOST_DMA_STOP, HOST_DMA_COMPLETE, UDP_DATAGRAM, ACYCLIC_FRAME (R331, R332, R448 to R452, R456). -/
def Obligations.ServicePaths : Prop :=
  ∀ (s : State) (i v : Nat) (entry pdu : Bytes), s.Live → s.ClockOk →
    let d := s.found
    let x := d.ring i
    let there := d.ringThere i = true
    let ready := there ∧ i < 16 ∧ d.online ⟨0, 0⟩ = true ∧ d.boot.recovery = false ∧ x.state = 1 ∧ x.head ≠ x.tail ∧
      (x.rspTail + 1) % x.size ≠ x.rspHead
    let onlyRing := fun (b a : Dev) (y : Ring) => a.ring i = y ∧ (∀ j, j ≠ i → a.ring j = b.ring j) ∧ b.Keeps a [.serve]
    (there → ringSizeOk v = true → Does (.size i v) s fun b a =>
      onlyRing b a { b.ring i with size := v, state := if v = 0 then 0 else 1, tail := 0, head := 0, rspTail := 0, rspHead := 0 }) ∧
    (d.ringThere i = false ∨ ringSizeOk v = false → Does (.size i v) s fun b a => b.Keeps a []) ∧
    (there → x.size ≠ 0 →
      Does (.reqTail i v) s (fun b a => onlyRing b a { b.ring i with tail := v % x.size }) ∧
      Does (.rspHead i v) s (fun b a => onlyRing b a { b.ring i with rspHead := v % x.size })) ∧
    (d.ringThere i = false ∨ x.size = 0 →
      Does (.reqTail i v) s (fun b a => b.Keeps a []) ∧ Does (.rspHead i v) s (fun b a => b.Keeps a [])) ∧
    (∀ ok, d.ringThere i = false ∨ x.state ≠ 1 ∨ x.head = x.tail ∨ (x.rspTail + 1) % x.size = x.rspHead →
      Does (.ringRequestFetch i entry pdu ok) s fun b a => b.Keeps a []) ∧
    (ready → Does (.ringRequestFetch i entry pdu false) s fun b a =>
      (a.ring i).state = 2 ∧ (a.ring i).error = Code.RING_ERROR ∧ (a.ring i).head = (x.head + 1) % x.size ∧
      a.event.testBit 2 = true ∧ a.LastRaised Code.RING_ERROR Kind.other 0 ∧ a.sett = b.sett) ∧
    (ready → 8 ≤ i → Does (.ringRequestFetch i entry pdu true) s fun _ a =>
      (a.ring i).head = (x.head + 1) % x.size ∧ (a.ring i).rspTail = (x.rspTail + 1) % x.size ∧ (a.ring i).state = 1 ∧
      ∃ slot, a.resp.host = [(x.rspBase + 16 * x.rspTail, leBytes 4 x.head ++ leBytes 2 a.done ++ leBytes 2 slot ++ leBytes 8 0)] ∧
        (descOk (slice entry 0 32) = false → a.done = Code.DESC_INVALID)) ∧
    (∀ ch < 4, ∀ bytes,
      let y := d.hostDmaOf ch
      (d.barThere = true → y.state ≠ 1 → d.dmaAllowed y.devAddr y.length = false → Does (.hostDmaStart ch) s fun b a =>
        a.done = Code.OD_PATH_DENIED ∧ a.hostDmaOf ch = { y with state := 3, error := Code.OD_PATH_DENIED } ∧ b.Keeps a [.serve, .done]) ∧
      (d.barThere = true → y.state ≠ 1 → d.dmaAllowed y.devAddr y.length = true → Does (.hostDmaStart ch) s fun b a =>
        a.done = Code.STATUS_OK ∧ a.hostDmaOf ch = { y with state := 1, error := 0 } ∧ b.Keeps a [.serve, .done]) ∧
      (d.barThere = false ∨ y.state = 1 → Does (.hostDmaStart ch) s fun b a => b.Keeps a []) ∧
      (y.state = 1 → Does (.hostDmaStop ch) s fun b a =>
        a.hostDmaOf ch = { y with state := 0 } ∧ b.Keeps a [.serve, .done]) ∧
      (y.state ≠ 1 → Does (.hostDmaStop ch) s (fun b a => b.Keeps a []) ∧
        Does (.hostDmaComplete ch bytes) s fun b a => b.Keeps a []) ∧
      (y.state = 1 → y.dir = 0 → 0 < y.length → regionOf y.devAddr ≠ .memory → aeCell y.devAddr = none →
        inMemory y.devAddr y.length = false → Does (.hostDmaComplete ch bytes) s fun b a =>
          (a.hostDmaOf ch).state = 3 ∧ a.resp.host = [] ∧ b.Keeps a [.serve, .fresh]) ∧
      (y.state = 1 → y.dir = 0 → inMemory y.devAddr y.length = true → d.poisonedIn y.devAddr y.length = false →
        Does (.hostDmaComplete ch bytes) s fun b a =>
        a.hostDmaOf ch = { y with state := 2 } ∧ a.resp.host = [(y.hostAddr, b.memRead y.devAddr y.length)] ∧ b.Keeps a [.serve]) ∧
      (y.state = 1 → y.dir ≠ 0 → inMemory y.devAddr y.length = true → Does (.hostDmaComplete ch bytes) s fun b a =>
        a.hostDmaOf ch = { y with state := 2 } ∧ a.memRead y.devAddr y.length = slice bytes 0 y.length ∧
        ∀ z, (z < y.devAddr ∨ y.devAddr + y.length ≤ z) → a.memAt z = b.memAt z)) ∧
    (∀ p < 2, ∀ peer dst data,
      let ip := d.nat (Reg.R1210_IPV4_H0 + p)
      let mine := d.online ⟨1, peer⟩ = true ∧ ip ≠ 0 ∧ dst = ip * 65536 + d.nat Reg.R1210_UDP_PORT
      let form := 8 ≤ data.length ∧ data.length ≤ 1472 ∧ fieldBE data 0 1 = 1 ∧ fieldBE data 1 1 = 0 ∧
        fieldBE data 4 2 = data.length - 8 ∧ fieldBE data 6 2 = 0
      let known := (d.serve.peers.find? fun q => q.who = peer).bind fun q => q.stored.find? fun z => z.1 = fieldBE data 2 2
      (¬mine ∨ ¬form → Does (.udpDatagram p peer dst data) s fun b a => b.Keeps a [] ∧ a.resp.udp = []) ∧
      (∀ z, mine → form → known = some z → Does (.udpDatagram p peer dst data) s fun b a =>
        a.resp.udp = [(p, peer, z.2)] ∧ a.nat Reg.R1210_DUPLICATES = min (b.nat Reg.R1210_DUPLICATES + 1) 0xFFFFFFFF ∧
        b.KeepsRegs a [Reg.R1210_DUPLICATES] ∧ b.Keeps a [.od, .serve]) ∧
      (mine → form → known = none → pduOk true (data.drop 8) = false → Does (.udpDatagram p peer dst data) s fun b a =>
        ∃ answer, a.resp.udp = [(p, peer, answer)] ∧ a.done = Code.OD_PDU_INVALID ∧ b.Keeps a [.serve, .done] ∧
          ∃ q ∈ a.serve.peers, q.who = peer ∧ q.stored.head? = some (fieldBE data 2 2, answer))) ∧
    (∀ f h es e1 e2, f.port < 4 → d.arrive f = (some h, es, e1) → e1.followEpoch h = (true, e2) → h.kind = FrameKind.acyclic →
      es ≠ [] →
      let b' := payloadOf f.bytes
      let txn := fieldBE b' 2 2
      (fieldBE b' 0 2 ≠ e2.node Reg.R1400_NODE_ID → Does (.acyclicFrame f) s fun _ a =>
        a.link.outbox = e2.link.outbox ∧ a.link.reasm = e2.link.reasm ∧ a.od = e2.od) ∧
      (fieldBE b' 0 2 = e2.node Reg.R1400_NODE_ID → fieldBE b' 4 1 = 0 → fieldBE b' 5 1 = 0 → fieldBE b' 6 2 ≤ 1400 →
        (∀ z, (e2.link.stored.find? fun z => z.1 = h.source && z.2.1 = txn) = some z → Does (.acyclicFrame f) s fun _ a =>
          a.link.outbox = e2.link.outbox ++ fragments h.source txn z.2.2 ∧
          a.nat Reg.R1450_DUPLICATES = min (e2.nat Reg.R1450_DUPLICATES + 1) 0xFFFFFFFF) ∧
        ((e2.link.stored.find? fun z => z.1 = h.source && z.2.1 = txn) = none → pduOk true (slice b' 8 (fieldBE b' 6 2)) = false →
          Does (.acyclicFrame f) s fun _ a =>
            ∃ answer, a.link.outbox = e2.link.outbox ++ fragments h.source txn answer ∧ a.done = Code.OD_PDU_INVALID ∧ a.od = e2.od)))

/-! ## Device control, the settings store, the start -/

/-- DEV_CONTROL 1 to 5 (R458, R492). -/
def Obligations.DeviceControl : Prop :=
  ∀ (s : State), s.Live → s.ClockOk →
    let d := s.found
    let up := DevState.config ≤ d.state
    let told := fun (a : Dev) (code : Nat) => a.done = code ∧ a.nat Reg.R1001_CONTROL_STATUS = code
    let dead := fun (a : Dev) => (∀ n < 128, a.flag (Reg.R5080_PERMIT n) = false) ∧
      ∀ k < 8, (a.safeOut k).swA = false ∧ (a.safeOut k).swB = false
    let refused := fun (i : Instr) => Does i s fun b a =>
      told a Code.DEV_CONTROL_REFUSED ∧ a.LastRaised Code.DEV_CONTROL_REFUSED Kind.device 0 ∧
      b.KeepsRegs a (Reg.R1001_CONTROL_STATUS :: logRegs) ∧ b.Keeps a (.done :: logParts)
    let runs := d.state = DevState.safe ∧ d.net = NetState.inSync ∧ d.safe.hbA = true ∧ d.safe.hbB = true ∧ d.safe.lost = false ∧
      d.nat Reg.R6050_DEBUG_SCOPE = 0
    (runs → Does .devControlRun s fun b a =>
      told a Code.STATUS_OK ∧ a.state = DevState.run ∧ a.nat Reg.R1001_STATE_CYCLE = b.cycle ∧ a.event.testBit 0 = true ∧
      b.KeepsRegs a [Reg.R1001_DEV_STATE, Reg.R1001_STATE_CYCLE, Reg.R1001_CONTROL_STATUS] ∧ b.Keeps a [.od, .done, .event, .serve]) ∧
    (up → ¬runs → refused .devControlRun) ∧
    (d.state = DevState.run → Does .devControlSafe s fun b a =>
      told a Code.STATUS_OK ∧ a.state = DevState.safe ∧ a.nat Reg.R1001_SAFE_CAUSE = 0 ∧ a.boot.safeByCmd = true ∧ dead a ∧
      a.nat Reg.R6020_CONFIRM_CYCLES = b.nat Reg.R6020_CONFIRM_CYCLES) ∧
    (up → d.state ≠ DevState.run → refused .devControlSafe) ∧
    (d.state ∈ [DevState.run, DevState.safe, DevState.syncing] → d.active = false → Does .devControlConfig s fun _ a =>
      told a Code.STATUS_OK ∧ a.state = DevState.config ∧ dead a ∧ a.net = NetState.listen ∧ a.link.bypass = true) ∧
    (up → d.state ∉ [DevState.run, DevState.safe, DevState.syncing] → refused .devControlConfig) ∧
    (up → d.state ≠ DevState.config → refused .validate) ∧
    (d.state = DevState.config →
      (∀ code k x y r, d.findings = (code, k, x, y) :: r → code ≠ Code.STATUS_OK → code < 65536 → Does .validate s fun b a =>
        told a code ∧ a.state = DevState.config ∧
        (∀ q, d.findings.getLast? = some q → a.LastRaised q.1 q.2.1 q.2.2.1) ∧
        b.KeepsRegs a (Reg.R1001_CONTROL_STATUS :: logRegs ++ (List.range 128).map Reg.AX8_LAST_CODE)) ∧
      (d.findings = [] → d.nat Reg.R1400_NODE_ID = 0 → Does .validate s fun _ a =>
        told a Code.STATUS_OK ∧ a.state = DevState.config) ∧
      (d.findings = [] → d.nat Reg.R1400_NODE_ID ≠ 0 →
        (odType (act Reg.R1400_ROLE)).wrap (d.reg Reg.R1400_ROLE) ≠ 2 → Does .validate s fun _ a =>
        told a Code.STATUS_OK ∧ a.state = DevState.syncing ∧ a.link.bypass = false ∧ a.net = NetState.listen ∧
        a.safe.session = none)) ∧
    Does .devControlReset s (fun b a =>
      a.done = Code.STATUS_OK ∧ a.state = DevState.boot ∧ a.boot.held = false ∧ a.link.bypass = true ∧ a.pend = [] ∧
      a.aon = b.aon ∧ a.power = b.power ∧ a.safe.log = b.safe.log ∧
      (∀ k ∈ keptKeys, k ∉ logRegs → a.reg k = b.reg k) ∧
      (∀ k, k ∉ keptKeys → k ∉ logRegs → a.reg k = odDefault k) ∧
      (∀ u, b.boot.update = some u → (b.fwSlot u.slot).state ≠ SlotState.staged →
        (a.fwSlot u.slot).state = SlotState.empty ∧ a.boot.update = none ∧ a.LastRaised Code.UPDATE_ABANDONED Kind.other 0) ∧
      (b.boot.update = none → a.flash = b.flash ∧ a.log = [] ∧ ∀ k ∈ keptKeys, a.reg k = b.reg k))

/-- STORE_GENERATION, STORE_FLUSH, RESET_RELEASE, BOOT_START, BOOT_STEP_TIMEOUT (R460, R474, R475, R476, R531, R536). -/
def Obligations.StoreAndStart : Prop :=
  ∀ (s : State), s.ClockOk →
    let d := s.found
    let writes := fun (i : Instr) (ok : Bool) =>
      (d.storeWaits = false → Does i s fun b a => b.Keeps a [.done]) ∧
      (d.storeWaits = true → ok = true → Does i s fun b a =>
        (∃ g r, (a.setSlotOf a.flash.setUse).gens = g :: r ∧ r.length ≤ 1 ∧ g.gen = b.storeNow.gen + 1 ∧ g.od = b.storedOd ∧
          g.dom = b.storedDom) ∧
        a.nat Reg.R1004_STORE_STATE = 0 ∧ a.reg Reg.R1004_STORE_GEN = (odType Reg.R1004_STORE_GEN).wrap (b.storeNow.gen + 1 : Nat) ∧
        b.KeepsRegs a [Reg.R1004_STORE_STATE, Reg.R1004_STORE_GEN] ∧ b.Keeps a [.od, .flash, .done]) ∧
      (d.storeWaits = true → ok = false → Does i s fun b a =>
        a.nat Reg.R1004_STORE_STATE = 3 ∧ a.LastRaised Code.STORE_FAILED Kind.device 0 ∧
        b.KeepsRegs a (Reg.R1004_STORE_STATE :: logRegs) ∧ b.Keeps a (.done :: logParts))
    (∀ ok, s.Live → writes (.storeGeneration ok) ok) ∧
    (∀ ok, s.Up → writes (.storeFlush ok) ok ∧ Does (.storeFlush ok) s fun _ a => a.done = Code.STATUS_OK) ∧
    (∀ feeds secs mv, (feeds % 4 = 0 ∨ d.boot.hot = true) → Does (.resetRelease feeds secs mv) s fun b a => b.Keeps a []) ∧
    (∀ feeds secs mv, feeds % 4 ≠ 0 → d.boot.hot = false → d.dark = true → Does (.resetRelease feeds secs mv) s fun b a =>
      a.power.feeds = feeds % 4 ∧ a.power.resetN = true ∧
      (b.aon.lost = false → a.aon.seconds = b.aon.seconds + secs) ∧
      (nominalOf 2 (mv.getD 2 0) ≠ none → a.state = DevState.boot ∧ a.boot.held = false ∧ a.nat Reg.R4000_STATE_3 = 1) ∧
      (nominalOf 2 (mv.getD 2 0) = none → a.boot.held = true ∧ a.nat Reg.R4000_STATE_3 = 0)) ∧
    (∀ fail unit, s.Live → d.mayBoot = false → Does (.bootStart fail unit) s fun b a => b.Keeps a []) ∧
    (∀ step, s.Live → d.mayBoot = false ∨ step = 0 ∨ 14 < step → Does (.bootStepTimeout step) s fun b a => b.Keeps a []) ∧
    (∀ step a, d.altFor step = some a →
      d.flash.failed.contains (step, a) = false ∧
      (a ≠ mget 0 d.flash.inForce step → d.flash.failed.contains (step, mget 0 d.flash.inForce step) = true ∧
        1 ≤ a ∧ a ≤ altCount step ∧ ∀ b, 1 ≤ b → b < a → d.flash.failed.contains (step, b) = true)) ∧
    (∀ step, d.altFor step = none → ∀ b, 1 ≤ b → b ≤ altCount step → d.flash.failed.contains (step, b) = true) ∧
    (∀ step unit, s.Live → d.mayBoot = true → d.flash.failed = [] → d.lastRec = none → d.flash.lastFw = none →
      d.flash.lastApp = none → step ∈ [1, 2, 3] →
      Does (.bootStart step unit) s (fun b a =>
        a.state = DevState.boot ∧ a.flash.boot = b.flash.boot + 1 ∧ a.flash.failed = [(step, mget 0 b.flash.inForce step)] ∧
        a.LastRaised Code.BOOT_STEP_FAILED Kind.other 0 ∧ (∃ r, a.flash.journal.getLast? = some r ∧ r.step = step ∧ r.outcome = 2)) ∧
      Does (.bootStepTimeout step) s fun b a =>
        a.state = DevState.boot ∧ a.flash.boot = b.flash.boot + 1 ∧ a.flash.failed = [] ∧ a.boot.resetBy = 2 ∧
        ∃ r, a.flash.journal.getLast? = some r ∧ r.step = step ∧ r.outcome = 0)

/-! ## Updates, keys, debug access -/

/-- OPEN, BIND, IMAGE_STAGED, ABANDON, UPDATE_SESSION_TIMEOUT, ACTIVATE, CONFIRM (R479, R481 to R485). APP_KEY_ENROLL,
CHALLENGE, UNLOCK, IDCODE, BYPASS, SAMPLE_PRELOAD, ATTEST_REQUEST, REPORT_READY, LPDDR_RETRY (R490 to R492, R494, R495, R497). -/
def Obligations.UpdateAndKeys : Prop :=
  (∀ (s : State) (r : Requester) (data : Bytes), s.Live → s.ClockOk →
     let d := s.found
     let ok := fun (sub : Nat) (x : Bytes) => d.Serves r 0x6020 ∧ d.WriteOk r 0x6020 sub x
     let told := fun (a : Dev) (code : Nat) => a.done = code ∧ a.nat Reg.R6020_LAST_STATUS = code
     let kind := fieldLE data 0 1
     let formed := data.length = 40 ∧ fieldLE data 1 3 = 0 ∧ (kind = 1 ∨ kind = 2) ∧
       fieldLE data 4 4 ≤ (if kind = 1 then 64000000 else 256000000)
     let refused := fun (i : Instr) (code : Nat) => Does i s fun b a =>
       told a code ∧ a.LastRaised code Kind.device 0 ∧ a.boot = b.boot ∧ a.flash = b.flash
     let ended := fun (b a : Dev) (u : Update) =>
       a.boot.update = none ∧ a.LastRaised Code.UPDATE_ABANDONED Kind.other 0 ∧ a.nat Reg.R6020_LAST_STATUS = Code.UPDATE_ABANDONED ∧
       a.fwSlot u.slot = (if (b.fwSlot u.slot).state = SlotState.staged then b.fwSlot u.slot else {}) ∧
       ∀ k, k ≠ u.slot → a.fwSlot k = b.fwSlot k
     (ok 1 data → formed → d.boot.recovery = true → kind ≠ 1 → Does (.updateOpen r data) s fun b a =>
       told a Code.OD_STATE ∧ a.boot = b.boot ∧ a.flash = b.flash) ∧
     (ok 1 data → formed → (d.boot.recovery = false ∨ kind = 1) →
       (d.boot.update = none → d.runsTrial kind = false → Does (.updateOpen r data) s fun b a =>
         told a Code.STATUS_OK ∧ a.fwSlot (b.targetSlot kind) = { state := SlotState.receiving } ∧
         (∀ k, k ≠ b.targetSlot kind → a.fwSlot k = b.fwSlot k) ∧
         ∃ u, a.boot.update = some u ∧ u.kind = kind ∧ u.slot = b.targetSlot kind ∧ u.bound = [r] ∧ u.digest = slice data 8 32 ∧
           u.total = fieldLE data 4 4 ∧ u.bytes = [] ∧ u.last = b.rawNow) ∧
       (d.boot.update = none → d.runsTrial kind = true → refused (.updateOpen r data) Code.UPDATE_NO_SLOT) ∧
       (∀ u, d.boot.update = some u → refused (.updateOpen r data)
         (if u.kind = kind ∧ u.digest = slice data 8 32 then Code.UPDATE_IN_PROGRESS else Code.UPDATE_BUSY))) ∧
     (∀ token, token < 2 ^ 64 → ok 3 (leBytes 8 token) →
       (∀ u, d.boot.update = some u → u.token = token → Does (.bind r token) s fun b a =>
         told a Code.STATUS_OK ∧ a.flash = b.flash ∧ ∃ v, a.boot.update = some v ∧ r ∈ v.bound ∧ v.slot = u.slot ∧
           (∀ q, q ∈ v.bound ↔ q = r ∨ q ∈ u.bound)) ∧
       ((∀ u, d.boot.update = some u → u.token ≠ token) → refused (.bind r token) Code.UPDATE_BUSY)) ∧
     (d.boot.update = none →
       Does .imageStaged s (fun b a => b.Keeps a []) ∧ Does .updateSessionTimeout s fun b a => b.Keeps a []) ∧
     (∀ u, d.boot.update = some u →
       (u.whole = true → (d.fwSlot u.slot).state = SlotState.receiving → Does .imageStaged s fun b a =>
         a.fwSlot u.slot = { state := SlotState.staged, image := u.bytes, backup := if u.kind = 1 then u.bytes else [] } ∧
         (∀ k, k ≠ u.slot → a.fwSlot k = b.fwSlot k) ∧ b.Keeps a [.flash]) ∧
       (u.whole = false ∨ (d.fwSlot u.slot).state ≠ SlotState.receiving → Does .imageStaged s fun b a => b.Keeps a []) ∧
       (let due := (d.fwSlot u.slot).state = SlotState.receiving ∧ u.last + d.nat Reg.R6020_TIMEOUT_S * 1000000000 ≤ d.rawNow;
         (due → Does .updateSessionTimeout s fun b a => ended b a u) ∧
         (¬due → Does .updateSessionTimeout s fun b a => b.Keeps a [])) ∧
       (ok 5 [0] →
         (r ∈ u.bound → Does (.updateAbandon r) s fun b a => a.done = Code.STATUS_OK ∧ ended b a u) ∧
         (r ∉ u.bound → refused (.updateAbandon r) Code.UPDATE_BUSY)) ∧
       (∀ v ≤ 1, ok 9 [byte v] →
         (r ∈ u.bound → (d.fwSlot u.slot).state = SlotState.staged → d.boot.recovery = false → Does (.activate r v) s fun b a =>
           told a Code.STATUS_OK ∧ mget 0 a.flash.activated u.kind = v * (u.slot + 1) ∧ a.flash.slots = b.flash.slots ∧
           a.boot = b.boot) ∧
         (r ∈ u.bound → (d.fwSlot u.slot).state ≠ SlotState.staged → Does (.activate r v) s fun b a =>
           told a Code.OD_STATE ∧ a.flash = b.flash ∧ a.boot = b.boot) ∧
         (r ∉ u.bound → refused (.activate r v) Code.UPDATE_BUSY))) ∧
     (ok 10 [0] →
       (d.nat Reg.R6020_CONFIRM_CYCLES < 4000 → refused (.confirm r) Code.UPDATE_NOT_PROVEN) ∧
       (4000 ≤ d.nat Reg.R6020_CONFIRM_CYCLES →
         ((∀ k < 4, (d.fwSlot k).state ≠ SlotState.trial) → Does (.confirm r) s fun b a =>
           told a Code.STATUS_OK ∧ a.flash = b.flash ∧ a.log = b.log) ∧
         (∀ k < 4, (d.fwSlot k).state = SlotState.trial → (∀ j < 4, j ≠ k → (d.fwSlot j).state ≠ SlotState.trial) →
           Does (.confirm r) s fun b a =>
             let sec := imgSec (b.fwSlot k).image
             told a Code.STATUS_OK ∧ a.fwSlot k = { b.fwSlot k with state := SlotState.confirmed } ∧
             (∀ j < 4, j / 2 = k / 2 → (b.fwSlot j).state = SlotState.confirmed → (a.fwSlot j).state = SlotState.previous) ∧
             (∀ j < 4, j / 2 ≠ k / 2 → a.fwSlot j = b.fwSlot j) ∧
             a.flash.fwMin = (if k < 2 then max b.flash.fwMin sec else b.flash.fwMin) ∧
             a.flash.appMin = (if k < 2 then b.flash.appMin else max b.flash.appMin sec) ∧
             a.LastRaised Code.UPDATE_CONFIRMED Kind.other 0)))) ∧
  (∀ (s : State) (r : Requester) (data : Bytes),
     let d := s.found
     let refused := fun (i : Instr) (code : Nat) => Does i s fun b a =>
       a.done = code ∧ a.LastRaised code Kind.device 0 ∧ a.flash = b.flash ∧ a.nat Reg.R6050_DEBUG_SCOPE = b.nat Reg.R6050_DEBUG_SCOPE
     (s.Live → d.Serves r 0x6040 → d.WriteOk r 0x6040 5 data → data.length = 68 →
       (d.flash.apps.length < 4 → Does (.appKeyEnroll r data) s fun b a =>
         a.done = Code.STATUS_OK ∧ a.flash.apps = b.flash.apps ++ [shake256 32 data] ∧
         (b.flash.apps ≠ [] → a.flash.revoked = b.flash.revoked ++ [3 + b.flash.apps.length]) ∧
         (b.flash.apps = [] → a.flash.revoked = b.flash.revoked) ∧ a.flash.slots = b.flash.slots) ∧
       (4 ≤ d.flash.apps.length → refused (.appKeyEnroll r data) Code.KEY_SLOTS_FULL)) ∧
     (s.Up → Does .challenge s fun b a =>
       a.done = Code.STATUS_OK ∧ a.resp.data = leBytes 32 (Config.random b.fresh) ∧ a.fresh = b.fresh + 1 ∧
       a.boot.challenge = some (a.resp.data, b.rawNow) ∧ b.KeepsRegs a [] ∧ b.Keeps a [.boot, .fresh, .done]) ∧
     (s.Up → (d.tokenOk data = true → Does (.unlock data) s fun b a =>
         a.done = Code.STATUS_OK ∧ a.nat Reg.R6050_DEBUG_SCOPE = fieldLE data 4 1 ∧ a.boot.challenge = none ∧
         a.LastRaised Code.DEBUG_UNLOCKED Kind.device 0 ∧ b.KeepsRegs a (Reg.R6050_DEBUG_SCOPE :: logRegs)) ∧
       (d.tokenOk data = false → refused (.unlock data) Code.DEBUG_TOKEN_BAD) ∧
       (∀ c t, d.boot.challenge = some (c, t) → slice data 24 32 = c → Does (.unlock data) s fun _ a => a.boot.challenge = none)) ∧
     (d.tokenOk data = true → (d.state = DevState.config ∨ d.state = DevState.safe) ∧ slice data 8 16 = serial16 ∧
       (∃ t, d.boot.challenge = some (slice data 24 32, t) ∧ d.rawNow ≤ t + 600000000000) ∧
       d.keyOk (fieldLE data 5 1 + 1) (slice data 56 68) = true ∧
       (fieldLE data 5 1 = 1 → (fieldLE data 4 1).testBit 2 = false)) ∧
     (∀ p ∈ [(Instr.idcode, 1), (.bypass, 2), (.samplePreload, 3)],
       (d.unpowered = false → Does p.1 s fun b a => a.power = { b.power with jtag := p.2 } ∧ b.Keeps a [.power]) ∧
       (d.unpowered = true → Does p.1 s fun b a => b.Keeps a [])) ∧
     (s.Up → data.length = 32 →
       (d.nat Reg.R6060_ATT_STATE = 1 → refused (.attestRequest data) Code.ATTEST_BUSY) ∧
       (d.nat Reg.R6060_ATT_STATE ≠ 1 → 2 ^ 40 ≤ d.flash.attNext → refused (.attestRequest data) Code.ATTEST_EXHAUSTED) ∧
       (d.nat Reg.R6060_ATT_STATE ≠ 1 → d.flash.attNext < 2 ^ 40 → d.flash.attNext ≤ d.flash.attEnd →
         Does (.attestRequest data) s fun b a =>
           a.done = Code.STATUS_OK ∧ a.boot.nonce = some data ∧ a.nat Reg.R6060_ATT_STATE = 1 ∧ a.flash.attNext = b.flash.attNext ∧
           a.flash.attNext < a.flash.attEnd ∧ b.KeepsRegs a [Reg.R6060_ATT_STATE])) ∧
     (s.Live → (d.boot.nonce = none → Does .reportReady s fun b a => b.Keeps a []) ∧
       (∀ n, d.boot.nonce = some n → n.length = 32 → Does .reportReady s fun b a =>
         a.nat Reg.R6060_ATT_STATE = 2 ∧ a.boot.nonce = none ∧ a.flash.attNext = b.flash.attNext + 1 ∧
         (a.bytes Reg.R6060_REPORT).take 40 = leBytes 4 0x54414D4C ++ [1, 0, 0, 0] ++ n ∧
         b.KeepsRegs a [Reg.R6060_ATT_STATE])) ∧
     (s.Up → Does .lpddrRetry s fun b a =>
       a.done = Code.STATUS_OK ∧ mget 0 a.flash.inForce Step.lpddrTrain = 0 ∧ (∀ f ∈ a.flash.failed, f.1 ≠ Step.lpddrTrain) ∧
       b.Keeps a [.flash, .done]))

/-! ## Counters, errors, wear -/

/-- HART_COUNTER_OVERFLOW to BANDWIDTH_WINDOW_END (R501, R503 to R507). -/
def Obligations.CountersAndWindows : Prop :=
  ∀ (s : State), s.Live →
    let d := s.found
    (∀ h < 48, ∀ i < 8, ∀ c : HartContext,
      let toS := c.priv ≤ 1 ∧ c.csr.mideleg.testBit 13 = true
      (d.issuing h = true → d.bit (Reg.R7810_OVF h) i = false → Does (.hartCounterOverflow h i c.toHartRegs c.csr) s fun b a =>
        a.bit (Reg.R7810_OVF h) i = true ∧ (∀ k, k / 2 ≠ h / 2 → a.hart k = b.hart k) ∧
        (toS → (a.hart h).scause = 2 ^ 63 + 13 ∧ (a.hart h).sepc = c.pc ∧
          (a.hart h).ctx.pc = vectorOf c.csr.stvec (2 ^ 63 + 13)) ∧
        (¬toS → (a.hart h).mcause = 2 ^ 63 + 13 ∧ (a.hart h).mepc = c.pc ∧
          (a.hart h).ctx.pc = vectorOf c.csr.mtvec (2 ^ 63 + 13)) ∧
        b.KeepsRegs a [Reg.R7810_OVF h] ∧ b.Keeps a [.od, .sett]) ∧
      (d.issuing h = false ∨ d.bit (Reg.R7810_OVF h) i = true → Does (.hartCounterOverflow h i c.toHartRegs c.csr) s fun b a => b.Keeps a [])) ∧
    (∀ n i, 0x30 ≤ n → n ≤ 0x4A → i < 8 →
      (d.bit (Reg.R7810_OVF_IRQ n) i = true → Does (.counterOverflow n i) s fun b a =>
        a.bit (Reg.R7810_OVF n) i = true ∧ 176 ∈ a.plic ∧ a.LastRaised Code.COUNTER_OVERFLOW Kind.other 0 ∧
        b.KeepsRegs a (Reg.R7810_OVF n :: logRegs)) ∧
      (d.bit (Reg.R7810_OVF_IRQ n) i = false → Does (.counterOverflow n i) s fun b a =>
        a.bit (Reg.R7810_OVF n) i = true ∧ b.KeepsRegs a [Reg.R7810_OVF n] ∧ b.Keeps a [.od])) ∧
    (s.Up → Does .counterSnapshot s fun b a => a.done = Code.STATUS_OK ∧ a.health.snapAsk = true ∧ b.Keeps a [.health, .done]) ∧
    (d.health.snapAsk = false → Does .snapshotLatch s fun b a => b.Keeps a []) ∧
    (d.health.snapAsk = true → Does .snapshotLatch s fun b a =>
      a.health.snapAsk = false ∧ a.reg Reg.R7800_SNAP_SEQ = (odType Reg.R7800_SNAP_SEQ).wrap (b.reg Reg.R7800_SNAP_SEQ + 1) ∧
      a.reg Reg.R7800_SNAP_TICK = (odType Reg.R7800_SNAP_TICK).wrap b.tickAbs ∧
      (∀ n < 0x4B, a.reg (Reg.R7810_SNAP_OVF n) = (odType (Reg.R7810_SNAP_OVF n)).wrap (b.reg (Reg.R7810_OVF n)) ∧
        ∀ i < 8, b.evsel n i ∈ [0, 2, 3] → b.nat (Reg.R7810_COUNT_0 n + i) < 2 ^ 48 →
          a.nat (Reg.R7810_SNAP_0 n + i) = b.nat (Reg.R7810_COUNT_0 n + i)) ∧
      ∀ p < 11, a.reg (Reg.R7880_SNAP_0 p) = (odType (Reg.R7880_SNAP_0 p)).wrap (b.reg (Reg.R7880_BYTES_0 p)) ∧
        a.reg (Reg.R7880_SNAP_1 p) = (odType (Reg.R7880_SNAP_1 p)).wrap (b.reg (Reg.R7880_BYTES_1 p))) ∧
    (∀ on, s.Up → Does (.freeze on) s fun b a =>
      a.done = Code.STATUS_OK ∧ a.health.freezeTo = some on ∧ a.flag Reg.R7800_FREEZE = b.flag Reg.R7800_FREEZE ∧
      b.Keeps a [.health, .done]) ∧
    (∀ on, d.health.freezeTo = some on → Does .freezeApply s fun b a =>
      a.flag Reg.R7800_FREEZE = on ∧ a.health.freezeTo = none ∧ b.KeepsRegs a [Reg.R7800_FREEZE] ∧ b.Keeps a [.od, .health]) ∧
    (d.health.freezeTo = none → Does .freezeApply s fun b a => b.Keeps a []) ∧
    (∀ ns, s.Up →
      (1000 ≤ ns → ns ≤ 1000000000 → Does (.windowNs ns) s fun b a =>
        a.done = Code.STATUS_OK ∧ a.nat Reg.R7800_WINDOW_NS = ns ∧ a.health.windowAt = none ∧
        b.KeepsRegs a [Reg.R7800_WINDOW_NS] ∧ b.Keeps a [.od, .health, .done]) ∧
      (ns < 1000 ∨ 1000000000 < ns → Does (.windowNs ns) s fun b a => a.done = Code.OD_RANGE ∧ b.Keeps a [.done])) ∧
    (∀ bytes, d.health.windowAt = none → Does (.bandwidthWindowEnd bytes) s fun b a => b.Keeps a []) ∧
    (∀ bytes t, d.health.windowAt = some t → d.clk.raw + 31250 ≤ t → Does (.bandwidthWindowEnd bytes) s fun b a => b.Keeps a []) ∧
    (∀ bytes t, t < d.clk.raw + 31250 → bytes.length = 11 → (∀ x ∈ bytes, x.1 < 2 ^ 64 ∧ x.2 < 2 ^ 64) → d.health.windowAt = some t →
      Does (.bandwidthWindowEnd bytes) s fun b a =>
        a.health.windowAt = some (t + b.nat Reg.R7800_WINDOW_NS) ∧
        ∀ p < 11, let x := bytes.getD p (0, 0)
          a.reg (Reg.R7880_BYTES_0 p) = (odType (Reg.R7880_BYTES_0 p)).wrap x.1 ∧
          a.reg (Reg.R7880_BYTES_1 p) = (odType (Reg.R7880_BYTES_1 p)).wrap x.2 ∧
          a.reg (Reg.R7880_PEAK_0 p) = (odType (Reg.R7880_PEAK_0 p)).wrap (max (b.nat (Reg.R7880_PEAK_0 p)) x.1 : Nat) ∧
          a.reg (Reg.R7880_PEAK_1 p) = (odType (Reg.R7880_PEAK_1 p)).wrap (max (b.nat (Reg.R7880_PEAK_1 p)) x.2 : Nat))

/-- CORRECTED_ERROR, UNCORRECTABLE_ERROR, SCRUB_READ, SENSOR_READING (R509 to R511, R517). RETIRE, SPARE_POLICY_EVALUATION,
UNIT_RETIRED, PAGE_RETIRED (R513 to R516). -/
def Obligations.ErrorsAndSpares : Prop :=
  (∀ (s : State) (kind n addr sym pat : Nat), s.Live →
     let d := s.found
     let known := d.ceWords.any (fun w => w.addr == addr)
     let kept := fun (b a : Dev) => (∃ w ∈ a.health.words, w.addr = addr ∧ w.kind = kind ∧ w.unit = n ∧ w.raw = b.rawNow) ∧
       (∀ w, w.addr ≠ addr → (w ∈ a.health.words ↔ w ∈ b.ceWords)) ∧ a.health.poisoned = b.health.poisoned
     kind ≠ UKind.page →
     ((d.health.written.contains (addr, sym) = false → Does (.correctedError kind n addr sym pat) s fun b a =>
         kept b a ∧ a.log = b.log ∧ (known = true → a.health.log = b.health.log ∧ b.KeepsRegs a []) ∧
         (known = false → a.reg Reg.R7020_NEXT_SEQ = (odType Reg.R7020_NEXT_SEQ).wrap (b.reg Reg.R7020_NEXT_SEQ + 1) ∧
           b.KeepsRegs a [Reg.R7020_NEXT_SEQ, Reg.R7020_LOG_WRAPPED])) ∧
       (d.health.written.contains (addr, sym) = true → Does (.correctedError kind n addr sym pat) s fun b a =>
         kept b a ∧ (kind, n, 2 ^ 31) ∈ a.health.due ∧ a.LastRaised Code.HARD_FAULT Kind.other 0)) ∧
     (∀ e c, let w := addr / 8 * 8
       Does (.uncorrectableError kind n addr 0 e c) s fun b a =>
         a.LastRaised Code.UNCORRECTABLE_ERROR Kind.other 0 ∧ a.sett = b.sett ∧ a.mem = b.mem ∧
         (aeCell w = none → a.aes = b.aes ∧ ∀ x, x ∈ a.health.poisoned ↔ x = w ∨ x ∈ b.health.poisoned) ∧
         ∀ f sub o, aeCell w = some (f, sub, o) → (a.ae f).poisoned (w % 0x800000) = true ∧
           a.health.poisoned = b.health.poisoned ∧ ∀ g, g ≠ f → a.ae g = b.ae g) ∧
     (∀ raced, Does (.scrubRead kind n addr 0 pat raced) s fun b a =>
       a.health.written = b.health.written.filter (fun x => x.1 != addr) ∧ b.Keeps a [.health]) ∧
     (d.health.written.contains (addr, sym) = false →
       Does (.scrubRead kind n addr (sym + 1) pat false) s (fun b a => kept b a ∧ (addr, sym) ∈ a.health.written) ∧
       Does (.scrubRead kind n addr (sym + 1) pat true) s (fun b a => kept b a ∧ (addr, sym) ∉ a.health.written)) ∧
     (∀ v : Int, n < 26 → -2 ^ 31 ≤ v → v < 2 ^ 31 →
       let ep := mget ({} : WarnEp) d.health.warn (256 * n)
       let hot := d.reg Reg.R7000_AGE_WARN_PPM ≤ v
       let worst := if ep.seen = true then max (d.reg (Reg.R7080_AGE_WORST n)) v else v
       Does (.sensorReading Sensor.ageing n v) s fun b a =>
         a.reg (Reg.R7080_AGE_LAST n) = (odType (Reg.R7080_AGE_LAST n)).wrap v ∧
         a.reg (Reg.R7080_AGE_WORST n) = (odType (Reg.R7080_AGE_WORST n)).wrap worst ∧
         (ep.on = false → hot → a.LastRaised Code.AGEING_HIGH Kind.unit n ∧ (mget ({} : WarnEp) a.health.warn (256 * n)).on = true) ∧
         (¬(ep.on = false ∧ hot) → a.log = b.log ∧ a.health.log = b.health.log) ∧
         (d.reg Reg.R7000_AGE_RETIRE_PPM ≤ v → ∃ x, (UKind.core, n, x) ∈ a.health.due ∧ v - d.reg Reg.R7000_AGE_RETIRE_PPM ≤ x) ∧
         (v < d.reg Reg.R7000_AGE_RETIRE_PPM → a.health.due = b.health.due) ∧
         (∀ u, u ≠ n → a.reg (Reg.R7080_AGE_LAST u) = b.reg (Reg.R7080_AGE_LAST u)))) ∧
  (∀ (s : State) (kind n : Nat), s.Live →
     let d := s.found
     let recorded := fun (b a : Dev) (spare : Nat) =>
       a.flash.spared = b.flash.spared ++ [(kind, n, spare)] ∧ a.flash.retired = b.flash.retired ++ [(kind, n, false)] ∧
       (∀ x ∈ a.health.due, x.1 ≠ kind ∨ x.2.1 ≠ n) ∧ (∀ w ∈ a.health.work, w.kind ≠ kind ∨ w.unit ≠ n)
     (∀ v, s.Up → v < 2 ^ 32 →
       let k := v / 2 ^ 24
       let m := v % 2 ^ 24
       (k ≤ 5 → sparesFor k m ≠ [] → Does (.retire v) s fun b a =>
         a.done = Code.STATUS_OK ∧ (∀ x, x ∈ a.health.asked ↔ x = (k, m) ∨ x ∈ b.health.asked) ∧ b.Keeps a [.health, .done]) ∧
       (5 < k → Does (.retire v) s fun b a => a.done = Code.OD_RANGE ∧ b.Keeps a [.done])) ∧
     (d.flag Reg.R7000_POLICY_EN = false ∨ (d.health.due = [] ∧ d.health.asked = []) → Does .sparePolicyEvaluation s fun b a =>
       b.Keeps a [.aon] ∧ (b.nat Reg.R1140_WALL_STATE ≠ 2 → a.aon = { b.aon with seconds := b.aon.seconds + 1 })) ∧
     (∀ x, d.flag Reg.R7000_POLICY_EN = true → d.health.due = [(UKind.core, n, x)] → d.health.asked = [] → d.health.work = [] →
       d.flash.retired = [] → d.flash.spared = [] → n < 24 → Does .sparePolicyEvaluation s fun b a =>
         a.health.work = [{ kind := UKind.core, unit := n, spare := 24, cycle := b.clk.cycle64 + 1 }] ∧ a.log = b.log ∧
         a.flash = b.flash ∧ b.KeepsRegs a []) ∧
     (d.retireDue kind n = none →
       Does (.unitRetired kind n) s (fun b a => b.Keeps a []) ∧ Does (.pageRetired kind n) s fun b a => b.Keeps a []) ∧
     (∀ spare, d.retireDue kind n = some spare →
       (kind = UKind.distance → n < 17 → spare < 17 → n ≠ spare → Does (.unitRetired kind n) s fun b a =>
         recorded b a spare ∧ a.bit Reg.R3101_UNIT_MAP n = false ∧ a.bit Reg.R3101_UNIT_MAP spare = true ∧
         a.LastRaised Code.UNIT_RETIRED Kind.unit (31 + n)) ∧
       (kind = UKind.page → Does (.pageRetired kind n) s fun b a =>
         recorded b a spare ∧ a.LastRaised Code.PAGE_RETIRED Kind.other 0)))

/-! ## Supplies, resets, the lid -/

/-- FEED_LOSS, FEED_RESTORED, POWER_LOSS_STOP, VBAT_LOSS, VBAT_APPLIED, RESET_N, PERST_N, REFCLK_FAULT (R430, R526 to R534).
BANK_POWER_LOSS, BANK_POWER_RESTORED, LID_TEMP_READING, TEMP_CRITICAL (R537, R546). -/
def Obligations.SuppliesAndLid : Prop :=
  (∀ (s : State), s.ClockOk →
     let d := s.found
     let off := DevState.off
     let on := DevState.alwaysOn
     (∀ i < 2, d.power.feeds < 4 →
       (d.power.feeds.testBit i = true → Does (.feedLoss i) s fun b a =>
         a.power.feeds.testBit i = false ∧ a.power.feeds.testBit (1 - i) = b.power.feeds.testBit (1 - i) ∧
         (b.unpowered = true → b.Keeps a [.power]) ∧
         (b.unpowered = false → a.LastRaised Code.FEED_LOSS Kind.other 0 ∧
           a.nat Reg.R5802_FEED_LOSSES = min (b.nat Reg.R5802_FEED_LOSSES + 1) 0xFFFFFFFF ∧
           b.KeepsRegs a (Reg.R5802_FEED_LOSSES :: logRegs) ∧ b.Keeps a (.power :: logParts))) ∧
       (d.power.feeds.testBit i = false → Does (.feedLoss i) s fun b a => b.Keeps a []) ∧
       (d.power.feeds.testBit i = false → Does (.feedRestored i) s fun b a =>
         a.power.feeds.testBit i = true ∧ a.power.feeds.testBit (1 - i) = b.power.feeds.testBit (1 - i) ∧
         (b.dark = true → b.Keeps a [.power]) ∧
         (b.dark = false → a.LastRaised Code.FEED_RESTORED Kind.other 0 ∧ b.KeepsRegs a logRegs ∧ b.Keeps a (.power :: logParts))) ∧
       (d.power.feeds.testBit i = true → Does (.feedRestored i) s fun b a => b.Keeps a [])) ∧
     (∀ step, d.unpowered = true → Does (.powerLossStop step) s fun b a => b.Keeps a []) ∧
     (d.unpowered = false → Does (.powerLossStop 0) s fun b a =>
       a.state = (if b.power.vbat = true then on else off) ∧ a.boot.held = true ∧ a.power = { b.power with feeds := 0 } ∧
       a.dark = true ∧ a.nat Reg.R1003_NEXT_SEQ = 0 ∧
       (b.power.vbat = true → a.aon.feedLoss = true ∧ a.aon.seconds = b.aon.seconds) ∧
       (b.power.vbat = false → a.aon.lost = true ∧ a.aon.seconds = 0)) ∧
     (d.unpowered = false →
       Does .vbatLoss s (fun b a => a.power = { b.power with vbat := false } ∧ b.Keeps a [.power]) ∧
       Does .vbatApplied s fun b a => a.power = { b.power with vbat := true } ∧ b.Keeps a [.power]) ∧
     (d.unpowered = true →
       Does .vbatLoss s (fun b a => a.state = off ∧ a.power.vbat = false ∧ a.aon = { lost := true } ∧
         b.KeepsRegs a [Reg.R1001_DEV_STATE]) ∧
       Does .vbatApplied s fun b a => a.state = on ∧ a.power.vbat = true ∧ a.aon = b.aon ∧ b.KeepsRegs a [Reg.R1001_DEV_STATE]) ∧
     (d.unpowered = true → ∀ step, Does (.resetN step) s fun b a => a.power.resetN = false ∧ b.Keeps a [.power]) ∧
     (d.unpowered = false → Does (.resetN 0) s fun b a =>
       a.boot.held = true ∧ a.dark = true ∧ a.state = DevState.boot ∧ a.boot.resetBy = 2 ∧
       a.power = { b.power with resetN := false } ∧ a.aon = b.aon) ∧
     Does (.perstN true) s (fun b a => a.power = { b.power with perstN := true } ∧ b.Keeps a [.power]) ∧
     Does (.perstN false) s (fun b a => a.power = { b.power with perstN := false } ∧
       (∀ i < 16, (a.ring i).size = 0 ∧ (a.ring i).state = 0 ∧ (a.ring i).head = 0 ∧ (a.ring i).tail = 0) ∧
       (∀ ch, a.hostDmaOf ch = {}) ∧ a.event = b.event ∧ b.Keeps a [.power, .serve]) ∧
     (s.Live → d.net ≠ NetState.inSync → Does .refclkFault s fun b a =>
       a.LastRaised Code.REFCLK_FAULT Kind.device 0 ∧ b.KeepsRegs a logRegs ∧ b.Keeps a logParts) ∧
     (s.Live → d.net = NetState.inSync → d.active = false → Does .refclkFault s fun b a =>
       a.net = NetState.listen ∧ (b.state = DevState.run → a.state = DevState.safe ∧ a.nat Reg.R1001_SAFE_CAUSE = Code.REFCLK_FAULT) ∧
       (b.state ≠ DevState.run → a.state = b.state ∧ a.LastRaised Code.REFCLK_FAULT Kind.device 0))) ∧
  (∀ (s : State), s.Live → s.ClockOk →
     let d := s.found
     (∀ n < 4, ∀ mv < 65536,
       let lost := d.nat (Reg.R4000_STATE_1 + n) = 1 ∧ mv * 100 < d.nat (Reg.R4000_NOMINAL_MV_1 + n) * 85
       (lost → Does (.bankPowerLoss n mv) s fun b a =>
         a.nat (Reg.R4000_STATE_1 + n) = 2 ∧ a.nat (Reg.R4000_MV_1 + n) = mv ∧
         (n ≠ 2 → a.nat Reg.R4000_LOSSES = min (b.nat Reg.R4000_LOSSES + 1) 0xFFFFFFFF) ∧
         (n = 2 → a.boot.held = true ∧ a.dark = true ∧ a.LastRaised Code.BANK_POWER_LOSS Kind.other 0)) ∧
       (¬lost → Does (.bankPowerLoss n mv) s fun b a => b.Keeps a []) ∧
       (let back := d.nat (Reg.R4000_STATE_1 + n) = 2 ∧ nominalOf n mv = some (d.nat (Reg.R4000_NOMINAL_MV_1 + n));
         (back → Does (.bankPowerRestored n mv) s fun b a =>
           a.nat (Reg.R4000_STATE_1 + n) = 1 ∧ a.nat (Reg.R4000_MV_1 + n) = mv ∧
           a.LastRaised Code.BANK_POWER_RESTORED Kind.other 0 ∧
           b.KeepsRegs a ([Reg.R4000_STATE_1 + n, Reg.R4000_MV_1 + n] ++ logRegs)) ∧
         (¬back → Does (.bankPowerRestored n mv) s fun b a => b.Keeps a []))) ∧
     (∀ code : Nat, code < 2 ^ 32 →
       let t := f32 code
       (t < 115 → d.boot.hot = false → Does (.lidTempReading code) s fun b a =>
         a.reg Reg.R7060_LID_TEMP = (odType Reg.R7060_LID_TEMP).wrap code ∧
         (f32 (b.reg Reg.R7060_LID_MAX) < t → a.reg Reg.R7060_LID_MAX = (odType Reg.R7060_LID_MAX).wrap code) ∧
         (t ≤ f32 (b.reg Reg.R7060_LID_MAX) → a.reg Reg.R7060_LID_MAX = b.reg Reg.R7060_LID_MAX) ∧
         (95 ≤ t → b.health.lidEp.on = false → a.LastRaised Code.TEMP_HIGH Kind.device 0 ∧ a.health.lidEp.on = true) ∧
         (t < 95 ∨ b.health.lidEp.on = true → a.log = b.log) ∧ a.state = b.state ∧ a.boot = b.boot ∧
         (105 ≤ t → a.health.lidHot = some (b.health.lidHot.getD b.rawNow)) ∧ (t < 105 → a.health.lidHot = none)) ∧
       (115 ≤ t → d.boot.hot = false → Does (.lidTempReading code) s fun b a =>
         a.boot.held = true ∧ a.boot.hot = true ∧ a.dark = true ∧ a.power = b.power ∧ a.aon.feedLoss = true ∧
         a.reg Reg.R7060_LID_TEMP = (odType Reg.R7060_LID_TEMP).wrap code)) ∧
     (∀ t, d.health.lidHot = some t → t + 1000000000 ≤ d.rawNow → DevState.config ≤ d.state → d.state ≠ DevState.failed →
       Does .tempCritical s fun _ a =>
         a.state = DevState.safe ∧ a.nat Reg.R1001_SAFE_CAUSE = Code.TEMP_CRITICAL ∧ a.health.lidHot = none ∧
         (∀ n < 128, a.flag (Reg.R5080_PERMIT n) = false)) ∧
     (d.health.lidHot = none ∨ (∀ t, d.health.lidHot = some t → d.rawNow < t + 1000000000) → Does .tempCritical s fun b a =>
       b.Keeps a []))
end

