-- ==== Sys2Proof/Laws/State.lean ====
section
/-! SUPPORT. The small lemmas of the device's updates: what each writes and that it leaves every other part alone. -/

namespace Sys2Proof.Machine

@[simp] theorem Dev.set_keeps (d : Dev) (k : Nat) (v : Int) :
    (d.set k v).clk = d.clk ∧ (d.set k v).ph = d.ph ∧ (d.set k v).wall = d.wall ∧ (d.set k v).dom = d.dom ∧
    (d.set k v).gen = d.gen ∧ (d.set k v).log = d.log ∧ (d.set k v).fresh = d.fresh ∧ (d.set k v).plic = d.plic ∧
    (d.set k v).pend = d.pend ∧ (d.set k v).cpi = d.cpi ∧ (d.set k v).waits = d.waits ∧ (d.set k v).acts = d.acts ∧
    (d.set k v).io = d.io ∧ (d.set k v).axes = d.axes ∧ (d.set k v).eng = d.eng ∧ (d.set k v).chains = d.chains ∧
    (d.set k v).zones = d.zones ∧ (d.set k v).geom = d.geom ∧ (d.set k v).sep = d.sep ∧ (d.set k v).lateP = d.lateP ∧
    (d.set k v).lateC = d.lateC ∧ (d.set k v).ident = d.ident ∧ (d.set k v).aes = d.aes ∧ (d.set k v).safe = d.safe ∧
    (d.set k v).link = d.link ∧ (d.set k v).out = d.out ∧ (d.set k v).ptp = d.ptp ∧ (d.set k v).pair = d.pair ∧
    (d.set k v).sett = d.sett ∧ (d.set k v).dma = d.dma ∧ (d.set k v).mem = d.mem ∧ (d.set k v).done = d.done ∧
    (d.set k v).event = d.event ∧ (d.set k v).serve = d.serve ∧ (d.set k v).resp = d.resp ∧ (d.set k v).aon = d.aon ∧
    (d.set k v).flash = d.flash ∧ (d.set k v).boot = d.boot ∧ (d.set k v).health = d.health ∧ (d.set k v).power = d.power := by
  and_intros <;> rfl

@[simp] theorem Dev.set_od (d : Dev) (k : Nat) (v : Int) : (d.set k v).od = mset (odDefault k) d.od k ((odType k).wrap v) := rfl

@[simp] theorem Dev.finish_keeps (d : Dev) (c : Nat) :
    (d.finish c).clk = d.clk ∧ (d.finish c).ph = d.ph ∧ (d.finish c).wall = d.wall ∧ (d.finish c).od = d.od ∧
    (d.finish c).dom = d.dom ∧ (d.finish c).gen = d.gen ∧ (d.finish c).log = d.log ∧ (d.finish c).fresh = d.fresh ∧
    (d.finish c).plic = d.plic ∧ (d.finish c).pend = d.pend ∧ (d.finish c).cpi = d.cpi ∧ (d.finish c).waits = d.waits ∧
    (d.finish c).acts = d.acts ∧ (d.finish c).io = d.io ∧ (d.finish c).axes = d.axes ∧ (d.finish c).eng = d.eng ∧
    (d.finish c).chains = d.chains ∧ (d.finish c).zones = d.zones ∧ (d.finish c).geom = d.geom ∧ (d.finish c).sep = d.sep ∧
    (d.finish c).lateP = d.lateP ∧ (d.finish c).lateC = d.lateC ∧ (d.finish c).ident = d.ident ∧ (d.finish c).aes = d.aes ∧
    (d.finish c).safe = d.safe ∧ (d.finish c).link = d.link ∧ (d.finish c).out = d.out ∧ (d.finish c).ptp = d.ptp ∧
    (d.finish c).pair = d.pair ∧ (d.finish c).sett = d.sett ∧ (d.finish c).dma = d.dma ∧ (d.finish c).mem = d.mem ∧
    (d.finish c).event = d.event ∧ (d.finish c).serve = d.serve ∧ (d.finish c).resp = d.resp ∧ (d.finish c).aon = d.aon ∧
    (d.finish c).flash = d.flash ∧ (d.finish c).boot = d.boot ∧ (d.finish c).health = d.health ∧
    (d.finish c).power = d.power := by
  and_intros <;> rfl

@[simp] theorem Dev.finish_done (d : Dev) (c : Nat) : (d.finish c).done = c := rfl

@[simp] theorem Dev.at_keeps (d : Dev) (n : Nat) :
    (d.at n).clk = d.clk ∧ (d.at n).wall = d.wall ∧ (d.at n).od = d.od ∧ (d.at n).dom = d.dom ∧ (d.at n).gen = d.gen ∧
    (d.at n).log = d.log ∧ (d.at n).fresh = d.fresh ∧ (d.at n).plic = d.plic ∧ (d.at n).pend = d.pend ∧
    (d.at n).cpi = d.cpi ∧ (d.at n).waits = d.waits ∧ (d.at n).acts = d.acts ∧ (d.at n).io = d.io ∧
    (d.at n).axes = d.axes ∧ (d.at n).eng = d.eng ∧ (d.at n).chains = d.chains ∧ (d.at n).zones = d.zones ∧
    (d.at n).geom = d.geom ∧ (d.at n).sep = d.sep ∧ (d.at n).lateP = d.lateP ∧ (d.at n).lateC = d.lateC ∧
    (d.at n).ident = d.ident ∧ (d.at n).aes = d.aes ∧ (d.at n).safe = d.safe ∧ (d.at n).link = d.link ∧
    (d.at n).out = d.out ∧ (d.at n).ptp = d.ptp ∧ (d.at n).pair = d.pair ∧ (d.at n).sett = d.sett ∧ (d.at n).dma = d.dma ∧
    (d.at n).mem = d.mem ∧ (d.at n).done = d.done ∧ (d.at n).event = d.event ∧ (d.at n).serve = d.serve ∧
    (d.at n).resp = d.resp ∧ (d.at n).aon = d.aon ∧ (d.at n).flash = d.flash ∧ (d.at n).boot = d.boot ∧
    (d.at n).health = d.health ∧ (d.at n).power = d.power := by
  and_intros <;> rfl

@[simp] theorem Dev.setAxis_keeps (d : Dev) (n : Nat) (a : Axis) :
    (d.setAxis n a).clk = d.clk ∧ (d.setAxis n a).ph = d.ph ∧ (d.setAxis n a).wall = d.wall ∧ (d.setAxis n a).od = d.od ∧
    (d.setAxis n a).dom = d.dom ∧ (d.setAxis n a).gen = d.gen ∧ (d.setAxis n a).log = d.log ∧
    (d.setAxis n a).fresh = d.fresh ∧ (d.setAxis n a).plic = d.plic ∧ (d.setAxis n a).pend = d.pend ∧
    (d.setAxis n a).cpi = d.cpi ∧ (d.setAxis n a).waits = d.waits ∧ (d.setAxis n a).acts = d.acts ∧
    (d.setAxis n a).io = d.io ∧ (d.setAxis n a).eng = d.eng ∧ (d.setAxis n a).chains = d.chains ∧
    (d.setAxis n a).zones = d.zones ∧ (d.setAxis n a).geom = d.geom ∧ (d.setAxis n a).sep = d.sep ∧
    (d.setAxis n a).lateP = d.lateP ∧ (d.setAxis n a).lateC = d.lateC ∧ (d.setAxis n a).ident = d.ident ∧
    (d.setAxis n a).aes = d.aes ∧ (d.setAxis n a).safe = d.safe ∧ (d.setAxis n a).link = d.link ∧
    (d.setAxis n a).out = d.out ∧ (d.setAxis n a).ptp = d.ptp ∧ (d.setAxis n a).pair = d.pair ∧
    (d.setAxis n a).sett = d.sett ∧ (d.setAxis n a).dma = d.dma ∧ (d.setAxis n a).mem = d.mem ∧
    (d.setAxis n a).done = d.done ∧ (d.setAxis n a).event = d.event ∧ (d.setAxis n a).serve = d.serve ∧
    (d.setAxis n a).resp = d.resp ∧ (d.setAxis n a).aon = d.aon ∧ (d.setAxis n a).flash = d.flash ∧
    (d.setAxis n a).boot = d.boot ∧ (d.setAxis n a).health = d.health ∧ (d.setAxis n a).power = d.power := by
  and_intros <;> rfl

@[simp] theorem Dev.setAxis_axes (d : Dev) (n : Nat) (a : Axis) : (d.setAxis n a).axes = mset {} d.axes n a := rfl

@[simp] theorem Dev.modAxis_keeps (d : Dev) (n : Nat) (f : Axis → Axis) :
    (d.modAxis n f).clk = d.clk ∧ (d.modAxis n f).ph = d.ph ∧ (d.modAxis n f).wall = d.wall ∧ (d.modAxis n f).od = d.od ∧
    (d.modAxis n f).dom = d.dom ∧ (d.modAxis n f).gen = d.gen ∧ (d.modAxis n f).log = d.log ∧
    (d.modAxis n f).fresh = d.fresh ∧ (d.modAxis n f).plic = d.plic ∧ (d.modAxis n f).pend = d.pend ∧
    (d.modAxis n f).cpi = d.cpi ∧ (d.modAxis n f).waits = d.waits ∧ (d.modAxis n f).acts = d.acts ∧
    (d.modAxis n f).io = d.io ∧ (d.modAxis n f).eng = d.eng ∧ (d.modAxis n f).chains = d.chains ∧
    (d.modAxis n f).zones = d.zones ∧ (d.modAxis n f).geom = d.geom ∧ (d.modAxis n f).sep = d.sep ∧
    (d.modAxis n f).lateP = d.lateP ∧ (d.modAxis n f).lateC = d.lateC ∧ (d.modAxis n f).ident = d.ident ∧
    (d.modAxis n f).aes = d.aes ∧ (d.modAxis n f).safe = d.safe ∧ (d.modAxis n f).link = d.link ∧
    (d.modAxis n f).out = d.out ∧ (d.modAxis n f).ptp = d.ptp ∧ (d.modAxis n f).pair = d.pair ∧
    (d.modAxis n f).sett = d.sett ∧ (d.modAxis n f).dma = d.dma ∧ (d.modAxis n f).mem = d.mem ∧
    (d.modAxis n f).done = d.done ∧ (d.modAxis n f).event = d.event ∧ (d.modAxis n f).serve = d.serve ∧
    (d.modAxis n f).resp = d.resp ∧ (d.modAxis n f).aon = d.aon ∧ (d.modAxis n f).flash = d.flash ∧
    (d.modAxis n f).boot = d.boot ∧ (d.modAxis n f).health = d.health ∧ (d.modAxis n f).power = d.power := by
  and_intros <;> rfl

@[simp] theorem Dev.modAxis_axes (d : Dev) (n : Nat) (f : Axis → Axis) : (d.modAxis n f).axes = mset {} d.axes n (f (d.axis n)) := rfl

@[simp] theorem Dev.setChain_keeps (d : Dev) (c : Nat) (x : Chain) :
    (d.setChain c x).clk = d.clk ∧ (d.setChain c x).ph = d.ph ∧ (d.setChain c x).wall = d.wall ∧
    (d.setChain c x).od = d.od ∧ (d.setChain c x).dom = d.dom ∧ (d.setChain c x).gen = d.gen ∧
    (d.setChain c x).log = d.log ∧ (d.setChain c x).fresh = d.fresh ∧ (d.setChain c x).plic = d.plic ∧
    (d.setChain c x).pend = d.pend ∧ (d.setChain c x).cpi = d.cpi ∧ (d.setChain c x).waits = d.waits ∧
    (d.setChain c x).acts = d.acts ∧ (d.setChain c x).io = d.io ∧ (d.setChain c x).axes = d.axes ∧
    (d.setChain c x).eng = d.eng ∧ (d.setChain c x).zones = d.zones ∧ (d.setChain c x).geom = d.geom ∧
    (d.setChain c x).sep = d.sep ∧ (d.setChain c x).lateP = d.lateP ∧ (d.setChain c x).lateC = d.lateC ∧
    (d.setChain c x).ident = d.ident ∧ (d.setChain c x).aes = d.aes ∧ (d.setChain c x).safe = d.safe ∧
    (d.setChain c x).link = d.link ∧ (d.setChain c x).out = d.out ∧ (d.setChain c x).ptp = d.ptp ∧
    (d.setChain c x).pair = d.pair ∧ (d.setChain c x).sett = d.sett ∧ (d.setChain c x).dma = d.dma ∧
    (d.setChain c x).mem = d.mem ∧ (d.setChain c x).done = d.done ∧ (d.setChain c x).event = d.event ∧
    (d.setChain c x).serve = d.serve ∧ (d.setChain c x).resp = d.resp ∧ (d.setChain c x).aon = d.aon ∧
    (d.setChain c x).flash = d.flash ∧ (d.setChain c x).boot = d.boot ∧ (d.setChain c x).health = d.health ∧
    (d.setChain c x).power = d.power := by
  and_intros <;> rfl

@[simp] theorem Dev.setChain_chains (d : Dev) (c : Nat) (x : Chain) : (d.setChain c x).chains = mset {} d.chains c x := rfl

@[simp] theorem Dev.modChain_keeps (d : Dev) (c : Nat) (f : Chain → Chain) :
    (d.modChain c f).clk = d.clk ∧ (d.modChain c f).ph = d.ph ∧ (d.modChain c f).wall = d.wall ∧
    (d.modChain c f).od = d.od ∧ (d.modChain c f).dom = d.dom ∧ (d.modChain c f).gen = d.gen ∧
    (d.modChain c f).log = d.log ∧ (d.modChain c f).fresh = d.fresh ∧ (d.modChain c f).plic = d.plic ∧
    (d.modChain c f).pend = d.pend ∧ (d.modChain c f).cpi = d.cpi ∧ (d.modChain c f).waits = d.waits ∧
    (d.modChain c f).acts = d.acts ∧ (d.modChain c f).io = d.io ∧ (d.modChain c f).axes = d.axes ∧
    (d.modChain c f).eng = d.eng ∧ (d.modChain c f).zones = d.zones ∧ (d.modChain c f).geom = d.geom ∧
    (d.modChain c f).sep = d.sep ∧ (d.modChain c f).lateP = d.lateP ∧ (d.modChain c f).lateC = d.lateC ∧
    (d.modChain c f).ident = d.ident ∧ (d.modChain c f).aes = d.aes ∧ (d.modChain c f).safe = d.safe ∧
    (d.modChain c f).link = d.link ∧ (d.modChain c f).out = d.out ∧ (d.modChain c f).ptp = d.ptp ∧
    (d.modChain c f).pair = d.pair ∧ (d.modChain c f).sett = d.sett ∧ (d.modChain c f).dma = d.dma ∧
    (d.modChain c f).mem = d.mem ∧ (d.modChain c f).done = d.done ∧ (d.modChain c f).event = d.event ∧
    (d.modChain c f).serve = d.serve ∧ (d.modChain c f).resp = d.resp ∧ (d.modChain c f).aon = d.aon ∧
    (d.modChain c f).flash = d.flash ∧ (d.modChain c f).boot = d.boot ∧ (d.modChain c f).health = d.health ∧
    (d.modChain c f).power = d.power := by
  and_intros <;> rfl

@[simp] theorem Dev.modChain_chains (d : Dev) (c : Nat) (f : Chain → Chain) : (d.modChain c f).chains = mset {} d.chains c (f (d.chain c)) := rfl

@[simp] theorem Dev.setZone_keeps (d : Dev) (z : Nat) (x : Zone) :
    (d.setZone z x).clk = d.clk ∧ (d.setZone z x).ph = d.ph ∧ (d.setZone z x).wall = d.wall ∧ (d.setZone z x).od = d.od ∧
    (d.setZone z x).dom = d.dom ∧ (d.setZone z x).gen = d.gen ∧ (d.setZone z x).log = d.log ∧
    (d.setZone z x).fresh = d.fresh ∧ (d.setZone z x).plic = d.plic ∧ (d.setZone z x).pend = d.pend ∧
    (d.setZone z x).cpi = d.cpi ∧ (d.setZone z x).waits = d.waits ∧ (d.setZone z x).acts = d.acts ∧
    (d.setZone z x).io = d.io ∧ (d.setZone z x).axes = d.axes ∧ (d.setZone z x).eng = d.eng ∧
    (d.setZone z x).chains = d.chains ∧ (d.setZone z x).geom = d.geom ∧ (d.setZone z x).sep = d.sep ∧
    (d.setZone z x).lateP = d.lateP ∧ (d.setZone z x).lateC = d.lateC ∧ (d.setZone z x).ident = d.ident ∧
    (d.setZone z x).aes = d.aes ∧ (d.setZone z x).safe = d.safe ∧ (d.setZone z x).link = d.link ∧
    (d.setZone z x).out = d.out ∧ (d.setZone z x).ptp = d.ptp ∧ (d.setZone z x).pair = d.pair ∧
    (d.setZone z x).sett = d.sett ∧ (d.setZone z x).dma = d.dma ∧ (d.setZone z x).mem = d.mem ∧
    (d.setZone z x).done = d.done ∧ (d.setZone z x).event = d.event ∧ (d.setZone z x).serve = d.serve ∧
    (d.setZone z x).resp = d.resp ∧ (d.setZone z x).aon = d.aon ∧ (d.setZone z x).flash = d.flash ∧
    (d.setZone z x).boot = d.boot ∧ (d.setZone z x).health = d.health ∧ (d.setZone z x).power = d.power := by
  and_intros <;> rfl

@[simp] theorem Dev.setZone_zones (d : Dev) (z : Nat) (x : Zone) : (d.setZone z x).zones = mset {} d.zones z x := rfl

@[simp] theorem Dev.setGen_keeps (d : Dev) (g : Nat) (x : InjGen) :
    (d.setGen g x).clk = d.clk ∧ (d.setGen g x).ph = d.ph ∧ (d.setGen g x).wall = d.wall ∧ (d.setGen g x).od = d.od ∧
    (d.setGen g x).dom = d.dom ∧ (d.setGen g x).gen = d.gen ∧ (d.setGen g x).log = d.log ∧ (d.setGen g x).fresh = d.fresh ∧
    (d.setGen g x).plic = d.plic ∧ (d.setGen g x).pend = d.pend ∧ (d.setGen g x).cpi = d.cpi ∧
    (d.setGen g x).waits = d.waits ∧ (d.setGen g x).acts = d.acts ∧ (d.setGen g x).io = d.io ∧
    (d.setGen g x).axes = d.axes ∧ (d.setGen g x).eng = d.eng ∧ (d.setGen g x).chains = d.chains ∧
    (d.setGen g x).zones = d.zones ∧ (d.setGen g x).geom = d.geom ∧ (d.setGen g x).sep = d.sep ∧
    (d.setGen g x).lateP = d.lateP ∧ (d.setGen g x).lateC = d.lateC ∧ (d.setGen g x).aes = d.aes ∧
    (d.setGen g x).safe = d.safe ∧ (d.setGen g x).link = d.link ∧ (d.setGen g x).out = d.out ∧ (d.setGen g x).ptp = d.ptp ∧
    (d.setGen g x).pair = d.pair ∧ (d.setGen g x).sett = d.sett ∧ (d.setGen g x).dma = d.dma ∧ (d.setGen g x).mem = d.mem ∧
    (d.setGen g x).done = d.done ∧ (d.setGen g x).event = d.event ∧ (d.setGen g x).serve = d.serve ∧
    (d.setGen g x).resp = d.resp ∧ (d.setGen g x).aon = d.aon ∧ (d.setGen g x).flash = d.flash ∧
    (d.setGen g x).boot = d.boot ∧ (d.setGen g x).health = d.health ∧ (d.setGen g x).power = d.power := by
  and_intros <;> rfl

@[simp] theorem Dev.setCap_keeps (d : Dev) (g : Nat) (x : CapSet) :
    (d.setCap g x).clk = d.clk ∧ (d.setCap g x).ph = d.ph ∧ (d.setCap g x).wall = d.wall ∧ (d.setCap g x).od = d.od ∧
    (d.setCap g x).dom = d.dom ∧ (d.setCap g x).gen = d.gen ∧ (d.setCap g x).log = d.log ∧ (d.setCap g x).fresh = d.fresh ∧
    (d.setCap g x).plic = d.plic ∧ (d.setCap g x).pend = d.pend ∧ (d.setCap g x).cpi = d.cpi ∧
    (d.setCap g x).waits = d.waits ∧ (d.setCap g x).acts = d.acts ∧ (d.setCap g x).io = d.io ∧
    (d.setCap g x).axes = d.axes ∧ (d.setCap g x).eng = d.eng ∧ (d.setCap g x).chains = d.chains ∧
    (d.setCap g x).zones = d.zones ∧ (d.setCap g x).geom = d.geom ∧ (d.setCap g x).sep = d.sep ∧
    (d.setCap g x).lateP = d.lateP ∧ (d.setCap g x).lateC = d.lateC ∧ (d.setCap g x).aes = d.aes ∧
    (d.setCap g x).safe = d.safe ∧ (d.setCap g x).link = d.link ∧ (d.setCap g x).out = d.out ∧ (d.setCap g x).ptp = d.ptp ∧
    (d.setCap g x).pair = d.pair ∧ (d.setCap g x).sett = d.sett ∧ (d.setCap g x).dma = d.dma ∧ (d.setCap g x).mem = d.mem ∧
    (d.setCap g x).done = d.done ∧ (d.setCap g x).event = d.event ∧ (d.setCap g x).serve = d.serve ∧
    (d.setCap g x).resp = d.resp ∧ (d.setCap g x).aon = d.aon ∧ (d.setCap g x).flash = d.flash ∧
    (d.setCap g x).boot = d.boot ∧ (d.setCap g x).health = d.health ∧ (d.setCap g x).power = d.power := by
  and_intros <;> rfl

@[simp] theorem Dev.setTracker_keeps (d : Dev) (t : Nat) (x : Tracker) :
    (d.setTracker t x).clk = d.clk ∧ (d.setTracker t x).ph = d.ph ∧ (d.setTracker t x).wall = d.wall ∧
    (d.setTracker t x).od = d.od ∧ (d.setTracker t x).dom = d.dom ∧ (d.setTracker t x).gen = d.gen ∧
    (d.setTracker t x).log = d.log ∧ (d.setTracker t x).fresh = d.fresh ∧ (d.setTracker t x).plic = d.plic ∧
    (d.setTracker t x).pend = d.pend ∧ (d.setTracker t x).cpi = d.cpi ∧ (d.setTracker t x).waits = d.waits ∧
    (d.setTracker t x).acts = d.acts ∧ (d.setTracker t x).io = d.io ∧ (d.setTracker t x).axes = d.axes ∧
    (d.setTracker t x).eng = d.eng ∧ (d.setTracker t x).chains = d.chains ∧ (d.setTracker t x).zones = d.zones ∧
    (d.setTracker t x).geom = d.geom ∧ (d.setTracker t x).sep = d.sep ∧ (d.setTracker t x).lateP = d.lateP ∧
    (d.setTracker t x).lateC = d.lateC ∧ (d.setTracker t x).aes = d.aes ∧ (d.setTracker t x).safe = d.safe ∧
    (d.setTracker t x).link = d.link ∧ (d.setTracker t x).out = d.out ∧ (d.setTracker t x).ptp = d.ptp ∧
    (d.setTracker t x).pair = d.pair ∧ (d.setTracker t x).sett = d.sett ∧ (d.setTracker t x).dma = d.dma ∧
    (d.setTracker t x).mem = d.mem ∧ (d.setTracker t x).done = d.done ∧ (d.setTracker t x).event = d.event ∧
    (d.setTracker t x).serve = d.serve ∧ (d.setTracker t x).resp = d.resp ∧ (d.setTracker t x).aon = d.aon ∧
    (d.setTracker t x).flash = d.flash ∧ (d.setTracker t x).boot = d.boot ∧ (d.setTracker t x).health = d.health ∧
    (d.setTracker t x).power = d.power := by
  and_intros <;> rfl

@[simp] theorem Dev.setSafeFn_keeps (d : Dev) (k : Nat) (x : SafeFn) :
    (d.setSafeFn k x).clk = d.clk ∧ (d.setSafeFn k x).ph = d.ph ∧ (d.setSafeFn k x).wall = d.wall ∧
    (d.setSafeFn k x).od = d.od ∧ (d.setSafeFn k x).dom = d.dom ∧ (d.setSafeFn k x).gen = d.gen ∧
    (d.setSafeFn k x).log = d.log ∧ (d.setSafeFn k x).fresh = d.fresh ∧ (d.setSafeFn k x).plic = d.plic ∧
    (d.setSafeFn k x).pend = d.pend ∧ (d.setSafeFn k x).cpi = d.cpi ∧ (d.setSafeFn k x).waits = d.waits ∧
    (d.setSafeFn k x).acts = d.acts ∧ (d.setSafeFn k x).io = d.io ∧ (d.setSafeFn k x).axes = d.axes ∧
    (d.setSafeFn k x).eng = d.eng ∧ (d.setSafeFn k x).chains = d.chains ∧ (d.setSafeFn k x).zones = d.zones ∧
    (d.setSafeFn k x).geom = d.geom ∧ (d.setSafeFn k x).sep = d.sep ∧ (d.setSafeFn k x).lateP = d.lateP ∧
    (d.setSafeFn k x).lateC = d.lateC ∧ (d.setSafeFn k x).ident = d.ident ∧ (d.setSafeFn k x).aes = d.aes ∧
    (d.setSafeFn k x).link = d.link ∧ (d.setSafeFn k x).out = d.out ∧ (d.setSafeFn k x).ptp = d.ptp ∧
    (d.setSafeFn k x).pair = d.pair ∧ (d.setSafeFn k x).sett = d.sett ∧ (d.setSafeFn k x).dma = d.dma ∧
    (d.setSafeFn k x).mem = d.mem ∧ (d.setSafeFn k x).done = d.done ∧ (d.setSafeFn k x).event = d.event ∧
    (d.setSafeFn k x).serve = d.serve ∧ (d.setSafeFn k x).resp = d.resp ∧ (d.setSafeFn k x).aon = d.aon ∧
    (d.setSafeFn k x).flash = d.flash ∧ (d.setSafeFn k x).boot = d.boot ∧ (d.setSafeFn k x).health = d.health ∧
    (d.setSafeFn k x).power = d.power := by
  and_intros <;> rfl

@[simp] theorem Dev.setSafeOut_keeps (d : Dev) (k : Nat) (x : SafeOut) :
    (d.setSafeOut k x).clk = d.clk ∧ (d.setSafeOut k x).ph = d.ph ∧ (d.setSafeOut k x).wall = d.wall ∧
    (d.setSafeOut k x).od = d.od ∧ (d.setSafeOut k x).dom = d.dom ∧ (d.setSafeOut k x).gen = d.gen ∧
    (d.setSafeOut k x).log = d.log ∧ (d.setSafeOut k x).fresh = d.fresh ∧ (d.setSafeOut k x).plic = d.plic ∧
    (d.setSafeOut k x).pend = d.pend ∧ (d.setSafeOut k x).cpi = d.cpi ∧ (d.setSafeOut k x).waits = d.waits ∧
    (d.setSafeOut k x).acts = d.acts ∧ (d.setSafeOut k x).io = d.io ∧ (d.setSafeOut k x).axes = d.axes ∧
    (d.setSafeOut k x).eng = d.eng ∧ (d.setSafeOut k x).chains = d.chains ∧ (d.setSafeOut k x).zones = d.zones ∧
    (d.setSafeOut k x).geom = d.geom ∧ (d.setSafeOut k x).sep = d.sep ∧ (d.setSafeOut k x).lateP = d.lateP ∧
    (d.setSafeOut k x).lateC = d.lateC ∧ (d.setSafeOut k x).ident = d.ident ∧ (d.setSafeOut k x).aes = d.aes ∧
    (d.setSafeOut k x).link = d.link ∧ (d.setSafeOut k x).out = d.out ∧ (d.setSafeOut k x).ptp = d.ptp ∧
    (d.setSafeOut k x).pair = d.pair ∧ (d.setSafeOut k x).sett = d.sett ∧ (d.setSafeOut k x).dma = d.dma ∧
    (d.setSafeOut k x).mem = d.mem ∧ (d.setSafeOut k x).done = d.done ∧ (d.setSafeOut k x).event = d.event ∧
    (d.setSafeOut k x).serve = d.serve ∧ (d.setSafeOut k x).resp = d.resp ∧ (d.setSafeOut k x).aon = d.aon ∧
    (d.setSafeOut k x).flash = d.flash ∧ (d.setSafeOut k x).boot = d.boot ∧ (d.setSafeOut k x).health = d.health ∧
    (d.setSafeOut k x).power = d.power := by
  and_intros <;> rfl

@[simp] theorem Dev.setAxSafe_keeps (d : Dev) (n : Nat) (x : AxSafe) :
    (d.setAxSafe n x).clk = d.clk ∧ (d.setAxSafe n x).ph = d.ph ∧ (d.setAxSafe n x).wall = d.wall ∧
    (d.setAxSafe n x).od = d.od ∧ (d.setAxSafe n x).dom = d.dom ∧ (d.setAxSafe n x).gen = d.gen ∧
    (d.setAxSafe n x).log = d.log ∧ (d.setAxSafe n x).fresh = d.fresh ∧ (d.setAxSafe n x).plic = d.plic ∧
    (d.setAxSafe n x).pend = d.pend ∧ (d.setAxSafe n x).cpi = d.cpi ∧ (d.setAxSafe n x).waits = d.waits ∧
    (d.setAxSafe n x).acts = d.acts ∧ (d.setAxSafe n x).io = d.io ∧ (d.setAxSafe n x).axes = d.axes ∧
    (d.setAxSafe n x).eng = d.eng ∧ (d.setAxSafe n x).chains = d.chains ∧ (d.setAxSafe n x).zones = d.zones ∧
    (d.setAxSafe n x).geom = d.geom ∧ (d.setAxSafe n x).sep = d.sep ∧ (d.setAxSafe n x).lateP = d.lateP ∧
    (d.setAxSafe n x).lateC = d.lateC ∧ (d.setAxSafe n x).ident = d.ident ∧ (d.setAxSafe n x).aes = d.aes ∧
    (d.setAxSafe n x).link = d.link ∧ (d.setAxSafe n x).out = d.out ∧ (d.setAxSafe n x).ptp = d.ptp ∧
    (d.setAxSafe n x).pair = d.pair ∧ (d.setAxSafe n x).sett = d.sett ∧ (d.setAxSafe n x).dma = d.dma ∧
    (d.setAxSafe n x).mem = d.mem ∧ (d.setAxSafe n x).done = d.done ∧ (d.setAxSafe n x).event = d.event ∧
    (d.setAxSafe n x).serve = d.serve ∧ (d.setAxSafe n x).resp = d.resp ∧ (d.setAxSafe n x).aon = d.aon ∧
    (d.setAxSafe n x).flash = d.flash ∧ (d.setAxSafe n x).boot = d.boot ∧ (d.setAxSafe n x).health = d.health ∧
    (d.setAxSafe n x).power = d.power := by
  and_intros <;> rfl

@[simp] theorem Dev.setAe_keeps (d : Dev) (e : Nat) (x : Ae) :
    (d.setAe e x).clk = d.clk ∧ (d.setAe e x).ph = d.ph ∧ (d.setAe e x).wall = d.wall ∧ (d.setAe e x).od = d.od ∧
    (d.setAe e x).dom = d.dom ∧ (d.setAe e x).gen = d.gen ∧ (d.setAe e x).log = d.log ∧ (d.setAe e x).fresh = d.fresh ∧
    (d.setAe e x).plic = d.plic ∧ (d.setAe e x).pend = d.pend ∧ (d.setAe e x).cpi = d.cpi ∧ (d.setAe e x).waits = d.waits ∧
    (d.setAe e x).acts = d.acts ∧ (d.setAe e x).io = d.io ∧ (d.setAe e x).axes = d.axes ∧ (d.setAe e x).eng = d.eng ∧
    (d.setAe e x).chains = d.chains ∧ (d.setAe e x).zones = d.zones ∧ (d.setAe e x).geom = d.geom ∧
    (d.setAe e x).sep = d.sep ∧ (d.setAe e x).lateP = d.lateP ∧ (d.setAe e x).lateC = d.lateC ∧
    (d.setAe e x).ident = d.ident ∧ (d.setAe e x).safe = d.safe ∧ (d.setAe e x).link = d.link ∧ (d.setAe e x).out = d.out ∧
    (d.setAe e x).ptp = d.ptp ∧ (d.setAe e x).pair = d.pair ∧ (d.setAe e x).sett = d.sett ∧ (d.setAe e x).dma = d.dma ∧
    (d.setAe e x).mem = d.mem ∧ (d.setAe e x).done = d.done ∧ (d.setAe e x).event = d.event ∧
    (d.setAe e x).serve = d.serve ∧ (d.setAe e x).resp = d.resp ∧ (d.setAe e x).aon = d.aon ∧
    (d.setAe e x).flash = d.flash ∧ (d.setAe e x).boot = d.boot ∧ (d.setAe e x).health = d.health ∧
    (d.setAe e x).power = d.power := by
  and_intros <;> rfl

@[simp] theorem Dev.setAe_aes (d : Dev) (e : Nat) (x : Ae) : (d.setAe e x).aes = mset {} d.aes e x := rfl

@[simp] theorem Dev.setActRun_keeps (d : Dev) (e : Nat) (x : ActionRun) :
    (d.setActRun e x).clk = d.clk ∧ (d.setActRun e x).ph = d.ph ∧ (d.setActRun e x).wall = d.wall ∧
    (d.setActRun e x).od = d.od ∧ (d.setActRun e x).dom = d.dom ∧ (d.setActRun e x).gen = d.gen ∧
    (d.setActRun e x).log = d.log ∧ (d.setActRun e x).fresh = d.fresh ∧ (d.setActRun e x).plic = d.plic ∧
    (d.setActRun e x).pend = d.pend ∧ (d.setActRun e x).cpi = d.cpi ∧ (d.setActRun e x).waits = d.waits ∧
    (d.setActRun e x).io = d.io ∧ (d.setActRun e x).axes = d.axes ∧ (d.setActRun e x).eng = d.eng ∧
    (d.setActRun e x).chains = d.chains ∧ (d.setActRun e x).zones = d.zones ∧ (d.setActRun e x).geom = d.geom ∧
    (d.setActRun e x).sep = d.sep ∧ (d.setActRun e x).lateP = d.lateP ∧ (d.setActRun e x).lateC = d.lateC ∧
    (d.setActRun e x).ident = d.ident ∧ (d.setActRun e x).aes = d.aes ∧ (d.setActRun e x).safe = d.safe ∧
    (d.setActRun e x).link = d.link ∧ (d.setActRun e x).out = d.out ∧ (d.setActRun e x).ptp = d.ptp ∧
    (d.setActRun e x).pair = d.pair ∧ (d.setActRun e x).sett = d.sett ∧ (d.setActRun e x).dma = d.dma ∧
    (d.setActRun e x).mem = d.mem ∧ (d.setActRun e x).done = d.done ∧ (d.setActRun e x).event = d.event ∧
    (d.setActRun e x).serve = d.serve ∧ (d.setActRun e x).resp = d.resp ∧ (d.setActRun e x).aon = d.aon ∧
    (d.setActRun e x).flash = d.flash ∧ (d.setActRun e x).boot = d.boot ∧ (d.setActRun e x).health = d.health ∧
    (d.setActRun e x).power = d.power := by
  and_intros <;> rfl

@[simp] theorem Dev.setActRun_acts (d : Dev) (e : Nat) (x : ActionRun) : (d.setActRun e x).acts = mset {} d.acts e x := rfl

@[simp] theorem Dev.setCpi_keeps (d : Dev) (e : Nat) (x : Cpi) :
    (d.setCpi e x).clk = d.clk ∧ (d.setCpi e x).ph = d.ph ∧ (d.setCpi e x).wall = d.wall ∧ (d.setCpi e x).od = d.od ∧
    (d.setCpi e x).dom = d.dom ∧ (d.setCpi e x).gen = d.gen ∧ (d.setCpi e x).log = d.log ∧ (d.setCpi e x).fresh = d.fresh ∧
    (d.setCpi e x).plic = d.plic ∧ (d.setCpi e x).pend = d.pend ∧ (d.setCpi e x).waits = d.waits ∧
    (d.setCpi e x).acts = d.acts ∧ (d.setCpi e x).io = d.io ∧ (d.setCpi e x).axes = d.axes ∧ (d.setCpi e x).eng = d.eng ∧
    (d.setCpi e x).chains = d.chains ∧ (d.setCpi e x).zones = d.zones ∧ (d.setCpi e x).geom = d.geom ∧
    (d.setCpi e x).sep = d.sep ∧ (d.setCpi e x).lateP = d.lateP ∧ (d.setCpi e x).lateC = d.lateC ∧
    (d.setCpi e x).ident = d.ident ∧ (d.setCpi e x).aes = d.aes ∧ (d.setCpi e x).safe = d.safe ∧
    (d.setCpi e x).link = d.link ∧ (d.setCpi e x).out = d.out ∧ (d.setCpi e x).ptp = d.ptp ∧ (d.setCpi e x).pair = d.pair ∧
    (d.setCpi e x).sett = d.sett ∧ (d.setCpi e x).dma = d.dma ∧ (d.setCpi e x).mem = d.mem ∧ (d.setCpi e x).done = d.done ∧
    (d.setCpi e x).event = d.event ∧ (d.setCpi e x).serve = d.serve ∧ (d.setCpi e x).resp = d.resp ∧
    (d.setCpi e x).aon = d.aon ∧ (d.setCpi e x).flash = d.flash ∧ (d.setCpi e x).boot = d.boot ∧
    (d.setCpi e x).health = d.health ∧ (d.setCpi e x).power = d.power := by
  and_intros <;> rfl

@[simp] theorem Dev.setCpi_cpi (d : Dev) (e : Nat) (x : Cpi) : (d.setCpi e x).cpi = mset {} d.cpi e x := rfl

@[simp] theorem Dev.setDmaOff_keeps (d : Dev) (ch off : Nat) :
    (d.setDmaOff ch off).clk = d.clk ∧ (d.setDmaOff ch off).ph = d.ph ∧ (d.setDmaOff ch off).wall = d.wall ∧
    (d.setDmaOff ch off).od = d.od ∧ (d.setDmaOff ch off).dom = d.dom ∧ (d.setDmaOff ch off).gen = d.gen ∧
    (d.setDmaOff ch off).log = d.log ∧ (d.setDmaOff ch off).fresh = d.fresh ∧ (d.setDmaOff ch off).plic = d.plic ∧
    (d.setDmaOff ch off).pend = d.pend ∧ (d.setDmaOff ch off).cpi = d.cpi ∧ (d.setDmaOff ch off).waits = d.waits ∧
    (d.setDmaOff ch off).acts = d.acts ∧ (d.setDmaOff ch off).io = d.io ∧ (d.setDmaOff ch off).axes = d.axes ∧
    (d.setDmaOff ch off).eng = d.eng ∧ (d.setDmaOff ch off).chains = d.chains ∧ (d.setDmaOff ch off).zones = d.zones ∧
    (d.setDmaOff ch off).geom = d.geom ∧ (d.setDmaOff ch off).sep = d.sep ∧ (d.setDmaOff ch off).lateP = d.lateP ∧
    (d.setDmaOff ch off).lateC = d.lateC ∧ (d.setDmaOff ch off).ident = d.ident ∧ (d.setDmaOff ch off).aes = d.aes ∧
    (d.setDmaOff ch off).safe = d.safe ∧ (d.setDmaOff ch off).link = d.link ∧ (d.setDmaOff ch off).out = d.out ∧
    (d.setDmaOff ch off).ptp = d.ptp ∧ (d.setDmaOff ch off).pair = d.pair ∧ (d.setDmaOff ch off).sett = d.sett ∧
    (d.setDmaOff ch off).mem = d.mem ∧ (d.setDmaOff ch off).done = d.done ∧ (d.setDmaOff ch off).event = d.event ∧
    (d.setDmaOff ch off).serve = d.serve ∧ (d.setDmaOff ch off).resp = d.resp ∧ (d.setDmaOff ch off).aon = d.aon ∧
    (d.setDmaOff ch off).flash = d.flash ∧ (d.setDmaOff ch off).boot = d.boot ∧ (d.setDmaOff ch off).health = d.health ∧
    (d.setDmaOff ch off).power = d.power := by
  and_intros <;> rfl

@[simp] theorem Dev.setLink_keeps (d : Dev) (f : Link → Link) :
    (d.setLink f).clk = d.clk ∧ (d.setLink f).ph = d.ph ∧ (d.setLink f).wall = d.wall ∧ (d.setLink f).od = d.od ∧
    (d.setLink f).dom = d.dom ∧ (d.setLink f).gen = d.gen ∧ (d.setLink f).log = d.log ∧ (d.setLink f).fresh = d.fresh ∧
    (d.setLink f).plic = d.plic ∧ (d.setLink f).pend = d.pend ∧ (d.setLink f).cpi = d.cpi ∧ (d.setLink f).waits = d.waits ∧
    (d.setLink f).acts = d.acts ∧ (d.setLink f).io = d.io ∧ (d.setLink f).axes = d.axes ∧ (d.setLink f).eng = d.eng ∧
    (d.setLink f).chains = d.chains ∧ (d.setLink f).zones = d.zones ∧ (d.setLink f).geom = d.geom ∧
    (d.setLink f).sep = d.sep ∧ (d.setLink f).lateP = d.lateP ∧ (d.setLink f).lateC = d.lateC ∧
    (d.setLink f).ident = d.ident ∧ (d.setLink f).aes = d.aes ∧ (d.setLink f).safe = d.safe ∧ (d.setLink f).out = d.out ∧
    (d.setLink f).ptp = d.ptp ∧ (d.setLink f).pair = d.pair ∧ (d.setLink f).sett = d.sett ∧ (d.setLink f).dma = d.dma ∧
    (d.setLink f).mem = d.mem ∧ (d.setLink f).done = d.done ∧ (d.setLink f).event = d.event ∧
    (d.setLink f).serve = d.serve ∧ (d.setLink f).resp = d.resp ∧ (d.setLink f).aon = d.aon ∧
    (d.setLink f).flash = d.flash ∧ (d.setLink f).boot = d.boot ∧ (d.setLink f).health = d.health ∧
    (d.setLink f).power = d.power := by
  and_intros <;> rfl

@[simp] theorem Dev.setLink_link (d : Dev) (f : Link → Link) : (d.setLink f).link = f d.link := rfl

@[simp] theorem Dev.setPair_keeps (d : Dev) (f : Pair → Pair) :
    (d.setPair f).clk = d.clk ∧ (d.setPair f).ph = d.ph ∧ (d.setPair f).wall = d.wall ∧ (d.setPair f).od = d.od ∧
    (d.setPair f).dom = d.dom ∧ (d.setPair f).gen = d.gen ∧ (d.setPair f).log = d.log ∧ (d.setPair f).fresh = d.fresh ∧
    (d.setPair f).plic = d.plic ∧ (d.setPair f).pend = d.pend ∧ (d.setPair f).cpi = d.cpi ∧ (d.setPair f).waits = d.waits ∧
    (d.setPair f).acts = d.acts ∧ (d.setPair f).io = d.io ∧ (d.setPair f).axes = d.axes ∧ (d.setPair f).eng = d.eng ∧
    (d.setPair f).chains = d.chains ∧ (d.setPair f).zones = d.zones ∧ (d.setPair f).geom = d.geom ∧
    (d.setPair f).sep = d.sep ∧ (d.setPair f).lateP = d.lateP ∧ (d.setPair f).lateC = d.lateC ∧
    (d.setPair f).ident = d.ident ∧ (d.setPair f).aes = d.aes ∧ (d.setPair f).safe = d.safe ∧ (d.setPair f).link = d.link ∧
    (d.setPair f).out = d.out ∧ (d.setPair f).ptp = d.ptp ∧ (d.setPair f).sett = d.sett ∧ (d.setPair f).dma = d.dma ∧
    (d.setPair f).mem = d.mem ∧ (d.setPair f).done = d.done ∧ (d.setPair f).event = d.event ∧
    (d.setPair f).serve = d.serve ∧ (d.setPair f).resp = d.resp ∧ (d.setPair f).aon = d.aon ∧
    (d.setPair f).flash = d.flash ∧ (d.setPair f).boot = d.boot ∧ (d.setPair f).health = d.health ∧
    (d.setPair f).power = d.power := by
  and_intros <;> rfl

@[simp] theorem Dev.setPair_pair (d : Dev) (f : Pair → Pair) : (d.setPair f).pair = f d.pair := rfl

@[simp] theorem Dev.setSett_keeps (d : Dev) (f : Sett → Sett) :
    (d.setSett f).clk = d.clk ∧ (d.setSett f).ph = d.ph ∧ (d.setSett f).wall = d.wall ∧ (d.setSett f).od = d.od ∧
    (d.setSett f).dom = d.dom ∧ (d.setSett f).gen = d.gen ∧ (d.setSett f).log = d.log ∧ (d.setSett f).fresh = d.fresh ∧
    (d.setSett f).plic = d.plic ∧ (d.setSett f).pend = d.pend ∧ (d.setSett f).cpi = d.cpi ∧ (d.setSett f).waits = d.waits ∧
    (d.setSett f).acts = d.acts ∧ (d.setSett f).io = d.io ∧ (d.setSett f).axes = d.axes ∧ (d.setSett f).eng = d.eng ∧
    (d.setSett f).chains = d.chains ∧ (d.setSett f).zones = d.zones ∧ (d.setSett f).geom = d.geom ∧
    (d.setSett f).sep = d.sep ∧ (d.setSett f).lateP = d.lateP ∧ (d.setSett f).lateC = d.lateC ∧
    (d.setSett f).ident = d.ident ∧ (d.setSett f).aes = d.aes ∧ (d.setSett f).safe = d.safe ∧ (d.setSett f).link = d.link ∧
    (d.setSett f).out = d.out ∧ (d.setSett f).ptp = d.ptp ∧ (d.setSett f).pair = d.pair ∧ (d.setSett f).dma = d.dma ∧
    (d.setSett f).mem = d.mem ∧ (d.setSett f).done = d.done ∧ (d.setSett f).event = d.event ∧
    (d.setSett f).serve = d.serve ∧ (d.setSett f).resp = d.resp ∧ (d.setSett f).aon = d.aon ∧
    (d.setSett f).flash = d.flash ∧ (d.setSett f).boot = d.boot ∧ (d.setSett f).health = d.health ∧
    (d.setSett f).power = d.power := by
  and_intros <;> rfl

@[simp] theorem Dev.setSett_sett (d : Dev) (f : Sett → Sett) : (d.setSett f).sett = f d.sett := rfl

@[simp] theorem Dev.setHealth_keeps (d : Dev) (f : Health → Health) :
    (d.setHealth f).clk = d.clk ∧ (d.setHealth f).ph = d.ph ∧ (d.setHealth f).wall = d.wall ∧ (d.setHealth f).od = d.od ∧
    (d.setHealth f).dom = d.dom ∧ (d.setHealth f).gen = d.gen ∧ (d.setHealth f).log = d.log ∧
    (d.setHealth f).fresh = d.fresh ∧ (d.setHealth f).plic = d.plic ∧ (d.setHealth f).pend = d.pend ∧
    (d.setHealth f).cpi = d.cpi ∧ (d.setHealth f).waits = d.waits ∧ (d.setHealth f).acts = d.acts ∧
    (d.setHealth f).io = d.io ∧ (d.setHealth f).axes = d.axes ∧ (d.setHealth f).eng = d.eng ∧
    (d.setHealth f).chains = d.chains ∧ (d.setHealth f).zones = d.zones ∧ (d.setHealth f).geom = d.geom ∧
    (d.setHealth f).sep = d.sep ∧ (d.setHealth f).lateP = d.lateP ∧ (d.setHealth f).lateC = d.lateC ∧
    (d.setHealth f).ident = d.ident ∧ (d.setHealth f).aes = d.aes ∧ (d.setHealth f).safe = d.safe ∧
    (d.setHealth f).link = d.link ∧ (d.setHealth f).out = d.out ∧ (d.setHealth f).ptp = d.ptp ∧
    (d.setHealth f).pair = d.pair ∧ (d.setHealth f).sett = d.sett ∧ (d.setHealth f).dma = d.dma ∧
    (d.setHealth f).mem = d.mem ∧ (d.setHealth f).done = d.done ∧ (d.setHealth f).event = d.event ∧
    (d.setHealth f).serve = d.serve ∧ (d.setHealth f).resp = d.resp ∧ (d.setHealth f).aon = d.aon ∧
    (d.setHealth f).flash = d.flash ∧ (d.setHealth f).boot = d.boot ∧ (d.setHealth f).power = d.power := by
  and_intros <;> rfl

@[simp] theorem Dev.setHealth_health (d : Dev) (f : Health → Health) : (d.setHealth f).health = f d.health := rfl

@[simp] theorem Dev.setPower_keeps (d : Dev) (f : Power → Power) :
    (d.setPower f).clk = d.clk ∧ (d.setPower f).ph = d.ph ∧ (d.setPower f).wall = d.wall ∧ (d.setPower f).od = d.od ∧
    (d.setPower f).dom = d.dom ∧ (d.setPower f).gen = d.gen ∧ (d.setPower f).log = d.log ∧ (d.setPower f).fresh = d.fresh ∧
    (d.setPower f).plic = d.plic ∧ (d.setPower f).pend = d.pend ∧ (d.setPower f).cpi = d.cpi ∧
    (d.setPower f).waits = d.waits ∧ (d.setPower f).acts = d.acts ∧ (d.setPower f).io = d.io ∧
    (d.setPower f).axes = d.axes ∧ (d.setPower f).eng = d.eng ∧ (d.setPower f).chains = d.chains ∧
    (d.setPower f).zones = d.zones ∧ (d.setPower f).geom = d.geom ∧ (d.setPower f).sep = d.sep ∧
    (d.setPower f).lateP = d.lateP ∧ (d.setPower f).lateC = d.lateC ∧ (d.setPower f).ident = d.ident ∧
    (d.setPower f).aes = d.aes ∧ (d.setPower f).safe = d.safe ∧ (d.setPower f).link = d.link ∧ (d.setPower f).out = d.out ∧
    (d.setPower f).ptp = d.ptp ∧ (d.setPower f).pair = d.pair ∧ (d.setPower f).sett = d.sett ∧ (d.setPower f).dma = d.dma ∧
    (d.setPower f).mem = d.mem ∧ (d.setPower f).done = d.done ∧ (d.setPower f).event = d.event ∧
    (d.setPower f).serve = d.serve ∧ (d.setPower f).resp = d.resp ∧ (d.setPower f).aon = d.aon ∧
    (d.setPower f).flash = d.flash ∧ (d.setPower f).boot = d.boot ∧ (d.setPower f).health = d.health := by
  and_intros <;> rfl

@[simp] theorem Dev.setPower_power (d : Dev) (f : Power → Power) : (d.setPower f).power = f d.power := rfl

@[simp] theorem Dev.setFlash_keeps (d : Dev) (f : Flash → Flash) :
    (d.setFlash f).clk = d.clk ∧ (d.setFlash f).ph = d.ph ∧ (d.setFlash f).wall = d.wall ∧ (d.setFlash f).od = d.od ∧
    (d.setFlash f).dom = d.dom ∧ (d.setFlash f).gen = d.gen ∧ (d.setFlash f).log = d.log ∧ (d.setFlash f).fresh = d.fresh ∧
    (d.setFlash f).plic = d.plic ∧ (d.setFlash f).pend = d.pend ∧ (d.setFlash f).cpi = d.cpi ∧
    (d.setFlash f).waits = d.waits ∧ (d.setFlash f).acts = d.acts ∧ (d.setFlash f).io = d.io ∧
    (d.setFlash f).axes = d.axes ∧ (d.setFlash f).eng = d.eng ∧ (d.setFlash f).chains = d.chains ∧
    (d.setFlash f).zones = d.zones ∧ (d.setFlash f).geom = d.geom ∧ (d.setFlash f).sep = d.sep ∧
    (d.setFlash f).lateP = d.lateP ∧ (d.setFlash f).lateC = d.lateC ∧ (d.setFlash f).ident = d.ident ∧
    (d.setFlash f).aes = d.aes ∧ (d.setFlash f).safe = d.safe ∧ (d.setFlash f).link = d.link ∧ (d.setFlash f).out = d.out ∧
    (d.setFlash f).ptp = d.ptp ∧ (d.setFlash f).pair = d.pair ∧ (d.setFlash f).sett = d.sett ∧ (d.setFlash f).dma = d.dma ∧
    (d.setFlash f).mem = d.mem ∧ (d.setFlash f).done = d.done ∧ (d.setFlash f).event = d.event ∧
    (d.setFlash f).serve = d.serve ∧ (d.setFlash f).resp = d.resp ∧ (d.setFlash f).aon = d.aon ∧
    (d.setFlash f).boot = d.boot ∧ (d.setFlash f).health = d.health ∧ (d.setFlash f).power = d.power := by
  and_intros <;> rfl

@[simp] theorem Dev.setFlash_flash (d : Dev) (f : Flash → Flash) : (d.setFlash f).flash = f d.flash := rfl

@[simp] theorem Dev.setBoot_keeps (d : Dev) (f : Boot → Boot) :
    (d.setBoot f).clk = d.clk ∧ (d.setBoot f).ph = d.ph ∧ (d.setBoot f).wall = d.wall ∧ (d.setBoot f).od = d.od ∧
    (d.setBoot f).dom = d.dom ∧ (d.setBoot f).gen = d.gen ∧ (d.setBoot f).log = d.log ∧ (d.setBoot f).fresh = d.fresh ∧
    (d.setBoot f).plic = d.plic ∧ (d.setBoot f).pend = d.pend ∧ (d.setBoot f).cpi = d.cpi ∧ (d.setBoot f).waits = d.waits ∧
    (d.setBoot f).acts = d.acts ∧ (d.setBoot f).io = d.io ∧ (d.setBoot f).axes = d.axes ∧ (d.setBoot f).eng = d.eng ∧
    (d.setBoot f).chains = d.chains ∧ (d.setBoot f).zones = d.zones ∧ (d.setBoot f).geom = d.geom ∧
    (d.setBoot f).sep = d.sep ∧ (d.setBoot f).lateP = d.lateP ∧ (d.setBoot f).lateC = d.lateC ∧
    (d.setBoot f).ident = d.ident ∧ (d.setBoot f).aes = d.aes ∧ (d.setBoot f).safe = d.safe ∧ (d.setBoot f).link = d.link ∧
    (d.setBoot f).out = d.out ∧ (d.setBoot f).ptp = d.ptp ∧ (d.setBoot f).pair = d.pair ∧ (d.setBoot f).sett = d.sett ∧
    (d.setBoot f).dma = d.dma ∧ (d.setBoot f).mem = d.mem ∧ (d.setBoot f).done = d.done ∧ (d.setBoot f).event = d.event ∧
    (d.setBoot f).serve = d.serve ∧ (d.setBoot f).resp = d.resp ∧ (d.setBoot f).aon = d.aon ∧
    (d.setBoot f).flash = d.flash ∧ (d.setBoot f).health = d.health ∧ (d.setBoot f).power = d.power := by
  and_intros <;> rfl

@[simp] theorem Dev.setBoot_boot (d : Dev) (f : Boot → Boot) : (d.setBoot f).boot = f d.boot := rfl

@[simp] theorem Dev.modHart_keeps (d : Dev) (h : Nat) (f : Hart → Hart) :
    (d.modHart h f).clk = d.clk ∧ (d.modHart h f).ph = d.ph ∧ (d.modHart h f).wall = d.wall ∧ (d.modHart h f).od = d.od ∧
    (d.modHart h f).dom = d.dom ∧ (d.modHart h f).gen = d.gen ∧ (d.modHart h f).log = d.log ∧
    (d.modHart h f).fresh = d.fresh ∧ (d.modHart h f).plic = d.plic ∧ (d.modHart h f).pend = d.pend ∧
    (d.modHart h f).cpi = d.cpi ∧ (d.modHart h f).waits = d.waits ∧ (d.modHart h f).acts = d.acts ∧
    (d.modHart h f).io = d.io ∧ (d.modHart h f).axes = d.axes ∧ (d.modHart h f).eng = d.eng ∧
    (d.modHart h f).chains = d.chains ∧ (d.modHart h f).zones = d.zones ∧ (d.modHart h f).geom = d.geom ∧
    (d.modHart h f).sep = d.sep ∧ (d.modHart h f).lateP = d.lateP ∧ (d.modHart h f).lateC = d.lateC ∧
    (d.modHart h f).ident = d.ident ∧ (d.modHart h f).aes = d.aes ∧ (d.modHart h f).safe = d.safe ∧
    (d.modHart h f).link = d.link ∧ (d.modHart h f).out = d.out ∧ (d.modHart h f).ptp = d.ptp ∧
    (d.modHart h f).pair = d.pair ∧ (d.modHart h f).dma = d.dma ∧ (d.modHart h f).mem = d.mem ∧
    (d.modHart h f).done = d.done ∧ (d.modHart h f).event = d.event ∧ (d.modHart h f).serve = d.serve ∧
    (d.modHart h f).resp = d.resp ∧ (d.modHart h f).aon = d.aon ∧ (d.modHart h f).flash = d.flash ∧
    (d.modHart h f).boot = d.boot ∧ (d.modHart h f).health = d.health ∧ (d.modHart h f).power = d.power := by
  and_intros <;> rfl

@[simp] theorem Dev.setRing_keeps (d : Dev) (i : Nat) (x : Ring) :
    (d.setRing i x).clk = d.clk ∧ (d.setRing i x).ph = d.ph ∧ (d.setRing i x).wall = d.wall ∧ (d.setRing i x).od = d.od ∧
    (d.setRing i x).dom = d.dom ∧ (d.setRing i x).gen = d.gen ∧ (d.setRing i x).log = d.log ∧
    (d.setRing i x).fresh = d.fresh ∧ (d.setRing i x).plic = d.plic ∧ (d.setRing i x).pend = d.pend ∧
    (d.setRing i x).cpi = d.cpi ∧ (d.setRing i x).waits = d.waits ∧ (d.setRing i x).acts = d.acts ∧
    (d.setRing i x).io = d.io ∧ (d.setRing i x).axes = d.axes ∧ (d.setRing i x).eng = d.eng ∧
    (d.setRing i x).chains = d.chains ∧ (d.setRing i x).zones = d.zones ∧ (d.setRing i x).geom = d.geom ∧
    (d.setRing i x).sep = d.sep ∧ (d.setRing i x).lateP = d.lateP ∧ (d.setRing i x).lateC = d.lateC ∧
    (d.setRing i x).ident = d.ident ∧ (d.setRing i x).aes = d.aes ∧ (d.setRing i x).safe = d.safe ∧
    (d.setRing i x).link = d.link ∧ (d.setRing i x).out = d.out ∧ (d.setRing i x).ptp = d.ptp ∧
    (d.setRing i x).pair = d.pair ∧ (d.setRing i x).sett = d.sett ∧ (d.setRing i x).dma = d.dma ∧
    (d.setRing i x).mem = d.mem ∧ (d.setRing i x).done = d.done ∧ (d.setRing i x).event = d.event ∧
    (d.setRing i x).resp = d.resp ∧ (d.setRing i x).aon = d.aon ∧ (d.setRing i x).flash = d.flash ∧
    (d.setRing i x).boot = d.boot ∧ (d.setRing i x).health = d.health ∧ (d.setRing i x).power = d.power := by
  and_intros <;> rfl

@[simp] theorem Dev.setHostDma_keeps (d : Dev) (i : Nat) (x : HostDma) :
    (d.setHostDma i x).clk = d.clk ∧ (d.setHostDma i x).ph = d.ph ∧ (d.setHostDma i x).wall = d.wall ∧
    (d.setHostDma i x).od = d.od ∧ (d.setHostDma i x).dom = d.dom ∧ (d.setHostDma i x).gen = d.gen ∧
    (d.setHostDma i x).log = d.log ∧ (d.setHostDma i x).fresh = d.fresh ∧ (d.setHostDma i x).plic = d.plic ∧
    (d.setHostDma i x).pend = d.pend ∧ (d.setHostDma i x).cpi = d.cpi ∧ (d.setHostDma i x).waits = d.waits ∧
    (d.setHostDma i x).acts = d.acts ∧ (d.setHostDma i x).io = d.io ∧ (d.setHostDma i x).axes = d.axes ∧
    (d.setHostDma i x).eng = d.eng ∧ (d.setHostDma i x).chains = d.chains ∧ (d.setHostDma i x).zones = d.zones ∧
    (d.setHostDma i x).geom = d.geom ∧ (d.setHostDma i x).sep = d.sep ∧ (d.setHostDma i x).lateP = d.lateP ∧
    (d.setHostDma i x).lateC = d.lateC ∧ (d.setHostDma i x).ident = d.ident ∧ (d.setHostDma i x).aes = d.aes ∧
    (d.setHostDma i x).safe = d.safe ∧ (d.setHostDma i x).link = d.link ∧ (d.setHostDma i x).out = d.out ∧
    (d.setHostDma i x).ptp = d.ptp ∧ (d.setHostDma i x).pair = d.pair ∧ (d.setHostDma i x).sett = d.sett ∧
    (d.setHostDma i x).dma = d.dma ∧ (d.setHostDma i x).mem = d.mem ∧ (d.setHostDma i x).done = d.done ∧
    (d.setHostDma i x).event = d.event ∧ (d.setHostDma i x).resp = d.resp ∧ (d.setHostDma i x).aon = d.aon ∧
    (d.setHostDma i x).flash = d.flash ∧ (d.setHostDma i x).boot = d.boot ∧ (d.setHostDma i x).health = d.health ∧
    (d.setHostDma i x).power = d.power := by
  and_intros <;> rfl

@[simp] theorem Dev.setSrc_keeps (d : Dev) (s : Nat) (x : TrackSrc) :
    (d.setSrc s x).clk = d.clk ∧ (d.setSrc s x).ph = d.ph ∧ (d.setSrc s x).wall = d.wall ∧ (d.setSrc s x).od = d.od ∧
    (d.setSrc s x).dom = d.dom ∧ (d.setSrc s x).gen = d.gen ∧ (d.setSrc s x).log = d.log ∧ (d.setSrc s x).fresh = d.fresh ∧
    (d.setSrc s x).plic = d.plic ∧ (d.setSrc s x).pend = d.pend ∧ (d.setSrc s x).cpi = d.cpi ∧
    (d.setSrc s x).waits = d.waits ∧ (d.setSrc s x).acts = d.acts ∧ (d.setSrc s x).io = d.io ∧
    (d.setSrc s x).axes = d.axes ∧ (d.setSrc s x).eng = d.eng ∧ (d.setSrc s x).chains = d.chains ∧
    (d.setSrc s x).zones = d.zones ∧ (d.setSrc s x).geom = d.geom ∧ (d.setSrc s x).lateP = d.lateP ∧
    (d.setSrc s x).lateC = d.lateC ∧ (d.setSrc s x).ident = d.ident ∧ (d.setSrc s x).aes = d.aes ∧
    (d.setSrc s x).safe = d.safe ∧ (d.setSrc s x).link = d.link ∧ (d.setSrc s x).out = d.out ∧ (d.setSrc s x).ptp = d.ptp ∧
    (d.setSrc s x).pair = d.pair ∧ (d.setSrc s x).sett = d.sett ∧ (d.setSrc s x).dma = d.dma ∧ (d.setSrc s x).mem = d.mem ∧
    (d.setSrc s x).done = d.done ∧ (d.setSrc s x).event = d.event ∧ (d.setSrc s x).serve = d.serve ∧
    (d.setSrc s x).resp = d.resp ∧ (d.setSrc s x).aon = d.aon ∧ (d.setSrc s x).flash = d.flash ∧
    (d.setSrc s x).boot = d.boot ∧ (d.setSrc s x).health = d.health ∧ (d.setSrc s x).power = d.power := by
  and_intros <;> rfl

@[simp] theorem Dev.setSlot_keeps (d : Dev) (s : Nat) (x : Slot) :
    (d.setSlot s x).clk = d.clk ∧ (d.setSlot s x).ph = d.ph ∧ (d.setSlot s x).wall = d.wall ∧ (d.setSlot s x).od = d.od ∧
    (d.setSlot s x).dom = d.dom ∧ (d.setSlot s x).gen = d.gen ∧ (d.setSlot s x).log = d.log ∧
    (d.setSlot s x).fresh = d.fresh ∧ (d.setSlot s x).plic = d.plic ∧ (d.setSlot s x).pend = d.pend ∧
    (d.setSlot s x).cpi = d.cpi ∧ (d.setSlot s x).waits = d.waits ∧ (d.setSlot s x).acts = d.acts ∧
    (d.setSlot s x).io = d.io ∧ (d.setSlot s x).axes = d.axes ∧ (d.setSlot s x).eng = d.eng ∧
    (d.setSlot s x).chains = d.chains ∧ (d.setSlot s x).zones = d.zones ∧ (d.setSlot s x).geom = d.geom ∧
    (d.setSlot s x).lateP = d.lateP ∧ (d.setSlot s x).lateC = d.lateC ∧ (d.setSlot s x).ident = d.ident ∧
    (d.setSlot s x).aes = d.aes ∧ (d.setSlot s x).safe = d.safe ∧ (d.setSlot s x).link = d.link ∧
    (d.setSlot s x).out = d.out ∧ (d.setSlot s x).ptp = d.ptp ∧ (d.setSlot s x).pair = d.pair ∧
    (d.setSlot s x).sett = d.sett ∧ (d.setSlot s x).dma = d.dma ∧ (d.setSlot s x).mem = d.mem ∧
    (d.setSlot s x).done = d.done ∧ (d.setSlot s x).event = d.event ∧ (d.setSlot s x).serve = d.serve ∧
    (d.setSlot s x).resp = d.resp ∧ (d.setSlot s x).aon = d.aon ∧ (d.setSlot s x).flash = d.flash ∧
    (d.setSlot s x).boot = d.boot ∧ (d.setSlot s x).health = d.health ∧ (d.setSlot s x).power = d.power := by
  and_intros <;> rfl

@[simp] theorem Dev.modPtp_keeps (d : Dev) (p : Nat) (f : PtpPort → PtpPort) :
    (d.modPtp p f).clk = d.clk ∧ (d.modPtp p f).ph = d.ph ∧ (d.modPtp p f).wall = d.wall ∧ (d.modPtp p f).od = d.od ∧
    (d.modPtp p f).dom = d.dom ∧ (d.modPtp p f).gen = d.gen ∧ (d.modPtp p f).log = d.log ∧ (d.modPtp p f).fresh = d.fresh ∧
    (d.modPtp p f).plic = d.plic ∧ (d.modPtp p f).pend = d.pend ∧ (d.modPtp p f).cpi = d.cpi ∧
    (d.modPtp p f).waits = d.waits ∧ (d.modPtp p f).acts = d.acts ∧ (d.modPtp p f).io = d.io ∧
    (d.modPtp p f).axes = d.axes ∧ (d.modPtp p f).eng = d.eng ∧ (d.modPtp p f).chains = d.chains ∧
    (d.modPtp p f).zones = d.zones ∧ (d.modPtp p f).geom = d.geom ∧ (d.modPtp p f).sep = d.sep ∧
    (d.modPtp p f).lateP = d.lateP ∧ (d.modPtp p f).lateC = d.lateC ∧ (d.modPtp p f).ident = d.ident ∧
    (d.modPtp p f).aes = d.aes ∧ (d.modPtp p f).safe = d.safe ∧ (d.modPtp p f).link = d.link ∧ (d.modPtp p f).out = d.out ∧
    (d.modPtp p f).pair = d.pair ∧ (d.modPtp p f).sett = d.sett ∧ (d.modPtp p f).dma = d.dma ∧ (d.modPtp p f).mem = d.mem ∧
    (d.modPtp p f).done = d.done ∧ (d.modPtp p f).event = d.event ∧ (d.modPtp p f).serve = d.serve ∧
    (d.modPtp p f).resp = d.resp ∧ (d.modPtp p f).aon = d.aon ∧ (d.modPtp p f).flash = d.flash ∧
    (d.modPtp p f).boot = d.boot ∧ (d.modPtp p f).health = d.health ∧ (d.modPtp p f).power = d.power := by
  and_intros <;> rfl

/-- A hart's context is its registers under its machine's. -/
@[simp] theorem regs_under (c : HartContext) : c.toHartRegs.under c.csr = c := rfl

end Sys2Proof.Machine
end

