-- ==== Sys2Proof/Laws/Ops.lean ====
section
/-! SUPPORT. What the shared operations over maps, registers and the log can do. -/

namespace Sys2Proof.Machine

/-! ## Maps -/

theorem mget_merase {α : Type} (d : α) (m : Map α) (k j : Nat) : mget d (merase m k) j = if j = k then d else mget d m j := by
  induction m with
  | nil => simp [merase, mget]
  | cons x r ih =>
    obtain ⟨i, v⟩ := x
    simp only [merase, List.filter_cons] at ih ⊢
    by_cases h : i = k
    · subst h; simp only [bne_self_eq_false, Bool.false_eq_true, if_false, ih, mget]
      by_cases hj : j = i
      · simp [hj]
      · simp [hj, Ne.symm hj]
    · have h' : (i != k) = true := by simpa using h
      simp only [h', if_true, mget, ih]
      by_cases hj : i = j
      · subst hj; simp [h]
      · simp [hj]

/-- Elsewhere than at the key written a map reads what it read, whatever default it is read with. -/
theorem mget_mset_other {α : Type} [DecidableEq α] (d e : α) (m : Map α) {k j : Nat} (v : α) (h : j ≠ k) :
    mget e (mset d m k v) j = mget e m j := by
  induction m with
  | nil => simp only [mset]; split <;> simp [mget, Ne.symm h]
  | cons x r ih =>
    obtain ⟨i, w⟩ := x
    simp only [mset]
    split
    · split <;> simp [mget, mget_merase, h, Ne.symm h]
    · split
      · rename_i hi; subst hi; split <;> simp [mget, mget_merase, h, Ne.symm h]
      · simp [mget, ih]

/-- Reading where it was written gives what was written. Of every map, canonical or not. -/
@[simp] theorem mget_mset_same {α : Type} [DecidableEq α] (d : α) (m : Map α) (k : Nat) (v : α) :
    mget d (mset d m k v) k = v := by
  induction m with
  | nil => simp only [mset]; split <;> simp [mget, *]
  | cons x r ih =>
    obtain ⟨i, w⟩ := x
    simp only [mset]
    split
    · rename_i hk; split <;> simp [mget, mget_merase, *]; omega
    · split
      · rename_i hi; subst hi; split <;> simp [mget, mget_merase, *]
      · rename_i hi; simp [mget, ih, hi]

/-! ## Registers -/

theorem Dev.reg_congr {d e : Dev} (h : e.od = d.od) (k : Nat) : e.reg k = d.reg k := by simp [Dev.reg, h]

theorem Dev.nat_congr {d e : Dev} (h : e.od = d.od) (k : Nat) : e.nat k = d.nat k := by simp [Dev.nat, Dev.reg_congr h]

/-- An entry written holds the value narrowed to its type; every other one what it held. -/
theorem Dev.reg_set (d : Dev) (k j : Nat) (v : Int) : (d.set k v).reg j = if j = k then (odType k).wrap v else d.reg j := by
  by_cases h : j = k
  · subst h; simp [Dev.reg]
  · simp [Dev.reg, h, mget_mset_other]

@[simp] theorem Dev.reg_set_same (d : Dev) (k : Nat) (v : Int) : (d.set k v).reg k = (odType k).wrap v := by simp [Dev.reg_set]

theorem Dev.reg_set_other (d : Dev) {k j : Nat} (v : Int) (h : j ≠ k) : (d.set k v).reg j = d.reg j := by simp [Dev.reg_set, h]

/-! ## Instances -/

@[simp] theorem Dev.axis_setAxis (d : Dev) (n : Nat) (a : Axis) : (d.setAxis n a).axis n = a := by simp [Dev.axis]
@[simp] theorem Dev.axis_modAxis (d : Dev) (n : Nat) (f : Axis → Axis) : (d.modAxis n f).axis n = f (d.axis n) := by
  simp [Dev.axis]
@[simp] theorem Dev.chain_setChain (d : Dev) (n : Nat) (a : Chain) : (d.setChain n a).chain n = a := by simp [Dev.chain]
@[simp] theorem Dev.chain_modChain (d : Dev) (n : Nat) (f : Chain → Chain) : (d.modChain n f).chain n = f (d.chain n) := by
  simp [Dev.chain]
@[simp] theorem Dev.zone_setZone (d : Dev) (n : Nat) (a : Zone) : (d.setZone n a).zone n = a := by simp [Dev.zone]
@[simp] theorem Dev.ae_setAe (d : Dev) (n : Nat) (a : Ae) : (d.setAe n a).ae n = a := by simp [Dev.ae]
@[simp] theorem Dev.safeFn_setSafeFn (d : Dev) (n : Nat) (a : SafeFn) : (d.setSafeFn n a).safeFn n = a := by
  simp [Dev.safeFn, Dev.setSafeFn]
@[simp] theorem Dev.safeOut_setSafeOut (d : Dev) (n : Nat) (a : SafeOut) : (d.setSafeOut n a).safeOut n = a := by
  simp [Dev.safeOut, Dev.setSafeOut]
@[simp] theorem Dev.axSafe_setAxSafe (d : Dev) (n : Nat) (a : AxSafe) : (d.setAxSafe n a).axSafe n = a := by
  simp [Dev.axSafe, Dev.setAxSafe]

/-! ## Frames -/

theorem Dev.Keeps.refl (d : Dev) (l : List Part) : d.Keeps d l := fun p _ => by cases p <;> rfl

/-- Two changes one after the other change the parts either changes. -/
theorem Dev.Keeps.trans {d e f : Dev} {l m : List Part} (h : d.Keeps e l) (g : e.Keeps f m) : d.Keeps f (l ++ m) := by
  intro p hp
  simp only [List.mem_append, not_or] at hp
  have a := h p hp.1; have b := g p hp.2
  cases p <;> simp only [Part.Same] at a b ⊢ <;> rw [b, a]

theorem Dev.Keeps.mono {d e : Dev} {l m : List Part} (h : d.Keeps e l) (s : ∀ p ∈ l, p ∈ m) : d.Keeps e m :=
  fun p hp => h p fun q => hp (s p q)

/-- Changes within one list of parts, one after another. -/
theorem Dev.Keeps.andThen {d e f : Dev} {l : List Part} (h : d.Keeps e l) (g : e.Keeps f l) : d.Keeps f l :=
  (h.trans g).mono fun p hp => by simpa using hp

/-- A loop changes the parts that its body changes. -/
theorem Dev.Keeps.each {α : Type} {l : List Part} (xs : List α) (f : α → Dev → Dev) (h : ∀ x (d : Dev), d.Keeps (f x d) l) (d : Dev) :
    d.Keeps (each xs f d) l := by
  induction xs generalizing d with
  | nil => exact Dev.Keeps.refl d l
  | cons x xs ih => exact (h x d).andThen (ih (f x d))

theorem Dev.Keeps.iterate {l : List Part} (n : Nat) (f : Nat → Dev → Dev) (h : ∀ i (d : Dev), d.Keeps (f i d) l) (d : Dev) :
    d.Keeps (iterate n f d) l := Dev.Keeps.each (List.range n) f h d

theorem Dev.Keeps.when {d : Dev} {l : List Part} (c : Bool) (f : Dev → Dev) (h : d.Keeps (f d) l) : d.Keeps (d.when c f) l := by
  unfold Dev.when; split
  · exact h
  · exact Dev.Keeps.refl d l

theorem Dev.keeps_set (d : Dev) (k : Nat) (v : Int) : d.Keeps (d.set k v) [.od] := by
  intro p hp; cases p <;> first | rfl | simp at hp

theorem Dev.keeps_finish (d : Dev) (c : Nat) : d.Keeps (d.finish c) [.done] := by
  intro p hp; cases p <;> first | rfl | simp at hp

/-- A code raised changes the log, EVENT and the entries of the log. -/
theorem Dev.keeps_raise (d : Dev) (code kind subject reaction detail : Nat) :
    d.Keeps (d.raise code kind subject reaction detail) [.od, .log, .event] := by
  intro p hp
  unfold Dev.raise Dev.raiseAt
  cases p <;> simp [Part.Same, Dev.when] at hp ⊢ <;> (split <;> split <;> rfl)

/-! ## Raising a code, answering -/

/-- A raised code is the newest record of the log. -/
theorem Dev.lastRaised_raise (d : Dev) (code kind subject reaction detail : Nat) :
    (d.raise code kind subject reaction detail).LastRaised code kind subject := by
  unfold Dev.LastRaised Dev.raise Dev.raiseAt
  refine ⟨{ seq := d.nat Reg.R1003_NEXT_SEQ, code, kind, subject, cycle := d.cycle, tick := d.clk.tick, reaction,
            nt := ns40 (d.ntAt (d.clk.raw + d.ph.off)), detail }, ?_, rfl, rfl, rfl⟩
  simp only [Dev.set_keeps, Dev.when]
  split <;> split <;> simp

/-- A code raised leaves every entry but those of the log. -/
theorem Dev.keepsRegs_raise (d : Dev) (code kind subject reaction detail : Nat) :
    d.KeepsRegs (d.raise code kind subject reaction detail) logRegs := by
  intro k hk
  simp only [List.mem_cons, List.not_mem_nil, or_false, not_or] at hk
  unfold Dev.raise Dev.raiseAt
  simp only [Dev.when]
  split <;> split <;> simp [Dev.reg_set, hk] <;> rfl

theorem Dev.reg_raise (d : Dev) {k : Nat} (code kind subject reaction detail : Nat) (h : k ∉ logRegs) :
    (d.raise code kind subject reaction detail).reg k = d.reg k := Dev.keepsRegs_raise d code kind subject reaction detail k h

/-- The vector of EVENT changes only what waits and what the step answers. -/
theorem Dev.keeps_tellEvent (d : Dev) (b : Nat) : d.Keeps (d.tellEvent b) [.serve] := by
  intro p hp
  unfold Dev.tellEvent Dev.msi
  cases p <;> simp [Part.Same] at hp ⊢ <;> (repeat' split) <;> rfl

@[simp] theorem Dev.tellEvent_keeps (d : Dev) (b : Nat) :
    (d.tellEvent b).clk = d.clk ∧ (d.tellEvent b).od = d.od ∧ (d.tellEvent b).dom = d.dom ∧ (d.tellEvent b).log = d.log ∧
    (d.tellEvent b).axes = d.axes ∧ (d.tellEvent b).chains = d.chains ∧ (d.tellEvent b).zones = d.zones ∧
    (d.tellEvent b).ident = d.ident ∧ (d.tellEvent b).aes = d.aes ∧ (d.tellEvent b).safe = d.safe ∧
    (d.tellEvent b).plic = d.plic ∧ (d.tellEvent b).done = d.done ∧ (d.tellEvent b).out = d.out ∧
    (d.tellEvent b).mem = d.mem ∧ (d.tellEvent b).event = d.event ∧ (d.tellEvent b).fresh = d.fresh := by
  unfold Dev.tellEvent Dev.msi
  and_intros <;> (repeat' split) <;> rfl

@[simp] theorem Dev.reg_tellEvent (d : Dev) (b k : Nat) : (d.tellEvent b).reg k = d.reg k :=
  Dev.reg_congr (by simp) k

/-- A device whose counters are put back keeps everything else. -/
theorem Dev.tellEvent_none (d : Dev) (b : Nat) (h : d.event = b) : d.tellEvent b = d := by
  simp [Dev.tellEvent, h]

end Sys2Proof.Machine
end

