-- ==== Sys2Proof/Laws/Answer.lean ====
section
/-! SUPPORT. What an answered command can do: the counters stay in range, and what its meaning leaves alone stays. -/

namespace Sys2Proof.Machine

@[simp] theorem State.found_keeps (s : State) :
    s.found.clk = s.dev.clk ∧ s.found.od = s.dev.od ∧ s.found.mem = s.dev.mem ∧ s.found.event = s.dev.event ∧
    s.found.log = s.dev.log ∧ s.found.out = [] ∧ s.found.resp = {} := by
  and_intros <;> rfl

theorem Clock.inRange {c : Clock} (h : c.tick < 8) (g : c.cycle64 < 2 ^ 64) :
    { c with tick := c.tick % 8, cycle64 := c.cycle64 % 2 ^ 64 } = c := by
  cases c; simp only [Clock.mk.injEq, and_true] at *; omega

/-! A meaning that leaves the device as the command found it. -/

theorem State.answer_same (s : State) {f : Dev → Dev} (h : f s.found = s.found) :
    s.answer f = .next { s with dev := s.found } := by
  unfold State.answer; rw [h, Dev.tellEvent_none s.found s.dev.event rfl]; rfl

theorem State.answerDry_same (s : State) {f : Dev → Dev} (h : f s.found = s.found) :
    s.answerDry f = .next { s with dev := s.found } := by
  unfold State.answerDry; rw [h, Dev.tellEvent_none s.found s.dev.event rfl]; rfl

theorem State.answerCell_same (s : State) {f : Dev → Dev} (h : f s.found = s.found) :
    s.answerCell f = .next { s with dev := s.found } := by
  unfold State.answerCell; rw [h, Dev.tellEvent_none s.found s.dev.event rfl]; rfl

theorem State.answerClk_same (s : State) {f : Dev → Dev} (c : s.ClockOk) (h : f s.found = s.found) :
    s.answerClk f = .next { s with dev := s.found } := by
  unfold State.answerClk; rw [h, Dev.tellEvent_none s.found s.dev.event rfl]
  simp only [State.found_keeps, Clock.inRange c.1 c.2]; rfl

/-! A meaning that changes some parts: the answer changes those, and what waits of EVENT's vector. -/

theorem State.answer_keeps (s : State) {f : Dev → Dev} {l : List Part} (h : s.found.Keeps (f s.found) l) :
    ∃ d, s.answer f = .next { s with dev := d } ∧ s.found.Keeps d (.serve :: l) := by
  refine ⟨_, rfl, fun p hp => ?_⟩
  have g := (h.trans (Dev.keeps_tellEvent (f s.found) s.dev.event)) p (by simp at hp ⊢; tauto)
  cases p <;> first | exact g | rfl

theorem State.answerDry_keeps (s : State) {f : Dev → Dev} {l : List Part} (h : s.found.Keeps (f s.found) l) :
    ∃ d, s.answerDry f = .next { s with dev := d } ∧ s.found.Keeps d (.serve :: l) := by
  refine ⟨_, rfl, fun p hp => ?_⟩
  have g := (h.trans (Dev.keeps_tellEvent (f s.found) s.dev.event)) p (by simp at hp ⊢; tauto)
  cases p <;> first | exact g | rfl

theorem State.answerCell_keeps (s : State) {f : Dev → Dev} {l : List Part} (h : s.found.Keeps (f s.found) l) :
    ∃ d, s.answerCell f = .next { s with dev := d } ∧ s.found.Keeps d (.serve :: l) := by
  refine ⟨_, rfl, fun p hp => ?_⟩
  have g := (h.trans (Dev.keeps_tellEvent (f s.found) s.dev.event)) p (by simp at hp ⊢; tauto)
  cases p <;> first | exact g | rfl

/-- The counters stay in range whatever a meaning does to them. -/
theorem State.answerClk_clockOk (s : State) (f : Dev → Dev) {t : State} (h : s.answerClk f = .next t) : t.ClockOk := by
  injection h with h; subst h
  exact ⟨Nat.mod_lt _ (by decide), Nat.mod_lt _ (by decide)⟩

end Sys2Proof.Machine
end

