-- ==== Sys2Proof/Laws/Ae.lean ====
section
/-! SUPPORT. What the next instruction of an analysis engine can do, said once for every instruction. -/

namespace Sys2Proof.Machine

/-- What it takes that an instruction executes. -/
theorem Dev.aeDoes_iff (d : Dev) (e op : Nat) : d.aeDoes e op = true ↔
    e < 2 ∧ d.aeState e = AeState.running ∧ d.reg (Reg.R3510_MODE e) = 1 ∧ (d.ae e).pc ≤ 0x3FFF ∧
    (d.ae e).poisoned (progOff (d.ae e).pc) = false ∧ Op.code (d.aeNext e) = op ∧
    (d.ae e).cr.testBit (bits (d.aeNext e) 24 23) ≠ (d.aeNext e).testBit 25 := by
  simp only [Dev.aeDoes, Dev.aeNext, Bool.and_eq_true, decide_eq_true_eq, beq_iff_eq, bne_iff_ne, ne_eq, Bool.not_eq_true']
  tauto

/-- An instruction of the table that executes: the engine `f` leaves, or its fault. -/
theorem Dev.aeRun_does (d : Dev) {e op : Nat} (reads : Nat → Nat) (cyc : Nat) (f : Nat → Ae → AeStep) (h : d.aeDoes e op = true)
    (t : aeLegal.contains op = true) :
    d.aeRun e op reads cyc f =
      match f (d.aeNext e) { d.ae e with wrote := 0, cycles := (d.ae e).cycles + cyc +
          (if reads (d.aeNext e) &&& (d.ae e).wrote = 0 then 0 else 1) } with
      | .ok x => d.setAe e x
      | .error code => d.aeFault e code := by
  obtain ⟨h1, h2, h3, h4, hp, h5, h6⟩ := (d.aeDoes_iff e op).1 h
  simp only [Dev.aeNext] at h5 h6 ⊢
  unfold Dev.aeRun
  have n1 : ¬(2 ≤ e ∨ d.aeState e ≠ AeState.running ∨ d.reg (Reg.R3510_MODE e) ≠ 1) := by rintro (h | h | h) <;> omega
  rw [if_neg n1]
  dsimp only
  rw [if_neg (by omega), if_neg (by simp [hp]), if_neg (by rw [h5, t]; simp), if_neg (by simp [h5]), if_neg h6]; rfl

/-- One engine changed and nothing else: what the answer of such a command is. -/
theorem State.answerCell_ae (s : State) {f : Dev → Dev} {e : Nat} {x : Ae} (h : f s.found = s.found.setAe e x) :
    ∃ d, s.answerCell f = .next { s with dev := d } ∧ s.found.Keeps d [.aes] ∧ (∀ g, g ≠ e → d.ae g = s.found.ae g) ∧
      d.ae e = x := by
  refine ⟨s.found.setAe e x, ?_, ?_, ?_, Dev.ae_setAe _ _ _⟩
  · unfold State.answerCell; rw [h, Dev.tellEvent_none (s.found.setAe e x) s.dev.event rfl]; rfl
  · intro p hp; cases p <;> first | rfl | simp at hp
  · intro g hg; simp [Dev.ae, mget_mset_other _ _ _ _ hg]

/-- An instruction that changes registers and goes on: what it does is what `f` does, then the next word. -/
theorem AeDoes.of_data {i : Instr} {e op : Nat} {s : State} {H : Nat → Ae → Prop} {P : Nat → Ae → Ae → Prop}
    (f : Nat → Ae → AeStep) (hi : exec i s = s.answerCell fun d => d.liveIf (e < 2) fun d => d.aeData e op f)
    (t : aeLegal.contains op = true)
    (hf : ∀ w x, H w x → ∃ y, f w { x with wrote := 0, cycles := x.cycles + 1 } = .ok y ∧ P w x y.next) : AeDoes i e op s H P := by
  intro live d hH
  obtain ⟨y, hy, hp⟩ := hf _ _ hH
  have he : e < 2 := ((s.dev.aeDoes_iff e op).1 d).1
  have hd : s.found.dark = false := live
  have : (fun d : Dev => d.liveIf (e < 2) fun d => d.aeData e op f) s.found = s.found.setAe e y.next := by
    have k := s.found.aeRun_does (fun _ => 0) 1 (fun w x => (f w x).map Ae.next) d t
    have z : (0 : Nat) &&& (s.found.ae e).wrote = 0 := by simp
    simp only [z, if_true, Nat.add_zero] at k
    have hy' : f (s.found.aeNext e) { s.found.ae e with wrote := 0, cycles := (s.found.ae e).cycles + 1 } = .ok y := hy
    simp only [Dev.liveIf, hd, he, decide_true, Bool.not_true, Bool.or_false, Bool.false_eq_true, if_false]
    unfold Dev.aeData
    rw [k, hy']; rfl
  obtain ⟨a, h1, h2, h3, h4⟩ := s.answerCell_ae (f := fun d : Dev => d.liveIf (e < 2) fun d => d.aeData e op f) this
  exact ⟨a, hi.trans h1, h2, h3, by rw [h4]; exact hp⟩

/-- An instruction with a course of its own. -/
theorem AeDoes.of_run {i : Instr} {e op : Nat} {s : State} {H : Nat → Ae → Prop} {P : Nat → Ae → Ae → Prop} (reads : Nat → Nat)
    (cyc : Nat) (f : Nat → Ae → AeStep)
    (hi : exec i s = s.answerCell fun d => d.liveIf (e < 2) fun d => d.aeRun e op reads cyc f) (t : aeLegal.contains op = true)
    (hf : ∀ w x, H w x → ∃ y, f w { x with wrote := 0, cycles := x.cycles + cyc + (if reads w &&& x.wrote = 0 then 0 else 1) } =
      .ok y ∧ P w x y) : AeDoes i e op s H P := by
  intro live d hH
  obtain ⟨y, hy, hp⟩ := hf _ _ hH
  have he : e < 2 := ((s.dev.aeDoes_iff e op).1 d).1
  have hd : s.found.dark = false := live
  have : (fun d : Dev => d.liveIf (e < 2) fun d => d.aeRun e op reads cyc f) s.found = s.found.setAe e y := by
    have k := s.found.aeRun_does reads cyc f d t
    have hy' : f (s.found.aeNext e) { s.found.ae e with wrote := 0, cycles := (s.found.ae e).cycles + cyc +
      (if reads (s.found.aeNext e) &&& (s.found.ae e).wrote = 0 then 0 else 1) } = .ok y := hy
    simp only [Dev.liveIf, hd, he, decide_true, Bool.not_true, Bool.or_false, Bool.false_eq_true, if_false]
    rw [k, hy']
  obtain ⟨a, h1, h2, h3, h4⟩ := s.answerCell_ae (f := fun d : Dev => d.liveIf (e < 2) fun d => d.aeRun e op reads cyc f) this
  exact ⟨a, hi.trans h1, h2, h3, by rw [h4]; exact hp⟩

end Sys2Proof.Machine
end

