-- ==== Sys2Proof/Laws/Memory.lean ====
section
/-! SUPPORT. Memory and every other sparse map keep their canonical form; reading memory after writing it. -/

namespace Sys2Proof.Machine

/-- Memory lists its bytes by rising address and lists no zero. -/
def Dev.memWf (d : Dev) : Bool := Map.wf (fun _ => 0) d.mem

/-! ## The canonical form -/

theorem Map.above_mono {α : Type} [DecidableEq α] {df : Nat → α} {a b : Nat} {m : Map α} (h : Map.above df (some b) m = true)
    (l : a ≤ b) : Map.above df (some a) m = true := by
  cases m with
  | nil => rfl
  | cons x r =>
    obtain ⟨j, v⟩ := x
    simp only [Map.above, Bool.and_eq_true, decide_eq_true_eq] at h ⊢
    exact ⟨⟨by omega, h.1.2⟩, h.2⟩

theorem Map.above_merase {α : Type} [DecidableEq α] {df : Nat → α} {m : Map α} (k : Nat) :
    ∀ {b : Option Nat}, Map.above df b m = true → Map.above df b (merase m k) = true := by
  induction m with
  | nil => intro b h; exact h
  | cons x r ih =>
    obtain ⟨j, v⟩ := x
    intro b h
    simp only [Map.above, Bool.and_eq_true] at h
    simp only [merase, List.filter_cons]
    split
    · simp only [Map.above, Bool.and_eq_true]
      exact ⟨h.1, ih h.2⟩
    · have g := ih h.2
      cases b with
      | none =>
        revert g; simp only [merase]
        generalize r.filter (fun x => x.1 != k) = q
        intro g; cases q with
        | nil => rfl
        | cons y q => simp only [Map.above, Bool.and_eq_true] at g ⊢; exact ⟨⟨trivial, g.1.2⟩, g.2⟩
      | some b => exact Map.above_mono g (by have := h.1.1; simp only [decide_eq_true_eq] at this; omega)

/-- A write keeps the form, given the default of its key. -/
theorem Map.above_mset {α : Type} [DecidableEq α] {df : Nat → α} {m : Map α} (k : Nat) (v : α) :
    ∀ {b : Option Nat}, Map.above df b m = true → (∀ c, b = some c → c < k) → Map.above df b (mset (df k) m k v) = true := by
  induction m with
  | nil =>
    intro b _ hb
    simp only [mset]; split
    · rfl
    · cases b with
      | none => simp [Map.above, *]
      | some c => simp [Map.above, hb c rfl, *]
  | cons x r ih =>
    obtain ⟨j, w⟩ := x
    intro b h hb
    have h' := h
    simp only [Map.above, Bool.and_eq_true, decide_eq_true_eq] at h'
    simp only [mset]
    split
    · rename_i hk
      split
      · simp only [Map.above, Bool.and_eq_true, decide_eq_true_eq]
        exact ⟨h'.1, Map.above_merase k h'.2⟩
      · simp only [Map.above, Bool.and_eq_true, decide_eq_true_eq]
        refine ⟨⟨?_, by assumption⟩, ⟨hk, h'.1.2⟩, h'.2⟩
        cases b with
        | none => trivial
        | some c => simpa using hb c rfl
    · split
      · rename_i hj; subst hj
        split
        · have g := Map.above_merase j h
          simpa [merase] using g
        · simp only [Map.above, Bool.and_eq_true, decide_eq_true_eq]
          exact ⟨⟨h'.1.1, by assumption⟩, h'.2⟩
      · simp only [Map.above, Bool.and_eq_true, decide_eq_true_eq]
        exact ⟨h'.1, ih h'.2 (by intro c hc; injection hc with hc; omega)⟩

theorem Map.wf_mset {α : Type} [DecidableEq α] {df : Nat → α} {m : Map α} (k : Nat) (v : α) (h : Map.wf df m = true) :
    Map.wf df (mset (df k) m k v) = true := Map.above_mset k v h (by simp)

/-! ## Memory -/

theorem Dev.memWf_memSet {d : Dev} (a : Nat) (b : Byte) (h : d.memWf = true) : (d.memSet a b).memWf = true :=
  Map.wf_mset (df := fun _ => (0 : Byte)) a b h

theorem Dev.memWf_memWrite {d : Dev} (a : Nat) (bs : Bytes) (h : d.memWf = true) : (d.memWrite a bs).memWf = true := by
  unfold Dev.memWrite each
  generalize bs.zip (List.range bs.length) = l
  induction l generalizing d with
  | nil => exact h
  | cons x l ih => exact ih (Dev.memWf_memSet _ _ h)

/-- Memory of the reset state has the form: it lists nothing. -/
theorem reset_memWf : State.reset.dev.memWf = true := by rfl

/-- A byte written reads as written, every other one as before. -/
theorem Dev.memAt_memSet (d : Dev) (a c : Nat) (b : Byte) : (d.memSet a b).memAt c = if c = a then b else d.memAt c := by
  by_cases h : c = a
  · subst h; simp [Dev.memAt, Dev.memSet]
  · simp only [Dev.memAt, Dev.memSet, h, if_false]; exact mget_mset_other 0 0 d.mem b h

/-- Outside the bytes of a write memory reads as before. -/
theorem Dev.memAt_memWrite_other (d : Dev) (a c : Nat) (bs : Bytes) (h : c < a ∨ a + bs.length ≤ c) :
    (d.memWrite a bs).memAt c = d.memAt c := by
  unfold Dev.memWrite each
  have key : ∀ (l : List (Byte × Nat)) (d : Dev), (∀ p ∈ l, a + p.2 ≠ c) →
      (l.foldl (fun s x => s.memSet (a + x.2) x.1) d).memAt c = d.memAt c := by
    intro l
    induction l with
    | nil => intro d _; rfl
    | cons x l ih =>
      intro d hl
      rw [List.foldl_cons, ih _ fun p hp => hl p (by simp [hp]), Dev.memAt_memSet, if_neg]
      exact fun e => hl x (by simp) e.symm
  refine key _ d fun p hp => ?_
  have := List.mem_range.1 (List.of_mem_zip hp).2
  omega

theorem Dev.memWrite_concat (d : Dev) (a : Nat) (bs : Bytes) (b : Byte) :
    d.memWrite a (bs ++ [b]) = (d.memWrite a bs).memSet (a + bs.length) b := by
  simp [Dev.memWrite, each, List.range_succ, List.zip_append]

/-- Inside a write memory reads as the bytes written. -/
theorem Dev.memAt_memWrite_in (d : Dev) (a k : Nat) (bs : Bytes) (h : k < bs.length) :
    (d.memWrite a bs).memAt (a + k) = bs.getD k 0 := by
  induction bs using List.reverseRecOn with
  | nil => simp at h
  | append_singleton bs b ih =>
    rw [Dev.memWrite_concat, Dev.memAt_memSet]
    by_cases e : k = bs.length
    · subst e; simp
    · have l : k < bs.length := by simp only [List.length_append, List.length_singleton] at h; omega
      rw [if_neg (by omega), ih l, List.getD_append _ _ _ _ l]

/-- A write changes memory alone. -/
theorem Dev.keeps_memWrite (d : Dev) (a : Nat) (bs : Bytes) : d.Keeps (d.memWrite a bs) [.mem] :=
  Dev.Keeps.each _ _ (fun _ _ p hp => by cases p <;> first | rfl | simp at hp) d

/-- Commands of the two answers that put memory back leave it as it was. -/
theorem State.answerDry_mem (s : State) (f : Dev → Dev) {t : State} (h : s.answerDry f = .next t) : t.dev.mem = s.dev.mem := by
  injection h with h; subst h; rfl

theorem State.answerCell_mem (s : State) (f : Dev → Dev) {t : State} (h : s.answerCell f = .next t) : t.dev.mem = s.dev.mem := by
  injection h with h; subst h; rfl

end Sys2Proof.Machine
end

