-- ==== Sys2Proof/Laws/Valid.lean ====
section
/-! SUPPORT. What VALIDATE can find: every finding carries a code of R458's list. -/

namespace Sys2Proof.Machine

/-- The codes VALIDATE finds (R458). -/
def findingCodes : List Nat :=
  [Code.BUDGET_EXCEEDED, Code.STRUCTURE_INVALID, Code.OD_RANGE, Code.SCHEDULE_INVALID, Code.SAFETY_INVALID, Code.GEOMETRY_INVALID,
    Code.EXTENT_EXCEEDED, Code.DISTANCE_BUDGET, Code.SEPARATION_INVALID, Code.PAIR_INVALID]

theorem Dev.geometryCheck_code (d : Dev) (o : Nat) : d.geometryCheck o = Code.STATUS_OK ∨ d.geometryCheck o ∈ findingCodes := by
  unfold Dev.geometryCheck
  dsimp only
  split
  · exact .inr (by decide)
  · split
    · exact .inr (by decide)
    · split
      · exact .inr (by decide)
      · exact .inl rfl

theorem Dev.separationCheck_code (d : Dev) (o : Nat) :
    d.separationCheck o = Code.STATUS_OK ∨ d.separationCheck o ∈ findingCodes := by
  unfold Dev.separationCheck
  split
  · exact .inl rfl
  · exact .inr (by decide)

theorem Dev.findings_code (d : Dev) : ∀ x ∈ d.findings, x.1 ∈ findingCodes := by
  have dev : ∀ (b : Bool) (c t : Nat), (b = true → c ∈ findingCodes) →
      ∀ x ∈ (if b then [((c, Kind.device, 0, t) : Nat × Nat × Nat × Nat)] else []), x.1 ∈ findingCodes := by
    intro b c t h x hx
    cases b
    · cases hx
    · simp only [if_true, List.mem_singleton] at hx
      exact hx ▸ h rfl
  have dv : ∀ (b : Bool) (c t : Nat), c ∈ findingCodes →
      ∀ x ∈ (if b then [((c, Kind.device, 0, t) : Nat × Nat × Nat × Nat)] else []), x.1 ∈ findingCodes :=
    fun b c t h => dev b c t fun _ => h
  have ex : ∀ (t : Option Nat) (row : Nat), ∀ x ∈ ((match t with
      | some u => [(Code.BUDGET_EXCEEDED, Kind.device, 0, budgetDetail row u)] | none => [] : List (Nat × Nat × Nat × Nat))),
      x.1 ∈ findingCodes := by
    intro t row x hx
    cases t
    · cases hx
    · rw [List.mem_singleton] at hx
      subst hx
      exact (by decide : Code.BUDGET_EXCEEDED ∈ findingCodes)
  have mp : ∀ (l : List Nat) (c : Nat), c ∈ findingCodes →
      ∀ x ∈ l.map (fun n => ((c, Kind.axis, n, 0) : Nat × Nat × Nat × Nat)), x.1 ∈ findingCodes := by
    intro l c h x hx
    obtain ⟨n, -, rfl⟩ := List.mem_map.mp hx
    exact h
  have app : ∀ l m : List (Nat × Nat × Nat × Nat), (∀ x ∈ l, x.1 ∈ findingCodes) → (∀ x ∈ m, x.1 ∈ findingCodes) →
      ∀ x ∈ l ++ m, x.1 ∈ findingCodes := fun l m a b x hx => (List.mem_append.mp hx).elim (a x) (b x)
  unfold Dev.findings
  dsimp only
  generalize d.takeStructures = s
  generalize s.sectionsOver = excess
  refine app _ _ ?_ (dv _ _ _ (by decide))
  refine app _ _ ?_ (dev _ _ _ fun e => ?_)
  refine app _ _ ?_ (dev _ _ _ fun e => ?_)
  refine app _ _ ?_ (dv _ _ _ (by decide))
  refine app _ _ ?_ (dv _ _ _ (by decide))
  refine app _ _ ?_ (mp _ _ (by decide))
  refine app _ _ ?_ (mp _ _ (by decide))
  refine app _ _ ?_ (mp _ _ (by decide))
  refine app _ _ ?_ (dv _ _ _ (by decide))
  refine app _ _ ?_ (dv _ _ _ (by decide))
  refine app _ _ ?_ (ex _ _)
  exact app _ _ (ex _ _) (dv _ _ _ (by decide))
  · rcases d.geometryCheck_code 0x80 with g | g
    · rw [g] at e; exact absurd e (by decide)
    · exact g
  · rcases d.separationCheck_code 0x80 with g | g
    · rw [g] at e; exact absurd e (by decide)
    · exact g

theorem Dev.findings_pair (d : Dev) (h : d.pairOk = false) : ∃ c k x y r, d.findings = (c, k, x, y) :: r ∧ c ≠ Code.STATUS_OK ∧ c < 65536 := by
  have ne : d.findings ≠ [] := by
    unfold Dev.findings
    rw [h]
    exact List.append_ne_nil_of_right_ne_nil _ (by decide)
  have code := d.findings_code
  cases e : d.findings with
  | nil => exact absurd e ne
  | cons a r =>
    obtain ⟨c, k, x, y⟩ := a
    rw [e] at code
    have c0 : ∀ c ∈ findingCodes, c ≠ Code.STATUS_OK ∧ c < 65536 := by decide
    exact ⟨c, k, x, y, r, rfl, c0 c (code _ List.mem_cons_self)⟩

end Sys2Proof.Machine
end

