-- ==== Sys2Proof/Tests/Slice0.lean ====
section
/-! SUPPORT. The author's tests: what the check of a command refuses, single steps, and states that meet the hypotheses of the
statements. -/

namespace Sys2Proof.Tests

open Sys2Proof.Machine

set_option Elab.async false

/-! ## Helpers -/

/-- The reset machine with these entries written, then changed by `f`. -/
def mach (od : List (Nat × Int)) (f : Dev → Dev := id) : State :=
  { dev := f (od.foldl (fun d x => d.set x.1 x.2) State.reset.dev), pending := [] }

/-- The same in RUN. -/
def run (od : List (Nat × Int)) (f : Dev → Dev := id) : State := mach ((Reg.R1001_DEV_STATE, 5) :: od) f

/-- Analysis engine 0 running a one-word program of the user. -/
def ae (w : Nat) (f : Ae → Ae := id) : State :=
  run [(Reg.R3510_MODE 0, 1), (Reg.R3510_STATE 0, 1)] fun d => d.setAe 0 (f { prog := [(0, w)] })

/-- What the device is after a command. -/
def after (i : Instr) (s : State) : Dev := match exec i s with | .next t => t.dev | _ => {}

/-- The state after a step. -/
def stepped (s : State) : State := match step s with | .next t => t | _ => State.reset

/-- Whether the OD server takes a write. -/
def takes (d : Dev) (r : Requester) (ix sub : Nat) (data : Bytes) : Bool :=
  match locate ix sub with
  | .entry e i => i == i && d.writeCheck r e ix sub data == Code.STATUS_OK && d.writeBlocked ix sub (e.ty.wrap (leNat data)) data == Code.STATUS_OK
  | _ => false

theorem takes_ok (d : Dev) (r : Requester) (ix sub : Nat) (data : Bytes) (h : takes d r ix sub data = true) :
    d.WriteOk r ix sub data := by
  unfold takes at h; unfold Dev.WriteOk
  split at h
  · rename_i e i hl
    simp only [Bool.and_eq_true, beq_iff_eq] at h
    exact ⟨e, i, hl, h.1.2, h.2⟩
  · cases h
/-! ## The machine as a whole -/

/-- The queue's command runs and leaves the queue. -/
theorem test_step_takes_front :
    let t := stepped { State.reset with pending := [.idcode, .bypass] }
    t.pending = [.bypass] ∧ t.dev.power.jtag = 1 := by decide +kernel

theorem test_empty_queue_idles : step State.reset = .next State.reset := by rfl

theorem witness_ClockInvariant : State.reset.ClockOk ∧ step State.reset = .next State.reset := by
  simp only [State.ClockOk]; exact ⟨by decide, rfl⟩

/-- At the ends of the counters' ranges. -/
theorem witness_ClockInvariant_ends :
    (mach [] fun d => { d with clk := { d.clk with tick := 7, cycle64 := 2 ^ 64 - 1 } }).ClockOk := by
  simp only [State.ClockOk]; decide +kernel

theorem witness_DarkModuleStands :
    let s := mach [(Reg.R1001_DEV_STATE, 0)]
    let held := mach [] fun d => { d with boot := { d.boot with held := true } }
    s.dev.dark = true ∧ s.ClockOk ∧ held.dev.dark = true ∧ held.ClockOk ∧ Instr.ofSupply (.doorbell 0 0) = false := by
  simp only [State.ClockOk]; decide +kernel

theorem witness_WritesWaitForConfig :
    State.reset.dev.state < DevState.config ∧ State.reset.ClockOk ∧ Instr.registerRow (.doorbell 0 0) = true := by
  simp only [State.ClockOk]; decide +kernel

theorem witness_CommandsFrame : Instr.ofCell .commitCutoff = true ∧ Instr.storesNothing (.feedLoss 0) = true := by decide

/-! ## The analysis engines: instructions -/

/-- Every instruction of the table, with its fields 0, is the next one of an engine that runs its word. -/
theorem witness_ae_all : ∀ op ∈ [0x00, 0x01, 0x02, 0x03, 0x04, 0x05, 0x08, 0x09, 0x0A, 0x0B, 0x0C, 0x0D, 0x0E, 0x0F, 0x10, 0x11, 0x12,
    0x13, 0x14, 0x15, 0x16, 0x17, 0x18, 0x19, 0x1A, 0x1B, 0x1C, 0x1D, 0x1E, 0x1F, 0x20, 0x21, 0x22, 0x23, 0x24, 0x25, 0x26, 0x27,
    0x28, 0x29, 0x2A, 0x30, 0x31, 0x32, 0x33, 0x34, 0x35, 0x36],
    (ae (op * 2 ^ 26)).dev.aeDoes 0 op = true ∧ (ae (op * 2 ^ 26)).dev.dark = false := by decide +kernel

/-- The other hypotheses of the statements on the engines' instructions, at their bounds. -/
theorem witness_ae_forms :
    fty 0 ≠ 3 ∧ fty (2 ^ 9) = 1 ∧ fty (2 ^ 10) = 2 ∧ bits 0 2 1 ≠ 3 ∧ fd 0 % 2 = 0 ∧ fs 0 % 2 = 0 ∧ ft 0 % 2 = 0 ∧ bits 0 8 6 ≤ 5 ∧
    bits (5 * 2 ^ 6) 8 6 = 5 ∧ bits 0 22 21 % 2 = 0 ∧ bits 0 20 17 % 2 = 0 ∧ bits 0 18 13 ≤ 37 ∧ bits (37 * 2 ^ 13) 18 13 = 37 ∧
    sprWritable 0 0 = true ∧ fty (3 * 2 ^ 9) = 3 ∧
    bits (3 * 2 ^ 1) 2 1 = 3 := by decide +kernel

theorem witness_AeBranches :
    let x : Ae := { prog := [], calls := [5] }
    let y : Ae := { prog := [], calls := List.replicate 7 1 }
    x.calls.length < 8 ∧ x.calls = 5 :: [] ∧ y.calls.length = 7 ∧ (1 :: y.calls).length = 8 := by decide

theorem witness_AeLoops :
    let w := 2 ^ 22 + 3 * 2 ^ 14 + 7
    let x : Ae := { prog := [], pc := 6, loops := [{ first := 2, last := 6, count := 2 }] }
    x.pc < bits w 13 0 ∧ 0 < bits w 21 14 ∧ w.testBit 22 = true ∧ x.loops.length < 4 ∧
    (∃ l r, x.loops = l :: r ∧ l.last = x.pc ∧ 1 < l.count) ∧ bits (2 ^ 22 + 7) 21 14 = 0 ∧
    (∃ l r, { x with loops := [⟨2, 6, 1⟩, ⟨2, 7, 1⟩] }.loops = l :: r ∧ l.last = x.pc ∧ l.count ≤ 1 ∧ ∀ m ∈ r, m.last ≠ x.pc) ∧
    (∃ l r, { x with loops := [⟨2, 7, 1⟩] }.loops = l :: r ∧ l.last ≠ x.pc) := by
  refine ⟨by decide, by decide, by decide, by decide, ⟨_, _, rfl, by decide⟩, by decide, ⟨_, _, rfl, by decide⟩, ⟨_, _, rfl, by decide⟩⟩

/-- The operands: a whole word and a poisoned one, a block length that bit reversal takes and one that it does not. -/
theorem witness_ae_operands :
    let x := ((ae 0 fun x => { x with bad := [0x100000], l := [(0, 16)] }).dev).ae 0
    x.poisoned (dataOff 0 ((x.usePtr 0).addr 0)) = true ∧ x.poisoned (dataOff 1 ((x.usePtr 0).addr 0)) = false ∧
    x.poisoned (progOff x.pc) = false ∧ x.revOk 0 = true ∧ x.revOk 1 = false ∧ bits (2 ^ 14) 14 13 = 2 ∧ bits 0 14 13 ≠ 2 := by
  decide +kernel

/-- The word of ADD.S32 D2, D0, D1: -1 + 1 in the upper lane, the greatest number plus one in the lower, which saturates. -/
theorem test_add_saturates :
    let x := (after (.aeAdd 0) (ae (0x10 * 2 ^ 26 + 2 * 2 ^ 19 + 1 * 2 ^ 11 + 2 ^ 9) fun x =>
      { x with d := [(0, 0xFFFFFFFF7FFFFFFF), (1, 0x0000000100000001)] })).ae 0
    x.pc = 1 ∧ x.cycles = 1 ∧ x.D 2 = 0x000000007FFFFFFF ∧ x.sr = 1 := by decide +kernel

/-- A HALT stops the engine with its code (R244). -/
theorem test_halt :
    let d := after (.aeHalt 0) (ae (0x34 * 2 ^ 26 + 0x1234))
    d.aeState 0 = AeState.halted ∧ d.nat (Reg.R3510_HALT_CODE 0) = 0x1234 := by decide +kernel

/-- A predicate that is false skips the word (R237). -/
theorem witness_AeSkipped :
    let s := ae (0x08 * 2 ^ 26 + 2 ^ 25)
    s.Live ∧ s.dev.aeState 0 = AeState.running ∧ s.dev.reg (Reg.R3510_MODE 0) = 1 ∧ (s.dev.ae 0).pc ≤ 0x3FFF ∧
    (s.dev.ae 0).poisoned (progOff (s.dev.ae 0).pc) = false ∧ Op.code (s.dev.aeNext 0) = 0x08 ∧ (s.dev.ae 0).cr.testBit (bits (s.dev.aeNext 0) 24 23) = (s.dev.aeNext 0).testBit 25 := by
  simp only [State.Live]; decide +kernel

theorem witness_AeHaltSigWait :
    let s := run [(Reg.R3510_MODE 0, 1), (Reg.R3510_STATE 0, 1), (Reg.R3510_DOORBELL 0, 0x8000)] fun d =>
      d.setAe 0 { prog := [(0, 0x36 * 2 ^ 26 + 0x8000)] }
    s.Live ∧ s.dev.aeDoes 0 0x36 = true ∧ s.dev.nat (Reg.R3510_DOORBELL 0) &&& bits (s.dev.aeNext 0) 15 0 ≠ 0 ∧
    (ae (0x36 * 2 ^ 26 + 1)).dev.nat (Reg.R3510_DOORBELL 0) &&& 1 = 0 := by
  simp only [State.Live]; decide +kernel

/-! ## The analysis engines: control, and identification -/

theorem witness_EngineModeSwitch :
    let s := run []
    let r := run [(Reg.R3510_MODE 1, 1), (Reg.R3510_STATE 1, 2)]
    s.Up ∧ s.found.aeState 1 ≠ AeState.running ∧ s.found.aeState 1 ≠ AeState.waiting ∧ s.found.ident.jobOn = [] ∧
    s.found.nat (Reg.R3510_MODE 1) = 0 ∧ r.Up ∧ r.found.aeState 1 = AeState.waiting := by
  simp only [State.Up]; decide +kernel

theorem witness_EngineControl :
    let s := run [(Reg.R3510_MODE 1, 1)]
    let r := run [(Reg.R3510_MODE 1, 1), (Reg.R3510_STATE 1, 1)]
    s.Up ∧ s.found.reg (Reg.R3510_MODE 1) = 1 ∧ ¬(s.found.aeState 1 = AeState.running ∨ s.found.aeState 1 = AeState.waiting) ∧
    r.Up ∧ r.found.reg (Reg.R3510_MODE 1) = 1 ∧ r.found.aeState 1 = AeState.running ∧ (run []).found.reg (Reg.R3510_MODE 1) = 0 := by
  simp only [State.Up]; decide +kernel

/-- A firmware image of one component: the library of the engines, of one byte. -/
def libraryImage : Bytes :=
  List.replicate 6 0 ++ [1, 0] ++ List.replicate 104 0 ++ [7, 0, 0, 0] ++ leBytes 4 168 ++ leBytes 4 1 ++ List.replicate 12 0 ++
    shake256 32 [9] ++ [9]

theorem witness_LibraryReload :
    let s := run [] fun d => { d with flash := { d.flash with lastFw := some 0, slots := [(0, { image := libraryImage })] } }
    s.Live ∧ s.found.reg (Reg.R3510_MODE 1) = 0 ∧ (s.found.ae 1).ready = false ∧ s.found.library = some [9] ∧
    (run []).found.library = none := by
  simp only [State.Live]; decide +kernel

theorem witness_EngineSignals :
    let s := run [(Reg.R3510_MODE 0, 1), (Reg.R3510_STATE 0, 2), (Reg.R3510_DOORBELL 0, 4), (Reg.R3510_WD_US 0, 31)] fun d =>
      d.setAe 0 { prog := [], mask := 6 }
    s.Up ∧ s.found.aeState 0 = AeState.waiting ∧ s.found.nat (Reg.R3510_DOORBELL 0) &&& (s.found.ae 0).mask ≠ 0 ∧
    s.found.reg (Reg.R3510_MODE 0) = 1 ∧ 0 < s.found.nat (Reg.R3510_WD_US 0) ∧
    (s.found.ae 0).start + 1000 * s.found.nat (Reg.R3510_WD_US 0) < s.found.clk.raw + 31250 ∧
    (run [(Reg.R3510_WD_US 0, 32)]).found.clk.raw + 31250 ≤ (s.found.ae 0).start + 1000 * 32 := by
  simp only [State.Up]; decide +kernel

theorem witness_InjectionStartsAndEnds :
    let p : Pending := { cycle := 0, policy := 0, ready := true }
    let s := run [] fun d => { d with pend := [(Reg.R3430_START_CYCLE 0, some p)] }
    let i := run [(Reg.R1400_NET_STATE, 3), (Reg.R3430_AXIS 0, 127), (Reg.AX1_STATE 127, 5), (Reg.R3430_SIGNAL 0, 5),
      (Reg.R3430_DURATION 0, 1)] fun d => { d with pend := [(Reg.R3430_START_CYCLE 0, some p)] }
    let r := run [(Reg.R3430_REPEAT 0, 1)] fun d => d.setGen 0 { running := true, evals := 4194304 * 4 }
    s.Live ∧ s.found.nat (Reg.R3430_AXIS 0) < 128 ∧ s.found.dueAt (Reg.R3430_START_CYCLE 0) = some p ∧ s.found.inSync = false ∧
    i.Live ∧ i.found.inSync = true ∧ i.found.nat (Reg.R3430_AXIS 0) < 128 ∧ i.found.dueAt (Reg.R3430_START_CYCLE 0) = some p ∧
    i.found.injectionAllowed 0 = true ∧ (i.found.set (Reg.R3430_DURATION 0) 0).injectionAllowed 0 = false ∧
    (i.found.injGen 0).running = false ∧ i.found.dueAt (Reg.R3430_START_CYCLE 1) = none ∧ r.Up ∧ (r.found.injGen 0).running = true ∧ r.found.genOver 0 = true ∧
    s.found.genOver 0 = false := by
  simp only [State.Up, State.Live]; decide +kernel

theorem witness_CaptureRecords :
    let p : Pending := { cycle := 0, policy := 0, ready := true }
    let s := run [(Reg.R3410_RUN_STATE 15, 2)] fun d => { d with pend := [(Reg.R3410_ARM_CYCLE 15, some p)] }
    let r := run [(Reg.R3410_RUN_STATE 15, 2)] fun d => d.setCap 15 { left := some 0 }
    (run [(Reg.R1400_NET_STATE, 3)]).found.inSync = true ∧ s.found.inSync = false ∧ s.Up ∧ s.found.dueAt (Reg.R3410_ARM_CYCLE 15) = some p ∧ s.found.nat (Reg.R3410_RUN_STATE 15) = 2 ∧
    (let D := max 1 (s.found.nat (act (Reg.R3410_DIV 15)))
     (s.found.clk.tick + 8 * D - s.found.nat (act (Reg.R3410_PHASE 15))) % D = 0) ∧
    (s.found.capSet 15).left ≠ some 0 ∧ (s.found.capSet 15).newLen = none ∧ r.Live ∧ (r.found.capSet 15).left = some 0 ∧
    (r.found.capSet 15).newLen = none ∧ (run []).found.nat (Reg.R3410_RUN_STATE 15) ≠ 2 := by
  simp only [State.Up, State.Live]; decide +kernel

theorem witness_CaptureLength :
    let s := run []
    let d := s.found
    s.Up ∧ (16 : Nat) ≤ 1048576 ∧ d.nat (Reg.R3410_RUN_STATE 0) = 0 ∧
    d.capOthers 0 + rowSize (d.nat (act (Reg.R3410_N_CH 0))) * d.nat (Reg.R3410_LENGTH 0) +
      rowSize (d.nat (act (Reg.R3410_N_CH 0))) * 17 ≤ 4194304 ∧ d.nat (Reg.R3410_LENGTH 0) ≠ 17 ∧
    (run [(Reg.R3410_RUN_STATE 0, 2)]).found.nat (Reg.R3410_RUN_STATE 0) ≠ 0 ∧ 4194304 < d.capOthers 0 + rowSize (d.nat (act (Reg.R3410_N_CH 0))) * d.nat (Reg.R3410_LENGTH 0) +
      rowSize (d.nat (act (Reg.R3410_N_CH 0))) * 1048576 := by
  simp only [State.Up]; decide +kernel

theorem witness_JobsRun :
    let s := run [] fun d => { d with ident := { d.ident with jobs := [7] }, aes := [(1, { ready := true })] }
    let w := run [(Reg.R3410_RUN_STATE 0, 2), (Reg.R3440_EN 31, 1)]
    let r := run [(Reg.R3420_JOB_STATE 7, 2), (Reg.R3420_KIND 7, 1)]
    let two := run [(Reg.R3420_JOB_STATE 7, 2), (Reg.R3420_KIND 7, 1), (Reg.R3420_N_FFT 7, 2), (Reg.R3410_WR_PTR 0, 4)]
    s.found.trackersWait = [] ∧ (w.found.trackersWait ≠ []) ∧ w.found.nat (Reg.R3410_RUN_STATE 0) ≠ 0 ∧
    two.found.nat (Reg.R3420_JOB_STATE 7) = 2 ∧ two.found.reg (Reg.R3420_KIND 7) = 1 ∧ 2 ≤ (two.found.jobRows 7).length ∧ s.Up ∧ s.found.nat (Reg.R3420_JOB_STATE 7) = 0 ∧ s.found.ident.jobs.head? = some 7 ∧ s.found.vendorEngine 1 = true ∧
    s.found.ident.jobOn = [] ∧ s.found.nat (Reg.R3410_RUN_STATE (s.found.nat (Reg.R3420_CAPTURE_SET 7))) = 0 ∧
    r.Live ∧ r.found.nat (Reg.R3420_JOB_STATE 7) = 2 ∧ (r.found.jobRows 7).length < 2 := by
  simp only [State.Up, State.Live]; decide +kernel

theorem witness_NotchTrackers :
    let s := run [(Reg.R3440_EN 31, 1)] fun d =>
      { d with clk := { d.clk with tick := 6, cycle64 := 9 } }
    let r := run []
    let m := run [(Reg.R3440_EN 31, 1), (Reg.R3440_AXIS 31, 127), (Reg.AX1_STATE 127, 3), (Reg.R3440_MIN_RMS 31, -2 ^ 31)] fun d =>
      { d with aes := [(0, { ready := true })] }
    (s.found.tracker 31).served ≠ some s.found.clk.cycle64 ∧ m.Live ∧ m.found.reg (Reg.R3440_EN 31) ≠ 0 ∧
    m.found.nat (Reg.R3440_TRACK_STATE 31) ≠ 3 ∧ (m.found.tracker 31).served ≠ some m.found.clk.cycle64 ∧
    m.found.vendorEngine 0 = true ∧ m.found.axState (m.found.nat (Reg.R3440_AXIS 31)) = AxState.moving ∧
    m.found.oldChannel (m.found.nat (Reg.R3440_AXIS 31)) = false ∧ m.found.reg (Reg.R3440_MIN_RMS 31) = -2 ^ 31 ∧
    ((run [(Reg.R3440_EN 31, 1)] fun d => d.setTracker 31 { served := some 0 }).found.tracker 31).served = some r.found.clk.cycle64 ∧
    s.Up ∧ s.found.reg (Reg.R3440_EN 31) ≠ 0 ∧ s.found.nat (Reg.R3440_TRACK_STATE 31) ≠ 3 ∧ s.found.vendorEngine 0 = false ∧
    s.found.vendorEngine 1 = false ∧ s.found.nat (Reg.R3440_AXIS 31) < 128 ∧ s.found.nat (Reg.R3440_LEVEL 31) < 4 ∧
    s.found.clk.tick = 6 ∧ r.Up ∧ r.found.reg (Reg.R3440_EN 31) = 0 ∧
    (Bank.parse (r.found.image 0 0)).nPost ≤ r.found.nat (Reg.R3440_SEC 31) := by
  simp only [State.Up, State.Live]; decide +kernel

/-- Tracker 31 on the VEL level of axis 127, which has one section after its controller, at 100 Hz with an estimate of 105 Hz. -/
def tracking (en st : Int) : State :=
  run [(Reg.R3440_EN 31, en), (Reg.R3440_TRACK_STATE 31, st), (Reg.R3440_AXIS 31, 127), (Reg.R3440_LEVEL 31, 1),
    (Reg.R3440_F0 31, 0x42C80000), (Reg.R3440_F_EST 31, 0x42D20000), (Reg.R3440_BAND_PCT 31, 10), (Reg.R3440_HYST_PCT 31, 0x3F800000)]
    fun d => { d with clk := { d.clk with tick := 6 } }.setBytes (Reg.AX9_ACTIVE_CUR 127 + 1) [0, 0, 0, 1]

theorem witness_NotchTrackers_good :
    let s := tracking 0 0
    let t := (tracking 1 1).found
    s.Up ∧ s.found.reg (Reg.R3440_EN 31) = 0 ∧ s.found.nat (Reg.R3440_SEC 31) < (Bank.parse (s.found.image 127 1)).nPost ∧
    s.found.levelOn 127 1 = true ∧ f32 (s.found.reg (Reg.R3440_F0 31)) * (1 + 10 / 100) ≤ 45 / 100 * s.found.levelRate 127 1 ∧
    (∀ u < 32, u ≠ 31 → s.found.reg (Reg.R3440_EN u) = 0) ∧ (tracking 1 1).Live ∧ t.clk.tick = 6 ∧
    t.reg (Reg.R3440_EN 31) ≠ 0 ∧ t.nat (Reg.R3440_TRACK_STATE 31) = 1 ∧
    f32 (t.reg (Reg.R3440_F_EST 31)) ≤ f32 (t.reg (Reg.R3440_F0 31)) + f32 (t.reg (Reg.R3440_F0 31)) * (10 : Rat) / 100 ∧
    f32 (t.reg (Reg.R3440_HYST_PCT 31)) / 100 * f32 (t.reg (Reg.R3440_F0 31)) <
      ratAbs (f32 (t.reg (Reg.R3440_F_EST 31)) - f32 (t.trackApplied 31)) ∧
    (t.tracker 31).lastAt = none ∧ mget none t.pend (Reg.AX9_COMMIT_CYCLE 127) = none := by
  simp only [State.Up, State.Live]; decide +kernel
/-! ## Motion of axes, chains, inputs -/

/-- Axis 127 in a state, its torque path closed. -/
def axis (st : Nat) (od : List (Nat × Int) := []) (f : Axis → Axis := id) : State :=
  run ((Reg.AX1_STATE 127, st) :: od) fun d => d.modAxis 127 f

def move : MoveParams := { target := 1000, vel := 10, acc := 10, jerk := 0, seq := 7 }

theorem witness_MovesTaken :
    let s := axis 2
    let r := axis 2 [(Reg.AX2_SOFT_EN 127, 1), (Reg.AX2_SOFT_MAX 127, 999), (Reg.AX11_HOMED 127, 1)]
    s.Live ∧ s.found.accepts 127 (commandOf move 1) = true ∧ s.found.accepts 127 (commandOf move 2) = true ∧
    s.found.accepts 127 (commandOf move 3) = true ∧ s.found.softOn 127 = false ∧ s.found.atRest 127 = true ∧
    s.found.setpoint 127 = 0 ∧ r.found.accepts 127 (commandOf move 1) = true ∧ r.found.softOn 127 = true ∧
    r.found.insideSoft 127 1000 = false ∧ r.found.insideSoft 127 999 = true := by
  simp only [State.Live]; decide +kernel

theorem witness_StopsAndFollowingTaken :
    let s := axis 3
    let e := axis 2
    let h := axis 2 [(Reg.AX11_METHOD 127, 3)]
    s.Live ∧ s.found.accepts 127 (s.found.params 127 4) = true ∧ s.found.accepts 127 (commandOf move 5) = true ∧
    s.found.axState 127 = AxState.moving ∧ (s.found.axis 127).motion ≠ .ramp ∧ s.found.accepts 127 (s.found.params 127 6) = true ∧
    s.found.closed 127 = true ∧ e.found.accepts 127 (e.found.params 127 7) = true ∧ e.found.nat (Reg.AX11_METHOD 127) ≤ 2 ∧
    h.found.reg (Reg.AX11_METHOD 127) = 3 ∧ e.found.accepts 127 (e.found.params 127 8) = true ∧
    e.found.accepts 127 (e.found.params 127 9) = true ∧ (axis 0).found.accepts 127 ((axis 0).found.params 127 7) = false ∧
    (axis 0).found.closed 127 = false := by
  simp only [State.Live]; decide +kernel

theorem witness_StopsAndFollowingTaken_more :
    let e := (axis 2).found
    let f := (axis 6).found
    let h := (axis 2 [(Reg.AX11_METHOD 127, 3)]).found
    e.axState 127 = AxState.enabled ∧ e.accepts 127 (e.params 127 4) = true ∧ e.accepts 127 (commandOf move 5) = true ∧
    (axis 3).found.axState 127 ≠ AxState.fault ∧ f.accepts 127 (f.params 127 6) = true ∧ f.axState 127 = AxState.fault ∧
    h.accepts 127 (h.params 127 7) = true := by decide +kernel

theorem witness_ControlWord_more :
    let f := (axis 6).found
    let t := axis 5 [] fun a => { a with motion := .plan }
    (f.axis 127).loopsOff = false ∧ f.faultPresent 127 = false ∧ (t.found.axis 127).motion ≠ .rest ∧
    (axis 1).found.axState 127 = AxState.ready ∧ (mach [(Reg.AX1_STATE 127, 1)]).found.state ≠ DevState.run ∧
    (axis 2 [(Reg.R5080_SLS_ACTIVE 127, 1)]).found.slsActive 127 = true := by decide +kernel

theorem witness_ControlWord_alone : ∀ c, (axis 5).found.executing c = false := fun _ => rfl

theorem witness_ControlWord :
    let r := axis 1
    let e := r.found.setControlBit 127 1 true
    let f := axis 6 [] fun a => { a with loopsOff := true }
    let t := axis 5
    r.Live ∧ (axis 0 [] fun a => { a with fb := { a.fb with ready := true } }).found.axState 127 = AxState.disabled ∧
    r.found.axState 127 = AxState.ready ∧ r.found.state = DevState.run ∧ e.faultPresent 127 = false ∧ e.stoHeld 127 = false ∧
    e.groupOff 127 = false ∧ e.testPending 127 = false ∧ e.skewBlocks = false ∧ f.found.axState 127 = AxState.fault ∧
    f.found.faultPresent 127 = false ∧ (f.found.axis 127).loopsOff = true ∧ t.found.axState 127 = AxState.test ∧
    (t.found.axis 127).motion = .rest ∧ (axis 2).found.slsActive 127 = false := by
  simp only [State.Live]; decide +kernel

/-- The end of a plan on its target, of no length. -/
def planned (st : Nat) (why : StopWhy) : State :=
  axis st [] fun a => { a with motion := .plan, plan := some { p0 := 5, v0 := 0, final := some 5, parts := [] }, stopWhy := why }

theorem witness_PlanEndsAndLimits :
    let s := planned 3 .none
    let t := planned 4 .command
    s.Up ∧ (s.found.axis 127).plan = some { p0 := 5, v0 := 0, final := some 5, parts := [] } ∧
    ended (Plan.time { p0 := 5, v0 := 0, final := some 5, parts := [] }) (s.found.axis 127).planT = true ∧
    (s.found.axis 127).softStop = false ∧ s.found.nat (Reg.AX11_HOME_STATE 127) = HomeState.idle ∧
    ((planned 4 .disable).found.axis 127).stopWhy = .disable ∧ ((axis 3).found.axis 127).plan = none ∧ t.found.axState 127 = AxState.stopping ∧ (t.found.axis 127).stopWhy = .command ∧
    (planned 4 (.reaction Reaction.qstop)).found.axState 127 = AxState.stopping ∧ Reaction.qstop ≠ Reaction.ss1 ∧
    (∃ e i, entryOf (Reg.key (0x2000 + 16 * 127 + 2) 0x01) = some (e, i)) := by
  simp only [State.Up]
  repeat' refine And.intro (by decide +kernel) ?_
  obtain ⟨a, h⟩ := Option.isSome_iff_exists.1 (show (entryOf (Reg.key (0x2000 + 16 * 127 + 2) 0x01)).isSome = true by decide +kernel)
  exact ⟨a.1, a.2, h⟩

theorem witness_SourceLost :
    let x := axis 3 [(Reg.AX6_SRC_KIND 127, 4), (Reg.AX14_FOLLOW_ERROR 127, Reaction.qstop)] fun a => { a with motion := .gear }
    let s := { x with dev := { x.dev with clk := { x.dev.clk with cycle64 := 9 } } }
    s.Live ∧ (s.found.axis 127).motion = .gear ∧ s.found.nat (Reg.AX6_SRC_KIND 127) = 4 ∧
    s.found.ageLimit 127 < (s.found.sourceVal 127).age ∧ ((axis 3).found.sourceVal 127).age ≤ (axis 3).found.ageLimit 127 ∧
    s.found.axState 127 = AxState.moving ∧ (s.found.axis 127).reactNow = 0 ∧ s.found.chainOf 127 = none ∧
    s.found.nat (Reg.AX14_FOLLOW_ERROR 127) = Reaction.qstop := by
  simp only [State.Live]; decide +kernel

theorem witness_ChainQueueAndControl :
    let s := run [] fun d => d.setChain 15 { queue := List.replicate 255 [] }
    let a := run [] fun d => d.setChain 15 { aborting := true, lambda := 0 }
    s.Up ∧ (s.found.chain 15).queue.length < 256 ∧ s.found.segValid 15 [] = false ∧ (s.found.chain 15).aborting = false ∧
    a.Live ∧ (a.found.chain 15).aborting = true ∧ (a.found.chain 15).lambda = 0 := by
  simp only [State.Up, State.Live]; decide +kernel

/-- Chain 15 of one member, axis 127, running a segment of kind `kind` whose plan lasts no time, with this queue behind it. -/
def chained (kind : Nat) (c : Chain → Chain := id) : State :=
  run [(Reg.CH5_CONTROL 15, 1), (Reg.AX1_STATE 127, 2)] fun d =>
    (d.setBytes (act (Reg.CH3_LINKS 15)) ([1, 0, 0, 0, 0, 0, 0, 0, 1, 127] ++ List.replicate 38 0)).setChain 15
      (c { cur := some { image := byte kind :: List.replicate 143 0, start := [5], parts := [] } })

theorem witness_SegmentEnds :
    let s := chained 1
    let q := chained 1 fun c => { c with queue := [[1]] }
    s.Live ∧ (∃ g, (s.found.chain 15).cur = some g ∧ ended g.length g.time = true ∧
      (s.found.segEnd 15 g).length = (s.found.members 15).length) ∧ (s.found.chain 15).next = none ∧ (s.found.chain 15).queue = [] ∧
    (q.found.chain 15).queue = [[1]] ∧ (q.found.chain 15).next = none ∧ q.found.mayStart 15 = true := by
  simp only [State.Live]
  exact ⟨by decide +kernel, ⟨_, rfl, by decide +kernel⟩, by decide +kernel⟩

/-- A DWELL that every chain with a member takes (R107). -/
def dwell : Bytes := 3 :: List.replicate 143 0

theorem witness_ChainQueueAndControl_append :
    let s := run [(act (Reg.CH0_CHAIN_EN 15), 1)] fun d =>
      d.setBytes (act (Reg.CH3_LINKS 15)) ([1, 0, 0, 0, 0, 0, 0, 0, 1, 127] ++ List.replicate 38 0)
    let f := { s with dev := s.dev.setChain 15 { queue := List.replicate 256 dwell } }
    s.Up ∧ s.found.segValid 15 dwell = true ∧ (s.found.chain 15).queue.length < 256 ∧ f.found.segValid 15 dwell = true ∧
    256 ≤ (f.found.chain 15).queue.length ∧ (run []).found.segValid 15 dwell = false ∧
    ((run []).found.chain 15).lambda ≠ 1 := by
  simp only [State.Up]; decide +kernel

/-- A segment halfway, its blend due in this tick, and one that its blend has begun (R108, R111). -/
theorem witness_SegmentEnds_blend :
    let g : Seg := { image := [1, 1], start := [5], parts := [⟨1, 0, 0⟩], blendOn := some 0 }
    let s := chained 1 fun c => { c with cur := some g, queue := [[1, 1]] }
    let n := chained 1 fun c => { c with next := c.cur }
    s.Live ∧ (s.found.chain 15).cur = some g ∧ ended g.length g.time = false ∧ (s.found.chain 15).next = none ∧
    (s.found.chain 15).queue = [[1, 1]] ∧ mayBlend g [1, 1] = true ∧ g.blendOn = some s.found.tickAbs ∧ g.alone = false ∧
    s.found.mayStart 15 = true ∧ (n.found.chain 15).next ≠ none ∧ ({ g with alone := true } : Seg).alone = true ∧
    { g with blendOn := none }.blendOn ≠ some s.found.tickAbs := by
  simp only [State.Live]; decide +kernel

theorem witness_InputEdges :
    let s := axis 2 [(Reg.AX12_LIM_POS_IN 127, 3)]
    s.Live ∧ s.found.inputDead 3 = false ∧ s.found.namedBy 3 = [(127, 0)] ∧ s.found.namedBy 4 = [] ∧ s.found.inputOf 127 0 = 3 ∧
    s.found.bit (Reg.AX12_INPUT_STATUS 127) 0 = false ∧ (s.found.axIn 127 0).prev = none ∧ s.found.inputOf 127 0 ≠ 0xFF ∧
    ((s.found.axIn 127 0).last.getD 1000000000) + s.found.nat (Reg.AX12_DEBOUNCE_US 127) * 1000 ≤ 1000000000 ∧
    true ≠ s.found.bit (Reg.AX12_POLARITY 127) 0 ∧ (axis 3).found.axState 127 = AxState.moving ∧ (axis 1).found.axState 127 < 2 ∧
    ((axis 3).found.axis 127).reactNow = 0 ∧ (axis 3).found.chainOf 127 = none ∧
    s.found.nat (Reg.AX11_HOME_STATE 127) = HomeState.idle ∧ (run [(Reg.R4000_STATE_1, 2)]).found.inputDead 3 = true := by
  simp only [State.Live]; decide +kernel

theorem witness_ReferencesAndLatches :
    let s := axis 3 [(Reg.AX11_HOME_STATE 127, 3)]
    let r := axis 3 [(Reg.AX11_HOME_STATE 127, 4)] fun a => { a with hsRun := 255 }
    let known := fun (latches : List (LatchFor × Nat)) => axis 3 [(Reg.AX11_HOME_STATE 127, 3)] fun a =>
      { a with latches, hist := [⟨1, 0, 5⟩, ⟨0, 0, 5⟩] }
    let k := axis 3 [(Reg.AX12_LIM_POS_IN 127, 3), (Reg.AX12_INPUT_STATUS 127, 1), (Reg.AX12_MAX_ACTIVE_MS 127, 1)]
    let k := { k with dev := { k.dev with clk := { k.dev.clk with raw := 1000001 } } }
    (known []).Live ∧ (known []).found.positionAt 127 0 = some (5, true) ∧
    (known [(.general, 0)]).Live ∧ ((known [(.general, 0)]).found.axis 127).latches = [(.general, 0)] ∧
    (known [(.general, 0)]).found.positionAt 127 0 = some (5, true) ∧
    ((axis 3 [] fun a => { a with latches := [(.general, 0)] }).found.axis 127).latches = [(.general, 0)] ∧
    k.Live ∧ k.found.switchActive 127 0 = true ∧ (k.found.axIn 127 0).stuck = false ∧ k.found.nat (Reg.AX12_MAX_ACTIVE_MS 127) ≠ 0 ∧
    (k.found.axIn 127 0).since.getD 0 + k.found.nat (Reg.AX12_MAX_ACTIVE_MS 127) * 1000000 < k.found.rawNow ∧
    k.found.nat (Reg.AX11_HOME_STATE 127) = HomeState.idle ∧ s.found.switchActive 127 0 = false ∧ s.Live ∧ s.found.nat (Reg.AX11_HOME_STATE 127) = HomeState.index ∧ s.found.positionAt 127 0 = none ∧
    r.Live ∧ r.found.nat (Reg.AX11_HOME_STATE 127) = HomeState.push ∧
    r.found.nat (Reg.AX11_HS_TICKS 127) ≤ (r.found.axis 127).hsRun := by
  simp only [State.Live]; decide +kernel

/-- An accepted MOVE_ABS plans to its target; the axis is MOVING (R99, R101). -/
theorem test_move_abs :
    let d := after (.moveAbs 127 move) (axis 2)
    d.axState 127 = AxState.moving ∧ (d.axis 127).baseTgt = some 1000 ∧ d.reg (Reg.AX5_TAKEN_SEQ 127) = 7 := by decide +kernel

/-- A push counts the ticks in which its VEL output stands at HS_TORQUE, and begins anew where it falls below (R119). -/
theorem test_push_run :
    let s := fun v => axis 3 [(Reg.AX11_HOME_STATE 127, 4)] fun a => { a with hsRun := 6, velL := { a.velL with out := v } }
    (((s (-0x20000000)).dev.pushRun 127).axis 127).hsRun = 7 ∧ (((s 0x1FFFFFFF).dev.pushRun 127).axis 127).hsRun = 0 := by
  decide +kernel

/-- SWITCH_ON takes a ready drive from DISABLED to READY (R96). -/
theorem test_switch_on :
    (after (.switchOn 127 true) (axis 0 [] fun a => { a with fb := { a.fb with ready := true } })).axState 127 = AxState.ready := by
  decide +kernel
/-! ## The tick, geometry, commits, zones -/

def at_ (tick : Nat) (od : List (Nat × Int) := []) (f : Dev → Dev := id) : State :=
  run od fun d => f { d with clk := { d.clk with tick } }

theorem witness_TickAndLatch :
    let s := at_ 7
    let w := run [] fun d => { d with waits := [.cmd 127 1] }
    let c := run [] fun d => { d with waits := [.ctl 15 4] }
    s.Live ∧ s.ClockOk ∧ s.found.clk.tick = 7 ∧ s.found.waits = [] ∧ w.Live ∧
    (∀ n < 128, w.found.axState n = AxState.disabled ∧ w.found.nat (Reg.AX1_CONTROL n) = 0) ∧
    w.found.waits = [.cmd 127 1] ∧ (w.found.axis 127).held = none ∧ c.found.waits = [.ctl 15 4] ∧
    (c.found.chain 15).aborting = false := by
  simp only [State.Live, State.ClockOk]; decide +kernel

theorem test_sample_wraps :
    let d := after (.sampleInstant { di := 0, ai := [], enc := [] }) (at_ 7)
    d.clk.tick = 0 ∧ d.clk.cycle64 = 1 := by decide +kernel

theorem witness_EngineRunsAndOverruns :
    let s := run [(Reg.AX1_STATE 127, 3), (Reg.AX14_PROFILE_OVERRUN 127, Reaction.qstop), (Reg.AX14_CONTROL_OVERRUN 127, Reaction.ss1)]
      fun d => { d with lateP := [127], lateC := [127] }
    s.Live ∧ s.found.lateP = [127] ∧ s.found.lateC = [127] ∧ s.found.axState 127 = AxState.moving ∧
    (s.found.axis 127).reactNow = 0 ∧ s.found.chainOf 127 = none ∧
    s.found.nat (Reg.AX14_PROFILE_OVERRUN 127) = Reaction.qstop ∧ s.found.nat (Reg.AX14_CONTROL_OVERRUN 127) = Reaction.ss1 ∧
    (run []).found.lateP = [] ∧ (run []).found.lateC = [] ∧ s.found.injectedAxis 127 = false ∧ s.found.mayRun = true ∧
    (run [] fun d => { d with eng := { d.eng with ranAt := some 0 } }).found.mayRun = false ∧
    (run [] fun d => { d with eng := { d.eng with ranAt := some 0 } }).found.eng.ranAt = some (run []).found.tickAbs := by
  simp only [State.Live]; decide +kernel

/-- Axis 127 moves with its VEL level alone to run in this tick; every other axis is DISABLED. -/
theorem witness_VelLevelRuns :
    let s := axis 3 [(act (Reg.AX7_DIV_CUR 127 + 1), 1), (act (Reg.AX7_DIV_CUR 127 + 2), 8), (act (Reg.AX7_PHASE_CUR 127 + 2), 1)]
    let d := s.found
    s.Live ∧ d.mayRun = true ∧ d.evaluates 127 = true ∧ (∀ m < 128, m ≠ 127 → d.evaluates m = false) ∧ d.laneDown 127 = false ∧
    d.levelRuns 127 1 d.clk.tick = true ∧ d.levelRuns 127 2 d.clk.tick = false ∧ d.levelRuns 127 3 d.clk.tick = false ∧
    d.direct 127 = false ∧ d.nat Reg.R2800_LANES_WORKING ≠ 0 ∧ d.axisLoad 127 d.clk.tick (d.image 127) ≠ 0 ∧
    d.axisLoad 127 d.clk.tick (d.image 127) ≤ 5000 * d.nat Reg.R2800_LANES_WORKING ∧ d.genOn 127 1 = none ∧
    d.nat (act (Reg.AX7_FF_VEL 127)) ≠ 2 ∧ d.setting 127 (Reg.AX7_INTERP 127) = 0 ∧ d.setting 127 (Reg.AX10_VEL_SRC 127) ≠ 1 ∧
    (d.axis 127).velL.bump = false ∧ (∀ m < 128, ((d.axis m).fbIn.asOf d.tickAbs).vdc.age ≠ 0) ∧ d.eng.ranAt ≠ some d.tickAbs := by
  simp only [State.Live]; decide +kernel

theorem witness_LoopSupervision :
    let s := run [(Reg.AX1_STATE 127, 3), (Reg.AX7_SAT_WARN_TICKS 127, 9), (Reg.AX7_SAT_FAULT_TICKS 127, 9)] fun d =>
      d.modAxis 127 fun a => { a with auxL := { a.auxL with run := 9 } }
    let l := (axis 3 [(Reg.AX10_FROZEN_N 127, 1)] fun a =>
      { a with fb := { a.fb with pos := { age := 100 } }, velL := { a.velL with frozen := 1 } }).found
    (l.usesChannel 127 0 = true ∧ l.ageLimit 127 < (l.axis 127).fb.ages.getD 0 0 ∧ (l.axis 127).lost.testBit 0 = false ∧
      (l.axis 127).fb.ages.drop 1 = [0, 0, 0, 0] ∧ l.injectedAxis 127 = false) ∧
    (l.frozenLevel 127 1 = true ∧ ((l.axis 127).lev 1).frozenTold = false ∧ ∀ k ∈ [0, 2, 3], l.frozenLevel 127 k = false) ∧
    (axis 0).found.supervised 127 = false ∧ s.found.setting 127 (Reg.AX7_SAT_WARN_TICKS 127) = 9 ∧
    s.found.setting 127 (Reg.AX7_SAT_FAULT_TICKS 127) = 9 ∧ s.Live ∧ ((s.found.axis 127).lev 3).warned = false ∧ ((s.found.axis 127).lev 3).run = 9 ∧
    s.found.nat (Reg.AX7_SAT_WARN_TICKS 127) = 9 ∧ ((s.found.axis 127).lev 3).failed = false ∧
    s.found.nat (Reg.AX7_SAT_FAULT_TICKS 127) = 9 := by
  simp only [State.Live]; decide +kernel

theorem witness_Lanes :
    let s := run [] fun d => { d with eng := { d.eng with failed := some (3, 0) }, clk := { d.clk with cycle64 := 2 } }
    s.Live ∧ (run []).found.bit Reg.R2800_LANE_MAP 3 = true ∧ (run []).found.bit Reg.R2800_LANE_MAP 0 = true ∧
    s.found.eng.failed = some (3, 0) ∧ (0 : Nat) + 2 ≤ s.found.clk.cycle64 ∧ s.found.clk.tick = 0 ∧
    s.found.nat Reg.R2800_SPARE_STATE < 3 := by
  simp only [State.Live]; decide +kernel

/-- A lane that fails is out of the map and its fault is logged (R81). -/
theorem test_lane_fault :
    let d := after (.laneFault 2) (run [])
    d.bit Reg.R2800_LANE_MAP 2 = false ∧ d.bit Reg.R2800_LANE_MAP 1 = true ∧ d.nat Reg.R2800_LANE_FAULTS = 1 := by decide +kernel

theorem witness_GeometryStages :
    let s := at_ 1
    let k := at_ 3 [] fun d => { d with geom := { d.geom with kinDone := true } }
    s.Live ∧ s.found.standsBy = false ∧ s.found.clk.tick = 1 ∧ s.found.geom.kinDone = false ∧ s.found.geom.kinOver = false ∧
    k.Live ∧ k.found.standsBy = false ∧ k.found.geom.kinDone = true ∧ k.found.clk.tick = 3 ∧ k.found.geom.distOver = false ∧
    k.found.sep.evalA ≠ some k.found.clk.cycle64 ∧ (at_ 0).found.standsBy = false ∧ (at_ 0).found.ssmChains = [] ∧
    k.found.framesReady = true ∧ k.found.untestedChains = [] ∧ s.found.framesReady = false := by
  simp only [State.Live]; decide +kernel

/-- Distance testing has left a pair of chains 0 and 15 untested. -/
theorem witness_DistanceOverrun :
    let p : PairRes := { cls := .ll, a := 0, b := 15 * 32, dist := 0, cmd := false, screened := false, tested := false }
    let s := at_ 3 [] fun d => { d with geom := { d.geom with kinDone := true, cycle := some 0, pairs := [p] } }
    s.Live ∧ s.found.standsBy = false ∧ s.found.geom.distOver = false ∧ s.found.untestedChains ≠ [] := by
  simp only [State.Live]; decide +kernel

theorem witness_SeparationStages :
    let s := at_ 4
    let t := at_ 1 [(act (Reg.R3220_CONN 7), 1)]
    let m := run [] fun d => d.setChain 15 { meas := some { tick := 0, raw := 0, before := 0, cls := 0, bad := true } }
    s.Live ∧ s.found.standsBy = false ∧ s.found.geom.stopsT4 = [] ∧ s.found.geom.atT4 = [] ∧ t.found.clk.tick = 1 ∧
    (t.found.src 7).since = none ∧ s.found.bit Reg.R3101_UNIT_MAP 15 = true ∧ s.found.bit Reg.R3101_UNIT_MAP 16 = false ∧
    m.Live ∧ (at_ 3).found.sep.evalB ≠ some (at_ 3).found.clk.cycle64 ∧ (at_ 3).found.ssmChains = [] ∧
    (m.found.chain 15).meas.map StopMeas.bad = some true ∧ t.found.srcOn 7 = true ∧ t.found.srcTimedOut 7 = true ∧
    (at_ 4 [] fun d => { d with geom := { d.geom with stopsT4 := [(15, 0x1010)] } }).found.geom.stopsT4 = [(15, 0x1010)] := by
  simp only [State.Live]; decide +kernel

/-- A source with a payload in time, a measured stop that has ended, a stopped chain under SSM that may resume. -/
theorem witness_SeparationStages_more :
    let p := at_ 1 [(act (Reg.R3220_CONN 7), 1), (act (Reg.R3220_TIMEOUT_US 7), 1000)] fun d =>
      d.setSrc 7 { payload := some [], fresh := true }
    let m : StopMeas := { tick := 0, raw := 0, before := 0, cls := 0, ended := some 5 }
    let e := run [] fun d => d.setChain 15 { meas := some m }
    let r := at_ 4 [(act (Reg.CH0_CHAIN_EN 15), 1), (act (Reg.R3210_SSM_EN 15), 1), (act (Reg.R3210_AUTO_RESUME 15), 1),
      (act (Reg.R3210_STOP_KIND 15), 0), (Reg.CH9_STOP_STATE 15, 1), (Reg.CH9_OK_CYCLES 15, 0xFFFF), (Reg.AX1_STATE 127, 6)]
      fun d => d.setBytes (act (Reg.CH3_LINKS 15)) ([1, 0, 0, 0, 0, 0, 0, 0, 1, 127] ++ List.replicate 38 0)
    let d := r.found
    (p.Live ∧ (p.found.src 7).payload.isSome = true ∧ p.found.srcTimedOut 7 = false ∧ p.found.srcOn 7 = true) ∧
    (e.Live ∧ (e.found.chain 15).meas = some m ∧ m.bad = false ∧ m.ended = some 5) ∧
    r.Live ∧ d.ssm 15 = true ∧ d.ssmChains ≠ [] ∧ d.reg (act (Reg.R3210_AUTO_RESUME 15)) ≠ 0 ∧ d.nat (Reg.CH9_STOP_STATE 15) = 1 ∧
    d.nat (act (Reg.R3210_STOP_KIND 15)) = 0 ∧ d.nat (act (Reg.R3210_RESUME_CYCLES 15)) ≤ d.nat (Reg.CH9_OK_CYCLES 15) ∧
    d.members 15 = [127] ∧ d.axState 127 = AxState.fault ∧ d.faultPresent 127 = false := by
  simp only [State.Live]; decide +kernel

/-- A requester on the first host path. -/
def host : Requester := ⟨0, 0⟩

theorem witness_CommitRequests :
    let s := run []
    (∃ t, tableOf 0x2009 (Reg.AX9_COMMIT_CYCLE 0 % 256) = some t ∧ mget none s.found.pend t.key = none) ∧
    s.found.Serves host 0x2009 ∧ s.found.cycle = 0 ∧ s.found.pastCutoff = false ∧
    s.found.writeBlocked 0x2009 (Reg.AX9_COMMIT_CYCLE 0 % 256) 1 (leBytes 4 1) = Code.STATUS_OK := by
  simp only [Dev.Serves]
  refine ⟨?_, by decide +kernel⟩
  obtain ⟨t, h⟩ := Option.isSome_iff_exists.1
    (show (tableOf 0x2009 (Reg.AX9_COMMIT_CYCLE 0 % 256)).isSome = true by decide +kernel)
  exact ⟨t, h, rfl⟩

theorem witness_CommitRequests_refused :
    let x := run [(Reg.AX9_COMMIT_MASK 0, 1), (Reg.R3440_EN 31, 1), (Reg.R3440_AXIS 31, 0), (Reg.R3440_LEVEL 31, 0)]
    tableOf 0x2009 (Reg.AX9_COMMIT_CYCLE 0 % 256) = some (.axis 0) ∧
    (run []).found.WriteOk host 0x2009 (Reg.AX9_COMMIT_CYCLE 0 % 256) (leBytes 4 1) ∧
    (run []).found.requestRefusal (.axis 0) = Code.STATUS_OK ∧ x.found.requestRefusal (.axis 0) = Code.TRACK_OWNS_BANK ∧
    (at_ 7 [] fun d => { d with ph := { d.ph with cutoff := true } }).found.pastCutoff = true := by
  exact ⟨by decide +kernel, takes_ok _ _ _ _ _ (by decide +kernel), by decide +kernel⟩

theorem dueNext_one (d : Dev) (k : Nat) (p : Pending) (h : d.pend = [(k, some p)])
    (c : p.cycle = d.clk.cycle64 + 1 ∧ p.held = false ∧ p.ready = false ∧ k % 256 < 128) : d.dueNext = [(k, p)] := by
  simp [Dev.dueNext, h, c]

/-- Due at the coming T0: a start, whose cut-off passes, and a release table whose image is no release table. -/
theorem witness_CommitsSwitch_cutoff :
    let p : Pending := { cycle := 1, policy := 0 }
    let s := fun (t : Table) => at_ 7 [] fun d => { d with pend := [(t.key, some p)] }.setBytes Reg.R3804_INACTIVE [9]
    (∀ t ∈ [Table.start 3, .release], (s t).Live ∧ (s t).found.ph.cutoff = false ∧ keyTable t.key = some t ∧
      mget none (s t).found.pend t.key = some p ∧ mget none (s t).found.pend (behind t.key) = none) ∧
    (∀ t ∈ [Table.start 3, .release], (s t).found.dueNext = [(t.key, p)]) ∧
    ((s (.start 3)).found.at 28000).tableCheck (.start 3) p = (Code.STATUS_OK, none) ∧
    ((s .release).found.at 28000).tableCheck .release p = (Code.RELEASE_INVALID, none) := by
  simp only [State.Live]
  refine ⟨by decide +kernel, fun t ht => dueNext_one _ _ _ ?_ ?_, by decide +kernel⟩ <;> revert t <;> decide +kernel

theorem witness_CommitsSwitch :
    let p : Pending := { cycle := 0, policy := 1, ready := true }
    let s := run [(Reg.R1400_NET_STATE, 3)] fun d => { d with pend := [(Table.key (.axis 127), some p)] }
    let h := run [(Reg.R1400_NET_STATE, 3)] fun d =>
      { d with pend := [(Table.key (.axis 127), some { p with held := true, ready := false })] }
    s.Live ∧ s.found.dueAt (Table.key (.axis 127)) = some p ∧ s.found.inSync = true ∧ p.tracker = none ∧
    mget none s.found.pend (behind (Table.key (.axis 127))) = none ∧ h.Live ∧ h.found.clk.tick = 0 ∧ h.found.inSync = true ∧
    (at_ 7).found.dueNext = [] ∧ (at_ 7).found.ph.cutoff = false ∧ keyTable (Table.key (.axis 127)) = some (.axis 127) := by
  simp only [State.Live]; decide +kernel

theorem witness_BankActivates :
    ∃ e k, (e, k) ∈ bankEntries 1 ∧ (odType k).wrap (State.reset.dev.reg k) = State.reset.dev.reg k := by
  have h : (bankEntries 1).head?.map (fun y => decide ((odType y.2).wrap (State.reset.dev.reg y.2) = State.reset.dev.reg y.2)) =
      some true := by decide +kernel
  obtain ⟨y, hy, hw⟩ := Option.map_eq_some_iff.1 h
  exact ⟨y.1, y.2, List.mem_of_mem_head? hy, of_decide_eq_true hw⟩

theorem witness_CpiAndCopyActive :
    let s := run [(Reg.R1140_NT_VALID, 1)] fun d => d.setCpi 15 { d.cpiOf 15 with mode := 1 }
    let m := run [(Reg.R1140_NT_VALID, 1)] fun d => { d.setCpi 15 { d.cpiOf 15 with mode := 1 } with plic := [47] }
    let l := run [] fun d => { d with pend := [(Reg.AX9_COMMIT_CYCLE 127, some { cycle := 1, policy := 0, ready := true })] }
    let o := run [(Reg.R3440_EN 31, 1), (Reg.R3440_AXIS 31, 127), (Reg.R3440_LEVEL 31, 0)]
    l.found.locked (Reg.AX9_COMMIT_CYCLE 127) = true ∧ (∀ l' < 4, l.found.trackOwns 127 l' = false) ∧ o.found.trackOwns 127 0 = true ∧
    s.Up ∧ s.found.cpiDue (s.found.cpiOf 15) = true ∧ (run []).found.cpiDue ((run []).found.cpiOf 15) = false ∧
    m.found.cpiDue (m.found.cpiOf 15) = true ∧ ((m.found.setCpi 15 { m.found.cpiOf 15 with told := true }).cpiOf 15).told = true ∧
    s.found.reg Reg.R1140_NT_VALID ≠ 0 ∧ s.found.acting = true ∧ 47 ∉ s.found.plic ∧
    47 ∈ m.found.plic ∧ (m.found.cpiOf 15).told = false ∧ s.found.locked (Reg.AX9_COMMIT_CYCLE 127) = false ∧
    (∀ l < 4, s.found.trackOwns 127 l = false) := by
  simp only [State.Up]; decide +kernel

theorem witness_ZoneCommands :
    let s := run [(Reg.R5000_SESSION_STATE, 1)] fun d => d.setZone 63 { holder := some 15 }
    s.Up ∧ s.found.Serves host (0x3140 + 63) ∧ (s.found.zone 63).holder = some 15 ∧ s.found.slAllowed host = false ∧
    s.found.pathOpen host (0x3140 + 63) 0x10 = true := by
  simp only [State.Up, Dev.Serves]; decide +kernel

theorem witness_ZoneCommands_session :
    let s := fun (st : Int) => run [(Reg.CH1_STATE 15, st)] fun d => { d with
      safe := { d.safe with session := some { owner := host, user := 1, only := false, last := 0 } } }.setZone 63 { holder := some 15 }
    (s 0).found.WriteOk host (0x3140 + 63) 0x10 [0] ∧ (s 0).found.slAllowed host = true ∧
    (s 0).found.chainState 15 = AxState.disabled ∧ (s 3).found.chainState 15 ≠ AxState.disabled ∧
    (s 3).found.chainState 15 ≠ AxState.fault ∧ ((s 0).found.zone 62).holder = none :=
  ⟨takes_ok _ _ _ _ _ (by decide +kernel), by decide +kernel⟩

theorem witness_ZoneQueues :
    let d := State.reset.dev.setZone 63 { holder := some 15, queue := [0, 1] }
    (d.zone 63).queue.Nodup ∧ (d.zone 63).queue.length ≤ 16 ∧ 15 ∉ (d.zone 63).queue := by decide +kernel

/-- A chain asks for a token; the request waits for the evaluation (R156). -/
theorem test_zone_request :
    ((after (.request 15 63) (run [])).zone 63).asks = [{ chain := 15, ask := true }] := by decide +kernel
/-! ## Work cores, Sett, DMA, the network -/

/-- A descriptor with a function and FLAGS. -/
def desc_ (func flags : Nat) : Bytes := leBytes 4 func ++ [0, 0, 0, 0] ++ leBytes 24 0 |>.set 5 (byte flags)

/-- Items of the dispatcher. -/
def item_ (slot : Nat) (place : Place) (f : Item → Item := id) : Item := f { slot, gen := 1, desc := leBytes 32 0, place, seq := slot, since := 0 }

def sett (items : List Item) (od : List (Nat × Int) := []) (f : Sett → Sett := id) : State :=
  run od fun d => { d with sett := f { d.sett with items, started := true, harts := [(42, { asked := some 0 }), (44, { asked := some 0 }),
    (46, { asked := some 0 })] } }

theorem witness_HartsTakeItems :
    let s := sett [item_ 9 .queued]
    let b := sett [] [] fun x => { x with harts := [(46, { asked := some 0 }), (47, { asked := some 0 })] }
    let p := sett [item_ 9 .queued] [(Reg.R3800_PUSH_FORCE, 1)]
    let t := sett [item_ 9 .queued fun i => { i with entry := some 3 }]
    let r := sett [item_ 9 .queued fun i => { i with due := true, replays := 255 }]
    s.found.issuing 47 = true ∧ b.found.issuing 47 = false ∧ s.found.issuing 46 = false ∧ p.found.pushMode = true ∧
    s.found.pushMode = false ∧ p.found.prefetched 47 = none ∧ t.found.nextTick ≠ none ∧ t.found.issuing 0 = true ∧
    r.found.bestItem = some (item_ 9 .queued fun i => { i with due := true, replays := 255 }) ∧
    r.found.nat Reg.R3802_REPLAY_MAX < 256 ∧ s.Live ∧ s.found.taking 47 = true ∧ (s.found.prefetched 47).or s.found.bestItem = some (item_ 9 .queued) ∧
    s.found.item 9 = some (item_ 9 .queued) ∧ s.found.serving 47 = none ∧ (b.found.hart 47).asked = some 0 ∧
    (b.found.prefetched 47).or b.found.bestItem = none ∧ b.found.nat Reg.R3800_ASK_TIMEOUT_US = 0 ∧
    (sett [item_ 9 .service fun i => { i with hart := 45 }]).found.serving 45 ≠ none ∧
    (sett [] [] fun x => { x with leaving := [(23, some 0)] }).found.taking 47 = false ∧
    (sett [item_ 9 .prefetch fun i => { i with hart := 47 }]).found.prefetched 47 ≠ none := by
  simp only [State.Live]; decide +kernel

theorem witness_DispatchOrder : (sett [item_ 9 .queued]).found.bestItem = some (item_ 9 .queued) := by decide +kernel

theorem witness_ItemsComeAndGo :
    let i := item_ 4095 .service fun i => { i with hart := 47 }
    let j := item_ 8 .queued fun i => { i with record := some 3, written := false }
    let t := item_ 7 .queued fun i => { i with entry := some 5 }
    let s := sett [i, j, t]
    let full := sett [] [] fun x => { x with items := List.replicate 4096 (item_ 0 .queued) }
    s.found.issuing 47 = true ∧ (run []).found.issuing 47 = false ∧ full.found.issuing 47 = true ∧
    4096 ≤ (full.found.sett.items.filter fun i => !i.tick).length + full.found.nEntries ∧
    ¬(4096 ≤ (s.found.sett.items.filter fun i => !i.tick).length + s.found.nEntries) ∧
    descOk (desc_ 1 2) = true ∧ descFlag (desc_ 1 2) 1 = true ∧ (sett [] [(Reg.R3802_JOURNAL_ENTRIES, 0)]).found.nat Reg.R3802_JOURNAL_ENTRIES = 0 ∧
    s.Live ∧ descOk (leBytes 32 1) = true ∧ descOk [] = false ∧ descFlag (leBytes 32 1) 1 = false ∧
    descFlag (leBytes 32 1) 2 = false ∧ s.found.item 8 = some j ∧ j.record = some 3 ∧ j.written = false ∧ j.fence = false ∧
    s.found.fenceDone = none ∧ s.found.serving 47 = some i ∧
    s.found.sett.items.find? (fun i => i.entry = some 5) = some t ∧
    s.found.sett.items.find? (fun i => i.entry = some 6) = none := by
  simp only [State.Live]; decide +kernel

theorem witness_ParkingAndReplay :
    let i := item_ 4 .service fun i => { i with hart := 47 }
    let p := item_ 5 .parked fun i => { i with vpn := 2 ^ 27 - 1, asid := 1, frame := some 0 }
    let r := item_ 6 .service fun i => { i with hart := 45, resumed := true, frame := some 0 }
    let t := item_ 7 .service fun i => { i with hart := 44, entry := some 3 }
    let s := sett [i, p] [(Reg.R3801_PARK_EN, 1), (Reg.R3801_PARK_FRAMES, 8), (Reg.R3801_MAP_FUNC, 0)]
    let n := sett [i, p] [(Reg.R3801_PARK_EN, 1), (Reg.R3801_PARK_FRAMES, 1)]
    let k := sett [t]
    s.found.issuing 47 = true ∧ (run []).found.issuing 47 = false ∧ (sett []).found.serving 47 = none ∧ s.found.item 4 = some i ∧
    i.record = none ∧ i.func ≠ 9 ∧ n.found.freeFrame = none ∧ (∀ ch < 32, s.found.flag (Reg.R3920_RESUME_ON_MAP ch) = false) ∧
    ((sett [i] [(Reg.R3801_PARK_MAX, 0)]).found.nat Reg.R3801_PARK_MAX ≤ i.parks) ∧ t.tick = true ∧ k.found.serving (2 * 22) = some t ∧
    (sett [r]).found.issuing 45 = true ∧ s.found.serving (2 * 23 + 1) = some i ∧ s.found.serving (2 * 23) = none ∧
    s.found.prefetched (2 * 23 + 1) = none ∧ (s.found.sett.items.find? fun i => i.frame = some 0) = some p ∧ p.place = .parked ∧
    ({ cause := 13, priv := 1, csr := { medeleg := 2 ^ 13 } } : HartContext).csr.medeleg.testBit 13 = true ∧ s.Live ∧ s.found.serving 47 = some i ∧ i.tick = false ∧ s.found.flag Reg.R3801_PARK_EN = true ∧
    i.func ≠ 9 ∧ i.parks < s.found.nat Reg.R3801_PARK_MAX ∧ s.found.freeFrame = some 1 ∧
    s.found.item 5 = some p ∧ s.found.parkedOn (2 ^ 27 - 1) 1 = [p] ∧ s.found.parkedOn 0 0 = [] ∧ s.found.serving 45 = none ∧
    (sett [r]).found.serving 45 = some r ∧ (sett [r]).found.item 6 = some r := by
  simp only [State.Live]; decide +kernel

theorem witness_RetireGrace :
    let s := sett [] [] fun x => { x with leaving := [(23, some 0)] }
    let i := item_ 4 .service fun i => { i with hart := 47 }
    let o := sett [i] [(Reg.R3800_RETIRE_GRACE_MS, 0)] fun x => { x with leaving := [(23, some 0)] }
    s.Live ∧ mget none s.found.sett.leaving 23 = some 0 ∧ s.found.rawNow < 0 + 1000000 * s.found.nat Reg.R3800_RETIRE_GRACE_MS ∧
    0 + 1000000 * o.found.nat Reg.R3800_RETIRE_GRACE_MS ≤ o.found.rawNow ∧ mget none o.found.sett.leaving 23 = some 0 ∧
    o.found.serving (2 * 23 + 1) = some i ∧ o.found.item 4 = some i := by
  simp only [State.Live]; decide +kernel

theorem witness_HartExceptions :
    let d := (sett [] [(Reg.R3510_SIGNAL 1, 1), (Reg.R3510_SIG_MASK 1, 1)]).found
    (sett []).Live ∧ d.issuing 47 = true ∧ (run []).found.issuing 47 = false ∧
    d.nat (Reg.R3510_SIGNAL 1) &&& d.nat (Reg.R3510_SIG_MASK 1) ≠ 0 ∧ (sett []).found.nat (Reg.R3510_SIGNAL 1) = 0 ∧
    pmpAllows {} 3 3 0x0BFEFFFFFF 8 = true ∧ pmpAllows {} 0 0 0x0800000000 8 = false ∧ (0x0BFEFFFFFF : Nat) % 8 ≠ 0 ∧
    64 < 0x0BFEFFFFFF % 64 + 8 ∧ aeCell 0x0060100000 = some (0, 6, 0) ∧ aeCell 0x0060FFFFFF = none ∧
    d.aeWriteRefusal 0 6 = Code.AE_OWNED := by
  simp only [State.Live]; decide +kernel

/-- An illegal instruction traps in M mode with its pc (R250). -/
theorem test_illegal_instruction :
    let x := (after (.illegalInstruction 47 { pc := 0x1000 } 0xFFFF {}) (sett [])).hart 47
    x.mcause = 2 ∧ x.mepc = 0x1000 ∧ x.mtval = 0xFFFF := by decide +kernel

theorem witness_IotlbInvalRemoves :
    let s := run [] fun d => { d with dma := { d.dma with iotlb := List.replicate 1024 (1, 2, 3, 0) } }
    s.Up ∧ s.found.dma.iotlb.length ≤ 1024 := by
  simp only [State.Up]; decide +kernel

/-- A write with ALL of another address space leaves an entry; one of its own removes it (R283). -/
theorem test_iotlb_inval :
    let s := run [] fun d => { d with dma := { d.dma with iotlb := [(1, 2, 3, 0)] } }
    (after (.iotlbInval (2 ^ 44 + 4096 * 2)) s).dma.iotlb = [] ∧
    (after (.iotlbInval (2 ^ 44 + 4096 * 3)) s).dma.iotlb = [(1, 2, 3, 0)] := by decide +kernel

/-- A DMA channel with an identity mapping of LPDDR5X's first two pages, its descriptor at the first byte copying one byte of the
second page to the next one; its page table, of one leaf, stands in the third page. -/
def dma (st : Int) : State :=
  run [(Reg.R3920_STATE 31, st), (Reg.R3920_DESC_PTR 31, 0x0800000000), (Reg.R3920_CUR_DESC 31, 0x0800000000),
    (Reg.R3920_IO_SATP 31, 0x800002)] fun d =>
    let d := { d with dma := { d.dma with iotlb := [(0, 0x800000, 0x2000000CF, 0), (0, 0x800001, 0x2000004CF, 0)] } }
    (d.memWrite 0x0800000000 (leBytes 8 0x0800001000 ++ leBytes 8 0x0800001001 ++ leBytes 4 1 ++ leBytes 4 1 ++ leBytes 8 0)).memWrite
      0x0800002100 (leBytes 8 0x2000000CF)

theorem witness_DmaChannels :
    let s := dma 1
    let d := s.found
    s.Up ∧ d.nat (Reg.R3920_STATE 31) = DmaState.running ∧ d.nat (Reg.R3920_DESC_PTR 31) = 0x0800000000 ∧
    d.nat (Reg.R3920_CUR_DESC 31) = 0x0800000000 ∧ dmaDescOk (d.memRead 0x0800000000 32) = true ∧
    dmaDescOk (d.memRead 0x0800001000 32) = false ∧ fieldLE (d.memRead 0x0800000000 32) 16 4 = 1 ∧
    fieldLE (d.memRead 0x0800000000 32) 20 4 &&& 5 = 1 ∧ fieldLE (d.memRead 0x0800000000 32) 0 8 = 0x0800001000 ∧
    fieldLE (d.memRead 0x0800000000 32) 8 8 = 0x0800001001 ∧ inMemory 0x0800000000 32 = true ∧ inMemory 0x0BFEFFFFF0 32 = false ∧
    regionOf 0x0800001000 = .memory ∧ regionOf 0x0800001001 = .memory ∧ d.dmaOff 31 = 0 ∧ d.health.poisoned = [] ∧
    (dma 3).found.nat (Reg.R3920_STATE 31) = DmaState.stopped ∧ (dma 0).found.nat (Reg.R3920_STATE 31) ≠ DmaState.running := by
  simp only [State.Up]; decide +kernel

theorem witness_DmaChannels_translations :
    let d := (dma 1).found
    let e := { d with dma := { d.dma with iotlb := [] } }
    (∀ va w, (va, w) ∈ [(0x0800000000, false), (0x0800001000, false), (0x0800001001, true)] →
      d.ioTranslate 0x800002 va w = (.ok va, d)) ∧
    (d.dma.iotlb.filter fun e => e.1 != 0x800002 / 2 ^ 44 % 2 ^ 16) = [] ∧
    ∃ l, e.ioTranslate 0x800002 0x0800000000 false = (.ok 0x0800000000, { e with dma := l }) ∧ l.offs = d.dma.offs := by
  refine ⟨?_, by decide +kernel, ⟨_, rfl, rfl⟩⟩
  simp only [List.mem_cons, Prod.mk.injEq, List.not_mem_nil, or_false]
  rintro va w (⟨rfl, rfl⟩ | ⟨rfl, rfl⟩ | ⟨rfl, rfl⟩) <;> rfl

/-- A frame of kind `kind` from node 7, slot 5, round 0, with this payload. -/
def frame (kind : Nat) (payload : Bytes) (fcs : Bool := true) : FrameIn :=
  { port := 0, raw := 0, fcs,
    bytes := List.replicate 12 0 ++ beBytes 2 0x88B5 ++ [byte (16 + kind), 0, 0, 1, 0, 7] ++ beBytes 2 5 ++ List.replicate 16 0 ++
      payload ++ List.replicate 30 0 }

/-- A node 9 with a port up, in a network state, whose schedule has one entry: slot 5 of node 7, received. -/
def node (net : Int) (od : List (Nat × Int) := []) (role : Nat := 2) (kind : Nat := 3) (f : Dev → Dev := id) : State :=
  run ([(act Reg.R1400_NODE_ID, 9), (act Reg.R1400_CLUSTER_ID, 1), (act Reg.R1400_ETHERTYPE, 0x88B5), (Reg.R1410_LINK_STATE 0, 1),
    (Reg.R1400_NET_STATE, net)] ++ od) fun d =>
    f ((d.setLink fun l => { l with bypass := false }).setBytes Reg.R1420_ACTIVE
      (leBytes 2 1 ++ leBytes 14 0 ++ [0xFF, 5, 7, 0, byte kind, byte role, 0, 0] ++ leBytes 24 0))

theorem witness_LinksAndDelays :
    let s := node 3
    s.Live ∧ (frame 3 []).port < 4 ∧ s.found.nat (Reg.R1410_LINK_STATE 0) = 1 ∧ s.found.nat (Reg.R1410_LINK_STATE 3) = 0 ∧
    s.found.hears 0 = true ∧ (frame 3 [] false).fcs = false ∧ (s.found.headerOf (frame 5 [1]).bytes).isSome = true ∧
    s.found.headerOf [] = none ∧ (run []).found.hears 0 = false ∧ (run []).found.pairMode ≠ 2 := by
  simp only [State.Live]; decide +kernel

theorem witness_LinksAndDelays_delays :
    let s := node 3 [] 2 3 fun d => d.setLink fun l => { l with ports := [(0, { reqT1 := some (7, 5) })] }
    let f := frame 4 ([2] ++ List.replicate 11 0 ++ leBytes 2 7)
    s.Live ∧ s.found.hears 0 = true ∧ s.found.link.silent = false ∧ s.found.state ≠ DevState.failed ∧
    (s.found.headerOf f.bytes).isSome = true ∧ fieldLE (payloadOf f.bytes) 0 1 = 2 ∧
    (s.found.port 0).reqT1 = some (fieldLE (payloadOf f.bytes) 12 2, 5) ∧ (s.found.port 0).delays = [] ∧
    (s.found.headerOf (frame 4 [1]).bytes).isSome = true ∧ fieldLE (payloadOf (frame 4 [1]).bytes) 0 1 = 1 ∧
    (node 3 [] 2 3 fun d => d.setLink fun l => { l with silent := true }).found.link.silent = true ∧
    (∀ i < 4, (run []).found.hears i = false) := by
  simp only [State.Live]; decide +kernel

/-- A schedule of one entry, slot 5 of node `owner`, with a window of two bytes, and a map of one record: byte 1 of it is value 0. -/
def windowed (owner kind role ports : Nat) (f : Dev → Dev := id) : State :=
  node 3 [] 0 0 fun d => f (((d.setBytes Reg.R1420_ACTIVE (leBytes 2 1 ++ leBytes 14 0 ++ [0xFF, 5] ++ leBytes 2 owner ++
    [byte kind, byte role, 0, byte ports] ++ leBytes 8 0 ++ leBytes 2 2 ++ leBytes 14 0)).setBytes Reg.R1600_MAP_ACTIVE
    ([0, 7] ++ List.replicate 14 0)).setBytes Reg.R1610_VALUES (List.replicate 16 0))
theorem witness_ScheduledFrames :
    let s := node 3
    let f := frame 3 [0, 0, 0]
    s.Live ∧ (∃ h e x, s.found.ingress f = (some h, s.found) ∧ s.found.entriesFor 0 h = [(e, x)] ∧ h.epoch = 0 ∧
      x.has Role.rx = true ∧ x.has Role.fwd = false ∧
      (s.found.ntAt f.raw + (s.found.bypassWait 0 x : Int) * 2 ^ 40 - s.found.expectedAt h x.offset).natAbs = 0) ∧
    f.fcs = true ∧ s.found.inSync = true ∧ s.found.paired = false ∧ s.found.pairMode = 0 ∧
    s.found.link.pairSeen.contains 7 = false ∧ (s.found.port 0).dropRun = false ∧ s.found.windowMap 1 = [] := by
  simp only [State.Live]
  refine ⟨by decide +kernel, ⟨_, _, _, rfl, rfl, rfl, rfl, rfl, by decide +kernel⟩, by decide +kernel⟩

theorem witness_ScheduledFrames_values :
    let s := windowed 7 3 2 0
    let f := frame 3 [0, 9]
    let late := { f with raw := 500000 }
    s.Live ∧ (∃ h e x i r, s.found.ingress f = (some h, s.found) ∧ s.found.entriesFor 0 h = [(e, x)] ∧ x.winLen ≠ 0 ∧
      s.found.windowMap e = [(i, r)] ∧ r.sent = false ∧ r.target = 0 ∧ 16 * (i + 1) ≤ (s.found.bytes Reg.R1610_VALUES).length ∧
      fieldLE (windowOf x (payloadOf f.bytes)) 0 1 = 0 ∧ s.found.link.pairSeen.contains (s.found.entry e).owner = false) ∧
    (∃ h e x, s.found.ingress late = (some h, s.found) ∧ s.found.entriesFor 0 h = [(e, x)] ∧
      s.found.node Reg.R1400_PRECISION_NS * 2 ^ 40 + 100 * 2 ^ 40 <
        (s.found.ntAt late.raw + (s.found.bypassWait 0 x : Int) * 2 ^ 40 - s.found.expectedAt h x.offset).natAbs) := by
  simp only [State.Live]
  exact ⟨by decide +kernel, ⟨_, _, _, _, _, rfl, rfl, by decide +kernel, rfl, by decide +kernel⟩, ⟨_, _, _, rfl, rfl, by decide +kernel⟩⟩

theorem witness_ScheduledFrames_sends :
    let g := windowed 7 4 20 1
    let f := frame 4 [0, 9]
    let t := windowed 9 3 1 1 fun d => d.setLink fun l => { l with sendFrom := some 0 }
    let a := run [(Reg.R1450_TIMEOUT_MS, 1)] fun d => d.setLink fun l => { l with asked := [(3, 0)] }
    g.Live ∧ (∃ h e x, g.found.ingress f = (some h, g.found) ∧ g.found.entriesFor 0 h = [(e, x)] ∧ x.has Role.insert = true ∧
      x.has Role.rx = false ∧ x.has Role.extract = false ∧ x.has Role.endTurn = false ∧ x.has Role.fwd = true ∧ x.ports = [0] ∧
      38 + x.winOff + (g.found.ownWindow e).1.length ≤ f.bytes.length) ∧ g.found.link.silent = false ∧
    t.Live ∧ 0 < schedCount t.found.sched ∧ (t.found.entry 0).has Role.tx = true ∧ t.found.inSync = true ∧
    t.found.link.sendFrom = some 0 ∧ (t.found.entry 0).offset < 31250 ∧ (t.found.entry 0).mask.testBit t.found.clk.tick = true ∧
    t.found.tickAbs % 8 = t.found.clk.tick ∧ t.found.paired = false ∧ (t.found.entry 0).kind = FrameKind.cyclic ∧
    (g.found.entry 0).has Role.tx = false ∧ a.Live ∧ a.found.link.asked.find? (fun x => x.1 = 3) = some (3, 0) ∧
    a.found.rawNow < 0 + a.found.nat Reg.R1450_TIMEOUT_MS * 1000000 ∧
    0 + (a.found.set Reg.R1450_TIMEOUT_MS 0).nat Reg.R1450_TIMEOUT_MS * 1000000 ≤ (a.found.set Reg.R1450_TIMEOUT_MS 0).rawNow := by
  simp only [State.Live]
  exact ⟨by decide +kernel, ⟨_, _, _, rfl, rfl, by decide +kernel⟩, by decide +kernel⟩

/-- Safety payloads of connection 1 with sequence numbers 1, 0 and 9 after 0, and one with a wrong CRC. -/
theorem witness_ScheduledFrames_safety :
    let s := windowed 7 6 2 0 fun d => ((d.set (act (Reg.R1500_CONN 0)) 1).set (act (Reg.R1500_LEN 0)) 1).set (act (Reg.R1500_DIR 0)) 0
    let head := fun (seq : Nat) => leBytes 2 1 ++ leBytes 2 seq ++ leBytes 2 1 ++ [7]
    let b := fun (seq bad : Nat) => head seq ++ leBytes 4 (crc32c (leBytes 4 0 ++ head seq) + bad)
    ∀ seq ∈ [1, 0, 9], ∀ bad < 2,
      fieldLE (payloadOf (frame 6 (b seq bad)).bytes) 0 2 = 1 ∧ fieldLE (payloadOf (frame 6 (b seq bad)).bytes) 4 2 = 1 ∧
      (decide (crc32c (leBytes 4 0 ++ (payloadOf (frame 6 (b seq bad)).bytes).take 7) =
        fieldLE (payloadOf (frame 6 (b seq bad)).bytes) 7 4)) = (bad == 0) ∧
      (match s.found.arrive (frame 6 (b seq bad)) with
        | (some h, es, e1) =>
          let e2 := (e1.followEpoch h).2
          (e1.followEpoch h).1 && es.any (fun z => z.2.has Role.rx) &&
            decide ((List.range 128).find? (fun k => e2.nat (act (Reg.R1500_CONN k)) = 1 && e2.nat (act (Reg.R1500_CONN k)) != 0xFFFF &&
                e2.nat (act (Reg.R1500_DIR k)) = 0) = some 0 ∧ e2.nat (act (Reg.R1500_LEN 0)) = 1 ∧
              e2.nat (act (Reg.R1500_KEY 0)) = 0 ∧ (fieldLE (b seq bad) 2 2 + 65536 - e2.nat (Reg.R1500_LAST_SEQ 0)) % 65536 = seq ∧
              (e2.conn 0).rejected = none)
        | _ => false) = true := by
  decide +kernel

theorem witness_SafeConnTimeout :
    let s := run [(act (Reg.R1500_CONN 127), 1), (act (Reg.R1500_WD_US 127), 0)]
    s.found.nat (act (Reg.R1500_CONN 127)) ≠ 0xFFFF ∧ s.found.nat (act (Reg.R1500_DIR 127)) = 0 ∧
    s.found.nat (Reg.R1500_STATE 127) ≠ 2 ∧
    (s.found.conn 127).at_ + s.found.nat (act (Reg.R1500_WD_US 127)) * 1000 ≤ s.found.rawNow := by decide +kernel
/-! ## Cluster time, wall time, scheduled actions -/

/-- A startup frame of kind `kind` as every unit of the test network sends it, with the payload of a SYNC of the network. -/
def sync_ (kind : Nat) : FrameIn := frame kind [0]

theorem witness_ClusterTime_leaders :
    let s := node 0 [(act Reg.R1400_ROLE, 1)]
    let c := node 1 [] 2 3 fun d => ({ d with clk := { d.clk with cycle64 := 16 } }).setLink fun l => { l with csSent := 16 }
    let i := node 2 [] 2 3 fun d => d.setLink fun l => { l with integ := 16, sawSync := true }
    let t := node 2 [(act Reg.R1400_LISTEN_BASE_US, 0)] 2 3 fun d => { d with clk := { d.clk with raw := 10000000 } }
    let s := { s with dev := { s.dev with clk := { s.dev.clk with raw := 10 ^ 12 } } }
    (s.Live ∧ s.ClockOk ∧ s.found.net = NetState.listen ∧ s.found.node Reg.R1400_ROLE = 1 ∧ s.found.node Reg.R1400_NODE_ID ≠ 0 ∧
      s.found.link.bypass = false ∧ s.found.link.listenAt + (s.found.node Reg.R1400_LISTEN_BASE_US * 1000 +
        s.found.node Reg.R1400_RANK * 4000 + s.found.node Reg.R1400_NODE_ID * 20) ≤ s.found.rawNow) ∧
    (c.Live ∧ c.ClockOk ∧ c.found.net = NetState.coldstart ∧ c.found.node Reg.R1400_COLDSTART_CYCLES ≤ c.found.link.csSent ∧
      c.found.node Reg.R1400_COLDSTART_CYCLES ≤ c.found.cycle) ∧
    (i.Live ∧ i.ClockOk ∧ i.found.net = NetState.integrating ∧ i.found.node Reg.R1400_INTEG_CYCLES ≤ i.found.link.integ ∧
      i.found.link.sawSync = true) ∧
    (t.Live ∧ t.ClockOk ∧ t.found.net = NetState.integrating ∧ t.found.link.adoptAt + 1000000 ≤ t.found.rawNow ∧
      t.found.reg Reg.R1400_ROLE = 0 ∧ t.found.inSync = false ∧ DevState.config ≤ t.found.state) := by
  simp only [State.Live, State.ClockOk]; decide +kernel

theorem witness_ClusterTime_startFrames :
    let s := node 0 [(act Reg.R1400_ROLE, 0)]
    let u := node 3 [(act Reg.R1400_ROLE, 0)] 2 1
    s.Live ∧ s.ClockOk ∧ (∃ h, s.found.ingress (sync_ 1) = (some h, s.found) ∧ h.kind ≠ FrameKind.coldstart) ∧
    (∃ h, s.found.ingress (sync_ 2) = (some h, s.found) ∧ h.kind = FrameKind.coldstart) ∧ s.found.node Reg.R1400_ROLE = 0 ∧
    fieldLE (payloadOf (sync_ 1).bytes) 0 1 = 0 ∧ s.found.net = NetState.listen ∧
    u.Live ∧ u.ClockOk ∧ u.found.inSync = true ∧ u.found.node Reg.R1400_ROLE ≠ 2 ∧
    (∃ h e x, u.found.ingress (sync_ 1) = (some h, u.found) ∧ u.found.entriesFor 0 h = [(e, x)] ∧
      (u.found.ntAt (sync_ 1).raw + (u.found.bypassWait 0 x : Int) * 2 ^ 40 - u.found.expectedAt h x.offset).natAbs ≤
        u.found.node Reg.R1400_PRECISION_NS * 2 ^ 40) := by
  simp only [State.Live, State.ClockOk]
  and_intros
  all_goals first | decide +kernel | exact ⟨_, rfl, by decide +kernel⟩ | exact ⟨_, _, _, rfl, rfl, by decide +kernel⟩

theorem witness_ClusterTime_corrections :
    let s := fun (devs : List Rat) (sync : Int) (st : Int) =>
      node 3 [(act Reg.R1400_SYNC_NODE, sync), (Reg.R1001_DEV_STATE, st)] 2 3 fun d => d.setLink fun l => { l with devs }
    let big : Rat := 1000000
    (s [1] 0 5).Live ∧ (s [1] 0 5).ClockOk ∧ (s [1] 0 5).found.inSync = true ∧ (s [1] 0 5).found.link.devs = [1] ∧
    (s [1] 0 5).found.node Reg.R1400_SYNC_NODE = 0 ∧ ratAbs 1 ≤ (s [1] 0 5).found.node Reg.R1400_CORR_LIMIT_NS ∧
    (s [0, 1, 2] 1 5).found.inSync = true ∧ (s [0, 1, 2] 1 5).found.link.devs = [0, 1, 2] ∧
    (s [0, 1, 2] 1 5).found.node Reg.R1400_SYNC_NODE = 1 ∧
    ratAbs ((0 + 1) / 2) ≤ (s [0, 1, 2] 1 5).found.node Reg.R1400_CORR_LIMIT_NS ∧
    (s [big] 0 3).found.inSync = true ∧ (s [big] 0 3).found.active = false ∧ (s [big] 0 3).found.state ≠ DevState.run ∧
    (s [big] 0 3).found.node Reg.R1400_CORR_LIMIT_NS < ratAbs big := by
  simp only [State.Live, State.ClockOk]; decide +kernel

theorem witness_WallClock :
    let s := run [(Reg.R1190_PORT_STATE 1, 8)]
    (run []).Up ∧ (run []).found.wallOwned = false ∧ (0x00FFBE76C8B4 : Nat) ≤ 0x01004189374C ∧
    (0x00FFBE76C8B3 : Nat) < 0x00FFBE76C8B4 ∧ timeOk (999999999 * 2 ^ 64) = true ∧ timeOk (1000000000 * 2 ^ 64) = false ∧
    s.Up ∧ s.found.wallOwned = true := by
  simp only [State.Up]; decide +kernel

/-- A rate outside ±1,000 ppm is refused, its bound is taken (R349). -/
theorem test_wall_rate_bounds :
    (after (.wallRate 0x01004189374D) (run [])).done = Code.OD_RANGE ∧
    (after (.wallRate 0x01004189374C) (run [])).wall.rate = 0x01004189374C := by decide +kernel

/-- A PTP message of type `type`, source 0, sequence 0xFFFF; `two` is its two-step flag. -/
def ptp_ (type : Nat) (two : Bool := false) (src : Nat := 0) : Bytes :=
  [byte type, 2, 0, 64, 0, 0, if two then 2 else 0] ++ List.replicate 13 0 ++ beBytes 10 (src * 65536) ++ beBytes 2 0xFFFF ++
    List.replicate 30 0

/-- A machine with PTP on both ports, port 1 in this state. -/
def ptpAt (st : Int) (port : PtpPort := {}) (slaveOnly : Int := 0) : State :=
  run [(act Reg.R1180_PTP_MODE, 2), (act (Reg.R1190_PORT_EN 0), 1), (act (Reg.R1190_PORT_EN 1), 1), (Reg.R1190_PORT_STATE 1, st),
    (act Reg.R1180_DOMAIN_NUMBER, 0), (act Reg.R1180_SLAVE_ONLY, slaveOnly)] fun d => { d with ptp := [(1, port)] }

theorem witness_PtpMessages_delays :
    let a := (ptpAt 9 { pdAsk := some (0xFFFF, 5) }).found
    let w := (ptpAt 9 { pdWait := some (0xFFFF, 1, 2, 3) }).found
    (ptpAt 9).Live ∧ (ptpAt 9).Up ∧ (run []).found.ptpOn 1 = false ∧ (ptpAt 9).found.ptpOn 1 = true ∧
    (ptpAt 9).found.ptpTakes 1 (ptp_ 2) = true ∧ ptpType (ptp_ 2) = 2 ∧
    a.ptpTakes 1 (ptp_ 3) = true ∧ ptpType (ptp_ 3) = 3 ∧ (a.ptpPort 1).pdAsk = some (ptpSeq (ptp_ 3), 5) ∧
    (fieldBE (ptp_ 3) 6 1).testBit 1 = false ∧ ptpSeq (ptp_ 3 true) = 0xFFFF ∧ a.ptpTakes 1 (ptp_ 3 true) = true ∧
    ptpType (ptp_ 3 true) = 3 ∧ (fieldBE (ptp_ 3 true) 6 1).testBit 1 = true ∧
    w.ptpTakes 1 (ptp_ 10) = true ∧ ptpType (ptp_ 10) = 10 ∧ (w.ptpPort 1).pdWait = some (ptpSeq (ptp_ 10), 1, 2, 3) := by
  simp only [State.Live, State.Up]; decide +kernel

theorem witness_PtpMessages_master :
    let f := (ptpAt 9 { best := some (ptp_ 11), syncs := some (0xFFFF, 1, 2) }).found
    f.ptpTakes 1 (ptp_ 0) = true ∧ ptpType (ptp_ 0) = 0 ∧ f.ptpFollows 1 (ptp_ 0) = true ∧
    (fieldBE (ptp_ 0) 6 1).testBit 1 = false ∧ f.ptpTakes 1 (ptp_ 0 true) = true ∧ f.ptpFollows 1 (ptp_ 0 true) = true ∧
    (fieldBE (ptp_ 0 true) 6 1).testBit 1 = true ∧ f.ptpTakes 1 (ptp_ 8) = true ∧ ptpType (ptp_ 8) = 8 ∧
    f.ptpFollows 1 (ptp_ 8) = true ∧ (f.ptpPort 1).syncs = some (ptpSeq (ptp_ 8), 1, 2) ∧
    (ptpAt 6).found.portState 1 = PortState.master ∧ (ptpAt 9 {} 1).found.flag (act Reg.R1180_SLAVE_ONLY) = true ∧
    ((ptpAt 9 {} 1).found.ptpPort 0).best = none ∧
    ∃ src, (ptpAt 9).found.ptpTakes 1 (ptp_ 11 false src) = true ∧ ptpType (ptp_ 11 false src) = 11 ∧
      ptpSource (ptp_ 11 false src) / 65536 ≠ Config.clockIdentity 0 ∧ ((ptpAt 9).found.ptpPort 1).best = none ∧
      ((ptpAt 9).found.ptpPort 1).heard ≠ some (ptpSource (ptp_ 11 false src)) ∧
      ((ptpAt 9 { heard := some (src * 65536) } 1).found.ptpPort 1).heard = some (ptpSource (ptp_ 11 false src)) := by
  and_intros
  all_goals try decide +kernel
  by_cases h : Config.clockIdentity 0 = 0
  · exact ⟨1, by decide +kernel, by decide +kernel, by rw [h]; decide +kernel, by decide +kernel⟩
  · refine ⟨0, by decide +kernel, by decide +kernel, ?_, by decide +kernel⟩
    rw [show ptpSource (ptp_ 11 false 0) / 65536 = 0 by decide +kernel]; exact fun k => h k.symm

/-- Entry 255 of the action table with these fields, NT valid. -/
def action (kind target sub value at_ st : Int) (more : List (Nat × Int) := []) (f : Dev → Dev := id) : State :=
  run ([(Reg.R1140_NT_VALID, 1), (actKey 255 ActField.kind, kind), (actKey 255 ActField.target, target),
    (actKey 255 ActField.sub, sub), (actKey 255 ActField.value, value), (actKey 255 ActField.instant, at_),
    (actKey 255 ActField.state, st)] ++ more) f

theorem witness_ScheduledActions_arming :
    let soon := action 1 15 0 0 (2 ^ 64 * 0xFFFF) 1
    let late := action 1 15 0 0 0 0 [(actKey 255 ActField.policy, 1)]
    let drop := action 1 15 0 0 0 0 [(actKey 255 ActField.policy, 0)]
    soon.Up ∧ (action 1 16 0 0 0 0).found.armValid 255 = false ∧ soon.found.armValid 255 = true ∧
    soon.found.inTime (soon.found.actInstant 255) = true ∧ late.found.armValid 255 = true ∧
    late.found.inTime (late.found.actInstant 255) = false ∧ late.found.actNat 255 ActField.policy = 1 ∧
    drop.found.inTime (drop.found.actInstant 255) = false ∧ drop.found.actNat 255 ActField.policy ≠ 1 ∧
    soon.found.actNat 255 ActField.state = ActState.armed ∧ (soon.found.actRun 255).taken = false ∧
    ((action 1 15 0 0 0 1 [] fun d => d.setActRun 255 { taken := true }).found.actRun 255).taken = true ∧
    drop.found.actNat 255 ActField.state ≠ ActState.armed := by
  simp only [State.Up]; decide +kernel

theorem witness_ScheduledActions_due :
    let d := fun (kind target sub value : Int) => (action kind target sub value (2 ^ 64 * 20000) 1).found
    ((d 1 15 0 0).actsNow = true ∧ -1000 < (d 1 15 0 0).actOffset 255 - 1000 ∧ (d 1 15 0 0).actOffset 255 - 1000 < 31250) ∧
    (d 1 15 0 0).actDue 255 1 = some 20000 ∧ ((d 1 15 0 0).actRun 255).late = none ∧
    (d 1 15 0 0).actNat 255 ActField.period = 0 ∧ (d 1 15 0 0).actNat 255 ActField.target < 16 ∧
    (d 2 15 0 0).actDue 255 2 = some 20000 ∧ (d 1 15 0 0).actDue 255 2 = none ∧
    (d 3 127 3 2).actDue 255 3 = some 20000 ∧ (d 3 127 3 2).actNat 255 ActField.value = 2 ∧
    (d 3 127 3 2).actNat 255 ActField.target < 128 ∧ (d 4 15 0 0).actDue 255 4 = some 20000 ∧ 48 + 15 ∉ (d 4 15 0 0).plic ∧
    (action 4 15 0 0 (2 ^ 64 * 20000) 1 [] fun d => { d with plic := [63] }).found.plic = [48 + 15] ∧
    (d 5 0x1140 10 0).actDue 255 5 = some 20000 ∧ (d 6 0x2009 0x0D 1).actDue 255 6 = some 20000 ∧
    (tableOf ((d 6 0x2009 0x0D 1).actNat 255 ActField.target) ((d 6 0x2009 0x0D 1).actNat 255 ActField.sub)).isSome = true := by
  decide +kernel

/-- A SET_DO of output 15 sets that pin only (R358). -/
theorem test_set_do : (after (.setDo 255) (action 1 15 0 0 (2 ^ 64 * 20000) 1)).io.doPins = 2 ^ 15 := by decide +kernel
/-! ## Safety, redundant pairs -/

/-- Safe function 7 of kind `kind` in this mode, its state `f`. -/
def fn (kind mode : Int) (f : SafeFn := {}) (od : List (Nat × Int) := []) : State :=
  run ([(act (Reg.R5010_KIND 7), kind), (act (Reg.R5010_MODE 7), mode)] ++ od) fun d =>
    { d with safe := { d.safe with fns := [(7, f)] } }

/-- Safe output 7 of kind 1 in this state. -/
def so (st : Int) (o : SafeOut := {}) (f : Dev → Dev := id) : State :=
  run [(act (Reg.R5020_KIND 7), 1), (Reg.R5020_STATE 7, st)] fun d => f { d with safe := { d.safe with outs := [(7, o)] } }

theorem witness_SafeInputs :
    let a := fn 1 0
    let b := fn 2 2 { demand := true, levels := 2 } [(act (Reg.R5010_RESET_MODE 7), 0)]
    let c := fn 1 0 { soleAt := some 0, levels := 1 } [(act (Reg.R5010_DISCREPANCY_MS 7), 0)]
    a.Live ∧ a.found.fnKind 7 = FnKind.estop ∧ a.found.nat (act (Reg.R5010_MODE 7)) ≠ 1 ∧ (a.found.safeFn 7).demand = false ∧
    (a.found.safeFn 7).disc = false ∧ b.Live ∧ b.found.fnKind 7 = FnKind.guard ∧ b.found.bankDead 3 = false ∧
    b.found.nat (act (Reg.R5010_MODE 7)) ≠ 1 ∧ (b.found.safeFn 7).demand = true ∧ (b.found.safeFn 7).disc = false ∧
    (b.found.safeFn 7).levels.testBit (1 - 14 % 2) = true ∧ b.found.nat (act (Reg.R5010_RESET_MODE 7)) = 0 ∧
    c.Live ∧ (c.found.safeFn 7).soleAt = some 0 ∧ 0 + c.found.nat (act (Reg.R5010_DISCREPANCY_MS 7)) * 1000000 ≤ c.found.rawNow ∧
    c.found.fnKind 7 ≠ 0 ∧ c.found.showsDemand 7 0 ≠ c.found.showsDemand 7 1 ∧
    (run [(Reg.R4000_STATE_1 + 3, 2)]).found.bankDead 3 = true := by
  simp only [State.Live]; decide +kernel

theorem witness_SafeOutputs :
    let t := so 1 {} fun d => { d with clk := { d.clk with cycle64 := 70 } }
    t.Live ∧ t.found.clk.tick = 0 ∧ t.found.clk.cycle64 % 80 = 70 ∧ t.found.outState 7 = OutState.on ∧
    (t.found.safeOut 7).pulseEnd = none ∧ (so 2 { pulseEnd := some 5 }).Live ∧
    ((so 2 { pulseEnd := some 5 }).found.safeOut 7).pulseEnd ≠ none ∧ (so 2 { pulseEnd := some 5 }).found.outState 7 = OutState.pulse ∧
    ((so 1 { highBy := some 0 }).found.safeOut 7).highBy = some 0 ∧ 0 ≤ (so 1 { highBy := some 0 }).found.rawNow ∧
    t.found.outKind 7 ≠ 0 ∧ (so 3).Live ∧ (so 3).Up ∧ (so 3).found.outState 7 = OutState.fault ∧ (so 0).Up ∧
    (so 0).found.outState 7 ≠ OutState.fault ∧ (run []).found.outKind 7 = 0 := by
  simp only [State.Live, State.Up]; decide +kernel

/-- A pulse that is not yet due, a high level waited for, and a pair's passive unit. -/
theorem witness_SafeOutputs_waits :
    let p := so 2 { pulseEnd := some 81250 }
    let n := so 2 { pulseEnd := some 31249 }
    (p.found.safeOut 7).pulseEnd = some 81250 ∧ p.found.clk.raw + 81250 ≤ 81250 ∧ 31249 < n.found.clk.raw + 31250 ∧
    (n.found.safeOut 7).pulseEnd = some 31249 ∧ (so 1 { pulseEnd := some 0 }).found.outState 7 ≠ OutState.pulse ∧
    ((so 1 { highBy := some 9 }).found.safeOut 7).highBy = some 9 ∧ (so 1 { highBy := some 9 }).found.rawNow < 9 ∧
    (so 1).found.paired = false ∧ (so 0).found.outState 7 = OutState.off ∧ ((so 0).found.safeOut 7).pulseEnd = none := by
  decide +kernel

theorem witness_SafeChannels :
    let s := run [] fun d => { d with safe := { d.safe with axes := [(127, { disagree := 1 })] } }
    s.Live ∧ (4 : Nat) ≠ s.found.nat (Reg.R5080_SAFE_STATE 127) ∧ (s.found.axSafe 127).disagree = 1 ∧ s.found.paired = false ∧
    s.found.state = DevState.run ∧ (mach [(Reg.R1001_DEV_STATE, 3)]).Live ∧ (mach [(Reg.R1001_DEV_STATE, 3)]).found.state ≠ DevState.run := by
  simp only [State.Live]; decide +kernel

/-- A test pulse of a good output counts as a test and leaves it ON (R378). -/
theorem test_pulse :
    let a := after (.pulseEnd 7 true) (so 2 { pulseEnd := some 5, swA := true })
    a.outState 7 = OutState.on ∧ a.nat (Reg.R5020_TESTS 7) = 1 := by decide +kernel

/-- Axis 127 with this safety state and these entries. -/
def watched (x : AxSafe) (od : List (Nat × Int) := []) : State :=
  run od fun d => { d with safe := { d.safe with axes := [(127, x)] } }

theorem witness_MonitoredStops :
    let b := watched {} [(Reg.R5080_SLS_ACTIVE 127, 1), (act (Reg.R5080_SLS_LIMIT 127), -1)]
    let p := watched { stopKind := Reaction.ss2, pRef := some 100 } [(act (Reg.R5080_SOS_WINDOW 127), 0)]
    let q := watched { stopKind := Reaction.ss2, pRef := some 0 } [(act (Reg.R5080_SOS_WINDOW 127), 0)]
    let e := watched { stopKind := Reaction.ss1 } [(act (Reg.R5080_SS_T_MAX_MS 127), 0)]
    let f := watched { stopKind := Reaction.ss2 } [(act (Reg.R5080_SS_T_MAX_MS 127), 0)]
    (run []).Live ∧ (run []).found.enabledChains = [] ∧
    (∀ m < 128, ((run []).found.axSafe m).stopKind = 0 ∧ ((run []).found.axSafe m).latches = [] ∧ (run []).found.slsBreach m = false) ∧
    b.found.slsBreach 127 = true ∧ (b.found.axSafe 127).stopKind = 0 ∧ (b.found.axSafe 127).latches = [] ∧
    p.found.slsBreach 127 = false ∧ (p.found.axSafe 127).stopKind ≠ 0 ∧ (p.found.axSafe 127).pRef = some 100 ∧
    p.found.reg (act (Reg.R5080_SOS_WINDOW 127)) < |p.found.measured 127 - 100| ∧ q.found.posLost 127 = false ∧
    |q.found.measured 127 - 0| ≤ q.found.reg (act (Reg.R5080_SOS_WINDOW 127)) ∧
    (e.found.axSafe 127).stopKind = Reaction.ss1 ∧ (e.found.axSafe 127).chainStp = false ∧
    e.found.nat (act (Reg.R5080_SS_T_MAX_MS 127)) * 1000000 ≤ e.found.rampNs 127 e.found.rawNow ∧
    (f.found.axSafe 127).stopKind = Reaction.ss2 ∧ (f.found.axSafe 127).pRef = none ∧
    f.found.nat (act (Reg.R5080_SS_T_MAX_MS 127)) * 1000000 ≤ f.found.rampNs 127 f.found.rawNow ∧
    ((watched { slsSince := some 0 } [(act (Reg.R5080_SLS_DELAY_MS 127), 0)]).found.axSafe 127).slsSince = some 0 ∧
    0 + (watched { slsSince := some 0 } [(act (Reg.R5080_SLS_DELAY_MS 127), 0)]).found.nat (act (Reg.R5080_SLS_DELAY_MS 127)) * 1000000 ≤
      (run []).found.rawNow := by
  simp only [State.Live]; decide +kernel

theorem witness_MonitoredStops_chain :
    let s := run [(act (Reg.R5040_SLS_DELAY_MS 15), 0)] fun d => { d with safe := { d.safe with chainSls := [(15, some 0)] } }
    mget none s.found.safe.chainSls 15 = some 0 ∧
    0 + s.found.nat (act (Reg.R5040_SLS_DELAY_MS 15)) * 1000000 ≤ s.found.rawNow ∧
    mget none s.found.safe.chainSls 14 = none := by decide +kernel

/-- A requester at the UDP port. -/
def udp : Requester := ⟨1, 0x0A000001⟩

/-- A machine with a session of user 1, opened by the host. -/
def opened (f : Dev → Dev := id) : State :=
  run [] fun d => f { d with safe := { d.safe with session := some { owner := host, user := 1, only := false, last := 0 } } }

theorem witness_PasswordSessions :
    let s := run [(Reg.R5000_FAILED_OPENS, 4)]
    let l := run [] fun d => { d with safe := { d.safe with lockEnd := some 0 } }
    let o := opened
    s.Live ∧ l.Live ∧ o.Live ∧ l.found.safe.lockEnd = some 0 ∧ 0 ≤ l.found.rawNow ∧ s.found.safe.lockEnd = none ∧
    requesterSession host ≠ 0 ∧ s.found.state = DevState.run ∧ s.found.safe.session = none ∧
    s.found.passwordOk 1 [] = true ∧ s.found.passwordOk 8 [] = false ∧ 4 ≤ s.found.nat Reg.R5000_FAILED_OPENS ∧
    o.found.safe.session ≠ none ∧ samePath host host = true ∧ samePath host udp = false ∧
    (opened fun d => d.set Reg.R5000_SESSION_TIMEOUT_S 60).found.nat Reg.R5000_SESSION_TIMEOUT_S * 1000000000 = 60000000000 ∧
    (∃ x, o.found.safe.session = some x ∧ x.user = 1 ∧ x.only = false) := by
  simp only [State.Live]
  decide +kernel

theorem witness_PasswordSessions_served :
    let d := (run []).found
    d.Serves host 0x5000 ∧ d.Serves host 0x5001 ∧ d.Serves udp 0x5000 ∧ d.WriteOk host 0x5000 1 [1] ∧ d.WriteOk host 0x5000 1 [8] ∧
    d.WriteOk host 0x5000 2 [0] ∧ (opened).found.WriteOk host 0x5001 9 (1 :: List.replicate 32 7) ∧
    8 ≤ ((1 : Byte) :: List.replicate 32 7).length := by
  simp only [Dev.Serves]
  exact ⟨by decide +kernel, by decide +kernel, by decide +kernel, takes_ok _ _ _ _ _ (by decide +kernel),
    takes_ok _ _ _ _ _ (by decide +kernel), takes_ok _ _ _ _ _ (by decide +kernel), takes_ok _ _ _ _ _ (by decide +kernel),
    by decide +kernel⟩

/-- The fifth failed opening locks sessions (R398). -/
theorem test_lockout : (after (.sessionOpen host [8]) (run [(Reg.R5000_FAILED_OPENS, 4)])).safe.lockEnd.isSome = true := by
  decide +kernel

/-- Unit 9 of a pair with unit 7, in this device state and mode, its cross-link lanes in service. -/
def pair_ (mode st : Int) (od : List (Nat × Int) := []) (p : Pair → Pair := id) (f : Dev → Dev := id) : State :=
  node 3 ([(act Reg.R5800_PAIR_MODE, mode), (act Reg.R5800_PARTNER_ID, 7), (act Reg.R5800_OWL_ID, 11),
    (Reg.R5801_XLINK_LANES, 7), (Reg.R1001_DEV_STATE, st)] ++ od) 2 3 fun d =>
    f { d with clk := { d.clk with cycle64 := 5000, tick := 7 }, pair := p d.pair }

/-- A record of the partner on lane 2. -/
def rec (rtype gen fseq : Nat) (data : Bytes) : FrameIn :=
  { frame 7 ([byte rtype, 0] ++ leBytes 2 data.length ++ leBytes 4 gen ++ leBytes 4 fseq ++ leBytes 4 0 ++ data) with port := 6 }

theorem witness_PairRoles_start :
    let w := pair_ 1 4 [] fun p => { p with listenAt := some 0 }
    let h := pair_ 1 4 [] fun p => { p with listenAt := some 0, secondAt := some 0, hbActive := some 40007 }
    let x := pair_ 1 4 [] fun p => { p with listenAt := some 40007, secondAt := some 5000 }
    let q := pair_ 1 4 [(act Reg.R5800_PRIMARY, 1)] fun p => { p with listenAt := some 0 }
    w.Live ∧ w.found.pair.listenAt = some 0 ∧ w.found.paired = true ∧ w.found.inSync = true ∧ w.found.state = DevState.syncing ∧
    0 + 32 ≤ w.found.tickAbs ∧ w.found.hearsActive = false ∧ w.found.pairMode = 1 ∧
    w.found.flag (act Reg.R5800_PRIMARY) = false ∧ q.found.flag (act Reg.R5800_PRIMARY) = true ∧ h.found.hearsActive = true ∧
    h.found.pair.secondAt = some 0 ∧ 0 + 4000 ≤ h.found.clk.cycle64 ∧ x.found.tickAbs < 40007 + 32 ∧
    x.found.clk.cycle64 < 5000 + 4000 := by
  simp only [State.Live]; decide +kernel

theorem witness_PairRoles_takeover :
    let r := pair_ 1 7
    let z := pair_ 1 6 [] fun p => { p with netTick := some 40007 }
    let a := pair_ 1 5 [(Reg.R5801_ROLE, 1)] fun p => { p with takeover := some 40000 }
    let q := pair_ 1 7 [] fun p => { p with hbActive := some 40007 }
    let l := pair_ 3 5 [] fun p => { p with windows := [(7, some (5000, [0, 7, 1, 0]))] }
    let o := pair_ 2 5
    r.Live ∧ r.found.standsBy = true ∧ r.found.state = DevState.standbyReady ∧ z.found.state = DevState.hibernate ∧
    r.found.pairMode = 1 ∧ (∃ x, r.found.recordIn 9 (rec 9 1 0 []) = some x) ∧ r.found.recordIn 9 (rec 8 1 0 []) = none ∧
    a.found.standsBy = false ∧ a.found.active = true ∧ r.found.active = false ∧ (run []).found.active = false ∧
    (run []).found.state = DevState.run ∧ r.found.state ≠ DevState.run ∧
    (∃ n < 128, (run [(Reg.AX1_STATE 127, 2)] fun d => { d with clk := { d.clk with tick := 7 } }).found.evaluates n = true) ∧
    q.found.within q.found.pair.hbActive 24 = true ∧ z.found.within z.found.pair.hbActive 24 = false ∧
    z.found.within z.found.pair.netTick 24 = true ∧ r.found.within r.found.pair.netTick 24 = false ∧
    r.found.consumers ≠ (true, true) ∧ l.found.pairMode = 3 ∧ l.found.clk.tick = 7 ∧
    mget none l.found.pair.windows l.found.partnerId = some (l.found.clk.cycle64, [0, 7, 1, 0]) ∧
    fieldLE [0, 7, 1, 0] 1 1 = DevState.standbyReady ∧ fieldLE [0, 7, 1, 0] 2 1 % 2 = 1 ∧
    l.found.nat Reg.R5801_HOLDER ≠ l.found.partnerId ∧ o.found.pairMode = 2 ∧
    mget none o.found.pair.windows o.found.owlId = none ∧ o.found.pair.owlTold = false ∧
    a.found.pair.takeover = some 40000 ∧ a.found.tickAbs < 40000 + 16 ∧
    (pair_ 1 5 [] fun p => { p with takeover := some 0 }).found.pair.takeover = some 0 := by
  simp only [State.Live]
  and_intros
  all_goals first | decide +kernel | exact ⟨_, rfl⟩

/-- The silence rule's takeover and its report: a consumer that hears neither unit, and one that hears the silent unit (R424). -/
theorem witness_PairRoles_consumers :
    let r := fun (st : Int) => pair_ 1 st [(Reg.R5801_STORED_EPOCH, 3)] (fun p => { p with status := [(5, some (40007, 2))] }) fun d =>
      d.setBytes (act Reg.R5800_CONSUMERS) [5, 0]
    (r 7).found.consumers = (true, false) ∧ (r 6).found.consumers = (true, false) ∧
    ((r 7).found.set Reg.R5801_STORED_EPOCH 2).consumers ≠ (true, false) := by decide +kernel

theorem witness_CheckpointStream_active :
    let g : Gen := { num := 4, cycle := 4990, pages := [511] }
    let s := pair_ 1 5 [(Reg.R5801_ROLE, 1), (act Reg.R5800_HOARD_BASE, 4096), (act Reg.R5800_HOARD_SIZE, 2), (Reg.R5801_PARTNER_STATE, 6)]
      fun p => { p with gen := some g, hbTick := some 40007, unacked := [(3, [1], 4980, 4991), (4, [2], 4991, 4993)] }
    let told := pair_ 1 5 [] fun p => { p with gen := some { g with lagTold := true } }
    s.Live ∧ s.found.hoardPage 4095 = none ∧ s.found.nat (act Reg.R5800_HOARD_BASE) % 4096 = 0 ∧
    s.found.hoardPage (4096 + 2 * 2 ^ 20 - 1) = some 511 ∧ s.found.active = true ∧ (run []).found.pair.gen = none ∧
    s.found.pair.gen = some g ∧ s.found.streams = true ∧
    ((s.found.genRecords g).map fun r => recordWire r.2.2.2.length).sum + recordWire 72 ≤
      s.found.streamBudget * (s.found.clk.cycle64 - g.cycle + 1) ∧
    told.found.streams = false ∧ g.lagTold = false ∧
    (s.found.set (act Reg.R5800_LAG_WARN_CYCLES) 10).nat (act Reg.R5800_LAG_WARN_CYCLES) + g.cycle ≤ s.found.clk.cycle64 ∧
    (∃ r, s.found.recordIn 8 (rec 8 0 0 (leBytes 4 6 ++ leBytes 4 3 ++ leBytes 8 0)) = some r ∧
      s.found.pair.unacked.find? (fun u => u.1 = fieldLE r.data 4 4) = some (3, [1], 4980, 4991) ∧ fieldLE r.data 8 4 = 0) ∧
    (∀ v ∈ s.found.pair.unacked, v.1 ≠ 0) := by
  simp only [State.Live]
  decide +kernel

theorem witness_CheckpointStream_staging :
    let s := pair_ 1 6
    (∀ i ∈ [1, 2, 3, 5], ∃ r, s.found.recordIn i (rec i 1 0 [1, 2]) = some r ∧ r.gen ≠ 0 ∧ s.found.pair.stageGen = 0 ∧
      s.found.nat Reg.R5801_LAST_GEN < r.gen ∧ s.found.pair.nak < r.gen) ∧
    s.found.standsBy = true ∧ s.found.pair.takeover = none ∧ (∀ x ∈ s.found.pair.stage, fieldLE x.2 0 1 ≠ 4) ∧
    s.found.state = DevState.hibernate ∧ (∃ r, s.found.recordIn 6 (rec 6 0 0 [1]) = some r) ∧
    s.found.recordIn 6 (rec 5 0 0 [1]) = none ∧ s.found.recordIn 8 (rec 5 0 0 [1]) = none ∧
    (∃ r, s.found.recordIn 8 (rec 8 0 0 (leBytes 16 5)) = some r) ∧ s.found.active = false := by
  refine ⟨?_, by decide +kernel, by decide +kernel, by decide +kernel, by decide +kernel, ⟨_, rfl⟩, by decide +kernel,
    by decide +kernel, ⟨_, rfl⟩, by decide +kernel⟩
  simp only [List.forall_mem_cons]
  refine ⟨⟨_, rfl, by decide +kernel⟩,
    ⟨_, rfl, by decide +kernel⟩,
    ⟨_, rfl, by decide +kernel⟩,
    ⟨_, rfl, by decide +kernel⟩, by simp⟩

/-- The control state a standby holds of generation 1, and the CLOSE record of that generation with digest `dig`. -/
def ctrl_ : Bytes := [2, 0] ++ leBytes 2 3 ++ leBytes 4 1 ++ leBytes 8 0 ++ [0, 0, 9]
def close_ (n dig : Nat) : FrameIn :=
  rec 4 1 1 (leBytes 8 0 ++ leBytes 4 n ++ leBytes 4 3 ++ leBytes 24 0 ++ leBytes 16 (digest128 []) ++ leBytes 16 dig)

theorem witness_CheckpointStream_close :
    let s := pair_ 1 6 [] fun p => { p with stageGen := 1, stage := [(0, ctrl_)], sweepDone := true }
    (s.found.recordIn 4 (close_ 1 (digest128 ctrl_))).map (fun r =>
      let stage := mset [] s.found.pair.stage r.fseq r.all
      let c := r.all.drop 16
      let rs := (stage.filter fun x => decide (x.1 < fieldLE c 8 4)).map Prod.snd
      let ctrl := (stagedBlock 2 rs).take (fieldLE c 12 4)
      (r.gen, decide (rs.length = fieldLE c 8 4), digest128 rs.flatten == fieldLE c 56 16,
        fieldLE ctrl 0 2 == imgCkpt s.found.fwImage, rs.all fun x => fieldLE x 0 1 != 5,
        digest128 s.found.pair.config == fieldLE c 40 16)) = some (1, true, true, true, true, true) ∧
    (s.found.recordIn 4 (close_ 1 0)).isSome = true ∧ digest128 ctrl_ ≠ 0 ∧ s.found.pair.stageGen = 1 ∧
    s.found.pair.sweepDone = true ∧ (s.found.recordIn 4 (close_ 2 0)).isSome = true := by
  decide +kernel
/-! ## The object dictionary and its paths -/

theorem witness_OdAccess_refusals :
    let d := (run []).found
    let shut := (run [(Reg.R1001_PATH_WRITE, 0)]).found
    let open_ := (run [(Reg.R1001_PATH_WRITE, 15)]).found
    d.Serves host 0x1201 ∧ (run []).ClockOk ∧ locate 0x1201 0xFF = .nowhere ∧ locate 0xFFFF 0 = .nowhere ∧
    (∃ n, locate 0x1201 0 = .top n) ∧ (∃ e j, locate 0x5010 0x81 = .active e j) ∧
    (∃ e j, locate 0x1110 4 = .entry e j ∧ e.acc = .ro ∧ networkClock 0x1110 4 = false) ∧
    (∃ e j, locate 0x1201 2 = .entry e j ∧ e.acc ≠ .ro ∧ encodingOk e [] = false ∧ encodingOk e (leBytes 4 9) = true ∧
      e.rng.has (e.ty.wrap (leNat (leBytes 4 9))) = false ∧ e.ty.size = 4 ∧ e.ty ∉ [.dom, .str, .time, .digest]) ∧
    shut.pathOpen udp 0x1201 2 = false ∧ open_.pathOpen udp 0x1201 2 = true ∧
    (∃ e j, locate 0x5010 1 = .entry e j ∧ e.acc = .sl) ∧ open_.pathOpen udp 0x5010 1 = true ∧ open_.slAllowed udp = false ∧
    (opened).found.slAllowed host = true := by
  simp only [Dev.Serves, State.ClockOk]
  refine ⟨by decide +kernel, by decide +kernel, by rfl, by rfl, ⟨_, rfl⟩, ⟨_, _, rfl⟩, ⟨_, _, rfl, by decide +kernel⟩,
    ⟨_, _, rfl, by decide +kernel⟩, by decide +kernel, by decide +kernel, ⟨_, _, rfl, by decide +kernel⟩, by decide +kernel⟩

theorem witness_OdAccess_effects :
    let d := (run [(Reg.R1001_PATH_WRITE, 15), (Reg.key 0x1101 1, 0x8001)]).found
    d.WriteOk host 0x1201 2 (leBytes 4 600000) ∧ (∀ v, d.writeSpecial host 0x1201 2 v (leBytes 4 600000) = none) ∧
    d.WriteOk host 0x1101 1 [0, 0x80] ∧ (∀ v, d.writeSpecial host 0x1101 1 v [0, 0x80] = none) ∧
    (∃ e j, locate 0x1101 1 = .entry e j ∧ e.acc = .w1c ∧ e.count = false ∧
      (odType (Reg.key 0x1101 1)).wrap (d.nat (Reg.key 0x1101 1)) = d.nat (Reg.key 0x1101 1) ∧
      (e.ty.wrap (leNat [0, 0x80])).toNat.testBit 15 = true ∧ (w1cMask 0x1101 1).testBit 15 = true) ∧
    d.WriteOk host 0x1101 2 (leBytes 4 0) ∧ (∀ v, d.writeSpecial host 0x1101 2 v (leBytes 4 0) = none) ∧
    (∃ e j, locate 0x1101 2 = .entry e j ∧ e.acc = .w1c ∧ e.count = true) ∧ (d.winOf host).write = none ∧
    (∃ e j, locate 0x2004 1 = .entry e j ∧ e.acc = .wo ∧ e.ty ≠ .dom) ∧ d.scalarView host 0x1201 2 = none ∧
    (∃ e j, locate 0x1201 2 = .entry e j ∧ e.acc ≠ .wo ∧ e.ty.size ≤ 16) := by
  refine ⟨takes_ok _ _ _ _ _ (by decide +kernel), fun _ => rfl, takes_ok _ _ _ _ _ (by decide +kernel), fun _ => rfl,
    ⟨_, _, rfl, by decide +kernel⟩, takes_ok _ _ _ _ _ (by decide +kernel), fun _ => rfl, ⟨_, _, rfl, by decide +kernel⟩,
    by decide +kernel, ⟨_, _, rfl, by decide +kernel⟩, by decide +kernel, ⟨_, _, rfl, by decide +kernel⟩⟩

/-- A write of an enumeration's value outside its range is refused with OD_RANGE (R436). -/
theorem test_od_range : (after (.write host 0x1110 1 [3]) (run [(Reg.R1001_PATH_WRITE, 15)])).done = Code.OD_RANGE := by
  decide +kernel

/-- A machine with a transfer of 1201.03 by this requester. -/
def moving (r : Requester) : State :=
  run [(Reg.R1001_PATH_WRITE, 15)] fun d => { d with serve := { d.serve with transfers :=
    [{ owner := r, key := Reg.key 0x1201 3, total := 16, bytes := [], parts := [], last := 0 }] } }

theorem witness_OdServices_transfers :
    let d := (run [(Reg.R1001_PATH_WRITE, 15)]).found
    let k := Reg.key 0x1201 3
    (run []).Live ∧ (run []).ClockOk ∧ d.online host = true ∧ d.boot.recovery = false ∧
    (∃ e j, locate 0x1201 3 = .entry e j ∧ e.ty = .dom ∧ e.acc ≠ .ro ∧ e.acc ≠ .wo ∧ e.acc ≠ .sl ∧ 16 ≤ e.size ∧
      d.pathOpen host 0x1201 3 = true) ∧ d.transferOf k = none ∧
    16 + (d.serve.transfers.map Transfer.total).sum ≤ stagingPool ∧ covered 16 [(0, 16)] = 16 ∧ covered 16 [(1, 17)] ≠ 16 ∧
    (∃ t, (moving host).found.transferOf k = some t ∧ t.owner = host ∧ t.total = 16) ∧
    (∃ t, (moving udp).found.transferOf k = some t ∧ t.owner ≠ host) ∧
    (∃ t, ((moving host).found.set Reg.R1201_TRANSFER_TIMEOUT_MS 0).transferOf k = some t ∧
      t.last + ((moving host).found.set Reg.R1201_TRANSFER_TIMEOUT_MS 0).nat Reg.R1201_TRANSFER_TIMEOUT_MS * 1000000 ≤
        (moving host).found.rawNow) ∧
    d.domView 0x1201 3 = none ∧ 16 ≤ ((d.setBytes k (List.replicate 16 1)).bytes k).length ∧ (d.bytes k).length < 1 := by
  simp only [State.Live, State.ClockOk]
  and_intros
  all_goals first | decide +kernel | exact ⟨_, _, rfl, by decide +kernel⟩

theorem witness_OdServices_commits :
    let d := (run [(Reg.R1001_PATH_WRITE, 15)]).found
    (∃ c ∈ [((0x1201, 0xFF) : Nat × Nat)].map (fun x => d.targetRefusal host x.1 x.2 9), c ≠ Code.STATUS_OK) ∧
    (∃ t, tableOf 0x1420 4 = some t ∧ mget none d.pend t.key = none) ∧
    [((0x1420, 4) : Nat × Nat)].map (fun x => d.targetRefusal host x.1 x.2 9) = [Code.STATUS_OK] ∧
    d.judgeCommit 9 1 = some (9, false) ∧ d.judgeCommit 0 0 = none ∧ d.judgeCommit 0 1 = some (1, true) := by
  refine ⟨by decide +kernel, ⟨_, rfl, by decide +kernel⟩, by decide +kernel⟩

/-- Ring `i` in this state, the PCIe reset released. -/
def ringed (i : Nat) (x : Ring) : State :=
  run [] fun d => { d with power := { d.power with perstN := true }, serve := { d.serve with rings := [(i, x)] } }

/-- Host DMA channel 3 in this state, with 4,096 bytes of memory allowed. -/
def hostDma (x : HostDma) : State :=
  run [] fun d => ({ d with power := { d.power with perstN := true }, serve := { d.serve with hostDma := [(3, x)] } }).setBytes
    Reg.R1201_HOST_DMA_RANGES (leBytes 8 0x0800000000 ++ leBytes 8 4096)

theorem witness_ServicePaths_rings :
    let s := ringed 15 { size := 16, state := 1, tail := 0, head := 15 }
    let d := s.found
    s.Live ∧ s.ClockOk ∧ d.ringThere 15 = true ∧ d.online ⟨0, 0⟩ = true ∧ d.boot.recovery = false ∧ (d.ring 15).state = 1 ∧
    (d.ring 15).head ≠ (d.ring 15).tail ∧ ((d.ring 15).rspTail + 1) % (d.ring 15).size ≠ (d.ring 15).rspHead ∧
    ringSizeOk 4096 = true ∧ ringSizeOk 0 = true ∧ ringSizeOk 8192 = false ∧ d.ringThere 16 = false ∧
    (ringed 15 {}).found.ringThere 15 = true ∧ ((ringed 15 {}).found.ring 15).state ≠ 1 ∧
    ((ringed 7 { size := 4096 }).found.ring 7).size ≠ 0 ∧ descOk (slice (leBytes 32 1) 0 32) = true ∧ descOk (slice [] 0 32) = false := by
  simp only [State.Live, State.ClockOk]; decide +kernel

theorem witness_ServicePaths_hostDma :
    let a := 0x0800000000
    let y := hostDma { devAddr := a, length := 4096 }
    let r := fun (dir : Nat) => hostDma { devAddr := a, length := 4096, state := 1, dir }
    (y.found.barThere = true ∧ (y.found.hostDmaOf 3).state ≠ 1 ∧ y.found.dmaAllowed a 4096 = true) ∧
    y.found.dmaAllowed a 4097 = false ∧ ((r 1).found.hostDmaOf 3).state = 1 ∧ ((r 1).found.hostDmaOf 3).dir ≠ 0 ∧
    ((r 0).found.hostDmaOf 3).dir = 0 ∧ inMemory a 4096 = true ∧ (r 0).found.poisonedIn a 4096 = false ∧
    regionOf 0x0040000000 ≠ .memory ∧ aeCell 0x0040000000 = none ∧ inMemory 0x0040000000 1 = false := by
  decide +kernel

theorem witness_ServicePaths_udp :
    let s := fun (peers : List Peer) => (run [(Reg.R1210_IPV4_H0 + 1, 0x0A000002), (Reg.R1210_UDP_PORT, 0xCB00)] fun d =>
      { d with serve := { d.serve with peers } }).found
    let d := s []
    let data : Bytes := [1, 0] ++ beBytes 2 77 ++ beBytes 2 1 ++ [0, 0] ++ [0]
    let known := fun (x : Dev) => (x.serve.peers.find? fun q => q.who = 5).bind fun q => q.stored.find? fun z => z.1 = fieldBE data 2 2
    d.online ⟨1, 5⟩ = true ∧ d.nat (Reg.R1210_IPV4_H0 + 1) ≠ 0 ∧ 8 ≤ data.length ∧ data.length ≤ 1472 ∧ fieldBE data 0 1 = 1 ∧
    fieldBE data 1 1 = 0 ∧ fieldBE data 4 2 = data.length - 8 ∧ fieldBE data 6 2 = 0 ∧ known d = none ∧
    pduOk true (data.drop 8) = false ∧ known (s [{ who := 5, stored := [(77, [1])], heard := 0 }]) = some (77, [1]) := by
  decide +kernel

theorem witness_ServicePaths_acyclic :
    let s := fun (stored : List (Nat × Nat × Bytes)) => node 3 [] 2 5 fun d => d.setLink fun l => { l with stored }
    let f := frame 5 ([0, 9] ++ beBytes 2 77 ++ [0, 0] ++ beBytes 2 1 ++ [0])
    let g := frame 5 ([0, 8] ++ beBytes 2 77 ++ [0, 0] ++ beBytes 2 1 ++ [0])
    let b := payloadOf f.bytes
    (∃ h es e1 e2, (s []).found.arrive f = (some h, es, e1) ∧ e1.followEpoch h = (true, e2) ∧ h.kind = FrameKind.acyclic ∧ es ≠ [] ∧
      fieldBE b 0 2 = e2.node Reg.R1400_NODE_ID ∧ fieldBE b 4 1 = 0 ∧ fieldBE b 5 1 = 0 ∧ fieldBE b 6 2 ≤ 1400 ∧
      (e2.link.stored.find? fun z => z.1 = h.source && z.2.1 = fieldBE b 2 2) = none) ∧ pduOk true (slice b 8 (fieldBE b 6 2)) = false ∧
    (∃ h es e1 e2, (s [(7, 77, [3])]).found.arrive f = (some h, es, e1) ∧ e1.followEpoch h = (true, e2) ∧
      (e2.link.stored.find? fun z => z.1 = h.source && z.2.1 = fieldBE b 2 2) = some (7, 77, [3])) ∧
    (∃ h es e1 e2, (s []).found.arrive g = (some h, es, e1) ∧ e1.followEpoch h = (true, e2) ∧ es ≠ [] ∧
      fieldBE (payloadOf g.bytes) 0 2 ≠ e2.node Reg.R1400_NODE_ID) := by
  refine ⟨⟨_, _, _, _, rfl, rfl, by decide +kernel⟩, by decide +kernel, ⟨_, _, _, _, rfl, rfl, by decide +kernel⟩,
    ⟨_, _, _, _, rfl, rfl, by decide +kernel⟩⟩
/-! ## Device control, starts, updates, health, supplies -/

/-- The machine in this device state, with these entries. -/
def inState (st : Int) (od : List (Nat × Int) := []) (f : Dev → Dev := id) : State := mach ((Reg.R1001_DEV_STATE, st) :: od) f

theorem witness_DeviceControl :
    let r := inState 8 [(Reg.R1400_NET_STATE, 3), (Reg.R6050_DEBUG_SCOPE, 0)]
    let u := inState 3 [] fun d => { d with
      boot := { d.boot with update := some { kind := 1, digest := [], total := 1, slot := 1, token := 0, bound := [], last := 0 } },
      flash := { d.flash with slots := [(1, { state := 1 })] } }
    r.Live ∧ r.ClockOk ∧ DevState.config ≤ r.found.state ∧ r.found.state = DevState.safe ∧ r.found.net = NetState.inSync ∧
    r.found.safe.hbA = true ∧ r.found.safe.hbB = true ∧ r.found.safe.lost = false ∧ r.found.nat Reg.R6050_DEBUG_SCOPE = 0 ∧
    (run []).Live ∧ (run []).found.state = DevState.run ∧ (inState 4).found.state = DevState.syncing ∧ (inState 4).found.active = false ∧
    (inState 3).found.state = DevState.config ∧ (inState 3).found.nat Reg.R1400_NODE_ID = 0 ∧
    (inState 3 [(Reg.R1400_NODE_ID, 1)]).found.nat Reg.R1400_NODE_ID ≠ 0 ∧
    (odType (act Reg.R1400_ROLE)).wrap ((inState 3).found.reg Reg.R1400_ROLE) ≠ 2 ∧ (inState 3).found.boot.update = none ∧
    (∃ x, u.found.boot.update = some x ∧ (u.found.fwSlot x.slot).state ≠ SlotState.staged) := by
  simp only [State.Live, State.ClockOk]
  decide +kernel

/-- VALIDATE's findings: a pair without a Hoard has one. (That the default configuration has none holds by evaluation too; the kernel
takes minutes over its 128 axes and the safety bank, so no theorem here says it.) -/
theorem witness_DeviceControl_findings :
    let d := (inState 3 [(act Reg.R5800_PAIR_MODE, 1)]).found
    d.state = DevState.config ∧ ∃ c k x y r, d.findings = (c, k, x, y) :: r ∧ c ≠ Code.STATUS_OK ∧ c < 65536 :=
  ⟨by decide +kernel, Dev.findings_pair _ (by decide +kernel)⟩

theorem witness_StoreAndStart :
    let w := inState 3 [(Reg.R1201_TRANSFER_TIMEOUT_MS, 20)]
    let b := State.reset
    let dark := mach [(Reg.R1001_DEV_STATE, 0)]
    w.ClockOk ∧ w.Live ∧ w.Up ∧ w.found.storeWaits = true ∧ (inState 3).found.storeWaits = false ∧ b.ClockOk ∧
    (4 : Nat) % 4 = 0 ∧ (3 : Nat) % 4 ≠ 0 ∧ dark.ClockOk ∧ dark.found.boot.hot = false ∧ dark.found.dark = true ∧
    nominalOf 2 (([1200, 1200, 1200, 3300] : List Nat).getD 2 0) ≠ none ∧ nominalOf 2 (([] : List Nat).getD 2 0) = none ∧
    b.Live ∧ b.found.mayBoot = true ∧ b.found.flash.failed = [] ∧ b.found.lastRec = none ∧ b.found.flash.lastFw = none ∧
    b.found.flash.lastApp = none ∧ (inState 3).found.mayBoot = false ∧ b.found.altFor 3 = some 0 ∧
    ({ b.found with flash := { b.found.flash with failed := [(3, 0)] } }).altFor 3 = some 1 ∧
    ({ b.found with flash := { b.found.flash with failed := [(3, 0), (3, 1), (3, 2), (3, 3)] } }).altFor 3 = none := by
  simp only [State.Live, State.ClockOk, State.Up]; decide +kernel

/-- A machine with this update session and firmware slots. -/
def updating (u : Option Update) (slots : Map FwSlot := []) (od : List (Nat × Int) := []) (f : Dev → Dev := id) : State :=
  inState 3 ((Reg.R1001_PATH_WRITE, 15) :: od) fun d =>
    f { d with boot := { d.boot with update := u }, flash := { d.flash with slots } }

/-- An OPEN of a firmware image of one byte. -/
def openData : Bytes := [1, 0, 0, 0] ++ leBytes 4 1 ++ List.replicate 32 5

/-- In recovery, an OPEN of an application image. -/
theorem witness_UpdateSessions_recovery :
    let d := (updating none [] [] fun d => { d with boot := { d.boot with recovery := true } }).found
    let data : Bytes := [2, 0, 0, 0] ++ leBytes 4 1 ++ List.replicate 32 5
    d.Serves host 0x6020 ∧ d.WriteOk host 0x6020 1 data ∧ data.length = 40 ∧ fieldLE data 0 1 = 2 ∧ d.boot.recovery = true := by
  simp only [Dev.Serves]
  exact ⟨by decide +kernel, takes_ok _ _ _ _ _ (by decide +kernel), by decide +kernel⟩

theorem witness_UpdateSessions_writes :
    let d := (updating none).found
    (d.Serves host 0x6020 ∧ d.WriteOk host 0x6020 1 openData) ∧ d.WriteOk host 0x6020 3 (leBytes 8 (2 ^ 64 - 1)) ∧
    d.WriteOk host 0x6020 5 [0] ∧ d.WriteOk host 0x6020 9 [byte 1] ∧ d.WriteOk host 0x6020 10 [0] := by
  simp only [Dev.Serves]
  exact ⟨⟨by decide +kernel, takes_ok _ _ _ _ _ (by decide +kernel)⟩, takes_ok _ _ _ _ _ (by decide +kernel),
    takes_ok _ _ _ _ _ (by decide +kernel), takes_ok _ _ _ _ _ (by decide +kernel), takes_ok _ _ _ _ _ (by decide +kernel)⟩

theorem witness_UpdateSessions :
    let u : Update := { kind := 1, digest := List.replicate 32 5, total := 1, slot := 0, token := 9, bound := [host], last := 0 }
    let trial := (updating none [(0, { state := SlotState.trial })] [(Reg.R6020_CONFIRM_CYCLES, 4000)] fun d =>
      { d with flash := { d.flash with lastFw := some 0 } }).found
    let staged := (updating (some u) [(0, { state := SlotState.staged })]).found
    let whole := (updating (some { u with whole := true, bytes := [1] }) [(0, { state := SlotState.receiving })]).found
    let old := (updating (some u) [(0, { state := SlotState.receiving })] [(Reg.R6020_TIMEOUT_S, 0)]).found
    (updating none).Live ∧ (updating none).ClockOk ∧ openData.length = 40 ∧ fieldLE openData 1 3 = 0 ∧ fieldLE openData 0 1 = 1 ∧
    fieldLE openData 4 4 ≤ 64000000 ∧ (updating none).found.boot.update = none ∧ (updating none).found.runsTrial 1 = false ∧
    trial.boot.update = none ∧ trial.runsTrial 1 = true ∧ u.kind = 1 ∧ u.digest = slice openData 8 32 ∧
    staged.boot.update = some u ∧ u.token = 9 ∧ host ∈ u.bound ∧ udp ∉ u.bound ∧ (staged.fwSlot u.slot).state = SlotState.staged ∧
    staged.boot.recovery = false ∧ (whole.boot.update.map Update.whole) = some true ∧
    (whole.fwSlot 0).state = SlotState.receiving ∧ old.boot.update = some u ∧ (old.fwSlot u.slot).state = SlotState.receiving ∧
    u.last + old.nat Reg.R6020_TIMEOUT_S * 1000000000 ≤ old.rawNow ∧ (updating none).found.nat Reg.R6020_CONFIRM_CYCLES < 4000 ∧
    4000 ≤ trial.nat Reg.R6020_CONFIRM_CYCLES ∧ (trial.fwSlot 0).state = SlotState.trial ∧
    (∀ j < 4, j ≠ 0 → (trial.fwSlot j).state ≠ SlotState.trial) := by
  simp only [State.Live, State.ClockOk]; decide +kernel

theorem witness_KeysAndDebug :
    let d := fun (apps : List Bytes) => (inState 3 [(Reg.R1001_PATH_WRITE, 15)] fun d => { d with
      flash := { d.flash with apps },
      safe := { d.safe with session := some { owner := host, user := 1, only := false, last := 0 } } })
    let data : Bytes := List.replicate 68 9
    let four : List Bytes := [[1], [2], [3], [4]]
    let att := inState 3 [] fun d => { d with flash := { d.flash with attEnd := 4096 } }
    (d []).Live ∧ (d []).Up ∧ (d []).found.Serves host 0x6040 ∧ (d []).found.WriteOk host 0x6040 5 data ∧ data.length = 68 ∧
    (d []).found.flash.apps.length < 4 ∧ (d four).found.Serves host 0x6040 ∧ (d four).found.WriteOk host 0x6040 5 data ∧
    4 ≤ (d four).found.flash.apps.length ∧ (d []).found.tokenOk [] = false ∧ (d []).found.unpowered = false ∧
    (mach [(Reg.R1001_DEV_STATE, 1)]).found.unpowered = true ∧ att.Up ∧ (List.replicate 32 (7 : Byte)).length = 32 ∧
    att.found.nat Reg.R6060_ATT_STATE ≠ 1 ∧ att.found.flash.attNext < 2 ^ 40 ∧ att.found.flash.attNext ≤ att.found.flash.attEnd ∧
    (inState 3 [(Reg.R6060_ATT_STATE, 1)]).found.nat Reg.R6060_ATT_STATE = 1 ∧
    2 ^ 40 ≤ (inState 3 [] fun d => { d with flash := { d.flash with attNext := 2 ^ 40 } }).found.flash.attNext ∧
    (inState 3 [] fun d => { d with boot := { d.boot with nonce := some (List.replicate 32 7) } }).found.boot.nonce =
      some (List.replicate 32 7) ∧ att.found.boot.nonce = none := by
  simp only [State.Live, State.Up, Dev.Serves]
  exact ⟨by decide +kernel, by decide +kernel, by decide +kernel, takes_ok _ _ _ _ _ (by decide +kernel), by decide +kernel,
    by decide +kernel, by decide +kernel, takes_ok _ _ _ _ _ (by decide +kernel), by decide +kernel⟩

theorem slice_part (a m b : Bytes) (o n : Nat) (ho : o = a.length) (hn : n = m.length) : slice (a ++ (m ++ b)) o n = m := by
  subst ho hn
  simp [slice]

theorem field_part (a m b : Bytes) (o n : Nat) (ho : o = a.length) (hn : n = m.length) : fieldLE (a ++ (m ++ b)) o n = leNat m := by
  subst ho hn
  simp [fieldLE]

/-- The fields of a debug token (R498), whatever its serial number and signature. -/
theorem token_fields (z sig : Bytes) (h : z.length = 16) (l : sig.length = 2820) :
    let pk : Bytes := List.replicate 68 9
    let c : Bytes := List.replicate 32 5
    let t := leBytes 4 0x47444D4C ++ [0, 1, 0, 0] ++ z ++ c ++ pk ++ [0, 0, 0, 0] ++ sig
    t.length = 2948 ∧ fieldLE t 0 4 = 0x47444D4C ∧ fieldLE t 4 1 = 0 ∧ fieldLE t 5 1 = 1 ∧ fieldLE t 6 2 = 0 ∧ slice t 8 16 = z ∧
    slice t 24 32 = c ∧ slice t 56 68 = pk ∧ fieldLE t 124 4 = 0 := by
  intro pk c t
  have hp : pk.length = 68 := List.length_replicate
  have hc : c.length = 32 := List.length_replicate
  have e : t = leBytes 4 0x47444D4C ++ ([0, 1, 0, 0] ++ (z ++ (c ++ (pk ++ ([0, 0, 0, 0] ++ sig))))) := by
    simp only [t, List.append_assoc]
  have hl : (leBytes 4 0x47444D4C).length = 4 := rfl
  have h0 : ([0, 1, 0, 0] : Bytes).length = 4 := rfl
  have h1 : ([0, 0, 0, 0] : Bytes).length = 4 := rfl
  clear_value pk c
  subst t
  rw [e]
  have v : leNat (leBytes 4 0x47444D4C) = 0x47444D4C := by decide +kernel
  have f1 := field_part (leBytes 4 0x47444D4C) [0] ([1, 0, 0] ++ (z ++ (c ++ (pk ++ ([0, 0, 0, 0] ++ sig))))) 4 1 hl.symm rfl
  have f2 := field_part (leBytes 4 0x47444D4C ++ [0]) [1] ([0, 0] ++ (z ++ (c ++ (pk ++ ([0, 0, 0, 0] ++ sig))))) 5 1 rfl rfl
  have f3 := field_part (leBytes 4 0x47444D4C ++ [0, 1]) [0, 0] (z ++ (c ++ (pk ++ ([0, 0, 0, 0] ++ sig)))) 6 2 rfl rfl
  simp only [List.append_assoc, List.cons_append, List.nil_append] at f1 f2 f3
  refine ⟨by simp only [List.length_append, hp, hc, hl, h0, h1, h, l], ?_, f1, f2, f3, ?_, ?_, ?_, ?_⟩
  · exact (field_part [] _ _ _ _ rfl hl.symm).trans v
  · rw [← List.append_assoc]
    exact slice_part _ _ _ _ _ rfl h.symm
  · rw [← List.append_assoc, ← List.append_assoc]
    exact slice_part _ _ _ _ _ (by simp only [List.length_append, hl, h0, h]) hc.symm
  · rw [← List.append_assoc, ← List.append_assoc, ← List.append_assoc]
    exact slice_part _ _ _ _ _ (by simp only [List.length_append, hl, h0, h, hc]) hp.symm
  · rw [← List.append_assoc, ← List.append_assoc, ← List.append_assoc, ← List.append_assoc]
    exact field_part _ _ _ _ _ (by simp only [List.length_append, hl, h0, h, hc, hp]) h1.symm

theorem serial_length : serial16.length = 16 := by
  unfold serial16 slice
  simp only [List.length_append, List.length_replicate, List.length_take]
  omega

/-- A debug token of the first application key, for every serial number and every signature that Config's check accepts: the rest of
the token's checks pass (R492, R498). -/
theorem witness_KeysAndDebug_token (sig : Bytes) (l : sig.length = 2820) :
    let pk : Bytes := List.replicate 68 9
    let c : Bytes := List.replicate 32 5
    let t := leBytes 4 0x47444D4C ++ [0, 1, 0, 0] ++ serial16 ++ c ++ pk ++ [0, 0, 0, 0] ++ sig
    let d := (inState 3 [] fun d => { d with
      flash := { d.flash with apps := [shake256 32 pk] }, boot := { d.boot with challenge := some (c, 0) } }).found
    Config.xmssValid pk (t.take 128) (t.drop 128) = 1 → d.tokenOk t = true := by
  intro pk c t d ok
  have fields : t.length = 2948 ∧ fieldLE t 0 4 = 0x47444D4C ∧ fieldLE t 4 1 = 0 ∧ fieldLE t 5 1 = 1 ∧ fieldLE t 6 2 = 0 ∧
      slice t 8 16 = serial16 ∧ slice t 24 32 = c ∧ slice t 56 68 = pk ∧ fieldLE t 124 4 = 0 :=
    token_fields serial16 sig serial_length l
  have k : d.keyOk 2 pk = true := by decide +kernel
  have st : d.state = DevState.config := by decide +kernel
  have ch : d.boot.challenge = some (c, 0) := rfl
  have now : d.rawNow ≤ 0 + 600000000000 := by decide +kernel
  clear_value d t pk c
  obtain ⟨h1, h2, h3, h4, h5, h6, h7, h8, h9⟩ := fields
  unfold Dev.tokenOk
  simp [h1, h2, h3, h4, h5, h6, h7, h8, h9, ch, st, ok, k]
  omega
theorem witness_CountersAndWindows :
    let s := run [(Reg.R7810_OVF_IRQ 0x4A, 0x80), (Reg.R7810_OVF 47, 0x80)] fun d =>
      { d with health := { d.health with snapAsk := true, freezeTo := some true, windowAt := some 5 } }
    let x : List (Nat × Nat) := List.replicate 11 (2 ^ 64 - 1, 0)
    s.Live ∧ s.Up ∧ s.found.bit (Reg.R7810_OVF 0) 7 = false ∧ s.found.bit (Reg.R7810_OVF 47) 7 = true ∧
    s.found.bit (Reg.R7810_OVF_IRQ 0x4A) 7 = true ∧ s.found.bit (Reg.R7810_OVF_IRQ 0x4A) 6 = false ∧ s.found.health.snapAsk = true ∧
    (run []).found.health.snapAsk = false ∧ s.found.evsel 0 0 ∈ [0, 2, 3] ∧ s.found.nat (Reg.R7810_COUNT_0 0 + 0) < 2 ^ 48 ∧
    s.found.health.freezeTo = some true ∧ (run []).found.health.freezeTo = none ∧ (run []).found.health.windowAt = none ∧
    x.length = 11 ∧ (∀ y ∈ x, y.1 < 2 ^ 64 ∧ y.2 < 2 ^ 64) ∧ s.found.health.windowAt = some 5 ∧ 5 < s.found.clk.raw + 31250 ∧
    s.found.clk.raw + 31250 ≤ 31250 ∧ (sett []).found.issuing 46 = false ∧ (sett []).found.issuing 0 = true ∧ (run []).found.issuing 47 = false := by
  simp only [State.Live, State.Up]; decide +kernel

theorem witness_ErrorsAndSensors :
    let s := run [(Reg.R7000_AGE_WARN_PPM, 5), (Reg.R7000_AGE_RETIRE_PPM, 10)] fun d =>
      { d with health := { d.health with written := [(64, 3)], words := [⟨64, 0, 25, 0, 0⟩] } }
    s.Live ∧ (UKind.core : Nat) ≠ UKind.page ∧ s.found.health.written.contains (64, 3) = true ∧
    s.found.health.written.contains (64, 2) = false ∧ s.found.ceWords.any (fun w => w.addr == 64) = true ∧
    s.found.ceWords.any (fun w => w.addr == 65) = false ∧ (mget ({} : WarnEp) s.found.health.warn (256 * 25)).on = false ∧
    s.found.reg Reg.R7000_AGE_WARN_PPM ≤ 9 ∧ (9 : Int) < s.found.reg Reg.R7000_AGE_RETIRE_PPM ∧
    s.found.reg Reg.R7000_AGE_RETIRE_PPM ≤ (2 : Int) ^ 31 - 1 ∧ aeCell (64 / 8 * 8) = none ∧
    aeCell (0x006083FFF9 / 8 * 8) = none ∧ aeCell (0x0060A3FFF9 / 8 * 8) = some (1, 7, 0x3FFF8) := by
  simp only [State.Live]; decide +kernel

theorem witness_SparesTakeOver :
    let p := run [(Reg.R7000_POLICY_EN, 1)] fun d => { d with health := { d.health with due := [(UKind.core, 23, 1)] } }
    let w := run [] fun d => { d with health := { d.health with work := [⟨UKind.distance, 15, 16, 0⟩, ⟨UKind.page, 9, 0xBFF000, 0⟩] } }
    p.Live ∧ p.Up ∧ (2 ^ 32 - 1 : Nat) / 2 ^ 24 > 5 ∧ sparesFor 5 (2 ^ 24 - 1) ≠ [] ∧ p.found.flag Reg.R7000_POLICY_EN = true ∧
    p.found.health.due = [(UKind.core, 23, 1)] ∧ p.found.health.asked = [] ∧ p.found.health.work = [] ∧ p.found.flash.retired = [] ∧
    p.found.flash.spared = [] ∧ w.found.retireDue UKind.distance 15 = some 16 ∧ w.found.retireDue UKind.page 9 = some 0xBFF000 ∧
    w.found.retireDue UKind.core 0 = none ∧ w.found.health.due = [] := by
  simp only [State.Live, State.Up]; decide +kernel

theorem witness_SuppliesAndResets :
    let s := run []
    let f := run [] fun d => { d with power := { d.power with feeds := 1 } }
    let off := mach [(Reg.R1001_DEV_STATE, 1)]
    let n := run [(Reg.R1400_NET_STATE, 3)]
    s.ClockOk ∧ s.Live ∧ s.found.power.feeds < 4 ∧ s.found.power.feeds.testBit 1 = true ∧ f.found.power.feeds.testBit 1 = false ∧
    s.found.unpowered = false ∧ off.ClockOk ∧ off.found.unpowered = true ∧ s.found.net ≠ NetState.inSync ∧
    n.Live ∧ n.found.net = NetState.inSync ∧ n.found.active = false ∧ s.found.power.vbat = true := by
  simp only [State.Live, State.ClockOk]; decide +kernel

theorem witness_BanksAndLid :
    let s := run [(Reg.R4000_STATE_1 + 3, 1), (Reg.R4000_NOMINAL_MV_1 + 3, 3300)] fun d => { d with
      health := { d.health with lidHot := some 0 }, clk := { d.clk with raw := 1000000000 } }
    let l := run [(Reg.R4000_STATE_1 + 3, 2), (Reg.R4000_NOMINAL_MV_1 + 3, 3300)]
    s.Live ∧ s.ClockOk ∧ s.found.nat (Reg.R4000_STATE_1 + 3) = 1 ∧ 2804 * 100 < s.found.nat (Reg.R4000_NOMINAL_MV_1 + 3) * 85 ∧
    ¬2805 * 100 < s.found.nat (Reg.R4000_NOMINAL_MV_1 + 3) * 85 ∧ l.found.nat (Reg.R4000_STATE_1 + 3) = 2 ∧
    nominalOf 3 3300 = some (l.found.nat (Reg.R4000_NOMINAL_MV_1 + 3)) ∧ s.found.boot.hot = false ∧
    f32 0x42E60000 = 115 ∧ f32 0x42D20000 = 105 ∧ f32 0x42BE0000 = 95 ∧ s.found.health.lidHot = some 0 ∧
    0 + 1000000000 ≤ s.found.rawNow ∧ DevState.config ≤ s.found.state ∧ s.found.state ≠ DevState.failed ∧
    l.found.health.lidHot = none := by
  simp only [State.Live, State.ClockOk]; decide +kernel

/-- Below 85 % of its voltage bank 4 is lost; at 85 % it is not (R546). -/
theorem test_bank_loss :
    let s := run [(Reg.R4000_STATE_1 + 3, 1), (Reg.R4000_NOMINAL_MV_1 + 3, 3300)]
    (after (.bankPowerLoss 3 2804) s).nat (Reg.R4000_STATE_1 + 3) = 2 ∧
    (after (.bankPowerLoss 3 2805) s).nat (Reg.R4000_STATE_1 + 3) = 1 := by decide +kernel
/-! ## What the check of a command refuses: one ill-formed command for each check -/

theorem test_wf_axis : Instr.wf (.hold 128) = false := by decide +kernel
theorem test_wf_chain : Instr.wf (.run 16) = false := by decide +kernel
theorem test_wf_level : Instr.wf (.satWarn 0 4) = false := by decide +kernel
theorem test_wf_lane : Instr.wf (.laneFault 8) = false := by decide +kernel
theorem test_wf_source : Instr.wf (.trackTimeout 8) = false := by decide +kernel
theorem test_wf_zone : Instr.wf (.request 0 64) = false := by decide +kernel
theorem test_wf_group : Instr.wf (.injectionStart 16) = false := by decide +kernel
theorem test_wf_job : Instr.wf (.jobRun 8) = false := by decide +kernel
theorem test_wf_tracker : Instr.wf (.trackerStep 32) = false := by decide +kernel
theorem test_wf_hart : Instr.wf (.ask 48 0) = false := by decide +kernel
theorem test_wf_cycle_point : Instr.wf (.cpiFire 16) = false := by decide +kernel
theorem test_wf_action : Instr.wf (.arm 256) = false := by decide +kernel
theorem test_wf_slot : Instr.wf (.frameTransmit 4096 true) = false := by decide +kernel
theorem test_wf_engine : Instr.wf (.engineStart 2) = false := by decide +kernel
theorem test_wf_channel : Instr.wf (.channelLost 2) = false := by decide +kernel
theorem test_wf_host_dma : Instr.wf (.hostDmaStart 4) = false := by decide +kernel
theorem test_wf_dma : Instr.wf (.dmaStart 32) = false := by decide +kernel
theorem test_wf_host_port : Instr.wf (.ptpDelayReq 2) = false := by decide +kernel
theorem test_wf_port : Instr.wf (.linkUp 4) = false := by decide +kernel
theorem test_wf_link_port : Instr.wf (.linkDown 7) = false := by decide +kernel
theorem test_wf_safe_pin : Instr.wf (.safeInputQualified 16 true 0) = false := by decide +kernel
theorem test_wf_feed : Instr.wf (.feedLoss 2) = false := by decide +kernel
theorem test_wf_counter : Instr.wf (.counterOverflow 0 8) = false := by decide +kernel
theorem test_wf_block : Instr.wf (.counterOverflow 75 0) = false := by decide +kernel
theorem test_wf_bank : Instr.wf (.bankPowerLoss 4 0) = false := by decide +kernel
theorem test_wf_conn : Instr.wf (.safeConnTimeout 128) = false := by decide +kernel
theorem test_wf_core : Instr.wf (.retireGraceExpiry 24) = false := by decide +kernel
theorem test_wf_safe_item : Instr.wf (.testSlot 8) = false := by decide +kernel
theorem test_wf_role : Instr.wf (.stuckActive 0 3) = false := by decide +kernel
theorem test_wf_index : Instr.wf (.bankSwitch 65536 0) = false := by decide +kernel
theorem test_wf_sub : Instr.wf (.bankSwitch 0 256) = false := by decide +kernel
theorem test_wf_distance_unit : Instr.wf (.distanceUnitFault 17) = false := by decide +kernel
theorem test_wf_step : Instr.wf (.bootStepTimeout 15) = false := by decide +kernel
theorem test_wf_ring : Instr.wf (.reqTail 112 0) = false := by decide +kernel
theorem test_wf_offset : Instr.wf (.linkWindow 31250) = false := by decide +kernel
theorem test_wf_physical : Instr.wf (.hoardWriteCapture (2 ^ 40) []) = false := by decide +kernel
theorem test_wf_u64 : Instr.wf (.windowNs (2 ^ 64)) = false := by decide +kernel
theorem test_wf_record : Instr.wf (.append 0 (List.replicate 143 0)) = false := by decide +kernel
theorem test_wf_message : Instr.wf (.ptpFollowUp 0 (List.replicate 1501 0)) = false := by decide +kernel
theorem test_wf_requester : Instr.wf (.updateAbandon ⟨5, 0⟩) = false := by decide +kernel
theorem test_wf_frame_port : Instr.wf (.syncFrame { port := 4, raw := 0, fcs := true, bytes := List.replicate 60 0 }) = false := by decide +kernel
theorem test_wf_frame_short : Instr.wf (.syncFrame { port := 0, raw := 0, fcs := true, bytes := List.replicate 13 0 }) = false := by decide +kernel
theorem test_wf_sample_di : Instr.wf (.sampleInstant { di := 2 ^ 32, ai := [], enc := [] }) = false := by decide +kernel
theorem test_wf_sample_ai : Instr.wf (.sampleInstant { di := 0, ai := [2 ^ 17], enc := [] }) = false := by decide +kernel
theorem test_wf_sample_enc : Instr.wf (.sampleInstant { di := 0, ai := [], enc := [2 ^ 31] }) = false := by decide +kernel
theorem test_wf_move_value : Instr.wf (.moveAbs 0 { target := 2 ^ 63, vel := 0, acc := 0, jerk := 0, seq := 0 }) = false := by decide +kernel
theorem test_wf_move_seq : Instr.wf (.moveAbs 0 { target := 0, vel := 0, acc := 0, jerk := 0, seq := 65536 }) = false := by decide +kernel
theorem test_wf_context_priv : Instr.wf (.pageFault 0 { priv := 2 } {}) = false := by decide +kernel
theorem test_wf_context_regs : Instr.wf (.pageFault 0 { x := List.replicate 32 0 } {}) = false := by decide +kernel
theorem test_wf_place_entry : Instr.wf (.registerWrite ⟨0, 0⟩ (.entry 65536 0) []) = false := by decide +kernel
theorem test_wf_place_bar0 : Instr.wf (.registerWrite ⟨0, 0⟩ (.bar0 0x10000) []) = false := by decide +kernel
theorem test_wf_place_ring : Instr.wf (.registerWrite ⟨0, 0⟩ (.hartRing 0 0x1000) []) = false := by decide +kernel
theorem test_wf_data : Instr.wf (.unlock (List.replicate 0x1000001 0)) = false := by
  simp only [Instr.wf, okData, List.length_replicate]; decide

/-- A well-formed command of each shape passes. -/
theorem test_wf_passes :
    [Instr.hold 127, .sampleInstant { di := 2 ^ 32 - 1, ai := [-(2 ^ 17)], enc := [2 ^ 31 - 1] }, .append 15 (List.replicate 144 0),
      .moveAbs 127 { target := 2 ^ 63 - 1, vel := 0, acc := 0, jerk := 0, seq := 65535 }, .updateAbandon ⟨4, 0⟩,
      .syncFrame { port := 3, raw := 0, fcs := false, bytes := List.replicate 14 0 }].all Instr.wf = true := by decide +kernel

end Sys2Proof.Tests
end

/-! # The analysis engines: complex products (R232) and stack limits (R242) -/

section
/-! ## Numbers: bits, two's complement fields and narrowing -/

namespace Sys2Proof.Machine

/-- A clear bit set by adding its weight leaves every other bit as it was. -/
theorem testBit_add_two_pow_of_clear {v i : Nat} (h : v.testBit i = false) (j : Nat) :
    (v + 2 ^ i).testBit j = (v.testBit j || decide (j = i)) := by
  rcases Nat.lt_trichotomy j i with hj | rfl | hj
  · rw [Nat.add_comm, Nat.testBit_two_pow_add_gt hj]; simp [hj.ne]
  · rw [Nat.add_comm, Nat.testBit_two_pow_add_eq]; simp [h]
  · obtain ⟨k, rfl⟩ := Nat.exists_eq_add_of_lt hj
    have even : v / 2 ^ i % 2 = 0 := by simpa [Nat.testBit_eq_decide_div_mod_eq] using h
    have half : (v + 2 ^ i) / 2 ^ i / 2 = v / 2 ^ i / 2 := by
      rw [Nat.add_div_right _ (by positivity)]; omega
    have split (n : Nat) : n / 2 ^ (i + k + 1) = n / 2 ^ i / 2 / 2 ^ k := by
      rw [Nat.div_div_eq_div_mul, Nat.div_div_eq_div_mul]; congr 1; ring
    simp only [Nat.testBit_eq_decide_div_mod_eq, split, half]
    simp [hj.ne']

/-- Setting a bit sets that one and leaves the others. -/
theorem testBit_withBit_true (v i j : Nat) : (withBit v i true).testBit j = (v.testBit j || decide (j = i)) := by
  unfold withBit
  by_cases h : v.testBit i = true
  · rw [if_pos h]
    by_cases hj : j = i
    · simp [hj, h]
    · simp [hj]
  · rw [if_neg h, if_pos rfl]
    exact testBit_add_two_pow_of_clear (by simpa using h) j

theorem toU_lt (w : Nat) (x : Int) : toU w x < 2 ^ w := by
  unfold toU
  have hp : (0 : Int) < 2 ^ w := by positivity
  have := Int.emod_lt_of_pos x hp
  zify
  rw [Int.toNat_of_nonneg (Int.emod_nonneg _ hp.ne')]
  exact this

/-- A field of `w` bits, read as two's complement again. -/
@[simp] theorem wrapBits_toU (w : Nat) (x : Int) : wrapBits w (toU w x : Nat) = wrapBits w x := by
  unfold wrapBits toU
  rw [Int.toNat_of_nonneg (Int.emod_nonneg _ (by positivity))]
  exact_mod_cast Int.emod_bmod x (2 ^ w)

/-- Saturation to `n + 1` bits. -/
theorem satBits_range (n : Nat) (x : Int) : -2 ^ n ≤ satBits (n + 1) x ∧ satBits (n + 1) x < 2 ^ n := by
  have hp : (0 : Int) < 2 ^ n := by positivity
  simp only [satBits, clamp, Nat.add_sub_cancel]
  split_ifs <;> omega

/-- A saturated number fits its field. -/
theorem wrapBits_satBits {w : Nat} (hw : 0 < w) (x : Int) : wrapBits w (satBits w x) = satBits w x := by
  obtain ⟨n, rfl⟩ : ∃ n, w = n + 1 := ⟨w - 1, by omega⟩
  obtain ⟨low, high⟩ := satBits_range n x
  have double : ((2 ^ (n + 1) : Nat) : Int) = 2 * 2 ^ n := by push_cast; ring
  exact Int.bmod_eq_of_le_mul_two (by rw [double]; omega) (by rw [double]; omega)

/-- A narrowed number fits its field. -/
theorem wrapBits_narrowBy {w : Nat} (hw : 0 < w) (s v : Int) : wrapBits w (narrowBy w s v).1 = (narrowBy w s v).1 :=
  wrapBits_satBits hw _

theorem narrowBy_ofNat (w n : Nat) (v : Int) :
    narrowBy w n v = (satBits w (shrConv v n), shrConv v n != satBits w (shrConv v n)) := by
  have h : ¬(n : Int) < 0 := by omega
  simp [narrowBy, h]

/-- The square of -1 in a format of `n` fraction bits lies one step above its range: it saturates (R230, R232). -/
theorem narrowBy_minusOne_square (n : Nat) : narrowBy (n + 1) n (-2 ^ n * -2 ^ n) = (2 ^ n - 1, true) := by
  have hp : (0 : Int) < 2 ^ n := by positivity
  have shifted : shrConv (-2 ^ n * -2 ^ n) n = 2 ^ n := by
    simp [shrConv, divConv, Int.mul_fdiv_cancel _ hp.ne']
  have saturated : satBits (n + 1) (2 ^ n) = 2 ^ n - 1 := by
    simp only [satBits, clamp, Nat.add_sub_cancel]; split_ifs <;> omega
  simp only [narrowBy_ofNat, shifted, saturated, Prod.mk.injEq, true_and, bne_iff_ne]; omega

theorem narrowBy_zero (n : Nat) : narrowBy (n + 1) n 0 = (0, false) := by
  have hp : (0 : Int) < 2 ^ n := by positivity
  have shifted : shrConv 0 n = 0 := by simp [shrConv, divConv]
  have kept : satBits (n + 1) 0 = 0 := by
    simp only [satBits, clamp, Nat.add_sub_cancel]; split_ifs <;> omega
  simp [narrowBy_ofNat, shifted, kept]

end Sys2Proof.Machine
end

section
/-! ## Complex numbers in data registers (R228) -/

namespace Sys2Proof.Machine

theorem pack32_lt (re im : Int) : pack32 re im < 2 ^ 64 := by
  have h := toU_lt 32 re; have g := toU_lt 32 im
  simp only [pack32]; omega

theorem pack16_lt (re im : Int) : pack16 re im < 2 ^ 32 := by
  have h := toU_lt 16 re; have g := toU_lt 16 im
  simp only [pack16]; omega

theorem cplx32_pack32 (re im : Int) : cplx32 (pack32 re im) = (wrapBits 32 re, wrapBits 32 im) := by
  have g := toU_lt 32 im
  have high : pack32 re im / 2 ^ 32 = toU 32 re := by simp only [pack32]; omega
  have low : pack32 re im % 2 ^ 32 = toU 32 im := by simp only [pack32]; omega
  simp only [cplx32, high, low, wrapBits_toU]

/-- The parts of a complex Q1.15 number of 32 bits. -/
theorem pack16_parts (re im : Int) : pack16 re im / 65536 = toU 16 re ∧ pack16 re im % 65536 = toU 16 im := by
  have g := toU_lt 16 im
  simp only [pack16]; omega

/-- Two complex Q1.15 numbers in one word, read back. -/
theorem cplx16_pack16 (re₀ im₀ re₁ im₁ : Int) :
    cplx16 (pack16 re₁ im₁ * 2 ^ 32 + pack16 re₀ im₀) 0 = (wrapBits 16 re₀, wrapBits 16 im₀) ∧
    cplx16 (pack16 re₁ im₁ * 2 ^ 32 + pack16 re₀ im₀) 1 = (wrapBits 16 re₁, wrapBits 16 im₁) := by
  have h₀ := pack16_lt re₀ im₀; have h₁ := pack16_lt re₁ im₁
  have low : (pack16 re₁ im₁ * 2 ^ 32 + pack16 re₀ im₀) / 2 ^ (32 * 0) % 2 ^ 32 = pack16 re₀ im₀ := by omega
  have high : (pack16 re₁ im₁ * 2 ^ 32 + pack16 re₀ im₀) / 2 ^ (32 * 1) % 2 ^ 32 = pack16 re₁ im₁ := by omega
  simp only [cplx16, low, high, pack16_parts, wrapBits_toU, and_self]

/-- The complex product of `u` and `v`, `v` conjugated with `cj`, each part narrowed by `s` to `w` bits; and whether each
saturated (R232). -/
def narrowedProduct (w : Nat) (s : Int) (cj : Bool) (u v : Int × Int) : (Int × Bool) × (Int × Bool) :=
  let vi := if cj then -v.2 else v.2
  (narrowBy w s (u.1 * v.1 - u.2 * vi), narrowBy w s (u.1 * vi + u.2 * v.1))

/-- It is the model's exact product, narrowed. -/
theorem narrowBy_cmulExact (w : Nat) (s : Int) (cj : Bool) (u v : Int × Int) :
    (narrowBy w s (cmulExact u v cj).1, narrowBy w s (cmulExact u v cj).2) = narrowedProduct w s cj u v := by
  cases cj <;> rfl

/-- -1 times -1 (R232), conjugated or not. -/
theorem narrowedProduct_minusOne (n : Nat) (cj : Bool) :
    narrowedProduct (n + 1) n cj (-2 ^ n, 0) (-2 ^ n, 0) = ((2 ^ n - 1, true), (0, false)) := by
  simp only [narrowedProduct, neg_zero, ite_self, mul_zero, zero_mul, sub_zero, add_zero, narrowBy_minusOne_square,
    narrowBy_zero]

end Sys2Proof.Machine
end

section
/-! ## Engines: what a data register and a sticky bit written leave alone, and how an instruction ends -/

namespace Sys2Proof.Machine

theorem Ae.D_setD (x : Ae) (i v j : Nat) : (x.setD i v).D j = if j = i then v % 2 ^ 64 else x.D j := by
  by_cases h : j = i
  · subst h; simp [Ae.D, Ae.setD]
  · simp [Ae.D, Ae.setD, h, mget_mset_other]

@[simp] theorem Ae.D_next (x : Ae) (i : Nat) : x.next.D i = x.D i := rfl

@[simp] theorem Ae.D_sticky (x : Ae) (k : Nat) (b : Bool) (i : Nat) : (x.sticky k b).D i = x.D i := by
  cases b <;> rfl

@[simp] theorem Ae.elem16_next (x : Ae) (i k : Nat) : x.next.elem16 i k = x.elem16 i k := rfl

@[simp] theorem Ae.elem16_sticky (x : Ae) (n : Nat) (b : Bool) (i k : Nat) : (x.sticky n b).elem16 i k = x.elem16 i k := by
  cases b <;> rfl

theorem Ae.sticks_sticky (x : Ae) (k : Nat) (b : Bool) : x.Sticks (x.sticky k b) k b := by
  cases b with
  | false => exact ⟨(Bool.or_false _).symm, fun _ _ => rfl⟩
  | true =>
    refine ⟨?_, fun i hi => ?_⟩
    · simp [Ae.sticky, testBit_withBit_true]
    · simp [Ae.sticky, testBit_withBit_true, hi]

/-- The engine an instruction of one cycle works on. -/
def Ae.begun (x : Ae) : Ae := { x with wrote := 0, cycles := x.cycles + 1 }

/-- Data registers written and SAT set where `b` holds: the instruction goes on, and changes nothing else. -/
theorem Ae.writesData {x z : Ae} (b : Bool) (h : z = { x.begun with d := z.d }) :
    x.Goes (z.sticky 0 b).next ∧ x.Keeps (z.sticky 0 b).next [.data, .sr] ∧ x.Sticks (z.sticky 0 b).next 0 b := by
  generalize z.d = d at h; subst h
  refine ⟨?_, ⟨?_, fun p hp => ?_⟩, Ae.sticks_sticky _ 0 b⟩
  · cases b <;> exact ⟨rfl, rfl⟩
  · cases b <;> rfl
  · cases p with
    | data | sr => simp at hp
    | mem | addr => cases b <;> exact ⟨rfl, rfl, rfl⟩
    | acc | ptr | exp | cr | woke | calls => cases b <;> rfl

/-- A command is what it does to a live device. -/
theorem State.answerCell_liveIf_congr (s : State) (c : Bool) {f g : Dev → Dev} (h : ∀ d, f d = g d) :
    (s.answerCell fun d => d.liveIf c f) = s.answerCell fun d => d.liveIf c g := by
  rw [funext h]

theorem AeDoes.mono {i : Instr} {e op : Nat} {s : State} {H : Nat → Ae → Prop} {P Q : Nat → Ae → Ae → Prop}
    (h : AeDoes i e op s H P) (g : ∀ w x y, P w x y → Q w x y) : AeDoes i e op s H Q := by
  intro live does hH
  obtain ⟨d, run, keeps, others, p⟩ := h live does hH
  exact ⟨d, run, keeps, others, g _ _ _ p⟩

end Sys2Proof.Machine
end

section
/-! ## CMUL32 and CMUL16 (R232) -/

namespace Sys2Proof.Machine

/-- What CMUL32 makes of the operands of its word. -/
def Ae.product32 (x : Ae) (w : Nat) : (Int × Bool) × (Int × Bool) :=
  narrowedProduct 32 31 (w.testBit 8) (cplx32 (x.D (fs w))) (cplx32 (x.D (ft w)))

/-- What CMUL16 makes of element `k` of its operand pairs. -/
def Ae.product16 (x : Ae) (w k : Nat) : (Int × Bool) × (Int × Bool) :=
  narrowedProduct 16 15 (w.testBit 8) (x.elem16 (fs w) k) (x.elem16 (ft w) k)

/-- Two elements packed, `q` in the high half. -/
def packPair16 (p q : (Int × Bool) × (Int × Bool)) : Nat := pack16 q.1.1 q.2.1 * 2 ^ 32 + pack16 p.1.1 p.2.1

/-- Whether a part of one of the four products of CMUL16 saturates. -/
def Ae.saturates16 (x : Ae) (w : Nat) : Bool := (List.range 4).any fun k => (x.product16 w k).1.2 || (x.product16 w k).2.2

theorem Dev.aeCmul32_eq (d : Dev) (e : Nat) : d.aeCmul32 e = d.aeData e 0x27 fun w x =>
    .ok ((x.setD (fd w) (pack32 (x.product32 w).1.1 (x.product32 w).2.1)).sticky 0
      ((x.product32 w).1.2 || (x.product32 w).2.2)) := by
  unfold Dev.aeCmul32
  refine congrArg (d.aeData e 0x27) (funext fun w => funext fun x => ?_)
  have h := narrowBy_cmulExact 32 31 (w.testBit 8) (cplx32 (x.D (fs w))) (cplx32 (x.D (ft w)))
  rw [Ae.product32, ← h]

theorem Ae.narrowBy_elem16 (x : Ae) (w k : Nat) :
    (narrowBy 16 15 (cmulExact (x.elem16 (fs w) k) (x.elem16 (ft w) k) (w.testBit 8)).1,
      narrowBy 16 15 (cmulExact (x.elem16 (fs w) k) (x.elem16 (ft w) k) (w.testBit 8)).2) = x.product16 w k :=
  narrowBy_cmulExact _ _ _ _ _

theorem Dev.aeCmul16_eq (d : Dev) (e : Nat) : d.aeCmul16 e = d.aeData e 0x28 fun w x =>
    if fd w % 2 = 1 ∨ fs w % 2 = 1 ∨ ft w % 2 = 1 then .error Code.AE_ILLEGAL
    else .ok (((x.setD (fd w) (packPair16 (x.product16 w 0) (x.product16 w 1))).setD (fd w + 1)
      (packPair16 (x.product16 w 2) (x.product16 w 3))).sticky 0 (x.saturates16 w)) := by
  unfold Dev.aeCmul16
  refine congrArg (d.aeData e 0x28) (funext fun w => funext fun x => ?_)
  simp only [Ae.saturates16, Ae.narrowBy_elem16]
  generalize x.product16 w = p
  rfl

/-- A product put into a data register reads back, each part of it narrowed already. -/
theorem cplx32_product32 (x : Ae) (w : Nat) :
    cplx32 (pack32 (x.product32 w).1.1 (x.product32 w).2.1 % 2 ^ 64) = ((x.product32 w).1.1, (x.product32 w).2.1) := by
  rw [Nat.mod_eq_of_lt (pack32_lt _ _), cplx32_pack32]
  simp only [Ae.product32, narrowedProduct, wrapBits_narrowBy (show 0 < 32 by decide)]

theorem cplx16_product16 (x : Ae) (w j k : Nat) :
    cplx16 (packPair16 (x.product16 w j) (x.product16 w k) % 2 ^ 64) 0 = ((x.product16 w j).1.1, (x.product16 w j).2.1) ∧
    cplx16 (packPair16 (x.product16 w j) (x.product16 w k) % 2 ^ 64) 1 = ((x.product16 w k).1.1, (x.product16 w k).2.1) := by
  have fits : packPair16 (x.product16 w j) (x.product16 w k) < 2 ^ 64 := by
    have low := pack16_lt (x.product16 w j).1.1 (x.product16 w j).2.1
    have high := pack16_lt (x.product16 w k).1.1 (x.product16 w k).2.1
    simp only [packPair16]; omega
  obtain ⟨low, high⟩ := cplx16_pack16 (x.product16 w j).1.1 (x.product16 w j).2.1 (x.product16 w k).1.1 (x.product16 w k).2.1
  rw [Nat.mod_eq_of_lt fits, packPair16, low, high]
  simp only [Ae.product16, narrowedProduct, wrapBits_narrowBy (show 0 < 16 by decide), and_self]

theorem Ae.product32_minusOne {x : Ae} {w : Nat} (hu : cplx32 (x.D (fs w)) = (-2 ^ 31, 0))
    (hv : cplx32 (x.D (ft w)) = (-2 ^ 31, 0)) : x.product32 w = ((2 ^ 31 - 1, true), (0, false)) := by
  rw [Ae.product32, hu, hv]
  exact narrowedProduct_minusOne 31 _

theorem Ae.product16_minusOne {x : Ae} {w k : Nat} (hu : x.elem16 (fs w) k = (-2 ^ 15, 0))
    (hv : x.elem16 (ft w) k = (-2 ^ 15, 0)) : x.product16 w k = ((2 ^ 15 - 1, true), (0, false)) := by
  rw [Ae.product16, hu, hv]
  exact narrowedProduct_minusOne 15 _

/-- CMUL32: the product in Dd, and SAT. -/
theorem aeCmul32_does (e : Nat) (s : State) : AeDoes (.aeCmul32 e) e 0x27 s (fun _ _ => True) fun w x y =>
    x.Goes y ∧ x.Keeps y [.data, .sr] ∧ x.KeepsData y [fd w] ∧
    cplx32 (y.D (fd w)) = ((x.product32 w).1.1, (x.product32 w).2.1) ∧
    x.Sticks y 0 ((x.product32 w).1.2 || (x.product32 w).2.2) := by
  refine AeDoes.of_data _ (s.answerCell_liveIf_congr _ fun d => d.aeCmul32_eq e) rfl fun w x _ => ?_
  let z := x.begun.setD (fd w) (pack32 (x.product32 w).1.1 (x.product32 w).2.1)
  refine ⟨z.sticky 0 ((x.product32 w).1.2 || (x.product32 w).2.2), rfl, ?_⟩
  obtain ⟨goes, keeps, sticks⟩ := Ae.writesData (x := x) (z := z) ((x.product32 w).1.2 || (x.product32 w).2.2) rfl
  refine ⟨goes, keeps, fun i hi => ?_, ?_, sticks⟩
  · rw [Ae.D_next, Ae.D_sticky, Ae.D_setD, if_neg (by simpa using hi)]; rfl
  · rw [Ae.D_next, Ae.D_sticky, Ae.D_setD, if_pos rfl]
    exact cplx32_product32 x w

/-- CMUL16: the four products in Dd and Dd+1, and SAT. -/
theorem aeCmul16_does (e : Nat) (s : State) :
    AeDoes (.aeCmul16 e) e 0x28 s (fun w _ => fd w % 2 = 0 ∧ fs w % 2 = 0 ∧ ft w % 2 = 0) fun w x y =>
    x.Goes y ∧ x.Keeps y [.data, .sr] ∧ x.KeepsData y [fd w, fd w + 1] ∧
    (∀ k < 4, y.elem16 (fd w) k = ((x.product16 w k).1.1, (x.product16 w k).2.1)) ∧ x.Sticks y 0 (x.saturates16 w) := by
  refine AeDoes.of_data _ (s.answerCell_liveIf_congr _ fun d => d.aeCmul16_eq e) rfl fun w x ⟨hd, hs, ht⟩ => ?_
  let z := (x.begun.setD (fd w) (packPair16 (x.product16 w 0) (x.product16 w 1))).setD (fd w + 1)
    (packPair16 (x.product16 w 2) (x.product16 w 3))
  refine ⟨z.sticky 0 (x.saturates16 w), if_neg (by omega), ?_⟩
  obtain ⟨goes, keeps, sticks⟩ := Ae.writesData (x := x) (z := z) (x.saturates16 w) rfl
  refine ⟨goes, keeps, fun i hi => ?_, fun k hk => ?_, sticks⟩
  · obtain ⟨h₀, h₁⟩ : i ≠ fd w ∧ i ≠ fd w + 1 := by simpa using hi
    rw [Ae.D_next, Ae.D_sticky, Ae.D_setD, if_neg h₁, Ae.D_setD, if_neg h₀]; rfl
  · have low : z.D (fd w) = packPair16 (x.product16 w 0) (x.product16 w 1) % 2 ^ 64 := by
      rw [Ae.D_setD, if_neg (by omega), Ae.D_setD, if_pos rfl]
    have high : z.D (fd w + 1) = packPair16 (x.product16 w 2) (x.product16 w 3) % 2 ^ 64 := by
      rw [Ae.D_setD, if_pos rfl]
    rw [Ae.elem16_next, Ae.elem16_sticky, Ae.elem16]
    clear_value z
    match k, hk with
    | 0, _ => exact (congrArg (cplx16 · 0) low).trans (cplx16_product16 x w 0 1).1
    | 1, _ => exact (congrArg (cplx16 · 1) low).trans (cplx16_product16 x w 0 1).2
    | 2, _ => exact (congrArg (cplx16 · 0) high).trans (cplx16_product16 x w 2 3).1
    | 3, _ => exact (congrArg (cplx16 · 1) high).trans (cplx16_product16 x w 2 3).2

/-- A product of CMUL16 that saturates is one of the four. -/
theorem Ae.saturates16_of {x : Ae} {w k : Nat} (hk : k < 4) (h : (x.product16 w k).1.2 = true) : x.saturates16 w = true :=
  List.any_eq_true.2 ⟨k, List.mem_range.2 hk, by rw [h]; rfl⟩

/-- Settles O13: the products as CMUL32 and CMUL16 write them, and -1 times -1 as the case of them that saturates. -/
theorem aeComplexProducts : Obligations.AeComplexProducts := by
  intro e s
  constructor
  · refine (aeCmul32_does e s).mono fun w x y ⟨goes, keeps, data, value, sticks⟩ =>
      ⟨goes, keeps, data, value, sticks, fun hu hv => ?_⟩
    have square := Ae.product32_minusOne hu hv
    exact ⟨by rw [value, square], by rw [sticks.1, square]; exact Bool.or_true _⟩
  · refine (aeCmul16_does e s).mono fun w x y ⟨goes, keeps, data, value, sticks⟩ =>
      ⟨goes, keeps, data, value, sticks, fun k hk hu hv => ?_⟩
    have square := Ae.product16_minusOne hu hv
    refine ⟨by rw [value k hk, square], ?_⟩
    rw [sticks.1, Ae.saturates16_of hk (by rw [square])]
    exact Bool.or_true _

end Sys2Proof.Machine
end

section
/-! ## An engine that stops in FAULTED (R243, R244) -/

namespace Sys2Proof.Machine

/-- The types of the entries a stopping engine writes. -/
theorem odType_ofEngine {e : Nat} (he : e < 2) :
    odType (Reg.R3510_STATE e) = .u8 ∧ odType (Reg.R3510_FAULT e) = .u16 ∧ odType (Reg.R3510_SIGNAL e) = .u16 := by
  match e, he with
  | 0, _ => decide +kernel
  | 1, _ => decide +kernel

/-- The entries of an engine are none of the log's. -/
theorem engineKey_not_logged {e : Nat} (he : e < 2) {j : Nat} (hj : j < 256) : Reg.key (0x3510 + e) j ∉ logRegs := by
  simp only [Reg.key, Reg.R1003_NEXT_SEQ, Reg.R1003_LOG_WRAPPED, Reg.R6020_CONFIRM_CYCLES, List.mem_cons, List.not_mem_nil,
    or_false, not_or]
  omega

/-- Bits of SIGNAL set leave the log and the engines alone; of the dictionary they change that entry. -/
theorem Dev.aeSignal_keeps (d : Dev) (e b : Nat) :
    (d.aeSignal e b).log = d.log ∧ (d.aeSignal e b).aes = d.aes ∧ (d.aeSignal e b).od = (d.orBits (Reg.R3510_SIGNAL e) b).od := by
  unfold Dev.aeSignal Dev.when Dev.raisePlic
  simp only
  split_ifs <;> exact ⟨rfl, rfl, rfl⟩

theorem Dev.reg_aeSignal (d : Dev) (e b k : Nat) :
    (d.aeSignal e b).reg k = (d.set (Reg.R3510_SIGNAL e) ((d.nat (Reg.R3510_SIGNAL e) ||| b : Nat) : Int)).reg k :=
  Dev.reg_congr (d.aeSignal_keeps e b).2.2 k

@[simp] theorem Reg.key_inj (i a b : Nat) : Reg.key i a = Reg.key i b ↔ a = b := by simp [Reg.key]

/-- The value a 16-bit entry takes. -/
theorem u16_wrap (n : Nat) : (OdType.u16.wrap n).toNat = n % 2 ^ 16 := by
  have narrowed : OdType.u16.wrap n = (n : Int) % 65536 := rfl
  rw [narrowed]; omega

theorem u16_wrap_setBit15 (n : Nat) : (OdType.u16.wrap ((n ||| 0x8000 : Nat) : Int)).toNat.testBit 15 = true := by
  have bit15 : Nat.testBit 0x8000 15 = true := by decide
  simp only [u16_wrap, Nat.testBit_mod_two_pow, Nat.testBit_or, bit15, Bool.or_true, decide_true, Bool.and_true,
    Nat.lt_add_one]

theorem Dev.lastRaised_congr {d e : Dev} (h : e.log = d.log) (code kind subject : Nat) :
    e.LastRaised code kind subject ↔ d.LastRaised code kind subject := by
  simp only [Dev.LastRaised, h]

/-- The device with the entries of a stopping engine written, before the code is raised. -/
def Dev.aeMarked (d : Dev) (e code : Nat) : Dev :=
  (((d.set (Reg.R3510_STOP_PC e) (d.ae e).pc).set (Reg.R3510_FAULT e) code).set (Reg.R3510_SR e) (d.ae e).sr).set
    (Reg.R3510_STATE e) AeState.faulted

/-- An engine that runs its own program stays in FAULTED: nothing returns it to service (R223). -/
theorem Dev.aeFault_own {d : Dev} {e : Nat} (he : e < 2) (own : d.reg (Reg.R3510_MODE e) = 1) (code : Nat) :
    d.aeFault e code =
      (((d.aeMarked e code).raise code Kind.unit (48 + e)).aeSignal e 0x8000).set (Reg.R3510_CYCLES e) (d.ae e).cycles := by
  have unlogged := engineKey_not_logged he (show 1 < 256 by decide)
  refine if_neg ?_
  simp [Dev.reg_set, Dev.reg_aeSignal, Dev.reg_raise, unlogged, own]

/-- Beside SIGNAL and CYCLES a stop leaves the engine's entries as they were marked. -/
theorem Dev.reg_aeFault_own {d : Dev} {e : Nat} (he : e < 2) (own : d.reg (Reg.R3510_MODE e) = 1) (code : Nat) {j : Nat}
    (hj : j < 256) (hsignal : j ≠ 0x0E) (hcycles : j ≠ 0x11) :
    (d.aeFault e code).reg (Reg.key (0x3510 + e) j) = (d.aeMarked e code).reg (Reg.key (0x3510 + e) j) := by
  rw [Dev.aeFault_own he own, Dev.reg_set_other _ _ (by simpa using hcycles), Dev.reg_aeSignal,
    Dev.reg_set_other _ _ (by simpa using hsignal), Dev.reg_raise _ _ _ _ _ _ (engineKey_not_logged he hj)]

/-- What stands in the entries of an engine that stopped, and in the log (R243, R244). -/
theorem Dev.aeFault_stops {d : Dev} {e : Nat} (he : e < 2) (own : d.reg (Reg.R3510_MODE e) = 1) {code : Nat} (hc : code < 65536) :
    (d.aeFault e code).aeState e = AeState.faulted ∧ (d.aeFault e code).nat (Reg.R3510_FAULT e) = code ∧
    (d.aeFault e code).reg (Reg.R3510_STOP_PC e) = (odType (Reg.R3510_STOP_PC e)).wrap (d.ae e).pc ∧
    (d.aeFault e code).bit (Reg.R3510_SIGNAL e) 15 = true ∧ (d.aeFault e code).aes = d.aes ∧
    (d.aeFault e code).LastRaised code Kind.unit (48 + e) := by
  obtain ⟨tState, tFault, tSignal⟩ := odType_ofEngine he
  have marked {j : Nat} := Dev.reg_aeFault_own he own code (j := j)
  refine ⟨?_, ?_, ?_, ?_, ?_, ?_⟩
  · rw [Dev.aeState, Dev.nat, marked (by decide) (by decide) (by decide), Dev.aeMarked, Dev.reg_set_same, tState]; rfl
  · rw [Dev.nat, marked (by decide) (by decide) (by decide)]
    simp [Dev.aeMarked, Dev.reg_set, tFault, u16_wrap, Nat.mod_eq_of_lt hc]
  · rw [marked (by decide) (by decide) (by decide)]
    simp [Dev.aeMarked, Dev.reg_set]
  · rw [Dev.aeFault_own he own, Dev.bit, Dev.nat, Dev.reg_set_other _ _ (by simp), Dev.reg_aeSignal, Dev.reg_set_same, tSignal]
    exact u16_wrap_setBit15 _
  · rw [Dev.aeFault_own he own]
    have raised := (Dev.keeps_raise (d.aeMarked e code) code Kind.unit (48 + e) 0 0) .aes (by simp)
    exact (Dev.aeSignal_keeps _ _ _).2.1.trans raised
  · rw [Dev.aeFault_own he own]
    have logged := Dev.lastRaised_raise (d.aeMarked e code) code Kind.unit (48 + e) 0 0
    exact (Dev.lastRaised_congr (Dev.aeSignal_keeps _ e 0x8000).1 _ _ _).2 logged

/-- An answer leaves the dictionary, the engines and the log as the command left them. -/
theorem State.answerCell_result (s : State) (f : Dev → Dev) :
    ∃ d, s.answerCell f = .next { s with dev := d } ∧ d.od = (f s.found).od ∧ d.aes = (f s.found).aes ∧
      d.log = (f s.found).log :=
  ⟨_, rfl, by simp, by simp, by simp⟩

/-- An instruction of an engine that runs its own program, and finds a fault: the engine stops. -/
theorem AeStops.of_run {i : Instr} {e op : Nat} {s : State} {code : Nat} {H : Nat → Ae → Prop} (reads : Nat → Nat) (cyc : Nat)
    (f : Nat → Ae → AeStep) (hi : exec i s = s.answerCell fun d => d.liveIf (e < 2) fun d => d.aeRun e op reads cyc f)
    (t : aeLegal.contains op = true) (hc : code < 65536)
    (hf : ∀ w x n, H w x → f w { x with wrote := 0, cycles := n } = .error code) : AeStops i e op s code H := by
  intro live does hH
  obtain ⟨he, -, own, -⟩ := (s.dev.aeDoes_iff e op).1 does
  have run : s.found.liveIf (e < 2) (fun d => d.aeRun e op reads cyc f) = s.found.aeFault e code := by
    have lit : s.found.dark = false := live
    simp only [Dev.liveIf, lit, he, decide_true, Bool.not_true, Bool.or_false, Bool.false_eq_true, if_false]
    rw [s.found.aeRun_does reads cyc f does t]
    simp only [hf (s.found.aeNext e) (s.found.ae e) _ hH]
  obtain ⟨a, answer, od, aes, log⟩ := s.answerCell_result fun d => d.liveIf (e < 2) fun d => d.aeRun e op reads cyc f
  simp only [run] at od aes log
  obtain ⟨state, fault, pc, signal, engines, raised⟩ := Dev.aeFault_stops (d := s.found) he own hc
  exact ⟨a, hi.trans answer, (Dev.nat_congr od _).trans state, (Dev.nat_congr od _).trans fault, (Dev.reg_congr od _).trans pc,
    (congrArg (Nat.testBit · 15) (Dev.nat_congr od _)).trans signal, aes.trans engines,
    (Dev.lastRaised_congr log _ _ _).2 raised⟩

end Sys2Proof.Machine
end

section
/-! ## The limits of the stacks (R242) -/

namespace Sys2Proof.Machine

/-- Settles O17: each limit is the test the instruction makes of its stack. -/
theorem aeStackLimits : Obligations.AeStackLimits := by
  intro e s
  refine ⟨?_, ?_, ?_, ?_⟩
  · refine AeDoes.of_run _ _ _ rfl rfl fun w x seven => ⟨_, if_neg ?_, ?_⟩
    · change ¬8 ≤ x.calls.length; omega
    · change x.calls.length + 1 = 8; omega
  · exact AeStops.of_run _ _ _ rfl rfl (by decide) fun w x n eight => if_pos (by change 8 ≤ x.calls.length; omega)
  · refine AeStops.of_run _ _ _ rfl rfl (by decide) fun w x n empty => ?_
    simp only [empty]
  · refine AeStops.of_run _ _ _ rfl rfl (by decide) fun w x n ⟨ahead, counted, four⟩ => ?_
    exact (if_neg (Nat.not_le.2 ahead)).trans ((if_neg counted.ne').trans (if_pos (by change 4 ≤ x.loops.length; omega)))

end Sys2Proof.Machine
end

/-! # The IOMMU's cached translations (R283) -/

section
/-! ## How a register write is answered -/

namespace Sys2Proof.Machine

/-- Past the start a register write does what its meaning says. -/
theorem State.Up.runs {s : State} (h : s.Up) (f : Dev → Dev) : s.found.up f = f s.found := by
  have lit : s.found.dark = false := h.1
  have started : DevState.config ≤ s.found.state := h.2
  simp [Dev.up, lit, started]

/-- A meaning that stores nothing, moves no counter and leaves EVENT alone is answered by its own result. -/
theorem State.answerDry_of_keeps {s : State} {f : Dev → Dev} {d : Dev} {l : List Part} (result : f s.found = d)
    (h : s.found.Keeps d l) (clk : Part.clk ∉ l) (mem : Part.mem ∉ l) (event : Part.event ∉ l) :
    s.answerDry f = .next { s with dev := d } := by
  have hclk : d.clk = s.dev.clk := h .clk clk
  have hmem : d.mem = s.dev.mem := h .mem mem
  have hevent : d.event = s.dev.event := h .event event
  rw [State.answerDry, result, Dev.tellEvent_none _ _ hevent, ← hclk, ← hmem]

/-! ## IOTLB_INVAL and sfence.vma -/

theorem Dev.keeps_iotlbInval (d : Dev) (v : Nat) : d.Keeps (d.iotlbInval v) [.dma] := by
  intro p hp
  cases p with
  | dma => simp at hp
  | _ => rfl

/-- What a write of IOTLB_INVAL leaves cached: under bit 1 nothing; else the entries of other address spaces and, unless bit 0
is set, those of other pages. -/
theorem Dev.mem_iotlbInval (d : Dev) (v : Nat) (e : Nat × Nat × Nat × Nat) :
    e ∈ (d.iotlbInval v).dma.iotlb ↔ e ∈ d.dma.iotlb ∧ v.testBit 1 = false ∧
      (e.1 ≠ v / 2 ^ 44 % 2 ^ 16 ∨ (v.testBit 0 = false ∧ e.2.1 ≠ v / 4096 % 2 ^ 27)) := by
  simp only [Dev.iotlbInval, List.mem_filter, Bool.not_eq_true', Bool.or_eq_false_iff, Bool.and_eq_false_iff,
    beq_eq_false_iff_ne]

theorem Dev.keeps_iotlbInval_finish (d : Dev) (v code : Nat) : d.Keeps ((d.iotlbInval v).finish code) [.dma, .done] :=
  (d.keeps_iotlbInval v).trans (Dev.keeps_finish _ code)

theorem exec_iotlbInval {s : State} (h : s.Up) (v : Nat) :
    exec (.iotlbInval v) s = .next { s with dev := (s.found.iotlbInval v).finish Code.STATUS_OK } :=
  State.answerDry_of_keeps (f := fun d => d.up fun d => (d.iotlbInval v).finish Code.STATUS_OK) (h.runs _)
    (s.found.keeps_iotlbInval_finish v _) (by decide) (by decide) (by decide)

/-- An sfence.vma concerns its own hart (R278). -/
theorem Dev.keeps_sfence (d : Dev) (h : Nat) : d.Keeps (d.sfence h) [.sett] := by
  intro p hp
  cases p with
  | sett => simp at hp
  | _ => rfl

theorem Dev.Keeps.liveIf {d : Dev} {f : Dev → Dev} {l : List Part} (c : Bool) (h : d.Keeps (f d) l) :
    d.Keeps (d.liveIf c f) l := by
  unfold Dev.liveIf
  split
  · exact Dev.Keeps.refl d l
  · exact h

/-- An sfence.vma changes Sett's record of its hart, and of the rest at most what waits of EVENT's vector. -/
theorem exec_sfenceVma (h : Nat) (s : State) :
    ∃ d, exec (.sfenceVma h) s = .next { s with dev := d } ∧ s.found.Keeps d [.serve, .sett] :=
  s.answerDry_keeps (f := fun d => d.liveIf (decide (h < 48) && d.issuing h) fun d => d.sfence h)
    ((s.found.keeps_sfence h).liveIf _)

/-! ## The bound of the cache -/

/-- The device that has cached an entry: behind the others, and in a full cache for one of them. -/
def Dev.iotlbPut (d : Dev) (e : Nat × Nat × Nat × Nat) : Dev :=
  if d.dma.iotlb.length < 1024 then { d with dma := { d.dma with iotlb := d.dma.iotlb ++ [e] } }
  else
    { d.takeFresh.2 with
      dma := { d.dma with iotlb := d.dma.iotlb.eraseIdx (Config.iotlbVictim d.fresh % 1024) ++ [e] } }

/-- A translation leaves the device as it is, on a fault or by an entry cached before, or caches one entry. -/
theorem Dev.ioTranslate_device (d : Dev) (satp va : Nat) (w : Bool) :
    (d.ioTranslate satp va w).2 = d ∨ ∃ e, (d.ioTranslate satp va w).2 = d.iotlbPut e := by
  simp only [Dev.ioTranslate]
  generalize (if va.testBit 38 then 2 ^ 25 - 1 else 0) = sign
  by_cases outside : va / 2 ^ 39 ≠ sign
  · exact .inl (by rw [if_pos outside])
  rw [if_neg outside]
  split
  case h_1 hit => exact .inl rfl
  case h_2 miss =>
    split
    case h_1 fault => exact .inl rfl
    case h_2 pte level walked =>
      refine .inr ⟨(satp / 2 ^ 44 % 2 ^ 16, va / 4096 % 2 ^ 27, pte, level), ?_⟩
      unfold Dev.iotlbPut
      by_cases room : d.dma.iotlb.length < 1024
      · simp only [room, if_true]
      · simp only [room, Dev.takeFresh, if_false]

theorem Dev.length_iotlbPut {d : Dev} (h : d.dma.iotlb.length ≤ 1024) (e : Nat × Nat × Nat × Nat) :
    (d.iotlbPut e).dma.iotlb.length ≤ 1024 := by
  unfold Dev.iotlbPut
  split
  next room => simpa using room
  next full =>
    have victim : Config.iotlbVictim d.fresh % 1024 < d.dma.iotlb.length :=
      (Nat.mod_lt _ (by decide)).trans_le (Nat.le_of_not_lt full)
    rw [List.length_append, List.length_eraseIdx_of_lt victim, List.length_singleton]
    omega

/-- The IOMMU caches 1,024 translations at most (R283). -/
theorem Dev.length_iotlb_ioTranslate {d : Dev} (h : d.dma.iotlb.length ≤ 1024) (satp va : Nat) (w : Bool) :
    (d.ioTranslate satp va w).2.dma.iotlb.length ≤ 1024 := by
  obtain same | ⟨e, put⟩ := d.ioTranslate_device satp va w
  · rw [same]; exact h
  · rw [put]; exact Dev.length_iotlbPut h e

/-- Settles O39: the entries a write of IOTLB_INVAL leaves, the frame of an sfence.vma, and the bound of the cache. -/
theorem iotlbInvalRemoves : Obligations.IotlbInvalRemoves := by
  intro s v up
  refine ⟨?_, fun h _ => ?_, fun d satp va w bound => Dev.length_iotlb_ioTranslate bound satp va w⟩
  · exact ⟨_, exec_iotlbInval up v, rfl, s.found.mem_iotlbInval v, s.found.keeps_iotlbInval_finish v _⟩
  · obtain ⟨d, answer, kept⟩ := exec_sfenceVma h s
    exact ⟨d, answer, kept .dma (by decide)⟩

end Sys2Proof.Machine
end

/-! # Corrections of wall time (R346, R349, R350) -/

section
/-! ## What a register write and a code raised leave -/

namespace Sys2Proof.Machine

/-- A write past the start is answered by its own result, where that moves no counter, stores nothing and raises no event. -/
theorem Does.of_quiet {i : Instr} {s : State} {f : Dev → Dev} {d : Dev} {l : List Part} {P : Dev → Dev → Prop} (up : s.Up)
    (hi : exec i s = s.answerDry fun d => d.up f) (result : f s.found = d) (keeps : s.found.Keeps d l) (clk : Part.clk ∉ l)
    (mem : Part.mem ∉ l) (event : Part.event ∉ l) (h : P s.found d) : Does i s P :=
  ⟨d, hi.trans (State.answerDry_of_keeps ((up.runs f).trans result) keeps clk mem event), h⟩

/-- The same of a write that may raise an event: beside its result at most what waits of EVENT's vector changes. -/
theorem Does.of_raising {i : Instr} {s : State} {f : Dev → Dev} {d : Dev} {l : List Part} {P : Dev → Dev → Prop} (up : s.Up)
    (hi : exec i s = s.answerDry fun d => d.up f) (result : f s.found = d) (keeps : s.found.Keeps d l) (clk : Part.clk ∉ l)
    (mem : Part.mem ∉ l) (h : ∀ a, d.Keeps a [.serve] → P s.found a) : Does i s P := by
  have told := d.keeps_tellEvent s.dev.event
  have hclk : d.clk = s.dev.clk := keeps .clk clk
  have hmem : d.mem = s.dev.mem := keeps .mem mem
  refine ⟨d.tellEvent s.dev.event, ?_, h _ told⟩
  rw [hi, State.answerDry, up.runs f, result, ← hclk, ← hmem, ← told .clk (by decide), ← told .mem (by decide)]

theorem Does.mono {i : Instr} {s : State} {P Q : Dev → Dev → Prop} (h : Does i s P) (g : ∀ a, P s.found a → Q s.found a) :
    Does i s Q := by
  obtain ⟨a, run, p⟩ := h
  exact ⟨a, run, g a p⟩

theorem Dev.KeepsRegs.trans {d e f : Dev} {l m : List Nat} (h : d.KeepsRegs e l) (g : e.KeepsRegs f m) :
    d.KeepsRegs f (l ++ m) := by
  intro k hk
  simp only [List.mem_append, not_or] at hk
  exact (g k hk.2).trans (h k hk.1)

theorem Dev.KeepsRegs.mono {d e : Dev} {l m : List Nat} (h : d.KeepsRegs e l) (s : ∀ k ∈ l, k ∈ m) : d.KeepsRegs e m :=
  fun k hk => h k fun q => hk (s k q)

/-- The entries are part of the dictionary. -/
theorem Dev.KeepsRegs.congr {d e a : Dev} {l : List Nat} (h : d.KeepsRegs e l) (od : a.od = e.od) : d.KeepsRegs a l :=
  fun k hk => (Dev.reg_congr od k).trans (h k hk)

theorem Dev.keepsRegs_set (d : Dev) (k : Nat) (v : Int) : d.KeepsRegs (d.set k v) [k] :=
  fun _ hj => d.reg_set_other v (by simpa using hj)

/-- An unsigned entry holds a number that its type has room for. -/
theorem Dev.nat_set_same (d : Dev) {k n : Nat} {t : OdType} (type : odType k = t) (unsigned : t.signed = false)
    (room : n < 2 ^ (8 * t.size)) : (d.set k (n : Int)).nat k = n := by
  have narrowed : ((n : Int) % 2 ^ (8 * t.size)) = n := by
    exact_mod_cast congrArg Nat.cast (Nat.mod_eq_of_lt room)
  simp [Dev.nat, type, OdType.wrap, unsigned, narrowed]

theorem Dev.nat_set_other (d : Dev) {k j : Nat} (v : Int) (h : j ≠ k) : (d.set k v).nat j = d.nat j := by
  rw [Dev.nat, Dev.reg_set_other _ _ h, ← Dev.nat]

/-- A counter of 32 bits counts up and saturates (R44). -/
theorem Dev.nat_count_same (d : Dev) {k : Nat} (type : odType k = .u32) : (d.count k).nat k = min (d.nat k + 1) 0xFFFFFFFF := by
  have cast : d.count k = d.set k ((min (d.nat k + 1) 0xFFFFFFFF : Nat) : Int) := by simp [Dev.count]
  rw [cast]
  exact d.nat_set_same type rfl (Nat.lt_of_le_of_lt (Nat.min_le_right _ _) (by decide))

/-! ## The codes of the time base (R362) -/

theorem odType_lastCode : odType Reg.R1150_LAST_CODE = .u16 := by decide +kernel

theorem Dev.keeps_timeCode (d : Dev) (code kind subject : Nat) : d.Keeps (d.timeCode code kind subject) [.od, .log, .event] :=
  ((d.keeps_raise code kind subject 0 0).trans (Dev.keeps_set _ _ _)).mono (by decide)

theorem Dev.keepsRegs_timeCode (d : Dev) (code kind subject : Nat) :
    d.KeepsRegs (d.timeCode code kind subject) (Reg.R1150_LAST_CODE :: logRegs) :=
  ((d.keepsRegs_raise code kind subject 0 0).trans (Dev.keepsRegs_set _ _ _)).mono (by decide)

theorem Dev.lastRaised_timeCode (d : Dev) (code kind subject : Nat) :
    (d.timeCode code kind subject).LastRaised code kind subject := d.lastRaised_raise code kind subject 0 0

theorem Dev.nat_lastCode_timeCode (d : Dev) {code : Nat} (kind subject : Nat) (h : code < 65536) :
    (d.timeCode code kind subject).nat Reg.R1150_LAST_CODE = code :=
  Dev.nat_set_same _ odType_lastCode rfl h

end Sys2Proof.Machine
end

section
/-! ## Wall time under a new rate and under a step -/

namespace Sys2Proof.Machine

theorem Dev.wtAt_congr {d e : Dev} (h : e.wall = d.wall) (raw : Nat) : e.wtAt raw = d.wtAt raw := by
  simp only [Dev.wtAt, h]

@[simp] theorem Dev.wall_timeCode (d : Dev) (code kind subject : Nat) : (d.timeCode code kind subject).wall = d.wall :=
  d.keeps_timeCode code kind subject .wall (by decide)

/-- A new rate leaves wall time at the next raw count as it would have been, and runs on from there (R346). -/
theorem Dev.wtAt_setWallRate (d : Dev) (rate k : Nat) :
    (d.setWallRate rate).wtAt (d.rawNow + 1 + k) = d.wtAt (d.rawNow + 1) + k * rate := by
  simp only [Dev.wtAt, Dev.setWallRate, Dev.set_keeps]
  push_cast
  ring

theorem Dev.keeps_setWallRate (d : Dev) (rate : Nat) : d.Keeps (d.setWallRate rate) [.wall, .od] := by
  intro p hp
  cases p with
  | wall | od => simp at hp
  | _ => rfl

theorem Dev.keepsRegs_setWallRate (d : Dev) (rate : Nat) : d.KeepsRegs (d.setWallRate rate) [Reg.R1140_WALL_RATE] :=
  Dev.keepsRegs_set _ _ _

theorem odType_wallRate : odType Reg.R1140_WALL_RATE = .u64 := by decide +kernel

theorem Dev.nat_wallRate_setWallRate (d : Dev) {rate : Nat} (h : rate < 2 ^ 64) :
    (d.setWallRate rate).nat Reg.R1140_WALL_RATE = rate := Dev.nat_set_same _ odType_wallRate rfl h

/-- The device whose wall time has moved, before the step is logged. -/
def Dev.wallMoved (d : Dev) (by_ : Int) : Dev := { d with wall := { d.wall with off := d.wall.off + by_ } }

/-- A step of wall time moves the offset and logs it, counts it and sets WALL_STATE. -/
theorem Dev.stepWall_eq (d : Dev) (by_ : Int) : d.stepWall by_ =
    (((d.wallMoved by_).timeCode Code.WALL_STEPPED Kind.device 0).count Reg.R1140_STEPS).set Reg.R1140_WALL_STATE 2 := rfl

theorem Dev.keeps_wallMoved (d : Dev) (by_ : Int) : d.Keeps (d.wallMoved by_) [.wall] := by
  intro p hp
  cases p with
  | wall => simp at hp
  | _ => rfl

@[simp] theorem Dev.wall_stepWall (d : Dev) (by_ : Int) :
    (d.stepWall by_).wall = { d.wall with off := d.wall.off + by_ } := by
  simp [Dev.stepWall_eq, Dev.count, Dev.wallMoved]

/-- A step moves wall time by as much at every raw count. -/
theorem Dev.wtAt_stepWall (d : Dev) (by_ : Int) (raw : Nat) : (d.stepWall by_).wtAt raw = d.wtAt raw + by_ := by
  simp only [Dev.wtAt, Dev.wall_stepWall]
  ring

theorem Dev.keeps_stepWall (d : Dev) (by_ : Int) : d.Keeps (d.stepWall by_) [.wall, .od, .log, .event] :=
  ((((d.keeps_wallMoved by_).trans (Dev.keeps_timeCode _ _ _ _)).trans (Dev.keeps_set _ _ _)).trans
    (Dev.keeps_set _ _ _)).mono (by decide)

/-- The entries a step of wall time writes. -/
theorem Dev.keepsRegs_stepWall (d : Dev) (by_ : Int) :
    d.KeepsRegs (d.stepWall by_) ([Reg.R1140_WALL_STATE, Reg.R1140_STEPS, Reg.R1150_LAST_CODE] ++ logRegs) :=
  (((d.wallMoved by_).keepsRegs_timeCode _ _ _).trans
    ((Dev.keepsRegs_set _ _ _).trans (Dev.keepsRegs_set _ _ _))).mono (by decide)

theorem odType_wallState : odType Reg.R1140_WALL_STATE = .u8 := by decide +kernel

theorem odType_steps : odType Reg.R1140_STEPS = .u32 := by decide +kernel

/-- What a step of wall time writes to WALL_STATE, STEPS and LAST_CODE (R349). -/
theorem Dev.nat_stepWall (d : Dev) (by_ : Int) :
    (d.stepWall by_).nat Reg.R1140_WALL_STATE = 2 ∧
    (d.stepWall by_).nat Reg.R1140_STEPS = min (d.nat Reg.R1140_STEPS + 1) 0xFFFFFFFF ∧
    (d.stepWall by_).nat Reg.R1150_LAST_CODE = Code.WALL_STEPPED := by
  have steps : ((d.wallMoved by_).timeCode Code.WALL_STEPPED Kind.device 0).nat Reg.R1140_STEPS = d.nat Reg.R1140_STEPS :=
    congrArg Int.toNat (Dev.keepsRegs_timeCode _ _ _ _ _ (by decide))
  rw [Dev.stepWall_eq]
  refine ⟨Dev.nat_set_same _ odType_wallState rfl (n := 2) (by decide), ?_, ?_⟩
  · rw [Dev.nat_set_other _ _ (by decide), Dev.nat_count_same _ odType_steps, steps]
  · rw [Dev.nat_set_other _ _ (by decide), Dev.count, Dev.nat_set_other _ _ (by decide)]
    exact Dev.nat_lastCode_timeCode _ _ _ (by decide)

theorem Dev.lastRaised_stepWall (d : Dev) (by_ : Int) : (d.stepWall by_).LastRaised Code.WALL_STEPPED Kind.device 0 :=
  (Dev.lastRaised_congr (by simp [Dev.stepWall_eq, Dev.count]) _ _ _).2 ((d.wallMoved by_).lastRaised_timeCode _ _ _)

end Sys2Proof.Machine
end

section
/-! ## WALL_RATE, WALL_STEP_NS and WALL_SET -/

namespace Sys2Proof.Machine

/-- What every accepted step or set leaves of `b`, beside the wall time it makes (R349). -/
def Dev.WallStepped (b a : Dev) : Prop :=
  a.done = Code.STATUS_OK ∧ a.nat Reg.R1140_WALL_STATE = 2 ∧
  a.nat Reg.R1140_STEPS = min (b.nat Reg.R1140_STEPS + 1) 0xFFFFFFFF ∧ a.nat Reg.R1150_LAST_CODE = Code.WALL_STEPPED ∧
  a.LastRaised Code.WALL_STEPPED Kind.device 0 ∧
  b.KeepsRegs a ([Reg.R1140_WALL_STATE, Reg.R1140_STEPS, Reg.R1150_LAST_CODE] ++ logRegs) ∧
  b.Keeps a ([.wall, .done] ++ logParts)

/-- What a correction refused because PTP owns wall time leaves of `b` (R350). -/
def Dev.WallDenied (b a : Dev) : Prop :=
  a.done = Code.WALL_OWNED ∧ a.LastRaised Code.WALL_OWNED Kind.device 0 ∧
  b.KeepsRegs a (Reg.R1150_LAST_CODE :: logRegs) ∧ b.Keeps a (.done :: logParts)

theorem Dev.keeps_stepWall_finish (d : Dev) (by_ : Int) (code : Nat) :
    d.Keeps ((d.stepWall by_).finish code) [.wall, .od, .log, .event, .done] :=
  ((d.keeps_stepWall by_).trans (Dev.keeps_finish _ code)).mono (by decide)

theorem Dev.keeps_wallRefused (d : Dev) : d.Keeps d.wallRefused [.od, .log, .event, .done] :=
  ((d.keeps_timeCode _ _ _).trans (Dev.keeps_finish _ _)).mono (by decide)

/-- What waits of EVENT's vector is no matter of a step's effects. -/
theorem Dev.WallStepped.told {b e a : Dev} (h : b.WallStepped e) (told : e.Keeps a [.serve]) : b.WallStepped a := by
  obtain ⟨done, state, steps, code, raised, regs, keeps⟩ := h
  have od : a.od = e.od := told .od (by decide)
  have log : a.log = e.log := told .log (by decide)
  exact ⟨(told .done (by decide)).trans done, (Dev.nat_congr od _).trans state, (Dev.nat_congr od _).trans steps,
    (Dev.nat_congr od _).trans code, (Dev.lastRaised_congr log _ _ _).2 raised, regs.congr od,
    (keeps.trans told).mono (by decide)⟩

/-- Nor of a refusal's. -/
theorem Dev.WallDenied.told {b e a : Dev} (h : b.WallDenied e) (told : e.Keeps a [.serve]) : b.WallDenied a := by
  obtain ⟨done, raised, regs, keeps⟩ := h
  have od : a.od = e.od := told .od (by decide)
  have log : a.log = e.log := told .log (by decide)
  exact ⟨(told .done (by decide)).trans done, (Dev.lastRaised_congr log _ _ _).2 raised, regs.congr od,
    (keeps.trans told).mono (by decide)⟩

theorem Dev.wallStepped_stepWall (d : Dev) (by_ : Int) : d.WallStepped ((d.stepWall by_).finish Code.STATUS_OK) := by
  obtain ⟨state, steps, code⟩ := d.nat_stepWall by_
  have od : ((d.stepWall by_).finish Code.STATUS_OK).od = (d.stepWall by_).od := by simp
  exact ⟨Dev.finish_done _ _, (Dev.nat_congr od _).trans state, (Dev.nat_congr od _).trans steps,
    (Dev.nat_congr od _).trans code, (Dev.lastRaised_congr (by simp) _ _ _).2 (d.lastRaised_stepWall by_),
    (d.keepsRegs_stepWall by_).congr od, (d.keeps_stepWall_finish by_ _).mono (by decide)⟩

theorem Dev.wallDenied_wallRefused (d : Dev) : d.WallDenied d.wallRefused := by
  have od : d.wallRefused.od = (d.timeCode Code.WALL_OWNED Kind.device 0).od := by simp [Dev.wallRefused]
  have log : d.wallRefused.log = (d.timeCode Code.WALL_OWNED Kind.device 0).log := by simp [Dev.wallRefused]
  exact ⟨Dev.finish_done _ _, (Dev.lastRaised_congr log _ _ _).2 (d.lastRaised_timeCode _ _ _),
    (d.keepsRegs_timeCode _ _ _).congr od, d.keeps_wallRefused.mono (by decide)⟩

/-- A correction that runs a step of wall time. -/
theorem Does.of_stepWall {i : Instr} {s : State} {f : Dev → Dev} {by_ : Int} (up : s.Up)
    (hi : exec i s = s.answerDry fun d => d.up f) (result : f s.found = (s.found.stepWall by_).finish Code.STATUS_OK) :
    Does i s fun b a => b.WallStepped a ∧ a.wall = (b.stepWall by_).wall :=
  Does.of_raising up hi result (s.found.keeps_stepWall_finish by_ _) (by decide) (by decide) fun _ told =>
    ⟨(s.found.wallStepped_stepWall by_).told told, (told .wall (by decide)).trans (by simp)⟩

/-- A correction that finds PTP the owner of wall time. -/
theorem Does.of_wallRefused {i : Instr} {s : State} {f : Dev → Dev} (up : s.Up)
    (hi : exec i s = s.answerDry fun d => d.up f) (result : f s.found = s.found.wallRefused) : Does i s Dev.WallDenied :=
  Does.of_raising up hi result s.found.keeps_wallRefused (by decide) (by decide) fun _ told =>
    s.found.wallDenied_wallRefused.told told

/-- A write that only completes with a code. -/
theorem Does.of_finish {i : Instr} {s : State} {f : Dev → Dev} {code : Nat} (up : s.Up)
    (hi : exec i s = s.answerDry fun d => d.up f) (result : f s.found = s.found.finish code) :
    Does i s fun b a => a.done = code ∧ b.Keeps a [.done] :=
  have keeps := s.found.keeps_finish code
  Does.of_quiet up hi result keeps (by decide) (by decide) (by decide) ⟨Dev.finish_done _ _, keeps⟩

section
variable {d : Dev}

theorem Dev.wallRate_owned (own : d.wallOwned = true) (rate : Nat) : d.wallRate rate = d.wallRefused := if_pos own

theorem Dev.wallStepNs_owned (own : d.wallOwned = true) (ns : Int) : d.wallStepNs ns = d.wallRefused := if_pos own

theorem Dev.wallSet_owned (own : d.wallOwned = true) (time : Int) : d.wallSet time = d.wallRefused := if_pos own

theorem Dev.wallRate_outside (free : d.wallOwned = false) {rate : Nat} (h : rate < 0x00FFBE76C8B4 ∨ 0x01004189374C < rate) :
    d.wallRate rate = d.finish Code.OD_RANGE := by
  rw [Dev.wallRate, if_neg (by simp [free]), if_pos h]

theorem Dev.wallRate_within (free : d.wallOwned = false) {rate : Nat} (low : 0x00FFBE76C8B4 ≤ rate)
    (high : rate ≤ 0x01004189374C) : d.wallRate rate = (d.setWallRate rate).finish Code.STATUS_OK := by
  rw [Dev.wallRate, if_neg (by simp [free]), if_neg (by omega)]

theorem Dev.wallStepNs_free (free : d.wallOwned = false) (ns : Int) :
    d.wallStepNs ns = (d.stepWall (ns * 2 ^ 40)).finish Code.STATUS_OK := if_neg (by simp [free])

theorem Dev.wallSet_badTime (free : d.wallOwned = false) {time : Int} (bad : timeOk time = false) :
    d.wallSet time = d.finish Code.OD_TYPE := by
  rw [Dev.wallSet, if_neg (by simp [free]), if_pos (by simp [bad])]

theorem Dev.wallSet_goodTime (free : d.wallOwned = false) {time : Int} (good : timeOk time = true) :
    d.wallSet time = (d.stepWall (time40Of time - d.wtAt (d.rawNow + 1))).finish Code.STATUS_OK := by
  rw [Dev.wallSet, if_neg (by simp [free]), if_neg (by simp [good])]

end

/-- The rate written and accepted. -/
theorem wallRate_does {s : State} (up : s.Up) (free : s.found.wallOwned = false) {rate : Nat} (low : 0x00FFBE76C8B4 ≤ rate)
    (high : rate ≤ 0x01004189374C) : Does (.wallRate rate) s fun b a =>
      a.done = Code.STATUS_OK ∧ a.wall.rate = rate ∧ a.wtAt (b.rawNow + 1) = b.wtAt (b.rawNow + 1) ∧
      (∀ k, a.wtAt (b.rawNow + 1 + k) = b.wtAt (b.rawNow + 1) + k * rate) ∧ a.nat Reg.R1140_WALL_RATE = rate ∧
      b.KeepsRegs a [Reg.R1140_WALL_RATE] ∧ b.Keeps a [.wall, .od, .done] := by
  have keeps := (s.found.keeps_setWallRate rate).trans (Dev.keeps_finish _ Code.STATUS_OK)
  have runs := s.found.wtAt_setWallRate rate
  exact Does.of_quiet up rfl (Dev.wallRate_within free low high) keeps (by decide) (by decide) (by decide)
    ⟨Dev.finish_done _ _, rfl, (runs 0).trans (by simp), runs, s.found.nat_wallRate_setWallRate (by omega),
      s.found.keepsRegs_setWallRate rate, keeps⟩

theorem wallStepNs_does {s : State} (up : s.Up) (free : s.found.wallOwned = false) (ns : Int) :
    Does (.wallStepNs ns) s fun b a => b.WallStepped a ∧ ∀ k, a.wtAt k = b.wtAt k + ns * 2 ^ 40 :=
  (Does.of_stepWall up rfl (Dev.wallStepNs_free free ns)).mono fun _ ⟨stepped, wall⟩ =>
    ⟨stepped, fun k => (Dev.wtAt_congr wall k).trans (s.found.wtAt_stepWall _ k)⟩

/-- WALL_SET steps by what is missing at the next raw count. -/
theorem wallSet_does {s : State} (up : s.Up) (free : s.found.wallOwned = false) {time : Int} (good : timeOk time = true) :
    Does (.wallSet time) s fun b a =>
      b.WallStepped a ∧ a.wtAt (b.rawNow + 1) = time40Of time ∧ a.wall.rate = b.wall.rate :=
  (Does.of_stepWall up rfl (Dev.wallSet_goodTime free good)).mono fun a ⟨stepped, wall⟩ =>
    ⟨stepped, by rw [Dev.wtAt_congr wall, Dev.wtAt_stepWall]; ring, by rw [wall, Dev.wall_stepWall]⟩

/-- Settles O44: each correction of wall time by its own case, accepted or refused; all three alike while PTP owns wall time. -/
theorem wallClock : Obligations.WallClock := by
  intro s rate ns time up
  refine ⟨fun free => ⟨wallRate_does up free, fun outside => ?_, wallStepNs_does up free ns, wallSet_does up free,
    fun bad => ?_⟩, fun own i hi => ?_⟩
  · exact Does.of_finish up rfl (Dev.wallRate_outside free outside)
  · exact Does.of_finish up rfl (Dev.wallSet_badTime free bad)
  · simp only [List.mem_cons, List.not_mem_nil, or_false] at hi
    rcases hi with rfl | rfl | rfl
    · exact Does.of_wallRefused up rfl (Dev.wallRate_owned own rate)
    · exact Does.of_wallRefused up rfl (Dev.wallStepNs_owned own ns)
    · exact Does.of_wallRefused up rfl (Dev.wallSet_owned own time)

end Sys2Proof.Machine
end

section
/-! # The proofs of the family of the remaining statements

They elaborate one after another: an argument filled in by `decide` waits for every proof before it, and as many proofs waiting at
once take more memory than the check grants. -/

set_option Elab.async false

/-! # Every command: how it answers, and what it leaves alone (spec/95, R13, R18, R531) -/

section
/-! ## The four ways of answering -/

namespace Sys2Proof.Machine

/-- The commands that may set the counters or the network clock: time, the cluster's start, the start and the reset of the module,
and the writes that can reach one of these. -/
def movesClock : Instr → Bool
  | .sampleInstant .. | .syncFrame .. | .coldstartFrame .. | .acyclicFrame .. | .listenTimeout .. | .coldstartLead ..
  | .integrationComplete .. | .integrationTimeout .. | .netControl .. | .writeOd .. | .write .. | .dwrite ..
  | .ringRequestFetch .. | .windowWrite .. | .udpDatagram .. | .devControlRun .. | .devControlSafe .. | .devControlConfig ..
  | .validate .. | .devControlReset .. | .registerWrite .. | .resetRelease .. | .bootStart .. | .bootStepTimeout ..
  | .activate .. | .resetN .. | .powerLossStop .. | .refclkFault .. | .bankPowerLoss .. | .lidTempReading .. | .vbatLoss ..
  | .vbatApplied .. => true
  | _ => false

theorem exec_ofCell {i : Instr} (h : i.ofCell = true) : ∃ f, ∀ s, exec i s = s.answerCell f := by
  unfold exec
  cases i <;> cases h <;> exact ⟨_, fun _ => rfl⟩

theorem exec_storesNothing {i : Instr} (h : i.storesNothing = true) : ∃ f, ∀ s, exec i s = s.answerDry f := by
  unfold exec
  cases i <;> cases h <;> exact ⟨_, fun _ => rfl⟩

theorem exec_movesClock {i : Instr} (h : movesClock i = true) : ∃ f, ∀ s, exec i s = s.answerClk f := by
  unfold exec
  cases i <;> cases h <;> exact ⟨_, fun _ => rfl⟩

theorem exec_mayStore {i : Instr} (cell : i.ofCell = false) (dry : i.storesNothing = false) (clk : movesClock i = false) :
    ∃ f, ∀ s, exec i s = s.answer f := by
  unfold exec
  cases i <;> cases cell <;> cases dry <;> cases clk <;> exact ⟨_, fun _ => rfl⟩

/-- A command answers by one meaning, the same on every state, in one of four ways. -/
inductive Answers : (State → Host.Outcome State Fault Refusal) → Prop
  | cell {a f} (h : ∀ s : State, a s = s.answerCell f) : Answers a
  | dry {a f} (h : ∀ s : State, a s = s.answerDry f) : Answers a
  | clk {a f} (h : ∀ s : State, a s = s.answerClk f) : Answers a
  | full {a f} (h : ∀ s : State, a s = s.answer f) : Answers a

theorem exec_answers (i : Instr) : Answers (exec i) := by
  cases cell : i.ofCell with
  | true => exact .cell (exec_ofCell cell).choose_spec
  | false =>
    cases dry : i.storesNothing with
    | true => exact .dry (exec_storesNothing dry).choose_spec
    | false =>
      cases clk : movesClock i with
      | true => exact .clk (exec_movesClock clk).choose_spec
      | false => exact .full (exec_mayStore cell dry clk).choose_spec

theorem exec_next (i : Instr) (s : State) : ∃ e, exec i s = .next { s with dev := e } := by
  cases exec_answers i with
  | cell h | dry h | clk h | full h => exact ⟨_, h s⟩

/-- What a command makes of a device does not hang on what waits behind it. -/
theorem exec_device (i : Instr) (d : Dev) : ∃ e, ∀ q, exec i ⟨d, q⟩ = .next ⟨e, q⟩ := by
  obtain ⟨e, run⟩ := exec_next i ⟨d, []⟩
  refine ⟨e, fun q => ?_⟩
  cases exec_answers i with
  | cell h | dry h | clk h | full h => rw [h] at run ⊢; cases run; rfl

/-- A command keeps the counters in their ranges. -/
theorem exec_clockOk {i : Instr} {s t : State} (ok : s.ClockOk) (run : exec i s = .next t) : t.ClockOk := by
  cases exec_answers i with
  | cell h | dry h | full h => injection (h s).symm.trans run with e; subst e; exact ok
  | clk h => exact s.answerClk_clockOk _ ((h s).symm.trans run)

end Sys2Proof.Machine
end

section
/-! ## Steps and queues (spec/95) -/

namespace Sys2Proof.Machine

theorem step_nil (d : Dev) : step ⟨d, []⟩ = .next ⟨d, []⟩ := rfl

theorem step_cons (d : Dev) (c : Instr) (rest : List Instr) : step ⟨d, c :: rest⟩ = exec c ⟨d, rest⟩ := rfl

/-- Settles O1: a step is the command at the front, or none. -/
theorem stepRunsFrontCommand : Obligations.StepRunsFrontCommand :=
  ⟨step_cons, step_nil⟩

/-- Settles O2: each of the four ways of answering is a next state with the queue it found. -/
theorem everyCommandGoesOn : Obligations.EveryCommandGoesOn := by
  intro i s
  obtain ⟨e, run⟩ := exec_next i s
  exact ⟨e, run, trivial⟩

/-- Settles O3, by induction on the commands: the first makes the same of the device whatever waits behind it. -/
theorem queueDrainsInOrder : Obligations.QueueDrainsInOrder := by
  intro cs rest d
  induction cs generalizing d with
  | nil => exact ⟨d, rfl, rfl⟩
  | cons c cs ih =>
    obtain ⟨d', run⟩ := exec_device c d
    obtain ⟨e, steps, all⟩ := ih d'
    refine ⟨e, ?_, ?_⟩
    · simp only [List.length_cons, List.cons_append, stepN, step_cons, run, steps]
    · simp only [execAll, run, all]

theorem step_clockOk {s t : State} (ok : s.ClockOk) (run : step s = .next t) : t.ClockOk := by
  obtain ⟨d, queue⟩ := s
  cases queue with
  | nil => injection run with e; subst e; exact ok
  | cons c rest => exact exec_clockOk (s := ⟨d, rest⟩) ok run

theorem stepN_clockOk (n : Nat) {s t : State} (ok : s.ClockOk) (run : stepN n s = .next t) : t.ClockOk := by
  induction n generalizing s with
  | zero => injection run with e; subst e; exact ok
  | succ n ih =>
    rw [stepN] at run
    split at run
    case h_1 u one => exact ih (step_clockOk ok one) run
    all_goals cases run

/-- Settles O4: every step keeps the ranges, so every run does. -/
theorem clockInvariant : Obligations.ClockInvariant :=
  ⟨fun _ _ ok run => step_clockOk ok run, fun n _ _ ok run => stepN_clockOk n ok run⟩

/-- Settles O5: both counters are 0 after reset. -/
theorem resetMeetsClockInvariant : Obligations.ResetMeetsClockInvariant :=
  ⟨by decide, by decide⟩

/-- Settles O8: the parts that an answer puts back, and the two answers that put memory and the counters back. -/
theorem commandsFrame : Obligations.CommandsFrame := by
  constructor
  · intro i s cell
    obtain ⟨f, h⟩ := exec_ofCell cell
    refine ⟨_, h s, fun p hp => ?_⟩
    simp only [List.mem_cons, List.not_mem_nil, or_false] at hp
    rcases hp with rfl | rfl | rfl | rfl | rfl | rfl | rfl | rfl | rfl | rfl | rfl | rfl | rfl | rfl | rfl | rfl <;> rfl
  · rintro i s (cell | dry)
    · obtain ⟨f, h⟩ := exec_ofCell cell
      exact ⟨_, h s, fun _ => rfl, rfl⟩
    · obtain ⟨f, h⟩ := exec_storesNothing dry
      exact ⟨_, h s, fun _ => rfl, rfl⟩

end Sys2Proof.Machine
end

section
/-! ## A module without power, held in reset or still starting (R13, R475, R531) -/

namespace Sys2Proof.Machine

section
variable {d : Dev} (dark : d.dark = true)
include dark

theorem Dev.live_dark (f : Dev → Dev) : d.live f = d := by simp [Dev.live, dark]

theorem Dev.liveIf_dark (c : Bool) (f : Dev → Dev) : d.liveIf c f = d := by simp [Dev.liveIf, dark]

theorem Dev.up_dark (f : Dev → Dev) : d.up f = d := by simp [Dev.up, dark]

theorem Dev.online_dark (r : Requester) : d.online r = false := by simp [Dev.online, dark]

theorem Dev.reached_dark (r : Requester) (ix : Nat) (f : Dev → Dev) : d.reached r ix f = d := by
  simp [Dev.reached, Dev.when, Dev.online_dark dark]

theorem Dev.reachedFull_dark (r : Requester) (f : Dev → Dev) : d.reachedFull r f = d := by
  simp [Dev.reachedFull, Dev.when, Dev.online_dark dark]

theorem Dev.ringThere_dark (i : Nat) : d.ringThere i = false := by simp [Dev.ringThere, dark, Dev.online_dark dark]

theorem Dev.barThere_dark : d.barThere = false := by simp [Dev.barThere, dark]

theorem Dev.registerWrite_dark (r : Requester) (p : RegPlace) (data : Bytes) : d.registerWrite r p data = d := by
  cases p with
  | entry ix sub => exact Dev.reached_dark dark r ix _
  | bar0 off => simp [Dev.registerWrite, Dev.barWrite, Dev.barThere_dark dark]
  | hartRing h off => simp [Dev.registerWrite, Dev.ringReg, Dev.ringThere_dark dark]

theorem Dev.sampleInstant_dark (x : SampleIn) : d.sampleInstant x = d := if_pos dark

end

/-- What a meaning does to a device without power or held in reset: nothing. -/
def InertDark (f : Dev → Dev) : Prop := ∀ d : Dev, d.dark = true → f d = d

theorem exec_ofCell_dark {i : Instr} (h : i.ofCell = true) : ∃ f, (∀ s, exec i s = s.answerCell f) ∧ InertDark f := by
  unfold exec
  cases i <;> cases h <;> refine ⟨_, fun _ => rfl, fun d dark => ?_⟩ <;>
    simp [Dev.live_dark dark, Dev.liveIf_dark dark, Dev.up_dark dark, Dev.upIf, Dev.reachedFull_dark dark, Dev.ringTail,
      Dev.ringSize, Dev.ringRspHead, Dev.ringThere_dark dark]

theorem exec_storesNothing_dark {i : Instr} (h : i.storesNothing = true) (supply : i.ofSupply = false) :
    ∃ f, (∀ s, exec i s = s.answerDry f) ∧ InertDark f := by
  unfold exec
  cases i <;> cases h <;> cases supply <;> refine ⟨_, fun _ => rfl, fun d dark => ?_⟩ <;>
    simp [Dev.live_dark dark, Dev.liveIf_dark dark, Dev.up_dark dark, Dev.upIf, Dev.reached_dark dark, Dev.reachedFull_dark dark]

theorem exec_movesClock_dark {i : Instr} (h : movesClock i = true) (supply : i.ofSupply = false) :
    ∃ f, (∀ s, exec i s = s.answerClk f) ∧ InertDark f := by
  unfold exec
  cases i <;> cases h <;> cases supply <;> refine ⟨_, fun _ => rfl, fun d dark => ?_⟩ <;>
    simp [Dev.live_dark dark, Dev.liveIf_dark dark, Dev.up_dark dark, Dev.reached_dark dark, Dev.sampleInstant_dark dark,
      Dev.registerWrite_dark dark, Dev.udpDatagram, Dev.online_dark dark, Dev.ringFetch, Dev.ringThere_dark dark]

theorem exec_mayStore_dark {i : Instr} (cell : i.ofCell = false) (dry : i.storesNothing = false) (clk : movesClock i = false) :
    ∃ f, (∀ s, exec i s = s.answer f) ∧ InertDark f := by
  unfold exec
  cases i <;> cases cell <;> cases dry <;> cases clk <;> refine ⟨_, fun _ => rfl, fun d dark => ?_⟩ <;>
    simp [Dev.live_dark dark, Dev.liveIf_dark dark, Dev.up_dark dark, Dev.upIf, Dev.reached_dark dark]

/-- A module without power or held in reset stays as it is under every command but those of the supplies and of the test port. -/
theorem exec_of_dark {i : Instr} {s : State} (dark : s.dev.dark = true) (ok : s.ClockOk) (supply : i.ofSupply = false) :
    exec i s = .next { s with dev := s.found } := by
  cases cell : i.ofCell with
  | true =>
    obtain ⟨f, h, inert⟩ := exec_ofCell_dark cell
    exact (h s).trans (s.answerCell_same (inert s.found dark))
  | false =>
    cases dry : i.storesNothing with
    | true =>
      obtain ⟨f, h, inert⟩ := exec_storesNothing_dark dry supply
      exact (h s).trans (s.answerDry_same (inert s.found dark))
    | false =>
      cases clk : movesClock i with
      | true =>
        obtain ⟨f, h, inert⟩ := exec_movesClock_dark clk supply
        exact (h s).trans (s.answerClk_same ok (inert s.found dark))
      | false =>
        obtain ⟨f, h, inert⟩ := exec_mayStore_dark cell dry clk
        exact (h s).trans (s.answer_same (inert s.found dark))

theorem Dev.up_starting {d : Dev} (starting : d.state < DevState.config) (f : Dev → Dev) : d.up f = d := by
  have early : ¬DevState.config ≤ d.state := by omega
  simp [Dev.up, early]

/-! A row that writes a register without naming a requester does so past the start alone. -/

theorem exec_registerRow_ofCell {i : Instr} (row : i.registerRow = true) (h : i.ofCell = true) :
    ∃ f, ∀ s, exec i s = s.answerCell fun d => d.up f := by
  unfold exec
  cases i <;> cases row <;> cases h <;> exact ⟨_, fun _ => rfl⟩

theorem exec_registerRow_storesNothing {i : Instr} (row : i.registerRow = true) (h : i.storesNothing = true) :
    ∃ f, ∀ s, exec i s = s.answerDry fun d => d.up f := by
  unfold exec
  cases i <;> cases row <;> cases h <;> exact ⟨_, fun _ => rfl⟩

theorem exec_registerRow_movesClock {i : Instr} (row : i.registerRow = true) (h : movesClock i = true) :
    ∃ f, ∀ s, exec i s = s.answerClk fun d => d.up f := by
  unfold exec
  cases i <;> cases row <;> cases h <;> exact ⟨_, fun _ => rfl⟩

theorem exec_registerRow_mayStore {i : Instr} (row : i.registerRow = true) (cell : i.ofCell = false) (dry : i.storesNothing = false)
    (clk : movesClock i = false) : ∃ f, ∀ s, exec i s = s.answer fun d => d.up f := by
  unfold exec
  cases i <;> cases row <;> cases cell <;> cases dry <;> cases clk
  exact ⟨_, fun _ => rfl⟩

theorem exec_of_starting {i : Instr} {s : State} (starting : s.dev.state < DevState.config) (ok : s.ClockOk)
    (row : i.registerRow = true) : exec i s = .next { s with dev := s.found } := by
  have inert (f : Dev → Dev) : s.found.up f = s.found := Dev.up_starting (d := s.found) starting f
  cases cell : i.ofCell with
  | true =>
    obtain ⟨f, h⟩ := exec_registerRow_ofCell row cell
    exact (h s).trans (s.answerCell_same (inert f))
  | false =>
    cases dry : i.storesNothing with
    | true =>
      obtain ⟨f, h⟩ := exec_registerRow_storesNothing row dry
      exact (h s).trans (s.answerDry_same (inert f))
    | false =>
      cases clk : movesClock i with
      | true =>
        obtain ⟨f, h⟩ := exec_registerRow_movesClock row clk
        exact (h s).trans (s.answerClk_same ok (inert f))
      | false =>
        obtain ⟨f, h⟩ := exec_registerRow_mayStore row cell dry clk
        exact (h s).trans (s.answer_same (inert f))

/-- Settles O7: the guards with which the meanings begin, for each way of answering. -/
theorem darkOrStartingModuleStands : Obligations.DarkOrStartingModuleStands :=
  ⟨fun _ _ => exec_of_dark, fun _ _ => exec_of_starting⟩

end Sys2Proof.Machine
end

section
/-! ## Registers, the log and reset -/

namespace Sys2Proof.Machine

/-- Settles O9: reading at the key written, at another key, and the frame. -/
theorem registerReadAfterWrite : Obligations.RegisterReadAfterWrite :=
  fun d k _ v => ⟨d.reg_set_same k v, d.reg_set_other v, d.keeps_set k v⟩

theorem odType_nextSeq : odType Reg.R1003_NEXT_SEQ = .u32 := by decide +kernel

theorem odType_logWrapped : odType Reg.R1003_LOG_WRAPPED = .bool := by decide +kernel

/-- The record a code raised now enters in the log (R459). -/
def Dev.recordOf (d : Dev) (code kind subject reaction detail : Nat) : LogRec :=
  { seq := d.nat Reg.R1003_NEXT_SEQ, code, kind, subject, cycle := d.cycle, tick := d.clk.tick, reaction,
    nt := ns40 (d.ntAt (d.clk.raw + d.ph.off)), detail }

/-- The device whose log holds a further record, the oldest giving way, and that says so in EVENT. -/
def Dev.logged (d : Dev) (r : LogRec) : Dev :=
  { d with log := (if decide (256 ≤ d.log.length) then d.log.drop 1 else d.log) ++ [r], event := d.event ||| 2 }

section
variable (d : Dev) (code kind subject reaction detail : Nat)

/-- The device that has logged a code, before NEXT_SEQ moves on. -/
def Dev.raising : Dev :=
  ((d.logged (d.recordOf code kind subject reaction detail)).when (decide (256 ≤ d.log.length)) fun d =>
    d.set Reg.R1003_LOG_WRAPPED 1)

/-- A code raised writes the record, then the log's entries. -/
theorem Dev.raise_eq : d.raise code kind subject reaction detail =
    let e := (d.raising code kind subject reaction detail).when ((d.raising code kind subject reaction detail).criticalFault code)
      fun d => d.set Reg.R6020_CONFIRM_CYCLES 0
    e.set Reg.R1003_NEXT_SEQ (e.reg Reg.R1003_NEXT_SEQ + 1) := rfl

theorem Dev.when_set_keeps (c : Bool) (k : Nat) (v : Int) :
    (d.when c fun d => d.set k v).log = d.log ∧ (d.when c fun d => d.set k v).event = d.event := by
  cases c <;> exact ⟨rfl, rfl⟩

theorem Dev.reg_when_set (c : Bool) {k j : Nat} (v : Int) (h : j ≠ k) : (d.when c fun d => d.set k v).reg j = d.reg j := by
  cases c
  · rfl
  · exact d.reg_set_other v h

theorem Dev.log_raise : (d.raise code kind subject reaction detail).log =
    (if d.log.length < 256 then d.log else d.log.drop 1) ++ [d.recordOf code kind subject reaction detail] := by
  simp only [Dev.raise_eq, Dev.set_keeps, Dev.when_set_keeps, Dev.raising, Dev.logged]
  by_cases h : d.log.length < 256
  · simp [h]
  · simp [h, Nat.le_of_not_lt h]

theorem Dev.event_raise : (d.raise code kind subject reaction detail).event = d.event ||| 2 := by
  simp only [Dev.raise_eq, Dev.set_keeps, Dev.when_set_keeps, Dev.raising, Dev.logged]

theorem Dev.nextSeq_raise :
    (d.raise code kind subject reaction detail).reg Reg.R1003_NEXT_SEQ = (d.reg Reg.R1003_NEXT_SEQ + 1) % 2 ^ 32 := by
  rw [Dev.raise_eq, Dev.reg_set_same, odType_nextSeq, Dev.reg_when_set _ _ _ (by decide), Dev.raising,
    Dev.reg_when_set _ _ _ (by decide)]
  rfl

theorem Dev.logWrapped_raise (full : 256 ≤ d.log.length) :
    (d.raise code kind subject reaction detail).reg Reg.R1003_LOG_WRAPPED = 1 := by
  rw [Dev.raise_eq, Dev.reg_set_other _ _ (by decide), Dev.reg_when_set _ _ _ (by decide), Dev.raising, Dev.when,
    if_pos (decide_eq_true full), Dev.reg_set_same, odType_logWrapped]
  rfl

end

/-- Settles O10: the record, the log's entries, EVENT and the frame of a code raised. -/
theorem raisedCodeIsLogged : Obligations.RaisedCodeIsLogged := by
  intro d code kind subject reaction detail
  refine ⟨⟨_, d.log_raise .., rfl, rfl, rfl, rfl, rfl, rfl, rfl, rfl⟩, d.nextSeq_raise .., fun full => d.logWrapped_raise _ _ _ _ _ full,
    ?_, d.keeps_raise _ _ _ _ _, d.keepsRegs_raise _ _ _ _ _⟩
  rw [Dev.event_raise, Nat.testBit_or]
  exact Bool.or_true _

/-- Settles O6: the default of every entry named, and the empty records. -/
theorem resetLeaves : Obligations.ResetLeaves := by
  refine ⟨rfl, by decide +kernel, rfl, rfl, rfl, by decide +kernel, by decide +kernel, fun e he => ?_, fun r => ⟨rfl, rfl⟩,
    by decide +kernel, rfl, rfl⟩
  refine ⟨?_, rfl, rfl, rfl, fun i => ⟨rfl, rfl⟩, rfl, rfl⟩
  revert e
  decide +kernel

end Sys2Proof.Machine
end

/-! # The analysis engines: moves, lanes, shifts and predicates (R227 to R233, R237, R238) -/

section
/-! ## Lanes put into a word and read back (R228) -/

namespace Sys2Proof.Machine

/-- A field of `w` bits is read from the low bits of a number. -/
theorem wrapBits_mod (w n : Nat) : wrapBits w ((n % 2 ^ w : Nat) : Int) = wrapBits w n := by
  unfold wrapBits
  push_cast
  exact_mod_cast Int.emod_bmod (n : Int) (2 ^ w)

theorem wrapBits_wrapBits (w : Nat) (x : Int) : wrapBits w (wrapBits w x) = wrapBits w x := Int.bmod_bmod

theorem toU_wrapBits (w : Nat) (x : Int) : toU w (wrapBits w x) = toU w x := by
  unfold toU wrapBits
  congr 1
  exact_mod_cast Int.bmod_emod (x := x) (m := 2 ^ w)

/-- A number within a field is its own two's complement number. -/
theorem toU_natCast {w n : Nat} (h : n < 2 ^ w) : toU w n = n := by
  have narrowed : ((n : Int) % 2 ^ w) = n := by exact_mod_cast congrArg Nat.cast (Nat.mod_eq_of_lt h)
  rw [toU, narrowed, Int.toNat_natCast]

theorem putLanes_cons (ty : Nat) (a : Int) (ls : List Int) :
    putLanes ty (a :: ls) = putLanes ty ls * 2 ^ laneWidth ty + toU (laneWidth ty) a := by
  simp [putLanes]

theorem putLanes_lt (ty : Nat) (ls : List Int) : putLanes ty ls < 2 ^ (laneWidth ty * ls.length) := by
  induction ls with
  | nil => simp [putLanes]
  | cons a ls ih =>
    have low := toU_lt (laneWidth ty) a
    rw [putLanes_cons, List.length_cons, Nat.mul_add_one, Nat.pow_add]
    nlinarith

/-- Lane `k` of a word made of lanes. -/
theorem wrapBits_lane_putLanes (ty : Nat) (ls : List Int) (k : Nat) (h : k < ls.length) :
    wrapBits (laneWidth ty) ((putLanes ty ls / 2 ^ (laneWidth ty * k) : Nat) : Int) = wrapBits (laneWidth ty) ls[k] := by
  induction ls generalizing k with
  | nil => simp at h
  | cons a ls ih =>
    have low := toU_lt (laneWidth ty) a
    rw [putLanes_cons]
    cases k with
    | zero =>
      rw [Nat.mul_zero, Nat.pow_zero, Nat.div_one, ← wrapBits_mod, Nat.mul_add_mod_self_right, Nat.mod_eq_of_lt low, wrapBits_toU]
      rfl
    | succ k =>
      have above : (putLanes ty ls * 2 ^ laneWidth ty + toU (laneWidth ty) a) / 2 ^ laneWidth ty = putLanes ty ls := by
        rw [Nat.mul_comm, Nat.mul_add_div (by positivity), Nat.div_eq_of_lt low, Nat.add_zero]
      rw [Nat.mul_add_one, Nat.add_comm (_ * k), Nat.pow_add, ← Nat.div_div_eq_div_mul, above]
      exact ih k (by simpa using h)

theorem laneWidth_mul_laneCount (ty : Nat) : laneWidth ty * laneCount ty = 64 := by
  match ty with
  | 0 | 1 | _ + 2 => rfl

theorem laneWidth_pos (ty : Nat) : 0 < laneWidth ty := by
  match ty with
  | 0 | 1 | _ + 2 => exact Nat.succ_pos _

@[simp] theorem length_getLanes (ty v : Nat) : (getLanes ty v).length = laneCount ty := by simp [getLanes]

/-- Lanes put into a word of 64 bits read back, each wrapped to its width. -/
theorem getLanes_putLanes {ty : Nat} {ls : List Int} (h : ls.length = laneCount ty) :
    getLanes ty (putLanes ty ls % 2 ^ 64) = ls.map (wrapBits (laneWidth ty)) := by
  have room : putLanes ty ls < 2 ^ 64 := by
    have lt := putLanes_lt ty ls
    rwa [h, laneWidth_mul_laneCount] at lt
  rw [Nat.mod_eq_of_lt room]
  refine List.ext_getElem (by simp [h]) fun k hk hk' => ?_
  have hk : k < ls.length := by simpa using hk'
  simpa [getLanes] using wrapBits_lane_putLanes ty ls k hk

/-- A lane's result fits its lane. -/
theorem wrapBits_laneStore (ty : Nat) (x : Int) : wrapBits (laneWidth ty) (laneStore ty x).1 = (laneStore ty x).1 := by
  unfold laneStore
  split
  next h => subst h; exact wrapBits_wrapBits 64 x
  next h => exact wrapBits_satBits (laneWidth_pos ty) x

/-- Every lane of a word lies in its two's complement range. -/
theorem wrapBits_getLanes {ty v : Nat} {a : Int} (h : a ∈ getLanes ty v) : wrapBits (laneWidth ty) a = a := by
  obtain ⟨k, -, rfl⟩ := List.mem_map.1 h
  exact wrapBits_wrapBits _ _

end Sys2Proof.Machine
end

section
/-! ## Instructions that write data registers -/

namespace Sys2Proof.Machine

/-- The engine with the lanes of `rs` in a data register, SAT set where one saturated. -/
def Ae.putResults (x : Ae) (ty i : Nat) (rs : List (Int × Bool)) : Ae :=
  (x.setD i (putLanes ty (rs.map (·.1)))).sticky 0 (rs.any (·.2))

/-- A data register written, and nothing else. -/
theorem Ae.setD_writes (x : Ae) (i v : Nat) :
    x.Goes (x.begun.setD i v).next ∧ x.Keeps (x.begun.setD i v).next [.data] ∧ x.KeepsData (x.begun.setD i v).next [i] ∧
    (x.begun.setD i v).next.D i = v % 2 ^ 64 := by
  refine ⟨⟨rfl, rfl⟩, ⟨rfl, fun p hp => ?_⟩, fun j hj => ?_, ?_⟩
  · cases p with
    | data => simp at hp
    | mem | addr => exact ⟨rfl, rfl, by simp [Ae.begun, Ae.setD, Ae.next]⟩
    | _ => rfl
  · rw [Ae.D_next, Ae.D_setD, if_neg (by simpa using hj)]; rfl
  · rw [Ae.D_next, Ae.D_setD, if_pos rfl]

theorem Ae.putResults_writes (x : Ae) {ty : Nat} (i : Nat) {rs : List (Int × Bool)} (len : rs.length = laneCount ty)
    (fit : ∀ r ∈ rs, wrapBits (laneWidth ty) r.1 = r.1) :
    x.Goes (x.begun.putResults ty i rs).next ∧ x.Keeps (x.begun.putResults ty i rs).next [.data, .sr] ∧
    x.KeepsData (x.begun.putResults ty i rs).next [i] ∧
    getLanes ty ((x.begun.putResults ty i rs).next.D i) = rs.map (·.1) ∧
    x.Sticks (x.begun.putResults ty i rs).next 0 (rs.any (·.2)) := by
  let z := x.begun.setD i (putLanes ty (rs.map (·.1)))
  obtain ⟨goes, keeps, sticks⟩ := Ae.writesData (x := x) (z := z) (rs.any (·.2)) rfl
  refine ⟨goes, keeps, fun j hj => ?_, ?_, sticks⟩
  · rw [Ae.D_next, Ae.putResults, Ae.D_sticky, Ae.D_setD, if_neg (by simpa using hj)]; rfl
  · rw [Ae.D_next, Ae.putResults, Ae.D_sticky, Ae.D_setD, if_pos rfl, getLanes_putLanes (by simpa using len), List.map_map]
    exact List.map_congr_left fit

/-- The results of an operation on every lane of one register. -/
theorem laneResults_fit (ty v : Nat) (f : Int → Int) :
    ((getLanes ty v).map fun a => laneStore ty (f a)).length = laneCount ty ∧
    ∀ r ∈ (getLanes ty v).map fun a => laneStore ty (f a), wrapBits (laneWidth ty) r.1 = r.1 := by
  refine ⟨by simp, fun r hr => ?_⟩
  obtain ⟨a, -, rfl⟩ := List.mem_map.1 hr
  exact wrapBits_laneStore ty _

theorem bits_lt (v hi lo : Nat) : bits v hi lo < 2 ^ (hi + 1 - lo) := Nat.mod_lt _ (by positivity)

/-- Every element of a zip is made of an element of each list. -/
theorem forall_mem_zipWith {α β γ : Type} {p : γ → Prop} {f : α → β → γ} (h : ∀ a b, p (f a b)) (l : List α) (m : List β) :
    ∀ r ∈ List.zipWith f l m, p r := by
  intro r hr
  obtain ⟨k, hk, rfl⟩ := List.mem_iff_getElem.1 hr
  rw [List.getElem_zipWith]
  exact h _ _

section
variable {i : Instr} {e op : Nat} {s : State}

/-- An operation on every lane of one register. -/
theorem AeDoes.of_lanes1 (f : Int → Int)
    (hi : exec i s = s.answerCell fun d => d.liveIf (e < 2) fun d => d.aeData e op (lanes1 f)) (t : aeLegal.contains op = true) :
    AeDoes i e op s (fun w _ => fty w ≠ 3) fun w x y =>
      let rs := (getLanes (fty w) (x.D (fs w))).map fun a => laneStore (fty w) (f a)
      x.Goes y ∧ x.Keeps y [.data, .sr] ∧ x.KeepsData y [fd w] ∧ getLanes (fty w) (y.D (fd w)) = rs.map (·.1) ∧
      x.Sticks y 0 (rs.any (·.2)) := by
  refine AeDoes.of_data _ hi t fun w x ty => ⟨_, if_neg ty, ?_⟩
  obtain ⟨len, fit⟩ := laneResults_fit (fty w) (x.D (fs w)) f
  exact x.putResults_writes (fd w) len fit

/-- An operation on every lane of two registers. -/
theorem AeDoes.of_bothLanes (f : Int → Int → Int)
    (hi : exec i s = s.answerCell fun d => d.liveIf (e < 2) fun d => d.aeData e op (bothLanes f)) (t : aeLegal.contains op = true) :
    AeDoes i e op s (fun w _ => fty w ≠ 3) fun w x y =>
      let rs := List.zipWith (fun a b => laneStore (fty w) (f a b)) (getLanes (fty w) (x.D (fs w))) (getLanes (fty w) (x.D (ft w)))
      x.Goes y ∧ x.Keeps y [.data, .sr] ∧ x.KeepsData y [fd w] ∧ getLanes (fty w) (y.D (fd w)) = rs.map (·.1) ∧
      x.Sticks y 0 (rs.any (·.2)) := by
  refine AeDoes.of_data _ hi t fun w x ty => ⟨_, if_neg ty, ?_⟩
  exact x.putResults_writes (fd w) (by simp) (forall_mem_zipWith (fun a b => wrapBits_laneStore (fty w) (f a b)) _ _)

/-- A bit operation on two registers. -/
theorem AeDoes.of_bitwise (f : Nat → Nat → Nat) (g : Bool → Bool → Bool) (fg : ∀ a b i, (f a b).testBit i = g (a.testBit i) (b.testBit i))
    (hi : exec i s = s.answerCell fun d => d.liveIf (e < 2) fun d => d.aeData e op fun w x =>
      .ok (x.setD (fd w) (f (x.D (fs w)) (x.D (ft w))))) (t : aeLegal.contains op = true) :
    AeDoes i e op s (fun _ _ => True) fun w x y => x.Goes y ∧ x.Keeps y [.data] ∧ x.KeepsData y [fd w] ∧
      ∀ i < 64, (y.D (fd w)).testBit i = g ((x.D (fs w)).testBit i) ((x.D (ft w)).testBit i) := by
  refine AeDoes.of_data _ hi t fun w x _ => ⟨_, rfl, ?_⟩
  obtain ⟨goes, keeps, data, value⟩ := x.setD_writes (fd w) (f (x.D (fs w)) (x.D (ft w)))
  refine ⟨goes, keeps, data, fun i hi => ?_⟩
  rw [← fg, ← Bool.true_and ((f _ _).testBit i), ← decide_eq_true hi, ← Nat.testBit_mod_two_pow]
  exact congrArg (Nat.testBit · i) value

end

end Sys2Proof.Machine
end

section
/-! ## Moves, logic and lane arithmetic (R228, R230, R238) -/

namespace Sys2Proof.Machine

/-- The value LDI makes of its immediate: sign-extended where asked for, and shifted by whole fields of 16 bits. -/
theorem toU_ldi {imm k : Nat} (h : imm < 2 ^ 16) (hk : k < 4) (signed : Bool) :
    toU 64 ((if signed then wrapBits 16 (imm : Int) else (imm : Int)) * 2 ^ (16 * k)) =
      (imm + (if signed ∧ imm.testBit 15 then 2 ^ 64 - 2 ^ 16 else 0)) * 2 ^ (16 * k) % 2 ^ 64 := by
  have top : imm.testBit 15 = true ↔ 2 ^ 15 ≤ imm := by
    rw [Nat.testBit_eq_decide_div_mod_eq, decide_eq_true_eq]; omega
  have ext : wrapBits 16 (imm : Int) = if imm.testBit 15 then (imm : Int) - 2 ^ 16 else (imm : Int) := by
    rw [wrapBits, Int.bmod_def]
    by_cases h : imm.testBit 15 = true
    · have := top.1 h; rw [if_pos h]; split_ifs <;> omega
    · have := mt top.2 h; rw [if_neg h]; split_ifs <;> omega
  unfold toU
  rw [ext]
  cases signed <;> cases imm.testBit 15 <;> match k, hk with
    | 0, _ | 1, _ | 2, _ | 3, _ => simp; omega

/-- Settles O11: each instruction by what it writes. -/
theorem aeMovesAndLanes : Obligations.AeMovesAndLanes := by
  have abs_eq : (fun a : Int => |a|) = fun a => if a < 0 then -a else a := by
    funext a; split
    next h => exact abs_of_neg h
    next h => exact abs_of_nonneg (not_lt.1 h)
  have max_eq : (max : Int → Int → Int) = fun a b => if a < b then b else a := by
    funext a b; rw [max_def]; split_ifs <;> omega
  have min_eq : (min : Int → Int → Int) = fun a b => if b < a then b else a := by
    funext a b; rw [min_def]; split_ifs <;> omega
  refine ⟨fun e s => ⟨?_, ?_, ?_, ?_, ?_, ?_⟩, ?_, ?_, ?_, ?_, ?_, ?_⟩
  · refine AeDoes.of_data _ rfl rfl fun w x _ => ⟨_, rfl, ⟨rfl, rfl⟩, rfl, fun p _ => ?_⟩
    cases p with
    | mem | addr => exact ⟨rfl, rfl, rfl⟩
    | _ => rfl
  · refine AeDoes.of_data _ rfl rfl fun w x _ => ⟨_, rfl, ?_⟩
    obtain ⟨goes, keeps, data, value⟩ := x.setD_writes (bits w 22 19) _
    refine ⟨goes, keeps, data, value.trans ?_⟩
    rw [Nat.mod_eq_of_lt (toU_lt 64 _)]
    exact toU_ldi (bits_lt w 15 0) (bits_lt w 18 17) (w.testBit 16)
  · refine AeDoes.of_data _ rfl rfl fun w x ty => ⟨_, if_neg ty, ?_⟩
    exact x.setD_writes (fd w) (x.D (fs w))
  · exact AeDoes.of_bitwise (· &&& ·) (· && ·) Nat.testBit_and rfl rfl
  · exact AeDoes.of_bitwise (· ||| ·) (· || ·) Nat.testBit_or rfl rfl
  · exact AeDoes.of_bitwise (· ^^^ ·) (· != ·) Nat.testBit_xor rfl rfl
  · exact fun e s => AeDoes.of_bothLanes _ rfl rfl
  · exact fun e s => AeDoes.of_bothLanes _ rfl rfl
  · exact fun e s => AeDoes.of_lanes1 _ rfl rfl
  · exact fun e s => AeDoes.of_lanes1 _ (abs_eq ▸ rfl) rfl
  · exact fun e s => AeDoes.of_bothLanes _ (max_eq ▸ rfl) rfl
  · exact fun e s => AeDoes.of_bothLanes _ (min_eq ▸ rfl) rfl

end Sys2Proof.Machine
end

section
/-! ## Shifts (R230, R237, R238) -/

namespace Sys2Proof.Machine

/-- A number in the range of a field is itself in it. -/
theorem wrapBits_of_range {w : Nat} (hw : 0 < w) {x : Int} (low : -2 ^ (w - 1) ≤ x) (high : x < 2 ^ (w - 1)) : wrapBits w x = x := by
  obtain ⟨n, rfl⟩ : ∃ n, w = n + 1 := ⟨w - 1, by omega⟩
  rw [Nat.add_sub_cancel] at low high
  have double : ((2 ^ (n + 1) : Nat) : Int) = 2 * 2 ^ n := by push_cast; ring
  exact Int.bmod_eq_of_le_mul_two (by rw [double]; omega) (by rw [double]; omega)

theorem wrapBits_range {w : Nat} (hw : 0 < w) (x : Int) : -2 ^ (w - 1) ≤ wrapBits w x ∧ wrapBits w x < 2 ^ (w - 1) := by
  obtain ⟨n, rfl⟩ : ∃ n, w = n + 1 := ⟨w - 1, by omega⟩
  rw [Nat.add_sub_cancel]
  have double : ((2 ^ (n + 1) : Nat) : Int) = 2 * 2 ^ n := by push_cast; ring
  have pos : 0 < 2 ^ (n + 1) := by positivity
  have low := Int.le_bmod (x := x) pos
  have high := Int.bmod_lt (x := x) pos
  rw [double] at low high
  unfold wrapBits
  omega

/-- A lane of a word lies in its two's complement range. -/
theorem getLanes_range {ty v : Nat} {a : Int} (h : a ∈ getLanes ty v) :
    -2 ^ (laneWidth ty - 1) ≤ a ∧ a < 2 ^ (laneWidth ty - 1) := by
  rw [← wrapBits_getLanes h]
  exact wrapBits_range (laneWidth_pos ty) a

/-- A convergent quotient is no further than a half from the quotient. -/
theorem divConv_near (a : Int) {m : Nat} (hm : 0 < m) : -(m : Int) ≤ 2 * (divConv a m * m - a) ∧ 2 * (divConv a m * m - a) ≤ m := by
  have pos : (0 : Int) < m := by exact_mod_cast hm
  have rest : a - a.fdiv m * m = a.fmod m := by rw [Int.fmod_def, Int.mul_comm]
  have low : 0 ≤ a.fmod m := Int.fmod_nonneg_of_pos a pos
  have high : a.fmod m < m := Int.fmod_lt_of_pos a pos
  have up : (a.fdiv m + 1) * m = a.fdiv m * m + m := by ring
  unfold divConv
  simp only
  split_ifs
  · omega
  · rw [up]; omega
  · omega
  · rw [up]; omega

/-- Convergent rounding stays in a range about 0. -/
theorem shrConv_range {b : Int} (k : Nat) {a : Int} (low : -b ≤ a) (high : a < b) : -b ≤ shrConv a k ∧ shrConv a k < b := by
  have pos : 0 < 2 ^ k := by positivity
  obtain ⟨low', high'⟩ := divConv_near a pos
  have one : (1 : Int) ≤ ((2 ^ k : Nat) : Int) := by exact_mod_cast pos
  change -b ≤ divConv a (2 ^ k) ∧ divConv a (2 ^ k) < b
  generalize divConv a (2 ^ k) = q at low' high' ⊢
  generalize ((2 ^ k : Nat) : Int) = m at low' high' one
  constructor <;> by_contra h <;> nlinarith

theorem fdiv_range {b : Int} (k : Nat) {a : Int} (low : -b ≤ a) (high : a < b) : -b ≤ a.fdiv (2 ^ k) ∧ a.fdiv (2 ^ k) < b := by
  have pos : (0 : Int) < 2 ^ k := by positivity
  have rest : a.fdiv (2 ^ k) * 2 ^ k + a.fmod (2 ^ k) = a := by rw [Int.mul_comm]; exact Int.mul_fdiv_add_fmod a (2 ^ k)
  have zero := Int.fmod_nonneg_of_pos a pos
  have less := Int.fmod_lt_of_pos a pos
  generalize a.fdiv (2 ^ k) = q at rest ⊢
  generalize a.fmod (2 ^ k) = r at rest zero less
  generalize (2 ^ k : Int) = m at pos rest less
  constructor <;> by_contra h <;> nlinarith

/-- The amount of a shift, as its source names it. -/
def shiftAmount (w : Nat) (x : Ae) : Nat := if bits w 2 1 = 0 then bits w 8 3 else if bits w 2 1 = 1 then x.D (ft w) % 64 else x.exp

theorem shiftBy_eq {w : Nat} (x : Ae) (h : bits w 2 1 ≠ 3) : shiftBy w x = some (shiftAmount w x) := by
  have lt : bits w 2 1 < 4 := bits_lt w 2 1
  unfold shiftBy shiftAmount
  generalize bits w 2 1 = src at h lt
  match src, h, lt with
  | 0, _, _ | 1, _, _ | 2, _, _ => rfl
  | n + 3, h, lt => omega

theorem shiftLanes_eq (f : Nat → Nat → Int → Int × Bool) {w : Nat} (x : Ae) (ty : fty w ≠ 3) (src : bits w 2 1 ≠ 3) :
    shiftLanes f w x = .ok (x.putResults (fty w) (fd w) ((getLanes (fty w) (x.D (fs w))).map (f (fty w) (shiftAmount w x)))) := by
  unfold shiftLanes
  rw [shiftBy_eq x src]
  exact if_neg ty

/-- An instruction whose lanes do not saturate leaves SR as it is: its results are those put, each wrapped to its lane. -/
theorem Ae.putResults_unsaturated (x : Ae) {ty : Nat} (i : Nat) (f : Int → Int) {ls : List Int} (len : ls.length = laneCount ty) :
    let y := (x.begun.putResults ty i (ls.map fun a => (f a, false))).next
    x.Goes y ∧ x.Keeps y [.data] ∧ x.KeepsData y [i] ∧ getLanes ty (y.D i) = ls.map fun a => wrapBits (laneWidth ty) (f a) := by
  have plain : x.begun.putResults ty i (ls.map fun a => (f a, false)) = x.begun.setD i (putLanes ty (ls.map f)) := by
    have unsat : ((ls.map fun a => (f a, false)).any (·.2)) = false := by simp
    have all : (ls.map fun a => (f a, false)).map (·.1) = ls.map f := by simp
    rw [Ae.putResults, unsat, all]; rfl
  rw [plain]
  obtain ⟨goes, keeps, data, value⟩ := x.setD_writes i (putLanes ty (ls.map f))
  exact ⟨goes, keeps, data, by rw [value, getLanes_putLanes (by simpa using len), List.map_map]; rfl⟩

theorem aeShl_does (e : Nat) (s : State) :
    AeDoes (.aeShl e) e 0x19 s (fun w _ => fty w ≠ 3 ∧ bits w 2 1 ≠ 3) fun w x y =>
      let rs := (getLanes (fty w) (x.D (fs w))).map fun a => laneStore (fty w) (a * 2 ^ shiftAmount w x)
      x.Goes y ∧ x.Keeps y [.data, .sr] ∧ x.KeepsData y [fd w] ∧ getLanes (fty w) (y.D (fd w)) = rs.map (·.1) ∧
      x.Sticks y 0 (rs.any (·.2)) := by
  refine AeDoes.of_data _ rfl rfl fun w x ⟨ty, src⟩ => ⟨_, shiftLanes_eq _ _ ty src, ?_⟩
  obtain ⟨len, fit⟩ := laneResults_fit (fty w) (x.D (fs w)) fun a => a * 2 ^ shiftAmount w x
  exact x.putResults_writes (fd w) len fit

theorem aeShr_does (e : Nat) (s : State) :
    AeDoes (.aeShr e) e 0x1A s (fun w _ => fty w ≠ 3 ∧ bits w 2 1 ≠ 3) fun w x y =>
      x.Goes y ∧ x.Keeps y [.data] ∧ x.KeepsData y [fd w] ∧
      (getLanes (fty w) (y.D (fd w))).map (toU (laneWidth (fty w))) =
        (getLanes (fty w) (x.D (fs w))).map fun a => toU (laneWidth (fty w)) a / 2 ^ shiftAmount w x := by
  refine AeDoes.of_data _ rfl rfl fun w x ⟨ty, src⟩ => ⟨_, shiftLanes_eq _ _ ty src, ?_⟩
  obtain ⟨goes, keeps, data, lanes⟩ := x.putResults_unsaturated (fd w)
    (fun a => ((toU (laneWidth (fty w)) a / 2 ^ shiftAmount w x : Nat) : Int)) (length_getLanes (fty w) (x.D (fs w)))
  refine ⟨goes, keeps, data, ?_⟩
  refine (congrArg (List.map _) lanes).trans ?_
  rw [List.map_map]
  refine List.map_congr_left fun a _ => ?_
  have room := (Nat.div_le_self (toU (laneWidth (fty w)) a) (2 ^ shiftAmount w x)).trans_lt (toU_lt _ a)
  exact (toU_wrapBits _ _).trans (toU_natCast room)

theorem aeSra_does (e : Nat) (s : State) :
    AeDoes (.aeSra e) e 0x1B s (fun w _ => fty w ≠ 3 ∧ bits w 2 1 ≠ 3) fun w x y =>
      x.Goes y ∧ x.Keeps y [.data] ∧ x.KeepsData y [fd w] ∧
      getLanes (fty w) (y.D (fd w)) = (getLanes (fty w) (x.D (fs w))).map fun a =>
        if w.testBit 0 then shrConv a (shiftAmount w x) else a.fdiv (2 ^ shiftAmount w x) := by
  refine AeDoes.of_data _ rfl rfl fun w x ⟨ty, src⟩ => ⟨_, shiftLanes_eq _ _ ty src, ?_⟩
  obtain ⟨goes, keeps, data, lanes⟩ := x.putResults_unsaturated (fd w)
    (fun a => if w.testBit 0 then shrConv a (shiftAmount w x) else a.fdiv (2 ^ shiftAmount w x)) (length_getLanes (fty w) (x.D (fs w)))
  refine ⟨goes, keeps, data, lanes.trans (List.map_congr_left fun a ha => ?_)⟩
  obtain ⟨low, high⟩ := getLanes_range ha
  split
  · have range := shrConv_range (shiftAmount w x) low high
    exact wrapBits_of_range (laneWidth_pos _) range.1 range.2
  · have range := fdiv_range (shiftAmount w x) low high
    exact wrapBits_of_range (laneWidth_pos _) range.1 range.2

end Sys2Proof.Machine
end

section
/-! ## Bits of a word set and cleared -/

namespace Sys2Proof.Machine

theorem testBit_sub_two_pow_of_set {v i : Nat} (h : v.testBit i = true) (j : Nat) :
    (v - 2 ^ i).testBit j = (v.testBit j && decide (j ≠ i)) := by
  have odd : v / 2 ^ i % 2 = 1 := by simpa [Nat.testBit_eq_decide_div_mod_eq] using h
  have le : 2 ^ i ≤ v := Nat.ge_two_pow_of_testBit h
  have clear : (v - 2 ^ i).testBit i = false := by
    have half : (v - 2 ^ i) / 2 ^ i = v / 2 ^ i - 1 := by simpa using Nat.sub_mul_div v (2 ^ i) 1
    rw [Nat.testBit_eq_decide_div_mod_eq, half, decide_eq_false_iff_not]; omega
  have back := testBit_add_two_pow_of_clear clear j
  rw [Nat.sub_add_cancel le] at back
  by_cases hj : j = i
  · subst hj; simp [clear]
  · simp [back, hj]

theorem testBit_withBit (v i : Nat) (b : Bool) (j : Nat) : (withBit v i b).testBit j = if j = i then b else v.testBit j := by
  unfold withBit
  by_cases same : v.testBit i = b
  · rw [if_pos same]
    split
    next hj => rw [hj, same]
    next => rfl
  · rw [if_neg same]
    cases b with
    | true =>
      rw [if_pos rfl, testBit_add_two_pow_of_clear (by simpa using same)]
      by_cases hj : j = i <;> simp [hj]
    | false =>
      rw [if_neg (by simp), testBit_sub_two_pow_of_set (by simpa using same)]
      by_cases hj : j = i <;> simp [hj]

end Sys2Proof.Machine
end

section
/-! ## Complex lanes, sums and differences (R228, R237, R238) -/

namespace Sys2Proof.Machine

theorem laneStore_sat {ty : Nat} (h : ty ≠ 0) (x : Int) : (laneStore ty x).1 = satBits (laneWidth ty) x := by
  rw [laneStore, if_neg h]

/-- The lanes CONJ and XCH make: the imaginary part of a pair below its real part. -/
def cplxResults (f : Int × Int → Int × Int) (ty v : Nat) : List (Int × Bool) :=
  (List.range (laneCount ty)).map fun k =>
    let r := f ((getLanes ty v).getD (2 * (k / 2) + 1) 0, (getLanes ty v).getD (2 * (k / 2)) 0)
    laneStore ty (if k % 2 = 1 then r.1 else r.2)

theorem cplxResults_getD (f : Int × Int → Int × Int) {ty : Nat} (hty : ty ≠ 0) (v : Nat) {k : Nat} (hk : k < laneCount ty / 2) :
    let r := f ((getLanes ty v).getD (2 * k + 1) 0, (getLanes ty v).getD (2 * k) 0)
    ((cplxResults f ty v).map (·.1)).getD (2 * k + 1) 0 = satBits (laneWidth ty) r.1 ∧
    ((cplxResults f ty v).map (·.1)).getD (2 * k) 0 = satBits (laneWidth ty) r.2 := by
  have odd : (2 * k + 1) / 2 = k := by omega
  have even : 2 * k / 2 = k := by omega
  constructor
  · rw [List.getD_eq_getElem _ _ (by simp [cplxResults]; omega)]
    simp [cplxResults, odd, laneStore_sat hty]
  · rw [List.getD_eq_getElem _ _ (by simp [cplxResults]; omega)]
    simp [cplxResults, even, laneStore_sat hty]

section
variable {i : Instr} {e op : Nat} {s : State}

theorem AeDoes.of_cplxLanes (f : Int × Int → Int × Int)
    (hi : exec i s = s.answerCell fun d => d.liveIf (e < 2) fun d => d.aeData e op (cplxLanes f)) (t : aeLegal.contains op = true) :
    AeDoes i e op s (fun w _ => fty w = 1 ∨ fty w = 2) fun w x y =>
      x.Goes y ∧ x.Keeps y [.data, .sr] ∧ x.KeepsData y [fd w] ∧
      ∀ k < laneCount (fty w) / 2,
        let at_ (v j : Nat) : Int := (getLanes (fty w) v).getD j 0
        at_ (y.D (fd w)) (2 * k + 1) =
          satBits (laneWidth (fty w)) (f (at_ (x.D (fs w)) (2 * k + 1), at_ (x.D (fs w)) (2 * k))).1 ∧
        at_ (y.D (fd w)) (2 * k) =
          satBits (laneWidth (fty w)) (f (at_ (x.D (fs w)) (2 * k + 1), at_ (x.D (fs w)) (2 * k))).2 := by
  refine AeDoes.of_data _ hi t fun w x ty => ⟨_, if_neg (by omega), ?_⟩
  obtain ⟨goes, keeps, data, lanes, -⟩ := x.putResults_writes (ty := fty w) (rs := cplxResults f (fty w) (x.D (fs w))) (fd w)
    (by simp [cplxResults]) fun r hr => by
      obtain ⟨k, -, rfl⟩ := List.mem_map.1 hr
      exact wrapBits_laneStore (fty w) _
  refine ⟨goes, keeps, data, fun k hk => ?_⟩
  have parts := cplxResults_getD f (ty := fty w) (by omega) (x.D (fs w)) hk
  rw [← lanes] at parts
  exact parts

end

/-- The results of ADDSUB, halved with H. -/
def addsubLane (w : Nat) (v : Int) : Int × Bool := if w.testBit 8 then narrowBy (laneWidth (fty w)) 1 v else laneStore (fty w) v

theorem wrapBits_addsubLane (w : Nat) (v : Int) : wrapBits (laneWidth (fty w)) (addsubLane w v).1 = (addsubLane w v).1 := by
  unfold addsubLane
  split
  · exact wrapBits_narrowBy (laneWidth_pos _) 1 v
  · exact wrapBits_laneStore _ v

theorem aeAddsub_does (e : Nat) (s : State) : AeDoes (.aeAddsub e) e 0x1E s (fun w _ => fty w ≠ 3 ∧ fd w % 2 = 0) fun w x y =>
    let p := List.zipWith (fun a b => addsubLane w (a + b)) (getLanes (fty w) (x.D (fs w))) (getLanes (fty w) (x.D (ft w)))
    let m := List.zipWith (fun a b => addsubLane w (a - b)) (getLanes (fty w) (x.D (fs w))) (getLanes (fty w) (x.D (ft w)))
    x.Goes y ∧ x.Keeps y [.data, .sr] ∧ x.KeepsData y [fd w, fd w + 1] ∧ getLanes (fty w) (y.D (fd w)) = p.map (·.1) ∧
    getLanes (fty w) (y.D (fd w + 1)) = m.map (·.1) ∧ x.Sticks y 0 (p.any (·.2) || m.any (·.2)) := by
  refine AeDoes.of_data _ rfl rfl fun w x ⟨ty, even⟩ => ?_
  let p := List.zipWith (fun a b => addsubLane w (a + b)) (getLanes (fty w) (x.D (fs w))) (getLanes (fty w) (x.D (ft w)))
  let m := List.zipWith (fun a b => addsubLane w (a - b)) (getLanes (fty w) (x.D (fs w))) (getLanes (fty w) (x.D (ft w)))
  let z := (x.begun.setD (fd w) (putLanes (fty w) (p.map (·.1)))).setD (fd w + 1) (putLanes (fty w) (m.map (·.1)))
  refine ⟨z.sticky 0 (p.any (·.2) || m.any (·.2)), if_neg (by omega), ?_⟩
  obtain ⟨goes, keeps, sticks⟩ := Ae.writesData (x := x) (z := z) (p.any (·.2) || m.any (·.2)) rfl
  have fits (f : Int → Int → Int) : ∀ r ∈ List.zipWith (fun a b => addsubLane w (f a b)) (getLanes (fty w) (x.D (fs w)))
      (getLanes (fty w) (x.D (ft w))), wrapBits (laneWidth (fty w)) r.1 = r.1 :=
    forall_mem_zipWith (fun a b => wrapBits_addsubLane w (f a b)) _ _
  refine ⟨goes, keeps, fun j hj => ?_, ?_, ?_, sticks⟩
  · obtain ⟨h₀, h₁⟩ : j ≠ fd w ∧ j ≠ fd w + 1 := by simpa using hj
    rw [Ae.D_next, Ae.D_sticky, Ae.D_setD, if_neg h₁, Ae.D_setD, if_neg h₀]; rfl
  · rw [Ae.D_next, Ae.D_sticky, Ae.D_setD, if_neg (by omega), Ae.D_setD, if_pos rfl, getLanes_putLanes (by simp [p]), List.map_map]
    exact List.map_congr_left (fits (· + ·))
  · rw [Ae.D_next, Ae.D_sticky, Ae.D_setD, if_pos rfl, getLanes_putLanes (by simp [m]), List.map_map]
    exact List.map_congr_left (fits (· - ·))

end Sys2Proof.Machine
end

section
/-! ## Predicates and the block exponent (R227, R233, R237) -/

namespace Sys2Proof.Machine

/-- A predicate written, and nothing else; predicate 0 never changes. -/
theorem Ae.setPred_writes (x : Ae) (i : Nat) (b : Bool) :
    x.Goes (x.begun.setPred i b).next ∧ x.Keeps (x.begun.setPred i b).next [.cr] ∧
    ∀ j, (x.begun.setPred i b).next.cr.testBit j = if j = i ∧ j ≠ 0 then b else x.cr.testBit j := by
  unfold Ae.setPred
  split
  next h =>
    subst h
    refine ⟨⟨rfl, rfl⟩, ⟨rfl, fun p hp => ?_⟩, fun j => ?_⟩
    · cases p with
      | mem | addr => exact ⟨rfl, rfl, rfl⟩
      | _ => rfl
    · rw [if_neg (by omega)]; rfl
  next h =>
    refine ⟨⟨rfl, rfl⟩, ⟨rfl, fun p hp => ?_⟩, fun j => ?_⟩
    · cases p with
      | cr => simp at hp
      | mem | addr => exact ⟨rfl, rfl, rfl⟩
      | _ => rfl
    · refine (testBit_withBit x.cr i b j).trans ?_
      by_cases hj : j = i
      · rw [if_pos hj, if_pos ⟨hj, hj ▸ h⟩]
      · rw [if_neg hj, if_neg (by tauto)]

theorem aePlog_does (e : Nat) (s : State) : AeDoes (.aePlog e) e 0x1F s (fun _ _ => True) fun w x y =>
    let p := x.cr.testBit (bits w 20 19) != w.testBit 14
    let q := x.cr.testBit (bits w 18 17)
    x.Goes y ∧ x.Keeps y [.cr] ∧
    ∀ i < 4, y.cr.testBit i = if i = bits w 22 21 ∧ i ≠ 0 then
      (match bits w 16 15 with | 0 => p && q | 1 => p || q | 2 => p != q | _ => p && !q) else x.cr.testBit i := by
  refine AeDoes.of_data _ rfl rfl fun w x _ => ⟨_, rfl, ?_⟩
  obtain ⟨goes, keeps, cr⟩ := x.setPred_writes (bits w 22 21)
    (match bits w 16 15 with
      | 0 => (x.cr.testBit (bits w 20 19) != w.testBit 14) && x.cr.testBit (bits w 18 17)
      | 1 => (x.cr.testBit (bits w 20 19) != w.testBit 14) || x.cr.testBit (bits w 18 17)
      | 2 => (x.cr.testBit (bits w 20 19) != w.testBit 14) != x.cr.testBit (bits w 18 17)
      | _ => (x.cr.testBit (bits w 20 19) != w.testBit 14) && !x.cr.testBit (bits w 18 17))
  exact ⟨goes, keeps, fun i _ => cr i⟩

/-- The least of a list and a bound. -/
theorem foldl_min_spec {α : Type} (g : α → Nat) (l : List α) (b : Nat) :
    (l.map g).foldl min b ≤ b ∧ (∀ v ∈ l, (l.map g).foldl min b ≤ g v) ∧
    ((l.map g).foldl min b = b ∨ ∃ v ∈ l, (l.map g).foldl min b = g v) := by
  induction l generalizing b with
  | nil => simp
  | cons a l ih =>
    obtain ⟨least, each, one⟩ := ih (min b (g a))
    simp only [List.map_cons, List.foldl_cons, List.mem_cons, forall_eq_or_imp, exists_eq_or_imp]
    refine ⟨least.trans (min_le_left _ _), ⟨least.trans (min_le_right _ _), each⟩, ?_⟩
    rcases one with h | h
    · rw [h]; omega
    · exact .inr (.inr h)

/-- The block exponent after BEXP. -/
theorem aeBexp_does (e : Nat) (s : State) : AeDoes (.aeBexp e) e 0x1D s (fun w _ => fty w ≠ 3) fun w x y =>
    x.Goes y ∧ x.Keeps y [.exp] ∧
    y.exp = if w.testBit 8 then 63 else ((getLanes (fty w) (x.D (fs w))).map (signBits (laneWidth (fty w)))).foldl min x.exp := by
  refine AeDoes.of_data _ rfl rfl fun w x ty => ?_
  by_cases fresh : w.testBit 8 = true
  · refine ⟨_, (if_neg ty).trans (if_pos fresh), ⟨rfl, rfl⟩, ⟨rfl, fun p hp => ?_⟩, (if_pos fresh).symm⟩
    cases p with
    | exp => simp at hp
    | mem | addr => exact ⟨rfl, rfl, rfl⟩
    | _ => rfl
  · refine ⟨_, (if_neg ty).trans (if_neg fresh), ⟨rfl, rfl⟩, ⟨rfl, fun p hp => ?_⟩, (if_neg fresh).symm⟩
    cases p with
    | exp => simp at hp
    | mem | addr => exact ⟨rfl, rfl, rfl⟩
    | _ => rfl

/-- A number of a field scaled up by no more than its redundant sign bits stays in the field (R233). -/
theorem scaled_range {w k : Nat} {v : Int} (low : -2 ^ (w - 1) ≤ v) (high : v < 2 ^ (w - 1)) (hk : k ≤ signBits w v) :
    -2 ^ (w - 1) ≤ v * 2 ^ k ∧ v * 2 ^ k < 2 ^ (w - 1) := by
  -- the number lies in a field of `j` bits, and its redundant sign bits are those between the two fields
  have narrow : ∃ j, j + k ≤ w - 1 ∧ -2 ^ j ≤ v ∧ v < 2 ^ j := by
    unfold signBits at hk
    generalize hm : (if v < 0 then (-v - 1).toNat else v.toNat) = m at hk
    simp only at hk
    have near : v = m ∨ v = -m - 1 := by split at hm <;> omega
    by_cases zero : m = 0
    · exact ⟨0, by simpa [zero] using hk, by omega, by omega⟩
    · have reach : 2 ^ m.log2 ≤ m := Nat.log2_self_le zero
      have inside : (m : Int) < 2 ^ (w - 1) := by omega
      have fits : m.log2 < w - 1 := by
        refine (Nat.pow_lt_pow_iff_right (a := 2) (by decide)).1 (reach.trans_lt ?_)
        exact_mod_cast inside
      have under : (m : Int) < 2 ^ (m.log2 + 1) := by exact_mod_cast Nat.lt_log2_self (n := m)
      rw [if_neg zero] at hk
      exact ⟨m.log2 + 1, by omega, by omega, by omega⟩
  obtain ⟨j, hj, low', high'⟩ := narrow
  have pos : (0 : Int) < 2 ^ k := by positivity
  have room : (2 : Int) ^ j * 2 ^ k ≤ 2 ^ (w - 1) := by
    rw [← pow_add]; exact pow_le_pow_right₀ (by decide) hj
  constructor <;> nlinarith

/-- The comparisons the spec gives a code. -/
def cmpTest (cc : Nat) (u v : Int) : Bool :=
  match cc with
  | 0 => decide (u = v) | 1 => decide (u ≠ v) | 2 => decide (u < v) | 3 => decide (u ≤ v) | 4 => decide (v < u)
  | _ => decide (v ≤ u)

theorem cmpCode_eq {cc : Nat} (h : cc ≤ 5) (k : Nat) : cmpCode cc k = cmpTest cc := by
  funext u v
  match cc, h with
  | 0, _ => exact beq_eq_decide u v
  | 1, _ => simp [cmpCode, cmpTest, bne, beq_eq_decide]
  | 2, _ | 3, _ | 4, _ | 5, _ => rfl

theorem Dev.aeCmp_eq (d : Dev) (e : Nat) : d.aeCmp e = d.takeFresh.2.aeRun e 0x1C (fun _ => 0) 1 fun w x =>
    (if fty w = 3 then .error Code.AE_ILLEGAL
    else
      let rs := List.zipWith (cmpCode (bits w 8 6) d.fresh) (getLanes (fty w) (x.D (fs w))) (getLanes (fty w) (x.D (ft w)))
      .ok (x.setPred (bits w 22 21) (if w.testBit 5 then rs.all id else rs.any id)) : AeStep).map Ae.next := rfl

/-- CMP takes the number of a free value, whether it uses it or not; beside that it changes its engine alone. -/
theorem State.answerCell_freshAe (s : State) {f : Dev → Dev} {e : Nat} {x : Ae} (h : f s.found = s.found.takeFresh.2.setAe e x) :
    ∃ d, s.answerCell f = .next { s with dev := d } ∧ s.found.Keeps d [.aes, .fresh] ∧ (∀ g, g ≠ e → d.ae g = s.found.ae g) ∧
      d.ae e = x := by
  refine ⟨s.found.takeFresh.2.setAe e x, ?_, fun p hp => ?_, fun g hg => ?_, Dev.ae_setAe _ _ _⟩
  · unfold State.answerCell
    rw [h, Dev.tellEvent_none (s.found.takeFresh.2.setAe e x) s.dev.event rfl]; rfl
  · cases p with
    | aes | fresh => simp at hp
    | _ => rfl
  · exact mget_mset_other _ _ _ _ hg

theorem aeCmp_does {e : Nat} {s : State} (live : s.Live) (does : s.dev.aeDoes e 0x1C = true) (ty : fty (s.dev.aeNext e) ≠ 3) :
    Does (.aeCmp e) s fun b a =>
      let w := b.aeNext e; let x := b.ae e; let y := a.ae e
      let rs := List.zipWith (cmpCode (bits w 8 6) b.fresh) (getLanes (fty w) (x.D (fs w))) (getLanes (fty w) (x.D (ft w)))
      b.Keeps a [.aes, .fresh] ∧ (∀ f, f ≠ e → a.ae f = b.ae f) ∧ x.Goes y ∧ x.Keeps y [.cr] ∧
      ∀ i, y.cr.testBit i = if i = bits w 22 21 ∧ i ≠ 0 then (if w.testBit 5 then rs.all id else rs.any id) else x.cr.testBit i := by
  have he : e < 2 := ((s.dev.aeDoes_iff e 0x1C).1 does).1
  have lit : s.found.dark = false := live
  let w := s.found.aeNext e
  let x := s.found.ae e
  let rs := List.zipWith (cmpCode (bits w 8 6) s.found.fresh) (getLanes (fty w) (x.D (fs w))) (getLanes (fty w) (x.D (ft w)))
  have run : (fun d : Dev => d.liveIf (e < 2) fun d => d.aeCmp e) s.found =
      s.found.takeFresh.2.setAe e (x.begun.setPred (bits w 22 21) (if w.testBit 5 then rs.all id else rs.any id)).next := by
    simp only [Dev.liveIf, lit, he, decide_true, Bool.not_true, Bool.or_false, Bool.false_eq_true, if_false]
    rw [Dev.aeCmp_eq, Dev.aeRun_does s.found.takeFresh.2 _ _ _ does rfl]
    change (match (if fty w = 3 then _ else _ : AeStep).map Ae.next with | .ok x => _ | .error code => _) = _
    rw [if_neg (show ¬fty w = 3 from ty)]
    simp only [Nat.zero_and, if_true, Nat.add_zero]
    rfl
  obtain ⟨a, answer, keeps, others, engine⟩ := s.answerCell_freshAe (f := fun d : Dev => d.liveIf (e < 2) fun d => d.aeCmp e) run
  obtain ⟨goes, kept, cr⟩ := x.setPred_writes (bits w 22 21) (if w.testBit 5 then rs.all id else rs.any id)
  refine ⟨a, answer, keeps, others, ?_⟩
  rw [engine]
  exact ⟨goes, kept, cr⟩

/-- Settles O12: each instruction by what it writes, and the range the block exponent leaves. -/
theorem aeShiftsAndComplex : Obligations.AeShiftsAndComplex := by
  refine ⟨fun e s => ⟨aeShl_does e s, aeShr_does e s, aeSra_does e s⟩, fun e s => ⟨?_, ?_, ?_, ?_, ?_, ?_⟩, fun e s => ?_⟩
  · exact AeDoes.of_cplxLanes (fun (re, im) => (re, -im)) rfl rfl
  · exact AeDoes.of_cplxLanes (fun (re, im) => (im, -re)) rfl rfl
  · exact aeAddsub_does e s
  · intro live does ty code
    refine (aeCmp_does live does ty).mono fun a ⟨keeps, others, goes, kept, cr⟩ => ⟨keeps, others, goes, kept, fun i _ => ?_⟩
    rw [cmpCode_eq (show bits (s.found.aeNext e) 8 6 ≤ 5 from code)] at cr
    exact cr i
  · exact aePlog_does e s
  · refine (aeBexp_does e s).mono fun w x y ⟨goes, keeps, exp⟩ => ⟨goes, keeps, ?_⟩
    split
    next fresh => rw [exp, if_pos fresh]
    next measured =>
      rw [exp, if_neg measured]
      exact foldl_min_spec _ _ _
  · intro live does ⟨ty, measured⟩
    refine (aeBexp_does e s live does ty).mono fun a ⟨keeps, others, goes, kept, exp⟩ => ⟨keeps, others, fun v hv => ?_⟩
    obtain ⟨low, high⟩ := getLanes_range hv
    rw [if_neg (show ¬(s.found.aeNext e).testBit 8 = true from Bool.eq_false_iff.1 measured)] at exp
    exact scaled_range low high (exp ▸ (foldl_min_spec _ _ _).2.1 v hv)

end Sys2Proof.Machine
end

/-! # The analysis engines: accumulators, memory operands and special registers (R227 to R236, R239) -/

section
/-! ## What an operation on an engine leaves alone -/

namespace Sys2Proof.Machine

/-- An operation within an instruction: the course of the program and every part but those listed stay. -/
def Ae.Works (x z : Ae) (but : List AePart) : Prop := x.Keeps z but ∧ z.pc = x.pc ∧ z.loops = x.loops ∧ z.cycles = x.cycles

theorem AePart.Same.trans {p : AePart} {x y z : Ae} (h : p.Same x y) (g : p.Same y z) : p.Same x z := by
  cases p with
  | addr | mem =>
    obtain ⟨h₁, h₂, h₃⟩ := h
    obtain ⟨g₁, g₂, g₃⟩ := g
    exact ⟨g₁.trans h₁, g₂.trans h₂, g₃.trans h₃⟩
  | _ => exact Eq.trans g h

theorem Ae.Works.trans {x y z : Ae} {l m : List AePart} (h : x.Works y l) (g : y.Works z m) : x.Works z (l ++ m) := by
  obtain ⟨⟨hp, hk⟩, h₁, h₂, h₃⟩ := h
  obtain ⟨⟨gp, gk⟩, g₁, g₂, g₃⟩ := g
  refine ⟨⟨gp.trans hp, fun p hn => ?_⟩, g₁.trans h₁, g₂.trans h₂, g₃.trans h₃⟩
  simp only [List.mem_append, not_or] at hn
  exact (hk p hn.1).trans (gk p hn.2)

theorem Ae.Works.mono {x z : Ae} {l m : List AePart} (h : x.Works z l) (s : ∀ p ∈ l, p ∈ m) : x.Works z m := by
  obtain ⟨⟨hp, hk⟩, course⟩ := h
  exact ⟨⟨hp, fun p hn => hk p fun hm => hn (s p hm)⟩, course⟩

theorem Ae.Works.refl (x : Ae) : x.Works x [] := by
  refine ⟨⟨rfl, fun p _ => ?_⟩, rfl, rfl, rfl⟩
  cases p with
  | addr | mem => exact ⟨rfl, rfl, rfl⟩
  | _ => rfl

theorem Ae.Works.iterate {l : List AePart} (n : Nat) (f : Nat → Ae → Ae) (h : ∀ k x, Ae.Works x (f k x) l) (x : Ae) :
    x.Works (iterate n f x) l := by
  unfold Machine.iterate
  generalize List.range n = ks
  induction ks generalizing x with
  | nil => exact (Ae.Works.refl x).mono (by simp)
  | cons k ks ih => exact ((h k x).trans (ih (f k x))).mono (by simp)

section
variable (x : Ae)

theorem Ae.works_setD (i v : Nat) : x.Works (x.setD i v) [.data] := by
  refine ⟨⟨rfl, fun p hp => ?_⟩, rfl, rfl, rfl⟩
  cases p with
  | data => simp at hp
  | addr | mem => exact ⟨rfl, rfl, rfl⟩
  | _ => rfl

theorem Ae.works_sticky (k : Nat) (b : Bool) : x.Works (x.sticky k b) [.sr] := by
  cases b with
  | false => exact (Ae.Works.refl x).mono (by simp)
  | true =>
    refine ⟨⟨rfl, fun p hp => ?_⟩, rfl, rfl, rfl⟩
    cases p with
    | sr => simp at hp
    | addr | mem => exact ⟨rfl, rfl, rfl⟩
    | _ => rfl

/-- The accumulator alone, without AOVF. -/
def Ae.putA (i : Nat) (v : Int) : Ae := { x with a := mset 0 x.a i v, wrote := withBit x.wrote i true }

theorem Ae.works_putA (i : Nat) (v : Int) : x.Works (x.putA i v) [.acc] := by
  refine ⟨⟨rfl, fun p hp => ?_⟩, rfl, rfl, rfl⟩
  cases p with
  | acc => simp at hp
  | addr | mem => exact ⟨rfl, rfl, rfl⟩
  | _ => rfl

theorem Ae.setA_eq (i : Nat) (v : Int) : x.setA i v = (x.sticky 1 (v != satBits 80 v)).putA i (satBits 80 v) := by
  unfold Ae.setA Ae.sticky
  split <;> rfl

theorem Ae.works_setA (i : Nat) (v : Int) : x.Works (x.setA i v) [.acc, .sr] := by
  rw [Ae.setA_eq]
  exact ((x.works_sticky _ _).trans (Ae.works_putA _ _ _)).mono (by simp)

theorem Ae.A_setA (i : Nat) (v : Int) (j : Nat) : (x.setA i v).A j = if j = i then satBits 80 v else x.A j := by
  rw [Ae.setA_eq]
  by_cases h : j = i
  · subst h; simp [Ae.A, Ae.putA]
  · rw [if_neg h]
    refine (mget_mset_other _ _ _ _ h).trans ?_
    unfold Ae.sticky
    split <;> rfl

theorem Ae.sticks_setA (i : Nat) (v : Int) : x.Sticks (x.setA i v) 1 (v != satBits 80 v) := by
  rw [Ae.setA_eq]
  exact x.sticks_sticky 1 _

theorem Ae.Sticks.trans {x y z : Ae} {k : Nat} {b c : Bool} (h : x.Sticks y k b) (g : y.Sticks z k c) : x.Sticks z k (b || c) := by
  refine ⟨by rw [g.1, h.1, Bool.or_assoc], fun i hi => (g.2 i hi).trans (h.2 i hi)⟩

theorem Ae.A_sticky (k : Nat) (b : Bool) (j : Nat) : (x.sticky k b).A j = x.A j := by cases b <;> rfl

@[simp] theorem Ae.A_next (j : Nat) : x.next.A j = x.A j := rfl

@[simp] theorem Ae.A_begun (j : Nat) : x.begun.A j = x.A j := rfl

/-- A value that an accumulator holds is written without AOVF. -/
theorem Ae.setA_fitting (i : Nat) {v : Int} (h : satBits 80 v = v) : x.setA i v = x.putA i v := by
  rw [Ae.setA_eq, h]
  simp [Ae.sticky]

end

/-- The engine as an instruction finds it whose end counts `n` cycles. -/
def Ae.begunAt (x : Ae) (n : Nat) : Ae := { x with wrote := 0, cycles := n }

/-- What an instruction with an extra cycle leaves when it goes on. -/
theorem Ae.Works.nextAt {x z : Ae} {l : List AePart} {n : Nat} (h : (x.begunAt n).Works z l) :
    ((z.next.pc, z.next.loops) = aeLoopEnd x.pc x.loops ∧ z.next.cycles = n) ∧ x.Keeps z.next l := by
  obtain ⟨⟨hp, hk⟩, pc, loops, cycles⟩ := h
  refine ⟨⟨?_, cycles⟩, hp, fun p hn => ?_⟩
  · have course : (z.next.pc, z.next.loops) = aeLoopEnd z.pc z.loops := rfl
    rw [course, pc, loops]; rfl
  · have same := hk p hn
    cases p <;> exact same

/-- What an instruction of one cycle leaves when it goes on. -/
theorem Ae.Works.next {x z : Ae} {l : List AePart} (h : x.begun.Works z l) : x.Goes z.next ∧ x.Keeps z.next l :=
  Ae.Works.nextAt h

end Sys2Proof.Machine
end

section
/-! ## Sums and products into accumulators (R229, R232, R238) -/

namespace Sys2Proof.Machine

theorem AeDoes.of_product {i : Instr} {e op : Nat} {s : State} (f : Int → Int → Int)
    (hi : exec i s = s.answerCell fun d => d.liveIf (e < 2) fun d => d.aeData e op fun w x =>
      .ok (x.setA (an w) (f (x.A (an w)) (laneProduct w x)))) (t : aeLegal.contains op = true) :
    AeDoes i e op s (fun _ _ => True) fun w x y =>
      let p := laneProduct w x
      x.Goes y ∧ x.Keeps y [.acc, .sr] ∧ x.KeepsAcc y [an w] ∧ y.A (an w) = satBits 80 (f (x.A (an w)) p) ∧
      x.Sticks y 1 (f (x.A (an w)) p != satBits 80 (f (x.A (an w)) p)) := by
  refine AeDoes.of_data _ hi t fun w x _ => ⟨_, rfl, ?_⟩
  let v := f (x.A (an w)) (laneProduct w x)
  obtain ⟨goes, keeps⟩ := (x.begun.works_setA (an w) v).next
  refine ⟨goes, keeps, fun j hj => ?_, ?_, x.begun.sticks_setA (an w) v⟩
  · exact (x.begun.A_setA (an w) v j).trans (if_neg (by simpa using hj))
  · exact (x.begun.A_setA (an w) v (an w)).trans (if_pos rfl)

theorem AeDoes.of_cplxAcc32 {i : Instr} {e op : Nat} {s : State} (acc : Bool)
    (hi : exec i s = s.answerCell fun d => d.liveIf (e < 2) fun d => d.aeData e op (cplxAcc32 acc)) (t : aeLegal.contains op = true) :
    AeDoes i e op s (fun w _ => an w % 2 = 0) fun w x y =>
      let n := an w
      let p := cmulExact (cplx32 (x.D (as_ w))) (cplx32 (x.D (at_ w))) (w.testBit 10)
      let re := (if acc then x.A n else 0) + p.1
      let im := (if acc then x.A (n + 1) else 0) + p.2
      x.Goes y ∧ x.Keeps y [.acc, .sr] ∧ x.KeepsAcc y [n, n + 1] ∧ y.A n = satBits 80 re ∧ y.A (n + 1) = satBits 80 im ∧
      x.Sticks y 1 (re != satBits 80 re || im != satBits 80 im) := by
  refine AeDoes.of_data _ hi t fun w x even => ⟨_, if_neg (by omega), ?_⟩
  let n := an w
  let p := cmulExact (cplx32 (x.D (as_ w))) (cplx32 (x.D (at_ w))) (w.testBit 10)
  let re := (if acc then x.A n else 0) + p.1
  let im := (if acc then x.A (n + 1) else 0) + p.2
  obtain ⟨goes, keeps⟩ := (((x.begun.works_setA n re).trans (Ae.works_setA _ (n + 1) im)).mono (by simp)).next
    (l := [.acc, .sr])
  have value (j : Nat) : ((x.begun.setA n re).setA (n + 1) im).next.A j =
      if j = n + 1 then satBits 80 im else if j = n then satBits 80 re else x.A j := by
    refine (Ae.A_setA _ (n + 1) im j).trans ?_
    rw [Ae.A_setA]; rfl
  refine ⟨goes, keeps, fun j hj => ?_, ?_, ?_, (x.begun.sticks_setA n re).trans (Ae.sticks_setA _ (n + 1) im)⟩
  · obtain ⟨h₀, h₁⟩ : j ≠ n ∧ j ≠ n + 1 := by simpa using hj
    exact (value j).trans ((if_neg h₁).trans (if_neg h₀))
  · exact (value n).trans ((if_neg (by omega)).trans (if_pos rfl))
  · exact (value (n + 1)).trans (if_pos rfl)

/-! ### Halves of accumulators (R229) -/

theorem satBits_of_range {w : Nat} {x : Int} (low : -2 ^ (w - 1) ≤ x) (high : x < 2 ^ (w - 1)) : satBits w x = x := by
  unfold satBits clamp
  split_ifs <;> omega

theorem satBits_wrapBits {w : Nat} (hw : 0 < w) (x : Int) : satBits w (wrapBits w x) = wrapBits w x :=
  satBits_of_range (wrapBits_range hw x).1 (wrapBits_range hw x).2

/-- An accumulator made of two halves. -/
def packHalves (re im : Int) : Int := wrapBits 80 ((toU 40 (satBits 40 re) * 2 ^ 40 + toU 40 (satBits 40 im) : Nat) : Int)

theorem accHalves_packHalves (re im : Int) : accHalves (packHalves re im) = (satBits 40 re, satBits 40 im) := by
  have hr := toU_lt 40 (satBits 40 re)
  have hi := toU_lt 40 (satBits 40 im)
  have whole : toU 80 (packHalves re im) = toU 40 (satBits 40 re) * 2 ^ 40 + toU 40 (satBits 40 im) :=
    (toU_wrapBits 80 _).trans (toU_natCast (by omega))
  have high : (toU 40 (satBits 40 re) * 2 ^ 40 + toU 40 (satBits 40 im)) / 2 ^ 40 = toU 40 (satBits 40 re) := by omega
  have low : (toU 40 (satBits 40 re) * 2 ^ 40 + toU 40 (satBits 40 im)) % 2 ^ 40 = toU 40 (satBits 40 im) := by omega
  simp only [accHalves, whole, high, low, wrapBits_toU, wrapBits_satBits (show 0 < 40 by decide)]

theorem satBits_packHalves (re im : Int) : satBits 80 (packHalves re im) = packHalves re im := satBits_wrapBits (by decide) _

theorem Ae.setHalves_eq (x : Ae) (i : Nat) (re im : Int) :
    x.setHalves i re im = (x.sticky 1 (re != satBits 40 re || im != satBits 40 im)).putA i (packHalves re im) :=
  Ae.setA_fitting _ i (satBits_packHalves re im)

theorem Ae.works_setHalves (x : Ae) (i : Nat) (re im : Int) : x.Works (x.setHalves i re im) [.acc, .sr] := by
  rw [Ae.setHalves_eq]
  exact ((x.works_sticky _ _).trans (Ae.works_putA _ _ _)).mono (by simp)

theorem Ae.A_putA (x : Ae) (i : Nat) (v : Int) (j : Nat) : (x.putA i v).A j = if j = i then v else x.A j := by
  by_cases h : j = i
  · subst h; simp [Ae.A, Ae.putA]
  · rw [if_neg h]; exact mget_mset_other _ _ _ _ h

theorem Ae.A_setHalves (x : Ae) (i : Nat) (re im : Int) (j : Nat) :
    (x.setHalves i re im).A j = if j = i then packHalves re im else x.A j := by
  rw [Ae.setHalves_eq, Ae.A_putA, Ae.A_sticky]

/-- A loop over the accumulators, each turn on its own one. -/
theorem Ae.A_iterate (f : Nat → Ae → Ae) (g : Nat → Int → Int) (h : ∀ k y j, (f k y).A j = if j = k then g k (y.A k) else y.A j)
    (n : Nat) (x : Ae) (j : Nat) : (iterate n f x).A j = if j < n then g j (x.A j) else x.A j := by
  induction n with
  | zero => rfl
  | succ n ih =>
    have last : iterate (n + 1) f x = f n (iterate n f x) := by simp [iterate, List.range_succ]
    rw [last, h]
    by_cases hj : j = n
    · subst hj
      rw [if_pos rfl, ih, if_neg (lt_irrefl j), if_pos (Nat.lt_succ_self j)]
    · rw [if_neg hj, ih]
      exact if_congr (by omega) rfl rfl

/-- The halves that CMPY16 and CMAC16 begin from. -/
def startHalves (acc : Bool) (a : Int) : Int × Int := if acc then accHalves a else (0, 0)

/-- Turn `k` of CMPY16 and CMAC16 over the engine `x` they found. -/
def cplxTurn (acc : Bool) (w : Nat) (x : Ae) (k : Nat) (y : Ae) : Ae :=
  let p := cmulExact (x.elem16 (as_ w) k) (x.elem16 (at_ w) k) (w.testBit 10)
  y.setHalves k ((startHalves acc (y.A k)).1 + p.1) ((startHalves acc (y.A k)).2 + p.2)

/-- What the turn makes of accumulator `k`. -/
def cplxTurnValue (acc : Bool) (w : Nat) (x : Ae) (k : Nat) (a : Int) : Int :=
  let p := cmulExact (x.elem16 (as_ w) k) (x.elem16 (at_ w) k) (w.testBit 10)
  packHalves ((startHalves acc a).1 + p.1) ((startHalves acc a).2 + p.2)

theorem cplxAcc16_eq (acc : Bool) {w : Nat} (x : Ae) (h : as_ w % 2 = 0 ∧ at_ w % 2 = 0) :
    cplxAcc16 acc w x = .ok (iterate 4 (cplxTurn acc w x) x) := if_neg (by omega)

theorem AeDoes.of_cplxAcc16 {i : Instr} {e op : Nat} {s : State} (acc : Bool)
    (hi : exec i s = s.answerCell fun d => d.liveIf (e < 2) fun d => d.aeData e op (cplxAcc16 acc)) (t : aeLegal.contains op = true) :
    AeDoes i e op s (fun w _ => as_ w % 2 = 0 ∧ at_ w % 2 = 0) fun w x y =>
      x.Goes y ∧ x.Keeps y [.acc, .sr] ∧ x.KeepsAcc y [0, 1, 2, 3] ∧
      ∀ k < 4,
        let p := cmulExact (x.elem16 (as_ w) k) (x.elem16 (at_ w) k) (w.testBit 10)
        accHalves (y.A k) = (satBits 40 ((startHalves acc (x.A k)).1 + p.1), satBits 40 ((startHalves acc (x.A k)).2 + p.2)) := by
  refine AeDoes.of_data _ hi t fun w x h =>
    ⟨iterate 4 (cplxTurn acc w x.begun) x.begun, cplxAcc16_eq acc _ h, ?_⟩
  obtain ⟨goes, keeps⟩ := (Ae.Works.iterate 4 (cplxTurn acc w x.begun) (fun k y => y.works_setHalves k _ _) x.begun).next
  have value := Ae.A_iterate (cplxTurn acc w x.begun) (cplxTurnValue acc w x) (fun k y j => y.A_setHalves k _ _ j) 4 x.begun
  generalize iterate 4 (cplxTurn acc w x.begun) x.begun = z at goes keeps value
  refine ⟨goes, keeps, fun j hj => ?_, fun k hk => ?_⟩
  · have far : ¬j < 4 := by simp only [List.mem_cons, List.not_mem_nil, or_false, not_or] at hj; omega
    rw [Ae.A_next, value, if_neg far]; rfl
  · rw [Ae.A_next, value, if_pos hk, cplxTurnValue, accHalves_packHalves, Ae.A_begun]

theorem cmulExact_eq (u v : Int × Int) (cj : Bool) :
    cmulExact u v cj = (u.1 * v.1 - u.2 * (if cj then -v.2 else v.2), u.1 * (if cj then -v.2 else v.2) + u.2 * v.1) := by
  cases cj <;> rfl

/-! ### Moves between accumulators and data registers (R231) -/

/-- The data register MVA writes, and whether a part saturated. -/
def Ae.mvaResult (x : Ae) (w : Nat) : Nat × Bool :=
  let n := bits w 18 17; let sh := shField w
  match bits w 16 15 with
  | 0 =>
    let v := narrowBy 32 (31 + sh) (x.A n); let old := cplx32 (x.D (fd w))
    (if w.testBit 14 then pack32 v.1 old.2 else pack32 old.1 v.1, v.2)
  | 1 =>
    let q := narrowBy 16 (15 + sh)
    let g := accHalves (x.A n); let h := accHalves (x.A (n + 1))
    (packPair16 (q g.1, q g.2) (q h.1, q h.2), (q g.1).2 || (q g.2).2 || (q h.1).2 || (q h.2).2)
  | 2 =>
    let u := narrowBy 32 (31 + sh) (x.A n); let v := narrowBy 32 (31 + sh) (x.A (n + 1))
    (pack32 u.1 v.1, u.2 || v.2)
  | _ =>
    let v := narrowBy 64 sh (x.A n)
    (toU 64 v.1, v.2)

/-- MVA on an engine: a pair of accumulators begins with an even one. -/
def mvaStep (w : Nat) (x : Ae) : AeStep :=
  if (bits w 16 15 = 1 ∨ bits w 16 15 = 2) ∧ bits w 18 17 % 2 = 1 then .error Code.AE_ILLEGAL
  else .ok ((x.setD (fd w) (x.mvaResult w).1).sticky 0 (x.mvaResult w).2).next

theorem Dev.aeMva_eq (d : Dev) (e : Nat) : d.aeMva e = d.aeRun e 0x09 mvaReads 1 mvaStep := by
  refine congrArg (d.aeRun e 0x09 mvaReads 1) (funext fun w => funext fun x => ?_)
  have mode : bits w 16 15 < 4 := bits_lt w 16 15
  unfold mvaStep Ae.mvaResult
  generalize bits w 16 15 = m at mode
  match m, mode with
  | 0, _ =>
    simp only
    generalize narrowBy 32 (31 + shField w) (x.A (bits w 18 17)) = p
    generalize cplx32 (x.D (fd w)) = q
    rfl
  | 1, _ =>
    simp [packPair16, Bool.or_assoc]
  | 2, _ =>
    simp only
    generalize narrowBy 32 (31 + shField w) (x.A (bits w 18 17)) = p
    generalize narrowBy 32 (31 + shField w) (x.A (bits w 18 17 + 1)) = q
    simp
  | 3, _ =>
    simp only
    generalize narrowBy 64 (shField w) (x.A (bits w 18 17)) = p
    rfl

/-- Whether MVA reads a pair of accumulators. -/
theorem mvaReads_eq (w : Nat) : mvaReads w =
    if bits w 16 15 = 1 ∨ bits w 16 15 = 2 then 2 ^ bits w 18 17 + 2 ^ (bits w 18 17 + 1) else 2 ^ bits w 18 17 := rfl

theorem cplx32_pack32_mod (re im : Int) : cplx32 (pack32 re im % 2 ^ 64) = (wrapBits 32 re, wrapBits 32 im) := by
  rw [Nat.mod_eq_of_lt (pack32_lt re im), cplx32_pack32]

theorem cplx16_packPair16 (p q : (Int × Bool) × (Int × Bool)) :
    cplx16 (packPair16 p q % 2 ^ 64) 0 = (wrapBits 16 p.1.1, wrapBits 16 p.2.1) ∧
    cplx16 (packPair16 p q % 2 ^ 64) 1 = (wrapBits 16 q.1.1, wrapBits 16 q.2.1) := by
  have fits : packPair16 p q < 2 ^ 64 := by
    have low := pack16_lt p.1.1 p.2.1
    have high := pack16_lt q.1.1 q.2.1
    simp only [packPair16]; omega
  rw [Nat.mod_eq_of_lt fits]
  exact cplx16_pack16 _ _ _ _

theorem cplx32_wraps (v : Nat) : wrapBits 32 (cplx32 v).1 = (cplx32 v).1 ∧ wrapBits 32 (cplx32 v).2 = (cplx32 v).2 := by
  simp only [cplx32, wrapBits_wrapBits, and_self]

/-- What a data register reads that holds MVA's result. -/
theorem Ae.mvaResult_reads (x : Ae) {y : Ae} {w : Nat} (value : y.D (fd w) = (x.mvaResult w).1 % 2 ^ 64)
    (sticks : x.Sticks y 0 (x.mvaResult w).2) :
    let n := bits w 18 17; let sh := wrapBits 6 (bits w 13 8 : Nat)
    match bits w 16 15 with
    | 0 =>
      let v := narrowBy 32 (31 + sh) (x.A n); let old := cplx32 (x.D (fd w))
      cplx32 (y.D (fd w)) = (if w.testBit 14 then (v.1, old.2) else (old.1, v.1)) ∧ x.Sticks y 0 v.2
    | 1 =>
      let q := fun (v : Int) => narrowBy 16 (15 + sh) v
      let g := accHalves (x.A n); let h := accHalves (x.A (n + 1))
      cplx16 (y.D (fd w)) 0 = ((q g.1).1, (q g.2).1) ∧ cplx16 (y.D (fd w)) 1 = ((q h.1).1, (q h.2).1) ∧
      x.Sticks y 0 ((q g.1).2 || (q g.2).2 || (q h.1).2 || (q h.2).2)
    | 2 =>
      let u := narrowBy 32 (31 + sh) (x.A n); let v := narrowBy 32 (31 + sh) (x.A (n + 1))
      cplx32 (y.D (fd w)) = (u.1, v.1) ∧ x.Sticks y 0 (u.2 || v.2)
    | _ => wrapBits 64 (y.D (fd w) : Nat) = (narrowBy 64 sh (x.A n)).1 ∧ x.Sticks y 0 (narrowBy 64 sh (x.A n)).2 := by
  unfold Ae.mvaResult at value sticks
  have narrow32 (a b : Int) := wrapBits_narrowBy (w := 32) (by decide) a b
  have narrow16 (a b : Int) := wrapBits_narrowBy (w := 16) (by decide) a b
  obtain ⟨high, low⟩ := cplx32_wraps (x.D (fd w))
  generalize bits w 16 15 = m at value sticks
  match m with
  | 0 =>
    refine ⟨?_, sticks⟩
    rw [value]
    cases w.testBit 14 with
    | false => exact (cplx32_pack32_mod _ _).trans (by rw [high, narrow32]; rfl)
    | true => exact (cplx32_pack32_mod _ _).trans (by rw [low, narrow32]; rfl)
  | 1 =>
    obtain ⟨first, second⟩ := cplx16_packPair16 (narrowBy 16 (15 + shField w) (accHalves (x.A (bits w 18 17))).1,
        narrowBy 16 (15 + shField w) (accHalves (x.A (bits w 18 17))).2)
      (narrowBy 16 (15 + shField w) (accHalves (x.A (bits w 18 17 + 1))).1,
        narrowBy 16 (15 + shField w) (accHalves (x.A (bits w 18 17 + 1))).2)
    simp only [narrow16] at first second
    refine ⟨?_, ?_, sticks⟩
    · rw [value]; exact first
    · rw [value]; exact second
  | 2 =>
    refine ⟨?_, sticks⟩
    rw [value]
    exact (cplx32_pack32_mod _ _).trans (by rw [narrow32, narrow32]; rfl)
  | _ + 3 =>
    refine ⟨?_, sticks⟩
    rw [value]
    exact (wrapBits_mod 64 _).trans ((wrapBits_toU 64 _).trans (wrapBits_narrowBy (by decide) _ _))

/-- What MVA leaves of the machine, and in its register. -/
theorem aeMva_does (e : Nat) (s : State) :
    AeDoes (.aeMva e) e 0x09 s (fun w _ => bits w 16 15 = 1 ∨ bits w 16 15 = 2 → bits w 18 17 % 2 = 0) fun w x y =>
      ((y.pc, y.loops) = aeLoopEnd x.pc x.loops ∧ y.cycles = x.cycles + 1 + (if mvaReads w &&& x.wrote = 0 then 0 else 1)) ∧
      x.Keeps y [.data, .sr] ∧ x.KeepsData y [fd w] ∧ y.D (fd w) = (x.mvaResult w).1 % 2 ^ 64 ∧ x.Sticks y 0 (x.mvaResult w).2 := by
  refine AeDoes.of_run mvaReads 1 _ (s.answerCell_liveIf_congr _ fun d => d.aeMva_eq e) rfl fun w x even =>
    ⟨_, if_neg fun h => absurd (even h.1) (by omega), ?_⟩
  let z := x.begunAt (x.cycles + 1 + (if mvaReads w &&& x.wrote = 0 then 0 else 1))
  obtain ⟨course, keeps⟩ := ((z.works_setD (fd w) (x.mvaResult w).1).trans (Ae.works_sticky _ 0 (x.mvaResult w).2)).nextAt
  refine ⟨course, keeps, fun j hj => ?_, ?_, Ae.sticks_sticky _ 0 _⟩
  · rw [Ae.D_next, Ae.D_sticky, Ae.D_setD, if_neg (by simpa using hj)]; rfl
  · rw [Ae.D_next, Ae.D_sticky, Ae.D_setD, if_pos rfl]; rfl

/-- What MVDA writes: the halves of an accumulator, a pair, or one. -/
def mvdaStep (w : Nat) (x : Ae) : AeStep :=
  let n := bits w 18 17; let v := x.D (fd w)
  match bits w 16 15 with
  | 0 => .ok (x.setA n ((if w.testBit 14 then (cplx32 v).1 else (cplx32 v).2) * 2 ^ 31))
  | 1 => .ok (x.setHalves n ((cplx16 v (bits w 14 14)).1 * 2 ^ 15) ((cplx16 v (bits w 14 14)).2 * 2 ^ 15))
  | 2 =>
    if n % 2 = 1 then .error Code.AE_ILLEGAL
    else .ok ((x.setA n ((cplx32 v).1 * 2 ^ 31)).setA (n + 1) ((cplx32 v).2 * 2 ^ 31))
  | _ => .ok (x.setA n (wrapBits 64 (v : Int)))

theorem Dev.aeMvda_eq (d : Dev) (e : Nat) : d.aeMvda e = d.aeData e 0x0A mvdaStep := by
  refine congrArg (d.aeData e 0x0A) (funext fun w => funext fun x => ?_)
  unfold mvdaStep
  simp only <;>
    (generalize cplx16 (x.D (fd w)) (bits w 14 14) = q
     generalize cplx32 (x.D (fd w)) = p
     generalize bits w 16 15 = m
     match m with
     | 0 | 1 | 2 | _ + 3 => rfl)

/-- A field of `w` bits moved up by `k` fits a field of `w + k`. -/
theorem satBits_shifted {w k m : Nat} (hw : 0 < w) (fits : w + k ≤ m) (x : Int) :
    satBits m (wrapBits w x * 2 ^ k) = wrapBits w x * 2 ^ k := by
  obtain ⟨low, high⟩ := wrapBits_range hw x
  have pos : (0 : Int) < 2 ^ k := by positivity
  have room : (2 : Int) ^ (w - 1) * 2 ^ k ≤ 2 ^ (m - 1) := by
    rw [← pow_add]; exact pow_le_pow_right₀ (by decide) (by omega)
  exact satBits_of_range (by nlinarith) (by nlinarith)

theorem satBits_cplx32 (v : Nat) :
    satBits 80 ((cplx32 v).1 * 2 ^ 31) = (cplx32 v).1 * 2 ^ 31 ∧ satBits 80 ((cplx32 v).2 * 2 ^ 31) = (cplx32 v).2 * 2 ^ 31 := by
  have shifted (x : Int) := satBits_shifted (w := 32) (k := 31) (m := 80) (by decide) (by decide) x
  simp only [cplx32, shifted, and_self]

theorem satBits_cplx16 (v k : Nat) :
    satBits 40 ((cplx16 v k).1 * 2 ^ 15) = (cplx16 v k).1 * 2 ^ 15 ∧ satBits 40 ((cplx16 v k).2 * 2 ^ 15) = (cplx16 v k).2 * 2 ^ 15 := by
  have shifted (x : Int) := satBits_shifted (w := 16) (k := 15) (m := 40) (by decide) (by decide) x
  simp only [cplx16, shifted, and_self]

theorem satBits_wrap64 (v : Int) : satBits 80 (wrapBits 64 v) = wrapBits 64 v := by
  simpa using satBits_shifted (k := 0) (m := 80) (show 0 < 64 by decide) (by decide) v

/-- A value that fits goes to an accumulator alone. -/
theorem Ae.setA_writes (x : Ae) (i : Nat) {v : Int} (h : satBits 80 v = v) :
    x.Works (x.setA i v) [.acc] ∧ ∀ j, (x.setA i v).A j = if j = i then v else x.A j := by
  rw [Ae.setA_fitting x i h]
  exact ⟨x.works_putA i v, x.A_putA i v⟩

theorem Ae.setHalves_writes (x : Ae) (i : Nat) {re im : Int} (hr : satBits 40 re = re) (hi : satBits 40 im = im) :
    x.Works (x.setHalves i re im) [.acc] ∧ ∀ j, (x.setHalves i re im).A j = if j = i then packHalves re im else x.A j := by
  have plain : x.setHalves i re im = x.putA i (packHalves re im) := by
    rw [Ae.setHalves_eq, hr, hi]; simp [Ae.sticky]
  rw [plain]
  exact ⟨x.works_putA i _, x.A_putA i _⟩

theorem aeMvda_does (e : Nat) (s : State) :
    AeDoes (.aeMvda e) e 0x0A s (fun w _ => bits w 16 15 = 2 → bits w 18 17 % 2 = 0) fun w x y =>
      let n := bits w 18 17; let v := x.D (fd w)
      x.Goes y ∧ x.Keeps y [.acc] ∧ x.KeepsAcc y (if bits w 16 15 = 2 then [n, n + 1] else [n]) ∧
      match bits w 16 15 with
      | 0 => y.A n = (if w.testBit 14 then (cplx32 v).1 else (cplx32 v).2) * 2 ^ 31
      | 1 => accHalves (y.A n) = ((cplx16 v (bits w 14 14)).1 * 2 ^ 15, (cplx16 v (bits w 14 14)).2 * 2 ^ 15)
      | 2 => y.A n = (cplx32 v).1 * 2 ^ 31 ∧ y.A (n + 1) = (cplx32 v).2 * 2 ^ 31
      | _ => y.A n = wrapBits 64 (v : Nat) := by
  refine AeDoes.of_data mvdaStep (s.answerCell_liveIf_congr _ fun d => d.aeMvda_eq e) rfl fun w x even => ?_
  have mode : bits w 16 15 < 4 := bits_lt w 16 15
  let n := bits w 18 17
  let v := x.D (fd w)
  obtain ⟨sat₁, sat₂⟩ := satBits_cplx32 v
  unfold mvdaStep
  generalize bits w 16 15 = m at even mode
  match m, mode with
  | 0, _ =>
    have sat : satBits 80 ((if w.testBit 14 then (cplx32 v).1 else (cplx32 v).2) * 2 ^ 31) =
        (if w.testBit 14 then (cplx32 v).1 else (cplx32 v).2) * 2 ^ 31 := by
      split
      · exact sat₁
      · exact sat₂
    obtain ⟨works, acc⟩ := x.begun.setA_writes n sat
    obtain ⟨goes, keeps⟩ := works.next
    refine ⟨x.begun.setA n ((if w.testBit 14 then (cplx32 v).1 else (cplx32 v).2) * 2 ^ 31), rfl, goes, keeps, fun j hj => ?_, ?_⟩
    · rw [Ae.A_next, acc, if_neg (by simpa using hj), Ae.A_begun]
    · exact (acc n).trans (if_pos rfl)
  | 1, _ =>
    obtain ⟨satRe, satIm⟩ := satBits_cplx16 v (bits w 14 14)
    obtain ⟨works, acc⟩ := x.begun.setHalves_writes n satRe satIm
    obtain ⟨goes, keeps⟩ := works.next
    refine ⟨x.begun.setHalves n ((cplx16 v (bits w 14 14)).1 * 2 ^ 15) ((cplx16 v (bits w 14 14)).2 * 2 ^ 15), rfl, goes, keeps,
      fun j hj => ?_, ?_⟩
    · rw [Ae.A_next, acc, if_neg (by simpa using hj), Ae.A_begun]
    · rw [Ae.A_next, acc, if_pos rfl]
      exact (accHalves_packHalves _ _).trans (by rw [satRe, satIm])
  | 2, _ =>
    have even := even rfl
    obtain ⟨works₁, acc₁⟩ := x.begun.setA_writes n sat₁
    obtain ⟨works₂, acc₂⟩ := (x.begun.setA n ((cplx32 v).1 * 2 ^ 31)).setA_writes (n + 1) sat₂
    obtain ⟨goes, keeps⟩ := ((works₁.trans works₂).mono (by simp)).next (l := [.acc])
    refine ⟨(x.begun.setA n ((cplx32 v).1 * 2 ^ 31)).setA (n + 1) ((cplx32 v).2 * 2 ^ 31), if_neg (by omega), goes, keeps,
      fun j hj => ?_, ?_, ?_⟩
    · obtain ⟨h₀, h₁⟩ : j ≠ n ∧ j ≠ n + 1 := by simpa using hj
      rw [Ae.A_next, acc₂, if_neg h₁, acc₁, if_neg h₀, Ae.A_begun]
    · rw [Ae.A_next, acc₂, if_neg (by omega), acc₁, if_pos rfl]
    · rw [Ae.A_next, acc₂, if_pos rfl]
  | 3, _ =>
    obtain ⟨works, acc⟩ := x.begun.setA_writes n (satBits_wrap64 (v : Int))
    obtain ⟨goes, keeps⟩ := works.next
    refine ⟨x.begun.setA n (wrapBits 64 (v : Int)), rfl, goes, keeps, fun j hj => ?_, ?_⟩
    · rw [Ae.A_next, acc, if_neg (by simpa using hj), Ae.A_begun]
    · rw [Ae.A_next, acc, if_pos rfl]
      rfl

/-- A turn of ACLR. -/
def aclrTurn (w k : Nat) (y : Ae) : Ae := if w.testBit k then y.setA k 0 else y

theorem aclrTurn_writes (w k : Nat) (y : Ae) :
    y.Works (aclrTurn w k y) [.acc] ∧ ∀ j, (aclrTurn w k y).A j = if j = k then (if w.testBit k then 0 else y.A k) else y.A j := by
  unfold aclrTurn
  split
  · exact y.setA_writes k (by decide)
  · refine ⟨(Ae.Works.refl y).mono (by simp), fun j => ?_⟩
    split
    next h => rw [h]
    next => rfl

theorem aeAclr_does (e : Nat) (s : State) : AeDoes (.aeAclr e) e 0x29 s (fun _ _ => True) fun w x y =>
    x.Goes y ∧ x.Keeps y [.acc] ∧ ∀ k, y.A k = if k < 4 ∧ w.testBit k then 0 else x.A k := by
  refine AeDoes.of_data (fun w x => .ok (iterate 4 (aclrTurn w) x)) rfl rfl fun w x _ => ⟨_, rfl, ?_⟩
  obtain ⟨goes, keeps⟩ := (Ae.Works.iterate 4 (aclrTurn w) (fun k y => (aclrTurn_writes w k y).1) x.begun).next
  have value := Ae.A_iterate (aclrTurn w) (fun k a => if w.testBit k then 0 else a) (fun k y => (aclrTurn_writes w k y).2) 4 x.begun
  refine ⟨goes, keeps, fun k => (value k).trans ?_⟩
  by_cases low : k < 4
  · rw [if_pos low]; simp [low]
  · rw [if_neg low]; simp [low]

theorem aeAsh_does (e : Nat) (s : State) : AeDoes (.aeAsh e) e 0x2A s (fun _ _ => True) fun w x y =>
    let n := an w; let sh := wrapBits 6 (bits w 20 15 : Nat)
    let v := if 0 ≤ sh then x.A n * 2 ^ sh.toNat else shrConv (x.A n) (-sh).toNat
    ((y.pc, y.loops) = aeLoopEnd x.pc x.loops ∧ y.cycles = x.cycles + 1 + (if 2 ^ n &&& x.wrote = 0 then 0 else 1)) ∧
    x.Keeps y [.acc, .sr] ∧ x.KeepsAcc y [n] ∧ y.A n = satBits 80 v ∧ x.Sticks y 1 (v != satBits 80 v) := by
  refine AeDoes.of_run (fun w => 2 ^ an w) 1 _ rfl rfl fun w x _ => ⟨_, rfl, ?_⟩
  let sh := wrapBits 6 (bits w 20 15 : Nat)
  let v := if 0 ≤ sh then x.A (an w) * 2 ^ sh.toNat else shrConv (x.A (an w)) (-sh).toNat
  let z := x.begunAt (x.cycles + 1 + (if 2 ^ an w &&& x.wrote = 0 then 0 else 1))
  obtain ⟨course, keeps⟩ := (z.works_setA (an w) v).nextAt
  refine ⟨course, keeps, fun j hj => ?_, (z.A_setA (an w) v (an w)).trans (if_pos rfl), z.sticks_setA (an w) v⟩
  exact (z.A_setA (an w) v j).trans (if_neg (by simpa using hj))

theorem one_add_stall (n r w : Nat) : n + 1 + (if r &&& w = 0 then 0 else 1) = n + (if r &&& w = 0 then 1 else 2) := by
  split <;> rfl

/-- Settles O14: each instruction by what it writes to accumulators and data registers. -/
theorem aeAccumulators : Obligations.AeAccumulators := by
  refine ⟨fun e s => ⟨?_, ?_, ?_, ?_, ?_, ?_, ?_⟩, fun e s => ⟨?_, ?_, aeAclr_does e s, ?_⟩⟩
  · exact AeDoes.of_product (fun _ p => p) rfl rfl
  · exact AeDoes.of_product (fun a p => a + p) rfl rfl
  · exact AeDoes.of_product (fun a p => a - p) rfl rfl
  · simpa only [cmulExact_eq] using AeDoes.of_cplxAcc32 (s := s) (i := .aeCmpy32 e) false rfl rfl
  · simpa only [cmulExact_eq] using AeDoes.of_cplxAcc32 (s := s) (i := .aeCmac32 e) true rfl rfl
  · simpa only [cmulExact_eq, startHalves, Bool.false_eq_true, if_false] using
      AeDoes.of_cplxAcc16 (s := s) (i := .aeCmpy16 e) false rfl rfl
  · simpa only [cmulExact_eq, startHalves, if_true] using AeDoes.of_cplxAcc16 (s := s) (i := .aeCmac16 e) true rfl rfl
  · refine (aeMva_does e s).mono fun w x y ⟨⟨course, cycles⟩, keeps, data, value, sticks⟩ => ?_
    refine ⟨⟨course, by rw [cycles, one_add_stall]; rfl⟩, keeps, data, ?_⟩
    exact x.mvaResult_reads value sticks
  · exact aeMvda_does e s
  · refine (aeAsh_does e s).mono fun w x y ⟨⟨course, cycles⟩, keeps, acc, value, sticks⟩ => ?_
    exact ⟨⟨course, by rw [cycles, one_add_stall]⟩, keeps, acc, value, sticks⟩

end Sys2Proof.Machine
end

section
/-! ## Memory operands (R224, R234 to R236) -/

namespace Sys2Proof.Machine

section
variable (x : Ae)

/-- A pointer brought into range: the pointers and MWRAP alone. -/
theorem Ae.works_usePtr (p : Nat) : x.Works (x.usePtr p) [.ptr, .sr] := by
  unfold Ae.usePtr
  simp only
  split
  · refine ⟨⟨rfl, fun q hq => ?_⟩, rfl, rfl, rfl⟩
    cases q with
    | ptr | sr => simp at hq
    | addr | mem => exact ⟨rfl, rfl, rfl⟩
    | _ => rfl
  · exact (Ae.Works.refl x).mono (by simp)

theorem Ae.works_step (p am : Nat) : x.Works (x.step p am) [.ptr] := by
  refine ⟨⟨rfl, fun q hq => ?_⟩, rfl, rfl, rfl⟩
  cases q with
  | ptr => simp at hq
  | addr | mem => exact ⟨rfl, rfl, rfl⟩
  | _ => rfl

theorem Ae.works_setMem (bk a v : Nat) : x.Works (x.setMem bk a v) [.mem] := by
  unfold Ae.setMem
  simp only
  split
  all_goals
    refine ⟨⟨rfl, fun q hq => ?_⟩, rfl, rfl, rfl⟩
    cases q with
    | mem => simp at hq
    | addr => exact ⟨rfl, rfl, rfl⟩
    | _ => rfl

/-- A word of data memory written: that word and no other. -/
theorem Ae.mem_setMem {bk : Nat} (hb : bk < 2) (a v : Nat) {bk' : Nat} (hb' : bk' < 2) (a' : Nat) :
    (x.setMem bk a v).mem bk' a' = if bk' = bk ∧ a' = a then v else x.mem bk' a' := by
  have other (m : Map Nat) (h : a' ≠ a) : mget 0 (mset 0 m a v) a' = mget 0 m a' := mget_mset_other 0 0 m v h
  match bk, hb, bk', hb' with
  | 0, _, 0, _ | 1, _, 1, _ =>
    by_cases h : a' = a
    · subst h; simp [Ae.setMem, Ae.mem]
    · simp [Ae.setMem, Ae.mem, h, other]
  | 0, _, 1, _ | 1, _, 0, _ => simp [Ae.setMem, Ae.mem]

theorem Ae.usePtr_begun (p : Nat) : x.begun.usePtr p = (x.usePtr p).begun := by
  by_cases h : mget 0 x.l p ≠ 0 ∧ mget 0 x.l p ≤ mget 0 x.p p
  · exact (if_pos h).trans (congrArg Ae.begun (show x.usePtr p = _ from if_pos h).symm)
  · exact (if_neg h).trans (congrArg Ae.begun (show x.usePtr p = _ from if_neg h).symm)

theorem Ae.operand_ok {p am : Nat} (h : am = 2 → x.revOk p = true) : x.operand p am = .ok (x.usePtr p) := by
  refine if_neg fun ⟨two, bad⟩ => ?_
  rw [h two] at bad
  cases bad

/-- Where a pointer goes depends on the address registers alone. -/
theorem Ae.step_congr {y : Ae} (h : AePart.addr.Same x y) (g : AePart.ptr.Same x y) (p am : Nat) : (y.step p am).p = (x.step p am).p := by
  obtain ⟨m, l, -⟩ := h
  have p' : y.p = x.p := g
  simp only [Ae.step, m, l, p']

theorem Ae.steps_congr {y : Ae} (h : AePart.addr.Same x y) (g : AePart.ptr.Same x y) (p am q bm : Nat) :
    ((y.step p am).step q bm).p = ((x.step p am).step q bm).p :=
  (x.step p am).step_congr (y := y.step p am) h (x.step_congr h g p am) q bm

theorem Ae.revOk_congr {y : Ae} (h : y.l = x.l) (p : Nat) : y.revOk p = x.revOk p := by simp only [Ae.revOk, h]

theorem Ae.l_usePtr (p : Nat) : (x.usePtr p).l = x.l := ((x.works_usePtr p).1.2 .addr (by simp)).2.1

theorem Ae.bad_usePtr (p : Nat) : (x.usePtr p).bad = x.bad := ((x.works_usePtr p).1.2 .mem (by simp)).2.2

theorem Ae.D_usePtr (p j : Nat) : (x.usePtr p).D j = x.D j :=
  congrArg (mget 0 · j) ((x.works_usePtr p).1.2 .data (by simp))

theorem Ae.A_usePtr (p j : Nat) : (x.usePtr p).A j = x.A j :=
  congrArg (mget 0 · j) ((x.works_usePtr p).1.2 .acc (by simp))

theorem Ae.D_step (p am j : Nat) : (x.step p am).D j = x.D j := rfl

theorem Ae.A_step (p am j : Nat) : (x.step p am).A j = x.A j := rfl

theorem Ae.mem_step (p am bk a : Nat) : (x.step p am).mem bk a = x.mem bk a := rfl

theorem Ae.mem_next (bk a : Nat) : x.next.mem bk a = x.mem bk a := rfl

theorem Ae.D_begun (j : Nat) : x.begun.D j = x.D j := rfl

theorem Ae.mem_keeps {y : Ae} {l : List AePart} (h : x.Works y l) (hm : .mem ∉ l) (bk a : Nat) : y.mem bk a = x.mem bk a := by
  obtain ⟨hx, hy, -⟩ := h.1.2 .mem hm
  simp only [Ae.mem, hx, hy]

theorem Ae.A_setMem (bk a v j : Nat) : (x.setMem bk a v).A j = x.A j :=
  congrArg (mget 0 · j) ((x.works_setMem bk a v).1.2 .acc (by simp))

theorem Ae.mem_usePtr (p bk a : Nat) : (x.usePtr p).mem bk a = x.mem bk a := x.mem_keeps (x.works_usePtr p) (by simp) bk a

/-- An operand's pointer as an instruction first uses it. -/
theorem Ae.works_usePtr_begun (p : Nat) : x.begun.Works (x.usePtr p).begun [.ptr, .sr] :=
  x.usePtr_begun p ▸ x.begun.works_usePtr p

theorem Ae.operand_begun {p am : Nat} (h : am = 2 → x.revOk p = true) : x.begun.operand p am = .ok (x.usePtr p).begun :=
  (x.begun.operand_ok h).trans (congrArg _ (x.usePtr_begun p))

/-- A whole word is read. -/
theorem Ae.load_ok {bk a : Nat} (h : x.poisoned (dataOff bk a) = false) : x.load bk a = .ok (x.mem bk a) :=
  if_neg (by simp [h])

theorem Ae.poisoned_congr {y : Ae} (h : y.bad = x.bad) (o : Nat) : y.poisoned o = x.poisoned o := by simp only [Ae.poisoned, h]

end

/-- The words an instruction reads after its pointers came into range. -/
theorem Ae.load_usePtr (x : Ae) {p bk a : Nat} (h : x.poisoned (dataOff bk a) = false) :
    (x.usePtr p).begun.load bk a = .ok (x.mem bk a) := by
  have clear : (x.usePtr p).begun.poisoned (dataOff bk a) = false := (Ae.poisoned_congr x (x.bad_usePtr p) _).trans h
  exact ((x.usePtr p).begun.load_ok clear).trans (congrArg _ (x.mem_usePtr p _ _))

/-- The second operand of an instruction with two. -/
theorem Ae.operand_usePtr (x : Ae) (p : Nat) {q am : Nat} (h : am = 2 → x.revOk q = true) :
    (x.usePtr p).begun.operand q am = .ok ((x.usePtr p).usePtr q).begun :=
  (x.usePtr p).operand_begun fun two => (Ae.revOk_congr x (x.l_usePtr p) q).trans (h two)

/-- A word read once both pointers came into range. -/
theorem Ae.load_usePtrs (x : Ae) {p q bk a : Nat} (h : x.poisoned (dataOff bk a) = false) :
    ((x.usePtr p).usePtr q).begun.load bk a = .ok (x.mem bk a) :=
  ((x.usePtr p).load_usePtr ((Ae.poisoned_congr x (x.bad_usePtr p) _).trans h)).trans (congrArg _ (x.mem_usePtr p _ _))

theorem Ae.works_usePtrs_begun (x : Ae) (p q : Nat) : x.begun.Works ((x.usePtr p).usePtr q).begun [.ptr, .sr] :=
  ((x.works_usePtr_begun p).trans ((x.usePtr p).works_usePtr_begun q)).mono (by simp)

theorem ok_bind {ε α β : Type} {m : Except ε α} {v : α} (h : m = .ok v) (f : α → Except ε β) : (m >>= f) = f v := by rw [h]; rfl

/-- LD and ST, LDXY and FTAP on an engine. -/
def ldStep (w : Nat) (x : Ae) : AeStep := do
  let x ← x.operand (bits w 18 16) (bits w 14 13)
  let v ← x.load (bits w 15 15) (x.addr (bits w 18 16))
  .ok ((x.setD (fd w) v).step (bits w 18 16) (bits w 14 13))

def stStep (w : Nat) (x : Ae) : AeStep := do
  let x ← x.operand (bits w 18 16) (bits w 14 13)
  .ok ((x.setMem (bits w 15 15) (x.addr (bits w 18 16)) (x.D (fd w))).step (bits w 18 16) (bits w 14 13))

def ldxyStep (w : Nat) (x : Ae) : AeStep := do
  let x ← x.operand (bits w 18 16) (bits w 15 14)
  let x ← x.operand (bits w 9 7) (bits w 6 5)
  let vx ← x.load 0 (x.addr (bits w 18 16))
  let vy ← x.load 1 (x.addr (bits w 9 7))
  .ok ((((x.setD (fd w) vx).setD (bits w 13 10) vy).step (bits w 18 16) (bits w 15 14)).step (bits w 9 7) (bits w 6 5))

/-- FTAP's sum, and the word after the one of X. -/
def tapSum (w : Nat) (a q : Int) : Int := if w.testBit 10 then a - q else a + q

def Ae.wordAfter (x : Ae) (p : Nat) : Nat :=
  (mget 0 x.b p + (mget 0 x.p p + 1) % (if mget 0 x.l p = 0 then 32768 else mget 0 x.l p)) % 32768

theorem Ae.wordAfter_congr {x y : Ae} (h : AePart.addr.Same x y) (g : AePart.ptr.Same x y) (p : Nat) : y.wordAfter p = x.wordAfter p := by
  obtain ⟨-, l, b⟩ := h
  have p' : y.p = x.p := g
  simp only [Ae.wordAfter, l, b, p']

def ftapStep (w : Nat) (x : Ae) : AeStep := do
  let x ← x.operand (bits w 20 18) (bits w 17 16)
  let x ← x.operand (bits w 15 13) (bits w 12 11)
  let vx ← x.load 0 (x.addr (bits w 20 18))
  let vy ← x.load 1 (x.addr (bits w 15 13))
  let z := x.setA (bits w 22 21) (tapSum w (x.A (bits w 22 21)) ((cplx32 vx).2 * (cplx32 vy).2))
  .ok (((z.setMem 0 (z.wordAfter (bits w 20 18)) vx).step (bits w 20 18) (bits w 17 16)).step (bits w 15 13) (bits w 12 11))

/-- The address mode of an operand that the pointer's length admits, and the word it names whole (R224, R235). -/
abbrev Ae.Admits (x : Ae) (p am : Nat) : Prop := am = 2 → x.revOk p = true

abbrev Ae.Whole (x u : Ae) (bk p : Nat) : Prop := x.poisoned (dataOff bk (u.addr p)) = false

theorem aeLd_does (e : Nat) (s : State) :
    AeDoes (.aeLd e) e 0x01 s (fun w x => x.Admits (bits w 18 16) (bits w 14 13) ∧
        x.Whole (x.usePtr (bits w 18 16)) (bits w 15 15) (bits w 18 16)) fun w x y =>
      let p := bits w 18 16; let u := x.usePtr p
      x.Goes y ∧ x.Keeps y [.data, .ptr, .sr] ∧ x.KeepsData y [fd w] ∧ y.p = (u.step p (bits w 14 13)).p ∧ y.sr = u.sr ∧
      y.D (fd w) = x.mem (bits w 15 15) (u.addr p) % 2 ^ 64 := by
  refine AeDoes.of_data ldStep rfl rfl fun w x ⟨rev, whole⟩ => ?_
  let p := bits w 18 16
  let am := bits w 14 13
  let u := x.usePtr p
  let v := x.mem (bits w 15 15) (u.addr p)
  have works : x.begun.Works ((u.begun.setD (fd w) v).step p am) [.data, .ptr, .sr] :=
    (((x.works_usePtr_begun p).trans (Ae.works_setD _ (fd w) v)).trans (Ae.works_step _ p am)).mono (by simp)
  obtain ⟨goes, keeps⟩ := works.next
  refine ⟨_, (ok_bind (x.operand_begun rev) _).trans (ok_bind (x.load_usePtr whole) _), goes, keeps, fun j hj => ?_, rfl, rfl, ?_⟩
  · rw [Ae.D_next, Ae.D_step, Ae.D_setD, if_neg (by simpa using hj), Ae.D_begun, Ae.D_usePtr]
  · rw [Ae.D_next, Ae.D_step, Ae.D_setD, if_pos rfl]

theorem aeSt_does (e : Nat) (s : State) :
    AeDoes (.aeSt e) e 0x02 s (fun w x => x.Admits (bits w 18 16) (bits w 14 13)) fun w x y =>
      let p := bits w 18 16; let u := x.usePtr p
      x.Goes y ∧ x.Keeps y [.mem, .ptr, .sr] ∧ y.p = (u.step p (bits w 14 13)).p ∧ y.sr = u.sr ∧
      ∀ bk < 2, ∀ a, y.mem bk a = if bk = bits w 15 15 ∧ a = u.addr p then x.D (fd w) else x.mem bk a := by
  refine AeDoes.of_data stStep rfl rfl fun w x rev => ?_
  let p := bits w 18 16
  let u := x.usePtr p
  let z := u.begun.setMem (bits w 15 15) (u.addr p) (u.D (fd w))
  have stored : u.begun.Works z [.mem] := Ae.works_setMem _ _ _ _
  obtain ⟨goes, keeps⟩ := (((x.works_usePtr_begun p).trans stored).trans (z.works_step p (bits w 14 13))).next
  refine ⟨_, ok_bind (x.operand_begun rev) _, goes, ?_, ?_, stored.1.2 .sr (by simp), fun bk hb a => ?_⟩
  · exact ⟨keeps.1, fun q hq => keeps.2 q (by simp at hq ⊢; tauto)⟩
  · exact u.step_congr (y := z) (stored.1.2 .addr (by simp)) (stored.1.2 .ptr (by simp)) p (bits w 14 13)
  · have same : u.begun.mem bk a = x.mem bk a := x.mem_usePtr p bk a
    have stored : u.begun.D (fd w) = x.D (fd w) := x.D_usePtr p (fd w)
    rw [Ae.mem_next, Ae.mem_step, u.begun.mem_setMem (bits_lt w 15 15) _ _ hb a, same, stored]
    rfl

theorem aeLdxy_does (e : Nat) (s : State) :
    AeDoes (.aeLdxy e) e 0x03 s (fun w x => x.Admits (bits w 18 16) (bits w 15 14) ∧ x.Admits (bits w 9 7) (bits w 6 5) ∧
        x.Whole ((x.usePtr (bits w 18 16)).usePtr (bits w 9 7)) 0 (bits w 18 16) ∧
        x.Whole ((x.usePtr (bits w 18 16)).usePtr (bits w 9 7)) 1 (bits w 9 7)) fun w x y =>
      let px := bits w 18 16; let py := bits w 9 7; let u := (x.usePtr px).usePtr py
      x.Goes y ∧ x.Keeps y [.data, .ptr, .sr] ∧ x.KeepsData y [fd w, bits w 13 10] ∧ y.sr = u.sr ∧
      y.p = ((u.step px (bits w 15 14)).step py (bits w 6 5)).p ∧
      (fd w ≠ bits w 13 10 → y.D (fd w) = x.mem 0 (u.addr px) % 2 ^ 64) ∧ y.D (bits w 13 10) = x.mem 1 (u.addr py) % 2 ^ 64 := by
  refine AeDoes.of_data ldxyStep rfl rfl fun w x ⟨revX, revY, wholeX, wholeY⟩ => ?_
  let px := bits w 18 16
  let py := bits w 9 7
  let u := (x.usePtr px).usePtr py
  let z := (u.begun.setD (fd w) (x.mem 0 (u.addr px))).setD (bits w 13 10) (x.mem 1 (u.addr py))
  have loaded : u.begun.Works z [.data, .data] := (Ae.works_setD _ _ _).trans (Ae.works_setD _ _ _)
  have stepped := (z.works_step px (bits w 15 14)).trans (Ae.works_step _ py (bits w 6 5))
  obtain ⟨goes, keeps⟩ := ((((x.works_usePtrs_begun px py).trans loaded).trans stepped).mono (m := [.data, .ptr, .sr]) (by simp)).next
  have value (j : Nat) : z.D j = if j = bits w 13 10 then x.mem 1 (u.addr py) % 2 ^ 64 else
      if j = fd w then x.mem 0 (u.addr px) % 2 ^ 64 else x.D j := by
    rw [Ae.D_setD, Ae.D_setD, Ae.D_begun, Ae.D_usePtr, Ae.D_usePtr]
  have run : ldxyStep w x.begun = .ok ((z.step px (bits w 15 14)).step py (bits w 6 5)) :=
    (ok_bind (x.operand_begun revX) _).trans <| (ok_bind (x.operand_usePtr px revY) _).trans <|
      (ok_bind (x.load_usePtrs wholeX) _).trans (ok_bind (x.load_usePtrs wholeY) _)
  refine ⟨_, run, goes, keeps, fun j hj => ?_, loaded.1.2 .sr (by simp),
    u.steps_congr (y := z) (loaded.1.2 .addr (by simp)) (loaded.1.2 .ptr (by simp)) _ _ _ _, fun ne => ?_, ?_⟩
  · obtain ⟨h₀, h₁⟩ : j ≠ fd w ∧ j ≠ bits w 13 10 := by simpa using hj
    rw [Ae.D_next, Ae.D_step, Ae.D_step, value, if_neg h₁, if_neg h₀]
  · rw [Ae.D_next, Ae.D_step, Ae.D_step, value, if_neg ne, if_pos rfl]
  · rw [Ae.D_next, Ae.D_step, Ae.D_step, value, if_pos rfl]

theorem aeFtap_does (e : Nat) (s : State) :
    AeDoes (.aeFtap e) e 0x04 s (fun w x => x.Admits (bits w 20 18) (bits w 17 16) ∧ x.Admits (bits w 15 13) (bits w 12 11) ∧
        x.Whole ((x.usePtr (bits w 20 18)).usePtr (bits w 15 13)) 0 (bits w 20 18) ∧
        x.Whole ((x.usePtr (bits w 20 18)).usePtr (bits w 15 13)) 1 (bits w 15 13)) fun w x y =>
      let n := bits w 22 21; let px := bits w 20 18; let py := bits w 15 13; let u := (x.usePtr px).usePtr py
      let vx := x.mem 0 (u.addr px); let q := (cplx32 vx).2 * (cplx32 (x.mem 1 (u.addr py))).2
      let sum := if w.testBit 10 then x.A n - q else x.A n + q
      let l := mget 0 x.l px
      let next := (mget 0 x.b px + (mget 0 u.p px + 1) % (if l = 0 then 32768 else l)) % 32768
      x.Goes y ∧ x.Keeps y [.acc, .mem, .ptr, .sr] ∧ x.KeepsAcc y [n] ∧ y.A n = satBits 80 sum ∧
      u.Sticks y 1 (sum != satBits 80 sum) ∧ y.p = ((u.step px (bits w 17 16)).step py (bits w 12 11)).p ∧
      ∀ bk < 2, ∀ a, y.mem bk a = if bk = 0 ∧ a = next then vx else x.mem bk a := by
  refine AeDoes.of_data ftapStep rfl rfl fun w x ⟨revX, revY, wholeX, wholeY⟩ => ?_
  let n := bits w 22 21
  let px := bits w 20 18
  let py := bits w 15 13
  let u := (x.usePtr px).usePtr py
  let vx := x.mem 0 (u.addr px)
  let q := (cplx32 vx).2 * (cplx32 (x.mem 1 (u.addr py))).2
  let sum := if w.testBit 10 then x.A n - q else x.A n + q
  let z := u.begun.setA n (tapSum w (u.begun.A n) q)
  let t := z.setMem 0 (z.wordAfter px) vx
  have same (k : Nat) : u.begun.A k = x.A k := ((x.usePtr px).A_usePtr py k).trans (x.A_usePtr px k)
  have summed : u.begun.Works z [.acc, .sr] := Ae.works_setA _ _ _
  have stored : z.Works t [.mem] := Ae.works_setMem _ _ _ _
  have worked : u.begun.Works t [.acc, .sr, .mem] := Ae.Works.trans summed stored
  have stepped := (t.works_step px (bits w 17 16)).trans (Ae.works_step _ py (bits w 12 11))
  obtain ⟨goes, keeps⟩ := ((((x.works_usePtrs_begun px py).trans worked).trans stepped).mono
    (m := [.acc, .mem, .ptr, .sr]) (by simp)).next
  have run : ftapStep w x.begun = .ok ((t.step px (bits w 17 16)).step py (bits w 12 11)) :=
    (ok_bind (x.operand_begun revX) _).trans <| (ok_bind (x.operand_usePtr px revY) _).trans <|
      (ok_bind (x.load_usePtrs wholeX) _).trans (ok_bind (x.load_usePtrs wholeY) _)
  have value (j : Nat) : t.A j = if j = n then satBits 80 (tapSum w (x.A n) q) else x.A j := by
    rw [Ae.A_setMem, Ae.A_setA, same, same]
  refine ⟨_, run, goes, keeps, fun j hj => ?_, ?_, ?_,
    u.steps_congr (y := t) (worked.1.2 .addr (by simp)) (worked.1.2 .ptr (by simp)) _ _ _ _, fun bk hb a => ?_⟩
  · rw [Ae.A_next, Ae.A_step, Ae.A_step, value, if_neg (by simpa using hj)]
  · rw [Ae.A_next, Ae.A_step, Ae.A_step, value, if_pos rfl]; rfl
  · have sr : t.sr = z.sr := stored.1.2 .sr (by simp)
    have sticks : u.begun.Sticks z 1 (tapSum w (u.begun.A n) q != satBits 80 (tapSum w (u.begun.A n) q)) := u.begun.sticks_setA n _
    rw [same] at sticks
    exact ⟨(congrArg (·.testBit 1) sr).trans sticks.1, fun i hi => (congrArg (·.testBit i) sr).trans (sticks.2 i hi)⟩
  · have after : z.wordAfter px = u.wordAfter px :=
      Ae.wordAfter_congr (x := u.begun) (summed.1.2 .addr (by simp)) (summed.1.2 .ptr (by simp)) px
    obtain ⟨-, length, base⟩ := (x.works_usePtrs_begun px py).1.2 .addr (by simp)
    have word : u.wordAfter px = (mget 0 x.b px + (mget 0 u.p px + 1) % (if mget 0 x.l px = 0 then 32768 else mget 0 x.l px)) % 32768 := by
      rw [show x.b = u.b from base.symm, show x.l = u.l from length.symm]; rfl
    have before : z.mem bk a = x.mem bk a :=
      (u.begun.mem_keeps summed (by simp) bk a).trans (((x.usePtr px).mem_usePtr py bk a).trans (x.mem_usePtr px bk a))
    rw [Ae.mem_next, Ae.mem_step, Ae.mem_step, z.mem_setMem (by decide) _ _ hb a, after, word, before]

end Sys2Proof.Machine
end

section
/-! ## Special registers (R227, R239) -/

namespace Sys2Proof.Machine

section
variable (x : Ae) (k : Nat)

theorem Ae.spr_p (m : Map Nat) : Ae.spr { x with p := m } k = if k < 8 then mget 0 m k else x.spr k := by
  unfold Ae.spr; split_ifs <;> rfl

theorem Ae.spr_m (m : Map Int) : Ae.spr { x with m := m } k = if 8 ≤ k ∧ k < 16 then toU 64 (mget 0 m (k - 8)) else x.spr k := by
  unfold Ae.spr; split_ifs <;> solve | omega | rfl

theorem Ae.spr_l (m : Map Nat) : Ae.spr { x with l := m } k = if 16 ≤ k ∧ k < 24 then mget 0 m (k - 16) else x.spr k := by
  unfold Ae.spr; split_ifs <;> solve | omega | rfl

theorem Ae.spr_b (m : Map Nat) : Ae.spr { x with b := m } k = if 24 ≤ k ∧ k < 32 then mget 0 m (k - 24) else x.spr k := by
  unfold Ae.spr; split_ifs <;> solve | omega | rfl

/-- Two engines that differ in a register without an index alone. -/
theorem Ae.spr_indexed {y : Ae} (p : y.p = x.p) (a : AePart.addr.Same x y) (h : k < 32) : y.spr k = x.spr k := by
  obtain ⟨m, l, b⟩ := a
  unfold Ae.spr
  rw [p, m, l, b]
  split_ifs <;> rfl

/-- What a special register holds of a value written. -/
def sprHeld (n v : Nat) : Nat :=
  if n < 8 then v % 65536 else if n < 16 then toU 64 (wrapBits 16 (v : Nat)) else if n < 32 then v % 65536 else
  if n = 32 then v % 256 else if n = 33 then v % 8 else if n = 34 then v % 16 ||| 1 else v % 65536

/-- A map read at one place after a write at another or the same. -/
theorem mget_mset {α : Type} [DecidableEq α] (d : α) (m : Map α) (k j : Nat) (v : α) :
    mget d (mset d m k v) j = if j = k then v else mget d m j := by
  split
  next h => rw [h, mget_mset_same]
  next h => exact mget_mset_other d d m v h

/-- A write that leaves the address registers alone changes one of the other special registers. -/
theorem Ae.spr_single {y : Ae} {n v : Nat} (p : y.p = x.p) (a : AePart.addr.Same x y) (own : y.spr n = sprHeld n v)
    (others : ∀ j ∈ [32, 33, 34, 36], j ≠ n → y.spr j = x.spr j) (hk : k ≤ 36) (hl : k ≠ 35) :
    y.spr k = if k = n then sprHeld n v else x.spr k := by
  split_ifs with e
  · rw [e, own]
  · by_cases low : k < 32
    · exact x.spr_indexed k p a low
    · exact others k (by simp; omega) e

/-- A write of an address register. -/
theorem Ae.spr_setSpr_address {n : Nat} (v : Nat) (h : n < 32) : (x.setSpr n v).spr k = if k = n then sprHeld n v else x.spr k := by
  by_cases own : k = n
  · subst own
    rw [if_pos rfl]
    unfold Ae.setSpr sprHeld
    split_ifs with h8 h16 h24
    · rw [x.spr_p, mget_mset_same, if_pos h8]
    · rw [x.spr_m, mget_mset_same, if_pos ⟨by omega, h16⟩]
    · rw [x.spr_l, mget_mset_same, if_pos ⟨by omega, h24⟩]
    · rw [x.spr_b, mget_mset_same, if_pos ⟨by omega, h⟩]
  · rw [if_neg own]
    unfold Ae.setSpr
    split_ifs with h8 h16 h24
    · rw [x.spr_p, mget_mset_other _ _ _ _ own]
      unfold Ae.spr
      split_ifs <;> rfl
    · rw [x.spr_m]
      split_ifs with bank
      · rw [mget_mset_other _ _ _ _ (by omega)]
        unfold Ae.spr
        rw [if_neg (by omega), if_pos bank.2]
      · rfl
    · rw [x.spr_l]
      split_ifs with bank
      · rw [mget_mset_other _ _ _ _ (by omega)]
        unfold Ae.spr
        rw [if_neg (by omega), if_neg (by omega), if_pos bank.2]
      · rfl
    · rw [x.spr_b]
      split_ifs with bank
      · rw [mget_mset_other _ _ _ _ (by omega)]
        unfold Ae.spr
        rw [if_neg (by omega), if_neg (by omega), if_neg (by omega), if_pos bank.2]
      · rfl

theorem Ae.spr_setSpr {n v : Nat} (ok : sprWritable n v = true) (hk : k ≤ 36) (hl : k ≠ 35) :
    (x.setSpr n v).spr k = if k = n then sprHeld n v else x.spr k := by
  by_cases address : n < 32
  · exact x.spr_setSpr_address k v address
  · obtain rfl | rfl | rfl | rfl : n = 32 ∨ n = 33 ∨ n = 34 ∨ n = 36 := by
      unfold sprWritable at ok
      split_ifs at ok <;> first | omega | (simp at ok; omega)
    all_goals exact x.spr_single k rfl ⟨rfl, rfl, rfl⟩ (by simp [Ae.setSpr, Ae.spr, sprHeld]) (by simp [Ae.setSpr, Ae.spr]) hk hl

theorem Ae.works_setSpr (n v : Nat) : x.Works (x.setSpr n v) [.ptr, .addr, .exp, .sr, .cr, .woke] := by
  unfold Ae.setSpr
  split_ifs
  all_goals
    refine ⟨⟨rfl, fun q hq => ?_⟩, rfl, rfl, rfl⟩
    cases q with
    | ptr | addr | exp | sr | cr | woke => simp at hq
    | mem => exact ⟨rfl, rfl, rfl⟩
    | _ => rfl

end

section
variable (x : Ae)

/-- The end of an instruction and its beginning change no register but CYCLE and LC. -/
theorem Ae.spr_next {k : Nat} (hk : k ≤ 36) (hl : k ≠ 35) : x.next.spr k = x.spr k := by
  by_cases low : k < 32
  · exact x.spr_indexed k rfl ⟨rfl, rfl, rfl⟩ low
  · obtain rfl | rfl | rfl | rfl : k = 32 ∨ k = 33 ∨ k = 34 ∨ k = 36 := by omega
    all_goals rfl

theorem Ae.spr_begun {k : Nat} (hk : k ≤ 36) : x.begun.spr k = x.spr k := by
  by_cases low : k < 32
  · exact x.spr_indexed k rfl ⟨rfl, rfl, rfl⟩ low
  · obtain rfl | rfl | rfl | rfl | rfl : k = 32 ∨ k = 33 ∨ k = 34 ∨ k = 35 ∨ k = 36 := by omega
    all_goals rfl

/-- A write of special register `n` over the engine, and the end of its instruction. -/
theorem Ae.setSpr_kept {n v : Nat} (ok : sprWritable n v = true) :
    let y := (x.begun.setSpr n v).next
    (x.Goes y ∧ y.prog = x.prog ∧ AePart.data.Same x y ∧ AePart.acc.Same x y ∧ AePart.mem.Same x y ∧ AePart.calls.Same x y ∧
      ∀ k ≤ 36, k ≠ n → k ≠ 35 → y.spr k = x.spr k) ∧ y.spr n = sprHeld n v := by
  obtain ⟨goes, prog, keeps⟩ := (x.begun.works_setSpr n v).next
  have number : n ≤ 36 ∧ n ≠ 35 := by
    unfold sprWritable at ok
    split_ifs at ok <;> first | omega | (simp at ok; omega)
  refine ⟨⟨goes, prog, keeps .data (by simp), keeps .acc (by simp), keeps .mem (by simp), keeps .calls (by simp),
    fun k hk hn hl => ?_⟩, ?_⟩
  · rw [Ae.spr_next _ hk hl, x.begun.spr_setSpr k ok hk hl, if_neg hn, x.spr_begun hk]
  · rw [Ae.spr_next _ number.1 number.2, x.begun.spr_setSpr n ok number.1 number.2, if_pos rfl]

end

/-- AREG, MVTA and MVFA on an engine. -/
theorem AeDoes.of_setSpr {i : Instr} {e op : Nat} {s : State} (number : Nat → Nat) (value : Nat → Ae → Nat)
    (begun : ∀ w x, value w (Ae.begun x) = value w x)
    (hi : exec i s = s.answerCell fun d => d.liveIf (e < 2) fun d => d.aeData e op fun w x =>
      if sprWritable (number w) (value w x) then .ok (x.setSpr (number w) (value w x)) else .error Code.AE_ILLEGAL)
    (t : aeLegal.contains op = true) :
    AeDoes i e op s (fun w x => sprWritable (number w) (value w x) = true) fun w x y =>
      (x.Goes y ∧ y.prog = x.prog ∧ AePart.data.Same x y ∧ AePart.acc.Same x y ∧ AePart.mem.Same x y ∧ AePart.calls.Same x y ∧
        ∀ k ≤ 36, k ≠ number w → k ≠ 35 → y.spr k = x.spr k) ∧ y.spr (number w) = sprHeld (number w) (value w x) := by
  refine AeDoes.of_data _ hi t fun w x ok => ⟨x.begun.setSpr (number w) (value w x), ?_, x.setSpr_kept ok⟩
  have same := begun w x
  rw [← same] at ok ⊢
  exact if_pos ok

theorem aeMvfa_does (e : Nat) (s : State) :
    AeDoes (.aeMvfa e) e 0x0D s (fun w _ => bits w 18 13 ≤ 37) fun w x y =>
      x.Goes y ∧ x.Keeps y [.data] ∧ x.KeepsData y [fd w] ∧
      y.D (fd w) = if bits w 18 13 = 37 then y.cycles % 2 ^ 32 else x.spr (bits w 18 13) % 2 ^ 64 := by
  refine AeDoes.of_data _ rfl rfl fun w x low => ⟨x.begun.setD (fd w) (x.begun.spr (bits w 18 13)), if_pos low, ?_⟩
  obtain ⟨goes, keeps⟩ := (x.begun.works_setD (fd w) (x.begun.spr (bits w 18 13))).next
  refine ⟨goes, keeps, fun j hj => ?_, ?_⟩
  · rw [Ae.D_next, Ae.D_setD, if_neg (by simpa using hj), Ae.D_begun]
  · rw [Ae.D_next, Ae.D_setD, if_pos rfl]
    split_ifs with cycle
    · have counted : x.begun.spr 37 = (x.cycles + 1) % 4294967296 := rfl
      rw [cycle, counted]
      exact Nat.mod_eq_of_lt (lt_trans (Nat.mod_lt _ (by decide)) (by decide))
    · rw [x.spr_begun (by omega)]

/-- Settles O15: each operand's pointer is brought into range, its word read or written, then the pointer moved; a special register
is written to its width. -/
theorem aeMemoryAndSpecial : Obligations.AeMemoryAndSpecial :=
  ⟨fun e s => ⟨aeLd_does e s, aeSt_does e s, aeLdxy_does e s, aeFtap_does e s⟩, fun e s =>
    ⟨AeDoes.of_setSpr (fun w => 8 * bits w 22 21 + bits w 20 18) (fun w _ => bits w 15 0) (fun _ _ => rfl) rfl rfl,
      AeDoes.of_setSpr (fun w => bits w 18 13) (fun w x => x.D (fd w)) (fun _ _ => rfl) rfl rfl, aeMvfa_does e s⟩⟩

end Sys2Proof.Machine
end

section
/-! # The analysis engines: branches, stops and what is not executed (R237 to R245) -/

/-! ## Branches, calls and loops (R238, R240, R242) -/

namespace Sys2Proof.Machine

/-- An instruction that changes the course of the program alone. -/
theorem Ae.keeps_course (x : Ae) (pc cycles : Nat) (loops : List AeLoop) :
    x.Keeps { x with wrote := 0, cycles := cycles, pc := pc, loops := loops } [] := by
  refine ⟨rfl, fun p _ => ?_⟩
  cases p with
  | addr | mem => exact ⟨rfl, rfl, rfl⟩
  | _ => rfl

/-- An instruction that changes the course and the call stack alone. -/
theorem Ae.keeps_call (x : Ae) (pc cycles : Nat) (calls : List Nat) :
    x.Keeps { x with wrote := 0, cycles := cycles, calls := calls, pc := pc } [.calls] := by
  refine ⟨rfl, fun p hp => ?_⟩
  cases p with
  | calls => simp at hp
  | addr | mem => exact ⟨rfl, rfl, rfl⟩
  | _ => rfl

/-- The loops a branch leaves are the inner ones, up to the outermost whose range does not hold the target; those that stay hold it. -/
theorem leaveLoops_spec (target : Nat) (loops : List AeLoop) :
    ∃ inner, loops = inner ++ leaveLoops target loops ∧
      (∀ l ∈ leaveLoops target loops, l.first ≤ target ∧ target ≤ l.last) ∧
      (inner = [] ∨ ∃ front l, inner = front ++ [l] ∧ ¬(l.first ≤ target ∧ target ≤ l.last)) := by
  let p : AeLoop → Bool := fun l => decide (l.first ≤ target ∧ target ≤ l.last)
  let left := loops.reverse.dropWhile p
  refine ⟨left.reverse, ?_, fun l hl => ?_, ?_⟩
  · have split := congrArg List.reverse (loops.reverse.takeWhile_append_dropWhile (p := p))
    rw [List.reverse_reverse, List.reverse_append] at split
    exact split.symm
  · have kept : l ∈ loops.reverse.takeWhile p := List.mem_reverse.1 hl
    simpa [p] using List.mem_takeWhile_imp kept
  · cases h : left with
    | nil => exact .inl rfl
    | cons l r =>
      refine .inr ⟨r.reverse, l, by simp, ?_⟩
      have first := List.head_dropWhile_not p (l := loops.reverse) (by rw [show loops.reverse.dropWhile p = l :: r from h]; simp)
      simp only [show loops.reverse.dropWhile p = l :: r from h, List.head_cons] at first
      simpa [p] using first

theorem aeBr_does (e : Nat) (s : State) : AeDoes (.aeBr e) e 0x30 s (fun _ _ => True) fun w x y =>
    y.pc = bits w 13 0 ∧ y.cycles = x.cycles + 2 ∧ x.Keeps y [] ∧
    (∃ inner, x.loops = inner ++ y.loops ∧ (∀ l ∈ y.loops, l.first ≤ bits w 13 0 ∧ bits w 13 0 ≤ l.last) ∧
      (inner = [] ∨ ∃ front l, inner = front ++ [l] ∧ ¬(l.first ≤ bits w 13 0 ∧ bits w 13 0 ≤ l.last))) :=
  AeDoes.of_run (fun _ => 0) 2 _ rfl rfl fun w x _ =>
    ⟨_, rfl, rfl, by simp, x.keeps_course _ _ _, leaveLoops_spec (bits w 13 0) x.loops⟩

theorem aeCall_does (e : Nat) (s : State) : AeDoes (.aeCall e) e 0x31 s (fun _ x => x.calls.length < 8) fun w x y =>
    y.pc = bits w 13 0 ∧ y.cycles = x.cycles + 2 ∧ x.Keeps y [.calls] ∧ y.calls = (x.pc + 1) :: x.calls ∧ y.loops = x.loops :=
  AeDoes.of_run (fun _ => 0) 2 _ rfl rfl fun _ x room =>
    ⟨_, if_neg (Nat.not_le.2 room), rfl, by simp, x.keeps_call _ _ _, rfl, rfl⟩

theorem aeRet_does (e : Nat) (s : State) (pc : Nat) (r : List Nat) :
    AeDoes (.aeRet e) e 0x32 s (fun _ x => x.calls = pc :: r) fun _ x y =>
      y.pc = pc ∧ y.cycles = x.cycles + 2 ∧ x.Keeps y [.calls] ∧ y.calls = r ∧ y.loops = x.loops := by
  refine AeDoes.of_run (fun _ => 0) 2 _ rfl rfl fun w x held =>
    ⟨{ x with wrote := 0, cycles := x.cycles + 2, calls := r, pc := pc }, ?_, rfl, rfl, x.keeps_call _ _ _, rfl, rfl⟩
  simp only [held]
  simp

/-- A LOOP's count, the immediate one or a data register's (R240). -/
def loopCount (w : Nat) (x : Ae) : Nat := if w.testBit 22 then bits w 21 14 else x.D (bits w 21 18) % 65536

theorem aeLoop_enters (e : Nat) (s : State) :
    AeDoes (.aeLoop e) e 0x33 s (fun w x => x.pc < bits w 13 0 ∧ 0 < loopCount w x ∧ x.loops.length < 4) fun w x y =>
      y.pc = x.pc + 1 ∧ y.cycles = x.cycles + 1 ∧ x.Keeps y [] ∧
      y.loops = { first := x.pc + 1, last := bits w 13 0, count := loopCount w x } :: x.loops :=
  AeDoes.of_run (fun _ => 0) 1 _ rfl rfl fun _ x ⟨ahead, counted, room⟩ =>
    ⟨_, (if_neg (Nat.not_le.2 ahead)).trans ((if_neg counted.ne').trans (if_neg (Nat.not_le.2 room))), rfl, by simp,
      x.keeps_course _ _ _, rfl⟩

theorem aeLoop_skips (e : Nat) (s : State) :
    AeDoes (.aeLoop e) e 0x33 s (fun w x => x.pc < bits w 13 0 ∧ loopCount w x = 0) fun w x y =>
      y.pc = bits w 13 0 + 1 ∧ y.cycles = x.cycles + 1 ∧ x.Keeps y [] ∧ y.loops = x.loops :=
  AeDoes.of_run (fun _ => 0) 1 _ rfl rfl fun _ x ⟨ahead, zero⟩ =>
    ⟨_, (if_neg (Nat.not_le.2 ahead)).trans (if_pos zero), rfl, by simp, x.keeps_course _ _ _, rfl⟩

/-! ### The end of a loop's body (R240) -/

theorem aeLoopEnd_round {pc : Nat} {l : AeLoop} (r : List AeLoop) (ends : l.last = pc) (more : 1 < l.count) :
    aeLoopEnd pc (l :: r) = (l.first, { l with count := l.count - 1 } :: r) := by
  simp [aeLoopEnd, ends, more]

theorem aeLoopEnd_inside {pc : Nat} {l : AeLoop} (r : List AeLoop) (inside : l.last ≠ pc) : aeLoopEnd pc (l :: r) = (pc + 1, l :: r) := by
  simp [aeLoopEnd, inside]

theorem aeLoopEnd_outside {pc : Nat} {r : List AeLoop} (h : ∀ m ∈ r, m.last ≠ pc) : aeLoopEnd pc r = (pc + 1, r) := by
  cases r with
  | nil => rfl
  | cons m t => exact aeLoopEnd_inside t (h m (by simp))

theorem aeLoopEnd_leaves {pc : Nat} {l : AeLoop} {r : List AeLoop} (ends : l.last = pc) (last : l.count ≤ 1)
    (others : ∀ m ∈ r, m.last ≠ pc) : aeLoopEnd pc (l :: r) = (pc + 1, r) := by
  rw [aeLoopEnd, if_neg (by simp [ends]), if_neg (by omega), aeLoopEnd_outside others]

theorem aeNop_goes (e : Nat) (s : State) (H : Nat → Ae → Prop) :
    AeDoes (.aeNop e) e 0x00 s H fun w x y => H w x ∧ (y.pc, y.loops) = aeLoopEnd x.pc x.loops ∧ y.cycles = x.cycles + 1 :=
  AeDoes.of_data _ rfl rfl fun _ _ h => ⟨_, rfl, h, rfl, rfl⟩

/-- NOP at a place where the loops' end is known. -/
theorem aeNop_ends (e : Nat) (s : State) {H : Nat → Ae → Prop} (pc : Ae → Nat) (loops : Ae → List AeLoop)
    (h : ∀ w x, H w x → aeLoopEnd x.pc x.loops = (pc x, loops x)) :
    AeDoes (.aeNop e) e 0x00 s H fun _ x y => y.pc = pc x ∧ y.loops = loops x ∧ y.cycles = x.cycles + 1 := by
  refine (aeNop_goes e s H).mono fun w x y ⟨held, course, cycles⟩ => ?_
  rw [h w x held] at course
  exact ⟨congrArg Prod.fst course, congrArg Prod.snd course, cycles⟩

/-- Settles O16: a branch leaves the inner loops up to the outermost without its target; a loop's end is `aeLoopEnd`. -/
theorem aeBranchesAndLoops : Obligations.AeBranchesAndLoops := by
  refine ⟨fun e s => ⟨aeBr_does e s, aeCall_does e s, aeRet_does e s⟩, fun e s =>
    ⟨aeLoop_enters e s, aeLoop_skips e s, fun l r => ⟨?_, ?_, ?_⟩⟩⟩
  · exact aeNop_ends e s (fun _ => l.first) (fun _ => { l with count := l.count - 1 } :: r) fun w x ⟨held, ends, more⟩ => by
      rw [held, aeLoopEnd_round r ends more]
  · exact aeNop_ends e s (fun x => x.pc + 1) (fun _ => r) fun w x ⟨held, ends, last, others⟩ => by
      rw [held, aeLoopEnd_leaves ends last others]
  · exact aeNop_ends e s (fun x => x.pc + 1) (fun x => x.loops) fun w x ⟨held, inside⟩ => by
      rw [held, aeLoopEnd_inside r inside]

end Sys2Proof.Machine
end

section
/-! # How a command's answer is read -/

namespace Sys2Proof.Machine

/-- What the answer of a command may add to the device its meaning leaves: what waits of EVENT's vector, or is told of it. -/
def Dev.told (d : Dev) (pend vecs : List Nat) : Dev :=
  { d with serve := { d.serve with msixPend := pend }, resp := { d.resp with vectors := vecs } }

theorem Dev.tellEvent_told (d : Dev) (b : Nat) : ∃ pend vecs, d.tellEvent b = d.told pend vecs := by
  unfold Dev.tellEvent Dev.msi
  split_ifs <;> exact ⟨_, _, rfl⟩

theorem Dev.keeps_told (d : Dev) (pend vecs : List Nat) : d.Keeps (d.told pend vecs) [.serve] := by
  intro p hp
  cases p with
  | serve => simp at hp
  | _ => rfl

/-- The parts that the answer of a command of the cell leaves as they were. -/
abbrev beyondCell : List Part :=
  [.clk, .mem, .wall, .cpi, .io, .acts, .link, .ptp, .pair, .sett, .dma, .aon, .flash, .boot, .health, .power]

/-- A command's meaning leaves the device `d`: the answer is `d`, and what EVENT tells. -/
def Leaves (i : Instr) (s : State) (d : Dev) : Prop := exec i s = .next { s with dev := d.tellEvent s.dev.event }

section
variable {i : Instr} {s : State} {f : Dev → Dev} {d : Dev} {P : Dev → Dev → Prop}

theorem Leaves.does (h : Leaves i s d) (p : ∀ pend vecs, P s.found (d.told pend vecs)) : Does i s P := by
  obtain ⟨pend, vecs, told⟩ := d.tellEvent_told s.dev.event
  exact ⟨_, told ▸ h, p pend vecs⟩

/-- EVENT as it was tells nothing. -/
theorem Leaves.quietly (h : Leaves i s d) (event : d.event = s.dev.event) (p : P s.found d) : Does i s P :=
  ⟨d, d.tellEvent_none _ event ▸ h, p⟩

/-- A guard that lets every meaning pass on this state. -/
def State.Passes (s : State) (guard : Dev → (Dev → Dev) → Dev) : Prop := ∀ g, guard s.found g = g s.found

section
variable {guard : Dev → (Dev → Dev) → Dev} {l : List Part} (g : Dev → Dev) (pass : s.Passes guard) (result : g s.found = d)
  (keeps : s.found.Keeps d l)
include pass result keeps

/-- A command of the cell whose meaning passes its guard and leaves alone what lies beyond the cell. -/
theorem Leaves.cell (within : ∀ p ∈ beyondCell, p ∉ l := by decide)
    (hi : exec i s = s.answerCell fun d => guard d g := by rfl) : Leaves i s d := by
  obtain ⟨pend, vecs, told⟩ := d.tellEvent_told s.dev.event
  have kept : ∀ p ∈ beyondCell, p.Same s.found d := fun p hp => keeps p (within p hp)
  simp only [beyondCell, List.forall_mem_cons] at kept
  obtain ⟨clk, mem, wall, cpi, io, acts, link, ptp, pair, sett, dma, aon, flash, boot, health, power, -⟩ := kept
  simp only [Part.Same] at clk mem wall cpi io acts link ptp pair sett dma aon flash boot health power
  rw [Leaves, hi, State.answerCell, pass, result, told]
  simp only [Dev.told, clk, mem, wall, cpi, io, acts, link, ptp, pair, sett, dma, aon, flash, boot, health, power]
  rfl

/-- A command that stores nothing. -/
theorem Leaves.dry (within : ∀ p ∈ [Part.clk, .mem], p ∉ l := by decide)
    (hi : exec i s = s.answerDry fun d => guard d g := by rfl) : Leaves i s d := by
  obtain ⟨pend, vecs, told⟩ := d.tellEvent_told s.dev.event
  have clk : d.clk = s.dev.clk := keeps .clk (within .clk (by simp))
  have mem : d.mem = s.dev.mem := keeps .mem (within .mem (by simp))
  rw [Leaves, hi, State.answerDry, pass, result, told]
  simp only [Dev.told, ← clk, ← mem]

/-- A command that may store to memory. -/
theorem Leaves.full (within : Part.clk ∉ l := by decide) (hi : exec i s = s.answer fun d => guard d g := by rfl) : Leaves i s d := by
  obtain ⟨pend, vecs, told⟩ := d.tellEvent_told s.dev.event
  have clk : d.clk = s.dev.clk := keeps .clk within
  rw [Leaves, hi, State.answer, pass, result, told]
  simp only [Dev.told, ← clk]

end

/-- A command that may move the counters, and leaves them in their ranges. -/
theorem Leaves.clocked {guard : Dev → (Dev → Dev) → Dev} (g : Dev → Dev) (pass : s.Passes guard) (result : g s.found = d)
    (tick : d.clk.tick < 8) (cycle : d.clk.cycle64 < 2 ^ 64) (hi : exec i s = s.answerClk fun d => guard d g := by rfl) :
    Leaves i s d := by
  obtain ⟨pend, vecs, told⟩ := d.tellEvent_told s.dev.event
  rw [Leaves, hi, State.answerClk, pass, result, told]
  simp only [Dev.told, Clock.inRange tick cycle]

end

/-! ## A live module, and one past its start, does what a command's meaning says -/

theorem State.Live.passes {s : State} (h : s.Live) : s.Passes Dev.live := by
  have lit : s.found.dark = false := h
  simp [State.Passes, Dev.live, lit]

theorem State.Live.passesIf {s : State} (h : s.Live) {c : Prop} [Decidable c] (hc : c) : s.Passes fun d => d.liveIf c := by
  have lit : s.found.dark = false := h
  simp [State.Passes, Dev.liveIf, lit, hc]

theorem State.Up.passes {s : State} (h : s.Up) : s.Passes Dev.up := h.runs

theorem State.Up.passesIf {s : State} (h : s.Up) {c : Prop} [Decidable c] (hc : c) : s.Passes fun d => d.upIf c := by
  intro g
  exact (h.runs fun d => if decide c then g d else d.finish Code.OD_NO_ENTRY).trans (if_pos (decide_eq_true hc))

theorem Dev.Serves.passes {s : State} {r : Requester} {ix : Nat} (h : s.dev.Serves r ix) : s.Passes fun d => d.reached r ix := by
  obtain ⟨online, offered⟩ := h
  have on : s.found.online r = true := online
  intro g
  have served : (!s.found.boot.recovery || ix == 0x6020) = true := by
    rcases offered with off | page
    · have off' : s.found.boot.recovery = false := off
      simp [off']
    · simp [page]
  simp [Dev.reached, Dev.when, on, served]

end Sys2Proof.Machine
end

section
/-! # The analysis engines: stops, waits and what is not executed (R237, R241 to R245) -/

/-! ## HALT, SIG and WAIT (R241, R244, R245) -/

namespace Sys2Proof.Machine

/-- The entry types of an engine's signals and stop. -/
theorem odType_ofSignals {e : Nat} (he : e < 2) :
    odType (Reg.R3510_HALT_CODE e) = .u16 ∧ odType (Reg.R3510_STOP_PC e) = .u16 ∧ odType (Reg.R3510_DOORBELL e) = .u16 := by
  match e, he with
  | 0, _ => decide +kernel
  | 1, _ => decide +kernel

/-- Bits set and cleared in an entry of 16 bits. -/
theorem Dev.bit_orBits (d : Dev) {k : Nat} (type : odType k = .u16) (m : Nat) {i : Nat} (hi : i < 16) :
    (d.orBits k m).bit k i = (d.bit k i || m.testBit i) := by
  rw [Dev.bit, Dev.nat, Dev.orBits, Dev.reg_set_same, type, u16_wrap, Nat.testBit_mod_two_pow, Nat.testBit_or]
  simp [hi, Dev.bit]

/-- A number without the bits it has in common with another one. -/
theorem sub_and_eq_ldiff (v m : Nat) : v - (v &&& m) = Nat.ldiff v m := by
  induction v using Nat.binaryRec generalizing m with
  | zero => exact Nat.eq_of_testBit_eq fun i => by simp [Nat.testBit_ldiff]
  | bit b n ih =>
    obtain ⟨c, k, rfl⟩ : ∃ c k, m = Nat.bit c k := ⟨m.bodd, m.div2, (Nat.bit_bodd_div2 m).symm⟩
    have le : n &&& k ≤ n := Nat.and_le_left
    rw [Nat.land_bit, Nat.ldiff_bit, ← ih]
    cases b <;> cases c <;> simp [Nat.bit] <;> omega

theorem testBit_sub_and (v m i : Nat) : (v - (v &&& m)).testBit i = (v.testBit i && !m.testBit i) := by
  rw [sub_and_eq_ldiff, Nat.testBit_ldiff]

theorem Dev.bit_clearBits (d : Dev) {k : Nat} (type : odType k = .u16) (m : Nat) {i : Nat} (hi : i < 16) :
    (d.clearBits k m).bit k i = (d.bit k i && !m.testBit i) := by
  rw [Dev.bit, Dev.nat, Dev.clearBits, Dev.reg_set_same, type, u16_wrap, Nat.testBit_mod_two_pow, testBit_sub_and]
  simp [hi, Dev.bit]

/-- The engine HALT, SIG and WAIT begin with: its cycle counted. -/
theorem Dev.aeRun_idle (d : Dev) {e op : Nat} (h : d.aeDoes e op = true) (t : aeLegal.contains op = true) (f : Ae → Ae) :
    d.aeRun e op (fun _ => 0) 1 (fun _ x => .ok (f x)) = d.setAe e (f (d.ae e).begun) := by
  rw [Dev.aeRun_does d _ _ _ h t]
  simp only [Nat.zero_and, if_true, Nat.add_zero]
  rfl

theorem Dev.keeps_setAe (d : Dev) (e : Nat) (x : Ae) : d.Keeps (d.setAe e x) [.aes] := by
  intro p hp
  cases p with
  | aes => simp at hp
  | _ => rfl

theorem Dev.aeSignal_frame (d : Dev) (e b : Nat) : d.Keeps (d.aeSignal e b) [.od, .plic] := by
  intro p hp
  unfold Dev.aeSignal Dev.when Dev.raisePlic
  cases p with
  | od | plic => simp at hp
  | _ => simp only; split_ifs <;> rfl

/-- The device HALT leaves. -/
def Dev.halted (d : Dev) (e : Nat) : Dev :=
  let x := d.ae e
  let d' := ((d.setAe e x.begun).set (Reg.R3510_STATE e) AeState.halted).set (Reg.R3510_HALT_CODE e) (bits (d.aeNext e) 15 0)
  let d' := (d'.set (Reg.R3510_STOP_PC e) x.pc).set (Reg.R3510_SR e) x.sr
  (d'.set (Reg.R3510_CYCLES e) (x.cycles + 1 : Nat)).aeSignal e 0x8000

theorem Dev.aeHalt_eq {d : Dev} {e : Nat} (h : d.aeDoes e 0x34 = true) : d.aeHalt e = d.halted e := by
  have run := d.aeRun_idle h rfl id
  simp only [id] at run
  rw [Dev.aeHalt, h, run]
  simp only [if_true, Dev.halted]
  congr 1
  simp [Dev.ae]
  rfl

theorem Dev.keeps_halted (d : Dev) (e : Nat) : d.Keeps (d.halted e) [.od, .aes, .plic] := by
  have marks : (d.setAe e (d.ae e).begun).Keeps _ [.od] :=
    ((((Dev.keeps_set _ (Reg.R3510_STATE e) AeState.halted).andThen (Dev.keeps_set _ (Reg.R3510_HALT_CODE e) (bits (d.aeNext e) 15 0))).andThen
      (Dev.keeps_set _ (Reg.R3510_STOP_PC e) (d.ae e).pc)).andThen (Dev.keeps_set _ (Reg.R3510_SR e) (d.ae e).sr)).andThen
      (Dev.keeps_set _ (Reg.R3510_CYCLES e) ((d.ae e).cycles + 1 : Nat))
  exact (((d.keeps_setAe e _).trans marks).trans (Dev.aeSignal_frame _ e 0x8000)).mono (by simp)

theorem aeHalt_does {e : Nat} {s : State} (live : s.Live) (does : s.dev.aeDoes e 0x34 = true) : Does (.aeHalt e) s fun b a =>
    a.aeState e = AeState.halted ∧ a.nat (Reg.R3510_HALT_CODE e) = bits (b.aeNext e) 15 0 ∧
    a.nat (Reg.R3510_STOP_PC e) = (b.ae e).pc ∧ a.bit (Reg.R3510_SIGNAL e) 15 = true ∧ a.log = b.log := by
  obtain ⟨he, -, -, low, -⟩ := (s.dev.aeDoes_iff e 0x34).1 does
  have low' : (s.found.ae e).pc ≤ 0x3FFF := low
  have keeps := s.found.keeps_halted e
  have leaves : Leaves (.aeHalt e) s (s.found.halted e) :=
    .cell (·.aeHalt e) (live.passesIf he) (Dev.aeHalt_eq does) keeps
  refine leaves.quietly (keeps .event (by decide)) ⟨?_, ?_, ?_, ?_, keeps .log (by decide)⟩
  all_goals
    obtain ⟨tState, -, tSignal⟩ := odType_ofEngine he
    obtain ⟨tCode, tPc, -⟩ := odType_ofSignals he
  · rw [Dev.aeState, Dev.nat, Dev.halted, Dev.reg_aeSignal]
    simp [Dev.reg_set, tState]; rfl
  · rw [Dev.nat, Dev.halted, Dev.reg_aeSignal]
    simpa [Dev.reg_set, tCode, u16_wrap] using bits_lt (s.found.aeNext e) 15 0
  · rw [Dev.nat, Dev.halted, Dev.reg_aeSignal]
    simp [Dev.reg_set, tPc, u16_wrap]
    omega
  · rw [Dev.bit, Dev.nat, Dev.halted, Dev.reg_aeSignal, Dev.reg_set_same, tSignal]
    exact u16_wrap_setBit15 _

theorem Dev.aeSig_eq {d : Dev} {e : Nat} (h : d.aeDoes e 0x35 = true) :
    d.aeSig e = (d.setAe e (d.ae e).begun.next).aeSignal e (bits (d.aeNext e) 15 0) := by
  rw [Dev.aeSig, h, d.aeRun_idle h rfl Ae.next]
  rfl

theorem aeSig_does {e : Nat} {s : State} (live : s.Live) (does : s.dev.aeDoes e 0x35 = true) : Does (.aeSig e) s fun b a =>
    (∀ i < 16, a.bit (Reg.R3510_SIGNAL e) i = (b.bit (Reg.R3510_SIGNAL e) i || (bits (b.aeNext e) 15 0).testBit i)) ∧
    (b.ae e).Goes (a.ae e) ∧ (b.ae e).Keeps (a.ae e) [] ∧ b.Keeps a [.od, .aes, .plic] ∧ b.KeepsRegs a [Reg.R3510_SIGNAL e] := by
  obtain ⟨he, -⟩ := (s.dev.aeDoes_iff e 0x35).1 does
  let d := s.found.setAe e (s.found.ae e).begun.next
  let m := bits (s.found.aeNext e) 15 0
  have keeps : s.found.Keeps (d.aeSignal e m) [.od, .aes, .plic] :=
    ((s.found.keeps_setAe e _).trans (d.aeSignal_frame e m)).mono (by simp)
  have engine : (d.aeSignal e m).ae e = (s.found.ae e).begun.next :=
    (congrArg (fun m => mget ({} : Ae) m e) (d.aeSignal_keeps e m).2.1).trans (s.found.ae_setAe e (s.found.ae e).begun.next)
  obtain ⟨goes, kept⟩ := (Ae.Works.refl (s.found.ae e).begun).next
  have leaves : Leaves (.aeSig e) s (d.aeSignal e m) := .cell (·.aeSig e) (live.passesIf he) (Dev.aeSig_eq does) keeps
  refine leaves.quietly (keeps .event (by decide))
    ⟨fun i hi => ?_, engine ▸ goes, engine ▸ kept, keeps, fun k hk => ?_⟩
  · rw [Dev.bit, Dev.nat, Dev.reg_aeSignal]
    exact d.bit_orBits (odType_ofEngine he).2.2 m hi
  · rw [Dev.reg_aeSignal, Dev.reg_set_other _ _ (by simpa using hk)]
    rfl

/-- WAIT with a masked doorbell bit set, and without one. -/
theorem Dev.aeWait_rung {d : Dev} {e : Nat} (h : d.aeDoes e 0x36 = true)
    (rung : d.nat (Reg.R3510_DOORBELL e) &&& bits (d.aeNext e) 15 0 ≠ 0) :
    d.aeWait e = (d.setAe e (d.ae e).begun).aeTake e (bits (d.aeNext e) 15 0) := by
  have run := d.aeRun_idle h rfl id
  simp only [id] at run
  rw [Dev.aeWait, h, run]
  exact if_pos rung

theorem Dev.aeWait_silent {d : Dev} {e : Nat} (h : d.aeDoes e 0x36 = true)
    (silent : d.nat (Reg.R3510_DOORBELL e) &&& bits (d.aeNext e) 15 0 = 0) :
    d.aeWait e = ((d.setAe e (d.ae e).begun).set (Reg.R3510_STATE e) AeState.waiting).setAe e
      { (d.ae e).begun with mask := bits (d.aeNext e) 15 0 } := by
  have run := d.aeRun_idle h rfl id
  have engine := d.ae_setAe e (d.ae e).begun
  simp only [id] at run
  rw [Dev.aeWait, h, run, engine]
  exact if_neg (not_not.2 silent)

theorem aeWait_wakes {e : Nat} {s : State} (live : s.Live) (does : s.dev.aeDoes e 0x36 = true)
    (rung : s.dev.nat (Reg.R3510_DOORBELL e) &&& bits (s.dev.aeNext e) 15 0 ≠ 0) : Does (.aeWait e) s fun b a =>
      (a.ae e).woke = b.nat (Reg.R3510_DOORBELL e) &&& bits (b.aeNext e) 15 0 ∧
      (∀ i < 16, a.bit (Reg.R3510_DOORBELL e) i = (b.bit (Reg.R3510_DOORBELL e) i && !(bits (b.aeNext e) 15 0).testBit i)) ∧
      (b.ae e).Goes (a.ae e) ∧ (b.ae e).Keeps (a.ae e) [.woke] ∧ b.Keeps a [.od, .aes] ∧ b.KeepsRegs a [Reg.R3510_DOORBELL e] := by
  obtain ⟨he, -⟩ := (s.dev.aeDoes_iff e 0x36).1 does
  let mask := bits (s.found.aeNext e) 15 0
  let d := s.found.setAe e (s.found.ae e).begun
  have keeps : s.found.Keeps (d.aeTake e mask) [.od, .aes] :=
    (((s.found.keeps_setAe e _).trans (Dev.keeps_set d _ _)).trans (Dev.keeps_setAe _ e _)).mono (by simp)
  have begun : d.ae e = (s.found.ae e).begun := s.found.ae_setAe e _
  have engine : (d.aeTake e mask).ae e = { (d.ae e).next with woke := d.nat (Reg.R3510_DOORBELL e) &&& mask, mask := 0 } :=
    Dev.ae_setAe _ e _
  rw [begun] at engine
  obtain ⟨goes, -⟩ := (Ae.Works.refl (s.found.ae e).begun).next
  have leaves : Leaves (.aeWait e) s (d.aeTake e mask) :=
    .cell (·.aeWait e) (live.passesIf he) (Dev.aeWait_rung does rung) keeps
  refine leaves.quietly (keeps .event (by decide)) ⟨by rw [engine]; rfl, fun i hi => ?_, by rw [engine]; exact goes, ?_, keeps, ?_⟩
  · refine (d.bit_clearBits (odType_ofSignals he).2.2 _ hi).trans ?_
    have door : d.nat (Reg.R3510_DOORBELL e) = s.found.nat (Reg.R3510_DOORBELL e) := rfl
    rw [Dev.bit, door, Dev.bit, Nat.testBit_and]
    cases (s.found.nat (Reg.R3510_DOORBELL e)).testBit i <;> simp
    rfl
  · rw [engine]
    refine ⟨rfl, fun p hp => ?_⟩
    cases p with
    | woke => simp at hp
    | addr | mem => exact ⟨rfl, rfl, rfl⟩
    | _ => rfl
  · exact fun k hk => Dev.reg_set_other _ _ (by simpa using hk)

theorem aeWait_waits {e : Nat} {s : State} (live : s.Live) (does : s.dev.aeDoes e 0x36 = true)
    (silent : s.dev.nat (Reg.R3510_DOORBELL e) &&& bits (s.dev.aeNext e) 15 0 = 0) : Does (.aeWait e) s fun b a =>
      a.aeState e = AeState.waiting ∧ (a.ae e).mask = bits (b.aeNext e) 15 0 ∧ (a.ae e).pc = (b.ae e).pc ∧ (b.ae e).Keeps (a.ae e) [] ∧
      b.Keeps a [.od, .aes] ∧ b.KeepsRegs a [Reg.R3510_STATE e] := by
  obtain ⟨he, -⟩ := (s.dev.aeDoes_iff e 0x36).1 does
  let mask := bits (s.found.aeNext e) 15 0
  let d := s.found.setAe e (s.found.ae e).begun
  let w := (d.set (Reg.R3510_STATE e) AeState.waiting).setAe e { (s.found.ae e).begun with mask }
  have keeps : s.found.Keeps w [.od, .aes] :=
    (((s.found.keeps_setAe e _).trans (Dev.keeps_set d _ _)).trans (Dev.keeps_setAe _ e _)).mono (by simp)
  have engine : w.ae e = { (s.found.ae e).begun with mask } := Dev.ae_setAe _ e _
  have leaves : Leaves (.aeWait e) s w :=
    .cell (·.aeWait e) (live.passesIf he) (Dev.aeWait_silent does silent) keeps
  refine leaves.quietly (keeps .event (by decide)) ⟨?_, by rw [engine], by rw [engine]; rfl, ?_, keeps, ?_⟩
  · have state : w.reg (Reg.R3510_STATE e) = OdType.u8.wrap AeState.waiting :=
      (Dev.reg_set_same d _ _).trans (by rw [(odType_ofEngine he).1])
    rw [Dev.aeState, Dev.nat, state]
    rfl
  · rw [engine]
    refine ⟨rfl, fun p _ => ?_⟩
    cases p with
    | addr | mem => exact ⟨rfl, rfl, rfl⟩
    | _ => rfl
  · exact fun k hk => Dev.reg_set_other d _ (by simpa using hk)

end Sys2Proof.Machine
end

section
/-! ## Illegal forms and poisoned operands (R224, R228, R231, R235, R237, R240, R243) -/

namespace Sys2Proof.Machine

/-- An instruction that changes registers and goes on, where it finds a fault. -/
theorem AeStops.of_data {i : Instr} {e op : Nat} {s : State} {code : Nat} {H : Nat → Ae → Prop} (f : Nat → Ae → AeStep)
    (hi : exec i s = s.answerCell fun d => d.liveIf (e < 2) fun d => d.aeData e op f) (t : aeLegal.contains op = true)
    (hc : code < 65536) (hf : ∀ w x n, H w x → f w { x with wrote := 0, cycles := n } = .error code) : AeStops i e op s code H :=
  AeStops.of_run (fun _ => 0) 1 (fun w x => (f w x).map Ae.next) hi t hc fun w x n h => by rw [hf w x n h]; rfl

theorem shiftLanes_type3 (f : Nat → Nat → Int → Int × Bool) {w : Nat} (x : Ae) (h : fty w = 3) :
    shiftLanes f w x = .error Code.AE_ILLEGAL := by
  unfold shiftLanes
  cases shiftBy w x with
  | none => rfl
  | some n => exact if_pos h

theorem shiftLanes_source3 (f : Nat → Nat → Int → Int × Bool) {w : Nat} (x : Ae) (h : bits w 2 1 = 3) :
    shiftLanes f w x = .error Code.AE_ILLEGAL := by
  have none : shiftBy w x = none := by simp only [shiftBy, h]
  unfold shiftLanes
  rw [none]

/-- Lane type 3. -/
theorem aeStops_type3 (e : Nat) (s : State) (i : Instr) (op : Nat)
    (h : (i, op) ∈ [(.aeAdd e, 0x10), (.aeSub e, 0x11), (.aeNeg e, 0x12), (.aeAbs e, 0x13), (.aeMax e, 0x14),
      (.aeMin e, 0x15), (.aeShl e, 0x19), (.aeShr e, 0x1A), (.aeSra e, 0x1B), (.aeBexp e, 0x1D), (.aeAddsub e, 0x1E),
      (.aeConj e, 0x0E), (.aeXch e, 0x0F), (.aeMov e, 0x08)]) : AeStops i e op s Code.AE_ILLEGAL fun w _ => fty w = 3 := by
  simp only [List.mem_cons, List.not_mem_nil, or_false, Prod.mk.injEq] at h
  rcases h with ⟨rfl, rfl⟩ | ⟨rfl, rfl⟩ | ⟨rfl, rfl⟩ | ⟨rfl, rfl⟩ | ⟨rfl, rfl⟩ | ⟨rfl, rfl⟩ | ⟨rfl, rfl⟩ | ⟨rfl, rfl⟩ | ⟨rfl, rfl⟩ |
    ⟨rfl, rfl⟩ | ⟨rfl, rfl⟩ | ⟨rfl, rfl⟩ | ⟨rfl, rfl⟩ | ⟨rfl, rfl⟩
  · exact AeStops.of_data _ rfl rfl (by decide) fun _ _ _ three => if_pos three
  · exact AeStops.of_data _ rfl rfl (by decide) fun _ _ _ three => if_pos three
  · exact AeStops.of_data _ rfl rfl (by decide) fun _ _ _ three => if_pos three
  · exact AeStops.of_data _ rfl rfl (by decide) fun _ _ _ three => if_pos three
  · exact AeStops.of_data _ rfl rfl (by decide) fun _ _ _ three => if_pos three
  · exact AeStops.of_data _ rfl rfl (by decide) fun _ _ _ three => if_pos three
  · exact AeStops.of_data _ rfl rfl (by decide) fun _ _ _ three => shiftLanes_type3 _ _ three
  · exact AeStops.of_data _ rfl rfl (by decide) fun _ _ _ three => shiftLanes_type3 _ _ three
  · exact AeStops.of_data _ rfl rfl (by decide) fun _ _ _ three => shiftLanes_type3 _ _ three
  · exact AeStops.of_data _ rfl rfl (by decide) fun _ _ _ three => if_pos three
  · exact AeStops.of_data _ rfl rfl (by decide) fun _ _ _ three => if_pos (.inl three)
  · exact AeStops.of_data _ rfl rfl (by decide) fun _ _ _ three => if_pos (.inr three)
  · exact AeStops.of_data _ rfl rfl (by decide) fun _ _ _ three => if_pos (.inr three)
  · exact AeStops.of_data _ rfl rfl (by decide) fun _ _ _ three => if_pos three

/-- Source 3 of a shift's amount. -/
theorem aeStops_source3 (e : Nat) (s : State) (i : Instr) (op : Nat)
    (h : (i, op) ∈ [(.aeShl e, 0x19), (.aeShr e, 0x1A), (.aeSra e, 0x1B)]) :
    AeStops i e op s Code.AE_ILLEGAL fun w _ => bits w 2 1 = 3 := by
  simp only [List.mem_cons, List.not_mem_nil, or_false, Prod.mk.injEq] at h
  rcases h with ⟨rfl, rfl⟩ | ⟨rfl, rfl⟩ | ⟨rfl, rfl⟩
  · exact AeStops.of_data _ rfl rfl (by decide) fun _ _ _ three => shiftLanes_source3 _ _ three
  · exact AeStops.of_data _ rfl rfl (by decide) fun _ _ _ three => shiftLanes_source3 _ _ three
  · exact AeStops.of_data _ rfl rfl (by decide) fun _ _ _ three => shiftLanes_source3 _ _ three

/-- An odd accumulator of a complex product of 32 bits, an odd operand of one of 16 bits. -/
theorem aeStops_cplx32 (e : Nat) (s : State) (i : Instr) (op : Nat) (h : (i, op) ∈ [(.aeCmpy32 e, 0x23), (.aeCmac32 e, 0x24)]) :
    AeStops i e op s Code.AE_ILLEGAL fun w _ => bits w 22 21 % 2 = 1 := by
  simp only [List.mem_cons, List.not_mem_nil, or_false, Prod.mk.injEq] at h
  rcases h with ⟨rfl, rfl⟩ | ⟨rfl, rfl⟩
  · exact AeStops.of_data (cplxAcc32 false) rfl rfl (by decide) fun _ _ _ odd => if_pos odd
  · exact AeStops.of_data (cplxAcc32 true) rfl rfl (by decide) fun _ _ _ odd => if_pos odd

theorem aeStops_cplx16 (e : Nat) (s : State) (i : Instr) (op : Nat) (h : (i, op) ∈ [(.aeCmpy16 e, 0x25), (.aeCmac16 e, 0x26)]) :
    AeStops i e op s Code.AE_ILLEGAL fun w _ => bits w 20 17 % 2 = 1 ∨ bits w 16 13 % 2 = 1 := by
  simp only [List.mem_cons, List.not_mem_nil, or_false, Prod.mk.injEq] at h
  rcases h with ⟨rfl, rfl⟩ | ⟨rfl, rfl⟩
  · exact AeStops.of_data (cplxAcc16 false) rfl rfl (by decide) fun _ _ _ odd => if_pos odd
  · exact AeStops.of_data (cplxAcc16 true) rfl rfl (by decide) fun _ _ _ odd => if_pos odd

theorem aeMva_stops (e : Nat) (s : State) : AeStops (.aeMva e) e 0x09 s Code.AE_ILLEGAL
    fun w _ => (bits w 16 15 = 1 ∨ bits w 16 15 = 2) ∧ bits w 18 17 % 2 = 1 := by
  refine AeStops.of_run mvaReads 1 _ rfl rfl (by decide) fun w x n ⟨mode, odd⟩ => ?_
  rcases mode with one | two
  · simp only [one]
    exact if_pos odd
  · simp only [two]
    exact if_pos odd

theorem aeMvda_stops (e : Nat) (s : State) : AeStops (.aeMvda e) e 0x0A s Code.AE_ILLEGAL
    fun w _ => bits w 16 15 = 2 ∧ bits w 18 17 % 2 = 1 := by
  refine AeStops.of_data _ rfl rfl (by decide) fun w x n ⟨two, odd⟩ => ?_
  simp only [two]
  exact if_pos odd

/-- An operand whose pointer's length is no power of two stops the instruction. -/
theorem bind_operand_error {p am : Nat} {x : Ae} (h : am = 2 ∧ x.revOk p = false) (f : Ae → AeStep) :
    (x.operand p am >>= f) = .error Code.AE_ADDR_MODE := by
  rw [Ae.operand, if_pos h]; rfl

theorem Ae.usePtr_begunAt (x : Ae) (n p : Nat) : (x.begunAt n).usePtr p = (x.usePtr p).begunAt n := by
  by_cases h : mget 0 x.l p ≠ 0 ∧ mget 0 x.l p ≤ mget 0 x.p p
  · exact (if_pos h).trans (congrArg (Ae.begunAt · n) (show x.usePtr p = _ from if_pos h).symm)
  · exact (if_neg h).trans (congrArg (Ae.begunAt · n) (show x.usePtr p = _ from if_neg h).symm)

theorem aeLd_poisoned (e : Nat) (s : State) : AeStops (.aeLd e) e 0x01 s Code.AE_MEM_ERROR fun w x => bits w 14 13 ≠ 2 ∧
    x.poisoned (dataOff (bits w 15 15) ((x.usePtr (bits w 18 16)).addr (bits w 18 16))) = true := by
  refine AeStops.of_data ldStep rfl rfl (by decide) fun w x n ⟨plain, bad⟩ => ?_
  have used : (x.begunAt n).operand (bits w 18 16) (bits w 14 13) = .ok ((x.usePtr (bits w 18 16)).begunAt n) :=
    ((x.begunAt n).operand_ok fun two => absurd two plain).trans (congrArg _ (x.usePtr_begunAt n _))
  have clear : ((x.usePtr (bits w 18 16)).begunAt n).poisoned
      (dataOff (bits w 15 15) ((x.usePtr (bits w 18 16)).addr (bits w 18 16))) = true :=
    (Ae.poisoned_congr x (x.bad_usePtr _) _).trans bad
  refine (ok_bind used _).trans ?_
  have lost : ((x.usePtr (bits w 18 16)).begunAt n).load (bits w 15 15) (((x.usePtr (bits w 18 16)).begunAt n).addr (bits w 18 16)) =
      .error Code.AE_MEM_ERROR := if_pos clear
  rw [lost]
  rfl

end Sys2Proof.Machine
end

section
/-! ## What is not executed (R237) -/

namespace Sys2Proof.Machine

/-- Engine `e` runs its own program, its next word is whole and names `op`, and the word's predicate does not hold. -/
structure Dev.AeSkips (d : Dev) (e op : Nat) : Prop where
  exists_ : e < 2
  running : d.aeState e = AeState.running
  own : d.reg (Reg.R3510_MODE e) = 1
  inside : (d.ae e).pc ≤ 0x3FFF
  whole : (d.ae e).poisoned (progOff (d.ae e).pc) = false
  names : Op.code (d.aeNext e) = op
  loop : op = 0x33 → (d.ae e).pc < bits (d.aeNext e) 13 0
  fails : (d.ae e).cr.testBit (bits (d.aeNext e) 24 23) = (d.aeNext e).testBit 25

/-- The engine after an instruction that is not executed: a cycle on, at the next word; a LOOP behind its end. -/
def Dev.aeSkipped (d : Dev) (e op : Nat) : Ae :=
  if op = 0x33 then { (d.ae e).begun with pc := bits (d.aeNext e) 13 0 + 1 } else (d.ae e).begun.next

theorem Dev.AeSkips.run {d : Dev} {e op : Nat} (h : d.AeSkips e op) (t : aeLegal.contains op = true) (reads : Nat → Nat) (cyc : Nat)
    (f : Nat → Ae → AeStep) : d.aeRun e op reads cyc f = d.setAe e (d.aeSkipped e op) := by
  obtain ⟨he, running, own, inside, whole, names, loop, fails⟩ := h
  have serves : ¬(2 ≤ e ∨ d.aeState e ≠ AeState.running ∨ d.reg (Reg.R3510_MODE e) ≠ 1) := by simp [he, running, own]
  have named : Op.code (d.aeWord e (d.ae e).pc) = op := names
  have failed : (d.ae e).cr.testBit (bits (d.aeWord e (d.ae e).pc) 24 23) = (d.aeWord e (d.ae e).pc).testBit 25 := fails
  unfold Dev.aeRun Dev.aeSkipped
  rw [if_neg serves]
  simp only
  rw [if_neg (by omega), if_neg (by simp [whole]), if_neg (by rw [named, t]; simp), if_neg (by simp [named]), if_pos failed]
  split_ifs with at_loop past
  · exact absurd (loop at_loop) (Nat.not_lt.2 past)
  · rfl
  · rfl

theorem Dev.AeSkips.not_does {d : Dev} {e op : Nat} (h : d.AeSkips e op) : d.aeDoes e op = false := by
  refine Bool.eq_false_iff.2 fun does => ?_
  obtain ⟨-, -, -, -, -, -, holds⟩ := (d.aeDoes_iff e op).1 does
  exact holds h.fails

/-- What holds of a command whose instruction is not executed. -/
def AeSkipped (i : Instr) (e op : Nat) (s : State) : Prop :=
  Does i s fun b a =>
    let x := b.ae e; let y := a.ae e
    b.Keeps a [.aes, .fresh] ∧ (∀ f, f ≠ e → a.ae f = b.ae f) ∧ x.Keeps y [] ∧ y.cycles = x.cycles + 1 ∧
    if op = 0x33 then y.pc = bits (b.aeNext e) 13 0 + 1 ∧ y.loops = x.loops else (y.pc, y.loops) = aeLoopEnd x.pc x.loops

theorem Dev.aeSkipped_course (d : Dev) (e op : Nat) :
    let x := d.ae e; let y := d.aeSkipped e op
    x.Keeps y [] ∧ y.cycles = x.cycles + 1 ∧
    if op = 0x33 then y.pc = bits (d.aeNext e) 13 0 + 1 ∧ y.loops = x.loops else (y.pc, y.loops) = aeLoopEnd x.pc x.loops := by
  unfold Dev.aeSkipped
  split_ifs with loop
  · exact ⟨(d.ae e).keeps_course _ _ _, rfl, rfl, rfl⟩
  · obtain ⟨goes, keeps⟩ := (Ae.Works.refl (d.ae e).begun).next
    exact ⟨keeps, goes.2, goes.1⟩

/-- A command of an engine that leaves the engine of an instruction not executed. -/
theorem AeSkipped.of_setAe {i : Instr} {e op : Nat} {s : State} (live : s.Live) (he : e < 2) (g : Dev → Dev)
    (hi : exec i s = s.answerCell fun d => d.liveIf (e < 2) g)
    (result : g s.found = s.found.setAe e (s.found.aeSkipped e op)) : AeSkipped i e op s := by
  have run : s.found.liveIf (e < 2) g = s.found.setAe e (s.found.aeSkipped e op) := (live.passesIf he g).trans result
  obtain ⟨a, answer, keeps, others, engine⟩ := s.answerCell_ae (f := fun d => d.liveIf (e < 2) g) run
  refine ⟨a, hi.trans answer, keeps.mono (by simp), others, ?_⟩
  rw [engine]
  exact s.found.aeSkipped_course e op

theorem Dev.AeSkips.found {s : State} {e op : Nat} (h : s.dev.AeSkips e op) : s.found.AeSkips e op :=
  ⟨h.exists_, h.running, h.own, h.inside, h.whole, h.names, h.loop, h.fails⟩

theorem AeSkipped.of_run {i : Instr} {e op : Nat} {s : State} (live : s.Live) (h : s.dev.AeSkips e op) (reads : Nat → Nat) (cyc : Nat)
    (f : Nat → Ae → AeStep) (hi : exec i s = s.answerCell fun d => d.liveIf (e < 2) fun d => d.aeRun e op reads cyc f)
    (t : aeLegal.contains op = true) : AeSkipped i e op s :=
  .of_setAe live h.exists_ _ hi (h.found.run t reads cyc f)

theorem AeSkipped.of_data {i : Instr} {e op : Nat} {s : State} (live : s.Live) (h : s.dev.AeSkips e op) (f : Nat → Ae → AeStep)
    (hi : exec i s = s.answerCell fun d => d.liveIf (e < 2) fun d => d.aeData e op f) (t : aeLegal.contains op = true) :
    AeSkipped i e op s :=
  .of_run live h _ _ _ hi t

/-- CMP takes the number of a free value before it finds its predicate. -/
theorem aeCmp_skipped {e : Nat} {s : State} (live : s.Live) (h : s.dev.AeSkips e 0x1C) : AeSkipped (.aeCmp e) e 0x1C s := by
  have skips : s.found.takeFresh.2.AeSkips e 0x1C := ⟨h.exists_, h.running, h.own, h.inside, h.whole, h.names, h.loop, h.fails⟩
  have run : (fun d : Dev => d.liveIf (e < 2) fun d => d.aeCmp e) s.found =
      s.found.takeFresh.2.setAe e (s.found.aeSkipped e 0x1C) :=
    (live.passesIf h.exists_ fun d => d.aeCmp e).trans ((Dev.aeCmp_eq _ e).trans (skips.run rfl _ _ _))
  obtain ⟨a, answer, keeps, others, engine⟩ := s.answerCell_freshAe (f := fun d => d.liveIf (e < 2) fun d => d.aeCmp e) run
  refine ⟨a, answer, keeps, others, ?_⟩
  rw [engine]
  exact s.found.aeSkipped_course e 0x1C

theorem aeHalt_skipped {e : Nat} {s : State} (live : s.Live) (h : s.dev.AeSkips e 0x34) : AeSkipped (.aeHalt e) e 0x34 s := by
  refine .of_setAe live h.exists_ (·.aeHalt e) rfl ?_
  rw [Dev.aeHalt, h.found.not_does, h.found.run rfl]
  rfl

theorem aeSig_skipped {e : Nat} {s : State} (live : s.Live) (h : s.dev.AeSkips e 0x35) : AeSkipped (.aeSig e) e 0x35 s := by
  refine .of_setAe live h.exists_ (·.aeSig e) rfl ?_
  rw [Dev.aeSig, h.found.not_does, h.found.run rfl]
  rfl

theorem aeWait_skipped {e : Nat} {s : State} (live : s.Live) (h : s.dev.AeSkips e 0x36) : AeSkipped (.aeWait e) e 0x36 s := by
  refine .of_setAe live h.exists_ (·.aeWait e) rfl ?_
  rw [Dev.aeWait, h.found.not_does, h.found.run rfl]
  rfl

/-! The 48 instructions of an engine and their opcodes (R228): each but CMP, HALT, SIG and WAIT is `aeRun` of its opcode. -/

abbrev aeMoves (e : Nat) : List (Instr × Nat) :=
  [(.aeNop e, 0x00), (.aeLd e, 0x01), (.aeSt e, 0x02), (.aeLdxy e, 0x03), (.aeFtap e, 0x04), (.aeLdi e, 0x05),
    (.aeMov e, 0x08), (.aeMva e, 0x09), (.aeMvda e, 0x0A), (.aeAreg e, 0x0B), (.aeMvta e, 0x0C), (.aeMvfa e, 0x0D)]

abbrev aeLaneWork (e : Nat) : List (Instr × Nat) :=
  [(.aeConj e, 0x0E), (.aeXch e, 0x0F), (.aeAdd e, 0x10), (.aeSub e, 0x11), (.aeNeg e, 0x12), (.aeAbs e, 0x13),
    (.aeMax e, 0x14), (.aeMin e, 0x15), (.aeAnd e, 0x16), (.aeOr e, 0x17), (.aeXor e, 0x18), (.aeShl e, 0x19), (.aeShr e, 0x1A),
    (.aeSra e, 0x1B), (.aeCmp e, 0x1C), (.aeBexp e, 0x1D), (.aeAddsub e, 0x1E), (.aePlog e, 0x1F)]

abbrev aeProductsAndCourse (e : Nat) : List (Instr × Nat) :=
  [(.aeMpy e, 0x20), (.aeMac e, 0x21), (.aeMsu e, 0x22), (.aeCmpy32 e, 0x23), (.aeCmac32 e, 0x24), (.aeCmpy16 e, 0x25),
    (.aeCmac16 e, 0x26), (.aeCmul32 e, 0x27), (.aeCmul16 e, 0x28), (.aeAclr e, 0x29), (.aeAsh e, 0x2A), (.aeBr e, 0x30),
    (.aeCall e, 0x31), (.aeRet e, 0x32), (.aeLoop e, 0x33), (.aeHalt e, 0x34), (.aeSig e, 0x35), (.aeWait e, 0x36)]

theorem aeMoves_skipped {i : Instr} {e op : Nat} {s : State} (h : (i, op) ∈ aeMoves e) (live : s.Live) (skips : s.dev.AeSkips e op) :
    AeSkipped i e op s := by
  simp only [aeMoves, List.mem_cons, List.not_mem_nil, or_false, Prod.mk.injEq] at h
  rcases h with ⟨rfl, rfl⟩ | ⟨rfl, rfl⟩ | ⟨rfl, rfl⟩ | ⟨rfl, rfl⟩ | ⟨rfl, rfl⟩ | ⟨rfl, rfl⟩ | ⟨rfl, rfl⟩ | ⟨rfl, rfl⟩ | ⟨rfl, rfl⟩ | ⟨rfl, rfl⟩ |
    ⟨rfl, rfl⟩ | ⟨rfl, rfl⟩
  on_goal 8 => exact .of_run live skips mvaReads 1 _ rfl rfl
  all_goals exact .of_data live skips _ rfl rfl

theorem aeLaneWork_skipped {i : Instr} {e op : Nat} {s : State} (h : (i, op) ∈ aeLaneWork e) (live : s.Live) (skips : s.dev.AeSkips e op) :
    AeSkipped i e op s := by
  simp only [aeLaneWork, List.mem_cons, List.not_mem_nil, or_false, Prod.mk.injEq] at h
  rcases h with ⟨rfl, rfl⟩ | ⟨rfl, rfl⟩ | ⟨rfl, rfl⟩ | ⟨rfl, rfl⟩ | ⟨rfl, rfl⟩ | ⟨rfl, rfl⟩ | ⟨rfl, rfl⟩ | ⟨rfl, rfl⟩ | ⟨rfl, rfl⟩ | ⟨rfl, rfl⟩ |
    ⟨rfl, rfl⟩ | ⟨rfl, rfl⟩ | ⟨rfl, rfl⟩ | ⟨rfl, rfl⟩ | ⟨rfl, rfl⟩ | ⟨rfl, rfl⟩ | ⟨rfl, rfl⟩ | ⟨rfl, rfl⟩
  on_goal 15 => exact aeCmp_skipped live skips
  all_goals exact .of_data live skips _ rfl rfl

theorem aeProductsAndCourse_skipped {i : Instr} {e op : Nat} {s : State} (h : (i, op) ∈ aeProductsAndCourse e) (live : s.Live) (skips : s.dev.AeSkips e op) :
    AeSkipped i e op s := by
  simp only [aeProductsAndCourse, List.mem_cons, List.not_mem_nil, or_false, Prod.mk.injEq] at h
  rcases h with ⟨rfl, rfl⟩ | ⟨rfl, rfl⟩ | ⟨rfl, rfl⟩ | ⟨rfl, rfl⟩ | ⟨rfl, rfl⟩ | ⟨rfl, rfl⟩ | ⟨rfl, rfl⟩ | ⟨rfl, rfl⟩ | ⟨rfl, rfl⟩ | ⟨rfl, rfl⟩ |
    ⟨rfl, rfl⟩ | ⟨rfl, rfl⟩ | ⟨rfl, rfl⟩ | ⟨rfl, rfl⟩ | ⟨rfl, rfl⟩ | ⟨rfl, rfl⟩ | ⟨rfl, rfl⟩ | ⟨rfl, rfl⟩
  on_goal 16 => exact aeHalt_skipped live skips
  on_goal 16 => exact aeSig_skipped live skips
  on_goal 16 => exact aeWait_skipped live skips
  on_goal 11 => exact .of_run live skips (fun w => 2 ^ an w) 1 _ rfl rfl
  on_goal 11 => exact .of_run live skips (fun _ => 0) 2 _ rfl rfl
  on_goal 11 => exact .of_run live skips (fun _ => 0) 2 _ rfl rfl
  on_goal 11 => exact .of_run live skips (fun _ => 0) 2 _ rfl rfl
  on_goal 11 => exact .of_run live skips (fun _ => 0) 1 _ rfl rfl
  all_goals exact .of_data live skips _ rfl rfl

theorem aeTable_skipped {i : Instr} {e op : Nat} {s : State} (h : (i, op) ∈ aeMoves e ++ aeLaneWork e ++ aeProductsAndCourse e)
    (live : s.Live) (skips : s.dev.AeSkips e op) : AeSkipped i e op s := by
  simp only [List.mem_append] at h
  rcases h with (moves | lanes) | others
  · exact aeMoves_skipped moves live skips
  · exact aeLaneWork_skipped lanes live skips
  · exact aeProductsAndCourse_skipped others live skips

/-- Settles O18: the three instructions that end or wait, each illegal form, and the instruction whose predicate fails. -/
theorem aeStopsWaitsSkips : Obligations.AeStopsWaitsSkips := by
  refine ⟨fun e s live => ⟨aeHalt_does live, aeSig_does live, aeWait_wakes live, aeWait_waits live⟩, fun e s => ?_, ?_⟩
  · refine ⟨aeStops_type3 e s, aeStops_source3 e s, ?_, ?_, aeStops_cplx32 e s, aeStops_cplx16 e s, aeMva_stops e s, aeMvda_stops e s,
      ?_, ?_, ?_, ?_, ?_, aeLd_poisoned e s⟩
    · exact AeStops.of_data _ rfl rfl (by decide) fun _ _ _ odd => if_pos (.inr odd)
    · exact AeStops.of_data _ rfl rfl (by decide) fun _ _ _ odd => if_pos odd
    · exact AeStops.of_data _ rfl rfl (by decide) fun w x n bad => if_neg (Bool.eq_false_iff.1 bad)
    · exact AeStops.of_data _ rfl rfl (by decide) fun _ _ _ high => if_neg (Nat.not_le.2 high)
    · exact AeStops.of_run _ _ _ rfl rfl (by decide) fun _ _ _ behind => if_pos behind
    · exact AeStops.of_data ldStep rfl rfl (by decide) fun _ x n bad => bind_operand_error (x := x.begunAt n) bad _
    · exact AeStops.of_data stStep rfl rfl (by decide) fun _ x n bad => bind_operand_error (x := x.begunAt n) bad _
  · intro e i op s table live he running own inside whole names loop fails
    exact aeTable_skipped table live ⟨he, running, own, inside, whole, names, loop, fails⟩

end Sys2Proof.Machine
end

section
/-! # What a request that is refused or only completes leaves -/

namespace Sys2Proof.Machine

/-! Frames of one change after another, within the parts `l`. -/

section
variable {d e f : Dev} {l m : List Part}

theorem Dev.Keeps.step (h : d.Keeps e l) (g : e.Keeps f m) (within : ∀ p ∈ m, p ∈ l := by decide) : d.Keeps f l :=
  h.andThen (g.mono within)

theorem Dev.Keeps.set (h : d.Keeps e l) (k : Nat) (v : Int) (within : Part.od ∈ l := by decide) : d.Keeps (e.set k v) l :=
  h.step (e.keeps_set k v) (by simpa using within)

theorem Dev.Keeps.setAe (h : d.Keeps e l) (n : Nat) (x : Ae) (within : Part.aes ∈ l := by decide) : d.Keeps (e.setAe n x) l :=
  h.step (e.keeps_setAe n x) (by simpa using within)

theorem Dev.Keeps.finish (h : d.Keeps e l) (c : Nat) (within : Part.done ∈ l := by decide) : d.Keeps (e.finish c) l :=
  h.step (e.keeps_finish c) (by simpa using within)

theorem Dev.Keeps.told (h : d.Keeps e l) (pend vecs : List Nat) (within : Part.serve ∈ l := by decide) : d.Keeps (e.told pend vecs) l :=
  h.step (e.keeps_told pend vecs) (by simpa using within)

theorem Dev.Keeps.raise (h : d.Keeps e l) (code kind subject reaction detail : Nat)
    (within : ∀ p ∈ [Part.od, .log, .event], p ∈ l := by decide) : d.Keeps (e.raise code kind subject reaction detail) l :=
  h.step (e.keeps_raise code kind subject reaction detail) within

end

@[simp] theorem Dev.ae_finish (d : Dev) (c e : Nat) : (d.finish c).ae e = d.ae e := rfl

@[simp] theorem Dev.ae_set (d : Dev) (k : Nat) (v : Int) (e : Nat) : (d.set k v).ae e = d.ae e := rfl

theorem Dev.ae_setAe_other (d : Dev) {e f : Nat} (x : Ae) (h : f ≠ e) : (d.setAe e x).ae f = d.ae f := mget_mset_other _ _ _ _ h

@[simp] theorem Dev.reg_finish (d : Dev) (c k : Nat) : (d.finish c).reg k = d.reg k := rfl

@[simp] theorem Dev.reg_setAe (d : Dev) (e : Nat) (x : Ae) (k : Nat) : (d.setAe e x).reg k = d.reg k := rfl

@[simp] theorem Dev.aeState_finish (d : Dev) (c e : Nat) : (d.finish c).aeState e = d.aeState e := rfl

@[simp] theorem Dev.reg_told (d : Dev) (pend vecs : List Nat) (k : Nat) : (d.told pend vecs).reg k = d.reg k := rfl

section
variable {i : Instr} {s : State} {code kind subject reaction detail done : Nat}

/-- A request that only completes with a code. -/
theorem Leaves.finished (h : Leaves i s (s.found.finish code)) : Does i s fun b a => a.done = code ∧ b.Keeps a [.done] :=
  h.quietly rfl ⟨rfl, s.found.keeps_finish code⟩

/-- A command that leaves the device as it is. -/
theorem Leaves.unchanged (h : Leaves i s s.found) : Does i s fun b a => b.Keeps a [] :=
  h.quietly rfl (Dev.Keeps.refl _ _)

theorem Dev.keeps_refused (d : Dev) (code kind subject reaction detail done : Nat) :
    d.Keeps ((d.raise code kind subject reaction detail).finish done) [.od, .log, .event, .done] :=
  (d.keeps_raise code kind subject reaction detail).trans (Dev.keeps_finish _ done)

/-- A request refused with a code raised in the log. -/
theorem Leaves.refused (h : Leaves i s ((s.found.raise code kind subject reaction detail).finish done)) : Does i s fun b a =>
    a.done = done ∧ a.LastRaised code kind subject ∧ b.Keeps a (.done :: logParts) ∧ b.KeepsRegs a logRegs :=
  h.does fun _ _ => ⟨rfl, s.found.lastRaised_raise code kind subject reaction detail,
    ((s.found.keeps_refused code kind subject reaction detail done).trans (Dev.keeps_told _ _ _)).mono (by simp),
    s.found.keepsRegs_raise code kind subject reaction detail⟩

/-- A code raised and nothing else. -/
theorem Leaves.raised (h : Leaves i s (s.found.raise code kind subject reaction detail)) : Does i s fun b a =>
    a.LastRaised code kind subject ∧ b.Keeps a logParts ∧ b.KeepsRegs a logRegs :=
  h.does fun _ _ => ⟨s.found.lastRaised_raise code kind subject reaction detail,
    ((s.found.keeps_raise code kind subject reaction detail).trans (Dev.keeps_told _ _ _)).mono (by simp),
    s.found.keepsRegs_raise code kind subject reaction detail⟩

end
end Sys2Proof.Machine
end

section
/-! # The analysis engines: modes, start and stop, signals (R221 to R223, R227, R241 to R246) -/

/-! ## ENGINE_MODE (R222) -/

namespace Sys2Proof.Machine

theorem odType_ofControl {e : Nat} (he : e < 2) :
    odType (Reg.R3510_MODE e) = .u8 ∧ odType (Reg.R3510_CYCLES e) = .u64 ∧ odType (Reg.R3510_START_PC e) = .u16 := by
  match e, he with
  | 0, _ => decide +kernel
  | 1, _ => decide +kernel

section
variable {d : Dev} {e : Nat}

theorem Dev.engineMode_absent (mode : Nat) (h : 2 ≤ e) : d.engineMode e mode = d.finish Code.OD_NO_ENTRY := if_pos h

theorem Dev.engineMode_range {mode : Nat} (he : e < 2) (h : 1 < mode) : d.engineMode e mode = d.finish Code.OD_RANGE :=
  (if_neg (by omega)).trans (if_pos h)

/-- An engine that runs, waits or serves a job (R222). -/
abbrev Dev.AeBusy (d : Dev) (e : Nat) : Prop := d.aeState e = AeState.running ∨ d.aeState e = AeState.waiting ∨ ∃ j, (j, e) ∈ d.ident.jobOn

theorem Dev.aeBusy_iff : ((d.ident.jobOn.any fun (_, x) => x == e) = true ∨ d.aeState e = AeState.running ∨ d.aeState e = AeState.waiting) ↔
    d.AeBusy e := by
  have job : (d.ident.jobOn.any fun (_, x) => x == e) = true ↔ ∃ j, (j, e) ∈ d.ident.jobOn := by simp
  rw [job, Dev.AeBusy]
  tauto

theorem Dev.engineMode_busy {mode : Nat} (he : e < 2) (h : mode ≤ 1) (busy : d.AeBusy e) :
    d.engineMode e mode = (d.raise Code.AE_MODE_BUSY Kind.unit (48 + e)).finish Code.AE_MODE_BUSY :=
  (if_neg (by omega)).trans ((if_neg (by omega)).trans (if_pos (Dev.aeBusy_iff.2 busy)))

theorem Dev.engineMode_same {mode : Nat} (he : e < 2) (h : mode ≤ 1) (idle : ¬d.AeBusy e) (same : d.nat (Reg.R3510_MODE e) = mode) :
    d.engineMode e mode = d.finish Code.STATUS_OK :=
  (if_neg (by omega)).trans ((if_neg (by omega)).trans ((if_neg (mt Dev.aeBusy_iff.1 idle)).trans (if_pos same)))

/-- An engine whose memories are cleared and that is not yet in service. -/
def Ae.emptied (x : Ae) : Ae := { x with prog := [], x := [], y := [], bad := [], ready := false }

/-- The device after a change of an engine's mode. -/
def Dev.modeSwitched (d : Dev) (e mode : Nat) : Dev :=
  ((d.setAe e (d.ae e).emptied).set (Reg.R3510_MODE e) mode).set (Reg.R3510_STATE e) AeState.stopped

theorem Dev.engineMode_other {mode : Nat} (he : e < 2) (h : mode ≤ 1) (idle : ¬d.AeBusy e) (other : d.nat (Reg.R3510_MODE e) ≠ mode) :
    d.engineMode e mode = (d.modeSwitched e mode).finish Code.STATUS_OK :=
  (if_neg (by omega)).trans ((if_neg (by omega)).trans ((if_neg (mt Dev.aeBusy_iff.1 idle)).trans (if_neg other)))

end

theorem Dev.keeps_modeSwitched (d : Dev) (e mode : Nat) : d.Keeps ((d.modeSwitched e mode).finish Code.STATUS_OK) [.od, .aes, .done] :=
  ((((Dev.Keeps.refl d _).setAe _ _).set _ _).set _ _).finish _

/-- A state written to an engine. -/
theorem Dev.aeState_set (d : Dev) {e : Nat} (he : e < 2) {n : Nat} (hn : n < 5) : (d.set (Reg.R3510_STATE e) n).aeState e = n := by
  rw [Dev.aeState, Dev.nat, Dev.reg_set_same, (odType_ofEngine he).1]
  match n, hn with
  | 0, _ | 1, _ | 2, _ | 3, _ | 4, _ => rfl

theorem engineMode_switches {e mode : Nat} {s : State} (up : s.Up) (he : e < 2) (h : mode ≤ 1) (idle : ¬s.found.AeBusy e)
    (other : s.found.nat (Reg.R3510_MODE e) ≠ mode) : Does (.engineMode e mode) s fun b a =>
      a.done = Code.STATUS_OK ∧ a.reg (Reg.R3510_MODE e) = mode ∧ a.aeState e = AeState.stopped ∧
      a.ae e = { b.ae e with prog := [], x := [], y := [], bad := [], ready := false } ∧ (∀ f, f ≠ e → a.ae f = b.ae f) ∧
      b.Keeps a [.od, .aes, .done] ∧ b.KeepsRegs a [Reg.R3510_MODE e, Reg.R3510_STATE e] := by
  have keeps := s.found.keeps_modeSwitched e mode
  have leaves : Leaves (.engineMode e mode) s ((s.found.modeSwitched e mode).finish Code.STATUS_OK) :=
    .cell (·.engineMode e mode) up.passes (Dev.engineMode_other he h idle other) keeps
  have value : OdType.u8.wrap mode = mode := by
    match mode, h with
    | 0, _ | 1, _ => rfl
  refine leaves.quietly (keeps .event (by decide)) ⟨Dev.finish_done _ _, ?_, ?_, Dev.ae_setAe _ e _, fun f hf => ?_, keeps, fun k hk => ?_⟩
  · simp [Dev.modeSwitched, Dev.reg_set, (odType_ofControl he).1, value]
  · rw [Dev.aeState_finish, Dev.modeSwitched, Dev.aeState_set _ he (by decide)]
  · simp [Dev.modeSwitched, Dev.ae_setAe_other, hf]
  · obtain ⟨h₀, h₁⟩ : k ≠ Reg.R3510_MODE e ∧ k ≠ Reg.R3510_STATE e := by simpa using hk
    rw [Dev.reg_finish, Dev.modeSwitched, Dev.reg_set_other _ _ h₁, Dev.reg_set_other _ _ h₀, Dev.reg_setAe]

end Sys2Proof.Machine
end

section
/-! ## CONTROL (R244) -/

namespace Sys2Proof.Machine

/-- Registers and stacks as a start or reset leaves them (R227). -/
def Ae.Cleared (x y : Ae) : Prop :=
  y.prog = x.prog ∧ AePart.mem.Same x y ∧ y.exp = 63 ∧ y.sr = 0 ∧ y.cr = 1 ∧ y.cycles = 0 ∧
    (∀ i, y.D i = 0 ∧ y.A i = 0) ∧ y.p = [] ∧ y.m = [] ∧ y.l = [] ∧ y.b = [] ∧ y.calls = [] ∧ y.loops = []

theorem Ae.cleared_clear (x : Ae) (pc start : Nat) : x.Cleared (x.clear pc start) :=
  ⟨rfl, ⟨rfl, rfl, rfl⟩, rfl, rfl, rfl, rfl, fun _ => ⟨rfl, rfl⟩, rfl, rfl, rfl, rfl, rfl, rfl⟩

/-- An engine that runs or waits. -/
abbrev Dev.AeGoing (d : Dev) (e : Nat) : Prop := d.aeState e = AeState.running ∨ d.aeState e = AeState.waiting

/-- The device after a start, a stop and a reset of an engine. -/
def Dev.aeStarted (d : Dev) (e : Nat) : Dev :=
  (((d.setAe e ((d.ae e).clear (d.nat (Reg.R3510_START_PC e)) d.rawNow)).set (Reg.R3510_STATE e) AeState.running).set
    (Reg.R3510_PROG_DIGEST e) (digest128 (d.aeProgram e))).set (Reg.R3510_CYCLES e) 0

/-- The engine a stop leaves: a WAIT it stands in completes. -/
def Dev.aeHaltedAt (d : Dev) (e : Nat) : Ae :=
  if d.aeState e = AeState.waiting then { (d.ae e).next with mask := 0 } else d.ae e

def Dev.aeStopped (d : Dev) (e : Nat) : Dev :=
  let x := d.aeHaltedAt e
  ((((d.setAe e x).set (Reg.R3510_STATE e) AeState.stopped).set (Reg.R3510_STOP_PC e) x.pc).set (Reg.R3510_SR e) x.sr).set
    (Reg.R3510_CYCLES e) x.cycles

def Dev.aeCleared (d : Dev) (e : Nat) : Dev := (d.setAe e ((d.ae e).clear 0 0)).set (Reg.R3510_STATE e) AeState.stopped

section
variable {d : Dev} {e : Nat} (he : e < 2)
include he

theorem Dev.engineStart_idle (own : d.reg (Reg.R3510_MODE e) = 1) (idle : ¬d.AeGoing e) :
    d.engineStart e = (d.aeStarted e).finish Code.STATUS_OK := by
  have kept : (d.setAe e ((d.ae e).clear (d.nat (Reg.R3510_START_PC e)) d.rawNow)).aeProgram e = d.aeProgram e := by
    unfold Dev.aeProgram Dev.aeWord
    rw [Dev.ae_setAe]
    rfl
  rw [Dev.engineStart, if_neg (by omega), if_neg (by simp [own]), if_neg idle, Dev.aeStarted, ← kept]

theorem Dev.engineStart_going (own : d.reg (Reg.R3510_MODE e) = 1) (going : d.AeGoing e) :
    d.engineStart e = (d.raise Code.AE_RUNNING Kind.unit (48 + e)).finish Code.AE_RUNNING := by
  rw [Dev.engineStart, if_neg (by omega), if_neg (by simp [own]), if_pos going]

theorem Dev.engineStart_owned (owned : d.reg (Reg.R3510_MODE e) ≠ 1) : d.engineStart e = d.aeOwned e := by
  rw [Dev.engineStart, if_neg (by omega), if_pos owned]

theorem Dev.engineStop_going (own : d.reg (Reg.R3510_MODE e) = 1) (going : d.AeGoing e) :
    d.engineStop e = (d.aeStopped e).finish Code.STATUS_OK := by
  rw [Dev.engineStop, if_neg (by omega), if_neg (by simp [own])]
  exact if_pos going

theorem Dev.engineStop_idle (own : d.reg (Reg.R3510_MODE e) = 1) (idle : ¬d.AeGoing e) :
    d.engineStop e = d.finish Code.STATUS_OK := by
  rw [Dev.engineStop, if_neg (by omega), if_neg (by simp [own])]
  exact if_neg idle

theorem Dev.engineStop_owned (owned : d.reg (Reg.R3510_MODE e) ≠ 1) : d.engineStop e = d.aeOwned e := by
  rw [Dev.engineStop, if_neg (by omega), if_pos owned]

theorem Dev.engineReset_own (own : d.reg (Reg.R3510_MODE e) = 1) : d.engineReset e = (d.aeCleared e).finish Code.STATUS_OK := by
  rw [Dev.engineReset, if_neg (by omega), if_neg (by simp [own])]
  rfl

theorem Dev.engineReset_owned (owned : d.reg (Reg.R3510_MODE e) ≠ 1) : d.engineReset e = d.aeOwned e := by
  rw [Dev.engineReset, if_neg (by omega), if_pos owned]

end

section
variable {e : Nat} {s : State}

theorem engineStart_starts (up : s.Up) (he : e < 2) (own : s.found.reg (Reg.R3510_MODE e) = 1) (idle : ¬s.found.AeGoing e) :
    Does (.engineStart e) s fun b a =>
      a.done = Code.STATUS_OK ∧ a.aeState e = AeState.running ∧ (b.ae e).Cleared (a.ae e) ∧
      (a.ae e).pc = b.nat (Reg.R3510_START_PC e) ∧ (a.ae e).start = b.rawNow ∧
      a.reg (Reg.R3510_PROG_DIGEST e) = (odType (Reg.R3510_PROG_DIGEST e)).wrap (digest128 (b.aeProgram e)) ∧
      a.reg (Reg.R3510_CYCLES e) = 0 ∧ (∀ f, f ≠ e → a.ae f = b.ae f) ∧ b.Keeps a [.od, .aes, .done] ∧
      b.KeepsRegs a [Reg.R3510_STATE e, Reg.R3510_PROG_DIGEST e, Reg.R3510_CYCLES e] := by
  have keeps : s.found.Keeps ((s.found.aeStarted e).finish Code.STATUS_OK) [.od, .aes, .done] :=
    (((((Dev.Keeps.refl _ _).setAe _ _).set _ _).set _ _).set _ _).finish _
  have leaves : Leaves (.engineStart e) s ((s.found.aeStarted e).finish Code.STATUS_OK) :=
    .cell (·.engineStart e) up.passes (Dev.engineStart_idle he own idle) keeps
  have engine : ((s.found.aeStarted e).finish Code.STATUS_OK).ae e =
      (s.found.ae e).clear (s.found.nat (Reg.R3510_START_PC e)) s.found.rawNow := Dev.ae_setAe _ e _
  refine leaves.quietly (keeps .event (by decide)) ⟨Dev.finish_done _ _, ?_, ?_, ?_, ?_, ?_, ?_, fun f hf => ?_, keeps, fun k hk => ?_⟩
  · rw [Dev.aeState_finish, Dev.aeStarted, Dev.aeState, Dev.nat, Dev.reg_set_other _ _ (by simp), Dev.reg_set_other _ _ (by simp)]
    exact Dev.aeState_set _ he (by decide)
  · rw [engine]; exact Ae.cleared_clear _ _ _
  · rw [engine]; rfl
  · rw [engine]; rfl
  · rw [Dev.reg_finish, Dev.aeStarted, Dev.reg_set_other _ _ (by simp), Dev.reg_set_same]
  · rw [Dev.reg_finish, Dev.aeStarted, Dev.reg_set_same, (odType_ofControl he).2.1]
    rfl
  · simp [Dev.aeStarted, Dev.ae_setAe_other, hf]
  · obtain ⟨h₀, h₁, h₂⟩ : k ≠ Reg.R3510_STATE e ∧ k ≠ Reg.R3510_PROG_DIGEST e ∧ k ≠ Reg.R3510_CYCLES e := by simpa using hk
    rw [Dev.reg_finish, Dev.aeStarted, Dev.reg_set_other _ _ h₂, Dev.reg_set_other _ _ h₁, Dev.reg_set_other _ _ h₀, Dev.reg_setAe]

theorem engineStart_refused (up : s.Up) (he : e < 2) (own : s.found.reg (Reg.R3510_MODE e) = 1) (going : s.found.AeGoing e) :
    Does (.engineStart e) s fun b a =>
      a.done = Code.AE_RUNNING ∧ a.LastRaised Code.AE_RUNNING Kind.unit (48 + e) ∧ b.Keeps a (.done :: logParts) ∧ b.KeepsRegs a logRegs :=
  Leaves.refused <| .cell (·.engineStart e) up.passes (Dev.engineStart_going he own going) (s.found.keeps_refused _ _ _ _ _ _)

theorem Ae.keeps_next_waited (x : Ae) : x.Keeps { x.next with mask := 0 } [] := by
  refine ⟨rfl, fun p _ => ?_⟩
  cases p with
  | addr | mem => exact ⟨rfl, rfl, rfl⟩
  | _ => rfl

/-- The engine a stop leaves: past a WAIT, its registers as they were. -/
theorem Dev.aeHaltedAt_spec (d : Dev) (e : Nat) :
    (if d.aeState e = AeState.waiting then ((d.aeHaltedAt e).pc, (d.aeHaltedAt e).loops) = aeLoopEnd (d.ae e).pc (d.ae e).loops
      else d.aeHaltedAt e = d.ae e) ∧ (d.ae e).Keeps (d.aeHaltedAt e) [] ∧ (d.aeHaltedAt e).cycles = (d.ae e).cycles := by
  unfold Dev.aeHaltedAt
  split_ifs
  · exact ⟨rfl, (d.ae e).keeps_next_waited, rfl⟩
  · exact ⟨rfl, (Ae.Works.refl _).1, rfl⟩

theorem engineStop_stops (up : s.Up) (he : e < 2) (own : s.found.reg (Reg.R3510_MODE e) = 1) (going : s.found.AeGoing e) :
    Does (.engineStop e) s fun b a =>
      a.done = Code.STATUS_OK ∧ a.aeState e = AeState.stopped ∧
      (if b.aeState e = AeState.waiting then ((a.ae e).pc, (a.ae e).loops) = aeLoopEnd (b.ae e).pc (b.ae e).loops
        else a.ae e = b.ae e) ∧ (b.ae e).Keeps (a.ae e) [] ∧ (∀ f, f ≠ e → a.ae f = b.ae f) ∧
      a.reg (Reg.R3510_STOP_PC e) = (odType (Reg.R3510_STOP_PC e)).wrap (a.ae e).pc ∧
      a.reg (Reg.R3510_SR e) = (odType (Reg.R3510_SR e)).wrap (b.ae e).sr ∧
      a.reg (Reg.R3510_CYCLES e) = (odType (Reg.R3510_CYCLES e)).wrap (b.ae e).cycles ∧ b.Keeps a [.od, .aes, .done] ∧
      b.KeepsRegs a [Reg.R3510_STATE e, Reg.R3510_STOP_PC e, Reg.R3510_SR e, Reg.R3510_CYCLES e] := by
  have keeps : s.found.Keeps ((s.found.aeStopped e).finish Code.STATUS_OK) [.od, .aes, .done] :=
    ((((((Dev.Keeps.refl _ _).setAe _ _).set _ _).set _ _).set _ _).set _ _).finish _
  have leaves : Leaves (.engineStop e) s ((s.found.aeStopped e).finish Code.STATUS_OK) :=
    .cell (·.engineStop e) up.passes (Dev.engineStop_going he own going) keeps
  have engine : ((s.found.aeStopped e).finish Code.STATUS_OK).ae e = s.found.aeHaltedAt e := Dev.ae_setAe _ e _
  obtain ⟨course, kept, cycles⟩ := s.found.aeHaltedAt_spec e
  have sr : (s.found.aeHaltedAt e).sr = (s.found.ae e).sr := kept.2 .sr (by simp)
  refine leaves.quietly (keeps .event (by decide)) ⟨Dev.finish_done _ _, ?_, ?_, ?_, fun f hf => ?_, ?_, ?_, ?_, keeps, fun k hk => ?_⟩
  · rw [Dev.aeState_finish, Dev.aeStopped, Dev.aeState, Dev.nat, Dev.reg_set_other _ _ (by simp), Dev.reg_set_other _ _ (by simp),
      Dev.reg_set_other _ _ (by simp)]
    exact Dev.aeState_set _ he (by decide)
  · rw [engine]; exact course
  · rw [engine]; exact kept
  · simp [Dev.aeStopped, Dev.ae_setAe_other, hf]
  · rw [engine, Dev.reg_finish, Dev.aeStopped, Dev.reg_set_other _ _ (by simp), Dev.reg_set_other _ _ (by simp), Dev.reg_set_same]
  · rw [Dev.reg_finish, Dev.aeStopped, Dev.reg_set_other _ _ (by simp), Dev.reg_set_same, sr]
  · rw [Dev.reg_finish, Dev.aeStopped, Dev.reg_set_same, cycles]
  · obtain ⟨h₀, h₁, h₂, h₃⟩ : k ≠ Reg.R3510_STATE e ∧ k ≠ Reg.R3510_STOP_PC e ∧ k ≠ Reg.R3510_SR e ∧ k ≠ Reg.R3510_CYCLES e := by
      simpa using hk
    rw [Dev.reg_finish, Dev.aeStopped, Dev.reg_set_other _ _ h₃, Dev.reg_set_other _ _ h₂, Dev.reg_set_other _ _ h₁,
      Dev.reg_set_other _ _ h₀, Dev.reg_setAe]

theorem engineStop_idles (up : s.Up) (he : e < 2) (own : s.found.reg (Reg.R3510_MODE e) = 1) (idle : ¬s.found.AeGoing e) :
    Does (.engineStop e) s fun b a => a.done = Code.STATUS_OK ∧ b.Keeps a [.done] :=
  Leaves.finished <| .cell (·.engineStop e) up.passes (Dev.engineStop_idle he own idle) (s.found.keeps_finish _)

theorem engineReset_resets (up : s.Up) (he : e < 2) (own : s.found.reg (Reg.R3510_MODE e) = 1) : Does (.engineReset e) s fun b a =>
    a.done = Code.STATUS_OK ∧ a.aeState e = AeState.stopped ∧ (b.ae e).Cleared (a.ae e) ∧
    (∀ f, f ≠ e → a.ae f = b.ae f) ∧ b.Keeps a [.od, .aes, .done] ∧ b.KeepsRegs a [Reg.R3510_STATE e] := by
  have keeps : s.found.Keeps ((s.found.aeCleared e).finish Code.STATUS_OK) [.od, .aes, .done] :=
    (((Dev.Keeps.refl _ _).setAe _ _).set _ _).finish _
  have leaves : Leaves (.engineReset e) s ((s.found.aeCleared e).finish Code.STATUS_OK) :=
    .cell (·.engineReset e) up.passes (Dev.engineReset_own he own) keeps
  have engine : ((s.found.aeCleared e).finish Code.STATUS_OK).ae e = (s.found.ae e).clear 0 0 := Dev.ae_setAe _ e _
  refine leaves.quietly (keeps .event (by decide)) ⟨Dev.finish_done _ _, ?_, ?_, fun f hf => ?_, keeps, fun k hk => ?_⟩
  · rw [Dev.aeState_finish, Dev.aeCleared, Dev.aeState_set _ he (by decide)]
  · rw [engine]; exact Ae.cleared_clear _ _ _
  · simp [Dev.aeCleared, Dev.ae_setAe_other, hf]
  · rw [Dev.reg_finish, Dev.aeCleared, Dev.reg_set_other _ _ (by simpa using hk), Dev.reg_setAe]

/-- CONTROL of an engine in mode 0 (R221, R249). -/
theorem engineControl_owned (up : s.Up) (he : e < 2) (owned : s.found.reg (Reg.R3510_MODE e) ≠ 1) {i : Instr}
    (hi : i ∈ [Instr.engineStart e, .engineStop e, .engineReset e]) : Does i s fun b a =>
      a.done = Code.AE_OWNED ∧ a.LastRaised Code.AE_OWNED Kind.unit (48 + e) ∧ b.Keeps a (.done :: logParts) ∧ b.KeepsRegs a logRegs := by
  have keeps := s.found.keeps_refused Code.AE_OWNED Kind.unit (48 + e) 0 0 Code.AE_OWNED
  simp only [List.mem_cons, List.not_mem_nil, or_false] at hi
  rcases hi with rfl | rfl | rfl
  · exact Leaves.refused <| .cell (·.engineStart e) up.passes (Dev.engineStart_owned he owned) keeps
  · exact Leaves.refused <| .cell (·.engineStop e) up.passes (Dev.engineStop_owned he owned) keeps
  · exact Leaves.refused <| .cell (·.engineReset e) up.passes (Dev.engineReset_owned he owned) keeps

end

end Sys2Proof.Machine
end

section
/-! ## LIBRARY_RELOAD (R222, R223, R246) -/

namespace Sys2Proof.Machine

/-- A map filled by ascending keys from `f`. -/
theorem mget_fill (d : Nat) (f : Nat → Nat) (n i : Nat) :
    mget d (((List.range n).map fun k => (k, f k)).foldl (fun m (k, w) => mset d m k w) []) i = if i < n then f i else d := by
  induction n with
  | zero => rfl
  | succ n ih =>
    rw [List.range_succ, List.map_append, List.foldl_append]
    simp only [List.map_cons, List.map_nil, List.foldl_cons, List.foldl_nil]
    rw [mget_mset, ih]
    rcases lt_trichotomy i n with below | rfl | above
    · rw [if_neg (by omega), if_pos below, if_pos (by omega)]
    · rw [if_pos rfl, if_pos (by omega)]
    · rw [if_neg (by omega), if_neg (by omega), if_neg (by omega)]

/-- The words of a library at their program addresses, HALT at the others. -/
theorem Ae.word_loadLibrary (x : Ae) (lib : Bytes) (i : Nat) :
    mget 0xD0000000 (x.loadLibrary lib).prog i = if i < 8192 ∧ 4 * i < lib.length then leNat (slice lib (4 * i) 4) else 0xD0000000 := by
  refine (mget_fill 0xD0000000 (fun i => leNat (slice lib (4 * i) 4)) (min 8192 ((lib.length + 3) / 4)) i).trans ?_
  exact if_congr (by omega) rfl rfl

section
variable {e : Nat} {s : State}

theorem Dev.libraryReload_idle {d : Dev} (he : e < 2) (mode : d.reg (Reg.R3510_MODE e) = 0) (out : (d.ae e).ready = false) :
    d.libraryReload e = (d.putLibrary e d.library).set (Reg.R3510_STATE e) AeState.stopped := by
  rw [Dev.libraryReload, if_neg (by simp [mode, out]; omega)]

/-- The frame of a reload, with and without a library. -/
theorem Dev.libraryReload_frame (d : Dev) (he : e < 2) (lib : Option Bytes) :
    let a := (d.putLibrary e lib).set (Reg.R3510_STATE e) AeState.stopped
    a.aeState e = AeState.stopped ∧ (∀ f, f ≠ e → a.ae f = d.ae f) ∧ d.Keeps a [.od, .aes] ∧ d.KeepsRegs a [Reg.R3510_STATE e] := by
  refine ⟨Dev.aeState_set _ he (by decide), fun f hf => d.ae_setAe_other _ hf, ((Dev.Keeps.refl d _).setAe e _).set _ _, fun k hk => ?_⟩
  rw [Dev.reg_set_other _ _ (by simpa using hk)]
  rfl

theorem libraryReload_leaves (live : s.Live) (he : e < 2) (mode : s.found.reg (Reg.R3510_MODE e) = 0) (out : (s.found.ae e).ready = false)
    {lib : Option Bytes} (there : s.found.library = lib) :
    Leaves (.libraryReload e) s ((s.found.putLibrary e lib).set (Reg.R3510_STATE e) AeState.stopped) :=
  have frame := s.found.libraryReload_frame he lib
  .cell (·.libraryReload e) live.passes (there ▸ Dev.libraryReload_idle he mode out) frame.2.2.1

theorem libraryReload_loads (live : s.Live) (he : e < 2) (mode : s.found.reg (Reg.R3510_MODE e) = 0) (out : (s.found.ae e).ready = false)
    {lib : Bytes} (there : s.found.library = some lib) : Does (.libraryReload e) s fun b a =>
      (a.ae e).ready = true ∧ a.aeState e = AeState.stopped ∧
      (∀ i, a.aeWord e i = if i < 8192 ∧ 4 * i < lib.length then leNat (slice lib (4 * i) 4) else 0xD0000000) ∧
      (a.ae e).x = [] ∧ (a.ae e).y = [] ∧ (a.ae e).bad = [] ∧ (∀ i, (a.ae e).D i = 0 ∧ (a.ae e).A i = 0) ∧
      (∀ f, f ≠ e → a.ae f = b.ae f) ∧ b.Keeps a [.od, .aes] ∧ b.KeepsRegs a [Reg.R3510_STATE e] := by
  obtain ⟨state, others, keeps, regs⟩ := s.found.libraryReload_frame he (some lib)
  have engine : ((s.found.putLibrary e (some lib)).set (Reg.R3510_STATE e) AeState.stopped).ae e =
      { (s.found.ae e).loadLibrary lib with ready := true } := Dev.ae_setAe _ e _
  refine (libraryReload_leaves live he mode out there).quietly (keeps .event (by decide))
    ⟨?_, state, fun i => ?_, ?_, ?_, ?_, fun i => ?_, others, keeps, regs⟩
  · rw [engine]
  · rw [Dev.aeWord, engine]
    exact (s.found.ae e).word_loadLibrary lib i
  · rw [engine]; rfl
  · rw [engine]; rfl
  · rw [engine]; rfl
  · rw [engine]; exact ⟨rfl, rfl⟩

theorem libraryReload_waits (live : s.Live) (he : e < 2) (mode : s.found.reg (Reg.R3510_MODE e) = 0) (out : (s.found.ae e).ready = false)
    (missing : s.found.library = none) : Does (.libraryReload e) s fun b a =>
      (a.ae e).ready = false ∧ a.aeState e = AeState.stopped ∧ (∀ f, f ≠ e → a.ae f = b.ae f) ∧ b.Keeps a [.od, .aes] ∧
      b.KeepsRegs a [Reg.R3510_STATE e] := by
  obtain ⟨state, others, keeps, regs⟩ := s.found.libraryReload_frame he none
  have engine : ((s.found.putLibrary e none).set (Reg.R3510_STATE e) AeState.stopped).ae e =
      { (s.found.ae e).clear 0 0 with ready := false } := Dev.ae_setAe _ e _
  exact (libraryReload_leaves live he mode out missing).quietly (keeps .event (by decide)) ⟨by rw [engine], state, others, keeps, regs⟩

end
end Sys2Proof.Machine
end

section
/-! ## Signals and the watchdog (R241, R243, R245) -/

namespace Sys2Proof.Machine

section
variable {e v : Nat} {s : State}

theorem doorbell_rings (up : s.Up) (he : e < 2) : Does (.doorbell e v) s fun b a =>
    a.done = Code.STATUS_OK ∧ (∀ i < 16, a.bit (Reg.R3510_DOORBELL e) i = (b.bit (Reg.R3510_DOORBELL e) i || v.testBit i)) ∧
    b.Keeps a [.od, .done] ∧ b.KeepsRegs a [Reg.R3510_DOORBELL e] := by
  let d := s.found.orBits (Reg.R3510_DOORBELL e) (v % 65536)
  have keeps : s.found.Keeps (d.finish Code.STATUS_OK) [.od, .done] := ((Dev.Keeps.refl _ _).set _ _).finish _
  have leaves : Leaves (.doorbell e v) s (d.finish Code.STATUS_OK) := .cell (·.doorbell e v) up.passes (if_neg (by omega)) keeps
  refine leaves.quietly (keeps .event (by decide)) ⟨Dev.finish_done _ _, fun i hi => ?_, keeps, fun k hk => ?_⟩
  · refine (s.found.bit_orBits (odType_ofSignals he).2.2 _ hi).trans ?_
    rw [show (65536 : Nat) = 2 ^ 16 from rfl, Nat.testBit_mod_two_pow]
    simp [hi]
  · exact Dev.reg_set_other s.found _ (by simpa using hk)

/-- The engine's source withdrawn from what is pending where no masked bit of SIGNAL is left. -/
def Dev.aeReleased (d : Dev) (e : Nat) : Dev :=
  if d.nat (Reg.R3510_SIGNAL e) &&& d.nat (Reg.R3510_SIG_MASK e) = 0 then { d with plic := d.plic.filter (· != 80 + e) } else d

theorem Dev.keeps_aeReleased (d : Dev) (e : Nat) : d.Keeps (d.aeReleased e) [.plic] := by
  unfold Dev.aeReleased
  split_ifs
  · intro p hp
    cases p with
    | plic => simp at hp
    | _ => rfl
  · exact Dev.Keeps.refl _ _

theorem Dev.plic_aeReleased (d : Dev) (e : Nat) :
    (d.nat (Reg.R3510_SIGNAL e) &&& d.nat (Reg.R3510_SIG_MASK e) = 0 → 80 + e ∉ (d.aeReleased e).plic) ∧
    ∀ src, src ≠ 80 + e → (src ∈ (d.aeReleased e).plic ↔ src ∈ d.plic) := by
  unfold Dev.aeReleased
  split_ifs with clear
  · exact ⟨fun _ => by simp, fun src other => by simp [other]⟩
  · exact ⟨fun h => absurd h clear, fun _ _ => Iff.rfl⟩

theorem signalClear_clears (up : s.Up) (he : e < 2) : Does (.signalClear e v) s fun b a =>
    a.done = Code.STATUS_OK ∧ (∀ i < 16, a.bit (Reg.R3510_SIGNAL e) i = (b.bit (Reg.R3510_SIGNAL e) i && !v.testBit i)) ∧
    (a.nat (Reg.R3510_SIGNAL e) &&& b.nat (Reg.R3510_SIG_MASK e) = 0 → 80 + e ∉ a.plic) ∧
    (∀ src, src ≠ 80 + e → (src ∈ a.plic ↔ src ∈ b.plic)) ∧
    b.Keeps a [.od, .plic, .done] ∧ b.KeepsRegs a [Reg.R3510_SIGNAL e] := by
  let d := s.found.clearBits (Reg.R3510_SIGNAL e) v
  have keeps : s.found.Keeps ((d.aeReleased e).finish Code.STATUS_OK) [.od, .plic, .done] :=
    (((Dev.Keeps.refl _ _).set _ _).step (d.keeps_aeReleased e)).finish _
  have leaves : Leaves (.signalClear e v) s ((d.aeReleased e).finish Code.STATUS_OK) :=
    .cell (·.signalClear e v) up.passes (if_neg (by omega)) keeps
  have od : ((d.aeReleased e).finish Code.STATUS_OK).od = d.od := d.keeps_aeReleased e .od (by decide)
  have mask : d.nat (Reg.R3510_SIG_MASK e) = s.found.nat (Reg.R3510_SIG_MASK e) := s.found.nat_set_other _ (by simp)
  obtain ⟨withdrawn, others⟩ := d.plic_aeReleased e
  refine leaves.quietly (keeps .event (by decide)) ⟨Dev.finish_done _ _, fun i hi => ?_, fun clear => ?_, others, keeps, fun k hk => ?_⟩
  · rw [Dev.bit, Dev.nat_congr od]
    exact s.found.bit_clearBits (odType_ofEngine he).2.2 v hi
  · rw [Dev.nat_congr od, ← mask] at clear
    exact withdrawn clear
  · rw [Dev.reg_congr od]
    exact Dev.reg_set_other s.found _ (by simpa using hk)

theorem Dev.ae_aeTake (d : Dev) (e mask : Nat) :
    (d.aeTake e mask).ae e = { (d.ae e).next with woke := d.nat (Reg.R3510_DOORBELL e) &&& mask, mask := 0 } := Dev.ae_setAe _ e _

/-- The device a WAIT that is over leaves. -/
def Dev.aeWoken (d : Dev) (e : Nat) : Dev :=
  let x := d.ae e
  ((d.takeFresh.2.setAe e { x with cycles := x.cycles + Config.aeStall d.fresh }).aeTake e x.mask).set (Reg.R3510_STATE e) AeState.running

theorem waitWake_wakes (live : s.Live) (he : e < 2) (waiting : s.found.aeState e = AeState.waiting)
    (rung : s.found.nat (Reg.R3510_DOORBELL e) &&& (s.found.ae e).mask ≠ 0) : Does (.waitWake e) s fun b a =>
      a.aeState e = AeState.running ∧ (a.ae e).woke = b.nat (Reg.R3510_DOORBELL e) &&& (b.ae e).mask ∧
      (∀ i < 16, a.bit (Reg.R3510_DOORBELL e) i = (b.bit (Reg.R3510_DOORBELL e) i && !((b.ae e).mask).testBit i)) ∧
      ((a.ae e).pc, (a.ae e).loops) = aeLoopEnd (b.ae e).pc (b.ae e).loops ∧ (b.ae e).Keeps (a.ae e) [.woke] ∧
      (∀ f, f ≠ e → a.ae f = b.ae f) ∧
      b.Keeps a [.od, .aes, .fresh] ∧ b.KeepsRegs a [Reg.R3510_STATE e, Reg.R3510_DOORBELL e] := by
  have fresh : s.found.Keeps s.found.takeFresh.2 [.fresh] := by
    intro p hp
    cases p with
    | fresh => simp at hp
    | _ => rfl
  have keeps : s.found.Keeps (s.found.aeWoken e) [.od, .aes, .fresh] :=
    (((((Dev.Keeps.refl _ _).step fresh).setAe _ _).set _ _).setAe _ _).set _ _
  have leaves : Leaves (.waitWake e) s (s.found.aeWoken e) :=
    .cell (·.waitWake e) (live.passesIf he) (if_pos ⟨he, waiting, rung⟩) keeps
  let stalled : Ae := { s.found.ae e with cycles := (s.found.ae e).cycles + Config.aeStall s.found.fresh }
  have engine : (s.found.aeWoken e).ae e =
      { stalled.next with woke := s.found.nat (Reg.R3510_DOORBELL e) &&& (s.found.ae e).mask, mask := 0 } := by
    rw [Dev.aeWoken, Dev.ae_set, Dev.ae_aeTake, Dev.ae_setAe]
    rfl
  refine leaves.quietly (keeps .event (by decide))
    ⟨Dev.aeState_set _ he (by decide), by rw [engine], fun i hi => ?_, by rw [engine]; rfl, ?_, fun f hf => ?_, keeps, fun k hk => ?_⟩
  · rw [Dev.aeWoken, Dev.bit, Dev.nat_set_other _ _ (by simp)]
    refine (Dev.bit_clearBits _ (odType_ofSignals he).2.2 _ hi).trans ?_
    have door (d : Dev) (x : Ae) : (d.setAe e x).nat (Reg.R3510_DOORBELL e) = d.nat (Reg.R3510_DOORBELL e) := rfl
    rw [Dev.bit, door, Dev.bit, Nat.testBit_and]
    change ((s.found.nat _).testBit i && !((s.found.nat _).testBit i && _)) = _
    cases (s.found.nat (Reg.R3510_DOORBELL e)).testBit i <;> simp
  · rw [engine]
    refine ⟨rfl, fun p hp => ?_⟩
    cases p with
    | woke => simp at hp
    | addr | mem => exact ⟨rfl, rfl, rfl⟩
    | _ => rfl
  · rw [Dev.aeWoken, Dev.ae_set, Dev.aeTake, Dev.ae_setAe_other _ _ hf]
    exact Dev.ae_setAe_other _ _ hf
  · obtain ⟨h₀, h₁⟩ : k ≠ Reg.R3510_STATE e ∧ k ≠ Reg.R3510_DOORBELL e := by simpa using hk
    rw [Dev.aeWoken, Dev.reg_set_other _ _ h₀, Dev.aeTake, Dev.reg_setAe, Dev.clearBits, Dev.reg_set_other _ _ h₁]
    rfl

theorem aeWatchdog_stops (live : s.Live) (he : e < 2) (own : s.found.reg (Reg.R3510_MODE e) = 1) (going : s.found.AeGoing e)
    (watched : 0 < s.found.nat (Reg.R3510_WD_US e))
    (over_ : (s.found.ae e).start + 1000 * s.found.nat (Reg.R3510_WD_US e) < s.found.clk.raw + 31250) : Does (.aeWatchdog e) s fun b a =>
      a.aeState e = AeState.faulted ∧ a.nat (Reg.R3510_FAULT e) = Code.AE_WATCHDOG ∧
      a.reg (Reg.R3510_STOP_PC e) = (odType (Reg.R3510_STOP_PC e)).wrap (b.ae e).pc ∧
      a.bit (Reg.R3510_SIGNAL e) 15 = true ∧ a.aes = b.aes ∧ a.LastRaised Code.AE_WATCHDOG Kind.unit (48 + e) := by
  have stops := Dev.aeFault_stops (d := s.found) he own (code := Code.AE_WATCHDOG) (by decide)
  have result : s.found.aeWatchdog e = s.found.aeFault e Code.AE_WATCHDOG := by
    rw [Dev.aeWatchdog, if_neg, if_pos over_]
    unfold Dev.AeGoing at going
    omega
  have keeps : s.found.Keeps (s.found.aeFault e Code.AE_WATCHDOG) [.od, .log, .event, .plic] := by
    rw [Dev.aeFault_own he own]
    exact (((((((Dev.Keeps.refl _ _).set _ _).set _ _).set _ _).set _ _).raise _ _ _ _ _).step (Dev.aeSignal_frame _ _ _)).set _ _
  have leaves : Leaves (.aeWatchdog e) s (s.found.aeFault e Code.AE_WATCHDOG) := .cell (·.aeWatchdog e) (live.passesIf he) result keeps
  exact leaves.does fun _ _ => stops

theorem aeWatchdog_rests (live : s.Live) (he : e < 2) (within : s.found.nat (Reg.R3510_WD_US e) = 0 ∨
    s.found.clk.raw + 31250 ≤ (s.found.ae e).start + 1000 * s.found.nat (Reg.R3510_WD_US e)) :
    Does (.aeWatchdog e) s fun b a => b.Keeps a [] := by
  have result : s.found.aeWatchdog e = s.found := by
    rw [Dev.aeWatchdog]
    split_ifs with absent late
    · rfl
    · omega
    · rfl
  exact Leaves.unchanged <| .cell (·.aeWatchdog e) (live.passesIf he) result (Dev.Keeps.refl _ [])

end

/-- Settles O19: each command by its case, from what it finds of the engine's mode and state. -/
theorem engineModesAndControl : Obligations.EngineModesAndControl := by
  refine ⟨fun e mode s up => ⟨?_, ?_, ?_, ?_, ?_⟩, fun e s he => ⟨?_, ?_, ?_, ?_, ?_, ?_, ?_, ?_⟩, fun e v s he => ⟨?_, ?_, ?_, ?_, ?_⟩⟩
  · exact engineMode_switches up
  · exact fun he h idle same => Leaves.finished <| .cell (·.engineMode e mode) up.passes (Dev.engineMode_same he h idle same) (s.found.keeps_finish _)
  · exact fun he h busy => Leaves.refused <|
      .cell (·.engineMode e mode) up.passes (Dev.engineMode_busy he h busy) (s.found.keeps_refused _ _ _ _ _ _)
  · exact fun he h => Leaves.finished <| .cell (·.engineMode e mode) up.passes (Dev.engineMode_range he h) (s.found.keeps_finish _)
  · exact fun absent => Leaves.finished <| .cell (·.engineMode e mode) up.passes (Dev.engineMode_absent mode absent) (s.found.keeps_finish _)
  · exact fun up own idle => engineStart_starts up he own idle
  · exact fun up own going => engineStart_refused up he own going
  · exact fun up own going => engineStop_stops up he own going
  · exact fun up own idle => engineStop_idles up he own idle
  · exact fun up own => engineReset_resets up he own
  · exact fun i hi up owned => engineControl_owned up he owned hi
  · exact fun live mode out lib there => libraryReload_loads live he mode out there
  · exact fun live mode out missing => libraryReload_waits live he mode out missing
  · exact fun up => doorbell_rings up he
  · exact fun up => signalClear_clears up he
  · exact fun live waiting rung => waitWake_wakes live he waiting rung
  · exact fun live own going watched late => aeWatchdog_stops live he own going watched late
  · exact fun live within => aeWatchdog_rests live he within

end Sys2Proof.Machine
end

section
/-! # A write of an entry (R435 to R440) -/

namespace Sys2Proof.Machine

/-- The device whose session, if an SL write was accepted, is as young as that write (R398). -/
def Dev.keepsAlive (d : Dev) (c : Bool) : Dev :=
  if c then { d with safe := { d.safe with session := d.safe.session.map fun s => { s with last := d.rawNow } } } else d

theorem Dev.touchSession_eq (d : Dev) (e : Entry) : ∃ c, d.touchSession e = d.keepsAlive c := by
  by_cases h : e.acc = .sl ∧ d.done = Code.STATUS_OK
  · exact ⟨true, if_pos h⟩
  · exact ⟨false, if_neg h⟩

theorem Dev.keeps_keepsAlive (d : Dev) (c : Bool) : d.Keeps (d.keepsAlive c) [.safe] := by
  cases c
  · exact Dev.Keeps.refl _ _
  · intro p hp
    cases p with
    | safe => simp at hp
    | _ => rfl

section
variable {d : Dev} {r : Requester} {ix sub : Nat} {data : Bytes}

theorem Dev.odWrite_nowhere (h : locate ix sub = .nowhere) : d.odWrite r ix sub data = d.finish Code.OD_NO_ENTRY := by
  simp [Dev.odWrite, h]

theorem Dev.odWrite_checked {e : Entry} {j : Nat} (h : locate ix sub = .entry e j) {code : Nat}
    (check : d.writeCheck r e ix sub data = code) (bad : code ≠ Code.STATUS_OK) : d.odWrite r ix sub data = d.writeRefused ix sub code := by
  subst check
  simp only [Dev.odWrite, h]
  exact if_pos bad

/-- A write that passes does what its entry says, and keeps an owner's session alive. -/
theorem Dev.odWrite_passes {e : Entry} {j : Nat} (h : locate ix sub = .entry e j) (ok : d.WriteOk r ix sub data) : ∃ c,
    d.odWrite r ix sub data = ((d.writeSpecial r ix sub (e.ty.wrap (leNat data)) data).getD
      (d.storeEntry e ix sub (e.ty.wrap (leNat data)) data)).keepsAlive c := by
  obtain ⟨e', j', h', check, block⟩ := ok
  obtain ⟨rfl, rfl⟩ : e' = e ∧ j' = j := by simpa [h] using h'.symm
  obtain ⟨c, touched⟩ := Dev.touchSession_eq ((d.writeSpecial r ix sub (e'.ty.wrap (leNat data)) data).getD
    (d.storeEntry e' ix sub (e'.ty.wrap (leNat data)) data)) e'
  refine ⟨c, ?_⟩
  rw [← touched]
  simp only [Dev.odWrite, h, check, block, ne_eq, not_true_eq_false, if_false]

theorem Dev.writeCheck_session {e : Entry} (clock : networkClock ix sub = false) (acc : e.acc = .sl)
    (far : ix < 0x7810 ∨ 0x7840 ≤ ix ∨ 8 < sub) (path : d.pathOpen r ix sub = true) (none : d.slAllowed r = false) :
    d.writeCheck r e ix sub data = Code.SESSION_DENIED := by
  have writable : ¬(e.acc = .ro ∨ (0x7810 ≤ ix ∧ ix < 0x7840 ∧ sub ≤ 8)) := by simp [acc]; omega
  unfold Dev.writeCheck
  rw [if_neg (by simp [clock]), if_neg writable, if_neg (by simp [path]), if_pos ⟨acc, none⟩]

end

end Sys2Proof.Machine
end

section
/-! # Zone tokens (R156, R157, R160) -/

namespace Sys2Proof.Machine

theorem Dev.zone_setZone_other (d : Dev) {y z : Nat} (x : Zone) (h : y ≠ z) : (d.setZone z x).zone y = d.zone y :=
  mget_mset_other _ _ _ _ h

theorem Dev.keeps_setZone (d : Dev) (z : Nat) (x : Zone) : d.Keeps (d.setZone z x) [.zones] := by
  intro p hp
  cases p with
  | zones => simp at hp
  | _ => rfl

/-! ## REQUEST, RELEASE and FORCE_RELEASE -/

section
variable {d : Dev} {c z : Nat} (ask : Bool)

theorem Dev.zoneAsk_noChain (h : 16 ≤ c) : d.zoneAsk c z ask = d.finish Code.OD_NO_ENTRY := if_pos h

theorem Dev.zoneAsk_noZone (_hc : c < 16) (h : 64 ≤ z) : d.zoneAsk c z ask = d.finish Code.OD_RANGE :=
  (if_neg (by omega)).trans (if_pos h)

/-- The device in which the pending list of a zone has one entry more. -/
def Dev.asked (d : Dev) (c z : Nat) (ask : Bool) : Dev := d.setZone z { d.zone z with asks := (d.zone z).asks ++ [{ chain := c, ask }] }

theorem Dev.zoneAsk_asks (_hc : c < 16) (_hz : z < 64) : d.zoneAsk c z ask = (d.asked c z ask).finish Code.STATUS_OK :=
  (if_neg (by omega)).trans (if_neg (by omega))

end

section
variable {i : Instr} {s : State} {c z : Nat} {ask : Bool}

theorem zoneAsk_asks (_hc : c < 16) (_hz : z < 64) (h : Leaves i s ((s.found.asked c z ask).finish Code.STATUS_OK)) : Does i s fun b a =>
    a.done = Code.STATUS_OK ∧ a.zone z = { b.zone z with asks := (b.zone z).asks ++ [{ chain := c, ask }] } ∧
    (∀ y, y ≠ z → a.zone y = b.zone y) ∧ b.Keeps a [.zones, .done] :=
  h.quietly rfl ⟨rfl, Dev.zone_setZone _ z _, fun _ hy => Dev.zone_setZone_other _ _ hy,
    (s.found.keeps_setZone z _).trans (Dev.keeps_finish _ _)⟩

/-- REQUEST and RELEASE, told apart by what they enter. -/
theorem zoneAsk_leaves (up : s.Up) (h : (i, ask) ∈ [(Instr.request c z, true), (.release c z, false)]) {d : Dev} {l : List Part}
    (result : s.found.zoneAsk c z ask = d) (keeps : s.found.Keeps d l) (within : ∀ p ∈ beyondCell, p ∉ l) : Leaves i s d := by
  obtain ⟨rfl, rfl⟩ | ⟨rfl, rfl⟩ : (i = .request c z ∧ ask = true) ∨ (i = .release c z ∧ ask = false) := by simpa using h
  · exact .cell (·.zoneAsk c z true) up.passes result keeps within
  · exact .cell (·.zoneAsk c z false) up.passes result keeps within

end

/-- The entry FORCE_RELEASE of a zone is writable within a session alone. -/
theorem locate_forceRelease {z : Nat} (hz : z < 64) : ∃ e j, locate (0x3140 + z) 0x10 = .entry e j ∧ e.acc = .sl := by
  have all : ∀ z < 64, (match locate (0x3140 + z) 0x10 with
    | .entry e _ => decide (e.acc = .sl)
    | _ => false) = true := by decide +kernel
  have here := all z hz
  split at here
  case h_1 e j found => exact ⟨e, j, found, of_decide_eq_true here⟩
  all_goals cases here

section
variable {d : Dev} {r : Requester} {z : Nat} (hz : z < 64)
include hz

theorem tableOf_forceRelease : tableOf (0x3140 + z) 0x10 = none := by
  rw [tableOf, if_neg (by omega), if_neg (by omega), if_neg (by omega), if_neg (by omega), if_neg (by omega), if_neg (by omega),
    if_neg (by omega), if_neg (by omega), if_neg (by omega)]

theorem Dev.writeSpecial_forceRelease (v : Int) (data : Bytes) : d.writeSpecial r (0x3140 + z) 0x10 v data = some (d.forceReleaseBy r z) := by
  rw [Dev.writeSpecial, tableOf_forceRelease hz, if_neg (by omega), if_neg (by omega), if_neg (by omega), if_neg (by omega), if_neg (by omega), if_pos (by omega),
    Dev.safetyWrite.eq_def, if_pos ⟨by omega, by omega, rfl⟩]
  simp only [Nat.add_sub_cancel_left]

theorem Dev.zoneForce_allowed (ok : d.WriteOk r (0x3140 + z) 0x10 [0]) (session : d.slAllowed r = true) :
    ∃ c, d.zoneForce r z = ((d.keepsAlive true).forceRelease z true).keepsAlive c := by
  obtain ⟨e, j, found, -⟩ := locate_forceRelease hz
  obtain ⟨c, h⟩ := Dev.odWrite_passes found ok
  refine ⟨c, ?_⟩
  rw [Dev.zoneForce, if_pos hz, h, Dev.writeSpecial_forceRelease hz, Option.getD_some, Dev.forceReleaseBy, session]
  rfl

theorem Dev.zoneForce_denied (path : d.pathOpen r (0x3140 + z) 0x10 = true) (none : d.slAllowed r = false) : d.zoneForce r z = d.denied := by
  obtain ⟨e, j, found, acc⟩ := locate_forceRelease hz
  have clock : networkClock (0x3140 + z) 0x10 = false := by simp [networkClock]
  rw [Dev.zoneForce, if_pos hz, Dev.odWrite_checked found (Dev.writeCheck_session clock acc (by omega) path none) (by decide),
    Dev.writeRefused, if_neg (by decide), if_pos rfl]

end

section
variable {d : Dev} {z h : Nat} (hz : z < 64)
include hz

theorem Dev.forceRelease_free (holder : (d.zone z).holder = none) : d.forceRelease z true = d.finish Code.STATUS_OK := by
  rw [Dev.forceRelease, if_neg (by omega), if_neg (by simp)]
  simp only [holder]

/-- The device in which a zone's token is marked to be taken from its holder `h`. -/
def Dev.forcedFrom (d : Dev) (z h : Nat) : Dev := (d.setZone z { d.zone z with forced := true }).raise Code.ZONE_FORCED Kind.zone z 0 h

theorem Dev.forceRelease_stopped (holder : (d.zone z).holder = some h)
    (rests : d.chainState h = AxState.disabled ∨ d.chainState h = AxState.fault) :
    d.forceRelease z true = (d.forcedFrom z h).finish Code.STATUS_OK := by
  rw [Dev.forceRelease, if_neg (by omega), if_neg (by simp)]
  simp only [holder, Dev.forcedFrom]
  exact if_pos rests

theorem Dev.forceRelease_working (holder : (d.zone z).holder = some h)
    (works : d.chainState h ≠ AxState.disabled ∧ d.chainState h ≠ AxState.fault) :
    d.forceRelease z true = (d.raise Code.ZONE_FORCE_REFUSED Kind.zone z 0 h).finish Code.ZONE_FORCE_REFUSED := by
  rw [Dev.forceRelease, if_neg (by omega), if_neg (by simp)]
  simp only [holder]
  exact if_neg (by tauto)

end

theorem Dev.Keeps.keepsAlive {d e : Dev} {l : List Part} (h : d.Keeps e l) (c : Bool) (within : Part.safe ∈ l := by decide) :
    d.Keeps (e.keepsAlive c) l := h.step (e.keeps_keepsAlive c) (by simpa using within)

theorem Dev.LastRaised.of_keeps {d e : Dev} {l : List Part} {code kind subject : Nat} (h : d.LastRaised code kind subject)
    (keeps : d.Keeps e l) (out : Part.log ∉ l := by decide) : e.LastRaised code kind subject := by
  have log : e.log = d.log := keeps .log out
  rwa [Dev.LastRaised, log]

theorem Dev.LastRaised.told {d : Dev} {code kind subject : Nat} (h : d.LastRaised code kind subject) (pend vecs : List Nat) :
    (d.told pend vecs).LastRaised code kind subject := h

theorem Dev.Keeps.zone {d e : Dev} {l : List Part} (h : d.Keeps e l) (z : Nat) (out : Part.zones ∉ l := by decide) : e.zone z = d.zone z := by
  have zones : e.zones = d.zones := h .zones out
  rw [Dev.zone, Dev.zone, zones]

section
variable {r : Requester} {z : Nat} {s : State}

theorem forceRelease_leaves (serves : s.found.Serves r (0x3140 + z)) {d : Dev} {l : List Part} (result : s.found.zoneForce r z = d)
    (keeps : s.found.Keeps d l) (within : Part.clk ∉ l) : Leaves (.forceRelease r z) s d :=
  have serves' : s.dev.Serves r (0x3140 + z) := serves
  .full (guard := fun d => d.reached r (0x3140 + z)) (·.zoneForce r z) serves'.passes result keeps within

section
variable (hz : z < 64) (serves : s.found.Serves r (0x3140 + z)) (ok : s.found.WriteOk r (0x3140 + z) 0x10 [0])
  (session : s.found.slAllowed r = true)
include hz serves ok session

theorem forceRelease_ofStopped {h : Nat} (holder : (s.found.zone z).holder = some h)
    (rests : s.found.chainState h = AxState.disabled ∨ s.found.chainState h = AxState.fault) : Does (.forceRelease r z) s fun b a =>
      a.done = Code.STATUS_OK ∧ a.zone z = { b.zone z with forced := true } ∧ a.LastRaised Code.ZONE_FORCED Kind.zone z := by
  obtain ⟨c, result⟩ := Dev.zoneForce_allowed hz ok session
  let marked := (s.found.keepsAlive true).setZone z { s.found.zone z with forced := true }
  have same : s.found.Keeps marked [.safe, .zones] := (s.found.keeps_keepsAlive true).trans (Dev.keeps_setZone _ _ _)
  have raised : marked.Keeps (marked.raise Code.ZONE_FORCED Kind.zone z 0 h) [.od, .log, .event] := Dev.keeps_raise _ _ _ _ _ _
  have ends (e : Dev) : e.Keeps ((e.finish Code.STATUS_OK).keepsAlive c) [.done, .safe] := (e.keeps_finish _).trans (Dev.keeps_keepsAlive _ c)
  have leaves : Leaves (.forceRelease r z) s (((marked.raise Code.ZONE_FORCED Kind.zone z 0 h).finish Code.STATUS_OK).keepsAlive c) :=
    forceRelease_leaves serves (result.trans (congrArg (·.keepsAlive c) (Dev.forceRelease_stopped (d := s.found.keepsAlive true) hz holder rests)))
      ((same.trans raised).trans (ends _)) (by decide)
  refine leaves.does fun _ _ => ⟨?_, ?_, ?_⟩
  · exact (Dev.keeps_keepsAlive _ c) .done (by decide)
  · exact ((raised.trans (ends _)).zone z).trans (Dev.zone_setZone _ z _)
  · exact (Dev.lastRaised_raise marked Code.ZONE_FORCED Kind.zone z 0 h).of_keeps (ends _) |>.told _ _

theorem forceRelease_ofWorking {h : Nat} (holder : (s.found.zone z).holder = some h)
    (works : s.found.chainState h ≠ AxState.disabled ∧ s.found.chainState h ≠ AxState.fault) : Does (.forceRelease r z) s fun b a =>
      a.done = Code.ZONE_FORCE_REFUSED ∧ a.zones = b.zones ∧ a.LastRaised Code.ZONE_FORCE_REFUSED Kind.zone z := by
  obtain ⟨c, result⟩ := Dev.zoneForce_allowed hz ok session
  let e := (s.found.keepsAlive true).raise Code.ZONE_FORCE_REFUSED Kind.zone z 0 h
  have raised : s.found.Keeps e [.safe, .od, .log, .event] := (s.found.keeps_keepsAlive true).trans (Dev.keeps_raise _ _ _ _ _ _)
  have ends : e.Keeps ((e.finish Code.ZONE_FORCE_REFUSED).keepsAlive c) [.done, .safe] := (e.keeps_finish _).trans (Dev.keeps_keepsAlive _ c)
  have leaves : Leaves (.forceRelease r z) s ((e.finish Code.ZONE_FORCE_REFUSED).keepsAlive c) :=
    forceRelease_leaves serves (result.trans (congrArg (·.keepsAlive c) (Dev.forceRelease_working (d := s.found.keepsAlive true) hz holder works))) (raised.trans ends) (by decide)
  refine leaves.does fun _ _ => ⟨?_, ?_, ?_⟩
  · exact (Dev.keeps_keepsAlive _ c) .done (by decide)
  · exact (raised.trans ends) .zones (by decide)
  · exact (Dev.lastRaised_raise (s.found.keepsAlive true) Code.ZONE_FORCE_REFUSED Kind.zone z 0 h).of_keeps ends |>.told _ _

theorem forceRelease_ofFree (holder : (s.found.zone z).holder = none) : Does (.forceRelease r z) s fun b a =>
    a.done = Code.STATUS_OK ∧ a.zones = b.zones ∧ a.log = b.log := by
  obtain ⟨c, result⟩ := Dev.zoneForce_allowed hz ok session
  have keeps : s.found.Keeps (((s.found.keepsAlive true).finish Code.STATUS_OK).keepsAlive c) [.safe, .done] :=
    (((Dev.Keeps.refl s.found _).keepsAlive true).finish _).keepsAlive c
  have leaves : Leaves (.forceRelease r z) s (((s.found.keepsAlive true).finish Code.STATUS_OK).keepsAlive c) :=
    forceRelease_leaves serves (result.trans (congrArg (·.keepsAlive c) (Dev.forceRelease_free (d := s.found.keepsAlive true) hz holder))) keeps (by decide)
  exact leaves.quietly (keeps .event (by decide))
    ⟨(Dev.keeps_keepsAlive _ c) .done (by decide), keeps .zones (by decide), keeps .log (by decide)⟩

end

theorem forceRelease_ofNone (hz : z < 64) (serves : s.found.Serves r (0x3140 + z)) (path : s.found.pathOpen r (0x3140 + z) 0x10 = true)
    (none : s.found.slAllowed r = false) : Does (.forceRelease r z) s fun b a =>
      a.done = Code.SESSION_DENIED ∧ a.zones = b.zones ∧ a.LastRaised Code.SESSION_DENIED Kind.device 0 := by
  have leaves : Leaves (.forceRelease r z) s s.found.denied :=
    forceRelease_leaves serves (Dev.zoneForce_denied hz path none) (Dev.keeps_refused _ _ _ _ _ _ _) (by decide)
  obtain ⟨a, run, done, raised, keeps, -⟩ := leaves.refused
  exact ⟨a, run, done, keeps .zones (by decide), raised⟩

end

/-! ## The evaluation of a zone -/

/-- No chain waits twice, none waits that holds the token, and at most sixteen wait. -/
def Zone.Good (x : Zone) : Prop := x.queue.Nodup ∧ x.queue.length ≤ 16 ∧ ∀ h, x.holder = some h → h ∉ x.queue

/-- What each stage of zone `z`'s evaluation does: it leaves the other zones and the pending list, and keeps a good queue good. -/
structure Dev.ZoneStep (z : Nat) (d e : Dev) : Prop where
  others : ∀ y, y ≠ z → e.zone y = d.zone y
  good : (d.zone z).Good → (e.zone z).Good
  asks : (e.zone z).asks = (d.zone z).asks

section
variable {z : Nat} {d e f : Dev} {l : List Part}

theorem Dev.ZoneStep.refl (z : Nat) (d : Dev) : d.ZoneStep z d := ⟨fun _ _ => rfl, id, rfl⟩

theorem Dev.ZoneStep.trans (h : d.ZoneStep z e) (g : e.ZoneStep z f) : d.ZoneStep z f :=
  ⟨fun y hy => (g.others y hy).trans (h.others y hy), fun x => g.good (h.good x), g.asks.trans h.asks⟩

theorem Dev.ZoneStep.of_setZone {x : Zone} (good : (d.zone z).Good → x.Good) (asks : x.asks = (d.zone z).asks) :
    d.ZoneStep z (d.setZone z x) :=
  ⟨fun _ hy => d.zone_setZone_other x hy, by simpa using good, by simpa using asks⟩

theorem Dev.ZoneStep.of_keeps (h : d.Keeps e l) (out : Part.zones ∉ l := by decide) : d.ZoneStep z e :=
  ⟨fun y _ => h.zone y out, by rw [h.zone z out]; exact id, by rw [h.zone z out]⟩

theorem Dev.ZoneStep.each {α : Type} (xs : List α) (g : α → Dev → Dev) (h : ∀ x (d : Dev), d.ZoneStep z (g x d)) (d : Dev) :
    d.ZoneStep z (each xs g d) := by
  induction xs generalizing d with
  | nil => exact .refl z d
  | cons x xs ih => exact (h x d).trans (ih (g x d))

theorem Dev.ZoneStep.raise (h : d.ZoneStep z e) (code kind subject reaction detail : Nat) :
    d.ZoneStep z (e.raise code kind subject reaction detail) := h.trans (.of_keeps (e.keeps_raise code kind subject reaction detail))

theorem Dev.ZoneStep.status (h : d.ZoneStep z e) (c code : Nat) : d.ZoneStep z (e.zoneStatus c code) :=
  h.trans (.of_keeps (e.keeps_set _ _))

end

/-! Each change of a zone's queue or token keeps it good. -/

section
variable {x : Zone} (good : x.Good)
include good

theorem Zone.Good.free (exiting : Nat) : Zone.Good { x with holder := none, releasing := false, forced := false, exiting } :=
  ⟨good.1, good.2.1, fun _ h => nomatch h⟩

theorem Zone.Good.join {c : Nat} (holder : x.holder ≠ some c) (fresh : c ∉ x.queue) (room : x.queue.length < 16) :
    Zone.Good { x with queue := x.queue ++ [c] } := by
  obtain ⟨nodup, -, held⟩ := good
  refine ⟨?_, ?_, fun h hh => ?_⟩
  · exact List.nodup_append.2 ⟨nodup, List.nodup_singleton c, fun a ha b hb => by rintro rfl; simp at hb; exact fresh (hb ▸ ha)⟩
  · simp only [List.length_append, List.length_singleton]; omega
  · have : h ≠ c := fun e => holder (e ▸ hh)
    simp [held h hh, this]

theorem Zone.Good.leave (c : Nat) : Zone.Good { x with queue := x.queue.filter (· != c) } := by
  obtain ⟨nodup, room, held⟩ := good
  exact ⟨nodup.filter _, (List.length_filter_le _ _).trans room, fun h hh hq => held h hh (List.mem_of_mem_filter hq)⟩

theorem Zone.Good.grant {c : Nat} {rest : List Nat} (queue : x.queue = c :: rest) :
    Zone.Good { x with holder := some c, queue := rest } := by
  obtain ⟨nodup, room, -⟩ := good
  rw [queue, List.nodup_cons] at nodup
  rw [queue, List.length_cons] at room
  refine ⟨nodup.2, by dsimp only; omega, fun h hh => ?_⟩
  obtain rfl : c = h := Option.some.inj hh
  exact nodup.1

end

section
variable (d : Dev) (z : Nat)

theorem Dev.zoneStep_freeToken (exiting : Bool) : d.ZoneStep z (d.freeToken z exiting) := by
  unfold Dev.freeToken
  dsimp only
  split
  · exact .refl z d
  · exact .of_setZone (fun good => good.free _) rfl

theorem Dev.zoneStep_zoneReleases : d.ZoneStep z (d.zoneReleases z) := by
  unfold Dev.zoneReleases
  dsimp only
  split
  · exact .refl z d
  · split
    · exact d.zoneStep_freeToken z false
    · split
      · exact ((d.zoneStep_freeToken z true).status _ _).raise _ _ _ _ _
      · exact .refl z d

theorem Dev.zoneStep_applyAsk (a : ZoneAsk) : d.ZoneStep z (d.applyAsk z a) := by
  unfold Dev.applyAsk
  dsimp only
  have same := ZoneStep.refl z d
  have flagged (b : Bool) : d.ZoneStep z (d.setZone z { d.zone z with releasing := b }) := .of_setZone id rfl
  split
  · split
    · exact (same.status _ _).raise _ _ _ _ _
    · split
      · exact (flagged false).status _ _
      · split
        · exact same.status _ _
        · split
          · exact (same.status _ _).raise _ _ _ _ _
          · rename_i holder fresh room
            exact ZoneStep.status (.of_setZone (fun good => good.join holder (by simpa using fresh) (by omega)) rfl) _ _
  · split
    · exact same.status _ _
    · split
      · exact (flagged true).status _ _
      · exact ZoneStep.status (.of_setZone (fun good => good.leave _) rfl) _ _

theorem Dev.zoneAsks_empties : (∀ y, y ≠ z → (d.zoneAsks z).zone y = d.zone y) ∧ ((d.zone z).Good → ((d.zoneAsks z).zone z).Good) ∧
    ((d.zoneAsks z).zone z).asks = [] := by
  have step := ZoneStep.each (d.zone z).asks (fun a d => d.applyAsk z a) (fun a d => d.zoneStep_applyAsk z a)
    (d.setZone z { d.zone z with asks := [] })
  refine ⟨fun y hy => (step.others y hy).trans (d.zone_setZone_other _ hy), fun good => step.good ?_, step.asks.trans ?_⟩
  · rw [Dev.zone_setZone]; exact good
  · rw [Dev.zone_setZone]

theorem Dev.zoneStep_zoneGrant : d.ZoneStep z (d.zoneGrant z) := by
  unfold Dev.zoneGrant
  dsimp only
  split
  · rename_i c rest holder queue
    exact (ZoneStep.status (.of_setZone (fun good => good.grant queue) rfl) _ _).raise _ _ _ _ _
  · exact .refl z d

/-- After the grant nobody waits for a token that nobody holds. -/
theorem Dev.zoneGrant_holder (waits : ((d.zoneGrant z).zone z).queue ≠ []) : ((d.zoneGrant z).zone z).holder ≠ none := by
  revert waits
  unfold Dev.zoneGrant
  dsimp only
  split
  · rename_i c rest _ _
    intro _
    let granted := d.setZone z { d.zone z with holder := some c, queue := rest }
    have keeps : granted.Keeps ((granted.zoneStatus c Code.ZONE_GRANTED).raise Code.ZONE_GRANTED Kind.zone z 0 c) [.od, .log, .event] :=
      ((granted.keeps_set _ _).mono (by simp)).raise _ _ _ _ _
    rw [keeps.zone z, Dev.zone_setZone]
    exact Option.some_ne_none c
  · rename_i other
    intro waits holder
    cases queue : (d.zone z).queue with
    | nil => exact waits queue
    | cons c rest => exact other c rest holder queue

/-- A stage that leaves token and queue of the zone too. -/
structure Dev.ZoneShows (z : Nat) (d e : Dev) : Prop extends d.ZoneStep z e where
  holder : (e.zone z).holder = (d.zone z).holder
  queue : (e.zone z).queue = (d.zone z).queue

section
variable {d z} {e f : Dev} {l : List Part}

theorem Dev.ZoneShows.trans (h : Dev.ZoneShows z d e) (g : Dev.ZoneShows z e f) : Dev.ZoneShows z d f :=
  ⟨h.toZoneStep.trans g.toZoneStep, g.holder.trans h.holder, g.queue.trans h.queue⟩

theorem Dev.ZoneShows.of_keeps (h : d.Keeps e l) (out : Part.zones ∉ l := by decide) : Dev.ZoneShows z d e :=
  ⟨.of_keeps h out, by rw [h.zone z out], by rw [h.zone z out]⟩

theorem Dev.ZoneShows.of_setZone {x : Zone} (holder : x.holder = (d.zone z).holder) (queue : x.queue = (d.zone z).queue)
    (asks : x.asks = (d.zone z).asks) : Dev.ZoneShows z d (d.setZone z x) :=
  ⟨.of_setZone (by rw [Zone.Good, Zone.Good, holder, queue]; exact id) asks, by rw [Dev.zone_setZone, holder], by rw [Dev.zone_setZone, queue]⟩

end

theorem Dev.keeps_modChain (c : Nat) (g : Chain → Chain) : d.Keeps (d.modChain c g) [.chains] := by
  intro p hp
  cases p with
  | chains => simp at hp
  | _ => rfl

theorem Dev.keeps_laterChain (c code r : Nat) : d.Keeps (d.laterChain c code r) [.geom] := by
  intro p hp
  cases p with
  | geom => simp at hp
  | _ => rfl

theorem Dev.zoneShows_zoneHolds : Dev.ZoneShows z d (d.zoneHolds z) := by
  unfold Dev.zoneHolds
  dsimp only
  have raised (new : List Nat) : d.Keeps (each new (fun c d => d.raise Code.ZONE_APPROACH_HOLD Kind.chain c 0 z) d) [.od, .log, .event] :=
    .each new _ (fun c d => d.keeps_raise _ _ _ _ _) d
  exact (ZoneShows.of_keeps (raised _)).trans
    (.of_setZone (by rw [(raised _).zone z]) (by rw [(raised _).zone z]) (by rw [(raised _).zone z]))

theorem Dev.zoneShows_zoneBreaches (gone : Option Nat) : Dev.ZoneShows z d (d.zoneBreaches z gone) := by
  unfold Dev.zoneBreaches
  dsimp only
  generalize fieldLE (d.zoneRec z) 49 1 = react
  refine ZoneShows.trans ?_ (.of_keeps (l := [.chains, .geom, .od, .log, .event]) (.each _ _ (fun c d => ?_) _))
  · exact .of_setZone rfl rfl rfl
  split
  · exact .refl d _
  · have breached := ((d.keeps_modChain c fun y => { y with breachEp := true }).mono (m := [.chains, .geom, .od, .log, .event]) (by simp)).raise
      Code.ZONE_BREACH Kind.chain c react z
    have reacts := breached.step (Dev.keeps_laterChain _ c Code.ZONE_BREACH react)
    split
    · split
      · exact reacts.step (Dev.keeps_laterChain _ _ _ _)
      · exact reacts
    · exact reacts

/-- The evaluation of a zone, and what it makes of the zone's token and queue. -/
theorem Dev.zoneEval_spec : (∀ y, y ≠ z → (d.zoneEval z).zone y = d.zone y) ∧ ((d.zone z).Good → ((d.zoneEval z).zone z).Good) ∧
    (d.zoneOn z = true → ((d.zoneEval z).zone z).asks = [] ∧
      (((d.zoneEval z).zone z).queue ≠ [] → ((d.zoneEval z).zone z).holder ≠ none)) := by
  unfold Dev.zoneEval
  by_cases on : d.zoneOn z = true
  · rw [if_neg (by simp [on])]
    dsimp only
    have releases := d.zoneStep_zoneReleases z
    obtain ⟨others, good, asks⟩ := (d.zoneReleases z).zoneAsks_empties z
    have grant := ((d.zoneReleases z).zoneAsks z).zoneStep_zoneGrant z
    have holder := ((d.zoneReleases z).zoneAsks z).zoneGrant_holder z
    have shows (gone : Option Nat) := (Dev.zoneShows_zoneHolds _ z).trans
      (Dev.zoneShows_zoneBreaches ((((d.zoneReleases z).zoneAsks z).zoneGrant z).zoneHolds z) z gone)
    refine ⟨fun y hy => ?_, fun h => (shows _).good (grant.good (good (releases.good h))), fun _ => ⟨?_, fun waits => ?_⟩⟩
    · rw [(shows _).others y hy, grant.others y hy, others y hy, releases.others y hy]
    · rw [(shows _).asks, grant.asks, asks]
    · rw [(shows _).queue] at waits
      rw [(shows _).holder]
      exact holder waits
  · rw [if_pos (by simp [on])]
    obtain ⟨others, good, -⟩ := d.zoneAsks_empties z
    exact ⟨others, good, fun h => absurd h on⟩

theorem zoneEval_good (good : ∀ y, (d.zone y).Good) : (∀ y, ((d.zoneEval z).zone y).Good) ∧
    (∀ y, y ≠ z → ((d.zoneEval z).zone y).holder = (d.zone y).holder ∧ ((d.zoneEval z).zone y).queue = (d.zone y).queue ∧
      ((d.zoneEval z).zone y).asks = (d.zone y).asks) ∧
    (d.zoneOn z = true → ((d.zoneEval z).zone z).asks = [] ∧
      (((d.zoneEval z).zone z).queue ≠ [] → ((d.zoneEval z).zone z).holder ≠ none)) := by
  obtain ⟨others, here, on⟩ := d.zoneEval_spec z
  refine ⟨fun y => ?_, fun y hy => by simp [others y hy], on⟩
  by_cases hy : y = z
  · subst hy; exact here (good y)
  · rw [others y hy]; exact good y

end

/-- Settles O34: what REQUEST and RELEASE enter, the cases of FORCE_RELEASE, and the stages of an evaluation. -/
theorem zones : Obligations.Zones := by
  refine ⟨fun s r c z => ⟨fun i ask h up => ⟨fun hc hz => ?_, fun hc => ?_, fun hc hz => ?_⟩,
    fun hz serves ok session => ⟨fun h holder rests => forceRelease_ofStopped hz serves ok session holder rests,
      fun h holder off fault => forceRelease_ofWorking hz serves ok session holder ⟨off, fault⟩,
      fun holder => forceRelease_ofFree hz serves ok session holder⟩,
    fun hz serves path none => forceRelease_ofNone hz serves path none⟩, fun d z good => zoneEval_good d z good⟩
  · exact zoneAsk_asks hc hz (zoneAsk_leaves up h (Dev.zoneAsk_asks ask hc hz)
      ((s.found.keeps_setZone z _).trans (Dev.keeps_finish _ _)) (by decide))
  · exact (zoneAsk_leaves up h (Dev.zoneAsk_noChain ask hc) (s.found.keeps_finish _) (by decide)).finished
  · exact (zoneAsk_leaves up h (Dev.zoneAsk_noZone ask hc hz) (s.found.keeps_finish _) (by decide)).finished

end Sys2Proof.Machine
end

section
/-! # The banked tables (R35 to R39) -/

namespace Sys2Proof.Machine

/-- The tables that a request entry names. -/
def Table.There : Table → Prop
  | .axis n => n < 128
  | .bank b => b = 1 ∨ b = 2 ∨ b = 3
  | .start g => g < 16
  | .arm s => s < 16
  | _ => True

theorem tableOf_there {ix sub : Nat} {t : Table} (h : tableOf ix sub = some t) : t.There ∧ t.key / 256 = ix ∧ t.key % 256 = sub := by
  unfold tableOf at h
  split_ifs at h <;> obtain rfl := Option.some.inj h <;> simp only [true_or, or_true, true_and, Table.There, Table.key, bankCommit, Reg.AX9_COMMIT_CYCLE, Reg.R5000_COMMIT_CYCLE,
      Reg.R3100_COMMIT_CYCLE, Reg.R3200_COMMIT_CYCLE, Reg.R3430_START_CYCLE, Reg.R3410_ARM_CYCLE, Reg.R3804_COMMIT_CYCLE,
      Reg.R1420_COMMIT_CYCLE, Reg.R1220_COMMIT_CYCLE, Reg.key] <;> omega

/-- What holds of the entries of a table: its request is an unsigned number of 32 bits; its status holds every code, its
DONE_CYCLE every cycle number, and neither is an entry that a code raised changes. -/
def Table.Sound (t : Table) : Bool :=
  (match locate (t.key / 256) (t.key % 256) with
    | .entry e _ => e.ty == .u32
    | _ => false) &&
  (t.status.all fun k => odType k == .u16 && !logRegs.contains k && k != Reg.R3800_LAST_CODE) &&
  (t.done.all fun k => odType k == .u32 && !logRegs.contains k && k != Reg.R3800_LAST_CODE && t.status != some k)

theorem Table.There.sound {t : Table} (h : t.There) : t.Sound = true := by
  cases t with
  | axis n =>
    have all : ∀ n < 128, (Table.axis n).Sound = true := by decide +kernel
    exact all n h
  | bank b => rcases h with rfl | rfl | rfl <;> decide +kernel
  | start g =>
    have all : ∀ g < 16, (Table.start g).Sound = true := by decide +kernel
    exact all g h
  | arm g =>
    have all : ∀ g < 16, (Table.arm g).Sound = true := by decide +kernel
    exact all g h
  | release => decide +kernel
  | sched => decide +kernel
  | expected => decide +kernel


section
variable {t : Table} {k : Nat} (ht : t.There)
include ht

theorem Table.There.status (h : t.status = some k) : odType k = .u16 ∧ k ∉ logRegs ∧ k ≠ Reg.R3800_LAST_CODE := by
  have sound := ht.sound
  simp only [Table.Sound, h, Option.all_some, Bool.and_eq_true, beq_iff_eq, bne_iff_ne, Bool.not_eq_true', List.contains_eq_mem,
    decide_eq_false_iff_not] at sound
  exact ⟨sound.1.2.1.1, sound.1.2.1.2, sound.1.2.2⟩

theorem Table.There.done (h : t.done = some k) :
    odType k = .u32 ∧ k ∉ logRegs ∧ k ≠ Reg.R3800_LAST_CODE ∧ t.status ≠ some k := by
  have sound := ht.sound
  simp only [Table.Sound, h, Option.all_some, Bool.and_eq_true, beq_iff_eq, bne_iff_ne, Bool.not_eq_true', List.contains_eq_mem,
    decide_eq_false_iff_not] at sound
  exact ⟨sound.2.1.1.1, sound.2.1.1.2, sound.2.1.2, sound.2.2⟩

theorem Table.There.locate : ∃ e j, locate (t.key / 256) (t.key % 256) = .entry e j ∧ e.ty = .u32 := by
  have sound := ht.sound
  rw [Table.Sound, Bool.and_eq_true, Bool.and_eq_true] at sound
  obtain ⟨⟨found, -⟩, -⟩ := sound
  split at found
  case h_1 e j h => exact ⟨e, j, h, beq_iff_eq.1 found⟩
  all_goals cases found

end

/-! ## The outcome of a request shown -/

theorem Dev.Keeps.cond {d e : Dev} {l : List Part} (h : d.Keeps e l) (c : Bool) (f : Dev → Dev) (g : e.Keeps (f e) l) : d.Keeps (e.when c f) l :=
  h.andThen (.when c f g)

theorem Dev.reg_when {d : Dev} {k : Nat} (c : Bool) (f : Dev → Dev) (h : (f d).reg k = d.reg k) : (d.when c f).reg k = d.reg k := by
  cases c
  · rfl
  · exact h

theorem Dev.keeps_raisePlic (d : Dev) (src : Nat) : d.Keeps (d.raisePlic src) [.plic] := by
  intro p hp
  unfold Dev.raisePlic
  cases p with
  | plic => simp at hp
  | _ => split <;> rfl

theorem Dev.keeps_showStatus (d : Dev) (t : Table) (code : Nat) : d.Keeps (d.showStatus t code) [.od] := by
  unfold Dev.showStatus
  split
  · exact d.keeps_set _ _
  · exact .refl d _

/-- The device after a request of a table is over, before its code enters the log. -/
def Dev.outcomeShown (d : Dev) (t : Table) (code : Nat) : Dev :=
  match t with
  | .axis n => (d.showStatus t code).when (code == Code.BANK_INVALID) fun d => d.loopCode n code
  | _ => d.showStatus t code

/-- The code in the log. -/
def Dev.outcomeLogged (d : Dev) (t : Table) (code : Nat) : Dev :=
  (d.outcomeShown t code).when (code != Code.STATUS_OK) fun d => d.raise code Kind.table 0 0 (t.key * 256)

def Dev.outcomeTold (d : Dev) (t : Table) (code : Nat) : Dev :=
  (d.outcomeLogged t code).when (code == Code.RELEASE_INVALID) fun d => (d.set Reg.R3800_LAST_CODE code).raisePlic 64

section
variable (d : Dev) (t : Table) (code : Nat)

theorem Dev.commitOutcome_eq : d.commitOutcome t code = (d.outcomeTold t code).when
    (code != Code.LATE && (mget none (d.outcomeTold t code).pend t.key).isSome) fun d => d.showStatus t Code.COMMIT_PENDING := by
  cases t <;> rfl

theorem Dev.keeps_outcomeShown : d.Keeps (d.outcomeShown t code) [.od] := by
  cases t with
  | axis n => exact (d.keeps_showStatus _ _).cond _ _ (Dev.keeps_set _ _ _)
  | _ => exact d.keeps_showStatus _ _

theorem Dev.keeps_outcomeLogged : d.Keeps (d.outcomeLogged t code) [.od, .log, .event] :=
  ((d.keeps_outcomeShown t code).mono (by simp)).cond _ _ (Dev.keeps_raise _ _ _ _ _ _)

theorem Dev.keeps_outcomeTold : d.Keeps (d.outcomeTold t code) [.od, .log, .event, .plic] :=
  ((d.keeps_outcomeLogged t code).mono (by simp)).cond _ _ (((Dev.Keeps.refl _ _).set _ _).step (Dev.keeps_raisePlic _ _))

theorem Dev.keeps_commitOutcome : d.Keeps (d.commitOutcome t code) [.od, .log, .event, .plic] := by
  rw [Dev.commitOutcome_eq]
  exact (d.keeps_outcomeTold t code).cond _ _ ((Dev.keeps_showStatus _ _ _).mono (by simp))

theorem Dev.lastRaised_outcomeTold (bad : code ≠ Code.STATUS_OK) : (d.outcomeTold t code).LastRaised code Kind.table 0 := by
  have logged : (d.outcomeLogged t code).LastRaised code Kind.table 0 := by
    rw [Dev.outcomeLogged, Dev.when, if_pos (bne_iff_ne.2 bad)]
    exact Dev.lastRaised_raise _ _ _ _ _ _
  exact logged.of_keeps (l := [.od, .plic]) (.when _ _ (((Dev.Keeps.refl _ _).set _ _).step (Dev.keeps_raisePlic _ _)))

theorem Dev.lastRaised_commitOutcome (bad : code ≠ Code.STATUS_OK) : (d.commitOutcome t code).LastRaised code Kind.table 0 := by
  rw [Dev.commitOutcome_eq]
  exact (d.lastRaised_outcomeTold t code bad).of_keeps (l := [.od]) (.when _ _ (Dev.keeps_showStatus _ _ _))

end

section
variable {d : Dev} {t : Table} {code k : Nat} (ht : t.There)
include ht

theorem Dev.reg_showStatus (hk : t.status = some k) : (d.showStatus t code).reg k = OdType.u16.wrap code := by
  rw [Dev.showStatus, hk]
  exact (d.reg_set_same _ _).trans (by rw [(ht.status hk).1])

theorem Dev.reg_outcomeTold (hk : t.status = some k) : (d.outcomeTold t code).reg k = OdType.u16.wrap code := by
  obtain ⟨-, log, last⟩ := ht.status hk
  rw [Dev.outcomeTold, Dev.reg_when, Dev.outcomeLogged, Dev.reg_when]
  · have shown := Dev.reg_showStatus (d := d) (code := code) ht hk
    cases t with
    | axis n =>
      obtain rfl : Reg.AX9_COMMIT_STATUS n = k := Option.some.inj hk
      have other : Reg.AX9_COMMIT_STATUS n ≠ Reg.AX8_LAST_CODE n := by simp only [Reg.AX9_COMMIT_STATUS, Reg.AX8_LAST_CODE, Reg.key]; omega
      exact (Dev.reg_when _ _ (Dev.reg_set_other _ _ other)).trans shown
    | _ => exact shown
  · exact Dev.reg_raise _ _ _ _ _ _ log
  · exact (Dev.reg_congr (Dev.keeps_raisePlic _ _ .od (by decide)) _).trans (Dev.reg_set_other _ _ last)

/-- A request with nothing further pending of its table is shown with its code. -/
theorem Dev.reg_commitOutcome (hk : t.status = some k) (alone : code = Code.LATE ∨ mget none d.pend t.key = none) :
    (d.commitOutcome t code).reg k = OdType.u16.wrap code := by
  have pend : (d.outcomeTold t code).pend = d.pend := d.keeps_outcomeTold t code .pend (by decide)
  have none' : (code != Code.LATE && (mget none d.pend t.key).isSome) = false := by rcases alone with rfl | h <;> simp_all
  rw [Dev.commitOutcome_eq, pend, none', Dev.when, if_neg (by simp), Dev.reg_outcomeTold ht hk]

end

end Sys2Proof.Machine
end

section
/-! ## COMMIT_REQUEST (R35, R36) -/

namespace Sys2Proof.Machine

section
variable {d : Dev} {t : Table} {p : Pending}

/-- The first request of a table, pending. -/
def Dev.pendingNow (d : Dev) (t : Table) (p : Pending) : Dev := { d with pend := mset none d.pend t.key (some p) }.showStatus t Code.COMMIT_PENDING

/-- The state entry of a generator or a capture set that waits for its cycle. -/
def Dev.waitsShown (d : Dev) (t : Table) : Dev :=
  match t with
  | .start g => d.when (d.nat (Reg.R3430_STATE g) != 2) fun d => d.set (Reg.R3430_STATE g) 1
  | .arm s => d.when (d.nat (Reg.R3410_RUN_STATE s) == 0) fun d => d.set (Reg.R3410_RUN_STATE s) 1
  | _ => d

theorem Dev.placeRequest_first (free : mget none d.pend t.key = none) : d.placeRequest t p = (d.pendingNow t p).waitsShown t := by
  unfold Dev.placeRequest
  simp only [free, Dev.supersede]
  cases t <;> rfl

theorem Dev.keeps_waitsShown (d : Dev) (t : Table) : d.Keeps (d.waitsShown t) [.od] := by
  cases t with
  | start g => exact .when _ _ (d.keeps_set _ _)
  | arm s => exact .when _ _ (d.keeps_set _ _)
  | _ => exact .refl d _

theorem Dev.reg_waitsShown {k : Nat} (hk : t.status = some k) : (d.waitsShown t).reg k = d.reg k := by
  cases t with
  | start g =>
    obtain rfl : Reg.R3430_STATUS g = k := Option.some.inj hk
    exact Dev.reg_when _ _ (Dev.reg_set_other _ _ (by simp))
  | arm s => cases hk
  | _ => rfl

theorem Dev.keeps_pend (d : Dev) (m : Map (Option Pending)) : d.Keeps { d with pend := m } [.pend] := by
  intro q hq
  cases q with
  | pend => simp at hq
  | _ => rfl

theorem Dev.keeps_pendingNow (d : Dev) (t : Table) (p : Pending) : d.Keeps (d.pendingNow t p) [.od, .pend] :=
  ((d.keeps_pend _).trans (Dev.keeps_showStatus _ _ _)).mono (by simp)

theorem Dev.pend_pendingNow (d : Dev) (t : Table) (p : Pending) : (d.pendingNow t p).pend = mset none d.pend t.key (some p) :=
  (Dev.keeps_showStatus { d with pend := mset none d.pend t.key (some p) } t Code.COMMIT_PENDING) .pend (by decide)

end

/-- A pending commit fresh from its request. -/
def Pending.Fresh (p : Pending) (cycle : Nat) (late : Bool) (group : Nat) : Prop :=
  p.cycle = cycle ∧ p.late = late ∧ p.held = false ∧ p.ready = false ∧ p.group = group

section
variable {d : Dev} {t : Table} {N policy seq group : Nat}

/-- How a cycle number is judged at the cycle `cycle64`, before or past its cut-off. -/
def judgedAt (cycle cycle64 : Nat) (past : Bool) (N policy : Nat) : Option (Nat × Bool) :=
  let k := (N % 0x100000000 + 0x100000000 - cycle) % 0x100000000
  if 1 ≤ k ∧ k < 0x80000000 ∧ ¬(k = 1 ∧ past = true) then some (cycle64 + k, false)
  else if policy = 1 then some (cycle64 + (if past then 2 else 1), true)
  else none

theorem Dev.judgeCommit_eq (d : Dev) (N policy : Nat) : d.judgeCommit N policy = judgedAt d.cycle d.clk.cycle64 d.pastCutoff N policy := rfl

theorem Dev.judgeCommit_set (d : Dev) (k : Nat) (v : Int) (N policy : Nat) : (d.set k v).judgeCommit N policy = d.judgeCommit N policy := by
  have cycle : (d.set k v).cycle = d.cycle := rfl
  have past : (d.set k v).pastCutoff = d.pastCutoff := rfl
  rw [Dev.judgeCommit_eq, Dev.judgeCommit_eq, cycle, past, (d.set_keeps k v).1]

/-- The user whose session requests the commit of a safety-related bank, noted (R396). -/
def Dev.userNoted (d : Dev) (t : Table) : Dev :=
  match t, d.safe.session with
  | .bank b, some s => { d with safe := { d.safe with bankUser := mset 0 d.safe.bankUser b s.user } }
  | _, _ => d

/-- The masks of an axis' request. -/
def Dev.requestMasks (d : Dev) (t : Table) : Nat × Nat :=
  match t with
  | .axis n => (d.nat (Reg.AX9_COMMIT_MASK n), d.nat (Reg.AX9_BUMPLESS_MASK n))
  | _ => (0, 0)

theorem Dev.keeps_userNoted (d : Dev) (t : Table) : d.Keeps (d.userNoted t) [.safe] := by
  unfold Dev.userNoted
  split
  · intro q hq
    cases q with
    | safe => simp at hq
    | _ => rfl
  · exact .refl d _

/-- What a request does, by its judgement. The judgement stands as a variable `judge` while the definition is unfolded: the kernel
would evaluate it. -/
theorem Dev.request_judged {o : Option (Nat × Bool)} (judged : d.judgeCommit N policy = o) : d.request t N policy seq group =
    o.elim ((d.set t.key N).commitOutcome t Code.LATE) fun x => ((d.set t.key N).userNoted t).placeRequest t
      { seq, cycle := x.1, policy, late := x.2, group, mask := ((d.set t.key N).requestMasks t).1,
        bump := ((d.set t.key N).requestMasks t).2 } := by
  rw [← Dev.judgeCommit_set d t.key N] at judged
  revert judged
  have request : @Dev.request = Dev.request := rfl
  conv_rhs at request => delta Dev.request
  obtain ⟨judge, hj⟩ : ∃ judge, judge = Dev.judgeCommit := ⟨_, rfl⟩
  rw [request, ← hj]
  intro judged
  dsimp only
  rw [judged]
  cases o with
  | none => rfl
  | some x => cases t <;> rfl

theorem Dev.request_late (judged : d.judgeCommit N policy = none) :
    d.request t N policy seq group = (d.set t.key N).commitOutcome t Code.LATE := Dev.request_judged judged

theorem Dev.request_accepted {cycle : Nat} {late : Bool} (judged : d.judgeCommit N policy = some (cycle, late))
    (free : mget none d.pend t.key = none) : ∃ (e : Dev) (p : Pending), d.Keeps e [.od, .safe] ∧ p.Fresh cycle late group ∧
      d.request t N policy seq group = (e.pendingNow t p).waitsShown t := by
  have keeps : d.Keeps ((d.set t.key N).userNoted t) [.od, .safe] := (d.keeps_set _ _).trans (Dev.keeps_userNoted _ t)
  have pend : ((d.set t.key N).userNoted t).pend = d.pend := keeps .pend (by decide)
  exact ⟨_, _, keeps, ⟨rfl, rfl, rfl, rfl, rfl⟩, (Dev.request_judged judged).trans (Dev.placeRequest_first (by rw [pend]; exact free))⟩

end

section
variable {d : Dev} {N policy : Nat}

/-- A cycle number that lies ahead, as a request is judged. -/
abbrev Dev.Ahead (d : Dev) (N : Nat) : Prop :=
  let k := (N + 2 ^ 32 - d.cycle) % 2 ^ 32
  1 ≤ k ∧ k < 2 ^ 31 ∧ ¬(k = 1 ∧ d.pastCutoff = true)

theorem Dev.judgeCommit_ahead (hN : N < 2 ^ 32) (ahead : d.Ahead N) :
    d.judgeCommit N policy = some (d.clk.cycle64 + (N + 2 ^ 32 - d.cycle) % 2 ^ 32, false) := by
  simp only [Dev.Ahead, Nat.reducePow] at ahead hN ⊢
  unfold Dev.judgeCommit
  rw [Nat.mod_eq_of_lt hN]
  exact if_pos ahead

theorem Dev.judgeCommit_passed (hN : N < 2 ^ 32) (passed : ¬d.Ahead N) : d.judgeCommit N policy =
    if policy = 1 then some (d.clk.cycle64 + if d.pastCutoff = true then 2 else 1, true) else none := by
  simp only [Dev.Ahead, Nat.reducePow] at passed hN
  unfold Dev.judgeCommit
  rw [Nat.mod_eq_of_lt hN]
  exact if_neg passed

end

theorem leNat_leBytes4 {n : Nat} (h : n < 2 ^ 32) : leNat (leBytes 4 n) = n := by
  simp only [leBytes, byte, leNat, List.range, List.range.loop, List.map_cons, List.map_nil, List.foldr_cons, List.foldr_nil, Nat.reducePow,
    BitVec.toNat_ofNat] at h ⊢
  omega

theorem OdType.toNat_wrap_u32 {n : Nat} (h : n < 2 ^ 32) : (OdType.u32.wrap n).toNat = n := by
  have e : OdType.u32.wrap n = (n : Int) % 2 ^ 32 := rfl
  rw [e]
  omega

section
variable {r : Requester} {ix sub cycle : Nat} {t : Table} {s : State}

theorem Dev.commitWrite_requests {d : Dev} (hc : cycle < 2 ^ 32) (table : tableOf ix sub = some t)
    (ok : d.WriteOk r ix sub (leBytes 4 cycle)) : ∃ c, d.commitWrite r ix sub cycle = (d.commitRequest t cycle).keepsAlive c := by
  obtain ⟨there, rfl, rfl⟩ := tableOf_there table
  obtain ⟨e, j, found, type⟩ := there.locate
  obtain ⟨c, h⟩ := Dev.odWrite_passes found ok
  refine ⟨c, ?_⟩
  have value : (e.ty.wrap (leNat (leBytes 4 cycle))).toNat = cycle := by
    rw [type, leNat_leBytes4 hc]
    exact OdType.toNat_wrap_u32 hc
  rw [Dev.commitWrite, table]
  simp only [h, Dev.writeSpecial, table, value, Option.getD_some]

/-- The table's status shows a code, where it has one. -/
abbrev Dev.ShowsCode (a : Dev) (t : Table) (code : Nat) : Prop := ∀ st, t.status = some st → a.nat st = code

theorem OdType.toNat_wrap_u16 {n : Nat} (h : n < 2 ^ 16) : (OdType.u16.wrap n).toNat = n := by
  have e : OdType.u16.wrap n = (n : Int) % 2 ^ 16 := rfl
  rw [e]
  omega

section
variable (hc : cycle < 2 ^ 32) (table : tableOf ix sub = some t) (serves : s.found.Serves r ix)
  (ok : s.found.WriteOk r ix sub (leBytes 4 cycle))
include hc table serves ok

/-- A request written, that leaves the device `d` within `l`. -/
theorem commitRequest_does {d : Dev} {l : List Part} {P : Dev → Dev → Prop} (result : s.found.commitRequest t cycle = d)
    (keeps : s.found.Keeps d l) (p : ∀ a, d.Keeps a [.safe, .serve] → P s.found a) (within : Part.clk ∉ l := by decide) :
    Does (.commitRequest r ix sub cycle) s P := by
  obtain ⟨c, writes⟩ := Dev.commitWrite_requests hc table ok
  have serves' : s.dev.Serves r ix := serves
  have leaves : Leaves (.commitRequest r ix sub cycle) s (d.keepsAlive c) :=
    .full (guard := fun d => d.reached r ix) (·.commitWrite r ix sub cycle) serves'.passes (writes.trans (by rw [result]))
      (keeps.trans (d.keeps_keepsAlive c)) (by simpa using within)
  exact leaves.does fun _ _ => p _ ((d.keeps_keepsAlive c).trans (Dev.keeps_told _ _ _))

section
variable (free : mget none s.found.pend t.key = none)
include free

theorem commitRequest_accepted {switches : Nat} {late : Bool} (fits : s.found.requestRefusal t = Code.STATUS_OK)
    (judged : s.found.judgeCommit cycle (s.found.nat t.policy) = some (switches, late)) :
    Does (.commitRequest r ix sub cycle) s fun b a => a.done = Code.STATUS_OK ∧
      (∃ p, mget none a.pend t.key = some p ∧ p.cycle = switches ∧ p.late = late ∧ p.held = false ∧ p.ready = false ∧ p.group = 0) ∧
      (∀ j, j ≠ t.key → mget none a.pend j = mget none b.pend j) ∧ a.ShowsCode t Code.COMMIT_PENDING := by
  obtain ⟨e, p, same, fresh, result⟩ := Dev.request_accepted (seq := s.found.nextRequest) (group := 0) judged free
  have waits := Dev.keeps_waitsShown (e.pendingNow t p) t
  have pend : ((e.pendingNow t p).waitsShown t).pend = mset none s.found.pend t.key (some p) := by
    rw [waits .pend (by decide), Dev.pend_pendingNow, same .pend (by decide)]
  have after (a : Dev) (keeps : (((e.pendingNow t p).waitsShown t).finish Code.STATUS_OK).Keeps a [.safe, .serve]) :
      a.pend = mset none s.found.pend t.key (some p) := (keeps .pend (by decide)).trans pend
  refine commitRequest_does (d := ((e.pendingNow t p).waitsShown t).finish Code.STATUS_OK) hc table serves ok ?_
    (((same.trans (e.keeps_pendingNow t p)).trans waits).trans (Dev.keeps_finish _ _)) fun a keeps => ⟨?_, ⟨p, ?_, fresh⟩, fun j hj => ?_, fun st hst => ?_⟩
  · rw [Dev.commitRequest, fits, result]
    exact if_neg (by simp)
  · exact keeps .done (by decide)
  · rw [after a keeps, mget_mset_same]
  · rw [after a keeps, mget_mset_other _ _ _ _ hj]
  · rw [Dev.nat, Dev.reg_congr (keeps .od (by decide)), Dev.reg_finish, Dev.reg_waitsShown hst, Dev.pendingNow,
      Dev.reg_showStatus (tableOf_there table).1 hst, OdType.toNat_wrap_u16 (by decide)]

/-- A request that ends at once with a code. -/
theorem commitRequest_ends {d : Dev} {code done : Nat} (same : s.found.Keeps d [.od])
    (result : s.found.commitRequest t cycle = (d.commitOutcome t code).finish done) (small : code < 2 ^ 16) (bad : code ≠ Code.STATUS_OK) :
    Does (.commitRequest r ix sub cycle) s fun b a =>
      a.done = done ∧ a.pend = b.pend ∧ a.ShowsCode t code ∧ a.LastRaised code Kind.table 0 := by
  have over' := d.keeps_commitOutcome t code
  refine commitRequest_does hc table serves ok result ((same.trans over').trans (Dev.keeps_finish _ _)) fun a keeps => ⟨?_, ?_, fun st hst => ?_, ?_⟩
  · exact keeps .done (by decide)
  · exact (keeps .pend (by decide)).trans ((over' .pend (by decide)).trans (same .pend (by decide)))
  · have free' : mget none d.pend t.key = none := by rw [same .pend (by decide)]; exact free
    rw [Dev.nat, Dev.reg_congr (keeps .od (by decide)), Dev.reg_finish, Dev.reg_commitOutcome (tableOf_there table).1 hst (.inr free'),
      OdType.toNat_wrap_u16 small]
  · exact (d.lastRaised_commitOutcome t code bad).of_keeps ((Dev.keeps_finish _ done).trans keeps)

end
end

theorem Dev.requestRefusal_small (d : Dev) (t : Table) : d.requestRefusal t < 2 ^ 16 := by
  unfold Dev.requestRefusal Dev.captureCheck
  cases t with
  | axis n => dsimp only; split_ifs <;> decide
  | arm g => dsimp only; split_ifs <;> decide
  | _ => exact (by decide : Code.STATUS_OK < 2 ^ 16)

end

/-- Settles O31: a request is judged, then pending, or ends with its code. -/
theorem commitRequests : Obligations.CommitRequests := by
  intro r ix sub cycle t s d k ahead shows pends hc table serves ok free
  refine ⟨fun fits front => ?_, fun fits passed policy => ?_, fun fits passed policy => ?_, fun code refused bad => ?_⟩
  · obtain ⟨a, run, pending⟩ := commitRequest_accepted hc table serves ok free fits (Dev.judgeCommit_ahead hc front)
    exact ⟨a, run, pending⟩
  · obtain ⟨a, run, pending⟩ := commitRequest_accepted hc table serves ok free fits ((Dev.judgeCommit_passed hc passed).trans (if_pos policy))
    exact ⟨a, run, pending⟩
  · refine commitRequest_ends hc table serves ok free (s.found.keeps_set t.key cycle) ?_ (by decide) (by decide)
    rw [Dev.commitRequest, fits, Dev.request_late ((Dev.judgeCommit_passed hc passed).trans (if_neg policy))]
    exact if_neg (by simp)
  · refine commitRequest_ends (d := s.found) hc table serves ok free (.refl _ _) ?_ (refused ▸ s.found.requestRefusal_small t) bad
    rw [Dev.commitRequest, refused]
    exact if_pos bad

end Sys2Proof.Machine
end

section
/-! # A meaning whose frame need not be known -/

namespace Sys2Proof.Machine

/-- What lies beyond the cell, put back as the device `b` has it. -/
def Dev.besides (d b : Dev) : Dev :=
  { d with clk := b.clk, mem := b.mem, wall := b.wall, cpi := b.cpi, io := b.io, acts := b.acts, link := b.link, ptp := b.ptp,
           pair := b.pair, sett := b.sett, dma := b.dma, aon := b.aon, flash := b.flash, boot := b.boot, health := b.health,
           power := b.power }

theorem Dev.keeps_besides (d b : Dev) : d.Keeps (d.besides b) beyondCell := by
  intro p hp
  simp only [beyondCell, List.mem_cons, List.not_mem_nil, or_false, not_or] at hp
  cases p <;> first | rfl | (simp at hp)

theorem Dev.besides_tellEvent (d b : Dev) (n : Nat) : (d.besides b).tellEvent n = (d.tellEvent n).besides b := by
  unfold Dev.tellEvent Dev.msi Dev.besides
  dsimp only
  split_ifs <;> rfl

/-- A command of the cell, whose meaning may be known by what it does to the cell alone. -/
theorem Leaves.inCell {i : Instr} {s : State} {guard : Dev → (Dev → Dev) → Dev} {d : Dev} (g : Dev → Dev) (pass : s.Passes guard)
    (result : g s.found = d) (hi : exec i s = s.answerCell fun d => guard d g := by rfl) : Leaves i s (d.besides s.dev) := by
  rw [Leaves, hi, State.answerCell, pass, result, Dev.besides_tellEvent]
  rfl

end Sys2Proof.Machine
end

section
/-! # Values of DOMAIN and STRING entries -/

namespace Sys2Proof.Machine

theorem Dev.keeps_setBytes (d : Dev) (k : Nat) (v : Bytes) : d.Keeps (d.setBytes k v) [.dom, .gen] := by
  unfold Dev.setBytes
  split
  · exact .refl d _
  · intro p hp
    cases p with
    | dom | gen => simp at hp
    | _ => rfl

theorem Dev.bytes_setBytes (d : Dev) (k j : Nat) (v : Bytes) : (d.setBytes k v).bytes j = if j = k then v else d.bytes j := by
  unfold Dev.setBytes
  split
  case isTrue same =>
    by_cases h : j = k
    · rw [if_pos h, h, same]
    · rw [if_neg h]
  case isFalse =>
    by_cases h : j = k
    · subst h
      rw [if_pos rfl]
      exact mget_mset_same _ _ _ _
    · rw [if_neg h]
      exact mget_mset_other _ _ _ _ h

theorem Dev.Keeps.bytes {d e : Dev} {l : List Part} (h : d.Keeps e l) (k : Nat) (out : Part.dom ∉ l := by decide) : e.bytes k = d.bytes k := by
  have dom : e.dom = d.dom := h .dom out
  rw [Dev.bytes, Dev.bytes, dom]

/-- Images changed over. -/
theorem Dev.bytes_swapImages (d : Dev) (a b k : Nat) :
    (d.swapImages a b).bytes k = if k = b then d.bytes a else if k = a then d.bytes b else d.bytes k := by
  unfold Dev.swapImages
  simp only [Dev.bytes_setBytes]

theorem Dev.keeps_swapImages (d : Dev) (a b : Nat) : d.Keeps (d.swapImages a b) [.dom, .gen] :=
  (d.keeps_setBytes _ _).andThen (Dev.keeps_setBytes _ _ _)

/-- What a loop does to each of a family of views that its turns change one by one. -/
theorem iterate_view {σ β : Type} (n : Nat) (f : Nat → σ → σ) (view : Nat → σ → β) (g : Nat → β → β)
    (own : ∀ l < n, ∀ x, view l (f l x) = g l (view l x)) (other : ∀ l < n, ∀ j < n, j ≠ l → ∀ x, view l (f j x) = view l x) (x : σ) :
    ∀ l < n, view l (iterate n f x) = g l (view l x) := by
  intro l hl
  have upTo : ∀ m ≤ n, view l (iterate m f x) = if l < m then g l (view l x) else view l x := by
    intro m
    induction m with
    | zero => intro _; rfl
    | succ m ih =>
      intro hm
      have step : iterate (m + 1) f x = f m (iterate m f x) := by simp [iterate, List.range_succ]
      rw [step]
      by_cases e : m = l
      · subst e
        rw [own m hl, ih (by omega), if_neg (by omega), if_pos (by omega)]
      · rw [other l hl m (by omega) e, ih (by omega)]
        by_cases less : l < m
        · rw [if_pos less, if_pos (by omega)]
        · rw [if_neg less, if_neg (by omega)]
  rw [upTo n le_rfl, if_pos hl]

end Sys2Proof.Machine
end

section
/-! # The cut-off (R35, R38) -/

namespace Sys2Proof.Machine

theorem mem_keyTable {key : Nat} {t : Table} (h : keyTable key = some t) : t.There ∧ t.key = key := by
  obtain ⟨there, div, mod⟩ := tableOf_there h
  exact ⟨there, by omega⟩

/-! ## A pending request taken off -/

theorem Dev.keeps_dropPending (d : Dev) (key : Nat) : d.Keeps (d.dropPending key) [.pend] := d.keeps_pend _

theorem Dev.pend_dropPending (d : Dev) (key : Nat) : mget none (d.dropPending key).pend key = mget none d.pend (behind key) := by
  show mget none (mset none (mset none d.pend key _) (behind key) none) key = _
  rw [mget_mset_other _ _ _ _ (by show key ≠ key + 0x80; omega), mget_mset_same]

theorem Dev.keeps_notSwitched (d : Dev) (t : Table) : d.Keeps (d.notSwitched t) [.od] := by
  cases t with
  | start g => exact .when _ _ (d.keeps_set _ _)
  | arm g => exact .when _ _ (d.keeps_set _ _)
  | _ => exact .refl d _

/-- The device whose tracker, if the request of `key` was one's, waits no longer, the request taken off. -/
def Dev.takenOff (d : Dev) (key : Nat) : Dev :=
  match (mget none d.pend key).bind Pending.tracker with
  | some t => (d.dropPending key).setTracker t { (d.dropPending key).tracker t with waiting := false }
  | none => d.dropPending key

theorem Dev.keeps_setTracker (d : Dev) (n : Nat) (x : Tracker) : d.Keeps (d.setTracker n x) [.ident] := by
  intro p hp
  cases p with
  | ident => simp at hp
  | _ => rfl

theorem Dev.takenOff_spec (d : Dev) (key : Nat) :
    d.Keeps (d.takenOff key) [.pend, .ident] ∧ mget none (d.takenOff key).pend key = mget none d.pend (behind key) := by
  have off := (d.keeps_dropPending key).mono (m := [.pend, .ident]) (by simp)
  unfold Dev.takenOff
  split
  · exact ⟨off.step (Dev.keeps_setTracker _ _ _), d.pend_dropPending key⟩
  · exact ⟨off, d.pend_dropPending key⟩

section
variable {d : Dev} {key code : Nat} {t : Table} (table : keyTable key = some t)
include table

theorem Dev.endRequest_eq : d.endRequest key code = ((d.takenOff key).notSwitched t).commitOutcome t code := by
  unfold Dev.endRequest Dev.takenOff
  dsimp only
  rewrite [table]
  cases (mget none d.pend key).bind Pending.tracker <;> rfl

/-- A request with nothing behind it ended with a code. -/
theorem Dev.endRequest_spec (alone : mget none d.pend (behind key) = none) (bad : code ≠ Code.STATUS_OK) (small : code < 2 ^ 16) :
    mget none (d.endRequest key code).pend key = none ∧ (d.endRequest key code).ShowsCode t code ∧
      (d.endRequest key code).LastRaised code Kind.table 0 := by
  obtain ⟨there, rfl⟩ := mem_keyTable table
  obtain ⟨-, off⟩ := d.takenOff_spec t.key
  have none' : mget none ((d.takenOff t.key).notSwitched t).pend t.key = none := by
    rw [(Dev.keeps_notSwitched _ t) .pend (by decide), off, alone]
  rw [Dev.endRequest_eq table]
  refine ⟨?_, fun st hst => ?_, Dev.lastRaised_commitOutcome _ t code bad⟩
  · rw [(Dev.keeps_commitOutcome _ t code) .pend (by decide), none']
  · rw [Dev.nat, Dev.reg_commitOutcome there hst (.inr none'), OdType.toNat_wrap_u16 small]

end

/-! ## The commits due next, judged -/

theorem Dev.judgeAll_nil (fuel : Nat) (v : Dev) : Dev.judgeAll fuel v [] = [] := by cases fuel <;> rfl

theorem Dev.judgeAll_one {v : Dev} {key : Nat} {t : Table} {p : Pending} (table : keyTable key = some t) (single : p.group = 0) {n : Nat}
    (hn : n ≠ 0) : Dev.judgeAll n v [(key, p)] = [(key, v.tableCheck t p)] := by
  obtain ⟨n, rfl⟩ := Nat.exists_eq_succ_of_ne_zero hn
  have taken : (v.takeInGroup [(key, p)]).1 = [(key, v.tableCheck t p)] := by
    unfold Dev.takeInGroup Dev.takeIn
    simp only [table, List.foldl_cons, List.foldl_nil, List.nil_append]
    rcases v.tableCheck t p with ⟨code, budget⟩
    by_cases fine : code = Code.STATUS_OK <;> simp [fine]
  unfold Dev.judgeAll
  simp only [single, if_true, Dev.judgeAll_nil, List.append_nil, taken]

/-- Judged at the cut-off, a commit is locked, or ended with its code. -/
def Dev.settle (o : Nat × Nat × Option Nat) (d : Dev) : Dev :=
  if o.2.1 = Code.STATUS_OK then
    { d with pend := mset none d.pend o.1 ((mget none d.pend o.1).map fun p => { p with ready := true }) }
  else
    (match o.2.2 with
      | some x => d.raise Code.BUDGET_EXCEEDED Kind.device 0 0 x
      | none => d).endRequest o.1 o.2.1

/-- The cut-off of the cycle past. -/
def Dev.cutOff (d : Dev) : Dev := { d with ph := { d.ph with cutoff := true } }

section
variable {d : Dev}

theorem Dev.commitCutoff_idle (h : d.clk.tick ≠ 7 ∨ d.ph.cutoff = true) : d.commitCutoff = d := if_pos h

theorem Dev.commitCutoff_eq (tick : d.clk.tick = 7) (front : d.ph.cutoff = false) :
    d.commitCutoff = (each (Dev.judgeAll d.pend.length (d.at 28000) d.dueNext) Dev.settle (d.at 28000)).cutOff := by
  have now : ¬(d.clk.tick ≠ 7 ∨ d.ph.cutoff = true) := by simp [tick, front]
  unfold Dev.commitCutoff
  rw [if_neg now]
  rfl

end

end Sys2Proof.Machine
end

section
namespace Sys2Proof.Machine

theorem Dev.keeps_cutOff (d : Dev) : d.Keeps d.cutOff [.ph] := by
  intro p hp
  cases p with
  | ph => simp at hp
  | _ => rfl

theorem Dev.keeps_at (d : Dev) (n : Nat) : d.Keeps (d.at n) [.ph] := by
  intro p hp
  cases p with
  | ph => simp at hp
  | _ => rfl

section
variable {s : State} (live : s.Live)
include live

theorem commitCutoff_unchanged (h : s.found.clk.tick ≠ 7 ∨ s.found.ph.cutoff = true) : Does .commitCutoff s fun b a => b.Keeps a [] :=
  Leaves.unchanged <| .cell Dev.commitCutoff live.passes (Dev.commitCutoff_idle h) (.refl _ [])

section
variable (tick : s.found.clk.tick = 7) (front : s.found.ph.cutoff = false)
include tick front

theorem commitCutoff_noneDue (due : s.found.dueNext = []) : Does .commitCutoff s fun b a => a.ph.cutoff = true ∧ b.Keeps a [.ph] := by
  have keeps : s.found.Keeps (s.found.at 28000).cutOff [.ph] := (s.found.keeps_at _).andThen (Dev.keeps_cutOff _)
  have result : s.found.commitCutoff = (s.found.at 28000).cutOff := by
    rw [Dev.commitCutoff_eq tick front, due, Dev.judgeAll_nil]
    rfl
  have leaves : Leaves .commitCutoff s (s.found.at 28000).cutOff := .cell Dev.commitCutoff live.passes result keeps
  exact leaves.quietly (keeps .event (by decide)) ⟨rfl, keeps⟩

section
variable {t : Table} {p : Pending} (table : keyTable t.key = some t) (due : s.found.dueNext = [(t.key, p)])
  (pending : mget none s.found.pend t.key = some p) (single : p.group = 0)
include table due pending single

omit live in
theorem commitCutoff_result : s.found.commitCutoff = ((s.found.at 28000).settle (t.key, (s.found.at 28000).tableCheck t p)).cutOff := by
  have some' : s.found.pend.length ≠ 0 := by
    intro none'
    rw [List.length_eq_zero_iff.1 none'] at pending
    cases pending
  rw [Dev.commitCutoff_eq tick front, due, Dev.judgeAll_one table single some']
  rfl

theorem commitCutoff_locks {w : Option Nat} (passes : (s.found.at 28000).tableCheck t p = (Code.STATUS_OK, w)) :
    Does .commitCutoff s fun b a => mget none a.pend t.key = some { p with ready := true } ∧
      (∀ j, j ≠ t.key → mget none a.pend j = mget none b.pend j) ∧ b.Keeps a [.ph, .pend] := by
  let locked : Dev := { s.found.at 28000 with pend := mset none s.found.pend t.key (some { p with ready := true }) }
  have keeps : s.found.Keeps locked.cutOff [.ph, .pend] :=
    (((s.found.keeps_at _).trans (Dev.keeps_pend _ _)).trans (Dev.keeps_cutOff _)).mono (by simp)
  have result : s.found.commitCutoff = locked.cutOff := by
    rw [commitCutoff_result tick front table due pending single, passes, Dev.settle, if_pos rfl]
    have pending' : mget none (s.found.at 28000).pend t.key = some p := pending
    rw [pending']
    rfl
  have leaves : Leaves .commitCutoff s locked.cutOff := .cell Dev.commitCutoff live.passes result keeps
  exact leaves.quietly (keeps .event (by decide)) ⟨mget_mset_same _ _ _ _, fun j hj => mget_mset_other _ _ _ _ hj, keeps⟩

theorem commitCutoff_refuses {code : Nat} (fails : (s.found.at 28000).tableCheck t p = (code, none)) (bad : code ≠ Code.STATUS_OK)
    (small : code < 2 ^ 16) (alone : mget none s.found.pend (behind t.key) = none) :
    Does .commitCutoff s fun _ a => mget none a.pend t.key = none ∧ a.ShowsCode t code ∧ a.LastRaised code Kind.table 0 := by
  have alone' : mget none (s.found.at 28000).pend (behind t.key) = none := alone
  obtain ⟨off, shown, raised⟩ := Dev.endRequest_spec table alone' bad small
  have result : s.found.commitCutoff = ((s.found.at 28000).endRequest t.key code).cutOff := by
    rw [commitCutoff_result tick front table due pending single, fails, Dev.settle, if_neg bad]
  have leaves := Leaves.inCell (i := .commitCutoff) Dev.commitCutoff live.passes result
  exact leaves.does fun _ _ => ⟨off, shown, raised⟩

end
end
end

end Sys2Proof.Machine
end

section
/-! # The switch (R35, R39) -/

namespace Sys2Proof.Machine

/-! ## What the switch of an axis' banks changes -/

theorem Dev.keeps_modAxis (d : Dev) (n : Nat) (f : Axis → Axis) : d.Keeps (d.modAxis n f) [.axes] := by
  intro p hp
  cases p with
  | axes => simp at hp
  | _ => rfl

theorem Dev.bytes_set (d : Dev) (k : Nat) (v : Int) (j : Nat) : (d.set k v).bytes j = d.bytes j := rfl

theorem Dev.bytes_modLevel (d : Dev) (n l : Nat) (f : Level → Level) (j : Nat) : (d.modLevel n l f).bytes j = d.bytes j := rfl

/-- The images of a level: the active and the inactive one. -/
def Dev.images (n l : Nat) (d : Dev) : Bytes × Bytes := (d.bytes (Reg.AX9_ACTIVE_CUR n + l), d.bytes (Reg.AX9_INACTIVE_CUR n + l))

theorem Dev.images_switchBanks (d : Dev) (n mask bump : Nat) : ∀ l < 4, (d.switchBanks n mask bump).images n l =
    if mask.testBit l then (d.images n l).swap else d.images n l := by
  have apart (l j : Nat) (hl : l < 4) (hj : j < 4) : Reg.AX9_ACTIVE_CUR n + l ≠ Reg.AX9_INACTIVE_CUR n + j := by
    simp only [Reg.AX9_ACTIVE_CUR, Reg.AX9_INACTIVE_CUR, Reg.key]; omega
  unfold Dev.switchBanks
  refine iterate_view 4 _ (fun l d => Dev.images n l d) (fun l x => if mask.testBit l then x.swap else x) (fun l hl x => ?_)
    (fun l hl j hj ne x => ?_) d
  · unfold Dev.when
    split
    · simp only [Dev.images, Dev.bytes_modLevel, Dev.bytes_set, Dev.bytes_setBytes, Dev.image, if_true, Prod.swap_prod_mk,
        if_neg (apart l l hl hl).symm]
    · rfl
  · unfold Dev.when
    split
    · simp only [Dev.images, Dev.bytes_modLevel, Dev.bytes_set, Dev.bytes_setBytes, if_neg (apart l j hl hj),
        if_neg (apart j l hj hl).symm, Nat.add_left_cancel_iff, if_neg ne.symm]
    · rfl

theorem Dev.keeps_assignLanes (d : Dev) : d.Keeps d.assignLanes [.od] := by
  unfold Dev.assignLanes
  dsimp only
  generalize d.lanes.map (fun l => (l, List.replicate 8 0)) = loads
  generalize d.controlOrder = order
  induction order generalizing d loads with
  | nil => exact .refl d _
  | cons n order ih =>
    rw [List.foldl_cons]
    split
    · exact ((d.keeps_set _ _).andThen (ih _ _))
    · exact ih _ _

theorem Dev.keeps_laneFigures (d : Dev) : d.Keeps d.laneFigures [.od] :=
  ((d.keeps_set _ _).andThen (Dev.keeps_set _ _ _)).andThen (.iterate _ _ (fun _ d => d.keeps_set _ _) _)

theorem Dev.keeps_budgetFigures (d : Dev) : d.Keeps d.budgetFigures [.od] := by
  have ticks : d.Keeps (iterate 8 (fun t d =>
    let (w, c) := releaseWork (d.bytes Reg.R3804_ACTIVE) t
    (d.set (Reg.R1102_SECTIONS_T0 + t) (d.sectionLoad t)).set (Reg.R1102_TICKLOAD_T0 + t) (w / 24 + c)) d) [.od] :=
    .iterate 8 _ (fun _ d => (d.keeps_set _ _).andThen (Dev.keeps_set _ _ _)) d
  exact ((((ticks.set _ _).set _ _).set _ _).set _ _).set _ _

end Sys2Proof.Machine
end

section
/-! ## BANK_SWITCH -/

namespace Sys2Proof.Machine

/-- What the switch of a table changes, before it is shown. -/
def Dev.tableSwitched (d : Dev) (t : Table) (p : Pending) : Dev :=
  match t with
  | .axis n => (((d.applyTable (.axis n) p).when (d.countsChange n p.mask) Dev.assignLanes).laneFigures.countSections n).budgetFigures
  | .bank b => d.switchBank b
  | .release => (d.applyTable .release p).budgetFigures
  | .sched => (d.applyTable .sched p).budgetFigures
  | t => d.applyTable t p

/-- DONE_CYCLE shown. -/
def Dev.doneShown (d : Dev) (t : Table) (now : Nat) : Dev :=
  match t.done with
  | some k => d.set k now
  | none => d

/-- The switch of a table, its request taken off. -/
def Dev.switched (d : Dev) (t : Table) (p : Pending) : Dev :=
  { (d.tableSwitched t p).doneShown t d.cycle with pend := (d.dropPending t.key).pend }

/-- The code with which a request ends that has switched. -/
abbrev Pending.outcome (p : Pending) : Nat := if p.late then Code.LATE_EXECUTED else Code.STATUS_OK

section
variable {d : Dev} {t : Table} {p : Pending}

theorem Dev.switchTable_eq (plain : p.tracker = none) : d.switchTable t p = (d.switched t p).commitOutcome t p.outcome := by
  unfold Dev.switchTable
  simp only [plain]
  cases t <;> rfl

theorem Dev.keeps_doneShown (d : Dev) (t : Table) (now : Nat) : d.Keeps (d.doneShown t now) [.od] := by
  unfold Dev.doneShown
  split
  · exact d.keeps_set _ _
  · exact .refl d _

theorem Dev.reg_doneShown (there : t.There) {k now : Nat} (hk : t.done = some k) (hn : now < 2 ^ 32) : (d.doneShown t now).reg k = now := by
  have value : OdType.u32.wrap now = (now : Int) % 2 ^ 32 := rfl
  rw [Dev.doneShown, hk]
  dsimp only
  rw [Dev.reg_set_same, (there.done hk).1, value]
  omega

theorem Pending.outcome_cases (p : Pending) : p.outcome = Code.LATE_EXECUTED ∨ p.outcome = Code.STATUS_OK := by
  unfold Pending.outcome
  split
  · exact .inl rfl
  · exact .inr rfl

/-- An outcome other than BANK_INVALID leaves the entries that neither the log nor the table's status has. -/
theorem Dev.reg_commitOutcome_other {code k : Nat} (form : code ≠ Code.BANK_INVALID) (log : k ∉ logRegs) (last : k ≠ Reg.R3800_LAST_CODE)
    (status : t.status ≠ some k) : (d.commitOutcome t code).reg k = d.reg k := by
  have shows (d : Dev) (c : Nat) : (d.showStatus t c).reg k = d.reg k := by
    unfold Dev.showStatus
    split
    case h_1 j h => exact Dev.reg_set_other _ _ fun e => status (e ▸ h)
    case h_2 => rfl
  have shown : (d.outcomeShown t code).reg k = d.reg k := by
    cases t with
    | axis n => rw [Dev.outcomeShown, Dev.when, if_neg (by simp [form])]; exact shows d code
    | _ => exact shows d code
  rw [Dev.commitOutcome_eq, Dev.reg_when _ _ (shows _ _), Dev.outcomeTold, Dev.reg_when, Dev.outcomeLogged, Dev.reg_when, shown]
  · exact Dev.reg_raise _ _ _ _ _ _ log
  · exact (Dev.reg_congr (Dev.keeps_raisePlic _ _ .od (by decide)) _).trans (Dev.reg_set_other _ _ last)

/-- What a switch shows, and the images it leaves as `tableSwitched` has them. -/
theorem Dev.switchTable_spec (there : t.There) (plain : p.tracker = none) (alone : mget none d.pend (behind t.key) = none) :
    mget none (d.switchTable t p).pend t.key = none ∧ (d.switchTable t p).ShowsCode t p.outcome ∧
      (∀ k, t.done = some k → (d.switchTable t p).reg k = d.cycle) ∧ ∀ k, (d.switchTable t p).bytes k = (d.tableSwitched t p).bytes k := by
  have keeps := (d.switched t p).keeps_commitOutcome t p.outcome
  have pend : mget none (d.switched t p).pend t.key = none := (d.pend_dropPending t.key).trans alone
  have code : p.outcome < 2 ^ 16 ∧ p.outcome ≠ Code.BANK_INVALID := by rcases p.outcome_cases with h | h <;> rw [h] <;> decide
  rw [Dev.switchTable_eq plain]
  refine ⟨?_, fun st hst => ?_, fun k hk => ?_, fun k => ?_⟩
  · rw [keeps .pend (by decide), pend]
  · rw [Dev.nat, Dev.reg_commitOutcome there hst (.inr pend), OdType.toNat_wrap_u16 code.1]
  · obtain ⟨-, log, last, status⟩ := there.done hk
    rw [Dev.reg_commitOutcome_other code.2 log last status]
    exact Dev.reg_doneShown there hk (Nat.mod_lt _ (by decide))
  · rw [keeps.bytes k]
    exact (Dev.keeps_doneShown _ t _).bytes k

theorem Dev.images_tableSwitched_axis (n : Nat) : ∀ l < 4, (d.tableSwitched (.axis n) p).images n l =
    if p.mask.testBit l then (d.images n l).swap else d.images n l := by
  intro l hl
  rw [← d.images_switchBanks n p.mask p.bump l hl]
  have keeps : (d.switchBanks n p.mask p.bump).Keeps (d.tableSwitched (.axis n) p) [.od] :=
    ((((Dev.Keeps.refl _ _).cond _ _ (Dev.keeps_assignLanes _)).step (Dev.keeps_laneFigures _)).set _ _).step (Dev.keeps_budgetFigures _)
  rw [Dev.images, Dev.images, keeps.bytes, keeps.bytes]

theorem Dev.bytes_tableSwitched_release : (d.tableSwitched .release p).bytes Reg.R3804_ACTIVE = d.bytes Reg.R3804_INACTIVE ∧
    (d.tableSwitched .release p).bytes Reg.R3804_INACTIVE = d.bytes Reg.R3804_ACTIVE := by
  have keeps : (d.swapImages Reg.R3804_INACTIVE Reg.R3804_ACTIVE).Keeps (d.tableSwitched .release p) [.od] := Dev.keeps_budgetFigures _
  rw [keeps.bytes, keeps.bytes, Dev.bytes_swapImages, Dev.bytes_swapImages]
  exact ⟨if_pos rfl, (if_neg (by decide)).trans (if_pos rfl)⟩

/-! ## The row of the table that is due -/

section
variable {index sub : Nat} (table : tableOf index sub = some t)
include table

theorem Dev.bankSwitch_noneDue (due : d.dueAt t.key = none) : d.bankSwitch index sub = d := by
  simp only [Dev.bankSwitch, table, due]

theorem Dev.bankSwitch_outOfSync (due : d.dueAt t.key = some p) (out : d.inSync = false) : d.bankSwitch index sub = d.holdCommit t.key := by
  simp only [Dev.bankSwitch, table, due]
  cases t with
  | start g =>
    have due' : d.dueAt (Reg.R3430_START_CYCLE g) = some p := due
    simp only [Dev.injectionStart, Dev.dueNow, due', out]
    rfl
  | arm g =>
    have due' : d.dueAt (Reg.R3410_ARM_CYCLE g) = some p := due
    simp only [Dev.captureArm, Dev.dueNow, due', out]
    rfl
  | _ => simp [out]

theorem Dev.bankSwitch_inSync (due : d.dueAt t.key = some p) (sync : d.inSync = true) (start : ∀ g, t ≠ .start g) (arm : ∀ g, t ≠ .arm g) :
    d.bankSwitch index sub = d.switchTable t p := by
  simp only [Dev.bankSwitch, table, due]
  cases t with
  | start g => exact absurd rfl (start g)
  | arm g => exact absurd rfl (arm g)
  | _ => simp [sync]

end

theorem Dev.dueAt_pending {key : Nat} (due : d.dueAt key = some p) : mget none d.pend key = some p := by
  unfold Dev.dueAt at due
  split at due
  · split_ifs at due
    obtain rfl := Option.some.inj due
    assumption
  · cases due

end

section
variable {s : State} (live : s.Live) {index sub : Nat} {t : Table} (table : tableOf index sub = some t)
include live table

theorem bankSwitch_unchanged (due : s.found.dueAt t.key = none) : Does (.bankSwitch index sub) s fun b a => b.Keeps a [] :=
  Leaves.unchanged <| .cell (·.bankSwitch index sub) live.passes (Dev.bankSwitch_noneDue table due) (.refl _ [])

section
variable {p : Pending} (due : s.found.dueAt t.key = some p)
include due

theorem bankSwitch_holds (out : s.found.inSync = false) : Does (.bankSwitch index sub) s fun b a =>
    mget none a.pend t.key = some { p with held := true, ready := false } ∧ b.Keeps a [.pend] := by
  have keeps : s.found.Keeps (s.found.holdCommit t.key) [.pend] := s.found.keeps_pend _
  have leaves : Leaves (.bankSwitch index sub) s (s.found.holdCommit t.key) :=
    .cell (·.bankSwitch index sub) live.passes (Dev.bankSwitch_outOfSync table due out) keeps
  refine leaves.quietly (keeps .event (by decide)) ⟨?_, keeps⟩
  rw [Dev.holdCommit, Dev.dueAt_pending due]
  exact mget_mset_same _ _ _ _

theorem bankSwitch_switches (sync : s.found.inSync = true) (start : ∀ g, t ≠ .start g) (arm : ∀ g, t ≠ .arm g) (plain : p.tracker = none)
    (alone : mget none s.found.pend (behind t.key) = none) : Does (.bankSwitch index sub) s fun b a =>
      mget none a.pend t.key = none ∧ a.ShowsCode t p.outcome ∧ (∀ k, t.done = some k → a.reg k = b.cycle) ∧
      (t = .release → a.bytes Reg.R3804_ACTIVE = b.bytes Reg.R3804_INACTIVE ∧
        a.bytes Reg.R3804_INACTIVE = b.bytes Reg.R3804_ACTIVE) ∧
      ∀ n < 128, t = .axis n → ∀ l < 4, a.images n l = if p.mask.testBit l then (b.images n l).swap else b.images n l := by
  obtain ⟨off, shown, done, bytes⟩ := Dev.switchTable_spec (d := s.found) (tableOf_there table).1 plain alone
  have leaves := Leaves.inCell (i := .bankSwitch index sub) (·.bankSwitch index sub) live.passes
    (Dev.bankSwitch_inSync table due sync start arm)
  refine leaves.does fun pend vecs => ?_
  have keeps : (s.found.switchTable t p).Keeps (((s.found.switchTable t p).besides s.dev).told pend vecs) (beyondCell ++ [.serve]) :=
    (Dev.keeps_besides _ _).trans (Dev.keeps_told _ _ _)
  refine ⟨off, shown, done, fun h => ?_, fun n _ h l hl => ?_⟩
  · subst h
    rw [keeps.bytes, keeps.bytes, bytes, bytes]
    exact Dev.bytes_tableSwitched_release
  · subst h
    rw [← Dev.images_tableSwitched_axis n l hl, Dev.images, Dev.images, keeps.bytes, keeps.bytes, bytes, bytes]

end
end

end Sys2Proof.Machine
end

section
/-! ## HELD_COMMIT_JUDGED (R39) -/

namespace Sys2Proof.Machine

section
variable {d : Dev} {key : Nat} {p : Pending}

theorem Dev.heldJudged_idle (h : d.clk.tick ≠ 0 ∨ d.inSync = false) : d.heldJudged = d := if_pos h

theorem Dev.heldJudged_one (tick : d.clk.tick = 0) (sync : d.inSync = true) (one : d.pend = [(key, some p)]) (held : p.held = true) :
    d.heldJudged = if p.policy = 1 then
      { d with pend := mset none d.pend key (some { p with held := false, late := true, cycle := d.clk.cycle64 + 1 }) }
    else d.endRequest key Code.LATE := by
  unfold Dev.heldJudged
  rw [if_neg (by simp [tick, sync]), one]
  simp only [List.filterMap_cons, List.filterMap_nil, held, if_true, each, List.foldl_cons, List.foldl_nil]
  rw [one]

end

section
variable {s : State} (live : s.Live)
include live

theorem heldCommitJudged_unchanged (h : s.found.clk.tick ≠ 0 ∨ s.found.inSync = false) : Does .heldCommitJudged s fun b a => b.Keeps a [] :=
  Leaves.unchanged <| .cell Dev.heldJudged live.passes (Dev.heldJudged_idle h) (.refl _ [])

section
variable {t : Table} {p : Pending} (tick : s.found.clk.tick = 0) (sync : s.found.inSync = true) (one : s.found.pend = [(t.key, some p)])
  (held : p.held = true)
include tick sync one held

theorem heldCommitJudged_again (policy : p.policy = 1) : Does .heldCommitJudged s fun b a =>
    mget none a.pend t.key = some { p with held := false, late := true, cycle := b.clk.cycle64 + 1 } ∧ b.Keeps a [.pend] := by
  have keeps := s.found.keeps_pend
    (mset none s.found.pend t.key (some { p with held := false, late := true, cycle := s.found.clk.cycle64 + 1 }))
  have leaves : Leaves .heldCommitJudged s _ :=
    .cell Dev.heldJudged live.passes ((Dev.heldJudged_one tick sync one held).trans (if_pos policy)) keeps
  exact leaves.quietly rfl ⟨mget_mset_same _ _ _ _, keeps⟩

theorem heldCommitJudged_late (policy : p.policy ≠ 1) (table : keyTable t.key = some t) : Does .heldCommitJudged s fun _ a =>
    mget none a.pend t.key = none ∧ a.ShowsCode t Code.LATE ∧ a.LastRaised Code.LATE Kind.table 0 := by
  have alone : mget none s.found.pend (behind t.key) = none := by
    have ne : t.key ≠ behind t.key := by show t.key ≠ t.key + 0x80; omega
    rw [one]
    exact if_neg ne
  obtain ⟨off, shown, raised⟩ := Dev.endRequest_spec table alone (code := Code.LATE) (by decide) (by decide)
  have leaves := Leaves.inCell (i := .heldCommitJudged) Dev.heldJudged live.passes
    ((Dev.heldJudged_one tick sync one held).trans (if_neg policy))
  exact leaves.does fun _ _ => ⟨off, shown, raised⟩

end
end

/-- Settles O32: what the cut-off makes of the one due commit, what a switch does in and out of synchronisation, and what held
commits become. -/
theorem commitsSwitch : Obligations.CommitsSwitch := by
  intro s live d shows
  refine ⟨fun tick front due => commitCutoff_noneDue live tick front due, fun h => commitCutoff_unchanged live h,
    fun t p tick front table due pending single => ⟨fun w passes => commitCutoff_locks live tick front table due pending single passes,
      fun code fails bad small alone => commitCutoff_refuses live tick front table due pending single fails bad small alone⟩,
    fun index sub t p table due => ⟨fun sync start arm plain alone => ?_, fun out => bankSwitch_holds live table due out⟩,
    fun index sub t table due => bankSwitch_unchanged live table due,
    fun t p tick sync one held => ⟨fun policy => heldCommitJudged_again live tick sync one held policy,
      fun policy table => heldCommitJudged_late live tick sync one held policy table⟩, fun h => heldCommitJudged_unchanged live h⟩
  obtain ⟨a, run, off, shown, done, release, axis⟩ := bankSwitch_switches live table due sync start arm plain alone
  refine ⟨a, run, off, shown, done, release, fun n hn h l hl => ?_⟩
  have images := axis n hn h l hl
  simp only [Dev.images, Prod.swap_prod_mk] at images
  dsimp only
  split_ifs at images ⊢
  · exact ⟨congrArg Prod.fst images, congrArg Prod.snd images⟩
  · exact ⟨congrArg Prod.fst images, congrArg Prod.snd images⟩

end Sys2Proof.Machine
end

section
/-! # Banks staged in place (R149, R189, R394) -/

namespace Sys2Proof.Machine

theorem mget_of_unlisted {α : Type} (d : α) {m : Map α} {k : Nat} (h : k ∉ m.map Prod.fst) : mget d m k = d := by
  induction m with
  | nil => rfl
  | cons x m ih =>
    obtain ⟨j, v⟩ := x
    obtain ⟨hj, hm⟩ : k ≠ j ∧ k ∉ m.map Prod.fst := by simpa [not_or] using h
    rw [mget, if_neg hj.symm, ih hm]

/-! ## Where the entries of a bank stand -/

/-- The indices of the scheduled actions, whose entries alone have a sub-index above 127. -/
abbrev actionIndex (ix : Nat) : Prop := 0x1160 ≤ ix ∧ ix < 0x1180

theorem sub_of_rows : ∀ b ∈ blocks, ∀ e ∈ b.rows, e.sub < 128 := by decide +kernel

theorem sub_of_rowsAt {ix : Nat} (h : ¬actionIndex ix) {e : Entry} (he : e ∈ rowsAt ix) : e.sub < 128 := by
  rw [rowsAt, if_neg h] at he
  cases found : blocks.findSome? fun b => (b.inst ix).map fun _ => b.rows with
  | none => simp [found] at he
  | some rows =>
    obtain ⟨b, hb, here⟩ := List.exists_of_findSome?_eq_some found
    obtain ⟨_, -, rfl⟩ := Option.map_eq_some_iff.1 here
    exact sub_of_rows b hb e (by simpa [found] using he)

theorem entryAt_high {ix sub : Nat} (h : ¬actionIndex ix) (hs : 128 ≤ sub) : entryAt ix sub = none := by
  rw [entryAt, if_neg h, List.findSome?_eq_none_iff]
  intro b hb
  have absent : (b.rows.find? fun e => e.sub = sub) = none := by
    rw [List.find?_eq_none]
    intro e he
    have := sub_of_rows b hb e he
    simp only [decide_eq_true_eq]
    omega
  cases b.inst ix with
  | none => rfl
  | some i => rw [Option.bind_some, absent]; rfl

/-- The key of an active value has the type and default of its staged one. -/
theorem entryOf_act {k : Nat} (h : ¬actionIndex (k / 256)) (hk : k % 256 < 128) : entryOf (act k) = entryOf k := by
  have div : act k / 256 = k / 256 := by show (k + 0x80) / 256 = k / 256; omega
  have mod : act k % 256 = k % 256 + 128 := by show (k + 0x80) % 256 = k % 256 + 128; omega
  have high : entryAt (k / 256) (k % 256 + 128) = none := entryAt_high h (by omega)
  rw [entryOf, entryOf, div, mod, high, if_pos (by omega), Nat.add_sub_cancel]
  cases entryAt (k / 256) (k % 256) with
  | some e => rfl
  | none => exact (if_neg (by omega)).symm

theorem bankOf_notAction {ix sub : Nat} (h : bankOf ix sub ≠ 0) : ¬actionIndex ix := by
  intro action
  refine h ?_
  unfold bankOf
  rw [if_neg (by omega), if_neg (by omega), if_neg (by omega), if_neg (by omega), if_neg (by omega), if_neg (by omega),
    if_neg (by omega), if_neg (by omega)]

/-- A key of an entry staged in bank `b`. -/
structure Staged (b k : Nat) : Prop where
  bank : bankOf (k / 256) (k % 256) = b
  low : k % 256 < 128
  plain : ¬actionIndex (k / 256)

theorem staged_of_bankEntries {b : Nat} (hb : b ∈ [1, 2, 3]) {e : Entry} {k : Nat} (h : (e, k) ∈ bankEntries b) : Staged b k := by
  simp only [bankEntries, List.mem_flatMap, List.mem_map, List.mem_filter, Bool.and_eq_true, beq_iff_eq, Prod.mk.injEq] at h
  obtain ⟨ix, -, e', ⟨he, -, bank⟩, rfl, rfl⟩ := h
  have plain : ¬actionIndex ix := bankOf_notAction (sub := e'.sub) (by rintro h; rw [bank] at h; subst h; simp at hb)
  have low := sub_of_rowsAt plain he
  have div : Reg.key ix e'.sub / 256 = ix := by simp only [Reg.key]; omega
  have mod : Reg.key ix e'.sub % 256 = e'.sub := by simp only [Reg.key]; omega
  exact ⟨by rw [div, mod, bank], by rw [mod]; exact low, by rw [div]; exact plain⟩

namespace Staged

variable {b k : Nat} (h : Staged b k)
include h

theorem type : odType (act k) = odType k := by rw [odType, odType, entryOf_act h.plain h.low]

theorem default : odDefault (act k) = odDefault k := by rw [odDefault, odDefault, entryOf_act h.plain h.low]

/-- A staged entry that a bank's list of changed entries omits holds its default, staged and active. -/
theorem unlisted {α : Type} {m : Map α} (out : k ∉ listedKeys m b) : k ∉ m.map Prod.fst ∧ act k ∉ m.map Prod.fst := by
  have low := h.low
  simp only [listedKeys, List.mem_eraseDups, List.mem_filterMap, not_exists, not_and] at out
  refine ⟨fun mem => out k mem ?_, fun mem => out (act k) mem ?_⟩
  · have stands : (if 128 ≤ k % 256 then k - 128 else k) = k := if_neg (by omega)
    rw [stands, if_pos h.bank]
  · have stands : (if 128 ≤ act k % 256 then act k - 128 else act k) = k := by
      show (if 128 ≤ (k + 0x80) % 256 then k + 0x80 - 128 else k + 0x80) = k
      rw [if_pos (by omega), Nat.add_sub_cancel]
    rw [stands, if_pos h.bank]

end Staged

theorem low_of_listedKeys {α : Type} {m : Map α} {b k : Nat} (h : k ∈ listedKeys m b) : k % 256 < 128 ∧ bankOf (k / 256) (k % 256) = b := by
  simp only [listedKeys, List.mem_eraseDups, List.mem_filterMap] at h
  obtain ⟨j, -, hj⟩ := h
  split at hj <;> rename_i hs <;> split at hj <;> rename_i bank
  · obtain rfl := Option.some.inj hj
    exact ⟨by omega, bank⟩
  · cases hj
  · obtain rfl := Option.some.inj hj
    exact ⟨by omega, bank⟩
  · cases hj

/-! ## The activation -/

/-- Staged values copied to their active places, in turn. -/
theorem Dev.reg_activateEach (l : List Nat) (low : ∀ k ∈ l, k % 256 < 128) (d : Dev) :
    (∀ j, j % 256 < 128 → (each l (fun k d => d.set (act k) (d.reg k)) d).reg j = d.reg j) ∧
    ∀ j, j % 256 < 128 → (each l (fun k d => d.set (act k) (d.reg k)) d).reg (act j) =
      if j ∈ l then (odType (act j)).wrap (d.reg j) else d.reg (act j) := by
  induction l generalizing d with
  | nil => exact ⟨fun _ _ => rfl, fun _ _ => rfl⟩
  | cons k l ih =>
    have lowK : k % 256 < 128 := low k (by simp)
    obtain ⟨staged, active⟩ := ih (fun j hj => low j (by simp [hj])) (d.set (act k) (d.reg k))
    have apart (j : Nat) (hj : j % 256 < 128) : j ≠ act k := by show j ≠ k + 0x80; omega
    refine ⟨fun j hj => (staged j hj).trans (Dev.reg_set_other _ _ (apart j hj)), fun j hj => (active j hj).trans ?_⟩
    rw [Dev.reg_set_other _ _ (apart j hj)]
    by_cases mem : j ∈ l
    · rw [if_pos mem, if_pos (by simp [mem])]
    · by_cases e : j = k
      · subst e
        rw [if_neg mem, if_pos (by simp), Dev.reg_set_same]
      · rw [if_neg mem, if_neg (by simp [mem, e]), Dev.reg_set_other _ _ (by show j + 0x80 ≠ k + 0x80; omega)]

theorem Dev.keeps_activate (d : Dev) (b : Nat) : d.Keeps (d.activate b) [.od, .dom, .gen] :=
  ((Dev.Keeps.each _ _ (fun _ d => d.keeps_set _ _) d).trans (.each _ _ (fun _ d => d.keeps_setBytes _ _) _)).mono (by simp)

theorem Dev.reg_activate (d : Dev) (b k : Nat) :
    (d.activate b).reg k = (each (listedKeys d.od b) (fun k d => d.set (act k) (d.reg k)) d).reg k :=
  Dev.reg_congr ((Dev.Keeps.each _ _ (fun _ d => d.keeps_setBytes _ _) _) .od (by decide)) k

section
variable (d : Dev) {b k : Nat}

theorem Dev.reg_activate_staged (low : k % 256 < 128) : (d.activate b).reg k = d.reg k := by
  rw [Dev.reg_activate, (Dev.reg_activateEach _ (fun _ h => (low_of_listedKeys h).1) d).1 k low]

theorem Dev.reg_activate_own (staged : Staged b k) (fits : (odType k).wrap (d.reg k) = d.reg k) : (d.activate b).reg (act k) = d.reg k := by
  rw [Dev.reg_activate, (Dev.reg_activateEach _ (fun _ h => (low_of_listedKeys h).1) d).2 k staged.low, staged.type, fits]
  by_cases mem : k ∈ listedKeys d.od b
  · rw [if_pos mem]
  · obtain ⟨here, there⟩ := staged.unlisted mem
    rw [if_neg mem, Dev.reg, Dev.reg, mget_of_unlisted _ here, mget_of_unlisted _ there, staged.default]

theorem Dev.reg_activate_other {other : Nat} (staged : Staged other k) (ne : other ≠ b) : (d.activate b).reg (act k) = d.reg (act k) := by
  rw [Dev.reg_activate, (Dev.reg_activateEach _ (fun _ h => (low_of_listedKeys h).1) d).2 k staged.low, if_neg]
  intro mem
  exact ne (staged.bank.symm.trans (low_of_listedKeys mem).2)

end

end Sys2Proof.Machine
end

section
/-! # Cycle-point interrupts (R40, R42) and COPY_ACTIVE (R88, R213) -/

namespace Sys2Proof.Machine

/-! ## CPI_FIRE -/

theorem Dev.cpiDue_iff (d : Dev) (x : Cpi) : d.cpiDue x = true ↔
    (x.mode = 2 ∨ (x.mode = 1 ∧ x.offset / 31250 = d.clk.tick)) ∧ x.fired ≠ some d.tickAbs ∧ d.ph.off ≤ x.offset % 31250 := by
  simp only [Dev.cpiDue, Bool.and_eq_true, Bool.or_eq_true, beq_iff_eq, bne_iff_ne, ne_eq, decide_eq_true_eq, and_assoc]

theorem Dev.keeps_setCpi (d : Dev) (e : Nat) (x : Cpi) : d.Keeps (d.setCpi e x) [.cpi] := by
  intro p hp
  cases p with
  | cpi => simp at hp
  | _ => rfl

theorem Dev.cpiOf_setCpi (d : Dev) (e : Nat) (x : Cpi) : (d.setCpi e x).cpiOf e = x := mget_mset_same _ _ _ _

theorem odType_missed {e : Nat} (he : e < 16) : odType (Reg.R1110_MISSED e) = .u32 ∧ Reg.R1110_MISSED e ∉ logRegs := by
  have all : ∀ e < 16, odType (Reg.R1110_MISSED e) = .u32 ∧ Reg.R1110_MISSED e ∉ logRegs := by decide +kernel
  exact all e he

/-- A count of 32 bits goes up to its largest value. -/
theorem Dev.nat_count {d : Dev} {k : Nat} (type : odType k = .u32) (n : Nat) : (d.count k n).nat k = min (d.nat k + n) 0xFFFFFFFF := by
  have value : OdType.u32.wrap (min (d.nat k + n) 0xFFFFFFFF : Nat) = ((min (d.nat k + n) 0xFFFFFFFF : Nat) : Int) % 2 ^ 32 := rfl
  rw [Dev.nat, Dev.count, Dev.reg_set_same, type]
  push_cast at value ⊢
  rw [value]
  omega

section
variable {d : Dev} {e : Nat}

theorem Dev.cpiFire_idle (h : d.cpiDue (d.cpiOf e) = false ∨ d.acting = false) : d.cpiFire e = d := by
  refine if_pos ?_
  rcases h with h | h <;> simp [h]

/-- The entry's firing noted at its instant. -/
def Dev.cpiNoted (d : Dev) (e : Nat) : Dev := (d.setCpi e { d.cpiOf e with fired := some d.tickAbs }).at ((d.cpiOf e).offset % 31250)

/-- A firing that finds the one before it unclaimed. -/
def Dev.cpiMissed (d : Dev) (e : Nat) : Dev :=
  ((d.cpiNoted e).count (Reg.R1110_MISSED e)).setCpi e { d.cpiOf e with fired := some d.tickAbs, told := true }

section
variable (he : e < 16) (due : d.cpiDue (d.cpiOf e) = true) (valid : d.reg Reg.R1140_NT_VALID ≠ 0) (acting : d.acting = true)
include he due valid acting

theorem Dev.cpiFire_eq : d.cpiFire e = if d.plic.contains (32 + e) then
      (d.cpiMissed e).when (!(d.cpiOf e).told) fun d => d.raise Code.CPI_MISSED Kind.other 0 0 e
    else (d.cpiNoted e).raisePlic (32 + e) := by
  unfold Dev.cpiFire
  rw [if_neg (by simp [due, acting, Dev.flag, valid]; omega)]
  rfl

end

theorem Dev.keeps_cpiNoted (d : Dev) (e : Nat) : d.Keeps (d.cpiNoted e) [.ph, .cpi] :=
  ((d.keeps_setCpi _ _).trans (Dev.keeps_at _ _)).mono (by simp)

theorem Dev.keeps_cpiMissed (d : Dev) (e : Nat) : d.Keeps (d.cpiMissed e) [.ph, .cpi, .od] :=
  (((d.keeps_cpiNoted e).trans (Dev.keeps_set _ _ _)).trans (Dev.keeps_setCpi _ _ _)).mono (by simp)

theorem Dev.nat_cpiMissed (d : Dev) {e : Nat} (he : e < 16) :
    (d.cpiMissed e).nat (Reg.R1110_MISSED e) = min (d.nat (Reg.R1110_MISSED e) + 1) 0xFFFFFFFF :=
  Dev.nat_count (d := d.cpiNoted e) (odType_missed he).1 1

end

section
variable {s : State} {e : Nat} (live : s.Live)
include live

theorem cpiFire_unchanged (h : s.found.cpiDue (s.found.cpiOf e) = false ∨ s.found.acting = false) : Does (.cpiFire e) s fun b a => b.Keeps a [] :=
  Leaves.unchanged <| .dry (·.cpiFire e) live.passes (Dev.cpiFire_idle h) (.refl _ [])

section
variable (he : e < 16) (due : s.found.cpiDue (s.found.cpiOf e) = true) (valid : s.found.reg Reg.R1140_NT_VALID ≠ 0)
  (acting : s.found.acting = true)
include he due valid acting

theorem cpiFire_fires (free : 32 + e ∉ s.found.plic) : Does (.cpiFire e) s fun b a =>
    a.plic = b.plic ++ [32 + e] ∧ a.cpiDue (a.cpiOf e) = false ∧ b.Keeps a [.ph, .plic, .cpi] := by
  let after : Dev := { s.found.cpiNoted e with plic := s.found.plic ++ [32 + e] }
  have keeps : s.found.Keeps after [.ph, .plic, .cpi] := by
    have raised : (s.found.cpiNoted e).Keeps after [.plic] := by
      intro p hp
      cases p with
      | plic => simp at hp
      | _ => rfl
    exact ((s.found.keeps_cpiNoted e).trans raised).mono (by simp)
  have result : s.found.cpiFire e = after := by
    rw [Dev.cpiFire_eq he due valid acting, if_neg (by simpa using free), Dev.raisePlic]
    have free' : ¬(s.found.cpiNoted e).plic.contains (32 + e) = true := by
      rw [s.found.keeps_cpiNoted e .plic (by decide)]
      simpa using free
    exact if_neg free'
  have leaves : Leaves (.cpiFire e) s after := .dry (·.cpiFire e) live.passes result keeps
  refine leaves.quietly rfl ⟨rfl, ?_, keeps⟩
  have fired : after.cpiOf e = { s.found.cpiOf e with fired := some s.found.tickAbs } := Dev.cpiOf_setCpi _ _ _
  have same : after.tickAbs = s.found.tickAbs := rfl
  rw [fired, Dev.cpiDue, same]
  simp

section
variable (held : 32 + e ∈ s.found.plic)
include held

theorem cpiFire_misses (told : (s.found.cpiOf e).told = false) : Does (.cpiFire e) s fun b a =>
    a.plic = b.plic ∧ (a.cpiOf e).told = true ∧ a.LastRaised Code.CPI_MISSED Kind.other 0 ∧
    a.nat (Reg.R1110_MISSED e) = min (b.nat (Reg.R1110_MISSED e) + 1) 0xFFFFFFFF := by
  have raised := (s.found.cpiMissed e).keeps_raise Code.CPI_MISSED Kind.other 0 0 e
  have keeps := (s.found.keeps_cpiMissed e).trans raised
  have result : s.found.cpiFire e = (s.found.cpiMissed e).raise Code.CPI_MISSED Kind.other 0 0 e := by
    rw [Dev.cpiFire_eq he due valid acting, if_pos (by simpa using held), told]
    rfl
  have leaves : Leaves (.cpiFire e) s ((s.found.cpiMissed e).raise Code.CPI_MISSED Kind.other 0 0 e) := .dry (·.cpiFire e) live.passes result keeps
  refine leaves.does fun _ _ => ⟨keeps .plic (by decide), ?_, Dev.lastRaised_raise _ _ _ _ _ _, ?_⟩
  · have cpi : ((s.found.cpiMissed e).raise Code.CPI_MISSED Kind.other 0 0 e).cpi = (s.found.cpiMissed e).cpi := raised .cpi (by decide)
    show (mget {} ((s.found.cpiMissed e).raise Code.CPI_MISSED Kind.other 0 0 e).cpi e).told = true
    rw [cpi]
    exact congrArg Cpi.told (Dev.cpiOf_setCpi _ _ _)
  · rw [Dev.nat, Dev.reg_told, Dev.reg_raise _ _ _ _ _ _ (odType_missed he).2]
    exact s.found.nat_cpiMissed he

theorem cpiFire_missesAgain (told : (s.found.cpiOf e).told = true) : Does (.cpiFire e) s fun b a =>
    a.log = b.log ∧ a.nat (Reg.R1110_MISSED e) = min (b.nat (Reg.R1110_MISSED e) + 1) 0xFFFFFFFF := by
  have keeps := s.found.keeps_cpiMissed e
  have result : s.found.cpiFire e = s.found.cpiMissed e := by
    rw [Dev.cpiFire_eq he due valid acting, if_pos (by simpa using held), told]
    rfl
  have leaves : Leaves (.cpiFire e) s (s.found.cpiMissed e) := .dry (·.cpiFire e) live.passes result keeps
  exact leaves.quietly rfl ⟨keeps .log (by decide), s.found.nat_cpiMissed he⟩

end
end
end

/-! ## COPY_ACTIVE -/

section
variable {d : Dev} {n mask : Nat}

theorem Dev.anyOwned_iff : ((List.range 4).any fun l => mask.testBit l && d.trackOwns n l) = true ↔
    ∃ l < 4, mask.testBit l = true ∧ d.trackOwns n l = true := by
  simp only [List.any_eq_true, List.mem_range, Bool.and_eq_true]

theorem Dev.copyWrite_owned (h : ∃ l < 4, mask.testBit l = true ∧ d.trackOwns n l = true) :
    d.copyWrite n mask = (d.raise Code.TRACK_OWNS_BANK Kind.axis n).finish Code.TRACK_OWNS_BANK := if_pos (Dev.anyOwned_iff.2 h)

/-- The masked levels' active images copied. -/
def Dev.imagesCopied (d : Dev) (n mask : Nat) : Dev :=
  iterate 4 (fun l d => d.when (mask.testBit l) fun d => d.setBytes (Reg.AX9_INACTIVE_CUR n + l) (d.image n l)) d

theorem Dev.keeps_imagesCopied (d : Dev) (n mask : Nat) : d.Keeps (d.imagesCopied n mask) [.dom, .gen] :=
  .iterate _ _ (fun _ d => .when _ _ (d.keeps_setBytes _ _)) d

theorem Dev.images_imagesCopied (d : Dev) (n mask : Nat) : ∀ l < 4, (d.imagesCopied n mask).images n l =
    if mask.testBit l then ((d.images n l).1, (d.images n l).1) else d.images n l := by
  have apart (l j : Nat) (hl : l < 4) (hj : j < 4) : Reg.AX9_ACTIVE_CUR n + l ≠ Reg.AX9_INACTIVE_CUR n + j := by
    simp only [Reg.AX9_ACTIVE_CUR, Reg.AX9_INACTIVE_CUR, Reg.key]; omega
  refine iterate_view 4 _ (fun l d => Dev.images n l d) (fun l x => if mask.testBit l then (x.1, x.1) else x) (fun l hl x => ?_)
    (fun l hl j hj ne x => ?_) d
  · unfold Dev.when
    split
    · simp only [Dev.images, Dev.bytes_setBytes, Dev.image, if_true, if_neg (apart l l hl hl)]
    · rfl
  · unfold Dev.when
    split
    · simp only [Dev.images, Dev.bytes_setBytes, if_neg (apart l j hl hj), Nat.add_left_cancel_iff, if_neg ne.symm]
    · rfl

section
variable (free : ∀ l < 4, mask.testBit l = true → d.trackOwns n l = false)
include free

theorem Dev.copyWrite_free : d.copyWrite n mask = d.copyActive n mask := by
  refine if_neg (mt Dev.anyOwned_iff.1 ?_)
  rintro ⟨l, hl, bit, owned⟩
  rw [free l hl bit] at owned
  cases owned

theorem Dev.copyWrite_locked (locked : d.locked (Reg.AX9_COMMIT_CYCLE n) = true) :
    d.copyWrite n mask = d.bankLocked (Reg.AX9_COMMIT_CYCLE n) := (Dev.copyWrite_free free).trans (if_pos locked)

theorem Dev.copyWrite_open (open_ : d.locked (Reg.AX9_COMMIT_CYCLE n) = false) :
    d.copyWrite n mask = (d.imagesCopied n mask).finish Code.STATUS_OK :=
  (Dev.copyWrite_free free).trans (if_neg (by simp [open_]))

end
end

section
variable {s : State} {n mask : Nat} (up : s.Up) (hn : n < 128)
include up hn

theorem copyActive_owned (h : ∃ l < 4, mask.testBit l = true ∧ s.found.trackOwns n l = true) : Does (.copyActive n mask) s fun b a =>
    a.done = Code.TRACK_OWNS_BANK ∧ a.LastRaised Code.TRACK_OWNS_BANK Kind.axis n ∧ a.dom = b.dom := by
  have leaves : Leaves (.copyActive n mask) s _ :=
    .cell (·.copyWrite n mask) (up.passesIf hn) (Dev.copyWrite_owned h) (s.found.keeps_refused _ _ _ _ _ _)
  obtain ⟨a, run, done, raised, keeps, -⟩ := leaves.refused
  exact ⟨a, run, done, raised, keeps .dom (by decide)⟩

section
variable (free : ∀ l < 4, mask.testBit l = true → s.found.trackOwns n l = false)
include free

theorem copyActive_locked (locked : s.found.locked (Reg.AX9_COMMIT_CYCLE n) = true) : Does (.copyActive n mask) s fun b a =>
    a.done = Code.BANK_LOCKED ∧ a.dom = b.dom := by
  have leaves : Leaves (.copyActive n mask) s _ :=
    .cell (·.copyWrite n mask) (up.passesIf hn) (Dev.copyWrite_locked free locked) (s.found.keeps_refused _ _ _ _ _ _)
  obtain ⟨a, run, done, -, keeps, -⟩ := leaves.refused
  exact ⟨a, run, done, keeps .dom (by decide)⟩

theorem copyActive_copies (unlocked : s.found.locked (Reg.AX9_COMMIT_CYCLE n) = false) : Does (.copyActive n mask) s fun b a =>
    a.done = Code.STATUS_OK ∧
    (∀ l < 4, a.bytes (Reg.AX9_INACTIVE_CUR n + l) =
      if mask.testBit l then b.bytes (Reg.AX9_ACTIVE_CUR n + l) else b.bytes (Reg.AX9_INACTIVE_CUR n + l)) ∧
    (∀ l < 4, a.bytes (Reg.AX9_ACTIVE_CUR n + l) = b.bytes (Reg.AX9_ACTIVE_CUR n + l)) ∧ b.Keeps a [.dom, .gen, .done] := by
  have keeps := (s.found.keeps_imagesCopied n mask).trans (Dev.keeps_finish _ Code.STATUS_OK)
  have leaves : Leaves (.copyActive n mask) s ((s.found.imagesCopied n mask).finish Code.STATUS_OK) :=
    .cell (·.copyWrite n mask) (up.passesIf hn) (Dev.copyWrite_open free unlocked) keeps
  have images (l : Nat) (hl : l < 4) := s.found.images_imagesCopied n mask l hl
  refine leaves.quietly (keeps .event (by decide)) ⟨rfl, fun l hl => ?_, fun l hl => ?_, keeps⟩
  · refine (congrArg Prod.snd (images l hl)).trans ?_
    split_ifs <;> rfl
  · refine (congrArg Prod.fst (images l hl)).trans ?_
    split_ifs <;> rfl

end
end

/-- Settles O33: the activation of a bank key by key, the cases of CPI_FIRE, and those of COPY_ACTIVE. -/
theorem banksAndCopies : Obligations.BanksAndCopies := by
  refine ⟨fun d bank e k hb he fits => ?_, fun s => ⟨fun e he live due valid acting => ⟨cpiFire_fires live he due valid acting,
    cpiFire_misses live he due valid acting, cpiFire_missesAgain live he due valid acting⟩, fun e live h => cpiFire_unchanged live h,
    fun x => s.found.cpiDue_iff x, fun n mask up hn free unlocked => copyActive_copies up hn free unlocked,
    fun n mask up hn h => copyActive_owned up hn h, fun n mask up hn free locked => copyActive_locked up hn free locked⟩⟩
  have staged := staged_of_bankEntries hb he
  refine ⟨d.reg_activate_own staged fits, d.reg_activate_staged staged.low, fun other f j ho ne hf => ?_, d.keeps_activate bank⟩
  have staged' := staged_of_bankEntries ho hf
  exact ⟨d.reg_activate_other staged' ne, d.reg_activate_staged staged'.low⟩

end Sys2Proof.Machine
end

section
/-! # DMA channels (R278, R282 to R286) -/

/-! ## A translation that another device answers alike -/

namespace Sys2Proof.Machine

section
variable {d e : Dev}

theorem Dev.memAt_congr (mem : e.mem = d.mem) (a : Nat) : e.memAt a = d.memAt a := by simp only [Dev.memAt, mem]

theorem Dev.memRead_congr (mem : e.mem = d.mem) (a n : Nat) : e.memRead a n = d.memRead a n := by
  simp only [Dev.memRead, Dev.memAt_congr mem]

variable (mem : e.mem = d.mem) (poisoned : e.health.poisoned = d.health.poisoned)
include mem poisoned

theorem Dev.walk_congr (level ppn vpn : Nat) : e.walk level ppn vpn = d.walk level ppn vpn := by
  induction level generalizing ppn with
  | zero => rw [Dev.walk, Dev.walk, Dev.memRead_congr mem, poisoned]
  | succ l ih =>
    rw [Dev.walk, Dev.walk, Dev.memRead_congr mem, poisoned]
    simp only [ih]

/-- A translation that draws no free value depends on memory and the translations cached alone, and changes these alone. -/
theorem Dev.ioTranslate_congr (cached : e.dma.iotlb = d.dma.iotlb) {satp va : Nat} {w : Bool}
    (sure : (d.ioTranslate satp va w).2.fresh = d.fresh) : e.ioTranslate satp va w =
      ((d.ioTranslate satp va w).1, { e with dma := { e.dma with iotlb := (d.ioTranslate satp va w).2.dma.iotlb } }) := by
  revert sure
  rw [Dev.ioTranslate, Dev.ioTranslate]
  simp only [cached, Dev.walk_congr mem poisoned]
  by_cases sign : va / 2 ^ 39 ≠ if va.testBit 38 then 2 ^ 25 - 1 else 0
  · simp only [if_pos sign, ← cached, implies_true]
  · simp only [if_neg sign]
    split
    · simp only [← cached, implies_true]
    · split
      · simp only [← cached, implies_true]
      · by_cases room : d.dma.iotlb.length < 1024
        · simp only [if_pos room, cached, implies_true]
        · simp [if_neg room, Dev.takeFresh]

end

section
variable {d : Dev}

theorem Dev.lt_of_translated {satp va pa : Nat} {w : Bool} {e : Dev} (h : d.ioTranslate satp va w = (.ok pa, e)) : va < 2 ^ 64 := by
  have sign : va / 2 ^ 39 = if va.testBit 38 then 2 ^ 25 - 1 else 0 := by
    by_contra other
    rw [Dev.ioTranslate, if_pos other] at h
    simp at h
  split_ifs at sign <;> omega

theorem leNat_lt (x : Bytes) : leNat x < 256 ^ x.length := by
  induction x with
  | nil => simp [leNat]
  | cons b x ih =>
    have low := b.isLt
    rw [leNat, List.foldr_cons, ← leNat, List.length_cons, Nat.pow_succ]
    omega

theorem fieldLE_lt (x : Bytes) (off : Nat) : fieldLE x off 8 < 2 ^ 64 := by
  have h := leNat_lt ((x.drop off).take 8)
  exact h.trans_le (by
    calc 256 ^ ((x.drop off).take 8).length ≤ 256 ^ 8 := Nat.pow_le_pow_right (by omega) (by simp)
      _ = 2 ^ 64 := by norm_num)

end

/-! ## What EVENT tells leaves alone -/

@[simp] theorem Dev.nat_told (d : Dev) (pend vecs : List Nat) (k : Nat) : (d.told pend vecs).nat k = d.nat k := rfl
@[simp] theorem Dev.mem_told (d : Dev) (pend vecs : List Nat) : (d.told pend vecs).mem = d.mem := rfl
@[simp] theorem Dev.memAt_told (d : Dev) (pend vecs : List Nat) (a : Nat) : (d.told pend vecs).memAt a = d.memAt a := rfl
@[simp] theorem Dev.plic_told (d : Dev) (pend vecs : List Nat) : (d.told pend vecs).plic = d.plic := rfl
@[simp] theorem Dev.done_told (d : Dev) (pend vecs : List Nat) : (d.told pend vecs).done = d.done := rfl
@[simp] theorem Dev.dmaOff_told (d : Dev) (pend vecs : List Nat) (ch : Nat) : (d.told pend vecs).dmaOff ch = d.dmaOff ch := rfl
@[simp] theorem Dev.nat_finish (d : Dev) (c k : Nat) : (d.finish c).nat k = d.nat k := rfl
@[simp] theorem Dev.dmaOff_finish (d : Dev) (c ch : Nat) : (d.finish c).dmaOff ch = d.dmaOff ch := rfl

/-! ## A channel's entries -/

theorem OdType.toNat_wrap_u8 {n : Nat} (h : n < 2 ^ 8) : (OdType.u8.wrap n).toNat = n := by
  have e : OdType.u8.wrap n = (n : Int) % 2 ^ 8 := rfl
  rw [e]
  omega

theorem OdType.toNat_wrap_u64 {n : Nat} (h : n < 2 ^ 64) : (OdType.u64.wrap n).toNat = n := by
  have e : OdType.u64.wrap n = (n : Int) % 2 ^ 64 := rfl
  rw [e]
  omega

/-- The entries that a write to a page of the Hoard may change (R420). -/
abbrev hoardRegs : List Nat := [Reg.R5801_OPEN_GEN, Reg.R5801_PENDING_PAGES, Reg.R5801_GEN_LAG, Reg.R5801_ABANDONED]

theorem odType_ofDma {ch : Nat} (h : ch < 32) : odType (Reg.R3920_STATE ch) = .u8 ∧ odType (Reg.R3920_CUR_DESC ch) = .u64 ∧
    odType (Reg.R3920_FAULT_OFFSET ch) = .u32 ∧ odType (Reg.R3920_FAULT_VA ch) = .u64 ∧ odType (Reg.R3920_FAULT_CAUSE ch) = .u8 ∧
    odType (Reg.R3920_BYTES ch) = .u64 := by
  revert ch
  decide +kernel

/-- The entries of a channel that its commands read or write. -/
abbrev ofDma (ch : Nat) : List Nat := [Reg.R3920_STATE ch, Reg.R3920_CUR_DESC ch, Reg.R3920_FAULT_OFFSET ch, Reg.R3920_FAULT_VA ch,
  Reg.R3920_FAULT_CAUSE ch, Reg.R3920_BYTES ch, Reg.R3920_IO_SATP ch, Reg.R3920_DESC_PTR ch]

theorem ofDma_apart {ch k : Nat} (h : ch < 32) (hk : k ∈ ofDma ch) :
    k ∉ logRegs ∧ k ≠ Reg.R3800_LAST_CODE ∧ k ≠ Reg.R3900_FAULTS ∧ k ∉ hoardRegs := by
  have apart : ∀ ch < 32, ∀ k ∈ ofDma ch, k ∉ logRegs ∧ k ≠ Reg.R3800_LAST_CODE ∧ k ≠ Reg.R3900_FAULTS ∧ k ∉ hoardRegs := by
    decide +kernel
  exact apart ch h k hk

section
variable {d : Dev} {ch : Nat}

theorem Dev.keeps_settCode (d : Dev) (code detail : Nat) : d.Keeps (d.settCode code detail) (.plic :: logParts) :=
  (((Dev.Keeps.refl d _).raise _ _ _ _ _).set _ _).step (Dev.keeps_raisePlic _ _)

theorem Dev.reg_raisePlic (d : Dev) (src k : Nat) : (d.raisePlic src).reg k = d.reg k :=
  Dev.reg_congr (d.keeps_raisePlic src .od (by decide)) k

theorem Dev.mem_plic_raisePlic (d : Dev) (src : Nat) : src ∈ (d.raisePlic src).plic := by
  unfold Dev.raisePlic
  split_ifs with h
  · simpa using h
  · simp

theorem Dev.reg_settCode (d : Dev) {k : Nat} (code detail : Nat) (log : k ∉ logRegs) (last : k ≠ Reg.R3800_LAST_CODE) :
    (d.settCode code detail).reg k = d.reg k := by
  rw [Dev.settCode, Dev.reg_raisePlic, Dev.reg_set_other _ _ last, Dev.reg_raise _ _ _ _ _ _ log]

theorem Dev.lastRaised_settCode (d : Dev) (code detail : Nat) : (d.settCode code detail).LastRaised code Kind.other 0 :=
  (d.lastRaised_raise _ _ _ _ _).of_keeps (((Dev.Keeps.refl _ [.od, .plic]).set _ _).step (Dev.keeps_raisePlic _ _)) (by decide)

/-- The channel FAULTED, nothing raised yet. -/
def Dev.dmaHeld (d : Dev) (ch va cause : Nat) : Dev :=
  (((d.set (Reg.R3920_STATE ch) DmaState.faulted).set (Reg.R3920_FAULT_OFFSET ch) (d.dmaOff ch)).set (Reg.R3920_FAULT_VA ch) va).set
    (Reg.R3920_FAULT_CAUSE ch) cause

/-- The code of a channel's fault. -/
abbrev dmaCode (cause : Nat) : Nat := if cause = 6 then Code.DMA_DESC_INVALID else Code.DMA_FAULT

theorem Dev.dmaFaulted_eq (d : Dev) (ch va cause : Nat) : d.dmaFaulted ch va cause =
    (((d.dmaHeld ch va cause).settCode (dmaCode cause) ch).count Reg.R3900_FAULTS).raisePlic (96 + ch) := rfl

theorem Dev.keeps_dmaHeld (d : Dev) (ch va cause : Nat) : d.Keeps (d.dmaHeld ch va cause) [.od] :=
  ((((Dev.Keeps.refl d _).set _ _).set _ _).set _ _).set _ _

theorem Dev.keeps_dmaFaulted (d : Dev) (ch va cause : Nat) : d.Keeps (d.dmaFaulted ch va cause) (.plic :: logParts) :=
  ((((d.keeps_dmaHeld ch va cause).mono (by decide)).step (Dev.keeps_settCode _ _ _)).set _ _).step (Dev.keeps_raisePlic _ _)

theorem Dev.reg_dmaFaulted (hc : ch < 32) {k : Nat} (hk : k ∈ ofDma ch) (va cause : Nat) :
    (d.dmaFaulted ch va cause).reg k = (d.dmaHeld ch va cause).reg k := by
  obtain ⟨log, last, faults, -⟩ := ofDma_apart hc hk
  rw [Dev.dmaFaulted_eq, Dev.reg_raisePlic, Dev.count, Dev.reg_set_other _ _ faults, Dev.reg_settCode _ _ _ log last]

/-- What a channel that faults shows (R285). -/
theorem Dev.dmaFaulted_spec (hc : ch < 32) {va cause : Nat} (hva : va < 2 ^ 64) (hcause : cause < 256) :
    (d.dmaFaulted ch va cause).nat (Reg.R3920_STATE ch) = DmaState.faulted ∧
    (d.dmaFaulted ch va cause).nat (Reg.R3920_FAULT_OFFSET ch) = (OdType.u32.wrap (d.dmaOff ch)).toNat ∧
    (d.dmaFaulted ch va cause).nat (Reg.R3920_FAULT_VA ch) = va ∧
    (d.dmaFaulted ch va cause).nat (Reg.R3920_FAULT_CAUSE ch) = cause ∧
    (d.dmaFaulted ch va cause).reg (Reg.R3920_CUR_DESC ch) = d.reg (Reg.R3920_CUR_DESC ch) ∧
    (d.dmaFaulted ch va cause).reg (Reg.R3920_BYTES ch) = d.reg (Reg.R3920_BYTES ch) ∧
    96 + ch ∈ (d.dmaFaulted ch va cause).plic ∧ (d.dmaFaulted ch va cause).LastRaised (dmaCode cause) Kind.other 0 := by
  obtain ⟨tState, -, tOff, tVa, tCause, -⟩ := odType_ofDma hc
  have held {k : Nat} (hk : k ∈ ofDma ch) := Dev.reg_dmaFaulted (d := d) hc hk va cause
  refine ⟨?_, ?_, ?_, ?_, ?_, ?_, Dev.mem_plic_raisePlic _ _,
    ((d.dmaHeld ch va cause).lastRaised_settCode _ _).of_keeps
      (((Dev.Keeps.refl _ [.od, .plic]).set _ _).step (Dev.keeps_raisePlic _ _)) (by decide)⟩
  · rw [Dev.nat, held (by simp)]
    simpa [Dev.dmaHeld, Dev.reg_set, tState] using OdType.toNat_wrap_u8 (n := 2) (by omega)
  · rw [Dev.nat, held (by simp)]
    simp [Dev.dmaHeld, Dev.reg_set, tOff]
  · rw [Dev.nat, held (by simp)]
    simpa [Dev.dmaHeld, Dev.reg_set, tVa] using OdType.toNat_wrap_u64 hva
  · rw [Dev.nat, held (by simp)]
    simpa [Dev.dmaHeld, Dev.reg_set, tCause] using OdType.toNat_wrap_u8 hcause
  · rw [held (by simp)]
    simp [Dev.dmaHeld, Dev.reg_set]
  · rw [held (by simp)]
    simp [Dev.dmaHeld, Dev.reg_set]

end

end Sys2Proof.Machine
end

section
/-! ## The descriptor a channel is on (R284) -/

namespace Sys2Proof.Machine

/-- No word of the descriptor at this address is poisoned. -/
abbrev Dev.Clean (d : Dev) (pa : Nat) : Prop := ∀ i < 4, pa / 8 * 8 + 8 * i ∉ d.health.poisoned

section
variable {d e : Dev} {ch pa : Nat}

/-- The cause for which a descriptor at this address is no descriptor to carry out. -/
def Dev.descFault (d : Dev) (pa : Nat) : Option Nat :=
  if inMemory pa 32 = false then some 4 else if ¬d.Clean pa then some 5 else if dmaDescOk (d.memRead pa 32) = true then none else some 6

theorem Dev.descFault_lt {c : Nat} (h : d.descFault pa = some c) : c < 256 := by
  unfold Dev.descFault at h
  split_ifs at h <;> simp_all <;> omega

theorem Dev.dmaDesc_eq (t : d.ioTranslate (d.nat (Reg.R3920_IO_SATP ch)) (d.nat (Reg.R3920_CUR_DESC ch)) false = (.ok pa, e)) :
    d.dmaDesc ch = match e.descFault pa with
      | none => (some (e.memRead pa 32), e)
      | some c => (none, e.dmaFaulted ch (d.nat (Reg.R3920_CUR_DESC ch)) c) := by
  have dirty : ((List.range 4).any fun i => e.health.poisoned.contains (pa / 8 * 8 + 8 * i)) = true ↔ ¬e.Clean pa := by simp
  simp only [Dev.dmaDesc, t, Dev.descFault, dirty, Bool.not_eq_true']
  split_ifs <;> rfl

/-- A channel set running on a descriptor, nothing fetched yet. -/
def Dev.dmaSet (d : Dev) (ch desc off : Nat) : Dev :=
  ((d.set (Reg.R3920_STATE ch) DmaState.running).set (Reg.R3920_CUR_DESC ch) desc).setDmaOff ch off

theorem Dev.keeps_dma (d : Dev) (x : Dma) : d.Keeps { d with dma := x } [.dma] := by
  intro p hp
  cases p with
  | dma => simp at hp
  | _ => rfl

theorem Dev.keeps_setDmaOff (d : Dev) (ch off : Nat) : d.Keeps (d.setDmaOff ch off) [.dma] := d.keeps_dma _

theorem Dev.keeps_dmaSet (d : Dev) (ch desc off : Nat) : d.Keeps (d.dmaSet ch desc off) [.od, .dma] :=
  (((Dev.Keeps.refl d _).set _ _).set _ _).step (Dev.keeps_dma _ _)

theorem Dev.reg_dmaSet (d : Dev) (ch desc off k : Nat) : (d.dmaSet ch desc off).reg k =
    ((d.set (Reg.R3920_STATE ch) DmaState.running).set (Reg.R3920_CUR_DESC ch) desc).reg k := rfl

/-- What fetching the descriptor makes of the channel: it goes on or is FAULTED. -/
def Dev.Fetched (a : Dev) (ch : Nat) : Option Nat → Prop
  | none => a.nat (Reg.R3920_STATE ch) = DmaState.running
  | some c => a.nat (Reg.R3920_STATE ch) = DmaState.faulted ∧ a.nat (Reg.R3920_FAULT_CAUSE ch) = c ∧
    a.LastRaised (dmaCode c) Kind.other 0

theorem Dev.Fetched.finished {a : Dev} {ch : Nat} {c : Option Nat} (h : a.Fetched ch c) {code : Nat} (pend vecs : List Nat) :
    ((a.finish code).told pend vecs).Fetched ch c := by
  cases c with
  | none =>
    rw [Dev.Fetched, Dev.nat_told, Dev.nat_finish]
    exact h
  | some c =>
    obtain ⟨state, cause, raised⟩ := h
    rw [Dev.Fetched, Dev.nat_told, Dev.nat_finish, Dev.nat_told, Dev.nat_finish]
    exact ⟨state, cause, raised⟩

/-- The device when a channel set running has translated the address of its descriptor. -/
def Dev.dmaSeen (d : Dev) (ch desc off : Nat) (l : List (Nat × Nat × Nat × Nat)) : Dev :=
  { d.dmaSet ch desc off with dma := { (d.dmaSet ch desc off).dma with iotlb := l } }

section
variable {desc off : Nat} {l : List (Nat × Nat × Nat × Nat)} (hc : ch < 32)
  (t : d.ioTranslate (d.nat (Reg.R3920_IO_SATP ch)) desc false = (.ok pa, e)) (sure : e.fresh = d.fresh)
include hc t sure

theorem Dev.ioTranslate_dmaSet : (d.dmaSet ch desc off).ioTranslate ((d.dmaSet ch desc off).nat (Reg.R3920_IO_SATP ch))
    ((d.dmaSet ch desc off).nat (Reg.R3920_CUR_DESC ch)) false = (.ok pa, d.dmaSeen ch desc off e.dma.iotlb) := by
  have satp : (d.dmaSet ch desc off).nat (Reg.R3920_IO_SATP ch) = d.nat (Reg.R3920_IO_SATP ch) := by
    simp [Dev.nat, Dev.reg_dmaSet, Dev.reg_set]
  have va : (d.dmaSet ch desc off).nat (Reg.R3920_CUR_DESC ch) = desc := by
    rw [Dev.nat, Dev.reg_dmaSet, Dev.reg_set_same, (odType_ofDma hc).2.1, OdType.toNat_wrap_u64 (Dev.lt_of_translated t)]
  have alike := Dev.ioTranslate_congr (d := d) (e := d.dmaSet ch desc off) rfl rfl rfl (satp := d.nat (Reg.R3920_IO_SATP ch)) (va := desc)
    (w := false) (by rw [t]; exact sure)
  rw [satp, va, alike, t]
  rfl

theorem Dev.dmaBegin_eq : d.dmaBegin ch desc off = match d.descFault pa with
    | none => d.dmaSeen ch desc off e.dma.iotlb
    | some c => (d.dmaSeen ch desc off e.dma.iotlb).dmaFaulted ch ((d.dmaSet ch desc off).nat (Reg.R3920_CUR_DESC ch)) c := by
  rw [Dev.dmaBegin, ← Dev.dmaSet, Dev.dmaDesc_eq (Dev.ioTranslate_dmaSet hc t sure)]
  change (match d.descFault pa with | none => _ | some c => _ : Option Bytes × Dev).2 = _
  cases d.descFault pa <;> rfl

theorem Dev.dmaBegin_spec : (d.dmaBegin ch desc off).Fetched ch (d.descFault pa) ∧
    (d.dmaBegin ch desc off).reg (Reg.R3920_CUR_DESC ch) = OdType.u64.wrap desc ∧
    (d.dmaBegin ch desc off).reg (Reg.R3920_BYTES ch) = d.reg (Reg.R3920_BYTES ch) ∧
    (d.dmaBegin ch desc off).dmaOff ch = off ∧ d.Keeps (d.dmaBegin ch desc off) (.plic :: .dma :: logParts) := by
  obtain ⟨tState, tDesc, -⟩ := odType_ofDma hc
  have va : (d.dmaSet ch desc off).nat (Reg.R3920_CUR_DESC ch) < 2 ^ 64 := Dev.lt_of_translated (Dev.ioTranslate_dmaSet hc t sure)
  have keeps : d.Keeps (d.dmaSeen ch desc off e.dma.iotlb) (.plic :: .dma :: logParts) :=
    ((d.keeps_dmaSet ch desc off).mono (by decide)).step (Dev.keeps_dma _ _)
  have reg (k : Nat) : (d.dmaSeen ch desc off e.dma.iotlb).reg k = (d.dmaSet ch desc off).reg k := rfl
  have desc' : (d.dmaSet ch desc off).reg (Reg.R3920_CUR_DESC ch) = OdType.u64.wrap desc := by
    rw [Dev.reg_dmaSet, Dev.reg_set_same, tDesc]
  have bytes : (d.dmaSet ch desc off).reg (Reg.R3920_BYTES ch) = d.reg (Reg.R3920_BYTES ch) := by
    rw [Dev.reg_dmaSet, Dev.reg_set_other _ _ (by simp), Dev.reg_set_other _ _ (by simp)]
  have placed : (d.dmaSeen ch desc off e.dma.iotlb).dmaOff ch = off := mget_mset_same _ _ _ _
  rw [Dev.dmaBegin_eq hc t sure]
  cases fault : d.descFault pa with
  | none =>
    refine ⟨?_, desc', bytes, placed, keeps⟩
    rw [Dev.Fetched, Dev.nat, reg, Dev.reg_dmaSet, Dev.reg_set_other _ _ (by simp), Dev.reg_set_same, tState]
    exact OdType.toNat_wrap_u8 (n := 1) (by omega)
  | some c =>
    obtain ⟨state, -, -, cause, curDesc, count, -, raised⟩ :=
      (d.dmaSeen ch desc off e.dma.iotlb).dmaFaulted_spec hc va (Dev.descFault_lt fault)
    have own := (d.dmaSeen ch desc off e.dma.iotlb).keeps_dmaFaulted ch ((d.dmaSet ch desc off).nat (Reg.R3920_CUR_DESC ch)) c
    refine ⟨⟨state, cause, raised⟩, curDesc.trans desc', count.trans bytes, ?_, keeps.step own⟩
    rw [Dev.dmaOff, own .dma (by decide)]
    exact placed

end

end
end Sys2Proof.Machine
end

section
/-! ## A running channel (R284, R286) -/

namespace Sys2Proof.Machine

/-- The parts that a write of a core may change beside memory. -/
abbrev hoardParts : List Part := .pair :: .health :: logParts

section
variable {d : Dev}

theorem Dev.keeps_pair (d : Dev) (x : Pair) : d.Keeps { d with pair := x } [.pair] := by
  intro p hp
  cases p with
  | pair => simp at hp
  | _ => rfl

theorem Dev.keeps_health (d : Dev) (x : Health) : d.Keeps { d with health := x } [.health] := by
  intro p hp
  cases p with
  | health => simp at hp
  | _ => rfl

theorem Dev.keeps_endGen_ (d : Dev) : d.Keeps d.endGen_ hoardParts := by
  unfold Dev.endGen_
  split
  · exact Dev.Keeps.refl d _
  · exact ((((Dev.keeps_pair d _).mono (by decide)).set _ _).set _ _).set _ _

theorem Dev.reg_endGen_ (d : Dev) {k : Nat} (hk : k ∉ hoardRegs) : d.endGen_.reg k = d.reg k := by
  simp only [List.mem_cons, List.not_mem_nil, or_false, not_or] at hk
  obtain ⟨open_, pending, lag, -⟩ := hk
  unfold Dev.endGen_
  split
  · rfl
  · rw [Dev.reg_set_other _ _ lag, Dev.reg_set_other _ _ pending, Dev.reg_set_other _ _ open_]
    rfl

theorem Dev.keeps_abandonGen (d : Dev) : d.Keeps d.abandonGen hoardParts := by
  unfold Dev.abandonGen
  split_ifs
  · exact Dev.Keeps.refl d _
  · exact (d.keeps_endGen_.set _ _).raise _ _ _ _ _

theorem Dev.reg_abandonGen (d : Dev) {k : Nat} (hk : k ∉ hoardRegs) (log : k ∉ logRegs) : d.abandonGen.reg k = d.reg k := by
  unfold Dev.abandonGen
  split_ifs
  · rfl
  · rw [Dev.reg_raise _ _ _ _ _ _ log, Dev.count, Dev.reg_set_other _ _ (fun h => hk (by simp [h])), d.reg_endGen_ hk]

/-- What a page noted may change: nothing of memory, and of the dictionary the generation's figures alone. -/
theorem Dev.notePage_spec (d : Dev) (page : Nat) : d.Keeps (d.notePage page) hoardParts ∧
    ∀ k, k ∉ hoardRegs → k ∉ logRegs → (d.notePage page).reg k = d.reg k := by
  unfold Dev.notePage
  split_ifs
  · have inner (e : Dev) (h : d.Keeps e hoardParts ∧ ∀ k, k ∉ hoardRegs → k ∉ logRegs → e.reg k = d.reg k) (x : Pair) :
        d.Keeps { e with pair := x } hoardParts ∧ ∀ k, k ∉ hoardRegs → k ∉ logRegs → ({ e with pair := x } : Dev).reg k = d.reg k :=
      ⟨h.1.step (Dev.keeps_pair e x), h.2⟩
    refine inner _ ?_ _
    split
    · split_ifs
      · exact ⟨d.keeps_abandonGen, fun k => d.reg_abandonGen⟩
      · exact inner d ⟨Dev.Keeps.refl d _, fun _ _ _ => rfl⟩ _
      · exact ⟨Dev.Keeps.refl d _, fun _ _ _ => rfl⟩
    · exact ⟨Dev.Keeps.refl d _, fun _ _ _ => rfl⟩
  · exact ⟨Dev.Keeps.refl d _, fun _ _ _ => rfl⟩

theorem Dev.notePages_spec (pages : List Nat) (d : Dev) : d.Keeps (each pages (fun p d => d.notePage p) d) hoardParts ∧
    ∀ k, k ∉ hoardRegs → k ∉ logRegs → (each pages (fun p d => d.notePage p) d).reg k = d.reg k := by
  induction pages generalizing d with
  | nil => exact ⟨Dev.Keeps.refl d _, fun _ _ _ => rfl⟩
  | cons p pages ih =>
    obtain ⟨keeps, regs⟩ := d.notePage_spec p
    obtain ⟨keeps', regs'⟩ := ih (d.notePage p)
    exact ⟨keeps.step keeps' , fun k hk log => (regs' k hk log).trans (regs k hk log)⟩

theorem Dev.mem_memWrite {d e : Dev} (mem : e.mem = d.mem) (a : Nat) (bs : Bytes) : (e.memWrite a bs).mem = (d.memWrite a bs).mem := by
  unfold Dev.memWrite each
  generalize bs.zip (List.range bs.length) = l
  induction l generalizing d e with
  | nil => exact mem
  | cons p l ih => exact ih (by simp only [Dev.memSet, mem])

/-- The pages of the Hoard that a write reaches. -/
def Dev.pagesWritten (d : Dev) (a : Nat) (bs : Bytes) : List Nat :=
  if bs.isEmpty then [] else
    (List.range ((a % 4096 + bs.length - 1) / 4096 + 1)).filterMap fun i => d.hoardPage (a / 4096 * 4096 + 4096 * i)

/-- The device when the pages a write reaches have been noted. -/
def Dev.pagesNoted (d : Dev) (a : Nat) (bs : Bytes) : Dev := each (d.pagesWritten a bs) (fun p d => d.notePage p) d

theorem Dev.coreWrite_eq (d : Dev) (a : Nat) (bs : Bytes) : d.coreWrite a bs = ((d.pagesNoted a bs).unpoison a bs.length).memWrite a bs := rfl

/-- A core's write changes memory by its bytes, and of the rest what its pages' notes change. -/
theorem Dev.coreWrite_spec (d : Dev) (a : Nat) (bs : Bytes) : d.Keeps (d.coreWrite a bs) (.mem :: hoardParts) ∧
    (∀ k, k ∉ hoardRegs → k ∉ logRegs → (d.coreWrite a bs).reg k = d.reg k) ∧ (d.coreWrite a bs).mem = (d.memWrite a bs).mem := by
  obtain ⟨keeps, regs⟩ := Dev.notePages_spec (d.pagesWritten a bs) d
  have cleared : d.Keeps ((d.pagesNoted a bs).unpoison a bs.length) hoardParts := keeps.step (Dev.keeps_health _ _)
  rw [Dev.coreWrite_eq]
  refine ⟨(cleared.mono (by decide)).step (Dev.keeps_memWrite _ _ _), fun k hk log => ?_, Dev.mem_memWrite (cleared .mem (by decide)) a bs⟩
  exact (Dev.reg_congr (Dev.keeps_memWrite _ a bs .od (by decide)) k).trans (regs k hk log)

section
variable {e f : Dev} {ch pa pb : Nat} {x : Bytes}

theorem aeCell_memory {a : Nat} (h : regionOf a = .memory) : aeCell a = none := by
  have outside : a < 0x0060000000 ∨ 2 ≤ (a - 0x0060000000) / 0x800000 := by
    by_contra inside
    have engine : 0x0060000000 ≤ a ∧ a < 0x0061000000 := by omega
    rw [regionOf, if_neg (by omega), if_neg (by omega), if_neg (by omega), if_neg (by omega), if_neg (by omega), if_pos engine] at h
    contradiction
  exact if_pos outside

theorem Dev.dmaByte_memory (memory : regionOf pa = .memory) (clean : pa / 8 * 8 ∉ d.health.poisoned) :
    d.dmaByte pa = (.ok (d.memAt pa), d) := by
  simp [Dev.dmaByte, clean, Dev.fabricRead, aeCell_memory memory, memory]

theorem Dev.dmaPut_memory (memory : regionOf pb = .memory) (b : Byte) : d.dmaPut pb b false = (true, d.coreWrite pb [b]) := by
  simp [Dev.dmaPut, aeCell_memory memory, memory, Dev.when]

/-- The device when the one byte of a descriptor has been copied. -/
def Dev.dmaCopied (d : Dev) (ch pa pb : Nat) : Dev :=
  let e := (d.coreWrite pb [d.memAt pa]).setDmaOff ch 1
  e.set (Reg.R3920_BYTES ch) (e.reg (Reg.R3920_BYTES ch) + 1)

theorem Dev.dmaCopy_one (first : d.dmaOff ch = 0)
    (source : d.ioTranslate (d.nat (Reg.R3920_IO_SATP ch)) (fieldLE x 0 8) false = (.ok pa, d))
    (target : d.ioTranslate (d.nat (Reg.R3920_IO_SATP ch)) (fieldLE x 8 8) true = (.ok pb, d))
    (memory : regionOf pa = .memory) (memory' : regionOf pb = .memory) (clean : pa / 8 * 8 ∉ d.health.poisoned) :
    d.dmaCopy ch x 1 = d.dmaCopied ch pa pb := by
  have src : (fieldLE x 0 8 + 0) % 2 ^ 64 = fieldLE x 0 8 := Nat.mod_eq_of_lt (fieldLE_lt x 0)
  have dst : (fieldLE x 8 8 + 0) % 2 ^ 64 = fieldLE x 8 8 := Nat.mod_eq_of_lt (fieldLE_lt x 8)
  simp only [Dev.dmaCopy, first, src, dst, source, target, Dev.dmaByte_memory memory clean]
  rw [show decide (7 ≤ 0) = false from rfl, Dev.dmaPut_memory memory']
  rfl

theorem Dev.dmaCopied_spec (hc : ch < 32) : d.Keeps (d.dmaCopied ch pa pb) (.mem :: .dma :: hoardParts) ∧
    (∀ k ∈ ofDma ch, k ≠ Reg.R3920_BYTES ch → (d.dmaCopied ch pa pb).reg k = d.reg k) ∧
    (d.dmaCopied ch pa pb).reg (Reg.R3920_BYTES ch) = (odType (Reg.R3920_BYTES ch)).wrap (d.reg (Reg.R3920_BYTES ch) + 1) ∧
    (d.dmaCopied ch pa pb).memAt pb = d.memAt pa ∧ ∀ y, y ≠ pb → (d.dmaCopied ch pa pb).memAt y = d.memAt y := by
  obtain ⟨keeps, regs, mem⟩ := d.coreWrite_spec pb [d.memAt pa]
  have reg {k : Nat} (hk : k ∈ ofDma ch) : ((d.coreWrite pb [d.memAt pa]).setDmaOff ch 1).reg k = d.reg k := by
    obtain ⟨log, -, -, hoard⟩ := ofDma_apart hc hk
    exact (Dev.reg_congr (Dev.keeps_setDmaOff _ ch 1 .od (by decide)) k).trans (regs k hoard log)
  have after : (d.coreWrite pb [d.memAt pa]).Keeps (d.dmaCopied ch pa pb) [.od, .dma] := by
    rw [Dev.dmaCopied]
    exact ((Dev.keeps_setDmaOff _ ch 1).mono (by decide)).set _ _
  have kept : d.Keeps (d.dmaCopied ch pa pb) (.mem :: .dma :: hoardParts) := (keeps.mono (by decide)).step after
  have mem' : (d.dmaCopied ch pa pb).mem = (d.memWrite pb [d.memAt pa]).mem := (after .mem (by decide)).trans mem
  have written (y : Nat) : (d.dmaCopied ch pa pb).memAt y = (d.memWrite pb [d.memAt pa]).memAt y := Dev.memAt_congr mem' y
  refine ⟨kept, fun k hk ne => ?_, ?_, ?_, fun y hy => ?_⟩
  · rw [Dev.dmaCopied, Dev.reg_set_other _ _ ne, reg hk]
  · rw [Dev.dmaCopied, Dev.reg_set_same, reg (by simp)]
  · simp [written, Dev.memWrite, each, Dev.memAt_memSet]
  · simp [written, Dev.memWrite, each, Dev.memAt_memSet, hy]

end

end
end Sys2Proof.Machine
end

section
/-! ## The commands of a channel -/

namespace Sys2Proof.Machine

section
variable {s : State} {ch : Nat} (up : s.Up) (hc : ch < 32)
include up hc

theorem dmaStart_refused (running : s.found.nat (Reg.R3920_STATE ch) = DmaState.running) : Does (.dmaStart ch) s fun b a =>
    a.done = Code.OD_STATE ∧ b.Keeps a [.done] :=
  (Leaves.dry (l := [.done]) (fun d => d.dmaStart ch) (up.passesIf hc) (if_pos running) (Dev.keeps_finish _ _)).finished

theorem dmaResume_refused (notFaulted : s.found.nat (Reg.R3920_STATE ch) ≠ DmaState.faulted)
    (notStopped : s.found.nat (Reg.R3920_STATE ch) ≠ DmaState.stopped) : Does (.dmaResume ch) s fun b a =>
    a.done = Code.OD_STATE ∧ b.Keeps a [.done] :=
  (Leaves.dry (l := [.done]) (fun d => d.dmaResume ch) (up.passesIf hc) (if_neg (not_or.2 ⟨notFaulted, notStopped⟩))
    (Dev.keeps_finish _ _)).finished

theorem dmaAbandon_idles : Does (.dmaAbandon ch) s fun b a =>
    a.done = Code.STATUS_OK ∧ a.nat (Reg.R3920_STATE ch) = DmaState.idle ∧ a.dmaOff ch = 0 ∧
    b.KeepsRegs a [Reg.R3920_STATE ch] ∧ b.Keeps a [.od, .dma, .done] := by
  have keeps : s.found.Keeps (s.found.dmaAbandon ch) [.od, .dma, .done] :=
    (((Dev.Keeps.refl _ _).set _ _).step (Dev.keeps_dma _ _)).finish _
  have leaves : Leaves (.dmaAbandon ch) s (s.found.dmaAbandon ch) := Leaves.dry (fun d => d.dmaAbandon ch) (up.passesIf hc) rfl keeps
  refine leaves.quietly (keeps .event (by decide)) ⟨rfl, ?_, mget_mset_same _ _ _ _, fun k hk => ?_, keeps⟩
  · rw [Dev.nat, Dev.dmaAbandon, Dev.reg_finish]
    change ((s.found.set _ _).reg _).toNat = _
    rw [Dev.reg_set_same, (odType_ofDma hc).1]
    exact OdType.toNat_wrap_u8 (n := 0) (by omega)
  · exact Dev.reg_set_other _ _ (by simpa using hk)

/-- The channel started from DESC_PTR, before START is answered. -/
def Dev.dmaStarted (d : Dev) (ch : Nat) : Dev := (d.set (Reg.R3920_BYTES ch) 0).dmaBegin ch (d.nat (Reg.R3920_DESC_PTR ch)) 0

theorem dmaStart_starts {pa : Nat} (idle : s.found.nat (Reg.R3920_STATE ch) ≠ DmaState.running)
    (t : s.found.ioTranslate (s.found.nat (Reg.R3920_IO_SATP ch)) (s.found.nat (Reg.R3920_DESC_PTR ch)) false = (.ok pa, s.found)) :
    Does (.dmaStart ch) s fun b a => a.done = Code.STATUS_OK ∧
      a.reg (Reg.R3920_CUR_DESC ch) = OdType.u64.wrap (b.nat (Reg.R3920_DESC_PTR ch)) ∧ a.reg (Reg.R3920_BYTES ch) = 0 ∧
      a.dmaOff ch = 0 ∧ a.Fetched ch (b.descFault pa) := by
  have satp : (s.found.set (Reg.R3920_BYTES ch) 0).nat (Reg.R3920_IO_SATP ch) = s.found.nat (Reg.R3920_IO_SATP ch) := by
    rw [Dev.nat, Dev.reg_set_other _ _ (by simp), ← Dev.nat]
  have alike := Dev.ioTranslate_congr (d := s.found) (e := s.found.set (Reg.R3920_BYTES ch) 0) rfl rfl rfl (by rw [t])
    (satp := s.found.nat (Reg.R3920_IO_SATP ch)) (va := s.found.nat (Reg.R3920_DESC_PTR ch)) (w := false)
  rw [t, ← satp] at alike
  obtain ⟨fetched, desc, bytes, off, keeps⟩ := Dev.dmaBegin_spec (off := 0) hc alike rfl
  have leaves : Leaves (.dmaStart ch) s ((s.found.dmaStarted ch).finish Code.STATUS_OK) :=
    Leaves.dry (l := .done :: .plic :: .dma :: logParts) (fun d => d.dmaStart ch) (up.passesIf hc) (if_neg idle)
      ((((Dev.keeps_set _ _ _).mono (by decide)).step keeps).finish _)
  refine leaves.does fun pend vecs => ⟨rfl, ?_, ?_, ?_, fetched.finished pend vecs⟩
  · rw [Dev.reg_told, Dev.reg_finish]
    exact desc
  · rw [Dev.reg_told, Dev.reg_finish]
    exact bytes.trans (by rw [Dev.reg_set_same, (odType_ofDma hc).2.2.2.2.2]; rfl)
  · rw [Dev.dmaOff_told, Dev.dmaOff_finish]
    exact off

/-- The device without the translations cached for a channel's address space (R285). -/
def Dev.retranslated (d : Dev) (ch : Nat) : Dev :=
  { d with dma := { d.dma with iotlb := d.dma.iotlb.filter fun e => e.1 != d.nat (Reg.R3920_IO_SATP ch) / 2 ^ 44 % 2 ^ 16 } }

theorem dmaResume_resumes {pa : Nat} (held : s.found.nat (Reg.R3920_STATE ch) = DmaState.faulted ∨ s.found.nat (Reg.R3920_STATE ch) = DmaState.stopped)
    {e : Dev} (t : (s.found.retranslated ch).ioTranslate (s.found.nat (Reg.R3920_IO_SATP ch)) (s.found.nat (Reg.R3920_CUR_DESC ch)) false =
      (.ok pa, e)) (sure : e.fresh = s.found.fresh) :
    Does (.dmaResume ch) s fun b a => a.done = Code.STATUS_OK ∧
      a.reg (Reg.R3920_CUR_DESC ch) = OdType.u64.wrap (b.nat (Reg.R3920_CUR_DESC ch)) ∧
      a.dmaOff ch = b.nat (Reg.R3920_FAULT_OFFSET ch) ∧ a.Fetched ch (b.descFault pa) := by
  have dropped : s.found.Keeps (s.found.retranslated ch) (.done :: .plic :: .dma :: logParts) := (Dev.keeps_dma _ _).mono (by decide)
  obtain ⟨fetched, desc, -, off, keeps⟩ := Dev.dmaBegin_spec (d := s.found.retranslated ch) (off := s.found.nat (Reg.R3920_FAULT_OFFSET ch)) hc t sure
  have leaves : Leaves (.dmaResume ch) s (((s.found.retranslated ch).dmaBegin ch (s.found.nat (Reg.R3920_CUR_DESC ch))
      (s.found.nat (Reg.R3920_FAULT_OFFSET ch))).finish Code.STATUS_OK) :=
    Leaves.dry (fun d => d.dmaResume ch) (up.passesIf hc) (if_pos held) ((dropped.step keeps).finish _)
  refine leaves.does fun pend vecs => ⟨rfl, ?_, ?_, fetched.finished pend vecs⟩
  · rw [Dev.reg_told, Dev.reg_finish]
    exact desc
  · rw [Dev.dmaOff_told, Dev.dmaOff_finish]
    exact off

end

section
variable {d e : Dev} {ch : Nat} {stop : Option Nat} {x : Bytes}

theorem Dev.dmaRun_idle (idle : d.nat (Reg.R3920_STATE ch) ≠ DmaState.running) : d.dmaRun ch stop = (none, d) := if_pos idle

/-- A running channel on a good descriptor that is running still when its bytes are copied. -/
theorem Dev.dmaRun_runs (running : d.nat (Reg.R3920_STATE ch) = DmaState.running) (desc : d.dmaDesc ch = (some x, d))
    (copied : d.dmaCopy ch x (min (stop.getD (fieldLE x 16 4)) (fieldLE x 16 4) - d.dmaOff ch) = e)
    (still : e.nat (Reg.R3920_STATE ch) = DmaState.running) : d.dmaRun ch stop = (some x, e) := by
  rw [Dev.dmaRun, if_neg (not_not_intro running), desc]
  simp only [copied, still, if_true]

end

section
variable {s : State} {ch : Nat} (hc : ch < 32)
include hc

section
variable (idle : s.found.nat (Reg.R3920_STATE ch) ≠ DmaState.running)
include idle

theorem dmaComplete_idle (live : s.Live) : Does (.dmaDescriptorComplete ch) s fun b a => b.Keeps a [] :=
  (Leaves.full (l := []) (fun d => d.dmaComplete ch) (live.passesIf hc) (by rw [Dev.dmaComplete, Dev.dmaRun_idle idle])
    (Dev.Keeps.refl _ _)).unchanged

theorem dmaFault_idle (live : s.Live) (off cause : Nat) (w : Bool) : Does (.dmaFault ch off cause w) s fun b a => b.Keeps a [] :=
  (Leaves.full (l := []) (fun d => d.dmaFault ch off cause w) (live.passesIf hc) (by rw [Dev.dmaFault, Dev.dmaRun_idle idle])
    (Dev.Keeps.refl _ _)).unchanged

theorem dmaStop_idle (up : s.Up) (off : Nat) : Does (.dmaStop ch off) s fun b a => a.done = Code.STATUS_OK ∧ b.Keeps a [.done] :=
  (Leaves.full (l := [.done]) (fun d => d.dmaStop ch off) (up.passesIf hc) (by rw [Dev.dmaStop, Dev.dmaRun_idle idle])
    (Dev.keeps_finish _ _)).finished

end

section
variable {x : Bytes} {cur : Nat} (running : s.found.nat (Reg.R3920_STATE ch) = DmaState.running)
  (desc : s.found.dmaDesc ch = (some x, s.found)) (first : s.found.dmaOff ch = 0)
include running desc first

omit hc in
theorem Dev.dmaRun_none : s.found.dmaRun ch (some 0) = (some x, s.found) :=
  Dev.dmaRun_runs running desc (by rw [first]; simp [Dev.dmaCopy]) running

/-- The channel STOPPED where it is. -/
def Dev.dmaStopped (d : Dev) (ch : Nat) : Dev :=
  (d.set (Reg.R3920_STATE ch) DmaState.stopped).set (Reg.R3920_FAULT_OFFSET ch) (d.dmaOff ch)

theorem dmaStop_stops (up : s.Up) : Does (.dmaStop ch 0) s fun b a =>
    a.done = Code.STATUS_OK ∧ a.nat (Reg.R3920_STATE ch) = DmaState.stopped ∧ a.nat (Reg.R3920_FAULT_OFFSET ch) = 0 ∧
    b.Keeps a [.od, .done] := by
  obtain ⟨tState, -, tOff, -⟩ := odType_ofDma hc
  have keeps : s.found.Keeps ((s.found.dmaStopped ch).finish Code.STATUS_OK) [.od, .done] :=
    (((Dev.Keeps.refl _ _).set _ _).set _ _).finish _
  have leaves : Leaves (.dmaStop ch 0) s ((s.found.dmaStopped ch).finish Code.STATUS_OK) :=
    Leaves.full (fun d => d.dmaStop ch 0) (up.passesIf hc) (by rw [Dev.dmaStop, Dev.dmaRun_none running desc first]; rfl) keeps
  refine leaves.quietly (keeps .event (by decide)) ⟨rfl, ?_, ?_, keeps⟩
  · rw [Dev.nat, Dev.reg_finish, Dev.dmaStopped, Dev.reg_set_other _ _ (by simp), Dev.reg_set_same, tState]
    exact OdType.toNat_wrap_u8 (n := 3) (by omega)
  · rw [Dev.nat, Dev.reg_finish, Dev.dmaStopped, Dev.reg_set_same, tOff, first]
    exact OdType.toNat_wrap_u32 (n := 0) (by omega)

theorem dmaFault_faults (live : s.Live) {cause : Nat} (hcause : cause = 4 ∨ cause = 5) (write : Bool) :
    Does (.dmaFault ch 0 cause write) s fun b a =>
    a.nat (Reg.R3920_STATE ch) = DmaState.faulted ∧ a.nat (Reg.R3920_FAULT_OFFSET ch) = 0 ∧
    a.nat (Reg.R3920_FAULT_CAUSE ch) = cause ∧ a.nat (Reg.R3920_FAULT_VA ch) = fieldLE x (if write then 8 else 0) 8 ∧
    a.mem = b.mem ∧ 96 + ch ∈ a.plic ∧ a.LastRaised Code.DMA_FAULT Kind.other 0 := by
  have va : (fieldLE x (if write then 8 else 0) 8 + 0) % 2 ^ 64 = fieldLE x (if write then 8 else 0) 8 := Nat.mod_eq_of_lt (fieldLE_lt _ _)
  have keeps := s.found.keeps_dmaFaulted ch (fieldLE x (if write then 8 else 0) 8) cause
  obtain ⟨state, off, faultVa, faultCause, -, -, source, raised⟩ :=
    s.found.dmaFaulted_spec hc (fieldLE_lt x (if write then 8 else 0)) (show cause < 256 by omega)
  have leaves : Leaves (.dmaFault ch 0 cause write) s (s.found.dmaFaulted ch (fieldLE x (if write then 8 else 0) 8) cause) :=
    Leaves.full (fun d => d.dmaFault ch 0 cause write) (live.passesIf hc)
      (by simp only [Dev.dmaFault, Dev.dmaRun_none running desc first, first, va]) keeps
  rw [first] at off
  have code : dmaCode cause = Code.DMA_FAULT := if_neg (by omega)
  have mem : (s.found.dmaFaulted ch (fieldLE x (if write then 8 else 0) 8) cause).mem = s.found.mem := keeps .mem (by decide)
  rw [code] at raised
  refine leaves.does fun pend vecs => ?_
  simp only [Dev.nat_told, Dev.mem_told, Dev.plic_told]
  exact ⟨state, off.trans (OdType.toNat_wrap_u32 (n := 0) (by omega)), faultCause, faultVa, mem, source, raised.told pend vecs⟩

/-- The channel when its last descriptor of one byte is carried through. -/
def Dev.dmaEnded (d : Dev) (ch pa pb : Nat) (tell : Bool) : Dev :=
  ((d.dmaCopied ch pa pb).when tell fun d => d.raisePlic (96 + ch)).set (Reg.R3920_STATE ch) DmaState.done

theorem Dev.dmaComplete_one {pa pb : Nat} (copied : s.found.dmaCopy ch x 1 = s.found.dmaCopied ch pa pb) (one : fieldLE x 16 4 = 1)
    (ends : fieldLE x 20 4 &&& 5 = 1) : s.found.dmaComplete ch = s.found.dmaEnded ch pa pb ((fieldLE x 20 4).testBit 1) := by
  have last : (fieldLE x 20 4).testBit 0 = true := by
    have h := congrArg (fun n => n.testBit 0) ends
    simpa using h
  have noItem : (fieldLE x 20 4).testBit 2 = false := by
    have h : ((fieldLE x 20 4).testBit 2 && Nat.testBit 5 2) = Nat.testBit 1 2 := by rw [← Nat.testBit_and, ends]
    simpa [show Nat.testBit 5 2 = true by decide, show Nat.testBit 1 2 = false by decide] using h
  have still : (s.found.dmaCopied ch pa pb).nat (Reg.R3920_STATE ch) = DmaState.running := by
    rw [Dev.nat, (Dev.dmaCopied_spec hc).2.1 _ (by simp) (by simp)]
    exact running
  have ran : s.found.dmaRun ch none = (some x, s.found.dmaCopied ch pa pb) :=
    Dev.dmaRun_runs running desc (by rw [first, Option.getD_none, one]; exact copied) still
  simp only [Dev.dmaComplete, ran, last, noItem, Dev.when, if_true]
  rfl

theorem dmaComplete_copies (live : s.Live) {pa pb : Nat} (copied : s.found.dmaCopy ch x 1 = s.found.dmaCopied ch pa pb)
    (one : fieldLE x 16 4 = 1) (ends : fieldLE x 20 4 &&& 5 = 1) : Does (.dmaDescriptorComplete ch) s fun b a =>
    a.memAt pb = b.memAt pa ∧ (∀ y, y ≠ pb → a.memAt y = b.memAt y) ∧ a.nat (Reg.R3920_STATE ch) = DmaState.done ∧
    a.reg (Reg.R3920_BYTES ch) = (odType (Reg.R3920_BYTES ch)).wrap (b.reg (Reg.R3920_BYTES ch) + 1) ∧
    ((fieldLE x 20 4).testBit 1 = true → 96 + ch ∈ a.plic) := by
  obtain ⟨keeps, -, bytes, target, others⟩ := s.found.dmaCopied_spec (pa := pa) (pb := pb) hc
  have keeps' : s.found.Keeps (s.found.dmaEnded ch pa pb ((fieldLE x 20 4).testBit 1)) (.plic :: .mem :: .dma :: hoardParts) :=
    ((keeps.mono (by decide)).cond _ _ ((Dev.keeps_raisePlic _ _).mono (by decide))).set _ _
  have mem : (s.found.dmaEnded ch pa pb ((fieldLE x 20 4).testBit 1)).mem = (s.found.dmaCopied ch pa pb).mem :=
    Dev.Keeps.when _ _ (Dev.keeps_raisePlic _ _) .mem (by decide)
  have leaves : Leaves (.dmaDescriptorComplete ch) s (s.found.dmaEnded ch pa pb ((fieldLE x 20 4).testBit 1)) :=
    Leaves.full (fun d => d.dmaComplete ch) (live.passesIf hc) (Dev.dmaComplete_one hc running desc first copied one ends) keeps'
  refine leaves.does fun pend vecs => ⟨(Dev.memAt_congr mem pb).trans target, fun y hy => (Dev.memAt_congr mem y).trans (others y hy),
    ?_, ?_, fun tell => ?_⟩
  · rw [Dev.nat, Dev.reg_told, Dev.dmaEnded, Dev.reg_set_same, (odType_ofDma hc).1]
    exact OdType.toNat_wrap_u8 (n := 4) (by omega)
  · rw [Dev.reg_told, Dev.dmaEnded, Dev.reg_set_other _ _ (by simp), Dev.reg_when]
    · exact bytes
    · exact Dev.reg_raisePlic _ _ _
  · rw [tell]
    exact Dev.mem_plic_raisePlic _ _

end
end

/-- Settles O40: a channel's commands read and write its entries alone; what its descriptor answers depends on memory and the
translations cached. -/
theorem dmaChannels : Obligations.DmaChannels := by
  unfold Obligations.DmaChannels
  intro s ch hc up
  have live : s.Live := up.1
  have tDesc := (odType_ofDma hc).2.1
  refine ⟨dmaStart_refused up hc, dmaResume_refused up hc, dmaAbandon_idles up hc, fun pa idle t => ?_, fun pa held ⟨l, t, _⟩ inside clean ok => ?_,
    fun cur x pa pb running t read ⟨ok, one, ends⟩ inside clean first source target => ?_,
    fun idle => ⟨dmaComplete_idle hc idle live, dmaFault_idle hc idle live, dmaStop_idle hc idle up⟩⟩
  · obtain ⟨a, run, done, desc, bytes, off, fetched⟩ := dmaStart_starts up hc idle t
    refine ⟨a, run, done, desc.trans (by rw [tDesc]), bytes, off, fun inside clean ok => ?_, fun inside clean bad => ?_, fun lost => ?_⟩
    · rw [Dev.descFault, if_neg (by simp [inside]), if_neg (not_not_intro clean), if_pos ok] at fetched
      exact fetched
    · rw [Dev.descFault, if_neg (by simp [inside]), if_neg (not_not_intro clean), if_neg (by simp [bad])] at fetched
      exact fetched
    · rcases Bool.eq_false_or_eq_true (inMemory pa 32) with inside | outside
      · rw [Dev.descFault, if_neg (by simp [inside]), if_pos (lost.resolve_left (by simp [inside]))] at fetched
        rw [if_pos inside]
        exact fetched
      · rw [Dev.descFault, if_pos outside] at fetched
        rw [if_neg (by simp [outside])]
        exact fetched
  · obtain ⟨a, run, done, desc, off, fetched⟩ := dmaResume_resumes up hc held t rfl
    rw [Dev.descFault, if_neg (by simp [inside]), if_neg (not_not_intro clean), if_pos ok] at fetched
    exact ⟨a, run, done, fetched, desc.trans (by rw [tDesc]), off⟩
  · have desc : s.found.dmaDesc ch = (some x, s.found) := by
      rw [Dev.dmaDesc_eq t, Dev.descFault, if_neg (by simp [inside]), if_neg (not_not_intro clean), if_pos (by rw [read]; exact ok)]
      exact congrArg (fun y => (some y, s.found)) read
    refine ⟨fun memory memory' word => ?_, fun off zero => ?_, fun cause write h => dmaFault_faults hc running desc first live h write⟩
    · exact dmaComplete_copies hc running desc first live (Dev.dmaCopy_one first source target memory memory' word) one ends
    · subst zero
      exact dmaStop_stops hc running desc first up

end Sys2Proof.Machine
end

section
/-! # Byte strings and the frames a node makes (R10, R301) -/

namespace Sys2Proof.Machine

@[simp] theorem length_leBytes (n v : Nat) : (leBytes n v).length = n := by simp [leBytes]

@[simp] theorem length_beBytes (n v : Nat) : (beBytes n v).length = n := by simp [beBytes]

theorem leNat_cons (b : Byte) (x : Bytes) : leNat (b :: x) = b.toNat + 256 * leNat x := rfl

theorem leNat_leBytes (n v : Nat) : leNat (leBytes n v) = v % 256 ^ n := by
  induction n generalizing v with
  | zero => simp [leBytes, leNat, Nat.mod_one]
  | succ n ih =>
    have shift : leBytes (n + 1) v = byte v :: leBytes n (v / 256) := by
      simp only [leBytes, List.range_succ_eq_map, List.map_cons, List.map_map, Nat.pow_zero, Nat.div_one]
      refine congrArg (byte v :: ·) (List.map_congr_left fun i _ => ?_)
      simp only [Function.comp, Nat.succ_eq_add_one, Nat.pow_succ, Nat.mul_comm (256 ^ i), Nat.div_div_eq_div_mul]
    have low : (byte v).toNat = v % 256 := rfl
    rw [shift, leNat_cons, ih, low, Nat.pow_succ', Nat.mod_mul]

/-- A field that lies in the part of a string behind its first `a.length` bytes. -/
theorem fieldLE_append (a x : Bytes) {i n : Nat} (h : a.length ≤ i) : fieldLE (a ++ x) i n = fieldLE x (i - a.length) n := by
  rw [fieldLE, fieldLE, List.drop_append, List.drop_eq_nil_of_le h, List.nil_append]

/-- A field that a string's first bytes hold. -/
theorem fieldLE_prefix (x z : Bytes) {i n : Nat} (h : i + n ≤ x.length) : fieldLE (x ++ z) i n = fieldLE x i n := by
  rw [fieldLE, fieldLE, List.drop_append_of_le_length (by omega), List.take_append_of_le_length (by simp; omega)]

theorem fieldLE_whole (x : Bytes) : fieldLE x 0 x.length = leNat x := by simp [fieldLE]

theorem slice_pad {x : Bytes} {n : Nat} (h : x.length ≤ n) : slice x 0 n = x ++ List.replicate (n - x.length) 0 := by
  simp [slice, List.take_of_length_le h]

/-- A frame begins with 38 bytes of headers, which the payload follows. -/
theorem Dev.mkFrame_eq (d : Dev) (kind epoch round slot cycle : Nat) (nt : Int) (payload : Bytes) (len : Nat) : ∃ head : Bytes,
    head.length = 38 ∧ d.mkFrame kind epoch round slot cycle nt payload len =
      if (head ++ payload).length + 4 < len then slice (head ++ payload) 0 (len - 4) else head ++ payload :=
  ⟨_, by simp, rfl⟩

/-- A payload that the frame pads with zeros to its length. -/
theorem Dev.payloadOf_mkFrame (d : Dev) (kind epoch round slot cycle : Nat) (nt : Int) (payload : Bytes) {len : Nat}
    (short : payload.length + 42 < len) : payloadOf (d.mkFrame kind epoch round slot cycle nt payload len) =
      payload ++ List.replicate (len - 42 - payload.length) 0 := by
  obtain ⟨head, size, made⟩ := d.mkFrame_eq kind epoch round slot cycle nt payload len
  have total : (head ++ payload).length = 38 + payload.length := by simp [size]
  have zeros : len - 4 - (38 + payload.length) = len - 42 - payload.length := by omega
  rw [made, if_pos (by omega), slice_pad (by omega), total, zeros, payloadOf, List.append_assoc, ← size, List.drop_left]

end Sys2Proof.Machine
end

section
/-! # Links and link delays (R299, R300, R324, R334) -/

namespace Sys2Proof.Machine

/-- The frame with which a node measures a link: subtype, T2 and sequence number. -/
def Dev.delayFrame (d : Dev) (raw subtype t2 seq : Nat) : Bytes :=
  d.mkFrame FrameKind.sync 0 d.clk.tick 0 d.cycle (d.ntAt raw) ([byte subtype, 0, 0, 0] ++ leBytes 8 t2 ++ leBytes 2 seq) 64

theorem Dev.sendDelay_eq (d : Dev) (p raw subtype t2 seq : Nat) : d.sendDelay p raw subtype t2 seq = d.send p (d.delayFrame raw subtype t2 seq) := rfl

theorem Dev.delayFrame_fields (d : Dev) (raw : Nat) {subtype : Nat} (t2 seq : Nat) (h : subtype < 256) :
    fieldLE (payloadOf (d.delayFrame raw subtype t2 seq)) 0 1 = subtype ∧
    fieldLE (payloadOf (d.delayFrame raw subtype t2 seq)) 4 8 = t2 % 2 ^ 64 ∧
    fieldLE (payloadOf (d.delayFrame raw subtype t2 seq)) 12 2 = seq % 2 ^ 16 := by
  have low : (byte subtype).toNat = subtype := Nat.mod_eq_of_lt h
  have eight := fieldLE_whole (leBytes 8 t2)
  have two := fieldLE_whole (leBytes 2 seq)
  rw [leNat_leBytes, length_leBytes] at eight two
  rw [Dev.delayFrame, Dev.payloadOf_mkFrame _ _ _ _ _ _ _ _ (by simp)]
  refine ⟨?_, ?_, ?_⟩
  · rw [fieldLE_prefix _ _ (by simp), List.append_assoc, fieldLE_prefix _ _ (by simp)]
    simp [fieldLE, leNat, low]
  · rw [fieldLE_prefix _ _ (by simp), fieldLE_prefix _ _ (by simp), fieldLE_append _ _ (by simp)]
    exact eight
  · rw [fieldLE_prefix _ _ (by simp), fieldLE_append _ _ (by simp)]
    simpa using two

theorem fieldLE_lt_pow (x : Bytes) (off n : Nat) : fieldLE x off n < 256 ^ n :=
  (leNat_lt _).trans_le (Nat.pow_le_pow_right (by omega) (by simp))

/-! ## What a node sends -/

section
variable {d : Dev} {p : Nat}

/-- The device when a frame has left on one of the four ports. -/
def Dev.sent (d : Dev) (p : Nat) (b : Bytes) : Dev :=
  { d with out := d.out ++ [({ port := p, fcs := true, bytes := b } : Sent)] }.set (Reg.R1410_TX_FRAMES p) (d.reg (Reg.R1410_TX_FRAMES p) + 1)

theorem Dev.send_muted (hp : p < 4) (quiet : ¬(d.link.silent = false ∧ d.state ≠ DevState.failed)) (b : Bytes) : d.send p b = d := by
  have mute : d.mute p = true := by
    by_contra loud
    simp [Dev.mute, hp] at loud
    exact quiet loud
  exact if_pos mute

theorem Dev.send_loud (hp : p < 4) (loud : d.link.silent = false ∧ d.state ≠ DevState.failed) (b : Bytes) : d.send p b = d.sent p b := by
  have mute : d.mute p = false := by simp [Dev.mute, loud.1, loud.2]
  rw [Dev.send, if_neg (by simp [mute]), Dev.when, if_pos (by simpa using hp)]
  rfl

theorem Dev.keeps_sent (d : Dev) (p : Nat) (b : Bytes) : d.Keeps (d.sent p b) [.od] := by
  refine Dev.Keeps.set (e := { d with out := _ }) (fun q hq => ?_) _ _
  cases q <;> rfl

theorem Dev.out_sent (d : Dev) (p : Nat) (b : Bytes) : (d.sent p b).out = d.out ++ [({ port := p, fcs := true, bytes := b } : Sent)] := rfl

theorem Dev.reg_sent (d : Dev) {p k : Nat} (b : Bytes) (h : k ≠ Reg.R1410_TX_FRAMES p) : (d.sent p b).reg k = d.reg k :=
  Dev.reg_set_other _ _ h

end

/-! ## A port's entries -/

theorem odType_ofPort {p : Nat} (h : p < 4) : odType (Reg.R1410_LINK_STATE p) = .u8 ∧ odType (Reg.R1410_RX_DROP_OTHER p) = .u32 ∧
    odType (Reg.R1410_PEER_ID p) = .u16 := by
  revert p
  decide +kernel

/-- The entries of a port that no entry of the log is. -/
abbrev ofPort (p : Nat) : List Nat := [Reg.R1410_LINK_STATE p, Reg.R1410_LINK_DELAY_PS p, Reg.R1410_PEER_ID p]

theorem ofPort_apart {p k : Nat} (h : p < 4) (hk : k ∈ ofPort p) : k ∉ logRegs := by
  have apart : ∀ p < 4, ∀ k ∈ ofPort p, k ∉ logRegs := by decide +kernel
  exact apart p h k hk

/-! ## Links down and up, dropped frames (R299, R300, R334) -/

theorem Dev.linkDownUnit_port {d : Dev} {p : Nat} (hp : p < 4) : d.linkDownUnit p = d.linkDown p := if_pos hp

theorem Dev.ingress_whole {d : Dev} {f : FrameIn} {h : Header} (hears : d.hears f.port = true) (head : d.headerOf f.bytes = some h)
    (fcs : f.fcs = true) : d.ingress f = (some h, d) := by
  simp [Dev.ingress, hears, head, fcs, Dev.when]

theorem Dev.delayRequest_answers {d : Dev} {f : FrameIn} {h : Header} (depart : Nat) (hears : d.hears f.port = true)
    (head : d.headerOf f.bytes = some h) (fcs : f.fcs = true) (request : fieldLE (payloadOf f.bytes) 0 1 = 1) : d.delayRequest f depart =
    d.send f.port (d.delayFrame depart 2 (ns40 (d.ntAt f.raw)) (fieldLE (payloadOf f.bytes) 12 2)) := by
  rw [Dev.delayRequest, Dev.ingress_whole hears head fcs]
  exact if_neg (by simp [fcs, request])

section
variable {s : State} (live : s.Live)
include live

section
variable {p : Nat} (hp : p < 4)
include hp

theorem linkDown_again (down : s.found.nat (Reg.R1410_LINK_STATE p) = 0) : Does (.linkDown p) s fun b a => b.Keeps a [] :=
  (Leaves.dry (l := []) (fun d => d.linkDownUnit p) (live.passesIf (c := p < 7) (by omega)) ((Dev.linkDownUnit_port hp).trans (if_pos down))
    (Dev.Keeps.refl _ _)).unchanged

theorem linkDown_told (up : s.found.nat (Reg.R1410_LINK_STATE p) ≠ 0) : Does (.linkDown p) s fun b a =>
    a.nat (Reg.R1410_LINK_STATE p) = 0 ∧ b.KeepsRegs a (Reg.R1410_LINK_STATE p :: logRegs) ∧
    a.LastRaised Code.LINK_DOWN Kind.port p ∧ b.Keeps a logParts := by
  have keeps : s.found.Keeps ((s.found.set (Reg.R1410_LINK_STATE p) 0).raise Code.LINK_DOWN Kind.port p) logParts :=
    ((Dev.Keeps.refl _ _).set _ _).raise _ _ _ _ _
  have leaves : Leaves (.linkDown p) s ((s.found.set (Reg.R1410_LINK_STATE p) 0).raise Code.LINK_DOWN Kind.port p) :=
    Leaves.dry (fun d => d.linkDownUnit p) (live.passesIf (c := p < 7) (by omega)) ((Dev.linkDownUnit_port hp).trans (if_neg up)) keeps
  refine leaves.does fun pend vecs => ⟨?_, fun k hk => ?_, (Dev.lastRaised_raise _ _ _ _ _ _).told _ _, keeps.told _ _⟩
  · rw [Dev.nat_told, Dev.nat, Dev.reg_raise _ _ _ _ _ _ (ofPort_apart hp (by simp)), Dev.reg_set_same, (odType_ofPort hp).1]
    exact OdType.toNat_wrap_u8 (n := 0) (by omega)
  · obtain ⟨own, log⟩ := not_or.1 (fun h => hk (List.mem_cons.2 h))
    rw [Dev.reg_told, Dev.reg_raise _ _ _ _ _ _ log, Dev.reg_set_other _ _ own]

theorem linkUp_up : Does (.linkUp p) s fun b a =>
    a.nat (Reg.R1410_LINK_STATE p) = 1 ∧ b.KeepsRegs a [Reg.R1410_LINK_STATE p] ∧ b.Keeps a [.od] := by
  have keeps : s.found.Keeps (s.found.linkUp p) [.od] := Dev.keeps_set _ _ _
  refine (Leaves.cell (fun d => d.linkUp p) (live.passesIf hp) rfl keeps).quietly (keeps .event (by decide))
    ⟨?_, fun k hk => Dev.reg_set_other _ _ (by simpa using hk), keeps⟩
  rw [Dev.nat, Dev.linkUp, Dev.reg_set_same, (odType_ofPort hp).1]
  exact OdType.toNat_wrap_u8 (n := 1) (by omega)

end

section
variable {f : FrameIn} (hf : f.port < 4)
include hf

theorem rxDropOther_counts (hears : s.found.hears f.port = true) (other : f.fcs = false ∨ s.found.headerOf f.bytes = none) :
    Does (.rxDropOther f) s fun b a =>
    a.nat (Reg.R1410_RX_DROP_OTHER f.port) = min (b.nat (Reg.R1410_RX_DROP_OTHER f.port) + 1) 0xFFFFFFFF ∧
    b.KeepsRegs a [Reg.R1410_RX_DROP_OTHER f.port] ∧ b.Keeps a [.od] ∧ a.out = [] := by
  have keeps : s.found.Keeps (s.found.count (Reg.R1410_RX_DROP_OTHER f.port)) [.od] := Dev.keeps_set _ _ _
  have leaves : Leaves (.rxDropOther f) s (s.found.count (Reg.R1410_RX_DROP_OTHER f.port)) :=
    Leaves.cell (fun d => d.rxDropOther f) (live.passesIf hf) (if_pos ⟨hears, by simpa using other⟩) keeps
  exact leaves.quietly (keeps .event (by decide)) ⟨Dev.nat_count (odType_ofPort hf).2.1 1,
    fun k hk => Dev.reg_set_other _ _ (by simpa using hk), keeps, rfl⟩

/-! ## Link-delay requests and responses (R324) -/

section
variable {h : Header} (depart : Nat) (hears : s.found.hears f.port = true) (head : s.found.headerOf f.bytes = some h) (fcs : f.fcs = true)
  (request : fieldLE (payloadOf f.bytes) 0 1 = 1)
include hears head fcs request

theorem linkDelayRequest_answered (loud : s.found.link.silent = false ∧ s.found.state ≠ DevState.failed) :
    Does (.linkDelayRequest f depart) s fun b a =>
    (∃ y, a.out = [y] ∧ y.port = f.port ∧ y.fcs = true ∧ fieldLE (payloadOf y.bytes) 0 1 = 2 ∧
      fieldLE (payloadOf y.bytes) 4 8 = ns40 (b.ntAt f.raw) % 2 ^ 64 ∧
      fieldLE (payloadOf y.bytes) 12 2 = fieldLE (payloadOf f.bytes) 12 2) ∧
    b.KeepsRegs a [Reg.R1410_TX_FRAMES f.port] ∧ b.Keeps a [.od] := by
  obtain ⟨reply, made⟩ : ∃ reply, reply = s.found.delayFrame depart 2 (ns40 (s.found.ntAt f.raw)) (fieldLE (payloadOf f.bytes) 12 2) := ⟨_, rfl⟩
  obtain ⟨subtype, t2, number⟩ := s.found.delayFrame_fields depart (ns40 (s.found.ntAt f.raw)) (fieldLE (payloadOf f.bytes) 12 2)
    (show 2 < 256 by omega)
  rw [← made] at subtype t2 number
  rw [Nat.mod_eq_of_lt ((fieldLE_lt_pow _ 12 2).trans_eq (by norm_num))] at number
  have result : s.found.delayRequest f depart = s.found.sent f.port reply := by
    rw [Dev.delayRequest_answers depart hears head fcs request, ← made, Dev.send_loud hf loud]
  have keeps := s.found.keeps_sent f.port reply
  have leaves : Leaves (.linkDelayRequest f depart) s (s.found.sent f.port reply) :=
    Leaves.cell (fun d => d.delayRequest f depart) (live.passesIf hf) result keeps
  exact leaves.quietly (keeps .event (by decide)) ⟨⟨_, Dev.out_sent _ _ _, rfl, rfl, subtype, t2, number⟩,
    fun k hk => Dev.reg_sent _ _ (by simpa using hk), keeps⟩

theorem linkDelayRequest_muted (quiet : ¬(s.found.link.silent = false ∧ s.found.state ≠ DevState.failed)) :
    Does (.linkDelayRequest f depart) s fun b a => a.out = [] ∧ b.Keeps a [] :=
  (Leaves.cell (l := []) (fun d => d.delayRequest f depart) (live.passesIf hf)
    ((Dev.delayRequest_answers depart hears head fcs request).trans (Dev.send_muted hf quiet _)) (Dev.Keeps.refl _ _)).quietly rfl
    ⟨rfl, Dev.Keeps.refl _ _⟩

end

end

end

section
variable {d : Dev} {f : FrameIn} {h : Header} {p : Nat}

theorem Dev.source_headerOf {b : Bytes} (head : d.headerOf b = some h) : h.source < 4096 := by
  unfold Dev.headerOf at head
  simp only at head
  split_ifs at head with bad
  · injection head with head
    subst head
    simp only [not_or, not_le] at bad
    exact bad.2.2.2.2.2.2.2.2.1

theorem Dev.port_modPort (d : Dev) (p : Nat) (g : LinkPort → LinkPort) : (d.modPort p g).port p = g (d.port p) := mget_mset_same _ _ _ _

theorem Dev.port_modPort_other (d : Dev) {p q : Nat} (g : LinkPort → LinkPort) (h : q ≠ p) : (d.modPort p g).port q = d.port q :=
  mget_mset_other _ _ _ _ h

theorem Dev.keeps_link (d : Dev) (x : Link) : d.Keeps { d with link := x } [.link] := by
  intro q hq
  cases q with
  | link => simp at hq
  | _ => rfl

theorem Dev.keeps_modPort (d : Dev) (p : Nat) (g : LinkPort → LinkPort) : d.Keeps (d.modPort p g) [.link] := d.keeps_link _

theorem Dev.reg_modPort (d : Dev) (p : Nat) (g : LinkPort → LinkPort) (k : Nat) : (d.modPort p g).reg k = d.reg k := rfl

theorem Dev.port_set (d : Dev) (k : Nat) (v : Int) (p : Nat) : (d.set k v).port p = d.port p := rfl

/-- The delay of one exchange, and the port with it measured. -/
def Dev.delayTaken (d : Dev) (f : FrameIn) (h : Header) (t1 : Int) : Dev :=
  let x := (d.ntAt f.raw).fdiv (2 ^ 40) - t1 - ((h.depart : Int) - fieldLE (payloadOf f.bytes) 4 8)
  (d.modPort f.port fun q => { q with delays := [x], reqT1 := none }).set (Reg.R1410_LINK_DELAY_PS f.port) (max 0 (x * 500))

/-- The neighbours that a node skipped names (R336). -/
def Dev.bypassSeen (d : Dev) (p source skipped : Nat) : Nat :=
  let here := d.entries.filter fun (_, x) => x.inPort = p
  if here.isEmpty || here.any fun (_, x) => x.delayNode = source then 0 else min 3 skipped

/-- The device with the neighbour that answers shown. -/
def Dev.peerShown (d : Dev) (p source skipped latency : Nat) : Dev :=
  let d := d.set (Reg.R1410_PEER_ID p) source
  let k := d.bypassSeen p source skipped
  (d.set (Reg.R1410_BYPASSED p) k).modPort p fun q => { q with bypNs := if k = 0 then 0 else latency }

theorem divConv_one (a : Int) : divConv a 1 = a := by simp [divConv]

theorem Dev.raised_or_not (c c' : Prop) [Decidable c] [Decidable c'] (e : Dev) {p : Nat} (x y : Nat) :
    (if c then e else if c' then e.raise x Kind.port p else e.raise y Kind.port p) = e ∨
      ∃ code, (if c then e else if c' then e.raise x Kind.port p else e.raise y Kind.port p) = e.raise code Kind.port p := by
  split_ifs
  · exact Or.inl rfl
  · exact Or.inr ⟨x, rfl⟩
  · exact Or.inr ⟨y, rfl⟩

theorem Dev.delayResponse_first {t1 : Int} (skipped latency : Nat) (hears : d.hears f.port = true) (head : d.headerOf f.bytes = some h)
    (fcs : f.fcs = true) (response : fieldLE (payloadOf f.bytes) 0 1 = 2)
    (asked : (d.port f.port).reqT1 = some (fieldLE (payloadOf f.bytes) 12 2, t1)) (first : (d.port f.port).delays = []) :
    ∃ e, e = (d.delayTaken f h t1).peerShown f.port h.source skipped latency ∧
      (d.delayResponse f skipped latency = e ∨ ∃ code, d.delayResponse f skipped latency = e.raise code Kind.port f.port) := by
  refine ⟨_, rfl, ?_⟩
  have form : (!f.fcs || fieldLE (payloadOf f.bytes) 0 1 != 2) = false := by simp [fcs, response]
  have one (x : Int) : divConv ((([x].take 16).sum) * 500) ([x].take 16).length = x * 500 := by simp [divConv_one]
  rw [Dev.delayResponse, Dev.ingress_whole hears head fcs]
  simp only [form, asked, first, one, if_true, Bool.false_eq_true, if_false]
  exact Dev.raised_or_not _ _ _ _ _

theorem Dev.keeps_delayTaken (d : Dev) (f : FrameIn) (h : Header) (t1 : Int) : d.Keeps (d.delayTaken f h t1) (.link :: logParts) :=
  ((d.keeps_modPort _ _).mono (by decide)).set _ _

theorem Dev.keeps_peerShown (d : Dev) (p source skipped latency : Nat) : d.Keeps (d.peerShown p source skipped latency) (.link :: logParts) :=
  (((Dev.Keeps.refl d _).set _ _).set _ _).step (Dev.keeps_modPort _ _ _)

/-- The figures of a port's neighbour, once its answer is taken. -/
theorem Dev.peerShown_spec (hp : p < 4) (d : Dev) {source : Nat} (small : source < 4096) (skipped latency : Nat) :
    (d.peerShown p source skipped latency).reg (Reg.R1410_LINK_DELAY_PS p) = d.reg (Reg.R1410_LINK_DELAY_PS p) ∧
    (d.peerShown p source skipped latency).nat (Reg.R1410_PEER_ID p) = source ∧
    ((d.peerShown p source skipped latency).port p).reqT1 = (d.port p).reqT1 := by
  refine ⟨?_, ?_, ?_⟩
  · rw [Dev.peerShown, Dev.reg_modPort, Dev.reg_set_other _ _ (by simp), Dev.reg_set_other _ _ (by simp)]
  · rw [Dev.nat, Dev.peerShown, Dev.reg_modPort, Dev.reg_set_other _ _ (by simp), Dev.reg_set_same, (odType_ofPort hp).2.2]
    exact OdType.toNat_wrap_u16 (by omega)
  · rw [Dev.peerShown, Dev.port_modPort, Dev.port_set, Dev.port_set]

end

theorem linkDelayResponse_measures {s : State} {f : FrameIn} (live : s.Live) (hf : f.port < 4) {h : Header} {t1 : Int} (skipped latency : Nat)
    (hears : s.found.hears f.port = true) (head : s.found.headerOf f.bytes = some h) (fcs : f.fcs = true)
    (response : fieldLE (payloadOf f.bytes) 0 1 = 2)
    (asked : (s.found.port f.port).reqT1 = some (fieldLE (payloadOf f.bytes) 12 2, t1)) (first : (s.found.port f.port).delays = []) :
    Does (.linkDelayResponse f skipped latency) s fun b a =>
      let turn := (b.ntAt f.raw).fdiv (2 ^ 40) - t1 - ((h.depart : Int) - fieldLE (payloadOf f.bytes) 4 8)
      a.reg (Reg.R1410_LINK_DELAY_PS f.port) = (odType (Reg.R1410_LINK_DELAY_PS f.port)).wrap (max 0 (turn * 500)) ∧
      a.nat (Reg.R1410_PEER_ID f.port) = h.source ∧ (a.port f.port).reqT1 = none := by
  obtain ⟨e, made, result⟩ := Dev.delayResponse_first skipped latency hears head fcs response asked first
  obtain ⟨delay, peer, pending⟩ := (s.found.delayTaken f h t1).peerShown_spec hf (Dev.source_headerOf head) skipped latency
  have keeps : s.found.Keeps e (.link :: logParts) := by
    rw [made]
    exact (Dev.keeps_delayTaken _ _ _ _).step (Dev.keeps_peerShown _ _ _ _ _)
  rw [← made] at delay peer pending
  have delay' : e.reg (Reg.R1410_LINK_DELAY_PS f.port) = (odType (Reg.R1410_LINK_DELAY_PS f.port)).wrap
      (max 0 (((s.found.ntAt f.raw).fdiv (2 ^ 40) - t1 - ((h.depart : Int) - fieldLE (payloadOf f.bytes) 4 8)) * 500)) := by
    rw [delay, Dev.delayTaken, Dev.reg_set_same]
  have pending' : (e.port f.port).reqT1 = none := by rw [pending, Dev.delayTaken, Dev.port_set, Dev.port_modPort]
  rcases result with result | ⟨code, result⟩
  · have leaves : Leaves (.linkDelayResponse f skipped latency) s e :=
      Leaves.dry (fun d => d.delayResponse f skipped latency) (live.passesIf hf) result keeps
    exact leaves.does fun pend vecs => ⟨delay', peer, pending'⟩
  · have leaves : Leaves (.linkDelayResponse f skipped latency) s (e.raise code Kind.port f.port) :=
      Leaves.dry (fun d => d.delayResponse f skipped latency) (live.passesIf hf) result (keeps.raise _ _ _ _ _)
    have link : (e.raise code Kind.port f.port).link = e.link := (e.keeps_raise _ _ _ _ _) .link (by decide)
    have port : (e.raise code Kind.port f.port).port f.port = e.port f.port := by rw [Dev.port, link, ← Dev.port]
    refine leaves.does fun pend vecs => ⟨?_, ?_, ?_⟩
    · rw [Dev.reg_told, Dev.reg_raise _ _ _ _ _ _ (ofPort_apart hf (by simp)), delay']
    · rw [Dev.nat_told, Dev.nat, Dev.reg_raise _ _ _ _ _ _ (ofPort_apart hf (by simp)), ← Dev.nat, peer]
    · exact (congrArg LinkPort.reqT1 port).trans pending'

/-! ## The link window (R324) -/

section
variable {d e f : Dev} {off p : Nat}

/-- Whether the node's frames leave it (R13, R416). -/
abbrev Dev.Loud (d : Dev) : Prop := d.link.silent = false ∧ d.state ≠ DevState.failed

/-- The number of a port's next request. -/
abbrev Dev.nextAsk (d : Dev) (p : Nat) : Nat := ((d.port p).reqSeq + 1) % 65536

/-- A port with its request noted, `off` ns after the SI. -/
def Dev.asking (d : Dev) (off p : Nat) : Dev :=
  d.modPort p fun x => { x with reqSeq := d.nextAsk p, reqT1 := some (d.nextAsk p, (d.ntAt (d.clk.raw + off)).fdiv (2 ^ 40)) }

/-- What the link window does at one port. -/
def Dev.askOn (d : Dev) (off p : Nat) : Dev :=
  if d.hears p = true then (d.asking off p).send p ((d.asking off p).delayFrame (d.clk.raw + off) 1 0 (d.nextAsk p)) else d

theorem Dev.linkWindow_eq (d : Dev) (off : Nat) : d.linkWindow off = iterate 4 (fun p d => d.askOn off p) (d.at off) := by
  refine congrArg (fun g => iterate 4 g (d.at off)) (funext fun p => funext fun d => ?_)
  rw [Dev.askOn]
  cases d.hears p <;> rfl

/-- What requests on some ports leave alone. -/
structure Dev.Asks (d e : Dev) (ports : List Nat) : Prop where
  keeps : d.Keeps e [.od, .link]
  hears : ∀ q < 4, e.hears q = d.hears q
  loud : e.Loud ↔ d.Loud
  port : ∀ q, q ∉ ports → e.port q = d.port q
  out : ∃ l, e.out = d.out ++ l
  quiet : ¬d.Loud → e.out = d.out

theorem Dev.Asks.refl (d : Dev) (l : List Nat) : d.Asks d l :=
  ⟨Dev.Keeps.refl d _, fun _ _ => rfl, Iff.rfl, fun _ _ => rfl, ⟨[], by simp⟩, fun _ => rfl⟩

theorem Dev.Asks.trans {l m : List Nat} (h : d.Asks e l) (g : e.Asks f m) : d.Asks f (l ++ m) := by
  obtain ⟨a, ha⟩ := h.out
  obtain ⟨b, hb⟩ := g.out
  refine ⟨h.keeps.andThen g.keeps, fun q hq => (g.hears q hq).trans (h.hears q hq), g.loud.trans h.loud, fun q hq => ?_,
    ⟨a ++ b, by rw [hb, ha, List.append_assoc]⟩, fun quiet => (g.quiet fun loud => quiet (h.loud.1 loud)).trans (h.quiet quiet)⟩
  rw [List.mem_append, not_or] at hq
  exact (g.port q hq.2).trans (h.port q hq.1)

theorem Dev.asks_asking (d : Dev) (off p : Nat) : d.Asks (d.asking off p) [p] :=
  ⟨(d.keeps_modPort _ _).mono (by decide), fun _ _ => rfl, Iff.rfl, fun _ hq => d.port_modPort_other _ (by simpa using hq),
    ⟨[], (List.append_nil _).symm⟩, fun _ => rfl⟩

theorem Dev.asks_sent (hp : p < 4) (loud : d.Loud) (b : Bytes) : d.Asks (d.sent p b) [p] := by
  have apart : ∀ p < 4, Reg.R1001_DEV_STATE ≠ Reg.R1410_TX_FRAMES p ∧ act Reg.R1400_NODE_ID ≠ Reg.R1410_TX_FRAMES p ∧
      ∀ q < 4, Reg.R1410_LINK_STATE q ≠ Reg.R1410_TX_FRAMES p := by decide
  obtain ⟨state, node, link⟩ := apart p hp
  have same {k : Nat} (h : k ≠ Reg.R1410_TX_FRAMES p) : (d.sent p b).nat k = d.nat k := congrArg Int.toNat (d.reg_sent b h)
  have loud' : (d.sent p b).Loud := ⟨loud.1, by rw [Dev.state, same state]; exact loud.2⟩
  refine ⟨(d.keeps_sent p b).mono (by decide), fun q hq => ?_, iff_of_true loud' loud, fun _ _ => rfl, ⟨_, d.out_sent p b⟩,
    fun quiet => absurd loud quiet⟩
  rw [Dev.hears, Dev.hears, Dev.node, same node, same (link q hq)]
  rfl

theorem Dev.asks_askOn (hp : p < 4) : d.Asks (d.askOn off p) [p] := by
  unfold Dev.askOn
  split_ifs
  · have asking := d.asks_asking off p
    by_cases loud : d.Loud
    · rw [Dev.send_loud hp (asking.loud.2 loud)]
      have both := asking.trans (Dev.asks_sent hp (asking.loud.2 loud) ((d.asking off p).delayFrame (d.clk.raw + off) 1 0 (d.nextAsk p)))
      exact ⟨both.keeps, both.hears, both.loud, fun q hq => both.port q (by simpa using hq), both.out, both.quiet⟩
    · rw [Dev.send_muted hp fun l => loud (asking.loud.1 l)]
      exact asking
  · exact Dev.Asks.refl d _

theorem Dev.asks_each (l : List Nat) (hl : ∀ p ∈ l, p < 4) (d : Dev) : d.Asks (l.foldl (fun d p => d.askOn off p) d) l := by
  induction l generalizing d with
  | nil => exact Dev.Asks.refl d _
  | cons p l ih => exact (Dev.asks_askOn (hl p (by simp))).trans (ih (fun q hq => hl q (by simp [hq])) _)

/-- A port that hears asks: its request is noted and, unless the node is mute, sent. -/
theorem Dev.askOn_spec (hp : p < 4) (hears : d.hears p = true) :
    ((d.askOn off p).port p).reqSeq = d.nextAsk p ∧
    ((d.askOn off p).port p).reqT1 = some (d.nextAsk p, (d.ntAt (d.clk.raw + off)).fdiv (2 ^ 40)) ∧
    (d.Loud → ∃ y ∈ (d.askOn off p).out, y.port = p ∧ fieldLE (payloadOf y.bytes) 0 1 = 1 ∧ fieldLE (payloadOf y.bytes) 12 2 = d.nextAsk p) := by
  obtain ⟨b, made⟩ : ∃ b, b = (d.asking off p).delayFrame (d.clk.raw + off) 1 0 (d.nextAsk p) := ⟨_, rfl⟩
  obtain ⟨subtype, -, number⟩ := (d.asking off p).delayFrame_fields (d.clk.raw + off) 0 (d.nextAsk p) (show 1 < 256 by omega)
  rw [← made] at subtype number
  have small : d.nextAsk p < 2 ^ 16 := Nat.mod_lt _ (by omega)
  have asking := d.asks_asking off p
  have port : (d.askOn off p).port p = (d.asking off p).port p := by
    rw [Dev.askOn, if_pos hears, ← made]
    by_cases loud : d.Loud
    · rw [Dev.send_loud hp (asking.loud.2 loud)]
      rfl
    · rw [Dev.send_muted hp fun l => loud (asking.loud.1 l)]
  rw [port, Dev.asking, Dev.port_modPort]
  refine ⟨rfl, rfl, fun loud => ⟨{ port := p, fcs := true, bytes := b }, ?_, rfl, subtype, number.trans (Nat.mod_eq_of_lt small)⟩⟩
  rw [Dev.askOn, if_pos hears, ← made, Dev.send_loud hp (asking.loud.2 loud), Dev.out_sent]
  exact List.mem_append_right _ (by simp)

end

section
variable {s : State} {p off : Nat} (live : s.Live)
include live

theorem linkWindow_silent (deaf : ∀ i < 4, s.found.hears i = false) : Does (.linkWindow off) s fun b a => a.out = [] ∧ b.Keeps a [.ph] := by
  have stay (i : Nat) (hi : i < 4) : (s.found.at off).askOn off i = s.found.at off := by
    have closed : (s.found.at off).hears i = false := deaf i hi
    rw [Dev.askOn, if_neg (by simp [closed])]
  have result : s.found.linkWindow off = s.found.at off := by
    rw [Dev.linkWindow_eq]
    change Dev.askOn (Dev.askOn (Dev.askOn (Dev.askOn _ _ 0) _ 1) _ 2) _ 3 = _
    rw [stay 0 (by omega), stay 1 (by omega), stay 2 (by omega), stay 3 (by omega)]
  have keeps := s.found.keeps_at off
  exact (Leaves.dry (fun d => d.linkWindow off) live.passes result keeps).quietly rfl ⟨rfl, keeps⟩

theorem linkWindow_asks (hp : p < 4) (hears : s.found.hears p = true) : Does (.linkWindow off) s fun b a =>
    (a.port p).reqSeq = b.nextAsk p ∧ (a.port p).reqT1 = some (b.nextAsk p, (b.ntAt (b.clk.raw + off)).fdiv (2 ^ 40)) ∧
    (b.Loud → ∃ y ∈ a.out, y.port = p ∧ fieldLE (payloadOf y.bytes) 0 1 = 1 ∧ fieldLE (payloadOf y.bytes) 12 2 = b.nextAsk p) ∧
    (¬b.Loud → a.out = []) := by
  obtain ⟨before, after, split⟩ := List.append_of_mem (List.mem_range.2 hp)
  have distinct : (before ++ p :: after).Nodup := split ▸ List.nodup_range
  have apart : p ∉ before ∧ p ∉ after := by
    rw [List.nodup_append, List.nodup_cons] at distinct
    exact ⟨fun h => distinct.2.2 p h p (by simp) rfl, distinct.2.1.1⟩
  have small : ∀ q ∈ before ++ p :: after, q < 4 := fun q hq => List.mem_range.1 (split ▸ hq)
  obtain ⟨b0, h0⟩ : ∃ b0, b0 = before.foldl (fun d p => d.askOn off p) (s.found.at off) := ⟨_, rfl⟩
  obtain ⟨a0, h1⟩ : ∃ a0, a0 = after.foldl (fun d p => d.askOn off p) (b0.askOn off p) := ⟨_, rfl⟩
  have result : s.found.linkWindow off = a0 := by
    rw [Dev.linkWindow_eq, iterate, split, List.foldl_append, List.foldl_cons, h1, h0]
  have first : (s.found.at off).Asks b0 before := h0 ▸ Dev.asks_each before (fun q hq => small q (by simp [hq])) _
  have own : b0.Asks (b0.askOn off p) [p] := Dev.asks_askOn hp
  have last : (b0.askOn off p).Asks a0 after := h1 ▸ Dev.asks_each after (fun q hq => small q (by simp [hq])) _
  have all := (first.trans own).trans last
  obtain ⟨seq, sent, frame⟩ := Dev.askOn_spec (off := off) hp ((first.hears p hp).trans hears)
  have next : b0.nextAsk p = s.found.nextAsk p := by rw [Dev.nextAsk, first.port p apart.1]; rfl
  have clk : b0.clk = s.found.clk := first.keeps .clk (by decide)
  have time : b0.ntAt (b0.clk.raw + off) = s.found.ntAt (s.found.clk.raw + off) := by rw [Dev.ntAt, clk, ← Dev.ntAt]
  have port : a0.port p = (b0.askOn off p).port p := last.port p apart.2
  have keeps : s.found.Keeps a0 [.ph, .od, .link] := ((s.found.keeps_at off).mono (by decide)).step all.keeps
  have leaves : Leaves (.linkWindow off) s a0 := Leaves.dry (fun d => d.linkWindow off) live.passes result keeps
  rw [next] at seq sent frame
  rw [time] at sent
  refine leaves.quietly (keeps .event (by decide)) ⟨port ▸ seq, port ▸ sent, fun loud => ?_, fun quiet => all.quiet quiet⟩
  obtain ⟨y, mem, shows⟩ := frame (first.loud.2 loud)
  obtain ⟨l, out⟩ := last.out
  exact ⟨y, by rw [out]; exact List.mem_append_left _ mem, shows⟩

end

/-! ## A port that hears nothing -/

section
variable {d : Dev} {f : FrameIn} (deaf : d.hears f.port = false)
include deaf

theorem Dev.ingress_deaf : d.ingress f = (none, d) := by simp [Dev.ingress, deaf]

theorem Dev.arrive_deaf : d.arrive f = (none, [], d) := by rw [Dev.arrive, Dev.ingress_deaf deaf]

theorem Dev.syncFrame_deaf : d.syncFrame f = d := by rw [Dev.syncFrame, Dev.ingress_deaf deaf]

theorem Dev.coldstartFrame_deaf : d.coldstartFrame f = d := by rw [Dev.coldstartFrame, Dev.ingress_deaf deaf]

theorem Dev.cyclicFrame_deaf : d.cyclicFrame f = d := by rw [Dev.cyclicFrame, Dev.arrive_deaf deaf]

theorem Dev.gatherFrame_deaf : d.gatherFrame f = d := by rw [Dev.gatherFrame, Dev.ingress_deaf deaf]

theorem Dev.acyclicFrame_deaf : d.acyclicFrame f = d := by rw [Dev.acyclicFrame, Dev.arrive_deaf deaf]

theorem Dev.safetyFrame_deaf : d.safetyFrame f = d := by rw [Dev.safetyFrame, Dev.arrive_deaf deaf]

theorem Dev.rxDropOther_deaf : d.rxDropOther f = d := if_neg (by simp [deaf])

theorem Dev.delayRequest_deaf (depart : Nat) : d.delayRequest f depart = d := by rw [Dev.delayRequest, Dev.ingress_deaf deaf]

theorem Dev.delayResponse_deaf (skipped latency : Nat) : d.delayResponse f skipped latency = d := by
  rw [Dev.delayResponse, Dev.ingress_deaf deaf]

end

theorem Dev.grantDue_single {d : Dev} (single : d.pairMode ≠ 2) : d.grantDue = d := if_neg (by simp [single])

/-- A frame at a port that hears nothing does nothing. -/
theorem frame_deaf {s : State} {f : FrameIn} (live : s.Live) (hf : f.port < 4) (deaf : s.found.hears f.port = false)
    (single : s.found.pairMode ≠ 2) (ok : s.ClockOk) : ∀ i ∈ [Instr.syncFrame f, .coldstartFrame f, .cyclicFrame f, .gatherFrame f,
      .acyclicFrame f, .safetyFrame f, .rxDropOther f, .linkDelayRequest f 0, .linkDelayResponse f 0 0],
    Leaves i s s.found := by
  have dry {i : Instr} (g : Dev → Dev) (result : g s.found = s.found)
      (hi : exec i s = s.answerDry fun d => d.liveIf (f.port < 4) g) : Leaves i s s.found :=
    Leaves.dry (l := []) g (live.passesIf hf) result (Dev.Keeps.refl _ _) (by simp) hi
  have cell {i : Instr} (g : Dev → Dev) (result : g s.found = s.found)
      (hi : exec i s = s.answerCell fun d => d.liveIf (f.port < 4) g) : Leaves i s s.found :=
    Leaves.cell (l := []) g (live.passesIf hf) result (Dev.Keeps.refl _ _) (by simp) hi
  have clocked {i : Instr} (g : Dev → Dev) (result : g s.found = s.found)
      (hi : exec i s = s.answerClk fun d => d.liveIf (f.port < 4) g) : Leaves i s s.found :=
    Leaves.clocked g (live.passesIf hf) result ok.1 ok.2 hi
  simp only [List.forall_mem_cons, List.not_mem_nil, false_imp_iff, implies_true, and_true]
  refine ⟨clocked (fun d => d.syncFrame f) (Dev.syncFrame_deaf deaf) rfl,
    clocked (fun d => d.coldstartFrame f) (Dev.coldstartFrame_deaf deaf) rfl,
    dry (fun d => (d.cyclicFrame f).grantDue) ?_ rfl, dry (fun d => (d.gatherFrame f).grantDue) ?_ rfl,
    clocked (fun d => d.acyclicFrame f) (Dev.acyclicFrame_deaf deaf) rfl,
    dry (fun d => d.safetyFrame f) (Dev.safetyFrame_deaf deaf) rfl, cell (fun d => d.rxDropOther f) (Dev.rxDropOther_deaf deaf) rfl,
    cell (fun d => d.delayRequest f 0) (Dev.delayRequest_deaf deaf 0) rfl,
    dry (fun d => d.delayResponse f 0 0) (Dev.delayResponse_deaf deaf 0 0) rfl⟩
  · rw [Dev.cyclicFrame_deaf deaf, Dev.grantDue_single single]
  · rw [Dev.gatherFrame_deaf deaf, Dev.grantDue_single single]

/-- Settles O41: what a port sends, hears and measures is of that port alone, and a node that is mute sends nothing. -/
theorem linksAndDelays : Obligations.LinksAndDelays := by
  unfold Obligations.LinksAndDelays
  intro s f p live hf hp
  refine ⟨linkDown_told live hp, linkDown_again live hp, linkUp_up live hp, rxDropOther_counts live hf, fun h depart hears head fcs request => ?_,
    fun h t1 skipped latency hears head fcs => linkDelayResponse_measures live hf skipped latency hears head fcs,
    fun off => ⟨linkWindow_asks live hp, linkWindow_silent live⟩, fun deaf single i hi ok => ?_⟩
  · exact ⟨linkDelayRequest_answered live hf depart hears head fcs request, linkDelayRequest_muted live hf depart hears head fcs request⟩
  · exact (frame_deaf live hf deaf single ok i hi).quietly rfl ⟨Dev.Keeps.refl _ _, rfl⟩

end Sys2Proof.Machine
end

section
/-! # PTP on the host ports, and snapshots (R350, R352 to R355, R364) -/

/-! ## Fields of a message, most significant byte first -/

namespace Sys2Proof.Machine

theorem slice_append (a x : Bytes) {i : Nat} (n : Nat) (h : a.length ≤ i) : slice (a ++ x) i n = slice x (i - a.length) n := by
  rw [slice, slice, List.drop_append, List.drop_eq_nil_of_le h, List.nil_append]

theorem slice_prefix (x z : Bytes) {i n : Nat} (h : i + n ≤ x.length) : slice (x ++ z) i n = slice x i n := by
  rw [slice, slice, List.drop_append_of_le_length (by omega), List.take_append_of_le_length (by simp; omega)]

theorem slice_whole (x : Bytes) : slice x 0 x.length = x := by simp [slice]

theorem beNat_beBytes (n v : Nat) : beNat (beBytes n v) = v % 256 ^ n := by
  rw [beNat, beBytes, List.reverse_reverse, leNat_leBytes]

theorem fieldBE_beBytes (n v : Nat) : fieldBE (beBytes n v) 0 n = v % 256 ^ n := by
  have whole := slice_whole (beBytes n v)
  rw [length_beBytes] at whole
  rw [fieldBE, whole, beNat_beBytes]

theorem fieldBE_append (a x : Bytes) {i : Nat} (n : Nat) (h : a.length ≤ i) : fieldBE (a ++ x) i n = fieldBE x (i - a.length) n := by
  rw [fieldBE, fieldBE, slice_append a x n h]

theorem fieldBE_prefix (x z : Bytes) {i n : Nat} (h : i + n ≤ x.length) : fieldBE (x ++ z) i n = fieldBE x i n := by
  rw [fieldBE, fieldBE, slice_prefix x z h]

theorem length_slice (x : Bytes) (i n : Nat) : (slice x i n).length = n := by
  simp [slice]

theorem fieldBE_lt (x : Bytes) (i n : Nat) : fieldBE x i n < 256 ^ n := by
  have h := leNat_lt (slice x i n).reverse
  rw [List.length_reverse, length_slice] at h
  exact h

/-- The first 34 bytes of a message of this clock. -/
def Dev.ptpHead (d : Dev) (p type len : Nat) (corr : Int) (seq : Nat) (logI : Int) : Bytes :=
  ([byte type, byte 0x12] ++ beBytes 2 len ++ [byte (d.nat (act Reg.R1180_DOMAIN_NUMBER)), 0, 0, 0] ++
    beBytes 8 (toU 64 (corr.fdiv (2 ^ 24))) ++ [0, 0, 0, 0] ++ beBytes 8 (Config.clockIdentity 0) ++ beBytes 2 (p + 1)) ++
    (beBytes 2 seq ++ [0, byte (toU 8 logI)])

section
variable (d : Dev) (p : Nat) {type : Nat} (len : Nat) (corr : Int) (seq : Nat) (logI : Int) (body : Bytes)

theorem Dev.ptpMessage_eq : d.ptpMessage p type len corr seq logI body =
    d.ptpHead p type len corr seq logI ++ slice body 0 (len - 34) := by
  simp only [Dev.ptpMessage, Dev.ptpHead, List.append_assoc]

theorem Dev.length_ptpHead : (d.ptpHead p type len corr seq logI).length = 34 := by simp [Dev.ptpHead]

/-- The type, the number and the body of a message of this clock. -/
theorem Dev.ptpMessage_fields (small : type < 16) :
    ptpType (d.ptpMessage p type len corr seq logI body) = type ∧ ptpSeq (d.ptpMessage p type len corr seq logI body) = seq % 65536 ∧
    ∀ i n, i + n ≤ len - 34 → slice (d.ptpMessage p type len corr seq logI body) (34 + i) n = slice (slice body 0 (len - 34)) i n := by
  have size := d.length_ptpHead p (type := type) len corr seq logI
  rw [Dev.ptpMessage_eq]
  refine ⟨?_, ?_, fun i n _ => ?_⟩
  · rw [ptpType, fieldBE_prefix _ _ (by omega), Dev.ptpHead, fieldBE_prefix _ _ (by simp)]
    simp [fieldBE, slice, beNat, leNat, byte]
    omega
  · rw [ptpSeq, fieldBE_prefix _ _ (by omega), Dev.ptpHead, fieldBE_append _ _ _ (by simp), fieldBE_prefix _ _ (by simp)]
    simpa using fieldBE_beBytes 2 seq
  · rw [slice_append _ _ _ (by omega), size, Nat.add_sub_cancel_left]

end

end Sys2Proof.Machine
end

section
/-! ## Ports and what they send -/

namespace Sys2Proof.Machine

theorem odType_ofPtp {p : Nat} (h : p < 2) : odType (Reg.R1190_PORT_STATE p) = .u8 ∧ odType (Reg.R1190_DROPPED p) = .u32 ∧
    Reg.R1190_PORT_STATE p ∉ Reg.R1150_LAST_CODE :: logRegs := by
  revert p
  decide +kernel

section
variable {d e : Dev} {p : Nat}

theorem Dev.keeps_ptp (d : Dev) (x : Map PtpPort) : d.Keeps { d with ptp := x } [.ptp] := by
  intro q hq
  cases q with
  | ptp => simp at hq
  | _ => rfl

theorem Dev.keeps_modPtp (d : Dev) (p : Nat) (g : PtpPort → PtpPort) : d.Keeps (d.modPtp p g) [.ptp] := d.keeps_ptp _

theorem Dev.ptpPort_modPtp (d : Dev) (p : Nat) (g : PtpPort → PtpPort) : (d.modPtp p g).ptpPort p = g (d.ptpPort p) := mget_mset_same _ _ _ _

theorem Dev.ptpPort_modPtp_other (d : Dev) {p q : Nat} (g : PtpPort → PtpPort) (h : q ≠ p) : (d.modPtp p g).ptpPort q = d.ptpPort q :=
  mget_mset_other _ _ _ _ h

theorem Dev.ptpPort_congr (h : e.ptp = d.ptp) (p : Nat) : e.ptpPort p = d.ptpPort p := by rw [Dev.ptpPort, h, ← Dev.ptpPort]

theorem Dev.ptpPort_set (d : Dev) (k : Nat) (v : Int) (p : Nat) : (d.set k v).ptpPort p = d.ptpPort p := rfl

theorem Dev.ptpOn_congr (mode : e.reg (act Reg.R1180_PTP_MODE) = d.reg (act Reg.R1180_PTP_MODE))
    (port : e.reg (act (Reg.R1190_PORT_EN p)) = d.reg (act (Reg.R1190_PORT_EN p))) : e.ptpOn p = d.ptpOn p := by
  simp only [Dev.ptpOn, Dev.nat, Dev.flag, mode, port]

theorem Dev.ptpFrame_congr (h : e.od = d.od) (p : Nat) (m : Bytes) : e.ptpFrame p m = d.ptpFrame p m := by
  simp only [Dev.ptpFrame, Dev.nat_congr h]

/-- The device when a frame has left on a host port. -/
def Dev.hostSent (d : Dev) (p : Nat) (b : Bytes) : Dev := { d with out := d.out ++ [({ port := 7 + p, fcs := true, bytes := b } : Sent)] }

theorem Dev.ptpSend_eq (d : Dev) (p : Nat) (m : Bytes) : d.ptpSend p m = d.hostSent p (d.ptpFrame p m) := by
  have port : decide (7 + p < 4) = false := decide_eq_false (by omega)
  rw [Dev.ptpSend, Dev.send, if_neg (by simp [Dev.mute, port]), Dev.when, if_neg (by simp [port])]
  rfl

theorem Dev.keeps_hostSent (d : Dev) (p : Nat) (b : Bytes) : d.Keeps (d.hostSent p b) [] := by
  intro q _
  cases q <;> rfl

/-- One frame with one message of this type and number leaves on a host port. -/
def Dev.Tells (b a : Dev) (p type seq : Nat) (P : Bytes → Prop) : Prop :=
  ∃ y r, a.out = [y] ∧ y.port = 7 + p ∧ y.fcs = true ∧ y.bytes = b.ptpFrame p r ∧ ptpType r = type ∧ ptpSeq r = seq ∧ P r

theorem Dev.tells_ptpSend {r : Bytes} {type seq : Nat} {P : Bytes → Prop} (od : e.od = d.od) (none : e.out = []) (kind : ptpType r = type)
    (number : ptpSeq r = seq) (holds : P r) : d.Tells (e.ptpSend p r) p type seq P :=
  ⟨{ port := 7 + p, fcs := true, bytes := e.ptpFrame p r }, r, by rw [Dev.ptpSend_eq, Dev.hostSent, none, List.nil_append], rfl, rfl,
    Dev.ptpFrame_congr od p r, kind, number, holds⟩

end

end Sys2Proof.Machine
end

section
/-! ## Snapshots, dropped messages and a port without the service (R352, R353) -/

namespace Sys2Proof.Machine

section
variable {s : State}

theorem timeSnapshot_shows (up : s.Up) : Does .timeSnapshot s fun b a =>
    a.reg Reg.R1140_SNAP_RAW = (odType Reg.R1140_SNAP_RAW).wrap b.rawNow ∧
    a.reg Reg.R1140_SNAP_NT = (odType Reg.R1140_SNAP_NT).wrap (time40 (b.ntAt b.rawNow)) ∧
    a.reg Reg.R1140_SNAP_WT = (odType Reg.R1140_SNAP_WT).wrap (time40 (b.wtAt b.rawNow)) ∧
    b.KeepsRegs a [Reg.R1140_SNAP_RAW, Reg.R1140_SNAP_NT, Reg.R1140_SNAP_WT] ∧ b.Keeps a [.od, .done] := by
  have keeps : s.found.Keeps s.found.timeSnapshot [.od, .done] := ((((Dev.Keeps.refl _ _).set _ _).set _ _).set _ _).finish _
  have regs : s.found.KeepsRegs s.found.timeSnapshot [Reg.R1140_SNAP_RAW, Reg.R1140_SNAP_NT, Reg.R1140_SNAP_WT] :=
    (Dev.keepsRegs_set _ _ _).trans ((Dev.keepsRegs_set _ _ _).trans (Dev.keepsRegs_set _ _ _))
  refine (Leaves.cell (fun d => d.timeSnapshot) up.passes rfl keeps).quietly (keeps .event (by decide)) ⟨?_, ?_, ?_, regs, keeps⟩
  · rw [Dev.timeSnapshot, Dev.reg_finish, Dev.reg_set_other _ _ (by decide), Dev.reg_set_other _ _ (by decide), Dev.reg_set_same]
  · rw [Dev.timeSnapshot, Dev.reg_finish, Dev.reg_set_other _ _ (by decide), Dev.reg_set_same]
    rfl
  · rw [Dev.timeSnapshot, Dev.reg_finish, Dev.reg_set_same]

variable {p : Nat} (live : s.Live) (hp : p < 2)
include live hp

theorem ptpDelayReq_counts (on : s.found.ptpOn p = true) : Does (.ptpDelayReq p) s fun b a =>
    a.nat (Reg.R1190_DROPPED p) = min (b.nat (Reg.R1190_DROPPED p) + 1) 0xFFFFFFFF ∧
    b.KeepsRegs a [Reg.R1190_DROPPED p] ∧ b.Keeps a [.od] := by
  have keeps : s.found.Keeps (s.found.count (Reg.R1190_DROPPED p)) [.od] := Dev.keeps_set _ _ _
  have leaves : Leaves (.ptpDelayReq p) s (s.found.count (Reg.R1190_DROPPED p)) :=
    Leaves.cell (fun d => d.ptpDelayReq p) (live.passesIf hp) (by rw [Dev.ptpDelayReq, Dev.when, if_pos on]) keeps
  exact leaves.quietly (keeps .event (by decide)) ⟨Dev.nat_count_same _ (odType_ofPtp hp).2.1, Dev.keepsRegs_set _ _ _, keeps⟩

/-- A port without the service takes, sends and counts nothing. -/
theorem ptp_off (raw : Nat) (m : Bytes) (off : s.found.ptpOn p = false) : ∀ i ∈ [Instr.ptpSync p raw m, .ptpFollowUp p m,
    .ptpPdelayReq p raw m raw, .ptpPdelayResp p raw m, .ptpPdelayRespFollowUp p m, .ptpAnnounce p m, .ptpDelayReq p, .ptpSyncTransmit p raw,
    .ptpPdelayReqTransmit p raw, .ptpAnnounceTransmit p, .announceReceiptTimeout p], Leaves i s s.found := by
  have dry {i : Instr} (g : Dev → Dev) (result : g s.found = s.found)
      (hi : exec i s = s.answerDry fun d => d.liveIf (p < 2) g) : Leaves i s s.found :=
    Leaves.dry (l := []) g (live.passesIf hp) result (Dev.Keeps.refl _ _) (by simp) hi
  have cell {i : Instr} (g : Dev → Dev) (result : g s.found = s.found)
      (hi : exec i s = s.answerCell fun d => d.liveIf (p < 2) g) : Leaves i s s.found :=
    Leaves.cell (l := []) g (live.passesIf hp) result (Dev.Keeps.refl _ _) (by simp) hi
  have takes : s.found.ptpTakes p m = false := by simp [Dev.ptpTakes, off]
  have deaf : ¬(s.found.ptpTakes p m = true) := by simp [takes]
  have mute : ¬(s.found.ptpOn p = true) := by simp [off]
  simp only [List.forall_mem_cons, List.not_mem_nil, false_imp_iff, implies_true, and_true]
  exact ⟨dry (fun d => d.ptpSync p raw m) (if_pos (Or.inl deaf)) rfl, dry (fun d => d.ptpFollowUp p m) (if_pos (Or.inl deaf)) rfl,
    cell (fun d => d.ptpPdelayReq p raw m raw) (if_pos (Or.inl deaf)) rfl,
    dry (fun d => d.ptpPdelayResp p raw m) (if_pos (Or.inl deaf)) rfl,
    dry (fun d => d.ptpPdelayRespFollowUp p m) (if_pos (Or.inl deaf)) rfl, dry (fun d => d.ptpAnnounce p m) (if_pos (Or.inl deaf)) rfl,
    cell (fun d => d.ptpDelayReq p) (if_neg mute) rfl, dry (fun d => d.ptpSyncTransmit p raw) (if_pos (Or.inl mute)) rfl,
    dry (fun d => d.ptpPdelayReqTransmit p raw) (if_pos (by simp [off])) rfl,
    dry (fun d => d.ptpAnnounceTransmit p) (if_pos (Or.inl mute)) rfl,
    dry (fun d => d.announceTimeout p) (if_pos (by simp [off])) rfl⟩

end

end Sys2Proof.Machine
end

section
/-! ## PTP_MODE (R364) -/

namespace Sys2Proof.Machine

/-- The settings that take effect with PTP_MODE. -/
def ptpSettings : List Nat := [Reg.R1180_PTP_MODE, Reg.R1180_DOMAIN_NUMBER, Reg.R1180_PRIORITY1, Reg.R1180_PRIORITY2,
  Reg.R1180_CLOCK_CLASS, Reg.R1180_SLAVE_ONLY, Reg.R1180_TRANSPORT, Reg.R1180_LOG_SYNC, Reg.R1180_STEP_LIMIT_NS] ++
  (List.range 2).flatMap fun p => [Reg.R1190_PORT_EN p, Reg.R1190_INGRESS_LAT_PS p, Reg.R1190_EGRESS_LAT_PS p,
    Reg.R1190_DELAY_ASYM_PS p]

/-- The settings in force. -/
def Dev.ptpSet (d : Dev) (mode : Nat) : Dev := each ptpSettings (fun k d => d.set (act k) (d.reg k)) (d.set Reg.R1180_PTP_MODE mode)

/-- A port with nothing heard and nothing asked. -/
def PtpPort.fresh (x : PtpPort) : PtpPort := { x with best := none, heard := none, syncs := none, pdAsk := none, pdWait := none }

/-- A port that begins. -/
def Dev.ptpBegun (d : Dev) (p : Nat) : Dev :=
  (d.modPtp p PtpPort.fresh).set (Reg.R1190_PORT_STATE p) (if d.ptpOn p then PortState.listening else 0)

/-- Both ports begun. -/
def Dev.ptpModed (d : Dev) (mode : Nat) : Dev := ((d.ptpSet mode).ptpBegun 0).ptpBegun 1

section
variable {d : Dev} {mode : Nat}

theorem Dev.ptpMode_eq (h : mode ≤ 2) : d.ptpMode mode = (d.ptpModed mode).finish Code.STATUS_OK := if_neg (by omega)

theorem Dev.keeps_ptpSet (d : Dev) (mode : Nat) : d.Keeps (d.ptpSet mode) [.od] :=
  (Dev.keeps_set _ _ _).andThen (Dev.Keeps.each _ _ (fun _ d => d.keeps_set _ _) _)

theorem Dev.keeps_ptpBegun (d : Dev) (p : Nat) : d.Keeps (d.ptpBegun p) [.od, .ptp] := ((d.keeps_modPtp _ _).mono (by decide)).set _ _

theorem Dev.keeps_ptpModed (d : Dev) (mode : Nat) : d.Keeps (d.ptpModed mode) [.od, .ptp] :=
  (((d.keeps_ptpSet mode).mono (by decide)).step (Dev.keeps_ptpBegun _ _)).step (Dev.keeps_ptpBegun _ _)

theorem Dev.reg_ptpBegun (d : Dev) {p k : Nat} (h : k ≠ Reg.R1190_PORT_STATE p) : (d.ptpBegun p).reg k = d.reg k := Dev.reg_set_other _ _ h

theorem Dev.reg_ptpModed (d : Dev) (mode : Nat) {k : Nat} (h : ∀ p < 2, k ≠ Reg.R1190_PORT_STATE p) :
    (d.ptpModed mode).reg k = (d.ptpSet mode).reg k :=
  (Dev.reg_ptpBegun _ (h 1 (by omega))).trans (Dev.reg_ptpBegun _ (h 0 (by omega)))

theorem Dev.ptpOn_ptpBegun (d : Dev) {p : Nat} (hp : p < 2) {q : Nat} (hq : q < 2) : (d.ptpBegun p).ptpOn q = d.ptpOn q := by
  have apart : ∀ p < 2, ∀ q < 2, act Reg.R1180_PTP_MODE ≠ Reg.R1190_PORT_STATE p ∧ act (Reg.R1190_PORT_EN q) ≠ Reg.R1190_PORT_STATE p := by
    decide
  exact Dev.ptpOn_congr (Dev.reg_ptpBegun _ (apart p hp q hq).1) (Dev.reg_ptpBegun _ (apart p hp q hq).2)

theorem Dev.portState_ptpBegun (d : Dev) {p : Nat} (hp : p < 2) :
    (d.ptpBegun p).portState p = if d.ptpOn p = true then PortState.listening else 0 := by
  have cast : d.ptpBegun p = (d.modPtp p PtpPort.fresh).set (Reg.R1190_PORT_STATE p) ((if d.ptpOn p then PortState.listening else 0 : Nat) : Int) := by
    rw [Dev.ptpBegun]
    split_ifs <;> rfl
  rw [Dev.portState, cast]
  exact Dev.nat_set_same _ (odType_ofPtp hp).1 rfl (by split_ifs <;> decide)

theorem Dev.portState_ptpBegun_other (d : Dev) {p q : Nat} (h : Reg.R1190_PORT_STATE q ≠ Reg.R1190_PORT_STATE p) :
    (d.ptpBegun p).portState q = d.portState q := congrArg Int.toNat (Dev.reg_ptpBegun d h)

theorem Dev.ptpPort_ptpBegun (d : Dev) (p : Nat) : (d.ptpBegun p).ptpPort p = (d.ptpPort p).fresh := by
  rw [Dev.ptpBegun, Dev.ptpPort_set, Dev.ptpPort_modPtp]

theorem Dev.ptpPort_ptpBegun_other (d : Dev) {p q : Nat} (h : q ≠ p) : (d.ptpBegun p).ptpPort q = d.ptpPort q := by
  rw [Dev.ptpBegun, Dev.ptpPort_set, Dev.ptpPort_modPtp_other _ _ h]

/-- What PTP_MODE makes of the settings and of the two ports. -/
theorem Dev.ptpModed_spec (h : mode ≤ 2) :
    (d.ptpModed mode).nat Reg.R1180_PTP_MODE = mode ∧ (d.ptpModed mode).nat (act Reg.R1180_PTP_MODE) = mode ∧
    (d.ptpModed mode).reg (act Reg.R1180_DOMAIN_NUMBER) = (odType (act Reg.R1180_DOMAIN_NUMBER)).wrap (d.reg Reg.R1180_DOMAIN_NUMBER) ∧
    (∀ q < 2, (d.ptpModed mode).portState q = if (d.ptpModed mode).ptpOn q = true then PortState.listening else 0) ∧
    ∀ q < 2, ((d.ptpModed mode).ptpPort q).best = none ∧ ((d.ptpModed mode).ptpPort q).pdAsk = none := by
  obtain ⟨tMode, tAct⟩ : odType Reg.R1180_PTP_MODE = .u8 ∧ odType (act Reg.R1180_PTP_MODE) = .u8 := by decide +kernel
  obtain ⟨staged, active⟩ := Dev.reg_activateEach ptpSettings (by decide) (d.set Reg.R1180_PTP_MODE mode)
  have written : (d.set Reg.R1180_PTP_MODE mode).nat Reg.R1180_PTP_MODE = mode := Dev.nat_set_same _ tMode rfl (by simp [OdType.size]; omega)
  have written' : (d.set Reg.R1180_PTP_MODE mode).reg Reg.R1180_PTP_MODE = (mode : Int) := by
    rw [Dev.reg_set_same, tMode]
    simp [OdType.wrap, OdType.signed, OdType.size]
    omega
  refine ⟨?_, ?_, ?_, fun q hq => ?_, fun q hq => ?_⟩
  · rw [Dev.nat, Dev.reg_ptpModed _ _ (by decide)]
    exact (congrArg Int.toNat (staged _ (by decide))).trans written
  · rw [Dev.nat, Dev.reg_ptpModed _ _ (by decide)]
    have set := active Reg.R1180_PTP_MODE (by decide)
    rw [if_pos (by decide), written', tAct] at set
    exact (congrArg Int.toNat set).trans (OdType.toNat_wrap_u8 (by omega))
  · rw [Dev.reg_ptpModed _ _ (by decide)]
    have set := active Reg.R1180_DOMAIN_NUMBER (by decide)
    rw [if_pos (by decide), Dev.reg_set_other _ _ (by decide)] at set
    exact set
  · have on : (d.ptpModed mode).ptpOn q = (d.ptpSet mode).ptpOn q :=
      (Dev.ptpOn_ptpBegun _ (by omega) hq).trans (Dev.ptpOn_ptpBegun _ (by omega) hq)
    rw [on]
    interval_cases q
    · rw [Dev.ptpModed, Dev.portState_ptpBegun_other _ (by decide), Dev.portState_ptpBegun _ (by omega)]
    · rw [Dev.ptpModed, Dev.portState_ptpBegun _ (by omega), Dev.ptpOn_ptpBegun _ (by omega) hq]
  · interval_cases q
    · rw [Dev.ptpModed, Dev.ptpPort_ptpBegun_other _ (by omega), Dev.ptpPort_ptpBegun]
      exact ⟨rfl, rfl⟩
    · rw [Dev.ptpModed, Dev.ptpPort_ptpBegun]
      exact ⟨rfl, rfl⟩

end

section
variable {s : State} (up : s.Up) {mode : Nat}
include up

theorem ptpMode_begins (h : mode ≤ 2) : Does (.ptpMode mode) s fun b a =>
    a.done = Code.STATUS_OK ∧ a.nat Reg.R1180_PTP_MODE = mode ∧ a.nat (act Reg.R1180_PTP_MODE) = mode ∧
    a.reg (act Reg.R1180_DOMAIN_NUMBER) = (odType (act Reg.R1180_DOMAIN_NUMBER)).wrap (b.reg Reg.R1180_DOMAIN_NUMBER) ∧
    (∀ q < 2, a.portState q = if a.ptpOn q = true then PortState.listening else 0) ∧
    (∀ q < 2, (a.ptpPort q).best = none ∧ (a.ptpPort q).pdAsk = none) := by
  obtain ⟨e, made⟩ : ∃ e, e = s.found.ptpModed mode := ⟨_, rfl⟩
  obtain ⟨shown, active, domain, states, ports⟩ := Dev.ptpModed_spec (d := s.found) h
  have keeps := s.found.keeps_ptpModed mode
  rw [← made] at shown active domain states ports keeps
  have leaves : Leaves (.ptpMode mode) s (e.finish Code.STATUS_OK) :=
    Leaves.dry (fun d => d.ptpMode mode) up.passes ((Dev.ptpMode_eq h).trans (by rw [made]))
      ((keeps.mono (m := [.od, .ptp, .done]) (by decide)).finish _)
  exact leaves.quietly (keeps .event (by decide)) ⟨rfl, shown, active, domain, states, ports⟩

theorem ptpMode_refused (h : 2 < mode) : Does (.ptpMode mode) s fun b a => a.done = Code.OD_RANGE ∧ b.Keeps a [.done] :=
  (Leaves.dry (l := [.done]) (fun d => d.ptpMode mode) up.passes (if_pos h) (Dev.keeps_finish _ _)).finished

end

end Sys2Proof.Machine
end

section
/-! ## Peer delays (R353, R355) -/

namespace Sys2Proof.Machine

section
variable {d : Dev} {p raw : Nat} {m : Bytes}

/-- A message of this clock's domain, of this type. -/
abbrev Dev.Hears (d : Dev) (p : Nat) (m : Bytes) (type : Nat) : Prop := d.ptpTakes p m = true ∧ ptpType m = type

theorem Dev.Hears.admitted {type : Nat} (h : d.Hears p m type) : ¬(¬d.ptpTakes p m = true ∨ ptpType m ≠ type) := by
  simp [h.1, h.2]

/-- The answer to a Pdelay_Req. -/
def Dev.pdelayAnswer (d : Dev) (p raw : Nat) (m : Bytes) (tx : Nat) : Bytes :=
  d.ptpMessage p 3 54 (ptpCorr m + (d.ptpTx p tx - d.ptpRx p raw)) (ptpSeq m) 0x7F (List.replicate 10 0 ++ beBytes 10 (ptpSource m))

theorem Dev.ptpPdelayReq_answers (hears : d.Hears p m 2) (tx : Nat) : d.ptpPdelayReq p raw m tx = d.ptpSend p (d.pdelayAnswer p raw m tx) :=
  if_neg hears.admitted

theorem Dev.pdelayAnswer_fields (tx : Nat) : ptpType (d.pdelayAnswer p raw m tx) = 3 ∧ ptpSeq (d.pdelayAnswer p raw m tx) = ptpSeq m ∧
    fieldBE (d.pdelayAnswer p raw m tx) 44 10 = ptpSource m := by
  obtain ⟨type, seq, body⟩ := d.ptpMessage_fields p (type := 3) 54 (ptpCorr m + (d.ptpTx p tx - d.ptpRx p raw)) (ptpSeq m) 0x7F
    (List.replicate 10 0 ++ beBytes 10 (ptpSource m)) (by omega)
  refine ⟨type, seq.trans (Nat.mod_eq_of_lt (fieldBE_lt m 30 2)), ?_⟩
  have whole : slice (List.replicate 10 0 ++ beBytes 10 (ptpSource m)) 0 (54 - 34) = List.replicate 10 0 ++ beBytes 10 (ptpSource m) := by
    have h := slice_whole (List.replicate 10 0 ++ beBytes 10 (ptpSource m))
    simpa using h
  have part : slice (d.pdelayAnswer p raw m tx) 44 10 = slice (List.replicate 10 0 ++ beBytes 10 (ptpSource m)) 10 10 :=
    (body 10 10 (by omega)).trans (congrArg (fun x => slice x 10 10) whole)
  have source : fieldBE (List.replicate 10 0 ++ beBytes 10 (ptpSource m)) 10 10 = ptpSource m := by
    rw [fieldBE_append _ _ _ (by simp)]
    simpa using (fieldBE_beBytes 10 (ptpSource m)).trans (Nat.mod_eq_of_lt (fieldBE_lt m 20 10))
  rw [fieldBE, part]
  exact source

/-- The peer delay known. -/
theorem Dev.ptpDelay_spec (d : Dev) (p : Nat) (x : Int) : ((d.ptpDelay p x).ptpPort p).delay = divConv x 2 ∧
    ((d.ptpDelay p x).ptpPort p).pdWait = none ∧ ((d.ptpDelay p x).ptpPort p).pdAsk = none ∧ d.Keeps (d.ptpDelay p x) [.od, .ptp] := by
  have port : (d.ptpDelay p x).ptpPort p = { d.ptpPort p with delay := divConv x 2, pdWait := none, pdAsk := none } := by
    rw [Dev.ptpDelay, Dev.ptpPort_set, Dev.ptpPort_modPtp]
  rw [port]
  exact ⟨rfl, rfl, rfl, ((d.keeps_modPtp _ _).mono (by decide)).set _ _⟩

theorem Dev.ptpPdelayResp_eq {t1 : Int} (hears : d.Hears p m 3) (asked : (d.ptpPort p).pdAsk = some (ptpSeq m, t1)) : d.ptpPdelayResp p raw m =
    if (fieldBE m 6 1).testBit 1 = true then
      d.modPtp p fun q => { q with pdWait := some (ptpSeq m, d.ptpRx p raw - t1, ptpStamp m 34, ptpCorr m + d.ptpAsym p) }
    else d.ptpDelay p (d.ptpRx p raw - t1 - (ptpCorr m + d.ptpAsym p)) := by
  rw [Dev.ptpPdelayResp, if_neg hears.admitted]
  simp only [asked, ne_eq, not_true_eq_false, if_false]

theorem Dev.ptpPdelayRespFollowUp_eq {x t2 corr : Int} (hears : d.Hears p m 10) (waits : (d.ptpPort p).pdWait = some (ptpSeq m, x, t2, corr)) :
    d.ptpPdelayRespFollowUp p m = d.ptpDelay p (x - (ptpStamp m 34 - t2) - corr - ptpCorr m) := by
  rw [Dev.ptpPdelayRespFollowUp, if_neg hears.admitted]
  simp only [waits, if_true]

end

/-- A port with a Pdelay_Req that departs at `t`. -/
def PtpPort.asking (x : PtpPort) (t : Int) : PtpPort :=
  { x with pdSeq := (x.pdSeq + 1) % 65536, pdAsk := some (x.pdSeq, t), pdWait := none }

section
variable {s : State} {p raw : Nat} {m : Bytes} (live : s.Live) (hp : p < 2)
include live hp

theorem ptpPdelayReq_answered (tx : Nat) (hears : s.found.Hears p m 2) : Does (.ptpPdelayReq p raw m tx) s fun b a =>
    b.Tells a p 3 (ptpSeq m) (fun r => fieldBE r 44 10 = ptpSource m) ∧ b.Keeps a [] := by
  obtain ⟨type, seq, source⟩ := s.found.pdelayAnswer_fields (p := p) (raw := raw) (m := m) tx
  obtain ⟨r, made⟩ : ∃ r, r = s.found.pdelayAnswer p raw m tx := ⟨_, rfl⟩
  rw [← made] at type seq source
  have keeps : s.found.Keeps (s.found.ptpSend p r) [] := by
    rw [Dev.ptpSend_eq]
    exact Dev.keeps_hostSent _ _ _
  have leaves : Leaves (.ptpPdelayReq p raw m tx) s (s.found.ptpSend p r) :=
    Leaves.cell (fun d => d.ptpPdelayReq p raw m tx) (live.passesIf hp) ((Dev.ptpPdelayReq_answers hears tx).trans (by rw [made])) keeps
  exact leaves.quietly (keeps .event (by decide)) ⟨Dev.tells_ptpSend rfl rfl type seq source, keeps⟩

section
variable {t1 : Int} (hears : s.found.Hears p m 3) (asked : (s.found.ptpPort p).pdAsk = some (ptpSeq m, t1))
include hears asked

theorem ptpPdelayResp_oneStep (one : (fieldBE m 6 1).testBit 1 = false) : Does (.ptpPdelayResp p raw m) s fun b a =>
    (a.ptpPort p).delay = divConv (b.ptpRx p raw - t1 - ptpCorr m - b.ptpAsym p) 2 ∧ (a.ptpPort p).pdAsk = none := by
  have turn : s.found.ptpRx p raw - t1 - (ptpCorr m + s.found.ptpAsym p) = s.found.ptpRx p raw - t1 - ptpCorr m - s.found.ptpAsym p := by ring
  obtain ⟨delay, -, ask, keeps⟩ := s.found.ptpDelay_spec p (s.found.ptpRx p raw - t1 - ptpCorr m - s.found.ptpAsym p)
  have leaves : Leaves (.ptpPdelayResp p raw m) s (s.found.ptpDelay p (s.found.ptpRx p raw - t1 - ptpCorr m - s.found.ptpAsym p)) :=
    Leaves.dry (fun d => d.ptpPdelayResp p raw m) (live.passesIf hp)
      ((Dev.ptpPdelayResp_eq hears asked).trans (by rw [if_neg (by simp [one]), turn])) keeps
  exact leaves.quietly (keeps .event (by decide)) ⟨delay, ask⟩

theorem ptpPdelayResp_twoStep (two : (fieldBE m 6 1).testBit 1 = true) : Does (.ptpPdelayResp p raw m) s fun b a =>
    (a.ptpPort p).pdWait = some (ptpSeq m, b.ptpRx p raw - t1, ptpStamp m 34, ptpCorr m + b.ptpAsym p) ∧ b.Keeps a [.ptp] := by
  have keeps := s.found.keeps_modPtp p fun q =>
    { q with pdWait := some (ptpSeq m, s.found.ptpRx p raw - t1, ptpStamp m 34, ptpCorr m + s.found.ptpAsym p) }
  have leaves := Leaves.dry (i := .ptpPdelayResp p raw m) (fun d => d.ptpPdelayResp p raw m) (live.passesIf hp)
    ((Dev.ptpPdelayResp_eq hears asked).trans (if_pos two)) keeps
  exact leaves.quietly (keeps .event (by decide)) ⟨congrArg PtpPort.pdWait (Dev.ptpPort_modPtp _ _ _), keeps⟩

end

theorem ptpPdelayRespFollowUp_completes {x t2 corr : Int} (hears : s.found.Hears p m 10)
    (waits : (s.found.ptpPort p).pdWait = some (ptpSeq m, x, t2, corr)) : Does (.ptpPdelayRespFollowUp p m) s fun _ a =>
    (a.ptpPort p).delay = divConv (x - (ptpStamp m 34 - t2) - corr - ptpCorr m) 2 ∧ (a.ptpPort p).pdWait = none := by
  obtain ⟨delay, wait, -, keeps⟩ := s.found.ptpDelay_spec p (x - (ptpStamp m 34 - t2) - corr - ptpCorr m)
  have leaves := Leaves.dry (i := .ptpPdelayRespFollowUp p m) (fun d => d.ptpPdelayRespFollowUp p m) (live.passesIf hp)
    (Dev.ptpPdelayRespFollowUp_eq hears waits) keeps
  exact leaves.quietly (keeps .event (by decide)) ⟨delay, wait⟩

/-- A Pdelay_Req goes out and its time of departure is noted. -/
theorem ptpPdelayReqTransmit_asks (on : s.found.ptpOn p = true) : Does (.ptpPdelayReqTransmit p raw) s fun b a =>
    b.Tells a p 2 ((b.ptpPort p).pdSeq % 65536) (fun _ => True) ∧ (a.ptpPort p).pdSeq = ((b.ptpPort p).pdSeq + 1) % 65536 ∧ b.Keeps a [.ptp] ∧
    (a.ptpPort p).pdAsk = some ((b.ptpPort p).pdSeq, b.ptpTx p raw) := by
  obtain ⟨e, asked⟩ : ∃ e, e = s.found.modPtp p fun _ => (s.found.ptpPort p).asking (s.found.ptpTx p raw) := ⟨_, rfl⟩
  obtain ⟨type, seq, -⟩ := e.ptpMessage_fields p (type := 2) 54 (-(e.ptpAsym p)) (s.found.ptpPort p).pdSeq 0 (List.replicate 20 0) (by omega)
  obtain ⟨r, made⟩ : ∃ r, r = e.ptpMessage p 2 54 (-(e.ptpAsym p)) (s.found.ptpPort p).pdSeq 0 (List.replicate 20 0) := ⟨_, rfl⟩
  rw [← made] at type seq
  have port : e.ptpPort p = (s.found.ptpPort p).asking (s.found.ptpTx p raw) := by rw [asked, Dev.ptpPort_modPtp]
  have noted : s.found.Keeps e [.ptp] := asked ▸ s.found.keeps_modPtp p _
  have out : e.out = [] := by rw [asked]; rfl
  have keeps : s.found.Keeps (e.ptpSend p r) [.ptp] := by
    rw [Dev.ptpSend_eq]
    exact noted.step (Dev.keeps_hostSent _ _ _)
  have sentPort : (e.ptpSend p r).ptpPort p = e.ptpPort p := by
    rw [Dev.ptpSend_eq]
    rfl
  have result : s.found.ptpPdelayReqTransmit p raw = e.ptpSend p r := by
    rw [Dev.ptpPdelayReqTransmit, if_neg (by simp [on]), made, asked]
    rfl
  have leaves : Leaves (.ptpPdelayReqTransmit p raw) s (e.ptpSend p r) :=
    Leaves.dry (fun d => d.ptpPdelayReqTransmit p raw) (live.passesIf hp) result keeps
  refine leaves.quietly (keeps .event (by decide)) ⟨Dev.tells_ptpSend (noted .od (by decide)) out type seq trivial, ?_, keeps, ?_⟩
  · rw [sentPort, port, PtpPort.asking]
  · rw [sentPort, port, PtpPort.asking]

end

end Sys2Proof.Machine
end

section
/-! ## The servo (R350, R353) -/

namespace Sys2Proof.Machine

section
variable {d : Dev} {p raw : Nat} {m : Bytes}

/-- An offset beyond STEP_LIMIT_NS. -/
abbrev Dev.Far (d : Dev) (offset : Int) : Prop := (d.nat (act Reg.R1180_STEP_LIMIT_NS) : Int) < (offset.fdiv (2 ^ 40)).natAbs

theorem clamp_mem {lo hi x : Int} (h : lo ≤ hi) : lo ≤ clamp lo hi x ∧ clamp lo hi x ≤ hi := by
  unfold clamp
  split_ifs <;> omega

/-- The rate to which the servo slews. -/
def servoRate (n : Nat) (offset : Int) : Nat := (2 ^ 40 + clamp (-549755813) 549755813 (Config.servoRate n offset)).toNat

theorem servoRate_mem (n : Nat) (offset : Int) : 2 ^ 40 - 549755814 ≤ servoRate n offset ∧ servoRate n offset ≤ 2 ^ 40 + 549755814 := by
  obtain ⟨low, high⟩ := clamp_mem (x := Config.servoRate n offset) (show (-549755813 : Int) ≤ 549755813 by omega)
  rw [servoRate]
  omega

/-- The offset shown. -/
def Dev.offsetShown (d : Dev) (offset : Int) : Dev := d.set Reg.R1180_OFFSET_NS (offset.fdiv (2 ^ 40))

/-- One free value taken. -/
def Dev.freshTaken (d : Dev) : Dev := { d with fresh := d.fresh + 1 }

/-- A port that follows its master. -/
def Dev.enslaved (d : Dev) (p : Nat) : Dev := (d.set Reg.R1140_WALL_STATE 2).set (Reg.R1190_PORT_STATE p) PortState.slave

theorem Dev.keeps_freshTaken (d : Dev) : d.Keeps d.freshTaken [.fresh] := by
  intro q hq
  cases q with
  | fresh => simp at hq
  | _ => rfl

theorem Dev.ptpServo_eq (d : Dev) (p : Nat) (offset : Int) : d.ptpServo p offset =
    (if (d.offsetShown offset).Far offset then (d.offsetShown offset).stepWall (-offset)
      else (d.offsetShown offset).freshTaken.setWallRate (servoRate d.fresh offset)).enslaved p := rfl

theorem Dev.far_offsetShown (d : Dev) (offset : Int) : (d.offsetShown offset).Far offset ↔ d.Far offset := by
  rw [Dev.Far, Dev.Far, Dev.offsetShown, Dev.nat_set_other _ _ (by decide)]

theorem Dev.ptpServo_far {offset : Int} (far : d.Far offset) : d.ptpServo p offset = ((d.offsetShown offset).stepWall (-offset)).enslaved p := by
  rw [Dev.ptpServo_eq, if_pos ((d.far_offsetShown offset).2 far)]

theorem Dev.ptpServo_near {offset : Int} (near : ¬d.Far offset) : d.ptpServo p offset =
    ((d.offsetShown offset).freshTaken.setWallRate (servoRate d.fresh offset)).enslaved p := by
  rw [Dev.ptpServo_eq, if_neg fun h => near ((d.far_offsetShown offset).1 h)]

theorem Dev.enslaved_spec (d : Dev) (hp : p < 2) : (d.enslaved p).portState p = PortState.slave ∧ (d.enslaved p).nat Reg.R1140_WALL_STATE = 2 ∧
    (d.enslaved p).nat Reg.R1140_STEPS = d.nat Reg.R1140_STEPS ∧ (d.enslaved p).wall = d.wall ∧ d.Keeps (d.enslaved p) [.od] := by
  have apart : ∀ p < 2, Reg.R1140_WALL_STATE ≠ Reg.R1190_PORT_STATE p ∧ Reg.R1140_STEPS ≠ Reg.R1190_PORT_STATE p := by decide
  refine ⟨Dev.nat_set_same _ (odType_ofPtp hp).1 rfl (n := 9) (by decide), ?_, ?_, rfl, (Dev.keeps_set _ _ _).andThen (Dev.keeps_set _ _ _)⟩
  · rw [Dev.enslaved, Dev.nat_set_other _ _ (apart p hp).1]
    exact Dev.nat_set_same _ odType_wallState rfl (n := 2) (by decide)
  · rw [Dev.enslaved, Dev.nat_set_other _ _ (apart p hp).2, Dev.nat_set_other _ _ (by decide)]

/-- What a new offset makes of wall time: a step by exactly the offset, or a slew that begins where wall time stands. -/
structure Dev.Served (b a : Dev) (p : Nat) (offset : Int) : Prop where
  port : a.portState p = PortState.slave
  state : a.nat Reg.R1140_WALL_STATE = 2
  step : b.Far offset → (∀ k, a.wtAt k = b.wtAt k - offset) ∧ a.nat Reg.R1140_STEPS = min (b.nat Reg.R1140_STEPS + 1) 0xFFFFFFFF
  slew : ¬b.Far offset → a.wtAt (b.rawNow + 1) = b.wtAt (b.rawNow + 1) ∧ a.nat Reg.R1140_STEPS = b.nat Reg.R1140_STEPS ∧
    2 ^ 40 - 549755814 ≤ a.wall.rate ∧ a.wall.rate ≤ 2 ^ 40 + 549755814
  keeps : b.Keeps a (.wall :: .fresh :: logParts)

theorem Dev.ptpServo_spec (hp : p < 2) (d : Dev) (offset : Int) : d.Served (d.ptpServo p offset) p offset := by
  have shown : d.Keeps (d.offsetShown offset) (.wall :: .fresh :: logParts) := (Dev.keeps_set _ _ _).mono (by decide)
  have steps : (d.offsetShown offset).nat Reg.R1140_STEPS = d.nat Reg.R1140_STEPS := Dev.nat_set_other _ _ (by decide)
  by_cases far : d.Far offset
  · obtain ⟨-, counted, -⟩ := (d.offsetShown offset).nat_stepWall (-offset)
    obtain ⟨port, state, steps', wall, keeps⟩ := ((d.offsetShown offset).stepWall (-offset)).enslaved_spec hp
    have stepped := (d.offsetShown offset).keeps_stepWall (-offset)
    rw [Dev.ptpServo_far far]
    refine ⟨port, state, fun _ => ⟨fun k => ?_, ?_⟩, fun near => absurd far near, (shown.step stepped).step keeps⟩
    · rw [Dev.wtAt_congr wall, Dev.wtAt_stepWall]
      exact (Int.sub_eq_add_neg).symm
    · rw [steps', counted, steps]
  · obtain ⟨port, state, steps', wall, keeps⟩ :=
      ((d.offsetShown offset).freshTaken.setWallRate (servoRate d.fresh offset)).enslaved_spec hp
    have drawn := (d.offsetShown offset).keeps_freshTaken
    have slewed := (d.offsetShown offset).freshTaken.keeps_setWallRate (servoRate d.fresh offset)
    have same := (d.offsetShown offset).freshTaken.keepsRegs_setWallRate (servoRate d.fresh offset) Reg.R1140_STEPS (by decide)
    have now := (d.offsetShown offset).freshTaken.wtAt_setWallRate (servoRate d.fresh offset) 0
    obtain ⟨low, high⟩ := servoRate_mem d.fresh offset
    rw [Dev.ptpServo_near far]
    refine ⟨port, state, fun h => absurd h far, fun _ => ⟨?_, ?_, ?_, ?_⟩, ((shown.step drawn).step slewed).step keeps⟩
    · rw [Dev.wtAt_congr wall]
      exact now.trans (by rw [Nat.cast_zero, Int.zero_mul, Int.add_zero]; rfl)
    · rw [steps', Dev.nat, same, ← Dev.nat]
      exact steps
    · rw [wall]
      exact low
    · rw [wall]
      exact high

end

end Sys2Proof.Machine
end

section
/-! ## Sync and Follow_Up (R353) -/

namespace Sys2Proof.Machine

section
variable {d : Dev} {p raw : Nat} {m : Bytes}

theorem Dev.Hears.followed {type : Nat} (h : d.Hears p m type) (follows : d.ptpFollows p m = true) :
    ¬(¬d.ptpTakes p m = true ∨ ptpType m ≠ type ∨ ¬d.ptpFollows p m = true) := by
  simp [h.1, h.2, follows]

theorem Dev.ptpSync_eq (hears : d.Hears p m 0) (follows : d.ptpFollows p m = true) : d.ptpSync p raw m =
    if (fieldBE m 6 1).testBit 1 = true then d.modPtp p fun x => { x with syncs := some (ptpSeq m, d.ptpRx p raw, ptpCorr m + d.ptpAsym p) }
    else d.ptpServo p (d.ptpRx p raw - ptpStamp m 34 - (ptpCorr m + d.ptpAsym p) - (d.ptpPort p).delay) := if_neg (hears.followed follows)

theorem Dev.ptpFollowUp_eq {t2 corr : Int} (hears : d.Hears p m 8) (follows : d.ptpFollows p m = true)
    (waits : (d.ptpPort p).syncs = some (ptpSeq m, t2, corr)) : d.ptpFollowUp p m =
    (d.modPtp p fun x => { x with syncs := none }).ptpServo p (t2 - ptpStamp m 34 - corr - ptpCorr m - (d.ptpPort p).delay) := by
  rw [Dev.ptpFollowUp, if_neg (hears.followed follows)]
  simp only [waits, if_true]

end

section
variable {s : State} {p raw : Nat} {m : Bytes} (live : s.Live) (hp : p < 2)
include live hp

section
variable (hears : s.found.Hears p m 0) (follows : s.found.ptpFollows p m = true)
include hears follows

theorem ptpSync_twoStep (two : (fieldBE m 6 1).testBit 1 = true) : Does (.ptpSync p raw m) s fun b a =>
    (a.ptpPort p).syncs = some (ptpSeq m, b.ptpRx p raw, ptpCorr m + b.ptpAsym p) ∧ b.Keeps a [.ptp] := by
  have keeps := s.found.keeps_modPtp p fun x => { x with syncs := some (ptpSeq m, s.found.ptpRx p raw, ptpCorr m + s.found.ptpAsym p) }
  have leaves := Leaves.dry (i := .ptpSync p raw m) (fun d => d.ptpSync p raw m) (live.passesIf hp)
    ((Dev.ptpSync_eq hears follows).trans (if_pos two)) keeps
  exact leaves.quietly (keeps .event (by decide)) ⟨congrArg PtpPort.syncs (Dev.ptpPort_modPtp _ _ _), keeps⟩

theorem ptpSync_oneStep {offset : Int} (is : offset = s.found.ptpRx p raw - ptpStamp m 34 - (ptpCorr m + s.found.ptpAsym p) - (s.found.ptpPort p).delay)
    (one : (fieldBE m 6 1).testBit 1 = false) : Does (.ptpSync p raw m) s fun b a =>
    a.portState p = PortState.slave ∧ a.nat Reg.R1140_WALL_STATE = 2 ∧
    (b.Far offset → (∀ k, a.wtAt k = b.wtAt k - offset) ∧ a.nat Reg.R1140_STEPS = min (b.nat Reg.R1140_STEPS + 1) 0xFFFFFFFF) ∧
    (¬b.Far offset → a.wtAt (b.rawNow + 1) = b.wtAt (b.rawNow + 1) ∧ a.nat Reg.R1140_STEPS = b.nat Reg.R1140_STEPS ∧
      2 ^ 40 - 549755814 ≤ a.wall.rate ∧ a.wall.rate ≤ 2 ^ 40 + 549755814) := by
  have served := s.found.ptpServo_spec hp offset
  obtain ⟨e, made⟩ : ∃ e, e = s.found.ptpServo p offset := ⟨_, rfl⟩
  rw [← made] at served
  have leaves : Leaves (.ptpSync p raw m) s e := Leaves.dry (fun d => d.ptpSync p raw m) (live.passesIf hp)
    ((Dev.ptpSync_eq hears follows).trans (by rw [if_neg (by simp [one]), made, is])) served.keeps
  exact leaves.does fun pend vecs => ⟨served.port, served.state, served.step, served.slew⟩

end

theorem ptpFollowUp_completes {t2 corr : Int} (hears : s.found.Hears p m 8) (follows : s.found.ptpFollows p m = true)
    (waits : (s.found.ptpPort p).syncs = some (ptpSeq m, t2, corr)) : Does (.ptpFollowUp p m) s fun _ a =>
    a.portState p = PortState.slave ∧ a.nat Reg.R1140_WALL_STATE = 2 ∧ (a.ptpPort p).syncs = none := by
  obtain ⟨c, cleared⟩ : ∃ c, c = s.found.modPtp p fun x => { x with syncs := none } := ⟨_, rfl⟩
  have served := c.ptpServo_spec hp (t2 - ptpStamp m 34 - corr - ptpCorr m - (s.found.ptpPort p).delay)
  obtain ⟨e, made⟩ : ∃ e, e = c.ptpServo p (t2 - ptpStamp m 34 - corr - ptpCorr m - (s.found.ptpPort p).delay) := ⟨_, rfl⟩
  rw [← made] at served
  have none' : (c.ptpPort p).syncs = none := by rw [cleared, Dev.ptpPort_modPtp]
  have same : e.ptpPort p = c.ptpPort p := Dev.ptpPort_congr (served.keeps .ptp (by decide)) p
  have keeps : s.found.Keeps e (.ptp :: .wall :: .fresh :: logParts) :=
    ((cleared ▸ s.found.keeps_modPtp p _ : s.found.Keeps c [.ptp]).mono (by decide)).step served.keeps
  have leaves : Leaves (.ptpFollowUp p m) s e := Leaves.dry (fun d => d.ptpFollowUp p m) (live.passesIf hp)
    ((Dev.ptpFollowUp_eq hears follows waits).trans (by rw [made, cleared])) keeps
  exact leaves.does fun pend vecs => ⟨served.port, served.state, (congrArg PtpPort.syncs same).trans none'⟩

end

end Sys2Proof.Machine
end

section
/-! ## The best master clock algorithm of a slave-only clock (R350, R353) -/

namespace Sys2Proof.Machine

section
variable {d e : Dev} {p : Nat} {changed : Nat → Bool}

/-- A port's state decided. -/
def Dev.decideOn (d : Dev) (changed : Nat → Bool) (p : Nat) : Dev :=
  if !d.ptpOn p then d
  else
    let st := d.portDecision p
    let st := if st = PortState.uncalibrated ∧ d.portState p = PortState.slave ∧ changed p = false then PortState.slave
      else if st = PortState.master ∧ d.portState p = PortState.listening ∧ (d.ptpPort p).heard.isNone ∧ changed p = false
      then PortState.listening else st
    d.set (Reg.R1190_PORT_STATE p) st

/-- Both ports decided. -/
def Dev.decided (d : Dev) (changed : Nat → Bool) : Dev := (d.decideOn changed 0).decideOn changed 1

theorem Dev.decidePorts_eq (d : Dev) (changed : Nat → Bool) : ∃ id : Int, d.decidePorts changed = (d.decided changed).set Reg.R1180_GM_IDENTITY id :=
  ⟨_, rfl⟩

/-- What the decision of a port's state reads. -/
structure Dev.Alike (d e : Dev) : Prop where
  ptp : e.ptp = d.ptp
  on : ∀ q < 2, e.ptpOn q = d.ptpOn q
  only : e.flag (act Reg.R1180_SLAVE_ONLY) = d.flag (act Reg.R1180_SLAVE_ONLY)

theorem Dev.keeps_decideOn (d : Dev) (changed : Nat → Bool) (p : Nat) : d.Keeps (d.decideOn changed p) [.od] := by
  unfold Dev.decideOn
  split_ifs
  all_goals first | exact Dev.Keeps.refl d _ | exact d.keeps_set _ _

theorem Dev.reg_decideOn (d : Dev) (changed : Nat → Bool) {p k : Nat} (h : k ≠ Reg.R1190_PORT_STATE p) :
    (d.decideOn changed p).reg k = d.reg k := by
  unfold Dev.decideOn
  split_ifs
  all_goals first | rfl | exact Dev.reg_set_other _ _ h

theorem Dev.alike_decideOn (d : Dev) (changed : Nat → Bool) (hp : p < 2) : d.Alike (d.decideOn changed p) := by
  have apart : ∀ p < 2, act Reg.R1180_SLAVE_ONLY ≠ Reg.R1190_PORT_STATE p ∧ act Reg.R1180_PTP_MODE ≠ Reg.R1190_PORT_STATE p ∧
      ∀ q < 2, act (Reg.R1190_PORT_EN q) ≠ Reg.R1190_PORT_STATE p := by decide
  obtain ⟨only, mode, port⟩ := apart p hp
  refine ⟨d.keeps_decideOn changed p .ptp (by decide), fun q hq => ?_, ?_⟩
  · exact Dev.ptpOn_congr (d.reg_decideOn changed mode) (d.reg_decideOn changed (port q hq))
  · rw [Dev.flag, d.reg_decideOn changed only, ← Dev.flag]

theorem Dev.bestMaster_alike (h : d.Alike e) : e.bestMaster = d.bestMaster := by
  simp only [Dev.bestMaster, show List.range 2 = [0, 1] from rfl, List.foldl_cons, List.foldl_nil, Dev.ptpPort_congr h.ptp, h.on 0 (by omega),
    h.on 1 (by omega)]

/-- A slave-only port goes by whether the best master is heard on it. -/
theorem Dev.portDecision_only (only : d.flag (act Reg.R1180_SLAVE_ONLY) = true) : d.portDecision p =
    if (d.bestMaster.map Prod.fst) = some p then PortState.uncalibrated else PortState.listening := by
  unfold Dev.portDecision
  cases d.bestMaster with
  | none => simp [only]
  | some b => simp [only]

theorem Dev.portState_decideOn (hp : p < 2) (on : d.ptpOn p = true) (only : d.flag (act Reg.R1180_SLAVE_ONLY) = true) (fresh : changed p = true) :
    (d.decideOn changed p).portState p =
      if (d.bestMaster.map Prod.fst) = some p then PortState.uncalibrated else PortState.listening := by
  rw [Dev.decideOn, if_neg (by simp [on]), Dev.portDecision_only only]
  simp only [fresh, Bool.true_eq_false, and_false, if_false]
  exact Dev.nat_set_same _ (odType_ofPtp hp).1 rfl (by split_ifs <;> decide)

theorem Dev.portState_decided (hp : p < 2) (on : d.ptpOn p = true) (only : d.flag (act Reg.R1180_SLAVE_ONLY) = true) (fresh : changed p = true) :
    (d.decided changed).portState p = if (d.bestMaster.map Prod.fst) = some p then PortState.uncalibrated else PortState.listening := by
  have first := d.alike_decideOn changed (p := 0) (by omega)
  interval_cases p
  · have kept : (d.decided changed).portState 0 = (d.decideOn changed 0).portState 0 := congrArg Int.toNat (Dev.reg_decideOn _ _ (by decide))
    rw [kept, Dev.portState_decideOn (by omega) on only fresh]
  · rw [Dev.decided, Dev.portState_decideOn (by omega) ((first.on 1 (by omega)).trans on) (first.only.trans only) fresh,
      Dev.bestMaster_alike first]

theorem Dev.portState_decidePorts (hp : p < 2) (on : d.ptpOn p = true) (only : d.flag (act Reg.R1180_SLAVE_ONLY) = true) (fresh : changed p = true) :
    (d.decidePorts changed).portState p = if (d.bestMaster.map Prod.fst) = some p then PortState.uncalibrated else PortState.listening := by
  obtain ⟨id, made⟩ := d.decidePorts_eq changed
  have apart : ∀ p < 2, Reg.R1190_PORT_STATE p ≠ Reg.R1180_GM_IDENTITY := by decide
  rw [made, Dev.portState, Dev.nat_set_other _ _ (apart p hp), ← Dev.portState, Dev.portState_decided hp on only fresh]

theorem Dev.keeps_decidePorts (d : Dev) (changed : Nat → Bool) : d.Keeps (d.decidePorts changed) [.od] := by
  obtain ⟨id, made⟩ := d.decidePorts_eq changed
  rw [made]
  exact ((d.keeps_decideOn changed 0).andThen (Dev.keeps_decideOn _ changed 1)).set _ _

/-- With the other port without a master, the best master is the one heard on this port, or there is none. -/
theorem Dev.bestMaster_alone (hp : p < 2) (on : d.ptpOn p = true) (other : (d.ptpPort (1 - p)).best = none) :
    d.bestMaster.map Prod.fst = (d.ptpPort p).best.map fun _ => p := by
  interval_cases p
  · cases h : (d.ptpPort 0).best <;> simp [Dev.bestMaster, show List.range 2 = [0, 1] from rfl, h, other, on]
  · cases h : (d.ptpPort 1).best <;> simp [Dev.bestMaster, show List.range 2 = [0, 1] from rfl, h, other, on]

end

end Sys2Proof.Machine
end

section
/-! ## Announce, and what a master sends (R350, R353, R355) -/

namespace Sys2Proof.Machine

section
variable {d : Dev} {p : Nat} {m : Bytes}

theorem Dev.Hears.foreign (h : d.Hears p m 11) (other : ptpSource m / 65536 ≠ Config.clockIdentity 0) :
    ¬(¬d.ptpTakes p m = true ∨ ptpType m ≠ 11 ∨ ptpSource m / 65536 = Config.clockIdentity 0) := by
  simp [h.1, h.2, other]

theorem Dev.ptpAnnounce_first (hears : d.Hears p m 11) (other : ptpSource m / 65536 ≠ Config.clockIdentity 0)
    (free : (d.ptpPort p).best = none) (new : (d.ptpPort p).heard ≠ some (ptpSource m)) :
    d.ptpAnnounce p m = d.modPtp p fun x => { x with heard := some (ptpSource m) } := by
  rw [Dev.ptpAnnounce, if_neg (hears.foreign other)]
  simp only [free, Bool.false_or]
  exact if_neg (by simpa using new)

theorem Dev.ptpAnnounce_second (hears : d.Hears p m 11) (other : ptpSource m / 65536 ≠ Config.clockIdentity 0)
    (free : (d.ptpPort p).best = none) (again : (d.ptpPort p).heard = some (ptpSource m)) :
    d.ptpAnnounce p m = (d.modPtp p fun x => { x with best := some m, heard := some (ptpSource m) }).decidePorts fun q => q == p := by
  rw [Dev.ptpAnnounce, if_neg (hears.foreign other)]
  simp only [free, Bool.false_or, Bool.not_false, Bool.and_true]
  exact (if_pos (by simp [again])).trans (if_pos trivial)

end

/-- A port with one message of a kind more. -/
def PtpPort.syncSent (x : PtpPort) : PtpPort := { x with syncSeq := (x.syncSeq + 1) % 65536 }
def PtpPort.announceSent (x : PtpPort) : PtpPort := { x with annSeq := (x.annSeq + 1) % 65536 }

section
variable {s : State} {p : Nat} {m : Bytes} (live : s.Live) (hp : p < 2)
include live hp

section
variable (hears : s.found.Hears p m 11) (other : ptpSource m / 65536 ≠ Config.clockIdentity 0) (free : (s.found.ptpPort p).best = none)
include hears other free

theorem ptpAnnounce_hears (new : (s.found.ptpPort p).heard ≠ some (ptpSource m)) : Does (.ptpAnnounce p m) s fun b a =>
    (a.ptpPort p).heard = some (ptpSource m) ∧ (a.ptpPort p).best = none ∧ b.Keeps a [.ptp] := by
  obtain ⟨e, made⟩ : ∃ e, e = s.found.modPtp p fun x => { x with heard := some (ptpSource m) } := ⟨_, rfl⟩
  have port : e.ptpPort p = { s.found.ptpPort p with heard := some (ptpSource m) } := by rw [made, Dev.ptpPort_modPtp]
  have keeps : s.found.Keeps e [.ptp] := made ▸ s.found.keeps_modPtp p _
  have leaves : Leaves (.ptpAnnounce p m) s e := Leaves.dry (fun d => d.ptpAnnounce p m) (live.passesIf hp)
    ((Dev.ptpAnnounce_first hears other free new).trans made.symm) keeps
  exact leaves.quietly (keeps .event (by decide)) ⟨congrArg PtpPort.heard port, (congrArg PtpPort.best port).trans free, keeps⟩

theorem ptpAnnounce_qualifies (again : (s.found.ptpPort p).heard = some (ptpSource m)) (alone : (s.found.ptpPort (1 - p)).best = none)
    (only : s.found.flag (act Reg.R1180_SLAVE_ONLY) = true) : Does (.ptpAnnounce p m) s fun _ a =>
    (a.ptpPort p).best = some m ∧ a.portState p = PortState.uncalibrated ∧ a.wallOwned = true := by
  obtain ⟨e, made⟩ : ∃ e, e = s.found.modPtp p fun x => { x with best := some m, heard := some (ptpSource m) } := ⟨_, rfl⟩
  have port : (e.ptpPort p).best = some m := by rw [made, Dev.ptpPort_modPtp]
  have alone' : (e.ptpPort (1 - p)).best = none := by rw [made, Dev.ptpPort_modPtp_other _ _ (by omega), alone]
  have noted : s.found.Keeps e [.ptp] := made ▸ s.found.keeps_modPtp p _
  have on : e.ptpOn p = true := by
    have on' : s.found.ptpOn p = true := by
      have takes := hears.1
      simp only [Dev.ptpTakes, Bool.and_eq_true] at takes
      exact takes.1.1
    rw [Dev.ptpOn_congr (Dev.reg_congr (noted .od (by decide)) _) (Dev.reg_congr (noted .od (by decide)) _), on']
  have only' : e.flag (act Reg.R1180_SLAVE_ONLY) = true := by rw [Dev.flag, Dev.reg_congr (noted .od (by decide)), ← Dev.flag, only]
  obtain ⟨a, ended⟩ : ∃ a, a = e.decidePorts fun q => q == p := ⟨_, rfl⟩
  have state : a.portState p = PortState.uncalibrated := by
    rw [ended, Dev.portState_decidePorts hp on only' (by simp), Dev.bestMaster_alone hp on alone', port]
    exact if_pos rfl
  have decides : e.Keeps a [.od] := ended ▸ e.keeps_decidePorts _
  have best : (a.ptpPort p).best = some m := by rw [Dev.ptpPort_congr (decides .ptp (by decide)), port]
  have keeps : s.found.Keeps a [.ptp, .od] := (noted.mono (by decide)).step decides
  have leaves : Leaves (.ptpAnnounce p m) s a := Leaves.dry (fun d => d.ptpAnnounce p m) (live.passesIf hp)
    ((Dev.ptpAnnounce_second hears other free again).trans (by rw [ended, made])) keeps
  refine leaves.quietly (keeps .event (by decide)) ⟨best, state, ?_⟩
  have eight : a.nat (Reg.R1190_PORT_STATE p) = 8 := state
  simp only [Dev.wallOwned, List.any_eq_true, List.mem_range]
  exact ⟨p, hp, by simp [eight]⟩

end

theorem announceTimeout_listens (on : s.found.ptpOn p = true) (alone : (s.found.ptpPort (1 - p)).best = none)
    (only : s.found.flag (act Reg.R1180_SLAVE_ONLY) = true) : Does (.announceReceiptTimeout p) s fun _ a =>
    (a.ptpPort p).best = none ∧ a.portState p = PortState.listening := by
  obtain ⟨e, made⟩ : ∃ e, e = s.found.modPtp p fun x => { x with best := none, heard := none, syncs := none } := ⟨_, rfl⟩
  have port : (e.ptpPort p).best = none := by rw [made, Dev.ptpPort_modPtp]
  have alone' : (e.ptpPort (1 - p)).best = none := by rw [made, Dev.ptpPort_modPtp_other _ _ (by omega), alone]
  have noted : s.found.Keeps e [.ptp] := made ▸ s.found.keeps_modPtp p _
  have on' : e.ptpOn p = true := by
    rw [Dev.ptpOn_congr (Dev.reg_congr (noted .od (by decide)) _) (Dev.reg_congr (noted .od (by decide)) _), on]
  have only' : e.flag (act Reg.R1180_SLAVE_ONLY) = true := by rw [Dev.flag, Dev.reg_congr (noted .od (by decide)), ← Dev.flag, only]
  obtain ⟨a, ended⟩ : ∃ a, a = e.decidePorts fun q => q == p := ⟨_, rfl⟩
  have state : a.portState p = PortState.listening := by
    rw [ended, Dev.portState_decidePorts hp on' only' (by simp), Dev.bestMaster_alone hp on' alone', port]
    exact if_neg (by simp)
  have decides : e.Keeps a [.od] := ended ▸ e.keeps_decidePorts _
  have best : (a.ptpPort p).best = none := by rw [Dev.ptpPort_congr (decides .ptp (by decide)), port]
  have keeps : s.found.Keeps a [.ptp, .od] := (noted.mono (by decide)).step decides
  have leaves : Leaves (.announceReceiptTimeout p) s a := Leaves.dry (fun d => d.announceTimeout p) (live.passesIf hp)
    (by rw [Dev.announceTimeout, if_neg (by simp [on]), ended, made]) keeps
  exact leaves.quietly (keeps .event (by decide)) ⟨best, state⟩

section
variable (on : s.found.ptpOn p = true) (master : s.found.portState p = PortState.master)
include on master

omit live hp in
theorem Dev.masters : ¬(¬s.found.ptpOn p = true ∨ s.found.portState p ≠ PortState.master) := by simp [on, master]

theorem ptpSyncTransmit_sends (raw : Nat) : Does (.ptpSyncTransmit p raw) s fun b a =>
    b.Tells a p 0 ((b.ptpPort p).syncSeq % 65536) (fun r => slice r 34 10 = ptpTime (b.ptpTx p raw)) ∧
    (a.ptpPort p).syncSeq = ((b.ptpPort p).syncSeq + 1) % 65536 := by
  obtain ⟨t, time⟩ : ∃ t, t = s.found.ptpTx p raw := ⟨_, rfl⟩
  obtain ⟨e, sent⟩ : ∃ e, e = s.found.modPtp p fun _ => (s.found.ptpPort p).syncSent := ⟨_, rfl⟩
  obtain ⟨type, seq, body⟩ := e.ptpMessage_fields p (type := 0) 44 (t - t.fdiv (2 ^ 40) * 2 ^ 40) (s.found.ptpPort p).syncSeq
    (e.reg (act Reg.R1180_LOG_SYNC)) (ptpTime t) (by omega)
  have origin := body 0 10 (by omega)
  have ten : (ptpTime t).length = 10 := by simp [ptpTime]
  have whole : slice (ptpTime t) 0 10 = ptpTime t := ten ▸ slice_whole (ptpTime t)
  rw [show 44 - 34 = 10 from rfl, whole, whole] at origin
  obtain ⟨r, made⟩ : ∃ r, r = e.ptpMessage p 0 44 (t - t.fdiv (2 ^ 40) * 2 ^ 40) (s.found.ptpPort p).syncSeq
    (e.reg (act Reg.R1180_LOG_SYNC)) (ptpTime t) := ⟨_, rfl⟩
  rw [← made] at type seq origin
  have noted : s.found.Keeps e [.ptp] := sent ▸ s.found.keeps_modPtp p _
  have out : e.out = [] := by rw [sent]; rfl
  have keeps : s.found.Keeps (e.ptpSend p r) [.ptp] := by
    rw [Dev.ptpSend_eq]
    exact noted.step (Dev.keeps_hostSent _ _ _)
  have port : (e.ptpSend p r).ptpPort p = (s.found.ptpPort p).syncSent := by
    rw [Dev.ptpSend_eq]
    change e.ptpPort p = _
    rw [sent, Dev.ptpPort_modPtp]
  have leaves : Leaves (.ptpSyncTransmit p raw) s (e.ptpSend p r) :=
    Leaves.dry (fun d => d.ptpSyncTransmit p raw) (live.passesIf hp)
      (by rw [Dev.ptpSyncTransmit, if_neg (Dev.masters on master), made, sent, time]; rfl) keeps
  rw [time] at origin
  exact leaves.quietly (keeps .event (by decide)) ⟨Dev.tells_ptpSend (noted .od (by decide)) out type seq origin, congrArg PtpPort.syncSeq port⟩

theorem ptpAnnounceTransmit_sends : Does (.ptpAnnounceTransmit p) s fun b a =>
    b.Tells a p 11 ((b.ptpPort p).annSeq % 65536) (fun _ => True) ∧ (a.ptpPort p).annSeq = ((b.ptpPort p).annSeq + 1) % 65536 := by
  obtain ⟨e, sent⟩ : ∃ e, e = s.found.modPtp p fun _ => (s.found.ptpPort p).announceSent := ⟨_, rfl⟩
  obtain ⟨body, result⟩ : ∃ body, s.found.ptpAnnounceTransmit p = e.ptpSend p (e.ptpMessage p 11 64 0 (s.found.ptpPort p).annSeq 0 body) := by
    rw [Dev.ptpAnnounceTransmit, if_neg (Dev.masters on master), sent]
    exact ⟨_, rfl⟩
  obtain ⟨type, seq, -⟩ := e.ptpMessage_fields p (type := 11) 64 0 (s.found.ptpPort p).annSeq 0 body (by omega)
  obtain ⟨r, made⟩ : ∃ r, r = e.ptpMessage p 11 64 0 (s.found.ptpPort p).annSeq 0 body := ⟨_, rfl⟩
  rw [← made] at type seq result
  have noted : s.found.Keeps e [.ptp] := sent ▸ s.found.keeps_modPtp p _
  have out : e.out = [] := by rw [sent]; rfl
  have keeps : s.found.Keeps (e.ptpSend p r) [.ptp] := by
    rw [Dev.ptpSend_eq]
    exact noted.step (Dev.keeps_hostSent _ _ _)
  have port : (e.ptpSend p r).ptpPort p = (s.found.ptpPort p).announceSent := by
    rw [Dev.ptpSend_eq]
    change e.ptpPort p = _
    rw [sent, Dev.ptpPort_modPtp]
  have leaves : Leaves (.ptpAnnounceTransmit p) s (e.ptpSend p r) :=
    Leaves.dry (fun d => d.ptpAnnounceTransmit p) (live.passesIf hp) result keeps
  exact leaves.quietly (keeps .event (by decide)) ⟨Dev.tells_ptpSend (noted .od (by decide)) out type seq trivial, congrArg PtpPort.annSeq port⟩

end

end

/-- Settles O45: a message that a port takes changes that port's record, wall time by the servo, or sends one message. -/
theorem ptpMessages : Obligations.PtpMessages := by
  unfold Obligations.PtpMessages
  intro s p raw m live hp
  refine ⟨timeSnapshot_shows, fun up mode => ptpMode_begins up, fun up mode => ptpMode_refused up,
    fun off i hi => (ptp_off live hp raw m off i hi).quietly rfl ⟨Dev.Keeps.refl _ _, rfl⟩, ptpDelayReq_counts live hp,
    fun tx hears => ptpPdelayReq_answered live hp tx hears,
    fun t1 hears asked => ⟨ptpPdelayResp_oneStep live hp hears asked, ptpPdelayResp_twoStep live hp hears asked⟩,
    fun x t2 corr => ptpPdelayRespFollowUp_completes live hp, ptpSync_twoStep live hp,
    fun hears follows => ptpSync_oneStep live hp hears follows rfl, fun t2 corr => ptpFollowUp_completes live hp,
    ptpAnnounce_hears live hp, ptpAnnounce_qualifies live hp, announceTimeout_listens live hp,
    fun on master => ⟨ptpSyncTransmit_sends live hp on master raw, ptpAnnounceTransmit_sends live hp on master⟩, fun on => ?_⟩
  exact ptpPdelayReqTransmit_asks live hp on

end Sys2Proof.Machine
end

section
/-! # Reactions: what they change and what they leave alone (R15, R16, R96, R551) -/

namespace Sys2Proof.Machine

/-- The parts a reaction of an axis may change. -/
abbrev reactionParts : List Part := [.od, .log, .event, .axes, .chains, .ident, .safe]

/-- The entries a reaction of these axes, stopping these chains, may change: the axes' own, CONTROL of the chains, those of the
generators, and what a raised code changes. -/
def ReactionReg (N C : Nat → Prop) (k : Nat) : Prop :=
  (∃ n, N n ∧ n < 256 ∧ (k / 4096 = 0x200 + n ∨ k / 256 = 0x5080 + n)) ∨ (∃ c, C c ∧ c < 16 ∧ k = Reg.CH5_CONTROL c) ∨
    k / 4096 = 0x343 ∨ k ∈ logRegs

/-- From one device to the other, axes of `N` have reacted and chains of `C` have stopped, and nothing else happened. -/
structure Dev.Reacts (N C : Nat → Prop) (d e : Dev) : Prop where
  keeps : d.Keeps e reactionParts
  regs : ∀ k, ¬ReactionReg N C k → e.reg k = d.reg k
  axes : ∀ m, ¬N m → e.axis m = d.axis m
  stops : ∀ m, ¬N m → e.axSafe m = d.axSafe m
  chains : ∀ c, ¬C c → e.chain c = d.chain c
  outs : e.safe.outs = d.safe.outs
  fns : e.safe.fns = d.safe.fns

section
variable {N C : Nat → Prop} {d e f : Dev} {n c : Nat}

theorem Dev.Reacts.refl (N C : Nat → Prop) (d : Dev) : d.Reacts N C d :=
  ⟨Dev.Keeps.refl _ _, fun _ _ => rfl, fun _ _ => rfl, fun _ _ => rfl, fun _ _ => rfl, rfl, rfl⟩

theorem Dev.Reacts.trans (h : d.Reacts N C e) (g : e.Reacts N C f) : d.Reacts N C f where
  keeps := h.keeps.andThen g.keeps
  regs k hk := (g.regs k hk).trans (h.regs k hk)
  axes m hm := (g.axes m hm).trans (h.axes m hm)
  stops m hm := (g.stops m hm).trans (h.stops m hm)
  chains c hc := (g.chains c hc).trans (h.chains c hc)
  outs := g.outs.trans h.outs
  fns := g.fns.trans h.fns

theorem Dev.Reacts.set (h : d.Reacts N C e) (k : Nat) (v : Int) (own : ReactionReg N C k) : d.Reacts N C (e.set k v) where
  keeps := h.keeps.set _ _
  regs j hj := (Dev.reg_set_other _ _ (by rintro rfl; exact hj own)).trans (h.regs j hj)
  axes := h.axes
  stops := h.stops
  chains := h.chains
  outs := h.outs
  fns := h.fns

theorem Dev.Reacts.raise (h : d.Reacts N C e) (code kind subject reaction detail : Nat) :
    d.Reacts N C (e.raise code kind subject reaction detail) := by
  have raised := e.keeps_raise code kind subject reaction detail
  have axes : (e.raise code kind subject reaction detail).axes = e.axes := raised .axes (by decide)
  have chains : (e.raise code kind subject reaction detail).chains = e.chains := raised .chains (by decide)
  have safe : (e.raise code kind subject reaction detail).safe = e.safe := raised .safe (by decide)
  refine ⟨h.keeps.raise _ _ _ _ _, fun k hk => ?_, fun m hm => ?_, fun m hm => ?_, fun c hc => ?_, ?_, ?_⟩
  · rw [Dev.reg_raise _ _ _ _ _ _ fun log => hk (.inr (.inr (.inr log))), h.regs k hk]
  · rw [Dev.axis, axes]; exact h.axes m hm
  · rw [Dev.axSafe, safe]; exact h.stops m hm
  · rw [Dev.chain, chains]; exact h.chains c hc
  · rw [safe]; exact h.outs
  · rw [safe]; exact h.fns

theorem Dev.Reacts.modAxis (h : d.Reacts N C e) (own : N n) (g : Axis → Axis) : d.Reacts N C (e.modAxis n g) where
  keeps := h.keeps.step (e.keeps_modAxis n g)
  regs := h.regs
  axes m hm := (mget_mset_other _ _ _ _ (by rintro rfl; exact hm own)).trans (h.axes m hm)
  stops := h.stops
  chains := h.chains
  outs := h.outs
  fns := h.fns

theorem Dev.keeps_safe (d : Dev) (x : SafeDom) : d.Keeps { d with safe := x } [.safe] := by
  intro p hp
  cases p with
  | safe => simp at hp
  | _ => rfl

theorem Dev.keeps_ident (d : Dev) (x : Ident) : d.Keeps { d with ident := x } [.ident] := by
  intro p hp
  cases p with
  | ident => simp at hp
  | _ => rfl

theorem Dev.Reacts.setAxSafe (h : d.Reacts N C e) (own : N n) (x : AxSafe) : d.Reacts N C (e.setAxSafe n x) where
  keeps := h.keeps.step (e.keeps_safe { e.safe with axes := mset {} e.safe.axes n x })
  regs := h.regs
  axes := h.axes
  stops m hm := (mget_mset_other _ _ _ _ (by rintro rfl; exact hm own)).trans (h.stops m hm)
  chains := h.chains
  outs := h.outs
  fns := h.fns

theorem Dev.Reacts.modChain (h : d.Reacts N C e) (own : C c) (g : Chain → Chain) : d.Reacts N C (e.modChain c g) where
  keeps := h.keeps.step (Dev.keeps_modChain e c g)
  regs := h.regs
  axes := h.axes
  stops := h.stops
  chains b hb := (mget_mset_other _ _ _ _ (by rintro rfl; exact hb own)).trans (h.chains b hb)
  outs := h.outs
  fns := h.fns

theorem Dev.Reacts.setGen (h : d.Reacts N C e) (g : Nat) (x : InjGen) : d.Reacts N C (e.setGen g x) where
  keeps := h.keeps.step (e.keeps_ident { e.ident with gens := mset {} e.ident.gens g x })
  regs := h.regs
  axes := h.axes
  stops := h.stops
  chains := h.chains
  outs := h.outs
  fns := h.fns

theorem Dev.Reacts.when (h : d.Reacts N C e) (b : Bool) (g : Dev → Dev) (then_ : e.Reacts N C (g e)) : d.Reacts N C (e.when b g) := by
  unfold Dev.when
  split
  · exact h.trans then_
  · exact h

theorem Dev.Reacts.each {α : Type} (xs : List α) (g : α → Dev → Dev) (d : Dev)
    (step : ∀ x ∈ xs, ∀ e, d.Reacts N C e → d.Reacts N C (g x e)) : d.Reacts N C (each xs g d) := by
  suffices from_ : ∀ e, d.Reacts N C e → d.Reacts N C (Machine.each xs g e) from from_ d (Dev.Reacts.refl _ _ _)
  induction xs with
  | nil => exact fun e h => h
  | cons x xs ih => exact fun e h => ih (fun y hy => step y (List.mem_cons_of_mem _ hy)) _ (step x List.mem_cons_self e h)

/-! ## The members of chains -/

theorem Dev.members_lt {d : Dev} {c m : Nat} (h : m ∈ d.members c) : m < 256 := by
  simp only [Dev.members] at h
  split at h
  · simp at h
  · obtain ⟨i, -, rfl⟩ := List.mem_map.1 h
    exact fieldLE_lt_pow _ _ 1

theorem Dev.chainOf_lt {d : Dev} {n c : Nat} (h : d.chainOf n = some c) : c < 16 := List.mem_range.1 (List.mem_of_find?_eq_some h)

theorem Dev.members_congr {d e : Dev} (h : e.dom = d.dom) (c : Nat) : e.members c = d.members c := by
  have bytes : ∀ k, e.bytes k = d.bytes k := fun k => by rw [Dev.bytes, Dev.bytes, h]
  simp only [Dev.members, Dev.nLinks, bytes]

theorem Dev.Reacts.members (h : d.Reacts N C e) (c : Nat) : e.members c = d.members c := Dev.members_congr (h.keeps .dom (by decide)) c

theorem chainEn_notReaction {c : Nat} (h : c < 16) : ¬ReactionReg N C (act (Reg.CH0_CHAIN_EN c)) := by
  have apart : ∀ c < 16, (∀ b < 16, act (Reg.CH0_CHAIN_EN c) ≠ Reg.CH5_CONTROL b) ∧ act (Reg.CH0_CHAIN_EN c) ∉ logRegs := by decide +kernel
  have place : act (Reg.CH0_CHAIN_EN c) = (0x3000 + 16 * c) * 256 + (Reg.CH0_CHAIN_EN 0 - 0x3000 * 256) + 0x80 := by
    simp only [act, Reg.CH0_CHAIN_EN, Reg.key]
  rintro (⟨n, -, hn, ax⟩ | ⟨b, -, hb, ch⟩ | gen | log)
  · rw [place] at ax; simp only [Reg.CH0_CHAIN_EN, Reg.key] at ax; omega
  · exact (apart c h).1 b hb ch
  · rw [place] at gen; simp only [Reg.CH0_CHAIN_EN, Reg.key] at gen; omega
  · exact (apart c h).2 log

theorem Dev.Reacts.chainEn (h : d.Reacts N C e) {c : Nat} (hc : c < 16) : e.chainEn c = d.chainEn c := by
  simp only [Dev.chainEn, Dev.flag, h.regs _ (chainEn_notReaction hc)]

theorem Dev.Reacts.chainOf (h : d.Reacts N C e) (n : Nat) : e.chainOf n = d.chainOf n := by
  refine List.find?_congr fun c hc => ?_
  simp only [h.chainEn (List.mem_range.1 hc), h.members]

/-- Axis `n` may stop: it is one of `N`, and the chain it belongs to one of `C`. -/
structure Dev.MayStop (N C : Nat → Prop) (d : Dev) (n : Nat) : Prop where
  own : N n
  low : n < 256
  chain : ∀ c, d.chainOf n = some c → C c

/-- Axis `n` may react: it may stop, and so may the other members of its chain. -/
structure Dev.MayReact (N C : Nat → Prop) (d : Dev) (n : Nat) : Prop extends Dev.MayStop N C d n where
  members : ∀ c, d.chainOf n = some c → ∀ m ∈ d.members c, d.MayStop N C m

theorem Dev.MayStop.of_reacts (h : d.MayStop N C n) (g : d.Reacts N C e) : e.MayStop N C n :=
  ⟨h.own, h.low, fun c hc => h.chain c (g.chainOf n ▸ hc)⟩

theorem Dev.MayReact.of_reacts (h : d.MayReact N C n) (g : d.Reacts N C e) : e.MayReact N C n := by
  refine ⟨h.toMayStop.of_reacts g, fun c hc m hm => ?_⟩
  rw [g.chainOf] at hc
  rw [g.members] at hm
  exact (h.members c hc m hm).of_reacts g

/-- An axis of no chain reacts alone. -/
theorem Dev.MayReact.alone (d : Dev) {n : Nat} (low : n < 256) (free : d.chainOf n = none) : d.MayReact (· = n) (fun _ => False) n :=
  ⟨⟨rfl, low, fun c hc => by simp [free] at hc⟩, fun c hc => by simp [free] at hc⟩

theorem Dev.MayStop.any (d : Dev) {n : Nat} (low : n < 256) : d.MayStop (· < 256) (· < 16) n := ⟨low, low, fun _ hc => Dev.chainOf_lt hc⟩

/-- Any axis may react where any axis and any chain may. -/
theorem Dev.MayReact.any (d : Dev) {n : Nat} (low : n < 256) : d.MayReact (· < 256) (· < 16) n :=
  ⟨Dev.MayStop.any d low, fun _ _ _ hm => Dev.MayStop.any d (Dev.members_lt hm)⟩

/-! ## The entries of an axis -/

theorem ReactionReg.axis {k : Nat} (own : N n) (low : n < 256) (h : k / 4096 = 0x200 + n ∨ k / 256 = 0x5080 + n) : ReactionReg N C k :=
  .inl ⟨n, own, low, h⟩

theorem ReactionReg.gen {k : Nat} (h : k / 4096 = 0x343) : ReactionReg N C k := .inr (.inr (.inl h))

theorem ReactionReg.control (own : C c) (low : c < 16) : ReactionReg N C (Reg.CH5_CONTROL c) := .inr (.inl ⟨c, own, low, rfl⟩)

theorem Dev.Reacts.setOwn (h : d.Reacts N C e) (own : N n) (low : n < 256) {k : Nat} (v : Int)
    
    (hk : k / 4096 = 0x200 + n ∨ k / 256 = 0x5080 + n := by
      simp only [Reg.AX1_STATE, Reg.AX1_FAULT_CODE, Reg.AX1_REACTION, Reg.AX5_SET_VEL, Reg.AX5_SET_ACC, Reg.AX5_ACTIVE_CMD,
        Reg.AX11_HOME_STATE, Reg.AX13_INJ_GEN, Reg.R5080_SAFE_STATE, Reg.R5080_LATCH_CODE, Reg.R5080_PERMIT, Reg.key]
      omega) : d.Reacts N C (e.set k v) := h.set _ _ (.axis own low hk)

end

/-! ## The steps of a reaction -/

section
variable {N C : Nat → Prop} {d e : Dev} {n : Nat}

theorem Dev.Reacts.abortInjection (h : d.Reacts N C e) (own : N n) (low : n < 256) : d.Reacts N C (e.abortInjection n) := by
  refine h.trans (Dev.Reacts.each _ _ _ fun g hg f hf => ?_)
  have bound := List.mem_range.1 hg
  dsimp only
  split
  · refine Dev.Reacts.raise (Dev.Reacts.setOwn (Dev.Reacts.set (Dev.Reacts.set (hf.setGen _ _) _ _ (.gen ?_)) _ _ (.gen ?_)) own low _) _ _ _ _ _
    all_goals
      simp only [Reg.R3430_STATE, Reg.R3430_STATUS, Reg.key]
      omega
  · exact hf

theorem Dev.Reacts.abandonHoming (h : d.Reacts N C e) (own : N n) (low : n < 256) : d.Reacts N C (e.abandonHoming n) := h.setOwn own low _

theorem Dev.Reacts.setAxState (h : d.Reacts N C e) (own : N n) (low : n < 256) (st : Nat) : d.Reacts N C (e.setAxState n st) := h.setOwn own low _

theorem Dev.Reacts.startPlan (h : d.Reacts N C e) (own : N n) (m : Motion) (p : Plan) : d.Reacts N C (e.startPlan n m p) := h.modAxis own _

theorem Dev.Reacts.startStop (h : d.Reacts N C e) (own : N n) (A : Rat) (J : Option Rat) : d.Reacts N C (e.startStop n A J) := by
  unfold Dev.startStop
  split
  · exact h
  · exact h.startPlan own _ _

theorem Dev.Reacts.freshStop (h : d.Reacts N C e) (may : d.MayStop N C n) : d.Reacts N C (e.freshStop n) := by
  unfold Dev.freshStop
  split
  next c hc => exact h.when _ _ ((Dev.Reacts.refl _ _ _).modChain ((may.of_reacts h).chain c hc) _)
  next => exact h

theorem Dev.Reacts.emergencyRamp (h : d.Reacts N C e) (may : d.MayStop N C n) : d.Reacts N C (e.emergencyRamp n) := by
  unfold Dev.emergencyRamp
  split
  · exact h
  · exact ((h.freshStop may).startPlan may.own _ _).setAxSafe may.own _

theorem Dev.Reacts.quickStopAxis (h : d.Reacts N C e) (may : d.MayStop N C n) : d.Reacts N C (e.quickStopAxis n) := by
  have homing := (h.abortInjection may.own may.low).abandonHoming may.own may.low
  have stopping := (homing.emergencyRamp may).setAxState may.own may.low AxState.stopping
  unfold Dev.quickStopAxis
  exact stopping.modAxis may.own _

theorem Dev.Reacts.discardQueue (h : d.Reacts N C e) {c : Nat} (own : C c) (low : c < 16) : d.Reacts N C (e.discardQueue c) :=
  (h.modChain own _).set _ _ (.control own low)

theorem Dev.Reacts.chainStop (h : d.Reacts N C e) (may : d.MayReact N C n) : d.Reacts N C (e.chainStop n) := by
  unfold Dev.chainStop
  split
  next => exact h
  next c hc =>
    have mine : d.chainOf n = some c := (h.chainOf n).symm.trans hc
    split
    next =>
      have discarded := h.discardQueue (may.chain c mine) (Dev.chainOf_lt mine)
      refine discarded.trans (Dev.Reacts.each _ _ _ fun m hm f hf => ?_)
      have member : m ∈ d.members c := discarded.members c ▸ List.mem_of_mem_filter hm
      split
      · exact hf.quickStopAxis ((may.members c mine m member).of_reacts discarded)
      · exact hf
    next => exact h

theorem Dev.Reacts.cutTorque (h : d.Reacts N C e) (may : d.MayStop N C n) (code : Nat) : d.Reacts N C (e.cutTorque n code) := by
  unfold Dev.cutTorque
  extract_lets aborted faulted shown opened still before unmonitored
  have reacts : d.Reacts N C unmonitored := by
    have faulted' : d.Reacts N C faulted :=
      ((h.abortInjection may.own may.low).abandonHoming may.own may.low).setAxState may.own may.low _
    have shown' : d.Reacts N C shown := .setOwn (.setOwn faulted' may.own may.low _) may.own may.low _
    have opened' : d.Reacts N C opened := shown'.modAxis may.own _
    have still' : d.Reacts N C still := .setOwn (.setOwn (.setOwn opened' may.own may.low _) may.own may.low _) may.own may.low _
    exact still'.setAxSafe may.own _
  split
  next c hc => exact reacts.modChain ((may.of_reacts reacts).chain c hc) _
  next => exact reacts

theorem Dev.Reacts.carryOut (h : d.Reacts N C e) (may : d.MayReact N C n) (code r : Nat) : d.Reacts N C (e.carryOut n code r) := by
  unfold Dev.carryOut
  extract_lets named homing began ramp by_ stopping monitored
  have named' : d.Reacts N C named := (h.setOwn may.own may.low _).modAxis may.own _
  split
  next => exact (named'.cutTorque may.toMayStop code).chainStop may
  next =>
    have homing' : d.Reacts N C homing := (named'.abortInjection may.own may.low).abandonHoming may.own may.low
    have ramp' : d.Reacts N C ramp := by
      show d.Reacts N C (if _ then _ else _)
      split
      · exact homing'.startStop may.own _ _
      · exact homing'.emergencyRamp may.toMayStop
    have by' : d.Reacts N C by_ := ramp'.when _ _ ((Dev.Reacts.refl _ _ _).modAxis may.own _)
    have stopping' : d.Reacts N C stopping := (by'.setAxState may.own may.low _).modAxis may.own _
    have monitored' : d.Reacts N C monitored :=
      stopping'.when _ _ (((Dev.Reacts.refl _ _ _).setAxSafe may.own _).setOwn may.own may.low _)
    exact monitored'.chainStop may

theorem Dev.Reacts.react (h : d.Reacts N C e) (may : d.MayReact N C n) (code r : Nat) : d.Reacts N C (e.react n code r) := by
  have named : d.Reacts N C (e.set (Reg.AX1_REACTION n) r) := h.setOwn may.own may.low _
  unfold Dev.react
  dsimp only
  split
  · exact h
  split
  · exact h
  split
  · split
    · exact named.cutTorque may.toMayStop code
    · exact h
  split
  · exact (named.modAxis may.own _).cutTorque may.toMayStop code
  split
  · exact h.carryOut may code r
  split
  · exact h
  split
  · exact h.carryOut may code r
  · exact h.modAxis may.own _

theorem Dev.Reacts.fault (h : d.Reacts N C e) (may : d.MayReact N C n) (code r detail : Nat) : d.Reacts N C (e.fault n code r detail) :=
  (h.raise _ _ _ _ _).react may code r

theorem Dev.Reacts.showLatch (h : d.Reacts N C e) (own : N n) (low : n < 256) : d.Reacts N C (e.showLatch n) := by
  unfold Dev.showLatch
  extract_lets latches code
  have code' : d.Reacts N C code := h.setOwn own low (k := Reg.R5080_LATCH_CODE n) _
  split
  · exact code'.setOwn own low (k := Reg.R5080_SAFE_STATE n) _
  · exact code'

theorem Dev.Reacts.latchStop (h : d.Reacts N C e) (may : d.MayReact N C n) (code fn r : Nat) : d.Reacts N C (e.latchStop n code fn r) :=
  ((h.setAxSafe may.own _).react may code r).showLatch may.own may.low

theorem Dev.Reacts.unlatch (h : d.Reacts N C e) (own : N n) (low : n < 256) (p : StopLatch → Bool) : d.Reacts N C (e.unlatch n p) := by
  unfold Dev.unlatch
  dsimp only
  split
  · exact (h.setAxSafe own _).showLatch own low
  · exact h

theorem Dev.Reacts.violation (h : d.Reacts N C e) (may : d.MayReact N C n) (code : Nat) : d.Reacts N C (e.violation n code) :=
  (h.raise _ _ _ _ _).latchStop may code 8 Reaction.sto

theorem Dev.Reacts.chainReaction (h : d.Reacts N C e) (may : d.MayReact N C n) (code r : Nat) : d.Reacts N C (e.chainReaction n code r) := by
  unfold Dev.chainReaction
  split
  · exact h.latchStop may _ _ _
  · exact h.react may _ _

end

/-! ## Reactions of several axes -/

/-- Some axes have reacted, and some chains have stopped. -/
abbrev Dev.AxesReact (d e : Dev) : Prop := d.Reacts (· < 256) (· < 16) e

section
variable {d : Dev}

theorem Dev.react_reacts (d : Dev) {n : Nat} (low : n < 256) (code r : Nat) : d.AxesReact (d.react n code r) :=
  (Dev.Reacts.refl _ _ _).react (Dev.MayReact.any d low) code r

theorem Dev.reactChain_reacts (d : Dev) (c code r : Nat) : d.AxesReact (d.reactChain c code r) :=
  Dev.Reacts.each _ _ _ fun _ hm _ he => he.react (Dev.MayReact.any d (Dev.members_lt hm)) code r

theorem Dev.latchChain_reacts (d : Dev) (c code r : Nat) : d.AxesReact (d.latchChain c code r) :=
  Dev.Reacts.each _ _ _ fun _ hm _ he => he.latchStop (Dev.MayReact.any d (Dev.members_lt hm)) code 8 r

theorem Dev.stoAll_reacts (d : Dev) (code : Nat) : d.AxesReact (d.stoAll code) :=
  Dev.Reacts.each _ _ _ fun n hn _ he => he.react (Dev.MayReact.any d (by have := List.mem_range.1 hn; omega)) code Reaction.sto

end

end Sys2Proof.Machine
end

section
/-! # SAFE and FAILED: what their entry changes and what it leaves alone (R13, R380, R416, R458) -/

namespace Sys2Proof.Machine

/-- What every turn of a loop keeps, the loop keeps. -/
theorem each_holds {α σ : Type} (P : σ → Prop) (xs : List α) (f : α → σ → σ) (step : ∀ x ∈ xs, ∀ s, P s → P (f x s)) {s : σ} (h : P s) :
    P (each xs f s) := by
  induction xs generalizing s with
  | nil => exact h
  | cons x xs ih => exact ih (fun y hy => step y (List.mem_cons_of_mem _ hy)) (step x List.mem_cons_self s h)

theorem iterate_holds {σ : Type} (P : σ → Prop) (n : Nat) (f : Nat → σ → σ) (step : ∀ i < n, ∀ s, P s → P (f i s)) {s : σ} (h : P s) :
    P (iterate n f s) := each_holds P _ f (fun i hi => step i (List.mem_range.1 hi)) h

theorem Dev.reg_each {α : Type} {xs : List α} {f : α → Dev → Dev} {k : Nat} (step : ∀ x ∈ xs, ∀ e : Dev, (f x e).reg k = e.reg k) (d : Dev) :
    (each xs f d).reg k = d.reg k :=
  each_holds (fun e => e.reg k = d.reg k) xs f (fun x hx e he => (step x hx e).trans he) rfl

theorem Dev.reg_iterate {n : Nat} {f : Nat → Dev → Dev} {k : Nat} (step : ∀ i < n, ∀ e : Dev, (f i e).reg k = e.reg k) (d : Dev) :
    (iterate n f d).reg k = d.reg k := Dev.reg_each (fun i hi => step i (List.mem_range.1 hi)) d

section
variable (d : Dev)

theorem Dev.keeps_sett (x : Sett) : d.Keeps { d with sett := x } [.sett] := by
  intro p hp
  cases p with
  | sett => simp at hp
  | _ => rfl

theorem Dev.keeps_boot (x : Boot) : d.Keeps { d with boot := x } [.boot] := by
  intro p hp
  cases p with
  | boot => simp at hp
  | _ => rfl

theorem Dev.keeps_event (n : Nat) : d.Keeps { d with event := n } [.event] := by
  intro p hp
  cases p with
  | event => simp at hp
  | _ => rfl

theorem Dev.keeps_modHart (h : Nat) (f : Hart → Hart) : d.Keeps (d.modHart h f) [.sett] := d.keeps_sett _

theorem Dev.keeps_endAsks : d.Keeps d.endAsks [.sett] := Dev.Keeps.each _ _ (fun h e => e.keeps_modHart h _) d

/-- The entries a change of the device state writes. -/
abbrev stateRegs : List Nat := [Reg.R1001_DEV_STATE, Reg.R1001_STATE_CYCLE, Reg.R6020_CONFIRM_CYCLES]

/-- The device with another device state shown (R448). -/
def Dev.stateShown (d : Dev) (st : Nat) : Dev :=
  (((d.when (d.state == DevState.run) Dev.endAsks).set Reg.R1001_DEV_STATE st).set Reg.R1001_STATE_CYCLE
    (d.when (d.state == DevState.run) Dev.endAsks).cycle).when
    (st == DevState.failed) fun d => d.set Reg.R6020_CONFIRM_CYCLES 0

/-- The device with a bit of EVENT set. -/
def Dev.signals (d : Dev) (bit : Nat) : Dev := { d with event := d.event ||| bit }

theorem Dev.goTo_same {st : Nat} (h : d.state = st) : d.goTo st = d := if_pos h

theorem Dev.goTo_other {st : Nat} (h : d.state ≠ st) : d.goTo st = (d.stateShown st).signals 1 := by
  rw [Dev.goTo, if_neg h]
  rfl

theorem Dev.reg_signals (bit k : Nat) : (d.signals bit).reg k = d.reg k := rfl

theorem Dev.keeps_signals (bit : Nat) : d.Keeps (d.signals bit) [.event] := d.keeps_event _

theorem Dev.keeps_stateShown (st : Nat) : d.Keeps (d.stateShown st) [.od, .sett] :=
  ((((Dev.Keeps.refl _ _).cond _ _ ((Dev.keeps_endAsks _).mono (by decide))).set _ _).set _ _).cond _ _ ((Dev.keeps_set _ _ _).mono (by decide))

theorem Dev.keeps_goTo (st : Nat) : d.Keeps (d.goTo st) [.od, .event, .sett] := by
  by_cases same : d.state = st
  · rw [d.goTo_same same]
    exact Dev.Keeps.refl _ _
  · rw [d.goTo_other same]
    exact ((d.keeps_stateShown st).mono (by decide)).step (Dev.keeps_signals _ 1)

theorem Dev.reg_endAsks (k : Nat) : d.endAsks.reg k = d.reg k := Dev.reg_congr (d.keeps_endAsks .od (by decide)) k

theorem Dev.reg_goTo (st : Nat) {k : Nat} (h : k ∉ stateRegs) : (d.goTo st).reg k = d.reg k := by
  obtain ⟨state, cycle, confirm⟩ : k ≠ Reg.R1001_DEV_STATE ∧ k ≠ Reg.R1001_STATE_CYCLE ∧ k ≠ Reg.R6020_CONFIRM_CYCLES := by simpa using h
  by_cases same : d.state = st
  · rw [d.goTo_same same]
  · rw [d.goTo_other same, Dev.reg_signals, Dev.stateShown, Dev.reg_when_set _ _ _ confirm, Dev.reg_set_other _ _ cycle,
      Dev.reg_set_other _ _ state, Dev.reg_when _ _ (Dev.reg_endAsks _ _)]

theorem odType_devState : odType Reg.R1001_DEV_STATE = .u8 ∧ odType Reg.R1001_SAFE_CAUSE = .u16 := by decide +kernel

theorem Dev.state_goTo {st : Nat} (h : st < 256) : (d.goTo st).state = st := by
  by_cases same : d.state = st
  · rw [d.goTo_same same, same]
  · have apart : Reg.R1001_DEV_STATE ≠ Reg.R6020_CONFIRM_CYCLES ∧ Reg.R1001_DEV_STATE ≠ Reg.R1001_STATE_CYCLE := by decide
    rw [d.goTo_other same, Dev.state, Dev.nat, Dev.reg_signals, Dev.stateShown, Dev.reg_when_set _ _ _ apart.1,
      Dev.reg_set_other _ _ apart.2, Dev.reg_set_same, odType_devState.1, OdType.toNat_wrap_u8 h]

theorem Dev.keeps_setSafeOut (k : Nat) (x : SafeOut) : d.Keeps (d.setSafeOut k x) [.safe] := d.keeps_safe _

/-- The entries of the safe outputs' states and of the permits. -/
def OutputReg (k : Nat) : Prop := (∃ i < 8, k = Reg.R5020_STATE i) ∨ ∃ n < 128, k = Reg.R5080_PERMIT n

theorem Dev.keeps_outputsOff : d.Keeps d.outputsOff [.od, .safe] :=
  Dev.Keeps.iterate _ _ (fun _ _ => ((Dev.Keeps.refl _ _).step (Dev.keeps_setSafeOut _ _ _)).cond _ _ ((Dev.keeps_set _ _ _).mono (by decide))) d

theorem Dev.reg_outputsOff {k : Nat} (h : ¬OutputReg k) : d.outputsOff.reg k = d.reg k := by
  refine Dev.reg_iterate (fun i hi e => ?_) d
  have apart : k ≠ Reg.R5020_STATE i := fun same => h (.inl ⟨i, hi, same⟩)
  rw [Dev.reg_when _ _ (Dev.reg_set_other _ _ apart)]
  rfl

theorem Dev.keeps_permitsOff : d.Keeps d.permitsOff [.od] := Dev.Keeps.iterate _ _ (fun _ _ => Dev.keeps_set _ _ _) d

theorem Dev.reg_permitsOff {k : Nat} (h : ¬OutputReg k) : d.permitsOff.reg k = d.reg k :=
  Dev.reg_iterate (fun n hn _ => Dev.reg_set_other _ _ fun same => h (.inr ⟨n, hn, same⟩)) d

/-- The parts the entry into SAFE may change. -/
abbrev safeParts : List Part := reactionParts ++ [.sett, .boot]

/-- The entries the entry into SAFE may change. -/
def SafeReg (k : Nat) : Prop := ReactionReg (· < 256) (· < 16) k ∨ OutputReg k ∨ k ∈ Reg.R1001_SAFE_CAUSE :: stateRegs

theorem Dev.keeps_stoAll (code : Nat) : d.Keeps (d.stoAll code) reactionParts := (d.stoAll_reacts code).keeps

/-- The device in SAFE, before the axes react. -/
def Dev.safeShown (d : Dev) (cause : Nat) : Dev :=
  (({ (d.set Reg.R6020_CONFIRM_CYCLES 0) with boot := { d.boot with safeByCmd := false } } : Dev).goTo DevState.safe).set
    Reg.R1001_SAFE_CAUSE cause

theorem Dev.enterSafe_eq (cause : Nat) : d.enterSafe cause = (((d.safeShown cause).stoAll cause).outputsOff).permitsOff := rfl

theorem Dev.keeps_safeShown (cause : Nat) : d.Keeps (d.safeShown cause) [.od, .event, .sett, .boot] :=
  Dev.Keeps.set ((((Dev.Keeps.refl _ _).set _ _).step (Dev.keeps_boot _ _)).step (Dev.keeps_goTo _ _)) _ _

theorem Dev.reg_safeShown (cause : Nat) {k : Nat} (h : k ∉ Reg.R1001_SAFE_CAUSE :: stateRegs) : (d.safeShown cause).reg k = d.reg k := by
  obtain ⟨own, state⟩ : k ≠ Reg.R1001_SAFE_CAUSE ∧ k ∉ stateRegs := not_or.1 fun g => h (List.mem_cons.2 g)
  rw [Dev.safeShown, Dev.reg_set_other _ _ own, Dev.reg_goTo _ _ state]
  exact Dev.reg_set_other _ _ (by rintro rfl; simp at state)

theorem Dev.keeps_enterSafe (cause : Nat) : d.Keeps (d.enterSafe cause) safeParts :=
  (((((Dev.Keeps.refl _ _).step (d.keeps_safeShown cause)).step (Dev.keeps_stoAll _ cause)).step (Dev.keeps_outputsOff _)).step
    (Dev.keeps_permitsOff _))

theorem Dev.reg_enterSafe (cause : Nat) {k : Nat} (h : ¬SafeReg k) : (d.enterSafe cause).reg k = d.reg k := by
  obtain ⟨reaction, output, own⟩ : ¬ReactionReg _ _ k ∧ ¬OutputReg k ∧ k ∉ Reg.R1001_SAFE_CAUSE :: stateRegs := by
    simpa only [SafeReg, not_or] using h
  rw [Dev.enterSafe_eq, Dev.reg_permitsOff _ output, Dev.reg_outputsOff _ output, (Dev.stoAll_reacts _ cause).regs k reaction,
    Dev.reg_safeShown _ _ own]

end

/-! ## Entries that no entry into SAFE writes -/

/-- An entry below the axes' is one of SAFE only where it is one of the device's state or of the log. -/
theorem not_safeReg {k : Nat} (low : k / 4096 < 0x200) (own : k ∉ Reg.R1001_SAFE_CAUSE :: stateRegs) (log : k ∉ logRegs) : ¬SafeReg k := by
  rintro ((⟨n, -, -, ax⟩ | ⟨c, -, -, ch⟩ | gen | is) | (⟨i, -, out⟩ | ⟨n, -, permit⟩) | is)
  · omega
  · simp only [Reg.CH5_CONTROL, Reg.key] at ch; omega
  · omega
  · exact log is
  · simp only [Reg.R5020_STATE, Reg.key] at out; omega
  · simp only [Reg.R5080_PERMIT, Reg.key] at permit; omega
  · exact own is

end Sys2Proof.Machine
end

section
/-! # Cluster start, integration and the offset correction (R317 to R325, R339) -/

namespace Sys2Proof.Machine

theorem odType_ofNet : odType Reg.R1400_NET_STATE = .u8 ∧ odType Reg.R1140_NT_VALID = .bool ∧ odType Reg.R1400_LEADER_ID = .u16 ∧
    odType Reg.R1430_SYNC_RX = .u8 ∧ odType Reg.R1430_SYNC_LOSSES = .u32 := by decide +kernel

/-! ## The network state -/

section
variable (d : Dev)

theorem Dev.keeps_setLink (f : Link → Link) : d.Keeps (d.setLink f) [.link] := d.keeps_link _

theorem Dev.reg_setLink (f : Link → Link) (k : Nat) : (d.setLink f).reg k = d.reg k := rfl

theorem Dev.nat_setLink (f : Link → Link) (k : Nat) : (d.setLink f).nat k = d.nat k := rfl

theorem Dev.out_setLink (f : Link → Link) : (d.setLink f).out = d.out := rfl

theorem Dev.keeps_setNet (st : Nat) : d.Keeps (d.setNet st) [.od] := ((Dev.Keeps.refl _ _).set _ _).set _ _

theorem Dev.reg_setNet (st : Nat) {k : Nat} (h : k ∉ [Reg.R1400_NET_STATE, Reg.R1140_NT_VALID]) : (d.setNet st).reg k = d.reg k := by
  obtain ⟨net, valid⟩ : k ≠ Reg.R1400_NET_STATE ∧ k ≠ Reg.R1140_NT_VALID := by simpa using h
  rw [Dev.setNet, Dev.reg_set_other _ _ valid, Dev.reg_set_other _ _ net]

theorem Dev.net_setNet {st : Nat} (h : st < 256) : (d.setNet st).net = st := by
  rw [Dev.net, Dev.nat, Dev.setNet, Dev.reg_set_other _ _ (by decide), Dev.reg_set_same, odType_ofNet.1, OdType.toNat_wrap_u8 h]

theorem Dev.valid_setNet (st : Nat) : (d.setNet st).flag Reg.R1140_NT_VALID = (st == NetState.inSync) := by
  rw [Dev.flag, Dev.setNet, Dev.reg_set_same, odType_ofNet.2.1]
  by_cases sync : st = NetState.inSync
  · simp [sync, OdType.wrap, OdType.signed, OdType.size]
  · simp [sync, OdType.wrap, OdType.signed, OdType.size]

/-! ## Synchronisation reached -/

/-- The device with the network in synchronisation, before the device's own state follows. -/
def Dev.synced (d : Dev) : Dev :=
  (d.setNet NetState.inSync).setLink fun l => { l with noSync := 0, devs := [], integ := 0, syncFrom := d.clk.cycle64 }

theorem Dev.nowInSync_cases : d.nowInSync = d.synced ∨ (∃ g, d.nowInSync = d.synced.setPair g) ∨ d.nowInSync = d.synced.goTo DevState.run ∨
    d.nowInSync = d.synced.enterSafe 0 := by
  unfold Dev.nowInSync
  dsimp only
  split
  · split
    · exact .inr (.inl ⟨_, rfl⟩)
    · split
      · exact .inr (.inr (.inl rfl))
      · exact .inr (.inr (.inr rfl))
  · exact .inl rfl

/-- The parts that reaching synchronisation may change. -/
abbrev syncParts : List Part := safeParts ++ [.link, .pair]

theorem Dev.keeps_nowInSync : d.Keeps d.nowInSync syncParts := by
  have synced : d.Keeps d.synced syncParts := ((d.keeps_setNet _).mono (by decide)).step (Dev.keeps_setLink _ _)
  rcases d.nowInSync_cases with h | ⟨g, h⟩ | h | h
  · rw [h]; exact synced
  · rw [h]; exact synced.step (Dev.keeps_pair _ _)
  · rw [h]; exact synced.step (Dev.keeps_goTo _ _)
  · rw [h]; exact synced.step (Dev.keeps_enterSafe _ _)

theorem Dev.reg_nowInSync {k : Nat} (h : ¬SafeReg k) : d.nowInSync.reg k = d.synced.reg k := by
  have state : k ∉ stateRegs := fun mem => h (.inr (.inr (List.mem_cons_of_mem _ mem)))
  rcases d.nowInSync_cases with e | ⟨g, e⟩ | e | e
  · rw [e]
  · rw [e]; rfl
  · rw [e, Dev.reg_goTo _ _ state]
  · rw [e, Dev.reg_enterSafe _ _ h]

theorem Dev.nowInSync_net : d.nowInSync.net = NetState.inSync ∧ d.nowInSync.flag Reg.R1140_NT_VALID = true := by
  have apart : ¬SafeReg Reg.R1400_NET_STATE ∧ ¬SafeReg Reg.R1140_NT_VALID :=
    ⟨not_safeReg (by decide) (by decide) (by decide), not_safeReg (by decide) (by decide) (by decide)⟩
  refine ⟨?_, ?_⟩
  · rw [Dev.net, Dev.nat, d.reg_nowInSync apart.1]
    exact d.net_setNet (by decide)
  · rw [Dev.flag, d.reg_nowInSync apart.2]
    exact d.valid_setNet NetState.inSync

end

/-! ## Commands that may move the counters -/

section
variable {s : State} (live : s.Live) (clock : s.ClockOk)

theorem Leaves.clockKept {i : Instr} {d : Dev} {guard : Dev → (Dev → Dev) → Dev} (g : Dev → Dev) (pass : s.Passes guard) (result : g s.found = d)
    (clock : s.ClockOk) (same : d.clk = s.dev.clk) (hi : exec i s = s.answerClk fun d => guard d g) : Leaves i s d :=
  Leaves.clocked g pass result (same ▸ clock.1) (same ▸ clock.2) hi

/-! ## Cold start (R318) -/

/-- The counters of a cold start: cycle 0 begins now. -/
def Dev.coldClock (d : Dev) : Clock :=
  { d.clk with cycle64 := d.clk.cycle64 / 2 ^ 32 * 2 ^ 32, tick := 0, raw := d.rawNow,
               si := if d.nat Reg.R1140_WALL_STATE = 0 then 0 else d.wtAt d.rawNow,
               ntOff := (if d.nat Reg.R1140_WALL_STATE = 0 then 0 else d.wtAt d.rawNow) - d.rawNow * d.clk.ntRate }

/-- The device in COLDSTART, before it sends its frame. -/
def Dev.coldBegun (d : Dev) : Dev :=
  (((({ d with clk := d.coldClock, ph := {} } : Dev).setNet NetState.coldstart).set Reg.R1430_NT0 (time40 d.coldClock.si)).set
    Reg.R1400_LEADER_ID (d.node Reg.R1400_NODE_ID)).setLink fun l => { l with csSent := 0 }

theorem Dev.startCold_eq (d : Dev) : d.startCold = d.coldBegun.sendColdstart := rfl

end

/-! ## Frames sent and forwarded -/

section
variable (d : Dev)

theorem iterate_succ {σ : Type} (n : Nat) (f : Nat → σ → σ) (x : σ) : iterate (n + 1) f x = f n (iterate n f x) := by
  simp [iterate, List.range_succ]

theorem Dev.keeps_out (o : List Sent) : d.Keeps { d with out := o } [] := by
  intro p _
  cases p <;> rfl

theorem Dev.keeps_send (p : Nat) (b : Bytes) (fcs : Bool) : d.Keeps (d.send p b fcs) [.od] := by
  unfold Dev.send
  split
  · exact Dev.Keeps.refl _ _
  · exact ((d.keeps_out _).mono (by decide)).cond _ _ (Dev.keeps_set _ _ _)

theorem Dev.reg_send {p k : Nat} (b : Bytes) (fcs : Bool) (h : p < 4 → k ≠ Reg.R1410_TX_FRAMES p) : (d.send p b fcs).reg k = d.reg k := by
  unfold Dev.send
  split
  · rfl
  · unfold Dev.when
    dsimp only
    split
    next low => exact Dev.reg_set_other _ _ (h (of_decide_eq_true low))
    next => rfl

theorem Dev.keeps_forward (f : FrameIn) (h : Header) (wait : Nat) (b : Bytes) (ports : List Nat) : d.Keeps (d.forward f h wait b ports) [.od] :=
  Dev.Keeps.each _ _ (fun p e => e.keeps_send p _ _) d

theorem Dev.reg_forward (f : FrameIn) (h : Header) (wait : Nat) (b : Bytes) (ports : List Nat) {k : Nat}
    (apart : ∀ p < 4, k ≠ Reg.R1410_TX_FRAMES p) : (d.forward f h wait b ports).reg k = d.reg k :=
  Dev.reg_each (fun p _ e => e.reg_send _ _ (apart p)) d

/-- A frame out of every port whose link is up. -/
def Dev.sendUp (d : Dev) (n : Nat) (b : Bytes) : Dev :=
  iterate n (fun p d => d.when (d.nat (Reg.R1410_LINK_STATE p) == 1) fun d => d.send p b) d

theorem Dev.keeps_sendUp (n : Nat) (b : Bytes) : d.Keeps (d.sendUp n b) [.od] :=
  Dev.Keeps.iterate _ _ (fun p e => Dev.Keeps.when _ _ (e.keeps_send p b true)) d

theorem Dev.reg_sendUp (n : Nat) (b : Bytes) {k : Nat} (apart : ∀ p < 4, k ≠ Reg.R1410_TX_FRAMES p) : (d.sendUp n b).reg k = d.reg k :=
  Dev.reg_iterate (fun p _ e => Dev.reg_when _ _ (e.reg_send _ _ (apart p))) d

theorem sentReg_apart : ∀ p < 4, (∀ q < 4, Reg.R1410_LINK_STATE q ≠ Reg.R1410_TX_FRAMES p) ∧ Reg.R1001_DEV_STATE ≠ Reg.R1410_TX_FRAMES p ∧
    Reg.R1400_NET_STATE ≠ Reg.R1410_TX_FRAMES p ∧ Reg.R1140_NT_VALID ≠ Reg.R1410_TX_FRAMES p := by decide +kernel

theorem Dev.out_sendUp {n : Nat} (hn : n ≤ 4) (b : Bytes) (loud : d.link.silent = false) (alive : d.state ≠ DevState.failed) :
    (d.sendUp n b).out.map (fun y => y.port) =
      d.out.map (fun y => y.port) ++ (List.range n).filter fun p => d.nat (Reg.R1410_LINK_STATE p) == 1 := by
  induction n with
  | zero => simp [Dev.sendUp, iterate]
  | succ n ih =>
    have before := ih (by omega)
    have link : (d.sendUp n b).link = d.link := d.keeps_sendUp n b .link (by decide)
    have state : (d.sendUp n b).state = d.state :=
      congrArg Int.toNat (d.reg_sendUp n b fun p hp => (sentReg_apart p hp).2.1)
    have port : (d.sendUp n b).nat (Reg.R1410_LINK_STATE n) = d.nat (Reg.R1410_LINK_STATE n) :=
      congrArg Int.toNat (d.reg_sendUp n b fun p hp => (sentReg_apart p hp).1 n (by omega))
    have step : d.sendUp (n + 1) b = (d.sendUp n b).when ((d.sendUp n b).nat (Reg.R1410_LINK_STATE n) == 1) fun d => d.send n b :=
      iterate_succ _ _ _
    rw [step, port, List.range_succ, List.filter_append, ← List.append_assoc, ← before]
    by_cases up : d.nat (Reg.R1410_LINK_STATE n) = 1
    · rw [Dev.when, if_pos (by simpa using up), Dev.send_loud (by omega) ⟨by rw [link]; exact loud, by rw [state]; exact alive⟩, Dev.out_sent]
      simp [up]
    · rw [Dev.when, if_neg (by simpa using up)]
      simp [up]

end

section
variable {s : State} (live : s.Live) (clock : s.ClockOk)
include live clock

theorem listenTimeout_idle (h : ¬(s.found.net = NetState.listen ∧ s.found.node Reg.R1400_ROLE = 1 ∧ s.found.node Reg.R1400_NODE_ID ≠ 0 ∧
      s.found.link.bypass = false ∧ s.found.link.listenAt + (s.found.node Reg.R1400_LISTEN_BASE_US * 1000 + s.found.node Reg.R1400_RANK * 4000 +
      s.found.node Reg.R1400_NODE_ID * 20) ≤ s.found.rawNow)) : Does .listenTimeout s fun b a => b.Keeps a [] :=
  (Leaves.clockKept (fun d => d.listenTimeout) live.passes (if_neg h) clock rfl rfl).unchanged

omit live clock in
/-- The device after a cold start's frame. -/
theorem Dev.sendColdstart_sends (d : Dev) : ∃ b, d.sendColdstart = (d.sendUp 4 b).setLink fun l => { l with csSent := l.csSent + 1 } :=
  ⟨d.mkFrame FrameKind.coldstart 0 0 0 d.cycle d.clk.si [byte (d.node Reg.R1400_RANK), 0, 0, 0] 64, rfl⟩

omit live clock in
theorem Dev.coldBegun_shows (d : Dev) : d.coldBegun.net = NetState.coldstart ∧ d.coldBegun.state = d.state ∧
    (∀ p < 4, d.coldBegun.nat (Reg.R1410_LINK_STATE p) = d.nat (Reg.R1410_LINK_STATE p)) ∧ d.coldBegun.clk = d.coldClock ∧
    d.coldBegun.link = { d.link with csSent := 0 } ∧ d.coldBegun.out = d.out := by
  have apart : ∀ k, k ∉ [Reg.R1400_NET_STATE, Reg.R1140_NT_VALID, Reg.R1430_NT0, Reg.R1400_LEADER_ID] → d.coldBegun.reg k = d.reg k := by
    intro k hk
    obtain ⟨h₀, h₁, h₂, h₃⟩ : k ≠ Reg.R1400_NET_STATE ∧ k ≠ Reg.R1140_NT_VALID ∧ k ≠ Reg.R1430_NT0 ∧ k ≠ Reg.R1400_LEADER_ID := by simpa using hk
    rw [Dev.coldBegun, Dev.reg_setLink, Dev.reg_set_other _ _ h₃, Dev.reg_set_other _ _ h₂, Dev.reg_setNet _ _ (by simp [h₀, h₁])]
    rfl
  refine ⟨?_, congrArg Int.toNat (apart _ (by decide)), fun p hp => congrArg Int.toNat (apart _ ?_), rfl, rfl, rfl⟩
  · rw [Dev.net, Dev.coldBegun, Dev.nat_setLink, Dev.nat_set_other _ _ (by decide), Dev.nat_set_other _ _ (by decide)]
    exact Dev.net_setNet _ (by decide)
  · have ports : ∀ p < 4, Reg.R1410_LINK_STATE p ∉ [Reg.R1400_NET_STATE, Reg.R1140_NT_VALID, Reg.R1430_NT0, Reg.R1400_LEADER_ID] := by
      decide +kernel
    exact ports p hp

omit live clock in
theorem Dev.startCold_shows (d : Dev) : d.startCold.net = NetState.coldstart ∧ d.startCold.clk = d.coldClock ∧ d.startCold.link.csSent = 1 ∧
    (d.link.silent = false → d.state ≠ DevState.failed → d.startCold.out.map (fun y => y.port) =
      d.out.map (fun y => y.port) ++ (List.range 4).filter fun p => d.nat (Reg.R1410_LINK_STATE p) == 1) := by
  obtain ⟨net, state, ports, clk, link, out⟩ := d.coldBegun_shows
  obtain ⟨b, sent⟩ := d.coldBegun.sendColdstart_sends
  rw [← Dev.startCold_eq] at sent
  have kept := d.coldBegun.keeps_sendUp 4 b
  refine ⟨?_, ?_, ?_, fun loud alive => ?_⟩
  · rw [sent, Dev.net, Dev.nat_setLink, Dev.nat, Dev.reg_sendUp _ _ _ fun p hp => (sentReg_apart p hp).2.2.1]
    exact net
  · have same : (d.coldBegun.sendUp 4 b).clk = d.coldBegun.clk := kept .clk (by decide)
    rw [sent, (Dev.setLink_keeps _ _).1, same, clk]
  · have same : (d.coldBegun.sendUp 4 b).link = d.coldBegun.link := kept .link (by decide)
    rw [sent, Dev.setLink_link, same, link]
  · have sends := d.coldBegun.out_sendUp (n := 4) (by omega) b (by rw [link]; exact loud) (by rw [state]; exact alive)
    have up : ((List.range 4).filter fun p => d.coldBegun.nat (Reg.R1410_LINK_STATE p) == 1) =
        (List.range 4).filter fun p => d.nat (Reg.R1410_LINK_STATE p) == 1 :=
      List.filter_congr fun p hp => by rw [ports p (List.mem_range.1 hp)]
    rw [sent, Dev.out_setLink, sends, up, out]

theorem listenTimeout_begins (cold : s.found.net = NetState.listen ∧ s.found.node Reg.R1400_ROLE = 1 ∧ s.found.node Reg.R1400_NODE_ID ≠ 0 ∧
      s.found.link.bypass = false ∧ s.found.link.listenAt + (s.found.node Reg.R1400_LISTEN_BASE_US * 1000 + s.found.node Reg.R1400_RANK * 4000 +
      s.found.node Reg.R1400_NODE_ID * 20) ≤ s.found.rawNow) : Does .listenTimeout s fun b a =>
    a.net = NetState.coldstart ∧ a.clk.tick = 0 ∧ a.clk.cycle64 % 2 ^ 32 = 0 ∧ a.clk.raw = b.rawNow ∧ a.link.csSent = 1 ∧
    (b.link.silent = false → b.state ≠ DevState.failed →
      a.out.map (fun y => y.port) = (List.range 4).filter fun p => b.nat (Reg.R1410_LINK_STATE p) == 1) := by
  obtain ⟨net, clk, sent, out⟩ := s.found.startCold_shows
  have room : s.found.coldClock.cycle64 < 2 ^ 64 := (Nat.div_mul_le_self _ _).trans_lt clock.2
  have leaves : Leaves .listenTimeout s s.found.startCold :=
    Leaves.clocked (fun d => d.listenTimeout) live.passes (if_pos cold) (by rw [clk]; exact Nat.zero_lt_succ _) (by rw [clk]; exact room) rfl
  obtain ⟨e, made⟩ : ∃ e, e = s.found.startCold := ⟨_, rfl⟩
  rw [← made] at net clk sent out leaves
  have cycle : e.clk.cycle64 % 2 ^ 32 = 0 := by rw [clk]; exact Nat.mul_mod_left _ _
  exact leaves.does fun pend vecs => ⟨net, by rw [show (e.told pend vecs).clk = e.clk from rfl, clk]; rfl, cycle,
    by rw [show (e.told pend vecs).clk = e.clk from rfl, clk]; rfl, sent, out⟩

/-! ## Leading, integrating, listening anew (R319, R339) -/

theorem coldstartLead_idle (h : ¬(s.found.net = NetState.coldstart ∧ s.found.node Reg.R1400_COLDSTART_CYCLES ≤ s.found.link.csSent ∧
    s.found.node Reg.R1400_COLDSTART_CYCLES ≤ s.found.cycle)) : Does .coldstartLead s fun b a => b.Keeps a [] :=
  (Leaves.clockKept (fun d => d.coldstartLead) live.passes (if_neg h) clock rfl rfl).unchanged

theorem coldstartLead_leads (h : s.found.net = NetState.coldstart ∧ s.found.node Reg.R1400_COLDSTART_CYCLES ≤ s.found.link.csSent ∧
    s.found.node Reg.R1400_COLDSTART_CYCLES ≤ s.found.cycle) : Does .coldstartLead s fun b a =>
    a.net = NetState.inSync ∧ a.flag Reg.R1140_NT_VALID = true ∧ a.link.sendFrom = some b.clk.cycle64 := by
  obtain ⟨e, made⟩ : ∃ e, e = (s.found.raise Code.COLDSTART_LEAD Kind.device 0).nowInSync := ⟨_, rfl⟩
  have shown := (s.found.raise Code.COLDSTART_LEAD Kind.device 0).nowInSync_net
  have clk : e.clk = s.found.clk := by
    rw [made, (Dev.keeps_nowInSync _) .clk (by decide)]
    exact s.found.keeps_raise _ _ _ _ _ .clk (by decide)
  rw [← made] at shown
  have leaves : Leaves .coldstartLead s (e.setLink fun l => { l with sendFrom := some s.found.clk.cycle64 }) :=
    Leaves.clockKept (fun d => d.coldstartLead) live.passes (by rw [made]; exact if_pos h) clock clk rfl
  exact leaves.does fun pend vecs => ⟨shown.1, shown.2, rfl⟩

theorem integrationComplete_idle (h : ¬(s.found.net = NetState.integrating ∧ s.found.node Reg.R1400_INTEG_CYCLES ≤ s.found.link.integ ∧
    s.found.link.sawSync = true)) : Does .integrationComplete s fun b a => b.Keeps a [] :=
  (Leaves.clockKept (fun d => d.integrationComplete) live.passes (if_neg h) clock rfl rfl).unchanged

theorem integrationComplete_syncs (h : s.found.net = NetState.integrating ∧ s.found.node Reg.R1400_INTEG_CYCLES ≤ s.found.link.integ ∧
    s.found.link.sawSync = true) : Does .integrationComplete s fun b a =>
    a.net = NetState.inSync ∧ a.flag Reg.R1140_NT_VALID = true ∧ a.link.sendFrom = some (b.clk.cycle64 + 1) := by
  obtain ⟨e, made⟩ : ∃ e, e = s.found.nowInSync := ⟨_, rfl⟩
  have shown := s.found.nowInSync_net
  have clk : e.clk = s.found.clk := by
    rw [made]
    exact s.found.keeps_nowInSync .clk (by decide)
  rw [← made] at shown
  have leaves : Leaves .integrationComplete s (e.setLink fun l => { l with sendFrom := some (s.found.clk.cycle64 + 1) }) :=
    Leaves.clockKept (fun d => d.integrationComplete) live.passes (by rw [made]; exact if_pos h) clock clk rfl
  exact leaves.does fun pend vecs => ⟨shown.1, shown.2, rfl⟩

omit live clock in
/-- The node settings, in the order in which they take effect. -/
abbrev nodeRegs : List Nat :=
  [Reg.R1400_NODE_ID, Reg.R1400_CLUSTER_ID, Reg.R1400_ETHERTYPE, Reg.R1400_ROLE, Reg.R1400_RANK, Reg.R1400_SYNC_NODE,
    Reg.R1400_LISTEN_BASE_US, Reg.R1400_COLDSTART_CYCLES, Reg.R1400_INTEG_CYCLES, Reg.R1400_PRECISION_NS, Reg.R1400_CORR_LIMIT_NS]

omit live clock in
/-- The device with its node settings in effect. -/
def Dev.settled (d : Dev) : Dev :=
  (each nodeRegs (fun k d => d.set (act k) (d.reg k)) d).set (act Reg.R1400_DEST_MAC)
    ((each nodeRegs (fun k d => d.set (act k) (d.reg k)) d).reg Reg.R1400_DEST_MAC)

omit live clock in
/-- The same when it has begun to listen, before the network state follows. -/
def Dev.listening (d : Dev) : Dev :=
  d.settled.setLink fun l => { l with listenAt := d.settled.rawNow, csSent := 0, integ := 0, sawSync := false }

omit live clock in
theorem Dev.keeps_settled (d : Dev) : d.Keeps d.settled [.od] :=
  (Dev.Keeps.each nodeRegs (fun k d => d.set (act k) (d.reg k)) (fun k e => e.keeps_set (act k) (e.reg k)) d).set _ _

omit live clock in
theorem Dev.keeps_listening (d : Dev) : d.Keeps d.listening [.od, .link] :=
  (d.keeps_settled.mono (by decide)).step (Dev.keeps_setLink _ _)

omit live clock in
theorem Dev.reg_listening (d : Dev) {k : Nat} (own : k ∈ nodeRegs) : d.listening.reg (act k) = (odType (act k)).wrap (d.reg k) := by
  have low : ∀ j ∈ nodeRegs, j % 256 < 128 ∧ act j ≠ act Reg.R1400_DEST_MAC := by decide
  rw [Dev.listening, Dev.reg_setLink, Dev.settled, Dev.reg_set_other _ _ (low k own).2, (Dev.reg_activateEach nodeRegs (fun j hj => (low j hj).1) d).2 k (low k own).1,
    if_pos own]

omit live clock in
/-- A node that is no fixed master listens. -/
theorem Dev.enterListen_listens (d : Dev) (free : d.reg Reg.R1400_ROLE = 0 ∨ d.reg Reg.R1400_ROLE = 1) :
    d.enterListen = d.listening.setNet NetState.listen := by
  have role : d.listening.node Reg.R1400_ROLE ≠ 2 := by
    have type : odType (act Reg.R1400_ROLE) = .u8 := by decide +kernel
    rw [Dev.node, Dev.nat, d.reg_listening (by simp), type]
    rcases free with h | h <;> rw [h] <;> decide
  unfold Dev.enterListen
  extract_lets activated addressed listens
  have same : listens = d.listening := rfl
  rw [if_neg (by rw [same]; exact fun h => role h.1), same]

omit live clock in
theorem Dev.enterListen_shows (d : Dev) (free : d.reg Reg.R1400_ROLE = 0 ∨ d.reg Reg.R1400_ROLE = 1) :
    d.enterListen.net = NetState.listen ∧ d.enterListen.flag Reg.R1140_NT_VALID = false ∧
    d.enterListen.link.listenAt = d.rawNow ∧ d.enterListen.clk = d.clk ∧ d.enterListen.ph = d.ph ∧
    d.enterListen.reg (act Reg.R1400_NODE_ID) = (odType (act Reg.R1400_NODE_ID)).wrap (d.reg Reg.R1400_NODE_ID) := by
  rw [d.enterListen_listens free]
  have keeps : d.Keeps (d.listening.setNet NetState.listen) [.od, .link] := d.keeps_listening.step (Dev.keeps_setNet _ _)
  have since : d.settled.rawNow = d.rawNow := by
    rw [Dev.rawNow, Dev.rawNow, d.keeps_settled .clk (by decide), d.keeps_settled .ph (by decide)]
  refine ⟨Dev.net_setNet _ (by decide), Dev.valid_setNet _ _, since, keeps .clk (by decide), keeps .ph (by decide), ?_⟩
  · rw [Dev.reg_setNet _ _ (by decide), d.reg_listening (by simp)]

theorem integrationTimeout_idle (h : ¬(s.found.net = NetState.integrating ∧ s.found.link.adoptAt + 1000000 ≤ s.found.rawNow)) :
    Does .integrationTimeout s fun b a => b.Keeps a [] :=
  (Leaves.clockKept (fun d => d.integrationTimeout) live.passes (if_neg h) clock rfl rfl).unchanged

omit live clock in
/-- What a node shows that listens anew. -/
def Dev.ListensAnew (d a : Dev) : Prop :=
  a.net = NetState.listen ∧ a.flag Reg.R1140_NT_VALID = false ∧ a.link.listenAt = a.rawNow ∧
    a.reg (act Reg.R1400_NODE_ID) = (odType (act Reg.R1400_NODE_ID)).wrap (d.reg Reg.R1400_NODE_ID)

theorem integrationTimeout_listens (lost : s.found.net = NetState.integrating ∧ s.found.link.adoptAt + 1000000 ≤ s.found.rawNow)
    (free : s.found.reg Reg.R1400_ROLE = 0 ∨ s.found.reg Reg.R1400_ROLE = 1) :
    Does .integrationTimeout s fun _ a => s.found.ListensAnew a := by
  obtain ⟨net, valid, since, clk, ph, id⟩ := s.found.enterListen_shows free
  have leaves : Leaves .integrationTimeout s s.found.enterListen :=
    Leaves.clockKept (fun d => d.integrationTimeout) live.passes (if_pos lost) clock clk rfl
  obtain ⟨e, made⟩ : ∃ e, e = s.found.enterListen := ⟨_, rfl⟩
  rw [← made] at net valid since clk ph id leaves
  have now : e.rawNow = s.found.rawNow := by rw [Dev.rawNow, Dev.rawNow, clk, ph]
  exact leaves.does fun pend vecs => ⟨net, valid, since.trans now.symm, id⟩

omit live in
theorem netControl_listens (up : s.Up) (free : s.found.reg Reg.R1400_ROLE = 0 ∨ s.found.reg Reg.R1400_ROLE = 1)
    (out : s.found.inSync = false) : Does (.netControl 1) s fun _ a => s.found.ListensAnew a ∧ a.done = Code.STATUS_OK := by
  obtain ⟨net, valid, since, clk, ph, id⟩ := s.found.enterListen_shows free
  have result : s.found.netControl 1 = s.found.enterListen.finish Code.STATUS_OK := by
    rw [Dev.netControl, if_neg (by simp), if_neg (by simp [out])]
  obtain ⟨e, made⟩ : ∃ e, e = s.found.enterListen := ⟨_, rfl⟩
  rw [← made] at net valid since clk ph id result
  have leaves : Leaves (.netControl 1) s (e.finish Code.STATUS_OK) :=
    Leaves.clockKept (fun d => d.netControl 1) up.passes result clock clk rfl
  have now : e.rawNow = s.found.rawNow := by rw [Dev.rawNow, Dev.rawNow, clk, ph]
  exact leaves.does fun pend vecs => ⟨⟨net, valid, since.trans now.symm, id⟩, rfl⟩

omit live in
theorem netControl_refused (up : s.Up) {v : Nat} (h : v ≠ 1) : Does (.netControl v) s fun b a => a.done = Code.OD_RANGE ∧ b.Keeps a [.done] :=
  Leaves.finished (Leaves.clockKept (fun d => d.netControl v) up.passes (if_pos h) clock rfl rfl)

end

/-! ## Time adopted from a frame (R318 to R320, R348) -/

section
variable (d : Dev) (f : FrameIn) (h : Header)

/-- The device with these counters and this sender adopted. -/
def Dev.adopted (d : Dev) (clk : Clock) (ph : Phase) (nt0 : Int) (source raw : Nat) : Dev :=
  (((({ d with clk, ph } : Dev).set Reg.R1430_NT0 (time40 nt0)).set Reg.R1400_LEADER_ID source).count Reg.R1140_STEPS).setLink
    fun l => { l with adoptAt := raw }

theorem Dev.adopt_adopts : ∃ e clk ph nt0, (e = d ∨ e = d.takeFresh.2) ∧ clk.tick = h.round ∧
    clk.cycle64 = d.clk.cycle64 / 2 ^ 32 * 2 ^ 32 + h.cycle ∧ d.adopt f h = e.adopted clk ph nt0 h.source f.raw := by
  unfold Dev.adopt
  extract_lets t off
  split
  rename_i si e made
  have which : e = d ∨ e = d.takeFresh.2 := by
    split at made
    · exact .inl (Prod.mk.inj made).2.symm
    · split at made
      · exact .inl (Prod.mk.inj made).2.symm
      · exact .inr (Prod.mk.inj made).2.symm
  have clk : e.clk = d.clk := by rcases which with rfl | rfl <;> rfl
  exact ⟨e, _, _, _, which, rfl, by rw [← clk], rfl⟩

theorem Dev.headerOf_fits {b : Bytes} {h : Header} (head : d.headerOf b = some h) : h.round < 8 ∧ h.cycle < 2 ^ 32 := by
  unfold Dev.headerOf at head
  dsimp only at head
  split at head
  · simp at head
  · obtain rfl := Option.some.inj head
    have first := fieldBE_lt b (14 + 6) 2
    exact ⟨by show fieldBE b (14 + 6) 2 / 8192 < 8; omega, fieldBE_lt b (14 + 8) 4⟩

theorem OdType.toNat_wrap_u16_mod (n : Nat) : (OdType.u16.wrap n).toNat = n % 2 ^ 16 := by
  show ((n : Int) % (2 ^ 16 : Int)).toNat = n % 2 ^ 16
  omega

theorem Dev.header_of_ingress {f : FrameIn} {h : Header} {e : Dev} (heard : d.ingress f = (some h, e)) : d.headerOf f.bytes = some h := by
  unfold Dev.ingress at heard
  split at heard
  · simp at heard
  · split at heard
    next => simp at heard
    next g head => rw [head, (Prod.mk.inj heard).1]

theorem Dev.beginIntegrating_shows : (d.beginIntegrating f h).net = NetState.integrating ∧ (d.beginIntegrating f h).clk.tick = h.round ∧
    (d.beginIntegrating f h).clk.cycle64 = d.clk.cycle64 / 2 ^ 32 * 2 ^ 32 + h.cycle ∧
    (d.beginIntegrating f h).nat Reg.R1400_LEADER_ID = h.source % 2 ^ 16 ∧ (d.beginIntegrating f h).link.integ = 0 := by
  obtain ⟨e, clk, ph, nt0, which, tick, cycle, adopts⟩ := (d.setNet NetState.integrating).adopt_adopts f h
  have net : e.net = NetState.integrating := by
    rcases which with rfl | rfl
    · exact d.net_setNet (by decide)
    · exact d.net_setNet (by decide)
  refine ⟨?_, ?_, ?_, ?_, rfl⟩
  · rw [Dev.beginIntegrating, Dev.net, Dev.nat_setLink, adopts, Dev.adopted, Dev.nat_setLink, Dev.count, Dev.nat_set_other _ _ (by decide),
      Dev.nat_set_other _ _ (by decide), Dev.nat_set_other _ _ (by decide)]
    exact net
  · rw [Dev.beginIntegrating, adopts]
    exact tick
  · rw [Dev.beginIntegrating, adopts]
    exact cycle
  · rw [Dev.beginIntegrating, Dev.nat_setLink, adopts, Dev.adopted, Dev.nat_setLink, Dev.count, Dev.nat_set_other _ _ (by decide), Dev.nat,
      Dev.reg_set_same, odType_ofNet.2.2.1]
    exact OdType.toNat_wrap_u16_mod _

theorem Dev.reg_transparent {k : Nat} (apart : ∀ p < 4, k ≠ Reg.R1410_TX_FRAMES p) : (d.transparent f h).reg k = d.reg k := by
  unfold Dev.transparent
  split
  · rfl
  · exact d.reg_forward f h 0 _ _ apart

theorem nodeReg_apart : ∀ p < 4, act Reg.R1400_ROLE ≠ Reg.R1410_TX_FRAMES p := by decide +kernel

theorem Dev.net_transparent : (d.transparent f h).net = d.net :=
  congrArg Int.toNat (d.reg_transparent f h fun p hp => (sentReg_apart p hp).2.2.1)

theorem Dev.role_transparent : (d.transparent f h).node Reg.R1400_ROLE = d.node Reg.R1400_ROLE :=
  congrArg Int.toNat (d.reg_transparent f h nodeReg_apart)

theorem Dev.keeps_transparent : d.Keeps (d.transparent f h) [.od] := by
  unfold Dev.transparent
  split
  · exact Dev.Keeps.refl _ _
  · exact d.keeps_forward f h 0 _ _

end

section
variable (d : Dev) (f : FrameIn) (h : Header)

/-- The device when a COLDSTART frame has been passed on, unless it was lately. -/
def Dev.coldHeard (d : Dev) (f : FrameIn) (h : Header) : Dev :=
  if (d.port f.port).csSeen.any fun (s, t) => s = h.source && decide (f.raw < t + 200000) then d
  else (d.transparent f h).modPort f.port fun x =>
    { x with csSeen := ((d.port f.port).csSeen.filter fun q => q.1 ≠ h.source) ++ [(h.source, f.raw)] }

theorem Dev.coldHeard_same : (d.coldHeard f h).clk = d.clk ∧ (d.coldHeard f h).net = d.net ∧
    (d.coldHeard f h).node Reg.R1400_ROLE = d.node Reg.R1400_ROLE := by
  unfold Dev.coldHeard
  split
  · exact ⟨rfl, rfl, rfl⟩
  · exact ⟨d.keeps_transparent f h .clk (by decide), d.net_transparent f h, d.role_transparent f h⟩

end

section
variable {s : State} (live : s.Live) (clock : s.ClockOk)
include clock

/-- A node that listens begins to integrate on a frame. -/
theorem frame_integrates {i : Instr} {f : FrameIn} {h : Header} {d : Dev} (heard : s.found.ingress f = (some h, s.found)) (same : d.clk = s.found.clk)
    (leaves : (d.beginIntegrating f h).clk.tick < 8 → (d.beginIntegrating f h).clk.cycle64 < 2 ^ 64 → Leaves i s (d.beginIntegrating f h)) :
    Does i s fun _ a => a.net = NetState.integrating ∧ a.clk.tick = h.round % 8 ∧ a.clk.cycle64 % 2 ^ 32 = h.cycle % 2 ^ 32 ∧
      a.nat Reg.R1400_LEADER_ID = h.source % 2 ^ 16 ∧ a.link.integ = 0 := by
  obtain ⟨round, cycleFits⟩ := s.found.headerOf_fits (s.found.header_of_ingress heard)
  obtain ⟨net, tick, cycle, leader, integ⟩ := d.beginIntegrating_shows f h
  have bound : s.found.clk.cycle64 < 2 ^ 64 := clock.2
  rw [same] at cycle
  have left := leaves (by rw [tick]; exact round) (by rw [cycle]; omega)
  obtain ⟨e, made⟩ : ∃ e, e = d.beginIntegrating f h := ⟨_, rfl⟩
  rw [← made] at net tick cycle leader integ left
  refine left.does fun pend vecs => ⟨net, tick.trans (Nat.mod_eq_of_lt round).symm, ?_, leader, integ⟩
  show e.clk.cycle64 % 2 ^ 32 = _
  rw [cycle]
  omega

section
variable {f : FrameIn} {h : Header} (heard : s.found.ingress f = (some h, s.found)) (port : f.port < 4) (fcs : f.fcs = true)
  (listens : s.found.net = NetState.listen) (follows : s.found.node Reg.R1400_ROLE = 0)
include live heard port fcs listens

theorem syncFrame_integrates (sync : fieldLE (payloadOf f.bytes) 0 1 = 0) : Does (.syncFrame f) s fun _ a =>
    a.net = NetState.integrating ∧ a.clk.tick = h.round % 8 ∧ a.clk.cycle64 % 2 ^ 32 = h.cycle % 2 ^ 32 ∧
      a.nat Reg.R1400_LEADER_ID = h.source % 2 ^ 16 ∧ a.link.integ = 0 := by
  have same := s.found.keeps_transparent f h
  have result : s.found.syncFrame f = (s.found.transparent f h).beginIntegrating f h := by
    rw [Dev.syncFrame, heard]
    dsimp only
    rw [if_neg (by simp [sync]), if_pos (by simp [Dev.inSync, listens]), if_neg (by simp [fcs]), if_pos ((Dev.net_transparent _ _ _).trans listens)]
  exact frame_integrates clock heard (same .clk (by decide)) fun tick cycle =>
    Leaves.clocked (fun d => d.syncFrame f) (live.passesIf port) result tick cycle rfl

include follows in
theorem coldstartFrame_integrates : Does (.coldstartFrame f) s fun _ a =>
    a.net = NetState.integrating ∧ a.clk.tick = h.round % 8 ∧ a.clk.cycle64 % 2 ^ 32 = h.cycle % 2 ^ 32 ∧
      a.nat Reg.R1400_LEADER_ID = h.source % 2 ^ 16 ∧ a.link.integ = 0 := by
  obtain ⟨same, net, role⟩ := s.found.coldHeard_same f h
  have result : s.found.coldstartFrame f = (s.found.coldHeard f h).beginIntegrating f h := by
    rw [Dev.coldstartFrame, heard]
    dsimp only
    rw [if_neg (by simp [Dev.inSync, listens, fcs])]
    exact (if_pos (net.trans listens)).trans (if_pos ((Bool.or_eq_true _ _).mpr (.inr (beq_iff_eq.mpr (role.trans follows)))))
  exact frame_integrates clock heard same fun tick cycle =>
    Leaves.clocked (fun d => d.coldstartFrame f) (live.passesIf port) result tick cycle rfl

end

end

/-! ## Deviations in synchronisation (R323) -/

section
variable {d : Dev} {f : FrameIn} {h : Header}

/-- The device that takes a frame in its window. -/
def Dev.windowTaken (d : Dev) (p : Nat) : Dev :=
  (d.modPort p fun q => { q with dropRun := false }).set (Reg.R1410_RX_FRAMES p) (d.reg (Reg.R1410_RX_FRAMES p) + 1)

/-- The same when it has heard its partner and passed the frame on. -/
def Dev.windowPassed (d : Dev) (f : FrameIn) (h : Header) (e : Nat) (x : SchedEntry) : Dev :=
  each [(e, x)] (fun (_, x) d => if x.has Role.fwd then d.forward f h (d.bypassWait f.port x) f.bytes x.ports else d)
    ((d.windowTaken f.port).hearPartner h)

theorem Dev.windowCheck_takes {e : Nat} {x : SchedEntry} (expected : d.entriesFor f.port h = [(e, x)])
    (near : (d.ntAt f.raw + (d.bypassWait f.port x : Int) * 2 ^ 40 - d.expectedAt h x.offset).natAbs ≤ d.node Reg.R1400_PRECISION_NS * 2 ^ 40) :
    d.windowCheck f h = ([(e, x)], d.windowTaken f.port) := by
  unfold Dev.windowCheck
  rw [expected]
  dsimp only
  rw [if_neg (by omega), Dev.when, if_neg (by simp; omega)]
  rfl

theorem Dev.keeps_hearPartner (d : Dev) (h : Header) : d.Keeps (d.hearPartner h) [.pair] :=
  Dev.Keeps.when _ _ (Dev.keeps_pair _ _)

theorem Dev.reg_hearPartner (d : Dev) (h : Header) (k : Nat) : (d.hearPartner h).reg k = d.reg k :=
  Dev.reg_congr (d.keeps_hearPartner h .od (by decide)) k

theorem Dev.keeps_windowPassed (d : Dev) (f : FrameIn) (h : Header) (e : Nat) (x : SchedEntry) :
    ((d.windowTaken f.port).hearPartner h).Keeps (d.windowPassed f h e x) [.od] :=
  Dev.Keeps.each _ _ (fun y g => by
    dsimp only
    split
    · exact g.keeps_forward f h _ _ _
    · exact Dev.Keeps.refl _ _) _

theorem Dev.reg_windowPassed (d : Dev) (f : FrameIn) (h : Header) (e : Nat) (x : SchedEntry) {k : Nat}
    (apart : ∀ p < 4, k ≠ Reg.R1410_TX_FRAMES p) (own : k ≠ Reg.R1410_RX_FRAMES f.port) : (d.windowPassed f h e x).reg k = d.reg k := by
  refine (Dev.reg_each (fun y _ g => ?_) _).trans ?_
  · dsimp only
    split
    · exact g.reg_forward f h _ _ _ apart
    · rfl
  · rw [Dev.reg_hearPartner, Dev.windowTaken, Dev.reg_set_other _ _ own, Dev.reg_modPort]

theorem Dev.windowPassed_same (d : Dev) (f : FrameIn) (h : Header) (e : Nat) (x : SchedEntry) (hp : f.port < 4) :
    (d.windowPassed f h e x).clk = d.clk ∧ (d.windowPassed f h e x).link.devs = d.link.devs ∧
    (d.windowPassed f h e x).deviation f h = d.deviation f h := by
  have apart : ∀ p < 4, (∀ q < 4, Reg.R1410_LINK_DELAY_PS p ≠ Reg.R1410_TX_FRAMES q ∧ Reg.R1410_ASYM_PS p ≠ Reg.R1410_TX_FRAMES q) ∧
      Reg.R1410_LINK_DELAY_PS p ≠ Reg.R1410_RX_FRAMES p ∧ Reg.R1410_ASYM_PS p ≠ Reg.R1410_RX_FRAMES p := by decide +kernel
  obtain ⟨tx, delay, asym⟩ := apart f.port hp
  have clk : (d.windowPassed f h e x).clk = d.clk :=
    (d.keeps_windowPassed f h e x .clk (by decide)).trans (Dev.keeps_hearPartner _ h .clk (by decide))
  have link : (d.windowPassed f h e x).link = (d.windowTaken f.port).link :=
    (d.keeps_windowPassed f h e x .link (by decide)).trans (Dev.keeps_hearPartner _ h .link (by decide))
  refine ⟨clk, by rw [link]; rfl, ?_⟩
  simp only [Dev.deviation, Dev.ntAt, clk, Dev.ingressPs, d.reg_windowPassed f h e x (fun q hq => (tx q hq).1) delay,
    d.reg_windowPassed f h e x (fun q hq => (tx q hq).2) asym]

end

section
variable {s : State} (live : s.Live) (clock : s.ClockOk)
include live clock

theorem syncFrame_deviates {f : FrameIn} {h : Header} {e : Nat} {x : SchedEntry} (heard : s.found.ingress f = (some h, s.found))
    (port : f.port < 4) (fcs : f.fcs = true) (synced : s.found.inSync = true) (role : s.found.node Reg.R1400_ROLE ≠ 2)
    (sync : fieldLE (payloadOf f.bytes) 0 1 = 0) (expected : s.found.entriesFor f.port h = [(e, x)])
    (near : (s.found.ntAt f.raw + (s.found.bypassWait f.port x : Int) * 2 ^ 40 - s.found.expectedAt h x.offset).natAbs ≤
      s.found.node Reg.R1400_PRECISION_NS * 2 ^ 40) : Does (.syncFrame f) s fun b a =>
        a.link.devs = if h.round = 0 then b.link.devs ++ [b.deviation f h] else b.link.devs := by
  obtain ⟨clk, devs, dev⟩ := s.found.windowPassed_same f h e x port
  have result : s.found.syncFrame f = (s.found.windowPassed f h e x).when (f.fcs && h.round == 0) fun d =>
      d.setLink fun l => { l with devs := l.devs ++ [d.deviation f h] } := by
    rw [Dev.syncFrame, heard]
    dsimp only
    rw [if_neg (by simp [sync]), if_neg (by simp [synced]), if_neg fun r => role r.1, if_neg fun r => role r.1,
      Dev.windowCheck_takes expected near]
    rfl
  obtain ⟨y, made⟩ : ∃ y, y = s.found.windowPassed f h e x := ⟨_, rfl⟩
  rw [← made] at clk devs dev result
  by_cases zero : h.round = 0
  · have taken : s.found.syncFrame f = y.setLink fun l => { l with devs := l.devs ++ [y.deviation f h] } :=
      result.trans (if_pos (by simp [fcs, zero]))
    refine (Leaves.clockKept (fun d => d.syncFrame f) (live.passesIf port) taken clock clk rfl).does fun pend vecs => ?_
    rw [if_pos zero, ← dev, ← devs]
    rfl
  · have taken : s.found.syncFrame f = y := result.trans (if_neg (by simp [zero]))
    refine (Leaves.clockKept (fun d => d.syncFrame f) (live.passesIf port) taken clock clk rfl).does fun pend vecs => ?_
    rw [if_neg zero, ← devs]
    rfl

end

/-! ## The offset correction (R323, R325) -/

/-- The deviations of a cycle and the node's own, in order. -/
def Dev.sortedDevs (d : Dev) : List Rat :=
  (d.link.devs ++ if d.node Reg.R1400_SYNC_NODE = 1 then [0] else []).mergeSort fun a b => decide (a ≤ b)

/-- Deviations in order without the outer thirds. -/
def middle (ds : List Rat) : List Rat := (ds.drop ((ds.length - 1) / 3)).take (ds.length - 2 * ((ds.length - 1) / 3))

/-- The correction of deviations in order: the negative mean of the middle ones. -/
def correctionOf (ds : List Rat) : Rat := if ds.length = 0 then 0 else -((middle ds).sum / (middle ds).length)

/-- The entries that show the correction. -/
abbrev corrRegs : List Nat := [Reg.R1430_SYNC_RX, Reg.R1430_LAST_CORR_PS, Reg.R1430_MAX_CORR_PS]

/-- A device that has formed the correction `c` of `k` deviations. -/
structure Dev.Corrected (d x : Dev) (k : Nat) (c : Rat) : Prop where
  keeps : d.Keeps x [.ph, .od, .dom, .gen, .link]
  regs : ∀ j, j ∉ corrRegs → x.reg j = d.reg j
  count : x.reg Reg.R1430_SYNC_RX = OdType.u8.wrap k
  corr : x.link.corr = some c
  devs : x.link.devs = []
  noSync : d.link.devs ≠ [] → x.link.noSync = 0

theorem Dev.syncCorrection_corrects {d : Dev} (sync : d.inSync = true) :
    ∃ x, d.Corrected x d.sortedDevs.length (correctionOf d.sortedDevs) ∧ d.syncCorrection =
      if (x.node Reg.R1400_CORR_LIMIT_NS : Rat) < ratAbs (correctionOf d.sortedDevs) ∨ 4 ≤ x.link.noSync then
        ((x.raise Code.SYNC_LOST Kind.device 0).count Reg.R1430_SYNC_LOSSES).leaveSync NetState.integrating Code.SYNC_LOST
      else x := by
  unfold Dev.syncCorrection
  extract_lets later own ds k cut rest c heard ps shown largest bytes formed lost
  have same : later.inSync = true := sync
  refine ⟨formed, ?_, if_neg (by simp [same])⟩
  have keeps : d.Keeps largest [.ph, .od, .dom, .gen, .link] :=
    Dev.Keeps.set (Dev.Keeps.set (Dev.Keeps.set ((d.keeps_at 28000).mono (by decide)) _ _) _ _) _ _
  refine ⟨(keeps.step (Dev.keeps_setBytes _ _ _)).step (Dev.keeps_setLink _ _), fun j hj => ?_, ?_, rfl, rfl, fun some_ => ?_⟩
  · obtain ⟨h₀, h₁, h₂⟩ : j ≠ Reg.R1430_SYNC_RX ∧ j ≠ Reg.R1430_LAST_CORR_PS ∧ j ≠ Reg.R1430_MAX_CORR_PS := by simpa using hj
    exact (Dev.reg_congr (Dev.keeps_setBytes _ _ _ .od (by decide)) j).trans
      ((Dev.reg_set_other _ _ h₂).trans ((Dev.reg_set_other _ _ h₁).trans (Dev.reg_set_other _ _ h₀)))
  · refine (Dev.reg_congr (Dev.keeps_setBytes _ _ _ .od (by decide)) _).trans
      ((Dev.reg_set_other _ _ (by decide)).trans ((Dev.reg_set_other _ _ (by decide)).trans ((Dev.reg_set_same _ _ _).trans ?_)))
    rw [odType_ofNet.2.2.2.1]
    rfl
  · have some' : heard = true := by
      show (!d.link.devs.isEmpty) = true
      simpa using some_
    show (if heard = true then 0 else _) = 0
    rw [if_pos some']

theorem ratAbs_eq (q : Rat) : ratAbs q = |q| := by
  unfold ratAbs
  split
  next h => rw [abs_of_neg h]
  next h => rw [abs_of_nonneg (not_lt.1 h)]

/-- A list in order is what its members sort to. -/
theorem mergeSort_of_perm {l m : List Rat} (perm : l.Perm m) (ordered : m.Pairwise (· ≤ ·)) : (l.mergeSort fun a b => decide (a ≤ b)) = m :=
  ((List.mergeSort_perm l _).trans perm).eq_of_pairwise' (List.pairwise_mergeSort' (r := fun a b : Rat => a ≤ b) l) ordered

theorem Dev.sortedDevs_one {d : Dev} {δ : Rat} (one : d.link.devs = [δ]) (own : d.node Reg.R1400_SYNC_NODE = 0) : d.sortedDevs = [δ] := by
  rw [Dev.sortedDevs, one, own]
  exact mergeSort_of_perm (.refl _) (List.pairwise_singleton _ _)

theorem correctionOf_one (δ : Rat) : correctionOf [δ] = -δ := by simp [correctionOf, middle]

theorem Dev.sortedDevs_three {d : Dev} {x y z : Rat} (three : d.link.devs = [x, y, z]) (own : d.node Reg.R1400_SYNC_NODE = 1) (hx : 0 ≤ x)
    (hy : x ≤ y) (hz : y ≤ z) : d.sortedDevs = [0, x, y, z] := by
  rw [Dev.sortedDevs, three, own]
  refine mergeSort_of_perm (List.perm_append_comm (l₁ := [x, y, z])) ?_
  simp only [List.pairwise_cons, List.mem_cons, List.not_mem_nil, or_false, forall_eq_or_imp, forall_eq]
  exact ⟨⟨hx, by linarith, by linarith⟩, ⟨hy, by linarith⟩, hz, by simp⟩

theorem correctionOf_four (w x y z : Rat) : correctionOf [w, x, y, z] = -((x + y) / 2) := by simp [correctionOf, middle]

section
variable {s : State} (live : s.Live)
include live

theorem syncCorrection_idle (out : s.found.inSync = false) : Does .syncCorrection s fun b a => b.Keeps a [.ph] := by
  have same : (s.found.at 28000).inSync = false := out
  have leaves : Leaves .syncCorrection s (s.found.at 28000) :=
    Leaves.dry (fun d => d.syncCorrection) live.passes (if_pos (by simp [same])) (s.found.keeps_at _)
  exact leaves.quietly rfl (s.found.keeps_at _)

/-- A correction within the limit acts, and nothing else follows. -/
theorem syncCorrection_acts {c : Rat} {k : Nat} (sync : s.found.inSync = true) (some_ : s.found.link.devs ≠ [])
    (count : s.found.sortedDevs.length = k) (few : k < 256) (corr : correctionOf s.found.sortedDevs = c)
    (small : ratAbs c ≤ s.found.node Reg.R1400_CORR_LIMIT_NS) : Does .syncCorrection s fun b a =>
      a.link.corr = some c ∧ a.link.devs = [] ∧ a.link.noSync = 0 ∧ a.net = b.net ∧ a.nat Reg.R1430_SYNC_RX = k ∧ a.log = b.log := by
  obtain ⟨x, made, result⟩ := Dev.syncCorrection_corrects sync
  rw [count, corr] at made
  rw [corr] at result
  have limit : x.node Reg.R1400_CORR_LIMIT_NS = s.found.node Reg.R1400_CORR_LIMIT_NS :=
    congrArg Int.toNat (made.regs _ (by decide))
  have still : s.found.syncCorrection = x :=
    result.trans (if_neg (by rw [limit, made.noSync some_, not_or]; exact ⟨not_lt.2 small, by omega⟩))
  have leaves : Leaves .syncCorrection s x := Leaves.dry (fun d => d.syncCorrection) live.passes still made.keeps
  refine leaves.quietly (made.keeps .event (by decide)) ⟨made.corr, made.devs, made.noSync some_,
    congrArg Int.toNat (made.regs _ (by decide)), ?_, made.keeps .log (by decide)⟩
  rw [Dev.nat, made.count, OdType.toNat_wrap_u8 few]

theorem syncCorrection_one {δ : Rat} (sync : s.found.inSync = true) (one : s.found.link.devs = [δ])
    (own : s.found.node Reg.R1400_SYNC_NODE = 0) (small : ratAbs δ ≤ s.found.node Reg.R1400_CORR_LIMIT_NS) :
    Does .syncCorrection s fun b a => a.link.corr = some (-δ) ∧ a.link.devs = [] ∧ a.link.noSync = 0 ∧ a.net = b.net ∧
      a.nat Reg.R1430_SYNC_RX = 1 ∧ a.log = b.log := by
  have sorted := Dev.sortedDevs_one one own
  exact syncCorrection_acts live sync (by simp [one]) (by rw [sorted]; rfl) (by omega) (by rw [sorted, correctionOf_one])
    (by rwa [ratAbs_eq, abs_neg, ← ratAbs_eq])

theorem syncCorrection_three {x y z : Rat} (sync : s.found.inSync = true) (three : s.found.link.devs = [x, y, z]) (hy : x ≤ y) (hz : y ≤ z)
    (own : s.found.node Reg.R1400_SYNC_NODE = 1) (hx : 0 ≤ x) (small : ratAbs ((x + y) / 2) ≤ s.found.node Reg.R1400_CORR_LIMIT_NS) :
    Does .syncCorrection s fun _ a => a.link.corr = some (-((x + y) / 2)) ∧ a.nat Reg.R1430_SYNC_RX = 4 := by
  have sorted := Dev.sortedDevs_three three own hx hy hz
  obtain ⟨d, run, corr, -, -, -, count, -⟩ := syncCorrection_acts live (k := 4) (c := -((x + y) / 2)) sync (by simp [three])
    (by rw [sorted]; rfl) (by omega) (by rw [sorted, correctionOf_four]) (by rwa [ratAbs_eq, abs_neg, ← ratAbs_eq])
  exact ⟨d, run, corr, count⟩

omit live in
theorem Dev.active_congr {d e : Dev} (h : ∀ k ∈ [act Reg.R5800_PAIR_MODE, Reg.R5801_ROLE], e.reg k = d.reg k) : e.active = d.active := by
  have mode := h (act Reg.R5800_PAIR_MODE) (by simp)
  have role := h Reg.R5801_ROLE (by simp)
  simp only [Dev.active, Dev.paired, Dev.nat, mode, role]

omit live in
/-- The network state of a node that leaves synchronisation. -/
def Dev.unsynced (d : Dev) (st : Nat) : Dev :=
  (d.setNet st).setLink fun l => { l with integ := 0, sawSync := false, adoptAt := d.rawNow, sendFrom := none, corr := none, baseAdd := 0 }

omit live in
theorem Dev.reg_unsynced (d : Dev) (st : Nat) {k : Nat} (h : k ∉ [Reg.R1400_NET_STATE, Reg.R1140_NT_VALID]) : (d.unsynced st).reg k = d.reg k :=
  d.reg_setNet st h

omit live in
theorem Dev.unsynced_shows (d : Dev) {st : Nat} (h : st < 256) : (d.unsynced st).net = st ∧
    (d.unsynced st).flag Reg.R1140_NT_VALID = (st == NetState.inSync) ∧ (d.unsynced st).log = d.log :=
  ⟨d.net_setNet h, d.valid_setNet st, rfl⟩

omit live in
/-- A unit that is neither active nor in RUN only changes its network state when it loses synchronisation. -/
theorem Dev.leaveSync_quiet {d : Dev} (single : d.active = false) (idle : d.state ≠ DevState.run) (st cause : Nat) :
    d.leaveSync st cause = d.unsynced st := by
  have active : (d.unsynced st).active = false :=
    (Dev.active_congr fun k hk => d.reg_unsynced st (by revert k; decide)).trans single
  have state : (d.unsynced st).state ≠ DevState.run := by
    rw [Dev.state, Dev.nat, d.reg_unsynced st (by decide)]
    exact idle
  unfold Dev.leaveSync
  extract_lets out
  rw [if_neg (by simp [show out.active = false from active]), if_neg (show out.state ≠ DevState.run from state)]
  rfl

theorem syncCorrection_loses {δ : Rat} (sync : s.found.inSync = true) (single : s.found.active = false) (idle : s.found.state ≠ DevState.run)
    (one : s.found.link.devs = [δ]) (own : s.found.node Reg.R1400_SYNC_NODE = 0) (large : s.found.node Reg.R1400_CORR_LIMIT_NS < ratAbs δ) :
    Does .syncCorrection s fun b a => a.net = NetState.integrating ∧ a.flag Reg.R1140_NT_VALID = false ∧
      a.LastRaised Code.SYNC_LOST Kind.device 0 ∧ a.nat Reg.R1430_SYNC_LOSSES = min (b.nat Reg.R1430_SYNC_LOSSES + 1) 0xFFFFFFFF := by
  have sorted := Dev.sortedDevs_one one own
  obtain ⟨x, made, result⟩ := Dev.syncCorrection_corrects sync
  rw [sorted, correctionOf_one] at made result
  have limit : x.node Reg.R1400_CORR_LIMIT_NS = s.found.node Reg.R1400_CORR_LIMIT_NS :=
    congrArg Int.toNat (made.regs _ (by decide))
  rw [if_pos (.inl (by rw [limit, ratAbs_eq, abs_neg, ← ratAbs_eq]; exact large))] at result
  obtain ⟨y, told⟩ : ∃ y, y = x.raise Code.SYNC_LOST Kind.device 0 := ⟨_, rfl⟩
  have raised : y.LastRaised Code.SYNC_LOST Kind.device 0 := told ▸ x.lastRaised_raise _ _ _ _ _
  have regs : ∀ k, k ∉ corrRegs → k ∉ logRegs → y.reg k = s.found.reg k := fun k own log => by
    rw [told, x.reg_raise _ _ _ _ _ log, made.regs k own]
  have keeps : s.found.Keeps y [.ph, .od, .dom, .gen, .link, .log, .event] :=
    told ▸ (made.keeps.mono (by decide)).step (x.keeps_raise _ _ _ _ _)
  rw [← told] at result
  have counted : ∀ k, k ≠ Reg.R1430_SYNC_LOSSES → k ∉ corrRegs → k ∉ logRegs → (y.count Reg.R1430_SYNC_LOSSES).reg k = s.found.reg k :=
    fun k h own log => (Dev.reg_set_other _ _ h).trans (regs k own log)
  have quiet : (y.count Reg.R1430_SYNC_LOSSES).leaveSync NetState.integrating Code.SYNC_LOST =
      (y.count Reg.R1430_SYNC_LOSSES).unsynced NetState.integrating := by
    refine Dev.leaveSync_quiet ((Dev.active_congr fun k hk => counted k ?_ ?_ ?_).trans single) ?_ _ _
    · revert k; decide
    · revert k; decide
    · revert k; decide
    · rw [Dev.state, Dev.nat, counted _ (by decide) (by decide) (by decide)]
      exact idle
  obtain ⟨net, valid, log⟩ := (y.count Reg.R1430_SYNC_LOSSES).unsynced_shows (st := NetState.integrating) (by decide)
  have losses : ((y.count Reg.R1430_SYNC_LOSSES).unsynced NetState.integrating).nat Reg.R1430_SYNC_LOSSES =
      min (s.found.nat Reg.R1430_SYNC_LOSSES + 1) 0xFFFFFFFF := by
    have before : y.nat Reg.R1430_SYNC_LOSSES = s.found.nat Reg.R1430_SYNC_LOSSES := by
      rw [Dev.nat, regs _ (by decide) (by decide), Dev.nat]
    rw [Dev.nat, Dev.reg_unsynced _ _ (by decide), ← Dev.nat, Dev.nat_count odType_ofNet.2.2.2.2, before]
  have kept : s.found.Keeps ((y.count Reg.R1430_SYNC_LOSSES).unsynced NetState.integrating) [.ph, .od, .dom, .gen, .link, .log, .event] :=
    ((keeps.set _ _).step (Dev.keeps_setNet _ _)).step (Dev.keeps_setLink _ _)
  have left := result.trans quiet
  obtain ⟨z, out⟩ : ∃ z, z = (y.count Reg.R1430_SYNC_LOSSES).unsynced NetState.integrating := ⟨_, rfl⟩
  rw [← out] at net valid log losses kept left
  have leaves : Leaves .syncCorrection s z := Leaves.dry (fun d => d.syncCorrection) live.passes left kept
  refine leaves.does fun pend vecs => ⟨net, valid, ?_, losses⟩
  obtain ⟨r, last, code⟩ := raised
  exact ⟨r, (congrArg List.getLast? log).trans last, code⟩

end

/-- Settles O43: the state machine of the cluster's start taken transition by transition, a frame's adoption, and the correction as
the negative mean of the middle of the sorted deviations. -/
theorem clusterTime : Obligations.ClusterTime := by
  unfold Obligations.ClusterTime
  intro s live clock
  dsimp only
  refine ⟨listenTimeout_begins live clock, listenTimeout_idle live clock, coldstartLead_leads live clock, coldstartLead_idle live clock,
    integrationComplete_syncs live clock, integrationComplete_idle live clock, integrationTimeout_listens live clock,
    integrationTimeout_idle live clock, fun f h heard port fcs listens follows => ⟨fun _ => ?_, fun sync => ?_⟩,
    fun f h e x heard port fcs synced role sync expected near => ?_, syncCorrection_idle live,
    fun δ sync one own small => syncCorrection_one live sync one own small,
    fun x y z sync three hy hz own hx small => syncCorrection_three live sync three hy hz own hx small,
    fun δ sync single idle one own large => syncCorrection_loses live sync single idle one own large,
    fun up => ⟨fun free out => netControl_listens clock ⟨live, up⟩ free out, fun v h => netControl_refused clock ⟨live, up⟩ h⟩⟩
  · exact coldstartFrame_integrates live clock heard port fcs listens follows
  · exact syncFrame_integrates live clock heard port fcs listens sync
  · exact syncFrame_deviates live clock heard port fcs synced role sync expected near

end Sys2Proof.Machine
end

section
/-! # Password sessions (R397, R398) -/

namespace Sys2Proof.Machine

/-! ## What a permitted write does -/

section
variable {d : Dev} {r : Requester} {ix sub : Nat} {data : Bytes}

theorem Dev.touchSession_failed {e : Entry} (h : d.done ≠ Code.STATUS_OK) : d.touchSession e = d := if_neg fun t => h t.2

/-- A permitted write of an entry with an effect of its own, which may keep the session alive where it succeeds. -/
theorem Dev.odWrite_special (ok : d.WriteOk r ix sub data) {x : Dev} (special : ∀ v, d.writeSpecial r ix sub v data = some x) :
    (d.odWrite r ix sub data = x ∨ d.odWrite r ix sub data = x.keepsAlive true) ∧ (x.done ≠ Code.STATUS_OK → d.odWrite r ix sub data = x) := by
  obtain ⟨e, j, found, check, block⟩ := ok
  have result : d.odWrite r ix sub data = x.touchSession e := by
    simp only [Dev.odWrite, found, check, block, ne_eq, not_true_eq_false, if_false, special, Option.getD_some]
  refine ⟨?_, fun failed => result.trans (Dev.touchSession_failed failed)⟩
  obtain ⟨c, touched⟩ := Dev.touchSession_eq x e
  rw [result, touched]
  cases c
  · exact .inl rfl
  · exact .inr rfl

theorem Dev.writeSpecial_sessionOpen (v : Int) : d.writeSpecial r 0x5000 1 v data = some (d.sessionOpen r data) := rfl

theorem Dev.writeSpecial_sessionClose (v : Int) : d.writeSpecial r 0x5000 2 v data = some (d.sessionClose r) := rfl

theorem Dev.writeSpecial_passwordSet (v : Int) : d.writeSpecial r 0x5001 9 v data = some (d.passwordSet r data) := rfl

end

/-! ## What the steps of a session leave -/

section
variable (d : Dev)

theorem odType_ofSession : odType Reg.R5000_FAILED_OPENS = .u16 ∧ odType Reg.R5000_SESSION_PATH = .u8 ∧ odType Reg.R5000_SESSION_STATE = .u8 := by
  decide +kernel

theorem Dev.keeps_denied : d.Keeps d.denied (.done :: logParts) := ((Dev.Keeps.refl _ _).raise _ _ _ _ _).finish _

theorem Dev.lastRaised_denied : d.denied.LastRaised Code.SESSION_DENIED Kind.device 0 := d.lastRaised_raise _ _ _ _ _

theorem Dev.reg_denied {k : Nat} (log : k ∉ logRegs) : d.denied.reg k = d.reg k := by
  rw [Dev.denied, Dev.reg_finish, d.reg_raise _ _ _ _ _ log]

/-- A write that is denied, and leaves everything but the log as it was. -/
theorem Leaves.denied {i : Instr} {s : State} {e : Dev} (leaves : Leaves i s e.denied) (session : e.safe.session = s.found.safe.session) :
    Does i s fun b a => a.done = Code.SESSION_DENIED ∧ a.safe.session = b.safe.session ∧ a.LastRaised Code.SESSION_DENIED Kind.device 0 :=
  leaves.does fun pend vecs => ⟨rfl, (congrArg SafeDom.session (e.keeps_denied .safe (by decide))).trans session, e.lastRaised_denied.told pend vecs⟩

/-- The device with the session ended, before the staged banks are discarded. -/
def Dev.sessionOver (d : Dev) : Dev :=
  ((({ d with safe := { d.safe with session := none } } : Dev).set Reg.R5000_SESSION_STATE (if d.safe.lockEnd.isSome then 3 else 0)).set
    Reg.R5000_SESSION_PATH 0)

/-- Staged banks without a request discarded. -/
def Dev.banksDropped (d : Dev) : Dev :=
  each [1, 2, 3] (fun b d => if (mget none d.pend (bankCommit b)).isSome then d else d.discardStaged b) d

theorem Dev.endSession_ends {d : Dev} (h : d.safe.session ≠ none) : d.endSession = d.sessionOver.banksDropped := by
  rw [Dev.endSession, if_neg (by simpa using h)]
  rfl

theorem Dev.keeps_discardStaged (b : Nat) : d.Keeps (d.discardStaged b) [.od, .dom, .gen] :=
  (Dev.Keeps.each _ _ (fun k e => (e.keeps_set k _).mono (by decide)) d).andThen
    (Dev.Keeps.each _ _ (fun k e => (Dev.keeps_setBytes e k _).mono (by decide)) _)

theorem Dev.keeps_banksDropped : d.Keeps d.banksDropped [.od, .dom, .gen] := by
  refine Dev.Keeps.each _ _ (fun b e => ?_) d
  split
  · exact Dev.Keeps.refl _ _
  · exact e.keeps_discardStaged b

/-- An entry of no bank holds what it held when staged banks are discarded. -/
theorem Dev.reg_banksDropped {k : Nat} (none : bankOf (k / 256) (k % 256) = 0) : d.banksDropped.reg k = d.reg k := by
  refine Dev.reg_each (fun b hb e => ?_) d
  have bank : b ≠ 0 := by rintro rfl; simp at hb
  split
  · rfl
  · refine (Dev.reg_each (fun j _ g => Dev.reg_congr (Dev.keeps_setBytes g j _ .od (by decide)) k) _).trans
      (Dev.reg_each (fun j hj g => Dev.reg_set_other _ _ ?_) e)
    rintro rfl
    exact bank ((low_of_listedKeys hj).2.symm.trans none)

theorem Dev.keeps_endSession : d.Keeps d.endSession [.od, .dom, .gen, .safe] := by
  by_cases h : d.safe.session = none
  · rw [Dev.endSession, if_pos (by simp [h])]
    exact Dev.Keeps.refl _ _
  · rw [Dev.endSession_ends h]
    exact ((((d.keeps_safe _).mono (by decide)).set _ _).set _ _).step (Dev.keeps_banksDropped _)

theorem Dev.endSession_shows {d : Dev} (h : d.safe.session ≠ none) :
    d.endSession.safe.session = none ∧ d.endSession.nat Reg.R5000_SESSION_PATH = 0 := by
  rw [Dev.endSession_ends h]
  refine ⟨?_, ?_⟩
  · rw [Dev.keeps_banksDropped _ .safe (by decide)]
    rfl
  · rw [Dev.nat, Dev.reg_banksDropped _ (by decide), Dev.sessionOver, Dev.reg_set_same, odType_ofSession.2.1]
    rfl

end

/-- The device with a session of the user named opened. -/
def Dev.sessionBegun (d : Dev) (r : Requester) (data : Bytes) : Dev :=
  let only := fieldLE data 0 1 == 1 && (d.bytes Reg.R5001_USER_1).isEmpty
  let d := { d with safe := { d.safe with session := some { owner := r, user := fieldLE data 0 1, only, last := d.rawNow } } }
  ((d.set Reg.R5000_SESSION_STATE (if only then 2 else 1)).set Reg.R5000_SESSION_PATH (requesterSession r)).set Reg.R5000_FAILED_OPENS 0

section
variable (d : Dev) (r : Requester) (data : Bytes)

theorem Dev.keeps_sessionBegun : d.Keeps (d.sessionBegun r data) [.od, .safe, .done] :=
  Dev.Keeps.set (Dev.Keeps.set (Dev.Keeps.set ((d.keeps_safe _).mono (by decide)) _ _) _ _) _ _

theorem Dev.sessionBegun_shows : (d.sessionBegun r data).nat Reg.R5000_FAILED_OPENS = 0 ∧
    (d.sessionBegun r data).nat Reg.R5000_SESSION_PATH = requesterSession r ∧
    (d.sessionBegun r data).nat Reg.R5000_SESSION_STATE =
      (if fieldLE data 0 1 == 1 && (d.bytes Reg.R5001_USER_1).isEmpty then 2 else 1) ∧
    (d.sessionBegun r data).safe.session = some
      { owner := r, user := fieldLE data 0 1, only := fieldLE data 0 1 == 1 && (d.bytes Reg.R5001_USER_1).isEmpty, last := d.rawNow } ∧
    (d.sessionBegun r data).rawNow = d.rawNow := by
  have small : requesterSession r < 256 := by
    unfold requesterSession
    split <;> omega
  refine ⟨?_, ?_, ?_, rfl, rfl⟩
  · rw [Dev.nat, Dev.sessionBegun, Dev.reg_set_same, odType_ofSession.1]
    rfl
  · rw [Dev.nat, Dev.sessionBegun, Dev.reg_set_other _ _ (by decide), Dev.reg_set_same, odType_ofSession.2.1]
    exact OdType.toNat_wrap_u8 small
  · rw [Dev.nat, Dev.sessionBegun, Dev.reg_set_other _ _ (by decide), Dev.reg_set_other _ _ (by decide), Dev.reg_set_same, odType_ofSession.2.2]
    split <;> rfl

theorem Dev.failedOpen_few (h : d.nat Reg.R5000_FAILED_OPENS < 4) :
    d.failedOpen = d.set Reg.R5000_FAILED_OPENS (min 65535 (d.nat Reg.R5000_FAILED_OPENS + 1) : Nat) := if_neg (by omega)

/-- The device that locks sessions out for a while. -/
def Dev.lockedOut (d : Dev) (secs : Nat) : Dev :=
  ({ d with safe := { d.safe with lockEnd := some (d.rawNow + secs * 1000000000) } } : Dev).set Reg.R5000_SESSION_STATE 3

theorem Dev.failedOpen_many (h : 4 ≤ d.nat Reg.R5000_FAILED_OPENS) : ∃ secs,
    d.failedOpen = (d.set Reg.R5000_FAILED_OPENS (min 65535 (d.nat Reg.R5000_FAILED_OPENS + 1) : Nat)).lockedOut secs :=
  ⟨_, if_pos (by omega)⟩

theorem Dev.keeps_lockedOut (secs : Nat) : d.Keeps (d.lockedOut secs) [.od, .safe] := ((d.keeps_safe _).mono (by decide)).set _ _

end

/-! ## Sessions opened, closed and ended -/

section
variable {s : State} {r : Requester} {data : Bytes}

/-- What an open that is denied, and others, answer. -/
def Dev.DeniedFrom (b a : Dev) : Prop :=
  a.done = Code.SESSION_DENIED ∧ a.safe.session = b.safe.session ∧ a.LastRaised Code.SESSION_DENIED Kind.device 0

section
variable (serves : s.found.Serves r 0x5000) (ok : s.found.WriteOk r 0x5000 1 data)
include serves ok

/-- An open that fails does what it says and no more. -/
theorem sessionOpen_leaves {x : Dev} {l : List Part} (result : s.found.sessionOpen r data = x) (failed : x.done ≠ Code.STATUS_OK)
    (keeps : s.found.Keeps x l) (within : Part.clk ∉ l := by decide) : Leaves (.sessionOpen r data) s x :=
  Leaves.full (fun d => d.odWrite r 0x5000 1 data) (Dev.Serves.passes serves)
    ((Dev.odWrite_special ok fun v => (Dev.writeSpecial_sessionOpen v).trans (congrArg some result)).2 failed) keeps within

theorem sessionOpen_lockedOut (locked : s.found.safe.lockEnd ≠ none) : Does (.sessionOpen r data) s fun b a =>
    a.done = Code.SESSION_LOCKOUT ∧ a.safe = b.safe ∧ a.LastRaised Code.SESSION_LOCKOUT Kind.device 0 := by
  have result : s.found.sessionOpen r data = (s.found.raise Code.SESSION_LOCKOUT Kind.device 0).finish Code.SESSION_LOCKOUT :=
    if_pos (by simpa [Option.isSome_iff_ne_none] using locked)
  have keeps := ((Dev.Keeps.refl s.found (.done :: logParts)).raise Code.SESSION_LOCKOUT Kind.device 0 0 0).finish Code.SESSION_LOCKOUT
  exact (sessionOpen_leaves serves ok result (show Code.SESSION_LOCKOUT ≠ Code.STATUS_OK by decide) keeps).does fun pend vecs =>
    ⟨rfl, keeps .safe (by decide), (s.found.lastRaised_raise _ _ _ _ _).told pend vecs⟩

variable (free : s.found.safe.lockEnd = none)
include free

theorem sessionOpen_mayNot (h : ¬(requesterSession r ≠ 0 ∧ (s.found.state = DevState.run ∨ s.found.state = DevState.safe ∨
    s.found.state = DevState.config)) ∨ s.found.safe.session ≠ none) : Does (.sessionOpen r data) s fun b a => b.DeniedFrom a := by
  have result : s.found.sessionOpen r data = s.found.denied := by
    refine (if_neg (by simp [free])).trans (if_pos ?_)
    rcases h with may | open_
    · by_cases path : requesterSession r = 0
      · exact .inl path
      · exact .inr (.inr fun state => may ⟨path, state⟩)
    · exact .inr (.inl (by simpa [Option.isSome_iff_ne_none] using open_))
  exact (sessionOpen_leaves serves ok result (show Code.SESSION_DENIED ≠ Code.STATUS_OK by decide) s.found.keeps_denied).denied rfl

variable (may : requesterSession r ≠ 0 ∧ (s.found.state = DevState.run ∨ s.found.state = DevState.safe ∨ s.found.state = DevState.config))
  (shut : s.found.safe.session = none)
include may shut

omit serves ok in
theorem Dev.sessionOpen_right (right : s.found.passwordOk (fieldLE data 0 1) (data.drop 1) = true) :
    s.found.sessionOpen r data = (s.found.sessionBegun r data).finish Code.STATUS_OK := by
  refine (if_neg (by simp [free])).trans ((if_neg ?_).trans (if_pos right))
  rintro (path | opened | state)
  · exact may.1 path
  · simp [shut] at opened
  · exact state may.2

omit serves ok in
theorem Dev.sessionOpen_wrong (wrong : s.found.passwordOk (fieldLE data 0 1) (data.drop 1) = false) :
    s.found.sessionOpen r data = s.found.failedOpen.denied := by
  refine (if_neg (by simp [free])).trans ((if_neg ?_).trans (if_neg (by rw [wrong]; decide)))
  rintro (path | opened | state)
  · exact may.1 path
  · simp [shut] at opened
  · exact state may.2

theorem sessionOpen_opens (right : s.found.passwordOk (fieldLE data 0 1) (data.drop 1) = true) : Does (.sessionOpen r data) s fun b a =>
    a.done = Code.STATUS_OK ∧ a.nat Reg.R5000_FAILED_OPENS = 0 ∧ a.nat Reg.R5000_SESSION_PATH = requesterSession r ∧
    (∃ x, a.safe.session = some x ∧ x.owner = r ∧ x.user = fieldLE data 0 1 ∧ x.last = b.rawNow ∧
      a.nat Reg.R5000_SESSION_STATE = if x.only then 2 else 1) ∧ b.Keeps a [.od, .safe, .done] := by
  obtain ⟨opens, path, state, session, now⟩ := s.found.sessionBegun_shows r data
  obtain ⟨x, made⟩ : ∃ x, x = s.found.sessionBegun r data := ⟨_, rfl⟩
  have keeps := s.found.keeps_sessionBegun r data
  have special (v : Int) : s.found.writeSpecial r 0x5000 1 v data = some (x.finish Code.STATUS_OK) := by
    rw [Dev.writeSpecial_sessionOpen, Dev.sessionOpen_right free may shut right, made]
  rw [← made] at opens path state session now keeps
  obtain ⟨c, result⟩ : ∃ c, s.found.odWrite r 0x5000 1 data = (x.finish Code.STATUS_OK).keepsAlive c := by
    rcases (Dev.odWrite_special ok special).1 with h | h
    · exact ⟨false, h⟩
    · exact ⟨true, h⟩
  have kept := (x.finish Code.STATUS_OK).keeps_keepsAlive c
  have all : s.found.Keeps ((x.finish Code.STATUS_OK).keepsAlive c) [.od, .safe, .done] := (keeps.finish Code.STATUS_OK).step kept
  have leaves : Leaves (.sessionOpen r data) s ((x.finish Code.STATUS_OK).keepsAlive c) :=
    Leaves.full (fun d => d.odWrite r 0x5000 1 data) (Dev.Serves.passes serves) result all
  have nat (k : Nat) : ((x.finish Code.STATUS_OK).keepsAlive c).nat k = x.nat k := Dev.nat_congr (kept .od (by decide)) k
  have still : ((x.finish Code.STATUS_OK).keepsAlive c).safe.session = x.safe.session := by
    cases c
    · rfl
    · refine (congrArg (Option.map fun y => { y with last := x.rawNow }) session).trans ?_
      rw [session, now]
      rfl
  refine leaves.quietly (all .event (by decide)) ⟨kept .done (by decide), (nat _).trans opens, (nat _).trans path,
    ⟨_, still.trans session, rfl, rfl, rfl, (nat _).trans state⟩, all⟩

theorem sessionOpen_fails (wrong : s.found.passwordOk (fieldLE data 0 1) (data.drop 1) = false) : Does (.sessionOpen r data) s fun b a =>
    b.DeniedFrom a ∧ a.nat Reg.R5000_FAILED_OPENS = min 65535 (b.nat Reg.R5000_FAILED_OPENS + 1) ∧
    (4 ≤ b.nat Reg.R5000_FAILED_OPENS → a.safe.lockEnd ≠ none ∧ a.nat Reg.R5000_SESSION_STATE = 3) ∧
    (b.nat Reg.R5000_FAILED_OPENS < 4 → a.safe = b.safe) := by
  have result := Dev.sessionOpen_wrong free may shut wrong
  have counted : (s.found.set Reg.R5000_FAILED_OPENS (min 65535 (s.found.nat Reg.R5000_FAILED_OPENS + 1) : Nat)).nat Reg.R5000_FAILED_OPENS =
      min 65535 (s.found.nat Reg.R5000_FAILED_OPENS + 1) := Dev.nat_set_same _ odType_ofSession.1 rfl (by simp [OdType.size])
  obtain ⟨x, made⟩ : ∃ x, x = s.found.set Reg.R5000_FAILED_OPENS (min 65535 (s.found.nat Reg.R5000_FAILED_OPENS + 1) : Nat) := ⟨_, rfl⟩
  have keeps : s.found.Keeps x [.od] := made ▸ s.found.keeps_set _ _
  rw [← made] at counted
  rcases Nat.lt_or_ge (s.found.nat Reg.R5000_FAILED_OPENS) 4 with few | many
  · rw [s.found.failedOpen_few few, ← made] at result
    have kept : s.found.Keeps x.denied (.done :: logParts) := (keeps.mono (by decide)).step x.keeps_denied
    refine (sessionOpen_leaves serves ok result (show Code.SESSION_DENIED ≠ Code.STATUS_OK by decide) kept).does fun pend vecs =>
      ⟨⟨rfl, congrArg SafeDom.session (kept .safe (by decide)), x.lastRaised_denied.told pend vecs⟩, ?_, fun h => absurd h (by omega),
        fun _ => kept .safe (by decide)⟩
    rw [Dev.nat_told, Dev.nat, x.reg_denied (by decide)]
    exact counted
  · obtain ⟨secs, locked⟩ := s.found.failedOpen_many many
    rw [locked, ← made] at result
    have kept : s.found.Keeps (x.lockedOut secs).denied (.safe :: .done :: logParts) :=
      ((keeps.mono (by decide)).step (x.keeps_lockedOut secs)).step (Dev.keeps_denied _)
    have safe : (x.lockedOut secs).denied.safe = { x.safe with lockEnd := some (x.rawNow + secs * 1000000000) } :=
      (x.lockedOut secs).keeps_denied .safe (by decide)
    have session : (x.lockedOut secs).denied.safe.session = s.found.safe.session := by rw [safe, keeps .safe (by decide)]
    refine (sessionOpen_leaves serves ok result (show Code.SESSION_DENIED ≠ Code.STATUS_OK by decide) kept).does fun pend vecs =>
      ⟨⟨rfl, session, (x.lockedOut secs).lastRaised_denied.told pend vecs⟩, ?_, fun _ => ⟨?_, ?_⟩, fun h => absurd h (by omega)⟩
    · rw [Dev.nat_told, Dev.nat, Dev.reg_denied _ (by decide), Dev.lockedOut, Dev.reg_set_other _ _ (by decide)]
      exact counted
    · show (x.lockedOut secs).denied.safe.lockEnd ≠ none
      rw [safe]
      simp
    · rw [Dev.nat_told, Dev.nat, Dev.reg_denied _ (by decide), Dev.lockedOut, Dev.reg_set_same, odType_ofSession.2.2]
      rfl

end

section
variable (serves : s.found.Serves r 0x5000) (ok : s.found.WriteOk r 0x5000 2 [0])
include serves ok

theorem sessionClose_denied (other : ∀ x, s.found.safe.session = some x → samePath x.owner r = false) :
    Does (.sessionClose r) s fun b a => b.DeniedFrom a := by
  have result : s.found.sessionClose r = s.found.denied := by
    unfold Dev.sessionClose
    split
    next x hx => exact if_neg (by simp [other x hx])
    next => rfl
  have special (v : Int) : s.found.writeSpecial r 0x5000 2 v [0] = some s.found.denied := (Dev.writeSpecial_sessionClose v).trans (congrArg some result)
  exact (Leaves.full (fun d => d.odWrite r 0x5000 2 [0]) (Dev.Serves.passes serves)
    ((Dev.odWrite_special ok special).2 (show Code.SESSION_DENIED ≠ Code.STATUS_OK by decide)) s.found.keeps_denied).denied rfl

theorem sessionClose_closes {x : Session} (session : s.found.safe.session = some x) (own : samePath x.owner r = true) :
    Does (.sessionClose r) s fun _ a => a.done = Code.STATUS_OK ∧ a.safe.session = none ∧ a.nat Reg.R5000_SESSION_PATH = 0 := by
  have result : s.found.sessionClose r = s.found.endSession.finish Code.STATUS_OK := by
    unfold Dev.sessionClose
    rw [session]
    exact if_pos own
  obtain ⟨ended, path⟩ := Dev.endSession_shows (d := s.found) (by simp [session])
  have keeps := s.found.keeps_endSession
  obtain ⟨y, made⟩ : ∃ y, y = s.found.endSession := ⟨_, rfl⟩
  rw [← made] at result ended path keeps
  have special (v : Int) : s.found.writeSpecial r 0x5000 2 v [0] = some (y.finish Code.STATUS_OK) :=
    (Dev.writeSpecial_sessionClose v).trans (congrArg some result)
  obtain ⟨c, write⟩ : ∃ c, s.found.odWrite r 0x5000 2 [0] = (y.finish Code.STATUS_OK).keepsAlive c := by
    rcases (Dev.odWrite_special ok special).1 with h | h
    · exact ⟨false, h⟩
    · exact ⟨true, h⟩
  have kept := (y.finish Code.STATUS_OK).keeps_keepsAlive c
  have all : s.found.Keeps ((y.finish Code.STATUS_OK).keepsAlive c) [.od, .dom, .gen, .safe, .done] :=
    ((keeps.mono (by decide)).finish Code.STATUS_OK).step kept
  have leaves : Leaves (.sessionClose r) s ((y.finish Code.STATUS_OK).keepsAlive c) :=
    Leaves.full (fun d => d.odWrite r 0x5000 2 [0]) (Dev.Serves.passes serves) write all
  have still : ((y.finish Code.STATUS_OK).keepsAlive c).safe.session = none := by
    cases c
    · exact ended
    · exact congrArg (Option.map fun z => { z with last := y.rawNow }) ended
  exact leaves.does fun pend vecs => ⟨kept .done (by decide), still, (Dev.nat_congr (kept .od (by decide)) _).trans path⟩

end

section
variable (live : s.Live)
include live

theorem sessionTimeout_idle (h : ∀ x, s.found.safe.session = some x →
    s.found.rawNow < x.last + s.found.nat Reg.R5000_SESSION_TIMEOUT_S * 1000000000) : Does .sessionTimeout s fun b a => b.Keeps a [] := by
  have result : s.found.sessionTimeout = s.found := by
    unfold Dev.sessionTimeout
    split
    next x hx => exact if_neg (not_le.2 (h x hx))
    next => rfl
  exact (Leaves.cell (l := []) (fun d => d.sessionTimeout) live.passes result (Dev.Keeps.refl _ _)).unchanged

theorem sessionTimeout_ends {x : Session} (session : s.found.safe.session = some x)
    (late : x.last + s.found.nat Reg.R5000_SESSION_TIMEOUT_S * 1000000000 ≤ s.found.rawNow) : Does .sessionTimeout s fun _ a =>
      a.safe.session = none ∧ a.nat Reg.R5000_SESSION_PATH = 0 := by
  have result : s.found.sessionTimeout = s.found.endSession := by
    unfold Dev.sessionTimeout
    rw [session]
    exact if_pos late
  obtain ⟨ended, path⟩ := Dev.endSession_shows (d := s.found) (by simp [session])
  exact (Leaves.cell (fun d => d.sessionTimeout) live.passes result s.found.keeps_endSession).does fun pend vecs => ⟨ended, path⟩

theorem sessionLockoutEnd_idle (h : ∀ t, s.found.safe.lockEnd = some t → s.found.rawNow < t) :
    Does .sessionLockoutEnd s fun b a => b.Keeps a [] := by
  have result : s.found.lockoutEnd = s.found := by
    unfold Dev.lockoutEnd
    split
    next t ht => exact if_neg (not_le.2 (h t ht))
    next => rfl
  exact (Leaves.cell (l := []) (fun d => d.lockoutEnd) live.passes result (Dev.Keeps.refl _ _)).unchanged

theorem sessionLockoutEnd_ends {t : Nat} (locked : s.found.safe.lockEnd = some t) (late : t ≤ s.found.rawNow) :
    Does .sessionLockoutEnd s fun b a =>
      a.safe.lockEnd = none ∧ a.nat Reg.R5000_SESSION_STATE = (if b.safe.session = none then 0 else 1) ∧
      b.KeepsRegs a [Reg.R5000_SESSION_STATE] ∧ b.Keeps a [.od, .safe] := by
  obtain ⟨x, made⟩ : ∃ x, x = ({ s.found with safe := { s.found.safe with lockEnd := none } } : Dev) := ⟨_, rfl⟩
  have free : x.safe.lockEnd = none := by rw [made]
  have regs : ∀ k, x.reg k = s.found.reg k := fun k => by rw [made]; rfl
  have kept : s.found.Keeps x [.safe] := made ▸ s.found.keeps_safe _
  have result : s.found.lockoutEnd = x.set Reg.R5000_SESSION_STATE (if s.found.safe.session.isSome then 1 else 0) := by
    unfold Dev.lockoutEnd
    rw [locked, made]
    exact if_pos late
  have keeps : s.found.Keeps (x.set Reg.R5000_SESSION_STATE (if s.found.safe.session.isSome then 1 else 0)) [.od, .safe] :=
    (kept.mono (by decide)).set _ _
  refine (Leaves.cell (fun d => d.lockoutEnd) live.passes result keeps).quietly (keeps .event (by decide))
    ⟨free, ?_, fun k hk => (Dev.reg_set_other _ _ (by simpa using hk)).trans (regs k), keeps⟩
  rw [Dev.nat, Dev.reg_set_same, odType_ofSession.2.2]
  cases s.found.safe.session <;> rfl

end

/-! ## Passwords set (R397) -/

section
variable (serves : s.found.Serves r 0x5001) (ok : s.found.WriteOk r 0x5001 9 data)
include serves ok

theorem passwordSet_denied (shut : s.found.safe.session = none) : Does (.passwordSet r data) s fun b a => b.DeniedFrom a ∧ a.dom = b.dom := by
  have result : s.found.passwordSet r data = s.found.denied := by
    unfold Dev.passwordSet
    rw [shut]
  have special (v : Int) : s.found.writeSpecial r 0x5001 9 v data = some s.found.denied :=
    (Dev.writeSpecial_passwordSet v).trans (congrArg some result)
  have leaves : Leaves (.passwordSet r data) s s.found.denied :=
    Leaves.full (fun d => d.odWrite r 0x5001 9 data) (Dev.Serves.passes serves)
      ((Dev.odWrite_special ok special).2 (show Code.SESSION_DENIED ≠ Code.STATUS_OK by decide)) s.found.keeps_denied
  exact leaves.does fun pend vecs =>
    ⟨⟨rfl, congrArg SafeDom.session (s.found.keeps_denied .safe (by decide)), s.found.lastRaised_denied.told pend vecs⟩,
      s.found.keeps_denied .dom (by decide)⟩

omit serves ok in
theorem Dev.keeps_changeLog (d : Dev) (user kind old new : Nat) : d.Keeps (d.changeLog user kind old new) [.safe, .od] :=
  Dev.Keeps.set (((d.keeps_safe _).mono (by decide)).cond _ _ ((Dev.keeps_set _ _ _).mono (by decide))) _ _

omit serves ok in
/-- The device with a user's password digested with a new salt, the session kept alive. -/
def Dev.salted (d : Dev) (x : Session) (user : Nat) (pw : Bytes) : Dev :=
  let salt := leBytes 16 (Config.random d.fresh % 2 ^ 128)
  let d := d.takeFresh.2.setBytes (Reg.R5001_USER_1 + (user - 1)) (salt ++ shake256 16 (salt ++ pw))
  { d with safe := { d.safe with session := some { x with last := d.rawNow } } }

omit serves ok in
/-- The same with the change in the change log. -/
def Dev.newPassword (d : Dev) (x : Session) (user : Nat) (pw : Bytes) : Dev :=
  (d.salted x user pw).changeLog x.user 5 d.takeFresh.2.userTable (d.salted x user pw).userTable

omit serves ok in
theorem Dev.newPassword_shows (d : Dev) (x : Session) (user : Nat) (pw : Bytes) :
    d.Keeps (d.newPassword x user pw) [.fresh, .dom, .gen, .safe, .od] ∧
    (d.newPassword x user pw).bytes (Reg.R5001_USER_1 + (user - 1)) = leBytes 16 (Config.random d.fresh % 2 ^ 128) ++
      shake256 16 (leBytes 16 (Config.random d.fresh % 2 ^ 128) ++ pw) ∧
    ∀ k, k ≠ Reg.R5001_USER_1 + (user - 1) → (d.newPassword x user pw).bytes k = d.bytes k := by
  have logged := Dev.keeps_changeLog (d.salted x user pw) x.user 5 d.takeFresh.2.userTable (d.salted x user pw).userTable
  have salted : d.Keeps (d.salted x user pw) [.fresh, .dom, .gen, .safe, .od] :=
    ((d.keeps_freshTaken.mono (by decide)).step (Dev.keeps_setBytes _ _ _)).step (Dev.keeps_safe _ _)
  refine ⟨salted.step logged, (logged.bytes _).trans ((Dev.bytes_setBytes _ _ _ _).trans (if_pos rfl)), fun k hk =>
    (logged.bytes _).trans ((Dev.bytes_setBytes _ _ _ _).trans (if_neg hk))⟩

omit serves ok in
/-- The table's place of a user holds a salt and the digest of salt and password. -/
theorem Dev.passwordOk_salted {d : Dev} {user : Nat} {salt pw : Bytes} (user₁ : 1 ≤ user) (user₈ : user ≤ 8) (size : salt.length = 16)
    (holds : d.bytes (Reg.R5001_USER_1 + (user - 1)) = salt ++ shake256 16 (salt ++ pw)) : d.passwordOk user pw = true := by
  have some_ : (salt ++ shake256 16 (salt ++ pw)).isEmpty = false := by
    cases salt with
    | nil => simp at size
    | cons b t => rfl
  unfold Dev.passwordOk
  rw [holds]
  dsimp only
  rw [if_neg (by omega), if_neg (by simp [some_]), ← size, List.take_left, List.drop_left]
  exact beq_self_eq_true _

theorem passwordSet_sets {x : Session} (session : s.found.safe.session = some x) (own : samePath x.owner r = true)
    (self : x.user = fieldLE data 0 1) (user₁ : 1 ≤ fieldLE data 0 1) (user₈ : fieldLE data 0 1 ≤ 8) (long : 8 ≤ (data.drop 1).length)
    (short : (data.drop 1).length ≤ 32) (only : x.only = true → fieldLE data 0 1 = 1) : Does (.passwordSet r data) s fun b a =>
      a.done = Code.STATUS_OK ∧ a.passwordOk (fieldLE data 0 1) (data.drop 1) = true ∧
      (∀ j < 8, j + 1 ≠ fieldLE data 0 1 → a.bytes (Reg.R5001_USER_1 + j) = b.bytes (Reg.R5001_USER_1 + j)) := by
  have result : s.found.passwordSet r data = (s.found.newPassword x (fieldLE data 0 1) (data.drop 1)).finish Code.STATUS_OK := by
    unfold Dev.passwordSet
    rw [session]
    dsimp only
    rw [if_neg (by simp [own]), if_neg (by omega), if_neg ?_]
    · rfl
    · rintro (⟨-, other⟩ | ⟨first, other⟩)
      · exact other self.symm
      · exact other (only first)
  obtain ⟨keeps, place, others⟩ := s.found.newPassword_shows x (fieldLE data 0 1) (data.drop 1)
  obtain ⟨y, made⟩ : ∃ y, y = s.found.newPassword x (fieldLE data 0 1) (data.drop 1) := ⟨_, rfl⟩
  rw [← made] at result keeps place others
  have special (v : Int) : s.found.writeSpecial r 0x5001 9 v data = some (y.finish Code.STATUS_OK) :=
    (Dev.writeSpecial_passwordSet v).trans (congrArg some result)
  obtain ⟨c, write⟩ : ∃ c, s.found.odWrite r 0x5001 9 data = (y.finish Code.STATUS_OK).keepsAlive c := by
    rcases (Dev.odWrite_special ok special).1 with h | h
    · exact ⟨false, h⟩
    · exact ⟨true, h⟩
  have kept := (y.finish Code.STATUS_OK).keeps_keepsAlive c
  have leaves : Leaves (.passwordSet r data) s ((y.finish Code.STATUS_OK).keepsAlive c) :=
    Leaves.full (fun d => d.odWrite r 0x5001 9 data) (Dev.Serves.passes serves) write
      ((((keeps.mono (by decide)).finish Code.STATUS_OK).step kept : s.found.Keeps _ [.fresh, .dom, .gen, .safe, .od, .done]))
  have bytes (k : Nat) : ((y.finish Code.STATUS_OK).keepsAlive c).bytes k = y.bytes k := kept.bytes k
  refine leaves.does fun pend vecs => ⟨kept .done (by decide), ?_, fun j hj other => (bytes _).trans (others _ ?_)⟩
  · exact Dev.passwordOk_salted user₁ user₈ (length_leBytes _ _) ((bytes _).trans place)
  · simp only [Reg.R5001_USER_1, Reg.key]
    omega

end

end

/-- Settles O49: each branch of an open, a close, a password's change and the two ends of time, taken where its condition holds. -/
theorem passwordSessions : Obligations.PasswordSessions := by
  unfold Obligations.PasswordSessions
  intro s r data live
  dsimp only
  refine ⟨fun locked serves ok => sessionOpen_lockedOut serves ok locked, fun free h serves ok => sessionOpen_mayNot serves ok free h,
    fun free may shut => ⟨fun right serves ok => sessionOpen_opens serves ok free may shut right,
      fun wrong serves ok => sessionOpen_fails serves ok free may shut wrong⟩,
    fun x session => ⟨fun own serves ok => sessionClose_closes serves ok session own, fun other serves ok => sessionClose_denied serves ok ?_,
      fun late => sessionTimeout_ends live session late, fun early => sessionTimeout_idle live ?_,
      fun own self user₁ user₈ long short only serves ok => passwordSet_sets serves ok session own self user₁ user₈ long short only⟩,
    fun shut => ⟨fun serves ok => sessionClose_denied serves ok ?_, fun serves ok => passwordSet_denied serves ok shut,
      sessionTimeout_idle live ?_⟩,
    fun t locked => ⟨fun late => sessionLockoutEnd_ends live locked late, fun early => sessionLockoutEnd_idle live ?_⟩,
    fun free => sessionLockoutEnd_idle live ?_⟩
  · exact fun y hy => Option.some.inj (session.symm.trans hy) ▸ other
  · exact fun y hy => Option.some.inj (session.symm.trans hy) ▸ early
  · exact fun y hy => absurd (shut.symm.trans hy) (by simp)
  · exact fun y hy => absurd (shut.symm.trans hy) (by simp)
  · exact fun u hu => Option.some.inj (locked.symm.trans hu) ▸ early
  · exact fun u hu => absurd (free.symm.trans hu) (by simp)

end Sys2Proof.Machine
end

section
/-! # Every path's write meets the same server (R435 to R440, R453) -/

namespace Sys2Proof.Machine

/-! ## Values of a type -/

/-- What lies below a value that a type holds, the type holds too. -/
theorem OdType.wrap_below (t : OdType) {n m : Nat} (fits : t.wrap n = n) (below : m ≤ n) : t.wrap m = m := by
  have all : ∀ p : Nat, 0 < p → (n : Int) % p = n → (m : Int) % p = m := fun p hp h =>
    Int.emod_eq_of_lt (by omega) (by have := Int.emod_lt_of_pos (n : Int) (Int.natCast_pos.2 hp); omega)
  have signed : ∀ p : Nat, 0 < p → (n : Int).bmod p = n → (m : Int).bmod p = m := fun p hp h => by
    have := Int.bmod_lt (x := (n : Int)) hp
    exact Int.bmod_eq_of_le (by omega) (by omega)
  have pos : 0 < 2 ^ (8 * t.size) := by positivity
  unfold OdType.wrap at fits ⊢
  split at fits
  · exact (if_pos ‹_›).trans (signed _ pos fits)
  · rw [if_neg ‹_›]
    exact_mod_cast all _ pos (by exact_mod_cast fits)

theorem OdType.wrap_zero (t : OdType) : t.wrap 0 = 0 := by cases t <;> rfl

section
variable (d : Dev)

theorem Dev.keeps_clearBits (k bits : Nat) : d.Keeps (d.clearBits k bits) [.od] := d.keeps_set k _

/-- A bit written as 1 to a write-one-to-clear entry that holds a value of its type reads 0. -/
theorem Dev.bit_cleared {k : Nat} (fits : (odType k).wrap (d.nat k) = d.nat k) {bits n : Nat} (one : bits.testBit n = true) :
    (d.clearBits k bits).bit k n = false := by
  rw [Dev.bit, Dev.nat, Dev.clearBits, Dev.reg_set_same, OdType.wrap_below _ fits (Nat.sub_le _ _), Int.toNat_natCast, testBit_sub_and, one]
  simp

/-! ## What a plain write stores -/

/-- The device with the value of a plain write stored, or cleared where the entry's access says so. -/
def Dev.plainly (e : Entry) (ix sub : Nat) (v : Int) : Dev :=
  let k := Reg.key ix sub
  if e.acc = .w1c then (if e.count then d.set k 0 else d.clearBits k (v.toNat &&& w1cMask ix sub)) else d.set k v

theorem Dev.storeEntry_scalar {e : Entry} (dom : e.ty ≠ .dom) (str : e.ty ≠ .str) (ix sub : Nat) (v : Int) (data : Bytes) :
    d.storeEntry e ix sub v data = (d.plainly e ix sub v).finish Code.STATUS_OK := by
  unfold Dev.storeEntry Dev.plainly
  dsimp only
  split
  · exact absurd ‹_› dom
  · exact absurd ‹_› str
  · rw [if_pos ‹e.acc = .w1c›]
  · rw [if_neg ‹e.acc = .w1c → False›]

theorem Dev.keeps_plainly (e : Entry) (ix sub : Nat) (v : Int) : d.Keeps (d.plainly e ix sub v) [.od] := by
  unfold Dev.plainly
  dsimp only
  split_ifs
  · exact d.keeps_set _ _
  · exact d.keeps_clearBits _ _
  · exact d.keeps_set _ _

theorem Dev.reg_plainly_other (e : Entry) {ix sub k : Nat} (v : Int) (h : k ≠ Reg.key ix sub) : (d.plainly e ix sub v).reg k = d.reg k := by
  unfold Dev.plainly Dev.clearBits
  dsimp only
  split_ifs
  all_goals exact Dev.reg_set_other _ _ h

theorem Dev.reg_plainly {e : Entry} (ix sub : Nat) (v : Int) (plain : e.acc ≠ .w1c) :
    (d.plainly e ix sub v).reg (Reg.key ix sub) = (odType (Reg.key ix sub)).wrap v := by
  rw [Dev.plainly, if_neg plain, Dev.reg_set_same]

theorem Dev.plainly_count {e : Entry} (ix sub : Nat) (v : Int) (acc : e.acc = .w1c) (count : e.count = true) :
    (d.plainly e ix sub v).reg (Reg.key ix sub) = 0 := by
  rw [Dev.plainly, if_pos acc, if_pos count, Dev.reg_set_same, OdType.wrap_zero]

theorem Dev.plainly_clears {e : Entry} (ix sub : Nat) (v : Int) (acc : e.acc = .w1c) (count : e.count = false) {n : Nat}
    (fits : (odType (Reg.key ix sub)).wrap (d.nat (Reg.key ix sub)) = d.nat (Reg.key ix sub)) (one : v.toNat.testBit n = true)
    (open_ : (w1cMask ix sub).testBit n = true) : (d.plainly e ix sub v).bit (Reg.key ix sub) n = false := by
  rw [Dev.plainly, if_pos acc, if_neg (by simp [count])]
  exact d.bit_cleared fits (by rw [Nat.testBit_and, one, open_]; rfl)

/-- An accepted write of a scalar entry without an effect of its own stores its value. -/
theorem Dev.odWrite_plain {d : Dev} {r : Requester} {e : Entry} {ix sub j : Nat} {data : Bytes} (found : locate ix sub = .entry e j)
    (ok : d.WriteOk r ix sub data) (dom : e.ty ≠ .dom) (str : e.ty ≠ .str) (plain : ∀ v, d.writeSpecial r ix sub v data = none) : ∃ c,
    d.odWrite r ix sub data = ((d.plainly e ix sub (e.ty.wrap (leNat data))).finish Code.STATUS_OK).keepsAlive c := by
  obtain ⟨c, result⟩ := Dev.odWrite_passes found ok
  exact ⟨c, by rw [result, plain, Option.getD_none, Dev.storeEntry_scalar _ dom str]⟩

/-! ## Refused writes -/

/-- A write answered with a code that changes nothing but the log. -/
def Dev.Refuses (d a : Dev) (code : Nat) : Prop :=
  a.done = code ∧ d.KeepsRegs a (Reg.R1150_LAST_CODE :: logRegs) ∧ d.Keeps a (.done :: logParts)

theorem Dev.finish_refuses (code : Nat) : d.Refuses (d.finish code) code :=
  ⟨rfl, fun _ _ => rfl, (d.keeps_finish code).mono (by simp)⟩

theorem Dev.denied_refuses : d.Refuses d.denied Code.SESSION_DENIED :=
  ⟨rfl, fun _ hk => d.reg_denied fun log => hk (List.mem_cons_of_mem _ log), d.keeps_denied⟩

theorem Dev.Refuses.of_keeps {d e a : Dev} {code : Nat} (h : d.Refuses e code) {l : List Part} (keeps : e.Keeps a l)
    (within : ∀ p ∈ l, p = .serve := by simp) : d.Refuses a code := by
  obtain ⟨done, regs, kept⟩ := h
  have same {p : Part} (hp : p ≠ .serve) : p.Same e a := keeps p fun at_ => hp (within p at_)
  refine ⟨(same (p := .done) (by decide)).trans done, fun k hk => ?_, kept.trans keeps |>.mono fun p hp => ?_⟩
  · exact (Dev.reg_congr (same (p := .od) (by decide)) k).trans (regs k hk)
  · rcases List.mem_append.1 hp with hp | hp
    · exact hp
    · rw [within p hp]
      decide

variable (r : Requester) {ix sub : Nat} (data : Bytes)

theorem Dev.writeRefused_refuses {code : Nat}
    (h : code ∈ [Code.OD_READ_ONLY, Code.OD_PATH_DENIED, Code.SESSION_DENIED, Code.OD_TYPE, Code.OD_RANGE]) :
    d.Refuses (d.writeRefused ix sub code) code := by
  simp only [List.mem_cons, List.not_mem_nil, or_false] at h
  rcases h with rfl | rfl | rfl | rfl | rfl
  case inr.inr.inl => exact d.denied_refuses
  all_goals exact d.finish_refuses _

theorem Dev.odWrite_refuses {e : Entry} {j code : Nat} (found : locate ix sub = .entry e j) (check : d.writeCheck r e ix sub data = code)
    (h : code ∈ [Code.OD_READ_ONLY, Code.OD_PATH_DENIED, Code.SESSION_DENIED, Code.OD_TYPE, Code.OD_RANGE]) :
    d.Refuses (d.odWrite r ix sub data) code := by
  rw [Dev.odWrite_checked found check (by rintro rfl; revert h; decide)]
  exact d.writeRefused_refuses h

theorem Dev.writeCheck_readOnly {e : Entry} (clock : networkClock ix sub = false) (acc : e.acc = .ro) :
    d.writeCheck r e ix sub data = Code.OD_READ_ONLY := by
  rw [Dev.writeCheck, if_neg (by simp [clock]), if_pos (.inl acc)]

section
variable {d r data} {e : Entry} (clock : networkClock ix sub = false) (acc : e.acc ≠ .ro) (far : ix < 0x7810 ∨ 0x7840 ≤ ix ∨ 8 < sub)
include clock acc far

theorem Dev.writeCheck_path (path : d.pathOpen r ix sub = false) : d.writeCheck r e ix sub data = Code.OD_PATH_DENIED := by
  unfold Dev.writeCheck
  rw [if_neg (by simp [clock]), if_neg (by simp only [acc, false_or]; omega), if_pos (by simp [path])]

theorem Dev.writeCheck_open (path : d.pathOpen r ix sub = true) (session : e.acc = .sl → d.slAllowed r = true) :
    d.writeCheck r e ix sub data = if !encodingOk e data then Code.OD_TYPE
      else if !(e.rng.has (e.ty.wrap (leNat data))) || !listedOk ix sub (e.ty.wrap (leNat data)) data.length then Code.OD_RANGE else Code.STATUS_OK := by
  have held : ¬(e.acc = .sl ∧ d.slAllowed r = false) := fun ⟨h, no⟩ => by simp [session h] at no
  unfold Dev.writeCheck
  rw [if_neg (by simp [clock]), if_neg (by simp only [acc, false_or]; omega), if_neg (by simp [path]), if_neg held]

end

/-! ## The services of a write -/

theorem Dev.keeps_showEntry (len : Nat) : d.Keeps (d.showEntry ix sub len) [] := by
  intro p _
  cases p <;> rfl

end

/-- The two services that write an entry of the dictionary and answer its code alone. -/
noncomputable abbrev plainWrites (r : Requester) (ix sub : Nat) (data : Bytes) : List Instr := [.write r ix sub data, .registerWrite r (.entry ix sub) data]

section
variable {s : State} {r : Requester} {ix sub : Nat} {data : Bytes} (serves : s.found.Serves r ix) (clock : s.ClockOk)
include serves clock

/-- Both services leave the device that the write leaves, with what it shows of the entry. -/
theorem plainWrites_leave {e : Dev} (result : s.found.odWrite r ix sub data = e) (clk : e.clk = s.dev.clk) :
    ∀ i ∈ plainWrites r ix sub data, ∃ x, Leaves i s x ∧ e.Keeps x [] := by
  intro i hi
  simp only [plainWrites, List.mem_cons, List.not_mem_nil, or_false] at hi
  rcases hi with rfl | rfl
  · refine ⟨_, .clockKept (guard := fun d => d.reached r ix) (·.svcWrite r ix sub data) serves.passes rfl clock ?_ rfl, ?_⟩
    · rw [Dev.svcWrite, result]
      exact clk
    · rw [Dev.svcWrite, result]
      exact e.keeps_showEntry _
  · exact ⟨e, .clockKept (guard := fun d => d.reached r ix) (·.odWrite r ix sub data) serves.passes result clock clk rfl, Dev.Keeps.refl _ _⟩

theorem plainWrites_refused {code : Nat} (h : s.found.Refuses (s.found.odWrite r ix sub data) code) :
    ∀ i ∈ plainWrites r ix sub data, Does i s fun b a => b.Refuses a code := by
  intro i hi
  obtain ⟨x, leaves, keeps⟩ := plainWrites_leave serves clock rfl (h.2.2 .clk (by decide)) i hi
  exact leaves.does fun _ _ => (h.of_keeps keeps).of_keeps (Dev.keeps_told _ _ _)

/-- An accepted write of a scalar entry without an effect of its own stores the value in its type and nothing else. -/
theorem plainWrites_stored {e : Entry} {j : Nat} (found : locate ix sub = .entry e j) (ok : s.found.WriteOk r ix sub data) (dom : e.ty ≠ .dom)
    (str : e.ty ≠ .str) (plain : ∀ v, s.found.writeSpecial r ix sub v data = none) :
    ∀ i ∈ plainWrites r ix sub data, Does i s fun b a =>
      a.done = Code.STATUS_OK ∧ b.Keeps a [.od, .safe, .done] ∧ a.safe.log = b.safe.log ∧
      ∀ k, a.reg k = (b.plainly e ix sub (e.ty.wrap (leNat data))).reg k := by
  intro i hi
  obtain ⟨c, result⟩ := Dev.odWrite_plain found ok dom str plain
  have stored := s.found.keeps_plainly e ix sub (e.ty.wrap (leNat data))
  obtain ⟨y, made⟩ : ∃ y, y = s.found.plainly e ix sub (e.ty.wrap (leNat data)) := ⟨_, rfl⟩
  rw [← made] at result stored
  have alive := (y.finish Code.STATUS_OK).keeps_keepsAlive c
  have all : s.found.Keeps ((y.finish Code.STATUS_OK).keepsAlive c) [.od, .safe, .done] :=
    ((stored.mono (by simp)).finish Code.STATUS_OK).keepsAlive c
  obtain ⟨x, leaves, same⟩ := plainWrites_leave serves clock result (all .clk (by decide)) i hi
  have kept : s.found.Keeps x [.od, .safe, .done] := (all.trans same).mono (by simp)
  refine leaves.quietly (kept .event (by decide)) ⟨?_, kept, ?_, fun k => ?_⟩
  · exact (same .done (by simp)).trans (alive .done (by decide))
  · have log : ((y.finish Code.STATUS_OK).keepsAlive c).safe.log = y.safe.log := by cases c <;> rfl
    rw [show x.safe = _ from same .safe (by simp), log, show y.safe = _ from stored .safe (by decide)]
  · rw [← made, Dev.reg_congr (same .od (by simp)) k, Dev.reg_congr (alive .od (by decide)) k, Dev.reg_finish]

end

/-! ## The memory window -/

theorem windowPlace {ix sub : Nat} (hx : ix < 65536) (hs : sub < 256) :
    (4096 * ix + 16 * sub) / 4096 % 65536 = ix ∧ (4096 * ix + 16 * sub) / 16 % 256 = sub ∧ (4096 * ix + 16 * sub) % 16 = 0 := by omega

section
variable (d : Dev) (r : Requester) {ix sub : Nat} {e : Entry} {j : Nat} (hx : ix < 65536) (hs : sub < 256) (found : locate ix sub = .entry e j)
include found

theorem isLong_entry : isLong ix sub = (e.ty == .dom || e.ty == .str) := by rw [isLong, found]

theorem typeAt_entry : typeAt ix sub = e.ty := by rw [typeAt, found]

include hx hs

/-- A write of a whole slot narrower than 14 bytes is the write of its entry. -/
theorem Dev.windowWriteAt_slot {data : Bytes} (size : e.ty.size = data.length) (narrow : e.ty ∉ [.dom, .str, .time, .digest])
    (none : (d.winOf r).write = none) : d.windowWriteAt r (4096 * ix + 16 * sub) data =
      (d.odWrite r ix sub data).winDone r (d.odWrite r ix sub data).done [] := by
  obtain ⟨atIx, atSub, start⟩ := windowPlace hx hs
  simp only [List.mem_cons, List.not_mem_nil, or_false, not_or] at narrow
  obtain ⟨dom, str, time, digest⟩ := narrow
  simp only [Dev.windowWriteAt, atIx, atSub, start, found, isLong_entry found, typeAt_entry found, none]
  simp [dom, str, time, digest, size, Dev.when]

/-- A read of a whole slot narrower than 14 bytes is the read of its entry. -/
theorem Dev.windowRead_slot (narrow : e.ty ∉ [.dom, .str, .time, .digest]) : d.windowRead r (4096 * ix + 16 * sub) e.ty.size =
    (d.odRead r ix sub).2.2.winDone r (d.odRead r ix sub).1 (d.odRead r ix sub).2.1 := by
  obtain ⟨atIx, atSub, start⟩ := windowPlace hx hs
  simp only [List.mem_cons, List.not_mem_nil, or_false, not_or] at narrow
  obtain ⟨dom, str, time, digest⟩ := narrow
  simp only [Dev.windowRead, atIx, atSub, start, found, isLong_entry found, typeAt_entry found]
  simp [dom, str, time, digest]

end

section
variable (d : Dev) (r : Requester)

theorem Dev.winDone_ok (data : Bytes) : d.winDone r Code.STATUS_OK data = d.reply Code.STATUS_OK data := rfl

theorem Dev.keeps_reply (code : Nat) (data : Bytes) : d.Keeps (d.reply code data) [.done] := by
  intro p hp
  cases p with
  | done => simp at hp
  | _ => rfl

theorem Dev.keeps_winDone (code : Nat) (data : Bytes) : d.Keeps (d.winDone r code data) [.serve, .done] := by
  intro p hp
  unfold Dev.winDone Dev.when Dev.setWin Dev.reply
  cases p with
  | serve | done => simp at hp
  | _ => simp only; split <;> rfl

theorem Dev.winOf_who : (d.winOf r).who = r := by
  unfold Dev.winOf
  cases h : d.serve.windows.find? fun w => w.who = r with
  | none => rfl
  | some w => simpa using List.find?_some h

theorem Dev.winOf_setWin (x : WinLatch) : (d.setWin x).winOf x.who = x := by
  have others : (d.serve.windows.filter fun w => w.who ≠ x.who).find? (fun w => w.who = x.who) = none :=
    List.find?_eq_none.2 fun w hw => by simpa using (List.mem_filter.1 hw).2
  simp only [Dev.winOf, Dev.setWin, List.find?_append, others]
  simp

theorem Dev.winOf_winDone {code : Nat} (bad : code ≠ Code.STATUS_OK) (data : Bytes) : ((d.winDone r code data).winOf r).status = code := by
  have shown := d.winOf_setWin { d.winOf r with status := code }
  rw [show ({ d.winOf r with status := code } : WinLatch).who = r from d.winOf_who r] at shown
  have same : (d.winDone r code data).winOf r = (d.setWin { d.winOf r with status := code }).winOf r := by
    rw [Dev.winDone, Dev.when, if_pos (by simpa using bad)]
    rfl
  rw [same, shown]

/-! ## Reads -/

theorem Dev.odRead_nowhere {ix sub : Nat} (h : locate ix sub = .nowhere) : d.odRead r ix sub = (Code.OD_NO_ENTRY, [], d) := by
  simp [Dev.odRead, h]

theorem Dev.odRead_writeOnly {ix sub : Nat} {e : Entry} {j : Nat} (found : locate ix sub = .entry e j) (acc : e.acc = .wo) :
    d.odRead r ix sub = (Code.OD_WRITE_ONLY, List.replicate e.ty.size 0, d) := by
  simp [Dev.odRead, found, acc]

/-- A readable scalar that no block computes shows the value stored. -/
theorem Dev.odRead_stored {ix sub : Nat} {e : Entry} {j : Nat} (found : locate ix sub = .entry e j) (acc : e.acc ≠ .wo) (dom : e.ty ≠ .dom)
    (str : e.ty ≠ .str) (none : d.scalarView r ix sub = none) (far : ix < 0x7810 ∨ 0x785B ≤ ix) :
    d.odRead r ix sub = (Code.STATUS_OK, scalarBytes e.ty (d.reg (Reg.key ix sub)), d) := by
  have bytes : d.entryBytes r e ix sub = (scalarBytes e.ty (d.reg (Reg.key ix sub)), d) := by
    rw [Dev.entryBytes, if_neg (by simp [dom, str]), if_neg (by omega), none]
    rfl
  simp [Dev.odRead, found, acc, bytes]

theorem length_scalarBytes (t : OdType) (v : Int) : (scalarBytes t v).length = t.size := length_leBytes _ _

end

section
variable {s : State} {r : Requester} {ix sub : Nat} (serves : s.found.Serves r ix)
include serves

/-- READ answers what the entry's read gives, and changes nothing. -/
theorem read_answers {code : Nat} {bytes : Bytes} (result : s.found.odRead r ix sub = (code, bytes, s.found)) (short : bytes.length ≤ 65536) :
    Does (.read r ix sub) s fun b a => a.done = code ∧ a.resp.data = bytes ∧ b.Keeps a [.done] := by
  obtain ⟨len, given⟩ : ∃ len, s.found.svcRead r ix sub 65536 = (s.found.showEntry ix sub len).reply code bytes :=
    ⟨_, by simp only [Dev.svcRead, result]; exact if_neg (by omega)⟩
  have keeps : s.found.Keeps ((s.found.showEntry ix sub len).reply code bytes) [.done] :=
    ((s.found.keeps_showEntry len).trans (Dev.keeps_reply _ _ _)).mono (by simp)
  exact (Leaves.dry (guard := fun d => d.reached r ix) (·.svcRead r ix sub 65536) serves.passes given keeps).quietly
    (keeps .event (by decide)) ⟨rfl, rfl, keeps⟩

end

section
variable {s : State} {r : Requester} {ix sub : Nat} {e : Entry} {j : Nat} (hx : ix < 65536) (hs : sub < 256) (serves : s.found.Serves r ix)
  (found : locate ix sub = .entry e j)
include hx hs serves found

/-- A window read of a readable scalar that no block computes gives the value stored. -/
theorem windowRead_answers (narrow : e.ty ∉ [.dom, .str, .time, .digest]) {bytes : Bytes}
    (result : s.found.odRead r ix sub = (Code.STATUS_OK, bytes, s.found)) :
    Does (.windowRead r (4096 * ix + 16 * sub) e.ty.size) s fun b a => a.done = Code.STATUS_OK ∧ a.resp.data = bytes ∧ b.Keeps a [.done] := by
  have given : s.found.windowRead r (4096 * ix + 16 * sub) e.ty.size = s.found.reply Code.STATUS_OK bytes := by
    rw [Dev.windowRead_slot _ _ hx hs found narrow, result, Dev.winDone_ok]
  have keeps := s.found.keeps_reply Code.STATUS_OK bytes
  have pass : s.Passes fun d => d.reached r ((4096 * ix + 16 * sub) / 4096 % 65536) := by
    rw [(windowPlace hx hs).1]
    exact serves.passes
  exact (Leaves.dry (guard := fun d => d.reached r ((4096 * ix + 16 * sub) / 4096 % 65536)) (·.windowRead r (4096 * ix + 16 * sub) e.ty.size)
    pass given keeps).quietly (keeps .event (by decide)) ⟨rfl, rfl, keeps⟩

section
variable (clock : s.ClockOk) {data : Bytes} (size : e.ty.size = data.length) (narrow : e.ty ∉ [.dom, .str, .time, .digest])
  (none : (s.found.winOf r).write = none)
include clock size narrow none

theorem windowWrite_leaves (clk : (s.found.odWrite r ix sub data).clk = s.dev.clk) :
    Leaves (.windowWrite r (4096 * ix + 16 * sub) data) s
      ((s.found.odWrite r ix sub data).winDone r (s.found.odWrite r ix sub data).done []) := by
  have pass : s.Passes fun d => d.reached r ((4096 * ix + 16 * sub) / 4096 % 65536) := by
    rw [(windowPlace hx hs).1]
    exact serves.passes
  exact .clockKept (guard := fun d => d.reached r ((4096 * ix + 16 * sub) / 4096 % 65536)) (·.windowWriteAt r (4096 * ix + 16 * sub) data) pass
    (Dev.windowWriteAt_slot _ _ hx hs found size narrow none) clock ((Dev.keeps_winDone _ _ _ _ .clk (by decide)).trans clk) rfl

theorem windowWrite_stored (ok : s.found.WriteOk r ix sub data) (plain : ∀ v, s.found.writeSpecial r ix sub v data = Option.none) (acc : e.acc ≠ .w1c) :
    Does (.windowWrite r (4096 * ix + 16 * sub) data) s fun b a =>
      a.done = Code.STATUS_OK ∧ a.reg (Reg.key ix sub) = (odType (Reg.key ix sub)).wrap (e.ty.wrap (leNat data)) ∧ b.KeepsRegs a [Reg.key ix sub] := by
  have scalar : e.ty ≠ .dom ∧ e.ty ≠ .str := by simp at narrow; tauto
  obtain ⟨c, result⟩ := Dev.odWrite_plain found ok scalar.1 scalar.2 plain
  have stored := s.found.keeps_plainly e ix sub (e.ty.wrap (leNat data))
  have value := s.found.reg_plainly (e := e) ix sub (e.ty.wrap (leNat data)) acc
  have others : ∀ k, k ∉ [Reg.key ix sub] → _ := fun k hk => s.found.reg_plainly_other e (e.ty.wrap (leNat data)) (by simpa using hk : k ≠ Reg.key ix sub)
  obtain ⟨y, made⟩ : ∃ y, y = s.found.plainly e ix sub (e.ty.wrap (leNat data)) := ⟨_, rfl⟩
  rw [← made] at result stored value others
  have alive := (y.finish Code.STATUS_OK).keeps_keepsAlive c
  have leaves := windowWrite_leaves hx hs serves found clock size narrow none (by
    rw [result]
    exact (alive .clk (by decide)).trans (stored .clk (by decide)))
  have done : ((y.finish Code.STATUS_OK).keepsAlive c).done = Code.STATUS_OK := alive .done (by decide)
  rw [result, done, Dev.winDone_ok] at leaves
  have reg (k : Nat) (pend vecs : List Nat) : ((((y.finish Code.STATUS_OK).keepsAlive c).reply Code.STATUS_OK []).told pend vecs).reg k = y.reg k := by
    rw [Dev.reg_told, Dev.reg_congr (Dev.keeps_reply _ _ _ .od (by decide)), Dev.reg_congr (alive .od (by decide)), Dev.reg_finish]
  exact leaves.does fun _ _ => ⟨rfl, (reg _ _ _).trans value, fun k hk => (reg _ _ _).trans (others k hk)⟩

theorem windowWrite_readOnly (fixed : networkClock ix sub = false) (acc : e.acc = .ro) :
    Does (.windowWrite r (4096 * ix + 16 * sub) data) s fun b a =>
      a.done = Code.OD_READ_ONLY ∧ (a.winOf r).status = Code.OD_READ_ONLY ∧ b.KeepsRegs a [] ∧ b.Keeps a [.serve, .done] := by
  have result : s.found.odWrite r ix sub data = s.found.finish Code.OD_READ_ONLY :=
    (Dev.odWrite_checked found (s.found.writeCheck_readOnly r data fixed acc) (by decide)).trans rfl
  have leaves := windowWrite_leaves hx hs serves found clock size narrow none (by rw [result]; rfl)
  rw [result, Dev.finish_done] at leaves
  have keeps : s.found.Keeps ((s.found.finish Code.OD_READ_ONLY).winDone r Code.OD_READ_ONLY []) [.serve, .done] :=
    ((s.found.keeps_finish _).trans (Dev.keeps_winDone _ _ _ _)).mono (by simp)
  exact leaves.quietly (keeps .event (by decide))
    ⟨rfl, Dev.winOf_winDone _ r (by decide) _, fun k _ => Dev.reg_congr (keeps .od (by decide)) k, keeps⟩

end

end

/-- Settles O52: what the server's checks answer, what a plain write stores, and what a read of a stored value gives. -/
theorem odAccess : Obligations.OdAccess := by
  unfold Obligations.OdAccess
  intro s r ix sub data hx hs d k window plain refused serves
  refine ⟨fun h clock => ?_, fun h clock => ?_, fun e j found fixed => ⟨fun acc clock => ?_, fun acc far => ⟨fun path clock => ?_, fun path acc' no clock => ?_,
      fun path session => ⟨fun bad clock => ?_, fun good out clock => ?_⟩⟩⟩,
    fun e j found ok dom str clock special => ?_, fun e j found size narrow none clock => ⟨fun ok special acc => ?_, fun fixed acc => ?_⟩,
    fun h => ?_, fun e j found dom str => ⟨fun acc => ?_, fun acc none far short => ⟨?_, fun time digest => ?_⟩⟩⟩
  · exact plainWrites_refused serves clock (by rw [Dev.odWrite_nowhere h]; exact Dev.finish_refuses _ _)
  · refine plainWrites_refused serves clock ?_
    have result : s.found.odWrite r ix sub data = s.found.finish Code.OD_READ_ONLY := by
      rcases h with ⟨n, h⟩ | ⟨e, j, h⟩ <;> simp [Dev.odWrite, h]
    rw [result]
    exact Dev.finish_refuses _ _
  · exact plainWrites_refused serves clock (Dev.odWrite_refuses _ _ _ found (Dev.writeCheck_readOnly _ _ _ fixed acc) (by decide))
  · exact plainWrites_refused serves clock (Dev.odWrite_refuses _ _ _ found (Dev.writeCheck_path fixed acc far path) (by decide))
  · exact plainWrites_refused serves clock (Dev.odWrite_refuses _ _ _ found (Dev.writeCheck_session fixed acc' far path no) (by decide))
  · refine plainWrites_refused serves clock (Dev.odWrite_refuses _ _ _ found (Dev.writeCheck_open fixed acc far path session |>.trans ?_) (by decide))
    rw [bad]
    rfl
  · refine plainWrites_refused serves clock (Dev.odWrite_refuses _ _ _ found (Dev.writeCheck_open fixed acc far path session |>.trans ?_) (by decide))
    rw [good, out]
    rfl
  · intro i hi
    obtain ⟨a, runs, done, keeps, log, reg⟩ := plainWrites_stored serves clock found ok dom str special i hi
    refine ⟨a, runs, done, fun n hn => ?_, keeps, fun acc => ⟨?_, log⟩, fun acc count => ?_, fun acc count n fits _ one mask => ?_⟩
    · exact (reg n).trans (Dev.reg_plainly_other _ _ _ (by simpa using hn))
    · exact (reg _).trans (Dev.reg_plainly _ _ _ _ acc)
    · exact (reg _).trans (Dev.plainly_count _ _ _ _ acc count)
    · rw [Dev.bit, Dev.nat, reg]
      exact Dev.plainly_clears _ _ _ _ acc count fits one mask
  · exact windowWrite_stored hx hs serves found clock size narrow none ok special acc
  · exact windowWrite_readOnly hx hs serves found clock size narrow none fixed acc
  · exact read_answers serves (Dev.odRead_nowhere _ _ h) (by simp)
  · exact read_answers serves (Dev.odRead_writeOnly _ _ found acc) (by cases e.ty <;> decide)
  · exact read_answers serves (Dev.odRead_stored _ _ found acc dom str none far) (by rw [length_scalarBytes]; omega)
  · exact windowRead_answers hx hs serves found (by simp [dom, str, time, digest]) (Dev.odRead_stored _ _ found acc dom str none far)

end Sys2Proof.Machine
end

section
/-! # Blocks of an engine's memory (R244, R444) -/

namespace Sys2Proof.Machine

/-- A module in CONFIG, as it leaves reset else. -/
def inConfig : State := { State.reset with dev := State.reset.dev.set Reg.R1001_DEV_STATE DevState.config }

/-- The code a command leaves. -/
def codeAfter (i : Instr) (s : State) : Nat := match exec i s with | .next t => t.dev.done | _ => Code.STATUS_OK

theorem Does.codeAfter {i : Instr} {s : State} {P : Dev → Dev → Prop} {code : Nat} (h : Does i s P) (p : ∀ b a, P b a → a.done = code) :
    codeAfter i s = code := by
  obtain ⟨a, runs, holds⟩ := h
  rw [Machine.codeAfter, runs]
  exact p _ _ holds

/-- Refutes O53: a first block of one byte at offset 1 of an engine's program memory (OD 3510.05), which the statement has accepted, splits a
word and is answered with OD_TRANSFER_INVALID (R244). -/
theorem not_odServices : ¬ Obligations.OdServices := by
  unfold Obligations.OdServices
  intro h
  let host : Requester := { path := 0, id := 0 }
  have live : inConfig.Live := by unfold State.Live; decide +kernel
  have up : inConfig.found.online host = true ∧ inConfig.found.boot.recovery = false := by decide +kernel
  have place : locate 0x3510 5 = .entry (row 0x05 .dom .rw 0 0 .any 0 65536) (Reg.key 0x3510 5) := by decide +kernel
  have takes : ∃ e j, locate 0x3510 5 = .entry e j ∧ (e.ty = .dom ∨ e.ty = .str) ∧ e.acc ≠ .ro ∧ inConfig.found.pathOpen host 0x3510 5 = true ∧
      (e.acc = .sl → inConfig.found.slAllowed host = true) ∧ 2 ≤ e.size ∧ 0x3510 ≠ 0x6020 :=
    ⟨_, _, place, by decide +kernel⟩
  have clock : inConfig.ClockOk := by unfold State.ClockOk; decide +kernel
  obtain ⟨opens, -⟩ := h inConfig host 0x3510 5 1 0 2 [0] live (by decide) (by decide)
  obtain ⟨accepted, -⟩ := opens up clock takes (by decide) (by decide +kernel) (by decide +kernel)
  have answered : codeAfter (.dwrite host 0x3510 5 1 2 false [0]) inConfig = Code.OD_TRANSFER_INVALID := by decide +kernel
  have claimed := (accepted (by decide)).codeAfter fun _ _ p => p.1
  exact absurd (answered.symm.trans claimed) (by decide)

end Sys2Proof.Machine
end

section
/-! # Two items in one slot (R264, R267, R274) -/

namespace Sys2Proof.Machine

/-- A module in CONFIG whose Sett holds these items. -/
def withItems (items : List Item) : State :=
  { inConfig with dev := { inConfig.dev with sett := { inConfig.dev.sett with items } } }

/-- A journaled item whose record is not yet written, and a fence that waits in the same slot for the same record. -/
def sharedSlot : List Item :=
  [{ slot := 0, gen := 0, desc := mkDesc 1 0 0 2 0 0 [], seq := 0, record := some 0, written := false, since := 0 },
   { slot := 0, gen := 0, desc := mkDesc 0 0 0 6 0 0 [], seq := 0, record := some 0, written := false, since := 0 }]

/-- Whether a slot holds an item after a command. -/
def slotAfter (i : Instr) (s : State) (slot : Nat) : Bool := match exec i s with | .next t => (t.dev.item slot).isSome | _ => false

/-- Refutes O36: the statement admits a Sett in which a fence shares the slot of a journaled item. Its record written, the fence no longer
waits, and its end takes every item of the slot along. -/
theorem not_itemsComeAndGo : ¬ Obligations.ItemsComeAndGo := by
  unfold Obligations.ItemsComeAndGo
  intro h
  have live : (withItems sharedSlot).Live := by unfold State.Live; decide +kernel
  obtain ⟨-, -, -, -, recorded, -⟩ := h (withItems sharedSlot) 0 live (by decide)
  obtain ⟨a, runs, kept, -⟩ := recorded 0 _ 0 rfl rfl rfl (by decide +kernel) (by decide +kernel)
  have gone : slotAfter (.journalRecordWritten 0) (withItems sharedSlot) 0 = false := by decide +kernel
  rw [slotAfter, runs] at gone
  simp [kept] at gone

end Sys2Proof.Machine
end

section
/-! # A latch armed by a scheduled action (R134, R359) -/

namespace Sys2Proof.Machine

/-- A module in RUN in synchronisation, whose scheduled action 0 is armed for now: to arm the latch of axis 0 on input 50, which no input
has. -/
def latchDue : State :=
  { State.reset with dev := [(Reg.R1001_DEV_STATE, (DevState.run : Int)), (Reg.R1140_NT_VALID, 1), (actKey 0 ActField.state, 1),
      (actKey 0 ActField.kind, 3), (actKey 0 ActField.sub, 50), (actKey 0 ActField.value, 1)].foldl (fun d x => d.set x.1 x.2) State.reset.dev }

/-- What an entry holds after a command. -/
def regAfter (i : Instr) (s : State) (k : Nat) : Int := match exec i s with | .next t => t.dev.reg k | _ => 0

/-- Refutes O46: the statement has every due ARM_LATCH succeed, whatever input its SUB names. Input 50 is none that a latch can name, so the
write of LATCH_INPUT is refused with OD_RANGE and the action fails. -/
theorem not_scheduledActions : ¬ Obligations.ScheduledActions := by
  unfold Obligations.ScheduledActions
  intro h
  have up : latchDue.Up := by unfold State.Up; decide +kernel
  obtain ⟨-, -, -, -, -, -, -, -, latches, -⟩ := h latchDue 0 up (by decide)
  have due : latchDue.found.actDue 0 3 = some 0 ∧ (latchDue.found.actRun 0).late = none ∧ latchDue.found.actNat 0 ActField.period = 0 := by
    decide +kernel
  have armed := latches 0 due (.inl (by decide +kernel)) (by decide +kernel)
  have input : regAfter (.armLatch 0) latchDue (Reg.AX11_LATCH_ARM 0) = 0 := by decide +kernel
  obtain ⟨a, runs, -, arm, -⟩ := armed
  have none : a.reg (Reg.AX11_LATCH_ARM 0) = 0 := by rw [regAfter, runs] at input; exact input
  have fields : latchDue.found.actNat 0 ActField.value = 1 ∧ latchDue.found.actNat 0 ActField.target = 0 := by decide +kernel
  simp only [fields] at arm
  rw [Dev.nat, none] at arm
  exact absurd arm (by decide)

end Sys2Proof.Machine
end

section
/-! # The confirmation count over DEV_CONTROL 2 (R458, R484) -/

namespace Sys2Proof.Machine

/-- A module in RUN whose confirmation count holds 2^40, which its type of 32 bits cannot hold. -/
def overCounted : State :=
  let d := State.reset.dev.set Reg.R1001_DEV_STATE DevState.run
  { State.reset with dev := { d with od := mset (odDefault Reg.R6020_CONFIRM_CYCLES) d.od Reg.R6020_CONFIRM_CYCLES (2 ^ 40) } }

/-- Refutes O55: SAFE writes the confirmation count back as an entry is written, narrowed to its type. A count of 2^40, which the statement
admits, reads 0 afterwards. -/
theorem not_deviceControl : ¬ Obligations.DeviceControl := by
  unfold Obligations.DeviceControl
  intro h
  have live : overCounted.Live := by unfold State.Live; decide +kernel
  have clock : overCounted.ClockOk := by unfold State.ClockOk; decide +kernel
  obtain ⟨-, -, safe, -⟩ := h overCounted live clock
  obtain ⟨a, runs, -, -, -, -, -, kept⟩ := safe (by decide +kernel)
  have before : overCounted.found.nat Reg.R6020_CONFIRM_CYCLES = 2 ^ 40 := by decide +kernel
  have after : regAfter .devControlSafe overCounted Reg.R6020_CONFIRM_CYCLES = 0 := by decide +kernel
  have none : a.reg Reg.R6020_CONFIRM_CYCLES = 0 := by rw [regAfter, runs] at after; exact after
  rw [before, Dev.nat, none] at kept
  exact absurd kept (by decide)

end Sys2Proof.Machine
end

section
/-! # Injection (R196 to R199) -/

/-! ## A start or an arm that is due (R36, R37, R39) -/

namespace Sys2Proof.Machine

/-- A code that is no critical fault writes entries of the fault log alone. -/
theorem Dev.reg_raise_calm (d : Dev) {code k : Nat} (kind subject reaction detail : Nat) (calm : ∀ e : Dev, e.criticalFault code = false)
    (log : k ∉ [Reg.R1003_NEXT_SEQ, Reg.R1003_LOG_WRAPPED]) : (d.raise code kind subject reaction detail).reg k = d.reg k := by
  simp only [List.mem_cons, List.not_mem_nil, or_false, not_or] at log
  have confirmed (e : Dev) : (e.when (e.criticalFault code) fun d => d.set Reg.R6020_CONFIRM_CYCLES 0).reg k = e.reg k := by
    rw [calm]
    rfl
  exact (Dev.reg_set_other _ _ log.1).trans ((confirmed _).trans (Dev.reg_when_set _ _ _ log.2))

section
variable {d : Dev} {k : Nat} {p : Pending}

/-- The device when a request due in synchronisation is taken: LATE_EXECUTED where it had passed, and the next of its table. -/
def Dev.dueTaken (d : Dev) (k : Nat) (p : Pending) : Dev :=
  (d.when p.late fun d => d.raise Code.LATE_EXECUTED Kind.table 0 0 (k * 256)).dropPending k

theorem Dev.dueNow_none (h : d.dueAt k = none) : d.dueNow k = (none, d) := by simp only [Dev.dueNow, h]

theorem Dev.dueNow_held (h : d.dueAt k = some p) (sync : d.inSync = false) : d.dueNow k = (none, d.holdCommit k) := by
  simp only [Dev.dueNow, h, sync, Bool.not_false, if_true]

theorem Dev.dueNow_taken (h : d.dueAt k = some p) (sync : d.inSync = true) : d.dueNow k = (some (p, d.dueTaken k p), d) := by
  simp only [Dev.dueNow, h, sync, Bool.not_true, Bool.false_eq_true, if_false, Dev.dueTaken]

theorem Dev.pend_of_due (h : d.dueAt k = some p) : mget none d.pend k = some p := by
  unfold Dev.dueAt at h
  split at h
  · next q found =>
    split_ifs at h
    rw [found, h]
  · simp at h

theorem Dev.holdCommit_held (h : d.dueAt k = some p) :
    mget none (d.holdCommit k).pend k = some { p with held := true, ready := false } := by
  simp only [Dev.holdCommit, mget_mset_same, Dev.pend_of_due h, Option.map_some]

theorem Dev.keeps_dueTaken (d : Dev) (k : Nat) (p : Pending) : d.Keeps (d.dueTaken k p) [.od, .log, .event, .pend] :=
  ((Dev.Keeps.refl d _).cond _ _ ((Dev.keeps_raise _ _ _ _ _ _).mono (by decide))).step (Dev.keeps_pend _ _)

theorem Dev.dueTaken_punctual (d : Dev) (k : Nat) (h : p.late = false) : d.Keeps (d.dueTaken k p) [.pend] := by
  rw [Dev.dueTaken, h]
  exact Dev.keeps_pend _ _

theorem Dev.dueTaken_late (d : Dev) (k : Nat) (h : p.late = true) : (d.dueTaken k p).LastRaised Code.LATE_EXECUTED Kind.table 0 := by
  rw [Dev.dueTaken, h]
  exact (d.lastRaised_raise _ _ _ _ _).of_keeps (Dev.keeps_pend _ _)

theorem Dev.dueTaken_pend (d : Dev) (k : Nat) (p : Pending) : mget none (d.dueTaken k p).pend k = mget none d.pend (behind k) := by
  have pend : (d.when p.late fun d => d.raise Code.LATE_EXECUTED Kind.table 0 0 (k * 256)).pend = d.pend :=
    Dev.Keeps.when _ _ (Dev.keeps_raise _ _ _ _ _ _) .pend (by decide)
  rw [Dev.dueTaken, Dev.dropPending, pend]
  exact (mget_mset_other _ _ _ _ (by simp)).trans (mget_mset_same _ _ _ _)

theorem Dev.reg_dueTaken (d : Dev) (k : Nat) (p : Pending) {j : Nat} (h : Reg.key 0x1003 0xFF < j) : (d.dueTaken k p).reg j = d.reg j := by
  change (d.when p.late _).reg j = _
  refine Dev.reg_when _ _ (Dev.reg_raise_calm _ _ _ _ _ (fun _ => rfl) ?_)
  simp only [Reg.key] at h
  simp only [List.mem_cons, List.not_mem_nil, or_false, not_or, Reg.R1003_NEXT_SEQ, Reg.R1003_LOG_WRAPPED, Reg.key]
  omega

end

end Sys2Proof.Machine
end

section
/-! ## Starts, ends and stops of a generator (R197, R198) -/

namespace Sys2Proof.Machine

theorem odType_ofInjection {g : Nat} (h : g < 16) : odType (Reg.R3430_STATE g) = .u8 ∧ odType (Reg.R3430_STATUS g) = .u16 := by
  revert g
  decide +kernel

theorem odType_injGen {n : Nat} (h : n < 128) : odType (Reg.AX13_INJ_GEN n) = .u8 := by
  revert n
  decide +kernel

section
variable {d e : Dev} {g : Nat}

/-- The conditions of a start depend on entries past the fault log, on the generators and on the lines of a multisine alone. -/
theorem Dev.injectionAllowed_congr (regs : ∀ k, Reg.key 0x1003 0xFF < k → e.reg k = d.reg k) (ident : e.ident = d.ident) (dom : e.dom = d.dom) :
    e.injectionAllowed g = d.injectionAllowed g := by
  have nat : ∀ k, Reg.key 0x1003 0xFF < k → e.nat k = d.nat k := fun k h => by rw [Dev.nat, Dev.nat, regs k h]
  have bytes : ∀ k, e.bytes k = d.bytes k := fun k => by rw [Dev.bytes, Dev.bytes, dom]
  have gen : ∀ k, e.injGen k = d.injGen k := fun k => by rw [Dev.injGen, Dev.injGen, ident]
  simp (disch := (simp only [Reg.key, Reg.AX1_STATE, Reg.R3430_AXIS, Reg.R3430_LEVEL, Reg.R3430_AMPLITUDE, Reg.R3430_SIGNAL, Reg.R3430_F0,
    Reg.R3430_F1, Reg.R3430_DURATION, Reg.R3430_PRBS_ORDER, Reg.R3430_PRBS_HOLD, Reg.R3430_MS_PERIOD, Reg.AX13_INJ_LIMIT_CUR,
    Reg.AX7_DIV_CUR, act]; omega)) only [Dev.injectionAllowed, Dev.axState, Dev.otherInjects, Dev.genValid,
    Dev.genLines, Dev.levelDiv, regs, nat, bytes, gen]
  rfl

theorem Dev.injectionAllowed_dueTaken (d : Dev) (k : Nat) (p : Pending) : (d.dueTaken k p).injectionAllowed g = d.injectionAllowed g :=
  Dev.injectionAllowed_congr (fun _ => d.reg_dueTaken k p) (d.keeps_dueTaken k p .ident (by decide)) (d.keeps_dueTaken k p .dom (by decide))

theorem Dev.keeps_setGen (d : Dev) (g : Nat) (x : InjGen) : d.Keeps (d.setGen g x) [.ident] := d.keeps_ident _

@[simp] theorem Dev.reg_setGen (d : Dev) (g : Nat) (x : InjGen) (k : Nat) : (d.setGen g x).reg k = d.reg k := rfl

/-- The generator at its start. -/
def Dev.freshGen (d : Dev) (g : Nat) : InjGen :=
  { running := true, evals := 0, prbs := 2 ^ d.nat (Reg.R3430_PRBS_ORDER g) - 1, last := 0, told := false }

/-- The generator at its start, and the entries that show it. -/
def Dev.genStarted (d : Dev) (g : Nat) (late : Bool) : Dev :=
  (((d.setGen g (d.freshGen g)).set (Reg.R3430_STATE g) 2).set (Reg.R3430_STATUS g) (if late then Code.LATE_EXECUTED else Code.STATUS_OK)).set
      (Reg.AX13_INJ_GEN (d.nat (Reg.R3430_AXIS g))) g

theorem Dev.keeps_genStarted (d : Dev) (g : Nat) (late : Bool) : d.Keeps (d.genStarted g late) [.od, .ident] :=
  (((((Dev.Keeps.refl d _).step (Dev.keeps_setGen _ _ _)).set _ _).set _ _).set _ _)

section
variable {p : Pending} (due : d.dueAt (Reg.R3430_START_CYCLE g) = some p) (sync : d.inSync = true)
include due sync

theorem Dev.injectionStart_allowed (ok : d.injectionAllowed g = true) :
    d.injectionStart g = (d.dueTaken (Reg.R3430_START_CYCLE g) p).genStarted g p.late := by
  simp only [Dev.injectionStart, Dev.dueNow_taken due sync, Dev.injectionAllowed_dueTaken, ok, if_true, Dev.genStarted, Dev.freshGen]
  congr 2
  simp [Dev.nat, Dev.reg_set]

theorem Dev.injectionStart_forbidden (no : d.injectionAllowed g = false) :
    d.injectionStart g = (((d.dueTaken (Reg.R3430_START_CYCLE g) p).set (Reg.R3430_STATE g) 0).set (Reg.R3430_STATUS g)
      Code.INJECTION_REFUSED).raise Code.INJECTION_REFUSED Kind.other 0 0 g := by
  simp only [Dev.injectionStart, Dev.dueNow_taken due sync, Dev.injectionAllowed_dueTaken, no, Bool.false_eq_true, if_false]

end

theorem Dev.genStarted_shows (hg : g < 16) (hn : d.nat (Reg.R3430_AXIS g) < 128) (late : Bool) :
    ((d.genStarted g late).injGen g).running = true ∧ ((d.genStarted g late).injGen g).evals = 0 ∧
    (∀ h, h ≠ g → (d.genStarted g late).injGen h = d.injGen h) ∧ (d.genStarted g late).reg (Reg.R3430_STATE g) = 2 ∧
    (d.genStarted g late).reg (Reg.R3430_STATUS g) = (if late then Code.LATE_EXECUTED else Code.STATUS_OK) ∧
    (d.genStarted g late).reg (Reg.AX13_INJ_GEN (d.nat (Reg.R3430_AXIS g))) = g := by
  have same : (d.genStarted g late).injGen g = d.freshGen g := mget_mset_same _ _ _ _
  have apart : Reg.R3430_STATE g ≠ Reg.AX13_INJ_GEN (d.nat (Reg.R3430_AXIS g)) ∧
      Reg.R3430_STATUS g ≠ Reg.AX13_INJ_GEN (d.nat (Reg.R3430_AXIS g)) := by
    simp only [Reg.R3430_STATE, Reg.R3430_STATUS, Reg.AX13_INJ_GEN, Reg.key]
    omega
  obtain ⟨tState, tStatus⟩ := odType_ofInjection hg
  refine ⟨by rw [same]; rfl, by rw [same]; rfl, fun h other => mget_mset_other _ _ _ _ other, ?_, ?_, ?_⟩
  · rw [Dev.genStarted, Dev.reg_set_other _ _ apart.1, Dev.reg_set_other _ _ (by simp), Dev.reg_set_same, tState]
    rfl
  · rw [Dev.genStarted, Dev.reg_set_other _ _ apart.2, Dev.reg_set_same, tStatus]
    cases late <;> rfl
  · have e : OdType.u8.wrap g = (g : Int) % 2 ^ 8 := rfl
    rw [Dev.genStarted, Dev.reg_set_same, odType_injGen hn, e]
    omega

/-- The generator ended, its axis without one. -/
theorem Dev.keeps_endGen (d : Dev) (g st : Nat) : d.Keeps (d.endGen g st) [.od, .ident] :=
  (((Dev.Keeps.refl d _).step (Dev.keeps_setGen _ _ _)).set _ _).set _ _

theorem Dev.endGen_ends (hg : g < 16) (hn : d.nat (Reg.R3430_AXIS g) < 128) {st : Nat} (hst : st < 2 ^ 8) :
    ((d.endGen g st).injGen g).running = false ∧ (d.endGen g st).reg (Reg.R3430_STATE g) = st ∧
    (d.endGen g st).reg (Reg.AX13_INJ_GEN (d.nat (Reg.R3430_AXIS g))) = 0xFF ∧
    d.KeepsRegs (d.endGen g st) [Reg.R3430_STATE g, Reg.AX13_INJ_GEN (d.nat (Reg.R3430_AXIS g))] := by
  have apart : Reg.R3430_STATE g ≠ Reg.AX13_INJ_GEN (d.nat (Reg.R3430_AXIS g)) := by
    simp only [Reg.R3430_STATE, Reg.AX13_INJ_GEN, Reg.key]
    omega
  have fits : OdType.u8.wrap st = st := by
    have h := OdType.toNat_wrap_u8 hst
    have e : OdType.u8.wrap st = (st : Int) % 2 ^ 8 := rfl
    omega
  have ended : d.endGen g st = ((d.setGen g { d.injGen g with running := false, last := 0 }).set (Reg.R3430_STATE g) st).set
      (Reg.AX13_INJ_GEN (d.nat (Reg.R3430_AXIS g))) 0xFF := rfl
  rw [ended]
  refine ⟨congrArg InjGen.running (mget_mset_same _ _ _ _), ?_, ?_, fun k hk => ?_⟩
  · rw [Dev.reg_set_other _ _ apart, Dev.reg_set_same, (odType_ofInjection hg).1, fits]
  · rw [Dev.reg_set_same, odType_injGen hn]
    rfl
  · simp only [List.mem_cons, List.not_mem_nil, or_false, not_or] at hk
    rw [Dev.reg_set_other _ _ hk.2, Dev.reg_set_other _ _ hk.1, Dev.reg_setGen]

end

section
variable {s : State} {g : Nat} (hg : g < 16)
include hg

section
variable (live : s.Live)
include live

theorem injectionStart_starts (hn : s.found.nat (Reg.R3430_AXIS g) < 128) (sync : s.found.inSync = true) {p : Pending}
    (due : s.found.dueAt (Reg.R3430_START_CYCLE g) = some p) (ok : s.found.injectionAllowed g = true) :
    Does (.injectionStart g) s fun b a =>
      (a.injGen g).running = true ∧ (a.injGen g).evals = 0 ∧ a.reg (Reg.R3430_STATE g) = 2 ∧
      a.reg (Reg.R3430_STATUS g) = (if p.late then Code.LATE_EXECUTED else Code.STATUS_OK) ∧
      a.reg (Reg.AX13_INJ_GEN (s.found.nat (Reg.R3430_AXIS g))) = g ∧
      (p.late = true → a.LastRaised Code.LATE_EXECUTED Kind.table 0) ∧ (p.late = false → a.log = b.log ∧ a.event = b.event) ∧
      mget none a.pend (Reg.R3430_START_CYCLE g) = mget none b.pend (behind (Reg.R3430_START_CYCLE g)) ∧
      (∀ h, h ≠ g → a.injGen h = b.injGen h) ∧ b.Keeps a (.pend :: .ident :: logParts) := by
  obtain ⟨d, taken⟩ : ∃ d, d = s.found.dueTaken (Reg.R3430_START_CYCLE g) p := ⟨_, rfl⟩
  have axis : d.nat (Reg.R3430_AXIS g) = s.found.nat (Reg.R3430_AXIS g) := by
    rw [taken, Dev.nat, Dev.reg_dueTaken _ _ _ (by simp only [Reg.key, Reg.R3430_AXIS]; omega), ← Dev.nat]
  have before : s.found.Keeps d [.od, .log, .event, .pend] := by rw [taken]; exact Dev.keeps_dueTaken _ _ _
  have started := d.keeps_genStarted g p.late
  have keeps : s.found.Keeps (d.genStarted g p.late) (.pend :: .ident :: logParts) := (before.mono (by decide)).step started
  have leaves : Leaves (.injectionStart g) s (d.genStarted g p.late) :=
    .cell (guard := fun d => d.liveIf (g < 16)) (fun d => d.injectionStart g) (live.passesIf hg)
      ((Dev.injectionStart_allowed due sync ok).trans (by rw [taken])) keeps
  obtain ⟨running, evals, others, state, status, generator⟩ := d.genStarted_shows hg (by rw [axis]; exact hn) p.late
  rw [axis] at generator
  generalize d.genStarted g p.late = e at *
  refine leaves.does fun pend vecs => ⟨running, evals, state, status, generator, fun late => ?_, fun punctual => ?_, ?_, fun h other => ?_,
    keeps.told _ _⟩
  · have raised : d.LastRaised Code.LATE_EXECUTED Kind.table 0 := by rw [taken]; exact Dev.dueTaken_late _ _ late
    exact (raised.of_keeps started).told _ _
  · have quiet : s.found.Keeps d [.pend] := by rw [taken]; exact Dev.dueTaken_punctual _ _ punctual
    exact ⟨(started .log (by decide)).trans (quiet .log (by decide)), (started .event (by decide)).trans (quiet .event (by decide))⟩
  · have next := s.found.dueTaken_pend (Reg.R3430_START_CYCLE g) p
    rw [← taken] at next
    exact (congrArg (fun m => mget none m (Reg.R3430_START_CYCLE g)) (started .pend (by decide))).trans next
  · have ident : d.ident = s.found.ident := before .ident (by decide)
    exact (others h other).trans (by rw [Dev.injGen, Dev.injGen, ident])

theorem due_held {i : Instr} {k : Nat} {f : Dev → Dev} {p : Pending} (due : s.found.dueAt k = some p)
    (result : f s.found = s.found.holdCommit k) (runs : exec i s = s.answerCell fun d => d.liveIf (g < 16) f) :
    Does i s fun b a => mget none a.pend k = some { p with held := true, ready := false } ∧ b.Keeps a [.pend] := by
  have keeps : s.found.Keeps (s.found.holdCommit k) [.pend] := Dev.keeps_pend _ _
  have leaves : Leaves i s (s.found.holdCommit k) :=
    .cell (guard := fun d => d.liveIf (g < 16)) f (live.passesIf hg) result keeps (hi := runs)
  exact leaves.quietly rfl ⟨Dev.holdCommit_held due, keeps⟩

theorem injectionStart_refused (sync : s.found.inSync = true) {p : Pending}
    (due : s.found.dueAt (Reg.R3430_START_CYCLE g) = some p) (no : s.found.injectionAllowed g = false) :
    Does (.injectionStart g) s fun b a =>
      a.reg (Reg.R3430_STATE g) = 0 ∧ a.reg (Reg.R3430_STATUS g) = Code.INJECTION_REFUSED ∧
      a.LastRaised Code.INJECTION_REFUSED Kind.other 0 ∧ a.ident = b.ident := by
  obtain ⟨d, taken⟩ : ∃ d, d = (s.found.dueTaken (Reg.R3430_START_CYCLE g) p) := ⟨_, rfl⟩
  have before : s.found.Keeps d [.od, .log, .event, .pend] := by rw [taken]; exact Dev.keeps_dueTaken _ _ _
  have keeps : s.found.Keeps (((d.set (Reg.R3430_STATE g) 0).set (Reg.R3430_STATUS g) Code.INJECTION_REFUSED).raise Code.INJECTION_REFUSED
      Kind.other 0 0 g) [.od, .log, .event, .pend] := ((before.set _ _).set _ _).raise _ _ _ _ _
  have leaves : Leaves (.injectionStart g) s (((d.set (Reg.R3430_STATE g) 0).set (Reg.R3430_STATUS g) Code.INJECTION_REFUSED).raise
      Code.INJECTION_REFUSED Kind.other 0 0 g) :=
    .cell (guard := fun d => d.liveIf (g < 16)) (fun d => d.injectionStart g) (live.passesIf hg)
      ((Dev.injectionStart_forbidden due sync no).trans (by rw [taken])) keeps
  obtain ⟨tState, tStatus⟩ := odType_ofInjection hg
  have low : Reg.R3430_STATE g ∉ logRegs ∧ Reg.R3430_STATUS g ∉ logRegs := by
    simp only [Reg.R3430_STATE, Reg.R3430_STATUS, logRegs, Reg.R1003_NEXT_SEQ, Reg.R1003_LOG_WRAPPED, Reg.R6020_CONFIRM_CYCLES, Reg.key,
      List.mem_cons, List.not_mem_nil, or_false]
    omega
  refine leaves.does fun pend vecs => ⟨?_, ?_, (Dev.lastRaised_raise _ _ _ _ _ _).told _ _, keeps .ident (by decide)⟩
  · rw [Dev.reg_told, Dev.reg_raise _ _ _ _ _ _ low.1, Dev.reg_set_other _ _ (by simp), Dev.reg_set_same, tState]
    rfl
  · rw [Dev.reg_told, Dev.reg_raise _ _ _ _ _ _ low.2, Dev.reg_set_same, tStatus]
    rfl

theorem injectionStart_notDue (due : s.found.dueAt (Reg.R3430_START_CYCLE g) = none) : Does (.injectionStart g) s fun b a => b.Keeps a [] := by
  have leaves : Leaves (.injectionStart g) s s.found :=
    .cell (l := []) (guard := fun d => d.liveIf (g < 16)) (fun d => d.injectionStart g) (live.passesIf hg)
      (by simp only [Dev.injectionStart, Dev.dueNow_none due]) (Dev.Keeps.refl _ _)
  exact leaves.unchanged

theorem injectionDone_ends (hn : s.found.nat (Reg.R3430_AXIS g) < 128) (running : (s.found.injGen g).running = true)
    (last : s.found.genOver g = true) : Does (.injectionDone g) s fun b a =>
      (a.injGen g).running = false ∧ a.reg (Reg.R3430_STATE g) = 3 ∧ a.reg (Reg.AX13_INJ_GEN (s.found.nat (Reg.R3430_AXIS g))) = 0xFF ∧
      b.Keeps a [.od, .ident] := by
  have keeps := s.found.keeps_endGen g 3
  have leaves : Leaves (.injectionDone g) s (s.found.endGen g 3) :=
    .cell (guard := fun d => d.liveIf (g < 16)) (fun d => d.injectionDone g) (live.passesIf hg) (if_pos ⟨running, last⟩) keeps
  obtain ⟨ended, state, generator, -⟩ := Dev.endGen_ends hg hn (st := 3) (by decide)
  exact leaves.quietly (keeps .event (by decide)) ⟨ended, state, generator, keeps⟩

theorem injectionDone_early (more : s.found.genOver g = false) : Does (.injectionDone g) s fun b a => b.Keeps a [] := by
  have leaves : Leaves (.injectionDone g) s s.found :=
    .cell (l := []) (guard := fun d => d.liveIf (g < 16)) (fun d => d.injectionDone g) (live.passesIf hg)
      (if_neg (by simp [more])) (Dev.Keeps.refl _ _)
  exact leaves.unchanged

end

section
variable (up : s.Up)
include up

theorem injectionStop_ends (hn : s.found.nat (Reg.R3430_AXIS g) < 128) (running : (s.found.injGen g).running = true) :
    Does (.injectionStop g) s fun b a =>
      a.done = Code.STATUS_OK ∧ (a.injGen g).running = false ∧ a.reg (Reg.R3430_STATE g) = 4 ∧
      a.reg (Reg.AX13_INJ_GEN (s.found.nat (Reg.R3430_AXIS g))) = 0xFF ∧ b.Keeps a [.od, .ident, .done] ∧
      b.KeepsRegs a [Reg.R3430_STATE g, Reg.AX13_INJ_GEN (b.nat (Reg.R3430_AXIS g))] := by
  have keeps : s.found.Keeps ((s.found.endGen g 4).finish Code.STATUS_OK) [.od, .ident, .done] :=
    ((s.found.keeps_endGen g 4).mono (by decide)).finish _
  have leaves : Leaves (.injectionStop g) s ((s.found.endGen g 4).finish Code.STATUS_OK) :=
    .cell (fun d => d.injectionStop g) up.passes
      (by rw [Dev.injectionStop, if_neg (by omega), running, Dev.when, if_pos rfl]) keeps
  obtain ⟨ended, state, generator, regs⟩ := Dev.endGen_ends hg hn (st := 4) (by decide)
  exact leaves.quietly (keeps .event (by decide)) ⟨rfl, ended, state, generator, keeps, regs⟩

theorem injectionStop_idle (idle : (s.found.injGen g).running = false) :
    Does (.injectionStop g) s fun b a => a.done = Code.STATUS_OK ∧ b.Keeps a [.done] := by
  have leaves : Leaves (.injectionStop g) s (s.found.finish Code.STATUS_OK) :=
    .cell (l := [.done]) (fun d => d.injectionStop g) up.passes
      (by rw [Dev.injectionStop, if_neg (by omega), idle, Dev.when, if_neg (by decide)]) (Dev.keeps_finish _ _)
  exact leaves.finished

end
end
end Sys2Proof.Machine
end

section
/-! # Capture (R201 to R205) -/

namespace Sys2Proof.Machine

theorem odType_ofCapture {g : Nat} (h : g < 16) : odType (Reg.R3410_RUN_STATE g) = .u8 ∧ odType (Reg.R3410_LEN_STATE g) = .u8 ∧
    odType (Reg.R3410_LENGTH g) = .u32 ∧ odType (Reg.R3410_WR_PTR g) = .u32 ∧ odType (Reg.R3410_WRAPS g) = .u32 ∧
    odType (Reg.R3410_TRIG_ROW g) = .u32 := by
  revert g
  decide +kernel

section
variable {d : Dev} {g : Nat}

theorem Dev.keeps_setCap (d : Dev) (g : Nat) (x : CapSet) : d.Keeps (d.setCap g x) [.ident] := d.keeps_ident _

@[simp] theorem Dev.reg_setCap (d : Dev) (g : Nat) (x : CapSet) (k : Nat) : (d.setCap g x).reg k = d.reg k := rfl

@[simp] theorem Dev.capSet_set (d : Dev) (k : Nat) (v : Int) (g : Nat) : (d.set k v).capSet g = d.capSet g := rfl

theorem Dev.capSet_setCap (d : Dev) (g : Nat) (x : CapSet) : (d.setCap g x).capSet g = x := mget_mset_same _ _ _ _

theorem Dev.capSet_setCap_other (d : Dev) {g h : Nat} (x : CapSet) (other : h ≠ g) : (d.setCap g x).capSet h = d.capSet h :=
  mget_mset_other _ _ _ _ other

theorem Dev.Keeps.capSet {d e : Dev} {l : List Part} (h : d.Keeps e l) (g : Nat) (out : Part.ident ∉ l := by decide) :
    e.capSet g = d.capSet g := by
  have ident : e.ident = d.ident := h .ident out
  rw [Dev.capSet, Dev.capSet, ident]

/-! ## A pending length (R204) -/

/-- The set with a new buffer of a length, from row 0. -/
def Dev.relengthed (d : Dev) (g len : Nat) : Dev :=
  ((((d.setCap g { d.capSet g with written := 0, newLen := none, buffer := (d.capSet g).buffer + 1 }).set (Reg.R3410_LENGTH g) len).set
    (Reg.R3410_LEN_STATE g) 0).set (Reg.R3410_WRAPS g) 0).set (Reg.R3410_WR_PTR g) 0

theorem Dev.lengthChange_none (h : (d.capSet g).newLen = none) : d.lengthChange g = d := by
  simp only [Dev.lengthChange, h]

theorem Dev.lengthChange_some {len : Nat} (h : (d.capSet g).newLen = some len) : d.lengthChange g = d.relengthed g len := by
  simp only [Dev.lengthChange, h, Dev.relengthed]

theorem Dev.keeps_relengthed (d : Dev) (g len : Nat) : d.Keeps (d.relengthed g len) [.od, .ident] :=
  (((((Dev.Keeps.refl d _).step (Dev.keeps_setCap _ _ _)).set _ _).set _ _).set _ _).set _ _

/-- The entries of a set that a new buffer changes. -/
abbrev lengthRegs (g : Nat) : List Nat := [Reg.R3410_LENGTH g, Reg.R3410_LEN_STATE g, Reg.R3410_WR_PTR g, Reg.R3410_WRAPS g]

theorem Dev.relengthed_shows (d : Dev) (hg : g < 16) (len : Nat) :
    (d.relengthed g len).reg (Reg.R3410_LENGTH g) = (odType (Reg.R3410_LENGTH g)).wrap len ∧
    (d.relengthed g len).reg (Reg.R3410_LEN_STATE g) = 0 ∧ (d.relengthed g len).reg (Reg.R3410_WR_PTR g) = 0 ∧
    (d.relengthed g len).reg (Reg.R3410_WRAPS g) = 0 ∧
    (d.relengthed g len).capSet g = { d.capSet g with written := 0, newLen := none, buffer := (d.capSet g).buffer + 1 } ∧
    (∀ h, h ≠ g → (d.relengthed g len).capSet h = d.capSet h) ∧ d.KeepsRegs (d.relengthed g len) (lengthRegs g) := by
  obtain ⟨-, tLen, -, tPtr, tWraps, -⟩ := odType_ofCapture hg
  refine ⟨?_, ?_, ?_, ?_, ?_, fun h other => ?_, fun k hk => ?_⟩
  · simp [Dev.relengthed, Dev.reg_set]
  · simp [Dev.relengthed, Dev.reg_set, tLen]
    rfl
  · simp [Dev.relengthed, tPtr]
    rfl
  · simp [Dev.relengthed, Dev.reg_set, tWraps]
    rfl
  · simp only [Dev.relengthed, Dev.capSet_set, Dev.capSet_setCap]
  · simp only [Dev.relengthed, Dev.capSet_set, Dev.capSet_setCap_other _ _ other]
  · simp only [lengthRegs, List.mem_cons, List.not_mem_nil, or_false, not_or] at hk
    obtain ⟨h₀, h₁, h₂, h₃⟩ := hk
    rw [Dev.relengthed, Dev.reg_set_other _ _ h₂, Dev.reg_set_other _ _ h₃, Dev.reg_set_other _ _ h₁, Dev.reg_set_other _ _ h₀, Dev.reg_setCap]

/-- What a pending length that takes effect, or none, leaves of a set. -/
theorem Dev.lengthChange_shows (d : Dev) (hg : g < 16) : d.Keeps (d.lengthChange g) [.od, .ident] ∧
    (d.lengthChange g).reg (Reg.R3410_LENGTH g) = (match (d.capSet g).newLen with
      | some l => (odType (Reg.R3410_LENGTH g)).wrap l | none => d.reg (Reg.R3410_LENGTH g)) ∧
    ((d.lengthChange g).capSet g).newLen = none ∧ (∀ h, h ≠ g → (d.lengthChange g).capSet h = d.capSet h) ∧
    d.KeepsRegs (d.lengthChange g) (lengthRegs g) := by
  cases pending : (d.capSet g).newLen with
  | none =>
    rw [Dev.lengthChange_none pending]
    exact ⟨.refl _ _, rfl, pending, fun _ _ => rfl, fun _ _ => rfl⟩
  | some len =>
    rw [Dev.lengthChange_some pending]
    obtain ⟨length, -, -, -, set, others, regs⟩ := d.relengthed_shows hg len
    exact ⟨d.keeps_relengthed g len, length, by rw [set], others, regs⟩

end

section
variable {s : State} {g len : Nat} (up : s.Up) (hg : g < 16)
include up hg

theorem lengthWrite_range (bad : ¬(16 ≤ len ∧ len ≤ 1048576)) : Does (.lengthWrite g len) s fun b a => a.done = Code.OD_RANGE ∧ b.Keeps a [.done] := by
  have leaves : Leaves (.lengthWrite g len) s (s.found.finish Code.OD_RANGE) :=
    .cell (l := [.done]) (fun d => d.lengthWrite g len) up.passes
      ((if_neg (by omega)).trans (if_pos (by omega))) (Dev.keeps_finish _ _)
  exact leaves.finished

section
variable (good : 16 ≤ len ∧ len ≤ 1048576)
include good

theorem lengthWrite_same (same : len = s.found.nat (Reg.R3410_LENGTH g)) : Does (.lengthWrite g len) s fun b a =>
    a.done = Code.STATUS_OK ∧ a.capSet g = { b.capSet g with newLen := none } ∧ a.reg (Reg.R3410_LEN_STATE g) = 0 ∧
    b.KeepsRegs a [Reg.R3410_LEN_STATE g] := by
  have keeps : s.found.Keeps (((s.found.setCap g { s.found.capSet g with newLen := none }).set (Reg.R3410_LEN_STATE g) 0).finish Code.STATUS_OK)
      [.od, .ident, .done] := (((Dev.Keeps.refl _ _).step (Dev.keeps_setCap _ _ _)).set _ _).finish _
  have leaves : Leaves (.lengthWrite g len) s
      (((s.found.setCap g { s.found.capSet g with newLen := none }).set (Reg.R3410_LEN_STATE g) 0).finish Code.STATUS_OK) :=
    .cell (fun d => d.lengthWrite g len) up.passes ((if_neg (by omega)).trans ((if_neg (by omega)).trans (if_pos same))) keeps
  refine leaves.quietly rfl ⟨rfl, Dev.capSet_setCap _ _ _, ?_, fun k hk => ?_⟩
  · rw [Dev.reg_finish, Dev.reg_set_same, (odType_ofCapture hg).2.1]
    rfl
  · rw [Dev.reg_finish, Dev.reg_set_other _ _ (by simpa using hk), Dev.reg_setCap]

section
variable (other : len ≠ s.found.nat (Reg.R3410_LENGTH g))
include other

theorem lengthWrite_noSpace (full : ¬s.found.capOthers g + rowSize (s.found.nat (act (Reg.R3410_N_CH g))) * s.found.nat (Reg.R3410_LENGTH g) +
    rowSize (s.found.nat (act (Reg.R3410_N_CH g))) * len ≤ 4194304) : Does (.lengthWrite g len) s fun b a =>
      a.done = Code.CAPTURE_NO_SPACE ∧ a.LastRaised Code.CAPTURE_NO_SPACE Kind.other 0 ∧ a.ident = b.ident ∧ b.KeepsRegs a logRegs := by
  have leaves : Leaves (.lengthWrite g len) s ((s.found.raise Code.CAPTURE_NO_SPACE Kind.other 0 0 g).finish Code.CAPTURE_NO_SPACE) :=
    .cell (fun d => d.lengthWrite g len) up.passes
      ((if_neg (by omega)).trans ((if_neg (by omega)).trans ((if_neg other).trans (if_pos (by omega))))) (Dev.keeps_refused _ _ _ _ _ _ _)
  obtain ⟨a, runs, done, raised, keeps, regs⟩ := leaves.refused
  exact ⟨a, runs, done, raised, keeps .ident (by decide), regs⟩

section
variable (fits : s.found.capOthers g + rowSize (s.found.nat (act (Reg.R3410_N_CH g))) * s.found.nat (Reg.R3410_LENGTH g) +
  rowSize (s.found.nat (act (Reg.R3410_N_CH g))) * len ≤ 4194304)
include fits

/-- A new length noted as pending. -/
def Dev.lengthNoted (d : Dev) (g len : Nat) : Dev := (d.setCap g { d.capSet g with newLen := some len }).set (Reg.R3410_LEN_STATE g) 1

omit up in
theorem Dev.lengthWrite_noted : s.found.lengthWrite g len =
    ((s.found.lengthNoted g len).when (s.found.nat (Reg.R3410_RUN_STATE g) == 0) fun d => d.lengthChange g).finish Code.STATUS_OK := by
  have state : (s.found.lengthNoted g len).nat (Reg.R3410_RUN_STATE g) = s.found.nat (Reg.R3410_RUN_STATE g) := by
    simp [Dev.lengthNoted, Dev.nat, Dev.reg_set]
  rw [← state]
  exact (if_neg (by omega)).trans ((if_neg (by omega)).trans ((if_neg other).trans (if_neg (by omega))))

theorem lengthWrite_pending (busy : s.found.nat (Reg.R3410_RUN_STATE g) ≠ 0) : Does (.lengthWrite g len) s fun b a =>
    a.done = Code.STATUS_OK ∧ a.capSet g = { b.capSet g with newLen := some len } ∧ a.reg (Reg.R3410_LEN_STATE g) = 1 ∧
    b.Keeps a [.od, .ident, .done] ∧ b.KeepsRegs a [Reg.R3410_LEN_STATE g] := by
  have keeps : s.found.Keeps ((s.found.lengthNoted g len).finish Code.STATUS_OK) [.od, .ident, .done] :=
    (((Dev.Keeps.refl _ _).step (Dev.keeps_setCap _ _ _)).set _ _).finish _
  have leaves : Leaves (.lengthWrite g len) s ((s.found.lengthNoted g len).finish Code.STATUS_OK) :=
    .cell (fun d => d.lengthWrite g len) up.passes
      ((Dev.lengthWrite_noted hg good other fits).trans (by rw [Dev.when, if_neg (by simpa using busy)])) keeps
  refine leaves.quietly (keeps .event (by decide)) ⟨rfl, Dev.capSet_setCap _ _ _, ?_, keeps, fun k hk => ?_⟩
  · rw [Dev.reg_finish, Dev.lengthNoted, Dev.reg_set_same, (odType_ofCapture hg).2.1]
    rfl
  · rw [Dev.reg_finish, Dev.lengthNoted, Dev.reg_set_other _ _ (by simpa using hk), Dev.reg_setCap]

theorem lengthWrite_effective (stopped : s.found.nat (Reg.R3410_RUN_STATE g) = 0) : Does (.lengthWrite g len) s fun b a =>
    a.done = Code.STATUS_OK ∧ a.reg (Reg.R3410_LENGTH g) = len ∧ a.reg (Reg.R3410_LEN_STATE g) = 0 ∧
    a.capSet g = { b.capSet g with written := 0, newLen := none, buffer := (b.capSet g).buffer + 1 } ∧
    a.reg (Reg.R3410_WR_PTR g) = 0 ∧ a.reg (Reg.R3410_WRAPS g) = 0 ∧ b.Keeps a [.od, .ident, .done] ∧
    b.KeepsRegs a (lengthRegs g) := by
  have noted : (s.found.lengthNoted g len).capSet g = { s.found.capSet g with newLen := some len } := Dev.capSet_setCap _ _ _
  have before : s.found.Keeps (s.found.lengthNoted g len) [.od, .ident] := ((Dev.Keeps.refl _ _).step (Dev.keeps_setCap _ _ _)).set _ _
  have changed : (s.found.lengthNoted g len).lengthChange g = (s.found.lengthNoted g len).relengthed g len :=
    Dev.lengthChange_some (by rw [noted])
  obtain ⟨length, state, ptr, wraps, set, -, regs⟩ := (s.found.lengthNoted g len).relengthed_shows hg len
  rw [noted] at set
  have keeps : s.found.Keeps (((s.found.lengthNoted g len).relengthed g len).finish Code.STATUS_OK) [.od, .ident, .done] :=
    ((before.step (Dev.keeps_relengthed _ _ _)).mono (by decide)).finish _
  have leaves : Leaves (.lengthWrite g len) s (((s.found.lengthNoted g len).relengthed g len).finish Code.STATUS_OK) :=
    .cell (fun d => d.lengthWrite g len) up.passes
      ((Dev.lengthWrite_noted hg good other fits).trans (by rw [Dev.when, if_pos (by simpa using stopped), changed])) keeps
  have value : OdType.u32.wrap len = len := by
    have e : OdType.u32.wrap len = (len : Int) % 2 ^ 32 := rfl
    omega
  rw [(odType_ofCapture hg).2.2.1, value] at length
  generalize (s.found.lengthNoted g len).relengthed g len = e at *
  refine leaves.quietly (keeps .event (by decide)) ⟨rfl, length, state, set, ptr, wraps, keeps, fun k hk => ?_⟩
  rw [Dev.reg_finish, regs k hk, Dev.lengthNoted, Dev.reg_set_other _ _ (fun same => hk (by simp [same])), Dev.reg_setCap]

end
end
end
end

section
variable {d : Dev} {g : Nat}

/-! ## Rows (R201, R203, R205) -/

theorem Dev.memRead_memWrite (d : Dev) (a : Nat) (x : Bytes) : (d.memWrite a x).memRead a x.length = x := by
  refine List.ext_getElem (by simp [Dev.memRead]) fun i h _ => ?_
  have inside : i < x.length := by simpa [Dev.memRead] using h
  simp [Dev.memRead, Dev.memAt_memWrite_in _ _ _ _ inside, inside]

/-- The channel sources of a set in force. -/
abbrev Dev.sources (d : Dev) (g : Nat) : List Nat := capSources (d.bytes (act (Reg.R3410_SOURCES g))) (d.nat (act (Reg.R3410_N_CH g)))

/-- The bytes of the row that a set now writes, and where they go. -/
abbrev Dev.rowNow (d : Dev) (g : Nat) : Bytes :=
  leBytes 4 (d.rowStamp (d.sources g)) ++ ((d.sources g).map d.channelWord).flatMap (leBytes 4)
abbrev Dev.rowAt (d : Dev) (g : Nat) : Nat := d.bufAddr g + d.nat (Reg.R3410_WR_PTR g) * rowSize (d.sources g).length

theorem length_words (l : List Nat) : (l.flatMap (leBytes 4)).length = 4 * l.length := by
  induction l with
  | nil => rfl
  | cons x l ih => simp only [List.flatMap_cons, List.length_append, length_leBytes, ih, List.length_cons]; omega

theorem Dev.length_rowNow (d : Dev) (g : Nat) : (d.rowNow g).length = rowSize (d.sources g).length := by
  rw [Dev.rowNow, List.length_append, length_leBytes, length_words, List.length_map]

/-- Whether this row triggers the set. -/
abbrev Dev.triggers (d : Dev) (g : Nat) : Bool :=
  d.nat (act (Reg.R3410_MODE g)) == 1 && (d.capSet g).left.isNone && d.triggered g ((d.sources g).map d.channelWord)

/-- The row in memory and noted by the set. -/
def Dev.rowStored (d : Dev) (g : Nat) : Dev :=
  ((d.at 24000).memWrite (d.rowAt g) (d.rowNow g)).setCap g
    { d.capSet g with
      written := (d.capSet g).written + 1,
      lastVal := some (wrapBits 32 (((d.sources g).map d.channelWord).getD (d.nat (act (Reg.R3410_TRIG_INDEX g))) 0 : Nat)),
      left := if d.triggers g then some (d.nat (act (Reg.R3410_POST_ROWS g))) else (d.capSet g).left.map (· - 1) }

/-- The write pointer moved on. -/
def Dev.rowPassed (d : Dev) (g : Nat) : Dev :=
  ((d.rowStored g).when (d.triggers g) fun e => e.set (Reg.R3410_TRIG_ROW g) (d.nat (Reg.R3410_WR_PTR g))).set (Reg.R3410_WR_PTR g)
    ((d.nat (Reg.R3410_WR_PTR g) + 1) % max 1 (d.nat (Reg.R3410_LENGTH g)) : Nat)

theorem Dev.captureRow_records (hg : g < 16) (running : d.nat (Reg.R3410_RUN_STATE g) = 2)
    (mine : (d.clk.tick + 8 * max 1 (d.nat (act (Reg.R3410_DIV g))) - d.nat (act (Reg.R3410_PHASE g))) %
      max 1 (d.nat (act (Reg.R3410_DIV g))) = 0) (more : (d.capSet g).left ≠ some 0) :
    d.captureRow g = if d.nat (Reg.R3410_WR_PTR g) + 1 = max 1 (d.nat (Reg.R3410_LENGTH g)) then
      ((d.rowPassed g).count (Reg.R3410_WRAPS g)).lengthChange g else d.rowPassed g := by
  refine (if_neg ?_).trans rfl
  rintro (absent | idle | notMine | ended)
  · omega
  · exact idle running
  · exact beq_eq_false_iff_ne.1 notMine mine
  · exact more ended

theorem Dev.keeps_rowStored (d : Dev) (g : Nat) : d.Keeps (d.rowStored g) [.ph, .ident, .mem] :=
  ((((d.keeps_at 24000).mono (by decide)).step (Dev.keeps_memWrite _ _ _)).step (Dev.keeps_setCap _ _ _))

theorem Dev.keeps_rowPassed (d : Dev) (g : Nat) : (d.rowStored g).Keeps (d.rowPassed g) [.od] :=
  ((Dev.Keeps.refl _ _).cond _ _ (Dev.keeps_set _ _ _)).set _ _

/-- What a row leaves. -/
theorem Dev.rowPassed_shows (d : Dev) (g : Nat) :
    (d.rowPassed g).capSet g = { d.capSet g with
      written := (d.capSet g).written + 1,
      lastVal := some (wrapBits 32 (((d.sources g).map d.channelWord).getD (d.nat (act (Reg.R3410_TRIG_INDEX g))) 0 : Nat)),
      left := if d.triggers g then some (d.nat (act (Reg.R3410_POST_ROWS g))) else (d.capSet g).left.map (· - 1) } ∧
    (∀ h, h ≠ g → (d.rowPassed g).capSet h = d.capSet h) ∧
    (d.rowPassed g).memRead (d.rowAt g) (rowSize (d.sources g).length) = d.rowNow g ∧
    (∀ x, x < d.rowAt g ∨ d.rowAt g + rowSize (d.sources g).length ≤ x → (d.rowPassed g).memAt x = d.memAt x) ∧
    (d.rowPassed g).reg (Reg.R3410_TRIG_ROW g) = (if d.triggers g then (odType (Reg.R3410_TRIG_ROW g)).wrap (d.nat (Reg.R3410_WR_PTR g))
      else d.reg (Reg.R3410_TRIG_ROW g)) ∧
    (d.rowPassed g).reg (Reg.R3410_WR_PTR g) = (odType (Reg.R3410_WR_PTR g)).wrap
      ((d.nat (Reg.R3410_WR_PTR g) + 1) % max 1 (d.nat (Reg.R3410_LENGTH g)) : Nat) ∧
    d.KeepsRegs (d.rowPassed g) [Reg.R3410_WR_PTR g, Reg.R3410_TRIG_ROW g] := by
  have passed := d.keeps_rowPassed g
  have stored (k : Nat) : (d.rowStored g).reg k = d.reg k := Dev.reg_congr (d.keeps_rowStored g .od (by decide)) k
  have mem : (d.rowPassed g).mem = ((d.at 24000).memWrite (d.rowAt g) (d.rowNow g)).mem :=
    (passed .mem (by decide)).trans (Dev.keeps_setCap _ _ _ .mem (by decide))
  have size := d.length_rowNow g
  refine ⟨?_, fun h other => ?_, ?_, fun x out => ?_, ?_, ?_, fun k hk => ?_⟩
  · exact (passed.capSet g).trans (Dev.capSet_setCap _ _ _)
  · have before : ((d.at 24000).memWrite (d.rowAt g) (d.rowNow g)).capSet h = d.capSet h := (Dev.keeps_memWrite _ _ _).capSet h
    exact (passed.capSet h).trans ((Dev.capSet_setCap_other _ _ other).trans before)
  · rw [Dev.memRead_congr mem, ← size, Dev.memRead_memWrite]
  · rw [Dev.memAt_congr mem, Dev.memAt_memWrite_other _ _ _ _ (by rw [size]; exact out)]
    rfl
  · rw [Dev.rowPassed, Dev.reg_set_other _ _ (by simp)]
    cases d.triggers g with
    | false => exact stored _
    | true => exact Dev.reg_set_same _ _ _
  · rw [Dev.rowPassed, Dev.reg_set_same]
  · simp only [List.mem_cons, List.not_mem_nil, or_false, not_or] at hk
    rw [Dev.rowPassed, Dev.reg_set_other _ _ hk.1, Dev.reg_when_set _ _ _ hk.2, stored]

end

section
variable {s : State} {g : Nat} (hg : g < 16)
include hg

section
variable (live : s.Live)
include live

theorem captureRow_records (running : s.found.nat (Reg.R3410_RUN_STATE g) = 2)
    (mine : (s.found.clk.tick + 8 * max 1 (s.found.nat (act (Reg.R3410_DIV g))) - s.found.nat (act (Reg.R3410_PHASE g))) %
      max 1 (s.found.nat (act (Reg.R3410_DIV g))) = 0) (more : (s.found.capSet g).left ≠ some 0) (settled : (s.found.capSet g).newLen = none) :
    Does (.captureRow g) s fun b a =>
      a.memRead (b.rowAt g) (rowSize (b.sources g).length) = b.rowNow g ∧
      (∀ x, x < b.rowAt g ∨ b.rowAt g + rowSize (b.sources g).length ≤ x → a.memAt x = b.memAt x) ∧
      a.reg (Reg.R3410_TRIG_ROW g) = (if b.triggers g then (odType (Reg.R3410_TRIG_ROW g)).wrap (b.nat (Reg.R3410_WR_PTR g))
        else b.reg (Reg.R3410_TRIG_ROW g)) ∧
      (b.triggers g = true → (a.capSet g).left = some (b.nat (act (Reg.R3410_POST_ROWS g)))) ∧
      (b.nat (Reg.R3410_WR_PTR g) + 1 = max 1 (b.nat (Reg.R3410_LENGTH g)) → a.reg (Reg.R3410_WRAPS g) =
        (odType (Reg.R3410_WRAPS g)).wrap (min (b.nat (Reg.R3410_WRAPS g) + 1) 0xFFFFFFFF)) ∧
      (b.nat (Reg.R3410_WR_PTR g) + 1 ≠ max 1 (b.nat (Reg.R3410_LENGTH g)) → a.reg (Reg.R3410_WRAPS g) = b.reg (Reg.R3410_WRAPS g)) ∧
      (a.capSet g).written = (b.capSet g).written + 1 ∧ (∀ h, h ≠ g → a.capSet h = b.capSet h) ∧
      a.reg (Reg.R3410_WR_PTR g) = (odType (Reg.R3410_WR_PTR g)).wrap
        ((b.nat (Reg.R3410_WR_PTR g) + 1) % max 1 (b.nat (Reg.R3410_LENGTH g)) : Nat) ∧
      b.Keeps a [.ph, .od, .ident, .mem] ∧
      b.KeepsRegs a [Reg.R3410_WR_PTR g, Reg.R3410_WRAPS g, Reg.R3410_TRIG_ROW g] := by
  obtain ⟨set, others, row, rest, trig, ptr, regs⟩ := s.found.rowPassed_shows g
  have passed : s.found.Keeps (s.found.rowPassed g) [.ph, .od, .ident, .mem] :=
    ((s.found.keeps_rowStored g).mono (by decide)).step (s.found.keeps_rowPassed g)
  have result := Dev.captureRow_records hg running mine more
  generalize s.found.rowPassed g = e at *
  have left : s.found.triggers g = true → (e.capSet g).left = some (s.found.nat (act (Reg.R3410_POST_ROWS g))) := fun hit => by
    rw [set, if_pos hit]
  have written : (e.capSet g).written = (s.found.capSet g).written + 1 := by rw [set]
  have wraps : e.reg (Reg.R3410_WRAPS g) = s.found.reg (Reg.R3410_WRAPS g) := regs _ (by simp)
  by_cases round : s.found.nat (Reg.R3410_WR_PTR g) + 1 = max 1 (s.found.nat (Reg.R3410_LENGTH g))
  · obtain ⟨v, value⟩ : ∃ v : Int, v = min ((s.found.nat (Reg.R3410_WRAPS g) : Int) + 1) 0xFFFFFFFF := ⟨_, rfl⟩
    have count : e.count (Reg.R3410_WRAPS g) = e.set (Reg.R3410_WRAPS g) v := by
      rw [Dev.count, Dev.nat, wraps, ← Dev.nat, value, Nat.cast_one]
    have counted : s.found.captureRow g = e.set (Reg.R3410_WRAPS g) v := by
      rw [result, if_pos round, count, Dev.lengthChange_none]
      rw [Dev.capSet_set, set]
      exact settled
    have keeps : s.found.Keeps (e.set (Reg.R3410_WRAPS g) v) [.ph, .od, .ident, .mem] := passed.set _ _
    have leaves : Leaves (.captureRow g) s (e.set (Reg.R3410_WRAPS g) v) :=
      .full (guard := fun d => d.liveIf (g < 16)) (fun d => d.captureRow g) (live.passesIf hg) counted keeps
    refine leaves.quietly (keeps .event (by decide)) ⟨row, rest, (Dev.reg_set_other _ _ (by simp)).trans trig, left, fun _ => ?_,
      fun ne => absurd round ne, written, others, (Dev.reg_set_other _ _ (by simp)).trans ptr, keeps, fun k hk => ?_⟩
    · rw [Dev.reg_set_same, value]
    · simp only [List.mem_cons, List.not_mem_nil, or_false, not_or] at hk
      rw [Dev.reg_set_other _ _ hk.2.1, regs k (by simp [hk])]
  · have leaves : Leaves (.captureRow g) s e :=
      .full (guard := fun d => d.liveIf (g < 16)) (fun d => d.captureRow g) (live.passesIf hg) (result.trans (if_neg round)) passed
    refine leaves.quietly (passed .event (by decide)) ⟨row, rest, trig, left, fun h => absurd h round, fun _ => wraps, written, others, ptr,
      passed, fun k hk => regs k fun h => hk ?_⟩
    rcases List.mem_pair.1 h with h | h
    · exact h ▸ List.mem_cons_self
    · exact h ▸ by simp

theorem captureRow_idle (idle : s.found.nat (Reg.R3410_RUN_STATE g) ≠ 2) : Does (.captureRow g) s fun b a => b.Keeps a [.ph] := by
  have keeps := s.found.keeps_at 24000
  have leaves : Leaves (.captureRow g) s (s.found.at 24000) :=
    .full (guard := fun d => d.liveIf (g < 16)) (fun d => d.captureRow g) (live.passesIf hg) (if_pos (.inr (.inl idle))) keeps
  exact leaves.quietly rfl keeps

theorem captureComplete_completes (running : s.found.nat (Reg.R3410_RUN_STATE g) = 2) (last : (s.found.capSet g).left = some 0)
    (settled : (s.found.capSet g).newLen = none) : Does (.captureComplete g) s fun b a =>
      a.reg (Reg.R3410_RUN_STATE g) = 0 ∧ b.Keeps a [.od] ∧ b.KeepsRegs a [Reg.R3410_RUN_STATE g] := by
  have keeps := s.found.keeps_set (Reg.R3410_RUN_STATE g) 0
  have leaves : Leaves (.captureComplete g) s (s.found.set (Reg.R3410_RUN_STATE g) 0) :=
    .cell (guard := fun d => d.liveIf (g < 16)) (fun d => d.captureComplete g) (live.passesIf hg)
      ((if_pos ⟨running, last⟩).trans (Dev.lengthChange_none settled)) keeps
  refine leaves.quietly rfl ⟨?_, keeps, Dev.keepsRegs_set _ _ _⟩
  rw [Dev.reg_set_same, (odType_ofCapture hg).1]
  rfl

theorem captureComplete_early (more : (s.found.capSet g).left ≠ some 0) : Does (.captureComplete g) s fun b a => b.Keeps a [] := by
  have leaves : Leaves (.captureComplete g) s s.found :=
    .cell (l := []) (guard := fun d => d.liveIf (g < 16)) (fun d => d.captureComplete g) (live.passesIf hg)
      (if_neg (fun h => more h.2)) (Dev.Keeps.refl _ _)
  exact leaves.unchanged

end

theorem captureStop_stops (up : s.Up) (running : s.found.nat (Reg.R3410_RUN_STATE g) = 2) (settled : (s.found.capSet g).newLen = none) :
    Does (.captureStop g) s fun b a =>
      a.done = Code.STATUS_OK ∧ a.reg (Reg.R3410_RUN_STATE g) = 0 ∧ b.Keeps a [.od, .done] ∧ b.KeepsRegs a [Reg.R3410_RUN_STATE g] := by
  have keeps : s.found.Keeps ((s.found.set (Reg.R3410_RUN_STATE g) 0).finish Code.STATUS_OK) [.od, .done] :=
    ((Dev.Keeps.refl _ _).set _ _).finish _
  have stopped : s.found.stopCapture g = s.found.set (Reg.R3410_RUN_STATE g) 0 := Dev.lengthChange_none settled
  have leaves : Leaves (.captureStop g) s ((s.found.set (Reg.R3410_RUN_STATE g) 0).finish Code.STATUS_OK) :=
    .cell (fun d => d.captureStop g) up.passes
      (by rw [Dev.captureStop, if_neg (by omega), Dev.when, if_pos (by simpa using running), stopped]) keeps
  refine leaves.quietly rfl ⟨rfl, ?_, keeps, fun k hk => Dev.reg_set_other _ _ (by simpa using hk)⟩
  rw [Dev.reg_finish, Dev.reg_set_same, (odType_ofCapture hg).1]
  rfl

end
end Sys2Proof.Machine
end

section
/-! ## A set armed (R203) -/

namespace Sys2Proof.Machine

/-- The staged settings of a set that an arm takes over, beside its sources. -/
abbrev armedRegs (g : Nat) : List Nat := [Reg.R3410_DIV g, Reg.R3410_PHASE g, Reg.R3410_N_CH g, Reg.R3410_MODE g, Reg.R3410_TRIG g,
  Reg.R3410_TRIG_INDEX g, Reg.R3410_TRIG_LEVEL g, Reg.R3410_POST_ROWS g]

theorem armedRegs_low {g k : Nat} (hk : k ∈ armedRegs g) : k % 256 < 0x0A ∧ Reg.key 0x1003 0xFF < k := by
  simp only [armedRegs, List.mem_cons, List.not_mem_nil, or_false, Reg.R3410_DIV, Reg.R3410_PHASE, Reg.R3410_N_CH, Reg.R3410_MODE,
    Reg.R3410_TRIG, Reg.R3410_TRIG_INDEX, Reg.R3410_TRIG_LEVEL, Reg.R3410_POST_ROWS, Reg.key] at hk ⊢
  omega

section
variable {d : Dev} {g : Nat}

/-- The staged settings in force. -/
def Dev.armTaken (d : Dev) (g : Nat) : Dev :=
  (each (armedRegs g) (fun k d => d.set (act k) (d.reg k)) (d.lengthChange g)).setBytes (act (Reg.R3410_SOURCES g))
    ((each (armedRegs g) (fun k d => d.set (act k) (d.reg k)) (d.lengthChange g)).bytes (Reg.R3410_SOURCES g))

/-- The set recording, from row 0. -/
def Dev.armed (d : Dev) (g : Nat) : Dev :=
  ((((d.setCap g { d.capSet g with written := 0, lastVal := none, left := none }).set (Reg.R3410_WR_PTR g) 0).set
    (Reg.R3410_WRAPS g) 0).set (Reg.R3410_TRIG_ROW g) 0xFFFFFFFF).set (Reg.R3410_RUN_STATE g) 2

theorem Dev.captureArm_due {p : Pending} (due : d.dueAt (Reg.R3410_ARM_CYCLE g) = some p) (sync : d.inSync = true) :
    d.captureArm g = ((d.dueTaken (Reg.R3410_ARM_CYCLE g) p).armTaken g).armed g := by
  simp only [Dev.captureArm, Dev.dueNow_taken due sync]
  rfl

theorem Dev.armed_shows (d : Dev) (hg : g < 16) : d.Keeps (d.armed g) [.od, .ident] ∧
    (d.armed g).reg (Reg.R3410_RUN_STATE g) = 2 ∧ (d.armed g).reg (Reg.R3410_WR_PTR g) = 0 ∧ (d.armed g).reg (Reg.R3410_WRAPS g) = 0 ∧
    (d.armed g).reg (Reg.R3410_TRIG_ROW g) = 0xFFFFFFFF ∧
    (d.armed g).capSet g = { d.capSet g with written := 0, lastVal := none, left := none } ∧
    (∀ h, h ≠ g → (d.armed g).capSet h = d.capSet h) ∧
    d.KeepsRegs (d.armed g) [Reg.R3410_WR_PTR g, Reg.R3410_WRAPS g, Reg.R3410_TRIG_ROW g, Reg.R3410_RUN_STATE g] := by
  obtain ⟨tRun, -, -, tPtr, tWraps, tTrig⟩ := odType_ofCapture hg
  refine ⟨(((((Dev.Keeps.refl _ _).step (Dev.keeps_setCap _ _ _)).set _ _).set _ _).set _ _).set _ _, ?_, ?_, ?_, ?_, ?_, fun h other => ?_,
    fun k hk => ?_⟩
  · rw [Dev.armed, Dev.reg_set_same, tRun]
    rfl
  · simp [Dev.armed, Dev.reg_set, tPtr]
    rfl
  · simp [Dev.armed, Dev.reg_set, tWraps]
    rfl
  · simp [Dev.armed, Dev.reg_set, tTrig]
    rfl
  · simp only [Dev.armed, Dev.capSet_set, Dev.capSet_setCap]
  · simp only [Dev.armed, Dev.capSet_set, Dev.capSet_setCap_other _ _ other]
  · simp only [List.mem_cons, List.not_mem_nil, or_false, not_or] at hk
    obtain ⟨h₀, h₁, h₂, h₃⟩ := hk
    rw [Dev.armed, Dev.reg_set_other _ _ h₃, Dev.reg_set_other _ _ h₂, Dev.reg_set_other _ _ h₁, Dev.reg_set_other _ _ h₀, Dev.reg_setCap]

theorem Dev.armTaken_shows (d : Dev) (hg : g < 16) : d.Keeps (d.armTaken g) [.od, .dom, .gen, .ident] ∧
    (d.armTaken g).reg (Reg.R3410_LENGTH g) = (match (d.capSet g).newLen with
      | some l => (odType (Reg.R3410_LENGTH g)).wrap l | none => d.reg (Reg.R3410_LENGTH g)) ∧
    ((d.armTaken g).capSet g).newLen = none ∧ (∀ h, h ≠ g → (d.armTaken g).capSet h = d.capSet h) ∧
    (d.armTaken g).bytes (act (Reg.R3410_SOURCES g)) = d.bytes (Reg.R3410_SOURCES g) ∧
    ∀ k ∈ armedRegs g, (d.armTaken g).reg (act k) = (odType (act k)).wrap (d.reg k) := by
  obtain ⟨changed, length, none, others, regs⟩ := d.lengthChange_shows hg
  have low (k : Nat) (hk : k ∈ armedRegs g) : k % 256 < 128 := (armedRegs_low hk).1.trans (by decide)
  obtain ⟨staged, active⟩ := Dev.reg_activateEach (armedRegs g) low (d.lengthChange g)
  have taken : (d.lengthChange g).Keeps (each (armedRegs g) (fun k d => d.set (act k) (d.reg k)) (d.lengthChange g)) [.od] :=
    .each _ _ (fun _ _ => Dev.keeps_set _ _ _) _
  unfold Dev.armTaken
  generalize each (armedRegs g) (fun k d => d.set (act k) (d.reg k)) (d.lengthChange g) = e at *
  have copied := e.keeps_setBytes (act (Reg.R3410_SOURCES g)) (e.bytes (Reg.R3410_SOURCES g))
  have reg (k : Nat) : (e.setBytes (act (Reg.R3410_SOURCES g)) (e.bytes (Reg.R3410_SOURCES g))).reg k = e.reg k :=
    Dev.reg_congr (copied .od (by decide)) k
  have set (h : Nat) := (copied.capSet h).trans (taken.capSet h)
  refine ⟨(((changed.mono (by decide)).step taken).step copied), ?_, by rw [set, none], fun h other => (set h).trans (others h other), ?_,
    fun k hk => ?_⟩
  · rw [reg, staged _ (by simp), length]
  · rw [Dev.bytes_setBytes, if_pos rfl, taken.bytes, changed.bytes]
  · obtain ⟨sub, high⟩ := armedRegs_low hk
    rw [reg, active k (by omega), if_pos hk, regs k]
    simp only [lengthRegs, List.mem_cons, List.not_mem_nil, or_false, not_or, Reg.R3410_LENGTH, Reg.R3410_LEN_STATE, Reg.R3410_WR_PTR,
      Reg.R3410_WRAPS, Reg.key]
    omega

end

theorem captureArm_arms {s : State} {g : Nat} (hg : g < 16) (live : s.Live) (sync : s.found.inSync = true) {p : Pending}
    (due : s.found.dueAt (Reg.R3410_ARM_CYCLE g) = some p) : Does (.captureArm g) s fun b a =>
      a.reg (Reg.R3410_RUN_STATE g) = 2 ∧ a.reg (Reg.R3410_WR_PTR g) = 0 ∧ a.reg (Reg.R3410_WRAPS g) = 0 ∧
      a.reg (Reg.R3410_TRIG_ROW g) = 0xFFFFFFFF ∧ (a.capSet g).written = 0 ∧
      a.reg (Reg.R3410_LENGTH g) = (match (b.capSet g).newLen with
        | some l => (odType (Reg.R3410_LENGTH g)).wrap l | none => b.reg (Reg.R3410_LENGTH g)) ∧
      (p.late = true → a.LastRaised Code.LATE_EXECUTED Kind.table 0) ∧ (p.late = false → a.log = b.log) ∧
      (a.capSet g).newLen = none ∧ (a.capSet g).left = none ∧
      a.bytes (act (Reg.R3410_SOURCES g)) = b.bytes (Reg.R3410_SOURCES g) ∧ (∀ h, h ≠ g → a.capSet h = b.capSet h) ∧
      (∀ k ∈ armedRegs g, a.reg (act k) = (odType (act k)).wrap (b.reg k)) ∧
      b.Keeps a (.dom :: .gen :: .pend :: .ident :: logParts) := by
  obtain ⟨d, taken⟩ : ∃ d, d = s.found.dueTaken (Reg.R3410_ARM_CYCLE g) p := ⟨_, rfl⟩
  have before : s.found.Keeps d [.od, .log, .event, .pend] := by rw [taken]; exact Dev.keeps_dueTaken _ _ _
  have high {k : Nat} (h : Reg.key 0x1003 0xFF < k) : d.reg k = s.found.reg k := by rw [taken]; exact Dev.reg_dueTaken _ _ _ h
  have result : s.found.captureArm g = (d.armTaken g).armed g := (Dev.captureArm_due due sync).trans (by rw [taken])
  obtain ⟨changed, length, none, others, sources, active⟩ := d.armTaken_shows hg
  generalize d.armTaken g = e at *
  obtain ⟨armed, run, ptr, wraps, trig, set, others', regs⟩ := e.armed_shows hg
  generalize e.armed g = a at *
  have keeps : s.found.Keeps a (.dom :: .gen :: .pend :: .ident :: logParts) := ((before.mono (by decide)).step changed).step armed
  have leaves : Leaves (.captureArm g) s a :=
    .cell (guard := fun d => d.liveIf (g < 16)) (fun d => d.captureArm g) (live.passesIf hg) result keeps
  have log : a.log = d.log := (armed .log (by decide)).trans (changed .log (by decide))
  rw [before.capSet g, high (by simp only [Reg.R3410_LENGTH, Reg.key]; omega)] at length
  refine leaves.does fun pend vecs => ⟨run, ptr, wraps, trig, ?_, ?_, fun late => ?_, fun punctual => ?_, ?_, ?_, ?_, fun h other => ?_,
    fun k hk => ?_, keeps.told _ _⟩
  · change (a.capSet g).written = 0
    rw [set]
  · exact (regs _ (by simp)).trans length
  · have raised : d.LastRaised Code.LATE_EXECUTED Kind.table 0 := by rw [taken]; exact Dev.dueTaken_late _ _ late
    exact ((raised.of_keeps changed).of_keeps armed).told _ _
  · have quiet : s.found.Keeps d [.pend] := by rw [taken]; exact Dev.dueTaken_punctual _ _ punctual
    exact log.trans (quiet .log (by decide))
  · change (a.capSet g).newLen = _
    rw [set, none]
  · change (a.capSet g).left = _
    rw [set]
  · exact (armed.bytes _).trans (sources.trans (before.bytes _))
  · exact (others' h other).trans ((others h other).trans (before.capSet h))
  · obtain ⟨sub, far⟩ := armedRegs_low hk
    rw [Dev.reg_told, regs, active k hk, high far]
    simp only [List.mem_cons, List.not_mem_nil, or_false, not_or, Reg.R3410_WR_PTR, Reg.R3410_WRAPS, Reg.R3410_TRIG_ROW, Reg.R3410_RUN_STATE,
      Reg.key, act]
    omega

/-- Settles O20: a start, an arm, a row and a length each write their generator's or set's own entries and memory. -/
theorem injectionAndCapture : Obligations.InjectionAndCapture := by
  unfold Obligations.InjectionAndCapture
  refine ⟨fun g s hg hn => ⟨fun live sync p due ok => injectionStart_starts hg live hn sync due ok, fun live sync p due => ?_,
      fun live sync p due no => injectionStart_refused hg live sync due no, fun live due => injectionStart_notDue hg live due,
      fun up running => injectionStop_ends hg up hn running, fun up idle => injectionStop_idle hg up idle,
      fun live running last => injectionDone_ends hg live hn running last, fun live more => injectionDone_early hg live more⟩,
    fun g s hg => ⟨fun live sync p due => captureArm_arms hg live sync due, fun live sync p due => ?_,
      fun live running mine more settled => ?_, fun live idle => captureRow_idle hg live idle,
      fun live running last settled => captureComplete_completes hg live running last settled,
      fun live more => captureComplete_early hg live more, fun up running settled => captureStop_stops hg up running settled⟩,
    fun g len s up hg => ⟨fun good other fits busy => lengthWrite_pending up hg good other fits busy,
      fun good other fits stopped => lengthWrite_effective up hg good other fits stopped, fun good same => lengthWrite_same up hg good same,
      fun good other full => lengthWrite_noSpace up hg good other full, fun bad => lengthWrite_range up hg bad⟩⟩
  · exact due_held hg live (f := fun d => d.injectionStart g) due (by simp only [Dev.injectionStart, Dev.dueNow_held due sync]) rfl
  · exact due_held hg live (f := fun d => d.captureArm g) due (by simp only [Dev.captureArm, Dev.dueNow_held due sync]) rfl
  · obtain ⟨a, runs, row, rest, trig, left, wraps, once, written, others, ptr, keeps, regs⟩ :=
      captureRow_records hg live running mine more settled
    have hit : s.found.triggers g = true ↔ (s.found.nat (act (Reg.R3410_MODE g)) = 1 ∧ (s.found.capSet g).left = none ∧
        s.found.triggered g ((s.found.sources g).map s.found.channelWord) = true) := by
      simp only [Dev.triggers, Bool.and_eq_true, beq_iff_eq, Option.isNone_iff_eq_none, and_assoc]
    refine ⟨a, runs, row, rest, trig.trans ?_, fun h => left (hit.2 h), wraps, once, written, others, ptr, keeps, regs⟩
    simp only [hit]

end Sys2Proof.Machine
end

section
/-! # Analysis jobs (R206, R207, R223) -/

namespace Sys2Proof.Machine

theorem odType_ofJob {j : Nat} (h : j < 8) : odType (Reg.R3420_JOB_STATE j) = .u8 ∧ odType (Reg.R3420_JOB_REASON j) = .u8 := by
  revert j
  decide +kernel

section
variable {d : Dev} {j e : Nat}

/-! ## What a job's start depends on -/

theorem Dev.engineBusy_iff : (d.ident.jobOn.any fun (_, x) => x == e) = true ↔ ∃ i, (i, e) ∈ d.ident.jobOn := by simp

theorem Dev.jobStart_starts (served : d.trackersWait = []) (head : d.ident.jobs.head? = some j) (engine : d.vendorEngine e = true)
    (idle : ∀ i, (i, e) ∉ d.ident.jobOn) (stopped : d.nat (Reg.R3410_RUN_STATE (d.nat (Reg.R3420_CAPTURE_SET j))) = 0) :
    d.jobStart j e = { d with ident := { d.ident with jobs := d.ident.jobs.tail, jobOn := d.ident.jobOn ++ [(j, e)] } }.set
      (Reg.R3420_JOB_STATE j) 2 := by
  refine (if_neg ?_).trans (if_neg (not_not_intro stopped))
  rw [Dev.engineBusy_iff]
  simp [served, head, engine, idle]

theorem Dev.jobStart_fails (served : d.trackersWait = []) (head : d.ident.jobs.head? = some j) (engine : d.vendorEngine e = true)
    (idle : ∀ i, (i, e) ∉ d.ident.jobOn) (runs : d.nat (Reg.R3410_RUN_STATE (d.nat (Reg.R3420_CAPTURE_SET j))) ≠ 0) :
    d.jobStart j e = d.jobFail j 1 := by
  refine (if_neg ?_).trans (if_pos runs)
  rw [Dev.engineBusy_iff]
  simp [served, head, engine, idle]

theorem Dev.jobStart_waits (h : d.ident.jobs.head? ≠ some j ∨ d.trackersWait ≠ []) : d.jobStart j e = d := by
  refine if_pos ?_
  rcases h with behind | unserved
  · exact .inr (.inl behind)
  · exact .inl (by simpa using unserved)

/-! ## A job that fails -/

/-- The job off its engine and out of the queue. -/
def Dev.jobLeft (d : Dev) (j : Nat) : Dev :=
  { d with ident := { d.ident with jobs := d.ident.jobs.filter (· != j), jobOn := d.ident.jobOn.filter fun (i, _) => i != j } }

theorem Dev.jobFail_eq (d : Dev) (j reason : Nat) : d.jobFail j reason =
    (((d.jobLeft j).set (Reg.R3420_JOB_STATE j) 4).set (Reg.R3420_JOB_REASON j) reason).raise Code.JOB_FAILED Kind.other 0 0 j := rfl

theorem Dev.keeps_jobFail (d : Dev) (j reason : Nat) : d.Keeps (d.jobFail j reason) [.od, .ident, .log, .event] :=
  ((((Dev.keeps_ident _ _).mono (by decide)).set _ _).set _ _).raise _ _ _ _ _

theorem Dev.jobFail_shows (d : Dev) (hj : j < 8) {reason : Nat} (hr : reason < 3) :
    (d.jobFail j reason).reg (Reg.R3420_JOB_STATE j) = 4 ∧ (d.jobFail j reason).reg (Reg.R3420_JOB_REASON j) = reason ∧
    j ∉ (d.jobFail j reason).ident.jobs ∧ (∀ f, (j, f) ∉ (d.jobFail j reason).ident.jobOn) ∧
    (d.jobFail j reason).LastRaised Code.JOB_FAILED Kind.other 0 := by
  obtain ⟨tState, tReason⟩ := odType_ofJob hj
  have low : Reg.R3420_JOB_STATE j ∉ logRegs ∧ Reg.R3420_JOB_REASON j ∉ logRegs := by
    simp only [Reg.R3420_JOB_STATE, Reg.R3420_JOB_REASON, logRegs, Reg.R1003_NEXT_SEQ, Reg.R1003_LOG_WRAPPED, Reg.R6020_CONFIRM_CYCLES,
      Reg.key, List.mem_cons, List.not_mem_nil, or_false]
    omega
  have ident : (d.jobFail j reason).ident = (d.jobLeft j).ident :=
    ((((Dev.Keeps.refl (d.jobLeft j) [.od, .log, .event]).set _ _).set _ _).raise _ _ _ _ _) .ident (by decide)
  rw [ident, Dev.jobFail_eq]
  refine ⟨?_, ?_, by simp [Dev.jobLeft], by simp [Dev.jobLeft], Dev.lastRaised_raise _ _ _ _ _ _⟩
  · rw [Dev.reg_raise _ _ _ _ _ _ low.1, Dev.reg_set_other _ _ (by simp), Dev.reg_set_same, tState]
    rfl
  · rw [Dev.reg_raise _ _ _ _ _ _ low.2, Dev.reg_set_same, tReason]
    match reason, hr with
    | 0, _ | 1, _ | 2, _ => rfl

/-- A job of kind 1 at its end. -/
def Dev.jobDone (d : Dev) (j : Nat) : Dev :=
  ({ d with ident := { d.ident with jobOn := d.ident.jobOn.filter fun (i, _) => i != j } } : Dev).set (Reg.R3420_JOB_STATE j) 3

/-- The response of a job as it stores it. -/
abbrev Dev.response (d : Dev) (j : Nat) : Bytes :=
  d.frfBytes j (d.jobRate j / (d.nat (Reg.R3420_N_FFT j) : Rat)) (d.jobRows j).length (d.frfCodes j d.fresh (d.jobRows j))

theorem Dev.jobComplete_responds (running : d.nat (Reg.R3420_JOB_STATE j) = 2) (kind : d.reg (Reg.R3420_KIND j) = 1)
    (enough : 2 ≤ (d.jobRows j).length) : d.jobComplete j = (d.takeFresh.2.setBytes (Reg.R3420_RESULT j) (d.response j)).jobDone j := by
  have kind' : d.nat (Reg.R3420_KIND j) = 1 := by rw [Dev.nat, kind]; rfl
  refine (if_neg (not_not_intro running)).trans ((if_neg ?_).trans (if_pos kind'))
  exact Nat.not_lt.2 enough

theorem Dev.jobComplete_short (running : d.nat (Reg.R3420_JOB_STATE j) = 2) (few : (d.jobRows j).length < 2) :
    d.jobComplete j = d.takeFresh.2.jobFail j 2 :=
  (if_neg (not_not_intro running)).trans (if_pos few)

theorem Dev.keeps_takeFresh (d : Dev) : d.Keeps d.takeFresh.2 [.fresh] := by
  intro p hp
  cases p with
  | fresh => simp at hp
  | _ => rfl

end

section
variable {s : State} {j e : Nat} (hj : j < 8)
include hj

section
variable (up : s.Up)
include up

theorem jobRun_queues (idle : s.found.nat (Reg.R3420_JOB_STATE j) ≠ 1) (still : s.found.nat (Reg.R3420_JOB_STATE j) ≠ 2) :
    Does (.jobRun j) s fun b a =>
      a.done = Code.STATUS_OK ∧ a.ident = { b.ident with jobs := b.ident.jobs ++ [j] } ∧ a.reg (Reg.R3420_JOB_STATE j) = 1 ∧
      a.reg (Reg.R3420_JOB_REASON j) = 0 ∧ b.Keeps a [.od, .ident, .done] ∧
      b.KeepsRegs a [Reg.R3420_JOB_STATE j, Reg.R3420_JOB_REASON j] := by
  obtain ⟨tState, tReason⟩ := odType_ofJob hj
  obtain ⟨d, queued⟩ : ∃ d, d = { s.found with ident := { s.found.ident with jobs := s.found.ident.jobs ++ [j] } } := ⟨_, rfl⟩
  have joined : s.found.Keeps d [.ident] := by rw [queued]; exact Dev.keeps_ident _ _
  have keeps : s.found.Keeps (((d.set (Reg.R3420_JOB_STATE j) 1).set (Reg.R3420_JOB_REASON j) 0).finish Code.STATUS_OK) [.od, .ident, .done] :=
    (((joined.mono (by decide)).set _ _).set _ _).finish _
  have leaves : Leaves (.jobRun j) s (((d.set (Reg.R3420_JOB_STATE j) 1).set (Reg.R3420_JOB_REASON j) 0).finish Code.STATUS_OK) :=
    .cell (fun d => d.jobRun j) up.passes
      ((if_neg (by omega)).trans ((if_neg (not_or.2 ⟨idle, still⟩)).trans (by rw [queued]))) keeps
  refine leaves.quietly (keeps .event (by decide)) ⟨rfl, ?_, ?_, ?_, keeps, fun k hk => ?_⟩
  · have ident : d.ident = { s.found.ident with jobs := s.found.ident.jobs ++ [j] } := by rw [queued]
    exact ident
  · rw [Dev.reg_finish, Dev.reg_set_other _ _ (by simp), Dev.reg_set_same, tState]
    rfl
  · rw [Dev.reg_finish, Dev.reg_set_same, tReason]
    rfl
  · simp only [List.mem_cons, List.not_mem_nil, or_false, not_or] at hk
    rw [Dev.reg_finish, Dev.reg_set_other _ _ hk.2, Dev.reg_set_other _ _ hk.1, Dev.reg_congr (joined .od (by decide))]

theorem jobRun_refused (busy : s.found.nat (Reg.R3420_JOB_STATE j) = 1 ∨ s.found.nat (Reg.R3420_JOB_STATE j) = 2) :
    Does (.jobRun j) s fun b a => a.done = Code.OD_STATE ∧ b.Keeps a [.done] := by
  have leaves : Leaves (.jobRun j) s (s.found.finish Code.OD_STATE) :=
    .cell (l := [.done]) (fun d => d.jobRun j) up.passes ((if_neg (by omega)).trans (if_pos busy)) (Dev.keeps_finish _ _)
  exact leaves.finished

end

section
variable (live : s.Live)
include live

theorem jobStart_starts (he : e < 2) (served : s.found.trackersWait = []) (head : s.found.ident.jobs.head? = some j)
    (engine : s.found.vendorEngine e = true) (idle : ∀ i, (i, e) ∉ s.found.ident.jobOn)
    (stopped : s.found.nat (Reg.R3410_RUN_STATE (s.found.nat (Reg.R3420_CAPTURE_SET j))) = 0) : Does (.jobStart j e) s fun b a =>
      a.reg (Reg.R3420_JOB_STATE j) = 2 ∧
      a.ident = { b.ident with jobs := b.ident.jobs.tail, jobOn := b.ident.jobOn ++ [(j, e)] } ∧ b.Keeps a [.od, .ident] ∧
      b.KeepsRegs a [Reg.R3420_JOB_STATE j] := by
  have result := Dev.jobStart_starts served head engine idle stopped
  obtain ⟨d, placed⟩ : ∃ d, d = { s.found with ident :=
    { s.found.ident with jobs := s.found.ident.jobs.tail, jobOn := s.found.ident.jobOn ++ [(j, e)] } } := ⟨_, rfl⟩
  rw [← placed] at result
  have joined : s.found.Keeps d [.ident] := by rw [placed]; exact Dev.keeps_ident _ _
  have keeps : s.found.Keeps (d.set (Reg.R3420_JOB_STATE j) 2) [.od, .ident] := (joined.mono (by decide)).set _ _
  have leaves : Leaves (.jobStart j e) s (d.set (Reg.R3420_JOB_STATE j) 2) :=
    .cell (guard := fun d => d.liveIf (j < 8 ∧ e < 2)) (fun d => d.jobStart j e) (live.passesIf ⟨hj, he⟩) result keeps
  refine leaves.quietly (keeps .event (by decide)) ⟨?_, ?_, keeps, fun k hk => ?_⟩
  · rw [Dev.reg_set_same, (odType_ofJob hj).1]
    rfl
  · have ident : d.ident = { s.found.ident with jobs := s.found.ident.jobs.tail, jobOn := s.found.ident.jobOn ++ [(j, e)] } := by rw [placed]
    exact ident
  · rw [Dev.reg_set_other _ _ (by simpa using hk), Dev.reg_congr (joined .od (by decide))]

theorem jobStart_fails (he : e < 2) (served : s.found.trackersWait = []) (head : s.found.ident.jobs.head? = some j)
    (engine : s.found.vendorEngine e = true) (idle : ∀ i, (i, e) ∉ s.found.ident.jobOn)
    (runs : s.found.nat (Reg.R3410_RUN_STATE (s.found.nat (Reg.R3420_CAPTURE_SET j))) ≠ 0) : Does (.jobStart j e) s fun _ a =>
      a.reg (Reg.R3420_JOB_STATE j) = 4 ∧ a.reg (Reg.R3420_JOB_REASON j) = 1 ∧ j ∉ a.ident.jobs ∧
      a.LastRaised Code.JOB_FAILED Kind.other 0 := by
  obtain ⟨state, reason, queue, -, raised⟩ := s.found.jobFail_shows hj (reason := 1) (by decide)
  have leaves : Leaves (.jobStart j e) s (s.found.jobFail j 1) :=
    .cell (guard := fun d => d.liveIf (j < 8 ∧ e < 2)) (fun d => d.jobStart j e) (live.passesIf ⟨hj, he⟩)
      (Dev.jobStart_fails served head engine idle runs) (Dev.keeps_jobFail _ _ _)
  generalize s.found.jobFail j 1 = a at *
  exact leaves.does fun pend vecs => ⟨state, reason, queue, raised.told _ _⟩

theorem jobStart_waits (he : e < 2) (h : s.found.ident.jobs.head? ≠ some j ∨ s.found.trackersWait ≠ []) :
    Does (.jobStart j e) s fun b a => b.Keeps a [] := by
  have leaves : Leaves (.jobStart j e) s s.found :=
    .cell (l := []) (guard := fun d => d.liveIf (j < 8 ∧ e < 2)) (fun d => d.jobStart j e) (live.passesIf ⟨hj, he⟩)
      (Dev.jobStart_waits h) (Dev.Keeps.refl _ _)
  exact leaves.unchanged

theorem jobComplete_responds (running : s.found.nat (Reg.R3420_JOB_STATE j) = 2) (kind : s.found.reg (Reg.R3420_KIND j) = 1)
    (enough : 2 ≤ (s.found.jobRows j).length) : Does (.jobComplete j) s fun b a =>
      a.reg (Reg.R3420_JOB_STATE j) = 3 ∧ (∀ f, (j, f) ∉ a.ident.jobOn) ∧ a.bytes (Reg.R3420_RESULT j) = b.response j ∧
      b.Keeps a [.od, .dom, .gen, .ident, .fresh] ∧ b.KeepsRegs a [Reg.R3420_JOB_STATE j] := by
  have result := Dev.jobComplete_responds running kind enough
  have stored := s.found.takeFresh.2.bytes_setBytes (Reg.R3420_RESULT j) (Reg.R3420_RESULT j) (s.found.response j)
  have before : s.found.Keeps (s.found.takeFresh.2.setBytes (Reg.R3420_RESULT j) (s.found.response j)) [.dom, .gen, .fresh] :=
    ((Dev.keeps_takeFresh _).mono (by decide)).step (Dev.keeps_setBytes _ _ _)
  generalize s.found.takeFresh.2.setBytes (Reg.R3420_RESULT j) (s.found.response j) = d at *
  have keeps : s.found.Keeps (d.jobDone j) [.od, .dom, .gen, .ident, .fresh] :=
    ((before.mono (by decide)).step (Dev.keeps_ident _ _)).set _ _
  have leaves : Leaves (.jobComplete j) s (d.jobDone j) :=
    .cell (guard := fun d => d.liveIf (j < 8)) (fun d => d.jobComplete j) (live.passesIf hj) result keeps
  refine leaves.quietly (keeps .event (by decide)) ⟨?_, by simp [Dev.jobDone], stored.trans (if_pos rfl), keeps, fun k hk => ?_⟩
  · rw [Dev.jobDone, Dev.reg_set_same, (odType_ofJob hj).1]
    rfl
  · rw [Dev.jobDone, Dev.reg_set_other _ _ (by simpa using hk)]
    exact Dev.reg_congr (before .od (by decide)) k

theorem jobComplete_short (running : s.found.nat (Reg.R3420_JOB_STATE j) = 2) (few : (s.found.jobRows j).length < 2) :
    Does (.jobComplete j) s fun _ a =>
      a.reg (Reg.R3420_JOB_STATE j) = 4 ∧ a.reg (Reg.R3420_JOB_REASON j) = 2 ∧ (∀ f, (j, f) ∉ a.ident.jobOn) ∧
      a.LastRaised Code.JOB_FAILED Kind.other 0 := by
  obtain ⟨state, reason, -, engines, raised⟩ := s.found.takeFresh.2.jobFail_shows hj (reason := 2) (by decide)
  have leaves : Leaves (.jobComplete j) s (s.found.takeFresh.2.jobFail j 2) :=
    .cell (l := [.fresh, .od, .ident, .log, .event]) (guard := fun d => d.liveIf (j < 8)) (fun d => d.jobComplete j) (live.passesIf hj)
      (Dev.jobComplete_short running few) (((Dev.keeps_takeFresh _).mono (by decide)).step (Dev.keeps_jobFail _ _ _))
  generalize s.found.takeFresh.2.jobFail j 2 = a at *
  exact leaves.does fun pend vecs => ⟨state, reason, engines, raised.told _ _⟩

end
end
end Sys2Proof.Machine
end

section
/-! # Notch trackers (R211, R212, R214, R223) -/

namespace Sys2Proof.Machine

theorem odType_ofTracker {t : Nat} (h : t < 32) : odType (Reg.R3440_EN t) = .bool ∧ odType (Reg.R3440_TRACK_STATE t) = .u8 := by
  revert t
  decide +kernel

theorem odType_commitStatus {n : Nat} (h : n < 128) : odType (Reg.AX9_COMMIT_STATUS n) = .u16 := by
  revert n
  decide +kernel

theorem wrapBits32_ge (x : Int) : -2 ^ 31 ≤ wrapBits 32 x := by
  have h := Int.le_bmod (x := x) (m := 2 ^ 32) (by decide)
  unfold wrapBits
  norm_num at h ⊢
  omega

section
variable {d : Dev} {t : Nat}

@[simp] theorem Dev.reg_setTracker (d : Dev) (t : Nat) (x : Tracker) (k : Nat) : (d.setTracker t x).reg k = d.reg k := rfl

@[simp] theorem Dev.tracker_setTracker (d : Dev) (t : Nat) (x : Tracker) : (d.setTracker t x).tracker t = x := mget_mset_same _ _ _ _

@[simp] theorem Dev.tracker_set (d : Dev) (k : Nat) (v : Int) (t : Nat) : (d.set k v).tracker t = d.tracker t := rfl

/-! ## EN (R211) -/

/-- Another tracker that is on follows the same section. -/
abbrev Dev.sectionShared (d : Dev) (t : Nat) : Bool := (List.range 32).any fun u =>
  u != t && d.flag (Reg.R3440_EN u) && d.nat (Reg.R3440_AXIS u) == d.nat (Reg.R3440_AXIS t) &&
    d.nat (Reg.R3440_LEVEL u) == d.nat (Reg.R3440_LEVEL t) && d.nat (Reg.R3440_SEC u) == d.nat (Reg.R3440_SEC t)

theorem Dev.sectionShared_iff : d.sectionShared t = false ↔ ∀ u < 32, u ≠ t → d.reg (Reg.R3440_EN u) ≠ 0 →
    d.nat (Reg.R3440_AXIS u) = d.nat (Reg.R3440_AXIS t) → d.nat (Reg.R3440_LEVEL u) = d.nat (Reg.R3440_LEVEL t) →
    d.nat (Reg.R3440_SEC u) ≠ d.nat (Reg.R3440_SEC t) := by
  simp only [Dev.sectionShared, List.any_eq_false, List.mem_range, Bool.and_eq_true, bne_iff_ne, beq_iff_eq, Dev.flag, not_and, and_imp]

/-- What R211 asks of a tracker that is switched on. -/
abbrev Dev.TrackerOk (d : Dev) (t : Nat) : Prop :=
  d.nat (Reg.R3440_SEC t) < (Bank.parse (d.image (d.nat (Reg.R3440_AXIS t)) (d.nat (Reg.R3440_LEVEL t)))).nPost ∧
    d.levelOn (d.nat (Reg.R3440_AXIS t)) (d.nat (Reg.R3440_LEVEL t)) = true ∧ 1 ≤ d.nat (Reg.R3440_BAND_PCT t) ∧
    d.nat (Reg.R3440_BAND_PCT t) ≤ 20 ∧
    f32 (d.reg (Reg.R3440_F0 t)) * (1 + (d.nat (Reg.R3440_BAND_PCT t) : Rat) / 100) ≤
      45 / 100 * d.levelRate (d.nat (Reg.R3440_AXIS t)) (d.nat (Reg.R3440_LEVEL t)) ∧ d.sectionShared t = false

/-- A tracker switched on or off. -/
def Dev.trackerTurned (d : Dev) (t : Nat) (en : Nat) : Dev :=
  ((d.set (Reg.R3440_EN t) en).set (Reg.R3440_TRACK_STATE t) en).setTracker t { d.tracker t with outside := 0 }

theorem Dev.trackerEnable_off (ht : t < 32) : d.trackerEnable t false = (d.trackerTurned t 0).finish Code.STATUS_OK :=
  (if_neg (by omega)).trans rfl

theorem Dev.trackerEnable_on (ht : t < 32) (off : d.reg (Reg.R3440_EN t) = 0) : d.trackerEnable t true =
    if d.TrackerOk t then (d.trackerTurned t 1).finish Code.STATUS_OK
    else (d.raise Code.CAPTURE_INVALID Kind.axis (d.nat (Reg.R3440_AXIS t)) 0 t).finish Code.CAPTURE_INVALID := by
  have off' : ¬d.flag (Reg.R3440_EN t) = true := by simp [Dev.flag, off]
  exact (if_neg (by omega)).trans ((if_neg (by decide)).trans ((if_neg off').trans rfl))

theorem Dev.trackerTurned_shows (d : Dev) (ht : t < 32) {en : Nat} (hen : en < 2) : d.Keeps (d.trackerTurned t en) [.od, .ident] ∧
    (d.trackerTurned t en).reg (Reg.R3440_EN t) = en ∧ (d.trackerTurned t en).reg (Reg.R3440_TRACK_STATE t) = en ∧
    d.KeepsRegs (d.trackerTurned t en) [Reg.R3440_EN t, Reg.R3440_TRACK_STATE t] := by
  obtain ⟨tEn, tState⟩ := odType_ofTracker ht
  have value : OdType.bool.wrap en = en ∧ OdType.u8.wrap en = en := by
    match en, hen with
    | 0, _ | 1, _ => exact ⟨rfl, rfl⟩
  refine ⟨((((Dev.Keeps.refl d _).set _ _).set _ _).step (Dev.keeps_setTracker _ _ _)), ?_, ?_, fun k hk => ?_⟩
  · rw [Dev.trackerTurned, Dev.reg_setTracker, Dev.reg_set_other _ _ (by simp), Dev.reg_set_same, tEn, value.1]
  · rw [Dev.trackerTurned, Dev.reg_setTracker, Dev.reg_set_same, tState, value.2]
  · simp only [List.mem_cons, List.not_mem_nil, or_false, not_or] at hk
    rw [Dev.trackerTurned, Dev.reg_setTracker, Dev.reg_set_other _ _ hk.2, Dev.reg_set_other _ _ hk.1]

/-! ## A step (R212) -/

theorem Dev.trackerWaits_iff (ht : t < 32) : d.trackersWait.contains t = true ↔ d.reg (Reg.R3440_EN t) ≠ 0 ∧
    d.nat (Reg.R3440_TRACK_STATE t) ≠ 3 ∧ (d.tracker t).served ≠ some d.clk.cycle64 := by
  simp [Dev.trackersWait, ht, Dev.flag, Dev.tracker, and_assoc]

/-- A tracker served in this cycle, one more free value drawn. -/
def Dev.trackerServed (d : Dev) (t : Nat) : Dev := (d.setTracker t { d.tracker t with served := some d.clk.cycle64 }).takeFresh.2

theorem Dev.trackerServed_shows (d : Dev) (t : Nat) : d.Keeps (d.trackerServed t) [.ident, .fresh] ∧
    (d.trackerServed t).tracker t = { d.tracker t with served := some d.clk.cycle64 } ∧ ∀ k, (d.trackerServed t).reg k = d.reg k :=
  ⟨((Dev.keeps_setTracker _ _ _).mono (by decide)).step (Dev.keeps_takeFresh _), d.tracker_setTracker t _, fun _ => rfl⟩

/-- The tracker holds. -/
def Dev.trackerHolds (d : Dev) (t : Nat) : Dev :=
  (d.set (Reg.R3440_TRACK_STATE t) 2).setTracker t { d.tracker t with outside := 0 }

theorem Dev.trackerStep_idle (h : d.trackersWait.contains t = false) : d.trackerStep t = d := if_pos (by rw [h]; rfl)

theorem Dev.trackerStep_holds (waits : d.trackersWait.contains t = true) (none₀ : d.vendorEngine 0 = false)
    (none₁ : d.vendorEngine 1 = false) : d.trackerStep t = (d.trackerServed t).trackerHolds t := by
  have engines : ∀ e, (d.trackerServed t).vendorEngine e = d.vendorEngine e := fun _ => rfl
  have none : (!((d.trackerServed t).vendorEngine 0 || (d.trackerServed t).vendorEngine 1)) = true := by rw [engines, engines, none₀, none₁]; rfl
  exact (if_neg (by rw [waits]; decide)).trans (if_pos (by
    refine Bool.or_eq_true_iff.2 (.inl (Bool.or_eq_true_iff.2 (.inl (Bool.or_eq_true_iff.2 (.inl none)))))))

/-- Whether a frequency lies in the band of a tracker. -/
abbrev Dev.InBand (d : Dev) (t : Nat) (f : Rat) : Prop :=
  f32 (d.reg (Reg.R3440_F0 t)) - f32 (d.reg (Reg.R3440_F0 t)) * (d.nat (Reg.R3440_BAND_PCT t) : Rat) / 100 ≤ f ∧
    f ≤ f32 (d.reg (Reg.R3440_F0 t)) + f32 (d.reg (Reg.R3440_F0 t)) * (d.nat (Reg.R3440_BAND_PCT t) : Rat) / 100

/-- The estimate that a tracker's next step draws. -/
abbrev Dev.estimate (d : Dev) : Nat := Config.trackEstimate d.fresh % 4294967296

/-- What a tracker that follows makes of its estimate. -/
def Dev.trackerTakes (d : Dev) (t code : Nat) : Dev :=
  if d.InBand t (f32 (code : Int)) then
    ((d.set (Reg.R3440_F_EST t) code).set (Reg.R3440_TRACK_STATE t) 1).setTracker t { d.tracker t with outside := 0 }
  else if 3 ≤ (d.tracker t).outside then
    ((d.set (Reg.R3440_TRACK_STATE t) 3).setTracker t { d.tracker t with outside := 0 }).raise Code.NOTCH_BOUND Kind.axis
      (d.nat (Reg.R3440_AXIS t)) 0 t
  else (d.set (Reg.R3440_TRACK_STATE t) 1).setTracker t { d.tracker t with outside := (d.tracker t).outside + 1 }

theorem Dev.trackerStep_takes (waits : d.trackersWait.contains t = true) (engine : d.vendorEngine 0 = true)
    (moving : d.axState (d.nat (Reg.R3440_AXIS t)) = AxState.moving) (current : d.oldChannel (d.nat (Reg.R3440_AXIS t)) = false)
    (floor : d.reg (Reg.R3440_MIN_RMS t) = -2 ^ 31) : d.trackerStep t = (d.trackerServed t).trackerTakes t d.estimate := by
  obtain ⟨e, served⟩ : ∃ e, e = d.trackerServed t := ⟨_, rfl⟩
  have engine' : e.vendorEngine 0 = true := by rw [served]; exact engine
  have moving' : e.axState (e.nat (Reg.R3440_AXIS t)) = AxState.moving := by rw [served]; exact moving
  have current' : e.oldChannel (e.nat (Reg.R3440_AXIS t)) = false := by rw [served]; exact current
  have rms : ¬wrapBits 32 (Config.trackRms d.fresh : Nat) < e.reg (Reg.R3440_MIN_RMS t) := by
    have floor' : e.reg (Reg.R3440_MIN_RMS t) = -2 ^ 31 := by rw [served]; exact floor
    rw [floor']
    exact not_lt.2 (wrapBits32_ge _)
  have works : ¬(!(e.vendorEngine 0 || e.vendorEngine 1) || !(e.axState (e.nat (Reg.R3440_AXIS t)) == AxState.enabled ||
      e.axState (e.nat (Reg.R3440_AXIS t)) == AxState.moving || e.axState (e.nat (Reg.R3440_AXIS t)) == AxState.stopping) ||
      e.oldChannel (e.nat (Reg.R3440_AXIS t)) || decide (wrapBits 32 (Config.trackRms d.fresh : Nat) < e.reg (Reg.R3440_MIN_RMS t))) = true := by
    simp [engine', moving', current', rms]
  rw [served] at works
  exact (if_neg (by rw [waits]; decide)).trans ((if_neg works).trans rfl)

theorem Dev.keeps_trackerTakes (d : Dev) (t code : Nat) : d.Keeps (d.trackerTakes t code) [.od, .ident, .log, .event] := by
  unfold Dev.trackerTakes
  split_ifs
  · exact ((((Dev.Keeps.refl d _).set _ _).set _ _).step (Dev.keeps_setTracker _ _ _))
  · exact ((((Dev.Keeps.refl d _).set _ _).step (Dev.keeps_setTracker _ _ _)).raise _ _ _ _ _)
  · exact (((Dev.Keeps.refl d _).set _ _).step (Dev.keeps_setTracker _ _ _))

theorem Dev.trackerTakes_inside (d : Dev) (ht : t < 32) {code : Nat} (inside : d.InBand t (f32 (code : Int))) :
    (d.trackerTakes t code).reg (Reg.R3440_F_EST t) = (odType (Reg.R3440_F_EST t)).wrap code ∧
    (d.trackerTakes t code).reg (Reg.R3440_TRACK_STATE t) = 1 ∧ ((d.trackerTakes t code).tracker t).outside = 0 := by
  rw [Dev.trackerTakes, if_pos inside]
  refine ⟨?_, ?_, by rw [Dev.tracker_setTracker]⟩
  · rw [Dev.reg_setTracker, Dev.reg_set_other _ _ (by simp), Dev.reg_set_same]
  · rw [Dev.reg_setTracker, Dev.reg_set_same, (odType_ofTracker ht).2]
    rfl

theorem Dev.trackerTakes_outside (d : Dev) (ht : t < 32) {code : Nat} (outside : ¬d.InBand t (f32 (code : Int)))
    (few : (d.tracker t).outside < 3) : (d.trackerTakes t code).reg (Reg.R3440_TRACK_STATE t) = 1 ∧
    ((d.trackerTakes t code).tracker t).outside = (d.tracker t).outside + 1 ∧
    (d.trackerTakes t code).reg (Reg.R3440_F_EST t) = d.reg (Reg.R3440_F_EST t) := by
  rw [Dev.trackerTakes, if_neg outside, if_neg (by omega)]
  refine ⟨?_, by rw [Dev.tracker_setTracker], ?_⟩
  · rw [Dev.reg_setTracker, Dev.reg_set_same, (odType_ofTracker ht).2]
    rfl
  · rw [Dev.reg_setTracker, Dev.reg_set_other _ _ (by simp)]

theorem Dev.trackerTakes_bound (d : Dev) (ht : t < 32) {code : Nat} (outside : ¬d.InBand t (f32 (code : Int)))
    (many : 3 ≤ (d.tracker t).outside) : (d.trackerTakes t code).reg (Reg.R3440_TRACK_STATE t) = 3 ∧
    (d.trackerTakes t code).LastRaised Code.NOTCH_BOUND Kind.axis (d.nat (Reg.R3440_AXIS t)) := by
  rw [Dev.trackerTakes, if_neg outside, if_pos many]
  have low : Reg.R3440_TRACK_STATE t ∉ logRegs := by
    simp only [Reg.R3440_TRACK_STATE, logRegs, Reg.R1003_NEXT_SEQ, Reg.R1003_LOG_WRAPPED, Reg.R6020_CONFIRM_CYCLES, Reg.key, List.mem_cons,
      List.not_mem_nil, or_false]
    omega
  refine ⟨?_, Dev.lastRaised_raise _ _ _ _ _ _⟩
  rw [Dev.reg_raise _ _ _ _ _ _ low, Dev.reg_setTracker, Dev.reg_set_same, (odType_ofTracker ht).2]
  rfl

/-! ## An update (R214) -/

/-- The inactive image of a tracker's level with its notch designed anew. -/
def Dev.notchImage (d : Dev) (t : Nat) : Bytes :=
  let b := d.image (d.nat (Reg.R3440_AXIS t)) (d.nat (Reg.R3440_LEVEL t))
  patch b (32 + 20 * ((Bank.parse b).nPre + (Bank.parse b).nCtl + d.nat (Reg.R3440_SEC t)))
    (coefBytes (notchDesign (f32 (d.reg (Reg.R3440_F_EST t))) (f32 (d.reg (Reg.R3440_WIDTH_HZ t))) (f32 (d.reg (Reg.R3440_DEPTH t)))
      (d.levelRate (d.nat (Reg.R3440_AXIS t)) (d.nat (Reg.R3440_LEVEL t)))))

/-- What R214 asks of an update. -/
abbrev Dev.UpdateDue (d : Dev) (t : Nat) : Prop :=
  d.reg (Reg.R3440_EN t) ≠ 0 ∧ d.nat (Reg.R3440_TRACK_STATE t) = 1 ∧ d.clk.tick = 6 ∧ d.InBand t (f32 (d.reg (Reg.R3440_F_EST t))) ∧
    f32 (d.reg (Reg.R3440_HYST_PCT t)) / 100 * f32 (d.reg (Reg.R3440_F0 t)) <
      ratAbs (f32 (d.reg (Reg.R3440_F_EST t)) - f32 (d.trackApplied t)) ∧
    (∀ c, (d.tracker t).lastAt = some c → c + 16 ≤ d.clk.cycle64) ∧
    mget none d.pend (Reg.AX9_COMMIT_CYCLE (d.nat (Reg.R3440_AXIS t))) = none

/-- The image written. -/
def Dev.notchStored (d : Dev) (t : Nat) : Dev :=
  (d.at 24000).setBytes (Reg.AX9_INACTIVE_CUR (d.nat (Reg.R3440_AXIS t)) + d.nat (Reg.R3440_LEVEL t)) (d.notchImage t)

/-- The tracker waiting for its commit. -/
def Dev.notchStaged (d : Dev) (t : Nat) : Dev :=
  (d.notchStored t).setTracker t { d.tracker t with waiting := true, target := (d.notchStored t).nat (Reg.R3440_F_EST t) }

/-- The commit of a tracker's level, two cycles on. -/
def Dev.notchCommit (d : Dev) (t : Nat) : Pending :=
  { cycle := (d.notchStaged t).clk.cycle64 + 2, policy := 0, mask := 2 ^ d.nat (Reg.R3440_LEVEL t), tracker := some t }

/-- That commit asked for. -/
def Dev.notchAsked (d : Dev) (t : Nat) : Dev :=
  ({ d.notchStaged t with pend := mset none (d.notchStaged t).pend (Reg.AX9_COMMIT_CYCLE (d.nat (Reg.R3440_AXIS t))) (some (d.notchCommit t)) } :
    Dev).set (Reg.AX9_COMMIT_STATUS (d.nat (Reg.R3440_AXIS t))) Code.COMMIT_PENDING

theorem Dev.trackerUpdate_due (due : d.UpdateDue t) : d.trackerUpdate t = d.notchAsked t := by
  obtain ⟨on, state, tick, inside, far, rested, free⟩ := due
  have rested' : (match (d.tracker t).lastAt with | some c => decide (c + 16 ≤ d.clk.cycle64) | none => true) = true := by
    cases last : (d.tracker t).lastAt with
    | none => rfl
    | some c => simpa using rested c last
  have on' : d.flag (Reg.R3440_EN t) = true := by simpa [Dev.flag] using on
  exact (if_pos ⟨on', state, tick, inside.1, inside.2, decide_eq_true far, rested', free⟩).trans rfl

theorem Dev.keeps_notchStaged (d : Dev) (t : Nat) : d.Keeps (d.notchStaged t) [.ph, .dom, .gen, .ident] :=
  (((d.keeps_at 24000).mono (by decide)).step (Dev.keeps_setBytes _ _ _)).step (Dev.keeps_setTracker _ _ _)

theorem Dev.keeps_notchAsked (d : Dev) (t : Nat) : d.Keeps (d.notchAsked t) [.ph, .od, .dom, .gen, .pend, .ident] :=
  (((d.keeps_notchStaged t).mono (by decide)).step (Dev.keeps_pend _ _)).set _ _

end

section
variable {s : State} {t : Nat} (ht : t < 32)
include ht

section
variable (up : s.Up)
include up

theorem trackerEnable_starts (off : s.found.reg (Reg.R3440_EN t) = 0) (good : s.found.TrackerOk t) : Does (.trackerEnable t true) s fun b a =>
    a.done = Code.STATUS_OK ∧ a.reg (Reg.R3440_EN t) = 1 ∧ a.reg (Reg.R3440_TRACK_STATE t) = 1 ∧ b.Keeps a [.od, .ident, .done] ∧
    b.KeepsRegs a [Reg.R3440_EN t, Reg.R3440_TRACK_STATE t] := by
  obtain ⟨turned, en, state, regs⟩ := s.found.trackerTurned_shows ht (en := 1) (by decide)
  have result := (Dev.trackerEnable_on ht off).trans (if_pos good)
  generalize s.found.trackerTurned t 1 = e at *
  have keeps : s.found.Keeps (e.finish Code.STATUS_OK) [.od, .ident, .done] := (turned.mono (by decide)).finish _
  have leaves : Leaves (.trackerEnable t true) s (e.finish Code.STATUS_OK) := .cell (fun d => d.trackerEnable t true) up.passes result keeps
  exact leaves.quietly (keeps .event (by decide)) ⟨rfl, en, state, keeps, regs⟩

theorem trackerEnable_refused (off : s.found.reg (Reg.R3440_EN t) = 0) (bad : ¬s.found.TrackerOk t) : Does (.trackerEnable t true) s fun b a =>
    a.done = Code.CAPTURE_INVALID ∧ a.reg (Reg.R3440_EN t) = 0 ∧
    a.LastRaised Code.CAPTURE_INVALID Kind.axis (s.found.nat (Reg.R3440_AXIS t)) ∧ a.ident = b.ident := by
  have leaves : Leaves (.trackerEnable t true) s
      ((s.found.raise Code.CAPTURE_INVALID Kind.axis (s.found.nat (Reg.R3440_AXIS t)) 0 t).finish Code.CAPTURE_INVALID) :=
    .cell (fun d => d.trackerEnable t true) up.passes ((Dev.trackerEnable_on ht off).trans (if_neg bad)) (Dev.keeps_refused _ _ _ _ _ _ _)
  obtain ⟨a, runs, done, raised, keeps, regs⟩ := leaves.refused
  refine ⟨a, runs, done, (regs _ ?_).trans off, raised, keeps .ident (by decide)⟩
  simp only [Reg.R3440_EN, logRegs, Reg.R1003_NEXT_SEQ, Reg.R1003_LOG_WRAPPED, Reg.R6020_CONFIRM_CYCLES, Reg.key, List.mem_cons,
    List.not_mem_nil, or_false]
  omega

theorem trackerEnable_stops : Does (.trackerEnable t false) s fun b a =>
    a.done = Code.STATUS_OK ∧ a.reg (Reg.R3440_EN t) = 0 ∧ a.reg (Reg.R3440_TRACK_STATE t) = 0 ∧
    b.KeepsRegs a [Reg.R3440_EN t, Reg.R3440_TRACK_STATE t] := by
  obtain ⟨turned, en, state, regs⟩ := s.found.trackerTurned_shows ht (en := 0) (by decide)
  have result := Dev.trackerEnable_off (d := s.found) ht
  generalize s.found.trackerTurned t 0 = e at *
  have keeps : s.found.Keeps (e.finish Code.STATUS_OK) [.od, .ident, .done] := (turned.mono (by decide)).finish _
  have leaves : Leaves (.trackerEnable t false) s (e.finish Code.STATUS_OK) := .cell (fun d => d.trackerEnable t false) up.passes result keeps
  exact leaves.quietly (keeps .event (by decide)) ⟨rfl, en, state, regs⟩

end

section
variable (live : s.Live)
include live

theorem trackerStep_idle (h : s.found.trackersWait.contains t = false) : Does (.trackerStep t) s fun b a => b.Keeps a [] := by
  have leaves : Leaves (.trackerStep t) s s.found :=
    .cell (l := []) (guard := fun d => d.liveIf (t < 32)) (fun d => d.trackerStep t) (live.passesIf ht) (Dev.trackerStep_idle h)
      (Dev.Keeps.refl _ _)
  exact leaves.unchanged

section
variable (on : s.found.reg (Reg.R3440_EN t) ≠ 0) (unbound : s.found.nat (Reg.R3440_TRACK_STATE t) ≠ 3)
  (unserved : (s.found.tracker t).served ≠ some s.found.clk.cycle64)
include on unbound unserved

theorem trackerStep_holds (none₀ : s.found.vendorEngine 0 = false) (none₁ : s.found.vendorEngine 1 = false) :
    Does (.trackerStep t) s fun b a =>
      a.reg (Reg.R3440_TRACK_STATE t) = 2 ∧ a.tracker t = { b.tracker t with served := some b.clk.cycle64, outside := 0 } ∧
      b.Keeps a [.od, .fresh, .ident] ∧ b.KeepsRegs a [Reg.R3440_TRACK_STATE t] := by
  have waits := (Dev.trackerWaits_iff ht).2 ⟨on, unbound, unserved⟩
  have result := Dev.trackerStep_holds waits none₀ none₁
  obtain ⟨served, tracker, regs⟩ := s.found.trackerServed_shows t
  generalize s.found.trackerServed t = e at *
  have keeps : s.found.Keeps (e.trackerHolds t) [.od, .fresh, .ident] :=
    ((served.mono (by decide)).set _ _).step (Dev.keeps_setTracker _ _ _)
  have leaves : Leaves (.trackerStep t) s (e.trackerHolds t) :=
    .cell (guard := fun d => d.liveIf (t < 32)) (fun d => d.trackerStep t) (live.passesIf ht) result keeps
  refine leaves.quietly (keeps .event (by decide)) ⟨?_, ?_, keeps, fun k hk => ?_⟩
  · rw [Dev.trackerHolds, Dev.reg_setTracker, Dev.reg_set_same, (odType_ofTracker ht).2]
    rfl
  · rw [Dev.trackerHolds, Dev.tracker_setTracker, tracker]
  · rw [Dev.trackerHolds, Dev.reg_setTracker, Dev.reg_set_other _ _ (by simpa using hk), regs]

theorem trackerStep_takes (engine : s.found.vendorEngine 0 = true)
    (moving : s.found.axState (s.found.nat (Reg.R3440_AXIS t)) = AxState.moving)
    (current : s.found.oldChannel (s.found.nat (Reg.R3440_AXIS t)) = false) (floor : s.found.reg (Reg.R3440_MIN_RMS t) = -2 ^ 31) :
    Does (.trackerStep t) s fun b a =>
      (b.InBand t (f32 (b.estimate : Int)) → a.reg (Reg.R3440_F_EST t) = (odType (Reg.R3440_F_EST t)).wrap b.estimate ∧
        a.reg (Reg.R3440_TRACK_STATE t) = 1 ∧ (a.tracker t).outside = 0) ∧
      (¬b.InBand t (f32 (b.estimate : Int)) → (b.tracker t).outside < 3 → a.reg (Reg.R3440_TRACK_STATE t) = 1 ∧
        (a.tracker t).outside = (b.tracker t).outside + 1 ∧ a.reg (Reg.R3440_F_EST t) = b.reg (Reg.R3440_F_EST t)) ∧
      (¬b.InBand t (f32 (b.estimate : Int)) → 3 ≤ (b.tracker t).outside → a.reg (Reg.R3440_TRACK_STATE t) = 3 ∧
        a.LastRaised Code.NOTCH_BOUND Kind.axis (b.nat (Reg.R3440_AXIS t))) := by
  have waits := (Dev.trackerWaits_iff ht).2 ⟨on, unbound, unserved⟩
  have result := Dev.trackerStep_takes waits engine moving current floor
  obtain ⟨served, tracker, regs⟩ := s.found.trackerServed_shows t
  generalize s.found.trackerServed t = e at *
  have takes := e.keeps_trackerTakes t s.found.estimate
  have band (f : Rat) : e.InBand t f ↔ s.found.InBand t f := by simp only [Dev.InBand, Dev.nat, regs]
  have outside : (e.tracker t).outside = (s.found.tracker t).outside := by rw [tracker]
  have axis : e.nat (Reg.R3440_AXIS t) = s.found.nat (Reg.R3440_AXIS t) := by rw [Dev.nat, regs, ← Dev.nat]
  have keeps : s.found.Keeps (e.trackerTakes t s.found.estimate) [.od, .fresh, .ident, .log, .event] := (served.mono (by decide)).step takes
  have leaves : Leaves (.trackerStep t) s (e.trackerTakes t s.found.estimate) :=
    .cell (guard := fun d => d.liveIf (t < 32)) (fun d => d.trackerStep t) (live.passesIf ht) result keeps
  refine leaves.does fun pend vecs => ⟨fun inside => ?_, fun out few => ?_, fun out many => ?_⟩
  · exact e.trackerTakes_inside ht ((band _).2 inside)
  · obtain ⟨state, count, kept⟩ := e.trackerTakes_outside ht (mt (band _).1 out) (by rw [outside]; exact few)
    exact ⟨state, count.trans (by rw [outside]), kept.trans (regs _)⟩
  · obtain ⟨state, raised⟩ := e.trackerTakes_bound ht (mt (band _).1 out) (by rw [outside]; exact many)
    rw [axis] at raised
    exact ⟨state, raised.told _ _⟩

end

theorem trackerUpdate_asks (hn : s.found.nat (Reg.R3440_AXIS t) < 128) (due : s.found.UpdateDue t) : Does (.trackerUpdate t) s fun b a =>
    (∃ p, mget none a.pend (Reg.AX9_COMMIT_CYCLE (b.nat (Reg.R3440_AXIS t))) = some p ∧ p.cycle = b.clk.cycle64 + 2 ∧ p.policy = 0 ∧
      p.mask = 2 ^ b.nat (Reg.R3440_LEVEL t) ∧ p.bump = 0 ∧ p.tracker = some t) ∧
    a.reg (Reg.AX9_COMMIT_STATUS (b.nat (Reg.R3440_AXIS t))) = Code.COMMIT_PENDING ∧
    a.bytes (Reg.AX9_INACTIVE_CUR (b.nat (Reg.R3440_AXIS t)) + b.nat (Reg.R3440_LEVEL t)) = b.notchImage t ∧
    b.Keeps a [.ph, .od, .dom, .gen, .pend, .ident] ∧ b.KeepsRegs a [Reg.AX9_COMMIT_STATUS (b.nat (Reg.R3440_AXIS t))] := by
  have keeps := s.found.keeps_notchAsked t
  have staged := s.found.keeps_notchStaged t
  have leaves : Leaves (.trackerUpdate t) s (s.found.notchAsked t) :=
    .cell (guard := fun d => d.liveIf (t < 32)) (fun d => d.trackerUpdate t) (live.passesIf ht) (Dev.trackerUpdate_due due) keeps
  have clk : (s.found.notchStaged t).clk = s.found.clk := staged .clk (by decide)
  refine leaves.quietly (keeps .event (by decide)) ⟨⟨s.found.notchCommit t, mget_mset_same _ _ _ _, by rw [Dev.notchCommit, clk], rfl, rfl, rfl, rfl⟩,
    ?_, ?_, keeps, fun k hk => ?_⟩
  · rw [Dev.notchAsked, Dev.reg_set_same, odType_commitStatus hn]
    rfl
  · exact (Dev.bytes_setBytes _ _ _ _).trans (if_pos rfl)
  · rw [Dev.notchAsked, Dev.reg_set_other _ _ (by simpa using hk)]
    exact Dev.reg_congr (staged .od (by decide)) k

theorem trackerUpdate_otherTick (tick : s.found.clk.tick ≠ 6) : Does (.trackerUpdate t) s fun b a => b.Keeps a [.ph] := by
  have keeps := s.found.keeps_at 24000
  have leaves : Leaves (.trackerUpdate t) s (s.found.at 24000) :=
    .cell (guard := fun d => d.liveIf (t < 32)) (fun d => d.trackerUpdate t) (live.passesIf ht) (if_neg fun h => tick h.2.2.1) keeps
  exact leaves.quietly rfl keeps

end
end

/-- Settles O21: a job's start and end, and a tracker's switch, step and update each depend on what R206 to R214 name and write their own
entries. -/
theorem jobsAndTrackers : Obligations.JobsAndTrackers := by
  unfold Obligations.JobsAndTrackers
  refine ⟨fun j e s hj he => ⟨fun up idle still => jobRun_queues hj up idle still, fun up busy => jobRun_refused hj up busy,
      fun live served head engine idle stopped => jobStart_starts hj live he served head engine idle stopped,
      fun live served head engine idle runs => jobStart_fails hj live he served head engine idle runs,
      fun live h => jobStart_waits hj live he h, fun live running kind enough => jobComplete_responds hj live running kind enough,
      fun live running few => jobComplete_short hj live running few⟩,
    fun t s ht => ?_⟩
  have good : s.found.TrackerOk t ↔ (s.found.nat (Reg.R3440_SEC t) <
      (Bank.parse (s.found.image (s.found.nat (Reg.R3440_AXIS t)) (s.found.nat (Reg.R3440_LEVEL t)))).nPost ∧ _) :=
    and_congr_right' (and_congr_right' (and_congr_right' (and_congr_right' (and_congr_right' Dev.sectionShared_iff))))
  refine ⟨fun up off h => trackerEnable_starts ht up off (good.2 h), fun up off h => trackerEnable_refused ht up off (mt good.1 h),
    fun up => trackerEnable_stops ht up,
    fun live on unbound unserved none₀ none₁ => trackerStep_holds ht live on unbound unserved none₀ none₁,
    fun live on unbound unserved engine moving current floor => ?_,
    fun live on served => trackerStep_idle ht live ?_, fun live off => trackerStep_idle ht live ?_,
    fun live hn _ on state tick low high far rested free => ?_,
    fun live tick => trackerUpdate_otherTick ht live tick⟩
  · obtain ⟨a, runs, inside, few, many⟩ := trackerStep_takes ht live on unbound unserved engine moving current floor
    exact ⟨a, runs, inside, few, many⟩
  · exact Bool.eq_false_iff.2 fun h => ((Dev.trackerWaits_iff ht).1 h).2.2 served
  · exact Bool.eq_false_iff.2 fun h => ((Dev.trackerWaits_iff ht).1 h).1 off
  · obtain ⟨a, runs, pending, status, image, keeps, regs⟩ :=
      trackerUpdate_asks ht live hn ⟨on, state, tick, ⟨low, high⟩, far, rested, free⟩
    rw [Dev.notchImage] at image
    exact ⟨a, runs, pending, status, image, keeps, regs⟩

end Sys2Proof.Machine
end

section
/-! # Motion commands: what a run writes of an axis (R98, R99, R132) -/

namespace Sys2Proof.Machine

/-! ## An axis after a change -/

@[simp] theorem Dev.axis_set (d : Dev) (k : Nat) (v : Int) (n : Nat) : (d.set k v).axis n = d.axis n := rfl
@[simp] theorem Dev.axis_finish (d : Dev) (c n : Nat) : (d.finish c).axis n = d.axis n := rfl
@[simp] theorem Dev.axis_told (d : Dev) (pend vecs : List Nat) (n : Nat) : (d.told pend vecs).axis n = d.axis n := rfl
theorem Dev.axis_modAxis_other (d : Dev) {n m : Nat} (f : Axis → Axis) (h : m ≠ n) : (d.modAxis n f).axis m = d.axis m :=
  mget_mset_other _ _ _ _ h
@[simp] theorem Dev.reg_modAxis (d : Dev) (n : Nat) (f : Axis → Axis) (k : Nat) : (d.modAxis n f).reg k = d.reg k := rfl
@[simp] theorem Dev.nat_modAxis (d : Dev) (n : Nat) (f : Axis → Axis) (k : Nat) : (d.modAxis n f).nat k = d.nat k := rfl

theorem Dev.Keeps.axis {d e : Dev} {l : List Part} (h : d.Keeps e l) (n : Nat) (out : Part.axes ∉ l := by decide) : e.axis n = d.axis n := by
  have axes : e.axes = d.axes := h .axes out
  rw [Dev.axis, Dev.axis, axes]

theorem Dev.Keeps.modAxis {d e : Dev} {l : List Part} (h : d.Keeps e l) (n : Nat) (f : Axis → Axis) (within : Part.axes ∈ l := by decide) :
    d.Keeps (e.modAxis n f) l := h.step (e.keeps_modAxis n f) (by simpa using within)

/-- The entries of an axis and of the log that taking a command may write, beside those of its generator. -/
abbrev motionRegs (n : Nat) : List Nat := [Reg.AX5_FLAGS n, Reg.AX5_ACTIVE_CMD n, Reg.AX5_OVERSHOOT n, Reg.AX1_STATE n,
  Reg.AX5_TAKEN_SEQ n, Reg.AX5_CMD_STATUS n, Reg.AX11_HOME_STATE n, Reg.AX6_ENGAGED n, Reg.AX11_HOMED n] ++ logRegs

/-- The entries that plans are made from. -/
abbrev planRegs (n : Nat) : List Nat := [Reg.AX5_SETPOINT n, Reg.AX5_SET_VEL n, Reg.AX5_SET_ACC n, Reg.AX2_V_MAX n, Reg.AX2_A_MAX n,
  Reg.AX2_J_MAX n, Reg.AX3_EM_DEC n, Reg.AX3_EM_JERK n, Reg.AX11_HOME_POS n, Reg.AX11_METHOD n, Reg.AX11_V_CREEP n, Reg.AX11_V_SEARCH n,
  Reg.AX11_HOME_DIR n, Reg.AX12_HOME_SWITCH n, Reg.AX12_LIM_POS_IN n, Reg.AX12_LIM_NEG_IN n, Reg.AX12_HOME_IN n,
  Reg.AX12_INPUT_STATUS n, Reg.AX12_POLARITY n, Reg.AX11_LATCH_INPUT n]

theorem planRegs_apart {n k : Nat} (hn : n < 128) (hk : k ∈ planRegs n) : k ∉ motionRegs n := by
  have apart : ∀ n < 128, ∀ k ∈ planRegs n, k ∉ motionRegs n := by decide +kernel
  exact apart n hn k hk

theorem odType_ofMotion {n : Nat} (hn : n < 128) : odType (Reg.AX1_STATE n) = .u8 ∧ odType (Reg.AX5_FLAGS n) = .u16 ∧
    odType (Reg.AX5_ACTIVE_CMD n) = .u8 ∧ odType (Reg.AX5_CMD_STATUS n) = .u16 ∧ odType (Reg.AX11_HOME_STATE n) = .u8 ∧
    odType (Reg.AX6_ENGAGED n) = .bool ∧ odType (Reg.AX11_HOMED n) = .bool := by
  revert n
  decide +kernel

/-- From one device to the other only what taking a command may write of axis `n` has changed, its limits in force not among it. -/
structure Dev.Plans (n : Nat) (d e : Dev) : Prop where
  regs : d.KeepsRegs e (motionRegs n)
  others : ∀ m, m ≠ n → e.axis m = d.axis m
  limits : (e.axis n).limKeep = (d.axis n).limKeep

section
variable {d e f : Dev} {n : Nat}

theorem Dev.Plans.refl (n : Nat) (d : Dev) : d.Plans n d := ⟨fun _ _ => rfl, fun _ _ => rfl, rfl⟩

theorem Dev.Plans.trans (h : d.Plans n e) (g : e.Plans n f) : d.Plans n f :=
  ⟨fun k hk => (g.regs k hk).trans (h.regs k hk), fun m hm => (g.others m hm).trans (h.others m hm), g.limits.trans h.limits⟩

theorem Dev.Plans.set (h : d.Plans n e) {k : Nat} (v : Int) (own : k ∈ motionRegs n := by simp) : d.Plans n (e.set k v) :=
  ⟨fun j hj => (Dev.reg_set_other _ _ (by rintro rfl; exact hj own)).trans (h.regs j hj), h.others, h.limits⟩

theorem Dev.Plans.finish (h : d.Plans n e) (c : Nat) : d.Plans n (e.finish c) := ⟨h.regs, h.others, h.limits⟩

theorem Dev.Plans.modAxis (h : d.Plans n e) {f : Axis → Axis} (keeps : ∀ a, (f a).limKeep = a.limKeep := by intro; rfl) :
    d.Plans n (e.modAxis n f) :=
  ⟨h.regs, fun m hm => (Dev.axis_modAxis_other _ _ hm).trans (h.others m hm), by rw [Dev.axis_modAxis, keeps, h.limits]⟩

theorem Dev.Plans.raise (h : d.Plans n e) (code kind subject reaction detail : Nat) : d.Plans n (e.raise code kind subject reaction detail) := by
  have raised := e.keeps_raise code kind subject reaction detail
  refine ⟨fun k hk => (Dev.reg_raise _ _ _ _ _ _ fun log => hk (List.mem_append_right _ log)).trans (h.regs k hk), fun m hm => ?_, ?_⟩
  · rw [raised.axis m, h.others m hm]
  · rw [raised.axis n, h.limits]

theorem Dev.Plans.when (h : d.Plans n e) (c : Bool) {f : Dev → Dev} (g : e.Plans n (f e)) : d.Plans n (e.when c f) := by
  cases c
  · exact h
  · exact h.trans g

/-! ## Plans are made alike -/

section
variable (h : d.Plans n e) (hn : n < 128)
include h hn

theorem Dev.Plans.reg {k : Nat} (hk : k ∈ planRegs n := by simp) : e.reg k = d.reg k := h.regs k (planRegs_apart hn hk)

theorem Dev.Plans.nat {k : Nat} (hk : k ∈ planRegs n := by simp) : e.nat k = d.nat k := by rw [Dev.nat, Dev.nat, h.reg hn hk]

theorem Dev.Plans.limit {k : Nat} (hk : k ∈ planRegs n := by simp) : e.limit n k = d.limit n k := by
  rw [Dev.limit, Dev.limit, h.limits, h.reg hn hk]

theorem Dev.Plans.setpoint : e.setpoint n = d.setpoint n := h.reg hn
theorem Dev.Plans.setVel : e.setVel n = d.setVel n := congrArg fix (h.reg hn)
theorem Dev.Plans.setAcc : e.setAcc n = d.setAcc n := congrArg fix (h.reg hn)
theorem Dev.Plans.vMax : e.vMax n = d.vMax n := congrArg fix (h.limit hn)
theorem Dev.Plans.aMax : e.aMax n = d.aMax n := congrArg fix (h.limit hn)
theorem Dev.Plans.jMax : e.jMax n = d.jMax n := congrArg jerkOf (h.limit hn)
theorem Dev.Plans.effJerk (jerk : Int) : e.effJerk n jerk = d.effJerk n jerk := by rw [Dev.effJerk, Dev.effJerk, h.jMax hn]
theorem Dev.Plans.atRest : e.atRest n = d.atRest n := by rw [Dev.atRest, Dev.atRest, h.reg hn, h.reg hn]

end

/-! ## A command begins and completes -/

/-- An axis that takes a command. -/
def Axis.commanded (a : Axis) (h : Held) : Axis := { a with command := some h, baseTgt := none, gear := {} }

theorem Dev.newCommand_eq (d : Dev) (n : Nat) (h : Held) :
    d.newCommand n h = ((d.dropFlags n Flag.ofCommand).set (Reg.AX5_ACTIVE_CMD n) h.code).modAxis n (·.commanded h) := rfl

theorem Dev.keeps_newCommand (d : Dev) (n : Nat) (h : Held) : d.Keeps (d.newCommand n h) [.od, .axes] :=
  ((((Dev.Keeps.refl d _).set _ _).set _ _).modAxis _ _)

theorem Dev.plans_newCommand (d : Dev) (n : Nat) (h : Held) : d.Plans n (d.newCommand n h) :=
  (((Dev.Plans.refl n d).set _).set _).modAxis

theorem Dev.newCommand_shows (d : Dev) (hn : n < 128) (h : Held) (code : h.code < 2 ^ 8) :
    (d.newCommand n h).axis n = (d.axis n).commanded h ∧ (d.newCommand n h).nat (Reg.AX5_ACTIVE_CMD n) = h.code ∧
    d.KeepsRegs (d.newCommand n h) [Reg.AX5_FLAGS n, Reg.AX5_ACTIVE_CMD n] := by
  rw [Dev.newCommand_eq]
  refine ⟨Dev.axis_modAxis _ _ _, ?_, fun k hk => ?_⟩
  · rw [Dev.nat_modAxis, Dev.nat, Dev.reg_set_same, (odType_ofMotion hn).2.2.1, OdType.toNat_wrap_u8 code]
  · simp only [List.mem_cons, List.not_mem_nil, or_false, not_or] at hk
    rw [Dev.reg_modAxis, Dev.reg_set_other _ _ hk.2]
    exact Dev.reg_set_other _ _ hk.1

/-- What a command leaves of its answer. -/
def Dev.Answered (d : Dev) (n seq code : Nat) : Prop :=
  d.done = code ∧ d.nat (Reg.AX5_CMD_STATUS n) = code ∧ d.reg (Reg.AX5_TAKEN_SEQ n) = (odType (Reg.AX5_TAKEN_SEQ n)).wrap seq

theorem Dev.commandDone_answered (d : Dev) (hn : n < 128) (seq : Nat) {code : Nat} (fits : code < 2 ^ 16) :
    (d.commandDone n seq code).Answered n seq code := by
  refine ⟨rfl, ?_, ?_⟩
  · rw [Dev.commandDone, Dev.nat, Dev.reg_finish, Dev.reg_set_same, (odType_ofMotion hn).2.2.2.1, OdType.toNat_wrap_u16 fits]
  · rw [Dev.commandDone, Dev.reg_finish, Dev.reg_set_other _ _ (by simp), Dev.reg_set_same]

theorem Dev.keeps_commandDone (d : Dev) (n seq code : Nat) : d.Keeps (d.commandDone n seq code) [.od, .done] :=
  (((Dev.Keeps.refl d _).set _ _).set _ _).finish _

theorem Dev.plans_commandDone (d : Dev) (n seq code : Nat) : d.Plans n (d.commandDone n seq code) :=
  (((Dev.Plans.refl n d).set _).set _).finish _

theorem Dev.regs_commandDone (d : Dev) (n seq code : Nat) :
    d.KeepsRegs (d.commandDone n seq code) [Reg.AX5_TAKEN_SEQ n, Reg.AX5_CMD_STATUS n] := by
  intro k hk
  simp only [List.mem_cons, List.not_mem_nil, or_false, not_or] at hk
  rw [Dev.commandDone, Dev.reg_finish, Dev.reg_set_other _ _ hk.2, Dev.reg_set_other _ _ hk.1]

@[simp] theorem Dev.axis_commandDone (d : Dev) (n seq code m : Nat) : (d.commandDone n seq code).axis m = d.axis m := rfl

/-! ## A motion begins (R96) -/

/-- The state of an axis whose motion begins. -/
abbrev motionState (st : Nat) : Nat := if st = AxState.test then AxState.test else AxState.moving

def Axis.begun (a : Axis) : Axis := { a with stopWhy := .none, softStop := false }

theorem Dev.beginMotion_shows (d : Dev) (hn : n < 128) : (d.beginMotion n).axis n = (d.axis n).begun ∧
    (d.beginMotion n).axState n = motionState (d.axState n) ∧ d.KeepsRegs (d.beginMotion n) [Reg.AX1_STATE n] ∧
    d.Keeps (d.beginMotion n) [.od, .axes] ∧ d.Plans n (d.beginMotion n) := by
  have keeps := (d.keeps_modAxis n (·.begun)).mono (m := [.od, .axes]) (by decide)
  have plans : d.Plans n (d.modAxis n (·.begun)) := (Dev.Plans.refl n d).modAxis
  by_cases test : d.axState n = AxState.test
  · have e : d.beginMotion n = d.modAxis n (·.begun) := if_pos test
    rw [e]
    exact ⟨Dev.axis_modAxis _ _ _, test.trans (if_pos test).symm, fun _ _ => rfl, keeps, plans⟩
  · have e : d.beginMotion n = (d.modAxis n (·.begun)).setAxState n AxState.moving := if_neg test
    rw [e]
    refine ⟨Dev.axis_modAxis _ _ _, ?_, fun k hk => Dev.reg_set_other _ _ (by simpa using hk), keeps.set _ _, plans.set _⟩
    rw [Dev.axState, Dev.setAxState, Dev.nat, Dev.reg_set_same, (odType_ofMotion hn).1, motionState, if_neg test]
    rfl

/-! ## Starting a plan -/

/-- An axis on a plan from its beginning. -/
def Axis.planned (a : Axis) (p : Plan) : Axis :=
  { a with plan := some p, planT := 0, motion := .plan, replan := false, rampAt := a.rampAt, rampRaw := a.rampRaw, rampBy := 0 }

theorem Dev.startPlan_plan (d : Dev) (n : Nat) (p : Plan) : d.startPlan n .plan p = d.modAxis n (·.planned p) := rfl

end
end Sys2Proof.Machine
end

section
/-! # MOVE_ABS, MOVE_REL and VELOCITY taken (R99, R101 to R104, R132) -/

namespace Sys2Proof.Machine

section
variable {d : Dev} {n : Nat} {h : Held} {target : Int}

/-- The plan of a move to a target from the present state (R104). -/
def Dev.movePlanned (d : Dev) (n : Nat) (h : Held) (target : Int) : MovePlan :=
  movePlan (fix (target - d.setpoint n)) (d.setVel n) (d.setAcc n) (clipMag h.vel (d.vMax n)).1 (clipMag h.acc (d.aMax n)).1 (d.effJerk n h.jerk)

/-- The plan that an axis follows to a target. -/
def Dev.planTo (d : Dev) (n : Nat) (h : Held) (target : Int) : Plan :=
  { p0 := d.setpoint n, v0 := d.setVel n, parts := (d.movePlanned n h target).parts, final := some target }

theorem Dev.Plans.planTo {e : Dev} (p : d.Plans n e) (hn : n < 128) : e.planTo n h target = d.planTo n h target := by
  simp only [Dev.planTo, Dev.movePlanned, p.setpoint hn, p.setVel hn, p.setAcc hn, p.vMax hn, p.aMax hn, p.effJerk hn]

/-- An axis on its way to a target. -/
def Axis.targeted (a : Axis) (p : Plan) (target : Int) : Axis := { a.planned p with baseTgt := some target }

/-- The plan of a move begun. -/
def Dev.moveStarted (d : Dev) (n : Nat) (h : Held) (target : Int) : Dev :=
  ((d.startPlan n .plan (d.planTo n h target)).modAxis n fun a => { a with baseTgt := some target }).when
    ((clipMag h.vel (d.vMax n)).2 || (clipMag h.acc (d.aMax n)).2) fun d => d.addFlags n Flag.clipped

theorem Dev.planMove_eq (d : Dev) (n : Nat) (h : Held) (target : Int) : d.planMove n h target =
    if (d.movePlanned n h target).past = 0 then d.moveStarted n h target
    else (((d.moveStarted n h target).addFlags n Flag.overshoot).set (Reg.AX5_OVERSHOOT n) (toFix (d.movePlanned n h target).past)).raise
      Code.OVERSHOOT_PLANNED Kind.axis n 0 (toU 64 (toFix (d.movePlanned n h target).past)) := rfl

theorem Dev.moveStarted_shows (d : Dev) (n : Nat) (h : Held) (target : Int) :
    (d.moveStarted n h target).axis n = (d.axis n).targeted (d.planTo n h target) target ∧ d.Plans n (d.moveStarted n h target) ∧
    d.KeepsRegs (d.moveStarted n h target) [Reg.AX5_FLAGS n] ∧ d.Keeps (d.moveStarted n h target) [.od, .axes] := by
  unfold Dev.moveStarted
  generalize ((clipMag h.vel (d.vMax n)).2 || (clipMag h.acc (d.aMax n)).2) = c
  refine ⟨?_, ((Dev.Plans.refl n d).modAxis.modAxis).when c ((Dev.Plans.refl n _).set _),
    fun k hk => (Dev.reg_when_set _ _ _ (by simpa using hk)).trans rfl,
    (((Dev.Keeps.refl d _).modAxis _ _).modAxis _ _).cond _ _ ((Dev.keeps_set _ _ _).mono (by decide))⟩
  have flags : ∀ f : Dev, (f.when c fun d => d.addFlags n Flag.clipped).axis n = f.axis n := fun f => by cases c <;> rfl
  rw [flags, Dev.axis_modAxis, Dev.startPlan_plan, Dev.axis_modAxis]
  rfl

theorem Dev.planMove_shows (d : Dev) (n : Nat) (h : Held) (target : Int) :
    (d.planMove n h target).axis n = (d.axis n).targeted (d.planTo n h target) target ∧ d.Plans n (d.planMove n h target) ∧
    d.KeepsRegs (d.planMove n h target) (Reg.AX5_FLAGS n :: Reg.AX5_OVERSHOOT n :: logRegs) ∧
    d.Keeps (d.planMove n h target) [.od, .axes, .log, .event] := by
  obtain ⟨axis, plans, regs, keeps⟩ := d.moveStarted_shows n h target
  rw [Dev.planMove_eq]
  generalize d.moveStarted n h target = e at *
  split_ifs
  · exact ⟨axis, plans, fun k hk => regs k fun same => hk (by simp [List.mem_singleton.1 same]), keeps.mono (by decide)⟩
  · refine ⟨?_, ((plans.set _).set _).raise _ _ _ _ _, fun k hk => ?_, (((keeps.mono (by decide)).set _ _).set _ _).raise _ _ _ _ _⟩
    · rw [(Dev.keeps_raise _ _ _ _ _ _).axis n]
      exact axis
    · obtain ⟨flags, rest⟩ := not_or.1 (mt List.mem_cons.2 hk)
      obtain ⟨over_, log⟩ := not_or.1 (mt List.mem_cons.2 rest)
      rw [Dev.reg_raise _ _ _ _ _ _ log, Dev.reg_set_other _ _ over_]
      exact (Dev.reg_set_other _ _ flags).trans (regs k (by simpa using flags))

/-! ## A move as the run takes it -/

theorem Dev.takeMove_beyond (soft : d.softOn n = true) (outside : d.insideSoft n target = false) :
    d.takeMove n h target = d.commandRefused n h Code.TARGET_BEYOND_LIMIT := if_pos (by rw [soft, outside]; rfl)

section
variable (hn : n < 128) (within : d.softOn n = false ∨ d.insideSoft n target = true)
include hn within

theorem Dev.takeMove_moves (away : ¬(d.atRest n = true ∧ target = d.setpoint n)) :
    d.takeMove n h target = (((d.newCommand n h).planMove n h target).beginMotion n).commandDone n h.seq Code.STATUS_OK := by
  have inside : ¬(d.softOn n && !d.insideSoft n target) = true := by
    rcases within with soft | inside
    · simp [soft]
    · simp [inside]
  have plans := d.plans_newCommand n h
  refine (if_neg inside).trans (if_neg ?_)
  rw [plans.atRest hn, plans.setpoint hn]
  exact away

/-- An axis that stands on its target. -/
def Axis.arrived (a : Axis) : Axis := { a with plan := none, motion := .rest, stopWhy := .none, softStop := false }

/-- The device when an axis takes a move to where it stands, before the answer. -/
def Dev.arrived (d : Dev) (n : Nat) (h : Held) : Dev :=
  ((((d.newCommand n h).modAxis n (·.arrived)).set (Reg.AX5_ACTIVE_CMD n) 0).addFlags n Flag.inTarget).when
    ((((d.newCommand n h).modAxis n (·.arrived)).set (Reg.AX5_ACTIVE_CMD n) 0 |>.addFlags n Flag.inTarget).axState n != AxState.test)
    fun d => d.setAxState n AxState.enabled

theorem Dev.takeMove_arrived (rest : d.atRest n = true) (there : target = d.setpoint n) :
    d.takeMove n h target = (d.arrived n h).commandDone n h.seq Code.STATUS_OK := by
  have inside : ¬(d.softOn n && !d.insideSoft n target) = true := by
    rcases within with soft | inside
    · simp [soft]
    · simp [inside]
  have plans := d.plans_newCommand n h
  refine (if_neg inside).trans (if_pos ?_)
  rw [plans.atRest hn, plans.setpoint hn]
  exact ⟨rest, there⟩

end

theorem moveRegs_apart {n : Nat} (hn : n < 128) : Reg.AX5_ACTIVE_CMD n ∉ Reg.AX5_FLAGS n :: Reg.AX5_OVERSHOOT n :: logRegs ∧
    Reg.AX1_STATE n ∉ Reg.AX5_FLAGS n :: Reg.AX5_OVERSHOOT n :: logRegs ∧ Reg.AX1_STATE n ∉ [Reg.AX5_FLAGS n, Reg.AX5_ACTIVE_CMD n] ∧
    Reg.AX5_ACTIVE_CMD n ∉ [Reg.AX1_STATE n] ∧ Reg.AX1_STATE n ∉ [Reg.AX5_TAKEN_SEQ n, Reg.AX5_CMD_STATUS n] := by
  revert n
  decide +kernel

/-- What a move that starts shows. -/
theorem Dev.takeMove_moves_shows (d : Dev) (hn : n < 128) (h : Held) (target : Int) (code : h.code < 2 ^ 8) {e : Dev}
    (made : e = (((d.newCommand n h).planMove n h target).beginMotion n).commandDone n h.seq Code.STATUS_OK) :
    e.Answered n h.seq Code.STATUS_OK ∧ e.nat (Reg.AX5_ACTIVE_CMD n) = h.code ∧ (∀ m, m ≠ n → e.axis m = d.axis m) ∧
    e.axState n = motionState (d.axState n) ∧
    e.axis n = (((d.axis n).commanded h).targeted (d.planTo n h target) target).begun ∧
    d.Keeps e [.od, .axes, .log, .event, .done] := by
  obtain ⟨commanded, active, fresh⟩ := d.newCommand_shows hn h code
  have plans := d.plans_newCommand n h
  have kept := d.keeps_newCommand n h
  generalize d.newCommand n h = d₁ at *
  obtain ⟨axis, plans', regs, kept'⟩ := d₁.planMove_shows n h target
  rw [commanded, plans.planTo hn] at axis
  generalize d₁.planMove n h target = d₂ at *
  obtain ⟨begun, state, regs', kept'', plans''⟩ := d₂.beginMotion_shows hn
  rw [axis] at begun
  generalize d₂.beginMotion n = d₃ at *
  have done := d₃.regs_commandDone n h.seq Code.STATUS_OK
  have kept₃ := d₃.keeps_commandDone n h.seq Code.STATUS_OK
  have answered := d₃.commandDone_answered hn h.seq (code := Code.STATUS_OK) (by decide)
  rw [← made] at done kept₃ answered
  obtain ⟨low₀, low₁, low₂, low₃, low₄⟩ := moveRegs_apart hn
  refine ⟨answered, ?_, fun m hm => ?_, ?_, ?_, (((kept.mono (by decide)).step kept').step kept'').step kept₃⟩
  · rw [Dev.nat, done _ (by simp), regs' _ low₃, regs _ low₀]
    exact active
  · rw [kept₃.axis m, plans''.others m hm, plans'.others m hm, plans.others m hm]
  · rw [Dev.axState, Dev.nat, done _ low₄, ← Dev.nat, ← Dev.axState, state, Dev.axState, Dev.nat, regs _ low₁, fresh _ low₂, ← Dev.nat, ← Dev.axState]
  · rw [kept₃.axis n, begun]

/-- What a move to where the axis stands shows. -/
theorem Dev.takeMove_arrived_shows (d : Dev) (hn : n < 128) (h : Held) (code : h.code < 2 ^ 8) {e : Dev}
    (made : e = (d.arrived n h).commandDone n h.seq Code.STATUS_OK) :
    e.Answered n h.seq Code.STATUS_OK ∧ e.nat (Reg.AX5_ACTIVE_CMD n) = 0 ∧ (∀ m, m ≠ n → e.axis m = d.axis m) ∧
    e.bit (Reg.AX5_FLAGS n) 0 = true ∧ e.axis n = ((d.axis n).commanded h).arrived ∧
    e.axState n = (if d.axState n = AxState.test then AxState.test else AxState.enabled) ∧ d.Keeps e [.od, .axes, .done] := by
  obtain ⟨tState, tFlags, tActive, -⟩ := odType_ofMotion hn
  obtain ⟨commanded, -, fresh⟩ := d.newCommand_shows hn h code
  have plans := d.plans_newCommand n h
  have kept := d.keeps_newCommand n h
  rw [Dev.arrived] at made
  generalize d.newCommand n h = d₁ at *
  obtain ⟨d₂, rested⟩ : ∃ d₂, d₂ = ((d₁.modAxis n (·.arrived)).set (Reg.AX5_ACTIVE_CMD n) 0).addFlags n Flag.inTarget := ⟨_, rfl⟩
  rw [← rested] at made
  obtain ⟨low₀, low₁, low₂, low₃, low₄⟩ := moveRegs_apart hn
  have stateKept : d₂.axState n = d.axState n := by
    rw [rested, Dev.axState, Dev.nat, Dev.addFlags, Dev.orBits, Dev.reg_set_other _ _ (fun h => low₂ (by simp [h])),
      Dev.reg_set_other _ _ (fun h => low₂ (by simp [h])), Dev.reg_modAxis, fresh _ low₂, ← Dev.nat, ← Dev.axState]
  have axis : ∀ m, d₂.axis m = (d₁.modAxis n (·.arrived)).axis m := fun m => by rw [rested]; rfl
  have flag : d₂.bit (Reg.AX5_FLAGS n) 0 = true := by
    rw [rested, Dev.addFlags, Dev.bit_orBits _ tFlags _ (by decide)]
    simp
  have active : d₂.nat (Reg.AX5_ACTIVE_CMD n) = 0 := by
    rw [rested, Dev.nat, Dev.addFlags, Dev.orBits, Dev.reg_set_other _ _ (by simp), Dev.reg_set_same, tActive]
    rfl
  have kept₂ : d₁.Keeps d₂ [.od, .axes] := by
    rw [rested]
    exact (((Dev.Keeps.refl d₁ _).modAxis _ _).set _ _).set _ _
  clear rested
  obtain ⟨d₃, enabled⟩ : ∃ d₃, d₃ = d₂.when (d₂.axState n != AxState.test) fun d => d.setAxState n AxState.enabled := ⟨_, rfl⟩
  rw [← enabled] at made
  have kept₃ : d₂.Keeps d₃ [.od] := by rw [enabled]; exact .when _ _ (Dev.keeps_set _ _ _)
  have regs₃ : d₂.KeepsRegs d₃ [Reg.AX1_STATE n] := fun k hk => by
    rw [enabled]
    exact Dev.reg_when_set _ _ _ (by simpa using hk)
  have state₃ : d₃.axState n = if d.axState n = AxState.test then AxState.test else AxState.enabled := by
    rw [enabled, stateKept]
    by_cases test : d.axState n = AxState.test
    · simp [Dev.when, test, stateKept]
    · rw [if_neg test, Dev.when, if_pos (by simpa using test), Dev.axState, Dev.setAxState, Dev.nat, Dev.reg_set_same, tState]
      rfl
  have done := d₃.regs_commandDone n h.seq Code.STATUS_OK
  have kept₄ := d₃.keeps_commandDone n h.seq Code.STATUS_OK
  have answered := d₃.commandDone_answered hn h.seq (code := Code.STATUS_OK) (by decide)
  rw [← made] at done kept₄ answered
  have flagsApart : Reg.AX5_FLAGS n ∉ [Reg.AX1_STATE n] := fun h => low₁ (by simp [List.mem_singleton.1 h])
  refine ⟨answered, ?_, fun m hm => ?_, ?_, ?_, ?_, ((((kept.mono (by decide)).step kept₂).step kept₃).step kept₄)⟩
  · rw [Dev.nat, done _ (by simp), regs₃ _ low₃]
    exact active
  · rw [kept₄.axis m, kept₃.axis m, axis, Dev.axis_modAxis_other _ _ hm, plans.others m hm]
  · rw [Dev.bit, Dev.nat, done _ (by simp), regs₃ _ flagsApart]
    exact flag
  · rw [kept₄.axis n, kept₃.axis n, axis, Dev.axis_modAxis, commanded]
  · rw [Dev.axState, Dev.nat, done _ low₄]
    exact state₃

/-! ## VELOCITY (R99, R102) -/

/-- The plan of VELOCITY. -/
def Dev.velocityPlan (d : Dev) (n : Nat) (h : Held) : Plan :=
  { p0 := d.setpoint n, v0 := d.setVel n, final := none, tail := (clipVel h.vel (d.vMax n)).1,
    parts := velChange (d.setVel n) (d.setAcc n) (clipVel h.vel (d.vMax n)).1 (clipMag h.acc (d.aMax n)).1 (d.effJerk n h.jerk) }

theorem Dev.Plans.velocityPlan {e : Dev} (p : d.Plans n e) (hn : n < 128) : e.velocityPlan n h = d.velocityPlan n h := by
  simp only [Dev.velocityPlan, p.setpoint hn, p.setVel hn, p.setAcc hn, p.vMax hn, p.aMax hn, p.effJerk hn]

theorem Dev.planVelocity_shows (d : Dev) (n : Nat) (h : Held) : (d.planVelocity n h).axis n = (d.axis n).planned (d.velocityPlan n h) ∧
    d.Plans n (d.planVelocity n h) ∧ d.KeepsRegs (d.planVelocity n h) [Reg.AX5_FLAGS n] ∧ d.Keeps (d.planVelocity n h) [.od, .axes] := by
  have planned : d.planVelocity n h = (d.modAxis n (·.planned (d.velocityPlan n h))).when
      ((clipVel h.vel (d.vMax n)).2 || (clipMag h.acc (d.aMax n)).2) fun d => d.addFlags n Flag.clipped := rfl
  rw [planned]
  generalize ((clipVel h.vel (d.vMax n)).2 || (clipMag h.acc (d.aMax n)).2) = c
  refine ⟨?_, ((Dev.Plans.refl n d).modAxis).when c ((Dev.Plans.refl n _).set _),
    fun k hk => (Dev.reg_when_set _ _ _ (by simpa using hk)).trans rfl,
    ((Dev.Keeps.refl d _).modAxis _ _).cond _ _ ((Dev.keeps_set _ _ _).mono (by decide))⟩
  have flags : ∀ f : Dev, (f.when c fun d => d.addFlags n Flag.clipped).axis n = f.axis n := fun f => by cases c <;> rfl
  rw [flags, Dev.axis_modAxis]

theorem velocityRegs_apart {n : Nat} (hn : n < 128) : Reg.AX1_STATE n ≠ Reg.AX11_HOME_STATE n ∧ Reg.AX5_ACTIVE_CMD n ≠ Reg.AX11_HOME_STATE n ∧
    Reg.AX1_STATE n ∉ [Reg.AX5_FLAGS n] ∧ Reg.AX11_HOME_STATE n ∉ [Reg.AX5_FLAGS n, Reg.AX1_STATE n, Reg.AX5_TAKEN_SEQ n, Reg.AX5_CMD_STATUS n] := by
  revert n
  decide +kernel

theorem Dev.velocity_shows (d : Dev) (hn : n < 128) (h : Held) (code : h.code < 2 ^ 8) {e : Dev}
    (made : e = ((((d.newCommand n h).abandonHoming n).planVelocity n h).beginMotion n).commandDone n h.seq Code.STATUS_OK) :
    e.Answered n h.seq Code.STATUS_OK ∧ e.nat (Reg.AX5_ACTIVE_CMD n) = h.code ∧ (∀ m, m ≠ n → e.axis m = d.axis m) ∧
    e.axState n = motionState (d.axState n) ∧ e.axis n = (((d.axis n).commanded h).planned (d.velocityPlan n h)).begun ∧
    e.nat (Reg.AX11_HOME_STATE n) = 0 ∧ d.Keeps e [.od, .axes, .done] := by
  obtain ⟨low₀, low₁, low₂, low₃, low₄⟩ := moveRegs_apart hn
  obtain ⟨apart₀, apart₁, apart₂, apart₃⟩ := velocityRegs_apart hn
  obtain ⟨commanded, active, fresh⟩ := d.newCommand_shows hn h code
  have plans := (d.plans_newCommand n h).set (k := Reg.AX11_HOME_STATE n) 0
  have kept := (d.keeps_newCommand n h).set (Reg.AX11_HOME_STATE n) 0
  have idle : ((d.newCommand n h).abandonHoming n).nat (Reg.AX11_HOME_STATE n) = 0 := by
    rw [Dev.abandonHoming, Dev.nat, Dev.reg_set_same, (odType_ofMotion hn).2.2.2.2.1]
    rfl
  have state₁ : ((d.newCommand n h).abandonHoming n).reg (Reg.AX1_STATE n) = d.reg (Reg.AX1_STATE n) := by
    rw [Dev.abandonHoming, Dev.reg_set_other _ _ apart₀, fresh _ low₂]
  have active₁ : ((d.newCommand n h).abandonHoming n).nat (Reg.AX5_ACTIVE_CMD n) = h.code := by
    rw [Dev.abandonHoming, Dev.nat, Dev.reg_set_other _ _ apart₁]
    exact active
  have axis₁ : ((d.newCommand n h).abandonHoming n).axis n = (d.axis n).commanded h := by
    rw [Dev.abandonHoming, Dev.axis_set, commanded]
  change d.Plans n ((d.newCommand n h).abandonHoming n) at plans
  change d.Keeps ((d.newCommand n h).abandonHoming n) [.od, .axes] at kept
  clear commanded active fresh
  generalize (d.newCommand n h).abandonHoming n = d₁ at *
  obtain ⟨axis, plans', regs, kept'⟩ := d₁.planVelocity_shows n h
  rw [axis₁, plans.velocityPlan hn] at axis
  generalize d₁.planVelocity n h = d₂ at *
  obtain ⟨begun, state, regs', kept'', plans''⟩ := d₂.beginMotion_shows hn
  rw [axis] at begun
  generalize d₂.beginMotion n = d₃ at *
  have done := d₃.regs_commandDone n h.seq Code.STATUS_OK
  have kept₃ := d₃.keeps_commandDone n h.seq Code.STATUS_OK
  have answered := d₃.commandDone_answered hn h.seq (code := Code.STATUS_OK) (by decide)
  rw [← made] at done kept₃ answered
  simp only [List.mem_cons, List.not_mem_nil, or_false, not_or] at apart₃
  refine ⟨answered, ?_, fun m hm => ?_, ?_, ?_, ?_, (((kept.mono (by decide)).step kept').step kept'').step kept₃⟩
  · rw [Dev.nat, done _ (by simp), regs' _ low₃, regs _ (by simp)]
    exact active₁
  · rw [kept₃.axis m, plans''.others m hm, plans'.others m hm, plans.others m hm]
  · rw [Dev.axState, Dev.nat, done _ low₄, ← Dev.nat, ← Dev.axState, state, Dev.axState, Dev.nat, regs _ apart₂, state₁, ← Dev.nat, ← Dev.axState]
  · rw [kept₃.axis n, begun]
  · rw [Dev.nat, done _ (by simp [apart₃]), regs' _ (by simp [apart₃]), regs _ (by simp [apart₃])]
    exact idle

/-! ## Refusals -/

/-- A command refused with a code. -/
theorem refused_leaves {i : Instr} {s : State} {seq code : Nat} (hn : n < 128) (fits : code < 2 ^ 16)
    (leaves : Leaves i s ((s.found.raiseAxis code n).commandDone n seq code)) : Does i s fun b a =>
      a.done = code ∧ a.nat (Reg.AX5_CMD_STATUS n) = code ∧ a.LastRaised code Kind.axis n ∧ b.Keeps a (.done :: logParts) ∧
      b.KeepsRegs a (Reg.AX5_TAKEN_SEQ n :: Reg.AX5_CMD_STATUS n :: logRegs) := by
  obtain ⟨d, raised⟩ : ∃ d, d = s.found.raiseAxis code n := ⟨_, rfl⟩
  have last : d.LastRaised code Kind.axis n := by rw [raised]; exact Dev.lastRaised_raise _ _ _ _ _ _
  have kept : s.found.Keeps d [.od, .log, .event] := by rw [raised]; exact Dev.keeps_raise _ _ _ _ _ _
  have regs : s.found.KeepsRegs d logRegs := by rw [raised]; exact Dev.keepsRegs_raise _ _ _ _ _ _
  rw [← raised] at leaves
  have keeps' := d.keeps_commandDone n seq code
  obtain ⟨done, status, -⟩ := d.commandDone_answered hn seq fits
  have regs' := d.regs_commandDone n seq code
  generalize d.commandDone n seq code = e at *
  have keeps : s.found.Keeps e (.done :: logParts) := (kept.mono (by decide)).step keeps'
  have last' : e.LastRaised code Kind.axis n := last.of_keeps keeps'
  refine leaves.does fun pend vecs => ⟨done, status, last'.told _ _, keeps.told _ _, fun k hk => ?_⟩
  obtain ⟨seq', rest⟩ := not_or.1 (mt List.mem_cons.2 hk)
  obtain ⟨status', log⟩ := not_or.1 (mt List.mem_cons.2 rest)
  rw [Dev.reg_told, regs' k (by simp [seq', status']), regs k log]

end

/-! ## The commands -/

section
variable {s : State} {n : Nat} {i : Instr} {h : Held} (live : s.Live) (hn : n < 128)
include live hn

/-- A command that the axis accepts does what it takes. -/
theorem takeAt_leaves (runs : exec i s = s.answerCell fun d => d.liveIf (n < 128) fun d => d.takeAt n h) {e : Dev} (result : s.found.takeAt n h = e)
    {l : List Part} (keeps : s.found.Keeps e l) (within : ∀ p ∈ beyondCell, p ∉ l := by decide) : Leaves i s e :=
  .cell (guard := fun d => d.liveIf (n < 128)) (fun d => d.takeAt n h) (live.passesIf hn) result keeps within runs

/-- A command that the axis does not accept. -/
theorem takeAt_refused (runs : exec i s = s.answerCell fun d => d.liveIf (n < 128) fun d => d.takeAt n h)
    (no : s.found.accepts n h = false) : Does i s fun b a =>
      a.done = Code.COMMAND_REFUSED ∧ a.nat (Reg.AX5_CMD_STATUS n) = Code.COMMAND_REFUSED ∧
      a.LastRaised Code.COMMAND_REFUSED Kind.axis n ∧ b.Keeps a (.done :: logParts) ∧
      b.KeepsRegs a (Reg.AX5_TAKEN_SEQ n :: Reg.AX5_CMD_STATUS n :: logRegs) :=
  refused_leaves hn (by decide) <| takeAt_leaves live hn runs (l := [.od, .log, .event, .done]) (if_pos (by rw [no]; rfl))
    (((Dev.keeps_raise _ _ _ _ _ _).mono (by decide)).step (Dev.keeps_commandDone _ _ _ _))

section
variable {target : Int} (code : h.code < 2 ^ 8) (runs : exec i s = s.answerCell fun d => d.liveIf (n < 128) fun d => d.takeAt n h)
  (takes : s.found.takeAt n h = s.found.takeMove n h target)
include code runs takes

theorem move_moves (within : s.found.softOn n = false ∨ s.found.insideSoft n target = true)
    (away : ¬(s.found.atRest n = true ∧ target = s.found.setpoint n)) : Does i s fun b a =>
      a.Answered n h.seq Code.STATUS_OK ∧ a.nat (Reg.AX5_ACTIVE_CMD n) = h.code ∧ (∀ m, m ≠ n → a.axis m = b.axis m) ∧
      a.axState n = motionState (b.axState n) ∧ a.axis n = (((b.axis n).commanded h).targeted (b.planTo n h target) target).begun := by
  obtain ⟨e, made⟩ : ∃ e, e = (((s.found.newCommand n h).planMove n h target).beginMotion n).commandDone n h.seq Code.STATUS_OK := ⟨_, rfl⟩
  obtain ⟨answered, active, others, state, axis, keeps⟩ := s.found.takeMove_moves_shows hn h target code made
  have leaves := takeAt_leaves live hn runs (takes.trans ((Dev.takeMove_moves hn within away).trans made.symm)) keeps
  exact leaves.does fun pend vecs => ⟨answered, active, others, state, axis⟩

theorem move_arrived (within : s.found.softOn n = false ∨ s.found.insideSoft n target = true) (rest : s.found.atRest n = true)
    (there : target = s.found.setpoint n) : Does i s fun b a =>
      a.Answered n h.seq Code.STATUS_OK ∧ a.nat (Reg.AX5_ACTIVE_CMD n) = 0 ∧ (∀ m, m ≠ n → a.axis m = b.axis m) ∧
      a.bit (Reg.AX5_FLAGS n) 0 = true ∧ a.axis n = ((b.axis n).commanded h).arrived ∧
      a.axState n = (if b.axState n = AxState.test then AxState.test else AxState.enabled) ∧ b.Keeps a [.od, .axes, .done] := by
  obtain ⟨e, made⟩ : ∃ e, e = (s.found.arrived n h).commandDone n h.seq Code.STATUS_OK := ⟨_, rfl⟩
  obtain ⟨answered, active, others, flag, axis, state, keeps⟩ := s.found.takeMove_arrived_shows hn h code made
  have leaves := takeAt_leaves live hn runs (takes.trans ((Dev.takeMove_arrived hn within rest there).trans made.symm)) keeps
  exact leaves.quietly (keeps .event (by decide)) ⟨answered, active, others, flag, axis, state, keeps⟩

omit code in
theorem move_beyond (soft : s.found.softOn n = true) (outside : s.found.insideSoft n target = false) : Does i s fun b a =>
    a.done = Code.TARGET_BEYOND_LIMIT ∧ a.nat (Reg.AX5_CMD_STATUS n) = Code.TARGET_BEYOND_LIMIT ∧ a.axes = b.axes ∧
    a.LastRaised Code.TARGET_BEYOND_LIMIT Kind.axis n := by
  obtain ⟨a, ran, done, status, raised, keeps, -⟩ := refused_leaves hn (by decide) <|
    takeAt_leaves live hn runs (l := [.od, .log, .event, .done]) (takes.trans (Dev.takeMove_beyond soft outside))
      (((Dev.keeps_raise _ _ _ _ _ _).mono (by decide)).step (Dev.keeps_commandDone _ _ _ _))
  exact ⟨a, ran, done, status, keeps .axes (by decide), raised⟩

end
end

theorem Dev.takeAt_accepted {d : Dev} {n : Nat} {h : Held} (ok : d.accepts n h = true) : d.takeAt n h = match h.code with
    | 1 => d.takeMove n h h.target
    | 2 => d.takeMove n h (wrapBits 64 ((d.axis n).baseTgt.getD (d.setpoint n) + h.target))
    | 3 => ((((d.newCommand n h).abandonHoming n).planVelocity n h).beginMotion n).commandDone n h.seq Code.STATUS_OK
    | 6 => d.takeQuickStop n h
    | 7 => d.startHoming n h
    | 8 | 9 => d.takeTrack n h
    | _ => d.takeStop n h := (if_neg (by rw [ok]; decide)).trans rfl

theorem velocity_plans {s : State} {n : Nat} {p : MoveParams} (live : s.Live) (hn : n < 128) (ok : s.found.accepts n (commandOf p 3) = true) :
    Does (.velocity n p) s fun b a =>
      a.Answered n p.seq Code.STATUS_OK ∧ a.nat (Reg.AX5_ACTIVE_CMD n) = 3 ∧ (∀ m, m ≠ n → a.axis m = b.axis m) ∧
      a.axState n = motionState (b.axState n) ∧
      a.axis n = (((b.axis n).commanded (commandOf p 3)).planned (b.velocityPlan n (commandOf p 3))).begun ∧
      a.nat (Reg.AX11_HOME_STATE n) = 0 ∧ b.Keeps a [.od, .axes, .done] := by
  obtain ⟨e, made⟩ : ∃ e, e = ((((s.found.newCommand n (commandOf p 3)).abandonHoming n).planVelocity n (commandOf p 3)).beginMotion
    n).commandDone n p.seq Code.STATUS_OK := ⟨_, rfl⟩
  obtain ⟨answered, active, others, state, axis, homing, keeps⟩ := s.found.velocity_shows hn (commandOf p 3) (show 3 < 2 ^ 8 by decide) made
  have leaves : Leaves (.velocity n p) s e := takeAt_leaves live hn rfl ((Dev.takeAt_accepted ok).trans made.symm) keeps
  exact leaves.quietly (keeps .event (by decide)) ⟨answered, active, others, state, axis, homing, keeps⟩

/-- Settles O22: a move is refused beyond the soft limits, completes where the axis stands on its target, and else is planned from the
present state; VELOCITY is planned from it too. -/
theorem movesTaken : Obligations.MovesTaken := by
  unfold Obligations.MovesTaken
  intro n p s live hn d moving told abs
  have move (i : Instr) (code : Nat) (target : Int) (small : code < 2 ^ 8)
      (runs : exec i s = s.answerCell fun d => d.liveIf (n < 128) fun d => d.takeAt n (commandOf p code))
      (takes : d.accepts n (commandOf p code) = true → d.takeAt n (commandOf p code) = d.takeMove n (commandOf p code) target) :
      abs i code target := by
    intro ok
    refine ⟨fun within away => ?_, fun within rest there => ?_, fun soft outside => move_beyond live hn runs (takes ok) soft outside⟩
    · obtain ⟨a, ran, ⟨done, status, seq⟩, active, others, state, axis⟩ := move_moves live hn small runs (takes ok) within away
      exact ⟨a, ran, ⟨done, status, seq, active, others⟩, state, by rw [axis]; rfl, by rw [axis]; rfl, by rw [axis]; rfl, by rw [axis]; rfl⟩
    · obtain ⟨a, ran, ⟨done, status, seq⟩, active, others, flag, axis, state, keeps⟩ := move_arrived live hn small runs (takes ok) within rest there
      exact ⟨a, ran, ⟨done, status, seq, active, others⟩, flag, by rw [axis]; rfl, by rw [axis]; rfl, state, keeps⟩
  refine ⟨move _ 1 _ (by decide) rfl fun ok => Dev.takeAt_accepted ok, move _ 2 _ (by decide) rfl fun ok => Dev.takeAt_accepted ok,
    fun ok => ?_⟩
  obtain ⟨a, ran, ⟨done, status, seq⟩, active, others, state, axis, homing, keeps⟩ := velocity_plans live hn ok
  exact ⟨a, ran, ⟨done, status, seq, active, others⟩, state, by rw [axis]; rfl, by rw [axis]; rfl, homing, by rw [axis]; rfl, keeps⟩

end Sys2Proof.Machine
end

section
/-! # HOLD, STOP and QUICK_STOP taken (R98, R99, R102, R106) -/

namespace Sys2Proof.Machine

section
variable {d : Dev} {n : Nat} {h : Held}

/-- The entries a command that completes at once writes. -/
abbrev atOnceRegs (n : Nat) : List Nat := [Reg.AX5_TAKEN_SEQ n, Reg.AX5_CMD_STATUS n, Reg.AX5_FLAGS n]

/-- A command that completes at once ends the flags of the one before it. -/
theorem Dev.atOnce_shows (d : Dev) (hn : n < 128) (seq : Nat) {e : Dev} (made : e = (d.dropFlags n Flag.ofCommand).commandDone n seq Code.STATUS_OK) :
    e.Answered n seq Code.STATUS_OK ∧ e.nat (Reg.AX5_FLAGS n) &&& Flag.ofCommand = 0 ∧ d.Keeps e [.od, .done] ∧
    d.KeepsRegs e (atOnceRegs n) := by
  obtain ⟨f, dropped⟩ : ∃ f, f = d.dropFlags n Flag.ofCommand := ⟨_, rfl⟩
  rw [← dropped] at made
  have kept := f.keeps_commandDone n seq Code.STATUS_OK
  have regs := f.regs_commandDone n seq Code.STATUS_OK
  have answered := f.commandDone_answered hn seq (code := Code.STATUS_OK) (by decide)
  rw [← made] at kept regs answered
  have cleared : d.Keeps f [.od, .done] := by rw [dropped]; exact (d.keeps_set _ _).mono (by decide)
  refine ⟨answered, ?_, cleared.step kept, fun k hk => ?_⟩
  · have flags : e.nat (Reg.AX5_FLAGS n) = f.nat (Reg.AX5_FLAGS n) := by rw [Dev.nat, regs _ (by simp), ← Dev.nat]
    refine Nat.eq_of_testBit_eq fun i => ?_
    rw [Nat.testBit_and, Nat.zero_testBit, flags]
    by_cases hi : i < 16
    · have bit := d.bit_clearBits (odType_ofMotion hn).2.1 Flag.ofCommand hi
      change (d.dropFlags n Flag.ofCommand).bit _ i = _ at bit
      rw [← dropped, Dev.bit] at bit
      rw [bit]
      cases Nat.testBit Flag.ofCommand i <;> simp
    · rw [Nat.testBit_lt_two_pow (show Flag.ofCommand < 2 ^ i from lt_of_lt_of_le (by decide) (Nat.pow_le_pow_right (by decide) (not_lt.1 hi))),
        Bool.and_false]
  · simp only [List.mem_cons, List.not_mem_nil, or_false, not_or] at hk
    rw [regs k (by simp [hk]), dropped]
    exact Dev.reg_set_other _ _ hk.2.2

theorem Dev.takeStop_enabled (enabled : d.axState n = AxState.enabled) :
    d.takeStop n h = (d.dropFlags n Flag.ofCommand).commandDone n h.seq Code.STATUS_OK := if_pos enabled

/-! ## A stop from a motion -/

/-- The limits a stop is planned with: those of the axis for HOLD, those of the command for STOP. -/
def Dev.stopLimits (d : Dev) (n : Nat) (h : Held) : Rat × Option Rat :=
  if h.code = 4 then (d.aMax n, d.jMax n) else ((clipMag h.acc (d.aMax n)).1, d.effJerk n h.jerk)

/-- The stop of R102 from the present state. -/
def Dev.stopFrom (d : Dev) (n : Nat) (h : Held) : Plan :=
  stopPlan (d.setpoint n) (d.setVel n) (d.setAcc n) (d.stopLimits n h).1 (d.stopLimits n h).2

theorem Dev.Plans.stopFrom {e : Dev} (p : d.Plans n e) (hn : n < 128) : e.stopFrom n h = d.stopFrom n h := by
  simp only [Dev.stopFrom, Dev.stopLimits, p.setpoint hn, p.setVel hn, p.setAcc hn, p.aMax hn, p.jMax hn, p.effJerk hn]

theorem Dev.startStop_plain (free : (d.axis n).motion ≠ .ramp) (A : Rat) (J : Option Rat) :
    d.startStop n A J = d.modAxis n (·.planned (stopPlan (d.setpoint n) (d.setVel n) (d.setAcc n) A J)) := if_neg free

theorem Dev.planStop_shows (d : Dev) (n : Nat) (h : Held) (free : (d.axis n).motion ≠ .ramp) :
    (d.planStop n h).axis n = (d.axis n).planned (d.stopFrom n h) ∧ d.KeepsRegs (d.planStop n h) [Reg.AX5_FLAGS n] ∧
    d.Keeps (d.planStop n h) [.od, .axes] := by
  by_cases hold : h.code = 4
  · have limits : d.stopLimits n h = (d.aMax n, d.jMax n) := if_pos hold
    have result : d.planStop n h = d.modAxis n (·.planned (d.stopFrom n h)) := by
      rw [Dev.stopFrom, limits]
      exact (if_pos hold).trans (Dev.startStop_plain free _ _)
    rw [result]
    exact ⟨Dev.axis_modAxis _ _ _, fun _ _ => rfl, (Dev.Keeps.refl d _).modAxis _ _⟩
  · have limits : d.stopLimits n h = ((clipMag h.acc (d.aMax n)).1, d.effJerk n h.jerk) := if_neg hold
    have result : d.planStop n h = (d.modAxis n (·.planned (d.stopFrom n h))).when (clipMag h.acc (d.aMax n)).2 fun d =>
        d.addFlags n Flag.clipped := by
      rw [Dev.stopFrom, limits, ← Dev.startStop_plain free]
      exact if_neg hold
    rw [result]
    generalize (clipMag h.acc (d.aMax n)).2 = c
    refine ⟨?_, fun k hk => (Dev.reg_when_set _ _ _ (by simpa using hk)).trans rfl,
      ((Dev.Keeps.refl d _).modAxis _ _).cond _ _ ((Dev.keeps_set _ _ _).mono (by decide))⟩
    have flags : ∀ f : Dev, (f.when c fun d => d.addFlags n Flag.clipped).axis n = f.axis n := fun f => by cases c <;> rfl
    rw [flags, Dev.axis_modAxis]

/-- An axis that stops by command. -/
def Axis.stopped (a : Axis) : Axis := { a with stopWhy := .command, softStop := false }

/-- A stop by command, its axis moving or stopping. -/
theorem Dev.takeStop_shows (d : Dev) (hn : n < 128) (h : Held) (code : h.code < 2 ^ 8)
    (moves : d.axState n = AxState.moving ∨ d.axState n = AxState.stopping) (free : (d.axis n).motion ≠ .ramp) {e : Dev}
    (made : e = d.takeStop n h) : e.Answered n h.seq Code.STATUS_OK ∧ e.axState n = AxState.stopping ∧
    e.axis n = (((d.axis n).commanded h).planned (d.stopFrom n h)).stopped ∧ e.nat (Reg.AX11_HOME_STATE n) = 0 ∧
    d.Keeps e [.od, .axes, .done] := by
  obtain ⟨low₀, low₁, low₂, low₃, low₄⟩ := moveRegs_apart hn
  obtain ⟨apart₀, apart₁, apart₂, apart₃⟩ := velocityRegs_apart hn
  simp only [List.mem_cons, List.not_mem_nil, or_false, not_or] at apart₃
  obtain ⟨d₁, begun⟩ : ∃ d₁, d₁ = (d.newCommand n h).abandonHoming n := ⟨_, rfl⟩
  obtain ⟨d₂, planned⟩ : ∃ d₂, d₂ = d₁.planStop n h := ⟨_, rfl⟩
  obtain ⟨d₃, stops⟩ : ∃ d₃, d₃ = (d₂.setAxState n AxState.stopping).modAxis n (·.stopped) := ⟨_, rfl⟩
  obtain ⟨commanded, -, fresh⟩ := d.newCommand_shows hn h code
  have plans : d.Plans n d₁ := by rw [begun]; exact (d.plans_newCommand n h).set _
  have kept : d.Keeps d₁ [.od, .axes] := by rw [begun]; exact (d.keeps_newCommand n h).set _ _
  have axis₁ : d₁.axis n = (d.axis n).commanded h := by rw [begun, Dev.abandonHoming, Dev.axis_set, commanded]
  have home₁ : d₁.nat (Reg.AX11_HOME_STATE n) = 0 := by
    rw [begun, Dev.abandonHoming, Dev.nat, Dev.reg_set_same, (odType_ofMotion hn).2.2.2.2.1]
    rfl
  have state₁ : d₁.axState n = d.axState n := by
    rw [begun, Dev.axState, Dev.abandonHoming, Dev.nat, Dev.reg_set_other _ _ apart₀, fresh _ low₂, ← Dev.nat, ← Dev.axState]
  obtain ⟨axis₂, regs₂, kept₂⟩ := d₁.planStop_shows n h (by rw [axis₁]; exact free)
  rw [axis₁, plans.stopFrom hn, ← planned] at axis₂
  rw [← planned] at regs₂ kept₂
  have state₂ : d₂.axState n = d.axState n := by rw [Dev.axState, Dev.nat, regs₂ _ apart₂, ← Dev.nat, ← Dev.axState, state₁]
  have result : d.takeStop n h = d₃.commandDone n h.seq Code.STATUS_OK := by
    have moving : d.axState n ≠ AxState.enabled ∧ d.axState n ≠ AxState.test := by
      rcases moves with st | st <;> rw [st] <;> decide
    have going : (d₂.axState n != AxState.test) = true := by rw [state₂]; simpa using moving.2
    have stop : d₂.when (d₂.axState n != AxState.test) (fun d => (d.setAxState n AxState.stopping).modAxis n fun a =>
        { a with stopWhy := .command, softStop := false }) = d₃ := by rw [stops, going]; rfl
    rw [← stop, planned, begun]
    exact if_neg moving.1
  rw [result] at made
  have regs := d₃.regs_commandDone n h.seq Code.STATUS_OK
  have kept₄ := d₃.keeps_commandDone n h.seq Code.STATUS_OK
  have answered := d₃.commandDone_answered hn h.seq (code := Code.STATUS_OK) (by decide)
  rw [← made] at regs kept₄ answered
  have kept₃ : d₂.Keeps d₃ [.od, .axes] := by rw [stops]; exact ((Dev.Keeps.refl d₂ _).set _ _).modAxis _ _
  refine ⟨answered, ?_, ?_, ?_, (((kept.mono (by decide)).step kept₂).step kept₃).step kept₄⟩
  · rw [Dev.axState, Dev.nat, regs _ low₄, stops, Dev.reg_modAxis, Dev.setAxState, Dev.reg_set_same, (odType_ofMotion hn).1]
    rfl
  · rw [kept₄.axis n, stops, Dev.axis_modAxis, Dev.setAxState, Dev.axis_set, axis₂]
  · rw [Dev.nat, regs _ (by simp [apart₃]), stops, Dev.reg_modAxis, Dev.setAxState, Dev.reg_set_other _ _ apart₀.symm,
      regs₂ _ (by simp [apart₃]), ← Dev.nat, home₁]

/-! ## The emergency ramp -/

theorem Dev.emergencyRamp_ramps (d : Dev) (n : Nat) : ((d.emergencyRamp n).axis n).motion = .ramp := by
  by_cases ramp : (d.axis n).motion = .ramp
  · have same : d.emergencyRamp n = d := if_pos ramp
    rw [same, ramp]
  · have ramps : d.emergencyRamp n = ((d.freshStop n).startPlan n .ramp (stopPlan ((d.freshStop n).setpoint n) ((d.freshStop n).setVel n)
        ((d.freshStop n).setAcc n) ((d.freshStop n).emDec n) ((d.freshStop n).emJerk n))).setAxSafe n
        { ((d.freshStop n).startPlan n .ramp (stopPlan ((d.freshStop n).setpoint n) ((d.freshStop n).setVel n)
        ((d.freshStop n).setAcc n) ((d.freshStop n).emDec n) ((d.freshStop n).emJerk n))).axSafe n with v0 := none } := if_neg ramp
    rw [ramps]
    change (((d.freshStop n).startPlan n .ramp _).axis n).motion = _
    rw [Dev.startPlan, Dev.axis_modAxis]

theorem Dev.quickStopAxis_stops (d : Dev) (hn : n < 128) : (d.quickStopAxis n).axState n = AxState.stopping ∧
    ((d.quickStopAxis n).axis n).motion = .ramp := by
  obtain ⟨e, begun⟩ : ∃ e, e = ((d.abortInjection n).abandonHoming n) := ⟨_, rfl⟩
  have stops : d.quickStopAxis n = ((e.emergencyRamp n).setAxState n AxState.stopping).modAxis n fun a =>
      { a with stopWhy := .quick, softStop := false } := by rw [begun]; rfl
  rw [stops, Dev.axis_modAxis, Dev.axState, Dev.nat_modAxis, Dev.setAxState, Dev.nat, Dev.reg_set_same, (odType_ofMotion hn).1]
  exact ⟨rfl, e.emergencyRamp_ramps n⟩

theorem Dev.keeps_emergencyRamp (d : Dev) (n : Nat) : d.Keeps (d.emergencyRamp n) [.axes, .chains, .safe] := by
  have fresh : d.Keeps (d.freshStop n) [.axes, .chains, .safe] := by
    unfold Dev.freshStop
    split
    · exact .when _ _ ((Dev.keeps_modChain _ _ _).mono (by decide))
    · exact .refl _ _
  unfold Dev.emergencyRamp
  split
  · exact .refl _ _
  · exact (fresh.modAxis _ _).step (Dev.keeps_safe _ _)

theorem Dev.takeQuickStop_open (out : d.closed n = false ∨ d.axState n = AxState.fault) :
    d.takeQuickStop n h = (d.dropFlags n Flag.ofCommand).commandDone n h.seq Code.STATUS_OK := by
  refine if_pos ?_
  rcases out with open_ | fault
  · simp [open_]
  · simp [fault]

/-- An axis that a reaction or the clearing of ENABLE stops already. -/
abbrev Dev.stopsAlready (d : Dev) (n : Nat) : Bool :=
  match (d.axis n).stopWhy with | .reaction _ | .disable => d.axState n == AxState.stopping | _ => false

theorem Dev.takeQuickStop_closed (closed : d.closed n = true) (sound : d.axState n ≠ AxState.fault) :
    d.takeQuickStop n h = (if d.stopsAlready n then (d.newCommand n h).emergencyRamp n
      else ((d.newCommand n h).chainStop n).quickStopAxis n).commandDone n h.seq Code.STATUS_OK :=
  (if_neg (by simp [closed, sound])).trans rfl

theorem Dev.stopping_of_stopsAlready (already : d.stopsAlready n = true) : d.axState n = AxState.stopping := by
  unfold Dev.stopsAlready at already
  split at already
  · exact beq_iff_eq.1 already
  · exact beq_iff_eq.1 already
  · simp at already

/-- The device when a QUICK_STOP has stopped the axis, before the answer. -/
theorem Dev.quickStops (d : Dev) (hn : n < 128) (h : Held) (code : h.code < 2 ^ 8) {e : Dev}
    (made : e = if d.stopsAlready n then (d.newCommand n h).emergencyRamp n else ((d.newCommand n h).chainStop n).quickStopAxis n) :
    e.axState n = AxState.stopping ∧ (e.axis n).motion = .ramp ∧ d.Keeps e reactionParts := by
  obtain ⟨low₀, low₁, low₂, low₃, low₄⟩ := moveRegs_apart hn
  obtain ⟨-, -, fresh⟩ := d.newCommand_shows hn h code
  have kept := (d.keeps_newCommand n h).mono (m := reactionParts) (by decide)
  by_cases already : d.stopsAlready n = true
  · rw [if_pos already] at made
    have ramp := (d.newCommand n h).keeps_emergencyRamp n
    have moves := (d.newCommand n h).emergencyRamp_ramps n
    rw [← made] at ramp moves
    refine ⟨?_, moves, kept.step ramp⟩
    rw [Dev.axState, Dev.nat, Dev.reg_congr (ramp .od (by decide)), fresh _ low₂, ← Dev.nat, ← Dev.axState, Dev.stopping_of_stopsAlready already]
  · rw [if_neg already] at made
    obtain ⟨state, motion⟩ := ((d.newCommand n h).chainStop n).quickStopAxis_stops hn
    have low : n < 256 := by omega
    have reacts : (d.newCommand n h).Reacts (· < 256) (· < 16) (((d.newCommand n h).chainStop n).quickStopAxis n) :=
      ((Dev.Reacts.refl _ _ _).chainStop (Dev.MayReact.any _ low)).quickStopAxis (Dev.MayStop.any _ low)
    rw [← made] at state motion reacts
    exact ⟨state, motion, kept.step reacts.keeps⟩

/-! ## GEAR and FOLLOW begin (R115, R116) -/

/-- The motion of GEAR and FOLLOW. -/
abbrev trackMotion (code : Nat) : Motion := if code = 8 then .gear else .follow

def Axis.tracking (a : Axis) (m : Motion) (y0 : Int) : Axis := { a with plan := none, motion := m, gear := { y0 } }

theorem Dev.takeTrack_shows (d : Dev) (hn : n < 128) (h : Held) (code : h.code < 2 ^ 8) {e : Dev} (made : e = d.takeTrack n h) :
    e.Answered n h.seq Code.STATUS_OK ∧ e.axState n = motionState (d.axState n) ∧
    e.axis n = (((d.axis n).commanded h).tracking (trackMotion h.code) (d.setpoint n)).begun ∧ e.reg (Reg.AX6_ENGAGED n) = 0 ∧
    d.Keeps e [.od, .axes, .done] := by
  obtain ⟨low₀, low₁, low₂, low₃, low₄⟩ := moveRegs_apart hn
  have engaged : Reg.AX1_STATE n ≠ Reg.AX6_ENGAGED n ∧ Reg.AX6_ENGAGED n ∉ [Reg.AX1_STATE n] ∧
      Reg.AX6_ENGAGED n ∉ [Reg.AX5_TAKEN_SEQ n, Reg.AX5_CMD_STATUS n] := by
    simp only [List.mem_cons, List.not_mem_nil, or_false, Reg.AX1_STATE, Reg.AX6_ENGAGED, Reg.AX5_TAKEN_SEQ, Reg.AX5_CMD_STATUS, Reg.key]
    omega
  obtain ⟨commanded, -, fresh⟩ := d.newCommand_shows hn h code
  have plans := d.plans_newCommand n h
  obtain ⟨d₁, tracks⟩ : ∃ d₁, d₁ = ((d.newCommand n h).set (Reg.AX6_ENGAGED n) 0).modAxis n (·.tracking (trackMotion h.code) (d.setpoint n)) :=
    ⟨_, rfl⟩
  have result : d.takeTrack n h = (d₁.beginMotion n).commandDone n h.seq Code.STATUS_OK := by
    have setpoint : ((d.newCommand n h).set (Reg.AX6_ENGAGED n) 0).setpoint n = d.setpoint n := (plans.set 0).setpoint hn
    rw [tracks, ← setpoint]
    rfl
  rw [result] at made
  have axis₁ : d₁.axis n = ((d.axis n).commanded h).tracking (trackMotion h.code) (d.setpoint n) := by
    rw [tracks, Dev.axis_modAxis, Dev.axis_set, commanded]
  have state₁ : d₁.axState n = d.axState n := by
    rw [tracks, Dev.axState, Dev.nat_modAxis, Dev.nat, Dev.reg_set_other _ _ engaged.1, fresh _ low₂, ← Dev.nat, ← Dev.axState]
  have engaged₁ : d₁.reg (Reg.AX6_ENGAGED n) = 0 := by
    rw [tracks, Dev.reg_modAxis, Dev.reg_set_same, (odType_ofMotion hn).2.2.2.2.2.1]
    rfl
  have kept₁ : d.Keeps d₁ [.od, .axes, .done] := by
    rw [tracks]
    exact (((d.keeps_newCommand n h).mono (by decide)).set _ _).modAxis _ _
  clear tracks result
  obtain ⟨begun, state, regs', kept₂, -⟩ := d₁.beginMotion_shows hn
  generalize d₁.beginMotion n = d₂ at *
  have done := d₂.regs_commandDone n h.seq Code.STATUS_OK
  have kept₃ := d₂.keeps_commandDone n h.seq Code.STATUS_OK
  have answered := d₂.commandDone_answered hn h.seq (code := Code.STATUS_OK) (by decide)
  rw [← made] at done kept₃ answered
  refine ⟨answered, ?_, ?_, ?_, (kept₁.step kept₂).step kept₃⟩
  · rw [Dev.axState, Dev.nat, done _ low₄, ← Dev.nat, ← Dev.axState, state, state₁]
  · rw [kept₃.axis n, begun, axis₁]
  · rw [done _ engaged.2.2, regs' _ engaged.2.1, engaged₁]

/-! ## HOME (R119, R120) -/

/-- An axis whose positions have moved by `x`. -/
def Axis.shifted (a : Axis) (x : Int) : Axis :=
  { a with offset := a.offset + x, homeFrom := a.homeFrom + x, baseTgt := a.baseTgt.map (· + x),
           plan := a.plan.map fun p => { p with p0 := p.p0 + x, final := p.final.map (· + x) } }

theorem Dev.shiftPosition_shows (d : Dev) (n : Nat) (x : Int) : (d.shiftPosition n x).axis n = (d.axis n).shifted x ∧
    d.Keeps (d.shiftPosition n x) [.od, .axes, .safe] ∧ d.KeepsRegs (d.shiftPosition n x) [Reg.AX5_SETPOINT n] := by
  obtain ⟨e, moved⟩ : ∃ e, e = (d.set (Reg.AX5_SETPOINT n) (d.setpoint n + x)).modAxis n (·.shifted x) := ⟨_, rfl⟩
  have result : d.shiftPosition n x = e.setAxSafe n { e.axSafe n with pRef := (e.axSafe n).pRef.map (· + x) } := by rw [moved]; rfl
  rw [result]
  have kept : e.Keeps (e.setAxSafe n { e.axSafe n with pRef := (e.axSafe n).pRef.map (· + x) }) [.safe] := Dev.keeps_safe _ _
  refine ⟨?_, ?_, fun k hk => ?_⟩
  · rw [kept.axis n, moved, Dev.axis_modAxis, Dev.axis_set]
  · refine Dev.Keeps.step (e := e) ?_ kept
    rw [moved]
    exact ((Dev.Keeps.refl d _).set _ _).modAxis _ _
  · rw [Dev.reg_congr (kept .od (by decide)), moved, Dev.reg_modAxis, Dev.reg_set_other _ _ (by simpa using hk)]

theorem homeRegs_apart {n : Nat} (hn : n < 128) : Reg.AX1_STATE n ≠ Reg.AX11_HOMED n ∧ Reg.AX11_HOMED n ∉ Reg.AX1_STATE n :: logRegs ∧
    Reg.AX11_HOME_STATE n ∉ [Reg.AX5_ACTIVE_CMD n, Reg.AX11_HOMED n, Reg.AX1_STATE n] ∧ Reg.AX11_HOME_STATE n ∉ logRegs ∧
    Reg.AX11_HOME_POS n ∉ [Reg.AX5_FLAGS n, Reg.AX5_ACTIVE_CMD n] ∧
    (∀ k ∈ [Reg.AX11_HOMED n, Reg.AX11_HOME_STATE n, Reg.AX1_STATE n], k ∉ [Reg.AX5_TAKEN_SEQ n, Reg.AX5_CMD_STATUS n]) ∧
    Reg.AX11_HOMED n ∉ [Reg.AX1_STATE n] ∧ Reg.AX11_HOMED n ≠ Reg.AX11_HOME_STATE n := by
  revert n
  decide +kernel

theorem Dev.homingDone_shows (d : Dev) (hn : n < 128) : (d.homingDone n).reg (Reg.AX11_HOMED n) = 1 ∧
    (d.homingDone n).nat (Reg.AX11_HOME_STATE n) = HomeState.idle ∧ (d.homingDone n).axState n = AxState.enabled ∧
    (d.homingDone n).axis n = d.axis n ∧ (d.homingDone n).LastRaised Code.HOMING_DONE Kind.axis n ∧
    d.Keeps (d.homingDone n) [.od, .log, .event] := by
  obtain ⟨tState, -, -, -, tHome, -, tHomed⟩ := odType_ofMotion hn
  obtain ⟨-, apart₀, apart₁, apart₂, -⟩ := homeRegs_apart hn
  obtain ⟨state, log⟩ := not_or.1 (mt List.mem_cons.2 apart₀)
  simp only [List.mem_cons, List.not_mem_nil, or_false, not_or] at apart₁
  obtain ⟨e, set⟩ : ∃ e, e = ((d.setHomeState n HomeState.idle).set (Reg.AX5_ACTIVE_CMD n) 0).set (Reg.AX11_HOMED n) 1 := ⟨_, rfl⟩
  have result : d.homingDone n = (e.raiseAxis Code.HOMING_DONE n).setAxState n AxState.enabled := by rw [set]; rfl
  have kept : d.Keeps e [.od, .log, .event] := by rw [set]; exact ((((Dev.Keeps.refl d _).set _ _).set _ _).set _ _)
  have keeps : d.Keeps ((e.raiseAxis Code.HOMING_DONE n).setAxState n AxState.enabled) [.od, .log, .event] := (kept.raise _ _ _ _ _).set _ _
  rw [result]
  refine ⟨?_, ?_, ?_, keeps.axis n, (Dev.lastRaised_raise _ _ _ _ _ _).of_keeps (Dev.keeps_set _ _ _), keeps⟩
  · rw [Dev.setAxState, Dev.reg_set_other _ _ state, Dev.raiseAxis, Dev.reg_raise _ _ _ _ _ _ log, set, Dev.reg_set_same, tHomed]
    rfl
  · rw [Dev.setAxState, Dev.nat, Dev.reg_set_other _ _ apart₁.2.2, Dev.raiseAxis, Dev.reg_raise _ _ _ _ _ _ apart₂, set,
      Dev.reg_set_other _ _ apart₁.2.1, Dev.reg_set_other _ _ apart₁.1, Dev.setHomeState, Dev.reg_set_same, tHome]
    rfl
  · rw [Dev.axState, Dev.setAxState, Dev.nat, Dev.reg_set_same, tState]
    rfl

/-- HOME with method 3: the reference is taken over at once. -/
theorem Dev.homeAtOnce_shows (d : Dev) (hn : n < 128) (h : Held) (code : h.code < 2 ^ 8) (method : d.reg (Reg.AX11_METHOD n) = 3) {e : Dev}
    (made : e = d.startHoming n h) : e.Answered n h.seq Code.STATUS_OK ∧ e.reg (Reg.AX11_HOMED n) = 1 ∧
    e.nat (Reg.AX11_HOME_STATE n) = HomeState.idle ∧ e.axState n = AxState.enabled ∧ (e.axis n).offset = d.reg (Reg.AX11_HOME_POS n) ∧
    e.LastRaised Code.HOMING_DONE Kind.axis n ∧ d.Keeps e ([.od, .axes, .safe] ++ [.log, .event, .done]) := by
  obtain ⟨-, -, -, -, -, apart, -⟩ := homeRegs_apart hn
  have plans := d.plans_newCommand n h
  have kept := d.keeps_newCommand n h
  obtain ⟨commanded, -, -⟩ := d.newCommand_shows hn h code
  have pos : (d.newCommand n h).reg (Reg.AX11_HOME_POS n) = d.reg (Reg.AX11_HOME_POS n) := plans.reg hn
  have way : (d.newCommand n h).nat (Reg.AX11_METHOD n) = 3 := by rw [plans.nat hn, Dev.nat, method]; rfl
  have result : d.startHoming n h = (((d.newCommand n h).shiftPosition n (d.reg (Reg.AX11_HOME_POS n) -
      (d.axis n).offset)).homingDone n).commandDone n h.seq Code.STATUS_OK := by
    rw [← pos, show (d.axis n).offset = ((d.newCommand n h).axis n).offset by rw [commanded]; rfl]
    exact congrArg (Dev.commandDone · n h.seq Code.STATUS_OK) (if_pos way)
  rw [result] at made
  clear result pos way plans
  generalize d.newCommand n h = d₁ at *
  obtain ⟨shifted, kept', -⟩ := d₁.shiftPosition_shows n (d.reg (Reg.AX11_HOME_POS n) - (d.axis n).offset)
  rw [commanded] at shifted
  generalize d₁.shiftPosition n (d.reg (Reg.AX11_HOME_POS n) - (d.axis n).offset) = d₂ at *
  obtain ⟨homed, idle, state, axis, last, kept''⟩ := d₂.homingDone_shows hn
  generalize d₂.homingDone n = d₃ at *
  have regs := d₃.regs_commandDone n h.seq Code.STATUS_OK
  have kept₃ := d₃.keeps_commandDone n h.seq Code.STATUS_OK
  have answered := d₃.commandDone_answered hn h.seq (code := Code.STATUS_OK) (by decide)
  rw [← made] at regs kept₃ answered
  refine ⟨answered, ?_, ?_, ?_, ?_, last.of_keeps kept₃, (((kept.mono (by decide)).step kept').step kept'').step kept₃⟩
  · rw [regs _ (apart _ (by simp)), homed]
  · rw [Dev.nat, regs _ (apart _ (by simp)), ← Dev.nat, idle]
  · rw [Dev.axState, Dev.nat, regs _ (apart _ (by simp)), ← Dev.nat, ← Dev.axState, state]
  · rw [kept₃.axis n, axis, shifted]
    exact add_sub_cancel _ _

/-- Where homing with a switch or a stop begins from. -/
def Axis.homing (a : Axis) (p : Int) : Axis := { a with homeFrom := p, hsRun := 0 }

/-- The first state of homing with methods 0 to 2, and the speed of its first move. -/
def Dev.homeBegins (d : Dev) (n : Nat) : Nat × Rat :=
  if d.nat (Reg.AX11_METHOD n) = 2 then (HomeState.push, d.homeDir n * fix (d.reg (Reg.AX11_V_CREEP n)))
  else if d.switchActive n (d.homeRole n) then (HomeState.reverse, -(d.homeDir n * fix (d.reg (Reg.AX11_V_CREEP n))))
  else (HomeState.search, d.homeDir n * fix (d.reg (Reg.AX11_V_SEARCH n)))

theorem Dev.Plans.homeBegins {e : Dev} (p : d.Plans n e) (hn : n < 128) : e.homeBegins n = d.homeBegins n := by
  have role : e.homeRole n = d.homeRole n := by rw [Dev.homeRole, Dev.homeRole, p.nat hn]
  have input : e.inputOf n (d.homeRole n) = d.inputOf n (d.homeRole n) := by
    unfold Dev.inputOf
    split <;> exact p.nat hn
  have active : e.switchActive n (d.homeRole n) = d.switchActive n (d.homeRole n) := by
    rw [Dev.switchActive, Dev.switchActive, input, Dev.bit, Dev.bit, Dev.bit, Dev.bit, p.nat hn, p.nat hn]
  rw [Dev.homeBegins, Dev.homeBegins, role, active, p.nat hn, Dev.homeDir, Dev.homeDir, p.reg hn, p.reg hn, p.reg hn]

theorem homeBegins_small (d : Dev) (n : Nat) : (d.homeBegins n).1 < 2 ^ 8 := by
  unfold Dev.homeBegins
  split
  · exact show 4 < 2 ^ 8 by decide
  · split
    · exact show 2 < 2 ^ 8 by decide
    · exact show 1 < 2 ^ 8 by decide

/-- The first move of homing by a method and a creep speed. -/
def Dev.homesBy (d : Dev) (n method : Nat) (creep : Rat) : Dev :=
  if method = 2 then (d.homeMove n (d.homeDir n * creep)).setHomeState n HomeState.push
  else if d.switchActive n (d.homeRole n) then (d.homeMove n (-(d.homeDir n * creep))).setHomeState n HomeState.reverse
  else (d.homeMove n (d.homeDir n * fix (d.reg (Reg.AX11_V_SEARCH n)))).setHomeState n HomeState.search

theorem Dev.homesBy_eq (d : Dev) (n : Nat) : d.homesBy n (d.nat (Reg.AX11_METHOD n)) (fix (d.reg (Reg.AX11_V_CREEP n))) =
    (d.homeMove n (d.homeBegins n).2).setHomeState n (d.homeBegins n).1 := by
  unfold Dev.homesBy Dev.homeBegins
  split
  · rfl
  · split <;> rfl

/-- The device as homing begins to move. -/
def Dev.homingBegun (d : Dev) (n : Nat) (h : Held) : Dev :=
  ((d.newCommand n h).set (Reg.AX11_HOMED n) 0).modAxis n (·.homing (d.setpoint n))

theorem Dev.startHoming_eq (away : d.nat (Reg.AX11_METHOD n) ≠ 3) (hn : n < 128) : d.startHoming n h =
    ((((d.homingBegun n h).beginMotion n).homeMove n (d.homeBegins n).2).setHomeState n (d.homeBegins n).1).commandDone n h.seq
      Code.STATUS_OK := by
  have plans := d.plans_newCommand n h
  have homed : d.Plans n (d.homingBegun n h) := (plans.set 0).modAxis
  have begun : d.Plans n ((d.homingBegun n h).beginMotion n) := homed.trans (Dev.beginMotion_shows _ hn).2.2.2.2
  have way : (d.newCommand n h).nat (Reg.AX11_METHOD n) ≠ 3 := by rw [plans.nat hn]; exact away
  have setpoint : (d.newCommand n h).setpoint n = d.setpoint n := plans.setpoint hn
  have moves : d.startHoming n h = (((d.homingBegun n h).beginMotion n).homesBy n ((d.newCommand n h).nat (Reg.AX11_METHOD n))
      (fix ((d.homingBegun n h).reg (Reg.AX11_V_CREEP n)))).commandDone n h.seq Code.STATUS_OK := by
    rw [Dev.homingBegun, ← setpoint]
    exact congrArg (Dev.commandDone · n h.seq Code.STATUS_OK) (if_neg way)
  rw [moves, ← begun.homeBegins hn, ← Dev.homesBy_eq, plans.nat hn, homed.reg hn, begun.nat hn, begun.reg hn]

/-- HOME with a switch or a hard stop begins to move. -/
theorem Dev.startHoming_shows (d : Dev) (hn : n < 128) (h : Held) (code : h.code < 2 ^ 8) (method : d.nat (Reg.AX11_METHOD n) ≤ 2) {e : Dev}
    (made : e = d.startHoming n h) : e.Answered n h.seq Code.STATUS_OK ∧ e.reg (Reg.AX11_HOMED n) = 0 ∧
    e.axState n = motionState (d.axState n) ∧ (e.axis n).motion = .plan ∧ (e.axis n).homeFrom = d.setpoint n ∧
    e.nat (Reg.AX11_HOME_STATE n) = (d.homeBegins n).1 ∧ d.Keeps e [.od, .axes, .done] := by
  obtain ⟨low₀, low₁, low₂, low₃, low₄⟩ := moveRegs_apart hn
  obtain ⟨apart₀, -⟩ := velocityRegs_apart hn
  obtain ⟨homed₀, -, -, -, -, apart, homed₁, homed₂⟩ := homeRegs_apart hn
  rw [Dev.startHoming_eq (by omega) hn] at made
  obtain ⟨commanded, -, fresh⟩ := d.newCommand_shows hn h code
  have state₁ : (d.homingBegun n h).axState n = d.axState n := by
    rw [Dev.axState, Dev.nat, Dev.homingBegun, Dev.reg_modAxis, Dev.reg_set_other _ _ homed₀, fresh _ low₂, ← Dev.nat, ← Dev.axState]
  have homed : (d.homingBegun n h).reg (Reg.AX11_HOMED n) = 0 := by
    rw [Dev.homingBegun, Dev.reg_modAxis, Dev.reg_set_same, (odType_ofMotion hn).2.2.2.2.2.2]
    rfl
  have axis₁ : (d.homingBegun n h).axis n = ((d.axis n).commanded h).homing (d.setpoint n) := by
    rw [Dev.homingBegun, Dev.axis_modAxis, Dev.axis_set, commanded]
  have kept : d.Keeps (d.homingBegun n h) [.od, .axes] := ((d.keeps_newCommand n h).set _ _).modAxis _ _
  have small := homeBegins_small d n
  generalize d.homeBegins n = b at *
  generalize d.homingBegun n h = d₁ at *
  obtain ⟨begun, state, regs', kept', -⟩ := d₁.beginMotion_shows hn
  generalize d₁.beginMotion n = d₂ at *
  obtain ⟨p, moves⟩ : ∃ p, d₂.homeMove n b.2 = d₂.modAxis n (·.planned p) := ⟨_, rfl⟩
  rw [moves] at made
  obtain ⟨d₃, sets⟩ : ∃ d₃, d₃ = (d₂.modAxis n (·.planned p)).setHomeState n b.1 := ⟨_, rfl⟩
  rw [← sets] at made
  have kept'' : d₂.Keeps d₃ [.od, .axes] := by rw [sets]; exact ((Dev.Keeps.refl d₂ _).modAxis _ _).set _ _
  have axis₃ : d₃.axis n = (d₂.axis n).planned p := by rw [sets, Dev.setHomeState, Dev.axis_set, Dev.axis_modAxis]
  have regs₃ : d₂.KeepsRegs d₃ [Reg.AX11_HOME_STATE n] := fun k hk => by
    rw [sets, Dev.setHomeState, Dev.reg_set_other _ _ (by simpa using hk), Dev.reg_modAxis]
  have home₃ : d₃.nat (Reg.AX11_HOME_STATE n) = b.1 := by
    rw [sets, Dev.setHomeState, Dev.nat, Dev.reg_set_same, (odType_ofMotion hn).2.2.2.2.1]
    exact OdType.toNat_wrap_u8 small
  clear sets
  have regs := d₃.regs_commandDone n h.seq Code.STATUS_OK
  have kept₃ := d₃.keeps_commandDone n h.seq Code.STATUS_OK
  have answered := d₃.commandDone_answered hn h.seq (code := Code.STATUS_OK) (by decide)
  rw [← made] at regs kept₃ answered
  refine ⟨answered, ?_, ?_, ?_, ?_, ?_, (((kept.mono (by decide)).step kept').step kept'').step kept₃⟩
  · rw [regs _ (apart _ (by simp)), regs₃ _ (by simp), regs' _ homed₁, homed]
  · rw [Dev.axState, Dev.nat, regs _ (apart _ (by simp)), regs₃ _ (by simpa using apart₀), ← Dev.nat, ← Dev.axState, state, state₁]
  · rw [kept₃.axis n, axis₃, Axis.planned]
  · rw [kept₃.axis n, axis₃, begun, axis₁]
    rfl
  · rw [Dev.nat, regs _ (apart _ (by simp)), ← Dev.nat, home₃]

end

/-! ## The commands -/

section
variable {d : Dev} {n : Nat} {h : Held} (ok : d.accepts n h = true)
include ok

theorem Dev.takeAt_stop (code : h.code = 4 ∨ h.code = 5) : d.takeAt n h = d.takeStop n h := by
  rcases code with code | code <;> exact (Dev.takeAt_accepted ok).trans (by rw [code]; rfl)

theorem Dev.takeAt_track (code : h.code = 8 ∨ h.code = 9) : d.takeAt n h = d.takeTrack n h := by
  rcases code with code | code <;> exact (Dev.takeAt_accepted ok).trans (by rw [code]; rfl)

theorem Dev.takeAt_home (code : h.code = 7) : d.takeAt n h = d.startHoming n h := (Dev.takeAt_accepted ok).trans (by rw [code]; rfl)

end

section
variable {s : State} {n : Nat} {i : Instr} {h : Held} (live : s.Live) (hn : n < 128) (ok : s.found.accepts n h = true)
  (runs : exec i s = s.answerCell fun d => d.liveIf (n < 128) fun d => d.takeAt n h)
include live hn ok runs

omit ok in
theorem stop_atOnce (takes : s.found.takeAt n h = (s.found.dropFlags n Flag.ofCommand).commandDone n h.seq Code.STATUS_OK) :
    Does i s fun b a => a.Answered n h.seq Code.STATUS_OK ∧ a.nat (Reg.AX5_FLAGS n) &&& Flag.ofCommand = 0 ∧ b.Keeps a [.od, .done] ∧
      b.KeepsRegs a (atOnceRegs n) := by
  obtain ⟨e, made⟩ : ∃ e, e = (s.found.dropFlags n Flag.ofCommand).commandDone n h.seq Code.STATUS_OK := ⟨_, rfl⟩
  obtain ⟨answered, flags, keeps, regs⟩ := s.found.atOnce_shows hn h.seq made
  have leaves : Leaves i s e := takeAt_leaves live hn runs (takes.trans made.symm) keeps
  exact leaves.quietly (keeps .event (by decide)) ⟨answered, flags, keeps, regs⟩

theorem stop_stops (code : h.code = 4 ∨ h.code = 5)
    (moves : s.found.axState n = AxState.moving ∨ s.found.axState n = AxState.stopping) (free : (s.found.axis n).motion ≠ .ramp) :
    Does i s fun b a => a.Answered n h.seq Code.STATUS_OK ∧ a.axState n = AxState.stopping ∧
      a.axis n = (((b.axis n).commanded h).planned (b.stopFrom n h)).stopped ∧ a.nat (Reg.AX11_HOME_STATE n) = 0 ∧
      b.Keeps a [.od, .axes, .done] := by
  obtain ⟨e, made⟩ : ∃ e, e = s.found.takeStop n h := ⟨_, rfl⟩
  obtain ⟨answered, state, axis, homing, keeps⟩ := s.found.takeStop_shows hn h (by omega) moves free made
  have leaves : Leaves i s e := takeAt_leaves live hn runs ((Dev.takeAt_stop ok code).trans made.symm) keeps
  exact leaves.quietly (keeps .event (by decide)) ⟨answered, state, axis, homing, keeps⟩

theorem track_follows (code : h.code = 8 ∨ h.code = 9) : Does i s fun b a => a.Answered n h.seq Code.STATUS_OK ∧
    a.axState n = motionState (b.axState n) ∧
    a.axis n = (((b.axis n).commanded h).tracking (trackMotion h.code) (b.setpoint n)).begun ∧ a.reg (Reg.AX6_ENGAGED n) = 0 ∧
    b.Keeps a [.od, .axes, .done] := by
  obtain ⟨e, made⟩ : ∃ e, e = s.found.takeTrack n h := ⟨_, rfl⟩
  obtain ⟨answered, state, axis, engaged, keeps⟩ := s.found.takeTrack_shows hn h (by omega) made
  have leaves : Leaves i s e := takeAt_leaves live hn runs ((Dev.takeAt_track ok code).trans made.symm) keeps
  exact leaves.quietly (keeps .event (by decide)) ⟨answered, state, axis, engaged, keeps⟩

theorem quickStop_ramps (code : h.code = 6) (closed : s.found.closed n = true) (sound : s.found.axState n ≠ AxState.fault) :
    Does i s fun _ a => a.Answered n h.seq Code.STATUS_OK ∧ a.axState n = AxState.stopping ∧ (a.axis n).motion = .ramp := by
  obtain ⟨low₀, low₁, low₂, low₃, low₄⟩ := moveRegs_apart hn
  obtain ⟨e, made⟩ : ∃ e, e = (if s.found.stopsAlready n then (s.found.newCommand n h).emergencyRamp n
    else ((s.found.newCommand n h).chainStop n).quickStopAxis n) := ⟨_, rfl⟩
  have takes : s.found.takeAt n h = e.commandDone n h.seq Code.STATUS_OK := by
    rw [Dev.takeAt_accepted ok, code, made]
    exact Dev.takeQuickStop_closed closed sound
  obtain ⟨state, ramp, keeps⟩ := s.found.quickStops hn h (by omega) made
  have kept := (keeps.mono (m := .done :: reactionParts) (by decide)).step (e.keeps_commandDone n h.seq Code.STATUS_OK)
  have regs := e.regs_commandDone n h.seq Code.STATUS_OK
  have answered := e.commandDone_answered hn h.seq (code := Code.STATUS_OK) (by decide)
  have axis : (e.commandDone n h.seq Code.STATUS_OK).axis n = e.axis n := Dev.axis_commandDone _ _ _ _ _
  generalize e.commandDone n h.seq Code.STATUS_OK = f at *
  have leaves : Leaves i s f := takeAt_leaves live hn runs takes kept
  refine leaves.does fun pend vecs => ⟨answered, ?_, ?_⟩
  · rw [Dev.axState, Dev.nat, Dev.reg_told, regs _ low₄]
    exact state
  · rw [Dev.axis_told, axis, ramp]

theorem home_atOnce (code : h.code = 7) (method : s.found.reg (Reg.AX11_METHOD n) = 3) : Does i s fun b a =>
    a.Answered n h.seq Code.STATUS_OK ∧ a.reg (Reg.AX11_HOMED n) = 1 ∧ a.nat (Reg.AX11_HOME_STATE n) = HomeState.idle ∧
    a.axState n = AxState.enabled ∧ (a.axis n).offset = b.reg (Reg.AX11_HOME_POS n) ∧ a.LastRaised Code.HOMING_DONE Kind.axis n := by
  obtain ⟨e, made⟩ : ∃ e, e = s.found.startHoming n h := ⟨_, rfl⟩
  obtain ⟨answered, homed, idle, state, offset, last, keeps⟩ := s.found.homeAtOnce_shows hn h (by omega) method made
  have leaves : Leaves i s e := takeAt_leaves live hn runs ((Dev.takeAt_home ok code).trans made.symm) keeps
  exact leaves.does fun pend vecs => ⟨answered, homed, idle, state, offset, last.told _ _⟩

theorem home_begins (code : h.code = 7) (method : s.found.nat (Reg.AX11_METHOD n) ≤ 2) : Does i s fun b a =>
    a.Answered n h.seq Code.STATUS_OK ∧ a.reg (Reg.AX11_HOMED n) = 0 ∧ a.axState n = motionState (b.axState n) ∧
    (a.axis n).motion = .plan ∧ (a.axis n).homeFrom = b.setpoint n ∧ a.nat (Reg.AX11_HOME_STATE n) = (b.homeBegins n).1 := by
  obtain ⟨e, made⟩ : ∃ e, e = s.found.startHoming n h := ⟨_, rfl⟩
  obtain ⟨answered, homed, state, motion, from_, begins, keeps⟩ := s.found.startHoming_shows hn h (by omega) method made
  have leaves : Leaves i s e := takeAt_leaves live hn runs ((Dev.takeAt_home ok code).trans made.symm) keeps
  exact leaves.does fun pend vecs => ⟨answered, homed, state, motion, from_, begins⟩

end

/-- What a command does depends on the state it finds alone. -/
theorem State.answerCell_congr {s : State} {f g : Dev → Dev} (same : f s.found = g s.found) : s.answerCell f = s.answerCell g := by
  rw [State.answerCell, State.answerCell, same]

/-- A command judged with the parameters that stand in AX[n].4. -/
theorem exec_params {s : State} {n code : Nat} {i : Instr}
    (runs : exec i s = s.answerCell fun d => d.liveIf (n < 128) fun d => d.takeAt n (d.params n code)) :
    exec i s = s.answerCell fun d => d.liveIf (n < 128) fun d => d.takeAt n (s.found.params n code) := by
  refine runs.trans (State.answerCell_congr ?_)
  generalize s.found = d
  unfold Dev.liveIf
  rfl

theorem homeBegins_state (d : Dev) (n : Nat) : (d.homeBegins n).1 = if d.nat (Reg.AX11_METHOD n) = 2 then HomeState.push
    else if d.switchActive n (d.homeRole n) = true then HomeState.reverse else HomeState.search := by
  unfold Dev.homeBegins
  split
  · rfl
  · split <;> rfl

/-- Settles O23: a stop plans from the present state or is done at once, a quick stop ramps, HOME, GEAR and FOLLOW begin, and what the
axis does not accept is refused. -/
theorem stopsAndFollowingTaken : Obligations.StopsAndFollowingTaken := by
  unfold Obligations.StopsAndFollowingTaken
  intro n p s live hn d ok told flags movesOn stopping
  have stops (i : Instr) (h : Held) (code : h.code = 4 ∨ h.code = 5)
      (runs : exec i s = s.answerCell fun d => d.liveIf (n < 128) fun d => d.takeAt n h) (accepted : ok h)
      (moves : d.axState n = AxState.moving ∨ d.axState n = AxState.stopping) (free : (d.axis n).motion ≠ .ramp) :
      Does i s fun b a => stopping b a (b.stopLimits n h).1 (b.stopLimits n h).2 := by
    obtain ⟨a, ran, ⟨done, status, -⟩, state, axis, homing, keeps⟩ := stop_stops live hn accepted runs code moves free
    exact ⟨a, ran, ⟨done, status⟩, state, by rw [axis]; rfl, by rw [axis]; rfl, by rw [axis]; rfl, homing, keeps⟩
  have atOnce (i : Instr) (h : Held) (code : h.code = 4 ∨ h.code = 5)
      (runs : exec i s = s.answerCell fun d => d.liveIf (n < 128) fun d => d.takeAt n h) (accepted : ok h)
      (enabled : d.axState n = AxState.enabled) : Does i s fun b a =>
        told a ∧ a.nat (Reg.AX5_FLAGS n) &&& Flag.ofCommand = 0 ∧ b.Keeps a [.od, .done] ∧ b.KeepsRegs a flags := by
    obtain ⟨a, ran, ⟨done, status, -⟩, cleared, keeps, regs⟩ :=
      stop_atOnce live hn runs ((Dev.takeAt_stop accepted code).trans (Dev.takeStop_enabled enabled))
    exact ⟨a, ran, ⟨done, status⟩, cleared, keeps, regs⟩
  have tracks (i : Instr) (h : Held) (code : h.code = 8 ∨ h.code = 9)
      (runs : exec i s = s.answerCell fun d => d.liveIf (n < 128) fun d => d.takeAt n h) (accepted : ok h) : Does i s fun b a =>
        told a ∧ movesOn b a ∧ (a.axis n).motion = trackMotion h.code ∧ (a.axis n).plan = none ∧
        (a.axis n).gear = { y0 := b.setpoint n } ∧ a.reg (Reg.AX6_ENGAGED n) = 0 ∧ b.Keeps a [.od, .axes, .done] := by
    obtain ⟨a, ran, ⟨done, status, -⟩, state, axis, engaged, keeps⟩ := track_follows live hn accepted runs code
    exact ⟨a, ran, ⟨done, status⟩, state, by rw [axis]; rfl, by rw [axis]; rfl, by rw [axis]; rfl, engaged, keeps⟩
  refine ⟨fun accepted moves free => ?_, fun accepted moves free => ?_, fun h i mem accepted enabled => ?_,
    fun accepted closed sound => ?_, fun accepted out => ?_, fun accepted method => ?_, fun accepted method => ?_,
    fun h i m mem accepted => ?_, fun h i mem no => ?_⟩
  · exact stops _ (d.params n 4) (.inl rfl) (exec_params rfl) accepted moves free
  · exact stops _ (commandOf p 5) (.inr rfl) rfl accepted moves free
  · simp only [List.mem_cons, Prod.mk.injEq, List.not_mem_nil, or_false] at mem
    rcases mem with ⟨rfl, rfl⟩ | ⟨rfl, rfl⟩
    · exact atOnce _ (d.params n 4) (.inl rfl) (exec_params rfl) accepted enabled
    · exact atOnce _ (commandOf p 5) (.inr rfl) rfl accepted enabled
  · obtain ⟨a, ran, ⟨done, status, -⟩, state, ramp⟩ :=
      quickStop_ramps (h := d.params n 6) (i := .quickStop n) live hn accepted (exec_params rfl) rfl closed sound
    exact ⟨a, ran, ⟨done, status⟩, state, ramp⟩
  · obtain ⟨a, ran, ⟨done, status, -⟩, -, keeps, regs⟩ := stop_atOnce (h := d.params n 6) (i := .quickStop n) live hn (exec_params rfl)
      ((Dev.takeAt_accepted accepted).trans (Dev.takeQuickStop_open out))
    exact ⟨a, ran, ⟨done, status⟩, keeps, regs⟩
  · obtain ⟨a, ran, ⟨done, status, -⟩, shown⟩ := home_atOnce (h := d.params n 7) (i := .home n) live hn accepted (exec_params rfl) rfl method
    exact ⟨a, ran, ⟨done, status⟩, shown⟩
  · obtain ⟨a, ran, ⟨done, status, -⟩, homed, state, motion, from_, begins⟩ :=
      home_begins (h := d.params n 7) (i := .home n) live hn accepted (exec_params rfl) rfl method
    exact ⟨a, ran, ⟨done, status⟩, homed, state, motion, from_, begins.trans (homeBegins_state _ _)⟩
  · simp only [List.mem_cons, Prod.mk.injEq, List.not_mem_nil, or_false] at mem
    rcases mem with ⟨rfl, rfl, rfl⟩ | ⟨rfl, rfl, rfl⟩
    · exact tracks _ (d.params n 8) (.inl rfl) (exec_params rfl) accepted
    · exact tracks _ (d.params n 9) (.inr rfl) (exec_params rfl) accepted
  · simp only [List.mem_cons, Prod.mk.injEq, List.not_mem_nil, or_false] at mem
    have runs : exec i s = s.answerCell fun d => d.liveIf (n < 128) fun d => d.takeAt n h := by
      rcases mem with ⟨rfl, rfl⟩ | ⟨rfl, rfl⟩ | ⟨rfl, rfl⟩ | ⟨rfl, rfl⟩ | ⟨rfl, rfl⟩ | ⟨rfl, rfl⟩ | ⟨rfl, rfl⟩ | ⟨rfl, rfl⟩ | ⟨rfl, rfl⟩
      · rfl
      · rfl
      · rfl
      · exact exec_params rfl
      · rfl
      all_goals exact exec_params rfl
    exact takeAt_refused live hn runs no

end Sys2Proof.Machine
end

section
/-! # The control word (R96, R97) -/

namespace Sys2Proof.Machine

section
variable {d : Dev} {n : Nat}

theorem odType_control {n : Nat} (hn : n < 128) : odType (Reg.AX1_CONTROL n) = .u16 := by
  revert n
  decide +kernel

/-- What the control word says is apart from what its levels judge and set. -/
theorem controlRegs_apart {n : Nat} (hn : n < 128) : Reg.AX1_CONTROL n ≠ Reg.AX1_STATE n ∧ Reg.AX1_CONTROL n ≠ Reg.R5080_SLS_ACTIVE n ∧
    Reg.AX1_CONTROL n ∉ [Reg.AX5_SETPOINT n, Reg.AX5_SET_VEL n, Reg.AX5_SET_ACC n, Reg.AX5_ACTIVE_CMD n, Reg.AX1_REACTION n] ∧
    Reg.AX1_STATE n ∉ [Reg.AX5_SETPOINT n, Reg.AX5_SET_VEL n, Reg.AX5_SET_ACC n, Reg.AX5_ACTIVE_CMD n, Reg.AX1_REACTION n] ∧
    Reg.AX5_SETPOINT n ∉ [Reg.AX5_SET_VEL n, Reg.AX5_SET_ACC n, Reg.AX5_ACTIVE_CMD n, Reg.AX1_REACTION n] ∧
    Reg.AX5_SET_VEL n ∉ [Reg.AX5_SET_ACC n, Reg.AX5_ACTIVE_CMD n, Reg.AX1_REACTION n] ∧
    Reg.AX5_SET_ACC n ∉ [Reg.AX5_ACTIVE_CMD n, Reg.AX1_REACTION n] ∧
    Reg.AX1_REACTION n ∉ [Reg.R5080_SAFE_STATE n, Reg.AX1_STATE n] ∧
    Reg.R5080_SAFE_STATE n ∉ [Reg.AX1_STATE n, Reg.AX5_SETPOINT n, Reg.AX5_SET_VEL n, Reg.AX5_SET_ACC n, Reg.AX5_ACTIVE_CMD n] := by
  revert n
  decide +kernel

theorem Dev.bit_set_u16 (d : Dev) {k i : Nat} (type : odType k = .u16) (hi : i < 16) (v : Nat) : (d.set k v).bit k i = v.testBit i := by
  rw [Dev.bit, Dev.nat, Dev.reg_set_same, type, u16_wrap, Nat.testBit_mod_two_pow]
  simp [hi]

theorem Dev.bit_setControlBit (d : Dev) (hn : n < 128) {i : Nat} (hi : i < 16) (b : Bool) :
    (d.setControlBit n i b).bit (Reg.AX1_CONTROL n) i = b := by
  rw [Dev.setControlBit, Dev.bit_set_u16 _ (odType_control hn) hi, testBit_withBit, if_pos rfl]

/-! ## The axis on its measured position -/

/-- An axis laid on its measured position, at rest. -/
def Axis.laid (a : Axis) : Axis :=
  { a with plan := none, planT := 0, adv := 0, motion := .rest, baseTgt := none, stopWhy := .none, softStop := false,
           replan := false, reactNow := 0, reactNext := none }

/-- The entries that show a set-point and the command in progress. -/
abbrev laidRegs (n : Nat) : List Nat := [Reg.AX5_SETPOINT n, Reg.AX5_SET_VEL n, Reg.AX5_SET_ACC n, Reg.AX5_ACTIVE_CMD n]

theorem stateLaid_apart {n : Nat} (hn : n < 128) : Reg.AX1_STATE n ∉ laidRegs n := fun mem =>
  (controlRegs_apart hn).2.2.2.1 (List.mem_of_mem_take (i := 4) mem)

theorem controlClosed_apart {n : Nat} (hn : n < 128) : Reg.AX1_CONTROL n ∉ Reg.AX1_STATE n :: Reg.AX1_REACTION n :: laidRegs n := by
  revert n
  decide +kernel

theorem Dev.holdMeasured_shows (d : Dev) (hn : n < 128) : (d.holdMeasured n).axis n = (d.axis n).laid ∧
    (d.holdMeasured n).reg (Reg.AX5_SETPOINT n) = (odType (Reg.AX5_SETPOINT n)).wrap (d.measured n) ∧
    (d.holdMeasured n).reg (Reg.AX5_SET_VEL n) = 0 ∧ (d.holdMeasured n).reg (Reg.AX5_SET_ACC n) = 0 ∧
    d.KeepsRegs (d.holdMeasured n) (laidRegs n) ∧ d.Keeps (d.holdMeasured n) [.od, .axes] := by
  obtain ⟨-, -, -, -, apart₀, apart₁, apart₂, -⟩ := controlRegs_apart hn
  simp only [List.mem_cons, List.not_mem_nil, or_false, not_or] at apart₀ apart₁ apart₂
  obtain ⟨e, emits⟩ : ∃ e, e = (d.emit n (d.measured n) 0 0).set (Reg.AX5_ACTIVE_CMD n) 0 := ⟨_, rfl⟩
  have result : d.holdMeasured n = e.modAxis n (·.laid) := by rw [emits]; rfl
  rw [result, Dev.axis_modAxis, emits, Dev.reg_modAxis, Dev.reg_modAxis, Dev.reg_modAxis, Dev.emit,
    Dev.reg_set_other _ _ apart₀.2.2.1, Dev.reg_set_other _ _ apart₀.2.1, Dev.reg_set_other _ _ apart₀.1, Dev.reg_set_same,
    Dev.reg_set_other _ _ apart₁.2.1, Dev.reg_set_other _ _ apart₁.1, Dev.reg_set_same, OdType.wrap_zero,
    Dev.reg_set_other _ _ apart₂.1, Dev.reg_set_same, OdType.wrap_zero]
  refine ⟨rfl, rfl, rfl, rfl, fun k hk => ?_, (((((Dev.Keeps.refl d _).set _ _).set _ _).set _ _).set _ _).modAxis _ _⟩
  simp only [List.mem_cons, List.not_mem_nil, or_false, not_or] at hk
  rw [Dev.reg_modAxis, Dev.reg_set_other _ _ hk.2.2.2, Dev.reg_set_other _ _ hk.2.2.1, Dev.reg_set_other _ _ hk.2.1, Dev.reg_set_other _ _ hk.1]

theorem Dev.measured_congr {d e : Dev} {n : Nat} (h : e.axis n = d.axis n) : e.measured n = d.measured n := by
  rw [Dev.measured, Dev.measured, h]

theorem Dev.axState_set (d : Dev) (hn : n < 128) {st : Nat} (small : st < 2 ^ 8) : (d.setAxState n st).axState n = st := by
  rw [Dev.axState, Dev.setAxState, Dev.nat, Dev.reg_set_same, (odType_ofMotion hn).1]
  exact OdType.toNat_wrap_u8 small

/-! ## ENABLE over READY -/

/-- An axis whose loops have just closed. -/
def Axis.closedLoops (a : Axis) (t : Nat) : Axis :=
  { a with cur := {}, velL := {}, posL := {}, auxL := {}, loopsOff := false, closedAt := some t }

theorem Dev.closeLoops_shows (d : Dev) (hn : n < 128) {e : Dev} (made : e = d.closeLoops n) : e.axState n = AxState.enabled ∧
    (∃ t, e.axis n = (d.axis n).laid.closedLoops t) ∧ e.reg (Reg.AX5_SETPOINT n) = (odType (Reg.AX5_SETPOINT n)).wrap (d.measured n) ∧
    e.reg (Reg.AX5_SET_VEL n) = 0 ∧ e.reg (Reg.AX5_SET_ACC n) = 0 ∧ e.reg (Reg.AX1_REACTION n) = 0 ∧
    d.KeepsRegs e (Reg.AX1_STATE n :: Reg.AX1_REACTION n :: laidRegs n) ∧ d.Keeps e [.od, .axes, .safe] := by
  obtain ⟨-, -, -, state, point, vel, acc, reaction, -⟩ := controlRegs_apart hn
  simp only [List.mem_cons, List.not_mem_nil, or_false, not_or] at state point vel acc reaction
  have enabled := d.axState_set hn (st := AxState.enabled) (by decide)
  obtain ⟨d₁, begins⟩ : ∃ d₁, d₁ = d.setAxState n AxState.enabled := ⟨_, rfl⟩
  obtain ⟨d₂, holds⟩ : ∃ d₂, d₂ = d₁.holdMeasured n := ⟨_, rfl⟩
  obtain ⟨d₃, closes⟩ : ∃ d₃, d₃ = (d₂.set (Reg.AX1_REACTION n) 0).modAxis n (·.closedLoops d₂.tickAbs) := ⟨_, rfl⟩
  have result : e = d₃.setAxSafe n { d₃.axSafe n with testTold := false } := by rw [made, closes, holds, begins]; rfl
  have kept₁ : d.Keeps d₁ [.od] := by rw [begins]; exact d.keeps_set _ _
  have regs₁ : ∀ k, k ≠ Reg.AX1_STATE n → d₁.reg k = d.reg k := fun k hk => by rw [begins, Dev.setAxState, Dev.reg_set_other _ _ hk]
  rw [← begins] at enabled
  obtain ⟨axis₂, point₂, vel₂, acc₂, regs₂, kept₂⟩ := d₁.holdMeasured_shows hn
  rw [← holds] at axis₂ point₂ vel₂ acc₂ regs₂ kept₂
  rw [Dev.measured_congr (kept₁.axis n)] at point₂
  rw [kept₁.axis n] at axis₂
  clear begins holds
  have kept₃ : d₂.Keeps d₃ [.od, .axes] := by rw [closes]; exact ((Dev.Keeps.refl d₂ _).set _ _).modAxis _ _
  have regs₃ : ∀ k, k ≠ Reg.AX1_REACTION n → d₃.reg k = d₂.reg k := fun k hk => by rw [closes, Dev.reg_modAxis, Dev.reg_set_other _ _ hk]
  have cleared : d₃.reg (Reg.AX1_REACTION n) = 0 := by rw [closes, Dev.reg_modAxis, Dev.reg_set_same, OdType.wrap_zero]
  have axis₃ : ∃ t, d₃.axis n = (d.axis n).laid.closedLoops t := ⟨_, by rw [closes, Dev.axis_modAxis, Dev.axis_set, axis₂]⟩
  clear closes
  have kept₄ : d₃.Keeps e [.safe] := by rw [result]; exact Dev.keeps_safe _ _
  have regs₄ : ∀ k, e.reg k = d₃.reg k := Dev.reg_congr (kept₄ .od (by decide))
  have keeps : d.Keeps e [.od, .axes, .safe] := (((kept₁.mono (by decide)).step kept₂).step kept₃).step kept₄
  refine ⟨?_, ?_, ?_, ?_, ?_, ?_, fun k hk => ?_, keeps⟩
  · rw [Dev.axState, Dev.nat, regs₄, regs₃ _ state.2.2.2.2, regs₂ _ (stateLaid_apart hn), ← Dev.nat, ← Dev.axState, enabled]
  · rw [kept₄.axis n]
    exact axis₃
  · rw [regs₄, regs₃ _ point.2.2.2, point₂]
  · rw [regs₄, regs₃ _ vel.2.2, vel₂]
  · rw [regs₄, regs₃ _ acc.2, acc₂]
  · rw [regs₄, cleared]
  · simp only [List.mem_cons, not_or] at hk
    rw [regs₄, regs₃ _ hk.2.1, regs₂ _ (by simpa using hk.2.2), regs₁ _ hk.1]

/-! ## ENABLE cleared -/

/-- An axis that stops because ENABLE was cleared. -/
def Axis.disabling (a : Axis) : Axis := { a with stopWhy := .disable, softStop := false, command := none }

theorem Dev.enableCleared_shows (d : Dev) (hn : n < 128) {e : Dev} (made : e = (((((d.chainStop n).abortInjection n).abandonHoming n).normalStop
    n).setAxState n AxState.stopping).modAxis n (·.disabling)) : e.axState n = AxState.stopping ∧ (e.axis n).stopWhy = .disable ∧
    (e.axis n).command = none ∧ d.Keeps e reactionParts := by
  have low : n < 256 := by omega
  have stops := ((((Dev.Reacts.refl (· < 256) (· < 16) d).chainStop (.any _ low)).abortInjection low low).abandonHoming low low).startStop low
    ((((d.chainStop n).abortInjection n).abandonHoming n).aMax n) ((((d.chainStop n).abortInjection n).abandonHoming n).jMax n)
  change d.Reacts (· < 256) (· < 16) ((((d.chainStop n).abortInjection n).abandonHoming n).normalStop n) at stops
  generalize ((((d.chainStop n).abortInjection n).abandonHoming n).normalStop n) = f at *
  have keeps : d.Keeps e reactionParts := by rw [made]; exact (stops.keeps.set _ _).modAxis _ _
  rw [made] at keeps ⊢
  refine ⟨?_, ?_, ?_, keeps⟩
  · exact f.axState_set hn (by decide)
  · rw [Dev.axis_modAxis]
    rfl
  · rw [Dev.axis_modAxis]
    rfl

/-! ## FAULT_ACK -/

theorem Dev.faultAck_shows (d : Dev) (hn : n < 128) (fault : d.axState n = AxState.fault) (present : d.faultPresent n = false) {e : Dev}
    (made : e = d.faultAck n) : e.reg (Reg.R5080_SAFE_STATE n) = 0 ∧ d.Keeps e [.od, .axes, .safe] ∧
    if (d.axis n).loopsOff then e.axState n = AxState.ready ∧ (e.axis n).loopsOff = false ∧ e.reg (Reg.AX1_REACTION n) = 0 ∧
      d.KeepsRegs e [Reg.AX1_STATE n, Reg.AX1_REACTION n, Reg.R5080_SAFE_STATE n]
    else e.axState n = AxState.enabled ∧ e.reg (Reg.AX5_SETPOINT n) = (odType (Reg.AX5_SETPOINT n)).wrap (d.measured n) ∧
      e.reg (Reg.AX5_SET_VEL n) = 0 ∧ e.reg (Reg.AX5_SET_ACC n) = 0 ∧ (e.axis n).motion = .rest := by
  obtain ⟨-, -, -, state, point, vel, acc, reaction, safe⟩ := controlRegs_apart hn
  simp only [List.mem_cons, List.not_mem_nil, or_false, not_or] at state safe reaction
  obtain ⟨d₁, clears⟩ : ∃ d₁, d₁ = (d.set (Reg.AX1_REACTION n) 0).set (Reg.R5080_SAFE_STATE n) 0 := ⟨_, rfl⟩
  obtain ⟨d₂, rests⟩ : ∃ d₂, d₂ = d₁.setAxSafe n
      { d₁.axSafe n with stopKind := 0, chainStp := false, pRef := none, still := 0, atRest := false, blind := false } := ⟨_, rfl⟩
  have result : d.faultAck n = if (d.axis n).loopsOff then (d₂.setAxState n AxState.ready).modAxis n fun a => { a with reactNow := 0, loopsOff := false }
      else (d₂.setAxState n AxState.enabled).holdMeasured n := by
    rw [rests, clears]
    exact if_neg (by rw [present]; simp [fault])
  have kept₁ : d.Keeps d₁ [.od] := by rw [clears]; exact ((Dev.Keeps.refl d _).set _ _).set _ _
  have regs₁ : d.KeepsRegs d₁ [Reg.AX1_REACTION n, Reg.R5080_SAFE_STATE n] := fun k hk => by
    simp only [List.mem_cons, List.not_mem_nil, or_false, not_or] at hk
    rw [clears, Dev.reg_set_other _ _ hk.2, Dev.reg_set_other _ _ hk.1]
  have reaction₁ : d₁.reg (Reg.AX1_REACTION n) = 0 := by rw [clears, Dev.reg_set_other _ _ reaction.1, Dev.reg_set_same, OdType.wrap_zero]
  have safe₁ : d₁.reg (Reg.R5080_SAFE_STATE n) = 0 := by rw [clears, Dev.reg_set_same, OdType.wrap_zero]
  clear clears
  have kept₂ : d₁.Keeps d₂ [.safe] := by rw [rests]; exact Dev.keeps_safe _ _
  have regs₂ : ∀ k, d₂.reg k = d₁.reg k := Dev.reg_congr (kept₂ .od (by decide))
  clear rests
  have kept : d.Keeps d₂ [.od, .axes, .safe] := (kept₁.mono (by decide)).step kept₂
  rw [made, result]
  by_cases off : (d.axis n).loopsOff = true
  · rw [if_pos off, if_pos off]
    refine ⟨?_, (kept.set _ _).modAxis _ _, d₂.axState_set hn (by decide), ?_, ?_, fun k hk => ?_⟩
    · rw [Dev.reg_modAxis, Dev.setAxState, Dev.reg_set_other _ _ safe.1, regs₂, safe₁]
    · rw [Dev.axis_modAxis]
    · rw [Dev.reg_modAxis, Dev.setAxState, Dev.reg_set_other _ _ reaction.2, regs₂, reaction₁]
    · simp only [List.mem_cons, List.not_mem_nil, or_false, not_or] at hk
      rw [Dev.reg_modAxis, Dev.setAxState, Dev.reg_set_other _ _ hk.1, regs₂, regs₁ _ (by simp [hk])]
  · rw [if_neg off, if_neg off]
    have enabled := d₂.axState_set hn (st := AxState.enabled) (by decide)
    have axis₃ : (d₂.setAxState n AxState.enabled).axis n = d₂.axis n := Dev.axis_set _ _ _ _
    have kept₃ : d.Keeps (d₂.setAxState n AxState.enabled) [.od, .axes, .safe] := kept.set _ _
    have safe₃ : (d₂.setAxState n AxState.enabled).reg (Reg.R5080_SAFE_STATE n) = 0 := by
      rw [Dev.setAxState, Dev.reg_set_other _ _ safe.1, regs₂, safe₁]
    have own : d₂.axis n = d.axis n := by rw [kept₂.axis n, kept₁.axis n]
    generalize d₂.setAxState n AxState.enabled = d₃ at *
    obtain ⟨axis, point, vel, acc, regs, kept₄⟩ := d₃.holdMeasured_shows hn
    refine ⟨?_, kept₃.step kept₄, ?_, ?_, vel, acc, ?_⟩
    · rw [regs _ (by simp only [List.mem_cons, List.not_mem_nil, or_false, not_or]; exact safe.2), safe₃]
    · rw [Dev.axState, Dev.nat, regs _ (stateLaid_apart hn), ← Dev.nat, ← Dev.axState, enabled]
    · rw [point, Dev.measured_congr (axis₃.trans own)]
    · rw [axis]
      rfl

/-! ## TEST_REQ -/

theorem Dev.keeps_abortInjection (d : Dev) (n : Nat) : d.Keeps (d.abortInjection n) [.od, .log, .event, .ident] := by
  refine Dev.Keeps.iterate _ _ (fun g f => ?_) d
  split
  · exact ((((f.keeps_setGen g _).mono (by decide)).set _ _).set _ _ |>.set _ _).raise _ _ _ _ _
  · exact .refl _ _

/-- Whether the chain of an axis executes a segment. -/
def Dev.onPath (d : Dev) (n : Nat) : Bool := match d.chainOf n with | some c => d.executing c | none => false

theorem Dev.onPath_idle (still : ∀ c, d.executing c = false) : d.onPath n = false := by
  unfold Dev.onPath
  split
  · exact still _
  · rfl

theorem Dev.testLevel_shows (d : Dev) (hn : n < 128) (test : d.axState n = AxState.test) (off : d.bit (Reg.AX1_CONTROL n) 3 = false)
    {e : Dev} (made : e = d.testLevel n) : d.Keeps e [.od, .log, .event, .ident] ∧
    ((d.axis n).motion ≠ .rest → e.axState n = AxState.moving) ∧
    ((d.axis n).motion = .rest → (∀ c, d.executing c = false) → e.axState n = AxState.enabled) := by
  have kept := d.keeps_abortInjection n
  have aborted : e = (d.abortInjection n).setAxState n (if ((d.abortInjection n).axis n).motion != .rest ||
      (d.abortInjection n).onPath n then AxState.moving else AxState.enabled) := by
    have first : ¬(d.axState n = AxState.enabled ∧ (d.bit (Reg.AX1_CONTROL n) 3 && d.slsActive n) = true) := by simp [off]
    have second : d.axState n = AxState.test ∧ (d.bit (Reg.AX1_CONTROL n) 3 && d.slsActive n) = false := ⟨test, by simp [off]⟩
    rw [made]
    unfold Dev.testLevel
    dsimp only
    rw [if_neg first, if_pos second]
    generalize d.abortInjection n = f
    rfl
  have motion := kept.axis n
  have chains : ∀ c, (d.abortInjection n).executing c = d.executing c := fun c => by
    have same : (d.abortInjection n).chains = d.chains := kept .chains (by decide)
    rw [Dev.executing, Dev.executing, Dev.chain, Dev.chain, same]
  generalize d.abortInjection n = f at *
  rw [aborted]
  refine ⟨kept.set _ _, fun moves => ?_, fun rest still => ?_⟩
  · have goes : ((f.axis n).motion != .rest) = true := by rw [motion]; exact bne_iff_ne.2 moves
    rw [goes, Bool.true_or, if_pos rfl]
    exact f.axState_set hn (by decide)
  · have stands : ((f.axis n).motion != .rest) = false := by rw [motion, rest]; rfl
    have idle : f.onPath n = false := Dev.onPath_idle fun c => (chains c).trans (still c)
    rw [stands, idle, Bool.false_or, if_neg (by decide)]
    exact f.axState_set hn (by decide)

end

/-! ## The commands -/

section
variable {s : State} {n : Nat} {i : Instr} (live : s.Live) (hn : n < 128)
include live hn

/-- A command of one axis, of a live module. -/
theorem axis_leaves {f : Dev → Dev} (runs : exec i s = s.answerCell fun d => d.liveIf (n < 128) f) {e : Dev} (result : f s.found = e)
    {l : List Part} (keeps : s.found.Keeps e l) (within : ∀ p ∈ beyondCell, p ∉ l := by decide) : Leaves i s e :=
  .cell (guard := fun d => d.liveIf (n < 128)) f (live.passesIf hn) result keeps within runs

/-- A level of the control word that changes the state alone, or nothing. -/
theorem level_shows {b : Bool} {c : Nat} (hc : c < 16) (f : Dev → Dev) (runs : exec i s = s.answerCell fun d => d.liveIf (n < 128)
    fun d => f (d.setControlBit n c b)) {st : Nat} (small : st < 2 ^ 8)
    (result : f (s.found.setControlBit n c b) = (s.found.setControlBit n c b).setAxState n st) : Does i s fun b' a =>
      a.axState n = st ∧ a.bit (Reg.AX1_CONTROL n) c = b ∧ b'.Keeps a [.od] ∧ b'.KeepsRegs a [Reg.AX1_STATE n, Reg.AX1_CONTROL n] := by
  have bit := s.found.bit_setControlBit hn hc b
  have kept : s.found.Keeps (s.found.setControlBit n c b) [.od] := s.found.keeps_set _ _
  have regs : s.found.KeepsRegs (s.found.setControlBit n c b) [Reg.AX1_CONTROL n] := fun k hk => Dev.reg_set_other _ _ (by simpa using hk)
  generalize made : s.found.setControlBit n c b = d at bit kept regs result
  have state := d.axState_set hn small
  have leaves : Leaves i s (d.setAxState n st) := axis_leaves live hn runs ((congrArg f made).trans result) (kept.set _ _)
  refine leaves.quietly ((kept.set _ _ : s.found.Keeps (d.setAxState n st) [.od]) .event (by decide)) ⟨state, ?_, kept.set _ _, fun k hk => ?_⟩
  · rw [Dev.bit, Dev.setAxState, Dev.nat, Dev.reg_set_other _ _ (controlRegs_apart hn).1, ← Dev.nat, ← Dev.bit, bit]
  · simp only [List.mem_cons, List.not_mem_nil, or_false, not_or] at hk
    rw [Dev.setAxState, Dev.reg_set_other _ _ hk.1, regs _ (by simp [hk])]

theorem level_stays {b : Bool} {c : Nat} (hc : c < 16) (f : Dev → Dev) (runs : exec i s = s.answerCell fun d => d.liveIf (n < 128)
    fun d => f (d.setControlBit n c b)) (result : f (s.found.setControlBit n c b) = s.found.setControlBit n c b) : Does i s fun b' a =>
      a.axState n = b'.axState n ∧ a.bit (Reg.AX1_CONTROL n) c = b ∧ b'.Keeps a [.od] ∧ b'.KeepsRegs a [Reg.AX1_CONTROL n] := by
  have bit := s.found.bit_setControlBit hn hc b
  have kept : s.found.Keeps (s.found.setControlBit n c b) [.od] := s.found.keeps_set _ _
  have regs : s.found.KeepsRegs (s.found.setControlBit n c b) [Reg.AX1_CONTROL n] := fun k hk => Dev.reg_set_other _ _ (by simpa using hk)
  generalize made : s.found.setControlBit n c b = d at bit kept regs result
  have leaves : Leaves i s d := axis_leaves live hn runs ((congrArg f made).trans result) kept
  refine leaves.quietly (kept .event (by decide)) ⟨?_, bit, kept, regs⟩
  rw [Dev.axState, Dev.nat, regs _ (by simp), ← Dev.nat, ← Dev.axState]

end

section
variable {d : Dev} {n : Nat} (hn : n < 128)
include hn

theorem Dev.axState_setControlBit (c : Nat) (b : Bool) : (d.setControlBit n c b).axState n = d.axState n := by
  rw [Dev.axState, Dev.setControlBit, Dev.nat, Dev.reg_set_other _ _ (controlRegs_apart hn).1.symm, ← Dev.nat, ← Dev.axState]

theorem Dev.slsActive_setControlBit (c : Nat) (b : Bool) : (d.setControlBit n c b).slsActive n = d.slsActive n := by
  rw [Dev.slsActive, Dev.slsActive, Dev.flag, Dev.flag, Dev.setControlBit, Dev.reg_set_other _ _ (controlRegs_apart hn).2.1.symm]

theorem Dev.state_setControlBit (c : Nat) (b : Bool) : (d.setControlBit n c b).state = d.state := by
  have apart : Reg.AX1_CONTROL n ≠ Reg.R1001_DEV_STATE := by
    revert n
    decide +kernel
  rw [Dev.state, Dev.state, Dev.setControlBit, Dev.nat, Dev.reg_set_other _ _ apart.symm, ← Dev.nat]

end

/-- Settles O24: each level of the control word leads from its state to the next one where its condition holds, and else stays. -/
theorem controlWord : Obligations.ControlWord := by
  unfold Obligations.ControlWord
  intro n s live hn bitIs regs d e
  have on := s.found.bit_setControlBit hn (i := 1) (by decide) true
  have kept : s.found.Keeps e [.od] := s.found.keeps_set _ _
  have ready (st : d.axState n = AxState.ready) : e.axState n = AxState.ready := (Dev.axState_setControlBit hn _ _).trans st
  have enables (st : d.axState n = AxState.ready) : e.enableLevel n = e.tryEnable n := (if_pos on).trans (if_pos (ready st))
  refine ⟨fun disabled drive => ?_, fun st => ?_, fun st runs fault sto group test skew => ?_, fun st why => ?_, fun st => ?_,
    fun fault present off => ?_, fun fault present closed => ?_, fun out => ?_, fun st sls => ?_, fun st sls => ?_, fun st moves => ?_,
    fun st rest still => ?_⟩
  · refine level_shows live hn (by decide) (Dev.switchLevel · n) rfl (by decide) (if_pos ⟨?_, ?_⟩)
    · exact (Dev.axState_setControlBit hn _ _).trans disabled
    · rw [s.found.bit_setControlBit hn (by decide)]
      exact drive
  · have cleared := s.found.bit_setControlBit hn (i := 0) (by decide) false
    refine level_shows live hn (by decide) (Dev.switchLevel · n) rfl (by decide) ((if_neg ?_).trans (if_pos ⟨?_, ?_⟩))
    · rw [cleared]
      simp
    · exact (Dev.axState_setControlBit hn _ _).trans st
    · rw [cleared]
      rfl
  · have same : e.state = d.state := Dev.state_setControlBit hn _ _
    have closes : e.tryEnable n = e.closeLoops n :=
      (if_neg (by simp [same, runs, fault, sto, group])).trans ((if_neg (by simp [test])).trans (if_neg (by simp [skew])))
    obtain ⟨f, made⟩ : ∃ f, f = e.closeLoops n := ⟨_, rfl⟩
    obtain ⟨state, ⟨t, axis⟩, point, vel, acc, reaction, keeps, parts⟩ := e.closeLoops_shows hn made
    have all := (kept.mono (m := [.od, .axes, .safe]) (by decide)).step parts
    have leaves : Leaves (.enable n true) s f := axis_leaves live hn rfl ((enables st).trans (closes.trans made.symm)) all
    rw [Dev.measured_congr (kept.axis n)] at point
    refine leaves.quietly (all .event (by decide)) ⟨state, ?_, point, vel, acc, reaction, by rw [axis]; rfl, by rw [axis]; rfl, by rw [axis]; rfl,
      by rw [axis]; rfl, by rw [axis]; rfl, by rw [axis]; rfl, all⟩
    exact (congrArg (fun x : Int => x.toNat.testBit 1) (keeps _ (controlClosed_apart hn))).trans on
  · have stays : e.tryEnable n = e := by
      have same : e.state = d.state := Dev.state_setControlBit hn _ _
      refine if_pos ?_
      rcases why with fault | sto | runs
      · exact .inr (.inl fault)
      · exact .inr (.inr (.inl sto))
      · exact .inl (same.symm ▸ runs)
    obtain ⟨a, ran, state, shown⟩ := level_stays live hn (i := .enable n true) (by decide) (Dev.enableLevel · n) rfl ((enables st).trans stays)
    exact ⟨a, ran, state.trans st, shown⟩
  · have off := s.found.bit_setControlBit hn (i := 1) (by decide) false
    have kept : s.found.Keeps (s.found.setControlBit n 1 false) [.od] := s.found.keeps_set _ _
    have state : (s.found.setControlBit n 1 false).axState n = d.axState n := Dev.axState_setControlBit hn _ _
    rw [← state] at st
    generalize made : s.found.setControlBit n 1 false = f at *
    obtain ⟨g, stops⟩ : ∃ g, g = (((((f.chainStop n).abortInjection n).abandonHoming n).normalStop n).setAxState n AxState.stopping).modAxis n
      (·.disabling) := ⟨_, rfl⟩
    obtain ⟨state', why, command, parts⟩ := f.enableCleared_shows hn stops
    have result : f.enableLevel n = g := by
      rw [stops]
      exact (if_neg (by rw [off]; decide)).trans (if_pos st)
    have leaves : Leaves (.enable n false) s g := axis_leaves live hn (f := fun d => (d.setControlBit n 1 false).enableLevel n) rfl
      ((congrArg (Dev.enableLevel · n) made).trans result) ((kept.mono (m := reactionParts) (by decide)).step parts)
    exact leaves.does fun pend vecs => ⟨state', why, command⟩
  · obtain ⟨f, made⟩ : ∃ f, f = d.faultAck n := ⟨_, rfl⟩
    obtain ⟨safe, parts, shown⟩ := d.faultAck_shows hn fault present made
    rw [if_pos off] at shown
    obtain ⟨state, loops, reaction, keeps⟩ := shown
    have leaves : Leaves (.faultAck n) s f := axis_leaves live hn rfl made.symm parts
    exact leaves.quietly (parts .event (by decide)) ⟨state, loops, reaction, safe, parts, keeps⟩
  · obtain ⟨f, made⟩ : ∃ f, f = d.faultAck n := ⟨_, rfl⟩
    obtain ⟨safe, parts, shown⟩ := d.faultAck_shows hn fault present made
    rw [if_neg (by rw [closed]; decide)] at shown
    obtain ⟨state, point, vel, acc, motion⟩ := shown
    have leaves : Leaves (.faultAck n) s f := axis_leaves live hn rfl made.symm parts
    exact leaves.quietly (parts .event (by decide)) ⟨state, point, vel, acc, motion, safe, parts⟩
  · have leaves : Leaves (.faultAck n) s s.found := axis_leaves live hn (f := (Dev.faultAck · n)) rfl (l := []) (if_pos out) (Dev.Keeps.refl _ _)
    exact leaves.unchanged
  · have on := s.found.bit_setControlBit hn (i := 3) (by decide) true
    refine level_shows live hn (by decide) (Dev.testLevel · n) rfl (by decide) (if_pos ⟨?_, ?_⟩)
    · exact (Dev.axState_setControlBit hn _ _).trans st
    · rw [on, Dev.slsActive_setControlBit hn]
      exact sls
  · have off : (s.found.setControlBit n 3 true).slsActive n = false := (Dev.slsActive_setControlBit hn _ _).trans sls
    have state : (s.found.setControlBit n 3 true).axState n = AxState.enabled := (Dev.axState_setControlBit hn _ _).trans st
    obtain ⟨a, ran, state', shown⟩ := level_stays live hn (i := .testReq n true) (by decide) (Dev.testLevel · n) rfl
      ((if_neg (by rw [off]; simp)).trans (if_neg (by rw [state]; simp)))
    exact ⟨a, ran, state'.trans st, shown⟩
  · obtain ⟨f, made⟩ : ∃ f, f = (s.found.setControlBit n 3 false).testLevel n := ⟨_, rfl⟩
    obtain ⟨parts, goes, -⟩ := (s.found.setControlBit n 3 false).testLevel_shows hn ((Dev.axState_setControlBit hn _ _).trans st)
      (s.found.bit_setControlBit hn (by decide) _) made
    have kept : s.found.Keeps (s.found.setControlBit n 3 false) [.od] := s.found.keeps_set _ _
    have leaves : Leaves (.testReq n false) s f := axis_leaves live hn rfl made.symm ((kept.mono (m := reactionParts) (by decide)).step parts)
    rw [kept.axis n] at goes
    exact leaves.does fun pend vecs => goes moves
  · obtain ⟨f, made⟩ : ∃ f, f = (s.found.setControlBit n 3 false).testLevel n := ⟨_, rfl⟩
    obtain ⟨parts, -, ends⟩ := (s.found.setControlBit n 3 false).testLevel_shows hn ((Dev.axState_setControlBit hn _ _).trans st)
      (s.found.bit_setControlBit hn (by decide) _) made
    have kept : s.found.Keeps (s.found.setControlBit n 3 false) [.od] := s.found.keeps_set _ _
    have leaves : Leaves (.testReq n false) s f := axis_leaves live hn rfl made.symm ((kept.mono (m := reactionParts) (by decide)).step parts)
    rw [kept.axis n] at ends
    exact leaves.does fun pend vecs => ends rest still

end Sys2Proof.Machine
end

section
/-! # A moving axis of no chain takes a reaction (R15, R16, R96) -/

namespace Sys2Proof.Machine

section
variable {d : Dev} {n : Nat}

/-- The entries of an axis that a reaction of it writes, beside those of its generator and of the log. -/
abbrev struckRegs (n : Nat) : List Nat := [Reg.AX1_REACTION n, Reg.AX1_STATE n, Reg.AX11_HOME_STATE n, Reg.R5080_SAFE_STATE n,
  Reg.AX13_INJ_GEN n] ++ logRegs

theorem struckRegs_apart {n : Nat} (hn : n < 128) : Reg.AX1_REACTION n ≠ Reg.AX1_STATE n ∧ Reg.AX1_REACTION n ≠ Reg.R5080_SAFE_STATE n ∧
    Reg.AX1_REACTION n ≠ Reg.AX11_HOME_STATE n ∧ Reg.AX1_REACTION n ∉ Reg.AX13_INJ_GEN n :: logRegs ∧
    Reg.AX1_REACTION n / 4096 ≠ 0x343 ∧ Reg.AX1_STATE n ≠ Reg.R5080_SAFE_STATE n ∧ Reg.AX1_STATE n ∉ logRegs ∧
    odType (Reg.AX1_REACTION n) = .u8 := by
  revert n
  decide +kernel

theorem Dev.regs_abortInjection (d : Dev) (n : Nat) {k : Nat} (own : k ∉ Reg.AX13_INJ_GEN n :: logRegs) (gen : k / 4096 ≠ 0x343) :
    (d.abortInjection n).reg k = d.reg k := by
  obtain ⟨inj, log⟩ := not_or.1 (mt List.mem_cons.2 own)
  refine iterate_holds (fun e : Dev => e.reg k = d.reg k) _ _ (fun g hg e same => ?_) rfl
  dsimp only
  split
  · have apart : k ≠ Reg.R3430_STATE g ∧ k ≠ Reg.R3430_STATUS g := by
      simp only [Reg.R3430_STATE, Reg.R3430_STATUS, Reg.key]
      omega
    rw [Dev.reg_raise _ _ _ _ _ _ log, Dev.reg_set_other _ _ inj, Dev.reg_set_other _ _ apart.2, Dev.reg_set_other _ _ apart.1,
      Dev.reg_setGen, same]
  · exact same

/-- An axis of no chain on its ramp: where none ran, from the present state. -/
def Axis.ramped (a : Axis) (t raw : Nat) (p : Plan) : Axis :=
  { a with plan := some p, planT := 0, motion := .ramp, replan := false, rampAt := t, rampRaw := raw, rampBy := 0 }

theorem Dev.emergencyRamp_alone (d : Dev) (free : d.chainOf n = none) (rest : (d.axis n).motion ≠ .ramp) :
    (d.emergencyRamp n).axis n = (d.axis n).ramped d.rampTick d.rampSi
      (stopPlan (d.setpoint n) (d.setVel n) (d.setAcc n) (d.emDec n) (d.emJerk n)) := by
  have fresh : d.freshStop n = d := by
    unfold Dev.freshStop
    rw [free]
  have ramps : d.emergencyRamp n = ((d.freshStop n).startPlan n .ramp (stopPlan ((d.freshStop n).setpoint n) ((d.freshStop n).setVel n)
      ((d.freshStop n).setAcc n) ((d.freshStop n).emDec n) ((d.freshStop n).emJerk n))).setAxSafe n
      { (d.freshStop n).axSafe n with v0 := none } := if_neg rest
  rw [ramps, fresh]
  change ((d.startPlan n .ramp _).axis n) = _
  rw [Dev.startPlan, Dev.axis_modAxis]
  rfl

/-- What a ramp leaves of an axis. -/
theorem Dev.emergencyRamp_leaves (d : Dev) (free : d.chainOf n = none) : ((d.emergencyRamp n).axis n).reactNow = (d.axis n).reactNow ∧
    ((d.emergencyRamp n).axis n).reactTick = (d.axis n).reactTick ∧ ((d.emergencyRamp n).axis n).cause = (d.axis n).cause := by
  by_cases ramp : (d.axis n).motion = .ramp
  · have same : d.emergencyRamp n = d := if_pos ramp
    rw [same]
    exact ⟨rfl, rfl, rfl⟩
  · rw [d.emergencyRamp_alone free ramp]
    exact ⟨rfl, rfl, rfl⟩

/-! ## QSTOP and SS1 -/

/-- An axis of no chain has taken a reaction that ramps it down. -/
structure Dev.Ramps (d e : Dev) (n code r : Nat) : Prop where
  state : e.axState n = AxState.stopping
  reaction : e.reg (Reg.AX1_REACTION n) = r
  now : (e.axis n).reactNow = r
  tick : (e.axis n).reactTick = d.tickAbs
  cause : (e.axis n).cause = code
  motion : (e.axis n).motion = .ramp
  why : (e.axis n).stopWhy = .reaction r
  regs : ∀ k, k ∉ struckRegs n → k / 4096 ≠ 0x343 → e.reg k = d.reg k

/-- An axis that a reaction takes. -/
def Axis.reacted (a : Axis) (r t code : Nat) : Axis := { a with reactNow := r, reactTick := t, cause := code }

/-- An axis that stops by a reaction. -/
def Axis.reacting (a : Axis) (r : Nat) : Axis := { a with stopWhy := .reaction r, softStop := false, command := none }

/-- The monitoring of SS1 and SS2 begins. -/
def Dev.monitors (d : Dev) (n r : Nat) : Dev :=
  (d.setAxSafe n { d.axSafe n with stopKind := r, chainStp := false, still := 0, atRest := false, blind := false }).set
    (Reg.R5080_SAFE_STATE n) (if r = Reaction.ss1 then 1 else 2)

/-- An axis with its reaction named. -/
def Dev.named (d : Dev) (n code r : Nat) : Dev := (d.set (Reg.AX1_REACTION n) r).modAxis n (·.reacted r d.tickAbs code)

/-- The ramp of a reaction, marked with it. -/
def Dev.rampsBy (d : Dev) (n r : Nat) : Dev :=
  (d.emergencyRamp n).when (decide ((d.axis n).motion ≠ .ramp ∨ (d.axis n).rampAt = d.rampTick) && r != Reaction.hold) fun d =>
    d.modAxis n fun a => { a with rampBy := r }

/-- An axis of closed loops stops by its reaction. -/
def Dev.brakes (d : Dev) (n r : Nat) : Dev :=
  (((d.rampsBy n r).setAxState n AxState.stopping).modAxis n (·.reacting r)).when (r == Reaction.ss1 || r == Reaction.ss2) (·.monitors n r)

theorem Dev.carryOut_brakes (d : Dev) (n code : Nat) {r : Nat} (brakes : r = Reaction.qstop ∨ r = Reaction.ss1) :
    d.carryOut n code r = ((((d.named n code r).abortInjection n).abandonHoming n).brakes n r).chainStop n := by
  have other : r ≠ Reaction.sto ∧ r ≠ Reaction.hold := by rcases brakes with rfl | rfl <;> decide
  unfold Dev.carryOut
  extract_lets named homing began ramp by_ stopping monitored
  rw [if_neg other.1]
  have begins : homing = ((d.named n code r).abortInjection n).abandonHoming n := rfl
  rw [← begins]
  have ramps : ramp = homing.emergencyRamp n := if_neg other.2
  have marks : by_ = homing.rampsBy n r := by
    change ramp.when (began && r != Reaction.hold) _ = _
    rw [ramps]
    rfl
  have monitors : monitored = homing.brakes n r := by
    rw [Dev.brakes, ← marks]
    rfl
  rw [monitors]

theorem Dev.chainStop_none (free : d.chainOf n = none) : d.chainStop n = d := by
  unfold Dev.chainStop
  rw [free]

theorem Dev.rampsBy_alone (d : Dev) (free : d.chainOf n = none) (r : Nat) : ((d.rampsBy n r).axis n).reactNow = (d.axis n).reactNow ∧
    ((d.rampsBy n r).axis n).reactTick = (d.axis n).reactTick ∧ ((d.rampsBy n r).axis n).cause = (d.axis n).cause ∧
    ((d.rampsBy n r).axis n).motion = .ramp ∧ d.Keeps (d.rampsBy n r) [.axes, .chains, .safe] := by
  obtain ⟨now, tick, cause⟩ := d.emergencyRamp_leaves free
  have motion := d.emergencyRamp_ramps n
  have kept := d.keeps_emergencyRamp n
  unfold Dev.rampsBy
  generalize d.emergencyRamp n = e at *
  generalize (decide ((d.axis n).motion ≠ .ramp ∨ (d.axis n).rampAt = d.rampTick) && r != Reaction.hold) = b
  cases b
  · exact ⟨now, tick, cause, motion, kept⟩
  · have marks : (e.when true fun d => d.modAxis n fun a => { a with rampBy := r }) = e.modAxis n fun a => { a with rampBy := r } := rfl
    rw [marks, Dev.axis_modAxis]
    exact ⟨now, tick, cause, motion, kept.modAxis _ _⟩

theorem Dev.brakes_alone (d : Dev) (hn : n < 128) (free : d.chainOf n = none) (r : Nat) {e : Dev} (made : e = d.brakes n r) :
    e.axState n = AxState.stopping ∧ (e.axis n).reactNow = (d.axis n).reactNow ∧ (e.axis n).reactTick = (d.axis n).reactTick ∧
    (e.axis n).cause = (d.axis n).cause ∧ (e.axis n).motion = .ramp ∧ (e.axis n).stopWhy = .reaction r ∧
    d.KeepsRegs e [Reg.AX1_STATE n, Reg.R5080_SAFE_STATE n] := by
  obtain ⟨-, -, -, -, -, apart, -, -⟩ := struckRegs_apart hn
  obtain ⟨now, tick, cause, motion, kept⟩ := d.rampsBy_alone free r
  unfold Dev.brakes at made
  generalize d.rampsBy n r = d₁ at *
  have state := d₁.axState_set hn (st := AxState.stopping) (by decide)
  obtain ⟨d₂, stops⟩ : ∃ d₂, d₂ = (d₁.setAxState n AxState.stopping).modAxis n (·.reacting r) := ⟨_, rfl⟩
  have state₂ : d₂.axState n = AxState.stopping := by rw [stops]; exact state
  have axis₂ : d₂.axis n = (d₁.axis n).reacting r := by rw [stops, Dev.axis_modAxis, Dev.setAxState, Dev.axis_set]
  have regs₂ : d.KeepsRegs d₂ [Reg.AX1_STATE n] := fun k hk => by
    rw [stops, Dev.reg_modAxis, Dev.setAxState, Dev.reg_set_other _ _ (by simpa using hk), Dev.reg_congr (kept .od (by decide))]
  rw [← stops] at made
  clear stops state
  have shows : e.axis n = d₂.axis n ∧ d₂.KeepsRegs e [Reg.R5080_SAFE_STATE n] := by
    rw [made]
    generalize (r == Reaction.ss1 || r == Reaction.ss2) = b
    cases b
    · exact ⟨rfl, fun _ _ => rfl⟩
    · have monitored : d₂.when true (·.monitors n r) = d₂.monitors n r := rfl
      rw [monitored, Dev.monitors, Dev.axis_set]
      exact ⟨rfl, fun k hk => Dev.reg_set_other _ _ (by simpa using hk)⟩
  obtain ⟨axis, regs⟩ := shows
  rw [axis₂] at axis
  rw [axis]
  refine ⟨?_, now, tick, cause, motion, rfl, fun k hk => ?_⟩
  · rw [Dev.axState, Dev.nat, regs _ (by simpa using apart), ← Dev.nat, ← Dev.axState, state₂]
  · simp only [List.mem_cons, List.not_mem_nil, or_false, not_or] at hk
    rw [regs _ (by simp [hk.2]), regs₂ _ (by simp [hk.1])]

theorem Dev.Reacts.brakes {N C : Nat → Prop} {e : Dev} (h : d.Reacts N C e) (may : d.MayStop N C n) (r : Nat) : d.Reacts N C (e.brakes n r) := by
  have ramp := h.emergencyRamp may
  unfold Dev.brakes Dev.rampsBy
  generalize e.emergencyRamp n = f at *
  exact (((ramp.when _ _ ((Dev.Reacts.refl _ _ _).modAxis may.own _)).setAxState may.own may.low _).modAxis may.own _).when _ _
    (((Dev.Reacts.refl _ _ _).setAxSafe may.own _).setOwn may.own may.low _)

theorem Dev.carryOut_ramps (d : Dev) (hn : n < 128) (free : d.chainOf n = none) (code : Nat) {r : Nat}
    (brakes : r = Reaction.qstop ∨ r = Reaction.ss1) {e : Dev} (made : e = d.carryOut n code r) : d.Ramps e n code r := by
  have low : n < 256 := by omega
  obtain ⟨apart₀, apart₁, apart₂, apart₃, apart₄, -, -, type⟩ := struckRegs_apart hn
  have reacts : d.Reacts (· = n) (fun _ => False) (d.named n code r) :=
    ((Dev.Reacts.refl (· = n) (fun _ => False) d).setOwn (n := n) rfl low (k := Reg.AX1_REACTION n) r).modAxis rfl _
  have axis₁ : (d.named n code r).axis n = (d.axis n).reacted r d.tickAbs code := by
    rw [Dev.named, Dev.axis_modAxis, Dev.axis_set]
  have regs₁ : d.KeepsRegs (d.named n code r) [Reg.AX1_REACTION n] := fun k hk => by
    rw [Dev.named, Dev.reg_modAxis, Dev.reg_set_other _ _ (by simpa using hk)]
  have reaction₁ : (d.named n code r).reg (Reg.AX1_REACTION n) = r := by
    rw [Dev.named, Dev.reg_modAxis, Dev.reg_set_same, type]
    rcases brakes with rfl | rfl <;> rfl
  rw [Dev.carryOut_brakes d n code brakes] at made
  generalize d.named n code r = d₁ at *
  have reacts₂ := (reacts.abortInjection rfl low).abandonHoming rfl low
  have axis₂ : ((d₁.abortInjection n).abandonHoming n).axis n = d₁.axis n := by
    rw [Dev.abandonHoming, Dev.axis_set, (d₁.keeps_abortInjection n).axis n]
  have regs₂ : ∀ k, k ≠ Reg.AX11_HOME_STATE n → k ∉ Reg.AX13_INJ_GEN n :: logRegs → k / 4096 ≠ 0x343 →
      ((d₁.abortInjection n).abandonHoming n).reg k = d₁.reg k := fun k home own gen => by
    rw [Dev.abandonHoming, Dev.reg_set_other _ _ home, d₁.regs_abortInjection n own gen]
  generalize (d₁.abortInjection n).abandonHoming n = d₂ at *
  obtain ⟨d₃, stops⟩ : ∃ d₃, d₃ = d₂.brakes n r := ⟨_, rfl⟩
  have free₂ : d₂.chainOf n = none := (reacts₂.chainOf n).trans free
  obtain ⟨state, now, tick, cause, motion, why, regs₃⟩ := d₂.brakes_alone hn free₂ r stops
  have brakes_reacts : d.Reacts (· = n) (fun _ => False) d₃ := by
    rw [stops]
    exact reacts₂.brakes (Dev.MayReact.alone d low free).toMayStop r
  rw [← stops, Dev.chainStop_none ((brakes_reacts.chainOf n).trans free)] at made
  rw [made]
  rw [axis₂, axis₁] at now tick cause
  refine ⟨state, ?_, now, tick, cause, motion, why, fun k hk gen => ?_⟩
  · rw [regs₃ _ (by simp only [List.mem_cons, List.not_mem_nil, or_false, not_or]; exact ⟨apart₀, apart₁⟩), regs₂ _ apart₂ apart₃ apart₄, reaction₁]
  · simp only [struckRegs, List.cons_append, List.nil_append, List.mem_cons, not_or] at hk
    obtain ⟨reaction, state', home, safe, inj, log⟩ := hk
    rw [regs₃ _ (by simp [state', safe]), regs₂ _ home (by simp only [List.mem_cons, not_or]; exact ⟨inj, log⟩) gen, regs₁ _ (by simp [reaction])]

/-! ## The reaction demanded -/

/-- A moving axis with no reaction in progress takes it. -/
theorem Dev.react_moving (moving : d.axState n = AxState.moving) (quiet : (d.axis n).reactNow = 0) {code r : Nat}
    (strong : r = Reaction.qstop ∨ r = Reaction.ss1 ∨ r = Reaction.sto) : d.react n code r = d.carryOut n code r := by
  unfold Dev.react
  dsimp only
  rw [moving, quiet, if_neg (by rcases strong with rfl | rfl | rfl <;> decide), if_neg (by decide), if_neg (by decide), if_neg (by decide),
    if_pos rfl]

theorem Dev.Ramps.of_keeps {d d' e : Dev} {code r : Nat} (h : d'.Ramps e n code r) (kept : d.Keeps d' [.od, .log, .event])
    (regs : d.KeepsRegs d' logRegs) : d.Ramps e n code r where
  state := h.state
  reaction := h.reaction
  now := h.now
  tick := h.tick.trans (by rw [Dev.tickAbs, Dev.tickAbs, show d'.clk = d.clk from kept .clk (by decide)])
  cause := h.cause
  motion := h.motion
  why := h.why
  regs := fun k hk gen => (h.regs k hk gen).trans (regs k fun mem => hk (List.mem_append_right _ mem))

/-- A code raised on a moving axis of no chain, with QSTOP or SS1. -/
theorem Dev.fault_ramps (d : Dev) (hn : n < 128) (free : d.chainOf n = none) (moving : d.axState n = AxState.moving)
    (quiet : (d.axis n).reactNow = 0) (code : Nat) {r : Nat} (brakes : r = Reaction.qstop ∨ r = Reaction.ss1) (detail : Nat) {e : Dev}
    (made : e = d.fault n code r detail) : d.Ramps e n code r ∧ d.Reacts (· = n) (fun _ => False) e := by
  have low : n < 256 := by omega
  have kept := d.keeps_raise code Kind.axis n r detail
  have regs := d.keepsRegs_raise code Kind.axis n r detail
  have reacts := (Dev.Reacts.refl (· = n) (fun _ => False) d).raise code Kind.axis n r detail
  have all := (Dev.Reacts.refl (· = n) (fun _ => False) d).fault (.alone d low free) code r detail
  rw [← made] at all
  refine ⟨?_, all⟩
  rw [Dev.fault] at made
  generalize d.raise code Kind.axis n r detail = f at *
  have state : f.axState n = AxState.moving := by
    rw [Dev.axState, Dev.nat, regs _ (struckRegs_apart hn).2.2.2.2.2.2.1, ← Dev.nat, ← Dev.axState, moving]
  rw [Dev.react_moving state (by rw [kept.axis n, quiet]) (by tauto)] at made
  exact (f.carryOut_ramps hn ((reacts.chainOf n).trans free) code brakes made).of_keeps kept regs

end
end Sys2Proof.Machine
end

section
/-! # The ends of plans and stops, the limits, the lost source (R95, R96, R101, R105, R118) -/

namespace Sys2Proof.Machine

section
variable {d : Dev} {n : Nat} {p : Plan} {f : Int}

theorem endRegs_apart {n : Nat} (hn : n < 128) :
    Reg.AX5_SETPOINT n ∉ [Reg.AX5_SET_VEL n, Reg.AX5_SET_ACC n, Reg.AX5_ACTIVE_CMD n, Reg.AX5_FLAGS n, Reg.AX1_STATE n, Reg.AX1_FAULT_CODE n] ∧
    Reg.AX5_SET_VEL n ∉ [Reg.AX5_SET_ACC n, Reg.AX5_ACTIVE_CMD n, Reg.AX5_FLAGS n, Reg.AX1_STATE n, Reg.AX1_FAULT_CODE n] ∧
    Reg.AX5_SET_ACC n ∉ [Reg.AX5_ACTIVE_CMD n, Reg.AX5_FLAGS n, Reg.AX1_STATE n, Reg.AX1_FAULT_CODE n] ∧
    Reg.AX5_ACTIVE_CMD n ∉ [Reg.AX5_FLAGS n, Reg.AX1_STATE n, Reg.AX1_FAULT_CODE n] ∧ Reg.AX5_FLAGS n ≠ Reg.AX1_STATE n ∧
    Reg.AX1_STATE n ≠ Reg.AX1_FAULT_CODE n ∧ Reg.AX1_STATE n ∉ Reg.AX5_FLAGS n :: laidRegs n ∧
    Reg.AX11_HOME_STATE n ∉ Reg.AX5_FLAGS n :: laidRegs n := by
  revert n
  decide +kernel

/-- The set-point on a target at rest, with no command in progress. -/
def Dev.lands (d : Dev) (n : Nat) (target : Int) : Dev := (d.emit n target 0 0).set (Reg.AX5_ACTIVE_CMD n) 0

theorem Dev.lands_shows (d : Dev) (hn : n < 128) (target : Int) :
    (d.lands n target).reg (Reg.AX5_SETPOINT n) = (odType (Reg.AX5_SETPOINT n)).wrap target ∧
    (d.lands n target).reg (Reg.AX5_SET_VEL n) = 0 ∧ (d.lands n target).reg (Reg.AX5_SET_ACC n) = 0 ∧
    (d.lands n target).reg (Reg.AX5_ACTIVE_CMD n) = 0 ∧ d.KeepsRegs (d.lands n target) (laidRegs n) ∧ d.Keeps (d.lands n target) [.od] := by
  obtain ⟨apart₀, apart₁, apart₂, -⟩ := endRegs_apart hn
  simp only [List.mem_cons, List.not_mem_nil, or_false, not_or] at apart₀ apart₁ apart₂
  rw [Dev.lands, Dev.emit, Dev.reg_set_other _ _ apart₀.2.2.1, Dev.reg_set_other _ _ apart₀.2.1, Dev.reg_set_other _ _ apart₀.1,
    Dev.reg_set_same, Dev.reg_set_other _ _ apart₁.2.1, Dev.reg_set_other _ _ apart₁.1, Dev.reg_set_same, OdType.wrap_zero,
    Dev.reg_set_other _ _ apart₂.1, Dev.reg_set_same, OdType.wrap_zero, Dev.reg_set_same, OdType.wrap_zero]
  refine ⟨rfl, rfl, rfl, rfl, fun k hk => ?_, ((((Dev.Keeps.refl d _).set _ _).set _ _).set _ _).set _ _⟩
  simp only [List.mem_cons, List.not_mem_nil, or_false, not_or] at hk
  rw [Dev.reg_set_other _ _ hk.2.2.2, Dev.reg_set_other _ _ hk.2.2.1, Dev.reg_set_other _ _ hk.2.1, Dev.reg_set_other _ _ hk.1]

/-! ## PLAN_END -/

/-- An axis whose plan has ended. -/
def Axis.planEnded (a : Axis) : Axis := { a with plan := none, motion := .rest, baseTgt := none, softStop := false }

theorem Dev.set_modAxis (d : Dev) (n k : Nat) (g : Axis → Axis) (v : Int) : (d.modAxis n g).set k v = (d.set k v).modAxis n g := rfl

theorem Dev.planDone_of_ended (plan : (d.axis n).plan = some p) (final : p.final = some f) (over_ : ended p.time (d.axis n).planT = true) :
    d.planDone n = true := by
  unfold Dev.planDone
  rw [plan]
  simp [final, over_]

/-- The device when a plan has ended, its axis still in its state. -/
def Dev.arrives (d : Dev) (n : Nat) (target : Int) : Dev := ((d.lands n target).modAxis n (·.planEnded)).addFlags n Flag.inTarget

theorem Dev.arrives_shows (d : Dev) (hn : n < 128) (target : Int) {e : Dev} (made : e = d.arrives n target) :
    e.reg (Reg.AX5_SETPOINT n) = (odType (Reg.AX5_SETPOINT n)).wrap target ∧ e.reg (Reg.AX5_SET_VEL n) = 0 ∧
    e.reg (Reg.AX5_SET_ACC n) = 0 ∧ e.reg (Reg.AX5_ACTIVE_CMD n) = 0 ∧ e.bit (Reg.AX5_FLAGS n) 0 = true ∧
    e.axis n = (d.axis n).planEnded ∧ d.KeepsRegs e (Reg.AX5_FLAGS n :: laidRegs n) ∧ d.Keeps e [.od, .axes] := by
  obtain ⟨apart₀, apart₁, apart₂, apart₃, -⟩ := endRegs_apart hn
  obtain ⟨point, vel, acc, active, regs, kept⟩ := d.lands_shows hn target
  simp only [List.mem_cons, List.not_mem_nil, or_false, not_or] at apart₀ apart₁ apart₂ apart₃
  unfold Dev.arrives at made
  have axis := kept.axis n
  generalize d.lands n target = f at *
  have flags := (f.modAxis n (·.planEnded)).bit_orBits (odType_ofMotion hn).2.1 Flag.inTarget (i := 0) (by decide)
  change ((f.modAxis n (·.planEnded)).addFlags n Flag.inTarget).bit _ 0 = _ at flags
  have told : (f.modAxis n (·.planEnded)).KeepsRegs e [Reg.AX5_FLAGS n] := fun k hk => by
    rw [made, Dev.addFlags, Dev.orBits, Dev.reg_set_other _ _ (by simpa using hk)]
  have kept' : d.Keeps e [.od, .axes] := by
    rw [made]
    exact ((kept.mono (by decide)).modAxis _ _).set _ _
  have axis' : e.axis n = (d.axis n).planEnded := by
    rw [made, Dev.addFlags, Dev.orBits, Dev.axis_set, Dev.axis_modAxis, axis]
  rw [← made] at flags
  refine ⟨?_, ?_, ?_, ?_, ?_, axis', fun k hk => ?_, kept'⟩
  · rw [told _ (by simp only [List.mem_cons, List.not_mem_nil, or_false]; exact apart₀.2.2.2.1), Dev.reg_modAxis, point]
  · rw [told _ (by simp only [List.mem_cons, List.not_mem_nil, or_false]; exact apart₁.2.2.1), Dev.reg_modAxis, vel]
  · rw [told _ (by simp only [List.mem_cons, List.not_mem_nil, or_false]; exact apart₂.2.1), Dev.reg_modAxis, acc]
  · rw [told _ (by simp only [List.mem_cons, List.not_mem_nil, or_false]; exact apart₃.1), Dev.reg_modAxis, active]
  · rw [flags]
    simp
  · obtain ⟨flag, laid⟩ := not_or.1 (mt List.mem_cons.2 hk)
    rw [told _ (by simpa using flag), Dev.reg_modAxis, regs _ laid]

theorem Dev.planEnd_ends (d : Dev) (hn : n < 128) (moves : d.axState n = AxState.moving ∨ d.axState n = AxState.test)
    (plan : (d.axis n).plan = some p) (final : p.final = some f) (over_ : ended p.time (d.axis n).planT = true)
    (hard : (d.axis n).softStop = false) (idle : d.nat (Reg.AX11_HOME_STATE n) = HomeState.idle) {e : Dev} (made : e = d.arrives n f) :
    d.planEnd n = if d.axState n = AxState.moving then e.setAxState n AxState.enabled else e := by
  have target : ((d.axis n).plan.bind fun p => p.final).getD (d.setpoint n) = f := by rw [plan, Option.bind_some, final, Option.getD_some]
  have goes : ¬((d.axState n ≠ AxState.moving ∧ d.axState n ≠ AxState.test) ∨ (d.axis n).plan.isNone = true ∨ d.planDone n = false) := by
    rw [Dev.planDone_of_ended plan final over_, plan]
    simp only [Option.isNone_some, Bool.false_eq_true, Bool.true_eq_false, or_false]
    exact fun out => moves.elim out.1 out.2
  have home : e.homeState n = HomeState.idle := by
    obtain ⟨-, -, -, -, -, -, regs, -⟩ := d.arrives_shows hn f made
    rw [Dev.homeState, Dev.nat, regs _ (endRegs_apart hn).2.2.2.2.2.2.2, ← Dev.nat, idle]
  unfold Dev.planEnd
  extract_lets a st target' tracked emitted rested told
  rw [if_neg goes, if_neg (by rw [hard]; simp)]
  have same : told = e := by
    have emits : emitted = d.emit n f 0 0 := congrArg (fun x => d.emit n x 0 0) target
    have tells : told = ((emitted.modAxis n (·.planEnded)).set (Reg.AX5_ACTIVE_CMD n) 0).addFlags n Flag.inTarget := rfl
    rw [tells, emits, made, Dev.set_modAxis, Dev.arrives, Dev.lands]
  rw [same, if_neg (by rw [home]; decide)]

/-! ## STANDSTILL -/

/-- An axis that stands still. -/
def Axis.stoodStill (a : Axis) : Axis := { a with plan := none, motion := .rest, baseTgt := none, softStop := false, stopWhy := .none }

/-- The device when a stop has ended, its axis still STOPPING. -/
def Dev.standsStill (d : Dev) (n : Nat) (target : Int) : Dev := (d.lands n target).modAxis n (·.stoodStill)

theorem Dev.standstill_ends (d : Dev) (stops : d.axState n = AxState.stopping)
    (plan : (d.axis n).plan = some p) (final : p.final = some f) (over_ : ended p.time (d.axis n).planT = true) :
    d.standstill n = match (d.axis n).stopWhy with
    | .none | .command | .quick => (d.standsStill n f).setAxState n AxState.enabled
    | .disable => ((d.standsStill n f).setAxState n AxState.ready).modAxis n fun a => { a with closedAt := none }
    | .reaction r => if r = Reaction.ss1 then d.lands n f
        else (((d.standsStill n f).setAxState n AxState.fault).set (Reg.AX1_FAULT_CODE n) (d.axis n).cause).modAxis n
          fun a => { a with loopsOff := false, reactNow := 0 } := by
  have target : ((d.axis n).plan.bind fun p => p.final).getD (d.setpoint n) = f := by rw [plan, Option.bind_some, final, Option.getD_some]
  have goes : ¬(d.axState n ≠ AxState.stopping ∨ d.planDone n = false) := by
    rw [Dev.planDone_of_ended plan final over_, stops]
    simp
  unfold Dev.standstill
  extract_lets a target' landed rest faulted
  have lands : landed = d.lands n f := by
    rw [← target]
    rfl
  rw [if_neg goes]
  unfold Dev.standsStill
  rw [← lands]
  clear_value landed
  rfl

theorem Dev.standsStill_shows (d : Dev) (hn : n < 128) (target : Int) {e : Dev} (made : e = d.standsStill n target) :
    e.reg (Reg.AX5_SETPOINT n) = (odType (Reg.AX5_SETPOINT n)).wrap target ∧ e.reg (Reg.AX5_SET_VEL n) = 0 ∧
    e.reg (Reg.AX5_SET_ACC n) = 0 ∧ e.axis n = (d.axis n).stoodStill ∧ d.Keeps e [.od, .axes] := by
  obtain ⟨point, vel, acc, -, -, kept⟩ := d.lands_shows hn target
  unfold Dev.standsStill at made
  have axis := kept.axis n
  generalize d.lands n target = f at *
  rw [made, Dev.reg_modAxis, Dev.reg_modAxis, Dev.reg_modAxis, Dev.axis_modAxis, axis]
  exact ⟨point, vel, acc, rfl, (kept.mono (by decide)).modAxis _ _⟩

/-- A stop that ends in a state of the axis. -/
theorem Dev.stopEnds_shows (d : Dev) (hn : n < 128) (target : Int) {st : Nat} (small : st < 2 ^ 8) {e : Dev}
    (made : e = (d.standsStill n target).setAxState n st) :
    (e.reg (Reg.AX5_SETPOINT n) = (odType (Reg.AX5_SETPOINT n)).wrap target ∧ e.reg (Reg.AX5_SET_VEL n) = 0 ∧
      e.reg (Reg.AX5_SET_ACC n) = 0) ∧ e.axState n = st ∧ e.axis n = (d.axis n).stoodStill ∧ d.Keeps e [.od, .axes] := by
  obtain ⟨apart₀, apart₁, apart₂, -⟩ := endRegs_apart hn
  simp only [List.mem_cons, List.not_mem_nil, or_false, not_or] at apart₀ apart₁ apart₂
  obtain ⟨f, stands⟩ : ∃ f, f = d.standsStill n target := ⟨_, rfl⟩
  obtain ⟨point, vel, acc, axis, kept⟩ := d.standsStill_shows hn target stands
  rw [← stands] at made
  have state := f.axState_set hn small
  rw [← made] at state
  have regs : ∀ k, k ≠ Reg.AX1_STATE n → e.reg k = f.reg k := fun k hk => by rw [made, Dev.setAxState, Dev.reg_set_other _ _ hk]
  have axis' : e.axis n = f.axis n := by rw [made, Dev.setAxState, Dev.axis_set]
  have keeps : d.Keeps e [.od, .axes] := by rw [made]; exact kept.set _ _
  rw [regs _ apart₀.2.2.2.2.1, regs _ apart₁.2.2.2.1, regs _ apart₂.2.2.1, axis']
  exact ⟨⟨point, vel, acc⟩, state, axis, keeps⟩

/-! ## LIMITS_WRITE -/

/-- An axis that keeps a limit in force and plans anew. -/
def Axis.keepsLimit (a : Axis) (k : Nat) (old : Int) : Axis :=
  { a with limKeep := if (a.limKeep.lookup k).isSome then a.limKeep else (k, old) :: a.limKeep, replan := true }

theorem Axis.keepsLimit_lookup (a : Axis) (k : Nat) (old : Int) :
    (a.keepsLimit k old).limKeep.lookup k = some ((a.limKeep.lookup k).getD old) := by
  unfold Axis.keepsLimit
  split
  next kept =>
    obtain ⟨v, hv⟩ := Option.isSome_iff_exists.1 kept
    simp [hv]
  next fresh =>
    rw [Bool.not_eq_true, Option.isSome_eq_false_iff, Option.isNone_iff_eq_none] at fresh
    simp [fresh]

/-- Whether a limit's value breaks the rule of the soft limits. -/
def Dev.softBroken (d : Dev) (n : Nat) : Prop :=
  d.reg (Reg.AX2_SOFT_EN n) ≠ 0 ∧ d.reg (Reg.AX2_SOFT_MAX n) ≤ d.reg (Reg.AX2_SOFT_MIN n)

theorem odType_of_entry {k i : Nat} {e : Entry} (entry : entryOf k = some (e, i)) : odType k = e.ty := by
  unfold odType
  rw [entry]

/-- A limit written: out of its range or against the rule it is refused, else it is kept for the next latch. -/
theorem Dev.limitsWrite_eq (d : Dev) (hn : n < 128) {obj sub i k : Nat} (v : Int) {e : Entry} (own : obj = 2 ∨ obj = 3)
    (key : Reg.key (0x2000 + 16 * n + obj) sub = k) (entry : entryOf k = some (e, i)) [Decidable ((d.set k v).softBroken n)] :
    d.limitsWrite n obj sub v = if e.rng.has (e.ty.wrap v) = false ∨ (obj = 2 ∧ (d.set k v).softBroken n)
      then d.finish Code.OD_RANGE
      else ((d.modAxis n (·.keepsLimit k (d.reg k))).set k (e.ty.wrap v)).finish Code.STATUS_OK := by
  have now : ∀ x, (if x = k then e.ty.wrap v else d.reg x) = (d.set k v).reg x := fun x => by rw [Dev.reg_set, odType_of_entry entry]
  unfold Dev.limitsWrite
  rw [key]
  dsimp only
  rw [entry]
  dsimp only
  rw [if_neg (by omega)]
  simp only [now]
  have same : ((!e.rng.has (e.ty.wrap v) || (obj == 2 && decide ((d.set k v).reg (Reg.AX2_SOFT_EN n) ≠ 0 ∧
      (d.set k v).reg (Reg.AX2_SOFT_MAX n) ≤ (d.set k v).reg (Reg.AX2_SOFT_MIN n)))) = true) ↔
      (e.rng.has (e.ty.wrap v) = false ∨ (obj = 2 ∧ (d.set k v).softBroken n)) := by
    simp only [Bool.or_eq_true, Bool.not_eq_true', Bool.and_eq_true, beq_iff_eq, decide_eq_true_eq, Dev.softBroken]
  simp only [same]
  rfl

theorem OdType.wrap_wrap (t : OdType) (v : Int) : t.wrap (t.wrap v) = t.wrap v := by
  cases t <;> simp [OdType.wrap, OdType.signed, OdType.size]

theorem limit_written {s : State} (up : s.Up) (hn : n < 128) {obj sub i k : Nat} {v : Int} {e : Entry} (own : obj = 2 ∨ obj = 3)
    (key : Reg.key (0x2000 + 16 * n + obj) sub = k) (entry : entryOf k = some (e, i)) (inside : e.rng.has (e.ty.wrap v) = true)
    (fits : ¬(obj = 2 ∧ (s.found.set k v).softBroken n)) : Does (.limitsWrite n obj sub v) s fun b a =>
      a.done = Code.STATUS_OK ∧ a.reg k = e.ty.wrap v ∧ a.limit n k = b.limit n k ∧ (a.axis n).replan = true ∧
      (∀ m, m ≠ n → a.axis m = b.axis m) ∧ b.Keeps a [.od, .axes, .done] ∧ b.KeepsRegs a [k] := by
  classical
  obtain ⟨f, made⟩ : ∃ f, f = (s.found.modAxis n (·.keepsLimit k (s.found.reg k))).set k (e.ty.wrap v) := ⟨_, rfl⟩
  have kept : s.found.Keeps (f.finish Code.STATUS_OK) [.od, .axes, .done] := by
    rw [made]
    exact (((Dev.Keeps.refl s.found _).modAxis _ _).set _ _).finish _
  have regs : s.found.KeepsRegs f [k] := fun j hj => by
    rw [made, Dev.reg_set_other _ _ (by simpa using hj), Dev.reg_modAxis]
  have axis : f.axis n = (s.found.axis n).keepsLimit k (s.found.reg k) := by rw [made, Dev.axis_set, Dev.axis_modAxis]
  have others : ∀ m, m ≠ n → f.axis m = s.found.axis m := fun m hm => by rw [made, Dev.axis_set, Dev.axis_modAxis_other _ _ hm]
  have written : f.reg k = e.ty.wrap v := by rw [made, Dev.reg_set_same, odType_of_entry entry, OdType.wrap_wrap]
  have leaves : Leaves (.limitsWrite n obj sub v) s (f.finish Code.STATUS_OK) :=
    .cell (guard := fun d => d.upIf (n < 128)) (fun d => d.limitsWrite n obj sub v) (up.passesIf hn)
      ((s.found.limitsWrite_eq hn v own key entry).trans ((if_neg (by rw [inside]; simpa using fits)).trans (by rw [made]))) kept
  refine leaves.quietly (kept .event (by decide)) ⟨rfl, written, ?_, ?_, others, kept, regs⟩
  · rw [Dev.limit, Dev.axis_finish, axis, Axis.keepsLimit_lookup, Option.getD_some, Dev.limit]
  · rw [Dev.axis_finish, axis]
    rfl

theorem limit_refused {s : State} (up : s.Up) (hn : n < 128) {obj sub i k : Nat} {v : Int} {e : Entry} (own : obj = 2 ∨ obj = 3)
    (key : Reg.key (0x2000 + 16 * n + obj) sub = k) (entry : entryOf k = some (e, i))
    (bad : e.rng.has (e.ty.wrap v) = false ∨ (obj = 2 ∧ (s.found.set k v).softBroken n)) : Does (.limitsWrite n obj sub v) s fun b a =>
      a.done = Code.OD_RANGE ∧ b.Keeps a [.done] := by
  classical
  have leaves : Leaves (.limitsWrite n obj sub v) s (s.found.finish Code.OD_RANGE) :=
    .cell (guard := fun d => d.upIf (n < 128)) (fun d => d.limitsWrite n obj sub v) (up.passesIf hn)
      ((s.found.limitsWrite_eq hn v own key entry).trans (if_pos bad)) (s.found.keeps_finish _)
  exact leaves.finished

end

section
variable {s : State} {n : Nat} {p : Plan} {f : Int} (live : s.Live) (hn : n < 128)
include live hn

theorem plan_ended (moves : s.found.axState n = AxState.moving ∨ s.found.axState n = AxState.test) (plan : (s.found.axis n).plan = some p)
    (final : p.final = some f) (over_ : ended p.time (s.found.axis n).planT = true) (hard : (s.found.axis n).softStop = false)
    (idle : s.found.nat (Reg.AX11_HOME_STATE n) = HomeState.idle) : Does (.planEnd n) s fun b a =>
      (a.reg (Reg.AX5_SETPOINT n) = (odType (Reg.AX5_SETPOINT n)).wrap f ∧ a.reg (Reg.AX5_SET_VEL n) = 0 ∧ a.reg (Reg.AX5_SET_ACC n) = 0) ∧
      a.bit (Reg.AX5_FLAGS n) 0 = true ∧ (a.axis n).plan = none ∧ (a.axis n).motion = .rest ∧
      a.axState n = (if b.axState n = AxState.moving then AxState.enabled else AxState.test) ∧
      a.reg (Reg.AX5_ACTIVE_CMD n) = 0 ∧ b.Keeps a [.od, .axes] ∧
      b.KeepsRegs a [Reg.AX5_SETPOINT n, Reg.AX5_SET_VEL n, Reg.AX5_SET_ACC n, Reg.AX5_ACTIVE_CMD n, Reg.AX5_FLAGS n, Reg.AX1_STATE n] := by
  obtain ⟨e, made⟩ : ∃ e, e = s.found.arrives n f := ⟨_, rfl⟩
  obtain ⟨point, vel, acc, active, flag, axis, regs, kept⟩ := s.found.arrives_shows hn f made
  have ends := s.found.planEnd_ends hn moves plan final over_ hard idle made
  obtain ⟨apart₀, apart₁, apart₂, apart₃, apart₄, -, out, -⟩ := endRegs_apart hn
  simp only [List.mem_cons, List.not_mem_nil, or_false, not_or] at apart₀ apart₁ apart₂ apart₃
  have quiet : e.event = s.dev.event := kept .event (by decide)
  have laid : ∀ k, k ∉ [Reg.AX5_SETPOINT n, Reg.AX5_SET_VEL n, Reg.AX5_SET_ACC n, Reg.AX5_ACTIVE_CMD n, Reg.AX5_FLAGS n, Reg.AX1_STATE n] →
      k ∉ Reg.AX5_FLAGS n :: laidRegs n ∧ k ≠ Reg.AX1_STATE n := fun k hk => by
    simp only [List.mem_cons, List.not_mem_nil, or_false, not_or] at hk ⊢
    exact ⟨⟨hk.2.2.2.2.1, hk.1, hk.2.1, hk.2.2.1, hk.2.2.2.1⟩, hk.2.2.2.2.2⟩
  by_cases moving : s.found.axState n = AxState.moving
  · rw [if_pos moving] at ends
    have leaves : Leaves (.planEnd n) s (e.setAxState n AxState.enabled) := axis_leaves live hn rfl ends (kept.set _ _)
    refine leaves.quietly quiet ⟨⟨?_, ?_, ?_⟩, ?_, by rw [Dev.setAxState, Dev.axis_set, axis]; rfl, by rw [Dev.setAxState, Dev.axis_set, axis]; rfl,
      ?_, ?_, kept.set _ _, fun k hk => ?_⟩
    · rw [Dev.setAxState, Dev.reg_set_other _ _ apart₀.2.2.2.2.1, point]
    · rw [Dev.setAxState, Dev.reg_set_other _ _ apart₁.2.2.2.1, vel]
    · rw [Dev.setAxState, Dev.reg_set_other _ _ apart₂.2.2.1, acc]
    · rw [Dev.bit, Dev.setAxState, Dev.nat, Dev.reg_set_other _ _ apart₄, ← Dev.nat, ← Dev.bit, flag]
    · rw [if_pos moving, e.axState_set hn (by decide)]
    · rw [Dev.setAxState, Dev.reg_set_other _ _ apart₃.2.1, active]
    · obtain ⟨own, state⟩ := laid k hk
      rw [Dev.setAxState, Dev.reg_set_other _ _ state, regs _ own]
  · rw [if_neg moving] at ends
    have leaves : Leaves (.planEnd n) s e := axis_leaves live hn rfl ends kept
    refine leaves.quietly quiet ⟨⟨point, vel, acc⟩, flag, by rw [axis]; rfl, by rw [axis]; rfl, ?_, active, kept, fun k hk => regs _ (laid k hk).1⟩
    rw [if_neg moving, Dev.axState, Dev.nat, regs _ out, ← Dev.nat, ← Dev.axState]
    exact moves.resolve_left moving

theorem stop_faulted (stops : s.found.axState n = AxState.stopping) (plan : (s.found.axis n).plan = some p)
    (final : p.final = some f) (over_ : ended p.time (s.found.axis n).planT = true) {r : Nat} (other : r ≠ Reaction.ss1)
    (why : (s.found.axis n).stopWhy = .reaction r) : Does (.standstill n) s fun b a =>
      (a.reg (Reg.AX5_SETPOINT n) = (odType (Reg.AX5_SETPOINT n)).wrap f ∧ a.reg (Reg.AX5_SET_VEL n) = 0 ∧ a.reg (Reg.AX5_SET_ACC n) = 0) ∧
      a.axState n = AxState.fault ∧ (a.axis n).loopsOff = false ∧
      a.reg (Reg.AX1_FAULT_CODE n) = (odType (Reg.AX1_FAULT_CODE n)).wrap (b.axis n).cause ∧ b.Keeps a [.od, .axes] := by
  obtain ⟨apart₀, apart₁, apart₂, -, -, apart₃, -⟩ := endRegs_apart hn
  simp only [List.mem_cons, List.not_mem_nil, or_false, not_or] at apart₀ apart₁ apart₂
  obtain ⟨e, made⟩ : ∃ e, e = (s.found.standsStill n f).setAxState n AxState.fault := ⟨_, rfl⟩
  obtain ⟨⟨point, vel, acc⟩, state, axis, kept⟩ := s.found.stopEnds_shows hn f (by decide) made
  have ends := Dev.standstill_ends s.found stops plan final over_
  rw [why] at ends
  dsimp only at ends
  rw [if_neg other, ← made] at ends
  obtain ⟨g, opens⟩ : ∃ g, g = (e.set (Reg.AX1_FAULT_CODE n) (s.found.axis n).cause).modAxis n fun a => { a with loopsOff := false, reactNow := 0 } :=
    ⟨_, rfl⟩
  have keeps : s.found.Keeps g [.od, .axes] := by rw [opens]; exact (kept.set _ _).modAxis _ _
  have regs : ∀ k, k ≠ Reg.AX1_FAULT_CODE n → g.reg k = e.reg k := fun k hk => by rw [opens, Dev.reg_modAxis, Dev.reg_set_other _ _ hk]
  have leaves : Leaves (.standstill n) s g := axis_leaves live hn rfl (ends.trans opens.symm) keeps
  refine leaves.quietly (keeps .event (by decide)) ⟨⟨?_, ?_, ?_⟩, ?_, ?_, ?_, keeps⟩
  · rw [regs _ apart₀.2.2.2.2.2, point]
  · rw [regs _ apart₁.2.2.2.2, vel]
  · rw [regs _ apart₂.2.2.2, acc]
  · rw [Dev.axState, Dev.nat, regs _ apart₃, ← Dev.nat, ← Dev.axState, state]
  · rw [opens, Dev.axis_modAxis]
  · rw [opens, Dev.reg_modAxis, Dev.reg_set_same]

end

/-- Settles O25: a plan or a stop that has reached its end lands on its target, a limit waits for its latch, and a lost source stops its
axis. -/
theorem planEndsAndLimits : Obligations.PlanEndsAndLimits := by
  unfold Obligations.PlanEndsAndLimits
  intro n s hn d at0
  refine ⟨fun p f live moves plan final over_ hard idle => ?_, fun live out => ?_, fun p f live stops plan final over_ => ⟨fun why => ?_,
    fun why => ?_, fun r other why => ?_⟩, fun live out => ?_, fun obj sub i v e up own entry => ⟨fun inside fits => ?_, fun bad => ?_⟩,
    fun live motion kind old moving quiet free brakes => ?_, fun live young => ?_⟩
  · exact plan_ended live hn moves plan final over_ hard idle
  · exact (axis_leaves live hn (f := (Dev.planEnd · n)) (e := s.found) (l := []) rfl (if_pos (out.elim (fun none => .inr (.inl (by rw [none]; rfl))) fun early => .inr (.inr early))) (Dev.Keeps.refl _ _)).unchanged
  · obtain ⟨e, made⟩ : ∃ e, e = (d.standsStill n f).setAxState n AxState.enabled := ⟨_, rfl⟩
    obtain ⟨lands, state, axis, kept⟩ := d.stopEnds_shows hn f (by decide) made
    have result : d.standstill n = e := by
      rw [Dev.standstill_ends d stops plan final over_, made]
      rcases why with why | why <;> rw [why]
    have leaves : Leaves (.standstill n) s e := axis_leaves live hn rfl result kept
    exact leaves.quietly (kept .event (by decide)) ⟨lands, state, by rw [axis]; rfl, by rw [axis]; rfl, kept⟩
  · obtain ⟨e, made⟩ : ∃ e, e = (d.standsStill n f).setAxState n AxState.ready := ⟨_, rfl⟩
    obtain ⟨lands, state, axis, kept⟩ := d.stopEnds_shows hn f (by decide) made
    obtain ⟨g, opens⟩ : ∃ g, g = e.modAxis n fun a => { a with closedAt := none } := ⟨_, rfl⟩
    have result : d.standstill n = g := by rw [Dev.standstill_ends d stops plan final over_, opens, made, why]
    have keeps : d.Keeps g [.od, .axes] := by rw [opens]; exact kept.modAxis _ _
    have leaves : Leaves (.standstill n) s g := axis_leaves live hn rfl result keeps
    refine leaves.quietly (keeps .event (by decide)) ⟨?_, ?_, ?_, keeps⟩
    · rw [opens]
      exact lands
    · rw [opens, Dev.axState, Dev.nat_modAxis]
      exact state
    · rw [opens, Dev.axis_modAxis, axis]
      rfl
  · exact stop_faulted live hn stops plan final over_ other why
  · exact (axis_leaves live hn (f := (Dev.standstill · n)) (e := s.found) (l := []) rfl (if_pos out) (Dev.Keeps.refl _ _)).unchanged
  · refine limit_written up hn own rfl entry inside fun bad => ?_
    rcases fits with three | off | order
    · omega
    · exact bad.2.1 off
    · exact absurd order (not_lt.2 bad.2.2)
  · exact limit_refused up hn own rfl entry bad
  · have lost : d.sourceLost n = d.fault n Code.SOURCE_LOST (d.nat (Reg.AX14_FOLLOW_ERROR n)) := if_pos ⟨motion, kind, old⟩
    obtain ⟨e, made⟩ : ∃ e, e = d.fault n Code.SOURCE_LOST (d.nat (Reg.AX14_FOLLOW_ERROR n)) := ⟨_, rfl⟩
    obtain ⟨ramps, reacts⟩ := d.fault_ramps hn free moving quiet _ brakes 0 made
    have leaves : Leaves (.sourceLost n) s e := axis_leaves live hn rfl (lost.trans made.symm) reacts.keeps
    have code : ((d.nat (Reg.AX14_FOLLOW_ERROR n) : Nat) : Int) = d.reg (Reg.AX14_FOLLOW_ERROR n) := by
      have some : d.nat (Reg.AX14_FOLLOW_ERROR n) ≠ 0 := by rcases brakes with is | is <;> rw [is] <;> decide
      rw [Dev.nat] at some ⊢
      omega
    exact leaves.does fun pend vecs => ⟨ramps.state, ramps.now, ramps.cause, ramps.motion, ramps.reaction.trans code⟩
  · exact (axis_leaves live hn (f := (Dev.sourceLost · n)) (e := s.found) (l := []) rfl (if_neg fun h => absurd h.2.2 (not_lt.2 young))
      (Dev.Keeps.refl _ _)).unchanged

end Sys2Proof.Machine
end

section
/-! # Chains: their queues and control, and the ends of segments (R107, R108, R111, R113) -/

namespace Sys2Proof.Machine

/-- A list worked off reaches what one of its elements does and no later one undoes. -/
theorem each_reaches {α σ : Type} (I R : σ → Prop) {f : α → σ → σ} {x : α} {xs : List α} (mem : x ∈ xs)
    (keeps : ∀ y ∈ xs, ∀ s, I s → I (f y s)) (stays : ∀ y ∈ xs, ∀ s, I s → R s → R (f y s)) (does : ∀ s, I s → R (f x s)) {s : σ} (h : I s) :
    R (each xs f s) := by
  induction xs generalizing s with
  | nil => exact absurd mem List.not_mem_nil
  | cons y ys ih =>
    have tail : ∀ z ∈ ys, z ∈ y :: ys := fun z hz => List.mem_cons_of_mem _ hz
    have go := keeps y List.mem_cons_self s h
    rcases List.mem_cons.1 mem with rfl | later
    · exact (each_holds (fun s => I s ∧ R s) ys f (fun z hz s ⟨i, r⟩ => ⟨keeps z (tail z hz) s i, stays z (tail z hz) s i r⟩)
        ⟨go, does s h⟩).2
    · exact ih later (fun z hz => keeps z (tail z hz)) (fun z hz => stays z (tail z hz)) go

section
variable {d : Dev} {m n c : Nat}

/-! ## What the members of a chain write -/

/-- From one device to the other only entries of axes have changed, by members that rest or move. -/
structure Dev.Rests (d e : Dev) (l : List Part) : Prop where
  keeps : d.Keeps e l
  regs : ∀ k, 0x300000 ≤ k → e.reg k = d.reg k

theorem Dev.Rests.refl (d : Dev) (l : List Part) : d.Rests d l := ⟨.refl _ _, fun _ _ => rfl⟩

theorem Dev.Rests.set {d e : Dev} {l : List Part} (h : d.Rests e l) {k : Nat} (v : Int) (low : k < 0x300000) (within : Part.od ∈ l := by simp) :
    d.Rests (e.set k v) l := ⟨h.keeps.set k v within, fun j hj => by rw [Dev.reg_set_other _ _ (by omega), h.regs j hj]⟩

theorem Dev.Rests.modAxis {d e : Dev} {l : List Part} (h : d.Rests e l) (n : Nat) (f : Axis → Axis) (within : Part.axes ∈ l := by simp) :
    d.Rests (e.modAxis n f) l := ⟨h.keeps.modAxis n f within, fun j hj => by rw [Dev.reg_modAxis, h.regs j hj]⟩

theorem axisKey_low {n obj sub : Nat} (hn : n < 256) (ho : obj < 16) (hs : sub < 256) : Reg.key (0x2000 + obj + 16 * n) sub < 0x300000 := by
  simp only [Reg.key]
  omega

theorem Dev.Rests.emit {d e : Dev} {l : List Part} (h : d.Rests e l) (hm : m < 256) (p v a : Int) (within : Part.od ∈ l := by simp) :
    d.Rests (e.emit m p v a) l :=
  ((h.set p (axisKey_low (obj := 5) hm (by omega) (by omega)) within).set v (axisKey_low (obj := 5) hm (by omega) (by omega)) within).set a
    (axisKey_low (obj := 5) hm (by omega) (by omega)) within

theorem Dev.Rests.enabled {d e : Dev} {l : List Part} (h : d.Rests e l) (hm : m < 256) (within : Part.od ∈ l := by simp) :
    d.Rests ((e.addFlags m Flag.inTarget).setAxState m AxState.enabled) l :=
  (h.set _ (axisKey_low (obj := 5) hm (by omega) (by omega)) within).set _ (axisKey_low (obj := 1) hm (by omega) (by omega)) within

theorem Dev.axState_emit (d : Dev) (m n : Nat) (p v a : Int) : (d.emit n p v a).axState m = d.axState m := by
  have apart : Reg.AX1_STATE m ≠ Reg.AX5_SETPOINT n ∧ Reg.AX1_STATE m ≠ Reg.AX5_SET_VEL n ∧ Reg.AX1_STATE m ≠ Reg.AX5_SET_ACC n := by
    simp only [Reg.AX1_STATE, Reg.AX5_SETPOINT, Reg.AX5_SET_VEL, Reg.AX5_SET_ACC, Reg.key]
    omega
  rw [Dev.axState, Dev.nat, Dev.emit, Dev.reg_set_other _ _ apart.2.2, Dev.reg_set_other _ _ apart.2.1, Dev.reg_set_other _ _ apart.1]
  rfl

theorem Dev.axState_addFlags (d : Dev) (m n f : Nat) : (d.addFlags n f).axState m = d.axState m := by
  have apart : Reg.AX1_STATE m ≠ Reg.AX5_FLAGS n := by
    simp only [Reg.AX1_STATE, Reg.AX5_FLAGS, Reg.key]
    omega
  rw [Dev.axState, Dev.nat, Dev.addFlags, Dev.orBits, Dev.reg_set_other _ _ apart]
  rfl

theorem Dev.axState_setAxState_other (d : Dev) (st : Nat) (h : m ≠ n) : (d.setAxState n st).axState m = d.axState m := by
  have apart : Reg.AX1_STATE m ≠ Reg.AX1_STATE n := by
    simp only [Reg.AX1_STATE, Reg.key]
    omega
  rw [Dev.axState, Dev.setAxState, Dev.nat, Dev.reg_set_other _ _ apart]
  rfl

/-- The state of any member of a chain, shown in an entry that holds it. -/
theorem Dev.axState_enabled (d : Dev) (hm : m < 256) : (d.setAxState m AxState.enabled).axState m = AxState.enabled := by
  have holds : ∀ m < 256, ((odType (Reg.AX1_STATE m)).wrap 2).toNat = 2 := by decide +kernel
  rw [Dev.axState, Dev.setAxState, Dev.nat, Dev.reg_set_same]
  exact holds m hm

/-- A member of a chain comes to rest. -/
def Dev.restsAt (d : Dev) (m : Nat) (p : Int) : Dev :=
  if d.axState m = AxState.moving then ((d.emit m p 0 0).addFlags m Flag.inTarget).setAxState m AxState.enabled
  else if d.axState m = AxState.test then d.emit m p 0 0 else d

theorem Dev.Rests.restsAt {d e : Dev} {l : List Part} (h : d.Rests e l) (hm : m < 256) (p : Int) (within : Part.od ∈ l := by simp) :
    d.Rests (e.restsAt m p) l := by
  unfold Dev.restsAt
  split
  · exact (h.emit hm p 0 0 within).enabled hm within
  · split
    · exact h.emit hm p 0 0 within
    · exact h

theorem Dev.axState_restsAt_other (d : Dev) (p : Int) (h : m ≠ n) : (d.restsAt n p).axState m = d.axState m := by
  unfold Dev.restsAt
  split
  · rw [Dev.axState_setAxState_other _ _ h, Dev.axState_addFlags, Dev.axState_emit]
  · split
    · rw [Dev.axState_emit]
    · rfl

theorem Dev.restsAt_enables (d : Dev) (hm : m < 256) (p : Int) (st : d.axState m = AxState.moving ∨ d.axState m = AxState.enabled) :
    (d.restsAt m p).axState m = AxState.enabled := by
  unfold Dev.restsAt
  rcases st with moving | enabled
  · rw [if_pos moving, Dev.axState_enabled _ hm]
  · rw [if_neg (by rw [enabled]; decide), if_neg (by rw [enabled]; decide), enabled]

/-- The members of a chain come to rest at points of their own. -/
theorem Dev.eachRests (d : Dev) (pts : List (Nat × Int)) (low : ∀ x ∈ pts, x.1 < 256) {e : Dev} (made : e = each pts (fun x d => d.restsAt x.1 x.2) d) :
    d.Rests e [.od] ∧ ∀ x ∈ pts, d.axState x.1 = AxState.moving → e.axState x.1 = AxState.enabled := by
  rw [made]
  refine ⟨each_holds (fun e => d.Rests e [.od]) _ _ (fun x hx e h => h.restsAt (low x hx) _) (.refl _ _), fun x hx moving => ?_⟩
  refine each_reaches (fun e : Dev => e.axState x.1 = AxState.moving ∨ e.axState x.1 = AxState.enabled) (fun e : Dev => e.axState x.1 = AxState.enabled) hx
    (fun y hy e st => ?_) (fun y hy e st on => ?_) (fun e st => e.restsAt_enables (low x hx) _ st) (.inl moving)
  · by_cases same : x.1 = y.1
    · rw [same] at st ⊢
      exact .inr (e.restsAt_enables (low y hy) _ st)
    · rw [e.axState_restsAt_other _ same]
      exact st
  · by_cases same : x.1 = y.1
    · rw [same] at st ⊢
      exact e.restsAt_enables (low y hy) _ st
    · rw [e.axState_restsAt_other _ same]
      exact on

theorem chainRegs_apart {c : Nat} (hc : c < 16) : Reg.CH5_CONTROL c ≠ Reg.CH5_DONE_SEQ c ∧ Reg.CH5_DONE_SEQ c ≠ Reg.CH5_ACTIVE_SEQ c ∧
    0x300000 ≤ Reg.CH5_CONTROL c ∧ 0x300000 ≤ Reg.CH5_DONE_SEQ c ∧ 0x300000 ≤ Reg.CH5_ACTIVE_SEQ c ∧
    odType (Reg.CH5_CONTROL c) = .u8 ∧ odType (Reg.CH5_DONE_SEQ c) = .u16 ∧ odType (Reg.CH5_ACTIVE_SEQ c) = .u16 := by
  revert c
  decide +kernel

theorem chainState_apart (m c : Nat) : Reg.AX1_STATE m ≠ Reg.CH5_DONE_SEQ c := by
  simp only [Reg.AX1_STATE, Reg.CH5_DONE_SEQ, Reg.key]
  omega

theorem segSeq_lt (r : Bytes) : segSeq r < 2 ^ 16 := fieldLE_lt_pow r 2 2

theorem Dev.chain_set (d : Dev) (k : Nat) (v : Int) (c : Nat) : (d.set k v).chain c = d.chain c := rfl

theorem Dev.Keeps.chain {d e : Dev} {l : List Part} (h : d.Keeps e l) (c : Nat) (out : Part.chains ∉ l := by decide) : e.chain c = d.chain c := by
  have same : e.chains = d.chains := h .chains out
  rw [Dev.chain, Dev.chain, same]

theorem Dev.Keeps.modChain {d e : Dev} {l : List Part} (h : d.Keeps e l) (c : Nat) (f : Chain → Chain) (within : Part.chains ∈ l := by decide) :
    d.Keeps (e.modChain c f) l := h.step (e.keeps_modChain c f) (by simpa using within)

theorem Dev.chain_modChain_other (d : Dev) {c k : Nat} (f : Chain → Chain) (h : k ≠ c) : (d.modChain c f).chain k = d.chain k :=
  mget_mset_other _ _ _ _ h

@[simp] theorem Dev.reg_modChain (d : Dev) (c : Nat) (f : Chain → Chain) (k : Nat) : (d.modChain c f).reg k = d.reg k := rfl

/-! ## The end of a segment -/

/-- A segment's end shown. -/
def Dev.segDone (d : Dev) (c : Nat) (g : Seg) : Dev := d.set (Reg.CH5_DONE_SEQ c) (segSeq g.image)

theorem Dev.segDone_shows (d : Dev) (hc : c < 16) (g : Seg) : (d.segDone c g).nat (Reg.CH5_DONE_SEQ c) = segSeq g.image ∧
    d.Keeps (d.segDone c g) [.od] ∧ d.KeepsRegs (d.segDone c g) [Reg.CH5_DONE_SEQ c] := by
  refine ⟨?_, d.keeps_set _ _, fun k hk => Dev.reg_set_other _ _ (by simpa using hk)⟩
  rw [Dev.segDone, Dev.nat, Dev.reg_set_same, (chainRegs_apart hc).2.2.2.2.2.2.1]
  exact OdType.toNat_wrap_u16 (segSeq_lt _)

/-- A chain with no segment in progress. -/
def Chain.ended (x : Chain) : Chain := { x with cur := none, limited := false }

/-- A chain whose next segment goes on. -/
def Chain.goesOn (x : Chain) (m : Seg) : Chain := { x with cur := some m, next := none, limited := false }

variable {g : Seg} (cur : (d.chain c).cur = some g)
include cur

theorem Dev.segmentComplete_goesOn {m : Seg} (past : ended g.length g.time = true) (next : (d.chain c).next = some m) :
    d.segmentComplete c = (d.segDone c g).modChain c (·.goesOn { m with start := d.segEnd c g }) := by
  unfold Dev.segmentComplete
  dsimp only
  rw [cur]
  dsimp only
  rw [if_pos past, next]
  rfl

theorem Dev.segmentComplete_ends (past : ended g.length g.time = true) (next : (d.chain c).next = none) (none_ : (d.chain c).queue = []) :
    d.segmentComplete c = each ((d.members c).zip (d.segEnd c g)) (fun x d => d.restsAt x.1 x.2) ((d.segDone c g).modChain c (·.ended)) := by
  unfold Dev.segmentComplete
  dsimp only
  rw [cur]
  dsimp only
  rw [if_pos past, next]
  dsimp only
  have empty : (((d.segDone c g).modChain c (·.ended)).chain c).queue.isEmpty = true := by
    rw [Dev.chain_modChain]
    change (d.chain c).queue.isEmpty = true
    rw [none_]
    rfl
  exact if_pos (by
    change ((((d.segDone c g).modChain c (·.ended)).chain c).queue.isEmpty || _) = true
    rw [empty, Bool.true_or])

omit cur in
/-- The members of a chain on the points where its segment ends. -/
theorem Dev.segmentComplete_starts {r : Bytes} {rest : List Bytes} (cur : (d.chain c).cur = some g) (past : ended g.length g.time = true) (next : (d.chain c).next = none)
    (queue : (d.chain c).queue = r :: rest) {e : Dev} (made : e = (d.segDone c g).modChain c (·.ended)) (may : e.mayStart c = true) :
    d.segmentComplete c = (each ((d.members c).zip (d.segEnd c g)) (fun x d => d.emit x.1 x.2 0 0) e).startNext c := by
  have some : (e.chain c).queue.isEmpty = false := by
    rw [made, Dev.chain_modChain]
    change (d.chain c).queue.isEmpty = false
    rw [queue]
    rfl
  unfold Dev.segmentComplete
  dsimp only
  rw [cur]
  dsimp only
  rw [if_pos past, next]
  dsimp only
  change (if ((((d.segDone c g).modChain c (·.ended)).chain c).queue.isEmpty || !((d.segDone c g).modChain c (·.ended)).mayStart c) = true then _ else _) = _
  rw [← made, some, may, if_neg (by decide), made]
  rfl

end

section
variable {d : Dev} {c : Nat}

theorem Dev.mayStart_congr {d e : Dev} (dom : e.dom = d.dom) (control : e.reg (Reg.CH5_CONTROL c) = d.reg (Reg.CH5_CONTROL c))
    (states : ∀ m, e.axState m = d.axState m) : e.mayStart c = d.mayStart c := by
  rw [Dev.mayStart, Dev.mayStart, Dev.members_congr dom, Dev.nat, control, ← Dev.nat]
  simp only [states]

/-- The members of a chain laid on points of their own. -/
theorem Dev.eachEmits (d : Dev) (pts : List (Nat × Int)) (low : ∀ x ∈ pts, x.1 < 256) {e : Dev} (made : e = each pts (fun x d => d.emit x.1 x.2 0 0) d) :
    d.Rests e [.od] ∧ ∀ m, e.axState m = d.axState m := by
  rw [made]
  refine ⟨each_holds (fun e => d.Rests e [.od]) _ _ (fun x hx e h => h.emit (low x hx) _ _ _) (.refl _ _), fun m => ?_⟩
  exact each_holds (fun e : Dev => e.axState m = d.axState m) _ _ (fun x hx e h => by rw [Dev.axState_emit, h]) rfl

/-- A member takes part in a segment. -/
def Axis.joins (a : Axis) : Axis :=
  { a with motion := if a.motion = .ramp then .ramp else .rest, plan := if a.motion = .ramp then a.plan else none }

theorem Dev.membersMove_rests (d : Dev) (c : Nat) : d.Rests (d.membersMove c) [.od, .axes] := by
  refine each_holds (fun e => d.Rests e [.od, .axes]) _ _ (fun m hm e h => ?_) (.refl _ _)
  have low := Dev.members_lt hm
  have joins : d.Rests ((e.modAxis m (·.joins)).set (Reg.AX5_ACTIVE_CMD m) 0) [.od, .axes] :=
    (h.modAxis m (·.joins)).set 0 (axisKey_low (obj := 5) low (by omega) (by omega))
  dsimp only
  change d.Rests (if ((e.modAxis m (·.joins)).set (Reg.AX5_ACTIVE_CMD m) 0).axState m = AxState.enabled then
    (((e.modAxis m (·.joins)).set (Reg.AX5_ACTIVE_CMD m) 0).dropFlags m 0x2F).setAxState m AxState.moving
    else (e.modAxis m (·.joins)).set (Reg.AX5_ACTIVE_CMD m) 0) [.od, .axes]
  generalize (e.modAxis m (·.joins)).set (Reg.AX5_ACTIVE_CMD m) 0 = f at *
  split
  · exact (joins.set _ (axisKey_low (obj := 5) low (by omega) (by omega))).set _ (axisKey_low (obj := 1) low (by omega) (by omega))
  · exact joins

/-- A chain whose next record starts from rest. -/
def Chain.begins (x : Chain) (s : Seg) (rest : List Bytes) : Chain := { x with queue := rest, cur := some s, limited := false, ik := none }

theorem Dev.startNext_shows (d : Dev) (hc : c < 16) {r : Bytes} {rest : List Bytes} (queue : (d.chain c).queue = r :: rest)
    (idle : (d.chain c).cur = none) (may : d.mayStart c = true) {e : Dev} (made : e = d.startNext c) :
    e.chain c = (d.chain c).begins (d.newSeg c r (d.memberSet c) (d.restPose c r)) rest ∧
    e.nat (Reg.CH5_ACTIVE_SEQ c) = segSeq r ∧ d.Keeps e [.od, .axes, .chains] ∧
    ∀ k, 0x300000 ≤ k → k ≠ Reg.CH5_ACTIVE_SEQ c → e.reg k = d.reg k := by
  obtain ⟨-, -, -, -, high, -, -, type⟩ := chainRegs_apart hc
  obtain ⟨f, begins⟩ : ∃ f, f = (d.modChain c (·.begins (d.newSeg c r (d.memberSet c) (d.restPose c r)) rest)).set (Reg.CH5_ACTIVE_SEQ c) (segSeq r) :=
    ⟨_, rfl⟩
  have result : d.startNext c = f.membersMove c := by
    unfold Dev.startNext
    rw [queue]
    dsimp only
    rw [idle, may, begins]
    rfl
  have chain : f.chain c = (d.chain c).begins (d.newSeg c r (d.memberSet c) (d.restPose c r)) rest := by
    rw [begins, Dev.chain_set, Dev.chain_modChain]
  have seq : f.nat (Reg.CH5_ACTIVE_SEQ c) = segSeq r := by
    rw [begins, Dev.nat, Dev.reg_set_same, type]
    exact OdType.toNat_wrap_u16 (segSeq_lt _)
  have regs : ∀ k, k ≠ Reg.CH5_ACTIVE_SEQ c → f.reg k = d.reg k := fun k hk => by rw [begins, Dev.reg_set_other _ _ hk, Dev.reg_modChain]
  have kept : d.Keeps f [.od, .axes, .chains] := by rw [begins]; exact ((Dev.Keeps.refl d _).modChain _ _).set _ _
  have moves := f.membersMove_rests c
  rw [result] at made
  rw [← made] at moves
  refine ⟨?_, ?_, kept.step moves.keeps, fun k high hk => by rw [moves.regs k high, regs k hk]⟩
  · rw [moves.keeps.chain c, chain]
  · rw [Dev.nat, moves.regs _ high, ← Dev.nat, seq]

/-! ## The end of an ABORT -/

/-- A chain paused with nothing queued. -/
def Chain.emptied (x : Chain) : Chain := { x with queue := [], cur := none, next := none, aborting := false, lambda := 0 }

theorem Dev.abortComplete_shows (d : Dev) (hc : c < 16) (aborting : (d.chain c).aborting = true) (stands : (d.chain c).lambda = 0) {e : Dev}
    (made : e = d.abortComplete c) : e.chain c = (d.chain c).emptied ∧ e.nat (Reg.CH5_CONTROL c) = 2 ∧ (∀ k, k ≠ c → e.chain k = d.chain k) ∧
    d.Keeps e [.od, .chains] := by
  obtain ⟨-, -, high, -, -, type, -⟩ := chainRegs_apart hc
  obtain ⟨f, discards⟩ : ∃ f, f = (d.modChain c (·.emptied)).set (Reg.CH5_CONTROL c) 2 := ⟨_, rfl⟩
  have chain : f.chain c = (d.chain c).emptied := by rw [discards, Dev.chain_set, Dev.chain_modChain]
  have control : f.nat (Reg.CH5_CONTROL c) = 2 := by
    rw [discards, Dev.nat, Dev.reg_set_same, type]
    rfl
  have others : ∀ k, k ≠ c → f.chain k = d.chain k := fun k hk => by rw [discards, Dev.chain_set, Dev.chain_modChain_other _ _ hk]
  have kept : d.Keeps f [.od, .chains] := by rw [discards]; exact ((Dev.Keeps.refl d _).modChain _ _).set _ _
  have rests : f.Rests e [.od] := by
    rw [made, Dev.abortComplete, if_pos ⟨aborting, stands⟩]
    extract_lets mem pts g
    have same : g = f := discards.symm
    rw [same]
    refine each_holds (fun e => f.Rests e [.od]) _ _ (fun x hx e h => ?_) (.refl _ _)
    have low : x.1 < 256 := by
      obtain ⟨m, hm, rfl⟩ := List.mem_map.1 hx
      have member : m ∈ d.members c := by
        by_cases run : d.executing c = true
        · rwa [show mem = d.members c from if_pos run] at hm
        · rw [show mem = [] from if_neg run] at hm
          exact absurd hm List.not_mem_nil
      exact Dev.members_lt member
    dsimp only
    have lands : ∀ e : Dev, f.Rests e [.od] → f.Rests (if e.axState x.1 = AxState.moving then
        (e.addFlags x.1 Flag.inTarget).setAxState x.1 AxState.enabled else e) [.od] := fun e h => by
      split
      · exact h.enabled low
      · exact h
    cases x.2 with
    | none => exact lands _ h
    | some p => exact lands _ (h.emit low _ _ _)
  refine ⟨by rw [rests.keeps.chain c, chain], ?_, fun k hk => by rw [rests.keeps.chain k, others k hk], kept.step rests.keeps⟩
  rw [Dev.nat, rests.regs _ high, ← Dev.nat, control]

end

/-! ## The commands -/

section
variable {s : State} {c : Nat} {i : Instr} (hc : c < 16)
include hc

/-- A command of one chain, of a live module. -/
theorem chain_leaves (live : s.Live) {f : Dev → Dev} (runs : exec i s = s.answerCell fun d => d.liveIf (c < 16) f) {e : Dev} (result : f s.found = e)
    {l : List Part} (keeps : s.found.Keeps e l) (within : ∀ p ∈ beyondCell, p ∉ l := by decide) : Leaves i s e :=
  .cell (guard := fun d => d.liveIf (c < 16)) f (live.passesIf hc) result keeps within runs

/-- A record written to a chain's queue. -/
theorem append_leaves (up : s.Up) {r : Bytes} {e : Dev} (result : s.found.append c r = e) {l : List Part} (keeps : s.found.Keeps e l)
    (within : ∀ p ∈ beyondCell, p ∉ l := by decide) : Leaves (.append c r) s e :=
  .cell (guard := fun d => d.upIf (c < 16)) (fun d => d.append c r) (up.passesIf hc) result keeps within

theorem append_refused (up : s.Up) {r : Bytes} {code : Nat}
    (result : s.found.append c r = (s.found.raise code Kind.chain c).finish code) : Does (.append c r) s fun b a =>
      a.done = code ∧ a.LastRaised code Kind.chain c ∧ b.Keeps a (.done :: logParts) ∧ b.KeepsRegs a logRegs :=
  Leaves.refused (append_leaves hc up result ((Dev.keeps_refused _ _ _ _ _ _ _).mono (m := .done :: logParts) (by simp)))

theorem control_shows (live : s.Live) {v : Nat} (small : v < 2 ^ 8)
    (runs : exec i s = s.answerCell fun d => d.liveIf (c < 16) fun d => d.when (!(d.chain c).aborting) fun d => d.set (Reg.CH5_CONTROL c) v) :
    ((s.found.chain c).aborting = false → Does i s fun b a =>
      a.reg (Reg.CH5_CONTROL c) = v ∧ b.Keeps a [.od] ∧ b.KeepsRegs a [Reg.CH5_CONTROL c]) ∧
    ((s.found.chain c).aborting = true → Does i s fun b a => b.Keeps a []) := by
  refine ⟨fun free => ?_, fun busy => ?_⟩
  · have leaves : Leaves i s (s.found.set (Reg.CH5_CONTROL c) v) := by
      refine chain_leaves hc live runs ?_ (s.found.keeps_set _ _)
      rw [free]
      rfl
    refine leaves.quietly rfl ⟨?_, s.found.keeps_set _ _, fun k hk => Dev.reg_set_other _ _ (by simpa using hk)⟩
    rw [Dev.reg_set_same, (chainRegs_apart hc).2.2.2.2.2.1]
    exact Int.emod_eq_of_lt (by omega) (by change (v : Int) < (2 ^ (8 * 1) : Int); omega)
  · have leaves : Leaves i s s.found := by
      refine chain_leaves hc live runs ?_ (l := []) (Dev.Keeps.refl _ _)
      rw [busy]
      rfl
    exact leaves.unchanged

variable (live : s.Live) {g : Seg} (cur : (s.found.chain c).cur = some g)
include live cur

theorem segment_ends (past : ended g.length g.time = true) (next : (s.found.chain c).next = none) (empty : (s.found.chain c).queue = [])
    (ends : (s.found.segEnd c g).length = (s.found.members c).length) : Does (.segmentComplete c) s fun b a =>
      (a.chain c).cur = none ∧ (a.chain c).next = none ∧ a.nat (Reg.CH5_DONE_SEQ c) = segSeq g.image ∧
      (∀ m ∈ b.members c, b.axState m = AxState.moving → a.axState m = AxState.enabled) ∧ b.Keeps a [.od, .chains] := by
  obtain ⟨done, kept, regs⟩ := s.found.segDone_shows hc g
  have high := (chainRegs_apart hc).2.2.2.1
  obtain ⟨f, stops⟩ : ∃ f, f = (s.found.segDone c g).modChain c (·.ended) := ⟨_, rfl⟩
  have low : ∀ x ∈ (s.found.members c).zip (s.found.segEnd c g), x.1 < 256 := fun x hx => Dev.members_lt (List.of_mem_zip hx).1
  have chain : f.chain c = (s.found.chain c).ended := by rw [stops, Dev.chain_modChain, kept.chain c]
  have kept' : s.found.Keeps f [.od, .chains] := by rw [stops]; exact (kept.mono (by decide)).modChain _ _
  have states : ∀ m < 256, f.axState m = s.found.axState m := fun m hm => by
    have apart := chainState_apart m c
    rw [stops, Dev.axState, Dev.nat, Dev.reg_modChain, regs _ (by simpa only [List.mem_singleton] using apart), ← Dev.nat, ← Dev.axState]
  have seq : f.nat (Reg.CH5_DONE_SEQ c) = segSeq g.image := by
    rw [stops]
    exact done
  obtain ⟨e, made⟩ : ∃ e, e = each ((s.found.members c).zip (s.found.segEnd c g)) (fun x d => d.restsAt x.1 x.2) f := ⟨_, rfl⟩
  obtain ⟨rests, moves⟩ := f.eachRests _ low made
  have result : s.found.segmentComplete c = e := by
    rw [made, stops]
    exact Dev.segmentComplete_ends cur past next empty
  have keeps := kept'.step rests.keeps
  have leaves : Leaves (.segmentComplete c) s e := chain_leaves hc live rfl result keeps
  refine leaves.quietly (keeps .event (by decide)) ⟨?_, ?_, ?_, fun m hm moving => ?_, keeps⟩
  · rw [rests.keeps.chain c, chain]
    rfl
  · rw [rests.keeps.chain c, chain]
    exact next
  · rw [Dev.nat, rests.regs _ high, ← Dev.nat, seq]
  · obtain ⟨k, hk, at_⟩ := List.mem_iff_getElem.1 hm
    have pair : (m, (s.found.segEnd c g)[k]'(by omega)) ∈ (s.found.members c).zip (s.found.segEnd c g) := by
      rw [List.mem_iff_getElem]
      exact ⟨k, by rw [List.length_zip]; omega, by rw [List.getElem_zip, at_]⟩
    have begun : f.axState m = AxState.moving := (states m (Dev.members_lt hm)).trans moving
    have goes := moves _ pair
    dsimp only at goes
    exact goes begun

theorem segment_starts {r : Bytes} {rest : List Bytes} (past : ended g.length g.time = true) (next : (s.found.chain c).next = none)
    (queue : (s.found.chain c).queue = r :: rest) (may : s.found.mayStart c = true) : Does (.segmentComplete c) s fun _ a =>
      (∃ h, (a.chain c).cur = some h ∧ h.image = r) ∧ (a.chain c).queue = rest ∧ a.nat (Reg.CH5_DONE_SEQ c) = segSeq g.image ∧
      a.nat (Reg.CH5_ACTIVE_SEQ c) = segSeq r := by
  obtain ⟨done, kept, regs⟩ := s.found.segDone_shows hc g
  obtain ⟨apart, differ, high₀, high, -⟩ := chainRegs_apart hc
  obtain ⟨f, stops⟩ : ∃ f, f = (s.found.segDone c g).modChain c (·.ended) := ⟨_, rfl⟩
  have low : ∀ x ∈ (s.found.members c).zip (s.found.segEnd c g), x.1 < 256 := fun x hx => Dev.members_lt (List.of_mem_zip hx).1
  have chain : f.chain c = (s.found.chain c).ended := by rw [stops, Dev.chain_modChain, kept.chain c]
  have kept' : s.found.Keeps f [.od, .chains] := by rw [stops]; exact (kept.mono (by decide)).modChain _ _
  have seq : f.nat (Reg.CH5_DONE_SEQ c) = segSeq g.image := by
    rw [stops]
    exact done
  have may' : f.mayStart c = true := by
    rw [← may]
    refine Dev.mayStart_congr (kept' .dom (by decide)) ?_ fun m => ?_
    · rw [stops, Dev.reg_modChain, regs _ (by simpa only [List.mem_singleton] using apart)]
    · have apart := chainState_apart m c
      rw [stops, Dev.axState, Dev.nat, Dev.reg_modChain, regs _ (by simpa only [List.mem_singleton] using apart), ← Dev.nat, ← Dev.axState]
  have result := Dev.segmentComplete_starts cur past next queue stops may'
  obtain ⟨h, emits⟩ : ∃ h, h = each ((s.found.members c).zip (s.found.segEnd c g)) (fun x d => d.emit x.1 x.2 0 0) f := ⟨_, rfl⟩
  obtain ⟨rests, states⟩ := f.eachEmits _ low emits
  rw [← emits] at result
  have chain' : h.chain c = (s.found.chain c).ended := by rw [rests.keeps.chain c, chain]
  have may'' : h.mayStart c = true := by
    rw [← may']
    exact Dev.mayStart_congr (rests.keeps .dom (by decide)) (rests.regs _ high₀) states
  obtain ⟨e, made⟩ : ∃ e, e = h.startNext c := ⟨_, rfl⟩
  obtain ⟨chain'', active, kept'', regs'⟩ := h.startNext_shows hc (by rw [chain']; exact queue) (by rw [chain']; rfl) may'' made
  have leaves : Leaves (.segmentComplete c) s e :=
    chain_leaves hc live rfl (result.trans made.symm) (((kept'.mono (m := [.od, .axes, .chains]) (by decide)).step rests.keeps).step kept'')
  refine leaves.does fun pend vecs => ⟨⟨_, congrArg Chain.cur chain'', rfl⟩, congrArg Chain.queue chain'', ?_, active⟩
  rw [Dev.nat, Dev.reg_told, regs' _ high differ, rests.regs _ high, ← Dev.nat, seq]

omit cur in
theorem segment_blends {r : Bytes} {rest : List Bytes} (cur : (s.found.chain c).cur = some g) (early : ended g.length g.time = false) (next : (s.found.chain c).next = none)
    (queue : (s.found.chain c).queue = r :: rest) (fits : mayBlend g r = true) (tick : g.blendOn = some s.found.tickAbs)
    (joined : g.alone = false) (may : s.found.mayStart c = true) : Does (.segmentComplete c) s fun b a =>
      (a.chain c).next = some (b.newSeg c r (b.segEnd c g) g.endPose) ∧ (a.chain c).cur = some g ∧ (a.chain c).queue = rest ∧
      a.nat (Reg.CH5_ACTIVE_SEQ c) = segSeq r ∧ b.Keeps a [.od, .chains] ∧ b.KeepsRegs a [Reg.CH5_ACTIVE_SEQ c] := by
  obtain ⟨e, made⟩ : ∃ e, e = (s.found.modChain c fun x => { x with queue := rest, next := some (s.found.blendSeg c g r) }).set
    (Reg.CH5_ACTIVE_SEQ c) (segSeq r) := ⟨_, rfl⟩
  have result : s.found.segmentComplete c = e := by
    unfold Dev.segmentComplete
    dsimp only
    rw [cur]
    dsimp only
    rw [early, if_neg (by decide), next, queue]
    dsimp only
    rw [if_pos ⟨fits, tick, joined, may⟩, made]
  have keeps : s.found.Keeps e [.od, .chains] := by rw [made]; exact ((Dev.Keeps.refl _ _).modChain _ _).set _ _
  have chain : (e.chain c).next = some (s.found.blendSeg c g r) ∧ (e.chain c).cur = (s.found.chain c).cur ∧ (e.chain c).queue = rest := by
    rw [made, Dev.chain_set, Dev.chain_modChain]
    exact ⟨rfl, rfl, rfl⟩
  have leaves : Leaves (.segmentComplete c) s e := chain_leaves hc live rfl result keeps
  refine leaves.quietly (keeps .event (by decide)) ⟨chain.1, chain.2.1.trans cur, chain.2.2, ?_, keeps, fun k hk => ?_⟩
  · rw [made, Dev.nat, Dev.reg_set_same, (chainRegs_apart hc).2.2.2.2.2.2.2]
    exact OdType.toNat_wrap_u16 (segSeq_lt _)
  · rw [made, Dev.reg_set_other _ _ (by simpa using hk), Dev.reg_modChain]

end

/-- Settles O26: the queue and the control of a chain, and what the end of its segment leads to. -/
theorem chainsRun : Obligations.ChainsRun := by
  unfold Obligations.ChainsRun
  refine ⟨fun c s hc => ?_, fun c s g live hc cur => ?_⟩
  · intro d others
    refine ⟨fun r up valid room => ?_, fun r up bad => ?_, fun r up valid full => ?_, fun i v mem live => ?_, fun live => ?_, fun live => ?_,
      fun live aborting stands => ?_, fun live out => ?_⟩
    · have leaves : Leaves (.append c r) s ((d.modChain c fun x => { x with queue := x.queue ++ [r] }).finish Code.STATUS_OK) :=
        append_leaves hc up ((if_neg (by rw [valid]; decide)).trans (if_neg (not_le.2 room)))
          (((Dev.Keeps.refl d [.chains, .done]).modChain _ _).finish _)
      have chain : (d.modChain c fun x => { x with queue := x.queue ++ [r] }).chain c = { d.chain c with queue := (d.chain c).queue ++ [r] } :=
        Dev.chain_modChain _ _ _
      have rest : others d (d.modChain c fun x => { x with queue := x.queue ++ [r] }) := fun k hk => Dev.chain_modChain_other _ _ hk
      exact leaves.quietly rfl ⟨rfl, chain, rest,
        ((Dev.Keeps.refl d [.chains, .done]).modChain _ _).finish _⟩
    · exact append_refused hc up (if_pos (by rw [bad]; rfl))
    · exact append_refused hc up ((if_neg (by rw [valid]; decide)).trans (if_pos full))
    · simp only [List.mem_cons, Prod.mk.injEq, List.not_mem_nil, or_false] at mem
      rcases mem with ⟨rfl, rfl⟩ | ⟨rfl, rfl⟩
      · exact control_shows hc live (v := 1) (by decide) rfl
      · exact control_shows hc live (v := 2) (by decide) rfl
    · have keeps := d.keeps_modChain c fun x => { x with queue := [] }
      have leaves : Leaves (.flush c) s (d.modChain c fun x => { x with queue := [] }) := chain_leaves hc live rfl rfl keeps
      exact leaves.quietly rfl ⟨Dev.chain_modChain _ _ _, fun k hk => Dev.chain_modChain_other _ _ hk, keeps⟩
    · have keeps := (((Dev.Keeps.refl d [.od, .chains]).modChain c fun x => { x with aborting := true }).set (Reg.CH5_CONTROL c) 4)
      have leaves : Leaves (.abort c) s (d.chainAbort c) := chain_leaves hc live rfl rfl keeps
      have chain : (d.modChain c fun x => { x with aborting := true }).chain c = { d.chain c with aborting := true } := Dev.chain_modChain _ _ _
      have rest : others d (d.modChain c fun x => { x with aborting := true }) := fun k hk => Dev.chain_modChain_other _ _ hk
      refine leaves.quietly rfl ⟨chain, ?_, rest, keeps, fun k hk => ?_⟩
      · rw [Dev.chainAbort, Dev.reg_set_same, (chainRegs_apart hc).2.2.2.2.2.1]
        rfl
      · rw [Dev.chainAbort, Dev.reg_set_other _ _ (by simpa using hk), Dev.reg_modChain]
    · obtain ⟨e, made⟩ : ∃ e, e = d.abortComplete c := ⟨_, rfl⟩
      obtain ⟨chain, control, rest, keeps⟩ := d.abortComplete_shows hc aborting stands made
      have leaves : Leaves (.abortComplete c) s e := chain_leaves hc live rfl made.symm keeps
      refine leaves.quietly (keeps .event (by decide)) ⟨?_, control, rest, keeps⟩
      rw [chain, Chain.emptied, ← stands]
    · refine (chain_leaves hc live (f := (Dev.abortComplete · c)) (e := s.found) (l := []) rfl (if_neg ?_) (Dev.Keeps.refl _ _)).unchanged
      rintro ⟨aborting, stands⟩
      rcases out with free | moves
      · rw [free] at aborting
        exact Bool.false_ne_true aborting
      · exact moves stands
  · intro d x past
    refine ⟨fun over_ next empty ends => segment_ends hc live cur over_ next empty ends,
      fun r rest over_ next queue may => segment_starts hc live cur over_ next queue may, fun m over_ next => ?_,
      fun r rest early next queue fits tick joined may => segment_blends hc live cur early next queue fits tick joined may, fun early out => ?_⟩
    · obtain ⟨done, kept, regs⟩ := s.found.segDone_shows hc g
      have result := Dev.segmentComplete_goesOn cur over_ next
      have chain : ((s.found.segDone c g).modChain c (·.goesOn { m with start := d.segEnd c g })).chain c =
          (d.chain c).goesOn { m with start := d.segEnd c g } := by rw [Dev.chain_modChain, kept.chain c]
      have keeps := (kept.mono (m := [.od, .chains]) (by decide)).modChain c (·.goesOn { m with start := d.segEnd c g })
      have leaves : Leaves (.segmentComplete c) s _ := chain_leaves hc live rfl result keeps
      exact leaves.quietly (keeps .event (by decide)) ⟨chain, done, keeps, regs⟩
    · refine (chain_leaves hc live (f := (Dev.segmentComplete · c)) (e := s.found) (l := []) rfl ?_ (Dev.Keeps.refl _ _)).unchanged
      unfold Dev.segmentComplete
      dsimp only
      rw [cur]
      dsimp only
      have going : ended g.length g.time = false := early
      rw [going, if_neg (by decide)]
      rcases out with empty | busy | late
      · have none_ : (s.found.chain c).queue = [] := empty
        rw [none_]
        cases (s.found.chain c).next <;> rfl
      · obtain ⟨m, hm⟩ := Option.ne_none_iff_exists'.1 busy
        have some_ : (s.found.chain c).next = some m := hm
        rw [some_]
      · have waits : ¬(g.blendOn = some s.found.tickAbs ∧ g.alone = false) := fun h =>
          late.elim (fun alone => Bool.false_ne_true (h.2.symm.trans alone)) fun tick => tick h.1
        cases (s.found.chain c).next with
        | some m => rfl
        | none =>
          cases (s.found.chain c).queue with
          | nil => rfl
          | cons r rest => exact if_neg fun h => waits ⟨h.2.1, h.2.2.1⟩

end Sys2Proof.Machine
end

section
/-! # Inputs: raw transitions, qualified edges, index pulses, hard stops and latches (R119 to R126, R134) -/

namespace Sys2Proof.Machine

section
variable {d : Dev} {n role raw : Nat}

/-! ## Positions asked for -/

/-- Where the position of a transition is shown. -/
def LatchFor.shownAt (n : Nat) : LatchFor → Nat
  | .first => Reg.AX11_FIRST_RAW_POS n
  | _ => Reg.AX11_REF_POS n

/-- A transition's position is shown, or waits. -/
theorem Dev.askPosition_shows (d : Dev) (n raw : Nat) {what : LatchFor} (edge : what = .first ∨ what = .ref) {e : Dev}
    (made : e = d.askPosition n what raw) : (∃ l, e.axis n = { d.axis n with latches := l }) ∧ (∀ m, m ≠ n → e.axis m = d.axis m) ∧
    d.Keeps e [.od, .axes] ∧ d.KeepsRegs e [what.shownAt n] := by
  unfold Dev.askPosition at made
  cases pos : d.positionAt n raw with
  | none =>
    rw [pos] at made
    dsimp only at made
    rw [made]
    exact ⟨⟨_, Dev.axis_modAxis _ _ _⟩, fun m hm => Dev.axis_modAxis_other _ _ hm, (d.keeps_modAxis _ _).mono (by decide), fun _ _ => rfl⟩
  | some pv =>
    rw [pos] at made
    dsimp only at made
    have sets : e = d.set (what.shownAt n) pv.1 := by rcases edge with rfl | rfl <;> exact made
    rw [sets]
    exact ⟨⟨(d.axis n).latches, rfl⟩, fun _ _ => rfl, (d.keeps_set _ _).mono (by decide), fun k hk => Dev.reg_set_other _ _ (by simpa using hk)⟩

/-! ## A qualified edge -/

/-- The entries an edge shows. -/
abbrev edgeRegs (n : Nat) : List Nat := [Reg.AX11_FIRST_RAW_TIME n, Reg.AX11_FIRST_RAW_POS n, Reg.AX11_REF_TIME n, Reg.AX11_REF_POS n,
  Reg.AX11_QUAL_TIME n, Reg.AX12_INPUT_STATUS n]

theorem edgeRegs_apart {n : Nat} (hn : n < 128) :
    Reg.AX11_FIRST_RAW_TIME n ∉ [Reg.AX11_FIRST_RAW_POS n, Reg.AX11_REF_TIME n, Reg.AX11_REF_POS n, Reg.AX11_QUAL_TIME n, Reg.AX12_INPUT_STATUS n,
      Reg.R4001_DI] ∧
    Reg.AX11_REF_TIME n ∉ [Reg.AX11_REF_POS n, Reg.AX11_QUAL_TIME n, Reg.AX12_INPUT_STATUS n, Reg.R4001_DI] ∧
    Reg.AX11_QUAL_TIME n ∉ [Reg.AX12_INPUT_STATUS n, Reg.R4001_DI] ∧
    Reg.AX12_INPUT_STATUS n ∉ [Reg.AX11_FIRST_RAW_TIME n, Reg.AX11_FIRST_RAW_POS n, Reg.AX11_REF_TIME n, Reg.AX11_REF_POS n,
      Reg.AX11_QUAL_TIME n, Reg.R4001_DI, Reg.AX12_EDGE_COUNT n] ∧
    (∀ k ∈ [Reg.AX12_POLARITY n, Reg.AX12_LIM_POS_IN n, Reg.AX12_LIM_NEG_IN n, Reg.AX12_HOME_IN n, Reg.AX11_LATCH_INPUT n, Reg.AX1_STATE n,
      Reg.AX11_HOME_STATE n], k ∉ Reg.R4001_DI :: edgeRegs n) ∧
    odType (Reg.AX12_INPUT_STATUS n) = .u16 := by
  revert n
  decide +kernel

/-- The edge's times and positions, before its level. -/
def Dev.edgeTimes (d : Dev) (n ref first raw : Nat) : Dev :=
  let d := (d.set (Reg.AX11_FIRST_RAW_TIME n) (time40 (d.ntAt first))).askPosition n .first first
  let d := (d.set (Reg.AX11_REF_TIME n) (time40 (d.ntAt ref))).askPosition n .ref ref
  d.set (Reg.AX11_QUAL_TIME n) (time40 (d.ntAt raw))

theorem Dev.Keeps.ntAt {d e : Dev} {l : List Part} (h : d.Keeps e l) (raw : Nat) (out : Part.clk ∉ l := by decide) : e.ntAt raw = d.ntAt raw := by
  have same : e.clk = d.clk := h .clk out
  rw [Dev.ntAt, Dev.ntAt, same]

theorem Dev.edgeTimes_shows (d : Dev) (hn : n < 128) (ref first raw : Nat) {e : Dev} (made : e = d.edgeTimes n ref first raw) :
    e.reg (Reg.AX11_FIRST_RAW_TIME n) = (odType (Reg.AX11_FIRST_RAW_TIME n)).wrap (time40 (d.ntAt first)) ∧
    e.reg (Reg.AX11_REF_TIME n) = (odType (Reg.AX11_REF_TIME n)).wrap (time40 (d.ntAt ref)) ∧
    e.reg (Reg.AX11_QUAL_TIME n) = (odType (Reg.AX11_QUAL_TIME n)).wrap (time40 (d.ntAt raw)) ∧
    (∃ l, e.axis n = { d.axis n with latches := l }) ∧ (∀ m, m ≠ n → e.axis m = d.axis m) ∧ d.Keeps e [.od, .axes] ∧
    d.KeepsRegs e (edgeRegs n) := by
  obtain ⟨apart₀, apart₁, -⟩ := edgeRegs_apart hn
  simp only [List.mem_cons, List.not_mem_nil, or_false, not_or] at apart₀ apart₁
  obtain ⟨d₁, firsts⟩ : ∃ d₁, d₁ = d.set (Reg.AX11_FIRST_RAW_TIME n) (time40 (d.ntAt first)) := ⟨_, rfl⟩
  obtain ⟨d₂, asks⟩ : ∃ d₂, d₂ = d₁.askPosition n .first first := ⟨_, rfl⟩
  obtain ⟨d₃, refs⟩ : ∃ d₃, d₃ = d₂.set (Reg.AX11_REF_TIME n) (time40 (d₂.ntAt ref)) := ⟨_, rfl⟩
  obtain ⟨d₄, asks'⟩ : ∃ d₄, d₄ = d₃.askPosition n .ref ref := ⟨_, rfl⟩
  have result : e = d₄.set (Reg.AX11_QUAL_TIME n) (time40 (d₄.ntAt raw)) := by rw [made, asks', refs, asks, firsts, Dev.edgeTimes]
  obtain ⟨⟨l, axis⟩, others, kept, regs⟩ := d₁.askPosition_shows n first (.inl rfl) asks
  obtain ⟨⟨l', axis'⟩, others', kept', regs'⟩ := d₃.askPosition_shows n ref (.inr rfl) asks'
  have same₁ : ∀ m, d₁.axis m = d.axis m := fun m => by rw [firsts, Dev.axis_set]
  have same₃ : ∀ m, d₃.axis m = d₂.axis m := fun m => by rw [refs, Dev.axis_set]
  have same₅ : ∀ m, e.axis m = d₄.axis m := fun m => by rw [result, Dev.axis_set]
  have kept₁ : d.Keeps d₁ [.od, .axes] := by rw [firsts]; exact (d.keeps_set _ _).mono (by decide)
  have kept₃ : d₂.Keeps d₃ [.od, .axes] := by rw [refs]; exact (d₂.keeps_set _ _).mono (by decide)
  have kept₅ : d₄.Keeps e [.od, .axes] := by rw [result]; exact (d₄.keeps_set _ _).mono (by decide)
  have other₁ : ∀ k, k ≠ Reg.AX11_FIRST_RAW_TIME n → d₁.reg k = d.reg k := fun k hk => by rw [firsts, Dev.reg_set_other _ _ hk]
  have other₃ : ∀ k, k ≠ Reg.AX11_REF_TIME n → d₃.reg k = d₂.reg k := fun k hk => by rw [refs, Dev.reg_set_other _ _ hk]
  have other₅ : ∀ k, k ≠ Reg.AX11_QUAL_TIME n → e.reg k = d₄.reg k := fun k hk => by rw [result, Dev.reg_set_other _ _ hk]
  have shown₁ : d₁.reg (Reg.AX11_FIRST_RAW_TIME n) = (odType (Reg.AX11_FIRST_RAW_TIME n)).wrap (time40 (d.ntAt first)) := by
    rw [firsts, Dev.reg_set_same]
  have upto₂ : d.Keeps d₂ [.od, .axes] := kept₁.step kept
  have upto₄ : d.Keeps d₄ [.od, .axes] := (upto₂.step kept₃).step kept'
  have shown₃ : d₃.reg (Reg.AX11_REF_TIME n) = (odType (Reg.AX11_REF_TIME n)).wrap (time40 (d.ntAt ref)) := by
    rw [refs, Dev.reg_set_same, upto₂.ntAt]
  have shown₅ : e.reg (Reg.AX11_QUAL_TIME n) = (odType (Reg.AX11_QUAL_TIME n)).wrap (time40 (d.ntAt raw)) := by
    rw [result, Dev.reg_set_same, upto₄.ntAt]
  simp only [LatchFor.shownAt] at regs regs'
  refine ⟨?_, ?_, shown₅, ⟨l', ?_⟩, fun m hm => ?_, upto₄.step kept₅, fun k hk => ?_⟩
  · rw [other₅ _ apart₀.2.2.2.1, regs' _ (by simpa only [List.mem_singleton] using apart₀.2.2.1), other₃ _ apart₀.2.1,
      regs _ (by simpa only [List.mem_singleton] using apart₀.1), shown₁]
  · rw [other₅ _ apart₁.2.1, regs' _ (by simpa only [List.mem_singleton] using apart₁.1), shown₃]
  · rw [same₅, axis', same₃, axis, same₁]
  · rw [same₅, others' m hm, same₃, others m hm, same₁]
  · simp only [List.mem_cons, List.not_mem_nil, or_false, not_or] at hk
    obtain ⟨k₀, k₁, k₂, k₃, k₄, -⟩ := hk
    rw [other₅ _ k₄, regs' _ (by simpa only [List.mem_singleton] using k₃), other₃ _ k₂, regs _ (by simpa only [List.mem_singleton] using k₁),
      other₁ _ k₀]

/-- An input whose level has just qualified. -/
def AxIn.qualified (x : AxIn) (raw : Nat) (active : Bool) : AxIn :=
  { x with first := none, last := none, since := (if active then some raw else none), stuck := false }

/-- The edge's level shown. -/
def Dev.edgeLevel (d : Dev) (n role : Nat) (level : Bool) : Dev :=
  d.set (Reg.AX12_INPUT_STATUS n) (withBit (d.nat (Reg.AX12_INPUT_STATUS n)) role level)

/-- The edge recorded. -/
def Dev.edgeKept (d : Dev) (n role raw : Nat) : Dev := d.setAxIn n role ((d.axIn n role).qualified raw (d.switchActive n role))

theorem Dev.axIn_setAxIn (d : Dev) (n role : Nat) (x : AxIn) : (d.setAxIn n role x).axIn n role = x := by
  rw [Dev.axIn, Dev.setAxIn, Dev.axis_modAxis]
  exact mget_mset_same _ _ _ _

theorem Dev.qualifiedEdge_eq (d : Dev) (n role raw : Nat) (level : Bool) (small : role < 3) {ref : Nat} (is : ref = (d.axIn n role).last.getD raw)
    (named : d.inputOf n role ≠ 0xFF) (differs : d.bit (Reg.AX12_INPUT_STATUS n) role ≠ level)
    (stood : ref + (if d.inputOf n role < 32 then d.nat (Reg.AX12_DEBOUNCE_US n) * 1000
      else (d.nat (Reg.AX12_DEBOUNCE_US n) * 1000 + 31249) / 31250 * 31250) ≤ raw) {t e : Dev}
    (times : t = (d.edgeTimes n ref ((d.axIn n role).first.getD ref) raw).edgeLevel n role level) (made : e = t.edgeKept n role raw)
    (idle : e.homeState n = HomeState.idle) : d.qualifiedEdge n role level raw =
      if t.switchActive n role = true ∧ role ≤ 1 ∧ 2 ≤ e.axState n ∧ e.axState n ≤ 5 then e.fault n Code.LIMIT_SWITCH Reaction.qstop else e := by
  unfold Dev.qualifiedEdge
  extract_lets x ref' first us deb d₁ d₂ d₃ d₄ active was d₅
  have goes : ¬(3 ≤ role ∨ d.inputOf n role = 0xFF ∨ d.bit (Reg.AX12_INPUT_STATUS n) role = level ∨ raw < ref' + deb) := by
    rintro (wide | unnamed | same | early)
    · omega
    · exact named unnamed
    · exact differs same
    · rw [is] at stood
      exact absurd early (not_lt.2 stood)
  have level_ : d₄ = t := by
    rw [times, is]
    rfl
  have kept_ : d₅ = e := by
    rw [made, ← level_]
    rfl
  rw [if_neg goes, kept_, if_neg (by rw [idle]; simp)]
  have active_ : active = t.switchActive n role := by rw [← level_]
  rw [active_]

theorem Dev.inputOf_congr {d e : Dev} (h : ∀ k ∈ [Reg.AX12_LIM_POS_IN n, Reg.AX12_LIM_NEG_IN n, Reg.AX12_HOME_IN n, Reg.AX11_LATCH_INPUT n],
    e.reg k = d.reg k) : e.inputOf n role = d.inputOf n role := by
  have same : ∀ k ∈ [Reg.AX12_LIM_POS_IN n, Reg.AX12_LIM_NEG_IN n, Reg.AX12_HOME_IN n, Reg.AX11_LATCH_INPUT n], e.nat k = d.nat k :=
    fun k hk => by rw [Dev.nat, Dev.nat, h k hk]
  unfold Dev.inputOf
  split <;> exact same _ (by simp)

/-- An edge of an input shown and recorded: its level, its times, and whether its switch is active now. -/
theorem Dev.edge_shows (d : Dev) (hn : n < 128) (small : role < 3) (raw ref first : Nat) (level : Bool) (named : d.inputOf n role ≠ 0xFF) {t e : Dev}
    (times : t = (d.edgeTimes n ref first raw).edgeLevel n role level) (made : e = t.edgeKept n role raw) :
    t.switchActive n role = (level != d.bit (Reg.AX12_POLARITY n) role) ∧ e.bit (Reg.AX12_INPUT_STATUS n) role = level ∧
    e.reg (Reg.AX11_FIRST_RAW_TIME n) = (odType (Reg.AX11_FIRST_RAW_TIME n)).wrap (time40 (d.ntAt first)) ∧
    e.reg (Reg.AX11_REF_TIME n) = (odType (Reg.AX11_REF_TIME n)).wrap (time40 (d.ntAt ref)) ∧
    e.reg (Reg.AX11_QUAL_TIME n) = (odType (Reg.AX11_QUAL_TIME n)).wrap (time40 (d.ntAt raw)) ∧
    ((e.axIn n role).first = none ∧ (e.axIn n role).last = none) ∧ (∃ l i, e.axis n = { d.axis n with latches := l, ins := i }) ∧
    (∀ m, m ≠ n → e.axis m = d.axis m) ∧ d.Keeps e [.od, .axes] ∧ d.KeepsRegs e (edgeRegs n) := by
  obtain ⟨apart₀, apart₁, apart₂, apart₃, apart₄, type⟩ := edgeRegs_apart hn
  simp only [List.mem_cons, List.not_mem_nil, or_false, not_or] at apart₀ apart₁ apart₂
  obtain ⟨f, shown⟩ : ∃ f, f = d.edgeTimes n ref first raw := ⟨_, rfl⟩
  obtain ⟨firsts, refs, quals, ⟨l, axis⟩, others, kept, regs⟩ := d.edgeTimes_shows hn ref first raw shown
  rw [← shown] at times
  have level_ : t.bit (Reg.AX12_INPUT_STATUS n) role = level := by
    rw [times, Dev.edgeLevel, Dev.bit_set_u16 _ type (by omega), testBit_withBit, if_pos rfl]
  have regs_ : ∀ k, k ≠ Reg.AX12_INPUT_STATUS n → t.reg k = f.reg k := fun k hk => by rw [times, Dev.edgeLevel, Dev.reg_set_other _ _ hk]
  have axis_ : ∀ m, t.axis m = f.axis m := fun m => by rw [times, Dev.edgeLevel, Dev.axis_set]
  have kept_ : d.Keeps t [.od, .axes] := by rw [times, Dev.edgeLevel]; exact kept.set _ _
  have own : ∀ k ∈ [Reg.AX12_POLARITY n, Reg.AX12_LIM_POS_IN n, Reg.AX12_LIM_NEG_IN n, Reg.AX12_HOME_IN n, Reg.AX11_LATCH_INPUT n], t.reg k = d.reg k :=
    fun k hk => by
      have out := (not_or.1 (mt List.mem_cons.2 (apart₄ k (List.mem_of_mem_take (i := 5) hk)))).2
      rw [regs_ k fun same => out (by rw [same]; simp), regs k out]
  have active : t.switchActive n role = (level != d.bit (Reg.AX12_POLARITY n) role) := by
    rw [Dev.switchActive, level_, Dev.inputOf_congr fun k hk => own k (List.mem_cons_of_mem _ hk), bne_iff_ne.2 named, Bool.true_and, Dev.bit, Dev.nat,
      own _ (by simp), ← Dev.nat, ← Dev.bit]
  have regs' : ∀ k, e.reg k = t.reg k := fun k => by rw [made]; rfl
  have kept' : d.Keeps e [.od, .axes] := by rw [made]; exact kept_.modAxis _ _
  refine ⟨active, ?_, ?_, ?_, ?_, ?_, ⟨l, (e.axis n).ins, ?_⟩, fun m hm => ?_, kept', fun k hk => ?_⟩
  · rw [Dev.bit, Dev.nat, regs', ← Dev.nat, ← Dev.bit, level_]
  · rw [regs', regs_ _ apart₀.2.2.2.2.1, firsts]
  · rw [regs', regs_ _ apart₁.2.2.1, refs]
  · rw [regs', regs_ _ apart₂.1, quals]
  · rw [made, Dev.edgeKept, Dev.axIn_setAxIn]
    exact ⟨rfl, rfl⟩
  · rw [made, Dev.edgeKept, Dev.setAxIn, Dev.axis_modAxis, axis_, axis]
  · rw [made, Dev.edgeKept, Dev.setAxIn, Dev.axis_modAxis_other _ _ hm, axis_, others m hm]
  · have status : k ≠ Reg.AX12_INPUT_STATUS n := fun same => hk (by rw [same]; simp)
    rw [regs', regs_ k status, regs k hk]

/-! ## A raw transition -/

theorem axIn_other (d : Dev) {r q : Nat} (x : AxIn) (h : q ≠ r) : (d.setAxIn n r x).axIn n q = d.axIn n q := by
  rw [Dev.axIn, Dev.setAxIn, Dev.axis_modAxis]
  exact mget_mset_other _ _ _ _ h

/-- What a raw transition may change beside its input: the axis' status and the log. -/
structure Dev.Notes (n role : Nat) (d e : Dev) : Prop where
  last : (e.axIn n role).last = (d.axIn n role).last
  first : (e.axIn n role).first = (d.axIn n role).first
  others : ∀ m, m ≠ n → e.axis m = d.axis m
  keeps : d.Keeps e [.od, .axes, .log, .event]
  regs : d.KeepsRegs e (Reg.AX12_INPUT_STATUS n :: logRegs)

theorem Dev.Notes.refl (n role : Nat) (d : Dev) : d.Notes n role d := ⟨rfl, rfl, fun _ _ => rfl, .refl _ _, fun _ _ => rfl⟩

theorem Dev.Notes.setAxIn {e : Dev} (h : d.Notes n role e) {x : AxIn} (last : x.last = (e.axIn n role).last)
    (first : x.first = (e.axIn n role).first) : d.Notes n role (e.setAxIn n role x) where
  last := by rw [Dev.axIn_setAxIn, last, h.last]
  first := by rw [Dev.axIn_setAxIn, first, h.first]
  others := fun m hm => by rw [Dev.setAxIn, Dev.axis_modAxis_other _ _ hm, h.others m hm]
  keeps := h.keeps.modAxis _ _
  regs := fun k hk => by rw [Dev.setAxIn, Dev.reg_modAxis, h.regs k hk]

theorem Dev.Notes.tell {e : Dev} (h : d.Notes n role e) (bits code : Nat) :
    d.Notes n role ((e.orBits (Reg.AX12_INPUT_STATUS n) bits).raiseAxis code n) where
  last := by
    rw [Dev.axIn, Dev.raiseAxis, (Dev.keeps_raise _ _ _ _ _ _).axis n, Dev.orBits, Dev.axis_set, ← Dev.axIn, h.last]
  first := by
    rw [Dev.axIn, Dev.raiseAxis, (Dev.keeps_raise _ _ _ _ _ _).axis n, Dev.orBits, Dev.axis_set, ← Dev.axIn, h.first]
  others := fun m hm => by rw [Dev.raiseAxis, (Dev.keeps_raise _ _ _ _ _ _).axis m, Dev.orBits, Dev.axis_set, h.others m hm]
  keeps := (h.keeps.set _ _).raise _ _ _ _ _
  regs := fun k hk => by
    obtain ⟨status, log⟩ := not_or.1 (mt List.mem_cons.2 hk)
    rw [Dev.raiseAxis, Dev.reg_raise _ _ _ _ _ _ log, Dev.orBits, Dev.reg_set_other _ _ status, h.regs k hk]

theorem Dev.notes_inputOverrun (d : Dev) (n role raw : Nat) : d.Notes n role (d.inputOverrun n role raw) := by
  unfold Dev.inputOverrun
  extract_lets x twice fresh e
  have marked : d.Notes n role e := (Dev.Notes.refl n role d).setAxIn rfl rfl
  split
  · split
    · exact marked.tell _ _
    · exact marked
  · exact .refl _ _ _

theorem Dev.notes_chatter (d : Dev) (n role raw : Nat) : d.Notes n role (d.chatter n role raw) := by
  unfold Dev.chatter
  extract_lets x win raws runs e
  have marked : d.Notes n role e := (Dev.Notes.refl n role d).setAxIn rfl rfl
  split
  · split
    · exact marked
    · exact marked.tell _ _
  · exact (Dev.Notes.refl n role d).setAxIn rfl rfl

theorem edgeCount_apart {n : Nat} (hn : n < 128) : Reg.AX12_EDGE_COUNT n ∉ Reg.AX12_INPUT_STATUS n :: logRegs ∧ odType (Reg.AX12_EDGE_COUNT n) = .u8 := by
  revert n
  decide +kernel

/-- A transition counted. -/
def Dev.countsEdge (d : Dev) (n role raw : Nat) : Dev :=
  (d.set (Reg.AX12_EDGE_COUNT n) (min 255 (d.nat (Reg.AX12_EDGE_COUNT n) + 1))).inputOverrun n role raw

/-- An input with a transition recorded. -/
def AxIn.transition (x : AxIn) (raw : Nat) : AxIn :=
  { x with first := some (x.first.getD raw), last := some raw, prev := some raw, raws := x.raws ++ [raw] }

theorem Dev.rawFor_shows (d : Dev) (hn : n < 128) (small : role < 3) (raw : Nat) (level counts : Bool) {e : Dev}
    (made : e = d.rawFor n role raw level counts) : (e.axIn n role).last = some raw ∧
    (e.axIn n role).first = some ((d.axIn n role).first.getD raw) ∧
    (if (counts && (d.axIn n role).counts raw) = true then e.nat (Reg.AX12_EDGE_COUNT n) = min 255 (d.nat (Reg.AX12_EDGE_COUNT n) + 1)
      else e.reg (Reg.AX12_EDGE_COUNT n) = d.reg (Reg.AX12_EDGE_COUNT n)) ∧
    (∀ m, m ≠ n → e.axis m = d.axis m) ∧ d.Keeps e [.od, .axes, .log, .event] := by
  obtain ⟨apart, type⟩ := edgeCount_apart hn
  obtain ⟨f, counted⟩ : ∃ f, f = d.when (counts && (d.axIn n role).counts raw) (·.countsEdge n role raw) := ⟨_, rfl⟩
  obtain ⟨g, records⟩ : ∃ g, g = f.setAxIn n role ((f.axIn n role).transition raw) := ⟨_, rfl⟩
  have result : e = g.chatter n role raw := by
    rw [made, records, counted]
    exact if_neg (by omega)
  have counting : (f.axIn n role).first = (d.axIn n role).first ∧ (∀ m, m ≠ n → f.axis m = d.axis m) ∧ d.Keeps f [.od, .axes, .log, .event] ∧
      (if (counts && (d.axIn n role).counts raw) = true then f.nat (Reg.AX12_EDGE_COUNT n) = min 255 (d.nat (Reg.AX12_EDGE_COUNT n) + 1)
        else f.reg (Reg.AX12_EDGE_COUNT n) = d.reg (Reg.AX12_EDGE_COUNT n)) := by
    rw [counted]
    cases counts && (d.axIn n role).counts raw
    · exact ⟨rfl, fun _ _ => rfl, .refl _ _, rfl⟩
    · have does : d.when true (·.countsEdge n role raw) = d.countsEdge n role raw := rfl
      rw [does, Dev.countsEdge]
      obtain ⟨v, is⟩ : ∃ v : Nat, v = min 255 (d.nat (Reg.AX12_EDGE_COUNT n) + 1) := ⟨_, rfl⟩
      have cast : (min 255 ((d.nat (Reg.AX12_EDGE_COUNT n) : Int) + 1)) = (v : Int) := by rw [is]; omega
      rw [cast, if_pos rfl, ← is]
      have notes := (d.set (Reg.AX12_EDGE_COUNT n) v).notes_inputOverrun n role raw
      generalize (d.set (Reg.AX12_EDGE_COUNT n) v).inputOverrun n role raw = h at *
      refine ⟨notes.first, notes.others, ((d.keeps_set _ _).mono (by decide)).step notes.keeps, ?_⟩
      rw [Dev.nat, notes.regs _ apart, Dev.reg_set_same, type]
      exact OdType.toNat_wrap_u8 (by omega)
  obtain ⟨first, others, keeps, count⟩ := counting
  have recorded : g.axIn n role = (f.axIn n role).transition raw := by rw [records, Dev.axIn_setAxIn]
  have others' : ∀ m, m ≠ n → g.axis m = f.axis m := fun m hm => by rw [records, Dev.setAxIn, Dev.axis_modAxis_other _ _ hm]
  have keeps' : f.Keeps g [.od, .axes, .log, .event] := by rw [records]; exact (f.keeps_modAxis _ _).mono (by decide)
  have regs' : ∀ k, g.reg k = f.reg k := fun k => by rw [records]; rfl
  have notes := g.notes_chatter n role raw
  rw [← result] at notes
  have edges : e.reg (Reg.AX12_EDGE_COUNT n) = f.reg (Reg.AX12_EDGE_COUNT n) := by rw [notes.regs _ apart, regs']
  refine ⟨by rw [notes.last, recorded]; rfl, ?_, ?_, fun m hm => by rw [notes.others m hm, others' m hm, others m hm],
    (keeps.step keeps').step notes.keeps⟩
  · rw [notes.first, recorded, AxIn.transition, first]
  · rw [Dev.nat, edges, ← Dev.nat]
    exact count

/-! ## Homing references -/

theorem homeState_apart {n : Nat} (hn : n < 128) : Reg.AX11_HOME_STATE n ∉ Reg.AX12_INPUT_STATUS n :: logRegs ∧
    odType (Reg.AX11_HOME_STATE n) = .u8 ∧ Reg.AX12_INPUT_STATUS n ∉ logRegs := by
  revert n
  decide +kernel

theorem Dev.startStop_shows (d : Dev) (n : Nat) (A : Rat) (J : Option Rat) : ((d.startStop n A J).axis n).offset = (d.axis n).offset ∧
    d.Keeps (d.startStop n A J) [.axes] ∧ ∀ k, (d.startStop n A J).reg k = d.reg k := by
  unfold Dev.startStop
  split
  · exact ⟨rfl, .refl _ _, fun _ => rfl⟩
  · rw [Dev.startPlan, Dev.axis_modAxis]
    exact ⟨rfl, d.keeps_modAxis _ _, fun _ => rfl⟩

/-- Homing has found its reference. -/
theorem Dev.reference_shows (d : Dev) (hn : n < 128) (p : Int) {e : Dev} (made : e = d.reference n p) :
    (e.axis n).offset = (d.axis n).offset + (d.reg (Reg.AX11_HOME_POS n) - p) ∧ e.nat (Reg.AX11_HOME_STATE n) = HomeState.done ∧
    d.Keeps e [.od, .axes, .safe] := by
  obtain ⟨-, type, -⟩ := homeState_apart hn
  obtain ⟨x, is⟩ : ∃ x, x = d.reg (Reg.AX11_HOME_POS n) - p := ⟨_, rfl⟩
  obtain ⟨shifted, kept, -⟩ := d.shiftPosition_shows n x
  rw [Dev.reference, ← is] at made
  generalize d.shiftPosition n x = f at *
  obtain ⟨g, sets⟩ : ∃ g, g = f.setHomeState n HomeState.done := ⟨_, rfl⟩
  rw [← sets, Dev.normalStop] at made
  obtain ⟨offset, kept', regs⟩ := g.startStop_shows n (g.aMax n) (g.jMax n)
  rw [← made] at offset kept' regs
  have kept'' : d.Keeps g [.od, .axes, .safe] := by rw [sets]; exact kept.set _ _
  have axis : g.axis n = f.axis n := by rw [sets, Dev.setHomeState, Dev.axis_set]
  refine ⟨?_, ?_, kept''.step kept'⟩
  · rw [offset, axis, shifted, ← is]
    rfl
  · rw [Dev.nat, regs, sets, Dev.setHomeState, Dev.reg_set_same, type]
    rfl

/-- The plan that backs off a hard stop. -/
def Dev.backoffPlan (d : Dev) (n : Nat) : Plan :=
  { p0 := d.setpoint n, v0 := 0,
    parts := (movePlan (-(d.homeDir n * fix (d.reg (Reg.AX11_BACKOFF n)))) 0 0 (fix (d.reg (Reg.AX11_V_CREEP n))) (d.aMax n) (d.jMax n)).parts,
    final := some (d.setpoint n - toFix (d.homeDir n * fix (d.reg (Reg.AX11_BACKOFF n)))) }

/-- The back-off after a hard stop begins. -/
theorem Dev.hardStop_shows (d : Dev) (hn : n < 128) (push : d.nat (Reg.AX11_HOME_STATE n) = HomeState.push)
    (stood : d.nat (Reg.AX11_HS_TICKS n) ≤ (d.axis n).hsRun) {e : Dev} (made : e = d.hardStop n) :
    e.measured n = d.reg (Reg.AX11_HOME_POS n) ∧ e.nat (Reg.AX11_HOME_STATE n) = HomeState.backoff ∧ (e.axis n).motion = .plan ∧
    d.Keeps e [.od, .axes, .safe] := by
  obtain ⟨-, type, -⟩ := homeState_apart hn
  obtain ⟨x, is⟩ : ∃ x, x = d.reg (Reg.AX11_HOME_POS n) - d.measured n := ⟨_, rfl⟩
  obtain ⟨shifted, kept, -⟩ := d.shiftPosition_shows n x
  obtain ⟨f, lands⟩ : ∃ f, f = (d.shiftPosition n x).emit n ((d.shiftPosition n x).measured n) 0 0 := ⟨_, rfl⟩
  have kept' : d.Keeps f [.od, .axes, .safe] := by rw [lands]; exact ((kept.set _ _).set _ _).set _ _
  have axis : f.axis n = (d.shiftPosition n x).axis n := by rw [lands, Dev.emit, Dev.axis_set, Dev.axis_set, Dev.axis_set]
  have result : d.hardStop n = (f.modAxis n (·.planned (f.backoffPlan n))).setHomeState n HomeState.backoff := by
    rw [lands, is]
    exact if_pos ⟨push, stood⟩
  generalize f.backoffPlan n = p at result
  rw [result] at made
  have axis' : e.axis n = (f.axis n).planned p := by rw [made, Dev.setHomeState, Dev.axis_set, Dev.axis_modAxis]
  refine ⟨?_, ?_, ?_, ?_⟩
  · have at_ : e.measured n = (d.axis n).fb.pos.val + ((d.axis n).offset + x) := by
      rw [Dev.measured, axis', axis, shifted]
      rfl
    rw [at_, is, Dev.measured]
    omega
  · rw [made, Dev.setHomeState, Dev.nat, Dev.reg_set_same, type]
    rfl
  · rw [axis']
    rfl
  · rw [made]
    exact (kept'.modAxis _ _).set _ _

/-! ## Levels that stay active -/

theorem Dev.stuckActive_shows (d : Dev) (hn : n < 128) (small : role < 3) (active : d.switchActive n role = true) (fresh : (d.axIn n role).stuck = false)
    (limit : d.nat (Reg.AX12_MAX_ACTIVE_MS n) ≠ 0)
    (long : (d.axIn n role).since.getD 0 + d.nat (Reg.AX12_MAX_ACTIVE_MS n) * 1000000 < d.rawNow)
    (idle : d.nat (Reg.AX11_HOME_STATE n) = HomeState.idle) {e : Dev} (made : e = d.stuckActive n role) :
    e.LastRaised Code.STUCK_ACTIVE Kind.axis n ∧ (e.axIn n role).stuck = true ∧ e.bit (Reg.AX12_INPUT_STATUS n) 5 = true ∧
    d.Keeps e [.od, .axes, .log, .event] ∧ d.KeepsRegs e (Reg.AX12_INPUT_STATUS n :: logRegs) := by
  obtain ⟨home, -, log⟩ := homeState_apart hn
  obtain ⟨-, -, -, -, -, type⟩ := edgeRegs_apart hn
  obtain ⟨f, kept⟩ : ∃ f, f = d.setAxIn n role { d.axIn n role with stuck := true } := ⟨_, rfl⟩
  obtain ⟨g, tells⟩ : ∃ g, g = f.orBits (Reg.AX12_INPUT_STATUS n) 32 := ⟨_, rfl⟩
  obtain ⟨h, raises⟩ : ∃ h, h = g.raise Code.STUCK_ACTIVE Kind.axis n 0 0 := ⟨_, rfl⟩
  have keeps : d.Keeps h [.od, .axes, .log, .event] := by
    rw [raises, tells, kept]
    exact ((((d.keeps_modAxis _ _).mono (by decide)).set _ _).raise _ _ _ _ _)
  have regs : d.KeepsRegs h (Reg.AX12_INPUT_STATUS n :: logRegs) := fun k hk => by
    obtain ⟨status, out⟩ := not_or.1 (mt List.mem_cons.2 hk)
    rw [raises, Dev.reg_raise _ _ _ _ _ _ out, tells, Dev.orBits, Dev.reg_set_other _ _ status, kept]
    rfl
  have result : d.stuckActive n role = h := by
    have waits : h.homeState n = HomeState.idle := by rw [Dev.homeState, Dev.nat, regs _ home, ← Dev.nat, idle]
    have same : h = (((d.setAxIn n role { d.axIn n role with stuck := true }).orBits (Reg.AX12_INPUT_STATUS n) 32).raiseAxis Code.STUCK_ACTIVE n) := by
      rw [raises, tells, kept]
      rfl
    unfold Dev.stuckActive
    extract_lets x limit' marked told
    have goes : role ≤ 2 ∧ limit' ≠ 0 ∧ d.switchActive n role = true ∧ x.since.getD 0 + limit' < d.rawNow ∧ x.stuck = false :=
      ⟨by omega, by change d.nat (Reg.AX12_MAX_ACTIVE_MS n) * 1000000 ≠ 0; omega, active, long, fresh⟩
    have told_ : told = h := same.symm
    rw [if_pos goes, told_, if_neg (by rw [waits]; simp)]
  rw [result] at made
  rw [made]
  refine ⟨?_, ?_, ?_, keeps, regs⟩
  · rw [raises]
    exact Dev.lastRaised_raise _ _ _ _ _ _
  · rw [Dev.axIn, raises, (Dev.keeps_raise _ _ _ _ _ _).axis n, tells, Dev.orBits, Dev.axis_set, kept, ← Dev.axIn, Dev.axIn_setAxIn]
  · rw [Dev.bit, raises, Dev.nat, Dev.reg_raise _ _ _ _ _ _ log, ← Dev.nat, ← Dev.bit, tells, f.bit_orBits type _ (by omega)]
    simp only [Bool.or_eq_true]
    exact .inr (by decide)

/-! ## Latches -/

theorem each_one {α σ : Type} (f : α → σ → σ) (x : α) (s : σ) : each [x] f s = f x s := rfl

/-- A latch that waits alone. -/
theorem Dev.latchResult_eq (d : Dev) (n raw : Nat) (waits : (d.axis n).latches = [(.general, raw)]) :
    d.latchResult n = (d.modAxis n fun a => { a with latches := [] }).askPosition n .general raw := by
  unfold Dev.latchResult
  rw [waits]
  exact each_one _ _ _

theorem Dev.positionAt_emptied (d : Dev) (n raw : Nat) : (d.modAxis n fun a => { a with latches := [] }).positionAt n raw = d.positionAt n raw := by
  unfold Dev.positionAt Dev.ageLimit Dev.setting
  rw [Dev.axis_modAxis]
  rfl

end

theorem Dev.chainOf_congr {d e : Dev} (dom : e.dom = d.dom) (enabled : ∀ c < 16, e.reg (act (Reg.CH0_CHAIN_EN c)) = d.reg (act (Reg.CH0_CHAIN_EN c)))
    (n : Nat) : e.chainOf n = d.chainOf n := by
  refine List.find?_congr fun c hc => ?_
  simp only [Dev.chainEn, Dev.flag, enabled c (List.mem_range.1 hc), Dev.members_congr dom]

theorem chainEn_notEdge (n c : Nat) : act (Reg.CH0_CHAIN_EN c) ∉ edgeRegs n := by
  simp only [List.mem_cons, List.not_mem_nil, or_false, act, Reg.CH0_CHAIN_EN, Reg.AX11_FIRST_RAW_TIME, Reg.AX11_FIRST_RAW_POS, Reg.AX11_REF_TIME,
    Reg.AX11_REF_POS, Reg.AX11_QUAL_TIME, Reg.AX12_INPUT_STATUS, Reg.key]
  omega

/-! ## The commands -/

/-- What the events of an input find: the input is named, its bank works, and its level differs and has stood. -/
structure Dev.EdgeDue (d : Dev) (n role raw : Nat) (level : Bool) : Prop where
  named : d.inputOf n role ≠ 0xFF
  works : d.inputDead (d.inputOf n role) = false
  differs : d.bit (Reg.AX12_INPUT_STATUS n) role ≠ level
  stood : (d.axIn n role).last.getD raw + (if d.inputOf n role < 32 then d.nat (Reg.AX12_DEBOUNCE_US n) * 1000
    else (d.nat (Reg.AX12_DEBOUNCE_US n) * 1000 + 31249) / 31250 * 31250) ≤ raw

section
variable {s : State} {n role raw : Nat} {level : Bool} (live : s.Live) (hn : n < 128) (small : role < 3)
include live hn small

theorem qualified_leaves {e : Dev} (result : s.found.qualifiedInput n role level raw = e) {l : List Part} (keeps : s.found.Keeps e l)
    (within : ∀ p ∈ beyondCell, p ∉ l := by decide) : Leaves (.qualifiedEdge n role level raw) s e :=
  .cell (guard := fun d => d.liveIf (n < 128 ∧ role < 3)) (fun d => d.qualifiedInput n role level raw) (live.passesIf ⟨hn, small⟩) result keeps within

omit live hn small in
/-- A local input's level shown where it has qualified. -/
theorem Dev.qualifiedInput_shows {d : Dev} (works : d.inputDead (d.inputOf n role) = false) {e f : Dev} (edge : d.qualifiedEdge n role level raw = f)
    (made : e = d.qualifiedInput n role level raw) : (∀ m, e.axis m = f.axis m) ∧ f.Keeps e [.od] ∧ f.KeepsRegs e [Reg.R4001_DI] := by
  have result : d.qualifiedInput n role level raw = f.when (decide (d.inputOf n role < 32 ∧ role < 3) &&
      f.bit (Reg.AX12_INPUT_STATUS n) role == level) fun f => f.set Reg.R4001_DI (withBit (f.nat Reg.R4001_DI) (d.inputOf n role) level) := by
    rw [← edge]
    exact if_neg (by rw [works]; decide)
  rw [made, result]
  generalize (decide (d.inputOf n role < 32 ∧ role < 3) && f.bit (Reg.AX12_INPUT_STATUS n) role == level) = b
  cases b
  · exact ⟨fun _ => rfl, .refl _ _, fun _ _ => rfl⟩
  · exact ⟨fun _ => rfl, f.keeps_set _ _, fun k hk => Dev.reg_set_other _ _ (by simpa using hk)⟩

theorem edge_shown (due : s.found.EdgeDue n role raw level) (idle : s.found.nat (Reg.AX11_HOME_STATE n) = HomeState.idle)
    (still : role = 2 ∨ ¬level ≠ s.found.bit (Reg.AX12_POLARITY n) role ∨ s.found.axState n < 2 ∨ 5 < s.found.axState n) :
    Does (.qualifiedEdge n role level raw) s fun b a =>
      a.bit (Reg.AX12_INPUT_STATUS n) role = level ∧
      a.reg (Reg.AX11_FIRST_RAW_TIME n) = (odType (Reg.AX11_FIRST_RAW_TIME n)).wrap
        (time40 (b.ntAt ((b.axIn n role).first.getD ((b.axIn n role).last.getD raw)))) ∧
      a.reg (Reg.AX11_REF_TIME n) = (odType (Reg.AX11_REF_TIME n)).wrap (time40 (b.ntAt ((b.axIn n role).last.getD raw))) ∧
      a.reg (Reg.AX11_QUAL_TIME n) = (odType (Reg.AX11_QUAL_TIME n)).wrap (time40 (b.ntAt raw)) ∧
      (a.axIn n role).first = none ∧ (a.axIn n role).last = none ∧ (∀ m, m ≠ n → a.axis m = b.axis m) ∧ b.Keeps a [.od, .axes] ∧
      b.KeepsRegs a (edgeRegs n ++ [Reg.R4001_DI]) := by
  obtain ⟨apart₀, apart₁, apart₂, apart₃, apart₄, -⟩ := edgeRegs_apart hn
  simp only [List.mem_cons, List.not_mem_nil, or_false, not_or] at apart₀ apart₁ apart₂ apart₃
  obtain ⟨t, times⟩ : ∃ t, t = (s.found.edgeTimes n ((s.found.axIn n role).last.getD raw)
    ((s.found.axIn n role).first.getD ((s.found.axIn n role).last.getD raw)) raw).edgeLevel n role level := ⟨_, rfl⟩
  obtain ⟨e, made⟩ : ∃ e, e = t.edgeKept n role raw := ⟨_, rfl⟩
  obtain ⟨active, level_, firsts, refs, quals, ⟨first, last⟩, -, others, kept, regs⟩ :=
    s.found.edge_shows hn small raw _ _ level due.named times made
  have own : ∀ k ∈ [Reg.AX1_STATE n, Reg.AX11_HOME_STATE n], e.reg k = s.found.reg k := fun k hk =>
    regs k (not_or.1 (mt List.mem_cons.2 (apart₄ k (List.mem_of_mem_drop (i := 5) hk)))).2
  have edge : s.found.qualifiedEdge n role level raw = e := by
    rw [Dev.qualifiedEdge_eq s.found n role raw level small rfl due.named due.differs due.stood times made
      (by rw [Dev.homeState, Dev.nat, own _ (by simp), ← Dev.nat, idle])]
    refine if_neg ?_
    rw [active, show e.axState n = s.found.axState n by rw [Dev.axState, Dev.nat, own _ (by simp), ← Dev.nat, ← Dev.axState], bne_iff_ne]
    rintro ⟨on, low, least, most⟩
    rcases still with two | off | early | late
    · omega
    · exact off on
    · omega
    · omega
  obtain ⟨f, shows⟩ : ∃ f, f = s.found.qualifiedInput n role level raw := ⟨_, rfl⟩
  obtain ⟨axes, kept', regs'⟩ := Dev.qualifiedInput_shows due.works edge shows
  have keeps := kept.step kept'
  have leaves : Leaves (.qualifiedEdge n role level raw) s f := qualified_leaves live hn small shows.symm keeps
  refine leaves.quietly (keeps .event (by decide)) ⟨?_, ?_, ?_, ?_, ?_, ?_, fun m hm => by rw [axes, others m hm], keeps, fun k hk => ?_⟩
  · rw [Dev.bit, Dev.nat, regs' _ (by simpa only [List.mem_singleton] using apart₃.2.2.2.2.2.1), ← Dev.nat, ← Dev.bit, level_]
  · rw [regs' _ (by simpa only [List.mem_singleton] using apart₀.2.2.2.2.2), firsts]
  · rw [regs' _ (by simpa only [List.mem_singleton] using apart₁.2.2.2), refs]
  · rw [regs' _ (by simpa only [List.mem_singleton] using apart₂.2), quals]
  · rw [Dev.axIn, axes, ← Dev.axIn, first]
  · rw [Dev.axIn, axes, ← Dev.axIn, last]
  · obtain ⟨edges, di⟩ := not_or.1 (mt List.mem_append.2 hk)
    rw [regs' k di, regs k edges]

theorem edge_limits (due : s.found.EdgeDue n role raw level) (idle : s.found.nat (Reg.AX11_HOME_STATE n) = HomeState.idle) (low : role ≤ 1)
    (on : level ≠ s.found.bit (Reg.AX12_POLARITY n) role) (moving : s.found.axState n = AxState.moving) (quiet : (s.found.axis n).reactNow = 0)
    (free : s.found.chainOf n = none) : Does (.qualifiedEdge n role level raw) s fun _ a =>
      a.axState n = AxState.stopping ∧ (a.axis n).motion = .ramp ∧ (a.axis n).cause = Code.LIMIT_SWITCH := by
  obtain ⟨-, -, -, -, apart₄, -⟩ := edgeRegs_apart hn
  obtain ⟨t, times⟩ : ∃ t, t = (s.found.edgeTimes n ((s.found.axIn n role).last.getD raw)
    ((s.found.axIn n role).first.getD ((s.found.axIn n role).last.getD raw)) raw).edgeLevel n role level := ⟨_, rfl⟩
  obtain ⟨e, made⟩ : ∃ e, e = t.edgeKept n role raw := ⟨_, rfl⟩
  obtain ⟨active, -, -, -, -, -, ⟨l, i, axis⟩, -, kept, regs⟩ := s.found.edge_shows hn small raw _ _ level due.named times made
  have own : ∀ k ∈ [Reg.AX1_STATE n, Reg.AX11_HOME_STATE n], e.reg k = s.found.reg k := fun k hk =>
    regs k (not_or.1 (mt List.mem_cons.2 (apart₄ k (List.mem_of_mem_drop (i := 5) hk)))).2
  have state : e.axState n = AxState.moving := by rw [Dev.axState, Dev.nat, own _ (by simp), ← Dev.nat, ← Dev.axState, moving]
  obtain ⟨g, faults⟩ : ∃ g, g = e.fault n Code.LIMIT_SWITCH Reaction.qstop := ⟨_, rfl⟩
  have edge : s.found.qualifiedEdge n role level raw = g := by
    rw [Dev.qualifiedEdge_eq s.found n role raw level small rfl due.named due.differs due.stood times made
      (by rw [Dev.homeState, Dev.nat, own _ (by simp), ← Dev.nat, idle]), faults]
    refine if_pos ⟨?_, low, ?_⟩
    · rw [active]
      exact bne_iff_ne.2 on
    · rw [state]
      decide
  have alone : e.chainOf n = none := by
    rw [← free]
    exact Dev.chainOf_congr (kept .dom (by decide)) (fun c hc => regs _ (chainEn_notEdge n c)) n
  obtain ⟨ramps, reacts⟩ := e.fault_ramps hn alone state (by rw [axis]; exact quiet) _ (.inl rfl) 0 faults
  obtain ⟨f, shows⟩ : ∃ f, f = s.found.qualifiedInput n role level raw := ⟨_, rfl⟩
  obtain ⟨axes, kept', regs'⟩ := Dev.qualifiedInput_shows due.works edge shows
  have leaves : Leaves (.qualifiedEdge n role level raw) s f :=
    qualified_leaves live hn small shows.symm (((kept.mono (m := reactionParts) (by decide)).step reacts.keeps).step kept')
  refine leaves.does fun pend vecs => ⟨?_, ?_, ?_⟩
  · have out : Reg.AX1_STATE n ≠ Reg.R4001_DI := fun same => apart₄ (Reg.AX1_STATE n) (by simp) (by rw [same]; simp)
    rw [Dev.axState, Dev.nat, Dev.reg_told, regs' _ (by simpa only [List.mem_singleton] using out), ← Dev.nat, ← Dev.axState, ramps.state]
  · rw [Dev.axis_told, axes, ramps.motion]
  · rw [Dev.axis_told, axes, ramps.cause]

omit small in
/-- A raw transition of an input that one switch of one axis names. -/
theorem transition_shown {input : Nat} (small : role < 3) (works : s.found.inputDead input = false) (named : s.found.namedBy input = [(n, role)]) :
    Does (.rawTransition input level raw) s fun b a =>
      (a.axIn n role).last = some (b.stampOf input raw) ∧
      (a.axIn n role).first = some ((b.axIn n role).first.getD (b.stampOf input raw)) ∧
      (if (decide (input < 32) && (b.axIn n role).counts (b.stampOf input raw)) = true
        then a.nat (Reg.AX12_EDGE_COUNT n) = min 255 (b.nat (Reg.AX12_EDGE_COUNT n) + 1)
        else a.reg (Reg.AX12_EDGE_COUNT n) = b.reg (Reg.AX12_EDGE_COUNT n)) ∧ (∀ m, m ≠ n → a.axis m = b.axis m) := by
  obtain ⟨e, made⟩ : ∃ e, e = s.found.rawFor n role (s.found.stampOf input raw) level (decide (input < 32)) := ⟨_, rfl⟩
  obtain ⟨last, first, count, others, keeps⟩ := s.found.rawFor_shows hn small _ level _ made
  have alone : ([(n, role)].any fun x : Nat × Nat => x.1 == n && decide (x.2 < role)) = false := by simp
  have result : s.found.rawInput input level raw = e := by
    rw [made]
    refine (if_neg (by rw [works]; decide)).trans ?_
    unfold Dev.rawTransition
    rw [named]
    refine (each_one _ _ _).trans ?_
    change s.found.rawFor n role _ level (decide (input < 32) && !([(n, role)].any fun x : Nat × Nat => x.1 == n && decide (x.2 < role))) = _
    rw [alone, Bool.not_false, Bool.and_true]
  have leaves : Leaves (.rawTransition input level raw) s e := .cell (guard := Dev.live) (fun d => d.rawInput input level raw) live.passes result keeps
  exact leaves.does fun pend vecs => ⟨last, first, count, others⟩

end

section
variable {s : State} {n : Nat} (live : s.Live) (hn : n < 128)
include live hn

omit live in
theorem latchTypes : odType (Reg.AX11_LATCH_VALID n) = .bool ∧ odType (Reg.AX11_LATCH_ARM n) = .u8 := by
  revert n
  decide +kernel

theorem latch_shown {raw : Nat} {p : Int} {v : Bool} (waits : (s.found.axis n).latches = [(.general, raw)])
    (known : s.found.positionAt n raw = some (p, v)) : Does (.latchResult n) s fun b a =>
      a.reg (Reg.AX11_LATCH_POS n) = (odType (Reg.AX11_LATCH_POS n)).wrap p ∧ a.reg (Reg.AX11_LATCH_VALID n) = (if v then 1 else 0) ∧
      a.axis n = { b.axis n with latches := [] } ∧ b.Keeps a [.od, .axes] ∧ b.KeepsRegs a [Reg.AX11_LATCH_POS n, Reg.AX11_LATCH_VALID n] := by
  obtain ⟨f, empties⟩ : ∃ f, f = s.found.modAxis n fun a => { a with latches := [] } := ⟨_, rfl⟩
  obtain ⟨e, made⟩ : ∃ e, e = (f.set (Reg.AX11_LATCH_POS n) p).set (Reg.AX11_LATCH_VALID n) (if v then 1 else 0) := ⟨_, rfl⟩
  have result : s.found.latchResult n = e := by
    rw [Dev.latchResult_eq _ _ _ waits, Dev.askPosition, Dev.positionAt_emptied, known, made, empties]
    rfl
  have keeps : s.found.Keeps e [.od, .axes] := by
    rw [made, empties]
    exact (((Dev.Keeps.refl _ _).modAxis _ _).set _ _).set _ _
  have leaves : Leaves (.latchResult n) s e := axis_leaves live hn rfl result keeps
  have apart : Reg.AX11_LATCH_POS n ≠ Reg.AX11_LATCH_VALID n := by simp
  have type := (latchTypes hn).1
  refine leaves.quietly (keeps .event (by decide)) ⟨?_, ?_, ?_, keeps, fun k hk => ?_⟩
  · rw [made, Dev.reg_set_other _ _ apart, Dev.reg_set_same]
  · rw [made, Dev.reg_set_same, type]
    cases v <;> rfl
  · rw [made, Dev.axis_set, Dev.axis_set, empties, Dev.axis_modAxis]
  · simp only [List.mem_cons, List.not_mem_nil, or_false, not_or] at hk
    rw [made, Dev.reg_set_other _ _ hk.2, Dev.reg_set_other _ _ hk.1, empties, Dev.reg_modAxis]

theorem latch_waits {raw : Nat} (waits : (s.found.axis n).latches = [(.general, raw)]) (unknown : s.found.positionAt n raw = none) :
    Does (.latchResult n) s fun b a => a.axis n = b.axis n ∧ (∀ m, m ≠ n → a.axis m = b.axis m) ∧ b.Keeps a [.axes] := by
  obtain ⟨f, empties⟩ : ∃ f, f = s.found.modAxis n fun a => { a with latches := [] } := ⟨_, rfl⟩
  obtain ⟨e, made⟩ : ∃ e, e = f.modAxis n fun a => { a with latches := a.latches ++ [(.general, raw)] } := ⟨_, rfl⟩
  have result : s.found.latchResult n = e := by
    rw [Dev.latchResult_eq _ _ _ waits, Dev.askPosition, Dev.positionAt_emptied, unknown, made, empties]
  have keeps : s.found.Keeps e [.axes] := by
    rw [made, empties]
    exact ((Dev.Keeps.refl _ _).modAxis _ _).modAxis _ _
  have leaves : Leaves (.latchResult n) s e := axis_leaves live hn rfl result keeps
  refine leaves.quietly (keeps .event (by decide)) ⟨?_, fun m hm => ?_, keeps⟩
  · rw [made, Dev.axis_modAxis, empties, Dev.axis_modAxis, List.nil_append, ← waits]
  · rw [made, Dev.axis_modAxis_other _ _ hm, empties, Dev.axis_modAxis_other _ _ hm]

omit live in
theorem latch_armed (up : s.Up) {edge : Nat} (listed : edge ≤ 2) : Does (.latchArm n edge) s fun b a =>
    a.done = Code.STATUS_OK ∧ a.nat (Reg.AX11_LATCH_ARM n) = edge ∧ b.Keeps a [.od, .done] ∧ b.KeepsRegs a [Reg.AX11_LATCH_ARM n] := by
  have keeps : s.found.Keeps ((s.found.set (Reg.AX11_LATCH_ARM n) edge).finish Code.STATUS_OK) [.od, .done] :=
    ((Dev.Keeps.refl _ _).set _ _).finish _
  have leaves : Leaves (.latchArm n edge) s ((s.found.set (Reg.AX11_LATCH_ARM n) edge).finish Code.STATUS_OK) :=
    .cell (guard := fun d => d.upIf (n < 128)) (fun d => d.latchArm n edge) (up.passesIf hn) (if_pos listed) keeps
  have shown : (s.found.set (Reg.AX11_LATCH_ARM n) edge).nat (Reg.AX11_LATCH_ARM n) = edge := by
    rw [Dev.nat, Dev.reg_set_same, (latchTypes hn).2]
    exact OdType.toNat_wrap_u8 (by omega)
  exact leaves.quietly rfl ⟨rfl, shown, keeps, fun k hk => Dev.reg_set_other _ _ (by simpa using hk)⟩

omit live in
theorem latch_refused (up : s.Up) {edge : Nat} (beyond : 2 < edge) : Does (.latchArm n edge) s fun b a =>
    a.done = Code.OD_RANGE ∧ b.Keeps a [.done] := by
  have leaves : Leaves (.latchArm n edge) s (s.found.finish Code.OD_RANGE) :=
    .cell (guard := fun d => d.upIf (n < 128)) (fun d => d.latchArm n edge) (up.passesIf hn) (if_neg (by omega)) (s.found.keeps_finish _)
  exact leaves.finished

theorem index_references {raw : Nat} {p : Int} (index : s.found.nat (Reg.AX11_HOME_STATE n) = HomeState.index)
    (known : s.found.positionAt n raw = some (p, true)) : Does (.indexPulse n raw) s fun b a =>
      (a.axis n).offset = (b.axis n).offset + (b.reg (Reg.AX11_HOME_POS n) - p) ∧ a.nat (Reg.AX11_HOME_STATE n) = HomeState.done ∧
      b.Keeps a [.od, .axes, .safe] := by
  obtain ⟨e, made⟩ : ∃ e, e = s.found.reference n p := ⟨_, rfl⟩
  obtain ⟨offset, done, keeps⟩ := s.found.reference_shows hn p made
  have result : s.found.indexPulse n raw = e := by
    refine (if_pos index).trans ?_
    unfold Dev.askPosition
    rw [known, made]
    exact (if_pos (.inr index)).trans (if_pos rfl)
  have leaves : Leaves (.indexPulse n raw) s e := axis_leaves live hn rfl result keeps
  exact leaves.quietly (keeps .event (by decide)) ⟨offset, done, keeps⟩

theorem index_waits {raw : Nat} (index : s.found.nat (Reg.AX11_HOME_STATE n) = HomeState.index) (unknown : s.found.positionAt n raw = none) :
    Does (.indexPulse n raw) s fun b a =>
      a.axis n = { b.axis n with latches := (b.axis n).latches ++ [(.homing, raw)] } ∧ b.Keeps a [.axes] := by
  obtain ⟨e, made⟩ : ∃ e, e = s.found.modAxis n fun a => { a with latches := a.latches ++ [(.homing, raw)] } := ⟨_, rfl⟩
  have result : s.found.indexPulse n raw = e := by
    refine (if_pos index).trans ?_
    unfold Dev.askPosition
    rw [unknown, made]
  have keeps : s.found.Keeps e [.axes] := by rw [made]; exact s.found.keeps_modAxis _ _
  have leaves : Leaves (.indexPulse n raw) s e := axis_leaves live hn rfl result keeps
  refine leaves.quietly (keeps .event (by decide)) ⟨?_, keeps⟩
  rw [made, Dev.axis_modAxis]

end

/-- Settles O27: raw transitions and qualified edges as their axis shows them, the references of homing, levels that stay active, and the
general latch. -/
theorem inputsAndLatches : Obligations.InputsAndLatches := by
  unfold Obligations.InputsAndLatches
  refine ⟨fun input n role level raw s live hn small => ?_, fun n s hn => ?_⟩
  · intro d x ref us stood at_ counts here active
    refine ⟨fun works named => ?_, fun out => ?_, fun due idle still => ?_, fun due idle low on moving quiet free => ?_, fun out => ?_⟩
    · obtain ⟨a, ran, last, first, count, others⟩ := transition_shown (level := level) (raw := raw) live hn small works named
      have same : (decide (input < 32) && (s.found.axIn n role).counts (s.found.stampOf input raw)) = true ↔ counts := by
        rw [Bool.and_eq_true, decide_eq_true_eq]
        refine and_congr_right' ?_
        unfold AxIn.counts
        change _ ↔ ((s.found.axIn n role).prev = none ∨ ∃ l, (s.found.axIn n role).prev = some l ∧ l + 2 ≤ s.found.stampOf input raw)
        cases (s.found.axIn n role).prev with
        | none => simp
        | some l => simp
      refine ⟨a, ran, last, first, fun counted => ?_, fun missed => ?_, others⟩
      · rwa [if_pos (same.2 counted)] at count
      · rwa [if_neg (mt same.1 missed)] at count
    · have leaves : Leaves (.rawTransition input level raw) s s.found := by
        refine .cell (guard := Dev.live) (l := []) (fun d => d.rawInput input level raw) live.passes ?_ (Dev.Keeps.refl _ _)
        unfold Dev.rawInput
        split
        · rfl
        next works =>
          have none_ : s.found.namedBy input = [] := out.resolve_left works
          unfold Dev.rawTransition
          rw [none_]
          rfl
      exact leaves.unchanged
    · obtain ⟨named, works, differs, stands⟩ := due
      obtain ⟨a, ran, level_, firsts, refs, quals, first, last, others, keeps, regs⟩ :=
        edge_shown live hn small ⟨named, works, differs, stands⟩ idle still
      exact ⟨a, ran, level_, firsts, refs, quals, first, last, others, keeps, regs⟩
    · obtain ⟨named, works, differs, stands⟩ := due
      exact edge_limits live hn small ⟨named, works, differs, stands⟩ idle low on moving quiet free
    · have stays : d.qualifiedEdge n role level raw = d := by
        refine if_pos (.inr (.inr ?_))
        rcases out with same | early
        · exact .inl same
        · exact .inr (not_le.1 early)
      by_cases dead : d.inputDead (d.inputOf n role) = true
      · have keeps : d.Keeps d [.od] := .refl _ _
        have leaves : Leaves (.qualifiedEdge n role level raw) s d := qualified_leaves live hn small (if_pos dead) keeps
        exact leaves.quietly rfl ⟨keeps, fun _ _ => rfl⟩
      · obtain ⟨f, shows⟩ : ∃ f, f = d.qualifiedInput n role level raw := ⟨_, rfl⟩
        obtain ⟨-, keeps, regs⟩ := Dev.qualifiedInput_shows (Bool.not_eq_true _ ▸ dead) stays shows
        have leaves : Leaves (.qualifiedEdge n role level raw) s f := qualified_leaves live hn small shows.symm keeps
        exact leaves.quietly (keeps .event (by decide)) ⟨keeps, regs⟩
  · intro d
    refine ⟨fun raw p live index known => index_references live hn index known, fun raw live index unknown => index_waits live hn index unknown,
      fun raw live away => ?_, fun live push stood => ?_,
      fun live out => ?_, fun role live small active fresh limit long idle => ?_, fun role live small out => ?_, fun edge up listed => latch_armed hn up listed,
      fun edge up beyond => latch_refused hn up beyond, fun raw p v live waits known => latch_shown live hn waits known,
      fun raw live waits unknown => latch_waits live hn waits unknown⟩
    · exact (axis_leaves live hn (f := (Dev.indexPulse · n raw)) (e := s.found) (l := []) rfl (if_neg away) (Dev.Keeps.refl _ _)).unchanged
    · obtain ⟨e, made⟩ : ∃ e, e = d.hardStop n := ⟨_, rfl⟩
      obtain ⟨at_, state, motion, keeps⟩ := d.hardStop_shows hn push stood made
      have leaves : Leaves (.hardStopDetected n) s e := axis_leaves live hn rfl made.symm keeps
      exact leaves.quietly (keeps .event (by decide)) ⟨at_, state, motion, keeps⟩
    · refine (axis_leaves live hn (f := (Dev.hardStop · n)) (e := s.found) (l := []) rfl (if_neg ?_) (Dev.Keeps.refl _ _)).unchanged
      rintro ⟨push, stood⟩
      exact out.elim (fun away => away push) fun early => absurd stood (not_le.2 early)
    · obtain ⟨e, made⟩ : ∃ e, e = d.stuckActive n role := ⟨_, rfl⟩
      obtain ⟨last, stuck, bit, keeps, regs⟩ := d.stuckActive_shows hn small active fresh limit long idle made
      have leaves : Leaves (.stuckActive n role) s e :=
        .cell (guard := fun d => d.liveIf (n < 128 ∧ role < 3)) (fun d => d.stuckActive n role) (live.passesIf ⟨hn, small⟩) made.symm keeps
      exact leaves.does fun pend vecs => ⟨last.told _ _, stuck, bit, (keeps.mono (m := .axes :: logParts) (by decide)).told _ _, regs⟩
    · have leaves : Leaves (.stuckActive n role) s s.found := by
        refine .cell (guard := fun d => d.liveIf (n < 128 ∧ role < 3)) (l := []) (fun d => d.stuckActive n role) (live.passesIf ⟨hn, small⟩) (if_neg ?_)
          (Dev.Keeps.refl _ _)
        rintro ⟨-, limit, active, -, fresh⟩
        rcases out with stuck | off | free
        · exact Bool.false_ne_true (fresh.symm.trans stuck)
        · exact Bool.false_ne_true (off.symm.trans active)
        · exact limit (by rw [show s.found.nat (Reg.AX12_MAX_ACTIVE_MS n) = 0 from free])
      exact leaves.unchanged

end Sys2Proof.Machine
end

section
/-! # The SI and the command latch (R17, R18, R20, R21, R94, R131) -/

namespace Sys2Proof.Machine

/-! ## Loops of which one round alone does something -/

theorem each_idle {α σ : Type} {xs : List α} {f : α → σ → σ} {s : σ} (idle : ∀ x ∈ xs, f x s = s) : each xs f s = s :=
  each_holds (fun t => t = s) xs f (fun x hx t same => by rw [same, idle x hx]) rfl

theorem each_only {α σ : Type} {xs : List α} {f : α → σ → σ} {x : α} (once : xs.Nodup) (mem : x ∈ xs) (idle : ∀ y ∈ xs, y ≠ x → ∀ s, f y s = s)
    (s : σ) : each xs f s = f x s := by
  induction xs generalizing s with
  | nil => exact absurd mem List.not_mem_nil
  | cons y ys ih =>
    obtain ⟨fresh, once'⟩ := List.nodup_cons.1 once
    by_cases same : y = x
    · subst same
      exact each_idle fun z hz => idle z (List.mem_cons_of_mem _ hz) (fun eq => fresh (eq ▸ hz)) _
    · have skip : each (y :: ys) f s = each ys f s := congrArg (each ys f) (idle y List.mem_cons_self same s)
      rw [skip]
      exact ih once' ((List.mem_cons.1 mem).resolve_left fun eq => same eq.symm) (fun z hz => idle z (List.mem_cons_of_mem _ hz)) s

theorem iterate_idle {σ : Type} {n : Nat} {f : Nat → σ → σ} {s : σ} (idle : ∀ i < n, f i s = s) : iterate n f s = s :=
  each_idle fun i hi => idle i (List.mem_range.1 hi)

theorem iterate_only {σ : Type} {n i : Nat} {f : Nat → σ → σ} (hi : i < n) (idle : ∀ j < n, j ≠ i → ∀ s, f j s = s) (s : σ) :
    iterate n f s = f i s := each_only List.nodup_range (List.mem_range.2 hi) (fun j hj => idle j (List.mem_range.1 hj)) s

/-- What a change of every entry leaves alone of each. -/
theorem mget_mmap {α β : Type} [DecidableEq α] {d : α} {f : Nat → α → α} {g : α → β} (keeps : ∀ k a, g (f k a) = g a) (m : Map α) (j : Nat) :
    g (mget d (mmap d m f) j) = g (mget d m j) := by
  refine List.foldlRecOn (motive := fun r => g (mget d r j) = g (mget d m j)) (m.map Prod.fst) _ rfl fun r same k _ => ?_
  by_cases eq : j = k
  · rw [eq, mget_mset_same, keeps]
  · rw [mget_mset_other _ _ _ _ eq, same]

/-! ## The SI -/

theorem Dev.sampleInstant_clk (d : Dev) (si : SampleIn) (lit : d.dark = false) : (d.sampleInstant si).clk.tick = d.clk.next.tick ∧
    (d.sampleInstant si).clk.si = d.clk.next.si ∧ (d.sampleInstant si).clk.cycle64 = d.clk.next.cycle64 := by
  unfold Dev.sampleInstant
  rw [if_neg (by rw [lit]; decide)]
  exact ⟨rfl, rfl, rfl⟩

theorem sampleInstant_advances {s : State} (live : s.Live) (ok : s.ClockOk) (si : SampleIn) : Does (.sampleInstant si) s fun b a =>
    a.clk.tick = (b.clk.tick + 1) % 8 ∧ a.clk.si = b.clk.si + 31250 * 2 ^ 40 ∧
    a.clk.cycle64 = if b.clk.tick = 7 then (b.clk.cycle64 + 1) % 2 ^ 64 else b.clk.cycle64 := by
  obtain ⟨low, fits⟩ := ok
  obtain ⟨tick, si_, cycle⟩ := s.found.sampleInstant_clk si live
  obtain ⟨e, made⟩ : ∃ e, e = s.found.sampleInstant si := ⟨_, rfl⟩
  rw [← made] at tick si_ cycle
  have now : s.found.clk.tick % 8 = s.found.clk.tick := Nat.mod_eq_of_lt low
  have tick' : e.clk.tick = (s.found.clk.tick + 1) % 8 := tick
  have cycle' : e.clk.cycle64 = if s.found.clk.tick = 7 then (s.found.clk.cycle64 + 1) % 2 ^ 64 else s.found.clk.cycle64 := by
    rw [cycle, Clock.next, now]
  have within : e.clk.cycle64 < 2 ^ 64 := by
    rw [cycle']
    split
    · exact Nat.mod_lt _ (by decide)
    · exact fits
  have leaves : Leaves (.sampleInstant si) s e :=
    .clocked (guard := fun d g => g d) (fun d => d.sampleInstant si) (fun _ => rfl) made.symm (by rw [tick']; omega) within
  exact leaves.does fun pend vecs => ⟨tick', si_, cycle'⟩

/-! ## The command latch -/

/-- The device that a command of the cell answers with what it leaves. -/
def State.cellOf (s : State) (d : Dev) : Dev :=
  { d.tellEvent s.dev.event with
    clk := s.dev.clk, mem := s.dev.mem, wall := s.dev.wall, cpi := s.dev.cpi, io := s.dev.io, acts := s.dev.acts,
    link := s.dev.link, ptp := s.dev.ptp, pair := s.dev.pair, sett := s.dev.sett, dma := s.dev.dma, aon := s.dev.aon,
    flash := s.dev.flash, boot := s.dev.boot, health := s.dev.health, power := s.dev.power }

theorem commandLatch_empties {s : State} (live : s.Live) (reach : Nat) : Does (.commandLatch reach) s fun _ a => a.waits = [] := by
  obtain ⟨pend, vecs, told⟩ := (s.found.commandLatch reach).tellEvent_told s.dev.event
  have empty : ((s.found.commandLatch reach).told pend vecs).waits = [] := rfl
  refine ⟨s.cellOf (s.found.commandLatch reach), ?_, ?_⟩
  · rw [show exec (.commandLatch reach) s = s.answerCell fun d => d.live fun d => d.commandLatch reach from rfl, State.answerCell, live.passes]
    rfl
  change ((s.found.commandLatch reach).tellEvent s.dev.event).waits = []
  rw [told, empty]

/-- The device as the latch begins: the limits written are in force. -/
def Dev.latchBegins (d : Dev) : Dev := { d.at 2000 with axes := mmap {} d.axes fun _ a => { a with limKeep := [] } }

/-- The device as a latch that evaluates nothing ends. -/
def Dev.latchEnds (d : Dev) : Dev := { d.runProfiles 0 with waits := [] }

theorem Dev.keeps_latchBegins (d : Dev) : d.Keeps d.latchBegins [.ph, .axes] := by
  intro p hp
  cases p with
  | ph | axes => simp at hp
  | _ => rfl

theorem Dev.keeps_latchEnds (d : Dev) : d.Keeps d.latchEnds [.waits, .lateP] := by
  intro p hp
  cases p with
  | waits | lateP => simp at hp
  | _ => rfl

theorem Dev.held_latchBegins (d : Dev) (n : Nat) : (d.latchBegins.axis n).held = (d.axis n).held :=
  mget_mmap (d := ({} : Axis)) (f := fun _ a => { a with limKeep := [] }) (g := Axis.held) (fun _ _ => rfl) d.axes n

/-- A chain's control of the list written before the latch. -/
def Dev.takeControls (d : Dev) (ws : List Wait) : Dev := each ws (fun w d => match w with | .ctl c code => d.chainControl c code | _ => d) d

/-- Over axes that are all DISABLED with no control word, a latch takes commands and chain controls alone. -/
theorem Dev.commandLatch_idle (d : Dev) (idle : ∀ n < 128, d.axState n = AxState.disabled ∧ d.nat (Reg.AX1_CONTROL n) = 0) :
    d.commandLatch 0 = ((d.latchBegins.takeCommands d.waits).takeControls d.waits).latchEnds := by
  have regs : ∀ k, d.latchBegins.nat k = d.nat k := fun _ => rfl
  unfold Dev.commandLatch
  extract_lets marked ws begun latched commanded controlled
  have same : latched = begun := by
    refine iterate_idle fun n hn => ?_
    obtain ⟨state, word⟩ := idle n hn
    have off : ¬(begun.nat (Reg.AX1_CONTROL n) ≠ 0 ∨ begun.axState n ≠ AxState.disabled) := by
      change ¬(d.nat (Reg.AX1_CONTROL n) ≠ 0 ∨ d.axState n ≠ AxState.disabled)
      rw [state, word]
      decide
    exact if_neg off
  have commands : commanded = d.latchBegins.takeCommands d.waits := congrArg (Dev.takeCommands · d.waits) same
  rw [← commands]
  rfl

/-- The commands of an axis among those written. -/
def commandsOf (ws : List Wait) (n : Nat) : List Nat :=
  ws.filterMap fun w => match w with | .cmd m code => if m = n then some code else none | _ => none

theorem Dev.takeCommands_none (d : Dev) {ws : List Wait} (none_ : ∀ n, commandsOf ws n = []) : d.takeCommands ws = d := by
  refine iterate_idle fun n _ => ?_
  change (match (commandsOf ws n).getLast? with | some code => _ | none => d) = d
  rw [none_]
  rfl

theorem Dev.takeCommands_one (d : Dev) {n code : Nat} (hn : n < 128) : d.takeCommands [.cmd n code] = d.hold n (d.params n code) := by
  have own : commandsOf [.cmd n code] n = [code] := by simp [commandsOf]
  refine (iterate_only hn (fun m _ other e => ?_) d).trans ?_
  · have none_ : commandsOf [.cmd n code] m = [] := by simp [commandsOf, Ne.symm other]
    change (match (commandsOf [.cmd n code] m).getLast? with | some code => _ | none => e) = e
    rw [none_]
    rfl
  · change (match (commandsOf [.cmd n code] n).getLast? with
      | some x => (iterate ((commandsOf [.cmd n code] n).length - 1) (fun (_ : Nat) (d : Dev) => d.raiseAxis Code.CMD_REPLACED n) d).hold n
        ((iterate ((commandsOf [.cmd n code] n).length - 1) (fun (_ : Nat) (d : Dev) => d.raiseAxis Code.CMD_REPLACED n) d).params n x)
      | none => d) = _
    rw [own]
    rfl

theorem Dev.hold_free (d : Dev) {n : Nat} {h : Held} (free : (d.axis n).held = none) :
    d.hold n h = d.modAxis n fun a => { a with held := some h } := by
  unfold Dev.hold
  rw [free]

section
variable {s : State} (idle : ∀ n < 128, s.found.axState n = AxState.disabled ∧ s.found.nat (Reg.AX1_CONTROL n) = 0) (live : s.Live)
include idle live

/-- A latch over idle axes leaves what taking the commands and controls leaves. -/
theorem latch_leaves {e : Dev} (taken : (s.found.latchBegins.takeCommands s.found.waits).takeControls s.found.waits = e)
    (keeps : s.found.latchBegins.Keeps e [.od, .chains, .axes]) : Leaves (.commandLatch 0) s e.latchEnds := by
  have all : s.found.Keeps e.latchEnds [.ph, .od, .chains, .axes, .waits, .lateP] :=
    ((s.found.keeps_latchBegins.mono (by decide)).step keeps).step e.keeps_latchEnds
  refine .cell (guard := Dev.live) (fun d => d.commandLatch 0) live.passes ?_ all
  rw [Dev.commandLatch_idle _ idle, taken]

theorem latch_nothing (none_ : s.found.waits = []) : Does (.commandLatch 0) s fun b a => b.Keeps a [.ph, .axes, .waits, .lateP] := by
  have taken : (s.found.latchBegins.takeCommands s.found.waits).takeControls s.found.waits = s.found.latchBegins := by
    rw [none_, Dev.takeCommands_none _ fun _ => rfl]
    rfl
  have leaves := latch_leaves idle live taken (Dev.Keeps.refl _ _)
  have keeps : s.found.Keeps s.found.latchBegins.latchEnds [.ph, .axes, .waits, .lateP] :=
    (s.found.keeps_latchBegins.mono (by decide)).step s.found.latchBegins.keeps_latchEnds
  exact leaves.quietly (keeps .event (by decide)) keeps

theorem latch_controls {c code : Nat} (hc : c < 16) (written : s.found.waits = [.ctl c code]) (listed : code = 1 ∨ code = 2 ∨ code = 4)
    (free : (s.found.chain c).aborting = false) : Does (.commandLatch 0) s fun b a =>
      a.nat (Reg.CH5_CONTROL c) = code ∧ b.KeepsRegs a [Reg.CH5_CONTROL c] := by
  obtain ⟨e, made⟩ : ∃ e, e = s.found.latchBegins.chainControl c code := ⟨_, rfl⟩
  have taken : (s.found.latchBegins.takeCommands s.found.waits).takeControls s.found.waits = e := by
    rw [written, Dev.takeCommands_none _ fun _ => rfl, made]
    rfl
  have free' : (s.found.latchBegins.chain c).aborting = false := free
  have shows : ∃ f : Dev, e = f.set (Reg.CH5_CONTROL c) code ∧ s.found.latchBegins.Keeps f [.chains] := by
    rcases listed with rfl | rfl | rfl
    · refine ⟨s.found.latchBegins, ?_, .refl _ _⟩
      rw [made, Dev.chainControl, Dev.chainRun, free']
      rfl
    · refine ⟨s.found.latchBegins, ?_, .refl _ _⟩
      rw [made, Dev.chainControl, Dev.chainPause, free']
      rfl
    · exact ⟨_, made, Dev.keeps_modChain _ _ _⟩
  obtain ⟨f, sets, kept⟩ := shows
  have keeps : s.found.latchBegins.Keeps e [.od, .chains] := by rw [sets]; exact (kept.mono (by decide)).set _ _
  have regs : ∀ k, e.latchEnds.reg k = e.reg k := fun _ => rfl
  have leaves := latch_leaves idle live taken (keeps.mono (by decide))
  refine leaves.quietly ?_ ⟨?_, fun k hk => ?_⟩
  · have quiet : e.latchEnds.event = e.event := rfl
    rw [quiet]
    exact keeps .event (by decide)
  · rw [Dev.nat, regs, sets, Dev.reg_set_same, (chainRegs_apart hc).2.2.2.2.2.1]
    exact OdType.toNat_wrap_u8 (by omega)
  · rw [regs, sets, Dev.reg_set_other _ _ (by simpa using hk), Dev.reg_congr (kept .od (by decide))]
    rfl

theorem latch_holds {n code : Nat} (hn : n < 128) (written : s.found.waits = [.cmd n code]) (free : (s.found.axis n).held = none) :
    Does (.commandLatch 0) s fun b a =>
      (a.axis n).held = some { code, target := b.reg (Reg.AX4_TARGET n), vel := b.reg (Reg.AX4_VEL n), acc := b.reg (Reg.AX4_ACC n),
                               jerk := b.reg (Reg.AX4_JERK n), seq := b.nat (Reg.AX4_SEQ n) } ∧
      b.Keeps a [.ph, .axes, .waits, .lateP] := by
  obtain ⟨e, made⟩ : ∃ e, e = s.found.latchBegins.modAxis n fun a => { a with held := some (s.found.latchBegins.params n code) } := ⟨_, rfl⟩
  have taken : (s.found.latchBegins.takeCommands s.found.waits).takeControls s.found.waits = e := by
    rw [written, Dev.takeCommands_one _ hn, Dev.hold_free _ ((s.found.held_latchBegins n).trans free), ← made]
    rfl
  have keeps : s.found.latchBegins.Keeps e [.axes] := by rw [made]; exact Dev.keeps_modAxis _ _ _
  have leaves := latch_leaves idle live taken (keeps.mono (by decide))
  have all : s.found.Keeps e.latchEnds [.ph, .axes, .waits, .lateP] :=
    ((s.found.keeps_latchBegins.step keeps).mono (m := [.ph, .axes, .waits, .lateP]) (by decide)).step e.keeps_latchEnds
  have axis : e.latchEnds.axis n = e.axis n := e.keeps_latchEnds.axis n
  refine leaves.quietly (all .event (by decide)) ⟨?_, all⟩
  rw [axis, made, Dev.axis_modAxis]
  rfl

end

/-- Settles O28: every SI moves the counters on by one tick, and a latch takes what was written before it. -/
theorem tickAndLatch : Obligations.TickAndLatch := by
  unfold Obligations.TickAndLatch
  intro s
  refine ⟨fun si live ok => sampleInstant_advances live ok si, fun reach live => commandLatch_empties live reach, fun idle live =>
    ⟨fun none_ => latch_nothing idle live none_, fun c code hc written listed free => latch_controls idle live hc written listed free,
      fun n code hn written free => latch_holds idle live hn written free⟩⟩

end Sys2Proof.Machine
end

section
/-! # Barriers, exceptions and claims of the work cores (R46, R250, R252, R253, R278) -/

namespace Sys2Proof.Machine

/-! ## A hart that changes -/

section
variable (d : Dev)

@[simp] theorem Dev.hart_told (pend vecs : List Nat) (h : Nat) : (d.told pend vecs).hart h = d.hart h := rfl

/-- Reckoning a core's time changes of its harts what is reckoned alone. -/
theorem Dev.hart_reckon (k g : Nat) : ∃ mark busy, (d.reckon k).hart g = { d.hart g with mark := mark, busy := busy } := by
  have one : ∀ (h : Nat) (t : Nat → Nat) (m : Map Hart), ∃ mark busy,
      mget {} (mset {} m h { mget {} m h with mark := d.rawNow, busy := t h }) g = { mget {} m g with mark := mark, busy := busy } := by
    intro h t m
    by_cases same : g = h
    · rw [same, mget_mset_same]
      exact ⟨_, _, rfl⟩
    · rw [mget_mset_other _ _ _ _ same]
      exact ⟨_, _, rfl⟩
  obtain ⟨m, b, first⟩ := one (2 * k) (fun h => (mget {} d.sett.harts h).busy + if d.issuing h then d.rawNow - (mget {} d.sett.harts h).mark else 0)
    d.sett.harts
  unfold Dev.reckon Dev.hart
  dsimp only
  by_cases same : g = 2 * k + 1
  · rw [same, mget_mset_same]
    rw [same] at first
    rw [first]
    exact ⟨_, _, rfl⟩
  · rw [mget_mset_other _ _ _ _ same, first]
    exact ⟨_, _, rfl⟩

theorem Dev.hart_reckon_other {k g : Nat} (other : g / 2 ≠ k) : (d.reckon k).hart g = d.hart g := by
  unfold Dev.reckon Dev.hart
  dsimp only
  rw [mget_mset_other _ _ _ _ (by omega), mget_mset_other _ _ _ _ (by omega)]

theorem Dev.hart_modHart (h : Nat) (f : Hart → Hart) : (d.modHart h f).hart h = f ((d.reckon (h / 2)).hart h) := mget_mset_same _ _ _ _

theorem Dev.hart_modHart_other {h g : Nat} (f : Hart → Hart) (other : g / 2 ≠ h / 2) : (d.modHart h f).hart g = d.hart g :=
  (mget_mset_other _ _ _ _ (by rintro rfl; exact other rfl)).trans (d.hart_reckon_other other)

theorem Dev.items_modHart (h : Nat) (f : Hart → Hart) : (d.modHart h f).sett.items = d.sett.items := rfl

end

/-! ## A trap -/

/-- What an exception with this cause leaves of the harts and the items. -/
def Dev.Trapped (d e : Dev) (h cause tval : Nat) (c : HartContext) : Prop :=
  let x := d.hart h
  let y := e.hart h
  (c.priv ≤ 1 ∧ c.csr.medeleg.testBit cause = true →
    y.scause = cause ∧ y.sepc = c.pc ∧ y.stval = tval ∧ y.ctx.priv = 1 ∧ y.ctx.pc = vectorOf c.csr.stvec cause ∧
    y.mcause = x.mcause ∧ y.mepc = x.mepc ∧ y.mtval = x.mtval) ∧
  (¬(c.priv ≤ 1 ∧ c.csr.medeleg.testBit cause = true) →
    y.mcause = cause ∧ y.mepc = c.pc ∧ y.mtval = tval ∧ y.ctx.priv = 3 ∧ y.ctx.pc = vectorOf c.csr.mtvec cause ∧
    y.scause = x.scause ∧ y.sepc = x.sepc ∧ y.stval = x.stval) ∧
  (∀ g, g / 2 ≠ h / 2 → e.hart g = d.hart g) ∧ e.sett.items = d.sett.items

theorem Dev.keeps_trap (d : Dev) (h cause tval : Nat) (c : HartContext) : d.Keeps (d.trap h cause tval c) [.sett] := by
  unfold Dev.trap
  extract_lets deleg
  split_ifs
  · exact d.keeps_modHart _ _
  · exact d.keeps_modHart _ _

theorem Dev.trap_traps (d : Dev) {h cause : Nat} (exception : cause < 2 ^ 63) (tval : Nat) (c : HartContext) :
    d.Trapped (d.trap h cause tval c) h cause tval c := by
  obtain ⟨mark, busy, reckoned⟩ := d.hart_reckon (h / 2) h
  unfold Dev.trap Dev.Trapped
  simp only [if_pos exception]
  by_cases toS : c.priv ≤ 1 ∧ c.csr.medeleg.testBit cause = true
  · rw [if_pos toS, Dev.trapS, Dev.hart_modHart, reckoned]
    exact ⟨fun _ => ⟨rfl, rfl, rfl, rfl, rfl, rfl, rfl, rfl⟩, fun no => absurd toS no, fun g hg => d.hart_modHart_other _ hg, rfl⟩
  · rw [if_neg toS, Dev.trapM, Dev.hart_modHart, reckoned]
    exact ⟨fun yes => absurd yes toS, fun _ => ⟨rfl, rfl, rfl, rfl, rfl, rfl, rfl, rfl⟩, fun g hg => d.hart_modHart_other _ hg, rfl⟩

theorem Dev.Trapped.congr {d e f : Dev} {h cause tval : Nat} {c : HartContext} (t : e.Trapped f h cause tval c) (same : e.sett = d.sett) :
    d.Trapped f h cause tval c := by
  unfold Dev.Trapped Dev.hart at t ⊢
  rw [same] at t
  exact t

/-! ## Barriers, illegal instructions, accesses -/

section
variable {s : State} {h : Nat} {c : HartContext} (live : s.Live) (hh : h < 48)
include live hh

section
variable (issues : s.found.issuing h = true)
include issues

/-- A command of an issuing hart leaves what its meaning says. -/
theorem hart_leaves {i : Instr} {f : Dev → Dev} {e : Dev} {l : List Part} (result : f s.found = e) (keeps : s.found.Keeps e l)
    (within : ∀ p ∈ [Part.clk, .mem], p ∉ l := by decide)
    (hi : exec i s = s.answerDry fun d => d.liveIf (decide (h < 48) && d.issuing h) f := by rfl) : Leaves i s e :=
  .dry (guard := fun d g => d.liveIf (decide (h < 48) && d.issuing h) g) f
    (fun g => by
      have lit : s.found.dark = false := live
      simp [Dev.liveIf, lit, hh, issues]) result keeps within hi

/-- A command of an issuing hart that changes its core alone. -/
theorem hart_does {i : Instr} {f : Dev → Dev} {e : Dev} {P : Dev → Dev → Prop} (result : f s.found = e) (keeps : s.found.Keeps e [.sett])
    (p : P s.found e) (hi : exec i s = s.answerDry fun d => d.liveIf (decide (h < 48) && d.issuing h) f := by rfl) : Does i s P :=
  (hart_leaves live hh issues result keeps (hi := hi)).quietly (keeps .event (by decide)) p

theorem sfence_own : Does (.sfenceVma h) s fun b a => (a.hart h).sfenceAt = some b.rawNow ∧ (∀ g, g / 2 ≠ h / 2 → a.hart g = b.hart g) ∧
    b.Keeps a [.sett] :=
  hart_does live hh issues (f := (Dev.sfence · h)) rfl (Dev.keeps_modHart _ _ _)
    ⟨congrArg Hart.sfenceAt (s.found.hart_modHart _ _), fun _ hg => s.found.hart_modHart_other _ hg, Dev.keeps_modHart _ _ _⟩

theorem fenceI_own : Does (.fenceI h) s fun b a => (a.hart h).fenceIAt = some b.rawNow ∧ (∀ g, g / 2 ≠ h / 2 → a.hart g = b.hart g) ∧
    b.Keeps a [.sett] :=
  hart_does live hh issues (f := (Dev.fenceI · h)) rfl (Dev.keeps_modHart _ _ _)
    ⟨congrArg Hart.fenceIAt (s.found.hart_modHart _ _), fun _ hg => s.found.hart_modHart_other _ hg, Dev.keeps_modHart _ _ _⟩

theorem illegal_traps (tval : Nat) : Does (.illegalInstruction h c.toHartRegs tval c.csr) s fun b a => b.Trapped a h 2 tval c ∧ b.Keeps a [.sett] :=
  hart_does live hh issues (f := (Dev.illegalInstruction · h c tval)) rfl (Dev.keeps_trap _ _ _ _ _)
    ⟨s.found.trap_traps (by decide) tval c, Dev.keeps_trap _ _ _ _ _⟩

/-- What an access breaks, with the PMP entries judged. -/
def breachOf (h kind addr size : Nat) (c : HartContext) : Breach :=
  if pmpAllows c.csr c.priv kind addr size then accessBreach h c.priv kind addr size else .access

omit live hh issues in
theorem breachCause_lt {b : Breach} {kind : Nat} : breachCause b kind < 2 ^ 63 := by
  unfold breachCause
  split_ifs <;> decide

theorem access_breaks {kind addr size : Nat} {b : Breach} (breaks : breachOf h kind addr size c = b) (some_ : b ≠ .none) :
    Does (.accessFault h kind addr size c.toHartRegs c.csr) s fun b' a => b'.Trapped a h (breachCause b kind) c.va c ∧ b'.Keeps a [.sett] := by
  have result : s.found.accessFault h kind addr size c = s.found.trap h (breachCause b kind) c.va c := by
    change (if breachOf h kind addr size c ≠ .none then s.found.trap h (breachCause (breachOf h kind addr size c) kind) c.va c else _) = _
    rw [breaks]
    exact if_pos some_
  exact hart_does live hh issues (f := (Dev.accessFault · h kind addr size c)) result (Dev.keeps_trap _ _ _ _ _)
    ⟨s.found.trap_traps breachCause_lt c.va c, Dev.keeps_trap _ _ _ _ _⟩

theorem access_passes {kind addr size : Nat} (whole : breachOf h kind addr size c = .none) (out : aeCell addr = none) :
    Does (.accessFault h kind addr size c.toHartRegs c.csr) s fun b a => b.Keeps a [] := by
  have result : s.found.accessFault h kind addr size c = s.found := by
    change (if breachOf h kind addr size c ≠ .none then _ else match aeCell addr with | none => s.found | some (e, sub, _) => _) = s.found
    rw [whole, out]
    rfl
  exact (hart_leaves live hh issues (f := (Dev.accessFault · h kind addr size c)) result (Dev.Keeps.refl _ [])).unchanged

theorem store_refused {addr size e sub o : Nat} (whole : breachOf h 2 addr size c = .none) (cell : aeCell addr = some (e, sub, o))
    (refused : s.found.aeWriteRefusal e sub ≠ Code.STATUS_OK) : Does (.accessFault h 2 addr size c.toHartRegs c.csr) s fun b a =>
      b.Trapped a h 7 c.va c ∧ a.LastRaised (b.aeWriteRefusal e sub) Kind.unit (48 + e) ∧ a.aes = b.aes := by
  obtain ⟨r, raised⟩ : ∃ r, r = s.found.raise (s.found.aeWriteRefusal e sub) Kind.unit (48 + e) := ⟨_, rfl⟩
  have result : s.found.accessFault h 2 addr size c = r.trap h 7 c.va c := by
    change (if breachOf h 2 addr size c ≠ .none then _ else match aeCell addr with
      | none => s.found
      | some (e, sub, _) => if 2 = Access.store then
          if s.found.aeWriteRefusal e sub = Code.STATUS_OK then s.found
          else (s.found.raise (s.found.aeWriteRefusal e sub) Kind.unit (48 + e)).trap h (breachCause .access 2) c.va c
        else _) = _
    rw [whole, cell, raised]
    exact (if_neg (by decide)).trans ((if_pos rfl).trans (if_neg refused))
  have keeps : s.found.Keeps r logParts := by rw [raised]; exact (Dev.keeps_raise _ _ _ _ _ _).mono (by decide)
  have trapped := r.keeps_trap h 7 c.va c
  have last : r.LastRaised (s.found.aeWriteRefusal e sub) Kind.unit (48 + e) := by rw [raised]; exact Dev.lastRaised_raise _ _ _ _ _ _
  have leaves : Leaves (.accessFault h 2 addr size c.toHartRegs c.csr) s _ := hart_leaves live hh issues (f := (Dev.accessFault · h 2 addr size c)) (l := .sett :: logParts) result
    ((keeps.mono (by decide)).step trapped)
  refine leaves.does fun pend vecs => ⟨?_, ?_, ?_⟩
  · exact (r.trap_traps (by decide) c.va c).congr (keeps .sett (by decide))
  · exact (last.of_keeps trapped).told pend vecs
  · exact (trapped .aes (by decide)).trans (keeps .aes (by decide))

end

section
variable (waits : s.found.issuing h = false)
include waits

omit hh in
/-- A hart that issues nothing does nothing. -/
theorem hart_idle {i : Instr} {f : Dev → Dev} (hi : exec i s = s.answerDry fun d => d.liveIf (decide (h < 48) && d.issuing h) f := by rfl) :
    Does i s fun b a => b.Keeps a [] := by
  have leaves : Leaves i s s.found :=
    .dry (guard := fun d g => g (d.liveIf (decide (h < 48) && d.issuing h) f)) (l := []) id (fun g => by
      have lit : s.found.dark = false := live
      simp [Dev.liveIf, waits, lit]) rfl (Dev.Keeps.refl _ _) (hi := hi)
  exact leaves.unchanged

end
end

/-! ## What an access breaks -/

section
variable {h kind addr size : Nat} {c : HartContext}

theorem breachOf_access (breaks : accessBreach h c.priv kind addr size = .access) : breachOf h kind addr size c = .access := by
  rw [breachOf, breaks, ite_self]

theorem breachOf_forbidden (forbidden : ¬pmpAllows c.csr c.priv kind addr size = true) : breachOf h kind addr size c = .access :=
  if_neg forbidden

theorem breachOf_allowed (allowed : pmpAllows c.csr c.priv kind addr size = true) :
    breachOf h kind addr size c = accessBreach h c.priv kind addr size := if_pos allowed

variable {priv : Nat}

theorem accessBreach_region {r : Region} (low : addr < 2 ^ 40) (is : regionOf addr = r) (sized : 0 < size) :
    accessBreach h priv kind addr size = match r with
      | .memory => if decide (addr % size = 0) then .none else if kind = Access.amo ∨ addr % 64 + size > 64 then .misaligned else .none
      | .rom =>
        if priv ≠ 3 ∨ kind = Access.store ∨ kind = Access.amo then .access
        else if decide (addr % size = 0) = true ∨ addr % 64 + size ≤ 64 then .none else .misaligned
      | .window | .rings => if kind = Access.amo ∨ !decide (addr % size = 0) then .access else .none
      | .engine => if kind = Access.amo ∨ !decide (addr % size = 0) ∨ (aeCell addr).isNone then .access else .none
      | .ports =>
        if kind = Access.fetch ∨ kind = Access.amo ∨ addr % 8 ≠ 0 ∨ size ≠ 8 ∨ (addr - 0x0050000000) / 4096 ≠ h / 2 then .access
        else .none
      | .reserve | .none => .access := by
  have one : max 1 size = size := by omega
  have inside : ¬2 ^ 40 ≤ addr := by omega
  simp only [accessBreach, one, is, if_neg inside]
  cases r <;> rfl

theorem regionOf_memory (lo : 0x0800000000 ≤ addr) (hi : addr < 0x0BFF000000) : regionOf addr = .memory := if_pos ⟨lo, hi⟩

theorem regionOf_reserve (lo : 0x0BFF000000 ≤ addr) (hi : addr < 0x0C00000000) : regionOf addr = .reserve := by
  rw [regionOf, if_neg (by omega), if_pos ⟨lo, hi⟩]

theorem regionOf_window (lo : 0x0040000000 ≤ addr) (hi : addr < 0x0050000000) : regionOf addr = .window := by
  rw [regionOf, if_neg (by omega), if_neg (by omega), if_pos ⟨lo, hi⟩]

theorem regionOf_ports (lo : 0x0050000000 ≤ addr) (hi : addr < 0x0050018000) : regionOf addr = .ports := by
  rw [regionOf, if_neg (by omega), if_neg (by omega), if_neg (by omega), if_pos ⟨lo, hi⟩]

theorem regionOf_engine (lo : 0x0060000000 ≤ addr) (hi : addr < 0x0061000000) : regionOf addr = .engine := by
  rw [regionOf, if_neg (by omega), if_neg (by omega), if_neg (by omega), if_neg (by omega), if_neg (by omega), if_pos ⟨lo, hi⟩]

theorem aeCell_engine {x : Nat × Nat × Nat} (cell : aeCell addr = some x) : 0x0060000000 ≤ addr ∧ addr < 0x0061000000 := by
  have inside : ¬(addr < 0x0060000000 ∨ 2 ≤ (addr - 0x0060000000) / 0x800000) := fun out => by
    unfold aeCell at cell
    dsimp only at cell
    rw [if_pos out] at cell
    exact absurd cell (by simp)
  omega

variable (sized : 0 < size)
include sized

theorem access_window (lo : 0x0040000000 ≤ addr) (hi : addr < 0x0050000000) (wrong : kind = 3 ∨ addr % size ≠ 0) :
    accessBreach h priv kind addr size = .access := by
  rw [accessBreach_region (by omega) (regionOf_window lo hi) sized]
  exact if_pos (wrong.imp id fun odd => by simpa using odd)

theorem access_ports (lo : 0x0050000000 ≤ addr) (hi : addr < 0x0050018000)
    (wrong : (addr - 0x0050000000) / 4096 ≠ h / 2 ∨ addr % 8 ≠ 0 ∨ size ≠ 8 ∨ kind = 0 ∨ kind = 3) :
    accessBreach h priv kind addr size = .access := by
  rw [accessBreach_region (by omega) (regionOf_ports lo hi) sized]
  refine if_pos ?_
  rcases wrong with core | odd | long | fetch | amo
  · exact .inr (.inr (.inr (.inr core)))
  · exact .inr (.inr (.inl odd))
  · exact .inr (.inr (.inr (.inl long)))
  · exact .inl fetch
  · exact .inr (.inl amo)

theorem access_engine (lo : 0x0060000000 ≤ addr) (hi : addr < 0x0061000000) (wrong : kind = 3 ∨ addr % size ≠ 0 ∨ aeCell addr = none) :
    accessBreach h priv kind addr size = .access := by
  rw [accessBreach_region (by omega) (regionOf_engine lo hi) sized]
  exact if_pos (wrong.imp id fun odd => odd.imp (fun odd => by simpa using odd) fun out => by rw [out]; rfl)

theorem access_memory_misaligned (lo : 0x0800000000 ≤ addr) (hi : addr < 0x0BFF000000) (odd : addr % size ≠ 0)
    (wrong : kind = 3 ∨ 64 < addr % 64 + size) : accessBreach h priv kind addr size = .misaligned := by
  rw [accessBreach_region (by omega) (regionOf_memory lo hi) sized]
  exact (if_neg (by simpa using odd)).trans (if_pos wrong)

theorem access_memory_whole (lo : 0x0800000000 ≤ addr) (hi : addr < 0x0BFF000000)
    (right : addr % size = 0 ∨ (kind ≠ 3 ∧ ¬64 < addr % 64 + size)) : accessBreach h priv kind addr size = .none := by
  rw [accessBreach_region (by omega) (regionOf_memory lo hi) sized]
  rcases right with even | ⟨plain, within⟩
  · exact if_pos (by simpa using even)
  · dsimp only
    rw [if_neg (show ¬(kind = Access.amo ∨ addr % 64 + size > 64) from fun wrong => wrong.elim plain within), ite_self]

theorem access_engine_whole {x : Nat × Nat × Nat} (cell : aeCell addr = some x) (even : addr % size = 0) :
    accessBreach h priv 2 addr size = .none := by
  obtain ⟨lo, hi⟩ := aeCell_engine cell
  rw [accessBreach_region (by omega) (regionOf_engine lo hi) sized]
  exact if_neg (by simp [even, cell])

end

/-! ## Claims -/

section
variable {s : State} (live : s.Live) {src : Nat}
include live

/-- Whether an analysis engine's source stays pending (R245). -/
def Dev.sourceStands (d : Dev) (src : Nat) : Prop :=
  80 ≤ src ∧ src - 80 < 2 ∧ d.nat (Reg.R3510_SIGNAL (src - 80)) &&& d.nat (Reg.R3510_SIG_MASK (src - 80)) ≠ 0

theorem claim_clears (free : ¬s.found.sourceStands src) : Does (.plicClaim src) s fun b a =>
    (∀ k, k ∈ a.plic ↔ k ∈ b.plic ∧ k ≠ src) ∧ b.Keeps a [.plic] := by
  have result : s.found.plicClaim src = { s.found with plic := s.found.plic.filter (· != src) } := if_neg free
  have keeps : s.found.Keeps { s.found with plic := s.found.plic.filter (· != src) } [.plic] := by
    intro p hp
    cases p with
    | plic => simp at hp
    | _ => rfl
  have leaves : Leaves (.plicClaim src) s _ := .cell (guard := Dev.live) (fun d => d.plicClaim src) live.passes result keeps
  exact leaves.quietly rfl ⟨fun k => by simp, keeps⟩

theorem claim_stands (stands : s.found.sourceStands src) : Does (.plicClaim src) s fun b a => b.Keeps a [] := by
  have result : s.found.plicClaim src = s.found := if_pos stands
  have leaves : Leaves (.plicClaim src) s s.found :=
    .cell (guard := Dev.live) (l := []) (fun d => d.plicClaim src) live.passes result (Dev.Keeps.refl _ _)
  exact leaves.unchanged

end

/-- Settles O38: each exception traps its own hart, and barriers and claims do their own. -/
theorem hartExceptions : Obligations.HartExceptions := by
  unfold Obligations.HartExceptions
  intro s h c live hh d trapped kindCause
  refine ⟨fun idle => ⟨hart_idle live idle (f := (Dev.sfence · h)), hart_idle live idle (f := (Dev.fenceI · h)),
    fun tval => hart_idle live idle (f := (Dev.illegalInstruction · h c tval)),
    fun kind addr size => hart_idle live idle (f := (Dev.accessFault · h kind addr size c))⟩,
    fun src => ⟨fun free => claim_clears live free, fun stands => claim_stands live stands⟩, fun issues =>
    ⟨sfence_own live hh issues, fenceI_own live hh issues, fun tval => illegal_traps live hh issues tval, ?_⟩⟩
  intro kind addr size small sized _ memory crosses allowed breaks
  have access : breachOf h kind addr size c = .access → breaks := fun b => by
    have does := access_breaks live hh issues b (by decide)
    have cause : breachCause .access kind = kindCause kind + 1 := Nat.add_comm _ _
    rw [cause] at does
    exact does
  refine ⟨fun no => access (breachOf_forbidden no), fun high => access (breachOf_access (if_pos high)),
    fun lo hi => access (breachOf_access ?_), fun lo hi wrong => access (breachOf_access (access_window sized lo hi wrong)),
    fun lo hi wrong => access (breachOf_access (access_ports sized lo hi wrong)),
    fun lo hi wrong => access (breachOf_access (access_engine sized lo hi wrong)), fun ⟨lo, hi⟩ allows odd wrong => ?_,
    fun ⟨lo, hi⟩ allows right => ?_, ?_⟩
  · rw [accessBreach_region (by omega) (regionOf_reserve lo hi) sized]
  · have does := access_breaks live hh issues ((breachOf_allowed allows).trans (access_memory_misaligned sized lo hi odd wrong)) (by decide)
    have cause : breachCause .misaligned kind = kindCause kind := Nat.zero_add _
    rw [cause] at does
    exact does
  · exact access_passes live hh issues ((breachOf_allowed allows).trans (access_memory_whole sized lo hi right))
      (aeCell_memory (regionOf_memory lo hi))
  · rintro e sub o cell allows even rfl refused
    exact store_refused live hh issues ((breachOf_allowed allows).trans (access_engine_whole sized cell even)) cell refused

end Sys2Proof.Machine
end

section
/-! # Counters that wrap, snapshots, freezing and bandwidth windows (R503 to R507) -/

namespace Sys2Proof.Machine

/-! ## Bits of an entry of 8 bits -/

theorem u8_wrap (n : Nat) : (OdType.u8.wrap n).toNat = n % 2 ^ 8 := by
  have narrowed : OdType.u8.wrap n = (n : Int) % 256 := rfl
  rw [narrowed]; omega

theorem Dev.bit_orBits_u8 (d : Dev) {k : Nat} (type : odType k = .u8) (m : Nat) {i : Nat} (hi : i < 8) :
    (d.orBits k m).bit k i = (d.bit k i || m.testBit i) := by
  rw [Dev.bit, Dev.nat, Dev.orBits, Dev.reg_set_same, type, u8_wrap, Nat.testBit_mod_two_pow, Nat.testBit_or]
  simp [hi, Dev.bit]

theorem odType_ofOverflow {n : Nat} (h : n < 0x4B) : odType (Reg.R7810_OVF n) = .u8 ∧ Reg.R7810_OVF n ∉ logRegs ∧ Reg.R7810_OVF_IRQ n ≠ Reg.R7810_OVF n := by
  revert n
  decide +kernel

theorem odType_ofSnapshot {n i : Nat} (hn : n < 0x4B) (hi : i < 8) : odType (Reg.R7810_SNAP_0 n + i) = .u64 := by
  have all : ∀ n < 0x4B, ∀ i < 8, odType (Reg.R7810_SNAP_0 n + i) = .u64 := by decide +kernel
  exact all n hn i hi

theorem odType_ofHealth : odType Reg.R7800_FREEZE = .bool ∧ odType Reg.R7800_WINDOW_NS = .u32 := by decide +kernel

/-- An interrupt that a hart takes. -/
theorem Dev.trap_interrupts (d : Dev) (h : Nat) {i : Nat} (small : i < 2 ^ 63) (tval : Nat) (c : HartContext) {e : Dev} (made : e = d.trap h (2 ^ 63 + i) tval c) :
    (∀ k, k / 2 ≠ h / 2 → e.hart k = d.hart k) ∧
    (c.priv ≤ 1 ∧ c.csr.mideleg.testBit i = true → (e.hart h).scause = 2 ^ 63 + i ∧ (e.hart h).sepc = c.pc ∧
      (e.hart h).ctx.pc = vectorOf c.csr.stvec (2 ^ 63 + i)) ∧
    (¬(c.priv ≤ 1 ∧ c.csr.mideleg.testBit i = true) → (e.hart h).mcause = 2 ^ 63 + i ∧ (e.hart h).mepc = c.pc ∧
      (e.hart h).ctx.pc = vectorOf c.csr.mtvec (2 ^ 63 + i)) := by
  have interrupt : ¬2 ^ 63 + i < 2 ^ 63 := by omega
  have number : (2 ^ 63 + i) % 2 ^ 63 = i := by omega
  unfold Dev.trap at made
  simp only [if_neg interrupt, number] at made
  by_cases toS : c.priv ≤ 1 ∧ c.csr.mideleg.testBit i = true
  · rw [if_pos toS, Dev.trapS] at made
    rw [made, Dev.hart_modHart]
    exact ⟨fun k hk => d.hart_modHart_other _ hk, fun _ => ⟨rfl, rfl, rfl⟩, fun no => absurd toS no⟩
  · rw [if_neg toS, Dev.trapM] at made
    rw [made, Dev.hart_modHart]
    exact ⟨fun k hk => d.hart_modHart_other _ hk, fun yes => absurd yes toS, fun _ => ⟨rfl, rfl, rfl⟩⟩

theorem Dev.keeps_setHealth (d : Dev) (f : Health → Health) : d.Keeps (d.setHealth f) [.health] := d.keeps_health _

section
variable {s : State} (live : s.Live)
include live

/-! ## A hart's counter -/

theorem hartOverflow_traps {h i : Nat} (hh : h < 48) (hi : i < 8) (c : HartContext) (issues : s.found.issuing h = true)
    (clear : s.found.bit (Reg.R7810_OVF h) i = false) : Does (.hartCounterOverflow h i c.toHartRegs c.csr) s fun b a =>
      a.bit (Reg.R7810_OVF h) i = true ∧ (∀ k, k / 2 ≠ h / 2 → a.hart k = b.hart k) ∧
      (c.priv ≤ 1 ∧ c.csr.mideleg.testBit 13 = true → (a.hart h).scause = 2 ^ 63 + 13 ∧ (a.hart h).sepc = c.pc ∧
        (a.hart h).ctx.pc = vectorOf c.csr.stvec (2 ^ 63 + 13)) ∧
      (¬(c.priv ≤ 1 ∧ c.csr.mideleg.testBit 13 = true) → (a.hart h).mcause = 2 ^ 63 + 13 ∧ (a.hart h).mepc = c.pc ∧
        (a.hart h).ctx.pc = vectorOf c.csr.mtvec (2 ^ 63 + 13)) ∧
      b.KeepsRegs a [Reg.R7810_OVF h] ∧ b.Keeps a [.od, .sett] := by
  obtain ⟨f, marked⟩ : ∃ f, f = s.found.orBits (Reg.R7810_OVF h) (2 ^ i) := ⟨_, rfl⟩
  obtain ⟨e, made⟩ : ∃ e, e = f.trap h (2 ^ 63 + 13) 0 c := ⟨_, rfl⟩
  have result : s.found.hartOverflow h i c = e := by
    rw [made, marked]
    exact if_neg (by rw [clear]; simp; omega)
  have kept : s.found.Keeps f [.od] := by rw [marked]; exact Dev.keeps_set _ _ _
  have trapped : f.Keeps e [.sett] := by rw [made]; exact Dev.keeps_trap _ _ _ _ _
  have keeps : s.found.Keeps e [.od, .sett] := (kept.mono (by decide)).step trapped
  have leaves : Leaves (.hartCounterOverflow h i c.toHartRegs c.csr) s e :=
    hart_leaves live hh issues (f := (Dev.hartOverflow · h i c)) result keeps
  have regs : ∀ k, e.reg k = f.reg k := fun k => Dev.reg_congr (trapped .od (by decide)) k
  have same : ∀ k, f.hart k = s.found.hart k := fun k => congrArg (fun x : Sett => mget ({} : Hart) x.harts k) (kept .sett (by decide))
  obtain ⟨others, toS, toM⟩ := f.trap_interrupts h (by decide) 0 c made
  refine leaves.quietly (keeps .event (by decide)) ⟨?_, fun k hk => (others k hk).trans (same k), toS, toM, fun k hk => ?_, keeps⟩
  · rw [Dev.bit, Dev.nat, regs, marked]
    exact (s.found.bit_orBits_u8 (odType_ofOverflow (by omega)).1 _ hi).trans (by simp)
  · rw [regs, marked]
    exact Dev.reg_set_other _ _ (by simpa using hk)

theorem hartOverflow_idle {h i : Nat} (hh : h < 48) (c : HartContext)
    (off : s.found.issuing h = false ∨ s.found.bit (Reg.R7810_OVF h) i = true) :
    Does (.hartCounterOverflow h i c.toHartRegs c.csr) s fun b a => b.Keeps a [] := by
  by_cases issues : s.found.issuing h = true
  · have set := off.resolve_left (by simp [issues])
    exact (hart_leaves live hh issues (f := (Dev.hartOverflow · h i c)) (e := s.found) (l := [])
      (if_pos (.inr (.inr set))) (Dev.Keeps.refl _ _)).unchanged
  · exact hart_idle live (by simpa using issues) (f := (Dev.hartOverflow · h i c))

/-! ## A block's counter -/

section
variable {n i : Nat} (lo : 0x30 ≤ n) (up : n ≤ 0x4A) (hi : i < 8)
include lo up hi

omit live hi in
theorem Dev.irq_orBits (d : Dev) (m : Nat) : (d.orBits (Reg.R7810_OVF n) m).bit (Reg.R7810_OVF_IRQ n) i = d.bit (Reg.R7810_OVF_IRQ n) i := by
  rw [Dev.bit, Dev.nat, Dev.orBits, Dev.reg_set_other _ _ (odType_ofOverflow (by omega)).2.2]
  rfl

theorem overflow_raised (irq : s.found.bit (Reg.R7810_OVF_IRQ n) i = true) : Does (.counterOverflow n i) s fun b a =>
    a.bit (Reg.R7810_OVF n) i = true ∧ 176 ∈ a.plic ∧ a.LastRaised Code.COUNTER_OVERFLOW Kind.other 0 ∧
    b.KeepsRegs a (Reg.R7810_OVF n :: logRegs) := by
  obtain ⟨type, log, -⟩ := odType_ofOverflow (n := n) (by omega)
  obtain ⟨f, marked⟩ : ∃ f, f = s.found.orBits (Reg.R7810_OVF n) (2 ^ i) := ⟨_, rfl⟩
  obtain ⟨r, raised⟩ : ∃ r, r = f.raise Code.COUNTER_OVERFLOW Kind.other 0 0 n := ⟨_, rfl⟩
  have irq' : f.bit (Reg.R7810_OVF_IRQ n) i = true := by rw [marked, Dev.irq_orBits lo up, irq]
  have result : s.found.counterOverflow n i = r.raisePlic 176 := by
    rw [raised]
    refine (if_neg (by omega)).trans ?_
    dsimp only
    rw [← marked]
    exact if_pos irq'
  have kept : s.found.Keeps f [.od] := by rw [marked]; exact Dev.keeps_set _ _ _
  have keeps : s.found.Keeps (r.raisePlic 176) (.plic :: logParts) := by
    rw [raised]
    exact ((kept.mono (by decide)).raise _ _ _ _ _).step (Dev.keeps_raisePlic _ _)
  have leaves : Leaves (.counterOverflow n i) s (r.raisePlic 176) := .cell (guard := Dev.live) (fun d => d.counterOverflow n i) live.passes result keeps
  have last : r.LastRaised Code.COUNTER_OVERFLOW Kind.other 0 := by rw [raised]; exact Dev.lastRaised_raise _ _ _ _ _ _
  refine leaves.does fun pend vecs => ⟨?_, r.mem_plic_raisePlic 176, (last.of_keeps (r.keeps_raisePlic 176)).told _ _, fun k hk => ?_⟩
  · rw [Dev.bit, Dev.nat, Dev.reg_told, Dev.reg_raisePlic, raised, Dev.reg_raise _ _ _ _ _ _ log, marked]
    exact (s.found.bit_orBits_u8 type _ hi).trans (by simp)
  · have own := List.ne_of_not_mem_cons hk
    have logged := List.not_mem_of_not_mem_cons hk
    rw [Dev.reg_told, Dev.reg_raisePlic, raised, Dev.reg_raise _ _ _ _ _ _ logged, marked]
    exact Dev.reg_set_other _ _ own

theorem overflow_noted (irq : s.found.bit (Reg.R7810_OVF_IRQ n) i = false) : Does (.counterOverflow n i) s fun b a =>
    a.bit (Reg.R7810_OVF n) i = true ∧ b.KeepsRegs a [Reg.R7810_OVF n] ∧ b.Keeps a [.od] := by
  have result : s.found.counterOverflow n i = s.found.orBits (Reg.R7810_OVF n) (2 ^ i) := by
    refine (if_neg (by omega)).trans (if_neg ?_)
    rw [Dev.irq_orBits lo up, irq]
    decide
  have keeps : s.found.Keeps (s.found.orBits (Reg.R7810_OVF n) (2 ^ i)) [.od] := Dev.keeps_set _ _ _
  have leaves : Leaves (.counterOverflow n i) s _ := .cell (guard := Dev.live) (fun d => d.counterOverflow n i) live.passes result keeps
  exact leaves.quietly rfl ⟨(s.found.bit_orBits_u8 (odType_ofOverflow (by omega)).1 _ hi).trans (by simp),
    fun k hk => Dev.reg_set_other _ _ (by simpa using hk), keeps⟩

end

/-! ## Snapshots -/

omit live in
theorem snapshot_asked (up : s.Up) : Does .counterSnapshot s fun b a =>
    a.done = Code.STATUS_OK ∧ a.health.snapAsk = true ∧ b.Keeps a [.health, .done] := by
  have keeps : s.found.Keeps s.found.counterSnapshot [.health, .done] := ((s.found.keeps_setHealth _).mono (by decide)).finish _
  have leaves : Leaves .counterSnapshot s s.found.counterSnapshot := .dry (guard := Dev.up) (fun d => d.counterSnapshot) up.passes rfl keeps
  exact leaves.quietly rfl ⟨rfl, rfl, keeps⟩

theorem snapshot_none (ask : s.found.health.snapAsk = false) : Does .snapshotLatch s fun b a => b.Keeps a [] := by
  have leaves : Leaves .snapshotLatch s s.found :=
    .dry (guard := Dev.live) (l := []) (fun d => d.snapshotLatch) live.passes (if_pos (by rw [ask]; rfl)) (Dev.Keeps.refl _ _)
  exact leaves.unchanged

end

/-- One counter latched. -/
def Dev.snapCounter (b i : Nat) (d : Dev) : Dev := match d.counterNow b i with | (n, d) => d.set (Reg.R7810_SNAP_0 b + i) n

/-- A block's counters latched with their OVF bits. -/
def Dev.snapBlock (b : Nat) (d : Dev) : Dev :=
  let d := iterate 8 (fun i d => d.snapCounter b i) d
  d.set (Reg.R7810_SNAP_OVF b) (d.reg (Reg.R7810_OVF b))

/-- A port's bandwidths latched. -/
def Dev.snapPort (p : Nat) (d : Dev) : Dev :=
  (d.set (Reg.R7880_SNAP_0 p) (d.reg (Reg.R7880_BYTES_0 p))).set (Reg.R7880_SNAP_1 p) (d.reg (Reg.R7880_BYTES_1 p))

/-- The keys of a block's latched counters and OVF bits. -/
def snapKey (k : Nat) : Prop := 0x13 ≤ k % 256 ∧ k % 256 ≤ 0x1B

section
variable (d : Dev)

theorem Dev.reg_counterNow (b i k : Nat) : (d.counterNow b i).2.reg k = d.reg k := by
  unfold Dev.counterNow
  dsimp only
  split_ifs <;> rfl

theorem Dev.keeps_counterNow (b i : Nat) : d.Keeps (d.counterNow b i).2 [.fresh] := by
  unfold Dev.counterNow
  dsimp only
  split_ifs
  · exact .refl _ _
  · exact d.keeps_takeFresh

/-- A counter of ticks or cycles, or a stopped one, shows what it stands at. -/
theorem Dev.counterNow_shown {b i : Nat} (plain : d.evsel b i ∈ [0, 2, 3]) : (d.counterNow b i).1 = d.nat (Reg.R7810_COUNT_0 b + i) := by
  have plain' : d.evsel b i = 0 ∨ d.evsel b i = 2 ∨ d.evsel b i = 3 := by simpa using plain
  unfold Dev.counterNow
  dsimp only
  rw [if_pos plain']

theorem Dev.reg_snapCounter (b i k : Nat) :
    (d.snapCounter b i).reg k = if k = Reg.R7810_SNAP_0 b + i then (odType k).wrap (d.counterNow b i).1 else d.reg k := by
  have eq : d.snapCounter b i = (d.counterNow b i).2.set (Reg.R7810_SNAP_0 b + i) (d.counterNow b i).1 := rfl
  rw [eq, Dev.reg_set, Dev.reg_counterNow]
  split_ifs with same
  · rw [same]
  · rfl

theorem Dev.keeps_snapCounter (b i : Nat) : d.Keeps (d.snapCounter b i) [.od, .fresh] :=
  ((d.keeps_counterNow b i).mono (by decide)).set _ _

theorem Dev.keeps_snapBlock (b : Nat) : d.Keeps (d.snapBlock b) [.od, .fresh] :=
  (Dev.Keeps.iterate (n := 8) (f := fun i (e : Dev) => e.snapCounter b i) (fun i e => e.keeps_snapCounter b i) d).set _ _

theorem snap_apart {b i : Nat} (hi : i < 8) : snapKey (Reg.R7810_SNAP_0 b + i) ∧ Reg.R7810_SNAP_0 b + i ≠ Reg.R7810_SNAP_OVF b := by
  simp only [snapKey, Reg.R7810_SNAP_0, Reg.R7810_SNAP_OVF, Reg.key]
  omega

theorem Dev.reg_snapBlock (b : Nat) {k : Nat} (other : ∀ i < 8, k ≠ Reg.R7810_SNAP_0 b + i) (bits : k ≠ Reg.R7810_SNAP_OVF b) :
    (d.snapBlock b).reg k = d.reg k :=
  (Dev.reg_set_other _ _ bits).trans (Dev.reg_iterate (fun i hi e => (e.reg_snapCounter b i k).trans (if_neg (other i hi))) d)

theorem Dev.snapBlock_other (b : Nat) {k : Nat} (other : ¬snapKey k) : (d.snapBlock b).reg k = d.reg k := by
  refine d.reg_snapBlock b (fun i hi same => other (same ▸ (snap_apart hi).1)) fun same => other ?_
  rw [same]
  simp only [snapKey, Reg.R7810_SNAP_OVF, Reg.key]
  omega

theorem Dev.snapBlock_bits (b : Nat) : (d.snapBlock b).reg (Reg.R7810_SNAP_OVF b) = (odType (Reg.R7810_SNAP_OVF b)).wrap (d.reg (Reg.R7810_OVF b)) := by
  have before : (iterate 8 (fun i (e : Dev) => e.snapCounter b i) d).reg (Reg.R7810_OVF b) = d.reg (Reg.R7810_OVF b) :=
    Dev.reg_iterate (fun i hi e => (e.reg_snapCounter b i _).trans (if_neg (by
      simp only [Reg.R7810_OVF, Reg.R7810_SNAP_0, Reg.key]
      omega))) d
  refine (Dev.reg_set_same _ _ _).trans ?_
  rw [before]

/-- What a block's counter of ticks or cycles is latched with. -/
theorem Dev.snapBlock_counter {b i : Nat} (hb : b < 0x4B) (hi : i < 8) (plain : d.evsel b i ∈ [0, 2, 3])
    (small : d.nat (Reg.R7810_COUNT_0 b + i) < 2 ^ 48) :
    (d.snapBlock b).nat (Reg.R7810_SNAP_0 b + i) = d.nat (Reg.R7810_COUNT_0 b + i) := by
  have latched : (iterate 8 (fun i (e : Dev) => e.snapCounter b i) d).reg (Reg.R7810_SNAP_0 b + i) =
      (odType (Reg.R7810_SNAP_0 b + i)).wrap (d.nat (Reg.R7810_COUNT_0 b + i)) := by
    refine each_reaches (fun e : Dev => ∀ k, ¬snapKey k → e.reg k = d.reg k)
      (fun e : Dev => e.reg (Reg.R7810_SNAP_0 b + i) = (odType (Reg.R7810_SNAP_0 b + i)).wrap (d.nat (Reg.R7810_COUNT_0 b + i)))
      (List.mem_range.2 hi) (fun j hj e same k hk => ?_) (fun j hj e same done => ?_) (fun e same => ?_) (fun _ _ => rfl)
    · refine ((e.reg_snapCounter b j k).trans (if_neg fun eq => hk ?_)).trans (same k hk)
      rw [eq]
      exact (snap_apart (List.mem_range.1 hj)).1
    all_goals
      have count : e.nat (Reg.R7810_COUNT_0 b + i) = d.nat (Reg.R7810_COUNT_0 b + i) :=
        congrArg Int.toNat (same _ (by simp only [snapKey, Reg.R7810_COUNT_0, Reg.key]; omega))
      have event : e.evsel b i = d.evsel b i := congrArg Int.toNat (same _ (by simp only [snapKey, Reg.R7810_EVSEL_0, Reg.key]; omega))
      have shown := e.counterNow_shown (event ▸ plain)
    · rw [e.reg_snapCounter]
      split_ifs with eq
      · have own : i = j := by omega
        rw [← own, shown, count]
      · exact done
    · rw [e.reg_snapCounter, if_pos rfl, shown, count]
  have whole : (d.snapBlock b).reg (Reg.R7810_SNAP_0 b + i) = _ := (Dev.reg_set_other _ _ (snap_apart hi).2).trans latched
  rw [Dev.nat, whole, odType_ofSnapshot hb hi]
  exact OdType.toNat_wrap_u64 (small.trans (by decide))

theorem Dev.keeps_snapPort (p : Nat) : d.Keeps (d.snapPort p) [.od] := ((Dev.Keeps.refl _ _).set _ _).set _ _

theorem Dev.reg_snapPort (p k : Nat) : (d.snapPort p).reg k =
    if k = Reg.R7880_SNAP_1 p then (odType k).wrap (d.reg (Reg.R7880_BYTES_1 p)) else
    if k = Reg.R7880_SNAP_0 p then (odType k).wrap (d.reg (Reg.R7880_BYTES_0 p)) else d.reg k := by
  have apart : Reg.R7880_BYTES_1 p ≠ Reg.R7880_SNAP_0 p := by simp only [Reg.R7880_BYTES_1, Reg.R7880_SNAP_0, Reg.key]; omega
  unfold Dev.snapPort
  rw [Dev.reg_set]
  split_ifs with second first
  · rw [second]
  · rw [first, Dev.reg_set_same]
  · exact Dev.reg_set_other _ _ first

/-- The blocks latched one after another. -/
theorem Dev.blocks_shows {e : Dev} (made : e = iterate 0x4B (fun b d => d.snapBlock b) d) :
    (∀ k, ¬snapKey k → e.reg k = d.reg k) ∧
    (∀ n < 0x4B, e.reg (Reg.R7810_SNAP_OVF n) = (odType (Reg.R7810_SNAP_OVF n)).wrap (d.reg (Reg.R7810_OVF n))) ∧
    (∀ n < 0x4B, ∀ i < 8, d.evsel n i ∈ [0, 2, 3] → d.nat (Reg.R7810_COUNT_0 n + i) < 2 ^ 48 →
      e.nat (Reg.R7810_SNAP_0 n + i) = d.nat (Reg.R7810_COUNT_0 n + i)) := by
  subst made
  have stays : ∀ (b : Nat) (e : Dev), (∀ k, ¬snapKey k → e.reg k = d.reg k) → ∀ k, ¬snapKey k → (e.snapBlock b).reg k = d.reg k :=
    fun b e same k hk => (e.snapBlock_other b hk).trans (same k hk)
  refine ⟨fun k hk => Dev.reg_iterate (fun b _ e => e.snapBlock_other b hk) d, fun n hn => ?_, fun n hn i hi plain small => ?_⟩
  · refine each_reaches (fun e : Dev => ∀ k, ¬snapKey k → e.reg k = d.reg k)
      (fun e : Dev => e.reg (Reg.R7810_SNAP_OVF n) = (odType (Reg.R7810_SNAP_OVF n)).wrap (d.reg (Reg.R7810_OVF n)))
      (List.mem_range.2 hn) (fun b _ e same => stays b e same) (fun b _ e same done => ?_) (fun e same => ?_) (fun _ _ => rfl)
    all_goals
      have bits : e.reg (Reg.R7810_OVF n) = d.reg (Reg.R7810_OVF n) := same _ (by simp only [snapKey, Reg.R7810_OVF, Reg.key]; omega)
    · by_cases own : b = n
      · rw [own, e.snapBlock_bits, bits]
      · exact (e.reg_snapBlock b (fun i hi => by simp only [Reg.R7810_SNAP_OVF, Reg.R7810_SNAP_0, Reg.key]; omega)
          (by simp only [Reg.R7810_SNAP_OVF, Reg.key]; omega)).trans done
    · rw [e.snapBlock_bits, bits]
  · refine each_reaches (fun e : Dev => ∀ k, ¬snapKey k → e.reg k = d.reg k)
      (fun e : Dev => e.nat (Reg.R7810_SNAP_0 n + i) = d.nat (Reg.R7810_COUNT_0 n + i))
      (List.mem_range.2 hn) (fun b _ e same => stays b e same) (fun b _ e same done => ?_) (fun e same => ?_) (fun _ _ => rfl)
    all_goals
      have count : e.nat (Reg.R7810_COUNT_0 n + i) = d.nat (Reg.R7810_COUNT_0 n + i) :=
        congrArg Int.toNat (same _ (by simp only [snapKey, Reg.R7810_COUNT_0, Reg.key]; omega))
      have event : e.evsel n i = d.evsel n i := congrArg Int.toNat (same _ (by simp only [snapKey, Reg.R7810_EVSEL_0, Reg.key]; omega))
      have latched := e.snapBlock_counter hn hi (event ▸ plain) (count ▸ small)
    · by_cases own : b = n
      · rw [own, latched, count]
      · exact (congrArg Int.toNat (e.reg_snapBlock b (fun j hj => by simp only [Reg.R7810_SNAP_0, Reg.key]; omega)
          (by simp only [Reg.R7810_SNAP_0, Reg.R7810_SNAP_OVF, Reg.key]; omega))).trans done
    · rw [latched, count]

theorem port_apart {p q : Nat} (h : ¬q = p) : Reg.R7880_SNAP_0 p ≠ Reg.R7880_SNAP_0 q ∧ Reg.R7880_SNAP_0 p ≠ Reg.R7880_SNAP_1 q ∧
    Reg.R7880_SNAP_1 p ≠ Reg.R7880_SNAP_0 q ∧ Reg.R7880_SNAP_1 p ≠ Reg.R7880_SNAP_1 q := by
  simp only [Reg.R7880_SNAP_0, Reg.R7880_SNAP_1, Reg.key]
  omega

/-- The ports latched one after another. -/
theorem Dev.ports_shows {e : Dev} (made : e = iterate 11 (fun p d => d.snapPort p) d) :
    (∀ k, (∀ p < 11, k ≠ Reg.R7880_SNAP_0 p ∧ k ≠ Reg.R7880_SNAP_1 p) → e.reg k = d.reg k) ∧
    ∀ p < 11, e.reg (Reg.R7880_SNAP_0 p) = (odType (Reg.R7880_SNAP_0 p)).wrap (d.reg (Reg.R7880_BYTES_0 p)) ∧
      e.reg (Reg.R7880_SNAP_1 p) = (odType (Reg.R7880_SNAP_1 p)).wrap (d.reg (Reg.R7880_BYTES_1 p)) := by
  subst made
  have step : ∀ (p : Nat) (e : Dev) k, k ≠ Reg.R7880_SNAP_0 p → k ≠ Reg.R7880_SNAP_1 p → (e.snapPort p).reg k = e.reg k :=
    fun p e k first second => (e.reg_snapPort p k).trans ((if_neg second).trans (if_neg first))
  refine ⟨fun k hk => Dev.reg_iterate (fun p hp e => step p e k (hk p hp).1 (hk p hp).2) d, fun p hp => ?_⟩
  refine each_reaches
    (fun e : Dev => e.reg (Reg.R7880_BYTES_0 p) = d.reg (Reg.R7880_BYTES_0 p) ∧ e.reg (Reg.R7880_BYTES_1 p) = d.reg (Reg.R7880_BYTES_1 p))
    (fun e : Dev => e.reg (Reg.R7880_SNAP_0 p) = (odType (Reg.R7880_SNAP_0 p)).wrap (d.reg (Reg.R7880_BYTES_0 p)) ∧
      e.reg (Reg.R7880_SNAP_1 p) = (odType (Reg.R7880_SNAP_1 p)).wrap (d.reg (Reg.R7880_BYTES_1 p)))
    (List.mem_range.2 hp) (fun q _ e same => ?_) (fun q _ e same done => ?_) (fun e same => ?_) ⟨rfl, rfl⟩
  · exact ⟨(step q e _ (by simp only [Reg.R7880_BYTES_0, Reg.R7880_SNAP_0, Reg.key]; omega)
        (by simp only [Reg.R7880_BYTES_0, Reg.R7880_SNAP_1, Reg.key]; omega)).trans same.1,
      (step q e _ (by simp only [Reg.R7880_BYTES_1, Reg.R7880_SNAP_0, Reg.key]; omega)
        (by simp only [Reg.R7880_BYTES_1, Reg.R7880_SNAP_1, Reg.key]; omega)).trans same.2⟩
  all_goals
    have apart : Reg.R7880_SNAP_0 p ≠ Reg.R7880_SNAP_1 p := by simp only [Reg.R7880_SNAP_0, Reg.R7880_SNAP_1, Reg.key]; omega
    have own : (e.snapPort p).reg (Reg.R7880_SNAP_0 p) = _ ∧ (e.snapPort p).reg (Reg.R7880_SNAP_1 p) = _ :=
      ⟨(e.reg_snapPort p _).trans ((if_neg apart).trans (if_pos rfl)), (e.reg_snapPort p _).trans (if_pos rfl)⟩
    rw [same.1, same.2] at own
  · by_cases eq : q = p
    · rw [eq]
      exact own
    · obtain ⟨a, b, c, f⟩ := port_apart eq
      exact ⟨(step q e _ a b).trans done.1, (step q e _ c f).trans done.2⟩
  · exact own

end

/-- The health block once its values are latched (R505). -/
def Dev.snapHealth (d : Dev) : Health :=
  let sett (k : Nat) : Bool := k / 256 == 0x3880 || (0x3840 ≤ k / 256 && k / 256 < 0x3858)
  { d.health with snapAsk := false, settSnap := d.od.filter (fun x => sett x.1), settDom := d.dom.filter (fun x => sett x.1) }

/-- The device once counters and bandwidths are latched: the number and the tick of the snapshot follow. -/
def Dev.snapEnds (d : Dev) : Dev :=
  let h : Dev := { d with health := d.snapHealth }
  (h.set Reg.R7800_SNAP_SEQ (h.reg Reg.R7800_SNAP_SEQ + 1)).set Reg.R7800_SNAP_TICK h.tickAbs

theorem snapshot_latched {s : State} (live : s.Live) (ask : s.found.health.snapAsk = true) : Does .snapshotLatch s fun b a =>
    a.health.snapAsk = false ∧ a.reg Reg.R7800_SNAP_SEQ = (odType Reg.R7800_SNAP_SEQ).wrap (b.reg Reg.R7800_SNAP_SEQ + 1) ∧
    a.reg Reg.R7800_SNAP_TICK = (odType Reg.R7800_SNAP_TICK).wrap b.tickAbs ∧
    (∀ n < 0x4B, a.reg (Reg.R7810_SNAP_OVF n) = (odType (Reg.R7810_SNAP_OVF n)).wrap (b.reg (Reg.R7810_OVF n)) ∧
      ∀ i < 8, b.evsel n i ∈ [0, 2, 3] → b.nat (Reg.R7810_COUNT_0 n + i) < 2 ^ 48 →
        a.nat (Reg.R7810_SNAP_0 n + i) = b.nat (Reg.R7810_COUNT_0 n + i)) ∧
    ∀ p < 11, a.reg (Reg.R7880_SNAP_0 p) = (odType (Reg.R7880_SNAP_0 p)).wrap (b.reg (Reg.R7880_BYTES_0 p)) ∧
      a.reg (Reg.R7880_SNAP_1 p) = (odType (Reg.R7880_SNAP_1 p)).wrap (b.reg (Reg.R7880_BYTES_1 p)) := by
  obtain ⟨f, blocks⟩ : ∃ f, f = iterate 0x4B (fun b d => d.snapBlock b) s.found := ⟨_, rfl⟩
  obtain ⟨g, ports⟩ : ∃ g, g = iterate 11 (fun p d => d.snapPort p) f := ⟨_, rfl⟩
  have result : s.found.snapshotLatch = g.snapEnds := by
    unfold Dev.snapshotLatch
    rw [if_neg (by rw [ask]; decide)]
    extract_lets f' g' sett h'
    have blocks' : f' = f := blocks.symm
    have ports' : g' = g := by
      rw [ports, ← blocks']
      rfl
    have health' : h' = { g' with health := g'.snapHealth } := rfl
    rw [health', ports']
    rfl
  obtain ⟨h, held⟩ : ∃ h : Dev, h = { g with health := g.snapHealth } := ⟨_, rfl⟩
  have ends : g.snapEnds = (h.set Reg.R7800_SNAP_SEQ (h.reg Reg.R7800_SNAP_SEQ + 1)).set Reg.R7800_SNAP_TICK h.tickAbs := by
    rw [held]
    rfl
  rw [ends] at result
  obtain ⟨others, bits, counters⟩ := s.found.blocks_shows blocks
  obtain ⟨kept, bytes⟩ := f.ports_shows ports
  have keepsF : s.found.Keeps f [.od, .fresh] := by
    rw [blocks]
    exact Dev.Keeps.iterate (n := 0x4B) (f := fun b (e : Dev) => e.snapBlock b) (fun b e => e.keeps_snapBlock b) s.found
  have keepsG : f.Keeps g [.od] := by
    rw [ports]
    exact Dev.Keeps.iterate (n := 11) (f := fun p (e : Dev) => e.snapPort p) (fun p e => e.keeps_snapPort p) f
  have keepsH : g.Keeps h [.health] := by rw [held]; exact g.keeps_health _
  have keeps : s.found.Keeps h [.od, .fresh, .health] := ((keepsF.mono (by decide)).step keepsG).step keepsH
  have regH : ∀ k, h.reg k = g.reg k := fun k => Dev.reg_congr (keepsH .od (by decide)) k
  have tick : h.tickAbs = s.found.tickAbs := congrArg (fun c : Clock => 8 * c.cycle64 + c.tick) (keeps .clk (by decide))
  have health : h.health.snapAsk = false := by rw [held]; rfl
  obtain ⟨a, made⟩ : ∃ a, a = (h.set Reg.R7800_SNAP_SEQ (h.reg Reg.R7800_SNAP_SEQ + 1)).set Reg.R7800_SNAP_TICK h.tickAbs := ⟨_, rfl⟩
  have keepsA : h.Keeps a [.od] := by rw [made]; exact ((Dev.Keeps.refl _ _).set _ _).set _ _
  have regA : ∀ k, k ≠ Reg.R7800_SNAP_SEQ → k ≠ Reg.R7800_SNAP_TICK → a.reg k = g.reg k := fun k seq tick => by
    rw [made, Dev.reg_set_other _ _ tick, Dev.reg_set_other _ _ seq, regH]
  have leaves : Leaves .snapshotLatch s a :=
    .dry (guard := Dev.live) (fun d => d.snapshotLatch) live.passes (result.trans made.symm) (keeps.step keepsA)
  refine leaves.quietly ((keeps.step keepsA) .event (by decide)) ⟨?_, ?_, ?_, fun n hn => ⟨?_, fun i hi plain small => ?_⟩, fun p hp => ⟨?_, ?_⟩⟩
  · have same : a.health = h.health := keepsA .health (by decide)
    rw [same, health]
  · have seq : h.reg Reg.R7800_SNAP_SEQ = s.found.reg Reg.R7800_SNAP_SEQ := by
      rw [regH, kept _ (fun p _ => by simp only [Reg.R7800_SNAP_SEQ, Reg.R7880_SNAP_0, Reg.R7880_SNAP_1, Reg.key]; omega),
        others _ (by simp only [snapKey, Reg.R7800_SNAP_SEQ, Reg.key]; omega)]
    rw [made, Dev.reg_set_other _ _ (by decide), Dev.reg_set_same, seq]
  · rw [made, Dev.reg_set_same, tick]
  · rw [regA _ (by simp only [Reg.R7810_SNAP_OVF, Reg.R7800_SNAP_SEQ, Reg.key]; omega)
        (by simp only [Reg.R7810_SNAP_OVF, Reg.R7800_SNAP_TICK, Reg.key]; omega),
      kept _ (fun p _ => by simp only [Reg.R7810_SNAP_OVF, Reg.R7880_SNAP_0, Reg.R7880_SNAP_1, Reg.key]; omega), bits n hn]
  · rw [Dev.nat, regA _ (by simp only [Reg.R7810_SNAP_0, Reg.R7800_SNAP_SEQ, Reg.key]; omega)
        (by simp only [Reg.R7810_SNAP_0, Reg.R7800_SNAP_TICK, Reg.key]; omega),
      kept _ (fun p _ => by simp only [Reg.R7810_SNAP_0, Reg.R7880_SNAP_0, Reg.R7880_SNAP_1, Reg.key]; omega)]
    exact counters n hn i hi plain small
  · rw [regA _ (by simp only [Reg.R7880_SNAP_0, Reg.R7800_SNAP_SEQ, Reg.key]; omega)
        (by simp only [Reg.R7880_SNAP_0, Reg.R7800_SNAP_TICK, Reg.key]; omega), (bytes p hp).1,
      others _ (by simp only [snapKey, Reg.R7880_BYTES_0, Reg.key]; omega)]
  · rw [regA _ (by simp only [Reg.R7880_SNAP_1, Reg.R7800_SNAP_SEQ, Reg.key]; omega)
        (by simp only [Reg.R7880_SNAP_1, Reg.R7800_SNAP_TICK, Reg.key]; omega), (bytes p hp).2,
      others _ (by simp only [snapKey, Reg.R7880_BYTES_1, Reg.key]; omega)]

/-! ## Freezing -/

section
variable {s : State}

theorem freeze_asked (up : s.Up) (on : Bool) : Does (.freeze on) s fun b a =>
    a.done = Code.STATUS_OK ∧ a.health.freezeTo = some on ∧ a.flag Reg.R7800_FREEZE = b.flag Reg.R7800_FREEZE ∧ b.Keeps a [.health, .done] := by
  have keeps : s.found.Keeps (s.found.freezeWrite on) [.health, .done] := ((s.found.keeps_setHealth _).mono (by decide)).finish _
  have leaves : Leaves (.freeze on) s (s.found.freezeWrite on) := .dry (guard := Dev.up) (fun d => d.freezeWrite on) up.passes rfl keeps
  exact leaves.quietly rfl ⟨rfl, rfl, rfl, keeps⟩

theorem freeze_applied (live : s.Live) {on : Bool} (waits : s.found.health.freezeTo = some on) : Does .freezeApply s fun b a =>
    a.flag Reg.R7800_FREEZE = on ∧ a.health.freezeTo = none ∧ b.KeepsRegs a [Reg.R7800_FREEZE] ∧ b.Keeps a [.od, .health] := by
  obtain ⟨e, made⟩ : ∃ e, e = s.found.setHealth fun h => { h with freezeTo := none } := ⟨_, rfl⟩
  have result : s.found.freezeApply = e.set Reg.R7800_FREEZE (if on then 1 else 0) := by
    unfold Dev.freezeApply
    rw [waits, made]
  have keeps : s.found.Keeps (e.set Reg.R7800_FREEZE (if on then 1 else 0)) [.od, .health] := by
    rw [made]
    exact ((s.found.keeps_setHealth _).mono (by decide)).set _ _
  have leaves : Leaves .freezeApply s _ := .dry (guard := Dev.live) (fun d => d.freezeApply) live.passes result keeps
  have cleared : e.health.freezeTo = none := by rw [made]; rfl
  have regs : ∀ k, e.reg k = s.found.reg k := fun k => by rw [made]; rfl
  refine leaves.quietly (keeps .event (by decide)) ⟨?_, cleared, fun k hk => ?_, keeps⟩
  · rw [Dev.flag, Dev.reg_set_same, odType_ofHealth.1]
    cases on <;> rfl
  · rw [Dev.reg_set_other _ _ (by simpa using hk), regs]

theorem freeze_none (live : s.Live) (none_ : s.found.health.freezeTo = none) : Does .freezeApply s fun b a => b.Keeps a [] := by
  have result : s.found.freezeApply = s.found := by
    unfold Dev.freezeApply
    rw [none_]
  have leaves : Leaves .freezeApply s s.found := .dry (guard := Dev.live) (l := []) (fun d => d.freezeApply) live.passes result (Dev.Keeps.refl _ _)
  exact leaves.unchanged

/-! ## Bandwidth -/

theorem window_stored (up : s.Up) {ns : Nat} (lo : 1000 ≤ ns) (hi : ns ≤ 1000000000) : Does (.windowNs ns) s fun b a =>
    a.done = Code.STATUS_OK ∧ a.nat Reg.R7800_WINDOW_NS = ns ∧ a.health.windowAt = none ∧
    b.KeepsRegs a [Reg.R7800_WINDOW_NS] ∧ b.Keeps a [.od, .health, .done] := by
  obtain ⟨e, made⟩ : ∃ e, e = s.found.set Reg.R7800_WINDOW_NS ns := ⟨_, rfl⟩
  have result : s.found.windowWrite ns = (e.setHealth fun h => { h with windowAt := none }).finish Code.STATUS_OK := by
    rw [made]
    exact if_neg (by omega)
  have kept : s.found.Keeps e [.od] := by rw [made]; exact Dev.keeps_set _ _ _
  have keeps : s.found.Keeps ((e.setHealth fun h => { h with windowAt := none }).finish Code.STATUS_OK) [.od, .health, .done] :=
    ((kept.mono (by decide)).step (e.keeps_setHealth _)).finish _
  have leaves : Leaves (.windowNs ns) s _ := .dry (guard := Dev.up) (fun d => d.windowWrite ns) up.passes result keeps
  refine leaves.quietly (keeps .event (by decide)) ⟨rfl, ?_, rfl, fun k hk => ?_, keeps⟩
  · change e.nat Reg.R7800_WINDOW_NS = ns
    rw [made, Dev.nat, Dev.reg_set_same, odType_ofHealth.2]
    exact OdType.toNat_wrap_u32 (by omega)
  · change e.reg k = _
    rw [made, Dev.reg_set_other _ _ (by simpa using hk)]

theorem window_refused (up : s.Up) {ns : Nat} (bad : ns < 1000 ∨ 1000000000 < ns) : Does (.windowNs ns) s fun b a =>
    a.done = Code.OD_RANGE ∧ b.Keeps a [.done] := by
  have leaves : Leaves (.windowNs ns) s (s.found.finish Code.OD_RANGE) :=
    .dry (guard := Dev.up) (fun d => d.windowWrite ns) up.passes (if_pos bad) (Dev.keeps_finish _ _)
  exact leaves.finished

theorem windowEnd_waits (live : s.Live) (bytes : List (Nat × Nat)) (off : s.found.windowEnd bytes = s.found) :
    Does (.bandwidthWindowEnd bytes) s fun b a => b.Keeps a [] := by
  have leaves : Leaves (.bandwidthWindowEnd bytes) s s.found :=
    .dry (guard := Dev.live) (l := []) (fun d => d.windowEnd bytes) live.passes off (Dev.Keeps.refl _ _)
  exact leaves.unchanged

end

/-- One port's bytes and peaks at the end of a window. -/
def Dev.portShown (d : Dev) (x : (Nat × Nat) × Nat) : Dev :=
  let d := (d.set (Reg.R7880_BYTES_0 x.2) x.1.1).set (Reg.R7880_BYTES_1 x.2) x.1.2
  (d.set (Reg.R7880_PEAK_0 x.2) (max (d.nat (Reg.R7880_PEAK_0 x.2)) x.1.1 : Nat)).set (Reg.R7880_PEAK_1 x.2)
    (max (d.nat (Reg.R7880_PEAK_1 x.2)) x.1.2 : Nat)

/-- What a port shows at the end of a window. -/
abbrev portKeys (p : Nat) : List Nat := [Reg.R7880_BYTES_0 p, Reg.R7880_BYTES_1 p, Reg.R7880_PEAK_0 p, Reg.R7880_PEAK_1 p]

theorem portKeys_apart {p q k : Nat} (h : q ≠ p) (hk : k ∈ portKeys p) : k ∉ portKeys q := by
  simp only [portKeys, List.mem_cons, List.not_mem_nil, or_false, Reg.R7880_BYTES_0, Reg.R7880_BYTES_1, Reg.R7880_PEAK_0, Reg.R7880_PEAK_1, Reg.key]
    at hk ⊢
  omega

theorem portKeys_nodup (p : Nat) : (portKeys p).Nodup := by
  simp [portKeys, Reg.R7880_BYTES_0, Reg.R7880_BYTES_1, Reg.R7880_PEAK_0, Reg.R7880_PEAK_1, Reg.key]

theorem Dev.keeps_portShown (d : Dev) (x : (Nat × Nat) × Nat) : d.Keeps (d.portShown x) [.od] :=
  ((((Dev.Keeps.refl _ _).set _ _).set _ _).set _ _).set _ _

theorem Dev.reg_portShown_other (d : Dev) (x : (Nat × Nat) × Nat) {k : Nat} (hk : k ∉ portKeys x.2) : (d.portShown x).reg k = d.reg k := by
  simp only [portKeys, List.mem_cons, List.not_mem_nil, or_false, not_or] at hk
  obtain ⟨b0, b1, p0, p1⟩ := hk
  unfold Dev.portShown
  dsimp only
  rw [Dev.reg_set_other _ _ p1, Dev.reg_set_other _ _ p0, Dev.reg_set_other _ _ b1, Dev.reg_set_other _ _ b0]

/-- What the end of a window leaves of a port, from what it showed before. -/
def Dev.PortShows (d e : Dev) (p : Nat) (x : Nat × Nat) : Prop :=
  e.reg (Reg.R7880_BYTES_0 p) = (odType (Reg.R7880_BYTES_0 p)).wrap x.1 ∧
  e.reg (Reg.R7880_BYTES_1 p) = (odType (Reg.R7880_BYTES_1 p)).wrap x.2 ∧
  e.reg (Reg.R7880_PEAK_0 p) = (odType (Reg.R7880_PEAK_0 p)).wrap (max (d.nat (Reg.R7880_PEAK_0 p)) x.1 : Nat) ∧
  e.reg (Reg.R7880_PEAK_1 p) = (odType (Reg.R7880_PEAK_1 p)).wrap (max (d.nat (Reg.R7880_PEAK_1 p)) x.2 : Nat)

theorem Dev.portShown_shows (d : Dev) (x : Nat × Nat) (p : Nat) : d.PortShows (d.portShown (x, p)) p x := by
  have apart := portKeys_nodup p
  simp only [portKeys, List.nodup_cons, List.mem_cons, List.not_mem_nil, or_false, not_or] at apart
  obtain ⟨⟨a, b, c⟩, ⟨e, f⟩, g, -⟩ := apart
  have n0 : ((d.set (Reg.R7880_BYTES_0 p) x.1).set (Reg.R7880_BYTES_1 p) x.2).nat (Reg.R7880_PEAK_0 p) = d.nat (Reg.R7880_PEAK_0 p) := by
    rw [Dev.nat, Dev.reg_set_other _ _ (Ne.symm e), Dev.reg_set_other _ _ (Ne.symm b)]
    rfl
  have n1 : ((d.set (Reg.R7880_BYTES_0 p) x.1).set (Reg.R7880_BYTES_1 p) x.2).nat (Reg.R7880_PEAK_1 p) = d.nat (Reg.R7880_PEAK_1 p) := by
    rw [Dev.nat, Dev.reg_set_other _ _ (Ne.symm f), Dev.reg_set_other _ _ (Ne.symm c)]
    rfl
  unfold Dev.PortShows Dev.portShown
  dsimp only
  rw [n0, n1]
  refine ⟨?_, ?_, ?_, Dev.reg_set_same _ _ _⟩
  · rw [Dev.reg_set_other _ _ c, Dev.reg_set_other _ _ b, Dev.reg_set_other _ _ a, Dev.reg_set_same]
  · rw [Dev.reg_set_other _ _ f, Dev.reg_set_other _ _ e, Dev.reg_set_same]
  · rw [Dev.reg_set_other _ _ g, Dev.reg_set_same]

theorem Dev.PortShows.of_same {d e f : Dev} {p : Nat} {x : Nat × Nat} (h : d.PortShows e p x) (same : ∀ k ∈ portKeys p, f.reg k = e.reg k) :
    d.PortShows f p x := by
  simp only [portKeys, List.forall_mem_cons] at same
  obtain ⟨b0, b1, p0, p1, -⟩ := same
  obtain ⟨w, x', y, z⟩ := h
  exact ⟨b0.trans w, b1.trans x', p0.trans y, p1.trans z⟩

/-- The ports of a window that has ended show their bytes and the peaks so far. -/
theorem Dev.portsShown_shows (d : Dev) (bytes : List (Nat × Nat)) (whole : bytes.length = 11) {e : Dev}
    (made : e = each (bytes.zip (List.range 11)) (fun x e => e.portShown x) d) {p : Nat} (hp : p < 11) : d.PortShows e p (bytes.getD p (0, 0)) := by
  subst made
  have at_ : bytes.getD p (0, 0) = bytes[p] := by simp [List.getD, whole, hp]
  have mem : (bytes.getD p (0, 0), p) ∈ bytes.zip (List.range 11) := by
    rw [at_]
    refine List.mem_iff_getElem.2 ⟨p, by simp [whole, hp], by simp⟩
  have once : ((bytes.zip (List.range 11)).map Prod.snd).Nodup := by
    rw [List.map_snd_zip (by simp [whole])]
    exact List.nodup_range
  generalize bytes.zip (List.range 11) = xs at mem once
  generalize bytes.getD p (0, 0) = x at mem
  induction xs generalizing d with
  | nil => exact absurd mem List.not_mem_nil
  | cons y ys ih =>
    obtain ⟨fresh, once'⟩ := List.nodup_cons.1 (List.map_cons ▸ once)
    rcases List.mem_cons.1 mem with rfl | later
    · refine (d.portShown_shows x p).of_same fun k hk => ?_
      refine Dev.reg_each (fun z hz e => e.reg_portShown_other z (portKeys_apart (fun eq => fresh ?_) hk)) (d.portShown (x, p))
      exact List.mem_map.2 ⟨z, hz, eq⟩
    · have other : y.2 ≠ p := fun eq => fresh (List.mem_map.2 ⟨(x, p), later, eq.symm⟩)
      obtain ⟨b0, b1, p0, p1⟩ := ih (d.portShown y) once' later
      have peak0 : (d.portShown y).nat (Reg.R7880_PEAK_0 p) = d.nat (Reg.R7880_PEAK_0 p) :=
        congrArg Int.toNat (d.reg_portShown_other y (portKeys_apart other (by simp)))
      have peak1 : (d.portShown y).nat (Reg.R7880_PEAK_1 p) = d.nat (Reg.R7880_PEAK_1 p) :=
        congrArg Int.toNat (d.reg_portShown_other y (portKeys_apart other (by simp)))
      rw [peak0] at p0
      rw [peak1] at p1
      exact ⟨b0, b1, p0, p1⟩

theorem window_ends {s : State} (live : s.Live) {bytes : List (Nat × Nat)} {t : Nat} (due : t < s.found.clk.raw + 31250) (whole : bytes.length = 11)
    (open_ : s.found.health.windowAt = some t) : Does (.bandwidthWindowEnd bytes) s fun b a =>
      a.health.windowAt = some (t + b.nat Reg.R7800_WINDOW_NS) ∧ ∀ p < 11, b.PortShows a p (bytes.getD p (0, 0)) := by
  obtain ⟨e, made⟩ : ∃ e, e = each (bytes.zip (List.range 11)) (fun x e => e.portShown x) s.found := ⟨_, rfl⟩
  obtain ⟨a, ends⟩ : ∃ a, a = e.setHealth fun h => { h with windowAt := some (t + e.nat Reg.R7800_WINDOW_NS) } := ⟨_, rfl⟩
  have result : s.found.windowEnd bytes = a := by
    unfold Dev.windowEnd
    rw [open_, ends, made]
    exact if_neg (by omega)
  have kept : s.found.Keeps e [.od] := by
    rw [made]
    exact Dev.Keeps.each _ (fun x (e : Dev) => e.portShown x) (fun x e => e.keeps_portShown x) s.found
  have keeps : s.found.Keeps a [.od, .health] := by
    rw [ends]
    exact (kept.mono (by decide)).step (e.keeps_setHealth _)
  have leaves : Leaves (.bandwidthWindowEnd bytes) s a := .dry (guard := Dev.live) (fun d => d.windowEnd bytes) live.passes result keeps
  have ns : e.nat Reg.R7800_WINDOW_NS = s.found.nat Reg.R7800_WINDOW_NS := by
    rw [Dev.nat, made]
    refine congrArg Int.toNat (Dev.reg_each (fun x _ d => d.reg_portShown_other x ?_) s.found)
    simp only [portKeys, List.mem_cons, List.not_mem_nil, or_false, Reg.R7800_WINDOW_NS, Reg.R7880_BYTES_0, Reg.R7880_BYTES_1, Reg.R7880_PEAK_0,
      Reg.R7880_PEAK_1, Reg.key]
    omega
  have regs : ∀ k, a.reg k = e.reg k := fun k => by rw [ends]; rfl
  refine leaves.quietly (keeps .event (by decide)) ⟨?_, fun p hp => (s.found.portsShown_shows bytes whole made hp).of_same fun k _ => regs k⟩
  rw [ends, ns]
  rfl

/-- Settles O58: a counter that wraps is marked and told; snapshots, freezing and windows do what their writes asked. -/
theorem countersAndWindows : Obligations.CountersAndWindows := by
  unfold Obligations.CountersAndWindows
  intro s live d
  refine ⟨fun h hh i hi c => ⟨fun issues clear => hartOverflow_traps live hh hi c issues clear, fun off => hartOverflow_idle live hh c off⟩,
    fun n i lo up hi => ⟨fun irq => overflow_raised live lo up hi irq, fun irq => overflow_noted live lo up hi irq⟩,
    fun up => snapshot_asked up, fun ask => snapshot_none live ask, fun ask => snapshot_latched live ask, fun on up => freeze_asked up on,
    fun on waits => freeze_applied live waits, fun none_ => freeze_none live none_,
    fun ns up => ⟨fun lo hi => window_stored up lo hi, fun bad => window_refused up bad⟩, fun bytes none_ => windowEnd_waits live bytes ?_,
    fun bytes t open_ early => windowEnd_waits live bytes ?_, fun bytes t due whole _ open_ => window_ends live due whole open_⟩
  · unfold Dev.windowEnd
    rw [none_]
  · unfold Dev.windowEnd
    rw [open_]
    exact if_pos early

end Sys2Proof.Machine
end

section
/-! # Supplies, reset pins, banks and the lid (R430, R526 to R537, R546) -/

namespace Sys2Proof.Machine

/-! ## What the entry into SAFE shows -/

theorem not_reactionReg {N C : Nat → Prop} {k : Nat} (low : k / 4096 < 0x200) (log : k ∉ logRegs) : ¬ReactionReg N C k := by
  rintro (⟨n, -, -, ax⟩ | ⟨c, -, -, ch⟩ | gen | is)
  · omega
  · simp only [Reg.CH5_CONTROL, Reg.key] at ch; omega
  · omega
  · exact log is

theorem not_outputReg {k : Nat} (low : k / 4096 < 0x200) : ¬OutputReg k := by
  rintro (⟨i, -, out⟩ | ⟨n, -, permit⟩)
  · simp only [Reg.R5020_STATE, Reg.key] at out; omega
  · simp only [Reg.R5080_PERMIT, Reg.key] at permit; omega

theorem Dev.reg_safeActs (d : Dev) (cause : Nat) {k : Nat} (low : k / 4096 < 0x200) (log : k ∉ logRegs) :
    (d.enterSafe cause).reg k = (d.safeShown cause).reg k := by
  rw [Dev.enterSafe_eq, Dev.reg_permitsOff _ (not_outputReg low), Dev.reg_outputsOff _ (not_outputReg low),
    (Dev.stoAll_reacts _ cause).regs k (not_reactionReg low log)]

theorem Dev.permit_permitsOff (d : Dev) {n : Nat} (hn : n < 128) : d.permitsOff.flag (Reg.R5080_PERMIT n) = false := by
  have off : d.permitsOff.reg (Reg.R5080_PERMIT n) = 0 := by
    refine each_reaches (fun _ : Dev => True) (fun e : Dev => e.reg (Reg.R5080_PERMIT n) = 0) (List.mem_range.2 hn) (fun _ _ _ _ => trivial)
      (fun m _ e _ zero => ?_) (fun e _ => ?_) trivial
    · rw [Dev.reg_set]
      split_ifs
      · exact OdType.wrap_zero _
      · exact zero
    · rw [Dev.reg_set_same]
      exact OdType.wrap_zero _
  rw [Dev.flag, off]
  rfl

/-- The device in SAFE with its cause, every permit withdrawn. -/
theorem Dev.enterSafe_shows (d : Dev) {cause : Nat} (small : cause < 2 ^ 16) : (d.enterSafe cause).state = DevState.safe ∧
    (d.enterSafe cause).nat Reg.R1001_SAFE_CAUSE = cause ∧ ∀ n < 128, (d.enterSafe cause).flag (Reg.R5080_PERMIT n) = false := by
  refine ⟨?_, ?_, fun n hn => ?_⟩
  · rw [Dev.state, Dev.nat, d.reg_safeActs cause (by decide) (by decide), Dev.safeShown, Dev.reg_set_other _ _ (by decide)]
    exact Dev.state_goTo _ (by decide)
  · rw [Dev.nat, d.reg_safeActs cause (by decide) (by decide), Dev.safeShown, Dev.reg_set_same, odType_devState.2]
    exact OdType.toNat_wrap_u16 small
  · rw [Dev.enterSafe_eq]
    exact Dev.permit_permitsOff _ hn

/-! ## Commands that move nothing of the counters -/

section
variable {s : State} (ok : s.ClockOk)
include ok

/-- A command that may move the counters, and leaves them as they were. -/
theorem still_leaves {i : Instr} {guard : Dev → (Dev → Dev) → Dev} (g : Dev → Dev) (pass : s.Passes guard) {e : Dev} (result : g s.found = e)
    (clk : e.clk = s.found.clk) (hi : exec i s = s.answerClk fun d => guard d g := by rfl) : Leaves i s e :=
  .clocked g pass result (by rw [clk]; exact ok.1) (by rw [clk]; exact ok.2) hi

end

/-- A guard that every state passes. -/
theorem State.passesAll (s : State) : s.Passes fun d g => g d := fun _ => rfl

theorem Dev.keeps_setPower (d : Dev) (f : Power → Power) : d.Keeps (d.setPower f) [.power] := by
  intro p hp
  cases p with
  | power => simp at hp
  | _ => rfl

/-! ## The feeds -/

section
variable {s : State} {i : Nat} (hi : i < 2)
include hi

theorem testBit_other (v : Nat) (b : Bool) : (withBit v i b).testBit (1 - i) = v.testBit (1 - i) :=
  (testBit_withBit v i b _).trans (if_neg (by omega))

/-- What the loss of a feed leaves of the supplies. -/
theorem feedLoss_leaves (on : s.found.power.feeds.testBit i = true) : Does (.feedLoss i) s fun b a =>
    a.power.feeds.testBit i = false ∧ a.power.feeds.testBit (1 - i) = b.power.feeds.testBit (1 - i) ∧
    (b.unpowered = true → b.Keeps a [.power]) ∧
    (b.unpowered = false → a.LastRaised Code.FEED_LOSS Kind.other 0 ∧
      a.nat Reg.R5802_FEED_LOSSES = min (b.nat Reg.R5802_FEED_LOSSES + 1) 0xFFFFFFFF ∧
      b.KeepsRegs a (Reg.R5802_FEED_LOSSES :: logRegs) ∧ b.Keeps a (.power :: logParts)) := by
  obtain ⟨e, made⟩ : ∃ e, e = s.found.setPower fun p => { p with feeds := withBit p.feeds i false } := ⟨_, rfl⟩
  have keeps : s.found.Keeps e [.power] := by rw [made]; exact Dev.keeps_setPower _ _
  have feeds : e.power.feeds = withBit s.found.power.feeds i false := by rw [made]; rfl
  have own : e.power.feeds.testBit i = false := by rw [feeds, testBit_withBit, if_pos rfl]
  have other : e.power.feeds.testBit (1 - i) = s.found.power.feeds.testBit (1 - i) := by rw [feeds, testBit_other hi]
  have supply : e.unpowered = s.found.unpowered := by rw [made]; rfl
  have regs : ∀ k, e.reg k = s.found.reg k := fun k => Dev.reg_congr (keeps .od (by decide)) k
  have step : s.found.feedLoss i = if e.unpowered = true then e else (e.count Reg.R5802_FEED_LOSSES).raise Code.FEED_LOSS Kind.other 0 0 i := by
    rw [made]
    exact if_neg (by rw [on]; simp; omega)
  by_cases off : s.found.unpowered = true
  · have leaves : Leaves (.feedLoss i) s e :=
      .dry (guard := fun d g => g d) (fun d => d.feedLoss i) s.passesAll (step.trans (if_pos (supply.trans off))) keeps
    exact leaves.quietly (keeps .event (by decide)) ⟨own, other, fun _ => keeps, fun no => absurd off (by simp [no])⟩
  · obtain ⟨c, counted⟩ : ∃ c, c = e.count Reg.R5802_FEED_LOSSES := ⟨_, rfl⟩
    obtain ⟨r, raised⟩ : ∃ r, r = c.raise Code.FEED_LOSS Kind.other 0 0 i := ⟨_, rfl⟩
    have result : s.found.feedLoss i = r := by
      rw [raised, counted]
      exact step.trans (if_neg (by rwa [supply]))
    have keepsC : e.Keeps c [.od] := by rw [counted]; exact Dev.keeps_set _ _ _
    have keepsR : c.Keeps r logParts := by rw [raised]; exact (Dev.keeps_raise _ _ _ _ _ _).mono (by decide)
    have all : s.found.Keeps r (.power :: logParts) := ((keeps.mono (by decide)).step keepsC).step keepsR
    have leaves : Leaves (.feedLoss i) s r := .dry (guard := fun d g => g d) (fun d => d.feedLoss i) s.passesAll result all
    have power : r.power = e.power := (keepsR .power (by decide)).trans (keepsC .power (by decide))
    refine leaves.does fun pend vecs => ⟨?_, ?_, fun yes => absurd yes off, fun _ => ⟨?_, ?_, fun k hk => ?_, ?_⟩⟩
    · change r.power.feeds.testBit i = false
      rw [power, own]
    · change r.power.feeds.testBit (1 - i) = _
      rw [power, other]
    · rw [raised]
      exact (Dev.lastRaised_raise _ _ _ _ _ _).told pend vecs
    · rw [Dev.nat_told, Dev.nat, raised, Dev.reg_raise _ _ _ _ _ _ (by decide), counted]
      exact (e.nat_count_same (by decide +kernel)).trans (by rw [Dev.nat, regs, Dev.nat])
    · rw [Dev.reg_told, raised, Dev.reg_raise _ _ _ _ _ _ (List.not_mem_of_not_mem_cons hk), counted, Dev.count,
        Dev.reg_set_other _ _ (List.ne_of_not_mem_cons hk), regs]
    · exact (all.trans (Dev.keeps_told r pend vecs)).mono (by decide)

theorem feedRestored_leaves (off : s.found.power.feeds.testBit i = false) : Does (.feedRestored i) s fun b a =>
    a.power.feeds.testBit i = true ∧ a.power.feeds.testBit (1 - i) = b.power.feeds.testBit (1 - i) ∧
    (b.dark = true → b.Keeps a [.power]) ∧
    (b.dark = false → a.LastRaised Code.FEED_RESTORED Kind.other 0 ∧ b.KeepsRegs a logRegs ∧ b.Keeps a (.power :: logParts)) := by
  obtain ⟨e, made⟩ : ∃ e, e = s.found.setPower fun p => { p with feeds := withBit p.feeds i true } := ⟨_, rfl⟩
  have keeps : s.found.Keeps e [.power] := by rw [made]; exact Dev.keeps_setPower _ _
  have feeds : e.power.feeds = withBit s.found.power.feeds i true := by rw [made]; rfl
  have own : e.power.feeds.testBit i = true := by rw [feeds, testBit_withBit, if_pos rfl]
  have other : e.power.feeds.testBit (1 - i) = s.found.power.feeds.testBit (1 - i) := by rw [feeds, testBit_other hi]
  have supply : e.dark = s.found.dark := by rw [made]; rfl
  have regs : ∀ k, e.reg k = s.found.reg k := fun k => Dev.reg_congr (keeps .od (by decide)) k
  have step : s.found.feedRestored i = if e.dark = true then e else e.raise Code.FEED_RESTORED Kind.other 0 0 i := by
    rw [made]
    exact if_neg (by rw [off]; simp; omega)
  by_cases dark : s.found.dark = true
  · have leaves : Leaves (.feedRestored i) s e :=
      .dry (guard := fun d g => g d) (fun d => d.feedRestored i) s.passesAll (step.trans (if_pos (supply.trans dark))) keeps
    exact leaves.quietly (keeps .event (by decide)) ⟨own, other, fun _ => keeps, fun no => absurd dark (by simp [no])⟩
  · obtain ⟨r, raised⟩ : ∃ r, r = e.raise Code.FEED_RESTORED Kind.other 0 0 i := ⟨_, rfl⟩
    have result : s.found.feedRestored i = r := by
      rw [raised]
      exact step.trans (if_neg (by rwa [supply]))
    have keepsR : e.Keeps r logParts := by rw [raised]; exact (Dev.keeps_raise _ _ _ _ _ _).mono (by decide)
    have all : s.found.Keeps r (.power :: logParts) := (keeps.mono (by decide)).step keepsR
    have leaves : Leaves (.feedRestored i) s r := .dry (guard := fun d g => g d) (fun d => d.feedRestored i) s.passesAll result all
    have power : r.power = e.power := keepsR .power (by decide)
    refine leaves.does fun pend vecs => ⟨?_, ?_, fun yes => absurd yes dark, fun _ => ⟨?_, fun k hk => ?_, ?_⟩⟩
    · change r.power.feeds.testBit i = true
      rw [power, own]
    · change r.power.feeds.testBit (1 - i) = _
      rw [power, other]
    · rw [raised]
      exact (Dev.lastRaised_raise _ _ _ _ _ _).told pend vecs
    · rw [Dev.reg_told, raised, Dev.reg_raise _ _ _ _ _ _ hk, regs]
    · exact (all.trans (Dev.keeps_told r pend vecs)).mono (by decide)

omit hi in
/-- A feed event that says what the module knows already changes nothing. -/
theorem feed_unchanged : (s.found.power.feeds.testBit i = false → Does (.feedLoss i) s fun b a => b.Keeps a []) ∧
    (s.found.power.feeds.testBit i = true → Does (.feedRestored i) s fun b a => b.Keeps a []) := by
  constructor
  · intro off
    have leaves : Leaves (.feedLoss i) s s.found :=
      .dry (guard := fun d g => g d) (l := []) (fun d => d.feedLoss i) s.passesAll (if_pos (.inr off)) (Dev.Keeps.refl _ _)
    exact leaves.unchanged
  · intro on
    have leaves : Leaves (.feedRestored i) s s.found :=
      .dry (guard := fun d g => g d) (l := []) (fun d => d.feedRestored i) s.passesAll (if_pos (.inr on)) (Dev.Keeps.refl _ _)
    exact leaves.unchanged

end

/-! ## A reset -/

theorem mget_filter {α : Type} (d : α) (m : Map α) (p : Nat → Bool) {k : Nat} (out : p k = false) : mget d (m.filter fun x => p x.1) k = d := by
  induction m with
  | nil => rfl
  | cons x r ih =>
    obtain ⟨j, v⟩ := x
    rw [List.filter_cons]
    split_ifs with stays
    · have other : j ≠ k := by
        rintro rfl
        exact absurd stays (by simp [out])
      exact (if_neg other).trans ih
    · exact ih

/-- The device a reset begins with, before an update session that outlives it. -/
def Dev.freshOf (d : Dev) (by_ : Nat) : Dev :=
  { od := d.od.filter (fun (k, _) => keptKeys.contains k), fresh := d.fresh, aon := d.aon, flash := d.flash, power := d.power,
    safe := { log := d.safe.log }, boot := { resetBy := by_ } }

theorem Dev.reg_freshOf (d : Dev) (by_ : Nat) {k : Nat} (out : k ∉ keptKeys) : (d.freshOf by_).reg k = odDefault k :=
  mget_filter (odDefault k) d.od (fun k => keptKeys.contains k) (by simpa using out)

/-- What a reset keeps, and what it begins with. -/
theorem Dev.afterReset_shows (d : Dev) (by_ : Nat) {e : Dev} (made : e = d.afterReset by_) : e.aon = d.aon ∧ e.power = d.power ∧
    e.boot.resetBy = by_ ∧ e.boot.hot = false ∧ e.clk = {} ∧ ∀ k, k ∉ keptKeys → k ∉ logRegs → e.reg k = odDefault k := by
  obtain ⟨n, fresh⟩ : ∃ n, n = d.freshOf by_ := ⟨_, rfl⟩
  have shows : n.aon = d.aon ∧ n.power = d.power ∧ n.boot.resetBy = by_ ∧ n.boot.hot = false ∧ n.clk = {} := by
    rw [fresh]
    exact ⟨rfl, rfl, rfl, rfl, rfl⟩
  have regs : ∀ k, k ∉ keptKeys → n.reg k = odDefault k := fun k out => by rw [fresh, d.reg_freshOf by_ out]
  have eq : e = match d.boot.update with
      | none => n
      | some u => if (n.fwSlot u.slot).state = SlotState.staged then n.setBoot fun b => { b with update := some u }
        else (n.setSlotImage u.slot {}).raise Code.UPDATE_ABANDONED Kind.other 0 0 u.slot := by rw [made, fresh]; rfl
  obtain ⟨aon, power, by', hot, clk⟩ := shows
  cases update : d.boot.update with
  | none =>
    rw [update] at eq
    subst eq
    exact ⟨aon, power, by', hot, clk, fun k out _ => regs k out⟩
  | some u =>
    rw [update] at eq
    dsimp only at eq
    split_ifs at eq with staged
    · subst eq
      exact ⟨aon, power, by', hot, clk, fun k out _ => regs k out⟩
    · obtain ⟨f, slotted⟩ : ∃ f, f = n.setSlotImage u.slot {} := ⟨_, rfl⟩
      rw [← slotted] at eq
      have keeps : f.Keeps e logParts := by rw [eq]; exact (Dev.keeps_raise _ _ _ _ _ _).mono (by decide)
      have kept : f.aon = n.aon ∧ f.power = n.power ∧ f.boot = n.boot ∧ f.clk = n.clk ∧ ∀ k, f.reg k = n.reg k := by
        rw [slotted]
        exact ⟨rfl, rfl, rfl, rfl, fun _ => rfl⟩
      obtain ⟨aonF, powerF, bootF, clkF, regF⟩ := kept
      have boot : e.boot = n.boot := (keeps .boot (by decide)).trans bootF
      refine ⟨(keeps .aon (by decide)).trans (aonF.trans aon), (keeps .power (by decide)).trans (powerF.trans power), ?_, ?_,
        (keeps .clk (by decide)).trans (clkF.trans clk), fun k out log => ?_⟩
      · rw [boot, by']
      · rw [boot, hot]
      · rw [eq, Dev.reg_raise _ _ _ _ _ _ log, regF, regs k out]

theorem Dev.state_afterReset (d : Dev) (by_ : Nat) : (d.afterReset by_).state = DevState.boot := by
  obtain ⟨-, -, -, -, -, regs⟩ := d.afterReset_shows by_ rfl
  rw [Dev.state, Dev.nat, regs _ (by decide) (by decide)]
  decide +kernel

/-- A device whose clock stands at its start. -/
theorem reset_leaves {s : State} {i : Instr} {guard : Dev → (Dev → Dev) → Dev} (g : Dev → Dev) (pass : s.Passes guard) {e : Dev} (result : g s.found = e)
    (clk : e.clk = {}) (hi : exec i s = s.answerClk fun d => guard d g := by rfl) : Leaves i s e :=
  .clocked g pass result (by rw [clk]; decide) (by rw [clk]; decide) hi

theorem Dev.bootUntil_none (d : Dev) : d.bootUntil 0 = d := if_neg fun h => absurd h.2.1 (by decide)

/-! ## Both feeds lost -/

section
variable {s : State}

theorem powerLoss_idle (ok : s.ClockOk) (step : Nat) (off : s.found.unpowered = true) : Does (.powerLossStop step) s fun b a => b.Keeps a [] := by
  have leaves : Leaves (.powerLossStop step) s s.found :=
    still_leaves ok (guard := fun d g => g d) (fun d => d.powerLoss step) s.passesAll (if_pos off) rfl
  exact leaves.unchanged

theorem odType_supply : odType Reg.R1001_DEV_STATE = .u8 ∧ odType Reg.R1003_NEXT_SEQ = .u32 := by decide +kernel

/-- A device that has lost its supply, from what it was before. -/
theorem Dev.dropSupply_shows (d : Dev) {e : Dev} (made : e = d.dropSupply) : e.state = (if d.power.vbat = true then DevState.alwaysOn else DevState.off) ∧
    e.boot.held = true ∧ e.power = { d.power with feeds := 0 } ∧ e.clk = d.clk ∧ (d.power.vbat = true → e.aon = d.aon) ∧
    (d.power.vbat = false → e.aon = { lost := true }) := by
  obtain ⟨f, held⟩ : ∃ f, f = (d.setPower fun p => { p with feeds := 0 }).holdReset := ⟨_, rfl⟩
  have shows : f.boot.held = true ∧ f.power = { d.power with feeds := 0 } ∧ f.clk = d.clk ∧ f.aon = d.aon := by
    rw [held]
    exact ⟨rfl, rfl, rfl, rfl⟩
  have eq : e = if f.power.vbat then f.set Reg.R1001_DEV_STATE DevState.alwaysOn
      else { f.set Reg.R1001_DEV_STATE DevState.off with aon := { lost := true } } := by
    rw [made, held]
    rfl
  obtain ⟨boot, power, clk, aon⟩ := shows
  have vbat : f.power.vbat = d.power.vbat := by rw [power]
  have state : ∀ n < 2 ^ 8, (f.set Reg.R1001_DEV_STATE (n : Nat)).state = n := fun n small => by
    rw [Dev.state, Dev.nat, Dev.reg_set_same, odType_supply.1]
    exact OdType.toNat_wrap_u8 small
  cases on : d.power.vbat with
  | true =>
    rw [vbat, on, if_pos rfl] at eq
    subst eq
    exact ⟨state _ (by decide), boot, power, clk, fun _ => aon, fun no => absurd no (by decide)⟩
  | false =>
    rw [vbat, on, if_neg (by decide)] at eq
    subst eq
    exact ⟨state _ (by decide), boot, power, clk, fun no => absurd no (by decide), fun _ => rfl⟩

theorem powerLoss_stops (on : s.found.unpowered = false) : Does (.powerLossStop 0) s fun b a =>
    a.state = (if b.power.vbat = true then DevState.alwaysOn else DevState.off) ∧ a.boot.held = true ∧ a.power = { b.power with feeds := 0 } ∧
    a.dark = true ∧ a.nat Reg.R1003_NEXT_SEQ = 0 ∧ (b.power.vbat = true → a.aon.feedLoss = true ∧ a.aon.seconds = b.aon.seconds) ∧
    (b.power.vbat = false → a.aon.lost = true ∧ a.aon.seconds = 0) := by
  obtain ⟨r, reset⟩ : ∃ r, r = s.found.afterReset 3 := ⟨_, rfl⟩
  obtain ⟨f, stopped⟩ : ∃ f : Dev, f = { r with aon := { r.aon with feedLoss := true } } := ⟨_, rfl⟩
  obtain ⟨e, dropped⟩ : ∃ e, e = f.dropSupply := ⟨_, rfl⟩
  have result : s.found.powerLoss 0 = e.set Reg.R1003_NEXT_SEQ 0 := by
    have stop : s.found.orderlyStop 0 = f := by rw [stopped, reset, Dev.orderlyStop, Dev.bootUntil_none]
    rw [Dev.powerLoss, if_neg (by simp [on]), stop, dropped]
  obtain ⟨aonR, powerR, -, -, clkR, -⟩ := s.found.afterReset_shows 3 reset
  have keptF : f.power = s.found.power ∧ f.clk = {} ∧ f.aon = { s.found.aon with feedLoss := true } := by
    rw [stopped]
    exact ⟨powerR, clkR, by rw [aonR]⟩
  obtain ⟨powerF, clkF, aonF⟩ := keptF
  obtain ⟨state, held, power, clk, aonOn, aonOff⟩ := f.dropSupply_shows dropped
  rw [powerF] at state power aonOn aonOff
  have leaves : Leaves (.powerLossStop 0) s (e.set Reg.R1003_NEXT_SEQ 0) :=
    reset_leaves (guard := fun d g => g d) (fun d => d.powerLoss 0) s.passesAll result (clk.trans clkF)
  have stateA : (e.set Reg.R1003_NEXT_SEQ 0).state = e.state := congrArg Int.toNat (Dev.reg_set_other _ _ (by decide))
  refine leaves.does fun pend vecs => ⟨?_, held, power, ?_, ?_, fun vbat => ?_, fun vbat => ?_⟩
  · exact stateA.trans state
  · change (_ || e.boot.held) = true
    rw [held, Bool.or_true]
  · rw [Dev.nat_told, Dev.nat, Dev.reg_set_same, OdType.wrap_zero]
    rfl
  · change e.aon.feedLoss = true ∧ e.aon.seconds = _
    rw [aonOn vbat, aonF]
    exact ⟨rfl, rfl⟩
  · change e.aon.lost = true ∧ e.aon.seconds = 0
    rw [aonOff vbat]
    exact ⟨rfl, rfl⟩

/-! ## The battery supply -/

theorem vbat_powered (ok : s.ClockOk) (on : s.found.unpowered = false) :
    Does .vbatLoss s (fun b a => a.power = { b.power with vbat := false } ∧ b.Keeps a [.power]) ∧
    Does .vbatApplied s fun b a => a.power = { b.power with vbat := true } ∧ b.Keeps a [.power] := by
  constructor
  · have keeps := s.found.keeps_setPower fun p => { p with vbat := false }
    have leaves : Leaves .vbatLoss s (s.found.setPower fun p => { p with vbat := false }) :=
      still_leaves ok (guard := fun d g => g d) (fun d => d.vbatLoss) s.passesAll (if_neg fun yes => absurd (on.symm.trans yes) (by decide)) rfl
    exact leaves.quietly rfl ⟨rfl, keeps⟩
  · have keeps := s.found.keeps_setPower fun p => { p with vbat := true }
    have leaves : Leaves .vbatApplied s (s.found.setPower fun p => { p with vbat := true }) :=
      still_leaves ok (guard := fun d g => g d) (fun d => d.vbatApplied) s.passesAll (if_neg fun yes => absurd (on.symm.trans yes) (by decide)) rfl
    exact leaves.quietly rfl ⟨rfl, keeps⟩

theorem vbat_unpowered (ok : s.ClockOk) (off : s.found.unpowered = true) :
    Does .vbatLoss s (fun b a => a.state = DevState.off ∧ a.power.vbat = false ∧ a.aon = { lost := true } ∧ b.KeepsRegs a [Reg.R1001_DEV_STATE]) ∧
    Does .vbatApplied s fun b a => a.state = DevState.alwaysOn ∧ a.power.vbat = true ∧ a.aon = b.aon ∧ b.KeepsRegs a [Reg.R1001_DEV_STATE] := by
  have state : ∀ (f : Dev) n, n < 2 ^ 8 → (f.set Reg.R1001_DEV_STATE (n : Nat)).state = n := fun f n small => by
    rw [Dev.state, Dev.nat, Dev.reg_set_same, odType_supply.1]
    exact OdType.toNat_wrap_u8 small
  constructor
  · obtain ⟨f, made⟩ : ∃ f, f = s.found.setPower fun p => { p with vbat := false } := ⟨_, rfl⟩
    have result : s.found.vbatLoss = { f.set Reg.R1001_DEV_STATE DevState.off with aon := { lost := true } } := by
      rw [made]
      exact if_pos off
    have shows : f.clk = s.found.clk ∧ f.event = s.found.event ∧ f.power.vbat = false ∧ ∀ k, f.reg k = s.found.reg k := by
      rw [made]
      exact ⟨rfl, rfl, rfl, fun _ => rfl⟩
    obtain ⟨clk, event, vbat, regs⟩ := shows
    have leaves : Leaves .vbatLoss s _ := still_leaves ok (guard := fun d g => g d) (fun d => d.vbatLoss) s.passesAll result clk
    exact leaves.quietly event ⟨state f _ (by decide), vbat, rfl, fun k hk => (Dev.reg_set_other _ _ (by simpa using hk)).trans (regs k)⟩
  · obtain ⟨f, made⟩ : ∃ f, f = s.found.setPower fun p => { p with vbat := true } := ⟨_, rfl⟩
    have result : s.found.vbatApplied = f.set Reg.R1001_DEV_STATE DevState.alwaysOn := by
      rw [made]
      exact if_pos off
    have shows : f.clk = s.found.clk ∧ f.event = s.found.event ∧ f.power.vbat = true ∧ f.aon = s.found.aon ∧ ∀ k, f.reg k = s.found.reg k := by
      rw [made]
      exact ⟨rfl, rfl, rfl, rfl, fun _ => rfl⟩
    obtain ⟨clk, event, vbat, aon, regs⟩ := shows
    have leaves : Leaves .vbatApplied s _ := still_leaves ok (guard := fun d g => g d) (fun d => d.vbatApplied) s.passesAll result clk
    exact leaves.quietly event ⟨state f _ (by decide), vbat, aon, fun k hk => (Dev.reg_set_other _ _ (by simpa using hk)).trans (regs k)⟩

/-! ## RESET_N and PERST_N -/

theorem resetN_unpowered (ok : s.ClockOk) (off : s.found.unpowered = true) (step : Nat) : Does (.resetN step) s fun b a =>
    a.power.resetN = false ∧ b.Keeps a [.power] := by
  have keeps := s.found.keeps_setPower fun p => { p with resetN := false }
  have leaves : Leaves (.resetN step) s (s.found.setPower fun p => { p with resetN := false }) :=
    still_leaves ok (guard := fun d g => g d) (fun d => d.resetPin step) s.passesAll (if_pos off) rfl
  exact leaves.quietly rfl ⟨rfl, keeps⟩

theorem resetN_holds (on : s.found.unpowered = false) : Does (.resetN 0) s fun b a =>
    a.boot.held = true ∧ a.dark = true ∧ a.state = DevState.boot ∧ a.boot.resetBy = 2 ∧ a.power = { b.power with resetN := false } ∧
    a.aon = b.aon := by
  obtain ⟨p, pin⟩ : ∃ p, p = s.found.setPower fun p => { p with resetN := false } := ⟨_, rfl⟩
  obtain ⟨r, reset⟩ : ∃ r, r = p.afterReset 2 := ⟨_, rfl⟩
  have result : s.found.resetPin 0 = r.holdReset := by
    rw [reset, ← p.bootUntil_none, pin]
    exact if_neg (by rw [show (s.found.setPower _).unpowered = s.found.unpowered from rfl, on]; decide)
  have shows : p.power = { s.found.power with resetN := false } ∧ p.aon = s.found.aon := by
    rw [pin]
    exact ⟨rfl, rfl⟩
  obtain ⟨aon, power, resetBy, -, clk, -⟩ := p.afterReset_shows 2 reset
  have state : r.state = DevState.boot := by rw [reset, Dev.state_afterReset]
  have leaves : Leaves (.resetN 0) s r.holdReset := reset_leaves (guard := fun d g => g d) (fun d => d.resetPin 0) s.passesAll result clk
  exact leaves.does fun pend vecs => ⟨rfl, Bool.or_true _, state, resetBy, power.trans shows.1, aon.trans shows.2⟩

/-- A ring pair stopped as if its SIZE had been written 0. -/
def Dev.stopRing (d : Dev) (r : Nat) : Dev :=
  let x := d.ring r
  d.setRing r { x with size := 0, state := 0, tail := 0, head := 0, rspTail := 0, rspHead := 0 }

/-- A ring pair that is stopped. -/
def Ring.Stopped (x : Ring) : Prop := x.size = 0 ∧ x.state = 0 ∧ x.head = 0 ∧ x.tail = 0

theorem Dev.keeps_serve (d : Dev) (x : OdServe) : d.Keeps { d with serve := x } [.serve] := by
  intro p hp
  cases p with
  | serve => simp at hp
  | _ => rfl

theorem Dev.stopRing_stops (d : Dev) (r : Nat) : ((d.stopRing r).ring r).Stopped := by
  rw [Dev.stopRing, Dev.ring, Dev.setRing, mget_mset_same]
  exact ⟨rfl, rfl, rfl, rfl⟩

theorem Dev.ring_stopRing_other (d : Dev) {r q : Nat} (h : q ≠ r) : (d.stopRing r).ring q = d.ring q := mget_mset_other _ _ _ _ h

theorem Dev.hostDma_stopRing (d : Dev) (r : Nat) : (d.stopRing r).serve.hostDma = d.serve.hostDma := rfl

theorem perstN_high : Does (.perstN true) s fun b a => a.power = { b.power with perstN := true } ∧ b.Keeps a [.power] := by
  have keeps := s.found.keeps_setPower fun p => { p with perstN := true }
  have leaves : Leaves (.perstN true) s (s.found.setPower fun p => { p with perstN := true }) :=
    .dry (guard := fun d g => g d) (fun d => d.perstPin true) s.passesAll rfl keeps
  exact leaves.quietly rfl ⟨rfl, keeps⟩

theorem perstN_low : Does (.perstN false) s fun b a => a.power = { b.power with perstN := false } ∧
    (∀ i < 16, (a.ring i).size = 0 ∧ (a.ring i).state = 0 ∧ (a.ring i).head = 0 ∧ (a.ring i).tail = 0) ∧
    (∀ ch, a.hostDmaOf ch = {}) ∧ a.event = b.event ∧ b.Keeps a [.power, .serve] := by
  obtain ⟨p, pin⟩ : ∃ p, p = s.found.setPower fun p => { p with perstN := false } := ⟨_, rfl⟩
  obtain ⟨q, emptied⟩ : ∃ q : Dev, q = { p with serve := { p.serve with hostDma := [], eventVec := 0xFFFF, msix := [], msixPend := [] } } := ⟨_, rfl⟩
  obtain ⟨e, made⟩ : ∃ e, e = iterate 16 (fun r (d : Dev) => d.stopRing r) q := ⟨_, rfl⟩
  have result : s.found.perstPin false = e := by
    rw [made, emptied, pin]
    rfl
  have keepsP : s.found.Keeps p [.power] := by rw [pin]; exact Dev.keeps_setPower _ _
  have keepsQ : p.Keeps q [.serve] := by rw [emptied]; exact p.keeps_serve _
  have keepsE : q.Keeps e [.serve] := by
    rw [made]
    exact Dev.Keeps.iterate (n := 16) (f := fun r (d : Dev) => d.stopRing r) (fun r d => d.keeps_serve _) q
  have keeps : s.found.Keeps e [.power, .serve] := ((keepsP.mono (by decide)).step keepsQ).step keepsE
  have power : e.power = { s.found.power with perstN := false } := by
    rw [show e.power = q.power from keepsE .power (by decide), show q.power = p.power from keepsQ .power (by decide), pin]
    rfl
  have dma : e.serve.hostDma = [] := by
    have dmaQ : q.serve.hostDma = [] := by rw [emptied]
    rw [made]
    exact iterate_holds (fun d : Dev => d.serve.hostDma = []) 16 _ (fun r _ d none_ => (d.hostDma_stopRing r).trans none_) dmaQ
  have leaves : Leaves (.perstN false) s e := .dry (guard := fun d g => g d) (fun d => d.perstPin false) s.passesAll result keeps
  refine leaves.quietly (keeps .event (by decide)) ⟨power, fun i hi => ?_, fun ch => ?_, keeps .event (by decide), keeps⟩
  · change (e.ring i).Stopped
    rw [made]
    refine each_reaches (fun _ : Dev => True) (fun d : Dev => (d.ring i).Stopped) (List.mem_range.2 hi) (fun _ _ _ _ => trivial)
      (fun r _ d _ stopped => ?_) (fun d _ => d.stopRing_stops i) trivial
    by_cases own : i = r
    · rw [own]
      exact d.stopRing_stops r
    · rw [d.ring_stopRing_other own]
      exact stopped
  · rw [Dev.hostDmaOf, dma]
    rfl

end

/-! ## The reference clock -/

section
variable {s : State} (live : s.Live) (ok : s.ClockOk)
include live ok

theorem refclk_quiet (out : s.found.net ≠ NetState.inSync) : Does .refclkFault s fun b a =>
    a.LastRaised Code.REFCLK_FAULT Kind.device 0 ∧ b.KeepsRegs a logRegs ∧ b.Keeps a logParts := by
  obtain ⟨r, raised⟩ : ∃ r, r = s.found.raise Code.REFCLK_FAULT Kind.device 0 := ⟨_, rfl⟩
  have keeps : s.found.Keeps r logParts := by rw [raised]; exact (Dev.keeps_raise _ _ _ _ _ _).mono (by decide)
  have lit : s.found.dark = false := live
  have net : r.net = s.found.net := by rw [raised, Dev.net, Dev.nat, Dev.reg_raise _ _ _ _ _ _ (by decide)]; rfl
  have result : s.found.refclkFault = r := by
    unfold Dev.refclkFault
    rw [if_neg (by rw [lit]; decide)]
    dsimp only
    rw [← raised, if_neg (by rwa [net])]
  have leaves : Leaves .refclkFault s r :=
    still_leaves ok (guard := Dev.live) (fun d => d.refclkFault) live.passes result (keeps .clk (by decide))
  refine leaves.does fun pend vecs => ⟨?_, fun k hk => ?_, (keeps.trans (Dev.keeps_told r pend vecs)).mono (by decide)⟩
  · rw [raised]
    exact (s.found.lastRaised_raise _ _ _ _ _).told pend vecs
  · rw [Dev.reg_told, raised, Dev.reg_raise _ _ _ _ _ _ hk]

theorem refclk_unsyncs (sync : s.found.net = NetState.inSync) (single : s.found.active = false) : Does .refclkFault s fun b a =>
    a.net = NetState.listen ∧ (b.state = DevState.run → a.state = DevState.safe ∧ a.nat Reg.R1001_SAFE_CAUSE = Code.REFCLK_FAULT) ∧
    (b.state ≠ DevState.run → a.state = b.state ∧ a.LastRaised Code.REFCLK_FAULT Kind.device 0) := by
  obtain ⟨r, raised⟩ : ∃ r, r = s.found.raise Code.REFCLK_FAULT Kind.device 0 := ⟨_, rfl⟩
  obtain ⟨u, unsynced⟩ : ∃ u, u = r.unsynced NetState.listen := ⟨_, rfl⟩
  have keepsR : s.found.Keeps r logParts := by rw [raised]; exact (Dev.keeps_raise _ _ _ _ _ _).mono (by decide)
  have lit : s.found.dark = false := live
  have regR : ∀ k, k ∉ logRegs → r.reg k = s.found.reg k := fun k log => by rw [raised, Dev.reg_raise _ _ _ _ _ _ log]
  have net : r.net = NetState.inSync := (congrArg Int.toNat (regR _ (by decide))).trans sync
  obtain ⟨netU, -, logU⟩ := r.unsynced_shows (st := NetState.listen) (by decide)
  rw [← unsynced] at netU logU
  have clkU : u.clk = s.found.clk := by
    have same : u.clk = r.clk := by rw [unsynced]; rfl
    rw [same]
    exact keepsR .clk (by decide)
  have regU : ∀ k, k ∉ [Reg.R1400_NET_STATE, Reg.R1140_NT_VALID] → k ∉ logRegs → u.reg k = s.found.reg k := fun k own log => by
    rw [unsynced, r.reg_unsynced _ own, regR k log]
  have active : u.active = false :=
    (Dev.active_congr fun k hk => regU k (by revert k; decide) (by revert k; decide)).trans single
  have state : u.state = s.found.state := congrArg Int.toNat (regU _ (by decide) (by decide))
  have leaves' : s.found.refclkFault = if u.state = DevState.run then u.enterSafe Code.REFCLK_FAULT else u := by
    unfold Dev.refclkFault
    rw [if_neg (by rw [lit]; decide)]
    dsimp only
    rw [← raised, if_pos net]
    unfold Dev.leaveSync
    extract_lets out
    have same : out = u := unsynced.symm
    rw [same, if_neg (by simp [active])]
  by_cases run : s.found.state = DevState.run
  · obtain ⟨e, entered⟩ : ∃ e, e = u.enterSafe Code.REFCLK_FAULT := ⟨_, rfl⟩
    have keeps : u.Keeps e safeParts := by rw [entered]; exact u.keeps_enterSafe _
    obtain ⟨stateE, cause, -⟩ := u.enterSafe_shows (cause := Code.REFCLK_FAULT) (by decide)
    rw [← entered] at stateE cause
    have netE : e.net = u.net := by
      rw [entered, Dev.net, Dev.nat, u.reg_enterSafe _ (not_safeReg (by decide) (by decide) (by decide))]
      rfl
    have leaves : Leaves .refclkFault s e :=
      still_leaves ok (guard := Dev.live) (fun d => d.refclkFault) live.passes (leaves'.trans ((if_pos (state.trans run)).trans entered.symm))
        ((keeps .clk (by decide)).trans clkU)
    exact leaves.does fun pend vecs => ⟨netE.trans netU, fun _ => ⟨stateE, cause⟩, fun no => absurd run no⟩
  · have leaves : Leaves .refclkFault s u :=
      still_leaves ok (guard := Dev.live) (fun d => d.refclkFault) live.passes (leaves'.trans (if_neg (by rwa [state]))) clkU
    have lastR : r.LastRaised Code.REFCLK_FAULT Kind.device 0 := by
      rw [raised]
      exact s.found.lastRaised_raise _ _ _ _ _
    have last : u.LastRaised Code.REFCLK_FAULT Kind.device 0 := (Dev.lastRaised_congr logU _ _ _).2 lastR
    exact leaves.does fun pend vecs => ⟨netU, fun yes => absurd yes run, fun _ => ⟨state, last⟩⟩

end

end Sys2Proof.Machine
end

section
/-! # Banks and the lid (R536, R537, R546) -/

namespace Sys2Proof.Machine

/-! ## Banks -/

/-- Nothing between the two devices touches the counters or what the banks show. -/
def Dev.BanksStand (d e : Dev) : Prop := e.clk = d.clk ∧ ∀ k, k / 256 = 0x4000 → e.reg k = d.reg k

section
variable {d e : Dev} {N C : Nat → Prop}

theorem Dev.BanksStand.refl (d : Dev) : d.BanksStand d := ⟨rfl, fun _ _ => rfl⟩

theorem Dev.BanksStand.set (h : d.BanksStand e) (k : Nat) (v : Int) (out : k / 256 ≠ 0x4000) : d.BanksStand (e.set k v) :=
  ⟨h.1, fun j hj => (Dev.reg_set_other _ _ (by rintro rfl; exact out hj)).trans (h.2 j hj)⟩

theorem Dev.BanksStand.reacts (h : d.BanksStand e) {f : Dev} (r : e.Reacts N C f) : d.BanksStand f := by
  refine ⟨(r.keeps .clk (by decide)).trans h.1, fun k hk => (r.regs k ?_).trans (h.2 k hk)⟩
  rintro (⟨n, -, hn, ax⟩ | ⟨c, -, hc, ch⟩ | gen | log)
  · omega
  · simp only [Reg.CH5_CONTROL, Reg.key] at ch; omega
  · omega
  · have far : ∀ k ∈ logRegs, k / 256 ≠ 0x4000 := by decide
    exact far k log hk

theorem Dev.BanksStand.raise (h : d.BanksStand e) (code kind subject reaction detail : Nat) :
    d.BanksStand (e.raise code kind subject reaction detail) :=
  h.reacts ((Dev.Reacts.refl (fun _ => False) (fun _ => False) e).raise code kind subject reaction detail)

theorem Dev.BanksStand.each {α : Type} (xs : List α) (g : α → Dev → Dev) (step : ∀ x ∈ xs, ∀ e, d.BanksStand e → d.BanksStand (g x e))
    (h : d.BanksStand e) : d.BanksStand (each xs g e) := each_holds d.BanksStand xs g step h

theorem Dev.BanksStand.when (h : d.BanksStand e) (b : Bool) (g : Dev → Dev) (step : d.BanksStand (g e)) : d.BanksStand (e.when b g) := by
  unfold Dev.when
  split
  · exact step
  · exact h

theorem Dev.BanksStand.setSafeFn (h : d.BanksStand e) (k : Nat) (x : SafeFn) : d.BanksStand (e.setSafeFn k x) := h

theorem Dev.BanksStand.setSafeOut (h : d.BanksStand e) (k : Nat) (x : SafeOut) : d.BanksStand (e.setSafeOut k x) := h

theorem Dev.BanksStand.setAxSafe (h : d.BanksStand e) (n : Nat) (x : AxSafe) : d.BanksStand (e.setAxSafe n x) := h

theorem Dev.BanksStand.unlatch (h : d.BanksStand e) {n : Nat} (low : n < 256) (p : StopLatch → Bool) : d.BanksStand (e.unlatch n p) :=
  h.reacts ((Dev.Reacts.refl (· < 256) (· < 16) e).unlatch low low p)

theorem Dev.BanksStand.latchStop (h : d.BanksStand e) {n : Nat} (low : n < 256) (code fn r : Nat) : d.BanksStand (e.latchStop n code fn r) :=
  h.reacts ((Dev.Reacts.refl _ _ e).latchStop (Dev.MayReact.any e low) code fn r)

theorem Dev.BanksStand.react (h : d.BanksStand e) {n : Nat} (low : n < 256) (code r : Nat) : d.BanksStand (e.react n code r) :=
  h.reacts (e.react_reacts low code r)

theorem Dev.BanksStand.showFn (h : d.BanksStand e) {k : Nat} (hk : k < 8) : d.BanksStand (e.showFn k) :=
  (h.set _ _ (by simp only [Reg.R5010_STATE, Reg.key]; omega)).set _ _ (by simp only [Reg.R5010_LEVELS, Reg.key]; omega)

theorem Dev.BanksStand.slsAxis (h : d.BanksStand e) {n : Nat} (hn : n < 128) : d.BanksStand (e.slsAxis n) := by
  have own : Reg.R5080_SLS_ACTIVE n / 256 ≠ 0x4000 := by simp only [Reg.R5080_SLS_ACTIVE, Reg.key]; omega
  unfold Dev.slsAxis
  dsimp only
  split_ifs
  · exact h
  · exact (h.setAxSafe n _).when _ _ ((h.setAxSafe n _).set _ _ own)
  · exact (h.setAxSafe n _).set _ _ own

theorem Dev.BanksStand.slsChain (h : d.BanksStand e) {c : Nat} (hc : c < 16) : d.BanksStand (e.slsChain c) := by
  have own : Reg.R5040_SLS_ACTIVE c / 256 ≠ 0x4000 := by simp only [Reg.R5040_SLS_ACTIVE, Reg.key]; omega
  have put : ∀ t, d.BanksStand ({ e with safe := { e.safe with chainSls := mset none e.safe.chainSls c t } } : Dev) := fun _ => h
  unfold Dev.slsChain
  dsimp only
  split_ifs
  · exact h
  · exact (put _).when _ _ ((put _).set _ _ own)
  · exact (put _).set _ _ own

theorem Dev.BanksStand.slsSelect (h : d.BanksStand e) : d.BanksStand e.slsSelect :=
  .each _ _ (fun _ hc _ hf => hf.slsChain (List.mem_range.1 hc)) (.each _ _ (fun _ hn _ hf => hf.slsAxis (List.mem_range.1 hn)) h)

theorem Dev.scopeAxes_lt {k n : Nat} (h : n ∈ e.scopeAxes k) : n < 256 := by
  have := List.mem_range.1 (List.mem_of_mem_filter h)
  omega

theorem Dev.BanksStand.enterDemand (h : d.BanksStand e) (k raw : Nat) : d.BanksStand (e.enterDemand k raw) := by
  unfold Dev.enterDemand
  extract_lets stops r src opened raised
  have raised' : d.BanksStand raised := (h.setSafeFn k _).raise _ _ _ _ _
  split_ifs
  · exact .each _ _ (fun n hn f hf => hf.latchStop (Dev.scopeAxes_lt hn) _ _ _) raised'
  · exact raised'

theorem Dev.BanksStand.leaveDemand (h : d.BanksStand e) (k raw : Nat) : d.BanksStand (e.leaveDemand k raw) := by
  unfold Dev.leaveDemand
  extract_lets x len left
  have left' : d.BanksStand left := h.setSafeFn k _
  have any : ∀ n < 128, n < 256 := fun n hn => by omega
  split_ifs
  · exact .each _ _ (fun n hn f hf => hf.unlatch (Dev.scopeAxes_lt hn) _) left'
  · exact left'
  · exact .each _ _ (fun n hn f hf => hf.unlatch (any n (List.mem_range.1 hn)) _) left'
  · exact left'

theorem Dev.BanksStand.fnEval (h : d.BanksStand e) {k : Nat} (hk : k < 8) (raw : Nat) : d.BanksStand (e.fnEval k raw) := by
  have any : ∀ n < 128, n < 256 := fun n hn => by omega
  unfold Dev.fnEval
  extract_lets x unused a b was y judged evaluated
  split_ifs
  · have unused' : d.BanksStand unused := (h.setSafeFn k _).showFn hk
    exact unused'.when _ _ (.each _ _ (fun n hn f hf => hf.unlatch (any n (List.mem_range.1 hn)) _) unused')
  · have judged' : d.BanksStand judged := h.setSafeFn k _
    have evaluated' : d.BanksStand evaluated := by
      change d.BanksStand (if _ then _ else if _ then _ else _)
      split_ifs
      · exact judged'.enterDemand k raw
      · exact judged'.leaveDemand k raw
      · exact judged'
    exact (evaluated'.showFn hk).slsSelect

theorem Dev.BanksStand.groupSto (h : d.BanksStand e) (k : Nat) : d.BanksStand (e.groupSto k) := by
  unfold Dev.groupSto
  split_ifs
  · exact h
  · extract_lets hit told
    have told' : d.BanksStand told := h.when _ _ (h.raise _ _ _ _ _)
    have low : ∀ n ∈ hit, n < 256 := fun n hn => by
      have := List.mem_range.1 (List.mem_of_mem_filter (List.mem_of_mem_filter hn))
      omega
    exact .each _ _ (fun n hn f hf => hf.react (low n hn) _ _) told'

theorem Dev.BanksStand.outFault (h : d.BanksStand e) {k : Nat} (hk : k < 8) (code : Nat) : d.BanksStand (e.outFault k code) := by
  unfold Dev.outFault
  extract_lets on src off raised
  have raised' : d.BanksStand raised :=
    (((h.setSafeOut k _).set _ _ (by simp only [Reg.R5020_STATE, Reg.key]; omega)).set _ _
      (by simp only [Reg.R5020_LAST_FAULT, Reg.key]; omega)).raise _ _ _ _ _
  split_ifs
  · exact raised'.groupSto k
  · exact raised'

theorem Dev.BanksStand.safeBankLost (h : d.BanksStand e) : d.BanksStand e.safeBankLost :=
  .each _ _ (fun _ hk _ hf => hf.when _ _ (hf.outFault (List.mem_range.1 hk) _))
    (.each _ _ (fun _ hk _ hf => (hf.setSafeFn _ _).fnEval (List.mem_range.1 hk) _) h)

end

theorem bank_types {n : Nat} (hn : n < 4) : odType (Reg.R4000_STATE_1 + n) = .u8 ∧ odType (Reg.R4000_MV_1 + n) = .u16 ∧
    Reg.R4000_STATE_1 + n ∉ logRegs ∧ Reg.R4000_MV_1 + n ∉ logRegs ∧ Reg.R4000_MV_1 + n ≠ Reg.R4000_STATE_1 + n ∧
    Reg.R4000_LOSSES ≠ Reg.R4000_STATE_1 + n ∧ Reg.R4000_LOSSES ≠ Reg.R4000_MV_1 + n := by
  revert n
  decide +kernel

theorem losses_type : odType Reg.R4000_LOSSES = .u32 ∧ Reg.R4000_LOSSES ∉ logRegs := by decide +kernel

/-- A bank that is shown as lost. -/
theorem Dev.bankRaise_shows (d : Dev) {n mv : Nat} (hn : n < 4) (hmv : mv < 65536) {e : Dev}
    (made : e = ((d.set (Reg.R4000_MV_1 + n) mv).set (Reg.R4000_STATE_1 + n) 2).bankRaise n) :
    e.nat (Reg.R4000_STATE_1 + n) = 2 ∧ e.nat (Reg.R4000_MV_1 + n) = mv ∧
    e.nat Reg.R4000_LOSSES = min (d.nat Reg.R4000_LOSSES + 1) 0xFFFFFFFF ∧ e.clk = d.clk ∧ e.boot = d.boot ∧
    e.LastRaised Code.BANK_POWER_LOSS Kind.other 0 := by
  obtain ⟨tState, tMv, logState, logMv, apart, lossState, lossMv⟩ := bank_types hn
  obtain ⟨tLoss, logLoss⟩ := losses_type
  obtain ⟨f, shown⟩ : ∃ f, f = (d.set (Reg.R4000_MV_1 + n) mv).set (Reg.R4000_STATE_1 + n) 2 := ⟨_, rfl⟩
  obtain ⟨g, counted⟩ : ∃ g, g = f.count Reg.R4000_LOSSES := ⟨_, rfl⟩
  have eq : e = g.raise Code.BANK_POWER_LOSS Kind.other 0 0 n := by rw [made, counted, shown]; rfl
  have keepsG : d.Keeps g [.od] := by
    rw [counted, shown]
    exact (((Dev.Keeps.refl _ _).set _ _).set _ _).set _ _
  have keepsE : g.Keeps e logParts := by rw [eq]; exact (Dev.keeps_raise _ _ _ _ _ _).mono (by decide)
  have regs : ∀ k, k ∉ logRegs → k ≠ Reg.R4000_LOSSES → e.reg k = f.reg k := fun k log own => by
    rw [eq, Dev.reg_raise _ _ _ _ _ _ log, counted, Dev.count, Dev.reg_set_other _ _ own]
  refine ⟨?_, ?_, ?_, (keepsE .clk (by decide)).trans (keepsG .clk (by decide)), (keepsE .boot (by decide)).trans (keepsG .boot (by decide)), ?_⟩
  · rw [Dev.nat, regs _ logState (Ne.symm lossState), shown, Dev.reg_set_same, tState]
    rfl
  · rw [Dev.nat, regs _ logMv (Ne.symm lossMv), shown, Dev.reg_set_other _ _ apart, Dev.reg_set_same, tMv]
    exact OdType.toNat_wrap_u16 hmv
  · have before : f.nat Reg.R4000_LOSSES = d.nat Reg.R4000_LOSSES := by
      rw [Dev.nat, shown, Dev.reg_set_other _ _ lossState, Dev.reg_set_other _ _ lossMv]
      rfl
    rw [eq, Dev.nat, Dev.reg_raise _ _ _ _ _ _ logLoss, counted]
    exact (f.nat_count_same tLoss).trans (by rw [before])
  · rw [eq]
    exact g.lastRaised_raise _ _ _ _ _

section
variable {s : State} (live : s.Live) (ok : s.ClockOk) {n mv : Nat} (hn : n < 4)
include live ok hn

theorem bank_stands (low : ¬(s.found.nat (Reg.R4000_STATE_1 + n) = 1 ∧ mv * 100 < s.found.nat (Reg.R4000_NOMINAL_MV_1 + n) * 85)) :
    Does (.bankPowerLoss n mv) s fun b a => b.Keeps a [] := by
  have result : s.found.bankLoss n mv = s.found := by
    refine if_pos ?_
    by_cases used : s.found.nat (Reg.R4000_STATE_1 + n) = 1
    · exact .inr (.inr (.inr (Nat.le_of_not_lt fun less => low ⟨used, less⟩)))
    · exact .inr (.inr (.inl used))
  have leaves : Leaves (.bankPowerLoss n mv) s s.found :=
    still_leaves ok (guard := fun d => d.liveIf (n < 4)) (fun d => d.bankLoss n mv) (live.passesIf hn) result rfl
  exact leaves.unchanged

theorem bank_lost (hmv : mv < 65536) (used : s.found.nat (Reg.R4000_STATE_1 + n) = 1)
    (low : mv * 100 < s.found.nat (Reg.R4000_NOMINAL_MV_1 + n) * 85) : Does (.bankPowerLoss n mv) s fun b a =>
      a.nat (Reg.R4000_STATE_1 + n) = 2 ∧ a.nat (Reg.R4000_MV_1 + n) = mv ∧
      (n ≠ 2 → a.nat Reg.R4000_LOSSES = min (b.nat Reg.R4000_LOSSES + 1) 0xFFFFFFFF) ∧
      (n = 2 → a.boot.held = true ∧ a.dark = true ∧ a.LastRaised Code.BANK_POWER_LOSS Kind.other 0) := by
  have lit : s.found.dark = false := live
  have go : s.found.bankLoss n mv = if n = 2 then
      ((((s.found.afterReset 2).holdReset.set Reg.R4000_MV_3 mv).set Reg.R4000_STATE_3 2).bankRaise 2)
      else s.found.bankLost n mv := by
    refine if_neg ?_
    rintro (beyond | dark | other | fine)
    · omega
    · exact absurd (lit.symm.trans dark) (by decide)
    · exact other used
    · omega
  by_cases bank3 : n = 2
  · obtain ⟨r, reset⟩ : ∃ r, r = s.found.afterReset 2 := ⟨_, rfl⟩
    obtain ⟨h, held⟩ : ∃ h, h = r.holdReset := ⟨_, rfl⟩
    obtain ⟨e, made⟩ : ∃ e, e = ((h.set (Reg.R4000_MV_1 + 2) mv).set (Reg.R4000_STATE_1 + 2) 2).bankRaise 2 := ⟨_, rfl⟩
    have result : s.found.bankLoss n mv = e := by
      rw [made, held, reset]
      exact go.trans (if_pos bank3)
    obtain ⟨-, -, -, -, clkR, -⟩ := s.found.afterReset_shows 2 reset
    have shows : h.clk = r.clk ∧ h.boot.held = true := by rw [held]; exact ⟨rfl, rfl⟩
    obtain ⟨state, volts, -, clk, boot, last⟩ := h.bankRaise_shows (n := 2) (by decide) hmv made
    have leaves : Leaves (.bankPowerLoss n mv) s e :=
      reset_leaves (guard := fun d => d.liveIf (n < 4)) (fun d => d.bankLoss n mv) (live.passesIf hn) result (clk.trans (shows.1.trans clkR))
    have heldE : e.boot.held = true := by rw [boot]; exact shows.2
    subst bank3
    refine leaves.does fun pend vecs => ⟨state, volts, fun no => absurd rfl no, fun _ => ⟨heldE, ?_, last.told pend vecs⟩⟩
    change (_ || e.boot.held) = true
    rw [heldE, Bool.or_true]
  · obtain ⟨c, made⟩ : ∃ c, c = ((s.found.set (Reg.R4000_MV_1 + n) mv).set (Reg.R4000_STATE_1 + n) 2).bankRaise n := ⟨_, rfl⟩
    obtain ⟨e, after⟩ : ∃ e, e = s.found.bankLost n mv := ⟨_, rfl⟩
    have eq : e = if n = 3 then c.safeBankLost
        else each ((List.range 128).filter c.bankBlocks) (fun n d => d.react n Code.BANK_POWER_LOSS Reaction.qstop) c := by
      rw [after, made]
      rfl
    have stand : c.BanksStand e := by
      rw [eq]
      split_ifs
      · exact (Dev.BanksStand.refl c).safeBankLost
      · exact .each _ _ (fun m hm f hf => hf.react (by have := List.mem_range.1 (List.mem_of_mem_filter hm); omega) _ _) (Dev.BanksStand.refl c)
    obtain ⟨state, volts, losses, clk, -, -⟩ := s.found.bankRaise_shows hn hmv made
    have leaves : Leaves (.bankPowerLoss n mv) s e :=
      still_leaves ok (guard := fun d => d.liveIf (n < 4)) (fun d => d.bankLoss n mv) (live.passesIf hn)
        (go.trans ((if_neg bank3).trans after.symm)) (stand.1.trans clk)
    have nat : ∀ k, k / 256 = 0x4000 → e.nat k = c.nat k := fun k hk => congrArg Int.toNat (stand.2 k hk)
    refine leaves.does fun pend vecs => ⟨?_, ?_, fun _ => ?_, fun yes => absurd yes bank3⟩
    · rw [Dev.nat_told, nat _ (by simp only [Reg.R4000_STATE_1, Reg.key]; omega), state]
    · rw [Dev.nat_told, nat _ (by simp only [Reg.R4000_MV_1, Reg.key]; omega), volts]
    · rw [Dev.nat_told, nat _ (by decide), losses]

omit ok in
theorem bank_waits (not_ : ¬(s.found.nat (Reg.R4000_STATE_1 + n) = 2 ∧ nominalOf n mv = some (s.found.nat (Reg.R4000_NOMINAL_MV_1 + n)))) :
    Does (.bankPowerRestored n mv) s fun b a => b.Keeps a [] := by
  have result : s.found.bankRestored n mv = s.found := by
    refine if_pos ?_
    by_cases lost : s.found.nat (Reg.R4000_STATE_1 + n) = 2
    · exact .inr (.inr fun fits => not_ ⟨lost, fits⟩)
    · exact .inr (.inl lost)
  have leaves : Leaves (.bankPowerRestored n mv) s s.found :=
    .cell (guard := fun d => d.liveIf (n < 4)) (l := []) (fun d => d.bankRestored n mv) (live.passesIf hn) result (Dev.Keeps.refl _ _)
  exact leaves.unchanged

/-- The inputs of a bank restored qualify anew. -/
def Dev.freshInputs (d : Dev) : Dev :=
  iterate 128 (fun n d => iterate 3 (fun r d =>
    d.when (decide (d.inputOf n r < 32)) fun d => d.setAxIn n r { d.axIn n r with first := none, last := none }) d) d

omit live ok hn in
theorem Dev.keeps_freshInputs (d : Dev) : d.Keeps d.freshInputs [.axes] :=
  Dev.Keeps.iterate (n := 128) _ (fun _ e => Dev.Keeps.iterate (n := 3) _ (fun _ e =>
    (Dev.Keeps.refl e [.axes]).cond _ _ (Dev.keeps_modAxis _ _ _)) e) d

omit ok in
theorem bank_restored (hmv : mv < 65536) (lost : s.found.nat (Reg.R4000_STATE_1 + n) = 2)
    (fits : nominalOf n mv = some (s.found.nat (Reg.R4000_NOMINAL_MV_1 + n))) : Does (.bankPowerRestored n mv) s fun b a =>
      a.nat (Reg.R4000_STATE_1 + n) = 1 ∧ a.nat (Reg.R4000_MV_1 + n) = mv ∧ a.LastRaised Code.BANK_POWER_RESTORED Kind.other 0 ∧
      b.KeepsRegs a ([Reg.R4000_STATE_1 + n, Reg.R4000_MV_1 + n] ++ logRegs) := by
  obtain ⟨tState, tMv, logState, logMv, apart, -, -⟩ := bank_types hn
  obtain ⟨f, shown⟩ : ∃ f, f = (s.found.set (Reg.R4000_MV_1 + n) mv).set (Reg.R4000_STATE_1 + n) 1 := ⟨_, rfl⟩
  obtain ⟨r, raised⟩ : ∃ r, r = f.raise Code.BANK_POWER_RESTORED Kind.other 0 0 n := ⟨_, rfl⟩
  obtain ⟨e, made⟩ : ∃ e, e = if n ≠ 0 then r else r.freshInputs := ⟨_, rfl⟩
  have result : s.found.bankRestored n mv = e := by
    rw [made, raised, shown]
    refine if_neg ?_
    rintro (beyond | other | misfit)
    · omega
    · exact other lost
    · exact misfit fits
  have keepsR : s.found.Keeps r logParts := by
    rw [raised, shown]
    exact ((((Dev.Keeps.refl _ [.od]).set _ _).set _ _).mono (by decide)).raise _ _ _ _ _
  have keepsE : r.Keeps e [.axes] := by
    rw [made]
    split_ifs
    · exact .refl _ _
    · exact r.keeps_freshInputs
  have regs : ∀ k, e.reg k = r.reg k := fun k => Dev.reg_congr (keepsE .od (by decide)) k
  have leaves : Leaves (.bankPowerRestored n mv) s e :=
    .cell (guard := fun d => d.liveIf (n < 4)) (l := .axes :: logParts) (fun d => d.bankRestored n mv) (live.passesIf hn) result
      ((keepsR.mono (by decide)).step keepsE)
  have last : r.LastRaised Code.BANK_POWER_RESTORED Kind.other 0 := by rw [raised]; exact f.lastRaised_raise _ _ _ _ _
  refine leaves.does fun pend vecs => ⟨?_, ?_, (last.of_keeps keepsE).told pend vecs, fun k hk => ?_⟩
  · rw [Dev.nat_told, Dev.nat, regs, raised, Dev.reg_raise _ _ _ _ _ _ logState, shown, Dev.reg_set_same, tState]
    rfl
  · rw [Dev.nat_told, Dev.nat, regs, raised, Dev.reg_raise _ _ _ _ _ _ logMv, shown, Dev.reg_set_other _ _ apart, Dev.reg_set_same, tMv]
    exact OdType.toNat_wrap_u16 hmv
  · simp only [List.cons_append, List.nil_append, List.mem_cons, not_or] at hk
    rw [Dev.reg_told, regs, raised, Dev.reg_raise _ _ _ _ _ _ (by simpa using hk.2.2), shown, Dev.reg_set_other _ _ hk.1,
      Dev.reg_set_other _ _ hk.2.1]

end

/-! ## The lid -/

section
variable {s : State} (live : s.Live) (ok : s.ClockOk)
include live ok

omit ok in
theorem live_unpowered : s.found.unpowered = false ∧ s.found.boot.held = false := by
  have lit : (s.found.unpowered || s.found.boot.held) = false := live
  simpa using lit

/-- The lid's reading shown, with the largest so far. -/
def Dev.lidShown (d : Dev) (code : Nat) : Dev :=
  let d := d.set Reg.R7060_LID_TEMP code
  d.when (decide (f32 (d.reg Reg.R7060_LID_MAX) < f32 code)) fun d => d.set Reg.R7060_LID_MAX code

omit live ok in
theorem Dev.lidShown_shows (d : Dev) (code : Nat) {e : Dev} (made : e = d.lidShown code) :
    e.reg Reg.R7060_LID_TEMP = (odType Reg.R7060_LID_TEMP).wrap code ∧
    (f32 (d.reg Reg.R7060_LID_MAX) < f32 code → e.reg Reg.R7060_LID_MAX = (odType Reg.R7060_LID_MAX).wrap code) ∧
    (f32 code ≤ f32 (d.reg Reg.R7060_LID_MAX) → e.reg Reg.R7060_LID_MAX = d.reg Reg.R7060_LID_MAX) ∧
    d.Keeps e [.od] ∧ ∀ k, k ≠ Reg.R7060_LID_TEMP → k ≠ Reg.R7060_LID_MAX → e.reg k = d.reg k := by
  obtain ⟨f, shown⟩ : ∃ f, f = d.set Reg.R7060_LID_TEMP code := ⟨_, rfl⟩
  have max : f.reg Reg.R7060_LID_MAX = d.reg Reg.R7060_LID_MAX := by rw [shown, Dev.reg_set_other _ _ (by decide)]
  have keeps : d.Keeps f [.od] := by rw [shown]; exact Dev.keeps_set _ _ _
  have eq : e = if f32 (d.reg Reg.R7060_LID_MAX) < f32 code then f.set Reg.R7060_LID_MAX code else f := by
    rw [made, Dev.lidShown, ← shown, max, Dev.when]
    simp only [decide_eq_true_eq]
  by_cases larger : f32 (d.reg Reg.R7060_LID_MAX) < f32 code
  · rw [if_pos larger] at eq
    rw [eq]
    refine ⟨?_, fun _ => Dev.reg_set_same _ _ _, fun no => absurd larger (not_lt.2 no), keeps.set _ _, fun k own max => ?_⟩
    · rw [Dev.reg_set_other _ _ (by decide), shown, Dev.reg_set_same]
    · rw [Dev.reg_set_other _ _ max, shown, Dev.reg_set_other _ _ own]
  · rw [if_neg larger] at eq
    rw [eq]
    refine ⟨?_, fun yes => absurd yes larger, fun _ => max, keeps, fun k own _ => ?_⟩
    · rw [shown, Dev.reg_set_same]
    · rw [shown, Dev.reg_set_other _ _ own]

/-- The lid's episode and its time at or above 105 degrees, after a reading. -/
def Dev.lidNoted (d : Dev) (code : Nat) : Dev :=
  let back := if f32 code < 90 then d.health.lidEp.back + 1 else 0
  let on := decide (95 ≤ f32 code) || (d.health.lidEp.on && decide (back < 60))
  d.setHealth fun h => { h with lidEp := { seen := true, on, back := if on then back else 0 },
                                lidHot := if 105 ≤ f32 code then some (d.health.lidHot.getD d.rawNow) else none }

theorem lid_shown {code : Nat} (cool : f32 code < 115) (cold : s.found.boot.hot = false) : Does (.lidTempReading code) s fun b a =>
    a.reg Reg.R7060_LID_TEMP = (odType Reg.R7060_LID_TEMP).wrap code ∧
    (f32 (b.reg Reg.R7060_LID_MAX) < f32 code → a.reg Reg.R7060_LID_MAX = (odType Reg.R7060_LID_MAX).wrap code) ∧
    (f32 code ≤ f32 (b.reg Reg.R7060_LID_MAX) → a.reg Reg.R7060_LID_MAX = b.reg Reg.R7060_LID_MAX) ∧
    (95 ≤ f32 code → b.health.lidEp.on = false → a.LastRaised Code.TEMP_HIGH Kind.device 0 ∧ a.health.lidEp.on = true) ∧
    (f32 code < 95 ∨ b.health.lidEp.on = true → a.log = b.log) ∧ a.state = b.state ∧ a.boot = b.boot ∧
    (105 ≤ f32 code → a.health.lidHot = some (b.health.lidHot.getD b.rawNow)) ∧ (f32 code < 105 → a.health.lidHot = none) := by
  obtain ⟨powered, free⟩ := live_unpowered live
  obtain ⟨f, shown⟩ : ∃ f, f = s.found.lidShown code := ⟨_, rfl⟩
  obtain ⟨g, noted⟩ : ∃ g, g = f.lidNoted code := ⟨_, rfl⟩
  obtain ⟨temp, larger, smaller, keepsF, others⟩ := s.found.lidShown_shows code shown
  have boot : f.boot = s.found.boot := keepsF .boot (by decide)
  have health : f.health = s.found.health := keepsF .health (by decide)
  have now : f.rawNow = s.found.rawNow := by
    have clk : f.clk = s.found.clk := keepsF .clk (by decide)
    have ph : f.ph = s.found.ph := keepsF .ph (by decide)
    rw [Dev.rawNow, clk, ph]
    rfl
  have result : s.found.lidReading code = g.when (decide (95 ≤ f32 code) && !f.health.lidEp.on) fun d => d.raise Code.TEMP_HIGH Kind.device 0 := by
    unfold Dev.lidReading
    extract_lets t d1 d2 d3 ep back on kept d4
    have same : d2 = f := shown.symm
    have noted' : d4 = g := by
      rw [noted, ← same]
      rfl
    have episode : ep = f.health.lidEp := by
      rw [← same]
    rw [if_neg (by simp [powered]), same, if_neg (by rw [boot, cold]; decide), if_neg (by rw [boot, free]; decide), if_neg (not_le.2 cool), noted',
      episode]
  have keepsG : f.Keeps g [.health] := by rw [noted]; exact f.keeps_setHealth _
  have healthG : g.health.lidEp.on = (decide (95 ≤ f32 code) || (f.health.lidEp.on && decide ((if f32 code < 90 then f.health.lidEp.back + 1 else 0) < 60))) ∧
      g.health.lidHot = if 105 ≤ f32 code then some (f.health.lidHot.getD f.rawNow) else none := by
    rw [noted]
    exact ⟨rfl, rfl⟩
  obtain ⟨onG, hotG⟩ := healthG
  rw [health, now] at hotG
  rw [health] at result onG
  have regG : ∀ k, g.reg k = f.reg k := fun k => Dev.reg_congr (keepsG .od (by decide)) k
  have logG : g.log = s.found.log := (keepsG .log (by decide)).trans (keepsF .log (by decide))
  obtain ⟨e, made⟩ : ∃ e, e = g.when (decide (95 ≤ f32 code) && !s.found.health.lidEp.on) fun d => d.raise Code.TEMP_HIGH Kind.device 0 := ⟨_, rfl⟩
  have keepsE : g.Keeps e logParts := by
    rw [made]
    exact (Dev.Keeps.refl _ _).cond _ _ ((Dev.keeps_raise _ _ _ _ _ _).mono (by decide))
  have regE : ∀ k, k ∉ logRegs → e.reg k = f.reg k := fun k log => by
    rw [made, Dev.reg_when _ _ (Dev.reg_raise _ _ _ _ _ _ log), regG]
  have healthE : e.health = g.health := keepsE .health (by decide)
  have clk : e.clk = s.found.clk := (keepsE .clk (by decide)).trans ((keepsG .clk (by decide)).trans (keepsF .clk (by decide)))
  have leaves : Leaves (.lidTempReading code) s e :=
    still_leaves ok (guard := fun d g => g d) (fun d => d.lidReading code) s.passesAll (result.trans made.symm) clk
  refine leaves.does fun pend vecs => ⟨?_, fun h => ?_, fun h => ?_, fun warm off => ⟨?_, ?_⟩, fun quiet => ?_, ?_, ?_, fun hot => ?_, fun below => ?_⟩
  · rw [Dev.reg_told, regE _ (by decide), temp]
  · rw [Dev.reg_told, regE _ (by decide), larger h]
  · rw [Dev.reg_told, regE _ (by decide), smaller h]
  · rw [made, off, decide_eq_true warm]
    exact (g.lastRaised_raise _ _ _ _ _).told pend vecs
  · change e.health.lidEp.on = true
    rw [healthE, onG, decide_eq_true warm, Bool.true_or]
  · have no : (decide (95 ≤ f32 code) && !s.found.health.lidEp.on) = false := by
      rcases quiet with below | on
      · rw [decide_eq_false (not_le.2 below), Bool.false_and]
      · rw [on, Bool.not_true, Bool.and_false]
    change e.log = _
    rw [made, no]
    exact logG
  · change e.nat Reg.R1001_DEV_STATE = _
    rw [Dev.nat, regE _ (by decide), others _ (by decide) (by decide)]
    rfl
  · exact (keepsE .boot (by decide)).trans ((keepsG .boot (by decide)).trans boot)
  · change e.health.lidHot = _
    rw [healthE, hotG, if_pos hot]
  · change e.health.lidHot = _
    rw [healthE, hotG, if_neg (not_le.2 below)]

omit ok in
theorem lid_stops {code : Nat} (hot : 115 ≤ f32 code) (cold : s.found.boot.hot = false) : Does (.lidTempReading code) s fun b a =>
    a.boot.held = true ∧ a.boot.hot = true ∧ a.dark = true ∧ a.power = b.power ∧ a.aon.feedLoss = true ∧
    a.reg Reg.R7060_LID_TEMP = (odType Reg.R7060_LID_TEMP).wrap code := by
  obtain ⟨powered, free⟩ := live_unpowered live
  obtain ⟨f, shown⟩ : ∃ f, f = s.found.lidShown code := ⟨_, rfl⟩
  obtain ⟨-, -, -, keepsF, -⟩ := s.found.lidShown_shows code shown
  obtain ⟨r, reset⟩ : ∃ r, r = f.afterReset 3 := ⟨_, rfl⟩
  obtain ⟨-, powerR, -, -, clkR, -⟩ := f.afterReset_shows 3 reset
  obtain ⟨h, held⟩ : ∃ h : Dev, h = ({ r with aon := { r.aon with feedLoss := true } } : Dev).holdReset := ⟨_, rfl⟩
  have showsH : h.boot.held = true ∧ h.power = r.power ∧ h.aon.feedLoss = true ∧ h.clk = r.clk := by
    rw [held]
    exact ⟨rfl, rfl, rfl, rfl⟩
  obtain ⟨heldH, powerH, feed, clkH⟩ := showsH
  have boot : f.boot = s.found.boot := keepsF .boot (by decide)
  have result : s.found.lidReading code = (h.set Reg.R7060_LID_TEMP code).setBoot fun b => { b with hot := true } := by
    unfold Dev.lidReading
    extract_lets t d1 d2 d3
    have same : d2 = f := shown.symm
    have stop : d3 = h := by
      change (d2.orderlyStop 0).holdReset = h
      rw [same, held, reset, Dev.orderlyStop, Dev.bootUntil_none]
    rw [if_neg (by simp [powered]), same, if_neg (by rw [boot, cold]; decide), if_neg (by rw [boot, free]; decide), if_pos hot, stop]
  have leaves : Leaves (.lidTempReading code) s _ :=
    reset_leaves (guard := fun d g => g d) (fun d => d.lidReading code) s.passesAll result (clkH.trans clkR)
  refine leaves.does fun pend vecs => ⟨heldH, rfl, ?_, powerH.trans (powerR.trans (keepsF .power (by decide))), feed, Dev.reg_set_same _ _ _⟩
  change (_ || h.boot.held) = true
  rw [heldH, Bool.or_true]

omit ok in
theorem lid_critical {t : Nat} (since : s.found.health.lidHot = some t) (due : t + 1000000000 ≤ s.found.rawNow)
    (config : DevState.config ≤ s.found.state) (works : s.found.state ≠ DevState.failed) : Does .tempCritical s fun _ a =>
      a.state = DevState.safe ∧ a.nat Reg.R1001_SAFE_CAUSE = Code.TEMP_CRITICAL ∧ a.health.lidHot = none ∧
      (∀ n < 128, a.flag (Reg.R5080_PERMIT n) = false) := by
  obtain ⟨h, cleared⟩ : ∃ h, h = s.found.setHealth fun h => { h with lidHot := none } := ⟨_, rfl⟩
  obtain ⟨r, raised⟩ : ∃ r, r = h.raise Code.TEMP_CRITICAL Kind.device 0 := ⟨_, rfl⟩
  obtain ⟨e, entered⟩ : ∃ e, e = r.enterSafe Code.TEMP_CRITICAL := ⟨_, rfl⟩
  have result : s.found.tempCritical = e := by
    unfold Dev.tempCritical
    rw [since]
    dsimp only
    rw [if_pos ⟨due, config, works⟩, entered, raised, cleared]
    rfl
  have keepsH : s.found.Keeps h [.health] := by rw [cleared]; exact s.found.keeps_setHealth _
  have keepsR : h.Keeps r [.od, .log, .event] := by rw [raised]; exact Dev.keeps_raise _ _ _ _ _ _
  have keepsE : r.Keeps e safeParts := by rw [entered]; exact r.keeps_enterSafe _
  have keeps : s.found.Keeps e (.health :: safeParts) :=
    ((keepsH.mono (m := .health :: safeParts) (by decide)).step keepsR).step keepsE
  have health : e.health.lidHot = none := by
    have same : e.health = h.health := (keepsE .health (by decide)).trans (keepsR .health (by decide))
    rw [same, cleared]
    rfl
  obtain ⟨state, cause, permits⟩ := r.enterSafe_shows (cause := Code.TEMP_CRITICAL) (by decide)
  rw [← entered] at state cause permits
  have leaves : Leaves .tempCritical s e := .dry (guard := Dev.live) (fun d => d.tempCritical) live.passes result keeps
  exact leaves.does fun pend vecs => ⟨state, cause, health, permits⟩

omit ok in
theorem lid_waits (early : s.found.health.lidHot = none ∨ (∀ t, s.found.health.lidHot = some t → s.found.rawNow < t + 1000000000)) :
    Does .tempCritical s fun b a => b.Keeps a [] := by
  have result : s.found.tempCritical = s.found := by
    unfold Dev.tempCritical
    cases since : s.found.health.lidHot with
    | none => rfl
    | some t =>
      rcases early with none_ | before
      · exact absurd (since.symm.trans none_) (by simp)
      · have := before t since
        exact if_neg fun h => absurd h.1 (by omega)
  have leaves : Leaves .tempCritical s s.found := .dry (guard := Dev.live) (l := []) (fun d => d.tempCritical) live.passes result (Dev.Keeps.refl _ _)
  exact leaves.unchanged

end

/-- Settles O60: the supplies, the pins, the banks and the lid do what their events say. -/
theorem suppliesAndLid : Obligations.SuppliesAndLid := by
  unfold Obligations.SuppliesAndLid
  constructor
  · intro s ok d off on
    refine ⟨fun i hi _ => ⟨fun yes => feedLoss_leaves hi yes, fun no => feed_unchanged.1 no, fun no => feedRestored_leaves hi no,
      fun yes => feed_unchanged.2 yes⟩, fun step down => powerLoss_idle ok step down, fun up => powerLoss_stops up, fun up => vbat_powered ok up,
      fun down => vbat_unpowered ok down, fun down step => resetN_unpowered ok down step, fun up => resetN_holds up, perstN_high, perstN_low,
      fun live out => refclk_quiet live ok out, fun live sync single => refclk_unsyncs live ok sync single⟩
  · intro s live ok d
    refine ⟨fun n hn mv hmv => ⟨fun h => bank_lost live ok hn hmv h.1 h.2, fun h => bank_stands live ok hn h, fun back =>
      bank_restored live hn hmv back.1 back.2, fun no => bank_waits live hn no⟩, fun code _ =>
      ⟨fun cool cold => lid_shown live ok cool cold, fun hot cold => lid_stops live hot cold⟩,
      fun t since due config works => lid_critical live since due config works, fun early => lid_waits live early⟩

end Sys2Proof.Machine
end

section
/-! # Memory errors, sensors and spares (R509 to R516) -/

namespace Sys2Proof.Machine

/-! ## The error log -/

/-- The entries a record of the error log writes. -/
abbrev errRegs : List Nat := [Reg.R7020_NEXT_SEQ, Reg.R7020_LOG_WRAPPED]

/-- From one device to the other, records entered the error log, and nothing else happened. -/
structure Dev.ErrNotes (d e : Dev) : Prop where
  keeps : d.Keeps e [.od, .health]
  regs : d.KeepsRegs e errRegs
  health : ∃ l, e.health = { d.health with log := l }

section
variable {d e f : Dev}

theorem Dev.ErrNotes.refl (d : Dev) : d.ErrNotes d := ⟨.refl _ _, fun _ _ => rfl, d.health.log, rfl⟩

theorem Dev.ErrNotes.trans (h : d.ErrNotes e) (g : e.ErrNotes f) : d.ErrNotes f := by
  obtain ⟨l, hl⟩ := h.health
  obtain ⟨m, hm⟩ := g.health
  exact ⟨h.keeps.andThen g.keeps, fun k hk => (g.regs k hk).trans (h.regs k hk), m, by rw [hm, hl]⟩

theorem Dev.errLog_notes (d : Dev) (code kind cls unit syn addr : Nat) (value : Int) {e : Dev} (made : e = d.errLog code kind cls unit syn addr value) :
    d.ErrNotes e ∧ e.reg Reg.R7020_NEXT_SEQ = (odType Reg.R7020_NEXT_SEQ).wrap (d.reg Reg.R7020_NEXT_SEQ + 1) := by
  subst made
  unfold Dev.errLog
  extract_lets r full entered wrapped
  have keepsE : d.Keeps entered [.health] := d.keeps_setHealth _
  have keepsW : entered.Keeps wrapped [.od] := (Dev.Keeps.refl _ _).cond _ _ (Dev.keeps_set _ _ _)
  have health : entered.health = { d.health with log := entered.health.log } := rfl
  have healthW : wrapped.health = entered.health := keepsW .health (by decide)
  have regE : ∀ k, entered.reg k = d.reg k := fun _ => rfl
  have regW : ∀ k, k ≠ Reg.R7020_LOG_WRAPPED → wrapped.reg k = d.reg k := fun k own => (Dev.reg_when_set _ _ _ own).trans (regE k)
  have last : (wrapped.set Reg.R7020_NEXT_SEQ (wrapped.reg Reg.R7020_NEXT_SEQ + 1)).reg Reg.R7020_NEXT_SEQ =
      (odType Reg.R7020_NEXT_SEQ).wrap (d.reg Reg.R7020_NEXT_SEQ + 1) := by
    rw [Dev.reg_set_same, regW _ (by decide)]
  generalize wrapped = w at *
  refine ⟨⟨(((keepsE.mono (m := [.od, .health]) (by decide)).step keepsW).set _ _), fun k hk => ?_, entered.health.log, ?_⟩, last⟩
  · obtain ⟨seq, wrap⟩ : k ≠ Reg.R7020_NEXT_SEQ ∧ k ≠ Reg.R7020_LOG_WRAPPED := by simpa [errRegs] using hk
    rw [Dev.reg_set_other _ _ seq, regW k wrap]
  · exact healthW.trans health

theorem Dev.Keeps.rawNow {l : List Part} (h : d.Keeps e l) (clk : Part.clk ∉ l := by decide) (ph : Part.ph ∉ l := by decide) : e.rawNow = d.rawNow := by
  have clk' : e.clk = d.clk := h .clk clk
  have ph' : e.ph = d.ph := h .ph ph
  rw [Dev.rawNow, clk', ph']
  rfl

end

/-! ## Corrected words -/

/-- The corrected word entered with the time of its last error. -/
def Dev.wordNoted (d : Dev) (kind n addr sym pat : Nat) : Dev :=
  let e := d.when (!(d.ceWords.any fun w => w.addr == addr)) fun d => d.errLog 0 kind ErrClass.corrected n (sym + 256 * pat) addr 0
  e.setHealth fun h =>
    { h with words := (d.ceWords.filter fun w => w.addr != addr) ++ [{ addr, kind, unit := n, raw := e.rawNow, cycle := e.cycle }] }

/-- What a corrected word leaves of the words counted. -/
def Dev.WordKept (d e : Dev) (kind n addr : Nat) : Prop :=
  (∃ w ∈ e.health.words, w.addr = addr ∧ w.kind = kind ∧ w.unit = n ∧ w.raw = d.rawNow) ∧
  (∀ w, w.addr ≠ addr → (w ∈ e.health.words ↔ w ∈ d.ceWords)) ∧ e.health.poisoned = d.health.poisoned

section
variable {d e : Dev} {kind n addr sym pat : Nat}

theorem Dev.WordKept.congr (h : d.WordKept e kind n addr) {f : Dev} (words : f.health.words = e.health.words)
    (poisoned : f.health.poisoned = e.health.poisoned) : d.WordKept f kind n addr := by
  unfold Dev.WordKept
  rw [words, poisoned]
  exact h

theorem Dev.correctedError_eq (plain : kind ≠ UKind.page) (made : e = d.wordNoted kind n addr sym pat) : d.correctedError kind n addr sym pat =
    if e.health.written.contains (addr, sym) = true then e.hardFault kind n addr sym pat
    else e.setHealth fun h => { h with written := h.written.filter fun x => x.1 != addr } := by
  subst made
  unfold Dev.correctedError
  extract_lets ws first noted rest w
  have no : ¬(kind = UKind.page ∧ ¬(cePages rest).contains n = true) := fun h => plain h.1
  rw [if_neg no]
  rfl

/-- What the entry of a corrected word shows. -/
theorem Dev.wordNoted_shows (made : e = d.wordNoted kind n addr sym pat) : d.WordKept e kind n addr ∧ e.health.written = d.health.written ∧
    d.Keeps e [.od, .health] ∧ d.KeepsRegs e errRegs ∧
    (d.ceWords.any (fun w => w.addr == addr) = true → e.health.log = d.health.log ∧ d.KeepsRegs e []) ∧
    (d.ceWords.any (fun w => w.addr == addr) = false → e.reg Reg.R7020_NEXT_SEQ = (odType Reg.R7020_NEXT_SEQ).wrap (d.reg Reg.R7020_NEXT_SEQ + 1)) := by
  obtain ⟨f, logged⟩ : ∃ f, f = d.when (!(d.ceWords.any fun w => w.addr == addr)) fun d => d.errLog 0 kind ErrClass.corrected n (sym + 256 * pat) addr 0 :=
    ⟨_, rfl⟩
  have shows : e.health.words = (d.ceWords.filter fun w => w.addr != addr) ++ [{ addr, kind, unit := n, raw := f.rawNow, cycle := f.cycle }] ∧
      e.health = { f.health with words := e.health.words } ∧ (∀ k, e.reg k = f.reg k) ∧ f.Keeps e [.health] := by
    rw [made, logged]
    exact ⟨rfl, rfl, fun _ => rfl, Dev.keeps_setHealth _ _⟩
  obtain ⟨words, health, regs, keepsE⟩ := shows
  have notes : d.ErrNotes f ∧ (d.ceWords.any (fun w => w.addr == addr) = true → f = d) ∧
      (d.ceWords.any (fun w => w.addr == addr) = false → f.reg Reg.R7020_NEXT_SEQ = (odType Reg.R7020_NEXT_SEQ).wrap (d.reg Reg.R7020_NEXT_SEQ + 1)) := by
    cases known : d.ceWords.any fun w => w.addr == addr with
    | true =>
      have same : f = d := by rw [logged, known]; rfl
      exact ⟨same ▸ Dev.ErrNotes.refl d, fun _ => same, fun no => absurd no (by decide)⟩
    | false =>
      have eq : f = d.errLog 0 kind ErrClass.corrected n (sym + 256 * pat) addr 0 := by rw [logged, known]; rfl
      obtain ⟨notes, seq⟩ := d.errLog_notes _ _ _ _ _ _ _ eq
      exact ⟨notes, fun no => absurd no (by decide), fun _ => seq⟩
  obtain ⟨notes, known, first⟩ := notes
  obtain ⟨l, hl⟩ := notes.health
  have now : f.rawNow = d.rawNow := notes.keeps.rawNow
  refine ⟨⟨⟨{ addr, kind, unit := n, raw := f.rawNow, cycle := f.cycle }, ?_, rfl, rfl, rfl, now⟩, fun w other => ?_, ?_⟩, ?_, (notes.keeps.mono (by decide)).step keepsE, fun k hk => (regs k).trans (notes.regs k hk),
    fun yes => ⟨?_, fun k _ => ?_⟩, fun no => (regs _).trans (first no)⟩
  · rw [words]
    exact List.mem_append_right _ List.mem_cons_self
  · rw [words, List.mem_append, List.mem_filter, List.mem_singleton]
    constructor
    · rintro (⟨mem, -⟩ | rfl)
      · exact mem
      · exact absurd rfl other
    · exact fun mem => .inl ⟨mem, by simpa using other⟩
  · rw [health, hl]
  · rw [health, hl]
  · rw [health, known yes]
  · rw [regs, known yes]

end

section
variable {s : State} (live : s.Live) {kind n addr sym pat : Nat} (plain : kind ≠ UKind.page)
include live plain

omit live in
/-- A word that was not written back is only counted. -/
theorem Dev.correctedError_counts {d : Dev} (fresh : d.health.written.contains (addr, sym) = false) {e : Dev}
    (made : e = d.correctedError kind n addr sym pat) : d.WordKept e kind n addr ∧ e.health.written = d.health.written.filter (fun x => x.1 != addr) ∧
      d.Keeps e [.od, .health] ∧
      (d.ceWords.any (fun w => w.addr == addr) = true → e.health.log = d.health.log ∧ d.KeepsRegs e []) ∧
      (d.ceWords.any (fun w => w.addr == addr) = false →
        e.reg Reg.R7020_NEXT_SEQ = (odType Reg.R7020_NEXT_SEQ).wrap (d.reg Reg.R7020_NEXT_SEQ + 1) ∧ d.KeepsRegs e errRegs) := by
  obtain ⟨f, noted⟩ : ∃ f, f = d.wordNoted kind n addr sym pat := ⟨_, rfl⟩
  obtain ⟨kept, written, keeps, errs, known, first⟩ := Dev.wordNoted_shows noted
  have eq : e = f.setHealth fun h => { h with written := h.written.filter fun x => x.1 != addr } := by
    rw [made, Dev.correctedError_eq plain noted]
    exact if_neg (by rw [written, fresh]; decide)
  have shows : e.health = { f.health with written := f.health.written.filter fun x => x.1 != addr } ∧ (∀ k, e.reg k = f.reg k) ∧ f.Keeps e [.health] := by
    rw [eq]
    exact ⟨rfl, fun _ => rfl, Dev.keeps_setHealth _ _⟩
  obtain ⟨health, regs, keepsE⟩ := shows
  refine ⟨kept.congr (by rw [health]) (by rw [health]), by rw [health, written], keeps.step keepsE, fun yes => ?_, fun no => ⟨?_, fun k hk => ?_⟩⟩
  · obtain ⟨log, same⟩ := known yes
    exact ⟨by rw [health, log], fun k hk => (regs k).trans (same k hk)⟩
  · exact (regs _).trans (first no)
  · exact (regs k).trans (errs k hk)

theorem corrected_counted (fresh : s.found.health.written.contains (addr, sym) = false) : Does (.correctedError kind n addr sym pat) s fun b a =>
    b.WordKept a kind n addr ∧ a.log = b.log ∧
    (s.found.ceWords.any (fun w => w.addr == addr) = true → a.health.log = b.health.log ∧ b.KeepsRegs a []) ∧
    (s.found.ceWords.any (fun w => w.addr == addr) = false →
      a.reg Reg.R7020_NEXT_SEQ = (odType Reg.R7020_NEXT_SEQ).wrap (b.reg Reg.R7020_NEXT_SEQ + 1) ∧ b.KeepsRegs a errRegs) := by
  obtain ⟨e, made⟩ : ∃ e, e = s.found.correctedError kind n addr sym pat := ⟨_, rfl⟩
  obtain ⟨kept, -, keeps, known, first⟩ := Dev.correctedError_counts plain fresh made
  have leaves : Leaves (.correctedError kind n addr sym pat) s e :=
    .dry (guard := Dev.live) (fun d => d.correctedError kind n addr sym pat) live.passes made.symm keeps
  exact leaves.quietly (keeps .event (by decide)) ⟨kept, keeps .log (by decide), known, first⟩

/-- A word that was written back and errs in the same symbol again is a hard fault. -/
theorem corrected_hard (again : s.found.health.written.contains (addr, sym) = true) : Does (.correctedError kind n addr sym pat) s fun b a =>
    b.WordKept a kind n addr ∧ (kind, n, 2 ^ 31) ∈ a.health.due ∧ a.LastRaised Code.HARD_FAULT Kind.other 0 := by
  obtain ⟨f, noted⟩ : ∃ f, f = s.found.wordNoted kind n addr sym pat := ⟨_, rfl⟩
  obtain ⟨kept, written, keeps, -, -, -⟩ := Dev.wordNoted_shows noted
  obtain ⟨g, logged⟩ : ∃ g, g = f.errLog Code.HARD_FAULT kind ErrClass.hard n (sym + 256 * pat) addr 0 := ⟨_, rfl⟩
  obtain ⟨notes, -⟩ := f.errLog_notes _ _ _ _ _ _ _ logged
  obtain ⟨l, hl⟩ := notes.health
  obtain ⟨r, raised⟩ : ∃ r, r = g.raise Code.HARD_FAULT Kind.other 0 0 addr := ⟨_, rfl⟩
  obtain ⟨e, made⟩ : ∃ e, e = r.setHealth fun h =>
    { h with written := h.written.filter (fun x => x.1 != addr), due := h.due ++ [(kind, n, 2 ^ 31)] } := ⟨_, rfl⟩
  have result : s.found.correctedError kind n addr sym pat = e := by
    rw [made, raised, logged, Dev.correctedError_eq plain noted]
    exact if_pos (by rw [written, again])
  have keepsR : g.Keeps r [.od, .log, .event] := by rw [raised]; exact Dev.keeps_raise _ _ _ _ _ _
  have healthR : r.health = { f.health with log := l } := (keepsR .health (by decide)).trans hl
  have healthE : e.health = { r.health with written := r.health.written.filter (fun x => x.1 != addr), due := r.health.due ++ [(kind, n, 2 ^ 31)] } := by
    rw [made]
    rfl
  have keepsE : r.Keeps e [.health] := by rw [made]; exact Dev.keeps_setHealth _ _
  have all : s.found.Keeps e [.od, .health, .log, .event] :=
    (((keeps.mono (by decide)).step notes.keeps).step keepsR).step keepsE
  have leaves : Leaves (.correctedError kind n addr sym pat) s e :=
    .dry (guard := Dev.live) (fun d => d.correctedError kind n addr sym pat) live.passes result all
  have last : r.LastRaised Code.HARD_FAULT Kind.other 0 := by rw [raised]; exact g.lastRaised_raise _ _ _ _ _
  refine leaves.does fun pend vecs => ⟨kept.congr (f := e.told pend vecs) ?_ ?_, ?_, (last.of_keeps keepsE).told _ _⟩
  · change e.health.words = _
    rw [healthE, healthR]
  · change e.health.poisoned = _
    rw [healthE, healthR]
  · change _ ∈ e.health.due
    rw [healthE]
    exact List.mem_append_right _ List.mem_cons_self

/-! ## Scrubbing -/

omit plain in
theorem scrub_good (raced : Bool) : Does (.scrubRead kind n addr 0 pat raced) s fun b a =>
    a.health.written = b.health.written.filter (fun x => x.1 != addr) ∧ b.Keeps a [.health] := by
  have keeps := s.found.keeps_setHealth fun h => { h with written := h.written.filter fun x => x.1 != addr }
  have leaves : Leaves (.scrubRead kind n addr 0 pat raced) s _ :=
    .dry (guard := Dev.live) (fun d => d.scrubRead kind n addr 0 pat raced) live.passes (if_pos rfl) keeps
  exact leaves.quietly rfl ⟨rfl, keeps⟩

theorem scrub_erring (fresh : s.found.health.written.contains (addr, sym) = false) :
    Does (.scrubRead kind n addr (sym + 1) pat false) s (fun b a => b.WordKept a kind n addr ∧ (addr, sym) ∈ a.health.written) ∧
    Does (.scrubRead kind n addr (sym + 1) pat true) s (fun b a => b.WordKept a kind n addr ∧ (addr, sym) ∉ a.health.written) := by
  obtain ⟨e, made⟩ : ∃ e, e = s.found.correctedError kind n addr sym pat := ⟨_, rfl⟩
  obtain ⟨kept, written, keeps, -, -⟩ := Dev.correctedError_counts plain fresh made
  have read : ∀ raced, s.found.scrubRead kind n addr (sym + 1) pat raced =
      e.when (!raced && !false) fun d => d.setHealth fun h => { h with written := h.written ++ [(addr, sym)] } := fun raced => by
    unfold Dev.scrubRead
    rw [if_neg (by omega)]
    extract_lets hard d1
    have not_ : hard = false := fresh
    have same : d1 = e := made.symm
    rw [not_, same]
    rfl
  constructor
  · obtain ⟨f, back⟩ : ∃ f, f = e.setHealth fun h => { h with written := h.written ++ [(addr, sym)] } := ⟨_, rfl⟩
    have health : f.health = { e.health with written := e.health.written ++ [(addr, sym)] } := by rw [back]; rfl
    have keepsF : e.Keeps f [.health] := by rw [back]; exact Dev.keeps_setHealth _ _
    have leaves : Leaves (.scrubRead kind n addr (sym + 1) pat false) s f :=
      .dry (guard := Dev.live) (fun d => d.scrubRead kind n addr (sym + 1) pat false) live.passes ((read false).trans back.symm) (keeps.step keepsF)
    refine leaves.quietly ((keeps.step keepsF) .event (by decide)) ⟨kept.congr (by rw [health]) (by rw [health]), ?_⟩
    rw [health]
    exact List.mem_append_right _ List.mem_cons_self
  · have leaves : Leaves (.scrubRead kind n addr (sym + 1) pat true) s e :=
      .dry (guard := Dev.live) (fun d => d.scrubRead kind n addr (sym + 1) pat true) live.passes (read true) keeps
    refine leaves.quietly (keeps .event (by decide)) ⟨kept, ?_⟩
    rw [written, List.mem_filter]
    simp

end

/-! ## Uncorrectable words -/

theorem Dev.keeps_setFlash (d : Dev) (f : Flash → Flash) : d.Keeps (d.setFlash f) [.flash] := by
  intro p hp
  cases p with
  | flash => simp at hp
  | _ => rfl

/-- A spare marked by an error in it changes flash, the work in progress and the error log alone. -/
theorem Dev.spareFails_shows (d : Dev) (kind n : Nat) {e : Dev} (made : e = d.spareFails kind n) :
    d.Keeps e [.od, .flash, .health] ∧ e.health.poisoned = d.health.poisoned := by
  by_cases copying : (d.health.work.any fun w => w.kind == kind && w.spare == n) = true
  · obtain ⟨f, marked⟩ : ∃ f, f = (d.setFlash fun fl => { fl with retired := fl.retired ++ [(kind, n, true)] }).setHealth fun h =>
        { h with work := h.work.filter fun w => !(w.kind == kind && w.spare == n) } := ⟨_, rfl⟩
    have eq : e = f.errLog Code.UNCORRECTABLE_ERROR kind ErrClass.decision n 0xFFFF 0 0 := by
      rw [made, marked]
      exact if_pos copying
    obtain ⟨notes, -⟩ := f.errLog_notes _ _ _ _ _ _ _ eq
    obtain ⟨l, hl⟩ := notes.health
    have keepsF : d.Keeps f [.od, .flash, .health] := by
      rw [marked]
      exact ((d.keeps_setFlash _).mono (by decide)).step (Dev.keeps_setHealth _ _)
    have poisonedF : f.health.poisoned = d.health.poisoned := by rw [marked]; rfl
    exact ⟨keepsF.step notes.keeps, by rw [hl, ← poisonedF]⟩
  · have eq : e = d := by
      rw [made]
      exact if_neg copying
    rw [eq]
    exact ⟨.refl _ _, rfl⟩

theorem mem_once {α : Type} [BEq α] [LawfulBEq α] (l : List α) (w x : α) : x ∈ (if l.contains w = true then l else l ++ [w]) ↔ x = w ∨ x ∈ l := by
  split_ifs with held
  · have mem : w ∈ l := by simpa using held
    constructor
    · exact .inr
    · rintro (rfl | h)
      · exact mem
      · exact h
  · rw [List.mem_append, List.mem_singleton, or_comm]

/-- What poisoning a word leaves. -/
theorem Dev.poison_shows (d : Dev) (w : Nat) {e : Dev} (made : e = d.poison w) : d.Keeps e [.aes, .health] ∧
    (aeCell w = none → e.aes = d.aes ∧ ∀ x, x ∈ e.health.poisoned ↔ x = w ∨ x ∈ d.health.poisoned) ∧
    ∀ f sub o, aeCell w = some (f, sub, o) → w % 0x800000 ∈ (e.ae f).bad ∧ e.health.poisoned = d.health.poisoned ∧ ∀ g, g ≠ f → e.ae g = d.ae g := by
  unfold Dev.poison at made
  cases cell : aeCell w with
  | none =>
    rw [cell] at made
    dsimp only at made
    have health : e.health.poisoned = if d.health.poisoned.contains w then d.health.poisoned else d.health.poisoned ++ [w] := by rw [made]; rfl
    have keeps : d.Keeps e [.health] := by rw [made]; exact d.keeps_setHealth _
    refine ⟨keeps.mono (by decide), fun _ => ⟨keeps .aes (by decide), fun x => ?_⟩, fun f sub o no => absurd no (by simp)⟩
    rw [health]
    exact mem_once _ _ _
  | some x =>
    obtain ⟨f, sub, o⟩ := x
    rw [cell] at made
    dsimp only at made
    have keeps : d.Keeps e [.aes] := by rw [made]; exact d.keeps_setAe _ _
    have health : e.health = d.health := keeps .health (by decide)
    refine ⟨keeps.mono (by decide), fun no => absurd no (by simp), fun f' sub' o' same => ?_⟩
    obtain ⟨rfl, -⟩ : f = f' ∧ _ := by simpa using same
    refine ⟨?_, by rw [health], fun g other => ?_⟩
    · rw [made, Dev.ae_setAe]
      exact (mem_once _ _ _).2 (.inl rfl)
    · rw [made]
      exact mget_mset_other _ _ _ _ other

section
variable {s : State} (live : s.Live) {kind n addr : Nat}
include live

theorem uncorrectable_stays (e : Nat) (c : HartContext) : Does (.uncorrectableError kind n addr 0 e c) s fun b a =>
    a.LastRaised Code.UNCORRECTABLE_ERROR Kind.other 0 ∧ a.sett = b.sett ∧ a.mem = b.mem ∧
    (aeCell (addr / 8 * 8) = none → a.aes = b.aes ∧ ∀ x, x ∈ a.health.poisoned ↔ x = addr / 8 * 8 ∨ x ∈ b.health.poisoned) ∧
    ∀ f sub o, aeCell (addr / 8 * 8) = some (f, sub, o) → (a.ae f).poisoned (addr / 8 * 8 % 0x800000) = true ∧
      a.health.poisoned = b.health.poisoned ∧ ∀ g, g ≠ f → a.ae g = b.ae g := by
  obtain ⟨w, word⟩ : ∃ w, w = addr / 8 * 8 := ⟨_, rfl⟩
  rw [← word]
  obtain ⟨f, logged⟩ : ∃ f, f = s.found.errLog Code.UNCORRECTABLE_ERROR kind ErrClass.uncorrectable n 0xFFFF addr 0 := ⟨_, rfl⟩
  obtain ⟨r, raised⟩ : ∃ r, r = f.raise Code.UNCORRECTABLE_ERROR Kind.other 0 0 addr := ⟨_, rfl⟩
  obtain ⟨p, poisoned⟩ : ∃ p, p = r.poison w := ⟨_, rfl⟩
  obtain ⟨x, made⟩ : ∃ x, x = p.spareFails kind n := ⟨_, rfl⟩
  have result : s.found.uncorrectable kind n addr 0 e c = x := by
    rw [made, poisoned, raised, logged, word]
    rfl
  obtain ⟨notes, -⟩ := s.found.errLog_notes _ _ _ _ _ _ _ logged
  obtain ⟨l, hl⟩ := notes.health
  have keepsR : f.Keeps r [.od, .log, .event] := by rw [raised]; exact Dev.keeps_raise _ _ _ _ _ _
  obtain ⟨keepsP, memory, engine⟩ := r.poison_shows w poisoned
  obtain ⟨keepsX, same⟩ := p.spareFails_shows kind n made
  have before : s.found.Keeps r [.od, .health, .log, .event] := (notes.keeps.mono (by decide)).step keepsR
  have healthR : r.health.poisoned = s.found.health.poisoned := by
    rw [show r.health = f.health from keepsR .health (by decide), hl]
  have all : s.found.Keeps x [.od, .health, .log, .event, .aes, .flash] :=
    ((before.mono (m := [.od, .health, .log, .event, .aes, .flash]) (by decide)).step keepsP).step keepsX
  have leaves : Leaves (.uncorrectableError kind n addr 0 e c) s x :=
    .full (guard := Dev.live) (fun d => d.uncorrectable kind n addr 0 e c) live.passes result all
  have last : r.LastRaised Code.UNCORRECTABLE_ERROR Kind.other 0 := by rw [raised]; exact f.lastRaised_raise _ _ _ _ _
  have aes : x.aes = p.aes := keepsX .aes (by decide)
  have ae : ∀ g, x.ae g = p.ae g := fun g => by rw [Dev.ae, Dev.ae, aes]
  have aeR : ∀ g, r.ae g = s.found.ae g := fun g => by rw [Dev.ae, Dev.ae, show r.aes = s.found.aes from before .aes (by decide)]
  refine leaves.does fun pend vecs => ⟨((last.of_keeps keepsP).of_keeps keepsX).told _ _, all .sett (by decide), all .mem (by decide), fun none_ => ?_,
    fun g sub o cell => ?_⟩
  · obtain ⟨engines, words⟩ := memory none_
    refine ⟨(aes.trans engines).trans (before .aes (by decide)), fun y => ?_⟩
    change y ∈ x.health.poisoned ↔ _
    rw [same, words, healthR]
  · obtain ⟨bad, words, others⟩ := engine g sub o cell
    refine ⟨?_, (same.trans words).trans healthR, fun h other => ?_⟩
    · change (x.ae g).poisoned _ = true
      have whole : w % 0x800000 / 8 * 8 = w % 0x800000 := by omega
      rw [ae, Ae.poisoned, whole]
      simpa using bad
    · change x.ae h = _
      rw [ae, others h other, aeR]

/-! ## Sensors -/

end

theorem coreSensor_apart {n : Nat} (hn : n < 26) : unitKind n = (UKind.core, n) ∧ hasSensor n 0 = true ∧
    (∀ k ∈ [Reg.R7080_AGE_LAST n, Reg.R7080_AGE_WORST n], k ∉ logRegs ∧ k ∉ errRegs ∧ k ≠ Reg.R7080_STATE n) ∧
    (∀ k ∈ [Reg.R7000_AGE_WARN_PPM, Reg.R7000_AGE_RETIRE_PPM], k ≠ Reg.R7080_AGE_LAST n ∧ k ≠ Reg.R7080_AGE_WORST n) := by
  revert n
  decide +kernel

/-- The state of a unit shown changes nothing else. -/
theorem Dev.showUnit_shows (d : Dev) (u : Nat) {e : Dev} (made : e = d.showUnit u) : d.Keeps e [.od] ∧ d.KeepsRegs e [Reg.R7080_STATE u] := by
  rw [made]
  exact ⟨Dev.keeps_set _ _ _, fun k hk => Dev.reg_set_other _ _ (by simpa using hk)⟩

/-- An episode begins with a reading beyond the threshold where none runs. -/
theorem WarnEp.step_begins (x : WarnEp) (beyond : Bool) : (x.step beyond).1 = (!x.on && beyond) ∧
    (x.on = false → beyond = true → (x.step beyond).2.on = true) := by
  obtain ⟨seen, on, back⟩ := x
  unfold WarnEp.step
  cases on with
  | false => exact ⟨rfl, fun _ yes => yes⟩
  | true =>
    refine ⟨?_, fun no => absurd (show true = false from no) (by decide)⟩
    rw [if_pos rfl]
    split_ifs <;> rfl

/-- An ageing reading of a core, stage by stage: shown, judged against the warning, judged against the retirement. -/
def Dev.ageingRead (d : Dev) (n : Nat) (v : Int) : Dev :=
  let ep := mget ({} : WarnEp) d.health.warn (256 * n)
  (d.set (Reg.R7080_AGE_LAST n) v).set (Reg.R7080_AGE_WORST n) (if ep.seen = true then max (d.reg (Reg.R7080_AGE_WORST n)) v else v)

def Dev.ageingWarned (d : Dev) (n : Nat) (v : Int) : Dev :=
  let st := (mget ({} : WarnEp) d.health.warn (256 * n)).step (excessOf true v (d.reg Reg.R7000_AGE_WARN_PPM)).isSome
  let e := d.setHealth fun h => { h with warn := mset {} h.warn (256 * n) st.2 }
  e.when st.1 fun d => (d.errLog Code.AGEING_HIGH UKind.core ErrClass.warning n 0xFFFF 0 v).raise Code.AGEING_HIGH Kind.unit n 0 (toU 64 v)

def Dev.ageingDue (d : Dev) (n : Nat) (v : Int) : Dev :=
  match excessOf true v (d.reg Reg.R7000_AGE_RETIRE_PPM) with
  | some x => d.noteDue UKind.core n x
  | none => d

theorem Dev.sensorReading_ageing (d : Dev) {n : Nat} (hn : n < 26) (v : Int) :
    d.sensorReading Sensor.ageing n v = (((d.ageingRead n v).ageingWarned n v).ageingDue n v).showUnit n := by
  obtain ⟨kind, has, -⟩ := coreSensor_apart hn
  unfold Dev.sensorReading Dev.unitReading
  rw [if_pos (by decide), if_pos has, kind]
  rfl

theorem excessOf_high (v limit : Int) : excessOf true v limit = if limit ≤ v then some (v - limit) else none := rfl

section
variable {d e : Dev} {n : Nat} {v : Int}

theorem Dev.ageingRead_shows (made : e = d.ageingRead n v) : d.Keeps e [.od] ∧
    d.KeepsRegs e [Reg.R7080_AGE_LAST n, Reg.R7080_AGE_WORST n] ∧
    e.reg (Reg.R7080_AGE_LAST n) = (odType (Reg.R7080_AGE_LAST n)).wrap v ∧
    e.reg (Reg.R7080_AGE_WORST n) = (odType (Reg.R7080_AGE_WORST n)).wrap
      (if (mget ({} : WarnEp) d.health.warn (256 * n)).seen = true then max (d.reg (Reg.R7080_AGE_WORST n)) v else v) := by
  have apart : Reg.R7080_AGE_LAST n ≠ Reg.R7080_AGE_WORST n := by simp only [Reg.R7080_AGE_LAST, Reg.R7080_AGE_WORST, Reg.key]; omega
  rw [made]
  unfold Dev.ageingRead
  dsimp only
  refine ⟨((Dev.Keeps.refl _ _).set _ _).set _ _, fun k hk => ?_, ?_, Dev.reg_set_same _ _ _⟩
  · obtain ⟨last, worst⟩ : k ≠ _ ∧ k ≠ _ := by simpa using hk
    rw [Dev.reg_set_other _ _ worst, Dev.reg_set_other _ _ last]
  · rw [Dev.reg_set_other _ _ apart, Dev.reg_set_same]

theorem Dev.ageingWarned_shows (made : e = d.ageingWarned n v) :
    let ep := mget ({} : WarnEp) d.health.warn (256 * n)
    let hot := d.reg Reg.R7000_AGE_WARN_PPM ≤ v
    d.Keeps e [.od, .health, .log, .event] ∧ d.KeepsRegs e (errRegs ++ logRegs) ∧ e.health.due = d.health.due ∧
    (ep.on = false → hot → e.LastRaised Code.AGEING_HIGH Kind.unit n ∧ (mget ({} : WarnEp) e.health.warn (256 * n)).on = true) ∧
    (¬(ep.on = false ∧ hot) → e.log = d.log ∧ e.health.log = d.health.log) := by
  intro ep hot
  obtain ⟨st, stepped⟩ : ∃ st, st = ep.step (excessOf true v (d.reg Reg.R7000_AGE_WARN_PPM)).isSome := ⟨_, rfl⟩
  obtain ⟨f, marked⟩ : ∃ f, f = d.setHealth fun h => { h with warn := mset {} h.warn (256 * n) st.2 } := ⟨_, rfl⟩
  have eq : e = f.when st.1 fun d =>
      (d.errLog Code.AGEING_HIGH UKind.core ErrClass.warning n 0xFFFF 0 v).raise Code.AGEING_HIGH Kind.unit n 0 (toU 64 v) := by
    rw [made, marked, stepped]
    rfl
  have beyond : (excessOf true v (d.reg Reg.R7000_AGE_WARN_PPM)).isSome = decide hot := by
    rw [excessOf_high]
    by_cases h : hot
    · rw [if_pos h, decide_eq_true h]; rfl
    · rw [if_neg h, decide_eq_false h]; rfl
  rw [beyond] at stepped
  obtain ⟨begins, on⟩ := ep.step_begins (decide hot)
  rw [← stepped] at begins on
  have keepsF : d.Keeps f [.health] := by rw [marked]; exact Dev.keeps_setHealth _ _
  have healthF : f.health = { d.health with warn := mset {} d.health.warn (256 * n) st.2 } := by rw [marked]; rfl
  have regF : ∀ k, f.reg k = d.reg k := fun k => Dev.reg_congr (keepsF .od (by decide)) k
  cases yes : st.1 with
  | true =>
    obtain ⟨g, logged⟩ : ∃ g, g = f.errLog Code.AGEING_HIGH UKind.core ErrClass.warning n 0xFFFF 0 v := ⟨_, rfl⟩
    have raised : e = g.raise Code.AGEING_HIGH Kind.unit n 0 (toU 64 v) := by rw [eq, yes, logged]; rfl
    obtain ⟨notes, -⟩ := f.errLog_notes _ _ _ _ _ _ _ logged
    obtain ⟨l, hl⟩ := notes.health
    have keepsE : g.Keeps e [.od, .log, .event] := by rw [raised]; exact Dev.keeps_raise _ _ _ _ _ _
    have healthE : e.health = { f.health with log := l } := (keepsE .health (by decide)).trans hl
    obtain ⟨off, warm⟩ : ep.on = false ∧ hot := by simpa using begins.symm.trans yes
    refine ⟨((keepsF.mono (by decide)).step notes.keeps).step keepsE, fun k hk => ?_, ?_, fun _ _ => ⟨?_, ?_⟩, fun no => absurd ⟨off, warm⟩ no⟩
    · obtain ⟨err, log⟩ := not_or.1 fun h => hk (List.mem_append.2 h)
      rw [raised, Dev.reg_raise _ _ _ _ _ _ log, notes.regs k err, regF]
    · rw [healthE, healthF]
    · rw [raised]
      exact g.lastRaised_raise _ _ _ _ _
    · rw [healthE, healthF]
      change (mget _ (mset {} d.health.warn (256 * n) st.2) (256 * n)).on = true
      rw [mget_mset_same]
      exact on off (decide_eq_true warm)
  | false =>
    have same : e = f := by rw [eq, yes]; rfl
    have not_ : ¬(ep.on = false ∧ hot) := fun h => by
      rw [begins, h.1, decide_eq_true h.2] at yes
      exact absurd yes (by decide)
    rw [same]
    exact ⟨keepsF.mono (by decide), fun k _ => regF k, by rw [healthF], fun off warm => absurd ⟨off, warm⟩ not_,
      fun _ => ⟨keepsF .log (by decide), by rw [healthF]⟩⟩

theorem le_foldl_max (l : List Int) (x : Int) : x ≤ l.foldl max x := by
  induction l generalizing x with
  | nil => exact le_refl x
  | cons y ys ih => exact (le_max_left x y).trans (ih (max x y))

theorem Dev.ageingDue_shows (made : e = d.ageingDue n v) : d.Keeps e [.health] ∧ e.health.log = d.health.log ∧ e.health.warn = d.health.warn ∧
    (d.reg Reg.R7000_AGE_RETIRE_PPM ≤ v → ∃ x, (UKind.core, n, x) ∈ e.health.due ∧ v - d.reg Reg.R7000_AGE_RETIRE_PPM ≤ x) ∧
    (v < d.reg Reg.R7000_AGE_RETIRE_PPM → e.health.due = d.health.due) := by
  unfold Dev.ageingDue at made
  rw [excessOf_high] at made
  by_cases worn : d.reg Reg.R7000_AGE_RETIRE_PPM ≤ v
  · rw [if_pos worn] at made
    dsimp only at made
    rw [made]
    exact ⟨Dev.keeps_setHealth _ _, rfl, rfl, fun _ => ⟨_, List.mem_append_right _ List.mem_cons_self, le_foldl_max _ _⟩,
      fun no => absurd worn (not_le.2 no)⟩
  · rw [if_neg worn] at made
    dsimp only at made
    rw [made]
    exact ⟨.refl _ _, rfl, rfl, fun yes => absurd yes worn, fun _ => rfl⟩

end

theorem sensor_ageing {s : State} (live : s.Live) {n : Nat} (hn : n < 26) (v : Int) :
    let ep := mget ({} : WarnEp) s.found.health.warn (256 * n)
    let hot := s.found.reg Reg.R7000_AGE_WARN_PPM ≤ v
    let worst := if ep.seen = true then max (s.found.reg (Reg.R7080_AGE_WORST n)) v else v
    Does (.sensorReading Sensor.ageing n v) s fun b a =>
      a.reg (Reg.R7080_AGE_LAST n) = (odType (Reg.R7080_AGE_LAST n)).wrap v ∧
      a.reg (Reg.R7080_AGE_WORST n) = (odType (Reg.R7080_AGE_WORST n)).wrap worst ∧
      (ep.on = false → hot → a.LastRaised Code.AGEING_HIGH Kind.unit n ∧ (mget ({} : WarnEp) a.health.warn (256 * n)).on = true) ∧
      (¬(ep.on = false ∧ hot) → a.log = b.log ∧ a.health.log = b.health.log) ∧
      (s.found.reg Reg.R7000_AGE_RETIRE_PPM ≤ v → ∃ x, (UKind.core, n, x) ∈ a.health.due ∧ v - s.found.reg Reg.R7000_AGE_RETIRE_PPM ≤ x) ∧
      (v < s.found.reg Reg.R7000_AGE_RETIRE_PPM → a.health.due = b.health.due) ∧
      (∀ u, u ≠ n → a.reg (Reg.R7080_AGE_LAST u) = b.reg (Reg.R7080_AGE_LAST u)) := by
  intro ep hot worst
  obtain ⟨-, -, shown, thresholds⟩ := coreSensor_apart hn
  obtain ⟨f, readF⟩ : ∃ f, f = s.found.ageingRead n v := ⟨_, rfl⟩
  obtain ⟨g, warned⟩ : ∃ g, g = f.ageingWarned n v := ⟨_, rfl⟩
  obtain ⟨h, noted⟩ : ∃ h, h = g.ageingDue n v := ⟨_, rfl⟩
  obtain ⟨e, made⟩ : ∃ e, e = h.showUnit n := ⟨_, rfl⟩
  have result : s.found.sensorReading Sensor.ageing n v = e := by rw [made, noted, warned, readF, s.found.sensorReading_ageing hn]
  obtain ⟨keepsF, regF, last, worst'⟩ := Dev.ageingRead_shows readF
  obtain ⟨keepsG, regG, dueG, begins, quiet⟩ := Dev.ageingWarned_shows warned
  obtain ⟨keepsH, logH, warnH, worn, fine⟩ := Dev.ageingDue_shows noted
  obtain ⟨keepsE, regE⟩ := h.showUnit_shows n made
  have healthF : f.health = s.found.health := keepsF .health (by decide)
  have healthE : e.health = h.health := keepsE .health (by decide)
  have regH : ∀ k, h.reg k = g.reg k := fun k => Dev.reg_congr (keepsH .od (by decide)) k
  have threshold : ∀ k ∈ [Reg.R7000_AGE_WARN_PPM, Reg.R7000_AGE_RETIRE_PPM], f.reg k = s.found.reg k := fun k hk => by
    obtain ⟨a, b⟩ := thresholds k hk
    exact regF k (by simp [a, b])
  have warnF := threshold _ (List.mem_cons_self)
  have retireG : g.reg Reg.R7000_AGE_RETIRE_PPM = s.found.reg Reg.R7000_AGE_RETIRE_PPM :=
    (regG _ (by decide)).trans (threshold _ (by simp))
  rw [healthF, warnF] at begins quiet
  rw [healthF] at dueG
  rw [retireG] at worn fine
  have all : s.found.Keeps e [.od, .health, .log, .event] :=
    (((keepsF.mono (by decide)).step keepsG).step keepsH).step keepsE
  have leaves : Leaves (.sensorReading Sensor.ageing n v) s e :=
    .dry (guard := Dev.live) (fun d => d.sensorReading Sensor.ageing n v) live.passes result all
  have own : ∀ k ∈ [Reg.R7080_AGE_LAST n, Reg.R7080_AGE_WORST n], e.reg k = f.reg k := fun k hk => by
    obtain ⟨log, err, state⟩ := shown k hk
    rw [regE k (by simpa using state), regH, regG k (by simp only [List.mem_append, not_or]; exact ⟨err, log⟩)]
  refine leaves.does fun pend vecs => ⟨?_, ?_, fun off warm => ⟨?_, ?_⟩, fun no => ⟨?_, ?_⟩, fun yes => ?_, fun no => ?_, fun u other => ?_⟩
  · rw [Dev.reg_told, own _ (by simp), last]
  · rw [Dev.reg_told, own _ (by simp), worst']
  · exact (((begins off warm).1.of_keeps keepsH).of_keeps keepsE).told _ _
  · change (mget _ e.health.warn _).on = true
    rw [healthE, warnH]
    exact (begins off warm).2
  · exact (keepsE .log (by decide)).trans ((keepsH .log (by decide)).trans ((quiet no).1.trans (keepsF .log (by decide))))
  · change e.health.log = _
    rw [healthE, logH, (quiet no).2]
  · change ∃ x, _ ∈ e.health.due ∧ _
    rw [healthE]
    exact worn yes
  · change e.health.due = _
    rw [healthE, fine no, dueG]
  · have low : ∀ k ∈ errRegs ++ logRegs, k < 0x708000 := by decide
    have place : Reg.R7080_AGE_LAST u = 0x708001 + 256 * u := by simp only [Reg.R7080_AGE_LAST, Reg.key]; omega
    have apart : Reg.R7080_AGE_LAST u ∉ errRegs ++ logRegs := fun mem => by
      have := low _ mem
      omega
    rw [Dev.reg_told, regE _ (by simp only [List.mem_singleton, Reg.R7080_AGE_LAST, Reg.R7080_STATE, Reg.key]; omega), regH, regG _ apart,
      regF _ (by simp only [List.mem_cons, List.not_mem_nil, or_false, Reg.R7080_AGE_LAST, Reg.R7080_AGE_WORST, Reg.key]; omega)]

end Sys2Proof.Machine
end

section
/-! # Retirement into spares (R512 to R516) -/

namespace Sys2Proof.Machine

/-! ## RETIRE -/

section
variable {s : State}

theorem retire_asked (up : s.Up) {v : Nat} (small : v < 2 ^ 32) (listed : v / 2 ^ 24 ≤ 5) (spares : sparesFor (v / 2 ^ 24) (v % 2 ^ 24) ≠ []) :
    Does (.retire v) s fun b a => a.done = Code.STATUS_OK ∧
      (∀ x, x ∈ a.health.asked ↔ x = (v / 2 ^ 24, v % 2 ^ 24) ∨ x ∈ b.health.asked) ∧ b.Keeps a [.health, .done] := by
  have kind : v / 2 ^ 24 % 256 = v / 2 ^ 24 := by omega
  obtain ⟨e, made⟩ : ∃ e, e = s.found.setHealth fun h =>
      { h with asked := if h.asked.contains (v / 2 ^ 24, v % 2 ^ 24) then h.asked else h.asked ++ [(v / 2 ^ 24, v % 2 ^ 24)] } := ⟨_, rfl⟩
  have result : s.found.retireWrite v = e.finish Code.STATUS_OK := by
    unfold Dev.retireWrite
    rw [kind, made]
    refine if_neg ?_
    rintro (beyond | none_)
    · omega
    · exact spares (List.isEmpty_iff.1 none_)
  have keepsE : s.found.Keeps e [.health] := by rw [made]; exact Dev.keeps_setHealth _ _
  have asked : e.health.asked = if s.found.health.asked.contains (v / 2 ^ 24, v % 2 ^ 24) then s.found.health.asked
      else s.found.health.asked ++ [(v / 2 ^ 24, v % 2 ^ 24)] := by rw [made]; rfl
  have keeps : s.found.Keeps (e.finish Code.STATUS_OK) [.health, .done] := (keepsE.mono (by decide)).finish _
  have leaves : Leaves (.retire v) s _ := .dry (guard := Dev.up) (fun d => d.retireWrite v) up.passes result keeps
  refine leaves.quietly (keeps .event (by decide)) ⟨rfl, fun x => ?_, keeps⟩
  change x ∈ e.health.asked ↔ _
  rw [asked]
  exact mem_once _ _ _

theorem retire_refused (up : s.Up) {v : Nat} (small : v < 2 ^ 32) (beyond : 5 < v / 2 ^ 24) : Does (.retire v) s fun b a =>
    a.done = Code.OD_RANGE ∧ b.Keeps a [.done] := by
  have kind : v / 2 ^ 24 % 256 = v / 2 ^ 24 := by omega
  have result : s.found.retireWrite v = s.found.finish Code.OD_RANGE := by
    unfold Dev.retireWrite
    rw [kind]
    exact if_pos (.inl beyond)
  have leaves : Leaves (.retire v) s _ := .dry (guard := Dev.up) (fun d => d.retireWrite v) up.passes result (Dev.keeps_finish _ _)
  exact leaves.finished

/-! ## The evaluation of the spare policy -/

/-- The always-on seconds counted on (R351). -/
def Dev.secondsOn (d : Dev) : Dev :=
  { d with aon := { d.aon with seconds := if d.nat Reg.R1140_WALL_STATE = 2 then ns40 (d.wtAt d.rawNow) / 1000000000 else d.aon.seconds + 1 } }

theorem Dev.keeps_secondsOn (d : Dev) : d.Keeps d.secondsOn [.aon] := by
  intro p hp
  cases p with
  | aon => simp at hp
  | _ => rfl

theorem Dev.sparePolicy_eq (d : Dev) : d.sparePolicy = d.secondsOn.when (d.flag Reg.R7000_POLICY_EN) fun d => iterate 6 (fun kind d => d.retireKind kind) d := rfl

/-- A kind of which nothing is due or named. -/
theorem Dev.retireKind_none (d : Dev) {kind : Nat} (due : ∀ x ∈ d.health.due, x.1 ≠ kind) (asked : ∀ x ∈ d.health.asked, x.1 ≠ kind) :
    d.retireKind kind = d := by
  unfold Dev.retireKind
  extract_lets asked' due' cand
  have noDue : due' = [] := List.filterMap_eq_nil_iff.2 fun x hx => if_neg (due x hx)
  have noAsked : asked' = [] := List.filterMap_eq_nil_iff.2 fun x hx => if_neg (asked x hx)
  have noCand : cand = [] := by
    change (due' ++ asked').filter _ = []
    rw [noDue, noAsked]
    rfl
  rw [noCand]
  rfl

theorem policy_idle (live : s.Live) (idle : s.found.flag Reg.R7000_POLICY_EN = false ∨ (s.found.health.due = [] ∧ s.found.health.asked = [])) :
    Does .sparePolicyEvaluation s fun b a => b.Keeps a [.aon] ∧ (b.nat Reg.R1140_WALL_STATE ≠ 2 → a.aon = { b.aon with seconds := b.aon.seconds + 1 }) := by
  obtain ⟨e, made⟩ : ∃ e, e = s.found.secondsOn := ⟨_, rfl⟩
  have keeps : s.found.Keeps e [.aon] := by rw [made]; exact Dev.keeps_secondsOn _
  have aon : e.aon = { s.found.aon with seconds := if s.found.nat Reg.R1140_WALL_STATE = 2 then ns40 (s.found.wtAt s.found.rawNow) / 1000000000
      else s.found.aon.seconds + 1 } := by rw [made]; rfl
  have result : s.found.sparePolicy = e := by
    rw [Dev.sparePolicy_eq, ← made]
    rcases idle with off | ⟨due, asked⟩
    · rw [off]
      rfl
    · have health : e.health = s.found.health := keeps .health (by decide)
      have all : iterate 6 (fun kind (d : Dev) => d.retireKind kind) e = e :=
        iterate_idle fun kind _ => e.retireKind_none (by rw [health, due]; simp) (by rw [health, asked]; simp)
      dsimp only [Dev.when]
      rw [all, ite_self]
  have leaves : Leaves .sparePolicyEvaluation s e := .dry (guard := Dev.live) (fun d => d.sparePolicy) live.passes result keeps
  exact leaves.quietly (keeps .event (by decide)) ⟨keeps, fun no => by rw [aon, if_neg no]⟩

/-- One core due whose first spare is good. -/
theorem Dev.retireKind_core {d : Dev} {n : Nat} {x : Int} (due : d.health.due = [(UKind.core, n, x)]) (asked : d.health.asked = [])
    (work : d.health.work = []) (retired : d.flash.retired = []) (spared : d.flash.spared = []) (hn : n < 24) :
    d.retireKind UKind.core = d.beginRetire UKind.core n 24 := by
  have serves : d.inService UKind.core n = true := by
    simp [Dev.inService, retired, hn]
  have free : d.spareFree UKind.core 24 = true := by
    simp [Dev.spareFree, retired, spared, work]
  have good : d.spareWorn UKind.core 24 = false := by
    simp [Dev.spareWorn, due]
    omega
  have taken : d.takeSpare UKind.core (sparesFor UKind.core n) = (some 24, d) := by
    change d.takeSpare UKind.core [24, 25] = _
    rw [Dev.takeSpare, if_neg (by simp [free]), if_neg (by simp [good])]
  unfold Dev.retireKind
  rw [due, asked, work]
  simp only [List.filterMap_cons, List.filterMap_nil, if_true, List.append_nil, List.filter_cons, serves, List.any_nil, Bool.not_false, Bool.and_true,
    List.filter_nil, List.foldl_cons, List.foldl_nil, taken]

/-- What the start of a core's retirement leaves. -/
theorem Dev.beginRetire_core (d : Dev) (n spare : Nat) {e : Dev} (made : e = d.beginRetire UKind.core n spare) :
    e.health = { d.health with work := d.health.work ++ [{ kind := UKind.core, unit := n, spare, cycle := d.clk.cycle64 + 1 }] } ∧
    d.Keeps e [.health, .sett] := by
  obtain ⟨f, entered⟩ : ∃ f, f = d.setHealth fun h =>
      { h with work := h.work ++ [{ kind := UKind.core, unit := n, spare, cycle := d.clk.cycle64 + 1 }] } := ⟨_, rfl⟩
  have health : f.health = { d.health with work := d.health.work ++ [{ kind := UKind.core, unit := n, spare, cycle := d.clk.cycle64 + 1 }] } := by
    rw [entered]
    rfl
  have keepsF : d.Keeps f [.health] := by rw [entered]; exact Dev.keeps_setHealth _ _
  have eq : e = match (List.range 24).find? fun k => f.nat (Reg.R3840_PHYS_CORE k) == n with
      | some k => f.setSett fun s => { s with leaving := mset none s.leaving k (some f.rawNow) }
      | none => f := by
    rw [made, entered]
    rfl
  have keepsE : f.Keeps e [.sett] := by
    rw [eq]
    split
    · exact f.keeps_sett _
    · exact .refl _ _
  have same : e.health = f.health := keepsE .health (by decide)
  exact ⟨same.trans health, (keepsF.mono (by decide)).step keepsE⟩

theorem iterate_first {σ : Type} {f : Nat → σ → σ} {s e : σ} (first : f 0 s = e) (rest : ∀ k, 1 ≤ k → f k e = e) : ∀ n, iterate (n + 1) f s = e
  | 0 => first
  | n + 1 => by
    rw [iterate_succ, iterate_first first rest n]
    exact rest _ (Nat.succ_pos n)

theorem policy_begins (live : s.Live) {n : Nat} {x : Int} (on : s.found.flag Reg.R7000_POLICY_EN = true) (due : s.found.health.due = [(UKind.core, n, x)])
    (asked : s.found.health.asked = []) (work : s.found.health.work = []) (retired : s.found.flash.retired = []) (spared : s.found.flash.spared = [])
    (hn : n < 24) : Does .sparePolicyEvaluation s fun b a =>
      a.health.work = [{ kind := UKind.core, unit := n, spare := 24, cycle := b.clk.cycle64 + 1 }] ∧ a.log = b.log ∧ a.flash = b.flash ∧
      b.KeepsRegs a [] := by
  obtain ⟨f, counted⟩ : ∃ f, f = s.found.secondsOn := ⟨_, rfl⟩
  have keepsF : s.found.Keeps f [.aon] := by rw [counted]; exact Dev.keeps_secondsOn _
  have health : f.health = s.found.health := keepsF .health (by decide)
  have flash : f.flash = s.found.flash := keepsF .flash (by decide)
  obtain ⟨e, made⟩ : ∃ e, e = f.beginRetire UKind.core n 24 := ⟨_, rfl⟩
  obtain ⟨healthE, keepsE⟩ := f.beginRetire_core n 24 made
  have first : f.retireKind UKind.core = e :=
    (Dev.retireKind_core (by rw [health, due]) (by rw [health, asked]) (by rw [health, work]) (by rw [flash, retired]) (by rw [flash, spared]) hn).trans
      made.symm
  have result : s.found.sparePolicy = e := by
    have rest : ∀ kind, 1 ≤ kind → e.retireKind kind = e := fun kind pos =>
      e.retireKind_none (fun y hy => by
        have only : y = (UKind.core, n, x) := by
          rw [healthE, health, due] at hy
          simpa using hy
        rw [only]
        exact Nat.ne_of_lt pos) (by rw [healthE, health, asked]; simp)
    have all : iterate 6 (fun kind (d : Dev) => d.retireKind kind) f = e :=
      iterate_first (f := fun kind (d : Dev) => d.retireKind kind) first rest 5
    rw [Dev.sparePolicy_eq, ← counted, on]
    dsimp only [Dev.when]
    rw [if_pos rfl, all]
  have keeps : s.found.Keeps e [.aon, .health, .sett] := (keepsF.mono (by decide)).step keepsE
  have leaves : Leaves .sparePolicyEvaluation s e := .dry (guard := Dev.live) (fun d => d.sparePolicy) live.passes result keeps
  have cycle : f.clk.cycle64 = s.found.clk.cycle64 := congrArg Clock.cycle64 (keepsF .clk (by decide))
  refine leaves.quietly (keeps .event (by decide)) ⟨?_, keeps .log (by decide), keeps .flash (by decide), fun k _ => Dev.reg_congr (keeps .od (by decide)) k⟩
  rw [healthE, health, work, cycle]
  rfl

end

end Sys2Proof.Machine
end

section
/-! # The switch into a spare (R512 to R516) -/

namespace Sys2Proof.Machine

section
variable {s : State}

theorem switch_waits (live : s.Live) {kind n : Nat} (early : s.found.retireDue kind n = none) :
    Does (.unitRetired kind n) s (fun b a => b.Keeps a []) ∧ Does (.pageRetired kind n) s fun b a => b.Keeps a [] := by
  have unit : s.found.unitRetired kind n = s.found := by
    unfold Dev.unitRetired
    rw [early, ite_self]
  have page : s.found.pageRetired kind n = s.found := by
    unfold Dev.pageRetired
    rw [early, unit]
    simp only [ite_self]
  constructor
  · have leaves : Leaves (.unitRetired kind n) s s.found :=
      .full (guard := Dev.live) (l := []) (fun d => d.unitRetired kind n) live.passes unit (Dev.Keeps.refl _ _)
    exact leaves.unchanged
  · have leaves : Leaves (.pageRetired kind n) s s.found :=
      .full (guard := Dev.live) (l := []) (fun d => d.pageRetired kind n) live.passes page (Dev.Keeps.refl _ _)
    exact leaves.unchanged

end

/-- What a retirement leaves recorded. -/
def Dev.Recorded (d e : Dev) (kind n spare : Nat) : Prop :=
  e.flash.spared = d.flash.spared ++ [(kind, n, spare)] ∧ e.flash.retired = d.flash.retired ++ [(kind, n, false)] ∧
  (∀ x ∈ e.health.due, x.1 ≠ kind ∨ x.2.1 ≠ n) ∧ (∀ w ∈ e.health.work, w.kind ≠ kind ∨ w.unit ≠ n)

/-- The record of a spare in service, before the reserve and the unit's state are judged. -/
def Dev.spareEntered (d : Dev) (kind n s : Nat) : Dev :=
  (d.setFlash fun fl => { fl with retired := fl.retired ++ [(kind, n, false)], spared := fl.spared ++ [(kind, n, s)] }).setHealth fun h =>
    { h with work := h.work.filter (fun w => !(w.kind == kind && w.unit == n)),
             due := h.due.filter (fun x => !(x.1 == kind && x.2.1 == n)), asked := h.asked.filter (fun x => x != (kind, n)) }

/-- The spare in service, and nothing told yet of the unit. -/
structure Dev.Spared (d e : Dev) (kind n spare : Nat) : Prop where
  recorded : d.Recorded e kind n spare
  keeps : d.Keeps e [.od, .flash, .health, .log, .event]
  regs : ∀ k, k / 256 = 0x3101 → e.reg k = d.reg k

section
variable {d e f : Dev} {kind n spare : Nat}

theorem Dev.Spared.entered (made : e = d.spareEntered kind n spare) : d.Spared e kind n spare := by
  rw [made]
  refine ⟨⟨rfl, rfl, fun x hx => ?_, fun w hw => ?_⟩, ((d.keeps_setFlash _).mono (by decide)).step (Dev.keeps_setHealth _ _), fun _ _ => rfl⟩
  · have away := (List.mem_filter.1 hx).2
    by_contra both
    push Not at both
    simp [both.1, both.2] at away
  · have away := (List.mem_filter.1 hw).2
    by_contra both
    push Not at both
    simp [both.1, both.2] at away

theorem Dev.Spared.noted (h : d.Spared e kind n spare) (g : e.ErrNotes f) : d.Spared f kind n spare := by
  obtain ⟨⟨spared, retired, due, work⟩, keeps, regs⟩ := h
  obtain ⟨l, hl⟩ := g.health
  have flash : f.flash = e.flash := g.keeps .flash (by decide)
  have far : ∀ k ∈ errRegs, k / 256 ≠ 0x3101 := by decide
  exact ⟨⟨by rw [flash, spared], by rw [flash, retired], by rw [hl]; exact due, by rw [hl]; exact work⟩, keeps.step g.keeps,
    fun k hk => (g.regs k fun mem => far k mem hk).trans (regs k hk)⟩

theorem Dev.Spared.step (h : d.Spared e kind n spare) (g : e.Keeps f [.od, .log, .event]) (same : ∀ k, k / 256 = 0x3101 → f.reg k = e.reg k) :
    d.Spared f kind n spare := by
  obtain ⟨⟨spared, retired, due, work⟩, keeps, regs⟩ := h
  have flash : f.flash = e.flash := g .flash (by decide)
  have health : f.health = e.health := g .health (by decide)
  exact ⟨⟨by rw [flash, spared], by rw [flash, retired], by rw [health]; exact due, by rw [health]; exact work⟩, keeps.step g,
    fun k hk => (same k hk).trans (regs k hk)⟩

theorem Dev.Spared.raise (h : d.Spared e kind n spare) (code kind' subject reaction detail : Nat) :
    d.Spared (e.raise code kind' subject reaction detail) kind n spare := by
  have far : ∀ k ∈ logRegs, k / 256 ≠ 0x3101 := by decide
  exact h.step (Dev.keeps_raise _ _ _ _ _ _) fun k hk => Dev.reg_raise _ _ _ _ _ _ fun mem => far k mem hk

theorem Dev.Spared.unitRaise (h : d.Spared e kind n spare) (code kind' m : Nat) : d.Spared (e.unitRaise code kind' m) kind n spare := by
  unfold Dev.unitRaise
  split_ifs
  · exact h.raise _ _ _ _ _
  · exact h.raise _ _ _ _ _

theorem unitOf_lt (kind n : Nat) (hn : n < 17) : Reg.R7080_STATE (unitOf kind n) / 256 ≠ 0x3101 := by
  have bound : unitOf kind n < 128 := by
    unfold unitOf
    split_ifs <;> omega
  simp only [Reg.R7080_STATE, Reg.key]
  omega

theorem Dev.Spared.showUnit (h : d.Spared e kind n spare) {u : Nat} (apart : Reg.R7080_STATE u / 256 ≠ 0x3101) : d.Spared (e.showUnit u) kind n spare := by
  obtain ⟨keeps, regs⟩ := e.showUnit_shows u rfl
  exact h.step (keeps.mono (by decide)) fun k hk => regs k (by simp only [List.mem_singleton]; rintro rfl; exact apart hk)

/-- A spare put in service is recorded. -/
theorem Dev.spareIn_spares (d : Dev) (kind n s : Nat) (small : kind ≤ 3 → n < 17) : d.Spared (d.spareIn kind n s) kind n s := by
  unfold Dev.spareIn
  extract_lets flashed entered logged low warned
  have entered' : d.Spared entered kind n s := .entered rfl
  have logged' : d.Spared logged kind n s := entered'.noted (entered.errLog_notes _ _ _ _ _ _ _ rfl).1
  have warned' : d.Spared warned kind n s := by
    change d.Spared (if low = true then _ else _) kind n s
    split_ifs
    · exact (logged'.noted (logged.errLog_notes _ _ _ _ _ _ _ rfl).1).unitRaise _ _ _
    · exact logged'
  split_ifs with unit
  · exact warned'.showUnit (unitOf_lt _ _ (small unit))
  · exact warned'

end

section
variable {s : State} (live : s.Live) {n spare : Nat}
include live

theorem page_retires (due : s.found.retireDue UKind.page n = some spare) : Does (.pageRetired UKind.page n) s fun b a =>
    b.Recorded a UKind.page n spare ∧ a.LastRaised Code.PAGE_RETIRED Kind.other 0 := by
  obtain ⟨f, filled⟩ : ∃ f, f = s.found.spareIn UKind.page n spare := ⟨_, rfl⟩
  have spared : s.found.Spared f UKind.page n spare := by rw [filled]; exact s.found.spareIn_spares _ _ _ fun h => absurd h (by decide)
  obtain ⟨e, made⟩ : ∃ e, e = f.raise Code.PAGE_RETIRED Kind.other 0 0 (4096 * n) := ⟨_, rfl⟩
  have result : s.found.pageRetired UKind.page n = e := by
    unfold Dev.pageRetired
    rw [if_pos rfl, due, made, filled]
  have told : s.found.Spared e UKind.page n spare := by rw [made]; exact spared.raise _ _ _ _ _
  have last : e.LastRaised Code.PAGE_RETIRED Kind.other 0 := by rw [made]; exact f.lastRaised_raise _ _ _ _ _
  have leaves : Leaves (.pageRetired UKind.page n) s e := .full (guard := Dev.live) (fun d => d.pageRetired UKind.page n) live.passes result told.keeps
  exact leaves.does fun pend vecs => ⟨told.recorded, last.told _ _⟩

omit live in
theorem u32_wrap (n : Nat) : (OdType.u32.wrap n).toNat = n % 2 ^ 32 := by
  have narrowed : OdType.u32.wrap n = (n : Int) % 4294967296 := rfl
  rw [narrowed]; omega

omit live in
/-- The map of the distance units with one in another's place. -/
theorem Dev.unitSwap_shows (d : Dev) (hn : n < 17) (hs : spare < 17) (apart : n ≠ spare) {e : Dev} (made : e = d.unitSwap n spare) :
    e.bit Reg.R3101_UNIT_MAP n = false ∧ e.bit Reg.R3101_UNIT_MAP spare = true ∧ d.Keeps e [.od] := by
  have type : odType Reg.R3101_UNIT_MAP = .u32 := by decide +kernel
  obtain ⟨m, swapped⟩ : ∃ m, m = withBit (withBit (d.nat Reg.R3101_UNIT_MAP) n false) spare true := ⟨_, rfl⟩
  have eq : e = (d.set Reg.R3101_UNIT_MAP m).set Reg.R3101_UNITS_WORKING ((List.range 17).filter fun i => m.testBit i).length := by
    rw [made, swapped]
    rfl
  have bit : ∀ i < 17, e.bit Reg.R3101_UNIT_MAP i = m.testBit i := fun i hi => by
    rw [eq, Dev.bit, Dev.nat, Dev.reg_set_other _ _ (by decide), Dev.reg_set_same, type, u32_wrap, Nat.testBit_mod_two_pow,
      decide_eq_true (show i < 32 by omega), Bool.true_and]
  refine ⟨?_, ?_, ?_⟩
  · rw [bit n hn, swapped, testBit_withBit, if_neg apart, testBit_withBit, if_pos rfl]
  · rw [bit spare hs, swapped, testBit_withBit, if_pos rfl]
  · rw [eq]
    exact ((Dev.Keeps.refl _ _).set _ _).set _ _

theorem unit_retires (hn : n < 17) (hs : spare < 17) (apart : n ≠ spare) (due : s.found.retireDue UKind.distance n = some spare) :
    Does (.unitRetired UKind.distance n) s fun b a => b.Recorded a UKind.distance n spare ∧ a.bit Reg.R3101_UNIT_MAP n = false ∧
      a.bit Reg.R3101_UNIT_MAP spare = true ∧ a.LastRaised Code.UNIT_RETIRED Kind.unit (31 + n) := by
  obtain ⟨f, swapped⟩ : ∃ f, f = s.found.unitSwap n spare := ⟨_, rfl⟩
  obtain ⟨gone, serves, keepsF⟩ := s.found.unitSwap_shows hn hs apart swapped
  obtain ⟨g, filled⟩ : ∃ g, g = f.spareIn UKind.distance n spare := ⟨_, rfl⟩
  have spared : f.Spared g UKind.distance n spare := by rw [filled]; exact f.spareIn_spares _ _ _ fun _ => hn
  obtain ⟨e, made⟩ : ∃ e, e = g.unitRaise Code.UNIT_RETIRED UKind.distance n := ⟨_, rfl⟩
  have result : s.found.unitRetired UKind.distance n = e := by
    unfold Dev.unitRetired
    rw [if_neg (by decide), due]
    dsimp only
    rw [if_neg (by decide), if_pos rfl, made, filled, swapped]
  have told : f.Spared e UKind.distance n spare := by rw [made]; exact spared.unitRaise _ _ _
  have last : e.LastRaised Code.UNIT_RETIRED Kind.unit (31 + n) := by
    have raised : g.unitRaise Code.UNIT_RETIRED UKind.distance n = g.raise Code.UNIT_RETIRED Kind.unit (31 + n) := by
      unfold Dev.unitRaise
      rw [if_pos (by decide)]
      rfl
    rw [made, raised]
    exact g.lastRaised_raise _ _ _ _ _
  have flash : f.flash = s.found.flash := keepsF .flash (by decide)
  have leaves : Leaves (.unitRetired UKind.distance n) s e :=
    .full (guard := Dev.live) (fun d => d.unitRetired UKind.distance n) live.passes result
      (l := [.od, .flash, .health, .log, .event]) ((keepsF.mono (by decide)).step told.keeps)
  have map : ∀ i, e.bit Reg.R3101_UNIT_MAP i = f.bit Reg.R3101_UNIT_MAP i := fun i => by
    rw [Dev.bit, Dev.bit, Dev.nat, Dev.nat, told.regs _ (by decide)]
  obtain ⟨spares, retired, dues, works⟩ := told.recorded
  rw [flash] at spares retired
  exact leaves.does fun pend vecs => ⟨⟨spares, retired, dues, works⟩, (map n).trans gone, (map spare).trans serves, last.told _ _⟩

end

/-- Settles O59: errors are counted and logged, sensors judged, and units retire into their spares. -/
theorem errorsAndSpares : Obligations.ErrorsAndSpares := by
  unfold Obligations.ErrorsAndSpares
  constructor
  · intro s kind n addr sym pat live d known kept plain
    refine ⟨⟨fun fresh => corrected_counted live plain fresh, fun again => corrected_hard live plain again⟩, fun e c => uncorrectable_stays live e c,
      fun raced => scrub_good live raced, fun fresh => scrub_erring live plain fresh, fun v hn _ _ => sensor_ageing live hn v⟩
  · intro s kind n live d recorded
    refine ⟨fun v up small => ⟨fun listed spares => retire_asked up small listed spares, fun beyond => retire_refused up small beyond⟩,
      fun idle => policy_idle live idle, fun x on due asked work retired spared hn => policy_begins live on due asked work retired spared hn,
      fun early => switch_waits live early, fun spare due => ⟨?_, ?_⟩⟩
    · rintro rfl hn hs apart
      exact unit_retires live hn hs apart due
    · rintro rfl
      exact page_retires live due

end Sys2Proof.Machine
end

section
/-! # Update sessions (R479 to R485) -/

namespace Sys2Proof.Machine

/-! ## A write of an entry with an effect of its own -/

section
variable {i : Instr} {s : State} {r : Requester} {ix sub : Nat} {data : Bytes} {x : Dev} {P : Dev → Dev → Prop} {e : Entry} {j : Nat}
  (serves : s.found.Serves r ix) (found : locate ix sub = .entry e j) (ok : s.found.WriteOk r ix sub data)
  (special : s.found.writeSpecial r ix sub (e.ty.wrap (leNat data)) data = some x)
include found ok special

theorem Dev.odWrite_effect : ∃ c, s.found.odWrite r ix sub data = x.keepsAlive c := by
  obtain ⟨c, h⟩ := Dev.odWrite_passes found ok
  exact ⟨c, by rw [h, special, Option.getD_some]⟩

include serves

theorem served_does {l : List Part} (keeps : s.found.Keeps x l) (p : ∀ a, x.Keeps a [.safe, .serve] → P s.found a)
    (within : Part.clk ∉ l := by decide)
    (hi : exec i s = s.answer fun d => d.reached r ix fun d => d.odWrite r ix sub data := by rfl) : Does i s P := by
  obtain ⟨c, writes⟩ := Dev.odWrite_effect found ok special
  have serves' : s.dev.Serves r ix := serves
  have leaves : Leaves i s (x.keepsAlive c) :=
    .full (guard := fun d => d.reached r ix) (fun d => d.odWrite r ix sub data) serves'.passes writes
      (keeps.trans (x.keeps_keepsAlive c)) (by simpa using within) hi
  exact leaves.does fun _ _ => p _ ((x.keeps_keepsAlive c).trans (Dev.keeps_told _ _ _))

theorem served_clocked (clock : s.ClockOk) {l : List Part} (keeps : s.found.Keeps x l) (p : ∀ a, x.Keeps a [.safe, .serve] → P s.found a)
    (within : Part.clk ∉ l := by decide)
    (hi : exec i s = s.answerClk fun d => d.reached r ix fun d => d.odWrite r ix sub data := by rfl) : Does i s P := by
  obtain ⟨c, writes⟩ := Dev.odWrite_effect found ok special
  have serves' : s.dev.Serves r ix := serves
  have clk : (x.keepsAlive c).clk = s.dev.clk := (keeps.trans (x.keeps_keepsAlive c)) .clk (by simpa using within)
  have leaves : Leaves i s (x.keepsAlive c) :=
    .clocked (guard := fun d => d.reached r ix) (fun d => d.odWrite r ix sub data) serves'.passes writes
      (by rw [clk]; exact clock.1) (by rw [clk]; exact clock.2) hi
  exact leaves.does fun _ _ => p _ ((x.keeps_keepsAlive c).trans (Dev.keeps_told _ _ _))

end

/-! ## The slots, and the answers of the session -/

section
variable (d : Dev)

theorem Dev.keeps_setBoot (f : Boot → Boot) : d.Keeps (d.setBoot f) [.boot] := by
  intro p hp
  cases p with
  | boot => simp at hp
  | _ => rfl

theorem Dev.fwSlot_congr {e : Dev} (h : e.flash = d.flash) (k : Nat) : e.fwSlot k = d.fwSlot k := by
  rw [Dev.fwSlot, Dev.fwSlot, h]

theorem Dev.keeps_setSlotImage (k : Nat) (x : FwSlot) : d.Keeps (d.setSlotImage k x) [.flash] := d.keeps_setFlash _

theorem Dev.fwSlot_setSlotImage_same (k : Nat) (x : FwSlot) : (d.setSlotImage k x).fwSlot k = x := mget_mset_same _ _ _ _

theorem Dev.fwSlot_setSlotImage_other {k j : Nat} (h : j ≠ k) (x : FwSlot) : (d.setSlotImage k x).fwSlot j = d.fwSlot j :=
  mget_mset_other _ _ _ _ h

/-- A code the session's last write is answered with. -/
def Dev.UpdTold (a : Dev) (code : Nat) : Prop := a.done = code ∧ a.nat Reg.R6020_LAST_STATUS = code

theorem Dev.UpdTold.of_keeps {x a : Dev} {code : Nat} (h : x.UpdTold code) (keeps : x.Keeps a [.safe, .serve]) : a.UpdTold code := by
  have od : a.od = x.od := keeps .od (by decide)
  have done : a.done = x.done := keeps .done (by decide)
  exact ⟨done.trans h.1, (Dev.nat_congr od _).trans h.2⟩

theorem Dev.keeps_updDone (code : Nat) : d.Keeps (d.updDone code) [.od, .done] := ((Dev.Keeps.refl _ _).set _ _).finish _

theorem Dev.told_updDone {code : Nat} (small : code < 2 ^ 16) : (d.updDone code).UpdTold code := by
  have type : odType Reg.R6020_LAST_STATUS = .u16 := by decide +kernel
  exact ⟨rfl, d.nat_set_same type rfl small⟩

theorem Dev.updRefused_refuses {code : Nat} (small : code < 2 ^ 16) : (d.updRefused code).UpdTold code ∧
    (d.updRefused code).LastRaised code Kind.device 0 ∧ d.Keeps (d.updRefused code) [.od, .log, .event, .done] :=
  ⟨Dev.told_updDone _ small, (d.lastRaised_raise _ _ _ _ _).of_keeps (Dev.keeps_updDone _ code),
    ((Dev.keeps_raise _ _ _ _ _ _).mono (by decide)).step (Dev.keeps_updDone _ code)⟩

end

/-! ## The commands of a session -/

section
variable {s : State} {r : Requester} {data : Bytes}

theorem located_update : (∃ e j, locate 0x6020 1 = .entry e j) ∧ (∃ e j, locate 0x6020 3 = .entry e j ∧ e.ty = .u64) ∧
    (∃ e j, locate 0x6020 5 = .entry e j) ∧ (∃ e j, locate 0x6020 9 = .entry e j ∧ e.ty = .u8) ∧ ∃ e j, locate 0x6020 10 = .entry e j := by
  refine ⟨⟨_, _, rfl⟩, ⟨_, _, rfl, rfl⟩, ⟨_, _, rfl⟩, ⟨_, _, rfl, rfl⟩, _, _, rfl⟩

/-- A write of a session's object that is refused. -/
theorem update_refused {i : Instr} {sub code : Nat} (serves : s.found.Serves r 0x6020) {e : Entry} {j : Nat}
    (found : locate 0x6020 sub = .entry e j) (ok : s.found.WriteOk r 0x6020 sub data) (small : code < 2 ^ 16)
    (special : s.found.writeSpecial r 0x6020 sub (e.ty.wrap (leNat data)) data = some (s.found.updRefused code))
    (hi : exec i s = s.answer fun d => d.reached r 0x6020 fun d => d.odWrite r 0x6020 sub data := by rfl) : Does i s fun b a =>
      (a.done = code ∧ a.nat Reg.R6020_LAST_STATUS = code) ∧ a.LastRaised code Kind.device 0 ∧ a.boot = b.boot ∧ a.flash = b.flash := by
  obtain ⟨told, last, keeps⟩ := s.found.updRefused_refuses small
  exact served_does serves found ok special keeps (fun a ha => ⟨told.of_keeps ha, last.of_keeps ha,
    (ha .boot (by decide)).trans (keeps .boot (by decide)), (ha .flash (by decide)).trans (keeps .flash (by decide))⟩) (by decide) hi

/-- A write of a session's object that changes nothing but its answer. -/
theorem update_answered {i : Instr} {sub code : Nat} (serves : s.found.Serves r 0x6020) {e : Entry} {j : Nat}
    (found : locate 0x6020 sub = .entry e j) (ok : s.found.WriteOk r 0x6020 sub data) (small : code < 2 ^ 16)
    (special : s.found.writeSpecial r 0x6020 sub (e.ty.wrap (leNat data)) data = some (s.found.updDone code))
    (hi : exec i s = s.answer fun d => d.reached r 0x6020 fun d => d.odWrite r 0x6020 sub data := by rfl) : Does i s fun b a =>
      (a.done = code ∧ a.nat Reg.R6020_LAST_STATUS = code) ∧ a.boot = b.boot ∧ a.flash = b.flash ∧ a.log = b.log := by
  have keeps := s.found.keeps_updDone code
  exact served_does serves found ok special keeps (fun a ha => ⟨(Dev.told_updDone _ small).of_keeps ha,
    (ha .boot (by decide)).trans (keeps .boot (by decide)), (ha .flash (by decide)).trans (keeps .flash (by decide)),
    (ha .log (by decide)).trans (keeps .log (by decide))⟩) (by decide) hi

/-! ## OPEN -/

/-- The operand of an OPEN is well formed. -/
def OpenFormed (data : Bytes) : Prop :=
  data.length = 40 ∧ fieldLE data 1 3 = 0 ∧ (fieldLE data 0 1 = 1 ∨ fieldLE data 0 1 = 2) ∧
    fieldLE data 4 4 ≤ (if fieldLE data 0 1 = 1 then 64000000 else 256000000)

/-- The session an accepted OPEN begins. -/
def Dev.opened (d : Dev) (r : Requester) (data : Bytes) : Update :=
  { kind := fieldLE data 0 1, digest := slice data 8 32, total := fieldLE data 4 4, slot := d.targetSlot (fieldLE data 0 1)
    token := Config.random d.fresh % 2 ^ 64, bound := [r], last := d.rawNow }

theorem OpenFormed.shape (h : OpenFormed data) : ¬(data.length ≠ 40 ∨ fieldLE data 1 3 ≠ 0 ∨ (fieldLE data 0 1 ≠ 1 ∧ fieldLE data 0 1 ≠ 2)) := by
  obtain ⟨length, zeros, kind, -⟩ := h
  omega

section
variable (formed : OpenFormed data)
include formed

theorem Dev.updateOpen_recovery (d : Dev) (recovery : d.boot.recovery = true) (kind : fieldLE data 0 1 ≠ 1) :
    d.updateOpen r data = d.updDone Code.OD_STATE := by
  unfold Dev.updateOpen
  rw [if_neg formed.shape, if_pos ⟨recovery, kind⟩]

section
variable {d : Dev} (open_ : d.boot.recovery = false ∨ fieldLE data 0 1 = 1)
include open_

theorem Dev.updateOpen_busy {u : Update} (has : d.boot.update = some u) : d.updateOpen r data =
    d.updRefused (if u.kind = fieldLE data 0 1 ∧ u.digest = slice data 8 32 then Code.UPDATE_IN_PROGRESS else Code.UPDATE_BUSY) := by
  have offered : ¬(d.boot.recovery = true ∧ fieldLE data 0 1 ≠ 1) := by
    rintro ⟨recovery, kind⟩
    rcases open_ with off | one
    · rw [off] at recovery; cases recovery
    · exact kind one
  unfold Dev.updateOpen
  rw [if_neg formed.shape, if_neg offered, has]

theorem Dev.updateOpen_free (none_ : d.boot.update = none) : d.updateOpen r data =
    if d.runsTrial (fieldLE data 0 1) then d.updRefused Code.UPDATE_NO_SLOT
    else (((d.takeFresh.2.setSlotImage (d.targetSlot (fieldLE data 0 1)) { state := SlotState.receiving }).setFlash fun fl =>
      { fl with activated := fl.activated.filter fun x => x.2 != d.targetSlot (fieldLE data 0 1) + 1 }).setBoot fun b =>
        { b with update := some (d.opened r data) }).updDone Code.STATUS_OK := by
  have offered : ¬(d.boot.recovery = true ∧ fieldLE data 0 1 ≠ 1) := by
    rintro ⟨recovery, kind⟩
    rcases open_ with off | one
    · rw [off] at recovery; cases recovery
    · exact kind one
  have room : ¬(if fieldLE data 0 1 = 1 then 64000000 else 256000000) < fieldLE data 4 4 := Nat.not_lt.2 formed.2.2.2
  unfold Dev.updateOpen
  rw [if_neg formed.shape, if_neg offered, none_]
  dsimp only
  rw [if_neg room]
  rfl

end

theorem updateOpen_opens (serves : s.found.Serves r 0x6020) (ok : s.found.WriteOk r 0x6020 1 data)
    (open_ : s.found.boot.recovery = false ∨ fieldLE data 0 1 = 1) (none_ : s.found.boot.update = none)
    (calm : s.found.runsTrial (fieldLE data 0 1) = false) : Does (.updateOpen r data) s fun b a =>
      (a.done = Code.STATUS_OK ∧ a.nat Reg.R6020_LAST_STATUS = Code.STATUS_OK) ∧
      a.fwSlot (b.targetSlot (fieldLE data 0 1)) = { state := SlotState.receiving } ∧
      (∀ k, k ≠ b.targetSlot (fieldLE data 0 1) → a.fwSlot k = b.fwSlot k) ∧
      ∃ u, a.boot.update = some u ∧ u.kind = fieldLE data 0 1 ∧ u.slot = b.targetSlot (fieldLE data 0 1) ∧ u.bound = [r] ∧
        u.digest = slice data 8 32 ∧ u.total = fieldLE data 4 4 ∧ u.bytes = [] ∧ u.last = b.rawNow := by
  obtain ⟨⟨e, j, found⟩, -⟩ := located_update
  obtain ⟨k, target⟩ : ∃ k, k = s.found.targetSlot (fieldLE data 0 1) := ⟨_, rfl⟩
  obtain ⟨f, fresh⟩ : ∃ f, f = s.found.takeFresh.2 := ⟨_, rfl⟩
  obtain ⟨g, erased⟩ : ∃ g, g = f.setSlotImage k { state := SlotState.receiving } := ⟨_, rfl⟩
  obtain ⟨w, withdrawn⟩ : ∃ w, w = g.setFlash fun fl => { fl with activated := fl.activated.filter fun x => x.2 != k + 1 } := ⟨_, rfl⟩
  obtain ⟨u, session⟩ : ∃ u, u = s.found.opened r data := ⟨_, rfl⟩
  obtain ⟨b, begun⟩ : ∃ b, b = w.setBoot fun b => { b with update := some u } := ⟨_, rfl⟩
  obtain ⟨x, made⟩ : ∃ x, x = b.updDone Code.STATUS_OK := ⟨_, rfl⟩
  have result : s.found.updateOpen r data = x := by
    rw [Dev.updateOpen_free formed open_ none_, calm, made, begun, session, withdrawn, erased, fresh, target]
    rfl
  have keepsF : s.found.Keeps f [.fresh] := by rw [fresh]; exact Dev.keeps_takeFresh _
  have keepsG : f.Keeps g [.flash] := by rw [erased]; exact Dev.keeps_setSlotImage _ _ _
  have keepsW : g.Keeps w [.flash] := by rw [withdrawn]; exact Dev.keeps_setFlash _ _
  have keepsB : w.Keeps b [.boot] := by rw [begun]; exact Dev.keeps_setBoot _ _
  have keepsX : b.Keeps x [.od, .done] := by rw [made]; exact Dev.keeps_updDone _ _
  have told : x.UpdTold Code.STATUS_OK := by rw [made]; exact Dev.told_updDone _ (by decide)
  have boot : x.boot.update = some u := by
    have same : x.boot = b.boot := keepsX .boot (by decide)
    rw [same, begun]
    rfl
  have slots : x.flash.slots = g.flash.slots := by
    have first : x.flash = b.flash := keepsX .flash (by decide)
    have second : b.flash = w.flash := keepsB .flash (by decide)
    rw [first, second, withdrawn]
    rfl
  have slot : ∀ n, x.fwSlot n = g.fwSlot n := fun n => by rw [Dev.fwSlot, Dev.fwSlot, slots]
  have before : ∀ n, f.fwSlot n = s.found.fwSlot n := Dev.fwSlot_congr _ (keepsF .flash (by decide))
  have all : s.found.Keeps x [.fresh, .flash, .boot, .od, .done] :=
    ((((keepsF.mono (by decide)).step keepsG).step keepsW).step keepsB).step keepsX
  refine served_does serves found ok (congrArg some result) all fun a ha => ?_
  have flash : a.flash = x.flash := ha .flash (by decide)
  have bootA : a.boot = x.boot := ha .boot (by decide)
  rw [← target]
  refine ⟨told.of_keeps ha, ?_, fun n hn => ?_, u, by rw [bootA, boot], by rw [session]; rfl, by rw [session, target]; rfl, by rw [session]; rfl,
    by rw [session]; rfl, by rw [session]; rfl, by rw [session]; rfl, by rw [session]; rfl⟩
  · rw [Dev.fwSlot_congr x flash, slot, erased, Dev.fwSlot_setSlotImage_same]
  · rw [Dev.fwSlot_congr x flash, slot, erased, Dev.fwSlot_setSlotImage_other _ hn, before]

end

/-! ## BIND -/

theorem bind_binds {token : Nat} (small : token < 2 ^ 64) (serves : s.found.Serves r 0x6020) (ok : s.found.WriteOk r 0x6020 3 (leBytes 8 token)) :
    (∀ u, s.found.boot.update = some u → u.token = token → Does (.bind r token) s fun b a =>
      (a.done = Code.STATUS_OK ∧ a.nat Reg.R6020_LAST_STATUS = Code.STATUS_OK) ∧ a.flash = b.flash ∧
      ∃ v, a.boot.update = some v ∧ r ∈ v.bound ∧ v.slot = u.slot ∧ ∀ q, q ∈ v.bound ↔ q = r ∨ q ∈ u.bound) ∧
    ((∀ u, s.found.boot.update = some u → u.token ≠ token) → Does (.bind r token) s fun b a =>
      (a.done = Code.UPDATE_BUSY ∧ a.nat Reg.R6020_LAST_STATUS = Code.UPDATE_BUSY) ∧ a.LastRaised Code.UPDATE_BUSY Kind.device 0 ∧
      a.boot = b.boot ∧ a.flash = b.flash) := by
  obtain ⟨-, ⟨e, j, found, type⟩, -⟩ := located_update
  have value : (e.ty.wrap (leNat (leBytes 8 token))).toNat = token := by
    rw [type, leNat_leBytes, Nat.mod_eq_of_lt (show token < 256 ^ 8 by omega)]
    exact OdType.toNat_wrap_u64 small
  have special : s.found.writeSpecial r 0x6020 3 (e.ty.wrap (leNat (leBytes 8 token))) (leBytes 8 token) = some (s.found.updateBind r token) :=
    (congrArg (fun n => some (s.found.updateBind r n)) value)
  constructor
  · intro u has same
    obtain ⟨v, bound⟩ : ∃ v : Update, v = { u with bound := if u.bound.contains r then u.bound else r :: u.bound } := ⟨_, rfl⟩
    obtain ⟨b, begun⟩ : ∃ b, b = s.found.setBoot fun b => { b with update := some v } := ⟨_, rfl⟩
    obtain ⟨x, made⟩ : ∃ x, x = b.updDone Code.STATUS_OK := ⟨_, rfl⟩
    have result : s.found.updateBind r token = x := by
      unfold Dev.updateBind
      rw [has]
      dsimp only
      rw [if_pos same, made, begun, bound]
    have keepsB : s.found.Keeps b [.boot] := by rw [begun]; exact Dev.keeps_setBoot _ _
    have keepsX : b.Keeps x [.od, .done] := by rw [made]; exact Dev.keeps_updDone _ _
    have told : x.UpdTold Code.STATUS_OK := by rw [made]; exact Dev.told_updDone _ (by decide)
    have boot : x.boot.update = some v := by
      have same : x.boot = b.boot := keepsX .boot (by decide)
      rw [same, begun]
      rfl
    have all : s.found.Keeps x [.boot, .od, .done] := (keepsB.mono (by decide)).step keepsX
    have members : ∀ q, q ∈ v.bound ↔ q = r ∨ q ∈ u.bound := fun q => by
      rw [bound]
      dsimp only
      split_ifs with there
      · refine ⟨.inr, fun h => h.elim (fun eq => ?_) id⟩
        rw [eq]
        exact List.contains_iff_mem.1 there
      · exact List.mem_cons
    refine served_does serves found ok (special.trans (congrArg some result)) all fun a ha => ?_
    have bootA : a.boot = x.boot := ha .boot (by decide)
    exact ⟨told.of_keeps ha, (ha .flash (by decide)).trans (all .flash (by decide)), v, by rw [bootA, boot], (members r).2 (.inl rfl),
      by rw [bound], members⟩
  · intro other
    have result : s.found.updateBind r token = s.found.updRefused Code.UPDATE_BUSY := by
      unfold Dev.updateBind
      cases has : s.found.boot.update with
      | none => rfl
      | some u => exact if_neg (other u has)
    exact update_refused serves found ok (by decide) (special.trans (congrArg some result))

end

end Sys2Proof.Machine
end

section
/-! # How an image is staged, activated and confirmed, and how a session ends (R481 to R485) -/

namespace Sys2Proof.Machine

section
variable {s : State} {r : Requester}

/-! ## The image staged -/

theorem Dev.imageStaged_some {d : Dev} {u : Update} (has : d.boot.update = some u) : d.imageStaged =
    if u.whole ∧ (d.fwSlot u.slot).state = SlotState.receiving then
      d.setSlotImage u.slot { state := SlotState.staged, image := u.bytes, backup := if u.kind = 1 then u.bytes else [] }
    else d := by
  rw [Dev.imageStaged, has]

theorem Leaves.imageStaged (live : s.Live) {x : Dev} (result : s.found.imageStaged = x) (keeps : s.found.Keeps x [.flash]) : Leaves .imageStaged s x :=
  .dry (guard := Dev.live) (fun d => d.imageStaged) live.passes result keeps

theorem imageStaged_stages (live : s.Live) {u : Update} (has : s.found.boot.update = some u) (whole : u.whole = true)
    (receiving : (s.found.fwSlot u.slot).state = SlotState.receiving) : Does .imageStaged s fun b a =>
      a.fwSlot u.slot = { state := SlotState.staged, image := u.bytes, backup := if u.kind = 1 then u.bytes else [] } ∧
      (∀ k, k ≠ u.slot → a.fwSlot k = b.fwSlot k) ∧ b.Keeps a [.flash] := by
  have result := (Dev.imageStaged_some has).trans (if_pos ⟨whole, receiving⟩)
  have keeps := s.found.keeps_setSlotImage u.slot { state := SlotState.staged, image := u.bytes, backup := if u.kind = 1 then u.bytes else [] }
  exact (Leaves.imageStaged live result keeps).quietly (keeps .event (by decide))
    ⟨Dev.fwSlot_setSlotImage_same _ _ _, fun k hk => Dev.fwSlot_setSlotImage_other _ hk _, keeps⟩

theorem imageStaged_idle (live : s.Live) (idle : s.found.imageStaged = s.found) : Does .imageStaged s fun b a => b.Keeps a [] :=
  (Leaves.imageStaged live idle (Dev.Keeps.refl _ _)).quietly rfl (Dev.Keeps.refl _ _)

/-! ## The session's end -/

/-- What the end of a session leaves. -/
def Dev.Ended (b a : Dev) (u : Update) : Prop :=
  a.boot.update = none ∧ a.LastRaised Code.UPDATE_ABANDONED Kind.other 0 ∧ a.nat Reg.R6020_LAST_STATUS = Code.UPDATE_ABANDONED ∧
  a.fwSlot u.slot = (if (b.fwSlot u.slot).state = SlotState.staged then b.fwSlot u.slot else {}) ∧ ∀ k, k ≠ u.slot → a.fwSlot k = b.fwSlot k

theorem Dev.Ended.of_keeps {b x a : Dev} {u : Update} {l : List Part} (h : b.Ended x u) (keeps : x.Keeps a l)
    (out : ∀ p ∈ [Part.boot, .log, .od, .flash], p ∉ l := by decide) : b.Ended a u := by
  obtain ⟨over_, last, status, slot, others⟩ := h
  have flash : a.flash = x.flash := keeps .flash (out _ (by simp))
  have boot : a.boot = x.boot := keeps .boot (out _ (by simp))
  have od : a.od = x.od := keeps .od (out _ (by simp))
  exact ⟨(congrArg Boot.update boot).trans over_, last.of_keeps keeps (out _ (by simp)), (Dev.nat_congr od _).trans status,
    (Dev.fwSlot_congr x flash _).trans slot, fun k hk => (Dev.fwSlot_congr x flash k).trans (others k hk)⟩

theorem Dev.endUpdate_ends {d : Dev} {u : Update} (has : d.boot.update = some u) {x : Dev} (made : x = d.endUpdate) :
    d.Ended x u ∧ d.Keeps x [.flash, .boot, .od, .log, .event] := by
  obtain ⟨f, emptied⟩ : ∃ f, f = d.when ((d.fwSlot u.slot).state != SlotState.staged) fun d => d.setSlotImage u.slot {} := ⟨_, rfl⟩
  obtain ⟨g, closed⟩ : ∃ g, g = f.setBoot fun b => { b with update := none } := ⟨_, rfl⟩
  obtain ⟨t, told⟩ : ∃ t, t = g.raise Code.UPDATE_ABANDONED Kind.other 0 0 u.slot := ⟨_, rfl⟩
  have eq : x = t.set Reg.R6020_LAST_STATUS Code.UPDATE_ABANDONED := by
    rw [made, told, closed, emptied, Dev.endUpdate, has]
  have keepsF : d.Keeps f [.flash] := by rw [emptied]; exact .when _ _ (d.keeps_setSlotImage _ _)
  have keepsG : f.Keeps g [.boot] := by rw [closed]; exact Dev.keeps_setBoot _ _
  have keepsT : g.Keeps t [.od, .log, .event] := by rw [told]; exact Dev.keeps_raise _ _ _ _ _ _
  have keepsX : t.Keeps x [.od] := by rw [eq]; exact Dev.keeps_set _ _ _
  have late : f.Keeps x [.boot, .od, .log, .event] := ((keepsG.mono (by decide)).step keepsT).step keepsX
  have flash : x.flash = f.flash := late .flash (by decide)
  have over_ : g.boot.update = none := by rw [closed]; rfl
  have boot : x.boot = g.boot := ((keepsT.mono (by decide)).step (m := [.od]) (l := [.od, .log, .event]) keepsX) .boot (by decide)
  have last : t.LastRaised Code.UPDATE_ABANDONED Kind.other 0 := by rw [told]; exact Dev.lastRaised_raise _ _ _ _ _ _
  have type : odType Reg.R6020_LAST_STATUS = .u16 := by decide +kernel
  have slots : f.fwSlot u.slot = (if (d.fwSlot u.slot).state = SlotState.staged then d.fwSlot u.slot else {}) ∧
      ∀ k, k ≠ u.slot → f.fwSlot k = d.fwSlot k := by
    rw [emptied]
    by_cases staged : (d.fwSlot u.slot).state = SlotState.staged
    · rw [Dev.when, if_neg (by simp [staged]), if_pos staged]
      exact ⟨rfl, fun _ _ => rfl⟩
    · rw [Dev.when, if_pos (by simp [staged]), if_neg staged]
      exact ⟨Dev.fwSlot_setSlotImage_same _ _ _, fun k hk => Dev.fwSlot_setSlotImage_other _ hk _⟩
  refine ⟨⟨(congrArg Boot.update boot).trans over_, last.of_keeps keepsX, ?_, (Dev.fwSlot_congr f flash _).trans slots.1,
    fun k hk => (Dev.fwSlot_congr f flash k).trans (slots.2 k hk)⟩, (keepsF.mono (by decide)).step late⟩
  rw [eq]
  exact t.nat_set_same type rfl (by decide)

theorem Dev.updateTimeout_some {d : Dev} {u : Update} (has : d.boot.update = some u) : d.updateTimeout =
    if (d.fwSlot u.slot).state = SlotState.receiving ∧ u.last + d.nat Reg.R6020_TIMEOUT_S * 1000000000 ≤ d.rawNow then d.endUpdate else d := by
  rw [Dev.updateTimeout, has]

theorem timeout_ends (live : s.Live) {u : Update} (has : s.found.boot.update = some u)
    (due : (s.found.fwSlot u.slot).state = SlotState.receiving ∧ u.last + s.found.nat Reg.R6020_TIMEOUT_S * 1000000000 ≤ s.found.rawNow) :
    Does .updateSessionTimeout s fun b a => b.Ended a u := by
  obtain ⟨x, made⟩ : ∃ x, x = s.found.endUpdate := ⟨_, rfl⟩
  obtain ⟨ended, keeps⟩ := Dev.endUpdate_ends has made
  have leaves : Leaves .updateSessionTimeout s x :=
    .dry (guard := Dev.live) (fun d => d.updateTimeout) live.passes (((Dev.updateTimeout_some has).trans (if_pos due)).trans made.symm) keeps
  exact leaves.does fun pend vecs => ended.of_keeps (x.keeps_told pend vecs)

theorem timeout_idle (live : s.Live) (idle : s.found.updateTimeout = s.found) : Does .updateSessionTimeout s fun b a => b.Keeps a [] := by
  have leaves : Leaves .updateSessionTimeout s s.found :=
    .dry (guard := Dev.live) (l := []) (fun d => d.updateTimeout) live.passes idle (Dev.Keeps.refl _ _)
  exact leaves.quietly rfl (Dev.Keeps.refl _ _)

section
variable (serves : s.found.Serves r 0x6020) {u : Update} (has : s.found.boot.update = some u)
include serves has

theorem abandon_ends (ok : s.found.WriteOk r 0x6020 5 [0]) (bound : r ∈ u.bound) : Does (.updateAbandon r) s fun b a =>
    a.done = Code.STATUS_OK ∧ b.Ended a u := by
  obtain ⟨-, -, ⟨e, j, found⟩, -⟩ := located_update
  obtain ⟨f, ended_⟩ : ∃ f, f = s.found.endUpdate := ⟨_, rfl⟩
  obtain ⟨ended, keepsF⟩ := Dev.endUpdate_ends has ended_
  obtain ⟨x, made⟩ : ∃ x, x = f.finish Code.STATUS_OK := ⟨_, rfl⟩
  have keepsX : f.Keeps x [.done] := by rw [made]; exact Dev.keeps_finish _ _
  have done : x.done = Code.STATUS_OK := by rw [made]; rfl
  have result : s.found.updateAbandon r = x := by
    unfold Dev.updateAbandon
    rw [has]
    dsimp only
    rw [if_pos (List.contains_iff_mem.2 bound), made, ended_]
  exact served_does (l := [.flash, .boot, .od, .log, .event, .done]) serves found ok (congrArg some result) ((keepsF.mono (by decide)).step keepsX)
    fun a ha => ⟨(ha .done (by decide)).trans done, (ended.of_keeps keepsX).of_keeps ha⟩

theorem abandon_refused (ok : s.found.WriteOk r 0x6020 5 [0]) (other : r ∉ u.bound) : Does (.updateAbandon r) s fun b a =>
    (a.done = Code.UPDATE_BUSY ∧ a.nat Reg.R6020_LAST_STATUS = Code.UPDATE_BUSY) ∧ a.LastRaised Code.UPDATE_BUSY Kind.device 0 ∧
    a.boot = b.boot ∧ a.flash = b.flash := by
  obtain ⟨-, -, ⟨e, j, found⟩, -⟩ := located_update
  have result : s.found.updateAbandon r = s.found.updRefused Code.UPDATE_BUSY := by
    unfold Dev.updateAbandon
    rw [has]
    exact if_neg fun there => other (List.contains_iff_mem.1 there)
  exact update_refused serves found ok (by decide) (congrArg some result)

/-! ## ACTIVATE -/

section
variable (clock : s.ClockOk) {v : Nat} (bit : v ≤ 1) (ok : s.found.WriteOk r 0x6020 9 [byte v])
include clock bit ok

omit has in
theorem activate_does {x : Dev} {l : List Part} {P : Dev → Dev → Prop} (result : s.found.updateActivate r v = x) (keeps : s.found.Keeps x l)
    (p : ∀ a, x.Keeps a [.safe, .serve] → P s.found a) (within : Part.clk ∉ l := by decide) : Does (.activate r v) s P := by
  obtain ⟨-, -, -, ⟨e, j, found, type⟩, -⟩ := located_update
  have value : (e.ty.wrap (leNat [byte v])).toNat = v := by
    rw [type]
    interval_cases v <;> rfl
  have special : s.found.writeSpecial r 0x6020 9 (e.ty.wrap (leNat [byte v])) [byte v] = some (s.found.updateActivate r v) :=
    congrArg (fun n => some (s.found.updateActivate r n)) value
  exact served_clocked serves found ok (special.trans (congrArg some result)) clock keeps p within

theorem activate_activates (bound : r ∈ u.bound) (staged : (s.found.fwSlot u.slot).state = SlotState.staged)
    (normal : s.found.boot.recovery = false) : Does (.activate r v) s fun b a =>
      (a.done = Code.STATUS_OK ∧ a.nat Reg.R6020_LAST_STATUS = Code.STATUS_OK) ∧ mget 0 a.flash.activated u.kind = v * (u.slot + 1) ∧
      a.flash.slots = b.flash.slots ∧ a.boot = b.boot := by
  obtain ⟨g, hg⟩ : ∃ g : Flash → Flash, g = fun fl => { fl with activated := mset 0 fl.activated u.kind (v * (u.slot + 1)), inForce := if v = 0 then fl.inForce else fl.inForce.filter fun x => x.1 == Step.lpddrTrain } := ⟨_, rfl⟩
  obtain ⟨f, entered⟩ : ∃ f, f = s.found.setFlash g := ⟨_, rfl⟩
  obtain ⟨x, made⟩ : ∃ x, x = f.updDone Code.STATUS_OK := ⟨_, rfl⟩
  have keepsF : s.found.Keeps f [.flash] := by rw [entered]; exact Dev.keeps_setFlash _ _
  have keepsX : f.Keeps x [.od, .done] := by rw [made]; exact Dev.keeps_updDone _ _
  have all : s.found.Keeps x [.flash, .od, .done] := (keepsF.mono (by decide)).step keepsX
  have told : x.UpdTold Code.STATUS_OK := by rw [made]; exact Dev.told_updDone _ (by decide)
  have result : s.found.updateActivate r v = x := by
    unfold Dev.updateActivate
    rw [has]
    dsimp only
    rw [if_neg (by simpa using bound), if_neg (not_not_intro staged)]
    interval_cases v
    · rw [if_pos rfl, made, entered, hg]
      simp
    · have recovery : x.boot.recovery = false := (congrArg Boot.recovery (all .boot (by decide))).trans normal
      rw [if_neg (by decide), if_pos rfl]
      have stage : (s.found.setFlash fun fl => { fl with activated := mset 0 fl.activated u.kind (u.slot + 1), inForce := fl.inForce.filter fun x => x.1 == Step.lpddrTrain }).updDone Code.STATUS_OK = x := by
        rw [made, entered, hg]
        simp
      rw [stage, Dev.when, if_neg (by simp [recovery])]
  have flash : x.flash = g s.found.flash := by
    have same : x.flash = f.flash := keepsX .flash (by decide)
    rw [same, entered]
    rfl
  refine activate_does serves clock bit ok result all fun a ha => ?_
  have flashA : a.flash = g s.found.flash := Eq.trans (ha .flash (by decide)) flash
  refine ⟨told.of_keeps ha, ?_, ?_, (ha .boot (by decide)).trans (all .boot (by decide))⟩
  · rw [flashA, hg]
    exact mget_mset_same _ _ _ _
  · rw [flashA, hg]

theorem activate_unstaged (bound : r ∈ u.bound) (unstaged : (s.found.fwSlot u.slot).state ≠ SlotState.staged) : Does (.activate r v) s fun b a =>
    (a.done = Code.OD_STATE ∧ a.nat Reg.R6020_LAST_STATUS = Code.OD_STATE) ∧ a.flash = b.flash ∧ a.boot = b.boot := by
  have result : s.found.updateActivate r v = s.found.updDone Code.OD_STATE := by
    unfold Dev.updateActivate
    rw [has]
    dsimp only
    rw [if_neg (by simpa using bound), if_pos unstaged]
  have keeps := s.found.keeps_updDone Code.OD_STATE
  exact activate_does serves clock bit ok result keeps fun a ha => ⟨(Dev.told_updDone _ (by decide)).of_keeps ha,
    (ha .flash (by decide)).trans (keeps .flash (by decide)), (ha .boot (by decide)).trans (keeps .boot (by decide))⟩

theorem activate_refused (other : r ∉ u.bound) : Does (.activate r v) s fun b a =>
    (a.done = Code.UPDATE_BUSY ∧ a.nat Reg.R6020_LAST_STATUS = Code.UPDATE_BUSY) ∧ a.LastRaised Code.UPDATE_BUSY Kind.device 0 ∧
    a.boot = b.boot ∧ a.flash = b.flash := by
  have result : s.found.updateActivate r v = s.found.updRefused Code.UPDATE_BUSY := by
    unfold Dev.updateActivate
    rw [has]
    dsimp only
    rw [if_pos (by simpa using other)]
  obtain ⟨told, last, keeps⟩ := s.found.updRefused_refuses (code := Code.UPDATE_BUSY) (by decide)
  exact activate_does serves clock bit ok result keeps fun a ha => ⟨told.of_keeps ha, last.of_keeps ha,
    (ha .boot (by decide)).trans (keeps .boot (by decide)), (ha .flash (by decide)).trans (keeps .flash (by decide))⟩

end
end

/-! ## CONFIRM -/

section
variable (d : Dev)

/-- The image of a slot made the previous one. -/
def Dev.madePrevious (k : Nat) : Dev := d.setSlotImage k { d.fwSlot k with state := SlotState.previous }

/-- The images of some slots, each made the previous one. -/
def Dev.supersedeAll (l : List Nat) : Dev := each l (fun k d => d.madePrevious k) d

theorem Dev.keeps_supersedeAll (l : List Nat) : d.Keeps (d.supersedeAll l) [.flash] :=
  .each l (fun k (e : Dev) => e.madePrevious k) (fun k (e : Dev) => e.keeps_setSlotImage k _) d

theorem Dev.supersedeAll_minima (l : List Nat) :
    (d.supersedeAll l).flash.fwMin = d.flash.fwMin ∧ (d.supersedeAll l).flash.appMin = d.flash.appMin :=
  each_holds (fun e : Dev => e.flash.fwMin = d.flash.fwMin ∧ e.flash.appMin = d.flash.appMin) l (fun k (e : Dev) => e.madePrevious k) (fun _ _ _ h => h) ⟨rfl, rfl⟩

theorem Dev.fwSlot_supersedeAll_other {l : List Nat} {j : Nat} (h : j ∉ l) : (d.supersedeAll l).fwSlot j = d.fwSlot j :=
  each_holds (fun e : Dev => e.fwSlot j = d.fwSlot j) l (fun k (e : Dev) => e.madePrevious k)
    (fun k hk e he => (e.fwSlot_setSlotImage_other (show j ≠ k from fun eq => h (eq ▸ hk)) _).trans he) rfl

theorem Dev.fwSlot_supersedeAll {l : List Nat} {j : Nat} (h : j ∈ l) : ((d.supersedeAll l).fwSlot j).state = SlotState.previous := by
  refine each_reaches (fun _ => True) (fun e : Dev => (e.fwSlot j).state = SlotState.previous) h (fun _ _ _ _ => trivial) (fun k _ e _ he => ?_)
    (fun e _ => ?_) trivial
  · rw [Dev.madePrevious]
    by_cases eq : j = k
    · subst eq
      rw [Dev.fwSlot_setSlotImage_same]
    · rw [Dev.fwSlot_setSlotImage_other _ eq]
      exact he
  · rw [Dev.madePrevious, Dev.fwSlot_setSlotImage_same]

/-- The other slots of a slot's kind that hold a confirmed image. -/
def Dev.superseded (s : Nat) : List Nat :=
  (if s < 2 then [0, 1] else [2, 3]).filter fun k => (d.fwSlot k).state == SlotState.confirmed

/-- What the confirmation of a slot leaves. -/
structure Dev.SlotConfirmed (d e : Dev) (k : Nat) : Prop where
  slot : e.fwSlot k = { d.fwSlot k with state := SlotState.confirmed }
  before : ∀ j < 4, j / 2 = k / 2 → (d.fwSlot j).state = SlotState.confirmed → (e.fwSlot j).state = SlotState.previous
  others : ∀ j < 4, j / 2 ≠ k / 2 → e.fwSlot j = d.fwSlot j
  fwMin : e.flash.fwMin = if k < 2 then max d.flash.fwMin (imgSec (d.fwSlot k).image) else d.flash.fwMin
  appMin : e.flash.appMin = if k < 2 then d.flash.appMin else max d.flash.appMin (imgSec (d.fwSlot k).image)
  last : e.LastRaised Code.UPDATE_CONFIRMED Kind.other 0
  keeps : d.Keeps e [.flash, .od, .log, .event]

theorem Dev.confirmSlot_confirms {k : Nat} (hk : k < 4) (trial : (d.fwSlot k).state = SlotState.trial) {e : Dev} (made : e = d.confirmSlot k) :
    d.SlotConfirmed e k := by
  obtain ⟨f, recorded⟩ : ∃ f, f = d.setFlash fun fl => { fl with confirms := fl.confirms ++ [(k, imgSec (d.fwSlot k).image)], activated := mset 0 fl.activated (slotKind k) 0 } := ⟨_, rfl⟩
  obtain ⟨g, gone⟩ : ∃ g, g = f.supersedeAll (d.superseded k) := ⟨_, rfl⟩
  obtain ⟨c, confirmed⟩ : ∃ c, c = g.setSlotImage k { d.fwSlot k with state := SlotState.confirmed } := ⟨_, rfl⟩
  obtain ⟨m, raised⟩ : ∃ m, m = c.setFlash fun fl =>
    if k < 2 then { fl with fwMin := max fl.fwMin (imgSec (d.fwSlot k).image) } else { fl with appMin := max fl.appMin (imgSec (d.fwSlot k).image) } := ⟨_, rfl⟩
  have eq : e = m.raise Code.UPDATE_CONFIRMED Kind.other 0 0 k := by
    rw [made, raised, confirmed, gone, recorded]
    rfl
  have keepsF : d.Keeps f [.flash] := by rw [recorded]; exact Dev.keeps_setFlash _ _
  have keepsG : f.Keeps g [.flash] := by rw [gone]; exact Dev.keeps_supersedeAll _ _
  have keepsC : g.Keeps c [.flash] := by rw [confirmed]; exact Dev.keeps_setSlotImage _ _ _
  have keepsM : c.Keeps m [.flash] := by rw [raised]; exact Dev.keeps_setFlash _ _
  have keepsE : m.Keeps e [.od, .log, .event] := by rw [eq]; exact Dev.keeps_raise _ _ _ _ _ _
  have flash : e.flash = m.flash := keepsE .flash (by decide)
  have slots : m.flash.slots = c.flash.slots := by
    rw [raised, Dev.setFlash]
    dsimp only
    split_ifs <;> rfl
  have slotC : ∀ j, e.fwSlot j = c.fwSlot j := fun j => by rw [Dev.fwSlot, Dev.fwSlot, flash, slots]
  have slotF : ∀ j, f.fwSlot j = d.fwSlot j := fun j => by rw [recorded]; rfl
  have minF : f.flash.fwMin = d.flash.fwMin ∧ f.flash.appMin = d.flash.appMin := by rw [recorded]; exact ⟨rfl, rfl⟩
  have minG : g.flash.fwMin = d.flash.fwMin ∧ g.flash.appMin = d.flash.appMin := by
    rw [gone, (f.supersedeAll_minima _).1, (f.supersedeAll_minima _).2]
    exact minF
  have minC : c.flash.fwMin = g.flash.fwMin ∧ c.flash.appMin = g.flash.appMin := by rw [confirmed]; exact ⟨rfl, rfl⟩
  have same : ∀ j, j ∈ d.superseded k → j / 2 = k / 2 ∧ (d.fwSlot j).state = SlotState.confirmed := fun j hj => by
    obtain ⟨listed, state⟩ := List.mem_filter.1 hj
    refine ⟨?_, by simpa using state⟩
    split_ifs at listed <;> simp only [List.mem_cons, List.not_mem_nil, or_false] at listed <;> omega
  refine ⟨?_, fun j hj kin state => ?_, fun j hj far => ?_, ?_, ?_, ?_, ((((keepsF.mono (by decide)).step keepsG).step keepsC).step keepsM).step keepsE⟩
  · rw [slotC, confirmed, Dev.fwSlot_setSlotImage_same]
  · have apart : j ≠ k := by
      rintro rfl
      rw [trial] at state
      exact absurd state (by decide)
    have listed : j ∈ d.superseded k := by
      refine List.mem_filter.2 ⟨?_, by simpa using state⟩
      split_ifs <;> simp only [List.mem_cons, List.not_mem_nil, or_false] <;> omega
    rw [slotC, confirmed, Dev.fwSlot_setSlotImage_other _ apart, gone]
    exact f.fwSlot_supersedeAll listed
  · have apart : j ≠ k := fun eq => far (by rw [eq])
    rw [slotC, confirmed, Dev.fwSlot_setSlotImage_other _ apart, gone, Dev.fwSlot_supersedeAll_other _ fun mem => far (same j mem).1, slotF]
  · rw [flash, raised, ← minG.1, ← minC.1, Dev.setFlash]
    dsimp only
    split_ifs <;> rfl
  · rw [flash, raised, ← minG.2, ← minC.2, Dev.setFlash]
    dsimp only
    split_ifs <;> rfl
  · rw [eq]
    exact m.lastRaised_raise _ _ _ _ _

/-- The slots that hold an image on trial. -/
def Dev.trials : List Nat := [0, 1, 2, 3].filter fun s => (d.fwSlot s).state == SlotState.trial

/-- The settings generation in use made the confirmed one. -/
def Dev.confirmSettings : Dev :=
  d.when ((d.setSlotOf d.flash.setUse).sstate == 2) fun e =>
    (e.putSetSlot d.flash.setUse { e.setSlotOf d.flash.setUse with sstate := 1 }).putSetSlot (1 - d.flash.setUse)
      { e.setSlotOf (1 - d.flash.setUse) with sstate := 3 }

theorem Dev.confirmSettings_keeps : d.Keeps d.confirmSettings [.flash] ∧ d.confirmSettings.flash.slots = d.flash.slots ∧
    d.confirmSettings.flash.fwMin = d.flash.fwMin ∧ d.confirmSettings.flash.appMin = d.flash.appMin := by
  unfold Dev.confirmSettings Dev.when
  split_ifs
  · exact ⟨((d.keeps_setFlash _).mono (by decide)).step (Dev.keeps_setFlash _ _), rfl, rfl, rfl⟩
  · exact ⟨Dev.Keeps.refl _ _, rfl, rfl, rfl⟩

theorem Dev.updateConfirm_eq (proven : 4000 ≤ d.nat Reg.R6020_CONFIRM_CYCLES) : d.updateConfirm =
    if d.trials.isEmpty then d.updDone Code.STATUS_OK else (each d.trials (fun s d => d.confirmSlot s) d).confirmSettings.updDone Code.STATUS_OK := by
  unfold Dev.updateConfirm
  extract_lets trials
  rw [if_neg (Nat.not_lt.2 proven)]
  rfl

theorem Dev.trials_one {k : Nat} (hk : k < 4) (trial : (d.fwSlot k).state = SlotState.trial)
    (alone : ∀ j < 4, j ≠ k → (d.fwSlot j).state ≠ SlotState.trial) : d.trials = [k] := by
  have only : ∀ j < 4, ((d.fwSlot j).state == SlotState.trial) = decide (j = k) := fun j hj => by
    by_cases eq : j = k
    · rw [eq, trial]
      simp
    · simp [alone j hj eq, eq]
  have eq : d.trials = [0, 1, 2, 3].filter fun j => decide (j = k) := List.filter_congr fun j hj => only j (by
    simp only [List.mem_cons, List.not_mem_nil, or_false] at hj
    omega)
  rw [eq]
  interval_cases k <;> rfl

end

section
variable (serves : s.found.Serves r 0x6020) (ok : s.found.WriteOk r 0x6020 10 [0])
include serves ok

theorem confirm_unproven (few : s.found.nat Reg.R6020_CONFIRM_CYCLES < 4000) : Does (.confirm r) s fun b a =>
    (a.done = Code.UPDATE_NOT_PROVEN ∧ a.nat Reg.R6020_LAST_STATUS = Code.UPDATE_NOT_PROVEN) ∧ a.LastRaised Code.UPDATE_NOT_PROVEN Kind.device 0 ∧
    a.boot = b.boot ∧ a.flash = b.flash := by
  obtain ⟨-, -, -, -, e, j, found⟩ := located_update
  have result : s.found.updateConfirm = s.found.updRefused Code.UPDATE_NOT_PROVEN := by
    unfold Dev.updateConfirm
    rw [if_pos few]
  exact update_refused serves found ok (by decide) (congrArg some result)

section
variable (proven : 4000 ≤ s.found.nat Reg.R6020_CONFIRM_CYCLES)
include proven

theorem confirm_nothing (calm : ∀ k < 4, (s.found.fwSlot k).state ≠ SlotState.trial) : Does (.confirm r) s fun b a =>
    (a.done = Code.STATUS_OK ∧ a.nat Reg.R6020_LAST_STATUS = Code.STATUS_OK) ∧ a.flash = b.flash ∧ a.log = b.log := by
  obtain ⟨-, -, -, -, e, j, found⟩ := located_update
  have empty : s.found.trials = [] := List.filter_eq_nil_iff.2 fun j hj => by
    have four : j < 4 := by
      simp only [List.mem_cons, List.not_mem_nil, or_false] at hj
      omega
    simpa using calm j four
  have result : s.found.updateConfirm = s.found.updDone Code.STATUS_OK := by
    rw [Dev.updateConfirm_eq _ proven, empty]
    rfl
  have keeps := s.found.keeps_updDone Code.STATUS_OK
  exact served_does serves found ok (congrArg some result) keeps fun a ha => ⟨(Dev.told_updDone _ (by decide)).of_keeps ha,
    (ha .flash (by decide)).trans (keeps .flash (by decide)), (ha .log (by decide)).trans (keeps .log (by decide))⟩

theorem confirm_confirms {k : Nat} (hk : k < 4) (trial : (s.found.fwSlot k).state = SlotState.trial)
    (alone : ∀ j < 4, j ≠ k → (s.found.fwSlot j).state ≠ SlotState.trial) : Does (.confirm r) s fun b a =>
      (a.done = Code.STATUS_OK ∧ a.nat Reg.R6020_LAST_STATUS = Code.STATUS_OK) ∧
      a.fwSlot k = { b.fwSlot k with state := SlotState.confirmed } ∧
      (∀ j < 4, j / 2 = k / 2 → (b.fwSlot j).state = SlotState.confirmed → (a.fwSlot j).state = SlotState.previous) ∧
      (∀ j < 4, j / 2 ≠ k / 2 → a.fwSlot j = b.fwSlot j) ∧
      a.flash.fwMin = (if k < 2 then max b.flash.fwMin (imgSec (b.fwSlot k).image) else b.flash.fwMin) ∧
      a.flash.appMin = (if k < 2 then b.flash.appMin else max b.flash.appMin (imgSec (b.fwSlot k).image)) ∧
      a.LastRaised Code.UPDATE_CONFIRMED Kind.other 0 := by
  obtain ⟨-, -, -, -, e, j, found⟩ := located_update
  obtain ⟨f, done⟩ : ∃ f, f = s.found.confirmSlot k := ⟨_, rfl⟩
  obtain ⟨slot, before, others, fwMin, appMin, last, keepsF⟩ := s.found.confirmSlot_confirms hk trial done
  obtain ⟨g, settled⟩ : ∃ g, g = f.confirmSettings := ⟨_, rfl⟩
  obtain ⟨keepsG, slotsG, fwG, appG⟩ := f.confirmSettings_keeps
  rw [← settled] at keepsG slotsG fwG appG
  obtain ⟨x, made⟩ : ∃ x, x = g.updDone Code.STATUS_OK := ⟨_, rfl⟩
  have keepsX : g.Keeps x [.od, .done] := by rw [made]; exact Dev.keeps_updDone _ _
  have told : x.UpdTold Code.STATUS_OK := by rw [made]; exact Dev.told_updDone _ (by decide)
  have result : s.found.updateConfirm = x := by
    rw [Dev.updateConfirm_eq _ proven, Dev.trials_one _ hk trial alone, each_one, made, settled, done]
    rfl
  have all : s.found.Keeps x [.flash, .od, .log, .event, .done] := ((keepsF.mono (by decide)).step keepsG).step keepsX
  refine served_does serves found ok (congrArg some result) all fun a ha => ?_
  have flash : a.flash = g.flash := Eq.trans (ha .flash (by decide)) (keepsX .flash (by decide))
  have slots : ∀ n, a.fwSlot n = f.fwSlot n := fun n => by rw [Dev.fwSlot, Dev.fwSlot, flash, slotsG]
  refine ⟨told.of_keeps ha, (slots k).trans slot, fun n hn kin state => ?_, fun n hn far => (slots n).trans (others n hn far), ?_, ?_,
    ((last.of_keeps keepsG).of_keeps keepsX).of_keeps ha⟩
  · rw [slots]
    exact before n hn kin state
  · rw [flash, fwG, fwMin]
  · rw [flash, appG, appMin]

end
end
end

end Sys2Proof.Machine
end

section
/-! # Application keys, debug access, attestation (R490 to R497) -/

namespace Sys2Proof.Machine

section
variable {s : State}

/-! ## A refusal that is logged -/

/-- The code raised and answered. -/
def Dev.refuse (d : Dev) (code : Nat) : Dev := (d.raise code Kind.device 0).finish code

theorem Dev.refuse_refuses (d : Dev) (code : Nat) : (d.refuse code).done = code ∧ (d.refuse code).LastRaised code Kind.device 0 ∧
    (d.refuse code).nat Reg.R6050_DEBUG_SCOPE = d.nat Reg.R6050_DEBUG_SCOPE ∧ d.Keeps (d.refuse code) [.od, .log, .event, .done] := by
  refine ⟨rfl, d.lastRaised_raise _ _ _ _ _, ?_, ((Dev.keeps_raise _ _ _ _ _ _).mono (by decide)).step (Dev.keeps_finish _ _)⟩
  rw [Dev.nat, Dev.nat, Dev.refuse, Dev.reg_finish, d.reg_raise _ _ _ _ _ (by decide)]

/-- What a refused request for a key, a token or a report leaves. -/
def Dev.TurnsDown (b a : Dev) (code : Nat) : Prop :=
  a.done = code ∧ a.LastRaised code Kind.device 0 ∧ a.flash = b.flash ∧ a.nat Reg.R6050_DEBUG_SCOPE = b.nat Reg.R6050_DEBUG_SCOPE

theorem Dev.refuse_leaves {d x a : Dev} {l : List Part} {code : Nat} (made : x = d.refuse code) (keeps : x.Keeps a l)
    (out : ∀ p ∈ [Part.done, .log, .od, .flash], p ∉ l := by decide) : d.TurnsDown a code := by
  obtain ⟨done, last, scope, keepsX⟩ := d.refuse_refuses code
  rw [← made] at done last scope keepsX
  have od : a.od = x.od := keeps .od (out _ (by simp))
  exact ⟨Eq.trans (keeps .done (out _ (by simp))) done, last.of_keeps keeps (out _ (by simp)),
    Eq.trans (keeps .flash (out _ (by simp))) (keepsX .flash (by decide)), (Dev.nat_congr od _).trans scope⟩

/-! ## Application keys -/

section
variable {r : Requester} {data : Bytes} (serves : s.found.Serves r 0x6040) (ok : s.found.WriteOk r 0x6040 5 data) (length : data.length = 68)
include serves ok length

omit serves length in
theorem located_enroll : ∃ e j, locate 0x6040 5 = .entry e j ∧ s.found.slAllowed r = true := by
  obtain ⟨e, j, found, check, -⟩ := ok
  refine ⟨e, j, found, ?_⟩
  have sl : e.acc = .sl := by
    have eq : locate 0x6040 5 = .entry _ _ := rfl
    obtain ⟨rfl, -⟩ : _ = e ∧ _ = j := by simpa using eq.symm.trans found
    rfl
  by_contra no
  have no' : s.found.slAllowed r = false := by simpa using no
  unfold Dev.writeCheck at check
  rw [if_neg (by decide), if_neg (by simp [sl])] at check
  by_cases path : s.found.pathOpen r 0x6040 5 = true
  · rw [if_neg (by simp [path]), if_pos ⟨sl, no'⟩] at check
    exact absurd check (by decide)
  · rw [if_pos (by simp [path])] at check
    exact absurd check (by decide)

theorem enroll_enrols (room : s.found.flash.apps.length < 4) : Does (.appKeyEnroll r data) s fun b a =>
    a.done = Code.STATUS_OK ∧ a.flash.apps = b.flash.apps ++ [shake256 32 data] ∧
    (b.flash.apps ≠ [] → a.flash.revoked = b.flash.revoked ++ [3 + b.flash.apps.length]) ∧
    (b.flash.apps = [] → a.flash.revoked = b.flash.revoked) ∧ a.flash.slots = b.flash.slots := by
  obtain ⟨e, j, found, allowed⟩ := located_enroll ok
  obtain ⟨n, count⟩ : ∃ n, n = s.found.flash.apps.length := ⟨_, rfl⟩
  obtain ⟨f, entered⟩ : ∃ f, f = s.found.setFlash fun fl =>
    { fl with apps := fl.apps ++ [shake256 32 data], revoked := if n = 0 then fl.revoked else fl.revoked ++ [4 + n - 1] } := ⟨_, rfl⟩
  obtain ⟨x, made⟩ : ∃ x, x = f.finish Code.STATUS_OK := ⟨_, rfl⟩
  have keepsF : s.found.Keeps f [.flash] := by rw [entered]; exact Dev.keeps_setFlash _ _
  have keepsX : f.Keeps x [.done] := by rw [made]; exact Dev.keeps_finish _ _
  have done : x.done = Code.STATUS_OK := by rw [made]; rfl
  have result : s.found.appKeyEnroll r data = x := by
    unfold Dev.appKeyEnroll
    rw [if_neg (by simp [allowed]), if_neg (by simp [length])]
    dsimp only
    rw [if_neg (Nat.not_le.2 room), made, entered, count]
  refine served_does serves found ok (congrArg some result) ((keepsF.mono (m := [.flash, .done]) (by decide)).step keepsX) fun a ha => ?_
  have flash : a.flash = f.flash := Eq.trans (ha .flash (by decide)) (keepsX .flash (by decide))
  refine ⟨Eq.trans (ha .done (by decide)) done, by rw [flash, entered]; rfl, fun some_ => ?_, fun none_ => ?_, by rw [flash, entered]; rfl⟩
  · have pos : 0 < n := count ▸ List.length_pos_iff.2 some_
    rw [flash, entered, ← count]
    dsimp only [Dev.setFlash]
    rw [if_neg (Nat.ne_of_gt pos), show 4 + n - 1 = 3 + n by omega]
  · have zero : n = 0 := by rw [count, none_]; rfl
    rw [flash, entered]
    exact if_pos zero

theorem enroll_full (full : 4 ≤ s.found.flash.apps.length) : Does (.appKeyEnroll r data) s fun b a => b.TurnsDown a Code.KEY_SLOTS_FULL := by
  obtain ⟨e, j, found, allowed⟩ := located_enroll ok
  obtain ⟨x, made⟩ : ∃ x, x = s.found.refuse Code.KEY_SLOTS_FULL := ⟨_, rfl⟩
  have result : s.found.appKeyEnroll r data = x := by
    unfold Dev.appKeyEnroll
    rw [if_neg (by simp [allowed]), if_neg (by simp [length])]
    dsimp only
    rw [if_pos full, made, Dev.refuse]
  have keeps : s.found.Keeps x [.od, .log, .event, .done] := by rw [made]; exact (s.found.refuse_refuses _).2.2.2
  exact served_does serves found ok (congrArg some result) keeps fun a ha => Dev.refuse_leaves made ha

end

/-! ## Debug access -/

theorem challenge_drawn (up : s.Up) : Does .challenge s fun b a =>
    a.done = Code.STATUS_OK ∧ a.resp.data = leBytes 32 (Config.random b.fresh) ∧ a.fresh = b.fresh + 1 ∧
    a.boot.challenge = some (a.resp.data, b.rawNow) ∧ b.KeepsRegs a [] ∧ b.Keeps a [.boot, .fresh, .done] := by
  obtain ⟨n, hn⟩ : ∃ n, n = leBytes 32 (Config.random s.found.fresh) := ⟨_, rfl⟩
  obtain ⟨x, made⟩ : ∃ x, x = s.found.debugChallenge := ⟨_, rfl⟩
  have keeps : s.found.Keeps x [.boot, .fresh, .done] := by
    rw [made]
    intro p hp
    cases p with
    | boot | fresh | done => simp at hp
    | _ => rfl
  have shown : x.done = Code.STATUS_OK ∧ x.resp.data = n ∧ x.fresh = s.found.fresh + 1 ∧ x.boot.challenge = some (n, s.found.rawNow) := by
    rw [made, hn]
    exact ⟨rfl, rfl, rfl, rfl⟩
  obtain ⟨done, data, fresh, drawn⟩ := shown
  have leaves : Leaves .challenge s x := .dry (guard := Dev.up) (fun d => d.debugChallenge) up.passes made.symm keeps
  exact leaves.quietly (keeps .event (by decide))
    ⟨done, data.trans hn, fresh, by rw [drawn, data], fun k _ => Dev.reg_congr (keeps .od (by decide)) k, keeps⟩

section
variable {d : Dev} {t : Bytes}

/-- What an accepted token names. -/
theorem Dev.tokenOk_names (ok : d.tokenOk t = true) : (d.state = DevState.config ∨ d.state = DevState.safe) ∧ slice t 8 16 = serial16 ∧
    (∃ at_, d.boot.challenge = some (slice t 24 32, at_) ∧ d.rawNow ≤ at_ + 600000000000) ∧
    d.keyOk (fieldLE t 5 1 + 1) (slice t 56 68) = true ∧ (fieldLE t 5 1 = 1 → (fieldLE t 4 1).testBit 2 = false) := by
  unfold Dev.tokenOk at ok
  simp only [Bool.and_eq_true] at ok
  obtain ⟨⟨⟨⟨⟨⟨-, state⟩, serial⟩, challenge⟩, key⟩, signer⟩, -⟩ := ok
  refine ⟨by simpa using state, by simpa using serial, ?_, key, fun one => ?_⟩
  · cases drawn : d.boot.challenge with
    | none => rw [drawn] at challenge; cases challenge
    | some c =>
      rw [drawn] at challenge
      obtain ⟨c, at_⟩ := c
      have both : c = slice t 24 32 ∧ d.rawNow ≤ at_ + 600000000000 := by simpa using challenge
      exact ⟨at_, by rw [both.1], both.2⟩
  · rw [one] at signer
    simpa using signer

/-- The challenge a token names, used up. -/
def Dev.challengeUsed (d : Dev) (t : Bytes) : Dev :=
  d.when (match d.boot.challenge with | some (c, _) => c == slice t 24 32 | none => false) fun d => d.setBoot fun b => { b with challenge := none }

theorem Dev.challengeUsed_uses {c : Bytes} {at_ : Nat} (drawn : d.boot.challenge = some (c, at_)) (named : slice t 24 32 = c) :
    (d.challengeUsed t).boot.challenge = none := by
  unfold Dev.challengeUsed
  rw [drawn]
  dsimp only [Dev.when]
  rw [if_pos (by simp [named])]
  rfl

theorem Dev.keeps_challengeUsed : d.Keeps (d.challengeUsed t) [.boot] := .when _ _ (Dev.keeps_setBoot _ _)

theorem Dev.debugUnlock_eq : d.debugUnlock t =
    if d.tokenOk t then (((d.challengeUsed t).set Reg.R6050_DEBUG_SCOPE (fieldLE t 4 1)).raise Code.DEBUG_UNLOCKED Kind.device 0).finish Code.STATUS_OK
    else (d.challengeUsed t).refuse Code.DEBUG_TOKEN_BAD := rfl

end

section
variable (up : s.Up) {t : Bytes}
include up

theorem unlock_opens (accepted : s.found.tokenOk t = true) : Does (.unlock t) s fun b a =>
    a.done = Code.STATUS_OK ∧ a.nat Reg.R6050_DEBUG_SCOPE = fieldLE t 4 1 ∧ a.boot.challenge = none ∧
    a.LastRaised Code.DEBUG_UNLOCKED Kind.device 0 ∧ b.KeepsRegs a (Reg.R6050_DEBUG_SCOPE :: logRegs) := by
  obtain ⟨-, -, ⟨at_, drawn, -⟩, -⟩ := Dev.tokenOk_names accepted
  obtain ⟨f, used⟩ : ∃ f, f = s.found.challengeUsed t := ⟨_, rfl⟩
  obtain ⟨g, opened⟩ : ∃ g, g = f.set Reg.R6050_DEBUG_SCOPE (fieldLE t 4 1) := ⟨_, rfl⟩
  obtain ⟨m, raised⟩ : ∃ m, m = g.raise Code.DEBUG_UNLOCKED Kind.device 0 := ⟨_, rfl⟩
  obtain ⟨x, made⟩ : ∃ x, x = m.finish Code.STATUS_OK := ⟨_, rfl⟩
  have result : s.found.debugUnlock t = x := by
    rw [Dev.debugUnlock_eq, if_pos accepted, made, raised, opened, used]
  have keepsF : s.found.Keeps f [.boot] := by rw [used]; exact Dev.keeps_challengeUsed
  have keepsG : f.Keeps g [.od] := by rw [opened]; exact Dev.keeps_set _ _ _
  have keepsM : g.Keeps m [.od, .log, .event] := by rw [raised]; exact Dev.keeps_raise _ _ _ _ _ _
  have keepsX : m.Keeps x [.done] := by rw [made]; exact Dev.keeps_finish _ _
  have after : f.Keeps x [.od, .log, .event, .done] := ((keepsG.mono (by decide)).step keepsM).step keepsX
  have regs : ∀ k, k ∉ logRegs → x.reg k = g.reg k := fun k hk => by
    rw [made, Dev.reg_finish, raised, g.reg_raise _ _ _ _ _ hk]
  have type : odType Reg.R6050_DEBUG_SCOPE = .u8 := by decide +kernel
  have scope : x.nat Reg.R6050_DEBUG_SCOPE = fieldLE t 4 1 := by
    rw [Dev.nat, regs _ (by decide), ← Dev.nat, opened]
    exact f.nat_set_same type rfl (fieldLE_lt_pow t 4 1)
  have boot : x.boot = f.boot := after .boot (by decide)
  have gone : x.boot.challenge = none := by
    rw [boot, used]
    exact Dev.challengeUsed_uses drawn rfl
  have last : x.LastRaised Code.DEBUG_UNLOCKED Kind.device 0 := by
    rw [made, raised]
    exact g.lastRaised_raise _ _ _ _ _
  have leaves : Leaves (.unlock t) s x :=
    .dry (guard := Dev.up) (fun d => d.debugUnlock t) up.passes result (l := [.boot, .od, .log, .event, .done]) ((keepsF.mono (by decide)).step after)
  refine leaves.does fun pend vecs => ⟨by rw [made]; rfl, scope, gone, last.told _ _, fun k hk => ?_⟩
  have first : k ≠ Reg.R6050_DEBUG_SCOPE := List.ne_of_not_mem_cons hk
  have same : x.reg k = s.found.reg k := by
    rw [regs k (List.not_mem_of_not_mem_cons hk), opened, Dev.reg_set_other _ _ first]
    exact Dev.reg_congr (keepsF .od (by decide)) k
  exact same

theorem unlock_refused (bad : s.found.tokenOk t = false) : Does (.unlock t) s fun b a => b.TurnsDown a Code.DEBUG_TOKEN_BAD ∧
    a.boot = (b.challengeUsed t).boot := by
  obtain ⟨f, used⟩ : ∃ f, f = s.found.challengeUsed t := ⟨_, rfl⟩
  obtain ⟨x, made⟩ : ∃ x, x = f.refuse Code.DEBUG_TOKEN_BAD := ⟨_, rfl⟩
  have result : s.found.debugUnlock t = x := by
    rw [Dev.debugUnlock_eq, if_neg (by simp [bad]), made, used]
  have keepsF : s.found.Keeps f [.boot] := by rw [used]; exact Dev.keeps_challengeUsed
  have keepsX : f.Keeps x [.od, .log, .event, .done] := by rw [made]; exact (f.refuse_refuses _).2.2.2
  have leaves : Leaves (.unlock t) s x :=
    .dry (guard := Dev.up) (fun d => d.debugUnlock t) up.passes result (l := [.boot, .od, .log, .event, .done]) ((keepsF.mono (by decide)).step keepsX)
  refine leaves.does fun pend vecs => ?_
  obtain ⟨done, last, flash, scope⟩ := Dev.refuse_leaves made (x.keeps_told pend vecs)
  have boot : x.boot = f.boot := keepsX .boot (by decide)
  rw [used] at boot
  exact ⟨⟨done, last, flash.trans (keepsF .flash (by decide)), scope.trans (Dev.nat_congr (keepsF .od (by decide)) _)⟩, boot⟩

theorem unlock_uses {c : Bytes} {at_ : Nat} (drawn : s.found.boot.challenge = some (c, at_)) (named : slice t 24 32 = c) :
    Does (.unlock t) s fun _ a => a.boot.challenge = none := by
  by_cases ok : s.found.tokenOk t = true
  · obtain ⟨a, run, -, -, gone, -⟩ := unlock_opens up ok
    exact ⟨a, run, gone⟩
  · obtain ⟨a, run, -, boot⟩ := unlock_refused up (t := t) (by simpa using ok)
    exact ⟨a, run, (congrArg Boot.challenge boot).trans (Dev.challengeUsed_uses drawn named)⟩

end

/-- The three instructions of the test access port. -/
theorem jtag_takes {p : Instr × Nat} (hp : p ∈ [(Instr.idcode, 1), (.bypass, 2), (.samplePreload, 3)]) :
    (s.found.unpowered = false → Does p.1 s fun b a => a.power = { b.power with jtag := p.2 } ∧ b.Keeps a [.power]) ∧
    (s.found.unpowered = true → Does p.1 s fun b a => b.Keeps a []) := by
  have keeps : ∀ n, s.found.Keeps (s.found.jtag n) [.power] := fun n q hq => by
    cases q with
    | power => simp at hq
    | _ => rfl
  have runs : ∃ (i : Instr) (n : Nat), p = (i, n) ∧ exec i s = s.answerDry fun d => d.when (!d.unpowered) fun d => d.jtag n := by
    simp only [List.mem_cons, List.not_mem_nil, or_false] at hp
    rcases hp with rfl | rfl | rfl <;> exact ⟨_, _, rfl, rfl⟩
  obtain ⟨i, n, rfl, hi⟩ := runs
  constructor
  · intro on
    have leaves : Leaves i s (s.found.jtag n) :=
      .dry (guard := fun d g => d.when (!d.unpowered) g) (fun d => d.jtag n) (fun g => by simp [Dev.when, on]) rfl (keeps n) (by decide) hi
    exact leaves.quietly rfl ⟨rfl, keeps n⟩
  · intro off
    have leaves : Leaves i s s.found :=
      .dry (guard := fun d g => g d) (l := []) (fun d => d.when (!d.unpowered) fun d => d.jtag n) (fun _ => rfl) (by simp [Dev.when, off])
        (Dev.Keeps.refl _ _) (by decide) hi
    exact leaves.quietly rfl (Dev.Keeps.refl _ _)

/-! ## Attestation -/

section
variable (up : s.Up) {nonce : Bytes} (length : nonce.length = 32)
include up length

omit length in
theorem attest_refused {code : Nat} (result : s.found.attestRequest nonce = s.found.refuse code) :
    Does (.attestRequest nonce) s fun b a => b.TurnsDown a code := by
  obtain ⟨x, made⟩ : ∃ x, x = s.found.refuse code := ⟨_, rfl⟩
  have keeps : s.found.Keeps x [.od, .log, .event, .done] := by rw [made]; exact (s.found.refuse_refuses _).2.2.2
  have leaves : Leaves (.attestRequest nonce) s x :=
    .dry (guard := Dev.up) (fun d => d.attestRequest nonce) up.passes (result.trans made.symm) keeps
  exact leaves.does fun pend vecs => Dev.refuse_leaves made (x.keeps_told pend vecs)

theorem attest_busy (busy : s.found.nat Reg.R6060_ATT_STATE = 1) : Does (.attestRequest nonce) s fun b a => b.TurnsDown a Code.ATTEST_BUSY := by
  refine attest_refused up ?_
  unfold Dev.attestRequest
  extract_lets refuse
  rw [if_neg (by simp [length]), if_pos busy]
  rfl

section
variable (free : s.found.nat Reg.R6060_ATT_STATE ≠ 1)
include free

theorem attest_exhausted (last : 2 ^ 40 ≤ s.found.flash.attNext) : Does (.attestRequest nonce) s fun b a => b.TurnsDown a Code.ATTEST_EXHAUSTED := by
  refine attest_refused up ?_
  unfold Dev.attestRequest
  extract_lets refuse
  rw [if_neg (by simp [length]), if_neg free, if_pos last]
  rfl

/-- The one-time indices reserved, where none is left of those reserved before. -/
def Flash.reserve (fl : Flash) : Flash := if fl.attNext = fl.attEnd then { fl with attEnd := fl.attNext + 1024 } else fl

omit up length free in
theorem Flash.reserve_reserves (fl : Flash) (order : fl.attNext ≤ fl.attEnd) : fl.reserve.attNext = fl.attNext ∧ fl.reserve.attNext < fl.reserve.attEnd := by
  unfold Flash.reserve
  split_ifs with last
  · exact ⟨rfl, by simp⟩
  · exact ⟨rfl, lt_of_le_of_ne order last⟩

theorem attest_starts (left : s.found.flash.attNext < 2 ^ 40) (order : s.found.flash.attNext ≤ s.found.flash.attEnd) :
    Does (.attestRequest nonce) s fun b a =>
      a.done = Code.STATUS_OK ∧ a.boot.nonce = some nonce ∧ a.nat Reg.R6060_ATT_STATE = 1 ∧ a.flash.attNext = b.flash.attNext ∧
      a.flash.attNext < a.flash.attEnd ∧ b.KeepsRegs a [Reg.R6060_ATT_STATE] := by
  obtain ⟨f, reserved⟩ : ∃ f, f = s.found.setFlash Flash.reserve := ⟨_, rfl⟩
  obtain ⟨g, begun⟩ : ∃ g, g = f.setBoot fun b => { b with nonce := some nonce } := ⟨_, rfl⟩
  obtain ⟨m, shown⟩ : ∃ m, m = g.set Reg.R6060_ATT_STATE 1 := ⟨_, rfl⟩
  obtain ⟨x, made⟩ : ∃ x, x = m.finish Code.STATUS_OK := ⟨_, rfl⟩
  have result : s.found.attestRequest nonce = x := by
    unfold Dev.attestRequest
    extract_lets refuse
    rw [if_neg (by simp [length]), if_neg free, if_neg (Nat.not_le.2 left), made, shown, begun, reserved]
    rfl
  have keepsF : s.found.Keeps f [.flash] := by rw [reserved]; exact Dev.keeps_setFlash _ _
  have keepsG : f.Keeps g [.boot] := by rw [begun]; exact Dev.keeps_setBoot _ _
  have keepsM : g.Keeps m [.od] := by rw [shown]; exact Dev.keeps_set _ _ _
  have keepsX : m.Keeps x [.done] := by rw [made]; exact Dev.keeps_finish _ _
  have all : s.found.Keeps x [.flash, .boot, .od, .done] := (((keepsF.mono (by decide)).step keepsG).step keepsM).step keepsX
  have flash : x.flash = s.found.flash.reserve := by
    have first : x.flash = m.flash := keepsX .flash (by decide)
    have second : m.flash = g.flash := keepsM .flash (by decide)
    have third : g.flash = f.flash := keepsG .flash (by decide)
    rw [first, second, third, reserved]
    rfl
  have boot : x.boot.nonce = some nonce := by
    have first : x.boot = m.boot := keepsX .boot (by decide)
    have second : m.boot = g.boot := keepsM .boot (by decide)
    rw [first, second, begun]
    rfl
  have type : odType Reg.R6060_ATT_STATE = .u8 := by decide +kernel
  have state : x.nat Reg.R6060_ATT_STATE = 1 := by
    rw [made, shown]
    exact g.nat_set_same (n := 1) type rfl (by decide)
  have leaves : Leaves (.attestRequest nonce) s x := .dry (guard := Dev.up) (fun d => d.attestRequest nonce) up.passes result all
  obtain ⟨next, bound⟩ := s.found.flash.reserve_reserves order
  refine leaves.quietly (all .event (by decide)) ⟨by rw [made]; rfl, boot, state, by rw [flash, next], by rw [flash]; exact bound, fun k hk => ?_⟩
  rw [made, Dev.reg_finish, shown, Dev.reg_set_other _ _ (List.ne_of_not_mem_cons hk)]
  exact Dev.reg_congr (((keepsF.mono (m := [.flash, .boot]) (by decide)).step keepsG) .od (by decide)) k

end
end

/-- What a report's end leaves, the report's own bytes past its head apart. -/
theorem Dev.reportReady_eq {d : Dev} {n : Bytes} (has : d.boot.nonce = some n) : ∃ rest, d.reportReady =
    ((((d.setFlash fun fl => { fl with attNext := d.flash.attNext + 1 }).setBoot fun b => { b with nonce := none }).setBytes Reg.R6060_REPORT
      ((leBytes 4 0x54414D4C ++ [1, 0, 0, 0] ++ n) ++ rest)).set Reg.R6060_ATT_STATE 2) := by
  unfold Dev.reportReady
  split
  · rename_i none_
    rw [has] at none_
    cases none_
  rename_i n' has'
  obtain rfl : n' = n := Option.some.inj (has'.symm.trans has)
  extract_lets body k e
  refine ⟨body.drop (leBytes 4 0x54414D4C ++ [1, 0, 0, 0] ++ n').length ++ slice (Config.attestSign k body) 0 9893, ?_⟩
  have front : body = leBytes 4 0x54414D4C ++ [1, 0, 0, 0] ++ n' ++ body.drop (leBytes 4 0x54414D4C ++ [1, 0, 0, 0] ++ n').length := by
    have pre : leBytes 4 0x54414D4C ++ [1, 0, 0, 0] ++ n' <+: body := by
      apply Exists.intro
      simp only [body, List.append_assoc]
      rfl
    exact (List.prefix_iff_eq_append.1 pre).symm
  rw [← List.append_assoc, ← front]

section
variable (live : s.Live)
include live

theorem report_none (none_ : s.found.boot.nonce = none) : Does .reportReady s fun b a => b.Keeps a [] := by
  have idle : s.found.reportReady = s.found := by rw [Dev.reportReady, none_]
  have leaves : Leaves .reportReady s s.found := .dry (guard := Dev.live) (l := []) (fun d => d.reportReady) live.passes idle (Dev.Keeps.refl _ _)
  exact leaves.quietly rfl (Dev.Keeps.refl _ _)

theorem report_done {n : Bytes} (has : s.found.boot.nonce = some n) (length : n.length = 32) : Does .reportReady s fun b a =>
    a.nat Reg.R6060_ATT_STATE = 2 ∧ a.boot.nonce = none ∧ a.flash.attNext = b.flash.attNext + 1 ∧
    (a.bytes Reg.R6060_REPORT).take 40 = leBytes 4 0x54414D4C ++ [1, 0, 0, 0] ++ n ∧ b.KeepsRegs a [Reg.R6060_ATT_STATE] := by
  obtain ⟨rest, eq⟩ := Dev.reportReady_eq has
  obtain ⟨head, hhead⟩ : ∃ head, head = leBytes 4 0x54414D4C ++ [1, 0, 0, 0] ++ n := ⟨_, rfl⟩
  rw [← hhead] at eq
  obtain ⟨f, used⟩ : ∃ f, f = s.found.setFlash fun fl => { fl with attNext := s.found.flash.attNext + 1 } := ⟨_, rfl⟩
  obtain ⟨g, over_⟩ : ∃ g, g = f.setBoot fun b => { b with nonce := none } := ⟨_, rfl⟩
  obtain ⟨m, stored⟩ : ∃ m, m = g.setBytes Reg.R6060_REPORT (head ++ rest) := ⟨_, rfl⟩
  obtain ⟨x, made⟩ : ∃ x, x = m.set Reg.R6060_ATT_STATE 2 := ⟨_, rfl⟩
  have result : s.found.reportReady = x := by rw [eq, made, stored, over_, used]
  have keepsF : s.found.Keeps f [.flash] := by rw [used]; exact Dev.keeps_setFlash _ _
  have keepsG : f.Keeps g [.boot] := by rw [over_]; exact Dev.keeps_setBoot _ _
  have keepsM : g.Keeps m [.dom, .gen] := by rw [stored]; exact Dev.keeps_setBytes _ _ _
  have keepsX : m.Keeps x [.od] := by rw [made]; exact Dev.keeps_set _ _ _
  have last : g.Keeps x [.dom, .gen, .od] := (keepsM.mono (by decide)).step keepsX
  have all : s.found.Keeps x [.flash, .boot, .dom, .gen, .od] := ((keepsF.mono (by decide)).step keepsG).step last
  have type : odType Reg.R6060_ATT_STATE = .u8 := by decide +kernel
  have state : x.nat Reg.R6060_ATT_STATE = 2 := by
    rw [made]
    exact m.nat_set_same (n := 2) type rfl (by decide)
  have boot : x.boot.nonce = none := by
    have same : x.boot = g.boot := last .boot (by decide)
    rw [same, over_]
    rfl
  have next : x.flash.attNext = s.found.flash.attNext + 1 := by
    have same : x.flash = g.flash := last .flash (by decide)
    rw [same, over_, used]
    rfl
  have long : head.length = 40 := by
    rw [hhead]
    simp [length]
  have bytes : x.bytes Reg.R6060_REPORT = head ++ rest := by
    have same : x.bytes Reg.R6060_REPORT = m.bytes Reg.R6060_REPORT := by rw [made]; rfl
    rw [same, stored, Dev.bytes_setBytes, if_pos rfl]
  have leaves : Leaves .reportReady s x := .dry (guard := Dev.live) (fun d => d.reportReady) live.passes result all
  refine leaves.quietly (all .event (by decide)) ⟨state, boot, next, ?_, fun k hk => ?_⟩
  · rw [bytes, ← long, List.take_left, hhead]
  · rw [made, Dev.reg_set_other _ _ (List.ne_of_not_mem_cons hk)]
    have front : s.found.Keeps m [.flash, .boot, .dom, .gen] := ((keepsF.mono (by decide)).step keepsG).step keepsM
    exact Dev.reg_congr (front .od (by decide)) k

end

theorem lpddr_retries (up : s.Up) : Does .lpddrRetry s fun b a =>
    a.done = Code.STATUS_OK ∧ mget 0 a.flash.inForce Step.lpddrTrain = 0 ∧ (∀ f ∈ a.flash.failed, f.1 ≠ Step.lpddrTrain) ∧
    b.Keeps a [.flash, .done] := by
  obtain ⟨f, entered⟩ : ∃ f, f = s.found.setFlash fun fl =>
    { fl with inForce := mset 0 fl.inForce Step.lpddrTrain 0, failed := fl.failed.filter fun f => f.1 != Step.lpddrTrain } := ⟨_, rfl⟩
  obtain ⟨x, made⟩ : ∃ x, x = (f.finish Code.STATUS_OK).finish Code.STATUS_OK := ⟨_, rfl⟩
  have keepsF : s.found.Keeps f [.flash] := by rw [entered]; exact Dev.keeps_setFlash _ _
  have keepsX : s.found.Keeps x [.flash, .done] := by rw [made]; exact ((keepsF.mono (by decide)).finish _).finish _
  have result : s.found.lpddrRetry.finish Code.STATUS_OK = x := by rw [made, entered, Dev.lpddrRetry]
  have flash : x.flash = f.flash := by rw [made]; rfl
  have leaves : Leaves .lpddrRetry s x :=
    .dry (guard := Dev.up) (fun d => d.lpddrRetry.finish Code.STATUS_OK) up.passes result keepsX
  refine leaves.quietly (keepsX .event (by decide)) ⟨by rw [made]; rfl, ?_, fun p hp => ?_, keepsX⟩
  · rw [flash, entered]
    exact mget_mset_same _ _ _ _
  · rw [flash, entered] at hp
    have away := (List.mem_filter.1 hp).2
    simpa using away

end

/-- Settles O57: update sessions, application keys, debug access and attestation. -/
theorem updateAndKeys : Obligations.UpdateAndKeys := by
  unfold Obligations.UpdateAndKeys
  constructor
  · intro s r data live clock d ok told kind formed refused ended
    refine ⟨?_, ?_, ?_, ?_, ?_, ?_⟩
    · rintro ⟨serves, ok⟩ shape recovery other
      obtain ⟨⟨e, j, found⟩, -⟩ := located_update
      obtain ⟨a, run, done, boot, flash, -⟩ := update_answered serves found ok (by decide)
        (congrArg some (Dev.updateOpen_recovery shape s.found recovery other)) (i := .updateOpen r data)
      exact ⟨a, run, done, boot, flash⟩
    · rintro ⟨serves, ok⟩ shape open_
      obtain ⟨⟨e, j, found⟩, -⟩ := located_update
      refine ⟨fun none_ calm => updateOpen_opens shape serves ok open_ none_ calm, fun none_ trial => ?_, fun u has => ?_⟩
      · exact update_refused serves found ok (by decide)
          (congrArg some ((Dev.updateOpen_free shape open_ none_).trans (if_pos trial))) (i := .updateOpen r data)
      · exact update_refused serves found ok (by split_ifs <;> decide) (congrArg some (Dev.updateOpen_busy shape open_ has)) (i := .updateOpen r data)
    · rintro token small ⟨serves, ok⟩
      exact bind_binds small serves ok
    · intro none_
      exact ⟨imageStaged_idle live (by rw [Dev.imageStaged, none_]), timeout_idle live (by rw [Dev.updateTimeout, none_])⟩
    · intro u has
      refine ⟨fun whole receiving => imageStaged_stages live has whole receiving, fun not_ => imageStaged_idle live ?_, ⟨fun due => timeout_ends live has due,
        fun early => timeout_idle live ((Dev.updateTimeout_some has).trans (if_neg early))⟩, ?_, ?_⟩
      · refine (Dev.imageStaged_some has).trans (if_neg ?_)
        rintro ⟨whole, receiving⟩
        rcases not_ with no | no
        · rw [whole] at no; cases no
        · exact no receiving
      · rintro ⟨serves, ok⟩
        exact ⟨fun bound => abandon_ends serves has ok bound, fun other => abandon_refused serves has ok other⟩
      · rintro v bit ⟨serves, ok⟩
        exact ⟨fun bound staged normal => activate_activates serves has clock bit ok bound staged normal,
          fun bound unstaged => activate_unstaged serves has clock bit ok bound unstaged, fun other => activate_refused serves has clock bit ok other⟩
    · rintro ⟨serves, ok⟩
      exact ⟨fun few => confirm_unproven serves ok few, fun proven => ⟨fun calm => confirm_nothing serves ok proven calm,
        fun k hk trial alone => confirm_confirms serves ok proven hk trial alone⟩⟩
  · intro s r data d refused
    refine ⟨fun live serves ok length => ⟨fun room => enroll_enrols serves ok length room, fun full => enroll_full serves ok length full⟩,
      fun up => challenge_drawn up, fun up => ⟨fun ok => unlock_opens up ok, fun bad => ?_, fun c t drawn named => unlock_uses up drawn named⟩,
      fun ok => Dev.tokenOk_names ok, fun p hp => jtag_takes hp, fun up length => ⟨fun busy => attest_busy up length busy,
        fun free last => attest_exhausted up length free last, fun free left order => attest_starts up length free left order⟩,
      fun live => ⟨fun none_ => report_none live none_, fun n has length => report_done live has length⟩, fun up => lpddr_retries up⟩
    obtain ⟨a, run, refuses, -⟩ := unlock_refused up bad
    exact ⟨a, run, refuses⟩

end Sys2Proof.Machine
end

section
/-! # The settings store, the release of the reset, the alternatives of a step (R473 to R475, R486, R487, R531) -/

namespace Sys2Proof.Machine

/-! ## A generation -/

section
variable (d : Dev)

/-- What a written generation leaves. -/
def Dev.Stored (b a : Dev) : Prop :=
  (∃ g r, (a.setSlotOf a.flash.setUse).gens = g :: r ∧ r.length ≤ 1 ∧ g.gen = b.storeNow.gen + 1 ∧ g.od = b.storedOd ∧ g.dom = b.storedDom) ∧
  a.nat Reg.R1004_STORE_STATE = 0 ∧ a.reg Reg.R1004_STORE_GEN = (odType Reg.R1004_STORE_GEN).wrap (b.storeNow.gen + 1 : Nat) ∧
  b.KeepsRegs a [Reg.R1004_STORE_STATE, Reg.R1004_STORE_GEN] ∧ b.Keeps a [.od, .flash, .done]

/-- What a generation that the flash did not take leaves. -/
def Dev.StoreFailed (b a : Dev) : Prop :=
  a.nat Reg.R1004_STORE_STATE = 3 ∧ a.LastRaised Code.STORE_FAILED Kind.device 0 ∧ b.KeepsRegs a (Reg.R1004_STORE_STATE :: logRegs) ∧
  b.Keeps a (.done :: logParts)

theorem Dev.storeGeneration_idle (ok : Bool) (same : d.storeWaits = false) : d.storeGeneration ok = d := if_pos (by simp [same])

theorem Dev.storeGeneration_stores (waits : d.storeWaits = true) {e : Dev} (made : e = d.storeGeneration true) :
    d.Stored e ∧ d.Keeps e [.od, .flash] := by
  obtain ⟨f, put⟩ : ∃ f, f = d.putSetSlot d.flash.setUse { d.setSlotOf d.flash.setUse with gens := ({ gen := d.storeNow.gen + 1, od := d.storedOd, dom := d.storedDom } :: (d.setSlotOf d.flash.setUse).gens).take 2 } := ⟨_, rfl⟩
  have eq : e = (f.set Reg.R1004_STORE_GEN (d.storeNow.gen + 1 : Nat)).set Reg.R1004_STORE_STATE 0 := by
    rw [made, put, Dev.storeGeneration, if_neg (by simp [waits])]
    rfl
  have keepsF : d.Keeps f [.flash] := by rw [put]; exact d.keeps_setFlash _
  have keepsE : f.Keeps e [.od] := by rw [eq]; exact ((Dev.Keeps.refl _ _).set _ _).set _ _
  have all : d.Keeps e [.od, .flash] := (keepsF.mono (by decide)).step keepsE
  have flash : e.flash = f.flash := keepsE .flash (by decide)
  have type : odType Reg.R1004_STORE_STATE = .u8 := by decide +kernel
  have slot : (f.setSlotOf f.flash.setUse).gens =
      { gen := d.storeNow.gen + 1, od := d.storedOd, dom := d.storedDom } :: (d.setSlotOf d.flash.setUse).gens.take 1 := by
    have read : f.setSlotOf f.flash.setUse = { d.setSlotOf d.flash.setUse with gens := ({ gen := d.storeNow.gen + 1, od := d.storedOd, dom := d.storedDom } :: (d.setSlotOf d.flash.setUse).gens).take 2 } := by
      rw [put]
      exact mget_mset_same _ _ _ _
    rw [read]
    rfl
  refine ⟨⟨⟨{ gen := d.storeNow.gen + 1, od := d.storedOd, dom := d.storedDom }, (d.setSlotOf d.flash.setUse).gens.take 1, ?_, ?_, rfl, rfl, rfl⟩,
    ?_, ?_, fun k hk => ?_, all.mono (by decide)⟩, all⟩
  · rw [Dev.setSlotOf, flash, ← Dev.setSlotOf, slot]
  · exact List.length_take_le _ _
  · rw [eq]
    exact Dev.nat_set_same (n := 0) _ type rfl (by decide)
  · rw [eq, Dev.reg_set_other _ _ (by decide), Dev.reg_set_same]
  · rw [eq, Dev.reg_set_other _ _ (List.ne_of_not_mem_cons hk), Dev.reg_set_other _ _ (List.ne_of_not_mem_cons (List.not_mem_of_not_mem_cons hk))]
    exact Dev.reg_congr (keepsF .od (by decide)) k

theorem Dev.storeGeneration_fails (waits : d.storeWaits = true) {e : Dev} (made : e = d.storeGeneration false) :
    d.StoreFailed e ∧ d.Keeps e [.od, .log, .event] := by
  obtain ⟨f, shown⟩ : ∃ f, f = d.set Reg.R1004_STORE_STATE 3 := ⟨_, rfl⟩
  have eq : e = f.raise Code.STORE_FAILED Kind.device 0 := by
    rw [made, shown, Dev.storeGeneration, if_neg (by simp [waits])]
    rfl
  have keepsF : d.Keeps f [.od] := by rw [shown]; exact Dev.keeps_set _ _ _
  have keepsE : f.Keeps e [.od, .log, .event] := by rw [eq]; exact Dev.keeps_raise _ _ _ _ _ _
  have all : d.Keeps e [.od, .log, .event] := (keepsF.mono (by decide)).step keepsE
  have type : odType Reg.R1004_STORE_STATE = .u8 := by decide +kernel
  refine ⟨⟨?_, by rw [eq]; exact f.lastRaised_raise _ _ _ _ _, fun k hk => ?_, all.mono (by decide)⟩, all⟩
  · rw [Dev.nat, eq, Dev.reg_raise _ _ _ _ _ _ (by decide), ← Dev.nat, shown]
    exact Dev.nat_set_same (n := 3) _ type rfl (by decide)
  · rw [eq, Dev.reg_raise _ _ _ _ _ _ (List.not_mem_of_not_mem_cons hk), shown, Dev.reg_set_other _ _ (List.ne_of_not_mem_cons hk)]

theorem Dev.Stored.of_keeps {b x a : Dev} (h : b.Stored x) (keeps : x.Keeps a [.done]) : b.Stored a := by
  obtain ⟨⟨g, r, gens, short, rest⟩, state, gen, regs, all⟩ := h
  have od : a.od = x.od := keeps .od (by decide)
  have flash : a.flash = x.flash := keeps .flash (by decide)
  exact ⟨⟨g, r, by rw [Dev.setSlotOf, flash, ← Dev.setSlotOf, gens], short, rest⟩, (Dev.nat_congr od _).trans state, (Dev.reg_congr od _).trans gen,
    fun k hk => (Dev.reg_congr od k).trans (regs k hk), all.step keeps⟩

theorem Dev.StoreFailed.of_keeps {b x a : Dev} (h : b.StoreFailed x) (keeps : x.Keeps a [.done, .serve]) : b.StoreFailed a := by
  obtain ⟨state, last, regs, all⟩ := h
  have od : a.od = x.od := keeps .od (by decide)
  exact ⟨(Dev.nat_congr od _).trans state, last.of_keeps keeps, fun k hk => (Dev.reg_congr od k).trans (regs k hk), all.step keeps⟩

end

section
variable {s : State}

/-- What a command that writes a generation does. -/
def Writes (s : State) (i : Instr) (ok : Bool) : Prop :=
  (s.found.storeWaits = false → Does i s fun b a => b.Keeps a [.done]) ∧
  (s.found.storeWaits = true → ok = true → Does i s fun b a => b.Stored a) ∧
  (s.found.storeWaits = true → ok = false → Does i s fun b a => b.StoreFailed a)

theorem storeGeneration_writes (live : s.Live) (ok : Bool) : Writes s (.storeGeneration ok) ok := by
  have leaves : ∀ {x : Dev} {l : List Part}, s.found.storeGeneration ok = x → s.found.Keeps x l → (∀ p ∈ [Part.clk, .mem], p ∉ l) →
      Leaves (.storeGeneration ok) s x := fun result keeps within =>
    .dry (guard := Dev.live) (fun d => d.storeGeneration ok) live.passes result keeps within
  refine ⟨fun same => ?_, fun waits good => ?_, fun waits bad => ?_⟩
  · exact (leaves (l := []) (s.found.storeGeneration_idle ok same) (Dev.Keeps.refl _ _) (by decide)).quietly rfl (Dev.Keeps.refl _ _)
  · subst good
    obtain ⟨x, made⟩ : ∃ x, x = s.found.storeGeneration true := ⟨_, rfl⟩
    obtain ⟨stored, keeps⟩ := s.found.storeGeneration_stores waits made
    exact (leaves made.symm keeps (by decide)).quietly (keeps .event (by decide)) stored
  · subst bad
    obtain ⟨x, made⟩ : ∃ x, x = s.found.storeGeneration false := ⟨_, rfl⟩
    obtain ⟨failed, keeps⟩ := s.found.storeGeneration_fails waits made
    exact (leaves made.symm keeps (by decide)).does fun pend vecs => failed.of_keeps ((x.keeps_told pend vecs).mono (by decide))

theorem storeFlush_writes (up : s.Up) (ok : Bool) : Writes s (.storeFlush ok) ok ∧ Does (.storeFlush ok) s fun _ a => a.done = Code.STATUS_OK := by
  have leaves : ∀ {x e : Dev} {l : List Part}, s.found.storeGeneration ok = x → e = x.finish Code.STATUS_OK → s.found.Keeps x l →
      (∀ p ∈ [Part.clk, .mem], p ∉ .done :: l) → Leaves (.storeFlush ok) s e := fun result made keeps within =>
    .dry (guard := Dev.up) (fun d => d.storeFlush ok) up.passes (by rw [Dev.storeFlush, result, made])
      (by rw [made]; exact (keeps.mono fun _ h => List.mem_cons_of_mem _ h).step (Dev.keeps_finish _ _) (by simp)) within
  have finished : ∀ {x e : Dev}, e = x.finish Code.STATUS_OK → x.Keeps e [.done] := fun made => by rw [made]; exact Dev.keeps_finish _ _
  have idle : s.found.storeWaits = false → Does (.storeFlush ok) s fun b a => b.Keeps a [.done] ∧ a.done = Code.STATUS_OK := fun same => by
    obtain ⟨e, made⟩ : ∃ e, e = s.found.finish Code.STATUS_OK := ⟨_, rfl⟩
    have keeps := finished made
    exact (leaves (l := []) (s.found.storeGeneration_idle ok same) made (Dev.Keeps.refl _ _) (by decide)).quietly (keeps .event (by decide))
      ⟨keeps, by rw [made]; rfl⟩
  have stores : s.found.storeWaits = true → ok = true → Does (.storeFlush ok) s fun b a => b.Stored a ∧ a.done = Code.STATUS_OK :=
    fun waits good => by
      subst good
      obtain ⟨x, entered⟩ : ∃ x, x = s.found.storeGeneration true := ⟨_, rfl⟩
      obtain ⟨e, made⟩ : ∃ e, e = x.finish Code.STATUS_OK := ⟨_, rfl⟩
      obtain ⟨stored, keeps⟩ := s.found.storeGeneration_stores waits entered
      have event : e.event = x.event := finished made .event (by decide)
      exact (leaves entered.symm made keeps (by decide)).quietly (event.trans (keeps .event (by decide)))
        ⟨stored.of_keeps (finished made), by rw [made]; rfl⟩
  have fails : s.found.storeWaits = true → ok = false → Does (.storeFlush ok) s fun b a => b.StoreFailed a ∧ a.done = Code.STATUS_OK :=
    fun waits bad => by
      subst bad
      obtain ⟨x, entered⟩ : ∃ x, x = s.found.storeGeneration false := ⟨_, rfl⟩
      obtain ⟨e, made⟩ : ∃ e, e = x.finish Code.STATUS_OK := ⟨_, rfl⟩
      obtain ⟨failed, keeps⟩ := s.found.storeGeneration_fails waits entered
      have done : e.done = Code.STATUS_OK := by rw [made]; rfl
      exact (leaves entered.symm made keeps (by decide)).does fun pend vecs =>
        ⟨failed.of_keeps (((finished made).mono (by decide)).step (e.keeps_told pend vecs)), done⟩
  have weaken : ∀ {P : Dev → Dev → Prop}, (Does (.storeFlush ok) s fun b a => P b a ∧ a.done = Code.STATUS_OK) → Does (.storeFlush ok) s P :=
    fun ⟨a, run, p, _⟩ => ⟨a, run, p⟩
  have told : ∀ {P : Dev → Dev → Prop}, (Does (.storeFlush ok) s fun b a => P b a ∧ a.done = Code.STATUS_OK) →
      Does (.storeFlush ok) s fun _ a => a.done = Code.STATUS_OK := fun ⟨a, run, _, done⟩ => ⟨a, run, done⟩
  refine ⟨⟨fun same => weaken (idle same), fun waits good => weaken (stores waits good), fun waits bad => weaken (fails waits bad)⟩, ?_⟩
  by_cases waits : s.found.storeWaits = true
  · cases ok
    · exact told (fails waits rfl)
    · exact told (stores waits rfl)
  · exact told (idle (by simpa using waits))

end

/-! ## The release of the reset -/

theorem bank_apart {b c : Nat} (hb : b < 4) (hc : c < 4) : Reg.R4000_STATE_1 + b ≠ Reg.R4000_MV_1 + c ∧ Reg.R4000_STATE_1 + b ≠ Reg.R4000_NOMINAL_MV_1 + c ∧
    Reg.R4000_STATE_1 + b ≠ Reg.R4000_LOSSES ∧ Reg.R4000_STATE_1 + b ∉ logRegs := by
  revert c
  revert b
  decide +kernel

/-- The state a bank has by its reading. -/
def bankRead (b mv : Nat) : Nat := if (nominalOf b mv).isSome then 1 else 0

theorem Dev.measureBank_shows (d : Dev) {b : Nat} (hb : b < 4) (mv : Nat) {e : Dev} (made : e = d.measureBank b mv) :
    d.Keeps e [.od, .log, .event] ∧ e.nat (Reg.R4000_STATE_1 + b) = bankRead b mv ∧
    ∀ c < 4, c ≠ b → e.nat (Reg.R4000_STATE_1 + c) = d.nat (Reg.R4000_STATE_1 + c) := by
  obtain ⟨f, read⟩ : ∃ f, f = d.set (Reg.R4000_MV_1 + b) mv := ⟨_, rfl⟩
  have type : odType (Reg.R4000_STATE_1 + b) = .u8 := (bank_types hb).1
  have keepsF : d.Keeps f [.od] := by rw [read]; exact Dev.keeps_set _ _ _
  have stateF : ∀ c < 4, f.nat (Reg.R4000_STATE_1 + c) = d.nat (Reg.R4000_STATE_1 + c) := fun c hc => by
    rw [read, Dev.nat, Dev.reg_set_other _ _ (bank_apart hc hb).1, ← Dev.nat]
  obtain ⟨n, nominal⟩ : ∃ n, n = nominalOf b mv := ⟨_, rfl⟩
  have other : ∀ c < 4, c ≠ b → Reg.R4000_STATE_1 + c ≠ Reg.R4000_STATE_1 + b := fun c _ h eq => h (Nat.add_left_cancel eq)
  obtain ⟨g, shown⟩ : ∃ g, g = (f.set (Reg.R4000_STATE_1 + b) (bankRead b mv : Nat)).set (Reg.R4000_NOMINAL_MV_1 + b) ((n.getD 0 : Nat) : Int) := ⟨_, rfl⟩
  have keepsG : f.Keeps g [.od] := by rw [shown]; exact ((Dev.Keeps.refl _ _).set _ _).set _ _
  have stateG : g.nat (Reg.R4000_STATE_1 + b) = bankRead b mv ∧ ∀ c < 4, c ≠ b → g.nat (Reg.R4000_STATE_1 + c) = d.nat (Reg.R4000_STATE_1 + c) := by
    rw [shown]
    refine ⟨?_, fun c hc h => ?_⟩
    · rw [Dev.nat, Dev.reg_set_other _ _ (bank_apart hb hb).2.1, ← Dev.nat]
      refine Dev.nat_set_same _ type rfl ?_
      unfold bankRead
      split_ifs <;> decide
    · rw [Dev.nat, Dev.reg_set_other _ _ (bank_apart hc hb).2.1, Dev.reg_set_other _ _ (other c hc h), ← Dev.nat, stateF c hc]
  have eq : e = if n.isSome then g else g.bankRaise b := by
    rw [made, Dev.measureBank, ← read, shown, bankRead, ← nominal]
    cases n <;> rfl
  split_ifs at eq with good
  · rw [eq]
    exact ⟨((keepsF.mono (by decide)).step keepsG), stateG⟩
  · obtain ⟨h, counted⟩ : ∃ h, h = g.count Reg.R4000_LOSSES := ⟨_, rfl⟩
    have eq' : e = h.raise Code.BANK_POWER_LOSS Kind.other 0 0 b := by rw [eq, Dev.bankRaise, counted]
    have keepsH : g.Keeps h [.od] := by rw [counted]; exact Dev.keeps_set _ _ _
    have keepsE : h.Keeps e [.od, .log, .event] := by rw [eq']; exact Dev.keeps_raise _ _ _ _ _ _
    have same : ∀ c < 4, e.nat (Reg.R4000_STATE_1 + c) = g.nat (Reg.R4000_STATE_1 + c) := fun c hc => by
      obtain ⟨-, -, apart, log⟩ := bank_apart hc hb
      rw [Dev.nat, eq', Dev.reg_raise _ _ _ _ _ _ log, counted, Dev.count, Dev.reg_set_other _ _ apart, ← Dev.nat]
    exact ⟨(((keepsF.mono (by decide)).step keepsG).step keepsH).step keepsE, (same b hb).trans stateG.1,
      fun c hc h => (same c hc).trans (stateG.2 c hc h)⟩

/-- The four banks measured. -/
theorem Dev.measureBanks_show (d : Dev) (mv : List Nat) {e : Dev} (made : e = iterate 4 (fun b (d : Dev) => d.measureBank b (mv.getD b 0)) d) :
    d.Keeps e [.od, .log, .event] ∧ e.nat Reg.R4000_STATE_3 = bankRead 2 (mv.getD 2 0) := by
  obtain ⟨f, hf⟩ : ∃ f, f = d.measureBank 0 (mv.getD 0 0) := ⟨_, rfl⟩
  obtain ⟨g, hg⟩ : ∃ g, g = f.measureBank 1 (mv.getD 1 0) := ⟨_, rfl⟩
  obtain ⟨h, hh⟩ : ∃ h, h = g.measureBank 2 (mv.getD 2 0) := ⟨_, rfl⟩
  have eq : e = h.measureBank 3 (mv.getD 3 0) := by
    rw [made, hh, hg, hf]
    simp only [iterate_succ]
    rfl
  obtain ⟨keepsF, -, -⟩ := d.measureBank_shows (by decide) _ hf
  obtain ⟨keepsG, -, -⟩ := f.measureBank_shows (by decide) _ hg
  obtain ⟨keepsH, state, -⟩ := g.measureBank_shows (by decide) _ hh
  obtain ⟨keepsE, -, others⟩ := h.measureBank_shows (by decide) _ eq
  exact ⟨((keepsF.step keepsG).step keepsH).step keepsE, (others 2 (by decide) (by decide)).trans state⟩

section
variable {s : State} (clock : s.ClockOk) {feeds secs : Nat} {mv : List Nat}
include clock

theorem release_refused (no : feeds % 4 = 0 ∨ s.found.boot.hot = true) : Does (.resetRelease feeds secs mv) s fun b a => b.Keeps a [] := by
  have idle : s.found.resetRelease feeds secs mv = s.found := if_pos (by tauto)
  have leaves : Leaves (.resetRelease feeds secs mv) s s.found :=
    still_leaves clock (guard := fun d g => g d) (fun d => d.resetRelease feeds secs mv) s.passesAll idle rfl
  exact leaves.quietly rfl (Dev.Keeps.refl _ _)

theorem release_releases (fed : feeds % 4 ≠ 0) (cool : s.found.boot.hot = false) (dark : s.found.dark = true) :
    Does (.resetRelease feeds secs mv) s fun b a =>
      a.power.feeds = feeds % 4 ∧ a.power.resetN = true ∧ (b.aon.lost = false → a.aon.seconds = b.aon.seconds + secs) ∧
      (nominalOf 2 (mv.getD 2 0) ≠ none → a.state = DevState.boot ∧ a.boot.held = false ∧ a.nat Reg.R4000_STATE_3 = 1) ∧
      (nominalOf 2 (mv.getD 2 0) = none → a.boot.held = true ∧ a.nat Reg.R4000_STATE_3 = 0) := by
  obtain ⟨p, supplied⟩ : ∃ p, p = s.found.setPower fun p => { p with feeds := feeds % 4, resetN := true } := ⟨_, rfl⟩
  obtain ⟨t, timed⟩ : ∃ t, t = { p with aon := { p.aon with seconds := p.aon.seconds + (if p.aon.lost then 0 else secs) } } := ⟨_, rfl⟩
  obtain ⟨f, cold⟩ : ∃ f, f = t.when s.found.unpowered fun d => d.setFlash fun fl => { fl with failed := fl.failed.filter fun f => decide (2 < f.1) } := ⟨_, rfl⟩
  obtain ⟨m, measured⟩ : ∃ m, m = iterate 4 (fun b (d : Dev) => d.measureBank b (mv.getD b 0)) f := ⟨_, rfl⟩
  obtain ⟨e, made⟩ : ∃ e, e = if m.nat Reg.R4000_STATE_3 = 1 then (m.set Reg.R1001_DEV_STATE DevState.boot).setBoot fun b => { b with held := false }
    else m.holdReset := ⟨_, rfl⟩
  have result : s.found.resetRelease feeds secs mv = e := by
    rw [made, measured, cold, timed, supplied]
    refine if_neg ?_
    rintro (zero | hot | still)
    · exact fed zero
    · rw [cool] at hot; cases hot
    · exact still (.inl dark)
  have keepsP : s.found.Keeps p [.power] := by rw [supplied]; exact Dev.keeps_setPower _ _
  have keepsT : p.Keeps t [.aon] := by
    rw [timed]
    intro q hq
    cases q with
    | aon => simp at hq
    | _ => rfl
  have keepsF : t.Keeps f [.flash] := by rw [cold]; exact .when _ _ (Dev.keeps_setFlash _ _)
  obtain ⟨keepsM, bank⟩ := f.measureBanks_show mv measured
  have keepsE : m.Keeps e [.od, .boot] := by
    rw [made]
    split_ifs
    · exact ((Dev.keeps_set _ _ _).mono (by decide)).step (Dev.keeps_setBoot _ _)
    · exact (Dev.keeps_setBoot _ _).mono (by decide)
  have tail : t.Keeps e [.flash, .od, .log, .event, .boot] := ((keepsF.mono (by decide)).step keepsM).step keepsE
  have power : e.power = p.power := Eq.trans (tail .power (by decide)) (keepsT .power (by decide))
  have aon : e.aon = t.aon := tail .aon (by decide)
  have clk : e.clk = s.found.clk := Eq.trans (tail .clk (by decide)) (Eq.trans (keepsT .clk (by decide)) (keepsP .clk (by decide)))
  have aonP : p.aon = s.found.aon := keepsP .aon (by decide)
  have stateType : odType Reg.R1001_DEV_STATE = .u8 := by decide +kernel
  have leaves : Leaves (.resetRelease feeds secs mv) s e :=
    still_leaves clock (guard := fun d g => g d) (fun d => d.resetRelease feeds secs mv) s.passesAll result clk
  have shown : (nominalOf 2 (mv.getD 2 0) ≠ none → e.state = DevState.boot ∧ e.boot.held = false ∧ e.nat Reg.R4000_STATE_3 = 1) ∧
      (nominalOf 2 (mv.getD 2 0) = none → e.boot.held = true ∧ e.nat Reg.R4000_STATE_3 = 0) := by
    constructor
    · intro good
      have one : m.nat Reg.R4000_STATE_3 = 1 := by rw [bank, bankRead, if_pos (Option.isSome_iff_ne_none.2 good)]
      rw [made, if_pos one]
      refine ⟨Dev.nat_set_same (n := DevState.boot) m stateType rfl (by decide), rfl, ?_⟩
      have kept : (m.set Reg.R1001_DEV_STATE DevState.boot).nat Reg.R4000_STATE_3 = m.nat Reg.R4000_STATE_3 := by
        rw [Dev.nat, Dev.reg_set_other _ _ (by decide), ← Dev.nat]
      exact kept.trans one
    · intro bad
      have zero : m.nat Reg.R4000_STATE_3 = 0 := by rw [bank, bankRead, bad]; rfl
      rw [made, if_neg (by rw [zero]; decide)]
      exact ⟨rfl, zero⟩
  obtain ⟨good, bad⟩ := shown
  refine leaves.does fun pend vecs => ⟨?_, ?_, fun kept => ?_, good, bad⟩
  · have feeds' : e.power.feeds = feeds % 4 := by rw [power, supplied]; rfl
    exact feeds'
  · have high : e.power.resetN = true := by rw [power, supplied]; rfl
    exact high
  · have seconds : e.aon.seconds = s.found.aon.seconds + secs := by
      rw [aon, timed]
      dsimp only
      rw [aonP, kept, if_neg Bool.false_ne_true]
    exact seconds

end

/-! ## The alternatives of a step -/

section
variable {d : Dev} {step : Nat}

/-- The first alternative of a step's row that has not failed. -/
theorem Dev.altFor_eq (d : Dev) (step : Nat) : d.altFor step =
    if d.flash.failed.contains (step, mget 0 d.flash.inForce step) then
      ((List.range (altCount step)).find? fun n => !d.flash.failed.contains (step, n + 1)).map (· + 1)
    else some (mget 0 d.flash.inForce step) := by
  unfold Dev.altFor
  extract_lets bad now
  rw [List.find?_map]
  rfl

theorem Dev.altFor_some {a : Nat} (found : d.altFor step = some a) : d.flash.failed.contains (step, a) = false ∧
    (a ≠ mget 0 d.flash.inForce step → d.flash.failed.contains (step, mget 0 d.flash.inForce step) = true ∧ 1 ≤ a ∧ a ≤ altCount step ∧
      ∀ b, 1 ≤ b → b < a → d.flash.failed.contains (step, b) = true) := by
  rw [Dev.altFor_eq] at found
  split_ifs at found with bad
  · obtain ⟨n, hn, rfl⟩ := Option.map_eq_some_iff.1 found
    obtain ⟨good, bound, before⟩ := List.find?_range_eq_some.1 hn
    refine ⟨by simpa using good, fun _ => ⟨bad, Nat.succ_pos n, List.mem_range.1 bound, fun b pos less => ?_⟩⟩
    have earlier := before (b - 1) (by omega)
    rw [Nat.sub_add_cancel pos] at earlier
    simpa using earlier
  · obtain rfl := Option.some.inj found
    exact ⟨by simpa using bad, fun other => absurd rfl other⟩

theorem Dev.altFor_none (gone : d.altFor step = none) (b : Nat) (pos : 1 ≤ b) (bound : b ≤ altCount step) : d.flash.failed.contains (step, b) = true := by
  rw [Dev.altFor_eq] at gone
  split_ifs at gone with bad
  have all := List.find?_eq_none.1 (Option.map_eq_none_iff.1 gone) (b - 1) (List.mem_range.2 (by omega))
  rw [Nat.sub_add_cancel pos] at all
  simpa using all

end

end Sys2Proof.Machine
end

section
/-! # A start that fails, or that outlasts its limit, in one of its first steps (R474 to R476) -/

namespace Sys2Proof.Machine

/-! ## What a reset keeps of the flash -/

theorem Dev.afterReset_flash (d : Dev) (by_ : Nat) {e : Dev} (made : e = d.afterReset by_) : ∃ slots, e.flash = { d.flash with slots } := by
  obtain ⟨n, fresh⟩ : ∃ n, n = d.freshOf by_ := ⟨_, rfl⟩
  have flash : n.flash = d.flash := by rw [fresh]; rfl
  have eq : e = match d.boot.update with
      | none => n
      | some u => if (n.fwSlot u.slot).state = SlotState.staged then n.setBoot fun b => { b with update := some u }
        else (n.setSlotImage u.slot {}).raise Code.UPDATE_ABANDONED Kind.other 0 0 u.slot := by rw [made, fresh]; rfl
  cases update : d.boot.update with
  | none =>
    rw [update] at eq
    subst eq
    exact ⟨d.flash.slots, flash⟩
  | some u =>
    rw [update] at eq
    dsimp only at eq
    split_ifs at eq with staged
    · subst eq
      exact ⟨d.flash.slots, flash⟩
    · have kept : e.flash = (n.setSlotImage u.slot {}).flash := by
        rw [eq]
        exact Dev.keeps_raise _ _ _ _ _ _ .flash (by decide)
      refine ⟨mset {} d.flash.slots u.slot {}, ?_⟩
      rw [kept, ← flash]
      rfl

/-! ## The journal -/

section
variable (d : Dev)

/-- The newest record of the journal in flash is of a step, with an outcome. -/
def Dev.Noted (step outcome : Nat) : Prop := ∃ r, d.flash.journal.getLast? = some r ∧ r.step = step ∧ r.outcome = outcome

/-- The flash but its journal is as it was, and so is everything else but the always-on domain. -/
structure Dev.NotesOnly (e : Dev) : Prop where
  failed : e.flash.failed = d.flash.failed
  inForce : e.flash.inForce = d.flash.inForce
  boot : e.flash.boot = d.flash.boot
  keeps : d.Keeps e [.flash, .aon]

/-- The record of an outcome. -/
def Dev.bootRecord (step outcome alt code detail : Nat) : BootRec :=
  { boot := d.flash.boot, step, outcome, alt, code, detail, seconds := d.aon.seconds % 2 ^ 32 }

/-- A journal with a record more, of its last ones. -/
def journalled (n : Nat) (l : List BootRec) (r : BootRec) : List BootRec := (l ++ [r]).drop (l.length + 1 - n)

theorem getLast?_journalled {n : Nat} (pos : 0 < n) (l : List BootRec) (r : BootRec) : (journalled n l r).getLast? = some r := by
  have short : ¬(l ++ [r]).length ≤ l.length + 1 - n := by
    rw [List.length_append, List.length_singleton]
    omega
  rw [journalled, List.getLast?_drop, if_neg short, List.getLast?_concat]

theorem Dev.bootNote_eq (step outcome alt code detail : Nat) : ∃ j a, j.getLast? = some (d.bootRecord step outcome alt code detail) ∧
    d.bootNote step outcome alt code detail = { (d.setFlash fun fl => { fl with journal := j }) with aon := a } := by
  unfold Dev.bootNote
  extract_lets r keep f src
  have same : ∀ n l, keep n l = journalled n l (d.bootRecord step outcome alt code detail) := fun _ _ => rfl
  obtain ⟨j, journal⟩ : ∃ j, j = keep 4096 d.flash.journal := ⟨_, rfl⟩
  have stored : f = d.setFlash fun fl => { fl with journal := j } := by
    change d.setFlash (fun fl => { fl with journal := keep 4096 fl.journal }) = _
    simp only [Dev.setFlash, journal]
  refine ⟨j, { src with journal := keep 64 src.journal }, ?_, ?_⟩
  · rw [journal, same, getLast?_journalled (by decide)]
  · rw [← stored]

theorem Dev.bootNote_notes (step outcome alt code detail : Nat) {e : Dev} (made : e = d.bootNote step outcome alt code detail) :
    d.NotesOnly e ∧ e.Noted step outcome := by
  obtain ⟨j, a, newest, eq⟩ := d.bootNote_eq step outcome alt code detail
  obtain ⟨f, entered⟩ : ∃ f, f = d.setFlash fun fl => { fl with journal := j } := ⟨_, rfl⟩
  have result : e = { f with aon := a } := by rw [made, eq, entered]
  have keepsF : d.Keeps f [.flash] := by rw [entered]; exact Dev.keeps_setFlash _ _
  have keepsE : f.Keeps e [.aon] := by
    rw [result]
    intro p hp
    cases p with
    | aon => simp at hp
    | _ => rfl
  have flash : e.flash = f.flash := keepsE .flash (by decide)
  refine ⟨⟨by rw [flash, entered]; rfl, by rw [flash, entered]; rfl, by rw [flash, entered]; rfl, (keepsF.mono (by decide)).step keepsE⟩,
    ⟨d.bootRecord step outcome alt code detail, ?_, rfl, rfl⟩⟩
  rw [flash, entered]
  exact newest

end

/-! ## A step of the start -/

/-- A start that has come to step `k`: the boot is counted, nothing has failed, and the steps from `k` on are done as they were. -/
structure Dev.Started (d e : Dev) (k : Nat) : Prop where
  boot : e.flash.boot = d.flash.boot + 1
  failed : e.flash.failed = []
  inForce : ∀ j, k ≤ j → mget 0 e.flash.inForce j = mget 0 d.flash.inForce j

section
variable {d e : Dev} {k : Nat} (h : d.Started e k)
include h

theorem Dev.Started.altFor {j : Nat} (hj : k ≤ j) : e.altFor j = some (mget 0 d.flash.inForce j) := by
  rw [Dev.altFor_eq, h.failed, if_neg (by simp), h.inForce j hj]

theorem Dev.Started.of_flash {f : Dev} (flash : f.flash = e.flash) : d.Started f k :=
  ⟨by rw [flash, h.boot], by rw [flash, h.failed], fun j hj => by rw [flash, h.inForce j hj]⟩

theorem Dev.Started.noted {f : Dev} (notes : e.NotesOnly f) : d.Started f k :=
  ⟨by rw [notes.boot, h.boot], by rw [notes.failed, h.failed], fun j hj => by rw [notes.inForce, h.inForce j hj]⟩

theorem Dev.Started.stepDone (a detail : Nat) : d.Started (e.stepDone k a detail) (k + 1) := by
  obtain ⟨f, entered⟩ : ∃ f, f = e.setFlash fun fl => { fl with inForce := mset 0 fl.inForce k a } := ⟨_, rfl⟩
  have next : d.Started f (k + 1) := by
    refine ⟨by rw [entered]; exact h.boot, by rw [entered]; exact h.failed, fun j hj => ?_⟩
    rw [entered]
    exact (mget_mset_other _ _ _ _ (Nat.ne_of_gt hj)).trans (h.inForce j (Nat.le_of_succ_le hj))
  have eq : e.stepDone k a detail = if a = 0 then f.bootNote k 1 0 0 detail
      else (f.bootNote k 4 (altCode k a) Code.BOOT_ALTERNATIVE detail).raise Code.BOOT_ALTERNATIVE Kind.other 0 0 k := by
    rw [Dev.stepDone, ← entered]
  rw [eq]
  split_ifs
  · exact next.noted (f.bootNote_notes _ _ _ _ _ rfl).1
  · exact (next.noted (f.bootNote_notes _ _ _ _ _ rfl).1).of_flash (Dev.keeps_raise _ _ _ _ _ _ .flash (by decide))

/-- The note of a step begun, of a start that has come to it. -/
theorem Dev.Started.begun {m : Mishap} : ∃ (f : Dev) (detail : Nat), d.Started f k ∧ f.Noted k 0 ∧
    e.plainStep k m = if m.opened = k then (f, false) else
      match (if m.fail = k then (Code.BOOT_STEP_FAILED, f) else f.stepWork k (mget 0 d.flash.inForce k)) with
      | (0, g) => (g.stepDone k (mget 0 d.flash.inForce k) detail, true)
      | (code, g) => (g.stepFails k (mget 0 d.flash.inForce k) (altCode k (mget 0 d.flash.inForce k)) code (if m.fail = k then m.unit else detail), false) := by
  obtain ⟨a, ha⟩ : ∃ a, a = mget 0 d.flash.inForce k := ⟨_, rfl⟩
  obtain ⟨detail, hd⟩ : ∃ detail, detail = if k = Step.lpddrTrain then lpddrBin a else 0 := ⟨_, rfl⟩
  obtain ⟨f, begun⟩ : ∃ f, f = e.bootNote k 0 (altCode k a) 0 detail := ⟨_, rfl⟩
  obtain ⟨notes, noted⟩ := e.bootNote_notes _ _ _ _ _ begun
  refine ⟨f, detail, h.noted notes, noted, ?_⟩
  rw [Dev.plainStep, h.altFor (Nat.le_refl k), ← ha]
  dsimp only
  rw [← hd, ← begun] <;> rfl

theorem Dev.Started.passes {m : Mishap} (hk : k ∈ [1, 2, 3]) (unharmed : m.opened ≠ k ∧ m.fail ≠ k) : ∃ f, d.Started f (k + 1) ∧ e.plainStep k m = (f, true) := by
  have small : k ≤ 3 := by
    simp only [List.mem_cons, List.not_mem_nil, or_false] at hk
    omega
  obtain ⟨f, detail, started, -, eq⟩ := h.begun (m := m)
  obtain ⟨a, ha⟩ : ∃ a, a = mget 0 d.flash.inForce k := ⟨_, rfl⟩
  obtain ⟨g, keeps, work⟩ : ∃ g, g.flash = f.flash ∧ f.stepWork k a = (0, g) := by
    simp only [List.mem_cons, List.not_mem_nil, or_false] at hk
    rcases hk with rfl | rfl | rfl
    · exact ⟨f, rfl, rfl⟩
    · exact ⟨f, rfl, rfl⟩
    · exact ⟨f.set Reg.R6000_LPDDR_MTS (lpddrBin a), rfl, rfl⟩
  refine ⟨g.stepDone k a detail, (started.of_flash keeps).stepDone a detail, ?_⟩
  rw [eq, if_neg unharmed.1, if_neg unharmed.2, ← ha, work]
  rfl

/-- What a start that failed in a step leaves. -/
def Dev.FailedIn (d e : Dev) (k : Nat) : Prop :=
  e.state = DevState.boot ∧ e.flash.boot = d.flash.boot + 1 ∧ e.flash.failed = [(k, mget 0 d.flash.inForce k)] ∧
  e.LastRaised Code.BOOT_STEP_FAILED Kind.other 0 ∧ e.Noted k 2 ∧ e.clk = {}

theorem Dev.Started.fails {m : Mishap} (closed : m.opened ≠ k) (fails : m.fail = k) : ∃ f, d.FailedIn f k ∧ e.plainStep k m = (f, false) := by
  obtain ⟨f, detail, started, -, eq⟩ := h.begun (m := m)
  obtain ⟨a, ha⟩ : ∃ a, a = mget 0 d.flash.inForce k := ⟨_, rfl⟩
  obtain ⟨g, hg⟩ : ∃ g, g = f.bootNote k 2 (altCode k a) Code.BOOT_STEP_FAILED m.unit := ⟨_, rfl⟩
  obtain ⟨notes, noted⟩ := f.bootNote_notes _ _ _ _ _ hg
  obtain ⟨n, remembered⟩ : ∃ n, n = g.setFlash fun fl => { fl with failed := (k, a) :: fl.failed } := ⟨_, rfl⟩
  obtain ⟨r, reset⟩ : ∃ r, r = n.afterReset 2 := ⟨_, rfl⟩
  obtain ⟨x, made⟩ : ∃ x, x = r.raise Code.BOOT_STEP_FAILED Kind.other 0 0 k := ⟨_, rfl⟩
  have result : f.stepFails k a (altCode k a) Code.BOOT_STEP_FAILED m.unit = x := by rw [made, reset, remembered, hg, Dev.stepFails]
  refine ⟨x, ?_, ?_⟩
  · obtain ⟨slots, flashR⟩ := n.afterReset_flash 2 reset
    obtain ⟨-, -, -, -, clk, -⟩ := n.afterReset_shows 2 reset
    have keeps : r.Keeps x [.od, .log, .event] := by rw [made]; exact Dev.keeps_raise _ _ _ _ _ _
    have flash : x.flash = { n.flash with slots } := Eq.trans (keeps .flash (by decide)) flashR
    have startedG := started.noted notes
    refine ⟨?_, ?_, ?_, by rw [made]; exact r.lastRaised_raise _ _ _ _ _, ?_, Eq.trans (keeps .clk (by decide)) clk⟩
    · have state : r.state = DevState.boot := by rw [reset, Dev.state_afterReset]
      have same : x.state = r.state := by
        rw [Dev.state, Dev.state, Dev.nat, Dev.nat, made, Dev.reg_raise _ _ _ _ _ _ (by decide)]
      exact same.trans state
    · rw [flash, remembered]
      exact startedG.boot
    · rw [flash, remembered, ← ha]
      exact congrArg _ startedG.failed
    · rw [Dev.Noted, flash, remembered]
      exact noted
  · rw [eq, if_neg closed, if_pos fails, ← ha, if_pos fails]
    exact congrArg (fun x => (x, false)) result

theorem Dev.Started.opens {m : Mishap} (opened : m.opened = k) : ∃ f, d.Started f k ∧ f.Noted k 0 ∧ e.plainStep k m = (f, false) := by
  obtain ⟨f, detail, started, noted, eq⟩ := h.begun (m := m)
  exact ⟨f, started, noted, eq.trans (if_pos opened)⟩

end

/-! ## The steps in turn -/

theorem Dev.bootSteps_plain {m : Mishap} {k : Nat} (hk : k ∈ [1, 2, 3]) (r : List Nat) (d : Dev) : Dev.bootSteps m (k :: r) d =
    if (d.plainStep k m).2 then Dev.bootSteps m r (d.plainStep k m).1 else ((d.plainStep k m).1, false) := by
  have plain : ¬(k = Step.fwSelect ∨ k = Step.appSelect) ∧ k ≠ Step.settings := by
    simp only [List.mem_cons, List.not_mem_nil, or_false] at hk
    rcases hk with rfl | rfl | rfl <;> decide
  rw [Dev.bootSteps, if_neg plain.1, if_neg plain.2]
  cases d.plainStep k m with
  | mk e go => cases go <;> rfl

/-- The steps before the one with a mishap pass. -/
theorem Dev.Started.reaches {d e : Dev} {m : Mishap} {k : Nat} (h : d.Started e 1) (hk : k ∈ [1, 2, 3])
    (only : ∀ j ∈ [1, 2, 3], j ≠ k → m.opened ≠ j ∧ m.fail ≠ j) :
    ∃ f r, d.Started f k ∧ Dev.bootSteps m ((List.range 15).drop 1) e = Dev.bootSteps m (k :: r) f := by
  have advance : ∀ {j : Nat} {x : Dev} (r : List Nat), d.Started x j → j ∈ [1, 2, 3] → j ≠ k →
      ∃ y, d.Started y (j + 1) ∧ Dev.bootSteps m (j :: r) x = Dev.bootSteps m r y := fun r started hj other => by
    obtain ⟨y, next, step⟩ := started.passes hj (only _ hj other)
    exact ⟨y, next, by rw [Dev.bootSteps_plain hj, step]; rfl⟩
  simp only [List.mem_cons, List.not_mem_nil, or_false] at hk
  rcases hk with rfl | rfl | rfl
  · exact ⟨e, _, h, rfl⟩
  · obtain ⟨f, startedF, eqF⟩ := advance ((List.range 15).drop 2) h (by decide) (by decide)
    exact ⟨f, _, startedF, eqF⟩
  · obtain ⟨f, startedF, eqF⟩ := advance ((List.range 15).drop 2) h (by decide) (by decide)
    obtain ⟨g, startedG, eqG⟩ := advance ((List.range 15).drop 3) startedF (by decide) (by decide)
    exact ⟨g, _, startedG, eqF.trans eqG⟩

/-! ## The start's beginning -/

section
variable {d : Dev}

theorem Dev.keeps_applyRetired (d : Dev) : d.Keeps d.applyRetired [.od] := by
  unfold Dev.applyRetired
  refine Dev.Keeps.andThen (e := each d.flash.spared _ d) (.each _ _ (fun x e => ?_) d) (.when _ _ (Dev.keeps_set _ _ _))
  obtain ⟨kind, unit, spare⟩ := x
  dsimp only
  split_ifs
  · exact .iterate 24 (fun k (e : Dev) => e.when (e.nat (Reg.R3840_PHYS_CORE k) == unit) fun d => d.set (Reg.R3840_PHYS_CORE k) spare)
      (fun k e => .when _ _ (Dev.keeps_set _ _ _)) e
  · exact ((Dev.Keeps.refl _ _).set _ _).set _ _
  · exact Dev.keeps_set _ _ _
  · exact Dev.keeps_set _ _ _
  · exact Dev.Keeps.refl _ _

/-- What the check of the boot ROM leaves of the flash. -/
theorem Dev.romCheck_flash (d : Dev) : d.romCheck.flash.boot = d.flash.boot ∧ d.romCheck.flash.failed = d.flash.failed ∧
    d.romCheck.flash.inForce = d.flash.inForce := by
  obtain ⟨w, walled⟩ : ∃ w : Dev, w = if d.aon.lost then { d with wall := {}, aon := { d.aon with lost := false } }
    else ({ d with wall := { d.wall with off := (d.aon.seconds * 1000000000 * 2 ^ 40 : Nat) - d.rawNow * d.wall.rate } } : Dev).set Reg.R1140_WALL_STATE 1 := ⟨_, rfl⟩
  obtain ⟨c, minima⟩ : ∃ c, c = each w.flash.confirms (fun (s, sec) d => d.setFlash fun fl =>
    if s < 2 then { fl with fwMin := max fl.fwMin sec } else { fl with appMin := max fl.appMin sec }) w := ⟨_, rfl⟩
  obtain ⟨a, abandoned⟩ : ∃ a, a = c.setFlash fun fl => { fl with attNext := fl.attEnd } := ⟨_, rfl⟩
  have eq : d.romCheck = a.applyRetired := by
    rw [abandoned, minima, walled]
    rfl
  have flashW : w.flash = d.flash := by
    rw [walled]
    split_ifs <;> rfl
  have flashC : c.flash.boot = w.flash.boot ∧ c.flash.failed = w.flash.failed ∧ c.flash.inForce = w.flash.inForce := by
    rw [minima]
    refine each_holds (fun e : Dev => e.flash.boot = w.flash.boot ∧ e.flash.failed = w.flash.failed ∧ e.flash.inForce = w.flash.inForce) _ _
      (fun x _ e he => ?_) ⟨rfl, rfl, rfl⟩
    obtain ⟨s, sec⟩ := x
    dsimp only [Dev.setFlash]
    split_ifs <;> exact he
  have flashA : a.flash.boot = c.flash.boot ∧ a.flash.failed = c.flash.failed ∧ a.flash.inForce = c.flash.inForce := by
    rw [abandoned]
    exact ⟨rfl, rfl, rfl⟩
  have flash : d.romCheck.flash = a.flash := by
    rw [eq]
    exact a.keeps_applyRetired .flash (by decide)
  rw [flash, flashA.1, flashA.2.1, flashA.2.2, flashC.1, flashC.2.1, flashC.2.2, flashW]
  exact ⟨rfl, rfl, rfl⟩

variable (failed : d.flash.failed = []) (fresh : d.lastRec = none) (noFw : d.flash.lastFw = none) (noApp : d.flash.lastApp = none)
include failed fresh noFw noApp

omit failed in
theorem Dev.judgePrevious_first : d.judgePrevious.flash = d.flash := by
  unfold Dev.judgePrevious
  rw [fresh]
  extract_lets att a spent b
  have same : b = d := by
    change each ((d.flash.lastFw.toList ++ d.flash.lastApp.toList).filter spent) _ d = d
    rw [noFw, noApp]
    rfl
  rw [same]

/-- A start whose first steps are all that can go wrong. -/
theorem Dev.bootRun_first (m : Mishap) : ∃ e, d.Started e 1 ∧ d.bootRun m =
    if (Dev.bootSteps m ((List.range 15).drop 1) e).2 then (Dev.bootSteps m ((List.range 15).drop 1) e).1.enterConfig
    else (Dev.bootSteps m ((List.range 15).drop 1) e).1 := by
  obtain ⟨j, judged⟩ : ∃ j, j = d.judgePrevious := ⟨_, rfl⟩
  obtain ⟨c, counted⟩ : ∃ c, c = (j.setFlash fun fl => { fl with boot := fl.boot + 1 }).set Reg.R6000_BOOT_COUNT (j.flash.boot + 1 : Nat) := ⟨_, rfl⟩
  obtain ⟨e, checked⟩ : ∃ e, e = c.romCheck.setBoot fun b => { b with resetBy := 0 } := ⟨_, rfl⟩
  have flashJ : j.flash = d.flash := by rw [judged]; exact Dev.judgePrevious_first fresh noFw noApp
  have flashC : c.flash = { j.flash with boot := j.flash.boot + 1 } := by rw [counted]; rfl
  obtain ⟨boot, failed', inForce⟩ := c.romCheck_flash
  have flashE : e.flash = c.romCheck.flash := by rw [checked]; rfl
  refine ⟨e, ⟨by rw [flashE, boot, flashC, flashJ], by rw [flashE, failed', flashC, flashJ, failed], fun k _ => by rw [flashE, inForce, flashC, flashJ]⟩, ?_⟩
  unfold Dev.bootRun
  extract_lets j' c' e'
  have sameJ : j' = j := judged.symm
  have sameC : c' = c := by
    rw [counted, ← sameJ]
  have same : e' = e := by
    rw [checked, ← sameC]
  rw [same]
  generalize Dev.bootSteps m ((List.range 15).drop 1) e = y
  obtain ⟨x, go⟩ := y
  cases go
  · exact (if_neg Bool.false_ne_true).symm
  · exact (if_pos rfl).symm

variable (may : d.mayBoot = true) {k : Nat} (hk : k ∈ [1, 2, 3])
include may hk

theorem Dev.bootStart_fails (unit : Nat) : d.FailedIn (d.bootStart k unit) k := by
  have small : 0 ≠ k := by
    simp only [List.mem_cons, List.not_mem_nil, or_false] at hk
    omega
  obtain ⟨e, started, run⟩ := Dev.bootRun_first failed fresh noFw noApp { fail := k, unit, opened := 0 }
  obtain ⟨f, r, at_, steps⟩ := started.reaches (m := { fail := k, unit, opened := 0 }) hk (fun j hj other => ⟨by
    simp only [List.mem_cons, List.not_mem_nil, or_false] at hj
    dsimp only
    omega, fun eq => other eq.symm⟩)
  obtain ⟨x, fails, step⟩ := at_.fails (m := { fail := k, unit, opened := 0 }) small rfl
  have result : d.bootStart k unit = x := by
    rw [Dev.bootStart, if_pos may, run, steps, Dev.bootSteps_plain hk, step]
    rfl
  rw [result]
  exact fails

/-- What a step that outlasts its limit leaves. -/
theorem Dev.bootStepTimeout_resets {e : Dev} (made : e = d.bootStepTimeout k) : e.state = DevState.boot ∧ e.flash.boot = d.flash.boot + 1 ∧
    e.flash.failed = [] ∧ e.boot.resetBy = 2 ∧ e.Noted k 0 ∧ e.clk = {} := by
  have small : k ≤ 3 ∧ 1 ≤ k := by
    simp only [List.mem_cons, List.not_mem_nil, or_false] at hk
    omega
  have range : d.mayBoot = true ∧ 1 ≤ k ∧ k ≤ 14 := ⟨may, small.2, by omega⟩
  obtain ⟨b, started, run⟩ := Dev.bootRun_first failed fresh noFw noApp { fail := 0, unit := 0, opened := k }
  obtain ⟨f, r, at_, steps⟩ := started.reaches (m := { fail := 0, unit := 0, opened := k }) hk (fun j hj other => ⟨fun eq => other eq.symm, by
    simp only [List.mem_cons, List.not_mem_nil, or_false] at hj
    dsimp only
    omega⟩)
  obtain ⟨x, open_, noted, step⟩ := at_.opens (m := { fail := 0, unit := 0, opened := k }) rfl
  have until_ : d.bootUntil k = x := by
    rw [Dev.bootUntil, if_pos range, run, steps, Dev.bootSteps_plain hk, step]
    rfl
  have result : e = x.afterReset 2 := by rw [made, Dev.bootStepTimeout, if_pos range, until_]
  obtain ⟨slots, flash⟩ := x.afterReset_flash 2 result
  obtain ⟨-, -, resetBy, -, clk, -⟩ := x.afterReset_shows 2 result
  refine ⟨by rw [result, Dev.state_afterReset], by rw [flash]; exact open_.boot, by rw [flash]; exact open_.failed, resetBy, ?_, clk⟩
  rw [Dev.Noted, flash]
  exact noted

end

/-! ## The commands -/

section
variable {s : State} (clock : s.ClockOk) (live : s.Live)
include clock live

theorem bootStart_idle (fail unit : Nat) (no : s.found.mayBoot = false) : Does (.bootStart fail unit) s fun b a => b.Keeps a [] := by
  have idle : s.found.bootStart fail unit = s.found := if_neg (by simp [no])
  have leaves : Leaves (.bootStart fail unit) s s.found := still_leaves clock (guard := Dev.live) (fun d => d.bootStart fail unit) live.passes idle rfl
  exact leaves.quietly rfl (Dev.Keeps.refl _ _)

theorem bootStepTimeout_idle {step : Nat} (no : s.found.mayBoot = false ∨ step = 0 ∨ 14 < step) : Does (.bootStepTimeout step) s fun b a => b.Keeps a [] := by
  have idle : s.found.bootStepTimeout step = s.found := by
    refine if_neg ?_
    rintro ⟨may, lo, hi⟩
    rcases no with off | zero | far
    · rw [off] at may; cases may
    · omega
    · omega
  have leaves : Leaves (.bootStepTimeout step) s s.found := still_leaves clock (guard := Dev.live) (fun d => d.bootStepTimeout step) live.passes idle rfl
  exact leaves.quietly rfl (Dev.Keeps.refl _ _)

variable (may : s.found.mayBoot = true) (failed : s.found.flash.failed = []) (fresh : s.found.lastRec = none)
  (noFw : s.found.flash.lastFw = none) (noApp : s.found.flash.lastApp = none) {step : Nat} (hk : step ∈ [1, 2, 3])
include may failed fresh noFw noApp hk

omit clock in
theorem bootStart_ends (unit : Nat) : Does (.bootStart step unit) s fun b a =>
    a.state = DevState.boot ∧ a.flash.boot = b.flash.boot + 1 ∧ a.flash.failed = [(step, mget 0 b.flash.inForce step)] ∧
    a.LastRaised Code.BOOT_STEP_FAILED Kind.other 0 ∧ ∃ r, a.flash.journal.getLast? = some r ∧ r.step = step ∧ r.outcome = 2 := by
  obtain ⟨e, made⟩ : ∃ e, e = s.found.bootStart step unit := ⟨_, rfl⟩
  have fails : s.found.FailedIn e step := by rw [made]; exact Dev.bootStart_fails failed fresh noFw noApp may hk unit
  obtain ⟨state, boot, failed', last, noted, clk⟩ := fails
  have leaves : Leaves (.bootStart step unit) s e := reset_leaves (guard := Dev.live) (fun d => d.bootStart step unit) live.passes made.symm clk
  exact leaves.does fun pend vecs => ⟨state, boot, failed', last.told _ _, noted⟩

omit clock in
theorem bootStepTimeout_ends : Does (.bootStepTimeout step) s fun b a =>
    a.state = DevState.boot ∧ a.flash.boot = b.flash.boot + 1 ∧ a.flash.failed = [] ∧ a.boot.resetBy = 2 ∧
    ∃ r, a.flash.journal.getLast? = some r ∧ r.step = step ∧ r.outcome = 0 := by
  obtain ⟨e, made⟩ : ∃ e, e = s.found.bootStepTimeout step := ⟨_, rfl⟩
  obtain ⟨state, boot, failed', resetBy, noted, clk⟩ := Dev.bootStepTimeout_resets failed fresh noFw noApp may hk made
  have leaves : Leaves (.bootStepTimeout step) s e := reset_leaves (guard := Dev.live) (fun d => d.bootStepTimeout step) live.passes made.symm clk
  exact leaves.does fun pend vecs => ⟨state, boot, failed', resetBy, noted⟩

end

/-- Settles O56: a generation is written or refused, a reset released, and a start goes on or ends in a reset. -/
theorem storeAndStart : Obligations.StoreAndStart := by
  unfold Obligations.StoreAndStart
  intro s clock d writes
  refine ⟨fun ok live => storeGeneration_writes live ok, fun ok up => storeFlush_writes up ok, fun feeds secs mv no => release_refused clock no,
    fun feeds secs mv fed cool dark => release_releases clock fed cool dark, fun fail unit live no => bootStart_idle clock live fail unit no,
    fun step live no => bootStepTimeout_idle clock live no, fun step a found => Dev.altFor_some found, fun step gone => Dev.altFor_none gone,
    fun step unit live may failed fresh noFw noApp hk => ⟨bootStart_ends live may failed fresh noFw noApp hk unit,
      bootStepTimeout_ends live may failed fresh noFw noApp hk⟩⟩

end Sys2Proof.Machine
end

section
/-! # Latched stops: what keeps them (R391) -/

namespace Sys2Proof.Machine

/-- Every axis has the latches it had. -/
def Dev.LatchesStand (d e : Dev) : Prop := ∀ m, (e.axSafe m).latches = (d.axSafe m).latches

section
variable {d e f : Dev} {n : Nat}

theorem Dev.axSafe_congr (h : e.safe = d.safe) (m : Nat) : e.axSafe m = d.axSafe m := by rw [Dev.axSafe, Dev.axSafe, h]

theorem Dev.axSafe_setAxSafe_other {m : Nat} (h : m ≠ n) (x : AxSafe) : (d.setAxSafe n x).axSafe m = d.axSafe m := mget_mset_other _ _ _ _ h

theorem Dev.keeps_setAxSafe (d : Dev) (n : Nat) (x : AxSafe) : d.Keeps (d.setAxSafe n x) [.safe] := d.keeps_safe _

theorem Dev.LatchesStand.refl (d : Dev) : d.LatchesStand d := fun _ => rfl

theorem Dev.LatchesStand.of_safe (h : d.LatchesStand e) (safe : f.safe = e.safe) : d.LatchesStand f := fun m => by rw [Dev.axSafe_congr safe, h m]

theorem Dev.LatchesStand.of_keeps {l : List Part} (h : d.LatchesStand e) (g : e.Keeps f l) (out : Part.safe ∉ l := by decide) : d.LatchesStand f :=
  h.of_safe (g .safe out)

theorem Dev.LatchesStand.set (h : d.LatchesStand e) (k : Nat) (v : Int) : d.LatchesStand (e.set k v) := h

theorem Dev.LatchesStand.modAxis (h : d.LatchesStand e) (n : Nat) (g : Axis → Axis) : d.LatchesStand (e.modAxis n g) := h

theorem Dev.LatchesStand.modChain (h : d.LatchesStand e) (c : Nat) (g : Chain → Chain) : d.LatchesStand (e.modChain c g) := h

theorem Dev.LatchesStand.raise (h : d.LatchesStand e) (code kind subject reaction detail : Nat) :
    d.LatchesStand (e.raise code kind subject reaction detail) := h.of_keeps (Dev.keeps_raise _ _ _ _ _ _)

theorem Dev.LatchesStand.setAxSafe (h : d.LatchesStand e) (n : Nat) {x : AxSafe} (same : x.latches = (e.axSafe n).latches) :
    d.LatchesStand (e.setAxSafe n x) := fun m => by
  by_cases own : m = n
  · subst own
    rw [Dev.axSafe_setAxSafe, same, h m]
  · rw [Dev.axSafe_setAxSafe_other own, h m]

theorem Dev.LatchesStand.when (h : d.LatchesStand e) (b : Bool) (g : Dev → Dev) (then_ : d.LatchesStand (g e)) : d.LatchesStand (e.when b g) := by
  unfold Dev.when
  split
  · exact then_
  · exact h

/-! ## The steps of a reaction -/

theorem Dev.LatchesStand.abortInjection (h : d.LatchesStand e) (n : Nat) : d.LatchesStand (e.abortInjection n) := h.of_keeps (e.keeps_abortInjection n)

theorem Dev.LatchesStand.abandonHoming (h : d.LatchesStand e) (n : Nat) : d.LatchesStand (e.abandonHoming n) := h

theorem Dev.LatchesStand.startStop (h : d.LatchesStand e) (n : Nat) (A : Rat) (J : Option Rat) : d.LatchesStand (e.startStop n A J) := by
  unfold Dev.startStop
  split
  · exact h
  · exact h

theorem Dev.LatchesStand.freshStop (h : d.LatchesStand e) (n : Nat) : d.LatchesStand (e.freshStop n) := by
  unfold Dev.freshStop
  split
  · exact h.when _ _ h
  · exact h

theorem Dev.LatchesStand.emergencyRamp (h : d.LatchesStand e) (n : Nat) : d.LatchesStand (e.emergencyRamp n) := by
  unfold Dev.emergencyRamp
  split
  · exact h
  · extract_lets f
    have fresh : d.LatchesStand f := h.freshStop n
    exact fresh.setAxSafe (e := f.startPlan _ _ _) n rfl

theorem Dev.LatchesStand.quickStopAxis (h : d.LatchesStand e) (n : Nat) : d.LatchesStand (e.quickStopAxis n) := by
  have ramped := ((h.abortInjection n).abandonHoming n).emergencyRamp n
  unfold Dev.quickStopAxis
  exact (ramped.set _ _).modAxis _ _

theorem Dev.LatchesStand.each {α : Type} (xs : List α) (g : α → Dev → Dev) (h : d.LatchesStand e)
    (step : ∀ x ∈ xs, ∀ f, d.LatchesStand f → d.LatchesStand (g x f)) : d.LatchesStand (Machine.each xs g e) :=
  each_holds (fun f : Dev => d.LatchesStand f) xs g step h

theorem Dev.LatchesStand.chainStop (h : d.LatchesStand e) (n : Nat) : d.LatchesStand (e.chainStop n) := by
  unfold Dev.chainStop
  split
  · exact h
  · split
    · refine .each _ _ h fun m _ f hf => ?_
      split
      · exact hf.quickStopAxis m
      · exact hf
    · exact h

theorem Dev.LatchesStand.cutTorque (h : d.LatchesStand e) (n code : Nat) : d.LatchesStand (e.cutTorque n code) := by
  unfold Dev.cutTorque
  extract_lets aborted faulted shown opened still before unmonitored
  have aborted' : d.LatchesStand aborted := h.abortInjection n
  have faulted' : d.LatchesStand faulted := (aborted'.abandonHoming n).set _ _
  have shown' : d.LatchesStand shown := (faulted'.set _ _).set _ _
  have opened' : d.LatchesStand opened := shown'.modAxis n _
  have still' : d.LatchesStand still := ((opened'.set _ _).set _ _).set _ _
  clear_value still
  have unmonitored' : d.LatchesStand unmonitored := still'.setAxSafe n rfl
  split
  · exact unmonitored'.modChain _ _
  · exact unmonitored'

theorem Dev.LatchesStand.carryOut (h : d.LatchesStand e) (n code r : Nat) : d.LatchesStand (e.carryOut n code r) := by
  unfold Dev.carryOut
  extract_lets named homing began ramp by_ stopping monitored
  have named' : d.LatchesStand named := (h.set _ _).modAxis n _
  split
  · exact (named'.cutTorque n code).chainStop n
  · have homing' : d.LatchesStand homing := (named'.abortInjection n).abandonHoming n
    have ramp' : d.LatchesStand ramp := by
      show d.LatchesStand (if _ then _ else _)
      split
      · exact homing'.startStop n _ _
      · exact homing'.emergencyRamp n
    have by' : d.LatchesStand by_ := ramp'.when _ _ (ramp'.modAxis n _)
    have stopping' : d.LatchesStand stopping := (by'.set _ _).modAxis n _
    clear_value stopping
    have monitored' : d.LatchesStand monitored := by
      refine stopping'.when _ _ (.set (stopping'.setAxSafe n ?_) _ _)
      rfl
    exact monitored'.chainStop n

theorem Dev.LatchesStand.react (h : d.LatchesStand e) (n code r : Nat) : d.LatchesStand (e.react n code r) := by
  unfold Dev.react
  dsimp only
  split
  · exact h
  split
  · exact h
  split
  · split
    · exact (h.set _ _).cutTorque n code
    · exact h
  split
  · exact ((h.set _ _).modAxis n _).cutTorque n code
  split
  · exact h.carryOut n code r
  split
  · exact h
  split
  · exact h.carryOut n code r
  · exact h.modAxis n _

theorem Dev.LatchesStand.showLatch (h : d.LatchesStand e) (n : Nat) : d.LatchesStand (e.showLatch n) := by
  unfold Dev.showLatch
  extract_lets latches code
  have code' : d.LatchesStand code := h.set _ _
  split
  · exact code'.set _ _
  · exact code'

end

/-! ## A latch that holds -/

/-- Axis `n` has latched `l`. -/
def Dev.Latched (d : Dev) (n : Nat) (l : StopLatch) : Prop := l ∈ (d.axSafe n).latches

section
variable {d e : Dev} {n k : Nat} {l : StopLatch} (h : d.Latched n l)
include h

theorem Dev.Latched.stands (g : d.LatchesStand e) : e.Latched n l := by
  rw [Dev.Latched, g n]
  exact h

theorem Dev.Latched.setAxSafe {x : AxSafe} (more : k = n → l ∈ x.latches) : (d.setAxSafe k x).Latched n l := by
  by_cases own : n = k
  · subst own
    rw [Dev.Latched, Dev.axSafe_setAxSafe]
    exact more rfl
  · rw [Dev.Latched, Dev.axSafe_setAxSafe_other own]
    exact h

theorem Dev.Latched.latchStop (code fn r : Nat) : (d.latchStop k code fn r).Latched n l := by
  unfold Dev.latchStop
  extract_lets x y f
  have latched : f.Latched n l := h.setAxSafe fun own => by
    subst own
    dsimp only
    split_ifs
    · exact h
    · exact List.mem_append_left _ h
  exact latched.stands ((((Dev.LatchesStand.refl f).react k code r).showLatch k))

theorem Dev.Latched.unlatch {p : StopLatch → Bool} (out : k = n → p l = false) : (d.unlatch k p).Latched n l := by
  unfold Dev.unlatch
  extract_lets x
  split_ifs
  · have latched : (d.setAxSafe k { x with latches := x.latches.filter fun l => !p l }).Latched n l := h.setAxSafe fun own => by
      subst own
      exact List.mem_filter.2 ⟨h, by simp [out rfl]⟩
    exact latched.stands ((Dev.LatchesStand.refl _).showLatch k)
  · exact h

theorem Dev.Latched.violation (code : Nat) : (d.violation k code).Latched n l :=
  (h.stands ((Dev.LatchesStand.refl d).raise _ _ _ _ _)).latchStop _ _ _

end

/-- A stop demanded is latched. -/
theorem Dev.latched_latchStop (d : Dev) (n code fn r : Nat) : (d.latchStop n code fn r).Latched n ⟨code, fn, r⟩ := by
  unfold Dev.latchStop
  extract_lets x y f
  have latched : f.Latched n ⟨code, fn, r⟩ := by
    rw [Dev.Latched, Dev.axSafe_setAxSafe]
    dsimp only
    split_ifs with there
    · exact List.contains_iff_mem.1 there
    · exact List.mem_append_right _ List.mem_cons_self
  exact latched.stands ((((Dev.LatchesStand.refl f).react n code r).showLatch n))

theorem Dev.latched_violation (d : Dev) (n code : Nat) : (d.violation n code).Latched n ⟨code, 8, Reaction.sto⟩ := Dev.latched_latchStop _ _ _ _ _

end Sys2Proof.Machine
end

section
/-! # Monitored stops, safe operating stop, safely-limited speed (R381 to R388) -/

namespace Sys2Proof.Machine

/-! ## STO -/

/-- An axis whose torque is cut. -/
def Axis.cut (a : Axis) : Axis :=
  { a with loopsOff := true, plan := none, motion := .rest, softStop := false, stopWhy := .none, reactNow := 0,
           reactNext := none, baseTgt := none,
           cur := { a.cur with out := 0, outD := 0 }, velL := { a.velL with out := 0 },
           posL := { a.posL with out := 0 }, auxL := { a.auxL with out := 0 } }

/-- The monitoring of a stop ended. -/
def Dev.unmonitored (d : Dev) (n : Nat) : Dev :=
  d.setAxSafe n { d.axSafe n with stopKind := 0, pRef := none, blind := false, atRest := false }

theorem cutRegs_apart {n : Nat} (hn : n < 128) :
    Reg.AX1_STATE n ∉ [Reg.AX1_FAULT_CODE n, Reg.R5080_SAFE_STATE n, Reg.AX5_SET_VEL n, Reg.AX5_SET_ACC n, Reg.AX5_ACTIVE_CMD n] ∧
    Reg.AX1_FAULT_CODE n ∉ [Reg.R5080_SAFE_STATE n, Reg.AX5_SET_VEL n, Reg.AX5_SET_ACC n, Reg.AX5_ACTIVE_CMD n] ∧
    Reg.R5080_SAFE_STATE n ∉ [Reg.AX5_SET_VEL n, Reg.AX5_SET_ACC n, Reg.AX5_ACTIVE_CMD n] ∧ odType (Reg.R5080_SAFE_STATE n) = .u8 := by
  revert n
  decide +kernel

/-- What STO leaves of its axis (R383). -/
theorem Dev.cutTorque_cuts (d : Dev) {n : Nat} (hn : n < 128) (code : Nat) {e : Dev} (made : e = d.cutTorque n code) :
    e.axState n = AxState.fault ∧ e.nat (Reg.R5080_SAFE_STATE n) = 4 ∧ (e.axis n).loopsOff = true ∧ (e.axSafe n).stopKind = 0 ∧
    e.reg (Reg.AX1_FAULT_CODE n) = (odType (Reg.AX1_FAULT_CODE n)).wrap code ∧ d.AxesReact e := by
  have reacts : d.AxesReact e := by
    rw [made]
    exact (Dev.Reacts.refl _ _ _).cutTorque (Dev.MayStop.any d (by omega)) code
  unfold Dev.cutTorque at made
  extract_lets aborted faulted shown opened still before unmonitored at made
  obtain ⟨apart₀, apart₁, apart₂, type⟩ := cutRegs_apart hn
  simp only [List.mem_cons, List.not_mem_nil, or_false, not_or] at apart₀ apart₁ apart₂
  have stateF : faulted.axState n = AxState.fault := Dev.axState_set _ hn (by decide)
  have shown' : shown = (faulted.set (Reg.AX1_FAULT_CODE n) code).set (Reg.R5080_SAFE_STATE n) 4 := rfl
  clear_value faulted
  have opened' : opened = shown.modAxis n (·.cut) := rfl
  clear_value shown
  have still' : still = ((opened.set (Reg.AX5_SET_VEL n) 0).set (Reg.AX5_SET_ACC n) 0).set (Reg.AX5_ACTIVE_CMD n) 0 := rfl
  clear_value opened
  have ended : unmonitored = still.setAxSafe n { before with stopKind := 0, pRef := none, blind := false, atRest := false } := rfl
  clear_value before still unmonitored
  have same : e.axis n = unmonitored.axis n ∧ e.axSafe n = unmonitored.axSafe n ∧ ∀ k, e.reg k = unmonitored.reg k := by
    rw [made]
    split
    · exact ⟨rfl, rfl, fun _ => rfl⟩
    · exact ⟨rfl, rfl, fun _ => rfl⟩
  obtain ⟨axis, stop, regs⟩ := same
  have regU : ∀ k, k ≠ Reg.AX5_SET_VEL n ∧ k ≠ Reg.AX5_SET_ACC n ∧ k ≠ Reg.AX5_ACTIVE_CMD n → e.reg k = shown.reg k := fun k hk => by
    have first : unmonitored.reg k = still.reg k := by rw [ended]; rfl
    rw [regs, first, still', Dev.reg_set_other _ _ hk.2.2, Dev.reg_set_other _ _ hk.2.1, Dev.reg_set_other _ _ hk.1, opened', Dev.reg_modAxis]
  have axisU : e.axis n = (shown.axis n).cut := by
    have first : unmonitored.axis n = opened.axis n := by rw [ended, still']; rfl
    rw [axis, first, opened', Dev.axis_modAxis]
  refine ⟨?_, ?_, by rw [axisU]; rfl, by rw [stop, ended, Dev.axSafe_setAxSafe], ?_, reacts⟩
  · rw [Dev.axState, Dev.nat, regU _ apart₀.2.2, shown', Dev.reg_set_other _ _ apart₀.2.1, Dev.reg_set_other _ _ apart₀.1, ← Dev.nat,
      ← Dev.axState, stateF]
  · rw [Dev.nat, regU _ apart₂, ← Dev.nat, shown']
    exact Dev.nat_set_same (n := 4) _ type rfl (by decide)
  · rw [regU _ apart₁.2, shown', Dev.reg_set_other _ _ apart₁.1, Dev.reg_set_same]

/-! ## The monitoring of one axis -/

section
variable {d : Dev} {n k : Nat} {l : StopLatch}

theorem Dev.unlatch_none (d : Dev) {n : Nat} (none_ : (d.axSafe n).latches = []) (p : StopLatch → Bool) : d.unlatch n p = d := by
  unfold Dev.unlatch
  dsimp only
  rw [none_]
  rfl

theorem Dev.slsCheck_calm (none_ : (d.axSafe n).latches = []) (calm : d.slsBreach n = false) : d.slsCheck n = d := by
  unfold Dev.slsCheck
  rw [if_neg (by simp [calm])]
  exact d.unlatch_none none_ _

/-- An axis without a stop, a latch and a speed in breach. -/
theorem Dev.monitorAxis_quiet (quiet : (d.axSafe n).stopKind = 0 ∧ (d.axSafe n).latches = [] ∧ d.slsBreach n = false) : d.monitorAxis n = d := by
  obtain ⟨free, none_, calm⟩ := quiet
  unfold Dev.monitorAxis
  rw [Dev.slsCheck_calm none_ calm]
  dsimp only
  rw [if_pos free]
  exact d.unlatch_none none_ _

/-- An axis under SS2 at its reference (R386). -/
theorem Dev.monitorAxis_sos {p : Int} (none_ : (d.axSafe n).latches = []) (calm : d.slsBreach n = false) (stops : (d.axSafe n).stopKind ≠ 0)
    (at_ : (d.axSafe n).pRef = some p) : d.monitorAxis n = d.sosStep n p := by
  unfold Dev.monitorAxis
  rw [Dev.slsCheck_calm none_ calm]
  dsimp only
  rw [if_neg stops, at_]

/-- The monitoring past the check of the speed. -/
def Dev.monitorStop (d : Dev) (n : Nat) : Dev :=
  let x := d.axSafe n
  if x.stopKind = 0 then
    d.unlatch n fun l => l.fn == 8 && (l.code == Code.SS1_RAMP_VIOLATION || l.code == Code.SS2_TIMEOUT ||
      (l.code == Code.SOS_VIOLATION && !d.posLost n))
  else match x.pRef with
    | some p => d.sosStep n p
    | none =>
      if d.tickAbs < (d.axis n).rampAt then d
      else
        let d := d.when x.v0.isNone fun d =>
          d.setAxSafe n { x with v0 := some (d.measuredVel n), vFresh := d.measuredVel n }
        if d.posLost n then d.blindStep n
        else if (d.axis n).fb.pos.age = 0 then d.rampStep n
        else d

theorem Dev.monitorAxis_eq (d : Dev) (n : Nat) : d.monitorAxis n = (d.slsCheck n).monitorStop n := rfl

/-! ## A latch held by the axis stays while others are monitored -/

section
variable (h : d.Latched n l)
include h

theorem Dev.Latched.slsCheck (other : k ≠ n) : (d.slsCheck k).Latched n l := by
  unfold Dev.slsCheck
  split_ifs
  · exact h
  · exact (h.stands ((Dev.LatchesStand.refl d).raise _ _ _ _ _)).latchStop _ _ _
  · exact h.unlatch fun own => absurd own other

theorem Dev.Latched.sosStep (p : Int) : (d.sosStep k p).Latched n l := by
  unfold Dev.sosStep
  split_ifs
  · exact h.violation _
  · exact h

theorem Dev.Latched.blindStep : (d.blindStep k).Latched n l := by
  unfold Dev.blindStep
  extract_lets x f
  have told : f.Latched n l := by
    change (if x.blind = true then d else _ : Dev).Latched n l
    split_ifs
    · exact h
    · exact (h.stands ((Dev.LatchesStand.refl d).raise _ _ _ _ _)).setAxSafe fun own => by subst own; exact h
  split_ifs
  · exact h
  · exact told.stands ((Dev.LatchesStand.refl f).cutTorque k _)
  · exact told

theorem Dev.Latched.rampStep : (d.rampStep k).Latched n l := by
  unfold Dev.rampStep
  extract_lets v x still y
  have mine : k = n → l ∈ y.latches := fun own => by subst own; exact h
  split_ifs
  · exact h.violation _
  · exact (h.setAxSafe (x := { y with pRef := some (d.measured k) }) mine).stands (.set (.refl _) _ _)
  · exact (h.setAxSafe (x := y) mine).stands ((Dev.LatchesStand.refl _).cutTorque k _)
  · exact h.setAxSafe mine

theorem Dev.Latched.monitorStop (code : l.code = Code.SLS_VIOLATION ∨ k ≠ n) : (d.monitorStop k).Latched n l := by
  unfold Dev.monitorStop
  extract_lets x f
  have judged : f.Latched n l := by
    change (d.when _ _).Latched n l
    unfold Dev.when
    split_ifs
    · exact h.setAxSafe fun own => by subst own; exact h
    · exact h
  split
  · refine h.unlatch fun own => ?_
    rcases code with sls | other
    · simp [sls]
    · exact absurd own other
  · split
    · exact h.sosStep _
    · split
      · exact h
      · split
        · exact judged.blindStep
        · split
          · exact judged.rampStep
          · exact judged

theorem Dev.Latched.monitorAxis (other : k ≠ n) : (d.monitorAxis k).Latched n l :=
  (h.slsCheck other).monitorStop (.inr other)

theorem Dev.Latched.endChainSs1 (c : Nat) : (d.endChainSs1 c).Latched n l := by
  unfold Dev.endChainSs1
  dsimp only
  split_ifs
  · exact h.stands (.each _ _ (.refl d) fun m _ f hf => hf.cutTorque m _)
  · exact h

end

/-- A speed above its safely-limited one is latched (R388). -/
theorem Dev.monitorAxis_sls (none_ : (d.axSafe n).latches = []) (breach : d.slsBreach n = true) :
    (d.monitorAxis n).Latched n ⟨Code.SLS_VIOLATION, 8, d.nat (act (Reg.R5080_SLS_REACTION n))⟩ := by
  have latched : (d.slsCheck n).Latched n ⟨Code.SLS_VIOLATION, 8, d.nat (act (Reg.R5080_SLS_REACTION n))⟩ := by
    unfold Dev.slsCheck
    rw [if_pos breach, none_, if_neg (by simp)]
    exact Dev.latched_latchStop _ _ _ _ _
  exact latched.monitorStop (.inl rfl)

end

/-! ## The monitoring is a matter of the axes and their chains -/

section
variable {d e : Dev} {n : Nat}

theorem Dev.Reacts.slsCheck (h : d.AxesReact e) (low : n < 256) : d.AxesReact (e.slsCheck n) := by
  unfold Dev.slsCheck
  split
  · split
    · exact h
    · exact (h.raise _ _ _ _ _).latchStop (.any d low) _ _ _
  · exact h.unlatch low low _

theorem Dev.Reacts.blindStep (h : d.AxesReact e) (low : n < 256) : d.AxesReact (e.blindStep n) := by
  unfold Dev.blindStep
  extract_lets x f
  have told : d.AxesReact f := by
    change d.AxesReact (if x.blind = true then e else _)
    split
    · exact h
    · exact (h.raise _ _ _ _ _).setAxSafe low _
  split
  · exact h
  · split
    · exact told.cutTorque (.any d low) _
    · exact told

theorem Dev.Reacts.rampStep (h : d.AxesReact e) (low : n < 256) : d.AxesReact (e.rampStep n) := by
  unfold Dev.rampStep
  extract_lets v x still y
  split
  · exact h.violation (.any d low) _
  · split
    · exact Dev.Reacts.setOwn (h.setAxSafe low _) low low (k := Reg.R5080_SAFE_STATE n) _
    · split
      · exact Dev.Reacts.cutTorque (h.setAxSafe low y) (.any d low) _
      · exact h.setAxSafe low y

theorem Dev.Reacts.sosStep (h : d.AxesReact e) (low : n < 256) (p : Int) : d.AxesReact (e.sosStep n p) := by
  unfold Dev.sosStep
  split
  · exact h.violation (.any d low) _
  · exact h

theorem Dev.Reacts.monitorAxis (h : d.AxesReact e) (low : n < 256) : d.AxesReact (e.monitorAxis n) := by
  have checked := h.slsCheck low
  rw [Dev.monitorAxis_eq]
  obtain ⟨c, hc⟩ : ∃ c, c = e.slsCheck n := ⟨_, rfl⟩
  rw [← hc] at checked ⊢
  unfold Dev.monitorStop
  extract_lets x f
  have judged : d.AxesReact f := by
    change d.AxesReact (c.when _ _)
    unfold Dev.when
    split
    · exact checked.setAxSafe low _
    · exact checked
  split
  · exact checked.unlatch low low _
  · split
    · exact checked.sosStep low _
    · split
      · exact checked
      · split
        · exact judged.blindStep low
        · split
          · exact judged.rampStep low
          · exact judged

theorem Dev.Reacts.endChainSs1 (h : d.AxesReact e) (c : Nat) : d.AxesReact (e.endChainSs1 c) := by
  unfold Dev.endChainSs1
  dsimp only
  split
  · refine h.trans (Dev.Reacts.each _ _ _ fun m hm f hf => hf.cutTorque (.any e ?_) _)
    exact Dev.members_lt (List.mem_of_mem_filter (List.mem_of_mem_filter hm))
  · exact h

end

/-! ## A run of the monitoring -/

theorem iterate_reaches {σ : Type} {P : σ → Prop} {f : Nat → σ → σ} {s : σ} {n : Nat} (before : ∀ k < n, f k s = s) (at_ : P (f n s))
    (after : ∀ k, n < k → ∀ x, P x → P (f k x)) : ∀ {N : Nat}, n < N → P (iterate N f s)
  | N + 1, hN => by
    rw [iterate_succ]
    rcases Nat.lt_or_ge n N with less | more
    · exact after N less _ (iterate_reaches before at_ after less)
    · have eq : N = n := Nat.le_antisymm more (Nat.le_of_lt_succ hN)
      subst eq
      rw [iterate_idle before]
      exact at_

section
variable {s : State} {n : Nat} (live : s.Live) (hn : n < 128)
include live

section
variable (alone : s.found.enabledChains = [])
include alone

omit live in
theorem Dev.axisMonitoring_eq : s.found.axisMonitoring = each (iterate 128 (fun n (d : Dev) => d.monitorAxis n) s.found).enabledChains
    (fun c d => d.endChainSs1 c) (iterate 128 (fun n (d : Dev) => d.monitorAxis n) s.found) := by
  unfold Dev.axisMonitoring
  rw [alone]
  rfl

theorem monitoring_idle (idle : ∀ m < 128, s.found.monitorAxis m = s.found) : Does .axisMonitoring s fun b a => b.Keeps a [] := by
  have same : iterate 128 (fun n (d : Dev) => d.monitorAxis n) s.found = s.found := iterate_idle (f := fun n (d : Dev) => d.monitorAxis n) idle
  have result : s.found.axisMonitoring = s.found := by
    rw [Dev.axisMonitoring_eq alone, same, alone]
    rfl
  have leaves : Leaves .axisMonitoring s s.found := .cell (guard := Dev.live) (l := []) (fun d => d.axisMonitoring) live.passes result (Dev.Keeps.refl _ _)
  exact leaves.unchanged

include hn in
theorem monitoring_latches {l : StopLatch} (quiet : ∀ m < 128, m ≠ n → s.found.monitorAxis m = s.found) (latches : (s.found.monitorAxis n).Latched n l) :
    Does .axisMonitoring s fun _ a => a.Latched n l := by
  obtain ⟨f, monitored⟩ : ∃ f, f = iterate 128 (fun n (d : Dev) => d.monitorAxis n) s.found := ⟨_, rfl⟩
  obtain ⟨e, made⟩ : ∃ e, e = each f.enabledChains (fun c d => d.endChainSs1 c) f := ⟨_, rfl⟩
  have first : f.Latched n l := by
    rw [monitored]
    exact iterate_reaches (P := fun d : Dev => d.Latched n l) (f := fun n (d : Dev) => d.monitorAxis n)
      (fun k hk => quiet k (by omega) (Nat.ne_of_lt hk)) latches (fun k hk x hx => hx.monitorAxis (Nat.ne_of_gt hk)) hn
  have second : e.Latched n l := by
    rw [made]
    exact each_holds (fun d : Dev => d.Latched n l) _ _ (fun c _ x hx => hx.endChainSs1 c) first
  have result : s.found.axisMonitoring = e := by rw [Dev.axisMonitoring_eq alone, made, monitored]
  have reacts : s.found.AxesReact e := by
    have axes : s.found.AxesReact f := by
      rw [monitored]
      exact iterate_holds (fun d : Dev => s.found.AxesReact d) _ _ (fun k hk x hx => hx.monitorAxis (by omega)) (Dev.Reacts.refl _ _ _)
    rw [made]
    exact each_holds (fun d : Dev => s.found.AxesReact d) _ _ (fun c _ x hx => hx.endChainSs1 c) axes
  have leaves : Leaves .axisMonitoring s e := .cell (guard := Dev.live) (fun d => d.axisMonitoring) live.passes result reacts.keeps
  exact leaves.does fun _ _ => second

end

/-! ## The ends of monitored stops -/

include hn

theorem ssTMaxExpiry_ends (ss1 : (s.found.axSafe n).stopKind = Reaction.ss1)
    (past : s.found.nat (act (Reg.R5080_SS_T_MAX_MS n)) * 1000000 ≤ s.found.rampNs n s.found.rawNow) (own : (s.found.axSafe n).chainStp = false) :
    Does (.ssTMaxExpiry n) s fun b a =>
      a.axState n = AxState.fault ∧ a.nat (Reg.R5080_SAFE_STATE n) = 4 ∧ (a.axis n).loopsOff = true ∧ (a.axSafe n).stopKind = 0 ∧
      a.reg (Reg.AX1_FAULT_CODE n) = (odType (Reg.AX1_FAULT_CODE n)).wrap (b.axis n).cause := by
  obtain ⟨e, made⟩ : ∃ e, e = s.found.cutTorque n (s.found.axis n).cause := ⟨_, rfl⟩
  obtain ⟨state, shown, off, kind, code, reacts⟩ := s.found.cutTorque_cuts hn _ made
  have result : s.found.ssTMaxExpiry n = e := by
    unfold Dev.ssTMaxExpiry
    dsimp only
    rw [if_pos ⟨ss1, past⟩, own, if_neg Bool.false_ne_true, made, Dev.endSs1]
  have leaves : Leaves (.ssTMaxExpiry n) s e := axis_leaves live hn (f := fun d => d.ssTMaxExpiry n) rfl result reacts.keeps
  exact leaves.does fun pend vecs => ⟨state, shown, off, kind, code⟩

theorem ssTMaxExpiry_idle (no : (s.found.axSafe n).stopKind ≠ Reaction.ss1 ∨
    ¬s.found.nat (act (Reg.R5080_SS_T_MAX_MS n)) * 1000000 ≤ s.found.rampNs n s.found.rawNow) : Does (.ssTMaxExpiry n) s fun b a => b.Keeps a [] := by
  have idle : s.found.ssTMaxExpiry n = s.found := if_neg fun h => no.elim (fun other => other h.1) fun early => early h.2
  have leaves : Leaves (.ssTMaxExpiry n) s s.found := axis_leaves live hn (f := fun d => d.ssTMaxExpiry n) rfl idle (l := []) (Dev.Keeps.refl _ _)
  exact leaves.unchanged

theorem ss2Timeout_latches (due : (s.found.axSafe n).stopKind = Reaction.ss2 ∧ (s.found.axSafe n).pRef = none ∧
    s.found.nat (act (Reg.R5080_SS_T_MAX_MS n)) * 1000000 ≤ s.found.rampNs n s.found.rawNow) :
    Does (.ss2Timeout n) s fun _ a => a.Latched n ⟨Code.SS2_TIMEOUT, 8, Reaction.sto⟩ := by
  obtain ⟨e, made⟩ : ∃ e, e = s.found.violation n Code.SS2_TIMEOUT := ⟨_, rfl⟩
  have result : s.found.ss2Timeout n = e := (if_pos due).trans made.symm
  have latched : e.Latched n ⟨Code.SS2_TIMEOUT, 8, Reaction.sto⟩ := by rw [made]; exact Dev.latched_violation _ _ _
  have reacts : s.found.AxesReact e := by rw [made]; exact (Dev.Reacts.refl _ _ _).violation (.any _ (by omega)) _
  have leaves : Leaves (.ss2Timeout n) s e := axis_leaves live hn (f := fun d => d.ss2Timeout n) rfl result reacts.keeps
  exact leaves.does fun _ _ => latched

theorem ss2Timeout_idle (no : ¬((s.found.axSafe n).stopKind = Reaction.ss2 ∧ (s.found.axSafe n).pRef = none ∧
    s.found.nat (act (Reg.R5080_SS_T_MAX_MS n)) * 1000000 ≤ s.found.rampNs n s.found.rawNow)) : Does (.ss2Timeout n) s fun b a => b.Keeps a [] := by
  have idle : s.found.ss2Timeout n = s.found := if_neg no
  have leaves : Leaves (.ss2Timeout n) s s.found := axis_leaves live hn (f := fun d => d.ss2Timeout n) rfl idle (l := []) (Dev.Keeps.refl _ _)
  exact leaves.unchanged

/-! ## Safely-limited speed in force -/

/-- A delay after a selection that has run. -/
def DelayRun (since : Option Nat) (delay now : Nat) : Prop := ∃ t, since = some t ∧ t + delay * 1000000 ≤ now

omit live hn in
theorem delayRun_iff (since : Option Nat) (delay now : Nat) :
    (match since with | some t => decide (t + delay * 1000000 ≤ now) | none => false) = true ↔ DelayRun since delay now := by
  unfold DelayRun
  cases since <;> simp

omit live hn in
theorem slsActive_fits : (∀ n < 128, (odType (Reg.R5080_SLS_ACTIVE n)).wrap 1 = 1) ∧ ∀ c < 16, (odType (Reg.R5040_SLS_ACTIVE c)).wrap 1 = 1 := by
  decide +kernel

theorem slsInForce_does {chain : Bool} {k : Nat} (fits : (odType k).wrap 1 = 1) (result : s.found.slsInForce chain n = s.found.set k 1) :
    Does (.slsActive chain n) s fun b a => a.flag k = true ∧ b.KeepsRegs a [k] ∧ b.Keeps a [.od] := by
  have keeps := s.found.keeps_set k 1
  have leaves : Leaves (.slsActive chain n) s (s.found.set k 1) := axis_leaves live hn (f := fun d => d.slsInForce chain n) rfl result keeps
  refine leaves.quietly rfl ⟨?_, s.found.keepsRegs_set k 1, keeps⟩
  rw [Dev.flag, Dev.reg_set_same, fits]
  rfl

theorem slsInForce_idle {chain : Bool} (idle : s.found.slsInForce chain n = s.found) : Does (.slsActive chain n) s fun b a => b.Keeps a [] := by
  have leaves : Leaves (.slsActive chain n) s s.found := axis_leaves live hn (f := fun d => d.slsInForce chain n) rfl idle (l := []) (Dev.Keeps.refl _ _)
  exact leaves.unchanged

end

/-- Settles O48: monitored stops, standstill and safely-limited speed. -/
theorem monitoredStops : Obligations.MonitoredStops := by
  unfold Obligations.MonitoredStops
  intro s n live hn d x quiet past holds
  refine ⟨fun alone all => monitoring_idle live alone fun m hm => Dev.monitorAxis_quiet (all m hm), fun alone others none_ => ⟨fun breach _ => ?_, fun p calm stops at_ =>
    ⟨fun lost => ?_, fun found within => ?_⟩⟩, fun ss1 past own => ssTMaxExpiry_ends live hn ss1 past own, fun no => ssTMaxExpiry_idle live hn no,
    fun ss2 free past => ss2Timeout_latches live hn ⟨ss2, free, past⟩, fun no => ss2Timeout_idle live hn ?_, ⟨fun due => ?_, fun early => ?_⟩, fun hc =>
    ⟨fun due => ?_, fun early => ?_⟩⟩
  · exact monitoring_latches live hn alone (fun m hm other => Dev.monitorAxis_quiet (others m hm other)) (Dev.monitorAxis_sls none_ breach)
  · refine monitoring_latches live hn alone (fun m hm other => Dev.monitorAxis_quiet (others m hm other)) ?_
    rw [Dev.monitorAxis_sos none_ calm stops at_, Dev.sosStep, if_pos lost]
    exact Dev.latched_violation _ _ _
  · refine monitoring_idle live alone fun m hm => ?_
    by_cases own : m = n
    · subst own
      rw [Dev.monitorAxis_sos none_ calm stops at_, Dev.sosStep]
      refine if_neg fun h => h.elim (fun lost => ?_) fun far => ?_
      · rw [show s.found.posLost m = false from found] at lost
        cases lost
      · exact absurd within (not_le.2 far)
    · exact Dev.monitorAxis_quiet (others m hm own)
  · rintro ⟨ss2, free, past⟩
    rcases no with other | ref | early
    · exact other ss2
    · exact ref free
    · exact early past
  · refine slsInForce_does live hn (slsActive_fits.1 n hn) ?_
    unfold Dev.slsInForce
    dsimp only
    rw [if_neg Bool.false_ne_true, Dev.when, if_pos]
    rw [Bool.and_eq_true]
    exact ⟨decide_eq_true hn, (delayRun_iff _ _ _).2 due⟩
  · refine slsInForce_idle live hn ?_
    unfold Dev.slsInForce
    dsimp only
    rw [if_neg Bool.false_ne_true, Dev.when, if_neg]
    rw [Bool.and_eq_true]
    exact fun h => early ((delayRun_iff _ _ _).1 h.2)
  · refine slsInForce_does live hn (slsActive_fits.2 n hc) ?_
    unfold Dev.slsInForce
    dsimp only
    rw [if_pos rfl, Dev.when, if_pos]
    rw [Bool.and_eq_true]
    exact ⟨decide_eq_true hc, (delayRun_iff _ _ _).2 due⟩
  · refine slsInForce_idle live hn ?_
    unfold Dev.slsInForce
    dsimp only
    rw [if_pos rfl, Dev.when, if_neg]
    rw [Bool.and_eq_true]
    exact fun h => early ((delayRun_iff _ _ _).1 h.2)

end Sys2Proof.Machine
end

section
/-! # Safe inputs (R370 to R373, R391) -/

namespace Sys2Proof.Machine

/-! ## What shows and selects -/

/-- Selections have been judged and shown: latches, safe functions and safe outputs stand. -/
structure Dev.Selects (d e : Dev) : Prop where
  keeps : d.Keeps e [.od, .safe]
  latches : d.LatchesStand e
  fns : e.safe.fns = d.safe.fns
  outs : e.safe.outs = d.safe.outs

section
variable {d e f : Dev}

theorem Dev.Selects.refl (d : Dev) : d.Selects d := ⟨Dev.Keeps.refl _ _, .refl _, rfl, rfl⟩

theorem Dev.Selects.set (h : d.Selects e) (k : Nat) (v : Int) : d.Selects (e.set k v) := ⟨h.keeps.set _ _, h.latches.set _ _, h.fns, h.outs⟩

theorem Dev.Selects.setAxSafe (h : d.Selects e) (n : Nat) {x : AxSafe} (same : x.latches = (e.axSafe n).latches) : d.Selects (e.setAxSafe n x) :=
  ⟨h.keeps.step (e.keeps_setAxSafe n x), h.latches.setAxSafe n same, h.fns, h.outs⟩

theorem Dev.Selects.setChainSls (h : d.Selects e) (m : Map (Option Nat)) : d.Selects { e with safe := { e.safe with chainSls := m } } :=
  ⟨h.keeps.step (e.keeps_safe _), h.latches, h.fns, h.outs⟩

theorem Dev.Selects.when (h : d.Selects e) (b : Bool) (g : Dev → Dev) (then_ : d.Selects (g e)) : d.Selects (e.when b g) := by
  unfold Dev.when
  split
  · exact then_
  · exact h

theorem Dev.Selects.showFn (h : d.Selects e) (k : Nat) : d.Selects (e.showFn k) := (h.set _ _).set _ _

theorem Dev.Selects.slsAxis (h : d.Selects e) (n : Nat) : d.Selects (e.slsAxis n) := by
  have mine : ∀ t, d.Selects (e.setAxSafe n { e.axSafe n with slsSince := t }) := fun t => h.setAxSafe n rfl
  unfold Dev.slsAxis
  dsimp only
  split_ifs
  · exact h
  · exact (mine _).when _ _ ((mine _).set _ _)
  · exact (mine _).set _ _

theorem Dev.Selects.slsChain (h : d.Selects e) (c : Nat) : d.Selects (e.slsChain c) := by
  have put : ∀ t, d.Selects ({ e with safe := { e.safe with chainSls := mset none e.safe.chainSls c t } } : Dev) := fun _ => h.setChainSls _
  unfold Dev.slsChain
  dsimp only
  split_ifs
  · exact h
  · exact (put _).when _ _ ((put _).set _ _)
  · exact (put _).set _ _

theorem Dev.Selects.slsSelect (h : d.Selects e) : d.Selects e.slsSelect :=
  each_holds (fun f : Dev => d.Selects f) _ _ (fun c _ _ hf => hf.slsChain c) (each_holds (fun f : Dev => d.Selects f) _ _ (fun n _ _ hf => hf.slsAxis n) h)

theorem Dev.safeFn_congr (h : e.safe.fns = d.safe.fns) (k : Nat) : e.safeFn k = d.safeFn k := by rw [Dev.safeFn, Dev.safeFn, h]

theorem Dev.safeOut_congr (h : e.safe.outs = d.safe.outs) (k : Nat) : e.safeOut k = d.safeOut k := by rw [Dev.safeOut, Dev.safeOut, h]

/-! ## The scope of a function -/

theorem scopeRegs_apart {N C : Nat → Prop} {k : Nat} (hk : k < 8) :
    ¬ReactionReg N C (act (Reg.R5010_CHAIN_MASK k)) ∧ ¬ReactionReg N C (act (Reg.R5020_CHAIN_MASK k)) := by
  have log : ∀ k < 8, act (Reg.R5010_CHAIN_MASK k) ∉ logRegs ∧ act (Reg.R5020_CHAIN_MASK k) ∉ logRegs := by decide +kernel
  constructor
  · rintro (⟨n, -, hn, ax⟩ | ⟨c, -, hc, ch⟩ | gen | is)
    · simp only [act, Reg.R5010_CHAIN_MASK, Reg.key] at ax; omega
    · simp only [act, Reg.R5010_CHAIN_MASK, Reg.CH5_CONTROL, Reg.key] at ch; omega
    · simp only [act, Reg.R5010_CHAIN_MASK, Reg.key] at gen; omega
    · exact (log k hk).1 is
  · rintro (⟨n, -, hn, ax⟩ | ⟨c, -, hc, ch⟩ | gen | is)
    · simp only [act, Reg.R5020_CHAIN_MASK, Reg.key] at ax; omega
    · simp only [act, Reg.R5020_CHAIN_MASK, Reg.CH5_CONTROL, Reg.key] at ch; omega
    · simp only [act, Reg.R5020_CHAIN_MASK, Reg.key] at gen; omega
    · exact (log k hk).2 is

theorem Dev.Reacts.fnScope {N C : Nat → Prop} (h : d.Reacts N C e) {k : Nat} (hk : k < 8) (n : Nat) : e.fnScope k n = d.fnScope k n := by
  have dom : e.dom = d.dom := h.keeps .dom (by decide)
  unfold Dev.fnScope Dev.inScope
  rw [h.chainOf, Dev.nat, h.regs _ (scopeRegs_apart hk).1, ← Dev.nat, Dev.bytes, dom, ← Dev.bytes]

/-! ## Stops latched on several axes -/

theorem Dev.latchAll_latches (l : List Nat) (code fn r : Nat) {n : Nat} (mem : n ∈ l) :
    (each l (fun n (d : Dev) => d.latchStop n code fn r) d).Latched n ⟨code, fn, r⟩ :=
  each_reaches (fun _ => True) (fun e : Dev => e.Latched n ⟨code, fn, r⟩) (f := fun n (d : Dev) => d.latchStop n code fn r) mem (fun _ _ _ _ => trivial)
    (fun m _ _ _ he => he.latchStop (k := m) code fn r) (fun e _ => e.latched_latchStop n code fn r) trivial

/-- A demand entered: the stop is latched on every axis of its scope (R372). -/
theorem Dev.enterDemand_latches {k : Nat} (hk : k < 8) (raw : Nat) (stops : d.fnKind k = FnKind.estop ∨ d.fnKind k = FnKind.guard) {e : Dev}
    (made : e = d.enterDemand k raw) :
    d.Keeps e reactionParts ∧ (e.safeFn k).demand = (d.safeFn k).demand ∧ (e.safeFn k).levels = (d.safeFn k).levels ∧
    ∀ m < 128, d.fnScope k m = true → e.Latched m ⟨Code.SAFE_INPUT_DEMAND, k, d.nat (act (Reg.R5010_REACTION k))⟩ := by
  obtain ⟨r, hr⟩ : ∃ r, r = d.nat (act (Reg.R5010_REACTION k)) := ⟨_, rfl⟩
  obtain ⟨o, opened⟩ : ∃ o, o = d.setSafeFn k { d.safeFn k with opened := true, demandAt := some raw } := ⟨_, rfl⟩
  obtain ⟨t, told⟩ : ∃ t, t = o.raise Code.SAFE_INPUT_DEMAND Kind.safeIn k r := ⟨_, rfl⟩
  have stops' : (d.fnKind k == FnKind.estop || d.fnKind k == FnKind.guard) = true := by simpa using stops
  have eq : e = each (t.scopeAxes k) (fun n d => d.latchStop n Code.SAFE_INPUT_DEMAND k r) t := by
    rw [made]
    unfold Dev.enterDemand
    dsimp only
    rw [if_pos stops', if_pos stops', told, opened, hr]
  have keepsO : d.Keeps o [.safe] := by rw [opened]; exact d.keeps_safe _
  have reacts : o.AxesReact t := by rw [told]; exact (Dev.Reacts.refl _ _ _).raise _ _ _ _ _
  have all : t.AxesReact e := by
    rw [eq]
    exact .each _ _ _ fun n hn f hf => hf.latchStop (.any t (Dev.scopeAxes_lt hn)) _ _ _
  have fn : e.safeFn k = o.safeFn k := (Dev.safeFn_congr all.fns k).trans (Dev.safeFn_congr reacts.fns k)
  have here : o.safeFn k = { d.safeFn k with opened := true, demandAt := some raw } := by rw [opened]; exact mget_mset_same _ _ _ _
  refine ⟨((keepsO.mono (by decide)).step reacts.keeps).step all.keeps, by rw [fn, here], by rw [fn, here], fun m hm scope => ?_⟩
  have same : o.fnScope k m = d.fnScope k m := by rw [opened]; rfl
  rw [eq, ← hr]
  refine Dev.latchAll_latches _ _ _ _ (List.mem_filter.2 ⟨List.mem_range.2 hm, ?_⟩)
  rw [reacts.fnScope hk, same, scope]

/-! ## Latches released -/

/-- No axis of 128 has a latch of a function. -/
def Dev.Released (d : Dev) (k n : Nat) : Prop := ∀ l ∈ (d.axSafe n).latches, l.fn ≠ k

theorem Dev.latches_unlatch_other {m n : Nat} (h : n ≠ m) (p : StopLatch → Bool) : ((d.unlatch m p).axSafe n).latches = (d.axSafe n).latches := by
  unfold Dev.unlatch
  extract_lets x
  split
  · rw [(Dev.LatchesStand.refl _).showLatch m n, Dev.axSafe_setAxSafe_other h]
  · rfl

theorem Dev.latches_unlatch_same (n : Nat) (p : StopLatch → Bool) : ((d.unlatch n p).axSafe n).latches = (d.axSafe n).latches.filter fun l => !p l := by
  unfold Dev.unlatch
  extract_lets x
  split
  next => rw [(Dev.LatchesStand.refl _).showLatch n n, Dev.axSafe_setAxSafe]
  next none_ =>
    refine (List.filter_eq_self.2 fun l hl => ?_).symm
    by_contra has
    exact none_ (List.any_eq_true.2 ⟨l, hl, by simpa using has⟩)

theorem Dev.unlatchAll_releases (k : Nat) {n : Nat} (hn : n < 128) : (iterate 128 (fun n (d : Dev) => d.unlatch n fun l => l.fn == k) d).Released k n := by
  refine each_reaches (fun _ => True) (fun e : Dev => e.Released k n) (f := fun n (d : Dev) => d.unlatch n fun l => l.fn == k) (List.mem_range.2 hn)
    (fun _ _ _ _ => trivial) (fun m _ e _ he => ?_) (fun e _ => ?_) trivial
  · by_cases own : n = m
    · subst own
      rw [Dev.Released, Dev.latches_unlatch_same]
      exact fun l hl => he l (List.mem_of_mem_filter hl)
    · rw [Dev.Released, Dev.latches_unlatch_other own]
      exact he
  · rw [Dev.Released, Dev.latches_unlatch_same]
    intro l hl
    have away := (List.mem_filter.1 hl).2
    simpa using away

/-- A demand left without a reset: its latches are released (R391). -/
theorem Dev.leaveDemand_releases {k : Nat} (raw : Nat) (stops : d.fnKind k = FnKind.estop ∨ d.fnKind k = FnKind.guard)
    (plain : d.nat (act (Reg.R5010_RESET_MODE k)) = 0) {e : Dev} (made : e = d.leaveDemand k raw) :
    d.Keeps e reactionParts ∧ (e.safeFn k).demand = (d.safeFn k).demand ∧ ∀ m < 128, e.Released k m := by
  obtain ⟨o, left⟩ : ∃ o, o = d.setSafeFn k { d.safeFn k with demandAt := none, test := (d.safeFn k).test && !(d.safeFn k).opened } := ⟨_, rfl⟩
  have notReset : d.fnKind k ≠ FnKind.reset := by rcases stops with h | h <;> rw [h] <;> decide
  have eq : e = iterate 128 (fun n (d : Dev) => d.unlatch n fun l => l.fn == k) o := by
    rw [made]
    unfold Dev.leaveDemand
    extract_lets x len o'
    have same : o' = o := left.symm
    have kind : o'.fnKind k ≠ FnKind.reset := notReset
    have mode : o'.nat (act (Reg.R5010_RESET_MODE k)) = 0 := plain
    rw [if_neg kind, if_pos mode, same]
  have keepsO : d.Keeps o [.safe] := by rw [left]; exact d.keeps_safe _
  have reacts : o.AxesReact e := by
    rw [eq]
    exact each_holds (fun f : Dev => o.AxesReact f) _ _ (fun n hn f hf => hf.unlatch (by have := List.mem_range.1 hn; omega) (by have := List.mem_range.1 hn; omega) _)
      (Dev.Reacts.refl _ _ _)
  have here : o.safeFn k = { d.safeFn k with demandAt := none, test := (d.safeFn k).test && !(d.safeFn k).opened } := by
    rw [left]
    exact mget_mset_same _ _ _ _
  refine ⟨(keepsO.mono (by decide)).step reacts.keeps, by rw [Dev.safeFn_congr reacts.fns, here], fun m hm => ?_⟩
  rw [eq]
  exact Dev.unlatchAll_releases k hm

/-! ## A qualified level -/

/-- The device with a level qualified. -/
def Dev.qualified (d : Dev) (i : Nat) (level : Bool) (raw : Nat) : Dev :=
  d.setSafeFn (i / 2) { d.safeFn (i / 2) with
    levels := withBit (d.safeFn (i / 2)).levels (i % 2) level
    soleAt := if (d.safeFn (i / 2)).levels.testBit (i % 2) != level then some raw else (d.safeFn (i / 2)).soleAt }

theorem Dev.safeInput_eq {i : Nat} (hi : i < 16) (level : Bool) (raw : Nat) : d.safeInput i level raw = (d.qualified i level raw).fnEval (i / 2) raw := by
  unfold Dev.safeInput
  rw [if_neg (Nat.not_le.2 hi)]
  rfl

/-- A function judged with its levels: what it shows of itself, before the demand is entered or left. -/
def Dev.judged (d : Dev) (k : Nat) : SafeFn :=
  { d.safeFn k with
    demand := d.showsDemand k 0 || d.showsDemand k 1
    disc := (d.safeFn k).disc && !(d.showsDemand k 0 && d.showsDemand k 1)
    soleAt := if d.showsDemand k 0 = d.showsDemand k 1 then none else (d.safeFn k).soleAt }

theorem Dev.fnEval_eq {k : Nat} (used : d.fnKind k ≠ 0) (raw : Nat) : d.fnEval k raw =
    ((if ((d.judged k).demand || (d.judged k).disc) ∧ !((d.safeFn k).demand || (d.safeFn k).disc) then (d.setSafeFn k (d.judged k)).enterDemand k raw
      else if !((d.judged k).demand || (d.judged k).disc) ∧ ((d.safeFn k).demand || (d.safeFn k).disc) then (d.setSafeFn k (d.judged k)).leaveDemand k raw
      else d.setSafeFn k (d.judged k)).showFn k).slsSelect := by
  unfold Dev.fnEval
  extract_lets x unused a b was y
  rw [if_neg used]
  rfl

end

section
variable {s : State} {i : Nat} (live : s.Live) (hi : i < 16) {raw : Nat} (stops : s.found.fnKind (i / 2) = FnKind.estop ∨ s.found.fnKind (i / 2) = FnKind.guard)
  (mode : s.found.nat (act (Reg.R5010_MODE (i / 2))) ≠ 1)
include live hi

theorem input_dead (dead : s.found.bankDead 3 = true) : Does (.safeInputQualified i true raw) s fun b a => b.Keeps a [] := by
  have idle : s.found.safeInputPin i true raw = s.found := if_pos ⟨dead, rfl⟩
  have leaves : Leaves (.safeInputQualified i true raw) s s.found :=
    .cell (guard := fun d => d.liveIf (i < 16)) (l := []) (fun d => d.safeInputPin i true raw) (live.passesIf hi) idle (Dev.Keeps.refl _ _)
  exact leaves.unchanged

include stops mode

omit live hi stops in
/-- With the pair's levels read alike, an input shows demand where its level is low (R370). -/
theorem showsDemand_qualified (level : Bool) (j : Nat) : (s.found.qualified i level raw).showsDemand (i / 2) j =
    !(withBit (s.found.safeFn (i / 2)).levels (i % 2) level).testBit j := by
  unfold Dev.showsDemand
  have mode' : ¬((s.found.qualified i level raw).nat (act (Reg.R5010_MODE (i / 2))) = 1 ∧ j = 1) := fun h => mode h.1
  dsimp only
  rw [if_neg mode', Dev.qualified, Dev.safeFn_setSafeFn]

theorem input_demands (calm : (s.found.safeFn (i / 2)).demand = false) (whole : (s.found.safeFn (i / 2)).disc = false) :
    Does (.safeInputQualified i false raw) s fun b a =>
      (a.safeFn (i / 2)).demand = true ∧ (a.safeFn (i / 2)).levels.testBit (i % 2) = false ∧
      ∀ m < 128, b.fnScope (i / 2) m = true → a.Latched m ⟨Code.SAFE_INPUT_DEMAND, i / 2, b.nat (act (Reg.R5010_REACTION (i / 2)))⟩ := by
  have hk : i / 2 < 8 := by omega
  obtain ⟨q, level⟩ : ∃ q, q = s.found.qualified i false raw := ⟨_, rfl⟩
  obtain ⟨x, judged⟩ : ∃ x, x = q.judged (i / 2) := ⟨_, rfl⟩
  obtain ⟨j, entered⟩ : ∃ j, j = q.setSafeFn (i / 2) x := ⟨_, rfl⟩
  obtain ⟨f, demanded⟩ : ∃ f, f = j.enterDemand (i / 2) raw := ⟨_, rfl⟩
  obtain ⟨e, made⟩ : ∃ e, e = (f.showFn (i / 2)).slsSelect := ⟨_, rfl⟩
  have fnQ : q.safeFn (i / 2) = { s.found.safeFn (i / 2) with levels := withBit (s.found.safeFn (i / 2)).levels (i % 2) false, soleAt := if (s.found.safeFn (i / 2)).levels.testBit (i % 2) != false then some raw else (s.found.safeFn (i / 2)).soleAt } := by
    rw [level]
    exact Dev.safeFn_setSafeFn _ _ _
  have kind : q.fnKind (i / 2) = s.found.fnKind (i / 2) := by rw [level]; rfl
  have shows : ∀ n, q.showsDemand (i / 2) n = !(withBit (s.found.safeFn (i / 2)).levels (i % 2) false).testBit n := fun n => by
    rw [level]
    exact showsDemand_qualified mode false n
  have low : q.showsDemand (i / 2) (i % 2) = true := by
    rw [shows, testBit_withBit, if_pos rfl]
    rfl
  have demand : x.demand = true := by
    rw [judged]
    have parity : i % 2 = 0 ∨ i % 2 = 1 := by omega
    rcases parity with p | p
    · rw [p] at low
      simp [Dev.judged, low]
    · rw [p] at low
      simp [Dev.judged, low]
  have result : s.found.safeInputPin i false raw = e := by
    have pin : s.found.safeInputPin i false raw = s.found.safeInput i false raw := if_neg fun h => absurd h.2 Bool.false_ne_true
    have used : q.fnKind (i / 2) ≠ 0 := by rw [kind]; rcases stops with h | h <;> rw [h] <;> decide
    have begins : ((q.judged (i / 2)).demand || (q.judged (i / 2)).disc) = true ∧ (!((q.safeFn (i / 2)).demand || (q.safeFn (i / 2)).disc)) = true := by
      rw [← judged, demand, fnQ]
      simp [calm, whole]
    rw [pin, Dev.safeInput_eq hi, ← level, Dev.fnEval_eq used, if_pos begins, ← judged, ← entered, ← demanded, made]
  have stopsJ : j.fnKind (i / 2) = FnKind.estop ∨ j.fnKind (i / 2) = FnKind.guard := by
    have same : j.fnKind (i / 2) = s.found.fnKind (i / 2) := by rw [entered]; exact kind
    rw [same]
    exact stops
  have keepsQ : s.found.Keeps q [.safe] := by rw [level]; exact Dev.keeps_safe _ _
  have keepsJ : q.Keeps j [.safe] := by rw [entered]; exact Dev.keeps_safe _ _
  obtain ⟨keepsF, demandF, levelsF, latchesF⟩ := Dev.enterDemand_latches hk raw stopsJ demanded
  have selects : f.Selects e := by rw [made]; exact ((Dev.Selects.refl f).showFn _).slsSelect
  have fnJ : j.safeFn (i / 2) = x := by rw [entered, Dev.safeFn_setSafeFn]
  have fnE : e.safeFn (i / 2) = f.safeFn (i / 2) := Dev.safeFn_congr selects.fns _
  have levels : x.levels = withBit (s.found.safeFn (i / 2)).levels (i % 2) false := by
    rw [judged]
    exact congrArg SafeFn.levels fnQ
  have keeps : s.found.Keeps e reactionParts := (((keepsQ.mono (by decide)).step keepsJ).step keepsF).step selects.keeps
  have leaves : Leaves (.safeInputQualified i false raw) s e :=
    .cell (guard := fun d => d.liveIf (i < 16)) (fun d => d.safeInputPin i false raw) (live.passesIf hi) result keeps
  have od : j.od = s.found.od := Eq.trans (keepsJ .od (by decide)) (keepsQ .od (by decide))
  have dom : j.dom = s.found.dom := Eq.trans (keepsJ .dom (by decide)) (keepsQ .dom (by decide))
  have latched : ∀ m < 128, s.found.fnScope (i / 2) m = true → e.Latched m ⟨Code.SAFE_INPUT_DEMAND, i / 2, s.found.nat (act (Reg.R5010_REACTION (i / 2)))⟩ := fun m hm scope => by
    have scopeJ : j.fnScope (i / 2) m = true := by
      have same : j.fnScope (i / 2) m = s.found.fnScope (i / 2) m := by rw [entered, level]; rfl
      exact same.trans scope
    have code := latchesF m hm scopeJ
    rw [Dev.nat_congr od] at code
    exact code.stands selects.latches
  have shown : (e.safeFn (i / 2)).demand = true ∧ (e.safeFn (i / 2)).levels.testBit (i % 2) = false := by
    rw [fnE, demandF, levelsF, fnJ, levels, testBit_withBit, if_pos rfl]
    exact ⟨demand, rfl⟩
  exact leaves.does fun _ _ => ⟨shown.1, shown.2, latched⟩

theorem input_releases (good : s.found.bankDead 3 = false) (demands : (s.found.safeFn (i / 2)).demand = true)
    (whole : (s.found.safeFn (i / 2)).disc = false) (other : (s.found.safeFn (i / 2)).levels.testBit (1 - i % 2) = true)
    (plain : s.found.nat (act (Reg.R5010_RESET_MODE (i / 2))) = 0) : Does (.safeInputQualified i true raw) s fun _ a =>
      (a.safeFn (i / 2)).demand = false ∧ ∀ m < 128, a.Released (i / 2) m := by
  obtain ⟨q, level⟩ : ∃ q, q = s.found.qualified i true raw := ⟨_, rfl⟩
  obtain ⟨x, judged⟩ : ∃ x, x = q.judged (i / 2) := ⟨_, rfl⟩
  obtain ⟨j, entered⟩ : ∃ j, j = q.setSafeFn (i / 2) x := ⟨_, rfl⟩
  obtain ⟨f, left⟩ : ∃ f, f = j.leaveDemand (i / 2) raw := ⟨_, rfl⟩
  obtain ⟨e, made⟩ : ∃ e, e = (f.showFn (i / 2)).slsSelect := ⟨_, rfl⟩
  have fnQ : q.safeFn (i / 2) = { s.found.safeFn (i / 2) with levels := withBit (s.found.safeFn (i / 2)).levels (i % 2) true, soleAt := if (s.found.safeFn (i / 2)).levels.testBit (i % 2) != true then some raw else (s.found.safeFn (i / 2)).soleAt } := by
    rw [level]
    exact Dev.safeFn_setSafeFn _ _ _
  have kind : q.fnKind (i / 2) = s.found.fnKind (i / 2) := by rw [level]; rfl
  have shows : ∀ n < 2, q.showsDemand (i / 2) n = false := fun n hn => by
    rw [level, showsDemand_qualified mode, testBit_withBit]
    split_ifs with same
    · rfl
    · have eq : n = 1 - i % 2 := by omega
      rw [eq, other]
      rfl
  have free : x.demand = false ∧ x.disc = false := by
    rw [judged]
    refine ⟨?_, ?_⟩
    · simp [Dev.judged, shows 0 (by decide), shows 1 (by decide)]
    · simp [Dev.judged, fnQ, whole]
  have result : s.found.safeInputPin i true raw = e := by
    have pin : s.found.safeInputPin i true raw = s.found.safeInput i true raw := if_neg fun h => absurd h.1 (by simp [good])
    have used : q.fnKind (i / 2) ≠ 0 := by rw [kind]; rcases stops with h | h <;> rw [h] <;> decide
    have stays : ¬(((q.judged (i / 2)).demand || (q.judged (i / 2)).disc) = true ∧ (!((q.safeFn (i / 2)).demand || (q.safeFn (i / 2)).disc)) = true) := by
      rw [← judged, free.1, free.2]
      simp
    have ends : (!((q.judged (i / 2)).demand || (q.judged (i / 2)).disc)) = true ∧ ((q.safeFn (i / 2)).demand || (q.safeFn (i / 2)).disc) = true := by
      rw [← judged, free.1, free.2, fnQ]
      simp [demands]
    rw [pin, Dev.safeInput_eq hi, ← level, Dev.fnEval_eq used, if_neg stays, if_pos ends, ← judged, ← entered, ← left, made]
  have stopsJ : j.fnKind (i / 2) = FnKind.estop ∨ j.fnKind (i / 2) = FnKind.guard := by
    have same : j.fnKind (i / 2) = s.found.fnKind (i / 2) := by rw [entered]; exact kind
    rw [same]
    exact stops
  have keepsQ : s.found.Keeps q [.safe] := by rw [level]; exact Dev.keeps_safe _ _
  have keepsJ : q.Keeps j [.safe] := by rw [entered]; exact Dev.keeps_safe _ _
  have od : j.od = s.found.od := Eq.trans (keepsJ .od (by decide)) (keepsQ .od (by decide))
  obtain ⟨keepsF, demandF, released⟩ := Dev.leaveDemand_releases raw stopsJ ((Dev.nat_congr od _).trans plain) left
  have selects : f.Selects e := by rw [made]; exact ((Dev.Selects.refl f).showFn _).slsSelect
  have fnJ : j.safeFn (i / 2) = x := by rw [entered, Dev.safeFn_setSafeFn]
  have fnE : e.safeFn (i / 2) = f.safeFn (i / 2) := Dev.safeFn_congr selects.fns _
  have keeps : s.found.Keeps e reactionParts := (((keepsQ.mono (by decide)).step keepsJ).step keepsF).step selects.keeps
  have leaves : Leaves (.safeInputQualified i true raw) s e :=
    .cell (guard := fun d => d.liveIf (i < 16)) (fun d => d.safeInputPin i true raw) (live.passesIf hi) result keeps
  have shown : (e.safeFn (i / 2)).demand = false := by rw [fnE, demandF, fnJ, free.1]
  have gone : ∀ m < 128, e.Released (i / 2) m := fun m hm => by
    rw [Dev.Released, selects.latches m]
    exact released m hm
  exact leaves.does fun _ _ => ⟨shown, gone⟩

end

/-! ## A discrepancy -/

section
variable {s : State} {k : Nat} (live : s.Live) (hk : k < 8)
include live hk

/-- The inputs of a pair have differed for the time allowed. -/
def Dev.Discrepant (d : Dev) (k : Nat) : Prop :=
  ∃ t, (d.safeFn k).soleAt = some t ∧ t + d.nat (act (Reg.R5010_DISCREPANCY_MS k)) * 1000000 ≤ d.rawNow ∧
    d.fnKind k ≠ 0 ∧ d.showsDemand k 0 ≠ d.showsDemand k 1

theorem discrepancy_idle (no : ¬s.found.Discrepant k) : Does (.siDiscrepancy k) s fun b a => b.Keeps a [] := by
  have idle : s.found.discrepancy k = s.found := by
    unfold Dev.discrepancy
    dsimp only
    split
    · rename_i t sole
      refine if_neg ?_
      rintro ⟨-, kind, differ, past⟩
      exact no ⟨t, sole, past, kind, differ⟩
    · rfl
  have leaves : Leaves (.siDiscrepancy k) s s.found :=
    .cell (guard := fun d => d.liveIf (k < 8)) (l := []) (fun d => d.discrepancy k) (live.passesIf hk) idle (Dev.Keeps.refl _ _)
  exact leaves.unchanged

theorem discrepancy_holds (past : s.found.Discrepant k) : Does (.siDiscrepancy k) s fun b a =>
    a.fnDemand k = true ∧ a.nat (Reg.R5010_STATE k) = 2 ∧ a.LastRaised Code.SI_DISCREPANCY Kind.safeIn k ∧ a.axes = b.axes := by
  obtain ⟨t, sole, due, kind, differ⟩ := past
  obtain ⟨r, raised⟩ : ∃ r, r = s.found.raise Code.SI_DISCREPANCY Kind.safeIn k := ⟨_, rfl⟩
  obtain ⟨x, holds⟩ : ∃ x : SafeFn, x = { s.found.safeFn k with disc := true, soleAt := none } := ⟨_, rfl⟩
  obtain ⟨f, held⟩ : ∃ f, f = r.setSafeFn k x := ⟨_, rfl⟩
  obtain ⟨e, made⟩ : ∃ e, e = f.showFn k := ⟨_, rfl⟩
  have result : s.found.discrepancy k = e := by
    unfold Dev.discrepancy
    dsimp only
    rw [sole]
    dsimp only
    rw [if_pos ⟨hk, kind, differ, due⟩, made, held, holds, raised]
  have keepsR : s.found.Keeps r [.od, .log, .event] := by rw [raised]; exact Dev.keeps_raise _ _ _ _ _ _
  have keepsF : r.Keeps f [.safe] := by rw [held]; exact Dev.keeps_safe _ _
  have keepsE : f.Keeps e [.od] := by rw [made]; exact ((Dev.Keeps.refl _ _).set _ _).set _ _
  have all : s.found.Keeps e [.od, .log, .event, .safe] := ((keepsR.mono (by decide)).step keepsF).step keepsE
  have fnF : f.safeFn k = x := by rw [held, Dev.safeFn_setSafeFn]
  have safe : e.safe = f.safe := keepsE .safe (by decide)
  have demand : e.fnDemand k = true := by
    rw [Dev.fnDemand, Dev.safeFn_congr (congrArg SafeDom.fns safe), fnF, holds, Bool.or_true]
  have last : r.LastRaised Code.SI_DISCREPANCY Kind.safeIn k := by rw [raised]; exact s.found.lastRaised_raise _ _ _ _ _
  have apart : Reg.R5010_STATE k ≠ Reg.R5010_LEVELS k ∧ odType (Reg.R5010_STATE k) = .u8 := by
    have every : ∀ k < 8, Reg.R5010_STATE k ≠ Reg.R5010_LEVELS k ∧ odType (Reg.R5010_STATE k) = .u8 := by decide +kernel
    exact every k hk
  have state : e.nat (Reg.R5010_STATE k) = 2 := by
    rw [made, Dev.showFn]
    rw [Dev.nat, Dev.reg_set_other _ _ apart.1, ← Dev.nat, fnF, holds]
    exact Dev.nat_set_same (n := 2) _ apart.2 rfl (by decide)
  have leaves : Leaves (.siDiscrepancy k) s e :=
    .cell (guard := fun d => d.liveIf (k < 8)) (fun d => d.discrepancy k) (live.passesIf hk) result all
  exact leaves.does fun pend vecs => ⟨demand, state, ((last.of_keeps keepsF).of_keeps keepsE).told _ _, all .axes (by decide)⟩

end

end Sys2Proof.Machine
end

section
/-! # Safe outputs: their test, their readback and their faults (R376 to R378) -/

namespace Sys2Proof.Machine

/-- An entry of a safe output is no reaction's. -/
theorem outputEntry_apart {j : Nat} (h : 0x5020 ≤ j / 256 ∧ j / 256 < 0x5028) : ¬ReactionReg (· < 256) (· < 16) j := by
  rintro (⟨n, -, hn, ax⟩ | ⟨c, -, hc, ch⟩ | gen | is)
  · omega
  · simp only [Reg.CH5_CONTROL, Reg.key] at ch; omega
  · omega
  · have apart : ∀ r ∈ logRegs, ¬(0x5020 ≤ r / 256 ∧ r / 256 < 0x5028) := by decide
    exact apart j is h

/-- Where the entries of a safe output stand, and their types. -/
theorem outputEntries {k : Nat} (hk : k < 8) : (0x5020 ≤ Reg.R5020_STATE k / 256 ∧ Reg.R5020_STATE k / 256 < 0x5028) ∧ (0x5020 ≤ Reg.R5020_LAST_FAULT k / 256 ∧ Reg.R5020_LAST_FAULT k / 256 < 0x5028) ∧
    (0x5020 ≤ Reg.R5020_TESTS k / 256 ∧ Reg.R5020_TESTS k / 256 < 0x5028) ∧ Reg.R5020_STATE k ≠ Reg.R5020_LAST_FAULT k ∧ Reg.R5020_STATE k ≠ Reg.R5020_TESTS k ∧
    odType (Reg.R5020_STATE k) = .u8 ∧ odType (Reg.R5020_LAST_FAULT k) = .u16 ∧ odType (Reg.R5020_TESTS k) = .u32 := by
  have every : ∀ k < 8, (0x5020 ≤ Reg.R5020_STATE k / 256 ∧ Reg.R5020_STATE k / 256 < 0x5028) ∧ (0x5020 ≤ Reg.R5020_LAST_FAULT k / 256 ∧ Reg.R5020_LAST_FAULT k / 256 < 0x5028) ∧
      (0x5020 ≤ Reg.R5020_TESTS k / 256 ∧ Reg.R5020_TESTS k / 256 < 0x5028) ∧ Reg.R5020_STATE k ≠ Reg.R5020_LAST_FAULT k ∧ Reg.R5020_STATE k ≠ Reg.R5020_TESTS k ∧
      odType (Reg.R5020_STATE k) = .u8 ∧ odType (Reg.R5020_LAST_FAULT k) = .u16 ∧ odType (Reg.R5020_TESTS k) = .u32 := by decide +kernel
  exact every k hk

section
variable {d e f : Dev}

theorem Dev.safeOut_setSafeOut_other {j k : Nat} (h : j ≠ k) (x : SafeOut) : (d.setSafeOut k x).safeOut j = d.safeOut j := mget_mset_other _ _ _ _ h

theorem Dev.Reacts.groupSto (h : d.AxesReact e) (k : Nat) : d.AxesReact (e.groupSto k) := by
  refine h.trans ?_
  unfold Dev.groupSto
  split_ifs
  · exact .refl _ _ _
  · obtain ⟨r, hr⟩ : ∃ r, r = (e.when (!((e.outAxes k).filter fun n => !e.stoHeld n && e.axState n != AxState.disabled).isEmpty)
      fun d => d.raise Code.SO_GROUP_STO Kind.safeOut k Reaction.sto) := ⟨_, rfl⟩
    have raised : e.AxesReact r := by rw [hr]; exact (Dev.Reacts.refl _ _ e).when _ _ ((Dev.Reacts.refl _ _ e).raise _ _ _ _ _)
    refine raised.trans ?_
    dsimp only
    rw [← hr]
    refine .each _ (fun n (d : Dev) => d.react n Code.SO_GROUP_STO Reaction.sto) r fun n mem x hx => ?_
    have low : n < 128 := List.mem_range.1 (List.mem_filter.1 (List.mem_filter.1 mem).1).1
    exact hx.react (.any _ (Nat.lt_trans low (by decide))) _ _

/-- What a reaction leaves of a safe output. -/
theorem Dev.Reacts.outState (h : d.AxesReact e) {k : Nat} (hk : k < 8) : e.outState k = d.outState k :=
  congrArg Int.toNat (h.regs _ (outputEntry_apart (outputEntries hk).1))

theorem Dev.Reacts.safeOut (h : d.AxesReact e) (k : Nat) : e.safeOut k = d.safeOut k := Dev.safeOut_congr h.outs k

/-- An output that is in FAULT with this code, both its switches off. -/
structure Dev.OutFaulted (d : Dev) (k code : Nat) : Prop where
  state : d.outState k = OutState.fault
  swA : (d.safeOut k).swA = false
  swB : (d.safeOut k).swB = false
  last : d.nat (Reg.R5020_LAST_FAULT k) = code

theorem Dev.OutFaulted.reacts {k code : Nat} (hk : k < 8) (h : d.OutFaulted k code) (g : d.AxesReact e) : e.OutFaulted k code :=
  ⟨(g.outState hk).trans h.state, by rw [g.safeOut, h.swA], by rw [g.safeOut, h.swB],
    (congrArg Int.toNat (g.regs _ (outputEntry_apart (outputEntries hk).2.1))).trans h.last⟩

theorem Dev.outFault_faults (d : Dev) {k : Nat} (hk : k < 8) (code : Nat) (small : code < 2 ^ 16) {e : Dev} (made : e = d.outFault k code) :
    e.OutFaulted k code ∧ d.Keeps e reactionParts := by
  obtain ⟨-, -, -, apart, -, stateType, faultType, -⟩ := outputEntries hk
  unfold Dev.outFault at made
  extract_lets on src x y at made
  have keepsX : d.Keeps x [.safe] := d.keeps_setSafeOut _ _
  have outX : x.safeOut k = { d.safeOut k with swA := false, swB := false, pulseEnd := none, highBy := none } := d.safeOut_setSafeOut _ _
  clear_value x
  obtain ⟨z, told⟩ : ∃ z, z = (x.set (Reg.R5020_STATE k) 3).set (Reg.R5020_LAST_FAULT k) code := ⟨_, rfl⟩
  have raised : y = z.raise code Kind.safeOut k := by rw [told]
  have keepsZ : x.Keeps z [.od] := by rw [told]; exact ((Dev.Keeps.refl _ _).set _ _).set _ _
  have outZ : z.safeOut k = x.safeOut k := by rw [told]; rfl
  have shown : z.OutFaulted k code := by
    refine ⟨?_, by rw [outZ, outX], by rw [outZ, outX], ?_⟩
    · rw [told, Dev.outState, Dev.nat, Dev.reg_set_other _ _ apart]
      exact Dev.nat_set_same (n := 3) _ stateType rfl (by decide)
    · rw [told]
      exact Dev.nat_set_same _ faultType rfl small
  clear_value y
  have reacts : z.AxesReact y := by rw [raised]; exact (Dev.Reacts.refl _ _ z).raise _ _ _ _ _
  have group : y.AxesReact e := by
    rw [made]
    split_ifs
    · exact (Dev.Reacts.refl _ _ y).groupSto k
    · exact .refl _ _ _
  exact ⟨(shown.reacts hk reacts).reacts hk group, (((keepsX.mono (by decide)).step keepsZ).andThen reacts.keeps).andThen group.keeps⟩

end

section
variable {s : State} {k : Nat} (live : s.Live) (hk : k < 8)
include live hk

/-! ## The test of the switches -/

theorem testSlot_pulses (slot : s.found.clk.tick = 0 ∧ s.found.clk.cycle64 % 80 = 10 * k ∧ s.found.outState k = OutState.on) :
    Does (.testSlot k) s fun b a =>
      a.outState k = OutState.pulse ∧ (a.safeOut k).swA = !(a.safeOut k).swB ∧ (a.safeOut k).testsB = (a.safeOut k).swA ∧
      (a.safeOut k).pulseEnd = some (b.clk.raw + 300000) ∧ (∀ j, j ≠ k → a.safeOut j = b.safeOut j) ∧ b.Keeps a [.od, .safe] := by
  obtain ⟨v, hv⟩ : ∃ v, v = (s.found.clk.cycle64 / 80 % 2 == 1) := ⟨_, rfl⟩
  obtain ⟨x, hx⟩ : ∃ x : SafeOut, x = { swA := v, swB := !v, pulseEnd := some (s.found.clk.raw + 300000), testsB := v } := ⟨_, rfl⟩
  obtain ⟨q, hq⟩ : ∃ q, q = s.found.setSafeOut k x := ⟨_, rfl⟩
  obtain ⟨e, made⟩ : ∃ e, e = q.set (Reg.R5020_STATE k) 2 := ⟨_, rfl⟩
  have result : s.found.testSlot k = e := by
    rw [Dev.testSlot, if_pos ⟨hk, slot⟩, made, hq, hx, hv]
  have keeps : s.found.Keeps e [.od, .safe] := by
    rw [made, hq]
    exact ((s.found.keeps_setSafeOut k x).mono (by decide)).set _ _
  have outs : ∀ j, e.safeOut j = q.safeOut j := fun j => by rw [made]; rfl
  have own : e.safeOut k = x := by rw [outs, hq, Dev.safeOut_setSafeOut]
  have others : ∀ j, j ≠ k → e.safeOut j = s.found.safeOut j := fun j h => by rw [outs, hq, Dev.safeOut_setSafeOut_other h]
  have state : e.outState k = OutState.pulse := by
    rw [made]
    exact Dev.nat_set_same (n := 2) _ (outputEntries hk).2.2.2.2.2.1 rfl (by decide)
  have leaves : Leaves (.testSlot k) s e :=
    .cell (guard := fun d => d.liveIf (k < 8)) (fun d => d.testSlot k) (live.passesIf hk) result keeps
  refine leaves.quietly (keeps .event (by decide)) ⟨state, ?_, ?_, ?_, others, keeps⟩
  · rw [own, hx]; exact (Bool.not_not v).symm
  · rw [own, hx]
  · rw [own, hx]

theorem testSlot_idle (no : ¬(s.found.clk.tick = 0 ∧ s.found.clk.cycle64 % 80 = 10 * k ∧ s.found.outState k = OutState.on)) :
    Does (.testSlot k) s fun b a => b.Keeps a [] := by
  have leaves : Leaves (.testSlot k) s s.found :=
    .cell (l := []) (guard := fun d => d.liveIf (k < 8)) (fun d => d.testSlot k) (live.passesIf hk) (if_neg fun h => no h.2) (Dev.Keeps.refl _ _)
  exact leaves.unchanged

/-- An output that one of its commands puts in FAULT. -/
theorem output_faults {i : Instr} {code : Nat} (small : code < 2 ^ 16) (g : Dev → Dev) (result : g s.found = s.found.outFault k code)
    (hi : exec i s = s.answerCell fun d => d.liveIf (k < 8) g) : Does i s fun _ a => a.OutFaulted k code := by
  obtain ⟨e, made⟩ : ∃ e, e = s.found.outFault k code := ⟨_, rfl⟩
  obtain ⟨shown, keeps⟩ := s.found.outFault_faults hk code small made
  have leaves : Leaves i s e :=
    .cell (guard := fun d => d.liveIf (k < 8)) g (live.passesIf hk) (result.trans made.symm) keeps (hi := hi)
  exact leaves.does fun _ _ => ⟨shown.state, shown.swA, shown.swB, shown.last⟩

/-- A command of an output that finds nothing to do. -/
theorem output_idle {i : Instr} (g : Dev → Dev) (result : g s.found = s.found)
    (hi : exec i s = s.answerCell fun d => d.liveIf (k < 8) g) : Does i s fun b a => b.Keeps a [] :=
  (Leaves.cell (l := []) (guard := fun d => d.liveIf (k < 8)) g (live.passesIf hk) result (Dev.Keeps.refl _ _) (hi := hi)).unchanged

omit live hk in
theorem Dev.pulseDue_iff (d : Dev) (k : Nat) (low : Bool) :
    d.pulseDue k low = true ↔ ∃ t, (d.safeOut k).pulseEnd = some t ∧ t < d.clk.raw + (if low = true then 31250 else 81250) := by
  obtain ⟨bound, hb⟩ : ∃ bound, bound = d.clk.raw + (if low = true then 31250 else 81250) := ⟨_, rfl⟩
  have same : d.clk.raw + 31250 + (if low = true then 0 else 50000) = bound := by
    rw [hb, Nat.add_assoc]
    cases low
    · rw [if_neg (by decide), if_neg (by decide)]
    · rw [if_pos rfl, if_pos rfl]
  unfold Dev.pulseDue
  rw [same, ← hb]
  cases (d.safeOut k).pulseEnd with
  | none => simp
  | some t => simp

theorem pulseEnd_idle {low : Bool} (early : ∀ t, (s.found.safeOut k).pulseEnd = some t → s.found.clk.raw + (if low = true then 31250 else 81250) ≤ t) :
    Does (.pulseEnd k low) s fun b a => b.Keeps a [] := by
  have not_due : s.found.pulseDue k low = false := by
    rw [← Bool.not_eq_true, Dev.pulseDue_iff]
    rintro ⟨t, some_, due⟩
    exact absurd due (Nat.not_lt.2 (early t some_))
  exact output_idle live hk (fun d => d.pulseOver k low) (if_pos not_due) rfl

theorem pulseEnd_faults {t : Nat} (some_ : (s.found.safeOut k).pulseEnd = some t) (due : t < s.found.clk.raw + 81250) :
    Does (.pulseEnd k false) s fun _ a => a.OutFaulted k Code.SO_TEST_FAIL := by
  have past : s.found.pulseDue k false = true := (Dev.pulseDue_iff _ _ _).2 ⟨t, some_, due⟩
  have result : s.found.pulseOver k false = s.found.outFault k Code.SO_TEST_FAIL := by
    unfold Dev.pulseOver
    dsimp only
    rw [if_neg (by rw [past]; decide), if_pos (by decide)]
  exact output_faults live hk (by decide) (fun d => d.pulseOver k false) result rfl

omit live in
/-- A test counted of output `k`. -/
theorem Dev.nat_tests (d : Dev) : (d.set (Reg.R5020_TESTS k) (min 0xFFFFFFFF (d.nat (Reg.R5020_TESTS k) + 1) : Nat)).nat (Reg.R5020_TESTS k) =
    min (d.nat (Reg.R5020_TESTS k) + 1) 0xFFFFFFFF := by
  rw [Nat.min_comm]
  exact d.nat_set_same (outputEntries hk).2.2.2.2.2.2.2 rfl (Nat.lt_of_le_of_lt (Nat.min_le_right _ _) (by decide))

theorem pulseEnd_counts {t : Nat} (some_ : (s.found.safeOut k).pulseEnd = some t) (due : t < s.found.clk.raw + 31250)
    (stands : s.found.outState k ≠ OutState.pulse) : Does (.pulseEnd k true) s fun b a =>
      (a.safeOut k).pulseEnd = none ∧ a.nat (Reg.R5020_TESTS k) = min (b.nat (Reg.R5020_TESTS k) + 1) 0xFFFFFFFF ∧ a.log = b.log := by
  have past : s.found.pulseDue k true = true := (Dev.pulseDue_iff _ _ _).2 ⟨t, some_, due⟩
  obtain ⟨x, hx⟩ : ∃ x : SafeOut, x = { s.found.safeOut k with pulseEnd := none } := ⟨_, rfl⟩
  obtain ⟨q, hq⟩ : ∃ q, q = s.found.setSafeOut k x := ⟨_, rfl⟩
  obtain ⟨c, hc⟩ : ∃ c, c = q.set (Reg.R5020_TESTS k) (min 0xFFFFFFFF (q.nat (Reg.R5020_TESTS k) + 1) : Nat) := ⟨_, rfl⟩
  obtain ⟨e, made⟩ : ∃ e, e = c.when (c.outDemand k) fun d => d.outOn k := ⟨_, rfl⟩
  have result : s.found.pulseOver k true = e := by
    unfold Dev.pulseOver
    dsimp only
    rw [if_neg (by rw [past]; decide), if_neg (by decide), if_neg stands, made, hc, hq, hx]
  have keepsQ : s.found.Keeps q [.safe] := by rw [hq]; exact s.found.keeps_setSafeOut k x
  have keepsC : q.Keeps c [.od] := by rw [hc]; exact Dev.keeps_set _ _ _
  have ended : (c.safeOut k).pulseEnd = none := by
    have same : c.safeOut k = x := by
      rw [hc, hq]
      exact Dev.safeOut_setSafeOut _ _ _
    rw [same, hx]
  have counted : c.nat (Reg.R5020_TESTS k) = min (s.found.nat (Reg.R5020_TESTS k) + 1) 0xFFFFFFFF := by
    rw [hc, q.nat_tests hk, Dev.nat, Dev.reg_congr (keepsQ .od (by decide)), ← Dev.nat]
  have on : c.Keeps e [.od, .safe] ∧ (e.safeOut k).pulseEnd = none ∧ e.nat (Reg.R5020_TESTS k) = c.nat (Reg.R5020_TESTS k) := by
    rw [made]
    unfold Dev.when
    split_ifs
    · unfold Dev.outOn
      dsimp only
      split_ifs
      · obtain ⟨y, hy⟩ : ∃ y, y = c.setSafeOut k { c.safeOut k with swA := true, swB := true, highBy := some (c.rawNow + c.nat (act (Reg.R5020_ON_CHECK_US k)) * 1000) } := ⟨_, rfl⟩
        have out : (y.safeOut k).pulseEnd = none := by
          rw [hy, Dev.safeOut_setSafeOut]
          exact ended
        have keepsY : c.Keeps y [.safe] := by rw [hy]; exact c.keeps_setSafeOut k _
        rw [← hy]
        refine ⟨(keepsY.mono (by decide)).set _ _, out, ?_⟩
        rw [Dev.nat, Dev.reg_set_other _ _ (outputEntries hk).2.2.2.2.1.symm, Dev.reg_congr (keepsY .od (by decide)), ← Dev.nat]
      · exact ⟨Dev.Keeps.refl _ _, ended, rfl⟩
    · exact ⟨Dev.Keeps.refl _ _, ended, rfl⟩
  have keeps : s.found.Keeps e [.od, .safe] := ((keepsQ.mono (by decide)).step keepsC).andThen on.1
  have leaves : Leaves (.pulseEnd k true) s e :=
    .cell (guard := fun d => d.liveIf (k < 8)) (fun d => d.pulseOver k true) (live.passesIf hk) result keeps
  exact leaves.quietly (keeps .event (by decide)) ⟨on.2.1, on.2.2.trans counted, keeps .log (by decide)⟩

theorem pulseEnd_returns {t : Nat} (some_ : (s.found.safeOut k).pulseEnd = some t) (due : t < s.found.clk.raw + 31250)
    (pulse : s.found.outState k = OutState.pulse) : Does (.pulseEnd k true) s fun b a =>
      a.outState k = OutState.on ∧ (a.safeOut k).swA = true ∧ (a.safeOut k).swB = true ∧ (a.safeOut k).pulseEnd = none ∧
      a.nat (Reg.R5020_TESTS k) = min (b.nat (Reg.R5020_TESTS k) + 1) 0xFFFFFFFF ∧ a.log = b.log := by
  have past : s.found.pulseDue k true = true := (Dev.pulseDue_iff _ _ _).2 ⟨t, some_, due⟩
  obtain ⟨x, hx⟩ : ∃ x : SafeOut, x = { swA := true, swB := true, pulseEnd := none, testsB := (s.found.safeOut k).testsB, highBy := some (s.found.rawNow + s.found.nat (act (Reg.R5020_ON_CHECK_US k)) * 1000) } := ⟨_, rfl⟩
  obtain ⟨q, hq⟩ : ∃ q, q = s.found.setSafeOut k x := ⟨_, rfl⟩
  obtain ⟨c, hc⟩ : ∃ c, c = q.set (Reg.R5020_STATE k) 1 := ⟨_, rfl⟩
  obtain ⟨e, made⟩ : ∃ e, e = c.set (Reg.R5020_TESTS k) (min 0xFFFFFFFF (q.nat (Reg.R5020_TESTS k) + 1) : Nat) := ⟨_, rfl⟩
  have result : s.found.pulseOver k true = e := by
    unfold Dev.pulseOver
    dsimp only
    rw [if_neg (by rw [past]; decide), if_neg (by decide), if_pos pulse, made, hc, hq, hx]
  have keepsQ : s.found.Keeps q [.safe] := by rw [hq]; exact s.found.keeps_setSafeOut k x
  have keepsE : q.Keeps e [.od] := by rw [made, hc]; exact ((Dev.Keeps.refl _ _).set _ _).set _ _
  have keeps : s.found.Keeps e [.od, .safe] := (keepsQ.mono (by decide)).step keepsE
  have own : e.safeOut k = x := by
    have stands : e.safeOut k = q.safeOut k := by rw [made, hc]; rfl
    rw [stands, hq, Dev.safeOut_setSafeOut]
  have apart := (outputEntries hk).2.2.2.2.1
  have counts : c.nat (Reg.R5020_TESTS k) = q.nat (Reg.R5020_TESTS k) := by rw [hc, Dev.nat, Dev.reg_set_other _ _ apart.symm, ← Dev.nat]
  have counted : e.nat (Reg.R5020_TESTS k) = min (s.found.nat (Reg.R5020_TESTS k) + 1) 0xFFFFFFFF := by
    rw [made, ← counts, c.nat_tests hk, counts, Dev.nat, Dev.reg_congr (keepsQ .od (by decide)), ← Dev.nat]
  have state : e.outState k = OutState.on := by
    rw [made, Dev.outState, Dev.nat, Dev.reg_set_other _ _ apart, hc, ← Dev.nat]
    exact Dev.nat_set_same (n := 1) _ (outputEntries hk).2.2.2.2.2.1 rfl (by decide)
  have leaves : Leaves (.pulseEnd k true) s e :=
    .cell (guard := fun d => d.liveIf (k < 8)) (fun d => d.pulseOver k true) (live.passesIf hk) result keeps
  exact leaves.quietly (keeps .event (by decide))
    ⟨state, by rw [own, hx], by rw [own, hx], by rw [own, hx], counted, keeps .log (by decide)⟩

/-! ## The readback -/

theorem onCheckTimeout_faults {t : Nat} (some_ : (s.found.safeOut k).highBy = some t) (on : s.found.outState k = OutState.on)
    (due : t ≤ s.found.rawNow) : Does (.onCheckTimeout k) s fun _ a => a.OutFaulted k Code.SO_TEST_FAIL := by
  have result : s.found.onCheckTimeout k = s.found.outFault k Code.SO_TEST_FAIL := by
    rw [Dev.onCheckTimeout, some_]
    exact if_pos ⟨on, due⟩
  exact output_faults live hk (by decide) (fun d => d.onCheckTimeout k) result rfl

theorem onCheckTimeout_idle (no : (∀ t, (s.found.safeOut k).highBy = some t → s.found.rawNow < t) ∨ s.found.outState k ≠ OutState.on) :
    Does (.onCheckTimeout k) s fun b a => b.Keeps a [] := by
  have result : s.found.onCheckTimeout k = s.found := by
    unfold Dev.onCheckTimeout
    split
    next t some_ =>
      refine if_neg fun ⟨on, due⟩ => ?_
      rcases no with early | off
      · exact absurd due (Nat.not_le.2 (early t some_))
      · exact off on
    next => rfl
  exact output_idle live hk (fun d => d.onCheckTimeout k) result rfl

theorem soReadbackFault_faults (used : s.found.outKind k ≠ 0) (acts : s.found.paired = false ∨ s.found.active = true)
    (stands : s.found.outState k = OutState.on ∨ (s.found.outState k = OutState.off ∧ (s.found.safeOut k).pulseEnd = none)) :
    Does (.soReadbackFault k) s fun _ a => a.OutFaulted k Code.SO_READBACK_FAULT := by
  have unit : (!s.found.paired || s.found.active) = true := by simpa using acts
  exact output_faults live hk (by decide) (fun d => d.readbackFault k) (if_pos ⟨hk, unit, used, stands⟩) rfl

theorem soReadbackFault_idle (no : s.found.outKind k = 0 ∨ (s.found.paired = true ∧ s.found.active = false) ∨
    s.found.outState k = OutState.fault ∨ s.found.outState k = OutState.pulse) : Does (.soReadbackFault k) s fun b a => b.Keeps a [] := by
  have result : s.found.readbackFault k = s.found := by
    refine if_neg fun ⟨_, unit, used, stands⟩ => ?_
    rcases no with unused | ⟨paired, passive⟩ | fault | pulse
    · exact used unused
    · rw [paired, passive] at unit
      exact absurd unit (by decide)
    · rw [fault] at stands
      exact absurd stands (by simp)
    · rw [pulse] at stands
      exact absurd stands (by simp)
  exact output_idle live hk (fun d => d.readbackFault k) result rfl

end

/-! ## The acknowledgement -/

section
variable {s : State} {k : Nat} (up : s.Up) (hk : k < 8)
include up hk

theorem ack_clears (fault : s.found.outState k = OutState.fault) : Does (.ack k false) s fun b a =>
    a.done = Code.STATUS_OK ∧ a.outState k = OutState.off ∧ b.KeepsRegs a [Reg.R5020_STATE k] ∧ b.Keeps a [.od, .done] := by
  obtain ⟨c, hc⟩ : ∃ c, c = s.found.set (Reg.R5020_STATE k) 0 := ⟨_, rfl⟩
  have result : s.found.outAck k false = c.finish Code.STATUS_OK := by
    rw [Dev.outAck, if_neg (Nat.not_le.2 hk), if_neg (not_not.2 fault), if_neg (by decide), hc]
  have keeps : s.found.Keeps (c.finish Code.STATUS_OK) [.od, .done] := by
    rw [hc]
    exact ((Dev.keeps_set _ _ _).mono (by decide)).finish _
  have state : c.outState k = OutState.off := by
    rw [hc]
    exact Dev.nat_set_same (n := 0) _ (outputEntries hk).2.2.2.2.2.1 rfl (by decide)
  have others : s.found.KeepsRegs c [Reg.R5020_STATE k] := fun j hj => by
    rw [hc]
    exact Dev.reg_set_other _ _ (List.ne_of_not_mem_cons hj)
  have leaves : Leaves (.ack k false) s (c.finish Code.STATUS_OK) :=
    .cell (guard := fun d => d.upIf (k < 8)) (fun d => d.outAck k false) (up.passesIf hk) result keeps
  exact leaves.quietly (keeps .event (by decide)) ⟨rfl, state, others, keeps⟩

theorem ack_answers {high : Bool} {code : Nat} (result : s.found.outAck k high = s.found.finish code) :
    Does (.ack k high) s fun b a => a.done = code ∧ b.Keeps a [.done] :=
  (Leaves.cell (l := [.done]) (guard := fun d => d.upIf (k < 8)) (fun d => d.outAck k high) (up.passesIf hk) result (Dev.keeps_finish _ _)).finished

theorem ack_high (fault : s.found.outState k = OutState.fault) : Does (.ack k true) s fun b a => a.done = Code.OD_STATE ∧ b.Keeps a [.done] := by
  refine ack_answers up hk ?_
  rw [Dev.outAck, if_neg (Nat.not_le.2 hk), if_neg (not_not.2 fault), if_pos rfl]

theorem ack_idle (high : Bool) (no : s.found.outState k ≠ OutState.fault) :
    Does (.ack k high) s fun b a => a.done = Code.STATUS_OK ∧ b.Keeps a [.done] := by
  refine ack_answers up hk ?_
  rw [Dev.outAck, if_neg (Nat.not_le.2 hk), if_pos no]

end

end Sys2Proof.Machine
end

section
/-! # The exchange of the channels and the loss of one (R367, R380) -/

namespace Sys2Proof.Machine

/-! ## What the safety domain keeps in a reaction -/

/-- Of the safety domain nothing changed but the monitoring of axes. -/
def Dev.SafeStands (d e : Dev) : Prop := ∃ axes, e.safe = { d.safe with axes := axes }

section
variable {d e f : Dev} {n : Nat}

theorem Dev.SafeStands.refl (d : Dev) : d.SafeStands d := ⟨_, rfl⟩

theorem Dev.SafeStands.of_safe (h : d.SafeStands e) (safe : f.safe = e.safe) : d.SafeStands f := by
  rw [Dev.SafeStands, safe]
  exact h

theorem Dev.SafeStands.of_keeps {l : List Part} (h : d.SafeStands e) (g : e.Keeps f l) (out : Part.safe ∉ l := by decide) : d.SafeStands f :=
  h.of_safe (g .safe out)

theorem Dev.SafeStands.setAxSafe (h : d.SafeStands e) (n : Nat) (x : AxSafe) : d.SafeStands (e.setAxSafe n x) := by
  obtain ⟨axes, same⟩ := h
  refine ⟨mset {} e.safe.axes n x, ?_⟩
  rw [Dev.setAxSafe, same]

theorem Dev.SafeStands.set (h : d.SafeStands e) (k : Nat) (v : Int) : d.SafeStands (e.set k v) := h

theorem Dev.SafeStands.modAxis (h : d.SafeStands e) (n : Nat) (g : Axis → Axis) : d.SafeStands (e.modAxis n g) := h

theorem Dev.SafeStands.modChain (h : d.SafeStands e) (c : Nat) (g : Chain → Chain) : d.SafeStands (e.modChain c g) := h

theorem Dev.SafeStands.when (h : d.SafeStands e) (b : Bool) (g : Dev → Dev) (then_ : d.SafeStands (g e)) : d.SafeStands (e.when b g) := by
  unfold Dev.when
  split
  · exact then_
  · exact h

theorem Dev.SafeStands.startStop (h : d.SafeStands e) (n : Nat) (A : Rat) (J : Option Rat) : d.SafeStands (e.startStop n A J) := by
  unfold Dev.startStop
  split
  · exact h
  · exact h

theorem Dev.SafeStands.freshStop (h : d.SafeStands e) (n : Nat) : d.SafeStands (e.freshStop n) := by
  unfold Dev.freshStop
  split
  · exact h.when _ _ h
  · exact h

theorem Dev.SafeStands.emergencyRamp (h : d.SafeStands e) (n : Nat) : d.SafeStands (e.emergencyRamp n) := by
  unfold Dev.emergencyRamp
  split
  · exact h
  · extract_lets f
    have fresh : d.SafeStands f := h.freshStop n
    exact fresh.setAxSafe (e := f.startPlan _ _ _) n _

theorem Dev.SafeStands.quickStopAxis (h : d.SafeStands e) (n : Nat) : d.SafeStands (e.quickStopAxis n) := by
  have aborted : d.SafeStands (e.abortInjection n) := h.of_keeps (e.keeps_abortInjection n)
  have ramped : d.SafeStands (((e.abortInjection n).abandonHoming n).emergencyRamp n) := .emergencyRamp (aborted.set _ _) n
  unfold Dev.quickStopAxis
  exact (ramped.set _ _).modAxis _ _

theorem Dev.SafeStands.chainStop (h : d.SafeStands e) (n : Nat) : d.SafeStands (e.chainStop n) := by
  unfold Dev.chainStop
  split
  · exact h
  · split
    · refine each_holds (fun f : Dev => d.SafeStands f) _ _ (fun m _ f hf => ?_) h
      split
      · exact hf.quickStopAxis m
      · exact hf
    · exact h

theorem Dev.SafeStands.cutTorque (h : d.SafeStands e) (n code : Nat) : d.SafeStands (e.cutTorque n code) := by
  unfold Dev.cutTorque
  extract_lets aborted faulted shown opened still before unmonitored
  have aborted' : d.SafeStands aborted := h.of_keeps (e.keeps_abortInjection n)
  have shown' : d.SafeStands shown := (((aborted'.set _ _).set _ _).set _ _).set _ _
  have opened' : d.SafeStands opened := shown'.modAxis n _
  have still' : d.SafeStands still := ((opened'.set _ _).set _ _).set _ _
  clear_value still
  have unmonitored' : d.SafeStands unmonitored := still'.setAxSafe n _
  split
  · exact unmonitored'.modChain _ _
  · exact unmonitored'

theorem Dev.SafeStands.carryOut (h : d.SafeStands e) (n code r : Nat) : d.SafeStands (e.carryOut n code r) := by
  unfold Dev.carryOut
  extract_lets named homing began ramp by_ stopping monitored
  have named' : d.SafeStands named := (h.set _ _).modAxis n _
  split
  · exact (named'.cutTorque n code).chainStop n
  · have homing' : d.SafeStands homing := (named'.of_keeps (named.keeps_abortInjection n)).set _ _
    have ramp' : d.SafeStands ramp := by
      show d.SafeStands (if _ then _ else _)
      split
      · exact homing'.startStop n _ _
      · exact homing'.emergencyRamp n
    have by' : d.SafeStands by_ := ramp'.when _ _ (ramp'.modAxis n _)
    have stopping' : d.SafeStands stopping := (by'.set _ _).modAxis n _
    clear_value stopping
    exact (stopping'.when _ _ ((stopping'.setAxSafe n _).set _ _)).chainStop n

theorem Dev.SafeStands.react (h : d.SafeStands e) (n code r : Nat) : d.SafeStands (e.react n code r) := by
  unfold Dev.react
  dsimp only
  split
  · exact h
  split
  · exact h
  split
  · split
    · exact (h.set _ _).cutTorque n code
    · exact h
  split
  · exact ((h.set _ _).modAxis n _).cutTorque n code
  split
  · exact h.carryOut n code r
  split
  · exact h
  split
  · exact h.carryOut n code r
  · exact h.modAxis n _

theorem Dev.SafeStands.stoAll (h : d.SafeStands e) (code : Nat) : d.SafeStands (e.stoAll code) :=
  iterate_holds (fun f : Dev => d.SafeStands f) 128 _ (fun n _ _ hf => hf.react n code Reaction.sto) h

end

/-! ## Outputs and permits off -/

/-- Every safe output is off and no axis has a permit. -/
structure Dev.AllOff (d : Dev) : Prop where
  permits : ∀ m < 128, d.flag (Reg.R5080_PERMIT m) = false
  outs : ∀ j < 8, (d.safeOut j).swA = false ∧ (d.safeOut j).swB = false ∧ d.outState j ≠ OutState.on

/-- One output off. -/
def Dev.outputOff (k : Nat) (d : Dev) : Dev :=
  (d.setSafeOut k { d.safeOut k with swA := false, swB := false }).when
    ((d.setSafeOut k { d.safeOut k with swA := false, swB := false }).nat (Reg.R5020_STATE k) != 3) fun d => d.set (Reg.R5020_STATE k) 0

theorem Dev.outputsOff_eq (d : Dev) : d.outputsOff = iterate 8 Dev.outputOff d := rfl

theorem outStates_apart {j k : Nat} (h : j ≠ k) : Reg.R5020_STATE j ≠ Reg.R5020_STATE k := by
  simp only [Reg.R5020_STATE, Reg.key]
  omega

/-- One output off: its switches and state; the others stand. -/
theorem Dev.outputOff_off (d : Dev) {k : Nat} (hk : k < 8) : ((d.outputOff k).safeOut k).swA = false ∧ ((d.outputOff k).safeOut k).swB = false ∧
    (d.outputOff k).outState k ≠ OutState.on ∧
    ∀ j < 8, j ≠ k → (d.outputOff k).safeOut j = d.safeOut j ∧ (d.outputOff k).outState j = d.outState j := by
  obtain ⟨q, hq⟩ : ∃ q, q = d.setSafeOut k { d.safeOut k with swA := false, swB := false } := ⟨_, rfl⟩
  obtain ⟨e, made⟩ : ∃ e, e = q.when (q.nat (Reg.R5020_STATE k) != 3) fun d => d.set (Reg.R5020_STATE k) 0 := ⟨_, rfl⟩
  have eq : d.outputOff k = e := by rw [made, hq, Dev.outputOff]
  have out : ∀ j, e.safeOut j = q.safeOut j := fun j => by
    rw [made, Dev.when]
    split <;> rfl
  have own : q.safeOut k = { d.safeOut k with swA := false, swB := false } := by rw [hq, Dev.safeOut_setSafeOut]
  have keepsQ : d.Keeps q [.safe] := by rw [hq]; exact d.keeps_setSafeOut k _
  rw [eq, out, own]
  refine ⟨rfl, rfl, ?_, fun j hj apart => ⟨by rw [out, hq, Dev.safeOut_setSafeOut_other apart], ?_⟩⟩
  · rw [made, Dev.when]
    split
    · have zero : (q.set (Reg.R5020_STATE k) 0).outState k = 0 := Dev.nat_set_same (n := 0) _ (outputEntries hk).2.2.2.2.2.1 rfl (by decide)
      rw [zero]
      decide
    · next same =>
      have three : q.outState k = 3 := by simpa [Dev.outState] using same
      rw [three]
      decide
  · rw [made, Dev.outState, Dev.nat, Dev.reg_when_set _ _ _ (outStates_apart apart), Dev.reg_congr (keepsQ .od (by decide))]
    rfl

/-- The entry of a permit, among those of the safety monitoring. -/
theorem permit_apart {j m : Nat} (hm : m < 128) (out : j / 256 < 0x5080 ∨ j % 256 ≠ Reg.R5080_PERMIT 0 % 256) : j ≠ Reg.R5080_PERMIT m := by
  rintro rfl
  simp only [Reg.R5080_PERMIT, Reg.key] at out
  omega

theorem Dev.reg_permitsOff_other (d : Dev) {j : Nat} (out : ∀ m < 128, j ≠ Reg.R5080_PERMIT m) : d.permitsOff.reg j = d.reg j :=
  Dev.reg_iterate (fun m hm _ => Dev.reg_set_other _ _ (out m hm)) d

theorem Dev.allOff (d : Dev) : d.outputsOff.permitsOff.AllOff := by
  refine ⟨fun m hm => Dev.permit_permitsOff _ hm, fun j hj => ?_⟩
  have off : ((d.outputsOff).safeOut j).swA = false ∧ ((d.outputsOff).safeOut j).swB = false ∧ d.outputsOff.outState j ≠ OutState.on := by
    rw [Dev.outputsOff_eq]
    refine each_reaches (fun _ : Dev => True) (fun e : Dev => (e.safeOut j).swA = false ∧ (e.safeOut j).swB = false ∧ e.outState j ≠ OutState.on)
      (List.mem_range.2 hj) (fun _ _ _ _ => trivial) (fun k hk e _ he => ?_) (fun e _ => ?_) trivial
    · obtain ⟨a, b, st, others⟩ := e.outputOff_off (List.mem_range.1 hk)
      by_cases own : j = k
      · subst own
        exact ⟨a, b, st⟩
      · obtain ⟨same, state⟩ := others j hj own
        rw [same, state]
        exact he
    · obtain ⟨a, b, st, -⟩ := e.outputOff_off hj
      exact ⟨a, b, st⟩
  obtain ⟨o, made⟩ : ∃ o, o = d.outputsOff := ⟨_, rfl⟩
  rw [← made] at off ⊢
  have safe : o.permitsOff.safe = o.safe := o.keeps_permitsOff .safe (by decide)
  have state : o.permitsOff.outState j = o.outState j := by
    have apart : ∀ m < 128, Reg.R5020_STATE j ≠ Reg.R5080_PERMIT m := fun m hm => permit_apart hm (.inl (by simp only [Reg.R5020_STATE, Reg.key]; omega))
    rw [Dev.outState, Dev.nat, Dev.reg_permitsOff_other _ apart]
    rfl
  rw [Dev.safeOut_congr (congrArg SafeDom.outs safe), state]
  exact off

/-! ## The loss of a channel -/

section
variable {s : State} {ch : Nat} (live : s.Live) (hch : ch < 2)
include live hch

theorem channelLost_stops (single : s.found.paired = false) : Does (.channelLost ch) s fun b a =>
    a.safe.lost = true ∧ a.AllOff ∧
    (b.state = DevState.run → a.state = DevState.safe ∧ a.nat Reg.R1001_SAFE_CAUSE = Code.CHANNEL_LOST) ∧
    (b.state ≠ DevState.run → a.state = b.state) := by
  obtain ⟨x, hx⟩ : ∃ x : SafeDom, x = { s.found.safe with lost := true, hbA := s.found.safe.hbA && ch != 1, hbB := s.found.safe.hbB && ch != 0 } := ⟨_, rfl⟩
  obtain ⟨m, hm⟩ : ∃ m : Dev, m = { s.found with safe := x } := ⟨_, rfl⟩
  obtain ⟨r, hr⟩ : ∃ r, r = m.raise Code.CHANNEL_LOST Kind.device 0 0 ch := ⟨_, rfl⟩
  obtain ⟨o, ho⟩ : ∃ o, o = r.outputsOff.permitsOff := ⟨_, rfl⟩
  obtain ⟨e, made⟩ : ∃ e, e = o.unitFails Code.CHANNEL_LOST := ⟨_, rfl⟩
  have result : s.found.channelLost ch = e := by
    unfold Dev.channelLost
    rw [made, ho, hr, hm, hx]
  have keepsM : s.found.Keeps m [.safe] := by rw [hm]; exact s.found.keeps_safe x
  have keepsR : m.Keeps r [.od, .log, .event] := by rw [hr]; exact Dev.keeps_raise _ _ _ _ _ _
  have keepsO : r.Keeps o [.od, .safe] := by rw [ho]; exact r.keeps_outputsOff.step (Dev.keeps_permitsOff _)
  have lostM : m.safe.lost = true := by rw [hm, hx]
  have lostR : r.safe.lost = true := by rw [keepsR .safe (by decide), lostM]
  have outsKeep : ∀ y : Dev, y.safe.lost = true → y.outputsOff.permitsOff.safe.lost = true := fun y hy => by
    have step : y.outputsOff.safe.lost = true := by
      rw [Dev.outputsOff_eq]
      refine iterate_holds (fun f : Dev => f.safe.lost = true) 8 _ (fun k _ f hf => ?_) hy
      unfold Dev.outputOff Dev.when
      split <;> exact hf
    have same : y.outputsOff.permitsOff.safe = y.outputsOff.safe := (Dev.keeps_permitsOff _) .safe (by decide)
    rw [same, step]
  have lostO : o.safe.lost = true := by rw [ho]; exact outsKeep r lostR
  have offO : o.AllOff := by rw [ho]; exact r.allOff
  have low : ∀ k, k / 4096 < 0x200 → k ∉ logRegs → o.reg k = s.found.reg k := fun k hk log => by
    rw [ho, Dev.reg_permitsOff _ (not_outputReg hk), Dev.reg_outputsOff _ (not_outputReg hk), hr, Dev.reg_raise _ _ _ _ _ _ log,
      Dev.reg_congr (keepsM .od (by decide))]
  have state : o.state = s.found.state := congrArg Int.toNat (low _ (by decide) (by decide))
  have paired : o.active = false := by
    have mode : o.nat (act Reg.R5800_PAIR_MODE) = s.found.nat (act Reg.R5800_PAIR_MODE) := by
      have apart : ¬OutputReg (act Reg.R5800_PAIR_MODE) := by
        rintro (⟨i, hi, out⟩ | ⟨n, hn, permit⟩)
        · simp only [act, Reg.R5800_PAIR_MODE, Reg.R5020_STATE, Reg.key] at out; omega
        · simp only [act, Reg.R5800_PAIR_MODE, Reg.R5080_PERMIT, Reg.key] at permit; omega
      rw [Dev.nat, ho, Dev.reg_permitsOff _ apart, Dev.reg_outputsOff _ apart, hr, Dev.reg_raise _ _ _ _ _ _ (by decide),
        Dev.reg_congr (keepsM .od (by decide)), ← Dev.nat]
    have single' : o.paired = false := by
      rw [Dev.paired, mode]
      exact single
    rw [Dev.active, single']
    rfl
  have fails : e = if o.state = DevState.run then o.enterSafe Code.CHANNEL_LOST else o := by
    rw [made, Dev.unitFails, if_neg (by rw [paired]; decide)]
  have shows : o.Keeps e safeParts ∧ e.safe.lost = true ∧ e.AllOff ∧
      (s.found.state = DevState.run → e.state = DevState.safe ∧ e.nat Reg.R1001_SAFE_CAUSE = Code.CHANNEL_LOST) ∧
      (s.found.state ≠ DevState.run → e.state = s.found.state) := by
    by_cases run : s.found.state = DevState.run
    · rw [if_pos (state.trans run)] at fails
      obtain ⟨safe, cause, -⟩ := o.enterSafe_shows (cause := Code.CHANNEL_LOST) (by decide)
      have lost : e.safe.lost = true := by
        rw [fails, Dev.enterSafe_eq]
        refine outsKeep _ ?_
        have stand : (o.safeShown Code.CHANNEL_LOST).safe = o.safe := (o.keeps_safeShown _) .safe (by decide)
        obtain ⟨axes, same⟩ := (Dev.SafeStands.refl (o.safeShown Code.CHANNEL_LOST)).stoAll Code.CHANNEL_LOST
        rw [same, stand]
        exact lostO
      refine ⟨by rw [fails]; exact o.keeps_enterSafe _, lost, by rw [fails, Dev.enterSafe_eq]; exact Dev.allOff _, fun _ => ?_, fun no => absurd run no⟩
      rw [fails]
      exact ⟨safe, cause⟩
    · rw [if_neg (by rw [state]; exact run)] at fails
      rw [fails]
      exact ⟨Dev.Keeps.refl _ _, lostO, offO, fun h => absurd h run, fun _ => state⟩
  obtain ⟨keepsE, lost, off, safe, stands⟩ := shows
  have keeps : s.found.Keeps e safeParts := (((keepsM.mono (by decide)).step keepsR).step keepsO).andThen keepsE
  have leaves : Leaves (.channelLost ch) s e :=
    .dry (guard := fun d => d.liveIf (ch < 2)) (fun d => d.channelLost ch) (live.passesIf hch) result keeps
  exact leaves.does fun _ _ => ⟨lost, ⟨off.permits, off.outs⟩, safe, stands⟩

end

end Sys2Proof.Machine
end

section
/-! # The exchange of the channels (R380) -/

namespace Sys2Proof.Machine

section
variable {d e f : Dev}

/-! ## Permits -/

/-- A permit rests on no entry of the permits. -/
theorem Dev.permit_congr (keeps : d.Keeps e [.od]) (regs : ∀ j, (∀ m < 128, j ≠ Reg.R5080_PERMIT m) → e.reg j = d.reg j) {n : Nat} (hn : n < 128) :
    e.permit n = d.permit n := by
  have state : e.state = d.state := congrArg Int.toNat (regs _ fun m hm => permit_apart hm (.inl (by decide)))
  have axis : e.axState n = d.axState n := congrArg Int.toNat (regs _ fun m hm => permit_apart hm (.inl (by simp only [Reg.AX1_STATE, Reg.key]; omega)))
  have held : e.stoHeld n = d.stoHeld n := by
    have same := regs (Reg.R5080_SAFE_STATE n) fun m hm => permit_apart hm (.inr (by simp only [Reg.R5080_SAFE_STATE, Reg.R5080_PERMIT, Reg.key]; omega))
    rw [Dev.stoHeld, Dev.nat, same]
    rfl
  have chains : e.chainOf n = d.chainOf n := Dev.chainOf_congr (keeps .dom (by decide))
    (fun c hc => regs _ fun m hm => by simp only [act, Reg.CH0_CHAIN_EN, Reg.R5080_PERMIT, Reg.key]; omega) n
  have group : e.groupOff n = d.groupOff n := by
    unfold Dev.groupOff
    rw [Bool.eq_iff_iff, List.any_eq_true, List.any_eq_true]
    refine exists_congr fun k => and_congr_right fun hk => ?_
    have hk8 : k < 8 := List.mem_range.1 hk
    have kind : e.nat (act (Reg.R5020_KIND k)) = d.nat (act (Reg.R5020_KIND k)) :=
      congrArg Int.toNat (regs _ fun m hm => by simp only [act, Reg.R5020_KIND, Reg.R5080_PERMIT, Reg.key]; omega)
    have mask : e.nat (act (Reg.R5020_CHAIN_MASK k)) = d.nat (act (Reg.R5020_CHAIN_MASK k)) :=
      congrArg Int.toNat (regs _ fun m hm => by simp only [act, Reg.R5020_CHAIN_MASK, Reg.R5080_PERMIT, Reg.key]; omega)
    have shown : e.nat (Reg.R5020_STATE k) = d.nat (Reg.R5020_STATE k) :=
      congrArg Int.toNat (regs _ fun m hm => permit_apart hm (.inl (by simp only [Reg.R5020_STATE, Reg.key]; omega)))
    have scope : e.outScope k n = d.outScope k n := by
      have dom : e.dom = d.dom := keeps .dom (by decide)
      unfold Dev.outScope Dev.inScope
      rw [chains, mask, Dev.bytes, dom, ← Dev.bytes]
    rw [kind, shown, scope]
  have safe : e.safe = d.safe := keeps .safe (by decide)
  rw [Dev.permit, state, axis, held, group, safe]
  rfl

/-- The permit of one axis shown. -/
def Dev.permitShown (n : Nat) (d : Dev) : Dev := d.set (Reg.R5080_PERMIT n) (if d.permit n then 1 else 0)

theorem permit_fits : ∀ n < 128, (odType (Reg.R5080_PERMIT n)).wrap 1 = 1 := by decide +kernel

theorem Dev.flag_permitShown (d : Dev) {n : Nat} (hn : n < 128) : (d.permitShown n).flag (Reg.R5080_PERMIT n) = d.permit n := by
  rw [Dev.flag, Dev.permitShown, Dev.reg_set_same]
  cases d.permit n
  · rw [if_neg (by decide), OdType.wrap_zero]
    rfl
  · rw [if_pos rfl, permit_fits n hn]
    rfl

/-- All permits shown: each as it is due, and nothing else changed. -/
theorem Dev.permitsShown (made : e = iterate 128 Dev.permitShown d) : d.Keeps e [.od] ∧ (∀ j, (∀ m < 128, j ≠ Reg.R5080_PERMIT m) → e.reg j = d.reg j) ∧
    ∀ n < 128, e.flag (Reg.R5080_PERMIT n) = e.permit n := by
  have keeps : d.Keeps e [.od] := by rw [made]; exact Dev.Keeps.iterate _ _ (fun _ _ => Dev.keeps_set _ _ _) d
  have regs : ∀ j, (∀ m < 128, j ≠ Reg.R5080_PERMIT m) → e.reg j = d.reg j := fun j out => by
    rw [made]
    exact Dev.reg_iterate (fun m hm _ => Dev.reg_set_other _ _ (out m hm)) d
  refine ⟨keeps, regs, fun n hn => ?_⟩
  rw [Dev.permit_congr keeps regs hn, made]
  refine each_reaches (fun g : Dev => d.Keeps g [.od] ∧ ∀ j, (∀ m < 128, j ≠ Reg.R5080_PERMIT m) → g.reg j = d.reg j)
    (fun g : Dev => g.flag (Reg.R5080_PERMIT n) = d.permit n) (List.mem_range.2 hn) (fun k hk g hg => ?_) (fun k hk g hg shown => ?_)
    (fun g hg => ?_) ⟨Dev.Keeps.refl _ _, fun _ _ => rfl⟩
  · exact ⟨hg.1.set _ _, fun j out => (Dev.reg_set_other _ _ (out k (List.mem_range.1 hk))).trans (hg.2 j out)⟩
  · by_cases own : n = k
    · subst own
      rw [g.flag_permitShown hn]
      exact Dev.permit_congr hg.1 hg.2 hn
    · rw [Dev.flag, Dev.permitShown, Dev.reg_set_other _ _ (by simp only [Reg.R5080_PERMIT, Reg.key]; omega)]
      exact shown
  · rw [g.flag_permitShown hn]
    exact Dev.permit_congr hg.1 hg.2 hn

/-! ## The outputs -/

/-- One output in the exchange. -/
def Dev.outExchange (outs : List Nat) (k : Nat) (d : Dev) : Dev :=
  if (d.outDiffer k (outs.contains k)).outDemand k && !outs.contains k then (d.outDiffer k (outs.contains k)).outOn k
  else (d.outDiffer k (outs.contains k)).outOff k

/-- What an output's part in the exchange leaves alone. -/
structure Dev.Exchanges (d e : Dev) (k : Nat) : Prop where
  keeps : d.Keeps e reactionParts
  regs : ∀ j, ¬ReactionReg (· < 256) (· < 16) j → j ≠ Reg.R5020_STATE k → e.reg j = d.reg j

theorem Dev.Reacts.exchanges (h : d.AxesReact e) (k : Nat) : d.Exchanges e k := ⟨h.keeps, fun j hj _ => h.regs j hj⟩

theorem Dev.Exchanges.refl (d : Dev) (k : Nat) : d.Exchanges d k := ⟨Dev.Keeps.refl _ _, fun _ _ _ => rfl⟩

theorem Dev.Exchanges.trans {k : Nat} (h : d.Exchanges e k) (g : e.Exchanges f k) : d.Exchanges f k :=
  ⟨h.keeps.andThen g.keeps, fun j hj own => (g.regs j hj own).trans (h.regs j hj own)⟩

theorem Dev.exchanges_safe (d : Dev) (x : SafeDom) (k : Nat) : d.Exchanges { d with safe := x } k := ⟨(d.keeps_safe x).mono (by decide), fun _ _ _ => rfl⟩

theorem Dev.exchanges_state (d : Dev) (k : Nat) (v : Int) : d.Exchanges (d.set (Reg.R5020_STATE k) v) k :=
  ⟨(Dev.keeps_set _ _ _).mono (by decide), fun _ _ own => Dev.reg_set_other _ _ own⟩

theorem Dev.outDiffer_exchanges (d : Dev) (k : Nat) (differs : Bool) : d.Exchanges (d.outDiffer k differs) k := by
  unfold Dev.outDiffer
  extract_lets n src m r
  have counted : d.Exchanges m k := d.exchanges_safe _ k
  clear_value m
  split
  · refine counted.trans (Dev.Reacts.exchanges ?_ k)
    refine Dev.Reacts.trans ((Dev.Reacts.refl _ _ m).raise _ _ _ _ _) (.each _ (fun n (d : Dev) => d.latchStop n Code.CHANNEL_DISAGREE 8 Reaction.sto) r fun n mem x hx => ?_)
    have low : n < 128 := List.mem_range.1 (List.mem_filter.1 mem).1
    exact hx.latchStop (.any _ (Nat.lt_trans low (by decide))) _ _ _
  · exact counted

theorem Dev.outOn_exchanges (d : Dev) (k : Nat) : d.Exchanges (d.outOn k) k := by
  unfold Dev.outOn
  extract_lets x
  split
  · exact (d.exchanges_safe _ k).trans (Dev.exchanges_state _ k _)
  · exact .refl _ _

theorem Dev.outOff_exchanges (d : Dev) (k : Nat) : d.Exchanges (d.outOff k) k := by
  unfold Dev.outOff
  split
  · exact ((d.exchanges_safe _ k).trans (Dev.exchanges_state _ k _)).trans ((Dev.Reacts.refl _ _ _).groupSto k |>.exchanges k)
  · exact .refl _ _

theorem Dev.outExchange_exchanges (d : Dev) (outs : List Nat) (k : Nat) : d.Exchanges (d.outExchange outs k) k := by
  have differs := d.outDiffer_exchanges k (outs.contains k)
  unfold Dev.outExchange
  split
  · exact differs.trans (Dev.outOn_exchanges _ k)
  · exact differs.trans (Dev.outOff_exchanges _ k)

theorem Dev.Exchanges.state {k : Nat} (hk : k < 8) (h : d.Exchanges e k) : e.state = d.state :=
  congrArg Int.toNat (h.regs _ (not_reactionReg (by decide) (by decide)) (by simp only [Reg.R1001_DEV_STATE, Reg.R5020_STATE, Reg.key]; omega))

theorem Dev.Exchanges.outState_other {j k : Nat} (hj : j < 8) (apart : j ≠ k) (h : d.Exchanges e k) : e.outState j = d.outState j :=
  congrArg Int.toNat (h.regs _ (outputEntry_apart (outputEntries hj).1) (outStates_apart apart))

/-- Outside RUN an output's part in the exchange leaves it neither on nor in a pulse. -/
theorem Dev.outExchange_off (d : Dev) (outs : List Nat) {k : Nat} (hk : k < 8) (no : d.state ≠ DevState.run) :
    (d.outExchange outs k).outState k ≠ OutState.on ∧ (d.outExchange outs k).outState k ≠ OutState.pulse := by
  obtain ⟨x, hx⟩ : ∃ x, x = d.outDiffer k (outs.contains k) := ⟨_, rfl⟩
  have state : x.state = d.state := by rw [hx]; exact (d.outDiffer_exchanges k _).state hk
  have demand : x.outDemand k = false := by
    have stopped : (x.state == DevState.run) = false := by rw [state]; exact beq_eq_false_iff_ne.2 no
    rw [Dev.outDemand, stopped]
    rfl
  have eq : d.outExchange outs k = x.outOff k := by
    rw [Dev.outExchange, ← hx, demand]
    rfl
  rw [eq]
  unfold Dev.outOff
  split_ifs with live
  · obtain ⟨y, hy⟩ : ∃ y, y = (x.setSafeOut k { x.safeOut k with swA := false, swB := false, highBy := none }).set (Reg.R5020_STATE k) 0 := ⟨_, rfl⟩
    have zero : y.outState k = 0 := by
      rw [hy]
      exact Dev.nat_set_same (n := 0) _ (outputEntries hk).2.2.2.2.2.1 rfl (by decide)
    have shown : (y.groupSto k).outState k = 0 := by rw [((Dev.Reacts.refl _ _ y).groupSto k).outState hk, zero]
    rw [← hy, shown]
    decide
  · exact not_or.1 live

/-! ## The axes -/

/-- One axis in the exchange. -/
def Dev.axExchange (diff : List (Nat × Nat)) (n : Nat) (d : Dev) : Dev :=
  match diff.lookup n with
  | some x => d.axDiffer n x
  | none => (d.when ((d.axSafe n).disagree != 0) fun d => d.setAxSafe n { d.axSafe n with disagree := 0 }).unlatch n fun l => l.code == Code.CHANNEL_DISAGREE

theorem Dev.demandExchange_eq (d : Dev) (axes : List (Nat × Nat)) (outs : List Nat) : d.demandExchange axes outs =
    iterate 128 Dev.permitShown (iterate 8 (Dev.outExchange outs)
      (iterate 128 (Dev.axExchange (axes.filter fun (n, x) => decide (n < 128) && d.axDemand n != x)) d)) := rfl

theorem Dev.axDiffer_reacts {N C : Nat → Prop} (h : d.Reacts N C e) {n : Nat} (own : N n) (may : d.MayReact N C n) (x : Nat) : d.Reacts N C (e.axDiffer n x) := by
  unfold Dev.axDiffer
  extract_lets k src m r g
  have counted : d.Reacts N C m := h.setAxSafe own _
  clear_value m
  have reacted : d.Reacts N C g := counted.when _ _ ((Dev.Reacts.refl _ _ m).react (may.of_reacts counted) _ _)
  clear_value g
  split
  · exact reacted.violation may _
  · exact reacted

theorem Dev.axExchange_reacts (h : d.AxesReact e) (diff : List (Nat × Nat)) {n : Nat} (hn : n < 128) : d.AxesReact (e.axExchange diff n) := by
  have low : n < 256 := Nat.lt_trans hn (by decide)
  unfold Dev.axExchange
  split
  · exact Dev.axDiffer_reacts h low (.any _ low) _
  · exact (h.when _ _ (Dev.Reacts.setAxSafe (N := (· < 256)) (Dev.Reacts.refl _ _ e) low _)).unlatch low low _

end

section
variable (d : Dev) {n : Nat}

/-- An axis that differs for the second time in a row is latched. -/
theorem Dev.axExchange_second (n v : Nat) (h : (d.axSafe n).disagree = 1 ∨ d.Latched n ⟨Code.CHANNEL_DISAGREE, 8, Reaction.sto⟩) :
    (d.axExchange [(n, v)] n).Latched n ⟨Code.CHANNEL_DISAGREE, 8, Reaction.sto⟩ := by
  have own : d.axExchange [(n, v)] n = d.axDiffer n v := by
    unfold Dev.axExchange
    rw [List.lookup_cons, beq_self_eq_true]
  rw [own]
  unfold Dev.axDiffer
  extract_lets k src m r g
  have stands : d.LatchesStand m := (Dev.LatchesStand.refl d).setAxSafe n rfl
  clear_value m
  have reacted : d.LatchesStand g := stands.when _ _ (stands.react n _ _)
  clear_value g
  split
  · exact Dev.latched_violation _ _ _
  next once =>
    rcases h with one | latched
    · exact absurd (congrArg (· + 1) one) once
    · exact latched.stands reacted

/-- An axis that the exchange does not name leaves the monitoring of the others. -/
theorem Dev.axSafe_axExchange_other {v k : Nat} (apart : k ≠ n) (hk : k < 128) : (d.axExchange [(n, v)] k).axSafe n = d.axSafe n := by
  have unnamed : List.lookup k [(n, v)] = none := by
    rw [List.lookup_cons, beq_eq_false_iff_ne.2 apart]
    rfl
  unfold Dev.axExchange
  rw [unnamed]
  obtain ⟨m, hm⟩ : ∃ m, m = d.when ((d.axSafe k).disagree != 0) fun d => d.setAxSafe k { d.axSafe k with disagree := 0 } := ⟨_, rfl⟩
  have counted : d.Reacts (· = k) (fun _ => False) m := by
    rw [hm]
    exact (Dev.Reacts.refl _ _ d).when _ _ (Dev.Reacts.setAxSafe (N := (· = k)) (Dev.Reacts.refl _ _ d) rfl _)
  have released : d.Reacts (· = k) (fun _ => False) (m.unlatch k fun l => l.code == Code.CHANNEL_DISAGREE) :=
    counted.unlatch rfl (Nat.lt_trans hk (by decide)) _
  dsimp only
  rw [← hm]
  exact released.stops n apart.symm

end

/-! ## The exchange -/

section
variable {s : State} (live : s.Live)
include live

theorem demandExchange_leaves (axes : List (Nat × Nat)) (outs : List Nat) {x o e : Dev}
    (hx : x = iterate 128 (Dev.axExchange (axes.filter fun (n, x) => decide (n < 128) && s.found.axDemand n != x)) s.found)
    (ho : o = iterate 8 (Dev.outExchange outs) x) (made : e = iterate 128 Dev.permitShown o) : Leaves (.demandExchange axes outs) s e := by
  have result : s.found.demandExchange axes outs = e := by rw [made, ho, hx]; rfl
  have keepsX : s.found.Keeps x reactionParts := by
    rw [hx]
    exact (iterate_holds (fun f : Dev => s.found.AxesReact f) 128 _ (fun n hn f hf => Dev.axExchange_reacts hf _ hn) (Dev.Reacts.refl _ _ _)).keeps
  have keepsO : x.Keeps o reactionParts := by
    rw [ho]
    exact Dev.Keeps.iterate _ _ (fun k f => (f.outExchange_exchanges outs k).keeps) x
  have keepsE : o.Keeps e [.od] := (Dev.permitsShown made).1
  exact .cell (guard := fun d => d.live) (fun d => d.demandExchange axes outs) live.passes result ((keepsX.andThen keepsO).step keepsE)

theorem demandExchange_shows (n : Nat) (axes : List (Nat × Nat)) (outs : List Nat) : Does (.demandExchange axes outs) s fun _ a =>
    (∀ m < 128, a.flag (Reg.R5080_PERMIT m) = a.permit m) ∧
    (a.state ≠ DevState.run → ∀ j < 8, a.outState j ≠ OutState.on ∧ a.outState j ≠ OutState.pulse ∧ a.permit n = false) := by
  obtain ⟨x, hx⟩ : ∃ x, x = iterate 128 (Dev.axExchange (axes.filter fun (n, x) => decide (n < 128) && s.found.axDemand n != x)) s.found := ⟨_, rfl⟩
  obtain ⟨o, ho⟩ : ∃ o, o = iterate 8 (Dev.outExchange outs) x := ⟨_, rfl⟩
  obtain ⟨e, made⟩ : ∃ e, e = iterate 128 Dev.permitShown o := ⟨_, rfl⟩
  obtain ⟨-, regs, shown⟩ := Dev.permitsShown made
  have stops : e.state ≠ DevState.run → ∀ j < 8, e.outState j ≠ OutState.on ∧ e.outState j ≠ OutState.pulse ∧ e.permit n = false := by
    intro no j hj
    have stateE : e.state = o.state := congrArg Int.toNat (regs _ fun m hm => permit_apart hm (.inl (by decide)))
    have stateO : o.state = x.state := by
      rw [ho]
      exact iterate_holds (fun f : Dev => f.state = x.state) 8 _ (fun k hk f hf => ((f.outExchange_exchanges outs k).state hk).trans hf) rfl
    have noX : x.state ≠ DevState.run := by rw [← stateO, ← stateE]; exact no
    have outE : e.outState j = o.outState j :=
      congrArg Int.toNat (regs _ fun m hm => permit_apart hm (.inl (by simp only [Reg.R5020_STATE, Reg.key]; omega)))
    have off : o.outState j ≠ OutState.on ∧ o.outState j ≠ OutState.pulse := by
      rw [ho]
      refine each_reaches (fun f : Dev => f.state ≠ DevState.run) (fun f : Dev => f.outState j ≠ OutState.on ∧ f.outState j ≠ OutState.pulse)
        (List.mem_range.2 hj) (fun k hk f hf => ?_) (fun k hk f hf off => ?_) (fun f hf => f.outExchange_off outs hj hf) noX
      · rw [(f.outExchange_exchanges outs k).state (List.mem_range.1 hk)]
        exact hf
      · by_cases own : j = k
        · subst own
          exact f.outExchange_off outs hj hf
        · rw [(f.outExchange_exchanges outs k).outState_other hj own]
          exact off
    refine ⟨by rw [outE]; exact off.1, by rw [outE]; exact off.2, ?_⟩
    have stopped : (e.state == DevState.run) = false := beq_eq_false_iff_ne.2 no
    rw [Dev.permit, stopped]
    rfl
  exact (demandExchange_leaves live axes outs hx ho made).does fun _ _ => ⟨shown, stops⟩

omit live in
theorem Dev.Latched.outExchange {d : Dev} {n : Nat} {l : StopLatch} (h : d.Latched n l) (outs : List Nat) (k : Nat) : (d.outExchange outs k).Latched n l := by
  obtain ⟨x, hx⟩ : ∃ x, x = d.outDiffer k (outs.contains k) := ⟨_, rfl⟩
  have differs : x.Latched n l := by
    rw [hx]
    unfold Dev.outDiffer
    extract_lets c src m r
    have counted : m.Latched n l := h
    clear_value m
    split
    · have raised : r.Latched n l := counted.stands ((Dev.LatchesStand.refl _).raise _ _ _ _ _)
      exact each_holds (fun f : Dev => f.Latched n l) _ _ (fun i _ f hf => hf.latchStop _ _ _) raised
    · exact counted
  rw [Dev.outExchange, ← hx]
  split
  · unfold Dev.outOn
    extract_lets y
    split <;> exact differs
  · unfold Dev.outOff
    split
    · obtain ⟨y, hy⟩ : ∃ y, y = (x.setSafeOut k { x.safeOut k with swA := false, swB := false, highBy := none }).set (Reg.R5020_STATE k) 0 := ⟨_, rfl⟩
      have off : y.Latched n l := by rw [hy]; exact differs
      rw [← hy]
      refine off.stands ?_
      unfold Dev.groupSto
      split
      · exact .refl _
      · exact .each _ (fun n (d : Dev) => d.react n Code.SO_GROUP_STO Reaction.sto) ((Dev.LatchesStand.refl y).when _ _ ((Dev.LatchesStand.refl y).raise _ _ _ _ _))
          fun i _ f hf => hf.react i _ _
    · exact differs

theorem demandExchange_latches {n v : Nat} (hn : n < 128) (differ : v ≠ s.found.nat (Reg.R5080_SAFE_STATE n)) (before : (s.found.axSafe n).disagree = 1) :
    Does (.demandExchange [(n, v)] []) s fun _ a => (⟨Code.CHANNEL_DISAGREE, 8, Reaction.sto⟩ : StopLatch) ∈ (a.axSafe n).latches := by
  obtain ⟨x, hx⟩ : ∃ x, x = iterate 128 (Dev.axExchange ([(n, v)].filter fun (n, x) => decide (n < 128) && s.found.axDemand n != x)) s.found := ⟨_, rfl⟩
  obtain ⟨o, ho⟩ : ∃ o, o = iterate 8 (Dev.outExchange []) x := ⟨_, rfl⟩
  obtain ⟨e, made⟩ : ∃ e, e = iterate 128 Dev.permitShown o := ⟨_, rfl⟩
  have diff : ([(n, v)].filter fun (n, x) => decide (n < 128) && s.found.axDemand n != x) = [(n, v)] := by
    have counts : (decide (n < 128) && s.found.axDemand n != v) = true := by simpa [hn, Dev.axDemand] using differ.symm
    exact List.filter_eq_self.2 fun y hy => by rw [List.mem_singleton.1 hy]; exact counts
  have latched : x.Latched n ⟨Code.CHANNEL_DISAGREE, 8, Reaction.sto⟩ := by
    rw [hx, diff]
    refine each_reaches (fun f : Dev => (f.axSafe n).disagree = 1 ∨ f.Latched n ⟨Code.CHANNEL_DISAGREE, 8, Reaction.sto⟩)
      (fun f : Dev => f.Latched n ⟨Code.CHANNEL_DISAGREE, 8, Reaction.sto⟩) (List.mem_range.2 hn) (fun k hk f hf => ?_) (fun k hk f hf done => ?_) (fun f hf => ?_) (.inl before)
    · by_cases own : k = n
      · subst own
        exact .inr (f.axExchange_second k v hf)
      · rw [Dev.Latched, f.axSafe_axExchange_other own (List.mem_range.1 hk)]
        exact hf
    · by_cases own : k = n
      · subst own
        exact f.axExchange_second k v hf
      · rw [Dev.Latched, f.axSafe_axExchange_other own (List.mem_range.1 hk)]
        exact done
    · exact f.axExchange_second n v hf
  have switched : o.Latched n ⟨Code.CHANNEL_DISAGREE, 8, Reaction.sto⟩ := by
    rw [ho]
    exact iterate_holds (fun f : Dev => f.Latched n ⟨Code.CHANNEL_DISAGREE, 8, Reaction.sto⟩) 8 _ (fun k _ f hf => hf.outExchange [] k) latched
  have shown : e.Latched n ⟨Code.CHANNEL_DISAGREE, 8, Reaction.sto⟩ := switched.stands ((Dev.LatchesStand.refl _).of_keeps (Dev.permitsShown made).1)
  exact (demandExchange_leaves live _ _ hx ho made).does fun _ _ => shown

end

/-- Settles O47: the inputs are judged by their levels, the outputs by their pulses and readbacks, the exchange shows every permit
as it is due, and a lost channel stops what the unit drives. -/
theorem safeInputsAndOutputs : Obligations.SafeInputsAndOutputs := by
  unfold Obligations.SafeInputsAndOutputs
  intro s i k n raw ch live hi hk hn hch d f x stops r o faulted
  have plain : ∀ {i : Instr} {code : Nat}, (Does i s fun _ a => a.OutFaulted k code) → Does i s fun _ a => faulted a code :=
    fun ⟨a, go, fault⟩ => ⟨a, go, fault.state, fault.swA, fault.swB, fault.last⟩
  refine ⟨input_dead live hi, fun hs mode calm whole => input_demands live hi hs mode calm whole,
    fun hs good mode demands whole other reset => input_releases live hi hs mode good demands whole other reset,
    ⟨discrepancy_holds live hk, discrepancy_idle live hk⟩, ⟨testSlot_pulses live hk, testSlot_idle live hk⟩,
    fun low early => pulseEnd_idle live hk early, fun t some_ due => plain (pulseEnd_faults live hk some_ due),
    fun t some_ due stands => pulseEnd_counts live hk some_ due stands, fun t some_ due pulse => pulseEnd_returns live hk some_ due pulse,
    fun t some_ on due => plain (onCheckTimeout_faults live hk some_ on due), onCheckTimeout_idle live hk,
    fun used acts stands => plain (soReadbackFault_faults live hk used acts stands), soReadbackFault_idle live hk,
    fun up => ⟨ack_clears up hk, ack_high up hk, fun high no => ack_idle up hk high no⟩,
    demandExchange_shows live n, fun v differ before => demandExchange_latches live hn differ before, fun single => ?_⟩
  obtain ⟨a, go, lost, off, safe, stands⟩ := channelLost_stops live hch single
  exact ⟨a, go, lost, off.permits, off.outs, safe, stands⟩

end Sys2Proof.Machine
end

section
/-! # The order of dispatch (R265, R267, R275) -/

namespace Sys2Proof.Machine

section
variable (d : Dev)

/-! ## The order is a strict one -/

/-- The place of an item in the order of dispatch: what a takeover restored first, by its sequence number, then by priority, by heads of a
priority, by deadline and by age. -/
def Dev.rank (i : Item) : Nat ×ₗ Int ×ₗ Int ×ₗ Int ×ₗ Nat :=
  if i.restored then toLex (0, toLex (0, toLex (0, toLex (0, i.seq))))
  else toLex (1, toLex (-(i.prio : Int), toLex (-(i.front : Int), toLex (if i.front = 0 then d.deadlineKey i else 0, i.seq))))

theorem Dev.goesBefore_iff (i j : Item) : d.goesBefore i j = true ↔ d.rank i < d.rank j := by
  unfold Dev.goesBefore Dev.rank
  cases hi : i.restored <;> cases hj : j.restored
  · simp only [ne_eq, not_true_eq_false, Bool.false_eq_true, ↓reduceIte, Prod.Lex.toLex_lt_toLex]
    split_ifs <;> simp <;> omega
  · simp [Prod.Lex.toLex_lt_toLex]
  · simp [Prod.Lex.toLex_lt_toLex]
  · simp [Prod.Lex.toLex_lt_toLex]

theorem Dev.goesBefore_irrefl (i : Item) : d.goesBefore i i = false := by
  rw [← Bool.not_eq_true, Dev.goesBefore_iff]
  exact lt_irrefl _

theorem Dev.goesBefore_trans {i j k : Item} (h : d.goesBefore i j = true) (g : d.goesBefore j k = true) : d.goesBefore i k = true := by
  rw [Dev.goesBefore_iff] at h g ⊢
  exact lt_trans h g

/-! ## The item that goes first -/

/-- Among a list, `b` is the eligible item that none goes before, or none where no item is eligible. -/
def Dev.First (l : List Item) (b : Option Item) : Prop :=
  (∀ i, b = some i → i ∈ l ∧ d.eligible i = true ∧ ∀ j ∈ l, d.eligible j = true → d.goesBefore j i = false) ∧
  (b = none → ∀ j ∈ l, d.eligible j = false)

/-- One item more considered. -/
def Dev.consider (b : Option Item) (i : Item) : Option Item :=
  if d.eligible i then
    match b with
    | some j => if d.goesBefore i j then some i else b
    | none => some i
  else b

theorem Dev.First.consider {l : List Item} {b : Option Item} (h : d.First l b) (i : Item) : d.First (l ++ [i]) (d.consider b i) := by
  obtain ⟨first, none_⟩ := h
  have among : ∀ {P : Item → Prop}, (∀ j ∈ l, P j) → P i → ∀ j ∈ l ++ [i], P j := fun old new j hj =>
    (List.mem_append.1 hj).elim (old j) fun same => List.mem_singleton.1 same ▸ new
  have last : i ∈ l ++ [i] := List.mem_append_right _ List.mem_cons_self
  unfold Dev.consider
  by_cases go : d.eligible i = true
  · rw [if_pos go]
    cases b with
    | none =>
      refine ⟨fun k hk => ?_, fun no => by cases no⟩
      obtain rfl := Option.some.inj hk
      exact ⟨last, go, among (fun j hj el => absurd el (by rw [none_ rfl j hj]; decide)) fun _ => d.goesBefore_irrefl i⟩
    | some b =>
      obtain ⟨mem, el, least⟩ := first b rfl
      dsimp only
      by_cases before : d.goesBefore i b = true
      · rw [if_pos before]
        refine ⟨fun k hk => ?_, fun no => by cases no⟩
        obtain rfl := Option.some.inj hk
        refine ⟨last, go, among (fun j hj elj => ?_) fun _ => d.goesBefore_irrefl i⟩
        rw [← Bool.not_eq_true]
        intro earlier
        exact absurd (d.goesBefore_trans earlier before) (by rw [least j hj elj]; decide)
      · rw [if_neg before]
        refine ⟨fun k hk => ?_, fun no => by cases no⟩
        obtain rfl := Option.some.inj hk
        exact ⟨List.mem_append_left _ mem, el, among least fun _ => by simpa using before⟩
  · rw [if_neg go]
    refine ⟨fun k hk => ?_, fun no => among (none_ no) (by simpa using go)⟩
    obtain ⟨mem, el, least⟩ := first k hk
    exact ⟨List.mem_append_left _ mem, el, among least fun yes => absurd yes go⟩

theorem Dev.First.foldl {l : List Item} {b : Option Item} (h : d.First l b) (m : List Item) : d.First (l ++ m) (m.foldl d.consider b) := by
  induction m generalizing l b with
  | nil => rwa [List.append_nil]
  | cons i m ih =>
    rw [← List.singleton_append, ← List.append_assoc]
    exact ih (h.consider d i)

theorem Dev.bestItem_first : d.First d.sett.items d.bestItem :=
  Dev.First.foldl d (l := []) (b := none) ⟨fun _ no => (by cases no), fun _ _ no => absurd no List.not_mem_nil⟩ d.sett.items

/-! ## What an eligible item waits for -/

theorem Dev.eligible_waits {i : Item} (h : d.eligible i = true) : i.tick = false ∧ i.place = .queued ∧ i.written = true ∧
    (∀ j ∈ d.sett.items, j.tick = false → j.slot ≠ i.slot → i.flow ≠ 0 → j.flow = i.flow → j.place = .queued ∧ i.seq ≤ j.seq) ∧
    ∀ j ∈ d.sett.items, j.tick = false → j.fence = true → j.domain = i.domain → i.seq ≤ j.seq := by
  unfold Dev.eligible at h
  simp only [Bool.and_eq_true, Bool.or_eq_true, Bool.not_eq_true', decide_eq_true_eq] at h
  obtain ⟨⟨⟨⟨⟨⟨tick, queued⟩, written⟩, -⟩, flow⟩, fence⟩, -⟩ := h
  refine ⟨tick, queued, written, fun j hj jt slot used same => ?_, fun j hj jt jf same => ?_⟩
  · rcases flow with zero | free
    · exact absurd zero used
    · have no := List.any_eq_false.1 free j hj
      simpa [jt, slot, same] using no
  · have no := List.any_eq_false.1 fence j hj
    simpa [jt, jf, same] using no

/-- The order of dispatch: the first part of the statement about it. -/
theorem Dev.dispatchOrder :
    (∀ i, d.bestItem = some i → i ∈ d.sett.items ∧ d.eligible i = true ∧
      ∀ j ∈ d.sett.items, d.eligible j = true → d.goesBefore j i = false ∧
        (i.restored = true → j.restored = true → i.seq ≤ j.seq) ∧
        (i.restored = false → j.restored = false ∧ j.prio ≤ i.prio ∧
          (j.prio = i.prio → j.front = 0 → i.front = 0 → d.deadlineKey i ≤ d.deadlineKey j))) ∧
    (d.bestItem = none ↔ ∀ j ∈ d.sett.items, d.eligible j = false) := by
  obtain ⟨first, none_⟩ := d.bestItem_first
  refine ⟨fun i hi => ?_, none_, fun no => ?_⟩
  · obtain ⟨mem, el, least⟩ := first i hi
    refine ⟨mem, el, fun j hj elj => ⟨least j hj elj, fun ri rj => ?_, fun ri => ?_⟩⟩
    · have not_before := least j hj elj
      simpa [Dev.goesBefore, ri, rj] using not_before
    · have not_before := least j hj elj
      cases rj : j.restored with
      | true => exact absurd not_before (by simp [Dev.goesBefore, ri, rj])
      | false =>
        have ranks : ¬d.rank j < d.rank i := by
          rw [← Dev.goesBefore_iff, not_before]
          decide
        simp only [Dev.rank, ri, rj, Bool.false_eq_true, ↓reduceIte, Prod.Lex.toLex_lt_toLex, lt_irrefl, true_and, false_or] at ranks
        refine ⟨rfl, by omega, fun prio fj fi => ?_⟩
        simp only [prio, fj, fi, ↓reduceIte, lt_irrefl, true_and, false_or] at ranks
        omega
  · cases best : d.bestItem with
    | none => rfl
    | some i =>
      obtain ⟨mem, el, -⟩ := first i best
      rw [no i mem] at el
      cases el

end

end Sys2Proof.Machine
end

section
/-! # Items that end (R262, R267, R274, R289) -/

namespace Sys2Proof.Machine

section
variable {d e f : Dev}

/-! ## Items by their slots -/

theorem Dev.item_congr (h : e.sett.items = d.sett.items) (k : Nat) : e.item k = d.item k := by rw [Dev.item, Dev.item, h]

theorem Dev.slot_of_item {k : Nat} {i : Item} (h : d.item k = some i) : i.slot = k := by simpa using List.find?_some h

theorem Dev.mem_of_item {k : Nat} {i : Item} (h : d.item k = some i) : i ∈ d.sett.items := List.mem_of_find?_eq_some h

theorem Dev.item_none_iff {k : Nat} : d.item k = none ↔ ∀ j ∈ d.sett.items, j.slot ≠ k := by simp [Dev.item, List.find?_eq_none]

/-- An item changed in its slot. -/
theorem Dev.item_modItem (d : Dev) (slot : Nat) {g : Item → Item} (stays : ∀ j, (g j).slot = j.slot) (k : Nat) :
    (d.modItem slot g).item k = (d.item k).map fun i => if i.slot = slot then g i else i := by
  have slots : ((fun i : Item => decide (i.slot = k)) ∘ fun i => if i.slot = slot then g i else i) = fun i : Item => decide (i.slot = k) := by
    funext i
    dsimp only [Function.comp]
    split
    · rw [stays]
    · rfl
  show (d.sett.items.map _).find? _ = _
  rw [List.find?_map, slots]
  rfl

theorem Dev.item_modItem_same {slot : Nat} {g : Item → Item} (stays : ∀ j, (g j).slot = j.slot) {i : Item} (there : d.item slot = some i) :
    (d.modItem slot g).item slot = some (g i) := by
  rw [d.item_modItem slot stays, there, Option.map_some, if_pos (Dev.slot_of_item there)]

theorem Dev.item_modItem_other {slot k : Nat} {g : Item → Item} (stays : ∀ j, (g j).slot = j.slot) (other : k ≠ slot) :
    (d.modItem slot g).item k = d.item k := by
  rw [d.item_modItem slot stays]
  cases there : d.item k with
  | none => rfl
  | some i => rw [Option.map_some, if_neg (by rw [Dev.slot_of_item there]; exact other)]

theorem Dev.keeps_setSett (d : Dev) (g : Sett → Sett) : d.Keeps (d.setSett g) [.sett] := d.keeps_sett _

theorem Dev.keeps_modItem (d : Dev) (slot : Nat) (g : Item → Item) : d.Keeps (d.modItem slot g) [.sett] := d.keeps_sett _

theorem Dev.keeps_memSet (d : Dev) (a : Nat) (b : Byte) : d.Keeps (d.memSet a b) [.mem] := by
  intro p hp
  cases p <;> first | rfl | exact absurd List.mem_cons_self hp

theorem Dev.keeps_syncRecord (d : Dev) (slot : Nat) : d.Keeps (d.syncRecord slot) [.mem] := by
  unfold Dev.syncRecord
  split
  · split
    · unfold Dev.when
      split
      · exact d.keeps_memWrite _ _
      · exact Dev.Keeps.refl _ _
    · exact Dev.Keeps.refl _ _
  · exact Dev.Keeps.refl _ _

theorem Dev.sett_syncRecord (d : Dev) (slot : Nat) : (d.syncRecord slot).sett = d.sett := d.keeps_syncRecord slot .sett (by decide)

/-! ## Codes of Sett -/

/-- The entries a code of Sett changes (R256, R289). -/
abbrev settCodeRegs : List Nat := Reg.R3800_LAST_CODE :: logRegs

/-! ## An item that ends -/

/-- The entries that ending items may change. -/
abbrev shedRegs : List Nat := [Reg.R3880_LATE_COMPLETIONS, Reg.R3802_JOURNAL_USED]

/-- Items have ended, and nothing else of Sett has changed but its journal and what a full park area told. -/
structure Dev.Sheds (d e : Dev) : Prop where
  keeps : d.Keeps e [.od, .mem, .sett]
  items : ∀ j ∈ e.sett.items, j ∈ d.sett.items
  harts : e.sett.harts = d.sett.harts
  head : e.sett.head = d.sett.head
  leaving : e.sett.leaving = d.sett.leaving
  regs : d.KeepsRegs e shedRegs

theorem Dev.Sheds.refl (d : Dev) : d.Sheds d := ⟨.refl _ _, fun _ h => h, rfl, rfl, rfl, fun _ _ => rfl⟩

theorem Dev.Sheds.trans (h : d.Sheds e) (g : e.Sheds f) : d.Sheds f where
  keeps := h.keeps.andThen g.keeps
  items j hj := h.items j (g.items j hj)
  harts := g.harts.trans h.harts
  head := g.head.trans h.head
  leaving := g.leaving.trans h.leaving
  regs k hk := (g.regs k hk).trans (h.regs k hk)

theorem Dev.Sheds.gone (h : d.Sheds e) {k : Nat} (none_ : d.item k = none) : e.item k = none :=
  Dev.item_none_iff.2 fun j hj => Dev.item_none_iff.1 none_ j (h.items j hj)

theorem Dev.Sheds.of_mem (keeps : d.Keeps e [.mem]) : d.Sheds e := by
  have sett : e.sett = d.sett := keeps .sett (by decide)
  have od : e.od = d.od := keeps .od (by decide)
  refine ⟨keeps.mono (by decide), ?_, ?_, ?_, ?_, fun k _ => Dev.reg_congr od k⟩
  all_goals rw [sett]
  exact fun _ h => h

theorem Dev.Sheds.set (h : d.Sheds e) {k : Nat} (own : k ∈ shedRegs) (v : Int) : d.Sheds (e.set k v) :=
  h.trans ⟨(Dev.keeps_set _ _ _).mono (by decide), fun _ h => h, rfl, rfl, rfl, fun j hj => Dev.reg_set_other _ _ (by rintro rfl; exact hj own)⟩

/-- Sett's own changes that end items and touch no hart. -/
theorem Dev.Sheds.setSett (h : d.Sheds e) (g : Sett → Sett) (items : ∀ j ∈ (g e.sett).items, j ∈ e.sett.items)
    (harts : (g e.sett).harts = e.sett.harts) (head : (g e.sett).head = e.sett.head) (leaving : (g e.sett).leaving = e.sett.leaving) :
    d.Sheds (e.setSett g) :=
  h.trans ⟨(e.keeps_setSett g).mono (by decide), items, harts, head, leaving, fun _ _ => rfl⟩

theorem Dev.freeRecords_sheds (h : d.Sheds e) : d.Sheds e.freeRecords := by
  unfold Dev.freeRecords
  extract_lets go x y
  have freed : d.Sheds x := each_holds (fun f : Dev => d.Sheds f) _ _ (fun r _ f hf => hf.trans (.of_mem (f.keeps_memSet _ _))) h
  have dropped : d.Sheds y := freed.setSett _ (fun _ h => h) rfl rfl rfl
  exact dropped.set (by decide) _

theorem Dev.recordDone_sheds (h : d.Sheds e) (q result : Nat) : d.Sheds (e.recordDone q result) := by
  unfold Dev.recordDone
  extract_lets x y
  have marked : d.Sheds x := (h.trans (.of_mem (e.keeps_memWrite _ _))).trans (.of_mem (Dev.keeps_memWrite _ _ _))
  have timed : d.Sheds y := marked.trans (.of_mem (Dev.keeps_memWrite _ _ _))
  clear_value y
  exact Dev.freeRecords_sheds (timed.setSett _ (fun _ h => h) rfl rfl rfl)

theorem Dev.endItem_sheds (h : d.Sheds e) (slot result : Nat) : d.Sheds (e.endItem slot result) := by
  unfold Dev.endItem
  split
  · exact h
  · next i there =>
    extract_lets x y
    have counted : d.Sheds x := by
      show d.Sheds (e.when _ _)
      unfold Dev.when
      split
      · exact h.set (by decide) _
      · exact h
    clear_value x
    have done : d.Sheds y := by
      show d.Sheds (match i.record with | some q => x.recordDone q result | none => x)
      split
      · exact Dev.recordDone_sheds counted _ _
      · exact counted
    clear_value y
    exact done.setSett _ (fun j hj => List.mem_of_mem_filter hj) rfl rfl rfl

theorem Dev.item_endItem (d : Dev) (slot result : Nat) : (d.endItem slot result).item slot = none := by
  unfold Dev.endItem
  split
  · next none_ => exact none_
  · extract_lets x y
    clear_value y
    refine Dev.item_none_iff.2 fun j hj => ?_
    have away := (List.mem_filter.1 hj).2
    simpa using away

theorem Dev.settleFences_sheds (h : d.Sheds e) : d.Sheds e.settleFences := by
  refine iterate_holds (fun f : Dev => d.Sheds f) _ _ (fun k _ f hf => ?_) h
  split
  · exact Dev.endItem_sheds hf _ _
  · exact hf

theorem Dev.completeItem_sheds (d : Dev) (slot result : Nat) : d.Sheds (d.completeItem slot result) :=
  Dev.settleFences_sheds (Dev.endItem_sheds (.refl d) slot result)

theorem Dev.item_completeItem (d : Dev) (slot result : Nat) : (d.completeItem slot result).item slot = none :=
  (Dev.settleFences_sheds (.refl _)).gone (d.item_endItem slot result)

/-- An item that Sett completes with a code: it is gone, the code raised. -/
structure Dev.EndsWith (d e : Dev) (slot code : Nat) : Prop where
  keeps : d.Keeps e (.mem :: .sett :: .plic :: logParts)
  gone : e.item slot = none
  items : ∀ j ∈ e.sett.items, j ∈ d.sett.items
  raised : e.LastRaised code Kind.other 0
  harts : e.sett.harts = d.sett.harts
  leaving : e.sett.leaving = d.sett.leaving
  regs : d.KeepsRegs e (shedRegs ++ settCodeRegs)

theorem Dev.completeCode_ends (d : Dev) (slot code : Nat) : d.EndsWith (d.completeCode slot code) slot code := by
  obtain ⟨r, hr⟩ : ∃ r, r = d.settCode code slot := ⟨_, rfl⟩
  have sheds : r.Sheds (d.completeCode slot code) := by rw [Dev.completeCode, ← hr]; exact r.completeItem_sheds _ _
  have keeps : d.Keeps r (.plic :: logParts) := by rw [hr]; exact d.keeps_settCode _ _
  have sett : r.sett = d.sett := keeps .sett (by decide)
  have raised : r.LastRaised code Kind.other 0 := by rw [hr]; exact d.lastRaised_settCode _ _
  refine ⟨(keeps.mono (by decide)).step sheds.keeps, ?_, fun j hj => sett ▸ sheds.items j hj, raised.of_keeps sheds.keeps,
    sheds.harts.trans (by rw [sett]), sheds.leaving.trans (by rw [sett]), fun k hk => ?_⟩
  · rw [Dev.completeCode, ← hr]
    exact r.item_completeItem _ _
  · rw [sheds.regs k fun h => hk (List.mem_append_left _ h), hr, d.reg_settCode _ _ (fun h => hk (List.mem_append_right _ (List.mem_cons_of_mem _ h)))
      (by rintro rfl; exact hk (List.mem_append_right _ List.mem_cons_self))]

/-! ## Items that pass to a hart -/

/-- An item placed on a hart. -/
def Item.placed (i : Item) (h : Nat) (p : Place) : Item :=
  { i with due := false, replays := if i.due then min 255 (i.replays + 1) else i.replays,
           replayed := i.replayed || i.due, place := p, hart := h, front := 0, restored := false }

theorem Dev.place_places {i : Item} (there : d.item i.slot = some i) (h : Nat) (p : Place) (made : e = d.place i.slot h p) :
    e.item i.slot = some (i.placed h p) ∧ (∀ k, k ≠ i.slot → e.item k = d.item k) ∧ d.Keeps e [.sett, .mem] ∧ e.sett.harts = d.sett.harts := by
  obtain ⟨g, hg⟩ : ∃ g : Item → Item, g = fun i =>
      let i := if i.due then { i with due := false, replays := min 255 (i.replays + 1), replayed := true } else i
      { i with place := p, hart := h, front := 0, restored := false } := ⟨_, rfl⟩
  have stays : ∀ j, (g j).slot = j.slot := fun j => by
    rw [hg]
    dsimp only
    split <;> rfl
  have own : g i = i.placed h p := by
    rw [hg]
    unfold Item.placed
    dsimp only
    split
    next due => simp [due]
    next due => simp [due]
  obtain ⟨m, hm⟩ : ∃ m, m = d.modItem i.slot g := ⟨_, rfl⟩
  have eq : e = m.syncRecord i.slot := by rw [made, hm, hg]; rfl
  have sett : e.sett = m.sett := by rw [eq, Dev.sett_syncRecord]
  have keepsM : d.Keeps m [.sett] := by rw [hm]; exact d.keeps_modItem _ _
  have keepsE : m.Keeps e [.mem] := by rw [eq]; exact m.keeps_syncRecord _
  refine ⟨?_, fun k other => ?_, (keepsM.mono (by decide)).step keepsE, ?_⟩
  · rw [Dev.item_congr (congrArg Sett.items sett), hm, Dev.item_modItem_same stays there, own]
  · rw [Dev.item_congr (congrArg Sett.items sett), hm, Dev.item_modItem_other stays other]
  · rw [sett, hm]
    rfl

/-- What a hart shows of itself after one change of it. -/
theorem Dev.hart_changed (d : Dev) (h : Nat) (f : Hart → Hart) : ∃ mark busy, (d.modHart h f).hart h = f { d.hart h with mark := mark, busy := busy } := by
  obtain ⟨mark, busy, reckoned⟩ := d.hart_reckon (h / 2) h
  exact ⟨mark, busy, by rw [Dev.hart_modHart, reckoned]⟩

/-- An item handed over: in service on the hart, whose ASK returns its token. -/
theorem Dev.handOver_serves {i : Item} (there : d.item i.slot = some i) (h : Nat) (made : e = d.handOver i.slot h) :
    e.item i.slot = some (i.placed h .service) ∧ (e.hart h).asked = none ∧ (e.hart h).answer = (i.placed h .service).token ∧
    (e.hart h).after = (d.hart h).after ∧ (∀ k, k ≠ i.slot → e.item k = d.item k) ∧ d.Keeps e [.sett, .mem] := by
  obtain ⟨x, hx⟩ : ∃ x, x = d.place i.slot h .service := ⟨_, rfl⟩
  obtain ⟨own, others, keepsX, harts⟩ := Dev.place_places there h .service hx
  obtain ⟨w, hw⟩ : ∃ w, w = x.noteWait (i.placed h .service) := ⟨_, rfl⟩
  have eq : e = w.modHart h fun x => { x with asked := none, answer := (i.placed h .service).token } := by
    rw [made, Dev.handOver, ← hx, own, hw]
  have noted : x.Keeps w [.sett] ∧ w.sett.items = x.sett.items ∧ w.sett.harts = x.sett.harts := by
    rw [hw]
    unfold Dev.noteWait Dev.when
    split
    · exact ⟨x.keeps_setSett _, rfl, rfl⟩
    · exact ⟨Dev.Keeps.refl _ _, rfl, rfl⟩
  obtain ⟨keepsW, items, harts'⟩ := noted
  obtain ⟨mark, busy, hart⟩ := w.hart_changed h fun x => { x with asked := none, answer := (i.placed h .service).token }
  have itemsE : e.sett.items = x.sett.items := by rw [eq, Dev.items_modHart, items]
  have keepsE : w.Keeps e [.sett] := by rw [eq]; exact w.keeps_modHart _ _
  have before : (w.hart h).after = (d.hart h).after := by
    rw [Dev.hart, harts', harts, ← Dev.hart]
  refine ⟨by rw [Dev.item_congr itemsE, own], ?_, ?_, ?_, fun k other => by rw [Dev.item_congr itemsE, others k other],
    (keepsX.step keepsW).step keepsE⟩
  · rw [eq, hart]
  · rw [eq, hart]
  · rw [eq, hart]
    exact before

end

end Sys2Proof.Machine
end

section
/-! # The harts that take items (R260, R265, R273, R276) -/

namespace Sys2Proof.Machine

section
variable {d e f : Dev}

/-! ## The item that is ready -/

/-- The item a hart would take: of a tick context the next released, of a background context the prefetched one and else the first. -/
def Dev.readyOf (d : Dev) (h : Nat) : Option Item := if h % 2 = 0 then d.nextTick else (d.prefetched h).or d.bestItem

/-- An item that was replayed too often to be delivered again (R276). -/
def Dev.Spent (d : Dev) (h : Nat) (i : Item) : Prop :=
  h % 2 = 1 ∧ d.prefetched h = none ∧ i.due = true ∧ d.nat Reg.R3802_REPLAY_MAX < i.replays + 1

theorem Dev.readyItem_fresh {i : Item} (best : d.bestItem = some i) (fresh : ¬(i.due = true ∧ d.nat Reg.R3802_REPLAY_MAX < i.replays + 1)) (n : Nat) :
    Dev.readyItem (n + 1) d = (some i, d) := by
  rw [Dev.readyItem, best]
  exact if_neg fresh

theorem Dev.readyItem_none (best : d.bestItem = none) (n : Nat) : Dev.readyItem (n + 1) d = (none, d) := by rw [Dev.readyItem, best]

theorem Dev.readyFor_takes {h : Nat} {i : Item} (takes : d.taking h = true) (ready : d.readyOf h = some i) (fresh : ¬d.Spent h i) :
    d.readyFor h = (some i, d) := by
  unfold Dev.readyFor
  unfold Dev.readyOf at ready
  rw [if_neg (by rw [takes]; decide)]
  split_ifs at ready ⊢ with even
  · rw [ready]
  · cases slot : d.prefetched h with
    | some j =>
      rw [slot, Option.some_or] at ready
      rw [Option.some.inj ready]
    | none =>
      rw [slot, Option.none_or] at ready
      exact Dev.readyItem_fresh ready (fun ⟨due, often⟩ => fresh ⟨by omega, slot, due, often⟩) _

theorem Dev.readyFor_none {h : Nat} (no : d.taking h = false ∨ d.readyOf h = none) : d.readyFor h = (none, d) := by
  unfold Dev.readyFor
  split_ifs with waits even
  · rfl
  · have ready := no.resolve_left (by simpa using waits)
    rw [Dev.readyOf, if_pos even] at ready
    rw [ready]
  · have ready := no.resolve_left (by simpa using waits)
    rw [Dev.readyOf, if_neg even, Option.or_eq_none_iff] at ready
    rw [ready.1]
    exact Dev.readyItem_none ready.2 _

/-! ## An item replayed too often -/

/-- A slot is empty, and the newest record of the log says that a replay was one too many. -/
structure Dev.Exhausted (d : Dev) (k : Nat) : Prop where
  gone : d.item k = none
  last : d.LastRaised Code.REPLAY_EXHAUSTED Kind.other 0

theorem Dev.completed_exhausted {slot k : Nat} (own : k = slot ∨ d.item k = none) : (d.completeCode slot Code.REPLAY_EXHAUSTED).Exhausted k := by
  have ends := d.completeCode_ends slot Code.REPLAY_EXHAUSTED
  refine ⟨?_, ends.raised⟩
  rcases own with rfl | gone
  · exact ends.gone
  · exact Dev.item_none_iff.2 fun j hj => Dev.item_none_iff.1 gone j (ends.items j hj)

/-- What the search for a ready item changes. -/
abbrev readyParts : List Part := .mem :: .sett :: .plic :: logParts

theorem Dev.readyItem_keeps (n : Nat) (d : Dev) : d.Keeps (Dev.readyItem n d).2 readyParts := by
  induction n generalizing d with
  | zero => exact Dev.Keeps.refl _ _
  | succ n ih =>
    unfold Dev.readyItem
    split
    · exact Dev.Keeps.refl _ _
    · split
      · exact (d.completeCode_ends _ _).keeps.andThen (ih _)
      · exact Dev.Keeps.refl _ _

theorem Dev.Exhausted.readyItem {k : Nat} (n : Nat) (h : d.Exhausted k) : (Dev.readyItem n d).2.Exhausted k := by
  induction n generalizing d with
  | zero => exact h
  | succ n ih =>
    unfold Dev.readyItem
    split
    · exact h
    · split
      · exact ih (Dev.completed_exhausted (.inr h.gone))
      · exact h

theorem Dev.readyItem_spent {i : Item} (best : d.bestItem = some i) (often : i.due = true ∧ d.nat Reg.R3802_REPLAY_MAX < i.replays + 1) (n : Nat) :
    (Dev.readyItem (n + 1) d).2.Exhausted i.slot := by
  have again : Dev.readyItem (n + 1) d = Dev.readyItem n (d.completeCode i.slot Code.REPLAY_EXHAUSTED) := by
    rw [Dev.readyItem, best]
    exact if_pos often
  rw [again]
  exact (Dev.completed_exhausted (.inl rfl)).readyItem n

theorem Dev.Exhausted.of_items {k : Nat} {l : List Part} (h : d.Exhausted k) (keeps : d.Keeps e l)
    (items : ∀ j ∈ e.sett.items, ∃ i ∈ d.sett.items, i.slot = j.slot) (out : Part.log ∉ l := by decide) : e.Exhausted k := by
  refine ⟨Dev.item_none_iff.2 fun j hj => ?_, h.last.of_keeps keeps out⟩
  obtain ⟨i, hi, slot⟩ := items j hj
  rw [← slot]
  exact Dev.item_none_iff.1 h.gone i hi

theorem Dev.handOver_keeps (d : Dev) (slot h : Nat) (made : e = d.handOver slot h) : d.Keeps e [.sett, .mem] ∧
    ∀ j ∈ e.sett.items, ∃ i ∈ d.sett.items, i.slot = j.slot := by
  obtain ⟨x, hx⟩ : ∃ x, x = d.place slot h .service := ⟨_, rfl⟩
  have placed : d.Keeps x [.sett, .mem] ∧ ∀ j ∈ x.sett.items, ∃ i ∈ d.sett.items, i.slot = j.slot := by
    obtain ⟨m, hm⟩ : ∃ m, m = d.modItem slot fun i =>
      let i := if i.due then { i with due := false, replays := min 255 (i.replays + 1), replayed := true } else i
      { i with place := .service, hart := h, front := 0, restored := false } := ⟨_, rfl⟩
    have eq : x = m.syncRecord slot := by rw [hx, hm]; rfl
    have keeps : d.Keeps m [.sett] := by rw [hm]; exact d.keeps_modItem _ _
    rw [eq]
    refine ⟨(keeps.mono (by decide)).step (m.keeps_syncRecord slot), fun j hj => ?_⟩
    rw [Dev.sett_syncRecord, hm] at hj
    obtain ⟨i, hi, rfl⟩ := List.mem_map.1 hj
    refine ⟨i, hi, ?_⟩
    split
    · dsimp only
      split <;> rfl
    · rfl
  rw [made, Dev.handOver, ← hx]
  split
  · exact placed
  · next i there =>
    obtain ⟨w, hw⟩ : ∃ w, w = x.noteWait i := ⟨_, rfl⟩
    have noted : x.Keeps w [.sett] ∧ w.sett.items = x.sett.items := by
      rw [hw]
      unfold Dev.noteWait Dev.when
      split
      · exact ⟨x.keeps_setSett _, rfl⟩
      · exact ⟨Dev.Keeps.refl _ _, rfl⟩
    rw [← hw]
    refine ⟨(placed.1.step noted.1).step (w.keeps_modHart _ _), fun j hj => placed.2 j ?_⟩
    rwa [Dev.items_modHart, noted.2] at hj

/-! ## A hart that asks -/

theorem Dev.bestItem_modHart (d : Dev) (h : Nat) (g : Hart → Hart) : (d.modHart h g).bestItem = d.bestItem := rfl

theorem Dev.readyOf_modHart (d : Dev) (h : Nat) (g : Hart → Hart) (k : Nat) : (d.modHart h g).readyOf k = d.readyOf k := rfl

theorem State.Live.passesIssuing {s : State} {h : Nat} (live : s.Live) (hh : h < 48) (issues : s.found.issuing h = true) :
    s.Passes fun d g => d.liveIf (decide (h < 48) && d.issuing h) g := fun g => by
  have lit : s.found.dark = false := live
  simp [Dev.liveIf, lit, hh, issues]

end

section
variable {s : State} {h : Nat} (live : s.Live) (hh : h < 48) {after : Nat}
include live

/-- A command of a hart that issues nothing. -/
theorem waiting_idle {i : Instr} {f : Dev → Dev} (waits : s.found.issuing h = false)
    (hi : exec i s = s.answer fun d => d.liveIf (decide (h < 48) && d.issuing h) f := by rfl) : Does i s fun b a => b.Keeps a [] := by
  have leaves : Leaves i s s.found :=
    .full (guard := fun d g => g (d.liveIf (decide (h < 48) && d.issuing h) f)) (l := []) id (fun g => by
      have lit : s.found.dark = false := live
      simp [Dev.liveIf, waits, lit]) rfl (Dev.Keeps.refl _ _) (hi := hi)
  exact leaves.unchanged

include hh

section
variable (issues : s.found.issuing h = true)
include issues

theorem ask_stale (serves : s.found.serving h ≠ none) : Does (.ask h after) s fun b a =>
    (a.hart h).answer = 0 ∧ (a.hart h).after = (b.hart h).after ∧ a.sett.items = b.sett.items ∧
    a.nat Reg.R3800_STALE_PORT = min (b.nat Reg.R3800_STALE_PORT + 1) 0xFFFFFFFF ∧ b.Keeps a [.sett, .od] := by
  obtain ⟨m, hm⟩ : ∃ m, m = s.found.modHart h fun x => { x with answer := 0 } := ⟨_, rfl⟩
  obtain ⟨e, made⟩ : ∃ e, e = m.count Reg.R3800_STALE_PORT := ⟨_, rfl⟩
  have result : s.found.ask h after = e := by
    unfold Dev.ask
    rw [if_pos (Option.isSome_iff_ne_none.2 serves), made, hm]
  have keepsM : s.found.Keeps m [.sett] := by rw [hm]; exact s.found.keeps_modHart _ _
  have keepsE : m.Keeps e [.od] := by rw [made]; exact Dev.keeps_set _ _ _
  have keeps : s.found.Keeps e [.sett, .od] := (keepsM.mono (by decide)).step keepsE
  have sett : e.sett = m.sett := keepsE .sett (by decide)
  obtain ⟨mark, busy, hart⟩ := s.found.hart_changed h fun x => { x with answer := 0 }
  have own : e.hart h = { s.found.hart h with mark := mark, busy := busy, answer := 0 } := by
    rw [Dev.hart, sett, ← Dev.hart, hm, hart]
  have items : e.sett.items = s.found.sett.items := by rw [sett, hm, Dev.items_modHart]
  have counted : e.nat Reg.R3800_STALE_PORT = min (s.found.nat Reg.R3800_STALE_PORT + 1) 0xFFFFFFFF := by
    rw [made, m.nat_count_same (by decide +kernel), Dev.nat, Dev.reg_congr (keepsM .od (by decide)), ← Dev.nat]
  have leaves : Leaves (.ask h after) s e :=
    .full (guard := fun d g => d.liveIf (decide (h < 48) && d.issuing h) g) (fun d => d.ask h after) (live.passesIssuing hh issues) result keeps
  exact leaves.quietly (keeps .event (by decide)) ⟨by rw [own], by rw [own], items, counted, keeps⟩

variable (free : s.found.serving h = none)
include free

omit live hh issues in
/-- What an ASK without an item in service does. -/
theorem ask_eq {m : Dev} (hm : m = s.found.modHart h fun x => { x with after := after }) : s.found.ask h after =
    match m.readyFor h with
    | (some i, d) => d.handOver i.slot h
    | (none, d) => d.modHart h fun x => { x with asked := some (x.asked.getD d.rawNow) } := by
  rw [hm, Dev.ask, free] <;> rfl

/-- The item is placed, and in service the ASK returns its token. -/
def Dev.Takes (b a : Dev) (h : Nat) (i : Item) (p : Place) : Prop :=
  a.item i.slot = some (i.placed h p) ∧ (p = .service → (a.hart h).asked = none ∧ (a.hart h).answer = (i.placed h p).token) ∧
    (∀ k, k ≠ i.slot → a.item k = b.item k) ∧ b.Keeps a [.sett, .mem]

theorem ask_takes {i : Item} (takes : s.found.taking h = true) (ready : s.found.readyOf h = some i) (there : s.found.item i.slot = some i)
    (fresh : ¬s.found.Spent h i) : Does (.ask h after) s fun b a => b.Takes a h i .service ∧ (a.hart h).after = after := by
  obtain ⟨m, hm⟩ : ∃ m, m = s.found.modHart h fun x => { x with after := after } := ⟨_, rfl⟩
  obtain ⟨e, made⟩ : ∃ e, e = m.handOver i.slot h := ⟨_, rfl⟩
  have readyM : m.readyFor h = (some i, m) := by
    refine Dev.readyFor_takes ?_ ?_ ?_
    · rw [hm]; exact takes
    · rw [hm, Dev.readyOf_modHart]; exact ready
    · rw [hm]; exact fresh
  have result : s.found.ask h after = e := by
    rw [ask_eq free hm, readyM]
    exact made.symm
  have keepsM : s.found.Keeps m [.sett] := by rw [hm]; exact s.found.keeps_modHart _ _
  have items : m.sett.items = s.found.sett.items := by rw [hm, Dev.items_modHart]
  obtain ⟨mark, busy, hart⟩ := s.found.hart_changed h fun x => { x with after := after }
  obtain ⟨own, asked, answer, on, others, keepsE⟩ := Dev.handOver_serves ((Dev.item_congr items _).trans there) h made
  have keeps : s.found.Keeps e [.sett, .mem] := (keepsM.mono (by decide)).andThen keepsE
  have goes : (e.hart h).after = after := by rw [on, hm, hart]
  have leaves : Leaves (.ask h after) s e :=
    .full (guard := fun d g => d.liveIf (decide (h < 48) && d.issuing h) g) (fun d => d.ask h after) (live.passesIssuing hh issues) result keeps
  exact leaves.quietly (keeps .event (by decide))
    ⟨⟨own, fun _ => ⟨asked, answer⟩, fun k other => (others k other).trans (Dev.item_congr items k), keeps⟩, goes⟩

theorem ask_exhausts {i : Item} (takes : s.found.taking h = true) (ready : s.found.readyOf h = some i) (spent : s.found.Spent h i) :
    Does (.ask h after) s fun _ a => a.item i.slot = none ∧ a.LastRaised Code.REPLAY_EXHAUSTED Kind.other 0 := by
  obtain ⟨odd, slot, often⟩ := spent
  obtain ⟨m, hm⟩ : ∃ m, m = s.found.modHart h fun x => { x with after := after } := ⟨_, rfl⟩
  obtain ⟨r, hr⟩ : ∃ r, r = Dev.readyItem (m.sett.items.length + 1) m := ⟨_, rfl⟩
  have best : m.bestItem = some i := by
    rw [Dev.readyOf, if_neg (by omega), slot, Option.none_or] at ready
    rw [hm, Dev.bestItem_modHart, ready]
  have exhausted : r.2.Exhausted i.slot := by
    rw [hr]
    refine Dev.readyItem_spent best ?_ _
    rw [hm]
    exact often
  have keepsR : m.Keeps r.2 readyParts := by rw [hr]; exact Dev.readyItem_keeps _ m
  have readyM : m.readyFor h = r := by
    have takesM : m.taking h = true := by rw [hm]; exact takes
    have slotM : m.prefetched h = none := by rw [hm]; exact slot
    rw [Dev.readyFor, if_neg (by rw [takesM]; decide), if_neg (by omega), slotM, hr]
  have keepsM : s.found.Keeps m [.sett] := by rw [hm]; exact s.found.keeps_modHart _ _
  obtain ⟨e, made⟩ : ∃ e, e = s.found.ask h after := ⟨_, rfl⟩
  have eq := made.trans (ask_eq free hm)
  rw [readyM] at eq
  have shows : r.2.Keeps e [.sett, .mem] ∧ e.Exhausted i.slot := by
    obtain ⟨o, x⟩ := r
    cases o with
    | some j =>
      obtain ⟨keeps, items⟩ := Dev.handOver_keeps x j.slot h eq
      exact ⟨keeps, exhausted.of_items keeps items⟩
    | none =>
      rw [eq]
      exact ⟨(x.keeps_modHart _ _).mono (by decide), exhausted.of_items (x.keeps_modHart _ _) fun j hj => ⟨j, hj, rfl⟩⟩
  have keeps : s.found.Keeps e readyParts := ((keepsM.mono (by decide)).andThen keepsR).step shows.1
  have leaves : Leaves (.ask h after) s e :=
    .full (guard := fun d g => d.liveIf (decide (h < 48) && d.issuing h) g) (fun d => d.ask h after) (live.passesIssuing hh issues) made.symm keeps
  exact leaves.does fun _ _ => ⟨shows.2.gone, shows.2.last⟩

theorem ask_blocks (no : s.found.taking h = false ∨ s.found.readyOf h = none) : Does (.ask h after) s fun b a =>
    (a.hart h).asked = some b.rawNow ∧ (a.hart h).after = after ∧ a.sett.items = b.sett.items ∧ b.Keeps a [.sett] := by
  obtain ⟨m, hm⟩ : ∃ m, m = s.found.modHart h fun x => { x with after := after } := ⟨_, rfl⟩
  obtain ⟨e, made⟩ : ∃ e, e = m.modHart h fun x => { x with asked := some (x.asked.getD m.rawNow) } := ⟨_, rfl⟩
  have readyM : m.readyFor h = (none, m) := by
    refine Dev.readyFor_none ?_
    rw [hm]
    exact no
  have result : s.found.ask h after = e := by
    rw [ask_eq free hm, readyM]
    exact made.symm
  have keepsM : s.found.Keeps m [.sett] := by rw [hm]; exact s.found.keeps_modHart _ _
  have keepsE : m.Keeps e [.sett] := by rw [made]; exact m.keeps_modHart _ _
  obtain ⟨mark, busy, hart⟩ := s.found.hart_changed h fun x => { x with after := after }
  obtain ⟨mark', busy', hart'⟩ := m.hart_changed h fun x => { x with asked := some (x.asked.getD m.rawNow) }
  have unasked : (s.found.hart h).asked = none := by
    have hart_issues := issues
    unfold Dev.issuing at hart_issues
    simp only [Bool.and_eq_true] at hart_issues
    exact Option.isNone_iff_eq_none.1 hart_issues.1.2
  have own : e.hart h = { s.found.hart h with mark := mark', busy := busy', after := after, asked := some s.found.rawNow } := by
    rw [made, hart', hm, hart]
    simp only [unasked, Option.getD_none]
    rfl
  have items : e.sett.items = s.found.sett.items := by rw [made, Dev.items_modHart, hm, Dev.items_modHart]
  have keeps : s.found.Keeps e [.sett] := keepsM.step keepsE
  have leaves : Leaves (.ask h after) s e :=
    .full (guard := fun d g => d.liveIf (decide (h < 48) && d.issuing h) g) (fun d => d.ask h after) (live.passesIssuing hh issues) result keeps
  exact leaves.quietly (keeps .event (by decide)) ⟨by rw [own], by rw [own], items, keeps⟩

end

/-! ## A blocked hart -/

theorem itemDispatch_takes {i : Item} (asked : (s.found.hart h).asked ≠ none) (takes : s.found.taking h = true) (ready : s.found.readyOf h = some i)
    (there : s.found.item i.slot = some i) (fresh : ¬s.found.Spent h i) : Does (.itemDispatch h) s fun b a => b.Takes a h i .service := by
  obtain ⟨e, made⟩ : ∃ e, e = s.found.handOver i.slot h := ⟨_, rfl⟩
  have blocked : (s.found.hart h).asked.isNone = false := by
    cases waits : (s.found.hart h).asked with
    | none => exact absurd waits asked
    | some t => rfl
  have result : s.found.itemDispatch h = e := by
    rw [Dev.itemDispatch, if_neg (by rw [blocked]; decide), Dev.readyFor_takes takes ready fresh]
    exact made.symm
  obtain ⟨own, none_, answer, -, others, keeps⟩ := Dev.handOver_serves there h made
  have leaves : Leaves (.itemDispatch h) s e :=
    .full (guard := fun d => d.liveIf (h < 48)) (fun d => d.itemDispatch h) (live.passesIf hh) result keeps
  exact leaves.quietly (keeps .event (by decide)) ⟨own, fun _ => ⟨none_, answer⟩, others, keeps⟩

theorem itemDispatch_idle (no : (s.found.hart h).asked = none ∨ s.found.taking h = false ∨ s.found.readyOf h = none) :
    Does (.itemDispatch h) s fun b a => b.Keeps a [] := by
  have result : s.found.itemDispatch h = s.found := by
    unfold Dev.itemDispatch
    split
    · rfl
    · next blocked =>
      have asks : ¬(s.found.hart h).asked = none := fun same => blocked (by rw [same]; rfl)
      rw [Dev.readyFor_none (no.resolve_left asks)]
  have leaves : Leaves (.itemDispatch h) s s.found :=
    .full (l := []) (guard := fun d => d.liveIf (h < 48)) (fun d => d.itemDispatch h) (live.passesIf hh) result (Dev.Keeps.refl _ _)
  exact leaves.unchanged

theorem prefetchPush_places {i : Item} (takes : s.found.taking h = true) (ready : s.found.readyOf h = some i) (there : s.found.item i.slot = some i)
    (fresh : ¬s.found.Spent h i) (odd : h % 2 = 1) (empty : s.found.prefetched h = none) (push : s.found.pushMode = true) :
    Does (.prefetchPush h) s fun b a => b.Takes a h i .prefetch := by
  obtain ⟨e, made⟩ : ∃ e, e = s.found.place i.slot h .prefetch := ⟨_, rfl⟩
  have best : s.found.bestItem = some i := by rwa [Dev.readyOf, if_neg (by omega), empty, Option.none_or] at ready
  have result : s.found.prefetchPush h = e := by
    rw [Dev.prefetchPush, if_pos (by simp [push, odd, takes, empty]),
      Dev.readyItem_fresh best (fun ⟨due, often⟩ => fresh ⟨odd, empty, due, often⟩)]
    exact made.symm
  obtain ⟨own, others, keeps, -⟩ := Dev.place_places there h .prefetch made
  have leaves : Leaves (.prefetchPush h) s e :=
    .full (guard := fun d => d.liveIf (h < 48)) (fun d => d.prefetchPush h) (live.passesIf hh) result keeps
  exact leaves.quietly (keeps .event (by decide)) ⟨own, fun no => (by cases no), others, keeps⟩

theorem prefetchPush_idle (no : s.found.pushMode = false ∨ h % 2 = 0 ∨ s.found.taking h = false ∨ s.found.prefetched h ≠ none) :
    Does (.prefetchPush h) s fun b a => b.Keeps a [] := by
  have result : s.found.prefetchPush h = s.found := by
    refine if_neg fun go => ?_
    simp only [Bool.and_eq_true, beq_iff_eq, Option.isNone_iff_eq_none] at go
    obtain ⟨⟨⟨push, odd⟩, takes⟩, empty⟩ := go
    rcases no with no | even | no | full
    · rw [push] at no; cases no
    · omega
    · rw [takes] at no; cases no
    · exact full empty
  have leaves : Leaves (.prefetchPush h) s s.found :=
    .full (l := []) (guard := fun d => d.liveIf (h < 48)) (fun d => d.prefetchPush h) (live.passesIf hh) result (Dev.Keeps.refl _ _)
  exact leaves.unchanged

theorem askTimeout_idle {irq : Bool} (result : s.found.askTimeout h irq = s.found) : Does (.askTimeout h irq) s fun b a => b.Keeps a [] := by
  have leaves : Leaves (.askTimeout h irq) s s.found :=
    .dry (l := []) (guard := fun d => d.liveIf (h < 48)) (fun d => d.askTimeout h irq) (live.passesIf hh) result (Dev.Keeps.refl _ _)
  exact leaves.unchanged

/-- The end of a blocked ASK, or its going on. -/
theorem askTimeout_ends {irq : Bool} {t : Nat} (asked : (s.found.hart h).asked = some t)
    (ends : irq = true ∨ (s.found.nat Reg.R3800_ASK_TIMEOUT_US ≠ 0 ∧ t + 1000 * s.found.nat Reg.R3800_ASK_TIMEOUT_US ≤ s.found.rawNow)) :
    Does (.askTimeout h irq) s fun b a => (a.hart h).asked = none ∧ (a.hart h).answer = 0 ∧ a.sett.items = b.sett.items ∧ b.Keeps a [.sett] := by
  obtain ⟨e, made⟩ : ∃ e, e = s.found.modHart h fun x => { x with asked := none, answer := 0 } := ⟨_, rfl⟩
  have result : s.found.askTimeout h irq = e := by
    rw [Dev.askTimeout, asked]
    dsimp only
    rw [if_pos (by simpa using ends), made]
  have keeps : s.found.Keeps e [.sett] := by rw [made]; exact s.found.keeps_modHart _ _
  obtain ⟨mark, busy, hart⟩ := s.found.hart_changed h fun x => { x with asked := none, answer := 0 }
  have leaves : Leaves (.askTimeout h irq) s e :=
    .dry (guard := fun d => d.liveIf (h < 48)) (fun d => d.askTimeout h irq) (live.passesIf hh) result keeps
  exact leaves.quietly (keeps .event (by decide)) ⟨by rw [made, hart], by rw [made, hart], by rw [made, Dev.items_modHart], keeps⟩

theorem askTimeout_waits {t : Nat} (asked : (s.found.hart h).asked = some t)
    (early : s.found.nat Reg.R3800_ASK_TIMEOUT_US = 0 ∨ s.found.rawNow < t + 1000 * s.found.nat Reg.R3800_ASK_TIMEOUT_US) :
    Does (.askTimeout h false) s fun b a => b.Keeps a [] := by
  refine askTimeout_idle live hh ?_
  rw [Dev.askTimeout, asked]
  dsimp only
  refine if_neg fun go => ?_
  simp only [Bool.false_or, Bool.and_eq_true, bne_iff_ne, decide_eq_true_eq] at go
  rcases early with zero | early
  · exact go.1 zero
  · exact absurd go.2 (Nat.not_le.2 early)

end

/-- Settles O35: the order of dispatch is a strict one and its first item is taken; a hart without a ready item blocks in its ASK. -/
theorem dispatchAndHarts : Obligations.DispatchAndHarts := by
  unfold Obligations.DispatchAndHarts
  refine ⟨fun d => ⟨d.dispatchOrder.1, d.dispatchOrder.2, fun i el => d.eligible_waits el⟩, ?_⟩
  intro s h after live hh d ready spent takes
  refine ⟨fun waits => waiting_idle live waits, fun issues serves => ask_stale live hh issues serves,
    fun i taking is_ready there fresh => ⟨fun issues free => ask_takes live hh issues free taking is_ready there fresh,
      fun asked => itemDispatch_takes live hh asked taking is_ready there fresh,
      fun odd empty push => prefetchPush_places live hh taking is_ready there fresh odd empty push⟩,
    fun i taking is_ready there often issues free => ask_exhausts live hh issues free taking is_ready often,
    fun no issues free => ask_blocks live hh issues free no, itemDispatch_idle live hh, prefetchPush_idle live hh, fun irq unasked => ?_,
    fun irq t asked => ⟨askTimeout_ends live hh asked, fun off early => ?_⟩⟩
  · refine askTimeout_idle live hh ?_
    rw [Dev.askTimeout, unasked]
  · subst off
    exact askTimeout_waits live hh asked early

end Sys2Proof.Machine
end

section
/-! # Aborted, replayed and requeued items (R271, R275, R280) -/

namespace Sys2Proof.Machine

/-! ## The trap of an aborted item -/

/-- The hart has trapped to M mode for an aborted item: its token and the reason stand there (R271). -/
structure Hart.Aborted (x : Hart) (c : HartContext) (i : Item) (reason : Nat) : Prop where
  mcause : x.mcause = 2 ^ 63 + 24
  mepc : x.mepc = c.pc
  mtval : x.mtval = i.token
  abort : x.abort = reason
  priv : x.ctx.priv = 3
  pc : x.ctx.pc = vectorOf c.csr.mtvec (2 ^ 63 + 24)

/-- The trap and its reason. -/
def Dev.abortedOn (d : Dev) (h : Nat) (i : Item) (c : HartContext) (reason : Nat) : Dev :=
  (d.abortTrap h i.token c).modHart h fun x => { x with abort := reason }

section
variable {d e f : Dev}

theorem Dev.abortedOn_traps (d : Dev) (h : Nat) (i : Item) (c : HartContext) (reason : Nat) : ((d.abortedOn h i c reason).hart h).Aborted c i reason := by
  obtain ⟨cause, hc⟩ : ∃ cause : Nat, cause = 2 ^ 63 + 24 := ⟨_, rfl⟩
  obtain ⟨t, ht⟩ : ∃ t, t = d.abortTrap h i.token c := ⟨_, rfl⟩
  have eq : d.abortedOn h i c reason = t.modHart h fun x => { x with abort := reason } := by rw [ht]; rfl
  obtain ⟨mark, busy, own⟩ := t.hart_changed h fun x => { x with abort := reason }
  have shows : (t.hart h).mcause = cause ∧ (t.hart h).mepc = c.pc ∧ (t.hart h).mtval = i.token ∧ (t.hart h).ctx.priv = 3 ∧
      (t.hart h).ctx.pc = vectorOf c.csr.mtvec cause := by
    rw [ht, Dev.abortTrap, ← hc, Dev.trapM, Dev.hart_modHart]
    exact ⟨rfl, rfl, rfl, rfl, rfl⟩
  obtain ⟨mcause, mepc, mtval, priv, pc⟩ := shows
  rw [eq, own]
  exact ⟨mcause.trans hc, mepc, mtval, rfl, priv, by rw [← hc]; exact pc⟩

theorem Dev.keeps_abortedOn (d : Dev) (h : Nat) (i : Item) (c : HartContext) (reason : Nat) : d.Keeps (d.abortedOn h i c reason) [.sett] :=
  (d.keeps_modHart _ _).step (Dev.keeps_modHart _ _ _)

theorem Dev.items_abortedOn (d : Dev) (h : Nat) (i : Item) (c : HartContext) (reason : Nat) : (d.abortedOn h i c reason).sett.items = d.sett.items := by
  rw [Dev.abortedOn, Dev.items_modHart, Dev.abortTrap, Dev.trapM, Dev.items_modHart]

theorem Dev.head_abortedOn (d : Dev) (h : Nat) (i : Item) (c : HartContext) (reason : Nat) : (d.abortedOn h i c reason).sett.head = d.sett.head := rfl

/-! ## A tick-class item aborted -/

/-- The item is gone, its miss counted, shown and logged (R271). -/
structure Dev.Missed (b a : Dev) (i : Item) (reason : Nat) : Prop where
  gone : a.item i.slot = none
  raised : a.LastRaised Code.DEADLINE_MISS Kind.other 0
  shown : a.reg Reg.R3803_LAST_REASON = reason
  counted : a.nat Reg.R3803_MISSES = min (b.nat Reg.R3803_MISSES + 1) 0xFFFFFFFF

theorem missRegs_apart : odType Reg.R3803_MISSES = .u32 ∧ Reg.R3803_MISSES ∉ shedRegs ∧ Reg.R3803_LAST_REASON ∉ shedRegs ∧
    Reg.R3803_MISSES ∉ logRegs ∧ Reg.R3803_MISSES ≠ Reg.R3800_LAST_CODE ∧ odType Reg.R3803_LAST_REASON = .u8 := by decide +kernel

theorem Dev.abortTick_misses (d : Dev) {i : Item} (held : i.place = .service) {reason : Nat} (small : reason < 256) (other : reason ≠ 2) (c : HartContext)
    (made : e = d.abortTick i reason (some c)) :
    d.Missed e i reason ∧ (e.hart i.hart).Aborted c i reason ∧ d.Keeps e (.mem :: .sett :: .plic :: logParts) := by
  obtain ⟨countType, missShed, reasonShed, missLog, missCode, reasonType⟩ := missRegs_apart
  unfold Dev.abortTick at made
  extract_lets serves x y z w at made
  have holds : serves = true := by simp [serves, held, other]
  have keepsX : d.Keeps x (.plic :: logParts) := (d.keeps_settCode _ _).set _ _
  have lastX : x.LastRaised Code.DEADLINE_MISS Kind.other 0 := (d.lastRaised_settCode Code.DEADLINE_MISS i.slot).of_keeps (Dev.keeps_set _ _ _)
  have countX : x.nat Reg.R3803_MISSES = min (d.nat Reg.R3803_MISSES + 1) 0xFFFFFFFF := by
    show ((d.settCode Code.DEADLINE_MISS i.slot).count Reg.R3803_MISSES).nat Reg.R3803_MISSES = _
    rw [Dev.nat_count_same _ countType, Dev.nat, d.reg_settCode _ _ missLog missCode, ← Dev.nat]
  clear_value x
  have keepsY : x.Keeps y [.od] := (((Dev.Keeps.refl _ _).set _ _).set _ _).set _ _
  have reasonY : y.reg Reg.R3803_LAST_REASON = reason := by
    show ((_ : Dev).set Reg.R3803_LAST_REASON reason).reg _ = _
    rw [Dev.reg_set_same, reasonType]
    show (reason : Int) % 256 = reason
    omega
  have countY : y.nat Reg.R3803_MISSES = x.nat Reg.R3803_MISSES := by
    refine congrArg Int.toNat ?_
    show (((x.set _ _).set _ _).set _ _).reg _ = _
    rw [Dev.reg_set_other _ _ (by decide), Dev.reg_set_other _ _ (by decide), Dev.reg_set_other _ _ (by decide)]
  clear_value y
  have keepsZ : y.Keeps z [.od] := ((Dev.Keeps.refl _ _).set _ _).set _ _
  have regZ : ∀ k, k ≠ Reg.R3803_LAST_ENTRY → k ≠ Reg.R3803_LAST_HART → z.reg k = y.reg k := fun k a b => by
    show ((y.set _ _).set _ _).reg _ = _
    rw [Dev.reg_set_other _ _ b, Dev.reg_set_other _ _ a]
  clear_value z
  have trapped : w = z.abortedOn i.hart i c reason := by
    show (match (some c : Option HartContext) with | some c => if serves = true then _ else _ | none => z) = _
    exact if_pos holds
  clear_value w
  have keepsW : z.Keeps w [.sett] := by rw [trapped]; exact z.keeps_abortedOn _ _ _ _
  have aborted : (w.hart i.hart).Aborted c i reason := by rw [trapped]; exact z.abortedOn_traps _ _ _ _
  have sheds : w.Sheds e := by rw [made]; exact Dev.endItem_sheds (.refl w) _ _
  have hart : e.hart i.hart = w.hart i.hart := by rw [Dev.hart, Dev.hart, sheds.harts]
  have regs : ∀ k, k ∉ shedRegs → k ≠ Reg.R3803_LAST_ENTRY → k ≠ Reg.R3803_LAST_HART → e.reg k = y.reg k := fun k out a b => by
    rw [sheds.regs k out, Dev.reg_congr (keepsW .od (by decide)), regZ k a b]
  have gone : e.item i.slot = none := by rw [made]; exact w.item_endItem _ _
  have counted : e.nat Reg.R3803_MISSES = min (d.nat Reg.R3803_MISSES + 1) 0xFFFFFFFF := by
    rw [Dev.nat, regs _ missShed (by decide) (by decide), ← Dev.nat, countY, countX]
  refine ⟨⟨gone, (((lastX.of_keeps keepsY).of_keeps keepsZ).of_keeps keepsW).of_keeps sheds.keeps, ?_, counted⟩, by rw [hart]; exact aborted, ?_⟩
  · rw [regs _ reasonShed (by decide) (by decide), reasonY]
  · exact ((((keepsX.mono (by decide)).step keepsY).step keepsZ).step keepsW).step sheds.keeps

/-! ## An item requeued at the head of its priority -/

theorem Dev.toHead_spec (d : Dev) (slot : Nat) {g : Item → Item} (stays : ∀ j, (g j).slot = j.slot) (made : e = d.toHead slot g) :
    (∀ i, d.item slot = some i → e.item slot = some (g { i with place := .queued, front := d.sett.head + 1 })) ∧
    (∀ k, k ≠ slot → e.item k = d.item k) ∧ e.sett.harts = d.sett.harts ∧ e.sett.leaving = d.sett.leaving ∧ d.Keeps e [.sett, .mem] ∧
    ((∀ j, (g j).place = j.place) → ∀ h, d.prefetched h = none → e.prefetched h = none) := by
  obtain ⟨x, hx⟩ : ∃ x, x = d.setSett fun s => { s with head := d.sett.head + 1 } := ⟨_, rfl⟩
  obtain ⟨u, hu⟩ : ∃ u : Item → Item, u = fun i => g { i with place := .queued, front := d.sett.head + 1 } := ⟨_, rfl⟩
  obtain ⟨m, hm⟩ : ∃ m, m = x.modItem slot u := ⟨_, rfl⟩
  have eq : e = m.syncRecord slot := by rw [made, hm, hx, hu]; rfl
  have staysU : ∀ j, (u j).slot = j.slot := fun j => by rw [hu]; exact stays _
  have sett : e.sett = m.sett := by rw [eq, Dev.sett_syncRecord]
  have itemsX : x.sett.items = d.sett.items := by rw [hx]; rfl
  have keepsX : d.Keeps x [.sett] := by rw [hx]; exact d.keeps_setSett _
  have keepsM : x.Keeps m [.sett] := by rw [hm]; exact x.keeps_modItem _ _
  have keepsE : m.Keeps e [.mem] := by rw [eq]; exact m.keeps_syncRecord _
  refine ⟨fun i there => ?_, fun k other => ?_, by rw [sett, hm, hx]; rfl, by rw [sett, hm, hx]; rfl, ((keepsX.step keepsM).mono (by decide)).step keepsE,
    fun places h none_ => ?_⟩
  · rw [Dev.item_congr (congrArg Sett.items sett), hm, Dev.item_modItem_same staysU ((Dev.item_congr itemsX _).trans there), hu]
  · rw [Dev.item_congr (congrArg Sett.items sett), hm, Dev.item_modItem_other staysU other, Dev.item_congr itemsX]
  · have empty : ∀ j ∈ d.sett.items, ¬(j.place = .prefetch && decide (j.hart = h)) = true := fun j hj => by
      have no := List.find?_eq_none.1 none_ j hj
      simpa using no
    refine List.find?_eq_none.2 fun j hj => ?_
    rw [sett, hm] at hj
    obtain ⟨i, hi, rfl⟩ := List.mem_map.1 hj
    rw [itemsX] at hi
    split
    · have queued : (u i).place = .queued := by rw [hu]; exact places _
      simp [queued]
    · simpa using empty i hi

/-! ## A replay, or a loss -/

/-- A journaled item goes back to the head of its priority to be replayed; any other is lost (R275). -/
structure Dev.Again (b a : Dev) (i : Item) : Prop where
  replayed : i.record ≠ none →
    a.item i.slot = some { i with place := .queued, front := b.sett.head + 1, due := true, resumed := false, frame := none } ∧
    a.nat Reg.R3802_REPLAYED = min (b.nat Reg.R3802_REPLAYED + 1) 0xFFFFFFFF ∧ a.LastRaised Code.ITEM_REPLAYED Kind.other 0
  lost : i.record = none →
    a.item i.slot = none ∧ a.nat Reg.R3802_LOST = min (b.nat Reg.R3802_LOST + 1) 0xFFFFFFFF ∧ a.LastRaised Code.ITEM_LOST Kind.other 0

theorem replayRegs : odType Reg.R3802_REPLAYED = .u32 ∧ odType Reg.R3802_LOST = .u32 ∧ Reg.R3802_REPLAYED ∉ logRegs ∧
    Reg.R3802_REPLAYED ≠ Reg.R3800_LAST_CODE ∧ Reg.R3802_LOST ∉ shedRegs ++ settCodeRegs := by decide +kernel

theorem Dev.Again.of_before {b' b a : Dev} {i : Item} (h : b.Again a i) (head : b.sett.head = b'.sett.head) (od : b.od = b'.od) : b'.Again a i := by
  have nats : ∀ k, b.nat k = b'.nat k := fun k => congrArg Int.toNat (Dev.reg_congr od k)
  refine ⟨fun journaled => ?_, fun plain => ?_⟩
  · obtain ⟨item, count, last⟩ := h.replayed journaled
    exact ⟨by rw [item, head], by rw [count, nats], last⟩
  · obtain ⟨item, count, last⟩ := h.lost plain
    exact ⟨item, by rw [count, nats], last⟩

theorem Dev.Again.of_after {b a a' : Dev} {i : Item} {l : List Part} (h : b.Again a i) (items : a'.sett.items = a.sett.items)
    (regs : ∀ k, k = Reg.R3802_REPLAYED ∨ k = Reg.R3802_LOST → a'.reg k = a.reg k) (keeps : a.Keeps a' l) (out : Part.log ∉ l := by decide) :
    b.Again a' i := by
  refine ⟨fun journaled => ?_, fun plain => ?_⟩
  · obtain ⟨item, count, last⟩ := h.replayed journaled
    exact ⟨by rw [Dev.item_congr items, item], by rw [Dev.nat, regs _ (.inl rfl), ← Dev.nat, count], last.of_keeps keeps out⟩
  · obtain ⟨item, count, last⟩ := h.lost plain
    exact ⟨by rw [Dev.item_congr items, item], by rw [Dev.nat, regs _ (.inr rfl), ← Dev.nat, count], last.of_keeps keeps out⟩

theorem Dev.replayItem_again {i : Item} (there : d.item i.slot = some i) (made : e = d.replayItem i) :
    d.Again e i ∧ d.Keeps e (.mem :: .sett :: .plic :: logParts) ∧ e.sett.harts = d.sett.harts ∧ e.sett.leaving = d.sett.leaving ∧
    ∀ h, d.prefetched h = none → e.prefetched h = none := by
  obtain ⟨replayType, lostType, replayLog, replayCode, lostOut⟩ := replayRegs
  unfold Dev.replayItem at made
  split at made
  next journaled =>
    extract_lets x y at made
    have keepsX : d.Keeps x (.plic :: logParts) := (d.keeps_settCode _ _).set _ _
    have lastX : x.LastRaised Code.ITEM_REPLAYED Kind.other 0 := (d.lastRaised_settCode Code.ITEM_REPLAYED i.slot).of_keeps (Dev.keeps_set _ _ _)
    have countX : x.nat Reg.R3802_REPLAYED = min (d.nat Reg.R3802_REPLAYED + 1) 0xFFFFFFFF := by
      show ((d.settCode Code.ITEM_REPLAYED i.slot).count Reg.R3802_REPLAYED).nat Reg.R3802_REPLAYED = _
      rw [Dev.nat_count_same _ replayType, Dev.nat, d.reg_settCode _ _ replayLog replayCode, ← Dev.nat]
    have settX : x.sett = d.sett := keepsX .sett (by decide)
    clear_value x
    have keepsY : x.Keeps y [.sett] := x.keeps_setSett _
    have itemsY : y.sett.items = d.sett.items := by rw [← settX]; rfl
    have headY : y.sett.head = d.sett.head := by rw [← settX]; rfl
    have hartsY : y.sett.harts = d.sett.harts := by rw [← settX]; rfl
    have leavingY : y.sett.leaving = d.sett.leaving := by rw [← settX]; rfl
    clear_value y
    obtain ⟨own, -, harts, leaving, keepsE, stay⟩ := Dev.toHead_spec y i.slot (g := fun i => { i with due := true, resumed := false, frame := none }) (fun _ => rfl) made
    have item := own i ((Dev.item_congr itemsY _).trans there)
    have od : e.od = x.od := (keepsE .od (by decide)).trans (keepsY .od (by decide))
    refine ⟨⟨fun _ => ⟨by rw [item, headY], ?_, (lastX.of_keeps keepsY).of_keeps keepsE⟩, fun no => ?_⟩,
      ((keepsX.mono (by decide)).step keepsY).step keepsE, harts.trans hartsY, leaving.trans leavingY, fun h none_ => stay (fun _ => rfl) h ?_⟩
    · rw [Dev.nat, Dev.reg_congr od, ← Dev.nat, countX]
    · rw [no] at journaled
      cases journaled
    · rw [Dev.prefetched, itemsY, ← Dev.prefetched]
      exact none_
  next journaled =>
    obtain ⟨x, hx⟩ : ∃ x, x = d.count Reg.R3802_LOST := ⟨_, rfl⟩
    rw [← hx] at made
    have keepsX : d.Keeps x [.od] := by rw [hx]; exact Dev.keeps_set _ _ _
    have settX : x.sett = d.sett := keepsX .sett (by decide)
    have countX : x.nat Reg.R3802_LOST = min (d.nat Reg.R3802_LOST + 1) 0xFFFFFFFF := by rw [hx]; exact d.nat_count_same lostType
    have ends : x.EndsWith e i.slot Code.ITEM_LOST := by rw [made]; exact x.completeCode_ends _ _
    refine ⟨⟨fun yes => absurd (Option.isSome_iff_ne_none.2 yes) journaled, fun _ => ⟨ends.gone, ?_, ends.raised⟩⟩,
      (keepsX.mono (by decide)).andThen ends.keeps, ends.harts.trans (by rw [settX]), ends.leaving.trans (by rw [settX]), fun h none_ => ?_⟩
    · rw [Dev.nat, ends.regs _ lostOut, ← Dev.nat, countX]
    · refine List.find?_eq_none.2 fun j hj => ?_
      have old := ends.items j hj
      rw [settX] at old
      exact List.find?_eq_none.1 none_ j old

end

end Sys2Proof.Machine
end

section
/-! # Page faults and parking (R271, R279 to R281, R287) -/

namespace Sys2Proof.Machine

/-- The hart has taken the exception of the context, in the mode that medeleg names. -/
def Hart.Faulted (x : Hart) (c : HartContext) : Prop :=
  (c.priv ≤ 1 ∧ c.csr.medeleg.testBit c.cause = true →
    x.scause = c.cause ∧ x.sepc = c.pc ∧ x.stval = c.va ∧ x.ctx.priv = 1 ∧ x.ctx.pc = vectorOf c.csr.stvec c.cause) ∧
  (¬(c.priv ≤ 1 ∧ c.csr.medeleg.testBit c.cause = true) →
    x.mcause = c.cause ∧ x.mepc = c.pc ∧ x.mtval = c.va ∧ x.ctx.priv = 3 ∧ x.ctx.pc = vectorOf c.csr.mtvec c.cause)

section
variable {d e f : Dev}

theorem Dev.trap_faults (d : Dev) {h : Nat} {c : HartContext} (exception : c.cause < 2 ^ 63) (made : e = d.trap h c.cause c.va c) :
    (e.hart h).Faulted c ∧ e.sett.items = d.sett.items ∧ d.Keeps e [.sett] := by
  obtain ⟨toS, toM, -, items⟩ := d.trap_traps exception c.va c (h := h)
  rw [← made] at toS toM items
  refine ⟨⟨fun s => ?_, fun m => ?_⟩, items, by rw [made]; exact d.keeps_trap _ _ _ _⟩
  · obtain ⟨cause, pc, tval, priv, vec, -⟩ := toS s
    exact ⟨cause, pc, tval, priv, vec⟩
  · obtain ⟨cause, pc, tval, priv, vec, -⟩ := toM m
    exact ⟨cause, pc, tval, priv, vec⟩

theorem Dev.fullEp_trap (d : Dev) (h cause tval : Nat) (c : HartContext) : (d.trap h cause tval c).sett.fullEp = d.sett.fullEp := by
  unfold Dev.trap
  extract_lets deleg
  split
  · rfl
  · rfl

theorem Dev.serving_spec {h : Nat} {i : Item} (serves : d.serving h = some i) : i.place = .service ∧ i.hart = h := by
  have found := List.find?_some serves
  simpa using found

/-- A context back after its ASK, in a park frame. -/
theorem length_parkFrame (c : HartContext) : (parkFrame c).length = 576 := by
  simp [parkFrame, slice]

/-! ## The parts of a parked item -/

/-- What of an item stands in its frame and in Sett. -/
def Item.parkedAt (i : Item) (c : HartContext) (f : Nat) : Item :=
  { i with place := .parked, parks := i.parks + 1, frame := some f, vpn := c.va / 4096 % 2 ^ 27,
           asid := c.satp / 2 ^ 44 % 2 ^ 16, resumed := false }

theorem parkRegs : odType Reg.R3801_PARKS = .u32 ∧ Reg.R3801_PARKS ∉ logRegs ∧ Reg.R3801_PARKS ≠ Reg.R3800_LAST_CODE ∧
    Reg.R3801_MAP_FUNC ∉ logRegs ∧ Reg.R3801_MAP_FUNC ≠ Reg.R3800_LAST_CODE ∧ Reg.R3801_MAP_FUNC ≠ Reg.R3801_PARKS := by decide +kernel

/-- An item parked, where no mapper is asked and no record kept. -/
theorem Dev.park_parks (d : Dev) {i : Item} (there : d.item i.slot = some i) (c : HartContext) (f : Nat) (func : d.nat Reg.R3801_MAP_FUNC = 0)
    (plain : i.record = none) (made : e = d.park i c f) :
    e.item i.slot = some (i.parkedAt c f) ∧ e.memRead (frameAt f) 576 = parkFrame c ∧
    (∀ x, (x < frameAt f ∨ frameAt f + 576 ≤ x) → e.memAt x = d.memAt x) ∧ (e.hart i.hart).answer = 0 ∧
    (e.hart i.hart).ctx = { c with pc := (d.hart i.hart).after } ∧ e.nat Reg.R3801_PARKS = min (d.nat Reg.R3801_PARKS + 1) 0xFFFFFFFF ∧
    e.LastRaised Code.RETRY_AFTER_MAP Kind.other 0 ∧ d.Keeps e (.health :: .mem :: .sett :: .plic :: logParts) := by
  obtain ⟨parksType, parksLog, parksCode, funcLog, funcCode, funcParks⟩ := parkRegs
  obtain ⟨place, hplace⟩ : ∃ place : Item → Item, place = fun j => j.parkedAt c f := ⟨_, rfl⟩
  have stays : ∀ j, (place j).slot = j.slot := fun j => by rw [hplace]; rfl
  unfold Dev.park at made
  extract_lets asid w p r h t mf at made
  obtain ⟨u, hu⟩ : ∃ u, u = d.unpoison (frameAt f) 576 := ⟨_, rfl⟩
  have keepsU : d.Keeps u [.health] := by rw [hu]; exact d.keeps_health _
  have eqW : w = u.memWrite (frameAt f) (parkFrame c) := by rw [hu]
  have eqP : p = w.modItem i.slot place := by rw [hplace]; rfl
  have eqR : r = (p.syncRecord i.slot).count Reg.R3801_PARKS := rfl
  have eqH : h = r.modHart i.hart fun x => { x with ctx := { c with pc := x.after }, answer := 0 } := rfl
  have eqT : t = h.settCode Code.RETRY_AFTER_MAP i.slot := rfl
  have eqF : mf = t.nat Reg.R3801_MAP_FUNC := rfl
  clear_value mf t h r p w
  have keepsW : u.Keeps w [.mem] := by rw [eqW]; exact u.keeps_memWrite _ _
  have settW : w.sett = d.sett := (keepsW .sett (by decide)).trans (keepsU .sett (by decide))
  have keepsP : w.Keeps p [.sett] := by rw [eqP]; exact w.keeps_modItem _ _
  have itemP : p.item i.slot = some (i.parkedAt c f) := by
    rw [eqP, Dev.item_modItem_same stays ((Dev.item_congr (congrArg Sett.items settW) _).trans there), hplace]
  have sync : p.syncRecord i.slot = p := by
    have bare : (i.parkedAt c f).record = none := plain
    rw [Dev.syncRecord, itemP]
    dsimp only
    rw [bare]
  rw [sync] at eqR
  have keepsR : p.Keeps r [.od] := by rw [eqR]; exact Dev.keeps_set _ _ _
  have keepsH : r.Keeps h [.sett] := by rw [eqH]; exact r.keeps_modHart _ _
  have keepsT : h.Keeps t (.plic :: logParts) := by rw [eqT]; exact h.keeps_settCode _ _
  have odP : p.od = d.od := ((keepsP .od (by decide)).trans (keepsW .od (by decide))).trans (keepsU .od (by decide))
  have countR : r.nat Reg.R3801_PARKS = min (d.nat Reg.R3801_PARKS + 1) 0xFFFFFFFF := by
    rw [eqR, p.nat_count_same parksType, Dev.nat, Dev.reg_congr odP, ← Dev.nat]
  have regH : ∀ k, h.reg k = r.reg k := Dev.reg_congr (keepsH .od (by decide))
  have zero : mf = 0 := by
    rw [eqF, eqT, Dev.nat, h.reg_settCode _ _ funcLog funcCode, regH, eqR, Dev.count, Dev.reg_set_other _ _ funcParks, Dev.reg_congr odP, ← Dev.nat, func]
  have eq : e = t := by
    rw [made, zero]
    rfl
  have memE : e.mem = w.mem := by
    rw [eq]
    exact (((keepsT .mem (by decide)).trans (keepsH .mem (by decide))).trans (keepsR .mem (by decide))).trans (keepsP .mem (by decide))
  have settE : e.sett = h.sett := by rw [eq]; exact keepsT .sett (by decide)
  have settR : r.sett = p.sett := keepsR .sett (by decide)
  obtain ⟨mark, busy, hart⟩ := r.hart_changed i.hart fun x => { x with ctx := { c with pc := x.after }, answer := 0 }
  have hartR : (r.hart i.hart).after = (d.hart i.hart).after := by
    have harts : r.sett.harts = d.sett.harts := by rw [settR, eqP, ← settW]; rfl
    rw [Dev.hart, harts, ← Dev.hart]
  have hartE : e.hart i.hart = h.hart i.hart := by rw [Dev.hart, Dev.hart, settE]
  have itemE : e.item i.slot = some (i.parkedAt c f) := by
    rw [Dev.item_congr (congrArg Sett.items settE), eqH, Dev.item_congr (Dev.items_modHart _ _ _), Dev.item_congr (congrArg Sett.items settR), itemP]
  refine ⟨itemE, ?_, fun x out => ?_, ?_, ?_, ?_, ?_, ?_⟩
  · have read := u.memRead_memWrite (frameAt f) (parkFrame c)
    rw [length_parkFrame, ← eqW] at read
    rw [Dev.memRead_congr memE, read]
  · have memU : u.mem = d.mem := keepsU .mem (by decide)
    rw [Dev.memAt_congr memE, eqW, Dev.memAt_memWrite_other _ _ _ _ (by rw [length_parkFrame]; omega), Dev.memAt_congr memU]
  · rw [hartE, eqH, hart]
  · rw [hartE, eqH, hart, ← hartR]
  · rw [eq, eqT, Dev.nat, h.reg_settCode _ _ parksLog parksCode, regH, ← Dev.nat, countR]
  · rw [eq, eqT]
    exact h.lastRaised_settCode _ _
  · rw [eq]
    exact (((((keepsU.mono (by decide)).step keepsW).step keepsP).step keepsR).step keepsH).step keepsT

end

/-! ## Page faults -/

section
variable {s : State} {h : Nat} {c : HartContext} (live : s.Live) (hh : h < 48) (exception : c.cause < 2 ^ 63)
  (issues : s.found.issuing h = true)
include live hh issues

theorem pageFault_leaves {e : Dev} {l : List Part} (result : s.found.pageFault h c = e) (keeps : s.found.Keeps e l) (within : Part.clk ∉ l := by decide) :
    Leaves (.pageFault h c.toHartRegs c.csr) s e :=
  .full (guard := fun d g => d.liveIf (decide (h < 48) && d.issuing h) g) (fun d => d.pageFault h c) (live.passesIssuing hh issues) result keeps within

theorem pageFault_tick {i : Item} (serves : s.found.serving h = some i) (tick : i.tick = true) :
    Does (.pageFault h c.toHartRegs c.csr) s fun b a => b.Missed a i 3 ∧ (a.hart h).Aborted c i 3 := by
  obtain ⟨held, rfl⟩ := Dev.serving_spec serves
  obtain ⟨e, made⟩ : ∃ e, e = s.found.abortTick i 3 (some c) := ⟨_, rfl⟩
  obtain ⟨missed, aborted, keeps⟩ := Dev.abortTick_misses _ held (by decide) (by decide) c made
  have result : s.found.pageFault i.hart c = e := by
    rw [Dev.pageFault, serves, made]
    exact if_pos tick
  exact (pageFault_leaves live hh issues result keeps).does fun _ _ => ⟨⟨missed.gone, missed.raised, missed.shown, missed.counted⟩, aborted⟩

include exception

/-- A page fault that is an ordinary trap. -/
theorem pageFault_traps (plain : s.found.pageFault h c = s.found.trap h c.cause c.va c) : Does (.pageFault h c.toHartRegs c.csr) s fun b a =>
    (a.hart h).Faulted c ∧ a.sett.items = b.sett.items ∧ b.Keeps a [.sett] := by
  obtain ⟨e, made⟩ : ∃ e, e = s.found.trap h c.cause c.va c := ⟨_, rfl⟩
  obtain ⟨fault, items, keeps⟩ := Dev.trap_faults _ exception made
  exact (pageFault_leaves live hh issues (plain.trans made.symm) keeps).quietly (keeps .event (by decide)) ⟨fault, items, keeps⟩

theorem pageFault_outside (none_ : s.found.serving h = none) : Does (.pageFault h c.toHartRegs c.csr) s fun b a => (a.hart h).Faulted c ∧ b.Keeps a [.sett] := by
  obtain ⟨a, go, fault, -, keeps⟩ := pageFault_traps live hh exception issues (by rw [Dev.pageFault, none_])
  exact ⟨a, go, fault, keeps⟩

variable {i : Item} (serves : s.found.serving h = some i) (background : i.tick = false)
include serves background

theorem pageFault_ordinary (no : s.found.flag Reg.R3801_PARK_EN = false ∨ c.priv = 3 ∨ i.func = s.found.nat Reg.R3801_MAP_FUNC) :
    Does (.pageFault h c.toHartRegs c.csr) s fun b a => (a.hart h).Faulted c ∧ a.sett.items = b.sett.items ∧ b.Keeps a [.sett] := by
  refine pageFault_traps live hh exception issues ?_
  rw [Dev.pageFault, serves]
  dsimp only
  rw [if_neg (by rw [background]; decide), if_pos (by simpa [or_assoc] using no)]

variable (parks : s.found.flag Reg.R3801_PARK_EN = true) (below : c.priv ≠ 3) (other : i.func ≠ s.found.nat Reg.R3801_MAP_FUNC)
include parks below other

omit live hh issues exception in
/-- A page fault of a background item that may park. -/
theorem pageFault_eq : s.found.pageFault h c =
    if s.found.nat Reg.R3801_PARK_MAX ≤ i.parks then (s.found.completeCode i.slot Code.PAGE_UNMAPPABLE).trap h c.cause c.va c
    else
      match s.found.freeFrame with
      | some f => s.found.park i c f
      | none => Dev.trap ((s.found.when (!s.found.sett.fullEp) fun d => (d.settCode Code.PARK_FULL i.slot).count Reg.R3801_PARK_FULL_COUNT).setSett
          fun s => { s with fullEp := true }) h c.cause c.va c := by
  rw [Dev.pageFault, serves]
  dsimp only
  rw [if_neg (by rw [background]; decide), if_neg (by simp [parks, below, other])] <;> rfl

theorem pageFault_ends (limit : s.found.nat Reg.R3801_PARK_MAX ≤ i.parks) : Does (.pageFault h c.toHartRegs c.csr) s fun _ a =>
    (a.hart h).Faulted c ∧ a.item i.slot = none ∧ a.LastRaised Code.PAGE_UNMAPPABLE Kind.other 0 := by
  obtain ⟨x, hx⟩ : ∃ x, x = s.found.completeCode i.slot Code.PAGE_UNMAPPABLE := ⟨_, rfl⟩
  obtain ⟨e, made⟩ : ∃ e, e = x.trap h c.cause c.va c := ⟨_, rfl⟩
  have ends : s.found.EndsWith x i.slot Code.PAGE_UNMAPPABLE := by rw [hx]; exact s.found.completeCode_ends _ _
  obtain ⟨fault, items, keeps⟩ := Dev.trap_faults _ exception made
  have result : s.found.pageFault h c = e := by rw [pageFault_eq serves background parks below other, if_pos limit, made, hx]
  exact (pageFault_leaves live hh issues result ((ends.keeps).step keeps)).does fun _ _ =>
    ⟨fault, (Dev.item_congr items _).trans ends.gone, (ends.raised.of_keeps keeps).told _ _⟩

variable (room : i.parks < s.found.nat Reg.R3801_PARK_MAX)
include room

theorem pageFault_full (full : s.found.freeFrame = none) : Does (.pageFault h c.toHartRegs c.csr) s fun b a =>
    (a.hart h).Faulted c ∧ a.sett.items = b.sett.items ∧ a.sett.fullEp = true ∧
    (b.sett.fullEp = false → a.LastRaised Code.PARK_FULL Kind.other 0) ∧ (b.sett.fullEp = true → a.log = b.log) := by
  obtain ⟨x, hx⟩ : ∃ x, x = s.found.when (!s.found.sett.fullEp) fun d => (d.settCode Code.PARK_FULL i.slot).count Reg.R3801_PARK_FULL_COUNT := ⟨_, rfl⟩
  obtain ⟨y, hy⟩ : ∃ y, y = x.setSett fun s => { s with fullEp := true } := ⟨_, rfl⟩
  obtain ⟨e, made⟩ : ∃ e, e = y.trap h c.cause c.va c := ⟨_, rfl⟩
  have told : s.found.Keeps x (.plic :: logParts) ∧ (s.found.sett.fullEp = false → x.LastRaised Code.PARK_FULL Kind.other 0) ∧
      (s.found.sett.fullEp = true → x.log = s.found.log) := by
    cases ep : s.found.sett.fullEp with
    | true =>
      have same : x = s.found := by rw [hx, ep]; rfl
      rw [same]
      exact ⟨Dev.Keeps.refl _ _, fun no => (by cases no), fun _ => rfl⟩
    | false =>
      have raised : x = (s.found.settCode Code.PARK_FULL i.slot).count Reg.R3801_PARK_FULL_COUNT := by rw [hx, ep]; rfl
      rw [raised]
      exact ⟨(s.found.keeps_settCode _ _).set _ _, fun _ => (s.found.lastRaised_settCode Code.PARK_FULL i.slot).of_keeps (Dev.keeps_set _ _ _), fun no => (by cases no)⟩
  obtain ⟨keepsX, first, again⟩ := told
  have keepsY : x.Keeps y [.sett] := by rw [hy]; exact x.keeps_setSett _
  obtain ⟨fault, items, keeps⟩ := Dev.trap_faults _ exception made
  have settX : x.sett = s.found.sett := keepsX .sett (by decide)
  have itemsE : e.sett.items = s.found.sett.items := by rw [items, hy, ← settX]; rfl
  have ep : e.sett.fullEp = true := by rw [made, Dev.fullEp_trap, hy]; rfl
  have logE : e.log = x.log := (keeps .log (by decide)).trans (keepsY .log (by decide))
  have result : s.found.pageFault h c = e := by
    rw [pageFault_eq serves background parks below other, if_neg (Nat.not_le.2 room), full, made, hy, hx]
  exact (pageFault_leaves live hh issues result (((keepsX.mono (m := .sett :: .plic :: logParts) (by decide)).step keepsY).step keeps)).does fun _ _ =>
    ⟨fault, itemsE, ep, fun open_ => (((first open_).of_keeps keepsY).of_keeps keeps).told _ _, fun shut => logE.trans (again shut)⟩

omit exception in
theorem pageFault_parks {f : Nat} (frame : s.found.freeFrame = some f) (there : s.found.item i.slot = some i)
    (func : s.found.nat Reg.R3801_MAP_FUNC = 0) (plain : i.record = none) : Does (.pageFault h c.toHartRegs c.csr) s fun b a =>
      a.item i.slot = some (i.parkedAt c f) ∧ a.memRead (frameAt f) 576 = parkFrame c ∧
      (∀ x, (x < frameAt f ∨ frameAt f + 576 ≤ x) → a.memAt x = b.memAt x) ∧ (a.hart h).answer = 0 ∧
      (a.hart h).ctx = { c with pc := (b.hart h).after } ∧ a.nat Reg.R3801_PARKS = min (b.nat Reg.R3801_PARKS + 1) 0xFFFFFFFF ∧
      a.LastRaised Code.RETRY_AFTER_MAP Kind.other 0 := by
  obtain ⟨-, rfl⟩ := Dev.serving_spec serves
  obtain ⟨e, made⟩ : ∃ e, e = s.found.park i c f := ⟨_, rfl⟩
  obtain ⟨item, read, others, answer, ctx, count, last, keeps⟩ := Dev.park_parks s.found there c f func plain made
  have result : s.found.pageFault i.hart c = e := by
    rw [pageFault_eq serves background parks below other, if_neg (Nat.not_le.2 room), frame, made]
  exact (pageFault_leaves live hh issues result keeps).does fun _ _ => ⟨item, read, others, answer, ctx, count, last.told _ _⟩

end

end Sys2Proof.Machine
end

section
/-! # The mapper's reports, RESUME and replay (R275, R280) -/

namespace Sys2Proof.Machine

section
variable {s : State} (live : s.Live)

/-! ## MAP_DONE and MAP_FAIL -/

/-- An item of a page that is mapped: queued at the head of its priority, to be delivered with RESUMED. -/
def Dev.Mapped (d : Dev) (i : Item) (now : Nat) : Prop :=
  ∃ n, 0 < n ∧ d.item i.slot = some { i with place := .queued, front := n, resumed := true, since := now }

/-- One item of a mapped page requeued. -/
def Dev.requeued (i : Item) (d : Dev) : Dev := d.toHead i.slot fun i => { i with resumed := true, since := d.rawNow }

theorem Dev.requeueMapped_eq (d : Dev) (vpn asid : Nat) : d.requeueMapped vpn asid = each (d.parkedOn vpn asid).reverse Dev.requeued d := rfl

theorem Dev.requeueMapped_keeps (d : Dev) (vpn asid : Nat) : d.Keeps (d.requeueMapped vpn asid) [.sett, .mem] :=
  Dev.Keeps.each _ Dev.requeued (fun i f => (Dev.toHead_spec f i.slot (g := fun i => { i with resumed := true, since := f.rawNow }) (fun _ => rfl) rfl).2.2.2.2.1) d

theorem Dev.requeueMapped_maps (d : Dev) {i : Item} (there : d.item i.slot = some i) (parked : i.place = .parked) :
    (d.requeueMapped i.vpn i.asid).Mapped i d.rawNow := by
  have mem : i ∈ (d.parkedOn i.vpn i.asid).reverse := by
    rw [List.mem_reverse, Dev.parkedOn, List.mem_filter]
    exact ⟨Dev.mem_of_item there, by simp [parked]⟩
  refine each_reaches (fun f : Dev => f.rawNow = d.rawNow ∧ (f.item i.slot = some i ∨ f.Mapped i d.rawNow)) (fun f : Dev => f.Mapped i d.rawNow) mem
    (fun j _ f hf => ?_) (fun j _ f hf done => ?_) (fun f hf => ?_) ⟨rfl, .inl there⟩
  all_goals
    obtain ⟨now, stands⟩ := hf
  · obtain ⟨own, others, -, -, keeps, -⟩ := Dev.toHead_spec f j.slot (g := fun i => { i with resumed := true, since := f.rawNow }) (fun _ => rfl) rfl
    refine ⟨keeps.rawNow.trans now, ?_⟩
    by_cases same : i.slot = j.slot
    · rw [← same] at own
      refine .inr ⟨f.sett.head + 1, Nat.succ_pos _, ?_⟩
      rcases stands with plain | ⟨n, -, queued⟩
      · rw [← same, own i plain, now]
      · rw [← same, own _ queued, now]
    · rw [others _ same, Dev.Mapped, others _ same]
      exact stands
  · obtain ⟨own, others, -⟩ := Dev.toHead_spec f j.slot (g := fun i => { i with resumed := true, since := f.rawNow }) (fun _ => rfl) rfl
    obtain ⟨n, pos, queued⟩ := done
    by_cases same : i.slot = j.slot
    · rw [← same] at own
      exact ⟨f.sett.head + 1, Nat.succ_pos _, by rw [← same, own _ queued, now]⟩
    · exact ⟨n, pos, by rw [others _ same, queued]⟩
  · obtain ⟨own, -⟩ := Dev.toHead_spec f i.slot (g := fun i => { i with resumed := true, since := f.rawNow }) (fun _ => rfl) rfl
    refine ⟨f.sett.head + 1, Nat.succ_pos _, ?_⟩
    rcases stands with plain | ⟨n, -, queued⟩
    · rw [own i plain, now]
    · rw [own _ queued, now]

include live

theorem mapDone_leaves {v : Nat} (calm : ∀ ch < 32, s.found.flag (Reg.R3920_RESUME_ON_MAP ch) = false) :
    Leaves (.mapDone v) s (s.found.requeueMapped (v / 4096 % 2 ^ 27) (v / 2 ^ 44 % 2 ^ 16)) := by
  obtain ⟨e, made⟩ : ∃ e, e = s.found.requeueMapped (v / 4096 % 2 ^ 27) (v / 2 ^ 44 % 2 ^ 16) := ⟨_, rfl⟩
  have keeps : s.found.Keeps e [.sett, .mem] := by rw [made]; exact s.found.requeueMapped_keeps _ _
  have result : s.found.mapDone v = e := by
    unfold Dev.mapDone
    extract_lets vpn asid
    have same : s.found.requeueMapped vpn asid = e := made.symm
    rw [same]
    refine iterate_idle fun ch hc => if_neg ?_
    have off : e.flag (Reg.R3920_RESUME_ON_MAP ch) = false := by
      rw [Dev.flag, Dev.reg_congr (keeps .od (by decide)), ← Dev.flag, calm ch hc]
    simp [off]
  rw [← made]
  exact .full (guard := fun d => d.live) (fun d => d.mapDone v) live.passes result keeps

theorem mapDone_requeues {v : Nat} {i : Item} (there : s.found.item i.slot = some i) (parked : i.place = .parked) (vpn : i.vpn = v / 4096 % 2 ^ 27)
    (asid : i.asid = v / 2 ^ 44 % 2 ^ 16) (calm : ∀ ch < 32, s.found.flag (Reg.R3920_RESUME_ON_MAP ch) = false) : Does (.mapDone v) s fun _ a =>
      ∃ n, 0 < n ∧ a.item i.slot = some { i with place := .queued, front := n, resumed := true, since := a.rawNow } := by
  have leaves := mapDone_leaves live (v := v) calm
  rw [← vpn, ← asid] at leaves
  have keeps := s.found.requeueMapped_keeps i.vpn i.asid
  have mapped := s.found.requeueMapped_maps there parked
  obtain ⟨e, made⟩ : ∃ e, e = s.found.requeueMapped i.vpn i.asid := ⟨_, rfl⟩
  rw [← made] at leaves keeps mapped
  obtain ⟨n, pos, item⟩ := mapped
  exact leaves.quietly (keeps .event (by decide)) ⟨n, pos, by rw [item, keeps.rawNow]⟩

theorem mapDone_idle {v : Nat} (none_ : s.found.parkedOn (v / 4096 % 2 ^ 27) (v / 2 ^ 44 % 2 ^ 16) = [])
    (calm : ∀ ch < 32, s.found.flag (Reg.R3920_RESUME_ON_MAP ch) = false) : Does (.mapDone v) s fun b a => b.Keeps a [] := by
  have leaves := mapDone_leaves live (v := v) calm
  rw [Dev.requeueMapped, none_] at leaves
  exact Leaves.unchanged leaves

theorem mapFail_leaves (v : Nat) : Leaves (.mapFail v) s (s.found.failMapped (v / 4096 % 2 ^ 27) (v / 2 ^ 44 % 2 ^ 16)) :=
  .full (guard := fun d => d.live) (fun d => d.mapFail v) live.passes rfl
    (Dev.Keeps.each _ (fun (i : Item) (d : Dev) => d.completeCode i.slot Code.PAGE_UNMAPPABLE) (fun i f => (f.completeCode_ends i.slot Code.PAGE_UNMAPPABLE).keeps) s.found)

theorem mapFail_idle {v : Nat} (none_ : s.found.parkedOn (v / 4096 % 2 ^ 27) (v / 2 ^ 44 % 2 ^ 16) = []) : Does (.mapFail v) s fun b a => b.Keeps a [] := by
  have leaves := mapFail_leaves live v
  rw [Dev.failMapped, none_] at leaves
  exact Leaves.unchanged leaves

omit live in
/-- The items of a page that cannot be mapped end. -/
theorem Dev.failMapped_ends (d : Dev) (vpn asid : Nat) (some_ : d.parkedOn vpn asid ≠ []) {e : Dev} (made : e = d.failMapped vpn asid) :
    e.parkedOn vpn asid = [] ∧ (∀ j ∈ e.sett.items, j ∈ d.sett.items) ∧ e.LastRaised Code.PAGE_UNMAPPABLE Kind.other 0 := by
  obtain ⟨fail, hfail⟩ : ∃ fail : Item → Dev → Dev, fail = fun i d => d.completeCode i.slot Code.PAGE_UNMAPPABLE := ⟨_, rfl⟩
  have step : ∀ (i : Item) (f : Dev), f.EndsWith (fail i f) i.slot Code.PAGE_UNMAPPABLE := fun i f => by rw [hfail]; exact f.completeCode_ends _ _
  have eq : e = each (d.parkedOn vpn asid) fail d := by rw [made, hfail]; rfl
  have items : ∀ j ∈ e.sett.items, j ∈ d.sett.items := by
    rw [eq]
    exact each_holds (fun f : Dev => ∀ j ∈ f.sett.items, j ∈ d.sett.items) _ _ (fun i _ f hf j hj => hf j ((step i f).items j hj)) fun _ h => h
  refine ⟨List.filter_eq_nil_iff.2 fun j hj parked => ?_, items, ?_⟩
  · have mem : j ∈ d.parkedOn vpn asid := List.mem_filter.2 ⟨items j hj, parked⟩
    have gone : e.item j.slot = none := by
      rw [eq]
      refine each_reaches (fun _ : Dev => True) (fun f : Dev => f.item j.slot = none) mem (fun _ _ _ _ => trivial) (fun i _ f _ none_ => ?_)
        (fun f _ => (step j f).gone) trivial
      exact Dev.item_none_iff.2 fun k hk => Dev.item_none_iff.1 none_ k ((step i f).items k hk)
    exact Dev.item_none_iff.1 gone j hj rfl
  · obtain ⟨i, mem⟩ := List.exists_mem_of_ne_nil _ some_
    rw [eq]
    exact each_reaches (fun _ : Dev => True) (fun f : Dev => f.LastRaised Code.PAGE_UNMAPPABLE Kind.other 0) mem (fun _ _ _ _ => trivial)
      (fun i _ f _ _ => (step i f).raised) (fun f _ => (step i f).raised) trivial

theorem mapFail_fails {v : Nat} (some_ : s.found.parkedOn (v / 4096 % 2 ^ 27) (v / 2 ^ 44 % 2 ^ 16) ≠ []) : Does (.mapFail v) s fun b a =>
    a.parkedOn (v / 4096 % 2 ^ 27) (v / 2 ^ 44 % 2 ^ 16) = [] ∧ (∀ j ∈ a.sett.items, j ∈ b.sett.items) ∧ a.LastRaised Code.PAGE_UNMAPPABLE Kind.other 0 := by
  have leaves := mapFail_leaves live v
  obtain ⟨e, made⟩ : ∃ e, e = s.found.failMapped (v / 4096 % 2 ^ 27) (v / 2 ^ 44 % 2 ^ 16) := ⟨_, rfl⟩
  obtain ⟨empty, items, last⟩ := s.found.failMapped_ends _ _ some_ made
  rw [← made] at leaves
  exact leaves.does fun _ _ => ⟨empty, items, last.told _ _⟩

/-! ## RESUME -/

section
variable {h v f : Nat} {i : Item} (hh : h < 48) (issues : s.found.issuing h = true) (serves : s.found.serving h = some i) (frame : i.frame = some f)
include hh issues serves frame

theorem resume_loads (there : s.found.item i.slot = some i) (go : h % 2 = 1 ∧ i.resumed = true ∧ v = i.token) : Does (.resume h v) s fun b a =>
    (a.hart h).ctx = { contextOf (b.memRead (frameAt f) 576) with csr := (b.hart h).ctx.csr } ∧
    a.item i.slot = some { i with frame := none } ∧ b.Keeps a [.sett] := by
  obtain ⟨x, hx⟩ : ∃ x, x = s.found.modHart h fun x => { x with ctx := { contextOf (s.found.memRead (frameAt f) 576) with csr := x.ctx.csr } } := ⟨_, rfl⟩
  obtain ⟨y, hy⟩ : ∃ y, y = x.modItem i.slot fun i => { i with frame := none } := ⟨_, rfl⟩
  obtain ⟨e, made⟩ : ∃ e, e = y.setSett fun s => { s with fullEp := false } := ⟨_, rfl⟩
  have result : s.found.resume h v = e := by
    rw [Dev.resume, serves]
    dsimp only
    rw [frame]
    dsimp only
    rw [if_pos go, made, hy, hx]
  have itemsX : x.sett.items = s.found.sett.items := by rw [hx, Dev.items_modHart]
  have itemsE : e.sett.items = y.sett.items := by rw [made]; rfl
  have hartsE : e.sett.harts = x.sett.harts := by rw [made, hy]; rfl
  have keeps : s.found.Keeps e [.sett] := by
    rw [made, hy, hx]
    exact ((s.found.keeps_modHart _ _).step (Dev.keeps_modItem _ _ _)).step (Dev.keeps_setSett _ _)
  obtain ⟨mark, busy, hart⟩ := s.found.hart_changed h fun x => { x with ctx := { contextOf (s.found.memRead (frameAt f) 576) with csr := x.ctx.csr } }
  have own : (e.hart h).ctx = { contextOf (s.found.memRead (frameAt f) 576) with csr := (s.found.hart h).ctx.csr } := by
    rw [Dev.hart, hartsE, ← Dev.hart, hx, hart]
  have item : e.item i.slot = some { i with frame := none } := by
    rw [Dev.item_congr itemsE, hy, Dev.item_modItem_same (g := fun i => { i with frame := none }) (fun _ => rfl) ((Dev.item_congr itemsX _).trans there)]
  exact (hart_leaves live hh issues (f := fun d => d.resume h v) result keeps).quietly (keeps .event (by decide)) ⟨own, item, keeps⟩

theorem resume_idle (no : h % 2 = 0 ∨ i.resumed = false ∨ v ≠ i.token) : Does (.resume h v) s fun b a => b.Keeps a [] := by
  have result : s.found.resume h v = s.found := by
    rw [Dev.resume, serves]
    dsimp only
    rw [frame]
    refine if_neg fun ⟨odd, resumed, same⟩ => ?_
    rcases no with even | fresh | other
    · omega
    · rw [resumed] at fresh
      cases fresh
    · exact other same
  exact Leaves.unchanged (hart_leaves live hh issues (f := fun d => d.resume h v) (l := []) result (Dev.Keeps.refl _ _))

end

/-! ## Core losses -/

/-- The answer of a core loss other than that of a whole core. -/
theorem coreLoss_leaves {what k : Nat} {c : HartContext} {e : Dev} (part : what ≠ CoreError.core) (made : e = s.found.coreLoss what k c)
    (keeps : s.found.Keeps e (.mem :: .sett :: .plic :: logParts)) : Leaves (.coreLoss what k c) s e := by
  have result : s.found.coreLossUnit what k c = e := by
    unfold Dev.coreLossUnit
    extract_lets d
    rw [if_pos (.inl part)]
    exact made.symm
  exact .full (guard := fun d => d.live) (fun d => d.coreLossUnit what k c) live.passes result keeps

theorem coreLoss_background {k : Nat} {i : Item} {c : HartContext} (serves : s.found.serving (2 * k + 1) = some i)
    (there : s.found.item i.slot = some i) : Does (.coreLoss CoreError.background k c) s fun b a =>
      b.Again a i ∧ (a.hart (2 * k + 1)).Aborted c i 4 := by
  obtain ⟨x, hx⟩ : ∃ x, x = s.found.abortedOn (2 * k + 1) i c 4 := ⟨_, rfl⟩
  obtain ⟨e, made⟩ : ∃ e, e = x.replayItem i := ⟨_, rfl⟩
  have items : x.sett.items = s.found.sett.items := by rw [hx, Dev.items_abortedOn]
  have head : x.sett.head = s.found.sett.head := by rw [hx, Dev.head_abortedOn]
  have keepsX : s.found.Keeps x [.sett] := by rw [hx]; exact s.found.keeps_abortedOn _ _ _ _
  obtain ⟨again, keepsE, harts, -⟩ := Dev.replayItem_again ((Dev.item_congr items _).trans there) made
  have aborted : (e.hart (2 * k + 1)).Aborted c i 4 := by
    rw [Dev.hart, harts, ← Dev.hart, hx]
    exact s.found.abortedOn_traps _ _ _ _
  have eq : e = s.found.coreLoss CoreError.background k c := by
    rw [made, hx, Dev.coreLoss, if_neg (by decide), if_neg (by decide), if_pos rfl, serves]
    rfl
  have before : s.found.Again e i := again.of_before head (keepsX .od (by decide))
  exact (coreLoss_leaves live (by decide) eq ((keepsX.mono (by decide)).andThen keepsE)).does fun _ _ => ⟨⟨before.replayed, before.lost⟩, aborted⟩

theorem coreLoss_tick {k : Nat} {i : Item} {c : HartContext} (serves : s.found.serving (2 * k) = some i) :
    Does (.coreLoss CoreError.tick k c) s fun b a => b.Missed a i 4 ∧ (a.hart (2 * k)).Aborted c i 4 := by
  obtain ⟨held, on⟩ := Dev.serving_spec serves
  obtain ⟨e, made⟩ : ∃ e, e = s.found.abortTick i 4 (some c) := ⟨_, rfl⟩
  obtain ⟨missed, aborted, keeps⟩ := Dev.abortTick_misses _ held (by decide) (by decide) c made
  rw [on] at aborted
  have eq : e = s.found.coreLoss CoreError.tick k c := by
    rw [made, Dev.coreLoss, if_neg (by decide), if_pos rfl, serves]
  exact (coreLoss_leaves live (by decide) eq keeps).does fun _ _ => ⟨⟨missed.gone, missed.raised, missed.shown, missed.counted⟩, aborted⟩

theorem coreLoss_frame {f : Nat} {i : Item} {c : HartContext} (holds : s.found.sett.items.find? (fun i => i.frame = some f) = some i)
    (there : s.found.item i.slot = some i) (parked : i.place = .parked) : Does (.coreLoss CoreError.frame f c) s fun b a =>
      b.Again a i ∧ a.sett.harts = b.sett.harts := by
  obtain ⟨e, made⟩ : ∃ e, e = s.found.replayItem i := ⟨_, rfl⟩
  obtain ⟨again, keeps, harts, -⟩ := Dev.replayItem_again there made
  have eq : e = s.found.coreLoss CoreError.frame f c := by
    rw [made, Dev.coreLoss, if_neg (by decide), if_neg (by decide), if_neg (by decide), holds]
    dsimp only
    rw [parked]
    rfl
  exact (coreLoss_leaves live (by decide) eq keeps).does fun _ _ => ⟨⟨again.replayed, again.lost⟩, harts⟩

theorem retireGrace_idle {k t : Nat} (leaves_ : mget none s.found.sett.leaving k = some t)
    (early : s.found.rawNow < t + 1000000 * s.found.nat Reg.R3800_RETIRE_GRACE_MS) : Does (.retireGraceExpiry k) s fun b a => b.Keeps a [] := by
  have result : s.found.retireGrace k = s.found := by
    rw [Dev.retireGrace, leaves_]
    exact if_pos early
  exact Leaves.unchanged (.full (l := []) (guard := fun d => d.live) (fun d => d.retireGrace k) live.passes result (Dev.Keeps.refl _ _))

theorem retireGrace_replays {k t : Nat} {i : Item} (leaves_ : mget none s.found.sett.leaving k = some t)
    (due : t + 1000000 * s.found.nat Reg.R3800_RETIRE_GRACE_MS ≤ s.found.rawNow) (serves : s.found.serving (2 * k + 1) = some i)
    (there : s.found.item i.slot = some i) : Does (.retireGraceExpiry k) s fun b a => b.Again a i := by
  obtain ⟨e, made⟩ : ∃ e, e = s.found.replayItem i := ⟨_, rfl⟩
  obtain ⟨again, keeps, -⟩ := Dev.replayItem_again there made
  have result : s.found.retireGrace k = e := by
    rw [Dev.retireGrace, leaves_]
    dsimp only
    rw [if_neg (Nat.not_lt.2 due), serves, made]
  have leaves : Leaves (.retireGraceExpiry k) s e := .full (guard := fun d => d.live) (fun d => d.retireGrace k) live.passes result keeps
  exact leaves.does fun _ _ => ⟨again.replayed, again.lost⟩

end

end Sys2Proof.Machine
end

section
/-! # The loss of a core (R275, R514) -/

namespace Sys2Proof.Machine

/-! ## The spare of a core -/

/-- The search for a core's spare marks worn ones and notes that in the error log, and nothing else. -/
theorem Dev.takeSpare_notes (d : Dev) (l : List Nat) {o : Option Nat} {e : Dev} (made : d.takeSpare UKind.core l = (o, e)) :
    d.Keeps e [.flash, .health, .od] ∧ d.KeepsRegs e errRegs := by
  induction l generalizing d with
  | nil =>
    cases made
    exact ⟨Dev.Keeps.refl _ _, fun _ _ => rfl⟩
  | cons s r ih =>
    rw [Dev.takeSpare] at made
    split at made
    · exact ih d made
    · split at made
      · obtain ⟨m, hm⟩ : ∃ m, m = d.setFlash fun fl => { fl with retired := fl.retired ++ [(UKind.core, s, false)] } := ⟨_, rfl⟩
        obtain ⟨f, hf⟩ : ∃ f, f = m.errLog Code.UNIT_RETIRED UKind.core ErrClass.decision s 0xFFFF 0 0 := ⟨_, rfl⟩
        have keepsM : d.Keeps m [.flash] := by rw [hm]; exact d.keeps_setFlash _
        obtain ⟨notes, -⟩ := Dev.errLog_notes m _ _ _ _ _ _ _ hf
        have rest : f.takeSpare UKind.core r = (o, e) := by
          rw [hf, hm]
          exact made
        obtain ⟨keepsE, regs⟩ := ih f rest
        refine ⟨((keepsM.mono (by decide)).step notes.keeps).andThen keepsE, fun k out => ?_⟩
        rw [regs k out, notes.regs k out, Dev.reg_congr (keepsM .od (by decide))]
      · cases made
        exact ⟨Dev.Keeps.refl _ _, fun _ _ => rfl⟩

/-! ## A core out of service -/

/-- One hart of a core changed: of the other, its reckoned time alone. -/
theorem Dev.hart_modHart_twin (d : Dev) {h g : Nat} (other : g ≠ h) (f : Hart → Hart) :
    ∃ mark busy, (d.modHart h f).hart g = { d.hart g with mark := mark, busy := busy } := by
  obtain ⟨mark, busy, reckoned⟩ := d.hart_reckon (h / 2) g
  exact ⟨mark, busy, (mget_mset_other _ _ _ _ other).trans reckoned⟩

/-- The two harts of a core ask no more. -/
def Dev.asksEnd (d : Dev) (k : Nat) : Dev :=
  (d.modHart (2 * k) fun x => { x with asked := none }).modHart (2 * k + 1) fun x => { x with asked := none }

theorem Dev.asksEnd_ends (d : Dev) (k : Nat) : ((d.asksEnd k).hart (2 * k)).asked = none ∧ ((d.asksEnd k).hart (2 * k + 1)).asked = none := by
  obtain ⟨x, hx⟩ : ∃ x, x = d.modHart (2 * k) fun x => { x with asked := none } := ⟨_, rfl⟩
  have eq : d.asksEnd k = x.modHart (2 * k + 1) fun x => { x with asked := none } := by rw [hx]; rfl
  obtain ⟨m, b, first⟩ := d.hart_changed (2 * k) fun x => { x with asked := none }
  obtain ⟨m', b', twin⟩ := x.hart_modHart_twin (h := 2 * k + 1) (g := 2 * k) (by omega) fun x => { x with asked := none }
  obtain ⟨m'', b'', second⟩ := x.hart_changed (2 * k + 1) fun x => { x with asked := none }
  refine ⟨?_, ?_⟩
  · rw [eq, twin, hx, first]
  · rw [eq, second]

section
variable {s : State} (live : s.Live)
include live

theorem coreLoss_core {k : Nat} {i : Item} {c : HartContext} (serves : s.found.serving (2 * k + 1) = some i) (there : s.found.item i.slot = some i)
    (tick : s.found.serving (2 * k) = none) (empty : s.found.prefetched (2 * k + 1) = none) : Does (.coreLoss CoreError.core k c) s fun b a =>
      b.Again a i ∧ (a.hart (2 * k)).asked = none ∧ (a.hart (2 * k + 1)).asked = none ∧ a.taking (2 * k) = false := by
  obtain ⟨x, hx⟩ : ∃ x, x = s.found.replayItem i := ⟨_, rfl⟩
  obtain ⟨y, hy⟩ : ∃ y, y = x.asksEnd k := ⟨_, rfl⟩
  obtain ⟨z, hz⟩ : ∃ z, z = y.setSett fun t => { t with leaving := mset none t.leaving k (some s.found.rawNow) } := ⟨_, rfl⟩
  obtain ⟨againX, keepsX, -, -, stays⟩ := Dev.replayItem_again there hx
  have out : s.found.coreOut k = y := by
    unfold Dev.coreOut
    rw [tick]
    dsimp only
    rw [serves]
    dsimp only
    rw [← hx, stays _ empty, hy]
    rfl
  have lost : s.found.coreLoss CoreError.core k c = z := by rw [Dev.coreLoss, if_pos rfl, out, hz]
  have keepsY : x.Keeps y [.sett] := by rw [hy]; exact (x.keeps_modHart _ _).step (Dev.keeps_modHart _ _ _)
  have keepsZ : y.Keeps z [.sett] := by rw [hz]; exact y.keeps_setSett _
  have itemsY : y.sett.items = x.sett.items := by rw [hy, Dev.asksEnd, Dev.items_modHart, Dev.items_modHart]
  have itemsZ : z.sett.items = x.sett.items := by rw [← itemsY, hz]; rfl
  have hartsZ : z.sett.harts = y.sett.harts := by rw [hz]; rfl
  have leavingZ : mget none z.sett.leaving k = some s.found.rawNow := by rw [hz]; exact mget_mset_same _ _ _ _
  obtain ⟨e, made⟩ : ∃ e, e = s.found.coreLossUnit CoreError.core k c := ⟨_, rfl⟩
  have spare : z.Keeps e [.flash, .health, .od] ∧ z.KeepsRegs e errRegs := by
    rw [made]
    unfold Dev.coreLossUnit
    rw [lost]
    dsimp only
    split
    · exact ⟨Dev.Keeps.refl _ _, fun _ _ => rfl⟩
    · split
      · next s' f taken =>
        obtain ⟨keeps, regs⟩ := z.takeSpare_notes _ taken
        exact ⟨keeps.step (Dev.keeps_setHealth _ _), regs⟩
      · next f taken => exact z.takeSpare_notes _ taken
  obtain ⟨keepsE, regsE⟩ := spare
  have settE : e.sett = z.sett := keepsE .sett (by decide)
  have keepsXE : x.Keeps e [.flash, .health, .od, .sett] := ((keepsY.mono (by decide)).step keepsZ).step keepsE
  have again : s.found.Again e i := by
    refine againX.of_after (by rw [settE, itemsZ]) (fun k own => ?_) keepsXE
    have apart : k ∉ errRegs := by rcases own with rfl | rfl <;> decide
    rw [regsE k apart, Dev.reg_congr (keepsZ .od (by decide)), Dev.reg_congr (keepsY .od (by decide))]
  have asks : (e.hart (2 * k)).asked = none ∧ (e.hart (2 * k + 1)).asked = none := by
    have harts : e.sett.harts = y.sett.harts := by rw [settE, hartsZ]
    rw [Dev.hart, Dev.hart, harts, ← Dev.hart, ← Dev.hart, hy]
    exact x.asksEnd_ends k
  have shut : e.taking (2 * k) = false := by
    rw [Dev.taking, settE, Nat.mul_div_cancel_left k (by decide), leavingZ]
    rfl
  have keeps : s.found.Keeps e (.flash :: .health :: .mem :: .sett :: .plic :: logParts) := (keepsX.mono (by decide)).andThen (keepsXE.mono (by decide))
  have leaves : Leaves (.coreLoss CoreError.core k c) s e :=
    .full (guard := fun d => d.live) (fun d => d.coreLossUnit CoreError.core k c) live.passes made.symm keeps
  exact leaves.does fun _ _ => ⟨⟨again.replayed, again.lost⟩, asks.1, asks.2, shut⟩

end

/-- Settles O37: a faulting background item parks in its frame or ends; what its page's report, a RESUME, a lost context, frame or core
makes of it follows the item's record. -/
theorem parkingAndReplay : Obligations.ParkingAndReplay := by
  unfold Obligations.ParkingAndReplay
  intro s h c live hh exception d toS trapped aborted missed vpn asid again
  have repeats : ∀ {i : Instr} {j : Item} {P : Dev → Prop}, (Does i s fun b a => b.Again a j ∧ P a) → Does i s fun b a => again b a j ∧ P a :=
    fun ⟨a, go, replay, p⟩ => ⟨a, go, ⟨replay.replayed, replay.lost⟩, p⟩
  have trap : ∀ {x : Hart} {j : Item} {reason : Nat}, x.Aborted c j reason → aborted x j reason :=
    fun t => ⟨t.mcause, t.mepc, t.mtval, t.abort, t.priv, t.pc⟩
  have misses : ∀ {b a : Dev} {j : Item} {reason : Nat}, b.Missed a j reason → missed b a j reason :=
    fun m => ⟨m.gone, m.raised, m.shown, m.counted⟩
  refine ⟨fun waits => waiting_idle live waits (f := (Dev.pageFault · h c)), fun issues none_ => pageFault_outside live hh exception issues none_,
    fun i issues serves tick => ?_,
    fun i issues serves background => ⟨fun no => pageFault_ordinary live hh exception issues serves background no,
      fun parks below other limit => pageFault_ends live hh exception issues serves background parks below other limit,
      fun parks below other room => ⟨fun full => pageFault_full live hh exception issues serves background parks below other room full,
        fun f frame there func plain => pageFault_parks live hh issues serves background parks below other room frame there func plain⟩⟩,
    fun v i there parked page space calm => mapDone_requeues live there parked page space calm,
    fun v none_ => ⟨fun calm => mapDone_idle live none_ calm, mapFail_idle live none_⟩, fun v some_ => mapFail_fails live some_,
    fun i f v issues serves frame there => ⟨fun odd resumed same => resume_loads live hh issues serves frame there ⟨odd, resumed, same⟩,
      fun no => resume_idle live hh issues serves frame no⟩,
    fun k i serves there => ?_, fun k i serves => ?_,
    fun f i holds there parked => repeats (P := fun a => a.sett.harts = s.found.sett.harts) (coreLoss_frame live holds there parked),
    fun k i serves there tick empty => repeats (P := fun a => (a.hart (2 * k)).asked = none ∧ (a.hart (2 * k + 1)).asked = none ∧ a.taking (2 * k) = false)
      (coreLoss_core live serves there tick empty),
    fun k t leaves_ => ⟨fun early => retireGrace_idle live leaves_ early, fun due i serves there => ?_⟩⟩
  · obtain ⟨a, go, miss, abort⟩ := pageFault_tick live hh (c := c) issues serves tick
    exact ⟨a, go, misses miss, trap abort⟩
  · obtain ⟨a, go, replay, abort⟩ := coreLoss_background live (c := c) serves there
    exact ⟨a, go, ⟨replay.replayed, replay.lost⟩, trap abort⟩
  · obtain ⟨a, go, miss, abort⟩ := coreLoss_tick live (c := c) serves
    exact ⟨a, go, misses miss, trap abort⟩
  · obtain ⟨a, go, replay⟩ := retireGrace_replays live leaves_ due serves there
    exact ⟨a, go, replay.replayed, replay.lost⟩

end Sys2Proof.Machine
end

section
/-! # Roles of a pair: start, failure and takeover (R411, R414, R417, R423) -/

namespace Sys2Proof.Machine

/-- The entries of the pair's roles, and their types. -/
theorem roleRegs : odType Reg.R5801_ROLE = .u8 ∧ odType Reg.R5801_TAKEOVERS = .u32 ∧ Reg.R5801_ROLE ∉ stateRegs ∧
    Reg.R5801_STORED_EPOCH ∉ stateRegs ∧ Reg.R5801_HOLDER ∉ stateRegs ∧ Reg.R5801_STORED_EPOCH ≠ Reg.R5801_HOLDER ∧
    Reg.R5801_ROLE ≠ Reg.R5801_STORED_EPOCH ∧ Reg.R5801_ROLE ≠ Reg.R5801_HOLDER := by decide +kernel

section
variable {d e f : Dev}

theorem Dev.keeps_setPair (d : Dev) (g : Pair → Pair) : d.Keeps (d.setPair g) [.pair] := d.keeps_pair _

/-- The unit stands by, waiting for its stream. -/
structure Dev.Sleeps (d : Dev) : Prop where
  role : d.nat Reg.R5801_ROLE = PairRole.standby
  state : d.state = DevState.hibernate

/-- The unit is active in RUN with an epoch of its own. -/
structure Dev.ActiveNow (d : Dev) (epoch node : Nat) : Prop where
  role : d.nat Reg.R5801_ROLE = PairRole.active
  state : d.state = DevState.run
  epoch : d.reg Reg.R5801_STORED_EPOCH = (odType Reg.R5801_STORED_EPOCH).wrap epoch
  holder : d.reg Reg.R5801_HOLDER = (odType Reg.R5801_HOLDER).wrap node

theorem Dev.ActiveNow.congr {epoch node : Nat} (h : d.ActiveNow epoch node)
    (same : ∀ k ∈ [Reg.R5801_ROLE, Reg.R1001_DEV_STATE, Reg.R5801_STORED_EPOCH, Reg.R5801_HOLDER], e.reg k = d.reg k) : e.ActiveNow epoch node :=
  ⟨(congrArg Int.toNat (same _ (by simp))).trans h.role, (congrArg Int.toNat (same _ (by simp))).trans h.state,
    (same _ (by simp)).trans h.epoch, (same _ (by simp)).trans h.holder⟩

/-- A role taken and the state that goes with it. -/
theorem Dev.roleTaken (d : Dev) {role st : Nat} (small : role < 256) (low : st < 256) (made : e = (d.set Reg.R5801_ROLE role).goTo st) :
    e.nat Reg.R5801_ROLE = role ∧ e.state = st ∧ d.Keeps e [.od, .event, .sett] ∧ ∀ k, k ∉ stateRegs → k ≠ Reg.R5801_ROLE → e.reg k = d.reg k := by
  obtain ⟨x, hx⟩ : ∃ x, x = d.set Reg.R5801_ROLE role := ⟨_, rfl⟩
  rw [← hx] at made
  have keepsX : d.Keeps x [.od] := by rw [hx]; exact Dev.keeps_set _ _ _
  refine ⟨?_, ?_, ?_, fun k state own => ?_⟩
  · rw [made, Dev.nat, x.reg_goTo _ roleRegs.2.2.1, hx]
    exact Dev.nat_set_same _ roleRegs.1 rfl small
  · rw [made]
    exact x.state_goTo low
  · rw [made]
    exact (keepsX.mono (by decide)).andThen (x.keeps_goTo st)
  · rw [made, x.reg_goTo _ state, hx, Dev.reg_set_other _ _ own]

theorem Dev.hibernateNow_sleeps (d : Dev) (made : e = d.hibernateNow) : e.Sleeps ∧ d.Keeps e [.pair, .od, .event, .sett] := by
  unfold Dev.hibernateNow at made
  extract_lets x at made
  have keepsX : d.Keeps x [.pair] := d.keeps_setPair _
  clear_value x
  obtain ⟨role, state, keeps, -⟩ := Dev.roleTaken x (role := PairRole.standby) (st := DevState.hibernate) (by decide) (by decide) made
  exact ⟨⟨role, state⟩, (keepsX.mono (by decide)).step keeps⟩

theorem Dev.epochTaken (d : Dev) (epoch : Nat) (made : e = d.takeEpoch epoch) :
    e.reg Reg.R5801_STORED_EPOCH = (odType Reg.R5801_STORED_EPOCH).wrap epoch ∧
    e.reg Reg.R5801_HOLDER = (odType Reg.R5801_HOLDER).wrap (d.node Reg.R1400_NODE_ID) ∧ d.Keeps e [.od] ∧
    ∀ k, k ≠ Reg.R5801_STORED_EPOCH → k ≠ Reg.R5801_HOLDER → e.reg k = d.reg k := by
  have apart := roleRegs.2.2.2.2.2.1
  refine ⟨?_, ?_, ?_, fun k a b => ?_⟩
  · rw [made, Dev.takeEpoch, Dev.reg_set_other _ _ apart, Dev.reg_set_same]
  · rw [made, Dev.takeEpoch, Dev.reg_set_same]
  · rw [made]
    exact ((Dev.Keeps.refl _ _).set _ _).set _ _
  · rw [made, Dev.takeEpoch, Dev.reg_set_other _ _ b, Dev.reg_set_other _ _ a]

theorem Dev.node_congr (od : e.od = d.od) (k : Nat) : e.node k = d.node k := by
  simp only [Dev.node, Dev.nat, Dev.reg, od]

theorem Dev.becomeActive_acts (d : Dev) (epoch : Nat) (made : e = d.becomeActive epoch) :
    e.ActiveNow epoch (d.node Reg.R1400_NODE_ID) ∧ d.Keeps e [.pair, .od, .event, .sett] := by
  obtain ⟨-, -, -, epochState, holderState, -, roleEpoch, roleHolder⟩ := roleRegs
  unfold Dev.becomeActive at made
  extract_lets x at made
  have keepsX : d.Keeps x [.pair] := d.keeps_setPair _
  have node : x.node Reg.R1400_NODE_ID = d.node Reg.R1400_NODE_ID := Dev.node_congr (keepsX .od (by decide)) _
  clear_value x
  obtain ⟨y, hy⟩ : ∃ y, y = x.takeEpoch epoch := ⟨_, rfl⟩
  rw [← hy] at made
  obtain ⟨stored, holder, keepsY, -⟩ := Dev.epochTaken x epoch hy
  obtain ⟨role, state, keepsE, regs⟩ := Dev.roleTaken y (role := PairRole.active) (st := DevState.run) (by decide) (by decide) made
  refine ⟨⟨role, state, (regs _ epochState roleEpoch.symm).trans stored, ?_⟩, ((keepsX.mono (by decide)).step keepsY).step keepsE⟩
  rw [regs _ holderState roleHolder.symm, holder, node]

/-! ## Takeover -/

/-- A password session that ends changes entries of the session and of banks alone. -/
theorem Dev.reg_endSession (d : Dev) {k : Nat} (session : k ≠ Reg.R5000_SESSION_STATE ∧ k ≠ Reg.R5000_SESSION_PATH)
    (bank : bankOf (k / 256) (k % 256) = 0) : d.endSession.reg k = d.reg k := by
  by_cases h : d.safe.session = none
  · rw [Dev.endSession, if_pos (by simp [h])]
  · rw [Dev.endSession_ends h, Dev.reg_banksDropped _ bank, Dev.sessionOver, Dev.reg_set_other _ _ session.2, Dev.reg_set_other _ _ session.1]
    rfl

/-- The standby that takes over: active with the new epoch, its decision tick kept, counted and logged. -/
structure Dev.TakesOver (b a : Dev) (epoch : Nat) : Prop where
  active : a.ActiveNow epoch (b.node Reg.R1400_NODE_ID)
  decision : a.pair.takeover = some b.tickAbs
  counted : a.nat Reg.R5801_TAKEOVERS = min (b.nat Reg.R5801_TAKEOVERS + 1) 0xFFFFFFFF
  raised : a.LastRaised Code.TAKEOVER Kind.device 0

/-- The parts a takeover changes. -/
abbrev takeoverParts : List Part := [.pair, .od, .event, .sett, .log, .dom, .gen, .safe]

theorem takeoverRegs : odType Reg.R5801_TAKEOVERS = .u32 ∧ (∀ k ∈ [Reg.R5801_ROLE, Reg.R1001_DEV_STATE, Reg.R5801_STORED_EPOCH, Reg.R5801_HOLDER,
    Reg.R5801_TAKEOVERS], (k ≠ Reg.R5000_SESSION_STATE ∧ k ≠ Reg.R5000_SESSION_PATH) ∧ bankOf (k / 256) (k % 256) = 0 ∧ k ∉ logRegs) ∧
    (∀ k ∈ [Reg.R5801_ROLE, Reg.R1001_DEV_STATE, Reg.R5801_STORED_EPOCH, Reg.R5801_HOLDER], k ≠ Reg.R5801_TAKEOVERS) ∧
    Reg.R5801_TAKEOVERS ∉ stateRegs ∧ Reg.R5801_TAKEOVERS ≠ Reg.R5801_ROLE ∧ Reg.R5801_TAKEOVERS ≠ Reg.R5801_STORED_EPOCH ∧
    Reg.R5801_TAKEOVERS ≠ Reg.R5801_HOLDER := by decide +kernel

theorem Dev.takeOver_takes (d : Dev) (epoch : Nat) (made : e = d.takeOver epoch) : d.TakesOver e epoch ∧ d.Keeps e takeoverParts := by
  obtain ⟨-, -, -, epochState, holderState, -, roleEpoch, roleHolder⟩ := roleRegs
  obtain ⟨countType, out, countApart, countState, countRole, countEpoch, countHolder⟩ := takeoverRegs
  unfold Dev.takeOver at made
  extract_lets x y z at made
  obtain ⟨stored, holder, keepsX, regsX⟩ := Dev.epochTaken d epoch (e := x) rfl
  clear_value x
  have keepsY : x.Keeps y [.pair] := x.keeps_setPair _
  have clk : x.clk = d.clk := keepsX .clk (by decide)
  have pairY : y.pair.takeover = some d.tickAbs := by
    show some x.tickAbs = _
    rw [Dev.tickAbs, clk, ← Dev.tickAbs]
  have regsY : ∀ k, y.reg k = x.reg k := fun _ => rfl
  clear_value y
  obtain ⟨w, hw⟩ : ∃ w, w = (y.set Reg.R5801_ROLE PairRole.active).goTo DevState.run := ⟨_, rfl⟩
  obtain ⟨role, state, keepsW, regsW⟩ := Dev.roleTaken y (role := PairRole.active) (st := DevState.run) (by decide) (by decide) hw
  have eqZ : z = w.count Reg.R5801_TAKEOVERS := by rw [hw]
  clear_value z
  have keepsZ : w.Keeps z [.od] := by rw [eqZ]; exact Dev.keeps_set _ _ _
  have acts : w.ActiveNow epoch (d.node Reg.R1400_NODE_ID) :=
    ⟨role, state, by rw [regsW _ epochState roleEpoch.symm, regsY, stored], by rw [regsW _ holderState roleHolder.symm, regsY, holder]⟩
  have counted : z.nat Reg.R5801_TAKEOVERS = min (d.nat Reg.R5801_TAKEOVERS + 1) 0xFFFFFFFF := by
    rw [eqZ, w.nat_count_same countType, Dev.nat, regsW _ countState countRole, regsY, regsX _ countEpoch countHolder, ← Dev.nat]
  obtain ⟨r, hr⟩ : ∃ r, r = z.raise Code.TAKEOVER Kind.device 0 := ⟨_, rfl⟩
  rw [← hr] at made
  have keepsR : z.Keeps r [.od, .log, .event] := by rw [hr]; exact Dev.keeps_raise _ _ _ _ _ _
  have keepsE : r.Keeps e [.od, .dom, .gen, .safe] := by rw [made]; exact r.keeps_endSession
  have regsE : ∀ k ∈ [Reg.R5801_ROLE, Reg.R1001_DEV_STATE, Reg.R5801_STORED_EPOCH, Reg.R5801_HOLDER, Reg.R5801_TAKEOVERS], e.reg k = z.reg k := fun k hk => by
    obtain ⟨session, bank, log⟩ := out k hk
    rw [made, r.reg_endSession session bank, hr, Dev.reg_raise _ _ _ _ _ _ log]
  refine ⟨⟨acts.congr fun k hk => ?_, ?_, ?_, ?_⟩, ((((((keepsX.mono (by decide)).step keepsY).step keepsW).step keepsZ).step keepsR).step keepsE)⟩
  · have mem : k ∈ [Reg.R5801_ROLE, Reg.R1001_DEV_STATE, Reg.R5801_STORED_EPOCH, Reg.R5801_HOLDER, Reg.R5801_TAKEOVERS] :=
      List.mem_append_left [Reg.R5801_TAKEOVERS] hk
    rw [regsE k mem, eqZ, Dev.count, Dev.reg_set_other _ _ (countApart k hk)]
  · have pair : e.pair = y.pair := (((keepsE .pair (by decide)).trans (keepsR .pair (by decide))).trans (keepsZ .pair (by decide))).trans (keepsW .pair (by decide))
    rw [pair, pairY]
  · rw [Dev.nat, regsE _ (by simp), ← Dev.nat, counted]
  · have last : r.LastRaised Code.TAKEOVER Kind.device 0 := by rw [hr]; exact z.lastRaised_raise _ _ _ _ _
    exact last.of_keeps keepsE

/-! ## A partner that is lost -/

/-- The partner reported lost: no change of the unit's own state and role. -/
structure Dev.Reports (b a : Dev) : Prop where
  state : a.state = b.state
  told : a.pair.lostTold = true
  raised : b.pair.lostTold = false → a.LastRaised Code.PARTNER_LOST Kind.device 0
  role : a.nat Reg.R5801_ROLE = b.nat Reg.R5801_ROLE

theorem Dev.endGen_spec (d : Dev) : (d.endGen_).pair.lostTold = d.pair.lostTold := by
  unfold Dev.endGen_
  split
  · rfl
  · rfl

theorem partnerLostRegs : ∀ k ∈ [Reg.R1001_DEV_STATE, Reg.R5801_ROLE], k ∉ hoardRegs ∧ k ∉ logRegs := by decide +kernel

theorem Dev.partnerLost_reports (d : Dev) (made : e = d.partnerLost) : d.Reports e ∧ d.Keeps e hoardParts := by
  unfold Dev.partnerLost at made
  split at made
  next told =>
    rw [made]
    exact ⟨⟨rfl, told, fun no => absurd told (by rw [no]; decide), rfl⟩, Dev.Keeps.refl _ _⟩
  next untold =>
    obtain ⟨x, hx⟩ : ∃ x, x = d.setPair fun p => { p with lostTold := true } := ⟨_, rfl⟩
    obtain ⟨r, hr⟩ : ∃ r, r = x.raise Code.PARTNER_LOST Kind.device 0 := ⟨_, rfl⟩
    rw [← hx, ← hr] at made
    have keepsX : d.Keeps x [.pair] := by rw [hx]; exact d.keeps_setPair _
    have keepsR : x.Keeps r [.od, .log, .event] := by rw [hr]; exact Dev.keeps_raise _ _ _ _ _ _
    have keepsE : r.Keeps e [.od, .pair] := by
      rw [made]
      unfold Dev.endGen_
      split
      · exact Dev.Keeps.refl _ _
      · exact ((((Dev.keeps_pair _ _).mono (by decide)).set _ _).set _ _).set _ _
    have regs : ∀ k ∈ [Reg.R1001_DEV_STATE, Reg.R5801_ROLE], e.reg k = d.reg k := fun k hk => by
      obtain ⟨hoard, log⟩ := partnerLostRegs k hk
      rw [made, r.reg_endGen_ hoard, hr, Dev.reg_raise _ _ _ _ _ _ log, Dev.reg_congr (keepsX .od (by decide))]
    have pairR : r.pair = x.pair := keepsR .pair (by decide)
    have last : r.LastRaised Code.PARTNER_LOST Kind.device 0 := by rw [hr]; exact x.lastRaised_raise _ _ _ _ _
    refine ⟨⟨congrArg Int.toNat (regs _ (by simp)), ?_, fun _ => last.of_keeps keepsE, congrArg Int.toNat (regs _ (by simp))⟩,
      ((keepsX.mono (by decide)).step keepsR).step keepsE⟩
    rw [made, r.endGen_spec, pairR, hx]
    rfl

end

end Sys2Proof.Machine
end

section
/-! # The start of a pair (R411) -/

namespace Sys2Proof.Machine

section
variable {s : State} (live : s.Live)
include live

/-- A command of the pair that changes no counters and no memory. -/
theorem pair_leaves {i : Instr} (g : Dev → Dev) {e : Dev} {l : List Part} (result : g s.found = e) (keeps : s.found.Keeps e l)
    (within : ∀ p ∈ [Part.clk, .mem], p ∉ l := by decide) (hi : exec i s = s.answerDry fun d => d.live g := by rfl) : Leaves i s e :=
  .dry (guard := fun d => d.live) g live.passes result keeps within hi

theorem pair_idle {i : Instr} (g : Dev → Dev) (result : g s.found = s.found) (hi : exec i s = s.answerDry fun d => d.live g := by rfl) :
    Does i s fun b a => b.Keeps a [] := Leaves.unchanged (pair_leaves live (l := []) g result (Dev.Keeps.refl _ _) (hi := hi))

/-! ## The start of a pair -/

section
variable {t : Nat} (listens : s.found.pair.listenAt = some t)
include listens

theorem listenEnd_early (early : s.found.tickAbs < t + 32) : Does .partnerListenEnd s fun b a => b.Keeps a [] := by
  refine pair_idle live (fun d => d.partnerListenEnd) ?_
  show s.found.partnerListenEnd = _
  rw [Dev.partnerListenEnd, listens]
  exact if_neg fun ⟨_, _, _, over_⟩ => absurd over_ (Nat.not_le.2 early)

variable (waits : s.found.paired = true ∧ s.found.inSync = true ∧ s.found.state = DevState.syncing) (due : t + 32 ≤ s.found.tickAbs)
include waits due

omit live in
theorem Dev.listenEnd_eq {x : Dev} (hx : x = s.found.setPair fun p => { p with listenAt := none }) : s.found.partnerListenEnd =
    if x.hearsActive then x.hibernateNow
    else if x.pairMode = 1 ∧ x.flag (act Reg.R5800_PRIMARY) = true then x.becomeActive (nextEpoch x.knownEpoch)
    else (x.setPair fun p => { p with secondAt := if x.pairMode = 1 then some x.clk.cycle64 else none }).pairListen := by
  rw [Dev.partnerListenEnd, listens, hx]
  exact if_pos ⟨waits.1, waits.2.1, waits.2.2, due⟩

theorem listenEnd_sleeps (hears : s.found.hearsActive = true) : Does .partnerListenEnd s fun _ a => a.Sleeps := by
  obtain ⟨x, hx⟩ : ∃ x, x = s.found.setPair fun p => { p with listenAt := none } := ⟨_, rfl⟩
  obtain ⟨e, made⟩ : ∃ e, e = x.hibernateNow := ⟨_, rfl⟩
  have hearsX : x.hearsActive = true := by rw [hx]; exact hears
  have keepsX : s.found.Keeps x [.pair] := by rw [hx]; exact s.found.keeps_setPair _
  obtain ⟨sleeps, keeps⟩ := Dev.hibernateNow_sleeps x made
  have result : s.found.partnerListenEnd = e := by rw [Dev.listenEnd_eq listens waits due hx, if_pos hearsX, made]
  exact (pair_leaves live (fun d => d.partnerListenEnd) result ((keepsX.mono (by decide)).andThen keeps)).does fun _ _ => ⟨sleeps.role, sleeps.state⟩

variable (quiet : s.found.hearsActive = false) (duplex : s.found.pairMode = 1)
include quiet duplex

theorem listenEnd_acts (primary : s.found.flag (act Reg.R5800_PRIMARY) = true) : Does .partnerListenEnd s fun b a =>
    a.ActiveNow (nextEpoch b.knownEpoch) (b.node Reg.R1400_NODE_ID) := by
  obtain ⟨x, hx⟩ : ∃ x, x = s.found.setPair fun p => { p with listenAt := none } := ⟨_, rfl⟩
  obtain ⟨e, made⟩ : ∃ e, e = x.becomeActive (nextEpoch x.knownEpoch) := ⟨_, rfl⟩
  have quietX : ¬x.hearsActive = true := by rw [hx]; exact Bool.eq_false_iff.1 quiet
  have goX : x.pairMode = 1 ∧ x.flag (act Reg.R5800_PRIMARY) = true := by rw [hx]; exact ⟨duplex, primary⟩
  have epoch : x.knownEpoch = s.found.knownEpoch := by rw [hx]; rfl
  have keepsX : s.found.Keeps x [.pair] := by rw [hx]; exact s.found.keeps_setPair _
  obtain ⟨acts, keeps⟩ := Dev.becomeActive_acts x _ made
  rw [epoch, Dev.node_congr (keepsX .od (by decide))] at acts
  have result : s.found.partnerListenEnd = e := by rw [Dev.listenEnd_eq listens waits due hx, if_neg quietX, if_pos goX, made]
  exact (pair_leaves live (fun d => d.partnerListenEnd) result ((keepsX.mono (by decide)).andThen keeps)).does fun _ _ =>
    ⟨acts.role, acts.state, acts.epoch, acts.holder⟩

theorem listenEnd_waits (secondary : s.found.flag (act Reg.R5800_PRIMARY) = false) : Does .partnerListenEnd s fun b a =>
    a.state = b.state ∧ a.pair.secondAt = some b.clk.cycle64 ∧ a.pair.listenAt = none := by
  obtain ⟨x, hx⟩ : ∃ x, x = s.found.setPair fun p => { p with listenAt := none } := ⟨_, rfl⟩
  obtain ⟨e, made⟩ : ∃ e, e = x.setPair fun p => { p with secondAt := if x.pairMode = 1 then some x.clk.cycle64 else none } := ⟨_, rfl⟩
  have quietX : ¬x.hearsActive = true := by rw [hx]; exact Bool.eq_false_iff.1 quiet
  have primaryX : x.flag (act Reg.R5800_PRIMARY) = false := by rw [hx]; exact secondary
  have duplexX : x.pairMode = 1 := by rw [hx]; exact duplex
  have keepsX : s.found.Keeps x [.pair] := by rw [hx]; exact s.found.keeps_setPair _
  have keepsE : x.Keeps e [.pair] := by rw [made]; exact x.keeps_setPair _
  have keeps : s.found.Keeps e [.pair] := keepsX.step keepsE
  have odE : e.od = s.found.od := keeps .od (by decide)
  have stays : e.pairListen = e := by
    have quietE : ¬e.hearsActive = true := by rw [made]; exact quietX
    have duplexE : e.pairMode ≠ 2 := by
      have same : e.pairMode = s.found.pairMode := congrArg Int.toNat (Dev.reg_congr odE _)
      rw [same, duplex]
      decide
    exact ite_eq_left_iff.2 fun _ => (if_neg quietE).trans (if_neg duplexE)
  have result : s.found.partnerListenEnd = e := by
    rw [Dev.listenEnd_eq listens waits due hx, if_neg quietX, if_neg (by rw [primaryX]; simp), ← made, stays]
  have second : e.pair.secondAt = some s.found.clk.cycle64 := by
    rw [made]
    show (if x.pairMode = 1 then some x.clk.cycle64 else none) = _
    rw [if_pos duplexX, hx]
    rfl
  have state : e.state = s.found.state := congrArg Int.toNat (Dev.reg_congr odE _)
  have listen : e.pair.listenAt = none := by rw [made, hx]; rfl
  exact (pair_leaves live (fun d => d.partnerListenEnd) result keeps).quietly (keeps .event (by decide)) ⟨state, second, listen⟩

end

section
variable {c : Nat} (second : s.found.pair.secondAt = some c)
include second

theorem secondary_early (early : s.found.clk.cycle64 < c + 4000) : Does .duplexSecondaryTimeout s fun b a => b.Keeps a [] := by
  refine pair_idle live (fun d => d.duplexSecondary) ?_
  show s.found.duplexSecondary = _
  rw [Dev.duplexSecondary, second]
  exact if_neg fun ⟨_, _, over_⟩ => absurd over_ (Nat.not_le.2 early)

variable (sync : s.found.inSync = true) (syncing : s.found.state = DevState.syncing) (due : c + 4000 ≤ s.found.clk.cycle64)
include sync syncing due

omit live in
theorem Dev.secondary_eq : s.found.duplexSecondary =
    if s.found.hearsActive then s.found.hibernateNow else s.found.becomeActive (nextEpoch s.found.knownEpoch) := by
  rw [Dev.duplexSecondary, second]
  exact if_pos ⟨syncing, sync, due⟩

theorem secondary_sleeps (hears : s.found.hearsActive = true) : Does .duplexSecondaryTimeout s fun _ a => a.Sleeps := by
  obtain ⟨e, made⟩ : ∃ e, e = s.found.hibernateNow := ⟨_, rfl⟩
  obtain ⟨sleeps, keeps⟩ := Dev.hibernateNow_sleeps s.found made
  have result : s.found.duplexSecondary = e := by rw [Dev.secondary_eq second sync syncing due, if_pos hears, made]
  exact (pair_leaves live (fun d => d.duplexSecondary) result keeps).does fun _ _ => ⟨sleeps.role, sleeps.state⟩

theorem secondary_acts (quiet : s.found.hearsActive = false) : Does .duplexSecondaryTimeout s fun b a =>
    a.ActiveNow (nextEpoch b.knownEpoch) (b.node Reg.R1400_NODE_ID) := by
  obtain ⟨e, made⟩ : ∃ e, e = s.found.becomeActive (nextEpoch s.found.knownEpoch) := ⟨_, rfl⟩
  obtain ⟨acts, keeps⟩ := Dev.becomeActive_acts s.found _ made
  have result : s.found.duplexSecondary = e := by rw [Dev.secondary_eq second sync syncing due, if_neg (Bool.eq_false_iff.1 quiet), made]
  exact (pair_leaves live (fun d => d.duplexSecondary) result keeps).does fun _ _ => ⟨acts.role, acts.state, acts.epoch, acts.holder⟩

end
end

end Sys2Proof.Machine
end

section
/-! # Silence and the FAIL record (R411, R423) -/

namespace Sys2Proof.Machine

section
variable {s : State} (live : s.Live)
include live

theorem takesOver_does {i : Instr} (g : Dev → Dev) {x e : Dev} {l : List Part} (before : s.found.Keeps x l) (od : ∀ k, k ≠ Reg.R5801_LAST_CAUSE → x.reg k = s.found.reg k)
    (windows : x.pair.windows = s.found.pair.windows) (made : e = x.takeOver (nextEpoch x.knownEpoch)) (result : g s.found = e)
    (narrow : ∀ p ∈ l, p ∈ [Part.pair, .od, .ph] := by decide) (hi : exec i s = s.answerDry fun d => d.live g := by rfl) :
    Does i s fun b a => b.TakesOver a (nextEpoch b.knownEpoch) := by
  have epoch : x.knownEpoch = s.found.knownEpoch := by
    unfold Dev.knownEpoch
    rw [windows, Dev.nat, od _ (by decide), ← Dev.nat]
  obtain ⟨takes, keeps⟩ := Dev.takeOver_takes x _ made
  have keepsX : s.found.Keeps x [.pair, .od, .ph] := before.mono narrow
  have clk : x.clk = s.found.clk := keepsX .clk (by decide)
  have node : x.node Reg.R1400_NODE_ID = s.found.node Reg.R1400_NODE_ID := by
    simp only [Dev.node, Dev.nat]
    rw [od _ (by decide)]
  have decision : e.pair.takeover = some s.found.tickAbs := by rw [takes.decision, Dev.tickAbs, clk, ← Dev.tickAbs]
  have counted : e.nat Reg.R5801_TAKEOVERS = min (s.found.nat Reg.R5801_TAKEOVERS + 1) 0xFFFFFFFF := by
    have same : x.nat Reg.R5801_TAKEOVERS = s.found.nat Reg.R5801_TAKEOVERS := congrArg Int.toNat (od _ (by decide))
    rw [takes.counted, same]
  have acts := takes.active
  rw [epoch, node] at acts
  exact (pair_leaves live g result ((keepsX.mono (m := .ph :: takeoverParts) (by decide)).step keeps) (hi := hi)).does fun _ _ =>
    ⟨⟨acts.role, acts.state, acts.epoch, acts.holder⟩, decision, counted, takes.raised.told _ _⟩

theorem reports_does {i : Instr} (g : Dev → Dev) {x e : Dev} {l : List Part} (before : s.found.Keeps x l) (od : ∀ k, k ≠ Reg.R5801_LAST_CAUSE → x.reg k = s.found.reg k)
    (lost : x.pair.lostTold = s.found.pair.lostTold) (made : e = x.partnerLost) (result : g s.found = e)
    (narrow : ∀ p ∈ l, p ∈ [Part.pair, .od, .ph] := by decide) (hi : exec i s = s.answerDry fun d => d.live g := by rfl) :
    Does i s fun b a => b.Reports a := by
  obtain ⟨reports, keeps⟩ := Dev.partnerLost_reports x made
  have keepsX : s.found.Keeps x [.pair, .od, .ph] := before.mono narrow
  have state : e.state = s.found.state := reports.state.trans (congrArg Int.toNat (od _ (by decide)))
  have role : e.nat Reg.R5801_ROLE = s.found.nat Reg.R5801_ROLE := reports.role.trans (congrArg Int.toNat (od _ (by decide)))
  exact (pair_leaves live g result ((keepsX.mono (m := .ph :: hoardParts) (by decide)).step keeps) (hi := hi)).does fun _ _ =>
    ⟨state, reports.told, fun untold => (reports.raised (lost.trans untold)).told _ _, role⟩

section
variable {f : FrameIn} {r : RecordIn} (fails : s.found.recordIn 9 f = some r)
include fails

omit live in
/-- What a FAIL record leaves before the unit decides. -/
theorem failRecord_eq (duplex : s.found.pairMode = 1) {x : Dev}
    (hx : x = (s.found.setPair fun p => { p with failRx := true }).set Reg.R5801_LAST_CAUSE (fieldLE r.data 0 2)) :
    s.found.failRecord f = if s.found.standsBy = false then s.found else x.takeoverRow := by
  have mode : x.pairMode = 1 := by
    have same : x.pairMode = s.found.pairMode := by
      rw [hx]
      exact congrArg Int.toNat (Dev.reg_set_other _ _ (by decide))
    rw [same, duplex]
  rw [Dev.failRecord, fails]
  dsimp only
  rw [← hx, if_pos mode]
  cases s.found.standsBy <;> rfl

theorem failRecord_active (stands : s.found.standsBy = false) (duplex : s.found.pairMode = 1) : Does (.failRecord f) s fun b a => b.Keeps a [] :=
  pair_idle live (fun d => d.failRecord f) ((failRecord_eq fails duplex rfl).trans (if_pos stands))

variable (duplex : s.found.pairMode = 1)
include duplex

theorem failRecord_takes (ready : s.found.state = DevState.standbyReady) : Does (.failRecord f) s fun b a => b.TakesOver a (nextEpoch b.knownEpoch) := by
  obtain ⟨x, hx⟩ : ∃ x, x = (s.found.setPair fun p => { p with failRx := true }).set Reg.R5801_LAST_CAUSE (fieldLE r.data 0 2) := ⟨_, rfl⟩
  obtain ⟨e, made⟩ : ∃ e, e = x.takeOver (nextEpoch x.knownEpoch) := ⟨_, rfl⟩
  have keepsX : s.found.Keeps x [.pair, .od] := by rw [hx]; exact ((s.found.keeps_setPair _).mono (by decide)).set _ _
  have regs : ∀ k, k ≠ Reg.R5801_LAST_CAUSE → x.reg k = s.found.reg k := fun k own => by
    rw [hx, Dev.reg_set_other _ _ own]
    rfl
  have stands : ¬s.found.standsBy = false := by
    rw [Dev.standsBy, ready]
    decide
  have state : x.state = DevState.standbyReady := (congrArg Int.toNat (regs _ (by decide))).trans ready
  have result : s.found.failRecord f = e := by rw [failRecord_eq fails duplex hx, if_neg stands, Dev.takeoverRow, if_pos state, made]
  exact takesOver_does live (fun d => d.failRecord f) keepsX regs (by rw [hx]; rfl) made result

theorem failRecord_reports (sleeps : s.found.state = DevState.hibernate) : Does (.failRecord f) s fun b a => b.Reports a := by
  obtain ⟨x, hx⟩ : ∃ x, x = (s.found.setPair fun p => { p with failRx := true }).set Reg.R5801_LAST_CAUSE (fieldLE r.data 0 2) := ⟨_, rfl⟩
  obtain ⟨e, made⟩ : ∃ e, e = x.partnerLost := ⟨_, rfl⟩
  have keepsX : s.found.Keeps x [.pair, .od] := by rw [hx]; exact ((s.found.keeps_setPair _).mono (by decide)).set _ _
  have regs : ∀ k, k ≠ Reg.R5801_LAST_CAUSE → x.reg k = s.found.reg k := fun k own => by
    rw [hx, Dev.reg_set_other _ _ own]
    rfl
  have stands : ¬s.found.standsBy = false := by
    rw [Dev.standsBy, sleeps]
    decide
  have state : x.state ≠ DevState.standbyReady := by
    have same : x.state = DevState.hibernate := (congrArg Int.toNat (regs _ (by decide))).trans sleeps
    rw [same]
    decide
  have result : s.found.failRecord f = e := by rw [failRecord_eq fails duplex hx, if_neg stands, Dev.takeoverRow, if_neg state, made]
  exact reports_does live (fun d => d.failRecord f) keepsX regs (by rw [hx]; rfl) made result

end

theorem failRecord_other {f : FrameIn} (none_ : s.found.recordIn 9 f = none) : Does (.failRecord f) s fun b a => b.Keeps a [] :=
  pair_idle live (fun d => d.failRecord f) (by show s.found.failRecord f = _; rw [Dev.failRecord, none_])

section
variable (duplex : s.found.pairMode = 1) (stands : s.found.standsBy = true)
include duplex stands

omit live in
theorem silence_eq {x : Dev} (hx : x = s.found.at 28000) : s.found.silence =
    if s.found.within s.found.pair.hbActive 24 = true then x
    else if s.found.within s.found.pair.netTick 24 = true then x.partnerLost
    else if s.found.consumers = (true, false) then x.takeoverRow else x.partnerLost := by
  have same : x.consumers = s.found.consumers := by rw [hx]; rfl
  rw [Dev.silence, if_neg (not_not.2 duplex)]
  dsimp only
  rw [← hx, if_pos (show x.standsBy = true by rw [hx]; exact stands)]
  have hb : x.within x.pair.hbActive 24 = s.found.within s.found.pair.hbActive 24 := by rw [hx]; rfl
  have net : x.within x.pair.netTick 24 = s.found.within s.found.pair.netTick 24 := by rw [hx]; rfl
  rw [hb, net, same]
  congr 2
  obtain ⟨a, b⟩ := s.found.consumers
  cases a <;> cases b <;> rfl

theorem silence_heard (heard : s.found.within s.found.pair.hbActive 24 = true) : Does .silenceEvaluation s fun b a => b.Keeps a [.ph] := by
  obtain ⟨e, made⟩ : ∃ e, e = s.found.at 28000 := ⟨_, rfl⟩
  have keeps : s.found.Keeps e [.ph] := by rw [made]; exact s.found.keeps_at _
  have result : s.found.silence = e := by rw [silence_eq duplex stands made, if_pos heard]
  exact (pair_leaves live (fun d => d.silence) result keeps).quietly (keeps .event (by decide)) keeps

variable (silent : s.found.within s.found.pair.hbActive 24 = false)
include silent

theorem silence_reports (no : s.found.within s.found.pair.netTick 24 = true ∨ (s.found.within s.found.pair.netTick 24 = false ∧
    (s.found.consumers ≠ (true, false) ∨ s.found.state = DevState.hibernate))) : Does .silenceEvaluation s fun b a => b.Reports a := by
  obtain ⟨x, hx⟩ : ∃ x, x = s.found.at 28000 := ⟨_, rfl⟩
  obtain ⟨e, made⟩ : ∃ e, e = x.partnerLost := ⟨_, rfl⟩
  have keepsX : s.found.Keeps x [.ph] := by rw [hx]; exact s.found.keeps_at _
  have regs : ∀ k, x.reg k = s.found.reg k := Dev.reg_congr (keepsX .od (by decide))
  have result : s.found.silence = e := by
    rw [silence_eq duplex stands hx, if_neg (by rw [silent]; decide), made]
    rcases no with net | ⟨quiet, other⟩
    · rw [if_pos net]
    · rw [if_neg (by rw [quiet]; decide)]
      split
      next all =>
        have sleeps := other.resolve_left fun differ => differ all
        have state : x.state ≠ DevState.standbyReady := by
          have same : x.state = DevState.hibernate := (congrArg Int.toNat (regs _)).trans sleeps
          rw [same]
          decide
        rw [Dev.takeoverRow, if_neg state]
      next => rfl
  exact reports_does live (fun d => d.silence) keepsX (fun k _ => regs k) (by rw [hx]; rfl) made result

theorem silence_takes (quiet : s.found.within s.found.pair.netTick 24 = false) (all : s.found.consumers = (true, false))
    (ready : s.found.state = DevState.standbyReady) : Does .silenceEvaluation s fun b a => b.TakesOver a (nextEpoch b.knownEpoch) := by
  obtain ⟨x, hx⟩ : ∃ x, x = s.found.at 28000 := ⟨_, rfl⟩
  obtain ⟨e, made⟩ : ∃ e, e = x.takeOver (nextEpoch x.knownEpoch) := ⟨_, rfl⟩
  have keepsX : s.found.Keeps x [.ph] := by rw [hx]; exact s.found.keeps_at _
  have regs : ∀ k, x.reg k = s.found.reg k := Dev.reg_congr (keepsX .od (by decide))
  have state : x.state = DevState.standbyReady := (congrArg Int.toNat (regs _)).trans ready
  have result : s.found.silence = e := by
    rw [silence_eq duplex stands hx, if_neg (by rw [silent]; decide), if_neg (by rw [quiet]; decide), if_pos all, Dev.takeoverRow, if_pos state, made]
  exact takesOver_does live (fun d => d.silence) keepsX (fun k _ => regs k) (by rw [hx]; rfl) made result

end

theorem silence_other (other : s.found.pairMode ≠ 1) : Does .silenceEvaluation s fun b a => b.Keeps a [] :=
  pair_idle live (fun d => d.silence) (if_pos other)

end

end Sys2Proof.Machine
end

section
/-! # A unit that fails, the Owl and its loss (R411, R414, R418, R424) -/

namespace Sys2Proof.Machine

section
variable {d e f : Dev}

/-- The unit has failed: silent, with no permit and no safe output on. -/
structure Dev.Failed (d : Dev) : Prop where
  state : d.state = DevState.failed
  role : d.nat Reg.R5801_ROLE = 4
  silent : d.link.silent = true
  permits : ∀ n < 128, d.flag (Reg.R5080_PERMIT n) = false
  outs : ∀ k < 8, (d.safeOut k).swA = false ∧ (d.safeOut k).swB = false

/-- The parts a failure changes. -/
abbrev failParts : List Part := [.link, .dom, .gen] ++ safeParts

theorem Dev.outs_endSession (d : Dev) : d.endSession.safe.outs = d.safe.outs := by
  by_cases h : d.safe.session = none
  · rw [Dev.endSession, if_pos (by simp [h])]
  · have same : d.sessionOver.banksDropped.safe = d.sessionOver.safe := (Dev.keeps_banksDropped _) .safe (by decide)
    rw [Dev.endSession_ends h, same]
    rfl

theorem failRegs : (∀ k ∈ [Reg.R1001_DEV_STATE, Reg.R5801_ROLE], (k ≠ Reg.R5000_SESSION_STATE ∧ k ≠ Reg.R5000_SESSION_PATH) ∧
    bankOf (k / 256) (k % 256) = 0 ∧ k ∉ logRegs ∧ (k / 256 < 0x5080 ∨ 0x5100 ≤ k / 256)) ∧
    Reg.R1001_DEV_STATE ≠ Reg.R5801_ROLE := by decide +kernel

theorem permit_sessionless {n : Nat} (hn : n < 128) : (Reg.R5080_PERMIT n ≠ Reg.R5000_SESSION_STATE ∧ Reg.R5080_PERMIT n ≠ Reg.R5000_SESSION_PATH) ∧
    bankOf (Reg.R5080_PERMIT n / 256) (Reg.R5080_PERMIT n % 256) = 0 := by
  revert n
  decide +kernel

theorem permit_outside {k m : Nat} (hm : m < 128) (out : k / 256 < 0x5080 ∨ 0x5100 ≤ k / 256) : k ≠ Reg.R5080_PERMIT m := by
  rintro rfl
  simp only [Reg.R5080_PERMIT, Reg.key] at out
  omega

/-- Entries of the roles are no entry of a reaction. -/
theorem role_not_reactionReg : ∀ k ∈ [Reg.R1001_DEV_STATE, Reg.R5801_ROLE], ¬ReactionReg (· < 256) (· < 16) k := by
  intro k hk
  have apart : k ∉ logRegs ∧ k / 4096 ≠ 0x343 ∧ (k / 4096 < 0x200 ∨ 0x300 ≤ k / 4096) ∧ (k / 256 < 0x5080 ∨ 0x5180 ≤ k / 256) ∧
      (k / 4096 < 0x200 ∨ 0x580 ≤ k / 4096) := by
    revert k
    decide +kernel
  obtain ⟨log, gen, axis, permit, chain⟩ := apart
  rintro (⟨n, -, hn, ax⟩ | ⟨c, -, hc, ch⟩ | is | is)
  · omega
  · simp only [Reg.CH5_CONTROL, Reg.key] at ch; omega
  · exact gen is
  · exact log is

theorem Dev.toFailed_fails (d : Dev) (cause : Nat) (made : e = d.toFailed cause) : e.Failed ∧ d.Keeps e failParts := by
  obtain ⟨out, apart⟩ := failRegs
  obtain ⟨l, hl⟩ : ∃ l, l = d.setLink fun l => { l with silent := true } := ⟨_, rfl⟩
  obtain ⟨o, ho⟩ : ∃ o, o = l.outputsOff := ⟨_, rfl⟩
  obtain ⟨g, hg⟩ : ∃ g, g = o.goTo DevState.failed := ⟨_, rfl⟩
  obtain ⟨r, hr⟩ : ∃ r, r = g.set Reg.R5801_ROLE 4 := ⟨_, rfl⟩
  obtain ⟨t, ht⟩ : ∃ t, t = r.stoAll cause := ⟨_, rfl⟩
  obtain ⟨p, hp⟩ : ∃ p, p = t.permitsOff := ⟨_, rfl⟩
  have eq : e = p.endSession := by
    rw [made, Dev.toFailed, Dev.fallSilent, ← hl, ← ho, ← hg]
    erw [← hr]
    rw [← ht, ← hp]
  have keepsL : d.Keeps l [.link] := by rw [hl]; exact d.keeps_setLink _
  have keepsO : l.Keeps o [.od, .safe] := by rw [ho]; exact l.keeps_outputsOff
  have keepsG : o.Keeps g [.od, .event, .sett] := by rw [hg]; exact o.keeps_goTo _
  have keepsR : g.Keeps r [.od] := by rw [hr]; exact Dev.keeps_set _ _ _
  have reacts : r.AxesReact t := by rw [ht]; exact r.stoAll_reacts cause
  have keepsP : t.Keeps p [.od] := by rw [hp]; exact t.keeps_permitsOff
  have keepsE : p.Keeps e [.od, .dom, .gen, .safe] := by rw [eq]; exact p.keeps_endSession
  have regs : ∀ k ∈ [Reg.R1001_DEV_STATE, Reg.R5801_ROLE], e.reg k = r.reg k := fun k hk => by
    obtain ⟨session, bank, -, permit⟩ := out k hk
    rw [eq, p.reg_endSession session bank, hp, t.reg_permitsOff_other fun m hm => permit_outside hm permit, reacts.regs k (role_not_reactionReg k hk)]
  have linkE : e.link = l.link :=
    ((((keepsE .link (by decide)).trans (keepsP .link (by decide))).trans (reacts.keeps .link (by decide))).trans
      ((keepsR .link (by decide)).trans (keepsG .link (by decide)))).trans (keepsO .link (by decide))
  have outsE : e.safe.outs = o.safe.outs := by
    rw [eq, p.outs_endSession, keepsP .safe (by decide), reacts.outs, keepsR .safe (by decide), keepsG .safe (by decide)]
  refine ⟨⟨?_, ?_, ?_, fun n hn => ?_, fun k hk => ?_⟩,
    ((((((keepsL.mono (by decide)).step keepsO).step keepsG).step keepsR).step reacts.keeps).step keepsP).step keepsE⟩
  · have low : g.state = DevState.failed := by rw [hg]; exact o.state_goTo (by decide)
    rw [Dev.state, Dev.nat, regs _ (by simp), hr, Dev.reg_set_other _ _ apart]
    exact low
  · rw [Dev.nat, regs _ (by simp), hr]
    exact Dev.nat_set_same (n := 4) _ roleRegs.1 rfl (by decide)
  · rw [linkE, hl]
    rfl
  · obtain ⟨session, bank⟩ := permit_sessionless hn
    rw [Dev.flag, eq, p.reg_endSession session bank, hp]
    exact t.permit_permitsOff hn
  · have off := l.allOff.outs k hk
    have safe : l.outputsOff.permitsOff.safe = l.outputsOff.safe := (Dev.keeps_permitsOff _) .safe (by decide)
    rw [Dev.safeOut_congr (congrArg SafeDom.outs safe), ← ho] at off
    rw [Dev.safeOut_congr outsE]
    exact ⟨off.1, off.2.1⟩

/-- The active unit sends its FAIL record, and fails. -/
theorem Dev.unitFails_fails (d : Dev) (cause : Nat) (active : d.active = true) (made : e = d.unitFails cause) : e.Failed ∧ d.Keeps e (.log :: failParts) := by
  unfold Dev.unitFails at made
  rw [if_pos active] at made
  extract_lets epoch r x y at made
  have keepsX : d.Keeps x [.od] := Dev.Keeps.each _ _ (fun _ f => f.keeps_send _ _ _) d
  have keepsY : x.Keeps y [.od, .log, .event] := ((Dev.Keeps.refl _ _).set _ _).step (Dev.keeps_raise _ _ _ _ _ _)
  clear_value x y
  obtain ⟨fails, keeps⟩ := Dev.toFailed_fails y cause made
  exact ⟨fails, ((keepsX.mono (by decide)).step keepsY).step keeps⟩

end

section
variable {s : State} (live : s.Live)
include live

/-- What a failure of the unit does by its role and state. -/
theorem unitFails_does {i : Instr} (g : Dev → Dev) {x : Dev} {cause : Nat} {l : List Part} (before : s.found.Keeps x l)
    (regs : ∀ k ∈ [Reg.R1001_DEV_STATE, Reg.R5801_ROLE, act Reg.R5800_PAIR_MODE], x.reg k = s.found.reg k) (small : cause < 2 ^ 16)
    (result : g s.found = x.unitFails cause) (narrow : ∀ p ∈ l, p ∈ [Part.od, .log, .event, .fresh] := by decide)
    (hi : exec i s = s.answerDry fun d => d.live g := by rfl) :
    (s.found.active = true → Does i s fun _ a => a.Failed) ∧
    (s.found.active = false → s.found.state = DevState.run → Does i s fun _ a => a.state = DevState.safe) ∧
    (s.found.active = false → s.found.state ≠ DevState.run → Does i s fun b a => a.state = b.state ∧ a.axes = b.axes) := by
  have keepsX : s.found.Keeps x [.od, .log, .event, .fresh] := before.mono narrow
  have state : x.state = s.found.state := congrArg Int.toNat (regs _ (by simp))
  have active : x.active = s.found.active := by
    simp only [Dev.active, Dev.paired, Dev.nat]
    rw [regs Reg.R5801_ROLE (by simp), regs (act Reg.R5800_PAIR_MODE) (by simp)]
  obtain ⟨e, made⟩ : ∃ e, e = x.unitFails cause := ⟨_, rfl⟩
  rw [← made] at result
  refine ⟨fun yes => ?_, fun no run => ?_, fun no other => ?_⟩
  · obtain ⟨fails, keeps⟩ := Dev.unitFails_fails x cause (active.trans yes) made
    exact (pair_leaves live g result ((keepsX.mono (m := .fresh :: .log :: failParts) (by decide)).step keeps) (hi := hi)).does fun _ _ =>
      ⟨fails.state, fails.role, fails.silent, fails.permits, fails.outs⟩
  · have safe : e = x.enterSafe cause := by
      rw [made, Dev.unitFails, if_neg (by rw [active, no]; decide), if_pos (state.trans run)]
    have shows : e.state = DevState.safe := by rw [safe]; exact (x.enterSafe_shows small).1
    have keeps : x.Keeps e safeParts := by rw [safe]; exact x.keeps_enterSafe _
    exact (pair_leaves live g result ((keepsX.mono (m := .fresh :: safeParts) (by decide)).step keeps) (hi := hi)).does fun _ _ => shows
  · have stays : e = x := by
      rw [made, Dev.unitFails, if_neg (by rw [active, no]; decide), if_neg (by rw [state]; exact other)]
    have axes : e.axes = s.found.axes := by rw [stays]; exact keepsX .axes (by decide)
    exact (pair_leaves live g (result.trans stays) keepsX (hi := hi)).does fun _ _ => ⟨state, by rw [stays] at axes; exact axes⟩

omit live in
theorem Dev.shadowCheck_idle (d : Dev) {agree : Bool} (no : agree = true ∨ d.clk.tick ≠ 7) : d.shadowCheck agree = d := by
  unfold Dev.shadowCheck
  extract_lets sampled
  rw [if_pos (no.imp_right .inl)]

theorem shadowCheck_agrees : Does (.shadowCheck true) s fun b a => b.Keeps a [] :=
  pair_idle live (fun d => d.shadowCheck true) (s.found.shadowCheck_idle (.inl rfl))

theorem shadowCheck_early (early : s.found.clk.tick ≠ 7) : Does (.shadowCheck false) s fun b a => b.Keeps a [] :=
  pair_idle live (fun d => d.shadowCheck false) (s.found.shadowCheck_idle (.inr early))

theorem shadowCheck_fails (last : s.found.clk.tick = 7) (sampled : ∃ n < 128, s.found.cycle % 128 ≤ n ∧ s.found.evaluates n = true) :
    (s.found.active = true → Does (.shadowCheck false) s fun _ a => a.Failed) ∧
    (s.found.active = false → s.found.state = DevState.run → Does (.shadowCheck false) s fun _ a => a.state = DevState.safe) ∧
    (s.found.active = false → s.found.state ≠ DevState.run → Does (.shadowCheck false) s fun b a => a.state = b.state ∧ a.axes = b.axes) := by
  have differs : (List.range 128).any (fun n => decide (s.found.cycle % 128 ≤ n) && s.found.evaluates n) = true := by
    obtain ⟨n, hn, after, evaluates⟩ := sampled
    exact List.any_eq_true.2 ⟨n, List.mem_range.2 hn, by rw [evaluates, decide_eq_true after]; rfl⟩
  obtain ⟨x, hx⟩ : ∃ x, x = s.found.raise Code.SHADOW_MISMATCH Kind.device 0 := ⟨_, rfl⟩
  have keepsX : s.found.Keeps x [.od, .log, .event] := by rw [hx]; exact Dev.keeps_raise _ _ _ _ _ _
  have result : s.found.shadowCheck false = x.unitFails Code.SHADOW_MISMATCH := by
    rw [Dev.shadowCheck, hx]
    refine if_neg ?_
    rw [differs]
    rintro (agree | early | none_)
    · exact absurd agree (by decide)
    · exact early last
    · exact absurd none_ (by decide)
  refine unitFails_does live (fun d => d.shadowCheck false) keepsX (fun k hk => ?_) (by decide) result
  have log : k ∉ logRegs := by
    revert k
    decide +kernel
  rw [hx, Dev.reg_raise _ _ _ _ _ _ log]

theorem lockstep_fails :
    (s.found.active = true → Does .lockstepMismatch s fun _ a => a.Failed) ∧
    (s.found.active = false → s.found.state = DevState.run → Does .lockstepMismatch s fun _ a => a.state = DevState.safe) ∧
    (s.found.active = false → s.found.state ≠ DevState.run → Does .lockstepMismatch s fun b a => a.state = b.state ∧ a.axes = b.axes) :=
  unitFails_does live (fun d => d.lockstepMismatch) (x := s.found.takeFresh.2) (cause := Config.lockstepCause s.found.fresh % 65536)
    s.found.keeps_takeFresh (fun _ _ => rfl) (Nat.mod_lt _ (by decide)) rfl

/-! ## The Owl -/

theorem owlDecision_idle (no : s.found.pairMode ≠ 3 ∨ s.found.clk.tick ≠ 7) : Does .owlDecision s fun b a => b.Keeps a [] :=
  Leaves.unchanged (.cell (guard := fun d => d.live) (l := []) (fun d => d.owlDecision) live.passes (if_pos no) (Dev.Keeps.refl _ _))

theorem owlDecision_grants {w : Bytes} (owl : s.found.pairMode = 3) (last : s.found.clk.tick = 7)
    (heard : mget none s.found.pair.windows s.found.partnerId = some (s.found.clk.cycle64, w)) (ready : fieldLE w 1 1 = DevState.standbyReady)
    (reports : fieldLE w 2 1 % 2 = 1) (other : s.found.nat Reg.R5801_HOLDER ≠ s.found.partnerId) : Does .owlDecision s fun b a =>
      a.reg Reg.R5801_STORED_EPOCH = (odType Reg.R5801_STORED_EPOCH).wrap (nextEpoch s.found.knownEpoch) ∧
      a.reg Reg.R5801_HOLDER = (odType Reg.R5801_HOLDER).wrap b.partnerId ∧
      b.KeepsRegs a [Reg.R5801_STORED_EPOCH, Reg.R5801_HOLDER] ∧ b.Keeps a [.ph, .od] := by
  obtain ⟨x, hx⟩ : ∃ x, x = s.found.at 28000 := ⟨_, rfl⟩
  obtain ⟨e, made⟩ : ∃ e, e = (x.set Reg.R5801_STORED_EPOCH (nextEpoch x.knownEpoch)).set Reg.R5801_HOLDER x.partnerId := ⟨_, rfl⟩
  have keepsX : s.found.Keeps x [.ph] := by rw [hx]; exact s.found.keeps_at _
  have regsX : ∀ k, x.reg k = s.found.reg k := Dev.reg_congr (keepsX .od (by decide))
  have epoch : x.knownEpoch = s.found.knownEpoch := by rw [hx]; rfl
  have partner : x.partnerId = s.found.partnerId := by rw [hx]; rfl
  have result : s.found.owlDecision = e := by
    unfold Dev.owlDecision
    rw [if_neg (by rw [owl, last]; decide), ← hx]
    extract_lets y c grant give
    have granted : grant x.partnerId x.owlId = true := by
      have window : mget none x.pair.windows x.partnerId = some (c, w) := by
        rw [partner]
        show mget none x.pair.windows _ = some (x.clk.cycle64, w)
        rw [hx]
        exact heard
      have holder : x.nat Reg.R5801_HOLDER ≠ x.partnerId := by rw [partner, Dev.nat, regsX]; exact other
      simp [grant, y, window, ready, reports, holder]
    rw [if_pos granted, made]
  have keeps : s.found.Keeps e [.ph, .od] := by
    rw [made]
    exact ((keepsX.mono (by decide)).set _ _).set _ _
  have stored : e.reg Reg.R5801_STORED_EPOCH = (odType Reg.R5801_STORED_EPOCH).wrap (nextEpoch s.found.knownEpoch) := by
    rw [made, Dev.reg_set_other _ _ roleRegs.2.2.2.2.2.1, Dev.reg_set_same, epoch]
  have holder : e.reg Reg.R5801_HOLDER = (odType Reg.R5801_HOLDER).wrap s.found.partnerId := by rw [made, Dev.reg_set_same, partner]
  have regs : s.found.KeepsRegs e [Reg.R5801_STORED_EPOCH, Reg.R5801_HOLDER] := fun k hk => by
    obtain ⟨a, b⟩ : k ≠ Reg.R5801_STORED_EPOCH ∧ k ≠ Reg.R5801_HOLDER := by simpa using hk
    rw [made, Dev.reg_set_other _ _ b, Dev.reg_set_other _ _ a, regsX]
  have leaves : Leaves .owlDecision s e := .cell (guard := fun d => d.live) (fun d => d.owlDecision) live.passes result keeps
  exact leaves.quietly (keeps .event (by decide)) ⟨stored, holder, regs, keeps⟩

theorem owlLost_idle (no : s.found.pairMode ≠ 2) : Does .owlLost s fun b a => b.Keeps a [] :=
  pair_idle live (fun d => d.owlLost) (if_pos no)

section
variable (owl : s.found.pairMode = 2) (silent : mget none s.found.pair.windows s.found.owlId = none)
include owl silent

omit live in
theorem Dev.owlLost_eq : s.found.owlLost =
    (s.found.when (!s.found.pair.owlTold) fun d => d.raise Code.OWL_LOST Kind.device 0).setPair fun p => { p with owlTold := true } := by
  rw [Dev.owlLost, if_neg (not_not.2 owl), silent]
  rfl

theorem owlLost_raises (untold : s.found.pair.owlTold = false) : Does .owlLost s fun _ a => a.pair.owlTold = true ∧ a.LastRaised Code.OWL_LOST Kind.device 0 := by
  obtain ⟨r, hr⟩ : ∃ r, r = s.found.raise Code.OWL_LOST Kind.device 0 := ⟨_, rfl⟩
  obtain ⟨e, made⟩ : ∃ e, e = r.setPair fun p => { p with owlTold := true } := ⟨_, rfl⟩
  have result : s.found.owlLost = e := by
    rw [Dev.owlLost_eq owl silent, made, hr, Dev.when, untold]
    rfl
  have keepsR : s.found.Keeps r [.od, .log, .event] := by rw [hr]; exact Dev.keeps_raise _ _ _ _ _ _
  have keepsE : r.Keeps e [.pair] := by rw [made]; exact r.keeps_setPair _
  have last : r.LastRaised Code.OWL_LOST Kind.device 0 := by rw [hr]; exact s.found.lastRaised_raise _ _ _ _ _
  have told : e.pair.owlTold = true := by rw [made]; rfl
  exact (pair_leaves live (fun d => d.owlLost) result ((keepsR.mono (m := [.od, .log, .event, .pair]) (by decide)).step keepsE)).does fun _ _ =>
    ⟨told, (last.of_keeps keepsE).told _ _⟩

theorem owlLost_told (told : s.found.pair.owlTold = true) : Does .owlLost s fun b a => a.pair.owlTold = true ∧ a.log = b.log := by
  obtain ⟨e, made⟩ : ∃ e, e = s.found.setPair fun p => { p with owlTold := true } := ⟨_, rfl⟩
  have result : s.found.owlLost = e := by
    rw [Dev.owlLost_eq owl silent, made, Dev.when, told]
    rfl
  have keeps : s.found.Keeps e [.pair] := by rw [made]; exact s.found.keeps_setPair _
  have shown : e.pair.owlTold = true := by rw [made]; rfl
  exact (pair_leaves live (fun d => d.owlLost) result keeps).quietly (keeps .event (by decide)) ⟨shown, keeps .log (by decide)⟩

end

end

end Sys2Proof.Machine
end

section
/-! # The release after a takeover, and the roles of a pair (R411, R425) -/

namespace Sys2Proof.Machine

/-- What the release of a takeover may change: the counters and the time within the cycle alone stand. -/
abbrev releaseParts : List Part :=
  [.wall, .od, .dom, .gen, .log, .fresh, .plic, .pend, .cpi, .waits, .acts, .io, .axes, .eng, .chains, .zones, .geom, .sep, .lateP, .lateC, .ident,
    .aes, .safe, .link, .ptp, .pair, .sett, .dma, .mem, .done, .event, .serve, .aon, .flash, .boot, .health, .power]

section
variable {d e : Dev}

theorem Dev.keeps_newItem (d : Dev) (desc : Bytes) (entry record : Option Nat) : d.Keeps (d.newItem desc entry record).2 [.fresh, .sett] := by
  unfold Dev.newItem
  extract_lets free
  split
  · exact Dev.Keeps.refl _ _
  · exact (d.keeps_takeFresh.mono (by decide)).step (Dev.keeps_setSett _ _)

/-- A tick context takes an item without a change of the log. -/
theorem Dev.keeps_tickDispatch (d : Dev) (k : Nat) : d.Keeps (d.itemDispatch (2 * k)) [.sett, .mem] := by
  have ready : d.readyFor (2 * k) = (none, d) ∨ d.readyFor (2 * k) = (d.nextTick, d) := by
    unfold Dev.readyFor
    split
    · exact .inl rfl
    · exact .inr (if_pos (by omega))
  unfold Dev.itemDispatch
  split
  · exact Dev.Keeps.refl _ _
  · rcases ready with h | h
    · rw [h]
      exact Dev.Keeps.refl _ _
    · rw [h]
      cases d.nextTick with
      | none => exact Dev.Keeps.refl _ _
      | some i => exact (Dev.handOver_keeps d i.slot (2 * k) rfl).1

theorem Dev.keeps_tickRelease (d : Dev) : d.Keeps d.tickRelease [.fresh, .sett, .mem] := by
  unfold Dev.tickRelease
  split
  · exact Dev.Keeps.refl _ _
  · extract_lets t x
    have keepsX : d.Keeps x [.fresh, .sett] := by
      refine Dev.Keeps.iterate _ _ (fun n f => ?_) d
      extract_lets y
      split
      · exact f.keeps_newItem _ _ _
      · exact Dev.Keeps.refl _ _
    exact (keepsX.mono (by decide)).andThen (Dev.Keeps.iterate _ _ (fun k f => (f.keeps_tickDispatch k).mono (by decide)) x)

theorem Dev.keeps_loadKeys (d : Dev) (p : Nat → Bool) (od : Map Int) (dom : Map Bytes) : d.Keeps (d.loadKeys p od dom) [.od, .dom] := by
  have emptied : ∀ (f : Dev) (a : Map Int) (b : Map Bytes), f.Keeps ({ f with od := a, dom := b } : Dev) [.od, .dom] := fun f a b q hq => by
    cases q with
    | od => simp at hq
    | dom => simp at hq
    | _ => rfl
  exact ((emptied d _ _).andThen (Dev.Keeps.each _ _ (fun x f => (f.keeps_set _ _).mono (by decide)) _)).andThen
    (Dev.Keeps.each _ _ (fun x f => emptied f f.od _) _)

theorem Dev.keeps_loadCtrl (d : Dev) (c : Ctrl) : d.Keeps (d.loadCtrl c) [.od, .dom, .axes, .chains, .zones, .pend, .safe] := by
  unfold Dev.loadCtrl
  extract_lets own x old y z
  have keepsX : d.Keeps x [.od, .dom] := d.keeps_loadKeys _ _ _
  have keepsY : x.Keeps y [.axes, .chains, .zones, .pend, .safe] := fun q hq => by
    cases q with
    | axes => simp at hq
    | chains => simp at hq
    | zones => simp at hq
    | pend => simp at hq
    | safe => simp at hq
    | _ => rfl
  have keepsZ : y.Keeps z [.axes] := by
    refine Dev.Keeps.each _ _ (fun (n, _) f => ?_) y
    exact (f.keeps_modAxis _ _).andThen (Dev.Keeps.each _ _ (fun l g => g.keeps_modAxis _ _) _)
  clear_value z
  clear_value x y
  exact (((keepsX.mono (by decide)).step keepsY).step keepsZ).andThen
    ((Dev.Keeps.iterate _ _ (fun k f => f.keeps_modChain k _) z).mono (by decide))

theorem Dev.keeps_releaseAxis (d : Dev) {n : Nat} (hn : n < 128) : d.Keeps (d.releaseAxis n) reactionParts := by
  have emits : ∀ (f : Dev) (p v a : Int), f.Keeps (f.emit n p v a) [.od] := fun f p v a => (((Dev.Keeps.refl _ _).set _ _).set _ _).set _ _
  unfold Dev.releaseAxis
  extract_lets st x
  split
  · exact ((((emits d _ _ _).mono (by decide)).set _ _).modAxis _ _)
  · split
    · have keepsX : d.Keeps x reactionParts := ((emits d _ _ _).mono (by decide)).modAxis _ _
      clear_value x
      exact keepsX.andThen (x.react_reacts (by omega) _ _).keeps
    · exact Dev.Keeps.refl _ _

theorem Dev.keeps_releaseSeqs (d : Dev) : d.Keeps d.releaseSeqs [.od] := by
  refine Dev.Keeps.iterate _ _ (fun k f => ?_) d
  extract_lets n
  split
  · exact Dev.Keeps.refl _ _
  · exact f.keeps_set _ _

theorem Dev.keeps_replayJournal (d : Dev) : d.Keeps d.replayJournal (.mem :: .sett :: .plic :: logParts) := by
  unfold Dev.replayJournal
  extract_lets rs lo ring x y
  have keepsX : d.Keeps x [.sett] := d.keeps_setSett _
  have keepsY : x.Keeps y (.mem :: .sett :: .plic :: logParts) := by
    refine Dev.Keeps.each _ _ (fun ((seq, b), i) f => ?_) x
    obtain ⟨g, hg⟩ : ∃ g, g = (f.settCode Code.ITEM_REPLAYED i).count Reg.R3802_REPLAYED := ⟨_, rfl⟩
    dsimp only
    rw [← hg]
    have keepsG : f.Keeps g (.plic :: logParts) := by rw [hg]; exact (f.keeps_settCode _ _).set _ _
    exact ((keepsG.mono (by decide)).step (Dev.keeps_setSett _ _)).step (Dev.keeps_syncRecord _ _)
  clear_value x y
  obtain ⟨z, hz⟩ : ∃ z, z = (y.set Reg.R3802_NEXT_SEQ y.pair.jHi).set Reg.R3802_JOURNAL_USED ring.length := ⟨_, rfl⟩
  have keepsZ : y.Keeps z [.od] := by rw [hz]; exact ((Dev.Keeps.refl _ _).set _ _).set _ _
  rw [← hz]
  exact (((keepsX.mono (by decide)).andThen keepsY).step keepsZ).step (Dev.settleFences_sheds (Dev.Sheds.refl z)).keeps

/-- The release of a takeover that is due. -/
def Dev.takeoverReleased (d : Dev) : Dev :=
  let d := match Config.configOf d.pair.config with
    | some (od, dom) => d.loadKeys mirrored od dom
    | none => d
  let d := match Config.ctrlOf d.pair.ctrl with
    | some c => d.loadCtrl c
    | none => d
  let d := iterate 16 (fun c d => d.when (d.executing c || !(d.chain c).queue.isEmpty) fun d => d.discardQueue c) d
  let d := iterate 128 (fun n d => d.releaseAxis n) d
  let d := d.releaseSeqs.replayJournal
  let d := d.setPair fun p => { p with takeover := none }
  (d.set Reg.R5801_LAST_TAKEOVER_CYCLE d.cycle).tickRelease

/-- What the release leaves before items are released. -/
theorem Dev.takeoverRelease_releases (d : Dev) {t : Nat} (over_ : d.pair.takeover = some t) (due : t + 16 ≤ d.tickAbs) (made : e = d.takeoverRelease) :
    e.pair.takeover = none ∧ e.reg Reg.R5801_LAST_TAKEOVER_CYCLE = (odType Reg.R5801_LAST_TAKEOVER_CYCLE).wrap d.cycle ∧ d.Keeps e releaseParts := by
  have begins : d.takeoverRelease = if d.tickAbs < t + 16 then d else d.takeoverReleased := by
    rw [Dev.takeoverRelease, over_]
    rfl
  rw [begins, if_neg (Nat.not_lt.2 due)] at made
  unfold Dev.takeoverReleased at made
  extract_lets x y z w v u at made
  have keepsX : d.Keeps x [.od, .dom] := by
    show d.Keeps (match Config.configOf d.pair.config with | some (od, dom) => d.loadKeys mirrored od dom | none => d) _
    split
    · exact d.keeps_loadKeys _ _ _
    · exact Dev.Keeps.refl _ _
  have keepsY : x.Keeps y [.od, .dom, .axes, .chains, .zones, .pend, .safe] := by
    show x.Keeps (match Config.ctrlOf x.pair.ctrl with | some c => x.loadCtrl c | none => x) _
    split
    · exact x.keeps_loadCtrl _
    · exact Dev.Keeps.refl _ _
  have keepsZ : y.Keeps z [.od, .chains] := Dev.Keeps.iterate _ _ (fun c f => Dev.Keeps.when _ _ (((f.keeps_modChain c _).mono (by decide)).set _ _)) y
  have keepsW : z.Keeps w reactionParts := iterate_holds (fun f : Dev => z.Keeps f reactionParts) 128 _
    (fun n hn f hf => hf.andThen (f.keeps_releaseAxis hn)) (Dev.Keeps.refl _ _)
  have keepsV : w.Keeps v (.mem :: .sett :: .plic :: logParts) := (w.keeps_releaseSeqs.mono (by decide)).andThen (Dev.keeps_replayJournal _)
  have keepsU : v.Keeps u [.pair] := v.keeps_setPair _
  have released : u.pair.takeover = none := rfl
  clear_value u
  clear_value v
  clear_value w
  clear_value z
  clear_value y
  clear_value x
  have before : d.Keeps u releaseParts := (((((keepsX.mono (by decide)).step keepsY).step keepsZ).step keepsW).step keepsV).step keepsU
  obtain ⟨q, hq⟩ : ∃ q, q = u.set Reg.R5801_LAST_TAKEOVER_CYCLE u.cycle := ⟨_, rfl⟩
  rw [← hq] at made
  have keepsQ : u.Keeps q [.od] := by rw [hq]; exact Dev.keeps_set _ _ _
  have keepsE : q.Keeps e [.fresh, .sett, .mem] := by rw [made]; exact q.keeps_tickRelease
  have clk : u.clk = d.clk := before .clk (by decide)
  have cycle : u.cycle = d.cycle := by rw [Dev.cycle, clk, ← Dev.cycle]
  have pair : e.pair = u.pair := (keepsE .pair (by decide)).trans (keepsQ .pair (by decide))
  exact ⟨by rw [pair, released], by rw [Dev.reg_congr (keepsE .od (by decide)), hq, Dev.reg_set_same, cycle], (before.step keepsQ).step keepsE⟩

end

section
variable {s : State} (live : s.Live)
include live

theorem takeoverRelease_does {t : Nat} (over_ : s.found.pair.takeover = some t) :
    (t + 16 ≤ s.found.tickAbs → Does .takeoverRelease s fun b a =>
      a.pair.takeover = none ∧ a.reg Reg.R5801_LAST_TAKEOVER_CYCLE = (odType Reg.R5801_LAST_TAKEOVER_CYCLE).wrap b.cycle) ∧
    (s.found.tickAbs < t + 16 → Does .takeoverRelease s fun b a => b.Keeps a []) := by
  refine ⟨fun due => ?_, fun early => ?_⟩
  · obtain ⟨e, made⟩ : ∃ e, e = s.found.takeoverRelease := ⟨_, rfl⟩
    obtain ⟨released, cycle, keeps⟩ := Dev.takeoverRelease_releases s.found over_ due made
    exact (Leaves.full (guard := fun d => d.live) (fun d => d.takeoverRelease) live.passes made.symm keeps).does fun _ _ => ⟨released, cycle⟩
  · have result : s.found.takeoverRelease = s.found := by
      rw [Dev.takeoverRelease, over_]
      exact if_pos early
    exact Leaves.unchanged (.full (guard := fun d => d.live) (l := []) (fun d => d.takeoverRelease) live.passes result (Dev.Keeps.refl _ _))

theorem takeoverRelease_idle (no : s.found.pair.takeover = none) : Does .takeoverRelease s fun b a => b.Keeps a [] := by
  have result : s.found.takeoverRelease = s.found := by rw [Dev.takeoverRelease, no]
  exact Leaves.unchanged (.full (guard := fun d => d.live) (l := []) (fun d => d.takeoverRelease) live.passes result (Dev.Keeps.refl _ _))

end

/-- Settles O50: the start of a pair, a unit that fails, the FAIL record, silence, the Owl and the release, each by what its command leaves. -/
theorem pairRoles : Obligations.PairRoles := by
  unfold Obligations.PairRoles
  intro s live d epoch holds activeNow sleeps failed takesOver reports waits
  have took : ∀ a, s.found.TakesOver a (nextEpoch s.found.knownEpoch) → takesOver s.found a := fun a h =>
    ⟨⟨h.active.role, h.active.state, h.active.epoch, h.active.holder⟩, h.decision, h.counted, h.raised⟩
  have reported : ∀ a, s.found.Reports a → reports s.found a := fun a h => ⟨h.state, h.told, h.raised, h.role⟩
  refine ⟨fun t listens => ⟨fun ready due hears => ?_, fun ready due quiet duplex => ⟨fun primary => ?_, fun secondary => ?_⟩, fun early => ?_⟩,
    fun c second => ⟨fun sync syncing due => ⟨fun hears => ?_, fun quiet => ?_⟩, fun early => ?_⟩, shadowCheck_agrees live, shadowCheck_early live,
    fun i hi => ?_, fun f r fails duplex => ⟨fun ready => ?_, fun rests => ?_, fun stands => failRecord_active live fails stands duplex⟩,
    fun f no => failRecord_other live no, silence_other live, fun duplex stands => ⟨silence_heard live duplex stands, fun silent net => ?_,
      fun silent quiet all => ⟨fun ready => ?_, fun rests => ?_⟩, fun silent quiet other => ?_⟩,
    owlDecision_idle live, fun w owl last heard ready told other => owlDecision_grants live owl last heard ready told other, owlLost_idle live,
    fun owl silent => ⟨owlLost_raises live owl silent, owlLost_told live owl silent⟩, fun t past => takeoverRelease_does live past, takeoverRelease_idle live⟩
  · exact (listenEnd_sleeps live listens ready due hears).mono fun _ h => ⟨h.role, h.state⟩
  · exact (listenEnd_acts live listens ready due quiet duplex primary).mono fun _ h => ⟨h.role, h.state, h.epoch, h.holder⟩
  · exact listenEnd_waits live listens ready due quiet duplex secondary
  · exact listenEnd_early live listens early
  · exact (secondary_sleeps live second sync syncing due hears).mono fun _ h => ⟨h.role, h.state⟩
  · exact (secondary_acts live second sync syncing due quiet).mono fun _ h => ⟨h.role, h.state, h.epoch, h.holder⟩
  · exact secondary_early live second early
  · have fails : (d.active = true → Does i s fun _ a => a.Failed) ∧
        (d.active = false → d.state = DevState.run → Does i s fun _ a => a.state = DevState.safe) ∧
        (d.active = false → d.state ≠ DevState.run → Does i s fun b a => a.state = b.state ∧ a.axes = b.axes) := by
      rcases hi with rfl | ⟨rfl, last, sampled⟩
      · exact lockstep_fails live
      · exact shadowCheck_fails live last sampled
    exact ⟨fun active => (fails.1 active).mono fun _ h => ⟨h.state, h.role, h.silent, h.permits, h.outs⟩, fails.2⟩
  · exact (failRecord_takes live fails duplex ready).mono took
  · exact (failRecord_reports live fails duplex rests).mono reported
  · exact (silence_reports live duplex stands silent (.inl net)).mono reported
  · exact (silence_takes live duplex stands silent quiet all ready).mono took
  · exact (silence_reports live duplex stands silent (.inr ⟨quiet, .inr rests⟩)).mono reported
  · exact (silence_reports live duplex stands silent (.inr ⟨quiet, .inl other⟩)).mono reported

end Sys2Proof.Machine
end

section
/-! # Checkpoint generations on the active unit (R420 to R422) -/

namespace Sys2Proof.Machine

/-! ## Sorted lists and maps -/

theorem mem_insNat {x y : Nat} (l : List Nat) : y ∈ insNat x l ↔ y = x ∨ y ∈ l := by
  induction l with
  | nil => simp [insNat]
  | cons z r ih =>
    rw [insNat]
    split
    · simp
    · split
      next same => simp [same]
      next => simp only [List.mem_cons, ih, or_left_comm]

theorem mem_insNats {y : Nat} (xs l : List Nat) : y ∈ each xs insNat l ↔ y ∈ xs ∨ y ∈ l := by
  induction xs generalizing l with
  | nil => simp [each]
  | cons x xs ih =>
    refine (ih (insNat x l)).trans ?_
    simp only [mem_insNat, List.mem_cons, or_assoc, or_left_comm]

section
variable {α : Type} [DecidableEq α] {d : α}

theorem mem_mset_own {k : Nat} {v : α} (value : v ≠ d) (m : Map α) : (k, v) ∈ mset d m k v := by
  induction m with
  | nil => simp [mset, value]
  | cons x r ih =>
    obtain ⟨j, w⟩ := x
    rw [mset, if_neg value, if_neg value]
    split
    · simp
    · split
      · simp
      · exact List.mem_cons_of_mem _ ih

theorem mem_of_mem_mset {k : Nat} {v : α} (m : Map α) {x : Nat × α} (h : x ∈ mset d m k v) : x = (k, v) ∨ x ∈ m := by
  induction m with
  | nil =>
    rw [mset] at h
    split at h
    · simp at h
    · exact .inl (by simpa using h)
  | cons y r ih =>
    have erased : ∀ {l : Map α}, x ∈ merase l k → x ∈ l := fun h => (List.mem_filter.1 h).1
    obtain ⟨j, w⟩ := y
    rw [mset] at h
    split at h
    · split at h
      · exact .inr ((List.mem_cons.1 h).elim (fun e => e ▸ List.mem_cons_self) fun h => List.mem_cons_of_mem _ (erased h))
      · exact List.mem_cons.1 h
    · split at h
      · split at h
        · exact .inr (List.mem_cons_of_mem _ (erased h))
        · exact (List.mem_cons.1 h).imp_right (List.mem_cons_of_mem _)
      · rcases List.mem_cons.1 h with e | h
        · exact .inr (e ▸ List.mem_cons_self)
        · exact (ih h).imp_right (List.mem_cons_of_mem _)

end

/-! ## A write to a page of the Hoard -/

section
variable {d e : Dev}

theorem Dev.pair_endGen_ {g : Gen} (open_ : d.pair.gen = some g) : d.endGen_.pair = { d.pair with gen := none, dirty := each g.pages insNat d.pair.dirty } := by
  rw [Dev.endGen_, open_]
  rfl

theorem Dev.abandonGen_abandons {g : Gen} (open_ : d.pair.gen = some g) : d.abandonGen.pair.gen = none ∧
    (∀ p ∈ g.pages, p ∈ d.abandonGen.pair.dirty) ∧ d.abandonGen.LastRaised Code.CKPT_ABANDONED Kind.device 0 := by
  obtain ⟨x, hx⟩ : ∃ x, x = d.endGen_ := ⟨_, rfl⟩
  have pairX : x.pair = { d.pair with gen := none, dirty := each g.pages insNat d.pair.dirty } := by rw [hx, Dev.pair_endGen_ open_]
  have eq : d.abandonGen = (x.count Reg.R5801_ABANDONED).raise Code.CKPT_ABANDONED Kind.device 0 := by
    rw [hx]
    exact if_neg (by simp [open_])
  obtain ⟨c, hc⟩ : ∃ c, c = x.count Reg.R5801_ABANDONED := ⟨_, rfl⟩
  rw [← hc] at eq
  have keepsC : x.Keeps c [.od] := by rw [hc]; exact Dev.keeps_set _ _ _
  have keepsR : c.Keeps d.abandonGen [.od, .log, .event] := by rw [eq]; exact Dev.keeps_raise _ _ _ _ _ _
  have pair : d.abandonGen.pair = x.pair := (keepsR .pair (by decide)).trans (keepsC .pair (by decide))
  refine ⟨by rw [pair, pairX], fun p hp => ?_, by rw [eq]; exact c.lastRaised_raise _ _ _ _ _⟩
  rw [pair, pairX]
  exact (mem_insNats _ _).2 (.inl hp)

/-- What noting a page that an open generation has yet to send makes of it. -/
def Dev.Captured (b a : Dev) (g : Gen) (pg : Nat) : Prop :=
  if b.nat (act Reg.R5800_CAPTURE_PAGES) ≤ g.kept.length then
    a.pair.gen = none ∧ a.LastRaised Code.CKPT_ABANDONED Kind.device 0 ∧ ∀ p ∈ g.pages, p ∈ a.pair.dirty
  else a.pair.gen = some { g with kept := mset [] g.kept pg (b.hoardBytes pg) }

theorem Dev.Captured.of_keeps {b a f : Dev} {g : Gen} {pg : Nat} {l : List Part} (h : b.Captured a g pg) (keeps : a.Keeps f l)
    (pair : Part.pair ∉ l := by decide) (log : Part.log ∉ l := by decide) : b.Captured f g pg := by
  have same : f.pair = a.pair := keeps .pair pair
  unfold Dev.Captured at h ⊢
  rw [same]
  split
  next full =>
    rw [if_pos full] at h
    exact ⟨h.1, h.2.1.of_keeps keeps log, h.2.2⟩
  next room =>
    rw [if_neg room] at h
    exact h

/-- A page noted on the active unit: dirty, and captured where the open generation has yet to send it. -/
theorem Dev.notePage_notes (d : Dev) (pg : Nat) (active : d.active = true) (made : e = d.notePage pg) : pg ∈ e.pair.dirty ∧
    ∀ g, d.pair.gen = some g → g.pages.contains pg = true → (g.kept.any fun k => k.1 = pg) = false → d.Captured e g pg := by
  unfold Dev.notePage at made
  rw [if_pos active] at made
  extract_lets old x at made
  have pairE : e.pair = { x.pair with dirty := insNat pg x.pair.dirty } := by rw [made]
  refine ⟨by rw [pairE]; exact (mem_insNat _).2 (.inl rfl), fun g open_ page unkept => ?_⟩
  have capture : x = if d.nat (act Reg.R5800_CAPTURE_PAGES) ≤ g.kept.length then d.abandonGen
      else { d with pair := { d.pair with gen := some { g with kept := mset [] g.kept pg (d.hoardBytes pg) } } } := by
    simp only [x]
    rw [open_]
    exact if_pos ⟨page, by rw [unkept]; decide⟩
  clear_value x
  unfold Dev.Captured
  split
  next full =>
    rw [if_pos full] at capture
    obtain ⟨ended, dirty, last⟩ := Dev.abandonGen_abandons open_
    rw [← capture] at ended dirty last
    have keeps : x.Keeps e [.pair] := by rw [made]; exact x.keeps_pair _
    refine ⟨by rw [pairE]; exact ended, last.of_keeps keeps, fun p hp => ?_⟩
    rw [pairE]
    exact (mem_insNat _).2 (.inr (dirty p hp))
  next room =>
    rw [if_neg room] at capture
    rw [pairE, capture]

/-- A byte of a page of the Hoard is of that page. -/
theorem Dev.hoardPage_floor {a pg : Nat} (aligned : d.nat (act Reg.R5800_HOARD_BASE) % 4096 = 0) (page : d.hoardPage a = some pg) :
    d.hoardPage (a / 4096 * 4096) = some pg := by
  unfold Dev.hoardPage at page ⊢
  dsimp only at page ⊢
  generalize d.nat (act Reg.R5800_HOARD_BASE) = base at *
  split at page
  next inside =>
    rw [if_pos (by omega)]
    rw [← page, Option.some_inj]
    omega
  next => exact absurd page (by simp)

/-- The write of one byte of a page of the Hoard. -/
theorem Dev.coreWrite_notes (d : Dev) {a pg : Nat} (x : Byte) (aligned : d.nat (act Reg.R5800_HOARD_BASE) % 4096 = 0) (page : d.hoardPage a = some pg)
    (active : d.active = true) (made : e = d.coreWrite a [x]) : e.memAt a = x ∧ (∀ y, y ≠ a → e.memAt y = d.memAt y) ∧ pg ∈ e.pair.dirty ∧
    ∀ g, d.pair.gen = some g → g.pages.contains pg = true → (g.kept.any fun k => k.1 = pg) = false → d.Captured e g pg := by
  obtain ⟨n, hn⟩ : ∃ n, n = d.notePage pg := ⟨_, rfl⟩
  obtain ⟨dirty, captured⟩ := Dev.notePage_notes d pg active hn
  have pages : d.pagesWritten a [x] = [pg] := by
    have steps : (a % 4096 + [x].length - 1) / 4096 + 1 = 1 := by
      rw [List.length_singleton]
      omega
    rw [Dev.pagesWritten, if_neg (by simp), steps]
    simp [Dev.hoardPage_floor aligned page]
  have noted : d.pagesNoted a [x] = n := by
    rw [Dev.pagesNoted, pages, hn]
    rfl
  have eq : e = (n.unpoison a 1).memWrite a [x] := by rw [made, Dev.coreWrite_eq, noted]; rfl
  have keeps : n.Keeps e [.health, .mem] := by
    rw [eq]
    exact ((n.keeps_health _).mono (by decide)).step (Dev.keeps_memWrite _ _ _)
  have mem : e.mem = (d.memWrite a [x]).mem := by rw [made]; exact (d.coreWrite_spec a [x]).2.2
  refine ⟨?_, fun y hy => ?_, by rw [keeps .pair (by decide)]; exact dirty, fun g open_ has unkept => (captured g open_ has unkept).of_keeps keeps⟩
  · rw [Dev.memAt_congr mem]
    exact d.memAt_memWrite_in a 0 [x] (by simp)
  · rw [Dev.memAt_congr mem, Dev.memAt_memWrite_other _ _ _ _ (by simp only [List.length_singleton]; omega)]

end

section
variable {s : State} (live : s.Live)
include live

theorem hoardWrite_outside {addr : Nat} {data : Bytes} (no : s.found.hoardPage addr = none) :
    Does (.hoardWriteCapture addr data) s fun b a => b.Keeps a [] := by
  have result : s.found.hoardWrite addr data = s.found := by
    rw [Dev.hoardWrite, no]
    rfl
  exact Leaves.unchanged (.full (guard := fun d => d.live) (l := []) (fun d => d.hoardWrite addr data) live.passes result (Dev.Keeps.refl _ _))

theorem hoardWrite_captures {addr pg : Nat} (x : Byte) (aligned : s.found.nat (act Reg.R5800_HOARD_BASE) % 4096 = 0)
    (page : s.found.hoardPage addr = some pg) (active : s.found.active = true) : Does (.hoardWriteCapture addr [x]) s fun b a =>
      a.memAt addr = x ∧ (∀ y, y ≠ addr → a.memAt y = b.memAt y) ∧ pg ∈ a.pair.dirty ∧
      ∀ g, b.pair.gen = some g → g.pages.contains pg = true → (g.kept.any fun k => k.1 = pg) = false → b.Captured a g pg := by
  obtain ⟨e, made⟩ : ∃ e, e = s.found.coreWrite addr [x] := ⟨_, rfl⟩
  obtain ⟨own, others, dirty, captured⟩ := Dev.coreWrite_notes s.found x aligned page active made
  have result : s.found.hoardWrite addr [x] = e := by
    rw [Dev.hoardWrite, page, made]
    rfl
  have keeps : s.found.Keeps e (.mem :: hoardParts) := by rw [made]; exact (s.found.coreWrite_spec addr [x]).1
  have leaves : Leaves (.hoardWriteCapture addr [x]) s e := .full (guard := fun d => d.live) (fun d => d.hoardWrite addr [x]) live.passes result keeps
  exact leaves.does fun pend vecs => ⟨own, others, dirty, fun g open_ has unkept => (captured g open_ has unkept).of_keeps (e.keeps_told pend vecs)⟩

/-! ## Lag and acknowledgement -/

theorem generation_none (no : s.found.pair.gen = none) :
    Does .generationClose s (fun b a => b.Keeps a []) ∧ Does .ckptLag s fun b a => b.Keeps a [] := by
  refine ⟨pair_idle live (fun d => d.closeGeneration) ?_, pair_idle live (fun d => d.checkpointLag) ?_⟩
  · show s.found.closeGeneration = _
    rw [Dev.closeGeneration, no]
  · show s.found.checkpointLag = _
    rw [Dev.checkpointLag, no]

section
variable {g : Gen} (open_ : s.found.pair.gen = some g)
include open_

theorem ckptLag_raises (untold : g.lagTold = false) (late : g.cycle + s.found.nat (act Reg.R5800_LAG_WARN_CYCLES) ≤ s.found.clk.cycle64) :
    Does .ckptLag s fun _ a => a.pair.gen = some { g with lagTold := true } ∧ a.LastRaised Code.CKPT_LAG Kind.device 0 := by
  obtain ⟨x, hx⟩ : ∃ x, x = s.found.setPair fun p => { p with gen := some { g with lagTold := true } } := ⟨_, rfl⟩
  obtain ⟨e, made⟩ : ∃ e, e = x.raise Code.CKPT_LAG Kind.device 0 := ⟨_, rfl⟩
  have result : s.found.checkpointLag = e := by
    rw [Dev.checkpointLag, open_, made, hx]
    exact if_pos ⟨untold, late⟩
  have keepsX : s.found.Keeps x [.pair] := by rw [hx]; exact s.found.keeps_setPair _
  have keepsE : x.Keeps e [.od, .log, .event] := by rw [made]; exact Dev.keeps_raise _ _ _ _ _ _
  have last : e.LastRaised Code.CKPT_LAG Kind.device 0 := by rw [made]; exact x.lastRaised_raise _ _ _ _ _
  have told : e.pair.gen = some { g with lagTold := true } := by
    rw [keepsE .pair (by decide), hx]
    rfl
  exact (pair_leaves live (fun d => d.checkpointLag) result ((keepsX.mono (m := [.pair, .od, .log, .event]) (by decide)).step keepsE)).does fun _ _ =>
    ⟨told, last.told _ _⟩

theorem ckptLag_idle (no : g.lagTold = true ∨ s.found.clk.cycle64 < g.cycle + s.found.nat (act Reg.R5800_LAG_WARN_CYCLES)) :
    Does .ckptLag s fun b a => b.Keeps a [] := by
  refine pair_idle live (fun d => d.checkpointLag) ?_
  show s.found.checkpointLag = _
  rw [Dev.checkpointLag, open_]
  refine if_neg ?_
  rintro ⟨untold, late⟩
  rcases no with told | early
  · exact absurd told (by rw [untold]; decide)
  · omega

end

omit live in
theorem mem_merged {us : List (Nat × List Nat × Nat × Nat)} {l : List Nat} {y : Nat} :
    y ∈ us.foldl (fun l u => each u.2.1 insNat l) l ↔ (∃ u ∈ us, y ∈ u.2.1) ∨ y ∈ l := by
  induction us generalizing l with
  | nil => simp
  | cons u us ih => simp [ih, mem_insNats, or_assoc, or_left_comm]

omit live in
/-- Generations not taken go into the next one. -/
theorem Dev.mergeUnacked_merges (d : Dev) (f : Nat × List Nat × Nat × Nat → Bool) : (∀ u, u ∈ (d.mergeUnacked f).pair.unacked ↔ u ∈ d.pair.unacked ∧ f u = false) ∧
    (∀ u ∈ d.pair.unacked, f u = true → ∀ p ∈ u.2.1, p ∈ (d.mergeUnacked f).pair.dirty) ∧ d.Keeps (d.mergeUnacked f) [.pair] := by
  unfold Dev.mergeUnacked
  split
  · refine ⟨fun u => ?_, fun u hu yes p hp => ?_, d.keeps_setPair _⟩
    · show u ∈ d.pair.unacked.filter _ ↔ _
      simp
    · exact mem_merged.2 (.inl ⟨u, List.mem_filter.2 ⟨hu, yes⟩, hp⟩)
  next none_ =>
    have no : ∀ u ∈ d.pair.unacked, f u = false := fun u hu => by
      by_contra yes
      exact none_ (List.any_eq_true.2 ⟨u, hu, by simpa using yes⟩)
    exact ⟨fun u => ⟨fun hu => ⟨hu, no u hu⟩, fun h => h.1⟩, fun u hu yes => absurd yes (by rw [no u hu]; decide), Dev.Keeps.refl _ _⟩

theorem ackTimeout_merges : Does .ckptAckTimeout s fun b a =>
    (∀ u, u ∈ a.pair.unacked ↔ u ∈ b.pair.unacked ∧ b.clk.cycle64 < u.2.2.2 + 8) ∧
    (∀ u ∈ b.pair.unacked, u.2.2.2 + 8 ≤ b.clk.cycle64 → ∀ p ∈ u.2.1, p ∈ a.pair.dirty) ∧ b.Keeps a [.pair] := by
  obtain ⟨left, dirty, keeps⟩ := s.found.mergeUnacked_merges fun u => decide (u.2.2.2 + 8 ≤ s.found.clk.cycle64)
  refine (pair_leaves live (fun d => d.ackTimeout) rfl keeps).quietly (keeps .event (by decide)) ⟨fun u => ?_, fun u hu old => ?_, keeps⟩
  · rw [← Nat.not_le, ← decide_eq_false_iff_not]
    exact left u
  · exact dirty u hu (decide_eq_true old)

end

end Sys2Proof.Machine
end

section
/-! # The close of a generation, and the records of one on the standby (R420 to R422) -/

namespace Sys2Proof.Machine

/-! ## The records of a generation sent -/

section
variable {d e : Dev}

theorem Dev.send_crosslink (d : Dev) (l : Nat) (b : Bytes) : d.send (4 + l) b = { d with out := d.out ++ [({ port := 4 + l, fcs := true, bytes := b } : Sent)] } := by
  have far : ¬4 + l < 4 := by omega
  rw [Dev.send, if_neg (by simp [Dev.mute])]
  simp only [Dev.when, far, decide_false]
  rfl

/-- Frames have left the device, and nothing else happened. -/
structure Dev.Sends (d e : Dev) (n : Nat) : Prop where
  keeps : d.Keeps e []
  count : d.lanes2 ≠ [] → e.out.length = d.out.length + n

theorem Dev.lanes2_congr (od : e.od = d.od) : e.lanes2 = d.lanes2 := by
  simp only [Dev.lanes2, Dev.bit, Dev.nat, Dev.reg, od]

theorem Dev.stripe_sends (d : Dev) (i : Nat) (r : Bytes) : d.Sends (d.stripe i r) 1 := by
  unfold Dev.stripe
  split
  next none_ => exact ⟨Dev.Keeps.refl _ _, fun some_ => absurd none_ some_⟩
  next l ls _ =>
    rw [Dev.sendRecord, Dev.send_crosslink]
    exact ⟨fun p _ => by cases p <;> rfl, fun _ => by simp⟩

theorem Dev.stripes_send (l : List (Bytes × Nat)) (d : Dev) : d.Sends (each l (fun (r, i) d => d.stripe i r) d) l.length := by
  induction l generalizing d with
  | nil => exact ⟨Dev.Keeps.refl _ _, fun _ => rfl⟩
  | cons x l ih =>
    have first := d.stripe_sends x.2 x.1
    have rest := ih (d.stripe x.2 x.1)
    refine ⟨first.keeps.andThen rest.keeps, fun some_ => ?_⟩
    have lanes : (d.stripe x.2 x.1).lanes2 = d.lanes2 := Dev.lanes2_congr (first.keeps .od (by simp))
    refine (rest.count (by rw [lanes]; exact some_)).trans ?_
    rw [first.count some_, List.length_cons]
    omega

end

/-- The device with the records of a generation sent, and its CLOSE after them. -/
def Dev.generationClosed (d : Dev) (g : Gen) : Dev :=
  let rs := d.genRecords g
  let wire := (rs.map fun r => recordWire r.2.2.2.length).sum + recordWire 72
  let bytes := rs.zipIdx.map fun ((ty, frag, addr, data), i) => record ty frag g.num i addr data
  let close := leBytes 4 (g.cycle % 2 ^ 32) ++ leBytes 4 g.pages.length ++ leBytes 4 rs.length ++ leBytes 4 g.ctrl.length ++
    leBytes 8 g.jLo ++ leBytes 8 g.jHi ++ leBytes 4 (d.nat Reg.R5801_STORED_EPOCH) ++ leBytes 4 0 ++
    leBytes 16 (digest128 g.config) ++ leBytes 16 (digest128 bytes.flatten)
  let d := each (bytes ++ [record 4 0 g.num rs.length 0 close]).zipIdx (fun (r, i) d => d.stripe i r) d
  let d := d.setPair fun p =>
    { p with gen := none, unacked := p.unacked ++ [(g.num, g.pages, g.cycle, d.clk.cycle64)], cfgSent := g.config,
             jSent := each g.records (fun (i, b) m => mset [] m i b) p.jSent, wire := p.wire + wire }
  ((d.set Reg.R5801_OPEN_GEN 0).set Reg.R5801_PENDING_PAGES 0).set Reg.R5801_GEN_LAG 0

section
variable {s : State} (live : s.Live)
include live

section
variable {g : Gen} (open_ : s.found.pair.gen = some g)
include open_

theorem close_waits (no : s.found.streams = false ∨ s.found.streamBudget * (s.found.clk.cycle64 - g.cycle + 1) <
    ((s.found.genRecords g).map fun r => recordWire r.2.2.2.length).sum + recordWire 72) : Does .generationClose s fun b a => b.Keeps a [] := by
  refine pair_idle live (fun d => d.closeGeneration) ?_
  show s.found.closeGeneration = _
  unfold Dev.closeGeneration
  rw [open_]
  exact if_pos (no.imp_left fun still => by rw [still]; decide)

theorem close_closes (streams : s.found.streams = true) (carried : ((s.found.genRecords g).map fun r => recordWire r.2.2.2.length).sum + recordWire 72 ≤
    s.found.streamBudget * (s.found.clk.cycle64 - g.cycle + 1)) : Does .generationClose s fun b a =>
      a.pair.gen = none ∧ a.pair.unacked = b.pair.unacked ++ [(g.num, g.pages, g.cycle, b.clk.cycle64)] ∧
      a.nat Reg.R5801_OPEN_GEN = 0 ∧ (b.lanes2 ≠ [] → a.out.length = (s.found.genRecords g).length + 1) := by
  obtain ⟨e, made⟩ : ∃ e, e = s.found.closeGeneration := ⟨_, rfl⟩
  have result := made.symm
  have begins : ¬(¬s.found.streams = true ∨ s.found.streamBudget * (s.found.clk.cycle64 - g.cycle + 1) <
      ((s.found.genRecords g).map fun r => recordWire r.2.2.2.length).sum + recordWire 72) := by
    rw [streams]
    simpa using carried
  have closes : s.found.closeGeneration = s.found.generationClosed g := by
    unfold Dev.closeGeneration
    rw [open_]
    exact if_neg begins
  rw [closes] at made
  unfold Dev.generationClosed at made
  extract_lets rs wire bytes close x y at made
  have sends : s.found.Sends x ((s.found.genRecords g).length + 1) := by
    have h := Dev.stripes_send (bytes ++ [record 4 0 g.num rs.length 0 close]).zipIdx s.found
    simpa [bytes, rs] using h
  have genY : y.pair.gen = none := rfl
  have unackedY : y.pair.unacked = x.pair.unacked ++ [(g.num, g.pages, g.cycle, x.clk.cycle64)] := rfl
  have keepsY : x.Keeps y [.pair] := x.keeps_setPair _
  have outY : y.out = x.out := rfl
  clear_value y
  clear_value x
  have keepsE : y.Keeps e [.od] := by
    rw [made]
    exact (((Dev.Keeps.refl _ _).set _ _).set _ _).set _ _
  have outE : e.out = y.out := by rw [made]; rfl
  have openGen : e.nat Reg.R5801_OPEN_GEN = 0 := by
    rw [made, Dev.nat, Dev.reg_set_other _ _ (by decide), Dev.reg_set_other _ _ (by decide), Dev.reg_set_same, OdType.wrap_zero]
    rfl
  have pair : e.pair = y.pair := keepsE .pair (by decide)
  have pairX : x.pair = s.found.pair := sends.keeps .pair (by simp)
  have clkX : x.clk = s.found.clk := sends.keeps .clk (by simp)
  have out : s.found.lanes2 ≠ [] → e.out.length = (s.found.genRecords g).length + 1 := fun some_ => by
    rw [outE, outY, sends.count some_]
    exact Nat.zero_add _
  have keeps : s.found.Keeps e [.pair, .od] := ((sends.keeps.mono (by simp)).step keepsY).step keepsE
  have unacked : e.pair.unacked = s.found.pair.unacked ++ [(g.num, g.pages, g.cycle, s.found.clk.cycle64)] := by
    rw [pair, unackedY, pairX, clkX]
  have gen : e.pair.gen = none := by rw [pair, genY]
  exact (pair_leaves live (fun d => d.closeGeneration) result keeps).quietly (keeps .event (by decide)) ⟨gen, unacked, openGen, out⟩

end

end

end Sys2Proof.Machine
end

section
/-! # Generations on the standby (R421, R427) -/

namespace Sys2Proof.Machine

theorem find_only {α : Type} {p : α → Bool} {l : List α} {a : α} (mem : a ∈ l) (holds : p a = true) (only : ∀ x ∈ l, p x = true → x = a) :
    l.find? p = some a := by
  cases h : l.find? p with
  | none => exact absurd holds (by simpa using List.find?_eq_none.1 h a mem)
  | some x => rw [only x (List.mem_of_find?_eq_some h) (List.find?_some h)]

section
variable {d e : Dev} {f : FrameIn} {r : RecordIn} {rtype : Nat}

theorem Dev.recordIn_all (h : d.recordIn rtype f = some r) : r.all ≠ [] ∧ fieldLE r.all 0 1 = rtype := by
  unfold Dev.recordIn at h
  split at h
  · exact absurd h (by simp)
  · extract_lets b n at h
    split at h
    · exact absurd h (by simp)
    next good =>
      push Not at good
      obtain ⟨-, -, -, -, -, -, type, -, long⟩ := good
      rw [← Option.some_inj.1 h]
      have cons : 0 < b.length := by omega
      refine ⟨fun none_ => ?_, ?_⟩
      · have zero := congrArg List.length none_
        rw [List.length_take, List.length_nil] at zero
        omega
      · rw [← type]
        show leNat (((b.take (16 + n)).drop 0).take 1) = leNat ((b.drop 0).take 1)
        rw [List.drop_zero, List.drop_zero, List.take_take, Nat.min_eq_left (by omega)]

/-- A record the standby stages. -/
structure Dev.Takes_ (d : Dev) (r : RecordIn) : Prop where
  stands : d.standsBy = true
  rests : d.pair.takeover = none
  numbered : r.gen ≠ 0
  follows : d.pair.stageGen = r.gen ∨ (d.pair.stageGen = 0 ∧ d.nat Reg.R5801_LAST_GEN < r.gen ∧ d.pair.nak < r.gen)

theorem Dev.stageRecord_idle (no : d.recordIn rtype f = none ∨ d.standsBy = false) : d.stageRecord rtype f = d := by
  unfold Dev.stageRecord
  split
  · rfl
  next r there =>
    have sleeps := no.resolve_left (by rw [there]; simp)
    exact if_pos (.inl (by rw [sleeps]; rfl))

theorem Dev.stageRecord_eq (there : d.recordIn rtype f = some r) (takes : d.Takes_ r) {x : Dev}
    (made : x = d.setPair fun p => { p with stageGen := r.gen, stage := mset [] p.stage r.fseq r.all }) : d.stageRecord rtype f = x.judgeStage := by
  obtain ⟨stands, rests, numbered, follows⟩ := takes
  have go : ¬((!d.standsBy) = true ∨ d.pair.takeover.isSome = true ∨ r.gen = 0 ∨ r.gen < d.pair.stageGen ∨
      (d.pair.stageGen = 0 ∧ (r.gen ≤ d.nat Reg.R5801_LAST_GEN ∨ r.gen ≤ d.pair.nak))) := by
    rw [stands, rests]
    simp only [Bool.not_true, Option.isSome_none, Bool.false_eq_true, false_or]
    omega
  have same : (d.pair.stageGen != 0 && r.gen != d.pair.stageGen) = false := by
    rcases follows with own | ⟨zero, -⟩
    · simp [own]
    · simp [zero]
  rw [Dev.stageRecord, there]
  refine (if_neg go).trans ?_
  rw [made, Dev.when, same]
  rfl

theorem Dev.judgeStage_waits (open_ : ∀ x ∈ d.pair.stage, fieldLE x.2 0 1 ≠ 4) : d.judgeStage = d := by
  have none_ : (d.pair.stage.find? fun x => fieldLE x.2 0 1 = 4) = none := List.find?_eq_none.2 fun x hx => by simpa using open_ x hx
  rw [Dev.judgeStage, none_]

end

section
variable {s : State} (live : s.Live)
include live

theorem record_idle {rtype : Nat} {f : FrameIn} {i : Instr} (hi : exec i s = s.answer fun d => d.live fun d => d.stageRecord rtype f)
    (no : s.found.recordIn rtype f = none ∨ s.found.standsBy = false) : Does i s fun b a => b.Keeps a [] :=
  Leaves.unchanged (.full (guard := fun d => d.live) (l := []) (fun d => d.stageRecord rtype f) live.passes (Dev.stageRecord_idle no)
    (Dev.Keeps.refl _ _) (hi := hi))

theorem record_stages {rtype : Nat} {f : FrameIn} {r : RecordIn} {i : Instr} (hi : exec i s = s.answer fun d => d.live fun d => d.stageRecord rtype f)
    (other : rtype ≠ 4) (there : s.found.recordIn rtype f = some r) (takes : s.found.Takes_ r) (unclosed : ∀ x ∈ s.found.pair.stage, fieldLE x.2 0 1 ≠ 4) :
    Does i s fun b a => a.pair.stageGen = r.gen ∧ mget [] a.pair.stage r.fseq = r.all ∧ b.Keeps a [.pair] := by
  obtain ⟨x, made⟩ : ∃ x, x = s.found.setPair fun p => { p with stageGen := r.gen, stage := mset [] p.stage r.fseq r.all } := ⟨_, rfl⟩
  have stage : x.pair.stage = mset [] s.found.pair.stage r.fseq r.all := by rw [made]; rfl
  have gen : x.pair.stageGen = r.gen := by rw [made]; rfl
  have open_ : ∀ y ∈ x.pair.stage, fieldLE y.2 0 1 ≠ 4 := fun y hy => by
    rw [stage] at hy
    rcases mem_of_mem_mset _ hy with own | old
    · rw [own, (Dev.recordIn_all there).2]
      exact other
    · exact unclosed y old
  have result : s.found.stageRecord rtype f = x := by rw [Dev.stageRecord_eq there takes made, Dev.judgeStage_waits open_]
  have keeps : s.found.Keeps x [.pair] := by rw [made]; exact s.found.keeps_setPair _
  have held : mget [] x.pair.stage r.fseq = r.all := by rw [stage, mget_mset_same]
  have leaves : Leaves i s x := .full (guard := fun d => d.live) (fun d => d.stageRecord rtype f) live.passes result keeps (hi := hi)
  exact leaves.quietly (keeps .event (by decide)) ⟨gen, held, keeps⟩

end

/-! ## The CLOSE -/

section
variable {d e : Dev}

/-- The records a CLOSE asks for. -/
abbrev stagedRecords (stage : Map Bytes) (close : Bytes) : List Bytes :=
  (stage.filter fun x => decide (x.1 < fieldLE (close.drop 16) 8 4)).map Prod.snd

theorem Dev.judgeStage_eq {q : Nat} {close : Bytes} (found : (d.pair.stage.find? fun x => fieldLE x.2 0 1 = 4) = some (q, close)) : d.judgeStage =
    if (stagedRecords d.pair.stage close).length ≠ fieldLE (close.drop 16) 8 4 then d
    else if digest128 (stagedRecords d.pair.stage close).flatten ≠ fieldLE (close.drop 16) 56 16 then d.rejectStage
    else d.applyGeneration (stagedRecords d.pair.stage close) (close.drop 16) := by
  rw [Dev.judgeStage, found]

theorem Dev.rejectStage_rejects (d : Dev) (made : e = d.rejectStage) : e.pair.nak = d.pair.stageGen ∧ e.pair.stage = [] ∧
    e.LastRaised Code.CKPT_DIGEST_BAD Kind.device 0 ∧ d.Keeps e (.pair :: logParts) ∧ ∀ k, k ∉ logRegs → e.reg k = d.reg k := by
  obtain ⟨x, hx⟩ : ∃ x, x = d.setPair fun p => { p with nak := p.stageGen, stageGen := 0, stage := [] } := ⟨_, rfl⟩
  have eq : e = x.raise Code.CKPT_DIGEST_BAD Kind.device 0 := by rw [made, hx, Dev.rejectStage]
  have keepsX : d.Keeps x [.pair] := by rw [hx]; exact d.keeps_setPair _
  have keepsE : x.Keeps e [.od, .log, .event] := by rw [eq]; exact Dev.keeps_raise _ _ _ _ _ _
  have pair : e.pair = x.pair := keepsE .pair (by decide)
  refine ⟨by rw [pair, hx]; rfl, by rw [pair, hx]; rfl, by rw [eq]; exact x.lastRaised_raise _ _ _ _ _,
    (keepsX.mono (by decide)).step keepsE, fun k log => ?_⟩
  rw [eq, Dev.reg_raise _ _ _ _ _ _ log, Dev.reg_congr (keepsX .od (by decide))]

/-- What a generation applied leaves, but the switch to STANDBY_READY. -/
def Dev.generationTaken (d : Dev) (rs : List Bytes) (c : Bytes) : Dev :=
  let base := d.nat (act Reg.R5800_HOARD_BASE)
  let num := d.pair.stageGen
  let d := each rs (fun r d =>
    if fieldLE r 0 1 = 1 then d.memWrite (base + fieldLE r 12 4 + 1024 * fieldLE r 1 1) (r.drop 16)
    else if fieldLE r 0 1 = 3 then d.memWrite (d.nat Reg.R3802_JOURNAL_BASE + 64 * fieldLE r 12 4) (r.drop 16)
    else d) d
  let config := if rs.any fun r => fieldLE r 0 1 = 5 then stagedBlock 5 rs else d.pair.config
  let d := d.setPair fun p =>
    { p with ctrl := ((stagedBlock 2 rs).take (fieldLE c 12 4)).drop 2, config, jLo := fieldLE c 16 8, jHi := fieldLE c 24 8, stageGen := 0, stage := [], fmtTold := false }
  ((d.set Reg.R5801_LAST_GEN num).set Reg.R5801_LAST_GEN_CYCLE (fieldLE c 0 4)).learnEpoch (fieldLE c 32 4) d.partnerId

theorem Dev.learnEpoch_regs (d : Dev) (epoch holder : Nat) {k : Nat} (stored : k ≠ Reg.R5801_STORED_EPOCH) (held : k ≠ Reg.R5801_HOLDER) :
    (d.learnEpoch epoch holder).reg k = d.reg k := by
  unfold Dev.learnEpoch
  split
  · rw [Dev.reg_set_other _ _ held, Dev.reg_set_other _ _ stored]
  · rfl

theorem Dev.keeps_learnEpoch (d : Dev) (epoch holder : Nat) : d.Keeps (d.learnEpoch epoch holder) [.od] := by
  unfold Dev.learnEpoch
  split
  · exact ((Dev.Keeps.refl _ _).set _ _).set _ _
  · exact Dev.Keeps.refl _ _

theorem Dev.generationTaken_takes (d : Dev) (rs : List Bytes) (c : Bytes) (made : e = d.generationTaken rs c) :
    e.reg Reg.R5801_LAST_GEN = (odType Reg.R5801_LAST_GEN).wrap d.pair.stageGen ∧ e.pair.stage = [] ∧
    e.pair.ctrl = ((stagedBlock 2 rs).take (fieldLE c 12 4)).drop 2 ∧ e.pair.sweepDone = d.pair.sweepDone ∧ e.state = d.state ∧
    d.Keeps e [.mem, .pair, .od] := by
  unfold Dev.generationTaken at made
  extract_lets base num x config y at made
  have keepsX : d.Keeps x [.mem] := Dev.Keeps.each _ _ (fun r f => by
    split
    · exact Dev.keeps_memWrite _ _ _
    · split
      · exact Dev.keeps_memWrite _ _ _
      · exact Dev.Keeps.refl _ _) d
  clear_value x
  have pairX : x.pair = d.pair := keepsX .pair (by decide)
  have keepsY : x.Keeps y [.pair] := x.keeps_setPair _
  have stage : y.pair.stage = [] := rfl
  have ctrl : y.pair.ctrl = ((stagedBlock 2 rs).take (fieldLE c 12 4)).drop 2 := rfl
  have sweep : y.pair.sweepDone = x.pair.sweepDone := rfl
  clear_value y
  obtain ⟨w, hw⟩ : ∃ w, w = (y.set Reg.R5801_LAST_GEN num).set Reg.R5801_LAST_GEN_CYCLE (fieldLE c 0 4) := ⟨_, rfl⟩
  rw [← hw] at made
  have keepsW : y.Keeps w [.od] := by rw [hw]; exact ((Dev.Keeps.refl _ _).set _ _).set _ _
  have keepsE : w.Keeps e [.od] := by rw [made]; exact w.keeps_learnEpoch _ _
  have pair : e.pair = y.pair := (keepsE .pair (by decide)).trans (keepsW .pair (by decide))
  refine ⟨?_, by rw [pair, stage], by rw [pair, ctrl], by rw [pair, sweep, pairX], ?_, ((keepsX.mono (by decide)).step keepsY).step (keepsW.andThen keepsE)⟩
  · rw [made, w.learnEpoch_regs _ _ (by decide) (by decide), hw, Dev.reg_set_other _ _ (by decide), Dev.reg_set_same]
  · rw [Dev.state, Dev.nat, made, w.learnEpoch_regs _ _ (by decide) (by decide), hw, Dev.reg_set_other _ _ (by decide), Dev.reg_set_other _ _ (by decide),
      Dev.reg_congr (keepsY .od (by decide)), Dev.reg_congr (keepsX .od (by decide))]
    rfl

/-- A generation of the firmware's format without a configuration of its own, applied. -/
theorem Dev.applyGeneration_eq (d : Dev) {rs : List Bytes} {c : Bytes} (format : fieldLE ((stagedBlock 2 rs).take (fieldLE c 12 4)) 0 2 = imgCkpt d.fwImage)
    (plain : ∀ x ∈ rs, fieldLE x 0 1 ≠ 5) (config : digest128 d.pair.config = fieldLE c 40 16) {x : Dev} (made : x = d.generationTaken rs c) :
    d.applyGeneration rs c = if x.state = DevState.hibernate ∧ x.pair.sweepDone then
      (x.goTo DevState.standbyReady).raise Code.PARTNER_READY Kind.device 0 else x := by
  have none_ : (rs.any fun r => decide (fieldLE r 0 1 = 5)) = false := by
    refine List.any_eq_false.2 fun x hx => ?_
    simpa using plain x hx
  unfold Dev.generationTaken at made
  unfold Dev.applyGeneration
  extract_lets base num y own z at made
  have keepsY : d.Keeps y [.mem] := Dev.Keeps.each _ _ (fun r f => by
    split
    · exact Dev.keeps_memWrite _ _ _
    · split
      · exact Dev.keeps_memWrite _ _ _
      · exact Dev.Keeps.refl _ _) d
  have kept : own = d.pair.config := by
    have pair : y.pair.config = d.pair.config := congrArg Pair.config (keepsY .pair (by decide))
    simp only [own, none_]
    exact pair
  have stands : ¬digest128 own ≠ fieldLE c 40 16 := by rw [kept]; exact not_not.2 config
  rw [made]
  exact (if_neg (not_not.2 format)).trans (if_neg stands)

end

end Sys2Proof.Machine
end

section
/-! # The CLOSE of a generation, the sweep and heartbeats (R414, R421, R428) -/

namespace Sys2Proof.Machine

section
variable {s : State} (live : s.Live)
include live

section
variable {f : FrameIn} {r : RecordIn} (there : s.found.recordIn 4 f = some r) (takes : s.found.Takes_ r)
  (unclosed : ∀ x ∈ s.found.pair.stage, fieldLE x.2 0 1 ≠ 4)
include there takes unclosed

omit live in
/-- The CLOSE staged, and what is judged then. -/
theorem Dev.closeRecord_eq {x : Dev} (made : x = s.found.setPair fun p => { p with stageGen := r.gen, stage := mset [] p.stage r.fseq r.all }) :
    s.found.stageRecord 4 f =
      if (stagedRecords (mset [] s.found.pair.stage r.fseq r.all) r.all).length ≠ fieldLE (r.all.drop 16) 8 4 then x
      else if digest128 (stagedRecords (mset [] s.found.pair.stage r.fseq r.all) r.all).flatten ≠ fieldLE (r.all.drop 16) 56 16 then x.rejectStage
      else x.applyGeneration (stagedRecords (mset [] s.found.pair.stage r.fseq r.all) r.all) (r.all.drop 16) := by
  obtain ⟨some_, type⟩ := Dev.recordIn_all there
  have stage : x.pair.stage = mset [] s.found.pair.stage r.fseq r.all := by rw [made]; rfl
  have first : (x.pair.stage.find? fun x => fieldLE x.2 0 1 = 4) = some (r.fseq, r.all) := by
    rw [stage]
    refine find_only (mem_mset_own some_ _) (by simpa using type) fun y hy is => ?_
    exact (mem_of_mem_mset _ hy).resolve_right fun old => unclosed y old (by simpa using is)
  rw [Dev.stageRecord_eq there takes made, Dev.judgeStage_eq first, stage]

theorem closeRecord_waits (short : (stagedRecords (mset [] s.found.pair.stage r.fseq r.all) r.all).length ≠ fieldLE (r.all.drop 16) 8 4) :
    Does (.closeRecord f) s fun b a => a.pair.stageGen = r.gen ∧ b.Keeps a [.pair] := by
  obtain ⟨x, made⟩ : ∃ x, x = s.found.setPair fun p => { p with stageGen := r.gen, stage := mset [] p.stage r.fseq r.all } := ⟨_, rfl⟩
  have result : s.found.stageRecord 4 f = x := by rw [Dev.closeRecord_eq there takes unclosed made, if_pos short]
  have keeps : s.found.Keeps x [.pair] := by rw [made]; exact s.found.keeps_setPair _
  have gen : x.pair.stageGen = r.gen := by rw [made]; rfl
  have leaves : Leaves (.closeRecord f) s x := .full (guard := fun d => d.live) (fun d => d.stageRecord 4 f) live.passes result keeps
  exact leaves.quietly (keeps .event (by decide)) ⟨gen, keeps⟩

section
variable (whole : (stagedRecords (mset [] s.found.pair.stage r.fseq r.all) r.all).length = fieldLE (r.all.drop 16) 8 4)
include whole

theorem closeRecord_rejects (bad : digest128 (stagedRecords (mset [] s.found.pair.stage r.fseq r.all) r.all).flatten ≠ fieldLE (r.all.drop 16) 56 16) :
    Does (.closeRecord f) s fun b a => a.pair.nak = r.gen ∧ a.pair.stage = [] ∧ a.mem = b.mem ∧ a.nat Reg.R5801_LAST_GEN = b.nat Reg.R5801_LAST_GEN ∧
      a.LastRaised Code.CKPT_DIGEST_BAD Kind.device 0 := by
  obtain ⟨x, made⟩ : ∃ x, x = s.found.setPair fun p => { p with stageGen := r.gen, stage := mset [] p.stage r.fseq r.all } := ⟨_, rfl⟩
  obtain ⟨e, out⟩ : ∃ e, e = x.rejectStage := ⟨_, rfl⟩
  have result : s.found.stageRecord 4 f = e := by
    rw [Dev.closeRecord_eq there takes unclosed made, if_neg (not_not.2 whole), if_pos bad, out]
  have keepsX : s.found.Keeps x [.pair] := by rw [made]; exact s.found.keeps_setPair _
  have gen : x.pair.stageGen = r.gen := by rw [made]; rfl
  obtain ⟨nak, stage, last, keepsE, regs⟩ := Dev.rejectStage_rejects x out
  have keeps : s.found.Keeps e (.pair :: logParts) := (keepsX.mono (by decide)).andThen keepsE
  have mem : e.mem = s.found.mem := keeps .mem (by decide)
  have lastGen : e.nat Reg.R5801_LAST_GEN = s.found.nat Reg.R5801_LAST_GEN := by
    rw [Dev.nat, regs _ (by decide), Dev.reg_congr (keepsX .od (by decide)), ← Dev.nat]
  have leaves : Leaves (.closeRecord f) s e := .full (guard := fun d => d.live) (fun d => d.stageRecord 4 f) live.passes result keeps
  exact leaves.does fun _ _ => ⟨nak.trans gen, stage, mem, lastGen, last.told _ _⟩

theorem closeRecord_applies (good : digest128 (stagedRecords (mset [] s.found.pair.stage r.fseq r.all) r.all).flatten = fieldLE (r.all.drop 16) 56 16)
    {ctrl : Bytes} (block : ctrl = (stagedBlock 2 (stagedRecords (mset [] s.found.pair.stage r.fseq r.all) r.all)).take (fieldLE (r.all.drop 16) 12 4))
    (format : fieldLE ctrl 0 2 = imgCkpt s.found.fwImage) (plain : ∀ x ∈ stagedRecords (mset [] s.found.pair.stage r.fseq r.all) r.all, fieldLE x 0 1 ≠ 5)
    (config : digest128 s.found.pair.config = fieldLE (r.all.drop 16) 40 16) : Does (.closeRecord f) s fun b a =>
      a.reg Reg.R5801_LAST_GEN = (odType Reg.R5801_LAST_GEN).wrap r.gen ∧ a.pair.stage = [] ∧ a.pair.ctrl = ctrl.drop 2 ∧
      (b.state = DevState.hibernate → b.pair.sweepDone = true →
        a.state = DevState.standbyReady ∧ a.LastRaised Code.PARTNER_READY Kind.device 0) ∧
      (b.pair.sweepDone = false → a.state = b.state ∧ a.log = b.log) := by
  obtain ⟨x, made⟩ : ∃ x, x = s.found.setPair fun p => { p with stageGen := r.gen, stage := mset [] p.stage r.fseq r.all } := ⟨_, rfl⟩
  obtain ⟨q, hq⟩ : ∃ q, q = stagedRecords (mset [] s.found.pair.stage r.fseq r.all) r.all := ⟨_, rfl⟩
  obtain ⟨y, hy⟩ : ∃ y, y = x.generationTaken q (r.all.drop 16) := ⟨_, rfl⟩
  have keepsX : s.found.Keeps x [.pair] := by rw [made]; exact s.found.keeps_setPair _
  have gen : x.pair.stageGen = r.gen := by rw [made]; rfl
  have sweepX : x.pair.sweepDone = s.found.pair.sweepDone := by rw [made]; rfl
  have stateX : x.state = s.found.state := congrArg Int.toNat (Dev.reg_congr (keepsX .od (by decide)) _)
  have image : x.fwImage = s.found.fwImage := by rw [made]; rfl
  have configX : x.pair.config = s.found.pair.config := by rw [made]; rfl
  rw [← hq] at block plain
  obtain ⟨lastGen, stage, ctrlY, sweep, stateY, keepsY⟩ := Dev.generationTaken_takes x q (r.all.drop 16) hy
  rw [gen] at lastGen
  rw [← block] at ctrlY
  have formatX : fieldLE ((stagedBlock 2 q).take (fieldLE (r.all.drop 16) 12 4)) 0 2 = imgCkpt x.fwImage := by rw [← block, image, format]
  have judged : s.found.stageRecord 4 f = if y.state = DevState.hibernate ∧ y.pair.sweepDone = true then
      (y.goTo DevState.standbyReady).raise Code.PARTNER_READY Kind.device 0 else y := by
    rw [Dev.closeRecord_eq there takes unclosed made, if_neg (not_not.2 whole), if_neg (not_not.2 good), ← hq,
      x.applyGeneration_eq formatX plain (by rw [configX, config]) hy]
  have keeps : s.found.Keeps y [.mem, .pair, .od] := (keepsX.mono (by decide)).andThen keepsY
  by_cases ready : y.state = DevState.hibernate ∧ y.pair.sweepDone = true
  · obtain ⟨g, hg⟩ : ∃ g, g = y.goTo DevState.standbyReady := ⟨_, rfl⟩
    obtain ⟨e, out⟩ : ∃ e, e = g.raise Code.PARTNER_READY Kind.device 0 := ⟨_, rfl⟩
    rw [if_pos ready, ← hg, ← out] at judged
    have keepsG : y.Keeps g [.od, .event, .sett] := by rw [hg]; exact y.keeps_goTo _
    have keepsE : g.Keeps e [.od, .log, .event] := by rw [out]; exact Dev.keeps_raise _ _ _ _ _ _
    have all : s.found.Keeps e [.mem, .pair, .od, .event, .sett, .log] := ((keeps.mono (by decide)).step keepsG).step keepsE
    have pair : e.pair = y.pair := (keepsE .pair (by decide)).trans (keepsG .pair (by decide))
    have shown : e.reg Reg.R5801_LAST_GEN = (odType Reg.R5801_LAST_GEN).wrap r.gen := by
      rw [out, Dev.reg_raise _ _ _ _ _ _ (by decide), hg, y.reg_goTo _ (by decide), lastGen]
    have state : e.state = DevState.standbyReady := by
      rw [out, Dev.state, Dev.nat, Dev.reg_raise _ _ _ _ _ _ (by decide), hg]
      exact y.state_goTo (by decide)
    have last : e.LastRaised Code.PARTNER_READY Kind.device 0 := by rw [out]; exact g.lastRaised_raise _ _ _ _ _
    have swept : s.found.pair.sweepDone = true := by rw [← sweepX, ← sweep]; exact ready.2
    have leaves : Leaves (.closeRecord f) s e := .full (guard := fun d => d.live) (fun d => d.stageRecord 4 f) live.passes judged all
    have stageE : e.pair.stage = [] := by rw [pair, stage]
    have ctrlE : e.pair.ctrl = ctrl.drop 2 := by rw [pair, ctrlY]
    exact leaves.does fun _ _ => ⟨shown, stageE, ctrlE, fun _ _ => ⟨state, last.told _ _⟩, fun no => absurd swept (by rw [no]; decide)⟩
  · rw [if_neg ready] at judged
    have leaves : Leaves (.closeRecord f) s y := .full (guard := fun d => d.live) (fun d => d.stageRecord 4 f) live.passes judged keeps
    refine leaves.quietly (keeps .event (by decide)) ⟨lastGen, stage, ctrlY, fun sleeps swept => ?_, fun _ => ⟨stateY.trans stateX, keeps .log (by decide)⟩⟩
    exact absurd ⟨(stateY.trans stateX).trans sleeps, (sweep.trans sweepX).trans swept⟩ ready

end

end

/-! ## The sweep -/

theorem sweepRecord_idle {f : FrameIn} (no : s.found.recordIn 6 f = none ∨ s.found.standsBy = false) : Does (.sweepRecord f) s fun b a => b.Keeps a [] := by
  have result : s.found.sweepRecord f = s.found := by
    unfold Dev.sweepRecord
    split
    · rfl
    next r there =>
      have sleeps := no.resolve_left (by rw [there]; simp)
      exact if_pos (by rw [sleeps]; rfl)
  exact Leaves.unchanged (.full (guard := fun d => d.live) (l := []) (fun d => d.sweepRecord f) live.passes result (Dev.Keeps.refl _ _))

theorem sweepRecord_writes {f : FrameIn} {r : RecordIn} (there : s.found.recordIn 6 f = some r) (sleeps : s.found.state = DevState.hibernate) :
    Does (.sweepRecord f) s fun b a =>
      let at_ := b.nat (act Reg.R5800_HOARD_BASE) + r.addr + 1024 * r.frag
      a.memRead at_ r.data.length = r.data ∧ (∀ y, (y < at_ ∨ at_ + r.data.length ≤ y) → a.memAt y = b.memAt y) ∧
      a.state = DevState.hibernate := by
  obtain ⟨at_, place⟩ : ∃ at_, at_ = s.found.nat (act Reg.R5800_HOARD_BASE) + r.addr + 1024 * r.frag := ⟨_, rfl⟩
  obtain ⟨x, hx⟩ : ∃ x, x = s.found.memWrite at_ r.data := ⟨_, rfl⟩
  obtain ⟨e, made⟩ : ∃ e, e = (x.set Reg.R5801_SWEEP_PAGES ((x.hoardPages - (r.addr / 4096 + 1) : Nat) : Int)).setPair fun p =>
    { p with sweepDone := (x.hoardPages - (r.addr / 4096 + 1)) == 0 && r.frag == 3 } := ⟨_, rfl⟩
  have stands : s.found.standsBy = true := by rw [Dev.standsBy, sleeps]; rfl
  have result : s.found.sweepRecord f = e := by
    rw [Dev.sweepRecord, there, made, hx, place]
    refine (if_neg (by rw [stands]; decide)).trans ?_
    rw [Dev.when, sleeps]
    rfl
  have keepsX : s.found.Keeps x [.mem] := by rw [hx]; exact Dev.keeps_memWrite _ _ _
  have keepsE : x.Keeps e [.od, .pair] := by
    rw [made]
    exact ((Dev.Keeps.refl _ _).set _ _).step (Dev.keeps_setPair _ _)
  have mem : e.mem = (s.found.memWrite at_ r.data).mem := by rw [keepsE .mem (by decide), hx]
  have state : e.state = DevState.hibernate := by
    have reg : e.reg Reg.R1001_DEV_STATE = s.found.reg Reg.R1001_DEV_STATE := by
      rw [made]
      exact (Dev.reg_set_other x _ (by decide)).trans (Dev.reg_congr (keepsX .od (by decide)) _)
    exact (congrArg Int.toNat reg).trans sleeps
  have read : e.memRead at_ r.data.length = r.data := by rw [Dev.memRead_congr mem, Dev.memRead_memWrite]
  have others : ∀ y, (y < at_ ∨ at_ + r.data.length ≤ y) → e.memAt y = s.found.memAt y := fun y out => by
    rw [Dev.memAt_congr mem, Dev.memAt_memWrite_other _ _ _ _ out]
  have keeps : s.found.Keeps e [.mem, .od, .pair] := (keepsX.mono (by decide)).step keepsE
  have leaves : Leaves (.sweepRecord f) s e := .full (guard := fun d => d.live) (fun d => d.sweepRecord f) live.passes result keeps
  rw [place] at read others
  exact leaves.quietly (keeps .event (by decide)) ⟨read, others, state⟩

end

end Sys2Proof.Machine
end

section
/-! # Heartbeats, and the checkpoint stream (R414, R419 to R422, R428) -/

namespace Sys2Proof.Machine

section
variable {d e : Dev}

/-- A heartbeat received, before what it says of generations and epochs. -/
def Dev.beaten (d : Dev) (r : RecordIn) : Dev :=
  (d.setPair fun p =>
    { p with hbTick := some d.tickAbs, hbActive := if fieldLE r.data 1 1 = 1 then some d.tickAbs else p.hbActive, lostTold := false }).set
    Reg.R5801_PARTNER_STATE (fieldLE r.data 0 1)

/-- The partner's change of state taken by an active unit. -/
def Dev.partnerMoved (d : Dev) (st was : Nat) : Dev :=
  (d.when (st == DevState.hibernate && was != st) fun d => d.setPair fun p => { p with sweepAt := some 0, cfgSent := [], jSent := [] }).when
    (st == DevState.standbyReady && was != st) fun d => d.raise Code.PARTNER_READY Kind.device 0

theorem Dev.heartbeat_eq {f : FrameIn} {r : RecordIn} (there : d.recordIn 8 f = some r) : d.heartbeat f =
    if (d.beaten r).active then ((d.beaten r).partnerMoved (fieldLE r.data 0 1) (d.nat Reg.R5801_PARTNER_STATE)).takeAcks (fieldLE r.data 4 4) (fieldLE r.data 8 4)
    else ((d.beaten r).learnEpoch (fieldLE r.data 12 4) (d.beaten r).partnerId).pairListen := by
  rw [Dev.heartbeat, there]
  rfl

theorem Dev.beaten_shows (d : Dev) (r : RecordIn) (made : e = d.beaten r) : e.pair.hbTick = some d.tickAbs ∧ e.pair.lostTold = false ∧
    e.pair.unacked = d.pair.unacked ∧ e.reg Reg.R5801_PARTNER_STATE = (odType Reg.R5801_PARTNER_STATE).wrap (fieldLE r.data 0 1) ∧
    (∀ k, k ≠ Reg.R5801_PARTNER_STATE → e.reg k = d.reg k) ∧ d.Keeps e [.pair, .od] := by
  have keeps : d.Keeps e [.pair, .od] := by
    rw [made]
    exact ((d.keeps_setPair _).mono (by decide)).set _ _
  refine ⟨by rw [made]; rfl, by rw [made]; rfl, by rw [made]; rfl, ?_, fun k own => ?_, keeps⟩
  · rw [made, Dev.beaten, Dev.reg_set_same]
  · rw [made, Dev.beaten, Dev.reg_set_other _ _ own]
    rfl

/-- What an active unit takes of its partner's state leaves its heartbeat and what is not acknowledged. -/
theorem Dev.partnerMoved_leaves (d : Dev) (st was : Nat) (made : e = d.partnerMoved st was) : e.pair.hbTick = d.pair.hbTick ∧
    e.pair.lostTold = d.pair.lostTold ∧ e.pair.unacked = d.pair.unacked ∧ d.Keeps e (.pair :: logParts) := by
  obtain ⟨x, hx⟩ : ∃ x, x = d.when (st == DevState.hibernate && was != st) fun d => d.setPair fun p => { p with sweepAt := some 0, cfgSent := [], jSent := [] } :=
    ⟨_, rfl⟩
  have eq : e = x.when (st == DevState.standbyReady && was != st) fun d => d.raise Code.PARTNER_READY Kind.device 0 := by rw [made, hx]; rfl
  have keepsE : x.Keeps e [.od, .log, .event] := by rw [eq]; exact Dev.Keeps.when _ _ (Dev.keeps_raise _ _ _ _ _ _)
  have keepsX : d.Keeps x [.pair] := by rw [hx]; exact Dev.Keeps.when _ _ (d.keeps_setPair _)
  have same : x.pair.hbTick = d.pair.hbTick ∧ x.pair.lostTold = d.pair.lostTold ∧ x.pair.unacked = d.pair.unacked := by
    rw [hx, Dev.when]
    split <;> exact ⟨rfl, rfl, rfl⟩
  rw [keepsE .pair (by decide)]
  exact ⟨same.1, same.2.1, same.2.2, (keepsX.mono (by decide)).step keepsE⟩

/-- An acknowledgement of a generation that waits for it, with none refused. -/
theorem Dev.takeAcks_forgets (d : Dev) {ack : Nat} {u : Nat × List Nat × Nat × Nat} (waits : d.pair.unacked.find? (fun u => u.1 = ack) = some u)
    (numbered : ∀ v ∈ d.pair.unacked, v.1 ≠ 0) (made : e = d.takeAcks ack 0) : (∀ v, v ∈ e.pair.unacked ↔ v ∈ d.pair.unacked ∧ ack < v.1) ∧
    e.pair.hbTick = d.pair.hbTick ∧ e.pair.lostTold = d.pair.lostTold ∧ e.reg Reg.R5801_LAST_GEN = (odType Reg.R5801_LAST_GEN).wrap ack ∧
    d.Keeps e [.pair, .od] := by
  obtain ⟨x, hx⟩ : ∃ x, x = d.setPair fun p => { p with unacked := p.unacked.filter fun v => decide (ack < v.1) } := ⟨_, rfl⟩
  obtain ⟨y, hy⟩ : ∃ y, y = (x.set Reg.R5801_LAST_GEN ack).set Reg.R5801_LAST_GEN_CYCLE (u.2.2.1 % 2 ^ 32 : Nat) := ⟨_, rfl⟩
  have unacked : y.pair.unacked = d.pair.unacked.filter fun v => decide (ack < v.1) := by rw [hy, hx]; rfl
  have other : y.pair.hbTick = d.pair.hbTick ∧ y.pair.lostTold = d.pair.lostTold := by rw [hy, hx]; exact ⟨rfl, rfl⟩
  have none_ : y.pair.unacked.any (fun v => v.1 == 0) = false := by
    refine List.any_eq_false.2 fun v hv => ?_
    rw [unacked] at hv
    simpa using numbered v (List.mem_filter.1 hv).1
  have eq : e = y := by
    rw [made, Dev.takeAcks, waits]
    refine Eq.trans (b := y.mergeUnacked fun v => v.1 == 0) (by rw [hy, hx]; rfl) ?_
    rw [Dev.mergeUnacked, none_]
    rfl
  have keeps : d.Keeps y [.pair, .od] := by
    rw [hy, hx]
    exact ((((d.keeps_setPair _).mono (by decide)).set _ _).set _ _)
  rw [eq]
  refine ⟨fun v => by rw [unacked]; simp, other.1, other.2, ?_, keeps⟩
  rw [hy, Dev.reg_set_other _ _ (by decide), Dev.reg_set_same]

end

section
variable {s : State} (live : s.Live)
include live

theorem heartbeat_none {f : FrameIn} (no : s.found.recordIn 8 f = none) : Does (.heartbeat f) s fun b a => b.Keeps a [] :=
  pair_idle live (fun d => d.heartbeat f) (by show s.found.heartbeat f = _; rw [Dev.heartbeat, no])

section
variable {f : FrameIn} {r : RecordIn} (there : s.found.recordIn 8 f = some r)
include there

theorem heartbeat_acknowledges {u : Nat × List Nat × Nat × Nat} (active : s.found.active = true)
    (waits : s.found.pair.unacked.find? (fun u => u.1 = fieldLE r.data 4 4) = some u) (taken : fieldLE r.data 8 4 = 0)
    (numbered : ∀ v ∈ s.found.pair.unacked, v.1 ≠ 0) : Does (.heartbeat f) s fun b a =>
      (∀ v, v ∈ a.pair.unacked ↔ v ∈ b.pair.unacked ∧ fieldLE r.data 4 4 < v.1) ∧ a.pair.hbTick = some b.tickAbs ∧
      a.reg Reg.R5801_LAST_GEN = (odType Reg.R5801_LAST_GEN).wrap (fieldLE r.data 4 4) ∧ a.pair.lostTold = false := by
  obtain ⟨x, hx⟩ : ∃ x, x = s.found.beaten r := ⟨_, rfl⟩
  obtain ⟨y, hy⟩ : ∃ y, y = x.partnerMoved (fieldLE r.data 0 1) (s.found.nat Reg.R5801_PARTNER_STATE) := ⟨_, rfl⟩
  obtain ⟨e, made⟩ : ∃ e, e = y.takeAcks (fieldLE r.data 4 4) 0 := ⟨_, rfl⟩
  obtain ⟨beatX, lostX, unackedX, -, regsX, keepsX⟩ := Dev.beaten_shows s.found r hx
  obtain ⟨beatY, lostY, unackedY, keepsY⟩ := Dev.partnerMoved_leaves x _ _ hy
  rw [unackedX] at unackedY
  have activeX : x.active = true := by
    simp only [Dev.active, Dev.paired, Dev.nat] at active ⊢
    rw [regsX _ (by decide), regsX _ (by decide)]
    exact active
  obtain ⟨left, beat, lost, lastGen, keepsE⟩ := Dev.takeAcks_forgets y (by rw [unackedY]; exact waits) (by rw [unackedY]; exact numbered) made
  have result : s.found.heartbeat f = e := by rw [Dev.heartbeat_eq there, ← hx, if_pos activeX, taken, ← hy, made]
  have keeps : s.found.Keeps e (.pair :: logParts) := ((keepsX.mono (by decide)).andThen keepsY).step keepsE
  rw [unackedY] at left
  have beatE : e.pair.hbTick = some s.found.tickAbs := by rw [beat, beatY, beatX]
  have lostE : e.pair.lostTold = false := by rw [lost, lostY, lostX]
  exact (pair_leaves live (fun d => d.heartbeat f) result keeps).does fun _ _ => ⟨left, beatE, lastGen, lostE⟩

theorem heartbeat_learns (passive : s.found.active = false) (stands : s.found.standsBy = true) : Does (.heartbeat f) s fun b a =>
    a.pair.hbTick = some b.tickAbs ∧
    a.reg Reg.R5801_PARTNER_STATE = (odType Reg.R5801_PARTNER_STATE).wrap (fieldLE r.data 0 1) ∧
    (b.nat Reg.R5801_STORED_EPOCH < fieldLE r.data 12 4 →
      a.reg Reg.R5801_STORED_EPOCH = (odType Reg.R5801_STORED_EPOCH).wrap (fieldLE r.data 12 4)) ∧
    (fieldLE r.data 12 4 ≤ b.nat Reg.R5801_STORED_EPOCH → a.nat Reg.R5801_STORED_EPOCH = b.nat Reg.R5801_STORED_EPOCH) := by
  obtain ⟨x, hx⟩ : ∃ x, x = s.found.beaten r := ⟨_, rfl⟩
  obtain ⟨e, made⟩ : ∃ e, e = x.learnEpoch (fieldLE r.data 12 4) x.partnerId := ⟨_, rfl⟩
  obtain ⟨beatX, -, -, partner, regsX, keepsX⟩ := Dev.beaten_shows s.found r hx
  have passiveX : ¬x.active = true := by
    simp only [Dev.active, Dev.paired, Dev.nat] at passive ⊢
    rw [regsX _ (by decide), regsX _ (by decide), passive]
    decide
  have keepsE : x.Keeps e [.od] := by rw [made]; exact x.keeps_learnEpoch _ _
  have regsE : ∀ k, k ≠ Reg.R5801_STORED_EPOCH → k ≠ Reg.R5801_HOLDER → e.reg k = x.reg k := fun k stored held => by
    rw [made, x.learnEpoch_regs _ _ stored held]
  have state : e.state = s.found.state :=
    congrArg Int.toNat ((regsE _ (by decide) (by decide)).trans (regsX _ (by decide)))
  have idle : e.pairListen = e := by
    have awake : (e.state == DevState.syncing) = false := by
      rw [state]
      have two := stands
      simp only [Dev.standsBy, Bool.or_eq_true, beq_iff_eq] at two
      rcases two with h | h <;> rw [h] <;> rfl
    unfold Dev.pairListen
    extract_lets waits
    have no : waits = false := by simp [waits, awake]
    exact if_pos (by rw [no]; rfl)
  have result : s.found.heartbeat f = e := by rw [Dev.heartbeat_eq there, ← hx, if_neg passiveX, ← made, idle]
  have keeps : s.found.Keeps e [.pair, .od] := keepsX.step keepsE
  have epochX : x.nat Reg.R5801_STORED_EPOCH = s.found.nat Reg.R5801_STORED_EPOCH := congrArg Int.toNat (regsX _ (by decide))
  have beat : e.pair.hbTick = some s.found.tickAbs := by rw [keepsE .pair (by decide), beatX]
  have shown : e.reg Reg.R5801_PARTNER_STATE = (odType Reg.R5801_PARTNER_STATE).wrap (fieldLE r.data 0 1) := by
    rw [regsE _ (by decide) (by decide), partner]
  refine (pair_leaves live (fun d => d.heartbeat f) result keeps).quietly (keeps .event (by decide)) ⟨beat, shown, fun higher => ?_, fun known => ?_⟩
  · rw [made, Dev.learnEpoch, if_pos (by rw [epochX]; exact higher), Dev.reg_set_other _ _ (by decide), Dev.reg_set_same]
  · rw [made, Dev.learnEpoch, if_neg (by rw [epochX]; omega), epochX]

end

end

/-- Settles O51: a generation captured, closed and acknowledged on the active, staged, judged and applied on the standby, the sweep and the heartbeat. -/
theorem checkpointStream : Obligations.CheckpointStream := by
  unfold Obligations.CheckpointStream
  intro s live d
  refine ⟨fun addr data no => hoardWrite_outside live no, fun addr x pg aligned page active => hoardWrite_captures live x aligned page active,
    generation_none live, fun g open_ => ⟨close_waits live open_, close_closes live open_, ckptLag_raises live open_, ckptLag_idle live open_⟩,
    ackTimeout_merges live, fun f r rtype i hi => ?_, fun f r there stands rests numbered own unclosed => ?_,
    fun f r there sleeps => sweepRecord_writes live there sleeps, fun f no => sweepRecord_idle live no,
    fun f r there => ⟨fun u active waits taken numbered => heartbeat_acknowledges live there active waits taken numbered,
      fun passive stands => heartbeat_learns live there passive stands⟩, fun f no => heartbeat_none live no⟩
  · have runs : (exec i s = s.answer fun d => d.live fun d => d.stageRecord rtype f) ∧ rtype ≠ 4 := by
      simp only [List.mem_cons, List.not_mem_nil, or_false, Prod.mk.injEq] at hi
      rcases hi with ⟨rfl, rfl⟩ | ⟨rfl, rfl⟩ | ⟨rfl, rfl⟩ | ⟨rfl, rfl⟩ <;> exact ⟨rfl, by decide⟩
    obtain ⟨hi, other⟩ := runs
    exact ⟨record_idle live hi, fun there stands rests numbered follows unclosed =>
      record_stages live hi other there ⟨stands, rests, numbered, follows⟩ unclosed⟩
  · have takes : s.found.Takes_ r := ⟨stands, rests, numbered, .inl own⟩
    exact ⟨closeRecord_waits live there takes unclosed, closeRecord_rejects live there takes unclosed,
      fun whole good format plain config => closeRecord_applies live there takes unclosed whole good rfl format plain config⟩

end Sys2Proof.Machine
end

section
/-! # What a reaction leaves of an axis' feedback and loops, and of a chain's override (R31, R70, R73) -/

namespace Sys2Proof.Machine

/-- An axis without its motion, its outputs and the reaction in progress. -/
def Axis.loops (a : Axis) : Axis :=
  { a with cur := { a.cur with out := 0, outD := 0 }, velL := { a.velL with out := 0 }, posL := { a.posL with out := 0 },
           auxL := { a.auxL with out := 0 }, plan := none, planT := 0, adv := 0, rampAt := 0, rampRaw := 0, rampBy := 0, motion := .rest,
           command := none, baseTgt := none, stopWhy := .none, softStop := false, replan := false, reactNow := 0, reactTick := 0,
           reactNext := none, loopsOff := false, cause := 0 }

/-- A chain with an empty queue and no segment in progress. -/
def Chain.Halted (x : Chain) : Prop := x.queue = [] ∧ x.cur = none ∧ x.lambda = 0

/-- The entries ahead of the axes', and the entries of the axes' structure, loops, feedback and reactions. -/
def CalmReg (k : Nat) : Prop :=
  k < 0x200000 ∨ k < 0x300000 ∧ (k / 256 % 16 = 7 ∨ k / 256 % 16 = 8 ∨ k / 256 % 16 = 10 ∨ k / 256 % 16 = 14)

/-- Another entry of an axis, or one beyond the axes. -/
theorem not_calm {ix sub : Nat} (low : sub < 256) (h : 0x2000 ≤ ix ∧ (0x3000 ≤ ix ∨ ix % 16 = 1 ∨ ix % 16 = 5 ∨ ix % 16 = 11 ∨ ix % 16 = 13)) :
    ¬CalmReg (Reg.key ix sub) := by
  simp only [CalmReg, Reg.key]
  omega

/-- Every axis has the feedback and the loops it had, and every chain its next override and its capsules; a halted chain stays so. The
entries of `CalmReg` stand. The axis may be any number. -/
structure Dev.LoopsStand (d e : Dev) : Prop where
  axes : ∀ n, (e.axis n).loops = (d.axis n).loops
  ovr : ∀ c, (e.chain c).ovrNext = (d.chain c).ovrNext
  caps : ∀ c, (e.chain c).caps = (d.chain c).caps
  halted : ∀ c, (d.chain c).Halted → (e.chain c).Halted
  regs : ∀ k, CalmReg k → k ∉ logRegs → e.reg k = d.reg k
  keeps : d.Keeps e reactionParts

section
variable {d e f : Dev} {n : Nat}

theorem Dev.LoopsStand.refl (d : Dev) : d.LoopsStand d := ⟨fun _ => rfl, fun _ => rfl, fun _ => rfl, fun _ h => h, fun _ _ _ => rfl, Dev.Keeps.refl _ _⟩

theorem Dev.LoopsStand.trans (h : d.LoopsStand e) (g : e.LoopsStand f) : d.LoopsStand f :=
  ⟨fun n => (g.axes n).trans (h.axes n), fun c => (g.ovr c).trans (h.ovr c), fun c => (g.caps c).trans (h.caps c),
    fun c halted => g.halted c (h.halted c halted), fun k calm log => (g.regs k calm log).trans (h.regs k calm log),
    h.keeps.andThen g.keeps⟩

theorem Dev.LoopsStand.of_keeps {l : List Part} (h : d.LoopsStand e) (g : e.Keeps f l) (regs : ∀ k, CalmReg k → k ∉ logRegs → f.reg k = e.reg k)
    (axes : Part.axes ∉ l := by decide) (chains : Part.chains ∉ l := by decide) (within : ∀ p ∈ l, p ∈ reactionParts := by decide) : d.LoopsStand f :=
  ⟨fun n => by rw [g.axis n axes, h.axes n], fun c => by rw [g.chain c chains, h.ovr c],
    fun c => by rw [g.chain c chains, h.caps c], fun c halted => by rw [g.chain c chains]; exact h.halted c halted,
    fun k calm log => (regs k calm log).trans (h.regs k calm log), h.keeps.step g within⟩

theorem Dev.LoopsStand.set (h : d.LoopsStand e) (k : Nat) (v : Int) (apart : ¬CalmReg k := by exact not_calm (by decide) (by omega)) : d.LoopsStand (e.set k v) :=
  h.of_keeps (e.keeps_set k v) fun j calm _ => Dev.reg_set_other _ _ (by rintro rfl; exact apart calm)

theorem Dev.LoopsStand.raise (h : d.LoopsStand e) (code kind subject reaction detail : Nat) :
    d.LoopsStand (e.raise code kind subject reaction detail) := h.of_keeps (Dev.keeps_raise _ _ _ _ _ _) fun _ _ log => Dev.reg_raise _ _ _ _ _ _ log

theorem Dev.LoopsStand.setAxSafe (h : d.LoopsStand e) (n : Nat) (x : AxSafe) : d.LoopsStand (e.setAxSafe n x) :=
  h.of_keeps (l := [.safe]) (Dev.keeps_safe _ _) fun _ _ _ => rfl

theorem Dev.LoopsStand.modAxis (h : d.LoopsStand e) (n : Nat) {g : Axis → Axis} (same : ∀ a, (g a).loops = a.loops) : d.LoopsStand (e.modAxis n g) := by
  refine ⟨fun m => ?_, h.ovr, h.caps, h.halted, h.regs, h.keeps.modAxis _ _⟩
  by_cases own : m = n
  · subst own
    rw [Dev.axis_modAxis, same, h.axes m]
  · rw [Dev.axis_modAxis_other _ _ own, h.axes m]

theorem Dev.LoopsStand.modChain (h : d.LoopsStand e) (c : Nat) {g : Chain → Chain} (same : ∀ x, (g x).ovrNext = x.ovrNext ∧ (g x).caps = x.caps ∧ (x.Halted → (g x).Halted)) :
    d.LoopsStand (e.modChain c g) := by
  have view : ∀ k, ((e.modChain c g).chain k).ovrNext = (e.chain k).ovrNext ∧ ((e.modChain c g).chain k).caps = (e.chain k).caps ∧
      ((e.chain k).Halted → ((e.modChain c g).chain k).Halted) := fun k => by
    by_cases own : k = c
    · subst own
      rw [Dev.chain_modChain]
      exact same _
    · rw [Dev.chain_modChain_other _ _ own]
      exact ⟨rfl, rfl, fun halted => halted⟩
  exact ⟨h.axes, fun k => (view k).1.trans (h.ovr k), fun k => (view k).2.1.trans (h.caps k), fun k halted => (view k).2.2 (h.halted k halted),
    h.regs, h.keeps.step (e.keeps_modChain c g)⟩

theorem Dev.LoopsStand.when (h : d.LoopsStand e) (b : Bool) (g : Dev → Dev) (then_ : d.LoopsStand (g e)) : d.LoopsStand (e.when b g) := by
  unfold Dev.when
  split
  · exact then_
  · exact h

theorem Dev.LoopsStand.each {α : Type} (xs : List α) (g : α → Dev → Dev) (h : d.LoopsStand e)
    (step : ∀ x ∈ xs, ∀ f, d.LoopsStand f → d.LoopsStand (g x f)) : d.LoopsStand (Machine.each xs g e) :=
  each_holds (fun f : Dev => d.LoopsStand f) xs g step h

/-! ## The steps of a reaction -/

theorem Dev.LoopsStand.abortInjection (h : d.LoopsStand e) (n : Nat) : d.LoopsStand (e.abortInjection n) := by
  refine h.of_keeps (e.keeps_abortInjection n) fun k calm log => ?_
  refine iterate_holds (fun f : Dev => f.reg k = e.reg k) _ _ (fun g _ f hf => ?_) rfl
  have apart : ∀ {j : Nat}, ¬CalmReg j → k ≠ j := fun out own => out (own ▸ calm)
  split
  · exact ((Dev.reg_raise _ _ _ _ _ _ log).trans ((Dev.reg_set_other _ _ (apart (not_calm (by decide) (by omega)))).trans
      ((Dev.reg_set_other _ _ (apart (not_calm (by decide) (by omega)))).trans (Dev.reg_set_other _ _ (apart (not_calm (by decide) (by omega))))))).trans hf
  · exact hf

theorem Dev.LoopsStand.startPlan (h : d.LoopsStand e) (n : Nat) (m : Motion) (p : Plan) : d.LoopsStand (e.startPlan n m p) :=
  h.modAxis n fun _ => rfl

theorem Dev.LoopsStand.startStop (h : d.LoopsStand e) (n : Nat) (A : Rat) (J : Option Rat) : d.LoopsStand (e.startStop n A J) := by
  unfold Dev.startStop
  split
  · exact h
  · exact h.startPlan _ _ _

theorem Dev.LoopsStand.freshStop (h : d.LoopsStand e) (n : Nat) : d.LoopsStand (e.freshStop n) := by
  unfold Dev.freshStop
  split
  · exact h.when _ _ (h.modChain _ fun _ => ⟨rfl, rfl, fun halted => halted⟩)
  · exact h

theorem Dev.LoopsStand.emergencyRamp (h : d.LoopsStand e) (n : Nat) : d.LoopsStand (e.emergencyRamp n) := by
  unfold Dev.emergencyRamp
  split
  · exact h
  · extract_lets f
    have fresh : d.LoopsStand f := h.freshStop n
    exact (fresh.startPlan n _ _).setAxSafe n _

theorem Dev.LoopsStand.quickStopAxis (h : d.LoopsStand e) (n : Nat) : d.LoopsStand (e.quickStopAxis n) := by
  have ramped : d.LoopsStand (((e.abortInjection n).abandonHoming n).emergencyRamp n) := ((h.abortInjection n).set _ _).emergencyRamp n
  unfold Dev.quickStopAxis
  exact (ramped.set _ _).modAxis n fun _ => rfl

theorem Dev.LoopsStand.discardQueue (h : d.LoopsStand e) (c : Nat) : d.LoopsStand (e.discardQueue c) := by
  unfold Dev.discardQueue
  refine Dev.LoopsStand.set (.modChain h c ?_) _ _
  exact fun _ => ⟨rfl, rfl, fun _ => ⟨rfl, rfl, rfl⟩⟩

theorem Dev.LoopsStand.chainStop (h : d.LoopsStand e) (n : Nat) : d.LoopsStand (e.chainStop n) := by
  unfold Dev.chainStop
  split
  · exact h
  next c _ =>
    split
    · refine .each _ _ (h.discardQueue c) fun m _ f hf => ?_
      split
      · exact hf.quickStopAxis m
      · exact hf
    · exact h

theorem Dev.LoopsStand.cutTorque (h : d.LoopsStand e) (n code : Nat) : d.LoopsStand (e.cutTorque n code) := by
  unfold Dev.cutTorque
  extract_lets aborted faulted shown opened still before unmonitored
  have aborted' : d.LoopsStand aborted := h.abortInjection n
  have shown' : d.LoopsStand shown := (((aborted'.set _ _).set _ _).set _ _).set _ _
  clear_value shown
  have opened' : d.LoopsStand opened := shown'.modAxis n fun _ => rfl
  clear_value opened
  have still' : d.LoopsStand still := ((opened'.set _ _).set _ _).set _ _
  clear_value still
  have unmonitored' : d.LoopsStand unmonitored := still'.setAxSafe n _
  split
  · exact unmonitored'.modChain _ fun _ => ⟨rfl, rfl, fun halted => halted⟩
  · exact unmonitored'

theorem Dev.LoopsStand.carryOut (h : d.LoopsStand e) (n code r : Nat) : d.LoopsStand (e.carryOut n code r) := by
  unfold Dev.carryOut
  extract_lets named homing began ramp by_ stopping monitored
  have named' : d.LoopsStand named := (h.set _ _).modAxis n fun _ => rfl
  split
  · exact (named'.cutTorque n code).chainStop n
  · have homing' : d.LoopsStand homing := (named'.abortInjection n).set _ _
    have ramp' : d.LoopsStand ramp := by
      show d.LoopsStand (if _ then _ else _)
      split
      · exact homing'.startStop n _ _
      · exact homing'.emergencyRamp n
    have by' : d.LoopsStand by_ := ramp'.when _ _ (ramp'.modAxis n fun _ => rfl)
    clear_value by_
    have stopping' : d.LoopsStand stopping := (by'.set _ _).modAxis n fun _ => rfl
    clear_value stopping
    exact (stopping'.when _ _ ((stopping'.setAxSafe n _).set _ _)).chainStop n

theorem Dev.LoopsStand.react (h : d.LoopsStand e) (n code r : Nat) : d.LoopsStand (e.react n code r) := by
  unfold Dev.react
  dsimp only
  split
  · exact h
  split
  · exact h
  split
  · split
    · exact (h.set _ _).cutTorque n code
    · exact h
  split
  · refine Dev.LoopsStand.cutTorque (.modAxis (h.set _ _) n ?_) n code
    exact fun _ => rfl
  split
  · exact h.carryOut n code r
  split
  · exact h
  split
  · exact h.carryOut n code r
  · refine h.modAxis n fun a => ?_
    split
    · split <;> rfl
    · rfl

theorem Dev.LoopsStand.fault (h : d.LoopsStand e) (n code r detail : Nat) : d.LoopsStand (e.fault n code r detail) := (h.raise _ _ _ _ _).react n code r

theorem Dev.LoopsStand.reactChain (h : d.LoopsStand e) (c code r : Nat) : d.LoopsStand (e.reactChain c code r) :=
  .each _ _ h fun n _ _ hf => hf.react n code r

end

end Sys2Proof.Machine
end

section
/-! # Overruns counted and logged (R31) -/

namespace Sys2Proof.Machine

section
variable {d e : Dev}

/-! ## A code raised at an instant of the tick -/

theorem Dev.keeps_raiseAt (d : Dev) (off code kind subject reaction detail : Nat) :
    d.Keeps (d.raiseAt off code kind subject reaction detail) [.od, .log, .event] := by
  intro p hp
  unfold Dev.raiseAt
  cases p <;> simp [Part.Same, Dev.when] at hp ⊢ <;> (split <;> split <;> rfl)

theorem Dev.lastRaised_raiseAt (d : Dev) (off code kind subject reaction detail : Nat) :
    (d.raiseAt off code kind subject reaction detail).LastRaised code kind subject := by
  unfold Dev.LastRaised Dev.raiseAt
  refine ⟨{ seq := d.nat Reg.R1003_NEXT_SEQ, code, kind, subject, cycle := d.cycle, tick := d.clk.tick, reaction,
            nt := ns40 (d.ntAt (d.clk.raw + off)), detail }, ?_, rfl, rfl, rfl⟩
  simp only [Dev.set_keeps, Dev.when]
  split <;> split <;> simp

theorem Dev.reg_raiseAt (d : Dev) {k : Nat} (off code kind subject reaction detail : Nat) (log : k ∉ logRegs) :
    (d.raiseAt off code kind subject reaction detail).reg k = d.reg k := by
  obtain ⟨seq, wrapped, confirm⟩ : k ≠ Reg.R1003_NEXT_SEQ ∧ k ≠ Reg.R1003_LOG_WRAPPED ∧ k ≠ Reg.R6020_CONFIRM_CYCLES := by simpa using log
  unfold Dev.raiseAt
  extract_lets record full x y z
  have regY : y.reg k = d.reg k := Dev.reg_when_set _ _ _ wrapped
  clear_value y
  rw [Dev.reg_set_other _ _ seq, show z.reg k = y.reg k from Dev.reg_when_set _ _ _ confirm, regY]

/-! ## An overrun counted -/

/-- The overrun counted: its flag, its counter, and when it was. -/
structure Dev.Counts (b a : Dev) (code counter : Nat) : Prop where
  flag : a.bit Reg.R1101_OVERRUN_FLAGS (code - 0x1001) = true
  count : a.nat counter = min (b.nat counter + 1) 0xFFFFFFFF
  cycle : a.reg Reg.R1101_LAST_CYCLE = (odType Reg.R1101_LAST_CYCLE).wrap b.cycle
  tick : a.reg Reg.R1101_LAST_TICK = (odType Reg.R1101_LAST_TICK).wrap b.clk.tick

/-- The overruns, with their counters. -/
abbrev overruns : List (Nat × Nat) := [(Code.CONTROL_OVERRUN, Reg.R1101_CONTROL_COUNT), (Code.PROFILE_OVERRUN, Reg.R1101_PROFILE_COUNT),
  (Code.KINEMATICS_OVERRUN, Reg.R1101_KINEMATICS_COUNT), (Code.DISTANCE_OVERRUN, Reg.R1101_DISTANCE_COUNT),
  (Code.SEPARATION_OVERRUN, Reg.R1101_SEPARATION_COUNT)]

/-- The entries of overruns. -/
abbrev overrunRegs : List Nat := [Reg.R1101_OVERRUN_FLAGS, Reg.R1101_CONTROL_COUNT, Reg.R1101_PROFILE_COUNT, Reg.R1101_KINEMATICS_COUNT,
  Reg.R1101_DISTANCE_COUNT, Reg.R1101_SEPARATION_COUNT, Reg.R1101_LAST_CYCLE, Reg.R1101_LAST_TICK]

theorem overrun_entries : (∀ x ∈ overruns, x.2 ∈ overrunRegs ∧ odType x.2 = .u32 ∧ x.1 - 0x1001 < 16 ∧ x.2 ≠ Reg.R1101_OVERRUN_FLAGS ∧ x.2 ≠ Reg.R1101_LAST_CYCLE ∧
    x.2 ≠ Reg.R1101_LAST_TICK) ∧ odType Reg.R1101_OVERRUN_FLAGS = .u16 ∧ odType Reg.R1101_LAST_CYCLE = .u32 ∧ odType Reg.R1101_LAST_TICK = .u8 ∧
    ∀ k ∈ overrunRegs, k ∉ logRegs ∧ k / 4096 < 0x200 := by decide +kernel

theorem Dev.Counts.congr {b a f : Dev} {code counter : Nat} (h : b.Counts a code counter) (own : (code, counter) ∈ overruns)
    (same : ∀ k ∈ overrunRegs, f.reg k = a.reg k) : b.Counts f code counter :=
  ⟨by rw [← h.flag, Dev.bit, Dev.bit, Dev.nat, Dev.nat, same _ (by simp)], (congrArg Int.toNat (same _ (overrun_entries.1 _ own).1)).trans h.count,
    (same _ (by simp)).trans h.cycle, (same _ (by simp)).trans h.tick⟩

theorem Dev.Counts.from {c b a : Dev} {code counter : Nat} (h : b.Counts a code counter) (count : b.nat counter = c.nat counter)
    (clk : b.clk = c.clk) : c.Counts a code counter :=
  ⟨h.flag, by rw [h.count, count], by rw [h.cycle, Dev.cycle, clk, ← Dev.cycle], by rw [h.tick, clk]⟩

theorem Dev.overrun_counts (d : Dev) {code counter : Nat} (own : (code, counter) ∈ overruns) (made : e = d.overrun code counter) :
    d.Counts e code counter ∧ d.Keeps e [.od] := by
  obtain ⟨entries, flags, -, -, -⟩ := overrun_entries
  obtain ⟨-, type, low, notFlags, notCycle, notTick⟩ := entries _ own
  dsimp only at type low notFlags notCycle notTick
  unfold Dev.overrun at made
  extract_lets x at made
  obtain ⟨o, ho⟩ : ∃ o, o = d.orBits Reg.R1101_OVERRUN_FLAGS (2 ^ (code - 0x1001)) := ⟨_, rfl⟩
  have eqX : x = o.count counter := by rw [ho]
  have keepsO : d.Keeps o [.od] := by rw [ho]; exact Dev.keeps_set _ _ _
  clear_value x
  have keepsX : o.Keeps x [.od] := by rw [eqX]; exact Dev.keeps_set _ _ _
  have keepsE : x.Keeps e [.od] := by rw [made]; exact ((Dev.Keeps.refl _ _).set _ _).set _ _
  have clk : x.clk = d.clk := (keepsX .clk (by decide)).trans (keepsO .clk (by decide))
  have flagO : o.bit Reg.R1101_OVERRUN_FLAGS (code - 0x1001) = true := by
    rw [ho, d.bit_orBits flags _ low, Nat.testBit_two_pow_self, Bool.or_true]
  refine ⟨⟨?_, ?_, ?_, ?_⟩, (keepsO.andThen keepsX).andThen keepsE⟩
  · rw [← flagO, Dev.bit, Dev.bit, Dev.nat, Dev.nat, made, Dev.reg_set_other _ _ (by decide), Dev.reg_set_other _ _ (by decide), eqX, Dev.count,
      Dev.reg_set_other _ _ notFlags.symm]
  · have before : o.nat counter = d.nat counter := by rw [ho, Dev.orBits, Dev.nat, Dev.reg_set_other _ _ notFlags, ← Dev.nat]
    rw [made, Dev.nat, Dev.reg_set_other _ _ notTick, Dev.reg_set_other _ _ notCycle, eqX, ← Dev.nat, o.nat_count_same type, before]
  · rw [made, Dev.reg_set_other _ _ (by decide), Dev.reg_set_same, Dev.cycle, clk, ← Dev.cycle]
  · rw [made, Dev.reg_set_same, clk]

/-- The cycle and the tick of an overrun as they are. -/
theorem Dev.Counts.plain {b a : Dev} {code counter : Nat} (h : b.Counts a code counter) (low : b.clk.tick < 8) :
    a.bit Reg.R1101_OVERRUN_FLAGS (code - 0x1001) = true ∧ a.nat counter = min (b.nat counter + 1) 0xFFFFFFFF ∧
    a.reg Reg.R1101_LAST_CYCLE = b.cycle ∧ a.reg Reg.R1101_LAST_TICK = b.clk.tick := by
  obtain ⟨-, -, cycle, tick, -⟩ := overrun_entries
  refine ⟨h.flag, h.count, ?_, ?_⟩
  · rw [h.cycle, cycle]
    have small : b.cycle < 2 ^ 32 := Nat.mod_lt _ (by decide)
    show (b.cycle : Int) % 2 ^ 32 = _
    omega
  · rw [h.tick, tick]
    show (b.clk.tick : Int) % 2 ^ 8 = _
    omega

end

end Sys2Proof.Machine
end

section
/-! # The geometry tick: frames, distance testing and their overruns (R31, R142, R150) -/

namespace Sys2Proof.Machine

section
variable {d e : Dev}

theorem Dev.keeps_geom (d : Dev) (x : Geom) : d.Keeps { d with geom := x } [.geom] := by
  intro p hp
  cases p with
  | geom => simp at hp
  | _ => rfl

theorem Dev.reg_overrun (d : Dev) {code counter k : Nat} (own : (code, counter) ∈ overruns) (out : k ∉ overrunRegs) :
    (d.overrun code counter).reg k = d.reg k := by
  have mem := (overrun_entries.1 _ own).1
  have apart : ∀ j ∈ overrunRegs, k ≠ j := fun j hj same => out (same ▸ hj)
  unfold Dev.overrun
  extract_lets x
  have regX : x.reg k = d.reg k := by
    show ((d.orBits _ _).set counter _).reg k = _
    rw [Dev.reg_set_other _ _ (apart _ mem), Dev.orBits, Dev.reg_set_other _ _ (apart _ (by simp))]
  clear_value x
  rw [Dev.reg_set_other _ _ (apart _ (by simp)), Dev.reg_set_other _ _ (apart _ (by simp)), regX]

/-- The stops of these chains wait for T4, and their overrides are 0 then. -/
def Geom.withStops (g : Geom) (cs : List Nat) (code : Nat) : Geom :=
  { g with stopsT4 := g.stopsT4 ++ cs.map (·, code), zeroOvr := g.zeroOvr ++ cs }

/-- Steps that each let one chain's protective stop wait. -/
theorem Dev.geom_eachStop {code : Nat} (g : Nat → Dev → Dev) (step : ∀ c (d : Dev), (g c d).geom = d.geom.withStops [c] code) (cs : List Nat) (d : Dev) :
    (each cs g d).geom = d.geom.withStops cs code := by
  induction cs generalizing d with
  | nil => simp [each, Geom.withStops]
  | cons c cs ih =>
    have next := ih (g c d)
    rw [step c d] at next
    refine next.trans ?_
    simp [Geom.withStops]

theorem Dev.geom_protectiveStops (cs : List Nat) (code : Nat) (d : Dev) :
    (each cs (fun c d => d.protectiveStop c code) d).geom = d.geom.withStops cs code := Dev.geom_eachStop _ (fun _ _ => rfl) cs d

theorem Dev.keeps_protectiveStops (cs : List Nat) (code : Nat) (d : Dev) : d.Keeps (each cs (fun c d => d.protectiveStop c code) d) [.geom] :=
  Dev.Keeps.each _ _ (fun _ d => d.keeps_geom _) d

end

section
variable {s : State} (live : s.Live) (works : s.found.standsBy = false)
include live works

/-- A command of the geometry tick. -/
theorem geometry_leaves {i : Instr} (g : Dev → Dev) {e : Dev} {l : List Part} (result : g s.found = e) (keeps : s.found.Keeps e l)
    (within : ∀ p ∈ beyondCell, p ∉ l := by decide) (hi : exec i s = s.answerCell fun d => d.liveIf (d.standsBy = false) g := by rfl) : Leaves i s e :=
  .cell (guard := fun d => d.liveIf (d.standsBy = false)) g (live.passesIf works) result keeps within hi

theorem geometry_idle {i : Instr} (g : Dev → Dev) (result : g s.found = s.found)
    (hi : exec i s = s.answerCell fun d => d.liveIf (d.standsBy = false) g := by rfl) : Does i s fun b a => b.Keeps a [] :=
  Leaves.unchanged (geometry_leaves live works (l := []) g result (Dev.Keeps.refl _ _) (hi := hi))

/-! ## Frames that are not complete in time -/

theorem kinematicsOverrun_idle (no : s.found.clk.tick ≠ 1 ∨ s.found.geom.kinDone = true) : Does .kinematicsOverrun s fun b a => b.Keeps a [] :=
  geometry_idle live works (fun d => d.kinematicsOverrun) (if_pos (no.imp_right .inl))

omit live works in
/-- A measurement spoilt, and the chain's stop waiting. -/
def Dev.spoilStop (c : Nat) (d : Dev) : Dev :=
  (d.when (d.chain c).meas.isSome fun d => d.modChain c fun x => { x with meas := x.meas.map fun m => { m with bad := true } }).protectiveStop c
    Code.KINEMATICS_OVERRUN

omit live works in
theorem Dev.geom_spoilStop (c : Nat) (d : Dev) : (Dev.spoilStop c d).geom = d.geom.withStops [c] Code.KINEMATICS_OVERRUN := by
  unfold Dev.spoilStop Dev.when
  split <;> rfl

omit live works in
theorem Dev.keeps_spoilStop (c : Nat) (d : Dev) : d.Keeps (Dev.spoilStop c d) [.geom, .chains] := by
  have spoilt : d.Keeps (d.when (d.chain c).meas.isSome fun d => d.modChain c fun x => { x with meas := x.meas.map fun m => { m with bad := true } }) [.geom, .chains] :=
    Dev.Keeps.when _ _ ((d.keeps_modChain c _).mono (by decide))
  exact spoilt.step (Dev.keeps_geom _ _)

theorem kinematicsOverrun_stops (tick : s.found.clk.tick = 1) (late : s.found.geom.kinDone = false) (first : s.found.geom.kinOver = false) :
    Does .kinematicsOverrun s fun b a => b.Counts a Code.KINEMATICS_OVERRUN Reg.R1101_KINEMATICS_COUNT ∧
      a.LastRaised Code.KINEMATICS_OVERRUN Kind.device 0 ∧
      (a.geom.stopsT4 = b.geom.stopsT4 ++ b.enabledChains.map (·, Code.KINEMATICS_OVERRUN) ∧ a.geom.zeroOvr = b.geom.zeroOvr ++ b.enabledChains) ∧
      a.geom.kinOver = true ∧ b.Keeps a (.geom :: .chains :: logParts) := by
  obtain ⟨x, hx⟩ : ∃ x, x = s.found.overrun Code.KINEMATICS_OVERRUN Reg.R1101_KINEMATICS_COUNT := ⟨_, rfl⟩
  obtain ⟨y, hy⟩ : ∃ y, y = x.raiseAt 0 Code.KINEMATICS_OVERRUN Kind.device 0 0 0 := ⟨_, rfl⟩
  obtain ⟨z, hz⟩ : ∃ z, z = each y.enabledChains Dev.spoilStop y := ⟨_, rfl⟩
  obtain ⟨e, made⟩ : ∃ e, e = { z with geom := { z.geom with kinOver := true } } := ⟨_, rfl⟩
  have result : s.found.kinematicsOverrun = e := by
    rw [made, hz, hy, hx]
    exact if_neg (by rintro (h | h | h) <;> simp_all)
  obtain ⟨counts, keepsX⟩ := Dev.overrun_counts s.found (by decide) hx
  have keepsY : x.Keeps y [.od, .log, .event] := by rw [hy]; exact x.keeps_raiseAt _ _ _ _ _ _
  have keepsZ : y.Keeps z [.geom, .chains] := by rw [hz]; exact Dev.Keeps.each _ _ Dev.keeps_spoilStop y
  have keepsE : z.Keeps e [.geom] := by rw [made]; exact z.keeps_geom _
  have regs : ∀ k, k ∉ logRegs → e.reg k = x.reg k := fun k log => by
    rw [Dev.reg_congr (keepsE .od (by decide)), Dev.reg_congr (keepsZ .od (by decide)), hy, x.reg_raiseAt _ _ _ _ _ _ log]
  have enabled : y.enabledChains = s.found.enabledChains := by
    refine List.filter_congr fun c hc => ?_
    have own : act (Reg.CH0_CHAIN_EN c) ∉ logRegs ∧ act (Reg.CH0_CHAIN_EN c) ∉ overrunRegs := by
      have low := List.mem_range.1 hc
      revert c
      decide +kernel
    have regX : x.reg (act (Reg.CH0_CHAIN_EN c)) = s.found.reg (act (Reg.CH0_CHAIN_EN c)) := by
      rw [hx]
      exact s.found.reg_overrun (by decide) own.2
    rw [Dev.chainEn, Dev.chainEn, Dev.flag, Dev.flag, hy, x.reg_raiseAt _ _ _ _ _ _ own.1, regX]
  have geomZ : z.geom = s.found.geom.withStops s.found.enabledChains Code.KINEMATICS_OVERRUN := by
    have same : y.geom = s.found.geom := (keepsY .geom (by decide)).trans (keepsX .geom (by decide))
    rw [hz, Dev.geom_eachStop _ Dev.geom_spoilStop, enabled, same]
  have geomE : e.geom = { s.found.geom.withStops s.found.enabledChains Code.KINEMATICS_OVERRUN with kinOver := true } := by rw [made, geomZ]
  have last : e.LastRaised Code.KINEMATICS_OVERRUN Kind.device 0 := by
    have lastY : y.LastRaised Code.KINEMATICS_OVERRUN Kind.device 0 := by rw [hy]; exact x.lastRaised_raiseAt _ _ _ _ _ _
    exact (lastY.of_keeps keepsZ).of_keeps keepsE
  have keeps : s.found.Keeps e (.geom :: .chains :: logParts) := (((keepsX.mono (by decide)).step keepsY).step keepsZ).step keepsE
  have shown : s.found.Counts e Code.KINEMATICS_OVERRUN Reg.R1101_KINEMATICS_COUNT :=
    counts.congr (by decide) fun k hk => regs k (overrun_entries.2.2.2.2 k hk).1
  have stops : e.geom.stopsT4 = s.found.geom.stopsT4 ++ s.found.enabledChains.map (·, Code.KINEMATICS_OVERRUN) ∧
      e.geom.zeroOvr = s.found.geom.zeroOvr ++ s.found.enabledChains := by rw [geomE]; exact ⟨rfl, rfl⟩
  have held : e.geom.kinOver = true := by rw [geomE]
  exact (geometry_leaves live works (fun d => d.kinematicsOverrun) result keeps).does fun pend vecs =>
    ⟨⟨shown.flag, shown.count, shown.cycle, shown.tick⟩, last.told _ _, stops, held, keeps.told pend vecs⟩

end

end Sys2Proof.Machine
end

section
/-! # Distance testing and its overrun (R31, R150) -/

namespace Sys2Proof.Machine

section
variable {d e f : Dev}

/-- The entries that select pairs. -/
abbrev pairRegs : List Nat := [act Reg.R3102_N_INTR, Reg.R3102_SELF + 0x80, Reg.R3102_PREDICT + 0x80]

/-- The pairs of the cycle stand: what has been tested of them, and what selects them. -/
structure Dev.PairsStand (d e : Dev) : Prop where
  done : e.geom.kinDone = d.geom.kinDone
  late : e.geom.kinOver = d.geom.kinOver
  cycle : e.geom.cycle = d.geom.cycle
  pairs : e.geom.pairs = d.geom.pairs
  clk : e.clk = d.clk
  caps : ∀ c, (e.chain c).caps = (d.chain c).caps
  bytes : ∀ k, e.bytes k = d.bytes k
  regs : ∀ k ∈ pairRegs, e.reg k = d.reg k

theorem Dev.PairsStand.refl (d : Dev) : d.PairsStand d := ⟨rfl, rfl, rfl, rfl, rfl, fun _ => rfl, fun _ => rfl, fun _ _ => rfl⟩

theorem Dev.PairsStand.trans (h : d.PairsStand e) (g : e.PairsStand f) : d.PairsStand f :=
  ⟨g.done.trans h.done, g.late.trans h.late, g.cycle.trans h.cycle, g.pairs.trans h.pairs, g.clk.trans h.clk, fun c => (g.caps c).trans (h.caps c),
    fun k => (g.bytes k).trans (h.bytes k), fun k hk => (g.regs k hk).trans (h.regs k hk)⟩

/-- A step that changes neither frames nor what selects pairs. -/
theorem Dev.PairsStand.of_keeps {l : List Part} (keeps : d.Keeps e l) (regs : ∀ k ∈ pairRegs, e.reg k = d.reg k) (geom : Part.geom ∉ l := by decide)
    (chains : Part.chains ∉ l := by decide) (clk : Part.clk ∉ l := by decide) (dom : Part.dom ∉ l := by decide) : d.PairsStand e := by
  have same : e.geom = d.geom := keeps .geom geom
  exact ⟨by rw [same], by rw [same], by rw [same], by rw [same], keeps .clk clk, fun c => by rw [keeps.chain c chains], fun k => keeps.bytes k dom, regs⟩

theorem Dev.PairsStand.ready (h : d.PairsStand e) : e.framesReady = d.framesReady := by rw [Dev.framesReady, Dev.framesReady, h.done, h.late]

theorem Dev.PairsStand.cyclePairs (h : d.PairsStand e) : e.cyclePairs = d.cyclePairs := by
  have intr : e.nat (act Reg.R3102_N_INTR) = d.nat (act Reg.R3102_N_INTR) := congrArg Int.toNat (h.regs _ (by simp))
  have self : e.nat (Reg.R3102_SELF + 0x80) = d.nat (Reg.R3102_SELF + 0x80) := congrArg Int.toNat (h.regs _ (by simp))
  have predict : e.nat (Reg.R3102_PREDICT + 0x80) = d.nat (Reg.R3102_PREDICT + 0x80) := congrArg Int.toNat (h.regs _ (by simp))
  simp only [Dev.cyclePairs, Dev.pairBank, Dev.intruder, h.caps, h.bytes, intr, self, predict]

theorem Dev.PairsStand.results (h : d.PairsStand e) : e.cycleResults = d.cycleResults := by
  rw [Dev.cycleResults, Dev.cycleResults, h.ready, h.cycle, h.clk, h.pairs, h.cyclePairs]

theorem Dev.PairsStand.untested (h : d.PairsStand e) : e.untestedChains = d.untestedChains := by rw [Dev.untestedChains, Dev.untestedChains, h.results]

end

section
variable {s : State} (live : s.Live) (works : s.found.standsBy = false)
include live works

/-! ## Distance testing -/

theorem distanceTesting_idle (reach : Nat) (no : s.found.framesReady = false ∨ s.found.clk.tick = 0 ∨ 2 < s.found.clk.tick) :
    Does (.distanceTesting reach) s fun b a => b.Keeps a [] :=
  geometry_idle live works (fun d => d.distanceTesting reach) (if_pos (no.imp_left fun late => by rw [late]; rfl))

theorem distanceTesting_tests (reach : Nat) (ready : s.found.framesReady = true) (tick : s.found.clk.tick = 1 ∨ s.found.clk.tick = 2) :
    Does (.distanceTesting reach) s fun b a =>
      a.geom.pairs.length = b.cyclePairs.length ∧ a.geom.cycle = some b.clk.cycle64 ∧
      (∀ i p, i < reach → b.cyclePairs[i]? = some p → a.geom.pairs[i]? = some (b.testPair p (Config.distanceSlackA (b.fresh + i)))) ∧
      (∀ i p, reach ≤ i → b.cyclePairs[i]? = some p → a.geom.pairs[i]? = some p.untested) ∧ b.Keeps a [.od, .geom, .fresh] ∧
      b.KeepsRegs a [Reg.R3101_TESTS_LAST, Reg.R3101_SCREENED_LAST] := by
  obtain ⟨e, made⟩ : ∃ e, e = s.found.distanceTesting reach := ⟨_, rfl⟩
  have result := made.symm
  unfold Dev.distanceTesting at made
  rw [if_neg (by rw [ready]; rcases tick with h | h <;> rw [h] <;> simp)] at made
  obtain ⟨ps, hps⟩ : ∃ ps, ps = s.found.cyclePairs := ⟨_, rfl⟩
  have selected : s.found.takeFresh.2.cyclePairs = ps := by rw [hps]; rfl
  have slack : s.found.takeFresh.1 = s.found.fresh := rfl
  have test : ∀ p k, s.found.takeFresh.2.testPair p k = s.found.testPair p k := fun _ _ => rfl
  have keepsT : s.found.Keeps s.found.takeFresh.2 [.fresh] := s.found.keeps_takeFresh
  generalize s.found.takeFresh = t at *
  obtain ⟨f, t⟩ := t
  dsimp only at made selected slack test keepsT
  rw [selected, slack] at made
  simp only [test] at made
  obtain ⟨done, hdone⟩ : ∃ done, done = ((ps.take reach).zipIdx).map fun (p, i) => s.found.testPair p (Config.distanceSlackA (s.found.fresh + i)) := ⟨_, rfl⟩
  rw [← hdone] at made
  obtain ⟨g, hg⟩ : ∃ g : Dev, g = { t with geom := { t.geom with pairs := done ++ (ps.drop reach).map PairSel.untested, cycle := some t.clk.cycle64 }, fresh := t.fresh + ps.length } := ⟨_, rfl⟩
  rw [← hg] at made
  have keepsG : t.Keeps g [.geom, .fresh] := by
    rw [hg]
    intro p hp
    cases p with
    | geom => simp at hp
    | fresh => simp at hp
    | _ => rfl
  have keepsE : g.Keeps e [.od] := by
    rw [made]
    exact ((Dev.Keeps.refl _ _).set _ _).set _ _
  have keeps : s.found.Keeps e [.od, .geom, .fresh] := ((keepsT.mono (by decide)).step keepsG).step keepsE
  have geomE : e.geom = { t.geom with pairs := done ++ (ps.drop reach).map PairSel.untested, cycle := some t.clk.cycle64 } := by
    rw [keepsE .geom (by decide), hg]
  have count : done.length = min reach ps.length := by rw [hdone, List.length_map, List.length_zipIdx, List.length_take]
  have clk : t.clk = s.found.clk := keepsT .clk (by decide)
  have pairs : e.geom.pairs = done ++ (ps.drop reach).map PairSel.untested := by rw [geomE]
  have total : e.geom.pairs.length = s.found.cyclePairs.length := by
    rw [pairs, ← hps, List.length_append, count, List.length_map, List.length_drop]
    omega
  have cycle : e.geom.cycle = some s.found.clk.cycle64 := by rw [geomE, clk]
  have tested : ∀ i p, i < reach → s.found.cyclePairs[i]? = some p → e.geom.pairs[i]? = some (s.found.testPair p (Config.distanceSlackA (s.found.fresh + i))) :=
    fun i p inside at_ => by
      rw [← hps] at at_
      have bound := (List.getElem?_eq_some_iff.1 at_).1
      rw [pairs, List.getElem?_append_left (by omega), hdone, List.getElem?_map, List.getElem?_zipIdx, List.getElem?_take_of_lt inside, at_]
      simp
  have left : ∀ i p, reach ≤ i → s.found.cyclePairs[i]? = some p → e.geom.pairs[i]? = some p.untested := fun i p outside at_ => by
    rw [← hps] at at_
    have bound := (List.getElem?_eq_some_iff.1 at_).1
    rw [pairs, List.getElem?_append_right (by omega), List.getElem?_map, List.getElem?_drop, count, Nat.min_eq_left (by omega),
      Nat.add_sub_cancel' outside, at_]
    rfl
  have regs : s.found.KeepsRegs e [Reg.R3101_TESTS_LAST, Reg.R3101_SCREENED_LAST] := fun k hk => by
    obtain ⟨tests, screened⟩ : k ≠ Reg.R3101_TESTS_LAST ∧ k ≠ Reg.R3101_SCREENED_LAST := by simpa using hk
    rw [made, Dev.reg_set_other _ _ screened, Dev.reg_set_other _ _ tests, Dev.reg_congr (keepsG .od (by decide)), Dev.reg_congr (keepsT .od (by decide))]
  exact (geometry_leaves live works (fun d => d.distanceTesting reach) result keeps).quietly (keeps .event (by decide))
    ⟨total, cycle, tested, left, keeps, regs⟩

/-! ## Pairs left untested -/

theorem distanceOverrun_idle (no : s.found.clk.tick ≠ 3 ∨ s.found.untestedChains = []) : Does .distanceOverrun s fun b a => b.Keeps a [] := by
  refine geometry_idle live works (fun d => d.distanceOverrun) (if_pos ?_)
  exact no.imp_right fun none_ => .inl (by rw [none_]; rfl)

theorem distanceOverrun_stops (tick : s.found.clk.tick = 3) (first : s.found.geom.distOver = false) (some_ : s.found.untestedChains ≠ []) :
    Does .distanceOverrun s fun b a => b.Counts a Code.DISTANCE_OVERRUN Reg.R1101_DISTANCE_COUNT ∧
      a.LastRaised Code.DISTANCE_OVERRUN Kind.device 0 ∧ a.geom.distOver = true ∧
      (∀ c < 16, (c ∈ a.geom.zeroOvr ↔ c ∈ b.geom.zeroOvr ∨ c ∈ b.untestedChains) ∧
        (c ∈ b.untestedChains → (c, Code.DISTANCE_OVERRUN) ∈ a.geom.stopsT4)) ∧ b.Keeps a (.geom :: logParts) := by
  obtain ⟨cs, hcs⟩ : ∃ cs, cs = (List.range 16).filter s.found.untestedChains.contains := ⟨_, rfl⟩
  obtain ⟨x, hx⟩ : ∃ x, x = s.found.overrun Code.DISTANCE_OVERRUN Reg.R1101_DISTANCE_COUNT := ⟨_, rfl⟩
  obtain ⟨y, hy⟩ : ∃ y, y = x.raiseAt 0 Code.DISTANCE_OVERRUN Kind.device 0 0 0 := ⟨_, rfl⟩
  obtain ⟨z, hz⟩ : ∃ z, z = each cs (fun c d => d.protectiveStop c Code.DISTANCE_OVERRUN) y := ⟨_, rfl⟩
  obtain ⟨e, made⟩ : ∃ e, e = { z with geom := { z.geom with distOver := true } } := ⟨_, rfl⟩
  have result : s.found.distanceOverrun = e := by
    rw [made, hz, hy, hx, hcs]
    exact if_neg (by
      rintro (h | h | h)
      · exact h tick
      · exact some_ (List.isEmpty_iff.1 h)
      · exact absurd h (by rw [first]; decide))
  obtain ⟨counts, keepsX⟩ := Dev.overrun_counts s.found (by decide) hx
  have keepsY : x.Keeps y [.od, .log, .event] := by rw [hy]; exact x.keeps_raiseAt _ _ _ _ _ _
  have keepsZ : y.Keeps z [.geom] := by rw [hz]; exact Dev.keeps_protectiveStops _ _ y
  have keepsE : z.Keeps e [.geom] := by rw [made]; exact z.keeps_geom _
  have regs : ∀ k, k ∉ logRegs → e.reg k = x.reg k := fun k log => by
    rw [Dev.reg_congr (keepsE .od (by decide)), Dev.reg_congr (keepsZ .od (by decide)), hy, x.reg_raiseAt _ _ _ _ _ _ log]
  have geomZ : z.geom = s.found.geom.withStops cs Code.DISTANCE_OVERRUN := by
    have same : y.geom = s.found.geom := (keepsY .geom (by decide)).trans (keepsX .geom (by decide))
    rw [hz, Dev.geom_protectiveStops, same]
  have geomE : e.geom = { s.found.geom.withStops cs Code.DISTANCE_OVERRUN with distOver := true } := by rw [made, geomZ]
  have last : e.LastRaised Code.DISTANCE_OVERRUN Kind.device 0 := by
    have lastY : y.LastRaised Code.DISTANCE_OVERRUN Kind.device 0 := by rw [hy]; exact x.lastRaised_raiseAt _ _ _ _ _ _
    exact (lastY.of_keeps keepsZ).of_keeps keepsE
  have keeps : s.found.Keeps e (.geom :: logParts) := (((keepsX.mono (by decide)).step keepsY).step keepsZ).step keepsE
  have shown : s.found.Counts e Code.DISTANCE_OVERRUN Reg.R1101_DISTANCE_COUNT :=
    counts.congr (by decide) fun k hk => regs k (overrun_entries.2.2.2.2 k hk).1
  have held : e.geom.distOver = true := by rw [geomE]
  have chains : ∀ c < 16, (c ∈ e.geom.zeroOvr ↔ c ∈ s.found.geom.zeroOvr ∨ c ∈ s.found.untestedChains) ∧
      (c ∈ s.found.untestedChains → (c, Code.DISTANCE_OVERRUN) ∈ e.geom.stopsT4) := fun c hc => by
    have mem : c ∈ cs ↔ c ∈ s.found.untestedChains := by rw [hcs]; simp [hc]
    rw [geomE]
    refine ⟨?_, fun there => ?_⟩
    · show c ∈ s.found.geom.zeroOvr ++ cs ↔ _
      rw [List.mem_append, mem]
    · show _ ∈ s.found.geom.stopsT4 ++ cs.map (·, Code.DISTANCE_OVERRUN)
      exact List.mem_append_right _ (List.mem_map_of_mem (mem.2 there))
  exact (geometry_leaves live works (fun d => d.distanceOverrun) result keeps).does fun pend vecs =>
    ⟨⟨shown.flag, shown.count, shown.cycle, shown.tick⟩, last.told _ _, held, chains, keeps.told pend vecs⟩

end

end Sys2Proof.Machine
end

section
/-! # Contacts, the results of the cycle and the separation overrun (R31, R155 to R157, R176) -/

namespace Sys2Proof.Machine

section
variable {d e f : Dev}

/-! ## Contacts -/

/-- Of the geometry what contacts leave alone. -/
def Geom.measured (g : Geom) : Geom := { g with atT4 := [], llEpisode := [], lbEpisode := [] }

/-- Contacts have been logged and their reactions wait, and nothing else happened. -/
structure Dev.Touched (d e : Dev) : Prop where
  keeps : d.Keeps e (.geom :: logParts)
  regs : ∀ k, k ∉ logRegs → e.reg k = d.reg k
  geom : e.geom.measured = d.geom.measured

theorem Dev.Touched.refl (d : Dev) : d.Touched d := ⟨Dev.Keeps.refl _ _, fun _ _ => rfl, rfl⟩

theorem Dev.Touched.raise (h : d.Touched e) (code kind subject reaction detail : Nat) : d.Touched (e.raise code kind subject reaction detail) := by
  have step := e.keeps_raise code kind subject reaction detail
  have same : (e.raise code kind subject reaction detail).geom = e.geom := step .geom (by decide)
  exact ⟨h.keeps.step step, fun k log => (Dev.reg_raise _ _ _ _ _ _ log).trans (h.regs k log), by rw [same, h.geom]⟩

theorem Dev.Touched.setGeom (h : d.Touched e) {x : Geom} (same : x.measured = e.geom.measured) : d.Touched { e with geom := x } :=
  ⟨h.keeps.step (e.keeps_geom x), h.regs, same.trans h.geom⟩

theorem Dev.Touched.laterChain (h : d.Touched e) (c code r : Nat) : d.Touched (e.laterChain c code r) := h.setGeom rfl

theorem Dev.contacts_touched (d : Dev) : d.Touched d.contacts := by
  unfold Dev.contacts
  extract_lets r all under ll lb x y now
  have touchedX : d.Touched x := each_holds (fun f : Dev => d.Touched f) _ _ (fun p _ f hf => by
    split
    · exact hf
    · extract_lets g
      have touchedG : d.Touched g := (hf.raise _ _ _ _ _).laterChain _ _ _
      clear_value g
      split
      · exact touchedG
      · exact touchedG.laterChain _ _ _) (Dev.Touched.refl d)
  clear_value x
  have touchedY : d.Touched y := each_holds (fun f : Dev => d.Touched f) _ _ (fun p _ f hf => by
    split
    · exact hf
    · exact (hf.raise _ _ _ _ _).laterChain _ _ _) touchedX
  clear_value y
  exact touchedY.setGeom rfl

theorem Dev.Touched.when (b : Bool) (g : Dev → Dev) (h : d.Touched (g d)) : d.Touched (d.when b g) := by
  unfold Dev.when
  split
  · exact h
  · exact Dev.Touched.refl d

theorem Dev.Touched.pairs (h : d.Touched e) : d.PairsStand e := by
  have regs : ∀ k ∈ pairRegs, e.reg k = d.reg k := fun k hk => h.regs k (by revert k; decide +kernel)
  have same : ∀ {α : Type} (part : Geom → α), part e.geom.measured = part d.geom.measured := fun part => congrArg part h.geom
  exact ⟨same Geom.kinDone, same Geom.kinOver, same Geom.cycle, same Geom.pairs,
    h.keeps .clk (by decide), fun c => by rw [h.keeps.chain c (by decide)], fun k => h.keeps.bytes k (by decide), regs⟩

/-! ## The results of the cycle -/

theorem Dev.putResults_spec (d : Dev) (base : Nat) (ps : List PairRes) (contact : Nat) (made : e = d.putResults base ps contact) :
    e.reg base = (odType base).wrap d.cycle ∧ (∀ k, (∀ j < 16, k ≠ base + j) → e.reg k = d.reg k) ∧ d.Keeps e [.od] := by
  unfold Dev.putResults at made
  extract_lets put x bit at made
  have step : ∀ (f : Dev) (i : Nat) (c : PairClass), i < 3 → (put f i c).reg base = f.reg base ∧
      (∀ k, (∀ j < 16, k ≠ base + j) → (put f i c).reg k = f.reg k) ∧ f.Keeps (put f i c) [.od] := fun f i c hi => by
    have two : ∀ (v w : Int), ((f.set (base + 1 + 2 * i) v).set (base + 2 + 2 * i) w).reg base = f.reg base ∧
        (∀ k, (∀ j < 16, k ≠ base + j) → ((f.set (base + 1 + 2 * i) v).set (base + 2 + 2 * i) w).reg k = f.reg k) ∧
        f.Keeps ((f.set (base + 1 + 2 * i) v).set (base + 2 + 2 * i) w) [.od] := fun v w => by
      refine ⟨?_, fun k out => ?_, ((Dev.Keeps.refl _ _).set _ _).set _ _⟩
      · rw [Dev.reg_set_other _ _ (by omega), Dev.reg_set_other _ _ (by omega)]
      · rw [Dev.reg_set_other _ _ (by have := out (2 + 2 * i) (by omega); omega), Dev.reg_set_other _ _ (by have := out (1 + 2 * i) (by omega); omega)]
    simp only [put]
    split
    · exact two _ _
    · exact two _ _
  obtain ⟨w, hw⟩ : ∃ w, w = d.set base d.cycle := ⟨_, rfl⟩
  have eqX : x = put (put (put w 0 .ll) 1 .li) 2 .lb := by rw [hw]
  clear_value x
  obtain ⟨own₁, out₁, keeps₁⟩ := step w 0 .ll (by omega)
  obtain ⟨own₂, out₂, keeps₂⟩ := step (put w 0 .ll) 1 .li (by omega)
  obtain ⟨own₃, out₃, keeps₃⟩ := step (put (put w 0 .ll) 1 .li) 2 .lb (by omega)
  rw [← eqX] at own₃ out₃ keeps₃
  refine ⟨?_, fun k out => ?_, ?_⟩
  · rw [made, Dev.reg_set_other _ _ (by omega), Dev.reg_set_other _ _ (by omega), own₃, own₂, own₁, hw, Dev.reg_set_same]
  · rw [made, Dev.reg_set_other _ _ (by have := out 8 (by omega); omega), Dev.reg_set_other _ _ (by have := out 7 (by omega); omega), out₃ k out, out₂ k out,
      out₁ k out, hw, Dev.reg_set_other _ _ (by have := out 0 (by omega); omega)]
  · have keepsW : d.Keeps w [.od] := by rw [hw]; exact Dev.keeps_set _ _ _
    rw [made]
    exact ((((keepsW.andThen keeps₁).andThen keeps₂).andThen keeps₃).set _ _).set _ _

/-- Entries of the results of the cycle. -/
abbrev ResultReg (k : Nat) : Prop := k / 256 = 0x3110 ∨ ∃ c < 16, k / 256 = 0x3120 + c

theorem Dev.switchResults_spec (d : Dev) (made : e = d.switchResults) : e.geom = { d.geom with results := d.cycleResults } ∧
    e.reg Reg.R3110_RESULT_CYCLE = (odType Reg.R3110_RESULT_CYCLE).wrap d.cycle ∧ (∀ k, ¬ResultReg k → e.reg k = d.reg k) ∧ d.Keeps e [.od, .geom] := by
  unfold Dev.switchResults at made
  extract_lets ps old x g y at made
  have keepsX : d.Keeps x [.geom] := d.keeps_geom _
  have geomX : x.geom = { d.geom with results := d.cycleResults } := rfl
  clear_value g
  clear_value x
  obtain ⟨own, out, keepsY⟩ := Dev.putResults_spec x Reg.R3110_RESULT_CYCLE ps (g.contactMask (fun _ => true) fun _ => true) (e := y) rfl
  clear_value y
  have cycle : x.cycle = d.cycle := by rw [Dev.cycle, keepsX .clk (by decide), ← Dev.cycle]
  have rest : y.Keeps e [.od] ∧ ∀ k, (∀ c < 16, k / 256 ≠ 0x3120 + c) → e.reg k = y.reg k := by
    rw [made]
    refine iterate_holds (fun f : Dev => y.Keeps f [.od] ∧ ∀ k, (∀ c < 16, k / 256 ≠ 0x3120 + c) → f.reg k = y.reg k) 16 _ (fun c hc f hf => ?_)
      ⟨Dev.Keeps.refl _ _, fun _ _ => rfl⟩
    extract_lets mine
    obtain ⟨-, outC, keepsC⟩ := Dev.putResults_spec f (Reg.R3120_RESULT_CYCLE c) mine
      (g.contactMask (fun (a, b) => a / 32 == c || b / 32 == c) fun (a, _) => a / 32 == c) rfl
    refine ⟨hf.1.andThen keepsC, fun k far => (outC k fun j hj same => far c hc ?_).trans (hf.2 k far)⟩
    rw [same]
    simp only [Reg.R3120_RESULT_CYCLE, Reg.key]
    omega
  obtain ⟨keepsE, regs⟩ := rest
  refine ⟨by rw [keepsE .geom (by decide), keepsY .geom (by decide), geomX], ?_, fun k far => ?_, ((keepsX.mono (by decide)).step keepsY).step keepsE⟩
  · rw [regs _ fun c hc => by simp only [Reg.R3110_RESULT_CYCLE, Reg.key]; omega, own, cycle]
  · rw [regs k fun c hc same => far (.inr ⟨c, hc, same⟩), out k fun j hj same => far (.inl (by rw [same]; simp only [Reg.R3110_RESULT_CYCLE, Reg.key]; omega)),
      Dev.reg_congr (keepsX .od (by decide))]

end

section
variable {s : State} (live : s.Live) (works : s.found.standsBy = false)
include live works

theorem separationOverrun_idle (no : s.found.clk.tick ≠ 3 ∨ s.found.sep.evalA = some s.found.clk.cycle64) :
    Does .separationOverrun s fun b a => b.Keeps a [] :=
  geometry_idle live works (fun d => d.separationOverrun) (if_pos no)

theorem separationOverrun_stops (tick : s.found.clk.tick = 3) (first : s.found.sep.evalA ≠ some s.found.clk.cycle64) :
    Does .separationOverrun s fun b a => b.Counts a Code.SEPARATION_OVERRUN Reg.R1101_SEPARATION_COUNT ∧
      (a.geom.stopsT4 = b.geom.stopsT4 ++ b.enabledChains.map (·, Code.SEPARATION_OVERRUN) ∧ a.geom.zeroOvr = b.geom.zeroOvr ++ b.enabledChains) ∧
      (b.framesReady = false → a.LastRaised Code.SEPARATION_OVERRUN Kind.device 0) ∧ a.geom.results = b.cycleResults ∧
      a.sep.evalA = some b.clk.cycle64 ∧ b.Keeps a (.ph :: .geom :: .sep :: logParts) := by
  obtain ⟨x, hx⟩ : ∃ x, x = (s.found.at 24000).overrun Code.SEPARATION_OVERRUN Reg.R1101_SEPARATION_COUNT := ⟨_, rfl⟩
  obtain ⟨y, hy⟩ : ∃ y, y = x.raiseAt 24000 Code.SEPARATION_OVERRUN Kind.device 0 0 0 := ⟨_, rfl⟩
  obtain ⟨q, hq⟩ : ∃ q, q = y.when y.framesReady Dev.contacts := ⟨_, rfl⟩
  obtain ⟨r, hr⟩ : ∃ r, r = q.switchResults := ⟨_, rfl⟩
  obtain ⟨z, hz⟩ : ∃ z, z = each r.enabledChains (fun c d => d.protectiveStop c Code.SEPARATION_OVERRUN) r := ⟨_, rfl⟩
  obtain ⟨e, made⟩ : ∃ e, e = { z with sep := { z.sep with evalA := some s.found.clk.cycle64 } } := ⟨_, rfl⟩
  have result : s.found.separationOverrun = e := by
    rw [made, hz, hr, hq, hy, hx]
    exact if_neg (by rintro (h | h); exacts [h tick, first h])
  have keepsA : s.found.Keeps (s.found.at 24000) [.ph] := s.found.keeps_at _
  obtain ⟨countsA, keepsX⟩ := Dev.overrun_counts (s.found.at 24000) (by decide) hx
  have counts : s.found.Counts x Code.SEPARATION_OVERRUN Reg.R1101_SEPARATION_COUNT := countsA.from rfl rfl
  have keepsY : x.Keeps y [.od, .log, .event] := by rw [hy]; exact x.keeps_raiseAt _ _ _ _ _ _
  have touched : y.Touched q := by rw [hq]; exact .when _ _ y.contacts_touched
  obtain ⟨geomR, -, regsR, keepsR⟩ := Dev.switchResults_spec q hr
  have keepsZ : r.Keeps z [.geom] := by rw [hz]; exact Dev.keeps_protectiveStops _ _ r
  have keepsE : z.Keeps e [.sep] := by
    rw [made]
    intro p hp
    cases p with
    | sep => simp at hp
    | _ => rfl
  have regsE : ∀ k, k ∉ logRegs → ¬ResultReg k → e.reg k = x.reg k := fun k log far => by
    rw [Dev.reg_congr (keepsE .od (by decide)), Dev.reg_congr (keepsZ .od (by decide)), regsR k far, touched.regs k log, hy, x.reg_raiseAt _ _ _ _ _ _ log]
  have regsF : ∀ k, k ∉ overrunRegs → k ∉ logRegs → ¬ResultReg k → r.reg k = s.found.reg k := fun k own log far => by
    have low : (s.found.at 24000).reg k = s.found.reg k := rfl
    rw [regsR k far, touched.regs k log, hy, x.reg_raiseAt _ _ _ _ _ _ log, hx, Dev.reg_overrun _ (by decide) own, low]
  have enabled : r.enabledChains = s.found.enabledChains := by
    refine List.filter_congr fun c hc => ?_
    have own : act (Reg.CH0_CHAIN_EN c) ∉ overrunRegs ∧ act (Reg.CH0_CHAIN_EN c) ∉ logRegs ∧ act (Reg.CH0_CHAIN_EN c) / 256 < 0x3110 := by
      have low := List.mem_range.1 hc
      revert c
      decide +kernel
    have far : ¬ResultReg (act (Reg.CH0_CHAIN_EN c)) := by rintro (h | ⟨k, _, h⟩) <;> omega
    rw [Dev.chainEn, Dev.chainEn, Dev.flag, Dev.flag, regsF _ own.1 own.2.1 far]
  have pairs : s.found.PairsStand q := by
    have before : s.found.PairsStand y := by
      have keeps : s.found.Keeps y [.ph, .od, .log, .event] := ((keepsA.mono (by decide)).step keepsX).step keepsY
      refine .of_keeps keeps fun k hk => ?_
      have out : k ∉ logRegs ∧ k ∉ overrunRegs := by
        revert k
        decide +kernel
      rw [hy, x.reg_raiseAt _ _ _ _ _ _ out.1, hx, Dev.reg_overrun _ (by decide) out.2]
      rfl
    exact before.trans touched.pairs
  have geomY : y.geom = s.found.geom := (keepsY .geom (by decide)).trans ((keepsX .geom (by decide)).trans (keepsA .geom (by decide)))
  have geomZ : z.geom = ({ q.geom with results := s.found.cycleResults } : Geom).withStops s.found.enabledChains Code.SEPARATION_OVERRUN := by
    rw [hz, Dev.geom_protectiveStops, enabled, geomR, pairs.results]
  have waiting : q.geom.stopsT4 = s.found.geom.stopsT4 ∧ q.geom.zeroOvr = s.found.geom.zeroOvr := by
    have same : ∀ {α : Type} (part : Geom → α), part q.geom.measured = part y.geom.measured := fun part => congrArg part touched.geom
    rw [← geomY]
    exact ⟨same Geom.stopsT4, same Geom.zeroOvr⟩
  have geomE : e.geom = z.geom := keepsE .geom (by decide)
  have keeps : s.found.Keeps e (.ph :: .geom :: .sep :: logParts) :=
    ((((((keepsA.mono (by decide)).step keepsX).step keepsY).step touched.keeps).step keepsR).step keepsZ).step keepsE
  have shown : s.found.Counts e Code.SEPARATION_OVERRUN Reg.R1101_SEPARATION_COUNT :=
    counts.congr (by decide) fun k hk => by
      obtain ⟨log, low⟩ := overrun_entries.2.2.2.2 k hk
      exact regsE k log (by rintro (h | ⟨c, _, h⟩) <;> omega)
  have stops : e.geom.stopsT4 = s.found.geom.stopsT4 ++ s.found.enabledChains.map (·, Code.SEPARATION_OVERRUN) ∧
      e.geom.zeroOvr = s.found.geom.zeroOvr ++ s.found.enabledChains := by
    rw [geomE, geomZ, ← waiting.1, ← waiting.2]
    exact ⟨rfl, rfl⟩
  have results : e.geom.results = s.found.cycleResults := by rw [geomE, geomZ]; rfl
  have evaluated : e.sep.evalA = some s.found.clk.cycle64 := by rw [made]
  have last : s.found.framesReady = false → e.LastRaised Code.SEPARATION_OVERRUN Kind.device 0 := fun late => by
    have lastY : y.LastRaised Code.SEPARATION_OVERRUN Kind.device 0 := by rw [hy]; exact x.lastRaised_raiseAt _ _ _ _ _ _
    have still : q = y := by
      have readyY : y.framesReady = false := by rw [Dev.framesReady, geomY, ← Dev.framesReady, late]
      rw [hq, readyY]
      rfl
    rw [still] at keepsR
    exact ((lastY.of_keeps keepsR).of_keeps keepsZ).of_keeps keepsE
  exact (geometry_leaves live works (fun d => d.separationOverrun) result keeps).does fun pend vecs =>
    ⟨⟨shown.flag, shown.count, shown.cycle, shown.tick⟩, stops, fun late => (last late).told _ _, results, evaluated, keeps.told pend vecs⟩

end

end Sys2Proof.Machine
end

section
/-! # The stages of the separation evaluation (R131, R133, R155, R173 to R177) -/

namespace Sys2Proof.Machine

/-- The entries that the separation evaluation reads and shows. -/
abbrev evalRegs : List Nat := pairRegs ++ Reg.R3110_RESULT_CYCLE ::
  (List.range 16).flatMap fun c => [act (Reg.CH0_CHAIN_EN c), act (Reg.R3210_SSM_EN c), act (Reg.R3210_O_MIN c)]

theorem evalRegs_apart : ∀ k ∈ evalRegs, k ∉ logRegs ∧ k % 256 ≠ 5 ∧ 0x3000 ≤ k / 256 ∧ k / 256 < 0x3300 ∧ (k / 256 < 0x3100 → k / 256 % 16 = 0) := by
  decide +kernel

theorem evalReg_not_reaction {k : Nat} (hk : k ∈ evalRegs) : ¬ReactionReg (· < 256) (· < 16) k := by
  obtain ⟨log, -, above, below, chain⟩ := evalRegs_apart k hk
  rintro (⟨n, -, hn, ax⟩ | ⟨c, -, hc, ch⟩ | gen | is)
  · omega
  · simp only [Reg.CH5_CONTROL, Reg.key] at ch; omega
  · omega
  · exact log is

theorem mem_evalRegs {c : Nat} (hc : c < 16) : act (Reg.CH0_CHAIN_EN c) ∈ evalRegs ∧ act (Reg.R3210_SSM_EN c) ∈ evalRegs ∧ act (Reg.R3210_O_MIN c) ∈ evalRegs := by
  revert c
  decide +kernel

/-- An entry of a chain's objects 1 to 15. -/
theorem evalReg_not_chain {k j : Nat} (hk : k ∈ evalRegs) (chain : 0x3000 ≤ j / 256 ∧ j / 256 < 0x3100 ∧ j / 256 % 16 ≠ 0) : k ≠ j := by
  obtain ⟨-, -, above, below, own⟩ := evalRegs_apart k hk
  rintro rfl
  exact chain.2.2 (own chain.2.1)

/-- The parts a stage of the evaluation may change. -/
abbrev evalParts : List Part := [.od, .log, .event, .serve, .zones, .fresh, .axes, .ident, .safe, .geom, .chains]

/-- The parts of the evaluation beside geometry and chains. -/
abbrev plainParts : List Part := [.od, .log, .event, .serve, .zones, .fresh, .axes, .ident, .safe]

/-- A stage of the evaluation: the pairs and results of the cycle, and the entries it reads, stand. -/
structure Dev.Evaluating (d e : Dev) : Prop where
  pairs : d.PairsStand e
  results : e.geom.results = d.geom.results
  regs : ∀ k ∈ evalRegs, e.reg k = d.reg k
  keeps : d.Keeps e evalParts

section
variable {d e f : Dev}

theorem Dev.Evaluating.refl (d : Dev) : d.Evaluating d := ⟨.refl d, rfl, fun _ _ => rfl, Dev.Keeps.refl _ _⟩

theorem Dev.Evaluating.trans (h : d.Evaluating e) (g : e.Evaluating f) : d.Evaluating f :=
  ⟨h.pairs.trans g.pairs, g.results.trans h.results, fun k hk => (g.regs k hk).trans (h.regs k hk), h.keeps.andThen g.keeps⟩

theorem Dev.Evaluating.of_keeps {l : List Part} (h : d.Evaluating e) (g : e.Keeps f l) (regs : ∀ k ∈ evalRegs, f.reg k = e.reg k)
    (within : ∀ p ∈ l, p ∈ plainParts := by decide) : d.Evaluating f := by
  have plain : e.Keeps f plainParts := g.mono within
  have geom : f.geom = e.geom := plain .geom (by decide)
  exact h.trans ⟨.of_keeps plain fun k hk => regs k (List.mem_append_left _ hk), by rw [geom], regs, plain.mono (by decide)⟩

theorem Dev.Evaluating.of_od {l : List Part} (h : d.Evaluating e) (g : e.Keeps f l) (od : Part.od ∉ l := by decide)
    (within : ∀ p ∈ l, p ∈ plainParts := by decide) : d.Evaluating f :=
  h.of_keeps g (fun k _ => Dev.reg_congr (g .od od) k) within

theorem Dev.Evaluating.set (h : d.Evaluating e) {j : Nat} (v : Int) (out : ∀ k ∈ evalRegs, k ≠ j) : d.Evaluating (e.set j v) :=
  h.of_keeps (e.keeps_set j v) fun k hk => Dev.reg_set_other _ _ (out k hk)

theorem Dev.Evaluating.raise (h : d.Evaluating e) (code kind subject reaction detail : Nat) : d.Evaluating (e.raise code kind subject reaction detail) :=
  h.of_keeps (Dev.keeps_raise _ _ _ _ _ _) fun k hk => Dev.reg_raise _ _ _ _ _ _ (evalRegs_apart k hk).1

theorem Dev.Evaluating.setGeom (h : d.Evaluating e) {x : Geom} (same : x.measured.results = e.geom.results ∧ x.kinDone = e.geom.kinDone ∧
    x.kinOver = e.geom.kinOver ∧ x.cycle = e.geom.cycle ∧ x.pairs = e.geom.pairs) : d.Evaluating { e with geom := x } :=
  h.trans ⟨⟨same.2.1, same.2.2.1, same.2.2.2.1, same.2.2.2.2, rfl, fun _ => rfl, fun _ => rfl, fun _ _ => rfl⟩, same.1, fun _ _ => rfl,
    (e.keeps_geom x).mono (by decide)⟩

theorem Dev.Evaluating.laterChain (h : d.Evaluating e) (c code r : Nat) : d.Evaluating (e.laterChain c code r) := h.setGeom ⟨rfl, rfl, rfl, rfl, rfl⟩

theorem Dev.Evaluating.modChain (h : d.Evaluating e) (c : Nat) {g : Chain → Chain} (same : ∀ x, (g x).caps = x.caps) : d.Evaluating (e.modChain c g) := by
  have caps : ∀ k, ((e.modChain c g).chain k).caps = (e.chain k).caps := fun k => by
    by_cases own : k = c
    · subst own
      rw [Dev.chain_modChain, same]
    · rw [Dev.chain_modChain_other _ _ own]
  exact h.trans ⟨⟨rfl, rfl, rfl, rfl, rfl, caps, fun _ => rfl, fun _ _ => rfl⟩, rfl, fun _ _ => rfl, (e.keeps_modChain c g).mono (by decide)⟩

theorem Dev.Evaluating.when (h : d.Evaluating e) (b : Bool) (g : Dev → Dev) (then_ : d.Evaluating (g e)) : d.Evaluating (e.when b g) := by
  unfold Dev.when
  split
  · exact then_
  · exact h

/-- Reactions of members leave the pairs of the cycle. -/
theorem Dev.Evaluating.reacts (h : d.Evaluating e) (g : e.AxesReact f) (loops : e.LoopsStand f) : d.Evaluating f := by
  have geom : f.geom = e.geom := g.keeps .geom (by decide)
  have regs : ∀ k ∈ evalRegs, f.reg k = e.reg k := fun k hk => g.regs k (evalReg_not_reaction hk)
  exact h.trans ⟨⟨by rw [geom], by rw [geom], by rw [geom], by rw [geom], g.keeps .clk (by decide), loops.caps, fun k => g.keeps.bytes k (by decide),
    fun k hk => regs k (List.mem_append_left _ hk)⟩, by rw [geom], regs, g.keeps.mono (by decide)⟩

theorem Dev.Evaluating.ssm (h : d.Evaluating e) {c : Nat} (hc : c < 16) : e.chainEn c = d.chainEn c ∧ e.ssm c = d.ssm c := by
  obtain ⟨en, ssm, -⟩ := mem_evalRegs hc
  have enabled : e.chainEn c = d.chainEn c := by rw [Dev.chainEn, Dev.chainEn, Dev.flag, Dev.flag, h.regs _ en]
  exact ⟨enabled, by rw [Dev.ssm, Dev.ssm, enabled, Dev.flag, Dev.flag, h.regs _ ssm]⟩

theorem Dev.Evaluating.enabled (h : d.Evaluating e) : e.enabledChains = d.enabledChains :=
  List.filter_congr fun _ hc => (h.ssm (List.mem_range.1 hc)).1

theorem Dev.Evaluating.candidates (h : d.Evaluating e) {c : Nat} (hc : c < 16) : e.candidates c = d.candidates c := by
  obtain ⟨-, -, least⟩ := mem_evalRegs hc
  rw [Dev.candidates, Dev.candidates, Dev.nat, Dev.nat, h.regs _ least]

/-! ## Zones -/

theorem Dev.Evaluating.setZone (h : d.Evaluating e) (z : Nat) (x : Zone) : d.Evaluating (e.setZone z x) := h.of_od (e.keeps_setZone z x)

theorem Dev.Evaluating.zoneStatus (h : d.Evaluating e) (c code : Nat) : d.Evaluating (e.zoneStatus c code) :=
  h.set _ fun k hk same => (evalRegs_apart k hk).2.1 (by rw [same]; simp only [Reg.CH8_LAST_STATUS, Reg.key]; omega)

theorem Dev.Evaluating.freeToken (h : d.Evaluating e) (z : Nat) (exiting : Bool) : d.Evaluating (e.freeToken z exiting) := by
  unfold Dev.freeToken
  extract_lets x
  split
  · exact h
  · exact h.setZone _ _

theorem Dev.Evaluating.applyAsk (h : d.Evaluating e) (z : Nat) (a : ZoneAsk) : d.Evaluating (e.applyAsk z a) := by
  unfold Dev.applyAsk
  extract_lets x c
  split
  · split
    · exact (h.zoneStatus _ _).raise _ _ _ _ _
    split
    · exact (h.setZone _ _).zoneStatus _ _
    split
    · exact h.zoneStatus _ _
    split
    · exact (h.zoneStatus _ _).raise _ _ _ _ _
    · exact (h.setZone _ _).zoneStatus _ _
  split
  · exact h.zoneStatus _ _
  split
  · exact (h.setZone _ _).zoneStatus _ _
  · exact (h.setZone _ _).zoneStatus _ _

theorem Dev.Evaluating.each {α : Type} (xs : List α) (g : α → Dev → Dev) (h : d.Evaluating e) (step : ∀ x ∈ xs, ∀ f, d.Evaluating f → d.Evaluating (g x f)) :
    d.Evaluating (Machine.each xs g e) := each_holds (fun f : Dev => d.Evaluating f) xs g step h

theorem Dev.Evaluating.zoneAsks (h : d.Evaluating e) (z : Nat) : d.Evaluating (e.zoneAsks z) :=
  .each _ _ (h.setZone _ _) fun a _ _ hf => hf.applyAsk z a

theorem Dev.Evaluating.zoneFreed (h : d.Evaluating e) (z : Nat) : d.Evaluating (e.zoneFreed z) :=
  .each _ _ (h.setZone _ _) fun c _ _ hf => hf.zoneStatus c _

theorem Dev.Evaluating.zoneReleases (h : d.Evaluating e) (z : Nat) : d.Evaluating (e.zoneReleases z) := by
  unfold Dev.zoneReleases
  extract_lets x
  split
  · exact h
  · split
    · exact h.freeToken z false
    split
    · exact ((h.freeToken z true).zoneStatus _ _).raise _ _ _ _ _
    · exact h

theorem Dev.Evaluating.zoneGrant (h : d.Evaluating e) (z : Nat) : d.Evaluating (e.zoneGrant z) := by
  unfold Dev.zoneGrant
  extract_lets x
  split
  · exact ((h.setZone _ _).zoneStatus _ _).raise _ _ _ _ _
  · exact h

theorem Dev.Evaluating.zoneHolds (h : d.Evaluating e) (z : Nat) : d.Evaluating (e.zoneHolds z) := by
  unfold Dev.zoneHolds
  extract_lets x exiting held new y
  have evalY : d.Evaluating y := .each _ _ h fun c _ _ hf => hf.raise _ _ _ _ _
  exact evalY.setZone _ _

theorem Dev.Evaluating.zoneBreaches (h : d.Evaluating e) (z : Nat) (gone : Option Nat) : d.Evaluating (e.zoneBreaches z gone) := by
  unfold Dev.zoneBreaches
  extract_lets x r react breach y
  have evalY : d.Evaluating y := h.setZone _ _
  clear_value y
  refine .each _ _ evalY fun c _ f hf => ?_
  extract_lets p q
  split
  · exact hf
  · have evalP : d.Evaluating (f.modChain c fun y => { y with breachEp := true }) := by
      refine .modChain hf c ?_
      exact fun _ => rfl
    have evalQ : d.Evaluating q := Dev.Evaluating.laterChain (.raise evalP _ _ _ _ _) _ _ _
    clear_value q
    split
    · split
      · exact evalQ.laterChain _ _ _
      · exact evalQ
    · exact evalQ

theorem Dev.Evaluating.zoneEval (h : d.Evaluating e) (z : Nat) : d.Evaluating (e.zoneEval z) := by
  unfold Dev.zoneEval
  split
  · exact h.zoneAsks z
  · extract_lets before forced x gone
    have evalX : d.Evaluating x := h.zoneReleases z
    clear_value gone
    clear_value x
    exact (((evalX.zoneAsks z).zoneGrant z).zoneHolds z).zoneBreaches z gone

theorem Dev.Evaluating.zoneEvaluation (h : d.Evaluating e) : d.Evaluating e.zoneEvaluation := by
  unfold Dev.zoneEvaluation
  extract_lets x
  have evalX : d.Evaluating x := iterate_holds (fun f : Dev => d.Evaluating f) 64 _ (fun z _ f hf => (hf.zoneFreed z).zoneEval z) h
  clear_value x
  refine iterate_holds (fun f : Dev => d.Evaluating f) 16 _ (fun c _ f hf => ?_) evalX
  refine .modChain hf c ?_
  exact fun _ => rfl

end

end Sys2Proof.Machine
end

section
/-! # The separation evaluation (R131, R133, R155, R173 to R177) -/

namespace Sys2Proof.Machine

section
variable {d e f : Dev}

/-! ## The override of a chain -/

theorem foldl_max_mem (p : Nat → Bool) (xs : List Nat) (m : Nat) : xs.foldl (fun (m o : Nat) => if p o then max m o else m) m ∈ m :: xs := by
  induction xs generalizing m with
  | nil => simp
  | cons x xs ih =>
    rw [List.foldl_cons]
    rcases List.mem_cons.1 (ih (if p x then max m x else m)) with same | later
    · rw [same]
      split
      · rcases Nat.le_total m x with le | le
        · rw [Nat.max_eq_right le]; simp
        · rw [Nat.max_eq_left le]; simp
      · simp
    · simp [later]

theorem Dev.bestOverride_mem (d : Dev) (k : SsmChain) (ps : List SsmPair) : d.bestOverride k ps ∈ 0 :: 0x7FFFFFFF :: d.candidates k.c := by
  unfold Dev.bestOverride
  split
  · simp
  · rcases List.mem_cons.1 (foldl_max_mem (fun o => d.satisfied k ps (q31One o)) (d.candidates k.c) 0) with none_ | own
    · rw [none_]; simp
    · simp [own]

/-- Every chain keeps its next override. -/
abbrev Dev.SameOvr (d e : Dev) : Prop := ∀ k, (e.chain k).ovrNext = (d.chain k).ovrNext

/-- A stage of the evaluation that changes no chain's next override. -/
abbrev Dev.Weighs (d e : Dev) : Prop := d.Evaluating e ∧ d.SameOvr e

theorem Dev.Weighs.set (h : d.Weighs e) {j : Nat} (v : Int) (chain : 0x3000 ≤ j / 256 ∧ j / 256 < 0x3100 ∧ j / 256 % 16 ≠ 0) : d.Weighs (e.set j v) :=
  ⟨h.1.set v fun _ hk => evalReg_not_chain hk chain, h.2⟩

theorem Dev.Weighs.raise (h : d.Weighs e) (code kind subject reaction detail : Nat) : d.Weighs (e.raise code kind subject reaction detail) :=
  ⟨h.1.raise _ _ _ _ _, fun k => by rw [(Dev.keeps_raise e code kind subject reaction detail).chain k (by decide), h.2 k]⟩

theorem Dev.Weighs.setGeom (h : d.Weighs e) {x : Geom} (same : x.measured.results = e.geom.results ∧ x.kinDone = e.geom.kinDone ∧
    x.kinOver = e.geom.kinOver ∧ x.cycle = e.geom.cycle ∧ x.pairs = e.geom.pairs) : d.Weighs { e with geom := x } := ⟨h.1.setGeom same, h.2⟩

theorem Dev.Weighs.laterChain (h : d.Weighs e) (c code r : Nat) : d.Weighs (e.laterChain c code r) := h.setGeom ⟨rfl, rfl, rfl, rfl, rfl⟩

theorem Dev.Weighs.when (h : d.Weighs e) (b : Bool) (g : Dev → Dev) (then_ : d.Weighs (g e)) : d.Weighs (e.when b g) := by
  unfold Dev.when
  split
  · exact then_
  · exact h

theorem Dev.Weighs.of_keeps {l : List Part} (h : d.Weighs e) (g : e.Keeps f l) (od : Part.od ∉ l := by decide) (chains : Part.chains ∉ l := by decide)
    (within : ∀ p ∈ l, p ∈ plainParts := by decide) : d.Weighs f :=
  ⟨h.1.of_od g od within, fun k => by rw [g.chain k chains, h.2 k]⟩

theorem Dev.Weighs.trans (h : d.Weighs e) (g : e.Weighs f) : d.Weighs f := ⟨h.1.trans g.1, fun k => (g.2 k).trans (h.2 k)⟩

theorem Dev.Weighs.reacts (h : d.Weighs e) (g : e.AxesReact f) (loops : e.LoopsStand f) : d.Weighs f :=
  ⟨h.1.reacts g loops, fun k => (loops.ovr k).trans (h.2 k)⟩

/-- The entries of the chains' objects 6 and 9. -/
theorem chain_entry {c i : Nat} (hc : c < 16) (hi : i < 256) (o : Nat) (ho : o = 6 ∨ o = 9) : 0x3000 ≤ Reg.key (0x3000 + o + 16 * c) i / 256 ∧
    Reg.key (0x3000 + o + 16 * c) i / 256 < 0x3100 ∧ Reg.key (0x3000 + o + 16 * c) i / 256 % 16 ≠ 0 := by
  simp only [Reg.key]
  omega

theorem Dev.Weighs.shows (h : d.Weighs e) {c i : Nat} (hc : c < 16) (v : Int) (hi : i < 256 := by decide) : d.Weighs (e.set (Reg.key (0x3009 + 16 * c) i) v) :=
  h.set v (chain_entry hc hi 9 (.inr rfl))

theorem Dev.showPair_weighs (h : d.Weighs e) {k : SsmChain} (hc : k.c < 16) (ps : List SsmPair) (o : Rat) : d.Weighs (e.showPair k ps o) := by
  unfold Dev.showPair
  extract_lets lim c x
  have weighsX : d.Weighs x := h.shows hc _
  clear_value lim x
  split
  · exact ((((((weighsX.shows hc _).shows hc _).shows hc _).shows hc _).shows hc _).shows hc _).shows hc _
  · exact ((((((weighsX.shows hc _).shows hc _).shows hc _).shows hc _).shows hc _).shows hc _).shows hc _

theorem Dev.refCheck_weighs (h : d.Weighs e) (k : SsmChain) : d.Weighs (e.refCheck k) := by
  unfold Dev.refCheck
  split
  · obtain ⟨x, hx⟩ : ∃ x, x = e.raise Code.SSM_REF_EXCEEDED Kind.chain k.c Reaction.ss1 := ⟨_, rfl⟩
    rw [← hx]
    have weighsX : d.Weighs x := by rw [hx]; exact h.raise _ _ _ _ _
    exact weighsX.reacts (Dev.reactChain_reacts x k.c Code.SSM_REF_EXCEEDED Reaction.ss1) ((Dev.LoopsStand.refl x).reactChain _ _ _)
  · exact h

theorem Dev.ssmEvaluate_weighs (d : Dev) {c : Nat} (hc : c < 16) : d.Evaluating (d.ssmEvaluate c) ∧
    ((d.ssmEvaluate c).chain c).ovrNext ∈ 0 :: 0x7FFFFFFF :: d.candidates c ∧ ∀ k, k ≠ c → ((d.ssmEvaluate c).chain k).ovrNext = (d.chain k).ovrNext := by
  obtain ⟨e, made⟩ : ∃ e, e = d.ssmEvaluate c := ⟨_, rfl⟩
  rw [← made]
  unfold Dev.ssmEvaluate at made
  extract_lets k at made
  generalize taken : d.takeFresh = pair at made
  obtain ⟨f, x⟩ := pair
  dsimp -zeta only at made
  extract_lets y ps best omin ok extra old z below w v u t r at made
  have low : k.c < 16 := hc
  have weighsY : d.Weighs y := by
    have keepsX : d.Keeps x [.fresh] := by
      have eqX : d.takeFresh.2 = x := by rw [taken]
      rw [← eqX]
      exact d.keeps_takeFresh
    have weighsX : d.Weighs x := Dev.Weighs.of_keeps ⟨.refl d, fun _ => rfl⟩ keepsX
    exact weighsX.of_keeps (l := [.fresh]) fun p hp => by
      cases p with
      | fresh => simp at hp
      | _ => rfl
  clear_value y
  have bestMem : best ∈ 0 :: 0x7FFFFFFF :: d.candidates c := by
    rw [← weighsY.1.candidates hc]
    exact y.bestOverride_mem k ps
  clear_value best
  have weighsW : d.Weighs w := (weighsY.when _ _ (weighsY.raise _ _ _ _ _)).when _ _ ((weighsY.when _ _ (weighsY.raise _ _ _ _ _)).raise _ _ _ _ _)
  clear_value w
  have evalV : d.Evaluating v := by
    refine .modChain weighsW.1 c ?_
    exact fun _ => rfl
  have ownV : (v.chain c).ovrNext = best := by rw [Dev.chain_modChain]
  have restV : ∀ j, j ≠ c → (v.chain j).ovrNext = (d.chain j).ovrNext := fun j far => by rw [Dev.chain_modChain_other _ _ far, weighsW.2 j]
  clear_value v
  have weighsU : v.Weighs u := by
    have six : v.Weighs (v.set (Reg.CH6_SEP_OVR c) best) := Dev.Weighs.set ⟨.refl v, fun _ => rfl⟩ _ (chain_entry hc (by decide) 6 (.inl rfl))
    exact six.shows hc _
  clear_value u
  have weighsT : v.Weighs t := weighsU.when _ _ (weighsU.shows hc _)
  clear_value t
  have weighsR : v.Weighs r := by
    refine weighsT.when _ _ ?_
    exact Dev.Weighs.setGeom ((weighsT.raise _ _ _ _ _).shows hc _) ⟨rfl, rfl, rfl, rfl, rfl⟩
  clear_value r
  have weighsE : v.Weighs e := by
    rw [made]
    exact Dev.refCheck_weighs (Dev.showPair_weighs weighsR low _ _) k
  refine ⟨evalV.trans weighsE.1, ?_, fun j far => (weighsE.2 j).trans (restV j far)⟩
  rw [weighsE.2 c, ownV]
  exact bestMem

/-! ## What follows the overrides -/

theorem Dev.putOverride_spec (d : Dev) {c o : Nat} (hc : c < 16) : d.Evaluating (d.putOverride c o) ∧ ((d.putOverride c o).chain c).ovrNext = o ∧
    ∀ k, k ≠ c → ((d.putOverride c o).chain k).ovrNext = (d.chain k).ovrNext := by
  unfold Dev.putOverride
  obtain ⟨x, hx⟩ : ∃ x, x = d.modChain c fun x => { x with ovrNext := o } := ⟨_, rfl⟩
  have evalX : d.Evaluating x := by
    rw [hx]
    refine .modChain (.refl d) c ?_
    exact fun _ => rfl
  have ownX : (x.chain c).ovrNext = o := by rw [hx, Dev.chain_modChain]
  have restX : ∀ k, k ≠ c → (x.chain k).ovrNext = (d.chain k).ovrNext := fun k far => by rw [hx, Dev.chain_modChain_other _ _ far]
  rw [← hx]
  exact ⟨evalX.set _ fun _ hk => evalReg_not_chain hk (chain_entry hc (by decide) 6 (.inl rfl)), ownX, restX⟩

theorem Dev.LoopsStand.unlatch (h : d.LoopsStand e) (n : Nat) (p : StopLatch → Bool) : d.LoopsStand (e.unlatch n p) := by
  unfold Dev.unlatch
  extract_lets x
  split
  · have stand : d.LoopsStand (e.setAxSafe n { x with latches := x.latches.filter fun l => !p l }) := h.setAxSafe n _
    revert stand
    generalize e.setAxSafe n { x with latches := x.latches.filter fun l => !p l } = y
    intro stand
    unfold Dev.showLatch
    extract_lets ls z
    split
    · exact (stand.set _ _).set _ _
    · exact stand.set _ _
  · exact h

theorem Dev.chainSlsCheck_weighs (h : d.Weighs e) (c : Nat) : d.Weighs (e.chainSlsCheck c) := by
  unfold Dev.chainSlsCheck
  split
  · exact (h.raise _ _ _ _ _).laterChain _ _ _
  · refine each_holds (fun f : Dev => d.Weighs f) _ _ (fun n hn f hf => ?_) h
    have low : n < 256 := Dev.members_lt hn
    exact hf.reacts (Dev.Reacts.unlatch (N := (· < 256)) (C := (· < 16)) (.refl _ _ f) low low _) ((Dev.LoopsStand.refl f).unlatch n _)

theorem Dev.chainStopCheck_weighs (h : d.Weighs e) (c : Nat) : d.Weighs (e.chainStopCheck c) := by
  unfold Dev.chainStopCheck
  split
  · extract_lets active still drop
    have drops : ∀ f, d.Weighs f → d.Weighs (drop f) := fun f hf => hf.of_keeps (l := [.safe]) fun p hp => by
      cases p with
      | safe => simp at hp
      | _ => rfl
    clear_value drop
    split
    · exact drops _ h
    split
    · exact (drops _ (h.raise _ _ _ _ _)).laterChain _ _ _
    · exact h
  · exact h

end

section
variable {s : State} (live : s.Live) (works : s.found.standsBy = false)
include live works

theorem separationEvaluation_idle (no : s.found.clk.tick ≠ 3 ∨ s.found.sep.evalA = some s.found.clk.cycle64) :
    Does .separationEvaluation s fun b a => b.Keeps a [] :=
  geometry_idle live works (fun d => d.separationEvaluation) (if_pos no)

omit live works

/-- The next override that one chain is given. -/
def Dev.weigh (ready : Bool) (c : Nat) (d : Dev) : Dev :=
  if d.ssm c then d.when ready fun d => d.ssmEvaluate c
  else (d.modChain c fun x => { x with minFail := false, limEp := false, extraEp := false }).putOverride c 0x7FFFFFFF

theorem Dev.weigh_spec (ready : Bool) (d : Dev) {c : Nat} (hc : c < 16) : d.Evaluating (d.weigh ready c) ∧
    (d.ssm c = false → ((d.weigh ready c).chain c).ovrNext = 0x7FFFFFFF) ∧
    (ready = true → d.ssm c = true → ((d.weigh ready c).chain c).ovrNext ∈ 0 :: 0x7FFFFFFF :: d.candidates c) ∧
    ∀ k, k ≠ c → ((d.weigh ready c).chain k).ovrNext = (d.chain k).ovrNext := by
  unfold Dev.weigh
  split
  next under =>
    obtain ⟨eval, own, rest⟩ := d.ssmEvaluate_weighs hc
    cases ready with
    | true => exact ⟨eval, fun no => absurd under (by rw [no]; decide), fun _ _ => own, rest⟩
    | false => exact ⟨.refl d, fun no => absurd under (by rw [no]; decide), fun no => absurd no (by decide), fun _ _ => rfl⟩
  next free =>
    obtain ⟨x, hx⟩ : ∃ x, x = d.modChain c fun x => { x with minFail := false, limEp := false, extraEp := false } := ⟨_, rfl⟩
    have evalX : d.Evaluating x := by
      rw [hx]
      refine .modChain (.refl d) c ?_
      exact fun _ => rfl
    have restX : ∀ k, k ≠ c → (x.chain k).ovrNext = (d.chain k).ovrNext := fun k far => by rw [hx, Dev.chain_modChain_other _ _ far]
    rw [← hx]
    obtain ⟨eval, own, rest⟩ := x.putOverride_spec (o := 0x7FFFFFFF) hc
    exact ⟨evalX.trans eval, fun _ => own, fun _ yes => absurd yes free, fun k far => (rest k far).trans (restX k far)⟩

/-- What R173 admits as the next override of a chain. -/
abbrev Dev.Admits (d : Dev) (c : Nat) (e : Dev) : Prop :=
  (d.ssm c = false → (e.chain c).ovrNext = 0x7FFFFFFF) ∧ (d.ssm c = true → (e.chain c).ovrNext ∈ 0 :: 0x7FFFFFFF :: d.candidates c)

theorem Dev.weighed_admits (d : Dev) {c : Nat} (hc : c < 16) : d.Admits c (iterate 16 (Dev.weigh true) d) := by
  refine each_reaches (fun f : Dev => d.Evaluating f) (fun f : Dev => d.Admits c f) (f := Dev.weigh true) (x := c) (List.mem_range.2 hc) ?_ ?_ ?_ (.refl d)
  · exact fun k hk f hf => hf.trans (f.weigh_spec true (List.mem_range.1 hk)).1
  · intro k hk f hf admits
    by_cases own : c = k
    · subst own
      exact weighs_admits f hf
    · rw [Dev.Admits, (f.weigh_spec true (List.mem_range.1 hk)).2.2.2 c own]
      exact admits
  · exact fun f hf => weighs_admits f hf
where
  weighs_admits (f : Dev) (hf : d.Evaluating f) : d.Admits c (f.weigh true c) := by
    obtain ⟨-, free, under, -⟩ := f.weigh_spec true hc
    rw [(hf.ssm hc).2, hf.candidates hc] at under
    rw [(hf.ssm hc).2] at free
    exact ⟨free, under rfl⟩

theorem Dev.weighed_evaluates (ready : Bool) (d : Dev) : d.Evaluating (iterate 16 (Dev.weigh ready) d) :=
  iterate_holds (fun f : Dev => d.Evaluating f) 16 _ (fun _ hk f hf => hf.trans (f.weigh_spec ready hk).1) (.refl d)

/-- The next override 0 of the chains of a list. -/
theorem Dev.zeroed_spec (cs : List Nat) (low : ∀ c ∈ cs, c < 16) (d : Dev) (made : e = each cs (fun c d => d.putOverride c 0) d) : d.Evaluating e ∧
    (∀ c ∈ cs, (e.chain c).ovrNext = 0) ∧ ∀ c, c ∉ cs → (e.chain c).ovrNext = (d.chain c).ovrNext := by
  have stays : ∀ (c k : Nat) (f : Dev), k ∈ cs → (f.chain c).ovrNext = 0 → ((f.putOverride k 0).chain c).ovrNext = 0 := fun c k f hk zero => by
    by_cases own : c = k
    · subst own
      exact (f.putOverride_spec (low _ hk)).2.1
    · rw [(f.putOverride_spec (low _ hk)).2.2 c own, zero]
  rw [made]
  refine ⟨each_holds (fun f : Dev => d.Evaluating f) _ _ (fun k hk f hf => hf.trans (f.putOverride_spec (low k hk)).1) (.refl d), fun c hc => ?_, fun c hc => ?_⟩
  · exact each_reaches (fun _ => True) (fun f : Dev => (f.chain c).ovrNext = 0) hc (fun _ _ _ _ => trivial) (fun k hk f _ => stays c k f hk)
      (fun f _ => (f.putOverride_spec (low c hc)).2.1) trivial
  · exact each_holds (fun f : Dev => (f.chain c).ovrNext = (d.chain c).ovrNext) _ _
      (fun k hk f hf => ((f.putOverride_spec (low k hk)).2.2 c fun same => hc (same ▸ hk)).trans hf) rfl

include live works

theorem separationEvaluation_evaluates (tick : s.found.clk.tick = 3) (first : s.found.sep.evalA ≠ some s.found.clk.cycle64) :
    Does .separationEvaluation s fun b a => a.sep.evalA = some b.clk.cycle64 ∧ a.geom.results = b.cycleResults ∧
      a.reg Reg.R3110_RESULT_CYCLE = (odType Reg.R3110_RESULT_CYCLE).wrap b.cycle ∧
      ∀ c < 16, b.chainEn c = true →
        (b.framesReady = false ∨ c ∈ b.untestedChains → (a.chain c).ovrNext = 0) ∧
        (b.framesReady = true → c ∉ b.untestedChains → b.ssm c = false → (a.chain c).ovrNext = 0x7FFFFFFF) ∧
        (b.framesReady = true → c ∉ b.untestedChains → b.ssm c = true → (a.chain c).ovrNext ∈ 0 :: 0x7FFFFFFF :: b.candidates c) := by
  obtain ⟨q, hq⟩ : ∃ q, q = s.found.when s.found.framesReady Dev.contacts := ⟨_, rfl⟩
  obtain ⟨r, hr⟩ : ∃ r, r = q.switchResults := ⟨_, rfl⟩
  obtain ⟨x, hx⟩ : ∃ x, x = r.when s.found.framesReady Dev.zoneEvaluation := ⟨_, rfl⟩
  obtain ⟨y, hy⟩ : ∃ y, y = iterate 16 (Dev.weigh s.found.framesReady) x := ⟨_, rfl⟩
  obtain ⟨cs, hcs⟩ : ∃ cs, cs = y.enabledChains.filter fun c => !s.found.framesReady || y.untestedChains.contains c := ⟨_, rfl⟩
  obtain ⟨z, hz⟩ : ∃ z, z = each cs (fun c d => d.putOverride c 0) y := ⟨_, rfl⟩
  obtain ⟨u, hu⟩ : ∃ u, u = z.when s.found.framesReady fun d => each d.enabledChains (fun c d => d.chainSlsCheck c) d := ⟨_, rfl⟩
  obtain ⟨v, hv⟩ : ∃ v, v = each u.enabledChains (fun c d => d.chainStopCheck c) u := ⟨_, rfl⟩
  obtain ⟨e, made⟩ : ∃ e, e = { v with sep := { v.sep with evalA := some s.found.clk.cycle64 } } := ⟨_, rfl⟩
  have result : s.found.separationEvaluation = e := by
    rw [made, hv, hu, hz, hcs, hy, hx, hr, hq]
    exact if_neg (by rintro (h | h); exacts [h tick, first h])
  obtain ⟨keepsR, standR, regsR, resultsR, cycleR⟩ : s.found.Keeps r evalParts ∧ s.found.PairsStand r ∧ (∀ k, k ∉ logRegs → ¬ResultReg k → r.reg k = s.found.reg k) ∧
      r.geom.results = s.found.cycleResults ∧ r.reg Reg.R3110_RESULT_CYCLE = (odType Reg.R3110_RESULT_CYCLE).wrap s.found.cycle := by
    have touched : s.found.Touched q := by rw [hq]; exact .when _ _ s.found.contacts_touched
    have pairs := touched.pairs
    obtain ⟨geomR, cycle, regs, keeps⟩ := Dev.switchResults_spec q hr
    have stand : q.PairsStand r := ⟨by rw [geomR], by rw [geomR], by rw [geomR], by rw [geomR], keeps .clk (by decide), fun c => by rw [keeps.chain c (by decide)],
      fun k => keeps.bytes k (by decide), fun k hk => regs k (by
        have low : k / 256 < 0x3110 := by revert k; decide +kernel
        rintro (h | ⟨c, _, h⟩) <;> omega)⟩
    refine ⟨(touched.keeps.mono (by decide)).step keeps, pairs.trans stand, fun k log far => (regs k far).trans (touched.regs k log), by rw [geomR, ← pairs.results], ?_⟩
    rw [cycle, Dev.cycle, pairs.clk, ← Dev.cycle]
  have ready : r.framesReady = s.found.framesReady := standR.ready
  have chains : ∀ c < 16, r.chainEn c = s.found.chainEn c ∧ r.ssm c = s.found.ssm c ∧ r.candidates c = s.found.candidates c := fun c hc => by
    have far : ∀ k ∈ evalRegs, k ∉ logRegs ∧ (k = Reg.R3110_RESULT_CYCLE ∨ k / 256 < 0x3110 ∨ 0x3130 ≤ k / 256) := by decide +kernel
    have same : ∀ k ∈ evalRegs, k ≠ Reg.R3110_RESULT_CYCLE → r.reg k = s.found.reg k := fun k hk other => by
      obtain ⟨log, apart⟩ := far k hk
      have out := apart.resolve_left other
      exact regsR k log (by rintro (h | ⟨c, _, h⟩) <;> omega)
    obtain ⟨en, ssm, least⟩ := mem_evalRegs hc
    have enabled : r.chainEn c = s.found.chainEn c := by
      rw [Dev.chainEn, Dev.chainEn, Dev.flag, Dev.flag, same _ en (by simp only [act, Reg.CH0_CHAIN_EN, Reg.R3110_RESULT_CYCLE, Reg.key]; omega)]
    refine ⟨enabled, ?_, ?_⟩
    · rw [Dev.ssm, Dev.ssm, enabled, Dev.flag, Dev.flag, same _ ssm (by simp only [act, Reg.R3210_SSM_EN, Reg.R3110_RESULT_CYCLE, Reg.key]; omega)]
    · rw [Dev.candidates, Dev.candidates, Dev.nat, Dev.nat, same _ least (by simp only [act, Reg.R3210_O_MIN, Reg.R3110_RESULT_CYCLE, Reg.key]; omega)]
  have weighsX : r.Evaluating x := by rw [hx]; exact Dev.Evaluating.when (.refl r) _ _ (Dev.Evaluating.refl r).zoneEvaluation
  have evalY : x.Evaluating y := by rw [hy]; exact x.weighed_evaluates _
  have lowCs : ∀ c ∈ cs, c < 16 := fun c hc => by
    rw [hcs] at hc
    exact List.mem_range.1 (List.mem_filter.1 (List.mem_filter.1 hc).1).1
  obtain ⟨evalZ, zeroZ, restZ⟩ := Dev.zeroed_spec cs lowCs y hz
  have weighsU : z.Weighs u := by
    rw [hu]
    exact Dev.Weighs.when ⟨.refl z, fun _ => rfl⟩ _ _ (each_holds (fun f : Dev => z.Weighs f) _ _ (fun c _ _ hf => Dev.chainSlsCheck_weighs hf c) ⟨.refl z, fun _ => rfl⟩)
  have weighsV : z.Weighs v := by
    rw [hv]
    exact each_holds (fun f : Dev => z.Weighs f) _ _ (fun c _ _ hf => Dev.chainStopCheck_weighs hf c) weighsU
  have keepsE : v.Keeps e [.sep] := by
    rw [made]
    intro p hp
    cases p with
    | sep => simp at hp
    | _ => rfl
  have evalRY : r.Evaluating y := weighsX.trans evalY
  have evalRV : r.Evaluating v := (evalRY.trans evalZ).trans weighsV.1
  have results : e.geom.results = s.found.cycleResults := by rw [keepsE .geom (by decide), evalRV.results, resultsR]
  have cycle : e.reg Reg.R3110_RESULT_CYCLE = (odType Reg.R3110_RESULT_CYCLE).wrap s.found.cycle := by
    rw [Dev.reg_congr (keepsE .od (by decide)), evalRV.regs _ (by simp), cycleR]
  have ovrE : ∀ c, (e.chain c).ovrNext = (z.chain c).ovrNext := fun c => by rw [keepsE.chain c (by decide), weighsV.2 c]
  have evaluated : e.sep.evalA = some s.found.clk.cycle64 := by rw [made]
  have inCs : ∀ c < 16, s.found.chainEn c = true → (c ∈ cs ↔ s.found.framesReady = false ∨ c ∈ s.found.untestedChains) := fun c hc en => by
    have enY : y.chainEn c = true := by rw [(evalRY.ssm hc).1, (chains c hc).1, en]
    have untested : y.untestedChains = s.found.untestedChains := (standR.trans evalRY.pairs).untested
    rw [hcs, List.mem_filter, untested, Dev.enabledChains, List.mem_filter, List.mem_range]
    simp [hc, enY]
  have admits : s.found.framesReady = true → ∀ c < 16, s.found.Admits c y := fun yes c hc => by
    have atX := x.weighed_admits hc
    rw [yes] at hy
    rw [← hy, Dev.Admits, (weighsX.ssm hc).2, weighsX.candidates hc, (chains c hc).2.1, (chains c hc).2.2] at atX
    exact atX
  have keeps : s.found.Keeps e (.sep :: evalParts) := ((keepsR.andThen evalRV.keeps).mono (by decide)).step keepsE
  refine (geometry_leaves live works (fun d => d.separationEvaluation) result keeps).does fun pend vecs => ⟨evaluated, results, cycle, fun c hc en => ⟨fun no => ?_, fun yes tested => ?_, fun yes tested => ?_⟩⟩
  · exact (ovrE c).trans (zeroZ c ((inCs c hc en).2 no))
  · have out : c ∉ cs := fun mem => ((inCs c hc en).1 mem).elim (fun no => by rw [yes] at no; cases no) tested
    intro free
    exact (ovrE c).trans ((restZ c out).trans ((admits yes c hc).1 free))
  · have out : c ∉ cs := fun mem => ((inCs c hc en).1 mem).elim (fun no => by rw [yes] at no; cases no) tested
    intro under
    have own := (admits yes c hc).2 under
    rw [← restZ c out, ← ovrE c] at own
    exact own

end

end Sys2Proof.Machine
end

section
/-! # The frames of the cycle (R142, R180, R184) -/

namespace Sys2Proof.Machine

section
variable {d e f : Dev}

/-- The entries the kinematics show. -/
abbrev FrameReg (k : Nat) : Prop := ∃ c < 16, k = Reg.CH1_ACTIVE_PAYLOAD c ∨ k = Reg.CH1_FRAME_AGE c ∨ k = Reg.R5040_MAX_POINT_SPEED c

theorem frameReg_apart {k : Nat} (low : k / 256 < 0x3001 ∨ k / 256 % 16 = 0 ∧ k % 256 ≠ 0x11 ∨ k % 256 = 1) : ¬FrameReg k := by
  rintro ⟨c, hc, same⟩
  simp only [Reg.CH1_ACTIVE_PAYLOAD, Reg.CH1_FRAME_AGE, Reg.R5040_MAX_POINT_SPEED, Reg.key] at same
  omega

/-- What the kinematics read stands. -/
structure Dev.Framing (d e : Dev) : Prop where
  keeps : d.Keeps e [.od, .chains]
  regs : ∀ k, ¬FrameReg k → e.reg k = d.reg k
  cur : ∀ c, (e.chain c).cur = (d.chain c).cur

theorem Dev.Framing.refl (d : Dev) : d.Framing d := ⟨Dev.Keeps.refl _ _, fun _ _ => rfl, fun _ => rfl⟩

theorem Dev.Framing.trans (h : d.Framing e) (g : e.Framing f) : d.Framing f :=
  ⟨h.keeps.andThen g.keeps, fun k far => (g.regs k far).trans (h.regs k far), fun c => (g.cur c).trans (h.cur c)⟩

theorem Dev.Framing.set (h : d.Framing e) {j : Nat} (v : Int) (own : FrameReg j) : d.Framing (e.set j v) :=
  ⟨h.keeps.set _ _, fun k far => (Dev.reg_set_other _ _ (by rintro rfl; exact far own)).trans (h.regs k far), h.cur⟩

theorem Dev.Framing.modChain (h : d.Framing e) (c : Nat) {g : Chain → Chain} (same : ∀ x, (g x).cur = x.cur) : d.Framing (e.modChain c g) := by
  refine ⟨h.keeps.step (e.keeps_modChain c g), h.regs, fun k => ?_⟩
  by_cases own : k = c
  · subst own
    rw [Dev.chain_modChain, same, h.cur]
  · rw [Dev.chain_modChain_other _ _ own, h.cur]

/-- What the frames of a chain are made of. -/
theorem Dev.Framing.reads (h : d.Framing e) (c : Nat) : e.chainEn c = d.chainEn c ∧ e.ssm c = d.ssm c ∧ e.members c = d.members c ∧
    e.payload c = d.payload c ∧ e.frameAge c = d.frameAge c ∧ (∀ qs p, e.framesAt c qs p = d.framesAt c qs p) := by
  have dom : e.dom = d.dom := h.keeps .dom (by decide)
  have members := Dev.members_congr dom c
  have en : e.reg (act (Reg.CH0_CHAIN_EN c)) = d.reg (act (Reg.CH0_CHAIN_EN c)) :=
    h.regs _ (frameReg_apart (by simp only [act, Reg.CH0_CHAIN_EN, Reg.key]; omega))
  have ssm : e.reg (act (Reg.R3210_SSM_EN c)) = d.reg (act (Reg.R3210_SSM_EN c)) := h.regs _ (by
    rintro ⟨k, hk, same⟩
    simp only [act, Reg.R3210_SSM_EN, Reg.CH1_ACTIVE_PAYLOAD, Reg.CH1_FRAME_AGE, Reg.R5040_MAX_POINT_SPEED, Reg.key] at same
    omega)
  have payload : e.reg (Reg.CH1_PAYLOAD c) = d.reg (Reg.CH1_PAYLOAD c) := h.regs _ (by
    rintro ⟨k, hk, same⟩
    simp only [Reg.CH1_PAYLOAD, Reg.CH1_ACTIVE_PAYLOAD, Reg.CH1_FRAME_AGE, Reg.R5040_MAX_POINT_SPEED, Reg.key] at same
    omega)
  have enabled : e.chainEn c = d.chainEn c := by rw [Dev.chainEn, Dev.chainEn, Dev.flag, Dev.flag, en]
  refine ⟨enabled, by rw [Dev.ssm, Dev.ssm, enabled, Dev.flag, Dev.flag, ssm], members, by rw [Dev.payload, Dev.payload, h.cur, Dev.nat, Dev.nat, payload], ?_, fun qs p => ?_⟩
  · rw [Dev.frameAge, Dev.frameAge, members]
    exact congrArg _ (List.map_congr_left fun n _ => by rw [h.keeps.axis n (by decide)])
  · rw [Dev.framesAt, Dev.framesAt, h.keeps.bytes _ (by decide), h.keeps.bytes _ (by decide)]

theorem Dev.Framing.member (h : d.Framing e) {n : Nat} (hn : n < 256) : e.measured n = d.measured n ∧ e.setpoint n = d.setpoint n ∧ e.measuredVel n = d.measuredVel n := by
  have axis : e.axis n = d.axis n := h.keeps.axis n (by decide)
  have set : e.reg (Reg.AX5_SETPOINT n) = d.reg (Reg.AX5_SETPOINT n) := h.regs _ (frameReg_apart (by simp only [Reg.AX5_SETPOINT, Reg.key]; omega))
  have src : e.reg (Reg.AX10_VEL_SRC n) = d.reg (Reg.AX10_VEL_SRC n) := h.regs _ (frameReg_apart (by simp only [Reg.AX10_VEL_SRC, Reg.key]; omega))
  have now : e.tickAbs = d.tickAbs := by rw [Dev.tickAbs, Dev.tickAbs, h.keeps .clk (by decide)]
  refine ⟨by rw [Dev.measured, Dev.measured, axis], set, ?_⟩
  rw [Dev.measuredVel, Dev.measuredVel, Dev.setting, Dev.setting, axis, now, src]

/-! ## One chain -/

/-- What a chain shows of its members' frames. -/
def Chain.shape (x : Chain) : List Frame × List Frame × List Int × List CapPose := (x.frames, x.framesC, x.memberV, x.caps)

/-- A stage that changes no chain's frames. -/
abbrev Dev.Measures (d e : Dev) : Prop := d.Framing e ∧ (∀ c, (e.chain c).shape = (d.chain c).shape) ∧ ∀ c, e.reg (Reg.CH1_FRAME_AGE c) = d.reg (Reg.CH1_FRAME_AGE c)

theorem Dev.Measures.modChain (h : d.Measures e) (c : Nat) {g : Chain → Chain} (same : ∀ x, (g x).cur = x.cur ∧ (g x).shape = x.shape) :
    d.Measures (e.modChain c g) := by
  refine ⟨h.1.modChain c fun x => (same x).1, fun k => ?_, h.2.2⟩
  by_cases own : k = c
  · subst own
    rw [Dev.chain_modChain, (same _).2, h.2.1]
  · rw [Dev.chain_modChain_other _ _ own, h.2.1]

theorem Dev.measureStop_measures (d : Dev) (c : Nat) (old : List CapPose) (fast : Int) (cls : Nat) : d.Measures (d.measureStop c old fast cls) := by
  have refl : d.Measures d := ⟨.refl d, fun _ => rfl, fun _ => rfl⟩
  unfold Dev.measureStop
  extract_lets x now new v e
  have meas : d.Measures e := by
    refine .modChain refl c ?_
    exact fun _ => ⟨rfl, rfl⟩
  clear_value x now new v e
  split
  · split
    · exact meas
    · extract_lets bad m stood
      clear_value m stood
      refine .modChain meas c ?_
      exact fun _ => ⟨rfl, rfl⟩
  · split
    · split
      · extract_lets was m₁ m₂ m₃
        clear_value m₃
        refine .modChain meas c ?_
        exact fun _ => ⟨rfl, rfl⟩
      · exact meas
    · exact meas

theorem Dev.pointSpeeds_measures (h : d.Measures e) {c : Nat} (hc : c < 16) : d.Measures (e.pointSpeeds c) := by
  refine ⟨h.1.set _ ⟨c, hc, .inr (.inr rfl)⟩, h.2.1, fun k => (Dev.reg_set_other _ _ ?_).trans (h.2.2 k)⟩
  simp only [Reg.CH1_FRAME_AGE, Reg.R5040_MAX_POINT_SPEED, Reg.key]
  omega

/-- The frames and speeds of one chain. -/
def Dev.frameStage (c : Nat) (d : Dev) : Dev :=
  let old := d.capsI c
  let fast := (d.chain c).fastT0
  let cls := d.nat (Reg.CH1_ACTIVE_PAYLOAD c)
  let d := d.chainKinematics c
  if d.chainEn c then ((d.measureStop c old fast cls).pointSpeeds c).frameLost c else d

/-- A chain holds the frames of its members. -/
def Dev.Framed (d : Dev) (c : Nat) (e : Dev) : Prop :=
  (d.chainEn c = true → (e.chain c).frames = d.framesAt c ((d.members c).map d.measured) (d.payload c) ∧
    (e.chain c).framesC = d.framesAt c ((d.members c).map d.setpoint) (d.payload c) ∧ (e.chain c).memberV = (d.members c).map d.measuredVel ∧
    e.reg (Reg.CH1_FRAME_AGE c) = (odType (Reg.CH1_FRAME_AGE c)).wrap (d.frameAge c)) ∧
  (d.chainEn c = false → (e.chain c).frames = [] ∧ (e.chain c).caps = [])

theorem Dev.Framed.measures {c : Nat} (h : d.Framed c e) (g : e.Measures f) : d.Framed c f := by
  have same := g.2.1 c
  simp only [Chain.shape, Prod.mk.injEq] at same
  obtain ⟨frames, framesC, memberV, caps⟩ := same
  rw [Dev.Framed, frames, framesC, memberV, caps, g.2.2 c]
  exact h

theorem frameAge_apart {k c : Nat} (far : k ≠ c) : Reg.CH1_FRAME_AGE k ≠ Reg.CH1_FRAME_AGE c ∧ Reg.CH1_FRAME_AGE k ≠ Reg.CH1_ACTIVE_PAYLOAD c := by
  simp only [Reg.CH1_FRAME_AGE, Reg.CH1_ACTIVE_PAYLOAD, Reg.key]
  omega

theorem Dev.chainKinematics_frames (d : Dev) {c : Nat} (hc : c < 16) : d.Framing (d.chainKinematics c) ∧ d.Framed c (d.chainKinematics c) ∧
    ∀ k, k ≠ c → ((d.chainKinematics c).chain k).shape = (d.chain k).shape ∧ (d.chainKinematics c).reg (Reg.CH1_FRAME_AGE k) = d.reg (Reg.CH1_FRAME_AGE k) := by
  obtain ⟨e, made⟩ : ∃ e, e = d.chainKinematics c := ⟨_, rfl⟩
  rw [← made]
  unfold Dev.chainKinematics at made
  split at made
  next off =>
    have no : d.chainEn c = false := by
      cases h : d.chainEn c with
      | true => rw [h] at off; cases off
      | false => rfl
    have own : e.chain c = { d.chain c with frames := [], framesC := [], caps := [], capsC := [], memberV := [] } := by rw [made, Dev.chain_modChain]
    have framing : d.Framing e := by
      rw [made]
      refine .modChain (.refl d) c ?_
      exact fun _ => rfl
    have odE : e.od = d.od := by rw [made]; rfl
    refine ⟨framing, ⟨fun yes => ?_, fun _ => by rw [own]; exact ⟨rfl, rfl⟩⟩, fun k far => ⟨by rw [made, Dev.chain_modChain_other _ _ far], Dev.reg_congr odE _⟩⟩
    rw [no] at yes
    cases yes
  next on =>
    have yes : d.chainEn c = true := by
      cases h : d.chainEn c with
      | true => rfl
      | false => rw [h] at on; exact absurd rfl on
    extract_lets p mem fm fc x at made
    have own : (x.chain c).frames = fm ∧ (x.chain c).framesC = fc ∧ (x.chain c).memberV = mem.map d.measuredVel := by
      rw [Dev.chain_modChain]
      exact ⟨rfl, rfl, rfl⟩
    have framingX : d.Framing x := by
      refine .modChain (.refl d) c ?_
      exact fun _ => rfl
    have odX : x.od = d.od := rfl
    have rest : ∀ k, k ≠ c → (x.chain k).shape = (d.chain k).shape := fun k far => by rw [Dev.chain_modChain_other _ _ far]
    clear_value x
    have framing : d.Framing e := by rw [made]; exact (framingX.set _ ⟨c, hc, .inl rfl⟩).set _ ⟨c, hc, .inr (.inl rfl)⟩
    have chains : ∀ k, e.chain k = x.chain k := fun k => by rw [made]; rfl
    have age : x.frameAge c = d.frameAge c := (framingX.reads c).2.2.2.2.1
    refine ⟨framing, ⟨fun _ => ⟨?_, ?_, ?_, ?_⟩, fun no => by rw [yes] at no; cases no⟩, fun k far => ⟨by rw [chains k, rest k far], ?_⟩⟩
    · rw [chains c, own.1]
    · rw [chains c, own.2.1]
    · rw [chains c, own.2.2]
    · rw [made, Dev.reg_set_same, ← age]
    · obtain ⟨apart, other⟩ := frameAge_apart far
      rw [made, Dev.reg_set_other _ _ apart, Dev.reg_set_other _ _ other]
      exact Dev.reg_congr odX _

theorem Dev.unlatchChain_reacts (d : Dev) (c code : Nat) : d.AxesReact (d.unlatchChain c code) :=
  Dev.Reacts.each _ _ _ fun _ hn _ hf => hf.unlatch (Dev.members_lt hn) (Dev.members_lt hn) _

theorem Dev.keeps_frameLost (d : Dev) (c : Nat) : d.Keeps (d.frameLost c) reactionParts := by
  unfold Dev.frameLost
  split
  · exact Dev.Keeps.refl _ _
  · extract_lets lost told
    split
    · split
      · exact Dev.Keeps.refl _ _
      · exact ((Dev.keeps_raise _ _ _ _ _ _).mono (by decide)).andThen (Dev.latchChain_reacts _ _ _ _).keeps
    · exact (Dev.unlatchChain_reacts _ _ _).keeps

/-- The stage in which one chain gets its frames, no chain under SSM. -/
theorem Dev.frameStage_frames (d : Dev) {c : Nat} (hc : c < 16) (free : d.ssm c = false) : d.Framing (d.frameStage c) ∧ d.Framed c (d.frameStage c) ∧
    ∀ k, k ≠ c → ((d.frameStage c).chain k).shape = (d.chain k).shape ∧ (d.frameStage c).reg (Reg.CH1_FRAME_AGE k) = d.reg (Reg.CH1_FRAME_AGE k) := by
  obtain ⟨framing, framed, rest⟩ := d.chainKinematics_frames hc
  unfold Dev.frameStage
  extract_lets old fast cls x
  clear_value old fast cls
  have ssm : x.ssm c = false := ((framing.reads c).2.1).trans free
  change d.Framing x at framing
  change d.Framed c x at framed
  change ∀ k, k ≠ c → (x.chain k).shape = (d.chain k).shape ∧ x.reg (Reg.CH1_FRAME_AGE k) = d.reg (Reg.CH1_FRAME_AGE k) at rest
  clear_value x
  split
  · have measures : x.Measures ((x.measureStop c old fast cls).pointSpeeds c) := Dev.pointSpeeds_measures (x.measureStop_measures c old fast cls) hc
    revert measures
    generalize (x.measureStop c old fast cls).pointSpeeds c = y
    intro measures
    have still : y.frameLost c = y := if_pos (by rw [(measures.1.reads c).2.1, ssm]; rfl)
    rw [still]
    exact ⟨framing.trans measures.1, framed.measures measures,
      fun k far => ⟨(measures.2.1 k).trans (rest k far).1, (measures.2.2 k).trans (rest k far).2⟩⟩
  · exact ⟨framing, framed, rest⟩

theorem Dev.keeps_frameStage (d : Dev) {c : Nat} (hc : c < 16) : d.Keeps (d.frameStage c) reactionParts := by
  unfold Dev.frameStage
  extract_lets old fast cls x
  have keepsX : d.Keeps x reactionParts := (d.chainKinematics_frames hc).1.keeps.mono (by decide)
  clear_value old fast cls x
  split
  · have measures : x.Measures ((x.measureStop c old fast cls).pointSpeeds c) := Dev.pointSpeeds_measures (x.measureStop_measures c old fast cls) hc
    exact (keepsX.andThen (measures.1.keeps.mono (by decide))).andThen (Dev.keeps_frameLost _ c)
  · exact keepsX

theorem Dev.Framing.framed (h : d.Framing e) {c : Nat} (framed : e.Framed c f) : d.Framed c f := by
  obtain ⟨en, -, members, payload, age, frames⟩ := h.reads c
  have low : ∀ n ∈ d.members c, n < 256 := fun n hn => Dev.members_lt hn
  have measured : (d.members c).map e.measured = (d.members c).map d.measured := List.map_congr_left fun n hn => (h.member (low n hn)).1
  have setpoint : (d.members c).map e.setpoint = (d.members c).map d.setpoint := List.map_congr_left fun n hn => (h.member (low n hn)).2.1
  have vel : (d.members c).map e.measuredVel = (d.members c).map d.measuredVel := List.map_congr_left fun n hn => (h.member (low n hn)).2.2
  rw [Dev.Framed, en, members, payload, age, measured, setpoint, vel, frames, frames] at framed
  exact framed

theorem Dev.Framing.free (h : d.Framing e) (free : d.ssmChains = []) {c : Nat} (hc : c < 16) : e.ssm c = false := by
  have out : c ∉ d.ssmChains := by rw [free]; exact List.not_mem_nil
  rw [Dev.ssmChains, List.mem_filter, List.mem_range] at out
  rw [(h.reads c).2.1]
  exact Bool.eq_false_iff.2 fun yes => out ⟨hc, yes⟩

/-- Every chain gets its frames. -/
theorem Dev.frameStages_frames (d : Dev) (free : d.ssmChains = []) {c : Nat} (hc : c < 16) : d.Framed c (iterate 16 Dev.frameStage d) := by
  refine each_reaches (fun f : Dev => d.Framing f) (fun f : Dev => d.Framed c f) (f := Dev.frameStage) (x := c) (List.mem_range.2 hc) ?_ ?_ ?_ (.refl d)
  · exact fun k hk f hf => hf.trans (f.frameStage_frames (List.mem_range.1 hk) (hf.free free (List.mem_range.1 hk))).1
  · intro k hk f hf framed
    have low := List.mem_range.1 hk
    obtain ⟨-, own, rest⟩ := f.frameStage_frames low (hf.free free low)
    by_cases same : c = k
    · subst same
      exact hf.framed own
    · obtain ⟨shape, age⟩ := rest c same
      simp only [Chain.shape, Prod.mk.injEq] at shape
      obtain ⟨frames, framesC, memberV, caps⟩ := shape
      rw [Dev.Framed, frames, framesC, memberV, caps, age]
      exact framed
  · exact fun f hf => hf.framed (f.frameStage_frames hc (hf.free free hc)).2.1

theorem Dev.keeps_checkZone (d : Dev) (z : Nat) : d.Keeps (d.checkZone z) [.zones, .fresh] := by
  unfold Dev.checkZone
  split
  · exact (d.keeps_setZone z _).mono (by decide)
  · extract_lets r x grow m k
    generalize taken : d.takeFresh = pair
    obtain ⟨f, y⟩ := pair
    have keepsY : d.Keeps y [.fresh] := by
      have eqY : d.takeFresh.2 = y := by rw [taken]
      rw [← eqY]
      exact d.keeps_takeFresh
    exact (keepsY.mono (by decide)).step (y.keeps_setZone z _)

end

section
variable {s : State} (live : s.Live) (works : s.found.standsBy = false)
include live works

theorem kinematicsRun_idle (no : s.found.clk.tick ≠ 0) : Does .kinematicsRun s fun b a => b.Keeps a [] :=
  geometry_idle live works (fun d => d.kinematicsRun) (if_pos no)

omit live works in
theorem Dev.at_reads (d e : Dev) (t c : Nat) : (d.at t).ssmChains = d.ssmChains ∧ ((d.at t).Framed c e ↔ d.Framed c e) := ⟨rfl, Iff.rfl⟩

omit live works in
/-- The stages of the kinematics. -/
theorem kinematicsRun_runs (tick : s.found.clk.tick = 0) : ∃ o x y e, o = s.found.at 12000 ∧ x = iterate 16 Dev.frameStage o ∧
    x.Keeps y [.zones, .fresh] ∧ y.Keeps e [.geom] ∧ e.geom.kinDone = true ∧ s.found.kinematicsRun = e := by
  obtain ⟨o, ho⟩ : ∃ o, o = s.found.at 12000 := ⟨_, rfl⟩
  obtain ⟨x, hx⟩ : ∃ x, x = iterate 16 Dev.frameStage o := ⟨_, rfl⟩
  obtain ⟨y, hy⟩ : ∃ y, y = iterate 64 (fun z d => Dev.checkZone d z) x := ⟨_, rfl⟩
  obtain ⟨e, made⟩ : ∃ e, e = { y with geom := { y.geom with kinDone := true } } := ⟨_, rfl⟩
  have result : s.found.kinematicsRun = e := by
    unfold Dev.kinematicsRun
    rw [if_neg fun no => no tick]
    extract_lets o' x' y'
    have eqX : x' = x := by rw [hx, ho]; rfl
    clear_value x'
    have eqY : y' = y := by rw [hy, ← eqX]
    clear_value y'
    rw [made, ← eqY]
  have keepsY : x.Keeps y [.zones, .fresh] := by
    rw [hy]
    exact Dev.Keeps.iterate _ _ (fun z f => f.keeps_checkZone z) x
  have keepsE : y.Keeps e [.geom] := by
    rw [made]
    exact y.keeps_geom _
  exact ⟨o, x, y, e, ho, hx, keepsY, keepsE, by rw [made], result⟩

theorem kinematicsRun_done (tick : s.found.clk.tick = 0) : Does .kinematicsRun s fun _ a => a.geom.kinDone = true := by
  obtain ⟨o, x, y, e, ho, hx, keepsY, keepsE, done, result⟩ := kinematicsRun_runs tick
  have keepsO : s.found.Keeps o [.ph] := by rw [ho]; exact s.found.keeps_at _
  have keepsX : o.Keeps x reactionParts := by
    rw [hx]
    exact iterate_holds (fun f : Dev => o.Keeps f reactionParts) 16 _ (fun c hc f hf => hf.andThen (f.keeps_frameStage hc)) (Dev.Keeps.refl _ _)
  have keeps : s.found.Keeps e (.ph :: .zones :: .fresh :: .geom :: reactionParts) :=
    (((keepsO.mono (by decide)).step keepsX).step keepsY).step keepsE
  exact (geometry_leaves live works (fun d => d.kinematicsRun) result keeps).does fun _ _ => done

theorem kinematicsRun_frames (tick : s.found.clk.tick = 0) (free : s.found.ssmChains = []) : Does .kinematicsRun s fun b a => a.geom.kinDone = true ∧
    (∀ c < 16, b.chainEn c = true →
      (a.chain c).frames = b.framesAt c ((b.members c).map b.measured) (b.payload c) ∧
      (a.chain c).framesC = b.framesAt c ((b.members c).map b.setpoint) (b.payload c) ∧
      (a.chain c).memberV = (b.members c).map b.measuredVel ∧
      a.reg (Reg.CH1_FRAME_AGE c) = (odType (Reg.CH1_FRAME_AGE c)).wrap (b.frameAge c)) ∧
    (∀ c < 16, b.chainEn c = false → (a.chain c).frames = [] ∧ (a.chain c).caps = []) ∧ b.Keeps a [.ph, .od, .geom, .chains, .zones, .fresh] := by
  obtain ⟨o, x, y, e, ho, hx, keepsY, keepsE, done, result⟩ := kinematicsRun_runs tick
  have keepsO : s.found.Keeps o [.ph] := by rw [ho]; exact s.found.keeps_at _
  have freeO : o.ssmChains = [] := by rw [ho, (s.found.at_reads o 12000 0).1, free]
  have framing : o.Framing x := by
    rw [hx]
    exact iterate_holds (fun f : Dev => o.Framing f) 16 _ (fun c hc f hf => hf.trans (f.frameStage_frames hc (hf.free freeO hc)).1) (.refl _)
  have framed : ∀ c < 16, s.found.Framed c e := fun c hc => by
    have own : o.Framed c x := by
      rw [hx]
      exact Dev.frameStages_frames _ freeO hc
    have same : o.Framed c e := by
      rw [Dev.Framed, keepsE.chain c (by decide), keepsY.chain c (by decide), Dev.reg_congr (keepsE .od (by decide)), Dev.reg_congr (keepsY .od (by decide))]
      exact own
    rw [ho] at same
    exact (s.found.at_reads e 12000 c).2.1 same
  have keeps : s.found.Keeps e [.ph, .od, .geom, .chains, .zones, .fresh] :=
    (((keepsO.mono (by decide)).step framing.keeps).step keepsY).step keepsE
  exact (geometry_leaves live works (fun d => d.kinematicsRun) result keeps).quietly (keeps .event (by decide))
    ⟨done, fun c hc => (framed c hc).1, fun c hc => (framed c hc).2, keeps⟩

end

end Sys2Proof.Machine
end

section
/-! # Channel B, and the overrides and stops of T4 (R25, R186 to R188) -/

namespace Sys2Proof.Machine

section
variable {d e f : Dev}

/-- An entry of geometry and chains that is not a chain's CONTROL is none of a reaction's. -/
theorem geometry_not_reaction {k : Nat} (place : 0x3000 ≤ k / 256 ∧ k / 256 < 0x3430 ∧ (k / 256 < 0x3100 → k / 256 % 16 ≠ 5)) (log : k ∉ logRegs) :
    ¬ReactionReg (· < 256) (· < 16) k := by
  obtain ⟨above, below, chain⟩ := place
  rintro (⟨n, -, hn, ax⟩ | ⟨c, -, hc, ch⟩ | gen | is)
  · omega
  · simp only [Reg.CH5_CONTROL, Reg.key] at ch; omega
  · omega
  · exact log is

/-- The parts that channel B's check may change. -/
abbrev checkParts : List Part := .geom :: .fresh :: reactionParts

/-- A stage of channel B's check: the count of checked pairs stands. -/
structure Dev.Checks (d e : Dev) : Prop where
  keeps : d.Keeps e checkParts
  checked : e.reg Reg.R3202_PAIRS_CHECKED = d.reg Reg.R3202_PAIRS_CHECKED

theorem Dev.Checks.refl (d : Dev) : d.Checks d := ⟨Dev.Keeps.refl _ _, rfl⟩

theorem Dev.Checks.set (h : d.Checks e) {j : Nat} (v : Int) (apart : Reg.R3202_PAIRS_CHECKED ≠ j := by decide) : d.Checks (e.set j v) :=
  ⟨h.keeps.set _ _, (Dev.reg_set_other _ _ apart).trans h.checked⟩

theorem Dev.Checks.raise (h : d.Checks e) (code kind subject reaction detail : Nat) : d.Checks (e.raise code kind subject reaction detail) :=
  ⟨h.keeps.step (Dev.keeps_raise _ _ _ _ _ _), (Dev.reg_raise _ _ _ _ _ _ (by decide)).trans h.checked⟩

theorem Dev.Checks.laterChain (h : d.Checks e) (c code r : Nat) : d.Checks (e.laterChain c code r) := ⟨h.keeps.step (e.keeps_geom _), h.checked⟩

theorem Dev.Checks.reacts (h : d.Checks e) (g : e.AxesReact f) : d.Checks f :=
  ⟨h.keeps.step g.keeps, (g.regs _ (geometry_not_reaction (by decide) (by decide))).trans h.checked⟩

theorem Dev.Checks.unlatchChain (h : d.Checks e) (c code : Nat) : d.Checks (e.unlatchChain c code) := h.reacts (Dev.unlatchChain_reacts e c code)

end

section
variable {s : State} (live : s.Live) (works : s.found.standsBy = false)
include live works

theorem channelBCrossCheck_idle (no : s.found.clk.tick ≠ 3 ∨ s.found.sep.evalB = some s.found.clk.cycle64) :
    Does .channelBCrossCheck s fun b a => b.Keeps a [] :=
  geometry_idle live works (fun d => d.channelBCheck) (if_pos no)

theorem channelBCrossCheck_checks (tick : s.found.clk.tick = 3) (first : s.found.sep.evalB ≠ some s.found.clk.cycle64) :
    Does .channelBCrossCheck s fun b a => a.sep.evalB = some b.clk.cycle64 ∧ a.nat Reg.R3202_PAIRS_CHECKED = b.checkedPairs.length := by
  obtain ⟨e, result⟩ : ∃ e, s.found.channelBCheck = e := ⟨_, rfl⟩
  have made := result
  unfold Dev.channelBCheck at made
  rw [if_neg (by rintro (no | no); exacts [no tick, first no])] at made
  extract_lets now o ps at made
  have keepsO : s.found.Keeps o [.ph] := s.found.keeps_at _
  have small : ps.length ≤ 32 := List.length_take_le _ _
  have same : ps = s.found.checkedPairs := rfl
  clear_value o ps
  generalize taken : o.takeFresh = pair at made
  obtain ⟨f, x⟩ := pair
  dsimp -zeta only at made
  extract_lets y z judged bad w badC v u at made
  have keepsX : o.Keeps x [.fresh] := by
    have eqX : o.takeFresh.2 = x := by rw [taken]
    rw [← eqX]
    exact o.keeps_takeFresh
  have keepsY : x.Keeps y [.fresh] := by
    intro p hp
    cases p with
    | fresh => simp at hp
    | _ => rfl
  clear_value y
  have keepsZ : y.Keeps z [.od] := y.keeps_set _ _
  have shown : z.nat Reg.R3202_PAIRS_CHECKED = ps.length := Dev.nat_set_same _ (t := .u8) rfl rfl (Nat.lt_of_le_of_lt small (by decide))
  clear_value judged bad badC z
  have checksW : z.Checks w := each_holds (fun f : Dev => z.Checks f) _ _ (fun p _ f hf => by
    exact ((((Dev.Checks.set (hf.raise _ _ _ _ _) _).set _).set _).set _).set _) (.refl z)
  clear_value w
  have checksV : z.Checks v := iterate_holds (fun f : Dev => z.Checks f) 16 _ (fun c _ f hf => by
    split
    · exact hf.laterChain _ _ _
    · exact (hf.unlatchChain _ _).unlatchChain _ _) checksW
  clear_value v
  have checksU : z.Checks u := by
    show z.Checks (if _ then _ else _)
    split
    · exact checksV
    · refine each_holds (fun f : Dev => z.Checks f) _ _ (fun c _ f hf => ?_) checksV
      split
      · exact (hf.raise _ _ _ _ _).laterChain _ _ _
      · exact hf.unlatchChain _ _
  clear_value u
  have keepsE : u.Keeps e [.sep] := by
    rw [← made]
    intro p hp
    cases p with
    | sep => simp at hp
    | _ => rfl
  have keeps : s.found.Keeps e (.ph :: .sep :: checkParts) :=
    (((((keepsO.mono (by decide)).step keepsX).step keepsY).step keepsZ).step checksU.keeps).step keepsE
  have evaluated : e.sep.evalB = some s.found.clk.cycle64 := by rw [← made]
  have count : e.nat Reg.R3202_PAIRS_CHECKED = s.found.checkedPairs.length := by
    rw [Dev.nat_congr (keepsE .od (by decide)), Dev.nat, checksU.checked, ← Dev.nat, shown, same]
  exact (geometry_leaves live works (fun d => d.channelBCheck) result keeps).does fun _ _ => ⟨evaluated, count⟩

/-! ## Channel B late -/

theorem ssmBLate_idle (no : s.found.clk.tick ≠ 3 ∨ s.found.ssmChains = [] ∨ s.found.sep.evalB = some s.found.clk.cycle64) :
    Does .ssmBLate s fun b a => b.Keeps a [] := by
  refine geometry_idle live works (fun d => d.ssmBLate) (if_pos ?_)
  rcases no with tick | free | done
  · exact .inl tick
  · exact .inr (.inr (by rw [free]; rfl))
  · exact .inr (.inl done)

omit live works in
/-- Every member of the chains of a list latches the stop. -/
theorem Dev.latchChains_latch (code r : Nat) (cs : List Nat) (d : Dev) {c n : Nat} (hc : c ∈ cs) (hn : n ∈ d.members c) :
    (each cs (fun c d => d.latchChain c code r) d).Latched n ⟨code, 8, r⟩ := by
  have keeps : ∀ k (f : Dev), f.dom = d.dom → (f.latchChain k code r).dom = d.dom := fun k f hf =>
    ((Dev.latchChain_reacts f k code r).keeps .dom (by decide)).trans hf
  refine each_reaches (fun f : Dev => f.dom = d.dom) (fun f : Dev => f.Latched n ⟨code, 8, r⟩) hc (fun k _ f hf => keeps k f hf) (fun k _ f _ latched => ?_)
    (fun f hf => ?_) rfl
  · exact each_holds (fun f : Dev => f.Latched n ⟨code, 8, r⟩) _ _ (fun m _ g hg => Dev.Latched.latchStop hg code 8 r) latched
  · have mem : n ∈ f.members c := by rw [Dev.members_congr hf]; exact hn
    exact each_reaches (fun _ : Dev => True) (fun f : Dev => f.Latched n ⟨code, 8, r⟩) (f := fun n d => Dev.latchStop d n code 8 r) mem (fun _ _ _ _ => trivial)
      (fun m _ g _ hg => Dev.Latched.latchStop hg code 8 r) (fun g _ => g.latched_latchStop n code 8 r) trivial

theorem ssmBLate_latches (tick : s.found.clk.tick = 3) (some_ : s.found.ssmChains ≠ []) (first : s.found.sep.evalB ≠ some s.found.clk.cycle64) :
    Does .ssmBLate s fun b a => a.sep.evalB = some b.clk.cycle64 ∧ a.nat Reg.R3202_LATE_COUNT = min (b.nat Reg.R3202_LATE_COUNT + 1) 0xFFFFFFFF ∧
      ∀ c ∈ b.ssmChains, ∀ n ∈ b.members c, ∃ l ∈ (a.axSafe n).latches, l.code = Code.SSM_B_LATE ∧ l.react = Reaction.ss1 := by
  obtain ⟨x, hx⟩ : ∃ x, x = (s.found.at 28000).raise Code.SSM_B_LATE Kind.device 0 Reaction.ss1 := ⟨_, rfl⟩
  obtain ⟨y, hy⟩ : ∃ y, y = x.count Reg.R3202_LATE_COUNT := ⟨_, rfl⟩
  obtain ⟨z, hz⟩ : ∃ z, z = each y.ssmChains (fun c d => d.latchChain c Code.SSM_B_LATE Reaction.ss1) y := ⟨_, rfl⟩
  obtain ⟨e, made⟩ : ∃ e, e = { z with sep := { z.sep with evalB := some s.found.clk.cycle64 } } := ⟨_, rfl⟩
  have result : s.found.ssmBLate = e := by
    rw [made, hz, hy, hx]
    refine if_neg ?_
    rintro (no | no | no)
    · exact no tick
    · exact first no
    · exact some_ (List.isEmpty_iff.1 no)
  have keepsO : s.found.Keeps (s.found.at 28000) [.ph] := s.found.keeps_at _
  have keepsX : (s.found.at 28000).Keeps x [.od, .log, .event] := by rw [hx]; exact Dev.keeps_raise _ _ _ _ _ _
  have regsX : ∀ k, k ∉ logRegs → x.reg k = s.found.reg k := fun k log => by
    rw [hx]
    exact Dev.reg_raise _ _ _ _ _ _ log
  have keepsY : x.Keeps y [.od] := by rw [hy]; exact Dev.keeps_set _ _ _
  have regsY : ∀ k, k ∉ logRegs → k ≠ Reg.R3202_LATE_COUNT → y.reg k = s.found.reg k := fun k log other => by
    rw [hy]
    exact (Dev.reg_set_other _ _ other).trans (regsX k log)
  have reacts : y.AxesReact z := by rw [hz]; exact Dev.Reacts.each _ _ _ fun c _ f hf => Dev.Reacts.trans hf (Dev.latchChain_reacts f c _ _)
  have keepsE : z.Keeps e [.sep] := by
    rw [made]
    intro p hp
    cases p with
    | sep => simp at hp
    | _ => rfl
  have keeps : s.found.Keeps e (.ph :: .sep :: checkParts) :=
    ((((keepsO.mono (by decide)).step keepsX).step keepsY).step reacts.keeps).step keepsE
  have count : e.nat Reg.R3202_LATE_COUNT = min (s.found.nat Reg.R3202_LATE_COUNT + 1) 0xFFFFFFFF := by
    rw [Dev.nat_congr (keepsE .od (by decide)), Dev.nat, reacts.regs _ (geometry_not_reaction (by decide) (by decide)), ← Dev.nat, hy,
      Dev.nat_count_same _ rfl, Dev.nat, regsX _ (by decide), ← Dev.nat]
  have chains : y.ssmChains = s.found.ssmChains := List.filter_congr fun c hc => by
    have own : act (Reg.CH0_CHAIN_EN c) ∉ logRegs ∧ act (Reg.CH0_CHAIN_EN c) ≠ Reg.R3202_LATE_COUNT ∧ act (Reg.R3210_SSM_EN c) ∉ logRegs ∧
        act (Reg.R3210_SSM_EN c) ≠ Reg.R3202_LATE_COUNT := by
      have low := List.mem_range.1 hc
      revert c
      decide +kernel
    rw [Dev.ssm, Dev.ssm, Dev.chainEn, Dev.chainEn, Dev.flag, Dev.flag, Dev.flag, Dev.flag, regsY _ own.1 own.2.1, regsY _ own.2.2.1 own.2.2.2]
  have dom : y.dom = s.found.dom := (keepsY .dom (by decide)).trans ((keepsX .dom (by decide)).trans (keepsO .dom (by decide)))
  have latched : ∀ c ∈ s.found.ssmChains, ∀ n ∈ s.found.members c, ∃ l ∈ (e.axSafe n).latches, l.code = Code.SSM_B_LATE ∧ l.react = Reaction.ss1 := by
    intro c hc n hn
    have own : z.Latched n ⟨Code.SSM_B_LATE, 8, Reaction.ss1⟩ := by
      rw [hz]
      exact y.latchChains_latch _ _ _ (by rw [chains]; exact hc) (by rw [Dev.members_congr dom]; exact hn)
    have same : e.axSafe n = z.axSafe n := by rw [made]; rfl
    exact ⟨_, by rw [same]; exact own, rfl, rfl⟩
  have evaluated : e.sep.evalB = some s.found.clk.cycle64 := by rw [made]
  exact (geometry_leaves live works (fun d => d.ssmBLate) result keeps).does fun _ _ => ⟨evaluated, count, latched⟩

/-! ## The overrides and stops of T4 -/

theorem speedOverrideSwitch_idle (no : s.found.clk.tick ≠ 4) : Does .speedOverrideSwitch s fun b a => b.Keeps a [] :=
  geometry_idle live works (fun d => d.speedOverrideSwitch) (if_pos no)

omit live works in
theorem Dev.chain_iterate_modChain (g : Nat → Chain → Chain) (d : Dev) (n c : Nat) :
    (iterate n (fun c d => Dev.modChain d c (g c)) d).chain c = if c < n then g c (d.chain c) else d.chain c := by
  induction n with
  | zero => rfl
  | succ n ih =>
    rw [iterate_succ]
    by_cases own : c = n
    · subst own
      rw [Dev.chain_modChain, ih, if_neg (Nat.lt_irrefl c), if_pos (Nat.lt_succ_self c)]
    · rw [Dev.chain_modChain_other _ _ own, ih]
      have same : c < n ↔ c < n + 1 := by omega
      simp only [same]

/-- What a chain takes at T4. -/
def Chain.switched (zero : Bool) (x : Chain) : Chain := { x with ovr := if zero then 0 else x.ovrNext, hold := x.holdNext }

/-- The device once the overrides have switched, with these reactions still to come. -/
structure Dev.Switched (d e : Dev) : Prop where
  chains : ∀ c < 16, (e.chain c).ovr = (if c ∈ d.zeroChains then 0 else (d.chain c).ovrNext) ∧ (e.chain c).hold = (d.chain c).holdNext
  zero : ∀ c < 16, c ∈ d.zeroChains → e.reg (Reg.CH6_SEP_OVR c) = 0
  geom : e.geom.zeroOvr = [] ∧ e.geom.stopsT4 = []
  keeps : d.Keeps e [.od, .geom, .chains]
  kinds : ∀ c < 16, e.stopReaction c = d.stopReaction c

/-- T4 without its stops and reactions. -/
def Dev.switchOverrides (d : Dev) : Dev :=
  each ((List.range 16).filter d.zeroChains.contains) (fun c d => (d.set (Reg.CH6_SEP_OVR c) 0).set (Reg.CH9_OK_CYCLES c) 0)
    (iterate 16 (fun c e => Dev.modChain e c (Chain.switched (d.zeroChains.contains c))) { d with geom := { d.geom with atT4 := [], stopsT4 := [], zeroOvr := [] } })

omit live works in
theorem Dev.switchOverrides_switches (d : Dev) {e : Dev} (made : e = d.switchOverrides) : d.Switched e := by
  obtain ⟨x, hx⟩ : ∃ x, x = { d with geom := { d.geom with atT4 := [], stopsT4 := [], zeroOvr := [] } } := ⟨_, rfl⟩
  obtain ⟨y, hy⟩ : ∃ y, y = iterate 16 (fun c e => Dev.modChain e c (Chain.switched (d.zeroChains.contains c))) x := ⟨_, rfl⟩
  have result : e = each ((List.range 16).filter d.zeroChains.contains) (fun c d => (d.set (Reg.CH6_SEP_OVR c) 0).set (Reg.CH9_OK_CYCLES c) 0) y := by
    rw [made, hy, hx]
    rfl
  have keepsX : d.Keeps x [.geom] := by rw [hx]; exact d.keeps_geom _
  have keepsY : x.Keeps y [.chains] := by rw [hy]; exact Dev.Keeps.iterate _ _ (fun c f => f.keeps_modChain c _) x
  have regs : y.Keeps e [.od] ∧ ∀ k, (∀ c < 16, k ≠ Reg.CH6_SEP_OVR c ∧ k ≠ Reg.CH9_OK_CYCLES c) → e.reg k = y.reg k := by
    rw [result]
    refine each_holds (fun f : Dev => y.Keeps f [.od] ∧ ∀ k, (∀ c < 16, k ≠ Reg.CH6_SEP_OVR c ∧ k ≠ Reg.CH9_OK_CYCLES c) → f.reg k = y.reg k) _ _
      (fun c hc f hf => ⟨(hf.1.set _ _).set _ _, fun k out => ?_⟩) ⟨Dev.Keeps.refl _ _, fun _ _ => rfl⟩
    obtain ⟨six, nine⟩ := out c (List.mem_range.1 (List.mem_filter.1 hc).1)
    rw [Dev.reg_set_other _ _ nine, Dev.reg_set_other _ _ six, hf.2 k out]
  obtain ⟨keepsE, other⟩ := regs
  have geom : e.geom = x.geom := (keepsE .geom (by decide)).trans (keepsY .geom (by decide))
  refine ⟨fun c hc => ?_, fun c hc zero => ?_, ?_, ((keepsX.mono (by decide)).step keepsY).step keepsE, fun c hc => ?_⟩
  · have chain : e.chain c = Chain.switched (d.zeroChains.contains c) (d.chain c) := by
      rw [keepsE.chain c (by decide), hy, Dev.chain_iterate_modChain (fun c => Chain.switched (d.zeroChains.contains c)), if_pos hc, keepsX.chain c (by decide)]
    rw [chain]
    simp [Chain.switched]
  · have mem : c ∈ (List.range 16).filter d.zeroChains.contains := List.mem_filter.2 ⟨List.mem_range.2 hc, List.contains_iff_mem.2 zero⟩
    have nine : ∀ k, Reg.CH6_SEP_OVR c ≠ Reg.CH9_OK_CYCLES k := fun k => by simp only [Reg.CH6_SEP_OVR, Reg.CH9_OK_CYCLES, Reg.key]; omega
    have own : ∀ f : Dev, ((f.set (Reg.CH6_SEP_OVR c) 0).set (Reg.CH9_OK_CYCLES c) 0).reg (Reg.CH6_SEP_OVR c) = 0 := fun f => by
      rw [Dev.reg_set_other _ _ (nine c), Dev.reg_set_same, OdType.wrap_zero]
    rw [result]
    refine each_reaches (fun _ : Dev => True) (fun f : Dev => f.reg (Reg.CH6_SEP_OVR c) = 0) mem (fun _ _ _ _ => trivial) (fun k _ f _ zero => ?_)
      (fun f _ => own f) trivial
    by_cases same : c = k
    · subst same
      exact own f
    · rw [Dev.reg_set_other _ _ (nine k), Dev.reg_set_other _ _ (by simp only [Reg.CH6_SEP_OVR, Reg.key]; omega), zero]
  · rw [geom, hx]
    exact ⟨rfl, rfl⟩
  · have kind : e.nat (act (Reg.R3210_STOP_KIND c)) = d.nat (act (Reg.R3210_STOP_KIND c)) := by
      have apart : ∀ k < 16, act (Reg.R3210_STOP_KIND c) ≠ Reg.CH6_SEP_OVR k ∧ act (Reg.R3210_STOP_KIND c) ≠ Reg.CH9_OK_CYCLES k := fun k hk => by
        simp only [act, Reg.R3210_STOP_KIND, Reg.CH6_SEP_OVR, Reg.CH9_OK_CYCLES, Reg.key]
        omega
      rw [Dev.nat, Dev.nat, other _ apart, Dev.reg_congr (keepsY .od (by decide)), Dev.reg_congr (keepsX .od (by decide))]
    rw [Dev.stopReaction, Dev.stopReaction, kind]

omit live works in
theorem Dev.speedOverrideSwitch_runs {d : Dev} (tick : d.clk.tick = 4) : d.speedOverrideSwitch =
    each d.geom.atT4 (fun (n, code, r) d => d.chainReaction n code r) (each d.geom.stopsT4 (fun (c, code) d => d.ssmStop c code) d.switchOverrides) := by
  unfold Dev.speedOverrideSwitch
  rw [if_neg fun no => no tick]
  rfl

theorem speedOverrideSwitch_switches (tick : s.found.clk.tick = 4) (noStop : s.found.geom.stopsT4 = []) (noReact : s.found.geom.atT4 = []) :
    Does .speedOverrideSwitch s fun b a =>
      (∀ c < 16, (a.chain c).ovr = (if c ∈ b.zeroChains then 0 else (b.chain c).ovrNext) ∧ (a.chain c).hold = (b.chain c).holdNext ∧
        (c ∈ b.zeroChains → a.reg (Reg.CH6_SEP_OVR c) = 0)) ∧ a.geom.zeroOvr = [] ∧ b.Keeps a [.od, .geom, .chains] := by
  obtain ⟨e, made⟩ : ∃ e, e = s.found.switchOverrides := ⟨_, rfl⟩
  have result : s.found.speedOverrideSwitch = e := by
    rw [Dev.speedOverrideSwitch_runs tick, noStop, noReact, made]
    rfl
  have switched := Dev.switchOverrides_switches s.found made
  exact (geometry_leaves live works (fun d => d.speedOverrideSwitch) result switched.keeps).quietly (switched.keeps .event (by decide))
    ⟨fun c hc => ⟨(switched.chains c hc).1, (switched.chains c hc).2, switched.zero c hc⟩, switched.geom.1, switched.keeps⟩

omit live works in
theorem stopState_entry {c : Nat} (hc : c < 16) : odType (Reg.CH9_STOP_STATE c) = .u8 ∧ Reg.CH9_STOP_STATE c ∉ logRegs := by
  revert c
  decide +kernel

omit live works in
/-- The stop of a chain under SSM. -/
theorem Dev.ssmStop_stops (d : Dev) {c : Nat} (hc : c < 16) (code : Nat) {e : Dev} (made : e = d.ssmStop c code) :
    e.nat (Reg.CH9_STOP_STATE c) = (if d.stopReaction c = Reaction.ss1 then 2 else 1) ∧ (e.chain c).Halted ∧ d.Keeps e reactionParts := by
  obtain ⟨x, hx⟩ : ∃ x, x = d.discardQueue c := ⟨_, rfl⟩
  obtain ⟨y, hy⟩ : ∃ y, y = x.set (Reg.CH9_STOP_STATE c) ((if d.stopReaction c = Reaction.ss1 then 2 else 1 : Nat) : Int) := ⟨_, rfl⟩
  have result : e = y.reactChain c code (d.stopReaction c) := by
    rw [made, hy, hx]
    rfl
  have haltedX : (x.chain c).Halted := by
    rw [hx]
    unfold Dev.discardQueue
    have own : ∀ (f : Dev) (k : Nat) (v : Int), (f.set k v).chain c = f.chain c := fun _ _ _ => rfl
    rw [own, Dev.chain_modChain]
    exact ⟨rfl, rfl, rfl⟩
  have keepsX : d.Keeps x [.od, .chains] := by
    rw [hx]
    exact ((d.keeps_modChain c _).mono (by decide)).step (Dev.keeps_set _ _ _)
  obtain ⟨type, log⟩ := stopState_entry hc
  have shown : y.nat (Reg.CH9_STOP_STATE c) = if d.stopReaction c = Reaction.ss1 then 2 else 1 := by
    rw [hy]
    exact x.nat_set_same type rfl (by split <;> decide)
  have keepsY : x.Keeps y [.od] := by rw [hy]; exact Dev.keeps_set _ _ _
  have haltedY : (y.chain c).Halted := by
    rw [keepsY.chain c (by decide)]
    exact haltedX
  have reacts : y.AxesReact e := by rw [result]; exact Dev.reactChain_reacts _ _ _ _
  have loops : y.LoopsStand e := by rw [result]; exact (Dev.LoopsStand.refl y).reactChain _ _ _
  have place : ¬ReactionReg (· < 256) (· < 16) (Reg.CH9_STOP_STATE c) := by
    refine geometry_not_reaction ?_ log
    simp only [Reg.CH9_STOP_STATE, Reg.key]
    omega
  refine ⟨?_, loops.halted c haltedY, ((keepsX.mono (by decide)).step keepsY).andThen reacts.keeps⟩
  rw [Dev.nat, reacts.regs _ place, ← Dev.nat, shown]

theorem speedOverrideSwitch_stops {c code : Nat} (hc : c < 16) (tick : s.found.clk.tick = 4) (stop : s.found.geom.stopsT4 = [(c, code)])
    (noReact : s.found.geom.atT4 = []) : Does .speedOverrideSwitch s fun b a =>
      a.nat (Reg.CH9_STOP_STATE c) = (if b.stopReaction c = Reaction.ss1 then 2 else 1) ∧ (a.chain c).queue = [] ∧
      (a.chain c).cur = none ∧ (a.chain c).lambda = 0 ∧ a.geom.stopsT4 = [] := by
  obtain ⟨x, hx⟩ : ∃ x, x = s.found.switchOverrides := ⟨_, rfl⟩
  obtain ⟨e, made⟩ : ∃ e, e = x.ssmStop c code := ⟨_, rfl⟩
  have result : s.found.speedOverrideSwitch = e := by
    rw [Dev.speedOverrideSwitch_runs tick, stop, noReact, made, hx]
    rfl
  have switched := Dev.switchOverrides_switches s.found hx
  obtain ⟨state, ⟨queue, cur, lambda⟩, keeps⟩ := x.ssmStop_stops hc code made
  have none_ : e.geom.stopsT4 = [] := by rw [keeps .geom (by decide), switched.geom.2]
  rw [switched.kinds c hc] at state
  have parts : s.found.Keeps e (.geom :: reactionParts) := (switched.keeps.mono (by decide)).step keeps
  exact (geometry_leaves live works (fun d => d.speedOverrideSwitch) result parts).does fun _ _ => ⟨state, queue, cur, lambda, none_⟩

end

end Sys2Proof.Machine
end

section
/-! # Tracks at T1 (R168 to R170) -/

namespace Sys2Proof.Machine

section
variable {d e f : Dev}

theorem Dev.keeps_sep (d : Dev) (x : Sep) : d.Keeps { d with sep := x } [.sep] := by
  intro p hp
  cases p with
  | sep => simp at hp
  | _ => rfl

/-- The parts that the slots of a source concern. -/
abbrev slotParts : List Part := [.od, .dom, .gen, .log, .event, .sep]

/-- Slots have been filled: the sources stand, and so do the entries. -/
structure Dev.Slots (d e : Dev) : Prop where
  keeps : d.Keeps e slotParts
  regs : ∀ k, k ∉ logRegs → e.reg k = d.reg k
  srcs : e.sep.srcs = d.sep.srcs

theorem Dev.Slots.refl (d : Dev) : d.Slots d := ⟨Dev.Keeps.refl _ _, fun _ _ => rfl, rfl⟩

theorem Dev.Slots.putSlot (h : d.Slots e) (j : Nat) (r : Bytes) : d.Slots (e.putSlot j r) := by
  have step := e.keeps_setBytes Reg.R3106_INTRUDERS (patch (e.bytes Reg.R3106_INTRUDERS) (44 * j) r)
  unfold Dev.putSlot
  exact ⟨h.keeps.step step, fun k log => (Dev.reg_congr (step .od (by decide)) k).trans (h.regs k log), by rw [step .sep (by decide), h.srcs]⟩

theorem Dev.Slots.setSlot (h : d.Slots e) (j : Nat) (x : Slot) : d.Slots (e.setSlot j x) := ⟨h.keeps.step (e.keeps_sep _), h.regs, h.srcs⟩

theorem Dev.Slots.raise (h : d.Slots e) (code kind subject reaction detail : Nat) : d.Slots (e.raise code kind subject reaction detail) := by
  have step := e.keeps_raise code kind subject reaction detail
  exact ⟨h.keeps.step step, fun k log => (Dev.reg_raise _ _ _ _ _ _ log).trans (h.regs k log), by rw [step .sep (by decide), h.srcs]⟩

theorem Dev.Slots.replaceSlot (h : d.Slots e) (s j : Nat) (last : Option Bytes) (t : Nat) (track : Bytes) : d.Slots (e.replaceSlot s j last t track) := by
  unfold Dev.replaceSlot
  exact h.putSlot j _

theorem Dev.Slots.when (h : d.Slots e) (b : Bool) (g : Dev → Dev) (then_ : d.Slots (g e)) : d.Slots (e.when b g) := by
  unfold Dev.when
  split
  · exact then_
  · exact h

theorem Dev.Slots.copySlot (h : d.Slots e) (s j : Nat) (r : Option Bytes) (ends : Bool) : d.Slots (e.copySlot s j r ends) := by
  unfold Dev.copySlot
  split
  · exact (h.putSlot _ _).setSlot _ _
  · split
    · exact (h.putSlot _ _).setSlot _ _
    split
    · extract_lets x since y t
      have slots : d.Slots y := h.when _ _ (h.raise _ _ _ _ _)
      clear_value y
      exact (slots.replaceSlot _ _ _ _ _).setSlot _ _
    · exact (h.putSlot _ _).setSlot _ _

theorem Dev.Slots.each {α : Type} (xs : List α) (g : α → Dev → Dev) (h : d.Slots e) (step : ∀ x ∈ xs, ∀ f, d.Slots f → d.Slots (g x f)) :
    d.Slots (Machine.each xs g e) := each_holds (fun f : Dev => d.Slots f) xs g step h

/-! ## The step of one source -/

/-- What a step of the sources reads stands: all but their states. -/
structure Dev.Tracks (d e : Dev) : Prop where
  keeps : d.Keeps e slotParts
  regs : ∀ k, k ∉ logRegs → k % 256 ≠ 0x10 → e.reg k = d.reg k
  payload : ∀ x, (e.src x).payload = (d.src x).payload ∧ (e.src x).rx = (d.src x).rx

theorem Dev.Tracks.refl (d : Dev) : d.Tracks d := ⟨Dev.Keeps.refl _ _, fun _ _ _ => rfl, fun _ => ⟨rfl, rfl⟩⟩

theorem Dev.Tracks.trans (h : d.Tracks e) (g : e.Tracks f) : d.Tracks f :=
  ⟨h.keeps.andThen g.keeps, fun k log own => (g.regs k log own).trans (h.regs k log own),
    fun x => ⟨(g.payload x).1.trans (h.payload x).1, (g.payload x).2.trans (h.payload x).2⟩⟩

theorem srcRegs_log (x : Nat) (hx : x < 8) : act (Reg.R3220_CONN x) ∉ logRegs ∧ act (Reg.R3220_TIMEOUT_US x) ∉ logRegs ∧
    Reg.R3220_STATE x ∉ logRegs ∧ Reg.R3220_TIMEOUTS x ∉ logRegs ∧ odType (Reg.R3220_STATE x) = .u8 ∧ odType (Reg.R3220_TIMEOUTS x) = .u32 := by
  revert x
  decide +kernel

theorem Dev.Tracks.source (h : d.Tracks e) {x : Nat} (hx : x < 8) : e.srcOn x = d.srcOn x ∧ e.srcTimedOut x = d.srcTimedOut x := by
  obtain ⟨conn, time, -⟩ := srcRegs_log x hx
  have on : e.reg (act (Reg.R3220_CONN x)) = d.reg (act (Reg.R3220_CONN x)) :=
    h.regs _ conn (by simp only [act, Reg.R3220_CONN, Reg.key]; omega)
  have limit : e.reg (act (Reg.R3220_TIMEOUT_US x)) = d.reg (act (Reg.R3220_TIMEOUT_US x)) :=
    h.regs _ time (by simp only [act, Reg.R3220_TIMEOUT_US, Reg.key]; omega)
  refine ⟨by rw [Dev.srcOn, Dev.srcOn, Dev.nat, Dev.nat, on], ?_⟩
  rw [Dev.srcTimedOut, Dev.srcTimedOut, (h.payload x).1, (h.payload x).2, Dev.nat, Dev.nat, limit, h.keeps .clk (by decide)]

/-- One source at T1. -/
def Dev.copySource (s : Nat) (d : Dev) : Dev :=
  let x := d.src s
  if !d.srcOn s then d.set (Reg.R3220_STATE s) 0
  else match d.srcTimedOut s, x.payload with
    | false, some b =>
      let n := fieldBE b 0 1
      let d := each (d.srcSlots s).zipIdx (fun (j, i) d =>
        d.copySlot s j (if i < n then some (trackImage (slice b (4 + 44 * i) 44)) else none) x.since.isSome) d
      (d.setSrc s { x with fresh := false, since := none }).set (Reg.R3220_STATE s) 1
    | _, _ =>
      match x.since with
      | some _ => each (d.srcSlots s) (fun j d =>
          match (d.slot j).since with
          | some t => d.replaceSlot s j (d.slot j).last t (slice (d.bytes Reg.R3106_INTRUDERS) (44 * j) 2)
          | none => d) d
      | none => d

/-- What the step of one source leaves. -/
structure Dev.Copied (d : Dev) (s : Nat) (e : Dev) : Prop where
  tracks : d.Tracks e
  other : ∀ x < 8, x ≠ s → e.reg (Reg.R3220_STATE x) = d.reg (Reg.R3220_STATE x)
  src : ∀ x, x ≠ s → e.src x = d.src x
  off : d.srcOn s = false → e.reg (Reg.R3220_STATE s) = 0
  heard : (d.src s).payload.isSome = true → d.srcTimedOut s = false → d.srcOn s = true →
    e.reg (Reg.R3220_STATE s) = 1 ∧ (e.src s).fresh = false ∧ (e.src s).since = none

theorem Dev.Slots.trans (h : d.Slots e) (g : e.Slots f) : d.Slots f :=
  ⟨h.keeps.andThen g.keeps, fun k log => (g.regs k log).trans (h.regs k log), g.srcs.trans h.srcs⟩

theorem Dev.Slots.source (h : d.Slots e) (x : Nat) : e.src x = d.src x := by rw [Dev.src, Dev.src, h.srcs]

theorem Dev.Slots.tracks (h : d.Slots e) : d.Tracks e :=
  ⟨h.keeps, fun k log _ => h.regs k log, fun x => by rw [h.source x]; exact ⟨rfl, rfl⟩⟩

theorem Dev.src_setSrc (d : Dev) (s : Nat) (x : TrackSrc) : (d.setSrc s x).src s = x := mget_mset_same _ _ _ _

theorem Dev.src_setSrc_other (d : Dev) {s k : Nat} (x : TrackSrc) (h : k ≠ s) : (d.setSrc s x).src k = d.src k := mget_mset_other _ _ _ _ h

theorem Dev.Tracks.setState (h : d.Tracks e) (s : Nat) (v : Int) : d.Tracks (e.set (Reg.R3220_STATE s) v) :=
  ⟨h.keeps.set _ _, fun k log own => (Dev.reg_set_other _ _ (by rintro rfl; exact own (by simp only [Reg.R3220_STATE, Reg.key]; omega))).trans (h.regs k log own), h.payload⟩

theorem Dev.Tracks.setSrc (h : d.Tracks e) (s : Nat) {x : TrackSrc} (same : x.payload = (e.src s).payload ∧ x.rx = (e.src s).rx) : d.Tracks (e.setSrc s x) := by
  refine ⟨h.keeps.step (e.keeps_sep _), h.regs, fun k => ?_⟩
  by_cases own : k = s
  · subst own
    rw [Dev.src_setSrc, same.1, same.2]
    exact h.payload k
  · rw [Dev.src_setSrc_other _ _ own]
    exact h.payload k

theorem state_apart {x s : Nat} (h : x ≠ s) : Reg.R3220_STATE x ≠ Reg.R3220_STATE s := by
  simp only [Reg.R3220_STATE, Reg.key]
  omega

/-- A source that has not been heard in time, or one switched off. -/
theorem Dev.Slots.copied {s : Nat} (h : d.Slots e) (on : d.srcOn s = true) (late : ¬((d.src s).payload.isSome = true ∧ d.srcTimedOut s = false)) :
    d.Copied s e :=
  ⟨h.tracks, fun x hx _ => h.regs _ (srcRegs_log x hx).2.2.1, fun x _ => h.source x, fun off => absurd on (by rw [off]; decide),
    fun some_ time _ => absurd ⟨some_, time⟩ late⟩

theorem Dev.copySource_copies (d : Dev) {s : Nat} (hs : s < 8) : d.Copied s (d.copySource s) := by
  have low : ∀ x < 8, Reg.R3220_STATE x ∉ logRegs := fun x hx => (srcRegs_log x hx).2.2.1
  unfold Dev.copySource
  extract_lets x
  split
  next off =>
    have no : d.srcOn s = false := by
      cases h : d.srcOn s with
      | true => rw [h] at off; exact absurd off (by decide)
      | false => rfl
    exact ⟨(Dev.Tracks.refl d).setState s 0, fun k _ far => Dev.reg_set_other _ _ (state_apart far), fun _ _ => rfl,
      fun _ => by rw [Dev.reg_set_same, OdType.wrap_zero], fun _ _ on => absurd on (by rw [no]; decide)⟩
  next on' =>
    have on : d.srcOn s = true := by
      cases h : d.srcOn s with
      | true => rfl
      | false => rw [h] at on'; exact absurd rfl on'
    split
    next b time some_ =>
      extract_lets n y
      have slots : d.Slots y := .each _ _ (.refl d) fun p _ f hf => hf.copySlot _ _ _ _
      clear_value y
      have same : (d.src s).payload = (y.src s).payload ∧ (d.src s).rx = (y.src s).rx := by rw [slots.source s]; exact ⟨rfl, rfl⟩
      have tracks : d.Tracks (y.setSrc s { x with fresh := false, since := none }) := slots.tracks.setSrc s same
      refine ⟨tracks.setState s 1, fun k hk far => ?_, fun k far => ?_, fun off => absurd on (by rw [off]; decide), fun _ _ _ => ⟨?_, ?_⟩⟩
      · rw [Dev.reg_set_other _ _ (state_apart far)]
        exact slots.regs _ (low k hk)
      · exact (Dev.src_setSrc_other _ _ far).trans (slots.source k)
      · rw [Dev.reg_set_same, (srcRegs_log s hs).2.2.2.2.1]
        rfl
      · have own : ((y.setSrc s { x with fresh := false, since := none }).set (Reg.R3220_STATE s) 1).src s = { x with fresh := false, since := none } :=
          Dev.src_setSrc _ _ _
        rw [own]
        exact ⟨rfl, rfl⟩
    next late =>
      have not_ : ¬((d.src s).payload.isSome = true ∧ d.srcTimedOut s = false) := fun ⟨some_, time⟩ => by
        obtain ⟨b, hb⟩ := Option.isSome_iff_exists.1 some_
        exact late b time hb
      split
      · refine Dev.Slots.copied (.each _ _ (.refl d) fun j _ f hf => ?_) on not_
        split
        · exact hf.replaceSlot _ _ _ _ _
        · exact hf
      · exact (Dev.Slots.refl d).copied on not_

end

section
variable {s : State} (live : s.Live)
include live

theorem trackCopy_idle (no : s.found.clk.tick ≠ 1) : Does .trackCopy s fun b a => b.Keeps a [] := by
  exact Leaves.unchanged (.cell (fun d => d.trackCopy) live.passes (if_pos no) (Dev.Keeps.refl _ []))

theorem trackCopy_copies (tick : s.found.clk.tick = 1) : Does .trackCopy s fun b a => ∀ x < 8,
    (b.srcOn x = false → a.reg (Reg.R3220_STATE x) = 0) ∧
    ((b.src x).payload.isSome = true → b.srcTimedOut x = false → b.srcOn x = true →
      a.reg (Reg.R3220_STATE x) = 1 ∧ (a.src x).fresh = false ∧ (a.src x).since = none) := by
  obtain ⟨e, made⟩ : ∃ e, e = iterate 8 Dev.copySource s.found := ⟨_, rfl⟩
  have result : s.found.trackCopy = e := by
    rw [made]
    unfold Dev.trackCopy
    rw [if_neg fun no => no tick]
    rfl
  have tracks : ∀ k < 8, ∀ f, s.found.Tracks f → s.found.Tracks (f.copySource k) := fun k hk f hf => hf.trans (f.copySource_copies hk).tracks
  have all : s.found.Tracks e := by rw [made]; exact iterate_holds _ 8 _ tracks (.refl _)
  have shown : ∀ x < 8, (s.found.srcOn x = false → e.reg (Reg.R3220_STATE x) = 0) ∧
      ((s.found.src x).payload.isSome = true → s.found.srcTimedOut x = false → s.found.srcOn x = true →
        e.reg (Reg.R3220_STATE x) = 1 ∧ (e.src x).fresh = false ∧ (e.src x).since = none) := fun x hx => by
    have own : ∀ f, s.found.Tracks f → (s.found.srcOn x = false → (f.copySource x).reg (Reg.R3220_STATE x) = 0) ∧
        ((s.found.src x).payload.isSome = true → s.found.srcTimedOut x = false → s.found.srcOn x = true →
          (f.copySource x).reg (Reg.R3220_STATE x) = 1 ∧ ((f.copySource x).src x).fresh = false ∧ ((f.copySource x).src x).since = none) := fun f hf => by
      have copied := f.copySource_copies hx
      obtain ⟨on, out⟩ := hf.source hx
      have off := copied.off
      have heard := copied.heard
      rw [on, out, (hf.payload x).1] at heard
      rw [on] at off
      exact ⟨off, heard⟩
    rw [made]
    refine each_reaches (fun f : Dev => s.found.Tracks f) (fun f : Dev => (s.found.srcOn x = false → f.reg (Reg.R3220_STATE x) = 0) ∧
      ((s.found.src x).payload.isSome = true → s.found.srcTimedOut x = false → s.found.srcOn x = true →
        f.reg (Reg.R3220_STATE x) = 1 ∧ (f.src x).fresh = false ∧ (f.src x).since = none)) (f := Dev.copySource) (x := x) (List.mem_range.2 hx)
      (fun k hk => tracks k (List.mem_range.1 hk)) (fun k hk f hf shown => ?_) own (.refl _)
    by_cases same : x = k
    · subst same
      exact own f hf
    · have copied := f.copySource_copies (List.mem_range.1 hk)
      rw [copied.other x hx same, copied.src x same]
      exact shown
  exact Leaves.does (.cell (fun d => d.trackCopy) live.passes result all.keeps) fun _ _ => shown

/-! ## A source that is silent -/

omit live in
/-- The slots replaced: nothing but slots and their bytes. -/
theorem Dev.keeps_replaced (d : Dev) (s j : Nat) (last : Option Bytes) (t : Nat) (track : Bytes) (x : Slot) :
    d.Keeps ((d.replaceSlot s j last t track).setSlot j x) [.dom, .gen, .sep] ∧ d.Slots ((d.replaceSlot s j last t track).setSlot j x) := by
  refine ⟨?_, ((Dev.Slots.refl d).replaceSlot s j last t track).setSlot j x⟩
  unfold Dev.replaceSlot
  exact ((d.keeps_setBytes _ _).mono (by decide)).step (Dev.keeps_sep _ _)

theorem trackTimeout_idle {x : Nat} (hx : x < 8) (no : s.found.clk.tick ≠ 1 ∨ s.found.srcOn x = false ∨ s.found.srcTimedOut x = false ∨
    (s.found.src x).since ≠ none) : Does (.trackTimeout x) s fun b a => b.Keeps a [] := by
  refine Leaves.unchanged (.cell (guard := fun d => d.liveIf (x < 8)) (fun d => d.trackTimeout x) (live.passesIf hx) (if_pos ?_) (Dev.Keeps.refl _ []))
  rcases no with tick | off | time | told
  · exact .inr (.inr (.inl tick))
  · exact .inr (.inl (by rw [off]; rfl))
  · exact .inr (.inr (.inr (.inl (by rw [time]; rfl))))
  · exact .inr (.inr (.inr (.inr (Option.isSome_iff_ne_none.2 told))))

theorem trackTimeout_tells {x : Nat} (hx : x < 8) (tick : s.found.clk.tick = 1) (on : s.found.srcOn x = true) (time : s.found.srcTimedOut x = true)
    (first : (s.found.src x).since = none) : Does (.trackTimeout x) s fun b a =>
      a.reg (Reg.R3220_STATE x) = 2 ∧ (a.src x).since = some b.clk.raw ∧ a.LastRaised Code.TRACK_TIMEOUT Kind.sensor x ∧
      a.nat (Reg.R3220_TIMEOUTS x) = min (b.nat (Reg.R3220_TIMEOUTS x) + 1) 0xFFFFFFFF := by
  obtain ⟨-, -, logS, logT, typeS, typeT⟩ := srcRegs_log x hx
  obtain ⟨o, ho⟩ : ∃ o, o = s.found.raise Code.TRACK_TIMEOUT Kind.sensor x := ⟨_, rfl⟩
  obtain ⟨u, hu⟩ : ∃ u, u = o.count (Reg.R3220_TIMEOUTS x) := ⟨_, rfl⟩
  obtain ⟨v, hv⟩ : ∃ v, v = u.setSrc x { s.found.src x with since := some s.found.clk.raw } := ⟨_, rfl⟩
  obtain ⟨w, hw⟩ : ∃ w, w = v.set (Reg.R3220_STATE x) 2 := ⟨_, rfl⟩
  obtain ⟨e, made⟩ : ∃ e, s.found.trackTimeout x = e := ⟨_, rfl⟩
  have result := made
  unfold Dev.trackTimeout at made
  extract_lets old now o' w' held at made
  rw [if_neg (by
    rintro (no | no | no | no | no)
    · omega
    · rw [on] at no; exact absurd no (by decide)
    · exact no tick
    · rw [time] at no; exact absurd no (by decide)
    · rw [first] at no; exact absurd no (by decide))] at made
  have eqW : w' = w := by rw [hw, hv, hu, ho]
  clear_value w' held
  subst eqW
  have rest : w'.Keeps e [.dom, .gen, .sep] ∧ w'.Slots e := by
    rw [← made]
    split
    · exact each_holds (fun f : Dev => w'.Keeps f [.dom, .gen, .sep] ∧ w'.Slots f) _ _ (fun j _ f hf => ⟨hf.1.andThen (f.keeps_replaced _ _ _ _ _ _).1,
          hf.2.trans (f.keeps_replaced _ _ _ _ _ _).2⟩) ⟨Dev.Keeps.refl _ _, .refl w'⟩
    · exact each_holds (fun f : Dev => w'.Keeps f [.dom, .gen, .sep] ∧ w'.Slots f) _ _ (fun j _ f hf => ⟨hf.1.andThen (f.keeps_replaced _ _ _ _ _ _).1,
          hf.2.trans (f.keeps_replaced _ _ _ _ _ _).2⟩) ⟨Dev.Keeps.refl _ _, .refl w'⟩
  obtain ⟨keepsE, slots⟩ := rest
  have keepsO : s.found.Keeps o [.od, .log, .event] := by rw [ho]; exact Dev.keeps_raise _ _ _ _ _ _
  have lastO : o.LastRaised Code.TRACK_TIMEOUT Kind.sensor x := by rw [ho]; exact Dev.lastRaised_raise _ _ _ _ _ _
  have keepsU : o.Keeps u [.od] := by rw [hu]; exact Dev.keeps_set _ _ _
  have keepsV : u.Keeps v [.sep] := by rw [hv]; exact Dev.keeps_sep _ _
  have keepsW : v.Keeps w' [.od] := by rw [hw]; exact Dev.keeps_set _ _ _
  have state : e.reg (Reg.R3220_STATE x) = 2 := by
    rw [slots.regs _ logS, hw, Dev.reg_set_same, typeS]
    rfl
  have since : (e.src x).since = some s.found.clk.raw := by
    have own : (v.src x).since = some s.found.clk.raw := by rw [hv, Dev.src_setSrc]
    have same : w'.src x = v.src x := by rw [hw]; rfl
    rw [slots.source x, same, own]
  have count : e.nat (Reg.R3220_TIMEOUTS x) = min (s.found.nat (Reg.R3220_TIMEOUTS x) + 1) 0xFFFFFFFF := by
    have apart : Reg.R3220_TIMEOUTS x ≠ Reg.R3220_STATE x := by simp only [Reg.R3220_TIMEOUTS, Reg.R3220_STATE, Reg.key]; omega
    have before : o.nat (Reg.R3220_TIMEOUTS x) = s.found.nat (Reg.R3220_TIMEOUTS x) := by
      rw [ho, Dev.nat, Dev.reg_raise _ _ _ _ _ _ logT, ← Dev.nat]
    rw [Dev.nat, slots.regs _ logT, hw, Dev.reg_set_other _ _ apart, Dev.reg_congr (keepsV .od (by decide)), ← Dev.nat, hu, Dev.nat_count_same _ typeT, before]
  have last : e.LastRaised Code.TRACK_TIMEOUT Kind.sensor x := (((lastO.of_keeps keepsU).of_keeps keepsV).of_keeps keepsW).of_keeps keepsE
  have keeps : s.found.Keeps e slotParts := ((((keepsO.mono (by decide)).step keepsU).step keepsV).step keepsW).step keepsE
  exact Leaves.does (.cell (guard := fun d => d.liveIf (x < 8)) (fun d => d.trackTimeout x) (live.passesIf hx) result keeps) fun pend vecs =>
    ⟨state, since, last.told pend vecs, count⟩

/-! ## A distance unit that fails -/

omit live in
/-- The search for a unit's spare marks worn ones and notes that in the error log; UNIT_MAP stands. -/
theorem Dev.takeSpare_keeps (d : Dev) (kind : Nat) (l : List Nat) {o : Option Nat} {e : Dev} (made : d.takeSpare kind l = (o, e)) :
    d.Keeps e [.flash, .health, .od] ∧ e.reg Reg.R3101_UNIT_MAP = d.reg Reg.R3101_UNIT_MAP := by
  induction l generalizing d with
  | nil =>
    cases made
    exact ⟨Dev.Keeps.refl _ _, rfl⟩
  | cons s r ih =>
    rw [Dev.takeSpare] at made
    split at made
    · exact ih d made
    · split at made
      · obtain ⟨m, hm⟩ : ∃ m, m = d.setFlash fun fl => { fl with retired := fl.retired ++ [(kind, s, false)] } := ⟨_, rfl⟩
        obtain ⟨f, hf⟩ : ∃ f, f = m.errLog Code.UNIT_RETIRED kind ErrClass.decision s 0xFFFF 0 0 := ⟨_, rfl⟩
        obtain ⟨g, hg⟩ : ∃ g, g = f.when (kind == UKind.lane) fun d => d.set Reg.R2800_SPARE_STATE 4 := ⟨_, rfl⟩
        have keepsM : d.Keeps m [.flash] := by rw [hm]; exact d.keeps_setFlash _
        obtain ⟨notes, -⟩ := Dev.errLog_notes m _ _ _ _ _ _ _ hf
        have keepsG : f.Keeps g [.od] := by rw [hg]; exact Dev.Keeps.when _ _ (Dev.keeps_set _ _ _)
        have regG : g.reg Reg.R3101_UNIT_MAP = f.reg Reg.R3101_UNIT_MAP := by rw [hg]; exact Dev.reg_when_set _ _ _ (by decide)
        have rest : g.takeSpare kind r = (o, e) := by
          rw [hg, hf, hm]
          exact made
        obtain ⟨keepsE, reg⟩ := ih g rest
        refine ⟨(((keepsM.mono (by decide)).step notes.keeps).step keepsG).andThen keepsE, ?_⟩
        rw [reg, regG, notes.regs _ (by decide), Dev.reg_congr (keepsM .od (by decide))]
      · cases made
        exact ⟨Dev.Keeps.refl _ _, rfl⟩

theorem distanceUnitFault_idle {u : Nat} (no : s.found.bit Reg.R3101_UNIT_MAP u = false) : Does (.distanceUnitFault u) s fun b a => b.Keeps a [] :=
  Leaves.unchanged (.dry (fun d => d.distanceUnitFault u) live.passes (if_pos (.inr (by rw [no]; decide))) (Dev.Keeps.refl _ []))

theorem distanceUnitFault_leaves {u : Nat} (hu : u < 17) (in_ : s.found.bit Reg.R3101_UNIT_MAP u = true) : Does (.distanceUnitFault u) s fun b a =>
    ∀ v < 17, a.bit Reg.R3101_UNIT_MAP v = (b.bit Reg.R3101_UNIT_MAP v && v != u) := by
  obtain ⟨m, hm⟩ : ∃ m, m = withBit (s.found.nat Reg.R3101_UNIT_MAP) u false := ⟨_, rfl⟩
  obtain ⟨x, hx⟩ : ∃ x, x = s.found.set Reg.R3101_UNIT_MAP m := ⟨_, rfl⟩
  obtain ⟨y, hy⟩ : ∃ y, y = x.set Reg.R3101_UNITS_WORKING ((List.range 17).filter fun i => m.testBit i).length := ⟨_, rfl⟩
  obtain ⟨z, hz⟩ : ∃ z, z = y.raise Code.DISTANCE_UNIT_FAULT Kind.unit (31 + u) := ⟨_, rfl⟩
  obtain ⟨⟨o, f⟩, taken⟩ : ∃ pair, z.takeSpare UKind.distance (sparesFor UKind.distance u) = pair := ⟨_, rfl⟩
  have keepsX : s.found.Keeps x [.od] := by rw [hx]; exact Dev.keeps_set _ _ _
  have keepsY : x.Keeps y [.od] := by rw [hy]; exact Dev.keeps_set _ _ _
  have keepsZ : y.Keeps z [.od, .log, .event] := by rw [hz]; exact Dev.keeps_raise _ _ _ _ _ _
  obtain ⟨keepsF, mapF⟩ := z.takeSpare_keeps _ _ taken
  obtain ⟨e, result, keepsE⟩ : ∃ e, s.found.distanceUnitFault u = e ∧ f.Keeps e [.health] := by
    refine ⟨_, rfl, ?_⟩
    unfold Dev.distanceUnitFault
    rw [if_neg (by
      rintro (no | no)
      · omega
      · exact no in_)]
    extract_lets m' y' z'
    have eqM : m' = m := hm.symm
    have eqZ : z' = z := by rw [hz, hy, hx, ← eqM]
    clear_value m' z'
    rw [eqZ, taken]
    cases o with
    | none => exact Dev.Keeps.refl _ _
    | some k =>
      intro p hp
      cases p with
      | health => simp at hp
      | _ => rfl
  have map : e.nat Reg.R3101_UNIT_MAP = m % 2 ^ 32 := by
    have type : odType Reg.R3101_UNIT_MAP = .u32 := rfl
    have own : x.nat Reg.R3101_UNIT_MAP = m % 2 ^ 32 := by rw [hx, Dev.nat, Dev.reg_set_same, type, u32_wrap]
    rw [Dev.nat_congr (keepsE .od (by decide)), Dev.nat, mapF, hz, Dev.reg_raise _ _ _ _ _ _ (by decide), hy, Dev.reg_set_other _ _ (by decide), ← Dev.nat, own]
  have keeps : s.found.Keeps e [.od, .log, .event, .flash, .health] :=
    ((((keepsX.mono (by decide)).step keepsY).step keepsZ).step keepsF).step keepsE
  refine (Leaves.dry (fun d => d.distanceUnitFault u) live.passes result keeps).does fun _ _ => fun v hv => ?_
  have bit : (m % 2 ^ 32).testBit v = m.testBit v := by rw [Nat.testBit_mod_two_pow, decide_eq_true (by omega : v < 32), Bool.true_and]
  show (e.nat Reg.R3101_UNIT_MAP).testBit v = ((s.found.nat Reg.R3101_UNIT_MAP).testBit v && v != u)
  rw [map, bit, hm, testBit_withBit]
  by_cases own : v = u
  · simp [own]
  · simp [own]

end

end Sys2Proof.Machine
end

section
/-! # Automatic resume, and measured stops (R177, R184) -/

namespace Sys2Proof.Machine

section
variable {d e f : Dev}

/-! ## A fault acknowledged -/

theorem axisState_entry {n : Nat} (hn : n < 256) : ((odType (Reg.AX1_STATE n)).wrap AxState.ready).toNat = AxState.ready ∧
    ((odType (Reg.AX1_STATE n)).wrap AxState.enabled).toNat = AxState.enabled := by
  revert n
  decide +kernel

theorem Dev.holdMeasured_state (d : Dev) (n : Nat) : (d.holdMeasured n).axState n = d.axState n ∧ d.Keeps (d.holdMeasured n) [.od, .axes] := by
  unfold Dev.holdMeasured Dev.emit
  refine ⟨?_, ((((Dev.Keeps.refl d _).set _ _).set _ _).set _ _).set _ _ |>.modAxis _ _⟩
  have apart : ∀ i, Reg.AX1_STATE n ≠ Reg.key (0x2005 + 16 * n) i := fun i => by simp only [Reg.AX1_STATE, Reg.key]; omega
  rw [Dev.axState, Dev.nat, Dev.reg_modAxis, Dev.reg_set_other _ _ (apart _), Dev.reg_set_other _ _ (apart _), Dev.reg_set_other _ _ (apart _),
    Dev.reg_set_other _ _ (apart _)]
  rfl

theorem Dev.keeps_faultAck (d : Dev) (n : Nat) : d.Keeps (d.faultAck n) [.od, .axes, .safe] := by
  unfold Dev.faultAck
  split
  · exact Dev.Keeps.refl _ _
  · extract_lets off x old y
    have keepsY : d.Keeps y [.od, .axes, .safe] :=
      ((((Dev.Keeps.refl d [.od]).set _ _).set _ _).mono (by decide)).step (Dev.keeps_safe _ _)
    clear_value y
    split
    · exact (keepsY.set _ _).modAxis _ _
    · exact (Dev.Keeps.set keepsY _ _).step (Dev.holdMeasured_state _ _).2

theorem Dev.faultAck_state (d : Dev) {n : Nat} (hn : n < 256) (fault : d.axState n = AxState.fault) (present : d.faultPresent n = false) :
    (d.faultAck n).axState n = if (d.axis n).loopsOff = true then AxState.ready else AxState.enabled := by
  obtain ⟨ready, enabled⟩ := axisState_entry hn
  unfold Dev.faultAck
  rw [if_neg (by rw [present]; simp [fault])]
  extract_lets off x old y
  clear_value y
  show Dev.axState (if (d.axis n).loopsOff = true then _ else _) n = _
  split
  · rw [Dev.axState, Dev.nat, Dev.reg_modAxis, Dev.setAxState, Dev.reg_set_same]
    exact ready
  · rw [(Dev.holdMeasured_state _ _).1, Dev.axState, Dev.nat, Dev.setAxState, Dev.reg_set_same]
    exact enabled

end

section
variable {e : Dev} {s : State} (live : s.Live)
include live

theorem autoResume_idle {c : Nat} (hc : c < 16) (no : s.found.clk.tick ≠ 4 ∨ s.found.ssm c = false) : Does (.autoResume c) s fun b a => b.Keeps a [] := by
  refine Leaves.unchanged (.cell (guard := fun d => d.liveIf (c < 16)) (fun d => d.autoResume c) (live.passesIf hc) (if_neg ?_) (Dev.Keeps.refl _ []))
  rintro ⟨tick, ssm, -⟩
  rcases no with out | free
  · exact out tick
  · rw [free] at ssm
    cases ssm

omit live in
theorem resumed_entries {c : Nat} (hc : c < 16) : (odType (Reg.CH5_CONTROL c)).wrap 1 = 1 ∧ Reg.CH9_STOP_STATE c ≠ Reg.CH5_CONTROL c ∧
    ∀ n < 256, Reg.AX1_STATE n ≠ Reg.CH5_CONTROL c ∧ Reg.AX1_STATE n ≠ Reg.CH9_STOP_STATE c := by
  refine ⟨by revert c; decide +kernel, ?_, fun n hn => ⟨?_, ?_⟩⟩ <;> simp only [Reg.CH9_STOP_STATE, Reg.CH5_CONTROL, Reg.AX1_STATE, Reg.key] <;> omega

theorem autoResume_resumes {c : Nat} (hc : c < 16) (tick : s.found.clk.tick = 4) (ssm : s.found.ssm c = true)
    (auto : s.found.reg (act (Reg.R3210_AUTO_RESUME c)) ≠ 0) (stop : s.found.nat (Reg.CH9_STOP_STATE c) = 1)
    (kind : s.found.nat (act (Reg.R3210_STOP_KIND c)) = 0) (ok : s.found.nat (act (Reg.R3210_RESUME_CYCLES c)) ≤ s.found.nat (Reg.CH9_OK_CYCLES c))
    (some_ : ∃ n ∈ s.found.members c, s.found.axState n = AxState.fault) (rest : ∀ n ∈ s.found.members c, s.found.axState n ≠ AxState.stopping) :
    Does (.autoResume c) s fun b a =>
      ((∀ n ∈ b.members c, a.axState n ≠ AxState.fault) → a.reg (Reg.CH9_STOP_STATE c) = 0 ∧ a.reg (Reg.CH5_CONTROL c) = 1) ∧
      ∀ n, b.members c = [n] → b.faultPresent n = false →
        a.axState n = (if (b.axis n).loopsOff = true then AxState.ready else AxState.enabled) ∧
        a.reg (Reg.CH9_STOP_STATE c) = 0 ∧ a.reg (Reg.CH5_CONTROL c) = 1 := by
  obtain ⟨one, apart, axes⟩ := resumed_entries hc
  obtain ⟨x, hx⟩ : ∃ x, x = each ((s.found.members c).filter fun n => s.found.axState n == AxState.fault) (fun n d => Dev.faultAck d n) s.found := ⟨_, rfl⟩
  obtain ⟨e, made⟩ : ∃ e, e = x.when ((x.members c).all fun n => x.axState n != AxState.fault) fun d =>
    (d.set (Reg.CH9_STOP_STATE c) 0).set (Reg.CH5_CONTROL c) 1 := ⟨_, rfl⟩
  have result : s.found.autoResume c = e := by
    rw [made, hx]
    refine if_pos ⟨tick, ssm, ?_, stop, kind, ok, ?_, ?_⟩
    · exact bne_iff_ne.2 auto
    · obtain ⟨n, hn, fault⟩ := some_
      exact List.any_eq_true.2 ⟨n, hn, beq_iff_eq.2 fault⟩
    · exact List.all_eq_true.2 fun n hn => bne_iff_ne.2 (rest n hn)
  have keepsX : s.found.Keeps x [.od, .axes, .safe] := by rw [hx]; exact Dev.Keeps.each _ _ (fun n f => f.keeps_faultAck n) _
  have keepsE : x.Keeps e [.od] := by rw [made]; exact Dev.Keeps.when _ _ (((Dev.Keeps.refl x [.od]).set _ _).set _ _)
  have members : x.members c = s.found.members c := Dev.members_congr (keepsX .dom (by decide)) c
  have states : ∀ n < 256, e.axState n = x.axState n := fun n hn => by
    obtain ⟨five, nine⟩ := axes n hn
    rw [made, Dev.when]
    split
    · rw [Dev.axState, Dev.nat, Dev.reg_set_other _ _ five, Dev.reg_set_other _ _ nine]
      rfl
    · rfl
  have resumed : (∀ n ∈ s.found.members c, e.axState n ≠ AxState.fault) → e.reg (Reg.CH9_STOP_STATE c) = 0 ∧ e.reg (Reg.CH5_CONTROL c) = 1 := fun free => by
    have all : ((x.members c).all fun n => x.axState n != AxState.fault) = true := by
      rw [members]
      exact List.all_eq_true.2 fun n hn => bne_iff_ne.2 (by rw [← states n (Dev.members_lt hn)]; exact free n hn)
    rw [made, all, Dev.when, if_pos rfl, Dev.reg_set_other _ _ apart, Dev.reg_set_same, Dev.reg_set_same, one, OdType.wrap_zero]
    exact ⟨rfl, rfl⟩
  have single : ∀ n, s.found.members c = [n] → s.found.faultPresent n = false →
      e.axState n = (if (s.found.axis n).loopsOff = true then AxState.ready else AxState.enabled) ∧
      e.reg (Reg.CH9_STOP_STATE c) = 0 ∧ e.reg (Reg.CH5_CONTROL c) = 1 := fun n one_ present => by
    obtain ⟨m, hm, fault⟩ := some_
    have low : n < 256 := Dev.members_lt (c := c) (d := s.found) (by rw [one_]; exact List.mem_cons_self)
    have same : m = n := by rw [one_] at hm; exact List.mem_singleton.1 hm
    subst same
    have eqX : x = s.found.faultAck m := by
      rw [hx, one_, List.filter_cons_of_pos (p := fun n => s.found.axState n == AxState.fault) (beq_iff_eq.2 fault)]
      rfl
    have state : e.axState m = if (s.found.axis m).loopsOff = true then AxState.ready else AxState.enabled := by
      rw [states m low, eqX]
      exact s.found.faultAck_state low fault present
    refine ⟨state, resumed fun k hk => ?_⟩
    rw [one_, List.mem_singleton] at hk
    rw [hk, state]
    split <;> decide
  have keeps : s.found.Keeps e [.od, .axes, .safe] := keepsX.step keepsE
  exact Leaves.does (.cell (guard := fun d => d.liveIf (c < 16)) (fun d => d.autoResume c) (live.passesIf hc) result keeps) fun _ _ => ⟨resumed, single⟩

/-! ## Measured stops -/

theorem stopMeasured_idle {c : Nat} (hc : c < 16) (no : (s.found.chain c).meas = none ∨
    ∃ m, (s.found.chain c).meas = some m ∧ m.bad = false ∧ m.ended = none) : Does (.stopMeasured c) s fun b a => b.Keeps a [] := by
  refine Leaves.unchanged (.cell (guard := fun d => d.liveIf (c < 16)) (fun d => d.stopMeasured c) (live.passesIf hc) ?_ (Dev.Keeps.refl _ []))
  unfold Dev.stopMeasured
  rcases no with none_ | ⟨m, has, good, going⟩
  · rw [none_]
  · rw [has]
    simp [good, going]

/-- The measurement in progress is dropped. -/
def Dev.dropMeas (c : Nat) (d : Dev) : Dev := d.modChain c fun x => { x with meas := none }

omit live in
theorem Dev.dropMeas_drops (d : Dev) (c : Nat) : ((d.dropMeas c).chain c).meas = none ∧ d.Keeps (d.dropMeas c) [.chains] := by
  refine ⟨?_, d.keeps_modChain c _⟩
  unfold Dev.dropMeas
  rw [Dev.chain_modChain]

omit live in
theorem stopRegs {c : Nat} (hc : c < 16) : odType (Reg.CH7_DISCARDS c) = .u32 ∧ odType (Reg.CH7_RAISES c) = .u32 ∧ Reg.CH7_DISCARDS c ∉ logRegs ∧
    Reg.CH7_RAISES c ∉ logRegs := by
  revert c
  decide +kernel

theorem stopMeasured_discards {c : Nat} (hc : c < 16) {m : StopMeas} (has : (s.found.chain c).meas = some m) (bad : m.bad = true) :
    Does (.stopMeasured c) s fun b a => (a.chain c).meas = none ∧ a.LastRaised Code.STOP_DISCARDED Kind.chain c ∧
      a.nat (Reg.CH7_DISCARDS c) = min (b.nat (Reg.CH7_DISCARDS c) + 1) 0xFFFFFFFF ∧
      b.Keeps a (.chains :: .dom :: .gen :: logParts) ∧ b.KeepsRegs a (Reg.CH7_DISCARDS c :: logRegs) := by
  obtain ⟨type, -, log, -⟩ := stopRegs hc
  obtain ⟨x, hx⟩ : ∃ x, x = s.found.raise Code.STOP_DISCARDED Kind.chain c := ⟨_, rfl⟩
  obtain ⟨y, hy⟩ : ∃ y, y = x.dropMeas c := ⟨_, rfl⟩
  obtain ⟨z, hz⟩ : ∃ z, z = y.count (Reg.CH7_DISCARDS c) := ⟨_, rfl⟩
  obtain ⟨e, made⟩ : ∃ e, e = z.lastStop c m.cls 2 0 0 0 0 := ⟨_, rfl⟩
  have result : s.found.stopMeasured c = e := by
    unfold Dev.stopMeasured
    rw [has]
    dsimp -zeta only
    rw [if_pos bad, made, hz, hy, hx]
    rfl
  have keepsX : s.found.Keeps x [.od, .log, .event] := by rw [hx]; exact Dev.keeps_raise _ _ _ _ _ _
  have regsX : ∀ k, k ∉ logRegs → x.reg k = s.found.reg k := fun k out => by rw [hx, Dev.reg_raise _ _ _ _ _ _ out]
  have lastX : x.LastRaised Code.STOP_DISCARDED Kind.chain c := by rw [hx]; exact Dev.lastRaised_raise _ _ _ _ _ _
  have dropped : (y.chain c).meas = none ∧ x.Keeps y [.chains] := by rw [hy]; exact x.dropMeas_drops c
  have keepsZ : y.Keeps z [.od] := by rw [hz]; exact Dev.keeps_set _ _ _
  have keepsE : z.Keeps e [.dom, .gen] := by rw [made]; exact Dev.keeps_setBytes _ _ _
  have regsY : ∀ k, y.reg k = x.reg k := Dev.reg_congr (dropped.2 .od (by decide))
  have regsE : ∀ k, e.reg k = z.reg k := Dev.reg_congr (keepsE .od (by decide))
  have meas : (e.chain c).meas = none := by rw [keepsE.chain c (by decide), keepsZ.chain c (by decide), dropped.1]
  have count : e.nat (Reg.CH7_DISCARDS c) = min (s.found.nat (Reg.CH7_DISCARDS c) + 1) 0xFFFFFFFF := by
    rw [Dev.nat, regsE, ← Dev.nat, hz, Dev.nat_count_same _ type, Dev.nat, regsY, regsX _ log, ← Dev.nat]
  have last : e.LastRaised Code.STOP_DISCARDED Kind.chain c := ((lastX.of_keeps dropped.2).of_keeps keepsZ).of_keeps keepsE
  have keeps : s.found.Keeps e (.chains :: .dom :: .gen :: logParts) :=
    (((keepsX.mono (by decide)).step dropped.2).step keepsZ).step keepsE
  have regs : s.found.KeepsRegs e (Reg.CH7_DISCARDS c :: logRegs) := fun k out => by
    rw [List.mem_cons, not_or] at out
    rw [regsE, hz, Dev.count, Dev.reg_set_other _ _ out.1, regsY, regsX k out.2]
  exact Leaves.does (.cell (guard := fun d => d.liveIf (c < 16)) (fun d => d.stopMeasured c) (live.passesIf hc) result keeps) fun pend vecs =>
    ⟨meas, last.told pend vecs, count, keeps.told pend vecs, regs⟩

omit live in
/-- The bytes of a measurement recorded. -/
theorem Dev.bytes_lastStop (d : Dev) (c cls result point : Nat) (v0 tm dm : Rat) : (d.lastStop c cls result point v0 tm dm).bytes (Reg.CH7_LAST_STOP c) =
    leBytes 4 d.cycle ++ [byte cls, byte result, byte point, 0] ++ leBytes 4 (f32Of v0) ++ leBytes 4 (f32Of tm) ++ leBytes 4 (f32Of dm) := by
  rw [Dev.lastStop, Dev.bytes_setBytes, if_pos rfl]

omit live in
theorem Dev.changeLog_stands (d : Dev) (user kind old new : Nat) {k : Nat} (other : k ≠ Reg.R5004_LOG_WRAPPED ∧ k ≠ Reg.R5004_NEXT_SEQ) :
    (d.changeLog user kind old new).reg k = d.reg k := by
  unfold Dev.changeLog
  extract_lets wt t r full old' x y
  have own : y.reg k = x.reg k := Dev.reg_when_set _ _ _ other.1
  rw [Dev.reg_set_other _ _ other.2, own]
  rfl

/-- The envelope raised at a point, and the measurement recorded. -/
def Dev.raiseEnvelope (d : Dev) (c cls k : Nat) (t r v0 tm dm : Rat) : Dev :=
  let old := d.nat (Reg.CH7_LEARNED_DIGEST c)
  let x := d.setLearned c (raisePoints (d.bytes (Reg.CH7_LEARNED c)) (d.bytes (act (Reg.CH7_ENVELOPE c))) cls k t r)
  let y := (x.raise Code.ENVELOPE_RAISED Kind.chain c).count (Reg.CH7_RAISES c)
  (y.changeLog 0 4 old (y.nat (Reg.CH7_LEARNED_DIGEST c))).lastStop c cls 1 k v0 tm dm

omit live in
theorem Dev.raiseEnvelope_raises (d : Dev) {c : Nat} (hc : c < 16) (cls k : Nat) (t r v0 tm dm : Rat) (made : e = d.raiseEnvelope c cls k t r v0 tm dm) :
    e.bytes (Reg.CH7_LAST_STOP c) = leBytes 4 d.cycle ++ [byte cls, byte 1, byte k, 0] ++ leBytes 4 (f32Of v0) ++ leBytes 4 (f32Of tm) ++ leBytes 4 (f32Of dm) ∧
    e.LastRaised Code.ENVELOPE_RAISED Kind.chain c ∧ e.nat (Reg.CH7_RAISES c) = min (d.nat (Reg.CH7_RAISES c) + 1) 0xFFFFFFFF ∧
    d.Keeps e [.dom, .gen, .od, .log, .event, .safe] := by
  obtain ⟨-, type, -, log⟩ := stopRegs hc
  have other : Reg.CH7_RAISES c ≠ Reg.R5004_LOG_WRAPPED ∧ Reg.CH7_RAISES c ≠ Reg.R5004_NEXT_SEQ ∧ Reg.CH7_RAISES c ≠ Reg.CH7_LEARNED_DIGEST c := by
    simp only [Reg.CH7_RAISES, Reg.R5004_LOG_WRAPPED, Reg.R5004_NEXT_SEQ, Reg.CH7_LEARNED_DIGEST, Reg.key]
    omega
  unfold Dev.raiseEnvelope at made
  extract_lets old x y at made
  have keepsX : d.Keeps x [.dom, .gen, .od] := ((d.keeps_setBytes _ _).mono (by decide)).step (Dev.keeps_set _ _ _)
  have regX : x.reg (Reg.CH7_RAISES c) = d.reg (Reg.CH7_RAISES c) := by
    show ((d.setBytes _ _).set _ _).reg _ = _
    rw [Dev.reg_set_other _ _ other.2.2, Dev.reg_congr ((d.keeps_setBytes _ _) .od (by decide))]
  clear_value x
  obtain ⟨o, ho⟩ : ∃ o, o = x.raise Code.ENVELOPE_RAISED Kind.chain c := ⟨_, rfl⟩
  have eqY : y = o.count (Reg.CH7_RAISES c) := by rw [ho]
  clear_value y
  have keepsO : x.Keeps o [.od, .log, .event] := by rw [ho]; exact Dev.keeps_raise _ _ _ _ _ _
  have lastO : o.LastRaised Code.ENVELOPE_RAISED Kind.chain c := by rw [ho]; exact Dev.lastRaised_raise _ _ _ _ _ _
  have regO : o.reg (Reg.CH7_RAISES c) = x.reg (Reg.CH7_RAISES c) := by rw [ho]; exact Dev.reg_raise _ _ _ _ _ _ log
  have keepsY : o.Keeps y [.od] := by rw [eqY]; exact Dev.keeps_set _ _ _
  obtain ⟨z, hz⟩ : ∃ z, z = y.changeLog 0 4 old (y.nat (Reg.CH7_LEARNED_DIGEST c)) := ⟨_, rfl⟩
  rw [← hz] at made
  have keepsZ : y.Keeps z [.safe, .od] := by rw [hz]; exact Dev.keeps_changeLog _ _ _ _ _
  have keepsE : z.Keeps e [.dom, .gen] := by rw [made]; exact Dev.keeps_setBytes _ _ _
  have clk : z.clk = d.clk := (keepsZ .clk (by decide)).trans ((keepsY .clk (by decide)).trans ((keepsO .clk (by decide)).trans (keepsX .clk (by decide))))
  have cycle : z.cycle = d.cycle := by rw [Dev.cycle, clk, ← Dev.cycle]
  refine ⟨by rw [made, Dev.bytes_lastStop, cycle], ((lastO.of_keeps keepsY).of_keeps keepsZ).of_keeps keepsE, ?_,
    (((keepsX.mono (by decide)).step keepsO).step keepsY).step keepsZ |>.step keepsE⟩
  rw [Dev.nat_congr (keepsE .od (by decide)), Dev.nat, hz, Dev.changeLog_stands _ _ _ _ _ ⟨other.1, other.2.1⟩, ← Dev.nat, eqY, Dev.nat_count_same _ type,
    Dev.nat, regO, regX, ← Dev.nat]

theorem stopMeasured_records {c : Nat} (hc : c < 16) {m : StopMeas} {t : Nat} (has : (s.found.chain c).meas = some m) (good : m.bad = false)
    (ended : m.ended = some t) :
    let v0 := fxRat (min m.before (m.after.getD m.before))
    let tm : Rat := ((t - m.raw : Nat) : Rat) / 1000000000
    let dm := fxRat ((m.dist.map (·.2)).foldl max 0)
    let k := ((List.range 16).find? fun i => decide (v0 ≤ (s.found.envPoint c m.cls i).1)).getD 15
    let vk := (s.found.envPoint c m.cls k).1
    let sc := if vk < v0 then vk / v0 else 1
    let g : Rat := 1 + (s.found.nat (act (Reg.CH7_LEARN_MARGIN_PCT c)) : Rat) / 100
    let longer := (s.found.envPoint c m.cls k).2.1 < tm * sc * g ∨ (s.found.envPoint c m.cls k).2.2 < dm * sc * sc * g
    Does (.stopMeasured c) s fun b a =>
      (a.chain c).meas = none ∧
      a.bytes (Reg.CH7_LAST_STOP c) = leBytes 4 b.cycle ++ [byte m.cls, byte (if longer then 1 else 0), byte k, 0] ++
        leBytes 4 (f32Of v0) ++ leBytes 4 (f32Of tm) ++ leBytes 4 (f32Of dm) ∧
      (longer → a.LastRaised Code.ENVELOPE_RAISED Kind.chain c ∧
        a.nat (Reg.CH7_RAISES c) = min (b.nat (Reg.CH7_RAISES c) + 1) 0xFFFFFFFF) ∧
      (¬longer → b.Keeps a [.chains, .dom, .gen]) := by
  intro v0 tm dm k vk sc g longer
  obtain ⟨-, type, -, log⟩ := stopRegs hc
  obtain ⟨w, hw⟩ : ∃ w, w = s.found.dropMeas c := ⟨_, rfl⟩
  have dropped : (w.chain c).meas = none ∧ s.found.Keeps w [.chains] := by rw [hw]; exact s.found.dropMeas_drops c
  have runs : s.found.stopMeasured c = if longer then w.raiseEnvelope c m.cls k (ratMax (s.found.envPoint c m.cls k).2.1 (tm * sc * g))
      (ratMax (s.found.envPoint c m.cls k).2.2 (dm * sc * sc * g)) v0 tm dm else w.lastStop c m.cls 0 k v0 tm dm := by
    unfold Dev.stopMeasured
    rw [has]
    dsimp -zeta only
    rw [if_neg (by rw [good]; decide), ended, hw]
    rfl
  by_cases more : longer
  · obtain ⟨e, made⟩ : ∃ e, e = w.raiseEnvelope c m.cls k (ratMax (s.found.envPoint c m.cls k).2.1 (tm * sc * g))
      (ratMax (s.found.envPoint c m.cls k).2.2 (dm * sc * sc * g)) v0 tm dm := ⟨_, rfl⟩
    rw [if_pos more, ← made] at runs
    obtain ⟨bytes, last, count, keepsE⟩ := Dev.raiseEnvelope_raises w hc _ _ _ _ _ _ _ made
    have meas : (e.chain c).meas = none := by rw [keepsE.chain c (by decide), dropped.1]
    have cycle : w.cycle = s.found.cycle := by rw [Dev.cycle, dropped.2 .clk (by decide), ← Dev.cycle]
    rw [cycle] at bytes
    rw [Dev.nat_congr (dropped.2 .od (by decide))] at count
    have keeps : s.found.Keeps e [.chains, .dom, .gen, .od, .log, .event, .safe] := (dropped.2.mono (by decide)).step keepsE
    exact Leaves.does (.cell (guard := fun d => d.liveIf (c < 16)) (fun d => d.stopMeasured c) (live.passesIf hc) runs keeps) fun pend vecs =>
      ⟨meas, by rw [if_pos more]; exact bytes, fun _ => ⟨last.told pend vecs, count⟩, fun no => absurd more no⟩
  · obtain ⟨e, made⟩ : ∃ e, e = w.lastStop c m.cls 0 k v0 tm dm := ⟨_, rfl⟩
    rw [if_neg more, ← made] at runs
    have keepsE : w.Keeps e [.dom, .gen] := by rw [made]; exact Dev.keeps_setBytes _ _ _
    have bytes := w.bytes_lastStop c m.cls 0 k v0 tm dm
    rw [← made, Dev.cycle, dropped.2 .clk (by decide), ← Dev.cycle] at bytes
    have meas : (e.chain c).meas = none := by rw [keepsE.chain c (by decide), dropped.1]
    have keeps : s.found.Keeps e [.chains, .dom, .gen] := (dropped.2.mono (by decide)).step keepsE
    exact Leaves.quietly (.cell (guard := fun d => d.liveIf (c < 16)) (fun d => d.stopMeasured c) (live.passesIf hc) runs keeps) (keeps .event (by decide))
      ⟨meas, by rw [if_neg more]; exact bytes, fun yes => absurd yes more, fun _ => keeps⟩

end

/-! ## The obligation -/

/-- Settles O30: frames, distances, the evaluation and its overruns, channel B, T4, tracks, distance units, resume and measured stops. -/
theorem geometryAndSeparation : Obligations.GeometryAndSeparation := by
  unfold Obligations.GeometryAndSeparation
  refine ⟨fun s live works => ?_, fun s live => ?_⟩
  · have late : ∀ t, s.found.clk.tick = t → t < 8 → s.found.clk.tick < 8 := fun t tick low => by rw [tick]; exact low
    exact ⟨fun tick => kinematicsRun_done live works tick, fun tick free => kinematicsRun_frames live works tick free,
      fun no => kinematicsRun_idle live works no,
      fun tick done over_ => (kinematicsOverrun_stops live works tick done over_).mono fun a ⟨counts, rest⟩ =>
        ⟨⟨counts.plain (late 1 tick (by decide)), rest.1⟩, rest.2⟩,
      fun no => kinematicsOverrun_idle live works no,
      fun reach ready tick => distanceTesting_tests live works reach ready tick, fun reach no => distanceTesting_idle live works reach no,
      fun tick first some_ => (distanceOverrun_stops live works tick first some_).mono fun a ⟨counts, rest⟩ =>
        ⟨⟨counts.plain (late 3 tick (by decide)), rest.1⟩, rest.2⟩,
      fun no => distanceOverrun_idle live works no,
      fun tick first => separationEvaluation_evaluates live works tick first, fun no => separationEvaluation_idle live works no,
      fun tick first => (separationOverrun_stops live works tick first).mono fun a ⟨counts, rest⟩ => ⟨counts.plain (late 3 tick (by decide)), rest⟩,
      fun no => separationOverrun_idle live works no⟩
  · exact ⟨fun works tick first => channelBCrossCheck_checks live works tick first, fun works no => channelBCrossCheck_idle live works no,
      fun works tick some_ first => ssmBLate_latches live works tick some_ first, fun works no => ssmBLate_idle live works no,
      fun works tick stop react => speedOverrideSwitch_switches live works tick stop react,
      fun c hc code works tick stop react => speedOverrideSwitch_stops live works hc tick stop react,
      fun works no => speedOverrideSwitch_idle live works no,
      fun tick => trackCopy_copies live tick, fun no => trackCopy_idle live no,
      fun x hx tick on time first => trackTimeout_tells live hx tick on time first, fun x hx no => trackTimeout_idle live hx no,
      fun u hu in_ => distanceUnitFault_leaves live hu in_, fun u out => distanceUnitFault_idle live out,
      fun c hc tick ssm auto stop kind ok some_ rest => autoResume_resumes live hc tick ssm auto stop kind ok some_ rest,
      fun c hc no => autoResume_idle live hc no,
      fun c hc m has bad => stopMeasured_discards live hc has bad,
      fun c hc m t has good ended => stopMeasured_records live hc has good ended,
      fun c hc no => stopMeasured_idle live hc no⟩

end Sys2Proof.Machine
end

section
/-! # The turn of one axis in the control engine (R52 to R68, R73, R82) -/

namespace Sys2Proof.Machine

/-- An axis without its levels and what a turn notes of them. -/
def Axis.beside (a : Axis) : Axis :=
  { a with cur := {}, velL := {}, posL := {}, auxL := {}, before := [], stale := 0, staleWas := 0, hsRun := 0 }

/-- The entries that a turn of an axis, its ages and its generator may change. -/
abbrev EngReg (k : Nat) : Prop := k ∈ logRegs ∨ k / 4096 = 0x343 ∨ k / 256 % 16 = 8 ∧ (k % 256 = 0x02 ∨ k % 256 = 0x11) ∨ k / 256 % 16 = 10 ∧ k % 256 = 0x07

/-- The parts that a turn may change. -/
abbrev turnParts : List Part := [.od, .log, .event, .axes, .ident, .fresh]

/-- Axis `n` has had its turn, and no other. -/
structure Dev.Turns (n : Nat) (d e : Dev) : Prop where
  keeps : d.Keeps e turnParts
  regs : ∀ k, ¬EngReg k → e.reg k = d.reg k
  other : ∀ m, m ≠ n → e.axis m = d.axis m
  own : (e.axis n).beside = (d.axis n).beside

section
variable {d e f : Dev} {n : Nat}

theorem Dev.Turns.refl (n : Nat) (d : Dev) : d.Turns n d := ⟨Dev.Keeps.refl _ _, fun _ _ => rfl, fun _ _ => rfl, rfl⟩

theorem Dev.Turns.trans (h : d.Turns n e) (g : e.Turns n f) : d.Turns n f :=
  ⟨h.keeps.andThen g.keeps, fun k out => (g.regs k out).trans (h.regs k out), fun m far => (g.other m far).trans (h.other m far), g.own.trans h.own⟩

theorem Dev.Turns.of_keeps {l : List Part} (h : d.Turns n e) (g : e.Keeps f l) (axes : Part.axes ∉ l := by decide) (od : Part.od ∉ l := by decide)
    (within : ∀ p ∈ l, p ∈ turnParts := by decide) : d.Turns n f :=
  ⟨h.keeps.step g within, fun k out => (Dev.reg_congr (g .od od) k).trans (h.regs k out), fun m far => (g.axis m axes).trans (h.other m far),
    by rw [g.axis n axes, h.own]⟩

theorem Dev.Turns.set (h : d.Turns n e) {j : Nat} (v : Int) (own : EngReg j) : d.Turns n (e.set j v) :=
  ⟨h.keeps.set _ _, fun k out => (Dev.reg_set_other _ _ (by rintro rfl; exact out own)).trans (h.regs k out), h.other, h.own⟩

theorem Dev.Turns.raise (h : d.Turns n e) (code kind subject reaction detail : Nat) : d.Turns n (e.raise code kind subject reaction detail) := by
  have step := e.keeps_raise code kind subject reaction detail
  exact ⟨h.keeps.step step, fun k out => (Dev.reg_raise _ _ _ _ _ _ fun log => out (.inl log)).trans (h.regs k out),
    fun m far => (step.axis m).trans (h.other m far), by rw [step.axis n, h.own]⟩

theorem Dev.Turns.modAxis (h : d.Turns n e) {g : Axis → Axis} (same : ∀ a, (g a).beside = a.beside) : d.Turns n (e.modAxis n g) :=
  ⟨h.keeps.modAxis _ _, h.regs, fun m far => (Dev.axis_modAxis_other _ _ far).trans (h.other m far), by rw [Dev.axis_modAxis, same, h.own]⟩

theorem Axis.beside_putLev (a : Axis) (level : Nat) (x : Level) : (a.putLev level x).beside = a.beside := by
  unfold Axis.putLev
  split <;> rfl

theorem Dev.Turns.modLevel (h : d.Turns n e) (level : Nat) (g : Level → Level) : d.Turns n (e.modLevel n level g) :=
  h.modAxis fun a => a.beside_putLev level _

theorem Dev.Turns.when (h : d.Turns n e) (b : Bool) (g : Dev → Dev) (then_ : d.Turns n (g e)) : d.Turns n (e.when b g) := by
  unfold Dev.when
  split
  · exact then_
  · exact h

theorem Dev.Turns.stick (h : d.Turns n e) (b : Bool) (bit : Nat) : d.Turns n (e.stick n b bit) :=
  h.when b _ (h.set _ (.inr (.inr (.inl (by simp only [Reg.AX8_SAT_STICKY, Reg.key]; omega)))))

theorem Dev.Turns.setIdent (h : d.Turns n e) (x : Ident) : d.Turns n { e with ident := x } := h.of_keeps (e.keeps_ident x)

/-! ## Levels -/

theorem Dev.Turns.fromOuter (h : d.Turns n e) (level : Nat) : d.Turns n (e.fromOuter n level).2.2 := by
  unfold Dev.fromOuter
  extract_lets x m on
  split
  dsimp -zeta only
  exact h.modLevel level _

theorem Dev.Turns.toInner (h : d.Turns n e) (level : Nat) (u : Int) : d.Turns n (e.toInner n level u) := by
  unfold Dev.toInner
  split
  · exact h
  · exact h.modLevel _ _

theorem genEntry {g i : Nat} (hg : g < 16) (hi : i < 256) : EngReg (Reg.key (0x3430 + g) i) := by
  refine .inr (.inl ?_)
  simp only [Reg.key]
  omega

theorem Dev.Turns.genStep (h : d.Turns n e) {g : Nat} (hg : g < 16) (D : Nat) : d.Turns n (e.genStep g D).2 := by
  unfold Dev.genStep
  extract_lets x
  split
  · exact h.of_keeps (e.keeps_setGen g _)
  · split
    next shape _ _ _ =>
    extract_lets fade
    generalize taken : e.takeFresh = pair
    obtain ⟨k, y⟩ := pair
    have turnY : d.Turns n y := by
      have eqY : e.takeFresh.2 = y := by rw [taken]
      rw [← eqY]
      exact h.of_keeps e.keeps_takeFresh
    dsimp -zeta only
    extract_lets sinus v z u
    have turnZ : d.Turns n z := turnY.of_keeps (y.keeps_setGen g _)
    clear_value z
    have turnU : d.Turns n u := turnZ.when _ _
      (((turnZ.set _ (genEntry hg (by decide))).set _ (genEntry hg (by decide))).raise _ _ _ _ _)
    exact turnU

theorem Dev.Turns.injection (h : d.Turns n e) (level : Nat) : d.Turns n (e.injection n level).2 := by
  unfold Dev.injection
  split
  next g found =>
    have low : g < 16 := List.mem_range.1 (List.mem_of_find?_eq_some found)
    have step := h.genStep low (e.levelDiv n level)
    generalize e.genStep g (e.levelDiv n level) = pair at step
    obtain ⟨v, y⟩ := pair
    exact step
  · exact h

theorem Dev.Turns.closeLevel (h : d.Turns n e) (level : Nat) (q : ChannelOut) (dc : Option ChannelOut) (junction ff : Bool) (sigs sigsD : Signals) :
    d.Turns n (e.closeLevel n level q dc junction ff sigs sigsD) := by
  unfold Dev.closeLevel
  extract_lets sat stores aw D now x y old z old' w
  have turnX : d.Turns n x := h.modLevel level _
  clear_value x
  have turnY : d.Turns n y := ((turnX.stick _ _).stick _ _).stick _ _
  clear_value y
  have turnZ : d.Turns n z := turnY.setIdent _
  clear_value z
  have turnW : d.Turns n w := by
    dsimp only [w]
    split
    · exact turnZ.setIdent _
    · exact turnZ
  clear_value w
  exact turnW.toInner level q.u

theorem Dev.Turns.outerLevel (h : d.Turns n e) (level : Nat) : d.Turns n (e.outerLevel n level) := by
  unfold Dev.outerLevel
  extract_lets b fsx r y
  have step := h.injection (level := level)
  generalize e.injection n level = pair at *
  obtain ⟨inj, x⟩ := pair
  have turnX : d.Turns n x := step
  dsimp -zeta only
  refine Dev.Turns.closeLevel ?_ _ _ _ _ _ _ _
  split
  · exact turnX.fromOuter 2
  · exact turnX

theorem Dev.Turns.velLevel (h : d.Turns n e) : d.Turns n (e.velLevel n) := by
  unfold Dev.velLevel
  extract_lets b fsx accel
  have step := h.injection (level := 1)
  generalize e.injection n 1 = pair at *
  obtain ⟨inj, x⟩ := pair
  have turnX : d.Turns n x := step
  dsimp -zeta only
  have next := turnX.fromOuter 1
  generalize x.fromOuter n 1 = triple at *
  obtain ⟨r0, si, y⟩ := triple
  have turnY : d.Turns n y := next
  dsimp -zeta only
  exact turnY.closeLevel _ _ _ _ _ _ _

theorem Dev.Turns.curLevel (h : d.Turns n e) : d.Turns n (e.curLevel n) := by
  unfold Dev.curLevel
  extract_lets b mode
  have step := h.injection (level := 0)
  generalize e.injection n 0 = pair at *
  obtain ⟨inj, x⟩ := pair
  have turnX : d.Turns n x := step
  dsimp -zeta only
  have next := turnX.fromOuter 0
  generalize x.fromOuter n 0 = triple at *
  obtain ⟨r0, si, y⟩ := triple
  have turnY : d.Turns n y := next
  dsimp -zeta only
  exact turnY.closeLevel _ _ _ _ _ _ _

theorem Dev.Turns.cascade (h : d.Turns n e) : d.Turns n (e.cascade n) := by
  unfold Dev.cascade
  extract_lets t x y z w
  have turnX : d.Turns n x := h.modAxis fun _ => rfl
  clear_value x
  have turnY : d.Turns n y := turnX.when _ _ (turnX.outerLevel 3)
  clear_value y
  have turnZ : d.Turns n z := turnY.when _ _ (turnY.outerLevel 2)
  clear_value z
  have turnW : d.Turns n w := turnZ.when _ _ turnZ.velLevel
  clear_value w
  exact turnW.when _ _ turnW.curLevel

theorem Dev.Turns.frozenStep (h : d.Turns n e) (level : Nat) (on : Bool) : d.Turns n (e.frozenStep n level on) := by
  unfold Dev.frozenStep
  generalize e.levelSample n level = pair
  obtain ⟨v, age⟩ := pair
  dsimp -zeta only
  split
  · exact h
  · extract_lets x mag
    split
    · exact h.modLevel level _
    · exact h.modLevel level _

theorem Dev.Turns.frozenSteps (h : d.Turns n e) (on : Bool) : d.Turns n (e.frozenSteps n on) :=
  iterate_holds (fun f : Dev => d.Turns n f) 4 _ (fun l _ _ hf => hf.frozenStep l on) h

theorem Dev.Turns.repeatOutput (h : d.Turns n e) : d.Turns n (e.repeatOutput n) := h.modAxis fun _ => rfl

theorem Dev.Turns.pushRun (h : d.Turns n e) : d.Turns n (e.pushRun n) := h.when _ _ (h.modAxis fun _ => rfl)

end

end Sys2Proof.Machine
end

section
/-! # The feedback image of a tick (R22, R67, R70) -/

namespace Sys2Proof.Machine

section
variable {d e f : Dev} {n : Nat}

/-- The parts that the run of the control engine may change before it is marked. -/
abbrev runParts : List Part := .lateC :: .chains :: .safe :: turnParts

/-- Every axis has the feedback it had. -/
structure Dev.Samples (d e : Dev) : Prop where
  keeps : d.Keeps e runParts
  fb : ∀ m, (e.axis m).fb = (d.axis m).fb
  fbIn : ∀ m, (e.axis m).fbIn = (d.axis m).fbIn

theorem Dev.Samples.refl (d : Dev) : d.Samples d := ⟨Dev.Keeps.refl _ _, fun _ => rfl, fun _ => rfl⟩

theorem Dev.Samples.trans (h : d.Samples e) (g : e.Samples f) : d.Samples f :=
  ⟨h.keeps.andThen g.keeps, fun m => (g.fb m).trans (h.fb m), fun m => (g.fbIn m).trans (h.fbIn m)⟩

theorem Dev.Turns.samples (h : d.Turns n e) : d.Samples e := by
  have view : ∀ m, (e.axis m).fb = (d.axis m).fb ∧ (e.axis m).fbIn = (d.axis m).fbIn := fun m => by
    by_cases own : m = n
    · subst own
      have fb : (e.axis m).beside.fb = (d.axis m).beside.fb := by rw [h.own]
      have fbIn : (e.axis m).beside.fbIn = (d.axis m).beside.fbIn := by rw [h.own]
      exact ⟨fb, fbIn⟩
    · rw [h.other m own]
      exact ⟨rfl, rfl⟩
  exact ⟨h.keeps.mono (by decide), fun m => (view m).1, fun m => (view m).2⟩

theorem Dev.Samples.modAxis (h : d.Samples e) (k : Nat) {g : Axis → Axis} (same : ∀ a, (g a).fb = a.fb ∧ (g a).fbIn = a.fbIn) : d.Samples (e.modAxis k g) := by
  have view : ∀ m, ((e.modAxis k g).axis m).fb = (e.axis m).fb ∧ ((e.modAxis k g).axis m).fbIn = (e.axis m).fbIn := fun m => by
    by_cases own : m = k
    · subst own
      rw [Dev.axis_modAxis]
      exact same _
    · rw [Dev.axis_modAxis_other _ _ own]
      exact ⟨rfl, rfl⟩
  exact ⟨h.keeps.modAxis _ _, fun m => (view m).1.trans (h.fb m), fun m => (view m).2.trans (h.fbIn m)⟩

theorem Dev.Samples.of_keeps {l : List Part} (h : d.Samples e) (g : e.Keeps f l) (axes : Part.axes ∉ l := by decide)
    (within : ∀ p ∈ l, p ∈ runParts := by decide) : d.Samples f :=
  ⟨h.keeps.step g within, fun m => by rw [g.axis m axes, h.fb m], fun m => by rw [g.axis m axes, h.fbIn m]⟩

theorem Dev.Samples.set (h : d.Samples e) (k : Nat) (v : Int) : d.Samples (e.set k v) := h.of_keeps (e.keeps_set k v)

theorem Dev.Samples.when (h : d.Samples e) (b : Bool) (g : Dev → Dev) (then_ : d.Samples (g e)) : d.Samples (e.when b g) := by
  unfold Dev.when
  split
  · exact then_
  · exact h

/-- A reaction leaves every feedback. -/
theorem Dev.Samples.fault (h : d.Samples e) (hn : n < 256) (code r detail : Nat) : d.Samples (e.fault n code r detail) := by
  have loops : e.LoopsStand (e.fault n code r detail) := (Dev.LoopsStand.refl e).fault n code r detail
  have keeps : e.Keeps (e.fault n code r detail) reactionParts :=
    (Dev.Reacts.fault (N := (· < 256)) (C := (· < 16)) (.refl _ _ e) (.any e hn) code r detail).keeps
  exact ⟨h.keeps.step keeps, fun m => (congrArg Axis.fb (loops.axes m)).trans (h.fb m), fun m => (congrArg Axis.fbIn (loops.axes m)).trans (h.fbIn m)⟩

/-! ## The image switches -/

theorem Dev.voltageScale_samples (d : Dev) (hn : n < 256) (vdc : Int) : d.Samples (d.voltageScale n vdc) := by
  unfold Dev.voltageScale
  extract_lets nom pct low s a ep x
  have same : x = d.modAxis n fun a => { a with scale := min s 0x7FFFFFFF, dcLow := ep } := rfl
  have samplesX : d.Samples x := by
    rw [same]
    refine Dev.Samples.modAxis (.refl d) n ?_
    exact fun _ => ⟨rfl, rfl⟩
  clear_value x
  split
  · refine Dev.Samples.fault (.set ?_ _ _) hn _ _ _
    exact samplesX.when _ _ (samplesX.set _ _)
  · exact samplesX

/-- The feedback of one axis switched, without its voltage scale. -/
def Dev.takeImage (d : Dev) (n : Nat) : Dev :=
  let a := d.axis n
  let now := d.tickAbs
  let f := a.fbIn.asOf now
  let a := if f.pos.age = 0 then
      let a := match a.hist with
        | s :: _ => { a with vel71 := derivedVel f.pos.val s.pos (now - s.tick) }
        | [] => a
      { a with hist := ({ tick := now, time := d.clk.si, pos := f.pos.val } :: a.hist).take 64 }
    else a
  d.setAxis n { a with fb := f, fbTick := now, fbIn := f }

theorem Dev.switchFeedback_eq (d : Dev) (n : Nat) : d.switchFeedback n =
    (d.takeImage n).when (((d.axis n).fbIn.asOf d.tickAbs).vdc.age == 0) fun e => e.voltageScale n ((d.axis n).fbIn.asOf d.tickAbs).vdc.val := rfl

theorem Dev.takeImage_takes (d : Dev) (n : Nat) : ((d.takeImage n).axis n).fb = (d.axis n).fbIn.asOf d.tickAbs ∧
    ((d.takeImage n).axis n).fbIn = (d.axis n).fbIn.asOf d.tickAbs ∧ (∀ m, m ≠ n → (d.takeImage n).axis m = d.axis m) ∧ d.Keeps (d.takeImage n) [.axes] := by
  unfold Dev.takeImage
  extract_lets a now f a'
  have own : ∀ x : Axis, ((d.setAxis n x).axis n) = x := fun x => Dev.axis_setAxis _ _ _
  refine ⟨by rw [own], by rw [own], fun m far => mget_mset_other _ _ _ _ far, ?_⟩
  intro p hp
  cases p with
  | axes => simp at hp
  | _ => rfl

/-- The image of one axis switches, and no other feedback changes. -/
theorem Dev.switchFeedback_switches (d : Dev) (hn : n < 256) : ((d.switchFeedback n).axis n).fb = (d.axis n).fbIn.asOf d.tickAbs ∧
    ((d.switchFeedback n).axis n).fbIn = (d.axis n).fbIn.asOf d.tickAbs ∧
    (∀ m, m ≠ n → ((d.switchFeedback n).axis m).fb = (d.axis m).fb ∧ ((d.switchFeedback n).axis m).fbIn = (d.axis m).fbIn) ∧
    d.Keeps (d.switchFeedback n) runParts := by
  obtain ⟨fb, fbIn, other, keeps⟩ := d.takeImage_takes n
  rw [Dev.switchFeedback_eq]
  generalize d.takeImage n = x at *
  have samples : x.Samples (x.when (((d.axis n).fbIn.asOf d.tickAbs).vdc.age == 0) fun e => e.voltageScale n ((d.axis n).fbIn.asOf d.tickAbs).vdc.val) :=
    Dev.Samples.when (.refl x) _ _ (x.voltageScale_samples hn _)
  exact ⟨(samples.fb n).trans fb, (samples.fbIn n).trans fbIn, fun m far => by rw [samples.fb m, samples.fbIn m, other m far]; exact ⟨rfl, rfl⟩,
    (keeps.mono (by decide)).andThen samples.keeps⟩

theorem Dev.checkAged_samples (d : Dev) (n : Nat) : d.Samples (d.checkAged n) := by
  unfold Dev.checkAged
  extract_lets ages fresh x y
  have samplesX : d.Samples x := by
    refine Dev.Samples.modAxis (.refl d) n ?_
    exact fun _ => ⟨rfl, rfl⟩
  clear_value x
  split
  · exact samplesX
  · have samplesY : d.Samples y := samplesX.when _ _ (samplesX.set _ _)
    clear_value y
    refine iterate_holds (fun f : Dev => d.Samples f) 5 _ (fun ch _ f hf => ?_) samplesY
    extract_lets age
    split
    · refine Dev.Samples.of_keeps (.set (.modAxis hf n ?_) _ _) (Dev.keeps_raise _ _ _ _ _ _)
      exact fun _ => ⟨rfl, rfl⟩
    · exact hf

theorem FbVal.asOf_asOf (v : FbVal) (now : Nat) : (v.asOf now).asOf now = v.asOf now := by
  unfold FbVal.asOf
  dsimp only
  have none_ : now - max now v.tick = 0 := by omega
  rw [none_, Nat.add_zero]
  congr 1 <;> omega

theorem Feedback.asOf_asOf (f : Feedback) (now : Nat) : (f.asOf now).asOf now = f.asOf now := by
  unfold Feedback.asOf
  simp only [FbVal.asOf_asOf]

/-- The images of all axes switch. -/
def Dev.takeImages (d : Dev) : Dev := iterate 128 (fun n d => (Dev.switchFeedback d n).checkAged n) d

theorem Dev.takeImages_take (d : Dev) : (∀ n < 128, (d.takeImages.axis n).fb = (d.axis n).fbIn.asOf d.tickAbs) ∧ d.Keeps d.takeImages runParts := by
  have keeps : ∀ m < 128, ∀ f : Dev, f.Keeps ((f.switchFeedback m).checkAged m) runParts := fun m hm f =>
    (f.switchFeedback_switches (n := m) (by omega)).2.2.2.andThen (Dev.checkAged_samples _ _).keeps
  have step : ∀ n, ∀ m < 128, ∀ f : Dev, d.Keeps f runParts ∧ (f.axis n).fbIn.asOf d.tickAbs = (d.axis n).fbIn.asOf d.tickAbs →
      (d.Keeps ((f.switchFeedback m).checkAged m) runParts ∧ (((f.switchFeedback m).checkAged m).axis n).fbIn.asOf d.tickAbs = (d.axis n).fbIn.asOf d.tickAbs) ∧
      (n = m ∨ (f.axis n).fb = (d.axis n).fbIn.asOf d.tickAbs → (((f.switchFeedback m).checkAged m).axis n).fb = (d.axis n).fbIn.asOf d.tickAbs) := by
    intro n m hm f ⟨kept, image⟩
    have now : f.tickAbs = d.tickAbs := by rw [Dev.tickAbs, Dev.tickAbs, kept .clk (by decide)]
    obtain ⟨fb, fbIn, other, -⟩ := f.switchFeedback_switches (n := m) (by omega)
    have samples := (f.switchFeedback m).checkAged_samples m
    rw [samples.fb, samples.fbIn]
    refine ⟨⟨kept.andThen (keeps m hm f), ?_⟩, ?_⟩
    · by_cases own : n = m
      · subst own
        rw [fbIn, now, image, Feedback.asOf_asOf]
      · rw [(other n own).2, image]
    · intro before
      by_cases own : n = m
      · subst own
        rw [fb, now, image]
      · rw [(other n own).1]
        exact before.resolve_left own
  refine ⟨fun n hn => ?_, iterate_holds (fun f : Dev => d.Keeps f runParts) 128 _ (fun m hm f hf => hf.andThen (keeps m hm f)) (Dev.Keeps.refl _ _)⟩
  exact each_reaches (fun f : Dev => d.Keeps f runParts ∧ (f.axis n).fbIn.asOf d.tickAbs = (d.axis n).fbIn.asOf d.tickAbs)
    (fun f : Dev => (f.axis n).fb = (d.axis n).fbIn.asOf d.tickAbs) (f := fun m d => (Dev.switchFeedback d m).checkAged m) (x := n) (List.mem_range.2 hn)
    (fun m hm f hf => (step n m (List.mem_range.1 hm) f hf).1) (fun m hm f hf at_ => (step n m (List.mem_range.1 hm) f hf).2 (.inr at_))
    (fun f hf => (step n n hn f hf).2 (.inl rfl)) ⟨Dev.Keeps.refl _ _, rfl⟩

/-! ## The turns -/

/-- One turn, and the others after it. -/
theorem Dev.runAxes_cons (d : Dev) (m : Nat) (r : List Nat) (load : Nat) (full : Bool) :
    ∃ f load' full', d.runAxes (m :: r) load full = f.runAxes r load' full' ∧ d.Samples f := by
  rw [Dev.runAxes]
  extract_lets evals need lanes
  have turn := Dev.Turns.refl m d
  split
  · exact ⟨_, _, _, rfl, (turn.repeatOutput.frozenSteps _).samples⟩
  split
  · refine ⟨_, _, _, rfl, (Dev.Turns.frozenSteps ?_ _).samples⟩
    refine turn.modAxis ?_
    exact fun _ => rfl
  split
  · refine ⟨_, _, _, rfl, Dev.Samples.trans ?_ ((Dev.Turns.refl m _).frozenSteps true).samples⟩
    refine turn.repeatOutput.samples.of_keeps (l := [.lateC]) fun p hp => ?_
    cases p with
    | lateC => simp at hp
    | _ => rfl
  · exact ⟨_, _, _, rfl, (turn.cascade.frozenSteps _).samples⟩

theorem Dev.runAxes_samples (ns : List Nat) (load : Nat) (full : Bool) (d : Dev) : d.Samples (d.runAxes ns load full) := by
  induction ns generalizing d load full with
  | nil => exact .refl d
  | cons m r ih =>
    obtain ⟨f, load', full', same, turn⟩ := d.runAxes_cons m r load full
    rw [same]
    exact turn.trans (ih _ _ f)

end

section
variable {s : State} (live : s.Live)
include live

theorem controlEngineRun_idle (no : s.found.mayRun = false) : Does .controlEngineRun s fun b a => b.Keeps a [] :=
  Leaves.unchanged (.cell (fun d => d.controlRun) live.passes (if_pos (by rw [no]; rfl)) (Dev.Keeps.refl _ []))

omit live in
/-- The stages of a run. -/
theorem controlRun_stages (may : s.found.mayRun = true) : ∃ o x y z w e, o = s.found.at 12000 ∧ x = o.takeImages ∧ y = { x with lateC := [] } ∧
    z = y.runAxes y.controlOrder 0 false ∧ w = iterate 128 (fun n d => Dev.pushRun d n) z ∧ e = { w with eng := { w.eng with ranAt := some s.found.tickAbs } } ∧
    s.found.controlRun = e := by
  obtain ⟨o, ho⟩ : ∃ o, o = s.found.at 12000 := ⟨_, rfl⟩
  obtain ⟨x, hx⟩ : ∃ x, x = o.takeImages := ⟨_, rfl⟩
  obtain ⟨y, hy⟩ : ∃ y, y = { x with lateC := [] } := ⟨_, rfl⟩
  obtain ⟨z, hz⟩ : ∃ z, z = y.runAxes y.controlOrder 0 false := ⟨_, rfl⟩
  obtain ⟨w, hw⟩ : ∃ w, w = iterate 128 (fun n d => Dev.pushRun d n) z := ⟨_, rfl⟩
  refine ⟨o, x, y, z, w, _, ho, hx, hy, hz, hw, rfl, ?_⟩
  unfold Dev.controlRun
  rw [if_neg (by rw [may]; decide)]
  extract_lets now o' x' z' w'
  have eqX : x' = x := by rw [hx, ho]; rfl
  clear_value x'
  have eqZ : z' = z := by
    rw [hz, hy, ← eqX]
    rfl
  clear_value z'
  have eqW : w' = w := by rw [hw, ← eqZ]
  clear_value w'
  subst eqW
  rfl

theorem controlEngineRun_takes (may : s.found.mayRun = true) : Does .controlEngineRun s fun b a =>
    a.eng.ranAt = some b.tickAbs ∧ ∀ n < 128, (a.axis n).fb = (b.axis n).fbIn.asOf b.tickAbs := by
  obtain ⟨o, x, y, z, w, e, ho, hx, hy, hz, hw, made, result⟩ := controlRun_stages may
  have keepsO : s.found.Keeps o [.ph] := by rw [ho]; exact s.found.keeps_at _
  obtain ⟨fbX, keepsX⟩ := o.takeImages_take
  rw [← hx] at fbX keepsX
  have samplesY : x.Samples y := by
    rw [hy]
    refine Dev.Samples.of_keeps (l := [.lateC]) (.refl x) fun p hp => ?_
    cases p with
    | lateC => simp at hp
    | _ => rfl
  have samplesZ : y.Samples z := by rw [hz]; exact y.runAxes_samples _ _ _
  have samplesW : z.Samples w := by rw [hw]; exact iterate_holds (fun f : Dev => z.Samples f) 128 _ (fun m _ f hf => hf.trans ((Dev.Turns.refl m f).pushRun).samples) (.refl z)
  have samples : x.Samples w := (samplesY.trans samplesZ).trans samplesW
  have keepsE : w.Keeps e [.eng] := by
    rw [made]
    intro p hp
    cases p with
    | eng => simp at hp
    | _ => rfl
  have now : o.tickAbs = s.found.tickAbs := by rw [ho]; rfl
  have fb : ∀ n < 128, (e.axis n).fb = (s.found.axis n).fbIn.asOf s.found.tickAbs := fun n hn => by
    rw [keepsE.axis n (by decide), samples.fb n, fbX n hn, now, keepsO.axis n (by decide)]
  have ran : e.eng.ranAt = some s.found.tickAbs := by rw [made]
  have keeps : s.found.Keeps e (.ph :: .eng :: runParts) := (((keepsO.mono (by decide)).step keepsX).step samples.keeps).step keepsE
  exact Leaves.does (.cell (fun d => d.controlRun) live.passes result keeps) fun _ _ => ⟨ran, fb⟩

end

end Sys2Proof.Machine
end

section
/-! # An axis whose VEL level alone runs (R52, R55, R56, R63, R64) -/

namespace Sys2Proof.Machine

theorem satBits_satBits (w : Nat) (x : Int) : satBits w (satBits w x) = satBits w x := by
  have pos : (0 : Int) < 2 ^ (w - 1) := by positivity
  unfold satBits clamp
  split_ifs <;> omega

section
variable {d e f : Dev} {n : Nat}

/-- What is read of an axis to evaluate it. -/
def Axis.course (a : Axis) : Axis :=
  { a with fb := {}, fbTick := 0, fbIn := {}, hist := [], vel71 := 0, aged := 0, lost := 0 }

/-- The entries that ages and images may change. -/
abbrev ImageReg (k : Nat) : Prop := k ∈ logRegs ∨ k / 256 < 0x3000 ∧ (k / 256 % 16 = 8 ∧ k % 256 = 0x11 ∨ k / 256 % 16 = 10 ∧ k % 256 = 0x07)

/-- What the evaluation of the axes reads stands, but for images. -/
structure Dev.Images (d e : Dev) : Prop where
  keeps : d.Keeps e [.ph, .lateC, .od, .log, .event, .axes]
  regs : ∀ k, ¬ImageReg k → e.reg k = d.reg k
  axes : ∀ m, (e.axis m).course = (d.axis m).course

theorem Dev.Images.refl (d : Dev) : d.Images d := ⟨Dev.Keeps.refl _ _, fun _ _ => rfl, fun _ => rfl⟩

theorem Dev.Images.trans (h : d.Images e) (g : e.Images f) : d.Images f :=
  ⟨h.keeps.andThen g.keeps, fun k out => (g.regs k out).trans (h.regs k out), fun m => (g.axes m).trans (h.axes m)⟩

theorem Dev.Images.of_keeps {l : List Part} (h : d.Images e) (g : e.Keeps f l) (within : ∀ p ∈ l, p ∈ [Part.ph, .lateC] := by decide) : d.Images f := by
  have plain : e.Keeps f [.ph, .lateC] := g.mono within
  exact ⟨h.keeps.step plain, fun k out => (Dev.reg_congr (plain .od (by decide)) k).trans (h.regs k out), fun m => by rw [plain.axis m, h.axes m]⟩

theorem Dev.Images.set (h : d.Images e) {j : Nat} (v : Int) (own : ImageReg j) : d.Images (e.set j v) :=
  ⟨h.keeps.set _ _, fun k out => (Dev.reg_set_other _ _ (by rintro rfl; exact out own)).trans (h.regs k out), h.axes⟩

theorem Dev.Images.raise (h : d.Images e) (code kind subject reaction detail : Nat) : d.Images (e.raise code kind subject reaction detail) := by
  have step := e.keeps_raise code kind subject reaction detail
  exact ⟨h.keeps.step step, fun k out => (Dev.reg_raise _ _ _ _ _ _ fun log => out (.inl log)).trans (h.regs k out), fun m => by rw [step.axis m, h.axes m]⟩

theorem Dev.Images.modAxis (h : d.Images e) (k : Nat) {g : Axis → Axis} (same : ∀ a, (g a).course = a.course) : d.Images (e.modAxis k g) := by
  refine ⟨h.keeps.modAxis _ _, h.regs, fun m => ?_⟩
  by_cases own : m = k
  · subst own
    rw [Dev.axis_modAxis, same, h.axes m]
  · rw [Dev.axis_modAxis_other _ _ own, h.axes m]

theorem Dev.takeImage_images (d : Dev) (n : Nat) : d.Images (d.takeImage n) := by
  obtain ⟨-, -, other, keeps⟩ := d.takeImage_takes n
  refine ⟨keeps.mono (by decide), fun k _ => Dev.reg_congr (keeps .od (by decide)) k, fun m => ?_⟩
  by_cases own : m = n
  · subst own
    unfold Dev.takeImage
    extract_lets a now f derived a'
    rw [Dev.axis_setAxis]
    have derives : derived.course = a.course := by
      dsimp only [derived]
      split <;> rfl
    show Axis.course a' = Axis.course a
    dsimp only [a']
    split
    · exact derives
    · rfl
  · rw [other m own]

theorem Dev.Images.checkAged (h : d.Images e) {k : Nat} (hk : k < 128) : d.Images (e.checkAged k) := by
  unfold Dev.checkAged
  extract_lets ages fresh x y
  have imagesX : d.Images x := by
    refine h.modAxis k ?_
    exact fun _ => rfl
  clear_value x
  split
  · exact imagesX
  · have imagesY : d.Images y := by
      show d.Images (x.when _ _)
      unfold Dev.when
      split
      · exact imagesX.set _ (.inr (by simp only [Reg.AX10_AGED_COUNT, Reg.key]; omega))
      · exact imagesX
    clear_value y
    refine iterate_holds (fun f : Dev => d.Images f) 5 _ (fun ch _ f hf => ?_) imagesY
    extract_lets age
    split
    · refine Dev.Images.raise (.set (.modAxis hf k ?_) _ (.inr ?_)) _ _ _ _ _
      · exact fun _ => rfl
      · simp only [Reg.AX8_LAST_CODE, Reg.key]
        omega
    · exact hf

/-- Without a fresh V_dc the images switch and nothing reacts. -/
theorem Dev.takeImages_images (d : Dev) (old : ∀ m < 128, ((d.axis m).fbIn.asOf d.tickAbs).vdc.age ≠ 0) : d.Images d.takeImages := by
  suffices all : d.Images d.takeImages ∧ ∀ k, ((d.takeImages.axis k).fbIn.asOf d.tickAbs) = (d.axis k).fbIn.asOf d.tickAbs from all.1
  refine iterate_holds (fun f : Dev => d.Images f ∧ ∀ k, (f.axis k).fbIn.asOf d.tickAbs = (d.axis k).fbIn.asOf d.tickAbs) 128 _ (fun m hm f hf => ?_)
    ⟨.refl d, fun _ => rfl⟩
  obtain ⟨images, image⟩ := hf
  have now : f.tickAbs = d.tickAbs := by rw [Dev.tickAbs, Dev.tickAbs, images.keeps .clk (by decide)]
  have quiet : f.switchFeedback m = f.takeImage m := by
    have age : (((f.axis m).fbIn.asOf f.tickAbs).vdc.age == 0) = false := by
      rw [now, image m]
      exact beq_eq_false_iff_ne.2 (old m hm)
    rw [Dev.switchFeedback_eq, age]
    rfl
  obtain ⟨-, fbIn, other, -⟩ := f.takeImage_takes m
  have samples := (f.takeImage m).checkAged_samples m
  rw [quiet]
  refine ⟨(images.trans (f.takeImage_images m)).checkAged hm, fun k => ?_⟩
  rw [samples.fbIn]
  by_cases own : k = m
  · subst own
    rw [fbIn, now, image, Feedback.asOf_asOf]
  · rw [other k own, image]

/-! ## What is read of an axis stands -/

theorem axis_not_log {k : Nat} (place : 0x2000 ≤ k / 256 ∧ k / 256 < 0x3000) : k ∉ logRegs := by
  have far : ∀ j ∈ logRegs, j / 256 < 0x2000 ∨ 0x3000 ≤ j / 256 := by decide
  intro log
  have := far k log
  omega

/-- An entry of an axis that is none of its ages' and images'. -/
theorem image_free {k : Nat} (place : 0x2000 ≤ k / 256 ∧ k / 256 < 0x3000)
    (out : k / 256 % 16 ≠ 8 ∧ k / 256 % 16 ≠ 10 ∨ k / 256 % 16 = 8 ∧ k % 256 ≠ 0x11 ∨ k / 256 % 16 = 10 ∧ k % 256 ≠ 0x07) : ¬ImageReg k := by
  rintro (log | ⟨-, is⟩)
  · exact axis_not_log place log
  · omega

/-- The entries of the structure of an axis. -/
theorem Dev.Images.structure (h : d.Images e) {m : Nat} (hm : m < 128) {i : Nat} (hi : i < 256) :
    e.reg (Reg.key (0x2007 + 16 * m) i) = d.reg (Reg.key (0x2007 + 16 * m) i) :=
  h.regs _ (image_free (by simp only [Reg.key]; omega) (by simp only [Reg.key]; omega))

theorem Dev.Images.setting (h : d.Images e) (m : Nat) {k : Nat} (free : ¬ImageReg k) : e.setting m k = d.setting m k := by
  have settings : (e.axis m).course.settings = (d.axis m).course.settings := by rw [h.axes m]
  have now : e.tickAbs = d.tickAbs := by rw [Dev.tickAbs, Dev.tickAbs, h.keeps .clk (by decide)]
  have same : (e.axis m).settings = (d.axis m).settings := settings
  rw [Dev.setting, Dev.setting, same, now, h.regs k free]

theorem Dev.Images.levels (h : d.Images e) {m : Nat} (hm : m < 128) (level t : Nat) : e.direct m = d.direct m ∧ e.levelOn m level = d.levelOn m level ∧
    (level < 4 → e.levelRuns m level t = d.levelRuns m level t) := by
  have direct : e.direct m = d.direct m := by
    rw [Dev.direct, Dev.direct]
    exact congrArg (· == 1) (h.structure hm (i := 0x81) (by decide))
  have aux : e.reg (act (Reg.AX7_AUX_EN m)) = d.reg (act (Reg.AX7_AUX_EN m)) := h.structure hm (i := 0x82) (by decide)
  have on : e.levelOn m level = d.levelOn m level := by
    unfold Dev.levelOn
    split
    · exact direct
    · rw [Dev.flag, Dev.flag, aux]
    · rfl
  refine ⟨direct, on, fun low => ?_⟩
  have div : e.reg (act (Reg.AX7_DIV_CUR m + level)) = d.reg (act (Reg.AX7_DIV_CUR m + level)) := by
    rw [show act (Reg.AX7_DIV_CUR m + level) = Reg.key (0x2007 + 16 * m) (0x83 + level) by simp only [act, Reg.AX7_DIV_CUR, Reg.key]; omega]
    exact h.structure hm (by omega)
  have phase : e.reg (act (Reg.AX7_PHASE_CUR m + level)) = d.reg (act (Reg.AX7_PHASE_CUR m + level)) := by
    rw [show act (Reg.AX7_PHASE_CUR m + level) = Reg.key (0x2007 + 16 * m) (0x87 + level) by simp only [act, Reg.AX7_PHASE_CUR, Reg.key]; omega]
    exact h.structure hm (by omega)
  rw [Dev.levelRuns, Dev.levelRuns, on, Dev.levelDiv, Dev.levelDiv, Dev.levelPhase, Dev.levelPhase, Dev.nat, Dev.nat, Dev.nat, Dev.nat, div, phase]

theorem Dev.Images.load (h : d.Images e) {m : Nat} (hm : m < 128) : e.axisLoad m e.clk.tick (e.image m) = d.axisLoad m d.clk.tick (d.image m) := by
  have clk : e.clk = d.clk := h.keeps .clk (by decide)
  have image : ∀ l, e.image m l = d.image m l := fun l => h.keeps.bytes _ (by decide)
  rw [Dev.axisLoad, Dev.axisLoad]
  refine congrArg List.sum (List.map_congr_left fun l hl => ?_)
  rw [Dev.levelLoad, Dev.levelLoad, clk, (h.levels hm l d.clk.tick).2.2 (List.mem_range.1 hl), image]

theorem Dev.Images.runs (h : d.Images e) {m : Nat} (hm : m < 128) : e.evaluates m = d.evaluates m ∧ e.laneDown m = d.laneDown m := by
  have now : e.tickAbs = d.tickAbs := by rw [Dev.tickAbs, Dev.tickAbs, h.keeps .clk (by decide)]
  have state : e.axState m = d.axState m := by
    rw [Dev.axState, Dev.axState, Dev.nat, Dev.nat, h.regs _ (image_free (by simp only [Reg.AX1_STATE, Reg.key]; omega) (by simp only [Reg.AX1_STATE, Reg.key]; omega))]
  have lane : e.nat (Reg.AX8_LANE m) = d.nat (Reg.AX8_LANE m) := by
    rw [Dev.nat, Dev.nat, h.regs _ (image_free (by simp only [Reg.AX8_LANE, Reg.key]; omega) (by simp only [Reg.AX8_LANE, Reg.key]; omega))]
  have off : (e.axis m).course.loopsOff = (d.axis m).course.loopsOff := by rw [h.axes m]
  have at_ : (e.axis m).course.closedAt = (d.axis m).course.closedAt := by rw [h.axes m]
  have loopsOff : (e.axis m).loopsOff = (d.axis m).loopsOff := off
  have closedAt : (e.axis m).closedAt = (d.axis m).closedAt := at_
  refine ⟨?_, by rw [Dev.laneDown, Dev.laneDown, h.keeps .eng (by decide), lane, now]⟩
  rw [Dev.evaluates, Dev.evaluates, Dev.closed, Dev.closed, state, loopsOff, closedAt, now]

end

end Sys2Proof.Machine
end

section
/-! # The run of an axis whose VEL level alone runs (R52, R55, R56, R63, R64) -/

namespace Sys2Proof.Machine

section
variable {d e f : Dev} {n : Nat}

/-! ## The turns of axes that do not evaluate -/

/-- Axes other than `n` have had turns in which they evaluated nothing. -/
structure Dev.Idles (n : Nat) (d e : Dev) : Prop where
  keeps : d.Keeps e [.axes]
  same : e.axis n = d.axis n
  beside : ∀ m, (e.axis m).beside = (d.axis m).beside

theorem Dev.Idles.refl (n : Nat) (d : Dev) : d.Idles n d := ⟨Dev.Keeps.refl _ _, rfl, fun _ => rfl⟩

theorem Dev.Idles.trans (h : d.Idles n e) (g : e.Idles n f) : d.Idles n f :=
  ⟨h.keeps.andThen g.keeps, g.same.trans h.same, fun m => (g.beside m).trans (h.beside m)⟩

theorem Dev.Idles.modAxis (h : d.Idles n e) {m : Nat} (far : n ≠ m) {g : Axis → Axis} (same : ∀ a, (g a).beside = a.beside) : d.Idles n (e.modAxis m g) := by
  refine ⟨h.keeps.modAxis _ _, (Dev.axis_modAxis_other _ _ far).trans h.same, fun k => ?_⟩
  by_cases own : k = m
  · subst own
    rw [Dev.axis_modAxis, same, h.beside]
  · rw [Dev.axis_modAxis_other _ _ own, h.beside]

theorem Dev.Idles.frozenSteps (h : d.Idles n e) {m : Nat} (far : n ≠ m) (on : Bool) : d.Idles n (e.frozenSteps m on) := by
  refine iterate_holds (fun f : Dev => d.Idles n f) 4 _ (fun l _ f hf => ?_) h
  unfold Dev.frozenStep
  generalize f.levelSample m l = pair
  obtain ⟨v, age⟩ := pair
  dsimp -zeta only
  have level : ∀ g, d.Idles n (f.modLevel m l g) := fun g => hf.modAxis far fun a => a.beside_putLev l _
  split
  · exact hf
  · extract_lets x mag
    split
    · exact level _
    · exact level _

theorem Dev.Idles.runs (h : d.Idles n e) (m : Nat) : e.evaluates m = d.evaluates m ∧ e.laneDown m = d.laneDown m := by
  have od : ∀ k, e.reg k = d.reg k := Dev.reg_congr (h.keeps .od (by decide))
  have now : e.tickAbs = d.tickAbs := by rw [Dev.tickAbs, Dev.tickAbs, h.keeps .clk (by decide)]
  have off : (e.axis m).beside.loopsOff = (d.axis m).beside.loopsOff := by rw [h.beside m]
  have at_ : (e.axis m).beside.closedAt = (d.axis m).beside.closedAt := by rw [h.beside m]
  have loopsOff : (e.axis m).loopsOff = (d.axis m).loopsOff := off
  have closedAt : (e.axis m).closedAt = (d.axis m).closedAt := at_
  refine ⟨?_, by rw [Dev.laneDown, Dev.laneDown, h.keeps .eng (by decide), Dev.nat, Dev.nat, od, now]⟩
  rw [Dev.evaluates, Dev.evaluates, Dev.closed, Dev.closed, Dev.axState, Dev.axState, Dev.nat, Dev.nat, od, loopsOff, closedAt, now]

theorem Dev.runAxes_idles (ns l : List Nat) (load : Nat) (full : Bool) (d : Dev) (out : ∀ m ∈ ns, n ≠ m ∧ d.evaluates m = false) :
    ∃ f, d.runAxes (ns ++ l) load full = f.runAxes l load full ∧ d.Idles n f := by
  induction ns generalizing d with
  | nil => exact ⟨d, rfl, .refl n d⟩
  | cons m r ih =>
    obtain ⟨far, off⟩ := out m List.mem_cons_self
    have turn : ∃ f, d.runAxes (m :: (r ++ l)) load full = f.runAxes (r ++ l) load full ∧ d.Idles n f := by
      rw [Dev.runAxes]
      extract_lets evals need lanes
      split
      · refine ⟨_, rfl, Dev.Idles.frozenSteps ?_ far _⟩
        refine Dev.Idles.modAxis (.refl n d) far ?_
        exact fun _ => rfl
      · rw [if_pos (by show (!d.evaluates m) = true; rw [off]; rfl)]
        refine ⟨_, rfl, Dev.Idles.frozenSteps ?_ far _⟩
        refine Dev.Idles.modAxis (.refl n d) far ?_
        exact fun _ => rfl
    obtain ⟨f, same, idles⟩ := turn
    obtain ⟨g, rest, next⟩ := ih f fun k hk => by
      obtain ⟨apart, not_⟩ := out k (List.mem_cons_of_mem _ hk)
      exact ⟨apart, by rw [(idles.runs k).1, not_]⟩
    exact ⟨g, same.trans rest, idles.trans next⟩

/-- The order of the control engine names every axis once. -/
theorem Dev.controlOrder_split (d : Dev) {n : Nat} (hn : n < 128) : ∃ ns r, d.controlOrder = ns ++ n :: r ∧ ∀ m, m ∈ ns ∨ m ∈ r → n ≠ m ∧ m < 128 := by
  have low : ∀ m ∈ d.controlOrder, m < 128 := fun m hm => by
    rw [Dev.controlOrder, List.mem_append, List.mem_filter, List.mem_filter, List.mem_range] at hm
    exact hm.elim And.left And.left
  have mem : n ∈ d.controlOrder := by
    rw [Dev.controlOrder, List.mem_append, List.mem_filter, List.mem_filter, List.mem_range]
    by_cases direct : d.reg (act (Reg.AX7_MODE n)) = 1
    · exact .inl ⟨hn, beq_iff_eq.2 direct⟩
    · exact .inr ⟨hn, bne_iff_ne.2 direct⟩
  have once : d.controlOrder.Nodup := by
    rw [Dev.controlOrder]
    refine List.Nodup.append (List.nodup_range.filter _) (List.nodup_range.filter _) fun m hm hm' => ?_
    have direct := (List.mem_filter.1 hm).2
    have other := (List.mem_filter.1 hm').2
    rw [beq_iff_eq] at direct
    rw [bne_iff_ne] at other
    exact other direct
  obtain ⟨ns, r, split⟩ := List.append_of_mem mem
  refine ⟨ns, r, split, fun m hm => ⟨?_, low m (by rw [split]; rcases hm with h | h <;> simp [h])⟩⟩
  rw [split] at once
  rintro rfl
  rcases hm with before | after
  · exact (List.nodup_append.1 once).2.2 n before n List.mem_cons_self rfl
  · exact (List.nodup_cons.1 (List.nodup_append.1 once).2.1).1 after

/-! ## The VEL level -/

/-- What is shown of the VEL level. -/
structure Dev.VelIs (n : Nat) (e : Dev) (q : ChannelOut) (stale : Nat) : Prop where
  out : (e.axis n).velL.out = q.u
  secs : (e.axis n).velL.secs = q.secs
  stale : (e.axis n).stale = stale

variable {q : ChannelOut} {k : Nat}

theorem Dev.VelIs.same (h : d.VelIs n q k) (axis : e.axis n = d.axis n) : e.VelIs n q k :=
  ⟨by rw [axis, h.out], by rw [axis, h.secs], by rw [axis, h.stale]⟩

theorem Dev.VelIs.modAxis (h : d.VelIs n q k) {g : Axis → Axis}
    (same : ∀ a, (g a).velL.out = a.velL.out ∧ (g a).velL.secs = a.velL.secs ∧ (g a).stale = a.stale) : (d.modAxis n g).VelIs n q k := by
  obtain ⟨out, secs, stale⟩ := same (d.axis n)
  exact ⟨by rw [Dev.axis_modAxis, out, h.out], by rw [Dev.axis_modAxis, secs, h.secs], by rw [Dev.axis_modAxis, stale, h.stale]⟩

theorem Dev.VelIs.modLevel (h : d.VelIs n q k) (level : Nat) {g : Level → Level} (same : ∀ x, (g x).out = x.out ∧ (g x).secs = x.secs) :
    (d.modLevel n level g).VelIs n q k := by
  refine h.modAxis fun a => ?_
  unfold Axis.putLev Axis.lev
  split
  · exact ⟨rfl, rfl, rfl⟩
  · exact ⟨(same _).1, (same _).2, rfl⟩
  · exact ⟨rfl, rfl, rfl⟩
  · exact ⟨rfl, rfl, rfl⟩

theorem Dev.VelIs.when (h : d.VelIs n q k) (b : Bool) (g : Dev → Dev) (then_ : (g d).VelIs n q k) : (d.when b g).VelIs n q k := by
  unfold Dev.when
  split
  · exact then_
  · exact h

theorem Dev.VelIs.frozenSteps (h : d.VelIs n q k) (on : Bool) : (d.frozenSteps n on).VelIs n q k := by
  refine iterate_holds (fun f : Dev => f.VelIs n q k) 4 _ (fun l _ f hf => ?_) h
  unfold Dev.frozenStep
  generalize f.levelSample n l = pair
  obtain ⟨v, age⟩ := pair
  dsimp -zeta only
  split
  · exact hf
  · extract_lets x mag
    split
    · refine hf.modLevel l ?_
      exact fun _ => ⟨rfl, rfl⟩
    · refine hf.modLevel l ?_
      exact fun _ => ⟨rfl, rfl⟩

theorem Dev.VelIs.stick (h : d.VelIs n q k) (b : Bool) (bit : Nat) : (d.stick n b bit).VelIs n q k := h.when b _ (h.same rfl)

/-- The VEL level closed. -/
theorem Dev.closeLevel_vel (d : Dev) (n : Nat) (q : ChannelOut) (junction ff : Bool) (sigs sigsD : Signals) :
    (d.closeLevel n 1 q none junction ff sigs sigsD).VelIs n q (d.axis n).stale := by
  unfold Dev.closeLevel
  extract_lets sat stores aw D now x y old z old' w
  have velX : x.VelIs n q (d.axis n).stale := by
    constructor <;> (show _ = _; dsimp only [x, Dev.modLevel]; rw [Dev.axis_modAxis]; rfl)
  clear_value x
  have velY : y.VelIs n q (d.axis n).stale := ((velX.stick _ _).stick _ _).stick _ _
  clear_value y
  have velZ : z.VelIs n q (d.axis n).stale := velY.same rfl
  clear_value z
  show (w.toInner n 1 q.u).VelIs n q _
  have velW : w.VelIs n q (d.axis n).stale := velZ
  clear_value w
  unfold Dev.toInner
  rw [if_neg (by decide)]
  refine velW.modLevel 0 ?_
  exact fun _ => ⟨rfl, rfl⟩

/-- The evaluation of VEL without feed-forward, interpolation, injection or a pending switch. -/
theorem Dev.velLevel_plain (d : Dev) {n : Nat} (gen : d.genOn n 1 = none) (ff : d.nat (act (Reg.AX7_FF_VEL n)) ≠ 2)
    (interp : d.setting n (Reg.AX7_INTERP n) = 0) (src : d.setting n (Reg.AX10_VEL_SRC n) ≠ 1) (bump : (d.axis n).velL.bump = false) :
    (d.velLevel n).VelIs n (channel (Bank.parse (d.image n 1)) (d.axis n).velL.secs none
      (satBits 32 (satBits 32 (d.axis n).velL.spNew - (fullScale (d.axis n).fb.vel.val (d.reg (act (Reg.AX7_FSX_VEL n)))).1)) [0, 0] none)
      (d.axis n).stale := by
  have alone : d.injection n 1 = (none, d) := by rw [Dev.injection, gen]
  obtain ⟨w, outer, secs, bumpW, stale, vel⟩ : ∃ w : Dev, d.fromOuter n 1 = ((d.axis n).velL.spNew, false, w) ∧ (w.axis n).velL.secs = (d.axis n).velL.secs ∧
      (w.axis n).velL.bump = false ∧ (w.axis n).stale = (d.axis n).stale ∧ w.measuredVel n = (d.axis n).fb.vel.val := by
    have keeps : d.Keeps (d.modLevel n 1 fun x => { x with spPrev := x.spNew, step := x.step + 1 }) [.axes] := d.keeps_modAxis n _
    refine ⟨d.modLevel n 1 fun x => { x with spPrev := x.spNew, step := x.step + 1 }, ?_, ?_, ?_, ?_, ?_⟩
    · unfold Dev.fromOuter
      rw [interp]
      rfl
    · rw [Dev.modLevel, Dev.axis_modAxis]
      rfl
    · rw [Dev.modLevel, Dev.axis_modAxis]
      exact bump
    · rw [Dev.modLevel, Dev.axis_modAxis]
      rfl
    · have setting : (d.modLevel n 1 fun x => { x with spPrev := x.spNew, step := x.step + 1 }).setting n (Reg.AX10_VEL_SRC n) = d.setting n (Reg.AX10_VEL_SRC n) := by
        rw [Dev.setting, Dev.setting, Dev.modLevel, Dev.axis_modAxis]
        rfl
      rw [Dev.measuredVel, setting, if_neg src, Dev.modLevel, Dev.axis_modAxis]
      rfl
  unfold Dev.velLevel
  extract_lets b fsx accel
  have plain : accel = false := beq_eq_false_iff_ne.2 ff
  rw [alone]
  dsimp -zeta only
  rw [outer, plain]
  dsimp -zeta only
  rw [vel]
  extract_lets r y x c
  have value : c = channel (Bank.parse (d.image n 1)) (d.axis n).velL.secs none
      (satBits 32 (satBits 32 (d.axis n).velL.spNew - (fullScale (d.axis n).fb.vel.val (d.reg (act (Reg.AX7_FSX_VEL n)))).1)) [0, 0] none := by
    have error : (satSum ((satSum (r - y)).1 + injAt none 1 false)).1 =
        satBits 32 (satBits 32 (d.axis n).velL.spNew - (fullScale (d.axis n).fb.vel.val (d.reg (act (Reg.AX7_FSX_VEL n)))).1) := by
      simp [r, y, fsx, satSum, injAt, fullScale, satBits_satBits]
    have states : x.secs = (d.axis n).velL.secs := secs
    have bumps : bumpOf x x.ctl = none := by
      have no : x.bump = false := bumpW
      rw [bumpOf, no]
      rfl
    show channel _ _ _ _ _ _ = _
    rw [error, states, bumps]
    rfl
  have closed := w.closeLevel_vel n c ((satSum (r - y)).2 || (satSum ((satSum (r - y)).1 + injAt none 1 false)).2)
  rw [stale, value] at closed
  rw [value]
  exact closed _ _ _

/-- An entry of an axis that a turn leaves. -/
theorem engReg_free {k : Nat} (place : 0x2000 ≤ k / 256 ∧ k / 256 < 0x3000) (out : k / 256 % 16 ≠ 8 ∧ k / 256 % 16 ≠ 10) : ¬EngReg k := by
  rintro (log | is | is | is)
  · exact axis_not_log place log
  all_goals omega

theorem Dev.Turns.evaluates (h : d.Turns n e) {m : Nat} (hm : m < 128) : e.evaluates m = d.evaluates m := by
  have now : e.tickAbs = d.tickAbs := by rw [Dev.tickAbs, Dev.tickAbs, h.keeps .clk (by decide)]
  have state : e.reg (Reg.AX1_STATE m) = d.reg (Reg.AX1_STATE m) :=
    h.regs _ (engReg_free (by simp only [Reg.AX1_STATE, Reg.key]; omega) (by simp only [Reg.AX1_STATE, Reg.key]; omega))
  have beside : (e.axis m).beside = (d.axis m).beside := by
    by_cases own : m = n
    · subst own
      exact h.own
    · rw [h.other m own]
  have off : (e.axis m).beside.loopsOff = (d.axis m).beside.loopsOff := by rw [beside]
  have at_ : (e.axis m).beside.closedAt = (d.axis m).beside.closedAt := by rw [beside]
  have loopsOff : (e.axis m).loopsOff = (d.axis m).loopsOff := off
  have closedAt : (e.axis m).closedAt = (d.axis m).closedAt := at_
  rw [Dev.evaluates, Dev.evaluates, Dev.closed, Dev.closed, Dev.axState, Dev.axState, Dev.nat, Dev.nat, state, loopsOff, closedAt, now]

theorem Dev.levels_congr (od : e.od = d.od) (n level t : Nat) : e.levelRuns n level t = d.levelRuns n level t ∧ e.direct n = d.direct n := by
  have regs : ∀ k, e.reg k = d.reg k := Dev.reg_congr od
  have direct : e.direct n = d.direct n := by rw [Dev.direct, Dev.direct, regs]
  have on : e.levelOn n level = d.levelOn n level := by
    unfold Dev.levelOn
    split
    · exact direct
    · rw [Dev.flag, Dev.flag, regs]
    · rfl
  refine ⟨?_, direct⟩
  rw [Dev.levelRuns, Dev.levelRuns, on, Dev.levelDiv, Dev.levelDiv, Dev.levelPhase, Dev.levelPhase, Dev.nat, Dev.nat, Dev.nat, Dev.nat, regs, regs]

/-- Nothing but axes changed: the load of an axis is the same. -/
theorem Dev.axisLoad_congr (od : e.od = d.od) (dom : e.dom = d.dom) (clk : e.clk = d.clk) (n : Nat) :
    e.axisLoad n e.clk.tick (e.image n) = d.axisLoad n d.clk.tick (d.image n) := by
  have bytes : ∀ k, e.bytes k = d.bytes k := fun k => by rw [Dev.bytes, Dev.bytes, dom]
  rw [Dev.axisLoad, Dev.axisLoad]
  refine congrArg List.sum (List.map_congr_left fun l _ => ?_)
  rw [Dev.levelLoad, Dev.levelLoad, clk, (Dev.levels_congr od n l d.clk.tick).1, Dev.image, Dev.image, bytes]

theorem Dev.genOn_congr (ident : e.ident = d.ident) (regs : ∀ g < 16, e.reg (Reg.R3430_AXIS g) = d.reg (Reg.R3430_AXIS g) ∧
    e.reg (Reg.R3430_LEVEL g) = d.reg (Reg.R3430_LEVEL g)) (n level : Nat) : e.genOn n level = d.genOn n level := by
  rw [Dev.genOn, Dev.genOn]
  refine List.find?_congr fun g hg => ?_
  obtain ⟨axis, lev⟩ := regs g (List.mem_range.1 hg)
  rw [Dev.injGen, Dev.injGen, ident, Dev.nat, Dev.nat, Dev.nat, Dev.nat, axis, lev]

/-- What the level gives of an axis whose feedback is in place. -/
def Dev.velOutput (d : Dev) (n : Nat) (vel : Int) : ChannelOut :=
  channel (Bank.parse (d.image n 1)) (d.axis n).velL.secs none
    (satBits 32 (satBits 32 (d.axis n).velL.spNew - (fullScale vel (d.reg (act (Reg.AX7_FSX_VEL n)))).1)) [0, 0] none

theorem Dev.when_off {b : Bool} (g : Dev → Dev) (off : b = false) : d.when b g = d := by
  rw [off]
  rfl

theorem Dev.when_on {b : Bool} (g : Dev → Dev) (on : b = true) : d.when b g = g d := by
  rw [on]
  rfl

/-- The cascade of an axis whose VEL level alone runs. -/
theorem Dev.cascade_plain (d : Dev) {n : Nat} (hn : n < 128) (inner : d.levelRuns n 1 d.clk.tick = true) (two : d.levelRuns n 2 d.clk.tick = false)
    (three : d.levelRuns n 3 d.clk.tick = false) (direct : d.direct n = false) (gen : d.genOn n 1 = none) (ff : d.nat (act (Reg.AX7_FF_VEL n)) ≠ 2)
    (interp : d.setting n (Reg.AX7_INTERP n) = 0) (src : d.setting n (Reg.AX10_VEL_SRC n) ≠ 1) (bump : (d.axis n).velL.bump = false) :
    (d.cascade n).VelIs n (d.velOutput n (d.axis n).fb.vel.val) 0 := by
  obtain ⟨x, hx⟩ : ∃ x, x = d.modAxis n fun a => { a with before := [a.cur, a.velL, a.posL, a.auxL], staleWas := a.stale, stale := 0 } := ⟨_, rfl⟩
  have keepsX : d.Keeps x [.axes] := by rw [hx]; exact d.keeps_modAxis n _
  have axisX : x.axis n = { d.axis n with before := [(d.axis n).cur, (d.axis n).velL, (d.axis n).posL, (d.axis n).auxL], staleWas := (d.axis n).stale, stale := 0 } := by
    rw [hx, Dev.axis_modAxis]
  have od : x.od = d.od := keepsX .od (by decide)
  have reads : ∀ l t, x.levelRuns n l t = d.levelRuns n l t := fun l t => (Dev.levels_congr od n l t).1
  have directX : x.direct n = false := (Dev.levels_congr od n 0 0).2.trans direct
  have genX : x.genOn n 1 = none := (Dev.genOn_congr (keepsX .ident (by decide)) (fun g _ => ⟨Dev.reg_congr od _, Dev.reg_congr od _⟩) n 1).trans gen
  have settingX : ∀ k, x.setting n k = d.setting n k := fun k => by
    rw [Dev.setting, Dev.setting, axisX, Dev.tickAbs, Dev.tickAbs, keepsX .clk (by decide), Dev.reg_congr (keepsX .od (by decide))]
  have level := x.velLevel_plain genX (by rw [Dev.nat_congr (keepsX .od (by decide))]; exact ff) (by rw [settingX]; exact interp)
    (by rw [settingX]; exact src) (by rw [axisX]; exact bump)
  have image : x.image n 1 = d.image n 1 := keepsX.bytes _ (by decide)
  rw [axisX, image, Dev.reg_congr (keepsX .od (by decide))] at level
  have cascade : d.cascade n = (x.velLevel n).when ((x.velLevel n).levelRuns n 0 d.clk.tick) fun d => d.curLevel n := by
    unfold Dev.cascade
    extract_lets t x' y z w
    have eqX : x' = x := hx.symm
    clear_value x'
    subst eqX
    have eqY : y = x' := by
      exact Dev.when_off _ ((reads 3 t).trans three)
    clear_value y
    subst eqY
    have eqZ : z = y := by
      exact Dev.when_off _ ((reads 2 t).trans two)
    clear_value z
    subst eqZ
    have eqW : w = z.velLevel n := by
      exact Dev.when_on _ ((reads 1 t).trans inner)
    rw [eqW]
  have directV : (x.velLevel n).direct n = false := by
    have turns := (Dev.Turns.refl n x).velLevel
    have mode := turns.regs (act (Reg.AX7_MODE n)) (engReg_free (by simp only [act, Reg.AX7_MODE, Reg.key]; omega) (by simp only [act, Reg.AX7_MODE, Reg.key]; omega))
    rw [Dev.direct, mode, ← Dev.direct, directX]
  have no : (x.velLevel n).levelRuns n 0 d.clk.tick = false := by
    rw [Dev.levelRuns, Dev.levelOn, directV, Bool.false_and]
  rw [cascade, no]
  exact level

end

section
variable {s : State} (live : s.Live)
include live

theorem controlEngineRun_evaluates {n : Nat} (hn : n < 128) (may : s.found.mayRun = true) (evals : s.found.evaluates n = true)
    (alone : ∀ m < 128, m ≠ n → s.found.evaluates m = false) (up : s.found.laneDown n = false)
    (inner : s.found.levelRuns n 1 s.found.clk.tick = true) (two : s.found.levelRuns n 2 s.found.clk.tick = false)
    (three : s.found.levelRuns n 3 s.found.clk.tick = false) (direct : s.found.direct n = false) (lanes : s.found.nat Reg.R2800_LANES_WORKING ≠ 0)
    (load : s.found.axisLoad n s.found.clk.tick (s.found.image n) ≤ 5000 * s.found.nat Reg.R2800_LANES_WORKING) (gen : s.found.genOn n 1 = none)
    (ff : s.found.nat (act (Reg.AX7_FF_VEL n)) ≠ 2) (interp : s.found.setting n (Reg.AX7_INTERP n) = 0)
    (src : s.found.setting n (Reg.AX10_VEL_SRC n) ≠ 1) (bump : (s.found.axis n).velL.bump = false)
    (old : ∀ m < 128, ((s.found.axis m).fbIn.asOf s.found.tickAbs).vdc.age ≠ 0) : Does .controlEngineRun s fun b a =>
      (a.axis n).velL.out = (b.velOutput n (b.axis n).fbIn.vel.val).u ∧ (a.axis n).velL.secs = (b.velOutput n (b.axis n).fbIn.vel.val).secs ∧
      (a.axis n).stale = 0 ∧ a.lateC = [] := by
  obtain ⟨o, x, y, z, w, e, ho, hx, hy, hz, hw, made, result⟩ := controlRun_stages may
  have keepsO : s.found.Keeps o [.ph] := by rw [ho]; exact s.found.keeps_at _
  obtain ⟨fbX, -⟩ := o.takeImages_take
  have now : o.tickAbs = s.found.tickAbs := by rw [ho]; rfl
  have imagesO : s.found.Images o := (Dev.Images.refl s.found).of_keeps keepsO
  have imagesX : o.Images x := by
    rw [hx]
    exact o.takeImages_images fun m hm => by rw [now, keepsO.axis m (by decide)]; exact old m hm
  have imagesY : x.Images y := by
    rw [hy]
    refine Dev.Images.of_keeps (l := [.lateC]) (.refl x) fun p hp => ?_
    cases p with
    | lateC => simp at hp
    | _ => rfl
  have images : s.found.Images y := (imagesO.trans imagesX).trans imagesY
  have fbY : (y.axis n).fb.vel.val = (s.found.axis n).fbIn.vel.val := by
    have axis : y.axis n = x.axis n := by rw [hy]; rfl
    have fb := fbX n hn
    rw [← hx] at fb
    rw [axis, fb, keepsO.axis n (by decide)]
    rfl
  obtain ⟨ns, r, order, others⟩ := y.controlOrder_split hn
  have off : ∀ m, m ∈ ns ∨ m ∈ r → n ≠ m ∧ y.evaluates m = false := fun m hm => by
    obtain ⟨far, low⟩ := others m hm
    exact ⟨far, by rw [(images.runs low).1]; exact alone m low (Ne.symm far)⟩
  obtain ⟨f, first, idles⟩ := y.runAxes_idles ns (n :: r) 0 false fun m hm => off m (.inl hm)
  have odF : f.od = y.od := idles.keeps .od (by decide)
  have clkF : f.clk = s.found.clk := (idles.keeps .clk (by decide)).trans (images.keeps .clk (by decide))
  have clkY : y.clk = s.found.clk := images.keeps .clk (by decide)
  have levels : ∀ l < 4, f.levelRuns n l f.clk.tick = s.found.levelRuns n l s.found.clk.tick := fun l hl => by
    rw [clkF, (Dev.levels_congr odF n l _).1, (images.levels hn l _).2.2 hl]
  have directF : f.direct n = false := by rw [(Dev.levels_congr odF n 0 0).2, (images.levels hn 0 0).1, direct]
  have genF : f.genOn n 1 = none := by
    have apart : ∀ g < 16, ¬ImageReg (Reg.R3430_AXIS g) ∧ ¬ImageReg (Reg.R3430_LEVEL g) := by
      intro g hg
      have far : Reg.R3430_AXIS g ∉ logRegs ∧ Reg.R3430_LEVEL g ∉ logRegs := by
        revert g
        decide +kernel
      refine ⟨?_, ?_⟩
      · rintro (log | ⟨low, -⟩)
        · exact far.1 log
        · simp only [Reg.R3430_AXIS, Reg.key] at low; omega
      · rintro (log | ⟨low, -⟩)
        · exact far.2 log
        · simp only [Reg.R3430_LEVEL, Reg.key] at low; omega
    have same := Dev.genOn_congr (d := s.found) (e := f) ((idles.keeps .ident (by decide)).trans (images.keeps .ident (by decide)))
      (fun g hg => by rw [Dev.reg_congr odF, Dev.reg_congr odF, images.regs _ (apart g hg).1, images.regs _ (apart g hg).2]; exact ⟨rfl, rfl⟩) n 1
    rw [same, gen]
  have structureF : ∀ i < 256, f.reg (Reg.key (0x2007 + 16 * n) i) = s.found.reg (Reg.key (0x2007 + 16 * n) i) := fun i hi => by
    rw [Dev.reg_congr odF, images.structure hn hi]
  have settingF : ∀ k, ¬ImageReg k → f.setting n k = s.found.setting n k := fun k free => by
    rw [Dev.setting, Dev.tickAbs, idles.same, Dev.reg_congr odF, idles.keeps .clk (by decide), ← Dev.tickAbs, ← Dev.setting, images.setting n free]
  have velF : (f.axis n).velL = (s.found.axis n).velL := by
    have course : (y.axis n).course.velL = (s.found.axis n).course.velL := by rw [images.axes n]
    rw [idles.same]
    exact course
  have interpF : f.setting n (Reg.AX7_INTERP n) = 0 := by
    rw [settingF _ (image_free (by simp only [Reg.AX7_INTERP, Reg.key]; omega) (by simp only [Reg.AX7_INTERP, Reg.key]; omega)), interp]
  have srcF : f.setting n (Reg.AX10_VEL_SRC n) ≠ 1 := by
    rw [settingF _ (image_free (by simp only [Reg.AX10_VEL_SRC, Reg.key]; omega) (by simp only [Reg.AX10_VEL_SRC, Reg.key]; omega))]
    exact src
  have vel := f.cascade_plain hn ((levels 1 (by decide)).trans inner) ((levels 2 (by decide)).trans two) ((levels 3 (by decide)).trans three) directF genF
    (by rw [Dev.nat, structureF 0x92 (by decide)]; exact ff) interpF srcF (by rw [velF]; exact bump)
  have output : f.velOutput n (f.axis n).fb.vel.val = s.found.velOutput n (s.found.axis n).fbIn.vel.val := by
    have image : f.image n 1 = s.found.image n 1 := (idles.keeps.bytes _ (by decide)).trans (images.keeps.bytes _ (by decide))
    have fsx : f.reg (act (Reg.AX7_FSX_VEL n)) = s.found.reg (act (Reg.AX7_FSX_VEL n)) := structureF 0x8D (by decide)
    rw [Dev.velOutput, Dev.velOutput, image, velF, fsx, idles.same, fbY]
  rw [output] at vel
  obtain ⟨g, hg⟩ : ∃ g, g = (f.cascade n).frozenSteps n true := ⟨_, rfl⟩
  have velG : g.VelIs n (s.found.velOutput n (s.found.axis n).fbIn.vel.val) 0 := by rw [hg]; exact vel.frozenSteps true
  have turnG : f.Turns n g := by rw [hg]; exact ((Dev.Turns.refl n f).cascade).frozenSteps true
  have own : ∃ load, f.runAxes (n :: r) 0 false = g.runAxes r load false := by
    refine ⟨0 + f.axisLoad n f.clk.tick (f.image n), ?_⟩
    have evalF : f.evaluates n = true := by rw [(idles.runs n).1, (images.runs hn).1, evals]
    have upF : f.laneDown n = false := by rw [(idles.runs n).2, (images.runs hn).2, up]
    have loadF : f.axisLoad n f.clk.tick (f.image n) = s.found.axisLoad n s.found.clk.tick (s.found.image n) := by
      rw [Dev.axisLoad_congr odF (idles.keeps .dom (by decide)) (idles.keeps .clk (by decide)), images.load hn]
    have lanesF : f.nat Reg.R2800_LANES_WORKING = s.found.nat Reg.R2800_LANES_WORKING := by
      rw [Dev.nat, Dev.reg_congr odF, images.regs _ (by decide), ← Dev.nat]
    rw [Dev.runAxes, if_neg (by rw [upF]; decide), if_neg (by rw [evalF]; decide), if_neg ?_, hg]
    rw [lanesF, loadF]
    rintro (none_ | ⟨-, no | more⟩)
    · exact lanes none_
    · cases no
    · omega
  obtain ⟨load', turn⟩ := own
  obtain ⟨h, last, rest⟩ := g.runAxes_idles r [] load' false fun m hm => by
    obtain ⟨far, not_⟩ := off m (.inr hm)
    exact ⟨far, by rw [turnG.evaluates (others m (.inr hm)).2, (idles.runs m).1, not_]⟩
  have eqZ : z = h := by
    rw [List.append_nil] at last
    rw [hz, order, first, turn, last]
    rfl
  have velZ : z.VelIs n (s.found.velOutput n (s.found.axis n).fbIn.vel.val) 0 := by rw [eqZ]; exact velG.same rest.same
  have pushed : w.VelIs n (s.found.velOutput n (s.found.axis n).fbIn.vel.val) 0 ∧ z.Keeps w turnParts := by
    rw [hw]
    refine iterate_holds (fun f : Dev => f.VelIs n (s.found.velOutput n (s.found.axis n).fbIn.vel.val) 0 ∧ z.Keeps f turnParts) 128 _ (fun m hm k hk => ?_)
      ⟨velZ, Dev.Keeps.refl _ _⟩
    have turns := (Dev.Turns.refl m k).pushRun
    refine ⟨?_, hk.2.andThen turns.keeps⟩
    by_cases same : n = m
    · subst same
      refine hk.1.when _ _ (hk.1.modAxis ?_)
      exact fun _ => ⟨rfl, rfl, rfl⟩
    · exact hk.1.same (turns.other n same)
  obtain ⟨velW, keepsW⟩ := pushed
  have keepsE : w.Keeps e [.eng] := by
    rw [made]
    intro p hp
    cases p with
    | eng => simp at hp
    | _ => rfl
  have velE : e.VelIs n (s.found.velOutput n (s.found.axis n).fbIn.vel.val) 0 := velW.same (keepsE.axis n (by decide))
  have keepsZ : y.Keeps z turnParts := by
    rw [eqZ]
    exact ((idles.keeps.mono (by decide)).andThen turnG.keeps).step rest.keeps
  have lateC : e.lateC = [] := by
    have none_ : y.lateC = [] := by rw [hy]
    rw [keepsE .lateC (by decide), keepsW .lateC (by decide), keepsZ .lateC (by decide), none_]
  have keeps : s.found.Keeps e (.ph :: .lateC :: .eng :: turnParts) :=
    (((images.keeps.mono (by decide)).step keepsZ).step keepsW).step keepsE
  exact Leaves.does (.cell (fun d => d.controlRun) live.passes result keeps) fun _ _ => ⟨velE.out, velE.secs, velE.stale, lateC⟩

end

end Sys2Proof.Machine
end

section
/-! # A reaction of an axis of no chain and no injection (R31, R69 to R73) -/

namespace Sys2Proof.Machine

section
variable {d e f : Dev} {n : Nat}

/-! ## What a reaction without an injection does not log -/

/-- The parts that a reaction without an injection may change. -/
abbrev calmParts : List Part := [.od, .axes, .safe, .chains]

theorem Dev.abortInjection_none (quiet : d.injectedAxis n = false) : d.abortInjection n = d := by
  refine iterate_idle fun g hg => if_neg fun runs => ?_
  rw [Dev.injectedAxis, List.any_eq_false] at quiet
  exact quiet g (List.mem_range.2 hg) runs

theorem Dev.injected_congr (ident : e.ident = d.ident) (regs : ∀ g < 16, e.reg (Reg.R3430_AXIS g) = d.reg (Reg.R3430_AXIS g)) :
    e.injectedAxis n = d.injectedAxis n := by
  rw [Dev.injectedAxis, Dev.injectedAxis, Bool.eq_iff_iff, List.any_eq_true, List.any_eq_true]
  refine exists_congr fun g => and_congr_right fun hg => ?_
  rw [Dev.injGen, Dev.injGen, ident, Dev.nat, Dev.nat, regs g (List.mem_range.1 hg)]

theorem Dev.keeps_cutTorque (d : Dev) (code : Nat) (quiet : d.injectedAxis n = false) : d.Keeps (d.cutTorque n code) calmParts := by
  unfold Dev.cutTorque
  rw [Dev.abortInjection_none quiet]
  extract_lets aborted faulted shown opened still before unmonitored
  have keepsF : d.Keeps faulted calmParts := Dev.Keeps.set (Dev.Keeps.set (Dev.Keeps.refl d calmParts) _ _) _ _
  clear_value faulted
  have keepsS : d.Keeps shown calmParts := (keepsF.set _ _).set _ _
  clear_value shown
  have keepsO : d.Keeps opened calmParts := keepsS.modAxis _ _
  clear_value opened
  have keepsT : d.Keeps still calmParts := ((keepsO.set _ _).set _ _).set _ _
  clear_value still
  have keepsU : d.Keeps unmonitored calmParts := keepsT.step (still.keeps_safe _)
  clear_value unmonitored
  split
  · exact keepsU.step (Dev.keeps_modChain _ _ _)
  · exact keepsU

theorem Dev.keeps_brakes (d : Dev) (n r : Nat) : d.Keeps (d.brakes n r) calmParts := by
  have ramp : d.Keeps (d.rampsBy n r) calmParts := by
    have kept : d.Keeps (d.emergencyRamp n) calmParts := (d.keeps_emergencyRamp n).mono (by decide)
    exact kept.andThen (Dev.Keeps.when _ _ ((Dev.keeps_modAxis _ _ _).mono (by decide)))
  unfold Dev.brakes
  generalize d.rampsBy n r = x at *
  obtain ⟨y, made⟩ : ∃ y, y = (x.setAxState n AxState.stopping).modAxis n (·.reacting r) := ⟨_, rfl⟩
  have keepsY : d.Keeps y calmParts := by
    rw [made]
    exact (ramp.set _ _).modAxis _ _
  rw [← made]
  refine keepsY.andThen (Dev.Keeps.when _ _ ?_)
  exact Dev.Keeps.set ((Dev.keeps_safe y _).mono (by decide)) _ _

theorem Dev.named_calm (d : Dev) (hn : n < 128) (code r : Nat) : d.Keeps (d.named n code r) calmParts ∧
    (d.named n code r).injectedAxis n = d.injectedAxis n ∧ d.Reacts (· = n) (fun _ => False) (d.named n code r) ∧
    (d.named n code r).reg (Reg.AX1_REACTION n) = (odType (Reg.AX1_REACTION n)).wrap r ∧ ((d.named n code r).axis n).cause = code := by
  have kept : d.Keeps (d.named n code r) calmParts := by
    unfold Dev.named
    exact (Dev.Keeps.set (Dev.Keeps.refl d calmParts) _ _).modAxis _ _
  refine ⟨kept, Dev.injected_congr (kept .ident (by decide)) fun g hg => ?_,
    ((Dev.Reacts.refl (· = n) (fun _ => False) d).setOwn (n := n) rfl (by omega) (k := Reg.AX1_REACTION n) r).modAxis rfl _, ?_, ?_⟩
  · rw [Dev.named, Dev.reg_modAxis, Dev.reg_set_other]
    simp only [Reg.R3430_AXIS, Reg.AX1_REACTION, Reg.key]
    omega
  · rw [Dev.named, Dev.reg_modAxis, Dev.reg_set_same]
  · rw [Dev.named, Dev.axis_modAxis]
    rfl

/-- What QSTOP and SS1 change, without an injection and a chain. -/
theorem Dev.carryOut_keeps (d : Dev) (hn : n < 128) (free : d.chainOf n = none) (quiet : d.injectedAxis n = false) (code : Nat) {r : Nat}
    (brakes : r = Reaction.qstop ∨ r = Reaction.ss1) : d.Keeps (d.carryOut n code r) calmParts := by
  rw [Dev.carryOut_brakes d n code brakes]
  obtain ⟨kept, quiet', reacts, -, -⟩ := d.named_calm hn code r
  rw [quiet] at quiet'
  generalize d.named n code r = x at *
  rw [Dev.abortInjection_none quiet']
  have keepsY : d.Keeps (x.abandonHoming n) calmParts := kept.set _ _
  have reactsY : d.Reacts (· = n) (fun _ => False) (x.abandonHoming n) := reacts.abandonHoming rfl (by omega)
  generalize x.abandonHoming n = y at *
  have reactsZ : d.Reacts (· = n) (fun _ => False) (y.brakes n r) := reactsY.brakes (Dev.MayReact.alone d (by omega) free).toMayStop r
  rw [Dev.chainStop_none ((reactsZ.chainOf n).trans free)]
  exact keepsY.andThen (y.keeps_brakes n r)

/-! ## STO -/

theorem Dev.cutTorque_cause (d : Dev) (n code : Nat) : ((d.cutTorque n code).axis n).cause = ((d.abortInjection n).axis n).cause := by
  unfold Dev.cutTorque
  extract_lets aborted faulted shown opened still before unmonitored
  have eqA : d.abortInjection n = aborted := rfl
  rw [eqA]
  clear_value aborted
  have axisS : shown.axis n = aborted.axis n := rfl
  clear_value shown
  have axisO : (opened.axis n).cause = (shown.axis n).cause := by
    show ((shown.modAxis n _).axis n).cause = _
    rw [Dev.axis_modAxis]
  clear_value opened
  have axisT : still.axis n = opened.axis n := rfl
  clear_value still
  have axisU : (unmonitored.axis n).cause = (aborted.axis n).cause :=
    (congrArg Axis.cause (show unmonitored.axis n = still.axis n from rfl)).trans ((congrArg Axis.cause axisT).trans (axisO.trans (congrArg Axis.cause axisS)))
  clear_value unmonitored before
  split
  · exact axisU
  · exact axisU

/-- The entries that STO of an axis without an injection writes. -/
abbrev stoRegs (n : Nat) : List Nat := [Reg.AX11_HOME_STATE n, Reg.AX1_STATE n, Reg.AX1_FAULT_CODE n, Reg.R5080_SAFE_STATE n, Reg.AX5_SET_VEL n,
  Reg.AX5_SET_ACC n, Reg.AX5_ACTIVE_CMD n]

theorem Dev.regs_cutTorque (d : Dev) (code : Nat) (quiet : d.injectedAxis n = false) : d.KeepsRegs (d.cutTorque n code) (stoRegs n) := by
  intro k hk
  simp only [List.mem_cons, List.not_mem_nil, or_false, not_or] at hk
  obtain ⟨home, state, fault, safe, vel, acc, cmd⟩ := hk
  unfold Dev.cutTorque
  rw [Dev.abortInjection_none quiet]
  extract_lets aborted faulted shown opened still before unmonitored
  have regF : faulted.reg k = d.reg k := (Dev.reg_set_other _ _ state).trans (Dev.reg_set_other _ _ home)
  clear_value faulted
  have regS : shown.reg k = faulted.reg k := (Dev.reg_set_other _ _ safe).trans (Dev.reg_set_other _ _ fault)
  clear_value shown
  have regO : opened.reg k = shown.reg k := rfl
  clear_value opened
  have regT : still.reg k = opened.reg k := (Dev.reg_set_other _ _ cmd).trans ((Dev.reg_set_other _ _ acc).trans (Dev.reg_set_other _ _ vel))
  clear_value still
  have regU : unmonitored.reg k = d.reg k := regT.trans (regO.trans (regS.trans regF))
  clear_value unmonitored
  split
  · exact regU
  · exact regU

theorem stoRegs_apart {n : Nat} (hn : n < 128) : Reg.AX1_REACTION n ∉ stoRegs n := by
  revert n
  decide +kernel

/-- What STO leaves of an axis of no chain, without an injection. -/
theorem Dev.carryOut_cuts (d : Dev) (hn : n < 128) (free : d.chainOf n = none) (quiet : d.injectedAxis n = false) (code : Nat) {e : Dev}
    (made : e = d.carryOut n code Reaction.sto) : e.axState n = AxState.fault ∧ e.reg (Reg.AX1_REACTION n) = Reaction.sto ∧ (e.axis n).cause = code ∧
    d.Keeps e calmParts := by
  have stops : d.carryOut n code Reaction.sto = ((d.named n code Reaction.sto).cutTorque n code).chainStop n := by
    unfold Dev.carryOut
    extract_lets named homing began ramp by_ stopping monitored
    have begins : named = d.named n code Reaction.sto := rfl
    clear_value ramp by_ stopping monitored
    rw [if_pos rfl, begins]
  rw [stops] at made
  obtain ⟨kept, quiet', reacts, reaction, cause⟩ := d.named_calm hn code Reaction.sto
  rw [quiet] at quiet'
  rw [(struckRegs_apart hn).2.2.2.2.2.2.2] at reaction
  generalize d.named n code Reaction.sto = x at *
  have cut : d.Reacts (· = n) (fun _ => False) (x.cutTorque n code) := reacts.cutTorque (Dev.MayReact.alone d (by omega) free).toMayStop code
  rw [Dev.chainStop_none ((cut.chainOf n).trans free)] at made
  rw [made]
  obtain ⟨state, -⟩ := x.cutTorque_cuts hn code rfl
  refine ⟨state, ?_, ?_, kept.andThen (x.keeps_cutTorque code quiet')⟩
  · rw [x.regs_cutTorque code quiet' _ (stoRegs_apart hn), reaction]
    rfl
  · rw [Dev.cutTorque_cause, Dev.abortInjection_none quiet', cause]

/-! ## The reaction -/

/-- An axis of no chain has taken QSTOP, SS1 or STO, without an injection. -/
structure Dev.Struck (d e : Dev) (n code r : Nat) : Prop where
  state : e.axState n = if r = Reaction.sto then AxState.fault else AxState.stopping
  reaction : e.reg (Reg.AX1_REACTION n) = r
  cause : (e.axis n).cause = code
  keeps : d.Keeps e calmParts
  ramps : r ≠ Reaction.sto → d.Ramps e n code r

/-- A moving axis of no chain, without a reaction and an injection. -/
structure Dev.Calm (d : Dev) (n : Nat) : Prop where
  moving : d.axState n = AxState.moving
  quiet : (d.axis n).reactNow = 0
  free : d.chainOf n = none
  still : d.injectedAxis n = false

theorem Dev.Calm.react (calm : d.Calm n) (hn : n < 128) (code : Nat) {r : Nat} (strong : r = Reaction.qstop ∨ r = Reaction.ss1 ∨ r = Reaction.sto)
    (made : e = d.react n code r) : d.Struck e n code r := by
  obtain ⟨moving, quiet, free, still⟩ := calm
  rw [Dev.react_moving moving quiet strong] at made
  by_cases cut : r = Reaction.sto
  · subst cut
    obtain ⟨state, reaction, cause, keeps⟩ := d.carryOut_cuts hn free still code made
    exact ⟨state, reaction, cause, keeps, fun no => absurd rfl no⟩
  · have brakes : r = Reaction.qstop ∨ r = Reaction.ss1 := by tauto
    have ramps := d.carryOut_ramps hn free code brakes made
    refine ⟨by rw [if_neg cut]; exact ramps.state, ramps.reaction, ramps.cause, ?_, fun _ => ramps⟩
    rw [made]
    exact d.carryOut_keeps hn free still code brakes

/-- What is asked of a calm axis stands where its entries do. -/
theorem Dev.Calm.of_keeps {l : List Part} (calm : d.Calm n) (kept : d.Keeps e l) (within : ∀ p ∈ l, p ∈ [Part.od, .log, .event, .ph, .eng] := by decide)
    (regs : ∀ k, k = Reg.AX1_STATE n ∨ (∃ g < 16, k = Reg.R3430_AXIS g) ∨ (∃ c < 16, k = act (Reg.CH0_CHAIN_EN c)) → e.reg k = d.reg k) : e.Calm n := by
  have kept : d.Keeps e [Part.od, .log, .event, .ph, .eng] := kept.mono within
  refine ⟨?_, by rw [kept.axis n]; exact calm.quiet, ?_, ?_⟩
  · rw [← calm.moving, Dev.axState, Dev.axState, Dev.nat, Dev.nat, regs _ (.inl rfl)]
  · rw [← calm.free]
    refine List.find?_congr fun c hc => ?_
    simp only [Dev.chainEn, Dev.flag, regs _ (.inr (.inr ⟨c, List.mem_range.1 hc, rfl⟩)), Dev.members_congr (kept .dom (by decide))]
  · rw [← calm.still]
    exact Dev.injected_congr (kept .ident (by decide)) fun g hg => regs _ (.inr (.inl ⟨g, hg, rfl⟩))

end

end Sys2Proof.Machine
end

section
/-! # The overruns of the profile and the control engine (R31) -/

namespace Sys2Proof.Machine

section
variable {d e f : Dev} {n : Nat}

/-- Axes that were late take the reaction of the overrun, logged. -/
def Dev.strikeLate (d : Dev) (off code : Nat) (key : Nat → Nat) (ns : List Nat) : Dev :=
  each ns (fun n d =>
    let r := d.nat (key n)
    Dev.react (Dev.raiseAt d off code Kind.axis n r 0) n code r) d

theorem Dev.LoopsStand.strikeLate (d : Dev) (off code : Nat) (key : Nat → Nat) (ns : List Nat) : d.LoopsStand (d.strikeLate off code key ns) := by
  refine .each _ _ (.refl d) fun n _ f hf => ?_
  exact Dev.LoopsStand.react (hf.of_keeps (f.keeps_raiseAt _ _ _ _ _ _) fun k _ log => f.reg_raiseAt _ _ _ _ _ _ log) n code _

/-- What an overrun leaves of the one axis it strikes. -/
structure Dev.Strikes (d e : Dev) (n code r : Nat) : Prop where
  state : e.axState n = AxState.stopping
  cause : (e.axis n).cause = code
  motion : (e.axis n).motion = .ramp
  now : (e.axis n).reactNow = r
  setpoint : e.reg (Reg.AX5_SETPOINT n) = d.reg (Reg.AX5_SETPOINT n)
  raised : e.LastRaised code Kind.axis n

theorem Dev.Strikes.of_keeps {b a : Dev} {code r : Nat} {l : List Part} (h : d.Strikes e n code r) (regs : d.reg (Reg.AX5_SETPOINT n) = b.reg (Reg.AX5_SETPOINT n))
    (kept : e.Keeps a l) (stand : a.reg (Reg.AX1_STATE n) = e.reg (Reg.AX1_STATE n) ∧ a.reg (Reg.AX5_SETPOINT n) = e.reg (Reg.AX5_SETPOINT n))
    (within : ∀ p ∈ l, p ∈ [Part.od, .ph, .lateP, .lateC, .serve] := by decide) : b.Strikes a n code r := by
  have kept : e.Keeps a [Part.od, .ph, .lateP, .lateC, .serve] := kept.mono within
  have axis : a.axis n = e.axis n := kept.axis n
  obtain ⟨state, setpoint⟩ := stand
  exact ⟨by rw [← h.state, Dev.axState, Dev.axState, Dev.nat, Dev.nat, state], by rw [axis, h.cause], by rw [axis, h.motion], by rw [axis, h.now],
    by rw [setpoint, h.setpoint, regs], h.raised.of_keeps kept⟩

theorem strikeRegs_apart {n : Nat} (hn : n < 128) : Reg.AX5_SETPOINT n ∉ struckRegs n ∧ Reg.AX5_SETPOINT n / 4096 ≠ 0x343 ∧
    (∀ g < 16, Reg.R3430_AXIS g ∉ logRegs) ∧ (∀ c < 16, act (Reg.CH0_CHAIN_EN c) ∉ logRegs) ∧
    Reg.AX5_SETPOINT n ∉ overrunRegs ∧ Reg.AX1_STATE n ∉ overrunRegs := by
  have own : ∀ n < 128, Reg.AX5_SETPOINT n ∉ struckRegs n ∧ Reg.AX5_SETPOINT n / 4096 ≠ 0x343 ∧ Reg.AX5_SETPOINT n ∉ overrunRegs ∧
      Reg.AX1_STATE n ∉ overrunRegs := by decide +kernel
  have fixed : (∀ g < 16, Reg.R3430_AXIS g ∉ logRegs) ∧ ∀ c < 16, act (Reg.CH0_CHAIN_EN c) ∉ logRegs := by decide +kernel
  obtain ⟨struck, gen, setpoint, state⟩ := own n hn
  exact ⟨struck, gen, fixed.1, fixed.2, setpoint, state⟩

theorem Dev.Calm.strikes (calm : d.Calm n) (hn : n < 128) (off code : Nat) {key : Nat → Nat}
    (brakes : d.nat (key n) = Reaction.qstop ∨ d.nat (key n) = Reaction.ss1) (made : e = d.strikeLate off code key [n]) :
    d.Strikes e n code (d.nat (key n)) := by
  obtain ⟨setpoint, gen, gens, chains, -, -⟩ := strikeRegs_apart hn
  have strikes : e = (d.raiseAt off code Kind.axis n (d.nat (key n)) 0).react n code (d.nat (key n)) := made
  have kept := d.keeps_raiseAt off code Kind.axis n (d.nat (key n)) 0
  have regs : ∀ k, k ∉ logRegs → (d.raiseAt off code Kind.axis n (d.nat (key n)) 0).reg k = d.reg k := fun k log => d.reg_raiseAt _ _ _ _ _ _ log
  have raised := d.lastRaised_raiseAt off code Kind.axis n (d.nat (key n)) 0
  generalize d.raiseAt off code Kind.axis n (d.nat (key n)) 0 = x at *
  have calmX : x.Calm n := calm.of_keeps kept (by decide) fun k hk => by
    refine regs k ?_
    rcases hk with rfl | ⟨g, hg, rfl⟩ | ⟨c, hc, rfl⟩
    · exact (struckRegs_apart hn).2.2.2.2.2.2.1
    · exact gens g hg
    · exact chains c hc
  obtain ⟨-, -, -, keeps, ramps⟩ := calmX.react hn code (by tauto) strikes
  have not_sto : d.nat (key n) ≠ Reaction.sto := by rcases brakes with is | is <;> rw [is] <;> decide
  have ramp := ramps not_sto
  refine ⟨ramp.state, ramp.cause, ramp.motion, ramp.now, ?_, raised.of_keeps keeps⟩
  rw [ramp.regs _ setpoint gen, regs _ fun log => setpoint (List.mem_append_right _ log)]

/-- The count of an overrun after its reactions. -/
theorem Dev.Strikes.overrun {code counter r : Nat} (h : d.Strikes e n code r) (hn : n < 128) (own : (code, counter) ∈ overruns) {l : List Part}
    (kept : e.Keeps f l) (within : ∀ p ∈ l, p ∈ [Part.lateP, .lateC] := by decide) : d.Strikes (f.overrun code counter) n code r := by
  obtain ⟨-, -, -, -, setpoint, state⟩ := strikeRegs_apart hn
  have kept : e.Keeps f [Part.lateP, .lateC] := kept.mono within
  have od : f.od = e.od := kept .od (by decide)
  have keepsO := (Dev.overrun_counts f own rfl).2
  refine h.of_keeps rfl (l := [.od, .ph, .lateP, .lateC]) ((kept.mono (by decide)).step keepsO) ⟨?_, ?_⟩
  · rw [f.reg_overrun own state, Dev.reg_congr od]
  · rw [f.reg_overrun own setpoint, Dev.reg_congr od]

/-- The count of an overrun, after whatever reactions. -/
theorem Dev.LoopsStand.overrun {code counter : Nat} (h : d.LoopsStand e) (own : (code, counter) ∈ overruns) {l : List Part}
    (kept : e.Keeps f l) (within : ∀ p ∈ l, p ∈ [Part.lateP, .lateC] := by decide) : d.Counts (f.overrun code counter) code counter := by
  have kept : e.Keeps f [Part.lateP, .lateC] := kept.mono within
  obtain ⟨log, low⟩ := overrun_entries.2.2.2.2 counter (overrun_entries.1 _ own).1
  refine (Dev.overrun_counts f own rfl).1.from ?_ ((kept .clk (by decide)).trans (h.keeps .clk (by decide)))
  rw [Dev.nat, Dev.nat, Dev.reg_congr (kept .od (by decide)), h.regs counter (.inl (by omega)) log]

end

section
variable {s : State} (live : s.Live)
include live

theorem profileOverrun_idle (none_ : s.found.lateP = []) : Does .profileOverrun s fun b a => b.Keeps a [.ph] := by
  refine Leaves.quietly (d := s.found.at 11000) (.cell (fun d => d.profileOverrun) live.passes ?_ (s.found.keeps_at 11000)) rfl (s.found.keeps_at 11000)
  exact if_pos (by rw [show (s.found.at 11000).lateP = s.found.lateP from rfl, none_]; rfl)

/-- The stages of an overrun of the profile engine. -/
theorem profileOverrun_stages (late : s.found.lateP ≠ []) : ∃ x y e, x = (s.found.at 11000).strikeLate 11000 Code.PROFILE_OVERRUN Reg.AX14_PROFILE_OVERRUN s.found.lateP ∧
    y = { x with lateP := [] } ∧ x.Keeps y [.lateP] ∧ e = y.overrun Code.PROFILE_OVERRUN Reg.R1101_PROFILE_COUNT ∧ Leaves .profileOverrun s e := by
  obtain ⟨x, hx⟩ : ∃ x, x = (s.found.at 11000).strikeLate 11000 Code.PROFILE_OVERRUN Reg.AX14_PROFILE_OVERRUN s.found.lateP := ⟨_, rfl⟩
  obtain ⟨y, hy⟩ : ∃ y, y = { x with lateP := [] } := ⟨_, rfl⟩
  have keepsY : x.Keeps y [.lateP] := by
    rw [hy]
    intro p hp
    cases p with
    | lateP => simp at hp
    | _ => rfl
  refine ⟨x, y, _, hx, hy, keepsY, rfl, .cell (l := .ph :: .lateP :: reactionParts) (fun d => d.profileOverrun) live.passes ?_ ?_⟩
  · have some_ : (s.found.at 11000).lateP.isEmpty = false := List.isEmpty_eq_false_iff.2 late
    unfold Dev.profileOverrun
    extract_lets o struck
    rw [if_neg (by rw [show o.lateP.isEmpty = false from some_]; decide)]
    have eqX : struck = x := hx.symm
    rw [hy, ← eqX]
  · have stands : (s.found.at 11000).LoopsStand x := by rw [hx]; exact Dev.LoopsStand.strikeLate _ _ _ _ _
    exact ((((s.found.keeps_at 11000).mono (by decide)).step stands.keeps).step keepsY).step (Dev.overrun_counts y (by decide) rfl).2

theorem profileOverrun_counts (late : s.found.lateP ≠ []) : Does .profileOverrun s fun b a =>
    a.lateP = [] ∧ b.Counts a Code.PROFILE_OVERRUN Reg.R1101_PROFILE_COUNT := by
  obtain ⟨x, y, e, hx, hy, keepsY, made, leaves⟩ := profileOverrun_stages live late
  have stands : (s.found.at 11000).LoopsStand x := by rw [hx]; exact Dev.LoopsStand.strikeLate _ _ _ _ _
  have keepsE := (Dev.overrun_counts y (by decide) made).2
  have counts : s.found.Counts e Code.PROFILE_OVERRUN Reg.R1101_PROFILE_COUNT := by
    rw [made]
    exact (stands.overrun (by decide) keepsY).from rfl rfl
  clear made
  have none_ : e.lateP = y.lateP := keepsE .lateP (by decide)
  exact leaves.does fun pend vecs => ⟨none_.trans (by rw [hy]), counts.congr (by decide) fun _ _ => rfl⟩

theorem profileOverrun_strikes {n : Nat} (late : s.found.lateP = [n]) (hn : n < 128) (calm : s.found.Calm n)
    (brakes : s.found.nat (Reg.AX14_PROFILE_OVERRUN n) = Reaction.qstop ∨ s.found.nat (Reg.AX14_PROFILE_OVERRUN n) = Reaction.ss1) :
    Does .profileOverrun s fun b a => b.Strikes a n Code.PROFILE_OVERRUN (b.nat (Reg.AX14_PROFILE_OVERRUN n)) := by
  obtain ⟨x, y, e, hx, hy, keepsY, made, leaves⟩ := profileOverrun_stages live (by rw [late]; exact List.cons_ne_nil _ _)
  rw [late] at hx
  have calmO : (s.found.at 11000).Calm n := calm.of_keeps (s.found.keeps_at 11000) (by decide) fun _ _ => rfl
  have strikes : (s.found.at 11000).Strikes e n Code.PROFILE_OVERRUN (s.found.nat (Reg.AX14_PROFILE_OVERRUN n)) := by
    rw [made]
    exact (calmO.strikes hn 11000 Code.PROFILE_OVERRUN brakes hx).overrun hn (by decide) keepsY
  clear made
  exact leaves.does fun pend vecs => strikes.of_keeps rfl (Dev.keeps_told _ pend vecs) ⟨rfl, rfl⟩

end

end Sys2Proof.Machine
end

section
/-! # The overrun of the control engine, with a run and without one (R31) -/

namespace Sys2Proof.Machine

section
variable {d e f : Dev} {n : Nat}

/-- The parts of a window that ends. -/
abbrev windowParts : List Part := [.ph, .eng, .axes, .lateC]

/-- The overrun past the end of the window. -/
def Dev.controlLate (d : Dev) : Dev :=
  if d.lateC.isEmpty then d
  else { d.strikeLate 24000 Code.CONTROL_OVERRUN Reg.AX14_CONTROL_OVERRUN d.lateC with lateC := [] }.overrun Code.CONTROL_OVERRUN Reg.R1101_CONTROL_COUNT

theorem Dev.controlOverrun_eq (d : Dev) : d.controlOverrun = (d.at 24000).notRun.controlLate := by
  unfold Dev.controlOverrun
  extract_lets o struck
  have eqO : o = (d.at 24000).notRun := rfl
  rw [← eqO]
  clear_value o
  rfl

theorem Dev.notRun_ran (ran : d.eng.ranAt = some d.tickAbs) : (d.at 24000).notRun = d.at 24000 := if_pos ran

/-- The stages of a count of late axes. -/
theorem Dev.controlLate_stages (late : d.lateC ≠ []) : ∃ x y, x = d.strikeLate 24000 Code.CONTROL_OVERRUN Reg.AX14_CONTROL_OVERRUN d.lateC ∧
    y = { x with lateC := [] } ∧ x.Keeps y [.lateC] ∧ d.controlLate = y.overrun Code.CONTROL_OVERRUN Reg.R1101_CONTROL_COUNT := by
  obtain ⟨x, hx⟩ : ∃ x, x = d.strikeLate 24000 Code.CONTROL_OVERRUN Reg.AX14_CONTROL_OVERRUN d.lateC := ⟨_, rfl⟩
  obtain ⟨y, hy⟩ : ∃ y, y = { x with lateC := [] } := ⟨_, rfl⟩
  have keepsY : x.Keeps y [.lateC] := by
    rw [hy]
    intro p hp
    cases p with
    | lateC => simp at hp
    | _ => rfl
  refine ⟨x, y, hx, hy, keepsY, ?_⟩
  have some_ : d.lateC.isEmpty = false := List.isEmpty_eq_false_iff.2 late
  unfold Dev.controlLate
  rw [if_neg (by rw [some_]; decide), ← hx, hy]

/-- Late axes are counted, and none is late any more. -/
theorem Dev.controlLate_counts (late : d.lateC ≠ []) (made : e = d.controlLate) : e.lateC = [] ∧ d.Counts e Code.CONTROL_OVERRUN Reg.R1101_CONTROL_COUNT ∧
    d.Keeps e (.lateC :: reactionParts) ∧ ∀ m, (e.axis m).loops = (d.axis m).loops := by
  obtain ⟨x, y, hx, hy, keepsY, late_⟩ := Dev.controlLate_stages late
  rw [late_] at made
  have stands : d.LoopsStand x := by rw [hx]; exact Dev.LoopsStand.strikeLate _ _ _ _ _
  have keepsE := (Dev.overrun_counts y (by decide) made).2
  have counts : d.Counts e Code.CONTROL_OVERRUN Reg.R1101_CONTROL_COUNT := by
    rw [made]
    exact stands.overrun (by decide) keepsY
  have none_ : e.lateC = y.lateC := keepsE .lateC (by decide)
  exact ⟨none_.trans (by rw [hy]), counts, ((stands.keeps.mono (by decide)).step keepsY).step keepsE,
    fun m => by rw [keepsE.axis m, keepsY.axis m, stands.axes m]⟩

theorem Dev.Calm.controlLate (calm : d.Calm n) (hn : n < 128) (late : d.lateC = [n])
    (brakes : d.nat (Reg.AX14_CONTROL_OVERRUN n) = Reaction.qstop ∨ d.nat (Reg.AX14_CONTROL_OVERRUN n) = Reaction.ss1) (made : e = d.controlLate) :
    d.Strikes e n Code.CONTROL_OVERRUN (d.nat (Reg.AX14_CONTROL_OVERRUN n)) := by
  obtain ⟨x, y, hx, hy, keepsY, late_⟩ := Dev.controlLate_stages (d := d) (by rw [late]; exact List.cons_ne_nil _ _)
  rw [late] at hx
  rw [made, late_]
  exact (calm.strikes hn 24000 Code.CONTROL_OVERRUN brakes hx).overrun hn (by decide) keepsY

/-! ## A window without a run -/

/-- Axis `n` alone had a level due. -/
theorem Dev.notRun_alone (hn : n < 128) (no : d.eng.ranAt ≠ some d.tickAbs) (evals : d.evaluates n = true)
    (load : d.axisLoad n d.clk.tick (d.image n) ≠ 0) (alone : ∀ m < 128, m ≠ n → d.evaluates m = false) (made : e = d.notRun) :
    e.lateC = [n] ∧ (e.axis n).stale = min 15 ((d.axis n).stale + 1) ∧ e.axis n = ((d.repeatOutput n).axis n) ∧ d.Keeps e windowParts := by
  have late : (d.controlOrder.filter fun m => d.evaluates m && d.axisLoad m d.clk.tick (d.image m) != 0) = [n] := by
    obtain ⟨ns, r, split, others⟩ := d.controlOrder_split hn
    have none_ : ∀ m, m ∈ ns ∨ m ∈ r → ¬(d.evaluates m && d.axisLoad m d.clk.tick (d.image m) != 0) = true := fun m hm => by
      obtain ⟨far, low⟩ := others m hm
      rw [alone m low (Ne.symm far), Bool.false_and]
      decide
    rw [split, List.filter_append, List.filter_eq_nil_iff.2 fun m hm => none_ m (.inl hm), List.nil_append, List.filter_cons_of_pos,
      List.filter_eq_nil_iff.2 fun m hm => none_ m (.inr hm)]
    rw [evals, Bool.true_and]
    exact bne_iff_ne.2 load
  unfold Dev.notRun at made
  rw [if_neg no] at made
  extract_lets late' src eng at made
  have eqL : late' = [n] := late
  clear_value late'
  subst eqL
  have keepsR : d.Keeps (d.repeatOutput n) [.axes] := Dev.keeps_modAxis _ _ _
  have axisR : ((d.repeatOutput n).axis n).stale = min 15 ((d.axis n).stale + 1) := by rw [Dev.repeatOutput, Dev.axis_modAxis]
  have repeats : src = d.repeatOutput n := rfl
  rw [← repeats] at keepsR axisR ⊢
  clear_value src
  have keepsE : src.Keeps e [.lateC, .eng] := by
    rw [made]
    intro p hp
    cases p with
    | lateC => simp at hp
    | eng => simp at hp
    | _ => rfl
  refine ⟨by rw [made], by rw [keepsE.axis n, axisR], keepsE.axis n, (keepsR.mono (by decide)).andThen (keepsE.mono (by decide))⟩

end

section
variable {s : State} (live : s.Live)
include live

/-- An overrun after the window of stage `o`. -/
theorem controlOverrun_leaves {o e : Dev} (window : o = (s.found.at 24000).notRun) (keeps : (s.found.at 24000).Keeps o windowParts) (late : o.lateC ≠ [])
    (made : e = o.controlLate) : Leaves .controlOverrun s e := by
  refine .cell (l := .serve :: (windowParts ++ reactionParts)) (fun d => d.controlOverrun) live.passes ?_ ?_
  · exact (Dev.controlOverrun_eq _).trans (by rw [made, window])
  · obtain ⟨-, -, keepsE, -⟩ := Dev.controlLate_counts late made
    exact (((s.found.keeps_at 24000).mono (by decide)).step keeps).step keepsE

theorem controlOverrun_idle (ran : s.found.eng.ranAt = some s.found.tickAbs) (none_ : s.found.lateC = []) :
    Does .controlOverrun s fun b a => b.Keeps a [.ph] := by
  refine Leaves.quietly (d := s.found.at 24000) (.cell (fun d => d.controlOverrun) live.passes ?_ (s.found.keeps_at 24000)) rfl (s.found.keeps_at 24000)
  refine (Dev.controlOverrun_eq _).trans ?_
  rw [Dev.notRun_ran ran]
  exact if_pos (by rw [show (s.found.at 24000).lateC = s.found.lateC from rfl, none_]; rfl)

theorem controlOverrun_counts (ran : s.found.eng.ranAt = some s.found.tickAbs) (late : s.found.lateC ≠ []) :
    Does .controlOverrun s fun b a => a.lateC = [] ∧ b.Counts a Code.CONTROL_OVERRUN Reg.R1101_CONTROL_COUNT := by
  obtain ⟨e, made⟩ : ∃ e, e = (s.found.at 24000).controlLate := ⟨_, rfl⟩
  have leaves := controlOverrun_leaves live (Dev.notRun_ran ran).symm (Dev.Keeps.refl _ _) late made
  obtain ⟨none_, counts, -⟩ := Dev.controlLate_counts (d := s.found.at 24000) late made
  have counts : s.found.Counts e Code.CONTROL_OVERRUN Reg.R1101_CONTROL_COUNT := counts.from rfl rfl
  exact leaves.does fun pend vecs => ⟨none_, counts.congr (by decide) fun _ _ => rfl⟩

theorem controlOverrun_strikes {n : Nat} (ran : s.found.eng.ranAt = some s.found.tickAbs) (late : s.found.lateC = [n]) (hn : n < 128) (calm : s.found.Calm n)
    (brakes : s.found.nat (Reg.AX14_CONTROL_OVERRUN n) = Reaction.qstop ∨ s.found.nat (Reg.AX14_CONTROL_OVERRUN n) = Reaction.ss1) :
    Does .controlOverrun s fun b a => b.Strikes a n Code.CONTROL_OVERRUN (b.nat (Reg.AX14_CONTROL_OVERRUN n)) := by
  obtain ⟨e, made⟩ : ∃ e, e = (s.found.at 24000).controlLate := ⟨_, rfl⟩
  have some_ : (s.found.at 24000).lateC ≠ [] := by
    rw [show (s.found.at 24000).lateC = s.found.lateC from rfl, late]
    exact List.cons_ne_nil _ _
  have leaves := controlOverrun_leaves live (Dev.notRun_ran ran).symm (Dev.Keeps.refl _ _) some_ made
  have calmO : (s.found.at 24000).Calm n := calm.of_keeps (s.found.keeps_at 24000) (by decide) fun _ _ => rfl
  have strikes := calmO.controlLate hn late brakes made
  exact leaves.does fun pend vecs => strikes.of_keeps rfl (Dev.keeps_told _ pend vecs) ⟨rfl, rfl⟩

/-- A window without a run, one axis alone having a level due. -/
theorem controlOverrun_unrun {n : Nat} (no : s.found.eng.ranAt ≠ some s.found.tickAbs) (hn : n < 128) (calm : s.found.Calm n)
    (brakes : s.found.nat (Reg.AX14_CONTROL_OVERRUN n) = Reaction.qstop ∨ s.found.nat (Reg.AX14_CONTROL_OVERRUN n) = Reaction.ss1)
    (evals : s.found.evaluates n = true) (load : s.found.axisLoad n s.found.clk.tick (s.found.image n) ≠ 0)
    (alone : ∀ m < 128, m ≠ n → s.found.evaluates m = false) : Does .controlOverrun s fun b a =>
      b.Strikes a n Code.CONTROL_OVERRUN (b.nat (Reg.AX14_CONTROL_OVERRUN n)) ∧ (a.axis n).stale = min 15 ((b.axis n).stale + 1) ∧
      b.Counts a Code.CONTROL_OVERRUN Reg.R1101_CONTROL_COUNT := by
  obtain ⟨w, hw⟩ : ∃ w, w = s.found.at 24000 := ⟨_, rfl⟩
  have keepsW : s.found.Keeps w [.ph] := by rw [hw]; exact s.found.keeps_at _
  obtain ⟨o, window⟩ : ∃ o, o = w.notRun := ⟨_, rfl⟩
  obtain ⟨e, made⟩ : ∃ e, e = o.controlLate := ⟨_, rfl⟩
  obtain ⟨late, stale, axis, keepsO⟩ := Dev.notRun_alone (d := w) hn (by rw [hw]; exact no) (by rw [hw]; exact evals) (by rw [hw]; exact load)
    (by rw [hw]; exact alone) window
  have some_ : o.lateC ≠ [] := by rw [late]; exact List.cons_ne_nil _ _
  have leaves := controlOverrun_leaves live (by rw [window, hw]) (by rw [← hw]; exact keepsO) some_ made
  have keeps : s.found.Keeps o windowParts := (keepsW.mono (by decide)).andThen keepsO
  have regs : ∀ k, o.reg k = s.found.reg k := fun k => Dev.reg_congr (keeps .od (by decide)) k
  have calmO : o.Calm n := by
    refine ⟨?_, ?_, ?_, ?_⟩
    · rw [← calm.moving, Dev.axState, Dev.axState, Dev.nat, Dev.nat, regs]
    · rw [axis, Dev.repeatOutput, Dev.axis_modAxis, keepsW.axis n]
      exact calm.quiet
    · rw [← calm.free]
      refine List.find?_congr fun c hc => ?_
      simp only [Dev.chainEn, Dev.flag, regs, Dev.members_congr (keeps .dom (by decide))]
    · rw [← calm.still]
      exact Dev.injected_congr (keeps .ident (by decide)) fun g _ => regs _
  have key : o.nat (Reg.AX14_CONTROL_OVERRUN n) = s.found.nat (Reg.AX14_CONTROL_OVERRUN n) := congrArg Int.toNat (regs _)
  have strikes := calmO.controlLate hn late (by rw [key]; exact brakes) made
  rw [key] at strikes
  obtain ⟨-, counts, -, loops⟩ := Dev.controlLate_counts some_ made
  have counts : s.found.Counts e Code.CONTROL_OVERRUN Reg.R1101_CONTROL_COUNT := counts.from (congrArg Int.toNat (regs _)) (keeps .clk (by decide))
  have staleE : (e.axis n).stale = min 15 ((s.found.axis n).stale + 1) := by
    have same : (e.axis n).loops.stale = (o.axis n).loops.stale := by rw [loops n]
    exact same.trans (by rw [← keepsW.axis n]; exact stale)
  exact leaves.does fun pend vecs => ⟨strikes.of_keeps (regs _) (Dev.keeps_told _ pend vecs) ⟨rfl, rfl⟩, staleE, counts.congr (by decide) fun _ _ => rfl⟩

end

end Sys2Proof.Machine
end

section
/-! # Faults of feedback and saturation (R69, R70, R73) -/

namespace Sys2Proof.Machine

/-! ## Levels of an axis -/

theorem Axis.lev_putLev_same (a : Axis) (level : Nat) (x : Level) : (a.putLev level x).lev level = x :=
  match level with
  | 0 | 1 | 2 | _ + 3 => rfl

/-- A level put in its place is another's only where they are one. -/
theorem Axis.lev_putLev (a : Axis) (level l : Nat) (x : Level) : (a.putLev level x).lev l = a.lev l ∨ (a.putLev level x).lev l = x ∧ a.lev level = a.lev l := by
  rcases level with _ | _ | _ | level <;> rcases l with _ | _ | _ | l <;> simp [Axis.lev, Axis.putLev]

theorem Axis.loops_lev {a b : Axis} (same : a.loops = b.loops) (l : Nat) : (a.lev l).frozen = (b.lev l).frozen ∧ (a.lev l).frozenTold = (b.lev l).frozenTold ∧
    (a.lev l).failed = (b.lev l).failed := by
  have view : ∀ c : Axis, (c.loops.lev l).frozen = (c.lev l).frozen ∧ (c.loops.lev l).frozenTold = (c.lev l).frozenTold ∧
      (c.loops.lev l).failed = (c.lev l).failed := fun c => by
    unfold Axis.lev
    split <;> exact ⟨rfl, rfl, rfl⟩
  obtain ⟨frozen, told, failed⟩ := view a
  rw [same] at frozen told failed
  obtain ⟨frozen', told', failed'⟩ := view b
  exact ⟨frozen.symm.trans frozen', told.symm.trans told', failed.symm.trans failed'⟩

section
variable {d e f : Dev} {n : Nat}

/-! ## What supervision reads -/

/-- The entries that supervision reads. -/
def WatchReg (k : Nat) : Prop :=
  0x200000 ≤ k ∧ k < 0x300000 ∧ (k / 256 % 16 = 7 ∨ k / 256 % 16 = 14 ∨ k / 256 % 16 = 10 ∧ k % 256 < 7)

/-- What supervision of axis `n` reads stands. -/
structure Dev.Watches (n : Nat) (d e : Dev) : Prop where
  regs : ∀ k, WatchReg k → e.reg k = d.reg k
  clk : e.clk = d.clk
  settings : (e.axis n).settings = (d.axis n).settings
  fb : (e.axis n).fb = (d.axis n).fb

theorem Dev.Watches.refl (n : Nat) (d : Dev) : d.Watches n d := ⟨fun _ _ => rfl, rfl, rfl, rfl⟩

theorem Dev.Watches.trans (h : d.Watches n e) (g : e.Watches n f) : d.Watches n f :=
  ⟨fun k own => (g.regs k own).trans (h.regs k own), g.clk.trans h.clk, g.settings.trans h.settings, g.fb.trans h.fb⟩

theorem Dev.Watches.set (h : d.Watches n e) {k : Nat} (v : Int) (apart : ¬WatchReg k) : d.Watches n (e.set k v) :=
  ⟨fun j own => (Dev.reg_set_other _ _ (by rintro rfl; exact apart own)).trans (h.regs j own), h.clk, h.settings, h.fb⟩

theorem Dev.Watches.modAxis (h : d.Watches n e) {g : Axis → Axis} (same : ∀ a, (g a).settings = a.settings ∧ (g a).fb = a.fb) : d.Watches n (e.modAxis n g) :=
  ⟨h.regs, h.clk, by rw [Dev.axis_modAxis, (same _).1, h.settings], by rw [Dev.axis_modAxis, (same _).2, h.fb]⟩

theorem Dev.Watches.modLevel (h : d.Watches n e) (level : Nat) (g : Level → Level) : d.Watches n (e.modLevel n level g) := by
  refine h.modAxis fun a => ?_
  unfold Axis.putLev
  split <;> exact ⟨rfl, rfl⟩

theorem watch_not_log {k : Nat} (own : WatchReg k) : k ∉ logRegs := by
  refine axis_not_log ?_
  obtain ⟨low, high, -⟩ := own
  omega

theorem Dev.LoopsStand.watches (h : d.LoopsStand e) : d.Watches n e where
  regs := fun k own => h.regs k (by obtain ⟨-, high, is⟩ := own; exact .inr ⟨high, by omega⟩) (watch_not_log own)
  clk := h.keeps .clk (by decide)
  settings := (congrArg Axis.settings (h.axes n) : (e.axis n).loops.settings = (d.axis n).loops.settings)
  fb := (congrArg Axis.fb (h.axes n) : (e.axis n).loops.fb = (d.axis n).loops.fb)

theorem watch_axis {i j : Nat} (hn : n < 128) (hj : j < 256) (hi : i = 7 ∨ i = 14 ∨ i = 10 ∧ j < 7) : WatchReg (Reg.key (0x2000 + i + 16 * n) j) := by
  simp only [WatchReg, Reg.key]
  omega

theorem Dev.Watches.setting (h : d.Watches n e) {k : Nat} (own : WatchReg k) : e.setting n k = d.setting n k := by
  have now : e.tickAbs = d.tickAbs := by rw [Dev.tickAbs, Dev.tickAbs, h.clk]
  rw [Dev.setting, Dev.setting, h.settings, now, h.regs k own]

/-- What supervision judges by stands. -/
theorem Dev.Watches.judges (h : d.Watches n e) (hn : n < 128) : (∀ ch, e.usesChannel n ch = d.usesChannel n ch) ∧ e.ageLimit n = d.ageLimit n ∧
    (∀ l, e.levelOn n l = d.levelOn n l) := by
  have structure_ : ∀ j < 256, e.reg (Reg.key (0x2007 + 16 * n) j) = d.reg (Reg.key (0x2007 + 16 * n) j) := fun j hj =>
    h.regs _ (watch_axis (i := 7) hn hj (.inl rfl))
  have mode : e.reg (act (Reg.AX7_MODE n)) = d.reg (act (Reg.AX7_MODE n)) := structure_ 0x81 (by decide)
  have aux : e.reg (act (Reg.AX7_AUX_EN n)) = d.reg (act (Reg.AX7_AUX_EN n)) := structure_ 0x82 (by decide)
  have ff : e.reg (act (Reg.AX7_FF_CUR n)) = d.reg (act (Reg.AX7_FF_CUR n)) := structure_ 0x91 (by decide)
  have cur : e.reg (act (Reg.AX7_DIV_CUR n)) = d.reg (act (Reg.AX7_DIV_CUR n)) := structure_ 0x83 (by decide)
  have vel : e.reg (act (Reg.AX7_DIV_VEL n)) = d.reg (act (Reg.AX7_DIV_VEL n)) := structure_ 0x84 (by decide)
  have src : e.setting n (Reg.AX10_VEL_SRC n) = d.setting n (Reg.AX10_VEL_SRC n) := h.setting (watch_axis (i := 10) hn (by decide) (by decide))
  have age : e.setting n (Reg.AX10_AGE_LIMIT n) = d.setting n (Reg.AX10_AGE_LIMIT n) := h.setting (watch_axis (i := 10) hn (by decide) (by decide))
  refine ⟨fun ch => ?_, ?_, fun l => ?_⟩
  · unfold Dev.usesChannel
    rw [mode, src, Dev.flag, Dev.flag, aux, Dev.nat, Dev.nat, ff]
  · unfold Dev.ageLimit
    rw [mode, age]
    simp only [Dev.nat]
    split
    · rfl
    · split
      · rw [cur]
      · rw [vel]
  · unfold Dev.levelOn Dev.direct
    rw [mode, Dev.flag, Dev.flag, aux]

/-! ## A fault of the loops -/

theorem lastCode_apart {n : Nat} (hn : n < 128) : CalmReg (Reg.AX8_LAST_CODE n) ∧ Reg.AX8_LAST_CODE n ∉ logRegs ∧ ¬WatchReg (Reg.AX8_LAST_CODE n) ∧
    odType (Reg.AX8_LAST_CODE n) = .u16 ∧ Reg.AX1_STATE n ≠ Reg.AX8_LAST_CODE n ∧ (∀ g < 16, Reg.R3430_AXIS g ≠ Reg.AX8_LAST_CODE n) ∧
    (∀ c < 16, act (Reg.CH0_CHAIN_EN c) ≠ Reg.AX8_LAST_CODE n) := by
  have type : ∀ n < 128, odType (Reg.AX8_LAST_CODE n) = .u16 := by decide +kernel
  refine ⟨?_, axis_not_log ?_, ?_, type n hn, ?_, fun g hg => ?_, fun c hc => ?_⟩
  all_goals simp only [CalmReg, WatchReg, act, Reg.AX8_LAST_CODE, Reg.AX1_STATE, Reg.R3430_AXIS, Reg.CH0_CHAIN_EN, Reg.key]; omega

/-- What a fault of the loops leaves, whatever its reaction. -/
theorem Dev.loopFault_stands (d : Dev) (hn : n < 128) {code : Nat} (fits : code < 0x10000) (key detail : Nat) (made : e = d.loopFault n code key detail) :
    d.Watches n e ∧ (e.axis n).loops = (d.axis n).loops ∧ e.nat (Reg.AX8_LAST_CODE n) = code ∧ d.Keeps e reactionParts := by
  obtain ⟨calm, log, watch, type, -⟩ := lastCode_apart hn
  obtain ⟨x, hx⟩ : ∃ x, x = d.loopCode n code := ⟨_, rfl⟩
  have stands : x.LoopsStand e := by
    rw [made, hx]
    exact (Dev.LoopsStand.refl _).fault n code _ detail
  have shown : x.nat (Reg.AX8_LAST_CODE n) = code := by
    rw [hx]
    exact Dev.nat_set_same _ type rfl fits
  have watches : d.Watches n x := by
    rw [hx]
    exact (Dev.Watches.refl n d).set _ watch
  have keeps : d.Keeps x [.od] := by
    rw [hx]
    exact d.keeps_set _ _
  exact ⟨watches.trans stands.watches, (stands.axes n).trans (by rw [keeps.axis n]), by rw [← shown, Dev.nat, Dev.nat, stands.regs _ calm log],
    (keeps.mono (by decide)).step stands.keeps⟩

/-- What SS1 or STO of a fault leaves of its axis. -/
structure Dev.FaultTaken (e : Dev) (n code r : Nat) : Prop where
  state : e.axState n = if r = Reaction.sto then AxState.fault else AxState.stopping
  reaction : e.reg (Reg.AX1_REACTION n) = r
  cause : (e.axis n).cause = code
  shown : e.nat (Reg.AX8_LAST_CODE n) = code
  raised : e.LastRaised code Kind.axis n

theorem Dev.FaultTaken.congr {code r : Nat} (h : d.FaultTaken n code r) (axis : (e.axis n).cause = (d.axis n).cause) (log : e.log = d.log)
    (regs : ∀ k, k = Reg.AX1_STATE n ∨ k = Reg.AX1_REACTION n ∨ k = Reg.AX8_LAST_CODE n → e.reg k = d.reg k) : e.FaultTaken n code r where
  state := by rw [← h.state, Dev.axState, Dev.axState, Dev.nat, Dev.nat, regs _ (.inl rfl)]
  reaction := by rw [← h.reaction, regs _ (.inr (.inl rfl))]
  cause := by rw [axis, h.cause]
  shown := by rw [← h.shown, Dev.nat, Dev.nat, regs _ (.inr (.inr rfl))]
  raised := by
    have was := h.raised
    rwa [Dev.LastRaised, ← log] at was

theorem Dev.Calm.loopFault (calm : d.Calm n) (hn : n < 128) {code : Nat} (fits : code < 0x10000) (key detail : Nat)
    (strong : d.nat key = Reaction.ss1 ∨ d.nat key = Reaction.sto) (made : e = d.loopFault n code key detail) : e.FaultTaken n code (d.nat key) := by
  obtain ⟨-, -, shown, -⟩ := Dev.loopFault_stands d hn fits key detail made
  obtain ⟨-, -, gens, chains, -, -⟩ := strikeRegs_apart hn
  obtain ⟨-, -, -, -, state', gen', chain'⟩ := lastCode_apart hn
  have calmX : (d.loopCode n code).Calm n := calm.of_keeps (d.keeps_set _ _) (by decide) fun k hk => by
    refine Dev.reg_set_other _ _ ?_
    rcases hk with rfl | ⟨g, hg, rfl⟩ | ⟨c, hc, rfl⟩
    · exact state'
    · exact gen' g hg
    · exact chain' c hc
  obtain ⟨y, hy⟩ : ∃ y, y = (d.loopCode n code).raise code Kind.axis n (d.nat key) detail := ⟨_, rfl⟩
  have calmY : y.Calm n := by
    rw [hy]
    refine calmX.of_keeps (Dev.keeps_raise _ _ _ _ _ _) (by decide) fun k hk => Dev.reg_raise _ _ _ _ _ _ ?_
    rcases hk with rfl | ⟨g, hg, rfl⟩ | ⟨c, hc, rfl⟩
    · exact (struckRegs_apart hn).2.2.2.2.2.2.1
    · exact gens g hg
    · exact chains c hc
  have raised : y.LastRaised code Kind.axis n := by
    rw [hy]
    exact Dev.lastRaised_raise _ _ _ _ _ _
  have reacts : e = y.react n code (d.nat key) := by rw [made, hy]; rfl
  obtain ⟨state, reaction, cause, keeps, -⟩ := calmY.react hn code (.inr strong) reacts
  exact ⟨state, reaction, cause, shown, raised.of_keeps keeps⟩

end

end Sys2Proof.Machine
end

section
/-! # Lost and frozen feedback, saturation (R69, R70, R73) -/

namespace Sys2Proof.Machine

section
variable {d e f : Dev} {n : Nat}

/-! ## A lost channel -/

/-- A used channel of an axis is lost and was not before. -/
def Dev.Loses (d : Dev) (n ch : Nat) : Prop :=
  d.usesChannel n ch = true ∧ d.ageLimit n < (d.axis n).fb.ages.getD ch 0 ∧ (d.axis n).lost.testBit ch = false

/-- A lost channel told. -/
def Dev.loseChannel (d : Dev) (n ch : Nat) : Dev :=
  if d.supervised n ∧ d.usesChannel n ch ∧ d.ageLimit n < (d.axis n).fb.ages.getD ch 0 ∧ (d.axis n).lost.testBit ch = false then
    ((d.loopFault n Code.FEEDBACK_LOST (Reg.AX14_FEEDBACK_LOST n) ch).modAxis n fun a => { a with lost := withBit a.lost ch true }).set
      (Reg.AX10_LOST_CHANNEL n) ch
  else d

theorem Dev.feedbackLost_eq (d : Dev) (n : Nat) : d.feedbackLost n = iterate 5 (fun ch d => Dev.loseChannel d n ch) d := rfl

theorem Dev.loseChannel_idle {ch : Nat} (no : d.supervised n = false ∨ ¬d.Loses n ch) : d.loseChannel n ch = d := by
  refine if_neg fun ⟨on, loses⟩ => ?_
  rcases no with off | no
  · rw [off] at on
    exact absurd on (by decide)
  · exact no loses

theorem lostChannel_apart {n : Nat} (hn : n < 128) : ¬WatchReg (Reg.AX10_LOST_CHANNEL n) ∧ odType (Reg.AX10_LOST_CHANNEL n) = .u8 ∧
    Reg.AX1_STATE n ≠ Reg.AX10_LOST_CHANNEL n ∧ Reg.AX1_REACTION n ≠ Reg.AX10_LOST_CHANNEL n ∧ Reg.AX8_LAST_CODE n ≠ Reg.AX10_LOST_CHANNEL n := by
  have type : ∀ n < 128, odType (Reg.AX10_LOST_CHANNEL n) = .u8 := by decide +kernel
  refine ⟨?_, type n hn, ?_⟩
  · simp only [WatchReg, Reg.AX10_LOST_CHANNEL, Reg.key]
    omega
  · simp only [Reg.AX10_LOST_CHANNEL, Reg.AX8_LAST_CODE, Reg.AX1_STATE, Reg.AX1_REACTION, Reg.key]
    omega

theorem Dev.loseChannel_loses (d : Dev) {ch : Nat} (hn : n < 128) (hch : ch < 5) (on : d.supervised n = true) (loses : d.Loses n ch)
    (made : e = d.loseChannel n ch) : d.Watches n e ∧ (e.axis n).lost = withBit (d.axis n).lost ch true ∧ e.nat (Reg.AX10_LOST_CHANNEL n) = ch ∧
    d.Keeps e reactionParts ∧
    (d.Calm n → d.nat (Reg.AX14_FEEDBACK_LOST n) = Reaction.ss1 ∨ d.nat (Reg.AX14_FEEDBACK_LOST n) = Reaction.sto →
      e.FaultTaken n Code.FEEDBACK_LOST (d.nat (Reg.AX14_FEEDBACK_LOST n))) := by
  obtain ⟨watch, type, state, reaction, last⟩ := lostChannel_apart hn
  have does : d.loseChannel n ch = ((d.loopFault n Code.FEEDBACK_LOST (Reg.AX14_FEEDBACK_LOST n) ch).modAxis n
      fun a => { a with lost := withBit a.lost ch true }).set (Reg.AX10_LOST_CHANNEL n) ch := if_pos ⟨on, loses⟩
  rw [does] at made
  obtain ⟨x, hx⟩ : ∃ x, x = d.loopFault n Code.FEEDBACK_LOST (Reg.AX14_FEEDBACK_LOST n) ch := ⟨_, rfl⟩
  obtain ⟨watches, loops, -, keeps⟩ := Dev.loopFault_stands d hn (by decide) _ _ hx
  have takes : d.Calm n → d.nat (Reg.AX14_FEEDBACK_LOST n) = Reaction.ss1 ∨ d.nat (Reg.AX14_FEEDBACK_LOST n) = Reaction.sto →
      x.FaultTaken n Code.FEEDBACK_LOST (d.nat (Reg.AX14_FEEDBACK_LOST n)) := fun calm strong => calm.loopFault hn (by decide) _ _ strong hx
  rw [← hx] at made
  clear hx does
  obtain ⟨y, hy⟩ : ∃ y, y = x.modAxis n fun a => { a with lost := withBit a.lost ch true } := ⟨_, rfl⟩
  have axisY : y.axis n = { x.axis n with lost := withBit (x.axis n).lost ch true } := by rw [hy, Dev.axis_modAxis]
  have watchesY : d.Watches n y := by
    rw [hy]
    exact watches.modAxis fun _ => ⟨rfl, rfl⟩
  have keepsY : d.Keeps y reactionParts := by rw [hy]; exact keeps.modAxis _ _
  have regsY : ∀ k, y.reg k = x.reg k := fun k => by rw [hy, Dev.reg_modAxis]
  have logY : y.log = x.log := by rw [hy]; rfl
  rw [← hy] at made
  clear hy
  have axisE : e.axis n = y.axis n := by rw [made, Dev.axis_set]
  have lost : (x.axis n).lost = (d.axis n).lost := (congrArg Axis.lost loops : (x.axis n).loops.lost = (d.axis n).loops.lost)
  refine ⟨by rw [made]; exact watchesY.set _ watch, by rw [axisE, axisY, lost], ?_, by rw [made]; exact keepsY.set _ _, fun calm strong => ?_⟩
  · rw [made]
    exact Dev.nat_set_same _ type rfl (Nat.lt_of_lt_of_le hch (by decide))
  · refine (takes calm strong).congr (by rw [axisE, axisY]) ((show e.log = y.log by rw [made]; rfl).trans logY) fun k hk => ?_
    have apart : k ≠ Reg.AX10_LOST_CHANNEL n := by
      rcases hk with is | is | is
      · exact is ▸ state
      · exact is ▸ reaction
      · exact is ▸ last
    rw [made, Dev.reg_set_other _ _ apart, regsY]

/-- One channel alone is lost. -/
theorem Dev.feedbackLost_loses (d : Dev) {ch : Nat} (hn : n < 128) (hch : ch < 5) (on : d.supervised n = true) (loses : d.Loses n ch)
    (alone : ∀ i, i ≠ ch → ¬d.Loses n i) : d.feedbackLost n = d.loseChannel n ch := by
  rw [Dev.feedbackLost_eq]
  obtain ⟨e, made⟩ : ∃ e, e = d.loseChannel n ch := ⟨_, rfl⟩
  rw [← made]
  obtain ⟨watches, lost, -⟩ := Dev.loseChannel_loses d hn hch on loses made
  obtain ⟨uses, limit, -⟩ := watches.judges hn
  have after : ∀ k, ch < k → e.loseChannel n k = e := fun k hk => by
    refine Dev.loseChannel_idle (.inr fun ⟨used, old, untold⟩ => alone k (by omega) ⟨by rw [← uses, used], ?_, ?_⟩)
    · rwa [limit, watches.fb] at old
    · rwa [lost, testBit_withBit, if_neg (by omega)] at untold
  exact iterate_reaches (P := fun x => x = e) (f := fun ch d => Dev.loseChannel d n ch) (fun k hk => Dev.loseChannel_idle (.inr (alone k (by omega)))) made.symm
    (fun k hk x hx => by rw [hx]; exact after k hk) hch

theorem Dev.feedbackLost_idle (no : d.supervised n = false ∨ ∀ ch, ¬d.Loses n ch) : d.feedbackLost n = d :=
  iterate_idle fun ch _ => Dev.loseChannel_idle (no.imp id fun none_ => none_ ch)

/-! ## A frozen level -/

/-- A level of an axis is frozen and not yet told. -/
def Dev.Freezes (d : Dev) (n l : Nat) : Prop := d.frozenLevel n l = true ∧ ((d.axis n).lev l).frozenTold = false

/-- A frozen level told. -/
def Dev.freezeLevel (d : Dev) (n l : Nat) : Dev :=
  if d.frozenLevel n l = true ∧ ((d.axis n).lev l).frozenTold = false then
    (d.loopFault n Code.FEEDBACK_FROZEN (Reg.AX14_FEEDBACK_FROZEN n) l).modLevel n l fun x => { x with frozenTold := true }
  else d

theorem Dev.feedbackFrozen_eq (d : Dev) (n : Nat) : d.feedbackFrozen n = iterate 4 (fun l d => Dev.freezeLevel d n l) d := rfl

theorem Dev.freezeLevel_idle {l : Nat} (no : ¬d.Freezes n l) : d.freezeLevel n l = d := if_neg no

theorem Dev.Watches.frozenLevel (h : d.Watches n e) (hn : n < 128) {l : Nat} (same : ((e.axis n).lev l).frozen = ((d.axis n).lev l).frozen) :
    e.frozenLevel n l = d.frozenLevel n l := by
  have N : e.setting n (Reg.AX10_FROZEN_N n) = d.setting n (Reg.AX10_FROZEN_N n) := h.setting (watch_axis (i := 10) hn (by decide) (by decide))
  rw [Dev.frozenLevel, Dev.frozenLevel, N, (h.judges hn).2.2 l, same]

theorem Dev.freezeLevel_freezes (d : Dev) {l : Nat} (hn : n < 128) (freezes : d.Freezes n l) (made : e = d.freezeLevel n l) :
    d.Watches n e ∧ ((e.axis n).lev l).frozenTold = true ∧ (∀ k, ((e.axis n).lev k).frozen = ((d.axis n).lev k).frozen ∧
      (((e.axis n).lev k).frozenTold = ((d.axis n).lev k).frozenTold ∨ ((e.axis n).lev k).frozenTold = true)) ∧
    e.nat (Reg.AX8_LAST_CODE n) = Code.FEEDBACK_FROZEN ∧ d.Keeps e reactionParts ∧
    (d.Calm n → d.nat (Reg.AX14_FEEDBACK_FROZEN n) = Reaction.ss1 ∨ d.nat (Reg.AX14_FEEDBACK_FROZEN n) = Reaction.sto →
      e.FaultTaken n Code.FEEDBACK_FROZEN (d.nat (Reg.AX14_FEEDBACK_FROZEN n))) := by
  have does : d.freezeLevel n l = (d.loopFault n Code.FEEDBACK_FROZEN (Reg.AX14_FEEDBACK_FROZEN n) l).modLevel n l fun x => { x with frozenTold := true } :=
    if_pos freezes
  rw [does] at made
  obtain ⟨x, hx⟩ : ∃ x, x = d.loopFault n Code.FEEDBACK_FROZEN (Reg.AX14_FEEDBACK_FROZEN n) l := ⟨_, rfl⟩
  obtain ⟨watches, loops, shown, keeps⟩ := Dev.loopFault_stands d hn (by decide) _ _ hx
  have takes : d.Calm n → d.nat (Reg.AX14_FEEDBACK_FROZEN n) = Reaction.ss1 ∨ d.nat (Reg.AX14_FEEDBACK_FROZEN n) = Reaction.sto →
      x.FaultTaken n Code.FEEDBACK_FROZEN (d.nat (Reg.AX14_FEEDBACK_FROZEN n)) := fun calm strong => calm.loopFault hn (by decide) _ _ strong hx
  rw [← hx] at made
  clear hx does
  have axisE : e.axis n = (x.axis n).putLev l { (x.axis n).lev l with frozenTold := true } := by rw [made, Dev.modLevel, Dev.axis_modAxis]
  have regs : ∀ k, e.reg k = x.reg k := fun k => by rw [made, Dev.modLevel, Dev.reg_modAxis]
  refine ⟨by rw [made]; exact watches.modLevel l _, by rw [axisE, Axis.lev_putLev_same], fun k => ?_, by rw [Dev.nat, regs, ← Dev.nat, shown],
    by rw [made]; exact keeps.modAxis _ _, fun calm strong => (takes calm strong).congr ?_ (by rw [made]; rfl) fun k _ => regs k⟩
  · obtain ⟨frozen, told, -⟩ := Axis.loops_lev loops k
    rw [axisE]
    rcases Axis.lev_putLev (x.axis n) l k { (x.axis n).lev l with frozenTold := true } with other | ⟨own, same⟩
    · rw [other]
      exact ⟨frozen, .inl told⟩
    · rw [own]
      dsimp only
      rw [same]
      exact ⟨frozen, .inr rfl⟩
  · rw [axisE]
    unfold Axis.putLev
    split <;> rfl

/-- A frozen level has been told. -/
def Dev.FreezeTold (e : Dev) (n l : Nat) : Prop := ((e.axis n).lev l).frozenTold = true ∧ e.nat (Reg.AX8_LAST_CODE n) = Code.FEEDBACK_FROZEN

/-- A level frozen as before, and told only with its code. -/
structure Dev.FreezesStill (d e : Dev) (n l : Nat) : Prop where
  watches : d.Watches n e
  frozen : ((e.axis n).lev l).frozen = ((d.axis n).lev l).frozen
  told : ((e.axis n).lev l).frozenTold = false ∨ e.FreezeTold n l

theorem Dev.FreezesStill.step {l : Nat} (h : d.FreezesStill e n l) (hn : n < 128) (k : Nat) (made : f = e.freezeLevel n k) :
    d.FreezesStill f n l ∧ (e.FreezeTold n l → f.FreezeTold n l) := by
  by_cases freezes : e.Freezes n k
  · obtain ⟨watches, -, levels, shown, -⟩ := Dev.freezeLevel_freezes e hn freezes made
    obtain ⟨frozen, told⟩ := levels l
    refine ⟨⟨h.watches.trans watches, frozen.trans h.frozen, ?_⟩, fun ⟨was, _⟩ => ⟨told.elim (fun same => same.trans was) id, shown⟩⟩
    rcases told with same | now
    · rcases h.told with not_ | ⟨was, -⟩
      · exact .inl (same.trans not_)
      · exact .inr ⟨same.trans was, shown⟩
    · exact .inr ⟨now, shown⟩
  · rw [Dev.freezeLevel_idle freezes] at made
    rw [made]
    exact ⟨h, id⟩

theorem Dev.feedbackFrozen_tells (d : Dev) {l : Nat} (hn : n < 128) (hl : l < 4) (freezes : d.Freezes n l) : (d.feedbackFrozen n).FreezeTold n l := by
  obtain ⟨frozen, untold⟩ := freezes
  refine each_reaches (fun e : Dev => d.FreezesStill e n l) (fun e : Dev => e.FreezeTold n l) (f := fun l d => Dev.freezeLevel d n l) (x := l)
    (List.mem_range.2 hl) (fun k _ e h => (h.step hn k rfl).1) (fun k _ e h => (h.step hn k rfl).2) (fun e h => ?_) ⟨.refl n d, rfl, .inl untold⟩
  rcases h.told with not_ | told
  · obtain ⟨-, told, -, shown, -⟩ := Dev.freezeLevel_freezes e hn ⟨(h.watches.frozenLevel hn h.frozen).trans frozen, not_⟩ rfl
    exact ⟨told, shown⟩
  · exact (h.step hn l rfl).2 told

theorem Dev.keeps_feedbackFrozen (d : Dev) (hn : n < 128) : d.Keeps (d.feedbackFrozen n) reactionParts := by
  refine iterate_holds (fun e : Dev => d.Keeps e reactionParts) 4 _ (fun k _ e he => ?_) (Dev.Keeps.refl _ _)
  by_cases freezes : e.Freezes n k
  · exact he.andThen (Dev.freezeLevel_freezes e hn freezes rfl).2.2.2.2.1
  · show d.Keeps (e.freezeLevel n k) _
    rw [Dev.freezeLevel_idle freezes]
    exact he

/-- One level alone is frozen. -/
theorem Dev.feedbackFrozen_freezes (d : Dev) {l : Nat} (hn : n < 128) (hl : l < 4) (freezes : d.Freezes n l) (alone : ∀ k, k ≠ l → ¬d.Freezes n k) :
    d.feedbackFrozen n = d.freezeLevel n l := by
  rw [Dev.feedbackFrozen_eq]
  obtain ⟨e, made⟩ : ∃ e, e = d.freezeLevel n l := ⟨_, rfl⟩
  rw [← made]
  obtain ⟨watches, -, levels, -⟩ := Dev.freezeLevel_freezes d hn freezes made
  have after : ∀ k, l < k → e.freezeLevel n k = e := fun k hk => by
    obtain ⟨frozen, told⟩ := levels k
    refine Dev.freezeLevel_idle fun ⟨is, untold⟩ => alone k (by omega) ⟨(watches.frozenLevel hn frozen).symm.trans is, ?_⟩
    rcases told with same | now
    · exact same.symm.trans untold
    · rw [now] at untold
      exact absurd untold (by decide)
  exact iterate_reaches (P := fun x => x = e) (f := fun l d => Dev.freezeLevel d n l) (fun k hk => Dev.freezeLevel_idle (alone k (by omega))) made.symm
    (fun k hk x hx => by rw [hx]; exact after k hk) hl

theorem Dev.feedbackFrozen_idle (no : ∀ l < 4, ¬d.Freezes n l) : d.feedbackFrozen n = d := iterate_idle fun l hl => Dev.freezeLevel_idle (no l hl)

end

/-! ## The commands -/

section
variable {s : State} (live : s.Live) {n : Nat} (hn : n < 128)
include live hn

theorem feedbackLost_takes {ch : Nat} (hch : ch < 5) (loses : s.found.Loses n ch) (alone : ∀ i, i ≠ ch → ¬s.found.Loses n i) (calm : s.found.Calm n) :
    Does (.feedbackLost n) s fun b a => (a.axis n).lost.testBit ch = true ∧ a.nat (Reg.AX10_LOST_CHANNEL n) = ch ∧
      (b.nat (Reg.AX14_FEEDBACK_LOST n) = Reaction.ss1 ∨ b.nat (Reg.AX14_FEEDBACK_LOST n) = Reaction.sto →
        a.FaultTaken n Code.FEEDBACK_LOST (b.nat (Reg.AX14_FEEDBACK_LOST n))) := by
  have on : s.found.supervised n = true := by rw [Dev.supervised, calm.moving]; decide
  obtain ⟨e, made⟩ : ∃ e, e = s.found.loseChannel n ch := ⟨_, rfl⟩
  obtain ⟨-, lost, shown, keeps, takes⟩ := Dev.loseChannel_loses s.found hn hch on loses made
  have leaves : Leaves (.feedbackLost n) s e := .cell (guard := fun d => d.liveIf (n < 128)) (fun d => d.feedbackLost n) (live.passesIf hn)
    ((Dev.feedbackLost_loses s.found hn hch on loses alone).trans made.symm) keeps
  refine leaves.does fun pend vecs => ⟨?_, shown, fun strong => (takes calm strong).congr rfl rfl fun _ _ => rfl⟩
  exact (congrArg (·.testBit ch) lost).trans (by rw [testBit_withBit, if_pos rfl])

theorem feedbackLost_idle (no : s.found.supervised n = false ∨ ∀ ch, ¬s.found.Loses n ch) : Does (.feedbackLost n) s fun b a => b.Keeps a [] :=
  Leaves.unchanged (.cell (guard := fun d => d.liveIf (n < 128)) (fun d => d.feedbackLost n) (live.passesIf hn) (Dev.feedbackLost_idle no) (Dev.Keeps.refl _ []))

theorem feedbackFrozen_told {l : Nat} (hl : l < 4) (freezes : s.found.Freezes n l) : Does (.feedbackFrozen n) s fun _ a =>
    ((a.axis n).lev l).frozenTold = true ∧ a.nat (Reg.AX8_LAST_CODE n) = Code.FEEDBACK_FROZEN := by
  obtain ⟨e, made⟩ : ∃ e, e = s.found.feedbackFrozen n := ⟨_, rfl⟩
  have leaves : Leaves (.feedbackFrozen n) s e := .cell (guard := fun d => d.liveIf (n < 128)) (fun d => d.feedbackFrozen n) (live.passesIf hn) made.symm
    (by rw [made]; exact s.found.keeps_feedbackFrozen hn)
  have told : e.FreezeTold n l := by rw [made]; exact Dev.feedbackFrozen_tells s.found hn hl freezes
  exact leaves.does fun _ _ => told

theorem feedbackFrozen_takes {l : Nat} (hl : l < 4) (freezes : s.found.Freezes n l) (alone : ∀ k, k ≠ l → ¬s.found.Freezes n k) (calm : s.found.Calm n) :
    Does (.feedbackFrozen n) s fun b a => b.nat (Reg.AX14_FEEDBACK_FROZEN n) = Reaction.ss1 ∨ b.nat (Reg.AX14_FEEDBACK_FROZEN n) = Reaction.sto →
      a.FaultTaken n Code.FEEDBACK_FROZEN (b.nat (Reg.AX14_FEEDBACK_FROZEN n)) := by
  obtain ⟨e, made⟩ : ∃ e, e = s.found.freezeLevel n l := ⟨_, rfl⟩
  obtain ⟨-, -, -, -, keeps, takes⟩ := Dev.freezeLevel_freezes s.found hn freezes made
  have leaves : Leaves (.feedbackFrozen n) s e := .cell (guard := fun d => d.liveIf (n < 128)) (fun d => d.feedbackFrozen n) (live.passesIf hn)
    ((Dev.feedbackFrozen_freezes s.found hn hl freezes alone).trans made.symm) keeps
  exact leaves.does fun pend vecs strong => (takes calm strong).congr rfl rfl fun _ _ => rfl

theorem feedbackFrozen_idle (no : ∀ l < 4, ¬s.found.Freezes n l) : Does (.feedbackFrozen n) s fun b a => b.Keeps a [] :=
  Leaves.unchanged (.cell (guard := fun d => d.liveIf (n < 128)) (fun d => d.feedbackFrozen n) (live.passesIf hn) (Dev.feedbackFrozen_idle no) (Dev.Keeps.refl _ []))

end

end Sys2Proof.Machine
end

section
/-! # Saturation (R69) -/

namespace Sys2Proof.Machine

section
variable {d e f : Dev} {n level : Nat}

/-- A saturation run warned of. -/
theorem Dev.satWarn_warns (d : Dev) (hn : n < 128) (hl : level < 4) (first : ((d.axis n).lev level).warned = false) (runs : ((d.axis n).lev level).run ≠ 0)
    (long : d.setting n (Reg.AX7_SAT_WARN_TICKS n) ≤ ((d.axis n).lev level).run) (made : e = d.satWarn n level) :
    (e.axis n).lev level = { (d.axis n).lev level with warned := true } ∧ e.nat (Reg.AX8_LAST_CODE n) = Code.SAT_WARN ∧
    e.LastRaised Code.SAT_WARN Kind.axis n ∧ d.Keeps e (.axes :: logParts) ∧ d.KeepsRegs e (Reg.AX8_LAST_CODE n :: logRegs) := by
  obtain ⟨-, log, -, type, -⟩ := lastCode_apart hn
  have warns : d.satWarn n level = ((d.modLevel n level fun x => { x with warned := true }).loopCode n Code.SAT_WARN).raise Code.SAT_WARN Kind.axis n
      Reaction.warn level := if_pos ⟨hl, first, runs, long⟩
  rw [warns] at made
  obtain ⟨x, hx⟩ : ∃ x, x = d.modLevel n level fun x => { x with warned := true } := ⟨_, rfl⟩
  have axisX : (x.axis n).lev level = { (d.axis n).lev level with warned := true } := by rw [hx, Dev.modLevel, Dev.axis_modAxis, Axis.lev_putLev_same]
  have keepsX : d.Keeps x [.axes] := by rw [hx]; exact Dev.keeps_modAxis _ _ _
  rw [← hx] at made
  obtain ⟨y, hy⟩ : ∃ y, y = x.loopCode n Code.SAT_WARN := ⟨_, rfl⟩
  have keepsY : x.Keeps y [.od] := by rw [hy]; exact x.keeps_set _ _
  have shown : y.nat (Reg.AX8_LAST_CODE n) = Code.SAT_WARN := by
    rw [hy]
    exact Dev.nat_set_same (n := Code.SAT_WARN) _ type rfl (by decide)
  have regsY : d.KeepsRegs y [Reg.AX8_LAST_CODE n] := fun k hk => by
    rw [hy, Dev.loopCode, Dev.reg_set_other _ _ (by simpa using hk), Dev.reg_congr (keepsX .od (by decide))]
  rw [← hy] at made
  have keepsE : y.Keeps e [.od, .log, .event] := by rw [made]; exact Dev.keeps_raise _ _ _ _ _ _
  have regsE : y.KeepsRegs e logRegs := by rw [made]; exact Dev.keepsRegs_raise _ _ _ _ _ _
  refine ⟨by rw [keepsE.axis n, keepsY.axis n, axisX], by rw [← shown, Dev.nat, Dev.nat, regsE _ log], by rw [made]; exact Dev.lastRaised_raise _ _ _ _ _ _,
    (((keepsX.mono (by decide)).step keepsY).step keepsE), fun k hk => ?_⟩
  obtain ⟨own, far⟩ := not_or.1 (mt List.mem_cons.2 hk)
  rw [regsE k far, regsY k (by simpa using own)]

/-- A saturation run that has failed. -/
theorem Dev.satFault_fails (d : Dev) (hn : n < 128) (hl : level < 4) (first : ((d.axis n).lev level).failed = false)
    (on : 0 < d.setting n (Reg.AX7_SAT_FAULT_TICKS n)) (long : d.setting n (Reg.AX7_SAT_FAULT_TICKS n) ≤ ((d.axis n).lev level).run)
    (made : e = d.satFault n level) : ((e.axis n).lev level).failed = true ∧ d.Keeps e reactionParts ∧
    (d.Calm n → d.nat (Reg.AX14_SAT_FAULT n) = Reaction.ss1 ∨ d.nat (Reg.AX14_SAT_FAULT n) = Reaction.sto →
      e.FaultTaken n Code.SAT_FAULT (d.nat (Reg.AX14_SAT_FAULT n))) := by
  have fails : d.satFault n level = (d.loopFault n Code.SAT_FAULT (Reg.AX14_SAT_FAULT n) level).modLevel n level fun x => { x with failed := true } :=
    if_pos ⟨hl, first, by omega, by omega⟩
  rw [fails] at made
  obtain ⟨x, hx⟩ : ∃ x, x = d.loopFault n Code.SAT_FAULT (Reg.AX14_SAT_FAULT n) level := ⟨_, rfl⟩
  obtain ⟨-, -, -, keeps⟩ := Dev.loopFault_stands d hn (by decide) _ _ hx
  have takes : d.Calm n → d.nat (Reg.AX14_SAT_FAULT n) = Reaction.ss1 ∨ d.nat (Reg.AX14_SAT_FAULT n) = Reaction.sto →
      x.FaultTaken n Code.SAT_FAULT (d.nat (Reg.AX14_SAT_FAULT n)) := fun calm strong => calm.loopFault hn (by decide) _ _ strong hx
  rw [← hx] at made
  clear hx fails
  have axisE : e.axis n = (x.axis n).putLev level { (x.axis n).lev level with failed := true } := by rw [made, Dev.modLevel, Dev.axis_modAxis]
  refine ⟨by rw [axisE, Axis.lev_putLev_same], by rw [made]; exact keeps.modAxis _ _,
    fun calm strong => (takes calm strong).congr ?_ (by rw [made]; rfl) fun k _ => by rw [made, Dev.modLevel, Dev.reg_modAxis]⟩
  rw [axisE]
  unfold Axis.putLev
  split <;> rfl

end

section
variable {s : State} (live : s.Live) {n level : Nat} (hn : n < 128) (hl : level < 4)
include live hn hl

theorem satWarn_warns (first : ((s.found.axis n).lev level).warned = false) (runs : ((s.found.axis n).lev level).run ≠ 0)
    (long : s.found.setting n (Reg.AX7_SAT_WARN_TICKS n) ≤ ((s.found.axis n).lev level).run) : Does (.satWarn n level) s fun b a =>
      (a.axis n).lev level = { (b.axis n).lev level with warned := true } ∧ a.nat (Reg.AX8_LAST_CODE n) = Code.SAT_WARN ∧
      a.LastRaised Code.SAT_WARN Kind.axis n ∧ b.Keeps a (.axes :: logParts) ∧ b.KeepsRegs a (Reg.AX8_LAST_CODE n :: logRegs) := by
  obtain ⟨e, made⟩ : ∃ e, e = s.found.satWarn n level := ⟨_, rfl⟩
  obtain ⟨warned, shown, raised, keeps, regs⟩ := Dev.satWarn_warns s.found hn hl first runs long made
  have leaves : Leaves (.satWarn n level) s e := .cell (guard := fun d => d.liveIf (n < 128 ∧ level < 4)) (fun d => d.satWarn n level)
    (live.passesIf ⟨hn, hl⟩) made.symm keeps
  exact leaves.does fun pend vecs => ⟨warned, shown, raised, keeps.step (Dev.keeps_told _ _ _), regs⟩

theorem satWarn_idle (no : ((s.found.axis n).lev level).warned = true ∨ ((s.found.axis n).lev level).run = 0 ∨
    (((s.found.axis n).lev level).run : Int) < s.found.setting n (Reg.AX7_SAT_WARN_TICKS n)) : Does (.satWarn n level) s fun b a => b.Keeps a [] := by
  refine Leaves.unchanged (.cell (guard := fun d => d.liveIf (n < 128 ∧ level < 4)) (fun d => d.satWarn n level) (live.passesIf ⟨hn, hl⟩)
    (if_neg fun ⟨_, first, runs, long⟩ => ?_) (Dev.Keeps.refl _ []))
  rcases no with told | none_ | short
  · rw [told] at first
    exact absurd first (by decide)
  · exact runs none_
  · omega

theorem satFault_fails (first : ((s.found.axis n).lev level).failed = false) (on : 0 < s.found.setting n (Reg.AX7_SAT_FAULT_TICKS n))
    (long : s.found.setting n (Reg.AX7_SAT_FAULT_TICKS n) ≤ ((s.found.axis n).lev level).run) : Does (.satFault n level) s fun b a =>
      ((a.axis n).lev level).failed = true ∧ (b.Calm n → b.nat (Reg.AX14_SAT_FAULT n) = Reaction.ss1 ∨ b.nat (Reg.AX14_SAT_FAULT n) = Reaction.sto →
        a.FaultTaken n Code.SAT_FAULT (b.nat (Reg.AX14_SAT_FAULT n))) := by
  obtain ⟨e, made⟩ : ∃ e, e = s.found.satFault n level := ⟨_, rfl⟩
  obtain ⟨failed, keeps, takes⟩ := Dev.satFault_fails s.found hn hl first on long made
  have leaves : Leaves (.satFault n level) s e := .cell (guard := fun d => d.liveIf (n < 128 ∧ level < 4)) (fun d => d.satFault n level)
    (live.passesIf ⟨hn, hl⟩) made.symm keeps
  exact leaves.does fun pend vecs => ⟨failed, fun calm strong => (takes calm strong).congr rfl rfl fun _ _ => rfl⟩

theorem satFault_idle (no : ((s.found.axis n).lev level).failed = true ∨ s.found.setting n (Reg.AX7_SAT_FAULT_TICKS n) ≤ 0 ∨
    (((s.found.axis n).lev level).run : Int) < s.found.setting n (Reg.AX7_SAT_FAULT_TICKS n)) : Does (.satFault n level) s fun b a => b.Keeps a [] := by
  refine Leaves.unchanged (.cell (guard := fun d => d.liveIf (n < 128 ∧ level < 4)) (fun d => d.satFault n level) (live.passesIf ⟨hn, hl⟩)
    (if_neg fun ⟨_, first, on, long⟩ => ?_) (Dev.Keeps.refl _ []))
  rcases no with told | none_ | short
  · rw [told] at first
    exact absurd first (by decide)
  · omega
  · omega

end

end Sys2Proof.Machine
end

section
/-! # Lanes: faults and the spare (R80 to R84, R91) -/

namespace Sys2Proof.Machine

section
variable {d e f : Dev} {lane : Nat}

/-! ## The entries of the lanes -/

/-- The entries of lanes in service, and of the lane of an axis. -/
def LaneReg (k : Nat) : Prop :=
  k = Reg.R2800_LANE_MAP ∨ k = Reg.R2800_SPARE_STATE ∨ k = Reg.R2800_LANE_FAULTS ∨ ∃ m < 128, k = Reg.AX8_LANE m

/-- The entries of lanes stand. -/
structure Dev.LanesStand (d e : Dev) : Prop where
  regs : ∀ k, LaneReg k → e.reg k = d.reg k
  keeps : d.Keeps e [.od, .axes, .log, .event, .flash, .health]
  eng : e.eng = d.eng

theorem Dev.LanesStand.refl (d : Dev) : d.LanesStand d := ⟨fun _ _ => rfl, Dev.Keeps.refl _ _, rfl⟩

theorem Dev.LanesStand.of_keeps {l : List Part} (h : d.LanesStand e) (g : e.Keeps f l) (regs : ∀ k, LaneReg k → f.reg k = e.reg k)
    (within : ∀ p ∈ l, p ∈ [Part.od, .axes, .log, .event, .flash, .health] := by decide) : d.LanesStand f := by
  have kept := g.mono within
  exact ⟨fun k own => (regs k own).trans (h.regs k own), h.keeps.andThen kept, (kept .eng (by decide)).trans h.eng⟩

theorem Dev.LanesStand.set (h : d.LanesStand e) {j : Nat} (v : Int) (apart : ¬LaneReg j) : d.LanesStand (e.set j v) :=
  h.of_keeps (e.keeps_set _ _) fun k own => Dev.reg_set_other _ _ (by rintro rfl; exact apart own)

theorem laneReg_place {k : Nat} (own : LaneReg k) : k / 256 = 0x2800 ∧ (k % 256 = 2 ∨ k % 256 = 3 ∨ k % 256 = 4) ∨
    k / 256 < 0x2800 ∧ 0x2008 ≤ k / 256 ∧ k / 256 % 16 = 8 ∧ k % 256 = 1 := by
  rcases own with rfl | rfl | rfl | ⟨m, low, rfl⟩
  · decide
  · decide
  · decide
  · simp only [Reg.AX8_LANE, Reg.key]
    omega

theorem laneReg_not_log {k : Nat} (own : LaneReg k) : k ∉ logRegs ∧ k ∉ errRegs := by
  have far : ∀ j ∈ logRegs ++ errRegs, j / 256 < 0x2000 ∨ 0x3000 ≤ j / 256 := by decide
  have place := laneReg_place own
  constructor
  · intro log
    have := far k (List.mem_append_left _ log)
    omega
  · intro log
    have := far k (List.mem_append_right _ log)
    omega

theorem Dev.LanesStand.raise (h : d.LanesStand e) (code kind subject reaction detail : Nat) : d.LanesStand (e.raise code kind subject reaction detail) :=
  h.of_keeps (Dev.keeps_raise _ _ _ _ _ _) fun _ own => Dev.reg_raise _ _ _ _ _ _ (laneReg_not_log own).1

theorem Dev.LanesStand.noted (h : d.LanesStand e) (g : e.ErrNotes f) : d.LanesStand f :=
  h.of_keeps g.keeps fun k own => g.regs k (laneReg_not_log own).2

theorem Dev.LanesStand.loopCode (h : d.LanesStand e) (m code : Nat) : d.LanesStand (e.loopCode m code) := by
  refine h.set _ fun own => ?_
  have place := laneReg_place own
  simp only [Reg.AX8_LAST_CODE, Reg.key] at place
  omega

theorem Dev.LanesStand.laneFigures (h : d.LanesStand e) : d.LanesStand e.laneFigures := by
  unfold Dev.laneFigures
  extract_lets k x
  have standX : d.LanesStand x := by
    refine Dev.LanesStand.set (.set h _ fun own => ?_) _ fun own => ?_
    · exact absurd (laneReg_place own) (by decide)
    · exact absurd (laneReg_place own) (by decide)
  clear_value x
  refine iterate_holds (fun f : Dev => d.LanesStand f) 5 _ (fun i hi f hf => ?_) standX
  refine hf.set _ fun own => ?_
  have place := laneReg_place own
  simp only [Reg.R2800_LANE_PEAK_0, Reg.key] at place
  omega

theorem unitOf_small (kind n : Nat) (hn : n < 17) : unitOf kind n < 128 := by
  unfold unitOf
  split_ifs <;> omega

theorem Dev.LanesStand.spareIn (h : d.LanesStand e) (kind n s : Nat) (small : n < 17) : d.LanesStand (e.spareIn kind n s) := by
  unfold Dev.spareIn
  extract_lets flashed entered logged low warned
  have entered' : d.LanesStand entered :=
    h.of_keeps (l := [.flash, .health]) (((e.keeps_setFlash _).mono (by decide)).step (Dev.keeps_setHealth _ _)) fun _ _ => rfl
  clear_value entered
  have logged' : d.LanesStand logged := entered'.noted (entered.errLog_notes _ _ _ _ _ _ _ rfl).1
  clear_value logged
  have warned' : d.LanesStand warned := by
    change d.LanesStand (if low = true then _ else _)
    split
    · have noted := logged'.noted (logged.errLog_notes Code.WEAR_RESERVE_LOW kind ErrClass.decision n 0xFFFF 0 s rfl).1
      unfold Dev.unitRaise
      split
      · exact noted.raise _ _ _ _ _
      · exact noted.raise _ _ _ _ _
    · exact logged'
  clear_value warned
  split
  · obtain ⟨keeps, regs⟩ := warned.showUnit_shows (unitOf kind n) rfl
    refine warned'.of_keeps keeps fun k own => regs k fun mem => ?_
    have place := laneReg_place own
    have bound := unitOf_small kind n small
    rw [List.mem_singleton.1 mem] at place
    simp only [Reg.R7080_STATE, Reg.key] at place
    omega
  · exact warned'

/-! ## A lane fails -/

theorem lane_types : odType Reg.R2800_LANE_MAP = .u8 ∧ odType Reg.R2800_LANE_FAULTS = .u32 ∧ odType Reg.R2800_SPARE_STATE = .u8 ∧
    ∀ m < 128, odType (Reg.AX8_LANE m) = .u8 := by decide +kernel

/-- The map of lanes with one set or cleared. -/
theorem Dev.bit_setLanes (d : Dev) (v : Nat) {l : Nat} (hl : l < 8) : (d.set Reg.R2800_LANE_MAP (v : Nat)).bit Reg.R2800_LANE_MAP l = v.testBit l := by
  rw [Dev.bit, Dev.nat, Dev.reg_set_same, lane_types.1, u8_wrap, Nat.testBit_mod_two_pow]
  simp [hl]

/-- The axes of a lane that fails, before the lane is taken out. -/
def Dev.dropAxes (d : Dev) (lane : Nat) : Dev :=
  let mine := (List.range 128).filter fun n => d.nat (Reg.AX8_LANE n) == lane
  let ran := d.eng.ranAt == some d.tickAbs
  each mine (fun n d =>
      let d := Dev.loopCode d n Code.LANE_FAULT
      match ran, (d.axis n).before with
      | true, [c, v, p, x] =>
        (d.modAxis n fun a => { a with cur := c, velL := v, posL := p, auxL := x, stale := a.staleWas }).repeatOutput n
      | true, _ => if (d.axis n).stale = 0 then d.repeatOutput n else d
      | false, _ => d) d

theorem Dev.dropAxes_stands (d : Dev) (lane : Nat) : d.LanesStand (d.dropAxes lane) := by
  unfold Dev.dropAxes
  extract_lets mine ran
  refine each_holds (fun f : Dev => d.LanesStand f) mine _ (fun m _ f hf => ?_) (.refl d)
  have told := hf.loopCode m Code.LANE_FAULT
  dsimp only
  generalize f.loopCode m Code.LANE_FAULT = g at *
  have axes : ∀ x : Axis → Axis, d.LanesStand (g.modAxis m x) := fun x => told.of_keeps (Dev.keeps_modAxis _ _ _) fun _ _ => rfl
  split
  · exact (axes _).of_keeps (Dev.keeps_modAxis _ _ _) fun _ _ => rfl
  · split
    · exact axes _
    · exact told
  · exact told

/-- What the fault of a lane leaves of the lanes. -/
structure Dev.LaneLost (d e : Dev) (lane : Nat) : Prop where
  map : ∀ l < 5, e.bit Reg.R2800_LANE_MAP l = (d.bit Reg.R2800_LANE_MAP l && l != lane)
  faults : e.nat Reg.R2800_LANE_FAULTS = min (d.nat Reg.R2800_LANE_FAULTS + 1) 0xFFFFFFFF
  keeps : d.Keeps e [.od, .axes, .log, .event, .flash, .health, .eng]

theorem Dev.LaneLost.stands (h : d.LaneLost e lane) (g : e.LanesStand f) : d.LaneLost f lane where
  map := fun l hl => by rw [← h.map l hl, Dev.bit, Dev.bit, Dev.nat, Dev.nat, g.regs _ (.inl rfl)]
  faults := by rw [← h.faults, Dev.nat, Dev.nat, g.regs _ (.inr (.inr (.inl rfl)))]
  keeps := h.keeps.step g.keeps

/-- The lane taken out of the map, and its fault counted. -/
theorem Dev.takeOut_loses (h : d.LanesStand e) (x : Engine) {f : Dev} (engine : f = { e with eng := x }) :
    d.LaneLost ((f.set Reg.R2800_LANE_MAP (withBit (f.nat Reg.R2800_LANE_MAP) lane false : Nat)).count Reg.R2800_LANE_FAULTS) lane := by
  have keepsF : e.Keeps f [.eng] := by
    rw [engine]
    intro p hp
    cases p with
    | eng => simp at hp
    | _ => rfl
  have regs : ∀ k, LaneReg k → f.reg k = d.reg k := fun k own => (Dev.reg_congr (keepsF .od (by decide)) k).trans (h.regs k own)
  have keeps : d.Keeps f [.od, .axes, .log, .event, .flash, .health, .eng] := (h.keeps.mono (by decide)).step keepsF
  clear engine keepsF
  obtain ⟨g, hg⟩ : ∃ g, g = f.set Reg.R2800_LANE_MAP (withBit (f.nat Reg.R2800_LANE_MAP) lane false : Nat) := ⟨_, rfl⟩
  rw [← hg]
  refine ⟨fun l hl => ?_, ?_, ?_⟩
  · have cleared : g.bit Reg.R2800_LANE_MAP l = (withBit (f.nat Reg.R2800_LANE_MAP) lane false).testBit l := by
      rw [hg]
      exact f.bit_setLanes _ (by omega)
    rw [Dev.bit, Dev.nat, Dev.count, Dev.reg_set_other _ _ (by decide), ← Dev.nat, ← Dev.bit, cleared, testBit_withBit, Dev.bit, Dev.nat, Dev.nat,
      regs _ (.inl rfl)]
    by_cases own : l = lane
    · simp [own]
    · simp [own]
  · have same : g.nat Reg.R2800_LANE_FAULTS = d.nat Reg.R2800_LANE_FAULTS := by
      rw [hg, Dev.nat, Dev.reg_set_other _ _ (by decide), regs _ (.inr (.inr (.inl rfl))), ← Dev.nat]
    rw [Dev.nat_count_same g lane_types.2.1, same]
  · have keepsG : d.Keeps g [.od, .axes, .log, .event, .flash, .health, .eng] := by rw [hg]; exact keeps.set _ _
    exact keepsG.set _ _

theorem Dev.laneFault_loses (d : Dev) (hl : lane < 5) (on : d.bit Reg.R2800_LANE_MAP lane = true) (made : e = d.laneFault lane) :
    d.LaneLost e lane ∧ e.LastRaised Code.LANE_FAULT Kind.unit (26 + lane) := by
  unfold Dev.laneFault at made
  rw [if_neg (by omega), if_pos on] at made
  extract_lets mine ran dropped spare eng marked counted shown at made
  have stands : d.LanesStand dropped := d.dropAxes_stands lane
  clear_value dropped
  have lost : d.LaneLost counted lane := Dev.takeOut_loses stands _ rfl
  clear_value counted marked
  have lostS : d.LaneLost shown lane := by
    show d.LaneLost (counted.when _ _) lane
    unfold Dev.when
    split
    · refine ⟨fun l low => ?_, ?_, lost.keeps.set _ _⟩
      · rw [← lost.map l low, Dev.bit, Dev.bit, Dev.nat, Dev.nat, Dev.reg_set_other _ _ (by decide)]
      · rw [← lost.faults, Dev.nat, Dev.nat, Dev.reg_set_other _ _ (by decide)]
    · exact lost
  clear_value shown
  have lostF := lostS.stands (Dev.LanesStand.refl shown).laneFigures
  rw [made]
  exact ⟨lostF.stands ((Dev.LanesStand.refl _).raise _ _ _ _ _), Dev.lastRaised_raise _ _ _ _ _ _⟩

end

section
variable {s : State} (live : s.Live) {lane : Nat} (hl : lane < 5)
include live hl

theorem laneFault_loses (on : s.found.bit Reg.R2800_LANE_MAP lane = true) (other : ∃ l < 5, l ≠ lane ∧ s.found.bit Reg.R2800_LANE_MAP l = true) :
    Does (.laneFault lane) s fun b a => (∀ l < 5, a.bit Reg.R2800_LANE_MAP l = (b.bit Reg.R2800_LANE_MAP l && l != lane)) ∧
      a.LastRaised Code.LANE_FAULT Kind.unit (26 + lane) ∧ a.nat Reg.R2800_LANE_FAULTS = min (b.nat Reg.R2800_LANE_FAULTS + 1) 0xFFFFFFFF := by
  obtain ⟨e, made⟩ : ∃ e, e = s.found.laneFault lane := ⟨_, rfl⟩
  obtain ⟨⟨map, faults, keeps⟩, raised⟩ := Dev.laneFault_loses s.found hl on made
  obtain ⟨l, low, far, works⟩ := other
  have left : e.nat Reg.R2800_LANE_MAP ≠ 0 := fun none_ => by
    have still := map l low
    rw [works, Bool.true_and, bne_iff_ne.2 far, Dev.bit, none_, Nat.zero_testBit] at still
    exact absurd still (by decide)
  have unit : s.found.laneFaultUnit lane = e := by
    unfold Dev.laneFaultUnit
    extract_lets had x
    have eqX : x = e := made.symm
    clear_value x
    subst eqX
    exact Dev.when_off _ (by rw [beq_eq_false_iff_ne.2 left, Bool.and_false])
  have leaves : Leaves (.laneFault lane) s e := .dry (guard := fun d => d.liveIf (lane < 8)) (fun d => d.laneFaultUnit lane) (live.passesIf (by omega)) unit keeps
  exact leaves.does fun _ _ => ⟨map, raised, faults⟩

theorem laneFault_idle (off : s.found.bit Reg.R2800_LANE_MAP lane = false) (far : lane ≠ 4) : Does (.laneFault lane) s fun b a => b.Keeps a [] := by
  have same : s.found.laneFault lane = s.found := by
    unfold Dev.laneFault
    rw [if_neg (by omega), if_neg (by rw [off]; decide), if_neg fun is => far is.1]
  refine Leaves.unchanged (.dry (guard := fun d => d.liveIf (lane < 8)) (fun d => d.laneFaultUnit lane) (live.passesIf (by omega)) ?_ (Dev.Keeps.refl _ []))
  show s.found.laneFaultUnit lane = s.found
  unfold Dev.laneFaultUnit
  rw [same]
  refine Dev.when_off _ ?_
  by_cases none_ : s.found.nat Reg.R2800_LANE_MAP = 0
  · simp [none_]
  · simp [none_]

end

end Sys2Proof.Machine
end

section
/-! # The spare lane, and the runs of the control engine (R31, R52 to R91) -/

namespace Sys2Proof.Machine

section
variable {d e f : Dev} {lane : Nat}

/-- The axes of a lane moved to the spare. -/
def Dev.moveAxes (d : Dev) (lane : Nat) : Dev :=
  iterate 128 (fun n d => Dev.when d (d.nat (Reg.AX8_LANE n) == lane) fun d => d.set (Reg.AX8_LANE n) 4) d

theorem Dev.moveAxes_moves (d : Dev) (far : lane ≠ 4) : (∀ m < 128, (d.moveAxes lane).nat (Reg.AX8_LANE m) ≠ lane) ∧ d.Keeps (d.moveAxes lane) [.od] ∧
    (d.moveAxes lane).reg Reg.R2800_LANE_MAP = d.reg Reg.R2800_LANE_MAP := by
  have view : ∀ (n : Nat) (f : Dev), n < 128 → ((f.when (f.nat (Reg.AX8_LANE n) == lane) fun d => d.set (Reg.AX8_LANE n) 4).nat (Reg.AX8_LANE n) ≠ lane) ∧
      ∀ k, k ≠ Reg.AX8_LANE n → (f.when (f.nat (Reg.AX8_LANE n) == lane) fun d => d.set (Reg.AX8_LANE n) 4).reg k = f.reg k := fun n f hn => by
    by_cases own : f.nat (Reg.AX8_LANE n) = lane
    · rw [Dev.when_on _ (beq_iff_eq.2 own)]
      refine ⟨?_, fun k hk => Dev.reg_set_other _ _ hk⟩
      have four : (f.set (Reg.AX8_LANE n) 4).nat (Reg.AX8_LANE n) = 4 := Dev.nat_set_same (n := 4) _ (lane_types.2.2.2 n hn) rfl (by decide)
      rw [four]
      exact Ne.symm far
    · rw [Dev.when_off _ (beq_eq_false_iff_ne.2 own)]
      exact ⟨own, fun _ _ => rfl⟩
  refine ⟨fun m hm => ?_, ?_, ?_⟩
  · refine each_reaches (fun _ : Dev => True) (fun f : Dev => f.nat (Reg.AX8_LANE m) ≠ lane) (x := m) (List.mem_range.2 hm) (fun _ _ _ _ => trivial)
      (fun n hn f _ stays => ?_) (fun f _ => (view m f hm).1) trivial
    by_cases own : m = n
    · subst own
      exact (view m f hm).1
    · have same := (view n f (List.mem_range.1 hn)).2 (Reg.AX8_LANE m) (by simp only [Reg.AX8_LANE, Reg.key]; omega)
      rwa [Dev.nat, same]
  · refine Dev.Keeps.iterate _ _ (fun n f => ?_) d
    exact Dev.Keeps.when _ _ (f.keeps_set (Reg.AX8_LANE n) 4)
  · refine iterate_holds (fun f : Dev => f.reg Reg.R2800_LANE_MAP = d.reg Reg.R2800_LANE_MAP) 128 _ (fun n hn f hf => ?_) rfl
    refine ((view n f hn).2 _ ?_).trans hf
    simp only [Reg.AX8_LANE, Reg.R2800_LANE_MAP, Reg.key]
    omega

/-- What the spare in a lane's place leaves. -/
structure Dev.LaneSpared (d e : Dev) (lane : Nat) : Prop where
  off : e.bit Reg.R2800_LANE_MAP lane = false
  on : e.bit Reg.R2800_LANE_MAP 4 = true
  state : e.nat Reg.R2800_SPARE_STATE = 3
  moved : ∀ m < 128, e.nat (Reg.AX8_LANE m) ≠ lane
  keeps : d.Keeps e [.od, .axes, .log, .event, .flash, .health, .eng]

theorem Dev.LaneSpared.stands (h : d.LaneSpared e lane) (g : ∀ k, LaneReg k → f.reg k = e.reg k)
    (keeps : e.Keeps f [.od, .axes, .log, .event, .flash, .health, .eng]) : d.LaneSpared f lane where
  off := by rw [← h.off, Dev.bit, Dev.bit, Dev.nat, Dev.nat, g _ (.inl rfl)]
  on := by rw [← h.on, Dev.bit, Dev.bit, Dev.nat, Dev.nat, g _ (.inl rfl)]
  state := by rw [← h.state, Dev.nat, Dev.nat, g _ (.inr (.inl rfl))]
  moved := fun m hm => by
    rw [Dev.nat, g _ (.inr (.inr (.inr ⟨m, hm, rfl⟩))), ← Dev.nat]
    exact h.moved m hm
  keeps := h.keeps.andThen keeps

theorem Dev.bringSpare_spares (d : Dev) (hl : lane < 5) (far : lane ≠ 4) (made : e = d.bringSpare lane) : d.LaneSpared e lane := by
  unfold Dev.bringSpare at made
  extract_lets moved mapped shown at made
  obtain ⟨away, keepsM, -⟩ := d.moveAxes_moves far
  have eqM : moved = d.moveAxes lane := rfl
  rw [← eqM] at away keepsM
  clear_value moved
  have bits : ∀ l < 8, mapped.bit Reg.R2800_LANE_MAP l = (withBit (withBit (moved.nat Reg.R2800_LANE_MAP) lane false) 4 true).testBit l := fun l low =>
    moved.bit_setLanes _ low
  have sets : mapped = moved.set Reg.R2800_LANE_MAP (withBit (withBit (moved.nat Reg.R2800_LANE_MAP) lane false) 4 true : Nat) := rfl
  clear_value mapped
  obtain ⟨x, hx⟩ : ∃ x, x = mapped.set Reg.R2800_SPARE_STATE 3 := ⟨_, rfl⟩
  have eqS : shown = x.laneFigures := by rw [hx]
  clear_value shown
  have bitX : ∀ l, x.bit Reg.R2800_LANE_MAP l = mapped.bit Reg.R2800_LANE_MAP l := fun l => by
    rw [hx, Dev.bit, Dev.nat, Dev.reg_set_other _ _ (by decide), ← Dev.nat, ← Dev.bit]
  have spared : d.LaneSpared x lane := by
    refine ⟨?_, ?_, ?_, fun m hm => ?_, ?_⟩
    · rw [bitX, bits lane (by omega), testBit_withBit, if_neg far, testBit_withBit, if_pos rfl]
    · rw [bitX, bits 4 (by decide), testBit_withBit, if_pos rfl]
    · rw [hx]
      exact Dev.nat_set_same (n := 3) _ lane_types.2.2.1 rfl (by decide)
    · have apart : Reg.AX8_LANE m ≠ Reg.R2800_SPARE_STATE ∧ Reg.AX8_LANE m ≠ Reg.R2800_LANE_MAP := by
        simp only [Reg.AX8_LANE, Reg.R2800_SPARE_STATE, Reg.R2800_LANE_MAP, Reg.key]
        omega
      rw [hx, sets, Dev.nat, Dev.reg_set_other _ _ apart.1, Dev.reg_set_other _ _ apart.2, ← Dev.nat]
      exact away m hm
    · rw [hx, sets]
      exact ((keepsM.mono (by decide)).set _ _).set _ _
  have stands : x.LanesStand e := by
    rw [made, eqS]
    exact ((Dev.LanesStand.refl x).laneFigures).raise _ _ _ _ _
  exact spared.stands stands.regs (stands.keeps.mono (by decide))

theorem Dev.laneSpared_idle (late : d.clk.tick ≠ 0) : d.laneSpared lane = d := by
  unfold Dev.laneSpared
  exact if_neg fun ⟨_, tick, _⟩ => late tick

end

section
variable {s : State} (live : s.Live) {lane : Nat} (hl : lane < 5)
include live hl

theorem laneSpared_idle (late : s.found.clk.tick ≠ 0) : Does (.laneSpared lane) s fun b a => b.Keeps a [] := by
  refine Leaves.unchanged (.dry (guard := fun d => d.liveIf (lane < 8)) (fun d => d.laneSparedUnit lane) (live.passesIf (by omega)) ?_ (Dev.Keeps.refl _ []))
  show s.found.laneSparedUnit lane = s.found
  unfold Dev.laneSparedUnit
  rw [Dev.laneSpared_idle late]
  exact if_neg fun ⟨is, no⟩ => no is

theorem laneSpared_spares {c : Nat} (failed : s.found.eng.failed = some (lane, c)) (due : c + 2 ≤ s.found.clk.cycle64) (tick : s.found.clk.tick = 0)
    (free : s.found.nat Reg.R2800_SPARE_STATE < 3) (far : lane ≠ 4) : Does (.laneSpared lane) s fun _ a =>
      a.bit Reg.R2800_LANE_MAP lane = false ∧ a.bit Reg.R2800_LANE_MAP 4 = true ∧ a.nat Reg.R2800_SPARE_STATE = 3 ∧
      a.eng.failed = none ∧ a.eng.retire = none ∧ ∀ m < 128, a.nat (Reg.AX8_LANE m) ≠ lane := by
  obtain ⟨x, hx⟩ : ∃ x, x = s.found.bringSpare lane := ⟨_, rfl⟩
  have sparedX := Dev.bringSpare_spares s.found hl far hx
  obtain ⟨y, hy⟩ : ∃ y, y = { x with eng := { s.found.eng with failed := none, retire := none } } := ⟨_, rfl⟩
  have keepsY : x.Keeps y [.eng] := by
    rw [hy]
    intro p hp
    cases p with
    | eng => simp at hp
    | _ => rfl
  have engY : y.eng.failed = none ∧ y.eng.retire = none := by rw [hy]; exact ⟨rfl, rfl⟩
  have spares : s.found.laneSpared lane = y := by
    unfold Dev.laneSpared
    extract_lets due'
    have is : due' = true := by
      show (_ || _) = true
      rw [failed]
      show ((lane == lane && decide (c + 2 ≤ s.found.clk.cycle64)) || _) = true
      rw [decide_eq_true due, beq_self_eq_true]
      rfl
    rw [if_pos ⟨is, tick, free⟩, hy, hx]
  have sparedY : s.found.LaneSpared y lane := sparedX.stands (fun k _ => Dev.reg_congr (keepsY .od (by decide)) k) (keepsY.mono (by decide))
  clear hy keepsY
  obtain ⟨e, made⟩ : ∃ e, e = y.spareIn UKind.lane lane 4 := ⟨_, rfl⟩
  have stands : y.LanesStand e := by
    rw [made]
    exact (Dev.LanesStand.refl y).spareIn _ _ _ (by omega)
  have unit : s.found.laneSparedUnit lane = e := by
    unfold Dev.laneSparedUnit
    rw [spares, made]
    exact if_pos ⟨sparedY.state, by omega⟩
  obtain ⟨off, on, state, moved, keeps⟩ := sparedY.stands stands.regs (stands.keeps.mono (by decide))
  have leaves : Leaves (.laneSpared lane) s e := .dry (guard := fun d => d.liveIf (lane < 8)) (fun d => d.laneSparedUnit lane) (live.passesIf (by omega)) unit keeps
  have failedE : e.eng.failed = none := by rw [stands.eng, engY.1]
  have retireE : e.eng.retire = none := by rw [stands.eng, engY.2]
  exact leaves.does fun _ _ => ⟨off, on, state, failedE, retireE, moved⟩

end

/-- Settles O29: the run switches the images and evaluates within the lanes; late axes, lost and frozen feedback and saturation take their
reactions; a failed lane leaves the map and the spare takes its place. -/
theorem controlRuns : Obligations.ControlRuns := by
  unfold Obligations.ControlRuns
  refine ⟨fun s live => ?_, fun n level lane s live hn hlevel hlane => ?_⟩
  · have calm : ∀ {n r : Nat}, n < 128 ∧ s.found.axState n = AxState.moving ∧ (s.found.axis n).reactNow = 0 ∧ s.found.chainOf n = none ∧
        s.found.injectedAxis n = false ∧ (r = Reaction.qstop ∨ r = Reaction.ss1) → s.found.Calm n := fun ⟨_, moving, quiet, free, still, _⟩ =>
      ⟨moving, quiet, free, still⟩
    have strikes : ∀ {b a : Dev} {n code r : Nat}, b.Strikes a n code r → a.axState n = AxState.stopping ∧ (a.axis n).cause = code ∧
        (a.axis n).motion = .ramp ∧ (a.axis n).reactNow = r ∧ a.reg (Reg.AX5_SETPOINT n) = b.reg (Reg.AX5_SETPOINT n) ∧ a.LastRaised code Kind.axis n :=
      fun h => ⟨h.state, h.cause, h.motion, h.now, h.setpoint, h.raised⟩
    have counts : ∀ {b a : Dev} {code counter : Nat}, b.Counts a code counter → a.bit Reg.R1101_OVERRUN_FLAGS (code - 0x1001) = true ∧
        a.nat counter = min (b.nat counter + 1) 0xFFFFFFFF ∧ a.reg Reg.R1101_LAST_CYCLE = (odType Reg.R1101_LAST_CYCLE).wrap b.cycle ∧
        a.reg Reg.R1101_LAST_TICK = (odType Reg.R1101_LAST_TICK).wrap b.clk.tick := fun h => ⟨h.flag, h.count, h.cycle, h.tick⟩
    refine ⟨fun may => controlEngineRun_takes live may, fun no => controlEngineRun_idle live no,
      fun n hn may evals alone up inner two three direct lanes load gen ff interp src bump old =>
        controlEngineRun_evaluates live hn may evals alone up inner two three direct lanes load gen ff interp src bump old,
      fun none_ => profileOverrun_idle live none_,
      fun late => (profileOverrun_counts live late).mono fun a ⟨none_, h⟩ => ⟨none_, counts h⟩,
      fun n late one => (profileOverrun_strikes live late one.1 (calm one) one.2.2.2.2.2).mono fun a h => strikes h,
      fun ran none_ => controlOverrun_idle live ran none_,
      fun ran late => (controlOverrun_counts live ran late).mono fun a ⟨none_, h⟩ => ⟨none_, counts h⟩,
      fun n ran late one => (controlOverrun_strikes live ran late one.1 (calm one) one.2.2.2.2.2).mono fun a h => strikes h,
      fun n no one evals load alone => (controlOverrun_unrun live no one.1 (calm one) one.2.2.2.2.2 evals load alone).mono
        fun a ⟨h, stale, c⟩ => ⟨strikes h, stale, counts c⟩⟩
  · have calm : s.found.axState n = AxState.moving ∧ (s.found.axis n).reactNow = 0 ∧ s.found.chainOf n = none ∧ s.found.injectedAxis n = false →
        s.found.Calm n := fun ⟨moving, quiet, free, still⟩ => ⟨moving, quiet, free, still⟩
    have takes : ∀ {a : Dev} {code r : Nat}, a.FaultTaken n code r → a.axState n = (if r = Reaction.sto then AxState.fault else AxState.stopping) ∧
        a.reg (Reg.AX1_REACTION n) = r ∧ (a.axis n).cause = code ∧ a.nat (Reg.AX8_LAST_CODE n) = code ∧ a.LastRaised code Kind.axis n :=
      fun h => ⟨h.state, h.reaction, h.cause, h.shown, h.raised⟩
    refine ⟨fun ch hch loses alone quiet => (feedbackLost_takes live hn hch loses alone (calm quiet)).mono
        fun a ⟨lost, shown, h⟩ => ⟨lost, shown, fun strong => takes (h strong)⟩,
      fun no => feedbackLost_idle live hn no, fun l hl freezes => feedbackFrozen_told live hn hl freezes,
      fun l hl freezes alone quiet => (feedbackFrozen_takes live hn hl freezes alone (calm quiet)).mono fun a h strong => takes (h strong),
      fun no => feedbackFrozen_idle live hn no, fun first runs long => satWarn_warns live hn hlevel first runs long,
      fun no => satWarn_idle live hn hlevel no,
      fun first on long => (satFault_fails live hn hlevel first on long).mono fun a ⟨failed, h⟩ => ⟨failed, fun quiet strong => takes (h (calm quiet) strong)⟩,
      fun no => satFault_idle live hn hlevel no, fun on other => laneFault_loses live hlane on other, fun off far => laneFault_idle live hlane off far,
      fun c failed due tick free far => laneSpared_spares live hlane failed due tick free far, fun late => laneSpared_idle live hlane late⟩

end Sys2Proof.Machine
end

end
